-- ==== Sys2Proof/Word.lean ====
section
/-! DEFINITION. The word type of the registers and its plainest arithmetic (spec 00_scope.md, R5: registers are 32 bits
wide and little-endian). -/

namespace Sys2Proof

/-- A register word: 32 bits (R5). -/
abbrev Word := BitVec 32

/-- One byte. -/
abbrev Byte := BitVec 8

/-- A binary32 value held as its 32 bits. -/
abbrev F32 := BitVec 32

/-- One 64-byte line of a Trellis data SRAM (R100), byte 0 in bits [7:0]. -/
abbrev Line := BitVec 512

end Sys2Proof
end

