-- ==== Sys2Proof/Machine/Bits.lean ====
section
/-! DEFINITION. Bit fields of words, the access codes (R7), the shape of a register map row, and the sparse tables
that hold registers, memories and per-channel records in one canonical form. -/

namespace Sys2Proof.Machine

/-- The access codes of R7. -/
inductive Access where
  | ro | rw | w1c | w1s | rc | wo | rwl
deriving DecidableEq, Repr

/-- One field of a register map row: bits [hi:lo], access code and reset value. -/
structure RegField where
  hi : Nat
  lo : Nat
  acc : Access
  rst : Nat
deriving DecidableEq, Repr

/-- One row of the register map: `n1` elements `s1` bytes apart, each of `n2` words `s2` bytes apart. `ramp` is 0, or
the divisor that turns the element index into the number added to the reset value (R252 SN_FLOWSRC, R182 QUEUE). -/
structure RegRow where
  name : String
  base : Nat
  n1 : Nat
  s1 : Nat
  n2 : Nat
  s2 : Nat
  ramp : Nat
  fields : List RegField
deriving DecidableEq, Repr

/-- A field of one register: its hub address and bits [hi:lo]. -/
structure RF where
  addr : Nat
  hi : Nat
  lo : Nat
deriving DecidableEq, Repr

/-- Bits [hi:lo] of a number. -/
def bitsOf (w hi lo : Nat) : Nat := w / 2 ^ lo % 2 ^ (hi + 1 - lo)

/-- A number with bits [hi:lo] replaced by the low bits of `v`. -/
def withBits (w hi lo v : Nat) : Nat :=
  w - bitsOf w hi lo * 2 ^ lo + v % 2 ^ (hi + 1 - lo) * 2 ^ lo

/-- Bit `i` of a number. -/
def bitOf (w i : Nat) : Bool := w / 2 ^ i % 2 == 1

/-- A Bool as a bit. -/
def b2n (b : Bool) : Nat := if b then 1 else 0

/-- The signed value of the low `n` bits of a number. -/
def signedOf (n w : Nat) : Int :=
  let v := w % 2 ^ n
  if v < 2 ^ (n - 1) then (v : Int) else (v : Int) - 2 ^ n

/-- The low `n` bits of an integer in two's complement. -/
def wrapInt (n : Nat) (i : Int) : Nat := (i % (2 ^ n : Nat)).toNat

/-- An integer kept within limits. -/
def clampInt (lo hi i : Int) : Int := if i < lo then lo else if hi < i then hi else i

/-- A number kept within limits. -/
def clampNat (lo hi n : Nat) : Nat := if n < lo then lo else if hi < n then hi else n

/-- The number of set bits among the low `n`. -/
def popCount : Nat → Nat → Nat
  | 0, _ => 0
  | n + 1, w => w % 2 + popCount n (w / 2)

/-- The position of the lowest set bit among the low `n`, if any. -/
def lowBit? : Nat → Nat → Option Nat
  | 0, _ => none
  | n + 1, w => if w % 2 = 1 then some 0 else (lowBit? n (w / 2)).map (· + 1)

/-- A sparse table: pairs of key and value, keys strictly rising. -/
abbrev Table (α : Type) := List (Nat × α)

/-- The value listed at a key, if any. -/
def tfind {α : Type} : Table α → Nat → Option α
  | [], _ => none
  | (a, v) :: t, k => if a = k then some v else tfind t k

/-- The table with the key unlisted. -/
def terase {α : Type} : Table α → Nat → Table α
  | [], _ => []
  | (a, v) :: t, k => if a = k then t else (a, v) :: terase t k

/-- The table with the key listed at the value, kept in rising order. -/
def tinsert {α : Type} : Table α → Nat → α → Table α
  | [], k, v => [(k, v)]
  | (a, w) :: t, k, v =>
    if k < a then (k, v) :: (a, w) :: t
    else if a = k then (k, v) :: t
    else (a, w) :: tinsert t k v

/-- The value at a key, the default `d` where unlisted. -/
def tget {α : Type} (d : α) (t : Table α) (k : Nat) : α := (tfind t k).getD d

/-- The table with the value at a key: a value equal to the default is unlisted. -/
def tset {α : Type} [DecidableEq α] (d : α) (t : Table α) (k : Nat) (v : α) : Table α :=
  if v = d then terase t k else tinsert t k v

/-- Keys strictly rising, all above `b`. -/
def tsortedFrom {α : Type} : Nat → Table α → Bool
  | _, [] => true
  | b, (a, _) :: t => decide (b ≤ a) && tsortedFrom (a + 1) t

/-- The canonical form of a sparse table whose unlisted key `k` reads as `d k`: keys strictly rising, and no entry
equal to what its unlisted key reads as. -/
def twf {α : Type} [DecidableEq α] (d : Nat → α) (t : Table α) : Bool :=
  tsortedFrom 0 t && t.all fun p => !decide (p.2 = d p.1)

/-- A list with element `i` replaced (unchanged where there is none). -/
def lset {α : Type} (l : List α) (i : Nat) (v : α) : List α := l.set i v

/-- The numbers 0 to n − 1. -/
def upto (n : Nat) : List Nat := List.range n

/-- An exact nonnegative fraction num / den. -/
structure Frac where
  num : Nat := 0
  den : Nat := 1
deriving DecidableEq, Repr

/-- A fraction in lowest terms. -/
def fracMk (n d : Nat) : Frac :=
  let g := Nat.gcd n d
  if g = 0 then ⟨0, 1⟩ else ⟨n / g, d / g⟩

/-- A whole number as a fraction. -/
def fracNat (n : Nat) : Frac := ⟨n, 1⟩

/-- The fraction rounded down. -/
def fracFloor (a : Frac) : Nat := a.num / a.den

/-- a < b. -/
def fracLt (a b : Frac) : Bool := decide (a.num * b.den < b.num * a.den)

/-- a − b, or 0 where b is larger. -/
def fracSub (a b : Frac) : Frac := fracMk (a.num * b.den - b.num * a.den) (a.den * b.den)

/-- The smaller of two fractions. -/
def fracMin (a b : Frac) : Frac := if fracLt b a then b else a

/-- The larger of two fractions. -/
def fracMax (a b : Frac) : Frac := if fracLt a b then b else a

/-- a × n / d. -/
def fracScale (a : Frac) (n d : Nat) : Frac := fracMk (a.num * n) (a.den * d)

/-- The low `n` bytes of a number, least significant first. -/
def leBytes : Nat → Nat → List Byte
  | 0, _ => []
  | n + 1, v => BitVec.ofNat 8 v :: leBytes n (v / 256)

/-- The number whose bytes, least significant first, are given. -/
def leNat : List Byte → Nat
  | [] => 0
  | b :: bs => b.toNat + 256 * leNat bs

/-- `n` bytes of a list from an offset, as a little-endian number (missing bytes 0). -/
def fieldLE (l : List Byte) (off n : Nat) : Nat := leNat ((l.drop off).take n)

/-- `n` zero bytes. -/
def zeros (n : Nat) : List Byte := List.replicate n 0

/-- Eight steps of the reflected CRC-32C (Castagnoli) shift. -/
def crcShift : Nat → Nat → Nat
  | 0, c => c
  | n + 1, c => crcShift n (if c % 2 = 1 then (c / 2) ^^^ 0x82F63B78 else c / 2)

/-- The CRC-32C register after a byte string. -/
def crcFeed : List Byte → Nat → Nat
  | [], c => c
  | b :: bs, c => crcFeed bs (crcShift 8 (c ^^^ b.toNat))

/-- CRC-32C with initial value 0xFFFF_FFFF and final inversion (R164, R391). -/
def crc32c (l : List Byte) : Nat := crcFeed l 0xFFFFFFFF ^^^ 0xFFFFFFFF

/-- Bytes padded with zeros, or cut, to a length. -/
def padTo (n : Nat) (l : List Byte) : List Byte := (l ++ zeros n).take n

end Sys2Proof.Machine
end

