-- ==== Sys2Proof/Machine/Records.lean ====
section
/-! DEFINITION. The records that State keeps beside the registers for one slot, one context, one channel and one rack, and
the lines in which a resynchronization copies them (R337). -/

namespace Sys2Proof.Machine

/-- The kinds of cap record (R164). -/
inductive CapKind where
  | cap | renew | emergency | release
deriving DecidableEq, Repr

/-- One cap record held unsent or in flight (R164, R165). -/
structure CapRec where
  kind : CapKind
  cap : Nat
  fallback : Nat
  lease : Nat
  immediate : Bool
  brake : Bool
  rack : Nat
  /-- The frame number in which the record was queued. -/
  epoch : Nat
  /-- The timebase count at which the record was queued. -/
  queuedAt : Nat
  /-- Failed writes of this record (R166). -/
  failures : Nat
deriving DecidableEq, Repr

/-- A write in flight (R165): the record, when the write started, when its lease ends. -/
structure CapFlight where
  rcd : CapRec
  started : Nat
deriving DecidableEq, Repr

/-- A ceiling and its fall, held exactly (R161). -/
structure Ceiling where
  /-- The ceiling's present value in W (R161). -/
  val : Frac := {}
  /-- The value it moves to, in W. -/
  target : Nat := 0
  /-- The value its slew started from, in W. -/
  rbase : Frac := {}
  /-- The change under way lowers it. -/
  falling : Bool := false
  /-- The change under way is applied at once (R161). -/
  immediate : Bool := false
deriving DecidableEq, Repr

/-- The broker's state of one context beside its register entry. -/
structure PbCtx where
  /-- The record queued and not yet sent (R17, R165). -/
  unsent : Option CapRec := none
  /-- The record being written (R165). -/
  flight : Option CapFlight := none
  /-- The ceiling of the context itself (R161). -/
  ceil : Ceiling := {}
  /-- The demand of the last completed sample, in W (R159). -/
  demand : Nat := 0
  /-- The margin that orders the context's records (R172), binary32. -/
  margin : F32 := 0
  /-- A record has been sent to the context since CONTEXT_ADD. -/
  everSent : Bool := false
  /-- Lease end of the last completed record (R180). -/
  leaseEnd : Option Nat := none
  /-- The epoch of the last completed record. -/
  lastEpoch : Nat := 0
  /-- Write errors since CONTEXT_ADD (R180). -/
  errors : Nat := 0
  /-- Reported power has been above the confirmed cap since (R171). -/
  overSince : Option Nat := none
  /-- The context is to be admitted at the next frame boundary (R154). -/
  admitDue : Bool := false
  /-- The first record waits for the first frame in which the slot is released (R154). -/
  firstDue : Bool := false
  /-- The chain limits LOOP_SET has set: bits UMIN, UMAX, UMIN1, UMAX1 (R154). -/
  limitsSet : Nat := 0
  /-- An IMMEDIATE cut has lowered the grant and the cap has not yet come down to it (R164). -/
  cut : Bool := false
deriving DecidableEq, Repr

/-- The engine's state of one slot beside its descriptor. -/
structure LSlot where
  /-- The last mapped output of chain 0 (out of R37). -/
  out : F32 := 0
  /-- The chains have produced an output (R39). -/
  has0 : Bool := false
  /-- Chain 1 has produced an output (R39). -/
  has1 : Bool := false
  /-- upre of chain 1 at the last sample. -/
  upre1 : F32 := 0
  /-- The chains are slewing (R50). -/
  slew0 : Bool := false
  /-- Chain 1 is slewing (R50). -/
  slew1 : Bool := false
  /-- A hand-over is due at the next executed sample (R35, R49). -/
  handDue : Bool := false
  /-- A released sample waits: its release and its deadline (R31). -/
  release : Option (Nat × Nat) := none
  /-- The waiting sample is in the ready set (R32, R33). -/
  ready : Bool := false
  /-- The waiting sample has been requeued once (R30). -/
  retried : Bool := false
  /-- The prediction of this frame's telemetry has arrived (R33). -/
  predNow : Bool := false
  /-- Consecutive frames with a prediction of age 0 (R41). -/
  fresh : Nat := 0
  /-- The last executed source of y: 0 primary, 1 partner, 2 virtual, 3 table (R65 FB_STATE). -/
  lastSrc : Nat := 0
  /-- The raw codes of elements A and B at the last sample, and how often in a row (R45). -/
  codeA : Nat := 0
  /-- How often in a row element A gave the same raw code (R45). -/
  sameA : Nat := 0
  /-- The raw code of element B at the last sample (R45). -/
  codeB : Nat := 0
  /-- How often in a row element B gave the same raw code (R45). -/
  sameB : Nat := 0
  /-- The primary has been valid since (R47). -/
  validSince : Option Nat := none
  /-- The pair has agreed since (R48). -/
  agreeSince : Option Nat := none
  /-- The slot has been on the virtual sensor since (R46). -/
  vsSince : Option Nat := none
  /-- The last valid value of the primary and of the table input (R46). -/
  lastY : F32 := 0
  /-- The last valid value of the table input (R46). -/
  lastTable : F32 := 0
  /-- The last conversion counted of elements A and B (R238). -/
  convA : Option Nat := none
  /-- The last conversion counted of element B (R238). -/
  convB : Option Nat := none
  /-- Counts spent on the virtual sensor (R46), and when the last of them was added. -/
  vsCount : Nat := 0
  /-- RC pages held (R53). -/
  pages : List Nat := []
  /-- The ring index n (R52). -/
  rcN : Nat := 0
  /-- The last two automatic period estimates (R56). -/
  est : Nat := 0
  /-- The automatic period estimate before the last (R56). -/
  estPrev : Nat := 0
  /-- When the last automatic period estimate was taken (R56). -/
  estAt : Option Nat := none
  /-- T1 and T2 as LOOP_SET gave them (R38). -/
  t1 : F32 := 0
  /-- T2 as LOOP_SET gave it (R38). -/
  t2 : F32 := 0
  /-- EN_PF acts in place of the denied ring (R54). -/
  pfOn : Bool := false
  /-- The output held in SERVICE, once the slot has been sampled there (R44). -/
  svc : Option F32 := none
  /-- The ring starts again at the next sample. -/
  rcFresh : Bool := false
  /-- A sample has completed since the last LOOP_GET, and MISS_SLOT holds its slack (R65). -/
  slackOn : Bool := false
  /-- Samples since the last captured entry, per the channels' DECIM, by channel (R59). -/
  capSkip : Table Nat := []
  /-- Evaluations since a probe's last entry, by 4 × bobbin + probe (R60). -/
  probeSkip : Table Nat := []
deriving DecidableEq, Repr

/-- One solenoid channel beside its registers. -/
structure SvCh where
  /-- The request came from the trip matrix (R261). -/
  trip : Bool := false
  /-- The running number of the closing request (R261). -/
  order : Nat := 0
  /-- When the closing was requested (R261). -/
  reqAt : Nat := 0
  /-- The wait clock: counts accumulated, and since when it runs (R262). -/
  waited : Nat := 0
  /-- Since when the wait clock runs, while it runs (R262). -/
  waitFrom : Option Nat := none
  /-- When the channel was last switched on, while it is on. -/
  onAt : Option Nat := none
  /-- When the channel was last switched on: its trace runs for 80 ms from there (R272). -/
  traceAt : Option Nat := none
  /-- When the last peak phase began (R272). -/
  peakFrom : Option Nat := none
  /-- When the channel was last switched off. -/
  offAt : Option Nat := none
  /-- The last three on-time samples of the peak phase, newest first, in mA (R257). -/
  last : List Nat := []
  /-- The running maximum of the filtered current, in quarters of a mA (R257). -/
  runMax : Nat := 0
  /-- The minimum that followed the running maximum, in quarters of a mA, with its time (R257). -/
  runMin : Option (Nat × Nat) := none
  /-- The kink time: that of the minimum (R257). -/
  kinkAt : Option Nat := none
  /-- When the kink was detected: SEAT_MS runs from it (R256). -/
  kinkSeenAt : Option Nat := none
  /-- When the peak phase ended. -/
  peakEnd : Option Nat := none
  /-- When the position is due to show closed (R259). -/
  posDue : Option Nat := none
  /-- The on-state check has been made since switch-on (R267). -/
  checked : Bool := false
  /-- Consecutive visits with each reading (R264, R265). -/
  openRun : Nat := 0
  /-- Consecutive visits that read a short to ground (R264, R265). -/
  gndRun : Nat := 0
  /-- Consecutive visits that read a short to supply (R264, R265). -/
  supRun : Nat := 0
  /-- The trip matrix closed the channel, and it has not been released and reopened since (R271). -/
  tripped : Bool := false
deriving DecidableEq, Repr

/-- One solenoid group beside its registers. -/
structure SvGrp where
  /-- The high side has been on since (R266). -/
  onSince : Option Nat := none
  /-- The idle test began. -/
  idleFrom : Option Nat := none
  /-- The idle test is repeated at (R266). -/
  repeatAt : Option Nat := none
  /-- The last idle ended. -/
  lastIdle : Nat := 0
  /-- The group current has been above 3.0 A since (R268). -/
  ocSince : Option Nat := none
  /-- The off-state test has passed since (R268). -/
  passSince : Option Nat := none
  /-- The next channel of the off-state scan and the last visit (R264). -/
  scanNext : Nat := 0
  /-- When the last off-state visit was made (R264). -/
  scanAt : Option Nat := none
deriving DecidableEq, Repr

/-- A ramp of a channel's output (R212, R215): 0 at the loop's RATE, 1 rising 10% per second, 2 falling 10% per second.
-/
structure PfRamp where
  kind : Nat
  start : Nat
  from_ : Nat
deriving DecidableEq, Repr

/-- One pump (keys 0 to 3) or fan (keys 4 to 11) beside its registers. -/
structure PfCh where
  /-- The start request, time zero of the kicks (R212). -/
  reqAt : Option Nat := none
  /-- The present kick began. -/
  kickAt : Option Nat := none
  /-- RUNNING since (R224). -/
  runSince : Option Nat := none
  /-- The ramp of the speed under way (R212, R215). -/
  ramp : Option PfRamp := none
  /-- Tach pulses have returned since (R213). -/
  backSince : Option Nat := none
  /-- When tach pulses were last seen (R213). -/
  pulseAt : Option Nat := none
  /-- The drive-fault input has been clear since (R214). -/
  clearSince : Option Nat := none
  /-- The drive reports a fault over CAN (R297). -/
  canFault : Bool := false
  /-- The drive's velocity has reached 5% of its maximum during the kick (R212, R297). -/
  canReached : Bool := false
  /-- A fan's learned current in A (R213). -/
  learned : F32 := 0
  /-- The current of a fan has been above 4.5 A since (R217). -/
  ocSince : Option Nat := none
  /-- The last measured pump current, binary32 A. -/
  current : F32 := 0
  /-- The value the output has stayed within 1% of (R213). -/
  steadyRef : Nat := 0
  /-- Since when the output has stayed within 1% of `steadyRef` (R213). -/
  steadySince : Option Nat := none
  /-- The output is being ramped to a stop, after which the pump is off (R215). -/
  stopping : Bool := false
  /-- Run time not yet counted in the run hours, in counts (R216). -/
  part : Nat := 0
deriving DecidableEq, Repr

/-- The calibration of a rack (R229 to R234). -/
structure CalRack where
  /-- Calibration of the rack is enabled (R234). -/
  enabled : Bool := true
  /-- P_AUX in W, binary32 (R230). -/
  paux : F32 := 0
  /-- 0 OFF, 1 WAITING, 2 ACTIVE, 3 SUSPENDED, 4 SUSPECT. -/
  state : Nat := 1
  /-- The target of the flow gain (R230, R231). -/
  gTarget : F32 := 0x3F800000
  /-- The target of the supply RTD's offset (R233). -/
  oTarget : F32 := 0
  /-- The target of the return RTD's offset (R233). -/
  oTarget2 : F32 := 0
  /-- The electrical power of the last minute, W. -/
  pElec : F32 := 0
  /-- The power the coolant carried in the last minute, W. -/
  pCool : F32 := 0
  /-- Minutes steady, and isothermal minutes. -/
  steady : Nat := 0
  /-- Consecutive isothermal minutes (R233). -/
  iso : Nat := 0
  /-- The last one-minute means of power and flow. -/
  lastP : Option F32 := none
  /-- The last one-minute mean of the flow. -/
  lastV : Option F32 := none
  /-- Targets outside the bound in a row: flow, supply RTD, return RTD. -/
  badG : Nat := 0
  /-- Targets of the supply RTD's offset outside the bound in a row. -/
  badO : Nat := 0
  /-- Targets of the return RTD's offset outside the bound in a row. -/
  badO2 : Nat := 0
  /-- When the corrections last took a step. -/
  lastStep : Option Nat := none
  /-- CALIBRATION_CONTROL has asked for a reset of the corrections. -/
  resetting : Bool := false
deriving DecidableEq, Repr

/-- A line of the copier beside the register lines (R337): the working record of a slot, a parameter word in force, a
table's validity, the wait list of the repetitive controller, a context's record in the broker, the ceiling of a group,
the row budget, a rack's calibration, a solenoid channel, a pump or fan. DESIGN CHOICE: notes/assumptions/22.md. -/
inductive CopyLine where
  | slot (k : Nat) (x : LSlot)
  | param (a : Nat) (w : BitVec 32)
  | table (k : Nat) (valid : Bool)
  | waiting (l : List (Nat × Nat))
  | context (c : Nat) (x : PbCtx)
  | group (g : Nat) (x : Ceiling)
  | row (budget : Nat)
  | calibration (r : Nat) (x : CalRack)
  | valve (n : Nat) (x : SvCh)
  | channel (k : Nat) (x : PfCh)
deriving DecidableEq, Repr

end Sys2Proof.Machine
end

