-- ==== Sys2Proof/Syntax.lean ====
section
/-! DEFINITION. The commands of the block, one constructor per row of spec/opcode_table.json, with the operands each
needs: the channel, slot, context or tile it concerns, the value written, the payload, or what the environment
presents to the module at that moment (a measured value, a received frame). -/

namespace Sys2Proof

/-- Who performs a bus access (R301, R312, R340, R434): a control core, the management processor, or a hub block. -/
inductive Initiator where
  | core (n : Fin 8)
  | mgmt
  | block
deriving DecidableEq, Repr

/-- Where the KW-144 check of a tile's memories met what it found (R87, R88): a scrubber's pass, an instruction fetch, an
operand read of the matrix port, a read of the send engine. -/
inductive EccAt where
  | pass
  | fetch
  | matrix
  | send
deriving DecidableEq, Repr

/-- Who reads a sample queue (R195): a control core, or the cellar engine. -/
inductive SqReader where
  | core (n : Fin 8)
  | cellar
deriving DecidableEq, Repr

/-- A read of a sample queue: the queue and its reader (R194, R195). -/
structure SqRead where
  q : Fin 32
  reader : SqReader
deriving DecidableEq, Repr

/-- The queue of a packet that may be incomplete for too long (R198): a context's ingest packets, or a sample queue. -/
inductive PktRef where
  | ingest (c : Fin 4096)
  | sample (q : Fin 32)
deriving DecidableEq, Repr

/-- The samples of a stream's packet, and whether all of the packet is published (R198, R244). -/
structure StreamPart where
  samples : List Nat
  whole : Bool
deriving DecidableEq, Repr

/-- What the KW-144 check of the words an access reads finds (R87, R344). -/
inductive Ecc where
  | ok
  | corrected
  | uncorrectable
deriving DecidableEq, Repr

/-- The errors of the KW-144 codewords that an access reads, bit by bit, in their order; codewords not listed have none (R343). -/
abbrev KwErr := List (BitVec 144)

/-- The errors of the eight 72-bit beats of a DDR4 burst (R343). -/
abbrev BurstErr := List (BitVec 72)

/-- A check of a tile's memories: where it was made, and what it found (R87, R88). -/
structure TileCheck where
  place : EccAt
  ecc : KwErr
deriving DecidableEq, Repr

/-- An access of TR_DBG_DATA (R90): the word written, or none for a read, and what the read's check finds. -/
structure DbgAccess where
  v : Option (BitVec 32)
  ecc : KwErr
deriving DecidableEq, Repr

/-- A CAN frame (R274, R276): identifier, format bits, DLC and data bytes. -/
structure CanFrame where
  id : Nat
  xtd : Bool
  rtr : Bool
  fdf : Bool
  brs : Bool
  esi : Bool
  dlc : Nat
  data : List (BitVec 8)
deriving DecidableEq, Repr

/-- How a frame on the bus ended for a receiver, as ISO 11898-1 counts it (R280): good or in an error; an error that is not a bit
error of its own error or overload flag counts 1; each dominant bit after an error flag, bit error in a flag, and run of dominant
bits after one counts 8. -/
structure RxEvents where
  ok : Bool
  one : Bool
  eights : Nat
deriving DecidableEq, Repr

/-- What an attempt met, as ISO 11898-1 counts it (R280, R282): it failed on an acknowledge error alone; a dominant bit was seen
during the passive error flag; it failed on the stuff error in arbitration that counts nothing; it lost arbitration; further
counts of 8, for bit errors in a flag and runs of dominant bits after one. -/
structure TxEvents where
  ack : Bool
  dominant : Bool
  stuff : Bool
  lost : Bool
  eights : Nat
deriving DecidableEq, Repr

/-- What the host programs in the function as the link comes up: HDM decoder 0, its size in GiB and interleave ways, where
it commits one, and its writes to BAR0, offset and word (R361, R362). -/
structure CxlHost where
  hdm : Option (Nat × Nat)
  bar0 : List (Nat × BitVec 32)
deriving DecidableEq, Repr

/-- The level of a pin of the ownership line (R317, R318): 2.0 V or more, 0.8 V or less, or between them. -/
inductive PinLevel where
  | high
  | low
  | between
deriving DecidableEq, Repr

/-- A twin-link frame as it arrives (R322): type, subtype, link sequence number, the frame number it belongs to, payload,
the CRC of its trailer; and the lines of a resynchronization that it carries beside its payload (R337). DESIGN CHOICE:
notes/assumptions/22.md. -/
structure LinkFrame where
  typ : Nat
  sub : Nat
  seq : Nat
  frame : Nat
  payload : List (BitVec 8)
  crc : Nat
  lines : List Machine.CopyLine := []
deriving DecidableEq, Repr

/-- The commands of the block: one constructor per row of the spec's table of operations and events. -/
inductive Instr where
  /-- POWER_ON (R421): 48 V comes within 40 to 60 V with V3P3_AUX good, starting a cold reset and the BOOT state. -/
  | powerOn
  /-- VIN_BROWNOUT (R421): 48 V below 36 V for 10 ms causes a cold reset. -/
  | vinBrownout
  /-- RESET_BUTTON (R421): Holding the front-panel RESET push-button for 100 ms starts a warm reset. -/
  | resetButton
  /-- SCHEDULED_WARM_RESET (R423): The timebase reaches the armed CK_WARM_AT and a warm reset starts. -/
  | scheduledWarmReset
  /-- SUPPLY_LOSS (R436): Supply loss or module removal releases the line, the disconnects and all drivers. -/
  | supplyLoss
  /-- BOOT_STAGE0_DONE (R394): Mask ROM finishes verifying the management stage and starts it, or falls back to the other slot. -/
  | bootStage0Done
  /-- BOOT_STAGE1_DONE (R394): Management firmware verifies and copies the hub stage, then releases the hub and the field die so that Benfophor starts. -/
  | bootStage1Done
  /-- DDR4_READY (R341): DDR4 training completes, setting Memory_Active, or a channel fault sends the module to FAILED. -/
  | ddr4Ready (bad : Option (Fin 8))
  /-- TILE_SELFTEST_DONE (R86): Boot self-tests of the Trellis tiles complete, and failed tiles are taken out of service. -/
  | tileSelftestDone (failed : BitVec 128)
  /-- BOOT_CONFIG_RESTORED (R424): The configuration is restored, BOOT-class fields are applied and the trip matrix is loaded and locked. -/
  | bootConfigRestored (crcOk : Bool)
  /-- TABLE_INPUTS_VALID (R424): The table inputs become valid, frames begin and the plant loops are prepared in the TABLE law. -/
  | tableInputsValid
  /-- CLAIM_ENABLE (R424): The supervisor sets TW_CTRL.CLAIM_EN, and holdoff counting begins. -/
  | claimEnable
  /-- BOOT_END (R20): At the first frame boundary after the claim the module enters TABLE, and the latched trip actions take effect. -/
  | bootEnd
  /-- BOOT_WATCHDOG_EXPIRY (R397): A boot that has not reached TABLE within 60 s, with the watchdog not held, causes a warm reset. -/
  | bootWatchdogExpiry
  /-- TRIAL_CONFIRM (R397): After 60 s running from TABLE, a TRIAL slot is confirmed. -/
  | trialConfirm
  /-- FRAME_BOUNDARY (R15): A frame boundary swaps ingest banks, releases context samples and runs the per-frame work of every block. -/
  | frameBoundary
  /-- TICK_BOUNDARY (R32): A 50 µs tick boundary adds released and eligible samples to the ready set and runs the supervisor checks made each tick. -/
  | tickBoundary (brakes : BitVec 16)
  /-- HOST_SILENCE_TIMEOUT (R372): The host-silence timer reaches HOST_TIMEOUT and the module leaves REACTIVE or PREDICTIVE for TABLE. -/
  | hostSilenceTimeout
  /-- ISOLATE_ENTRY (R249): At the first frame boundary at least 50 µs after a leak confirmation, the module enters ISOLATE. -/
  | isolateEntry
  /-- SHED_EXIT (R177): 500 ms after the later of flow restored and caps confirmed, the brakes are released and SHED ends. -/
  | shedExit
  /-- SHED_PREDICTIVE_RESUME (R20): After SHED, a prior PREDICTIVE is entered once 8 consecutive frames have had correct sentinel answers. -/
  | shedPredictiveResume
  /-- SURVIVAL_EXIT (R20): After 10 s of cold-plate flow in range the module returns from SURVIVAL to TABLE. -/
  | survivalExit
  /-- CUTOFF_TICK (R33): CUTOFF_TICKS ticks after the frame boundary, the context samples still waiting become eligible on the newest prediction. -/
  | cutoffTick
  /-- SAMPLE_EVALUATION (R29): A lane pair takes the earliest-deadline ready sample, evaluates it for 200 ns and commits it when both lanes agree. -/
  | sampleEvaluation (p : Fin 8) (agree : Bool)
  /-- CHECK_EVALUATION (R29): Each pair runs one known-answer evaluation on its check slot in every tick. -/
  | checkEvaluation (p : Fin 8) (correct : Bool)
  /-- SAMPLE_DEADLINE_MISS (R35): A sample not completed by its deadline is dropped, MISS is set, LE_MISS_COUNT is incremented and the doorbell is posted. -/
  | sampleDeadlineMiss (k : Fin 4608)
  /-- FRAME_LENGTH_CHANGE (R31): A new FRAME_TICKS takes effect at the first boundary that is a multiple of both frame lengths, and FRAME_ORIGIN is updated. -/
  | frameLengthChange
  /-- CTX_SILENT (R42): A context with no record for 4 consecutive frames sets CTX_SILENT, freezes its integrators and stops lease renewal. -/
  | ctxSilent (c : Fin 4096)
  /-- VS_TIMEOUT (R46): vs_time reaches 30 s and the slot moves from the virtual sensor to TABLE. -/
  | vsTimeout (k : Fin 4608)
  /-- PRIMARY_RESTORE (R47): After the primary input has been valid for 10 s, the slot returns to it and to its configured mode. -/
  | primaryRestore (k : Fin 4608)
  /-- PAIR_AGREEMENT_CLEAR (R48): After 60 s of agreement within PAIR_TOL, PAIR_DISAGREE and PAIR_SUSPECT clear. -/
  | pairAgreementClear (k : Fin 4608)
  /-- RC_PAGE_GRANT (R53): A wait-list walk grants pool pages to waiting RC requests that now fit, switching PF off with a preset. -/
  | rcPageGrant
  /-- RC_PERIOD_ESTIMATE (R56): Every 10 s the automatic RC period is estimated, and PERIOD is set when two estimates agree. -/
  | rcPeriodEstimate (k : Fin 4096) (est : Nat)
  /-- INJECTION_START (R57): The channel begins injecting and capturing at its start count or at the next release. -/
  | injectionStart (c : Fin 32)
  /-- CAPTURE_DONE (R59): The capture holds 4,096 entries, ends and posts the capture-done doorbell. -/
  | captureDone (c : Fin 32)
  /-- BOBBIN_POST_COMPLETE (R61): In mode 0, POST entries after the trigger have been recorded and the bobbin stops. -/
  | bobbinPostComplete (b : Fin 8)
  /-- BOBBIN_RING_FULL (R61): In mode 2 the ring has filled once and the bobbin stops. -/
  | bobbinRingFull (b : Fin 8)
  /-- SLOT_APPLY (R65): A write of CTRL.APPLY makes the engine copy the shadow parameters at the slot's next sample. -/
  | slotApply (k : Fin 4608)
  /-- LE_RC_DATA_ACCESS (R64): An access to LE_RC_DATA reads or writes the pool code at LE_RC_ADDR and advances the address. -/
  | leRcDataAccess (v : Option (BitVec 16))
  /-- INJ_CTRL_START (R57): A write of START to LE_INJn_CTRL arms the channel with its present settings. -/
  | injCtrlStart (c : Fin 32)
  /-- INJ_CTRL_STOP (R57): A write of STOP to LE_INJn_CTRL ends injection and capture at the next sample. -/
  | injCtrlStop (c : Fin 32)
  /-- BOB_ARM (R61): A write of ARM to BOB_CTRL clears the ring pointers and starts recording. -/
  | bobArm (b : Fin 8)
  /-- BOB_STOP (R61): A write of STOP to BOB_CTRL stops recording. -/
  | bobStop (b : Fin 8)
  /-- BOB_MARK (R62): A write of MARK to BOB_CTRL sets the rewind mark at the write pointer and makes it valid. -/
  | bobMark (b : Fin 8)
  /-- BOB_SW_TRIG (R61): A write of SW_TRIG to BOB_CTRL gives a software trigger. -/
  | bobSwTrig (b : Fin 8)
  /-- SENTINEL_BUNCH_ENTRY (R72): At 0.02 f the sentinel bunch enters, and stages that have not answered the previous sentinel are charged. -/
  | sentinelBunchEntry
  /-- BUNCH_ENTRY (R72): At 0.05 f + i × II the next occupied bunch is delivered on the feed channel of the input stages. -/
  | bunchEntry
  /-- PREDICTION_DELIVERY (R74): A bunch's OUT message reaches Trellis control, which tags the rows and writes them to the prediction store. -/
  | predictionDelivery
  /-- VIRTUAL_SENSOR_DELIVERY (R76): A VS message's values are written to the loop engine with the frame number. -/
  | virtualSensorDelivery
  /-- READMISSION_DONE (R84): Re-admission after a column loss completes or fails, posting the Trellis fault doorbell. -/
  | readmissionDone
  /-- ROTATION_PERIOD_EXPIRY (R79): The rotation period expires, so capture is due at the next boundary once preload is complete. -/
  | rotationPeriodExpiry
  /-- SPARE_SELFTEST_DONE (R79): The 40 ms self-test of the spare column completes, with a failure counting as a column loss. -/
  | spareSelftestDone (failed : Option (Fin 8))
  /-- PRELOAD_DONE (R79): The retiring column's code and constants have been copied into the spare. -/
  | preloadDone
  /-- ROTATION_CAPTURE_START (R79): At the first boundary after expiry with preload complete, mirroring and copying start and S is set CAPTURE_LEAD frames later. -/
  | rotationCaptureStart
  /-- ROTATION_SWITCH (R79): At S the column map and routes are rewritten and the spare becomes logical. -/
  | rotationSwitch
  /-- ROTATION_MIRROR_STOP (R80): After the retiring column sends its last output of the frame before S, the mirror stops and the column becomes the spare. -/
  | rotationMirrorStop
  /-- TILE_SCRUB (R88): A tile scrubber reads and corrects every data line and instruction word at least once per second. -/
  | tileScrub (t : Fin 128) (check : TileCheck)
  /-- TR_ROT_NOW (R81): A write of TR_CTRL.ROT_NOW makes the rotation period count as expired at the next boundary. -/
  | trRotNow
  /-- TR_DBG_DATA_ACCESS (R90): An access to TR_DBG_DATA reads or writes the tile word at TR_DBG_ADDR and advances WORD. -/
  | trDbgDataAccess (access : DbgAccess)
  /-- NOP (R91): Opcode 0x00 in any slot does nothing. -/
  | nop (t : Fin 128) (slot : Fin 8)
  /-- ILLEGAL_OPERATION (R92): An unlisted opcode or nonexistent register executes as NOP and sets ILL in m7. -/
  | illegalOperation (t : Fin 128) (slot : Fin 8)
  /-- ADD (R105): Scalar add of two s registers. -/
  | add (t : Fin 128)
  /-- SUB (R105): Scalar subtract of two s registers. -/
  | sub (t : Fin 128)
  /-- AND (R105): Scalar bitwise AND. -/
  | and (t : Fin 128)
  /-- OR (R105): Scalar bitwise OR. -/
  | or (t : Fin 128)
  /-- XOR (R105): Scalar bitwise XOR. -/
  | xor (t : Fin 128)
  /-- SHL (R105): Scalar shift left by s_B[5:0]. -/
  | shl (t : Fin 128)
  /-- SHR (R105): Scalar logical right shift. -/
  | shr (t : Fin 128)
  /-- SRA (R105): Scalar arithmetic right shift. -/
  | sra (t : Fin 128)
  /-- MUL (R105): Low 64 bits of a scalar product, with latency 3. -/
  | mul (t : Fin 128)
  /-- MIN (R105): Scalar signed minimum. -/
  | min (t : Fin 128)
  /-- MAX (R105): Scalar signed maximum. -/
  | max (t : Fin 128)
  /-- ADDI (R105): Scalar add of a 64-bit immediate. -/
  | addi (t : Fin 128)
  /-- LI (R105): Load a 64-bit immediate into an s register. -/
  | li (t : Fin 128)
  /-- ANDI (R105): Scalar AND with an immediate. -/
  | andi (t : Fin 128)
  /-- CMP (R105): Compare two s registers under CC into a predicate. -/
  | cmp (t : Fin 128)
  /-- CMPI (R105): Compare an s register with an immediate into a predicate. -/
  | cmpi (t : Fin 128)
  /-- PAND (R105): Predicate AND. -/
  | pand (t : Fin 128)
  /-- POR (R105): Predicate OR. -/
  | por (t : Fin 128)
  /-- PXOR (R105): Predicate XOR. -/
  | pxor (t : Fin 128)
  /-- PNOT (R105): Predicate NOT. -/
  | pnot (t : Fin 128)
  /-- MOVFM (R120): Read an m register into an s register. -/
  | movfm (t : Fin 128)
  /-- MOVTM (R120): Write an m register under its access rules. -/
  | movtm (t : Fin 128)
  /-- VEXT (R105): Extract one lane of a v register into an s register. -/
  | vext (t : Fin 128)
  /-- BR (R98): Branch to TARGET, costing one cycle when taken. -/
  | br (t : Fin 128)
  /-- LOOP (R98): Decrement a counter and branch at no cost while it is not zero. -/
  | loop (t : Fin 128)
  /-- BRI (R98): Branch to s_A[10:0]. -/
  | bri (t : Fin 128)
  /-- HALT (R105): Stop issue until a reload. -/
  | halt (t : Fin 128)
  /-- LD (R106): Load one SRAM line into half of a v register. -/
  | ld (t : Fin 128) (ls1 : Bool) (ecc : KwErr)
  /-- LDX8 (R106): Load bytes sign-extended into lanes. -/
  | ldx8 (t : Fin 128) (ls1 : Bool) (ecc : KwErr)
  /-- LDX16 (R106): Load 16-bit elements sign-extended, or BF16 widened, into lanes. -/
  | ldx16 (t : Fin 128) (ls1 : Bool) (ecc : KwErr)
  /-- LDB (R106): Broadcast one 32-bit word of a line to every lane. -/
  | ldb (t : Fin 128) (ls1 : Bool) (ecc : KwErr)
  /-- LDS (R106): Load one 64-bit word of a line into an s register. -/
  | lds (t : Fin 128) (ls1 : Bool) (ecc : KwErr)
  /-- ST (R106): Store half of a v register as one line. -/
  | st (t : Fin 128) (ls1 : Bool) (ecc : KwErr)
  /-- STN8 (R106): Store the low bytes of the lanes into half a line. -/
  | stn8 (t : Fin 128) (ls1 : Bool) (ecc : KwErr)
  /-- STN16 (R106): Store 16-bit elements, or BF16 conversions, into a line. -/
  | stn16 (t : Fin 128) (ls1 : Bool) (ecc : KwErr)
  /-- STS (R106): Store an s register as one 64-bit word of a line. -/
  | sts (t : Fin 128) (ls1 : Bool) (ecc : KwErr)
  /-- MMA_I8 (R107): Issue an INT8 × INT8 32×32×32 matrix multiply-accumulate. -/
  | mmaI8 (t : Fin 128)
  /-- MMA_I4 (R107): Issue an INT8 × INT4 matrix multiply-accumulate. -/
  | mmaI4 (t : Fin 128)
  /-- MMA_BF (R107): Issue a BF16 matrix multiply-accumulate. -/
  | mmaBf (t : Fin 128)
  /-- MMA_MF8 (R107): Issue an MXFP8 matrix multiply-accumulate. -/
  | mmaMf8 (t : Fin 128)
  /-- MMA_MF4 (R107): Issue an MXFP4 matrix multiply-accumulate. -/
  | mmaMf4 (t : Fin 128)
  /-- MMA_MI8 (R107): Issue an MXINT8 matrix multiply-accumulate. -/
  | mmaMi8 (t : Fin 128)
  /-- MZERO (R107): Zero an accumulator. -/
  | mzero (t : Fin 128)
  /-- MMA_RESULT (R109): An MX operation writes its whole accumulator at the end of issue + occupancy + 3. -/
  | mmaResult (t : Fin 128)
  /-- DRAIN (R110): Convert one accumulator row to binary32, or copy it raw, into a v register. -/
  | drain (t : Fin 128)
  /-- PACK8 (R110): Pack two accumulator rows to saturated INT8. -/
  | pack8 (t : Fin 128)
  /-- PACKBF (R110): Pack one accumulator row to BF16. -/
  | packbf (t : Fin 128)
  /-- PACKM8 (R127): Pack two accumulator rows to MXFP8 blocks with scales. -/
  | packm8 (t : Fin 128)
  /-- PACKM4 (R127): Pack four accumulator rows to MXFP4 blocks with scales. -/
  | packm4 (t : Fin 128)
  /-- VADD (R111): Lane-wise INT32 add, saturating under ISAT. -/
  | vadd (t : Fin 128) (vb : Bool)
  /-- VSUB (R111): Lane-wise INT32 subtract. -/
  | vsub (t : Fin 128) (vb : Bool)
  /-- VMUL (R111): Lane-wise low 32-bit product. -/
  | vmul (t : Fin 128) (vb : Bool)
  /-- VMIN (R111): Lane-wise signed minimum. -/
  | vmin (t : Fin 128) (vb : Bool)
  /-- VMAX (R111): Lane-wise signed maximum. -/
  | vmax (t : Fin 128) (vb : Bool)
  /-- VAND (R111): Lane-wise AND. -/
  | vand (t : Fin 128) (vb : Bool)
  /-- VOR (R111): Lane-wise OR. -/
  | vor (t : Fin 128) (vb : Bool)
  /-- VXOR (R111): Lane-wise XOR. -/
  | vxor (t : Fin 128) (vb : Bool)
  /-- VSHL (R111): Lane-wise shift left. -/
  | vshl (t : Fin 128) (vb : Bool)
  /-- VSHR (R111): Lane-wise logical right shift. -/
  | vshr (t : Fin 128) (vb : Bool)
  /-- VSRA (R111): Lane-wise arithmetic right shift. -/
  | vsra (t : Fin 128) (vb : Bool)
  /-- VCMP (R111): Lane-wise integer compare to an all-ones mask. -/
  | vcmp (t : Fin 128) (vb : Bool)
  /-- VSEL (R111): Lane-wise select by v_C. -/
  | vsel (t : Fin 128) (vb : Bool)
  /-- VMOV (R111): Copy a v register. -/
  | vmov (t : Fin 128) (vb : Bool)
  /-- VBC (R111): Broadcast s_A[31:0] to every lane. -/
  | vbc (t : Fin 128) (vb : Bool)
  /-- VINS (R111): Insert s_A[31:0] into one lane. -/
  | vins (t : Fin 128) (vb : Bool)
  /-- VPERM (R111): Permute the lanes by v_B. -/
  | vperm (t : Fin 128) (vb : Bool)
  /-- VANY (R111): Set a predicate when any lane is nonzero. -/
  | vany (t : Fin 128) (vb : Bool)
  /-- VRSUM (R111): Wrapping INT32 sum across lanes. -/
  | vrsum (t : Fin 128) (vb : Bool)
  /-- FADD (R128): Lane-wise binary32 add. -/
  | fadd (t : Fin 128) (vb : Bool)
  /-- FSUB (R128): Lane-wise binary32 subtract. -/
  | fsub (t : Fin 128) (vb : Bool)
  /-- FMUL (R128): Lane-wise binary32 multiply. -/
  | fmul (t : Fin 128) (vb : Bool)
  /-- FMA (R128): Lane-wise fused multiply-add, rounded once. -/
  | fma (t : Fin 128) (vb : Bool)
  /-- FMIN (R128): Lane-wise binary32 minimum with the NaN rules. -/
  | fmin (t : Fin 128) (vb : Bool)
  /-- FMAX (R128): Lane-wise binary32 maximum with the NaN rules. -/
  | fmax (t : Fin 128) (vb : Bool)
  /-- FABS (R111): Clear the sign bits. -/
  | fabs (t : Fin 128) (vb : Bool)
  /-- FNEG (R111): Invert the sign bits. -/
  | fneg (t : Fin 128) (vb : Bool)
  /-- FCMP (R104): Lane-wise binary32 compare with the unordered codes. -/
  | fcmp (t : Fin 128) (vb : Bool)
  /-- FRSUM (R128): Fixed-tree binary32 sum across lanes. -/
  | frsum (t : Fin 128) (vb : Bool)
  /-- FRMAX (R128): Maximum across lanes, ignoring NaN lanes. -/
  | frmax (t : Fin 128) (vb : Bool)
  /-- FRMIN (R128): Minimum across lanes, ignoring NaN lanes. -/
  | frmin (t : Fin 128) (vb : Bool)
  /-- CVTIF (R128): Convert INT32 to binary32. -/
  | cvtif (t : Fin 128) (vb : Bool)
  /-- CVTFI (R126): Convert binary32 to saturated INT32. -/
  | cvtfi (t : Fin 128) (vb : Bool)
  /-- EXP (R130): Lookup function e^x. -/
  | exp (t : Fin 128) (vb : Bool)
  /-- TANH (R130): Lookup function tanh x. -/
  | tanh (t : Fin 128) (vb : Bool)
  /-- SIGM (R130): Lookup function sigmoid. -/
  | sigm (t : Fin 128) (vb : Bool)
  /-- RSQRT (R130): Lookup function 1/√x. -/
  | rsqrt (t : Fin 128) (vb : Bool)
  /-- RCP (R130): Lookup function 1/x. -/
  | rcp (t : Fin 128) (vb : Bool)
  /-- RCV (R115): Take the head message descriptor of a channel and optionally its tag, stalling the bundle while none is complete. -/
  | rcv (t : Fin 128)
  /-- RCV_RESUME (R97): A stalled bundle issues in the cycle after a complete message arrives. -/
  | rcvResume (t : Fin 128)
  /-- FREE (R115): Release the head message of a channel. -/
  | free (t : Fin 128)
  /-- SEND (R116): Queue a message on an outbound channel, or set SENDQ when the queue is full. -/
  | send (t : Fin 128)
  /-- POLL (R115): Set a predicate when a channel has a complete head message. -/
  | poll (t : Fin 128)
  /-- BEND (R119): Mark the stage's work on the bunch done, which completes its sentinel answer. -/
  | bend (t : Fin 128)
  /-- SEND_ENGINE_START (R116): The idle send engine starts the next queued message and reads one line per clock. -/
  | sendEngineStart (t : Fin 128)
  /-- MESSAGE_ARRIVAL (R114): A message's last line is written into a receive buffer and the message becomes complete, or it is dropped with STREAM_OVF. -/
  | messageArrival (t : Fin 128) (ch : Fin 8)
  /-- SLEEP_INSTRUCTION (R309): A core sleeps unless its wake condition holds in that cycle. -/
  | sleepInstruction (t : Fin 9)
  /-- MODEL_LOAD_CHUNK (R383): Write image data into an unlocked model-store slot and forward it to the standby. -/
  | modelLoadChunk (p : List (BitVec 8))
  /-- COMMIT_MODEL (R147): Check the image header and admission, reply, and start the commit journal. -/
  | commitModel (p : List (BitVec 8))
  /-- REVERT_MODEL (R150): Reload the previous image through commit steps 3 to 8. -/
  | revertModel (p : List (BitVec 8))
  /-- ADMISSION_REPORT (R146): Run admission on a slot without committing and return the report. -/
  | admissionReport (p : List (BitVec 8))
  /-- COMMIT_DIGEST_CHECK (R148): The slot's SHA-256 check completes, aborting on mismatch or switching the loops to REACTIVE. -/
  | commitDigestCheck
  /-- COMMIT_TRELLIS_STOP (R148): At the first boundary after every slot has switched, Trellis stops and the slot locks move. -/
  | commitTrellisStop
  /-- COMMIT_LOAD_DONE (R148): Tile loading and initial state writing complete, or fail. -/
  | commitLoadDone (ok : Bool)
  /-- COMMIT_ENABLE (R148): At the next boundary after loading, ENABLE is set and the sentinel runs with outputs withheld for W frames. -/
  | commitEnable
  /-- COMMIT_WARM_DONE (R147): After W warm-up frames and 8 good frames step 7 completes, and PREDICTIVE resumes when RESUME is set. -/
  | commitWarmDone
  /-- CONTEXT_ADD (R154): Validate and create a context entry, preset its slot to the fallback cap and reset its credits. -/
  | contextAdd (p : List (BitVec 8))
  /-- CONTEXT_REMOVE (R155): Replace the context's unsent record with a RELEASE and stop its slot at the next boundary. -/
  | contextRemove (p : List (BitVec 8))
  /-- LEASE_RENEWAL_DUE (R167): Half the lease has passed since the last record, and a RENEW record is queued unless a stop condition holds. -/
  | leaseRenewalDue (c : Fin 4096)
  /-- CAP_WRITE_START (R165): The broker starts the next eligible record's UIO write, at most one per 250 ns and 64 in flight. -/
  | capWriteStart
  /-- CAP_WRITE_COMPLETION (R166): A UIO completion updates APPLIED_EPOCH on success, or counts an error and requeues the record. -/
  | capWriteCompletion (c : Fin 4096) (success : Bool)
  /-- CAP_WRITE_TIMEOUT (R166): No completion within PB_UIO.TIMEOUT counts an error, and a second failure sets UNREACHABLE. -/
  | capWriteTimeout (c : Fin 4096)
  /-- LEASE_LAPSE (R167): The lease of the last completed record runs out and LEASE_LAPSED is set. -/
  | leaseLapse (c : Fin 4096)
  /-- CAP_RECORD_EXPIRY (R173): A record unsent after its lease is discarded and counted in PB_DROPPED. -/
  | capRecordExpiry (c : Fin 4096)
  /-- OVER_CAP (R171): Reported power above the cap for 20 ms after confirmation sets OVER_CAP and logs. -/
  | overCap (c : Fin 4096)
  /-- PB_BRAKE_FORCE_WRITE (R174): A write of PB_BRAKE.FORCE asserts or releases rack brake lines. -/
  | pbBrakeForceWrite (v : BitVec 16)
  /-- POST_SEQ_WRITE (R181): A host write of POST_SEQ commits the staged BAR4 budget fields at the next boundary, or is refused when not ACTIVE. -/
  | postSeqWrite (v : BitVec 32)
  /-- BAR4_WRITE (R180): A host write stages a BAR4 post-area field, or is discarded outside the post area. -/
  | bar4Write (off : Nat) (v : BitVec 32)
  /-- BAR2_WRITE (R203): A host UIO write of telemetry words to a context page is assembled, charged, checked or discarded. -/
  | bar2Write (off : Nat) (bytes : List (BitVec 8))
  /-- PACKET_TIMEOUT (R198): A packet still incomplete VQ_PKT_TIMEOUT after its first word is discarded, with its charge returned. -/
  | packetTimeout (p : PktRef) (slotB : Bool)
  /-- UNPACK_COMPLETE (R186): The unpacker finishes reading the read banks, checks each record and delivers the newest per context. -/
  | unpackComplete
  /-- FIELD_STREAM_PUBLISH (R244): A field-die stream publishes its packet at its rate. -/
  | fieldStreamPublish (k : Fin 18) (p : StreamPart)
  /-- SAMPLE_BANK_SWAP (R187): A sample queue swaps banks when its read bank is empty and the filling bank holds a packet. -/
  | sampleBankSwap (q : Fin 32)
  /-- SQ_POP_READ (R194): A read of VQ_SQs_POP takes the next line into the window and returns its tag, or stalls. -/
  | sqPopRead (r : SqRead)
  /-- POP_STALL_END (R194): A stalled POP read completes when a line is committed. -/
  | popStallEnd (q : Fin 32)
  /-- POP_DEADLINE (R194): A stalled POP read reaches its deadline or 1,000 µs and returns EMPTY. -/
  | popDeadline (q : Fin 32)
  /-- FLUSH_REQUEST (R197): A write of FLUSH marks the packets in assembly and starts discarding completing packets. -/
  | flushRequest (q : Fin 96)
  /-- FLUSH_POINT (R197): Every marked packet has completed or timed out, and the unread lines of both banks are discarded. -/
  | flushPoint (q : Fin 96)
  /-- QUEUE_RESET (R199): A pointer-copy mismatch resets the queue within 2 cycles and returns every charged line. -/
  | queueReset (q : Fin 96)
  /-- PUMP_KICK (R212): A pump or fan start from standstill drives 100% for 1 s, with manager starts 2 s apart. -/
  | pumpKick (k : Fin 12)
  /-- KICK_END (R212): At the end of a 1 s kick the channel goes RUNNING if it saw 2 tach pulses, otherwise its output is set to 0. -/
  | kickEnd (k : Fin 12) (pulses : Nat) (sinceLast : Nat)
  /-- KICK_RETRY (R212): At 5, 10 and 15 s a further kick is tried, and after the third the channel goes LOCKED. -/
  | kickRetry (k : Fin 12)
  /-- TACH_LOSS (R213): Tach pulses are lost, and the channel goes TACH_LOST_RUNNING or STOPPED by its current. -/
  | tachLoss (k : Fin 12)
  /-- TACH_RESTORE (R213): Pulses return for 1 s and a TACH_LOST_RUNNING channel returns to RUNNING. -/
  | tachRestore (k : Fin 12) (rpm : Nat)
  /-- CURRENT_BAND_EXIT (R213): The current of a TACH_LOST_RUNNING channel leaves ±20%, so it goes STOPPED. -/
  | currentBandExit (k : Fin 12)
  /-- DRIVE_FAULT (R214): A drive-fault input or CAN fault sets the pump to FAULT and starts a replacement. -/
  | driveFault (n : Fin 4) (closed can : Bool)
  /-- PUMP_STAGE_IN (R215): PF_DEMAND above 95% for 10 s stages in one more available pump. -/
  | pumpStageIn
  /-- PUMP_STAGE_OUT (R215): PF_DEMAND below 45% for 300 s removes the staged pump with the most run hours. -/
  | pumpStageOut
  /-- PUMP_ROTATION (R216): The lead pump reaches PF_ROT_HOURS and the manager rotates duty pumps. -/
  | pumpRotation
  /-- RUN_HOURS_SAVE (R216): Every 6 min the run hours are written to the management NOR. -/
  | runHoursSave
  /-- PF_ROT_NOW_WRITE (R216): A write of PF_PMGR.ROT_NOW makes the rotation hours count as reached. -/
  | pfRotNowWrite
  /-- CHANNEL_REENABLE (R235): A 0-to-1 write of a pump or fan ENABLE clears LOCKED and STOPPED, and FAULT once clear 5 s. -/
  | channelReenable (k : Fin 12)
  /-- FAN_OVERCURRENT (R217): Fan current above 4.5 A for 100 ms sets OVERCURRENT and stops the fan. -/
  | fanOvercurrent (k : Fin 8) (ma : Nat)
  /-- AO_OPEN (R218): An open current-mode load sets OPEN within 20 ms. -/
  | aoOpen (n : Fin 20) (read : Nat) (opened : Bool)
  /-- AO_OVERLOAD (R218): A voltage-mode load above 20 mA sets OVERLOAD. -/
  | aoOverload (n : Fin 20) (ma : Nat)
  /-- SLOW_FALL_EVALUATION (R221): Every 100 ms each rack and the row are evaluated for a slow fall, and K_FLOW and the DP raise are updated. -/
  | slowFallEvaluation
  /-- PULSE_LOST (R224): No main-flow pulse for PULSE_GAP sets PULSE_LOST. -/
  | pulseLost
  /-- PRESS_LOST (R224): DP below DP_COLLAPSE for 3 samples, or pump current collapse, sets PRESS_LOST. -/
  | pressLost
  /-- TRIP_ARM (R224): A pump RUNNING for 5 s arms the coolant-stop trip. -/
  | tripArm
  /-- FLOW_RESTORED (R226): Main flow and DP at 50% or more for 2 s set FLOW_RESTORED. -/
  | flowRestored
  /-- CAL_MINUTE (R230): Each minute while conditions hold, rack means are taken and the flow gain steps toward g_target. -/
  | calMinute (r : Fin 16) (pRep vRaw tSup tRet ref : BitVec 32)
  /-- CAL_STATE_SAVE (R234): Every 10 min the calibration state is written to NOR. -/
  | calStateSave
  /-- RTD_CONVERSION (R236): An RTD conversion completes with dither, corrections, wiring-fault and frozen checks. -/
  | rtdConversion (n : Fin 48) (raw : BitVec 24) (offset : Int) (compliant : Bool)
  /-- MA_CONVERSION (R240): A 4 to 20 mA conversion completes with clamping, scaling and fault checks. -/
  | maConversion (n : Fin 24) (raw : BitVec 16) (offset : Int) (limit : Bool)
  /-- SENSOR_FAULT_CLEAR (R239): A wiring fault absent for 1 s clears its bit and restores VALID. -/
  | sensorFaultClear (k : Fin 80)
  /-- NO_PULSE_TIMEOUT (R239): No pulse within TIMEOUT sets NO_PULSE and reports 0 Hz. -/
  | noPulseTimeout (n : Fin 8)
  /-- DIN_DEBOUNCE (R240): A digital level held for SN_DINDEB is reported. -/
  | dinDebounce (k : Fin 16) (level : Bool)
  /-- LEAK_SAMPLE (R245): Every 20 ms each leak channel is sampled and classed wet, break or dry. -/
  | leakSample (k : Fin 32) (ohm loop loc : Nat)
  /-- LK_ACK_WRITE (R247): A write of LK_ACK releases a CONFIRMED channel that has sampled dry for 10 s. -/
  | lkAckWrite (k : Fin 32)
  /-- CP_EVALUATION (R251): Every 10 ms the management die evaluates cold-plate flow, temperatures and condensation. -/
  | cpEvaluation (flow tin tout : BitVec 32) (failed wet : Bool)
  /-- DERATE_START (R450): At the first boundary after CP_LOW, TR_CTRL.IDLE is set. -/
  | derateStart
  /-- DERATE_END (R450): CP_LOW clear for 10 s clears IDLE at the next boundary. -/
  | derateEnd
  /-- SV_CLOSE_REQUEST (R263): A write of CLOSE = 1 requests a closing, which waits under R260. -/
  | svCloseRequest (n : Fin 36)
  /-- SV_OPEN_REQUEST (R263): A write of CLOSE = 0 opens or withdraws a closing unless TRIP_HELD. -/
  | svOpenRequest (n : Fin 36)
  /-- SV_RELEASE_WRITE (R263): A write of RELEASE clears TRIP_HELD unless a rack leak channel is WET or CONFIRMED. -/
  | svReleaseWrite (n : Fin 36)
  /-- PEAK_START (R260): A waiting closing starts its peak phase when the group, budget and PEAK_MAX allow. -/
  | peakStart (n : Fin 36)
  /-- KINK_DETECT (R257): One on-time sample of the coil current, in mA: the mean of the last four shows the seating kink, which is recorded. -/
  | kinkDetect (n : Fin 36) (ma : Nat)
  /-- PEAK_END (R256): SEAT_MS after the kink or at 60 ms the peak ends, entering hold as CLOSED or CLOSED_UNCONFIRMED. -/
  | peakEnd (n : Fin 36)
  /-- OPENING_END (R259): REOPEN_MS after switch-off the channel enters OFF. -/
  | openingEnd (n : Fin 36)
  /-- POS_CHECK (R259): The position input is checked after closing or at the end of opening, setting POS_MISMATCH. -/
  | posCheck (n : Fin 36)
  /-- GROUP_BUDGET_TIMEOUT (R262): The wait clock reaches 200 ms and the closing fails with GROUP_BUDGET. -/
  | groupBudgetTimeout (n : Fin 36)
  /-- OFF_STATE_VISIT (R264): Every 1.25 ms the off-state test visits a channel of a group whose high side is off. -/
  | offStateVisit (g : Fin 9) (node rail supply : Nat)
  /-- ON_GROUP_VISIT (R265): Off channels in an energized group are checked for open load and short to ground. -/
  | onGroupVisit (n : Fin 36) (node win periods : Nat)
  /-- FORCED_IDLE_TEST (R266): After IDLE_MIN the group's high side is switched off for 5 ms to test for shorts to supply. -/
  | forcedIdleTest (g : Fin 9) (rail supply : Nat) (pulse : List (Fin 4))
  /-- FORCED_IDLE_END (R266): The 5 ms idle ends, or a closing request ends it early. -/
  | forcedIdleEnd (g : Fin 9)
  /-- ON_STATE_CHECK (R267): 2 ms after switch-on the low-side current is checked for open load or short to ground. -/
  | onStateCheck (n : Fin 36) (low win : Nat)
  /-- LOW_SIDE_OVERCURRENT (R267): Low-side current above 6 A switches the channel off and sets FAULT_OFF. -/
  | lowSideOvercurrent (n : Fin 36) (ma : Nat)
  /-- GROUP_OVERCURRENT (R268): Group current above 3.0 A for 10 ms switches the high side off and sets GRP_OC. -/
  | groupOvercurrent (g : Fin 9) (ma : Nat)
  /-- GROUP_RETURN (R268): After the off-state test has passed for 1 s the group returns to service. -/
  | groupReturn (g : Fin 9)
  /-- VALVE_SEQUENCE (R270): Validate and start a sequence of valve steps under a journal. -/
  | valveSequence (p : List (BitVec 8))
  /-- SEQUENCE_STEP_START (R271): The next step or step set of a sequence starts. -/
  | sequenceStepStart
  /-- SEQUENCE_WAIT_END (R271): A step's wait after its completion has passed. -/
  | sequenceWaitEnd (k : Fin 32)
  /-- CAN_FRAME_RECEIVE (R278): A received frame is stored in a matching buffer or dropped. -/
  | canFrameReceive (n : Fin 4) (f : CanFrame) (e : RxEvents) (sof : Nat)
  /-- CAN_TX_START (R279): The channel starts the lowest-identifier allowed PENDING buffer. -/
  | canTxStart (n : Fin 4)
  /-- CAN_TX_COMPLETE (R279): A transmission attempt ends, counting ATTEMPTS and going DONE, retrying or FAILED. -/
  | canTxComplete (n : Fin 4) (ok : Bool) (e : TxEvents)
  /-- CAN_RECOVERY_DONE (R280): 128 occurrences of 11 recessive bits end bus-off recovery. -/
  | canRecoveryDone (n : Fin 4)
  /-- FB_RECOVER_WRITE (R280): A write of RECOVER starts bus-off recovery. -/
  | fbRecoverWrite (n : Fin 4)
  /-- FB_REQ_WRITE (R279): A write of REQ makes a transmit buffer PENDING. -/
  | fbReqWrite (n : Fin 4) (m : Fin 64)
  /-- FB_ABORT_WRITE (R279): A write of ABORT withdraws or ends a buffer. -/
  | fbAbortWrite (n : Fin 4) (m : Fin 64)
  /-- FB_INIT_CLEAR (R287): Clearing INIT with TT_EN checks the schedule and joins the bus, or sets SCHED_BAD. -/
  | fbInitClear (n : Fin 4)
  /-- MB_LOCK_READ (R277): A read of buffer word 0 locks the buffer. -/
  | mbLockRead (n : Fin 4) (m : Fin 64)
  /-- MB_RELEASE_READ (R277): A read of buffer word 17 releases the lock. -/
  | mbReleaseRead (n : Fin 4) (m : Fin 64)
  /-- MB_LOCK_TIMEOUT (R277): A lock held 1 ms is released with LOCK_TO and a doorbell. -/
  | mbLockTimeout (n : Fin 4) (m : Fin 64)
  /-- BASIC_CYCLE_START (R284): At each nominal cycle start the reference message is sent or REF_MISS counted. -/
  | basicCycleStart (n : Fin 4) (ref : Option Nat)
  /-- WINDOW_MARK (R285): At a column mark the window's cell decides what the module may transmit. -/
  | windowMark (n : Fin 4) (idle : Bool)
  /-- NODE_SUPERVISION_INTERVAL (R292): At each interval nodes unseen for 3 intervals are marked lost. -/
  | nodeSupervisionInterval (n : Fin 4)
  /-- CONFIG_REQ_RETRY (R290): After 20 cycles without reply a CONFIG_REQ is retried or the node marked unconfigured. -/
  | configReqRetry (n : Fin 4) (node : Fin 64)
  /-- CANOPEN_DRIVE_STARTUP (R296): Benfophor runs the NMT, SDO and controlword start-up of a pump drive. -/
  | canopenDriveStartup (p n : Fin 4) (node : Fin 64) (maxSpeed rated : Nat)
  /-- RPDO_TRANSMIT (R296): RPDO1 is sent on change, at most every 2 ms and at least every 20 ms. -/
  | rpdoTransmit (p : Fin 4)
  /-- DOORBELL_WRITE (R301): A write to the doorbell address sets the source's pending bit, or counts in DIC_BADDB. -/
  | doorbellWrite (v : BitVec 32)
  /-- GROUP_TIMER_FIRE (R311): The group timer reaches TIME and the group fires. -/
  | groupTimerFire (g : Fin 16)
  /-- DELIVERY_DECISION (R305): The controller interrupts or wakes a target with a deliverable source more urgent than RUNPRI. -/
  | deliveryDecision (t : Fin 9)
  /-- EOI_WRITE (R308): A write of DIC_EOIt pops the stack and resamples a level source. -/
  | eoiWrite (t : Fin 9) (by_ : Initiator) (v : BitVec 32)
  /-- MODERATION_INTERVAL_END (R310): DIC_MODt.INTERVAL passes and held sources may be delivered. -/
  | moderationIntervalEnd (t : Fin 9)
  /-- LINE_INVALID (R318): Invalid or transition samples for 100 µs make the line invalid with LINE_FAULT. -/
  | lineInvalid (h l : PinLevel)
  /-- LINE_VALID (R318): The line owned or free for 100 µs ends the invalid state. -/
  | lineValid (owned : Bool)
  /-- CLAIM (R319): The line free for the full holdoff is claimed, and the module goes ACTIVE and drives the field. -/
  | claim (freeFor : Nat)
  /-- GUARD_END (R320): The release guard ends, and a handover without claim replies KS_ABORTED. -/
  | guardEnd
  /-- HEARTBEAT_SEND (R324): Every 250 µs a HEARTBEAT frame is sent. -/
  | heartbeatSend
  /-- HEARTBEAT_RECEIVE (R324): A partner heartbeat updates TW_PARTNER and may restore heartbeats. -/
  | heartbeatReceive (p : List (BitVec 8))
  /-- HEARTBEAT_LOSS (R325): No heartbeat for 3 ms sets HB_LOST, and a standby goes ISOLATED_STANDBY. -/
  | heartbeatLoss
  /-- TWIN_LINK_FRAME_RECEIVE (R322): A link frame is checked, acknowledged or NAKed, and passed on in order. -/
  | twinLinkFrameReceive (f : LinkFrame)
  /-- LINK_ACK_SEND (R322): An ACK is sent at least every 10 µs while frames arrive. -/
  | linkAckSend
  /-- LINK_REPLAY_TIMEOUT (R322): 100 µs without an ACK resends from the oldest unacknowledged frame. -/
  | linkReplayTimeout
  /-- LINK_LANE_FAIL (R321): A lane fails and the link retrains on two lanes. -/
  | linkLaneFail (lane : Fin 4)
  /-- LINK_RETRAIN_DONE (R321): The link retrains and sets LINK_DEGRADED, or goes down. -/
  | linkRetrainDone (lanes : BitVec 4)
  /-- FRAME_END_MISSING (R327): FRAME_END missing 50 µs after the boundary, or a mismatch, sets OUT_OF_STEP. -/
  | frameEndMissing
  /-- LOCKSTEP_MISMATCH (R330): A C0/C1 lockstep mismatch is fatal and gives up control. -/
  | lockstepMismatch
  /-- SUPERVISOR_WATCHDOG_EXPIRY (R330): The field-die watchdog unrefreshed for 4 ticks gives up control. -/
  | supervisorWatchdogExpiry
  /-- HANDOVER_REQUEST (R335): Accept or refuse a handover request on the ACTIVE module. -/
  | handoverRequest (p : List (BitVec 8))
  /-- HANDOVER_PREPARE (R336): At the next boundary after acceptance the active sends PREPARE. -/
  | handoverPrepare
  /-- HANDOVER_RELEASE (R336): At the boundary after READY the active releases and becomes STANDBY with its guard running. -/
  | handoverRelease
  /-- HANDOVER_COMPLETE (R336): The released module sees the partner's claim and replies KS_OK. -/
  | handoverComplete
  /-- RESYNC_START (R337): At a boundary the active starts copying and mirroring state to the standby. -/
  | resyncStart
  /-- RESYNC_END (R337): At boundary J after the last copy line the standby becomes IN_STEP. -/
  | resyncEnd
  /-- TW_RELEASE_WRITE (R340): A write of TW_CTRL.RELEASE releases the line at the next boundary. -/
  | twReleaseWrite (by_ : Initiator)
  /-- TW_FAULT_WRITE (R340): A write of TW_CTRL.FAULT gives up control. -/
  | twFaultWrite (by_ : Initiator)
  /-- HDM_READ (R363): A host HDM read returns data, poison or correction. -/
  | hdmRead (a : Nat) (e : BurstErr)
  /-- HDM_WRITE (R363): A host HDM write is stored or discarded by region and slot lock. -/
  | hdmWrite (a : Nat) (bs : List (BitVec 8))
  /-- PATROL_SCRUB (R346): The patrol scrub reads each burst once per pass and posts the pass doorbell. -/
  | patrolScrub (pages : Nat) (found : List (Nat × BurstErr))
  /-- TIER0_BLOCK_WRITE (R352): Within 2 frames of a block period end each tier 0 and plant fast block is written with its index. -/
  | tier0BlockWrite
  /-- RACKING (R353): At each whole second the tier 1 and plant slow entries are computed and written. -/
  | racking
  /-- SNAPSHOT_LATCH (R387): The timebase reaches T and every block latches its state. -/
  | snapshotLatch
  /-- SNAPSHOT_WRITTEN (R387): The snapshot slot is written with the TAG last. -/
  | snapshotWritten
  /-- CXL_LINK_UP (R359): The link trains and the module flags a reduced rate or width. -/
  | cxlLinkUp (rate width : Fin 3) (host : CxlHost)
  /-- CXL_INTERFACE_RESET (R360): A link-down, hot, bus, function or PERST_N reset resets only the CXL interface. -/
  | cxlInterfaceReset (flr : Bool)
  /-- PTM_DIALOG (R364): Every 10 ms a PTM request disciplines the timebase and updates PTM_LOCKED. -/
  | ptmDialog (offset : Option Int)
  /-- TIMEBASE_STEP (R418): At the first PTM lock or partner time the timebase steps once and TIME_VALID is set. -/
  | timebaseStep (dest : Nat) (partner : Bool)
  /-- AER_ERROR (R365): A link or protocol error is reported through AER, counted and logged. -/
  | aerError (uncorrectable : Bool)
  /-- UNSUPPORTED_COMMAND (R367): An unsupported standard or unlisted Waxus opcode returns Unsupported. -/
  | unsupportedCommand (op : BitVec 16)
  /-- IDENTIFY_MEMORY_DEVICE (R366): Report 480 GiB volatile capacity. -/
  | identifyMemoryDevice
  /-- GET_SUPPORTED_LOGS (R366): List the supported logs. -/
  | getSupportedLogs
  /-- GET_LOG (R366): Return the Command Effects Log. -/
  | getLog
  /-- GET_EVENT_RECORDS (R366): Return DRAM event records. -/
  | getEventRecords
  /-- CLEAR_EVENT_RECORDS (R366): Clear DRAM event records. -/
  | clearEventRecords (n : Nat)
  /-- GET_TIMESTAMP (R366): Return the timebase in ns. -/
  | getTimestamp
  /-- SET_TIMESTAMP (R366): Standard set timestamp command. -/
  | setTimestamp (ns : BitVec 64)
  /-- GET_IDENTITY (R374): Return the identity record. -/
  | getIdentity (p : List (BitVec 8))
  /-- GET_STATE (R375): Return the state record. -/
  | getState (p : List (BitVec 8))
  /-- SET_MODE_TABLE (R376): Request TABLE at the next boundary. -/
  | setModeTable (p : List (BitVec 8))
  /-- SET_MODE_REACTIVE (R376): Request REACTIVE, refused while TIME_VALID is clear. -/
  | setModeReactive (p : List (BitVec 8))
  /-- SET_MODE_PREDICTIVE (R376): Request PREDICTIVE with an admitted model. -/
  | setModePredictive (p : List (BitVec 8))
  /-- SET_MODE_HOLD (R376): Request HOLD, freezing outputs. -/
  | setModeHold (p : List (BitVec 8))
  /-- SET_MODE_SERVICE (R376): Request SERVICE from TABLE or HOLD. -/
  | setModeService (p : List (BitVec 8))
  /-- SET_MODE_RESET (R376): Schedule a pair-wide warm reset at AT. -/
  | setModeReset (p : List (BitVec 8))
  /-- KEEPALIVE (R376): Restart the host-silence timer and return HOST_TIMEOUT. -/
  | keepalive (p : List (BitVec 8))
  /-- CONFIG_WRITE (R377): Check, clamp and stage configuration entries by class. -/
  | configWrite (p : List (BitVec 8))
  /-- CONFIG_READ (R379): Return applied and pending values. -/
  | configRead (p : List (BitVec 8))
  /-- CONFIG_REPORT (R380): Return the clamp list of a command. -/
  | configReport (p : List (BitVec 8))
  /-- CONTEXT_LIST (R381): Return records of the valid entries. -/
  | contextList (p : List (BitVec 8))
  /-- SET_BUDGET (R382): Stage budgets and return T_c under a journal. -/
  | setBudget (p : List (BitVec 8))
  /-- GET_BUDGET (R382): Return BAR4 status records for a level. -/
  | getBudget (p : List (BitVec 8))
  /-- SET_LEASE (R382): Set the lease of a range of contexts and queue renewals. -/
  | setLease (p : List (BitVec 8))
  /-- LOOP_SET (R384): Clamp and write slot parameters with APPLY. -/
  | loopSet (p : List (BitVec 8))
  /-- LOOP_GET (R384): Return a slot descriptor and extras. -/
  | loopGet (p : List (BitVec 8))
  /-- INJECT_START (R58): Start test-signal injection on a channel. -/
  | injectStart (p : List (BitVec 8))
  /-- CAPTURE_READ (R59): Return capture entries. -/
  | captureRead (p : List (BitVec 8))
  /-- BOBBIN_ARM (R63): Arm a bobbin unless it is armed and not stopped. -/
  | bobbinArm (p : List (BitVec 8))
  /-- BOBBIN_READ (R62): Return bobbin entries from the mark or an index range. -/
  | bobbinRead (p : List (BitVec 8))
  /-- PUMP_DISABLE (R385): PUMP_SET action 0 disables a pump. -/
  | pumpDisable (p : List (BitVec 8))
  /-- PUMP_ENABLE (R385): PUMP_SET action 1 re-enables a pump. -/
  | pumpEnable (p : List (BitVec 8))
  /-- PUMP_SET_SPEED (R385): PUMP_SET action 2 sets PF_SPEEDn in SERVICE. -/
  | pumpSetSpeed (p : List (BitVec 8))
  /-- TABLE_WRITE (R39): Load a 16-point table, refusing non-ascending x values. -/
  | tableWrite (p : List (BitVec 8))
  /-- SNAPSHOT_AT (R387): Schedule a snapshot at T. -/
  | snapshotAt (p : List (BitVec 8))
  /-- QUERY_PROGRESS (R386): Return a journal record. -/
  | queryProgress (p : List (BitVec 8))
  /-- READ_LOG (R393): Return log records or the catalogue, optionally acknowledging. -/
  | readLog (p : List (BitVec 8))
  /-- UPDATE_BEGIN (R403): Allocate staging for a firmware image. -/
  | updateBegin (p : List (BitVec 8))
  /-- UPDATE_CHUNK (R403): Write image data into staging. -/
  | updateChunk (p : List (BitVec 8))
  /-- UPDATE_VERIFY (R403): Check the staged image's digest, header, signature and SVN. -/
  | updateVerify (p : List (BitVec 8))
  /-- UPDATE_ACTIVATE (R405): Check and program the inactive slot, then activate. -/
  | updateActivate (p : List (BitVec 8))
  /-- UPDATE_RATCHET (R398): Raise the anti-rollback step to the running SVN. -/
  | updateRatchet (p : List (BitVec 8))
  /-- UPDATE_ABORT (R403): Discard the staged image. -/
  | updateAbort (p : List (BitVec 8))
  /-- UPDATE_PROGRAM_DONE (R404): The inactive slot is erased, programmed and read back. -/
  | updateProgramDone (ok : Bool)
  /-- UPDATE_ACTIVATION_RESET (R405): At AT, or once the state allows, the trial slot is marked and a warm reset starts. -/
  | updateActivationReset
  /-- ATTEST (R402): Sign and return an attestation report. -/
  | attest (p : List (BitVec 8))
  /-- CALIBRATION_STATUS (R234): Return per-rack calibration state. -/
  | calibrationStatus (p : List (BitVec 8))
  /-- CALIBRATION_CONTROL (R234): Enable, configure, clear SUSPECT or reset calibration. -/
  | calibrationControl (p : List (BitVec 8))
  /-- MODBUS_WRITE_GRANT (R385): Allow Modbus holding writes for a duration. -/
  | modbusWriteGrant (p : List (BitVec 8))
  /-- MODBUS_WRITE_REVOKE (R385): End the Modbus write grant. -/
  | modbusWriteRevoke (p : List (BitVec 8))
  /-- MODBUS_GRANT_END (R385): The grant duration ends. -/
  | modbusGrantEnd
  /-- TWIN_STATUS (R385): Return the twin registers and partner frame. -/
  | twinStatus (p : List (BitVec 8))
  /-- MODBUS_READ_HOLDING (R412): Function 0x03 reads holding registers. -/
  | modbusReadHolding (conn : Nat) (addr count : BitVec 16)
  /-- MODBUS_READ_INPUT (R411): Function 0x04 reads input registers. -/
  | modbusReadInput (conn : Nat) (addr count : BitVec 16)
  /-- MODBUS_WRITE_SINGLE (R412): Function 0x06 writes one holding register under a grant. -/
  | modbusWriteSingle (conn : Nat) (addr v : BitVec 16)
  /-- MODBUS_WRITE_MULTIPLE (R412): Function 0x10 writes holding registers under a grant. -/
  | modbusWriteMultiple (conn : Nat) (addr : BitVec 16) (vals : List (BitVec 16))
  /-- MODBUS_ALARM_ACK (R413): A write of 1 to holding register 0 de-energizes relays 0 to 2. -/
  | modbusAlarmAck (conn : Nat)
  /-- MODBUS_BAD_FUNCTION (R410): Another function code gives exception 0x01. -/
  | modbusBadFunction (conn : Nat)
  /-- MODBUS_IDLE_CLOSE (R410): A connection idle for 60 s is closed. -/
  | modbusIdleClose (conn : Nat)
  /-- BOARD_SENSOR_WARNING (R390): A board quantity outside its warning band for 100 ms logs and sets the health alarm. -/
  | boardSensorWarning (q : Fin 24) (v : Int)
  /-- DIE_TEMPERATURE_WARNING (R449): A die at 100 °C for 100 ms logs and sets alarm bit 15. -/
  | dieTemperatureWarning (d : Fin 7) (t : Nat)
  /-- DIE_SHUTDOWN (R449): A die at 110 °C for 1 ms is fatal. -/
  | dieShutdown (d : Fin 7) (t : Nat)
  /-- VIN_UNDERVOLTAGE (R444): 48 V below 40 V for 1 ms is fatal. -/
  | vinUndervoltage
  /-- ACTUATOR_UNDERVOLTAGE (R445): 24 V below 18 V for 10 ms logs and sets alarm bit 15. -/
  | actuatorUndervoltage
  /-- PLL_UNLOCK (R416): PLL loss of lock sets PLL_UNLOCK and is fatal. -/
  | pllUnlock
  /-- CORE_STALL_DETECT (R458): A C2 to C7 progress word unchanged for 10 ms restarts the core's tasks. -/
  | coreStallDetect (c : Fin 8)
  /-- LOG_FLUSH (R392): Buffered log records are written to the NOR ring. -/
  | logFlush
  /-- TIMEBASE_SAVE (R417): The management die saves the timebase to the persistent area each second. -/
  | timebaseSave
  /-- MG_MESSAGE_POST (R414): A hub write of MG_TX_WPTR posts messages to the management die. -/
  | mgMessagePost (wptr : BitVec 12)
  /-- MG_ANSWER (R414): The management die writes an answer and posts doorbell 512. -/
  | mgAnswer (words : List (BitVec 32))
  /-- WARM_ARM_WRITE (R423): A write of CK_CTRL.WARM_ARM arms the scheduled warm reset, resetting at once if AT has passed. -/
  | warmArmWrite (by_ : Initiator)
  /-- CK_TIME_LO_READ (R417): A read of CK_TIME_LO latches the high word. -/
  | ckTimeLoRead
  /-- TRIP_ROW_LATCH (R427): An asserted trip input latches its row and starts the action within 10 µs. -/
  | tripRowLatch (r : Fin 128)
  /-- TM_LOCK_WRITE (R430): A write of TM_CTRL.LOCK locks the RWL fields and captures TM_CRC_LOCK. -/
  | tmLockWrite
  /-- TRIP_LATCH_CLEAR (R432): A W1C write clears a latch unless its input is still asserted. -/
  | tripLatchClear (w : Fin 4) (v : BitVec 32)
  /-- RC_REGISTER_READ (R7): A read of an RC register returns its value and clears it. -/
  | rcRegisterRead (addr : BitVec 32)
  /-- REGISTER_WRITE (R7): A write to a register without its own row follows its access code. -/
  | registerWrite (by_ : Initiator) (addr v : BitVec 32)
  /-- SVC_VER (R408): Console reports the version. -/
  | svcVer
  /-- SVC_STATE (R408): Console reports state and role. -/
  | svcState
  /-- SVC_SENSORS (R408): Console reports board sensors. -/
  | svcSensors
  /-- SVC_TP (R408): Console reports the expected test-point readings. -/
  | svcTp
  /-- SVC_LOG (R408): Console lists recent log records. -/
  | svcLog (n : Option Nat)
  /-- SVC_LOG_CODES (R408): Console prints the event catalogue. -/
  | svcLogCodes
  /-- SVC_MODE_SERVICE (R407): Console enters SERVICE with SVC_EN on. -/
  | svcModeService (key : Bool)
  /-- SVC_MODE_TABLE (R407): Console leaves SERVICE for TABLE. -/
  | svcModeTable
  /-- SVC_UPDATE (R408): Console reports the update state. -/
  | svcUpdate
  /-- SVC_ATTEST (R408): Console signs a report with a console nonce. -/
  | svcAttest (nonce : List (BitVec 8))
  /-- SVC_MODBUS (R408): Console reports the Modbus status. -/
  | svcModbus
  /-- SVC_LE (R408): Console reports the engine state. -/
  | svcLe
  /-- SVC_LOOP (R408): Console reports a slot. -/
  | svcLoop (k : Fin 4608)
  /-- SVC_TRELLIS (R408): Console reports Trellis. -/
  | svcTrellis
  /-- SVC_TRELLIS_MODEL (R408): Console reports the model. -/
  | svcTrellisModel
  /-- SVC_TRELLIS_CLEARFAIL (R86): Console returns failed tiles to service in SERVICE. -/
  | svcTrellisClearfail
  /-- SVC_PB (R408): Console reports the broker. -/
  | svcPb
  /-- SVC_CTX (R408): Console reports a context. -/
  | svcCtx (c : Fin 4096)
  /-- SVC_BRAKE_ON (R408): Console forces a brake line on in SERVICE. -/
  | svcBrakeOn (r : Fin 16)
  /-- SVC_BRAKE_OFF (R408): Console releases a forced brake line. -/
  | svcBrakeOff (r : Fin 16)
  /-- SVC_VQ (R408): Console reports the queues. -/
  | svcVq
  /-- SVC_VQ_SQ_SRC (R408): Console routes a sample queue to a stream. -/
  | svcVqSqSrc (q : Fin 32) (src : BitVec 8)
  /-- SVC_VQ_SQ_PEEK (R408): Console reads a sample queue. -/
  | svcVqSqPeek (q : Fin 32)
  /-- SVC_PF_PMGR_ON (R408): Console enables the pump manager. -/
  | svcPfPmgrOn
  /-- SVC_PF_PMGR_OFF (R408): Console disables the pump manager in SERVICE. -/
  | svcPfPmgrOff
  /-- SVC_PUMP (R408): Console reports a pump. -/
  | svcPump (n : Fin 4)
  /-- SVC_PUMP_SET (R408): Console sets a pump speed in SERVICE. -/
  | svcPumpSet (n : Fin 4) (v : BitVec 16)
  /-- SVC_FAN (R408): Console reports a fan. -/
  | svcFan (k : Fin 8)
  /-- SVC_HYD (R408): Console reports the flow trips. -/
  | svcHyd
  /-- SVC_CAL (R408): Console reports rack calibration. -/
  | svcCal (r : Fin 16)
  /-- SVC_SN_INPUT (R408): Console reports an RTD, mA or pulse input. -/
  | svcSnInput (k : Fin 80)
  /-- SVC_SN_DI (R408): Console reports the digital inputs. -/
  | svcSnDi
  /-- SVC_LEAK (R408): Console reports a rope or point channel. -/
  | svcLeak (k : Fin 32)
  /-- SVC_CP (R408): Console reports the cold plate. -/
  | svcCp
  /-- SVC_SV (R408): Console reports a solenoid channel. -/
  | svcSv (n : Fin 36)
  /-- SVC_SV_CLEAR (R408): Console clears a channel's fault bits. -/
  | svcSvClear (n : Fin 36)
  /-- SVC_SV_CLOSE (R408): Console closes a valve in SERVICE. -/
  | svcSvClose (n : Fin 36)
  /-- SVC_SV_OPEN (R408): Console opens a valve in SERVICE. -/
  | svcSvOpen (n : Fin 36)
  /-- SVC_SV_GROUP (R408): Console reports a solenoid group. -/
  | svcSvGroup (g : Fin 9)
  /-- SVC_FB (R408): Console reports a CAN channel. -/
  | svcFb (n : Fin 4)
  /-- SVC_DIC_TEST (R408): Console runs the doorbell round-trip test. -/
  | svcDicTest
  /-- SVC_TWIN (R408): Console reports the twin state. -/
  | svcTwin
  /-- SVC_TWIN_HANDOVER (R408): Console issues HANDOVER_REQUEST. -/
  | svcTwinHandover
  /-- SVC_MEM (R408): Console reports memory. -/
  | svcMem
  /-- SVC_CELLAR (R408): Console reports a context's archive. -/
  | svcCellar (c : Fin 4096)
  /-- SVC_CXL (R408): Console reports the CXL link. -/
  | svcCxl
  /-- SVC_CXL_PING (R408): Console issues GET_STATE through the host path or reports the last command time. -/
  | svcCxlPing (hostAllows : Bool)
  /-- SVC_BAUD (R407): Console changes the port rate until reset. -/
  | svcBaud (rate : Nat)
  /-- SVC_RECOVER (R408): In recovery mode the console receives, checks and writes an image to slot A. -/
  | svcRecover (image : List (BitVec 8))
  /-- PLL_LOCK (R416): The PLL locks within 1 ms of a stable crystal, so the rails sequence ends, the derived clocks run and, on a cold start, the timebase starts under R417. -/
  | pllLock
  /-- OWNERSHIP_LINE_OWNED (R26): A module in UNDECIDED, or one exciting the inputs in BOOT, samples the ownership line owned by its partner, takes the role STANDBY and releases EXC_EN_N within 10 µs. -/
  | ownershipLineOwned
  /-- EXC_EN_N_ASSERT (R442): A slot-B module in BOOT with the line free that has heard no heartbeat from a slot-A module for 100 ms asserts EXC_EN_N. -/
  | excEnNAssert
  /-- PULSE_INPUT_MEASUREMENT (R236): A pulse input times each pulse, reports its frequency every 1 ms and checks NAMUR open and short. -/
  | pulseInputMeasurement (n : Fin 8) (period : Option Nat) (ua : Nat)
  /-- MODBUS_CONNECTION (R410): A TCP connection arrives on port 502 and is accepted while fewer than 4 connections are open. -/
  | modbusConnection (conn : Nat)
  /-- HUB_SRAM_SCRUB (R459): A scrubber reads and corrects every on-die SRAM outside the tiles that holds state longer than a frame, at least once per second. -/
  | hubSramScrub (ecc : KwErr) (supervisor : Bool)
deriving DecidableEq, Repr

end Sys2Proof
end

