-- ==== Sys2Proof/Decode.lean ====
section
/-! DEFINITION. The command a table word spells. The block has no instruction decoder: every row of
spec/opcode_table.json has an empty list of fields, so no word spells a command. -/

namespace Sys2Proof

/-- The command that `nbits` bits spell by the table's bits: the table gives no row any bits, so none. DESIGN CHOICE:
notes/assumptions/13.md. -/
def decodeTableWord (_nbits _w : Nat) : Option Instr := none

end Sys2Proof
end

