-- ==== Sys2Proof/Machine/Float.lean ====
section
/-! DEFINITION. The number formats of Trellis and the loop engine (spec 05, R122 to R131): exact values, one rounding
to nearest even into each format, and binary32 arithmetic. -/

namespace Sys2Proof.Machine

/-- An exact value of a floating format: NaN, an infinity, or ± m × 2^e. -/
inductive FV where
  | nan
  | inf (neg : Bool)
  | fin (neg : Bool) (m : Nat) (e : Int)
deriving DecidableEq, Repr

/-- The quotient of `m` by 2^d, to nearest even. -/
def rneShift (m d : Nat) : Nat :=
  let q := m / 2 ^ d
  let r := m % 2 ^ d
  if d = 0 then m
  else if 2 * r < 2 ^ d then q
  else if 2 ^ d < 2 * r then q + 1
  else if q % 2 = 0 then q else q + 1

/-- The magnitude m × 2^e rounded to nearest even into a format of `p` significant bits whose smallest unit is 2^emin,
as the exponent-and-fraction code of that format (subnormals kept; the code grows past the format where the value is
out of range). -/
def roundCode (p : Nat) (emin : Int) (m : Nat) (e : Int) : Nat :=
  if m = 0 then 0
  else
    let q : Int := max ((Nat.log2 m : Int) + e - ((p : Int) - 1)) emin
    let mant := if q ≤ e then m * 2 ^ (e - q).toNat else rneShift m (q - e).toNat
    mant + (q - emin).toNat * 2 ^ (p - 1)

/-- The canonical quiet NaN of binary32 (R123). -/
def f32NaN : F32 := 0x7FC00000

/-- The infinity of binary32. -/
def f32Inf (neg : Bool) : F32 := if neg then 0xFF800000 else 0x7F800000

/-- The zero of binary32. -/
def f32Zero (neg : Bool) : F32 := if neg then 0x80000000 else 0

/-- The value of a code of `ebits` exponent and `fbits` fraction bits with IEEE 754 special values. -/
def unpackIEEE (ebits fbits : Nat) (w : Nat) : FV :=
  let neg := bitOf w (ebits + fbits)
  let ex := w / 2 ^ fbits % 2 ^ ebits
  let fr := w % 2 ^ fbits
  let emin : Int := 2 - 2 ^ (ebits - 1) - fbits
  if ex = 2 ^ ebits - 1 then (if fr = 0 then .inf neg else .nan)
  else if ex = 0 then .fin neg fr emin
  else .fin neg (fr + 2 ^ fbits) (emin + (ex - 1 : Nat))

/-- The value of a binary32 word. -/
def unpackF32 (x : F32) : FV := unpackIEEE 8 23 x.toNat

/-- The value of a BF16 word. -/
def unpackBF16 (x : Nat) : FV := unpackIEEE 8 7 x

/-- The value of an E5M2 element. -/
def unpackE5M2 (x : Nat) : FV := unpackIEEE 5 2 x

/-- The value of an E4M3 element (R122: NaN is S.1111.111, no infinity). -/
def unpackE4M3 (x : Nat) : FV :=
  let neg := bitOf x 7
  let ex := x / 8 % 16
  let fr := x % 8
  if x % 128 = 127 then .nan
  else if ex = 0 then .fin neg fr (-9)
  else .fin neg (fr + 8) (-10 + ex)

/-- The value of an E2M1 element (R122). -/
def unpackE2M1 (x : Nat) : FV :=
  let neg := bitOf x 3
  let ex := x / 2 % 4
  let fr := x % 2
  if ex = 0 then .fin neg fr (-1) else .fin neg (fr + 2) (-2 + ex)

/-- The value of an MXINT8 element: two's complement × 2⁻⁶ (R122). -/
def unpackMI8 (x : Nat) : FV :=
  let i := signedOf 8 x
  .fin (decide (i < 0)) i.natAbs (-6)

/-- A value multiplied by 2^k. -/
def FV.scale (v : FV) (k : Int) : FV :=
  match v with
  | .fin n m e => .fin n m (e + k)
  | w => w

/-- A value rounded to binary32, to nearest even; beyond the range it is ±∞ (R125). -/
def packF32 (v : FV) : F32 :=
  match v with
  | .nan => f32NaN
  | .inf neg => f32Inf neg
  | .fin neg m e =>
    let c := roundCode 24 (-149) m e
    if 0x7F800000 ≤ c then f32Inf neg else BitVec.ofNat 32 (c + b2n neg * 2 ^ 31)

/-- A value rounded to BF16 (R126). -/
def packBF16 (v : FV) : Nat :=
  match v with
  | .nan => 0x7FC0
  | .inf neg => 0x7F80 + b2n neg * 2 ^ 15
  | .fin neg m e => min (roundCode 8 (-133) m e) 0x7F80 + b2n neg * 2 ^ 15

/-- A finite value rounded to a small format and saturated at its largest finite code (R126, R127). -/
def packSat (p : Nat) (emin : Int) (maxCode signBit : Nat) (v : FV) : Nat :=
  match v with
  | .nan => 0
  | .inf neg => maxCode + b2n neg * signBit
  | .fin neg m e => min (roundCode p emin m e) maxCode + b2n neg * signBit

/-- An element of E4M3, saturating at 448. -/
def packE4M3 : FV → Nat := packSat 4 (-9) 0x7E 0x80

/-- An element of E5M2, saturating at 57,344. -/
def packE5M2 : FV → Nat := packSat 3 (-16) 0x7B 0x80

/-- An element of E2M1, saturating at 6.0. -/
def packE2M1 : FV → Nat := packSat 2 (-1) 7 8

/-- The signed magnitude of a finite value at unit 2^u, u at or below its exponent. -/
def signedAt (neg : Bool) (m : Nat) (e u : Int) : Int :=
  let a : Int := m * 2 ^ (e - u).toNat
  if neg then -a else a

/-- The exact sum of two finite values; the sign of a zero sum is − only when both are negative. -/
def addFin (n1 : Bool) (m1 : Nat) (e1 : Int) (n2 : Bool) (m2 : Nat) (e2 : Int) : FV :=
  let u := min e1 e2
  let s := signedAt n1 m1 e1 u + signedAt n2 m2 e2 u
  if s = 0 then .fin (n1 && n2) 0 u else .fin (decide (s < 0)) s.natAbs u

/-- The exact sum of two values (+∞ and −∞ give NaN). -/
def FV.add (a b : FV) : FV :=
  match a, b with
  | .nan, _ => .nan
  | _, .nan => .nan
  | .inf x, .inf y => if x = y then .inf x else .nan
  | .inf x, .fin _ _ _ => .inf x
  | .fin _ _ _, .inf y => .inf y
  | .fin n1 m1 e1, .fin n2 m2 e2 => addFin n1 m1 e1 n2 m2 e2

/-- The exact product of two values (0 × ∞ gives NaN). -/
def FV.mul (a b : FV) : FV :=
  match a, b with
  | .nan, _ => .nan
  | _, .nan => .nan
  | .inf x, .inf y => .inf (x != y)
  | .inf x, .fin n m _ => if m = 0 then .nan else .inf (x != n)
  | .fin n m _, .inf y => if m = 0 then .nan else .inf (n != y)
  | .fin n1 m1 e1, .fin n2 m2 e2 => .fin (n1 != n2) (m1 * m2) (e1 + e2)

/-- The quotient of two values, exact to a sticky bit well below binary32's last place. -/
def FV.div (a b : FV) : FV :=
  match a, b with
  | .nan, _ => .nan
  | _, .nan => .nan
  | .inf _, .inf _ => .nan
  | .inf x, .fin n _ _ => .inf (x != n)
  | .fin n _ e, .inf y => .fin (n != y) 0 e
  | .fin n1 m1 e1, .fin n2 m2 e2 =>
    if m2 = 0 then (if m1 = 0 then .nan else .inf (n1 != n2))
    else
      let k := 64 + Nat.log2 m2
      let q := m1 * 2 ^ k / m2
      let r := m1 * 2 ^ k % m2
      .fin (n1 != n2) (2 * q + if r = 0 then 0 else 1) (e1 - e2 - k - 1)

/-- The value with its sign inverted. -/
def FV.neg (a : FV) : FV :=
  match a with
  | .nan => .nan
  | .inf n => .inf (!n)
  | .fin n m e => .fin (!n) m e

/-- Binary32 sum, to nearest even (R128). -/
def fadd (x y : F32) : F32 := packF32 ((unpackF32 x).add (unpackF32 y))

/-- Binary32 difference. -/
def fsub (x y : F32) : F32 := packF32 ((unpackF32 x).add (unpackF32 y).neg)

/-- Binary32 product. -/
def fmul (x y : F32) : F32 := packF32 ((unpackF32 x).mul (unpackF32 y))

/-- Binary32 quotient. -/
def fdiv (x y : F32) : F32 := packF32 ((unpackF32 x).div (unpackF32 y))

/-- Fused multiply-add, rounded once (R128). -/
def ffma (x y z : F32) : F32 := packF32 (((unpackF32 x).mul (unpackF32 y)).add (unpackF32 z))

/-- The binary32 value has a NaN code. -/
def fisNaN (x : F32) : Bool := unpackF32 x == .nan

/-- The binary32 value is an infinity. -/
def fisInf (x : F32) : Bool := x == f32Inf false || x == f32Inf true

/-- The binary32 value is finite. -/
def fisFin (x : F32) : Bool := !(fisNaN x) && !(fisInf x)

/-- The sign bit of a binary32 word. -/
def fsign (x : F32) : Bool := bitOf x.toNat 31

/-- A key that orders binary32 values other than NaN as numbers, ±0 alike. -/
def fkey (x : F32) : Int :=
  let mag : Int := (x.toNat % 2 ^ 31 : Nat)
  if fsign x then -mag else mag

/-- Binary32 x < y (false with NaN). -/
def flt (x y : F32) : Bool := !fisNaN x && !fisNaN y && decide (fkey x < fkey y)

/-- Binary32 x ≤ y (false with NaN). -/
def fle (x y : F32) : Bool := !fisNaN x && !fisNaN y && decide (fkey x ≤ fkey y)

/-- Binary32 x = y as numbers (false with NaN). -/
def feq (x y : F32) : Bool := !fisNaN x && !fisNaN y && decide (fkey x = fkey y)

/-- The sign bit inverted (FNEG). -/
def fneg (x : F32) : F32 := x ^^^ 0x80000000

/-- The sign bit cleared (FABS). -/
def fabs (x : F32) : F32 := x &&& 0x7FFFFFFF

/-- Minimum with the NaN rules of R128 (−0 below +0). -/
def fmin (x y : F32) : F32 :=
  if fisNaN x then (if fisNaN y then f32NaN else y)
  else if fisNaN y then x
  else if flt x y then x
  else if flt y x then y
  else if fsign x then x else y

/-- Maximum with the NaN rules of R128 (−0 below +0). -/
def fmax (x y : F32) : F32 :=
  if fisNaN x then (if fisNaN y then f32NaN else y)
  else if fisNaN y then x
  else if flt x y then y
  else if flt y x then x
  else if fsign x then y else x

/-- The value held within limits, min(max(x, lo), hi) (R37). DEDUCED: notes/assumptions/68.md. -/
def fclamp (lo hi x : F32) : F32 :=
  let m := if flt x lo then lo else x
  if flt hi m then hi else m

/-- An integer as binary32, to nearest even (CVTIF). -/
def f32OfInt (i : Int) : F32 := packF32 (.fin (decide (i < 0)) i.natAbs 0)

/-- The rational n / d as binary32, to nearest even. -/
def f32OfRat (n : Int) (d : Nat) : F32 :=
  packF32 ((FV.fin (decide (n < 0)) n.natAbs 0).div (.fin false d 0))

/-- A value rounded to the nearest integer, halfway cases to even. -/
def FV.toIntRNE (v : FV) : Int :=
  match v with
  | .fin neg m e =>
    let a : Int := (if 0 ≤ e then m * 2 ^ e.toNat else rneShift m (-e).toNat : Nat)
    if neg then -a else a
  | _ => 0

/-- An exact value to a saturated integer within [lo, hi], to nearest even; NaN gives 0. -/
def fvToIntSat (lo hi : Int) (v : FV) : Int :=
  match v with
  | .nan => 0
  | .inf neg => if neg then lo else hi
  | .fin _ _ _ => clampInt lo hi v.toIntRNE

/-- An exact value below zero. -/
def fvNeg (v : FV) : Bool :=
  match v with
  | .nan => false
  | .inf neg => neg
  | .fin neg m _ => neg && m != 0

/-- An integer as an exact value. -/
def fvInt (i : Int) : FV := .fin (decide (i < 0)) i.natAbs 0

/-- a × x < b × y, exactly. -/
def fvScaledLt (a : Nat) (x : F32) (b : Nat) (y : F32) : Bool :=
  fvNeg (((fvInt a).mul (unpackF32 x)).add ((fvInt b).mul (unpackF32 y)).neg)

/-- The floor of n × x / y for finite x ≥ 0 and y > 0 (0 otherwise). -/
def fvRatioFloor (n : Nat) (x y : F32) : Nat :=
  match unpackF32 x, unpackF32 y with
  | .fin false a d, .fin false b e =>
    if b = 0 then 0
    else if e ≤ d then n * a * 2 ^ (d - e).toNat / b
    else n * a / (b * 2 ^ (e - d).toNat)
  | _, _ => 0

/-- Binary32 to a saturated integer within [lo, hi], to nearest even; NaN gives 0 (R126). -/
def f32ToIntSat (lo hi : Int) (x : F32) : Int := fvToIntSat lo hi (unpackF32 x)

/-- The floor of a binary32 value (0 for NaN and infinities). -/
def f32Floor (x : F32) : Int :=
  match unpackF32 x with
  | .fin neg m e =>
    if 0 ≤ e then (let a : Int := (m * 2 ^ e.toNat : Nat); if neg then -a else a)
    else
      let d := 2 ^ (-e).toNat
      if neg then -(((m + d - 1) / d : Nat) : Int) else ((m / d : Nat) : Int)
  | _ => 0

/-! ### Real functions in fixed point (R57, R130)

Numbers in units of 2⁻²⁴⁰. What is lost stays far below a unit in the last place of any binary32 result. -/

/-- One in the fixed-point unit. -/
def fxOne : Nat := 2 ^ 240

/-- The magnitude of a finite binary32 value in the fixed-point unit (exact). -/
def fxAbs (x : F32) : Nat :=
  match unpackF32 x with
  | .fin _ m e => m * 2 ^ (e + 240).toNat
  | .nan | .inf _ => 0

/-- The terms of the exponential series after the first `k`: `t` is the last term, `n` more are added. -/
def fxExpSeries (a : Nat) : Nat → Nat → Nat → Nat
  | 0, _, _ => 0
  | n + 1, k, t =>
    let t' := t * a / fxOne / (k + 1)
    t' + fxExpSeries a n (k + 1) t'

/-- A number squared `n` times. -/
def fxSquares : Nat → Nat → Nat
  | 0, y => y
  | n + 1, y => fxSquares n (y * y / fxOne)

/-- e^a for a fixed-point number a of at most 2⁷. DESIGN CHOICE: notes/assumptions/8.md. -/
def fxExp (a : Nat) : Nat :=
  let b := a / 1024
  fxSquares 10 (fxOne + fxExpSeries b 40 0 fxOne)

/-- The alternating series of the sine: `t` is the last term, of power 2k + 1. -/
def fxSinSeries (a : Nat) : Nat → Nat → Nat → Int
  | 0, _, _ => 0
  | n + 1, k, t =>
    let t' := t * a / fxOne * a / fxOne / ((2 * k + 2) * (2 * k + 3))
    Int.neg (t' + fxSinSeries a n (k + 1) t')

/-- π in the fixed-point unit. -/
def fxPi : Nat := 5550713758724461735233077129787137796835226094488409880962709825408003150

/-- sin(2π·p) of a phase p in turns, 0 to 1, in the fixed-point unit: the sign and the magnitude. -/
def fxSinTurns (p : Nat) : Bool × Nat :=
  let h := fxOne / 2
  let q := p % h
  let r := if fxOne / 4 < q then h - q else q
  let a := 2 * fxPi * r / fxOne
  (decide (h ≤ p), ((a : Int) + fxSinSeries a 40 0 a).toNat)

/-- The exponent of the unit in the last place of binary32 at a fixed-point number. -/
def fxUlpExp (v : Nat) : Int := max ((Nat.log2 v : Int) - 263) (-149)

/-- One unit in the last place of binary32 at a fixed-point number. -/
def fxUlp (v : Nat) : Nat := 2 ^ (fxUlpExp v + 240).toNat

/-- The code of the largest binary32 value at or below a fixed-point number. -/
def fxDown (v : Nat) : Nat :=
  if v = 0 then 0 else v / fxUlp v + (fxUlpExp v + 149).toNat * 2 ^ 23

/-- The code of the smallest binary32 value at or above a fixed-point number. -/
def fxUp (v : Nat) : Nat := if v % fxUlp v = 0 then fxDown v else fxDown v + 1

/-- One of the binary32 values within `err` of a fixed-point number, chosen by `pick`. DESIGN CHOICE:
notes/assumptions/8.md. -/
def fxWithin (v err pick : Nat) : Nat :=
  let lo := fxUp (v - err)
  lo + pick % (fxDown (v + err) - lo + 1)

/-- A positive code with a sign. -/
def fxSigned (neg : Bool) (code : Nat) : F32 := BitVec.ofNat 32 (code + b2n neg * 2 ^ 31)

end Sys2Proof.Machine
end

