-- ==== Sys2Proof/Config.lean ====
section
/-! DEFINITION. What the spec leaves open: free values, each an opaque constant with no body, so that no proof can see
a value. The assumption log names each (notes/assumptions). -/

namespace Sys2Proof.Config

/-- The n-th free value drawn from the state's counter, where the spec calls a value undefined or states none. DESIGN
CHOICE: notes/assumptions/6.md. -/
opaque freeValue : Nat → Nat

/-- SHA-256 of a byte string (FIPS 180-4), uninterpreted here. DESIGN CHOICE: notes/assumptions/7.md. -/
opaque sha256 : List (BitVec 8) → List (BitVec 8)

/-- Whether an HSS signature over a message verifies under a public key (R396), uninterpreted here. DESIGN CHOICE:
notes/assumptions/7.md. -/
opaque hssVerify : List (BitVec 8) → List (BitVec 8) → List (BitVec 8) → Bool

/-- The identity key's HSS signature with a signature index over a message (R399), uninterpreted here. DESIGN CHOICE:
notes/assumptions/7.md. -/
opaque hssSign : Nat → List (BitVec 8) → List (BitVec 8)

/-- The identity public key of the module with a serial number (R399). DESIGN CHOICE: notes/assumptions/7.md. -/
opaque identityKey : Nat → List (BitVec 8)

/-- The module is the conformal-coated one (R1): which of the two codes it bears is its own. DESIGN CHOICE:
notes/assumptions/7.md. -/
opaque coated : Bool

/-- The module's order code, ASCII: AMN-6400-A1, or AMN-6400-C1 for the conformal-coated board (R1, R374). -/
def orderCode : List (BitVec 8) :=
  [0x41, 0x4D, 0x4E, 0x2D, 0x36, 0x34, 0x30, 0x30, 0x2D, if coated then 0x43 else 0x41, 0x31]

/-- The board issue (R374). DESIGN CHOICE: notes/assumptions/7.md. -/
opaque boardIssue : Nat

/-- The device certificate of the module with a serial number (R399). DESIGN CHOICE: notes/assumptions/7.md. -/
opaque deviceCert : Nat → List (BitVec 8)

/-- The event catalogue of READ_LOG (R391: the module carries its own, which the spec does not list). DESIGN CHOICE:
notes/assumptions/7.md. -/
opaque catalog : List (BitVec 8)

/-- The value in the key fuses: the SHA-256 of the firmware public key (R394). DESIGN CHOICE: notes/assumptions/7.md.
-/
opaque keyFuse : List (BitVec 8)

/-- The low byte of a log event's code (R391: the module carries its own catalogue, which the spec does not list).
DESIGN CHOICE: notes/assumptions/7.md. -/
opaque eventCode : Nat → Nat

/-- The output, in hundredths of a percent, that a tach reading in rpm of a pump (0 to 3) or fan (4 to 11) stands for (R333
states no full scale). DESIGN CHOICE: notes/assumptions/6.md. -/
opaque tachOutput : Nat → Nat → BitVec 16

/-- What the KW-144 decoder makes of an error that R343 does not name, of three bits or more and of more than one byte: 0 sees
none, 1 corrects, 2 finds it uncorrectable. DESIGN CHOICE: notes/assumptions/109.md. -/
opaque kwOther : BitVec 144 → Fin 3

/-- The data bits that are left wrong where it sees or corrects such an error. DESIGN CHOICE: notes/assumptions/109.md. -/
opaque kwResidual : BitVec 144 → BitVec 128

/-- The 16 check bits of a 128-bit data word (R343 names the code and not its matrix). DESIGN CHOICE: notes/assumptions/109.md. -/
opaque kwCheckBits : BitVec 128 → BitVec 16

/-- A register of BAR0 whose layout is the CXL specification's, by offset (R361). DESIGN CHOICE: notes/assumptions/110.md. -/
opaque bar0Register : Nat → BitVec 32

/-- Which of the two binary32 neighbours of the exact sine the test signal takes (R57 states no rounding): frequency in
Hz, timebase counts from the start. DESIGN CHOICE: notes/assumptions/9.md. -/
opaque sineRound : F32 → Nat → Nat

/-- Which of the values that R130's error bound allows a lookup function gives inside its stated range: 0 EXP, 1 TANH,
2 SIGM, 3 RSQRT, 4 RCP. DESIGN CHOICE: notes/assumptions/8.md. -/
opaque lookup : Nat → F32 → Nat

/-- The value of an MXFP8 element byte under the format codes 2 and 3, which the spec does not name (R104, R122).
DESIGN CHOICE: notes/assumptions/11.md. -/
opaque reservedElem : Nat → Nat → F32

/-! The layouts of the channel table and the sentinel table of an image are not stated: what the loader reads from a
section's bytes is uninterpreted. -/

/-- The receive buffer of an inbound channel, base line and length in lines, from a channel table (R113, R138).
DESIGN CHOICE: notes/assumptions/12.md. -/
opaque inBuffer : List (BitVec 8) → Nat → Option (Nat × Nat)

/-- The destination of an outbound channel, from a channel table (R113): 0 a stage's inbound channel, 1 OUT, 2 VS.
DESIGN CHOICE: notes/assumptions/12.md. -/
opaque outDest : List (BitVec 8) → Nat → Option (Nat × Nat × Nat)

/-- The sentinel bunch's header as the table gives it (R82): its frame number, row mask and record ages; its bunch
number is 0 (R113). DESIGN CHOICE: notes/assumptions/12.md. -/
opaque sentHeader : List (BitVec 8) → Nat × Nat × Nat

/-- The sentinel bunch's input rows as the table gives them (R82), by row. DESIGN CHOICE: notes/assumptions/12.md. -/
opaque sentRow : List (BitVec 8) → Nat → List (BitVec 8)

/-- The context state that the table gives for a stage (R82), byte by byte. DESIGN CHOICE: notes/assumptions/12.md. -/
opaque sentState : List (BitVec 8) → Nat → BitVec 8

/-- The plant vector that the table gives for a stage (R82), entry by entry. DESIGN CHOICE:
notes/assumptions/12.md. -/
opaque sentPlant : List (BitVec 8) → Nat → BitVec 32

/-- How many sentinel messages a stage sends on a channel (R82). DESIGN CHOICE: notes/assumptions/12.md. -/
opaque sentCount : List (BitVec 8) → Nat → Nat

/-- Whether the n-th sentinel message of a channel lies within its bands (R82, R83). DESIGN CHOICE:
notes/assumptions/12.md. -/
opaque sentOk : List (BitVec 8) → Nat → Nat → List (List (BitVec 8)) → Bool

end Sys2Proof.Config
end

