-- ==== Sys2Proof/Machine/Kw144.lean ====
section
/-! DEFINITION. The KW-144 code (spec 14, R343): codewords, the placement of a DDR4 burst's bits, and what the decoder finds. -/

namespace Sys2Proof.Machine

/-- The codeword in which a data word is stored: 16 check bits and the data (R343). DESIGN CHOICE: notes/assumptions/109.md. -/
def kwCodeword (d : BitVec 128) : BitVec 144 := Config.kwCheckBits d ++ d

/-- The bits that are wrong in a codeword. -/
def kwWeight (e : Nat) : Nat := ((upto 144).filter fun i => bitOf e i).length

/-- Every wrong bit lies in one aligned byte of the codeword. -/
def kwOneByte (e : Nat) : Bool := (upto 18).any fun k => e / 2 ^ (8 * k) % 256 * 2 ^ (8 * k) == e

/-- What the decoder finds in one codeword: a single-bit error it corrects; double-bit errors and errors confined to one byte it
always detects; of others the spec says nothing (R343). -/
def kwDecode (e : BitVec 144) : Ecc :=
  if e = 0 then .ok
  else if kwWeight e.toNat = 1 then .corrected
  else if kwWeight e.toNat = 2 ∨ kwOneByte e.toNat then .uncorrectable
  else if Config.kwOther e = 0 then .ok
  else if Config.kwOther e = 1 then .corrected
  else .uncorrectable

/-- What the decoder finds in an access: an uncorrectable codeword, else a corrected one. -/
def kwCheck (l : KwErr) : Ecc :=
  if l.any fun e => kwDecode e == .uncorrectable then .uncorrectable
  else if l.any fun e => kwDecode e == .corrected then .corrected
  else .ok

/-- The codeword bit that holds bit `l` of beat `b`: the four bits that one x4 device supplies in each of the two beats lie in one
aligned byte (R343). -/
def kwPlace (b l : Nat) : Nat := 8 * (l / 4) + 4 * b + l % 4

/-- The errors of a codeword from those of its two beats. -/
def kwBeats (b0 b1 : BitVec 72) : BitVec 144 :=
  BitVec.ofNat 144 ((upto 72).foldl (fun n l =>
    n + b2n (bitOf b0.toNat l) * 2 ^ kwPlace 0 l + b2n (bitOf b1.toNat l) * 2 ^ kwPlace 1 l) 0)

/-- The errors of a burst's four codewords from those of its eight beats (R343). -/
def kwBurst (l : BurstErr) : KwErr := (upto 4).map fun k => kwBeats (l.getD (2 * k) 0) (l.getD (2 * k + 1) 0)

/-- The data bits of a codeword that are wrong as it is delivered: none where the decoder's guarantees hold. -/
def kwLeft (e : BitVec 144) : BitVec 128 :=
  if kwWeight e.toNat ≤ 2 ∨ kwOneByte e.toNat then 0 else Config.kwResidual e

/-- The 64 bytes of a burst as they are delivered, codeword by codeword. -/
def kwDeliver (l : KwErr) (bs : List Byte) : List Byte :=
  (upto 4).flatMap fun k =>
    leBytes 16 (fieldLE bs (16 * k) 16 ^^^ (kwLeft (l.getD k 0)).toNat)

end Sys2Proof.Machine
end

