-- ==== Sys2Proof/Machine/RegMap.lean ====
section
/-! DEFINITION. The register map: every register the spec's chapters name, with its hub address (R13), the bits,
access code (R7) and reset value of each field, and one name per field. A register that comes once per channel, slot,
context or tile takes its index (two indices: the outer first). -/

namespace Sys2Proof.Machine

/-! ### Doorbell interrupt controller (spec chapter 12) -/

/-- DIC_DOORBELL, WO (R315). -/
def DIC_DOORBELL : RF := ⟨0x40000000, 10, 0⟩
/-- DIC_CTRL.ENABLE, RW (R315). -/
def DIC_CTRL_ENABLE : RF := ⟨0x40000004, 0, 0⟩
/-- The whole word of DIC_CTRL (R315). -/
def DIC_CTRL : RF := ⟨0x40000004, 31, 0⟩
/-- DIC_BADDB, RC (R315). -/
def DIC_BADDB : RF := ⟨0x40000008, 15, 0⟩
/-- DIC_PEND, RW (R315). -/
def DIC_PEND (i : Nat) : RF := ⟨0x40000100 + i * 0x4, 31, 0⟩
/-- DIC_MASK, RW (R315). -/
def DIC_MASK (i : Nat) : RF := ⟨0x40000200 + i * 0x4, 31, 0⟩
/-- DIC_SRCCFG.PRI, RW (R315). -/
def DIC_SRCCFG_PRI (i : Nat) : RF := ⟨0x40001000 + i * 0x4, 15, 12⟩
/-- DIC_SRCCFG.TARGET, RW (R315). -/
def DIC_SRCCFG_TARGET (i : Nat) : RF := ⟨0x40001000 + i * 0x4, 11, 8⟩
/-- DIC_SRCCFG.LEVEL, RO (R315). -/
def DIC_SRCCFG_LEVEL (i : Nat) : RF := ⟨0x40001000 + i * 0x4, 7, 7⟩
/-- DIC_SRCCFG.GROUP_EN, RW (R315). -/
def DIC_SRCCFG_GROUP_EN (i : Nat) : RF := ⟨0x40001000 + i * 0x4, 6, 6⟩
/-- DIC_SRCCFG.GROUP, RW (R315). -/
def DIC_SRCCFG_GROUP (i : Nat) : RF := ⟨0x40001000 + i * 0x4, 3, 0⟩
/-- The whole word of DIC_SRCCFG (R315). -/
def DIC_SRCCFG (i : Nat) : RF := ⟨0x40001000 + i * 0x4, 31, 0⟩
/-- DIC_CSTAT.ASLEEP, RO (R315). -/
def DIC_CSTAT_ASLEEP (i : Nat) : RF := ⟨0x40003000 + i * 0x200, 31, 31⟩
/-- DIC_CSTAT.EOI_ERR, W1C (R315). -/
def DIC_CSTAT_EOI_ERR (i : Nat) : RF := ⟨0x40003000 + i * 0x200, 30, 30⟩
/-- DIC_CSTAT.DEPTH, RO (R315). -/
def DIC_CSTAT_DEPTH (i : Nat) : RF := ⟨0x40003000 + i * 0x200, 20, 16⟩
/-- DIC_CSTAT.RUNPRI, RO (R315). -/
def DIC_CSTAT_RUNPRI (i : Nat) : RF := ⟨0x40003000 + i * 0x200, 4, 0⟩
/-- The whole word of DIC_CSTAT (R315). -/
def DIC_CSTAT (i : Nat) : RF := ⟨0x40003000 + i * 0x200, 31, 0⟩
/-- DIC_EOI.RESAMPLE, WO (R315). -/
def DIC_EOI_RESAMPLE (i : Nat) : RF := ⟨0x40003004 + i * 0x200, 31, 31⟩
/-- DIC_EOI.SOURCE, WO (R315). -/
def DIC_EOI_SOURCE (i : Nat) : RF := ⟨0x40003004 + i * 0x200, 10, 0⟩
/-- The whole word of DIC_EOI (R315). -/
def DIC_EOI (i : Nat) : RF := ⟨0x40003004 + i * 0x200, 31, 0⟩
/-- DIC_CMASK.MASK, RW (R315). -/
def DIC_CMASK_MASK (i : Nat) : RF := ⟨0x40003008 + i * 0x200, 31, 31⟩
/-- DIC_CMASK.THRESH, RW (R315). -/
def DIC_CMASK_THRESH (i : Nat) : RF := ⟨0x40003008 + i * 0x200, 4, 0⟩
/-- The whole word of DIC_CMASK (R315). -/
def DIC_CMASK (i : Nat) : RF := ⟨0x40003008 + i * 0x200, 31, 0⟩
/-- DIC_MOD.INTERVAL, RW (R315). -/
def DIC_MOD_INTERVAL (i : Nat) : RF := ⟨0x4000300C + i * 0x200, 25, 16⟩
/-- DIC_MOD.LEVEL, RW (R315). -/
def DIC_MOD_LEVEL (i : Nat) : RF := ⟨0x4000300C + i * 0x200, 3, 0⟩
/-- The whole word of DIC_MOD (R315). -/
def DIC_MOD (i : Nat) : RF := ⟨0x4000300C + i * 0x200, 31, 0⟩
/-- DIC_GCFG.EN, RW (R315). -/
def DIC_GCFG_EN (i : Nat) : RF := ⟨0x40005000 + i * 0x10, 31, 31⟩
/-- DIC_GCFG.COUNT, RW (R315). -/
def DIC_GCFG_COUNT (i : Nat) : RF := ⟨0x40005000 + i * 0x10, 30, 23⟩
/-- DIC_GCFG.TIME, RW (R315). -/
def DIC_GCFG_TIME (i : Nat) : RF := ⟨0x40005000 + i * 0x10, 22, 13⟩
/-- DIC_GCFG.PRI, RW (R315). -/
def DIC_GCFG_PRI (i : Nat) : RF := ⟨0x40005000 + i * 0x10, 11, 8⟩
/-- DIC_GCFG.TARGET, RW (R315). -/
def DIC_GCFG_TARGET (i : Nat) : RF := ⟨0x40005000 + i * 0x10, 3, 0⟩
/-- The whole word of DIC_GCFG (R315). -/
def DIC_GCFG (i : Nat) : RF := ⟨0x40005000 + i * 0x10, 31, 0⟩
/-- DIC_GSTAT.FIRED, RW (R315). -/
def DIC_GSTAT_FIRED (i : Nat) : RF := ⟨0x40005004 + i * 0x10, 31, 31⟩
/-- DIC_GSTAT.CNT, RO (R315). -/
def DIC_GSTAT_CNT (i : Nat) : RF := ⟨0x40005004 + i * 0x10, 24, 16⟩
/-- DIC_GSTAT.ELAPSED, RO (R315). -/
def DIC_GSTAT_ELAPSED (i : Nat) : RF := ⟨0x40005004 + i * 0x10, 9, 0⟩
/-- The whole word of DIC_GSTAT (R315). -/
def DIC_GSTAT (i : Nat) : RF := ⟨0x40005004 + i * 0x10, 31, 0⟩

/-- The rows of the register tables of chapter 12. -/
def regRowsDIC : List RegRow :=
  [⟨"DIC_DOORBELL", 0x40000000, 1, 0x0, 1, 0x0, 0, [⟨10, 0, .wo, 0x0⟩]⟩,
   ⟨"DIC_CTRL", 0x40000004, 1, 0x0, 1, 0x0, 0, [⟨0, 0, .rw, 0x0⟩]⟩,
   ⟨"DIC_BADDB", 0x40000008, 1, 0x0, 1, 0x0, 0, [⟨15, 0, .rc, 0x0⟩]⟩,
   ⟨"DIC_PEND", 0x40000100, 64, 0x4, 1, 0x0, 0, [⟨31, 0, .rw, 0x0⟩]⟩,
   ⟨"DIC_MASK", 0x40000200, 64, 0x4, 1, 0x0, 0, [⟨31, 0, .rw, 0xFFFFFFFF⟩]⟩,
   ⟨"DIC_SRCCFG", 0x40001000, 2048, 0x4, 1, 0x0, 0, [⟨15, 12, .rw, 0xF⟩, ⟨11, 8, .rw, 0xF⟩, ⟨7, 7, .ro, 0x0⟩, ⟨6, 6, .rw, 0x0⟩, ⟨3, 0, .rw, 0x0⟩]⟩,
   ⟨"DIC_CSTAT", 0x40003000, 9, 0x200, 1, 0x0, 0, [⟨31, 31, .ro, 0x0⟩, ⟨30, 30, .w1c, 0x0⟩, ⟨20, 16, .ro, 0x0⟩, ⟨4, 0, .ro, 0x10⟩]⟩,
   ⟨"DIC_EOI", 0x40003004, 9, 0x200, 1, 0x0, 0, [⟨31, 31, .wo, 0x0⟩, ⟨10, 0, .wo, 0x0⟩]⟩,
   ⟨"DIC_CMASK", 0x40003008, 9, 0x200, 1, 0x0, 0, [⟨31, 31, .rw, 0x1⟩, ⟨4, 0, .rw, 0x10⟩]⟩,
   ⟨"DIC_MOD", 0x4000300C, 9, 0x200, 1, 0x0, 0, [⟨25, 16, .rw, 0x0⟩, ⟨3, 0, .rw, 0x8⟩]⟩,
   ⟨"DIC_GCFG", 0x40005000, 16, 0x10, 1, 0x0, 0, [⟨31, 31, .rw, 0x0⟩, ⟨30, 23, .rw, 0x0⟩, ⟨22, 13, .rw, 0x1⟩, ⟨11, 8, .rw, 0xF⟩, ⟨3, 0, .rw, 0xF⟩]⟩,
   ⟨"DIC_GSTAT", 0x40005004, 16, 0x10, 1, 0x0, 0, [⟨31, 31, .rw, 0x0⟩, ⟨24, 16, .ro, 0x0⟩, ⟨9, 0, .ro, 0x0⟩]⟩]

/-! ### Loop engine (spec chapter 02) -/

/-- LE_CTRL.PAIR_EN, RW (R64). -/
def LE_CTRL_PAIR_EN : RF := ⟨0x41000000, 15, 8⟩
/-- LE_CTRL.ENABLE, RW (R64). -/
def LE_CTRL_ENABLE : RF := ⟨0x41000000, 0, 0⟩
/-- The whole word of LE_CTRL (R64). -/
def LE_CTRL : RF := ⟨0x41000000, 31, 0⟩
/-- LE_FRAME.CUTOFF_TICKS, RW (R64). -/
def LE_FRAME_CUTOFF_TICKS : RF := ⟨0x41000004, 13, 8⟩
/-- LE_FRAME.FRAME_TICKS, RW (R64). -/
def LE_FRAME_FRAME_TICKS : RF := ⟨0x41000004, 5, 0⟩
/-- The whole word of LE_FRAME (R64). -/
def LE_FRAME : RF := ⟨0x41000004, 31, 0⟩
/-- LE_STATUS.FAILED_PAIRS, RO (R64). -/
def LE_STATUS_FAILED_PAIRS : RF := ⟨0x41000008, 15, 8⟩
/-- LE_STATUS.OVERLOAD, W1C (R64). -/
def LE_STATUS_OVERLOAD : RF := ⟨0x41000008, 2, 2⟩
/-- LE_STATUS.DEGRADED, RO (R64). -/
def LE_STATUS_DEGRADED : RF := ⟨0x41000008, 1, 1⟩
/-- LE_STATUS.RUNNING, RO (R64). -/
def LE_STATUS_RUNNING : RF := ⟨0x41000008, 0, 0⟩
/-- The whole word of LE_STATUS (R64). -/
def LE_STATUS : RF := ⟨0x41000008, 31, 0⟩
/-- LE_FRAME_NUM_LO, RO (R64). -/
def LE_FRAME_NUM_LO : RF := ⟨0x4100000C, 31, 0⟩
/-- LE_FRAME_NUM_HI, RO (R64). -/
def LE_FRAME_NUM_HI : RF := ⟨0x41000010, 31, 0⟩
/-- LE_MISS_COUNT, RC (R64). -/
def LE_MISS_COUNT : RF := ⟨0x41000014, 31, 0⟩
/-- LE_TICK_PEAK, RC (R64). -/
def LE_TICK_PEAK : RF := ⟨0x41000018, 15, 0⟩
/-- LE_RC_DENIED, RO (R64). -/
def LE_RC_DENIED : RF := ⟨0x4100001C, 12, 0⟩
/-- LE_RC_FREE, RO (R64). -/
def LE_RC_FREE : RF := ⟨0x41000020, 16, 0⟩
/-- LE_RC_ADDR, RW (R64). -/
def LE_RC_ADDR : RF := ⟨0x41000024, 23, 0⟩
/-- LE_RC_DATA, RW (R64). -/
def LE_RC_DATA : RF := ⟨0x41000028, 15, 0⟩
/-- LE_INJ_CTRL.START, W1S (R66). -/
def LE_INJ_CTRL_START (i : Nat) : RF := ⟨0x41001000 + i * 0x20, 31, 31⟩
/-- LE_INJ_CTRL.STOP, W1S (R66). -/
def LE_INJ_CTRL_STOP (i : Nat) : RF := ⟨0x41001000 + i * 0x20, 30, 30⟩
/-- LE_INJ_CTRL.STATE, RO (R66). -/
def LE_INJ_CTRL_STATE (i : Nat) : RF := ⟨0x41001000 + i * 0x20, 29, 27⟩
/-- LE_INJ_CTRL.SIGNAL, RW (R66). -/
def LE_INJ_CTRL_SIGNAL (i : Nat) : RF := ⟨0x41001000 + i * 0x20, 26, 25⟩
/-- LE_INJ_CTRL.POINT, RW (R66). -/
def LE_INJ_CTRL_POINT (i : Nat) : RF := ⟨0x41001000 + i * 0x20, 24, 23⟩
/-- LE_INJ_CTRL.ORDER, RW (R66). -/
def LE_INJ_CTRL_ORDER (i : Nat) : RF := ⟨0x41001000 + i * 0x20, 22, 19⟩
/-- LE_INJ_CTRL.HOLD, RW (R66). -/
def LE_INJ_CTRL_HOLD (i : Nat) : RF := ⟨0x41001000 + i * 0x20, 18, 13⟩
/-- LE_INJ_CTRL.SLOT, RW (R66). -/
def LE_INJ_CTRL_SLOT (i : Nat) : RF := ⟨0x41001000 + i * 0x20, 12, 0⟩
/-- The whole word of LE_INJ_CTRL (R66). -/
def LE_INJ_CTRL (i : Nat) : RF := ⟨0x41001000 + i * 0x20, 31, 0⟩
/-- LE_INJ_CAP.DECIM, RW (R66). -/
def LE_INJ_CAP_DECIM (i : Nat) : RF := ⟨0x4100100C + i * 0x20, 31, 24⟩
/-- LE_INJ_CAP.PRE, RW (R66). -/
def LE_INJ_CAP_PRE (i : Nat) : RF := ⟨0x4100100C + i * 0x20, 23, 13⟩
/-- LE_INJ_CAP.NODE_B, RW (R66). -/
def LE_INJ_CAP_NODE_B (i : Nat) : RF := ⟨0x4100100C + i * 0x20, 9, 5⟩
/-- LE_INJ_CAP.NODE_A, RW (R66). -/
def LE_INJ_CAP_NODE_A (i : Nat) : RF := ⟨0x4100100C + i * 0x20, 4, 0⟩
/-- The whole word of LE_INJ_CAP (R66). -/
def LE_INJ_CAP (i : Nat) : RF := ⟨0x4100100C + i * 0x20, 31, 0⟩
/-- LE_INJ_AMP, RW (R66). -/
def LE_INJ_AMP (i : Nat) : RF := ⟨0x41001004 + i * 0x20, 31, 0⟩
/-- LE_INJ_FREQ, RW (R66). -/
def LE_INJ_FREQ (i : Nat) : RF := ⟨0x41001008 + i * 0x20, 31, 0⟩
/-- LE_INJ_START_LO, RW (R66). -/
def LE_INJ_START_LO (i : Nat) : RF := ⟨0x41001010 + i * 0x20, 31, 0⟩
/-- LE_INJ_START_HI, RW (R66). -/
def LE_INJ_START_HI (i : Nat) : RF := ⟨0x41001014 + i * 0x20, 31, 0⟩
/-- LE_INJ_COUNT, RO (R66). -/
def LE_INJ_COUNT (i : Nat) : RF := ⟨0x41001018 + i * 0x20, 12, 0⟩
/-- BOB_CTRL.ARM, W1S (R66). -/
def BOB_CTRL_ARM (i : Nat) : RF := ⟨0x41002000 + i * 0x40, 31, 31⟩
/-- BOB_CTRL.STOP, W1S (R66). -/
def BOB_CTRL_STOP (i : Nat) : RF := ⟨0x41002000 + i * 0x40, 30, 30⟩
/-- BOB_CTRL.MARK, W1S (R66). -/
def BOB_CTRL_MARK (i : Nat) : RF := ⟨0x41002000 + i * 0x40, 29, 29⟩
/-- BOB_CTRL.SW_TRIG, W1S (R66). -/
def BOB_CTRL_SW_TRIG (i : Nat) : RF := ⟨0x41002000 + i * 0x40, 28, 28⟩
/-- BOB_CTRL.MODE, RW (R66). -/
def BOB_CTRL_MODE (i : Nat) : RF := ⟨0x41002000 + i * 0x40, 27, 26⟩
/-- BOB_CTRL.PROBE_EN, RW (R66). -/
def BOB_CTRL_PROBE_EN (i : Nat) : RF := ⟨0x41002000 + i * 0x40, 3, 0⟩
/-- The whole word of BOB_CTRL (R66). -/
def BOB_CTRL (i : Nat) : RF := ⟨0x41002000 + i * 0x40, 31, 0⟩
/-- BOB_PROBE.DECIM, RW (R66). -/
def BOB_PROBE_DECIM (i : Nat) (j : Nat) : RF := ⟨0x41002004 + i * 0x40 + j * 0x4, 31, 20⟩
/-- BOB_PROBE.NODE, RW (R66). -/
def BOB_PROBE_NODE (i : Nat) (j : Nat) : RF := ⟨0x41002004 + i * 0x40 + j * 0x4, 17, 13⟩
/-- BOB_PROBE.SLOT, RW (R66). -/
def BOB_PROBE_SLOT (i : Nat) (j : Nat) : RF := ⟨0x41002004 + i * 0x40 + j * 0x4, 12, 0⟩
/-- The whole word of BOB_PROBE (R66). -/
def BOB_PROBE (i : Nat) (j : Nat) : RF := ⟨0x41002004 + i * 0x40 + j * 0x4, 31, 0⟩
/-- BOB_TRIG.COND, RW (R66). -/
def BOB_TRIG_COND (i : Nat) : RF := ⟨0x41002014 + i * 0x40, 31, 28⟩
/-- BOB_TRIG.PROBE, RW (R66). -/
def BOB_TRIG_PROBE (i : Nat) : RF := ⟨0x41002014 + i * 0x40, 27, 26⟩
/-- BOB_TRIG.FLAG_BIT, RW (R66). -/
def BOB_TRIG_FLAG_BIT (i : Nat) : RF := ⟨0x41002014 + i * 0x40, 25, 21⟩
/-- BOB_TRIG.DB_SRC, RW (R66). -/
def BOB_TRIG_DB_SRC (i : Nat) : RF := ⟨0x41002014 + i * 0x40, 10, 0⟩
/-- The whole word of BOB_TRIG (R66). -/
def BOB_TRIG (i : Nat) : RF := ⟨0x41002014 + i * 0x40, 31, 0⟩
/-- BOB_LEVEL, RW (R66). -/
def BOB_LEVEL (i : Nat) : RF := ⟨0x41002018 + i * 0x40, 31, 0⟩
/-- BOB_POST, RW (R66). -/
def BOB_POST (i : Nat) : RF := ⟨0x4100201C + i * 0x40, 15, 0⟩
/-- BOB_WPTR.WRAPPED, RO (R66). -/
def BOB_WPTR_WRAPPED (i : Nat) : RF := ⟨0x41002020 + i * 0x40, 16, 16⟩
/-- BOB_WPTR.IDX, RO (R66). -/
def BOB_WPTR_IDX (i : Nat) : RF := ⟨0x41002020 + i * 0x40, 15, 0⟩
/-- The whole word of BOB_WPTR (R66). -/
def BOB_WPTR (i : Nat) : RF := ⟨0x41002020 + i * 0x40, 31, 0⟩
/-- BOB_MARKPTR.VALID, RO (R66). -/
def BOB_MARKPTR_VALID (i : Nat) : RF := ⟨0x41002024 + i * 0x40, 31, 31⟩
/-- BOB_MARKPTR.IDX, RO (R66). -/
def BOB_MARKPTR_IDX (i : Nat) : RF := ⟨0x41002024 + i * 0x40, 15, 0⟩
/-- The whole word of BOB_MARKPTR (R66). -/
def BOB_MARKPTR (i : Nat) : RF := ⟨0x41002024 + i * 0x40, 31, 0⟩
/-- BOB_TRIGPTR.TRIGGERED, RO (R66). -/
def BOB_TRIGPTR_TRIGGERED (i : Nat) : RF := ⟨0x41002028 + i * 0x40, 31, 31⟩
/-- BOB_TRIGPTR.IDX, RO (R66). -/
def BOB_TRIGPTR_IDX (i : Nat) : RF := ⟨0x41002028 + i * 0x40, 15, 0⟩
/-- The whole word of BOB_TRIGPTR (R66). -/
def BOB_TRIGPTR (i : Nat) : RF := ⟨0x41002028 + i * 0x40, 31, 0⟩
/-- BOB_STATUS.BOBBIN_REWIND_LOST, W1C (R66). -/
def BOB_STATUS_BOBBIN_REWIND_LOST (i : Nat) : RF := ⟨0x4100202C + i * 0x40, 3, 3⟩
/-- BOB_STATUS.STOPPED, RO (R66). -/
def BOB_STATUS_STOPPED (i : Nat) : RF := ⟨0x4100202C + i * 0x40, 2, 2⟩
/-- BOB_STATUS.TRIGGERED, RO (R66). -/
def BOB_STATUS_TRIGGERED (i : Nat) : RF := ⟨0x4100202C + i * 0x40, 1, 1⟩
/-- BOB_STATUS.ARMED, RO (R66). -/
def BOB_STATUS_ARMED (i : Nat) : RF := ⟨0x4100202C + i * 0x40, 0, 0⟩
/-- The whole word of BOB_STATUS (R66). -/
def BOB_STATUS (i : Nat) : RF := ⟨0x4100202C + i * 0x40, 31, 0⟩
/-- SL_CTRL.APPLY, W1S (R65). -/
def SL_CTRL_APPLY (i : Nat) : RF := ⟨0x41100000 + i * 0x100, 31, 31⟩
/-- SL_CTRL.EN_PF, RW (R65). -/
def SL_CTRL_EN_PF (i : Nat) : RF := ⟨0x41100000 + i * 0x100, 13, 13⟩
/-- SL_CTRL.EN_VS, RW (R65). -/
def SL_CTRL_EN_VS (i : Nat) : RF := ⟨0x41100000 + i * 0x100, 12, 12⟩
/-- SL_CTRL.PAIR_DIR, RW (R65). -/
def SL_CTRL_PAIR_DIR (i : Nat) : RF := ⟨0x41100000 + i * 0x100, 11, 11⟩
/-- SL_CTRL.PAIR, RW (R65). -/
def SL_CTRL_PAIR (i : Nat) : RF := ⟨0x41100000 + i * 0x100, 10, 10⟩
/-- SL_CTRL.EN_CHAIN1, RW (R65). -/
def SL_CTRL_EN_CHAIN1 (i : Nat) : RF := ⟨0x41100000 + i * 0x100, 9, 9⟩
/-- SL_CTRL.EN_RATE, RW (R65). -/
def SL_CTRL_EN_RATE (i : Nat) : RF := ⟨0x41100000 + i * 0x100, 8, 8⟩
/-- SL_CTRL.EN_TABLE_MAP, RW (R65). -/
def SL_CTRL_EN_TABLE_MAP (i : Nat) : RF := ⟨0x41100000 + i * 0x100, 7, 7⟩
/-- SL_CTRL.EN_LL, RW (R65). -/
def SL_CTRL_EN_LL (i : Nat) : RF := ⟨0x41100000 + i * 0x100, 6, 6⟩
/-- SL_CTRL.EN_FF, RW (R65). -/
def SL_CTRL_EN_FF (i : Nat) : RF := ⟨0x41100000 + i * 0x100, 5, 5⟩
/-- SL_CTRL.EN_RC, RW (R65). -/
def SL_CTRL_EN_RC (i : Nat) : RF := ⟨0x41100000 + i * 0x100, 4, 4⟩
/-- SL_CTRL.EN_D, RW (R65). -/
def SL_CTRL_EN_D (i : Nat) : RF := ⟨0x41100000 + i * 0x100, 3, 3⟩
/-- SL_CTRL.MODE, RW (R65). -/
def SL_CTRL_MODE (i : Nat) : RF := ⟨0x41100000 + i * 0x100, 2, 0⟩
/-- The whole word of SL_CTRL (R65). -/
def SL_CTRL (i : Nat) : RF := ⟨0x41100000 + i * 0x100, 31, 0⟩
/-- SL_TIMING.PRED_MAX_AGE, RW (R65). -/
def SL_TIMING_PRED_MAX_AGE (i : Nat) : RF := ⟨0x41100004 + i * 0x100, 21, 17⟩
/-- SL_TIMING.PHASE, RW (R65). -/
def SL_TIMING_PHASE (i : Nat) : RF := ⟨0x41100004 + i * 0x100, 16, 6⟩
/-- SL_TIMING.SLOW, RW (R65). -/
def SL_TIMING_SLOW (i : Nat) : RF := ⟨0x41100004 + i * 0x100, 5, 5⟩
/-- SL_TIMING.PERIOD_TICKS, RW (R65). -/
def SL_TIMING_PERIOD_TICKS (i : Nat) : RF := ⟨0x41100004 + i * 0x100, 4, 0⟩
/-- The whole word of SL_TIMING (R65). -/
def SL_TIMING (i : Nat) : RF := ⟨0x41100004 + i * 0x100, 31, 0⟩
/-- SL_IN_SEL.PARTNER, RW (R65). -/
def SL_IN_SEL_PARTNER (i : Nat) : RF := ⟨0x41100008 + i * 0x100, 31, 16⟩
/-- SL_IN_SEL.PRIMARY, RW (R65). -/
def SL_IN_SEL_PRIMARY (i : Nat) : RF := ⟨0x41100008 + i * 0x100, 15, 0⟩
/-- The whole word of SL_IN_SEL (R65). -/
def SL_IN_SEL (i : Nat) : RF := ⟨0x41100008 + i * 0x100, 31, 0⟩
/-- SL_FF_SEL.SRC, RW (R65). -/
def SL_FF_SEL_SRC (i : Nat) : RF := ⟨0x4110000C + i * 0x100, 15, 0⟩
/-- The whole word of SL_FF_SEL (R65). -/
def SL_FF_SEL (i : Nat) : RF := ⟨0x4110000C + i * 0x100, 31, 0⟩
/-- SL_OUT_TARGET.TGT, RW (R65). -/
def SL_OUT_TARGET_TGT (i : Nat) : RF := ⟨0x41100010 + i * 0x100, 15, 0⟩
/-- The whole word of SL_OUT_TARGET (R65). -/
def SL_OUT_TARGET (i : Nat) : RF := ⟨0x41100010 + i * 0x100, 31, 0⟩
/-- SL_SETPOINT, RW (R65). -/
def SL_SETPOINT (i : Nat) : RF := ⟨0x41100014 + i * 0x100, 31, 0⟩
/-- SL_KP, RW (R65). -/
def SL_KP (i : Nat) : RF := ⟨0x41100018 + i * 0x100, 31, 0⟩
/-- SL_KI, RW (R65). -/
def SL_KI (i : Nat) : RF := ⟨0x4110001C + i * 0x100, 31, 0⟩
/-- SL_TD, RW (R65). -/
def SL_TD (i : Nat) : RF := ⟨0x41100020 + i * 0x100, 31, 0⟩
/-- SL_DN, RW (R65). -/
def SL_DN (i : Nat) : RF := ⟨0x41100024 + i * 0x100, 31, 0⟩
/-- SL_KT, RW (R65). -/
def SL_KT (i : Nat) : RF := ⟨0x41100028 + i * 0x100, 31, 0⟩
/-- SL_LL_B0, RW (R65). -/
def SL_LL_B0 (i : Nat) : RF := ⟨0x4110002C + i * 0x100, 31, 0⟩
/-- SL_LL_B1, RW (R65). -/
def SL_LL_B1 (i : Nat) : RF := ⟨0x41100030 + i * 0x100, 31, 0⟩
/-- SL_LL_A1, RW (R65). -/
def SL_LL_A1 (i : Nat) : RF := ⟨0x41100034 + i * 0x100, 31, 0⟩
/-- SL_KFF, RW (R65). -/
def SL_KFF (i : Nat) : RF := ⟨0x41100038 + i * 0x100, 31, 0⟩
/-- SL_FF_OFFSET, RW (R65). -/
def SL_FF_OFFSET (i : Nat) : RF := ⟨0x4110003C + i * 0x100, 31, 0⟩
/-- SL_KPF, RW (R65). -/
def SL_KPF (i : Nat) : RF := ⟨0x41100040 + i * 0x100, 31, 0⟩
/-- SL_KRC, RW (R65). -/
def SL_KRC (i : Nat) : RF := ⟨0x41100044 + i * 0x100, 31, 0⟩
/-- SL_RC_ALPHA, RW (R65). -/
def SL_RC_ALPHA (i : Nat) : RF := ⟨0x41100048 + i * 0x100, 31, 0⟩
/-- SL_RC_LSB, RW (R65). -/
def SL_RC_LSB (i : Nat) : RF := ⟨0x4110004C + i * 0x100, 31, 0⟩
/-- SL_RC_CFG.LEAD, RW (R65). -/
def SL_RC_CFG_LEAD (i : Nat) : RF := ⟨0x41100050 + i * 0x100, 22, 16⟩
/-- SL_RC_CFG.PERIOD, RW (R65). -/
def SL_RC_CFG_PERIOD (i : Nat) : RF := ⟨0x41100050 + i * 0x100, 14, 0⟩
/-- The whole word of SL_RC_CFG (R65). -/
def SL_RC_CFG (i : Nat) : RF := ⟨0x41100050 + i * 0x100, 31, 0⟩
/-- SL_UMIN, RW (R65). -/
def SL_UMIN (i : Nat) : RF := ⟨0x41100054 + i * 0x100, 31, 0⟩
/-- SL_UMAX, RW (R65). -/
def SL_UMAX (i : Nat) : RF := ⟨0x41100058 + i * 0x100, 31, 0⟩
/-- SL_RATE, RW (R65). -/
def SL_RATE (i : Nat) : RF := ⟨0x4110005C + i * 0x100, 31, 0⟩
/-- SL_TABLE_SEL.MAP, RW (R65). -/
def SL_TABLE_SEL_MAP (i : Nat) : RF := ⟨0x41100060 + i * 0x100, 25, 16⟩
/-- SL_TABLE_SEL.LAW, RW (R65). -/
def SL_TABLE_SEL_LAW (i : Nat) : RF := ⟨0x41100060 + i * 0x100, 9, 0⟩
/-- The whole word of SL_TABLE_SEL (R65). -/
def SL_TABLE_SEL (i : Nat) : RF := ⟨0x41100060 + i * 0x100, 31, 0⟩
/-- SL_MANUAL, RW (R65). -/
def SL_MANUAL (i : Nat) : RF := ⟨0x41100064 + i * 0x100, 31, 0⟩
/-- SL_PAIR_TOL, RW (R65). -/
def SL_PAIR_TOL (i : Nat) : RF := ⟨0x41100068 + i * 0x100, 31, 0⟩
/-- SL_VS_SEL.SRC, RW (R65). -/
def SL_VS_SEL_SRC (i : Nat) : RF := ⟨0x4110006C + i * 0x100, 15, 0⟩
/-- The whole word of SL_VS_SEL (R65). -/
def SL_VS_SEL (i : Nat) : RF := ⟨0x4110006C + i * 0x100, 31, 0⟩
/-- SL_KP1, RW (R65). -/
def SL_KP1 (i : Nat) : RF := ⟨0x41100070 + i * 0x100, 31, 0⟩
/-- SL_KI1, RW (R65). -/
def SL_KI1 (i : Nat) : RF := ⟨0x41100074 + i * 0x100, 31, 0⟩
/-- SL_KFF1, RW (R65). -/
def SL_KFF1 (i : Nat) : RF := ⟨0x41100078 + i * 0x100, 31, 0⟩
/-- SL_KT1, RW (R65). -/
def SL_KT1 (i : Nat) : RF := ⟨0x4110007C + i * 0x100, 31, 0⟩
/-- SL_UMIN1, RW (R65). -/
def SL_UMIN1 (i : Nat) : RF := ⟨0x41100080 + i * 0x100, 31, 0⟩
/-- SL_UMAX1, RW (R65). -/
def SL_UMAX1 (i : Nat) : RF := ⟨0x41100084 + i * 0x100, 31, 0⟩
/-- SL_RATE1, RW (R65). -/
def SL_RATE1 (i : Nat) : RF := ⟨0x41100088 + i * 0x100, 31, 0⟩
/-- SL_FLAGS.EFF_MODE, RO (R65). -/
def SL_FLAGS_EFF_MODE (i : Nat) : RF := ⟨0x411000A0 + i * 0x100, 26, 24⟩
/-- SL_FLAGS.INJ_SAT, W1C (R65). -/
def SL_FLAGS_INJ_SAT (i : Nat) : RF := ⟨0x411000A0 + i * 0x100, 18, 18⟩
/-- SL_FLAGS.LANE_RETRY, W1C (R65). -/
def SL_FLAGS_LANE_RETRY (i : Nat) : RF := ⟨0x411000A0 + i * 0x100, 17, 17⟩
/-- SL_FLAGS.CTX_SILENT, RO (R65). -/
def SL_FLAGS_CTX_SILENT (i : Nat) : RF := ⟨0x411000A0 + i * 0x100, 16, 16⟩
/-- SL_FLAGS.INJ_ACTIVE, RO (R65). -/
def SL_FLAGS_INJ_ACTIVE (i : Nat) : RF := ⟨0x411000A0 + i * 0x100, 15, 15⟩
/-- SL_FLAGS.SLEWING, RO (R65). -/
def SL_FLAGS_SLEWING (i : Nat) : RF := ⟨0x411000A0 + i * 0x100, 14, 14⟩
/-- SL_FLAGS.RATE_LIM, RO (R65). -/
def SL_FLAGS_RATE_LIM (i : Nat) : RF := ⟨0x411000A0 + i * 0x100, 13, 13⟩
/-- SL_FLAGS.SAT, RO (R65). -/
def SL_FLAGS_SAT (i : Nat) : RF := ⟨0x411000A0 + i * 0x100, 12, 12⟩
/-- SL_FLAGS.RC_CLAMP, W1C (R65). -/
def SL_FLAGS_RC_CLAMP (i : Nat) : RF := ⟨0x411000A0 + i * 0x100, 11, 11⟩
/-- SL_FLAGS.RC_DENIED, RO (R65). -/
def SL_FLAGS_RC_DENIED (i : Nat) : RF := ⟨0x411000A0 + i * 0x100, 10, 10⟩
/-- SL_FLAGS.PRED_STALE, RO (R65). -/
def SL_FLAGS_PRED_STALE (i : Nat) : RF := ⟨0x411000A0 + i * 0x100, 9, 9⟩
/-- SL_FLAGS.PRED_LATE, RO (R65). -/
def SL_FLAGS_PRED_LATE (i : Nat) : RF := ⟨0x411000A0 + i * 0x100, 8, 8⟩
/-- SL_FLAGS.PAIR_SUSPECT, RO (R65). -/
def SL_FLAGS_PAIR_SUSPECT (i : Nat) : RF := ⟨0x411000A0 + i * 0x100, 7, 7⟩
/-- SL_FLAGS.PAIR_DISAGREE, RO (R65). -/
def SL_FLAGS_PAIR_DISAGREE (i : Nat) : RF := ⟨0x411000A0 + i * 0x100, 6, 6⟩
/-- SL_FLAGS.FB_TABLE, RO (R65). -/
def SL_FLAGS_FB_TABLE (i : Nat) : RF := ⟨0x411000A0 + i * 0x100, 5, 5⟩
/-- SL_FLAGS.FB_VIRTUAL, RO (R65). -/
def SL_FLAGS_FB_VIRTUAL (i : Nat) : RF := ⟨0x411000A0 + i * 0x100, 4, 4⟩
/-- SL_FLAGS.FB_PARTNER, RO (R65). -/
def SL_FLAGS_FB_PARTNER (i : Nat) : RF := ⟨0x411000A0 + i * 0x100, 3, 3⟩
/-- SL_FLAGS.STALE, RO (R65). -/
def SL_FLAGS_STALE (i : Nat) : RF := ⟨0x411000A0 + i * 0x100, 2, 2⟩
/-- SL_FLAGS.FROZEN, RO (R65). -/
def SL_FLAGS_FROZEN (i : Nat) : RF := ⟨0x411000A0 + i * 0x100, 1, 1⟩
/-- SL_FLAGS.MISS, W1C (R65). -/
def SL_FLAGS_MISS (i : Nat) : RF := ⟨0x411000A0 + i * 0x100, 0, 0⟩
/-- The whole word of SL_FLAGS (R65). -/
def SL_FLAGS (i : Nat) : RF := ⟨0x411000A0 + i * 0x100, 31, 0⟩
/-- SL_OUT0, RO (R65). -/
def SL_OUT0 (i : Nat) : RF := ⟨0x411000A4 + i * 0x100, 31, 0⟩
/-- SL_OUT1, RO (R65). -/
def SL_OUT1 (i : Nat) : RF := ⟨0x411000A8 + i * 0x100, 31, 0⟩
/-- SL_INTEG0, RO (R65). -/
def SL_INTEG0 (i : Nat) : RF := ⟨0x411000AC + i * 0x100, 31, 0⟩
/-- SL_INTEG1, RO (R65). -/
def SL_INTEG1 (i : Nat) : RF := ⟨0x411000B0 + i * 0x100, 31, 0⟩
/-- SL_DSTATE, RO (R65). -/
def SL_DSTATE (i : Nat) : RF := ⟨0x411000B4 + i * 0x100, 31, 0⟩
/-- SL_LL_E1, RO (R65). -/
def SL_LL_E1 (i : Nat) : RF := ⟨0x411000B8 + i * 0x100, 31, 0⟩
/-- SL_LL_EF1, RO (R65). -/
def SL_LL_EF1 (i : Nat) : RF := ⟨0x411000BC + i * 0x100, 31, 0⟩
/-- SL_Y_PREV, RO (R65). -/
def SL_Y_PREV (i : Nat) : RF := ⟨0x411000C0 + i * 0x100, 31, 0⟩
/-- SL_UPRE_PREV, RO (R65). -/
def SL_UPRE_PREV (i : Nat) : RF := ⟨0x411000C4 + i * 0x100, 31, 0⟩
/-- SL_RC_STATE.PAGES, RO (R65). -/
def SL_RC_STATE_PAGES (i : Nat) : RF := ⟨0x411000C8 + i * 0x100, 21, 15⟩
/-- SL_RC_STATE.IDX, RO (R65). -/
def SL_RC_STATE_IDX (i : Nat) : RF := ⟨0x411000C8 + i * 0x100, 14, 0⟩
/-- The whole word of SL_RC_STATE (R65). -/
def SL_RC_STATE (i : Nat) : RF := ⟨0x411000C8 + i * 0x100, 31, 0⟩
/-- SL_PRED_FRAME, RO (R65). -/
def SL_PRED_FRAME (i : Nat) : RF := ⟨0x411000CC + i * 0x100, 31, 0⟩
/-- SL_LAST_TS_LO, RO (R65). -/
def SL_LAST_TS_LO (i : Nat) : RF := ⟨0x411000D0 + i * 0x100, 31, 0⟩
/-- SL_LAST_TS_HI, RO (R65). -/
def SL_LAST_TS_HI (i : Nat) : RF := ⟨0x411000D4 + i * 0x100, 31, 0⟩
/-- SL_FB_STATE.SOURCE, RO (R65). -/
def SL_FB_STATE_SOURCE (i : Nat) : RF := ⟨0x411000D8 + i * 0x100, 10, 8⟩
/-- SL_FB_STATE.SAME, RO (R65). -/
def SL_FB_STATE_SAME (i : Nat) : RF := ⟨0x411000D8 + i * 0x100, 7, 0⟩
/-- The whole word of SL_FB_STATE (R65). -/
def SL_FB_STATE (i : Nat) : RF := ⟨0x411000D8 + i * 0x100, 31, 0⟩
/-- SL_VS_TIME, RO (R65). -/
def SL_VS_TIME (i : Nat) : RF := ⟨0x411000DC + i * 0x100, 31, 0⟩
/-- SL_SLEW_TARGET, RO (R65). -/
def SL_SLEW_TARGET (i : Nat) : RF := ⟨0x411000E0 + i * 0x100, 31, 0⟩
/-- SL_MISS_SLOT.SLACK, RO (R65). -/
def SL_MISS_SLOT_SLACK (i : Nat) : RF := ⟨0x411000E4 + i * 0x100, 31, 16⟩
/-- SL_MISS_SLOT.MISSED, RO (R65). -/
def SL_MISS_SLOT_MISSED (i : Nat) : RF := ⟨0x411000E4 + i * 0x100, 15, 0⟩
/-- The whole word of SL_MISS_SLOT (R65). -/
def SL_MISS_SLOT (i : Nat) : RF := ⟨0x411000E4 + i * 0x100, 31, 0⟩
/-- LE_TABLE, RW (R64). -/
def LE_TABLE (i : Nat) (j : Nat) : RF := ⟨0x41300000 + i * 0x80 + j * 0x4, 31, 0⟩
/-- LE_RCMAP, RO (R64). -/
def LE_RCMAP (i : Nat) (j : Nat) : RF := ⟨0x41400000 + i * 0x80 + j * 0x4, 31, 0⟩
/-- LE_CAPMEM, RO (R64). -/
def LE_CAPMEM (i : Nat) (j : Nat) : RF := ⟨0x41800000 + i * 0x8000 + j * 0x4, 31, 0⟩
/-- BOB_MEM, RO (R64). -/
def BOB_MEM (i : Nat) (j : Nat) : RF := ⟨0x41A00000 + i * 0x80000 + j * 0x4, 31, 0⟩

/-- The rows of the register tables of chapter 02. -/
def regRowsLE : List RegRow :=
  [⟨"LE_CTRL", 0x41000000, 1, 0x0, 1, 0x0, 0, [⟨15, 8, .rw, 0xFF⟩, ⟨0, 0, .rw, 0x0⟩]⟩,
   ⟨"LE_FRAME", 0x41000004, 1, 0x0, 1, 0x0, 0, [⟨13, 8, .rw, 0x6⟩, ⟨5, 0, .rw, 0xA⟩]⟩,
   ⟨"LE_STATUS", 0x41000008, 1, 0x0, 1, 0x0, 0, [⟨15, 8, .ro, 0x0⟩, ⟨2, 2, .w1c, 0x0⟩, ⟨1, 1, .ro, 0x0⟩, ⟨0, 0, .ro, 0x0⟩]⟩,
   ⟨"LE_FRAME_NUM_LO", 0x4100000C, 1, 0x0, 1, 0x0, 0, [⟨31, 0, .ro, 0x0⟩]⟩,
   ⟨"LE_FRAME_NUM_HI", 0x41000010, 1, 0x0, 1, 0x0, 0, [⟨31, 0, .ro, 0x0⟩]⟩,
   ⟨"LE_MISS_COUNT", 0x41000014, 1, 0x0, 1, 0x0, 0, [⟨31, 0, .rc, 0x0⟩]⟩,
   ⟨"LE_TICK_PEAK", 0x41000018, 1, 0x0, 1, 0x0, 0, [⟨15, 0, .rc, 0x0⟩]⟩,
   ⟨"LE_RC_DENIED", 0x4100001C, 1, 0x0, 1, 0x0, 0, [⟨12, 0, .ro, 0x0⟩]⟩,
   ⟨"LE_RC_FREE", 0x41000020, 1, 0x0, 1, 0x0, 0, [⟨16, 0, .ro, 0x10000⟩]⟩,
   ⟨"LE_RC_ADDR", 0x41000024, 1, 0x0, 1, 0x0, 0, [⟨23, 0, .rw, 0x0⟩]⟩,
   ⟨"LE_RC_DATA", 0x41000028, 1, 0x0, 1, 0x0, 0, [⟨15, 0, .rw, 0x0⟩]⟩,
   ⟨"LE_INJ_CTRL", 0x41001000, 32, 0x20, 1, 0x0, 0, [⟨31, 31, .w1s, 0x0⟩, ⟨30, 30, .w1s, 0x0⟩, ⟨29, 27, .ro, 0x0⟩, ⟨26, 25, .rw, 0x0⟩, ⟨24, 23, .rw, 0x0⟩, ⟨22, 19, .rw, 0xB⟩, ⟨18, 13, .rw, 0x1⟩, ⟨12, 0, .rw, 0x0⟩]⟩,
   ⟨"LE_INJ_CAP", 0x4100100C, 32, 0x20, 1, 0x0, 0, [⟨31, 24, .rw, 0x1⟩, ⟨23, 13, .rw, 0x0⟩, ⟨9, 5, .rw, 0x0⟩, ⟨4, 0, .rw, 0xC⟩]⟩,
   ⟨"LE_INJ_AMP", 0x41001004, 32, 0x20, 1, 0x0, 0, [⟨31, 0, .rw, 0x0⟩]⟩,
   ⟨"LE_INJ_FREQ", 0x41001008, 32, 0x20, 1, 0x0, 0, [⟨31, 0, .rw, 0x0⟩]⟩,
   ⟨"LE_INJ_START_LO", 0x41001010, 32, 0x20, 1, 0x0, 0, [⟨31, 0, .rw, 0x0⟩]⟩,
   ⟨"LE_INJ_START_HI", 0x41001014, 32, 0x20, 1, 0x0, 0, [⟨31, 0, .rw, 0x0⟩]⟩,
   ⟨"LE_INJ_COUNT", 0x41001018, 32, 0x20, 1, 0x0, 0, [⟨12, 0, .ro, 0x0⟩]⟩,
   ⟨"BOB_CTRL", 0x41002000, 8, 0x40, 1, 0x0, 0, [⟨31, 31, .w1s, 0x0⟩, ⟨30, 30, .w1s, 0x0⟩, ⟨29, 29, .w1s, 0x0⟩, ⟨28, 28, .w1s, 0x0⟩, ⟨27, 26, .rw, 0x0⟩, ⟨3, 0, .rw, 0x0⟩]⟩,
   ⟨"BOB_PROBE", 0x41002004, 8, 0x40, 4, 0x4, 0, [⟨31, 20, .rw, 0x1⟩, ⟨17, 13, .rw, 0x0⟩, ⟨12, 0, .rw, 0x0⟩]⟩] ++
  [⟨"BOB_TRIG", 0x41002014, 8, 0x40, 1, 0x0, 0, [⟨31, 28, .rw, 0x0⟩, ⟨27, 26, .rw, 0x0⟩, ⟨25, 21, .rw, 0x0⟩, ⟨10, 0, .rw, 0x0⟩]⟩,
   ⟨"BOB_LEVEL", 0x41002018, 8, 0x40, 1, 0x0, 0, [⟨31, 0, .rw, 0x0⟩]⟩,
   ⟨"BOB_POST", 0x4100201C, 8, 0x40, 1, 0x0, 0, [⟨15, 0, .rw, 0x0⟩]⟩,
   ⟨"BOB_WPTR", 0x41002020, 8, 0x40, 1, 0x0, 0, [⟨16, 16, .ro, 0x0⟩, ⟨15, 0, .ro, 0x0⟩]⟩,
   ⟨"BOB_MARKPTR", 0x41002024, 8, 0x40, 1, 0x0, 0, [⟨31, 31, .ro, 0x0⟩, ⟨15, 0, .ro, 0x0⟩]⟩,
   ⟨"BOB_TRIGPTR", 0x41002028, 8, 0x40, 1, 0x0, 0, [⟨31, 31, .ro, 0x0⟩, ⟨15, 0, .ro, 0x0⟩]⟩,
   ⟨"BOB_STATUS", 0x4100202C, 8, 0x40, 1, 0x0, 0, [⟨3, 3, .w1c, 0x0⟩, ⟨2, 2, .ro, 0x0⟩, ⟨1, 1, .ro, 0x0⟩, ⟨0, 0, .ro, 0x0⟩]⟩,
   ⟨"SL_CTRL", 0x41100000, 4608, 0x100, 1, 0x0, 0, [⟨31, 31, .w1s, 0x0⟩, ⟨13, 13, .rw, 0x0⟩, ⟨12, 12, .rw, 0x0⟩, ⟨11, 11, .rw, 0x0⟩, ⟨10, 10, .rw, 0x0⟩, ⟨9, 9, .rw, 0x0⟩, ⟨8, 8, .rw, 0x0⟩, ⟨7, 7, .rw, 0x0⟩, ⟨6, 6, .rw, 0x0⟩, ⟨5, 5, .rw, 0x0⟩, ⟨4, 4, .rw, 0x0⟩, ⟨3, 3, .rw, 0x0⟩, ⟨2, 0, .rw, 0x0⟩]⟩,
   ⟨"SL_TIMING", 0x41100004, 4608, 0x100, 1, 0x0, 0, [⟨21, 17, .rw, 0x4⟩, ⟨16, 6, .rw, 0x0⟩, ⟨5, 5, .rw, 0x0⟩, ⟨4, 0, .rw, 0x14⟩]⟩,
   ⟨"SL_IN_SEL", 0x41100008, 4608, 0x100, 1, 0x0, 0, [⟨31, 16, .rw, 0x0⟩, ⟨15, 0, .rw, 0x0⟩]⟩,
   ⟨"SL_FF_SEL", 0x4110000C, 4608, 0x100, 1, 0x0, 0, [⟨15, 0, .rw, 0x0⟩]⟩,
   ⟨"SL_OUT_TARGET", 0x41100010, 4608, 0x100, 1, 0x0, 0, [⟨15, 0, .rw, 0x0⟩]⟩,
   ⟨"SL_SETPOINT", 0x41100014, 4608, 0x100, 1, 0x0, 0, [⟨31, 0, .rw, 0x0⟩]⟩,
   ⟨"SL_KP", 0x41100018, 4608, 0x100, 1, 0x0, 0, [⟨31, 0, .rw, 0x0⟩]⟩,
   ⟨"SL_KI", 0x4110001C, 4608, 0x100, 1, 0x0, 0, [⟨31, 0, .rw, 0x0⟩]⟩,
   ⟨"SL_TD", 0x41100020, 4608, 0x100, 1, 0x0, 0, [⟨31, 0, .rw, 0x0⟩]⟩,
   ⟨"SL_DN", 0x41100024, 4608, 0x100, 1, 0x0, 0, [⟨31, 0, .rw, 0x41200000⟩]⟩,
   ⟨"SL_KT", 0x41100028, 4608, 0x100, 1, 0x0, 0, [⟨31, 0, .rw, 0x0⟩]⟩,
   ⟨"SL_LL_B0", 0x4110002C, 4608, 0x100, 1, 0x0, 0, [⟨31, 0, .rw, 0x3F800000⟩]⟩,
   ⟨"SL_LL_B1", 0x41100030, 4608, 0x100, 1, 0x0, 0, [⟨31, 0, .rw, 0x0⟩]⟩] ++
  [⟨"SL_LL_A1", 0x41100034, 4608, 0x100, 1, 0x0, 0, [⟨31, 0, .rw, 0x0⟩]⟩,
   ⟨"SL_KFF", 0x41100038, 4608, 0x100, 1, 0x0, 0, [⟨31, 0, .rw, 0x0⟩]⟩,
   ⟨"SL_FF_OFFSET", 0x4110003C, 4608, 0x100, 1, 0x0, 0, [⟨31, 0, .rw, 0x0⟩]⟩,
   ⟨"SL_KPF", 0x41100040, 4608, 0x100, 1, 0x0, 0, [⟨31, 0, .rw, 0x0⟩]⟩,
   ⟨"SL_KRC", 0x41100044, 4608, 0x100, 1, 0x0, 0, [⟨31, 0, .rw, 0x0⟩]⟩,
   ⟨"SL_RC_ALPHA", 0x41100048, 4608, 0x100, 1, 0x0, 0, [⟨31, 0, .rw, 0x3F7EB852⟩]⟩,
   ⟨"SL_RC_LSB", 0x4110004C, 4608, 0x100, 1, 0x0, 0, [⟨31, 0, .rw, 0x3D800000⟩]⟩,
   ⟨"SL_RC_CFG", 0x41100050, 4608, 0x100, 1, 0x0, 0, [⟨22, 16, .rw, 0x0⟩, ⟨14, 0, .rw, 0x0⟩]⟩,
   ⟨"SL_UMIN", 0x41100054, 4608, 0x100, 1, 0x0, 0, [⟨31, 0, .rw, 0x0⟩]⟩,
   ⟨"SL_UMAX", 0x41100058, 4608, 0x100, 1, 0x0, 0, [⟨31, 0, .rw, 0x0⟩]⟩,
   ⟨"SL_RATE", 0x4110005C, 4608, 0x100, 1, 0x0, 0, [⟨31, 0, .rw, 0x0⟩]⟩,
   ⟨"SL_TABLE_SEL", 0x41100060, 4608, 0x100, 1, 0x0, 0, [⟨25, 16, .rw, 0x0⟩, ⟨9, 0, .rw, 0x0⟩]⟩,
   ⟨"SL_MANUAL", 0x41100064, 4608, 0x100, 1, 0x0, 0, [⟨31, 0, .rw, 0x0⟩]⟩,
   ⟨"SL_PAIR_TOL", 0x41100068, 4608, 0x100, 1, 0x0, 0, [⟨31, 0, .rw, 0x3F000000⟩]⟩,
   ⟨"SL_VS_SEL", 0x4110006C, 4608, 0x100, 1, 0x0, 0, [⟨15, 0, .rw, 0x0⟩]⟩,
   ⟨"SL_KP1", 0x41100070, 4608, 0x100, 1, 0x0, 0, [⟨31, 0, .rw, 0x0⟩]⟩,
   ⟨"SL_KI1", 0x41100074, 4608, 0x100, 1, 0x0, 0, [⟨31, 0, .rw, 0x0⟩]⟩,
   ⟨"SL_KFF1", 0x41100078, 4608, 0x100, 1, 0x0, 0, [⟨31, 0, .rw, 0x0⟩]⟩,
   ⟨"SL_KT1", 0x4110007C, 4608, 0x100, 1, 0x0, 0, [⟨31, 0, .rw, 0x0⟩]⟩,
   ⟨"SL_UMIN1", 0x41100080, 4608, 0x100, 1, 0x0, 0, [⟨31, 0, .rw, 0x0⟩]⟩] ++
  [⟨"SL_UMAX1", 0x41100084, 4608, 0x100, 1, 0x0, 0, [⟨31, 0, .rw, 0x0⟩]⟩,
   ⟨"SL_RATE1", 0x41100088, 4608, 0x100, 1, 0x0, 0, [⟨31, 0, .rw, 0x0⟩]⟩,
   ⟨"SL_FLAGS", 0x411000A0, 4608, 0x100, 1, 0x0, 0, [⟨26, 24, .ro, 0x0⟩, ⟨18, 18, .w1c, 0x0⟩, ⟨17, 17, .w1c, 0x0⟩, ⟨16, 16, .ro, 0x0⟩, ⟨15, 15, .ro, 0x0⟩, ⟨14, 14, .ro, 0x0⟩, ⟨13, 13, .ro, 0x0⟩, ⟨12, 12, .ro, 0x0⟩, ⟨11, 11, .w1c, 0x0⟩, ⟨10, 10, .ro, 0x0⟩, ⟨9, 9, .ro, 0x0⟩, ⟨8, 8, .ro, 0x0⟩, ⟨7, 7, .ro, 0x0⟩, ⟨6, 6, .ro, 0x0⟩, ⟨5, 5, .ro, 0x0⟩, ⟨4, 4, .ro, 0x0⟩, ⟨3, 3, .ro, 0x0⟩, ⟨2, 2, .ro, 0x0⟩, ⟨1, 1, .ro, 0x0⟩, ⟨0, 0, .w1c, 0x0⟩]⟩,
   ⟨"SL_OUT0", 0x411000A4, 4608, 0x100, 1, 0x0, 0, [⟨31, 0, .ro, 0x0⟩]⟩,
   ⟨"SL_OUT1", 0x411000A8, 4608, 0x100, 1, 0x0, 0, [⟨31, 0, .ro, 0x0⟩]⟩,
   ⟨"SL_INTEG0", 0x411000AC, 4608, 0x100, 1, 0x0, 0, [⟨31, 0, .ro, 0x0⟩]⟩,
   ⟨"SL_INTEG1", 0x411000B0, 4608, 0x100, 1, 0x0, 0, [⟨31, 0, .ro, 0x0⟩]⟩,
   ⟨"SL_DSTATE", 0x411000B4, 4608, 0x100, 1, 0x0, 0, [⟨31, 0, .ro, 0x0⟩]⟩,
   ⟨"SL_LL_E1", 0x411000B8, 4608, 0x100, 1, 0x0, 0, [⟨31, 0, .ro, 0x0⟩]⟩,
   ⟨"SL_LL_EF1", 0x411000BC, 4608, 0x100, 1, 0x0, 0, [⟨31, 0, .ro, 0x0⟩]⟩,
   ⟨"SL_Y_PREV", 0x411000C0, 4608, 0x100, 1, 0x0, 0, [⟨31, 0, .ro, 0x0⟩]⟩,
   ⟨"SL_UPRE_PREV", 0x411000C4, 4608, 0x100, 1, 0x0, 0, [⟨31, 0, .ro, 0x0⟩]⟩,
   ⟨"SL_RC_STATE", 0x411000C8, 4608, 0x100, 1, 0x0, 0, [⟨21, 15, .ro, 0x0⟩, ⟨14, 0, .ro, 0x0⟩]⟩,
   ⟨"SL_PRED_FRAME", 0x411000CC, 4608, 0x100, 1, 0x0, 0, [⟨31, 0, .ro, 0x0⟩]⟩,
   ⟨"SL_LAST_TS_LO", 0x411000D0, 4608, 0x100, 1, 0x0, 0, [⟨31, 0, .ro, 0x0⟩]⟩,
   ⟨"SL_LAST_TS_HI", 0x411000D4, 4608, 0x100, 1, 0x0, 0, [⟨31, 0, .ro, 0x0⟩]⟩,
   ⟨"SL_FB_STATE", 0x411000D8, 4608, 0x100, 1, 0x0, 0, [⟨10, 8, .ro, 0x0⟩, ⟨7, 0, .ro, 0x0⟩]⟩,
   ⟨"SL_VS_TIME", 0x411000DC, 4608, 0x100, 1, 0x0, 0, [⟨31, 0, .ro, 0x0⟩]⟩,
   ⟨"SL_SLEW_TARGET", 0x411000E0, 4608, 0x100, 1, 0x0, 0, [⟨31, 0, .ro, 0x0⟩]⟩,
   ⟨"SL_MISS_SLOT", 0x411000E4, 4608, 0x100, 1, 0x0, 0, [⟨31, 16, .ro, 0x0⟩, ⟨15, 0, .ro, 0x0⟩]⟩,
   ⟨"SL reserved 0x8C", 0x4110008C, 4608, 0x100, 5, 0x4, 0, []⟩,
   ⟨"SL reserved 0xE8", 0x411000E8, 4608, 0x100, 6, 0x4, 0, []⟩] ++
  [⟨"LE_TABLE", 0x41300000, 1024, 0x80, 32, 0x4, 0, [⟨31, 0, .rw, 0x0⟩]⟩,
   ⟨"LE_RCMAP", 0x41400000, 4608, 0x80, 32, 0x4, 0, [⟨31, 0, .ro, 0x0⟩]⟩,
   ⟨"LE_CAPMEM", 0x41800000, 32, 0x8000, 8192, 0x4, 0, [⟨31, 0, .ro, 0x0⟩]⟩,
   ⟨"BOB_MEM", 0x41A00000, 8, 0x80000, 131072, 0x4, 0, [⟨31, 0, .ro, 0x0⟩]⟩]

/-! ### Vat queues (spec chapter 07) -/

/-- VQ_CTRL.ACCEPT, RW (R206). -/
def VQ_CTRL_ACCEPT : RF := ⟨0x42000000, 2, 2⟩
/-- VQ_CTRL.SQ_EN, RW (R206). -/
def VQ_CTRL_SQ_EN : RF := ⟨0x42000000, 1, 1⟩
/-- VQ_CTRL.IQ_EN, RW (R206). -/
def VQ_CTRL_IQ_EN : RF := ⟨0x42000000, 0, 0⟩
/-- The whole word of VQ_CTRL (R206). -/
def VQ_CTRL : RF := ⟨0x42000000, 31, 0⟩
/-- VQ_PKT_TIMEOUT, RW (R206). -/
def VQ_PKT_TIMEOUT : RF := ⟨0x42000004, 13, 0⟩
/-- VQ_NOTICE.GROUP, RW (R206). -/
def VQ_NOTICE_GROUP : RF := ⟨0x42000008, 31, 28⟩
/-- VQ_NOTICE.BASE, RW (R206). -/
def VQ_NOTICE_BASE : RF := ⟨0x42000008, 10, 0⟩
/-- The whole word of VQ_NOTICE (R206). -/
def VQ_NOTICE : RF := ⟨0x42000008, 31, 0⟩
/-- VQ_PTRERR_COUNT, RC (R206). -/
def VQ_PTRERR_COUNT : RF := ⟨0x4200000C, 15, 0⟩
/-- VQ_RESET_LO, W1C (R206). -/
def VQ_RESET_LO : RF := ⟨0x42000010, 31, 0⟩
/-- VQ_RESET_HI, W1C (R206). -/
def VQ_RESET_HI : RF := ⟨0x42000014, 31, 0⟩
/-- VQ_RESET_SQ, W1C (R206). -/
def VQ_RESET_SQ : RF := ⟨0x42000018, 31, 0⟩
/-- VQ_BADREC, RC (R206). -/
def VQ_BADREC : RF := ⟨0x4200001C, 15, 0⟩
/-- VQ_STBY_DISCARD, RC (R206). -/
def VQ_STBY_DISCARD : RF := ⟨0x42000020, 31, 0⟩
/-- VQ_IQ_CTRL.FLUSH, W1S (R206). -/
def VQ_IQ_CTRL_FLUSH (i : Nat) : RF := ⟨0x42001000 + i * 0x20, 31, 31⟩
/-- VQ_IQ_CTRL.ENABLE, RW (R206). -/
def VQ_IQ_CTRL_ENABLE (i : Nat) : RF := ⟨0x42001000 + i * 0x20, 0, 0⟩
/-- The whole word of VQ_IQ_CTRL (R206). -/
def VQ_IQ_CTRL (i : Nat) : RF := ⟨0x42001000 + i * 0x20, 31, 0⟩
/-- VQ_IQ_STAT.FLUSHING, RO (R206). -/
def VQ_IQ_STAT_FLUSHING (i : Nat) : RF := ⟨0x42001004 + i * 0x20, 31, 31⟩
/-- VQ_IQ_STAT.RESET_SEEN, W1C (R206). -/
def VQ_IQ_STAT_RESET_SEEN (i : Nat) : RF := ⟨0x42001004 + i * 0x20, 30, 30⟩
/-- VQ_IQ_STAT.READ_LINES, RO (R206). -/
def VQ_IQ_STAT_READ_LINES (i : Nat) : RF := ⟨0x42001004 + i * 0x20, 26, 16⟩
/-- VQ_IQ_STAT.FILL_LINES, RO (R206). -/
def VQ_IQ_STAT_FILL_LINES (i : Nat) : RF := ⟨0x42001004 + i * 0x20, 10, 0⟩
/-- The whole word of VQ_IQ_STAT (R206). -/
def VQ_IQ_STAT (i : Nat) : RF := ⟨0x42001004 + i * 0x20, 31, 0⟩
/-- VQ_IQ_TIMEOUTS, RC (R206). -/
def VQ_IQ_TIMEOUTS (i : Nat) : RF := ⟨0x42001008 + i * 0x20, 15, 0⟩
/-- VQ_IQ_VIOL, RC (R206). -/
def VQ_IQ_VIOL (i : Nat) : RF := ⟨0x4200100C + i * 0x20, 15, 0⟩
/-- VQ_IQ_BADWR, RC (R206). -/
def VQ_IQ_BADWR (i : Nat) : RF := ⟨0x42001010 + i * 0x20, 15, 0⟩
/-- VQ_IQ_FLUSHED, RC (R206). -/
def VQ_IQ_FLUSHED (i : Nat) : RF := ⟨0x42001014 + i * 0x20, 15, 0⟩
/-- VQ_SQ_CTRL.FLUSH, W1S (R206). -/
def VQ_SQ_CTRL_FLUSH (i : Nat) : RF := ⟨0x42002000 + i * 0x40, 31, 31⟩
/-- VQ_SQ_CTRL.LEVEL, RW (R206). -/
def VQ_SQ_CTRL_LEVEL (i : Nat) : RF := ⟨0x42002000 + i * 0x40, 23, 16⟩
/-- VQ_SQ_CTRL.ENABLE, RW (R206). -/
def VQ_SQ_CTRL_ENABLE (i : Nat) : RF := ⟨0x42002000 + i * 0x40, 0, 0⟩
/-- The whole word of VQ_SQ_CTRL (R206). -/
def VQ_SQ_CTRL (i : Nat) : RF := ⟨0x42002000 + i * 0x40, 31, 0⟩
/-- VQ_SQ_SRC, RW (R206). -/
def VQ_SQ_SRC (i : Nat) : RF := ⟨0x42002004 + i * 0x40, 7, 0⟩
/-- VQ_SQ_DEADLINE, RW (R206). -/
def VQ_SQ_DEADLINE (i : Nat) : RF := ⟨0x42002008 + i * 0x40, 31, 0⟩
/-- VQ_SQ_STAT.FLUSHING, RO (R206). -/
def VQ_SQ_STAT_FLUSHING (i : Nat) : RF := ⟨0x4200200C + i * 0x40, 31, 31⟩
/-- VQ_SQ_STAT.RESET_SEEN, W1C (R206). -/
def VQ_SQ_STAT_RESET_SEEN (i : Nat) : RF := ⟨0x4200200C + i * 0x40, 30, 30⟩
/-- VQ_SQ_STAT.ABOVE, RO (R206). -/
def VQ_SQ_STAT_ABOVE (i : Nat) : RF := ⟨0x4200200C + i * 0x40, 29, 29⟩
/-- VQ_SQ_STAT.LINES, RO (R206). -/
def VQ_SQ_STAT_LINES (i : Nat) : RF := ⟨0x4200200C + i * 0x40, 8, 0⟩
/-- The whole word of VQ_SQ_STAT (R206). -/
def VQ_SQ_STAT (i : Nat) : RF := ⟨0x4200200C + i * 0x40, 31, 0⟩
/-- VQ_SQ_OVERRUN, RC (R206). -/
def VQ_SQ_OVERRUN (i : Nat) : RF := ⟨0x42002010 + i * 0x40, 15, 0⟩
/-- VQ_SQ_TIMEOUTS, RC (R206). -/
def VQ_SQ_TIMEOUTS (i : Nat) : RF := ⟨0x42002014 + i * 0x40, 15, 0⟩
/-- VQ_SQ_POP, RC (R206). -/
def VQ_SQ_POP (i : Nat) : RF := ⟨0x42002018 + i * 0x40, 31, 0⟩
/-- VQ_SQ_WINDOW, RO (R206). -/
def VQ_SQ_WINDOW (i : Nat) (j : Nat) : RF := ⟨0x42008000 + i * 0x40 + j * 0x4, 31, 0⟩
/-- VQ_CR_QUOTA, RW (R206). -/
def VQ_CR_QUOTA (i : Nat) : RF := ⟨0x42100000 + i * 0x20, 4, 0⟩
/-- VQ_CR_GRANT_CUM, RO (R206). -/
def VQ_CR_GRANT_CUM (i : Nat) : RF := ⟨0x42100004 + i * 0x20, 31, 0⟩
/-- VQ_CR_USED_CUM, RO (R206). -/
def VQ_CR_USED_CUM (i : Nat) : RF := ⟨0x42100008 + i * 0x20, 31, 0⟩
/-- VQ_CR_RETURNED_CUM, RO (R206). -/
def VQ_CR_RETURNED_CUM (i : Nat) : RF := ⟨0x4210000C + i * 0x20, 31, 0⟩
/-- VQ_CR_GEN, RO (R206). -/
def VQ_CR_GEN (i : Nat) : RF := ⟨0x42100010 + i * 0x20, 31, 0⟩
/-- VQ_CR_LAST_SEQ, RO (R206). -/
def VQ_CR_LAST_SEQ (i : Nat) : RF := ⟨0x42100014 + i * 0x20, 31, 0⟩
/-- VQ_CR_STAT, RO (R206). -/
def VQ_CR_STAT (i : Nat) : RF := ⟨0x42100018 + i * 0x20, 4, 0⟩

/-- The rows of the register tables of chapter 07. -/
def regRowsVQ : List RegRow :=
  [⟨"VQ_CTRL", 0x42000000, 1, 0x0, 1, 0x0, 0, [⟨2, 2, .rw, 0x0⟩, ⟨1, 1, .rw, 0x0⟩, ⟨0, 0, .rw, 0x0⟩]⟩,
   ⟨"VQ_PKT_TIMEOUT", 0x42000004, 1, 0x0, 1, 0x0, 0, [⟨13, 0, .rw, 0x64⟩]⟩,
   ⟨"VQ_NOTICE", 0x42000008, 1, 0x0, 1, 0x0, 0, [⟨31, 28, .rw, 0x0⟩, ⟨10, 0, .rw, 0x100⟩]⟩,
   ⟨"VQ_PTRERR_COUNT", 0x4200000C, 1, 0x0, 1, 0x0, 0, [⟨15, 0, .rc, 0x0⟩]⟩,
   ⟨"VQ_RESET_LO", 0x42000010, 1, 0x0, 1, 0x0, 0, [⟨31, 0, .w1c, 0x0⟩]⟩,
   ⟨"VQ_RESET_HI", 0x42000014, 1, 0x0, 1, 0x0, 0, [⟨31, 0, .w1c, 0x0⟩]⟩,
   ⟨"VQ_RESET_SQ", 0x42000018, 1, 0x0, 1, 0x0, 0, [⟨31, 0, .w1c, 0x0⟩]⟩,
   ⟨"VQ_BADREC", 0x4200001C, 1, 0x0, 1, 0x0, 0, [⟨15, 0, .rc, 0x0⟩]⟩,
   ⟨"VQ_STBY_DISCARD", 0x42000020, 1, 0x0, 1, 0x0, 0, [⟨31, 0, .rc, 0x0⟩]⟩,
   ⟨"VQ_IQ_CTRL", 0x42001000, 64, 0x20, 1, 0x0, 0, [⟨31, 31, .w1s, 0x0⟩, ⟨0, 0, .rw, 0x0⟩]⟩,
   ⟨"VQ_IQ_STAT", 0x42001004, 64, 0x20, 1, 0x0, 0, [⟨31, 31, .ro, 0x0⟩, ⟨30, 30, .w1c, 0x0⟩, ⟨26, 16, .ro, 0x0⟩, ⟨10, 0, .ro, 0x0⟩]⟩,
   ⟨"VQ_IQ_TIMEOUTS", 0x42001008, 64, 0x20, 1, 0x0, 0, [⟨15, 0, .rc, 0x0⟩]⟩,
   ⟨"VQ_IQ_VIOL", 0x4200100C, 64, 0x20, 1, 0x0, 0, [⟨15, 0, .rc, 0x0⟩]⟩,
   ⟨"VQ_IQ_BADWR", 0x42001010, 64, 0x20, 1, 0x0, 0, [⟨15, 0, .rc, 0x0⟩]⟩,
   ⟨"VQ_IQ_FLUSHED", 0x42001014, 64, 0x20, 1, 0x0, 0, [⟨15, 0, .rc, 0x0⟩]⟩,
   ⟨"VQ_SQ_CTRL", 0x42002000, 32, 0x40, 1, 0x0, 0, [⟨31, 31, .w1s, 0x0⟩, ⟨23, 16, .rw, 0x0⟩, ⟨0, 0, .rw, 0x0⟩]⟩,
   ⟨"VQ_SQ_SRC", 0x42002004, 32, 0x40, 1, 0x0, 0, [⟨7, 0, .rw, 0x0⟩]⟩,
   ⟨"VQ_SQ_DEADLINE", 0x42002008, 32, 0x40, 1, 0x0, 0, [⟨31, 0, .rw, 0x0⟩]⟩,
   ⟨"VQ_SQ_STAT", 0x4200200C, 32, 0x40, 1, 0x0, 0, [⟨31, 31, .ro, 0x0⟩, ⟨30, 30, .w1c, 0x0⟩, ⟨29, 29, .ro, 0x0⟩, ⟨8, 0, .ro, 0x0⟩]⟩,
   ⟨"VQ_SQ_OVERRUN", 0x42002010, 32, 0x40, 1, 0x0, 0, [⟨15, 0, .rc, 0x0⟩]⟩] ++
  [⟨"VQ_SQ_TIMEOUTS", 0x42002014, 32, 0x40, 1, 0x0, 0, [⟨15, 0, .rc, 0x0⟩]⟩,
   ⟨"VQ_SQ_POP", 0x42002018, 32, 0x40, 1, 0x0, 0, [⟨31, 0, .rc, 0x0⟩]⟩,
   ⟨"VQ_SQ_WINDOW", 0x42008000, 32, 0x40, 16, 0x4, 0, [⟨31, 0, .ro, 0x0⟩]⟩,
   ⟨"VQ_CR_QUOTA", 0x42100000, 4096, 0x20, 1, 0x0, 0, [⟨4, 0, .rw, 0x10⟩]⟩,
   ⟨"VQ_CR_GRANT_CUM", 0x42100004, 4096, 0x20, 1, 0x0, 0, [⟨31, 0, .ro, 0x0⟩]⟩,
   ⟨"VQ_CR_USED_CUM", 0x42100008, 4096, 0x20, 1, 0x0, 0, [⟨31, 0, .ro, 0x0⟩]⟩,
   ⟨"VQ_CR_RETURNED_CUM", 0x4210000C, 4096, 0x20, 1, 0x0, 0, [⟨31, 0, .ro, 0x0⟩]⟩,
   ⟨"VQ_CR_GEN", 0x42100010, 4096, 0x20, 1, 0x0, 0, [⟨31, 0, .ro, 0x0⟩]⟩,
   ⟨"VQ_CR_LAST_SEQ", 0x42100014, 4096, 0x20, 1, 0x0, 0, [⟨31, 0, .ro, 0x0⟩]⟩,
   ⟨"VQ_CR_STAT", 0x42100018, 4096, 0x20, 1, 0x0, 0, [⟨4, 0, .ro, 0x0⟩]⟩,
   ⟨"VQ_CR reserved 0x1C", 0x4210001C, 4096, 0x20, 1, 0x0, 0, []⟩]

/-! ### Power-cap broker (spec chapter 06) -/

/-- PB_CTRL.HOLD_QUEUE, RW (R182). -/
def PB_CTRL_HOLD_QUEUE : RF := ⟨0x43000000, 1, 1⟩
/-- PB_CTRL.ENABLE, RW (R182). -/
def PB_CTRL_ENABLE : RF := ⟨0x43000000, 0, 0⟩
/-- The whole word of PB_CTRL (R182). -/
def PB_CTRL : RF := ⟨0x43000000, 31, 0⟩
/-- PB_SLEW, RW (R182). -/
def PB_SLEW : RF := ⟨0x43000004, 6, 0⟩
/-- PB_EMERG.ISOL_PCT, RW (R182). -/
def PB_EMERG_ISOL_PCT : RF := ⟨0x43000008, 22, 16⟩
/-- PB_EMERG.EMERG_PCT, RW (R182). -/
def PB_EMERG_EMERG_PCT : RF := ⟨0x43000008, 6, 0⟩
/-- The whole word of PB_EMERG (R182). -/
def PB_EMERG : RF := ⟨0x43000008, 31, 0⟩
/-- PB_ROW_ID, RW (R182). -/
def PB_ROW_ID : RF := ⟨0x4300000C, 31, 0⟩
/-- PB_BRAKE.SENSE, RO (R182). -/
def PB_BRAKE_SENSE : RF := ⟨0x43000010, 31, 16⟩
/-- PB_BRAKE.FORCE, RW (R182). -/
def PB_BRAKE_FORCE : RF := ⟨0x43000010, 15, 0⟩
/-- The whole word of PB_BRAKE (R182). -/
def PB_BRAKE : RF := ⟨0x43000010, 31, 0⟩
/-- PB_UIO.MAX_FLIGHT, RW (R182). -/
def PB_UIO_MAX_FLIGHT : RF := ⟨0x43000014, 31, 24⟩
/-- PB_UIO.TIMEOUT, RW (R182). -/
def PB_UIO_TIMEOUT : RF := ⟨0x43000014, 15, 0⟩
/-- The whole word of PB_UIO (R182). -/
def PB_UIO : RF := ⟨0x43000014, 31, 0⟩
/-- PB_SENT, RC (R182). -/
def PB_SENT : RF := ⟨0x43000018, 31, 0⟩
/-- PB_DROPPED, RC (R182). -/
def PB_DROPPED : RF := ⟨0x4300001C, 15, 0⟩
/-- PB_UNCONFIRMED, RO (R182). -/
def PB_UNCONFIRMED : RF := ⟨0x43000020, 12, 0⟩
/-- PB_FANOUT_US, RO (R182). -/
def PB_FANOUT_US : RF := ⟨0x43000024, 15, 0⟩
/-- PB_GROUP_RACK, RW (R182). -/
def PB_GROUP_RACK (i : Nat) : RF := ⟨0x43001000 + i * 0x8, 3, 0⟩
/-- PB_GROUP_BUDGET, RW (R182). -/
def PB_GROUP_BUDGET (i : Nat) : RF := ⟨0x43001004 + i * 0x8, 31, 0⟩
/-- PB_RACK_BUDGET, RW (R182). -/
def PB_RACK_BUDGET (i : Nat) : RF := ⟨0x43001200 + i * 0x8, 31, 0⟩
/-- PB_RACK_KFLOW, RW (R182). -/
def PB_RACK_KFLOW (i : Nat) : RF := ⟨0x43001204 + i * 0x8, 31, 0⟩
/-- PB_ADDR_LO.ADDR, RW (R182). -/
def PB_ADDR_LO_ADDR (i : Nat) : RF := ⟨0x43100000 + i * 0x40, 31, 6⟩
/-- The whole word of PB_ADDR_LO (R182). -/
def PB_ADDR_LO (i : Nat) : RF := ⟨0x43100000 + i * 0x40, 31, 0⟩
/-- PB_ADDR_HI, RW (R182). -/
def PB_ADDR_HI (i : Nat) : RF := ⟨0x43100004 + i * 0x40, 31, 0⟩
/-- PB_CFG.VALID, RW (R182). -/
def PB_CFG_VALID (i : Nat) : RF := ⟨0x43100008 + i * 0x40, 31, 31⟩
/-- PB_CFG.PRIORITY, RW (R182). -/
def PB_CFG_PRIORITY (i : Nat) : RF := ⟨0x43100008 + i * 0x40, 25, 24⟩
/-- PB_CFG.GROUP, RW (R182). -/
def PB_CFG_GROUP (i : Nat) : RF := ⟨0x43100008 + i * 0x40, 21, 16⟩
/-- PB_CFG.QUEUE, RO (R182). -/
def PB_CFG_QUEUE (i : Nat) : RF := ⟨0x43100008 + i * 0x40, 5, 0⟩
/-- The whole word of PB_CFG (R182). -/
def PB_CFG (i : Nat) : RF := ⟨0x43100008 + i * 0x40, 31, 0⟩
/-- PB_LEASE, RW (R182). -/
def PB_LEASE (i : Nat) : RF := ⟨0x4310000C + i * 0x40, 13, 0⟩
/-- PB_BUDGET.FALLBACK, RW (R182). -/
def PB_BUDGET_FALLBACK (i : Nat) : RF := ⟨0x43100010 + i * 0x40, 27, 16⟩
/-- PB_BUDGET.BUDGET, RW (R182). -/
def PB_BUDGET_BUDGET (i : Nat) : RF := ⟨0x43100010 + i * 0x40, 11, 0⟩
/-- The whole word of PB_BUDGET (R182). -/
def PB_BUDGET (i : Nat) : RF := ⟨0x43100010 + i * 0x40, 31, 0⟩
/-- PB_CAP.GRANT, RO (R182). -/
def PB_CAP_GRANT (i : Nat) : RF := ⟨0x43100014 + i * 0x40, 27, 16⟩
/-- PB_CAP.CAP_SENT, RO (R182). -/
def PB_CAP_CAP_SENT (i : Nat) : RF := ⟨0x43100014 + i * 0x40, 11, 0⟩
/-- The whole word of PB_CAP (R182). -/
def PB_CAP (i : Nat) : RF := ⟨0x43100014 + i * 0x40, 31, 0⟩
/-- PB_APPLIED_EPOCH_LO, RO (R182). -/
def PB_APPLIED_EPOCH_LO (i : Nat) : RF := ⟨0x43100018 + i * 0x40, 31, 0⟩
/-- PB_APPLIED_EPOCH_HI, RO (R182). -/
def PB_APPLIED_EPOCH_HI (i : Nat) : RF := ⟨0x4310001C + i * 0x40, 31, 0⟩
/-- PB_CONFIRMED_EPOCH_LO, RO (R182). -/
def PB_CONFIRMED_EPOCH_LO (i : Nat) : RF := ⟨0x43100020 + i * 0x40, 31, 0⟩
/-- PB_CONFIRMED_EPOCH_HI, RO (R182). -/
def PB_CONFIRMED_EPOCH_HI (i : Nat) : RF := ⟨0x43100024 + i * 0x40, 31, 0⟩
/-- PB_LAST_SENT_LO, RO (R182). -/
def PB_LAST_SENT_LO (i : Nat) : RF := ⟨0x43100028 + i * 0x40, 31, 0⟩
/-- PB_LAST_SENT_HI, RO (R182). -/
def PB_LAST_SENT_HI (i : Nat) : RF := ⟨0x4310002C + i * 0x40, 31, 0⟩
/-- PB_STATUS.OVER_CAP, W1C (R182). -/
def PB_STATUS_OVER_CAP (i : Nat) : RF := ⟨0x43100030 + i * 0x40, 9, 9⟩
/-- PB_STATUS.RELEASING, RO (R182). -/
def PB_STATUS_RELEASING (i : Nat) : RF := ⟨0x43100030 + i * 0x40, 8, 8⟩
/-- PB_STATUS.IN_FLIGHT, RO (R182). -/
def PB_STATUS_IN_FLIGHT (i : Nat) : RF := ⟨0x43100030 + i * 0x40, 7, 7⟩
/-- PB_STATUS.QUEUED, RO (R182). -/
def PB_STATUS_QUEUED (i : Nat) : RF := ⟨0x43100030 + i * 0x40, 6, 6⟩
/-- PB_STATUS.ISOLATED, RO (R182). -/
def PB_STATUS_ISOLATED (i : Nat) : RF := ⟨0x43100030 + i * 0x40, 5, 5⟩
/-- PB_STATUS.UNREACHABLE, RO (R182). -/
def PB_STATUS_UNREACHABLE (i : Nat) : RF := ⟨0x43100030 + i * 0x40, 4, 4⟩
/-- PB_STATUS.EMERGENCY, RO (R182). -/
def PB_STATUS_EMERGENCY (i : Nat) : RF := ⟨0x43100030 + i * 0x40, 3, 3⟩
/-- PB_STATUS.LEASE_LAPSED, RO (R182). -/
def PB_STATUS_LEASE_LAPSED (i : Nat) : RF := ⟨0x43100030 + i * 0x40, 2, 2⟩
/-- PB_STATUS.SILENT, RO (R182). -/
def PB_STATUS_SILENT (i : Nat) : RF := ⟨0x43100030 + i * 0x40, 1, 1⟩
/-- PB_STATUS.ADMITTED, RO (R182). -/
def PB_STATUS_ADMITTED (i : Nat) : RF := ⟨0x43100030 + i * 0x40, 0, 0⟩
/-- The whole word of PB_STATUS (R182). -/
def PB_STATUS (i : Nat) : RF := ⟨0x43100030 + i * 0x40, 31, 0⟩
/-- PB_ERRORS, RC (R182). -/
def PB_ERRORS (i : Nat) : RF := ⟨0x43100034 + i * 0x40, 15, 0⟩

/-- The rows of the register tables of chapter 06. -/
def regRowsPB : List RegRow :=
  [⟨"PB_CTRL", 0x43000000, 1, 0x0, 1, 0x0, 0, [⟨1, 1, .rw, 0x0⟩, ⟨0, 0, .rw, 0x0⟩]⟩,
   ⟨"PB_SLEW", 0x43000004, 1, 0x0, 1, 0x0, 0, [⟨6, 0, .rw, 0x5⟩]⟩,
   ⟨"PB_EMERG", 0x43000008, 1, 0x0, 1, 0x0, 0, [⟨22, 16, .rw, 0x0⟩, ⟨6, 0, .rw, 0xF⟩]⟩,
   ⟨"PB_ROW_ID", 0x4300000C, 1, 0x0, 1, 0x0, 0, [⟨31, 0, .rw, 0x0⟩]⟩,
   ⟨"PB_BRAKE", 0x43000010, 1, 0x0, 1, 0x0, 0, [⟨31, 16, .ro, 0x0⟩, ⟨15, 0, .rw, 0x0⟩]⟩,
   ⟨"PB_UIO", 0x43000014, 1, 0x0, 1, 0x0, 0, [⟨31, 24, .rw, 0x40⟩, ⟨15, 0, .rw, 0x3E8⟩]⟩,
   ⟨"PB_SENT", 0x43000018, 1, 0x0, 1, 0x0, 0, [⟨31, 0, .rc, 0x0⟩]⟩,
   ⟨"PB_DROPPED", 0x4300001C, 1, 0x0, 1, 0x0, 0, [⟨15, 0, .rc, 0x0⟩]⟩,
   ⟨"PB_UNCONFIRMED", 0x43000020, 1, 0x0, 1, 0x0, 0, [⟨12, 0, .ro, 0x0⟩]⟩,
   ⟨"PB_FANOUT_US", 0x43000024, 1, 0x0, 1, 0x0, 0, [⟨15, 0, .ro, 0x0⟩]⟩,
   ⟨"PB_GROUP_RACK", 0x43001000, 64, 0x8, 1, 0x0, 4, [⟨3, 0, .rw, 0x0⟩]⟩,
   ⟨"PB_GROUP_BUDGET", 0x43001004, 64, 0x8, 1, 0x0, 0, [⟨31, 0, .rw, 0x0⟩]⟩,
   ⟨"PB_RACK_BUDGET", 0x43001200, 16, 0x8, 1, 0x0, 0, [⟨31, 0, .rw, 0x0⟩]⟩,
   ⟨"PB_RACK_KFLOW", 0x43001204, 16, 0x8, 1, 0x0, 0, [⟨31, 0, .rw, 0x2710⟩]⟩,
   ⟨"PB_ADDR_LO", 0x43100000, 4096, 0x40, 1, 0x0, 0, [⟨31, 6, .rw, 0x0⟩]⟩,
   ⟨"PB_ADDR_HI", 0x43100004, 4096, 0x40, 1, 0x0, 0, [⟨31, 0, .rw, 0x0⟩]⟩,
   ⟨"PB_CFG", 0x43100008, 4096, 0x40, 1, 0x0, 64, [⟨31, 31, .rw, 0x0⟩, ⟨25, 24, .rw, 0x0⟩, ⟨21, 16, .rw, 0x0⟩, ⟨5, 0, .ro, 0x0⟩]⟩,
   ⟨"PB_LEASE", 0x4310000C, 4096, 0x40, 1, 0x0, 0, [⟨13, 0, .rw, 0xC8⟩]⟩,
   ⟨"PB_BUDGET", 0x43100010, 4096, 0x40, 1, 0x0, 0, [⟨27, 16, .rw, 0x0⟩, ⟨11, 0, .rw, 0x0⟩]⟩,
   ⟨"PB_CAP", 0x43100014, 4096, 0x40, 1, 0x0, 0, [⟨27, 16, .ro, 0x0⟩, ⟨11, 0, .ro, 0x0⟩]⟩] ++
  [⟨"PB_APPLIED_EPOCH_LO", 0x43100018, 4096, 0x40, 1, 0x0, 0, [⟨31, 0, .ro, 0x0⟩]⟩,
   ⟨"PB_APPLIED_EPOCH_HI", 0x4310001C, 4096, 0x40, 1, 0x0, 0, [⟨31, 0, .ro, 0x0⟩]⟩,
   ⟨"PB_CONFIRMED_EPOCH_LO", 0x43100020, 4096, 0x40, 1, 0x0, 0, [⟨31, 0, .ro, 0x0⟩]⟩,
   ⟨"PB_CONFIRMED_EPOCH_HI", 0x43100024, 4096, 0x40, 1, 0x0, 0, [⟨31, 0, .ro, 0x0⟩]⟩,
   ⟨"PB_LAST_SENT_LO", 0x43100028, 4096, 0x40, 1, 0x0, 0, [⟨31, 0, .ro, 0x0⟩]⟩,
   ⟨"PB_LAST_SENT_HI", 0x4310002C, 4096, 0x40, 1, 0x0, 0, [⟨31, 0, .ro, 0x0⟩]⟩,
   ⟨"PB_STATUS", 0x43100030, 4096, 0x40, 1, 0x0, 0, [⟨9, 9, .w1c, 0x0⟩, ⟨8, 8, .ro, 0x0⟩, ⟨7, 7, .ro, 0x0⟩, ⟨6, 6, .ro, 0x0⟩, ⟨5, 5, .ro, 0x0⟩, ⟨4, 4, .ro, 0x0⟩, ⟨3, 3, .ro, 0x0⟩, ⟨2, 2, .ro, 0x0⟩, ⟨1, 1, .ro, 0x0⟩, ⟨0, 0, .ro, 0x0⟩]⟩,
   ⟨"PB_ERRORS", 0x43100034, 4096, 0x40, 1, 0x0, 0, [⟨15, 0, .rc, 0x0⟩]⟩,
   ⟨"PB reserved 0x38", 0x43100038, 4096, 0x40, 2, 0x4, 0, []⟩]

/-! ### Sensors and leak detection (spec chapter 09) -/

/-- SN_CTRL.ENABLE, RW (R252). -/
def SN_CTRL_ENABLE : RF := ⟨0x44010000, 0, 0⟩
/-- The whole word of SN_CTRL (R252). -/
def SN_CTRL : RF := ⟨0x44010000, 31, 0⟩
/-- SN_CPSTAT.CONDENSATION, RO (R252). -/
def SN_CPSTAT_CONDENSATION : RF := ⟨0x44010004, 4, 4⟩
/-- SN_CPSTAT.SENSOR_FAIL, RO (R252). -/
def SN_CPSTAT_SENSOR_FAIL : RF := ⟨0x44010004, 3, 3⟩
/-- SN_CPSTAT.CP_LOW, RO (R252). -/
def SN_CPSTAT_CP_LOW : RF := ⟨0x44010004, 2, 2⟩
/-- SN_CPSTAT.CP_LOSS, RO (R252). -/
def SN_CPSTAT_CP_LOSS : RF := ⟨0x44010004, 1, 1⟩
/-- SN_CPSTAT.VALID, RO (R252). -/
def SN_CPSTAT_VALID : RF := ⟨0x44010004, 0, 0⟩
/-- The whole word of SN_CPSTAT (R252). -/
def SN_CPSTAT : RF := ⟨0x44010004, 31, 0⟩
/-- SN_CPFLOW, RO (R252). -/
def SN_CPFLOW : RF := ⟨0x44010008, 31, 0⟩
/-- SN_CPTIN, RO (R252). -/
def SN_CPTIN : RF := ⟨0x4401000C, 31, 0⟩
/-- SN_CPTOUT, RO (R252). -/
def SN_CPTOUT : RF := ⟨0x44010010, 31, 0⟩
/-- SN_FLOWSRC, RW (R252). -/
def SN_FLOWSRC (i : Nat) : RF := ⟨0x44010100 + i * 0x4, 15, 0⟩
/-- SN_FLOWGAIN, RW (R252). -/
def SN_FLOWGAIN (i : Nat) : RF := ⟨0x44010140 + i * 0x4, 31, 0⟩
/-- SN_RTDCFG.ENABLE, RW (R252). -/
def SN_RTDCFG_ENABLE (i : Nat) : RF := ⟨0x44011000 + i * 0x10, 31, 31⟩
/-- SN_RTDCFG.WIRES, RW (R252). -/
def SN_RTDCFG_WIRES (i : Nat) : RF := ⟨0x44011000 + i * 0x10, 30, 29⟩
/-- SN_RTDCFG.PAIRED, RW (R252). -/
def SN_RTDCFG_PAIRED (i : Nat) : RF := ⟨0x44011000 + i * 0x10, 28, 28⟩
/-- SN_RTDCFG.ELEM, RW (R252). -/
def SN_RTDCFG_ELEM (i : Nat) : RF := ⟨0x44011000 + i * 0x10, 27, 27⟩
/-- SN_RTDCFG.CAL_REF, RO (R252). -/
def SN_RTDCFG_CAL_REF (i : Nat) : RF := ⟨0x44011000 + i * 0x10, 26, 26⟩
/-- SN_RTDCFG.PARTNER, RW (R252). -/
def SN_RTDCFG_PARTNER (i : Nat) : RF := ⟨0x44011000 + i * 0x10, 21, 16⟩
/-- SN_RTDCFG.LEAD, RW (R252). -/
def SN_RTDCFG_LEAD (i : Nat) : RF := ⟨0x44011000 + i * 0x10, 15, 0⟩
/-- The whole word of SN_RTDCFG (R252). -/
def SN_RTDCFG (i : Nat) : RF := ⟨0x44011000 + i * 0x10, 31, 0⟩
/-- SN_RTDVAL, RO (R252). -/
def SN_RTDVAL (i : Nat) : RF := ⟨0x44011004 + i * 0x10, 31, 0⟩
/-- SN_RTDRAW, RO (R252). -/
def SN_RTDRAW (i : Nat) : RF := ⟨0x44011008 + i * 0x10, 23, 0⟩
/-- SN_RTDSTAT.PAIRED, RO (R252). -/
def SN_RTDSTAT_PAIRED (i : Nat) : RF := ⟨0x4401100C + i * 0x10, 9, 9⟩
/-- SN_RTDSTAT.SAME_BANK, RO (R252). -/
def SN_RTDSTAT_SAME_BANK (i : Nat) : RF := ⟨0x4401100C + i * 0x10, 8, 8⟩
/-- SN_RTDSTAT.SUSPECT, RO (R252). -/
def SN_RTDSTAT_SUSPECT (i : Nat) : RF := ⟨0x4401100C + i * 0x10, 7, 7⟩
/-- SN_RTDSTAT.HIGH, RO (R252). -/
def SN_RTDSTAT_HIGH (i : Nat) : RF := ⟨0x4401100C + i * 0x10, 6, 6⟩
/-- SN_RTDSTAT.LOW_OVR, RO (R252). -/
def SN_RTDSTAT_LOW_OVR (i : Nat) : RF := ⟨0x4401100C + i * 0x10, 5, 5⟩
/-- SN_RTDSTAT.FROZEN, RO (R252). -/
def SN_RTDSTAT_FROZEN (i : Nat) : RF := ⟨0x4401100C + i * 0x10, 4, 4⟩
/-- SN_RTDSTAT.SHORT, RO (R252). -/
def SN_RTDSTAT_SHORT (i : Nat) : RF := ⟨0x4401100C + i * 0x10, 3, 3⟩
/-- SN_RTDSTAT.OPEN, RO (R252). -/
def SN_RTDSTAT_OPEN (i : Nat) : RF := ⟨0x4401100C + i * 0x10, 2, 2⟩
/-- SN_RTDSTAT.FAULT_SEEN, W1C (R252). -/
def SN_RTDSTAT_FAULT_SEEN (i : Nat) : RF := ⟨0x4401100C + i * 0x10, 1, 1⟩
/-- SN_RTDSTAT.VALID, RO (R252). -/
def SN_RTDSTAT_VALID (i : Nat) : RF := ⟨0x4401100C + i * 0x10, 0, 0⟩
/-- The whole word of SN_RTDSTAT (R252). -/
def SN_RTDSTAT (i : Nat) : RF := ⟨0x4401100C + i * 0x10, 31, 0⟩
/-- SN_RTDOFF, RW (R252). -/
def SN_RTDOFF (i : Nat) : RF := ⟨0x44011400 + i * 0x4, 31, 0⟩
/-- SN_MACFG.ENABLE, RW (R252). -/
def SN_MACFG_ENABLE (i : Nat) : RF := ⟨0x44012000 + i * 0x10, 31, 31⟩
/-- SN_MACFG.LOOP_PWR, RW (R252). -/
def SN_MACFG_LOOP_PWR (i : Nat) : RF := ⟨0x44012000 + i * 0x10, 30, 30⟩
/-- SN_MACFG.PAIRED, RW (R252). -/
def SN_MACFG_PAIRED (i : Nat) : RF := ⟨0x44012000 + i * 0x10, 29, 29⟩
/-- SN_MACFG.ELEM, RW (R252). -/
def SN_MACFG_ELEM (i : Nat) : RF := ⟨0x44012000 + i * 0x10, 28, 28⟩
/-- SN_MACFG.PARTNER, RW (R252). -/
def SN_MACFG_PARTNER (i : Nat) : RF := ⟨0x44012000 + i * 0x10, 20, 16⟩
/-- The whole word of SN_MACFG (R252). -/
def SN_MACFG (i : Nat) : RF := ⟨0x44012000 + i * 0x10, 31, 0⟩
/-- SN_MAVAL, RO (R252). -/
def SN_MAVAL (i : Nat) : RF := ⟨0x44012004 + i * 0x10, 31, 0⟩
/-- SN_MARAW, RO (R252). -/
def SN_MARAW (i : Nat) : RF := ⟨0x44012008 + i * 0x10, 15, 0⟩
/-- SN_MASTAT.PAIRED, RO (R252). -/
def SN_MASTAT_PAIRED (i : Nat) : RF := ⟨0x4401200C + i * 0x10, 9, 9⟩
/-- SN_MASTAT.SAME_BANK, RO (R252). -/
def SN_MASTAT_SAME_BANK (i : Nat) : RF := ⟨0x4401200C + i * 0x10, 8, 8⟩
/-- SN_MASTAT.SUSPECT, RO (R252). -/
def SN_MASTAT_SUSPECT (i : Nat) : RF := ⟨0x4401200C + i * 0x10, 7, 7⟩
/-- SN_MASTAT.HIGH, RO (R252). -/
def SN_MASTAT_HIGH (i : Nat) : RF := ⟨0x4401200C + i * 0x10, 6, 6⟩
/-- SN_MASTAT.LOW_OVR, RO (R252). -/
def SN_MASTAT_LOW_OVR (i : Nat) : RF := ⟨0x4401200C + i * 0x10, 5, 5⟩
/-- SN_MASTAT.FROZEN, RO (R252). -/
def SN_MASTAT_FROZEN (i : Nat) : RF := ⟨0x4401200C + i * 0x10, 4, 4⟩
/-- SN_MASTAT.SHORT, RO (R252). -/
def SN_MASTAT_SHORT (i : Nat) : RF := ⟨0x4401200C + i * 0x10, 3, 3⟩
/-- SN_MASTAT.OPEN, RO (R252). -/
def SN_MASTAT_OPEN (i : Nat) : RF := ⟨0x4401200C + i * 0x10, 2, 2⟩
/-- SN_MASTAT.FAULT_SEEN, W1C (R252). -/
def SN_MASTAT_FAULT_SEEN (i : Nat) : RF := ⟨0x4401200C + i * 0x10, 1, 1⟩
/-- SN_MASTAT.VALID, RO (R252). -/
def SN_MASTAT_VALID (i : Nat) : RF := ⟨0x4401200C + i * 0x10, 0, 0⟩
/-- The whole word of SN_MASTAT (R252). -/
def SN_MASTAT (i : Nat) : RF := ⟨0x4401200C + i * 0x10, 31, 0⟩
/-- SN_MALO, RW (R252). -/
def SN_MALO (i : Nat) : RF := ⟨0x44012200 + i * 0x8, 31, 0⟩
/-- SN_MAHI, RW (R252). -/
def SN_MAHI (i : Nat) : RF := ⟨0x44012204 + i * 0x8, 31, 0⟩
/-- SN_PICFG.ENABLE, RW (R252). -/
def SN_PICFG_ENABLE (i : Nat) : RF := ⟨0x44013000 + i * 0x10, 31, 31⟩
/-- SN_PICFG.MODE, RW (R252). -/
def SN_PICFG_MODE (i : Nat) : RF := ⟨0x44013000 + i * 0x10, 30, 29⟩
/-- SN_PICFG.PAIRED, RW (R252). -/
def SN_PICFG_PAIRED (i : Nat) : RF := ⟨0x44013000 + i * 0x10, 28, 28⟩
/-- SN_PICFG.ELEM, RW (R252). -/
def SN_PICFG_ELEM (i : Nat) : RF := ⟨0x44013000 + i * 0x10, 27, 27⟩
/-- SN_PICFG.PARTNER, RW (R252). -/
def SN_PICFG_PARTNER (i : Nat) : RF := ⟨0x44013000 + i * 0x10, 18, 16⟩
/-- SN_PICFG.TIMEOUT, RW (R252). -/
def SN_PICFG_TIMEOUT (i : Nat) : RF := ⟨0x44013000 + i * 0x10, 15, 0⟩
/-- The whole word of SN_PICFG (R252). -/
def SN_PICFG (i : Nat) : RF := ⟨0x44013000 + i * 0x10, 31, 0⟩
/-- SN_PIKFACT, RW (R252). -/
def SN_PIKFACT (i : Nat) : RF := ⟨0x44013004 + i * 0x10, 31, 0⟩
/-- SN_PIFREQ, RO (R252). -/
def SN_PIFREQ (i : Nat) : RF := ⟨0x44013008 + i * 0x10, 31, 0⟩
/-- SN_PISTAT.PAIRED, RO (R252). -/
def SN_PISTAT_PAIRED (i : Nat) : RF := ⟨0x4401300C + i * 0x10, 9, 9⟩
/-- SN_PISTAT.SUSPECT, RO (R252). -/
def SN_PISTAT_SUSPECT (i : Nat) : RF := ⟨0x4401300C + i * 0x10, 6, 6⟩
/-- SN_PISTAT.NO_PULSE, RO (R252). -/
def SN_PISTAT_NO_PULSE (i : Nat) : RF := ⟨0x4401300C + i * 0x10, 5, 5⟩
/-- SN_PISTAT.SHORT, RO (R252). -/
def SN_PISTAT_SHORT (i : Nat) : RF := ⟨0x4401300C + i * 0x10, 3, 3⟩
/-- SN_PISTAT.OPEN, RO (R252). -/
def SN_PISTAT_OPEN (i : Nat) : RF := ⟨0x4401300C + i * 0x10, 2, 2⟩
/-- SN_PISTAT.FAULT_SEEN, W1C (R252). -/
def SN_PISTAT_FAULT_SEEN (i : Nat) : RF := ⟨0x4401300C + i * 0x10, 1, 1⟩
/-- SN_PISTAT.VALID, RO (R252). -/
def SN_PISTAT_VALID (i : Nat) : RF := ⟨0x4401300C + i * 0x10, 0, 0⟩
/-- The whole word of SN_PISTAT (R252). -/
def SN_PISTAT (i : Nat) : RF := ⟨0x4401300C + i * 0x10, 31, 0⟩
/-- SN_DIN, RO (R252). -/
def SN_DIN : RF := ⟨0x44013100, 15, 0⟩
/-- SN_DINDEB, RW (R252). -/
def SN_DINDEB : RF := ⟨0x44013104, 7, 0⟩
/-- SN_DINPOL, RW (R252). -/
def SN_DINPOL : RF := ⟨0x44013108, 15, 0⟩
/-- LK_WET, RWL (R252). -/
def LK_WET : RF := ⟨0x44120004, 6, 0⟩
/-- LK_ROPECFG.ENABLE, RWL (R252). -/
def LK_ROPECFG_ENABLE (i : Nat) : RF := ⟨0x44120100 + i * 0x10, 31, 31⟩
/-- LK_ROPECFG.RACK, RWL (R252). -/
def LK_ROPECFG_RACK (i : Nat) : RF := ⟨0x44120100 + i * 0x10, 30, 26⟩
/-- LK_ROPECFG.OHM_M, RWL (R252). -/
def LK_ROPECFG_OHM_M (i : Nat) : RF := ⟨0x44120100 + i * 0x10, 25, 16⟩
/-- LK_ROPECFG.LENGTH, RWL (R252). -/
def LK_ROPECFG_LENGTH (i : Nat) : RF := ⟨0x44120100 + i * 0x10, 15, 0⟩
/-- The whole word of LK_ROPECFG (R252). -/
def LK_ROPECFG (i : Nat) : RF := ⟨0x44120100 + i * 0x10, 31, 0⟩
/-- LK_ROPESTAT.STATE, RO (R252). -/
def LK_ROPESTAT_STATE (i : Nat) : RF := ⟨0x44120104 + i * 0x10, 31, 29⟩
/-- LK_ROPESTAT.WET_COUNT, RO (R252). -/
def LK_ROPESTAT_WET_COUNT (i : Nat) : RF := ⟨0x44120104 + i * 0x10, 28, 27⟩
/-- LK_ROPESTAT.SHORT, RO (R252). -/
def LK_ROPESTAT_SHORT (i : Nat) : RF := ⟨0x44120104 + i * 0x10, 26, 26⟩
/-- LK_ROPESTAT.LOC_RES, RO (R252). -/
def LK_ROPESTAT_LOC_RES (i : Nat) : RF := ⟨0x44120104 + i * 0x10, 15, 0⟩
/-- The whole word of LK_ROPESTAT (R252). -/
def LK_ROPESTAT (i : Nat) : RF := ⟨0x44120104 + i * 0x10, 31, 0⟩
/-- LK_ROPELIVE.SHUNT, RO (R252). -/
def LK_ROPELIVE_SHUNT (i : Nat) : RF := ⟨0x44120108 + i * 0x10, 31, 16⟩
/-- LK_ROPELIVE.LIVE, RO (R252). -/
def LK_ROPELIVE_LIVE (i : Nat) : RF := ⟨0x44120108 + i * 0x10, 15, 0⟩
/-- The whole word of LK_ROPELIVE (R252). -/
def LK_ROPELIVE (i : Nat) : RF := ⟨0x44120108 + i * 0x10, 31, 0⟩
/-- LK_ROPEACK, W1S (R252). -/
def LK_ROPEACK (i : Nat) : RF := ⟨0x4412010C + i * 0x10, 0, 0⟩
/-- LK_PTCFG.ENABLE, RWL (R252). -/
def LK_PTCFG_ENABLE (i : Nat) : RF := ⟨0x44120200 + i * 0x10, 31, 31⟩
/-- LK_PTCFG.RACK, RWL (R252). -/
def LK_PTCFG_RACK (i : Nat) : RF := ⟨0x44120200 + i * 0x10, 30, 26⟩
/-- The whole word of LK_PTCFG (R252). -/
def LK_PTCFG (i : Nat) : RF := ⟨0x44120200 + i * 0x10, 31, 0⟩
/-- LK_PTSTAT.STATE, RO (R252). -/
def LK_PTSTAT_STATE (i : Nat) : RF := ⟨0x44120204 + i * 0x10, 31, 29⟩
/-- LK_PTSTAT.WET_COUNT, RO (R252). -/
def LK_PTSTAT_WET_COUNT (i : Nat) : RF := ⟨0x44120204 + i * 0x10, 28, 27⟩
/-- LK_PTSTAT.SHORT, RO (R252). -/
def LK_PTSTAT_SHORT (i : Nat) : RF := ⟨0x44120204 + i * 0x10, 26, 26⟩
/-- LK_PTSTAT.LOC_RES, RO (R252). -/
def LK_PTSTAT_LOC_RES (i : Nat) : RF := ⟨0x44120204 + i * 0x10, 15, 0⟩
/-- The whole word of LK_PTSTAT (R252). -/
def LK_PTSTAT (i : Nat) : RF := ⟨0x44120204 + i * 0x10, 31, 0⟩
/-- LK_PTACK, W1S (R252). -/
def LK_PTACK (i : Nat) : RF := ⟨0x4412020C + i * 0x10, 0, 0⟩

/-- The rows of the register tables of chapter 09. -/
def regRowsSN : List RegRow :=
  [⟨"SN_CTRL", 0x44010000, 1, 0x0, 1, 0x0, 0, [⟨0, 0, .rw, 0x0⟩]⟩,
   ⟨"SN_CPSTAT", 0x44010004, 1, 0x0, 1, 0x0, 0, [⟨4, 4, .ro, 0x0⟩, ⟨3, 3, .ro, 0x0⟩, ⟨2, 2, .ro, 0x0⟩, ⟨1, 1, .ro, 0x0⟩, ⟨0, 0, .ro, 0x0⟩]⟩,
   ⟨"SN_CPFLOW", 0x44010008, 1, 0x0, 1, 0x0, 0, [⟨31, 0, .ro, 0x0⟩]⟩,
   ⟨"SN_CPTIN", 0x4401000C, 1, 0x0, 1, 0x0, 0, [⟨31, 0, .ro, 0x0⟩]⟩,
   ⟨"SN_CPTOUT", 0x44010010, 1, 0x0, 1, 0x0, 0, [⟨31, 0, .ro, 0x0⟩]⟩,
   ⟨"SN_FLOWSRC", 0x44010100, 16, 0x4, 1, 0x0, 1, [⟨15, 0, .rw, 0x2000⟩]⟩,
   ⟨"SN_FLOWGAIN", 0x44010140, 16, 0x4, 1, 0x0, 0, [⟨31, 0, .rw, 0x3F800000⟩]⟩,
   ⟨"SN_RTDCFG", 0x44011000, 48, 0x10, 1, 0x0, 0, [⟨31, 31, .rw, 0x0⟩, ⟨30, 29, .rw, 0x3⟩, ⟨28, 28, .rw, 0x0⟩, ⟨27, 27, .rw, 0x0⟩, ⟨26, 26, .ro, 0x0⟩, ⟨21, 16, .rw, 0x0⟩, ⟨15, 0, .rw, 0x0⟩]⟩,
   ⟨"SN_RTDVAL", 0x44011004, 48, 0x10, 1, 0x0, 0, [⟨31, 0, .ro, 0x0⟩]⟩,
   ⟨"SN_RTDRAW", 0x44011008, 48, 0x10, 1, 0x0, 0, [⟨23, 0, .ro, 0x0⟩]⟩,
   ⟨"SN_RTDSTAT", 0x4401100C, 48, 0x10, 1, 0x0, 0, [⟨9, 9, .ro, 0x0⟩, ⟨8, 8, .ro, 0x0⟩, ⟨7, 7, .ro, 0x0⟩, ⟨6, 6, .ro, 0x0⟩, ⟨5, 5, .ro, 0x0⟩, ⟨4, 4, .ro, 0x0⟩, ⟨3, 3, .ro, 0x0⟩, ⟨2, 2, .ro, 0x0⟩, ⟨1, 1, .w1c, 0x0⟩, ⟨0, 0, .ro, 0x0⟩]⟩,
   ⟨"SN_RTDOFF", 0x44011400, 48, 0x4, 1, 0x0, 0, [⟨31, 0, .rw, 0x0⟩]⟩,
   ⟨"SN_MACFG", 0x44012000, 24, 0x10, 1, 0x0, 0, [⟨31, 31, .rw, 0x0⟩, ⟨30, 30, .rw, 0x0⟩, ⟨29, 29, .rw, 0x0⟩, ⟨28, 28, .rw, 0x0⟩, ⟨20, 16, .rw, 0x0⟩]⟩,
   ⟨"SN_MAVAL", 0x44012004, 24, 0x10, 1, 0x0, 0, [⟨31, 0, .ro, 0x0⟩]⟩,
   ⟨"SN_MARAW", 0x44012008, 24, 0x10, 1, 0x0, 0, [⟨15, 0, .ro, 0x0⟩]⟩,
   ⟨"SN_MASTAT", 0x4401200C, 24, 0x10, 1, 0x0, 0, [⟨9, 9, .ro, 0x0⟩, ⟨8, 8, .ro, 0x0⟩, ⟨7, 7, .ro, 0x0⟩, ⟨6, 6, .ro, 0x0⟩, ⟨5, 5, .ro, 0x0⟩, ⟨4, 4, .ro, 0x0⟩, ⟨3, 3, .ro, 0x0⟩, ⟨2, 2, .ro, 0x0⟩, ⟨1, 1, .w1c, 0x0⟩, ⟨0, 0, .ro, 0x0⟩]⟩,
   ⟨"SN_MALO", 0x44012200, 24, 0x8, 1, 0x0, 0, [⟨31, 0, .rw, 0x0⟩]⟩,
   ⟨"SN_MAHI", 0x44012204, 24, 0x8, 1, 0x0, 0, [⟨31, 0, .rw, 0x42C80000⟩]⟩,
   ⟨"SN_PICFG", 0x44013000, 8, 0x10, 1, 0x0, 0, [⟨31, 31, .rw, 0x0⟩, ⟨30, 29, .rw, 0x0⟩, ⟨28, 28, .rw, 0x0⟩, ⟨27, 27, .rw, 0x0⟩, ⟨18, 16, .rw, 0x0⟩, ⟨15, 0, .rw, 0x7D0⟩]⟩,
   ⟨"SN_PIKFACT", 0x44013004, 8, 0x10, 1, 0x0, 0, [⟨31, 0, .rw, 0x3F800000⟩]⟩] ++
  [⟨"SN_PIFREQ", 0x44013008, 8, 0x10, 1, 0x0, 0, [⟨31, 0, .ro, 0x0⟩]⟩,
   ⟨"SN_PISTAT", 0x4401300C, 8, 0x10, 1, 0x0, 0, [⟨9, 9, .ro, 0x0⟩, ⟨6, 6, .ro, 0x0⟩, ⟨5, 5, .ro, 0x0⟩, ⟨3, 3, .ro, 0x0⟩, ⟨2, 2, .ro, 0x0⟩, ⟨1, 1, .w1c, 0x0⟩, ⟨0, 0, .ro, 0x0⟩]⟩,
   ⟨"SN_DIN", 0x44013100, 1, 0x0, 1, 0x0, 0, [⟨15, 0, .ro, 0x0⟩]⟩,
   ⟨"SN_DINDEB", 0x44013104, 1, 0x0, 1, 0x0, 0, [⟨7, 0, .rw, 0xA⟩]⟩,
   ⟨"SN_DINPOL", 0x44013108, 1, 0x0, 1, 0x0, 0, [⟨15, 0, .rw, 0x0⟩]⟩,
   ⟨"LK_WET", 0x44120004, 1, 0x0, 1, 0x0, 0, [⟨6, 0, .rwl, 0x14⟩]⟩,
   ⟨"LK_ROPECFG", 0x44120100, 16, 0x10, 1, 0x0, 0, [⟨31, 31, .rwl, 0x0⟩, ⟨30, 26, .rwl, 0x1F⟩, ⟨25, 16, .rwl, 0x19⟩, ⟨15, 0, .rwl, 0x0⟩]⟩,
   ⟨"LK_ROPESTAT", 0x44120104, 16, 0x10, 1, 0x0, 0, [⟨31, 29, .ro, 0x4⟩, ⟨28, 27, .ro, 0x0⟩, ⟨26, 26, .ro, 0x0⟩, ⟨15, 0, .ro, 0xFFFF⟩]⟩,
   ⟨"LK_ROPELIVE", 0x44120108, 16, 0x10, 1, 0x0, 0, [⟨31, 16, .ro, 0x0⟩, ⟨15, 0, .ro, 0xFFFF⟩]⟩,
   ⟨"LK_ROPEACK", 0x4412010C, 16, 0x10, 1, 0x0, 0, [⟨0, 0, .w1s, 0x0⟩]⟩,
   ⟨"LK_PTCFG", 0x44120200, 16, 0x10, 1, 0x0, 0, [⟨31, 31, .rwl, 0x0⟩, ⟨30, 26, .rwl, 0x1F⟩]⟩,
   ⟨"LK_PTSTAT", 0x44120204, 16, 0x10, 1, 0x0, 0, [⟨31, 29, .ro, 0x4⟩, ⟨28, 27, .ro, 0x0⟩, ⟨26, 26, .ro, 0x0⟩, ⟨15, 0, .ro, 0xFFFF⟩]⟩,
   ⟨"LK_PTACK", 0x4412020C, 16, 0x10, 1, 0x0, 0, [⟨0, 0, .w1s, 0x0⟩]⟩]

/-! ### Pumps, fans, analog outputs (spec chapter 08) -/

/-- PF_PMGR.ROT_NOW, W1S (R235). -/
def PF_PMGR_ROT_NOW : RF := ⟨0x44100000, 31, 31⟩
/-- PF_PMGR.AVAIL, RO (R235). -/
def PF_PMGR_AVAIL : RF := ⟨0x44100000, 11, 8⟩
/-- PF_PMGR.RUN, RO (R235). -/
def PF_PMGR_RUN : RF := ⟨0x44100000, 7, 4⟩
/-- PF_PMGR.N_DUTY, RW (R235). -/
def PF_PMGR_N_DUTY : RF := ⟨0x44100000, 3, 2⟩
/-- PF_PMGR.ENABLE, RW (R235). -/
def PF_PMGR_ENABLE : RF := ⟨0x44100000, 0, 0⟩
/-- The whole word of PF_PMGR (R235). -/
def PF_PMGR : RF := ⟨0x44100000, 31, 0⟩
/-- PF_DEMAND, RW (R235). -/
def PF_DEMAND : RF := ⟨0x44100004, 13, 0⟩
/-- PF_ROT_HOURS, RW (R235). -/
def PF_ROT_HOURS : RF := ⟨0x44100008, 10, 0⟩
/-- PF_STOPCFG.USE_CUR, RWL (R235). -/
def PF_STOPCFG_USE_CUR : RF := ⟨0x4410000C, 24, 24⟩
/-- PF_STOPCFG.DP_COLLAPSE, RWL (R235). -/
def PF_STOPCFG_DP_COLLAPSE : RF := ⟨0x4410000C, 23, 16⟩
/-- PF_STOPCFG.PULSE_GAP, RWL (R235). -/
def PF_STOPCFG_PULSE_GAP : RF := ⟨0x4410000C, 4, 0⟩
/-- The whole word of PF_STOPCFG (R235). -/
def PF_STOPCFG : RF := ⟨0x4410000C, 31, 0⟩
/-- PF_HYD.FLOW_RESTORED, RO (R235). -/
def PF_HYD_FLOW_RESTORED : RF := ⟨0x44100010, 6, 6⟩
/-- PF_HYD.COOLANT_STOP, W1C (R235). -/
def PF_HYD_COOLANT_STOP : RF := ⟨0x44100010, 5, 5⟩
/-- PF_HYD.PRESS_LOST, RO (R235). -/
def PF_HYD_PRESS_LOST : RF := ⟨0x44100010, 4, 4⟩
/-- PF_HYD.PULSE_LOST, RO (R235). -/
def PF_HYD_PULSE_LOST : RF := ⟨0x44100010, 3, 3⟩
/-- PF_HYD.ARMED, RO (R235). -/
def PF_HYD_ARMED : RF := ⟨0x44100010, 2, 2⟩
/-- PF_HYD.SLOW_ROW, RO (R235). -/
def PF_HYD_SLOW_ROW : RF := ⟨0x44100010, 1, 1⟩
/-- PF_HYD.ALL_PUMPS_LOST, RO (R235). -/
def PF_HYD_ALL_PUMPS_LOST : RF := ⟨0x44100010, 0, 0⟩
/-- The whole word of PF_HYD (R235). -/
def PF_HYD : RF := ⟨0x44100010, 31, 0⟩
/-- PF_SLOWFALL, RO (R235). -/
def PF_SLOWFALL : RF := ⟨0x44100014, 15, 0⟩
/-- PF_SPEED, RW (R235). -/
def PF_SPEED (i : Nat) : RF := ⟨0x44100100 + i * 0x20, 13, 0⟩
/-- PF_PCFG.IF, RW (R235). -/
def PF_PCFG_IF (i : Nat) : RF := ⟨0x44100104 + i * 0x20, 31, 30⟩
/-- PF_PCFG.FAULT_POL, RW (R235). -/
def PF_PCFG_FAULT_POL (i : Nat) : RF := ⟨0x44100104 + i * 0x20, 29, 29⟩
/-- PF_PCFG.PPR, RW (R235). -/
def PF_PCFG_PPR (i : Nat) : RF := ⟨0x44100104 + i * 0x20, 27, 24⟩
/-- PF_PCFG.MIN, RW (R235). -/
def PF_PCFG_MIN (i : Nat) : RF := ⟨0x44100104 + i * 0x20, 23, 16⟩
/-- PF_PCFG.ENABLE, RW (R235). -/
def PF_PCFG_ENABLE (i : Nat) : RF := ⟨0x44100104 + i * 0x20, 0, 0⟩
/-- The whole word of PF_PCFG (R235). -/
def PF_PCFG (i : Nat) : RF := ⟨0x44100104 + i * 0x20, 31, 0⟩
/-- PF_PSTAT.STATE, RO (R235). -/
def PF_PSTAT_STATE (i : Nat) : RF := ⟨0x44100108 + i * 0x20, 31, 29⟩
/-- PF_PSTAT.RETRY, RO (R235). -/
def PF_PSTAT_RETRY (i : Nat) : RF := ⟨0x44100108 + i * 0x20, 28, 27⟩
/-- PF_PSTAT.LEAD, RO (R235). -/
def PF_PSTAT_LEAD (i : Nat) : RF := ⟨0x44100108 + i * 0x20, 26, 26⟩
/-- PF_PSTAT.STAGED, RO (R235). -/
def PF_PSTAT_STAGED (i : Nat) : RF := ⟨0x44100108 + i * 0x20, 25, 25⟩
/-- PF_PSTAT.FAULT_IN, RO (R235). -/
def PF_PSTAT_FAULT_IN (i : Nat) : RF := ⟨0x44100108 + i * 0x20, 24, 24⟩
/-- PF_PSTAT.OVERCURRENT, W1C (R235). -/
def PF_PSTAT_OVERCURRENT (i : Nat) : RF := ⟨0x44100108 + i * 0x20, 23, 23⟩
/-- The whole word of PF_PSTAT (R235). -/
def PF_PSTAT (i : Nat) : RF := ⟨0x44100108 + i * 0x20, 31, 0⟩
/-- PF_PTACH, RO (R235). -/
def PF_PTACH (i : Nat) : RF := ⟨0x4410010C + i * 0x20, 15, 0⟩
/-- PF_PHOURS, RO (R235). -/
def PF_PHOURS (i : Nat) : RF := ⟨0x44100110 + i * 0x20, 23, 0⟩
/-- PF_PCURSRC, RW (R235). -/
def PF_PCURSRC (i : Nat) : RF := ⟨0x44100114 + i * 0x20, 15, 0⟩
/-- PF_PLEARN, RO (R235). -/
def PF_PLEARN (i : Nat) : RF := ⟨0x44100118 + i * 0x20, 31, 0⟩
/-- PF_FSPEED, RW (R235). -/
def PF_FSPEED (i : Nat) : RF := ⟨0x44100200 + i * 0x20, 13, 0⟩
/-- PF_FCFG.IF, RW (R235). -/
def PF_FCFG_IF (i : Nat) : RF := ⟨0x44100204 + i * 0x20, 31, 30⟩
/-- PF_FCFG.FAULT_POL, RW (R235). -/
def PF_FCFG_FAULT_POL (i : Nat) : RF := ⟨0x44100204 + i * 0x20, 29, 29⟩
/-- PF_FCFG.PPR, RW (R235). -/
def PF_FCFG_PPR (i : Nat) : RF := ⟨0x44100204 + i * 0x20, 27, 24⟩
/-- PF_FCFG.MIN, RW (R235). -/
def PF_FCFG_MIN (i : Nat) : RF := ⟨0x44100204 + i * 0x20, 23, 16⟩
/-- PF_FCFG.ENABLE, RW (R235). -/
def PF_FCFG_ENABLE (i : Nat) : RF := ⟨0x44100204 + i * 0x20, 0, 0⟩
/-- The whole word of PF_FCFG (R235). -/
def PF_FCFG (i : Nat) : RF := ⟨0x44100204 + i * 0x20, 31, 0⟩
/-- PF_FSTAT.STATE, RO (R235). -/
def PF_FSTAT_STATE (i : Nat) : RF := ⟨0x44100208 + i * 0x20, 31, 29⟩
/-- PF_FSTAT.RETRY, RO (R235). -/
def PF_FSTAT_RETRY (i : Nat) : RF := ⟨0x44100208 + i * 0x20, 28, 27⟩
/-- PF_FSTAT.LEAD, RO (R235). -/
def PF_FSTAT_LEAD (i : Nat) : RF := ⟨0x44100208 + i * 0x20, 26, 26⟩
/-- PF_FSTAT.STAGED, RO (R235). -/
def PF_FSTAT_STAGED (i : Nat) : RF := ⟨0x44100208 + i * 0x20, 25, 25⟩
/-- PF_FSTAT.FAULT_IN, RO (R235). -/
def PF_FSTAT_FAULT_IN (i : Nat) : RF := ⟨0x44100208 + i * 0x20, 24, 24⟩
/-- PF_FSTAT.OVERCURRENT, W1C (R235). -/
def PF_FSTAT_OVERCURRENT (i : Nat) : RF := ⟨0x44100208 + i * 0x20, 23, 23⟩
/-- The whole word of PF_FSTAT (R235). -/
def PF_FSTAT (i : Nat) : RF := ⟨0x44100208 + i * 0x20, 31, 0⟩
/-- PF_FTACH, RO (R235). -/
def PF_FTACH (i : Nat) : RF := ⟨0x4410020C + i * 0x20, 15, 0⟩
/-- PF_FCUR, RO (R235). -/
def PF_FCUR (i : Nat) : RF := ⟨0x44100210 + i * 0x20, 12, 0⟩
/-- PF_FLEARN, RO (R235). -/
def PF_FLEARN (i : Nat) : RF := ⟨0x44100214 + i * 0x20, 12, 0⟩
/-- AO_CFG.SAFE, RW (R235). -/
def AO_CFG_SAFE (i : Nat) : RF := ⟨0x44110000 + i * 0x10, 21, 8⟩
/-- AO_CFG.MODE, RW (R235). -/
def AO_CFG_MODE (i : Nat) : RF := ⟨0x44110000 + i * 0x10, 1, 1⟩
/-- AO_CFG.ENABLE, RW (R235). -/
def AO_CFG_ENABLE (i : Nat) : RF := ⟨0x44110000 + i * 0x10, 0, 0⟩
/-- The whole word of AO_CFG (R235). -/
def AO_CFG (i : Nat) : RF := ⟨0x44110000 + i * 0x10, 31, 0⟩
/-- AO_VAL, RW (R235). -/
def AO_VAL (i : Nat) : RF := ⟨0x44110004 + i * 0x10, 13, 0⟩
/-- AO_READ, RO (R235). -/
def AO_READ (i : Nat) : RF := ⟨0x44110008 + i * 0x10, 15, 0⟩
/-- AO_STAT.OVERLOAD, W1C (R235). -/
def AO_STAT_OVERLOAD (i : Nat) : RF := ⟨0x4411000C + i * 0x10, 1, 1⟩
/-- AO_STAT.OPEN, W1C (R235). -/
def AO_STAT_OPEN (i : Nat) : RF := ⟨0x4411000C + i * 0x10, 0, 0⟩
/-- The whole word of AO_STAT (R235). -/
def AO_STAT (i : Nat) : RF := ⟨0x4411000C + i * 0x10, 31, 0⟩

/-- The rows of the register tables of chapter 08. -/
def regRowsPF : List RegRow :=
  [⟨"PF_PMGR", 0x44100000, 1, 0x0, 1, 0x0, 0, [⟨31, 31, .w1s, 0x0⟩, ⟨11, 8, .ro, 0x0⟩, ⟨7, 4, .ro, 0x0⟩, ⟨3, 2, .rw, 0x1⟩, ⟨0, 0, .rw, 0x0⟩]⟩,
   ⟨"PF_DEMAND", 0x44100004, 1, 0x0, 1, 0x0, 0, [⟨13, 0, .rw, 0x0⟩]⟩,
   ⟨"PF_ROT_HOURS", 0x44100008, 1, 0x0, 1, 0x0, 0, [⟨10, 0, .rw, 0xA8⟩]⟩,
   ⟨"PF_STOPCFG", 0x4410000C, 1, 0x0, 1, 0x0, 0, [⟨24, 24, .rwl, 0x0⟩, ⟨23, 16, .rwl, 0x14⟩, ⟨4, 0, .rwl, 0xA⟩]⟩,
   ⟨"PF_HYD", 0x44100010, 1, 0x0, 1, 0x0, 0, [⟨6, 6, .ro, 0x0⟩, ⟨5, 5, .w1c, 0x0⟩, ⟨4, 4, .ro, 0x0⟩, ⟨3, 3, .ro, 0x0⟩, ⟨2, 2, .ro, 0x0⟩, ⟨1, 1, .ro, 0x0⟩, ⟨0, 0, .ro, 0x0⟩]⟩,
   ⟨"PF_SLOWFALL", 0x44100014, 1, 0x0, 1, 0x0, 0, [⟨15, 0, .ro, 0x0⟩]⟩,
   ⟨"PF_SPEED", 0x44100100, 4, 0x20, 1, 0x0, 0, [⟨13, 0, .rw, 0x0⟩]⟩,
   ⟨"PF_PCFG", 0x44100104, 4, 0x20, 1, 0x0, 0, [⟨31, 30, .rw, 0x0⟩, ⟨29, 29, .rw, 0x0⟩, ⟨27, 24, .rw, 0x2⟩, ⟨23, 16, .rw, 0x14⟩, ⟨0, 0, .rw, 0x0⟩]⟩,
   ⟨"PF_PSTAT", 0x44100108, 4, 0x20, 1, 0x0, 0, [⟨31, 29, .ro, 0x0⟩, ⟨28, 27, .ro, 0x0⟩, ⟨26, 26, .ro, 0x0⟩, ⟨25, 25, .ro, 0x0⟩, ⟨24, 24, .ro, 0x0⟩, ⟨23, 23, .w1c, 0x0⟩]⟩,
   ⟨"PF_PTACH", 0x4410010C, 4, 0x20, 1, 0x0, 0, [⟨15, 0, .ro, 0x0⟩]⟩,
   ⟨"PF_PHOURS", 0x44100110, 4, 0x20, 1, 0x0, 0, [⟨23, 0, .ro, 0x0⟩]⟩,
   ⟨"PF_PCURSRC", 0x44100114, 4, 0x20, 1, 0x0, 0, [⟨15, 0, .rw, 0x0⟩]⟩,
   ⟨"PF_PLEARN", 0x44100118, 4, 0x20, 1, 0x0, 0, [⟨31, 0, .ro, 0x0⟩]⟩,
   ⟨"PF_FSPEED", 0x44100200, 8, 0x20, 1, 0x0, 0, [⟨13, 0, .rw, 0x0⟩]⟩,
   ⟨"PF_FCFG", 0x44100204, 8, 0x20, 1, 0x0, 0, [⟨31, 30, .rw, 0x0⟩, ⟨29, 29, .rw, 0x0⟩, ⟨27, 24, .rw, 0x2⟩, ⟨23, 16, .rw, 0x14⟩, ⟨0, 0, .rw, 0x0⟩]⟩,
   ⟨"PF_FSTAT", 0x44100208, 8, 0x20, 1, 0x0, 0, [⟨31, 29, .ro, 0x0⟩, ⟨28, 27, .ro, 0x0⟩, ⟨26, 26, .ro, 0x0⟩, ⟨25, 25, .ro, 0x0⟩, ⟨24, 24, .ro, 0x0⟩, ⟨23, 23, .w1c, 0x0⟩]⟩,
   ⟨"PF_FTACH", 0x4410020C, 8, 0x20, 1, 0x0, 0, [⟨15, 0, .ro, 0x0⟩]⟩,
   ⟨"PF_FCUR", 0x44100210, 8, 0x20, 1, 0x0, 0, [⟨12, 0, .ro, 0x0⟩]⟩,
   ⟨"PF_FLEARN", 0x44100214, 8, 0x20, 1, 0x0, 0, [⟨12, 0, .ro, 0x0⟩]⟩,
   ⟨"AO_CFG", 0x44110000, 20, 0x10, 1, 0x0, 0, [⟨21, 8, .rw, 0x0⟩, ⟨1, 1, .rw, 0x0⟩, ⟨0, 0, .rw, 0x0⟩]⟩] ++
  [⟨"AO_VAL", 0x44110004, 20, 0x10, 1, 0x0, 0, [⟨13, 0, .rw, 0x0⟩]⟩,
   ⟨"AO_READ", 0x44110008, 20, 0x10, 1, 0x0, 0, [⟨15, 0, .ro, 0x0⟩]⟩,
   ⟨"AO_STAT", 0x4411000C, 20, 0x10, 1, 0x0, 0, [⟨1, 1, .w1c, 0x0⟩, ⟨0, 0, .w1c, 0x0⟩]⟩]

/-! ### Solenoid drivers (spec chapter 10) -/

/-- SV_CTRL.PEAK_MAX, RW (R273). -/
def SV_CTRL_PEAK_MAX : RF := ⟨0x44130000, 19, 16⟩
/-- SV_CTRL.ENABLE, RW (R273). -/
def SV_CTRL_ENABLE : RF := ⟨0x44130000, 0, 0⟩
/-- The whole word of SV_CTRL (R273). -/
def SV_CTRL : RF := ⟨0x44130000, 31, 0⟩
/-- SV_KINK.SEAT_MS, RW (R273). -/
def SV_KINK_SEAT_MS : RF := ⟨0x44130004, 23, 16⟩
/-- SV_KINK.BLANK_MS, RW (R273). -/
def SV_KINK_BLANK_MS : RF := ⟨0x44130004, 15, 8⟩
/-- SV_KINK.KINK_MA, RW (R273). -/
def SV_KINK_KINK_MA : RF := ⟨0x44130004, 7, 0⟩
/-- The whole word of SV_KINK (R273). -/
def SV_KINK : RF := ⟨0x44130004, 31, 0⟩
/-- SV_TIMING.REOPEN_MS, RW (R273). -/
def SV_TIMING_REOPEN_MS : RF := ⟨0x44130008, 25, 16⟩
/-- SV_TIMING.IDLE_MIN, RW (R273). -/
def SV_TIMING_IDLE_MIN : RF := ⟨0x44130008, 3, 0⟩
/-- The whole word of SV_TIMING (R273). -/
def SV_TIMING : RF := ⟨0x44130008, 31, 0⟩
/-- SV_TRACE.EN, RW (R273). -/
def SV_TRACE_EN : RF := ⟨0x4413000C, 31, 31⟩
/-- SV_TRACE.CH, RW (R273). -/
def SV_TRACE_CH : RF := ⟨0x4413000C, 5, 0⟩
/-- The whole word of SV_TRACE (R273). -/
def SV_TRACE : RF := ⟨0x4413000C, 31, 0⟩
/-- SV_GSTAT.HS, RO (R273). -/
def SV_GSTAT_HS (i : Nat) : RF := ⟨0x44130100 + i * 0x20, 31, 30⟩
/-- SV_GSTAT.PEAK_BUSY, RO (R273). -/
def SV_GSTAT_PEAK_BUSY (i : Nat) : RF := ⟨0x44130100 + i * 0x20, 29, 29⟩
/-- SV_GSTAT.PEAK_CH, RO (R273). -/
def SV_GSTAT_PEAK_CH (i : Nat) : RF := ⟨0x44130100 + i * 0x20, 28, 27⟩
/-- SV_GSTAT.GRP_FAULT, RO (R273). -/
def SV_GSTAT_GRP_FAULT (i : Nat) : RF := ⟨0x44130100 + i * 0x20, 3, 3⟩
/-- SV_GSTAT.GRP_OC, W1C (R273). -/
def SV_GSTAT_GRP_OC (i : Nat) : RF := ⟨0x44130100 + i * 0x20, 2, 2⟩
/-- SV_GSTAT.SHORT_SUPPLY, W1C (R273). -/
def SV_GSTAT_SHORT_SUPPLY (i : Nat) : RF := ⟨0x44130100 + i * 0x20, 1, 1⟩
/-- The whole word of SV_GSTAT (R273). -/
def SV_GSTAT (i : Nat) : RF := ⟨0x44130100 + i * 0x20, 31, 0⟩
/-- SV_GCUR, RO (R273). -/
def SV_GCUR (i : Nat) : RF := ⟨0x44130104 + i * 0x20, 12, 0⟩
/-- SV_GNODE, RO (R273). -/
def SV_GNODE (i : Nat) : RF := ⟨0x44130108 + i * 0x20, 15, 0⟩
/-- SV_GIDLE, RO (R273). -/
def SV_GIDLE (i : Nat) : RF := ⟨0x4413010C + i * 0x20, 15, 0⟩
/-- SV_CHCFG.ENABLE, RWL (R273). -/
def SV_CHCFG_ENABLE (i : Nat) : RF := ⟨0x44131000 + i * 0x20, 31, 31⟩
/-- SV_CHCFG.ROLE, RWL (R273). -/
def SV_CHCFG_ROLE (i : Nat) : RF := ⟨0x44131000 + i * 0x20, 30, 29⟩
/-- SV_CHCFG.RACK, RWL (R273). -/
def SV_CHCFG_RACK (i : Nat) : RF := ⟨0x44131000 + i * 0x20, 28, 24⟩
/-- SV_CHCFG.POS_EN, RW (R273). -/
def SV_CHCFG_POS_EN (i : Nat) : RF := ⟨0x44131000 + i * 0x20, 20, 20⟩
/-- SV_CHCFG.POS_POL, RW (R273). -/
def SV_CHCFG_POS_POL (i : Nat) : RF := ⟨0x44131000 + i * 0x20, 19, 19⟩
/-- SV_CHCFG.POS_DI, RW (R273). -/
def SV_CHCFG_POS_DI (i : Nat) : RF := ⟨0x44131000 + i * 0x20, 15, 12⟩
/-- The whole word of SV_CHCFG (R273). -/
def SV_CHCFG (i : Nat) : RF := ⟨0x44131000 + i * 0x20, 31, 0⟩
/-- SV_CHI.PEAK_MA, RW (R273). -/
def SV_CHI_PEAK_MA (i : Nat) : RF := ⟨0x44131004 + i * 0x20, 26, 16⟩
/-- SV_CHI.HOLD_MA, RW (R273). -/
def SV_CHI_HOLD_MA (i : Nat) : RF := ⟨0x44131004 + i * 0x20, 8, 0⟩
/-- The whole word of SV_CHI (R273). -/
def SV_CHI (i : Nat) : RF := ⟨0x44131004 + i * 0x20, 31, 0⟩
/-- SV_CHCMD.RELEASE, W1S (R273). -/
def SV_CHCMD_RELEASE (i : Nat) : RF := ⟨0x44131008 + i * 0x20, 31, 31⟩
/-- SV_CHCMD.CLOSE, RW (R273). -/
def SV_CHCMD_CLOSE (i : Nat) : RF := ⟨0x44131008 + i * 0x20, 0, 0⟩
/-- The whole word of SV_CHCMD (R273). -/
def SV_CHCMD (i : Nat) : RF := ⟨0x44131008 + i * 0x20, 31, 0⟩
/-- SV_CHSTAT.STATE, RO (R273). -/
def SV_CHSTAT_STATE (i : Nat) : RF := ⟨0x4413100C + i * 0x20, 31, 29⟩
/-- SV_CHSTAT.TRIP_HELD, RO (R273). -/
def SV_CHSTAT_TRIP_HELD (i : Nat) : RF := ⟨0x4413100C + i * 0x20, 28, 28⟩
/-- SV_CHSTAT.PREEMPTED, RO (R273). -/
def SV_CHSTAT_PREEMPTED (i : Nat) : RF := ⟨0x4413100C + i * 0x20, 27, 27⟩
/-- SV_CHSTAT.POS, RO (R273). -/
def SV_CHSTAT_POS (i : Nat) : RF := ⟨0x4413100C + i * 0x20, 26, 26⟩
/-- SV_CHSTAT.POS_MISMATCH, W1C (R273). -/
def SV_CHSTAT_POS_MISMATCH (i : Nat) : RF := ⟨0x4413100C + i * 0x20, 8, 8⟩
/-- SV_CHSTAT.GROUP_BUDGET, W1C (R273). -/
def SV_CHSTAT_GROUP_BUDGET (i : Nat) : RF := ⟨0x4413100C + i * 0x20, 7, 7⟩
/-- SV_CHSTAT.NO_KINK, W1C (R273). -/
def SV_CHSTAT_NO_KINK (i : Nat) : RF := ⟨0x4413100C + i * 0x20, 6, 6⟩
/-- SV_CHSTAT.OVERCURRENT, W1C (R273). -/
def SV_CHSTAT_OVERCURRENT (i : Nat) : RF := ⟨0x4413100C + i * 0x20, 5, 5⟩
/-- SV_CHSTAT.SHORT_SUPPLY, W1C (R273). -/
def SV_CHSTAT_SHORT_SUPPLY (i : Nat) : RF := ⟨0x4413100C + i * 0x20, 4, 4⟩
/-- SV_CHSTAT.SHORT_GND, W1C (R273). -/
def SV_CHSTAT_SHORT_GND (i : Nat) : RF := ⟨0x4413100C + i * 0x20, 3, 3⟩
/-- SV_CHSTAT.OPEN_LOAD, W1C (R273). -/
def SV_CHSTAT_OPEN_LOAD (i : Nat) : RF := ⟨0x4413100C + i * 0x20, 2, 2⟩
/-- SV_CHSTAT.KINK_SEEN, RO (R273). -/
def SV_CHSTAT_KINK_SEEN (i : Nat) : RF := ⟨0x4413100C + i * 0x20, 1, 1⟩
/-- The whole word of SV_CHSTAT (R273). -/
def SV_CHSTAT (i : Nat) : RF := ⟨0x4413100C + i * 0x20, 31, 0⟩
/-- SV_CHCUR, RO (R273). -/
def SV_CHCUR (i : Nat) : RF := ⟨0x44131010 + i * 0x20, 12, 0⟩
/-- SV_CHNODE, RO (R273). -/
def SV_CHNODE (i : Nat) : RF := ⟨0x44131014 + i * 0x20, 15, 0⟩
/-- SV_CHKINK.TIME, RO (R273). -/
def SV_CHKINK_TIME (i : Nat) : RF := ⟨0x44131018 + i * 0x20, 31, 16⟩
/-- SV_CHKINK.DEPTH, RO (R273). -/
def SV_CHKINK_DEPTH (i : Nat) : RF := ⟨0x44131018 + i * 0x20, 11, 0⟩
/-- The whole word of SV_CHKINK (R273). -/
def SV_CHKINK (i : Nat) : RF := ⟨0x44131018 + i * 0x20, 31, 0⟩
/-- SV_CHCOUNT, RO (R273). -/
def SV_CHCOUNT (i : Nat) : RF := ⟨0x4413101C + i * 0x20, 31, 0⟩

/-- The rows of the register tables of chapter 10. -/
def regRowsSV : List RegRow :=
  [⟨"SV_CTRL", 0x44130000, 1, 0x0, 1, 0x0, 0, [⟨19, 16, .rw, 0x4⟩, ⟨0, 0, .rw, 0x0⟩]⟩,
   ⟨"SV_KINK", 0x44130004, 1, 0x0, 1, 0x0, 0, [⟨23, 16, .rw, 0x5⟩, ⟨15, 8, .rw, 0x2⟩, ⟨7, 0, .rw, 0x1E⟩]⟩,
   ⟨"SV_TIMING", 0x44130008, 1, 0x0, 1, 0x0, 0, [⟨25, 16, .rw, 0x64⟩, ⟨3, 0, .rw, 0xA⟩]⟩,
   ⟨"SV_TRACE", 0x4413000C, 1, 0x0, 1, 0x0, 0, [⟨31, 31, .rw, 0x0⟩, ⟨5, 0, .rw, 0x0⟩]⟩,
   ⟨"SV_GSTAT", 0x44130100, 9, 0x20, 1, 0x0, 0, [⟨31, 30, .ro, 0x0⟩, ⟨29, 29, .ro, 0x0⟩, ⟨28, 27, .ro, 0x0⟩, ⟨3, 3, .ro, 0x0⟩, ⟨2, 2, .w1c, 0x0⟩, ⟨1, 1, .w1c, 0x0⟩]⟩,
   ⟨"SV_GCUR", 0x44130104, 9, 0x20, 1, 0x0, 0, [⟨12, 0, .ro, 0x0⟩]⟩,
   ⟨"SV_GNODE", 0x44130108, 9, 0x20, 1, 0x0, 0, [⟨15, 0, .ro, 0x0⟩]⟩,
   ⟨"SV_GIDLE", 0x4413010C, 9, 0x20, 1, 0x0, 0, [⟨15, 0, .ro, 0x0⟩]⟩,
   ⟨"SV_CHCFG", 0x44131000, 36, 0x20, 1, 0x0, 0, [⟨31, 31, .rwl, 0x0⟩, ⟨30, 29, .rwl, 0x0⟩, ⟨28, 24, .rwl, 0x1F⟩, ⟨20, 20, .rw, 0x0⟩, ⟨19, 19, .rw, 0x0⟩, ⟨15, 12, .rw, 0x0⟩]⟩,
   ⟨"SV_CHI", 0x44131004, 36, 0x20, 1, 0x0, 0, [⟨26, 16, .rw, 0x640⟩, ⟨8, 0, .rw, 0x12C⟩]⟩,
   ⟨"SV_CHCMD", 0x44131008, 36, 0x20, 1, 0x0, 0, [⟨31, 31, .w1s, 0x0⟩, ⟨0, 0, .rw, 0x0⟩]⟩,
   ⟨"SV_CHSTAT", 0x4413100C, 36, 0x20, 1, 0x0, 0, [⟨31, 29, .ro, 0x0⟩, ⟨28, 28, .ro, 0x0⟩, ⟨27, 27, .ro, 0x0⟩, ⟨26, 26, .ro, 0x0⟩, ⟨8, 8, .w1c, 0x0⟩, ⟨7, 7, .w1c, 0x0⟩, ⟨6, 6, .w1c, 0x0⟩, ⟨5, 5, .w1c, 0x0⟩, ⟨4, 4, .w1c, 0x0⟩, ⟨3, 3, .w1c, 0x0⟩, ⟨2, 2, .w1c, 0x0⟩, ⟨1, 1, .ro, 0x0⟩]⟩,
   ⟨"SV_CHCUR", 0x44131010, 36, 0x20, 1, 0x0, 0, [⟨12, 0, .ro, 0x0⟩]⟩,
   ⟨"SV_CHNODE", 0x44131014, 36, 0x20, 1, 0x0, 0, [⟨15, 0, .ro, 0x0⟩]⟩,
   ⟨"SV_CHKINK", 0x44131018, 36, 0x20, 1, 0x0, 0, [⟨31, 16, .ro, 0x0⟩, ⟨11, 0, .ro, 0x0⟩]⟩,
   ⟨"SV_CHCOUNT", 0x4413101C, 36, 0x20, 1, 0x0, 0, [⟨31, 0, .ro, 0x0⟩]⟩]

/-! ### Clock, reset and trip matrix (spec chapter 17) -/

/-- TM_CTRL.OUT_EN, RO (R434). -/
def TM_CTRL_OUT_EN : RF := ⟨0x44140000, 2, 2⟩
/-- TM_CTRL.ENABLE, RWL (R434). -/
def TM_CTRL_ENABLE : RF := ⟨0x44140000, 1, 1⟩
/-- TM_CTRL.LOCK, W1S (R434). -/
def TM_CTRL_LOCK : RF := ⟨0x44140000, 0, 0⟩
/-- The whole word of TM_CTRL (R434). -/
def TM_CTRL : RF := ⟨0x44140000, 31, 0⟩
/-- TM_ROW.EN, RWL (R434). -/
def TM_ROW_EN (i : Nat) : RF := ⟨0x44140100 + i * 0x4, 31, 31⟩
/-- TM_ROW.INPUT, RWL (R434). -/
def TM_ROW_INPUT (i : Nat) : RF := ⟨0x44140100 + i * 0x4, 30, 24⟩
/-- TM_ROW.ACTION, RWL (R434). -/
def TM_ROW_ACTION (i : Nat) : RF := ⟨0x44140100 + i * 0x4, 23, 20⟩
/-- TM_ROW.ARG, RWL (R434). -/
def TM_ROW_ARG (i : Nat) : RF := ⟨0x44140100 + i * 0x4, 15, 0⟩
/-- The whole word of TM_ROW (R434). -/
def TM_ROW (i : Nat) : RF := ⟨0x44140100 + i * 0x4, 31, 0⟩
/-- TM_IN, RO (R434). -/
def TM_IN (i : Nat) : RF := ⟨0x44140010 + i * 0x4, 31, 0⟩
/-- TM_LATCH, W1C (R434). -/
def TM_LATCH (i : Nat) : RF := ⟨0x44140020 + i * 0x4, 31, 0⟩
/-- TM_CRC, RO (R434). -/
def TM_CRC : RF := ⟨0x44140030, 31, 0⟩
/-- TM_CRC_LOCK, RO (R434). -/
def TM_CRC_LOCK : RF := ⟨0x44140034, 31, 0⟩
/-- CK_CTRL.WARM_ARM, W1S (R434). -/
def CK_CTRL_WARM_ARM : RF := ⟨0x4F000000, 2, 2⟩
/-- CK_CTRL.CORE_DIV, RO (R434). -/
def CK_CTRL_CORE_DIV : RF := ⟨0x4F000000, 1, 0⟩
/-- The whole word of CK_CTRL (R434). -/
def CK_CTRL : RF := ⟨0x4F000000, 31, 0⟩
/-- CK_STATUS.RESET_CAUSE, RO (R434). -/
def CK_STATUS_RESET_CAUSE : RF := ⟨0x4F000004, 31, 24⟩
/-- CK_STATUS.TIME_STEPPED, W1C (R434). -/
def CK_STATUS_TIME_STEPPED : RF := ⟨0x4F000004, 4, 4⟩
/-- CK_STATUS.TIME_VALID, RO (R434). -/
def CK_STATUS_TIME_VALID : RF := ⟨0x4F000004, 3, 3⟩
/-- CK_STATUS.PTM_LOCKED, RO (R434). -/
def CK_STATUS_PTM_LOCKED : RF := ⟨0x4F000004, 2, 2⟩
/-- CK_STATUS.PLL_UNLOCK, W1C (R434). -/
def CK_STATUS_PLL_UNLOCK : RF := ⟨0x4F000004, 1, 1⟩
/-- CK_STATUS.PLL_LOCK, RO (R434). -/
def CK_STATUS_PLL_LOCK : RF := ⟨0x4F000004, 0, 0⟩
/-- The whole word of CK_STATUS (R434). -/
def CK_STATUS : RF := ⟨0x4F000004, 31, 0⟩
/-- CK_TIME_LO, RO (R434). -/
def CK_TIME_LO : RF := ⟨0x4F000008, 31, 0⟩
/-- CK_TIME_HI, RO (R434). -/
def CK_TIME_HI : RF := ⟨0x4F00000C, 31, 0⟩
/-- CK_PTM_OFFSET, RO (R434). -/
def CK_PTM_OFFSET : RF := ⟨0x4F000010, 31, 0⟩
/-- CK_SLEW, RO (R434). -/
def CK_SLEW : RF := ⟨0x4F000014, 15, 0⟩
/-- CK_WARM_AT_LO, RW (R434). -/
def CK_WARM_AT_LO : RF := ⟨0x4F000018, 31, 0⟩
/-- CK_WARM_AT_HI, RW (R434). -/
def CK_WARM_AT_HI : RF := ⟨0x4F00001C, 31, 0⟩
/-- CK_FRAME_ORIGIN_LO, RW (R434). -/
def CK_FRAME_ORIGIN_LO : RF := ⟨0x4F000020, 31, 0⟩
/-- CK_FRAME_ORIGIN_HI, RW (R434). -/
def CK_FRAME_ORIGIN_HI : RF := ⟨0x4F000024, 31, 0⟩
/-- CK_BOOT_COUNT, RO (R434). -/
def CK_BOOT_COUNT : RF := ⟨0x4F000028, 31, 0⟩

/-- The rows of the register tables of chapter 17. -/
def regRowsCK : List RegRow :=
  [⟨"TM_CTRL", 0x44140000, 1, 0x0, 1, 0x0, 0, [⟨2, 2, .ro, 0x0⟩, ⟨1, 1, .rwl, 0x0⟩, ⟨0, 0, .w1s, 0x0⟩]⟩,
   ⟨"TM_ROW", 0x44140100, 128, 0x4, 1, 0x0, 0, [⟨31, 31, .rwl, 0x0⟩, ⟨30, 24, .rwl, 0x0⟩, ⟨23, 20, .rwl, 0x0⟩, ⟨15, 0, .rwl, 0x0⟩]⟩,
   ⟨"TM_IN", 0x44140010, 4, 0x4, 1, 0x0, 0, [⟨31, 0, .ro, 0x0⟩]⟩,
   ⟨"TM_LATCH", 0x44140020, 4, 0x4, 1, 0x0, 0, [⟨31, 0, .w1c, 0x0⟩]⟩,
   ⟨"TM_CRC", 0x44140030, 1, 0x0, 1, 0x0, 0, [⟨31, 0, .ro, 0x0⟩]⟩,
   ⟨"TM_CRC_LOCK", 0x44140034, 1, 0x0, 1, 0x0, 0, [⟨31, 0, .ro, 0x0⟩]⟩,
   ⟨"CK_CTRL", 0x4F000000, 1, 0x0, 1, 0x0, 0, [⟨2, 2, .w1s, 0x0⟩, ⟨1, 0, .ro, 0x0⟩]⟩,
   ⟨"CK_STATUS", 0x4F000004, 1, 0x0, 1, 0x0, 0, [⟨31, 24, .ro, 0x0⟩, ⟨4, 4, .w1c, 0x0⟩, ⟨3, 3, .ro, 0x0⟩, ⟨2, 2, .ro, 0x0⟩, ⟨1, 1, .w1c, 0x0⟩, ⟨0, 0, .ro, 0x0⟩]⟩,
   ⟨"CK_TIME_LO", 0x4F000008, 1, 0x0, 1, 0x0, 0, [⟨31, 0, .ro, 0x0⟩]⟩,
   ⟨"CK_TIME_HI", 0x4F00000C, 1, 0x0, 1, 0x0, 0, [⟨31, 0, .ro, 0x0⟩]⟩,
   ⟨"CK_PTM_OFFSET", 0x4F000010, 1, 0x0, 1, 0x0, 0, [⟨31, 0, .ro, 0x0⟩]⟩,
   ⟨"CK_SLEW", 0x4F000014, 1, 0x0, 1, 0x0, 0, [⟨15, 0, .ro, 0x0⟩]⟩,
   ⟨"CK_WARM_AT_LO", 0x4F000018, 1, 0x0, 1, 0x0, 0, [⟨31, 0, .rw, 0x0⟩]⟩,
   ⟨"CK_WARM_AT_HI", 0x4F00001C, 1, 0x0, 1, 0x0, 0, [⟨31, 0, .rw, 0x0⟩]⟩,
   ⟨"CK_FRAME_ORIGIN_LO", 0x4F000020, 1, 0x0, 1, 0x0, 0, [⟨31, 0, .rw, 0x0⟩]⟩,
   ⟨"CK_FRAME_ORIGIN_HI", 0x4F000024, 1, 0x0, 1, 0x0, 0, [⟨31, 0, .rw, 0x0⟩]⟩,
   ⟨"CK_BOOT_COUNT", 0x4F000028, 1, 0x0, 1, 0x0, 0, [⟨31, 0, .ro, 0x0⟩]⟩]

/-! ### Field bus (spec chapter 11) -/

/-- FB_CTRL.INIT, RW (R300). -/
def FB_CTRL_INIT (i : Nat) : RF := ⟨0x45000000 + i * 0x1000, 31, 31⟩
/-- FB_CTRL.MONITOR, RW (R300). -/
def FB_CTRL_MONITOR (i : Nat) : RF := ⟨0x45000000 + i * 0x1000, 30, 30⟩
/-- FB_CTRL.TERM, RW (R300). -/
def FB_CTRL_TERM (i : Nat) : RF := ⟨0x45000000 + i * 0x1000, 29, 29⟩
/-- FB_CTRL.AUTO_REC, RW (R300). -/
def FB_CTRL_AUTO_REC (i : Nat) : RF := ⟨0x45000000 + i * 0x1000, 28, 28⟩
/-- FB_CTRL.RECOVER, W1S (R300). -/
def FB_CTRL_RECOVER (i : Nat) : RF := ⟨0x45000000 + i * 0x1000, 27, 27⟩
/-- FB_CTRL.TT_EN, RW (R300). -/
def FB_CTRL_TT_EN (i : Nat) : RF := ⟨0x45000000 + i * 0x1000, 26, 26⟩
/-- FB_CTRL.MIR_EN, RW (R300). -/
def FB_CTRL_MIR_EN (i : Nat) : RF := ⟨0x45000000 + i * 0x1000, 25, 25⟩
/-- FB_CTRL.MIR_CH, RW (R300). -/
def FB_CTRL_MIR_CH (i : Nat) : RF := ⟨0x45000000 + i * 0x1000, 24, 23⟩
/-- FB_CTRL.PROTO, RW (R300). -/
def FB_CTRL_PROTO (i : Nat) : RF := ⟨0x45000000 + i * 0x1000, 15, 14⟩
/-- The whole word of FB_CTRL (R300). -/
def FB_CTRL (i : Nat) : RF := ⟨0x45000000 + i * 0x1000, 31, 0⟩
/-- FB_STAT.FCS, RO (R300). -/
def FB_STAT_FCS (i : Nat) : RF := ⟨0x45000004 + i * 0x1000, 31, 30⟩
/-- FB_STAT.RECOVERING, RO (R300). -/
def FB_STAT_RECOVERING (i : Nat) : RF := ⟨0x45000004 + i * 0x1000, 29, 29⟩
/-- FB_STAT.ALONE, RO (R300). -/
def FB_STAT_ALONE (i : Nat) : RF := ⟨0x45000004 + i * 0x1000, 28, 28⟩
/-- FB_STAT.SCHED_BAD, RO (R300). -/
def FB_STAT_SCHED_BAD (i : Nat) : RF := ⟨0x45000004 + i * 0x1000, 27, 27⟩
/-- FB_STAT.TEC, RO (R300). -/
def FB_STAT_TEC (i : Nat) : RF := ⟨0x45000004 + i * 0x1000, 24, 16⟩
/-- FB_STAT.REC, RO (R300). -/
def FB_STAT_REC (i : Nat) : RF := ⟨0x45000004 + i * 0x1000, 15, 8⟩
/-- FB_STAT.ACK_RUN, RO (R300). -/
def FB_STAT_ACK_RUN (i : Nat) : RF := ⟨0x45000004 + i * 0x1000, 7, 0⟩
/-- The whole word of FB_STAT (R300). -/
def FB_STAT (i : Nat) : RF := ⟨0x45000004 + i * 0x1000, 31, 0⟩
/-- FB_NBT.BRP, RW (R300). -/
def FB_NBT_BRP (i : Nat) : RF := ⟨0x45000008 + i * 0x1000, 31, 27⟩
/-- FB_NBT.TSEG1, RW (R300). -/
def FB_NBT_TSEG1 (i : Nat) : RF := ⟨0x45000008 + i * 0x1000, 26, 19⟩
/-- FB_NBT.TSEG2, RW (R300). -/
def FB_NBT_TSEG2 (i : Nat) : RF := ⟨0x45000008 + i * 0x1000, 18, 12⟩
/-- FB_NBT.SJW, RW (R300). -/
def FB_NBT_SJW (i : Nat) : RF := ⟨0x45000008 + i * 0x1000, 11, 5⟩
/-- The whole word of FB_NBT (R300). -/
def FB_NBT (i : Nat) : RF := ⟨0x45000008 + i * 0x1000, 31, 0⟩
/-- FB_DBT.TDC_EN, RW (R300). -/
def FB_DBT_TDC_EN (i : Nat) : RF := ⟨0x4500000C + i * 0x1000, 31, 31⟩
/-- FB_DBT.TDCO, RW (R300). -/
def FB_DBT_TDCO (i : Nat) : RF := ⟨0x4500000C + i * 0x1000, 30, 24⟩
/-- FB_DBT.BRP, RW (R300). -/
def FB_DBT_BRP (i : Nat) : RF := ⟨0x4500000C + i * 0x1000, 23, 21⟩
/-- FB_DBT.TSEG1, RW (R300). -/
def FB_DBT_TSEG1 (i : Nat) : RF := ⟨0x4500000C + i * 0x1000, 20, 16⟩
/-- FB_DBT.TSEG2, RW (R300). -/
def FB_DBT_TSEG2 (i : Nat) : RF := ⟨0x4500000C + i * 0x1000, 15, 12⟩
/-- FB_DBT.SJW, RW (R300). -/
def FB_DBT_SJW (i : Nat) : RF := ⟨0x4500000C + i * 0x1000, 11, 8⟩
/-- The whole word of FB_DBT (R300). -/
def FB_DBT (i : Nat) : RF := ⟨0x4500000C + i * 0x1000, 31, 0⟩
/-- FB_TTCFG.LEN, RW (R300). -/
def FB_TTCFG_LEN (i : Nat) : RF := ⟨0x45000010 + i * 0x1000, 21, 12⟩
/-- FB_TTCFG.TX_ENABLE, RW (R300). -/
def FB_TTCFG_TX_ENABLE (i : Nat) : RF := ⟨0x45000010 + i * 0x1000, 11, 8⟩
/-- FB_TTCFG.NCOL, RW (R300). -/
def FB_TTCFG_NCOL (i : Nat) : RF := ⟨0x45000010 + i * 0x1000, 5, 0⟩
/-- The whole word of FB_TTCFG (R300). -/
def FB_TTCFG (i : Nat) : RF := ⟨0x45000010 + i * 0x1000, 31, 0⟩
/-- FB_NODEBASE, RW (R300). -/
def FB_NODEBASE (i : Nat) : RF := ⟨0x45000014 + i * 0x1000, 10, 0⟩
/-- FB_NODEEXP_LO, RW (R300). -/
def FB_NODEEXP_LO (i : Nat) : RF := ⟨0x45000018 + i * 0x1000, 31, 0⟩
/-- FB_NODEEXP_HI, RW (R300). -/
def FB_NODEEXP_HI (i : Nat) : RF := ⟨0x4500001C + i * 0x1000, 31, 0⟩
/-- FB_NODELOST_LO, RO (R300). -/
def FB_NODELOST_LO (i : Nat) : RF := ⟨0x45000020 + i * 0x1000, 31, 0⟩
/-- FB_NODELOST_HI, RO (R300). -/
def FB_NODELOST_HI (i : Nat) : RF := ⟨0x45000024 + i * 0x1000, 31, 0⟩
/-- FB_REFMISS, RC (R300). -/
def FB_REFMISS (i : Nat) : RF := ⟨0x45000028 + i * 0x1000, 15, 0⟩
/-- FB_RXDROP, RC (R300). -/
def FB_RXDROP (i : Nat) : RF := ⟨0x4500002C + i * 0x1000, 15, 0⟩
/-- FB_CYCLE.MATRIX, RO (R300). -/
def FB_CYCLE_MATRIX (i : Nat) : RF := ⟨0x45000030 + i * 0x1000, 31, 8⟩
/-- FB_CYCLE.COUNT, RO (R300). -/
def FB_CYCLE_COUNT (i : Nat) : RF := ⟨0x45000030 + i * 0x1000, 5, 0⟩
/-- The whole word of FB_CYCLE (R300). -/
def FB_CYCLE (i : Nat) : RF := ⟨0x45000030 + i * 0x1000, 31, 0⟩
/-- FB_MARK, RW (R300). -/
def FB_MARK (i : Nat) (j : Nat) : RF := ⟨0x45000080 + i * 0x1000 + j * 0x4, 13, 0⟩
/-- FB_MBCFG.REQ, W1S (R300). -/
def FB_MBCFG_REQ (i : Nat) (j : Nat) : RF := ⟨0x45000100 + i * 0x1000 + j * 0x4, 31, 31⟩
/-- FB_MBCFG.ABORT, W1S (R300). -/
def FB_MBCFG_ABORT (i : Nat) (j : Nat) : RF := ⟨0x45000100 + i * 0x1000 + j * 0x4, 30, 30⟩
/-- FB_MBCFG.DIR, RW (R300). -/
def FB_MBCFG_DIR (i : Nat) (j : Nat) : RF := ⟨0x45000100 + i * 0x1000 + j * 0x4, 29, 28⟩
/-- FB_MBCFG.RETRY, RW (R300). -/
def FB_MBCFG_RETRY (i : Nat) (j : Nat) : RF := ⟨0x45000100 + i * 0x1000 + j * 0x4, 27, 24⟩
/-- FB_MBCFG.MIRROR, RW (R300). -/
def FB_MBCFG_MIRROR (i : Nat) (j : Nat) : RF := ⟨0x45000100 + i * 0x1000 + j * 0x4, 23, 23⟩
/-- FB_MBCFG.QUEUE, RW (R300). -/
def FB_MBCFG_QUEUE (i : Nat) (j : Nat) : RF := ⟨0x45000100 + i * 0x1000 + j * 0x4, 22, 22⟩
/-- FB_MBCFG.IRQ_EN, RW (R300). -/
def FB_MBCFG_IRQ_EN (i : Nat) (j : Nat) : RF := ⟨0x45000100 + i * 0x1000 + j * 0x4, 21, 21⟩
/-- FB_MBCFG.TT, RW (R300). -/
def FB_MBCFG_TT (i : Nat) (j : Nat) : RF := ⟨0x45000100 + i * 0x1000 + j * 0x4, 20, 20⟩
/-- The whole word of FB_MBCFG (R300). -/
def FB_MBCFG (i : Nat) (j : Nat) : RF := ⟨0x45000100 + i * 0x1000 + j * 0x4, 31, 0⟩
/-- FB_MBSTAT.STATE, RO (R300). -/
def FB_MBSTAT_STATE (i : Nat) (j : Nat) : RF := ⟨0x45000200 + i * 0x1000 + j * 0x4, 31, 29⟩
/-- FB_MBSTAT.LOCKED, RO (R300). -/
def FB_MBSTAT_LOCKED (i : Nat) (j : Nat) : RF := ⟨0x45000200 + i * 0x1000 + j * 0x4, 28, 28⟩
/-- FB_MBSTAT.LOCK_TO, W1C (R300). -/
def FB_MBSTAT_LOCK_TO (i : Nat) (j : Nat) : RF := ⟨0x45000200 + i * 0x1000 + j * 0x4, 27, 27⟩
/-- FB_MBSTAT.OVERWRITE, W1C (R300). -/
def FB_MBSTAT_OVERWRITE (i : Nat) (j : Nat) : RF := ⟨0x45000200 + i * 0x1000 + j * 0x4, 26, 26⟩
/-- FB_MBSTAT.ACK_ONLY, RO (R300). -/
def FB_MBSTAT_ACK_ONLY (i : Nat) (j : Nat) : RF := ⟨0x45000200 + i * 0x1000 + j * 0x4, 25, 25⟩
/-- FB_MBSTAT.MISSED, W1C (R300). -/
def FB_MBSTAT_MISSED (i : Nat) (j : Nat) : RF := ⟨0x45000200 + i * 0x1000 + j * 0x4, 24, 24⟩
/-- FB_MBSTAT.ATTEMPTS, RO (R300). -/
def FB_MBSTAT_ATTEMPTS (i : Nat) (j : Nat) : RF := ⟨0x45000200 + i * 0x1000 + j * 0x4, 23, 20⟩
/-- The whole word of FB_MBSTAT (R300). -/
def FB_MBSTAT (i : Nat) (j : Nat) : RF := ⟨0x45000200 + i * 0x1000 + j * 0x4, 31, 0⟩
/-- FB_FILT_ID, RW (R300). -/
def FB_FILT_ID (i : Nat) (j : Nat) : RF := ⟨0x45000300 + i * 0x1000 + j * 0x8, 31, 0⟩
/-- FB_FILT_MASK, RW (R300). -/
def FB_FILT_MASK (i : Nat) (j : Nat) : RF := ⟨0x45000304 + i * 0x1000 + j * 0x8, 31, 0⟩
/-- FB_MBTS, RO (R300). -/
def FB_MBTS (i : Nat) (j : Nat) : RF := ⟨0x45000500 + i * 0x1000 + j * 0x4, 31, 0⟩
/-- FB_TRIP.EN, RWL (R300). -/
def FB_TRIP_EN (i : Nat) (j : Nat) : RF := ⟨0x45000600 + i * 0x1000 + j * 0x4, 31, 31⟩
/-- FB_TRIP.NODE, RWL (R300). -/
def FB_TRIP_NODE (i : Nat) (j : Nat) : RF := ⟨0x45000600 + i * 0x1000 + j * 0x4, 30, 25⟩
/-- FB_TRIP.NODE_CH, RWL (R300). -/
def FB_TRIP_NODE_CH (i : Nat) (j : Nat) : RF := ⟨0x45000600 + i * 0x1000 + j * 0x4, 24, 21⟩
/-- FB_TRIP.RACK, RWL (R300). -/
def FB_TRIP_RACK (i : Nat) (j : Nat) : RF := ⟨0x45000600 + i * 0x1000 + j * 0x4, 20, 16⟩
/-- The whole word of FB_TRIP (R300). -/
def FB_TRIP (i : Nat) (j : Nat) : RF := ⟨0x45000600 + i * 0x1000 + j * 0x4, 31, 0⟩
/-- FB_CELLW, RW (R300). -/
def FB_CELLW (i : Nat) (j : Nat) : RF := ⟨0x45000800 + i * 0x1000 + j * 0x4, 31, 0⟩
/-- FB_GCTRL.BASE, RW (R300). -/
def FB_GCTRL_BASE : RF := ⟨0x45004000, 10, 0⟩
/-- The whole word of FB_GCTRL (R300). -/
def FB_GCTRL : RF := ⟨0x45004000, 31, 0⟩
/-- FB_MBDATA, RW (R300). -/
def FB_MBDATA (n i j : Nat) : RF := ⟨0x45010000 + n * 0x2000 + i * 0x48 + j * 0x4, 31, 0⟩
/-- NV_CFG.EN, RW (R300). -/
def NV_CFG_EN (i : Nat) : RF := ⟨0x45020000 + i * 0x10, 31, 31⟩
/-- NV_CFG.TS_SRC, RW (R300). -/
def NV_CFG_TS_SRC (i : Nat) : RF := ⟨0x45020000 + i * 0x10, 30, 30⟩
/-- NV_CFG.CH, RW (R300). -/
def NV_CFG_CH (i : Nat) : RF := ⟨0x45020000 + i * 0x10, 29, 28⟩
/-- NV_CFG.MB, RW (R300). -/
def NV_CFG_MB (i : Nat) : RF := ⟨0x45020000 + i * 0x10, 27, 22⟩
/-- NV_CFG.OFFSET, RW (R300). -/
def NV_CFG_OFFSET (i : Nat) : RF := ⟨0x45020000 + i * 0x10, 21, 16⟩
/-- NV_CFG.FMT, RW (R300). -/
def NV_CFG_FMT (i : Nat) : RF := ⟨0x45020000 + i * 0x10, 15, 13⟩
/-- NV_CFG.STALE, RO (R300). -/
def NV_CFG_STALE (i : Nat) : RF := ⟨0x45020000 + i * 0x10, 12, 12⟩
/-- NV_CFG.VALID, RO (R300). -/
def NV_CFG_VALID (i : Nat) : RF := ⟨0x45020000 + i * 0x10, 11, 11⟩
/-- NV_CFG.PERIOD, RW (R300). -/
def NV_CFG_PERIOD (i : Nat) : RF := ⟨0x45020000 + i * 0x10, 7, 0⟩
/-- The whole word of NV_CFG (R300). -/
def NV_CFG (i : Nat) : RF := ⟨0x45020000 + i * 0x10, 31, 0⟩
/-- NV_SCALE, RW (R300). -/
def NV_SCALE (i : Nat) : RF := ⟨0x45020004 + i * 0x10, 31, 0⟩
/-- NV_VALUE, RO (R300). -/
def NV_VALUE (i : Nat) : RF := ⟨0x45020008 + i * 0x10, 31, 0⟩
/-- NV_TS, RO (R300). -/
def NV_TS (i : Nat) : RF := ⟨0x4502000C + i * 0x10, 31, 0⟩

/-- The rows of the register tables of chapter 11. -/
def regRowsFB : List RegRow :=
  [⟨"FB_CTRL", 0x45000000, 4, 0x1000, 1, 0x0, 0, [⟨31, 31, .rw, 0x1⟩, ⟨30, 30, .rw, 0x1⟩, ⟨29, 29, .rw, 0x0⟩, ⟨28, 28, .rw, 0x1⟩, ⟨27, 27, .w1s, 0x0⟩, ⟨26, 26, .rw, 0x0⟩, ⟨25, 25, .rw, 0x0⟩, ⟨24, 23, .rw, 0x0⟩, ⟨15, 14, .rw, 0x0⟩]⟩,
   ⟨"FB_STAT", 0x45000004, 4, 0x1000, 1, 0x0, 0, [⟨31, 30, .ro, 0x0⟩, ⟨29, 29, .ro, 0x0⟩, ⟨28, 28, .ro, 0x0⟩, ⟨27, 27, .ro, 0x0⟩, ⟨24, 16, .ro, 0x0⟩, ⟨15, 8, .ro, 0x0⟩, ⟨7, 0, .ro, 0x0⟩]⟩,
   ⟨"FB_NBT", 0x45000008, 4, 0x1000, 1, 0x0, 0, [⟨31, 27, .rw, 0x1⟩, ⟨26, 19, .rw, 0x3E⟩, ⟨18, 12, .rw, 0xF⟩, ⟨11, 5, .rw, 0xF⟩]⟩,
   ⟨"FB_DBT", 0x4500000C, 4, 0x1000, 1, 0x0, 0, [⟨31, 31, .rw, 0x1⟩, ⟨30, 24, .rw, 0x20⟩, ⟨23, 21, .rw, 0x0⟩, ⟨20, 16, .rw, 0x1E⟩, ⟨15, 12, .rw, 0x7⟩, ⟨11, 8, .rw, 0x7⟩]⟩,
   ⟨"FB_TTCFG", 0x45000010, 4, 0x1000, 1, 0x0, 0, [⟨21, 12, .rw, 0x64⟩, ⟨11, 8, .rw, 0x2⟩, ⟨5, 0, .rw, 0x1⟩]⟩,
   ⟨"FB_NODEBASE", 0x45000014, 4, 0x1000, 1, 0x0, 0, [⟨10, 0, .rw, 0xC0⟩]⟩,
   ⟨"FB_NODEEXP_LO", 0x45000018, 4, 0x1000, 1, 0x0, 0, [⟨31, 0, .rw, 0x0⟩]⟩,
   ⟨"FB_NODEEXP_HI", 0x4500001C, 4, 0x1000, 1, 0x0, 0, [⟨31, 0, .rw, 0x0⟩]⟩,
   ⟨"FB_NODELOST_LO", 0x45000020, 4, 0x1000, 1, 0x0, 0, [⟨31, 0, .ro, 0x0⟩]⟩,
   ⟨"FB_NODELOST_HI", 0x45000024, 4, 0x1000, 1, 0x0, 0, [⟨31, 0, .ro, 0x0⟩]⟩,
   ⟨"FB_REFMISS", 0x45000028, 4, 0x1000, 1, 0x0, 0, [⟨15, 0, .rc, 0x0⟩]⟩,
   ⟨"FB_RXDROP", 0x4500002C, 4, 0x1000, 1, 0x0, 0, [⟨15, 0, .rc, 0x0⟩]⟩,
   ⟨"FB_CYCLE", 0x45000030, 4, 0x1000, 1, 0x0, 0, [⟨31, 8, .ro, 0x0⟩, ⟨5, 0, .ro, 0x0⟩]⟩,
   ⟨"FB_MARK", 0x45000080, 4, 0x1000, 32, 0x4, 0, [⟨13, 0, .rw, 0x0⟩]⟩,
   ⟨"FB_MBCFG", 0x45000100, 4, 0x1000, 64, 0x4, 0, [⟨31, 31, .w1s, 0x0⟩, ⟨30, 30, .w1s, 0x0⟩, ⟨29, 28, .rw, 0x0⟩, ⟨27, 24, .rw, 0x3⟩, ⟨23, 23, .rw, 0x0⟩, ⟨22, 22, .rw, 0x0⟩, ⟨21, 21, .rw, 0x0⟩, ⟨20, 20, .rw, 0x0⟩]⟩,
   ⟨"FB_MBSTAT", 0x45000200, 4, 0x1000, 64, 0x4, 0, [⟨31, 29, .ro, 0x0⟩, ⟨28, 28, .ro, 0x0⟩, ⟨27, 27, .w1c, 0x0⟩, ⟨26, 26, .w1c, 0x0⟩, ⟨25, 25, .ro, 0x0⟩, ⟨24, 24, .w1c, 0x0⟩, ⟨23, 20, .ro, 0x0⟩]⟩,
   ⟨"FB_FILT_ID", 0x45000300, 4, 0x1000, 64, 0x8, 0, [⟨31, 0, .rw, 0x0⟩]⟩,
   ⟨"FB_FILT_MASK", 0x45000304, 4, 0x1000, 64, 0x8, 0, [⟨31, 0, .rw, 0x0⟩]⟩,
   ⟨"FB_MBTS", 0x45000500, 4, 0x1000, 64, 0x4, 0, [⟨31, 0, .ro, 0x0⟩]⟩,
   ⟨"FB_TRIP", 0x45000600, 4, 0x1000, 16, 0x4, 0, [⟨31, 31, .rwl, 0x0⟩, ⟨30, 25, .rwl, 0x0⟩, ⟨24, 21, .rwl, 0x0⟩, ⟨20, 16, .rwl, 0x1F⟩]⟩] ++
  [⟨"FB_CELLW", 0x45000800, 4, 0x1000, 512, 0x4, 0, [⟨31, 0, .rw, 0x0⟩]⟩,
   ⟨"FB_GCTRL", 0x45004000, 1, 0x0, 1, 0x0, 0, [⟨10, 0, .rw, 0x180⟩]⟩,
   ⟨"FB_MBDATA", 0x45010000, 64, 0x48, 18, 0x4, 0, [⟨31, 0, .rw, 0x0⟩]⟩,
   ⟨"FB_MBDATA", 0x45012000, 64, 0x48, 18, 0x4, 0, [⟨31, 0, .rw, 0x0⟩]⟩,
   ⟨"FB_MBDATA", 0x45014000, 64, 0x48, 18, 0x4, 0, [⟨31, 0, .rw, 0x0⟩]⟩,
   ⟨"FB_MBDATA", 0x45016000, 64, 0x48, 18, 0x4, 0, [⟨31, 0, .rw, 0x0⟩]⟩,
   ⟨"NV_CFG", 0x45020000, 1024, 0x10, 1, 0x0, 0, [⟨31, 31, .rw, 0x0⟩, ⟨30, 30, .rw, 0x0⟩, ⟨29, 28, .rw, 0x0⟩, ⟨27, 22, .rw, 0x0⟩, ⟨21, 16, .rw, 0x0⟩, ⟨15, 13, .rw, 0x0⟩, ⟨12, 12, .ro, 0x0⟩, ⟨11, 11, .ro, 0x0⟩, ⟨7, 0, .rw, 0x1⟩]⟩,
   ⟨"NV_SCALE", 0x45020004, 1024, 0x10, 1, 0x0, 0, [⟨31, 0, .rw, 0x3F800000⟩]⟩,
   ⟨"NV_VALUE", 0x45020008, 1024, 0x10, 1, 0x0, 0, [⟨31, 0, .ro, 0x0⟩]⟩,
   ⟨"NV_TS", 0x4502000C, 1024, 0x10, 1, 0x0, 0, [⟨31, 0, .ro, 0x0⟩]⟩]

/-! ### Twin unit (spec chapter 13) -/

/-- TW_CTRL.RELEASE, W1S (R340). -/
def TW_CTRL_RELEASE : RF := ⟨0x46000000, 3, 3⟩
/-- TW_CTRL.FAULT, W1S (R340). -/
def TW_CTRL_FAULT : RF := ⟨0x46000000, 2, 2⟩
/-- TW_CTRL.CLAIM_EN, RW (R340). -/
def TW_CTRL_CLAIM_EN : RF := ⟨0x46000000, 1, 1⟩
/-- TW_CTRL.ENABLE, RW (R340). -/
def TW_CTRL_ENABLE : RF := ⟨0x46000000, 0, 0⟩
/-- The whole word of TW_CTRL (R340). -/
def TW_CTRL : RF := ⟨0x46000000, 31, 0⟩
/-- TW_STATUS.ROLE, RO (R340). -/
def TW_STATUS_ROLE : RF := ⟨0x46000004, 31, 29⟩
/-- TW_STATUS.SLOT, RO (R340). -/
def TW_STATUS_SLOT : RF := ⟨0x46000004, 28, 28⟩
/-- TW_STATUS.SLOT_PIN, RO (R340). -/
def TW_STATUS_SLOT_PIN : RF := ⟨0x46000004, 27, 27⟩
/-- TW_STATUS.OWN_H, RO (R340). -/
def TW_STATUS_OWN_H : RF := ⟨0x46000004, 26, 26⟩
/-- TW_STATUS.OWN_L, RO (R340). -/
def TW_STATUS_OWN_L : RF := ⟨0x46000004, 25, 25⟩
/-- TW_STATUS.LINE, RO (R340). -/
def TW_STATUS_LINE : RF := ⟨0x46000004, 24, 23⟩
/-- TW_STATUS.DRIVING, RO (R340). -/
def TW_STATUS_DRIVING : RF := ⟨0x46000004, 22, 22⟩
/-- TW_STATUS.HB_OK, RO (R340). -/
def TW_STATUS_HB_OK : RF := ⟨0x46000004, 21, 21⟩
/-- TW_STATUS.IN_STEP, RO (R340). -/
def TW_STATUS_IN_STEP : RF := ⟨0x46000004, 20, 20⟩
/-- TW_STATUS.RESYNC, RO (R340). -/
def TW_STATUS_RESYNC : RF := ⟨0x46000004, 19, 19⟩
/-- TW_STATUS.TR_WARM, RO (R340). -/
def TW_STATUS_TR_WARM : RF := ⟨0x46000004, 18, 18⟩
/-- TW_STATUS.GUARD, RO (R340). -/
def TW_STATUS_GUARD : RF := ⟨0x46000004, 17, 17⟩
/-- TW_STATUS.SLOT_CONFLICT, RO (R340). -/
def TW_STATUS_SLOT_CONFLICT : RF := ⟨0x46000004, 16, 16⟩
/-- TW_STATUS.VERSION_SKEW, RO (R340). -/
def TW_STATUS_VERSION_SKEW : RF := ⟨0x46000004, 15, 15⟩
/-- TW_STATUS.LINE_FAULT, W1C (R340). -/
def TW_STATUS_LINE_FAULT : RF := ⟨0x46000004, 14, 14⟩
/-- TW_STATUS.HB_LOST, W1C (R340). -/
def TW_STATUS_HB_LOST : RF := ⟨0x46000004, 13, 13⟩
/-- TW_STATUS.OUT_OF_STEP, W1C (R340). -/
def TW_STATUS_OUT_OF_STEP : RF := ⟨0x46000004, 12, 12⟩
/-- TW_STATUS.LINK_DEGRADED, W1C (R340). -/
def TW_STATUS_LINK_DEGRADED : RF := ⟨0x46000004, 11, 11⟩
/-- TW_STATUS.LANES, RO (R340). -/
def TW_STATUS_LANES : RF := ⟨0x46000004, 7, 4⟩
/-- The whole word of TW_STATUS (R340). -/
def TW_STATUS : RF := ⟨0x46000004, 31, 0⟩
/-- TW_HOLDOFF, RO (R340). -/
def TW_HOLDOFF : RF := ⟨0x46000008, 15, 0⟩
/-- TW_BAND_LOOP, RW (R340). -/
def TW_BAND_LOOP : RF := ⟨0x4600000C, 31, 0⟩
/-- TW_XCHK.MODEL, RO (R340). -/
def TW_XCHK_MODEL : RF := ⟨0x46000010, 6, 6⟩
/-- TW_XCHK.JOURNAL, W1C (R340). -/
def TW_XCHK_JOURNAL : RF := ⟨0x46000010, 5, 5⟩
/-- TW_XCHK.STATE, W1C (R340). -/
def TW_XCHK_STATE : RF := ⟨0x46000010, 4, 4⟩
/-- TW_XCHK.PLANT, W1C (R340). -/
def TW_XCHK_PLANT : RF := ⟨0x46000010, 3, 3⟩
/-- TW_XCHK.CAP, W1C (R340). -/
def TW_XCHK_CAP : RF := ⟨0x46000010, 2, 2⟩
/-- TW_XCHK.LOOP, W1C (R340). -/
def TW_XCHK_LOOP : RF := ⟨0x46000010, 1, 1⟩
/-- TW_XCHK.PRED, W1C (R340). -/
def TW_XCHK_PRED : RF := ⟨0x46000010, 0, 0⟩
/-- The whole word of TW_XCHK (R340). -/
def TW_XCHK : RF := ⟨0x46000010, 31, 0⟩
/-- TW_XCHK_CONSEC, RW (R340). -/
def TW_XCHK_CONSEC : RF := ⟨0x46000014, 7, 0⟩
/-- TW_GRACE, RW (R340). -/
def TW_GRACE : RF := ⟨0x46000018, 7, 0⟩
/-- TW_GUARD, RW (R340). -/
def TW_GUARD : RF := ⟨0x4600001C, 7, 0⟩
/-- TW_LAG, RO (R340). -/
def TW_LAG : RF := ⟨0x46000020, 15, 0⟩
/-- TW_MISMATCH_COUNT, RC (R340). -/
def TW_MISMATCH_COUNT : RF := ⟨0x46000024, 15, 0⟩
/-- TW_CRCERR, RC (R340). -/
def TW_CRCERR : RF := ⟨0x46000028, 15, 0⟩
/-- TW_RETRANS, RC (R340). -/
def TW_RETRANS : RF := ⟨0x4600002C, 15, 0⟩
/-- TW_FWD_MBPS, RO (R340). -/
def TW_FWD_MBPS : RF := ⟨0x46000030, 15, 0⟩
/-- TW_LAST_GAP, RO (R340). -/
def TW_LAST_GAP : RF := ⟨0x46000034, 15, 0⟩
/-- TW_PARTNER.ROLE, RO (R340). -/
def TW_PARTNER_ROLE : RF := ⟨0x46000040, 31, 29⟩
/-- TW_PARTNER.SLOT, RO (R340). -/
def TW_PARTNER_SLOT : RF := ⟨0x46000040, 28, 28⟩
/-- TW_PARTNER.CP, RO (R340). -/
def TW_PARTNER_CP : RF := ⟨0x46000040, 25, 24⟩
/-- TW_PARTNER.STATE, RO (R340). -/
def TW_PARTNER_STATE : RF := ⟨0x46000040, 23, 16⟩
/-- TW_PARTNER.PROTO, RO (R340). -/
def TW_PARTNER_PROTO : RF := ⟨0x46000040, 15, 8⟩
/-- TW_PARTNER.DIAG_OK, RO (R340). -/
def TW_PARTNER_DIAG_OK : RF := ⟨0x46000040, 7, 7⟩
/-- TW_PARTNER.IN_STEP, RO (R340). -/
def TW_PARTNER_IN_STEP : RF := ⟨0x46000040, 6, 6⟩
/-- TW_PARTNER.TR_WARM, RO (R340). -/
def TW_PARTNER_TR_WARM : RF := ⟨0x46000040, 5, 5⟩
/-- The whole word of TW_PARTNER (R340). -/
def TW_PARTNER : RF := ⟨0x46000040, 31, 0⟩
/-- TW_PARTNER_FRAME_LO, RO (R340). -/
def TW_PARTNER_FRAME_LO : RF := ⟨0x46000044, 31, 0⟩
/-- TW_PARTNER_FRAME_HI, RO (R340). -/
def TW_PARTNER_FRAME_HI : RF := ⟨0x46000048, 31, 0⟩
/-- TW_XCHK_FIRST.ITEM, RO (R340). -/
def TW_XCHK_FIRST_ITEM : RF := ⟨0x4600004C, 31, 28⟩
/-- TW_XCHK_FIRST.IDX, RO (R340). -/
def TW_XCHK_FIRST_IDX : RF := ⟨0x4600004C, 12, 0⟩
/-- The whole word of TW_XCHK_FIRST (R340). -/
def TW_XCHK_FIRST : RF := ⟨0x4600004C, 31, 0⟩

/-- The rows of the register tables of chapter 13. -/
def regRowsTW : List RegRow :=
  [⟨"TW_CTRL", 0x46000000, 1, 0x0, 1, 0x0, 0, [⟨3, 3, .w1s, 0x0⟩, ⟨2, 2, .w1s, 0x0⟩, ⟨1, 1, .rw, 0x0⟩, ⟨0, 0, .rw, 0x0⟩]⟩,
   ⟨"TW_STATUS", 0x46000004, 1, 0x0, 1, 0x0, 0, [⟨31, 29, .ro, 0x0⟩, ⟨28, 28, .ro, 0x0⟩, ⟨27, 27, .ro, 0x0⟩, ⟨26, 26, .ro, 0x0⟩, ⟨25, 25, .ro, 0x0⟩, ⟨24, 23, .ro, 0x0⟩, ⟨22, 22, .ro, 0x0⟩, ⟨21, 21, .ro, 0x0⟩, ⟨20, 20, .ro, 0x0⟩, ⟨19, 19, .ro, 0x0⟩, ⟨18, 18, .ro, 0x0⟩, ⟨17, 17, .ro, 0x0⟩, ⟨16, 16, .ro, 0x0⟩, ⟨15, 15, .ro, 0x0⟩, ⟨14, 14, .w1c, 0x0⟩, ⟨13, 13, .w1c, 0x0⟩, ⟨12, 12, .w1c, 0x0⟩, ⟨11, 11, .w1c, 0x0⟩, ⟨7, 4, .ro, 0x0⟩]⟩,
   ⟨"TW_HOLDOFF", 0x46000008, 1, 0x0, 1, 0x0, 0, [⟨15, 0, .ro, 0x7D0⟩]⟩,
   ⟨"TW_BAND_LOOP", 0x4600000C, 1, 0x0, 1, 0x0, 0, [⟨31, 0, .rw, 0x3F800000⟩]⟩,
   ⟨"TW_XCHK", 0x46000010, 1, 0x0, 1, 0x0, 0, [⟨6, 6, .ro, 0x0⟩, ⟨5, 5, .w1c, 0x0⟩, ⟨4, 4, .w1c, 0x0⟩, ⟨3, 3, .w1c, 0x0⟩, ⟨2, 2, .w1c, 0x0⟩, ⟨1, 1, .w1c, 0x0⟩, ⟨0, 0, .w1c, 0x0⟩]⟩,
   ⟨"TW_XCHK_CONSEC", 0x46000014, 1, 0x0, 1, 0x0, 0, [⟨7, 0, .rw, 0x3⟩]⟩,
   ⟨"TW_GRACE", 0x46000018, 1, 0x0, 1, 0x0, 0, [⟨7, 0, .rw, 0x28⟩]⟩,
   ⟨"TW_GUARD", 0x4600001C, 1, 0x0, 1, 0x0, 0, [⟨7, 0, .rw, 0x32⟩]⟩,
   ⟨"TW_LAG", 0x46000020, 1, 0x0, 1, 0x0, 0, [⟨15, 0, .ro, 0x0⟩]⟩,
   ⟨"TW_MISMATCH_COUNT", 0x46000024, 1, 0x0, 1, 0x0, 0, [⟨15, 0, .rc, 0x0⟩]⟩,
   ⟨"TW_CRCERR", 0x46000028, 1, 0x0, 1, 0x0, 0, [⟨15, 0, .rc, 0x0⟩]⟩,
   ⟨"TW_RETRANS", 0x4600002C, 1, 0x0, 1, 0x0, 0, [⟨15, 0, .rc, 0x0⟩]⟩,
   ⟨"TW_FWD_MBPS", 0x46000030, 1, 0x0, 1, 0x0, 0, [⟨15, 0, .ro, 0x0⟩]⟩,
   ⟨"TW_LAST_GAP", 0x46000034, 1, 0x0, 1, 0x0, 0, [⟨15, 0, .ro, 0x0⟩]⟩,
   ⟨"TW_PARTNER", 0x46000040, 1, 0x0, 1, 0x0, 0, [⟨31, 29, .ro, 0x0⟩, ⟨28, 28, .ro, 0x0⟩, ⟨25, 24, .ro, 0x3⟩, ⟨23, 16, .ro, 0x0⟩, ⟨15, 8, .ro, 0x0⟩, ⟨7, 7, .ro, 0x0⟩, ⟨6, 6, .ro, 0x0⟩, ⟨5, 5, .ro, 0x0⟩]⟩,
   ⟨"TW_PARTNER_FRAME_LO", 0x46000044, 1, 0x0, 1, 0x0, 0, [⟨31, 0, .ro, 0x0⟩]⟩,
   ⟨"TW_PARTNER_FRAME_HI", 0x46000048, 1, 0x0, 1, 0x0, 0, [⟨31, 0, .ro, 0x0⟩]⟩,
   ⟨"TW_XCHK_FIRST", 0x4600004C, 1, 0x0, 1, 0x0, 0, [⟨31, 28, .ro, 0x0⟩, ⟨12, 0, .ro, 0x0⟩]⟩]

/-! ### Memory controller and archive engine (spec chapter 14) -/

/-- CA_CTRL.SCRUB_HOURS, RW (R357). -/
def CA_CTRL_SCRUB_HOURS : RF := ⟨0x47000000, 12, 8⟩
/-- CA_CTRL.PLANT_EN, RW (R357). -/
def CA_CTRL_PLANT_EN : RF := ⟨0x47000000, 2, 2⟩
/-- CA_CTRL.SCRUB_EN, RW (R357). -/
def CA_CTRL_SCRUB_EN : RF := ⟨0x47000000, 1, 1⟩
/-- CA_CTRL.ENABLE, RW (R357). -/
def CA_CTRL_ENABLE : RF := ⟨0x47000000, 0, 0⟩
/-- The whole word of CA_CTRL (R357). -/
def CA_CTRL : RF := ⟨0x47000000, 31, 0⟩
/-- CA_STATUS.DIMM_WARN, W1C (R357). -/
def CA_STATUS_DIMM_WARN : RF := ⟨0x47000004, 31, 24⟩
/-- CA_STATUS.CH_OK, RO (R357). -/
def CA_STATUS_CH_OK : RF := ⟨0x47000004, 23, 16⟩
/-- CA_STATUS.UE_SEEN, W1C (R357). -/
def CA_STATUS_UE_SEEN : RF := ⟨0x47000004, 4, 4⟩
/-- CA_STATUS.CE_SEEN, W1C (R357). -/
def CA_STATUS_CE_SEEN : RF := ⟨0x47000004, 3, 3⟩
/-- CA_STATUS.SATURATED, W1C (R357). -/
def CA_STATUS_SATURATED : RF := ⟨0x47000004, 2, 2⟩
/-- CA_STATUS.SCRUB_ACTIVE, RO (R357). -/
def CA_STATUS_SCRUB_ACTIVE : RF := ⟨0x47000004, 1, 1⟩
/-- CA_STATUS.RUNNING, RO (R357). -/
def CA_STATUS_RUNNING : RF := ⟨0x47000004, 0, 0⟩
/-- The whole word of CA_STATUS (R357). -/
def CA_STATUS : RF := ⟨0x47000004, 31, 0⟩
/-- CA_CE_LIMIT, RW (R357). -/
def CA_CE_LIMIT : RF := ⟨0x47000008, 15, 0⟩
/-- CA_UE_ADDR_LO, RO (R357). -/
def CA_UE_ADDR_LO : RF := ⟨0x47000010, 31, 0⟩
/-- CA_UE_ADDR_HI.VALID, RO (R357). -/
def CA_UE_ADDR_HI_VALID : RF := ⟨0x47000014, 31, 31⟩
/-- CA_UE_ADDR_HI.ADDR, RO (R357). -/
def CA_UE_ADDR_HI_ADDR : RF := ⟨0x47000014, 6, 0⟩
/-- The whole word of CA_UE_ADDR_HI (R357). -/
def CA_UE_ADDR_HI : RF := ⟨0x47000014, 31, 0⟩
/-- CA_UE_COUNT, RC (R357). -/
def CA_UE_COUNT : RF := ⟨0x47000018, 15, 0⟩
/-- CA_CE_COUNT, RC (R357). -/
def CA_CE_COUNT (i : Nat) : RF := ⟨0x47000020 + i * 0x4, 23, 0⟩
/-- CA_SCRUB_POS, RO (R357). -/
def CA_SCRUB_POS : RF := ⟨0x47000040, 26, 0⟩
/-- CA_SCRUB_PASSES, RO (R357). -/
def CA_SCRUB_PASSES : RF := ⟨0x47000044, 15, 0⟩
/-- CA_DECIM, RC (R357). -/
def CA_DECIM : RF := ⟨0x47000048, 31, 0⟩
/-- CA_QUANT_BLOCKS, RC (R357). -/
def CA_QUANT_BLOCKS : RF := ⟨0x4700004C, 31, 0⟩
/-- CA_HDMWR_DISCARD, RC (R357). -/
def CA_HDMWR_DISCARD : RF := ⟨0x47000050, 15, 0⟩

/-- The rows of the register tables of chapter 14. -/
def regRowsCA : List RegRow :=
  [⟨"CA_CTRL", 0x47000000, 1, 0x0, 1, 0x0, 0, [⟨12, 8, .rw, 0x18⟩, ⟨2, 2, .rw, 0x0⟩, ⟨1, 1, .rw, 0x1⟩, ⟨0, 0, .rw, 0x0⟩]⟩,
   ⟨"CA_STATUS", 0x47000004, 1, 0x0, 1, 0x0, 0, [⟨31, 24, .w1c, 0x0⟩, ⟨23, 16, .ro, 0x0⟩, ⟨4, 4, .w1c, 0x0⟩, ⟨3, 3, .w1c, 0x0⟩, ⟨2, 2, .w1c, 0x0⟩, ⟨1, 1, .ro, 0x0⟩, ⟨0, 0, .ro, 0x0⟩]⟩,
   ⟨"CA_CE_LIMIT", 0x47000008, 1, 0x0, 1, 0x0, 0, [⟨15, 0, .rw, 0x3E8⟩]⟩,
   ⟨"CA_UE_ADDR_LO", 0x47000010, 1, 0x0, 1, 0x0, 0, [⟨31, 0, .ro, 0x0⟩]⟩,
   ⟨"CA_UE_ADDR_HI", 0x47000014, 1, 0x0, 1, 0x0, 0, [⟨31, 31, .ro, 0x0⟩, ⟨6, 0, .ro, 0x0⟩]⟩,
   ⟨"CA_UE_COUNT", 0x47000018, 1, 0x0, 1, 0x0, 0, [⟨15, 0, .rc, 0x0⟩]⟩,
   ⟨"CA_CE_COUNT", 0x47000020, 8, 0x4, 1, 0x0, 0, [⟨23, 0, .rc, 0x0⟩]⟩,
   ⟨"CA_SCRUB_POS", 0x47000040, 1, 0x0, 1, 0x0, 0, [⟨26, 0, .ro, 0x0⟩]⟩,
   ⟨"CA_SCRUB_PASSES", 0x47000044, 1, 0x0, 1, 0x0, 0, [⟨15, 0, .ro, 0x0⟩]⟩,
   ⟨"CA_DECIM", 0x47000048, 1, 0x0, 1, 0x0, 0, [⟨31, 0, .rc, 0x0⟩]⟩,
   ⟨"CA_QUANT_BLOCKS", 0x4700004C, 1, 0x0, 1, 0x0, 0, [⟨31, 0, .rc, 0x0⟩]⟩,
   ⟨"CA_HDMWR_DISCARD", 0x47000050, 1, 0x0, 1, 0x0, 0, [⟨15, 0, .rc, 0x0⟩]⟩]

/-! ### Trellis control (spec chapter 03) -/

/-- TR_CTRL.CAPTURE_LEAD, RW (R90). -/
def TR_CTRL_CAPTURE_LEAD : RF := ⟨0x48000000, 15, 8⟩
/-- TR_CTRL.ROT_NOW, W1S (R90). -/
def TR_CTRL_ROT_NOW : RF := ⟨0x48000000, 4, 4⟩
/-- TR_CTRL.RETAIN, RW (R90). -/
def TR_CTRL_RETAIN : RF := ⟨0x48000000, 3, 3⟩
/-- TR_CTRL.IDLE, RW (R90). -/
def TR_CTRL_IDLE : RF := ⟨0x48000000, 2, 2⟩
/-- TR_CTRL.ROT_EN, RW (R90). -/
def TR_CTRL_ROT_EN : RF := ⟨0x48000000, 1, 1⟩
/-- TR_CTRL.ENABLE, RW (R90). -/
def TR_CTRL_ENABLE : RF := ⟨0x48000000, 0, 0⟩
/-- The whole word of TR_CTRL (R90). -/
def TR_CTRL : RF := ⟨0x48000000, 31, 0⟩
/-- TR_STATUS.RETAINED, RO (R90). -/
def TR_STATUS_RETAINED : RF := ⟨0x48000004, 10, 10⟩
/-- TR_STATUS.IDLED, RO (R90). -/
def TR_STATUS_IDLED : RF := ⟨0x48000004, 9, 9⟩
/-- TR_STATUS.STREAM_OVF, W1C (R90). -/
def TR_STATUS_STREAM_OVF : RF := ⟨0x48000004, 8, 8⟩
/-- TR_STATUS.SRAM_UE, W1C (R90). -/
def TR_STATUS_SRAM_UE : RF := ⟨0x48000004, 7, 7⟩
/-- TR_STATUS.ROT_ABORT, W1C (R90). -/
def TR_STATUS_ROT_ABORT : RF := ⟨0x48000004, 6, 6⟩
/-- TR_STATUS.ROT_LATE, W1C (R90). -/
def TR_STATUS_ROT_LATE : RF := ⟨0x48000004, 5, 5⟩
/-- TR_STATUS.SENT_FAIL, W1C (R90). -/
def TR_STATUS_SENT_FAIL : RF := ⟨0x48000004, 4, 4⟩
/-- TR_STATUS.COLUMN_LOST, RO (R90). -/
def TR_STATUS_COLUMN_LOST : RF := ⟨0x48000004, 3, 3⟩
/-- TR_STATUS.ROT_ACTIVE, RO (R90). -/
def TR_STATUS_ROT_ACTIVE : RF := ⟨0x48000004, 2, 2⟩
/-- TR_STATUS.ADMITTED, RO (R90). -/
def TR_STATUS_ADMITTED : RF := ⟨0x48000004, 1, 1⟩
/-- TR_STATUS.RUNNING, RO (R90). -/
def TR_STATUS_RUNNING : RF := ⟨0x48000004, 0, 0⟩
/-- The whole word of TR_STATUS (R90). -/
def TR_STATUS : RF := ⟨0x48000004, 31, 0⟩
/-- TR_CLOCK_MHZ, RO (R90). -/
def TR_CLOCK_MHZ : RF := ⟨0x48000008, 11, 0⟩
/-- TR_ROT_PERIOD, RW (R90). -/
def TR_ROT_PERIOD : RF := ⟨0x4800000C, 9, 0⟩
/-- TR_ROT_STATE.ROT_COUNT, RO (R90). -/
def TR_ROT_STATE_ROT_COUNT : RF := ⟨0x48000010, 31, 16⟩
/-- TR_ROT_STATE.SPARE_VALID, RO (R90). -/
def TR_ROT_STATE_SPARE_VALID : RF := ⟨0x48000010, 10, 10⟩
/-- TR_ROT_STATE.PHASE, RO (R90). -/
def TR_ROT_STATE_PHASE : RF := ⟨0x48000010, 9, 8⟩
/-- TR_ROT_STATE.RETIRING, RO (R90). -/
def TR_ROT_STATE_RETIRING : RF := ⟨0x48000010, 7, 4⟩
/-- TR_ROT_STATE.SPARE, RO (R90). -/
def TR_ROT_STATE_SPARE : RF := ⟨0x48000010, 3, 0⟩
/-- The whole word of TR_ROT_STATE (R90). -/
def TR_ROT_STATE : RF := ⟨0x48000010, 31, 0⟩
/-- TR_COLMAP.VALID3, RO (R90). -/
def TR_COLMAP_VALID3 (i : Nat) : RF := ⟨0x48000014 + i * 0x4, 31, 31⟩
/-- TR_COLMAP.PHYS3, RO (R90). -/
def TR_COLMAP_PHYS3 (i : Nat) : RF := ⟨0x48000014 + i * 0x4, 27, 24⟩
/-- TR_COLMAP.VALID2, RO (R90). -/
def TR_COLMAP_VALID2 (i : Nat) : RF := ⟨0x48000014 + i * 0x4, 23, 23⟩
/-- TR_COLMAP.PHYS2, RO (R90). -/
def TR_COLMAP_PHYS2 (i : Nat) : RF := ⟨0x48000014 + i * 0x4, 19, 16⟩
/-- TR_COLMAP.VALID1, RO (R90). -/
def TR_COLMAP_VALID1 (i : Nat) : RF := ⟨0x48000014 + i * 0x4, 15, 15⟩
/-- TR_COLMAP.PHYS1, RO (R90). -/
def TR_COLMAP_PHYS1 (i : Nat) : RF := ⟨0x48000014 + i * 0x4, 11, 8⟩
/-- TR_COLMAP.VALID0, RO (R90). -/
def TR_COLMAP_VALID0 (i : Nat) : RF := ⟨0x48000014 + i * 0x4, 7, 7⟩
/-- TR_COLMAP.PHYS0, RO (R90). -/
def TR_COLMAP_PHYS0 (i : Nat) : RF := ⟨0x48000014 + i * 0x4, 3, 0⟩
/-- The whole word of TR_COLMAP (R90). -/
def TR_COLMAP (i : Nat) : RF := ⟨0x48000014 + i * 0x4, 31, 0⟩
/-- TR_ADMIT, RW (R90). -/
def TR_ADMIT : RF := ⟨0x48000024, 7, 0⟩
/-- TR_OCC, RO (R90). -/
def TR_OCC : RF := ⟨0x48000028, 7, 0⟩
/-- TR_II, RW (R90). -/
def TR_II : RF := ⟨0x4800002C, 23, 0⟩
/-- TR_LATENCY, RW (R90). -/
def TR_LATENCY : RF := ⟨0x48000030, 23, 0⟩
/-- TR_SENT.FAIL_COUNT, RO (R90). -/
def TR_SENT_FAIL_COUNT : RF := ⟨0x48000034, 31, 24⟩
/-- TR_SENT.FIRST_VALID, RO (R90). -/
def TR_SENT_FIRST_VALID : RF := ⟨0x48000034, 23, 23⟩
/-- TR_SENT.FIRST_TILE, RO (R90). -/
def TR_SENT_FIRST_TILE : RF := ⟨0x48000034, 22, 16⟩
/-- TR_SENT.GOOD_FRAMES, RO (R90). -/
def TR_SENT_GOOD_FRAMES : RF := ⟨0x48000034, 7, 0⟩
/-- The whole word of TR_SENT (R90). -/
def TR_SENT : RF := ⟨0x48000034, 31, 0⟩
/-- TR_SKIPPED, RC (R90). -/
def TR_SKIPPED : RF := ⟨0x48000038, 15, 0⟩
/-- TR_LAST_EXIT, RO (R90). -/
def TR_LAST_EXIT : RF := ⟨0x4800003C, 23, 0⟩
/-- TR_ECC_CE, RC (R90). -/
def TR_ECC_CE : RF := ⟨0x48000040, 31, 0⟩
/-- TR_ECC_UE.VALID, W1C (R90). -/
def TR_ECC_UE_VALID : RF := ⟨0x48000044, 31, 31⟩
/-- TR_ECC_UE.TILE, RO (R90). -/
def TR_ECC_UE_TILE : RF := ⟨0x48000044, 6, 0⟩
/-- The whole word of TR_ECC_UE (R90). -/
def TR_ECC_UE : RF := ⟨0x48000044, 31, 0⟩
/-- TR_DBG_ADDR.TILE, RW (R90). -/
def TR_DBG_ADDR_TILE : RF := ⟨0x48000048, 26, 20⟩
/-- TR_DBG_ADDR.SPACE, RW (R90). -/
def TR_DBG_ADDR_SPACE : RF := ⟨0x48000048, 19, 19⟩
/-- TR_DBG_ADDR.WORD, RW (R90). -/
def TR_DBG_ADDR_WORD : RF := ⟨0x48000048, 18, 0⟩
/-- The whole word of TR_DBG_ADDR (R90). -/
def TR_DBG_ADDR : RF := ⟨0x48000048, 31, 0⟩
/-- TR_DBG_DATA, RW (R90). -/
def TR_DBG_DATA : RF := ⟨0x4800004C, 31, 0⟩
/-- TR_BAD_OUT, RC (R90). -/
def TR_BAD_OUT : RF := ⟨0x48000050, 15, 0⟩
/-- TR_TILE.CE_COUNT, RO (R90). -/
def TR_TILE_CE_COUNT (i : Nat) : RF := ⟨0x48001000 + i * 0x4, 31, 24⟩
/-- TR_TILE.STREAM_OVF, RO (R90). -/
def TR_TILE_STREAM_OVF (i : Nat) : RF := ⟨0x48001000 + i * 0x4, 19, 19⟩
/-- TR_TILE.SELFTEST_FAIL, RO (R90). -/
def TR_TILE_SELFTEST_FAIL (i : Nat) : RF := ⟨0x48001000 + i * 0x4, 18, 18⟩
/-- TR_TILE.SENT_BAD, RO (R90). -/
def TR_TILE_SENT_BAD (i : Nat) : RF := ⟨0x48001000 + i * 0x4, 17, 17⟩
/-- TR_TILE.UE, RO (R90). -/
def TR_TILE_UE (i : Nat) : RF := ⟨0x48001000 + i * 0x4, 16, 16⟩
/-- TR_TILE.STAGE, RO (R90). -/
def TR_TILE_STAGE (i : Nat) : RF := ⟨0x48001000 + i * 0x4, 15, 8⟩
/-- TR_TILE.STATE, RO (R90). -/
def TR_TILE_STATE (i : Nat) : RF := ⟨0x48001000 + i * 0x4, 1, 0⟩
/-- The whole word of TR_TILE (R90). -/
def TR_TILE (i : Nat) : RF := ⟨0x48001000 + i * 0x4, 31, 0⟩

/-- The rows of the register tables of chapter 03. -/
def regRowsTR : List RegRow :=
  [⟨"TR_CTRL", 0x48000000, 1, 0x0, 1, 0x0, 0, [⟨15, 8, .rw, 0x2⟩, ⟨4, 4, .w1s, 0x0⟩, ⟨3, 3, .rw, 0x0⟩, ⟨2, 2, .rw, 0x0⟩, ⟨1, 1, .rw, 0x1⟩, ⟨0, 0, .rw, 0x0⟩]⟩,
   ⟨"TR_STATUS", 0x48000004, 1, 0x0, 1, 0x0, 0, [⟨10, 10, .ro, 0x0⟩, ⟨9, 9, .ro, 0x0⟩, ⟨8, 8, .w1c, 0x0⟩, ⟨7, 7, .w1c, 0x0⟩, ⟨6, 6, .w1c, 0x0⟩, ⟨5, 5, .w1c, 0x0⟩, ⟨4, 4, .w1c, 0x0⟩, ⟨3, 3, .ro, 0x0⟩, ⟨2, 2, .ro, 0x0⟩, ⟨1, 1, .ro, 0x0⟩, ⟨0, 0, .ro, 0x0⟩]⟩,
   ⟨"TR_CLOCK_MHZ", 0x48000008, 1, 0x0, 1, 0x0, 0, [⟨11, 0, .ro, 0x4B0⟩]⟩,
   ⟨"TR_ROT_PERIOD", 0x4800000C, 1, 0x0, 1, 0x0, 0, [⟨9, 0, .rw, 0x14⟩]⟩,
   ⟨"TR_ROT_STATE", 0x48000010, 1, 0x0, 1, 0x0, 0, [⟨31, 16, .ro, 0x0⟩, ⟨10, 10, .ro, 0x0⟩, ⟨9, 8, .ro, 0x0⟩, ⟨7, 4, .ro, 0x0⟩, ⟨3, 0, .ro, 0xF⟩]⟩,
   ⟨"TR_COLMAP", 0x48000014, 4, 0x4, 1, 0x0, 0, [⟨31, 31, .ro, 0x0⟩, ⟨27, 24, .ro, 0x0⟩, ⟨23, 23, .ro, 0x0⟩, ⟨19, 16, .ro, 0x0⟩, ⟨15, 15, .ro, 0x0⟩, ⟨11, 8, .ro, 0x0⟩, ⟨7, 7, .ro, 0x0⟩, ⟨3, 0, .ro, 0x0⟩]⟩,
   ⟨"TR_ADMIT", 0x48000024, 1, 0x0, 1, 0x0, 0, [⟨7, 0, .rw, 0x0⟩]⟩,
   ⟨"TR_OCC", 0x48000028, 1, 0x0, 1, 0x0, 0, [⟨7, 0, .ro, 0x0⟩]⟩,
   ⟨"TR_II", 0x4800002C, 1, 0x0, 1, 0x0, 0, [⟨23, 0, .rw, 0x0⟩]⟩,
   ⟨"TR_LATENCY", 0x48000030, 1, 0x0, 1, 0x0, 0, [⟨23, 0, .rw, 0x0⟩]⟩,
   ⟨"TR_SENT", 0x48000034, 1, 0x0, 1, 0x0, 0, [⟨31, 24, .ro, 0x0⟩, ⟨23, 23, .ro, 0x0⟩, ⟨22, 16, .ro, 0x0⟩, ⟨7, 0, .ro, 0x0⟩]⟩,
   ⟨"TR_SKIPPED", 0x48000038, 1, 0x0, 1, 0x0, 0, [⟨15, 0, .rc, 0x0⟩]⟩,
   ⟨"TR_LAST_EXIT", 0x4800003C, 1, 0x0, 1, 0x0, 0, [⟨23, 0, .ro, 0x0⟩]⟩,
   ⟨"TR_ECC_CE", 0x48000040, 1, 0x0, 1, 0x0, 0, [⟨31, 0, .rc, 0x0⟩]⟩,
   ⟨"TR_ECC_UE", 0x48000044, 1, 0x0, 1, 0x0, 0, [⟨31, 31, .w1c, 0x0⟩, ⟨6, 0, .ro, 0x0⟩]⟩,
   ⟨"TR_DBG_ADDR", 0x48000048, 1, 0x0, 1, 0x0, 0, [⟨26, 20, .rw, 0x0⟩, ⟨19, 19, .rw, 0x0⟩, ⟨18, 0, .rw, 0x0⟩]⟩,
   ⟨"TR_DBG_DATA", 0x4800004C, 1, 0x0, 1, 0x0, 0, [⟨31, 0, .rw, 0x0⟩]⟩,
   ⟨"TR_BAD_OUT", 0x48000050, 1, 0x0, 1, 0x0, 0, [⟨15, 0, .rc, 0x0⟩]⟩,
   ⟨"TR reserved 0x54", 0x48000054, 3, 0x4, 1, 0x0, 0, []⟩,
   ⟨"TR_TILE", 0x48001000, 128, 0x4, 1, 0x0, 0, [⟨31, 24, .ro, 0x0⟩, ⟨19, 19, .ro, 0x0⟩, ⟨18, 18, .ro, 0x0⟩, ⟨17, 17, .ro, 0x0⟩, ⟨16, 16, .ro, 0x0⟩, ⟨15, 8, .ro, 0xFF⟩, ⟨1, 0, .ro, 0x0⟩]⟩]

/-! ### Hub-to-management mailbox (spec chapter 16) -/

/-- MG_CTRL.ENABLE, RW (R414). -/
def MG_CTRL_ENABLE : RF := ⟨0x50000000, 0, 0⟩
/-- The whole word of MG_CTRL (R414). -/
def MG_CTRL : RF := ⟨0x50000000, 31, 0⟩
/-- MG_STATUS.BOOT_SLOT, RO (R414). -/
def MG_STATUS_BOOT_SLOT : RF := ⟨0x50000004, 15, 8⟩
/-- MG_STATUS.TRIAL, RO (R414). -/
def MG_STATUS_TRIAL : RF := ⟨0x50000004, 3, 3⟩
/-- MG_STATUS.LOG_90, RO (R414). -/
def MG_STATUS_LOG_90 : RF := ⟨0x50000004, 2, 2⟩
/-- MG_STATUS.RX_NOT_EMPTY, RO (R414). -/
def MG_STATUS_RX_NOT_EMPTY : RF := ⟨0x50000004, 1, 1⟩
/-- MG_STATUS.MG_READY, RO (R414). -/
def MG_STATUS_MG_READY : RF := ⟨0x50000004, 0, 0⟩
/-- The whole word of MG_STATUS (R414). -/
def MG_STATUS : RF := ⟨0x50000004, 31, 0⟩
/-- MG_TX_WPTR, RW (R414). -/
def MG_TX_WPTR : RF := ⟨0x50000008, 11, 0⟩
/-- MG_TX_RPTR, RO (R414). -/
def MG_TX_RPTR : RF := ⟨0x5000000C, 11, 0⟩
/-- MG_RX_WPTR, RO (R414). -/
def MG_RX_WPTR : RF := ⟨0x50000010, 11, 0⟩
/-- MG_RX_RPTR, RW (R414). -/
def MG_RX_RPTR : RF := ⟨0x50000014, 11, 0⟩
/-- MG_LOGSEQ_LO, RO (R414). -/
def MG_LOGSEQ_LO : RF := ⟨0x50000018, 31, 0⟩
/-- MG_LOGSEQ_HI, RO (R414). -/
def MG_LOGSEQ_HI : RF := ⟨0x5000001C, 31, 0⟩
/-- MG_TXRING, RW (R414). -/
def MG_TXRING (i : Nat) : RF := ⟨0x50001000 + i * 0x4, 31, 0⟩
/-- MG_RXRING, RO (R414). -/
def MG_RXRING (i : Nat) : RF := ⟨0x50002000 + i * 0x4, 31, 0⟩

/-- The rows of the register tables of chapter 16. -/
def regRowsMG : List RegRow :=
  [⟨"MG_CTRL", 0x50000000, 1, 0x0, 1, 0x0, 0, [⟨0, 0, .rw, 0x0⟩]⟩,
   ⟨"MG_STATUS", 0x50000004, 1, 0x0, 1, 0x0, 0, [⟨15, 8, .ro, 0x0⟩, ⟨3, 3, .ro, 0x0⟩, ⟨2, 2, .ro, 0x0⟩, ⟨1, 1, .ro, 0x0⟩, ⟨0, 0, .ro, 0x0⟩]⟩,
   ⟨"MG_TX_WPTR", 0x50000008, 1, 0x0, 1, 0x0, 0, [⟨11, 0, .rw, 0x0⟩]⟩,
   ⟨"MG_TX_RPTR", 0x5000000C, 1, 0x0, 1, 0x0, 0, [⟨11, 0, .ro, 0x0⟩]⟩,
   ⟨"MG_RX_WPTR", 0x50000010, 1, 0x0, 1, 0x0, 0, [⟨11, 0, .ro, 0x0⟩]⟩,
   ⟨"MG_RX_RPTR", 0x50000014, 1, 0x0, 1, 0x0, 0, [⟨11, 0, .rw, 0x0⟩]⟩,
   ⟨"MG_LOGSEQ_LO", 0x50000018, 1, 0x0, 1, 0x0, 0, [⟨31, 0, .ro, 0x0⟩]⟩,
   ⟨"MG_LOGSEQ_HI", 0x5000001C, 1, 0x0, 1, 0x0, 0, [⟨31, 0, .ro, 0x0⟩]⟩,
   ⟨"MG_TXRING", 0x50001000, 1024, 0x4, 1, 0x0, 0, [⟨31, 0, .rw, 0x0⟩]⟩,
   ⟨"MG_RXRING", 0x50002000, 1024, 0x4, 1, 0x0, 0, [⟨31, 0, .ro, 0x0⟩]⟩]

/-- The element index of the row's word at a hub address, if the address is one of the row's words. -/
def RegRow.index? (r : RegRow) (a : Nat) : Option Nat :=
  if a < r.base then none
  else
    let o := a - r.base
    let i := if r.s1 = 0 then 0 else o / r.s1
    let j := if r.s2 = 0 then 0 else (o - i * r.s1) / r.s2
    if i < r.n1 ∧ j < r.n2 ∧ o = i * r.s1 + j * r.s2 then some i else none

/-- The word a register row holds after power-on reset (R5). -/
def RegRow.resetWord (r : RegRow) (i : Nat) : Word :=
  BitVec.ofNat 32 ((r.fields.foldl (fun n f => n + f.rst * 2 ^ f.lo) 0) + if r.ramp = 0 then 0 else i / r.ramp)

/-- The register rows of the window that holds a hub address (R13; the field die's blocks by their own bases). -/
def regRowsAt (a : Nat) : List RegRow :=
  let w := a / 0x1000000
  if w = 0x40 then regRowsDIC
  else if w = 0x41 then regRowsLE
  else if w = 0x42 then regRowsVQ
  else if w = 0x43 then regRowsPB
  else if w = 0x44 then
    let b := a / 0x10000
    if b = 0x4401 ∨ b = 0x4412 then regRowsSN
    else if b = 0x4410 ∨ b = 0x4411 then regRowsPF
    else if b = 0x4413 then regRowsSV
    else if b = 0x4414 then regRowsCK
    else []
  else if w = 0x45 then regRowsFB
  else if w = 0x46 then regRowsTW
  else if w = 0x47 then regRowsCA
  else if w = 0x48 then regRowsTR
  else if w = 0x4F then regRowsCK
  else if w = 0x50 then regRowsMG
  else []

/-- The first row of a list that has the address, with the element index. -/
def findRowIn : List RegRow → Nat → Option (RegRow × Nat)
  | [], _ => none
  | r :: rs, a =>
    match r.index? a with
    | some i => some (r, i)
    | none => findRowIn rs a

/-- The register row at a hub address; none where no block decodes the address (R13). DESIGN CHOICE:
notes/assumptions/16.md. -/
def findRow (a : Nat) : Option (RegRow × Nat) := findRowIn (regRowsAt a) a

/-- The level sources (R303). -/
def levelSource (src : Nat) : Bool := [1, 33, 197, 199, 480, 512].contains src

/-- What a register reads as after power-on reset: the reset values of its fields, 0 in its reserved bits;
the LEVEL bit of a doorbell source says whether it is a level source (R303, R315). DESIGN CHOICE:
notes/assumptions/5.md. -/
def resetWord (a : Nat) : Word :=
  match findRow a with
  | some (r, i) => if r.base = 0x40001000 ∧ levelSource i then r.resetWord i ||| 0x80#32 else r.resetWord i
  | none => 0

end Sys2Proof.Machine
end

