-- ==== Sys2Proof/Machine/State.lean ====
section
/-! DEFINITION. The state of the module: the register file, the memories, every queue, timer, record and counter the
spec names, the queue of waiting commands, and the state after reset. -/

namespace Sys2Proof.Machine

/-! ### The module state machine (spec 01) -/

/-- The module states of R19. -/
inductive ModState where
  | off | boot | table | reactive | predictive | hold | isolate | shed | survival | service | failed
deriving DecidableEq, Repr

/-- The twin roles of R25. -/
inductive Role where
  | undecided | active | standby | isolatedStandby | faulted
deriving DecidableEq, Repr

/-- The KS codes of R368. -/
inductive Ks where
  | ok | clamped | stateConflict | range | notFit | busy | authFail | part | unknownContext | notOwner | timeout
  | aborted | internal
deriving DecidableEq, Repr

/-- The start-up phases of R424, in order. -/
inductive BootPhase where
  | reset | rails | stage0 | stage1 | ddr | selftest | config | inputs | claimEnabled | running
deriving DecidableEq, Repr

/-- An output that a service check drives (R9, R21). -/
inductive SvcDrive where
  | pump (n : Nat) | valve (n : Nat) | brake (r : Nat)
deriving DecidableEq, Repr

/-- The module state machine, the frame and tick clocks and the start-up sequence (spec 01, 17). -/
structure Sys where
  /-- The module state (R19). -/
  mode : ModState := .boot
  /-- The last running state left (R19). -/
  prior : ModState := .table
  /-- The twin role (R25). -/
  role : Role := .undecided
  /-- A leak trigger held for the end of a higher state (R22). -/
  heldLeak : Bool := false
  /-- A coolant-stop trigger held for the end of a higher state (R22). -/
  heldCoolant : Bool := false
  /-- A cold-plate trigger held (R375). -/
  heldColdPlate : Bool := false
  /-- The mode accepted by SET_MODE, entered at the next frame boundary (R376). -/
  modeReq : Option ModState := none
  /-- A configuration has been written (R20). -/
  configWritten : Bool := false
  /-- SHED ended with a prior PREDICTIVE that waits for 8 good frames (R20). -/
  resumePredictive : Bool := false
  /-- The start-up phase (R424). -/
  phase : BootPhase := .reset
  /-- The time zero of the reset (R424). -/
  bootStart : Nat := 0
  /-- Ticks and frames run (R424: from the valid table inputs on). -/
  framesOn : Bool := false
  /-- The timebase count of the last tick boundary taken. -/
  lastTick : Option Nat := none
  /-- The timebase count of the last frame boundary taken. -/
  lastFrame : Option Nat := none
  /-- When the host-silence timer last restarted (R372). -/
  silenceStart : Nat := 0
  /-- The host-silence timer has run out (R413). -/
  hostSilent : Bool := false
  /-- When TABLE was first entered after the boot (R397). -/
  tableSince : Option Nat := none
  /-- The outputs driven by service checks (R21). -/
  drives : List SvcDrive := []
  /-- Leaving a state applied the control set; true while the table set is applied (R227). -/
  tableSet : Bool := false
  /-- Leak isolations that wait for their frame boundary: its count, and the rack (R249). -/
  isoPend : List (Nat × Nat) := []
  /-- The racks isolated (R375). -/
  isolated : Nat := 0
  /-- When the module entered FAILED, with the cause event (R20). -/
  failedAt : Option Nat := none
deriving DecidableEq, Repr

/-! ### Doorbell interrupt controller (spec 12) -/

/-- The controller's state beside its registers: the stacks of running priorities (R305), the moderation stamps
(R310), the group timers (R311), the interrupts given. -/
structure Dic where
  /-- The stack of running priorities of each target, top first (R305). -/
  runStacks : Table (List Nat) := []
  /-- When a moderated source was last delivered to a target (R310). -/
  lastMod : Table Nat := []
  /-- When the first event since the last fire of a group was counted (R311). -/
  grpStart : Table Nat := []
  /-- How many interrupts each target has been given. -/
  ints : Table Nat := []
  /-- The target that took a delivered source that is still pending, and the level it took it at (R306). -/
  taken : Table (Nat × Nat) := []
  /-- Level sources whose condition was asserted when last looked at (R308). -/
  levels : Table Bool := []
deriving DecidableEq, Repr

/-! ### Event log and management (spec 16) -/

/-- The events the chapters write log records for; the number of each code is the module's own (R391). -/
inductive Ev where
  | pllUnlock | timeStep | ptmLost | reset | bootFailed | stageFailed | slotFallback | trialConfirmed
  | stateChange | roleChange | fatal | tripLatched | tripTableMismatch | brakeMismatch
  | laneRetire | feedbackStep | pairSuspect | rcDenied | sampleMissed | overload
  | tileFailed | columnLost | readmission | rotationAborted | rotationDone | selftestFailed | sentinelFail
  | sramUncorrected | streamOverflow | badOutput | commitStep | commitFailed
  | unreachable | overCap | leaseLapsed | emergency | capsConfirmed | shedHeld | capDropped
  | queueReset | packetTimeout | badRecord
  | pumpState | fanState | pumpRotation | slowFall | slowFallEnd | coolantStop | flowRestored | analogFault
  | calSuspect | rtdOffset
  | sensorFault | sensorFrozen | leakConfirmed | leakBreak | leakAck | coldPlate | condensation
  | valveFault | valveClosed | valveOpened | kinkMissing | posMismatch | groupFault | budgetTimeout | sequenceDone
  | canState | canFailed | nodeLost | nodeBack | tripFilter | schedBad | refMissed | nodeUnconfigured | driveState
  | lineInvalid | lineValid | claim | release | heartbeatLost | heartbeatBack | linkDegraded | linkDown
  | outOfStep | crossCheck | resync | handover | versionSkew | slotConflict
  | ddrCorrected | ddrUncorrected | ddrChannel | dimmWarn | scrubPass | saturated
  | linkReduced | aer | cxlReset | mailboxFault
  | boardSensor | dieTemp | dieShutdown | undervoltage | actuatorLow | coreStall | logDropped | keyExhausted
  | updateStep | derate | hubSram | attest | taskRestart
deriving DecidableEq, Repr

/-- One record of the event log (R391), beside its CRC. -/
structure LogRec where
  seq : Nat
  time : Nat
  frame : Nat
  subsystem : Nat
  event : Ev
  severity : Nat
  mode : ModState
  role : Role
  fromPartner : Bool
  journal : Nat
  detail : List Nat
  boot : Nat
deriving DecidableEq, Repr

/-- A firmware slot of the NOR as the boot chain sees it (R394, R395). DESIGN CHOICE: notes/assumptions/3.md. -/
structure FwSlot where
  /-- The firmware version word of the header (R394). -/
  version : Nat := 0x00030200
  /-- The security version number of the header, held against the fuse (R395). -/
  svn : Nat := 0
  /-- The twin protocol version the image speaks (R337, R404). -/
  proto : Nat := 0
  /-- The header's key hashes to the key fuses' value. -/
  keyOk : Bool := true
  /-- The HSS signature over the manifest is valid. -/
  sigOk : Bool := true
  /-- The management stage hashes to the manifest digest. -/
  mgmtOk : Bool := true
  /-- The hub stage and the trip-matrix default table hash to the manifest digests. -/
  hubOk : Bool := true
  /-- The digest the manifest names for the management stage (R394). -/
  mgmtDigest : Nat := 0
  /-- The digest the manifest names for the hub stage (R394). -/
  hubDigest : Nat := 0
deriving DecidableEq, Repr

/-- A firmware update in progress (R403, R404). -/
structure Update where
  target : Nat
  size : Nat
  version : Nat
  digest : List Byte
  /-- The bytes received so far, by offset. -/
  bytes : List Host.Cell
  /-- Step 3 has passed. -/
  verified : Bool
  /-- The inactive slot has been programmed and read back (step 4). -/
  programmed : Bool
  /-- When UPDATE_ACTIVATE asked for the reset (R404). -/
  activateAt : Nat
  /-- The activation has been asked for and waits for its reset (R404). -/
  activating : Bool
  /-- The journal index of the update's multi-step command (R368). -/
  journal : Nat
  /-- The fields of the verified image's header. -/
  svn : Nat
  /-- The twin protocol version of the verified image's header (R404). -/
  proto : Nat
deriving DecidableEq, Repr

/-- One Modbus TCP connection (R410). -/
structure MbConn where
  id : Nat
  lastActive : Nat
deriving DecidableEq, Repr

/-- The calibration state of one rack in the NOR (R234). -/
structure SavedCal where
  rack : Nat
  gain : Nat
  off : Nat
  off2 : Nat
  state : Nat
  /-- The SUSPECT marks: bit 0 the flow meter, bits 1 and 2 the rack's RTDs. -/
  marks : Nat
  paux : F32
deriving DecidableEq, Repr

/-- The management die: boot control, fuses, identity, log, console, Modbus, board sensors (spec 16). -/
structure Mg where
  /-- The module's serial number (R374). -/
  serial : Nat := 0
  /-- The image areas of slots A and B (R389). -/
  slotA : FwSlot := {}
  /-- The image area of slot B (R389). -/
  slotB : FwSlot := {}
  /-- The active slot of the boot control record: 0 A, 1 B (R397). -/
  activeSlot : Nat := 0
  /-- The running slot. -/
  runSlot : Nat := 0
  /-- The active slot is marked TRIAL (R397). -/
  trial : Bool := false
  /-- Trial boots that ended before confirmation (R397). -/
  trialBoots : Nat := 0
  /-- The running image is confirmed (R397). -/
  confirmed : Bool := true
  /-- The anti-rollback step F (R398). -/
  fuse : Nat := 0
  /-- No slot passes: recovery mode (R397). -/
  recovery : Bool := false
  /-- When the boot watchdog started counting, if it counts (R397). -/
  watchdog : Option Nat := none
  /-- The boot watchdog is held (R397). -/
  watchdogHeld : Bool := false
  /-- The next identity signature index, in the two identity state logs (R400). -/
  idxA : Nat := 0
  /-- The next identity signature index of the second state log (R400). -/
  idxB : Nat := 0
  /-- When the last report was signed (R401). -/
  lastSign : Option Nat := none
  /-- The records in the NOR ring, oldest first (R392). -/
  ring : List LogRec := []
  /-- The records in the SRAM buffer, oldest first (R392). -/
  buf : List LogRec := []
  /-- Severity-0 records dropped since the last LOG_DROPPED record (R392). -/
  dropped : Nat := 0
  /-- The next sequence number (R391). -/
  nextSeq : Nat := 1
  /-- The host read mark (R392). -/
  readMark : Nat := 0
  /-- Doorbell 513 has been posted for the present crossing (R392). -/
  log90 : Bool := false
  /-- The Modbus connections (R410). -/
  conns : List MbConn := []
  /-- When the Modbus write grant ends, while one runs (R385). -/
  grantEnd : Option Nat := none
  /-- The last Modbus exception code given (R408). -/
  lastException : Nat := 0
  /-- The alarm word at the last acknowledge (R413). -/
  ackedAlarms : Nat := 0
  /-- An acknowledge holds relays 0 to 2 off (R413). -/
  alarmsAcked : Bool := false
  /-- The console port's bit rate (R407). -/
  baud : Nat := 115200
  /-- The SVC_EN key switch (R407). -/
  svcEn : Bool := false
  /-- The latest board reading of each quantity of R390, in mV, mA, mW or 0.01 °C. -/
  board : Table Int := []
  /-- Quantities outside their warning band (R390). -/
  boardWarn : List Nat := []
  /-- The firmware update (R403). -/
  update : Option Update := none
  /-- The timebase saved in the persistent area (R417). -/
  savedTime : Nat := 0
  /-- Boots since manufacture (R434). -/
  bootCount : Nat := 0
  /-- FRAME_ORIGIN kept in the persistent area (R419). -/
  savedOrigin : Nat := 0
  /-- BOOT-class configuration stored for the next BOOT: identifier, index, value (R377). -/
  bootCfg : List (Nat × Nat × Nat) := []
  /-- Stored configuration of the field channels and loops (R467, R469): identifier, index, value. -/
  storedCfg : List (Nat × Nat × Nat) := []
  /-- Run hours of the pumps saved in the NOR, in 0.1 h (R216). -/
  savedHours : Table Nat := []
  /-- Closings of each solenoid channel since manufacture (R272). -/
  closings : Table Nat := []
  /-- Failed-tile records: tile, times (R86). -/
  failedTiles : List (Nat × List Nat) := []
  /-- The run hours at the last rotation saved in the NOR, in 0.1 h (R216). -/
  savedRot : Table Nat := []
  /-- Calibration state saved in the NOR (R234). -/
  savedCal : List SavedCal := []
  /-- Alarm relays 0 to 3 energized (R413). -/
  relays : Nat := 0
  /-- Messages the hub has posted that the management die has read (R414). -/
  received : List Nat := []
deriving DecidableEq, Repr

/-! ### The host mailbox (spec 15) -/

/-- One reply given to a requester: the CXL return code (0 Success, 1 Unsupported) or a bus, Modbus or console outcome,
and the bytes of the reply. -/
structure Reply where
  /-- The mailbox return code (R366). -/
  rc : Nat := 0
  /-- The KS code of the Waxus header (R368). -/
  ks : Ks := .ok
  /-- The payload after the header. -/
  body : List Byte := []
deriving DecidableEq, Repr

/-- The outcome of a journal (R386). -/
inductive JOut where
  | running | done | failed | aborted
deriving DecidableEq, Repr

/-- One journal (R371, R386). -/
structure Journal where
  idx : Nat
  opcode : Nat
  tag : Nat
  total : Nat
  done : Nat
  step : Nat
  outcome : JOut
  detail : Nat
  started : Nat
  changed : Nat
  frame : Nat
deriving DecidableEq, Repr

/-- A reply that waits for the ACK that covers its COMMAND frame, for 1 ms at most (R326). -/
structure HeldReply where
  /-- The link sequence number of the COMMAND frame. -/
  seq : Nat
  /-- When the reply goes without the ACK. -/
  due : Nat
  ks : Ks
  header : List Byte
  body : List Byte
deriving DecidableEq, Repr

/-- One clamped or pending value of a command (R380). -/
structure ClampRec where
  ident : Nat
  index : Nat
  requested : Nat
  applied : Nat
  flags : Nat
deriving DecidableEq, Repr

/-- The clamp list of one command (R380). -/
structure ClampList where
  tag : Nat
  opcode : Nat
  recs : List ClampRec
deriving DecidableEq, Repr

/-- One accepted tag with its reply (R370). -/
structure TagRec where
  tag : Nat
  time : Nat
  header : List Byte
  body : List Byte
deriving DecidableEq, Repr

/-- A snapshot scheduled (R387). -/
structure Snap where
  at_ : Nat
  slot : Nat
  tag : Nat
  journal : Nat
  /-- The timebase count of the latch, once latched. -/
  latched : Option Nat
  /-- The state latched, as the bytes of the slot without its TAG. -/
  image : List Host.Cell
deriving DecidableEq, Repr

/-- A budget change under a journal (R382). -/
structure BudgetJob where
  journal : Nat
  /-- The ceilings changed: level and index. -/
  ceilings : List (Nat × Nat)
  /-- The frame in which the change was accepted. -/
  frame : Nat
  /-- The contexts of step 4 with the grant each must reach, once step 3 is done. -/
  waiting : List (Nat × Nat)
  /-- Cap sent of the contexts at the effective boundary: context, cap. -/
  sentAt : List (Nat × Nat)
  /-- The records sent since the effective boundary, oldest first: context, cap, epoch. -/
  sent : List (Nat × Nat × Nat)
deriving DecidableEq, Repr

/-- The CXL attachment and the command server (spec 15). -/
structure Mbox where
  /-- The replies given, newest first, at most the last 8. -/
  replies : List Reply := []
  /-- The last 1,024 accepted tags, newest first (R370). -/
  tags : List TagRec := []
  /-- The last 256 journals, newest first (R371). -/
  journals : List Journal := []
  /-- The next journal index (R368: 1 to 65,535). -/
  nextJournal : Nat := 1
  /-- Journals the former owner last forwarded (R339, R386). -/
  former : List Journal := []
  /-- The clamp lists of the last 16 commands that clamped, newest first (R380). -/
  clamps : List ClampList := []
  /-- RUN- and TABLE-class entries accepted, applied at the next frame boundary (R377). -/
  staged : List (Nat × Nat × Nat) := []
  /-- Applied values of the fields that no register holds, by 65,536 × identifier + index (R378). -/
  cfg : Table Nat := []
  /-- The configuration generation (R377). -/
  cfgGen : Nat := 0
  /-- Snapshots pending or latched (R387). -/
  snaps : List Snap := []
  /-- The next snapshot slot in turn (R355). -/
  nextSnap : Nat := 0
  /-- The scheduled pair-wide reset is a coordinated one (R419). -/
  coordinated : Bool := false
  /-- Budget changes whose journal runs (R382). -/
  budgetJobs : List BudgetJob := []
  /-- The CXL link: up, GT/s, lanes, LINK_REDUCED (R359). -/
  linkUp : Bool := false
  /-- The link rate, GT/s (R359). -/
  linkRate : Nat := 0
  /-- The link width, lanes (R359). -/
  linkWidth : Nat := 0
  /-- LINK_REDUCED: the link trained below its full rate or width (R359). -/
  linkReduced : Bool := false
  /-- The flit size of the trained link, bytes: 256 at 64 GT/s, 68 below it (R358). -/
  linkFlit : Nat := 0
  /-- The MSI-X table of BAR0, by word (R361). -/
  msixTable : Table Word := []
  /-- Media ready (R362). -/
  mediaReady : Bool := false
  /-- Memory_Active (R362). -/
  memoryActive : Bool := false
  /-- HDM decoder 0: size in GiB, interleave ways, committed (R362). -/
  hdmSize : Nat := 0
  /-- The interleave ways of HDM decoder 0 (R362). -/
  hdmWays : Nat := 0
  /-- HDM decoder 0 is committed (R362). -/
  hdmCommitted : Bool := false
  /-- The timestamp that the host has set, in ns, and the count at which it did (R366). -/
  stamp : Option (Nat × Nat) := none
  /-- AER counts: correctable, uncorrectable non-fatal (R365). -/
  aerCorr : Nat := 0
  /-- The count of uncorrectable non-fatal AER errors (R365). -/
  aerUncorr : Nat := 0
  /-- DRAM event records, oldest first: uncorrected, address, time (R366). -/
  dramEvents : List (Bool × Nat × Nat) := []
  /-- MSI-X vectors pending or sent, newest first (R361). -/
  msix : List Nat := []
  /-- When every PTM dialog since has succeeded within bounds (R364). -/
  ptmGoodSince : Option Nat := none
  /-- When the last PTM request was sent (R364). -/
  ptmLast : Option Nat := none
  /-- Replies that wait for the ACK of their COMMAND frame, oldest first (R326). -/
  held : List HeldReply := []
  /-- The timebase of the last mailbox command (R388). -/
  lastCommand : Option Nat := none
  /-- The commands received, and the KS codes given, since reset. -/
  commands : Nat := 0
  /-- How many replies gave each KS code since reset. -/
  ksCounts : Table Nat := []
deriving DecidableEq, Repr

/-! ### Power-cap broker (spec 06) -/

/-- One staged budget change (R163, R382): level 0 row, 1 rack, 2 group, 3 context. -/
structure BudgetChange where
  level : Nat
  index : Nat
  immediate : Bool
  budget : Option Nat
  fallback : Option Nat
  priority : Option Nat
  group : Option Nat
deriving DecidableEq, Repr

/-- The broker (spec 06). -/
structure Broker where
  /-- The records of the contexts beside their registers. -/
  ctx : Table PbCtx := []
  /-- The row budget in W (R157). -/
  rowBudget : Nat := 0
  /-- Effective budgets of racks and groups (R157). -/
  eRack : Table Nat := []
  /-- Effective budgets of groups (R157). -/
  eGrp : Table Nat := []
  /-- The group ceilings (R161). -/
  grpCeil : Table Ceiling := []
  /-- T_c of the latest cut of each group, in ms (R180). -/
  grpTc : Table Nat := []
  /-- Budget changes that take effect at the next frame boundary (R163), in order of arrival. -/
  changes : List BudgetChange := []
  /-- EMERGENCY_EPOCH (R176). -/
  emergencyEpoch : Nat := 0
  /-- When the caps were confirmed in the present SHED (R177). -/
  confirmedAt : Option Nat := none
  /-- Brake lines the trip matrix asserts (R174). -/
  tripBrakes : Nat := 0
  /-- When the last cap write started (R165). -/
  lastStart : Option Nat := none
  /-- When the present burst's first write started (R182 PB_FANOUT_US). -/
  burstStart : Option Nat := none
  /-- The last record written to an accelerator: address and 64 bytes (R164). -/
  lastWrite : Option (Nat × List Byte) := none
  /-- Every admitted context is due a record at the next frame boundary (R179). -/
  newOwner : Bool := false
  /-- The BAR4 post area as staged by the host, by word offset (R181). -/
  post : Table Nat := []
  /-- POST_ACK_SEQ, POST_STATUS, the frame of the last post, its T_c (R181). -/
  ackSeq : Nat := 0
  /-- POST_STATUS (R181). -/
  postStatus : Nat := 0
  /-- The frame of the last post (R181). -/
  postFrame : Nat := 0
  /-- The T_c of the last post (R181). -/
  postTc : Nat := 0
  /-- A POST_SEQ committed and not yet in effect (R181). -/
  postDue : Option Nat := none
deriving DecidableEq, Repr

/-! ### Vat queues (spec 07) -/

/-- A telemetry record (R204): its context, the frame it belongs to, and its 64-bit words, word 0 first. -/
structure TRec where
  ctx : Nat
  frame : Nat
  words : List Nat
deriving DecidableEq, Repr

/-- One assembly slot of an ingest queue (R185, R203). -/
structure Asm where
  /-- The words arrived, by word number; word 0 is the header. -/
  words : Table Nat := []
  /-- When the first word arrived. -/
  since : Option Nat := none
  /-- The lines charged for the record (R189). -/
  charged : Nat := 0
  /-- The record was refused for lack of credit, when its header arrived (R203). -/
  refused : Option Nat := none
  /-- The packet was in assembly when a flush was requested (R197). -/
  marked : Bool := false
deriving DecidableEq, Repr

/-- One line held in a bank: its tag and its bytes (R184). -/
structure VLine where
  tag : Nat
  bytes : List Byte
  /-- The record that the line belongs to, kept with its first line. -/
  rcd : Option TRec := none
deriving DecidableEq, Repr

/-- An ingest queue (R183, R186). -/
structure IQ where
  /-- The lines of the bank being filled (R184). -/
  fill : List VLine := []
  /-- The lines of the bank being read (R184). -/
  read : List VLine := []
  /-- Lines committed at the count of a boundary before the swap, for the bank that fills from it (R14, R185). -/
  late : List VLine := []
  /-- A flush waits for its point (R197). -/
  flushing : Bool := false
deriving DecidableEq, Repr

/-- A stalled read of a sample queue (R194): who reads, when the read began, its deadline. -/
structure SqStall where
  reader : SqReader
  began : Nat
  deadline : Nat
deriving DecidableEq, Repr

/-- A sample queue (R183, R187, R194). -/
structure SQ where
  /-- The lines of the bank being filled (R187). -/
  fill : List VLine := []
  /-- The lines of the bank being read (R187). -/
  read : List VLine := []
  /-- The lines the producer may still commit (R193). -/
  credits : Nat := 128
  /-- The stalled reads, oldest first (R194). -/
  stalls : List SqStall := []
  /-- The tag the last read returned. -/
  lastTag : Nat := 0
  /-- The reader that the last read answered (R195). -/
  lastReader : Option SqReader := none
  /-- A packet is in assembly since (R185, R198). -/
  since : Option Nat := none
  /-- The packet in assembly was there at the flush request (R197). -/
  marked : Bool := false
  /-- A flush waits for its point (R197). -/
  flushing : Bool := false
  /-- A level doorbell may be posted again (R201). -/
  armed : Bool := true
  /-- The sequence number of the next packet. -/
  seq : Nat := 0
deriving DecidableEq, Repr

/-- The vat queues (spec 07). -/
structure Vat where
  /-- The ingest queues. -/
  iq : Table IQ := []
  /-- The sample queues. -/
  sq : Table SQ := []
  /-- The assembly slots, by 2 × context + slot (R185). -/
  asm : Table Asm := []
  /-- The newest accepted record of each context (R196). -/
  newest : Table (Option TRec) := []
  /-- Frames without a record in a row, per context (R42). -/
  silent : Table Nat := []
  /-- Records passed to the cellar and not yet compressed (R196, R354). -/
  toCellar : List TRec := []
  /-- Unpacking of the frame is under way (R186). -/
  unpacking : Bool := false
  /-- Unpacking of the frame has ended (R33). -/
  unpacked : Bool := false
  /-- Packets that the ACTIVE module has forwarded for a frame and tick this STANDBY has not run yet (R205, R327). -/
  forwarded : List (Nat × Nat × TRec) := []
deriving DecidableEq, Repr

/-! ### Loop engine (spec 02) -/

/-- One Trellis output row kept for a context (R16, R74): the frame whose telemetry produced it and its 32 lanes. -/
structure PredRow where
  frame : Nat
  lanes : List F32
deriving DecidableEq, Repr

/-- One injection and capture channel beside its registers (R57, R59). -/
structure Inj where
  /-- The shift register of the PRBS. -/
  lfsr : Nat := 0
  /-- Samples left of the present PRBS bit. -/
  hold : Nat := 0
  /-- When the injection started. -/
  started : Option Nat := none
  /-- The injection runs (the capture may begin before it). -/
  injecting : Bool := false
  /-- Entries still to take before the injection starts (PRE). -/
  preLeft : Nat := 0
deriving DecidableEq, Repr

/-- One bobbin beside its registers (R60, R61). -/
structure Bob where
  /-- Entries still to record after the trigger (mode 0). -/
  postLeft : Nat := 0
  /-- The time of the last entry, for the time marker (R60). -/
  lastTime : Option Nat := none
  /-- Entries written since the rewind mark, the mark's own among them (R63). -/
  sinceMark : Nat := 0
  /-- The last value of each probe, for the crossing conditions (R61). -/
  lastVal : Table Nat := []
deriving DecidableEq, Repr

/-- The loop engine (spec 02). -/
structure Loops where
  /-- The slots' state beside their registers. -/
  slots : Table LSlot := []
  /-- The active parameter words, by hub address, as they differ from the reset values (R65). -/
  active : Table Word := []
  /-- The prediction store (R16). -/
  preds : Table (Option PredRow) := []
  /-- Virtual sensor values: value and frame (R76). -/
  vs : Table (Option (F32 × Nat)) := []
  /-- When each lane pair is free again (R29). -/
  busy : Table Nat := []
  /-- The tick in which a pair last ran its check evaluation (R29). -/
  checked : Table Nat := []
  /-- Tables that hold valid content (R39). -/
  tablesValid : Table Bool := []
  /-- The pool's codes, by sample index (R53), as they differ from 0. -/
  pool : Table Int := []
  /-- The RC wait list: slot and pages wanted, oldest first (R53). -/
  waiting : List (Nat × Nat) := []
  /-- The injectors. -/
  inj : Table Inj := []
  /-- The bobbins. -/
  bob : Table Bob := []
  /-- A new frame length waits for its boundary (R31). -/
  frameTicksNew : Option Nat := none
  /-- The frame's cutoff tick has passed (R33). -/
  cutoff : Bool := false
deriving DecidableEq, Repr

/-! ### Solenoid drivers (spec 10) -/

/-- One step of a valve sequence (R270). -/
structure SvStep where
  ch : Nat
  action : Nat
  withNext : Bool
  confirm : Bool
  wait : Nat
  /-- 0 not started, 1 in progress, 2 completed, 3 its wait has passed. -/
  phase : Nat
  /-- When the step completed. -/
  doneAt : Nat
deriving DecidableEq, Repr

/-- The solenoid drivers. -/
structure Sv where
  /-- The channels. -/
  ch : Table SvCh := []
  /-- The groups. -/
  grp : Table SvGrp := []
  /-- The next order number. -/
  nextOrder : Nat := 0
  /-- The sequence in progress: journal and steps (R271). -/
  seqJournal : Option Nat := none
  /-- The steps of the sequence in progress (R271). -/
  steps : List SvStep := []
deriving DecidableEq, Repr
/-! ### Hydraulics (spec 08) -/

/-- The slow-fall evaluation of a rack (keys 0 to 15) or of the row (key 16) (R221). -/
structure SlowFall where
  /-- The flow has been low with a falling slope since. -/
  since : Option Nat := none
  /-- The slow fall has been declared. -/
  active : Bool := false
  /-- Q_set as held at detection. -/
  held : F32 := 0
  /-- The flow has been at 95% or more since (R223). -/
  okSince : Option Nat := none
  /-- The flows of the last 2 s, newest first. -/
  hist : List F32 := []
deriving DecidableEq, Repr

/-- The hydraulic actuator block. -/
structure Pf where
  /-- The pumps and fans: 0 to 3 the pumps, 4 to 11 the fans. -/
  ch : Table PfCh := []
  /-- When the manager last started a pump (R211). -/
  lastStart : Option Nat := none
  /-- Pumps whose start the manager has asked for, waiting for their turn (R211). -/
  queued : List Nat := []
  /-- PF_DEMAND above 95% since, below 45% since (R215). -/
  highSince : Option Nat := none
  /-- PF_DEMAND below 45% since (R215). -/
  lowSince : Option Nat := none
  /-- The run hours of each pump at the last rotation, in 0.1 h (R216). -/
  rotBase : Table Nat := []
  /-- PF_PMGR.ROT_NOW asks for a rotation (R216). -/
  rotNow : Bool := false
  /-- A rotation in progress: incoming and outgoing pump (R216). -/
  rotation : Option (Nat × Nat) := none
  /-- The last write of the run hours to the NOR. -/
  hoursSaved : Nat := 0
  /-- Which channels have an OPEN condition pending, since (R218). -/
  aoOpen : Table Nat := []
  /-- The slow-fall state of each rack, and of the row (R221). -/
  slow : Table SlowFall := []
  /-- The row's flow ratio in 1/10,000 as last computed (R222). -/
  rowRatio : Nat := 10000
  /-- The raise of plant loop 0's SETPOINT, kPa, and its direction (R222, R223). -/
  raise : F32 := 0
  /-- When the slow-fall conditions were last evaluated (R221). -/
  slowAt : Option Nat := none
  /-- The last main-flow pulse (R224). -/
  lastPulse : Nat := 0
  /-- Consecutive 1 kHz samples with the DP below the threshold. -/
  dpRun : Nat := 0
  /-- Q_row as held at the coolant stop (R226). -/
  qHeld : F32 := 0
  /-- Flow has been restored since (R226). -/
  restoreSince : Option Nat := none
  /-- FLOW_RESTORED was set at. -/
  restoredAt : Option Nat := none
  /-- The bypass is driven to 100% (R219). -/
  bypass : Bool := false
  /-- The racks' calibration state (R229). -/
  cal : Table CalRack := []
  /-- The last calibration minute of a rack, and the last save (R234). -/
  calAt : Table Nat := []
  /-- When the calibration state was last saved (R234). -/
  calSaved : Nat := 0
  /-- Supply header means of the last 10 min, newest first (R233). -/
  header : List F32 := []
  /-- The end of the last SHED or SURVIVAL (R229). -/
  calmSince : Nat := 0
  /-- The control set's IN_SEL and CTRL words while the table set is applied, by register address (R227). -/
  ctlSet : Table Nat := []
  /-- CTRL and MANUAL of the balancing loops set aside during an isolation, by rack (R220). -/
  isoSet : Table (Nat × Nat) := []
deriving DecidableEq, Repr
/-! ### Sensors, leak channels, cold plate (spec 09) -/

/-- One converted input: RTD n at key n, 4 to 20 mA n at 48 + n, pulse n at 72 + n, digital n at 80 + n. -/
structure SnIn where
  /-- Consecutive conversions with each condition (R239). -/
  openRun : Nat := 0
  /-- Consecutive conversions that read a short (R239). -/
  shortRun : Nat := 0
  /-- Consecutive conversions below the low limit (R239). -/
  lowRun : Nat := 0
  /-- Consecutive conversions above the high limit (R239). -/
  highRun : Nat := 0
  /-- The OPEN condition has been absent since (R239). -/
  openClear : Option Nat := none
  /-- The SHORT condition has been absent since (R239). -/
  shortClear : Option Nat := none
  /-- The condition of LOW_OVR has been absent since (R239). -/
  lowClear : Option Nat := none
  /-- The condition of HIGH has been absent since (R239). -/
  highClear : Option Nat := none
  /-- The offset that the dither added to the last conversion (R237). -/
  dither : Option Int := none
  /-- Identical raw codes in a row (R238). -/
  same : Nat := 0
  /-- A conversion has been made. -/
  seen : Bool := false
  /-- The last pulse, or when the new digital level began. -/
  stamp : Option Nat := none
  /-- NAMUR condition since: open, short (R239). -/
  openSince : Option Nat := none
  /-- A NAMUR short since (R239). -/
  shortSince : Option Nat := none
  /-- The uncorrected value (R244): RTD in 1/256 °C, mA in configured units. -/
  uncorr : Int := 0
  /-- When the input was last converted or reported. -/
  at_ : Option Nat := none
deriving DecidableEq, Repr

/-- One leak channel: rope k at key k, point j at key 16 + j (R245, R247). -/
structure LkCh where
  /-- Consecutive samples that read a break (R245). -/
  brk : Nat := 0
  /-- Consecutive samples that read no break (R245). -/
  notBrk : Nat := 0
  /-- Dry since (R247). -/
  drySince : Option Nat := none
  /-- When the channel was last sampled (R244). -/
  at_ : Option Nat := none
  /-- BREAK reported while CONFIRMED. -/
  brkReported : Bool := false
  /-- When the channel confirmed. -/
  confirmedAt : Option Nat := none
deriving DecidableEq, Repr

/-- The sensor front end. -/
structure Sn where
  /-- The inputs' state beside their registers. -/
  inp : Table SnIn := []
  /-- The leak channels' state beside their registers. -/
  lk : Table LkCh := []
  /-- Cold-plate counters: flow below 0.3 L/min, rise of 15 K, rise of 7.5 K (R251). -/
  cpLoss : Nat := 0
  /-- Consecutive cold-plate samples with a rise of 15 K (R251). -/
  cpRise : Nat := 0
  /-- Consecutive cold-plate samples with a rise below 7.5 K (R251). -/
  cpLowRise : Nat := 0
  /-- The exit condition of SURVIVAL has held since. -/
  cpOk : Option Nat := none
  /-- When the cold plate was last evaluated (R251). -/
  cpAt : Option Nat := none
  /-- CP_LOW has been clear since (R450). -/
  lowClear : Option Nat := none
  /-- EXC_EN_N is asserted, and when it last changed (R442). -/
  exc : Bool := false
  /-- When EXC_EN_N last changed (R442). -/
  excAt : Option Nat := none
  /-- When each stream was last published (R244). -/
  streams : Table Nat := []
  /-- The derate holds TR_CTRL.IDLE (R450). -/
  derated : Bool := false
  /-- The die temperatures, °C × 100: last value, above 100 °C since, above 110 °C since, by die (R449). -/
  die : Table (Nat × Option Nat × Option Nat) := []
deriving DecidableEq, Repr
/-! ### Trellis (spec 03 to 05) -/

/-- A register write or store on its way: the tile cycle at whose start it is visible, the slot, the target and value.
-/
inductive TWrite where
  /-- s register. -/
  | sreg (n v : Nat)
  /-- Lanes of a v register: lane number and value. -/
  | vreg (n : Nat) (lanes : List (Nat × Word))
  /-- Predicate. -/
  | preg (n : Nat) (b : Bool)
  /-- m register, by number. -/
  | mreg (n v : Nat)
  /-- A whole accumulator: rows of 32 words. -/
  | acc (n : Nat) (rows : List (List Word))
  /-- Bytes of an SRAM line: byte number and value. -/
  | line (n : Nat) (bytes : List (Nat × Byte))
deriving DecidableEq, Repr

/-- A pending write (R95, R96, R101). -/
structure TPend where
  due : Nat
  slot : Nat
  w : TWrite
deriving DecidableEq, Repr

/-- A matrix operation in flight (R107 to R109). -/
structure MxOp where
  /-- The opcode, 1 to 6, or 8 for MZERO. -/
  op : Nat
  /-- The accumulator it works on. -/
  acc : Nat
  /-- Z: the accumulator starts at zero. -/
  z : Bool
  /-- The format code of A. -/
  fa : Nat
  /-- The format code of B. -/
  fb : Nat
  /-- The first line of A. -/
  aLine : Nat
  /-- The first line of B. -/
  bLine : Nat
  /-- The line of the scales. -/
  sLine : Nat
  /-- The cycle of issue. -/
  issue : Nat
  /-- The lines read so far, in order, and the scale line. -/
  aRead : List (List Byte)
  /-- The lines of B read so far, in order. -/
  bRead : List (List Byte)
  /-- The scale line read. -/
  scale : List Byte
  /-- The accumulator as read at issue + occupancy (Z = 0). -/
  accRead : Option (List (List Word))
deriving DecidableEq, Repr

/-- A message in a receive buffer (R114): its tag, first line, lines, and the lines skipped before it. -/
structure TMsg where
  tag : Nat
  line : Nat
  count : Nat
  skipped : Nat
deriving DecidableEq, Repr

/-- An inbound channel as the image declares it, with its messages, oldest first (R113, R114). -/
structure InCh where
  base : Nat
  len : Nat
  msgs : List TMsg
deriving DecidableEq, Repr

/-- Where an outbound channel leads (R113). -/
inductive TDest where
  | stage (n ch : Nat)
  | out
  | vs
deriving DecidableEq, Repr

/-- A message queued at a send engine (R116): channel, tag, first line, lines, and the lines read so far. -/
structure SMsg where
  ch : Nat
  tag : Nat
  line : Nat
  count : Nat
  read : List (List Byte)
deriving DecidableEq, Repr

/-- One tile (R94 to R120). -/
structure Tile where
  /-- Instruction slots, by 8 × bundle + slot, as they differ from 0. -/
  imem : Table Nat := []
  /-- Data SRAM lines, as they differ from 64 zero bytes. -/
  sram : Table (List Byte) := []
  /-- The scalar registers, as they differ from 0 (R91). -/
  s : Table Nat := []
  /-- The vector registers, as they differ from 0 (R91). -/
  v : Table (List Word) := []
  /-- The accumulators, as they differ from 0 (R91). -/
  a : Table (List (List Word)) := []
  /-- Predicates p1 to p15, as bits. -/
  p : Nat := 0
  /-- m0 (R120). -/
  m0 : Nat := 0
  /-- m2 (R120). -/
  m2 : Nat := 0
  /-- m3 (R120). -/
  m3 : Nat := 0
  /-- m4 (R120). -/
  m4 : Nat := 0
  /-- m5 (R120). -/
  m5 : Nat := 0
  /-- m7 (R120). -/
  m7 : Nat := 0
  /-- The bits of m7 that the hardware has set in the present cycle (R8). -/
  m7set : Nat := 0
  /-- The tag of the bunch at whose end the tile last issued BEND (R119). -/
  lastBend : Option Nat := none
  /-- The number of the present bundle (R93). -/
  pc : Nat := 0
  /-- Unstalled clock cycles since the tile took its stage. -/
  cyc : Nat := 0
  /-- The slots of the present bundle that have issued, as bits. -/
  issued : Nat := 0
  /-- The branch the present bundle takes: target, and whether it costs a cycle. -/
  branch : Option (Nat × Bool) := none
  /-- The tile has halted (R98). -/
  halted : Bool := false
  /-- The present bundle holds a HALT: issue stops after it. -/
  halting : Bool := false
  /-- The present cycle is a stall (R96). -/
  stalled : Bool := false
  /-- The writes under way (R95, R101). -/
  pend : List TPend := []
  /-- The MX operations under way, oldest first (R104). -/
  mx : List MxOp := []
  /-- The MX unit is busy up to this cycle. -/
  mxFree : Nat := 0
  /-- The inbound channels (R113). -/
  inCh : Table InCh := []
  /-- The destinations of the outbound channels (R113). -/
  outCh : Table TDest := []
  /-- The send queue, oldest first; the head is the message in the engine once `sending`. -/
  sendQ : List SMsg := []
  /-- The send engine sends the head of the queue (R116). -/
  sending : Bool := false
  /-- Messages the engine has read whole, on their way to the mesh. -/
  outbox : List SMsg := []
  /-- When the scrubber last completed its pass (R88). -/
  scrubbed : Nat := 0
deriving DecidableEq, Repr

/-- A message on the mesh or the feed network: its destination, tag and lines. -/
structure Flight where
  /-- The tile that sent it. -/
  src : Nat
  dest : TDest
  tag : Nat
  lines : List (List Byte)
deriving DecidableEq, Repr

/-- One stage of the admitted image (R139). -/
structure Stage where
  row : Nat
  col : Nat
  flags : Nat
  stateBase : Nat
  stride : Nat
  sentBase : Nat
  plantBase : Nat
  sentPlant : Nat
  bundles : Nat
  lines : Nat
  ii : Nat
deriving DecidableEq, Repr

/-- An image as its header gives it (R138). -/
structure Image where
  slot : Nat
  size : Nat
  minFw : Nat
  flags : Nat
  stages : List Stage
  cols : Nat
  ii : Nat
  lat : Nat
  horizon : F32
  vsCount : Nat
  warm : Nat
  bands : List F32
  /-- The model name of the header. -/
  name : List Byte
  digest : List Byte
  /-- The FORM and the bunch count it was admitted with (R143, R144). -/
  form : Nat
  /-- The bunch count it was admitted with (R144). -/
  bunches : Nat
deriving DecidableEq, Repr

/-- A model commit in progress (R147). -/
structure Commit where
  journal : Nat
  image : Image
  form : Nat
  bunches : Nat
  /-- The journal step being worked on. -/
  step : Nat
  /-- COMMIT_MODEL's RESUME: PREDICTIVE is taken up again after it (R148). -/
  resume : Bool
  /-- The module was in PREDICTIVE when it began. -/
  wasPredictive : Bool
  /-- It is a REVERT_MODEL (R150). -/
  revert : Bool
  /-- The previous image is being reloaded after a failure (R149). -/
  fallback : Bool
  /-- When step 3 began. -/
  step3At : Nat
  /-- The digest the request carries (R140). -/
  digest : List Byte
  /-- The committed and the previous image before step 4. -/
  oldImage : Option Image
  /-- The previous image before step 4. -/
  oldPrevious : Option Image
deriving DecidableEq, Repr

/-- Trellis control. -/
structure Tr where
  /-- The tiles (R68). -/
  tiles : Table Tile := []
  /-- The messages under way on the mesh (R113). -/
  mesh : List Flight := []
  /-- The committed and the previous image (R140, R150). -/
  image : Option Image := none
  /-- The previous image (R150). -/
  previous : Option Image := none
  /-- The FORM the committed image was admitted with (R143). -/
  form : Nat := 0
  /-- Lost columns, as bits (R84). -/
  lost : Nat := 0
  /-- The commit under way (R148). -/
  commit : Option Commit := none
  /-- A column loss waits for its re-admission (R84). -/
  readmit : Bool := false
  /-- The frame that ENABLE first opened (R148: rows are withheld for W frames from it). -/
  firstFrame : Option Nat := none
  /-- Good sentinel frames in a row since the W warm-up frames (R147, R337). -/
  warmGood : Nat := 0
  /-- The present frame was opened with Trellis running (R72). -/
  frameOn : Bool := false
  /-- The commit waits for the next boundary to enable (R148). -/
  enableDue : Bool := false
  /-- When the last column switch took place (R78). -/
  lastSwitch : Nat := 0
  /-- A rotation was aborted, and its period restarts once Trellis runs again (R81). -/
  rotRestart : Bool := false
  /-- The spare column has passed its self-test (R78). -/
  selftestDone : Bool := false
  /-- The preload of the column to switch to is complete (R78). -/
  preloaded : Bool := false
  /-- A rotation is due (R77). -/
  rotDue : Bool := false
  /-- The frame number of S (R79). -/
  switchAt : Option Nat := none
  /-- The retiring column still works off the frame before S. -/
  retiring : Option Nat := none
  /-- A sentinel bunch has entered, in this frame, and waits for its answers (R83). -/
  sentOn : Bool := false
  /-- The frame of the sentinel bunch (R83). -/
  sentFrame : Nat := 0
  /-- Channels that have carried a wrong answer: 8 × stage + channel. -/
  sentWrong : List Nat := []
  /-- Stages that ended the sentinel bunch before their last message (R119). -/
  sentEarly : List Nat := []
  /-- Sentinel messages sent, by 8 × stage + channel. -/
  sentMsgs : Table Nat := []
  /-- The occupied bunches of the frame still to enter, in order, and when the next enters. -/
  toEnter : List Nat := []
  /-- How many bunches of the frame have entered. -/
  entered : Nat := 0
  /-- The last bunch that entered in each of the newest frames, newest first: frame and bunch (R80, R90). -/
  lastOf : List (Nat × Nat) := []
  /-- The contexts whose row mask bits the present frame's bunches carry (R155). -/
  rows : List Nat := []
  /-- When the frame's bunches began. -/
  frameStart : Nat := 0
  /-- Contexts whose state rows wait for initialization (R71). -/
  freshRows : List Nat := []
  /-- Good frames in a row since SHED ended (R20). -/
  goodBase : Nat := 0
  /-- The module left SURVIVAL, and the scrubbers have a full pass to complete from here (R89). -/
  scrubFrom : Option Nat := none
deriving DecidableEq, Repr
/-! ### Field bus (spec 11) -/

/-- What a channel is sending: a buffer, an entry of its mirror queue, a frame of Benfophor's own, or the reference message of
basic cycle `q` whose SOF lay at `sof` (R284). -/
inductive FbSrc where
  | buf (m : Nat)
  | mirror (i : Nat)
  | fw
  | ref (q sof : Nat)
deriving DecidableEq, Repr

/-- One entry of a mirror queue (R281): the channel and buffer it was copied from, its frame, retries and attempts. -/
structure MirEnt where
  origin : Nat
  buf : Nat
  frame : CanFrame
  retry : Nat
  attempts : Nat
deriving DecidableEq, Repr

/-- One message buffer beside its registers, by 64 × channel + buffer. -/
structure FbBuf where
  /-- The frame copied at the start of its first attempt (R277). -/
  copy : Option CanFrame := none
  /-- ABORT was written while the buffer was SENDING (R279). -/
  ending : Bool := false
  /-- The buffer missed its window and waits for an arbitration window (R285). -/
  missed : Bool := false
  /-- The attempt under way is the single one of an exclusive window (R285). -/
  exclusive : Bool := false
  /-- An attempt of the message has failed otherwise than on an acknowledge error alone (R282). -/
  other : Bool := false
  /-- When a read of word 0 locked the buffer (R277). -/
  lockAt : Option Nat := none
  /-- Attempts that count towards RETRY (R279, R285). -/
  tries : Nat := 0
  /-- The SOF of the stored frame (R298). -/
  sof : Nat := 0
  /-- The buffer has been copied to the mirror channel (R281). -/
  copied : Bool := false
deriving DecidableEq, Repr

/-- A CONFIG_REQ that waits for its reply (R290): node, sequence number, index, value, when it was sent in basic
cycles, retries made. -/
structure CfgReq where
  node : Nat
  seq : Nat
  index : Nat
  value : Nat
  sent : Nat
  tries : Nat
deriving DecidableEq, Repr

/-- One channel beside its registers. -/
structure FbCh where
  /-- The frame being transmitted. -/
  cur : Option FbSrc := none
  /-- The mirror queue (R281). -/
  mirror : List MirEnt := []
  /-- Frames of Benfophor that wait: protocol and drive messages. -/
  fw : List CanFrame := []
  /-- The present basic cycle, the count its marks are measured from, whether its reference completed, and the column
  in force (R283, R284). -/
  cycle : Option Nat := none
  /-- The count the cycle's marks are measured from (R284). -/
  base : Nat := 0
  /-- The cycle's reference completed (R284). -/
  refOk : Bool := false
  /-- The matrix column in force (R283). -/
  col : Nat := 0
  /-- The recorded reference SOF of the most recent cycle with each cycle count (R284, R294). -/
  refSofs : Table Nat := []
  /-- Nodes seen in the interval, as bits (R292). -/
  seen : Nat := 0
  /-- The last supervision interval taken. -/
  supAt : Option Nat := none
  /-- The suspend time of an error-passive channel ends (R280). -/
  suspEnd : Nat := 0
  /-- Intervals in a row in which a node was not seen, by node (R292). -/
  unseen : Table Nat := []
  /-- The sequence number of the last LEAK of each node, and the state of each node leak channel by 16 × node + channel
  (R290, R293). -/
  leakSeq : Table Nat := []
  /-- The state of each node leak channel, by 16 × node + channel (R293). -/
  leakState : Table Nat := []
  /-- The configuration requests under way (R290). -/
  reqs : List CfgReq := []
  /-- The sequence number of the next configuration request (R290). -/
  reqSeq : Nat := 0
  /-- Nodes whose schedule entries have been written since they started, and nodes marked unconfigured, as bits (R290).
  -/
  started : Nat := 0
  /-- Nodes marked unconfigured, as bits (R290). -/
  unconfigured : Nat := 0
deriving DecidableEq, Repr

/-- A step of a drive's start-up (R296): an NMT command, an SDO download of some bytes, an SDO upload, a controlword. -/
inductive DriveStep where
  | nmt (command : Nat)
  | write (index sub : Nat) (data : List Byte)
  | read (index sub : Nat)
  | control (word : Nat)
deriving DecidableEq, Repr

/-- An SDO transfer under way (R295): its object, whether it is an upload, the toggle bit of its next segment, and the bytes still
to be sent or those received. -/
structure SdoJob where
  index : Nat
  sub : Nat
  upload : Bool
  toggle : Bool
  data : List Byte
deriving DecidableEq, Repr

/-- A CiA 402 pump drive (R296, R297): where it is, its objects 0x6080 and 0x6075, its last statusword and velocity,
and what RPDO1 last carried and when. -/
structure Drive where
  ch : Nat
  node : Nat
  maxSpeed : Nat
  rated : Nat
  status : Nat
  velocity : Int
  control : Nat
  sentTarget : Nat
  sentAt : Option Nat
  /-- The error reported by EMCY (R297). -/
  emcy : Bool
  /-- The controlword that RPDO1 last carried (R296). -/
  sentControl : Nat := 0
  /-- The steps of the start-up that wait (R296). -/
  steps : List DriveStep := []
  /-- The SDO transfer under way (R295). -/
  sdo : Option SdoJob := none
  /-- The state that the last heartbeat gave, and when it came (R295). -/
  nmt : Nat := 0
  /-- When the last heartbeat came (R295). -/
  heartAt : Option Nat := none
deriving DecidableEq, Repr

/-- The field bus. -/
structure Fb where
  /-- The channels. -/
  ch : Table FbCh := []
  /-- The message buffers, by 64 × channel + buffer. -/
  buf : Table FbBuf := []
  /-- The CANopen drives (R296). -/
  drives : Table Drive := []
  /-- The whole timestamp of each node value entry (R294). -/
  nvAt : Table Nat := []
deriving DecidableEq, Repr
/-! ### Twin unit (spec 13) -/

/-- A handover on request (R336): asked for, PREPARE sent, READY received, the line released. -/
inductive Hand where
  | idle | asked | prepared | ready | released
deriving DecidableEq, Repr

/-- The twin unit beside its registers. -/
structure Tw where
  /-- The next link sequence number, the frames not yet acknowledged, oldest first, and when the last ACK came or the
  oldest was sent (R322). -/
  txSeq : Nat := 0
  /-- The frames not yet acknowledged, oldest first (R322). -/
  replay : List LinkFrame := []
  /-- When the last ACK came or the oldest unacknowledged frame was sent (R322). -/
  ackAt : Option Nat := none
  /-- The sequence number expected next, and an ACK owed. -/
  rxSeq : Nat := 0
  /-- An ACK is owed (R322). -/
  ackDue : Bool := false
  /-- The last heartbeat received, heartbeats in sequence since a loss, the last one sent (R324, R325). -/
  hbAt : Option Nat := none
  /-- Heartbeats in sequence since a loss (R325). -/
  hbRun : Nat := 0
  /-- When the last heartbeat was sent (R324). -/
  hbSent : Option Nat := none
  /-- The partner as its newest heartbeat gives it. -/
  pSerial : Nat := 0
  /-- The firmware version the partner reports (R324). -/
  pVersion : Nat := 0
  /-- The image digest the partner reports (R324). -/
  pDigest : Nat := 0
  /-- The configuration generation the partner reports (R324). -/
  pGen : Nat := 0
  /-- The partner resynchronizes (R324). -/
  pResync : Bool := false
  /-- The partner's release guard runs (R324). -/
  pGuard : Bool := false
  /-- The end of the release guard (R320). -/
  guardEnd : Option Nat := none
  /-- The strap SLOT_B is grounded (R316). -/
  slotPin : Bool := false
  /-- Records forwarded in the frame per type 0x02 to 0x06, and the CRC register over their payloads (R323 FRAME_END).
  -/
  counts : Table Nat := []
  /-- The CRC register over the payloads forwarded in the frame (R323). -/
  crc : Nat := 0xFFFFFFFF
  /-- The same as received since the last FRAME_END. -/
  rxCounts : Table Nat := []
  /-- The CRC register over the payloads received since the last FRAME_END (R323). -/
  rxCrc : Nat := 0xFFFFFFFF
  /-- Field registers as the active module forwards them (R327). -/
  fin : Table Word := []
  /-- The STANDBY runs the frame that LE_FRAME_NUM names (R327). -/
  running : Bool := false
  /-- The newest frame whose FRAME_END holds. -/
  endSeen : Option Nat := none
  /-- Forwarded commands that wait for their frame: frame, tick, payload (R327). -/
  commands : List (Nat × Nat × List Byte) := []
  /-- The newest OUTPUTS frame: its frame, and the items by key (R328). -/
  outFrame : Option Nat := none
  /-- The items of the newest OUTPUTS frame by key (R328). -/
  outputs : Table Nat := []
  /-- Consecutive frames each item has been outside its band (R329), by key. -/
  outside : Table Nat := []
  /-- Consecutive frames with a discrete item that differs. -/
  discrete : Nat := 0
  /-- The handover under way (R335, R336). -/
  hand : Hand := .idle
  /-- The tag of the HANDOVER_REQUEST that waits for its reply. -/
  handTag : Option Nat := none
  /-- The copy of a resynchronization began (R337). -/
  resyncAt : Option Nat := none
  /-- A resynchronization is due at the next frame boundary. -/
  resyncDue : Bool := false
  /-- The last frame of the grace in which frames do not count for CTX_SILENT (R334). -/
  graceEnd : Nat := 0
  /-- When the partner last released, as its heartbeat gave it, or the line was first seen free. -/
  gapFrom : Option Nat := none
  /-- The newest frame completed. -/
  lastDone : Nat := 0
  /-- The former owner was PREDICTIVE: SET_MODE PREDICTIVE once TR_WARM is set (R332). -/
  warmResume : Bool := false
  /-- Payload bytes forwarded in the present second, and when it began. -/
  fwdBytes : Nat := 0
  /-- When the present second of forwarded bytes began (R340). -/
  fwdFrom : Nat := 0
  /-- The supervisor last refreshed the watchdog of the field die (R330). -/
  watchdogAt : Nat := 0
  /-- When the module last claimed the line (R442). -/
  claimAt : Nat := 0
  /-- The reply to the HANDOVER_REQUEST that waits is lost with the interface (R360). -/
  handLost : Bool := false
  /-- The handover was asked for at the console, which prints its reply (R340). -/
  handConsole : Bool := false
  /-- CTX_SILENT counting starts from zero at the first frame in REACTIVE: the module has claimed under R333 (R334). -/
  silentRestart : Bool := false
  /-- The copier's lines as last sent, while a copy runs (R337). -/
  copyLines : List CopyLine := []
  /-- OUT_EN_N is asserted: the module drives the field (R317, R331, R332). -/
  outEn : Bool := false
  /-- The link counts as lost (R325). -/
  lost : Bool := false
  /-- The next frame's sequence number is taken as it comes: the link has just trained. -/
  rxAny : Bool := true
  /-- The last control frame sent: its type, ACK or NAK, and its number (R322). -/
  lastCtl : Option (Nat × Nat) := none
  /-- The last heartbeat of a module in slot A (R442). -/
  hbSlotA : Option Nat := none
  /-- The registers as the copier has sent them, while a copy runs (R337). -/
  copy : Table Word := []
deriving DecidableEq, Repr
/-! ### DDR4 controller and cellar (spec 14) -/

/-- What one second holds of a channel (R353): the extreme codes of every accepted record, and the sum and count of the
tier 0 samples whose presence bit is 1. -/
structure CaAcc where
  lo : Int
  hi : Int
  any : Bool
  sum : Int
  count : Nat
deriving DecidableEq, Repr

/-- One block period (R348, R350): its number, the count and frame number of its first frame, and the samples of each
channel in order: code and presence. Channel 8c + ch of a context, 32,768 + n of the plant. -/
structure CaPeriod where
  num : Nat
  time : Nat
  frame : Nat
  samples : Table (List (Int × Bool))
  /-- Contexts with dropped records (R354). -/
  decim : List Nat
  /-- SURVIVAL, or frames before the module ran, interrupted the period. -/
  broken : Bool
deriving DecidableEq, Repr

/-- The controller and the cellar engine beside their registers. -/
structure Ca where
  /-- The period under way, and the periods that have ended and are not yet written, oldest first. -/
  cur : Option CaPeriod := none
  /-- The periods that have ended and are not yet written, oldest first (R351). -/
  ended : List CaPeriod := []
  /-- The accumulators of the seconds not yet racked, by second and channel (R353). -/
  accs : Table (Table CaAcc) := []
  /-- The next second to rack (R353). -/
  second : Nat := 0
  /-- The archive codes of the plant vector of the frame under way (R349, R350). -/
  plantHeld : List Int := []
  /-- The last sample of each channel (R350). -/
  last : Table Int := []
  /-- When doorbell 451 was last posted (R354). -/
  satAt : Option Nat := none
  /-- Poisoned bursts, by DDR offset divided by 64 (R344). -/
  poison : List Nat := []
  /-- The times of each channel's corrected errors (R347). -/
  ceTimes : Table (List Nat) := []
  /-- When the patrol scrub's pass began (R346). -/
  scrubAt : Option Nat := none
  /-- The DDR4 is in self-refresh (R346). -/
  selfRefresh : Bool := false
  /-- The next log record to copy to the event ring (R355). -/
  eventNext : Nat := 1
deriving DecidableEq, Repr
/-! ### The whole state -/

/-- Why the machine stops with a fault. -/
inductive Fault where
  /-- Raised by no command: every condition the spec names has an effect. Kept so that the type has an element. Safe. -/
  | none
deriving DecidableEq, Repr

/-- Why a command is refused by the model. -/
inductive Refusal where
  /-- Raised by exec for a command that has no meaning in the model yet. Safe: no claim holds of such a command. -/
  | notModelled (mnemonic : String)
deriving DecidableEq, Repr

/-- The state of the module. -/
structure State where
  /-- The commands that wait, first in, first out (the block's queue). -/
  pending : List Instr := []
  /-- The timebase, in 10 ns counts (R417). -/
  time : Nat := 0
  /-- How many free values have been drawn: the model's own field, not the spec's. -/
  free : Nat := 0
  /-- The register file: every register of the hub address map, by address, as it differs from its reset value. -/
  regs : Table Word := []
  /-- The DDR4 bytes, by DDR offset (R342), as they differ from 0. -/
  mem : List Host.Cell := []
  /-- The module state machine (spec 01). -/
  sys : Sys := {}
  /-- The doorbell interrupt controller (spec 12). -/
  dic : Dic := {}
  /-- The management die (spec 16). -/
  mg : Mg := {}
  /-- The mailbox (spec 15). -/
  mb : Mbox := {}
  /-- The power-cap broker (spec 06). -/
  pb : Broker := {}
  /-- The vat queues (spec 07). -/
  vq : Vat := {}
  /-- The loop engine (spec 02). -/
  le : Loops := {}
  /-- The solenoid drivers (spec 10). -/
  sv : Sv := {}
  /-- The hydraulics (spec 08). -/
  pf : Pf := {}
  /-- The sensor front end (spec 09). -/
  sn : Sn := {}
  /-- The Trellis (spec 03 to 05). -/
  tr : Tr := {}
  /-- The field bus (spec 11). -/
  fb : Fb := {}
  /-- The twin unit (spec 13). -/
  tw : Tw := {}
  /-- The cellar (spec 14). -/
  ca : Ca := {}
deriving DecidableEq, Repr

/-- The state right after a power-on reset (R421, R422, R424): BOOT, no role yet, every register at its reset value,
RESET_CAUSE 1 in CK_STATUS [31:24]. DESIGN CHOICE: notes/assumptions/2.md. DESIGN CHOICE: notes/assumptions/5.md. -/
def State.reset : State := { regs := [(0x4F000004, 0x01000000#32)] }

end Sys2Proof.Machine
end

