-- ==== Sys2Proof/Machine/Ops.lean ====
section
/-! DEFINITION. The named operations every block shares: registers, memory, free values, the log, doorbells, replies
and journals. -/

namespace Sys2Proof.Machine

/-! ### Registers (R5 to R8) -/

/-- The word of the register at a hub address. DESIGN CHOICE: notes/assumptions/5.md. -/
def regWord (regs : Table Word) (a : Nat) : Word := (tfind regs a).getD (resetWord a)

/-- The register file with a word stored: a word equal to its reset value is unlisted. DESIGN CHOICE:
notes/assumptions/5.md. -/
def regStore (regs : Table Word) (a : Nat) (w : Word) : Table Word := tset (resetWord a) regs a w

/-- The register at a hub address, as a number. -/
def State.word (s : State) (a : Nat) : Nat := (regWord s.regs a).toNat

/-- A register field, as a number. -/
def State.rd (s : State) (f : RF) : Nat := bitsOf (s.word f.addr) f.hi f.lo

/-- A register field written by the hardware. -/
def State.wr (s : State) (f : RF) (v : Nat) : State :=
  { s with regs := regStore s.regs f.addr (BitVec.ofNat 32 (withBits (s.word f.addr) f.hi f.lo v)) }

/-- A one-bit field. -/
def State.bit (s : State) (f : RF) : Bool := s.rd f != 0

/-- A one-bit field written by the hardware. -/
def State.putBit (s : State) (f : RF) (b : Bool) : State := s.wr f (b2n b)

/-- A binary32 register. -/
def State.rdf (s : State) (f : RF) : F32 := BitVec.ofNat 32 (s.rd f)

/-- A binary32 register written. -/
def State.wrf (s : State) (f : RF) (x : F32) : State := s.wr f x.toNat

/-- A count added to a saturating counter field. -/
def State.addSat (s : State) (f : RF) (n : Nat) : State :=
  s.wr f (min (s.rd f + n) (2 ^ (f.hi + 1 - f.lo) - 1))

/-- One added to a saturating counter field. -/
def State.incSat (s : State) (f : RF) : State := s.addSat f 1

/-- A 64-bit register pair: the low word's field and the word above it. -/
def State.rd64 (s : State) (f : RF) : Nat := s.word f.addr + 2 ^ 32 * s.word (f.addr + 4)

/-- A 64-bit register pair written. -/
def State.wr64 (s : State) (f : RF) (v : Nat) : State :=
  (s.wr ⟨f.addr, 31, 0⟩ v).wr ⟨f.addr + 4, 31, 0⟩ (v / 2 ^ 32)

/-- The block registers of every window back at their reset values (R5). -/
def State.clearRegs (s : State) : State := { s with regs := [] }

/-! ### The active parameters of a loop slot (R65) -/

/-- An active parameter field of a slot: the copy that the engine evaluates with. -/
def State.act (s : State) (f : RF) : Nat := bitsOf ((tfind s.le.active f.addr).getD (resetWord f.addr)).toNat f.hi f.lo

/-- A one-bit active parameter. -/
def State.actBit (s : State) (f : RF) : Bool := s.act f != 0

/-- A binary32 active parameter. -/
def State.actF (s : State) (f : RF) : F32 := BitVec.ofNat 32 (s.act f)

/-! ### One block's part of the state changed -/

/-- The module state machine changed. -/
def State.onSys (s : State) (f : Sys → Sys) : State := { s with sys := f s.sys }

/-- The doorbell controller changed. -/
def State.onDic (s : State) (f : Dic → Dic) : State := { s with dic := f s.dic }

/-- The management die changed. -/
def State.onMg (s : State) (f : Mg → Mg) : State := { s with mg := f s.mg }

/-- The mailbox changed. -/
def State.onMb (s : State) (f : Mbox → Mbox) : State := { s with mb := f s.mb }

/-- The broker changed. -/
def State.onPb (s : State) (f : Broker → Broker) : State := { s with pb := f s.pb }

/-- The vat queues changed. -/
def State.onVq (s : State) (f : Vat → Vat) : State := { s with vq := f s.vq }

/-- The loop engine changed. -/
def State.onLe (s : State) (f : Loops → Loops) : State := { s with le := f s.le }

/-- The solenoid drivers changed. -/
def State.onSv (s : State) (f : Sv → Sv) : State := { s with sv := f s.sv }

/-- The hydraulic block changed. -/
def State.onPf (s : State) (f : Pf → Pf) : State := { s with pf := f s.pf }

/-- The sensor front end changed. -/
def State.onSn (s : State) (f : Sn → Sn) : State := { s with sn := f s.sn }

/-- The Trellis changed. -/
def State.onTr (s : State) (f : Tr → Tr) : State := { s with tr := f s.tr }

/-- The field bus changed. -/
def State.onFb (s : State) (f : Fb → Fb) : State := { s with fb := f s.fb }

/-- The twin unit changed. -/
def State.onTw (s : State) (f : Tw → Tw) : State := { s with tw := f s.tw }

/-- The cellar changed. -/
def State.onCa (s : State) (f : Ca → Ca) : State := { s with ca := f s.ca }

/-! ### Free values -/

/-- The next free value. DESIGN CHOICE: notes/assumptions/6.md. -/
def State.freeNat (s : State) : Nat := Config.freeValue s.free

/-- The next free value as a 32-bit word. -/
def State.freeWord (s : State) : Word := BitVec.ofNat 32 s.freeNat

/-- The state after a free value has been drawn. DESIGN CHOICE: notes/assumptions/6.md. -/
def State.drew (s : State) : State := { s with free := s.free + 1 }

/-! ### DDR4 bytes (R342) -/

/-- The byte at a DDR offset; unlisted bytes read 0. DESIGN CHOICE: notes/assumptions/4.md. -/
def State.byte (s : State) (a : Nat) : Byte := tget 0 s.mem a

/-- A byte stored at a DDR offset. DESIGN CHOICE: notes/assumptions/4.md. -/
def State.setByte (s : State) (a : Nat) (b : Byte) : State := { s with mem := tset 0 s.mem a b }

/-- `n` bytes from a DDR offset. -/
def State.bytesAt (s : State) (a : Nat) : Nat → List Byte
  | 0 => []
  | n + 1 => s.byte a :: s.bytesAt (a + 1) n

/-- Bytes stored from a DDR offset on. -/
def State.setBytes (s : State) (a : Nat) : List Byte → State
  | [] => s
  | b :: bs => (s.setByte a b).setBytes (a + 1) bs

/-- A poisoned burst lies in a range of DDR4 (R344). -/
def State.poisonIn (s : State) (a n : Nat) : Bool := s.ca.poison.any fun b => decide (a / 64 ≤ b) && decide (b * 64 < a + n)

/-- The bursts of a range that is written are whole again (R344). -/
def State.unpoison (s : State) (a n : Nat) : State :=
  s.onCa fun y => { y with poison := y.poison.filter fun b => !(decide (a / 64 ≤ b) && decide (b * 64 < a + n)) }

/-- Bytes stored in DDR4 by a burst write (R344). -/
def State.ddrWrite (s : State) (a : Nat) (bs : List Byte) : State := (s.setBytes a bs).unpoison a bs.length

/-! ### Module state, roles, time -/

/-- The state codes of R19. -/
def ModState.code : ModState → Nat
  | .off => 0 | .boot => 1 | .table => 2 | .reactive => 3 | .predictive => 4 | .hold => 5 | .isolate => 6 | .shed => 7
  | .survival => 8 | .service => 9 | .failed => 10

/-- The running states of R19. -/
def ModState.running : ModState → Bool
  | .table | .reactive | .predictive | .hold => true
  | .off | .boot | .isolate | .shed | .survival | .service | .failed => false

/-- A state from TABLE on (R20). -/
def ModState.fromTable : ModState → Bool
  | .off | .boot => false
  | .table | .reactive | .predictive | .hold | .isolate | .shed | .survival | .service | .failed => true

/-- The role codes of R25. -/
def Role.code : Role → Nat
  | .undecided => 0 | .active => 1 | .standby => 2 | .isolatedStandby => 3 | .faulted => 4

/-- The module is ACTIVE. -/
def State.isActive (s : State) : Bool := s.sys.role == .active

/-- The present frame number (R419). -/
def State.frame (s : State) : Nat := s.rd64 LE_FRAME_NUM_LO

/-- The frame length in timebase counts (R31: 50 µs ticks). -/
def State.frameCounts (s : State) : Nat := s.rd LE_FRAME_FRAME_TICKS * 5000

/-- The number of the last frame boundary at or before a timebase count (R419). DEDUCED: notes/assumptions/20.md. -/
def State.frameAt (s : State) (t : Nat) : Nat :=
  if s.frameCounts = 0 then 0 else (t + 2 ^ 64 - s.rd64 CK_FRAME_ORIGIN_LO) % 2 ^ 64 / s.frameCounts

/-- The present count is a frame boundary: frames run, and it is a whole multiple of the frame length (R419, R424).
DEDUCED: notes/assumptions/20.md. -/
def State.onBoundary (s : State) : Bool :=
  s.sys.framesOn && s.frameCounts != 0 && s.time % s.frameCounts == 0

/-- The module runs the present frame: ACTIVE, not yet decided, or on its own inputs; a STANDBY in step while frames
come (R327). A FAULTED module runs none. DEDUCED: notes/assumptions/21.md. -/
def State.runsFrame (s : State) : Bool :=
  match s.sys.role with
  | .active | .undecided | .isolatedStandby => true
  | .standby => s.bit TW_STATUS_IN_STEP && s.tw.running
  | .faulted => false

/-- How many counts late the module runs its frames: a STANDBY one frame (R327). DEDUCED: notes/assumptions/21.md. -/
def State.lag (s : State) : Nat := if s.sys.role = .standby then s.frameCounts else 0

/-- Timebase counts of a number of microseconds. -/
def usec (n : Nat) : Nat := n * 100

/-- Timebase counts of a number of milliseconds. -/
def msec (n : Nat) : Nat := n * 100000

/-- Timebase counts of a number of seconds. -/
def secs (n : Nat) : Nat := n * 100000000

/-- A stamp lies at least `d` counts back. -/
def State.since (s : State) (t : Option Nat) (d : Nat) : Bool :=
  match t with
  | some t0 => decide (t0 + d ≤ s.time)
  | none => false

/-- A field that holds no register: the applied configuration value, with its default (R378). DEDUCED:
notes/assumptions/38.md. -/
def State.cfg (s : State) (ident index dflt : Nat) : Nat := tget dflt s.mb.cfg (ident * 65536 + index)

/-! ### The twin link (R322, R323, R326) -/

/-- The tick of the frame that runs now (R31). -/
def State.tickNow (s : State) : Nat := (s.time - s.sys.lastFrame.getD s.time) / 5000

/-- The 16-byte header of a link frame (R322). -/
def linkHeader (f : LinkFrame) : List Byte :=
  leBytes 1 f.typ ++ leBytes 1 f.sub ++ leBytes 2 f.payload.length ++ leBytes 4 f.seq ++ leBytes 8 f.frame

/-- The CRC-32C of a frame, over its header and its payload (R322). DESIGN CHOICE: notes/assumptions/107.md. -/
def linkCrc (f : LinkFrame) : Nat := crc32c (linkHeader f ++ f.payload)

/-- A frame as its lane bytes: header, payload padded to a multiple of 8 bytes, trailer (R322). -/
def linkBytes (f : LinkFrame) : List Byte :=
  linkHeader f ++ f.payload ++ zeros ((8 - f.payload.length % 8) % 8) ++ leBytes 4 f.crc ++ zeros 4

/-- The bytes that a frame fills of the replay buffer (R322). -/
def linkSize (f : LinkFrame) : Nat := 24 + (f.payload.length + 7) / 8 * 8

/-- The replay buffer within its 1 MiB: the oldest frames leave it first (R322). DESIGN CHOICE: notes/assumptions/107.md.
-/
def replayFit (total : Nat) : List LinkFrame → List LinkFrame
  | [] => []
  | f :: l => if 1048576 < total then replayFit (total - linkSize f) l else f :: l

/-- A frame queued on the twin link, with the copier's lines it carries: its sequence number, its CRC, and a place in the
replay buffer until it is acknowledged. DESIGN CHOICE: notes/assumptions/24.md. -/
def State.linkQueue (s : State) (typ sub frame : Nat) (payload : List Byte) (lines : List CopyLine) : State :=
  let f : LinkFrame := { typ := typ, sub := sub, seq := s.tw.txSeq, frame := frame, payload := payload, crc := 0, lines := lines }
  let l := s.tw.replay ++ [{ f with crc := linkCrc f }]
  s.onTw fun y => { y with
    txSeq := (y.txSeq + 1) % 2 ^ 32, ackAt := some (if y.replay = [] then s.time else y.ackAt.getD s.time),
    replay := replayFit ((l.map linkSize).foldl (· + ·) 0) l }

/-- A frame of bytes queued on the twin link. -/
def State.linkSend (s : State) (typ sub frame : Nat) (payload : List Byte) : State := s.linkQueue typ sub frame payload []

/-- A payload in parts of at most 4,096 bytes (R322); the first argument bounds the number of parts. -/
def linkParts : Nat → List Byte → List (List Byte)
  | 0, p => [p]
  | n + 1, p => if p.length ≤ 4096 then [p] else p.take 4096 :: linkParts n (p.drop 4096)

/-- The link carries forwarded inputs: enabled, heartbeats arriving, the module ACTIVE, no version skew (R326, R338). -/
def State.forwards (s : State) : Bool :=
  s.isActive && s.bit TW_CTRL_ENABLE && s.bit TW_STATUS_HB_OK && !s.bit TW_STATUS_VERSION_SKEW

/-- One frame of an input forwarded to the partner, counted for FRAME_END (R323, R326). -/
def State.forwardPart (s : State) (typ sub : Nat) (payload : List Byte) : State :=
  (s.linkSend typ sub s.frame payload).onTw fun y =>
    let n := y.fwdBytes + payload.length
    if 2 ≤ typ ∧ typ ≤ 6 then
      { y with counts := tset 0 y.counts typ (tget 0 y.counts typ + 1), crc := crcFeed payload y.crc, fwdBytes := n }
    else { y with fwdBytes := n }

/-- An input forwarded to the partner: the tick leads the payload of the types 0x04 and 0x06 (R327); a payload above 4,096
bytes goes on in frames whose subtype has bit 7 set (R322, R323, R326). DESIGN CHOICE: notes/assumptions/22.md. -/
def State.forward (s : State) (typ sub : Nat) (payload : List Byte) : State :=
  if s.forwards then
    let p := if typ = 4 ∨ typ = 6 then leBytes 4 s.tickNow ++ payload else payload
    match linkParts (p.length / 4096) p with
    | [] => s
    | q :: l => l.foldl (fun s q => s.forwardPart typ (128 + sub) q) (s.forwardPart typ sub q)
  else s

/-- Register copies as the link carries them: address and word each. -/
def State.regBytes (s : State) (as : List Nat) : List Byte := as.flatMap fun a => leBytes 4 a ++ leBytes 4 (s.word a)

/-! ### The event log (R391, R392) -/

/-- Append one record to the management die's buffer. DEDUCED: notes/assumptions/35.md. DEDUCED:
notes/assumptions/85.md. -/
def State.logPut (s : State) (sub : Nat) (ev : Ev) (sev : Nat) (detail : List Nat) : State :=
  let r : LogRec := { seq := s.mg.nextSeq, time := s.time, frame := s.frame, subsystem := sub, event := ev,
                      severity := sev, mode := s.sys.mode, role := s.sys.role, fromPartner := false, journal := 0,
                      detail := detail, boot := s.mg.bootCount }
  ((s.onMg fun y => { y with buf := s.mg.buf ++ [r], nextSeq := s.mg.nextSeq + 1 })).wr64 MG_LOGSEQ_LO s.mg.nextSeq

/-- Write a log record: severity-0 records are dropped once only the 1,024 reserved buffer entries are left, and the
next record written is then a LOG_DROPPED record with the count (R392). -/
def State.log (s : State) (sub : Nat) (ev : Ev) (sev : Nat) (detail : List Nat) : State :=
  if sev = 0 ∧ 16384 - 1024 ≤ s.mg.buf.length then (s.onMg fun y => { y with dropped := s.mg.dropped + 1 })
  else if s.mg.dropped = 0 then s.logPut sub ev sev detail
  else
    let s := s.logPut 15 .logDropped 1 [s.mg.dropped]
    ((s.onMg fun y => { y with dropped := 0 })).logPut sub ev sev detail

/-! ### Doorbells (R301, R311) and the bobbin triggers they give (R61) -/

/-- The coalescing group of a source, where its membership is in force (R311); ingest notices go through the group that
VQ_NOTICE names (R200). DEDUCED: notes/assumptions/90.md. -/
def State.groupOf (s : State) (src : Nat) : Option Nat :=
  let base := s.rd VQ_NOTICE_BASE
  if s.bit (DIC_SRCCFG_GROUP_EN src) then
    let g := if base ≤ src ∧ src < base + 64 then s.rd VQ_NOTICE_GROUP else s.rd (DIC_SRCCFG_GROUP src)
    if s.bit (DIC_GCFG_EN g) then some g else none
  else none

/-- The events a group needs to fire (R315: COUNT holds the number minus 1). -/
def State.groupCount (s : State) (g : Nat) : Nat := s.rd (DIC_GCFG_COUNT g) + 1

/-- A group fires: FIRED set, count and timer back to 0 (R311). DEDUCED: notes/assumptions/90.md. -/
def State.groupFire (s : State) (g : Nat) : State :=
  let s := ((s.putBit (DIC_GSTAT_FIRED g) true).wr (DIC_GSTAT_CNT g) 0).wr (DIC_GSTAT_ELAPSED g) 0
  s.onDic fun y => { y with grpStart := terase s.dic.grpStart g }

/-- One member doorbell counted in its group (R311). DEDUCED: notes/assumptions/90.md. -/
def State.groupEvent (s : State) (g : Nat) : State :=
  let n := s.rd (DIC_GSTAT_CNT g) + 1
  let s := s.wr (DIC_GSTAT_CNT g) n
  let s := if n = 1 then (s.onDic fun y => { y with grpStart := tinsert s.dic.grpStart g s.time }) else s
  if s.groupCount g ≤ n then s.groupFire g else s

/-- The pending bit of a source set, and its group's count (R301, R311). -/
def State.postRaw (s : State) (src : Nat) : State :=
  let s := s.wr ⟨(DIC_PEND (src / 32)).addr, src % 32, src % 32⟩ 1
  match s.groupOf src with
  | some g => s.groupEvent g
  | none => s

/-- A bobbin's trigger (R61, R62): only the first after arming counts; BOB_TRIGPTR takes the entry's index, and in
modes 0 and 1 the rewind mark is set there. DEDUCED: notes/assumptions/70.md. -/
def State.bobTrigger (s : State) (b idx : Nat) : State :=
  if s.bit (BOB_STATUS_ARMED b) ∧ ¬ s.bit (BOB_STATUS_TRIGGERED b) then
    let s := s.putBit (BOB_STATUS_TRIGGERED b) true
    let s := (s.putBit (BOB_TRIGPTR_TRIGGERED b) true).wr (BOB_TRIGPTR_IDX b) idx
    let s := s.onLe fun y => { y with bob := tset {} y.bob b { tget {} y.bob b with postLeft := s.rd (BOB_POST b) } }
    let s := if s.rd (BOB_CTRL_MODE b) ≤ 1 then
        ((s.putBit (BOB_MARKPTR_VALID b) true).wr (BOB_MARKPTR_IDX b) idx).onLe fun y =>
          { y with bob := tset {} y.bob b { tget {} y.bob b with sinceMark := if idx = s.rd (BOB_WPTR_IDX b) then 0 else 1 } }
      else s
    s.postRaw (72 + b)
  else s

/-- The armed bobbins whose trigger condition is the posting of a source (R61, condition 6). -/
def State.bobWaiting (s : State) (src : Nat) : List Nat :=
  (upto 8).filter fun b =>
    s.bit (BOB_STATUS_ARMED b) && !s.bit (BOB_STATUS_TRIGGERED b) && s.rd (BOB_TRIG_COND b) == 6 &&
      s.rd (BOB_TRIG_DB_SRC b) == src

/-- The doorbell's bobbin triggers; a bobbin's own trigger doorbell may trigger another (at most 8 in all). -/
def State.bobDoorbell : Nat → State → Nat → State
  | 0, s, _ => s
  | n + 1, s, src =>
    (s.bobWaiting src).foldl (fun s b => (s.bobTrigger b (s.rd (BOB_WPTR_IDX b))).bobDoorbell n (72 + b)) s

/-- A block posts a doorbell (R301). DEDUCED: notes/assumptions/90.md. -/
def State.post (s : State) (src : Nat) : State := (s.postRaw src).bobDoorbell 8 src

/-- A log record and a doorbell together; the status an event describes is readable first (R302). -/
def State.note (s : State) (sub : Nat) (ev : Ev) (sev : Nat) (detail : List Nat) (src : Nat) : State :=
  (s.log sub ev sev detail).post src

/-- An error that AER reports: counted, doorbell 482, a log record (R365). DEDUCED: notes/assumptions/59.md. -/
def State.aerNote (s : State) (uncorrectable : Bool) : State :=
  (s.onMb fun y => { y with
    aerCorr := y.aerCorr + (1 - b2n uncorrectable), aerUncorr := y.aerUncorr + b2n uncorrectable }).note 14 .aer 1
      [b2n uncorrectable] 482

/-! ### Replies and journals (R368, R371, R386) -/

/-- The KS codes of R368. -/
def Ks.code : Ks → Nat
  | .ok => 0 | .clamped => 1 | .stateConflict => 2 | .range => 3 | .notFit => 4 | .busy => 5 | .authFail => 6
  | .part => 7 | .unknownContext => 8 | .notOwner => 9 | .timeout => 10 | .aborted => 11 | .internal => 12

/-- The 16-byte Karrath status header (R368). -/
def State.ksHeader (s : State) (ks : Ks) (tag clamps journal : Nat) : List Byte :=
  leBytes 2 ks.code ++ leBytes 1 s.sys.mode.code ++ leBytes 1 s.sys.role.code ++ leBytes 4 tag ++ leBytes 2 clamps ++
    leBytes 2 journal ++ zeros 4

/-- The mailbox replies still in progress are lost; the work behind them goes on, and its tags stay known (R360, R458). DEDUCED:
notes/assumptions/59.md. -/
def State.repliesLost (s : State) : State :=
  (s.onTw fun y => { y with handLost := y.handLost || y.handTag.isSome }).onMb fun y => { y with held := [] }

/-- A reply given; the last 8 are kept. A module without supply answers nothing: OFF is never reported (R19). -/
def State.reply (s : State) (r : Reply) : State :=
  if s.sys.mode = .off then s else s.onMb fun y => { y with replies := (r :: s.mb.replies).take 8 }

/-- An MSI-X vector sent (R361); the last 64 are kept. -/
def State.msixSend (s : State) (v : Nat) : State := s.onMb fun y => { y with msix := (v :: y.msix).take 64 }

/-- The host-silence timer restarted; the ACTIVE module forwards each restart (R372). -/
def State.silenceRestart (s : State) : State :=
  (s.onSys fun y => { y with silenceStart := s.time, hostSilent := false }).forward 5 2
    (leBytes 8 s.frame ++ leBytes 4 s.tickNow)

/-- The latest reply. DESIGN CHOICE: notes/assumptions/92.md. -/
def State.lastReply (s : State) : Option Reply := s.mb.replies.head?

/-- The outcome codes of R386. -/
def JOut.code : JOut → Nat
  | .running => 0 | .done => 1 | .failed => 2 | .aborted => 3

/-- A journal as the link carries it (R323 JOURNAL). -/
def Journal.link (j : Journal) : List Byte :=
  leBytes 2 j.idx ++ leBytes 2 j.opcode ++ leBytes 4 j.tag ++ leBytes 2 j.total ++ leBytes 2 j.done ++ leBytes 2 j.step ++
    leBytes 2 j.outcome.code ++ leBytes 4 j.detail ++ leBytes 8 j.started ++ leBytes 8 j.changed

/-- A journal opened (R371): the last 256 are kept; indices run from 1 to 65,535. -/
def State.openJournal (s : State) (opcode tag total : Nat) : State :=
  let j : Journal := { idx := s.mb.nextJournal, opcode := opcode, tag := tag, total := total, done := 0, step := 1,
                       outcome := .running, detail := 0, started := s.time, changed := s.time, frame := s.frame }
  (s.onMb fun y => { y with journals := (j :: s.mb.journals).take 256,
                             nextJournal := if s.mb.nextJournal = 65535 then 1 else s.mb.nextJournal + 1 }).forward 9 0 j.link

/-- A journal changed, with the time and frame of the change. -/
def State.onJournal (s : State) (idx : Nat) (f : Journal → Journal) : State :=
  let s := s.onMb fun y => { y with journals := y.journals.map fun j =>
    if j.idx = idx then { f j with changed := s.time, frame := s.frame } else j }
  match s.mb.journals.find? fun j => j.idx == idx with
  | some j => s.forward 9 0 j.link
  | none => s

/-- Steps 1 to `n` of a journal done, the next in progress; the last step ends it DONE. -/
def State.journalStep (s : State) (idx n : Nat) : State :=
  s.onJournal idx fun j =>
    if j.outcome = .running then
      if j.total ≤ n then { j with done := j.total, step := 0, outcome := .done } else { j with done := n, step := n + 1 }
    else j

/-- A journal ended with an outcome and a detail. -/
def State.journalEnd (s : State) (idx : Nat) (o : JOut) (detail : Nat) : State :=
  s.onJournal idx fun j => if j.outcome = .running then { j with step := 0, outcome := o, detail := detail } else j

/-- A running journal of one of the opcodes, if there is one. -/
def State.journalRunning (s : State) (ops : List Nat) : Bool :=
  s.mb.journals.any fun j => j.outcome == .running && ops.contains j.opcode

/-- The command took no effect: the state goes on unchanged. -/
def State.same (s : State) : Host.Outcome State Fault Refusal := .next s

end Sys2Proof.Machine
end

