-- ==== Sys2Proof/Machine/Dic.lean ====
section
/-! DEFINITION. The doorbell interrupt controller (spec 12): posting, coalescing groups, delivery decisions,
moderation, sleep and end of interrupt. -/

namespace Sys2Proof.Machine

/-- The target a target code names: code 1 is applied as 0, codes 9 to 15 mean none (R304). DEDUCED:
notes/assumptions/18.md. -/
def targetOf (code : Nat) : Option Nat :=
  if code = 1 then some 0 else if code ≤ 8 then some code else none

/-- The condition of a level source is asserted now (R303, R308). A mailbox command waits only where its reply does: the
others are run as they arrive. DEDUCED: notes/assumptions/106.md. -/
def State.levelAsserted (s : State) (src : Nat) : Bool :=
  match src with
  | 1 => !s.bit CK_STATUS_PTM_LOCKED
  | 33 => decide (2 ≤ s.rd TW_STATUS_LINE)
  | 197 => s.rd PF_SLOWFALL != 0 || s.bit PF_HYD_SLOW_ROW
  | 199 => s.bit SN_CPSTAT_CP_LOSS || s.bit SN_CPSTAT_CP_LOW || s.bit SN_CPSTAT_CONDENSATION
  | 480 => (s.tw.handTag.isSome && !s.tw.handLost) || !s.mb.held.isEmpty
  | 512 => s.bit MG_STATUS_RX_NOT_EMPTY
  | _ => false

/-- The unmasked pending sources (R305). -/
def State.unmasked (s : State) : List Nat :=
  (upto 64).flatMap fun w =>
    let p := s.rd (DIC_PEND w)
    if p = 0 then []
    else
      let m := s.rd (DIC_MASK w)
      (upto 32).filterMap fun i => if bitOf p i && !bitOf m i then some (32 * w + i) else none

/-- The level of a source (R304). -/
def State.level (s : State) (src : Nat) : Nat := s.rd (DIC_SRCCFG_PRI src)

/-- Where a source is routed, and its level: a source that a target has taken stays with it (R306), the others follow
DIC_SRCCFG. -/
def State.routed_ (s : State) (src : Nat) : Option Nat × Nat :=
  match tfind s.dic.taken src with
  | some q => (some q.1, q.2)
  | none => (targetOf (s.rd (DIC_SRCCFG_TARGET src)), s.level src)

/-- The ordinary unmasked pending sources routed to a target: members of an enabled group are never delivered on their
own (R311). -/
def State.ordinary (s : State) (t : Nat) : List Nat :=
  s.unmasked.filter fun src => (s.groupOf src).isNone && (s.routed_ src).1 == some t

/-- The fired groups routed to a target (R311). -/
def State.firedGroups (s : State) (t : Nat) : List Nat :=
  (upto 16).filter fun g =>
    s.bit (DIC_GSTAT_FIRED g) && s.bit (DIC_GCFG_EN g) && targetOf (s.rd (DIC_GCFG_TARGET g)) == some t

/-- The moderation interval of a target, in counts (R310, R315: larger values clamped to 1,000 µs). -/
def State.modInterval (s : State) (t : Nat) : Nat := usec (min (s.rd (DIC_MOD_INTERVAL t)) 1000)

/-- A target is asleep (R309). -/
def State.asleep (s : State) (t : Nat) : Bool := s.bit (DIC_CSTAT_ASLEEP t)

/-- Moderation holds a level at a target now (R310): bypassed while the target is asleep. DEDUCED:
notes/assumptions/90.md. -/
def State.moderated (s : State) (t level : Nat) : Bool :=
  !s.asleep t && decide (s.rd (DIC_MOD_LEVEL t) ≤ level) && (tfind s.dic.lastMod t).isSome &&
    decide (0 < s.modInterval t)

/-- The candidates of a target's decision: level, and whether it is a source that moderation can hold (R305). -/
def State.candidates (s : State) (t : Nat) : List (Nat × Bool) :=
  ((s.ordinary t).filterMap fun src =>
      let p := (s.routed_ src).2
      if s.moderated t p then none else some (p, decide (s.rd (DIC_MOD_LEVEL t) ≤ p))) ++
    (s.firedGroups t).map fun g => (s.rd (DIC_GCFG_PRI g), false)

/-- The most urgent candidate. -/
def mostUrgent : List (Nat × Bool) → Option (Nat × Bool)
  | [] => none
  | c :: cs =>
    match mostUrgent cs with
    | none => some c
    | some d => if d.1 < c.1 then some d else some c

/-- A target's stack of running priorities, top first (R305). -/
def State.stack (s : State) (t : Nat) : List Nat := tget [] s.dic.runStacks t

/-- A target's stack set, with DEPTH and RUNPRI (R315). -/
def State.setStack (s : State) (t : Nat) (l : List Nat) : State :=
  let s := (s.onDic fun y => { y with runStacks := tset [] s.dic.runStacks t l })
  (s.wr (DIC_CSTAT_DEPTH t) l.length).wr (DIC_CSTAT_RUNPRI t) (l.headD 16)

/-- The sources that a delivery at a level hands to a target: it has taken them until it ends its interrupt (R306).
DEDUCED: notes/assumptions/106.md. -/
def State.take (s : State) (t p : Nat) : State :=
  let l := (s.ordinary t).filter fun src => (s.routed_ src).2 == p
  s.onDic fun y => { y with taken := l.foldl (fun x src => tinsert x src (t, p)) y.taken }

/-- The sources that a target gives back as it ends its interrupt at a level (R306, R308). -/
def State.giveBack (s : State) (t p : Nat) : State :=
  s.onDic fun y => { y with taken := y.taken.filter fun q => !(q.2.1 == t && q.2.2 == p) }

/-- The sources that are no longer pending are with no target. -/
def State.takenCheck (s : State) : State :=
  s.onDic fun y => { y with taken := y.taken.filter fun q => bitOf (s.rd (DIC_PEND (q.1 / 32))) (q.1 % 32) }

/-- One delivery decision for a target (R305, R306, R309, R310). -/
def State.decide_ (s : State) (t : Nat) : State :=
  match mostUrgent (s.candidates t) with
  | none => s
  | some (p, held) =>
    let s := if s.asleep t then s.putBit (DIC_CSTAT_ASLEEP t) false else s
    let thresh := min (s.rd (DIC_CMASK_THRESH t)) 16
    if ¬ s.bit (DIC_CMASK_MASK t) ∧ p < thresh ∧ p < (s.stack t).headD 16 then
      let s := (s.take t p).setStack t (p :: s.stack t)
      let s := (s.onDic fun y => { y with ints := tset 0 s.dic.ints t (tget 0 s.dic.ints t + 1) })
      if held then (s.onDic fun y => { y with lastMod := tinsert s.dic.lastMod t s.time }) else s
    else s

/-- DOORBELL_WRITE (R301): bits [31:11] set discard the write and count it. -/
def execDoorbellWrite (v : BitVec 32) (s : State) : Host.Outcome State Fault Refusal :=
  if v.toNat < 2048 then .next (s.post v.toNat) else .next (s.incSat DIC_BADDB)

/-- GROUP_TIMER_FIRE (R311): the timer counts from the first event after a fire; TIME 0 is applied as 1, larger than
1,000 as 1,000 µs. -/
def execGroupTimerFire (g : Fin 16) (s : State) : Host.Outcome State Fault Refusal :=
  let g := g.val
  if s.bit (DIC_GCFG_EN g) ∧ s.since (tfind s.dic.grpStart g) (usec (clampNat 1 1000 (s.rd (DIC_GCFG_TIME g)))) then
    .next (s.groupFire g)
  else s.same

/-- A core of a target waits in a stalled read of a sample queue (R194). -/
def State.readStalled (s : State) (t : Nat) : Bool :=
  s.vq.sq.any fun q => q.2.stalls.any fun x =>
    match x.reader with
    | .core n => targetOf n.val == some t
    | .cellar => false

/-- DELIVERY_DECISION (R305): decisions run while DIC_CTRL.ENABLE is set; target 1 does not exist (R304). A core in a
stalled read is interrupted when the read completes (R194). -/
def execDeliveryDecision (t : Fin 9) (s : State) : Host.Outcome State Fault Refusal :=
  if s.bit DIC_CTRL_ENABLE ∧ t.val ≠ 1 ∧ s.readStalled t.val = false then .next (s.decide_ t.val) else s.same

/-- Who may write DIC_EOIt: target t itself (R308; both lockstep cores are target 0). -/
def mayEoi (by_ : Initiator) (t : Nat) : Bool :=
  match by_ with
  | .core n => targetOf n.val == some t
  | .mgmt => t == 8
  | .block => false

/-- EOI_WRITE (R308): pops the stack, or sets EOI_ERR on an empty one; RESAMPLE posts a fresh doorbell for a level
source whose condition is still asserted. DESIGN CHOICE: notes/assumptions/19.md. -/
def execEoiWrite (t : Fin 9) (by_ : Initiator) (v : BitVec 32) (s : State) : Host.Outcome State Fault Refusal :=
  let t := t.val
  if t ≠ 1 ∧ mayEoi by_ t then
    let s1 := match s.stack t with
      | [] => s.putBit (DIC_CSTAT_EOI_ERR t) true
      | p :: rest => (s.giveBack t p).setStack t rest
    let src := bitsOf v.toNat 10 0
    if bitOf v.toNat 31 ∧ levelSource src ∧ s1.levelAsserted src then .next (s1.post src) else .next s1
  else s.same

/-- MODERATION_INTERVAL_END (R310): the interval since the last held-level delivery has passed. -/
def execModerationIntervalEnd (t : Fin 9) (s : State) : Host.Outcome State Fault Refusal :=
  if s.since (tfind s.dic.lastMod t.val) (s.modInterval t.val) then
    .next (s.onDic fun y => { y with lastMod := terase s.dic.lastMod t.val })
  else s.same

/-- The wake condition of a target: an unmasked pending source or a fired group routed to it (R309). DEDUCED:
notes/assumptions/90.md. -/
def State.wakeHolds (s : State) (t : Nat) : Bool := !(s.ordinary t).isEmpty || !(s.firedGroups t).isEmpty

/-- SLEEP_INSTRUCTION (R309): the target sleeps unless its wake condition holds in that cycle. -/
def execSleepInstruction (t : Fin 9) (s : State) : Host.Outcome State Fault Refusal :=
  if t.val ≠ 1 ∧ ¬ s.wakeHolds t.val then .next (s.putBit (DIC_CSTAT_ASLEEP t.val) true) else s.same

/-- Word `w` of a target's view (R307): pending and unmasked sources whose target is `t` and whose level equals RUNPRI,
a member of an enabled group by its group's target and level. -/
def State.view (s : State) (t w : Nat) : Nat :=
  let run := (s.stack t).headD 16
  (upto 32).foldl (fun n i =>
    let src := 32 * w + i
    let tl := match s.groupOf src with
      | some g => (targetOf (s.rd (DIC_GCFG_TARGET g)), s.rd (DIC_GCFG_PRI g))
      | none => s.routed_ src
    if bitOf (s.rd (DIC_PEND w)) i && !bitOf (s.rd (DIC_MASK w)) i && tl.1 == some t && tl.2 == run then n + 2 ^ i
    else n) 0

/-- DIC_SUM of a target: bit w is set when word w of its view is not 0; `k` is 0 for the low register (R307, R315). -/
def State.viewSum (s : State) (t k : Nat) : Nat :=
  (upto 32).foldl (fun n w => if s.view t (32 * k + w) = 0 then n else n + 2 ^ w) 0

/-- DIC_GVIEW of a target: the fired groups routed to it at RUNPRI (R315). -/
def State.groupView (s : State) (t : Nat) : Nat :=
  let run := (s.stack t).headD 16
  (s.firedGroups t).foldl (fun n g => if s.rd (DIC_GCFG_PRI g) = run then n + 2 ^ g else n) 0

/-- The time since the first counted event of a group, in µs (R315). -/
def State.groupElapsed (s : State) (g : Nat) : Nat :=
  match tfind s.dic.grpStart g with
  | some t => min ((s.time - t) / usec 1) 1023
  | none => 0

/-- The offsets of the controller that no register fills, target 1's window among them: they read 0 (R315). -/
def dicReserved (a : Nat) : Bool :=
  decide (a / 0x1000000 = 0x40) && ((findRow a).isNone || decide (0x40003200 ≤ a ∧ a < 0x40003400))

/-- The registers of the controller that show what it computes: the views, the sums, the elapsed times; and the reserved
offsets (R307, R315). -/
def State.dicWord (s : State) (a : Nat) : Option Nat :=
  let t := (a - 0x40003000) / 0x200
  let off := (a - 0x40003000) % 0x200
  if a % 4 ≠ 0 then none
  else if 0x40003000 ≤ a ∧ a < 0x40004200 ∧ t ≠ 1 ∧ (0x10 ≤ off ∧ off < 0x1C ∨ 0x100 ≤ off) then
    if off = 0x10 then some (s.viewSum t 0)
    else if off = 0x14 then some (s.viewSum t 1)
    else if off = 0x18 then some (s.groupView t)
    else some (s.view t ((off - 0x100) / 4))
  else if 0x40005000 ≤ a ∧ a < 0x40005100 ∧ a % 0x10 = 4 then
    let g := (a - 0x40005000) / 0x10
    some (withBits (s.word a) (DIC_GSTAT_ELAPSED g).hi (DIC_GSTAT_ELAPSED g).lo (s.groupElapsed g))
  else if dicReserved a then some 0
  else none

/-! ### What Benfophor sets (R303, R312) -/

/-- The default target of a source by its owner: the supervisor, C2 to C6; none for the sources that no core owns by
default (R303). -/
def defaultTarget (src : Nat) : Option Nat :=
  if src < 96 then some 0
  else if src < 128 then some 3
  else if src < 160 then some 0
  else if src < 192 then some 4
  else if src < 224 then some 0
  else if src < 256 then none
  else if src < 353 then some 2
  else if src < 384 then none
  else if src < 448 then some 5
  else if src < 480 then some 6
  else if src < 512 then some 2
  else if src < 544 then some 0
  else none

/-- The sources routed to their default targets, the ingest notices members of group 0, which is configured and enabled
(R200, R303, R312). DEDUCED: notes/assumptions/106.md. -/
def State.bootDic (s : State) : State :=
  let s := (upto 544).foldr (fun src (s : State) =>
    match defaultTarget src with
    | some t =>
      let s := s.wr (DIC_SRCCFG_TARGET src) t
      if 256 ≤ src ∧ src < 320 then s.putBit (DIC_SRCCFG_GROUP_EN src) true else s
    | none => s) s
  let s := ((s.wr (DIC_GCFG_COUNT 0) 63).wr (DIC_GCFG_TIME 0) 100).wr (DIC_GCFG_PRI 0) 6
  (s.wr (DIC_GCFG_TARGET 0) 2).putBit (DIC_GCFG_EN 0) true

end Sys2Proof.Machine
end

