-- ==== Sys2Proof/Machine/Broker.lean ====
section
/-! DEFINITION. The power-cap broker (spec 06): budgets, ceilings, grants, cap records, leases, brake lines, BAR4. -/

namespace Sys2Proof.Machine

/-! ### The context table (R152) -/

/-- The broker's record of a context. -/
def State.pbCtx (s : State) (c : Nat) : PbCtx := tget {} s.pb.ctx c

/-- The broker's record of a context set; a valid context stays listed. -/
def State.setPbCtx (s : State) (c : Nat) (x : PbCtx) : State :=
  s.onPb fun y => { y with ctx := tinsert s.pb.ctx c x }

/-- The contexts with an entry. -/
def State.ctxs (s : State) : List Nat := (s.pb.ctx.map (·.1)).filter fun c => s.bit (PB_CFG_VALID c)

/-- The admitted contexts. -/
def State.admitted (s : State) : List Nat := s.ctxs.filter fun c => s.bit (PB_STATUS_ADMITTED c)

/-- The rack of a context is the rack of its group (R156). -/
def State.ctxRack (s : State) (c : Nat) : Nat := s.rd (PB_GROUP_RACK (s.rd (PB_CFG_GROUP c)))

/-- EMERG_PCT, 5 to 50 (R159). -/
def State.emergPct (s : State) : Nat := clampNat 5 50 (s.rd PB_EMERG_EMERG_PCT)

/-- The emergency cap, which is also the allocation floor (R159). -/
def State.emergCap (s : State) (c : Nat) : Nat := s.emergPct * s.rd (PB_BUDGET_BUDGET c) / 100

/-- The isolation cap (R178). -/
def State.isolCap (s : State) (c : Nat) : Nat := min (s.rd PB_EMERG_ISOL_PCT) 100 * s.emergCap c / 100

/-- A binary32 power or cap as whole watts, rounded down and kept to 0 to `top`; −∞ is 0, +∞ the top (R153). -/
def wattsOf (top : Nat) (x : F32) : Nat :=
  if fisInf x then (if fsign x then 0 else top)
  else
    let i := f32Floor x
    if i < 0 then 0 else min i.toNat top

/-- A binary32 value of a telemetry word (R204): low or high half. -/
def TRec.half (r : TRec) (word : Nat) (high : Bool) : F32 :=
  let w := r.words.getD word 0
  BitVec.ofNat 32 (if high then w / 2 ^ 32 else w)

/-- The newest accepted record of a context (R196). -/
def State.telem (s : State) (c : Nat) : Option TRec := tget none s.vq.newest c

/-- The reported power of a context, binary32 (R204 POWER). -/
def State.power (s : State) (c : Nat) : F32 :=
  match s.telem c with
  | some r => r.half 3 false
  | none => 0

/-- The reported power in whole watts. -/
def State.powerW (s : State) (c : Nat) : Nat := wattsOf 65535 (s.power c)

/-- The cap that a context holds: the last one sent, or its fallback cap once its lease has lapsed (R167). -/
def State.capNow (s : State) (c : Nat) : Nat :=
  if s.bit (PB_STATUS_LEASE_LAPSED c) then s.rd (PB_BUDGET_FALLBACK c) else s.rd (PB_CAP_CAP_SENT c)

/-- The sum of caps sent over some contexts. -/
def State.capSum (s : State) (cs : List Nat) : Nat := cs.foldl (fun n c => n + s.capNow c) 0

/-- The sum of reported power over some contexts, W. -/
def State.powerSum (s : State) (cs : List Nat) : Nat := cs.foldl (fun n c => n + s.powerW c) 0

/-- The contexts with an entry in a group. -/
def State.groupCtxs (s : State) (g : Nat) : List Nat := s.ctxs.filter fun c => s.rd (PB_CFG_GROUP c) == g

/-- The contexts with an entry in a rack. -/
def State.rackCtxs (s : State) (r : Nat) : List Nat := s.ctxs.filter fun c => s.ctxRack c == r

/-- The groups assigned to a rack (R156). -/
def State.rackGroups (s : State) (r : Nat) : List Nat := (upto 64).filter fun g => s.rd (PB_GROUP_RACK g) == r

/-- A rack is isolated (R178). -/
def State.rackIsolated (s : State) (r : Nat) : Bool := bitOf s.sys.isolated r

/-! ### Effective budgets (R157) -/

/-- The sum of rack budgets over the racks not isolated. -/
def State.rackBudgetSum (s : State) : Nat :=
  (upto 16).foldl (fun n r => if s.rackIsolated r then n else n + s.rd (PB_RACK_BUDGET r)) 0

/-- E_rack[r]. DEDUCED: notes/assumptions/41.md. -/
def State.effRack (s : State) (r : Nat) : Nat :=
  if s.rackIsolated r then 0
  else
    let b := s.rd (PB_RACK_BUDGET r)
    let k := s.rd (PB_RACK_KFLOW r)
    let sum := s.rackBudgetSum
    if sum ≤ s.pb.rowBudget then b * k / 10000 else b * s.pb.rowBudget * k / (sum * 10000)

/-- E_grp[g] from its rack's effective budget. DEDUCED: notes/assumptions/41.md. -/
def State.effGroup (s : State) (g : Nat) : Nat :=
  let r := s.rd (PB_GROUP_RACK g)
  let e := s.effRack r
  let b := s.rd (PB_GROUP_BUDGET g)
  let sum := (s.rackGroups r).foldl (fun n g => n + s.rd (PB_GROUP_BUDGET g)) 0
  if sum ≤ e then b else b * e / sum

/-! ### Ceilings (R161, R162) -/

/-- The base rate of a fall: the new target, or 10% of the value after the first drop when the target is below that.
DEDUCED: notes/assumptions/41.md. -/
def fallBase (v : Frac) (target : Nat) : Frac :=
  let tenth := fracScale v 1 10
  if fracLt (fracNat target) tenth then tenth else fracNat target

/-- A new target for a ceiling: a raise is taken at once, a cut drops to `sent` and then falls, or is taken at once
when IMMEDIATE (R161). DEDUCED: notes/assumptions/42.md. -/
def Ceiling.retarget (c : Ceiling) (target sent : Nat) (imm : Bool) : Ceiling :=
  if fracLt (fracNat target) c.val then
    if imm then { val := fracNat target, target := target, immediate := true }
    else
      let v := fracMax (fracNat target) (fracMin c.val (fracNat sent))
      { val := v, target := target, rbase := fallBase v target, falling := fracLt (fracNat target) v, immediate := false }
  else { val := fracNat target, target := target }

/-- One frame's share of a fall: SLEW_PCT × R_base per 100 ms (R161). An IMMEDIATE cut marks the frame it opens alone.
-/
def Ceiling.fall (c : Ceiling) (slewPct frameCounts : Nat) : Ceiling :=
  let c := { c with immediate := false }
  if c.falling then
    let v := fracMax (fracNat c.target) (fracSub c.val (fracScale c.rbase (slewPct * frameCounts) (100 * 10000000)))
    { c with val := v, falling := fracLt (fracNat c.target) v }
  else c

/-- SLEW_PCT, 1 to 100 (R161). -/
def State.slewPct (s : State) : Nat := clampNat 1 100 (s.rd PB_SLEW)

/-- The ceiling of a group. -/
def State.grpCeil (s : State) (g : Nat) : Ceiling := tget {} s.pb.grpCeil g

/-- T_c in ms, rounded up (R162): `sent` the caps sent, `v` the ceiling's present value. DEDUCED:
notes/assumptions/42.md. -/
def State.timeToComply (s : State) (v : Frac) (target sent : Nat) (imm : Bool) : Nat :=
  if sent ≤ target then 0
  else if s.sys.mode = .shed ∨ s.sys.mode = .survival then 0xFFFFFFFF
  else
    -- in timebase counts: 2 frames + 1.02 ms + 10 ms
    let base := fracNat (2 * s.frameCounts + 102000 + 1000000)
    let d := fracMax (fracNat target) (fracMin v (fracNat sent))
    let rb := fallBase d target
    let total := if imm ∨ rb.num = 0 then base
      else fracMk (10000000 * (sent - target) * 100 * rb.den + base.num * (s.slewPct * rb.num)) (s.slewPct * rb.num)
    (total.num + 100000 * total.den - 1) / (100000 * total.den)

/-! ### Budget changes (R156, R163) -/

/-- The new value, or the present one where unchanged. -/
def keepOr (o : Option Nat) (d : Nat) : Nat := o.getD d

/-- One budget change written to the tables. -/
def State.applyChange (s : State) (b : BudgetChange) : State :=
  match b.level with
  | 0 => (s.onPb fun y => { y with rowBudget := keepOr b.budget s.pb.rowBudget })
  | 1 => s.wr (PB_RACK_BUDGET b.index) (keepOr b.budget (s.rd (PB_RACK_BUDGET b.index)))
  | 2 =>
    let s := s.wr (PB_GROUP_BUDGET b.index) (keepOr b.budget (s.rd (PB_GROUP_BUDGET b.index)))
    s.wr (PB_GROUP_RACK b.index) (keepOr b.group (s.rd (PB_GROUP_RACK b.index)))
  | _ =>
    let s := s.wr (PB_BUDGET_BUDGET b.index) (keepOr b.budget (s.rd (PB_BUDGET_BUDGET b.index)))
    let fb := keepOr b.fallback (s.rd (PB_BUDGET_FALLBACK b.index))
    let s := s.wr (PB_BUDGET_FALLBACK b.index) (min fb (s.rd (PB_BUDGET_BUDGET b.index)))
    let s := s.wr (PB_CFG_PRIORITY b.index) (keepOr b.priority (s.rd (PB_CFG_PRIORITY b.index)))
    s.wr (PB_CFG_GROUP b.index) (keepOr b.group (s.rd (PB_CFG_GROUP b.index)))

/-- A change cuts the ceiling of a group under IMMEDIATE (its own, its rack's or the row's budget). DEDUCED:
notes/assumptions/42.md. -/
def State.groupImmediate (s : State) (cs : List BudgetChange) (g : Nat) : Bool :=
  cs.any fun b => b.immediate && (b.level == 0 || (b.level == 1 && b.index == s.rd (PB_GROUP_RACK g)) ||
    (b.level == 2 && b.index == g))

/-- A change names a ceiling's budget anew, so that a cut to the same target starts its fall afresh (R161): a group's
own budget, or an IMMEDIATE cut above it. DEDUCED: notes/assumptions/42.md. -/
def State.groupCut (s : State) (cs : List BudgetChange) (g : Nat) : Bool :=
  s.groupImmediate cs g || cs.any fun b => b.level == 2 && b.index == g && b.budget.isSome

/-- The effective budgets and the ceilings' targets after the changes of a boundary (R157, R161). DEDUCED:
notes/assumptions/41.md. -/
def State.recompute (s : State) (cs : List BudgetChange) : State :=
  let s := (s.onPb fun y => { y with
    eRack := (upto 16).foldl (fun t r => tset 0 t r (s.effRack r)) s.pb.eRack
    eGrp := (upto 64).foldl (fun t g => tset 0 t g (s.effGroup g)) s.pb.eGrp })
  let s := (upto 64).foldl (fun s g =>
    let e := tget 0 s.pb.eGrp g
    let c := s.grpCeil g
    if e = c.target ∧ (c.falling && s.groupCut cs g) = false then s
    else
      let sent := s.capSum (s.groupCtxs g)
      let imm := s.groupImmediate cs g
      let tc := if fracLt (fracNat e) c.val then tset 0 s.pb.grpTc g (s.timeToComply c.val e sent imm) else s.pb.grpTc
      (s.onPb fun y => { y with grpCeil := tset {} s.pb.grpCeil g (c.retarget e sent imm), grpTc := tc })) s
  s.ctxs.foldl (fun s c =>
    let x := s.pbCtx c
    let b := s.rd (PB_BUDGET_BUDGET c)
    let own := cs.filter fun d => d.level == 3 && d.index == c && d.budget.isSome
    if b = x.ceil.target ∧ (x.ceil.falling && !own.isEmpty) = false then s
    else s.setPbCtx c { x with ceil := x.ceil.retarget b (s.capNow c) (own.any (·.immediate)) }) s

/-- Every falling ceiling lowered by its share (R161). -/
def State.ceilingFall (s : State) : State :=
  let p := s.slewPct
  let f := s.frameCounts
  let s := (s.onPb fun y => { y with grpCeil := s.pb.grpCeil.map fun (q : Nat × Ceiling) => (q.1, q.2.fall p f) })
  (s.onPb fun y => { y with ctx := s.pb.ctx.map fun (q : Nat × PbCtx) => (q.1, { q.2 with ceil := q.2.ceil.fall p f }) })

/-! ### Grants (R159, R160) -/

/-- d_c: the demand within 0 and the context ceiling (R159). DESIGN CHOICE: notes/assumptions/44.md. -/
def State.demand (s : State) (c : Nat) : Nat :=
  let x := s.pbCtx c
  min x.demand (fracFloor x.ceil.val)

/-- What a context wants above its floor. -/
def State.wantAbove (s : State) (c : Nat) : Nat := max (s.demand c) (s.emergCap c) - s.emergCap c

/-- The contexts that take part in the allocation of a group (R160). -/
def State.allocCtxs (s : State) (g : Nat) : List Nat :=
  (s.groupCtxs g).filter fun c => s.bit (PB_STATUS_ADMITTED c) && !s.bit (PB_STATUS_ISOLATED c)

/-- Grants by priority class from what remains above the floors (R160): the pairs of context and grant. -/
def State.classGrants (s : State) (cs : List Nat) : Nat → Nat → Nat → List (Nat × Nat)
  | 0, _, _ => []
  | n + 1, p, r =>
    let cl := cs.filter fun c => s.rd (PB_CFG_PRIORITY c) == p
    let w := cl.foldl (fun n c => n + s.wantAbove c) 0
    if w ≤ r then
      cl.map (fun c => (c, s.emergCap c + s.wantAbove c)) ++ s.classGrants cs n (p + 1) (r - w)
    else
      cl.map (fun c => (c, s.emergCap c + s.wantAbove c * r / w)) ++ s.classGrants cs n (p + 1) 0

/-- The grants of one group (R160). -/
def State.groupGrants (s : State) (g : Nat) : List (Nat × Nat) :=
  let cs := s.allocCtxs g
  let cg := fracFloor (s.grpCeil g).val
  let f := cs.foldl (fun n c => n + s.emergCap c) 0
  if cg < f then cs.map fun c => (c, s.emergCap c * cg / f)
  else s.classGrants cs 4 0 (cg - f)

/-- The cap a context's new output is compared with: its unsent record's, otherwise the last cap sent (R17). -/
def State.refCap (s : State) (c : Nat) : Option Nat :=
  let x := s.pbCtx c
  match x.unsent with
  | some r => some r.cap
  | none => if x.everSent then some (s.rd (PB_CAP_CAP_SENT c)) else none

/-- A context's grant stored. From the frame that an IMMEDIATE cut of its own ceiling or its group's opens until its cap
has come down to the grant, the cut is what lowers the cap (R164). -/
def State.giveGrant (s : State) (c grant : Nat) : State :=
  let x := s.pbCtx c
  let cut := (x.cut || x.ceil.immediate || (s.grpCeil (s.rd (PB_CFG_GROUP c))).immediate) &&
    (s.refCap c).any fun cap => decide (grant < cap)
  (s.setPbCtx c { x with cut := cut }).wr (PB_CAP_GRANT c) grant

/-- The allocation of every group (R160). -/
def State.allocate (s : State) : State :=
  (upto 64).foldl (fun s0 g => (s.groupGrants g).foldl (fun s q => s.giveGrant q.1 q.2) s0) s

/-! ### Cap records (R164, R165, R17) -/

/-- The brake lines asserted: the trip matrix's and the forced ones, on the ACTIVE module only (R174). -/
def State.brakeLines (s : State) : Nat :=
  if s.isActive then (s.pb.tripBrakes ||| s.rd PB_BRAKE_FORCE) % 65536 else 0

/-- SENSE reads back the lines asserted. -/
def State.senseBrakes (s : State) : State := s.wr PB_BRAKE_SENSE s.brakeLines

/-- A cap lower than the one before results from an IMMEDIATE cut (R164): the cut's grant, and not the loop's own demand,
holds the output down, or the record replaces an unsent one that the cut lowered. DEDUCED: notes/assumptions/42.md. -/
def State.immediateCap (s : State) (c cap : Nat) : Bool :=
  let x := s.pbCtx c
  decide (cap < s.rd (PB_CAP_CAP_SENT c)) &&
    (x.unsent.any (·.immediate) || (x.cut && decide (s.rd (PB_CAP_GRANT c) < x.demand)))

/-- A record of a context queued, replacing its unsent one (R17). -/
def State.queueRec (s : State) (c : Nat) (kind : CapKind) (cap : Nat) : State :=
  let x := s.pbCtx c
  let rack := s.ctxRack c
  let r : CapRec := { kind := kind, cap := cap, fallback := s.rd (PB_BUDGET_FALLBACK c), lease := s.rd (PB_LEASE c),
                      immediate := kind == .cap && s.immediateCap c cap, brake := bitOf s.brakeLines rack, rack := rack,
                      epoch := s.frame, queuedAt := s.time, failures := 0 }
  (s.setPbCtx c { x with unsent := some r, firstDue := false }).putBit (PB_STATUS_QUEUED c) true

/-- A context loop's output taken by the broker (R153, R159, R17): `upre` becomes the demand, floor(u) the cap. -/
def State.capOutput (s : State) (c : Nat) (u upre margin : F32) : State :=
  let x := s.pbCtx c
  let x := if fisNaN upre then x else { x with demand := wattsOf 4095 upre }
  let s := s.setPbCtx c { x with margin := margin }
  if fisNaN u ∨ ¬ s.bit (PB_STATUS_ADMITTED c) ∨ s.bit (PB_STATUS_ISOLATED c) ∨ s.bit (PB_STATUS_RELEASING c) then s
  else
    let cap := wattsOf 4095 u
    if s.refCap c = some cap then s else s.queueRec c .cap cap

/-- The queued records that may be written now: no write in flight for the context (R165). -/
def State.eligible (s : State) : List (Nat × CapRec × F32) :=
  s.pb.ctx.filterMap fun q =>
    match q.2.unsent, q.2.flight with
    | some r, none => some (q.1, r, q.2.margin)
    | _, _ => none

/-- Record `a` leaves before record `b` (R172). -/
def State.before (s : State) (a b : Nat × CapRec × F32) : Bool :=
  let ea := a.2.1.kind == .emergency
  let eb := b.2.1.kind == .emergency
  if ea != eb then ea
  else if fkey a.2.2 < fkey b.2.2 then true
  else if fkey b.2.2 < fkey a.2.2 then false
  else
    let pa := s.rd (PB_CFG_PRIORITY a.1)
    let pb := s.rd (PB_CFG_PRIORITY b.1)
    if pa < pb then true else if pb < pa then false else decide (a.1 < b.1)

/-- The next record to write (R172). -/
def State.nextRec (s : State) : Option (Nat × CapRec × F32) :=
  s.eligible.foldl (fun o q =>
    match o with
    | none => some q
    | some p => if s.before q p then some q else some p) none

/-- The kind byte of a cap record (R164). -/
def CapKind.code : CapKind → Nat
  | .cap => 1 | .renew => 2 | .emergency => 3 | .release => 4

/-- The 64 bytes of a cap record (R164). -/
def State.capBytes (s : State) (c : Nat) (r : CapRec) (start : Nat) : List Byte :=
  let flags := b2n r.immediate + 2 * b2n r.brake + 4 * b2n (s.bit TW_STATUS_SLOT)
  let body := leBytes 1 1 ++ leBytes 1 r.kind.code ++ leBytes 2 c ++ leBytes 2 (r.cap % 4096) ++
    leBytes 2 (r.fallback % 4096) ++ leBytes 2 r.lease ++ leBytes 1 flags ++ leBytes 1 r.rack ++
    leBytes 4 (s.rd PB_ROW_ID) ++ leBytes 8 r.epoch ++ leBytes 8 start ++ leBytes 8 (start + msec r.lease) ++ zeros 20
  body ++ leBytes 4 (crc32c body)

/-- Writes in flight across all contexts. -/
def State.inFlight (s : State) : Nat := (s.pb.ctx.filter fun q => q.2.flight.isSome).length

/-- MAX_FLIGHT, 1 to 64 (R165, R182). -/
def State.maxFlight (s : State) : Nat := clampNat 1 64 (s.rd PB_UIO_MAX_FLIGHT)

/-- A write may start now (R165, R179, R182, R360). -/
def State.mayStart (s : State) : Bool :=
  s.isActive && !s.bit PB_CTRL_HOLD_QUEUE && s.mb.linkUp && decide (s.inFlight < s.maxFlight) &&
    match s.pb.lastStart with
    | some t => decide (t + 25 ≤ s.time)
    | none => true

/-- The write of a context's record starts (R165). -/
def State.startWrite (s : State) (c : Nat) (r : CapRec) : State :=
  let addr := 64 * s.rd (PB_ADDR_LO_ADDR c) + 2 ^ 32 * s.rd (PB_ADDR_HI c)
  let bytes := s.capBytes c r s.time
  let x := s.pbCtx c
  let s := s.setPbCtx c { x with unsent := none, flight := some { rcd := r, started := s.time }, everSent := true,
                                 lastEpoch := r.epoch }
  let s := (s.putBit (PB_STATUS_QUEUED c) false).putBit (PB_STATUS_IN_FLIGHT c) true
  let s := s.putBit (PB_STATUS_EMERGENCY c) (r.kind == .emergency)
  let s := (s.wr (PB_CAP_CAP_SENT c) r.cap).wr64 (PB_LAST_SENT_LO c) s.time
  let first := s.pb.burstStart.getD s.time
  let s := (s.onPb fun y => { y with lastStart := some s.time, burstStart := some first,
                                      lastWrite := some (addr, bytes) })
  let s := s.incSat PB_SENT
  let s := s.onMb fun y => { y with budgetJobs := y.budgetJobs.map fun j => { j with sent := j.sent ++ [(c, r.cap, r.epoch)] } }
  if s.pb.ctx.all fun q => q.2.unsent.isNone then
    ((s.wr PB_FANOUT_US (min ((s.time - first) / 100) 65535)).onPb fun _ => { s.pb with burstStart := none })
  else s

/-- An entry becomes invalid (R155); which chain limits LOOP_SET has set stays known (R154). -/
def State.dropCtx (s : State) (c : Nat) : State :=
  let s := s.onPb fun y => { y with ctx := tset {} y.ctx c { limitsSet := (s.pbCtx c).limitsSet } }
  let s := s.putBit (PB_CFG_VALID c) false
  s.wr (PB_STATUS c) 0

/-- The completion of a record's write forwarded to the standby: bit 0 a RELEASE, bit 1 failed, bit 2 failed for the
second time (R179). DESIGN CHOICE: notes/assumptions/22.md. -/
def State.forwardDone (s : State) (c code : Nat) (f : CapFlight) : State :=
  s.forward 6 0 (leBytes 2 c ++ leBytes 2 (b2n (f.rcd.kind == .release) + code) ++ leBytes 4 f.rcd.cap ++
    leBytes 8 f.rcd.epoch ++ leBytes 8 (f.started + msec f.rcd.lease))

/-- A context cannot be reached: UNREACHABLE, the log record and the broker doorbell; a RELEASE ends its entry (R155,
R166). -/
def State.unreachable (s : State) (c : Nat) (release : Bool) : State :=
  let s := (s.putBit (PB_STATUS_UNREACHABLE c) true).note 4 .unreachable 1 [c] 160
  if release then s.dropCtx c else s

/-- A write of a context fails, by an error status or no completion (R166); the standby is told (R179). DEDUCED:
notes/assumptions/43.md. -/
def State.writeFailed (s : State) (c : Nat) : State :=
  let x := s.pbCtx c
  match x.flight with
  | none => s
  | some f =>
    let s := (s.incSat (PB_ERRORS c)).putBit (PB_STATUS_IN_FLIGHT c) false
    let x := { x with flight := none, errors := x.errors + 1 }
    let r : CapRec := { f.rcd with failures := f.rcd.failures + 1, queuedAt := s.time }
    let s := s.forwardDone c (if r.failures < 2 then 2 else 6) f
    if r.failures < 2 then
      match x.unsent with
      | none => (s.setPbCtx c { x with unsent := some r }).putBit (PB_STATUS_QUEUED c) true
      | some _ => s.setPbCtx c x
    else
      (s.setPbCtx c x).unreachable c (f.rcd.kind == .release)

/-- A write of a context completes with success (R166). -/
def State.writeDone (s : State) (c : Nat) : State :=
  let x := s.pbCtx c
  match x.flight with
  | none => s
  | some f =>
    let s := (s.putBit (PB_STATUS_IN_FLIGHT c) false).forwardDone c 0 f
    if f.rcd.kind = .release then s.dropCtx c
    else
      let s := s.setPbCtx c { x with flight := none, leaseEnd := some (f.started + msec f.rcd.lease) }
      let s := s.wr64 (PB_APPLIED_EPOCH_LO c) (max f.rcd.epoch (s.rd64 (PB_APPLIED_EPOCH_LO c)))
      (s.putBit (PB_STATUS_UNREACHABLE c) false).putBit (PB_STATUS_LEASE_LAPSED c) false

/-! ### Leases (R167) -/

/-- Renewals of a context are stopped (R167). -/
def State.renewalStopped (s : State) (c : Nat) : Bool :=
  s.bit (PB_STATUS_SILENT c) || s.sys.mode == .table || s.sys.mode == .survival || s.sys.mode == .failed ||
    s.sys.role == .standby || s.sys.role == .isolatedStandby || s.sys.role == .faulted

/-- Half the lease has passed since the last record sent (R167). DEDUCED: notes/assumptions/43.md. -/
def State.renewalDue (s : State) (c : Nat) : Bool :=
  let x := s.pbCtx c
  s.bit (PB_STATUS_ADMITTED c) && !s.bit (PB_STATUS_RELEASING c) && x.everSent && x.unsent.isNone &&
    decide (2 * (s.time - s.rd64 (PB_LAST_SENT_LO c)) ≥ msec (s.rd (PB_LEASE c)))

/-! ### Emergency and isolation (R176 to R178) -/

/-- On entry to SHED: an EMERGENCY record for every admitted context, every grant the emergency cap (R176). A context
under removal is none of them: its RELEASE record, which carries the fallback cap, is its last (R155). DEDUCED:
notes/assumptions/43.md. -/
def State.emergencyQueue (s : State) : State :=
  let s := (s.onPb fun y => { y with emergencyEpoch := s.frame, confirmedAt := none })
  (s.admitted.filter fun c => !s.bit (PB_STATUS_RELEASING c)).foldl (fun s c =>
    (s.queueRec c .emergency (s.emergCap c)).wr (PB_CAP_GRANT c) (s.emergCap c)) s

/-- The contexts that hold the caps unconfirmed, and those silent or unreachable (R177). -/
def State.unconfirmed (s : State) : List Nat :=
  s.admitted.filter fun c => decide (s.rd64 (PB_CONFIRMED_EPOCH_LO c) < s.pb.emergencyEpoch)

/-- Whether the emergency caps are confirmed (R177). -/
def State.capsConfirmed (s : State) : Bool :=
  s.unconfirmed.all fun c => s.bit (PB_STATUS_SILENT c) || s.bit (PB_STATUS_UNREACHABLE c)

/-- PB_UNCONFIRMED, and the time of the confirmation in SHED (R177). -/
def State.confirmCaps (s : State) : State :=
  let s := s.wr PB_UNCONFIRMED (min s.unconfirmed.length 8191)
  if s.sys.mode = .shed ∧ s.pb.confirmedAt.isNone ∧ s.capsConfirmed then
    ((s.onPb fun y => { y with confirmedAt := some s.time })).log 4 .capsConfirmed 0 [s.unconfirmed.length]
  else s

/-- A rack's contexts are isolated: ISOLATED set, an isolation CAP record each, the rack brake forced (R178). -/
def State.isolateCaps (s : State) (r : Nat) : State :=
  let s := (s.rackCtxs r).foldl (fun s c =>
    let s := (s.putBit (PB_STATUS_ISOLATED c) true).wr (PB_CAP_GRANT c) (s.isolCap c)
    if s.bit (PB_STATUS_ADMITTED c) ∧ ¬ s.bit (PB_STATUS_RELEASING c) then s.queueRec c .cap (s.isolCap c) else s) s
  (s.wr PB_BRAKE_FORCE (s.rd PB_BRAKE_FORCE ||| 2 ^ r)).senseBrakes

/-- The contexts marked ISOLATED whose rack is no longer isolated: those of a rack that has reopened, and those that
have moved away from it. -/
def State.freedCtxs (s : State) : List Nat :=
  s.ctxs.filter fun c => s.bit (PB_STATUS_ISOLATED c) && !s.rackIsolated (s.ctxRack c)

/-- A rack counts as reopened: ISOLATED cleared, the outputs of its contexts at the isolation caps, the brake released
(R178). -/
def State.reopenCaps (s : State) (r : Nat) : State :=
  let s := s.freedCtxs.foldl (fun s c =>
    (s.putBit (PB_STATUS_ISOLATED c) false).wrf (SL_OUT0 c) (f32OfInt (s.isolCap c))) s
  (s.wr PB_BRAKE_FORCE (s.rd PB_BRAKE_FORCE - (if bitOf (s.rd PB_BRAKE_FORCE) r then 2 ^ r else 0))).senseBrakes

/-! ### The frame boundary (R157, R160, R161, R179) -/

/-- Context slots are released in a module state (R44). -/
def ctxReleased (m prior : ModState) : Bool :=
  match m with
  | .reactive | .predictive | .hold | .shed => true
  | .isolate => prior == .reactive || prior == .predictive || prior == .hold
  | .off | .boot | .table | .survival | .service | .failed => false

/-- The present cap of a context: its unsent record's, the last sent, or its output (R179, R154). -/
def State.presentCap (s : State) (c : Nat) : Nat := (s.refCap c).getD (wattsOf 4095 (s.rdf (SL_OUT0 c)))

/-- The BAR4 post's changes taken as one change (R181): unchanged fields carry 0xFFFF_FFFF. DEDUCED:
notes/assumptions/47.md. DESIGN CHOICE: notes/assumptions/102.md. -/
def State.postChanges (s : State) : List BudgetChange :=
  let imm := bitOf (tget 0 s.pb.post 0x104) 0
  let one (level index off top : Nat) : List BudgetChange :=
    let v := tget 0xFFFFFFFF s.pb.post off
    if v = 0xFFFFFFFF then []
    else [{ level := level, index := index, immediate := imm, budget := some (min v top), fallback := none,
            priority := none, group := none }]
  one 0 0 0x108 4000000 ++ (upto 16).flatMap (fun r => one 1 r (0x110 + 4 * r) 400000) ++
    (upto 64).flatMap fun g => one 2 g (0x150 + 4 * g) 400000

/-- How many fields of the post are clamped (R181). -/
def State.postClamps (s : State) : Nat :=
  let n (off top : Nat) : Nat :=
    let v := tget 0xFFFFFFFF s.pb.post off
    b2n (v != 0xFFFFFFFF && decide (top < v))
  n 0x108 4000000 + (upto 16).foldl (fun k r => k + n (0x110 + 4 * r) 400000) 0 +
    (upto 64).foldl (fun k g => k + n (0x150 + 4 * g) 400000) 0

/-- T_c of some changes: the largest over the ceilings they touch (R162, R382). DEDUCED: notes/assumptions/42.md. -/
def State.changesTc (s : State) (cs : List BudgetChange) : Nat :=
  let t := cs.foldl State.applyChange s
  let grp (g : Nat) : Nat :=
    s.timeToComply (s.grpCeil g).val (t.effGroup g) (s.capSum (s.groupCtxs g)) (s.groupImmediate cs g)
  cs.foldl (fun n b =>
    let v := match b.level with
      | 0 => (upto 64).foldl (fun n g => max n (grp g)) 0
      | 1 => (t.rackGroups b.index).foldl (fun n g => max n (grp g)) 0
      | 2 => grp b.index
      | _ => s.timeToComply (s.pbCtx b.index).ceil.val (keepOr b.budget (s.rd (PB_BUDGET_BUDGET b.index)))
          (s.rd (PB_CAP_CAP_SENT b.index)) b.immediate
    max n v) 0

/-- The contexts added before the boundary are admitted (R71, R154). -/
def State.admitDue (s : State) : State :=
  s.ctxs.foldl (fun s c =>
    let x := s.pbCtx c
    if x.admitDue then
      (s.setPbCtx c { x with admitDue := false, firstDue := true }).putBit (PB_STATUS_ADMITTED c) true
    else s) s

/-- A committed BAR4 post takes effect and is acknowledged (R181). DEDUCED: notes/assumptions/47.md. -/
def State.postApply (s : State) : State :=
  match s.pb.postDue with
  | some q => ((s.onPb fun y => { y with postDue := none, ackSeq := q, postFrame := s.frame })).msixSend 2
  | none => s

/-- The contexts that may be sent a record. -/
def State.live (s : State) : List Nat := s.admitted.filter fun c => !s.bit (PB_STATUS_RELEASING c)

/-- The first record of each context that waits for the first frame of its slot's release (R154). -/
def State.firstRecords (s : State) : State :=
  if ctxReleased s.sys.mode s.sys.prior then
    (s.live.filter fun c => (s.pbCtx c).firstDue && !s.bit (PB_STATUS_ISOLATED c)).foldl
      (fun s c => s.queueRec c .cap (s.presentCap c)) s
  else s

/-- A new owner's record for every admitted context (R179). -/
def State.ownerRecords (s : State) : State :=
  if s.pb.newOwner ∧ s.isActive then
    let t := s.live.foldl (fun s c => s.queueRec c .cap (s.presentCap c)) s
    t.onPb fun y => { y with newOwner := false }
  else s

/-- Budget changes are stored: they act from the end of SHED or SURVIVAL (R162). -/
def State.budgetHeld (s : State) : Bool := s.sys.mode == .shed || s.sys.mode == .survival

/-- The budget changes of the frame written to the tables and their effect on budgets and ceilings (R157, R163); those
that are held wait (R162). -/
def State.budgetApply (s : State) : State :=
  if s.budgetHeld then s.recompute []
  else
  let t := s.pb.changes.foldl State.applyChange s
  let u := (t.onPb fun y => { y with changes := [] })
  u.recompute s.pb.changes

/-- The allocation of the frame that opens (R160, R182); in SHED the grants stay the emergency caps (R176). -/
def State.allocateIf (s : State) : State :=
  if s.bit PB_CTRL_ENABLE ∧ s.sys.mode ≠ .shed then s.allocate else s

/-- The broker's work at a frame boundary. -/
def State.pbBoundary (s : State) : State :=
  s.ceilingFall.budgetApply.postApply.allocateIf.firstRecords.ownerRecords.confirmCaps

/-! ### The commands -/

/-- LEASE_RENEWAL_DUE (R167). DEDUCED: notes/assumptions/43.md. -/
def execLeaseRenewalDue (c : Fin 4096) (s : State) : Host.Outcome State Fault Refusal :=
  if s.renewalDue c.val ∧ ¬ s.renewalStopped c.val then .next (s.queueRec c.val .renew (s.rd (PB_CAP_CAP_SENT c.val)))
  else s.same

/-- CAP_WRITE_START (R165, R172). -/
def execCapWriteStart (s : State) : Host.Outcome State Fault Refusal :=
  if s.mayStart then
    match s.nextRec with
    | some q => .next (s.startWrite q.1 q.2.1)
    | none => s.same
  else s.same

/-- CAP_WRITE_COMPLETION (R166): the completion of the context's write, with success or an error status. -/
def execCapWriteCompletion (c : Fin 4096) (success : Bool) (s : State) : Host.Outcome State Fault Refusal :=
  .next (if success then s.writeDone c.val else s.writeFailed c.val)

/-- PB_UIO.TIMEOUT, 100 to 50,000 µs (R166). -/
def State.uioTimeout (s : State) : Nat := usec (clampNat 100 50000 (s.rd PB_UIO_TIMEOUT))

/-- CAP_WRITE_TIMEOUT (R166): a completion timeout, which AER reports too (R365). -/
def execCapWriteTimeout (c : Fin 4096) (s : State) : Host.Outcome State Fault Refusal :=
  if s.since ((s.pbCtx c.val).flight.map (·.started)) s.uioTimeout then .next ((s.writeFailed c.val).aerNote true) else s.same

/-- LEASE_LAPSE (R167): the lease of the last completed record has run out. -/
def execLeaseLapse (c : Fin 4096) (s : State) : Host.Outcome State Fault Refusal :=
  if s.since (s.pbCtx c.val).leaseEnd 0 ∧ ¬ s.bit (PB_STATUS_LEASE_LAPSED c.val) then
    .next ((s.putBit (PB_STATUS_LEASE_LAPSED c.val) true).log 4 .leaseLapsed 1 [c.val])
  else s.same

/-- CAP_RECORD_EXPIRY (R173): a record unsent after its lease is discarded. -/
def execCapRecordExpiry (c : Fin 4096) (s : State) : Host.Outcome State Fault Refusal :=
  let x := s.pbCtx c.val
  match x.unsent with
  | some r =>
    if r.queuedAt + msec r.lease ≤ s.time then
      let s := ((s.setPbCtx c.val { x with unsent := none }).putBit (PB_STATUS_QUEUED c.val) false).incSat PB_DROPPED
      .next (if r.kind = .release then s.dropCtx c.val else s)
    else s.same
  | none => s.same

/-- OVER_CAP (R171): reported power above the cap for longer than 20 ms after confirmation. -/
def execOverCap (c : Fin 4096) (s : State) : Host.Outcome State Fault Refusal :=
  if s.since (s.pbCtx c.val).overSince (msec 20 + 1) ∧ ¬ s.bit (PB_STATUS_OVER_CAP c.val) then
    .next ((s.putBit (PB_STATUS_OVER_CAP c.val) true).note 4 .overCap 1 [c.val] 161)
  else s.same

/-- PB_BRAKE_FORCE_WRITE (R174). -/
def execPbBrakeForceWrite (v : BitVec 16) (s : State) : Host.Outcome State Fault Refusal :=
  .next (s.wr PB_BRAKE_FORCE v.toNat).senseBrakes

/-- BAR4_WRITE (R180, R181): a write in the post area is staged, POST_FLAGS its bit 0 alone; any other is discarded. DEDUCED: notes/assumptions/47.md.
-/
def execBar4Write (off : Nat) (v : BitVec 32) (s : State) : Host.Outcome State Fault Refusal :=
  if 0x104 ≤ off ∧ off < 0x250 ∧ off % 4 = 0 ∧ off ≠ 0x10C then
    .next (s.onPb fun y => { y with post := tinsert s.pb.post off (if off = 0x104 then v.toNat % 2 else v.toNat) })
  else s.same

/-- POST_SEQ_WRITE (R181, R163): the ACTIVE module commits the staged fields for the next boundary; any other role
reports KS_NOT_OWNER. A state that refuses budgets reports KS_STATE_CONFLICT. DEDUCED: notes/assumptions/47.md. -/
def execPostSeqWrite (v : BitVec 32) (s : State) : Host.Outcome State Fault Refusal :=
  if ¬ s.isActive then
    .next (s.onPb fun y => { y with postStatus := Ks.notOwner.code })
  else if s.sys.mode = .boot ∨ s.sys.mode = .service ∨ s.sys.mode = .failed then
    .next (s.onPb fun y => { y with postStatus := Ks.stateConflict.code })
  else
    let cs := s.postChanges
    let n := s.postClamps
    let tc := s.changesTc cs
    let s := (s.onPb fun y => { y with
      changes := y.changes ++ cs, postDue := some v.toNat, postTc := tc,
      postStatus := n * 65536 + (if n = 0 then Ks.ok.code else Ks.clamped.code) }).silenceRestart
    .next (s.forward 5 1 (leBytes 8 s.frame ++ leBytes 4 s.tickNow ++ leBytes 4 v.toNat ++
      s.pb.post.flatMap fun q => leBytes 4 q.1 ++ leBytes 4 q.2))

/-! ### The BAR4 status records (R180) -/

/-- Row status, 0x00 to 0x3F. -/
def State.bar4Row (s : State) : List Byte :=
  leBytes 4 1 ++ leBytes 4 (s.sys.role.code * 256 + s.sys.mode.code) ++ leBytes 8 s.frame ++
    leBytes 4 s.pb.rowBudget ++ leBytes 4 (s.capSum s.ctxs) ++ leBytes 4 (s.powerSum s.ctxs) ++
    leBytes 4 (s.pb.tripBrakes * 65536 + s.brakeLines) ++ leBytes 8 s.pb.emergencyEpoch ++
    leBytes 4 (s.rd PB_UNCONFIRMED * 65536 + (s.pb.ctx.filter fun q => q.2.unsent.isSome).length) ++
    leBytes 4 s.admitted.length ++ zeros 16

/-- Rack status. -/
def State.bar4Rack (s : State) (r : Nat) : List Byte :=
  leBytes 4 (s.rd (PB_RACK_BUDGET r)) ++ leBytes 4 (tget 0 s.pb.eRack r) ++ leBytes 4 (s.capSum (s.rackCtxs r)) ++
    leBytes 4 (s.powerSum (s.rackCtxs r)) ++ leBytes 4 (s.rd (PB_RACK_KFLOW r)) ++
    leBytes 4 (2 * b2n (s.rackIsolated r) + b2n (bitOf s.brakeLines r)) ++ leBytes 4 (s.rackGroups r).length ++ zeros 36

/-- Group status. -/
def State.bar4Group (s : State) (g : Nat) : List Byte :=
  leBytes 4 (s.rd (PB_GROUP_BUDGET g)) ++ leBytes 4 (tget 0 s.pb.eGrp g) ++ leBytes 4 (fracFloor (s.grpCeil g).val) ++
    leBytes 4 (s.capSum (s.groupCtxs g)) ++ leBytes 4 (s.powerSum (s.groupCtxs g)) ++
    leBytes 4 (s.rd (PB_GROUP_RACK g)) ++ leBytes 4 (s.groupCtxs g).length ++ leBytes 4 (tget 0 s.pb.grpTc g) ++ zeros 32

/-- Context status. -/
def State.bar4Ctx (s : State) (c : Nat) : List Byte :=
  let x := s.pbCtx c
  leBytes 4 (s.rd (PB_STATUS c)) ++ leBytes 4 (s.rd (PB_CAP c)) ++ leBytes 8 (s.rd64 (PB_APPLIED_EPOCH_LO c)) ++
    leBytes 8 (s.rd64 (PB_CONFIRMED_EPOCH_LO c)) ++ leBytes 8 (x.leaseEnd.getD 0) ++ leBytes 4 (s.rd (PB_BUDGET c)) ++
    leBytes 4 (s.powerW c) ++ leBytes 4 x.margin.toNat ++ leBytes 4 x.errors ++ zeros 16

end Sys2Proof.Machine
end

