-- ==== Sys2Proof/Machine/Vat.lean ====
section
/-! DEFINITION. The vat queues (spec 07): assembly, credits, banks, unpacking, sample queues, flush and reset. -/

namespace Sys2Proof.Machine

/-! ### Lines and banks (R184, R185) -/

/-- The tag of a line (R184). -/
def lineTag (first last : Bool) (valid source : Nat) : Nat :=
  b2n first * 2 ^ 31 + b2n last * 2 ^ 30 + valid * 2 ^ 23 + source

/-- The tag of a read that found no line: EMPTY, and RESET after a queue reset (R194, R199). -/
def emptyTag (reset : Bool) : Nat := 2 ^ 22 + b2n reset * 2 ^ 21

/-- A packet's bytes cut into lines of 64, the last padded with 0 (R184); `n` bounds the lines. -/
def toLines (source : Nat) (rcd : Option TRec) : Nat → Bool → List Byte → List VLine
  | 0, _, _ => []
  | n + 1, first, bs =>
    if bs.length ≤ 64 then
      [{ tag := lineTag first true bs.length source, bytes := bs ++ zeros (64 - bs.length), rcd := rcd }]
    else
      { tag := lineTag first false 64 source, bytes := bs.take 64, rcd := rcd } ::
        toLines source none n false (bs.drop 64)

/-- An ingest queue. -/
def State.iq (s : State) (q : Nat) : IQ := tget {} s.vq.iq q

/-- An ingest queue set, with its line counts. -/
def State.setIq (s : State) (q : Nat) (x : IQ) : State :=
  let s := (s.onVq fun y => { y with iq := tset {} s.vq.iq q x })
  let s := (s.wr (VQ_IQ_STAT_FILL_LINES q) (x.fill.length + x.late.length)).wr (VQ_IQ_STAT_READ_LINES q) x.read.length
  s.putBit (VQ_IQ_STAT_FLUSHING q) x.flushing

/-- A sample queue. -/
def State.sq (s : State) (q : Nat) : SQ := tget {} s.vq.sq q

/-- The lines a sample queue holds in both banks (R201). -/
def SQ.lines (x : SQ) : Nat := x.fill.length + x.read.length

/-- The count is at or above LEVEL; LEVEL 0 is never reached. Lines that stalled reads take in the cycle of their
commit do not count (R201). -/
def State.sqAbove (s : State) (q : Nat) (x : SQ) : Bool :=
  let level := s.rd (VQ_SQ_CTRL_LEVEL q)
  decide (0 < level) && decide (level ≤ x.lines - x.stalls.length)

/-- LEVEL written: ABOVE follows, and the doorbell waits for the next crossing (R201). -/
def State.relevel (s : State) (q : Nat) : State := s.putBit (VQ_SQ_STAT_ABOVE q) (s.sqAbove q (s.sq q))

/-- A sample queue set, with its line count; reaching LEVEL from below posts the level doorbell once (R201). -/
def State.setSq (s : State) (q : Nat) (x : SQ) : State :=
  let above := s.sqAbove q x
  let was := s.bit (VQ_SQ_STAT_ABOVE q)
  let s := (s.onVq fun y => { y with sq := tset {} s.vq.sq q x })
  let s := ((s.wr (VQ_SQ_STAT_LINES q) x.lines).putBit (VQ_SQ_STAT_ABOVE q) above).putBit
    (VQ_SQ_STAT_FLUSHING q) x.flushing
  if above ∧ ¬ was then s.post (s.rd VQ_NOTICE_BASE + 64 + q) else s

/-- The packet timeout in counts, 10 to 10,000 µs (R198). -/
def State.pktTimeout (s : State) : Nat := usec (clampNat 10 10000 (s.rd VQ_PKT_TIMEOUT))

/-! ### Credits (R188 to R190) -/

/-- Outstanding credits: GRANT_CUM − RETURNED_CUM modulo 2³² (R188). -/
def State.outstanding (s : State) (c : Nat) : Nat :=
  (s.rd (VQ_CR_GRANT_CUM c) + 2 ^ 32 - s.rd (VQ_CR_RETURNED_CUM c)) % 2 ^ 32

/-- GRANT_CUM raised until the outstanding count equals QUOTA, never above it (R190). -/
def State.raiseGrant (s : State) (c : Nat) : State :=
  let q := s.rd (VQ_CR_QUOTA c)
  let o := s.outstanding c
  let s := if o < q then s.wr (VQ_CR_GRANT_CUM c) (s.rd (VQ_CR_GRANT_CUM c) + (q - o)) else s
  s.wr (VQ_CR_STAT c) (min (s.outstanding c) 31)

/-- `n` lines of a context returned (R190). -/
def State.returnLines (s : State) (c n : Nat) : State :=
  if n = 0 then s else (s.wr (VQ_CR_RETURNED_CUM c) (s.rd (VQ_CR_RETURNED_CUM c) + n)).raiseGrant c

/-- Lines that USED_CUM may still grow by, in serial-number arithmetic (R188, R189). -/
def State.creditLeft (s : State) (c : Nat) : Nat :=
  let d := (s.rd (VQ_CR_GRANT_CUM c) + 2 ^ 32 - s.rd (VQ_CR_USED_CUM c)) % 2 ^ 32
  if d < 2 ^ 31 then d else 0

/-- Every line of a list returned to its context (R190, R197). DESIGN CHOICE: notes/assumptions/103.md. -/
def State.returnAll (s : State) (ls : List VLine) : State :=
  ls.foldl (fun s l => s.returnLines (l.tag % 4096) 1) s

/-! ### Ingest assembly (R189, R203) -/

/-- WORDS of a header word (R204). -/
def hdrWords (h : Nat) : Nat := bitsOf h 11 8

/-- The lines of a record with a header (R184): ceil(8 × (WORDS + 1) / 64). -/
def hdrLines (h : Nat) : Nat := (hdrWords h + 1 + 7) / 8

/-- The assembly slot `2 × context + slot`. -/
def State.asm (s : State) (a : Nat) : Asm := tget {} s.vq.asm a

/-- An assembly slot set. -/
def State.setAsm (s : State) (a : Nat) (x : Asm) : State := (s.onVq fun y => { y with asm := tset {} s.vq.asm a x })

/-- The packet in assembly is cut off: its charge returned, TIMEOUTS counted (R198, R203). -/
def State.cutAsm (s : State) (a : Nat) : State :=
  let x := s.asm a
  let c := a / 2
  ((s.setAsm a {}).returnLines c x.charged).incSat (VQ_IQ_TIMEOUTS (c / 64))

/-- The words of a complete record, word 0 first. -/
def Asm.list (x : Asm) : List Nat := (upto (hdrWords (tget 0 x.words 0) + 1)).map fun k => tget 0 x.words k

/-- A record is complete when its header and words 1 to WORDS have arrived (R203). DESIGN CHOICE:
notes/assumptions/95.md. -/
def Asm.complete (x : Asm) : Bool :=
  match tfind x.words 0 with
  | some h => (upto (hdrWords h + 1)).all fun k => (tfind x.words k).isSome
  | none => false

/-- The lines of a record (R184). -/
def TRec.lines (r : TRec) : List VLine := toLines r.ctx (some r) 3 true (r.words.flatMap (leBytes 8))

/-- A record committed whole to the filling bank of its queue (R185), or with `late` to the bank that fills from the
boundary at this count (R14); its notice is posted (R200). While a flush is under way it is discarded instead (R197).
-/
def State.commitLines (s : State) (r : TRec) (late : Bool) : State :=
  let q := r.ctx / 64
  let x := s.iq q
  if x.flushing then (s.returnAll r.lines).addSat (VQ_IQ_FLUSHED q) r.lines.length
  else
    (s.setIq q (if late then { x with late := x.late ++ r.lines } else { x with fill := x.fill ++ r.lines })).post
      (s.rd VQ_NOTICE_BASE + q)

/-- The present count is a boundary whose FRAME_BOUNDARY is still to come (R14, R185). -/
def State.beforeSwap (s : State) : Bool := s.onBoundary && s.sys.lastFrame != some s.time

/-- The frame that a record completing now belongs to: the next one, and at a boundary the one after that frame (R14).
-/
def State.recFrame (s : State) : Nat := s.frame + 1 + b2n s.beforeSwap

/-- A complete record of a context committed, and forwarded to the standby with its frame (R185, R205). -/
def State.commitRec (s : State) (r : TRec) : State :=
  let t := s.commitLines r s.beforeSwap
  if (s.iq (r.ctx / 64)).flushing then t
  else t.forward 2 0 (leBytes 2 r.ctx ++ zeros 2 ++ leBytes 4 t.tickNow ++ leBytes 8 r.frame ++ r.words.flatMap (leBytes 8))

/-- A header word arrives in a slot: an incomplete record that already has a header ends; the new record is charged,
or refused (R189, R203). -/
def State.headerWord (s : State) (a h : Nat) : State :=
  let s := if (tfind (s.asm a).words 0).isSome then s.cutAsm a else s
  let x : Asm := if (s.asm a).refused.isSome then {} else s.asm a
  let c := a / 2
  let n := hdrLines h
  if s.creditLeft c < n then
    (s.setAsm a { refused := some s.time }).incSat (VQ_IQ_VIOL (c / 64))
  else
    let s := s.wr (VQ_CR_USED_CUM c) (s.rd (VQ_CR_USED_CUM c) + n)
    let extra := (x.words.filter fun p => decide (hdrWords h < p.1)).length
    let keep := x.words.filter fun p => decide (p.1 ≤ hdrWords h)
    let s := s.addSat (VQ_IQ_BADWR (c / 64)) extra
    s.setAsm a { x with words := tinsert keep 0 h, since := some (x.since.getD s.time), charged := n }

/-- A word other than the header arrives in a slot (R203). -/
def State.bodyWord (s : State) (a k v : Nat) : State :=
  let x := s.asm a
  let refusedNow := match x.refused with
    | some t => decide (s.time < t + s.pktTimeout)
    | none => false
  if refusedNow then s
  else
    let x : Asm := if x.refused.isSome then {} else x
    match tfind x.words 0 with
    | some h =>
      if hdrWords h < k then s.incSat (VQ_IQ_BADWR (a / 2 / 64))
      else s.setAsm a { x with words := tinsert x.words k v }
    | none => s.setAsm a { x with words := tinsert x.words k v, since := some (x.since.getD s.time) }

/-- One 64-bit word put into a slot. -/
def State.asmPut (s : State) (a k v : Nat) : State := if k = 0 then s.headerWord a v else s.bodyWord a k v

/-- A slot's record committed in the cycle in which it becomes complete (R185). -/
def State.asmCommit (s : State) (a : Nat) : State :=
  if (s.asm a).complete then
    (s.setAsm a {}).commitRec { ctx := a / 2, frame := s.recFrame, words := (s.asm a).list }
  else s

/-- The words of a write, in order, from word `k` of a slot on; `n` bounds the words. `done` is the last word of a
record that this write has completed: words beyond it are discarded and counted in BADWR (R203). -/
def State.asmWords (s : State) (a k : Nat) (done : Option Nat) : Nat → List Byte → State
  | 0, _ => s
  | n + 1, bs =>
    if bs.isEmpty then s
    else if done.any fun w => decide (w < k) then
      (s.incSat (VQ_IQ_BADWR (a / 2 / 64))).asmWords a (k + 1) done n (bs.drop 8)
    else
      let t := s.asmPut a k (leNat (bs.take 8))
      let x := t.asm a
      (t.asmCommit a).asmWords a (k + 1) (if x.complete then some (hdrWords (tget 0 x.words 0)) else done) n (bs.drop 8)

/-- A write breaks a rule of R203 and is discarded. -/
def State.badBar2 (s : State) (off len : Nat) : Bool :=
  let c := off / 4096
  let p := off % 4096
  len < 8 || 128 < len || len % 8 != 0 || off % 8 != 0 || 0x100 ≤ p || p / 128 != (p + len - 1) / 128 ||
    !s.bit (PB_CFG_VALID c) || !s.bit VQ_CTRL_IQ_EN || !s.bit (VQ_IQ_CTRL_ENABLE (c / 64))

/-- BAR2_WRITE (R203, R205): accepted only with VQ_CTRL.ACCEPT, which follows the ACTIVE role. -/
def execBar2Write (off : Nat) (bytes : List (BitVec 8)) (s : State) : Host.Outcome State Fault Refusal :=
  if ¬ s.bit VQ_CTRL_ACCEPT then .next (s.incSat VQ_STBY_DISCARD)
  else if 4096 * 4096 ≤ off then s.same
  else if s.badBar2 off bytes.length then .next (s.incSat (VQ_IQ_BADWR (off / 4096 / 64)))
  else .next (s.asmWords (2 * (off / 4096) + off % 4096 / 128) (off % 128 / 8) none 16 bytes)

/-- A read of 8 bytes of BAR2 (R202): GRANT_CUM with GEN, USED_CUM with LAST_SEQ; every other offset reads 0. No command
of the block reads BAR2; this is what a host's read returns. -/
def State.bar2Read (s : State) (off : Nat) : Nat :=
  let c := off / 4096
  match off % 4096 with
  | 0xF00 => s.rd (VQ_CR_GRANT_CUM c) + 2 ^ 32 * s.rd (VQ_CR_GEN c)
  | 0xF08 => s.rd (VQ_CR_USED_CUM c) + 2 ^ 32 * s.rd (VQ_CR_LAST_SEQ c)
  | _ => 0

/-- The packet in a context's assembly slot is still incomplete after its time; the words of a refused record are
forgotten (R198, R203). -/
def State.ingestTimeout (s : State) (c a : Nat) : State :=
  if s.since (s.asm a).refused s.pktTimeout then s.setAsm a {}
  else if s.since (s.asm a).since s.pktTimeout then (s.cutAsm a).log 5 .packetTimeout 0 [c]
  else s

/-- The packet in assembly of a sample queue is still incomplete after its time (R198). -/
def State.sampleTimeout (s : State) (q : Nat) : State :=
  if s.since (s.sq q).since s.pktTimeout then
    ((s.setSq q { s.sq q with since := none, marked := false }).incSat (VQ_SQ_TIMEOUTS q)).log 5 .packetTimeout 0 [4096 + q]
  else s

/-- PACKET_TIMEOUT (R198): of a context's assembly slot A or B, or of a sample queue, which has one packet in assembly. -/
def execPacketTimeout (p : PktRef) (slotB : Bool) (s : State) : Host.Outcome State Fault Refusal :=
  match p with
  | .ingest c => .next (s.ingestTimeout c (2 * c + b2n slotB))
  | .sample q => .next (s.sampleTimeout q)

/-! ### The frame unpacker (R186, R190, R196) -/

/-- The two banks of every ingest queue exchange roles (R186); lines not yet read stay in front, and lines committed at
this count go to the bank that fills now (R185). DEDUCED: notes/assumptions/49.md. -/
def State.ingestSwap (s : State) : State :=
  let s := (upto 64).foldl (fun s q =>
    let x := s.iq q
    if x.fill.isEmpty ∧ x.late.isEmpty then s
    else s.setIq q { x with read := x.read ++ x.fill, fill := x.late, late := [] }) s
  s.onVq fun y => { y with unpacking := true, unpacked := false }

/-- A record passes the unpacker's checks (R196, R204). -/
def recOk (r : TRec) : Bool :=
  let h := r.words.getD 0 0
  bitsOf h 7 0 == 1 && bitsOf h 27 16 == r.ctx && decide (4 ≤ hdrWords h) &&
    fisFin (r.half 2 false) && fisFin (r.half 2 true) && fisFin (r.half 3 false)

/-- SEQ of a record. -/
def TRec.seq (r : TRec) : Nat := r.words.getD 0 0 / 2 ^ 32

/-- The record with the largest SEQ of a context (R196). -/
def newestOf (rs : List TRec) (c : Nat) : Option TRec :=
  rs.foldl (fun o r =>
    if r.ctx = c then
      match o with
      | none => some r
      | some p => if p.seq ≤ r.seq then some r else some p
    else o) none

/-- Whether the reported power of a context lies above its confirmed cap (R171). DESIGN CHOICE:
notes/assumptions/102.md. -/
def State.overCapNow (s : State) (c : Nat) : Bool :=
  (s.pbCtx c).everSent && decide ((s.pbCtx c).lastEpoch ≤ s.rd64 (PB_CONFIRMED_EPOCH_LO c)) &&
    flt (f32OfInt (s.capNow c)) (s.power c)

/-- The stamp from which OVER_CAP is timed. -/
def State.stampOver (s : State) (c : Nat) : State :=
  let x := s.pbCtx c
  s.setPbCtx c { x with overSince := if s.overCapNow c then some (x.overSince.getD s.time) else none }

/-- The loop slot record of a slot. -/
def State.slot (s : State) (k : Nat) : LSlot := tget {} s.le.slots k

/-- The loop slot record set. -/
def State.setSlot (s : State) (k : Nat) (x : LSlot) : State := (s.onLe fun y => { y with slots := tset {} s.le.slots k x })

/-- The newest record of a context delivered to the engine and the broker (R196, R171, R42): CTX_SILENT clears, and the
slot resumes with a hand-over from its kept outputs. -/
def State.deliver (s : State) (c : Nat) (r : TRec) : State :=
  let s := (s.onVq fun y => { y with newest := tset none s.vq.newest c (some r), silent := tset 0 s.vq.silent c 0 })
  let s := (s.wr (VQ_CR_LAST_SEQ c) r.seq).wr64 (PB_CONFIRMED_EPOCH_LO c) (r.words.getD 4 0)
  let first := s.bit (SL_FLAGS_CTX_SILENT c)
  let s := (s.putBit (SL_FLAGS_CTX_SILENT c) false).putBit (PB_STATUS_SILENT c) false
  let s := if first then s.setSlot c { s.slot c with handDue := true } else s
  s.forward 6 1 (leBytes 2 c ++ zeros 2 ++ leBytes 8 (r.words.getD 4 0))

/-- One more frame without a record for a context (R42). -/
def State.missRecord (s : State) (c : Nat) : State :=
  if s.frame < s.tw.graceEnd ∨ s.tw.silentRestart then s
  else (s.onVq fun y => { y with silent := tset 0 s.vq.silent c (tget 0 s.vq.silent c + 1) })

/-- The unpacking of a frame: every line read and returned, every record checked, the newest of each context
delivered (R186, R190, R196). -/
def State.unpack (s : State) : State :=
  let ls := (upto 64).flatMap fun q => (s.iq q).read
  let s := (upto 64).foldl (fun s q => if (s.iq q).read.isEmpty then s else s.setIq q { s.iq q with read := [] }) s
  let s := s.returnAll ls
  let rs := ls.filterMap (·.rcd)
  let good := rs.filter recOk
  let s := s.addSat VQ_BADREC (rs.length - good.length)
  let s := (s.onVq fun y => { y with toCellar := s.vq.toCellar ++ good, unpacking := false, unpacked := true })
  let s := s.admitted.foldl (fun s c =>
    (match newestOf good c with
      | some r => s.deliver c r
      | none => s.missRecord c).stampOver c) s
  s.confirmCaps

/-- UNPACK_COMPLETE (R186): the unpacker has read the read banks of the frame. -/
def execUnpackComplete (s : State) : Host.Outcome State Fault Refusal :=
  if s.vq.unpacking then .next s.unpack else s.same

/-! ### Sample queues (R187, R193, R194) -/

/-- The banks of a sample queue swap when the read bank is empty and the filling one holds a packet (R187). DEDUCED:
notes/assumptions/49.md. -/
def SQ.swap (x : SQ) : SQ := if x.read.isEmpty then { x with read := x.fill, fill := [] } else x

/-- A packet of 32-bit words committed to a sample queue, or dropped for lack of credits (R187, R193); words 0 and 1 as
R206 gives them. Discarded while a flush is under way (R197). DEDUCED: notes/assumptions/49.md. DESIGN CHOICE:
notes/assumptions/103.md. -/
def State.samplePacketAt (s : State) (q stream stamp : Nat) (payload : List Nat) : State :=
  let x := s.sq q
  let words := (stream * 2 ^ 24 + (payload.length + 1) * 2 ^ 16 + x.seq % 65536) :: stamp % 2 ^ 32 :: payload
  let ls := toLines stream none 3 true (words.flatMap (leBytes 4))
  if ¬ s.bit VQ_CTRL_SQ_EN ∨ ¬ s.bit (VQ_SQ_CTRL_ENABLE q) then s
  else if x.credits < ls.length then s.incSat (VQ_SQ_OVERRUN q)
  else if x.flushing then s.setSq q { x with seq := (x.seq + 1) % 65536 }
  else s.setSq q { x with fill := x.fill ++ ls, credits := x.credits - ls.length, seq := (x.seq + 1) % 65536 }

/-- A packet stamped with the present count. -/
def State.samplePacket (s : State) (q stream : Nat) (payload : List Nat) : State :=
  s.samplePacketAt q stream s.time payload

/-- The sample queues routed to a stream (R187, R206: SQ28 to SQ31 are fixed to the field bus). -/
def State.routed (s : State) (stream : Nat) : List Nat := (upto 28).filter fun q => s.rd (VQ_SQ_SRC q) == stream

/-- A stream's packet, its first sample taken at `stamp`, to every sample queue routed to it (R206); a STANDBY's own
samples feed no queue (R327). DESIGN CHOICE: notes/assumptions/50.md. -/
def State.publishAt (s : State) (stream stamp : Nat) (payload : List Nat) : State :=
  let s := if s.sys.role = .standby then s
    else (s.routed stream).foldl (fun s q => s.samplePacketAt q stream stamp payload) s
  s.forward 3 0 (leBytes 2 stream ++ leBytes 2 s.tickNow ++ leBytes 4 stamp ++ payload.flatMap (leBytes 4))

/-- A packet of one sample taken now. DESIGN CHOICE: notes/assumptions/50.md. -/
def State.publish (s : State) (stream : Nat) (payload : List Nat) : State := s.publishAt stream s.time payload

/-- A packet begun and left incomplete: the first words of it wait in assembly (R185, R198). DEDUCED:
notes/assumptions/49.md. -/
def State.beginPacket (s : State) (stream : Nat) : State :=
  (s.routed stream).foldl (fun s q =>
    if ¬ s.bit VQ_CTRL_SQ_EN ∨ ¬ s.bit (VQ_SQ_CTRL_ENABLE q) then s
    else s.setSq q { s.sq q with since := some ((s.sq q).since.getD s.time) }) s

/-! ### CAN receive streams (R193, R278, R298) -/

/-- A CAN channel beside its registers. -/
def State.fbCh (s : State) (n : Nat) : FbCh := tget {} s.fb.ch n

/-- A CAN channel's part set. -/
def State.setFbCh (s : State) (n : Nat) (x : FbCh) : State := s.onFb fun y => { y with ch := tset {} y.ch n x }

/-- A message buffer beside its registers. -/
def State.fbBuf (s : State) (n m : Nat) : FbBuf := tget {} s.fb.buf (64 * n + m)

/-- A message buffer's part set. -/
def State.setFbBuf (s : State) (n m : Nat) (x : FbBuf) : State :=
  s.onFb fun y => { y with buf := tset {} y.buf (64 * n + m) x }

/-- Data bytes of a DLC (R274): classic frames hold at most 8. -/
def dlcLen (fd : Bool) (dlc : Nat) : Nat :=
  if fd then [0, 1, 2, 3, 4, 5, 6, 7, 8, 12, 16, 20, 24, 32, 48, 64].getD dlc 64 else min dlc 8

/-- Words 2 on of the packet of a stored frame (R298). -/
def State.fbPacket (s : State) (n m : Nat) : List Nat :=
  let w0 := s.rd (FB_MBDATA n m 0)
  let w1 := s.rd (FB_MBDATA n m 1)
  let len := if bitOf w0 30 then 0 else dlcLen (bitOf w1 27) (w1 / 2 ^ 28)
  w0 :: w1 :: m :: (upto ((len + 3) / 4)).map fun k => s.rd (FB_MBDATA n m (2 + k))

/-- The oldest HELD buffer of a channel. -/
def State.oldestHeld (s : State) (n : Nat) : Option Nat :=
  (upto 64).foldl (fun o m =>
    if s.rd (FB_MBSTAT_STATE n m) = 6 then
      match o with
      | some k => if (s.fbBuf n m).sof < (s.fbBuf n k).sof then some m else o
      | none => some m
    else o) none

/-- HELD buffers committed to the channel's sample queue while its credits last; each returns to EMPTY (R278). -/
def State.heldCommit (s : State) (n : Nat) : Nat → State
  | 0 => s
  | k + 1 =>
    match s.oldestHeld n with
    | some m =>
      let q := 28 + n
      let ws := s.fbPacket n m
      let need := (4 * (ws.length + 2) + 63) / 64
      if s.bit VQ_CTRL_SQ_EN && s.bit (VQ_SQ_CTRL_ENABLE q) && decide (need ≤ (s.sq q).credits) then
        ((s.samplePacketAt q (32 + n) (s.fbBuf n m).sof ws).wr (FB_MBSTAT_STATE n m) 0).heldCommit n k
      else s
    | none => s

/-- Credits of a sample queue have returned: a CAN channel's held frames follow. -/
def State.creditsBack (s : State) (q : Nat) : State := if 28 ≤ q then s.heldCommit (q - 28) 64 else s

/-- SAMPLE_BANK_SWAP (R187). -/
def execSampleBankSwap (q : Fin 32) (s : State) : Host.Outcome State Fault Refusal :=
  .next (s.setSq q.val (s.sq q.val).swap)

/-- The read window of a sample queue set to a line's sixteen words (R194). -/
def State.setWindow (s : State) (q : Nat) (bs : List Byte) : State :=
  (upto 16).foldl (fun s k => s.wr (VQ_SQ_WINDOW q k) (fieldLE bs (4 * k) 4)) s

/-- A pop ends with a tag: its reader's reply and the window. -/
def State.popEnd (s : State) (q : Nat) (r : SqReader) (tag : Nat) (bs : List Byte) : State :=
  let x := s.sq q
  let s := s.onVq fun y => { y with sq := tset {} y.sq q { x with
    stalls := x.stalls.filter fun w => w.reader != r, lastTag := tag, lastReader := some r } }
  (s.setWindow q bs).reply { body := leBytes 4 tag }

/-- A pop that ends with no line: EMPTY, and RESET after a queue reset; the window holds zeros (R194, R199). -/
def State.popEmpty (s : State) (q : Nat) (r : SqReader) (reset : Bool) : State := s.popEnd q r (emptyTag reset) (zeros 64)

/-- The next line of a sample queue taken by a reader, its credit returned (R194). DEDUCED: notes/assumptions/49.md. -/
def State.popLine (s : State) (q : Nat) (r : SqReader) : Option State :=
  let x := (s.sq q).swap
  match x.read with
  | [] => none
  | l :: rest => some ((s.setSq q { x with
      read := rest, credits := x.credits + 1, stalls := x.stalls.filter fun w => w.reader != r }).popEnd q r l.tag l.bytes)

/-- A stalled read's deadline has been reached, in serial-number arithmetic (R194). -/
def State.pastDeadline (s : State) (d : Nat) : Bool := decide ((s.time % 2 ^ 32 + 2 ^ 32 - d) % 2 ^ 32 < 2 ^ 31)

/-- A read that has begun ends at the latest now: its deadline, or 1,000 µs after it began (R194). -/
def State.stallOver (s : State) (w : SqStall) : Bool := s.pastDeadline w.deadline || decide (w.began + usec 1000 ≤ s.time)

/-- The deadline of a read: a core's is VQ_SQs_DEADLINE; the cellar engine's is the end of its service period, which is
the frame it works in (R194, R195, R354). DEDUCED: notes/assumptions/49.md. -/
def State.popDeadlineOf (s : State) (q : Nat) (r : SqReader) : Nat :=
  match r with
  | .core _ => s.rd (VQ_SQ_DEADLINE q)
  | .cellar => (s.time + s.frameCounts - s.time % max 1 s.frameCounts) % 2 ^ 32

/-- A read that finds no line waits (R194). DEDUCED: notes/assumptions/49.md. -/
def State.popStall (s : State) (q : Nat) (w : SqStall) : State :=
  s.onVq fun y => { y with sq := tset {} y.sq q { s.sq q with stalls := (s.sq q).stalls ++ [w] } }

/-- A reader waits in a stalled read of a queue: its bus access to the queue is held (R194). DEDUCED:
notes/assumptions/49.md. -/
def State.waitsAt (s : State) (q : Nat) (r : SqReader) : Bool := (s.sq q).stalls.any fun w => w.reader == r

/-- SQ_POP_READ (R194, R195): the next line, an immediate EMPTY when the deadline has passed, or a stall. A reader that
already waits at the queue makes no second read. DEDUCED: notes/assumptions/49.md. -/
def execSqPopRead (r : SqRead) (s : State) : Host.Outcome State Fault Refusal :=
  if s.waitsAt r.q r.reader then .next s
  else
    match s.popLine r.q r.reader with
    | some t => .next (t.creditsBack r.q)
    | none =>
      let d := s.popDeadlineOf r.q r.reader
      .next (if s.pastDeadline d then s.popEmpty r.q r.reader false
        else s.popStall r.q { reader := r.reader, began := s.time, deadline := d })

/-- POP_STALL_END (R194): the oldest stalled read completes when a line is committed. -/
def execPopStallEnd (q : Fin 32) (s : State) : Host.Outcome State Fault Refusal :=
  match (s.sq q).stalls with
  | w :: _ =>
    match s.popLine q w.reader with
    | some t => .next (t.creditsBack q)
    | none => .next s
  | [] => .next s

/-- POP_DEADLINE (R194): every stalled read of the queue that is over ends with EMPTY. -/
def execPopDeadline (q : Fin 32) (s : State) : Host.Outcome State Fault Refusal :=
  .next (((s.sq q).stalls.filter s.stallOver).foldl (fun t w => t.popEmpty q w.reader false) s)

/-! ### Flush and reset (R197, R199) -/

/-- The assembly slots of an ingest queue. -/
def State.queueAsms (s : State) (q : Nat) : List Nat := (s.vq.asm.map (·.1)).filter fun a => a / 128 == q

/-- FLUSH_REQUEST (R197): the packets in assembly are marked; no effect while FLUSHING. Queues 64 to 95 are the sample
queues. -/
def execFlushRequest (q : Fin 96) (s : State) : Host.Outcome State Fault Refusal :=
  if q.val < 64 then
    let x := s.iq q.val
    if x.flushing then s.same
    else
      let s := (s.queueAsms q.val).foldl (fun s a => s.setAsm a { s.asm a with marked := (s.asm a).since.isSome }) s
      .next (s.setIq q.val { x with flushing := true })
  else
    let x := s.sq (q.val - 64)
    if x.flushing then s.same
    else .next (s.setSq (q.val - 64) { x with flushing := true, marked := x.since.isSome })

/-- The flush point of an ingest queue: the unread lines of both banks discarded and returned (R197). -/
def State.flushIq (s : State) (q : Nat) : State :=
  let x := s.iq q
  let ls := x.read ++ x.fill ++ x.late
  (((s.setIq q {}).returnAll ls).addSat (VQ_IQ_FLUSHED q) ls.length).putBit (VQ_IQ_CTRL_FLUSH q) false

/-- The flush point of a sample queue. -/
def State.flushSq (s : State) (q : Nat) : State :=
  let x := s.sq q
  (s.setSq q { x with read := [], fill := [], credits := x.credits + x.lines, flushing := false }).putBit
    (VQ_SQ_CTRL_FLUSH q) false

/-- FLUSH_POINT (R197): every marked packet has completed or been cut off. -/
def execFlushPoint (q : Fin 96) (s : State) : Host.Outcome State Fault Refusal :=
  if q.val < 64 then
    if (s.iq q.val).flushing ∧ (s.queueAsms q.val).all (fun a => !(s.asm a).marked) then .next (s.flushIq q.val)
    else s.same
  else if (s.sq (q.val - 64)).flushing ∧ (s.sq (q.val - 64)).marked = false then .next ((s.flushSq (q.val - 64)).creditsBack (q.val - 64))
  else s.same

/-- An ingest queue reset (R199): banks and assembly slots discarded, every charged line returned. -/
def State.resetIq (s : State) (q : Nat) : State :=
  let x := s.iq q
  let s := (s.queueAsms q).foldl (fun s a => (s.setAsm a {}).returnLines (a / 2) (s.asm a).charged) s
  let s := ((s.setIq q {}).returnAll (x.read ++ x.fill ++ x.late)).putBit (VQ_IQ_STAT_RESET_SEEN q) true
  if q < 32 then s.wr VQ_RESET_LO (s.rd VQ_RESET_LO ||| 2 ^ q) else s.wr VQ_RESET_HI (s.rd VQ_RESET_HI ||| 2 ^ (q - 32))

/-- A sample queue reset (R199): stalled reads complete at once with EMPTY and RESET. -/
def State.resetSq (s : State) (q : Nat) : State :=
  let x := s.sq q
  let s := (s.setSq q { x with
    read := [], fill := [], credits := 128, flushing := false, since := none, marked := false }).putBit
    (VQ_SQ_STAT_RESET_SEEN q) true
  let s := s.wr VQ_RESET_SQ (s.rd VQ_RESET_SQ ||| 2 ^ q)
  x.stalls.foldl (fun s w => s.popEmpty q w.reader true) s

/-- QUEUE_RESET (R199): a pointer copy of the queue mismatches. -/
def execQueueReset (q : Fin 96) (s : State) : Host.Outcome State Fault Refusal :=
  let s := if q.val < 64 then s.resetIq q.val else (s.resetSq (q.val - 64)).creditsBack (q.val - 64)
  .next ((s.incSat VQ_PTRERR_COUNT).note 5 .queueReset 1 [q.val] (s.rd VQ_NOTICE_BASE + 96))

end Sys2Proof.Machine
end

