-- ==== Sys2Proof/Machine/Solenoid.lean ====
section
/-! DEFINITION. The solenoid drivers (spec 10): requests, peaks, diagnostics, valve sequences. -/

namespace Sys2Proof.Machine

/-- The internal state of a channel. -/
def State.svCh (s : State) (n : Nat) : SvCh := tget {} s.sv.ch n

/-- The internal state of a channel set. -/
def State.setSvCh (s : State) (n : Nat) (x : SvCh) : State := (s.onSv fun y => { y with ch := tset {} s.sv.ch n x })

/-- The internal state of a group. -/
def State.svGrp (s : State) (g : Nat) : SvGrp := tget {} s.sv.grp g

/-- The internal state of a group set. -/
def State.setSvGrp (s : State) (g : Nat) (x : SvGrp) : State := (s.onSv fun y => { y with grp := tset {} s.sv.grp g x })

/-- STATE of a channel (R273). -/
def State.svSt (s : State) (n : Nat) : Nat := s.rd (SV_CHSTAT_STATE n)

/-- The channel is in use and the drivers run (R273). -/
def State.svUsed (s : State) (n : Nat) : Bool := s.bit SV_CTRL_ENABLE && s.bit (SV_CHCFG_ENABLE n)

/-- The channel's switch is on: PEAK, CLOSED or CLOSED_UNCONFIRMED. -/
def State.svOn (s : State) (n : Nat) : Bool := s.svSt n == 2 || s.svSt n == 3 || s.svSt n == 4

/-- The rack a channel serves, if any (R273: 16 to 30 applied as 31). -/
def State.svRack (s : State) (n : Nat) : Option Nat :=
  let r := s.rd (SV_CHCFG_RACK n)
  if r < 16 then some r else none

/-- The supply and return channels of a rack in use (R428; ROLE 3 applied as 0). -/
def State.rackChannels (s : State) (r : Nat) : List Nat :=
  (upto 36).filter fun n =>
    s.svUsed n && s.svRack n == some r && (s.rd (SV_CHCFG_ROLE n) == 1 || s.rd (SV_CHCFG_ROLE n) == 2)

/-- The four channels of a group. -/
def groupChs (g : Nat) : List Nat := [4 * g, 4 * g + 1, 4 * g + 2, 4 * g + 3]

/-- The rack that a leak channel names: rope k at key k, point j at key 16 + j (R252). -/
def State.leakRack (s : State) (k : Nat) : Nat := if k < 16 then s.rd (LK_ROPECFG_RACK k) else s.rd (LK_PTCFG_RACK (k - 16))

/-- The state of a leak channel (R252). -/
def State.leakState (s : State) (k : Nat) : Nat :=
  if k < 16 then s.rd (LK_ROPESTAT_STATE k) else s.rd (LK_PTSTAT_STATE (k - 16))

/-- A trip filter names the rack and its node reports the channel wet or confirmed (R293). DEDUCED:
notes/assumptions/74.md. -/
def State.nodeLeaks (s : State) (r : Nat) : Bool :=
  (upto 4).any fun n => (upto 16).any fun k =>
    s.bit (FB_TRIP_EN n k) && s.rd (FB_TRIP_RACK n k) == r &&
      let st := tget 0 (s.fbCh n).leakState (16 * s.rd (FB_TRIP_NODE n k) + s.rd (FB_TRIP_NODE_CH n k))
      st == 1 || st == 2

/-- Some channel that names the rack is WET or CONFIRMED, local or of a node (R250, R293). -/
def State.rackLeaks (s : State) (r : Nat) : Bool :=
  (upto 32).any (fun k => s.leakRack k == r && (s.leakState k == 1 || s.leakState k == 2)) || s.nodeLeaks r

/-- Some channel that names the channel's rack is WET or CONFIRMED (R263). -/
def State.chLeaks (s : State) (n : Nat) : Bool :=
  match s.svRack n with
  | some r => s.rackLeaks r
  | none => false

/-! ### Events (R268, R272) -/

/-- The stream 16 packet of a valve event (R272). -/
def State.svEvent (s : State) (n ev : Nat) : State :=
  let x := s.svCh n
  let dur := match x.peakFrom with
    | some t => min ((x.peakEnd.getD s.time - t) / 1000) 65535
    | none => 0
  s.publish 16 [n * 2 ^ 24 + ev * 2 ^ 16 + bitsOf (s.rd (SV_CHSTAT n)) 8 0,
    s.rd (SV_CHKINK_TIME n) * 2 ^ 16 + dur, min (x.waited / 100000) 65535 * 2 ^ 16 + s.rd (SV_CHKINK_DEPTH n)]

/-- A result logged with the solenoid doorbell (R268). -/
def State.svNote (s : State) (ev : Ev) (n : Nat) : State := s.note 7 ev 1 [n] 195

/-- A result at a channel: its fault bit, the record with the doorbell, the event of stream 16 (R268, R272). -/
def State.svBit (s : State) (n : Nat) (f : RF) : State := ((s.putBit f true).svNote .valveFault n).svEvent n 4

/-- A result that visits give: one that only persists, its bit still set, gives no new record (R268). -/
def State.svVisitBit (s : State) (n : Nat) (f : RF) (fresh : Bool) : State :=
  if fresh || !s.bit f then s.svBit n f else s

/-! ### Valve sequences (R270, R271) -/

/-- The sequence ends. -/
def State.seqEnd (s : State) (o : JOut) (detail : Nat) : State :=
  match s.sv.seqJournal with
  | some j => ((s.onSv fun y => { y with seqJournal := none, steps := [] }).journalEnd j o detail).log 7 .sequenceDone 0 [detail]
  | none => s

/-- A step in progress on a channel fails (R271). -/
def State.seqFail (s : State) (n : Nat) : State :=
  if s.sv.steps.any fun p => p.ch == n && p.phase == 1 then s.seqEnd .failed (bitsOf (s.rd (SV_CHSTAT n)) 8 0) else s

/-- The steps in progress on a channel with one of the actions are completed (R271). -/
def State.seqComplete (s : State) (n : Nat) (close : Bool) : State :=
  match s.sv.seqJournal with
  | none => s
  | some j =>
    let ps := s.sv.steps.map fun p =>
      if p.ch = n ∧ p.phase = 1 ∧ (p.action == 1) = close then { p with phase := 2, doneAt := s.time } else p
    let done := (ps.filter fun p => decide (2 ≤ p.phase)).length
    let s := (s.onSv fun y => { y with steps := ps })
    if done < ps.length then s.journalStep j done else s.onJournal j fun x => { x with done := done }

/-- The trip matrix takes a channel that an opening step of the sequence still needs (R271). -/
def State.seqTripped (s : State) (n : Nat) : State :=
  if s.sv.steps.any fun p => p.ch == n && p.phase ≤ 1 && p.action != 1 then s.seqEnd .aborted 0 else s

/-! ### The wait clock (R260, R262) -/

/-- A peak phase runs in a group. -/
def State.peakIn (s : State) (g : Nat) : Bool := s.bit (SV_GSTAT_PEAK_BUSY g)

/-- The peak phases in progress in the module. -/
def State.peaks (s : State) : List Nat := (upto 36).filter fun n => s.svSt n == 2

/-- PEAK_MAX, 2 to 9 (R260). -/
def State.peakMax (s : State) : Nat := clampNat 2 9 (s.rd SV_CTRL_PEAK_MAX)

/-- The first or second condition of R260 blocks a closing in a group. -/
def State.groupBlocks (s : State) (g : Nat) : Bool := s.peakIn g || decide (3000 < s.rd (SV_GCUR g) + 1600)

/-- The group's high side is held off (R268). -/
def State.heldOff (s : State) (g : Nat) : Bool := s.rd (SV_GSTAT_HS g) == 3

/-- The wait clock of one channel brought up to the present conditions. -/
def State.clockCh (s : State) (n : Nat) : State :=
  let x := s.svCh n
  let run := s.svSt n == 1 && s.groupBlocks (n / 4) && !s.heldOff (n / 4)
  match x.waitFrom with
  | some t => if run then s else s.setSvCh n { x with waitFrom := none, waited := x.waited + (s.time - t) }
  | none => if run then s.setSvCh n { x with waitFrom := some s.time } else s

/-- The wait clocks of every channel brought up to the present conditions. -/
def State.svClock (s : State) : State := (upto 36).foldl State.clockCh s

/-- The present reading of a channel's wait clock, in counts. -/
def State.waitNow (s : State) (n : Nat) : Nat :=
  let x := s.svCh n
  match x.waitFrom with
  | some t => x.waited + (s.time - t)
  | none => x.waited

/-! ### Switching -/

/-- The group's high side on. -/
def State.hsOn (s : State) (g : Nat) : State :=
  if s.rd (SV_GSTAT_HS g) = 1 then s
  else (s.wr (SV_GSTAT_HS g) 1).setSvGrp g { s.svGrp g with onSince := some s.time, idleFrom := none, repeatAt := none }

/-- The group's high side off once no channel of the group is on: a natural idle (R266). -/
def State.hsRest (s : State) (g : Nat) : State :=
  if (s.rd (SV_GSTAT_HS g) = 1 ∨ s.rd (SV_GSTAT_HS g) = 2) ∧ (groupChs g).all (fun n => !s.svOn n) then
    (s.wr (SV_GSTAT_HS g) 0).setSvGrp g { s.svGrp g with onSince := none, idleFrom := none, lastIdle := s.time, repeatAt := none }
  else s

/-- The peak of a group ends. -/
def State.endPeak (s : State) (n : Nat) : State :=
  if s.svSt n = 2 then s.putBit (SV_GSTAT_PEAK_BUSY (n / 4)) false else s

/-- A channel's switch off, entering a state (R259, R261, R268). -/
def State.svOff (s : State) (n st : Nat) : State :=
  let x := s.svCh n
  let ended := if s.svSt n = 2 then some s.time else x.peakEnd
  let s := s.endPeak n
  let s := (s.wr (SV_CHSTAT_STATE n) st).setSvCh n { x with onAt := none, offAt := some s.time, posDue := none, peakEnd := ended }
  (s.wr (SV_CHCUR n) 0).hsRest (n / 4)

/-- The channel goes to FAULT_OFF, a closing in progress failing: its peak phase, or its wait (R268). -/
def State.svFaultOff (s : State) (n : Nat) : State :=
  let was := s.svSt n
  let s := s.setSvCh n { s.svCh n with waited := s.waitNow n, waitFrom := none }
  let s := s.svOff n 6
  let s := if was = 1 ∨ was = 2 then s.svEvent n 2 else s
  (s.seqFail n).svClock

/-! ### Requests (R263) -/

/-- A closing request ends the forced idle test of the group (R266). -/
def State.idleBreak (s : State) (g : Nat) : State :=
  if s.rd (SV_GSTAT_HS g) = 2 then
    (s.wr (SV_GSTAT_HS g) 1).setSvGrp g { s.svGrp g with idleFrom := none, lastIdle := s.time,
                                                         repeatAt := some (s.time + secs 60) }
  else s

/-- The kink detection of a channel restarted (R257, R261). -/
def SvCh.noKink (x : SvCh) : SvCh := { x with kinkAt := none, kinkSeenAt := none, last := [], runMax := 0, runMin := none }

/-- The closing enters WAITING with its place in the order (R261). -/
def State.svWait (s : State) (n : Nat) (trip : Bool) : State :=
  let x := (s.svCh n).noKink
  let s := s.setSvCh n { x with trip := trip, order := s.sv.nextOrder, reqAt := s.time, waited := 0, waitFrom := none,
                                onAt := none, peakFrom := none, peakEnd := none }
  let s := (s.onSv fun y => { y with nextOrder := s.sv.nextOrder + 1 })
  (((s.wr (SV_CHSTAT_STATE n) 1).putBit (SV_CHSTAT_PREEMPTED n) false).idleBreak (n / 4)).svClock

/-- A closing request (R263): from OFF, OPENING and FAULT_OFF it waits under R260; a closing that waits is replaced, with
a wait clock and a place of its own, unless it is the trip matrix's and the new one is not (DESIGN CHOICE:
notes/assumptions/105.md); in the peak or closed only the origin can change. -/
def State.closeRequest (s : State) (n : Nat) (trip : Bool) : State :=
  if s.svUsed n then
    let st := s.svSt n
    if st = 0 ∨ st = 5 ∨ st = 6 ∨ st = 1 ∧ (trip = true ∨ (s.svCh n).trip = false) then s.svWait n trip
    else if trip then s.setSvCh n { s.svCh n with trip := true }
    else s
  else s

/-- An opening request (R263). -/
def State.openRequest (s : State) (n : Nat) : State :=
  if s.bit (SV_CHSTAT_TRIP_HELD n) then s
  else
    let st := s.svSt n
    let s := s.putBit (SV_CHCMD_CLOSE n) false
    if st = 1 then (((s.wr (SV_CHSTAT_STATE n) 0).setSvCh n { s.svCh n with tripped := false }).seqComplete n false).svClock
    else if st = 2 ∨ st = 3 ∨ st = 4 then (s.svOff n 5).svClock
    else s

/-- TRIP_HELD cleared by a write of RELEASE or a RELEASE_OPEN step (R263). -/
def State.svRelease (s : State) (n : Nat) : State := s.putBit (SV_CHSTAT_TRIP_HELD n) false

/-! ### Peaks (R256 to R261) -/

/-- A channel's peak preempted (R261). -/
def State.svPreempt (s : State) (n : Nat) : State :=
  let s := s.svOff n 1
  let s := (s.putBit (SV_CHSTAT_PREEMPTED n) true).setSvCh n (s.svCh n).noKink
  s.svEvent n 5

/-- Peak `n` started after peak `m`: later, or at the same count for a later request. -/
def State.startedAfter (s : State) (n m : Nat) : Bool :=
  let a := (s.svCh m).onAt.getD 0
  let b := (s.svCh n).onAt.getD 0
  decide (a < b) || a == b && decide ((s.svCh m).order < (s.svCh n).order)

/-- The non-trip peak of a list started last. -/
def State.lastStarted (s : State) (l : List Nat) : Option Nat :=
  l.foldl (fun o n =>
    match o with
    | none => some n
    | some m => if s.startedAfter n m then some n else some m) none

/-- A trip closing preempts the non-trip peak in its group, and the most recently started one where PEAK_MAX blocks it
(R261). -/
def State.tripPreempt (s : State) (n : Nat) : State :=
  let g := n / 4
  let s := ((groupChs g).filter fun m => s.svSt m == 2 && !(s.svCh m).trip).foldl State.svPreempt s
  let s := if s.peakMax ≤ s.peaks.length ∧ ¬ s.peakIn g then
      match s.lastStarted (s.peaks.filter fun m => !(s.svCh m).trip) with
      | some m => s.svPreempt m
      | none => s
    else s
  s.svClock

/-- A trip closing of one channel (R261, R263, R268): always attempted; it turns the high side of a group held off under
GRP_FAULT back on. -/
def State.tripClose (s : State) (n : Nat) : State :=
  let s := (s.seqTripped n).putBit (SV_CHSTAT_TRIP_HELD n) true
  let s := (s.putBit (SV_CHCMD_CLOSE n) true).setSvCh n { s.svCh n with tripped := true }
  let s := s.closeRequest n true
  let g := n / 4
  let s := if s.heldOff g ∧ s.bit (SV_GSTAT_GRP_FAULT g) then ((s.putBit (SV_GSTAT_GRP_FAULT g) false).hsOn g).svClock else s
  if s.svSt n = 1 ∧ ¬ s.heldOff g then s.tripPreempt n else s

/-- The trip matrix closes a rack's valves (R248, R428). -/
def State.tripRack (s : State) (r : Nat) : State := (s.rackChannels r).foldl State.tripClose s

/-- All three conditions of R260 hold for a waiting channel, and its group is in service. -/
def State.mayPeak (s : State) (n : Nat) : Bool :=
  s.svSt n == 1 && s.svUsed n && !s.groupBlocks (n / 4) && decide (s.peaks.length < s.peakMax) && !s.heldOff (n / 4)

/-- A waiting trip closing can start at once, or once it has preempted what it may preempt: the peak phase in its group,
and one of the module where PEAK_MAX blocks it (R261). -/
def State.tripMay (s : State) (n : Nat) : Bool :=
  let g := n / 4
  s.svSt n == 1 && s.svUsed n && (s.svCh n).trip && !s.heldOff g &&
    ((groupChs g).all fun m => s.svSt m != 2 || !(s.svCh m).trip) && (s.peakIn g || !s.groupBlocks g) &&
    (decide (s.peaks.length < s.peakMax) || s.peaks.any fun m => !(s.svCh m).trip)

/-- Waiting closing `m` comes before `n` (R261): trip closings first, then the earlier request; requests made at one
count, as by a leak that closes a rack's valves or by a WITH_NEXT set, go by channel number. -/
def State.svBefore (s : State) (m n : Nat) : Bool :=
  let a := s.svCh m
  let b := s.svCh n
  if a.trip != b.trip then a.trip
  else if a.reqAt != b.reqAt then decide (a.reqAt < b.reqAt)
  else decide (m < n)

/-- No closing that can start comes before `n`. -/
def State.peakTurn (s : State) (n : Nat) : Bool :=
  (upto 36).all fun m => m == n || !((s.mayPeak m || s.tripMay m) && s.svBefore m n)

/-- The channel is switched on into its peak phase (R256). -/
def State.startPeak (s : State) (n : Nat) : State :=
  let g := n / 4
  let x := (s.svCh n).noKink
  let s := (s.hsOn g).setSvCh n { x with onAt := some s.time, traceAt := some s.time, peakFrom := some s.time,
                                         peakEnd := none, checked := false, openRun := 0, gndRun := 0 }
  let s := ((s.wr (SV_CHSTAT_STATE n) 2).putBit (SV_CHSTAT_KINK_SEEN n) false).putBit (SV_GSTAT_PEAK_BUSY g) true
  (s.wr (SV_GSTAT_PEAK_CH g) (n % 4)).svClock

/-- One value of the filtered current, in quarters of a mA, past BLANK_MS (R257): the running maximum, the fall by
KINK_MA, the minimum, the rise by half of it. -/
def State.kinkFilter (s : State) (n v : Nat) : State :=
  let x := s.svCh n
  let k := 4 * clampNat 10 200 (s.rd SV_KINK_KINK_MA)
  match x.runMin with
  | none =>
    if v + k ≤ x.runMax then s.setSvCh n { x with runMin := some (v, s.time) }
    else s.setSvCh n { x with runMax := max x.runMax v }
  | some (m, t) =>
    if v < m then s.setSvCh n { x with runMin := some (v, s.time) }
    else if m * 2 + k ≤ v * 2 then
      let s := s.setSvCh n { x with kinkAt := some t, kinkSeenAt := some s.time, posDue := some (t + msec 100) }
      let s := (s.wr (SV_CHKINK_TIME n) (min ((t - x.onAt.getD t) / 1000) 65535)).wr (SV_CHKINK_DEPTH n)
        (min ((x.runMax - m) / 4) 4095)
      s.putBit (SV_CHSTAT_KINK_SEEN n) true
    else s

/-- One on-time sample of the peak phase, in mA (R257): the detector works on the sum, four times the mean, of it and
the three before it, and ignores the first BLANK_MS. -/
def State.kinkSample (s : State) (n ma : Nat) : State :=
  let x := s.svCh n
  let s := s.setSvCh n { x with last := (ma :: x.last).take 3 }
  if s.time < x.onAt.getD s.time + msec (clampNat 1 20 (s.rd SV_KINK_BLANK_MS)) ∨ x.kinkAt.isSome ∨ x.last.length < 3 then s
  else s.kinkFilter n (x.last.foldl (· + ·) ma)

/-- The peak phase is over: SEAT_MS after the kink is detected, or 60 ms after switch-on (R256). -/
def State.peakOver (s : State) (n : Nat) : Bool :=
  let x := s.svCh n
  s.since x.kinkSeenAt (msec (min (s.rd SV_KINK_SEAT_MS) 20)) || s.since x.onAt (msec 60)

/-- The closings of a channel counted (R273). DEDUCED: notes/assumptions/73.md. -/
def State.countClosing (s : State) (n : Nat) : State :=
  let c := s.rd (SV_CHCOUNT n) + 1
  (s.wr (SV_CHCOUNT n) c).onMg fun y => { y with closings := tset 0 y.closings n c }

/-- The hold phase entered (R256 to R258). -/
def State.endPeakPhase (s : State) (n : Nat) : State :=
  let x := s.svCh n
  let s := (s.endPeak n).setSvCh n { x with peakEnd := some s.time }
  let s := s.countClosing n
  match x.kinkAt with
  | some _ => (((s.wr (SV_CHSTAT_STATE n) 3).log 7 .valveClosed 0 [n]).svEvent n 0).seqComplete n true
  | none =>
    let s := s.wr (SV_CHSTAT_STATE n) 4
    let s := s.setSvCh n { s.svCh n with posDue := some (s.time + msec 100) }
    let s := ((s.putBit (SV_CHSTAT_NO_KINK n) true).svNote .kinkMissing n).svEvent n 1
    if s.sv.steps.any fun p => p.ch == n && p.phase == 1 && p.confirm then s.seqFail n else s.seqComplete n true

/-! ### Position (R259) -/

/-- The position input shows closed (R259, R273). -/
def State.posClosed (s : State) (n : Nat) : Bool :=
  bitOf (s.rd SN_DIN) (s.rd (SV_CHCFG_POS_DI n)) != s.bit (SV_CHCFG_POS_POL n)

/-- POS shows what the position input shows (R273). -/
def State.posShow (s : State) (n : Nat) : State :=
  s.putBit (SV_CHSTAT_POS n) (s.bit (SV_CHCFG_POS_EN n) && s.posClosed n)

/-- POS of every channel brought up to the inputs. -/
def State.posUpdate (s : State) : State := (upto 36).foldl State.posShow s

/-- A position other than the one due sets POS_MISMATCH (R259). -/
def State.posCheck (s : State) (n : Nat) (closed : Bool) : State :=
  let s := s.posShow n
  if s.bit (SV_CHCFG_POS_EN n) ∧ s.posClosed n ≠ closed then
    ((s.putBit (SV_CHSTAT_POS_MISMATCH n) true).svNote .posMismatch n).seqFail n
  else s

/-- REOPEN_MS, 40 to 500 (R259). -/
def State.reopenMs (s : State) : Nat := clampNat 40 500 (s.rd SV_TIMING_REOPEN_MS)

/-- OPENING ends: OFF, the position checked, the step completed (R259, R271). -/
def State.endOpening (s : State) (n : Nat) : State :=
  let s := (s.wr (SV_CHSTAT_STATE n) 0).setSvCh n { s.svCh n with tripped := (s.svCh n).tripped && s.bit (SV_CHSTAT_TRIP_HELD n) }
  ((s.log 7 .valveOpened 0 [n]).svEvent n 3).posCheck n false |>.seqComplete n false

/-- Every channel of the rack that the trip matrix closed has been released and reopened (R271). DEDUCED:
notes/assumptions/73.md. -/
def State.rackReopened (s : State) (r : Nat) : Bool := (s.rackChannels r).all fun n => !(s.svCh n).tripped

/-! ### Faults (R264 to R268) -/

/-- The high side off: every channel that was on holds its closing request and waits (R268). DEDUCED:
notes/assumptions/73.md. -/
def State.groupOff (s : State) (g : Nat) : State :=
  let on := (groupChs g).filter s.svOn
  let s := on.foldl (fun s n => (s.svOff n 1).setSvCh n ((s.svOff n 1).svCh n).noKink) s
  let s := (s.wr (SV_GSTAT_HS g) 3).putBit (SV_GSTAT_PEAK_BUSY g) false
  (s.setSvGrp g { s.svGrp g with onSince := none, passSince := none }).svClock

/-- SHORT_GND at a channel: a closing in progress on it, waiting or on, fails unless the channel is TRIP_HELD; so does a
step in progress on it (R268, R271). DEDUCED: notes/assumptions/73.md. -/
def State.svShortGnd (s : State) (n : Nat) (fresh : Bool) : State :=
  let g := n / 4
  let s := s.svVisitBit n (SV_CHSTAT_SHORT_GND n) fresh
  let s := if (s.svOn n ∨ s.svSt n = 1) ∧ ¬ s.bit (SV_CHSTAT_TRIP_HELD n) then s.svFaultOff n else s.seqFail n
  if (groupChs g).any fun m => s.bit (SV_CHSTAT_TRIP_HELD m) then s
  else if s.heldOff g then s
  else ((s.groupOff g).putBit (SV_GSTAT_GRP_FAULT g) true).log 7 .groupFault 1 [g]

/-- OPEN_LOAD at a channel: one that is on goes to FAULT_OFF, and a step in progress on it fails (R268, R271). -/
def State.svOpenLoad (s : State) (n : Nat) (fresh : Bool) : State :=
  let s := s.svVisitBit n (SV_CHSTAT_OPEN_LOAD n) fresh
  if s.svOn n then s.svFaultOff n else s.seqFail n

/-- Minutes since the last idle (R273). -/
def State.gidle (s : State) (g : Nat) : State :=
  s.wr (SV_GIDLE g) (min ((s.time - (s.svGrp g).lastIdle) / secs 60) 65535)

/-- One off-state reading of a channel counted (R264): OPEN_LOAD is a node below 0.3 V with the rail about 2.5 V, taken
as 2.0 to 3.0 V. DESIGN CHOICE: notes/assumptions/105.md. -/
def State.offReading (s : State) (n node rail supply : Nat) : State :=
  let hi (v : Nat) : Bool := decide (4 * supply < 5 * v)
  let sup := hi node && hi rail
  let gnd := decide (node < 300) && decide (rail < 300)
  let opn := decide (node < 300) && decide (2000 ≤ rail) && decide (rail ≤ 3000)
  let x := s.svCh n
  let y := { x with supRun := if sup then x.supRun + 1 else 0, gndRun := if gnd then x.gndRun + 1 else 0,
                    openRun := if opn then x.openRun + 1 else 0 }
  let s := s.setSvCh n y
  let g := n / 4
  let bad := sup || gnd || hi rail
  let s := s.setSvGrp g { s.svGrp g with passSince := if bad then none else some ((s.svGrp g).passSince.getD s.time) }
  if 3 ≤ y.supRun then s.svVisitBit n (SV_CHSTAT_SHORT_SUPPLY n) (y.supRun == 3)
  else if 3 ≤ y.gndRun then s.svShortGnd n (y.gndRun == 3)
  else if 3 ≤ y.openRun then s.svOpenLoad n (y.openRun == 3)
  else s

/-- The node of a channel and the rail of its group as measured. -/
def State.svMeasure (s : State) (n node rail : Nat) : State :=
  (s.wr (SV_CHNODE n) (min node 65535)).wr (SV_GNODE (n / 4)) (min rail 65535)

/-! ### Becoming ACTIVE (R269) -/

/-- One channel at the moment the module first drives the field. -/
def State.svActive (s : State) (n : Nat) : State :=
  let st := s.svSt n
  if st = 3 ∨ st = 4 then
    (s.hsOn (n / 4)).setSvCh n { s.svCh n with onAt := some s.time, traceAt := some s.time, checked := false }
  else if st = 2 then
    let s := s.endPeak n
    (s.wr (SV_CHSTAT_STATE n) 1).setSvCh n { (s.svCh n).noKink with onAt := none }
  else s

/-- Every channel at the moment the module first drives the field. -/
def State.svTakeOver (s : State) : State := ((upto 36).foldl State.svActive s).svClock

/-! ### The STANDBY's channels (R269) -/

/-- A channel's fault bits and kink record as the ACTIVE module forwards them, `w` its SV_CHSTAT and `k` its SV_CHKINK: a
kink ends the peak phase that the STANDBY computes, and a fault its closing; the other states are the STANDBY's own.
DEDUCED: notes/assumptions/108.md. -/
def State.svAdopt (s : State) (n w k : Nat) : State :=
  let seen := bitOf w 1 && !s.bit (SV_CHSTAT_KINK_SEEN n)
  let s := (s.wr ⟨(SV_CHSTAT n).addr, 8, 1⟩ (bitsOf w 8 1)).wr (SV_CHKINK n) k
  let x := s.svCh n
  if bitsOf w 31 29 = 6 then (if s.svSt n = 6 then s else (s.svOff n 6).svClock)
  else if seen ∧ s.svSt n = 2 then
    s.setSvCh n { x with kinkAt := some (x.onAt.getD s.time + bitsOf k 31 16 * 1000), kinkSeenAt := some s.time,
                         posDue := some (x.onAt.getD s.time + bitsOf k 31 16 * 1000 + msec 100) }
  else s

/-- The forwarded registers of a frame taken into the channels. -/
def State.svForwarded (s : State) (l : Table Word) : State :=
  (upto 36).foldl (fun s n =>
    match tfind l (SV_CHSTAT n).addr, tfind l (SV_CHKINK n).addr with
    | some w, some k => s.svAdopt n w.toNat k.toNat
    | _, _ => s) s

/-! ### Drivers stopped (R273, R331) -/

/-- A channel's driver stopped: its switch opens, a closing that waits is withdrawn. -/
def State.svStop (s : State) (n : Nat) : State :=
  if s.svOn n then s.svOff n 5
  else if s.svSt n = 1 then (s.wr (SV_CHSTAT_STATE n) 0).setSvCh n { s.svCh n with waitFrom := none }
  else s

/-- The channels that SV_CTRL.ENABLE and SV_CHCFG.ENABLE no longer let run are stopped. DESIGN CHOICE:
notes/assumptions/105.md. -/
def State.svEnables (s : State) : State :=
  ((upto 36).foldl (fun s n => if s.svUsed n then s else s.svStop n) s).posUpdate.svClock

/-- Every driver disconnected from its valve (R331): every switch and every high side off. -/
def State.svDisconnect (s : State) : State :=
  let s := (upto 36).foldl State.svStop s
  ((upto 9).foldl (fun s g => (s.wr (SV_GSTAT_HS g) 0).setSvGrp g { s.svGrp g with onSince := none, idleFrom := none, repeatAt := none })
    s).svClock

end Sys2Proof.Machine
end

