-- ==== Sys2Proof/Machine/Sources.lean ====
section
/-! DEFINITION. Source codes (R66): what a loop, the pump manager or the calibration reads from the field die. -/

namespace Sys2Proof.Machine

/-- What a source gives at this moment. -/
structure SrcVal where
  /-- The value, binary32. -/
  val : F32 := 0
  /-- The raw code the frozen test of R45 compares. -/
  raw : Nat := 0
  /-- The frozen test applies to the input (R237). -/
  dithered : Bool := false
  /-- The field die reports the input open, short or not valid (R45, R239). -/
  bad : Bool := false
  /-- The field die's own frozen report (R238). -/
  frozen : Bool := false
  /-- The value is stale (R45, R294). -/
  stale : Bool := false
deriving DecidableEq, Repr

/-- The source can be used as it stands. -/
def SrcVal.good (v : SrcVal) : Bool := !v.bad && !v.frozen && !v.stale

/-- 1/256 as binary32. -/
def f256th : F32 := 0x3B800000

/-- A field register as the module's field logic reads it: a STANDBY takes the forwarded value where it has one, not
its own field die's (R327). -/
def State.fin (s : State) (f : RF) : Nat :=
  if s.sys.role = .standby then
    match tfind s.tw.fin f.addr with
    | some w => bitsOf w.toNat f.hi f.lo
    | none => s.rd f
  else s.rd f

/-- A one-bit field register. -/
def State.finBit (s : State) (f : RF) : Bool := s.fin f != 0

/-- A binary32 field register. -/
def State.finF (s : State) (f : RF) : F32 := BitVec.ofNat 32 (s.fin f)

/-- An RTD input: 1/256 °C (R252). -/
def State.srcRtd (s : State) (n : Nat) : SrcVal :=
  { val := fmul (f32OfInt (signedOf 32 (s.fin (SN_RTDVAL n)))) f256th, raw := s.fin (SN_RTDRAW n), dithered := true,
    bad := !s.finBit (SN_RTDSTAT_VALID n), frozen := s.finBit (SN_RTDSTAT_FROZEN n) }

/-- A 4 to 20 mA input (R240). -/
def State.srcMa (s : State) (n : Nat) : SrcVal :=
  { val := s.finF (SN_MAVAL n), raw := s.fin (SN_MARAW n), dithered := true, bad := !s.finBit (SN_MASTAT_VALID n),
    frozen := s.finBit (SN_MASTAT_FROZEN n) }

/-- A pulse input's flow, 60 × f / KFACTOR in L/min (R240). -/
def State.srcPulse (s : State) (n : Nat) : SrcVal :=
  { val := fdiv (fmul (f32OfInt 60) (s.finF (SN_PIFREQ n))) (s.rdf (SN_PIKFACT n)), raw := s.fin (SN_PIFREQ n),
    bad := !s.finBit (SN_PISTAT_VALID n) }

/-- A node value is stale: its timestamp is older than 3 × PERIOD × LEN (R294). -/
def State.nvStale (s : State) (n : Nat) : Bool :=
  let period := max 1 (s.rd (NV_CFG_PERIOD n))
  let len := clampNat 25 1000 (s.rd (FB_TTCFG_LEN (s.rd (NV_CFG_CH n)))) * 1000
  match tfind s.fb.nvAt n with
  | some t => decide (t + 3 * period * len < s.time)
  | none => true

/-- The pair's partner code of an input whose marking is valid (R241, R48). -/
def State.pairPartner (s : State) (code : Nat) : Option Nat :=
  let n := code % 4096
  match code / 4096 with
  | 1 => if n < 48 ∧ s.bit (SN_RTDSTAT_PAIRED n) then some (0x1000 + s.rd (SN_RTDCFG_PARTNER n)) else none
  | 2 => if n < 24 ∧ s.bit (SN_MASTAT_PAIRED n) then some (0x2000 + s.rd (SN_MACFG_PARTNER n)) else none
  | 3 => if n < 8 ∧ s.bit (SN_PISTAT_PAIRED n) then some (0x3000 + s.rd (SN_PICFG_PARTNER n)) else none
  | _ => none

/-- The input is element B of its pair. -/
def State.isEltB (s : State) (code : Nat) : Bool :=
  let n := code % 4096
  match code / 4096 with
  | 1 => s.bit (SN_RTDCFG_ELEM n)
  | 2 => s.bit (SN_MACFG_ELEM n)
  | 3 => s.bit (SN_PICFG_ELEM n)
  | _ => false

/-- The source codes of a slot's primary and its partner, and whether they form a pair: with a valid marking the
partner is the other element, whichever of the two IN_SEL names (R48). -/
def State.eltCodes (s : State) (k : Nat) : Nat × Nat × Bool :=
  let p := s.act (SL_IN_SEL_PRIMARY k)
  let q := s.act (SL_IN_SEL_PARTNER k)
  if s.actBit (SL_CTRL_PAIR k) then
    match s.pairPartner p with
    | some m => (p, m, true)
    | none => (p, q, false)
  else (p, q, false)

/-- A field node value (R294). -/
def State.srcNode (s : State) (n : Nat) : SrcVal :=
  { val := s.rdf (NV_VALUE n), raw := s.rd (NV_VALUE n), bad := !(s.bit (NV_CFG_VALID n) && s.bit (NV_CFG_EN n)),
    stale := s.nvStale n }

/-- D_r: the sum of the chain 1 outputs of the released contexts of a rack, 0 while it is isolated (R210, R220). -/
def State.rackDemand (s : State) (r : Nat) : F32 :=
  if s.rackIsolated r ∨ ¬ ctxReleased s.sys.mode s.sys.prior then 0
  else ((s.rackCtxs r).filter fun c => s.bit (PB_STATUS_ADMITTED c)).foldl (fun x c => fadd x (s.rdf (SL_OUT1 c))) 0

/-- The source that a class 2 or 3 code names. -/
def State.srcFlow (s : State) (code : Nat) : SrcVal :=
  if code / 4096 = 3 then s.srcPulse (code % 4096) else s.srcMa (code % 4096)

/-- The corrected flow of a rack (R243). -/
def State.rackFlow (s : State) (r : Nat) : SrcVal :=
  let v := s.srcFlow (s.rd (SN_FLOWSRC r))
  { v with val := fmul v.val (s.rdf (SN_FLOWGAIN r)) }

/-- What a source code gives; none for class 0 and for codes that name no source (R66). -/
def State.source (s : State) (code : Nat) : Option SrcVal :=
  let i := code % 4096
  match code / 4096 with
  | 1 => if i < 48 then some (s.srcRtd i) else none
  | 2 => if i < 24 then some (s.srcMa i) else none
  | 3 => if i < 8 then some (s.srcPulse i) else none
  | 4 => if i < 16 then some { val := if bitOf (s.fin SN_DIN) i then 0x3F800000 else 0, raw := b2n (bitOf (s.fin SN_DIN) i) } else none
  | 5 => if i < 1024 then some (s.srcNode i) else none
  | 6 => if i < 512 then some { val := (s.slot (4096 + i)).out, raw := (s.slot (4096 + i)).out.toNat } else none
  | 7 => if i < 1024 then (tget none s.le.vs i).map fun p => { val := p.1, raw := p.1.toNat } else none
  | 8 => if i < 16 then some { val := s.rackDemand i, raw := 0 } else none
  | 9 => if i < 16 then some (s.rackFlow i) else none
  | _ => none

/-- The main flow: pulse input 0 (R209). -/
def State.mainFlow (s : State) : SrcVal := s.srcPulse 0

/-- The DP: the lower of the valid elements of MA16 and MA17 (R224). -/
def State.dp (s : State) : Option F32 :=
  let a := s.srcMa 16
  let b := s.srcMa 17
  if a.good then (if b.good then some (if flt b.val a.val then b.val else a.val) else some a.val)
  else if b.good then some b.val else none

/-- The configured SETPOINT of plant loop 0 (R467), as applied (R65): the raise of R222 does not move it. -/
def State.dpSetpoint (s : State) : F32 := s.actF (SL_SETPOINT 4096)

/-- A rack loop's SETPOINT, as applied (R65), plus the rack's demand, clamped to its flow limits (R210). -/
def State.rackSetpoint (s : State) (r : Nat) : F32 :=
  fclamp (BitVec.ofNat 32 (s.cfg 0x0050 r 0)) (BitVec.ofNat 32 (s.cfg 0x0050 (0x8000 + r) 0x43C80000))
    (fadd (s.actF (SL_SETPOINT (4104 + r))) (s.rackDemand r))

/-- Q_row: the sum of the clamped setpoints of the racks that are not isolated (R210). -/
def State.rowSetpoint (s : State) : F32 :=
  (upto 16).foldl (fun x r => if s.rackIsolated r then x else fadd x (s.rackSetpoint r)) 0

/-- DP_MAX in kPa (R378). -/
def State.dpMax (s : State) : F32 := BitVec.ofNat 32 (s.cfg 0x0052 0 0x437A0000)

/-- A percent as binary32 converted to 0 to 10,000, rounding to nearest and clamping (R208). -/
def pctOf (x : F32) : Nat := (fvToIntSat 0 10000 ((unpackF32 x).mul (fvInt 100))).toNat

end Sys2Proof.Machine
end

