-- ==== Sys2Proof/Machine/Hydraulics.lean ====
section
/-! DEFINITION. Pumps, fans, analog outputs, flow-loss detection and calibration (spec 08). Pump n has key n, fan k key
4 + k. -/

namespace Sys2Proof.Machine

/-! ### Channels (R207, R208, R235) -/

/-- The internal state of a pump or fan. -/
def State.pfCh (s : State) (k : Nat) : PfCh := tget {} s.pf.ch k

/-- The internal state of a pump or fan set. -/
def State.setPfCh (s : State) (k : Nat) (x : PfCh) : State := (s.onPf fun y => { y with ch := tset {} s.pf.ch k x })

/-- STATE of a channel. -/
def pfState (k : Nat) : RF := if k < 4 then PF_PSTAT_STATE k else PF_FSTAT_STATE (k - 4)

/-- RETRY of a channel. -/
def pfRetry (k : Nat) : RF := if k < 4 then PF_PSTAT_RETRY k else PF_FSTAT_RETRY (k - 4)

/-- ENABLE of a channel. -/
def pfEnable (k : Nat) : RF := if k < 4 then PF_PCFG_ENABLE k else PF_FCFG_ENABLE (k - 4)

/-- MIN of a channel. -/
def pfMin (k : Nat) : RF := if k < 4 then PF_PCFG_MIN k else PF_FCFG_MIN (k - 4)

/-- The speed or duty register of a channel. -/
def pfSpeed (k : Nat) : RF := if k < 4 then PF_SPEED k else PF_FSPEED (k - 4)

/-- The measured speed of a channel. -/
def pfTach (k : Nat) : RF := if k < 4 then PF_PTACH k else PF_FTACH (k - 4)

/-- PPR of a channel, 1 to 8. -/
def State.pfPpr (s : State) (k : Nat) : Nat := clampNat 1 8 (s.rd (if k < 4 then PF_PCFG_PPR k else PF_FCFG_PPR (k - 4)))

/-- The pump manager distributes PF_DEMAND (R211). -/
def State.managed (s : State) (k : Nat) : Bool := decide (k < 4) && s.bit PF_PMGR_ENABLE

/-- The plant slot whose RATE and demand drive a channel: loop 0 for a managed pump, the fan's own loop, or the loop
whose target an unmanaged pump is (R209, R212). -/
def State.pfLoop (s : State) (k : Nat) : Option Nat :=
  if s.managed k then some 4096
  else if 4 ≤ k then some (4120 + (k - 4))
  else ((upto 512).map (· + 4096)).find? fun q =>
    s.act (SL_OUT_TARGET_TGT q) == 0x1000 + k || s.act (SL_OUT_TARGET_TGT q) == 0x4000 + k

/-- The RATE at which a channel's output moves after its kick, 0 when off (R212). -/
def State.pfRate (s : State) (k : Nat) : F32 := ((s.pfLoop k).map fun q => s.actF (SL_RATE q)).getD 0

/-- The output along a ramp at this moment, and whether the ramp is over (R212, R215). -/
def State.rampValue (s : State) (k : Nat) (r : PfRamp) (goal : Nat) : Nat × Bool :=
  let dt := s.time - r.start
  let d := if r.kind = 0 then (fvRatioFloor (100 * dt) (s.pfRate k) (f32OfInt 100000000)) else 1000 * dt / secs 1
  if r.from_ ≤ goal then (min goal (r.from_ + d), decide (goal ≤ r.from_ + d))
  else (max goal (r.from_ - d), decide (r.from_ - d ≤ goal))

/-- The value that a ramp ends at: 0 for a stop, else the demand. -/
def State.rampGoal (s : State) (k : Nat) (r : PfRamp) : Nat :=
  if r.kind = 2 then 0 else if s.managed k then s.rd PF_DEMAND else s.rd (pfSpeed k)

/-- A value as driven: nonzero below MIN × 100 is driven as MIN × 100 (R208). -/
def State.driven (s : State) (k v : Nat) : Nat :=
  if v = 0 then 0 else min 10000 (max v (s.rd (pfMin k) * 100))

/-- The output that a channel's block computes now (R208, R212, R213); a module that has claimed and is still in BOOT
runs its fans at 100% (R425). -/
def State.pfOutput (s : State) (k : Nat) : Nat :=
  let st := s.rd (pfState k)
  let x := s.pfCh k
  if s.sys.mode = .boot then (if 4 ≤ k then 10000 else 0)
  else if ¬ s.bit (pfEnable k) then 0
  else if st = 1 then (if x.kickAt.isSome then 10000 else 0)
  else if st = 2 ∨ st = 3 then
    s.driven k (match x.ramp with
      | some r => (s.rampValue k r (s.rampGoal k r)).1
      | none => s.rd (pfSpeed k))
  else 0

/-- The output that a channel drives on the backplane: none by a module that is not ACTIVE (R218). -/
def State.pfDrive (s : State) (k : Nat) : Nat := if s.isActive then s.pfOutput k else 0

/-- The value an analog output drives, 0 to 10,000: nothing while it is disabled or the module is not ACTIVE,
AO_CFG.SAFE in BOOT before the tables run (R218, R235). -/
def State.aoDrive (s : State) (n : Nat) : Option Nat :=
  if s.isActive ∧ s.bit (AO_CFG_ENABLE n) then
    some (if s.sys.mode = .boot then min 10000 (s.rd (AO_CFG_SAFE n)) else s.rd (AO_VAL n))
  else none

/-! ### The pump manager (R211, R215, R216) -/

/-- A pump runs: RUNNING or TACH_LOST_RUNNING. -/
def State.pumpRuns (s : State) (n : Nat) : Bool := s.rd (PF_PSTAT_STATE n) == 2 || s.rd (PF_PSTAT_STATE n) == 3

/-- A pump is available: enabled and not LOCKED, STOPPED or FAULT (R211). -/
def State.pumpAvail (s : State) (n : Nat) : Bool := s.bit (PF_PCFG_ENABLE n) && decide (s.rd (PF_PSTAT_STATE n) < 4)

/-- The running pumps. -/
def State.runningPumps (s : State) : List Nat := (upto 4).filter s.pumpRuns

/-- The pump that a rotation in progress has beyond the running set: its outgoing one, or its incoming one while the
outgoing one is a staged pump, whose place it takes (R211, R216). -/
def State.rotationExtra (s : State) : Option Nat :=
  s.pf.rotation.map fun p => if s.bit (PF_PSTAT_STAGED p.2) then p.1 else p.2

/-- The duty pumps: those not staged that run, start, or wait for their start, and are not being stopped (R211). -/
def State.dutyPumps (s : State) : List Nat :=
  (upto 4).filter fun n =>
    (s.pumpRuns n || s.rd (PF_PSTAT_STATE n) == 1 || (s.pf.queued.contains n && s.pumpAvail n)) && !(s.pfCh n).stopping &&
      !s.bit (PF_PSTAT_STAGED n) && s.rotationExtra != some n

/-- The pump of a list with the fewest run hours, the lower number first. -/
def State.fewestHours (s : State) (l : List Nat) : Option Nat :=
  l.foldl (fun o n =>
    match o with
    | none => some n
    | some m => if s.rd (PF_PHOURS n) < s.rd (PF_PHOURS m) then some n else some m) none

/-- The pump of a list with the most run hours. -/
def State.mostHours (s : State) (l : List Nat) : Option Nat :=
  l.foldl (fun o n =>
    match o with
    | none => some n
    | some m => if s.rd (PF_PHOURS m) < s.rd (PF_PHOURS n) then some n else some m) none

/-- The available pumps that neither run nor start. -/
def State.idlePumps (s : State) : List Nat :=
  (upto 4).filter fun n => s.pumpAvail n && s.rd (PF_PSTAT_STATE n) == 0 && !s.pf.queued.contains n

/-- The level of a trip input. -/
def State.tmInput (s : State) (n : Nat) : Bool := bitOf (s.rd (TM_IN (n / 32))) (n % 32)

/-- A trip input's level as the field logic gives it. -/
def State.setTmInput (s : State) (n : Nat) (b : Bool) : State :=
  s.wr (TM_IN (n / 32)) (withBits (s.rd (TM_IN (n / 32))) (n % 32) (n % 32) (b2n b))

/-- The trip is armed: a pump has been RUNNING for 5 s (R224). -/
def State.armed (s : State) : Bool := (upto 4).any fun n => s.rd (PF_PSTAT_STATE n) == 2 && s.since (s.pfCh n).runSince (secs 5)

/-- The trip is armed no longer once no pump has been RUNNING for 5 s, and its input no longer detects (R224). -/
def State.disarm (s : State) : State :=
  if s.bit PF_HYD_ARMED ∧ ¬ s.armed then (s.putBit PF_HYD_ARMED false).setTmInput 0 false else s

/-- AVAIL, RUN, LEAD, ALL_PUMPS_LOST and ARMED brought up to the pumps' states (R224, R235). -/
def State.pmStatus (s : State) : State :=
  let av := (upto 4).foldl (fun n k => if s.pumpAvail k then n + 2 ^ k else n) 0
  let rn := (upto 4).foldl (fun n k => if s.pumpRuns k then n + 2 ^ k else n) 0
  let lead := s.fewestHours s.runningPumps
  let s := (s.wr PF_PMGR_AVAIL av).wr PF_PMGR_RUN rn
  let s := (upto 4).foldl (fun s k => s.putBit (PF_PSTAT_LEAD k) (lead == some k)) s
  (s.putBit PF_HYD_ALL_PUMPS_LOST (av == 0)).disarm

/-- A pump's start asked for. -/
def State.queuePump (s : State) (n : Nat) (staged : Bool) : State :=
  ((s.onPf fun y => { y with queued := s.pf.queued ++ [n] })).putBit (PF_PSTAT_STAGED n) staged

/-- N_DUTY, 1 to 3 (R235). DEDUCED: notes/assumptions/71.md. -/
def State.nDuty (s : State) : Nat := clampNat 1 3 (s.rd PF_PMGR_N_DUTY)

/-- Starts asked for until N_DUTY duty pumps run or start; `k` bounds the pumps (R211). -/
def State.fillDuty : Nat → State → State
  | 0, s => s
  | k + 1, s =>
    if s.dutyPumps.length < s.nDuty then
      match s.fewestHours s.idlePumps with
      | some n => (s.queuePump n false).fillDuty k
      | none => s
    else s

/-- The manager's work after any change of a pump (R211). -/
def State.pmWork (s : State) : State :=
  (if s.bit PF_PMGR_ENABLE then s.fillDuty 4 else s).pmStatus

/-- A running pump begins its stop ramp (R215). -/
def State.stopPump (s : State) (n : Nat) : State :=
  let x := s.pfCh n
  (s.putBit (PF_PSTAT_STAGED n) false).setPfCh n { x with ramp := some ⟨2, s.time, s.rd (PF_SPEED n)⟩, stopping := true }

/-- The manager gives PF_DEMAND to every running pump and 0 to every other, starts, ramps and held outputs apart
(R211). -/
def State.distribute (s : State) : State :=
  if s.bit PF_PMGR_ENABLE then
    (upto 4).foldl (fun s n =>
      let st := s.rd (PF_PSTAT_STATE n)
      if st = 2 then (if (s.pfCh n).ramp.isSome then s else s.wr (PF_SPEED n) (s.rd PF_DEMAND))
      else if st = 1 ∨ st = 3 then s
      else s.wr (PF_SPEED n) 0) s
  else s

/-- A pump whose start is given up is off again. -/
def State.offPump (s : State) (n : Nat) : State :=
  ((s.wr (PF_PSTAT_STATE n) 0).setPfCh n { s.pfCh n with kickAt := none, reqAt := none }).pmStatus

/-- Duty pumps above N_DUTY: those that wait for their start give it up first, then those that start, then those that
run begin their stop; among them the one with the most run hours first; `k` bounds the pumps. DESIGN CHOICE:
notes/assumptions/96.md. -/
def State.trimDuty : Nat → State → State
  | 0, s => s
  | k + 1, s =>
    let duty := s.dutyPumps
    if s.nDuty < duty.length then
      match s.mostHours (duty.filter s.pf.queued.contains), s.mostHours (duty.filter fun n => !s.pumpRuns n),
        s.mostHours duty with
      | some n, _, _ => (s.onPf fun y => { y with queued := y.queued.filter fun q => q != n }).trimDuty k
      | none, some n, _ => ((s.wr (PF_SPEED n) 0).offPump n).trimDuty k
      | none, none, some n => (s.stopPump n).trimDuty k
      | none, none, none => s
    else s

/-- The manager switched off: the starts that wait and a rotation are given up (R211, R216, R235). -/
def State.pmOff (s : State) : State :=
  let s := s.pf.queued.foldl (fun s n => s.putBit (PF_PSTAT_STAGED n) false) s
  (s.onPf fun y => { y with queued := [], rotation := none }).pmStatus

/-- PF_PMGR written: the running set brought up to ENABLE and N_DUTY (R211, R235). -/
def State.pmSet (s : State) : State :=
  if s.bit PF_PMGR_ENABLE then (s.pmWork.trimDuty 4).distribute else s.pmOff

/-- PF_DEMAND set, with the staging stamps (R211, R215). -/
def State.setDemand (s : State) (v : Nat) : State :=
  let s := s.wr PF_DEMAND (min v 10000)
  let hi := if 9500 < v then some (s.pf.highSince.getD s.time) else none
  let lo := if v < 4500 then some (s.pf.lowSince.getD s.time) else none
  ((s.onPf fun y => { y with highSince := hi, lowSince := lo })).distribute

/-- A loop output or write for a fan or an unmanaged pump. DESIGN CHOICE: notes/assumptions/104.md. -/
def State.setSpeed (s : State) (k v : Nat) : State :=
  if s.rd (pfState k) = 3 then s else s.wr (pfSpeed k) (min v 10000)

/-- A rotation ends once its outgoing pump no longer runs, or its incoming one fails (R216). -/
def State.rotationEnds (s : State) (k st : Nat) : Bool :=
  match s.pf.rotation with
  | some (i, o) => (i == k && (st == 0 || decide (4 ≤ st))) || (o == k && st != 2 && st != 3)
  | none => false

/-- A pump that is off or has failed waits for no start and is not staged (R211, R214, R235). -/
def State.unstage (s : State) (k st : Nat) : State :=
  if k < 4 ∧ (st = 0 ∨ 4 ≤ st) then
    (s.onPf fun y => { y with queued := y.queued.filter fun n => n != k }).putBit (PF_PSTAT_STAGED k) false
  else s

/-- A channel changes its state. One that loses its tach in a ramp holds the output it has reached (R213); a pump that
was being stopped goes on with its stop once its tach is back. -/
def State.pfTo (s : State) (k st : Nat) : State :=
  let x := s.pfCh k
  let s := if s.rotationEnds k st then s.onPf fun y => { y with rotation := none } else s
  let s := if st = 3 ∧ x.ramp.isSome then s.wr (pfSpeed k) (s.pfOutput k) else s
  let stop := x.stopping && (st == 2 || st == 3)
  let s := (s.wr (pfState k) st).setPfCh k
    { x with runSince := if st = 2 then some s.time else none, kickAt := none,
             ramp := if stop ∧ st = 2 then some ⟨2, s.time, s.rd (pfSpeed k)⟩ else none, backSince := none, stopping := stop }
  let s := s.unstage k st
  if k < 4 then s.pmWork else s

/-- A failure state: output 0, a log record, the pump or fan doorbell; the manager starts a replacement (R212 to
R214). -/
def State.pfFail (s : State) (k st : Nat) : State :=
  let s := if s.managed k ∨ 4 ≤ k then s.wr (pfSpeed k) (if k < 4 then 0 else s.rd (pfSpeed k)) else s
  (s.pfTo k st).note 6 (if k < 4 then .pumpState else .fanState) 1 [k, st] 196

/-- A kick begins (R212). DEDUCED: notes/assumptions/71.md. -/
def State.kick (s : State) (k attempt : Nat) : State :=
  let x := s.pfCh k
  let s := ((s.wr (pfState k) 1).wr (pfRetry k) attempt).setPfCh k { x with
    kickAt := some s.time, ramp := none, reqAt := some (x.reqAt.getD s.time), canReached := false }
  if s.managed k then s.wr (PF_SPEED k) 10000 else s

/-- The kick may begin: a managed pump in its turn and 2 s after the last manager start, a fan or unmanaged pump once a
demand stands (R211, R212). -/
def State.mayKick (s : State) (k : Nat) : Bool :=
  s.bit (pfEnable k) && s.rd (pfState k) == 0 &&
    if s.managed k then
      s.fewestHours (s.pf.queued.filter s.pumpAvail) == some k &&
        (match s.pf.lastStart with | some t => decide (t + secs 2 ≤ s.time) | none => true)
    else decide (0 < s.rd (pfSpeed k))

/-- The first kick of a start. DEDUCED: notes/assumptions/71.md. -/
def State.startKick (s : State) (k : Nat) : State :=
  let s := s.setPfCh k { s.pfCh k with reqAt := some s.time }
  let s := if s.managed k then
      (s.onPf fun y => { y with queued := s.pf.queued.filter (fun n => n != k), lastStart := some s.time })
    else s
  (s.kick k 0).pmStatus

/-- The channel runs after its kick: the output moves to the demand (R212, R215). -/
def State.kickRuns (s : State) (k : Nat) : State :=
  let s := s.pfTo k 2
  let staged := decide (k < 4) && s.bit (PF_PSTAT_STAGED k)
  let rate := s.pfRate k
  if staged then s.setPfCh k { s.pfCh k with ramp := some ⟨1, s.time, 0⟩, reqAt := none }
  else if rate = 0 then (s.setPfCh k { s.pfCh k with reqAt := none }).distribute
  else s.setPfCh k { s.pfCh k with ramp := some ⟨0, s.time, 10000⟩, reqAt := none }

/-- A kick ends (R212): a CAN pump passes by its drive's velocity, any other channel by its tach pulses, the last of them
`sinceLast` counts ago. DEDUCED: notes/assumptions/71.md. -/
def State.endKick (s : State) (k pulses sinceLast : Nat) : State :=
  let can := decide (k < 4) && s.rd (PF_PCFG_IF k) == 2
  let s := if can then s else s.wr (pfTach k) (min (pulses * 60 / s.pfPpr k) 65535)
  let s := s.setPfCh k { s.pfCh k with pulseAt := some (s.time - min sinceLast (secs 1)) }
  let ok := if can then (s.pfCh k).canReached else decide (2 ≤ pulses)
  if ok then s.kickRuns k
  else
    let s := s.setPfCh k { s.pfCh k with kickAt := none }
    let s := if s.managed k then s.wr (PF_SPEED k) 0 else s
    if s.rd (pfRetry k) = 3 then (s.setPfCh k { s.pfCh k with reqAt := none }).pfFail k 5 else s

/-- One channel's ramp brought up to this moment: the manager writes PF_SPEED along it; a pump whose stop ramp is over
is off (R211, R215). -/
def State.rampStep (s : State) (k : Nat) : State :=
  let x := s.pfCh k
  match x.ramp with
  | none => s
  | some r =>
    let v := s.rampValue k r (s.rampGoal k r)
    let s := if s.managed k ∨ r.kind = 2 then s.wr (pfSpeed k) v.1 else s
    if v.2 then (if r.kind = 2 then s.pfTo k 0 else s.setPfCh k { x with ramp := none }) else s

/-- A rotation's outgoing pump stops once the incoming one runs at PF_DEMAND; the incoming one is staged where the outgoing
one was, so that N_DUTY pumps and the staged ones go on running (R211, R216). -/
def State.rotationStep (s : State) : State :=
  match s.pf.rotation with
  | some (i, o) =>
    if s.rd (PF_PSTAT_STATE i) = 2 ∧ (s.pfCh i).ramp.isNone ∧ s.pumpRuns o ∧ ¬ (s.pfCh o).stopping then
      let s := s.putBit (PF_PSTAT_STAGED i) (s.bit (PF_PSTAT_STAGED o))
      (s.stopPump o).log 6 .pumpRotation 0 [i, o]
    else s
  | none => s

/-! ### Running current and run hours (R213, R216) -/

/-- The measured current of a channel in A, if it has a current source (R213). -/
def State.pfCurrent (s : State) (k : Nat) : Option F32 :=
  if 4 ≤ k then some (fdiv (f32OfInt (s.rd (PF_FCUR (k - 4)))) (f32OfInt 1000))
  else if s.rd (PF_PCURSRC k) ≠ 0 then (s.source (s.rd (PF_PCURSRC k))).map (·.val)
  else if s.rd (PF_PCFG_IF k) = 2 then some (s.pfCh k).current
  else none

/-- The learned current of a channel in A. -/
def State.pfLearned (s : State) (k : Nat) : F32 :=
  if 4 ≤ k then (s.pfCh k).learned else s.rdf (PF_PLEARN k)

/-- The current lies within 20% of the learned current (R213). -/
def State.inBand (s : State) (k : Nat) : Bool :=
  match s.pfCurrent k with
  | some i => !fvScaledLt 1 (s.pfLearned k) 5 (fabs (fsub i (s.pfLearned k)))
  | none => false

/-- The learned current's first-order average with a time constant of 60 s over one frame (R213); a fan's is kept in full
beside PF_FLEARN, which shows it in mA. DEDUCED:
notes/assumptions/69.md. -/
def State.learn (s : State) (k : Nat) : State :=
  let x := s.pfCh k
  let out := s.pfOutput k
  let near := decide (out < x.steadyRef + 100) && decide (x.steadyRef < out + 100)
  let x := if near ∧ x.steadySince.isSome then x else { x with steadyRef := out, steadySince := some s.time }
  let s := s.setPfCh k x
  if s.rd (pfState k) = 2 ∧ s.since x.steadySince (secs 10) then
    match s.pfCurrent k with
    | some i =>
      let l := s.pfLearned k
      let v := fadd l (fdiv (fmul (fsub i l) (f32OfInt s.frameCounts)) (f32OfInt 6000000000))
      if 4 ≤ k then
        (s.setPfCh k { s.pfCh k with learned := v }).wr (PF_FLEARN (k - 4)) (f32ToIntSat 0 8191 (fmul v (f32OfInt 1000))).toNat
      else s.wrf (PF_PLEARN k) v
    | none => s
  else s

/-- The run time of a frame counted for a running pump, in steps of 0.1 h (R216). -/
def State.runTime (s : State) (n : Nat) : State :=
  if s.pumpRuns n then
    let x := s.pfCh n
    let p := x.part + s.frameCounts
    let s := s.setPfCh n { x with part := p % secs 360 }
    s.addSat (PF_PHOURS n) (p / secs 360)
  else s


/-- The block's work at a tick boundary: the ramps. -/
def State.pfTick (s : State) : State := ((upto 12).foldl State.rampStep s).rotationStep

/-! ### Loop outputs to the field (R66, R208) -/

/-- A latched DRIVE_FULL row holds the analog output at 100% (R428). -/
def State.tripFull (s : State) (n : Nat) : Bool :=
  s.bit TM_CTRL_OUT_EN && (upto 128).any fun r =>
    s.rd (TM_ROW_ACTION r) == 3 && s.rd (TM_ROW_ARG r) % 32 == n &&
      bitOf (s.rd (TM_LATCH (r / 32))) (r % 32)

/-- An analog output written; it stays at 100% while SHED drives the bypass on AO17 (R219) or a trip row drives it. -/
def State.setAo (s : State) (n v : Nat) : State :=
  if (n = 17 ∧ s.pf.bypass) ∨ s.tripFull n then s else s.wr (AO_VAL n) (min v 10000)

/-- A loop output written to a target of class 1 to 4 (R66, R208, R211). -/
def State.writeTarget (s : State) (tgt : Nat) (x : F32) : State :=
  let i := tgt % 4096
  if fisNaN x then s
  else
    match tgt / 4096 with
    | 1 => if s.bit PF_PMGR_ENABLE then s.setDemand (pctOf x) else if i < 4 then s.setSpeed i (pctOf x) else s
    | 2 => if i < 8 then s.setSpeed (4 + i) (pctOf x) else s
    | 3 => if i < 20 then s.setAo i (pctOf x) else s
    | 4 => if s.bit PF_PMGR_ENABLE then s.setDemand (pctOf x) else if i < 4 then s.setSpeed i (pctOf x) else s
    | _ => s

/-! ### Slow fall (R221 to R223) -/

/-- The evaluation record of a rack, or of the row at key 16. -/
def State.slowFall (s : State) (k : Nat) : SlowFall := tget {} s.pf.slow k

/-- The evaluation record set. -/
def State.setSlow (s : State) (k : Nat) (x : SlowFall) : State := (s.onPf fun y => { y with slow := tset {} s.pf.slow k x })

/-- The least-squares slope of equally spaced samples, newest first, is negative: its sign is that of
Σ (2i − n + 1) × Q_i over the samples oldest first. DEDUCED: notes/assumptions/72.md. -/
def slopeNegative (h : List F32) : Bool :=
  let l := h.reverse
  let n : Int := l.length
  fvNeg ((l.foldl (fun (p : FV × Int) q => (p.1.add ((fvInt (2 * p.2 - n + 1)).mul (unpackF32 q)), p.2 + 1)) (fvInt 0, 0)).1)

/-- A flow below 0 taken as 0 (R222). -/
def nonNeg (x : F32) : F32 := if flt x 0 then 0 else x

/-- The ratio Q/Q_set rounded down to 1/10,000, at most 1 (R222). -/
def flowRatio (q qset : F32) : Nat := min 10000 (fvRatioFloor 10000 (nonNeg q) qset)

/-- A slow fall begins (R221). -/
def State.slowStart (s : State) (k : Nat) : State :=
  let s := if k < 16 then s.wr PF_SLOWFALL (s.rd PF_SLOWFALL ||| 2 ^ k) else s.putBit PF_HYD_SLOW_ROW true
  s.note 6 .slowFall 1 [k] 197

/-- A slow fall ends (R223). -/
def State.slowEnd (s : State) (k : Nat) : State :=
  let w := s.rd PF_SLOWFALL
  let s := if k < 16 then s.wr PF_SLOWFALL (if bitOf w k then w - 2 ^ k else w) else s.putBit PF_HYD_SLOW_ROW false
  s.log 6 .slowFallEnd 0 [k]

/-- A rack's or the row's evaluation is suspended: the samples and the times start again, a slow fall that is active
stays (R222, R223). -/
def State.slowPause (s : State) (k : Nat) : State :=
  let x := s.slowFall k
  s.setSlow k { x with hist := [], since := none, okSince := none }

/-- An isolated rack drops out of slow-fall detection (R220). -/
def State.slowDrop (s : State) (k : Nat) : State :=
  if (s.slowFall k).active then (s.setSlow k {}).slowEnd k else s.setSlow k {}

/-- One evaluation of a rack or the row with its flow and setpoint (R221, R223). DEDUCED: notes/assumptions/72.md. -/
def State.slowEval (s : State) (k : Nat) (v : SrcVal) (qset : F32) : State :=
  if ¬ v.good then s.slowPause k
  else
    let x := s.slowFall k
    let h := (v.val :: x.hist).take 21
    let x := { x with hist := h }
    let target := if x.active then x.held else qset
    if x.active then
      if fvScaledLt 100 v.val 95 target then s.setSlow k { x with okSince := none }
      else if s.since x.okSince (secs 30) then (s.setSlow k { x with active := false, okSince := none, since := none }).slowEnd k
      else s.setSlow k { x with okSince := some (x.okSince.getD s.time) }
    else if flt 0 target ∧ fvScaledLt 10 v.val 9 target ∧ slopeNegative h then
      if s.since x.since (secs 10) then (s.setSlow k { x with active := true, held := qset, since := none, okSince := none }).slowStart k
      else s.setSlow k { x with since := some (x.since.getD s.time) }
    else s.setSlow k { x with since := none }

/-- The flow ratio of a rack or of the row: against Q_set as held in its own slow fall, or, for every rack during a row
slow fall, against its present Q_set; its last value while the flow is not valid, 1 with a Q_set of 0 (R222). DEDUCED:
notes/assumptions/72.md. -/
def State.slowRatio (s : State) (k : Nat) (v : SrcVal) (qset : F32) (row : Bool) (last : Nat) : Nat :=
  let x := s.slowFall k
  let q := if x.active then x.held else qset
  if ¬ (x.active ∨ row) ∨ ¬ flt 0 q then 10000 else if v.good then flowRatio v.val q else last

/-- K_FLOW of every rack (R222): during a row slow fall the smaller of the rack's and the row's ratio; 1 for an isolated
rack (R220). DEDUCED: notes/assumptions/72.md. -/
def State.kFlow (s : State) : State :=
  let on := (s.slowFall 16).active
  let row := s.slowRatio 16 s.mainFlow 0 false s.pf.rowRatio
  let s := s.onPf fun y => { y with rowRatio := row }
  (upto 16).foldl (fun t r =>
    t.wr (PB_RACK_KFLOW r) (if s.rackIsolated r then 10000
      else min (s.slowRatio r (s.rackFlow r) (s.rackSetpoint r) on (s.rd (PB_RACK_KFLOW r))) row)) s

/-- The raise of plant loop 0's SETPOINT: 1% of DP_MAX per second up or down, up to DP_MAX (R222, R223). -/
def State.raiseStep (s : State) : State :=
  let d := fdiv s.dpMax (f32OfInt 1000)
  let top := nonNeg (fsub s.dpMax s.dpSetpoint)
  let r := if (s.slowFall 16).active then fadd s.pf.raise d else nonNeg (fsub s.pf.raise d)
  s.onPf fun y => { y with raise := if flt top r then top else r }

/-- The evaluation of every rack not isolated and of the row (R221). In SHED the slow-fall state is kept, to be
evaluated again when SHED ends (R223). -/
def State.slowAll (s : State) : State :=
  let s := s.onPf fun y => { y with slowAt := some s.time }
  if s.sys.mode = .shed then (upto 17).foldl State.slowPause s
  else
    let s := (upto 16).foldl (fun s r =>
      if s.rackIsolated r then s.slowDrop r else s.slowEval r (s.rackFlow r) (s.rackSetpoint r)) s
    (s.slowEval 16 s.mainFlow s.rowSetpoint).kFlow.raiseStep

/-! ### Coolant stop (R224 to R226) -/

/-- DP_COLLAPSE of the configured SETPOINT: the DP lies below it (R224). -/
def State.dpLow (s : State) : Bool :=
  match s.dp with
  | some v => fvScaledLt 100 v (clampNat 5 80 (s.rd PF_STOPCFG_DP_COLLAPSE)) s.dpSetpoint
  | none => true

/-- The sum of the running pumps' currents lies below 30% of their learned sum (R224). -/
def State.currentLow (s : State) : Bool :=
  let i := s.runningPumps.foldl (fun x n => fadd x ((s.pfCurrent n).getD 0)) 0
  let l := s.runningPumps.foldl (fun x n => fadd x (s.pfLearned n)) 0
  fvScaledLt 10 i 3 l

/-- Both conditions hold while armed (R224). -/
def State.stopHolds (s : State) : Bool := s.bit PF_HYD_PULSE_LOST && s.bit PF_HYD_PRESS_LOST && s.bit PF_HYD_ARMED

/-- A pump's stop ramp given up in a coolant stop: the outgoing pump of a rotation is not stopped (R216), and a staged
pump that was leaving stays staged (R225). -/
def State.keepRunning (s : State) (n : Nat) : State :=
  let x := s.pfCh n
  if x.stopping then
    (s.putBit (PF_PSTAT_STAGED n) (s.pf.rotation.map (·.2) != some n)).setPfCh n { x with ramp := none, stopping := false }
  else s

/-- The block's part of SHED (R219, R225): every available pump that is not running starts as a staged pump, a rotation
ends with both its pumps running (R216), the bypass opens; `q` is Q_row as held at the detection (R226). -/
def State.pfShed (s : State) (q : F32) : State :=
  let s := ((upto 4).foldl State.keepRunning s).distribute
  let s := s.idlePumps.foldl (fun s n => s.queuePump n true) s
  let s := s.setAo 17 10000
  s.onPf fun y => { y with rotation := none, qHeld := q, bypass := true, restoreSince := none, restoredAt := none }

/-- Main flow and DP are back at half (R226). -/
def State.flowBack (s : State) : Bool :=
  !fvScaledLt 2 s.mainFlow.val 1 s.pf.qHeld &&
    match s.dp with
    | some v => !fvScaledLt 2 v 1 s.dpSetpoint
    | none => false

/-! ### The loops' parameter sets (R209, R220, R227) -/

/-- The plant loops named in R209. DEDUCED: notes/assumptions/67.md. -/
def namedLoops : List Nat := [0, 1, 4] ++ (upto 24).map (· + 8)

/-- The loops whose table set reads the return header pair (R209). DEDUCED: notes/assumptions/67.md. -/
def headerLoops : List Nat := [0, 1, 4] ++ (upto 8).map (· + 24)

/-- The table set of one loop in place of its control set (R227): the return header pair as primary, PAIR set.
DEDUCED: notes/assumptions/67.md. -/
def State.tableSetOf (s : State) (p : Nat) : State :=
  let k := 4096 + p
  if headerLoops.contains p then
    let s := (s.onPf fun y => { y with ctlSet := tinsert (tinsert s.pf.ctlSet (SL_IN_SEL k).addr (s.rd (SL_IN_SEL k)))
                                          (SL_CTRL k).addr (s.rd (SL_CTRL k)) })
    let s := (s.wr (SL_IN_SEL k) 0x10231022).putBit (SL_CTRL_PAIR k) true
    (s.putBit (SL_CTRL_PAIR_DIR k) false).putBit (SL_CTRL_APPLY k) true
  else s.putBit (SL_CTRL_APPLY k) true

/-- The control set of one loop again. -/
def State.controlSetOf (s : State) (p : Nat) : State :=
  let k := 4096 + p
  let s := match tfind s.pf.ctlSet (SL_IN_SEL k).addr with
    | some w => s.wr (SL_IN_SEL k) w
    | none => s
  let s := match tfind s.pf.ctlSet (SL_CTRL k).addr with
    | some w => s.wr (SL_CTRL k) w
    | none => s
  s.putBit (SL_CTRL_APPLY k) true

/-- The table set written on entering TABLE or SURVIVAL (R227). DEDUCED: notes/assumptions/67.md. -/
def State.toTableSet (s : State) : State :=
  if s.sys.tableSet then s
  else
    let s := namedLoops.foldl State.tableSetOf s
    s.onSys fun y => { y with tableSet := true }

/-- The control set written on leaving them. DEDUCED: notes/assumptions/67.md. -/
def State.toControlSet (s : State) : State :=
  if s.sys.tableSet then
    let s := namedLoops.foldl State.controlSetOf s
    ((s.onSys fun y => { y with tableSet := false }).onPf fun _ => { s.pf with ctlSet := [] })
  else s

/-- Plant loop 8 + r goes to MANUAL with MANUAL = ISO_POS, 0% (R220). DEDUCED: notes/assumptions/67.md. -/
def State.isoLoop (s : State) (r : Nat) : State :=
  let k := 4104 + r
  if (tfind s.pf.isoSet r).isSome then s
  else
    let s := (s.onPf fun y => { y with isoSet := tinsert s.pf.isoSet r (s.rd (SL_CTRL_MODE k), s.rd (SL_MANUAL k)) })
    ((s.wr (SL_CTRL_MODE k) 3).wr (SL_MANUAL k) 0).putBit (SL_CTRL_APPLY k) true

/-- The loop returns to its configured mode (R220). -/
def State.isoEnd (s : State) (r : Nat) : State :=
  let k := 4104 + r
  match tfind s.pf.isoSet r with
  | some (m, v) =>
    let s := (s.onPf fun y => { y with isoSet := terase s.pf.isoSet r })
    ((s.wr (SL_CTRL_MODE k) m).wr (SL_MANUAL k) v).putBit (SL_CTRL_APPLY k) true
  | none => s

/-! ### Calibration (R229 to R234) -/

/-- The calibration record of a rack. -/
def State.cal (s : State) (r : Nat) : CalRack := tget {} s.pf.cal r

/-- The calibration record set. -/
def State.setCal (s : State) (r : Nat) (x : CalRack) : State := (s.onPf fun y => { y with cal := tset {} s.pf.cal r x })

/-- ρ·c_p of a coolant at 10, 20 ... 70 °C, in J/(m³·K) (R230). -/
def rhoCpTable (pg25 : Bool) : List Int :=
  if pg25 then [3981000, 3994000, 4002000, 4009000, 4013000, 4016000, 4018000]
  else [4189000, 4174000, 4160000, 4146000, 4131000, 4115000, 4099000]

/-- ρ·c_p at a temperature: linear between the table's points, held at its ends (R230). -/
def rhoCp (pg25 : Bool) (t : F32) : F32 :=
  let tab := rhoCpTable pg25
  let at_ (i : Nat) : F32 := f32OfInt (tab.getD i 0)
  if fle t (f32OfInt 10) then at_ 0
  else if fle (f32OfInt 70) t then at_ 6
  else
    let i := ((f32Floor t) / 10 - 1).toNat
    fadd (at_ i) (fdiv (fmul (fsub (at_ (i + 1)) (at_ i)) (fsub t (f32OfInt (10 * (i + 1))))) (f32OfInt 10))

/-- 0.95, 1.05, 0.001, 0.005, 0.2 and 0.02 as binary32. -/
def f095 : F32 := f32OfRat 95 100
/-- 1.05. -/
def f105 : F32 := f32OfRat 105 100
/-- 0.001. -/
def f0001 : F32 := f32OfRat 1 1000
/-- 0.005. -/
def f0005 : F32 := f32OfRat 5 1000
/-- 0.2. -/
def f02 : F32 := f32OfRat 2 10

/-- Some slot reports PAIR_DISAGREE of a pair that a source is an element of (R48, R229, R241). -/
def State.pairDisagrees (s : State) (code : Nat) : Bool :=
  (upto 512).any fun p =>
    let k := 4096 + p
    let (a, b, _) := s.eltCodes k
    s.bit (SL_FLAGS_PAIR_DISAGREE k) && (a == code || b == code)

/-- The conditions of R229 other than steadiness and ΔT. -/
def State.calConds (s : State) (r : Nat) : Bool :=
  let m := s.sys.mode
  s.isActive && (m == .reactive || m == .predictive || m == .isolate) && !s.rackIsolated r &&
    decide (s.pf.calmSince + secs 1800 ≤ s.time) && (s.rackCtxs r).all (fun c => !s.bit (SL_FLAGS_CTX_SILENT c)) &&
    !(s.rackFlow r).frozen && !(s.rackFlow r).stale && !(s.srcRtd (2 * r)).frozen && !(s.srcRtd (2 * r + 1)).frozen &&
    !s.pairDisagrees (0x1000 + 2 * r) && !s.pairDisagrees (0x1001 + 2 * r) && !s.pairDisagrees (s.rd (SN_FLOWSRC r))

/-- A mean differs from the one before by less than 2% (R229). -/
def within2 (last : Option F32) (v : F32) : Bool :=
  match last with
  | some l => fvScaledLt 50 (fabs (fsub v l)) 1 (fabs l)
  | none => false

/-- A target that steps a value, limited (R231, R233). -/
def limitedStep (target v lim : F32) : F32 := fclamp (fneg lim) lim (fdiv (fsub target v) (f32OfInt 60))

/-- SUSPECT of the input that a class 1, 2 or 3 code names. -/
def State.markSuspect (s : State) (code : Nat) (b : Bool) : State :=
  let i := code % 4096
  match code / 4096 with
  | 1 => s.putBit (SN_RTDSTAT_SUSPECT i) b
  | 2 => s.putBit (SN_MASTAT_SUSPECT i) b
  | 3 => s.putBit (SN_PISTAT_SUSPECT i) b
  | _ => s

/-- The SUSPECT mark of the input that a class 1, 2 or 3 code names. -/
def State.suspect (s : State) (code : Nat) : Bool :=
  let i := code % 4096
  match code / 4096 with
  | 1 => s.bit (SN_RTDSTAT_SUSPECT i)
  | 2 => s.bit (SN_MASTAT_SUSPECT i)
  | 3 => s.bit (SN_PISTAT_SUSPECT i)
  | _ => false

/-- A rack's calibration state as the NOR keeps it (R234). -/
def State.calKept (s : State) (r : Nat) : SavedCal :=
  { rack := r, gain := s.rd (SN_FLOWGAIN r), off := s.rd (SN_RTDOFF (2 * r)), off2 := s.rd (SN_RTDOFF (2 * r + 1)),
    state := (s.cal r).state, paux := (s.cal r).paux,
    marks := b2n (s.suspect (s.rd (SN_FLOWSRC r))) + 2 * b2n (s.suspect (0x1000 + 2 * r)) +
      4 * b2n (s.suspect (0x1001 + 2 * r)) }

/-- The calibration state written to the NOR (R234). -/
def State.calSave (s : State) : State :=
  (s.onPf fun y => { y with calSaved := s.time }).onMg fun y => { y with savedCal := (upto 16).map s.calKept }

/-- The flow gain's evaluation of one minute (R230 to R232). -/
def State.calGain (s : State) (r : Nat) (pRep vRaw tSup tRet : F32) : State :=
  let x := s.cal r
  let g := s.rdf (SN_FLOWGAIN r)
  let rho := rhoCp (s.cfg 0x0005 0 0 == 1) (fdiv (fadd tSup tRet) (f32OfInt 2))
  let dT := fsub tRet tSup
  let pElec := fadd pRep x.paux
  let pCool := fmul (fdiv (fmul (fmul rho g) vRaw) (f32OfInt 60000)) dT
  let gt := fdiv pElec (fmul (fdiv (fmul rho vRaw) (f32OfInt 60000)) dT)
  let x := { x with pElec := pElec, pCool := pCool, gTarget := gt }
  if flt gt f095 ∨ flt f105 gt ∨ fisNaN gt then
    if x.badG = 2 then
      ((s.setCal r { x with badG := 3, state := 4 }).markSuspect (s.rd (SN_FLOWSRC r)) true).calSave.note 8 .calSuspect 1 [r] 192
    else s.setCal r { x with badG := x.badG + 1 }
  else
    let g2 := fclamp f095 f105 (fadd g (limitedStep gt g f0001))
    ((s.setCal r { x with badG := 0, state := 2, lastStep := some s.time }).wrf (SN_FLOWGAIN r) g2).log 8 .rtdOffset 0
      [r, 0, g2.toNat]

/-- The offset evaluation of one RTD of a rack: which = 0 supply, 1 return (R233). -/
def State.calOffset (s : State) (r which : Nat) (reading ref : F32) : State :=
  let x := s.cal r
  let n := 2 * r + which
  let o := s.rdf (SN_RTDOFF n)
  let target := fadd o (fsub ref reading)
  let bad := if which = 0 then x.badO else x.badO2
  let x := if which = 0 then { x with oTarget := target } else { x with oTarget2 := target }
  let put (k : Nat) : CalRack := if which = 0 then { x with badO := k } else { x with badO2 := k }
  if s.pairDisagrees (0x1000 + n) ∨ s.bit (SN_RTDSTAT_SUSPECT n) then s.setCal r x
  else if flt f02 (fabs target) then
    if bad = 2 then ((s.setCal r (put 3)).markSuspect (0x1000 + n) true).calSave.note 8 .calSuspect 1 [r, n] 192
    else s.setCal r (put (bad + 1))
  else
    let o2 := fclamp (fneg f02) f02 (fadd o (limitedStep target o f0005))
    ((s.setCal r { put 0 with lastStep := some s.time }).wrf (SN_RTDOFF n) o2).log 8 .rtdOffset 0 [r, n, o2.toNat]

/-- The rack is isothermal now (R233): a pump runs, power below 2% of the rack budget (1 kW without one), the supply
header within 0.1 K over the last 10 min. -/
def State.isothermal (s : State) (r : Nat) (pRep : F32) : Bool :=
  let b := s.rd (PB_RACK_BUDGET r)
  let low := if b = 0 then flt pRep (f32OfInt 1000) else fvScaledLt 50 pRep 1 (f32OfInt b)
  let hs := s.pf.header
  let near := match hs with
    | [] => false
    | h :: _ => hs.all fun x => fvScaledLt 10 (fabs (fsub h x)) 1 0x3F800000
  !s.runningPumps.isEmpty && low && near

/-- One step of a correction, logged where it changes the value (R243). -/
def State.calStep (s : State) (r i : Nat) (f : RF) (v : F32) : State :=
  if s.rdf f = v then s else (s.wrf f v).log 8 .rtdOffset 0 [r, i, v.toNat]

/-- A reset of the corrections moves g to 1 and the offsets to 0 at the slew limits, each step logged (R234, R243). -/
def State.calReset (s : State) (r : Nat) : State :=
  let g := s.rdf (SN_FLOWGAIN r)
  let step (goal lim v : F32) : F32 := fadd v (fclamp (fneg lim) lim (fsub goal v))
  let g2 := step 0x3F800000 f0001 g
  let a := step 0 f0005 (s.rdf (SN_RTDOFF (2 * r)))
  let b := step 0 f0005 (s.rdf (SN_RTDOFF (2 * r + 1)))
  let done := feq g2 0x3F800000 && feq a 0 && feq b 0
  let s := (s.calStep r 0 (SN_FLOWGAIN r) g2).calStep r (2 * r) (SN_RTDOFF (2 * r)) a
  let s := s.calStep r (2 * r + 1) (SN_RTDOFF (2 * r + 1)) b
  s.setCal r { s.cal r with resetting := !done, lastStep := some s.time }

/-- The minutes steady and the means kept for the next minute (R229). -/
def State.calSteady (s : State) (r : Nat) (pRep vRaw : F32) (hold : Bool) : State :=
  let x := s.cal r
  let ok := hold && within2 x.lastP pRep && within2 x.lastV vRaw
  s.setCal r { x with steady := if ok then x.steady + 1 else 0,
                      lastP := if hold then some pRep else none,
                      lastV := if hold then some vRaw else none }

/-- The evaluation window of a rack restarts (R229). -/
def State.calRestart (s : State) (r : Nat) : State :=
  let x := s.cal r
  if x.lastP.isSome ∨ x.iso ≠ 0 then s.setCal r { x with steady := 0, iso := 0, lastP := none, lastV := none } else s

/-- A condition of R229 that fails between two minutes restarts the rack's window. -/
def State.calWatch (s : State) : State :=
  (upto 16).foldl (fun s r =>
    if ((s.cal r).lastP.isSome || (s.cal r).iso != 0) && !s.calConds r then s.calRestart r else s) s

/-- The supply header's mean of the minute kept, once a minute, for the last 10 min (R233). -/
def State.headerMean (s : State) (ref : F32) : State :=
  if (tfind s.pf.calAt 16).isNone ∨ s.since (tfind s.pf.calAt 16) (secs 60) then
    (s.onPf fun y => { y with header := (ref :: s.pf.header).take 11, calAt := tinsert s.pf.calAt 16 s.time })
  else s

/-- One calibration minute of a rack with its one-minute means (R229 to R234). An offset is calibrated under the
conditions of R229 that do not contradict an isothermal rack: all but steady power and ΔT. DEDUCED:
notes/assumptions/97.md. -/
def State.calMinute (s : State) (r : Nat) (pRep vRaw tSup tRet ref : F32) : State :=
  let s := (s.onPf fun y => { y with calAt := tinsert s.pf.calAt r s.time })
  let s := s.headerMean ref
  if (s.cal r).resetting then s.calReset r
  else if ¬ (s.cal r).enabled then s.setCal r { s.cal r with state := 0, steady := 0, iso := 0 }
  else
    let hold := s.calConds r
    let cold := flt (fsub tRet tSup) (f32OfInt 2)
    let s := s.calSteady r pRep vRaw (hold && !cold)
    let iso := hold && s.isothermal r pRep
    let s := s.setCal r { s.cal r with iso := if iso then (s.cal r).iso + 1 else 0 }
    let s := if 10 ≤ (s.cal r).iso then (s.calOffset r 0 tSup ref).calOffset r 1 tRet ref else s
    if s.suspect (s.rd (SN_FLOWSRC r)) then s.setCal r { s.cal r with state := 4 }
    else if ¬ hold then s.setCal r { s.cal r with state := 3 }
    else if (s.cal r).steady < 10 ∨ cold then s.setCal r { s.cal r with state := 1 }
    else s.calGain r pRep vRaw tSup tRet

/-- The block's work at a frame boundary. -/
def State.pfFrame (s : State) : State :=
  let s := (upto 12).foldl State.learn s
  ((upto 4).foldl State.runTime s).pmStatus.calWatch

end Sys2Proof.Machine
end

