-- ==== Sys2Proof/Machine/Modes.lean ====
section
/-! DEFINITION. The module state machine (spec 01, R19 to R26), with the trip matrix (spec 17, R427 to R432) it acts
with: entering and leaving the module states, and the effects of each. -/

namespace Sys2Proof.Machine

/-! ### Twin role (R25, R26) -/

/-- The twin role changes; the field follows the new owner (R25, R174); doorbell 35 and MSI-X vector 3 (R301, R361). A
Modbus write grant ends with the role (R385); the supervisor sets the bits that follow the role (R182, R205, R288). -/
def State.setRole (s : State) (r : Role) : State :=
  if s.sys.role = r then s
  else
    let old := s.sys.role
    let s := ((s.onSys fun y => { y with role := r })).wr TW_STATUS_ROLE r.code
    let s := s.onMg fun y => { y with grantEnd := if r = .active then y.grantEnd else none }
    let s := (s.putBit PB_CTRL_HOLD_QUEUE (r != .active)).putBit VQ_CTRL_ACCEPT (r == .active)
    let s := (upto 4).foldl (fun s n => s.putBit (FB_CTRL_MONITOR n) (r != .active)) s
    (((s.putBit TW_STATUS_DRIVING (r == .active)).senseBrakes).note 12 .roleChange 1 [old.code, r.code] 35).msixSend 3

/-! ### The parameter sets and Trellis by module state (R44, R89, R227) -/

/-- The module state whose row of R44 the slots follow: in ISOLATE the prior state's. A prior PREDICTIVE that waits for
its 8 good frames after SHED runs as REACTIVE until then (R20). -/
def State.rowMode (s : State) : ModState :=
  if s.sys.mode = .isolate then
    (if s.sys.prior = .predictive ∧ s.sys.resumePredictive = true then .reactive else s.sys.prior)
  else s.sys.mode

/-- A state in which the plant loops run their table set (R227). -/
def tableRow : ModState → Bool
  | .table | .survival => true
  | .off | .boot | .reactive | .predictive | .hold | .isolate | .shed | .service | .failed => false

/-- The table set written on entering TABLE or SURVIVAL, the control set on leaving them (R227). -/
def State.applySets (s : State) : State :=
  if tableRow s.rowMode then s.toTableSet else if s.sys.mode = .failed then s else s.toControlSet

/-- A rotation in progress aborted: the spare keeps its place, ROT_ABORT set; the period restarts when Trellis runs
again (R81). Once the switch has taken place the retiring column stays the spare, to be tested and loaded anew. -/
def State.rotAbort (s : State) : State :=
  let ph := s.rd TR_ROT_STATE_PHASE
  if ph = 2 ∨ ph = 3 then
    let s := (s.putBit TR_STATUS_ROT_ABORT true).wr TR_ROT_STATE_PHASE (if ph = 3 then 1 else 0)
    (s.onTr fun y => { y with
      switchAt := none, retiring := none, lastSwitch := s.time, rotRestart := true, selftestDone := y.selftestDone && ph == 2,
      preloaded := y.preloaded && ph == 2 }).log 2 .rotationAborted 0 []
  else s

/-- Trellis may run frames: enabled, admitted, not idle, not in retention, in a state of R89 that runs it. -/
def State.trRuns (s : State) : Bool :=
  s.bit TR_CTRL_ENABLE && s.bit TR_STATUS_ADMITTED && !s.bit TR_CTRL_IDLE && !s.bit TR_CTRL_RETAIN &&
    s.tr.scrubFrom.isNone &&
    match s.sys.mode with
    | .table | .reactive | .predictive | .hold | .isolate | .service => true
    | .off | .boot | .shed | .survival | .failed => false

/-- RUNNING, IDLED and RETAINED brought up to the control bits and the module state; the period of an aborted rotation
restarts as Trellis runs again (R81). -/
def State.trStatus (s : State) : State :=
  let s := ((s.putBit TR_STATUS_RUNNING s.trRuns).putBit TR_STATUS_IDLED (s.bit TR_CTRL_IDLE)).putBit TR_STATUS_RETAINED
    (s.bit TR_CTRL_RETAIN)
  if s.trRuns ∧ s.tr.rotRestart then s.onTr fun y => { y with lastSwitch := s.time, rotRestart := false } else s

/-- IDLE and RETAIN as the supervisor sets them for a module state (R89, R450). DEDUCED: notes/assumptions/83.md. -/
def State.trMode (s : State) : State :=
  let s := s.putBit TR_CTRL_IDLE (s.sys.mode == .shed || s.sn.derated)
  (s.putBit TR_CTRL_RETAIN (s.sys.mode == .survival)).trStatus

/-! ### Changing the state (R19, R20) -/

/-- What remembers the last running state: the state left, or TABLE when ISOLATE or SHED ends SERVICE (R19, R21). -/
def priorAfter (old new prior : ModState) : ModState :=
  if old.running then old
  else if old = .service ∧ (new = .isolate ∨ new = .shed) then .table
  else prior

/-- Context slots that are released again resume with a hand-over (R44). -/
def State.resumeCtxs (s : State) (was : Bool) : State :=
  if ctxReleased s.sys.mode s.sys.prior ∧ ¬ was then
    s.live.foldl (fun s c => s.setSlot c { s.slot c with handDue := true }) s
  else s

/-- The module state changes: prior state, parameter sets, Trellis, slots released again, LE_STATUS.RUNNING, log
record. -/
def State.setState (s : State) (m : ModState) : State :=
  let old := s.sys.mode
  if old = m then s
  else
    let was := ctxReleased old s.sys.prior
    let s := (s.onSys fun y => { y with mode := m, prior := priorAfter old m s.sys.prior })
    let s := (s.applySets).trMode.resumeCtxs was
    let s := if m = .reactive ∨ m = .predictive ∨ m = .isolate then s else (upto 16).foldl State.calRestart s
    let s := s.putBit LE_STATUS_RUNNING (s.bit LE_CTRL_ENABLE && m.fromTable && m != .failed)
    (s.log 1 .stateChange 1 [old.code, m.code]).msixSend 3

/-! ### Service drives (R9, R21) -/

/-- The plant slots that drive a pump. -/
def State.pumpSlots (s : State) (n : Nat) : List Nat :=
  ((upto 512).map (· + 4096)).filter fun k =>
    s.rd (SL_OUT_TARGET_TGT k) == 0x1000 + n || s.rd (SL_OUT_TARGET_TGT k) == 0x4000 + n

/-- One service drive released: a pump goes on from the driven output under its loop, a valve reopens unless a trip
holds it, a forced brake line is released. DEDUCED: notes/assumptions/66.md. -/
def State.releaseDrive (s : State) : SvcDrive → State
  | .pump n =>
    let u := fdiv (f32OfInt (s.rd (PF_SPEED n))) (f32OfInt 100)
    (s.pumpSlots n).foldl (fun s k => (s.wrf (SL_OUT0 k) u).setSlot k { s.slot k with handDue := true }) s
  | .valve n => if s.bit (SV_CHSTAT_TRIP_HELD n) then s else s.openRequest n
  | .brake r => (s.wr PB_BRAKE_FORCE (withBits (s.rd PB_BRAKE_FORCE) r r 0)).senseBrakes

/-- Every service drive released (R21). -/
def State.releaseDrives (s : State) : State :=
  let s := s.sys.drives.foldl State.releaseDrive s
  s.onSys fun y => { y with drives := [] }

/-- The release when a state is left. DEDUCED: notes/assumptions/66.md. -/
def State.leaveService (s : State) : State := if s.sys.mode = .service then s.releaseDrives else s

/-! ### Entering the states -/

/-- The context slots take the emergency caps as their chain 0 outputs (R44, R176). -/
def State.emergencyOutputs (s : State) : State :=
  s.admitted.foldl (fun s c => s.wrf (SL_OUT0 c) (f32OfInt (s.emergCap c))) s

/-- The bypass given back to plant loop 1, which takes 100% as its last output (R219). -/
def State.bypassFree (s : State) : State :=
  let s := s.onPf fun y => { y with bypass := false }
  (s.wrf (SL_OUT0 4097) (f32OfInt 100)).setSlot 4097 { s.slot 4097 with handDue := true }

/-- The flow is not restored: its bit and its stamps clear (R226). -/
def State.flowNotRestored (s : State) : State :=
  (s.onPf fun y => { y with restoreSince := none, restoredAt := none }).putBit PF_HYD_FLOW_RESTORED false

/-- SHED entered (R20, R176, R219, R225): EMERGENCY records, standby pumps, bypass, Trellis idle, rotation aborted. -/
def State.enterShed (s : State) : State :=
  let q := s.rowSetpoint
  let s := s.leaveService.rotAbort.setState .shed
  let s := (s.onSys fun y => { y with heldCoolant := false, modeReq := none })
  (s.emergencyQueue.emergencyOutputs.pfShed q).flowNotRestored

/-- A coolant stop (R20 to R22, R225, R226): SHED from the states R20 names; in SHED a second stop; held otherwise.
DEDUCED: notes/assumptions/65.md. -/
def State.coolantStop (s : State) : State :=
  match s.sys.mode with
  | .table | .reactive | .predictive | .hold | .service | .isolate => s.enterShed
  | .shed =>
    s.flowNotRestored
  | .off | .boot | .survival | .failed => (s.onSys fun y => { y with heldCoolant := true })

/-- The time below 45% that takes a staged pump out runs from the end of SHED (R225). -/
def State.lowRestart (s : State) : State := s.onPf fun y => { y with lowSince := y.lowSince.map fun _ => s.time }

/-- SURVIVAL entered (R20, R22): from any state from TABLE on. A SHED that has not ended is held. DEDUCED:
notes/assumptions/65.md. -/
def State.enterSurvival (s : State) : State :=
  match s.sys.mode with
  | .off | .boot => (s.onSys fun y => { y with heldColdPlate := true })
  | .survival | .failed => s
  | .shed =>
    let held := s.pf.restoredAt.isNone
    let s := s.lowRestart.rotAbort.bypassFree.setState .survival
    s.onSys fun y => { y with heldCoolant := held, heldColdPlate := false, modeReq := none }
  | .table | .reactive | .predictive | .hold | .service | .isolate =>
    let s := s.leaveService.rotAbort.setState .survival
    s.onSys fun y => { y with heldColdPlate := false, modeReq := none }

/-- FAILED entered (R20, R330, R331): control given up, the line and every field driver and brake line released, the
role FAULTED, the log record, and the summary of the alarm relays opened. DEDUCED: notes/assumptions/29.md. -/
def State.enterFailed (s : State) (cause : List Nat) : State :=
  if s.sys.mode = .failed ∨ s.sys.mode = .off then s
  else
    let s := s.log 1 .fatal 3 cause
    let s := s.setState .failed
    let s := if s.isActive then ((s.wr TW_STATUS_LINE 0).putBit TW_STATUS_OWN_H false).putBit TW_STATUS_OWN_L true else s
    let s := ((s.setRole .faulted).onTw fun y => { y with outEn := false }).svDisconnect
    let s := (((s.wr TR_CTRL_ENABLE 0).putBit TR_STATUS_ROT_ACTIVE false).wr TR_ROT_STATE_PHASE 0).trStatus
    let s := s.onSys fun y => { y with modeReq := none, drives := [], failedAt := some s.time, resumePredictive := false }
    (s.onMg fun y => { y with relays := withBits y.relays 3 3 0 }).onSn fun y =>
      { y with exc := false, excAt := if y.exc then some s.time else y.excAt }

/-! ### The trip matrix (R427 to R432) -/

/-- A row's latch. -/
def State.tmLatched (s : State) (r : Nat) : Bool := bitOf (s.rd (TM_LATCH (r / 32))) (r % 32)

/-- A row's latch set or cleared. -/
def State.setTmLatch (s : State) (r : Nat) (b : Bool) : State :=
  s.wr (TM_LATCH (r / 32)) (withBits (s.rd (TM_LATCH (r / 32))) (r % 32) (r % 32) (b2n b))

/-- A leak channel's or filter's rack, where an input has one (R428). -/
def State.inputRack (s : State) (n : Nat) : Option Nat :=
  if n < 16 then none
  else if n < 32 then some (s.rd (LK_ROPECFG_RACK (n - 16)))
  else if n < 48 then some (s.rd (LK_PTCFG_RACK (n - 32)))
  else if n < 112 then some (s.rd (FB_TRIP_RACK ((n - 48) / 16) ((n - 48) % 16)))
  else none

/-- The racks a CLOSE row closes. -/
def State.rowRacks (s : State) (r : Nat) : List Nat :=
  let arg := s.rd (TM_ROW_ARG r)
  if arg = 0 then
    match s.inputRack (s.rd (TM_ROW_INPUT r)) with
    | some k => if k < 16 then [k] else []
    | none => []
  else (upto 16).filter fun k => bitOf arg k

/-- The brake lines that the latched BRAKE rows assert while the actions reach the outputs. -/
def State.tripMask (s : State) : Nat :=
  if s.bit TM_CTRL_OUT_EN then
    (upto 128).foldl (fun m r =>
      if s.tmLatched r ∧ s.rd (TM_ROW_ACTION r) = 1 then m ||| s.rd (TM_ROW_ARG r) else m) 0
  else 0

/-- The brake lines brought up to the latches (R174, R432). -/
def State.tripBrakes (s : State) : State := ((s.onPb fun y => { y with tripBrakes := s.tripMask })).senseBrakes

/-- A latched row's action (R428). -/
def State.tripAct (s : State) (r : Nat) : State :=
  match s.rd (TM_ROW_ACTION r) with
  | 1 => s.tripBrakes
  | 2 => (s.rowRacks r).foldl State.tripRack s
  | 3 => if s.rd (TM_ROW_ARG r) % 32 < 20 then s.wr (AO_VAL (s.rd (TM_ROW_ARG r) % 32)) 10000 else s
  | 4 => if s.sys.mode = .shed then s else s.coolantStop
  | 5 => ((s.wr CK_CTRL_CORE_DIV 1).putBit TR_CTRL_RETAIN true).trStatus
  | _ => s

/-- The actions reach the outputs from the first entry to TABLE on, and every latched action takes effect (R431). -/
def State.outEnable (s : State) : State :=
  if s.bit TM_CTRL_OUT_EN then s
  else
    let s := s.putBit TM_CTRL_OUT_EN true
    (upto 128).foldl (fun s r => if s.tmLatched r then s.tripAct r else s) s

/-- A trip-matrix input as the rows act on it: a STANDBY's rows follow the forwarded inputs alone, and its own field die's
feed only the cross-checks (R24, R327). -/
def State.tripInput (s : State) (i : Nat) : Bool :=
  if s.sys.role = .standby then
    match tfind s.tw.fin (TM_IN (i / 32)).addr with
    | some w => bitOf w.toNat (i % 32)
    | none => false
  else s.tmInput i

/-- A latch cleared by the supervisor: ignored while the row's input is asserted (R432). -/
def State.tmClear (s : State) (r : Nat) : State :=
  if s.tmLatched r ∧ ¬ s.tripInput (s.rd (TM_ROW_INPUT r)) then s.setTmLatch r false else s

/-- What follows from the latches left: brake lines, core divider; a divider of SURVIVAL stays until the module leaves
SURVIVAL (R416, R432). -/
def State.tmSettle (s : State) : State :=
  let s := s.tripBrakes
  let surv := (upto 128).any fun r => s.tmLatched r && s.rd (TM_ROW_ACTION r) == 5
  let held := s.sys.mode == .survival && s.rd CK_CTRL_CORE_DIV == 1
  s.wr CK_CTRL_CORE_DIV (b2n (surv && s.bit TM_CTRL_OUT_EN || held))

/-- The latches of the rows of some actions cleared. DEDUCED: notes/assumptions/65.md. -/
def State.clearActions (s : State) (acts : List Nat) : State :=
  ((upto 128).foldl (fun s r => if acts.contains (s.rd (TM_ROW_ACTION r)) then s.tmClear r else s) s).tmSettle

/-- The CRC-32C of the 128 rows (R434). DEDUCED: notes/assumptions/89.md. -/
def State.tmCrcNow (s : State) : Nat := crc32c ((upto 128).flatMap fun r => leBytes 4 (s.rd (TM_ROW r)))

/-! ### Isolation (R20, R178, R220, R249) -/

/-- A rack's isolation takes effect in ISOLATE: its contexts, its brake line, its valve loop. -/
def State.isolateRack (s : State) (r : Nat) : State :=
  if s.rackIsolated r then s
  else
    let s := (s.onSys fun y => { y with isolated := s.sys.isolated + 2 ^ r })
    (s.isolateCaps r).isoLoop r

/-- ISOLATE entered with the racks whose isolation is due (R20, R21, R249). -/
def State.enterIsolate (s : State) (racks : List Nat) : State :=
  let s := s.leaveService.setState .isolate
  racks.foldl State.isolateRack (s.onSys fun y => { y with heldLeak := false })

/-- The state that ISOLATE or SHED returns to: the prior state; a prior PREDICTIVE waits in REACTIVE where it must
(R20). -/
def State.backTo (s : State) (waitGood : Bool) : ModState :=
  if s.sys.prior.running then (if s.sys.prior = .predictive ∧ waitGood then .reactive else s.sys.prior) else .table

/-- A leak confirmation asks for the isolation of its rack at the first frame boundary at least 50 µs later (R249);
in a state that does not isolate it is held (R22). -/
def State.askIsolate (s : State) (rack : Nat) : State :=
  if 16 ≤ rack ∨ s.rackIsolated rack ∨ s.sys.isoPend.any (fun p => p.2 == rack) then s
  else
    let f := s.frameCounts
    let t := s.time + usec 50
    let due := if f = 0 then t else (t + f - 1) / f * f
    let held := !(s.sys.mode.running || s.sys.mode == .service || s.sys.mode == .isolate)
    (s.onSys fun y => { y with isoPend := s.sys.isoPend ++ [(due, rack)], heldLeak := s.sys.heldLeak || held })

/-- A rack has reopened: its contexts, brake line and loop return, the CLOSE latches clear, and ISOLATE ends with the
last (R20, R178, R220, R432). -/
def State.rackBack (s : State) (r : Nat) : State :=
  if s.rackIsolated r then
    let s := s.onSys fun y => { y with isolated := y.isolated - 2 ^ r }
    let s := s.freedCtxs.foldl (fun s c => s.setSlot c { s.slot c with out := f32OfInt (s.isolCap c), handDue := true }) s
    let s := ((s.reopenCaps r).isoEnd r).clearActions [2]
    if s.sys.mode = .isolate ∧ s.sys.isolated = 0 ∧ s.sys.isoPend = [] then s.setState (s.backTo s.sys.resumePredictive)
    else s
  else s

/-- The racks that have reopened after the release of a valve. DEDUCED: notes/assumptions/65.md. -/
def State.reopenCheck (s : State) : State :=
  (upto 16).foldl (fun s r => if s.rackIsolated r ∧ s.rackReopened r then s.rackBack r else s) s

/-! ### Leaving SHED and SURVIVAL; TABLE (R20, R22, R177) -/

/-- A prior PREDICTIVE waits for 8 good frames after SHED (R20). -/
def State.waitGood (s : State) : State :=
  (s.onSys fun y => { y with resumePredictive := y.resumePredictive || decide (y.prior = .predictive) }).onTr
    fun y => { y with goodBase := 0 }

/-- The racks whose isolation waits, taken off the list, with ISOLATE entered for them. -/
def State.isolateAll (s : State) : State :=
  let racks := s.sys.isoPend.map (·.2)
  (s.onSys fun y => { y with isoPend := [] }).enterIsolate racks

/-- The outputs after SHED: bypass freed, loop 1 from 100%, the context slots from their emergency caps; the time below
45% that takes a staged pump out runs from the end of SHED (R44, R219, R225). -/
def State.shedOutputs (s : State) : State :=
  (s.lowRestart.onPf fun y => { y with calmSince := s.time }).bypassFree.emergencyOutputs

/-- SHED ends (R20, R177, R219): the brakes and the bypass released, then ISOLATE where an isolation is active or
waits, else the prior state. DEDUCED: notes/assumptions/65.md. -/
def State.leaveShed (s : State) : State :=
  let s := (s.clearActions [1, 3, 4]).shedOutputs.waitGood
  if s.sys.isolated ≠ 0 ∨ s.sys.isoPend ≠ [] then s.isolateAll else s.setState (s.backTo true)

/-- TABLE entered: the trip actions reach the outputs; the state's first entry after a boot is stamped (R397, R431). -/
def State.enterTable (s : State) : State :=
  let s := (s.leaveService.setState .table).outEnable
  (s.onSys fun y => { y with resumePredictive := false, tableSince := some (s.sys.tableSince.getD s.time) })

/-- The triggers held by a higher state acted on when it ends (R22). -/
def State.actHeld (s : State) : State :=
  if s.sys.heldColdPlate then s.enterSurvival
  else if s.sys.heldCoolant then s.enterShed
  else if s.sys.isoPend ≠ [] ∨ s.sys.isolated ≠ 0 then s.isolateAll
  else s

/-- SURVIVAL ends (R20, R22, R89, R432): the SURVIVAL latch cleared, the clocks back, TABLE, then what was held; the
scrubbers owe one full pass. DEDUCED: notes/assumptions/65.md. -/
def State.leaveSurvival (s : State) : State :=
  let s := (s.clearActions [5]).onPf fun y => { y with calmSince := s.time }
  (s.onTr fun y => { y with scrubFrom := some s.time }).enterTable.tmSettle.actHeld

/-! ### Commanded states (R20, R23, R376) -/

/-- An operation that stops a pending return to PREDICTIVE; a prior PREDICTIVE becomes REACTIVE (R20, R84, R148). -/
def State.toReactive (s : State) : State :=
  let s := (s.onSys fun y => { y with resumePredictive := false })
  if s.sys.mode = .predictive then s.setState .reactive
  else if s.sys.prior = .predictive then (s.onSys fun y => { y with prior := .reactive })
  else s

/-- The present state lets SET_MODE ask for a state, and its conditions hold (R20, R23, R433). DEDUCED:
notes/assumptions/64.md. -/
def State.modeAllowed (s : State) (m : ModState) : Bool :=
  let old := s.sys.mode
  let valid := s.bit CK_STATUS_TIME_VALID && s.sys.configWritten
  match m with
  | .table => old == .hold || old == .service
  | .reactive => (old == .table || old == .hold) && valid || old == .predictive && s.bit CK_STATUS_TIME_VALID
  | .predictive => (old == .reactive || old == .hold) && s.tr.image.isSome && s.bit TR_STATUS_ADMITTED
  | .hold => old == .table || old == .reactive || old == .predictive
  | .service => old == .table || old == .hold
  | .off | .boot | .isolate | .shed | .survival | .failed => false

/-- The count of frames without a record begins anew in the first REACTIVE frame after a claim under R333 (R334). -/
def State.silentAnew (s : State) : State :=
  if s.tw.silentRestart then
    (s.onVq fun y => { y with silent := [] }).onTw fun y => { y with silentRestart := false }
  else s

/-- A commanded state entered (R20). -/
def State.enterMode (s : State) (m : ModState) : State :=
  let s := (s.onSys fun y => { y with resumePredictive := false })
  let s := if m = .reactive then s.silentAnew else s
  if m = .table then s.enterTable else (s.leaveService).setState m

/-- The request made by SET_MODE takes effect at the boundary, if the state still allows it (R376). DEDUCED:
notes/assumptions/64.md. -/
def State.applyRequest (s : State) : State :=
  match s.sys.modeReq with
  | some m =>
    let s := (s.onSys fun y => { y with modeReq := none })
    if s.modeAllowed m then s.enterMode m else s
  | none => s

/-- REACTIVE and PREDICTIVE left for TABLE (R20, R372): host silence, or the supervisor's demotion. -/
def State.demote (s : State) : State :=
  if s.sys.mode = .reactive ∨ s.sys.mode = .predictive then s.enterTable else s

end Sys2Proof.Machine
end

