-- ==== Sys2Proof/Machine/FieldOps.lean ====
section
/-! DEFINITION. The field bus (spec 11): frames and their bounds, the offer of a channel, fault confinement, mirrors, and
what a received frame does. -/

namespace Sys2Proof.Machine

/-! ### Frames (R274, R276, R287) -/

/-- Data bytes a frame carries. -/
def frameLen (f : CanFrame) : Nat := if f.rtr then 0 else dlcLen f.fdf f.dlc

/-- Arbitration rank: base identifiers as their 11 bits shifted left by 18 (R279). -/
def frameRank (f : CanFrame) : Nat := if f.xtd then f.id else f.id * 2 ^ 18

/-- Buffer word 0 of a frame (R276). -/
def frameWord0 (f : CanFrame) : Nat :=
  b2n f.xtd * 2 ^ 31 + b2n f.rtr * 2 ^ 30 + (if f.xtd then f.id % 2 ^ 29 else f.id % 2 ^ 11)

/-- Buffer word 1 of a frame (R276). -/
def frameWord1 (f : CanFrame) : Nat :=
  f.dlc % 16 * 2 ^ 28 + b2n f.fdf * 2 ^ 27 + b2n f.brs * 2 ^ 26 + b2n f.esi * 2 ^ 25

/-- The frame that a buffer holds. -/
def State.mbFrame (s : State) (n m : Nat) : CanFrame :=
  let w0 := s.rd (FB_MBDATA n m 0)
  let w1 := s.rd (FB_MBDATA n m 1)
  let fd := bitOf w1 27
  let len := if bitOf w0 30 && !fd then 0 else dlcLen fd (w1 / 2 ^ 28)
  { id := if bitOf w0 31 then w0 % 2 ^ 29 else w0 % 2 ^ 11, xtd := bitOf w0 31, rtr := bitOf w0 30 && !fd, fdf := fd,
    brs := bitOf w1 26, esi := bitOf w1 25, dlc := w1 / 2 ^ 28,
    data := ((upto 16).flatMap fun k => leBytes 4 (s.rd (FB_MBDATA n m (2 + k)))).take len }

/-- A frame written to a buffer's words; the last data word is filled with 0. -/
def State.mbStore (s : State) (n m : Nat) (f : CanFrame) : State :=
  let s := (s.wr (FB_MBDATA n m 0) (frameWord0 f)).wr (FB_MBDATA n m 1) (frameWord1 f)
  (upto (((frameLen f) + 3) / 4)).foldl (fun s k => s.wr (FB_MBDATA n m (2 + k)) (fieldLE f.data (4 * k) 4)) s

/-- A nominal bit time in quarter counts: the 80 MHz CAN clock is 5 of them (R274, R275). -/
def State.nominalBit (s : State) (n : Nat) : Nat :=
  5 * (s.rd (FB_NBT_BRP n) + 1) * (3 + s.rd (FB_NBT_TSEG1 n) + s.rd (FB_NBT_TSEG2 n))

/-- A data-phase bit time in quarter counts. -/
def State.dataBit (s : State) (n : Nat) : Nat :=
  5 * (s.rd (FB_DBT_BRP n) + 1) * (3 + s.rd (FB_DBT_TSEG1 n) + s.rd (FB_DBT_TSEG2 n))

/-- The bound T of a frame in quarter counts (R287). -/
def State.frameBound (s : State) (n : Nat) (f : CanFrame) : Nat :=
  let ext := if f.xtd then 25 else 0
  if f.fdf then
    (34 + ext) * s.nominalBit n +
      (5 + 8 * (frameLen f) + (5 + 8 * (frameLen f)) / 4 + (if (frameLen f) ≤ 16 then 27 else 32)) *
        (if f.brs then s.dataBit n else s.nominalBit n)
  else (8 * (frameLen f) + 47 + (33 + 8 * (frameLen f)) / 4 + ext) * s.nominalBit n

/-- A classic base frame. PRESUMED: notes/assumptions/55.md. -/
def classicFrame (id : Nat) (data : List Byte) : CanFrame :=
  { id := id, xtd := false, rtr := false, fdf := false, brs := false, esi := false, dlc := data.length, data := data }

/-- The reference message of basic cycle q (R284). -/
def refFrame (q : Nat) : CanFrame := classicFrame 0 (leBytes 1 (q % 64) ++ zeros 3 ++ leBytes 4 (q / 64))

/-! ### The pricking (R283 to R286) -/

/-- LEN in counts, 25 to 1,000 units of 10 µs. -/
def State.fbLen (s : State) (n : Nat) : Nat := clampNat 25 1000 (s.rd (FB_TTCFG_LEN n)) * 1000

/-- Columns in use. -/
def State.fbCols (s : State) (n : Nat) : Nat := clampNat 1 32 (s.rd (FB_TTCFG_NCOL n))

/-- A mark in counts; M_0 is 0. -/
def State.fbMark (s : State) (n w : Nat) : Nat := if w = 0 then 0 else usec (s.rd (FB_MARK n w))

/-- TX_ENABLE in nominal bits; 0 is applied as 1. -/
def State.txEnable (s : State) (n : Nat) : Nat := max 1 (s.rd (FB_TTCFG_TX_ENABLE n))

/-- The cell of a cycle count and column: type and buffer (R300). -/
def State.fbCell (s : State) (n c w : Nat) : Nat × Nat :=
  let i := 32 * c + w
  let b := s.rd (FB_CELLW n (i / 4)) / 2 ^ (8 * (i % 4)) % 256
  (b / 64, b % 64)

/-- The end of the window under way: the next mark, or the end of the cycle. DEDUCED: notes/assumptions/53.md. -/
def State.windowEnd (s : State) (n : Nat) : Nat :=
  let x := s.fbCh n
  if x.col + 1 < s.fbCols n then x.base + s.fbMark n (x.col + 1) else (x.cycle.getD 0 + 1) * s.fbLen n

/-- A frame started now ends before the next mark (R285, R286). -/
def State.fitsWindow (s : State) (n : Nat) (f : CanFrame) : Bool := decide (4 * s.time + s.frameBound n f < 4 * s.windowEnd n)

/-- The cell in force; column 0 is the reference window. -/
def State.cellNow (s : State) (n : Nat) : Option (Nat × Nat) :=
  let x := s.fbCh n
  match x.cycle with
  | some q => if x.col = 0 then none else some (s.fbCell n (q % 64) x.col)
  | none => none

/-! ### The offer of a channel (R279, R281) -/

/-- What a source would send. -/
def State.srcFrame (s : State) (n : Nat) : FbSrc → Option CanFrame
  | .buf m => some ((s.fbBuf n m).copy.getD (s.mbFrame n m))
  | .mirror i => ((s.fbCh n).mirror[i]?).map (·.frame)
  | .fw => (s.fbCh n).fw.head?
  | .ref q _ => some (refFrame q)

/-- A buffer may be offered: a transmit buffer PENDING, unlocked unless its frame is already copied (R277, R279). -/
def State.offers (s : State) (n m : Nat) : Bool :=
  s.rd (FB_MBCFG_DIR n m) == 2 && s.rd (FB_MBSTAT_STATE n m) == 1 &&
    (!s.bit (FB_MBSTAT_LOCKED n m) || (s.fbBuf n m).copy.isSome)

/-- Everything that may be offered outside an exclusive window; with the pricking on, buffers with TT only once missed.
-/
def State.offerList (s : State) (n : Nat) : List FbSrc :=
  let tt := s.bit (FB_CTRL_TT_EN n)
  (((upto 64).filter fun m => s.offers n m && (!tt || !s.bit (FB_MBCFG_TT n m) || (s.fbBuf n m).missed)).map FbSrc.buf) ++
    (upto (s.fbCh n).mirror.length).map FbSrc.mirror ++ (if (s.fbCh n).fw.isEmpty then [] else [FbSrc.fw])

/-- The source with the lowest identifier among those that `ok` allows; ties go to the first. -/
def State.lowest (s : State) (n : Nat) (ok : CanFrame → Bool) (l : List FbSrc) : Option FbSrc :=
  (l.foldl (fun (o : Option (FbSrc × Nat)) x =>
    match s.srcFrame n x with
    | some f =>
      if ok f then
        match o with
        | some (_, r) => if (frameRank f) < r then some (x, (frameRank f)) else o
        | none => some (x, (frameRank f))
      else o
    | none => o) none).map (·.1)

/-- The channel may send: configured, not monitoring, not bus-off, idle, its suspend time over (R280, R288). -/
def State.maySend (s : State) (n : Nat) : Bool :=
  !s.bit (FB_CTRL_INIT n) && !s.bit (FB_CTRL_MONITOR n) && s.rd (FB_STAT_FCS n) != 2 && (s.fbCh n).cur.isNone &&
    decide ((s.fbCh n).suspEnd ≤ s.time)

/-- An attempt begins; a buffer's frame is copied at its first (R277). -/
def State.txBegin (s : State) (n : Nat) (x : FbSrc) (exclusive : Bool) : State :=
  let s := s.setFbCh n { s.fbCh n with cur := some x }
  match x with
  | .buf m =>
    let b := s.fbBuf n m
    (s.setFbBuf n m { b with copy := some (b.copy.getD (s.mbFrame n m)), exclusive := exclusive }).wr (FB_MBSTAT_STATE n m) 2
  | .mirror _ | .fw | .ref _ _ => s

/-! ### Doorbells and fault confinement (R280, R299) -/

/-- Event k of a channel's doorbells. -/
def State.fbPost (s : State) (n k : Nat) : State := s.post (min (s.rd FB_GCTRL_BASE) 1984 + 16 * n + k)

/-- The mirror queues fed: PENDING buffers with MIRROR of the bus-off channels whose mirror is `d`, while there is
room. -/
def State.mirrorFill (s : State) (d : Nat) : State :=
  ((upto 4).filter fun o => s.bit (FB_CTRL_MIR_EN o) && s.rd (FB_CTRL_MIR_CH o) == d && s.rd (FB_STAT_FCS o) == 2).foldl
    (fun s o => (upto 64).foldl (fun (s : State) m =>
      let b := s.fbBuf o m
      if s.rd (FB_MBSTAT_STATE o m) = 1 ∧ s.bit (FB_MBCFG_MIRROR o m) ∧ ¬ b.copied ∧ (s.fbCh d).mirror.length < 8 then
        let e : MirEnt := { origin := o, buf := m, frame := s.mbFrame o m, retry := s.rd (FB_MBCFG_RETRY o m), attempts := 0 }
        (s.setFbBuf o m { b with copied := true }).setFbCh d { s.fbCh d with mirror := (s.fbCh d).mirror ++ [e] }
      else s) s) s

/-- The mirror queues of all four channels fed, after MIRROR, MIR_EN, MIR_CH or a buffer's state has changed (R281). -/
def State.mirrorFeed (s : State) : State := (upto 4).foldl State.mirrorFill s

/-- The schedule check of R287. DEDUCED: notes/assumptions/52.md. -/
def State.schedOk (s : State) (n : Nat) : Bool :=
  let cols := s.fbCols n
  let len := s.fbLen n
  (upto cols).all (fun w => decide (s.fbMark n w < len) && (w == 0 || decide (s.fbMark n (w - 1) < s.fbMark n w))) &&
    decide (s.frameBound n (refFrame 0) + s.txEnable n * s.nominalBit n ≤
      4 * (if 1 < cols then s.fbMark n 1 else len)) &&
    (upto 64).all (fun c => (upto cols).all fun w =>
      let x := s.fbCell n c w
      w == 0 || x.1 != 1 || (s.rd (FB_MBCFG_DIR n x.2) == 2 && s.bit (FB_MBCFG_TT n x.2)))

/-- INIT of a channel cleared: with TT_EN set the schedule is checked, and a bad one keeps the channel in INIT (R287). -/
def State.initClear (s : State) (n : Nat) : State :=
  if s.bit (FB_CTRL_INIT n) then
    if s.bit (FB_CTRL_TT_EN n) && !s.schedOk n then
      (s.putBit (FB_STAT_SCHED_BAD n) true).log 10 .schedBad 1 [n]
    else (s.putBit (FB_STAT_SCHED_BAD n) false).putBit (FB_CTRL_INIT n) false
  else s

/-- The fault-confinement state that the counters give (ISO 11898-1). -/
def fcsOf (tec rec : Nat) : Nat := if 256 ≤ tec then 2 else if 128 ≤ tec ∨ 128 ≤ rec then 1 else 0

/-- A change of the fault-confinement state, logged and posted; bus-off stops every buffer and may start recovery. -/
def State.fcsChange (s : State) (n new : Nat) : State :=
  if s.rd (FB_STAT_FCS n) = new then s
  else
    let s := ((s.wr (FB_STAT_FCS n) new).log 10 .canState 1 [n, new]).fbPost n 3
    if new = 2 then
      let s := (upto 64).foldl (fun (s : State) m =>
        if s.rd (FB_MBSTAT_STATE n m) = 2 then s.wr (FB_MBSTAT_STATE n m) 1 else s) (s.setFbCh n { s.fbCh n with cur := none })
      (s.putBit (FB_STAT_RECOVERING n) (s.bit (FB_CTRL_AUTO_REC n))).mirrorFill (s.rd (FB_CTRL_MIR_CH n))
    else s

/-- The state brought up to the counters; bus-off ends by recovery alone. -/
def State.fcsUpdate (s : State) (n : Nat) : State :=
  if s.rd (FB_STAT_FCS n) = 2 then s else s.fcsChange n (fcsOf (s.rd (FB_STAT_TEC n)) (s.rd (FB_STAT_REC n)))

/-! ### Requests (R279) -/

/-- A transmit buffer becomes PENDING; during bus-off its mirror copy follows (R281). -/
def State.mbRequest (s : State) (n m : Nat) : State :=
  let st := s.rd (FB_MBSTAT_STATE n m)
  if s.rd (FB_MBCFG_DIR n m) = 2 ∧ st ≠ 1 ∧ st ≠ 2 then
    let s := (s.setFbBuf n m { lockAt := (s.fbBuf n m).lockAt }).wr (FB_MBSTAT_STATE n m) 1
    let s := (s.wr (FB_MBSTAT_ATTEMPTS n m) 0).putBit (FB_MBSTAT_ACK_ONLY n m) false
    s.mirrorFill (s.rd (FB_CTRL_MIR_CH n))
  else s

/-- A frame of Benfophor's own queued on a channel. -/
def State.fwSend (s : State) (n : Nat) (f : CanFrame) : State :=
  s.setFbCh n { s.fbCh n with fw := (s.fbCh n).fw ++ [f] }

/-! ### Aminen configuration requests (R290) -/

/-- A CONFIG_REQ write sent, and remembered until its reply. DESIGN CHOICE: notes/assumptions/54.md. -/
def State.configReq (s : State) (n node index value tries : Nat) : State :=
  let x := s.fbCh n
  let q := (x.reqSeq + 1) % 256
  let f : CanFrame := { id := 0x100 + node, xtd := false, rtr := false, fdf := true, brs := true, esi := false, dlc := 8,
                        data := leBytes 1 q ++ leBytes 1 2 ++ leBytes 2 index ++ leBytes 4 value }
  (s.setFbCh n { x with
    reqSeq := q, reqs := x.reqs ++ [{ node := node, seq := q, index := index, value := value, sent := s.time,
                                      tries := tries }] }).fwSend n f

/-! ### CANopen drives (R296) -/

/-- A drive's RPDO1: controlword and target velocity. PRESUMED: notes/assumptions/55.md. -/
def rpdo1 (node control target : Nat) : CanFrame :=
  classicFrame (0x200 + node) (leBytes 2 control ++ leBytes 4 target)

/-- An SDO request: command byte, object, data (CiA 301). PRESUMED: notes/assumptions/55.md. -/
def sdoFrame (node command index sub : Nat) (data : List Byte) : CanFrame :=
  classicFrame (0x600 + node) (leBytes 1 command ++ leBytes 2 index ++ leBytes 1 sub ++ padTo 4 data)

/-- The first request of an SDO download: expedited up to 4 bytes, otherwise a segmented one's with its size (CiA 301).
PRESUMED: notes/assumptions/55.md. -/
def sdoWrite (node index sub : Nat) (data : List Byte) : CanFrame :=
  if data.length ≤ 4 then sdoFrame node (0x23 + 4 * (4 - data.length)) index sub data
  else sdoFrame node 0x21 index sub (leBytes 4 data.length)

/-- The next segment of an SDO download: toggle, free bytes, last segment (CiA 301). PRESUMED: notes/assumptions/55.md. -/
def sdoSegment (node : Nat) (toggle : Bool) (data : List Byte) : CanFrame :=
  let d := data.take 7
  classicFrame (0x600 + node) (leBytes 1 (16 * b2n toggle + 2 * (7 - d.length) + b2n (decide (data.length ≤ 7))) ++ padTo 7 d)

/-- The request for the next segment of an SDO upload (CiA 301). PRESUMED: notes/assumptions/55.md. -/
def sdoNext (node : Nat) (toggle : Bool) : CanFrame :=
  classicFrame (0x600 + node) (leBytes 1 (0x60 + 16 * b2n toggle) ++ zeros 7)

/-- The target velocity of pump p's drive (R208, R296). -/
def State.driveVelocity (s : State) (p : Nat) (d : Drive) : Nat := s.pfDrive p * d.maxSpeed / 10000

/-- Controlword 0x80 sent to the drive of a CAN pump that is re-enabled. PRESUMED: notes/assumptions/55.md. -/
def State.driveReset (s : State) (p : Nat) : State :=
  match tfind s.fb.drives p with
  | some d =>
    if s.rd (PF_PCFG_IF p) = 2 then
      (s.onFb fun y => { y with drives := tinsert y.drives p { d with control := 0x80, sentControl := 0x80 } }).fwSend d.ch
        (rpdo1 d.node 0x80 d.sentTarget)
    else s
  | none => s

end Sys2Proof.Machine
end

