-- ==== Sys2Proof/Machine/Pumps.lean ====
section
/-! DEFINITION. The commands of the hydraulic block (spec 08): starts and faults of pumps and fans, staging and rotation,
analog outputs, slow fall, coolant stop and its end, calibration. -/

namespace Sys2Proof.Machine

/-! ### Starts (R211, R212) -/

/-- PUMP_KICK: the start of pump k (0 to 3) or fan k − 4 from standstill; no start before TABLE (R424, R425). -/
def execPumpKick (k : Fin 12) (s : State) : Host.Outcome State Fault Refusal :=
  .next (if s.sys.mode.fromTable ∧ s.mayKick k then s.startKick k else s)

/-- KICK_END: 1 s after the kick began; the tach pulses seen, and the counts since the last of them. -/
def execKickEnd (k : Fin 12) (pulses sinceLast : Nat) (s : State) : Host.Outcome State Fault Refusal :=
  .next (if s.rd (pfState k) = 1 ∧ s.since (s.pfCh k).kickAt (secs 1) then s.endKick k pulses sinceLast else s)

/-- KICK_RETRY: at 5, 10 and 15 s after the start request a further kick. -/
def execKickRetry (k : Fin 12) (s : State) : Host.Outcome State Fault Refusal :=
  let n := s.rd (pfRetry k)
  .next (if s.rd (pfState k) = 1 ∧ (s.pfCh k).kickAt.isNone ∧ n < 3 ∧ s.since (s.pfCh k).reqAt (secs (5 * (n + 1))) then
      s.kick k (n + 1)
    else s)

/-! ### Running faults (R213, R214, R217) -/

/-- Tach pulses are lost: none for the longer of 200 ms and three pulse periods at the speed last measured (R213). -/
def State.tachLost (s : State) (k : Nat) : Bool :=
  s.since (s.pfCh k).pulseAt (max (msec 200) (3 * secs 60 / max 1 (s.rd (pfTach k) * s.pfPpr k)))

/-- TACH_LOSS: tach pulses lost on a running channel; it runs on while its current stays in the band, else it stops. In
TACH_LOST_RUNNING pulses that had returned are gone again. -/
def execTachLoss (k : Fin 12) (s : State) : Host.Outcome State Fault Refusal :=
  if ¬ s.tachLost k then .next s
  else if s.rd (pfState k) = 2 then
    let s := s.wr (pfTach k) 0
    if s.inBand k then .next ((s.pfTo k 3).log 6 (if (k : Nat) < 4 then .pumpState else .fanState) 1 [k, 3])
    else .next (s.pfFail k 4)
  else if s.rd (pfState k) = 3 then .next ((s.wr (pfTach k) 0).setPfCh k { s.pfCh k with backSince := none })
  else .next s

/-- TACH_RESTORE: tach pulses seen at a speed; a running channel's measured speed follows them, and a TACH_LOST_RUNNING
channel returns to RUNNING after 1 s of them. -/
def execTachRestore (k : Fin 12) (rpm : Nat) (s : State) : Host.Outcome State Fault Refusal :=
  let s := (s.wr (pfTach k) (min rpm 65535)).setPfCh k { s.pfCh k with pulseAt := some s.time }
  if s.rd (pfState k) = 3 then
    let t := (s.pfCh k).backSince.getD s.time
    if t + secs 1 ≤ s.time then .next ((s.pfTo k 2).distribute)
    else .next (s.setPfCh k { s.pfCh k with backSince := some t })
  else .next s

/-- CURRENT_BAND_EXIT: the current of a TACH_LOST_RUNNING channel has left the band. -/
def execCurrentBandExit (k : Fin 12) (s : State) : Host.Outcome State Fault Refusal :=
  .next (if s.rd (pfState k) = 3 ∧ ¬ s.inBand k then s.pfFail k 4 else s)

/-- The drive-fault input and the drive's own report brought in; an enabled pump with either goes to FAULT. -/
def State.driveFault (s : State) (n : Nat) (closed can : Bool) : State :=
  let f := if s.bit (PF_PCFG_FAULT_POL n) then closed else !closed
  let x := s.pfCh n
  let s := s.setPfCh n { x with canFault := can, clearSince := if f || can then none else some (x.clearSince.getD s.time) }
  let s := s.putBit (PF_PSTAT_FAULT_IN n) f
  if (f || can) && s.bit (PF_PCFG_ENABLE n) && s.rd (PF_PSTAT_STATE n) != 6 then (s.wr (PF_SPEED n) 0).pfFail n 6 else s

/-- DRIVE_FAULT: the fault contact of pump n as read, and the drive's fault state over CAN (R214). -/
def execDriveFault (n : Fin 4) (closed can : Bool) (s : State) : Host.Outcome State Fault Refusal :=
  .next (s.driveFault n closed can)

/-- FAN_OVERCURRENT: a fan's current in mA; above 4.5 A for 100 ms the fan stops (R217). -/
def execFanOvercurrent (k : Fin 8) (ma : Nat) (s : State) : Host.Outcome State Fault Refusal :=
  let c := (k : Nat) + 4
  let since := if 4500 < ma then some ((s.pfCh c).ocSince.getD s.time) else none
  let s := (s.wr (PF_FCUR k) (min ma 8191)).setPfCh c { s.pfCh c with ocSince := since }
  if s.since since (msec 100) ∧ s.rd (PF_FSTAT_STATE k) ≠ 4 then
    .next (((s.putBit (PF_FSTAT_OVERCURRENT k) true).wr (PF_FSPEED k) 0).pfFail c 4)
  else .next s

/-! ### The pump manager (R215, R216) -/

/-- PUMP_STAGE_IN: PF_DEMAND above 95% for 10 s. -/
def execPumpStageIn (s : State) : Host.Outcome State Fault Refusal :=
  if s.bit PF_PMGR_ENABLE ∧ s.since s.pf.highSince (secs 10) then
    match s.fewestHours s.idlePumps with
    | some n => .next ((s.queuePump n true).onPf fun y => { y with highSince := some s.time })
    | none => .next s
  else .next s

/-- PUMP_STAGE_OUT: PF_DEMAND below 45% for 300 s with more than N_DUTY pumps running; not in SHED (R225). -/
def execPumpStageOut (s : State) : Host.Outcome State Fault Refusal :=
  if s.bit PF_PMGR_ENABLE ∧ s.sys.mode ≠ .shed ∧ s.since s.pf.lowSince (secs 300) ∧ s.nDuty < s.runningPumps.length then
    match s.mostHours (s.runningPumps.filter fun n => s.bit (PF_PSTAT_STAGED n) && !(s.pfCh n).stopping) with
    | some n => .next (s.stopPump n)
    | none => .next s
  else .next s

/-- A rotation waits (R216). -/
def State.rotationWaits (s : State) : Bool :=
  (upto 4).any (fun n => s.rd (PF_PSTAT_STATE n) == 1 || (s.pfCh n).ramp.isSome) || !s.pf.queued.isEmpty ||
    s.rd PF_SLOWFALL != 0 || s.bit PF_HYD_SLOW_ROW || s.pf.rotation.isSome ||
    match s.sys.mode with
    | .shed | .isolate | .survival | .hold | .service => true
    | .off | .boot | .table | .reactive | .predictive | .failed => false

/-- The lead pump's hours since the last rotation have reached PF_ROT_HOURS, or count as reached. -/
def State.rotationHours (s : State) : Bool :=
  s.pf.rotNow ||
    match s.fewestHours s.runningPumps with
    | some n => decide (10 * clampNat 24 2000 (s.rd PF_ROT_HOURS) ≤ s.rd (PF_PHOURS n) - tget 0 s.pf.rotBase n)
    | none => false

/-- PUMP_ROTATION: the incoming pump is started; the pump with the most run hours stops once the incoming one is at
PF_DEMAND. -/
def execPumpRotation (s : State) : Host.Outcome State Fault Refusal :=
  if s.bit PF_PMGR_ENABLE ∧ s.rotationHours ∧ ¬ s.rotationWaits then
    match s.fewestHours s.idlePumps, s.mostHours s.runningPumps with
    | some i, some o =>
      let base := (upto 4).map fun n => (n, s.rd (PF_PHOURS n))
      let s := (s.queuePump i false).putBit PF_PMGR_ROT_NOW false
      .next ((s.onPf fun y => { y with rotation := some (i, o), rotNow := false, rotBase := base }).onMg fun y =>
        { y with savedRot := base })
    | _, _ => .next s
  else .next s

/-- RUN_HOURS_SAVE: every 6 min the run hours go to the management NOR (R216, R389). -/
def execRunHoursSave (s : State) : Host.Outcome State Fault Refusal :=
  if s.pf.hoursSaved + secs 360 ≤ s.time then
    let h := (upto 4).map fun n => (n, s.rd (PF_PHOURS n))
    .next ((s.onPf fun y => { y with hoursSaved := s.time }).onMg fun y =>
      { y with savedHours := h, savedRot := s.pf.rotBase })
  else .next s

/-- PF_ROT_NOW_WRITE: the rotation hours count as reached; ROT_NOW reads 1 until the rotation starts. -/
def execPfRotNowWrite (s : State) : Host.Outcome State Fault Refusal :=
  .next ((s.putBit PF_PMGR_ROT_NOW true).onPf fun y => { y with rotNow := true })

/-- A 0-to-1 write of ENABLE (R212, R214, R235): LOCKED and STOPPED clear, FAULT once its cause has been clear for 5
s. DEDUCED: notes/assumptions/71.md. -/
def State.reenable (s : State) (k : Nat) : State :=
  let st := s.rd (pfState k)
  let s := s.putBit (pfEnable k) true
  let s := s.wr (pfRetry k) 0
  let s := if k < 4 ∧ st = 6 then s.driveReset k else s
  if st = 4 ∨ st = 5 ∨ (st = 6 ∧ s.since (s.pfCh k).clearSince (secs 5)) then s.pfTo k 0
  else if k < 4 then s.pmWork else s

/-- ENABLE cleared: the output goes to 0 and a running channel to OFF (R235). -/
def State.disable (s : State) (k : Nat) : State :=
  let s := (s.putBit (pfEnable k) false).wr (pfSpeed k) 0
  if s.rd (pfState k) < 4 then s.pfTo k 0 else if k < 4 then s.pmWork else s

/-- CHANNEL_REENABLE: a 0-to-1 write of the ENABLE of pump k (0 to 3) or fan k − 4. -/
def execChannelReenable (k : Fin 12) (s : State) : Host.Outcome State Fault Refusal :=
  .next (if s.bit (pfEnable k) then s else s.reenable k)

/-! ### Analog outputs (R218) -/

/-- An analog output's status read back; a new condition is logged. -/
def State.aoStatus (s : State) (n : Nat) (f : RF) (on : Bool) : State :=
  let s' := s.putBit f (s.bit f || on)
  if on && !s.bit f then s'.note 6 .analogFault 1 [n] 200 else s'

/-- AO_OPEN: the output's readback in µA, and whether it fails to reach its value because the load is open; a
current-mode output sets OPEN after 20 ms of it. -/
def execAoOpen (n : Fin 20) (read : Nat) (opened : Bool) (s : State) : Host.Outcome State Fault Refusal :=
  let s := s.wr (AO_READ n) (min read 65535)
  let low := (s.aoDrive n).isSome && s.rd (AO_CFG_MODE n) == 0 && opened
  let since := if low then some ((tfind s.pf.aoOpen n).getD s.time) else none
  let s := s.onPf fun y =>
    { y with aoOpen := match since with | some t => tinsert y.aoOpen n t | none => terase y.aoOpen n }
  .next (if s.since since (msec 20) then s.aoStatus n (AO_STAT_OPEN n) true else s)

/-- AO_OVERLOAD: a voltage-mode output's load current in mA. -/
def execAoOverload (n : Fin 20) (ma : Nat) (s : State) : Host.Outcome State Fault Refusal :=
  .next (if (s.aoDrive n).isSome ∧ s.rd (AO_CFG_MODE n) = 1 ∧ 20 < ma then s.aoStatus n (AO_STAT_OVERLOAD n) true
    else s)

/-! ### Slow fall and coolant stop (R221 to R226) -/

/-- SLOW_FALL_EVALUATION: every 100 ms. -/
def execSlowFallEvaluation (s : State) : Host.Outcome State Fault Refusal :=
  .next (if s.pf.slowAt.isNone ∨ s.since s.pf.slowAt (msec 100) then
      (s.slowAll).onPf fun y => { y with slowAt := some s.time }
    else s)

/-- A coolant stop taken: COOLANT_STOP, the record and its doorbell, SHED (R224, R225). -/
def State.stopNow (s : State) : State := ((s.putBit PF_HYD_COOLANT_STOP true).note 6 .coolantStop 2 [] 198).coolantStop

/-- The stop detected as its conditions come to hold together while armed (R224, R225); its trip input follows them. A
STANDBY takes the stop from the forwarded trip-matrix inputs (R24, R327). -/
def State.stopDetect (s : State) : State :=
  if s.stopHolds then
    if s.tmInput 0 then s
    else if s.sys.role = .standby then s.setTmInput 0 true else (s.setTmInput 0 true).stopNow
  else s.setTmInput 0 false

/-- One condition's flag, logged as it comes. -/
def State.stopFlag (s : State) (f : RF) (on : Bool) : State :=
  let s' := s.putBit f on
  if on && !s.bit f then s'.log 6 .coolantStop 1 [f.lo] else s'

/-- PULSE_LOST: no main-flow pulse for PULSE_GAP (R224). -/
def execPulseLost (s : State) : Host.Outcome State Fault Refusal :=
  .next (if s.pf.lastPulse + msec (clampNat 2 20 (s.rd PF_STOPCFG_PULSE_GAP)) ≤ s.time then
      (s.stopFlag PF_HYD_PULSE_LOST true).stopDetect
    else s)

/-- PRESS_LOST: one 1 kHz sample of the DP, or of the pump currents with USE_CUR (R224). -/
def execPressLost (s : State) : Host.Outcome State Fault Refusal :=
  if s.bit PF_STOPCFG_USE_CUR then .next (s.stopFlag PF_HYD_PRESS_LOST s.currentLow).stopDetect
  else
    let n := if s.dpLow then s.pf.dpRun + 1 else 0
    let none_ := s.dp.isNone
    .next (((s.onPf fun y => { y with dpRun := min n 3 }).stopFlag PF_HYD_PRESS_LOST (decide (3 ≤ n) || none_)).stopDetect)

/-- TRIP_ARM: the trip is armed while a pump has been RUNNING for 5 s (R224). -/
def execTripArm (s : State) : Host.Outcome State Fault Refusal :=
  .next ((s.putBit PF_HYD_ARMED s.armed).stopDetect)

/-- FLOW_RESTORED: flow and DP back at half for 2 s, in SHED (R226). -/
def execFlowRestored (s : State) : Host.Outcome State Fault Refusal :=
  if s.sys.mode = .shed ∧ s.pf.restoredAt.isNone then
    if s.flowBack then
      let t := s.pf.restoreSince.getD s.time
      let s := s.onPf fun y => { y with restoreSince := some t }
      if t + secs 2 ≤ s.time then
        .next (((s.onPf fun y => { y with restoredAt := some s.time }).putBit PF_HYD_FLOW_RESTORED true).log 6 .flowRestored 0 [])
      else .next s
    else .next (s.onPf fun y => { y with restoreSince := none })
  else .next s

/-- SHED_EXIT: 500 ms after the later of the flow restored and the caps confirmed, the brakes are released and SHED ends
(R177, R20). -/
def execShedExit (s : State) : Host.Outcome State Fault Refusal :=
  if s.sys.mode = .shed ∧ s.since s.pf.restoredAt (msec 500) ∧ s.since s.pb.confirmedAt (msec 500) then .next s.leaveShed
  else .next s

/-- SHED_PREDICTIVE_RESUME: 8 good frames after SHED, the prior PREDICTIVE is entered; in an ISOLATE that
followed SHED its law is taken up, and it is entered when ISOLATE ends (R20). -/
def execShedPredictiveResume (s : State) : Host.Outcome State Fault Refusal :=
  if s.sys.resumePredictive ∧ 8 ≤ s.tr.goodBase ∧ s.bit TR_STATUS_ADMITTED then
    let t := s.onSys fun y => { y with resumePredictive := false }
    .next (if s.sys.mode = .reactive then t.setState .predictive
      else if s.sys.mode = .isolate ∧ s.sys.prior = .predictive then t else s)
  else .next s

/-! ### Calibration (R229 to R234) -/

/-- CAL_MINUTE: one minute of rack r, with its one-minute means: reported power in W, raw flow in L/min, supply and
return temperatures and the supply header mean in °C. DEDUCED: notes/assumptions/40.md. -/
def execCalMinute (r : Fin 16) (pRep vRaw tSup tRet ref : BitVec 32) (s : State) : Host.Outcome State Fault Refusal :=
  .next (if s.isActive ∧ (match tfind s.pf.calAt r with | some t => decide (t + secs 60 ≤ s.time) | none => true) = true then
      let s := s.calMinute r pRep vRaw tSup tRet ref
      s.forward 6 2 (s.regBytes [(SN_FLOWGAIN r).addr, (SN_RTDOFF (2 * r)).addr, (SN_RTDOFF (2 * r + 1)).addr])
    else s)

/-- CAL_STATE_SAVE: every 10 min the calibration state goes to the management NOR (R234). -/
def execCalStateSave (s : State) : Host.Outcome State Fault Refusal :=
  .next (if s.pf.calSaved + secs 600 ≤ s.time then s.calSave else s)

end Sys2Proof.Machine
end

