-- ==== Sys2Proof/Machine/FieldBus.lean ====
section
/-! DEFINITION. The commands of the field bus (spec 11): frames received and sent, message buffers, the pricking, node
supervision, the Aminen protocol and the CANopen manager. -/

namespace Sys2Proof.Machine

/-! ### What a received frame does (R278, R289 to R297) -/

/-- The buffer a frame is stored in: the lowest matching EMPTY one, otherwise the lowest matching FULL one without QUEUE
(R278). -/
def State.rxBuffer (s : State) (n : Nat) (f : CanFrame) : Option Nat :=
  let w := frameWord0 f
  let hit := (upto 64).filter fun m =>
    s.rd (FB_MBCFG_DIR n m) == 1 && !s.bit (FB_MBSTAT_LOCKED n m) &&
      ((w ^^^ s.rd (FB_FILT_ID n m)) &&& s.rd (FB_FILT_MASK n m)) % 2 ^ 29 == 0 &&
      bitOf w 31 == bitOf (s.rd (FB_FILT_ID n m)) 31
  match hit.find? fun m => s.rd (FB_MBSTAT_STATE n m) == 0 with
  | some m => some m
  | none => hit.find? fun m => s.rd (FB_MBSTAT_STATE n m) == 5 && !s.bit (FB_MBCFG_QUEUE n m)

/-- Bytes of a node value format (R300). -/
def nvBytes (fmt : Nat) : Nat := if fmt ≤ 1 then 1 else if fmt ≤ 3 then 2 else 4

/-- A field of a node value format as binary32. -/
def nvField (fmt w : Nat) : F32 :=
  match fmt with
  | 0 => f32OfInt (signedOf 8 w)
  | 2 => f32OfInt (signedOf 16 w)
  | 4 => f32OfInt (signedOf 32 w)
  | 1 | 3 | 5 => f32OfInt w
  | _ => BitVec.ofNat 32 w

/-- The timestamp of a node value (R294). DEDUCED: notes/assumptions/53.md. -/
def State.nvStamp (s : State) (n e : Nat) (f : CanFrame) (sof : Nat) : Nat :=
  if s.bit (NV_CFG_TS_SRC e) && s.rd (FB_CTRL_PROTO n) == 1 && !f.xtd && decide (0x0C0 < f.id) && decide (f.id < 0x100) then
    match tfind (s.fbCh n).refSofs (fieldLE f.data 2 1 % 64) with
    | some t => t + usec (fieldLE f.data 4 2)
    | none => sof
  else sof

/-- The node values fed from a buffer updated at its store (R294); data too short for an entry leaves it. -/
def State.nodeValues (s : State) (n m : Nat) (f : CanFrame) (sof : Nat) : State :=
  (upto 1024).foldl (fun s e =>
    let fmt := s.rd (NV_CFG_FMT e)
    let off := s.rd (NV_CFG_OFFSET e)
    if s.bit (NV_CFG_EN e) ∧ s.rd (NV_CFG_CH e) = n ∧ s.rd (NV_CFG_MB e) = m ∧ off + nvBytes fmt ≤ frameLen f then
      let v := fmul (nvField fmt (fieldLE f.data off (nvBytes fmt))) (s.rdf (NV_SCALE e))
      let t := s.nvStamp n e f sof
      (((s.wrf (NV_VALUE e) v).wr (NV_TS e) (t % 2 ^ 32)).putBit (NV_CFG_VALID e) true).onFb fun y =>
        { y with nvAt := tinsert y.nvAt e t }
    else s) s

/-- A frame stored as a whole, or dropped and counted (R278). -/
def State.rxStore (s : State) (n : Nat) (f : CanFrame) (sof : Nat) : State :=
  match s.rxBuffer n f with
  | some m =>
    let full := s.rd (FB_MBSTAT_STATE n m) = 5
    let q := s.bit (FB_MBCFG_QUEUE n m)
    let s := ((s.mbStore n m f).wr (FB_MBTS n m) (sof % 2 ^ 32)).wr (FB_MBSTAT_STATE n m) (if q then 6 else 5)
    let s := s.setFbBuf n m { s.fbBuf n m with sof := sof }
    let s := if full then (s.putBit (FB_MBSTAT_OVERWRITE n m) true).fbPost n 7 else s
    let s := s.nodeValues n m f sof
    let s := if s.bit (FB_MBCFG_IRQ_EN n m) then s.fbPost n 1 else s
    if q then s.heldCommit n 64 else s
  | none => (s.incSat (FB_RXDROP n)).fbPost n 7

/-- The bit of a node in the lost registers. -/
def fbLost (n node : Nat) : RF :=
  if node < 32 then ⟨(FB_NODELOST_LO n).addr, node, node⟩ else ⟨(FB_NODELOST_HI n).addr, node - 32, node - 32⟩

/-- A node is expected (R292). -/
def State.nodeExpected (s : State) (n node : Nat) : Bool :=
  decide (1 ≤ node) && (if node < 32 then bitOf (s.rd (FB_NODEEXP_LO n)) node else bitOf (s.rd (FB_NODEEXP_HI n)) (node - 32))

/-- The pumps whose drive is a node of a channel. -/
def State.pumpsAt (s : State) (n node : Nat) : List Nat :=
  (upto 4).filter fun p =>
    match tfind s.fb.drives p with
    | some d => d.ch == n && d.node == node
    | none => false

/-- A drive's report brought into its pump: NODE_LOST, the statusword's fault bit or an EMCY is a fault (R297). -/
def State.driveCheck (s : State) (p : Nat) : State :=
  match tfind s.fb.drives p with
  | some d =>
    let f := s.bit (PF_PSTAT_FAULT_IN p)
    let closed := if s.bit (PF_PCFG_FAULT_POL p) then f else !f
    if s.rd (PF_PCFG_IF p) = 2 then s.driveFault p closed (s.bit (fbLost d.ch d.node) || bitOf d.status 3 || d.emcy) else s
  | none => s

/-- A frame counts as seen for its node; a lost node is back. A time-triggered channel has no interval in a basic cycle
without a completed reference (R292). -/
def State.nodeSeen (s : State) (n : Nat) (f : CanFrame) : State :=
  let base := s.rd (FB_NODEBASE n)
  if ¬ f.xtd ∧ base < f.id ∧ f.id ≤ base + 63 ∧ (¬ s.bit (FB_CTRL_TT_EN n) ∨ (s.fbCh n).refOk) then
    let node := f.id - base
    let x := s.fbCh n
    let s := if bitOf x.seen node then s else s.setFbCh n { x with seen := x.seen + 2 ^ node }
    let s := s.setFbCh n { s.fbCh n with unseen := terase (s.fbCh n).unseen node }
    if s.bit (fbLost n node) then
      let s := (s.putBit (fbLost n node) false).log 10 .nodeBack 0 [n, node]
      (s.pumpsAt n node).foldl State.driveCheck s
    else s
  else s

/-- One trip filter against a LEAK frame's node, channel and state: a confirmation raises its input at its first
receipt; the input falls when the node reports the channel dry (R293). DESIGN CHOICE: notes/assumptions/50.md.
DEDUCED: notes/assumptions/51.md. -/
def State.tripFilter (s : State) (n k node ch st : Nat) : State :=
  let i := 48 + 16 * n + k
  if s.bit (FB_TRIP_EN n k) ∧ s.rd (FB_TRIP_NODE n k) = node ∧ s.rd (FB_TRIP_NODE_CH n k) = ch then
    if st = 2 ∧ ¬ s.tmInput i then
      let r := s.rd (FB_TRIP_RACK n k)
      (((s.setTmInput i true).log 10 .tripFilter 2 [n, k, node, ch]).fbPost n 9).askIsolate r
    else if st = 0 then s.setTmInput i false
    else s
  else s

/-- A LEAK frame (R290, R293). DEDUCED: notes/assumptions/51.md. -/
def State.leakFrame (s : State) (n node : Nat) (f : CanFrame) : State :=
  let ch := fieldLE f.data 1 1 % 16
  let st := fieldLE f.data 2 1
  let x := s.fbCh n
  let s := s.setFbCh n { x with
    leakSeq := tinsert x.leakSeq node (fieldLE f.data 0 1), leakState := tset 0 x.leakState (16 * node + ch) st }
  (upto 16).foldl (fun s k => s.tripFilter n k node ch st) s

/-- The marks of the columns that a schedule leaves to the nodes' own windows: NONE in every cycle (R283). -/
def State.nodeWindows (s : State) (n : Nat) : List (Nat × Nat) :=
  ((upto (s.fbCols n)).filter fun w => decide (0 < w) && (upto 64).all fun c => (s.fbCell n c w).1 == 0).map fun w =>
    (s.fbMark n w, if w + 1 < s.fbCols n then s.fbMark n (w + 1) else s.fbLen n)

/-- The DATA lengths whose frame ends within a window (R287, R289). -/
def State.dataLengths (s : State) (n : Nat) (w : Nat × Nat) : List Nat :=
  ((upto 16).filter fun k => decide (8 ≤ k) && decide (s.frameBound n
    { id := 0x0C1, xtd := false, rtr := false, fdf := true, brs := true, esi := false, dlc := k, data := [] } ≤ 4 * (w.2 - w.1))).map
      (dlcLen true)

/-- A node has started: its DATA mark and length are written from the schedule (R290): the mark of one of the columns left to the
nodes, and a length whose frame fits there. Which of them is this node's, the spec does not say: a free value. DESIGN CHOICE:
notes/assumptions/6.md. DESIGN CHOICE: notes/assumptions/54.md. -/
def State.nodeStart (s : State) (n node : Nat) : State :=
  let x := s.fbCh n
  if bitOf x.started node then s
  else
    let s := s.setFbCh n { x with started := x.started + 2 ^ node }
    let l := s.nodeWindows n
    let w := l.getD (s.freeNat % l.length) (0, 0)
    let s := s.drew.configReq n node 4 (w.1 / usec 1) 0
    let k := s.dataLengths n w
    let v := k.getD (s.freeNat % k.length) 8
    s.drew.configReq n node 5 v 0

/-- A received frame of the Aminen protocol (R289). DESIGN CHOICE: notes/assumptions/14.md. DESIGN CHOICE:
notes/assumptions/50.md. DEDUCED: notes/assumptions/51.md. -/
def State.aminen (s : State) (n : Nat) (f : CanFrame) : State :=
  let node := f.id % 64
  if f.xtd ∨ node = 0 then s
  else if f.id / 64 = 3 then s.nodeStart n node
  else if f.id / 64 = 5 then
    let x := s.fbCh n
    s.setFbCh n { x with reqs := x.reqs.filter fun r => !(r.node == node && r.seq == fieldLE f.data 0 1) }
  else s

/-! ### CANopen manager (R295 to R297) -/

/-- The steps of a start-up up to and with its next SDO request: the frames sent, the steps that wait, the transfer begun.
PRESUMED: notes/assumptions/55.md. -/
def driveGo (node : Nat) : List DriveStep → List CanFrame × List DriveStep × Option SdoJob
  | [] => ([], [], none)
  | .nmt c :: l =>
    let r := driveGo node l
    (classicFrame 0 (leBytes 1 c ++ leBytes 1 node) :: r.1, r.2)
  | .control w :: l =>
    let r := driveGo node l
    (rpdo1 node w 0 :: r.1, r.2)
  | .write i b d :: l => ([sdoWrite node i b d], l, some ⟨i, b, false, false, if d.length ≤ 4 then [] else d⟩)
  | .read i b :: l => ([sdoFrame node 0x40 i b []], l, some ⟨i, b, true, false, []⟩)

/-- The manager goes on with a drive's start-up (R296). -/
def State.driveRun (s : State) (p : Nat) (d : Drive) : State :=
  let r := driveGo d.node d.steps
  r.1.foldl (fun s f => s.fwSend d.ch f)
    (s.onFb fun y => { y with drives := tinsert y.drives p { d with steps := r.2.1, sdo := r.2.2 } })

/-- The steps of a drive's start-up, in order (R296; CiA 301 and 402 encodings). PRESUMED: notes/assumptions/55.md. -/
def startupSteps (node : Nat) : List DriveStep :=
  [.nmt 0x82, .write 0x6060 0 (leBytes 1 3), .write 0x6007 0 (leBytes 2 0),
   .write 0x1400 1 (leBytes 4 (0x200 + node)), .write 0x1600 0 (leBytes 1 0), .write 0x1600 1 (leBytes 4 0x60400010),
   .write 0x1600 2 (leBytes 4 0x60FF0020), .write 0x1600 0 (leBytes 1 2),
   .write 0x1800 1 (leBytes 4 (0x180 + node)), .write 0x1A00 0 (leBytes 1 0), .write 0x1A00 1 (leBytes 4 0x60410010)] ++
  [.write 0x1A00 2 (leBytes 4 0x606C0020), .write 0x1A00 0 (leBytes 1 2), .write 0x1800 5 (leBytes 2 1),
   .write 0x1801 1 (leBytes 4 (0x280 + node)), .write 0x1A01 0 (leBytes 1 0), .write 0x1A01 1 (leBytes 4 0x60780010),
   .write 0x1A01 0 (leBytes 1 1), .write 0x1801 5 (leBytes 2 10), .write 0x1017 0 (leBytes 2 100),
   .read 0x6080 0, .read 0x6075 0, .nmt 0x01, .control 0x06]

/-- A drive's start-up begins (R296). -/
def State.driveStart (s : State) (p : Nat) (d : Drive) : State :=
  s.driveRun p { d with
    steps := startupSteps d.node, sdo := none, status := 0, control := 0x06, sentControl := 0x06, sentTarget := 0, sentAt := none }

/-- The controlword that the CiA 402 state machine asks for by a statusword: 0x06 where switch-on is disabled, 0x07 where it is
ready, 0x0F from switched on; any other state keeps the present one (R295, R296). PRESUMED: notes/assumptions/55.md. -/
def nextControl (control status : Nat) : Nat :=
  if status % 128 &&& 0x4F = 0x40 then 0x06
  else if status % 128 &&& 0x6F = 0x21 then 0x07
  else if status % 128 &&& 0x6F = 0x23 ∨ status % 128 &&& 0x6F = 0x27 then 0x0F
  else control

/-- TPDO1: statusword and velocity; a velocity of 5% of the maximum within a kick lets the pump pass it (R212, R296, R297).
PRESUMED: notes/assumptions/55.md. -/
def State.driveStatus (s : State) (p : Nat) (d : Drive) (data : List Byte) : State :=
  let st := fieldLE data 0 2
  let v := signedOf 32 (fieldLE data 2 4)
  let s := if s.rd (PF_PCFG_IF p) = 2 then s.wr (PF_PTACH p) (min v.natAbs 65535) else s
  let s := if s.rd (pfState p) = 1 ∧ d.maxSpeed ≤ 20 * v.natAbs then s.setPfCh p { s.pfCh p with canReached := true } else s
  let c := if d.steps.isEmpty ∧ d.sdo.isNone then nextControl d.control st else d.control
  (s.onFb fun y => { y with drives := tinsert y.drives p { d with status := st, velocity := v, control := c } }).driveCheck p

/-- TPDO2: the current actual value (R296, R297). -/
def State.driveCurrent (s : State) (p : Nat) (d : Drive) (data : List Byte) : State :=
  let i := fmul (fdiv (f32OfInt (signedOf 16 (fieldLE data 0 2))) (f32OfInt 1000)) (fdiv (f32OfInt d.rated) (f32OfInt 1000))
  s.setPfCh p { s.pfCh p with current := i }

/-- An SDO upload has ended with its data: the maximum motor speed and the rated current of the drive (R296). -/
def Drive.took (d : Drive) (j : SdoJob) (data : List Byte) : Drive :=
  if j.index = 0x6080 then { d with maxSpeed := fieldLE data 0 4 }
  else if j.index = 0x6075 then { d with rated := fieldLE data 0 4 }
  else d

/-- The drive with its transfer going on, and the next request sent. -/
def State.sdoOn (s : State) (p : Nat) (d : Drive) (j : SdoJob) (f : CanFrame) : State :=
  (s.onFb fun y => { y with drives := tinsert y.drives p { d with sdo := some j } }).fwSend d.ch f

/-- An SDO response of a drive: the transfer goes on with its next segment or ends, an abort ends it logged, and the start-up goes
on (R295, R296; CiA 301). PRESUMED: notes/assumptions/55.md. -/
def State.sdoAnswer (s : State) (p : Nat) (d : Drive) (data : List Byte) : State :=
  let c := fieldLE data 0 1
  match d.sdo with
  | none => s
  | some j =>
    let named := fieldLE data 1 2 == j.index && fieldLE data 3 1 == j.sub
    let toggled := bitOf c 4 == j.toggle
    match c / 32, j.upload with
    | 4, _ => if named then (s.log 10 .driveState 1 [p, j.index, fieldLE data 4 4]).driveRun p d else s
    | 3, false =>
      if ¬ named then s
      else if j.data.isEmpty then s.driveRun p d
      else s.sdoOn p d { j with data := j.data.drop 7, toggle := true } (sdoSegment d.node false j.data)
    | 1, false =>
      if toggled then s
      else if j.data.isEmpty then s.driveRun p d
      else s.sdoOn p d { j with data := j.data.drop 7, toggle := !j.toggle } (sdoSegment d.node j.toggle j.data)
    | 2, true =>
      if ¬ named then s
      else if bitOf c 1 then s.driveRun p (d.took j ((data.drop 4).take (if bitOf c 0 then 4 - c / 4 % 4 else 4)))
      else s.sdoOn p d j (sdoNext d.node false)
    | 0, true =>
      if ¬ toggled then s
      else
        let got := j.data ++ (data.drop 1).take (7 - c / 2 % 8)
        if bitOf c 0 then s.driveRun p (d.took j got)
        else s.sdoOn p d { j with data := got, toggle := !j.toggle } (sdoNext d.node (!j.toggle))
    | _, _ => s

/-- A heartbeat of a drive; the boot-up message of a drive that is not starting begins its start-up (R295, R296; CiA 301).
PRESUMED: notes/assumptions/55.md. -/
def State.driveHeart (s : State) (p : Nat) (d : Drive) (data : List Byte) : State :=
  let st := fieldLE data 0 1 % 128
  let d := { d with nmt := st, heartAt := some s.time }
  if st = 0 ∧ d.steps.isEmpty ∧ d.sdo.isNone then (s.log 10 .driveState 1 [p, 0x700]).driveStart p d
  else s.onFb fun y => { y with drives := tinsert y.drives p d }

/-- EMCY: an error class or its end, logged (R295, R297). PRESUMED: notes/assumptions/55.md. -/
def State.driveEmcy (s : State) (p : Nat) (d : Drive) (data : List Byte) : State :=
  let code := fieldLE data 0 2
  ((s.onFb fun y => { y with drives := tinsert y.drives p { d with emcy := decide (0x1000 ≤ code) } }).log 10
    .driveState 1 [p, code]).driveCheck p

/-- A received frame of a CANopen drive: EMCY, TPDO1, TPDO2, SDO response or heartbeat (R295 to R297). DESIGN CHOICE:
notes/assumptions/14.md. PRESUMED: notes/assumptions/55.md. -/
def State.canopen (s : State) (n : Nat) (f : CanFrame) : State :=
  if f.xtd then s
  else (s.pumpsAt n (f.id % 128)).foldl (fun s p =>
    match tfind s.fb.drives p with
    | some d =>
      match f.id / 128 with
      | 1 => s.driveEmcy p d f.data
      | 3 => s.driveStatus p d f.data
      | 5 => s.driveCurrent p d f.data
      | 11 => s.sdoAnswer p d f.data
      | 14 => s.driveHeart p d f.data
      | _ => s
    | none => s) s

/-- What a received frame does to the buffers, node values, supervision and protocols, on the ACTIVE module and, from
the frames it forwards, on the standby (R288). -/
def State.rxFrame (s : State) (n : Nat) (f : CanFrame) (sof : Nat) : State :=
  let s := (s.rxStore n f sof).nodeSeen n f
  let s := if ¬ f.xtd ∧ f.id < 0x40 ∧ 0 < f.id then s.leakFrame n f.id f else s
  match s.rd (FB_CTRL_PROTO n) with
  | 1 => s.aminen n f
  | 2 => s.canopen n f
  | _ => s

/-- A frame as the link carries it (R288). -/
def linkCan (n : Nat) (f : CanFrame) (sof : Nat) : List Byte :=
  leBytes 4 n ++ leBytes 4 (frameWord0 f) ++ leBytes 4 (frameWord1 f) ++ leBytes 8 sof ++ f.data

/-- The receive error counter after a frame (ISO 11898-1: good reception takes 1, and leaves a value from 119 to 127 above that).
DEDUCED: notes/assumptions/56.md. -/
def State.rxErrors (s : State) (n : Nat) (e : RxEvents) : State :=
  let c := s.rd (FB_STAT_REC n)
  let d := if e.ok then (if 127 < c then 119 + s.freeNat % 9 else c - 1) else c + b2n e.one
  let t := s.wr (FB_STAT_REC n) (min 255 (d + 8 * e.eights))
  if e.ok ∧ 127 < c then t.drew else t

/-- CAN_FRAME_RECEIVE: a frame whose SOF lay at `sof` ends on the bus of channel n, good or in an error. In bus
monitoring it feeds the error counters alone (R288). DEDUCED: notes/assumptions/56.md. -/
def execCanFrameReceive (n : Fin 4) (f : CanFrame) (e : RxEvents) (sof : Nat) (s : State) : Host.Outcome State Fault Refusal :=
  if s.bit (FB_CTRL_INIT n) ∨ s.rd (FB_STAT_FCS n) = 2 then .next s
  else
    let s := (s.rxErrors n e).fcsUpdate n
    if ¬ e.ok ∨ s.bit (FB_CTRL_MONITOR n) then .next s
    else .next ((s.rxFrame n f sof).forward 4 0 (linkCan n f sof))

/-! ### Transmission (R279, R285, R286) -/

/-- The source that the channel starts now, and whether as an exclusive attempt. -/
def State.txChoice (s : State) (n : Nat) : Option (FbSrc × Bool) :=
  if ¬ s.maySend n then none
  else if ¬ s.bit (FB_CTRL_TT_EN n) then (s.lowest n (fun _ => true) (s.offerList n)).map fun x => (x, false)
  else
    match s.cellNow n with
    | some (1, m) =>
      let x := s.fbCh n
      let last := 4 * (x.base + s.fbMark n x.col) + s.txEnable n * s.nominalBit n
      let f := (s.fbBuf n m).copy.getD (s.mbFrame n m)
      if s.offers n m && s.bit (FB_MBCFG_TT n m) && !(s.fbBuf n m).missed && x.refOk && decide (4 * s.time ≤ last) && s.fitsWindow n f
      then some (.buf m, true) else none
    | some (2, _) => (s.lowest n (s.fitsWindow n) (s.offerList n)).map fun x => (x, false)
    | _ => none

/-- CAN_TX_START: the bus is idle, and the channel starts what it may. -/
def execCanTxStart (n : Fin 4) (s : State) : Host.Outcome State Fault Refusal :=
  match s.txChoice n with
  | some (x, e) => .next (s.txBegin n x e)
  | none => .next s

/-- A transmit result as the link carries it (R288). -/
def State.forwardTx (s : State) (n m : Nat) : State :=
  s.forward 4 1 (leBytes 4 n ++ leBytes 4 m ++ leBytes 4 (s.rd (FB_MBSTAT n m)))

/-- The transmit error counter after an attempt (ISO 11898-1; R282: an acknowledge error while error-passive adds nothing, unless
a dominant bit follows). DEDUCED: notes/assumptions/56.md. -/
def State.txErrors (s : State) (n : Nat) (ok : Bool) (e : TxEvents) : State :=
  let tec := s.rd (FB_STAT_TEC n)
  let passive := e.ack && s.rd (FB_STAT_FCS n) == 1 && !e.dominant
  let d := if ok then tec - 1 else if passive || e.stuff || e.lost then tec else tec + 8
  s.wr (FB_STAT_TEC n) (min 511 (d + 8 * e.eights))

/-- A message ended FAILED on acknowledge errors alone, or otherwise (R282). -/
def State.ackRun (s : State) (n : Nat) (alone : Bool) : State :=
  if alone then
    let s := s.incSat (FB_STAT_ACK_RUN n)
    if 3 ≤ s.rd (FB_STAT_ACK_RUN n) ∧ ¬ s.bit (FB_STAT_ALONE n) then (s.putBit (FB_STAT_ALONE n) true).fbPost n 4 else s
  else s.wr (FB_STAT_ACK_RUN n) 0

/-- A buffer ends FAILED (R279). DEDUCED: notes/assumptions/52.md. -/
def State.mbFail (s : State) (n m : Nat) : State :=
  let s := (s.wr (FB_MBSTAT_STATE n m) 4).setFbBuf n m { s.fbBuf n m with copy := none, ending := false, missed := false }
  (s.log 10 .canFailed 0 [n, m]).fbPost n 2

/-- The single attempt of an exclusive window has failed: the buffer waits for an arbitration window (R285). -/
def State.mbMissed (s : State) (n m : Nat) : State :=
  ((s.wr (FB_MBSTAT_STATE n m) 1).putBit (FB_MBSTAT_MISSED n m) true).setFbBuf n m
    { s.fbBuf n m with missed := true, exclusive := false, tries := 0 }

/-- An attempt of a buffer has ended in an error, or lost arbitration, which completes no attempt (R279, R282, R285). A buffer
that ABORT ended counts no run of acknowledge errors, since it has not used up its attempts. DEDUCED: notes/assumptions/52.md. -/
def State.mbError (s : State) (n m : Nat) (e : TxEvents) : State :=
  let b := s.fbBuf n m
  let t := b.tries + b2n (!e.lost)
  let other := b.other || !(e.ack || e.lost)
  let lim := s.rd (FB_MBCFG_RETRY n m)
  let spent := !b.exclusive && lim != 15 && decide (lim < t)
  let s := if e.lost then s else (s.incSat (FB_MBSTAT_ATTEMPTS n m)).putBit (FB_MBSTAT_ACK_ONLY n m) e.ack
  let s := s.setFbBuf n m { b with other := other, tries := t }
  if spent then (s.mbFail n m).ackRun n !other
  else if b.ending then (if other then (s.mbFail n m).ackRun n false else s.mbFail n m)
  else if b.exclusive then s.mbMissed n m
  else s.wr (FB_MBSTAT_STATE n m) 1

/-- An attempt of a buffer has ended. -/
def State.mbDone (s : State) (n m : Nat) (ok : Bool) (e : TxEvents) : State :=
  if ok then
    let s := s.incSat (FB_MBSTAT_ATTEMPTS n m)
    let s := (s.wr (FB_MBSTAT_STATE n m) 3).putBit (FB_MBSTAT_ACK_ONLY n m) false
    let s := s.setFbBuf n m
      { s.fbBuf n m with copy := none, ending := false, missed := false, exclusive := false, other := false, tries := 0 }
    if s.bit (FB_MBCFG_IRQ_EN n m) then s.fbPost n 0 else s
  else s.mbError n m e

/-- The attempt that took the channel bus-off: its buffer stays PENDING with its ATTEMPTS count; one that ABORT ended is FAILED,
and one of an exclusive window has missed it (R279, R280, R285). DEDUCED: notes/assumptions/52.md. -/
def State.mbBusOff (s : State) (n m : Nat) : State :=
  let b := s.fbBuf n m
  if b.ending then s.mbFail n m else if b.exclusive then s.mbMissed n m else s

/-- An attempt of a mirror entry has ended: with success its original goes to MIRRORED; when its attempts are used up it
leaves and the original stays PENDING (R281). DEDUCED: notes/assumptions/52.md. -/
def State.mirrorDone (s : State) (n i : Nat) (ok lost : Bool) : State :=
  let x := s.fbCh n
  match x.mirror[i]? with
  | some e =>
    if lost then s
    else if ok ∨ (e.retry ≠ 15 ∧ e.retry < e.attempts + 1) then
      let s := s.setFbCh n { x with mirror := x.mirror.eraseIdx i }
      let s := if ok ∧ s.rd (FB_MBSTAT_STATE e.origin e.buf) = 1 then s.wr (FB_MBSTAT_STATE e.origin e.buf) 7 else s
      (s.forwardTx e.origin e.buf).mirrorFill n
    else (s.setFbCh n { x with mirror := x.mirror.set i { e with attempts := e.attempts + 1 } }).forwardTx e.origin e.buf
  | none => s

/-- A frame of Benfophor's own has been sent or not; one not sent waits on. The partner takes the same frame from its list
(R288). -/
def State.fwDone (s : State) (n : Nat) (ok : Bool) : State :=
  (if ok then s.setFbCh n { s.fbCh n with fw := (s.fbCh n).fw.drop 1 } else s).forward 4 3 (leBytes 4 n ++ leBytes 4 (b2n ok))

/-- The interval that ends now: on a time-triggered channel a basic cycle with a completed reference, otherwise LEN. -/
def State.supInterval (s : State) (n : Nat) : Option Nat :=
  if s.bit (FB_CTRL_INIT n) then none
  else if s.bit (FB_CTRL_TT_EN n) then (if (s.fbCh n).refOk then (s.fbCh n).cycle else none)
  else some (s.time / s.fbLen n)

/-- An expected node not seen in the interval: three in a row lose it. -/
def State.nodeMissed (s : State) (n node : Nat) : State :=
  let c := tget 0 (s.fbCh n).unseen node + 1
  let s := s.setFbCh n { s.fbCh n with unseen := tset 0 (s.fbCh n).unseen node (min c 3) }
  if 3 ≤ c ∧ ¬ s.bit (fbLost n node) then
    let s := s.setFbCh n { s.fbCh n with started := withBits (s.fbCh n).started node node 0 }
    let s := ((s.putBit (fbLost n node) true).log 10 .nodeLost 1 [n, node]).fbPost n 5
    (s.pumpsAt n node).foldl State.driveCheck s
  else s

/-- The supervision interval under way ends, once (R292). DEDUCED: notes/assumptions/53.md. -/
def State.endInterval (s : State) (n : Nat) : State :=
  match s.supInterval n with
  | some q =>
    if (s.fbCh n).supAt = some q then s
    else
      let seen := (s.fbCh n).seen
      let s := ((upto 64).filter fun k => s.nodeExpected n k && !bitOf seen k).foldl (fun s k => s.nodeMissed n k) s
      s.setFbCh n { s.fbCh n with seen := 0, supAt := some q }
  | none => s

/-- The reference of basic cycle q has completed: marks count from its SOF (R284). -/
def State.refDone (s : State) (n q sof : Nat) : State :=
  let x := s.fbCh n
  let s := s.setFbCh n { x with
    base := if x.cycle = some q then sof else x.base, refOk := x.cycle == some q || x.refOk,
    refSofs := tinsert x.refSofs (q % 64) sof }
  s.forward 4 2 (leBytes 4 n ++ leBytes 8 q ++ leBytes 8 sof)

/-- A basic cycle without its reference: REF_MISS, and the partner told (R284, R288). -/
def State.refMissed (s : State) (n q : Nat) : State :=
  (((s.incSat (FB_REFMISS n)).log 10 .refMissed 0 [n, q]).fbPost n 6).forward 4 4 (leBytes 4 n ++ leBytes 8 q)

/-- The end of an attempt brought into what was being sent. -/
def State.srcDone (s : State) (n : Nat) (x : FbSrc) (ok : Bool) (e : TxEvents) : State :=
  match x with
  | .buf m =>
    (if !ok && s.rd (FB_STAT_FCS n) == 2 then s.mbBusOff n m else s.mbDone n m ok e).forwardTx n m
  | .mirror i => s.mirrorDone n i ok e.lost
  | .fw => s.fwDone n ok
  | .ref q sof => if ok then s.refDone n q sof else s.refMissed n q

/-- CAN_TX_COMPLETE: the attempt under way on channel n ends, `ok`, or in an error or a lost arbitration; the counters and the
fault-confinement state come first, so that the attempt that goes bus-off loses no message (R280). DEDUCED:
notes/assumptions/52.md. -/
def execCanTxComplete (n : Fin 4) (ok : Bool) (e : TxEvents) (s : State) : Host.Outcome State Fault Refusal :=
  match (s.fbCh n).cur with
  | some x =>
    let susp := if s.rd (FB_STAT_FCS n) = 1 ∧ (ok ∨ ¬ e.lost) then s.time + (8 * s.nominalBit n + 3) / 4 else 0
    let s := (s.setFbCh n { s.fbCh n with cur := none, suspEnd := susp }).txErrors n ok e
    let s := if ok then (s.wr (FB_STAT_ACK_RUN n) 0).putBit (FB_STAT_ALONE n) false else s
    .next ((s.fcsUpdate n).srcDone n x ok e)
  | none => .next s

/-! ### Recovery and requests (R279, R280) -/

/-- FB_RECOVER_WRITE: recovery of a bus-off channel starts. -/
def execFbRecoverWrite (n : Fin 4) (s : State) : Host.Outcome State Fault Refusal :=
  .next (if s.rd (FB_STAT_FCS n) = 2 then s.putBit (FB_STAT_RECOVERING n) true else s)

/-- CAN_RECOVERY_DONE: the channel is error-active again; node supervision starts over (R292). -/
def execCanRecoveryDone (n : Fin 4) (s : State) : Host.Outcome State Fault Refusal :=
  if s.bit (FB_STAT_RECOVERING n) then
    let s := ((s.putBit (FB_STAT_RECOVERING n) false).wr (FB_STAT_TEC n) 0).wr (FB_STAT_REC n) 0
    let s := (upto 64).foldl (fun s m => s.setFbBuf n m { s.fbBuf n m with copied := false }) s
    .next ((s.setFbCh n { s.fbCh n with unseen := [], seen := 0 }).fcsChange n 0)
  else .next s

/-- FB_REQ_WRITE. -/
def execFbReqWrite (n : Fin 4) (m : Fin 64) (s : State) : Host.Outcome State Fault Refusal :=
  .next (s.mbRequest n m)

/-- FB_ABORT_WRITE: a PENDING buffer is withdrawn; a SENDING one ends after its attempt. -/
def execFbAbortWrite (n : Fin 4) (m : Fin 64) (s : State) : Host.Outcome State Fault Refusal :=
  let b := s.fbBuf n m
  match s.rd (FB_MBSTAT_STATE n m) with
  | 1 => .next ((s.wr (FB_MBSTAT_STATE n m) 0).setFbBuf n m { b with copy := none, missed := false })
  | 2 => .next (s.setFbBuf n m { b with ending := true })
  | _ => .next s

/-- FB_INIT_CLEAR. -/
def execFbInitClear (n : Fin 4) (s : State) : Host.Outcome State Fault Refusal := .next (s.initClear n)

/-! ### Buffer locks (R277) -/

/-- A read of word 0 locks the buffer. -/
def State.mbLock (s : State) (n m : Nat) : State :=
  (s.putBit (FB_MBSTAT_LOCKED n m) true).setFbBuf n m { s.fbBuf n m with lockAt := some s.time }

/-- A read of word 17 releases it. DEDUCED: notes/assumptions/52.md. -/
def State.mbUnlock (s : State) (n m : Nat) : State :=
  (s.putBit (FB_MBSTAT_LOCKED n m) false).setFbBuf n m { s.fbBuf n m with lockAt := none }

/-- MB_LOCK_READ: word 0 is returned. -/
def execMbLockRead (n : Fin 4) (m : Fin 64) (s : State) : Host.Outcome State Fault Refusal :=
  .next ((s.mbLock n m).reply { body := leBytes 4 (s.rd (FB_MBDATA n m 0)) })

/-- MB_RELEASE_READ: word 17 is returned. -/
def execMbReleaseRead (n : Fin 4) (m : Fin 64) (s : State) : Host.Outcome State Fault Refusal :=
  .next ((s.mbUnlock n m).reply { body := leBytes 4 (s.rd (FB_MBDATA n m 17)) })

/-- MB_LOCK_TIMEOUT: a lock held 1 ms is released by the hardware. -/
def execMbLockTimeout (n : Fin 4) (m : Fin 64) (s : State) : Host.Outcome State Fault Refusal :=
  if s.bit (FB_MBSTAT_LOCKED n m) ∧ s.since (s.fbBuf n m).lockAt (msec 1) then
    let s := (s.putBit (FB_MBSTAT_LOCKED n m) false).putBit (FB_MBSTAT_LOCK_TO n m) true
    .next ((s.setFbBuf n m { s.fbBuf n m with lockAt := none }).fbPost n 8)
  else .next s

/-! ### The pricking (R283 to R286) -/

/-- The window under way ends: the buffer of an exclusive cell that was not started has missed it. DEDUCED:
notes/assumptions/52.md. -/
def State.closeWindow (s : State) (n : Nat) : State :=
  match s.cellNow n with
  | some (1, m) =>
    if s.rd (FB_MBCFG_DIR n m) = 2 ∧ s.rd (FB_MBSTAT_STATE n m) = 1 ∧ s.bit (FB_MBCFG_TT n m) then
      (s.putBit (FB_MBSTAT_MISSED n m) true).setFbBuf n m { s.fbBuf n m with missed := true, tries := 0 }
    else s
  | _ => s

/-- The COMMAND buffers of an Aminen channel made PENDING for the cycle: the next sequence number, and the echo of the
node's last LEAK (R289, R290). DEDUCED: notes/assumptions/53.md. -/
def State.commandFrames (s : State) (n : Nat) : State :=
  if s.rd (FB_CTRL_PROTO n) = 1 ∧ ¬ s.bit (FB_CTRL_MONITOR n) then
    (upto 64).foldl (fun (s : State) m =>
      let f := s.mbFrame n m
      let st := s.rd (FB_MBSTAT_STATE n m)
      if s.rd (FB_MBCFG_DIR n m) = 2 ∧ s.bit (FB_MBCFG_TT n m) ∧ ¬ f.xtd ∧ 0x080 < f.id ∧ f.id < 0x0C0 ∧ st ≠ 1 ∧ st ≠ 2 ∧
          ¬ s.bit (FB_MBSTAT_LOCKED n m) then
        let w := s.rd (FB_MBDATA n m 2)
        let w := withBits (withBits w 7 0 (w + 1)) 23 16 (tget 0 (s.fbCh n).leakSeq (f.id - 0x080))
        (s.wr (FB_MBDATA n m 2) w).mbRequest n m
      else s) s
  else s

/-- The channel may start its reference `late` counts after the nominal start: on the bus, idle, its suspend time over, no later
than TX_ENABLE (R280, R284). -/
def State.mayRefer (s : State) (n nominal late : Nat) : Bool :=
  s.rd (FB_STAT_FCS n) != 2 && (s.fbCh n).cur.isNone && decide ((s.fbCh n).suspEnd ≤ nominal + late) &&
    decide (4 * late ≤ s.txEnable n * s.nominalBit n)

/-- BASIC_CYCLE_START: nominal cycle start of channel n. `ref` gives how many counts later the bus lets the reference start; none
where it stays busy. The reference then ends by CAN_TX_COMPLETE. A channel in bus monitoring takes its cycles from its partner
(R288). DEDUCED: notes/assumptions/53.md. -/
def execBasicCycleStart (n : Fin 4) (ref : Option Nat) (s : State) : Host.Outcome State Fault Refusal :=
  let q := s.time / s.fbLen n
  let nominal := q * s.fbLen n
  if ¬ s.bit (FB_CTRL_TT_EN n) ∨ s.bit (FB_CTRL_INIT n) ∨ (s.fbCh n).cycle = some q then .next s
  else
    let t := (s.wr (FB_CYCLE_MATRIX n) (q / 64)).wr (FB_CYCLE_COUNT n) (q % 64)
    if s.bit (FB_CTRL_MONITOR n) then .next t
    else
      let t := (t.closeWindow n).endInterval n
      let t := (t.setFbCh n { t.fbCh n with cycle := some q, base := nominal, refOk := false, col := 0 }).commandFrames n
      match ref.filter (t.mayRefer n nominal) with
      | some d => .next (t.txBegin n (.ref q (nominal + d)) false)
      | none => .next (t.refMissed n q)

/-- WINDOW_MARK: the next column's mark is reached; `idle`: the bus is idle, and what the new window allows starts.
DEDUCED: notes/assumptions/53.md. -/
def execWindowMark (n : Fin 4) (idle : Bool) (s : State) : Host.Outcome State Fault Refusal :=
  let x := s.fbCh n
  if x.cycle.isSome ∧ s.bit (FB_CTRL_TT_EN n) ∧ ¬ s.bit (FB_CTRL_INIT n) ∧ x.col + 1 < s.fbCols n ∧
      x.base + s.fbMark n (x.col + 1) ≤ s.time then
    let s := s.closeWindow n
    let s := s.setFbCh n { s.fbCh n with col := x.col + 1 }
    if idle then
      match s.txChoice n with
      | some (y, e) => .next (s.txBegin n y e)
      | none => .next s
    else .next s
  else .next s

/-! ### Supervision and protocols (R290, R292, R296) -/

/-- NODE_SUPERVISION_INTERVAL. -/
def execNodeSupervisionInterval (n : Fin 4) (s : State) : Host.Outcome State Fault Refusal := .next (s.endInterval n)

/-- CONFIG_REQ_RETRY: a request without a reply for 20 basic cycles is sent again twice; then its node is unconfigured.
-/
def execConfigReqRetry (n : Fin 4) (node : Fin 64) (s : State) : Host.Outcome State Fault Refusal :=
  match (s.fbCh n).reqs.find? fun r => r.node == node.val && decide (r.sent + 20 * s.fbLen n ≤ s.time) with
  | some r =>
    let s := s.setFbCh n { s.fbCh n with reqs := (s.fbCh n).reqs.filter fun q => q != r }
    if r.tries < 2 then .next (s.configReq n node r.index r.value (r.tries + 1))
    else
      let x := s.fbCh n
      .next ((s.setFbCh n { x with unconfigured := withBits x.unconfigured node node 1 }).log 10 .nodeUnconfigured 1
        [n, node, r.index])
  | none => .next s

/-- CANOPEN_DRIVE_STARTUP: the drive of pump p is node `node` of channel n; its objects 0x6080 and 0x6075 as they are known until
the drive gives them. The channel's drives are supervised by TPDO1 (R296). -/
def execCanopenDriveStartup (p n : Fin 4) (node : Fin 64) (maxSpeed rated : Nat) (s : State) :
    Host.Outcome State Fault Refusal :=
  if s.rd (FB_CTRL_PROTO n) = 2 ∧ ¬ s.bit (FB_CTRL_TT_EN n) ∧ 1 ≤ node.val then
    let d : Drive := { ch := n, node := node, maxSpeed := maxSpeed, rated := rated, status := 0, velocity := 0,
                       control := 0x06, sentTarget := 0, sentAt := none, emcy := false }
    .next ((s.wr (FB_NODEBASE n) 0x180).driveStart p d)
  else .next s

/-- RPDO_TRANSMIT: RPDO1 of pump p's drive, once started, on change at most every 2 ms, at least every 20 ms. -/
def execRpdoTransmit (p : Fin 4) (s : State) : Host.Outcome State Fault Refusal :=
  match tfind s.fb.drives p with
  | some d =>
    let t := s.driveVelocity p d
    let news := d.sentTarget != t || d.sentControl != d.control
    let due : Bool := match d.sentAt with
      | some t0 => (news && decide (t0 + msec 2 ≤ s.time)) || decide (t0 + msec 20 ≤ s.time)
      | none => true
    if s.rd (PF_PCFG_IF p) = 2 ∧ d.steps.isEmpty ∧ d.sdo.isNone ∧ due then
      let x := { d with sentTarget := t, sentControl := d.control, sentAt := some s.time }
      .next ((s.onFb fun y => { y with drives := tinsert y.drives p x }).fwSend d.ch (rpdo1 d.node d.control t))
    else .next s
  | none => .next s

end Sys2Proof.Machine
end

