-- ==== Sys2Proof/Machine/Sensors.lean ====
section
/-! DEFINITION. The commands of the sensor front end (spec 09): conversions with their checks, pulse and digital inputs,
leak channels, the module's cold plate, and the field streams. -/

namespace Sys2Proof.Machine

/-! ### Converted inputs (R236 to R243) -/

/-- An input's record, by key: RTD n at n, 4 to 20 mA n at 48 + n, pulse n at 72 + n, digital n at 80 + n. -/
def State.snIn (s : State) (k : Nat) : SnIn := tget {} s.sn.inp k

/-- An input's record set. -/
def State.setSnIn (s : State) (k : Nat) (x : SnIn) : State := s.onSn fun y => { y with inp := tset {} y.inp k x }

/-- OPEN of an input. -/
def snOpen (k : Nat) : RF :=
  if k < 48 then SN_RTDSTAT_OPEN k else if k < 72 then SN_MASTAT_OPEN (k - 48) else SN_PISTAT_OPEN (k - 72)

/-- SHORT of an input. -/
def snShort (k : Nat) : RF :=
  if k < 48 then SN_RTDSTAT_SHORT k else if k < 72 then SN_MASTAT_SHORT (k - 48) else SN_PISTAT_SHORT (k - 72)

/-- VALID of an input. -/
def snValid (k : Nat) : RF :=
  if k < 48 then SN_RTDSTAT_VALID k else if k < 72 then SN_MASTAT_VALID (k - 48) else SN_PISTAT_VALID (k - 72)

/-- FAULT_SEEN of an input. -/
def snSeen (k : Nat) : RF :=
  if k < 48 then SN_RTDSTAT_FAULT_SEEN k else if k < 72 then SN_MASTAT_FAULT_SEEN (k - 48) else SN_PISTAT_FAULT_SEEN (k - 72)

/-- A wiring fault detected (R239): the bit, VALID 0, FAULT_SEEN, the log record and the sensor-fault doorbell. -/
def State.wiring (s : State) (k : Nat) (f : RF) : State :=
  if s.bit f then s
  else (((s.putBit f true).putBit (snValid k) false).putBit (snSeen k) true).note 8 .sensorFault 1 [k, f.lo] 192

/-- A range condition detected: the bit, the log record and the doorbell; the value stays valid (R239). -/
def State.ranged (s : State) (k : Nat) (f : RF) : State :=
  if s.bit f then s else (s.putBit f true).note 8 .sensorFault 1 [k, f.lo] 192

/-- A wiring bit's time clear, as a conversion leaves it (R239). -/
def clearFrom (on : Bool) (now : Nat) (t : Option Nat) : Option Nat := if on then none else some (t.getD now)

/-- The counts of the wiring conditions after one conversion; bits set at `n` in a row (R239). -/
def State.wiringRun (s : State) (k n : Nat) (opn sht : Bool) : State :=
  let x := s.snIn k
  let x := { x with openRun := if opn then x.openRun + 1 else 0, shortRun := if sht then x.shortRun + 1 else 0,
                    openClear := clearFrom opn s.time x.openClear, shortClear := clearFrom sht s.time x.shortClear }
  let s := s.setSnIn k x
  if n ≤ x.openRun then s.wiring k (snOpen k) else if n ≤ x.shortRun then s.wiring k (snShort k) else s

/-- One range condition's bit after its count: set at `n` in a row, cleared after 1 s of absence (R239). -/
def State.rangeBit (s : State) (k n run : Nat) (clear : Option Nat) (f : RF) : State :=
  if n ≤ run then s.ranged k f else if s.since clear (secs 1) then s.putBit f false else s

/-- The LOW or OVERRANGE condition after one conversion. -/
def State.lowRange (s : State) (k n : Nat) (low : Bool) (f : RF) : State :=
  let x := s.snIn k
  let x := { x with lowRun := if low then x.lowRun + 1 else 0, lowClear := clearFrom low s.time x.lowClear }
  (s.setSnIn k x).rangeBit k n x.lowRun x.lowClear f

/-- The HIGH condition after one conversion. -/
def State.highRange (s : State) (k n : Nat) (high : Bool) (f : RF) : State :=
  let x := s.snIn k
  let x := { x with highRun := if high then x.highRun + 1 else 0, highClear := clearFrom high s.time x.highClear }
  (s.setSnIn k x).rangeBit k n x.highRun x.highClear f

/-- The frozen count of the field die: 64 identical raw codes in a row set FROZEN (R238). DEDUCED:
notes/assumptions/74.md. -/
def State.frozenRun (s : State) (k old raw : Nat) (f : RF) : State :=
  let x := s.snIn k
  let same := if x.seen && old == raw then min (x.same + 1) 64 else 1
  let s := s.setSnIn k { x with same := same, seen := true, at_ := some s.time }
  if 64 ≤ same then (if s.bit f then s else (s.putBit f true).log 8 .sensorFrozen 1 [k]) else s.putBit f false

/-- The conversion overlaps a change of EXC_EN_N and is discarded (R442); `d` is the conversion's length. -/
def State.excChange (s : State) (d : Nat) : Bool :=
  match s.sn.excAt with
  | some t => decide (s.time < t + d)
  | none => false

/-- Two offsets in a row differ by at least 2 codes (R237). -/
def State.dithers (s : State) (k : Nat) (offset : Int) : Bool :=
  match (s.snIn k).dither with
  | some d => decide (2 ≤ (offset - d).natAbs)
  | none => true

/-- The code of a conversion with the dither's offset taken out again (R237). -/
def undither (raw : Nat) (offset : Int) : Nat := ((raw : Int) - offset).toNat

/-- The resistance of a Pt1000 by IEC 60751, in units of 1 / (10^9 · 512^4) mΩ, at `y` / 512 °C. PRESUMED:
notes/assumptions/10.md. -/
def pt1000 (y : Int) : Int :=
  1000000000000000 * 512 ^ 4 + 3908300000000 * y * 512 ^ 3 - 577500000 * y ^ 2 * 512 ^ 2 -
    (if y < 0 then 4183 * (y - 51200) * y ^ 3 else 0)

/-- The largest step from `lo` on, within 2^fuel − 1, at whose lower edge the curve is not above `r`. -/
def curveSearch (r : Int) : Nat → Int → Int
  | 0, lo => lo
  | n + 1, lo => curveSearch r n (if pt1000 (2 * (lo + 2 ^ n) - 1) ≤ r then lo + 2 ^ n else lo)

/-- The sensor curve: the temperature in 1/256 °C of a resistance in mΩ, nearest, from −200 °C to 850 °C (R236, R243).
PRESUMED: notes/assumptions/10.md. -/
def rtdTemp (mohm : Nat) : Int := min (curveSearch (mohm * 1000000000 * 512 ^ 4) 19 (-51200)) 217600

/-- An RTD's resistance in mΩ from its 24-bit code, full scale 2,500 Ω. DESIGN CHOICE: notes/assumptions/99.md. -/
def rtdOhms (code : Nat) : Nat := code * 2500000 / 2 ^ 24

/-- An RTD value stored, with the offset applied (R243). -/
def State.rtdValue (s : State) (n : Nat) (t : Int) : State :=
  let off := (unpackF32 (s.rdf (SN_RTDOFF n))).scale 8
  let s := s.setSnIn n { s.snIn n with uncorr := t }
  s.wr (SN_RTDVAL n) (wrapInt 32 (t + off.toIntRNE))

/-- One RTD conversion with its raw code, the dither's offset in it and the excitation's compliance (R237, R239). -/
def State.rtdConvert (s : State) (n raw : Nat) (offset : Int) (compliant : Bool) : State :=
  let mohm := rtdOhms (undither raw offset)
  let opn := decide (2200000 < mohm) || !compliant
  let sht := decide (mohm < 700000) && !opn
  let r := if s.rd (SN_RTDCFG_WIRES n) = 1 then mohm - 10 * min (s.rd (SN_RTDCFG_LEAD n)) 10000 else mohm
  let rng := !opn && !sht && (decide (r < 803000) || decide (1573000 < r))
  let s := (s.frozenRun n (s.rd (SN_RTDRAW n)) raw (SN_RTDSTAT_FROZEN n)).wr (SN_RTDRAW n) raw
  let s := s.setSnIn n { s.snIn n with dither := some offset }
  let s := (s.wiringRun n 2 opn sht).lowRange n 2 rng (SN_RTDSTAT_LOW_OVR n)
  if opn ∨ sht ∨ s.bit (SN_RTDSTAT_OPEN n) ∨ s.bit (SN_RTDSTAT_SHORT n) then s
  else (s.rtdValue n (rtdTemp r)).putBit (SN_RTDSTAT_VALID n) true

/-- RTD_CONVERSION: the raw code, the offset that the dither added to it, and whether the excitation stayed in
compliance. A report whose offset is within 2 codes of the one before is none that the converter makes (R237). DEDUCED:
notes/assumptions/40.md. -/
def execRtdConversion (n : Fin 48) (raw : BitVec 24) (offset : Int) (compliant : Bool) (s : State) :
    Host.Outcome State Fault Refusal :=
  .next (if s.bit SN_CTRL ∧ s.bit (SN_RTDCFG_ENABLE n) ∧ ¬ s.excChange (msec 10) ∧ s.dithers n offset then
      s.rtdConvert n raw.toNat offset compliant
    else s)

/-- The value of a 4 to 20 mA input for a current in 0.5 µA (R240). -/
def State.maScale (s : State) (n h : Nat) : F32 :=
  let i := fdiv (f32OfInt (clampNat 8000 40000 h)) (f32OfInt 2000)
  let lo := s.rdf (SN_MALO n)
  fadd lo (fdiv (fmul (fsub i (f32OfInt 4)) (fsub (s.rdf (SN_MAHI n)) lo)) (f32OfInt 16))

/-- One 4 to 20 mA conversion with its raw code in 0.5 µA, the dither's offset in it, and the loop supply's limit (R237,
R239). -/
def State.maConvert (s : State) (n raw : Nat) (offset : Int) (limit : Bool) : State :=
  let k := 48 + n
  let h := undither raw offset
  let opn := decide (h < 2000)
  let sht := !opn && (decide (45000 < h) || limit)
  let s := (s.frozenRun k (s.rd (SN_MARAW n)) raw (SN_MASTAT_FROZEN n)).wr (SN_MARAW n) raw
  let s := s.setSnIn k { s.snIn k with dither := some offset }
  let s := (s.wiringRun k 20 opn sht).lowRange k 20 (decide (h < 7600)) (SN_MASTAT_LOW_OVR n)
  let s := s.highRange k 20 (decide (41000 < h)) (SN_MASTAT_HIGH n)
  if opn ∨ sht ∨ s.bit (SN_MASTAT_OPEN n) ∨ s.bit (SN_MASTAT_SHORT n) then s
  else (s.wrf (SN_MAVAL n) (s.maScale n h)).putBit (SN_MASTAT_VALID n) true

/-- MA_CONVERSION: the raw code, the offset that the dither added to it, and whether the loop supply is at its limit.
DEDUCED: notes/assumptions/40.md. -/
def execMaConversion (n : Fin 24) (raw : BitVec 16) (offset : Int) (limit : Bool) (s : State) :
    Host.Outcome State Fault Refusal :=
  .next (if s.bit SN_CTRL ∧ s.bit (SN_MACFG_ENABLE n) ∧ ¬ s.excChange (msec 1) ∧ s.dithers (48 + n) offset then
      s.maConvert n raw.toNat offset limit
    else s)

/-- SENSOR_FAULT_CLEAR: a wiring bit whose own condition has been absent for 1 s clears; VALID returns as none is left
(R239). -/
def execSensorFaultClear (k : Fin 80) (s : State) : Host.Outcome State Fault Refusal :=
  let x := s.snIn k
  let o := s.bit (snOpen k) && s.since x.openClear (secs 1)
  let h := s.bit (snShort k) && s.since x.shortClear (secs 1)
  if o || h then
    let t := if o then s.putBit (snOpen k) false else s
    let t := if h then t.putBit (snShort k) false else t
    .next (if t.bit (snOpen k) ∨ t.bit (snShort k) then t else t.putBit (snValid k) true)
  else .next s

/-! ### Pulse and digital inputs (R236, R239, R240) -/

/-- A pulse input's report: NO_PULSE and the frequency; with OPEN or SHORT set the last good value is kept (R239). -/
def State.pulseValue (s : State) (n : Nat) (none_ : Bool) (f : F32) : State :=
  if s.bit (SN_PISTAT_OPEN n) ∨ s.bit (SN_PISTAT_SHORT n) then s
  else (s.putBit (SN_PISTAT_NO_PULSE n) none_).wrf (SN_PIFREQ n) f

/-- NO_PULSE_TIMEOUT: no pulse within TIMEOUT: NO_PULSE, and 0 Hz is reported. -/
def execNoPulseTimeout (n : Fin 8) (s : State) : Host.Outcome State Fault Refusal :=
  let t := ((s.snIn (72 + n)).stamp).getD 0
  .next (if s.bit SN_CTRL ∧ s.bit (SN_PICFG_ENABLE n) ∧ t + msec (clampNat 10 60000 (s.rd (SN_PICFG_TIMEOUT n))) ≤ s.time then
      s.pulseValue n true 0
    else s)

/-- A pulse timed: the frequency, and for input 0 the main-flow pulse of R224. -/
def State.pulseSeen (s : State) (n period : Nat) : State :=
  let s := s.setSnIn (72 + n) { s.snIn (72 + n) with stamp := some s.time }
  let s := s.pulseValue n false (f32OfRat 40000000 period)
  if n = 0 then
    let s := (s.onPf fun y => { y with lastPulse := s.time }).putBit PF_HYD_PULSE_LOST false
    s.setTmInput 0 false
  else s

/-- The NAMUR checks of a pulse input's current in µA: 20 ms of either condition (R239). -/
def State.namur (s : State) (n ua : Nat) : State :=
  let k := 72 + n
  let x := s.snIn k
  let opn := decide (ua < 350)
  let sht := decide (6000 < ua)
  let x := { x with openSince := if opn then some (x.openSince.getD s.time) else none,
                    shortSince := if sht then some (x.shortSince.getD s.time) else none,
                    openClear := clearFrom opn s.time x.openClear, shortClear := clearFrom sht s.time x.shortClear }
  let s := s.setSnIn k x
  if s.since x.openSince (msec 20) then s.wiring k (SN_PISTAT_OPEN n)
  else if s.since x.shortSince (msec 20) then s.wiring k (SN_PISTAT_SHORT n)
  else s

/-- PULSE_INPUT_MEASUREMENT: the report of 1 ms: the period of a pulse timed, in 40 MHz counts, if there was one, and
the input's current in µA. -/
def execPulseInputMeasurement (n : Fin 8) (period : Option Nat) (ua : Nat) (s : State) : Host.Outcome State Fault Refusal :=
  if s.bit SN_CTRL ∧ s.bit (SN_PICFG_ENABLE n) then
    let s := s.setSnIn (72 + n) { s.snIn (72 + n) with at_ := some s.time }
    let s := match period with
      | some p => if p = 0 then s else s.pulseSeen n p
      | none => s
    let s := if s.rd (SN_PICFG_MODE n) = 2 then s.namur n ua else s
    .next (if s.bit (SN_PISTAT_OPEN n) ∨ s.bit (SN_PISTAT_SHORT n) then s else s.putBit (SN_PISTAT_VALID n) true)
  else .next s

/-- DIN_DEBOUNCE: the level of digital input k as sampled; a change is reported once it has held for SN_DINDEB ms. -/
def execDinDebounce (k : Fin 16) (level : Bool) (s : State) : Host.Outcome State Fault Refusal :=
  let v := level != bitOf (s.rd SN_DINPOL) k
  let x := { s.snIn (80 + k) with at_ := some s.time }
  if ¬ s.bit SN_CTRL then .next s
  else if v = bitOf (s.rd SN_DIN) k then .next (s.setSnIn (80 + k) { x with stamp := none })
  else
    let t := x.stamp.getD s.time
    if t + msec (s.rd SN_DINDEB) ≤ s.time then
      .next ((s.setSnIn (80 + k) { x with stamp := none }).wr SN_DIN (withBits (s.rd SN_DIN) k k (b2n v))).posUpdate
    else .next (s.setSnIn (80 + k) { x with stamp := some t })

/-! ### Pairs (R241, R242) -/

/-- The PAIRED and SAME_BANK status bits of every RTD, 4 to 20 mA and pulse input, from their markings. DEDUCED:
notes/assumptions/74.md. -/
def State.pairUpdate (s : State) : State :=
  let rtd (n p : Nat) : Bool := s.bit (SN_RTDCFG_PAIRED n) && s.rd (SN_RTDCFG_PARTNER n) == p
  let ma (n p : Nat) : Bool := s.bit (SN_MACFG_PAIRED n) && s.rd (SN_MACFG_PARTNER n) == p
  let pi_ (n p : Nat) : Bool := s.bit (SN_PICFG_PAIRED n) && s.rd (SN_PICFG_PARTNER n) == p
  let s := (upto 48).foldl (fun t n =>
    let p := s.rd (SN_RTDCFG_PARTNER n)
    let ok := rtd n p && rtd p n && s.rd (SN_RTDCFG_ELEM n) != s.rd (SN_RTDCFG_ELEM p)
    (t.putBit (SN_RTDSTAT_PAIRED n) ok).putBit (SN_RTDSTAT_SAME_BANK n) (ok && n % 6 == p % 6)) s
  let s := (upto 24).foldl (fun t n =>
    let p := s.rd (SN_MACFG_PARTNER n)
    let ok := ma n p && ma p n && s.rd (SN_MACFG_ELEM n) != s.rd (SN_MACFG_ELEM p)
    (t.putBit (SN_MASTAT_PAIRED n) ok).putBit (SN_MASTAT_SAME_BANK n) (ok && n % 4 == p % 4)) s
  (upto 8).foldl (fun t n =>
    let p := s.rd (SN_PICFG_PARTNER n)
    let ok := pi_ n p && pi_ p n && s.rd (SN_PICFG_ELEM n) != s.rd (SN_PICFG_ELEM p)
    t.putBit (SN_PISTAT_PAIRED n) ok) s

/-- PAIRED of an input's marking. -/
def snMarked (k : Nat) : RF :=
  if k < 48 then SN_RTDCFG_PAIRED k else if k < 72 then SN_MACFG_PAIRED (k - 48) else SN_PICFG_PAIRED (k - 72)

/-- PAIRED of an input's status. -/
def snPaired (k : Nat) : RF :=
  if k < 48 then SN_RTDSTAT_PAIRED k else if k < 72 then SN_MASTAT_PAIRED (k - 48) else SN_PISTAT_PAIRED (k - 72)

/-- Markings written at the inputs `ks`: the status bits follow, and every input whose marking was written or has lost
its match is logged while it is marked without one (R241). DEDUCED: notes/assumptions/74.md. -/
def State.pairMarked (s : State) (ks : List Nat) : State :=
  let was := (upto 80).filter fun k => s.bit (snPaired k) || ks.contains k
  let s := s.pairUpdate
  (was.filter fun k => s.bit (snMarked k) && !s.bit (snPaired k)).foldl (fun s k => s.log 8 .pairSuspect 0 [k]) s

/-! ### Leak channels (R245 to R249) -/

/-- A leak channel's record: rope k at k, point j at 16 + j. -/
def State.lkCh (s : State) (k : Nat) : LkCh := tget {} s.sn.lk k

/-- A leak channel's record set. -/
def State.setLkCh (s : State) (k : Nat) (x : LkCh) : State := s.onSn fun y => { y with lk := tset {} y.lk k x }

/-- STATE of a leak channel. -/
def lkState (k : Nat) : RF := if k < 16 then LK_ROPESTAT_STATE k else LK_PTSTAT_STATE (k - 16)

/-- WET_COUNT of a leak channel. -/
def lkCount (k : Nat) : RF := if k < 16 then LK_ROPESTAT_WET_COUNT k else LK_PTSTAT_WET_COUNT (k - 16)

/-- LOC_RES of a leak channel. -/
def lkLoc (k : Nat) : RF := if k < 16 then LK_ROPESTAT_LOC_RES k else LK_PTSTAT_LOC_RES (k - 16)

/-- ENABLE of a leak channel. -/
def lkEnable (k : Nat) : RF := if k < 16 then LK_ROPECFG_ENABLE k else LK_PTCFG_ENABLE (k - 16)

/-- A wet sample (R245). -/
def State.lkWet (s : State) (ohm : Nat) : Bool := decide (ohm < 1000 * clampNat 1 100 (s.rd LK_WET))

/-- A break (R245): for a rope from its loop resistance, for a point from its resistance. -/
def State.lkBreak (s : State) (k ohm loop : Nat) : Bool :=
  if k < 16 then
    decide (24 * (min (s.rd (LK_ROPECFG_LENGTH k)) 6000 * clampNat 10 50 (s.rd (LK_ROPECFG_OHM_M k))) < 1000 * loop) ||
      decide (10000 < loop)
  else decide (1000000 < ohm)

/-- A leak confirmed (R247, R248): CONFIRMED, the trip input, the log record, the leak doorbell, the isolation asked
for. -/
def State.confirmLeak (s : State) (k loc : Nat) : State :=
  let s := (s.wr (lkState k) 2).wr (lkLoc k) (min loc 65535)
  let s := s.setLkCh k { s.lkCh k with confirmedAt := some s.time, brkReported := false, drySince := none }
  let s := (s.setTmInput (16 + k) true).note 9 .leakConfirmed 2 [k, s.leakRack k] 193
  s.askIsolate (s.leakRack k)

/-- A wet sample counted (R247). -/
def State.wetSample (s : State) (k loc : Nat) : State :=
  let n := min (s.rd (lkCount k) + 1) 3
  let s := s.wr (lkCount k) n
  let st := s.rd (lkState k)
  if st = 2 then s
  else if n = 3 then s.confirmLeak k loc
  else if st = 3 then s
  else s.wr (lkState k) 1

/-- Three break samples in a row: BREAK, or its report in CONFIRMED (R247). -/
def State.breakSeen (s : State) (k : Nat) : State :=
  let st := s.rd (lkState k)
  if st = 2 then
    if (s.lkCh k).brkReported then s
    else (s.setLkCh k { s.lkCh k with brkReported := true }).note 9 .leakBreak 1 [k] 194
  else if st = 3 then s
  else (s.wr (lkState k) 3).note 9 .leakBreak 1 [k] 194

/-- A dry or break sample (R247). -/
def State.notWetSample (s : State) (k : Nat) : State :=
  let s := s.wr (lkCount k) 0
  if s.rd (lkState k) = 1 then s.wr (lkState k) 0 else s

/-- Three samples that are no break end BREAK (R247). -/
def State.breakOver (s : State) (k : Nat) (wet : Bool) : State :=
  if s.rd (lkState k) = 3 ∧ 3 ≤ (s.lkCh k).notBrk then s.wr (lkState k) (b2n wet) else s

/-- A point's resistance as LOC_RES gives it: in 100 Ω, 0xFFFF above 6.5 MΩ (R252). -/
def pointRes (ohm : Nat) : Nat := if 6500000 < ohm then 0xFFFF else ohm / 100

/-- What a sample measures, as the registers show it (R252). -/
def State.leakMeasure (s : State) (k ohm loc : Nat) : State :=
  if k < 16 then (s.wr (LK_ROPELIVE_SHUNT k) (min (ohm / 100) 65535)).wr (LK_ROPELIVE_LIVE k) (min loc 65535)
  else (s.putBit (LK_PTSTAT_SHORT (k - 16)) (decide (ohm < 100))).wr (lkLoc k) (pointRes ohm)

/-- One sample of a leak channel: the shunt or point resistance in Ω, a rope's loop resistance in Ω and its location in
0.01 m (R245, R247). DEDUCED: notes/assumptions/74.md. -/
def State.leakSample (s : State) (k ohm loop loc : Nat) : State :=
  let s := if s.rd (lkState k) = 4 then (s.wr (lkState k) 0).wr (lkCount k) 0 else s
  let wet := s.lkWet ohm
  let brk := s.lkBreak k ohm loop && !wet
  let at_ := if s.lkBreak k ohm loop then 0xFFFF else loc
  let x := s.lkCh k
  let good := if brk then 0 else x.notBrk + 1
  let s := s.setLkCh k { x with brk := if brk then x.brk + 1 else 0, notBrk := good,
                                brkReported := x.brkReported && decide (good < 3),
                                drySince := if wet || brk then none else some (x.drySince.getD s.time),
                                at_ := some s.time }
  let s := s.leakMeasure k ohm at_
  let s := if wet then s.wetSample k (if k < 16 then at_ else pointRes ohm) else s.notWetSample k
  let s := if 3 ≤ (s.lkCh k).brk then s.breakSeen k else s
  s.breakOver k wet

/-- LEAK_SAMPLE: every 20 ms, rope k or point k − 16. A STANDBY confirms on forwarded samples; its own samples feed only
the measured values (R248, R327). DEDUCED: notes/assumptions/40.md. -/
def execLeakSample (k : Fin 32) (ohm loop loc : Nat) (s : State) : Host.Outcome State Fault Refusal :=
  .next (if ¬ s.bit (lkEnable k) then s
    else if s.sys.role = .standby then s.leakMeasure k ohm (if s.lkBreak k ohm loop then 0xFFFF else loc)
    else s.leakSample k ohm loop loc)

/-- A leak channel disabled: STATE 4, no count, its trip input off (R252). -/
def State.leakOff (s : State) (k : Nat) : State :=
  (((s.wr (lkState k) 4).wr (lkCount k) 0).setLkCh k {}).setTmInput (16 + k) false

/-- LK_ACK_WRITE: a CONFIRMED channel that has sampled dry for 10 s is released (R247). -/
def execLkAckWrite (k : Fin 32) (s : State) : Host.Outcome State Fault Refusal :=
  if s.rd (lkState k) = 2 ∧ s.since (s.lkCh k).drySince (secs 10) then
    let s := ((s.wr (lkState k) 0).wr (lkCount k) 0).setTmInput (16 + k) false
    .next ((s.setLkCh k { s.lkCh k with confirmedAt := none, brkReported := false }).log 9 .leakAck 0 [(k : Nat)])
  else .next s

/-! ### The module's own cold plate (R251, R450) -/

/-- A tenth as binary32. -/
def tenths (n : Nat) : F32 := f32OfRat n 10

/-- CP_LOSS raised: the trip input, the log record and doorbell, SURVIVAL (R251, R20). -/
def State.cpLossOn (s : State) : State :=
  if s.bit SN_CPSTAT_CP_LOSS then s
  else (((s.putBit SN_CPSTAT_CP_LOSS true).setTmInput 1 true).note 15 .coldPlate 2 [] 199).enterSurvival

/-- CP_LOSS ended. -/
def State.cpLossOff (s : State) : State :=
  ((s.putBit SN_CPSTAT_CP_LOSS false).setTmInput 1 false).onSys fun y => { y with heldColdPlate := false }

/-- CP_LOW as evaluated, with the time it has been clear (R450). -/
def State.cpLow (s : State) (b : Bool) : State :=
  let s' := (s.putBit SN_CPSTAT_CP_LOW b).onSn fun y =>
    { y with lowClear := if b then none else some (y.lowClear.getD s.time) }
  if b && !s.bit SN_CPSTAT_CP_LOW then s'.note 15 .coldPlate 1 [] 199 else s'

/-- The evaluation with a sound flow sensor. -/
def State.cpFlowEval (s : State) (flow tin : F32) : State :=
  let n := if flt flow (tenths 3) then s.sn.cpLoss + 1 else 0
  let s := s.onSn fun y => { y with cpLoss := min n 5, cpRise := 0, cpLowRise := 0 }
  let s := if 5 ≤ n then s.cpLossOn else if n = 0 then s.cpLossOff else s
  let low := (fle (tenths 3) flow && flt flow (tenths 8)) || flt (f32OfInt 45) tin
  let ok := fle (tenths 8) flow && fle tin (f32OfInt 45)
  (s.cpLow low).onSn fun y => { y with cpOk := if ok then some (y.cpOk.getD s.time) else none }

/-- The evaluation with a failed flow sensor. -/
def State.cpRiseEval (s : State) (tin tout : F32) : State :=
  let d := fsub tout tin
  let n := if fle (f32OfInt 15) d then s.sn.cpRise + 1 else 0
  let warm := flt (f32OfInt 45) tin || fle (tenths 75) d
  let m := if warm then s.sn.cpLowRise + 1 else 0
  let s := s.onSn fun y => { y with cpLoss := 0, cpRise := min n 5, cpLowRise := min m 5 }
  let s := if 5 ≤ n then s.cpLossOn else if n = 0 then s.cpLossOff else s
  let s := if 5 ≤ m then s.cpLow true else if m = 0 then s.cpLow false else s
  let ok := flt d (tenths 75) && fle tin (f32OfInt 45)
  s.onSn fun y => { y with cpOk := if ok then some (y.cpOk.getD s.time) else none }

/-- The condensation sensor (R251). -/
def State.cpCondense (s : State) (b : Bool) : State :=
  let s' := s.putBit SN_CPSTAT_CONDENSATION b
  if b && !s.bit SN_CPSTAT_CONDENSATION then s'.note 15 .condensation 1 [] 199 else s'

/-- CP_EVALUATION: every 10 ms: flow in L/min, inlet and outlet in °C, whether the flow sensor has failed,
condensation. DEDUCED: notes/assumptions/40.md. -/
def execCpEvaluation (flow tin tout : BitVec 32) (failed wet : Bool) (s : State) : Host.Outcome State Fault Refusal :=
  let s := ((s.wrf SN_CPFLOW flow).wrf SN_CPTIN tin).wrf SN_CPTOUT tout
  let s := ((s.putBit SN_CPSTAT_VALID true).putBit SN_CPSTAT_SENSOR_FAIL failed).onSn fun y => { y with cpAt := some s.time }
  let s := if failed then s.cpRiseEval tin tout else s.cpFlowEval flow tin
  .next (s.cpCondense wet)

/-- SURVIVAL_EXIT: the flow in range for 10 s (R20). -/
def execSurvivalExit (s : State) : Host.Outcome State Fault Refusal :=
  .next (if s.sys.mode = .survival ∧ s.since s.sn.cpOk (secs 10) then s.leaveSurvival else s)

/-- DERATE_START: at the first boundary after CP_LOW, IDLE is set and a rotation is aborted (R450). -/
def execDerateStart (s : State) : Host.Outcome State Fault Refusal :=
  .next (if s.bit SN_CPSTAT_CP_LOW ∧ ¬ s.sn.derated then
      ((s.rotAbort.onSn fun y => { y with derated := true }).trMode).log 2 .derate 1 []
    else s)

/-- DERATE_END: CP_LOW clear for 10 s, IDLE is cleared at the next boundary (R450). -/
def execDerateEnd (s : State) : Host.Outcome State Fault Refusal :=
  .next (if s.sn.derated ∧ ¬ s.bit SN_CPSTAT_CP_LOW ∧ s.since s.sn.lowClear (secs 10) then
      ((s.onSn fun y => { y with derated := false }).trMode).log 2 .derate 0 []
    else s)

/-! ### Streams (R244, R272) -/

/-- The period of a field stream. -/
def streamPeriod (k : Nat) : Nat :=
  if k = 2 ∨ k = 4 then msec 1 else if k = 5 then msec 20 else if k < 4 then msec 10 else 0

/-- A point channel's two bits in stream 5. -/
def State.pointBits (s : State) (j : Nat) : Nat :=
  match s.rd (LK_PTSTAT_STATE j) with
  | 0 => 0
  | 1 => 1
  | 2 => 1
  | 3 => 2
  | _ => 3

/-- Words 2 on of a field stream's packet. -/
def State.streamWords (s : State) (k : Nat) (samples : List Nat) : List Nat :=
  match k with
  | 0 => (upto 24).map fun n => wrapInt 32 (s.snIn n).uncorr
  | 1 => (upto 24).map fun n => wrapInt 32 (s.snIn (24 + n)).uncorr
  | 2 => (upto 24).map fun n => s.rd (SN_MAVAL n)
  | 3 => (upto 8).map fun n => s.rd (SN_PIFREQ n)
  | 4 => [s.rd SN_DIN]
  | 5 => (upto 16).map (fun n => s.rd (LK_ROPESTAT n)) ++ [(upto 16).foldl (fun w j => w + s.pointBits j * 4 ^ j) 0]
  | _ => samples.take 30

/-- The trace of stream 17 runs: the channel named in SV_TRACE within 80 ms of its switch-on (R272). -/
def State.traceRuns (s : State) : Bool :=
  s.bit SV_TRACE_EN && s.since (s.svCh (s.rd SV_TRACE_CH)).traceAt 0 && !s.since (s.svCh (s.rd SV_TRACE_CH)).traceAt (msec 80)

/-- When the first sample of a packet was taken (R206): the first input's conversion or report, and for the trace the
first of samples taken every 4 µs. DESIGN CHOICE: notes/assumptions/50.md. -/
def State.streamStamp (s : State) (k : Nat) (samples : List Nat) : Nat :=
  match k with
  | 0 => (s.snIn 0).at_.getD s.time
  | 1 => (s.snIn 24).at_.getD s.time
  | 2 => (s.snIn 48).at_.getD s.time
  | 3 => (s.snIn 72).at_.getD s.time
  | 4 => (s.snIn 80).at_.getD s.time
  | 5 => (s.lkCh 0).at_.getD s.time
  | _ => s.time - (2 * (samples.take 30).length - 1) * usec 4

/-- FIELD_STREAM_PUBLISH: streams 0 to 5 at their rates from the inputs; stream 17 with the samples given, two to a
word. Where the part is not the whole packet, the die stops within the packet, which stays in assembly (R198). Stream 16 is published by the
valve events themselves. -/
def execFieldStreamPublish (k : Fin 18) (p : StreamPart) (s : State) : Host.Outcome State Fault Refusal :=
  let due := match tfind s.sn.streams k with
    | some t => decide (t + streamPeriod k ≤ s.time)
    | none => true
  .next (if ((k : Nat) < 6 ∧ due = true) ∨ ((k : Nat) = 17 ∧ s.traceRuns = true) then
      let t := s.onSn fun y => { y with streams := tinsert y.streams k s.time }
      if p.whole then t.publishAt k (s.streamStamp k p.samples) (s.streamWords k p.samples) else t.beginPacket k
    else s)

end Sys2Proof.Machine
end

