-- ==== Sys2Proof/Machine/Flags.lean ====
section
/-! DEFINITION. Conditions and status of the tiles: predicates (R93), condition codes (R104, R129) and the m7 bits
(R120). -/

namespace Sys2Proof.Machine

/-- A predicate register: p0 reads as 1 (R94). -/
def Tile.pred (x : Tile) (n : Nat) : Bool := if n = 0 then true else bitOf x.p n

/-- The predicate condition of an operation (R93): PRED in [119:116], NEG in [115]. -/
def Tile.predHolds (x : Tile) (w : Nat) : Bool := x.pred (bitsOf w 119 116) != bitOf w 115

/-- A condition code on integers of `n` bits (R104): 0 EQ, 1 NE, 2 LT, 3 LE signed, 4 LTU, 5 LEU unsigned. -/
def ccInt (n cc a b : Nat) : Bool :=
  let u := a % 2 ^ n
  let v := b % 2 ^ n
  match cc with
  | 0 => u == v
  | 1 => u != v
  | 2 => decide (signedOf n u < signedOf n v)
  | 3 => decide (signedOf n u ≤ signedOf n v)
  | 4 => decide (u < v)
  | 5 => decide (u ≤ v)
  | _ => false

/-- A condition code on binary32 (R104): EQ, LT and LE are false on NaN, NE true, LTU and LEU "or unordered". -/
def ccFloat (cc : Nat) (a b : F32) : Bool :=
  let un := fisNaN a || fisNaN b
  match cc with
  | 0 => feq a b
  | 1 => !feq a b
  | 2 => flt a b
  | 3 => fle a b
  | 4 => un || flt a b
  | 5 => un || fle a b
  | _ => false

/-- A lane mask: all ones where the condition holds (R111). -/
def laneMask (b : Bool) : Word := if b then 0xFFFFFFFF else 0

/-- Bits of m7 set by the hardware in the present cycle (R8, R120). -/
def Tile.sets (x : Tile) (n : Nat) : Tile := { x with m7 := x.m7 ||| n, m7set := x.m7set ||| n }

/-- ILL set in m7 (R92). -/
def Tile.ill (x : Tile) : Tile := x.sets 1

/-- HAZ set in m7 (R107). -/
def Tile.haz (x : Tile) : Tile := x.sets 2

/-- SENDQ set in m7 (R116). -/
def Tile.sendqFull (x : Tile) : Tile := x.sets 4

/-- ISAT of m4 (R112). -/
def Tile.isat (x : Tile) : Bool := bitOf x.m4 0

/-- An INT32 result wrapped, or saturated under ISAT (R112). -/
def int32Result (sat : Bool) (i : Int) : Word :=
  BitVec.ofNat 32 (wrapInt 32 (if sat then clampInt (-2147483648) 2147483647 i else i))

end Sys2Proof.Machine
end

