-- ==== Sys2Proof/Machine/Operands.lean ====
section
/-! DEFINITION. Operands of the tile operations: slot words and operand forms (R91, R104), registers (R94), memory
addresses (R100, R102), the inbound channels (R113), and which operations exist (R92). -/

namespace Sys2Proof.Machine

/-! ### Fields of a slot (R91, R104) -/

/-- The opcode, [127:120]. -/
def opOf (w : Nat) : Nat := bitsOf w 127 120
/-- D of forms R, I, M, C and S. -/
def fD (w : Nat) : Nat := bitsOf w 114 109
/-- A of forms R, I and J; BASE of form M. -/
def fA (w : Nat) : Nat := bitsOf w 108 103
/-- B of form R. -/
def fB (w : Nat) : Nat := bitsOf w 102 97
/-- C of form R. -/
def fC (w : Nat) : Nat := bitsOf w 96 91
/-- CC of forms R and I. -/
def fCC (w : Nat) : Nat := bitsOf w 90 88
/-- LANE of form R. -/
def fLane (w : Nat) : Nat := bitsOf w 87 83
/-- IMM of form I. -/
def fImm64 (w : Nat) : Nat := bitsOf w 63 0
/-- TARGET of form J. -/
def fTarget (w : Nat) : Nat := bitsOf w 10 0
/-- AMODE of form M. -/
def fAmode (w : Nat) : Nat := bitsOf w 102 101
/-- PINC of form M. -/
def fPinc (w : Nat) : Bool := bitOf w 100
/-- SEL of form M. -/
def fSel (w : Nat) : Nat := bitsOf w 99 96
/-- IMM of form M. -/
def fImmM (w : Nat) : Nat := bitsOf w 95 81
/-- INC of form M, signed. -/
def fInc (w : Nat) : Int := signedOf 16 (bitsOf w 79 64)
/-- CH of form S. -/
def fCh (w : Nat) : Nat := bitsOf w 108 106

/-! ### Registers (R94) -/

/-- An s register: s0 reads as 0. -/
def Tile.sreg (x : Tile) (n : Nat) : Nat := if n = 0 then 0 else tget 0 x.s n

/-- A vector of 32 zero lanes. -/
def zeroV : List Word := List.replicate 32 0

/-- A v register: 32 lanes. -/
def Tile.vreg (x : Tile) (n : Nat) : List Word := tget zeroV x.v n

/-- Lane `i` of a v register. -/
def Tile.lane (x : Tile) (n i : Nat) : Word := (x.vreg n).getD i 0

/-- An accumulator of zeros. -/
def zeroA : List (List Word) := List.replicate 32 zeroV

/-- An accumulator: 32 rows of 32 columns. -/
def Tile.accum (x : Tile) (n : Nat) : List (List Word) := tget zeroA x.a n

/-- An SRAM line of 64 bytes. -/
def Tile.line (x : Tile) (n : Nat) : List Byte := tget (zeros 64) x.sram (n % 32768)

/-- m1: send queue length, declared channels, channels with a complete head (R120). DESIGN CHOICE:
notes/assumptions/95.md. -/
def Tile.m1 (x : Tile) : Nat :=
  let declI := x.inCh.foldl (fun n p => n + 2 ^ (p.1 % 8)) 0
  let declO := x.outCh.foldl (fun n p => n + 2 ^ (p.1 % 8)) 0
  let heads := x.inCh.foldl (fun n p => if p.2.msgs.isEmpty then n else n + 2 ^ (p.1 % 8)) 0
  x.sendQ.length * 2 ^ 24 + declO * 2 ^ 16 + declI * 2 ^ 8 + heads

/-- An m register (R120). -/
def Tile.mreg (x : Tile) (n : Nat) : Nat :=
  match n with
  | 0 => x.m0
  | 1 => x.m1
  | 2 => x.m2
  | 3 => x.m3
  | 4 => x.m4
  | 5 => x.m5
  | 7 => x.m7
  | _ => 0

/-- m0.SENT. -/
def Tile.sent (x : Tile) : Bool := bitOf x.m0 15
/-- m0.BUNCH. -/
def Tile.bunch (x : Tile) : Nat := bitsOf x.m0 14 8
/-- m0.FRAME8. -/
def Tile.frame8 (x : Tile) : Nat := bitsOf x.m0 7 0
/-- STATE_BASE of m2. -/
def Tile.stateBase (x : Tile) : Nat := bitsOf x.m2 14 0
/-- STATE_STRIDE of m2. -/
def Tile.stride (x : Tile) : Nat := bitsOf x.m2 24 16
/-- SENT_BASE of m2. -/
def Tile.sentBase (x : Tile) : Nat := bitsOf x.m2 46 32
/-- PLANT_BASE of m3. -/
def Tile.plantBase (x : Tile) : Nat := bitsOf x.m3 14 0
/-- The plant vector is declared, m3 [15]. -/
def Tile.plantOn (x : Tile) : Bool := bitOf x.m3 15
/-- SENT_PLANT of m3. -/
def Tile.sentPlant (x : Tile) : Nat := bitsOf x.m3 30 16

/-! ### Memory addresses (R100, R102) -/

/-- The line address of a memory operand (R100). -/
def Tile.memLine (x : Tile) (w : Nat) : Nat :=
  let base := x.sreg (fA w) % 32768 + fImmM w
  (match fAmode w with
    | 1 => if x.sent then x.sentBase + base else x.stateBase + x.bunch * x.stride + base
    | 2 => if x.sent then x.sentPlant + base else x.plantBase + 16 * (x.frame8 % 2) + base
    | _ => base) % 32768

/-- A line lies in the context-state region (R102). -/
def Tile.inState (x : Tile) (n : Nat) : Bool := decide ((n + 32768 - x.stateBase) % 32768 < 128 * x.stride)

/-! ### Which operations exist (R92, R104) -/

/-- The memory operand's address mode exists (R100, R120). -/
def Tile.modeLegal (x : Tile) (w : Nat) : Bool :=
  match fAmode w with
  | 0 => true
  | 1 => x.stride != 0
  | 2 => x.plantOn
  | _ => false

/-- A scalar operation and its registers exist (R105). -/
def scLegal (w : Nat) : Bool :=
  let o := opOf w
  if o ≤ 0x0B then decide (1 ≤ o)
  else if o = 0x18 ∨ o = 0x19 then decide (fD w < 16 ∧ fCC w < 6)
  else if o = 0x1A ∨ o = 0x1B ∨ o = 0x1C then decide (fD w < 16 ∧ fA w < 16 ∧ fB w < 16)
  else if o = 0x1D then decide (fD w < 16 ∧ fA w < 16)
  else if o = 0x20 then decide (fA w < 8)
  else if o = 0x21 then decide (fD w < 8)
  else if o = 0x22 then decide (fA w < 32)
  else o == 0x11 || o == 0x12 || o == 0x13 || o == 0x30 || o == 0x31 || o == 0x32 || o == 0x3F

/-- A load or store and its registers exist (R106). -/
def Tile.lsLegal (x : Tile) (w : Nat) : Bool :=
  let o := opOf w
  if o = 0x05 ∨ o = 0x0C then x.modeLegal w
  else if o = 1 ∨ o = 2 ∨ o = 3 ∨ o = 4 ∨ o = 9 ∨ o = 0x0A ∨ o = 0x0B then decide (fD w < 32) && x.modeLegal w
  else false

/-- An accumulator operation and its registers exist (R110). DESIGN CHOICE: notes/assumptions/95.md. -/
def acLegal (w : Nat) : Bool :=
  decide (1 ≤ opOf w ∧ opOf w ≤ 5 ∧ fD w < 32) &&
    (bitOf w 79 || ((!bitOf w 83 || decide (bitsOf w 95 90 < 32)) && (!bitOf w 82 || decide (bitsOf w 89 84 < 32))))

/-- A vector operation and its registers exist (R111). DESIGN CHOICE: notes/assumptions/95.md. -/
def vLegal (w : Nat) : Bool :=
  let o := opOf w
  let d := decide (fD w < 32)
  let a := decide (fA w < 32)
  let b := decide (fB w < 32)
  if (1 ≤ o ∧ o ≤ 0x0B) ∨ o = 0x11 ∨ (0x20 ≤ o ∧ o ≤ 0x22) ∨ o = 0x24 ∨ o = 0x25 then d && a && b
  else if o = 0x0C ∨ o = 0x28 then d && a && b && decide (fCC w < 6)
  else if o = 0x0D ∨ o = 0x23 then d && a && b && decide (fC w < 32)
  else if o = 0x0F ∨ o = 0x10 then d
  else if o = 0x12 then decide (fD w < 16) && a
  else if o = 0x0E ∨ o = 0x13 ∨ o = 0x26 ∨ o = 0x27 ∨ (0x29 ≤ o ∧ o ≤ 0x2B) ∨ o = 0x30 ∨ o = 0x31 ∨
      (0x40 ≤ o ∧ o ≤ 0x44) then d && a
  else false

/-- A stream operation and its channel exist (R113, R115). -/
def Tile.stLegal (x : Tile) (w : Nat) : Bool :=
  let o := opOf w
  let inOk := (tfind x.inCh (fCh w)).isSome
  if o = 1 ∨ o = 2 then inOk
  else if o = 3 then (tfind x.outCh (fCh w)).isSome
  else if o = 4 then inOk && decide (fD w < 16)
  else o == 8

/-- The operation of a slot exists, with its registers, condition code, address mode and channel (R92). -/
def Tile.legal (x : Tile) (slot w : Nat) : Bool :=
  match slot with
  | 0 => scLegal w
  | 1 | 2 => x.lsLegal w
  | 3 => decide ((1 ≤ opOf w ∧ opOf w ≤ 6) ∨ opOf w = 8)
  | 4 => acLegal w
  | 5 | 6 => vLegal w
  | _ => x.stLegal w

end Sys2Proof.Machine
end

