-- ==== Sys2Proof/Machine/Tiles.lean ====
section
/-! DEFINITION. The clock of a tile (spec 04): pending writes, the matrix unit, the send engine, the receive buffers, and
the arithmetic of the operations. -/

namespace Sys2Proof.Machine

/-! ### Writes (R95, R96, R101) -/

/-- A list with some elements replaced: number and value. -/
def putAt {α : Type} (l : List α) (ps : List (Nat × α)) : List α := ps.foldl (fun l p => l.set p.1 p.2) l

/-- An m register written by MOVTM or RCV under its access rules (R120): m7 bits clear by writing 1, but for those set
in that cycle (R8). -/
def Tile.putM (x : Tile) (n v : Nat) : Tile :=
  match n with
  | 0 => { x with m0 := v % 65536 }
  | 4 => { x with m4 := v % 2 }
  | 7 => { x with m7 := (x.m7 &&& (7 - v % 8)) ||| x.m7set }
  | _ => x

/-- One write takes effect. -/
def Tile.apply (x : Tile) (w : TWrite) : Tile :=
  match w with
  | .sreg n v => if n = 0 then x else { x with s := tset 0 x.s n (v % 2 ^ 64) }
  | .vreg n ls => { x with v := tset zeroV x.v n (putAt (x.vreg n) ls) }
  | .preg n b => if n = 0 then x else { x with p := withBits x.p n n (b2n b) }
  | .mreg n v => x.putM n v
  | .acc n rows => { x with a := tset zeroA x.a n rows }
  | .line n bs => { x with sram := tset (zeros 64) x.sram n (putAt (x.line n) bs) }

/-- The writes due at the start of cycle `c`, of one slot, in issue order. -/
def duePend (ps : List TPend) (c slot : Nat) : List TPend := ps.filter fun p => decide (p.due ≤ c) && p.slot == slot

/-- Every write due takes effect: the higher-numbered slot last, the later-issued last within a slot (R96). -/
def Tile.settle (x : Tile) : Tile :=
  let due := (upto 9).flatMap (duePend x.pend x.cyc)
  { due.foldl (fun x p => x.apply p.w) x with pend := x.pend.filter fun p => decide (x.cyc < p.due) }

/-- A register write of latency L (R95). DEDUCED: notes/assumptions/79.md. -/
def Tile.later (x : Tile) (slot lat : Nat) (w : TWrite) : Tile :=
  { x with pend := x.pend ++ [{ due := x.cyc + lat, slot := slot, w := w }] }

/-- A result in an s register. -/
def Tile.toS (x : Tile) (slot lat n v : Nat) : Tile := x.later slot lat (.sreg n (v % 2 ^ 64))

/-- A result in every lane of a v register. -/
def Tile.toV (x : Tile) (slot lat n : Nat) (l : List Word) : Tile :=
  x.later slot lat (.vreg n ((upto 32).map fun i => (i, l.getD i 0)))

/-- A store of some bytes of a line, visible 2 cycles later; discarded into the context-state region while m0.SENT is
1 (R101, R102). -/
def Tile.toLine (x : Tile) (slot n : Nat) (bs : List (Nat × Byte)) : Tile :=
  if x.sent ∧ x.inState n then x else x.later slot 2 (.line n bs)

/-- The post-increment of a memory operand's base register (R104 PINC). -/
def Tile.postInc (x : Tile) (slot w : Nat) : Tile :=
  if fPinc w then x.toS slot 1 (fA w) (wrapInt 64 ((x.sreg (fA w) : Int) + fInc w)) else x

/-! ### The matrix unit (R107 to R109, R124, R125) -/

/-- Occupancy of a matrix operation (R107). -/
def mxOcc (op : Nat) : Nat :=
  match op with
  | 1 => 32 | 2 => 16 | 3 => 64 | 4 => 32 | 5 => 16 | 6 => 32 | _ => 1

/-- Lines of the A operand (R108). -/
def mxALines (op : Nat) : Nat :=
  match op with
  | 3 => 32 | 5 => 8 | 8 => 0 | _ => 16

/-- Lines of the B operand (R108). -/
def mxBLines (op : Nat) : Nat :=
  match op with
  | 2 => 8 | 3 => 32 | 5 => 8 | 8 => 0 | _ => 16

/-- The reads of one matrix operation in the present cycle (R109). -/
def Tile.mxRead (x : Tile) (m : MxOp) : MxOp :=
  let k := x.cyc - m.issue
  let m := if k = 0 then { m with scale := x.line m.sLine } else m
  let m := if k < mxALines m.op then { m with aRead := m.aRead ++ [x.line (m.aLine + k)] } else m
  let m := if k < mxBLines m.op then { m with bRead := m.bRead ++ [x.line (m.bLine + k)] } else m
  if k = mxOcc m.op ∧ ¬ m.z ∧ m.op ≠ 8 then { m with accRead := some (x.accum m.acc) } else m

/-- The cycle at whose start an operation's result is visible (R107, R109). -/
def MxOp.due (m : MxOp) : Nat := m.issue + (if m.op = 8 then 2 else mxOcc m.op + 4)

/-- The result to write next (R109): of the operations whose write is due, the one due first, and of two due together
the one issued first (R96). -/
def Tile.mxDue (x : Tile) : Option MxOp :=
  (x.mx.filter fun m => decide (m.due ≤ x.cyc)).foldl (fun o m =>
    match o with
    | some b => if m.due < b.due then some m else some b
    | none => some m) none

/-- Element `k` of row `i` of an operand whose elements are `bits` wide (R108). -/
def operandBits (ls : List (List Byte)) (bits i k : Nat) : Nat :=
  match bits with
  | 8 => (((ls.getD (i / 2) []).getD (32 * (i % 2) + k) 0).toNat)
  | 4 => let b := ((ls.getD (i / 4) []).getD (16 * (i % 4) + k / 2) 0).toNat
    if k % 2 = 0 then b % 16 else b / 16
  | _ => fieldLE (ls.getD i []) (2 * k) 2

/-- The exact value of an element of an operand (R122): `f` is 0 for E4M3, 1 for E5M2. DESIGN CHOICE:
notes/assumptions/11.md. -/
def mxElem (op f : Nat) (ls : List (List Byte)) (i k : Nat) : FV :=
  match op with
  | 3 => unpackBF16 (operandBits ls 16 i k)
  | 4 =>
    let b := operandBits ls 8 i k
    if f = 0 then unpackE4M3 b else if f = 1 then unpackE5M2 b else unpackF32 (Config.reservedElem f b)
  | 5 => unpackE2M1 (operandBits ls 4 i k)
  | _ => unpackMI8 (operandBits ls 8 i k)

/-- The block scale in a byte of the scale line, as an exact value; 0xFF is NaN (R122, R125). -/
def mxScale (line : List Byte) (i : Nat) : FV :=
  let e := (line.getD i 0).toNat
  if e = 255 then .nan else .fin false 1 ((e : Int) - 127)

/-- One element of the integer product, exact (R124). -/
def mxIntSum (m : MxOp) (i j : Nat) : Int :=
  (upto 32).foldl (fun n k =>
    let b := if m.op = 2 then signedOf 4 (operandBits m.bRead 4 j k) else signedOf 8 (operandBits m.bRead 8 j k)
    n + signedOf 8 (operandBits m.aRead 8 i k) * b) 0

/-- One element of the floating product: the exact sum of 32 exact products, rounded once (R125). DESIGN CHOICE:
notes/assumptions/95.md. -/
def mxFloatSum (m : MxOp) (i j : Nat) : F32 :=
  let sum := (upto 32).foldl (fun v k => v.add ((mxElem m.op m.fa m.aRead i k).mul (mxElem m.op m.fb m.bRead j k))) (fvInt 0)
  packF32 (if m.op = 3 then sum else (sum.mul (mxScale m.scale i)).mul (mxScale m.scale (32 + j)))

/-- One element of a matrix operation's result (R124, R125). -/
def mxResult (m : MxOp) (old : List (List Word)) (i j : Nat) : Word :=
  let c := (old.getD i []).getD j 0
  if m.op ≤ 2 then BitVec.ofNat 32 (wrapInt 32 ((if m.z then 0 else (c.toNat : Int)) + mxIntSum m i j))
  else if m.z then mxFloatSum m i j else fadd c (mxFloatSum m i j)

/-- The accumulator a matrix operation writes (R107, R109). -/
def mxRows (m : MxOp) : List (List Word) :=
  if m.op = 8 then zeroA
  else (upto 32).map fun i => (upto 32).map fun j => mxResult m (m.accRead.getD zeroA) i j

/-- A matrix operation writes its whole accumulator (R109). -/
def Tile.mxWrite (x : Tile) (m : MxOp) : Tile := { x.apply (.acc m.acc (mxRows m)) with mx := x.mx.filter (· != m) }

/-- Every result due is written, in order; `n` bounds them. -/
def Tile.mxSettle : Nat → Tile → Tile
  | 0, x => x
  | n + 1, x =>
    match x.mxDue with
    | some m => (x.mxWrite m).mxSettle n
    | none => x

/-- A matrix operation issued, or HAZ while the unit is busy (R107). -/
def Tile.mxIssue (x : Tile) (w : Nat) : Tile :=
  if x.cyc < x.mxFree then x.haz
  else
    let op := opOf w
    let at_ (r off : Nat) : Nat := (x.sreg r % 32768 + off) % 32768
    let m : MxOp := { op := op, acc := bitsOf w 114 113, z := bitOf w 112, fa := bitsOf w 111 110, fb := bitsOf w 109 108,
                      aLine := at_ (bitsOf w 107 102) (bitsOf w 101 87),
                      bLine := at_ (bitsOf w 86 81) (bitsOf w 80 66),
                      sLine := at_ (bitsOf w 65 60) (bitsOf w 59 45),
                      issue := x.cyc, aRead := [], bRead := [], scale := [], accRead := none }
    { x with mx := x.mx ++ [m], mxFree := x.cyc + mxOcc op }

/-! ### The send engine (R116) -/

/-- One clock of the send engine: an idle engine starts the next message, a busy one reads its next line; a message
read whole leaves for the mesh. -/
def Tile.sendClock (x : Tile) : Tile :=
  match x.sendQ with
  | [] => { x with sending := false }
  | m :: rest =>
    let m := { m with read := m.read ++ [x.line (m.line + m.read.length)] }
    if m.count ≤ m.read.length then { x with sendQ := rest, sending := false, outbox := x.outbox ++ [m] }
    else { x with sendQ := m :: rest, sending := true }

/-! ### Receive buffers (R113, R114) -/

/-- Lines of a buffer in use. -/
def InCh.used (c : InCh) : Nat := c.msgs.foldl (fun n m => n + m.count + m.skipped) 0

/-- Where the next message would start: the line after the newest message, from the buffer's base. DESIGN CHOICE:
notes/assumptions/95.md. -/
def InCh.next (c : InCh) : Nat :=
  match c.msgs.getLast? with
  | some m => m.line - c.base + m.count
  | none => 0

/-- A message of `n` lines placed in a buffer (R114), if enough lines are free: its start and the lines skipped. -/
def InCh.place (c : InCh) (n : Nat) : Option (Nat × Nat) :=
  let p := c.next
  let skip := if c.len < p + n then c.len - p else 0
  let start := if c.len < p + n then 0 else p
  if c.used + skip + n ≤ c.len then some (c.base + start, skip) else none

/-- Lines put into a data SRAM from a line address on, each padded to 64 bytes. -/
def putRows (t : Table (List Byte)) (line : Nat) (ls : List (List Byte)) : Table (List Byte) :=
  ls.zipIdx.foldl (fun t p => tset (zeros 64) t ((line + p.2) % 32768) ((p.1 ++ zeros 64).take 64)) t

/-- Lines that Trellis control or the mesh writes into a tile: they win over a store to one of them that takes effect
in the same cycle (R101). -/
def Tile.feedLines (x : Tile) (line : Nat) (ls : List (List Byte)) : Tile :=
  let hit (n : Nat) : Bool := (upto ls.length).any fun i => (line + i) % 32768 == n
  let lost (p : TPend) : Bool := match p.w with
    | .line n _ => decide (p.due ≤ x.cyc + 1) && hit n
    | .sreg _ _ | .vreg _ _ | .preg _ _ | .mreg _ _ | .acc _ _ => false
  { x with sram := putRows x.sram line ls, pend := x.pend.filter fun p => !lost p }

/-- A message written into a receive buffer; none when it finds too few free lines (R114), or no such channel declared.
DEDUCED: notes/assumptions/80.md. DESIGN CHOICE: notes/assumptions/101.md. -/
def Tile.arrive (x : Tile) (ch tag : Nat) (ls : List (List Byte)) : Option Tile :=
  match tfind x.inCh ch with
  | none => none
  | some c =>
    match c.place ls.length with
    | none => none
    | some (start, skip) =>
      let m : TMsg := { tag := tag, line := start, count := ls.length, skipped := skip }
      some { x.feedLines start ls with inCh := tinsert x.inCh ch { c with msgs := c.msgs ++ [m] } }

/-- The head message of a channel. -/
def Tile.head (x : Tile) (ch : Nat) : Option TMsg := (tfind x.inCh ch).bind fun c => c.msgs.head?

/-- The head message of a channel released (R115 FREE). -/
def Tile.free (x : Tile) (ch : Nat) : Tile :=
  match tfind x.inCh ch with
  | some c => { x with inCh := tinsert x.inCh ch { c with msgs := c.msgs.tail } }
  | none => x

/-- The descriptor of a message (R115). -/
def TMsg.descr (m : TMsg) : Nat := m.tag * 2 ^ 32 + (m.count - 1) * 2 ^ 16 + m.line

/-! ### Issue (R95, R97, R98) -/

/-- The word of a slot of the present bundle. -/
def Tile.slotWord (x : Tile) (slot : Nat) : Nat := tget 0 x.imem (8 * x.pc + slot)

/-- The bundle's RCV has no complete message (R97). -/
def Tile.mustStall (x : Tile) : Bool :=
  let w := x.slotWord 7
  opOf w == 1 && x.predHolds w && x.stLegal w && (x.head (fCh w)).isNone

/-- A slot of the present bundle may issue now. The eight slots issue together and read at the start of the cycle; the
model takes them in slot order. -/
def Tile.mayIssue (x : Tile) (slot : Nat) : Bool :=
  !x.halted && !x.stalled && !x.mustStall && x.issued == 2 ^ slot - 1 && x.mxDue.isNone

/-- The clock edge that ends a cycle: reads of the matrix unit, then the writes (R95, R109). DEDUCED:
notes/assumptions/79.md. -/
def Tile.turn (x : Tile) : Tile :=
  let x := { x with mx := x.mx.map x.mxRead }
  { { x with cyc := x.cyc + 1 }.settle with m7set := 0 }

/-- The edge of a cycle in which the send engine runs too (R116). DEDUCED: notes/assumptions/79.md. -/
def Tile.edge (x : Tile) : Tile := x.sendClock.turn

/-- What a halted tile has under way is completed: its clock goes on while nothing issues and nothing is sent (R95,
R105); `n` bounds the cycles. -/
def Tile.drain : Nat → Tile → Tile
  | 0, x => x
  | n + 1, x => if x.pend.isEmpty ∧ x.mx.isEmpty then x else ((x.turn).mxSettle 8).drain n

/-- A slot has issued; once all eight have, the cycle ends, a taken BR or BRI costs one more, and the next bundle's
slots wait; after a HALT the results under way are written (R95, R98, R105). DEDUCED: notes/assumptions/79.md. -/
def Tile.mark (x : Tile) (slot : Nat) : Tile :=
  let x := { x with issued := x.issued ||| 2 ^ slot }
  if x.issued = 255 then
    let next := match x.branch with
      | some (t, _) => t
      | none => (x.pc + 1) % 2048
    let costs := match x.branch with
      | some (_, c) => c
      | none => false
    let y := x.edge
    let y := { y with pc := next, issued := 0, branch := none, halted := y.halting }
    if y.halted then (y.mxSettle 8).drain 72 else if costs then (y.mxSettle 8).edge else y
  else x

/-! ### Arithmetic of the accumulator slot (R110, R126, R127) -/

/-- The accumulator row an operation reads: (ROW + RBASE[4:0]) mod 32. -/
def Tile.acRow (x : Tile) (w : Nat) : Nat := (bitsOf w 106 102 + x.sreg (bitsOf w 101 96) % 32) % 32

/-- The value x of one column of a row (R110). DESIGN CHOICE: notes/assumptions/95.md. -/
def Tile.acVal (x : Tile) (w row j : Nat) : F32 :=
  let c := ((x.accum (bitsOf w 108 107)).getD row []).getD j 0
  if bitOf w 79 then c
  else
    let v := if bitOf w 80 then f32OfInt (signedOf 32 c.toNat) else c
    let v := if bitOf w 83 then fmul v (x.lane (bitsOf w 95 90) j) else v
    let v := if bitOf w 82 then fadd v (x.lane (bitsOf w 89 84) j) else v
    if bitOf w 81 ∧ flt v 0 then 0 else v

/-- The 32 values of a row. -/
def Tile.acVals (x : Tile) (w row : Nat) : List F32 := (upto 32).map (x.acVal w row)

/-- Words made of bytes, four each, least significant first. -/
def wordsOf (n : Nat) (bs : List Nat) : List Word :=
  (upto n).map fun q => BitVec.ofNat 32 (bs.getD (4 * q) 0 + 256 * bs.getD (4 * q + 1) 0 + 65536 * bs.getD (4 * q + 2) 0 +
    16777216 * bs.getD (4 * q + 3) 0)

/-- A list filled up with zero words to 32 lanes. -/
def fillV (l : List Word) : List Word := (l ++ zeroV).take 32

/-- x rounded to INT8 with saturation, as a byte (R126). -/
def int8Of (x : F32) : Nat := wrapInt 8 (f32ToIntSat (-128) 127 x)

/-- The MX block scale of a row, e_max the exponent of the format's largest normal (R127). -/
def mxScaleOf (eMax : Int) (xs : List F32) : Nat :=
  if xs.any fun x => !fisFin x then 255
  else
    let m := xs.foldl (fun m x => if flt m (fabs x) then fabs x else m) 0
    match unpackF32 m with
    | .fin _ k e => if k = 0 then 127 else (clampInt (-127) 127 ((Nat.log2 k : Int) + e - eMax) + 127).toNat
    | _ => 255

/-- The elements of an MX block: each x / 2^E rounded into the format, 0 in a NaN block and in an all-zero one (R127).
-/
def mxElems (pack : FV → Nat) (scale : Nat) (xs : List F32) : List Nat :=
  if scale = 255 ∨ xs.all (feq · 0) then xs.map fun _ => 0
  else xs.map fun x => pack ((unpackF32 x).scale (127 - (scale : Int)))

/-- 4-bit elements joined two to a byte, element 2q in the low half (R108). -/
def nibbles : Nat → List Nat → List Nat
  | 0, _ => []
  | n + 1, l => (l.getD 0 0 + 16 * l.getD 1 0) :: nibbles n (l.drop 2)

/-- BF16 of a binary32 value, its NaN canonical (R123, R126). -/
def bf16Of (x : F32) : Nat := packBF16 (unpackF32 x)

/-! ### Arithmetic of the vector slots (R111, R112, R128) -/

/-- A lane operation on v_A and v_B. -/
def Tile.lanes2 (x : Tile) (w : Nat) (f : Word → Word → Word) : List Word :=
  (upto 32).map fun i => f (x.lane (fA w) i) (x.lane (fB w) i)

/-- A lane operation on v_A. -/
def Tile.lanes1 (x : Tile) (w : Nat) (f : Word → Word) : List Word := (x.vreg (fA w)).map f

/-- The sum of lanes by a pairwise tree, lanes 2i and 2i + 1 first (R111); `n` bounds the rounds. -/
def treeSum : Nat → List F32 → F32
  | 0, l => l.headD 0
  | n + 1, l =>
    if l.length ≤ 1 then l.headD 0
    else treeSum n ((upto (l.length / 2)).map fun i => fadd (l.getD (2 * i) 0) (l.getD (2 * i + 1) 0))

/-- An extremum across lanes that ignores NaN lanes; the canonical NaN where every lane is NaN (R123, R128). -/
def acrossLanes (f : F32 → F32 → F32) (l : List F32) : F32 :=
  l.foldl (fun m x => if fisNaN x then m else if fisNaN m then x else f m x) f32NaN

/-- A subnormal taken as zero of the same sign (R131). -/
def flushSub (x : F32) : F32 := if flt (fabs x) 0x00800000 then f32Zero (fsign x) else x

/-- The least binary32 value above 88.72 (R130). -/
def expTop : F32 := 0x42B170A4

/-- The greatest binary32 value below −87.33 (R130). -/
def expBottom : F32 := 0xC2AEA8F6

/-- EXP (R130): 88.72 and −87.33 are the limits of its range; at most 2 units in the last place of error inside it.
DESIGN CHOICE: notes/assumptions/8.md. -/
def luExp (x : F32) : F32 :=
  if fisNaN x then f32NaN
  else if fle expTop x then f32Inf false
  else if fle x expBottom then 0
  else
    let e := fxExp (fxAbs (flushSub x))
    let v := if fsign x then fxOne * fxOne / e else e
    fxSigned false (fxWithin v (2 * fxUlp v) (Config.lookup 0 (flushSub x)))

/-- TANH (R130): an error of 1 unit in the last place below 0.5, of 2⁻²³ from there on. DESIGN CHOICE:
notes/assumptions/8.md. -/
def luTanh (x : F32) : F32 :=
  let y := flushSub x
  if fisNaN y then f32NaN
  else if fle (f32OfInt 9) (fabs y) then (if fsign y then 0xBF800000 else 0x3F800000)
  else if flt (fabs y) 0x39800000 then y
  else
    let e := fxExp (2 * fxAbs y)
    let v := (e - fxOne) * fxOne / (e + fxOne)
    let err := if flt (fabs y) 0x3F000000 then fxUlp v else fxOne / 2 ^ 23
    fxSigned (fsign y) (fxWithin v err (Config.lookup 1 y))

/-- SIGM (R130): an error of 2⁻²⁴ from −16 on, of 2⁻²¹ of the result below. DESIGN CHOICE: notes/assumptions/8.md. -/
def luSigm (x : F32) : F32 :=
  let y := flushSub x
  if fisNaN x then f32NaN
  else if fle (f32OfInt 17) x then 0x3F800000
  else if fle x expBottom then 0
  else
    let e := fxExp (fxAbs y)
    let v := (if fsign y then fxOne else e) * fxOne / (e + fxOne)
    let err := if flt x (fneg (f32OfInt 16)) then v / 2 ^ 21 else fxOne / 2 ^ 24
    fxSigned false (fxWithin v err (Config.lookup 2 y))

/-- RSQRT (R130): at most 1 unit in the last place of error. DESIGN CHOICE: notes/assumptions/8.md. -/
def luRsqrt (x : F32) : F32 :=
  let y := flushSub x
  if fisNaN y then f32NaN
  else if y = 0 then f32Inf false
  else if y = 0x80000000 then f32Inf true
  else if fsign y then f32NaN
  else if fisInf y then 0
  else
    let v := Nat.sqrt (fxOne * fxOne * fxOne / fxAbs y)
    fxSigned false (fxWithin v (fxUlp v) (Config.lookup 3 y))

/-- RCP (R130): beyond 2¹²⁶ the result is a zero of the same sign; at most 1 unit in the last place of error. DESIGN
CHOICE: notes/assumptions/8.md. -/
def luRcp (x : F32) : F32 :=
  let y := flushSub x
  if fisNaN y then f32NaN
  else if feq y 0 then f32Inf (fsign y)
  else if flt 0x7E800000 (fabs y) then f32Zero (fsign y)
  else
    let v := fxOne * fxOne / fxAbs y
    fxSigned (fsign y) (fxWithin v (fxUlp v) (Config.lookup 4 y))

end Sys2Proof.Machine
end

