-- ==== Sys2Proof/Machine/Images.lean ====
section
/-! DEFINITION. Trellis images in the model store (spec 05, R138 to R140) and their admission (R142 to R146). -/

namespace Sys2Proof.Machine

/-! ### The image file (R138, R139) -/

/-- One directory entry of an image. -/
structure Sect where
  typ : Nat
  stage : Nat
  target : Nat
  off : Nat
  len : Nat
deriving DecidableEq, Repr

/-- The DDR offset of an image slot of the model store (R140, R342). -/
def modelSlot (k : Nat) : Nat := 0x7000000000 + k * 0x80000000

/-- A little-endian number of `n` bytes in DDR4. -/
def State.leAt (s : State) (a n : Nat) : Nat := leNat (s.bytesAt a n)

/-- The directory of the image in a slot (R138). -/
def State.sects (s : State) (slot : Nat) : List Sect :=
  let b := modelSlot slot
  (upto (s.leAt (b + 64) 4)).map fun i =>
    let e := b + s.leAt (b + 68) 4 + 24 * i
    { typ := s.leAt e 2, stage := s.leAt (e + 2) 2, target := s.leAt (e + 4) 4, off := s.leAt (e + 8) 8,
      len := s.leAt (e + 16) 8 }

/-- The sections of one type of a stage. -/
def State.sectsOf (s : State) (slot typ stage : Nat) : List Sect :=
  (s.sects slot).filter fun d => d.typ == typ && d.stage == stage

/-- The bytes of a section. -/
def State.sectBytes (s : State) (slot : Nat) (d : Sect) : List Byte := s.bytesAt (modelSlot slot + d.off) d.len

/-- The bytes of the first section of a type of a stage. -/
def State.sectOf (s : State) (slot typ stage : Nat) : List Byte :=
  match s.sectsOf slot typ stage with
  | d :: _ => s.sectBytes slot d
  | [] => []

/-- The stage descriptor of a stage (R139). -/
def State.stageAt (s : State) (slot n : Nat) : Stage :=
  let l := s.sectOf slot 1 n
  { row := fieldLE l 0 1 % 8, col := fieldLE l 1 1 % 16, flags := fieldLE l 2 1, stateBase := fieldLE l 4 2,
    stride := fieldLE l 6 2, sentBase := fieldLE l 8 2, plantBase := fieldLE l 10 2, sentPlant := fieldLE l 12 2,
    bundles := fieldLE l 14 2, lines := fieldLE l 16 4, ii := fieldLE l 20 4 }

/-- The running firmware version, coded as in the image header. -/
def State.fwVersion (s : State) : Nat := (if s.mg.runSlot = 0 then s.mg.slotA else s.mg.slotB).version

/-- The stage descriptor of a stage is good (R139, R147): 64 bytes, a tile of the array on a column that the image
uses, a stride in its range. DEDUCED: notes/assumptions/76.md. -/
def State.descrOk (s : State) (slot cols n : Nat) : Bool :=
  let l := s.sectOf slot 1 n
  l.length == 64 && decide (fieldLE l 0 1 < 8) && decide (fieldLE l 1 1 < cols) && decide (fieldLE l 6 2 ≤ 256)

/-- Magic, version, sizes, sections, directory, descriptors and lowest firmware version of the image in a slot are good
(R138, R147). -/
def State.headerOk (s : State) (slot : Nat) : Bool :=
  let b := modelSlot slot
  let size := s.leAt (b + 8) 8
  let stages := s.leAt (b + 28) 2
  let cols := s.leAt (b + 30) 1
  s.leAt b 4 == 0x31455254 && s.leAt (b + 4) 2 == 3 && s.leAt (b + 6) 2 == 256 && decide (256 ≤ size) &&
    decide (size ≤ 2147483648) && decide (1 ≤ stages ∧ stages ≤ 128) && decide (1 ≤ cols ∧ cols ≤ 16) &&
    decide (s.leAt (b + 68) 4 + 24 * s.leAt (b + 64) 4 ≤ size) &&
    ((s.sects slot).all fun d => decide (d.off + d.len ≤ size) && d.off % 64 == 0) &&
    ((upto stages).all fun n => (s.sectsOf slot 1 n).length == 1 && s.descrOk slot cols n) && decide (s.leAt (b + 20) 4 ≤ s.fwVersion)

/-- The image of a slot as its header gives it, with the FORM and the bunch count it is to run with (R138). -/
def State.readImage (s : State) (slot form bunches : Nat) : Image :=
  let b := modelSlot slot
  { slot := slot, size := s.leAt (b + 8) 8, minFw := s.leAt (b + 20) 4, flags := s.leAt (b + 24) 4,
    stages := (upto (s.leAt (b + 28) 2)).map (s.stageAt slot), cols := s.leAt (b + 30) 1, ii := s.leAt (b + 32) 4,
    lat := s.leAt (b + 36) 4, horizon := BitVec.ofNat 32 (s.leAt (b + 40) 4), vsCount := s.leAt (b + 44) 2,
    warm := s.leAt (b + 46) 2, bands := (upto 3).map fun i => BitVec.ofNat 32 (s.leAt (b + 52 + 4 * i) 4),
    name := s.bytesAt (b + 104) 64, digest := s.bytesAt (b + 72) 32, form := form, bunches := bunches }

/-- SHA-256 of the file in a slot, its digest field taken as 0 (R138). -/
def State.imageDigest (s : State) (slot : Nat) : List Byte :=
  let b := modelSlot slot
  Config.sha256 (s.bytesAt b 72 ++ zeros 32 ++ s.bytesAt (b + 104) (s.leAt (b + 8) 8 - 104))

/-! ### Admission (R142 to R145) -/

/-- One resource of the admission check: number, the stage that sets the need, unit, limit, need. -/
structure AdmRec where
  num : Nat
  stage : Nat
  unit : Nat
  limit : Nat
  need : Nat
deriving DecidableEq, Repr

/-- The largest of some figures of the stages, and the first stage that has it. -/
def maxStage (g : Stage → Nat) (l : List Stage) : Nat × Nat :=
  (l.zipIdx.foldl (fun (m : Nat × Nat × Bool) p => if m.2.2 = false ∨ m.1 < g p.1 then (g p.1, p.2, true) else m)
    (0, 0xFFFF, false)) |> fun m => (m.1, m.2.1)

/-- The clock of a form in MHz (R68, R142). -/
def formClock (rot : Bool) : Nat := if rot then 1200 else 960

/-- The columns available in a form (R142). DEDUCED: notes/assumptions/75.md. -/
def State.colsAvail (s : State) (rot : Bool) : Nat := (if rot then 15 else 16) - popCount 16 s.tr.lost

/-- Tile cycles of `n` hundredths of a frame of `f` timebase counts, rounded down. DEDUCED: notes/assumptions/76.md.
-/
def cyclesOf (n f clock : Nat) : Nat := n * f * clock / 10000

/-- Row 5's limit for `b` bunches: the sentinel's window bounds it alone where no bunch is asked for (R142). -/
def iiLimit (f clock b : Nat) : Nat :=
  if b = 0 then cyclesOf 3 f clock else min (95 * f * clock / (10000 * b)) (cyclesOf 3 f clock)

/-- The highest occupied bunch plus 1 (R143). -/
def State.topBunch (s : State) : Nat := s.ctxs.foldl (fun n c => max n (c / 32 + 1)) 0

/-- The seven resource records of an image in a form, for a frame of `f` counts and `b` bunches (R142, R143).
DEDUCED: notes/assumptions/76.md. -/
def State.admRecs (s : State) (x : Image) (rot : Bool) (f b : Nat) : List AdmRec :=
  let lines := maxStage (·.lines) x.stages
  let bundles := maxStage (·.bundles) x.stages
  let stride := maxStage (·.stride) x.stages
  let clock := formClock rot
  let cols := if rot ∧ bitOf x.flags 0 = false then 16 else x.cols
  [ { num := 1, stage := 0xFFFF, unit := 0, limit := 8 * s.colsAvail rot, need := 8 * cols },
    { num := 2, stage := lines.2, unit := 1, limit := 2097152, need := 64 * lines.1 },
    { num := 3, stage := bundles.2, unit := 2, limit := 2048, need := bundles.1 },
    { num := 4, stage := stride.2, unit := 3, limit := 512, need := 2 * stride.1 },
    { num := 5, stage := (maxStage (·.ii) x.stages).2, unit := 4, limit := iiLimit f clock b, need := x.ii },
    { num := 6, stage := 0xFFFF, unit := 4, limit := cyclesOf 98 f clock, need := x.lat },
    { num := 7, stage := 0xFFFF, unit := 5, limit := if b < s.topBunch then min b 128 else 128,
      need := max b s.topBunch } ]

/-- An image fits a form (R142). -/
def State.fits (s : State) (x : Image) (rot : Bool) (f b : Nat) : Bool :=
  (s.admRecs x rot f b).all fun r => decide (r.need ≤ r.limit)

/-- The form that a FORM field takes, if one fits: true with rotation enabled (R84, R144). DEDUCED:
notes/assumptions/76.md. -/
def State.admitForm (s : State) (x : Image) (form f b : Nat) : Option Bool :=
  if form ≠ 2 ∧ s.fits x true f b then some true
  else if form ≠ 1 ∧ s.fits x false f b then some false
  else none

/-- The largest bunch count that row 5 allows at the image's initiation interval. DEDUCED: notes/assumptions/76.md. -/
def largestB (x : Image) (f clock : Nat) : Nat :=
  if x.ii = 0 then 0xFFFF else if cyclesOf 3 f clock < x.ii then 0 else min 0xFFFF (95 * f * clock / (10000 * x.ii))

/-- One resource record of the report. -/
def AdmRec.bytes (r : AdmRec) : List Byte :=
  leBytes 1 r.num ++ leBytes 1 (b2n (decide (r.limit < r.need))) ++ leBytes 2 r.stage ++ leBytes 4 r.unit ++
    leBytes 8 r.limit ++ leBytes 8 r.need ++ leBytes 8 (r.need - r.limit)

/-- The admission report from offset 16 of the reply on (R146). -/
def State.admReport (s : State) (x : Image) (form f b : Nat) : List Byte :=
  let rot := decide (form ≠ 2)
  let other := if form = 0 ∧ s.fits x true f b then 0 else if s.fits x (!rot) f b then 1 else 2
  leBytes 1 (if rot then 1 else 2) ++ leBytes 1 other ++ leBytes 2 (s.colsAvail rot) ++ leBytes 2 (formClock rot) ++
    leBytes 2 b ++ leBytes 4 (f / 100) ++ leBytes 2 (largestB x f (formClock rot)) ++ leBytes 2 7 ++
    (s.admRecs x rot f b).flatMap AdmRec.bytes

/-- The bunch count that ADMIT_CONTEXTS asks for (R143). -/
def State.bunchesFor (s : State) (contexts : Nat) : Nat :=
  if contexts = 0 then s.topBunch else (contexts + 31) / 32

end Sys2Proof.Machine
end

