-- ==== Sys2Proof/Machine/LoopLaw.lean ====
section
/-! DEFINITION. The law of a loop slot (spec 02): active parameters, effective mode, tables, feedback validity, the chain
with its limiter, rate limiter, hand-over and slew, and the repetitive term. -/

namespace Sys2Proof.Machine

/-! ### Parameters (R65) -/

/-- An active word set. -/
def State.setAct (s : State) (a : Nat) (w : Word) : State :=
  s.onLe fun y => { y with active := tset (resetWord a) y.active a w }

/-- The parameter words of a slot copied from the shadow, APPLY cleared (R65). -/
def State.copyParams (s : State) (k : Nat) : State :=
  let s := s.putBit (SL_CTRL_APPLY k) false
  (upto 40).foldl (fun s i => s.setAct ((SL_CTRL k).addr + 4 * i) (regWord s.regs ((SL_CTRL k).addr + 4 * i))) s

/-- The slot is a context slot. -/
def isCtx (k : Nat) : Bool := decide (k < 4096)

/-- The sample period in timebase counts (R31): the frame for a context slot, the plant period otherwise. -/
def State.period (s : State) (k : Nat) : Nat :=
  if k < 4096 then s.frameCounts
  else clampNat 1 20 (s.act (SL_TIMING_PERIOD_TICKS k)) * (if s.actBit (SL_TIMING_SLOW k) then 100 else 1) * 5000

/-- h in seconds (R36). -/
def State.hOf (s : State) (k : Nat) : F32 := f32OfRat (s.period k) 100000000

/-! ### Effective mode (R43, R44) -/

/-- The configured law mode; codes 5 to 7 are applied as HOLD. -/
def State.cfgMode (s : State) (k : Nat) : Nat := min (s.act (SL_CTRL_MODE k)) 4

/-- The slot belongs to an isolated rack: a context of it, or its balancing loop. -/
def State.slotIsolated (s : State) (k : Nat) : Bool :=
  if k < 4096 then s.rackIsolated (s.ctxRack k) else decide (4104 ≤ k) && decide (k < 4120) && s.rackIsolated (k - 4104)

/-- The law mode that the module state allows a slot (R44); an isolated rack's valve loop is MANUAL (R220). DESIGN
CHOICE: notes/assumptions/100.md. -/
def State.stateMode (s : State) (k : Nat) : Nat :=
  let m := s.cfgMode k
  let ctx := if m = 2 then 1 else m
  if s.sys.mode = .isolate ∧ 4096 ≤ k ∧ s.slotIsolated k then 3
  else
  match s.rowMode with
  | .predictive => m
  | .reactive => if k < 4096 then ctx else m
  | .hold => if s.sys.mode = .isolate ∧ s.slotIsolated k then ctx else 4
  | .shed => if k < 4096 ∨ k = 4097 then 4 else m
  | .service => 3
  | .off | .boot | .table | .isolate | .survival | .failed => 0

/-- The effective mode of a slot at this sample: R44's, REACTIVE while no prediction is fresh enough (R41), TABLE while
the feedback path has fallen to the table (R46). -/
def State.effMode (s : State) (k : Nat) : Nat :=
  let m := s.stateMode k
  if k < 4096 then (if m = 2 ∧ s.bit (SL_FLAGS_PRED_STALE k) then 1 else m)
  else if (m = 1 ∨ m = 2) ∧ (s.slot k).lastSrc = 3 then 0 else m

/-! ### Tables (R39) -/

/-- A breakpoint or value of a table. -/
def State.tab (s : State) (t j : Nat) : F32 := s.rdf (LE_TABLE t j)

/-- The interval of a table that an input falls into: the last breakpoint at or below it. -/
def State.tabAt (s : State) (t : Nat) (x : F32) : Nat :=
  (upto 16).foldl (fun i j => if fle (s.tab t j) x then j else i) 0

/-- The value of a table at an input; none for a NaN or a table without valid content. DEDUCED:
notes/assumptions/68.md. -/
def State.tableValue (s : State) (t : Nat) (x : F32) : Option F32 :=
  if fisNaN x ∨ tget false s.le.tablesValid t = false then none
  else if flt x (s.tab t 0) then some (s.tab t 16)
  else
    let i := s.tabAt t x
    if i = 15 then some (s.tab t 31)
    else
      let f := fdiv (fsub x (s.tab t i)) (fsub (s.tab t (i + 1)) (s.tab t i))
      some (fadd (s.tab t (16 + i)) (fmul (fsub (s.tab t (17 + i)) (s.tab t (16 + i))) f))

/-! ### Feedback (R45 to R48) -/

/-- When the input that a source code names was last converted; a class 9 source follows the one that SN_FLOWSRC names
(R66, R238). -/
def State.convOf (s : State) (code : Nat) : Option Nat :=
  let code := if code / 4096 = 9 then s.rd (SN_FLOWSRC (code % 16)) else code
  match code / 4096 with
  | 1 => (tget {} s.sn.inp (code % 4096)).at_
  | 2 => (tget {} s.sn.inp (48 + code % 4096)).at_
  | _ => some s.time

/-- The count of identical codes of an input: one per new conversion (R45, R238). DEDUCED: notes/assumptions/74.md. -/
def sameCount (old raw same : Nat) (fresh : Bool) : Nat :=
  if fresh then (if old = raw then min (same + 1) 64 else 1) else same

/-- What one element of the feedback gives at a sample. -/
structure Elt where
  /-- The element is configured. -/
  has : Bool := false
  val : F32 := 0
  frozen : Bool := false
  stale : Bool := false
deriving DecidableEq, Repr

/-- The element can be used. -/
def Elt.ok (e : Elt) : Bool := e.has && !e.frozen && !e.stale

/-- An element from its source: frozen after 64 identical codes, or where the field die reports it (R45). -/
def eltOf (v : Option SrcVal) (same : Nat) : Elt :=
  match v with
  | some v => { has := true, val := v.val, frozen := v.bad || (v.dithered && decide (64 ≤ same)), stale := v.stale }
  | none => {}

/-- The slot's virtual sensor, while it is available (R46, R76). -/
def State.vsValue (s : State) (k : Nat) : Option F32 :=
  let c := s.act (SL_VS_SEL_SRC k)
  if c / 4096 = 7 ∧ s.actBit (SL_CTRL_EN_VS k) ∧ s.sys.mode = .predictive ∧ s.bit TR_STATUS_ADMITTED then
    match tget none s.le.vs (c % 4096) with
    | some (v, f) => if s.frame ≤ f + 4 then some v else none
    | none => none
  else none

/-- The arbitration of a sound pair (R48): y, PAIR_DISAGREE, PAIR_SUSPECT. -/
def arbitrate (a b tol : F32) (vs : Option F32) (high : Bool) : F32 × Bool × Bool :=
  if fle (fabs (fsub a b)) tol then (fdiv (fadd a b) (f32OfInt 2), false, false)
  else
    let cons := if high then (if flt a b then b else a) else (if flt b a then b else a)
    match vs with
    | some v =>
      let na := fle (fabs (fsub a v)) tol
      let nb := fle (fabs (fsub b v)) tol
      if na && !nb then (a, true, false) else if nb && !na then (b, true, false) else (cons, true, true)
    | none => (cons, true, true)

/-- The conservative side of a pair is the higher value: the hotter element, or as PAIR_DIR names (R48). -/
def State.pairHigh (s : State) (k : Nat) (code : Nat) : Bool := code / 4096 == 1 || !s.actBit (SL_CTRL_PAIR_DIR k)

/-- The slot's table input is the return header pair that its table set reads (R46, R227). -/
def tableHeader (k : Nat) : Bool := decide (4096 ≤ k) && headerLoops.contains (k - 4096)

/-- The value of the return header pair, while an element of it is valid (R46, R48). -/
def State.headerNow (s : State) (k : Nat) : Option F32 :=
  let a := s.srcRtd 34
  let b := s.srcRtd 35
  if a.good && b.good then some (arbitrate a.val b.val (s.actF (SL_PAIR_TOL k)) none true).1
  else if a.good then some a.val else if b.good then some b.val else none

/-- The table input of a slot (R46): the return header pair for the loops whose table set reads it, or its last valid
value; otherwise the last valid value of the primary. -/
def State.tableInput (s : State) (k : Nat) : F32 :=
  let x := s.slot k
  if tableHeader k then (s.headerNow k).getD x.lastTable else x.lastY

/-- The feedback of a sample. -/
structure Feedback where
  y : F32
  src : Nat
  a : Elt
  b : Elt
  pair : Bool
  disagree : Bool
  suspect : Bool
  prim : Bool
deriving DecidableEq, Repr

/-- The source that the feedback path takes (R46): 0 primary, 1 partner, 2 virtual, 3 table. A slot that has left its
primary goes back only through R47; the partner is taken at once. -/
def State.pathOf (s : State) (k : Nat) (a b : Elt) (vs : Option F32) : Nat :=
  if ¬ a.has then 0
  else if a.ok ∧ (s.slot k).lastSrc = 0 then 0
  else if b.ok then 1
  else if vs.isSome ∧ s.rd (SL_VS_TIME k) < 30000 then 2
  else 3

/-- The feedback of a plant slot at this sample. -/
def State.feedback (s : State) (k : Nat) : Feedback :=
  let x := s.slot k
  let (ca, cb, pair) := s.eltCodes k
  let a := eltOf (s.source ca) x.sameA
  let b := eltOf (s.source cb) x.sameB
  let vs := s.vsValue k
  let src := s.pathOf k a b vs
  if src = 0 ∧ pair ∧ b.ok ∧ a.ok then
    let r := if s.isEltB ca then arbitrate b.val a.val (s.actF (SL_PAIR_TOL k)) vs (s.pairHigh k ca)
      else arbitrate a.val b.val (s.actF (SL_PAIR_TOL k)) vs (s.pairHigh k ca)
    ⟨r.1, 0, a, b, true, r.2.1, r.2.2, true⟩
  else
    let y := match src with
      | 0 => a.val
      | 1 => b.val
      | 2 => vs.getD 0
      | _ => s.tableInput k
    ⟨y, src, a, b, pair, false, false, a.ok⟩

/-! ### One chain (R37, R49, R50) -/

/-- What one chain gives at a sample. -/
structure ChainOut where
  u : F32
  upre : F32
  i : F32
  sat : Bool
  rateLim : Bool
  slew : Bool
  target : F32
deriving DecidableEq, Repr

/-- A twentieth of the range per second, over h (R50). DEDUCED: notes/assumptions/68.md. -/
def slewStep (rng h : F32) : F32 := fmul (fmul (f32OfRat 5 100) rng) h

/-- One chain at a sample. `law i` is upre for an integrator value; `i` is the integrator after this sample's addition;
`integ` tells a law with an integrator of its own. DEDUCED: notes/assumptions/68.md. -/
def chainStep (integ ho slew : Bool) (uLast lo hi rng h rate i : F32) (law : F32 → F32) : ChainOut :=
  let upre := law i
  let ul := fclamp lo hi upre
  if ho then
    let gap := fabs (fsub ul uLast)
    let u := fclamp lo hi uLast
    if integ && !(flt (fmul (f32OfRat 2 100) rng) gap) then
      let i' := fsub uLast (law 0)
      ⟨u, law i', i', decide (fclamp lo hi (law i') ≠ law i'), false, false, u⟩
    else ⟨u, upre, if integ then i else u, decide (ul ≠ upre), false, flt 0 gap, ul⟩
  else
    let st := fmul rate h
    let ur := if flt 0 rate then fclamp (fsub uLast st) (fadd uLast st) ul else ul
    let sl := slewStep rng h
    let u := if slew then fclamp (fsub uLast sl) (fadd uLast sl) ur else ur
    ⟨u, upre, if integ then i else u, decide (ul ≠ upre), decide (ur ≠ ul), slew && decide (u ≠ ul), ul⟩

/-! ### The repetitive term (R52) -/

/-- The pool index of a ring entry. -/
def LSlot.ringAt (x : LSlot) (i : Nat) : Nat := x.pages.getD (i / 256) 0 * 256 + i % 256

/-- The repetitive term runs: enabled, a period set, its pages held. -/
def State.rcRuns (s : State) (k : Nat) : Bool :=
  s.actBit (SL_CTRL_EN_RC k) && decide (2 ≤ s.act (SL_RC_CFG_PERIOD k)) && !(s.slot k).pages.isEmpty

/-- V at this sample. -/
def State.rcValue (s : State) (k : Nat) : F32 :=
  if s.rcRuns k then
    let x := s.slot k
    let i := (x.rcN + min (s.act (SL_RC_CFG_LEAD k)) 64) % s.act (SL_RC_CFG_PERIOD k)
    fmul (s.actF (SL_RC_LSB k)) (f32OfInt (tget 0 s.le.pool (x.ringAt i)))
  else 0

/-- The ring's write at this sample, and the index moved on. -/
def State.rcWrite (s : State) (k : Nat) (ef : F32) : State :=
  if s.rcRuns k then
    let x := s.slot k
    let p := s.act (SL_RC_CFG_PERIOD k)
    let at_ := x.ringAt (x.rcN % p)
    let lsb := s.actF (SL_RC_LSB k)
    let old := fmul lsb (f32OfInt (tget 0 s.le.pool at_))
    let q := fdiv (fadd (fmul (s.actF (SL_RC_ALPHA k)) old) (fmul (s.actF (SL_KRC k)) ef)) lsb
    let s := s.setSlot k { x with rcN := (x.rcN + 1) % p }
    let s := s.wr (SL_RC_STATE_IDX k) ((x.rcN + 1) % p)
    if fisNaN q then s
    else
      let c := f32ToIntSat (-32767) 32767 q
      let s := s.onLe fun y => { y with pool := tset 0 y.pool at_ c }
      if c = f32ToIntSat (-32768) 32768 q then s else s.putBit (SL_FLAGS_RC_CLAMP k) true
  else s

end Sys2Proof.Machine
end

