-- ==== Sys2Proof/Machine/Loops.lean ====
section
/-! DEFINITION. The loop engine's evaluation of a sample and its commands (spec 02): scheduling, lane pairs, fallback and
return, the RC pool, injection and capture, bobbins. -/

namespace Sys2Proof.Machine

/-! ### The RC pool (R53 to R56) -/

/-- The pool pages that slots hold. -/
def State.usedPages (s : State) : List Nat := s.le.slots.flatMap fun q => q.2.pages

/-- The first `n` free pages, lowest first; none when fewer are free (R53). -/
def State.freePages (s : State) (n : Nat) : Option (List Nat) :=
  if s.rd LE_RC_FREE < n then none
  else
    let used := s.usedPages
    some (((List.range (used.length + n)).filter fun p => !used.contains p).take n)

/-- Pages granted to a slot: the ring starts from zeros, RC_DENIED and PF off, with the preset (R53, R54). -/
def State.rcGrant (s : State) (k : Nat) (pages : List Nat) : State :=
  let s := s.onLe fun y => { y with pool := y.pool.filter fun p => !pages.contains (p.1 / 256) }
  let s := s.setSlot k { s.slot k with pages := pages, rcN := 0, pfOn := false, handDue := true }
  let s := (s.wr LE_RC_FREE (s.rd LE_RC_FREE - pages.length)).wr (SL_RC_STATE_PAGES k) pages.length
  let s := (s.wr (SL_RC_STATE_IDX k) 0).putBit (SL_FLAGS_RC_DENIED k) false
  (upto pages.length).foldl (fun s i =>
    let f := LE_RCMAP k (i / 2)
    s.wr f (withBits (s.rd f) (16 * (i % 2) + 15) (16 * (i % 2)) (pages.getD i 0))) s

/-- A slot that waits for pages, or with `need` 0 for its period's estimate (R56): RC_DENIED, the count, the log record
and doorbell, PF on with the preset (R54). -/
def State.rcDeny (s : State) (k need : Nat) : State :=
  let s := s.onLe fun y => { y with waiting := y.waiting ++ [(k, need)] }
  let s := s.setSlot k { s.slot k with pfOn := true, handDue := true }
  ((s.putBit (SL_FLAGS_RC_DENIED k) true).wr LE_RC_DENIED s.le.waiting.length).note 3 .rcDenied 0 [k, need] 67

/-- A slot's pages freed and its place on the wait list given up (R55); its period's estimates start anew (R56). -/
def State.rcFree (s : State) (k : Nat) : State :=
  let n := (s.slot k).pages.length
  let s := s.setSlot k { s.slot k with pages := [], rcN := 0, pfOn := false, estAt := none }
  let s := s.onLe fun y => { y with waiting := y.waiting.filter fun p => p.1 != k }
  let s := (s.wr LE_RC_FREE (s.rd LE_RC_FREE + n)).wr LE_RC_DENIED s.le.waiting.length
  ((s.wr (SL_RC_STATE_PAGES k) 0).wr (SL_RC_STATE_IDX k) 0).putBit (SL_FLAGS_RC_DENIED k) false

/-- Pages asked for by a slot with a period. -/
def State.rcRequest (s : State) (k period : Nat) : State :=
  let need := (period + 255) / 256
  match s.freePages need with
  | some ps => s.rcGrant k ps
  | none => s.rcDeny k need

/-- A change of EN_RC or PERIOD as parameters are applied (R55); without a period the slot waits as under R54 (R56).
DESIGN CHOICE: notes/assumptions/100.md. -/
def State.rcChange (s : State) (k : Nat) (en : Bool) (period : Nat) : State :=
  let en' := s.actBit (SL_CTRL_EN_RC k)
  let p' := s.act (SL_RC_CFG_PERIOD k)
  if en' = en ∧ p' = period then s
  else
    let s := s.rcFree k
    if ¬ en' then s
    else if p' < 2 then s.rcDeny k 0
    else s.rcRequest k p'

/-- The shadow parameters applied at the slot's sample (R65). -/
def State.applyParams (s : State) (k : Nat) : State :=
  if s.bit (SL_CTRL_APPLY k) then
    let en := s.actBit (SL_CTRL_EN_RC k)
    let p := s.act (SL_RC_CFG_PERIOD k)
    let s := s.copyParams k
    (s.setSlot k { s.slot k with handDue := true }).rcChange k en p
  else s

/-- The walk of the wait list, from the oldest request (R53). -/
def State.rcWalk (s : State) : State :=
  let l := s.le.waiting.filter fun q => q.2 != 0
  let s := l.foldl (fun s q =>
    match s.freePages q.2 with
    | some ps => (s.onLe fun y => { y with waiting := y.waiting.filter fun p => p.1 != q.1 }).rcGrant q.1 ps
    | none => s) s
  s.wr LE_RC_DENIED s.le.waiting.length

/-! ### Injection (R57) -/

/-- The channels that run on a slot. -/
def State.injOf (s : State) (k : Nat) : List Nat :=
  (upto 32).filter fun c => s.rd (LE_INJ_CTRL_STATE c) == 2 && s.rd (LE_INJ_CTRL_SLOT c) == k

/-- A channel's record. -/
def State.inj (s : State) (c : Nat) : Inj := tget {} s.le.inj c

/-- A channel's record set. -/
def State.setInj (s : State) (c : Nat) (x : Inj) : State := s.onLe fun y => { y with inj := tset {} y.inj c x }

/-- The feedback bit of the maximal-length register of an order (R57): the exclusive-or of the stages its polynomial
names. -/
def lfsrBit (order r : Nat) : Nat :=
  let b (i : Nat) : Nat := r / 2 ^ (i - 1) % 2
  (match order with
    | 7 => b 7 + b 6
    | 8 => b 8 + b 6 + b 5 + b 4
    | 9 => b 9 + b 5
    | 10 => b 10 + b 7
    | 11 => b 11 + b 9
    | _ => b 12 + b 11 + b 10 + b 4) % 2

/-- The order of a channel's register, 7 to 12. -/
def State.injOrder (s : State) (c : Nat) : Nat := clampNat 7 12 (s.rd (LE_INJ_CTRL_ORDER c))

/-- sin(2π·FREQ·t) in binary32 (R57), `n` counts of 10 ns from the start. DESIGN CHOICE: notes/assumptions/9.md. -/
def sineSample (f : F32) (n : Nat) : F32 :=
  if ¬ fisFin f then f32NaN
  else
    let r := fxSinTurns (fxAbs f * n / 100000000 % fxOne)
    fxSigned (r.1 != fsign f) (fxDown r.2 + Config.sineRound f n % (fxUp r.2 - fxDown r.2 + 1))

/-- The present value of a channel's signal. DESIGN CHOICE: notes/assumptions/9.md. -/
def State.injValue (s : State) (c : Nat) : F32 :=
  let x := s.inj c
  let amp := s.rdf (LE_INJ_AMP c)
  if x.injecting then
    match s.rd (LE_INJ_CTRL_SIGNAL c) with
    | 0 => if x.lfsr / 2 ^ (s.injOrder c - 1) % 2 = 1 then amp else fneg amp
    | 1 => fmul amp (sineSample (s.rdf (LE_INJ_FREQ c)) (s.time - x.started.getD s.time))
    | 2 => amp
    | _ => 0
  else 0

/-- The signals added at a point of a slot. -/
def State.injAt (s : State) (k point : Nat) : F32 :=
  ((s.injOf k).filter fun c => s.rd (LE_INJ_CTRL_POINT c) == point).foldl (fun x c => fadd x (s.injValue c)) 0

/-- A channel whose PRE entries are taken begins to inject; one without a signal starts there all the same (R59).
DEDUCED: notes/assumptions/70.md. -/
def State.injBegin (s : State) (c : Nat) : State :=
  let x := s.inj c
  if x.started.isSome ∨ x.preLeft ≠ 0 then s
  else if s.rd (LE_INJ_CTRL_SIGNAL c) = 3 then s.setInj c { x with started := some s.time }
  else
    (s.setInj c { x with injecting := true, started := some s.time, lfsr := 2 ^ s.injOrder c - 1,
                         hold := (s.rd (LE_INJ_CTRL_HOLD c) + 63) % 64 + 1 }).putBit
      (SL_FLAGS_INJ_ACTIVE (s.rd (LE_INJ_CTRL_SLOT c))) true

/-- The PRBS moved on by one sample. DEDUCED: notes/assumptions/70.md. -/
def State.injStep (s : State) (c : Nat) : State :=
  let x := s.inj c
  if x.injecting ∧ s.rd (LE_INJ_CTRL_SIGNAL c) = 0 then
    if x.hold ≤ 1 then
      let n := s.injOrder c
      s.setInj c { x with lfsr := (2 * x.lfsr + lfsrBit n x.lfsr) % 2 ^ n, hold := (s.rd (LE_INJ_CTRL_HOLD c) + 63) % 64 + 1 }
    else s.setInj c { x with hold := x.hold - 1 }
  else s

/-- A channel ends in a state: 3 done, 4 aborted; the capture-done doorbell (R58, R59). Its START and STOP bits clear.
DESIGN CHOICE: notes/assumptions/93.md. -/
def State.injEnd (s : State) (c st : Nat) : State :=
  let s := (s.putBit (LE_INJ_CTRL_START c) false).putBit (LE_INJ_CTRL_STOP c) false
  let s := (s.wr (LE_INJ_CTRL_STATE c) st).putBit (SL_FLAGS_INJ_ACTIVE (s.rd (LE_INJ_CTRL_SLOT c))) false
  (s.setInj c { s.inj c with injecting := false }).post (96 + c)

/-- STOP takes effect at the next sample; a change to TABLE or HOLD ends the injection at once (R58). -/
def State.injCheck (s : State) (k mode : Nat) : State :=
  (s.injOf k).foldl (fun s c =>
    if s.bit (LE_INJ_CTRL_STOP c) then s.injEnd c 4
    else if mode = 0 ∨ mode = 4 then s.injEnd c 4
    else s.injBegin c) s

/-! ### Captures and bobbins (R59 to R63) -/

/-- One entry of a capture (R59). -/
def State.capture (s : State) (nodes : List Nat) (c : Nat) : State :=
  let k := s.rd (LE_INJ_CTRL_SLOT c)
  let d := (s.rd (LE_INJ_CAP_DECIM c) + 255) % 256 + 1
  let n := tget 0 (s.slot k).capSkip c + 1
  if n < d then s.setSlot k { s.slot k with capSkip := tset 0 (s.slot k).capSkip c n }
  else
    let s := s.setSlot k { s.slot k with capSkip := tset 0 (s.slot k).capSkip c 0 }
    let i := s.rd (LE_INJ_COUNT c)
    if 4096 ≤ i then s
    else
      let s := (s.wr (LE_CAPMEM c (2 * i)) (nodes.getD (s.rd (LE_INJ_CAP_NODE_A c)) 0)).wr (LE_CAPMEM c (2 * i + 1))
        (nodes.getD (s.rd (LE_INJ_CAP_NODE_B c)) 0)
      let s := s.wr (LE_INJ_COUNT c) (i + 1)
      s.setInj c { s.inj c with preLeft := (s.inj c).preLeft - 1 }

/-- A bobbin's record. -/
def State.bob (s : State) (b : Nat) : Bob := tget {} s.le.bob b

/-- A bobbin's record set. -/
def State.setBob (s : State) (b : Nat) (x : Bob) : State := s.onLe fun y => { y with bob := tset {} y.bob b x }

/-- A bobbin still takes entries (R61). -/
def State.bobTakes (s : State) (b : Nat) : Bool :=
  s.bit (BOB_STATUS_ARMED b) && !s.bit (BOB_STATUS_STOPPED b) &&
    !(s.rd (BOB_CTRL_MODE b) == 0 && s.bit (BOB_STATUS_TRIGGERED b) && (s.bob b).postLeft == 0) &&
    !(s.rd (BOB_CTRL_MODE b) == 2 && s.bit (BOB_WPTR_WRAPPED b))

/-- The mark is overtaken by the entry about to be written (R63). -/
def State.bobOvertake (s : State) (b : Nat) : State :=
  if s.bit (BOB_MARKPTR_VALID b) ∧ 65536 ≤ (s.bob b).sinceMark then
    (s.putBit (BOB_MARKPTR_VALID b) false).putBit (BOB_STATUS_BOBBIN_REWIND_LOST b) true
  else s

/-- One entry written into a bobbin's ring. -/
def State.bobEntry (s : State) (b hi lo : Nat) : State :=
  if s.bobTakes b then
    let s := s.bobOvertake b
    let i := s.rd (BOB_WPTR_IDX b)
    let s := (s.wr (BOB_MEM b (2 * i)) lo).wr (BOB_MEM b (2 * i + 1)) hi
    let x := s.bob b
    let s := s.setBob b { x with sinceMark := min (x.sinceMark + 1) 65536,
                                 postLeft := if s.bit (BOB_STATUS_TRIGGERED b) then x.postLeft - 1 else x.postLeft }
    let s := s.wr (BOB_WPTR_IDX b) ((i + 1) % 65536)
    if i = 65535 then s.putBit (BOB_WPTR_WRAPPED b) true else s
  else s

/-- The trigger conditions 1 to 4 on a probe's value (R61). -/
def bobCond (cond : Nat) (last : Option Nat) (v level : F32) : Bool :=
  let prev : F32 := BitVec.ofNat 32 (last.getD 0)
  match cond with
  | 1 => flt level v
  | 2 => flt v level
  | 3 => last.isSome && flt prev level && fle level v
  | 4 => last.isSome && flt level prev && fle v level
  | _ => false

/-- A probe's entry with its time marker, and the trigger it may give (R60, R61). The first entry after arming has no
previous entry to differ from: it has a marker where its time bits [63:29] are not 0. DESIGN CHOICE:
notes/assumptions/93.md. -/
def State.probeEntry (s : State) (b p rel : Nat) (nodes : List Nat) : State :=
  let node := s.rd (BOB_PROBE_NODE b p)
  if 21 ≤ node ∨ ¬ s.bobTakes b then s
  else
    let x := s.bob b
    let mark : Bool := match x.lastTime with
      | some t => t / 2 ^ 29 != rel / 2 ^ 29
      | none => rel / 2 ^ 29 != 0
    let s := if mark then s.bobEntry b (rel / 2 ^ 29 % 2 ^ 32) (7 * 2 ^ 29 + rel % 2 ^ 29) else s
    let i := s.rd (BOB_WPTR_IDX b)
    let v := nodes.getD node 0
    let s := s.bobEntry b v (p * 2 ^ 29 + rel % 2 ^ 29)
    let hit := s.rd (BOB_TRIG_PROBE b) == p &&
      bobCond (s.rd (BOB_TRIG_COND b)) (tfind x.lastVal p) (BitVec.ofNat 32 v) (s.rdf (BOB_LEVEL b))
    let s := s.setBob b { s.bob b with lastTime := some rel, lastVal := tinsert x.lastVal p v }
    if hit then s.bobTrigger b i else s

/-- One probe at an evaluation of its slot: every DECIM-th writes an entry (R60). -/
def State.probe (s : State) (k rel : Nat) (nodes : List Nat) (b p : Nat) : State :=
  if s.bit (BOB_STATUS_ARMED b) ∧ bitOf (s.rd (BOB_CTRL_PROBE_EN b)) p ∧ s.rd (BOB_PROBE_SLOT b p) = k then
    let d := (s.rd (BOB_PROBE_DECIM b p) + 4095) % 4096 + 1
    let n := tget 0 (s.slot k).probeSkip (4 * b + p) + 1
    let s := s.setSlot k { s.slot k with probeSkip := tset 0 (s.slot k).probeSkip (4 * b + p) (n % d) }
    let s := if d ≤ n then s.probeEntry b p rel nodes else s
    if s.rd (BOB_TRIG_COND b) = 5 ∧ s.rd (BOB_TRIG_PROBE b) = p ∧ bitOf (s.rd (SL_FLAGS k)) (s.rd (BOB_TRIG_FLAG_BIT b)) then
      s.bobTrigger b ((s.rd (BOB_WPTR_IDX b) + 65535) % 65536)
    else s
  else s

/-- Every capture and probe on a slot after an evaluation. -/
def State.observe (s : State) (k rel : Nat) (nodes : List Nat) : State :=
  let s := (s.injOf k).foldl (fun s c => (s.capture nodes c).injStep c) s
  (upto 8).foldl (fun s b => (upto 4).foldl (fun s p => s.probe k rel nodes b p) s) s

/-! ### Feedback bookkeeping (R45 to R48) -/

/-- The identical-code counts of a slot's elements brought up to this sample. DEDUCED: notes/assumptions/69.md. -/
def State.countCodes (s : State) (k : Nat) : State :=
  let x := s.slot k
  let (ca, cb, _) := s.eltCodes k
  let fa := decide (s.convOf ca ≠ x.convA)
  let fb := decide (s.convOf cb ≠ x.convB)
  let ra := ((s.source ca).map (·.raw)).getD 0
  let rb := ((s.source cb).map (·.raw)).getD 0
  let sa := sameCount x.codeA ra x.sameA fa
  let s := s.setSlot k { x with codeA := ra, sameA := sa, convA := s.convOf ca,
                                codeB := rb, sameB := sameCount x.codeB rb x.sameB fb, convB := s.convOf cb }
  s.wr (SL_FB_STATE_SAME k) (min sa 64)

/-- The stamps of R47 and R48, with the pair's agreement at this sample, the last valid value of the table input (R46)
and the time on the virtual sensor. -/
def State.fbStamps (s : State) (k : Nat) (f : Feedback) : State :=
  let x := s.slot k
  let vs := if f.src = 2 then x.vsCount + (s.time - x.vsSince.getD s.time) else x.vsCount
  let agree := f.pair && f.a.ok && f.b.ok && fle (fabs (fsub f.a.val f.b.val)) (s.actF (SL_PAIR_TOL k))
  let s := s.setSlot k { x with validSince := if f.prim then some (x.validSince.getD s.time) else none,
                                agreeSince := if agree then some (x.agreeSince.getD s.time) else none,
                                vsCount := vs, vsSince := if f.src = 2 then some s.time else none,
                                lastY := if f.src = 0 then f.y else x.lastY,
                                lastTable := if tableHeader k then (s.headerNow k).getD x.lastTable else x.lastTable }
  s.wr (SL_VS_TIME k) (min (vs / 100000) (2 ^ 32 - 1))

/-- The FLAGS that the feedback decides, and the record of a step (R46, R48). -/
def State.fbFlags (s : State) (k : Nat) (f : Feedback) : State :=
  let s := ((s.putBit (SL_FLAGS_FROZEN k) f.a.frozen).putBit (SL_FLAGS_STALE k) f.a.stale).wr (SL_FB_STATE_SOURCE k) f.src
  let s := ((s.putBit (SL_FLAGS_FB_PARTNER k) (f.src == 1)).putBit (SL_FLAGS_FB_VIRTUAL k) (f.src == 2)).putBit
    (SL_FLAGS_FB_TABLE k) (f.src == 3)
  let s := if f.disagree then s.putBit (SL_FLAGS_PAIR_DISAGREE k) true else s
  if f.suspect ∧ ¬ s.bit (SL_FLAGS_PAIR_SUSPECT k) then (s.putBit (SL_FLAGS_PAIR_SUSPECT k) true).log 3 .pairSuspect 1 [k]
  else s

/-- The feedback taken at a sample: a change of source is a hand-over, with a log record and a doorbell (R46, R49).
DEDUCED: notes/assumptions/69.md. -/
def State.takeFeedback (s : State) (k : Nat) (f : Feedback) : State :=
  let moved := (s.slot k).lastSrc != f.src
  let s := (s.fbStamps k f).fbFlags k f
  let s := s.setSlot k { s.slot k with lastSrc := f.src, handDue := (s.slot k).handDue || moved }
  if moved then s.note 3 .feedbackStep 1 [k, f.src] 68 else s

/-! ### Predictions of a context slot (R40, R41) -/

/-- The age in frames of the newest prediction of a context. -/
def State.predAge (s : State) (k : Nat) : Option Nat := (tget none s.le.preds k).map fun p => s.frame - p.frame

/-- PRED_STALE and PRED_LATE at a sample of a slot that may run PREDICTIVE (R41). Without any prediction PRED_LATE is
set. DESIGN CHOICE: notes/assumptions/94.md. -/
def State.predCheck (s : State) (k : Nat) : State :=
  if s.stateMode k = 2 then
    let old := match s.predAge k with
      | some a => decide (clampNat 1 16 (s.act (SL_TIMING_PRED_MAX_AGE k)) < a)
      | none => true
    let stale := old || (s.bit (SL_FLAGS_PRED_STALE k) && decide ((s.slot k).fresh < 2))
    let late := match s.predAge k with | some a => decide (1 ≤ a) | none => true
    (s.putBit (SL_FLAGS_PRED_STALE k) stale).putBit (SL_FLAGS_PRED_LATE k) late
  else s

/-- The lanes of the newest prediction. -/
def State.predLane (s : State) (k i : Nat) : F32 :=
  match tget none s.le.preds k with
  | some p => p.lanes.getD i 0
  | none => 0

/-- The measured margin of a context (R40). -/
def State.measMargin (s : State) (k : Nat) : F32 :=
  match s.telem k with
  | some r => fsub (r.half 2 true) (r.half 2 false)
  | none => 0

/-! ### One sample (R37) -/

/-- The inputs of a sample. -/
structure SampleIn where
  mode : Nat
  /-- The measurement, and the setpoint with its injection. -/
  y : F32
  r : F32
  /-- The error with its injection. -/
  e : F32
  /-- The feed-forward sources of the chains. -/
  x0 : Option F32
  x1 : Option F32
  ho : Bool
  h : F32
  /-- The upper limit of chain 0, and its range. -/
  hi : F32
  rng : F32
deriving DecidableEq, Repr

/-- The filtered error (R37). -/
def State.leadLag (s : State) (k : Nat) (e : F32) : F32 :=
  if s.actBit (SL_CTRL_EN_LL k) then
    fadd (fadd (fmul (s.actF (SL_LL_B0 k)) e) (fmul (s.actF (SL_LL_B1 k)) (s.rdf (SL_LL_E1 k))))
      (fmul (s.actF (SL_LL_A1 k)) (s.rdf (SL_LL_EF1 k)))
  else e

/-- D at a sample: on the measurement, with the sign of the error in a context slot (R37, R40). DEDUCED:
notes/assumptions/68.md. -/
def State.derivative (s : State) (k : Nat) (y h : F32) : F32 :=
  if s.actBit (SL_CTRL_EN_D k) then
    let td := s.actF (SL_TD k)
    let den := fadd td (fmul (s.actF (SL_DN k)) h)
    let ad := fdiv td den
    let bd := fdiv (fmul (fmul (s.actF (SL_KP k)) td) (s.actF (SL_DN k))) den
    let dy := fmul bd (fsub y (s.rdf (SL_Y_PREV k)))
    let a := fmul ad (s.rdf (SL_DSTATE k))
    if k < 4096 then fadd a dy else fsub a dy
  else 0

/-- F of a chain: KFF × (x − FF_OFFSET), and PF in chain 0 while the ring is denied (R37, R54). -/
def State.feedForward (s : State) (k : Nat) (kff : F32) (x : Option F32) (pf : Bool) : F32 :=
  let off := s.actF (SL_FF_OFFSET k)
  let f := match x with
    | some v => if s.actBit (SL_CTRL_EN_FF k) then fmul kff (fsub v off) else 0
    | none => 0
  if pf ∧ k < 4096 ∧ s.actBit (SL_CTRL_EN_PF k) ∧ s.actBit (SL_CTRL_EN_RC k) ∧ (s.slot k).pfOn then
    fadd f (fmul (s.actF (SL_KPF k)) (fsub (s.power k) off))
  else f

/-- The rate limit of a chain, 0 when off. -/
def State.rateOf (s : State) (k : Nat) (f : RF) : F32 := if s.actBit (SL_CTRL_EN_RATE k) then s.actF f else 0

/-- The integrator's addition: KI × h × ef + KT × h × (u[n−1] − upre[n−1]). DEDUCED: notes/assumptions/68.md. -/
def integrate (i ki kt h ef u upre : F32) : F32 := fadd (fadd i (fmul (fmul ki h) ef)) (fmul (fmul kt h) (fsub u upre))

/-- Chain 0 at a sample. DEDUCED: notes/assumptions/68.md. -/
def State.chain0 (s : State) (k : Nat) (x : SampleIn) (ef d v f : F32) : ChainOut :=
  let u := s.rdf (SL_OUT0 k)
  let ju := s.injAt k 2
  let lo := s.actF (SL_UMIN k)
  let rate := s.rateOf k (SL_RATE k)
  let slew := (s.slot k).slew0
  match x.mode with
  | 0 =>
    let t := (s.tableValue (s.act (SL_TABLE_SEL_LAW k)) x.y).getD u
    chainStep false x.ho slew u lo x.hi x.rng x.h rate 0 fun _ => t
  | 3 =>
    let m := if s.sys.mode = .service then ((s.slot k).svc.getD u) else s.actF (SL_MANUAL k)
    chainStep false x.ho slew u lo x.hi x.rng x.h rate 0 fun _ => fadd m ju
  | _ =>
    let p := fmul (s.actF (SL_KP k)) ef
    let i := integrate (s.rdf (SL_INTEG0 k)) (s.actF (SL_KI k)) (s.actF (SL_KT k)) x.h ef u (s.rdf (SL_UPRE_PREV k))
    chainStep true x.ho slew u lo x.hi x.rng x.h rate i fun i => fadd (fadd (fadd (fadd (fadd p i) d) v) f) ju

/-- Chain 1 at a sample of a context slot with an integrating law (R40). DEDUCED: notes/assumptions/68.md. -/
def State.chain1 (s : State) (k : Nat) (x : SampleIn) (ef : F32) : ChainOut :=
  let u := s.rdf (SL_OUT1 k)
  let lo := s.actF (SL_UMIN1 k)
  let hi := s.actF (SL_UMAX1 k)
  let p := fmul (s.actF (SL_KP1 k)) ef
  let i := integrate (s.rdf (SL_INTEG1 k)) (s.actF (SL_KI1 k)) (s.actF (SL_KT1 k)) x.h ef u (s.slot k).upre1
  let f := s.feedForward k (s.actF (SL_KFF1 k)) x.x1 false
  let j := s.injAt k 3
  chainStep true x.ho (s.slot k).slew1 u lo hi (fsub hi lo) x.h (s.rateOf k (SL_RATE1 k)) i
    fun i => fadd (fadd (fadd p i) f) j

/-- A channel injects into the slot at one of some points. -/
def State.injPoint (s : State) (k : Nat) (at_ : Nat → Bool) : Bool :=
  (s.injOf k).any fun c => (s.inj c).injecting && at_ (s.rd (LE_INJ_CTRL_POINT c))

/-- A chain's limiters have acted: INJ_SAT where a signal goes through them (R57). -/
def State.injClip (s : State) (k : Nat) (c : ChainOut) (at_ : Nat → Bool) : State :=
  if (c.sat || c.rateLim) && s.injPoint k at_ then s.putBit (SL_FLAGS_INJ_SAT k) true else s

/-- Chain 1's results stored; in the laws without an integrator its output is kept and the integrator tracks it (R43).
-/
def State.storeChain1 (s : State) (k : Nat) (x : SampleIn) (ef : F32) : State :=
  if k < 4096 ∧ s.actBit (SL_CTRL_EN_CHAIN1 k) then
    if x.mode = 1 ∨ x.mode = 2 then
      let c := s.chain1 k x ef
      let s := ((s.wrf (SL_OUT1 k) c.u).wrf (SL_INTEG1 k) c.i).injClip k c fun p => p != 2
      s.setSlot k { s.slot k with upre1 := c.upre, slew1 := c.slew, has1 := true }
    else (s.wrf (SL_INTEG1 k) (s.rdf (SL_OUT1 k))).setSlot k { s.slot k with slew1 := false }
  else s

/-- The output map (R37, R39). -/
def State.mapped (s : State) (k : Nat) (u : F32) : F32 :=
  if s.actBit (SL_CTRL_EN_TABLE_MAP k) then
    (s.tableValue (s.act (SL_TABLE_SEL_MAP k)) u).getD (s.slot k).out
  else u

/-- Chain 0's results stored, with the flags of the limiters (R65). DESIGN CHOICE: notes/assumptions/100.md. -/
def State.storeChain0 (s : State) (k : Nat) (c : ChainOut) : State :=
  let out := s.mapped k c.u
  let s := ((s.wrf (SL_OUT0 k) c.u).wrf (SL_INTEG0 k) c.i).wrf (SL_UPRE_PREV k) c.upre
  let s := ((s.wrf (SL_SLEW_TARGET k) c.target).putBit (SL_FLAGS_SAT k) c.sat).putBit (SL_FLAGS_RATE_LIM k) c.rateLim
  let s := s.injClip k c fun p => p != 3
  s.setSlot k { s.slot k with out := out, slew0 := c.slew, has0 := true }

/-- The law's state words stored (R65). -/
def State.storeLaw (s : State) (k : Nat) (x : SampleIn) (ef d : F32) : State :=
  (((s.wrf (SL_LL_E1 k) x.e).wrf (SL_LL_EF1 k) ef).wrf (SL_DSTATE k) d).wrf (SL_Y_PREV k) x.y

/-- The node values of a sample (R60), node 0 first. -/
def State.nodeList (s : State) (k : Nat) (x : SampleIn) (ef p d v f slack : F32) (fb : Option Feedback) : List Nat :=
  let sig := fadd (fadd (s.injAt k 0) (s.injAt k 1)) (fadd (s.injAt k 2) (s.injAt k 3))
  let ul := fclamp (s.actF (SL_UMIN k)) x.hi (s.rdf (SL_UPRE_PREV k))
  let a := (fb.map (·.a.val)).getD 0
  let b := (fb.map (·.b.val)).getD 0
  let swap := s.isEltB (s.eltCodes k).1
  [x.y, x.r, x.e, ef, p, s.rdf (SL_INTEG0 k), d, v, f, s.rdf (SL_UPRE_PREV k), (s.slot k).out, ul, s.rdf (SL_OUT0 k),
    s.predLane k 0, s.rdf (SL_FLAGS k), slack, sig, s.rdf (SL_OUT1 k), (s.vsValue k).getD 0,
    if swap then b else a, if swap then a else b].map (·.toNat)

/-- A plant output given to its target: classes 1 to 4 drive an actuator, class 5 sets a plant loop's SETPOINT (R66). A
pump that a service check drives is left alone (R21). -/
def State.driveTarget (s : State) (k : Nat) : State :=
  let t := s.act (SL_OUT_TARGET_TGT k)
  let out := (s.slot k).out
  if t / 4096 = 5 then
    let a := (SL_SETPOINT (4096 + t % 512)).addr
    (s.wrf (SL_SETPOINT (4096 + t % 512)) out).setAct a out
  else if s.sys.mode = .service ∧ s.sys.drives.any (fun d => match d with
      | .pump n => t == 0x1000 + n || t == 0x4000 + n
      | .valve _ | .brake _ => false) then s
  else s.writeTarget t out

/-- The laws TABLE to MANUAL at a sample, with its captures. -/
def State.runLaw (s : State) (k rel : Nat) (x : SampleIn) (slack : F32) (fb : Option Feedback) : State :=
  let ef := s.leadLag k x.e
  let d := s.derivative k x.y x.h
  let integ := x.mode == 1 || x.mode == 2
  let v := if integ then s.rcValue k else 0
  let f := if integ then s.feedForward k (s.actF (SL_KFF k)) x.x0 true else 0
  let c := s.chain0 k x ef d v f
  let s := s.storeChain1 k x ef
  let s := (s.storeChain0 k c).storeLaw k x ef d
  let s := if integ then s.rcWrite k ef else s
  let s := s.putBit (SL_FLAGS_SLEWING k) ((s.slot k).slew0 || (s.slot k).slew1)
  let s := s.setSlot k { s.slot k with handDue := false }
  s.observe k rel (s.nodeList k x ef (fmul (s.actF (SL_KP k)) ef) d v f slack fb)

/-- The effective mode taken at a sample: a change is a hand-over (R49). -/
def State.takeMode (s : State) (k m : Nat) : State :=
  let moved := s.rd (SL_FLAGS_EFF_MODE k) != m
  let s := s.wr (SL_FLAGS_EFF_MODE k) m
  let x := s.slot k
  let svc := if s.sys.mode = .service then some (x.svc.getD (s.rdf (SL_OUT0 k))) else none
  (s.setSlot k { x with handDue := x.handDue || moved, svc := svc }).injCheck k m

/-- The inputs that a frozen slot holds, for the nodes of R60: no element runs, and V and F are 0. DESIGN CHOICE:
notes/assumptions/94.md. -/
def State.heldIn (s : State) (k : Nat) : SampleIn :=
  { mode := 4, y := s.rdf (SL_Y_PREV k), r := s.actF (SL_SETPOINT k), e := s.rdf (SL_LL_E1 k), x0 := none, x1 := none,
    ho := false, h := s.hOf k, hi := s.actF (SL_UMAX k), rng := fsub (s.actF (SL_UMAX k)) (s.actF (SL_UMIN k)) }

/-- A sample in HOLD, or of a silent context: outputs and state frozen; in SHED a context slot's chain 0 is its
emergency cap (R42 to R44). Captures and probes go on (R60), and a context's margin is its measured one (R172). -/
def State.runHold (s : State) (k rel : Nat) (slack : F32) : State :=
  let s := if k < 4096 ∧ s.sys.mode = .shed then s.wrf (SL_OUT0 k) (f32OfInt (s.emergCap k)) else s
  let s := if k < 4096 ∧ (s.telem k).isSome then s.setPbCtx k { s.pbCtx k with margin := s.measMargin k } else s
  let ef := s.rdf (SL_LL_EF1 k)
  s.observe k rel (s.nodeList k (s.heldIn k) ef (fmul (s.actF (SL_KP k)) ef) (s.rdf (SL_DSTATE k)) 0 0 slack none)

/-- A sample of a plant slot; in HOLD all its state is frozen (R43). -/
def State.runPlant (s : State) (k rel : Nat) (slack : F32) : State :=
  if s.stateMode k = 4 then (s.takeMode k 4).runHold k rel slack
  else
    let s := s.countCodes k
    let f := s.feedback k
    let s := s.takeFeedback k f
    let m := s.effMode k
    let s := s.takeMode k m
    let set := match k - 4104 with
      | r => if 4104 ≤ k ∧ r < 16 then s.rackSetpoint r
        else if k = 4096 then fadd (s.actF (SL_SETPOINT k)) s.pf.raise
        else s.actF (SL_SETPOINT k)
    let r := fadd set (s.injAt k 0)
    let e := fadd (fsub r f.y) (s.injAt k 1)
    let hi := s.actF (SL_UMAX k)
    let x : SampleIn := { mode := m, y := f.y, r := r, e := e, x0 := (s.source (s.act (SL_FF_SEL_SRC k))).map (·.val),
                          x1 := none, ho := (s.slot k).handDue, h := s.hOf k, hi := hi,
                          rng := fsub hi (s.actF (SL_UMIN k)) }
    (s.runLaw k rel x slack (some f)).driveTarget k

/-- A sample of a context slot (R40). Before the context's first record it computes nothing, and the first evaluation
is a hand-over (R42). -/
def State.runCtx (s : State) (k rel : Nat) (slack : F32) : State :=
  let s := s.predCheck k
  let m := s.effMode k
  let s := s.takeMode k m
  if m = 4 ∨ s.bit (SL_FLAGS_CTX_SILENT k) then s.runHold k rel slack
  else if s.telem k = none then (s.setSlot k { s.slot k with handDue := true }).runHold k rel slack
  else
    let y := if m = 2 then s.predLane k 0 else s.measMargin k
    let r := fadd (s.actF (SL_SETPOINT k)) (s.injAt k 0)
    let e := fadd (fsub y r) (s.injAt k 1)
    let hi := s.actF (SL_UMAX k)
    let grant := f32OfInt (s.rd (PB_CAP_GRANT k))
    let x : SampleIn := { mode := m, y := y, r := r, e := e, x0 := some (if m = 2 then s.predLane k 1 else s.power k),
                          x1 := some (if m = 2 then s.predLane k 2 else s.power k), ho := (s.slot k).handDue,
                          h := s.hOf k, hi := if flt grant hi then grant else hi,
                          rng := fsub hi (s.actF (SL_UMIN k)) }
    let s := if m = 2 then s.wr (SL_PRED_FRAME k) (((tget none s.le.preds k).map (·.frame)).getD 0 % 2 ^ 32) else s
    let s := s.runLaw k rel x slack none
    s.capOutput k (s.rdf (SL_OUT0 k)) (s.rdf (SL_UPRE_PREV k)) y

/-- A sample evaluated and committed: parameters, law, time stamp and slack (R29, R65). DEDUCED:
notes/assumptions/69.md. -/
def State.evalSlot (s : State) (k rel dl : Nat) : State :=
  let end_ := s.time + 20
  let us := (dl - end_) / 100
  let s := s.applyParams k
  let s := if k < 4096 then s.runCtx k rel (f32OfInt us) else s.runPlant k rel (f32OfInt us)
  let s := (s.wr (SL_LAST_TS_LO k) end_).wr (SL_LAST_TS_HI k) (end_ / 2 ^ 32)
  let least := if (s.slot k).slackOn then min (s.rd (SL_MISS_SLOT_SLACK k)) us else min us 65535
  let s := s.wr (SL_MISS_SLOT_SLACK k) least
  s.setSlot k { s.slot k with release := none, ready := false, retried := false, slackOn := true }

/-! ### Lane pairs (R29, R30) -/

/-- A pair is in service. -/
def State.pairUp (s : State) (p : Nat) : Bool := bitOf (s.rd LE_CTRL_PAIR_EN) p && !bitOf (s.rd LE_STATUS_FAILED_PAIRS) p

/-- The pairs out of service. -/
def State.pairsDown (s : State) : Nat := ((upto 8).filter fun p => !s.pairUp p).length

/-- A second pair out of service is a fatal self-diagnosis (R30, R330). -/
def State.pairsCheck (s : State) : State :=
  let s := s.putBit LE_STATUS_DEGRADED (s.pairsDown != 0)
  if 2 ≤ s.pairsDown then s.enterFailed [30] else s

/-- A pair retired (R30). -/
def State.retirePair (s : State) (p : Nat) : State :=
  if s.pairUp p then
    let s := s.wr LE_STATUS_FAILED_PAIRS (withBits (s.rd LE_STATUS_FAILED_PAIRS) p p 1)
    (s.note 3 .laneRetire 1 [p] 66).pairsCheck
  else s

/-- A sample dropped at its deadline (R35). -/
def State.missSample (s : State) (k : Nat) : State :=
  let s := ((s.putBit (SL_FLAGS_MISS k) true).incSat LE_MISS_COUNT).incSat (SL_MISS_SLOT_MISSED k)
  (s.setSlot k { s.slot k with release := none, ready := false, retried := false }).note 3 .sampleMissed 1 [k] 64

/-- The ready sample that a pair takes: earliest deadline, then lowest slot, whose deadline does not fall before the end
of its evaluation (R32). -/
def State.nextSample (s : State) : Option (Nat × Nat × Nat) :=
  s.le.slots.foldl (fun o q =>
    match q.2.release with
    | some (rel, dl) =>
      if q.2.ready ∧ s.time + 20 ≤ dl then
        match o with
        | some (_, _, d) => if dl < d then some (q.1, rel, dl) else o
        | none => some (q.1, rel, dl)
      else o
    | none => o) none

/-- SAMPLE_EVALUATION: the pair takes the earliest-deadline ready sample; the lanes agree or they do not (R29, R30).
DEDUCED: notes/assumptions/69.md. -/
def execSampleEvaluation (p : Fin 8) (agree : Bool) (s : State) : Host.Outcome State Fault Refusal :=
  if s.bit LE_CTRL_ENABLE ∧ s.pairUp p ∧ tget 0 s.le.busy p ≤ s.time then
    match s.nextSample with
    | none => .next s
    | some (k, rel, dl) =>
      let s := s.onLe fun y => { y with busy := tset 0 y.busy p (s.time + 20) }
      if agree then .next (s.evalSlot k rel dl)
      else
        let x := s.slot k
        let s := if ¬ x.retried ∧ s.time + 40 ≤ dl then
            (s.setSlot k { x with retried := true }).putBit (SL_FLAGS_LANE_RETRY k) true
          else s.missSample k
        .next (s.retirePair p)
  else .next s

/-- CHECK_EVALUATION: a pair's known-answer evaluation, once in every tick, which occupies the pair as every evaluation
does (R29, R30). -/
def execCheckEvaluation (p : Fin 8) (correct : Bool) (s : State) : Host.Outcome State Fault Refusal :=
  if s.pairUp p ∧ tfind s.le.checked p ≠ some (s.time / 5000) ∧ tget 0 s.le.busy p ≤ s.time then
    let s := s.onLe fun y => { y with
      checked := tinsert y.checked p (s.time / 5000), busy := tset 0 y.busy p (s.time + 20) }
    .next (if correct then s else s.retirePair p)
  else .next s

/-- OVERLOAD set, with its log record and doorbell (R34). -/
def State.overload (s : State) : State :=
  if s.bit LE_STATUS_OVERLOAD then s else (s.putBit LE_STATUS_OVERLOAD true).note 3 .overload 1 [] 65

/-- A sample that still waits at its deadline is dropped; one in the ready set then is an overload (R34, R35). -/
def State.dropSample (s : State) (k : Nat) : State :=
  (if (s.slot k).ready then s.overload else s).missSample k

/-- SAMPLE_DEADLINE_MISS: a sample not completed by its deadline (R35). -/
def execSampleDeadlineMiss (k : Fin 4608) (s : State) : Host.Outcome State Fault Refusal :=
  match (s.slot k).release with
  | some (_, dl) => .next (if dl ≤ s.time then s.dropSample k else s)
  | none => .next s

/-! ### Releases (R31 to R34) -/

/-- A sample released; one still waiting is dropped. -/
def State.releaseSlot (s : State) (k dl : Nat) (ready : Bool) : State :=
  let s := if (s.slot k).release.isSome then s.dropSample k else s
  s.setSlot k { s.slot k with release := some (s.time, dl), ready := ready, retried := false }

/-- Plant slots are released in this module state (R44). -/
def plantReleased : ModState → Bool
  | .off | .boot | .failed => false
  | .table | .reactive | .predictive | .hold | .isolate | .shed | .survival | .service => true

/-- The plant samples of a tick boundary (R31). -/
def State.releasePlants (s : State) : State :=
  if s.bit LE_CTRL_ENABLE ∧ plantReleased s.sys.mode then
    (upto 512).foldl (fun s p =>
      let k := 4096 + p
      let per := s.period k / 5000
      let ph := min (s.act (SL_TIMING_PHASE k)) (per - 1)
      if ((s.time - s.lag) / 5000 + per - ph) % per = 0 then s.releaseSlot k (s.time + per * 5000) true else s) s
  else s

/-- The frames in a row that brought a prediction of age 0, counted as each ends; with the second PRED_STALE ends
(R41). -/
def State.freshFrame (s : State) (k : Nat) : State :=
  let x := s.slot k
  let n := if x.predNow then min (x.fresh + 1) 2 else 0
  let s := s.setSlot k { x with fresh := n }
  if n = 2 then s.putBit (SL_FLAGS_PRED_STALE k) false else s

/-- The context samples of a frame boundary (R31, R44). -/
def State.releaseCtxs (s : State) : State :=
  let s := s.onLe fun y => { y with cutoff := false }
  if s.bit LE_CTRL_ENABLE ∧ ctxReleased s.sys.mode s.sys.prior then
    s.live.foldl (fun s c =>
      let s := (s.releaseSlot c (s.time + s.frameCounts) false).freshFrame c
      s.setSlot c { s.slot c with predNow := false }) s
  else s

/-- A waiting context sample is eligible, by its effective mode (R33). -/
def State.ctxEligible (s : State) (k : Nat) (x : LSlot) : Bool :=
  s.vq.unpacked && (s.le.cutoff || x.predNow || s.effMode k != 2)

/-- The newly eligible context samples added to the ready set (R32). -/
def State.readyCtxs (s : State) : State :=
  s.le.slots.foldl (fun s q =>
    if q.1 < 4096 ∧ q.2.release.isSome ∧ ¬ q.2.ready ∧ s.ctxEligible q.1 q.2 then
      s.setSlot q.1 { s.slot q.1 with ready := true }
    else s) s

/-- OVERLOAD: a ready sample can no longer meet its deadline as the tick ends (R34). -/
def State.overloadCheck (s : State) : State :=
  if s.le.slots.any fun q => q.2.ready && (match q.2.release with
      | some (_, dl) => decide (dl < s.time + 20)
      | none => false) then s.overload
  else s

/-- The engine's work at a tick boundary: overload, plant releases, eligible samples, the peak of the ready set. -/
def State.leTick (s : State) : State :=
  let s := (s.overloadCheck.releasePlants).readyCtxs
  let n := (s.le.slots.filter fun q => q.2.ready).length
  s.wr LE_TICK_PEAK (max (s.rd LE_TICK_PEAK) (min n 65535))

/-- CUTOFF_TICK: the waiting context samples become eligible on the newest prediction (R33). -/
def execCutoffTick (s : State) : Host.Outcome State Fault Refusal :=
  match s.sys.lastFrame with
  | some t =>
    let c := min (s.rd LE_FRAME_CUTOFF_TICKS) (s.rd LE_FRAME_FRAME_TICKS - 4)
    .next (if t + c * 5000 ≤ s.time then (s.onLe fun y => { y with cutoff := true }).readyCtxs else s)
  | none => .next s

/-- FRAME_LENGTH_CHANGE: the new length takes effect at a boundary that is a multiple of both, in TABLE only, and
FRAME_ORIGIN keeps the numbers running (R31, R64, R419). -/
def execFrameLengthChange (s : State) : Host.Outcome State Fault Refusal :=
  match s.le.frameTicksNew with
  | some n =>
    if s.sys.mode = .table ∧ s.time % s.frameCounts = 0 ∧ s.time % (n * 5000) = 0 then
      let o := (s.time + 2 ^ 64 - s.frame * (n * 5000) % 2 ^ 64) % 2 ^ 64
      let s := ((s.wr LE_FRAME_FRAME_TICKS n).wr LE_FRAME_CUTOFF_TICKS (min (s.rd LE_FRAME_CUTOFF_TICKS) (n - 4))).wr64
        CK_FRAME_ORIGIN_LO o
      .next ((s.onLe fun y => { y with frameTicksNew := none }).onMg fun y => { y with savedOrigin := o })
    else .next s
  | none => .next s

/-- CTX_SILENT: no record for 4 consecutive frames (R42). -/
def execCtxSilent (c : Fin 4096) (s : State) : Host.Outcome State Fault Refusal :=
  .next (if 4 ≤ tget 0 s.vq.silent c ∧ ¬ s.bit (SL_FLAGS_CTX_SILENT c) then
      (s.putBit (SL_FLAGS_CTX_SILENT c) true).putBit (PB_STATUS_SILENT c) true
    else s)

/-! ### Fallback and return (R46 to R48) -/

/-- VS_TIMEOUT: 30 s on the virtual sensor; the slot goes to TABLE. -/
def execVsTimeout (k : Fin 4608) (s : State) : Host.Outcome State Fault Refusal :=
  .next (if (s.slot k).lastSrc = 2 ∧ 30000 ≤ s.rd (SL_VS_TIME k) then
      let s := s.setSlot k { s.slot k with lastSrc := 3, handDue := true }
      let s := ((s.putBit (SL_FLAGS_FB_VIRTUAL k) false).putBit (SL_FLAGS_FB_TABLE k) true).wr (SL_FB_STATE_SOURCE k) 3
      s.note 3 .feedbackStep 1 [(k : Nat), 3] 68
    else s)

/-- PRIMARY_RESTORE: the primary valid for 10 s; the slot returns to it and vs_time to 0 (R47). DEDUCED:
notes/assumptions/69.md. -/
def execPrimaryRestore (k : Fin 4608) (s : State) : Host.Outcome State Fault Refusal :=
  .next (if (s.slot k).lastSrc ≠ 0 ∧ s.since (s.slot k).validSince (secs 10) then
      let s := s.setSlot k { s.slot k with lastSrc := 0, handDue := true, vsCount := 0, vsSince := none }
      let s := ((s.wr (SL_VS_TIME k) 0).wr (SL_FB_STATE_SOURCE k) 0).putBit (SL_FLAGS_FB_PARTNER k) false
      let s := (s.putBit (SL_FLAGS_FB_VIRTUAL k) false).putBit (SL_FLAGS_FB_TABLE k) false
      s.log 3 .feedbackStep 0 [(k : Nat), 0]
    else s)

/-- PAIR_AGREEMENT_CLEAR: 60 s of agreement clear both pair flags (R48). -/
def execPairAgreementClear (k : Fin 4608) (s : State) : Host.Outcome State Fault Refusal :=
  .next (if s.since (s.slot k).agreeSince (secs 60) then
      (s.putBit (SL_FLAGS_PAIR_DISAGREE k) false).putBit (SL_FLAGS_PAIR_SUSPECT k) false
    else s)

/-! ### Commands on the pool, the channels and the bobbins -/

/-- RC_PAGE_GRANT: a walk of the wait list (R53). -/
def execRcPageGrant (s : State) : Host.Outcome State Fault Refusal := .next s.rcWalk

/-- RC_PERIOD_ESTIMATE: every 10 s, the period that the autocorrelation gives; two successive estimates,
10 s apart and within 1 sample, set PERIOD (R56). DEDUCED: notes/assumptions/70.md. -/
def execRcPeriodEstimate (k : Fin 4096) (est : Nat) (s : State) : Host.Outcome State Fault Refusal :=
  let x := s.slot k
  let due : Bool := match x.estAt with
    | some t => decide (t + secs 10 ≤ s.time)
    | none => true
  if s.actBit (SL_CTRL_EN_RC k) ∧ s.act (SL_RC_CFG_PERIOD k) = 0 ∧ due = true then
    let s := s.setSlot k { x with est := est, estPrev := x.est, estAt := some s.time }
    if 2 ≤ est ∧ est ≤ 16384 ∧ x.estAt.map (· + secs 10) = some s.time ∧ est ≤ x.est + 1 ∧ x.est ≤ est + 1 then
      .next ((s.wr (SL_RC_CFG_PERIOD k) est).putBit (SL_CTRL_APPLY k) true)
    else .next s
  else .next s

/-- INJECTION_START: an armed channel begins at its count, or with a count of 0 at the next release (R57, R59). -/
def execInjectionStart (c : Fin 32) (s : State) : Host.Outcome State Fault Refusal :=
  let k := s.rd (LE_INJ_CTRL_SLOT c)
  let t := s.rd64 (LE_INJ_START_LO c)
  let pre := min (s.rd (LE_INJ_CAP_PRE c)) 1024
  let lead := pre * ((s.rd (LE_INJ_CAP_DECIM c) + 255) % 256 + 1) * s.period k
  if s.rd (LE_INJ_CTRL_STATE c) = 1 ∧ ((t = 0 ∧ (s.slot k).release.isSome) ∨ (t ≠ 0 ∧ t ≤ s.time + lead)) then
    .next ((s.wr (LE_INJ_CTRL_STATE c) 2).setInj c { preLeft := pre })
  else .next s

/-- CAPTURE_DONE: 4,096 entries held (R59). -/
def execCaptureDone (c : Fin 32) (s : State) : Host.Outcome State Fault Refusal :=
  .next (if s.rd (LE_INJ_CTRL_STATE c) = 2 ∧ 4096 ≤ s.rd (LE_INJ_COUNT c) then s.injEnd c 3 else s)

/-- A bobbin's recording ends. -/
def State.bobStop (s : State) (b : Nat) : State :=
  ((s.putBit (BOB_CTRL_ARM b) false).putBit (BOB_STATUS_STOPPED b) true).putBit (BOB_STATUS_ARMED b) false

/-- BOBBIN_POST_COMPLETE: mode 0, POST entries after the trigger (R61). -/
def execBobbinPostComplete (b : Fin 8) (s : State) : Host.Outcome State Fault Refusal :=
  .next (if s.bit (BOB_STATUS_ARMED b) ∧ s.rd (BOB_CTRL_MODE b) = 0 ∧ s.bit (BOB_STATUS_TRIGGERED b) ∧
      (s.bob b).postLeft = 0 then s.bobStop b else s)

/-- BOBBIN_RING_FULL: mode 2, the ring full once (R61). -/
def execBobbinRingFull (b : Fin 8) (s : State) : Host.Outcome State Fault Refusal :=
  .next (if s.bit (BOB_STATUS_ARMED b) ∧ s.rd (BOB_CTRL_MODE b) = 2 ∧ s.bit (BOB_WPTR_WRAPPED b) then s.bobStop b else s)

/-- SLOT_APPLY: CTRL.APPLY written; the parameters are copied at the slot's next sample (R65). -/
def execSlotApply (k : Fin 4608) (s : State) : Host.Outcome State Fault Refusal := .next (s.putBit (SL_CTRL_APPLY k) true)

/-- The pool code at LE_RC_ADDR read or written, and the address moved on (R64). -/
def State.rcAccess (s : State) (v : Option (BitVec 16)) : State :=
  let a := s.rd LE_RC_ADDR
  let s := match v with
    | some w => s.onLe fun y => { y with pool := tset 0 y.pool a w.toInt }
    | none => s
  let c := wrapInt 16 (tget 0 s.le.pool a)
  ((s.wr LE_RC_DATA c).wr LE_RC_ADDR ((a + 1) % 2 ^ 24)).reply { body := leBytes 4 c }

/-- LE_RC_DATA_ACCESS (R64). -/
def execLeRcDataAccess (v : Option (BitVec 16)) (s : State) : Host.Outcome State Fault Refusal := .next (s.rcAccess v)

/-- INJ_CTRL_START: the channel armed with its present settings (R57). START reads 1 until the channel ends (R7). DESIGN
CHOICE: notes/assumptions/93.md. -/
def State.injArm (s : State) (c : Nat) : State :=
  let s := (s.putBit (LE_INJ_CTRL_START c) true).putBit (LE_INJ_CTRL_STOP c) false
  ((s.wr (LE_INJ_CTRL_STATE c) 1).wr (LE_INJ_COUNT c) 0).setInj c {}

/-- INJ_CTRL_START. -/
def execInjCtrlStart (c : Fin 32) (s : State) : Host.Outcome State Fault Refusal := .next (s.injArm c)

/-- INJ_CTRL_STOP: injection and capture end at the next sample; an armed channel ends at once (R57). The channel ends
as aborted, STATE 4, and STOP reads 1 until then; a channel that has ended keeps it until it is armed. DESIGN CHOICE:
notes/assumptions/93.md. -/
def execInjCtrlStop (c : Fin 32) (s : State) : Host.Outcome State Fault Refusal :=
  match s.rd (LE_INJ_CTRL_STATE c) with
  | 1 => .next (s.injEnd c 4)
  | _ => .next (s.putBit (LE_INJ_CTRL_STOP c) true)

/-- A bobbin armed: the ring pointers cleared, recording begins (R61, R66). The mark's VALID bit and the status bits,
BOBBIN_REWIND_LOST among them, clear with the pointers; ARM reads 1 while it records, the other W1S bits from their
write to the next arming (R7). DESIGN CHOICE: notes/assumptions/93.md. -/
def State.bobArm (s : State) (b : Nat) : State :=
  let s := (s.putBit (BOB_CTRL_ARM b) true).putBit (BOB_CTRL_STOP b) false
  let s := (s.putBit (BOB_CTRL_MARK b) false).putBit (BOB_CTRL_SW_TRIG b) false
  let s := (s.wr (BOB_WPTR b) 0).wr (BOB_TRIGPTR b) 0
  let s := (s.putBit (BOB_MARKPTR_VALID b) false).wr (BOB_STATUS b) 0
  (s.putBit (BOB_STATUS_ARMED b) true).setBob b {}

/-- BOB_ARM. -/
def execBobArm (b : Fin 8) (s : State) : Host.Outcome State Fault Refusal := .next (s.bobArm b)

/-- BOB_STOP: recording stops. -/
def execBobStop (b : Fin 8) (s : State) : Host.Outcome State Fault Refusal :=
  let s := s.putBit (BOB_CTRL_STOP b) true
  .next (if s.bit (BOB_STATUS_ARMED b) then s.bobStop b else s)

/-- BOB_MARK: the rewind mark set at the write pointer, valid again (R62, R63). -/
def execBobMark (b : Fin 8) (s : State) : Host.Outcome State Fault Refusal :=
  let s := s.putBit (BOB_CTRL_MARK b) true
  .next (((s.wr (BOB_MARKPTR_IDX b) (s.rd (BOB_WPTR_IDX b))).putBit (BOB_MARKPTR_VALID b) true).setBob b
    { s.bob b with sinceMark := 0 })

/-- BOB_SW_TRIG: a software trigger at the write pointer (R61). DEDUCED: notes/assumptions/70.md. -/
def execBobSwTrig (b : Fin 8) (s : State) : Host.Outcome State Fault Refusal :=
  let s := s.putBit (BOB_CTRL_SW_TRIG b) true
  .next (s.bobTrigger b (s.rd (BOB_WPTR_IDX b)))

end Sys2Proof.Machine
end

