-- ==== Sys2Proof/Machine/TrellisCtl.lean ====
section
/-! DEFINITION. Trellis control (spec 03, R67 to R90; spec 05, R147 to R150): the column map, tiles taking up a stage,
the feed network, the sentinel, failed tiles and lost columns, rotation, and the steps of a commit. -/

namespace Sys2Proof.Machine

/-! ### Tiles and the column map (R67, R78, R90) -/

/-- A tile's state. -/
def State.tile (s : State) (t : Nat) : Tile := tget {} s.tr.tiles t

/-- A tile's state stored. -/
def State.setTile (s : State) (t : Nat) (x : Tile) : State := s.onTr fun y => { y with tiles := tset {} y.tiles t x }

/-- The byte of TR_COLMAP that belongs to a logical column. -/
def colByte (c : Nat) : RF := ⟨(TR_COLMAP (c / 4)).addr, 8 * (c % 4) + 7, 8 * (c % 4)⟩

/-- The physical column of a logical column, where it is in use. -/
def State.physOf (s : State) (c : Nat) : Option Nat :=
  let b := s.rd (colByte c)
  if bitOf b 7 then some (b % 16) else none

/-- The logical column that a physical column holds. -/
def State.logicalOf (s : State) (p : Nat) : Option Nat := (upto 16).find? fun c => s.physOf c == some p

/-- A column is out of service (R84). -/
def State.colLost (s : State) (p : Nat) : Bool := bitOf s.tr.lost p

/-- The columns in service, ascending. -/
def State.colsUp (s : State) : List Nat := (upto 16).filter fun p => !s.colLost p

/-- The next column in service to the east of a column (R78). DEDUCED: notes/assumptions/75.md. -/
def State.eastOf (s : State) (p : Nat) : Nat :=
  (((upto 15).map fun i => (p + 1 + i) % 16).find? fun q => !s.colLost q).getD p

/-- The stages of the committed image. -/
def State.stages (s : State) : List Stage :=
  match s.tr.image with
  | some x => x.stages
  | none => []

/-- The slot of the committed image. -/
def State.imageSlot (s : State) : Nat :=
  match s.tr.image with
  | some x => x.slot
  | none => 0

/-- The tile of a stage on the present map. -/
def State.stageTile (s : State) (n : Nat) : Option Nat :=
  (s.stages[n]?).bind fun g => (s.physOf g.col).map fun p => 16 * g.row + p

/-- The tile that takes a message for a stage: while a retiring column works off the frame before S, that frame's
messages go to it (R80). -/
def State.tileFor (s : State) (n tag : Nat) : Option Nat :=
  match s.stageTile n, s.tr.retiring, s.tr.switchAt with
  | some t, some old, some at_ =>
    if s.eastOf (t % 16) = old ∧ tag % 256 = (at_ + 255) % 256 ∧ (tag / 2 ^ 15) % 2 = 0 then some (t / 16 * 16 + old)
    else some t
  | o, _, _ => o

/-- Trellis rotates: enabled with rotation (R78). -/
def State.rotates (s : State) : Bool := s.bit TR_CTRL_ENABLE && s.bit TR_STATUS_ROT_ACTIVE

/-- The stage of the image that the map puts into a tile. -/
def State.tileStage (s : State) (t : Nat) : Option Nat :=
  (s.logicalOf (t % 16)).bind fun c => (s.stages.zipIdx.find? fun g => g.1.col == c && g.1.row == t / 16).map (·.2)

/-- A tile's STAGE and STATE as its place in the map gives them; a failed tile stays failed (R90). -/
def State.tileState (s : State) (t : Nat) : State :=
  let n := s.tileStage t
  let s' := s.wr (TR_TILE_STAGE t) (n.getD 0xFF)
  if s.rd (TR_TILE_STATE t) = 3 then s'
  else s'.wr (TR_TILE_STATE t) (if n.isSome then 1
    else if s.bit TR_ROT_STATE_SPARE_VALID ∧ s.rd TR_ROT_STATE_SPARE = t % 16 then 2 else 0)

/-- The STATE codes of all tiles. -/
def State.tileStates (s : State) : State := (upto 128).foldl State.tileState s

/-- The column in service whose next column to the east is a given one: where the stages of a retiring column went. -/
def State.westOf (s : State) (p : Nat) : Option Nat := (upto 16).find? fun q => s.eastOf q == p && !s.colLost q

/-- The tile of the same row that mirrors a tile's context state: the spare while the tile's column is being captured,
and after the switch the tile that took its stage (R79). DEDUCED: notes/assumptions/82.md. -/
def State.mirrorTo (s : State) (t : Nat) : Option Nat :=
  if s.rd TR_ROT_STATE_PHASE = 2 ∧ s.rd TR_ROT_STATE_RETIRING = t % 16 ∧ (s.logicalOf (t % 16)).isSome then
    some (t / 16 * 16 + s.rd TR_ROT_STATE_SPARE)
  else if s.tr.retiring = some (t % 16) then
    (s.westOf (t % 16)).map fun q => t / 16 * 16 + q
  else none

/-! ### Loading a stage (R98, R99, R138, R139) -/

/-- HALT in the scalar slot (R98, R105). -/
def haltWord : Nat := 0x3F * 2 ^ 120

/-- The instruction memory of a code section: 128-byte bundles, HALT beyond them (R91, R98). -/
def codeOf (l : List Byte) : Table Nat :=
  let n := l.length / 128
  (upto 2048).foldl (fun t b =>
    if b < n then (upto 8).foldl (fun t k => tset 0 t (8 * b + k) (fieldLE l (128 * b + 16 * k) 16)) t
    else tset 0 t (8 * b) haltWord) []

/-- Lines written into a data SRAM from a line address on. -/
def putLines (t : Table (List Byte)) (line : Nat) (l : List Byte) : Table (List Byte) :=
  (upto ((l.length + 63) / 64)).foldl (fun t i =>
    tset (zeros 64) t ((line + i) % 32768) (((l.drop (64 * i)).take 64 ++ zeros 64).take 64)) t

/-- The inbound channels of a channel table (R113). DESIGN CHOICE: notes/assumptions/12.md. -/
def inChannels (l : List Byte) : Table InCh :=
  (upto 8).foldl (fun t c =>
    match Config.inBuffer l c with
    | some (base, len) => tinsert t c { base := base, len := len, msgs := [] }
    | none => t) []

/-- The outbound channels of a channel table (R113). DESIGN CHOICE: notes/assumptions/12.md. -/
def outChannels (l : List Byte) : Table TDest :=
  (upto 8).foldl (fun t c =>
    match Config.outDest l c with
    | some (0, n, ch) => tinsert t c (.stage n ch)
    | some (1, _, _) => tinsert t c .out
    | some (_, _, _) => tinsert t c .vs
    | none => t) []

/-- Code and constants of a stage loaded into a tile's memories (R79, R148), with the sentinel table's context state of
STATE_STRIDE lines at SENT_BASE and, where the image declares one, its plant vector at SENT_PLANT (R102, R103). -/
def State.loadCode (s : State) (slot n : Nat) (g : Stage) (plant : Bool) (x : Tile) : Tile :=
  let l := s.sectOf slot 5 n
  let sram := (s.sectsOf slot 3 n).foldl (fun t d => putLines t d.target (s.sectBytes slot d)) x.sram
  let sram := putLines sram g.sentBase ((upto (64 * g.stride)).map (Config.sentState l))
  let sram := if plant then putLines sram g.sentPlant ((upto 256).flatMap fun i => leBytes 4 (Config.sentPlant l i).toNat)
    else sram
  { x with imem := codeOf (s.sectOf slot 2 n), sram := sram }

/-- The committed image declares a plant vector (R138). -/
def State.plantUsed (s : State) : Bool := (s.tr.image.map fun x => bitOf x.flags 1).getD false

/-- A tile takes up a stage: every register at its reset value, m2, m3 and m5 from the image, bundle 0 (R99, R120).
DESIGN CHOICE: notes/assumptions/95.md. -/
def State.takeUp (s : State) (slot n : Nat) (g : Stage) (plant : Bool) (x : Tile) : Tile :=
  let ch := s.sectOf slot 6 n
  { imem := x.imem, sram := x.sram, scrubbed := x.scrubbed,
    m2 := g.sentBase % 32768 * 2 ^ 32 + g.stride % 512 * 2 ^ 16 + g.stateBase % 32768,
    m3 := g.sentPlant % 32768 * 2 ^ 16 + b2n plant * 2 ^ 15 + g.plantBase % 32768,
    m5 := g.row * 2 ^ 12 + g.col * 2 ^ 8 + n, inCh := inChannels ch, outCh := outChannels ch }

/-- The initial state of one context row in a stage's state lines: two bytes of each of the bunch's lines (R71).
DESIGN CHOICE: notes/assumptions/77.md. -/
def State.initRow (s : State) (slot c : Nat) (s' : State) (p : Stage × Nat) : State :=
  match s'.stageTile p.2 with
  | some t =>
    let x := s'.tile t
    let l := s.sectOf slot 4 p.2
    let put (x : Tile) : Tile := { x with sram := (upto p.1.stride).foldl (fun m i =>
      let line := (p.1.stateBase + c / 32 * p.1.stride + i) % 32768
      tset (zeros 64) m line (putAt (tget (zeros 64) m line)
        [(2 * (c % 32), l.getD (2 * i) 0), (2 * (c % 32) + 1, l.getD (2 * i + 1) 0)])) x.sram }
    let s' := s'.setTile t (put x)
    match s'.mirrorTo t with
    | some q => s'.setTile q (put (s'.tile q))
    | none => s'
  | none => s'

/-- The image's initial state written into a context's row of every stage (R71). DESIGN CHOICE:
notes/assumptions/77.md. -/
def State.initCtx (s : State) (c : Nat) : State := s.stages.zipIdx.foldl (s.initRow s.imageSlot c) s

/-- Every stage of the committed image loaded into its tile, taken up, and the state of every admitted row written
(R148). DESIGN CHOICE: notes/assumptions/95.md. -/
def State.loadImage (s : State) : State :=
  match s.tr.image with
  | some x =>
    let s := x.stages.zipIdx.foldl (fun s p =>
      match s.stageTile p.2 with
      | some t => s.setTile t (s.takeUp x.slot p.2 p.1 (bitOf x.flags 1) (s.loadCode x.slot p.2 p.1 (bitOf x.flags 1) (s.tile t)))
      | none => s) s
    s.admitted.foldl State.initCtx s
  | none => s

/-- The columns mapped for an image in a form: logical columns on the lowest columns in service, with rotation the
highest one spare (R78). DEDUCED: notes/assumptions/75.md. -/
def State.mapColumns (s : State) (x : Image) (rot : Bool) : State :=
  let up := s.colsUp
  let s := (upto 16).foldl (fun s c =>
    s.wr (colByte c) (match up[c]? with
      | some p => if c < x.cols then 128 + p else 0
      | none => 0)) s
  let spare := up.getLast?.getD 15
  let s := ((s.putBit TR_ROT_STATE_SPARE_VALID rot).wr TR_ROT_STATE_SPARE (if rot then spare else 15)).wr
    TR_ROT_STATE_RETIRING (if rot then s.eastOf spare else 0)
  s.tileStates

/-! ### Stopping and starting (R84, R147 to R149) -/

/-- Trellis stops: ENABLE 0, the rotation aborted, nothing left in the pipeline. DEDUCED: notes/assumptions/81.md. -/
def State.trStop (s : State) : State :=
  let s := (s.rotAbort.putBit TR_CTRL_ENABLE false).putBit TR_STATUS_ROT_ACTIVE false
  (s.onTr fun y => { y with
    mesh := [], toEnter := [], sentOn := false, frameOn := false, firstFrame := none, warmGood := 0 }).trStatus.wr
    TR_ROT_STATE_PHASE 0

/-- The model is no longer admitted: its predictions' virtual sensors end with it (R76). -/
def State.trUnadmit (s : State) : State :=
  (s.putBit TR_STATUS_ADMITTED false).onLe fun y => { y with vs := [] }

/-- The registers that admission writes, and the map, for the committed image in a form (R90, R143). -/
def State.trForm (s : State) (x : Image) (rot : Bool) : State :=
  let s := ((s.wr TR_ADMIT x.bunches).wr TR_II x.ii).wr TR_LATENCY x.lat
  ((s.putBit TR_CTRL_ROT_EN rot).mapColumns x rot).onTr fun y => { y with form := if rot then 1 else 2 }

/-- ENABLE comes to be set: ROT_EN selects the clock and whether the rotation is in effect, and its period counts from
here (R68, R81, R90). The tiles go on where they stood. DESIGN CHOICE: notes/assumptions/101.md. -/
def State.trSelect (s : State) : State :=
  let rot := s.bit TR_CTRL_ROT_EN
  let s := s.putBit TR_STATUS_ROT_ACTIVE rot
  let s := (s.wr TR_CLOCK_MHZ (formClock rot)).wr TR_ROT_STATE_PHASE (b2n rot)
  (s.onTr fun y => { y with
    lastSwitch := s.time, selftestDone := false, preloaded := false, rotDue := false }).trStatus

/-- Every tile of the image takes up its stage again and frames run (R68, R99, R148): rotation counts from here. -/
def State.trStart (s : State) : State :=
  ((s.putBit TR_CTRL_ENABLE true).putBit TR_STATUS_ADMITTED true).trSelect

/-! ### The frame (R71 to R73) -/

/-- The plant vector (R71): entries 128 to 255 name no field node, since no configuration entry chooses one. DEDUCED:
notes/assumptions/84.md. -/
def State.plantVector (s : State) : List F32 :=
  ((upto 48).map fun n => (s.srcRtd n).val) ++ ((upto 24).map fun n => (s.srcMa n).val) ++
    ((upto 8).map fun n => (s.srcPulse n).val) ++ ((upto 16).map fun r => (s.rackFlow r).val) ++
    ((upto 4).map fun n => fdiv (f32OfInt (s.rd (PF_SPEED n))) (f32OfInt 100)) ++
    ((upto 8).map fun n => fdiv (f32OfInt (s.rd (PF_FSPEED n))) (f32OfInt 100)) ++
    ((upto 20).map fun n => fdiv (f32OfInt (s.rd (AO_VAL n))) (f32OfInt 100)) ++ List.replicate 128 0

/-- The frame's plant vector written into the tiles that declare it (R71, R103). -/
def State.plantDeliver (s : State) : State :=
  let l := s.plantVector.flatMap fun x => leBytes 4 x.toNat
  let ls := (upto 16).map fun i => (l.drop (64 * i)).take 64
  s.stages.zipIdx.foldl (fun s p =>
    match s.stageTile p.2 with
    | some t =>
      let x := s.tile t
      if x.plantOn then s.setTile t (x.feedLines (x.plantBase + 16 * (s.frame % 2)) ls) else s
    | none => s) s

/-- A bunch is occupied: one of its contexts is admitted (R72). -/
def State.occupied (s : State) : List Nat :=
  let cs := s.live
  (upto 128).filter fun b => cs.any fun c => c / 32 == b

/-- The bunches of the last frame that have not entered are skipped, and the present frame opens (R72, R73). -/
def State.trFrame (s : State) : State :=
  let s := if s.tr.frameOn then s.addSat TR_SKIPPED s.tr.toEnter.length else s
  if s.trRuns then
    let s := s.plantDeliver
    let s := s.tr.freshRows.foldl State.initCtx s
    let s := s.wr TR_OCC s.occupied.length
    s.onTr fun y => { y with
      toEnter := s.occupied, rows := s.live, entered := 0, frameStart := s.time, frameOn := true, freshRows := [],
      firstFrame := some (y.firstFrame.getD s.frame) }
  else s.onTr fun y => { y with toEnter := [], frameOn := false }

/-- Rotation at a frame boundary: ROT_NOW counts as the expired period, and a preload not complete sets ROT_LATE
(R81). DEDUCED: notes/assumptions/82.md. -/
def State.trRotBoundary (s : State) : State :=
  if s.rotates ∧ s.trRuns then
    let s := if s.bit TR_CTRL_ROT_NOW then
        (s.putBit TR_CTRL_ROT_NOW false).onTr fun y => { y with rotDue := true }
      else s
    if s.tr.rotDue ∧ ¬ s.tr.preloaded then s.putBit TR_STATUS_ROT_LATE true else s
  else s

/-! ### Failed tiles and lost columns (R84, R86, R87) -/

/-- Why a tile fails (R84). -/
inductive TileCause where
  | sentinel | ecc | overflow | selftest
deriving DecidableEq, Repr

/-- The time added to a tile's record of failures (R86). -/
def addFailure (l : List (Nat × List Nat)) (t now : Nat) : List (Nat × List Nat) :=
  if l.any (fun p => p.1 == t) then l.map fun p => if p.1 = t then (t, p.2 ++ [now]) else p else l ++ [(t, [now])]

/-- The status bits of a failed tile (R90). -/
def State.tileBits (s : State) (t : Nat) : TileCause → State
  | .sentinel => ((s.putBit (TR_TILE_SENT_BAD t) true).putBit TR_STATUS_SENT_FAIL true)
  | .ecc =>
    let s := (s.putBit (TR_TILE_UE t) true).putBit TR_STATUS_SRAM_UE true
    if s.bit TR_ECC_UE_VALID then s else (s.putBit TR_ECC_UE_VALID true).wr TR_ECC_UE_TILE t
  | .overflow => (s.putBit (TR_TILE_STREAM_OVF t) true).putBit TR_STATUS_STREAM_OVF true
  | .selftest => s.putBit (TR_TILE_SELFTEST_FAIL t) true

/-- The commit, changed. -/
def State.onCommit (s : State) (f : Commit → Commit) : State := s.onTr fun y => { y with commit := y.commit.map f }

/-- A commit step done: its journal, log record and doorbell 129. A reload after a failure has no journal left. -/
def State.commitStep (s : State) (j n : Nat) : State := (s.journalStep j n).note 2 .commitStep 0 [n] 129

/-- The committed image is not admitted in any form: no logical column is in use, Trellis stays stopped and the module in
REACTIVE (R84). It stays the committed image, its slot locked (R140). DESIGN CHOICE: notes/assumptions/101.md. -/
def State.unadmitted (s : State) : State :=
  let s := s.trUnadmit.onTr fun y => { y with readmit := false, enableDue := false }
  let s := (upto 16).foldl (fun s c => s.wr (colByte c) 0) s
  (s.wr TR_ADMIT 0).tileStates.note 2 .commitFailed 1 [] 128

/-- No model is admitted, and no commit is left (R149). -/
def State.noModel (s : State) : State := s.unadmitted.onTr fun y => { y with commit := none }

/-- Step 4 of a commit once Trellis has stopped: admission on the columns left, then the load of step 5 (R147 to
R149); `none` where the image fits no form. DEDUCED: notes/assumptions/81.md. -/
def State.beginLoad (s : State) (c : Commit) : Option State :=
  match s.admitForm c.image c.form s.frameCounts c.bunches with
  | some rot =>
    let s := s.onTr fun y => { y with image := some c.image, readmit := false, commit := some { c with step := 5 } }
    some (s.trForm c.image rot)
  | none => none

/-- A commit fails at step 5 or 6: outcome FAILED and the previous image reloaded in the same way from step 4, in the
first form of R84 that fits the columns left; when that fails too no model is admitted (R149). DEDUCED: notes/assumptions/81.md. -/
def State.commitFail (s : State) : State :=
  match s.tr.commit with
  | none => s
  | some c =>
    let s := s.trStop.trUnadmit
    if c.fallback then s.noModel
    else
      let s := (s.journalEnd c.journal .failed c.step).note 2 .commitFailed 2 [c.step] 128
      let s := s.onTr fun y => { y with image := c.oldImage, previous := c.oldPrevious, commit := none, enableDue := false }
      match c.oldImage with
      | some x =>
        match s.beginLoad { c with image := x, form := 0, bunches := x.bunches, fallback := true } with
        | some t => t
        | none => s.noModel
      | none => s.noModel

/-- A column is lost (R84): the module goes REACTIVE, Trellis stops, and a re-admission is due. A commit before step 5
takes the columns left, in the first form of R84 that fits (R144); one at step 5 or 6 fails (R149). DEDUCED:
notes/assumptions/75.md. DEDUCED: notes/assumptions/81.md. -/
def State.loseColumn (s : State) (p : Nat) : State :=
  if s.colLost p then s
  else
    let s := (s.onTr fun y => { y with lost := y.lost + 2 ^ p }).putBit TR_STATUS_COLUMN_LOST true
    let s := ((s.log 2 .columnLost 2 [p]).rotAbort).tileStates
    if s.bit TR_STATUS_ADMITTED ∨ s.tr.commit.isSome then
      let s := s.toReactive.trStop.trUnadmit
      match s.tr.commit with
      | some c =>
        if c.step = 5 ∨ c.step = 6 then s.commitFail
        else (s.onCommit fun c => { c with wasPredictive := false, form := 0 }).onTr fun y => { y with readmit := decide (5 ≤ c.step) }
      | none => s.onTr fun y => { y with readmit := true }
    else s

/-- A tile fails: its status, its record in the log and the NOR, and its column (R84, R86). -/
def State.tileFail (s : State) (t : Nat) (why : TileCause) : State :=
  if s.rd (TR_TILE_STATE t) = 3 then s.tileBits t why
  else
    let s := ((s.tileBits t why).wr (TR_TILE_STATE t) 3).log 2 .tileFailed 2 [t]
    (s.onMg fun y => { y with failedTiles := addFailure y.failedTiles t s.time }).loseColumn (t % 16)

/-- What a KW-144 check of a tile's memories finds: a corrected error counted, an uncorrectable one fails the tile
(R87). -/
def State.tileEcc (s : State) (t : Nat) (e : KwErr) : State :=
  match kwCheck e with
  | .ok => s
  | .corrected => (s.incSat (TR_TILE_CE_COUNT t)).incSat TR_ECC_CE
  | .uncorrectable => s.tileFail t .ecc

/-! ### The sentinel (R82, R83, R119) -/

/-- The sentinel table of a stage. -/
def State.sentTable (s : State) (n : Nat) : List Byte := s.sectOf s.imageSlot 5 n

/-- A channel of a stage has carried all its sentinel messages, each right. -/
def State.sentGood (s : State) (n ch : Nat) : Bool :=
  decide (Config.sentCount (s.sentTable n) ch ≤ tget 0 s.tr.sentMsgs (8 * n + ch)) && !s.tr.sentWrong.contains (8 * n + ch)

/-- Every channel that feeds a stage has carried its sentinel messages rightly (R83: all its inputs were correct). -/
def State.inputsCorrect (s : State) (n : Nat) : Bool :=
  s.stages.zipIdx.all fun p =>
    match s.stageTile p.2 with
    | some t => (s.tile t).outCh.all fun q =>
        match q.2 with
        | .stage m _ => m != n || s.sentGood p.2 q.1
        | .out | .vs => true
    | none => true

/-- A stage has sent a wrong answer. DEDUCED: notes/assumptions/78.md. -/
def State.sentBad (s : State) (n : Nat) : Bool := (upto 8).any fun ch => s.tr.sentWrong.contains (8 * n + ch)

/-- A stage has failed to answer: a message is missing, or it ended the bunch too early (R83, R119). DEDUCED:
notes/assumptions/78.md. -/
def State.sentMissing (s : State) (n : Nat) : Bool :=
  s.tr.sentEarly.contains n || (upto 8).any fun ch =>
    decide (tget 0 s.tr.sentMsgs (8 * n + ch) < Config.sentCount (s.sentTable n) ch)

/-- The first stage in pipeline order that a condition holds of while its inputs were correct. -/
def State.charged (s : State) (bad : Nat → Bool) : Option Nat :=
  (upto s.stages.length).find? fun n => bad n && s.inputsCorrect n

/-- A frame that is not good (R83): counted, good frames back to 0, SENT_FAIL. -/
def State.sentLost (s : State) : State :=
  (((s.incSat TR_SENT_FAIL_COUNT).wr TR_SENT_GOOD_FRAMES 0).putBit TR_STATUS_SENT_FAIL true).onTr fun y => { y with
    goodBase := 0, warmGood := 0, sentOn := false }

/-- A sentinel failure: the frame is not good, and the tile charged fails (R83). -/
def State.sentFail (s : State) (n : Nat) : State :=
  let s := s.sentLost
  match s.stageTile n with
  | some t =>
    let s := ((s.wr TR_SENT_FIRST_TILE t).putBit TR_SENT_FIRST_VALID true).log 2 .sentinelFail 2 [t, n]
    s.tileFail t .sentinel
  | none => s

/-- A good frame (R83): counted; the first ends step 6 of a commit, and good frames after the warm-up count for step 7
and TR_WARM (R147, R337). DEDUCED: notes/assumptions/83.md. -/
def State.sentPass (s : State) : State :=
  let s := s.incSat TR_SENT_GOOD_FRAMES
  let warm : Bool := match s.tr.firstFrame, s.tr.image with
    | some f, some x => decide (f + x.warm ≤ s.tr.sentFrame)
    | _, _ => false
  let s := s.onTr fun y => { y with
    sentOn := false, goodBase := y.goodBase + 1, warmGood := if warm then y.warmGood + 1 else y.warmGood }
  match s.tr.commit with
  | some c =>
    if c.step = 6 ∧ s.tr.enableDue = false then
      let s := if c.fallback then s.note 2 .readmission 1 [s.tr.form] 128 else s.commitStep c.journal 6
      s.onCommit fun c => { c with step := 7 }
    else s
  | none => s

/-- The last sentinel's answers judged at the next one's entry (R83). DEDUCED: notes/assumptions/78.md. DESIGN CHOICE:
notes/assumptions/101.md. -/
def State.sentJudge (s : State) : State :=
  if s.tr.sentOn then
    let n := s.stages.length
    if (upto n).any fun k => s.sentBad k || s.sentMissing k then
      match s.charged fun k => s.sentBad k || s.sentMissing k with
      | some k => s.sentFail k
      | none => s.sentLost
    else s.sentPass
  else s

/-! ### Feed, mesh and outputs (R71, R74 to R76, R114, R117, R118) -/

/-- A message delivered to a tile's receive buffer; one that finds too few free lines fails the tile (R70, R114). -/
def State.deliverTo (s : State) (t ch tag : Nat) (ls : List (List Byte)) : State :=
  match (s.tile t).arrive ch tag ls with
  | some x => s.setTile t x
  | none => s.tileFail t .overflow

/-- A feed message delivered to every input stage on channel 0 (R117). -/
def State.feed (s : State) (tag : Nat → Nat) (ls : Nat → List (List Byte)) : State :=
  (s.stages.zipIdx.filter fun p => bitOf p.1.flags 0).foldl (fun s p =>
    match s.stageTile p.2 with
    | some t => s.deliverTo t 0 (tag p.2) (ls p.2)
    | none => s) s

/-- The age of a context's record in frames, saturating at 15 (R71). DEDUCED: notes/assumptions/84.md. -/
def State.recAge (s : State) (c : Nat) : Nat :=
  match s.telem c with
  | some r => min 15 (s.frame - r.frame)
  | none => 15

/-- A bunch header line (R117): frame number, byte 8 (bunch number and SENT), row mask, ages. -/
def headerLine (frame b mask : Nat) (ages : List Byte) : List Byte :=
  leBytes 8 frame ++ leBytes 1 b ++ zeros 3 ++ leBytes 4 mask ++ ages ++ zeros 32

/-- A message of a header and 32 input rows, two lines each (R117). -/
def feedLines (header : List Byte) (row : Nat → List Byte) : List (List Byte) :=
  header :: (upto 32).flatMap fun r =>
    let l := (row r ++ zeros 128).take 128
    [l.take 64, l.drop 64]

/-- The bunch header line of a bunch (R71, R117). -/
def State.bunchHeader (s : State) (b : Nat) : List Byte :=
  let cs := s.tr.rows
  headerLine s.frame b ((upto 32).foldl (fun m r => if cs.contains (32 * b + r) then m + 2 ^ r else m) 0)
    ((upto 16).flatMap fun q => leBytes 1 (s.recAge (32 * b + 2 * q) + 16 * s.recAge (32 * b + 2 * q + 1)))

/-- The input row of a context, as its record's words were written (R71). DEDUCED: notes/assumptions/84.md. -/
def State.inputRow (s : State) (c : Nat) : List Byte :=
  match s.telem c with
  | some r => r.words.flatMap (leBytes 8)
  | none => []

/-- The 65 lines of a bunch's feed message (R117). -/
def State.bunchLines (s : State) (b : Nat) : List (List Byte) :=
  feedLines (s.bunchHeader b) fun r => s.inputRow (32 * b + r)

/-- The sentinel's feed message for an input stage, from its sentinel table (R82, R117): SENT and bunch 0 in byte 8.
DESIGN CHOICE: notes/assumptions/12.md. -/
def State.sentLines (s : State) (n : Nat) : List (List Byte) :=
  let l := s.sentTable n
  let h := Config.sentHeader l
  feedLines (headerLine h.1 128 h.2.1 (leBytes 16 h.2.2)) (Config.sentRow l)

/-- The tag of that message: it agrees with bytes 0 and 8 of its header (R113, R117). -/
def State.sentTag (s : State) (n : Nat) : Nat :=
  let h := (s.sentLines n).headD []
  fieldLE h 0 1 + 256 * fieldLE h 8 1

/-- Timebase counts that `n` tile cycles last, compared: `n` cycles have passed `d` counts after their start. -/
def State.cyclesIn (s : State) (n d : Nat) : Bool := decide (n * 100 ≤ d * s.rd TR_CLOCK_MHZ)

/-- The most recent frame number whose low 8 bits are given (R118). -/
def State.frameOf (s : State) (f8 : Nat) : Nat := s.frame - (s.frame + 256 - f8 % 256) % 256

/-- One output row written to the prediction store, or counted as bad (R74, R75); the row of a context that is removed,
or that the row mask did not hold, is discarded (R71). -/
def State.outRow (s : State) (bunch frame : Nat) (held : Bool) (ls : List (List Byte)) (r : Nat) : State :=
  let c := 32 * bunch + r
  if s.bit (PB_STATUS_ADMITTED c) ∧ ¬ s.bit (PB_STATUS_RELEASING c) ∧ s.tr.rows.contains c then
    let l := ls.getD (2 * r) [] ++ ls.getD (2 * r + 1) []
    let lanes : List F32 := (upto 32).map fun i => BitVec.ofNat 32 (fieldLE l (4 * i) 4)
    if (lanes.take 3).all fisFin then
      if held then s
      else
        (s.onLe fun y => { y with preds := tset none y.preds c (some { frame := frame, lanes := lanes }) }).setSlot c
          { s.slot c with predNow := (s.slot c).predNow || frame == s.frame }
    else s.incSat TR_BAD_OUT
  else s

/-- Output rows of a frame are withheld: its W warm-up frames (R148). -/
def State.withheld (s : State) (frame : Nat) : Bool :=
  match s.tr.firstFrame, s.tr.image with
  | some f, some x => decide (frame < f + x.warm)
  | _, _ => true

/-- A bunch that leaves the pipeline is the last of its frame (R90). -/
def State.lastBunch (s : State) (frame b : Nat) : Bool :=
  s.tr.lastOf.contains (frame, b) && (frame != s.frame || s.tr.toEnter.isEmpty)

/-- A bunch's outputs reach Trellis control (R74, R75, R118); the exit of a frame's last bunch is timed (R90). -/
def State.takeOut (s : State) (m : Flight) : State :=
  if m.lines.length ≠ 64 then s.addSat TR_BAD_OUT 32
  else if m.tag / 2 ^ 15 % 2 = 1 then s
  else
    let fr := s.frameOf (m.tag % 256)
    let s := (upto 32).foldl (State.outRow · (m.tag / 256 % 128) fr (s.withheld fr) m.lines) s
    if s.lastBunch fr (m.tag / 256 % 128) then s.wr TR_LAST_EXIT (s.time - (s.tr.frameStart - (s.frame - fr) * s.frameCounts))
    else s

/-- A virtual-sensor message reaches Trellis control (R76, R118); from step 3 of a commit on until its step 8 none is
valid (R148). -/
def State.takeVs (s : State) (m : Flight) : State :=
  if m.tag / 2 ^ 15 % 2 = 1 ∨ (s.tr.commit.any fun c => decide (3 ≤ c.step)) = true then s
  else
    let fr := s.frameOf (m.tag % 256)
    let n := min (16 * m.lines.length) (match s.tr.image with
      | some x => x.vsCount
      | none => 0)
    (upto n).foldl (fun s i => s.onLe fun y => { y with
      vs := tset none y.vs i (some (BitVec.ofNat 32 (fieldLE (m.lines.getD (i / 16) []) (4 * (i % 16)) 4), fr)) }) s

/-- A tile of the retiring column has sent its last message of the frame before S (R79, R80): it has ended its last
bunch of that frame, or halted, and its engine has nothing left. DEDUCED: notes/assumptions/82.md. -/
def State.retireeDone (s : State) (t : Nat) : Bool :=
  let x := s.tile t
  let at_ := s.tr.switchAt.getD 0
  x.sendQ.isEmpty && x.outbox.isEmpty &&
    (x.halted || s.rd (TR_TILE_STATE t) == 3 || x.inCh.isEmpty ||
      match s.tr.lastOf.find? fun p => p.1 + 1 == at_ with
      | some p => x.lastBend == some (256 * p.2 + p.1 % 256)
      | none => true)

/-- A message from the new column of a rotation waits for the last one of the retiring column to the same place (R80):
the retired column is the spare, east of the new one. DEDUCED: notes/assumptions/82.md. -/
def State.heldBack (s : State) (m : Flight) : Bool :=
  let old := s.rd TR_ROT_STATE_SPARE
  let t := m.src / 16 * 16 + old
  s.rotates && s.eastOf (m.src % 16) == old && m.src != t &&
    ((s.tr.retiring == some old && !s.retireeDone t) || s.tr.mesh.any fun q => q.src == t && q.dest == m.dest)

/-- The first message in flight to a sink, and the mesh without it. -/
def State.nextFlight (s : State) (d : TDest → Bool) : Option (Flight × State) :=
  match s.tr.mesh.findIdx? fun m => d m.dest && !s.heldBack m with
  | some i => (s.tr.mesh[i]?).map fun m => (m, s.onTr fun y => { y with mesh := y.mesh.eraseIdx i })
  | none => none

/-! ### Re-admission (R84) -/

/-- A new frame length re-checked against the admitted model: the shortest whole number of ticks at which it fits
(R145); `n` bounds the search. -/
def State.fitTicks (s : State) (x : Image) : Nat → Nat → Nat
  | 0, t => t
  | n + 1, t => if s.fits x (s.bit TR_CTRL_ROT_EN) (t * 5000) x.bunches then t else s.fitTicks x n (t + 1)

end Sys2Proof.Machine
end

