-- ==== Sys2Proof/Machine/Cellar.lean ====
section
/-! DEFINITION. DDR4 and the cellar archive (spec 14): error handling, the patrol scrub, host accesses, archive codes,
tier 0 and tier 1 records. -/

namespace Sys2Proof.Machine

/-! ### Errors (R344, R347) -/

/-- The channel of a DDR offset (R342). -/
def ddrChannel (a : Nat) : Nat := a / 256 % 8

/-- A DRAM event record kept for the host, with its MSI-X vector (R361, R366). -/
def State.dramEvent (s : State) (unc : Bool) (a : Nat) : State :=
  (s.onMb fun y => { y with dramEvents := y.dramEvents ++ [(unc, a, s.time)] }).msixSend 1

/-- More than CE_LIMIT corrected errors of a channel within 24 h: DIMM_WARN (R347). -/
def State.dimmCheck (s : State) (ch : Nat) : State :=
  let ts := (s.time :: tget [] s.ca.ceTimes ch).filter fun t => decide (s.time < t + secs 86400)
  let s := s.onCa fun y => { y with ceTimes := tset [] y.ceTimes ch ts }
  if max 1 (s.rd CA_CE_LIMIT) < ts.length ∧ ¬ bitOf (s.rd CA_STATUS_DIMM_WARN) ch then
    (s.wr CA_STATUS_DIMM_WARN (s.rd CA_STATUS_DIMM_WARN + 2 ^ ch)).log 13 .dimmWarn 1 [ch]
  else s

/-- A single-bit error corrected and the burst rewritten. -/
def State.ddrCorrected (s : State) (a : Nat) : State :=
  let ch := ddrChannel a
  let s := ((s.incSat (CA_CE_COUNT ch)).putBit CA_STATUS_CE_SEEN true).dimmCheck ch
  (s.dramEvent false a).note 13 .ddrCorrected 0 [a] 448

/-- An uncorrectable error: the burst is poisoned until it is next written. DEDUCED: notes/assumptions/57.md. -/
def State.ddrPoison (s : State) (a : Nat) : State :=
  let b := a / 64
  let s := if s.ca.poison.contains b then s else s.onCa fun y => { y with poison := b :: y.poison }
  let s := if s.bit CA_UE_ADDR_HI_VALID then s
    else ((s.wr CA_UE_ADDR_LO (b * 64 % 2 ^ 32)).wr CA_UE_ADDR_HI_ADDR (a / 2 ^ 32)).putBit CA_UE_ADDR_HI_VALID true
  let s := (s.incSat CA_UE_COUNT).putBit CA_STATUS_UE_SEEN true
  (s.dramEvent true a).note 13 .ddrUncorrected 1 [a] 449

/-- A read of one burst delivers poison: the burst was poisoned before, or its error cannot be corrected. -/
def State.ddrBad (s : State) (a : Nat) (e : Ecc) : Bool := s.ca.poison.contains (a / 64) || e == .uncorrectable

/-- The effects of a read of one burst. A burst poisoned before makes no new record. DEDUCED:
notes/assumptions/57.md. -/
def State.ddrRead (s : State) (a : Nat) (e : Ecc) : State :=
  if s.ca.poison.contains (a / 64) then s
  else match e with
    | .ok => s
    | .corrected => s.ddrCorrected a
    | .uncorrectable => s.ddrPoison a

/-! ### Host accesses (R342, R363) -/

/-- The DDR4 serves accesses: trained, and not in self-refresh. -/
def State.ddrUp (s : State) : Bool := s.rd CA_STATUS_CH_OK == 255

/-- The host's HDM decoder reaches the device: Memory_Active (R362). -/
def State.hdmUp (s : State) : Bool := s.mb.linkUp && s.mb.memoryActive

/-- Slots of the model store that are locked: the committed and the previous image's (R140). -/
def State.lockedSlots (s : State) : List Nat :=
  (s.tr.image.map (·.slot)).toList ++ (s.tr.previous.map (·.slot)).toList

/-- A reply of data with the return code 0, or 2 where it carries poison. -/
def hdmReply (poison : Bool) (bs : List Byte) : Reply := { rc := if poison then 2 else 0, body := bs }

/-- HDM_READ: the host reads the 64-byte burst at an HDM offset; `e`: the errors of its beats (R343, R344). DEDUCED:
notes/assumptions/57.md. -/
def execHdmRead (a : Nat) (e : BurstErr) (s : State) : Host.Outcome State Fault Refusal :=
  if ¬ s.hdmUp ∨ 0x7800000000 ≤ a then .next (s.reply { rc := 1 })
  else if s.sys.mode = .survival then .next (s.reply (hdmReply true (zeros 64)))
  else
    let l := kwBurst e
    .next ((s.ddrRead a (kwCheck l)).reply (hdmReply (s.ddrBad a (kwCheck l)) (kwDeliver l (s.bytesAt (a / 64 * 64) 64))))

/-- HDM_WRITE: bytes written at an HDM offset. DEDUCED: notes/assumptions/57.md. -/
def execHdmWrite (a : Nat) (bs : List (BitVec 8)) (s : State) : Host.Outcome State Fault Refusal :=
  if ¬ s.hdmUp ∨ 0x7800000000 < a + bs.length then .next s
  else if a < 0x7000000000 then .next (s.incSat CA_HDMWR_DISCARD)
  else if s.sys.mode = .survival then .next s
  else
    let slot := (a - 0x7000000000) / 0x80000000
    if s.lockedSlots.contains slot then .next (s.log 13 .slotConflict 0 [slot, a])
    else .next (s.ddrWrite a bs)

/-- The pages of the whole DDR4. -/
def scrubPages : Nat := 2 ^ 27

/-- The pass interval in counts: SCRUB_HOURS, 1 to 24 h (R346). -/
def State.scrubInterval (s : State) : Nat := secs (3600 * clampNat 1 24 (s.rd CA_CTRL_SCRUB_HOURS))

/-- The pages of the pass under way that its pace has reached by now (R346). -/
def State.scrubDue (s : State) : Nat :=
  min scrubPages ((s.time - s.ca.scrubAt.getD s.time) * scrubPages / s.scrubInterval)

/-- The scrub reads `n` pages of the pass under way, with the errors found in them; at its end the pass is complete and the next one
begins where its interval does (R344, R346). -/
def State.scrubPart (s : State) (n : Nat) (found : List (Nat × BurstErr)) : State :=
  let pos := s.rd CA_SCRUB_POS
  let here := found.filter fun p => decide (pos ≤ p.1 / 4096) && decide (p.1 / 4096 < pos + n)
  let s := here.foldl (fun (s : State) p => s.ddrRead p.1 (kwCheck (kwBurst p.2))) s
  if pos + n < scrubPages then (s.wr CA_SCRUB_POS (pos + n)).putBit CA_STATUS_SCRUB_ACTIVE true
  else
    let s := (s.wr CA_SCRUB_POS 0).wr CA_SCRUB_PASSES (s.rd CA_SCRUB_PASSES + 1)
    let next := s.ca.scrubAt.getD s.time + s.scrubInterval
    ((s.putBit CA_STATUS_SCRUB_ACTIVE false).onCa fun y => { y with scrubAt := some next }).note 13 .scrubPass 0 [] 450

/-- PATROL_SCRUB: the scrub reads up to `pages` pages of 4 KiB from its position, no further than its pace; `found` gives the
errors of bursts by DDR offset, of which those in the pages read are met (R346). DEDUCED: notes/assumptions/39.md. -/
def execPatrolScrub (pages : Nat) (found : List (Nat × BurstErr)) (s : State) : Host.Outcome State Fault Refusal :=
  if s.bit CA_CTRL_SCRUB_EN ∧ s.ddrUp ∧ ¬ s.ca.selfRefresh ∧ s.sys.mode ≠ .survival then
    let s := s.onCa fun y => { y with scrubAt := some (y.scrubAt.getD s.time) }
    let n := min pages (s.scrubDue - s.rd CA_SCRUB_POS)
    if n = 0 then .next s
    else
      let t := s.scrubPart n found
      let m := min (pages - n) t.scrubDue
      .next (if t.rd CA_SCRUB_POS = 0 ∧ 0 < m ∧ m < scrubPages then t.scrubPart m found else t)
  else .next s

/-! ### Archive codes (R349) -/

/-- A signed archive code; 0x8000 means no value. -/
def archSigned (v : FV) : Int :=
  match v with
  | .fin _ _ _ => fvToIntSat (-32767) 32767 v
  | .nan | .inf _ => -32768

/-- An unsigned archive code; 0xFFFF means no value. -/
def archUnsigned (v : FV) : Int :=
  match v with
  | .fin _ _ _ => fvToIntSat 0 65534 v
  | .nan | .inf _ => 65535

/-- The eight archive codes of a record, channel 0 first. -/
def TRec.codes (r : TRec) : List Int :=
  let t (w : Nat) (hi : Bool) : Int := archSigned ((unpackF32 (r.half w hi)).mul (fvInt 128))
  [t 2 false, t 3 true, t 7 false, t 7 true, t 5 false,
   archUnsigned ((unpackF32 (r.half 3 false)).mul (fvInt 8)), archUnsigned ((unpackF32 (r.half 5 true)).mul (fvInt 65534)),
   archUnsigned (unpackF32 (r.half 6 false))]

/-- The code that means no value: context channel 8c + ch, plant channel 32,768 + n. -/
def noCode (key : Nat) : Int := if key < 32768 ∧ 5 ≤ key % 8 then 65535 else -32768

/-- An RTD before its offset, in 1/256 °C; a STANDBY takes it from the forwarded value (R243, R327, R356). -/
def State.rtdRaw (s : State) (n : Nat) : Int :=
  if s.sys.role = .standby then
    signedOf 32 (s.fin (SN_RTDVAL n)) - ((unpackF32 (s.rdf (SN_RTDOFF n))).scale 8).toIntRNE
  else (s.snIn n).uncorr

/-- The plant vector before calibration (R349): RTDs without their offsets, rack flows without their gains. -/
def State.plantRaw (s : State) : List F32 :=
  ((upto 48).map fun n => fmul (f32OfInt (s.rtdRaw n)) f256th) ++
    (s.plantVector.drop 48).take 32 ++ ((upto 16).map fun r => (s.srcFlow (s.rd (SN_FLOWSRC r))).val) ++ s.plantVector.drop 96

/-- The archive codes of plant channels 0 to 319. DEDUCED: notes/assumptions/58.md. -/
def State.plantCodes (s : State) : List Int :=
  (s.plantRaw.zipIdx.map fun p =>
    if p.2 < 48 then archSigned ((unpackF32 p.1).mul (fvInt 128))
    else archSigned ((unpackF32 p.1).div (unpackF32 (BitVec.ofNat 32 (s.cfg 0x0090 p.2 0x3C23D70A))))) ++
  ((upto 16).map fun r => archSigned (((unpackF32 (s.rdf (SN_FLOWGAIN r))).add (fvInt (-1))).mul (fvInt 65536))) ++
  (upto 48).map fun n => archSigned ((unpackF32 (s.rdf (SN_RTDOFF n))).mul (fvInt 4096))

/-! ### Samples of a frame (R350, R353, R354) -/

/-- One code into a channel's accumulator; `sample`: it is a tier 0 sample whose presence bit is 1. -/
def caAdd (t : Table CaAcc) (key : Nat) (code : Int) (sample : Bool) : Table CaAcc :=
  let a := (tfind t key).getD { lo := 0, hi := 0, any := false, sum := 0, count := 0 }
  if code = noCode key then t
  else tinsert t key { lo := if a.any then min a.lo code else code, hi := if a.any then max a.hi code else code, any := true,
                       sum := if sample then a.sum + code else a.sum, count := if sample then a.count + 1 else a.count }

/-- A sample of the present frame, the `i`th of its period, appended (newest first); frames missing before it repeat
the last sample without presence. -/
def State.caSample (s : State) (i key : Nat) (code : Option Int) : State :=
  s.onCa fun y =>
    match y.cur with
    | some p =>
      let prev := (tfind y.last key).getD (noCode key)
      let l := tget [] p.samples key
      let l := List.replicate (i - l.length) (prev, false) ++ l
      { y with cur := some { p with samples := tinsert p.samples key ((code.getD prev, code.isSome) :: l) },
               last := tinsert y.last key (code.getD prev) }
    | none => y

/-- Bytes the engine has read of a record (R354): its lines. DEDUCED: notes/assumptions/58.md. -/
def TRec.cost (r : TRec) : Nat := 64 * hdrLines (r.words.headD 0)

/-- The records read within a frame's budget, in order, and those dropped. -/
def caBudget : Nat → List TRec → List TRec × List TRec
  | _, [] => ([], [])
  | n, r :: rs => if r.cost ≤ n then let x := caBudget (n - r.cost) rs; (r :: x.1, x.2) else ([], r :: rs)

/-- Dropped records counted, their contexts' blocks marked, and saturation reported once per second (R354). -/
def State.caDrop (s : State) (rs : List TRec) : State :=
  if rs.isEmpty then s
  else
    let s := (s.addSat CA_DECIM rs.length).putBit CA_STATUS_SATURATED true
    let s := s.onCa fun y => { y with cur := y.cur.map fun p => { p with
      decim := rs.foldl (fun l r => if l.contains r.ctx then l else r.ctx :: l) p.decim } }
    if s.ca.satAt.isNone ∨ s.since s.ca.satAt (secs 1) then
      (s.note 13 .saturated 0 [rs.length] 451).onCa fun y => { y with satAt := some s.time }
    else s

/-- The archive is written: enabled, in a state from TABLE on except SURVIVAL (R356). -/
def State.archives (s : State) : Bool := s.bit CA_CTRL_ENABLE && s.sys.mode.fromTable && s.sys.mode != .survival

/-- A period with no sample in it. -/
def emptyPeriod (num f frame : Nat) (broken : Bool) : CaPeriod :=
  { num := num, time := num * 256 * f, frame := frame, samples := [], decim := [], broken := broken }

/-- The period of the frame that began at a count becomes the period under way; the one before it waits to be
written, and after it the periods that went by without a frame, as SURVIVAL or a lost step left them (R351, R352, R356). DEDUCED:
notes/assumptions/58.md. -/
def State.caRoll (s : State) (start frame : Nat) : State :=
  let f := max 1 s.frameCounts
  let num := start / (256 * f)
  let i := start / f % 256
  let fresh := emptyPeriod num f (frame - i) (i != 0)
  match s.ca.cur with
  | some p =>
    if p.num = num ∧ p.time = num * 256 * f then s
    else
      let same := p.time == p.num * 256 * f
      let gone := if same then (upto (min 65536 (num - p.num - 1))).map fun k =>
          emptyPeriod (p.num + 1 + k) f (p.frame + 256 * (k + 1)) true
        else []
      s.onCa fun y => { y with ended := y.ended ++ { p with broken := p.broken || !same } :: gone, cur := some fresh }
  | none => s.onCa fun y => { y with cur := some fresh }

/-- The period under way is interrupted (R352, R356). -/
def State.caBreak (s : State) : State := s.onCa fun y => { y with cur := y.cur.map fun p => { p with broken := true } }

/-- The records of the frame that ends now, and the plant samples taken as it opened, brought into the archive (R350, R353, R354).
DEDUCED: notes/assumptions/58.md. -/
def State.caTake (s : State) (f : Nat) : State :=
  let start := s.time - s.lag - f
  let s := s.caRoll start (s.frame - 1)
  let i := start / f % 256
  let sec := start / secs 1
  let rs := s.vq.toCellar
  let cs := s.admitted
  let newest := cs.filterMap fun c => (newestOf rs c).map fun r => (c, r)
  let used := newest.foldl (fun n p => n + p.2.cost) 0
  let rest := (cs.flatMap fun c => rs.filter fun r => r.ctx == c).filter fun r => !newest.any fun p => p.2 == r
  let b := caBudget (20 * f - used) rest
  let s := s.caDrop b.2
  let s := cs.foldl (fun (s : State) c =>
    let r := newest.find? fun p => p.1 == c
    (upto 8).foldl (fun s ch => s.caSample i (8 * c + ch) (r.map fun p => (p.2.codes).getD ch 0)) s) s
  let acc := newest.foldl (fun t p => (upto 8).foldl (fun t ch => caAdd t (8 * p.1 + ch) (p.2.codes.getD ch 0) true) t)
    (tget [] s.ca.accs sec)
  let acc := b.1.foldl (fun t r => (upto 8).foldl (fun t ch => caAdd t (8 * r.ctx + ch) (r.codes.getD ch 0) false) t) acc
  let plant := if s.bit CA_CTRL_PLANT_EN then s.ca.plantHeld.zipIdx else []
  let acc := plant.foldl (fun t p => caAdd t (32768 + p.2) p.1 true) acc
  let s := (plant.take 256).foldl (fun (s : State) p => s.caSample i (32768 + p.2) (some p.1)) s
  s.onCa fun y => { y with accs := tinsert y.accs sec acc }

/-- The archive at a frame boundary: the frame that ends is taken, and the plant vector of the one that opens is held for it. -/
def State.caFrame (s : State) : State :=
  let s := s.putBit CA_STATUS_RUNNING s.archives
  let f := max 1 s.frameCounts
  let s := if ¬ s.archives ∨ s.time < f + s.lag then s.caBreak else s.caTake f
  (s.onVq fun y => { y with toCellar := [] }).onCa fun y => { y with plantHeld := s.plantCodes }

/-! ### Tier 0 blocks (R350 to R352) -/

/-- The signed quotient by 2^k, to nearest even. -/
def rneInt (x : Int) (k : Nat) : Int := if x < 0 then -(rneShift x.natAbs k : Int) else rneShift x.natAbs k

/-- Zigzag: 0, −1, 1, −2, … to 0, 1, 2, 3, …. -/
def zigzag (q : Int) : Nat := if q < 0 then 2 * q.natAbs - 1 else 2 * q.natAbs

/-- The coded differences of samples 1 on, each against the reconstruction. -/
def caQuant (lo hi : Int) (k : Nat) : Int → List Int → List Nat
  | _, [] => []
  | xr, x :: xs =>
    let q := rneInt (x - xr) k
    zigzag q :: caQuant lo hi k (clampInt lo hi (xr + q * 2 ^ k)) xs

/-- The bits that values take with a Rice parameter. -/
def riceBits (k : Nat) (zs : List Nat) : Nat := zs.foldl (fun n z => n + (z / 2 ^ k + 1 + k)) 0

/-- The Rice parameter that gives the fewest bits. -/
def bestRice (zs : List Nat) : Nat :=
  (upto 16).foldl (fun b k => if riceBits k zs < riceBits b zs then k else b) 0

/-- The smallest step exponent whose coding fits 1,728 bits. -/
def caStep (lo hi x : Int) (xs : List Int) : Nat :=
  ((upto 16).find? fun k => let zs := caQuant lo hi k x xs; decide (riceBits (bestRice zs) zs ≤ 1728)).getD 15

/-- One Rice code, in the order its bits are emitted. -/
def riceCode (k z : Nat) : List Bool := List.replicate (z / 2 ^ k) true ++ false :: (upto k).map fun i => bitOf z i

/-- Bits, least significant first, as a number. -/
def bitsNat (l : List Bool) : Nat := l.foldr (fun b n => b2n b + 2 * n) 0

/-- A tier 0 block of 256 samples, oldest first, each with its presence bit. -/
def caBlock (key : Nat) (valid decim : Bool) (frame : Nat) (l : List (Int × Bool)) : List Byte × Nat :=
  let lo : Int := if key < 32768 ∧ 5 ≤ key % 8 then 0 else -32768
  let hi : Int := if key < 32768 ∧ 5 ≤ key % 8 then 65535 else 32767
  let x := (l.headD (noCode key, false)).1
  let xs := (l.drop 1).map (·.1)
  let k := caStep lo hi x xs
  let zs := caQuant lo hi k x xs
  let r := bestRice zs
  (leBytes 1 (16 * r + k) ++ leBytes 1 (b2n valid + 2 * b2n decim) ++ leBytes 2 (wrapInt 16 x) ++ leBytes 4 frame ++
    leBytes 32 (bitsNat (l.map (·.2))) ++ leBytes 216 (bitsNat (zs.flatMap (riceCode r))), k)

/-- The 256 samples of a channel in a period, oldest first. -/
def CaPeriod.channel (p : CaPeriod) (key : Nat) : List (Int × Bool) :=
  let l := tget [] p.samples key
  let prev := (l.headD (noCode key, false)).1
  (List.replicate (256 - l.length) (prev, false) ++ l).reverse

/-- One block of a period written at its place. DEDUCED: notes/assumptions/58.md. -/
def State.caWrite (s : State) (p : CaPeriod) (key a : Nat) (valid : Bool) : State :=
  if valid then
    let b := caBlock key true (p.decim.contains (key / 8)) p.frame (p.channel key)
    (s.ddrWrite a b.1).addSat CA_QUANT_BLOCKS (if key < 32768 ∧ 0 < b.2 then 1 else 0)
  else s.ddrWrite a (zeros 256)

/-- TIER0_BLOCK_WRITE: the oldest ended period is written, blocks first, index entry last; contexts not admitted and
interrupted periods have VALID 0. In SURVIVAL, and with the archive off, periods wait (R352, R356). -/
def execTier0BlockWrite (s : State) : Host.Outcome State Fault Refusal :=
  match (if s.archives then s.ca.ended else []) with
  | [] => .next s
  | p :: rest =>
    let s := s.onCa fun y => { y with ended := rest }
    let slot := p.num % 21504
    let s := (upto 32768).foldl (fun (s : State) key =>
      s.caWrite p key ((slot * 32768 + key) * 256) (!p.broken && s.bit (PB_STATUS_ADMITTED (key / 8)))) s
    let s := s.ddrWrite (0x6E80000000 + 8 * slot) (leBytes 8 p.time)
    if s.bit CA_CTRL_PLANT_EN then
      let ps := p.num % 65536
      let s := (upto 256).foldl (fun (s : State) n =>
        s.caWrite p (32768 + n) (0x6200000000 + (ps * 256 + n) * 256) !p.broken) s
      .next (s.ddrWrite (0x6E80000000 + 0x100000 + 8 * ps) (leBytes 8 p.time))
    else .next s

/-! ### Tier 1 (R353) -/

/-- The mean code of an accumulator, rounded to nearest even. -/
def CaAcc.mean (a : CaAcc) : Int :=
  ((FV.fin (decide (a.sum < 0)) a.sum.natAbs 0).div (.fin false a.count 0)).toIntRNE

/-- The six bytes of an entry: minimum, mean, maximum. -/
def caEntry (t : Table CaAcc) (key : Nat) : List Byte :=
  match tfind t key with
  | some a => leBytes 2 (wrapInt 16 a.lo) ++ leBytes 2 (wrapInt 16 (if a.count = 0 then noCode key else a.mean)) ++
      leBytes 2 (wrapInt 16 a.hi)
  | none => (List.replicate 3 (leBytes 2 (wrapInt 16 (noCode key)))).flatten

/-- The entries of one second written (R353). -/
def State.rackSecond (s : State) (sec : Nat) : State :=
  let acc := tget [] s.ca.accs sec
  let a := sec % 1223338
  let s := (upto 32768).foldl (fun (s : State) k => s.ddrWrite (0x2A00000000 + (a * 32768 + k) * 6) (caEntry acc k)) s
  let s := s.ddrWrite (0x6E80000000 + 0x200000 + 8 * a) (leBytes 8 (secs sec))
  if s.bit CA_CTRL_PLANT_EN then
    let b := sec % 3355443
    let s := (upto 320).foldl (fun (s : State) n =>
      s.ddrWrite (0x6300000000 + (b * 320 + n) * 6) (caEntry acc (32768 + n))) s
    s.ddrWrite (0x6E80000000 + 0x1000000 + 8 * b) (leBytes 8 (secs sec))
  else s

/-- The second of the first frame that the archive has not yet taken: the seconds before it are complete. -/
def State.rackLimit (s : State) : Nat := (s.sys.lastFrame.getD 0 - s.lag) / secs 1

/-- RACKING: every second that has passed, and whose frames have all been taken, is folded into its entries, each for itself
(R353). DEDUCED: notes/assumptions/58.md. -/
def execRacking (s : State) : Host.Outcome State Fault Refusal :=
  let n := s.rackLimit
  if s.archives ∧ s.ca.second < n then
    let s := (upto (n - s.ca.second)).foldl (fun t k => t.rackSecond (s.ca.second + k)) s
    .next (s.onCa fun y => { y with second := n, accs := y.accs.filter fun q => decide (n ≤ q.1) })
  else .next s

end Sys2Proof.Machine
end

