-- ==== Sys2Proof/Machine/Rules.lean ====
section
/-! DEFINITION. What a value written to a register or a configuration field becomes: register images, ranges and clamps
(R7, R38, R66, R377, R378, R468). -/

namespace Sys2Proof.Machine

/-! ### Ranges of register fields -/

/-- How a field's value is brought into its range; the first argument is the whole word. -/
inductive Range where
  /-- Between two numbers. -/
  | num (lo hi : Nat)
  /-- One value applied as another. -/
  | asVal (v r : Nat)
  /-- A rack number: 16 to 30 applied as 31. -/
  | rack
  /-- A binary32 between two numbers. -/
  | flo (lo hi : F32)
  /-- At most the field of the same word at [hi:lo]. -/
  | upTo (hi lo : Nat)
deriving DecidableEq, Repr

/-- A rule for one field of a row of registers `n` long, `stride` bytes apart; `bus`: the field says "clamped", so a
direct write is clamped too. -/
structure RangeRule where
  f : RF
  stride : Nat
  n : Nat
  r : Range
  bus : Bool
deriving DecidableEq, Repr

/-- A value brought into its range. -/
def Range.fix (r : Range) (w v : Nat) : Nat :=
  match r with
  | .num lo hi => clampNat lo hi v
  | .asVal x y => if v = x then y else v
  | .rack => if 16 ≤ v ∧ v ≤ 30 then 31 else v
  | .flo lo hi => (fclamp lo hi (BitVec.ofNat 32 v)).toNat
  | .upTo hi lo => min v (bitsOf w hi lo)

/-- The ranges that the register tables state, in the order of the hub addresses. -/
def rangeRules : List RangeRule :=
  [⟨DIC_CMASK_THRESH 0, 0x200, 9, .num 0 16, false⟩, ⟨DIC_MOD_INTERVAL 0, 0x200, 9, .num 0 1000, true⟩,
   ⟨DIC_GCFG_TIME 0, 0x10, 16, .num 0 1000, true⟩, ⟨LE_FRAME_FRAME_TICKS, 0, 1, .num 5 40, true⟩,
   ⟨LE_INJ_CAP_PRE 0, 0x20, 32, .num 0 1024, true⟩, ⟨VQ_PKT_TIMEOUT, 0, 1, .num 10 10000, true⟩,
   ⟨VQ_NOTICE_BASE, 0, 1, .num 0 1951, true⟩, ⟨VQ_CR_QUOTA 0, 0x20, 4096, .num 0 16, true⟩,
   ⟨PB_SLEW, 0, 1, .num 1 100, false⟩, ⟨PB_EMERG_ISOL_PCT, 0, 1, .num 0 100, false⟩,
   ⟨PB_EMERG_EMERG_PCT, 0, 1, .num 5 50, true⟩, ⟨PB_UIO_MAX_FLIGHT, 0, 1, .num 1 64, false⟩,
   ⟨PB_UIO_TIMEOUT, 0, 1, .num 100 50000, false⟩] ++
  [⟨SN_FLOWGAIN 0, 4, 16, .flo 0x3F733333 0x3F866666, true⟩, ⟨SN_RTDCFG_WIRES 0, 0x10, 48, .asVal 0 3, false⟩,
   ⟨SN_RTDCFG_PARTNER 0, 0x10, 48, .num 0 47, false⟩, ⟨SN_RTDCFG_LEAD 0, 0x10, 48, .num 0 10000, true⟩,
   ⟨SN_RTDOFF 0, 4, 48, .flo 0xBE4CCCCD 0x3E4CCCCD, true⟩, ⟨SN_MACFG_PARTNER 0, 0x10, 24, .num 0 23, false⟩,
   ⟨SN_PICFG_MODE 0, 0x10, 8, .asVal 3 0, false⟩, ⟨SN_PICFG_TIMEOUT 0, 0x10, 8, .num 10 60000, false⟩,
   ⟨PF_PMGR_N_DUTY, 0, 1, .asVal 0 1, false⟩, ⟨PF_ROT_HOURS, 0, 1, .num 24 2000, true⟩,
   ⟨PF_STOPCFG_DP_COLLAPSE, 0, 1, .num 5 80, true⟩, ⟨PF_STOPCFG_PULSE_GAP, 0, 1, .num 2 20, true⟩,
   ⟨PF_PCFG_PPR 0, 0x20, 4, .num 1 8, false⟩, ⟨PF_FCFG_PPR 0, 0x20, 8, .num 1 8, false⟩,
   ⟨AO_CFG_SAFE 0, 0x10, 20, .num 0 10000, false⟩] ++
  [⟨LK_WET, 0, 1, .num 1 100, false⟩, ⟨LK_ROPECFG_RACK 0, 0x10, 16, .rack, false⟩,
   ⟨LK_ROPECFG_OHM_M 0, 0x10, 16, .num 10 50, true⟩, ⟨LK_ROPECFG_LENGTH 0, 0x10, 16, .num 0 6000, true⟩,
   ⟨LK_PTCFG_RACK 0, 0x10, 16, .rack, false⟩, ⟨SV_CTRL_PEAK_MAX, 0, 1, .num 2 9, true⟩,
   ⟨SV_KINK_SEAT_MS, 0, 1, .num 0 20, true⟩, ⟨SV_KINK_BLANK_MS, 0, 1, .num 1 20, true⟩,
   ⟨SV_KINK_KINK_MA, 0, 1, .num 10 200, true⟩, ⟨SV_TIMING_REOPEN_MS, 0, 1, .num 40 500, true⟩,
   ⟨SV_TIMING_IDLE_MIN, 0, 1, .num 1 10, true⟩, ⟨SV_CHCFG_ROLE 0, 0x20, 36, .asVal 3 0, false⟩,
   ⟨SV_CHCFG_RACK 0, 0x20, 36, .rack, false⟩, ⟨SV_CHI_PEAK_MA 0, 0x20, 36, .num 500 1600, true⟩,
   ⟨SV_CHI_HOLD_MA 0, 0x20, 36, .num 100 300, true⟩] ++
  [⟨FB_CTRL_PROTO 0, 0x1000, 4, .asVal 3 0, false⟩, ⟨FB_NBT_SJW 0, 0x1000, 4, .upTo 18 12, true⟩,
   ⟨FB_DBT_SJW 0, 0x1000, 4, .upTo 15 12, true⟩, ⟨FB_TTCFG_LEN 0, 0x1000, 4, .num 25 1000, true⟩,
   ⟨FB_TTCFG_TX_ENABLE 0, 0x1000, 4, .asVal 0 1, false⟩, ⟨FB_TTCFG_NCOL 0, 0x1000, 4, .num 1 32, true⟩,
   ⟨FB_GCTRL_BASE, 0, 1, .num 0 1984, true⟩, ⟨NV_CFG_FMT 0, 0x10, 1024, .asVal 7 6, false⟩,
   ⟨NV_CFG_PERIOD 0, 0x10, 1024, .asVal 0 1, false⟩, ⟨TW_BAND_LOOP, 0, 1, .flo 0x3DCCCCCD 0x41200000, true⟩,
   ⟨TW_XCHK_CONSEC, 0, 1, .asVal 0 1, false⟩, ⟨TW_GRACE, 0, 1, .num 10 200, true⟩,
   ⟨TW_GUARD, 0, 1, .num 20 200, true⟩, ⟨CA_CTRL_SCRUB_HOURS, 0, 1, .num 1 24, true⟩,
   ⟨CA_CE_LIMIT, 0, 1, .asVal 0 1, false⟩, ⟨TR_CTRL_CAPTURE_LEAD, 0, 1, .num 1 16, true⟩,
   ⟨TR_ROT_PERIOD, 0, 1, .num 1 600, true⟩]

/-- A trip filter's rack (R300): four channels of sixteen. -/
def tripRackRules : List RangeRule := (upto 4).map fun n => ⟨FB_TRIP_RACK n 0, 4, 16, .rack, false⟩

/-- The rule's field at a hub address, if it is one of the rule's registers. -/
def RangeRule.at? (r : RangeRule) (a : Nat) : Bool :=
  decide (r.f.addr ≤ a) && decide (r.stride = 0 → a = r.f.addr) &&
    decide ((a - r.f.addr) % max 1 r.stride = 0) && decide ((a - r.f.addr) / max 1 r.stride < r.n)

/-- A word with every field at its address brought into its range. DEDUCED: notes/assumptions/18.md. -/
def fixWord (rules : List RangeRule) (a w : Nat) : Nat :=
  (rules.filter fun r => r.at? a).foldl (fun w r => withBits w r.f.hi r.f.lo (r.r.fix w (bitsOf w r.f.hi r.f.lo))) w

/-- The word that a direct write leaves (R7): only the ranges whose fields say "clamped". -/
def busWord (a w : Nat) : Nat := fixWord (rangeRules.filter (·.bus)) a w

/-- The writable part of a register image: reserved and read-only bits at 0. -/
def writableBits (a w : Nat) : Nat :=
  match findRow a with
  | some (r, _) => r.fields.foldl (fun n f =>
      if f.acc = .rw ∨ f.acc = .rwl then n + bitsOf w f.hi f.lo * 2 ^ f.lo else n) 0
  | none => 0

/-- A register image as configuration applies it (R377, R378). -/
def imageWord (a w : Nat) : Nat := fixWord (rangeRules ++ tripRackRules) a (writableBits a w)

/-! ### Source and target codes (R66) -/

/-- The largest index of a source class. -/
def srcTop (c : Nat) : Option Nat :=
  match c with
  | 0 => some 0 | 1 => some 47 | 2 => some 23 | 3 => some 7 | 4 => some 15 | 5 => some 1023 | 6 => some 511
  | 7 => some 1023 | 8 => some 15 | 9 => some 15 | _ => none

/-- SN_FLOWSRC of a rack (R252): class 2 or 3 only; other codes are clamped to the reset value. -/
def flowSrcFix (r v : Nat) : Nat :=
  if v / 4096 = 2 then 0x2000 + min (v % 4096) 23 else if v / 4096 = 3 then 0x3000 + min (v % 4096) 7 else 0x2000 + r

/-- The largest index of a target class. -/
def tgtTop (c : Nat) : Option Nat :=
  match c with
  | 0 => some 0 | 1 => some 3 | 2 => some 7 | 3 => some 19 | 4 => some 3 | 5 => some 511 | _ => none

/-- A code with its index clamped; none for a class that the use does not have. -/
def fixCode (top : Nat → Option Nat) (v : Nat) : Option Nat :=
  (top (v / 4096 % 16)).map fun t => if v / 4096 % 16 = 0 then 0 else v / 4096 % 16 * 4096 + min (v % 4096) t

/-! ### Loop parameters (R38, R65, R467, R468) -/

/-- A finite binary32 between two numbers; a NaN or an infinity lies in no range. -/
def fixFlo (lo hi : F32) (v : Nat) : Option Nat :=
  let x : F32 := BitVec.ofNat 32 v
  if fisFin x then some (fclamp lo hi x).toNat else none

/-- Any finite binary32. -/
def anyFinite (v : Nat) : Option Nat := if fisFin (BitVec.ofNat 32 v) then some (v % 2 ^ 32) else none

/-- MAIN_FS in L/min (R378). -/
def State.mainFs (s : State) : F32 := BitVec.ofNat 32 (s.cfg 0x0054 0 0x447A0000)

/-- The SETPOINT range of a plant loop named in R209 (R467). -/
def State.setpointRange (s : State) (p : Nat) : Option (F32 × F32) :=
  if p = 0 then some (0x41200000, if flt s.dpMax 0x41200000 then 0x41200000 else s.dpMax)
  else if p = 1 then some (0, s.mainFs)
  else if p = 4 ∨ (24 ≤ p ∧ p ≤ 31) then some (0x41700000, 0x42340000)
  else if 8 ≤ p ∧ p ≤ 23 then some (0, 0x447A0000)
  else none

/-- The target range of a chain of a slot (R468). -/
def State.targetRange (s : State) (k : Nat) (second : Bool) : F32 × F32 :=
  if k < 4096 then (0, if second then 0x447A0000 else 0x457FF000)
  else
    let t := s.rd (SL_OUT_TARGET_TGT k)
    if 1 ≤ t / 4096 ∧ t / 4096 ≤ 4 then (0, 0x42C80000)
    else if t / 4096 = 5 then (s.setpointRange (t % 4096)).getD (0xC9742400, 0x49742400)
    else (0xC9742400, 0x49742400)

/-- The output target of a plant loop that R209 names. -/
def namedTarget (p : Nat) : Option Nat :=
  if p = 0 then some 0x1000 else if p = 1 then some 0x3011 else if p = 4 then some 0x3010
  else if 8 ≤ p ∧ p ≤ 23 then some (0x3000 + (p - 8)) else if 24 ≤ p ∧ p ≤ 31 then some (0x2000 + (p - 24)) else none

/-- A TIMING word with PHASE at most the period in ticks minus 1 (R65). -/
def State.phaseFix (s : State) (k w : Nat) : Nat :=
  let n := clampNat 1 20 (w % 32)
  let p := if k < 4096 then s.rd LE_FRAME_FRAME_TICKS else if bitOf w 5 then 100 * n else n
  withBits w 16 6 (min (bitsOf w 16 6) (p - 1))

/-- A loop parameter word at a descriptor offset brought into its range (R38); none where it is a structural error. -/
def State.loopFix (s : State) (k off v : Nat) : Option Nat :=
  let tenK := fixFlo 0xC61C4000 0x461C4000 v
  match off with
  | 0x00 => some (withBits (writableBits (SL_CTRL k).addr v) 2 0 (min (v % 8) 4))
  | 0x04 =>
    let w := writableBits (SL_TIMING k).addr v
    some (s.phaseFix k (withBits (withBits w 21 17 (clampNat 1 16 (bitsOf w 21 17))) 4 0 (clampNat 1 20 (w % 32))))
  | 0x08 =>
    match fixCode srcTop (v % 65536), fixCode srcTop (v / 65536 % 65536) with
    | some a, some b => some (a + b * 65536)
    | _, _ => none
  | 0x0C => fixCode srcTop (v % 65536)
  | 0x10 =>
    (fixCode tgtTop (v % 65536)).map fun c => (if k < 4096 then none else namedTarget (k - 4096)).getD c
  | 0x14 => if k < 4096 then fixFlo 0 0x41F00000 v
      else match s.setpointRange (k - 4096) with
        | some (lo, hi) => fixFlo lo hi v
        | none => anyFinite v
  | 0x18 | 0x38 | 0x40 | 0x70 | 0x78 => tenK
  | 0x1C => fixFlo 0 0x47C35000 v
  | 0x20 => fixFlo 0 0x42C80000 v
  | 0x24 => fixFlo 0x40000000 0x42C80000 v
  | 0x28 | 0x7C => fixFlo 0 0x447A0000 v
  | 0x44 => fixFlo 0 0x461C4000 v
  | 0x48 => fixFlo 0x3F666666 0x3F800000 v
  | 0x4C => fixFlo 0x35800000 0x43800000 v
  | 0x50 =>
    let per := v % 32768
    some (min (bitsOf v 22 16) 64 * 65536 + (if per = 0 then 0 else clampNat 2 16384 per))
  | 0x54 | 0x58 => fixFlo (s.targetRange k false).1 (s.targetRange k false).2 v
  | 0x80 | 0x84 => fixFlo (s.targetRange k true).1 (s.targetRange k true).2 v
  | 0x5C | 0x88 => fixFlo 0 0x49742400 v
  | 0x60 => some (writableBits (SL_TABLE_SEL k).addr v)
  | 0x68 => fixFlo 0x3DCCCCCD 0x40A00000 v
  | 0x6C => if v % 65536 = 0 then some 0 else if v / 4096 % 16 = 7 then fixCode srcTop (v % 65536) else none
  | 0x74 => fixFlo 0xC7C35000 0x47C35000 v
  | 0x2C | 0x30 | 0x34 | 0x3C | 0x64 => anyFinite v
  | _ => none

/-- The descriptor offset that a loop parameter identifier names; 0x3C0 and 0x3C4 stand for T1 and T2. -/
def loopOffset (ident : Nat) : Option Nat :=
  if 0x1000 ≤ ident ∧ ident ≤ 0x1022 then some ((ident - 0x1000) * 4)
  else if ident = 0x10F0 ∨ ident = 0x10F1 then some ((ident - 0x1000) * 4)
  else none

/-- The balancing loop of an isolated rack runs MANUAL at ISO_POS until it reopens: a CTRL or MANUAL word given
meanwhile is kept for then (R220); the word that stands now is returned. -/
def State.isoKeep (s : State) (k off v : Nat) : State × Nat :=
  match (if 4104 ≤ k ∧ k < 4120 then tfind s.pf.isoSet (k - 4104) else none) with
  | some (m, u) =>
    if off = 0x00 then (s.onPf fun y => { y with isoSet := tinsert y.isoSet (k - 4104) (v % 8, u) }, withBits v 2 0 3)
    else if off = 0x64 then (s.onPf fun y => { y with isoSet := tinsert y.isoSet (k - 4104) (m, v) }, s.rd (SL_MANUAL k))
    else (s, v)
  | none => (s, v)

/-- The bit of `limitsSet` that a descriptor offset has: UMIN, UMAX, UMIN1, UMAX1, SETPOINT (R154, R40). -/
def ctxSetBit (off : Nat) : Option Nat :=
  if off = 0x54 then some 0 else if off = 0x58 then some 1 else if off = 0x80 then some 2 else if off = 0x84 then some 3
  else if off = 0x14 then some 4 else none

/-- A shadow parameter word of a slot written, with the control set kept apart while a table set stands in (R227). -/
def State.putParam (s : State) (k off v : Nat) : State :=
  let a := (SL_CTRL k).addr + off
  let kept := (tfind s.pf.ctlSet a).isSome
  let (s, v) := s.isoKeep k off v
  let s := if kept then s.onPf fun y => { y with ctlSet := tinsert y.ctlSet a v } else s
  let s := if off = 0x00 ∧ kept then s.wr (SL_CTRL k) (withBits (withBits v 10 10 1) 11 11 0)
    else if off = 0x08 ∧ kept then s else s.wr ⟨a, 31, 0⟩ v
  match (if k < 4096 then ctxSetBit off else none) with
  | some b => s.setPbCtx k { s.pbCtx k with limitsSet := (s.pbCtx k).limitsSet ||| 2 ^ b }
  | none => s

/-- The sample period in seconds that a slot's shadow TIMING gives (R31, R36). -/
def State.shadowH (s : State) (k : Nat) : F32 :=
  f32OfRat (if k < 4096 then s.frameCounts
    else clampNat 1 20 (s.rd (SL_TIMING_PERIOD_TICKS k)) * (if s.bit (SL_TIMING_SLOW k) then 100 else 1) * 5000) 100000000

/-- The lead-lag coefficients of (1 + sT1)/(1 + sT2) by the Tustin method at the h of the parameters they stand with
(R37). -/
def State.putCoeffs (s : State) (k : Nat) : State :=
  let h := s.shadowH k
  let t1 := (s.slot k).t1
  let t2 := (s.slot k).t2
  let two : F32 := 0x40000000
  let den := fadd h (fmul two t2)
  let s := s.wrf (SL_LL_B0 k) (fdiv (fadd h (fmul two t1)) den)
  let s := s.wrf (SL_LL_B1 k) (fdiv (fsub h (fmul two t1)) den)
  s.wrf (SL_LL_A1 k) (fdiv (fsub (fmul two t2) h) den)

/-- T1 and T2 of a slot as given, and its coefficients (R37). -/
def State.putLeadLag (s : State) (k : Nat) (t1 t2 : F32) : State :=
  (s.setSlot k { s.slot k with t1 := t1, t2 := t2 }).putCoeffs k

/-- A loop parameter given by its identifier, in range, written into the slot's shadow words. DEDUCED:
notes/assumptions/67.md. -/
def State.loopPut (s : State) (ident k v : Nat) : State :=
  if ident = 0x10F0 then s.putLeadLag k (BitVec.ofNat 32 v) (s.slot k).t2
  else if ident = 0x10F1 then s.putLeadLag k (s.slot k).t1 (BitVec.ofNat 32 v)
  else
    let s := s.putParam k ((ident - 0x1000) * 4) v
    if ident = 0x1001 ∧ ((s.slot k).t1 ≠ 0 ∨ (s.slot k).t2 ≠ 0) then s.putCoeffs k else s

/-- The present value of a loop parameter. -/
def State.loopGet (s : State) (ident k : Nat) : Nat :=
  if ident = 0x10F0 then (s.slot k).t1.toNat
  else if ident = 0x10F1 then (s.slot k).t2.toNat
  else
    let a := (SL_CTRL k).addr + (ident - 0x1000) * 4
    let w := (tfind s.pf.ctlSet a).getD (s.word a)
    match (if 4104 ≤ k ∧ k < 4120 then tfind s.pf.isoSet (k - 4104) else none) with
    | some (m, u) => if ident = 0x1000 then withBits w 2 0 m else if ident = 0x1019 then u else w
    | none => w

/-- A loop parameter by its identifier brought into its range. -/
def State.loopIdFix (s : State) (ident k v : Nat) : Option Nat :=
  if ident = 0x10F0 ∨ ident = 0x10F1 then fixFlo 0 0x42C80000 v else s.loopFix k ((ident - 0x1000) * 4) v

/-- UMIN below UMAX and UMIN1 below UMAX1 in a slot (R38); both at 0 stand for limits not yet given. -/
def State.limitsOk (s : State) (k : Nat) : Bool :=
  let ok (a b : F32) : Bool := flt a b
  ok (s.rdf (SL_UMIN k)) (s.rdf (SL_UMAX k)) && (decide (4096 ≤ k) || ok (s.rdf (SL_UMIN1 k)) (s.rdf (SL_UMAX1 k)))

/-- The default limits of a slot's chains, the ends of the target range (R468). -/
def State.defaultLimits (s : State) (k set_ : Nat) : State :=
  let a := s.targetRange k false
  let b := s.targetRange k true
  let s := if bitOf set_ 0 then s else s.wrf (SL_UMIN k) a.1
  let s := if bitOf set_ 1 then s else s.wrf (SL_UMAX k) a.2
  let s := if k < 4096 ∧ ¬ bitOf set_ 2 then s.wrf (SL_UMIN1 k) b.1 else s
  let s := if k < 4096 ∧ ¬ bitOf set_ 3 then s.wrf (SL_UMAX1 k) b.2 else s
  s.putBit (SL_CTRL_APPLY k) true

/-! ### Configuration fields (R377, R378) -/

/-- The class of a configuration field. -/
inductive CfgClass where
  | run | table | boot
deriving DecidableEq, Repr

/-- How many indices a configuration field has, its class, and the register field that is its home, if it has one. -/
structure CfgField where
  n : Nat
  cls : CfgClass
  reg : Option (Nat → RF)

/-- Index i of a pair of registers. -/
def pairReg (a b : RF) (i : Nat) : RF := if i = 0 then a else b

/-- The table of R378. -/
def cfgField (ident : Nat) : Option CfgField :=
  match ident with
  | 0x0001 => some ⟨1, .table, none⟩
  | 0x0002 => some ⟨1, .run, some fun _ => LE_FRAME_CUTOFF_TICKS⟩
  | 0x0003 | 0x0005 | 0x0051 | 0x0052 | 0x0054 => some ⟨1, .run, none⟩
  | 0x0004 => some ⟨1, .run, some fun _ => PB_ROW_ID⟩
  | 0x0010 => some ⟨1, .run, some fun _ => PB_EMERG⟩
  | 0x0011 => some ⟨1, .run, some fun _ => PB_SLEW⟩
  | 0x0012 => some ⟨1, .run, some fun _ => PB_UIO⟩
  | 0x0020 => some ⟨4096, .run, some VQ_CR_QUOTA⟩
  | 0x0021 => some ⟨1, .run, some fun _ => VQ_PKT_TIMEOUT⟩
  | 0x0030 => some ⟨1, .run, some fun _ => TR_ROT_PERIOD⟩
  | 0x0031 => some ⟨1, .run, some fun _ => TR_CTRL_CAPTURE_LEAD⟩
  | 0x0040 => some ⟨4, .table, some PF_PCFG⟩
  | 0x0041 => some ⟨4, .run, some PF_PCURSRC⟩
  | 0x0042 => some ⟨1, .run, some fun _ => PF_PMGR⟩
  | 0x0043 => some ⟨1, .run, some fun _ => PF_ROT_HOURS⟩
  | 0x0044 => some ⟨8, .run, some PF_FCFG⟩
  | 0x0045 => some ⟨20, .table, some AO_CFG⟩
  | 0x0050 => some ⟨65536, .run, none⟩
  | 0x0053 => some ⟨16, .table, some SN_FLOWSRC⟩
  | 0x0060 => some ⟨1, .boot, some fun _ => PF_STOPCFG⟩
  | 0x0061 => some ⟨36, .boot, some SV_CHCFG⟩
  | 0x0062 => some ⟨1, .run, some fun _ => SV_CTRL_PEAK_MAX⟩
  | 0x0063 => some ⟨2, .run, some (pairReg SV_KINK SV_TIMING)⟩
  | 0x0070 => some ⟨1, .boot, some fun _ => LK_WET⟩
  | 0x0071 => some ⟨16, .boot, some LK_ROPECFG⟩
  | 0x0072 => some ⟨16, .boot, some LK_PTCFG⟩
  | 0x0073 => some ⟨64, .boot, some fun i => FB_TRIP (i / 16) (i % 16)⟩
  | 0x0078 => some ⟨48, .run, some SN_RTDCFG⟩
  | 0x0079 => some ⟨24, .run, some SN_MACFG⟩
  | 0x007A => some ⟨48, .run, some fun i => pairReg (SN_MALO (i / 2)) (SN_MAHI (i / 2)) (i % 2)⟩
  | 0x007B => some ⟨8, .run, some SN_PICFG⟩
  | 0x007C => some ⟨8, .run, some SN_PIKFACT⟩
  | 0x007D => some ⟨2, .run, some (pairReg SN_DINDEB SN_DINPOL)⟩
  | 0x0080 | 0x0081 => some ⟨4, .table, none⟩
  | 0x0082 => some ⟨4, .table, some FB_CTRL⟩
  | 0x0083 => some ⟨4, .table, some FB_TTCFG⟩
  | 0x0084 => some ⟨128, .table, some fun i => FB_MARK (i / 32) (i % 32)⟩
  | 0x0085 => some ⟨8192, .table, some fun i =>
      let f := FB_CELLW (i / 2048) (i % 2048 / 4)
      ⟨f.addr, 8 * (i % 4) + 7, 8 * (i % 4)⟩⟩
  | 0x0086 => some ⟨8, .run, some fun i => pairReg (FB_NODEEXP_LO (i / 2)) (FB_NODEEXP_HI (i / 2)) (i % 2)⟩
  | 0x0088 => some ⟨1024, .run, some NV_CFG⟩
  | 0x0089 => some ⟨1024, .run, some NV_SCALE⟩
  | 0x0090 => some ⟨256, .run, none⟩
  | 0x0091 => some ⟨1, .run, some fun _ => CA_CTRL⟩
  | 0x0092 => some ⟨1, .run, some fun _ => CA_CE_LIMIT⟩
  | 0x00A0 => some ⟨1, .run, some fun _ => TW_BAND_LOOP⟩
  | 0x00A1 => some ⟨3, .run, some fun i => if i = 0 then TW_XCHK_CONSEC else if i = 1 then TW_GRACE else TW_GUARD⟩
  | _ => if (loopOffset ident).isSome then some ⟨4608, .run, none⟩ else none

/-- The index lies in the field's range: racks 0 to 15 in both halves of Q_MIN, Q_MAX. -/
def CfgField.has (f : CfgField) (ident index : Nat) : Bool :=
  if ident = 0x0050 then decide (index % 32768 < 16) else decide (index < f.n)

/-- The nearest supported nominal bit rate; a tie goes to the lower (R274, R275). -/
def nearestOf (l : List Nat) (v : Nat) : Nat :=
  l.foldl (fun b r => if (if r ≤ v then v - r else r - v) < (if b ≤ v then v - b else b - v) then r else b) (l.headD 0)

/-- The supported nominal rates, bit/s. -/
def nominalRates : List Nat := [125000, 250000, 500000, 1000000]

/-- The supported data rates, bit/s. -/
def dataRates : List Nat := [1000000, 2000000, 4000000, 5000000, 8000000]

/-- The prescaler and segments of a rate with the sample point at 80% (R275): BRP, TSEG1, TSEG2. -/
def rateTiming (nominal : Bool) (r : Nat) : Nat × Nat × Nat :=
  if nominal then (1000000 / r, 63, 16)
  else if r = 1000000 then (2, 31, 8) else if r = 2000000 then (1, 31, 8)
  else if r = 4000000 then (2, 7, 2) else if r = 5000000 then (1, 12, 3) else (1, 7, 2)

/-- The frame length in ticks for a FRAME_US value: 250 to 2,000 in 50 µs steps, and long enough for the admitted model
(R145, R378). DEDUCED: notes/assumptions/63.md. -/
def State.frameTicksFor (s : State) (us : Nat) : Nat :=
  let t := clampNat 250 2000 us / 50
  if s.bit TR_STATUS_ADMITTED then
    match s.tr.image with
    | some x => min 40 (s.fitTicks x 40 t)
    | none => t
  else t

/-- A configuration value brought into its range; none where it is a structural error (R377). -/
def State.cfgFix (s : State) (ident index v : Nat) : Option Nat :=
  match ident with
  | 0x0001 => some (s.frameTicksFor v * 50)
  | 0x0002 => some (min v (s.rd LE_FRAME_FRAME_TICKS - 4))
  | 0x0003 => some (clampNat 1 600 v)
  | 0x0005 => some (min v 1)
  | 0x0020 => some (min v 16)
  | 0x0021 => some (clampNat 10 10000 v)
  | 0x0030 => some (clampNat 1 600 v)
  | 0x0031 => some (clampNat 1 16 v)
  | 0x0011 => some (clampNat 1 100 v)
  | 0x0041 => fixCode srcTop (v % 65536)
  | 0x0042 => some (withBits (writableBits PF_PMGR.addr v) 3 2 (max 1 (bitsOf v 3 2)))
  | 0x0043 => some (clampNat 24 2000 v)
  | 0x0050 => fixFlo 0 0x447A0000 v
  | 0x0051 => some (min v 100)
  | 0x0052 => fixFlo 0 0x447A0000 v
  | 0x0053 => some (flowSrcFix index v)
  | 0x0054 => fixFlo 0x3F800000 0x47C35000 v
  | 0x0062 => some (clampNat 2 9 v)
  | 0x0070 => some (clampNat 1 100 v)
  | 0x007A | 0x0089 => anyFinite v
  | 0x007C => fixFlo 0x3A83126F 0x49742400 v
  | 0x0080 => some (nearestOf nominalRates v)
  | 0x0081 => some (nearestOf dataRates v)
  | 0x0082 => some (imageWord (FB_CTRL index).addr v % 2 ^ 30 / 2 ^ 14 * 2 ^ 14)
  | 0x0084 => some (min v 16383)
  | 0x0085 => some (min v 255)
  | 0x0086 => some (v % 2 ^ 32)
  | 0x0090 => fixFlo 0x37800000 0x43800000 v
  | 0x0091 => some (imageWord CA_CTRL.addr v / 2 * 2)
  | 0x0092 => some (clampNat 1 65535 v)
  | 0x00A0 => fixFlo 0x3DCCCCCD 0x41200000 v
  | 0x00A1 => some (if index = 0 then clampNat 1 255 v else if index = 1 then clampNat 10 200 v else clampNat 20 200 v)
  | _ =>
    if (loopOffset ident).isSome then s.loopIdFix ident index v
    else match cfgField ident with
      | some f =>
        match f.reg with
        | some g => some (imageWord (g index).addr v)
        | none => some v
      | none => none

/-- The bit rate that a channel's timing register gives (R275). -/
def State.rateOfReg (s : State) (nominal : Bool) (n : Nat) : Nat :=
  if nominal then 80000000 / ((s.rd (FB_NBT_BRP n) + 1) * (3 + s.rd (FB_NBT_TSEG1 n) + s.rd (FB_NBT_TSEG2 n)))
  else 80000000 / ((s.rd (FB_DBT_BRP n) + 1) * (3 + s.rd (FB_DBT_TSEG1 n) + s.rd (FB_DBT_TSEG2 n)))

/-- The default of a field that no register holds (R378). -/
def cfgDefault (ident index : Nat) : Nat :=
  match ident with
  | 0x0003 => 30 | 0x0050 => if index < 32768 then 0 else 0x43C80000 | 0x0051 => 10 | 0x0052 => 0x437A0000
  | 0x0054 => 0x447A0000 | 0x0090 => 0x3C23D70A | _ => 0

/-- The applied value of a configuration field. -/
def State.cfgGet (s : State) (ident index : Nat) : Nat :=
  if ident = 0x0001 then s.rd LE_FRAME_FRAME_TICKS * 50
  else if ident = 0x0080 then s.rateOfReg true index
  else if ident = 0x0081 then s.rateOfReg false index
  else if (loopOffset ident).isSome then s.loopGet ident index
  else
    match cfgField ident with
    | some f =>
      match f.reg with
      | some g => if ident = 0x0082 then s.rd (g index) % 2 ^ 30 / 2 ^ 14 * 2 ^ 14 else writableBits (g index).addr (s.rd (g index)) ||| (if (g index).lo = 0 ∧ (g index).hi = 31 then 0 else s.rd (g index))
      | none => s.cfg ident index (cfgDefault ident index)
    | none => 0

/-- Loop 1's SETPOINT is Q_BYP percent of MAIN_FS (R219, R467). -/
def State.bypassSetpoint (s : State) : State :=
  let q := fmul (fdiv (f32OfInt (s.cfg 0x0051 0 10)) (f32OfInt 100)) s.mainFs
  (s.wrf (SL_SETPOINT 4097) q).putBit (SL_CTRL_APPLY 4097) true

/-- A pump's or fan's configuration image applied: a 0-to-1 ENABLE re-enables, clearing ENABLE stops (R212, R214). -/
def State.putChannel (s : State) (k : Nat) (f : RF) (v : Nat) : State :=
  let old := s.bit (pfEnable k)
  let s := s.wr f (withBits (v % 2 ^ 32) 0 0 (b2n old))
  if bitOf v 0 ∧ ¬ old then s.reenable k else if ¬ bitOf v 0 ∧ old then s.disable k else s

/-- A bit rate written with the sample point at 80% (R275); SJW stays within TSEG2. -/
def State.putRate (s : State) (nominal : Bool) (n r : Nat) : State :=
  let t := rateTiming nominal r
  if nominal then
    (((s.wr (FB_NBT_BRP n) (t.1 - 1)).wr (FB_NBT_TSEG1 n) (t.2.1 - 1)).wr (FB_NBT_TSEG2 n) (t.2.2 - 1)).wr (FB_NBT_SJW n) (t.2.2 - 1)
  else
    (((s.wr (FB_DBT_BRP n) (t.1 - 1)).wr (FB_DBT_TSEG1 n) (t.2.1 - 1)).wr (FB_DBT_TSEG2 n) (t.2.2 - 1)).wr (FB_DBT_SJW n) (t.2.2 - 1)

/-- A configuration value in range applied. -/
def State.cfgPut (s : State) (ident index v : Nat) : State :=
  let keep := s.onMb fun y => { y with cfg := tset (cfgDefault ident index) y.cfg (ident * 65536 + index) v }
  match ident with
  | 0x0001 => s.onLe fun y => { y with frameTicksNew := if v / 50 = s.rd LE_FRAME_FRAME_TICKS then none else some (v / 50) }
  | 0x0040 => s.putChannel index (PF_PCFG index) v
  | 0x0044 => s.putChannel (index + 4) (PF_FCFG index) v
  | 0x0020 => (s.wr (VQ_CR_QUOTA index) v).raiseGrant index
  | 0x0042 => ((s.wr PF_PMGR_N_DUTY (bitsOf v 3 2)).putBit PF_PMGR_ENABLE (bitOf v 0)).pmSet
  | 0x0051 | 0x0054 => if s.cfg ident index (cfgDefault ident index) = v then s else keep.bypassSetpoint
  | 0x0078 => (s.wr (SN_RTDCFG index) (withBits v 26 26 (s.rd (SN_RTDCFG_CAL_REF index))))
  | 0x0079 => (s.wr (SN_MACFG index) v)
  | 0x007B => (s.wr (SN_PICFG index) v)
  | 0x0080 => s.putRate true index v
  | 0x0081 => s.putRate false index v
  | 0x0082 => s.wr (FB_CTRL index) (bitsOf (s.rd (FB_CTRL index)) 31 30 * 2 ^ 30 + v)
  | 0x0088 => s.wr (NV_CFG index) (v + (if bitOf v 31 then bitsOf (s.rd (NV_CFG index)) 12 11 * 2 ^ 11 else 0))
  | 0x0091 => s.wr CA_CTRL (v + s.rd CA_CTRL_ENABLE)
  | _ =>
    if (loopOffset ident).isSome then (s.loopPut ident index v).putBit (SL_CTRL_APPLY index) true
    else match cfgField ident with
      | some f =>
        match f.reg with
        | some g => s.wr (g index) v
        | none => keep
      | none => s

end Sys2Proof.Machine
end

