-- ==== Sys2Proof/Machine/Mailbox.lean ====
section
/-! DEFINITION. The host mailbox (spec 15): the checks of every Waxus request, the reply, duplicate tags, clamp lists;
then the commands that read state, and SET_MODE, KEEPALIVE and the standard CXL commands. -/

namespace Sys2Proof.Machine

/-! ### Requests and replies (R367 to R372) -/

/-- What a command's own work gives: the state, the KS code, the clamped or pending values, the journal, the reply's
payload after the status header. -/
structure Res where
  st : State
  ks : Ks := .ok
  clamps : List ClampRec := []
  journal : Nat := 0
  out : List Byte := []

/-- A refusal: nothing changes. -/
def State.refuse (s : State) (k : Ks) : Res := { st := s, ks := k }

/-- A Waxus command (R373): its opcode, whether only the ACTIVE module takes it, whether it changes state, the lengths
its layout allows, the module states, and its work. -/
structure Cmd where
  op : Nat
  active : Bool
  changes : Bool
  len : List Byte → Bool
  states : State → Bool
  body : State → List Byte → Res

/-- A length that is one number of bytes. -/
def lenIs (n : Nat) (p : List Byte) : Bool := p.length == n

/-- Any module state. -/
def anyState (_ : State) : Bool := true

/-- The state set RUN (R373). -/
def ModState.run : ModState → Bool
  | .table | .reactive | .predictive | .hold | .isolate => true
  | .off | .boot | .shed | .survival | .service | .failed => false

/-- RUN. -/
def runState (s : State) : Bool := s.sys.mode.run

/-- RUN and SERVICE. -/
def runService (s : State) : Bool := s.sys.mode.run || s.sys.mode == .service

/-- Any state from TABLE on. -/
def fromTable (s : State) : Bool := s.sys.mode.fromTable

/-- Any state from TABLE on, except SURVIVAL. -/
def fromTableUp (s : State) : Bool := s.sys.mode.fromTable && s.sys.mode != .survival

/-- The KS codes of a command that was done. DEDUCED: notes/assumptions/60.md. -/
def Ks.accepted : Ks → Bool
  | .ok | .clamped | .part => true
  | .stateConflict | .range | .notFit | .busy | .authFail | .unknownContext | .notOwner | .timeout | .aborted
  | .internal => false

/-- A reply leaves: its KS code counted, MSI-X vector 0 (R361). -/
def State.answer (s : State) (ks : Ks) (header body : List Byte) : State :=
  let s := s.onMb fun y => { y with ksCounts := tset 0 y.ksCounts ks.code (tget 0 y.ksCounts ks.code + 1) }
  (s.reply { rc := 0, ks := ks, body := header ++ body }).msixSend 0

/-- A status header as it stands now: the earlier one with the present state and role (R368, R370). -/
def State.headerNow_ (s : State) (h : List Byte) : List Byte :=
  h.take 2 ++ leBytes 1 s.sys.mode.code ++ leBytes 1 s.sys.role.code ++ h.drop 4

/-- The reply to a command: at once, or once the ACK covers its COMMAND frame, the frame sent last, where the command
changes state and the link carries it (R326). -/
def State.answerCmd (s : State) (changes : Bool) (ks : Ks) (header body : List Byte) : State :=
  if changes && s.forwards then
    s.onMb fun y => { y with
      held := y.held ++ [{ seq := (s.tw.txSeq + 2 ^ 32 - 1) % 2 ^ 32, due := s.time + msec 1, ks := ks, header := header, body := body }] }
  else s.answer ks header body

/-- The replies that a condition lets go (R326). -/
def State.releaseReplies (s : State) (go : HeldReply → Bool) : State :=
  (s.mb.held.filter go).foldl (fun s h => s.answer h.ks (s.headerNow_ h.header) h.body)
    (s.onMb fun y => { y with held := y.held.filter fun h => !go h })

/-- The replies that have waited for 1 ms (R326). -/
def State.replyTimeouts (s : State) : State := s.releaseReplies fun h => decide (h.due ≤ s.time)

/-- The clamped values of a list. -/
def clampCount (l : List ClampRec) : Nat := (l.filter fun c => c.flags % 2 == 1).length

/-- An accepted command whose tag is kept, within the last 60 s (R370). DEDUCED: notes/assumptions/60.md. -/
def State.seenTag (s : State) (tag : Nat) : Option TagRec :=
  if tag = 0 then none else s.mb.tags.find? fun t => t.tag == tag && decide (s.time < t.time + secs 60)

/-- A tag kept with its reply (R370). DEDUCED: notes/assumptions/60.md. -/
def State.keepTag (s : State) (tag : Nat) (header body : List Byte) : State :=
  if tag = 0 then s
  else s.onMb fun y => { y with
    tags := ({ tag := tag, time := s.time, header := header, body := body } :: y.tags).take 1024 }

/-- The clamp list of a command kept, where it clamped or left a value pending (R380). DEDUCED:
notes/assumptions/61.md. -/
def State.keepClamps (s : State) (tag op : Nat) (l : List ClampRec) : State :=
  if l = [] then s else s.onMb fun y => { y with clamps := ({ tag := tag, opcode := op, recs := l } :: y.clamps).take 16 }

/-- The effect of a command's work on the records the mailbox keeps, and its COMMAND frame to the standby (R326). -/
def State.accept (c : Cmd) (tag : Nat) (p : List Byte) (r : Res) (header : List Byte) : State :=
  let s := r.st.keepClamps tag c.op r.clamps
  let s := if s.isActive then s.silenceRestart else s
  if c.changes then
    (s.keepTag tag header r.out).forward 5 0 (leBytes 2 c.op ++ leBytes 2 r.journal ++ leBytes 8 s.frame ++
      leBytes 4 s.tickNow ++ p)
  else s

/-- The KS code after the clamps (R369). -/
def Res.code (r : Res) : Ks := if r.ks = .ok ∧ clampCount r.clamps ≠ 0 then .clamped else r.ks

/-- The tag of a request, 0 where it has none (R368). -/
def tagOf (p : List Byte) : Nat := if p.length < 4 then 0 else fieldLE p 0 4

/-- A command that has passed the checks of length and role runs, or repeats its earlier reply (R369, R370). DESIGN
CHOICE: notes/assumptions/14.md. DEDUCED: notes/assumptions/60.md. -/
def State.runCmd (s : State) (c : Cmd) (p : List Byte) : State :=
  let tag := tagOf p
  match (if c.changes then s.seenTag tag else none) with
  | some t =>
    let s := if s.isActive then s.silenceRestart else s
    s.answer .ok (s.headerNow_ t.header) t.body
  | none =>
    if !c.states s then s.answer .stateConflict (s.ksHeader .stateConflict tag 0 0) []
    else
      let r := c.body s p
      let ks := r.code
      if ks.accepted then
        let h := s.ksHeader ks tag (clampCount r.clamps) r.journal
        (State.accept c tag p r h).answerCmd c.changes ks h r.out
      else r.st.answer ks (s.ksHeader ks tag 0 r.journal) r.out

/-- A command at the mailbox: counted, its doorbell posted (R303). -/
def State.atMailbox (s : State) : State :=
  (s.onMb fun y => { y with commands := y.commands + 1, lastCommand := some s.time }).post 480

/-- A Waxus request at the mailbox, with the checks of R369 in their order. DEDUCED: notes/assumptions/60.md. A module
without supply takes none (R19). -/
def State.mailbox (s : State) (c : Cmd) (p : List Byte) : State :=
  if s.sys.mode = .off then s
  else
  let s := s.atMailbox
  let tag := tagOf p
  if decide (p.length < 8) || fieldLE p 4 1 != 1 || !c.len p then s.answer .range (s.ksHeader .range tag 0 0) []
  else if c.active && !s.isActive then s.answer .notOwner (s.ksHeader .notOwner tag 0 0) []
  else s.runCmd c p

/-- One clamped value, where it differs from what was asked. -/
def clampRec (ident index asked applied : Nat) : List ClampRec :=
  if asked = applied then []
  else [{ ident := ident, index := index, requested := asked, applied := applied, flags := 1 }]

/-- Records that fit a reply of 1 MiB with its header; the rest makes the reply KS_PARTIAL (R381). -/
def fitRecords (size room : Nat) (l : List (Nat × List Byte)) : List Byte × Option Nat :=
  let n := room / size
  ((l.take n).flatMap (·.2), (l.drop n).head?.map (·.1))

/-- A reply of records, with the next key to ask for where they do not fit. -/
def State.recordReply (s : State) (size : Nat) (l : List (Nat × List Byte)) : Res :=
  match fitRecords size (1048576 - 18) l with
  | (bs, none) => { st := s, out := bs }
  | (bs, some n) => { st := s, ks := .part, out := bs ++ leBytes 2 n }

/-! ### Identity and state (R374, R375) -/

/-- DDR4 channels in service. -/
def State.ddrChannels (s : State) : Nat := popCount 8 (s.rd CA_STATUS_CH_OK)

/-- The running slot's record. -/
def State.runningSlot (s : State) : FwSlot := if s.mg.runSlot = 0 then s.mg.slotA else s.mg.slotB

/-- The identity record after the status header (R374). -/
def State.identity (s : State) : List Byte :=
  padTo 16 Config.orderCode ++ leBytes 8 s.mg.serial ++ leBytes 4 s.runningSlot.version ++ leBytes 1 Config.boardIssue ++
    leBytes 1 (s.rd TW_STATUS_SLOT) ++ leBytes 1 3 ++ leBytes 1 s.mg.fuse ++
    padTo 32 (Config.sha256 (Config.identityKey s.mg.serial)) ++ leBytes 2 s.colsUp.length ++ leBytes 2 s.ddrChannels

/-- HOST_TIMEOUT in seconds (R378). -/
def State.hostLimit (s : State) : Nat := clampNat 1 600 (s.cfg 0x0003 0 30)

/-- Host-silence time remaining, in ms. -/
def State.silenceLeft (s : State) : Nat := (s.sys.silenceStart + secs s.hostLimit - s.time) / 100000

/-- The state record after the status header (R375). -/
def State.stateRecord (s : State) : List Byte :=
  leBytes 1 s.sys.prior.code ++
    leBytes 1 (b2n s.sys.heldLeak + 2 * b2n s.sys.heldCoolant + 4 * b2n s.sys.heldColdPlate) ++
    leBytes 2 (b2n (s.bit CK_STATUS_PTM_LOCKED) + 2 * b2n s.mb.linkReduced + 4 * b2n (s.bit TR_STATUS_ADMITTED) +
      8 * b2n (s.bit TW_STATUS_TR_WARM) + 16 * b2n (s.bit TW_STATUS_IN_STEP) + 32 * b2n s.sys.hostSilent) ++
    leBytes 2 s.sys.isolated ++ leBytes 2 s.brakeLines ++ leBytes 8 s.frame ++ leBytes 8 s.time ++
    leBytes 4 s.silenceLeft ++ leBytes 2 s.mb.linkRate ++ leBytes 1 s.mb.linkWidth ++ zeros 1 ++
    leBytes 4 (s.rd CK_PTM_OFFSET)

/-- GET_IDENTITY. -/
def cmdGetIdentity : Cmd :=
  { op := 0xC000, active := false, changes := false, len := lenIs 8, states := anyState,
    body := fun s _ => { st := s, out := s.identity } }

/-- GET_IDENTITY (R374). -/
def execGetIdentity (p : List (BitVec 8)) (s : State) : Host.Outcome State Fault Refusal :=
  .next (s.mailbox cmdGetIdentity p)

/-- GET_STATE. -/
def cmdGetState : Cmd :=
  { op := 0xC001, active := false, changes := false, len := lenIs 8, states := anyState,
    body := fun s _ => { st := s, out := s.stateRecord } }

/-- GET_STATE (R375). -/
def execGetState (p : List (BitVec 8)) (s : State) : Host.Outcome State Fault Refusal := .next (s.mailbox cmdGetState p)

/-! ### SET_MODE and KEEPALIVE (R376, R423) -/

/-- The state that a mode code names. -/
def modeOfCode (n : Nat) : Option ModState :=
  match n with
  | 2 => some .table | 3 => some .reactive | 4 => some .predictive | 5 => some .hold | 9 => some .service | _ => none

/-- The number of the frame that the next boundary opens. -/
def State.nextFrame (s : State) : Nat := s.frame + 1

/-- A reset scheduled for both modules of the pair (R376, R419, R423). -/
def State.scheduleReset (s : State) (at_ : Nat) : State :=
  ((s.wr64 CK_WARM_AT_LO at_).putBit CK_CTRL_WARM_ARM true).onMb fun y => { y with coordinated := true }

/-- The work of SET_MODE. DEDUCED: notes/assumptions/64.md. -/
def setModeBody (s : State) (p : List Byte) : Res :=
  let code := fieldLE p 8 1
  let at_ := fieldLE p 12 8
  if code = 0xFF then
    if ¬ (s.sys.mode = .table ∨ s.sys.mode = .hold ∨ s.sys.mode = .service) then s.refuse .stateConflict
    else if at_ < s.time + msec 10 then s.refuse .timeout
    else if s.time + secs 60 < at_ then s.refuse .range
    else { st := s.scheduleReset at_ }
  else
    match modeOfCode code with
    | none => s.refuse .range
    | some m =>
      if ¬ s.modeAllowed m then s.refuse .stateConflict
      else if at_ ≠ 0 then s.refuse .range
      else { st := s.onSys fun y => { y with modeReq := some m }, out := leBytes 8 s.nextFrame }

/-- SET_MODE. DESIGN CHOICE: notes/assumptions/15.md. -/
def cmdSetMode : Cmd :=
  { op := 0xC002, active := true, changes := true, len := lenIs 20, states := anyState, body := setModeBody }

/-- SET_MODE_TABLE (R376): mode code 0x02 at offset 8. -/
def execSetModeTable (p : List (BitVec 8)) (s : State) : Host.Outcome State Fault Refusal := .next (s.mailbox cmdSetMode p)

/-- SET_MODE_REACTIVE (R376): mode code 0x03. -/
def execSetModeReactive (p : List (BitVec 8)) (s : State) : Host.Outcome State Fault Refusal :=
  .next (s.mailbox cmdSetMode p)

/-- SET_MODE_PREDICTIVE (R376): mode code 0x04. -/
def execSetModePredictive (p : List (BitVec 8)) (s : State) : Host.Outcome State Fault Refusal :=
  .next (s.mailbox cmdSetMode p)

/-- SET_MODE_HOLD (R376): mode code 0x05. -/
def execSetModeHold (p : List (BitVec 8)) (s : State) : Host.Outcome State Fault Refusal := .next (s.mailbox cmdSetMode p)

/-- SET_MODE_SERVICE (R376): mode code 0x09. -/
def execSetModeService (p : List (BitVec 8)) (s : State) : Host.Outcome State Fault Refusal :=
  .next (s.mailbox cmdSetMode p)

/-- SET_MODE_RESET (R376): mode code 0xFF. -/
def execSetModeReset (p : List (BitVec 8)) (s : State) : Host.Outcome State Fault Refusal := .next (s.mailbox cmdSetMode p)

/-- KEEPALIVE: it changes no state beyond the host-silence timer, which every accepted command restarts. -/
def cmdKeepalive : Cmd :=
  { op := 0xC003, active := true, changes := false, len := lenIs 8, states := anyState,
    body := fun s _ => { st := s, out := leBytes 4 s.hostLimit } }

/-- KEEPALIVE (R376). -/
def execKeepalive (p : List (BitVec 8)) (s : State) : Host.Outcome State Fault Refusal := .next (s.mailbox cmdKeepalive p)

/-! ### Reading configuration, contexts and budgets (R379 to R382) -/

/-- The pending value of a configuration field: staged for the next boundary, or stored for the next BOOT. -/
def State.cfgPending (s : State) (ident index : Nat) : Option Nat :=
  ((s.mb.staged ++ s.mg.bootCfg).find? fun q => q.1 == ident && q.2.1 == index).map (·.2.2)

/-- The broker's configuration identifiers 0x2000 to 0x2007 with their present values. -/
def State.budgetField (s : State) (ident index : Nat) : Option Nat :=
  match ident with
  | 0x2000 => some s.pb.rowBudget
  | 0x2001 => if index < 16 then some (s.rd (PB_RACK_BUDGET index)) else none
  | 0x2002 => if index < 64 then some (s.rd (PB_GROUP_BUDGET index)) else none
  | 0x2003 => if index < 4096 then some (s.rd (PB_BUDGET_BUDGET index)) else none
  | 0x2004 => if index < 4096 then some (s.rd (PB_BUDGET_FALLBACK index)) else none
  | 0x2005 => if index < 4096 then some (s.rd (PB_CFG_PRIORITY index)) else none
  | 0x2006 => if index < 4096 then some (s.rd (PB_LEASE index)) else none
  | 0x2007 => if index < 64 then some (s.rd (PB_GROUP_RACK index)) else none
  | _ => none

/-- The applied value of any field that CONFIG_READ may name; none where the identifier or index is unknown. DEDUCED:
notes/assumptions/18.md. -/
def State.fieldValue (s : State) (ident index : Nat) : Option Nat :=
  match cfgField ident with
  | some f => if f.has ident index then some (s.cfgGet ident index) else none
  | none => s.budgetField ident index

/-- One record of a CONFIG_READ reply (R379). -/
def State.cfgRecord (s : State) (ident index v : Nat) : List Byte :=
  let q := s.cfgPending ident index
  leBytes 2 ident ++ leBytes 2 index ++ leBytes 4 v ++ leBytes 4 (q.getD 0xFFFFFFFF) ++ leBytes 4 (b2n q.isSome)

/-- The pairs of a CONFIG_READ request. -/
def readPairs (p : List Byte) : List (Nat × Nat) :=
  (upto ((p.length - 12) / 4)).map fun i => (fieldLE p (12 + 4 * i) 2, fieldLE p (14 + 4 * i) 2)

/-- CONFIG_READ. -/
def cmdConfigRead : Cmd :=
  { op := 0xC011, active := false, changes := false, states := anyState,
    len := fun p => decide (12 ≤ p.length) && p.length == 12 + 4 * fieldLE p 8 4,
    body := fun s p =>
      let l := (readPairs p).map fun q => (q, s.fieldValue q.1 q.2)
      if l.any fun q => q.2.isNone then s.refuse .range
      else { st := s, out := l.flatMap fun q => s.cfgRecord q.1.1 q.1.2 (q.2.getD 0) } }

/-- CONFIG_READ (R379). -/
def execConfigRead (p : List (BitVec 8)) (s : State) : Host.Outcome State Fault Refusal := .next (s.mailbox cmdConfigRead p)

/-- One record of a clamp list (R380). -/
def ClampRec.bytes (c : ClampRec) : List Byte :=
  leBytes 2 c.ident ++ leBytes 2 c.index ++ leBytes 4 c.requested ++ leBytes 4 c.applied ++ leBytes 4 c.flags

/-- CONFIG_REPORT. -/
def cmdConfigReport : Cmd :=
  { op := 0xC012, active := false, changes := false, len := lenIs 12, states := anyState,
    body := fun s p =>
      let tag := fieldLE p 8 4
      match s.mb.clamps.find? fun c => tag == 0 || c.tag == tag with
      | some c =>
        { st := s, out := leBytes 4 c.tag ++ leBytes 2 c.opcode ++ leBytes 2 c.recs.length ++ c.recs.flatMap ClampRec.bytes }
      | none => { st := s, out := leBytes 4 tag ++ zeros 4 } }

/-- CONFIG_REPORT (R380). -/
def execConfigReport (p : List (BitVec 8)) (s : State) : Host.Outcome State Fault Refusal :=
  .next (s.mailbox cmdConfigReport p)

/-- One record of a CONTEXT_LIST reply (R381). -/
def State.ctxRecord (s : State) (c : Nat) : List Byte :=
  leBytes 2 c ++ leBytes 1 (s.rd (PB_CFG_GROUP c)) ++ leBytes 1 (s.rd (PB_CFG_PRIORITY c)) ++ leBytes 4 (s.rd (PB_STATUS c)) ++
    leBytes 4 (s.rd (PB_CAP_GRANT c) + 65536 * s.rd (PB_CAP_CAP_SENT c)) ++
    leBytes 4 (s.rd (PB_BUDGET_BUDGET c) + 65536 * s.rd (PB_BUDGET_FALLBACK c))

/-- CONTEXT_LIST. -/
def cmdContextList : Cmd :=
  { op := 0xC022, active := false, changes := false, len := lenIs 12, states := anyState,
    body := fun s p =>
      let first := fieldLE p 8 2
      s.recordReply 16 (((s.ctxs.filter fun c => decide (first ≤ c)).take (fieldLE p 10 2)).map fun c => (c, s.ctxRecord c)) }

/-- CONTEXT_LIST (R381). -/
def execContextList (p : List (BitVec 8)) (s : State) : Host.Outcome State Fault Refusal :=
  .next (s.mailbox cmdContextList p)

/-- How many records a budget level has. -/
def levelCount (level : Nat) : Nat := if level = 0 then 1 else if level = 1 then 16 else if level = 2 then 64 else 4096

/-- The BAR4 status record of a level (R180). -/
def State.levelRecord (s : State) (level i : Nat) : List Byte :=
  match level with
  | 0 => s.bar4Row
  | 1 => s.bar4Rack i
  | 2 => s.bar4Group i
  | _ => s.bar4Ctx i

/-- GET_BUDGET: a level above 3 and a first index past the level's last are structural errors. -/
def cmdGetBudget : Cmd :=
  { op := 0xC031, active := false, changes := false, len := lenIs 13, states := anyState,
    body := fun s p =>
      let level := fieldLE p 8 1
      let first := fieldLE p 9 2
      let n := levelCount level
      if 3 < level ∨ n ≤ first then s.refuse .range
      else s.recordReply 64 ((((upto n).drop first).take (fieldLE p 11 2)).map fun i => (i, s.levelRecord level i)) }

/-- GET_BUDGET (R382). -/
def execGetBudget (p : List (BitVec 8)) (s : State) : Host.Outcome State Fault Refusal := .next (s.mailbox cmdGetBudget p)

/-! ### Loops, captures, bobbins, calibration (R384, R59, R62, R234) -/

/-- The 256 bytes of a slot descriptor. -/
def State.descriptor (s : State) (k : Nat) : List Byte :=
  (upto 64).flatMap fun i => leBytes 4 (s.word ((SL_CTRL k).addr + 4 * i))

/-- LOOP_GET: beside the reply, the slot's smallest slack starts again (R65). -/
def cmdLoopGet : Cmd :=
  { op := 0xC051, active := false, changes := false, len := lenIs 10, states := anyState,
    body := fun s p =>
      let k := fieldLE p 8 2
      if 4608 ≤ k then s.refuse .range
      else
        let x := s.slot k
        { st := (s.wr (SL_MISS_SLOT_SLACK k) 0xFFFF).setSlot k { x with slackOn := false },
          out := s.descriptor k ++ leBytes 4 x.t1.toNat ++ leBytes 4 x.t2.toNat ++ leBytes 4 x.est ++
            leBytes 4 (s.loopGet 0x1015 k) } }

/-- LOOP_GET (R384). -/
def execLoopGet (p : List (BitVec 8)) (s : State) : Host.Outcome State Fault Refusal := .next (s.mailbox cmdLoopGet p)

/-- CAPTURE_READ: the channel's state, the entries held, the start, then the entries asked for. DESIGN CHOICE:
notes/assumptions/62.md. -/
def cmdCaptureRead : Cmd :=
  { op := 0xC053, active := false, changes := false, len := lenIs 16, states := anyState,
    body := fun s p =>
      let c := fieldLE p 8 1
      let first := fieldLE p 10 2
      if 32 ≤ c then s.refuse .range
      else
        let n := s.rd (LE_INJ_COUNT c)
        { st := s,
          out := leBytes 2 (s.rd (LE_INJ_CTRL_STATE c)) ++ leBytes 2 n ++ leBytes 8 ((s.inj c).started.getD 0) ++
            ((((upto n).drop first).take (fieldLE p 12 2)).flatMap fun i =>
              leBytes 4 (s.rd (LE_CAPMEM c (2 * i))) ++ leBytes 4 (s.rd (LE_CAPMEM c (2 * i + 1)))) } }

/-- CAPTURE_READ (R59). -/
def execCaptureRead (p : List (BitVec 8)) (s : State) : Host.Outcome State Fault Refusal :=
  .next (s.mailbox cmdCaptureRead p)

/-- The ring indices that a BOBBIN_READ names: from the mark to the write pointer, the whole ring where as many entries
stand between them, or an index range. -/
def State.bobRange (s : State) (b : Nat) (mark : Bool) (first count : Nat) : List Nat :=
  if mark then
    let m := s.rd (BOB_MARKPTR_IDX b)
    let n := if 65536 ≤ (s.bob b).sinceMark then 65536 else (s.rd (BOB_WPTR_IDX b) + 65536 - m) % 65536
    (upto n).map fun i => (m + i) % 65536
  else ((upto 65536).drop first).take count

/-- BOBBIN_READ: from the mark it is refused while the mark is not valid (R63). DESIGN CHOICE:
notes/assumptions/62.md. -/
def cmdBobbinRead : Cmd :=
  { op := 0xC055, active := false, changes := false, len := lenIs 20, states := anyState,
    body := fun s p =>
      let b := fieldLE p 8 1
      let mark := fieldLE p 9 1 % 2 == 1
      if 8 ≤ b ∨ 65536 ≤ fieldLE p 12 4 then s.refuse .range
      else if mark && !s.bit (BOB_MARKPTR_VALID b) then s.refuse .stateConflict
      else s.recordReply 8 ((s.bobRange b mark (fieldLE p 12 4) (fieldLE p 16 4)).map fun i =>
        (i, leBytes 4 (s.rd (BOB_MEM b (2 * i))) ++ leBytes 4 (s.rd (BOB_MEM b (2 * i + 1))))) }

/-- BOBBIN_READ (R62). -/
def execBobbinRead (p : List (BitVec 8)) (s : State) : Host.Outcome State Fault Refusal := .next (s.mailbox cmdBobbinRead p)

/-- One rack of a CALIBRATION_STATUS reply (R234). -/
def State.calRecord (s : State) (r : Nat) : List Byte :=
  let x := s.cal r
  leBytes 4 x.state ++ leBytes 4 (s.rd (SN_FLOWGAIN r)) ++ leBytes 4 x.gTarget.toNat ++
    leBytes 4 (s.rd (SN_RTDOFF (2 * r))) ++ leBytes 4 x.oTarget.toNat ++ leBytes 4 (s.rd (SN_RTDOFF (2 * r + 1))) ++
    leBytes 4 x.oTarget2.toNat ++ leBytes 4 x.pElec.toNat ++ leBytes 4 x.pCool.toNat ++ leBytes 4 x.steady ++
    leBytes 4 ((x.lastStep.map fun t => (s.time - t) / secs 60).getD 0xFFFFFFFF)

/-- CALIBRATION_STATUS. DESIGN CHOICE: notes/assumptions/62.md. -/
def cmdCalibrationStatus : Cmd :=
  { op := 0xC090, active := false, changes := false, len := lenIs 8, states := anyState,
    body := fun s _ => { st := s, out := (upto 16).flatMap s.calRecord } }

/-- CALIBRATION_STATUS (R234). -/
def execCalibrationStatus (p : List (BitVec 8)) (s : State) : Host.Outcome State Fault Refusal :=
  .next (s.mailbox cmdCalibrationStatus p)

/-! ### Journals and the twin (R385, R386) -/

/-- A journal record as QUERY_PROGRESS gives it (R386). -/
def Journal.bytes (j : Journal) : List Byte :=
  leBytes 2 j.idx ++ leBytes 2 j.opcode ++ leBytes 4 j.tag ++ leBytes 2 j.total ++ leBytes 2 j.done ++ leBytes 2 j.step ++
    leBytes 1 j.outcome.code ++ zeros 1 ++ leBytes 4 j.detail ++ zeros 4 ++ leBytes 8 j.started ++ leBytes 8 j.changed ++
    leBytes 8 j.frame

/-- The record of a journal that the module does not hold: outcome 4. -/
def noJournal (idx tag : Nat) : List Byte := leBytes 2 idx ++ zeros 2 ++ leBytes 4 tag ++ zeros 6 ++ leBytes 1 4 ++ zeros 33

/-- QUERY_PROGRESS. -/
def cmdQueryProgress : Cmd :=
  { op := 0xC071, active := false, changes := false, len := lenIs 16, states := anyState,
    body := fun s p =>
      let idx := fieldLE p 8 2
      let flags := fieldLE p 10 1
      let tag := fieldLE p 12 4
      let l := if bitOf flags 1 then s.mb.former else s.mb.journals
      match l.find? fun j => if bitOf flags 0 then j.tag == tag else j.idx == idx with
      | some j => { st := s, out := j.bytes }
      | none => { st := s, out := noJournal idx tag } }

/-- QUERY_PROGRESS (R386). -/
def execQueryProgress (p : List (BitVec 8)) (s : State) : Host.Outcome State Fault Refusal :=
  .next (s.mailbox cmdQueryProgress p)

/-- The TWIN_STATUS payload (R385). -/
def State.twinBytes (s : State) : List Byte :=
  ([TW_STATUS_ROLE, TW_PARTNER_ROLE, TW_XCHK_MODEL, TW_XCHK_FIRST, TW_LAG, TW_MISMATCH_COUNT, TW_LAST_GAP,
      TW_FWD_MBPS].flatMap fun f => leBytes 4 (s.word f.addr)) ++
    leBytes 8 (s.rd64 TW_PARTNER_FRAME_LO)

/-- TWIN_STATUS: reading the command's copy clears no register. -/
def cmdTwinStatus : Cmd :=
  { op := 0xC0B0, active := false, changes := false, len := lenIs 8, states := anyState,
    body := fun s _ => { st := s, out := s.twinBytes } }

/-- TWIN_STATUS (R385). -/
def execTwinStatus (p : List (BitVec 8)) (s : State) : Host.Outcome State Fault Refusal := .next (s.mailbox cmdTwinStatus p)

/-! ### The standard CXL commands (R366, R367) -/

/-- A standard command's reply; the ACTIVE module's host-silence timer restarts (R372). A module without supply takes no
command (R19). -/
def State.standard (s : State) (body : List Byte) : State :=
  if s.sys.mode = .off then s
  else
  let s := s.atMailbox
  let s := if s.isActive then s.silenceRestart else s
  (s.reply { rc := 0, body := body }).msixSend 0

/-- UNSUPPORTED_COMMAND: any other standard opcode, or an opcode of 0xC000 to 0xC0FF that the list does not hold, gives
the CXL return code Unsupported; nothing else happens. -/
def execUnsupportedCommand (op : BitVec 16) (s : State) : Host.Outcome State Fault Refusal :=
  let t := s.atMailbox
  .next (if s.sys.mode = .off then s else (t.reply { rc := 1, body := leBytes 2 op.toNat }).msixSend 0)

/-- IDENTIFY_MEMORY_DEVICE: total and volatile capacity in 256 MiB units, no persistent capacity, no partitioning. -/
def execIdentifyMemoryDevice (s : State) : Host.Outcome State Fault Refusal :=
  .next (s.standard (leBytes 8 1920 ++ leBytes 8 1920 ++ leBytes 8 0 ++ leBytes 8 0))

/-- The Waxus opcodes of R373. -/
def waxusOpcodes : List Nat :=
  [0xC000, 0xC001, 0xC002, 0xC003, 0xC010, 0xC011, 0xC012, 0xC020, 0xC021, 0xC022, 0xC030, 0xC031, 0xC032, 0xC040, 0xC041,
   0xC042, 0xC043, 0xC050, 0xC051, 0xC052, 0xC053, 0xC054, 0xC055, 0xC060, 0xC061, 0xC062, 0xC070, 0xC071, 0xC072, 0xC080,
   0xC081, 0xC082, 0xC083, 0xC090, 0xC091, 0xC0A0, 0xC0B0, 0xC0B1]

/-- The opcodes that only read. -/
def readOpcodes : List Nat :=
  [0xC000, 0xC001, 0xC003, 0xC011, 0xC012, 0xC022, 0xC031, 0xC043, 0xC051, 0xC053, 0xC055, 0xC071, 0xC072, 0xC083, 0xC090,
   0xC0B0]

/-- GET_SUPPORTED_LOGS: one log, the Command Effects Log, with its size. -/
def execGetSupportedLogs (s : State) : Host.Outcome State Fault Refusal :=
  .next (s.standard (leBytes 2 1 ++ leBytes 4 (4 * waxusOpcodes.length)))

/-- GET_LOG: the Command Effects Log, every Waxus opcode with an effect word: 0 for one that only reads, else 2 (an
immediate change of configuration). DESIGN CHOICE: notes/assumptions/22.md. -/
def execGetLog (s : State) : Host.Outcome State Fault Refusal :=
  .next (s.standard (waxusOpcodes.flatMap fun o => leBytes 2 o ++ leBytes 2 (if readOpcodes.contains o then 0 else 2)))

/-- GET_EVENT_RECORDS: the DRAM event records held, oldest first, 1 corrected and 2 uncorrected. DESIGN CHOICE:
notes/assumptions/22.md. -/
def execGetEventRecords (s : State) : Host.Outcome State Fault Refusal :=
  .next (s.standard (leBytes 2 s.mb.dramEvents.length ++
    s.mb.dramEvents.flatMap fun e => leBytes 2 (if e.1 then 2 else 1) ++ leBytes 8 e.2.1 ++ leBytes 8 e.2.2))

/-- CLEAR_EVENT_RECORDS: the oldest `n` DRAM event records are dropped. -/
def execClearEventRecords (n : Nat) (s : State) : Host.Outcome State Fault Refusal :=
  .next ((s.onMb fun y => { y with dramEvents := y.dramEvents.drop n }).standard [])

/-- The timestamp in ns: the timebase, or what the host has set and the time since (R366). -/
def State.stampNow (s : State) : Nat :=
  match s.mb.stamp with
  | some q => (q.1 + (s.time - q.2) * 10) % 2 ^ 64
  | none => s.time * 10 % 2 ^ 64

/-- GET_TIMESTAMP: the timestamp in ns. -/
def execGetTimestamp (s : State) : Host.Outcome State Fault Refusal := .next (s.standard (leBytes 8 s.stampNow))

/-- SET_TIMESTAMP: the timestamp goes on from the value given, in ns; the timebase itself follows PTM alone (R364, R418),
and steps nowhere. DEDUCED: notes/assumptions/90.md. -/
def execSetTimestamp (ns : BitVec 64) (s : State) : Host.Outcome State Fault Refusal :=
  .next (if s.sys.mode = .off then s else (s.onMb fun y => { y with stamp := some (ns.toNat, s.time) }).standard [])

end Sys2Proof.Machine
end

