-- ==== Sys2Proof/Machine/Contexts.lean ====
section
/-! DEFINITION. Contexts, budgets and leases through the mailbox (spec 06, R154 to R163, R167; spec 15, R381, R382). -/

namespace Sys2Proof.Machine

/-! ### CONTEXT_ADD and CONTEXT_REMOVE (R154, R155, R381) -/

/-- The fields of a CONTEXT_ADD request (R381), within their ranges (R152). -/
structure AddReq where
  ctx : Nat
  group : Nat
  prio : Nat
  budget : Nat
  fallback : Nat
  lease : Nat
  addr : Nat

/-- The request as the host gave it. -/
def addReq (p : List Byte) : AddReq :=
  { ctx := fieldLE p 8 2, group := fieldLE p 10 1, prio := fieldLE p 11 1, budget := fieldLE p 12 2,
    fallback := fieldLE p 14 2, lease := fieldLE p 16 2, addr := fieldLE p 20 8 }

/-- The request with every field in range: priority class, budget, fallback cap, lease. -/
def AddReq.fix (q : AddReq) : AddReq :=
  { q with prio := min q.prio 3, budget := min q.budget 4095, fallback := min q.fallback (min q.budget 4095),
           lease := clampNat 20 10000 q.lease }

/-- The clamps of a CONTEXT_ADD. -/
def AddReq.clamps (q : AddReq) : List ClampRec :=
  let f := q.fix
  clampRec 0x2003 q.ctx q.budget f.budget ++ clampRec 0x2004 q.ctx q.fallback f.fallback ++
    clampRec 0x2005 q.ctx q.prio f.prio ++ clampRec 0x2006 q.ctx q.lease f.lease

/-- The credit entry of a context at CONTEXT_ADD (R188, R202): GRANT_CUM the quota, the others 0, GEN changed. -/
def State.creditReset (s : State) (c : Nat) : State :=
  let q := s.rd (VQ_CR_QUOTA c)
  let s := (s.wr (VQ_CR_GRANT_CUM c) q).wr (VQ_CR_USED_CUM c) 0
  let s := (s.wr (VQ_CR_RETURNED_CUM c) 0).wr (VQ_CR_GEN c) (s.rd (VQ_CR_GEN c) + 1)
  s.wr (VQ_CR_STAT c) (min q 31)

/-- The register entry of a new context (R152, R154). -/
def State.putEntry (s : State) (q : AddReq) : State :=
  let c := q.ctx
  let s := (s.wr (PB_ADDR_LO_ADDR c) (q.addr / 64)).wr (PB_ADDR_HI c) (q.addr / 2 ^ 32)
  let s := (s.wr (PB_CFG_GROUP c) q.group).wr (PB_CFG_PRIORITY c) q.prio
  let s := (s.wr (PB_LEASE c) q.lease).wr (PB_BUDGET_BUDGET c) q.budget
  let s := (s.wr (PB_BUDGET_FALLBACK c) q.fallback).wr (PB_CAP c) 0
  let s := (s.wr64 (PB_APPLIED_EPOCH_LO c) 0).wr64 (PB_CONFIRMED_EPOCH_LO c) 0
  let s := (s.wr64 (PB_LAST_SENT_LO c) 0).wr (PB_STATUS c) 0
  (s.wr (PB_ERRORS c) 0).putBit (PB_CFG_VALID c) true

/-- Slot c starts from the fallback cap, chain 1 from 0 and not CTX_SILENT (R42), with a hand-over, its limits and its margin setpoint of 5 K the defaults where
LOOP_SET has set none (R154, R40). DEDUCED: notes/assumptions/98.md. -/
def State.presetSlot (s : State) (c fallback : Nat) : State :=
  let u := f32OfInt fallback
  let given := (s.pbCtx c).limitsSet
  let s := if bitOf given 4 then s else s.wrf (SL_SETPOINT c) (f32OfInt 5)
  let s := s.defaultLimits c given
  let s := ((s.wrf (SL_OUT0 c) u).wr (SL_OUT1 c) 0).putBit (SL_FLAGS_CTX_SILENT c) false
  s.setSlot c { s.slot c with out := u, has0 := true, handDue := true, slew0 := false, slew1 := false, upre1 := 0 }

/-- A context entry made (R154); it is admitted at the next frame boundary. No telemetry record of an earlier context
under the number stays (R42). Its demand before its first completed
sample is a free value. DESIGN CHOICE: notes/assumptions/44.md. DEDUCED: notes/assumptions/45.md. -/
def State.addContext (s : State) (q : AddReq) : State :=
  let s := s.putEntry q
  let s := s.setPbCtx q.ctx
    { limitsSet := (s.pbCtx q.ctx).limitsSet, demand := s.freeNat % 4096, admitDue := true,
      ceil := { val := fracNat q.budget, target := q.budget, rbase := {}, falling := false, immediate := false } }
  ((s.drew.presetSlot q.ctx q.fallback).creditReset q.ctx).onVq fun y =>
    { y with silent := tset 0 y.silent q.ctx 0, newest := tset none y.newest q.ctx none }

/-- CONTEXT_ADD, with its checks in the order of R154. -/
def contextAddBody (s : State) (p : List Byte) : Res :=
  let q := addReq p
  if 4096 ≤ q.ctx ∨ 64 ≤ q.group ∨ q.addr % 64 ≠ 0 then s.refuse .range
  else if s.bit (PB_CFG_VALID q.ctx) then s.refuse .stateConflict
  else if s.bit TR_STATUS_ADMITTED ∧ s.rd TR_ADMIT ≤ q.ctx / 32 then s.refuse .notFit
  else
    let t := s.addContext q.fix
    { st := t, clamps := q.clamps,
      out := leBytes 8 s.nextFrame ++ leBytes 4 (t.rd (VQ_CR_GEN q.ctx)) ++ leBytes 4 (t.rd (VQ_CR_QUOTA q.ctx)) }

/-- CONTEXT_ADD. -/
def cmdContextAdd : Cmd :=
  { op := 0xC020, active := true, changes := true, len := lenIs 28, states := runState, body := contextAddBody }

/-- CONTEXT_ADD (R154, R381). -/
def execContextAdd (p : List (BitVec 8)) (s : State) : Host.Outcome State Fault Refusal := .next (s.mailbox cmdContextAdd p)

/-- CONTEXT_REMOVE: a RELEASE record in place of any unsent one, and the slot stops at the next boundary (R155). -/
def contextRemoveBody (s : State) (p : List Byte) : Res :=
  let c := fieldLE p 8 2
  if 4096 ≤ c then s.refuse .range
  else if ¬ s.bit (PB_CFG_VALID c) then s.refuse .unknownContext
  else
    let s := s.setPbCtx c { s.pbCtx c with admitDue := false }
    { st := (s.queueRec c .release (s.rd (PB_BUDGET_FALLBACK c))).putBit (PB_STATUS_RELEASING c) true }

/-- CONTEXT_REMOVE. DEDUCED: notes/assumptions/45.md. -/
def cmdContextRemove : Cmd :=
  { op := 0xC021, active := true, changes := true, len := lenIs 12, states := runState, body := contextRemoveBody }

/-- CONTEXT_REMOVE (R155, R381). -/
def execContextRemove (p : List (BitVec 8)) (s : State) : Host.Outcome State Fault Refusal :=
  .next (s.mailbox cmdContextRemove p)

/-! ### SET_BUDGET (R382) -/

/-- One entry of a SET_BUDGET request. -/
structure BudgetReq where
  level : Nat
  imm : Bool
  index : Nat
  budget : Nat
  fallback : Nat
  prio : Nat
  group : Nat

/-- The i-th entry. -/
def budgetReq (p : List Byte) (i : Nat) : BudgetReq :=
  let e := 12 + 16 * i
  { level := fieldLE p e 1, imm := fieldLE p (e + 1) 1 % 2 == 1, index := fieldLE p (e + 2) 2,
    budget := fieldLE p (e + 4) 4, fallback := fieldLE p (e + 8) 2, prio := fieldLE p (e + 10) 1,
    group := fieldLE p (e + 11) 1 }

/-- What refuses a SET_BUDGET entry: an index out of range, or a context that has no valid entry (R156, R382). -/
def State.budgetBad (s : State) (q : BudgetReq) : Option Ks :=
  match q.level with
  | 0 => if q.index = 0 then none else some .range
  | 1 => if q.index < 16 then none else some .range
  | 2 => if q.index < 64 ∧ (q.group < 16 ∨ q.group = 0xFF) then none else some .range
  | 3 =>
    if 4096 ≤ q.index ∨ (64 ≤ q.group ∧ q.group ≠ 0xFF) then some .range
    else if s.bit (PB_CFG_VALID q.index) then none else some .unknownContext
  | _ => some .range

/-- The largest budget of a level (R156). -/
def budgetTop (level : Nat) : Nat := if level = 0 then 4000000 else if level = 3 then 4095 else 400000

/-- A field given, or none where its code says unchanged. -/
def given (v none_ : Nat) : Option Nat := if v = none_ then none else some v

/-- The change that an entry asks for, its values in range, with its clamps. -/
def State.budgetFix (s : State) (q : BudgetReq) : BudgetChange × List ClampRec :=
  let b := (given q.budget 0xFFFFFFFF).map fun v => min v (budgetTop q.level)
  let top := b.getD (s.rd (PB_BUDGET_BUDGET q.index))
  let ctx := q.level == 3
  let f := if ctx then (given q.fallback 0xFFFF).map fun v => min v top else none
  let pr := if ctx then (given q.prio 0xFF).map fun v => min v 3 else none
  let g := if 2 ≤ q.level then given q.group 0xFF else none
  ({ level := q.level, index := q.index, immediate := q.imm, budget := b, fallback := f, priority := pr, group := g },
    clampRec (0x2000 + q.level) q.index q.budget (b.getD q.budget) ++
      clampRec 0x2004 q.index q.fallback (f.getD q.fallback) ++ clampRec 0x2005 q.index q.prio (pr.getD q.prio))

/-- The ceilings an entry changes: a context's, a group's, or those of every group of a rack or of the row (R382). -/
def State.entryCeilings (s : State) (c : BudgetChange) : List (Nat × Nat) :=
  match c.level with
  | 0 => (upto 64).map fun g => (2, g)
  | 1 => (s.rackGroups c.index).map fun g => (2, g)
  | 2 => [(2, c.index)]
  | _ => [(3, c.index)]

/-- SET_BUDGET. DEDUCED: notes/assumptions/45.md. -/
def setBudgetBody (s : State) (p : List Byte) : Res :=
  let qs := (upto (fieldLE p 8 4)).map (budgetReq p)
  match (qs.filterMap s.budgetBad).head? with
  | some k => s.refuse k
  | none =>
    let fs := qs.map s.budgetFix
    let cs := fs.map (·.1)
    let j := s.mb.nextJournal
    let tc := s.changesTc cs
    let t := (s.openJournal 0xC030 (tagOf p) 4).journalStep j 1
    let t := (t.onPb fun y => { y with changes := y.changes ++ cs }).onMb fun y => { y with
      budgetJobs := y.budgetJobs ++
        [{ journal := j, ceilings := (cs.flatMap s.entryCeilings).eraseDups, frame := s.nextFrame, waiting := [],
           sentAt := [], sent := [] }] }
    { st := t, clamps := fs.flatMap (·.2), journal := j, out := leBytes 8 s.nextFrame ++ leBytes 4 tc }

/-- SET_BUDGET (R163: every state but BOOT, SERVICE, FAILED). -/
def cmdSetBudget : Cmd :=
  { op := 0xC030, active := true, changes := true,
    len := fun p => decide (12 ≤ p.length) && p.length == 12 + 16 * fieldLE p 8 4,
    states := fun s => s.sys.mode != .boot && s.sys.mode != .service && s.sys.mode != .failed && s.sys.mode != .off,
    body := setBudgetBody }

/-- SET_BUDGET (R382). -/
def execSetBudget (p : List (BitVec 8)) (s : State) : Host.Outcome State Fault Refusal := .next (s.mailbox cmdSetBudget p)

/-! ### The steps of a budget journal (R382) -/

/-- A ceiling has reached its target. -/
def State.ceilingDone (s : State) (q : Nat × Nat) : Bool :=
  if q.1 = 2 then !(s.grpCeil q.2).falling else !(s.pbCtx q.2).ceil.falling

/-- The contexts that a ceiling bounds. -/
def State.ceilingCtxs (s : State) (q : Nat × Nat) : List Nat := if q.1 = 2 then s.groupCtxs q.2 else [q.2]

/-- A context has confirmed a cap at or below its grant, or is silent or unreachable (R171, R382). DEDUCED:
notes/assumptions/48.md. -/
def State.jobCtxDone (s : State) (j : BudgetJob) (q : Nat × Nat) : Bool :=
  s.bit (PB_STATUS_SILENT q.1) || s.bit (PB_STATUS_UNREACHABLE q.1) ||
    match j.sent.find? fun r => r.1 == q.1 && decide (r.2.1 ≤ q.2) with
    | some r => decide (r.2.2 ≤ s.rd64 (PB_CONFIRMED_EPOCH_LO q.1))
    | none => false

/-- A budget job put back among the jobs. -/
def State.putJob (s : State) (k : BudgetJob) : State := s.onMb fun y => { y with
  budgetJobs := y.budgetJobs.map fun x => if x.journal = k.journal then k else x }

/-- A job's next steps at a boundary: effective, ceilings reached, contexts confirmed. DEDUCED:
notes/assumptions/48.md. -/
def State.budgetJobStep (s : State) (j : BudgetJob) : State :=
  let cs := (j.ceilings.flatMap s.ceilingCtxs).eraseDups
  let step : Nat := ((s.mb.journals.find? fun x => x.idx == j.journal).map (·.done)).getD 4
  let eff := decide (step = 1 ∧ j.frame ≤ s.frame) && !s.budgetHeld
  let j := if eff then { j with sentAt := cs.map fun c => (c, s.rd (PB_CAP_CAP_SENT c)), sent := [] } else j
  let s := if eff then (s.putJob j).journalStep j.journal 2 else s
  let step : Nat := if eff then 2 else step
  let reached := decide (step = 2) && j.ceilings.all s.ceilingDone
  let waits := (j.sentAt.filter fun q => decide (s.rd (PB_CAP_GRANT q.1) < q.2)).map fun q => (q.1, s.rd (PB_CAP_GRANT q.1))
  let j := if reached then { j with waiting := waits } else j
  let s := if reached then (s.putJob j).journalStep j.journal 3 else s
  let step : Nat := if reached then 3 else step
  if step = 3 ∧ j.waiting.all (s.jobCtxDone j) then
    (s.journalStep j.journal 4).onMb fun y => { y with budgetJobs := y.budgetJobs.filter fun x => x.journal != j.journal }
  else s

/-- The budget journals brought up to the frame that opens. -/
def State.budgetJobs (s : State) : State := s.mb.budgetJobs.foldl State.budgetJobStep s

/-! ### SET_LEASE (R167, R382) -/

/-- The new lease of one context: stored, carried by the record that waits for it, else sent at once with a RENEW record
unless renewals stop (R167). DEDUCED:
notes/assumptions/45.md. -/
def State.newLease (s : State) (lease c : Nat) : State :=
  let s := s.wr (PB_LEASE c) lease
  let x := s.pbCtx c
  match x.unsent with
  | some r => s.setPbCtx c { x with unsent := some { r with lease := lease } }
  | none =>
    if s.renewalStopped c ∨ s.bit (PB_STATUS_RELEASING c) ∨ ¬ x.everSent then s
    else s.queueRec c .renew (s.rd (PB_CAP_CAP_SENT c))

/-- SET_LEASE: the lease is clamped once. -/
def cmdSetLease : Cmd :=
  { op := 0xC032, active := true, changes := true, len := lenIs 14, states := runState,
    body := fun s p =>
      let first := fieldLE p 8 2
      let n := fieldLE p 10 2
      let lease := clampNat 20 10000 (fieldLE p 12 2)
      if 4096 ≤ first then s.refuse .range
      else { st := (s.ctxs.filter fun c => decide (first ≤ c ∧ c < first + n)).foldl (fun s c => s.newLease lease c) s,
             clamps := clampRec 0x2006 first (fieldLE p 12 2) lease } }

/-- SET_LEASE (R382). -/
def execSetLease (p : List (BitVec 8)) (s : State) : Host.Outcome State Fault Refusal := .next (s.mailbox cmdSetLease p)

end Sys2Proof.Machine
end

