-- ==== Sys2Proof/Machine/Settings.lean ====
section
/-! DEFINITION. Configuration and the loops, actuators and test signals through the mailbox: CONFIG_WRITE, LOOP_SET,
TABLE_WRITE, INJECT_START, BOBBIN_ARM, PUMP_SET, VALVE_SEQUENCE, CALIBRATION_CONTROL, MODBUS_WRITE_ENABLE. -/

namespace Sys2Proof.Machine

/-! ### Entries (R377) -/

/-- The entries of a CONFIG_WRITE or LOOP_SET request: identifier, index, value. -/
def entriesOf (p : List Byte) : List (Nat × Nat × Nat) :=
  (upto ((p.length - 12) / 8)).map fun i => (fieldLE p (12 + 8 * i) 2, fieldLE p (14 + 8 * i) 2, fieldLE p (16 + 8 * i) 4)

/-- The length matches the count, 1 to 65,535. -/
def entriesLen (p : List Byte) : Bool :=
  decide (12 ≤ p.length) && p.length == 12 + 8 * fieldLE p 8 4 && decide (1 ≤ fieldLE p 8 4) &&
    decide (fieldLE p 8 4 ≤ 65535)

/-- The entries with each field once: the later entry of a field and index wins. -/
def lastEntries : List (Nat × Nat × Nat) → List (Nat × Nat × Nat)
  | [] => []
  | e :: es => if es.any fun x => x.1 == e.1 && x.2.1 == e.2.1 then lastEntries es else e :: lastEntries es

/-- A list of entries with one added, in place of an earlier one of the same field; a value that stands already keeps
its place, since nothing changes by it (R219). -/
def putCfg (l : List (Nat × Nat × Nat)) (e : Nat × Nat × Nat) : List (Nat × Nat × Nat) :=
  if l.contains e then l
  else (l.filter fun x => x.1 != e.1 || x.2.1 != e.2.1) ++ [e]

/-- The class of a field. -/
def cfgClass (ident : Nat) : CfgClass := ((cfgField ident).map (·.cls)).getD .run

/-- An entry names a known field and an index in its range. -/
def entryKnown (e : Nat × Nat × Nat) : Bool :=
  match cfgField e.1 with
  | some f => f.has e.1 e.2.1
  | none => false

/-- The entries with their values in range; none where a value is a structural error. DEDUCED:
notes/assumptions/18.md. -/
def State.fixEntries (s : State) : List (Nat × Nat × Nat) → Option (List (Nat × Nat × Nat))
  | [] => some []
  | e :: es =>
    match s.cfgFix e.1 e.2.1 e.2.2, s.fixEntries es with
    | some v, some l => some ((e.1, e.2.1, v) :: l)
    | _, _ => none

/-- The output targets that some entries give written, so that the limits beside them are held to the new ranges
(R468). -/
def State.withTargets (s : State) (l : List (Nat × Nat × Nat)) : State :=
  l.foldl (fun s e =>
    match (if e.1 = 0x1004 then s.loopFix e.2.1 0x10 e.2.2 else none) with
    | some t => s.wr (SL_OUT_TARGET e.2.1) t
    | none => s) s

/-- The entries of a command with their values in range, each limit by the target its slot will have (R38, R468). -/
def State.fixAll (s : State) (l : List (Nat × Nat × Nat)) : Option (List (Nat × Nat × Nat)) := (s.withTargets l).fixEntries l

/-- What a field's entry asked for and got: CLAMPED, and PENDING for a BOOT field. -/
def entryRec (asked got : Nat × Nat × Nat) : List ClampRec :=
  let fl := b2n (asked.2.2 != got.2.2) + 2 * b2n (decide (cfgClass asked.1 = .boot))
  if fl = 0 then []
  else [{ ident := asked.1, index := asked.2.1, requested := asked.2.2, applied := got.2.2, flags := fl }]

/-- The configuration after every entry is merged with the values that wait for the boundary. -/
def State.merged (s : State) (l : List (Nat × Nat × Nat)) : State :=
  (s.mb.staged ++ l).foldl (fun s e => if cfgClass e.1 = .boot then s else s.cfgPut e.1 e.2.1 e.2.2) s

/-- The slots whose loop parameters some entries set. -/
def slotsOf (l : List (Nat × Nat × Nat)) : List Nat :=
  ((l.filter fun e => (loopOffset e.1).isSome).map fun e => e.2.1).eraseDups

/-- The channels whose time-triggered schedule some entries set (R287). -/
def schedsOf (l : List (Nat × Nat × Nat)) : List Nat :=
  (l.filterMap fun e =>
    if e.1 = 0x0083 then some e.2.1 else if e.1 = 0x0084 then some (e.2.1 / 32)
    else if e.1 = 0x0085 then some (e.2.1 / 2048) else none).eraseDups

/-- The channels whose nominal rate or TT_EN some entries set, on which the schedule check depends too (R287). -/
def ratesOf (l : List (Nat × Nat × Nat)) : List Nat :=
  (l.filterMap fun e => if e.1 = 0x0080 ∨ e.1 = 0x0082 then some e.2.1 else none).eraseDups

/-- The merged write breaks a limit pair or a schedule (R38, R287, R377). DEDUCED: notes/assumptions/63.md. -/
def State.mergeBad (s : State) (l : List (Nat × Nat × Nat)) : Bool :=
  let t := s.merged l
  (slotsOf l).any (fun k => !t.limitsOk k) || (schedsOf l).any (fun n => !t.schedOk n) ||
    (ratesOf l).any fun n => t.bit (FB_CTRL_TT_EN n) && !t.schedOk n

/-- Entries accepted: those of the classes RUN and TABLE wait for the next boundary, BOOT for the next BOOT; all are
kept in the management NOR (R377, R424, R467, R469). -/
def State.stage (s : State) (l : List (Nat × Nat × Nat)) : State :=
  let boot := l.filter fun e => decide (cfgClass e.1 = .boot)
  let run := l.filter fun e => !decide (cfgClass e.1 = .boot)
  let s := s.onMb fun y => { y with staged := run.foldl putCfg y.staged, cfgGen := (y.cfgGen + 1) % 2 ^ 32 }
  (s.onMg fun y => { y with
    bootCfg := boot.foldl putCfg y.bootCfg, storedCfg := run.foldl putCfg y.storedCfg }).onSys fun y =>
      { y with configWritten := true }

/-- CONFIG_WRITE, with its checks in the order of R377. -/
def configWriteBody (s : State) (p : List Byte) : Res :=
  let es := entriesOf p
  if es.any fun e => !entryKnown e then s.refuse .range
  else
    match (if s.sys.mode = .table then none else es.find? fun e => decide (cfgClass e.1 = .table)) with
    | some e => { st := s, ks := .stateConflict, out := leBytes 2 e.1 ++ leBytes 2 e.2.1 }
    | none =>
      let l := lastEntries es
      match s.fixAll l with
      | none => s.refuse .range
      | some f =>
        if s.mergeBad f then s.refuse .range
        else
          let t := s.stage f
          { st := t, clamps := (List.zipWith entryRec l f).flatten,
            out := leBytes 4 t.mb.cfgGen ++ leBytes 8 s.nextFrame }

/-- CONFIG_WRITE. -/
def cmdConfigWrite : Cmd :=
  { op := 0xC010, active := true, changes := true, len := entriesLen, states := runService, body := configWriteBody }

/-- CONFIG_WRITE (R377). -/
def execConfigWrite (p : List (BitVec 8)) (s : State) : Host.Outcome State Fault Refusal :=
  .next (s.mailbox cmdConfigWrite p)

/-- The input whose pair marking an entry writes (R241). -/
def markedBy (e : Nat × Nat × Nat) : Option Nat :=
  match e.1 with
  | 0x0078 => some e.2.1
  | 0x0079 => some (48 + e.2.1)
  | 0x007B => some (72 + e.2.1)
  | _ => none

/-- The staged configuration applied at a frame boundary, all entries together (R377). DEDUCED:
notes/assumptions/38.md. -/
def State.applyStaged (s : State) : State :=
  let l := s.mb.staged
  let t := l.foldl (fun s e => s.cfgPut e.1 e.2.1 e.2.2) (s.onMb fun y => { y with staged := [] })
  let t := if l.any (fun e => e.1 == 0x0082) then t.mirrorFeed else t
  if l.any fun e => (markedBy e).isSome then t.pairMarked (l.filterMap markedBy) else t

/-! ### LOOP_SET and TABLE_WRITE (R384, R39) -/

/-- LOOP_SET: the shadow words written and APPLY set in each slot named. -/
def loopSetBody (s : State) (p : List Byte) : Res :=
  let es := entriesOf p
  if es.any fun e => (loopOffset e.1).isNone || decide (4608 ≤ e.2.1) then s.refuse .range
  else
    let l := lastEntries es
    match s.fixAll l with
    | none => s.refuse .range
    | some f =>
      let t := f.foldl (fun s e => s.loopPut e.1 e.2.1 e.2.2) s
      if (slotsOf f).any fun k => !t.limitsOk k then s.refuse .range
      else
        let t := (slotsOf f).foldl (fun s k => s.putBit (SL_CTRL_APPLY k) true) t
        { st := t.onMg fun y => { y with storedCfg := f.foldl putCfg y.storedCfg },
          clamps := (List.zipWith entryRec l f).flatten }

/-- LOOP_SET. -/
def cmdLoopSet : Cmd :=
  { op := 0xC050, active := true, changes := true, len := entriesLen, states := runState, body := loopSetBody }

/-- LOOP_SET (R384). -/
def execLoopSet (p : List (BitVec 8)) (s : State) : Host.Outcome State Fault Refusal := .next (s.mailbox cmdLoopSet p)

/-- The binary32 at an offset of a request. -/
def f32At (p : List Byte) (off : Nat) : F32 := BitVec.ofNat 32 (fieldLE p off 4)

/-- TABLE_WRITE: x values that do not ascend strictly are refused (R39). DESIGN CHOICE: notes/assumptions/62.md. -/
def tableWriteBody (s : State) (p : List Byte) : Res :=
  let t := fieldLE p 8 2
  if 1024 ≤ t ∨ ¬ (upto 15).all (fun i => flt (f32At p (12 + 4 * i)) (f32At p (16 + 4 * i))) then s.refuse .range
  else
    { st := ((upto 32).foldl (fun s i => s.wrf (LE_TABLE t i) (f32At p (12 + 4 * i))) s).onLe fun y =>
        { y with tablesValid := tset false y.tablesValid t true } }

/-- TABLE_WRITE. -/
def cmdTableWrite : Cmd :=
  { op := 0xC062, active := true, changes := true, len := lenIs 140, states := runService, body := tableWriteBody }

/-- TABLE_WRITE (R39). -/
def execTableWrite (p : List (BitVec 8)) (s : State) : Host.Outcome State Fault Refusal := .next (s.mailbox cmdTableWrite p)

/-! ### INJECT_START and BOBBIN_ARM (R57, R58, R63) -/

/-- The injection channels in use: armed or running. -/
def State.injUsed (s : State) (c : Nat) : Bool := s.rd (LE_INJ_CTRL_STATE c) == 1 || s.rd (LE_INJ_CTRL_STATE c) == 2

/-- Ten percent of the range of the chain that a signal enters (R58). -/
def State.ampLimit (s : State) (k point : Nat) : F32 :=
  let r := if point = 3 then fsub (s.actF (SL_UMAX1 k)) (s.actF (SL_UMIN1 k)) else fsub (s.actF (SL_UMAX k)) (s.actF (SL_UMIN k))
  fdiv r (f32OfInt 10)

/-- INJECT_START: the lowest free channel is armed; the reply names it. DESIGN CHOICE: notes/assumptions/62.md (the clamp
identifiers of FREQ and PRE). -/
def injectStartBody (s : State) (p : List Byte) : Res :=
  let ctrl := fieldLE p 8 4
  let k := bitsOf ctrl 12 0
  let amp := f32At p 12
  let freq := f32At p 16
  if 4608 ≤ k ∨ ¬ fisFin amp ∨ ¬ fisFin freq then s.refuse .range
  else if s.effMode k = 0 ∨ s.effMode k = 4 then s.refuse .stateConflict
  else
    match (upto 32).find? fun c => !s.injUsed c with
    | none => s.refuse .busy
    | some c =>
      if (upto 32).any fun d => s.injUsed d && s.rd (LE_INJ_CTRL_SLOT d) == k && s.rd (LE_INJ_CTRL_SIGNAL d) != 3 then
        s.refuse .busy
      else
        let lim := s.ampLimit k (bitsOf ctrl 24 23)
        let a := fclamp (fneg lim) lim amp
        let f := fclamp 0x3C23D70A (fdiv 0x3F800000 (fmul (f32OfInt 8) (s.hOf k))) freq
        let f := if bitsOf ctrl 26 25 = 1 then f else freq
        let s := (s.wr (LE_INJ_CTRL c) (ctrl % 2 ^ 27)).wrf (LE_INJ_AMP c) a
        let cap := writableBits (LE_INJ_CAP c).addr (fieldLE p 20 4)
        let pre := bitsOf cap (LE_INJ_CAP_PRE c).hi (LE_INJ_CAP_PRE c).lo
        let s := (s.wrf (LE_INJ_FREQ c) f).wr (LE_INJ_CAP c) cap
        let s := (s.wr (LE_INJ_CAP_PRE c) (min pre 1024)).wr64 (LE_INJ_START_LO c) (fieldLE p 24 8)
        { st := s.injArm c, out := leBytes 2 c,
          clamps := clampRec 0x3000 k amp.toNat a.toNat ++ clampRec 0x3003 k freq.toNat f.toNat ++
            clampRec 0x3006 k pre (min pre 1024) }

/-- INJECT_START: refused in ISOLATE, SHED and SURVIVAL, and outside REACTIVE and PREDICTIVE. -/
def cmdInjectStart : Cmd :=
  { op := 0xC052, active := true, changes := true, len := lenIs 32,
    states := fun s => s.sys.mode == .reactive || s.sys.mode == .predictive, body := injectStartBody }

/-- INJECT_START (R58). -/
def execInjectStart (p : List (BitVec 8)) (s : State) : Host.Outcome State Fault Refusal :=
  .next (s.mailbox cmdInjectStart p)

/-- A bobbin's register as BOBBIN_ARM sets it: its writable bits. -/
def State.bobSet (s : State) (f : RF) (v : Nat) : State := s.wr f (writableBits f.addr v)

/-- BOBBIN_ARM. -/
def bobbinArmBody (s : State) (p : List Byte) : Res :=
  let b := fieldLE p 8 1
  if 8 ≤ b then s.refuse .range
  else if s.bit (BOB_STATUS_ARMED b) && !s.bit (BOB_STATUS_STOPPED b) then s.refuse .busy
  else
    let ctrl := fieldLE p 12 4
    let s := (s.wr (BOB_CTRL_MODE b) (bitsOf ctrl (BOB_CTRL_MODE b).hi (BOB_CTRL_MODE b).lo)).wr (BOB_CTRL_PROBE_EN b)
      (bitsOf ctrl (BOB_CTRL_PROBE_EN b).hi (BOB_CTRL_PROBE_EN b).lo)
    let s := ((s.bobSet (BOB_TRIG b) (fieldLE p 16 4)).bobSet (BOB_LEVEL b) (fieldLE p 20 4)).bobSet (BOB_POST b) (fieldLE p 24 4)
    { st := ((upto 4).foldl (fun (s : State) i => s.bobSet (BOB_PROBE b i) (fieldLE p (28 + 4 * i) 4)) s).bobArm b }

/-- BOBBIN_ARM. -/
def cmdBobbinArm : Cmd :=
  { op := 0xC054, active := true, changes := true, len := lenIs 44, states := fromTable, body := bobbinArmBody }

/-- BOBBIN_ARM (R63). -/
def execBobbinArm (p : List (BitVec 8)) (s : State) : Host.Outcome State Fault Refusal := .next (s.mailbox cmdBobbinArm p)

/-! ### PUMP_SET (R385) -/

/-- PUMP_SET: actions 0 and 1 in RUN, a speed only in SERVICE with the pump manager off (R373, R385). DEDUCED:
notes/assumptions/71.md. DESIGN CHOICE: notes/assumptions/62.md (the clamp identifier). -/
def pumpSetBody (s : State) (p : List Byte) : Res :=
  let n := fieldLE p 8 1
  let act := fieldLE p 9 1
  let v := fieldLE p 10 2
  if act = 2 ∧ s.sys.mode ≠ .service ∨ act < 2 ∧ ¬ s.sys.mode.run then s.refuse .stateConflict
  else if 4 ≤ n ∨ 3 ≤ act then s.refuse .range
  else
    match act with
    | 0 => { st := s.disable n }
    | 1 => { st := if s.bit (pfEnable n) then s else s.reenable n }
    | _ =>
      if s.bit PF_PMGR_ENABLE then s.refuse .stateConflict
      else
        { st := (s.setSpeed n v).onSys fun y =>
            { y with drives := if y.drives.contains (.pump n) then y.drives else y.drives ++ [.pump n] },
          clamps := clampRec 0x3002 n v (min v 10000) }

/-- PUMP_SET. DESIGN CHOICE: notes/assumptions/15.md. -/
def cmdPumpSet : Cmd :=
  { op := 0xC061, active := true, changes := true, len := lenIs 12, states := runService, body := pumpSetBody }

/-- PUMP_DISABLE: action 0 (R385). -/
def execPumpDisable (p : List (BitVec 8)) (s : State) : Host.Outcome State Fault Refusal := .next (s.mailbox cmdPumpSet p)

/-- PUMP_ENABLE: action 1 (R385). -/
def execPumpEnable (p : List (BitVec 8)) (s : State) : Host.Outcome State Fault Refusal := .next (s.mailbox cmdPumpSet p)

/-- PUMP_SET_SPEED: action 2 (R385). -/
def execPumpSetSpeed (p : List (BitVec 8)) (s : State) : Host.Outcome State Fault Refusal := .next (s.mailbox cmdPumpSet p)

/-! ### VALVE_SEQUENCE (R270) -/

/-- The i-th step of a request, its wait clamped. -/
def seqStep (p : List Byte) (i : Nat) : SvStep :=
  let e := 8 + 8 * i
  { ch := fieldLE p e 1, action := fieldLE p (e + 1) 1, withNext := bitOf (fieldLE p (e + 2) 1) 0,
    confirm := bitOf (fieldLE p (e + 2) 1) 1, wait := min (fieldLE p (e + 4) 2) 60000, phase := 0, doneAt := 0 }

/-- VALVE_SEQUENCE, with its checks in the order of R270. -/
def valveSequenceBody (s : State) (p : List Byte) : Res :=
  let n := (p.length - 8) / 8
  let l := (upto n).map (seqStep p)
  if n = 0 ∨ 32 < n ∨ l.any (fun x => decide (35 < x.ch) || x.action == 0 || decide (3 < x.action)) then s.refuse .range
  else if s.sv.seqJournal.isSome then s.refuse .busy
  else if l.any fun x => (x.action == 2 && s.bit (SV_CHSTAT_TRIP_HELD x.ch)) || (x.action == 3 && s.chLeaks x.ch) then
    s.refuse .stateConflict
  else
    let j := s.mb.nextJournal
    let t := s.openJournal 0xC060 (tagOf p) n
    { st := t.onSv fun y => { y with seqJournal := some j, steps := l }, journal := j,
      clamps := (upto n).flatMap fun i => clampRec 0x3001 i (fieldLE p (12 + 8 * i) 2) (min (fieldLE p (12 + 8 * i) 2) 60000) }

/-- VALVE_SEQUENCE: TABLE, REACTIVE, PREDICTIVE, ISOLATE and SERVICE. -/
def cmdValveSequence : Cmd :=
  { op := 0xC060, active := true, changes := true, len := fun p => p.length % 8 == 0,
    states := fun s => (s.sys.mode.run && s.sys.mode != .hold) || s.sys.mode == .service, body := valveSequenceBody }

/-- VALVE_SEQUENCE (R270). -/
def execValveSequence (p : List (BitVec 8)) (s : State) : Host.Outcome State Fault Refusal :=
  .next (s.mailbox cmdValveSequence p)

/-! ### CALIBRATION_CONTROL (R234) -/

/-- The SUSPECT marks of a rack cleared, its counts restarted, the state saved (R232 to R234). -/
def State.clearSuspect (s : State) (r : Nat) : State :=
  let s := ((s.markSuspect (s.rd (SN_FLOWSRC r)) false).markSuspect (0x1000 + 2 * r) false).markSuspect (0x1001 + 2 * r) false
  let x := s.cal r
  (s.setCal r { x with badG := 0, badO := 0, badO2 := 0, state := if x.enabled then 1 else 0 }).calSave

/-- CALIBRATION_CONTROL: 0 disable, 1 enable, 2 P_AUX, 3 clear SUSPECT, 4 reset of the corrections. DESIGN CHOICE:
notes/assumptions/62.md. P_AUX is held within 0 to 50,000 W, and kept in the NOR with the rest (R230, R234); a rack
whose meter is marked SUSPECT stays so when its calibration is enabled (R232). -/
def calibrationControlBody (s : State) (p : List Byte) : Res :=
  let r := fieldLE p 8 1
  let x := s.cal r
  if 16 ≤ r then s.refuse .range
  else
    match fieldLE p 9 1 with
    | 0 => { st := (s.setCal r { x with enabled := false, state := 0, steady := 0, iso := 0 }).calSave }
    | 1 => { st := if x.enabled then s
        else (s.setCal r { x with enabled := true, state := if s.suspect (s.rd (SN_FLOWSRC r)) then 4 else 1 }).calSave }
    | 2 =>
      if fisFin (f32At p 12) then
        let v := fclamp 0 (f32OfInt 50000) (f32At p 12)
        { st := (s.setCal r { x with paux := v }).calSave, clamps := clampRec 0x3005 r (f32At p 12).toNat v.toNat }
      else s.refuse .range
    | 3 => { st := s.clearSuspect r }
    | 4 => { st := s.setCal r { x with resetting := true } }
    | _ => s.refuse .range

/-- CALIBRATION_CONTROL. -/
def cmdCalibrationControl : Cmd :=
  { op := 0xC091, active := true, changes := true, len := lenIs 16, states := runState, body := calibrationControlBody }

/-- CALIBRATION_CONTROL (R234). -/
def execCalibrationControl (p : List (BitVec 8)) (s : State) : Host.Outcome State Fault Refusal :=
  .next (s.mailbox cmdCalibrationControl p)

/-! ### MODBUS_WRITE_ENABLE (R385) -/

/-- MODBUS_WRITE_ENABLE: ENABLE 1 starts a grant of 60 to 3,600 s, ENABLE 0 ends it. DESIGN CHOICE: notes/assumptions/62.md
(the clamp identifier). -/
def modbusEnableBody (s : State) (p : List Byte) : Res :=
  let d := clampNat 60 3600 (fieldLE p 10 2)
  match fieldLE p 8 1 with
  | 0 => { st := s.onMg fun y => { y with grantEnd := none } }
  | 1 => { st := s.onMg fun y => { y with grantEnd := some (s.time + secs d) }, clamps := clampRec 0x3004 0 (fieldLE p 10 2) d }
  | _ => s.refuse .range

/-- MODBUS_WRITE_ENABLE. DESIGN CHOICE: notes/assumptions/15.md. -/
def cmdModbusEnable : Cmd :=
  { op := 0xC0A0, active := true, changes := true, len := lenIs 12, states := runService, body := modbusEnableBody }

/-- MODBUS_WRITE_GRANT: ENABLE 1. -/
def execModbusWriteGrant (p : List (BitVec 8)) (s : State) : Host.Outcome State Fault Refusal :=
  .next (s.mailbox cmdModbusEnable p)

/-- MODBUS_WRITE_REVOKE: ENABLE 0. -/
def execModbusWriteRevoke (p : List (BitVec 8)) (s : State) : Host.Outcome State Fault Refusal :=
  .next (s.mailbox cmdModbusEnable p)

/-- MODBUS_GRANT_END: the duration has ended. -/
def execModbusGrantEnd (s : State) : Host.Outcome State Fault Refusal :=
  if s.since s.mg.grantEnd 0 then .next (s.onMg fun y => { y with grantEnd := none }) else .next s

end Sys2Proof.Machine
end

