-- ==== Sys2Proof/Machine/Snapshots.lean ====
section
/-! DEFINITION. Snapshots (spec 15, R387; spec 14, R355): the schedule, the latch of every block's state, the slot. -/

namespace Sys2Proof.Machine

/-- The DDR offset of a snapshot slot: 16,384 slots of 2 MiB in turn (R342, R355). -/
def snapSlot (k : Nat) : Nat := 0x6680000000 + k % 16384 * 0x200000

/-- A snapshot scheduled, with its journal of two steps. -/
def State.addSnap (s : State) (t tag : Nat) : State :=
  let j := s.mb.nextJournal
  (s.openJournal 0xC070 tag 2).onMb fun y => { y with
    snaps := y.snaps ++ [{ at_ := t, slot := y.nextSnap, tag := tag, journal := j, latched := none, image := [] }],
    nextSnap := (y.nextSnap + 1) % 16384 }

/-- SNAPSHOT_AT: T lies 1 ms to 60 s after the arrival; a fifth pending snapshot is refused. -/
def snapshotAtBody (s : State) (p : List Byte) : Res :=
  let t := fieldLE p 8 8
  if t < s.time + msec 1 then s.refuse .timeout
  else if s.time + secs 60 < t then s.refuse .range
  else if 4 ≤ s.mb.snaps.length then s.refuse .busy
  else { st := s.addSnap t (tagOf p), journal := s.mb.nextJournal, out := leBytes 2 s.mb.nextSnap }

/-- SNAPSHOT_AT. -/
def cmdSnapshotAt : Cmd :=
  { op := 0xC070, active := true, changes := true, len := lenIs 16, states := fromTableUp, body := snapshotAtBody }

/-- SNAPSHOT_AT (R387). -/
def execSnapshotAt (p : List (BitVec 8)) (s : State) : Host.Outcome State Fault Refusal := .next (s.mailbox cmdSnapshotAt p)

/-- The first 0x2000 bytes of BAR4 (R180, R181). DESIGN CHOICE: notes/assumptions/102.md. -/
def State.bar4Low (s : State) : List Byte :=
  let post (off : Nat) : List Byte :=
    leBytes 4 (if off = 0x100 then s.pb.postDue.getD s.pb.ackSeq else if off = 0x104 then tget 0 s.pb.post off
      else if off = 0x10C then 0 else tget 0xFFFFFFFF s.pb.post off)
  padTo 0x100 s.bar4Row ++ ((upto 84).flatMap fun i => post (0x100 + 4 * i)) ++ zeros 0xB0 ++
    padTo 0x100 (leBytes 4 s.pb.ackSeq ++ leBytes 4 s.pb.postStatus ++ leBytes 8 s.pb.postFrame ++ leBytes 4 s.pb.postTc) ++
    ((upto 16).flatMap s.bar4Rack) ++ zeros 0x800 ++ ((upto 64).flatMap s.bar4Group)

/-- Every status word of the field channels, in register order. -/
def State.fieldStatus (s : State) : List Byte :=
  let words (n : Nat) (f : Nat → RF) : List Byte := (upto n).flatMap fun i => leBytes 4 (s.word (f i).addr)
  words 48 SN_RTDSTAT ++ words 24 SN_MASTAT ++ words 8 SN_PISTAT ++ leBytes 4 (s.word SN_DIN.addr) ++ words 4 PF_PSTAT ++
    words 8 PF_FSTAT ++ words 20 AO_STAT ++ words 16 LK_ROPESTAT ++ words 16 LK_PTSTAT ++ words 36 SV_CHSTAT

/-- The slot's body from offset 0x1000 on. -/
def State.snapBody (s : State) : List Byte :=
  ((upto 4608).flatMap fun k => (upto 16).flatMap fun i => leBytes 4 (s.word ((SL_CTRL k).addr + 0xA0 + 4 * i))) ++
    ((upto 4096).flatMap s.bar4Ctx) ++
    ((upto 4096).flatMap fun c => padTo 128 (((tget none s.vq.newest c).map fun r => r.words.flatMap (leBytes 8)).getD [])) ++
    ((upto 4096).flatMap fun c =>
      padTo 128 (((tget none s.le.preds c).map fun r => r.lanes.flatMap fun x => leBytes 4 x.toNat).getD [])) ++
    padTo 0x1000 (padTo 1024 (s.plantVector.flatMap fun x => leBytes 4 x.toNat) ++ s.plantRaw.flatMap fun x => leBytes 4 x.toNat) ++
    padTo 0x4000 s.fieldStatus ++ padTo 0x2000 s.bar4Low ++ zeros 0x70000

/-- The header up to the CRC field. -/
def State.snapHead (s : State) (t : Nat) : List Byte :=
  leBytes 4 0x50414E53 ++ leBytes 2 1 ++ leBytes 2 4096 ++ leBytes 8 t ++ leBytes 8 s.time ++ leBytes 8 s.frame ++
    leBytes 8 s.mg.serial ++ leBytes 1 s.sys.mode.code ++ leBytes 1 s.sys.role.code ++
    leBytes 1 (s.rd CK_STATUS_PTM_LOCKED) ++ zeros 1 ++ leBytes 4 s.fwVersion ++
    padTo 8 ((s.tr.image.map (·.digest)).getD []) ++ leBytes 4 (s.rd CK_PTM_OFFSET)

/-- The slot's bytes, the TAG still 0: the CRC is computed with its field and TAG as 0. -/
def State.snapBytes (s : State) (t : Nat) : List Byte :=
  let body := s.snapBody
  let crc := crc32c (padTo 4096 (s.snapHead t) ++ body)
  padTo 4096 (s.snapHead t ++ leBytes 4 crc) ++ body

/-- The bytes that are not 0, with their offsets. -/
def cellsOf (l : List Byte) : List Host.Cell := (l.zipIdx.filter fun p => p.1 != 0).map fun p => (p.2, p.1)

/-- A snapshot changed. -/
def State.onSnap (s : State) (j : Nat) (f : Snap → Snap) : State :=
  s.onMb fun y => { y with snaps := y.snaps.map fun x => if x.journal = j then f x else x }

/-- A snapshot taken off the list. -/
def State.dropSnap (s : State) (j : Nat) : State :=
  s.onMb fun y => { y with snaps := y.snaps.filter fun x => x.journal != j }

/-- One snapshot whose T has come is latched; in SURVIVAL it is not taken and its journal ends ABORTED. -/
def State.latchSnap (s : State) (x : Snap) : State :=
  if s.sys.mode = .survival then (s.dropSnap x.journal).journalEnd x.journal .aborted 0
  else
    (s.onSnap x.journal fun y => { y with latched := some s.time, image := cellsOf (s.snapBytes x.at_) }).journalStep
      x.journal 1

/-- SNAPSHOT_LATCH: every snapshot whose T the timebase has reached (R387). -/
def execSnapshotLatch (s : State) : Host.Outcome State Fault Refusal :=
  .next ((s.mb.snaps.filter fun x => decide (x.at_ ≤ s.time) && x.latched.isNone).foldl State.latchSnap s)

/-- A range of DDR4 bytes back at 0. -/
def State.clearBytes (s : State) (a n : Nat) : State :=
  { s with mem := s.mem.filter fun c => decide (c.1 < a) || decide (a + n ≤ c.1) }

/-- A latched snapshot written to its slot, the TAG last; the journal is done. -/
def State.writeSnap (s : State) (x : Snap) : State :=
  let a := snapSlot x.slot
  let s := x.image.foldl (fun s c => s.setByte (a + c.1) c.2) (s.clearBytes a 0x200000)
  (((s.setBytes (a + 64) (leBytes 4 x.tag)).unpoison a 0x200000).journalStep x.journal 2).dropSnap x.journal

/-- SNAPSHOT_WRITTEN: the oldest latched snapshot is written, within 200 µs of T (R387); not while DDR4 is in self-refresh. -/
def execSnapshotWritten (s : State) : Host.Outcome State Fault Refusal :=
  match s.mb.snaps.find? fun x => x.latched.isSome && s.sys.mode != .survival with
  | some x => .next (s.writeSnap x)
  | none => .next s

end Sys2Proof.Machine
end

