-- ==== Sys2Proof/Machine/TrellisRun.lean ====
section
/-! DEFINITION. The commands of Trellis control: bunches, outputs, re-admission, rotation, scrub, and the steps of a
commit (spec 03, R72 to R88; spec 05, R147 to R149). -/

namespace Sys2Proof.Machine

/-- A frame boundary has been taken at this very count. -/
def State.atBoundary (s : State) : Bool := s.sys.lastFrame == some s.time

/-! ### Bunches (R72, R83) -/

/-- SENTINEL_BUNCH_ENTRY (R72): from 0.02 f on, once a frame; the last sentinel's answers are judged first. The tag
agrees with the header of the sentinel table (R117). DESIGN CHOICE: notes/assumptions/77.md. -/
def execSentinelBunchEntry (s : State) : Host.Outcome State Fault Refusal :=
  .next (
    if s.trRuns ∧ s.tr.frameOn ∧ s.tr.frameStart + s.frameCounts / 50 ≤ s.time ∧
        ¬ (s.tr.sentOn = true ∧ s.tr.sentFrame = s.frame) then
      let s := s.sentJudge
      if s.trRuns then
        let s := s.onTr fun y => { y with
          sentOn := true, sentFrame := s.frame, sentWrong := [], sentEarly := [], sentMsgs := [] }
        let tables := s
        s.feed tables.sentTag tables.sentLines
      else s
    else s)

/-- BUNCH_ENTRY (R72): occupied bunch number i at 0.05 f + i × II, while the frame lasts. -/
def execBunchEntry (s : State) : Host.Outcome State Fault Refusal :=
  .next (
    match s.tr.toEnter with
    | b :: rest =>
      let from_ := s.tr.frameStart + s.frameCounts / 20
      if s.trRuns ∧ s.tr.frameOn ∧ from_ ≤ s.time ∧ s.time < s.tr.frameStart + s.frameCounts ∧
          s.cyclesIn (s.tr.entered * s.rd TR_II) (s.time - from_) = true then
        let s := s.onTr fun y => { y with
          toEnter := rest, entered := y.entered + 1,
          lastOf := ((s.frame, b) :: y.lastOf.filter fun p => p.1 != s.frame).take 4 }
        let ls := s.bunchLines b
        s.feed (fun _ => 256 * b + s.frame % 256) fun _ => ls
      else s
    | [] => s)

/-- PREDICTION_DELIVERY (R74, R75, R118). -/
def execPredictionDelivery (s : State) : Host.Outcome State Fault Refusal :=
  .next (
    match s.nextFlight fun d => d == .out with
    | some (m, s) => s.takeOut m
    | none => s)

/-- VIRTUAL_SENSOR_DELIVERY (R76, R118). -/
def execVirtualSensorDelivery (s : State) : Host.Outcome State Fault Refusal :=
  .next (
    match s.nextFlight fun d => d == .vs with
    | some (m, s) => s.takeVs m
    | none => s)

/-! ### Re-admission (R84) -/

/-- READMISSION_DONE (R84): the model loaded on the columns left in the first form that fits, or not admitted. A commit
that has not stopped Trellis yet goes on; one whose new image no longer fits fails. -/
def execReadmissionDone (s : State) : Host.Outcome State Fault Refusal :=
  .next (
    if s.tr.readmit then
      match s.tr.image with
      | some x =>
        match s.admitForm x 0 s.frameCounts x.bunches with
        | some rot =>
          let s := (s.onTr fun y => { y with readmit := false }).trForm x rot
          s.loadImage.trStart.note 2 .readmission 1 [if rot then 1 else 2] 128
        | none =>
          match s.tr.commit with
          | some c =>
            if c.step < 5 then s.unadmitted
            else (if c.fallback then s else s.journalEnd c.journal .failed c.step).noModel
          | none => s.noModel
      | none => s.onTr fun y => { y with readmit := false }
    else s)

/-! ### Rotation (R79 to R81) -/

/-- ROTATION_PERIOD_EXPIRY (R78, R79): the rotation period, counted from the previous switch, has passed. -/
def execRotationPeriodExpiry (s : State) : Host.Outcome State Fault Refusal :=
  .next (
    if s.rotates ∧ s.trRuns ∧ s.rd TR_ROT_STATE_PHASE < 2 ∧
        s.tr.lastSwitch + secs (clampNat 1 600 (s.rd TR_ROT_PERIOD)) ≤ s.time then
      s.onTr fun y => { y with rotDue := true }
    else s)

/-- SPARE_SELFTEST_DONE (R79): 40 ms after the switch; a failed test of the spare is a column loss (R84). -/
def execSpareSelftestDone (failed : Option (Fin 8)) (s : State) : Host.Outcome State Fault Refusal :=
  .next (
    if s.rotates ∧ s.trRuns ∧ ¬ s.tr.selftestDone ∧ s.rd TR_ROT_STATE_PHASE < 2 ∧ s.tr.lastSwitch + msec 40 ≤ s.time then
      match failed with
      | some r => s.tileFail (16 * r + s.rd TR_ROT_STATE_SPARE) .selftest
      | none => s.onTr fun y => { y with selftestDone := true }
    else s)

/-- PRELOAD_DONE (R79): code, weights and constants of the retiring column's stages are in the spare. DEDUCED:
notes/assumptions/82.md. -/
def execPreloadDone (s : State) : Host.Outcome State Fault Refusal :=
  .next (
    if s.rotates ∧ s.trRuns ∧ s.tr.selftestDone ∧ ¬ s.tr.preloaded then
      let spare := s.rd TR_ROT_STATE_SPARE
      let old := s.logicalOf (s.rd TR_ROT_STATE_RETIRING)
      let s := s.stages.zipIdx.foldl (fun s p =>
        if some p.1.col = old then
          let t := 16 * p.1.row + spare
          s.setTile t (s.loadCode s.imageSlot p.2 p.1 s.plantUsed (s.tile t))
        else s) s
      (s.onTr fun y => { y with preloaded := true }).wr TR_ROT_STATE_PHASE 0
    else s)

/-- A tile's memory once its pending stores have landed. -/
def Tile.landed (x : Tile) : Table (List Byte) :=
  (x.pend.foldl (fun x p => match p.w with
    | .line n bs => x.apply (.line n bs)
    | .sreg _ _ | .vreg _ _ | .preg _ _ | .mreg _ _ | .acc _ _ => x) x).sram

/-- The copier's work for one stage of the retiring column (R79, R80): every line of its context-state region in the
spare. DEDUCED: notes/assumptions/82.md. -/
def State.copyStage (s : State) (old spare : Nat) (g : Stage) : State :=
  let mem := (s.tile (16 * g.row + old)).landed
  let y := s.tile (16 * g.row + spare)
  let sram := (upto (128 * g.stride)).foldl (fun t i =>
    let n := (g.stateBase + i) % 32768
    tset (zeros 64) t n (tget (zeros 64) mem n)) y.sram
  s.setTile (16 * g.row + spare) { y with sram := sram }

/-- The stages of the image on a physical column. -/
def State.stagesOn (s : State) (p : Nat) : List (Stage × Nat) :=
  s.stages.zipIdx.filter fun q => some q.1.col == s.logicalOf p

/-- ROTATION_CAPTURE_START (R79): at the first boundary after the period's expiry and the preload, S is set; the copier
fills the spare's context state, and from here on every store into it is mirrored (R80). DEDUCED:
notes/assumptions/82.md. -/
def execRotationCaptureStart (s : State) : Host.Outcome State Fault Refusal :=
  .next (
    if s.rotates ∧ s.trRuns ∧ s.atBoundary ∧ s.tr.rotDue ∧ s.tr.preloaded ∧ s.rd TR_ROT_STATE_PHASE < 2 then
      let lead := clampNat 1 16 (s.rd TR_CTRL_CAPTURE_LEAD)
      let s := (s.onTr fun y => { y with rotDue := false, switchAt := some (s.frame + lead) }).wr TR_ROT_STATE_PHASE 2
      let old := s.rd TR_ROT_STATE_RETIRING
      let spare := s.rd TR_ROT_STATE_SPARE
      (s.stagesOn old).foldl (fun s q => s.copyStage old spare q.1) s
    else s)

/-- The new tile of a stage at the switch: the preloaded memory with the captured context state and the plant vectors
that the retiring tile was given (R71, R77, R103), the stage taken up (R79, R80, R99). -/
def State.switchStage (s : State) (old spare : Nat) (p : Stage × Nat) : State :=
  let t := 16 * p.1.row + spare
  let mem := (s.tile (16 * p.1.row + old)).landed
  let vecs := (upto 32).map fun i => tget (zeros 64) mem ((p.1.plantBase + i) % 32768)
  let x := s.tile t
  let x := if s.plantUsed then { x with sram := putRows x.sram p.1.plantBase vecs } else x
  s.setTile t (s.takeUp s.imageSlot p.2 p.1 s.plantUsed x)

/-- ROTATION_SWITCH (R79): from S to S + 0.02 f the column map and the routes are rewritten and the spare becomes
logical. DEDUCED: notes/assumptions/82.md. DESIGN CHOICE: notes/assumptions/101.md. -/
def execRotationSwitch (s : State) : Host.Outcome State Fault Refusal :=
  .next (
    if s.rotates ∧ s.trRuns ∧ s.rd TR_ROT_STATE_PHASE = 2 ∧ (∃ k ∈ s.tr.switchAt, k ≤ s.frame) ∧
        s.time ≤ s.tr.frameStart + s.frameCounts / 50 then
      let old := s.rd TR_ROT_STATE_RETIRING
      let spare := s.rd TR_ROT_STATE_SPARE
      let s := match s.logicalOf old with
        | some c => ((s.stagesOn old).foldl (State.switchStage · old spare ·) s).wr (colByte c) (128 + spare)
        | none => s
      let s := s.onTr fun y => { y with switchAt := some s.frame }
      let s := (s.wr TR_ROT_STATE_SPARE old).wr TR_ROT_STATE_RETIRING (s.eastOf old)
      let s := (s.wr TR_ROT_STATE_ROT_COUNT (s.rd TR_ROT_STATE_ROT_COUNT + 1)).wr TR_ROT_STATE_PHASE 3
      let s := s.onTr fun y => { y with
        retiring := some old, lastSwitch := s.time, selftestDone := false, preloaded := false }
      (s.tileStates).log 2 .rotationDone 0 [old]
    else s)

/-- ROTATION_MIRROR_STOP (R79, R80): the retiring column has sent its last output of the frame before S; a column that
held no stage has none to send (R81). -/
def execRotationMirrorStop (s : State) : Host.Outcome State Fault Refusal :=
  .next (
    match s.tr.retiring with
    | some old =>
      let on := (s.westOf old).elim [] s.stagesOn
      if on.all fun g => s.retireeDone (16 * g.1.row + old) then
        (s.onTr fun y => { y with retiring := none, switchAt := none }).wr TR_ROT_STATE_PHASE 1
      else s
    | none => s)

/-- TR_ROT_NOW (R81): the period counts as expired at the next frame boundary. -/
def execTrRotNow (s : State) : Host.Outcome State Fault Refusal := .next (s.putBit TR_CTRL_ROT_NOW true)

/-! ### Scrub and debug access (R87, R88, R90, R97) -/

/-- The full pass that the scrubbers owe after SURVIVAL is complete once every tile in service has made one (R88, R89).
DEDUCED: notes/assumptions/84.md. -/
def State.scrubOwed (s : State) : State :=
  match s.tr.scrubFrom with
  | some t0 =>
    if (upto 128).all fun t => s.rd (TR_TILE_STATE t) == 3 || decide (t0 ≤ (s.tile t).scrubbed) then
      (s.onTr fun y => { y with scrubFrom := none }).trStatus
    else s
  | none => s

/-- The tile clocks run: not in idle, retention or a stopped module (R89). -/
def State.tileClocks (s : State) : Bool :=
  !s.bit TR_CTRL_IDLE && !s.bit TR_CTRL_RETAIN && s.sys.mode != .off && s.sys.mode != .failed

/-- TILE_SCRUB (R87, R88): a tile's scrubber completes a pass over its memories, with what its checks found; or an
access of the tile's own, an instruction fetch, a matrix operand or a line to send, meets an error. DEDUCED:
notes/assumptions/39.md. -/
def execTileScrub (t : Fin 128) (check : TileCheck) (s : State) : Host.Outcome State Fault Refusal :=
  .next (
    if s.tileClocks then
      match check.place with
      | .pass => ((s.setTile t { s.tile t with scrubbed := s.time }).tileEcc t check.ecc).scrubOwed
      | .fetch | .matrix | .send => s.tileEcc t check.ecc
    else s)

/-- A 32-bit word of a tile's memory (R90): data SRAM, or instruction memory of 65,536 words. DEDUCED:
notes/assumptions/84.md. -/
def Tile.dbgRead (x : Tile) (imem : Bool) (w : Nat) : Nat :=
  if imem then (if w < 65536 then bitsOf (tget 0 x.imem (w / 4)) (32 * (w % 4) + 31) (32 * (w % 4)) else 0)
  else fieldLE (x.line (w / 16)) (4 * (w % 16)) 4

/-- A 32-bit word of a tile's memory written. -/
def Tile.dbgWrite (x : Tile) (imem : Bool) (w v : Nat) : Tile :=
  if imem then
    if w < 65536 then
      { x with imem := tset 0 x.imem (w / 4) (withBits (tget 0 x.imem (w / 4)) (32 * (w % 4) + 31) (32 * (w % 4)) v) }
    else x
  else x.apply (.line (w / 16) ((upto 4).map fun i => (4 * (w % 16) + i, BitVec.ofNat 8 (v / 256 ^ i))))

/-- An access of TR_DBG_DATA (R90): a read answers the word at TR_DBG_ADDR; a write reaches idle, spare and failed tiles, or
any tile while ENABLE is 0; WORD advances. A read carries what its check found (R87). DEDUCED: notes/assumptions/39.md.
-/
def State.dbgAccess (s : State) (access : DbgAccess) : State :=
  let t := s.rd TR_DBG_ADDR_TILE
  let w := s.rd TR_DBG_ADDR_WORD
  let x := s.tile t
  let r := match access.v with
    | none => (s.reply { body := leBytes 4 (x.dbgRead (s.bit TR_DBG_ADDR_SPACE) w) }).tileEcc t access.ecc
    | some v =>
      if s.bit TR_CTRL_ENABLE ∧ s.rd (TR_TILE_STATE t) = 1 then s
      else s.setTile t (x.dbgWrite (s.bit TR_DBG_ADDR_SPACE) w v.toNat)
  r.wr TR_DBG_ADDR_WORD (w + 1)

/-- TR_DBG_DATA_ACCESS (R90). -/
def execTrDbgDataAccess (access : DbgAccess) (s : State) : Host.Outcome State Fault Refusal := .next (s.dbgAccess access)

/-! ### Commit (R147 to R149) -/

/-- COMMIT_DIGEST_CHECK (R148): step 2; a mismatch ends the commit ABORTED, and a running model that has lost a column
meanwhile is then re-admitted (R84); else step 3 begins and the module leaves PREDICTIVE. -/
def execCommitDigestCheck (s : State) : Host.Outcome State Fault Refusal :=
  .next (
    match s.tr.commit with
    | some c =>
      if c.step = 2 then
        if c.revert = false ∧ s.imageDigest c.image.slot ≠ c.digest then
          ((s.onTr fun y => { y with
              commit := none, readmit := y.readmit || (y.image.isSome && !s.bit TR_STATUS_ADMITTED) }).journalEnd c.journal .aborted 2).log 2 .commitFailed 1 [2]
        else
          let was := s.sys.mode == .predictive
          let s := (s.commitStep c.journal 2).toReactive
          s.onCommit fun c => { c with step := 3, wasPredictive := was, step3At := s.time }
      else s
    | none => s)

/-- Every context slot has switched: none runs PREDICTIVE any more (R148). -/
def State.allSwitched (s : State) : Bool := s.admitted.all fun c => s.rd (SL_FLAGS_EFF_MODE c) != 2

/-- COMMIT_TRELLIS_STOP (R148): the first boundary after every slot has switched, 10 ms at most; the old image moves to
the previous slot, and admission is repeated on the columns in service (R149). -/
def execCommitTrellisStop (s : State) : Host.Outcome State Fault Refusal :=
  .next (
    match s.tr.commit with
    | some c =>
      if c.step = 3 ∧ s.atBoundary ∧ (s.allSwitched ∨ c.step3At + msec 10 ≤ s.time) then
        let s := (s.commitStep c.journal 3).trStop.trUnadmit
        let same : Bool := match s.tr.image with
          | some x => x.slot == c.image.slot
          | none => false
        let c := { c with step := 4, oldImage := s.tr.image, oldPrevious := s.tr.previous }
        let s := s.onTr fun y => { y with
          image := some c.image, previous := if same then y.previous else y.image, commit := some c }
        let s := s.commitStep c.journal 4
        match s.beginLoad c with
        | some t => t
        | none => (s.onCommit fun c => { c with step := 5 }).commitFail
      else s
    | none => s)

/-- The image's file holds a poisoned burst, so its load meets an uncorrectable error (R149, R344). -/
def State.imagePoisoned (s : State) : Bool :=
  match s.tr.image with
  | some x => s.poisonIn (modelSlot x.slot) (s.leAt (modelSlot x.slot + 8) 8)
  | none => false

/-- COMMIT_LOAD_DONE (R148): step 5 complete, or failed through a self-test (`ok` false) or an uncorrectable error (R149). -/
def execCommitLoadDone (ok : Bool) (s : State) : Host.Outcome State Fault Refusal :=
  .next (
    match s.tr.commit with
    | some c =>
      if c.step = 5 then
        if ok ∧ ¬ s.imagePoisoned then
          let s := if c.fallback then s.loadImage else s.loadImage.commitStep c.journal 5
          s.onTr fun y => { y with enableDue := true, commit := some { c with step := 6 } }
        else s.commitFail
      else s
    | none => s)

/-- COMMIT_ENABLE (R148): at the next frame boundary ENABLE is set and frames run. DESIGN CHOICE:
notes/assumptions/13.md. -/
def execCommitEnable (s : State) : Host.Outcome State Fault Refusal :=
  .next (
    if s.tr.enableDue ∧ s.atBoundary then
      (s.onTr fun y => { y with enableDue := false }).trStart.trFrame
    else s)

/-- COMMIT_WARM_DONE (R147, R148): 8 good frames after the W frames end step 7; step 8 asks for PREDICTIVE where RESUME
is set and the module was PREDICTIVE at step 3. The reload of R149 goes the same way without a journal. -/
def execCommitWarmDone (s : State) : Host.Outcome State Fault Refusal :=
  .next (
    match s.tr.commit with
    | some c =>
      if c.step = 7 ∧ 8 ≤ s.tr.warmGood then
        let s := if c.fallback then s else (s.commitStep c.journal 7).commitStep c.journal 8
        let s := if c.resume ∧ c.wasPredictive then s.onSys fun y => { y with modeReq := some .predictive } else s
        s.onTr fun y => { y with commit := none }
      else s
    | none => s)

end Sys2Proof.Machine
end

