-- ==== Sys2Proof/Machine/Models.lean ====
section
/-! DEFINITION. Models through the mailbox: MODEL_LOAD_CHUNK, COMMIT_MODEL, REVERT_MODEL, ADMISSION_REPORT (spec 05, R140
to R151; spec 15, R383). -/

namespace Sys2Proof.Machine

/-- MODEL_LOAD_CHUNK: into an unlocked slot; a chunk that would pass the slot's end is refused. -/
def modelLoadBody (s : State) (p : List Byte) : Res :=
  let slot := fieldLE p 8 1
  let off := fieldLE p 12 8
  let d := p.drop 20
  if 16 ≤ slot ∨ off % 64 ≠ 0 ∨ 0x80000000 ≤ off ∨ 0x80000000 < off + d.length then s.refuse .range
  else if s.lockedSlots.contains slot then s.refuse .stateConflict
  else { st := s.ddrWrite (modelSlot slot + off) d, out := leBytes 4 d.length }

/-- MODEL_LOAD_CHUNK. -/
def cmdModelLoadChunk : Cmd :=
  { op := 0xC040, active := true, changes := true, len := fun p => decide (20 ≤ p.length),
    states := fun s => s.sys.mode.run || s.sys.mode == .service || s.sys.mode == .shed, body := modelLoadBody }

/-- MODEL_LOAD_CHUNK (R383, R141). -/
def execModelLoadChunk (p : List (BitVec 8)) (s : State) : Host.Outcome State Fault Refusal :=
  .next (s.mailbox cmdModelLoadChunk p)

/-- The states that take a commit or a revert (R147, R150). -/
def commitState (s : State) : Bool :=
  match s.sys.mode with
  | .table | .reactive | .predictive | .isolate => true
  | .off | .boot | .hold | .shed | .survival | .service | .failed => false

/-- A commit or revert opened under its journal; step 1 is done before the reply. -/
def State.openCommit (s : State) (op tag : Nat) (c : Commit) : State :=
  ((s.openJournal op tag 8).journalStep c.journal 1).onTr fun y => { y with commit := some c }

/-- COMMIT_MODEL: the header and the stage descriptors checked, then admission (R147). -/
def commitModelBody (s : State) (p : List Byte) : Res :=
  let slot := fieldLE p 8 1
  let form := fieldLE p 9 1
  if s.tr.commit.isSome then s.refuse .busy
  else if 16 ≤ slot ∨ 3 ≤ form then s.refuse .range
  else if ¬ s.headerOk slot then s.refuse .range
  else
    let b := s.bunchesFor (fieldLE p 12 2)
    let x := s.readImage slot form b
    if (s.admitForm x form s.frameCounts b).isNone then
      { st := s, ks := .notFit, out := s.admReport x form s.frameCounts b }
    else
      let j := s.mb.nextJournal
      { st := s.openCommit 0xC041 (tagOf p)
          { journal := j, image := x, form := form, bunches := b, step := 2, resume := bitOf (fieldLE p 10 1) 0,
            wasPredictive := false, revert := false, fallback := false, step3At := s.time,
            digest := (p.drop 16).take 32, oldImage := s.tr.image, oldPrevious := s.tr.previous },
        journal := j }

/-- COMMIT_MODEL. -/
def cmdCommitModel : Cmd :=
  { op := 0xC041, active := true, changes := true, len := lenIs 48, states := commitState, body := commitModelBody }

/-- COMMIT_MODEL (R147). -/
def execCommitModel (p : List (BitVec 8)) (s : State) : Host.Outcome State Fault Refusal :=
  .next (s.mailbox cmdCommitModel p)

/-- REVERT_MODEL: the previous image through steps 3 to 8 (R150). It carries no RESUME, so PREDICTIVE is not asked
for (R461). DEDUCED: notes/assumptions/81.md. -/
def revertModelBody (s : State) (p : List Byte) : Res :=
  if s.tr.commit.isSome then s.refuse .busy
  else
    match s.tr.previous with
    | none => s.refuse .stateConflict
    | some x =>
      let j := s.mb.nextJournal
      let t := s.openCommit 0xC042 (tagOf p)
        { journal := j, image := x, form := x.form, bunches := x.bunches, step := 3, resume := false,
          wasPredictive := s.sys.mode == .predictive, revert := true, fallback := false, step3At := s.time,
          digest := x.digest, oldImage := s.tr.image, oldPrevious := s.tr.previous }
      { st := (t.journalStep j 2).toReactive, journal := j }

/-- REVERT_MODEL. -/
def cmdRevertModel : Cmd :=
  { op := 0xC042, active := true, changes := true, len := lenIs 8, states := commitState, body := revertModelBody }

/-- REVERT_MODEL (R150). -/
def execRevertModel (p : List (BitVec 8)) (s : State) : Host.Outcome State Fault Refusal :=
  .next (s.mailbox cmdRevertModel p)

/-- ADMISSION_REPORT: the check of a slot without committing. DEDUCED: notes/assumptions/61.md. -/
def admissionReportBody (s : State) (p : List Byte) : Res :=
  let slot := fieldLE p 8 1
  let form := fieldLE p 9 1
  if 16 ≤ slot ∨ 3 ≤ form then s.refuse .range
  else if ¬ s.headerOk slot then s.refuse .range
  else
    let b := s.bunchesFor (fieldLE p 12 2)
    { st := s, out := s.admReport (s.readImage slot form b) form s.frameCounts b }

/-- ADMISSION_REPORT. -/
def cmdAdmissionReport : Cmd :=
  { op := 0xC043, active := false, changes := false, len := lenIs 16, states := fromTableUp, body := admissionReportBody }

/-- ADMISSION_REPORT (R146). -/
def execAdmissionReport (p : List (BitVec 8)) (s : State) : Host.Outcome State Fault Refusal :=
  .next (s.mailbox cmdAdmissionReport p)

end Sys2Proof.Machine
end

