-- ==== Sys2Proof/Machine/Reset.lean ====
section
/-! DEFINITION. Resets (spec 17, R421 to R423): what each reset keeps, the loss of supply, the slot that boots next. -/

namespace Sys2Proof.Machine

/-- The management die after a reset: the NOR contents stay, the rest starts again (R389, R422). The log goes on from
the newest record in the NOR; the key switch is a switch, not a register. DEDUCED: notes/assumptions/35.md. -/
def Mg.kept (y : Mg) (warm : Bool) (now : Nat) : Mg :=
  { y with
    runSlot := 0, recovery := false, watchdog := some now, watchdogHeld := false, buf := [], dropped := 0, log90 := false,
    nextSeq := (y.ring.getLast?.map (·.seq + 1)).getD 1, conns := [], grantEnd := none, lastException := 0,
    ackedAlarms := 0, alarmsAcked := false, baud := 115200, board := [], boardWarn := [], relays := 0, received := [],
    lastSign := if warm then y.lastSign else none, update := none, bootCount := y.bootCount + 1,
    trialBoots := if y.trial && !y.watchdogHeld then y.trialBoots + 1 else y.trialBoots }

/-- The journals after a reset: one that ran reports ABORTED with its steps as logged; the journal of an update whose
activation caused the reset goes on (R404, R462). DEDUCED: notes/assumptions/34.md. -/
def journalsAfter (l : List Journal) (keep : Option Nat) : List Journal :=
  l.map fun j => if j.outcome = .running ∧ keep ≠ some j.idx then { j with outcome := .aborted } else j

/-- The twin unit after a reset: the strap is read at power-up (R316). -/
def State.twinReset (s : State) : State :=
  let b := s.tw.slotPin
  (((s.putBit TW_STATUS_SLOT_PIN b).putBit TW_STATUS_SLOT b).wr TW_HOLDOFF (if b then 3000 else 2000)).onTw fun y =>
    { y with watchdogAt := s.time }

/-- A reset (R421, R422, R424): every register at its reset value, the module in BOOT and UNDECIDED, nothing driven. A
warm reset keeps the PLL lock, the timebase with its validity, and the DDR4 in self-refresh; both kinds keep the NOR.
DESIGN CHOICE: notes/assumptions/4.md. DEDUCED: notes/assumptions/31.md. DEDUCED: notes/assumptions/34.md. -/
def State.restart (s : State) (cause : Nat) (warm : Bool) (keep : Option Nat) (origin : Nat) : State :=
  let now := if warm then s.time else 0
  let t : State :=
    { pending := s.pending, time := now, free := s.free, mem := if warm then s.mem else [],
      sys := { bootStart := now, silenceStart := now },
      mg := { s.mg.kept warm now with savedOrigin := origin, update := if keep.isSome then s.mg.update else none },
      mb := { journals := journalsAfter s.mb.journals keep, nextJournal := s.mb.nextJournal, cfgGen := s.mb.cfgGen },
      tw := { slotPin := s.tw.slotPin },
      ca := { poison := if warm then s.ca.poison else [], selfRefresh := warm, eventNext := s.ca.eventNext } }
  let t := ((t.wr CK_STATUS_RESET_CAUSE cause).putBit CK_STATUS_PLL_LOCK (warm && s.bit CK_STATUS_PLL_LOCK)).putBit
    CK_STATUS_TIME_VALID (warm && s.bit CK_STATUS_TIME_VALID)
  let t := ((t.wr64 CK_FRAME_ORIGIN_LO origin).wr CK_BOOT_COUNT t.mg.bootCount).twinReset
  t.log 16 .reset 1 [cause]

/-- A cold reset, code 1. DEDUCED: notes/assumptions/33.md. -/
def State.coldReset (s : State) : State := s.restart 1 false none s.mg.savedOrigin

/-- A warm reset that keeps FRAME_ORIGIN. -/
def State.warmReset (s : State) (cause : Nat) : State := s.restart cause true none s.mg.savedOrigin

/-- The first whole multiple of the frame length at or after a count (R419). -/
def State.nextMultiple (s : State) (t : Nat) : Nat :=
  if s.frameCounts = 0 then t else (t + s.frameCounts - 1) / s.frameCounts * s.frameCounts

/-- The scheduled warm reset, code 4; a coordinated one numbers its frames from AT on (R419, R423). -/
def State.scheduledReset (s : State) : State :=
  if s.mb.coordinated then s.restart 4 true none (s.nextMultiple (s.rd64 CK_WARM_AT_LO)) else s.warmReset 4

/-- POWER_ON: 48 V comes within 40 to 60 V with V3P3_AUX good (R421). DESIGN CHOICE: notes/assumptions/13.md.
DEDUCED: notes/assumptions/33.md. -/
def execPowerOn (s : State) : Host.Outcome State Fault Refusal := .next s.coldReset

/-- The module without supply (R19, R422, R436): only the NOR keeps its contents. DEDUCED: notes/assumptions/33.md. -/
def State.supplyOff (s : State) : State :=
  { pending := s.pending, free := s.free, sys := { mode := .off },
    mg := { s.mg.kept false 0 with
      bootCount := s.mg.bootCount, trialBoots := s.mg.trialBoots, watchdog := none, watchdogHeld := s.mg.watchdogHeld },
    mb := { journals := journalsAfter s.mb.journals none, nextJournal := s.mb.nextJournal, cfgGen := s.mb.cfgGen },
    tw := { slotPin := s.tw.slotPin } }

/-- VIN_BROWNOUT: 48 V below 36 V for 10 ms is a cold reset, code 1 (R421). The module is OFF until 48 V is within
limits again, which is the time zero of its start (R20, R424). DEDUCED: notes/assumptions/33.md. -/
def execVinBrownout (s : State) : Host.Outcome State Fault Refusal :=
  .next (if s.sys.mode = .off then s else s.supplyOff.wr CK_STATUS_RESET_CAUSE 1)

/-- RESET_BUTTON: held for 100 ms (R421); a module without supply does not restart. -/
def execResetButton (s : State) : Host.Outcome State Fault Refusal :=
  .next (if s.sys.mode = .off then s else s.warmReset 2)

/-- SCHEDULED_WARM_RESET: the timebase reaches the armed AT (R423). FAILED is left only through codes 1 to 3. -/
def execScheduledWarmReset (s : State) : Host.Outcome State Fault Refusal :=
  .next (if s.bit CK_CTRL_WARM_ARM ∧ s.rd64 CK_WARM_AT_LO ≤ s.time ∧ s.sys.mode ≠ .failed ∧ s.sys.mode ≠ .off then
      s.scheduledReset
    else s)

/-- Only the supervisor cores C0 and C1 (R340, R434). -/
def bySupervisor : Initiator → Bool
  | .core n => decide (n.val < 2)
  | .mgmt | .block => false

/-- WARM_ARM_WRITE: 1 written to CK_CTRL.WARM_ARM; a module already past AT resets at once (R423, R434). -/
def execWarmArmWrite (by_ : Initiator) (s : State) : Host.Outcome State Fault Refusal :=
  if bySupervisor by_ then
    let t := s.putBit CK_CTRL_WARM_ARM true
    .next (if s.rd64 CK_WARM_AT_LO ≤ s.time ∧ s.sys.mode ≠ .failed ∧ s.sys.mode ≠ .off then t.scheduledReset else t)
  else .next s

/-- SUPPLY_LOSS: the line, the disconnects and all drivers are released by the loss of supply, and the module is OFF
until it is powered again (R19, R422, R436). Only the NOR keeps its contents. DEDUCED: notes/assumptions/33.md. -/
def execSupplyLoss (s : State) : Host.Outcome State Fault Refusal := .next s.supplyOff

/-! ### The PLL and the timebase (R416 to R418, R364) -/

/-- PLL_LOCK: the rails' sequence ends; on a cold start the timebase begins from the saved value plus 1 s (R416, R417,
R424). DEDUCED: notes/assumptions/31.md. -/
def execPllLock (s : State) : Host.Outcome State Fault Refusal :=
  if s.sys.mode = .boot ∧ s.sys.phase = .reset then
    let cold := decide (s.rd CK_STATUS_RESET_CAUSE = 1)
    let now := if cold then s.mg.savedTime + secs 1 else s.time
    let t := { s.putBit CK_STATUS_PLL_LOCK true with time := now }
    .next ((t.onSys fun y => { y with
        phase := .rails, bootStart := now - (s.time - y.bootStart), silenceStart := if cold then now else y.silenceStart }).onMg
      fun y => { y with watchdog := y.watchdog.map fun w => now - (s.time - w) })
  else .next s

/-- PLL_UNLOCK: loss of lock is a fatal self-diagnosis; only a reset relocks the PLL (R330, R416). DESIGN CHOICE:
notes/assumptions/30.md. -/
def execPllUnlock (s : State) : Host.Outcome State Fault Refusal :=
  if s.bit CK_STATUS_PLL_LOCK then
    .next ((((s.putBit CK_STATUS_PLL_LOCK false).putBit CK_STATUS_PLL_UNLOCK true).note 16 .pllUnlock 3 [] 0).enterFailed [0])
  else .next s

/-- CK_TIME_LO_READ: the low word returned, the high word latched for CK_TIME_HI (R417). -/
def execCkTimeLoRead (s : State) : Host.Outcome State Fault Refusal :=
  .next ((s.wr64 CK_TIME_LO s.time).reply { body := leBytes 4 s.time })

/-- The timebase counts: the module has its supply, and a cold start has reached its PLL lock (R417, R424). A loss of
lock in a running module does not stop it (DESIGN CHOICE, notes/assumptions). DESIGN CHOICE: notes/assumptions/1.md.
DESIGN CHOICE: notes/assumptions/30.md. -/
def State.counting (s : State) : Bool :=
  s.sys.mode != .off && !(s.sys.phase == .reset && s.rd CK_STATUS_RESET_CAUSE == 1)

/-- One count of the timebase passes (R417). DESIGN CHOICE: notes/assumptions/1.md. -/
def State.tick (s : State) : State := if s.counting then { s with time := s.time + 1 } else s

/-- TIMEBASE_SAVE: the management die saves the timebase in the persistent area, each second (R417). -/
def execTimebaseSave (s : State) : Host.Outcome State Fault Refusal :=
  .next (if s.sys.mode = .off then s else s.onMg fun y => { y with savedTime := s.time })

/-- A source of time is present (R418): PTM lock, or in BOOT a partner's heartbeats. DEDUCED:
notes/assumptions/32.md. -/
def State.timeSource (s : State) (partner : Bool) : Bool :=
  if partner then decide (s.sys.mode = .boot) && s.bit TW_STATUS_HB_OK else s.bit CK_STATUS_PTM_LOCKED

/-- TIMEBASE_STEP: at the first source the timebase steps once to the source's time; TIME_VALID and TIME_STEPPED are
set, and the tick and frame in progress end (R418). The counts since a reset and since a heartbeat go on. DEDUCED:
notes/assumptions/31.md. DEDUCED: notes/assumptions/32.md. -/
def execTimebaseStep (dest : Nat) (partner : Bool) (s : State) : Host.Outcome State Fault Refusal :=
  if ¬ s.bit CK_STATUS_TIME_VALID ∧ s.timeSource partner then
    let mv (t : Nat) : Nat := dest - (s.time - t)
    let t := { (s.putBit CK_STATUS_TIME_VALID true).putBit CK_STATUS_TIME_STEPPED true with time := dest }
    let t := t.onSys fun y => { y with
      lastTick := none, lastFrame := none, bootStart := mv y.bootStart, silenceStart := mv y.silenceStart,
      tableSince := y.tableSince.map mv }
    let t := (t.onMg fun y => { y with watchdog := y.watchdog.map mv }).onTw fun y => { y with
      hbAt := y.hbAt.map mv, hbSent := y.hbSent.map mv, ackAt := y.ackAt.map mv }
    .next (t.log 16 .timeStep 0 [s.time, dest])
  else .next s

/-- The largest slew, 200 ppm in steps of 0.01 ppm (R418). -/
def slewLimit : Int := 20000

/-- PTM_DIALOG: one dialog, with the offset it found in ns, or none where it failed. PTM_LOCKED is set while every
dialog of the last 1 s has succeeded with the offset within 1 µs (R364); the rate correction is the module's own,
within 200 ppm (R418): a free value. DESIGN CHOICE: notes/assumptions/6.md. -/
def execPtmDialog (offset : Option Int) (s : State) : Host.Outcome State Fault Refusal :=
  let good := match offset with
    | some o => decide (-1000 ≤ o ∧ o ≤ 1000)
    | none => false
  let since := if good then some (s.mb.ptmGoodSince.getD s.time) else none
  let was := s.bit CK_STATUS_PTM_LOCKED
  let locked := match since with
    | some t => decide (t + secs 1 ≤ s.time)
    | none => false
  let s := (s.onMb fun y => { y with ptmGoodSince := since, ptmLast := some s.time }).putBit CK_STATUS_PTM_LOCKED locked
  let s := match offset with
    | some o => (((s.wr CK_PTM_OFFSET (wrapInt 32 o)).wr CK_SLEW
        (wrapInt 16 (clampInt (-slewLimit) slewLimit (signedOf 16 s.freeNat)))).drew).post 483
    | none => s
  .next (if was && !locked then s.note 16 .ptmLost 1 [] 1 else s)

end Sys2Proof.Machine
end

