-- ==== Sys2Proof/Machine/Supervisor.lean ====
section
/-! DEFINITION. The commands of the trip matrix (spec 17) and the supervisor's own triggers (spec 01): host silence and
the entry to ISOLATE. -/

namespace Sys2Proof.Machine

/-- A row evaluates: the matrix enabled and locked, the row in use, its input asserted (R427, R430). -/
def State.rowAsserted (s : State) (r : Nat) : Bool :=
  s.bit TM_CTRL_LOCK && s.bit TM_CTRL_ENABLE && s.bit (TM_ROW_EN r) && s.tripInput (s.rd (TM_ROW_INPUT r))

/-- TRIP_ROW_LATCH: a row whose input is asserted latches, posts doorbell 8 + its action code, and acts once the actions
reach the outputs (R427, R428, R431). -/
def execTripRowLatch (r : Fin 128) (s : State) : Host.Outcome State Fault Refusal :=
  if s.rowAsserted r ∧ ¬ s.tmLatched r then
    let s := (s.setTmLatch r true).note 16 .tripLatched 2 [(r : Nat)] (8 + s.rd (TM_ROW_ACTION r))
    .next (if s.bit TM_CTRL_OUT_EN then s.tripAct r else s)
  else .next s

/-- The lock: the RWL fields locked, TM_CRC captured (R430). -/
def State.tmLock (s : State) : State :=
  if s.bit TM_CTRL_LOCK then s
  else
    let c := s.tmCrcNow
    ((s.putBit TM_CTRL_LOCK true).wr TM_CRC c).wr TM_CRC_LOCK c

/-- TM_LOCK_WRITE: 1 written to TM_CTRL.LOCK. -/
def execTmLockWrite (s : State) : Host.Outcome State Fault Refusal := .next s.tmLock

/-- TRIP_LATCH_CLEAR: a W1C write to TM_LATCH word w; a bit whose input is still asserted stays (R432). -/
def execTripLatchClear (w : Fin 4) (v : BitVec 32) (s : State) : Host.Outcome State Fault Refusal :=
  .next ((upto 32).foldl (fun s i => if bitOf v.toNat i then s.tmClear (32 * w + i) else s) s).tmSettle

/-- HOST_TIMEOUT in seconds, 1 to 600, default 30 (R378). -/
def State.hostTimeout (s : State) : Nat := clampNat 1 600 (s.cfg 0x0003 0 30)

/-- HOST_SILENCE_TIMEOUT: the timer has run out; REACTIVE and PREDICTIVE are left for TABLE, and a Modbus grant ends
(R372, R385). DEDUCED: notes/assumptions/90.md. -/
def execHostSilenceTimeout (s : State) : Host.Outcome State Fault Refusal :=
  if s.sys.silenceStart + secs s.hostTimeout ≤ s.time then
    .next (((s.onSys fun y => { y with hostSilent := true }).onMg fun y => { y with grantEnd := none }).demote)
  else .next s

/-- ISOLATE_ENTRY: the isolations that are due take effect at the frame boundary (R249, R178, R220). -/
def execIsolateEntry (s : State) : Host.Outcome State Fault Refusal :=
  let due := s.sys.isoPend.filter fun p => decide (p.1 ≤ s.time)
  if due ≠ [] ∧ (s.sys.mode.running ∨ s.sys.mode = .service ∨ s.sys.mode = .isolate) then
    .next ((s.onSys fun y => { y with isoPend := y.isoPend.filter fun p => decide (s.time < p.1) }).enterIsolate
      (due.map (·.2)))
  else .next s

end Sys2Proof.Machine
end

