-- ==== Sys2Proof/Machine/Boot.lean ====
section
/-! DEFINITION. The boot chain and start-up (spec 16, R394 to R397; spec 17, R424 to R426, R429, R469), with the
defaults that Benfophor writes at boot (R209, R228, R242, R253, R467, R468). -/

namespace Sys2Proof.Machine

/-! ### The boot chain (R394, R397) -/

/-- The image area of a slot: 0 A, 1 B. -/
def Mg.slot (y : Mg) (i : Nat) : FwSlot := if i = 0 then y.slotA else y.slotB

/-- The checks of stage 0. -/
def FwSlot.stage0 (x : FwSlot) (fuse : Nat) : Bool := x.keyOk && x.sigOk && decide (fuse ≤ x.svn) && x.mgmtOk

/-- Every check of the boot chain. -/
def FwSlot.passes (x : FwSlot) (fuse : Nat) : Bool := x.stage0 fuse && x.hubOk

/-- The active slot boots: it passes stage 0 and is no trial that has used up its three boots. -/
def Mg.bootsActive (y : Mg) : Bool :=
  (y.slot y.activeSlot).stage0 y.fuse &&
    !(y.trial && decide (3 ≤ y.trialBoots) && (y.slot (1 - y.activeSlot)).passes y.fuse)

/-- The update whose trial boot ended: its journal FAILED (R404). -/
def State.updateFailed (s : State) : State :=
  match s.mg.update with
  | some u => (s.journalEnd u.journal .failed 0).onMg fun y => { y with update := none }
  | none => s

/-- A slot starts: the running slot and its marks. DEDUCED: notes/assumptions/37.md. -/
def State.bootSlot (s : State) (i : Nat) : State :=
  let s := (s.onMg fun y => { y with runSlot := i, confirmed := !y.trial }).onSys fun y => { y with phase := .stage0 }
  ((s.wr MG_STATUS_BOOT_SLOT i).putBit MG_STATUS_TRIAL s.mg.trial).putBit MG_STATUS_MG_READY true

/-- BOOT_STAGE0_DONE: the mask ROM boots the active slot, or the other one where the active slot does not boot and the
other passes every check; with neither the module stays in BOOT in recovery mode (R394, R397). DEDUCED:
notes/assumptions/37.md. -/
def execBootStage0Done (s : State) : Host.Outcome State Fault Refusal :=
  if s.sys.mode = .boot ∧ s.sys.phase = .rails then
    let y := s.mg
    let other := 1 - y.activeSlot
    if y.bootsActive then .next (s.bootSlot y.activeSlot)
    else if (y.slot other).passes y.fuse then
      let s := s.onMg fun y => { y with activeSlot := other, trial := false, trialBoots := 0 }
      .next ((s.bootSlot other).updateFailed.log 15 .slotFallback 2 [other])
    else .next ((s.onMg fun y => { y with recovery := true, watchdog := none }).log 15 .bootFailed 3 [0])
  else .next s

/-! ### Channel enables (R469) -/

/-- The stored configuration with the BOOT-class changes that wait (R377). -/
def State.storedNow (s : State) : List (Nat × Nat × Nat) := s.mg.bootCfg.foldl putCfg s.mg.storedCfg

/-- The ENABLE field that a stored channel image carries, and the bit of the image. -/
def enableField (ident index : Nat) : Option (RF × Nat) :=
  match ident with
  | 0x0040 => some (PF_PCFG_ENABLE index, 0)
  | 0x0044 => some (PF_FCFG_ENABLE index, 0)
  | 0x0045 => some (AO_CFG_ENABLE index, 0)
  | 0x0061 => some (SV_CHCFG_ENABLE index, 31)
  | 0x0071 => some (LK_ROPECFG_ENABLE index, 31)
  | 0x0072 => some (LK_PTCFG_ENABLE index, 31)
  | 0x0073 => some (FB_TRIP_EN (index / 16) (index % 16), 31)
  | 0x0078 => some (SN_RTDCFG_ENABLE index, 31)
  | 0x0079 => some (SN_MACFG_ENABLE index, 31)
  | 0x007B => some (SN_PICFG_ENABLE index, 31)
  | _ => none

/-- The default assignment of the solenoid channels (R253): supply of rack n, return of rack n − 16. -/
def State.svDefault (s : State) (n : Nat) : State :=
  ((s.putBit (SV_CHCFG_ENABLE n) true).wr (SV_CHCFG_ROLE n) (if n < 16 then 1 else 2)).wr (SV_CHCFG_RACK n) (n % 16)

/-- The pairs that the default configuration marks (R242): RTD pairs from 32 on, and MA16 with MA17. -/
def State.pairDefaults (s : State) : State :=
  let s := (upto 8).foldl (fun s i =>
    let n := 32 + i
    ((s.putBit (SN_RTDCFG_PAIRED n) true).putBit (SN_RTDCFG_ELEM n) (n % 2 == 1)).wr (SN_RTDCFG_PARTNER n)
      (if n % 2 = 0 then n + 1 else n - 1)) s
  let s := (upto 2).foldl (fun s i =>
    let n := 16 + i
    ((s.putBit (SN_MACFG_PAIRED n) true).putBit (SN_MACFG_ELEM n) (n % 2 == 1)).wr (SN_MACFG_PARTNER n)
      (if n % 2 = 0 then n + 1 else n - 1)) s
  ((s.putBit (SN_RTDCFG_CAL_REF 32) true).putBit (SN_RTDCFG_CAL_REF 33) true).pairUpdate

/-- The channel classes enabled by default (R469). -/
def State.enableDefaults (s : State) : State :=
  let s := (upto 40).foldl (fun s n => s.putBit (SN_RTDCFG_ENABLE n) true) s
  let s := (upto 18).foldl (fun s n => (s.putBit (SN_MACFG_ENABLE n) true).putBit (AO_CFG_ENABLE n) true) s
  let s := s.putBit (SN_PICFG_ENABLE 0) true
  let s := (upto 4).foldl (fun s n => s.putBit (PF_PCFG_ENABLE n) true) s
  let s := (upto 8).foldl (fun s n => s.putBit (PF_FCFG_ENABLE n) true) s
  ((upto 32).foldl State.svDefault s).putBit PF_PMGR_ENABLE true

/-- The ENABLE bits as the host has stored them, else as the defaults give them. -/
def State.channelEnables (s : State) : State :=
  s.storedNow.foldl (fun s e =>
    match enableField e.1 e.2.1 with
    | some (f, b) => s.putBit f (bitOf e.2.2 b)
    | none => s) s.enableDefaults.pairDefaults

/-- BOOT_STAGE1_DONE: the hub stage runs; the twin link, the enables of the field channels and the conversions start
(R394, R424, R469). A hub stage that fails its check never runs, and a trial has then failed (R397). PRESUMED:
notes/assumptions/36.md. DEDUCED: notes/assumptions/37.md. -/
def execBootStage1Done (s : State) : Host.Outcome State Fault Refusal :=
  if s.sys.mode = .boot ∧ s.sys.phase = .stage0 then
    if (s.mg.slot s.mg.runSlot).hubOk then
      let s := ((s.putBit TW_CTRL_ENABLE true).putBit SN_CTRL_ENABLE true).putBit SV_CTRL_ENABLE true
      .next ((s.bootDic.putBit DIC_CTRL_ENABLE true).channelEnables.onSys fun y => { y with phase := .stage1 })
    else
      let s := if s.mg.trial then s.onMg fun y => { y with trialBoots := 3 } else s
      .next (s.log 15 .stageFailed 3 [s.mg.runSlot])
  else .next s

/-! ### Memory and tiles (R86, R341, R362) -/

/-- DDR4_READY: every channel trained, or the first channel that is not (R341): the module is then FAILED. Memory_Active
follows the host's decoder (R362). DEDUCED: notes/assumptions/39.md. -/
def execDdr4Ready (bad : Option (Fin 8)) (s : State) : Host.Outcome State Fault Refusal :=
  if s.sys.mode = .boot ∧ s.sys.phase = .stage1 then
    match bad with
    | some c => .next ((s.log 13 .ddrChannel 3 [c.val]).enterFailed [c.val])
    | none =>
      let s := (s.wr CA_STATUS_CH_OK 0xFF).onSys fun y => { y with phase := .ddr }
      let s := s.onMb fun y => { y with
        mediaReady := true,
        memoryActive := !y.hdmCommitted || (y.hdmSize == 480 && y.hdmWays == 1) }
      .next (s.onCa fun y => { y with selfRefresh := false })
  else .next s

/-- A tile that has failed twice within 24 h stays out of service across resets (R86). -/
def twiceIn24h : List Nat → Bool
  | a :: b :: l => decide (b ≤ a + secs 86400) || twiceIn24h (b :: l)
  | _ => false

/-- The tiles that stay out of service. -/
def State.tilesOut (s : State) : List Nat := (s.mg.failedTiles.filter fun p => twiceIn24h p.2).map (·.1)

/-- TILE_SELFTEST_DONE: the tiles whose self-test failed, one bit each; they and the tiles kept out lose their column,
and start-up goes on (R84, R86, R426). DEDUCED: notes/assumptions/39.md. -/
def execTileSelftestDone (failed : BitVec 128) (s : State) : Host.Outcome State Fault Refusal :=
  if s.sys.mode = .boot ∧ s.sys.phase = .ddr then
    let s := (upto 128).foldl (fun s t => if bitOf failed.toNat t then s.tileFail t .selftest else s) s
    let s := s.tilesOut.foldl (fun s t => (s.wr (TR_TILE_STATE t) 3).loseColumn (t % 16)) s
    .next (s.onSys fun y => { y with phase := .selftest })
  else .next s

/-! ### Configuration at boot -/

/-- The eight breakpoints of R228 of a plant loop's default table. -/
def defaultTable (p : Nat) : Option (List Nat) :=
  if p = 0 then some [40, 45, 55, 65, 75, 85, 95, 100]
  else if p = 1 then some [30, 30, 20, 10, 0, 0, 0, 0]
  else if p = 4 then some [0, 10, 25, 45, 65, 85, 100, 100]
  else if 24 ≤ p ∧ p ≤ 31 then some [20, 20, 30, 45, 60, 80, 100, 100]
  else if 8 ≤ p ∧ p ≤ 23 then some (List.replicate 8 70)
  else none

/-- The default table of a plant loop, written into the table of its own number (R228). -/
def State.putDefaultTable (s : State) (p : Nat) : State :=
  match defaultTable p with
  | some l =>
    let x (i : Nat) : F32 := if i = 15 then f32OfInt 60 else f32OfRat (200 + 25 * i) 10
    let y (i : Nat) : F32 :=
      if i = 15 then f32OfInt (l.getD 7 0) else f32OfRat (l.getD (i / 2) 0 + l.getD ((i + 1) / 2) 0) 2
    let s := (upto 16).foldl (fun s i => (s.wrf (LE_TABLE p i) (x i)).wrf (LE_TABLE p (16 + i)) (y i)) s
    s.onLe fun z => { z with tablesValid := tset false z.tablesValid p true }
  | none => s

/-- IN_SEL of the control set of a plant loop of R209 (R467). -/
def namedInput (p : Nat) : Nat :=
  if p = 0 then 0x20112010 else if p = 1 then 0x3000 else if p = 4 then 0x10211020
  else if 8 ≤ p ∧ p ≤ 23 then 0x9000 + (p - 8) else 0x10231022

/-- The control set of a plant loop of R209 (R467). -/
def State.namedDefault (s : State) (p : Nat) : State :=
  let k := 4096 + p
  let pair := p == 0 || p == 4 || decide (24 ≤ p)
  let s := (s.wr (SL_CTRL_MODE k) 1).putBit (SL_CTRL_PAIR k) pair
  let s := (s.putBit (SL_CTRL_PAIR_DIR k) (p == 0)).wr (SL_IN_SEL k) (namedInput p)
  let s := (s.wr (SL_OUT_TARGET_TGT k) ((namedTarget p).getD 0)).wr (SL_TABLE_SEL_LAW k) p
  let s := s.wrf (SL_SETPOINT k)
    (if p = 0 then f32OfInt 100 else if p = 4 ∨ 24 ≤ p then f32OfInt 35 else 0)
  (s.putDefaultTable p).putBit (SL_CTRL_APPLY k) true

/-- One stored entry applied at boot; the frame length takes effect at once, since no frame runs. -/
def State.bootEntry (s : State) (e : Nat × Nat × Nat) : State :=
  if e.1 = 0x0001 then
    (s.wr LE_FRAME_FRAME_TICKS (e.2.2 / 50)).wr LE_FRAME_CUTOFF_TICKS
      (min (s.rd LE_FRAME_CUTOFF_TICKS) (e.2.2 / 50 - 4))
  else s.cfgPut e.1 e.2.1 e.2.2

/-- The limits of a plant slot that the host has stored: bits UMIN, UMAX. -/
def limitsStored (l : List (Nat × Nat × Nat)) (k : Nat) : Nat :=
  b2n (l.any fun e => e.1 == 0x1015 && e.2.1 == k) + 2 * b2n (l.any fun e => e.1 == 0x1016 && e.2.1 == k)

/-- The records that the NOR keeps put back: run hours, those at the last rotation, closing counts, and the calibration
with its gains, offsets and SUSPECT marks (R216, R234, R272). DEDUCED: notes/assumptions/111.md. -/
def State.restoreRecords (s : State) : State :=
  let s := s.mg.savedHours.foldl (fun s q => s.wr (PF_PHOURS q.1) q.2) s
  let s := s.mg.closings.foldl (fun s q => s.wr (SV_CHCOUNT q.1) q.2) s
  let s := s.onPf fun y => { y with rotBase := s.mg.savedRot }
  s.mg.savedCal.foldl (fun s q =>
    let r := q.rack
    let s := ((s.wr (SN_FLOWGAIN r) q.gain).wr (SN_RTDOFF (2 * r)) q.off).wr (SN_RTDOFF (2 * r + 1)) q.off2
    let s := s.markSuspect (s.rd (SN_FLOWSRC r)) (bitOf q.marks 0)
    let s := (s.markSuspect (0x1000 + 2 * r) (bitOf q.marks 1)).markSuspect (0x1001 + 2 * r) (bitOf q.marks 2)
    s.setCal r { s.cal r with
      state := if q.state = 2 ∨ q.state = 3 then 1 else q.state, enabled := q.state != 0, paux := q.paux }) s

/-- A row of the default trip table (R429). -/
def tripRow (r : Nat) : Nat :=
  let row (input action arg : Nat) : Nat := 2 ^ 31 + input * 2 ^ 24 + action * 2 ^ 20 + arg
  if r = 0 then row 0 1 0xFFFF else if r = 1 then row 0 4 0 else if r = 2 then row 0 3 17 else if r = 3 then row 1 5 0
  else if r < 100 then row (r + 12) 2 0 else 0

/-- The default trip table written, with TM_CTRL.ENABLE (R429). -/
def State.putTripTable (s : State) : State :=
  ((upto 128).foldl (fun s r => s.wr (TM_ROW r) (tripRow r)) s).putBit TM_CTRL_ENABLE true

/-- The configuration of a boot: defaults, stored fields, saved records. DEDUCED: notes/assumptions/37.md. DEDUCED:
notes/assumptions/38.md. -/
def State.restoreConfig (s : State) : State :=
  let l := s.storedNow
  let s := s.onMg fun y => { y with storedCfg := l, bootCfg := [] }
  let s := (namedLoops.foldl State.namedDefault s).bypassSetpoint
  let s := l.foldl State.bootEntry s
  let s := (upto 512).foldl (fun s i => s.defaultLimits (4096 + i) (limitsStored l (4096 + i))) s
  let s := (upto 4).foldl State.initClear s
  let s := s.pairMarked (l.filterMap markedBy)
  s.restoreRecords.onSys fun y => { y with configWritten := !l.isEmpty }

/-- BOOT_CONFIG_RESTORED: the configuration with the BOOT-class fields, then the trip matrix written and locked; a
TM_CRC other than the digest of the table written is fatal (R424, R426, R429, R430). -/
def execBootConfigRestored (crcOk : Bool) (s : State) : Host.Outcome State Fault Refusal :=
  if s.sys.mode = .boot ∧ s.sys.phase = .selftest then
    let s := s.restoreConfig.putTripTable.tmLock
    if crcOk then .next (s.onSys fun y => { y with phase := .config })
    else .next ((s.log 16 .tripTableMismatch 3 []).enterFailed [1])
  else .next s

/-- TABLE_INPUTS_VALID: frames begin (R424). -/
def execTableInputsValid (s : State) : Host.Outcome State Fault Refusal :=
  .next (if s.sys.mode = .boot ∧ s.sys.phase = .config then
      s.onSys fun y => { y with phase := .inputs, framesOn := true }
    else s)

/-- CLAIM_ENABLE: the supervisor sets TW_CTRL.CLAIM_EN (R424, R340); a line already invalid holds the boot watchdog (R338,
R397). -/
def execClaimEnable (s : State) : Host.Outcome State Fault Refusal :=
  .next (if s.sys.mode = .boot ∧ s.sys.phase = .inputs then
      let t := (s.putBit TW_CTRL_CLAIM_EN true).onSys fun y => { y with phase := .claimEnabled }
      if 2 ≤ s.rd TW_STATUS_LINE then t.onMg fun y => { y with watchdogHeld := true } else t
    else s)

/-- What the supervisor sets when BOOT ends (R182, R206, R336, R357). PRESUMED: notes/assumptions/36.md. -/
def State.bootEnables (s : State) : State :=
  let s := ((s.putBit LE_CTRL_ENABLE true).putBit CA_CTRL_ENABLE true).putBit PB_CTRL_ENABLE true
  let s := (s.putBit CA_STATUS_RUNNING true).putBit PB_CTRL_HOLD_QUEUE (!s.isActive)
  let s := ((s.putBit VQ_CTRL_IQ_EN true).putBit VQ_CTRL_SQ_EN true).putBit VQ_CTRL_ACCEPT s.isActive
  let s := (upto 64).foldl (fun s q => s.putBit (VQ_IQ_CTRL_ENABLE q) true) s
  let s := (upto 4).foldl (fun s q => s.putBit (VQ_SQ_CTRL_ENABLE (28 + q)) true) s
  s.onCa fun y => { y with second := s.time / secs 1 }

/-- BOOT_END: at a frame boundary with the trip matrix locked and the role decided the module enters TABLE; the gated
trip actions take effect and the pump manager asks for its starts (R20, R424, R431). PRESUMED: notes/assumptions/36.md.
-/
def execBootEnd (s : State) : Host.Outcome State Fault Refusal :=
  if s.sys.mode = .boot ∧ s.sys.phase = .claimEnabled ∧ s.sys.role ≠ .undecided ∧ s.bit TM_CTRL_LOCK ∧
      s.time % s.frameCounts = 0 then
    let s := s.bootEnables.onSys fun y => { y with phase := .running }
    let s := s.onMg fun y => { y with watchdog := none, relays := withBits y.relays 3 3 1 }
    .next (s.enterTable.pmWork.actHeld)
  else .next s

/-- BOOT_WATCHDOG_EXPIRY: a boot that has not reached TABLE within 60 s, the watchdog not held (R397, R426). DEDUCED:
notes/assumptions/37.md. -/
def execBootWatchdogExpiry (s : State) : Host.Outcome State Fault Refusal :=
  .next (if s.sys.mode = .boot ∧ ¬ s.mg.watchdogHeld ∧ s.since s.mg.watchdog (secs 60) then s.warmReset 3 else s)

/-- TRIAL_CONFIRM: Benfophor has run for 60 s from TABLE (R397); the update's last step is done (R404). -/
def execTrialConfirm (s : State) : Host.Outcome State Fault Refusal :=
  if s.mg.trial ∧ s.since s.sys.tableSince (secs 60) then
    let s := (s.onMg fun y => { y with trial := false, trialBoots := 0, confirmed := true }).putBit MG_STATUS_TRIAL false
    let s := s.log 15 .trialConfirmed 0 [s.mg.runSlot]
    match s.mg.update with
    | some u => .next ((s.journalStep u.journal 6).onMg fun y => { y with update := none })
    | none => .next s
  else .next s

end Sys2Proof.Machine
end

