-- ==== Sys2Proof/Machine/Board.lean ====
section
/-! DEFINITION. The board's own supplies and temperatures, the cores, the on-die SRAM and the excitation (spec 16, R390;
spec 18, R442 to R449; spec 19, R458, R459), and the alarm word that reports them (R413). -/

namespace Sys2Proof.Machine

/-! ### The alarm word and relays (R413) -/

/-- The alarm word (R413). -/
def State.alarmWord (s : State) : Nat :=
  let anyOf (n : Nat) (f : Nat → Bool) : Bool := (upto n).any f
  let bits : List Bool :=
    [ anyOf 32 (fun k => s.leakState k == 2) || s.fb.ch.any (fun q => q.2.leakState.any fun l => l.2 == 2),
      decide (s.sys.mode = .shed),
      s.rd PF_SLOWFALL != 0 || s.bit PF_HYD_SLOW_ROW, s.bit SN_CPSTAT_CP_LOSS, s.bit SN_CPSTAT_CP_LOW,
      s.bit SN_CPSTAT_CONDENSATION, anyOf 4 (fun n => decide (4 ≤ s.rd (PF_PSTAT_STATE n))),
      anyOf 8 (fun n => decide (4 ≤ s.rd (PF_FSTAT_STATE n))),
      anyOf 48 (fun n => s.bit (SN_RTDSTAT_OPEN n) || s.bit (SN_RTDSTAT_SHORT n)) ||
        anyOf 24 (fun n => s.bit (SN_MASTAT_OPEN n) || s.bit (SN_MASTAT_SHORT n)) ||
        anyOf 8 (fun n => s.bit (SN_PISTAT_OPEN n) || s.bit (SN_PISTAT_SHORT n)),
      anyOf 36 (fun n => bitsOf (s.rd (SV_CHSTAT n)) 8 2 != 0),
      s.bit TW_STATUS_HB_LOST || s.bit TW_STATUS_LINE_FAULT, !s.bit CK_STATUS_PTM_LOCKED, s.sys.hostSilent,
      s.rd CA_STATUS_DIMM_WARN != 0, s.tr.lost != 0, !s.mg.boardWarn.isEmpty || s.rd TW_PARTNER_ROLE == 4 ]
  bits.zipIdx.foldl (fun n p => n + b2n p.1 * 2 ^ p.2) 0

/-- The relays follow the alarm word; an acknowledge holds relays 0 to 2 off until a further bit becomes set (R413). In
BOOT they are de-energized (R425). -/
def State.alarmRelays (s : State) : State :=
  let w := s.alarmWord
  let acked := s.mg.alarmsAcked && (upto 16).all fun i => !bitOf w i || bitOf s.mg.ackedAlarms i
  let low := if acked ∨ s.sys.mode = .boot then 0 else b2n (w != 0) + 2 * b2n (bitOf w 0) + 4 * b2n (bitsOf w 3 1 != 0)
  s.onMg fun y => { y with
    alarmsAcked := acked, ackedAlarms := if acked then y.ackedAlarms &&& w else 0,
    relays := withBits y.relays 2 0 low }

/-! ### Board quantities (R390) -/

/-- The nominal Trellis rail in mV by state (R89). -/
def State.vddTr (s : State) : Int :=
  if s.bit TR_CTRL_RETAIN then 550 else if s.rd TR_CLOCK_MHZ = 960 then 720 else 780

/-- A value within some per cent of its nominal. -/
def within (nominal pct v : Int) : Bool := decide (100 * (v - nominal) ≤ pct * nominal ∧ 100 * (nominal - v) ≤ pct * nominal)

/-- A reading lies in the warning band of its quantity: 0 VIN_48, 1 VACT_24, 2 V12, 3 V5, 4 V3P3, 5 V3P3_AUX, 6 V1P8,
7 VDD_HUB, 8 VDD_TR, 9 VDD_FIELD, 10 VDD_DDR, 11 VPP_DDR in mV; 12 IIN_48, 13 IACT_24, 14 I_VDD_TR, 15 I_VDD_HUB in mA;
16 to 23 BT0 to BT7 in 0.01 °C. -/
def State.boardOk (s : State) (q : Nat) (v : Int) : Bool :=
  match q with
  | 0 => decide (42000 ≤ v ∧ v ≤ 58000)
  | 1 => decide (21000 ≤ v ∧ v ≤ 27000)
  | 2 => within 12000 5 v | 3 => within 5000 5 v | 4 => within 3300 5 v | 5 => within 3300 5 v | 6 => within 1800 5 v
  | 7 => within 750 3 v | 8 => within s.vddTr 3 v | 9 => within 800 3 v | 10 => within 1200 3 v | 11 => within 2500 3 v
  | 12 => decide (tget 0 s.mg.board 0 * v ≤ 432000000)
  | 13 => decide (v ≤ 11000)
  | 14 | 15 => true
  | _ => decide (v ≤ 8500)

/-- A board warning raised or ended; `k` numbers what warns. -/
def State.boardMark (s : State) (k : Nat) (bad : Bool) (ev : Ev) : State :=
  if bad then
    if s.mg.boardWarn.contains k then s
    else ((s.onMg fun y => { y with boardWarn := y.boardWarn ++ [k] }).log 15 ev 1 [k]).alarmRelays
  else if s.mg.boardWarn.contains k then
    (s.onMg fun y => { y with boardWarn := y.boardWarn.filter (fun n => n != k) }).alarmRelays
  else s

/-- BOARD_SENSOR_WARNING: a reading of a board quantity that has held for 100 ms; outside its warning band it is logged
and sets the module-health alarm bit (R390). DEDUCED: notes/assumptions/40.md. -/
def execBoardSensorWarning (q : Fin 24) (v : Int) (s : State) : Host.Outcome State Fault Refusal :=
  let s := s.onMg fun y => { y with board := tset 0 y.board q v }
  let s := s.boardMark q (!s.boardOk q v) .boardSensor
  .next (if q.val = 1 ∧ 18000 ≤ v then s.boardMark 200 false .actuatorLow else s)

/-- VIN_UNDERVOLTAGE: 48 V below 40 V for 1 ms is fatal (R330, R444). -/
def execVinUndervoltage (s : State) : Host.Outcome State Fault Refusal :=
  .next (if s.sys.mode = .off ∨ s.sys.mode = .failed then s else (s.log 15 .undervoltage 3 []).enterFailed [2])

/-- ACTUATOR_UNDERVOLTAGE: 24 V below 18 V for 10 ms: a log record and alarm bit 15; the module keeps driving (R445). -/
def execActuatorUndervoltage (s : State) : Host.Outcome State Fault Refusal := .next (s.boardMark 200 true .actuatorLow)

/-! ### Die temperatures (R449) -/

/-- A reading of a die's junction temperature in 0.01 °C, with the times it has been at its thresholds since. -/
def State.dieReading (s : State) (d t : Nat) : State :=
  let x := tget (0, none, none) s.sn.die d
  let at_ (lim : Nat) (o : Option Nat) : Option Nat := if lim ≤ t then some (o.getD s.time) else none
  s.onSn fun y => { y with die := tset (0, none, none) y.die d (t, at_ 10000 x.2.1, at_ 11000 x.2.2) }

/-- DIE_TEMPERATURE_WARNING: a die at 100 °C for 100 ms is logged and sets alarm bit 15. -/
def execDieTemperatureWarning (d : Fin 7) (t : Nat) (s : State) : Host.Outcome State Fault Refusal :=
  let s := s.dieReading d t
  let x := tget (0, none, none) s.sn.die d
  .next (if x.2.1.isNone then s.boardMark (100 + d) false .dieTemp
    else if s.since x.2.1 (msec 100) then s.boardMark (100 + d) true .dieTemp else s)

/-- DIE_SHUTDOWN: a die at 110 °C for 1 ms is fatal. -/
def execDieShutdown (d : Fin 7) (t : Nat) (s : State) : Host.Outcome State Fault Refusal :=
  let s := s.dieReading d t
  .next (if s.since (tget (0, none, none) s.sn.die d).2.2 (msec 1) ∧ s.sys.mode ≠ .failed then
      (s.log 15 .dieShutdown 3 [d.val]).enterFailed [3]
    else s)

/-! ### Cores and on-die SRAM (R458, R459) -/

/-- CORE_STALL_DETECT: the progress word of core C2 to C7 unchanged for 10 ms: the core's tasks restart, and a mailbox
reply in progress is lost (R360, R458). -/
def execCoreStallDetect (c : Fin 8) (s : State) : Host.Outcome State Fault Refusal :=
  .next (if 2 ≤ c.val ∧ s.sys.mode ≠ .off then
      s.repliesLost.log 1 .coreStall 2 [c.val]
    else s)

/-- HUB_SRAM_SCRUB: what the scrubber finds: a corrected error is rewritten; an uncorrectable one is fatal in supervisor
code or data (R330), and is logged elsewhere (R344, R459). DEDUCED: notes/assumptions/39.md. -/
def execHubSramScrub (ecc : KwErr) (supervisor : Bool) (s : State) : Host.Outcome State Fault Refusal :=
  match kwCheck ecc with
  | .ok => .next s
  | .corrected => .next (s.log 13 .hubSram 0 [])
  | .uncorrectable =>
    let s := s.log 13 .hubSram 2 [b2n supervisor]
    .next (if supervisor then s.enterFailed [4] else s)

/-! ### Excitation (R442) -/

/-- EXC_EN_N changes. -/
def State.setExc (s : State) (b : Bool) : State :=
  if s.sn.exc = b then s else s.onSn fun y => { y with exc := b, excAt := some s.time }

/-- The module may excite the shared inputs: ACTIVE from 200 µs after its claim, or in BOOT with the line free, in slot
A or without a heartbeat from a slot A module for 100 ms. -/
def State.mayExcite (s : State) : Bool :=
  if s.isActive then decide (s.tw.claimAt + usec 200 ≤ s.time)
  else decide (s.sys.mode = .boot) && s.bit TW_CTRL_ENABLE && s.rd TW_STATUS_LINE == 0 &&
    (s.rd TW_STATUS_SLOT == 0 || decide (s.tw.hbSlotA.getD s.sys.bootStart + msec 100 ≤ s.time))

/-- EXC_EN_N_ASSERT (R442). -/
def execExcEnNAssert (s : State) : Host.Outcome State Fault Refusal :=
  .next (if s.mayExcite then s.setExc true else s)

end Sys2Proof.Machine
end

