-- ==== Sys2Proof/Machine/Mgmt.lean ====
section
/-! DEFINITION. The management die behind the mailbox (spec 16): the event log (R391 to R393), attestation (R399 to R402),
firmware update (R403 to R406, R398), the hub-to-management rings (R414). -/

namespace Sys2Proof.Machine

/-! ### The event log (R391 to R393) -/

/-- The 64 bytes of a log record (R391). -/
def LogRec.bytes (r : LogRec) : List Byte :=
  let l := leBytes 8 r.seq ++ leBytes 8 r.time ++ leBytes 8 r.frame ++ leBytes 1 (Config.eventCode r.event.ctorIdx) ++
    leBytes 1 r.subsystem ++ leBytes 1 r.severity ++ leBytes 1 r.mode.code ++ leBytes 1 r.role.code ++
    leBytes 1 (b2n r.fromPartner) ++ leBytes 2 r.journal ++ padTo 24 (r.detail.flatMap (leBytes 4)) ++ leBytes 4 r.boot
  l ++ leBytes 4 (crc32c l)

/-- Every record held, oldest first. -/
def State.logAll (s : State) : List LogRec := s.mg.ring ++ s.mg.buf

/-- Records after the read mark. DEDUCED: notes/assumptions/85.md. -/
def State.logUnread (s : State) : Nat := s.mg.nextSeq - 1 - s.mg.readMark

/-- LOG_90 and doorbell 513: posted as the records after the read mark reach 90% of the ring, and again only after the
count has fallen below (R392). DEDUCED: notes/assumptions/85.md. -/
def State.logMark (s : State) : State :=
  let full := decide (471860 ≤ s.logUnread)
  let was := s.mg.log90
  let s := (s.onMg fun y => { y with log90 := full }).putBit MG_STATUS_LOG_90 full
  if full && !was then s.post 513 else s

/-- The work of READ_LOG. DEDUCED: notes/assumptions/85.md. -/
def readLogBody (s : State) (p : List Byte) : Res :=
  let start := fieldLE p 8 8
  let n := fieldLE p 16 2
  let flags := fieldLE p 18 1
  let s1 := if bitOf flags 0 then (s.onMg fun y => { y with readMark := start - 1 }).logMark else s
  if n = 0 ∨ 16384 < n then s.refuse .range
  else if bitOf flags 1 then { st := s1, out := leBytes 8 start ++ zeros 8 ++ Config.catalog }
  else
    let all := s.logAll
    let gap := match all.head? with
      | some r => decide (start < r.seq)
      | none => false
    let l := (all.filter fun r => decide (start ≤ r.seq)).take n
    let room := (1048576 - 40) / 64
    let head := leBytes 8 ((l.head?.map (·.seq)).getD start) ++ leBytes 2 (b2n gap) ++ zeros 6
    match (l.drop room).head? with
    | some r => { st := s1, ks := .part, out := head ++ (l.take room).flatMap LogRec.bytes ++ leBytes 8 r.seq }
    | none => { st := s1, out := head ++ l.flatMap LogRec.bytes }

/-- READ_LOG. -/
def cmdReadLog : Cmd :=
  { op := 0xC072, active := false, changes := false, len := lenIs 20, states := anyState, body := readLogBody }

/-- READ_LOG (R393). -/
def execReadLog (p : List (BitVec 8)) (s : State) : Host.Outcome State Fault Refusal := .next (s.mailbox cmdReadLog p)

/-- One record copied to the event ring of the cellar (R355). -/
def State.eventCopy (s : State) (r : LogRec) : State :=
  (s.ddrWrite (0x6480000000 + r.seq % 134217728 * 64) r.bytes).onCa fun y => { y with eventNext := r.seq + 1 }

/-- LOG_FLUSH: the buffered records go to the NOR ring, which keeps the newest 524,288, and the cellar copies every
record to its event ring; those of SURVIVAL follow after it (R355, R356, R389, R392). DEDUCED: notes/assumptions/35.md. -/
def execLogFlush (s : State) : Host.Outcome State Fault Refusal :=
  let all := s.logAll
  let copy := s.archives && !s.ca.selfRefresh
  let t := if copy then (all.filter fun r => decide (s.ca.eventNext ≤ r.seq)).foldl State.eventCopy s else s
  .next (t.onMg fun y => { y with ring := all.drop (all.length - 524288), buf := [] }).logMark

/-! ### Attestation (R399 to R402) -/

/-- Every configuration field of R378, the loop, budget and context fields with them, in identifier and index order, 8
bytes each. DEDUCED: notes/assumptions/112.md. -/
def State.configBytes (s : State) : List Byte :=
  (upto 0x2008).flatMap fun ident => (upto 65536).flatMap fun i =>
    ((s.fieldValue ident i).map fun v => leBytes 2 ident ++ leBytes 2 i ++ leBytes 4 v).getD []

/-- The bytes of the locked trip table. -/
def State.tripBytes (s : State) : List Byte := (upto 128).flatMap fun r => leBytes 4 (s.rd (TM_ROW r))

/-- Reply bytes 16 to 315 of an attestation report with signature index `i` (R402). -/
def State.report (s : State) (nonce : List Byte) (i : Nat) : List Byte :=
  let x := s.runningSlot
  leBytes 4 1 ++ padTo 32 nonce ++ leBytes 8 s.mg.serial ++ leBytes 8 s.time ++ leBytes 8 s.frame ++ leBytes 4 x.version ++
    leBytes 1 s.mg.runSlot ++ leBytes 1 s.mg.fuse ++ leBytes 1 x.svn ++
    leBytes 1 (b2n s.mg.trial + 2 * b2n s.mg.recovery) ++ zeros 4 ++ leBytes 32 x.mgmtDigest ++ leBytes 32 x.hubDigest ++
    (match s.tr.image with
      | some g => padTo 32 g.digest
      | none => zeros 32) ++
    padTo 32 (Config.sha256 s.configBytes) ++ padTo 32 (Config.sha256 s.tripBytes) ++ leBytes 4 i ++
    padTo 60 (Config.identityKey s.mg.serial) ++ zeros 4

/-- The next signature index: the larger of the two identity state logs (R400). -/
def State.signIndex (s : State) : Nat := max s.mg.idxA s.mg.idxB

/-- A report signed: i + 1 is recorded in area A, then in area B, before the signature exists (R400). -/
def State.attest (s : State) (nonce : List Byte) : Res :=
  if s.mg.lastSign.any fun t => decide (s.time < t + secs 1) then s.refuse .busy
  else
    let i := s.signIndex
    if 2 ^ 30 ≤ i then { st := s.log 15 .keyExhausted 2 [], ks := .internal }
    else
      let t := (s.onMg fun y => { y with idxA := i + 1 }).onMg fun y => { y with idxB := i + 1, lastSign := some s.time }
      let r := s.report nonce i
      let c := Config.deviceCert s.mg.serial
      { st := t, out := r ++ padTo 5396 (Config.hssSign i r) ++ leBytes 2 c.length ++ c }

/-- ATTEST. -/
def cmdAttest : Cmd :=
  { op := 0xC083, active := false, changes := false, len := lenIs 40, states := anyState,
    body := fun s p => s.attest ((p.drop 8).take 32) }

/-- ATTEST (R401, R402). -/
def execAttest (p : List (BitVec 8)) (s : State) : Host.Outcome State Fault Refusal := .next (s.mailbox cmdAttest p)

/-! ### Firmware update (R395, R398, R403 to R406) -/

/-- The bytes staged, in order; a byte not received reads 0. -/
def Update.image (u : Update) : List Byte := (upto u.size).map (tget 0 u.bytes)

/-- Every byte of the image has been received. -/
def Update.complete (u : Update) : Bool := u.bytes.length == u.size

/-- `n` bytes of a byte string from an offset. -/
def slice (l : List Byte) (off n : Nat) : List Byte := (l.drop off).take n

/-- The bytes of part `i` of an image: its offset is in KiB, it ends where the next begins (R395). DEDUCED:
notes/assumptions/86.md. -/
def imagePart (l : List Byte) (i : Nat) : List Byte :=
  let a := 1024 * fieldLE l (112 + 2 * i) 2
  let e := if i = 2 then l.length else 1024 * fieldLE l (114 + 2 * i) 2
  slice l a (e - a)

/-- The header of an image is good: its mark, its size, the public key that the fuses name (R394, R395). -/
def headerGood (l : List Byte) : Bool :=
  fieldLE l 0 4 == 0x31574642 && fieldLE l 12 4 == l.length && decide (6144 ≤ l.length) && decide (fieldLE l 8 1 ≤ 64) &&
    Config.sha256 (slice l 120 60) == Config.keyFuse

/-- What a slot holds once an image has been written to it. -/
def slotOf (l : List Byte) : FwSlot :=
  { version := fieldLE l 4 4, svn := fieldLE l 8 1, proto := fieldLE l 9 1,
    keyOk := Config.sha256 (slice l 120 60) == Config.keyFuse,
    sigOk := Config.hssVerify (slice l 120 60) (slice l 0 180) (slice l 180 5076),
    mgmtOk := Config.sha256 (imagePart l 0) == slice l 16 32,
    hubOk := Config.sha256 (imagePart l 1) == slice l 48 32 && Config.sha256 (imagePart l 2) == slice l 80 32,
    mgmtDigest := fieldLE l 16 32, hubDigest := fieldLE l 48 32 }

/-- The update changed. -/
def State.onUpdate (s : State) (f : Update → Update) : State := s.onMg fun y => { y with update := y.update.map f }

/-- The image of an update is this module's to run: TARGET 0, or the STANDBY's own copy of TARGET 1. -/
def State.updateMine (s : State) (u : Update) : Bool := u.target == 0 || !s.isActive

/-- The partner is STANDBY and IN_STEP as the active module knows it. -/
def State.partnerInStep (s : State) : Bool := s.rd TW_PARTNER_ROLE == 2 && s.bit TW_PARTNER_IN_STEP

/-- UPDATE_BEGIN, with its checks in the order of R403. -/
def updateBeginBody (s : State) (p : List Byte) : Res :=
  let target := fieldLE p 8 1
  let size := fieldLE p 12 4
  if 2 ≤ target ∨ 44 * 1048576 < size then s.refuse .range
  else if s.mg.update.isSome ∨ s.tr.commit.isSome then s.refuse .busy
  else if target = 1 ∧ s.isActive ∧ ¬ s.partnerInStep then s.refuse .stateConflict
  else
    let j := s.mb.nextJournal
    let t := s.openJournal 0xC080 (tagOf p) 6
    let u : Update :=
      { target := target, size := size, version := fieldLE p 16 4, digest := slice p 20 32, bytes := [], verified := false,
        programmed := false, activateAt := 0, activating := false, journal := j, svn := 0, proto := 0 }
    { st := (t.journalStep j 1).onMg fun y => { y with update := some u }, journal := j }

/-- UPDATE_BEGIN. DEDUCED: notes/assumptions/86.md. -/
def cmdUpdateBegin : Cmd :=
  { op := 0xC080, active := true, changes := true, len := lenIs 52, states := runService, body := updateBeginBody }

/-- UPDATE_BEGIN (R403). -/
def execUpdateBegin (p : List (BitVec 8)) (s : State) : Host.Outcome State Fault Refusal :=
  .next (s.mailbox cmdUpdateBegin p)

/-- Bytes put into the staging from an offset. -/
def stageBytes (t : List Host.Cell) (off : Nat) : List Byte → List Host.Cell
  | [] => t
  | b :: bs => stageBytes (tinsert t off b) (off + 1) bs

/-- UPDATE_CHUNK: data within the image at a multiple of 64; step 2 ends with the last byte. DEDUCED:
notes/assumptions/86.md. -/
def updateChunkBody (s : State) (p : List Byte) : Res :=
  let off := fieldLE p 8 4
  let d := p.drop 12
  match s.mg.update with
  | none => s.refuse .stateConflict
  | some u =>
    if u.verified then s.refuse .stateConflict
    else if off % 64 ≠ 0 ∨ u.size < off + d.length then s.refuse .range
    else
      let v := { u with bytes := stageBytes u.bytes off d }
      let t := s.onMg fun y => { y with update := some v }
      { st := if v.complete && !u.complete then t.journalStep u.journal 2 else t,
        out := leBytes 4 d.length }

/-- UPDATE_CHUNK. -/
def cmdUpdateChunk : Cmd :=
  { op := 0xC081, active := true, changes := true, len := fun p => decide (12 ≤ p.length), states := runService,
    body := updateChunkBody }

/-- UPDATE_CHUNK (R403). -/
def execUpdateChunk (p : List (BitVec 8)) (s : State) : Host.Outcome State Fault Refusal :=
  .next (s.mailbox cmdUpdateChunk p)

/-- What refuses an image at VERIFY or ACTIVATE (R403). -/
def State.imageBad (s : State) (u : Update) : Option Ks :=
  let l := u.image
  if ¬ u.complete then some .range
  else if Config.sha256 l ≠ u.digest ∨ ¬ headerGood l ∨ ¬ (slotOf l).sigOk then some .authFail
  else if fieldLE l 8 1 < s.mg.fuse then some .range
  else none

/-- An image accepted: step 3 is done, and the staging keeps what its header gives. -/
def State.imageAccepted (s : State) (u : Update) : State :=
  (s.onUpdate fun v => { v with verified := true, svn := fieldLE u.image 8 1, proto := fieldLE u.image 9 1 }).journalStep
    u.journal 3

/-- RATCHET (R398): on this module; a TARGET 1 update sends it to the partner, whose slots this module does not know.
DESIGN CHOICE: notes/assumptions/6.md. DEDUCED: notes/assumptions/86.md. -/
def ratchetBody (s : State) : Res :=
  let x := s.runningSlot
  let remote := s.mg.update.any fun u => u.target == 1 && s.isActive
  if remote then { st := s.drew, out := leBytes 1 (s.freeNat % 2) }
  else if ¬ s.mg.confirmed ∨ x.svn ≤ s.mg.fuse then s.refuse .stateConflict
  else
    { st := s.onMg fun y => { y with fuse := x.svn },
      out := leBytes 1 (b2n (decide ((s.mg.slot (1 - s.mg.runSlot)).svn < x.svn))) }

/-- UPDATE_END: 0 VERIFY, 1 ACTIVATE, 2 RATCHET, 3 ABORT. DEDUCED: notes/assumptions/86.md. -/
def updateEndBody (s : State) (p : List Byte) : Res :=
  let action := fieldLE p 8 1
  if action = 2 then ratchetBody s
  else if 4 ≤ action then s.refuse .range
  else
    match s.mg.update with
    | none => s.refuse .stateConflict
    | some u =>
      if action = 3 then
        { st := (s.journalEnd u.journal .aborted 0).onMg fun y => { y with update := none } }
      else if action = 1 ∧ u.target = 0 ∧ s.rd TW_PARTNER_ROLE = 2 ∧ s.bit TW_STATUS_HB_OK then s.refuse .stateConflict
      else
        match s.imageBad u with
        | some k => s.refuse k
        | none =>
          let t := s.imageAccepted u
          { st := if action = 1 then t.onUpdate fun v => { v with activating := true, activateAt := fieldLE p 16 8 } else t }

/-- UPDATE_END. -/
def cmdUpdateEnd : Cmd :=
  { op := 0xC082, active := true, changes := true, len := lenIs 24, states := runService, body := updateEndBody }

/-- UPDATE_VERIFY: action 0 (R403). -/
def execUpdateVerify (p : List (BitVec 8)) (s : State) : Host.Outcome State Fault Refusal := .next (s.mailbox cmdUpdateEnd p)

/-- UPDATE_ACTIVATE: action 1 (R403, R405). -/
def execUpdateActivate (p : List (BitVec 8)) (s : State) : Host.Outcome State Fault Refusal :=
  .next (s.mailbox cmdUpdateEnd p)

/-- UPDATE_RATCHET: action 2 (R398). -/
def execUpdateRatchet (p : List (BitVec 8)) (s : State) : Host.Outcome State Fault Refusal := .next (s.mailbox cmdUpdateEnd p)

/-- UPDATE_ABORT: action 3 (R403). -/
def execUpdateAbort (p : List (BitVec 8)) (s : State) : Host.Outcome State Fault Refusal := .next (s.mailbox cmdUpdateEnd p)

/-- The image area of a slot written. -/
def Mg.putSlot (y : Mg) (i : Nat) (x : FwSlot) : Mg := if i = 0 then { y with slotA := x } else { y with slotB := x }

/-- UPDATE_PROGRAM_DONE: the inactive slot's image area is erased, programmed and read back (R404, step 4); a slot that
does not read back ends the journal FAILED. -/
def execUpdateProgramDone (ok : Bool) (s : State) : Host.Outcome State Fault Refusal :=
  match s.mg.update with
  | some u =>
    if u.activating && !u.programmed && s.updateMine u then
      let x := if ok then slotOf u.image else { slotOf u.image with keyOk := false }
      let s := s.onMg fun y => y.putSlot (1 - y.runSlot) x
      .next (if ok then (s.onUpdate fun v => { v with programmed := true }).journalStep u.journal 4 else s.updateFailed)
    else .next s
  | none => .next s

/-- The state lets step 5 begin (R405): TABLE, HOLD or SERVICE without an isolation; a STANDBY resets at once. -/
def State.resetAllowed (s : State) (u : Update) : Bool :=
  match s.sys.role with
  | .active =>
    decide (u.activateAt ≤ s.time) && (s.sys.mode == .table || s.sys.mode == .hold || s.sys.mode == .service) &&
      s.sys.isolated == 0 && s.sys.isoPend.isEmpty
  | .undecided | .standby | .isolatedStandby | .faulted => s.sys.mode != .off && s.sys.mode != .failed

/-- UPDATE_ACTIVATION_RESET: the slot programmed is marked TRIAL and active, and the warm reset starts, once (R404 step 5,
R405); the staging is gone with it. The line, the drivers and the disconnects are released by it (R406, R422). DEDUCED: notes/assumptions/34.md. -/
def execUpdateActivationReset (s : State) : Host.Outcome State Fault Refusal :=
  match s.mg.update with
  | some u =>
    if u.activating && u.programmed && s.updateMine u && s.resetAllowed u then
      let i := 1 - s.mg.runSlot
      let t := (s.journalStep u.journal 5).restart 5 true (some u.journal) s.mg.savedOrigin
      .next (t.onMg fun y => { y with
        activeSlot := i, trial := true, trialBoots := 0, confirmed := false,
        update := some { u with activating := false, bytes := [] } })
    else .next s
  | none => .next s

/-! ### The hub-to-management rings (R414) -/

/-- The words of the message ring from one byte pointer up to another. -/
def State.ringWords (s : State) (base : Nat) : Nat → Nat → Nat → List Nat
  | 0, _, _ => []
  | n + 1, a, b =>
    if a = b then [] else s.word (base + a / 4 * 4) :: s.ringWords base n ((a / 4 * 4 + 4) % 4096) b

/-- MG_MESSAGE_POST: a write of MG_TX_WPTR posts the words up to it, and the management die reads them (R414). -/
def execMgMessagePost (wptr : BitVec 12) (s : State) : Host.Outcome State Fault Refusal :=
  let w := wptr.toNat / 4 * 4
  let s := s.wr MG_TX_WPTR wptr.toNat
  .next (if s.bit MG_CTRL_ENABLE then
      let l := s.ringWords 0x50001000 1024 (s.rd MG_TX_RPTR) w
      (s.onMg fun y => { y with received := y.received ++ l }).wr MG_TX_RPTR wptr.toNat
    else s)

/-- Words written to the answer ring from a byte pointer on. DEDUCED: notes/assumptions/88.md. -/
def State.putRing (s : State) (a : Nat) : List Nat → State
  | [] => s
  | v :: vs => (s.wr ⟨0x50002000 + a, 31, 0⟩ v).putRing ((a + 4) % 4096) vs

/-- MG_ANSWER: the management die writes an answer to its ring and posts doorbell 512 (R414); an answer that the ring
has no room for waits. DEDUCED: notes/assumptions/88.md. -/
def execMgAnswer (words : List (BitVec 32)) (s : State) : Host.Outcome State Fault Refusal :=
  let w := s.rd MG_RX_WPTR / 4 * 4
  let used := (w + 4096 - s.rd MG_RX_RPTR / 4 * 4) % 4096
  let n := 4 * words.length
  if s.bit MG_CTRL_ENABLE ∧ n ≠ 0 ∧ used + n < 4096 then
    let t := (s.putRing w (words.map BitVec.toNat)).wr MG_RX_WPTR ((w + n) % 4096)
    .next ((t.putBit MG_STATUS_RX_NOT_EMPTY true).post 512)
  else .next s

end Sys2Proof.Machine
end

