-- ==== Sys2Proof/Machine/Modbus.lean ====
section
/-! DEFINITION. The Modbus TCP server (spec 16, R410 to R413): connections, the register maps, writes under a grant. -/

namespace Sys2Proof.Machine

/-! ### Register maps (R411, R412) -/

/-- A number as a 16-bit register, kept to its range. -/
def reg16 (n : Nat) : Nat := min n 65535

/-- A binary32 value times a factor as an unsigned 16-bit register. -/
def regOf (x : F32) (k : Int) : Nat := (f32ToIntSat 0 65535 (fmul x (f32OfInt k))).toNat

/-- A binary32 temperature in 0.01 °C as a signed register. -/
def regTempF (x : F32) : Nat := wrapInt 16 (f32ToIntSat (-32768) 32767 (fmul x (f32OfInt 100)))

/-- A temperature in 1/256 °C as a signed register in 0.01 °C. -/
def regTemp (t : Int) : Nat := wrapInt 16 (clampInt (-32768) 32767 ((t * 100 + 128) / 256))

/-- The mean of an RTD pair over its valid elements, in 1/256 °C. PRESUMED: notes/assumptions/87.md. -/
def State.pairMean (s : State) (n : Nat) : Int :=
  let v (k : Nat) : Option Int := if s.finBit (SN_RTDSTAT_VALID k) then some (signedOf 32 (s.fin (SN_RTDVAL k))) else none
  match v n, v (n + 1) with
  | some a, some b => (a + b) / 2
  | some a, none => a
  | none, some b => b
  | none, none => 0

/-- The highest board temperature read, in 0.01 °C. -/
def State.boardTop (s : State) : Int := (upto 7).foldl (fun m i => max m (tget 0 s.mg.board (17 + i))) (tget 0 s.mg.board 16)

/-- Seconds left of the write grant. -/
def State.grantLeft (s : State) : Nat :=
  match s.mg.grantEnd with
  | some t => (t - s.time) / secs 1
  | none => 0

/-- Input register `a`, 0 to 91 (R411). -/
def State.inputReg (s : State) (a : Nat) : Nat :=
  let v := s.runningSlot.version
  let power := s.powerSum s.ctxs
  let caps := s.capSum s.ctxs
  let up := (s.time - s.sys.bootStart) / secs 1
  if a = 0 then 1 else if a = 1 then s.sys.mode.code else if a = 2 then s.sys.role.code else if a = 3 then s.alarmWord
  else if a = 4 then s.sys.isolated else if a = 5 then s.brakeLines
  else if a = 6 then v / 65536 % 256 else if a = 7 then v % 65536
  else if a = 8 then power / 65536 % 65536 else if a = 9 then power % 65536
  else if a = 10 then caps / 65536 % 65536 else if a = 11 then caps % 65536
  else if a < 16 then regTemp (s.pairMean (32 + 2 * (a - 12)))
  else if a = 16 then regOf s.mainFlow.val 10
  else if a = 17 then regOf (s.dp.getD 0) 10
  else if a < 22 then s.rd (PF_SPEED (a - 18)) else if a < 26 then s.rd (PF_PSTAT_STATE (a - 22))
  else if a < 34 then s.rd (PF_FSPEED (a - 26)) else if a < 50 then regOf (s.rackFlow (a - 34)).val 10
  else if a < 66 then regTemp (signedOf 32 (s.fin (SN_RTDVAL (2 * (a - 50) + 1))))
  else if a < 82 then s.rd (LK_ROPESTAT_STATE (a - 66))
  else if a < 84 then (upto 8).foldl (fun n i => n + s.pointBits (8 * (a - 82) + i) * 4 ^ i) 0
  else if a = 84 then regOf (s.rdf SN_CPFLOW) 100 else if a = 85 then regTempF (s.rdf SN_CPTIN)
  else if a = 86 then regTempF (s.rdf SN_CPTOUT)
  else if a = 87 then wrapInt 16 (clampInt (-32768) 32767 s.boardTop)
  else if a = 88 then up / 65536 % 65536 else if a = 89 then up % 65536
  else if a = 90 then s.rd PF_SLOWFALL else reg16 s.grantLeft

/-- Holding register `a`, 0 to 6, at its applied value (R412); register 0 tells whether an acknowledge stands.
PRESUMED: notes/assumptions/87.md. -/
def State.holdingReg (s : State) (a : Nat) : Nat :=
  match a with
  | 0 => b2n s.mg.alarmsAcked
  | 1 => regTempF (BitVec.ofNat 32 (s.loopGet 0x1005 4100))
  | 2 => s.cfg 0x0051 0 10
  | 3 => s.rd PF_PMGR_N_DUTY
  | 4 => s.pb.rowBudget / 65536 % 65536
  | 5 => s.pb.rowBudget % 65536
  | _ => s.cfg 0x0003 0 30

/-! ### Requests -/

/-- A response: register values high byte first. -/
def beWords (l : List Nat) : List Byte := l.flatMap fun v => leBytes 1 (v / 256) ++ leBytes 1 v

/-- A response on an open connection; a request restarts its idle time (R410). -/
def State.mbAnswer (s : State) (conn exc : Nat) (body : List Byte) : State :=
  let s := s.onMg fun y => { y with
    conns := y.conns.map fun c => if c.id = conn then { c with lastActive := s.time } else c,
    lastException := if exc = 0 then y.lastException else exc }
  s.reply { rc := exc, body := body }

/-- The connection is open. -/
def State.mbOpen (s : State) (conn : Nat) : Bool := s.mg.conns.any fun c => c.id == conn

/-- A read of registers: a count of 0 or above 125 gives exception 0x03, an address outside the map 0x02. PRESUMED:
notes/assumptions/87.md. -/
def State.mbRead (s : State) (conn addr count top : Nat) (f : Nat → Nat) : State :=
  if s.mbOpen conn then
    if count = 0 ∨ 125 < count then s.mbAnswer conn 3 []
    else if top < addr + count then s.mbAnswer conn 2 []
    else s.mbAnswer conn 0 (leBytes 1 (2 * count) ++ beWords ((upto count).map fun i => f (addr + i)))
  else s

/-- The configuration entry a holding register writes (R412), clamped like the field it names. -/
def State.mbEntry (s : State) (a v : Nat) : Option (Nat × Nat × Nat) :=
  let entry (ident index x : Nat) : Option (Nat × Nat × Nat) := (s.cfgFix ident index x).map fun y => (ident, index, y)
  match a with
  | 1 => entry 0x1005 4100 (fdiv (f32OfInt (signedOf 16 v)) (f32OfInt 100)).toNat
  | 2 => entry 0x0051 0 v
  | 3 => entry 0x0042 0 (withBits (s.rd PF_PMGR) 3 2 (clampNat 1 3 v))
  | 6 => entry 0x0003 0 v
  | _ => none

/-- Entries staged for the next boundary and kept, with no new configuration generation. -/
def State.mbStage (s : State) (l : List (Nat × Nat × Nat)) : State :=
  (s.onMb fun y => { y with staged := l.foldl putCfg y.staged }).onMg fun y => { y with
    storedCfg := l.foldl putCfg y.storedCfg }

/-- The row budget staged as SET_BUDGET stages it (R382, R412). -/
def State.mbBudget (s : State) (w : Nat) : State :=
  s.onPb fun y => { y with
    changes := y.changes ++ [{ level := 0, index := 0, immediate := false, budget := some (min w (budgetTop 0)),
                               fallback := none, priority := none, group := none }] }

/-- The alarms acknowledged: relays 0 to 2 de-energize until a further bit becomes set (R413). -/
def State.ackAlarms (s : State) : State :=
  (s.onMg fun y => { y with alarmsAcked := true, ackedAlarms := s.alarmWord }).alarmRelays

/-- The entries of a write as the standby takes them: identifier, index, value; 0x2000 is the row budget. -/
def entryBytes (l : List (Nat × Nat × Nat)) : List Byte :=
  l.flatMap fun e => leBytes 2 e.1 ++ leBytes 2 e.2.1 ++ leBytes 4 e.2.2

/-- An accepted write: registers 4 and 5 together, 0 the acknowledge, the others configuration; forwarded to the standby
(R412). DEDUCED: notes/assumptions/38.md. -/
def State.mbApply (s : State) (regs : List (Nat × Nat)) : State :=
  let es := regs.filterMap fun r => s.mbEntry r.1 r.2
  let at_ (a : Nat) : Nat := ((regs.find? fun r => r.1 == a).map (·.2)).getD 0
  let both := regs.any fun r => r.1 == 4
  let w := at_ 4 * 65536 + at_ 5
  let s := s.mbStage es
  let s := if both then s.mbBudget w else s
  let s := if at_ 0 = 1 then s.ackAlarms else s
  s.forward 5 3 (leBytes 8 s.frame ++ leBytes 4 s.tickNow ++ entryBytes (es ++ if both then [(0x2000, 0, w)] else []))

/-- A write of holding registers from an address on (R412). PRESUMED: notes/assumptions/87.md. -/
def State.mbWrite (s : State) (conn addr : Nat) (vals : List Nat) (echo : List Byte) : State :=
  if s.mbOpen conn then
    let n := vals.length
    let has (a : Nat) : Bool := decide (addr ≤ a) && decide (a < addr + n)
    if ¬ s.isActive ∨ s.mg.grantEnd.isNone then s.mbAnswer conn 1 []
    else if n = 0 ∨ 123 < n then s.mbAnswer conn 3 []
    else if 7 < addr + n then s.mbAnswer conn 2 []
    else if has 4 != has 5 then s.mbAnswer conn 3 []
    else (s.mbApply (vals.zipIdx.map fun p => (addr + p.2, p.1))).mbAnswer conn 0 echo
  else s

/-- MODBUS_READ_HOLDING: function 0x03. -/
def execModbusReadHolding (conn : Nat) (addr count : BitVec 16) (s : State) : Host.Outcome State Fault Refusal :=
  .next (s.mbRead conn addr.toNat count.toNat 7 s.holdingReg)

/-- MODBUS_READ_INPUT: function 0x04, in every role. -/
def execModbusReadInput (conn : Nat) (addr count : BitVec 16) (s : State) : Host.Outcome State Fault Refusal :=
  .next (s.mbRead conn addr.toNat count.toNat 92 s.inputReg)

/-- MODBUS_WRITE_SINGLE: function 0x06. -/
def execModbusWriteSingle (conn : Nat) (addr v : BitVec 16) (s : State) : Host.Outcome State Fault Refusal :=
  .next (s.mbWrite conn addr.toNat [v.toNat] (beWords [addr.toNat, v.toNat]))

/-- MODBUS_WRITE_MULTIPLE: function 0x10. -/
def execModbusWriteMultiple (conn : Nat) (addr : BitVec 16) (vals : List (BitVec 16)) (s : State) :
    Host.Outcome State Fault Refusal :=
  .next (s.mbWrite conn addr.toNat (vals.map BitVec.toNat) (beWords [addr.toNat, vals.length]))

/-- MODBUS_ALARM_ACK: 1 written to holding register 0 (R412, R413). -/
def execModbusAlarmAck (conn : Nat) (s : State) : Host.Outcome State Fault Refusal :=
  .next (s.mbWrite conn 0 [1] (beWords [0, 1]))

/-- MODBUS_BAD_FUNCTION: another function code gives exception 0x01 (R410). -/
def execModbusBadFunction (conn : Nat) (s : State) : Host.Outcome State Fault Refusal :=
  .next (if s.mbOpen conn then s.mbAnswer conn 1 [] else s)

/-- MODBUS_CONNECTION: accepted while fewer than 4 are open (R410). -/
def execModbusConnection (conn : Nat) (s : State) : Host.Outcome State Fault Refusal :=
  .next (if s.mg.conns.length < 4 ∧ ¬ s.mbOpen conn then
      s.onMg fun y => { y with conns := y.conns ++ [{ id := conn, lastActive := s.time }] }
    else s)

/-- MODBUS_IDLE_CLOSE: a connection idle for 60 s is closed (R410). -/
def execModbusIdleClose (conn : Nat) (s : State) : Host.Outcome State Fault Refusal :=
  .next (s.onMg fun y => { y with
    conns := y.conns.filter fun c => !(c.id == conn && decide (c.lastActive + secs 60 ≤ s.time)) })

end Sys2Proof.Machine
end

