-- ==== Sys2Proof/Machine/Console.lean ====
section
/-! DEFINITION. The service console (spec 16, R407, R408): every `svc` command reports the values its chapter names, and
the commands that act check SERVICE, the role and the key switch. -/

namespace Sys2Proof.Machine

/-! ### What the console prints -/

/-- A string as ASCII bytes. -/
def ascii (t : String) : List Byte := t.toList.map fun c => BitVec.ofNat 8 c.toNat

/-- The names of the KS codes (R368). -/
def Ks.name : Ks → String
  | .ok => "OK" | .clamped => "CLAMPED" | .stateConflict => "STATE_CONFLICT" | .range => "RANGE" | .notFit => "NOT_FIT"
  | .busy => "BUSY" | .authFail => "AUTH_FAIL" | .part => "PARTIAL" | .unknownContext => "UNKNOWN_CONTEXT"
  | .notOwner => "NOT_OWNER" | .timeout => "TIMEOUT" | .aborted => "ABORTED" | .internal => "INTERNAL"

/-- A hexadecimal digit. -/
def hexDigit (n : Nat) : Byte := BitVec.ofNat 8 (if n % 16 < 10 then 48 + n % 16 else 55 + n % 16)

/-- A report printed. -/
def State.prints (s : State) (body : List Byte) : State := s.reply { body := body }

/-- A refused command prints the KS code's name and the module state (R407). -/
def State.printErr (s : State) (k : Ks) : State :=
  let m := s.sys.mode.code
  s.reply { ks := k, body := ascii ("ERR " ++ k.name ++ " state 0x") ++ [hexDigit (m / 16), hexDigit m] }

/-- The words of some registers. -/
def State.words (s : State) (fs : List RF) : List Byte := fs.flatMap fun f => leBytes 4 (s.word f.addr)

/-- A command that acts as a mailbox command (R407): the role and state checks of that command, its work, its COMMAND
frame to the standby; the host-silence timer and the tags are the mailbox's alone. DEDUCED: notes/assumptions/88.md. -/
def State.consoleCmd (s : State) (c : Cmd) (p : List Byte) : State :=
  if c.active && !s.isActive then s.printErr .notOwner
  else if !c.states s then s.printErr .stateConflict
  else
    let r := c.body s p
    if r.code.accepted then
      (if c.changes then r.st.forward 5 0 (leBytes 2 c.op ++ leBytes 2 r.journal ++ leBytes 8 s.frame ++
        leBytes 4 s.tickNow ++ p) else r.st).prints (leBytes 2 r.code.code ++ r.out)
    else r.st.printErr r.code

/-- A brake line forced on. DEDUCED: notes/assumptions/66.md. -/
def State.forceBrake (s : State) (r : Nat) (on : Bool) : State :=
  let s := (s.wr PB_BRAKE_FORCE (withBits (s.rd PB_BRAKE_FORCE) r r (b2n on))).senseBrakes
  s.onSys fun y => { y with
    drives := if on then (if y.drives.contains (.brake r) then y.drives else y.drives ++ [.brake r])
              else y.drives.filter (· != .brake r) }

/-- The pump manager switched (R408). DEDUCED: notes/assumptions/66.md. -/
def State.pumpManager (s : State) (on : Bool) : State :=
  (s.putBit PF_PMGR_ENABLE on).pmSet

/-- A valve driven by a service check. DEDUCED: notes/assumptions/66.md. -/
def State.driveValve (s : State) (n : Nat) : State :=
  s.onSys fun y => { y with drives := if y.drives.contains (.valve n) then y.drives else y.drives ++ [.valve n] }

/-- The failed tiles. -/
def State.failedSet (s : State) : List Nat := (upto 128).filter fun t => s.rd (TR_TILE_STATE t) == 3

/-- The failed tiles returned to service, their records dropped; an admitted model is admitted anew over the columns
that are back (R84, R86). DEDUCED: notes/assumptions/88.md. -/
def State.clearFailed (s : State) : State :=
  let l := s.failedSet
  let s := s.onMg fun y => { y with failedTiles := [] }
  if l = [] then s
  else
    let s := l.foldl (fun s t => s.wr (TR_TILE_STATE t) 0) s
    let s := ((s.onTr fun y => { y with lost := 0 }).putBit TR_STATUS_COLUMN_LOST false).tileStates
    if s.bit TR_STATUS_ADMITTED then (s.toReactive.trStop.trUnadmit).onTr fun y => { y with readmit := true } else s

/-- The console commands that change an output or a route, by number, on channel `n`; the ACTIVE module and the STANDBY
that takes the forwarded command run the same (R11, R326). DESIGN CHOICE: notes/assumptions/22.md. -/
def State.consoleOut (s : State) (k n v : Nat) : State :=
  match k with
  | 0 => s.forceBrake n false
  | 1 => s.forceBrake n true
  | 2 => s.pumpManager false
  | 3 => s.pumpManager true
  | 4 => ((s.putBit (SV_CHCMD_CLOSE n) true).closeRequest n false).driveValve n
  | 5 => (s.openRequest n).reopenCheck.onSys fun y => { y with drives := y.drives.filter (· != .valve n) }
  | 6 => s.wr (VQ_SQ_SRC n) v
  | 7 => s.clearFailed
  | _ => s

/-- A console command done and forwarded (R11). DESIGN CHOICE: notes/assumptions/22.md. -/
def State.consoleDone (s : State) (k n v : Nat) : State :=
  ((s.consoleOut k n v).forward 5 0 (leBytes 2 0xFF00 ++ leBytes 2 0 ++ leBytes 8 s.frame ++ leBytes 4 s.tickNow ++
    leBytes 2 k ++ leBytes 2 n ++ leBytes 2 v)).prints []

/-- A command that drives an output: only the ACTIVE module in SERVICE takes it, and it forwards it (R9, R11, R408). -/
def State.inService (s : State) (k n : Nat) : State :=
  if s.sys.mode ≠ .service then s.printErr .stateConflict
  else if ¬ s.isActive then s.printErr .notOwner
  else s.consoleDone k n 0

/-! ### This chapter's commands -/

/-- The version, "BF 3.2.0" (R2). -/
def State.versionText (s : State) : List Byte :=
  let v := s.runningSlot.version
  ascii ("BF " ++ Nat.repr (v / 65536 % 256) ++ "." ++ Nat.repr (v / 256 % 256) ++ "." ++ Nat.repr (v % 256))

/-- SVC_VER. -/
def execSvcVer (s : State) : Host.Outcome State Fault Refusal := .next (s.prints s.versionText)

/-- SVC_STATE: state and role codes, the line, the trip matrix. -/
def execSvcState (s : State) : Host.Outcome State Fault Refusal :=
  .next (s.prints (leBytes 1 s.sys.mode.code ++ leBytes 1 s.sys.role.code ++ s.words [TW_STATUS, TM_CTRL, TM_CRC, TM_CRC_LOCK]))

/-- SVC_SENSORS: every quantity of R390 in its order, and which are outside their bands. -/
def execSvcSensors (s : State) : Host.Outcome State Fault Refusal :=
  .next (s.prints (((upto 24).flatMap fun q => leBytes 4 (wrapInt 32 (tget 0 s.mg.board q))) ++
    s.words [SN_CPFLOW, SN_CPTIN, SN_CPTOUT, SN_CPSTAT] ++ s.mg.boardWarn.flatMap (leBytes 2)))

/-- The frequency at TP12 in Hz: 2,500 pulses per litre of the cold-plate flow (R409). -/
def State.cpFlowHz (s : State) : F32 := fdiv (fmul (s.rdf SN_CPFLOW) (f32OfInt 2500)) (f32OfInt 60)

/-- SVC_TP: the readings expected at the test points now (R409): TP1 and TP2 in mV, OWN_H and OWN_L, the rails in mV,
the frequencies of TP11 and TP13 in mHz, with PLL_LOCK, TIME_VALID and the PTM offset; then TP5 in mV, the frequency of
TP12 in Hz, TP14, low outside its test, in mV, and the frequency of TP15 in mHz. -/
def execSvcTp (s : State) : Host.Outcome State Fault Refusal :=
  let b (q : Nat) : Int := tget 0 s.mg.board q
  let frameMon := if s.frameCounts = 0 then 0 else 100000000000 / (2 * s.frameCounts)
  .next (s.prints (leBytes 4 (wrapInt 32 (b 0 / 20)) ++ leBytes 4 (wrapInt 32 (b 1 / 10)) ++
    leBytes 1 (s.rd TW_STATUS_OWN_H) ++ leBytes 1 (s.rd TW_STATUS_OWN_L) ++ leBytes 2 750 ++
    leBytes 2 s.vddTr.toNat ++ leBytes 2 800 ++ leBytes 2 1200 ++ leBytes 2 3300 ++ leBytes 4 frameMon ++ leBytes 4 1000 ++
    s.words [CK_STATUS, CK_PTM_OFFSET] ++ leBytes 2 (3300 * b2n s.mb.linkUp) ++ leBytes 4 s.cpFlowHz.toNat ++ leBytes 2 0 ++
    leBytes 4 (1000 * s.rd MG_STATUS_MG_READY)))

/-- SVC_LOG: the last n records, 20 by default. -/
def execSvcLog (n : Option Nat) (s : State) : Host.Outcome State Fault Refusal :=
  let l := s.logAll
  .next (s.prints ((l.drop (l.length - n.getD 20)).flatMap LogRec.bytes))

/-- SVC_LOG_CODES: the event catalogue. -/
def execSvcLogCodes (s : State) : Host.Outcome State Fault Refusal := .next (s.prints Config.catalog)

/-- The payload of a SET_MODE request for a mode code. -/
def modePayload (code : Nat) : List Byte := zeros 8 ++ leBytes 1 code ++ zeros 11

/-- SVC_MODE_SERVICE: SET_MODE SERVICE, accepted only while the key switch SVC_EN, an input, is on (R407). DEDUCED:
notes/assumptions/88.md. -/
def execSvcModeService (key : Bool) (s : State) : Host.Outcome State Fault Refusal :=
  let s := s.onMg fun y => { y with svcEn := key }
  .next (if key then s.consoleCmd cmdSetMode (modePayload 9) else s.printErr .stateConflict)

/-- SVC_MODE_TABLE: SET_MODE TABLE. -/
def execSvcModeTable (s : State) : Host.Outcome State Fault Refusal := .next (s.consoleCmd cmdSetMode (modePayload 2))

/-- SVC_UPDATE: the update's journal, the slots, F. -/
def execSvcUpdate (s : State) : Host.Outcome State Fault Refusal :=
  let j := (s.mg.update.bind fun u => s.mb.journals.find? fun j => j.idx == u.journal)
  .next (s.prints (leBytes 1 s.mg.runSlot ++ leBytes 1 (b2n s.mg.trial) ++ leBytes 1 s.mg.fuse ++
    leBytes 1 s.mg.slotA.svn ++ leBytes 1 s.mg.slotB.svn ++ leBytes 4 s.mg.slotA.version ++ leBytes 4 s.mg.slotB.version ++
    ((j.map Journal.link).getD [])))

/-- SVC_ATTEST: a report signed with a console nonce (R401, R408). -/
def execSvcAttest (nonce : List (BitVec 8)) (s : State) : Host.Outcome State Fault Refusal :=
  let r := s.attest nonce
  .next (if r.ks = .ok then r.st.prints r.out else r.st.printErr r.ks)

/-- SVC_MODBUS: connections, write grant, last exception, alarm word. -/
def execSvcModbus (s : State) : Host.Outcome State Fault Refusal :=
  .next (s.prints (leBytes 1 s.mg.conns.length ++ leBytes 2 s.grantLeft ++ leBytes 1 s.mg.lastException ++
    leBytes 2 s.alarmWord))

/-- SVC_BAUD: 230,400, 460,800 or 921,600 bit/s from the reply on, until the next reset (R407). -/
def execSvcBaud (rate : Nat) (s : State) : Host.Outcome State Fault Refusal :=
  .next (if [230400, 460800, 921600].contains rate then (s.prints []).onMg fun y => { y with baud := rate }
    else s.printErr .range)

/-- SVC_RECOVER: in recovery mode an image received by YMODEM is checked under R394 and written to slot A. -/
def execSvcRecover (image : List (BitVec 8)) (s : State) : Host.Outcome State Fault Refusal :=
  let x := slotOf image
  .next (if ¬ s.mg.recovery then s.printErr .stateConflict
    else if 44 * 1048576 < image.length ∨ ¬ headerGood image then s.printErr .range
    else if x.passes s.mg.fuse then (s.onMg fun y => y.putSlot 0 x).prints []
    else s.printErr .authFail)

/-! ### Engine, Trellis, broker, queues -/

/-- SVC_LE: engine state. -/
def execSvcLe (s : State) : Host.Outcome State Fault Refusal :=
  .next (s.prints (s.words [LE_STATUS, LE_FRAME_NUM_LO, LE_FRAME_NUM_HI, LE_MISS_COUNT]))

/-- SVC_LOOP: a slot's effective mode, flags and outputs. -/
def execSvcLoop (k : Fin 4608) (s : State) : Host.Outcome State Fault Refusal :=
  .next (s.prints (leBytes 1 (s.effMode k) ++ s.words [SL_CTRL k, SL_FLAGS k, SL_OUT0 k, SL_OUT1 k, SL_FB_STATE k]))

/-- SVC_TRELLIS: status, clock, spare and retiring columns, GOOD_FRAMES, the failed set. -/
def execSvcTrellis (s : State) : Host.Outcome State Fault Refusal :=
  .next (s.prints (s.words [TR_STATUS, TR_CLOCK_MHZ, TR_ROT_STATE, TR_SENT] ++ s.failedSet.flatMap (leBytes 1)))

/-- SVC_TRELLIS_MODEL: slots, image name, SHA-256, form, II, L, TR_ADMIT, the last commit's outcome. -/
def execSvcTrellisModel (s : State) : Host.Outcome State Fault Refusal :=
  let slot (o : Option Image) : List Byte := leBytes 1 ((o.map (·.slot)).getD 255)
  let j := s.mb.journals.find? fun j => j.opcode == 0xC041 || j.opcode == 0xC042
  .next (s.prints (slot s.tr.image ++ slot s.tr.previous ++ padTo 64 ((s.tr.image.map (·.name)).getD []) ++ padTo 32 ((s.tr.image.map (·.digest)).getD []) ++
    leBytes 1 s.tr.form ++ s.words [TR_II, TR_LATENCY, TR_ADMIT, TR_CLOCK_MHZ] ++
    leBytes 1 ((j.map fun j => j.outcome.code).getD 255)))

/-- SVC_TRELLIS_CLEARFAIL: accepted only in SERVICE (R86). -/
def execSvcTrellisClearfail (s : State) : Host.Outcome State Fault Refusal :=
  .next (s.inService 7 0)

/-- SVC_PB: the broker. -/
def execSvcPb (s : State) : Host.Outcome State Fault Refusal :=
  .next (s.prints (s.words [PB_CTRL, PB_BRAKE, PB_SENT, PB_DROPPED, PB_UNCONFIRMED, PB_FANOUT_US]))

/-- SVC_CTX: a context's grant and cap, epochs, status, and its newest telemetry. -/
def execSvcCtx (c : Fin 4096) (s : State) : Host.Outcome State Fault Refusal :=
  .next (s.prints (s.words [PB_CAP c, PB_APPLIED_EPOCH_LO c, PB_APPLIED_EPOCH_HI c, PB_CONFIRMED_EPOCH_LO c,
    PB_CONFIRMED_EPOCH_HI c, PB_STATUS c] ++ (((s.telem c).map fun r => r.words.flatMap (leBytes 8)).getD [])))

/-- SVC_BRAKE_ON (R9, R174, R408). -/
def execSvcBrakeOn (r : Fin 16) (s : State) : Host.Outcome State Fault Refusal :=
  .next (s.inService 1 r)

/-- SVC_BRAKE_OFF. -/
def execSvcBrakeOff (r : Fin 16) (s : State) : Host.Outcome State Fault Refusal :=
  .next (s.inService 0 r)

/-- SVC_VQ: pointer errors, and VIOL and READ_LINES of every ingest queue. -/
def execSvcVq (s : State) : Host.Outcome State Fault Refusal :=
  .next (s.prints (s.words [VQ_CTRL, VQ_PTRERR_COUNT] ++ (upto 64).flatMap fun q => s.words [VQ_IQ_STAT q, VQ_IQ_VIOL q]))

/-- SVC_VQ_SQ_SRC: a sample queue routed to a stream, by the ACTIVE module alone, which forwards it (R11); SQ28 to SQ31
stay fixed (R201). -/
def execSvcVqSqSrc (q : Fin 32) (src : BitVec 8) (s : State) : Host.Outcome State Fault Refusal :=
  .next (if s.isActive then s.consoleDone 6 q src.toNat else s.printErr .notOwner)

/-- SVC_VQ_SQ_PEEK: the newest sample line, LINES, OVERRUN, TIMEOUTS. -/
def execSvcVqSqPeek (q : Fin 32) (s : State) : Host.Outcome State Fault Refusal :=
  let x := s.sq q
  .next (s.prints (s.words [VQ_SQ_STAT q, VQ_SQ_OVERRUN q, VQ_SQ_TIMEOUTS q] ++
    (((x.read ++ x.fill).getLast?.map (·.bytes)).getD [])))

/-! ### Pumps, fans, inputs, leaks, valves, CAN -/

/-- SVC_PF_PMGR_ON: in SERVICE. -/
def execSvcPfPmgrOn (s : State) : Host.Outcome State Fault Refusal := .next (s.inService 3 0)

/-- SVC_PF_PMGR_OFF: in SERVICE. -/
def execSvcPfPmgrOff (s : State) : Host.Outcome State Fault Refusal := .next (s.inService 2 0)

/-- SVC_PUMP: speed, state, tach rpm, run hours. -/
def execSvcPump (n : Fin 4) (s : State) : Host.Outcome State Fault Refusal :=
  .next (s.prints (s.words [PF_SPEED n, PF_PSTAT n, PF_PTACH n, PF_PHOURS n]))

/-- SVC_PUMP_SET: PUMP_SET with a speed (R385), in SERVICE. -/
def execSvcPumpSet (n : Fin 4) (v : BitVec 16) (s : State) : Host.Outcome State Fault Refusal :=
  .next (s.consoleCmd cmdPumpSet (zeros 8 ++ leBytes 1 n.val ++ leBytes 1 2 ++ leBytes 2 v.toNat))

/-- SVC_FAN: duty, rpm, current, learned current. -/
def execSvcFan (k : Fin 8) (s : State) : Host.Outcome State Fault Refusal :=
  .next (s.prints (s.words [PF_FSPEED k, PF_FSTAT k, PF_FTACH k, PF_FCUR k, PF_FLEARN k]))

/-- SVC_HYD: PF_HYD, main flow pulse rate, DP, its threshold, PULSE_GAP. -/
def execSvcHyd (s : State) : Host.Outcome State Fault Refusal :=
  .next (s.prints (s.words [PF_HYD, SN_PIFREQ 0] ++ leBytes 4 (s.dp.getD 0).toNat ++ s.words [PF_STOPCFG]))

/-- SVC_CAL: state, gain, offsets, raw flow, minutes steady of a rack's calibration. -/
def execSvcCal (r : Fin 16) (s : State) : Host.Outcome State Fault Refusal :=
  let x := s.cal r
  .next (s.prints (leBytes 1 x.state ++ leBytes 2 x.steady ++ s.words [SN_FLOWGAIN r, SN_RTDOFF (2 * r), SN_RTDOFF (2 * r + 1)] ++
    leBytes 4 (s.srcFlow (s.rd (SN_FLOWSRC r))).val.toNat))

/-- SVC_SN_INPUT: an RTD, mA or pulse input: value, raw, offset or frequency, status. Inputs 0 to 47 are RTD, 48 to 71
mA, 72 to 79 pulse. -/
def execSvcSnInput (k : Fin 80) (s : State) : Host.Outcome State Fault Refusal :=
  .next (s.prints (if k.val < 48 then s.words [SN_RTDVAL k, SN_RTDRAW k, SN_RTDOFF k, SN_RTDSTAT k]
    else if k.val < 72 then s.words [SN_MAVAL (k - 48), SN_MARAW (k - 48), SN_MASTAT (k - 48)]
    else s.words [SN_PIFREQ (k - 72), SN_PISTAT (k - 72)] ++ leBytes 4 (s.srcPulse (k - 72)).val.toNat))

/-- SVC_SN_DI: the digital inputs. -/
def execSvcSnDi (s : State) : Host.Outcome State Fault Refusal := .next (s.prints (s.words [SN_DIN]))

/-- SVC_LEAK: a rope (0 to 15) or point (16 to 31) channel: state and resistance. -/
def execSvcLeak (k : Fin 32) (s : State) : Host.Outcome State Fault Refusal :=
  .next (s.prints (if k.val < 16 then s.words [LK_ROPESTAT k, LK_ROPELIVE k] else s.words [LK_PTSTAT (k - 16)]))

/-- SVC_CP: the module cold plate. -/
def execSvcCp (s : State) : Host.Outcome State Fault Refusal :=
  .next (s.prints (s.words [SN_CPFLOW, SN_CPTIN, SN_CPTOUT, SN_CPSTAT]))

/-- SVC_SV: a solenoid channel. -/
def execSvcSv (n : Fin 36) (s : State) : Host.Outcome State Fault Refusal :=
  .next (s.prints (s.words [SV_CHSTAT n, SV_CHCUR n, SV_CHNODE n, SV_CHKINK n, SV_CHCOUNT n]))

/-- SVC_SV_CLEAR: the channel's fault bits, the W1C bits of SV_CHSTAT, cleared (R273). -/
def execSvcSvClear (n : Fin 36) (s : State) : Host.Outcome State Fault Refusal :=
  let clr : List RF :=
    [SV_CHSTAT_POS_MISMATCH n, SV_CHSTAT_GROUP_BUDGET n, SV_CHSTAT_NO_KINK n, SV_CHSTAT_OVERCURRENT n,
     SV_CHSTAT_SHORT_SUPPLY n, SV_CHSTAT_SHORT_GND n, SV_CHSTAT_OPEN_LOAD n]
  .next ((clr.foldl (fun s f => s.putBit f false) s).prints [])

/-- SVC_SV_CLOSE: in SERVICE (R9). -/
def execSvcSvClose (n : Fin 36) (s : State) : Host.Outcome State Fault Refusal :=
  .next (s.inService 4 n)

/-- SVC_SV_OPEN: in SERVICE; a channel that a trip holds stays closed (R271). -/
def execSvcSvOpen (n : Fin 36) (s : State) : Host.Outcome State Fault Refusal :=
  .next (if s.sys.mode = .service ∧ s.isActive ∧ s.bit (SV_CHSTAT_TRIP_HELD n) then s.printErr .stateConflict
    else s.inService 5 n)

/-- SVC_SV_GROUP: a group's high side, current, node. -/
def execSvcSvGroup (g : Fin 9) (s : State) : Host.Outcome State Fault Refusal :=
  .next (s.prints (s.words [SV_GSTAT g, SV_GCUR g, SV_GNODE g, SV_GIDLE g]))

/-- SVC_FB: a CAN channel: status and error counts, reference misses, cycle, expected and lost nodes. -/
def execSvcFb (n : Fin 4) (s : State) : Host.Outcome State Fault Refusal :=
  .next (s.prints (s.words [FB_STAT n, FB_REFMISS n, FB_CYCLE n, FB_NODEEXP_LO n, FB_NODEEXP_HI n, FB_NODELOST_LO n,
    FB_NODELOST_HI n]))

/-! ### Doorbells, twin, memory, CXL -/

/-- The round trip of one target: doorbell 1535 routed to it and posted, taken by its handler, which answers with 1534.
-/
def State.dicTrip (s : State) (t : Nat) : State :=
  let s := (s.wr (DIC_SRCCFG_TARGET 1535) t).post 1535
  let s := s.wr ⟨(DIC_PEND 47).addr, 31, 31⟩ 0
  let s := s.post 1534
  s.wr ⟨(DIC_PEND 47).addr, 30, 30⟩ 0

/-- The target codes of R304 that exist. -/
def dicTargets : List Nat := [0, 2, 3, 4, 5, 6, 7, 8]

/-- SVC_DIC_TEST: doorbell 1535 to each target in turn; each round-trip time is measured, a free value (R315). DESIGN
CHOICE: notes/assumptions/6.md. -/
def execSvcDicTest (s : State) : Host.Outcome State Fault Refusal :=
  let route := s.rd (DIC_SRCCFG_TARGET 1535)
  let t := dicTargets.foldl (fun (q : State × List Byte) t =>
    let s := q.1.dicTrip t
    (s.drew, q.2 ++ leBytes 4 s.freeNat ++ s.words [DIC_CSTAT t])) (s, [])
  .next ((t.1.wr (DIC_SRCCFG_TARGET 1535) route).prints (t.2 ++ s.words [DIC_BADDB]))

/-- SVC_TWIN: role, slot, line, lanes, IN_STEP, TR_WARM, lag, cross-check, excitation. -/
def execSvcTwin (s : State) : Host.Outcome State Fault Refusal :=
  .next (s.prints (s.words [TW_STATUS, TW_LAG, TW_XCHK, TW_LAST_GAP] ++ leBytes 1 (b2n s.sn.exc)))

/-- SVC_MEM: channels, corrected counts, UE_SEEN, DIMM_WARN, scrub position and passes, SCRUB_HOURS. -/
def execSvcMem (s : State) : Host.Outcome State Fault Refusal :=
  .next (s.prints (s.words [CA_STATUS, CA_UE_COUNT, CA_SCRUB_POS, CA_SCRUB_PASSES, CA_CTRL] ++
    (upto 8).flatMap fun c => s.words [CA_CE_COUNT c]))

/-- The newest tier 0 period written. -/
def State.lastPeriod (s : State) : Nat :=
  match s.ca.ended, s.ca.cur with
  | p :: _, _ => p.num - 1
  | [], some p => p.num - 1
  | [], none => 0

/-- A temperature code in °C (R349). -/
def codeCelsius (w : Nat) : F32 := if w = 0x8000 then f32NaN else fdiv (f32OfInt (signedOf 16 w)) (f32OfInt 128)

/-- The region of a DDR offset (R342, R344): archive, model store, working memory. -/
def ddrRegion (a : Nat) : Nat := if a < 0x7000000000 then 0 else if a < 0x7800000000 then 1 else 2

/-- A core C2 to C7 that read poisoned data: Benfophor restarts the task, and the log record names the region (R344). -/
def State.taskRestart (s : State) (a : Nat) : State := s.log 13 .taskRestart 2 [ddrRegion a]

/-- SVC_CELLAR: a context's newest tier 0 block header of channel 0 with its slot and index timestamp, the newest tier 1
entry in °C, CA_DECIM and CA_QUANT_BLOCKS. The console's task, where the data it reads carries poison, restarts instead (R344,
R357). -/
def execSvcCellar (c : Fin 4096) (s : State) : Host.Outcome State Fault Refusal :=
  let slot := s.lastPeriod % 21504
  let key := 8 * c.val
  let block := (slot * 32768 + key) * 256
  let entry := 0x2A00000000 + ((s.ca.second - 1) % 1223338 * 32768 + key) * 6
  let index := 0x6E80000000 + 8 * slot
  if s.poisonIn block 40 ∨ s.poisonIn entry 6 ∨ s.poisonIn index 8 then .next (s.taskRestart block)
  else
    .next (s.prints (leBytes 4 slot ++ s.bytesAt block 40 ++ s.bytesAt index 8 ++
      ((upto 3).flatMap fun i => leBytes 4 (codeCelsius (s.leAt (entry + 2 * i) 2)).toNat) ++
      s.words [CA_DECIM, CA_QUANT_BLOCKS, CA_STATUS]))

/-- SVC_CXL: link, PTM, decoder, Memory_Active, AER counts, commands and KS codes. -/
def execSvcCxl (s : State) : Host.Outcome State Fault Refusal :=
  .next (s.prints (leBytes 2 s.mb.linkRate ++ leBytes 1 s.mb.linkWidth ++ leBytes 2 s.mb.linkFlit ++ leBytes 1 (b2n s.mb.linkReduced) ++
    s.words [CK_STATUS, CK_PTM_OFFSET] ++ leBytes 2 s.mb.hdmSize ++ leBytes 1 (b2n s.mb.hdmCommitted) ++
    leBytes 1 (b2n s.mb.memoryActive) ++ leBytes 4 s.mb.aerCorr ++ leBytes 4 s.mb.aerUncorr ++ leBytes 4 s.mb.commands ++
    (upto 13).flatMap fun k => leBytes 4 (tget 0 s.mb.ksCounts k)))

/-- SVC_CXL_PING: GET_STATE through the host path where the host allows it, else the time of the last mailbox command.
-/
def execSvcCxlPing (hostAllows : Bool) (s : State) : Host.Outcome State Fault Refusal :=
  if hostAllows then
    let t := s.atMailbox
    let t := if t.isActive then t.silenceRestart else t
    .next (t.prints (leBytes 8 s.time ++ s.stateRecord))
  else .next (s.prints (leBytes 8 (s.mb.lastCommand.getD 0)))

end Sys2Proof.Machine
end

