-- ==== Sys2Proof/Machine/Twin.lean ====
section
/-! DEFINITION. The twin unit (spec 13): the ownership line, heartbeats, the link and its frames, and the records that a
STANDBY takes from them. -/

namespace Sys2Proof.Machine

/-! ### The ownership line (R317, R318, R320) -/

/-- The line as sampled. DEDUCED: notes/assumptions/28.md. -/
def State.setLine (s : State) (cls : Nat) (h l : Bool) : State :=
  ((s.wr TW_STATUS_LINE cls).putBit TW_STATUS_OWN_H h).putBit TW_STATUS_OWN_L l

/-- The line is invalid (R318). -/
def State.lineBad (s : State) : Bool := decide (2 ≤ s.rd TW_STATUS_LINE)

/-- Benfophor reports that BOOT is complete except for the role decision (R397). -/
def State.roleWaits (s : State) : Bool :=
  s.sys.mode == .boot && s.sys.phase == .claimEnabled && s.sys.role == .undecided

/-- The line becomes faulty: LINE_FAULT, doorbell 33, a log record; the boot watchdog is held (R318, R397). DEDUCED:
notes/assumptions/28.md. -/
def State.lineFault (s : State) : State :=
  let s := (s.putBit TW_STATUS_LINE_FAULT true).note 12 .lineInvalid 2 [] 33
  if s.roleWaits then s.onMg fun y => { y with watchdogHeld := true } else s

/-- The class of a sample of the line (R318, R340): 0 free, 1 owned, 2 invalid, 3 transition. -/
def lineClass : PinLevel → PinLevel → Nat
  | .high, .low => 1
  | .low, .high => 0
  | .high, .high | .low, .low => 2
  | .between, _ | _, .between => 3

/-- LINE_INVALID: invalid or transition samples have lasted 100 µs; `h` and `l` are the pin levels of the last one. -/
def execLineInvalid (h l : PinLevel) (s : State) : Host.Outcome State Fault Refusal :=
  let c := lineClass h l
  .next (if s.sys.mode = .off ∨ c < 2 then s
    else
      let t := s.setLine c (h == .high) (l == .high)
      if s.lineBad then t else t.lineFault)

/-- TW_GUARD in counts, 20 to 200 ms (R320). -/
def State.guardTime (s : State) : Nat := msec (clampNat 20 200 (s.rd TW_GUARD))

/-- The line released on request: the guard starts, the role is STANDBY; in step with the new owner unless the module
is in SURVIVAL (R320, R336). DEDUCED: notes/assumptions/29.md. -/
def State.releaseLine (s : State) : State :=
  let s := (s.setLine 0 false true).onTw fun y => { y with
    guardEnd := some (s.time + s.guardTime), gapFrom := some s.time, fin := [], commands := [], outFrame := none,
    outputs := [], outside := [], discrete := 0, rxCounts := [], rxCrc := 0xFFFFFFFF, endSeen := none,
    running := false, outEn := false }
  let s := (s.putBit TW_STATUS_GUARD true).log 12 .release 1 []
  let s := (s.setExc false).setRole .standby
  s.putBit TW_STATUS_IN_STEP (s.sys.mode != .survival)

/-- The reply to a HANDOVER_REQUEST that waits (R336): to the host, unless the interface has lost it (R360), its tag kept;
or at the console. DEDUCED: notes/assumptions/26.md. -/
def State.handReply (s : State) (k : Ks) : State :=
  let t := s.onTw fun y => { y with handTag := none, hand := .idle, handLost := false, handConsole := false }
  match s.tw.handTag with
  | some tag =>
    let h := s.ksHeader k tag 0 0
    (if s.tw.handLost then t else t.answer k h []).keepTag tag h []
  | none => if s.tw.handConsole then t.prints (leBytes 2 k.code ++ s.words [TW_LAST_GAP]) else t

/-- A handover given up before the release: nothing has changed (R336). -/
def State.handAbort (s : State) : State :=
  if s.tw.hand = .idle ∨ s.tw.hand = .released then s else s.handReply .aborted

/-- GUARD_END: the release guard ends; without a claim by the partner the reply is KS_ABORTED (R320, R336). -/
def execGuardEnd (s : State) : Host.Outcome State Fault Refusal :=
  if s.since s.tw.guardEnd 0 then
    let s := (s.putBit TW_STATUS_GUARD false).onTw fun y => { y with guardEnd := none }
    .next (if s.tw.hand = .released then s.handReply .aborted else s)
  else .next s

/-! ### Heartbeats (R324, R325, R316) -/

/-- The cold-plate code of a heartbeat. -/
def State.cpCode (s : State) : Nat :=
  if s.bit SN_CPSTAT_SENSOR_FAIL then 3 else if s.bit SN_CPSTAT_CP_LOSS then 2 else if s.bit SN_CPSTAT_CP_LOW then 1 else 0

/-- The first 8 bytes of the committed image's SHA-256, 0 when none. -/
def State.imageTag (s : State) : Nat := ((s.tr.image.map fun g => fieldLE g.digest 0 8)).getD 0

/-- The 48-byte heartbeat payload (R324). DEDUCED: notes/assumptions/28.md. -/
def State.heartbeatBytes (s : State) : List Byte :=
  leBytes 1 (s.rd TW_STATUS_SLOT_PIN) ++ leBytes 1 s.sys.role.code ++ leBytes 1 s.sys.mode.code ++ leBytes 1 3 ++
    leBytes 4 (b2n (s.sys.mode != .failed) + 2 * s.rd TW_STATUS_IN_STEP + 4 * s.rd TW_STATUS_TR_WARM +
      8 * s.rd TW_STATUS_RESYNC + 16 * s.rd TW_STATUS_GUARD + 32 * s.cpCode) ++
    leBytes 8 s.mg.serial ++ leBytes 4 s.runningSlot.version ++ leBytes 8 s.imageTag ++ leBytes 4 s.mb.cfgGen ++
    leBytes 8 s.tw.lastDone ++ leBytes 8 s.time

/-- The link may carry frames: enabled and trained on at least two lanes (R321, R340). -/
def State.linkUp (s : State) : Bool := s.bit TW_CTRL_ENABLE && decide (2 ≤ popCount 4 (s.rd TW_STATUS_LANES))

/-- HEARTBEAT_SEND: every 250 µs. -/
def execHeartbeatSend (s : State) : Host.Outcome State Fault Refusal :=
  .next (if s.bit TW_CTRL_ENABLE ∧ (s.tw.hbSent.isNone ∨ s.since s.tw.hbSent (usec 250)) then
      (s.linkSend 1 0 0 s.heartbeatBytes).onTw fun y => { y with hbSent := some s.time }
    else s)

/-- The slot in use and its holdoff after a heartbeat: with equal straps the lower serial number takes slot A's (R316).
-/
def State.slotUse (s : State) (pSlot pSerial : Nat) : State :=
  let pin := s.rd TW_STATUS_SLOT_PIN
  let conflict := pSlot == pin
  let slot := if conflict then (if s.mg.serial < pSerial then 0 else 1) else pin
  let s := if conflict && !s.bit TW_STATUS_SLOT_CONFLICT then s.log 12 .slotConflict 1 [pSlot] else s
  ((s.putBit TW_STATUS_SLOT_CONFLICT conflict).wr TW_STATUS_SLOT slot).wr TW_HOLDOFF (if slot = 0 then 2000 else 3000)

/-- TW_PARTNER from a heartbeat (R340). -/
def State.partnerWord (s : State) (p : List Byte) : State :=
  let fl := fieldLE p 4 4
  let s := ((s.wr TW_PARTNER_ROLE (fieldLE p 1 1)).wr TW_PARTNER_SLOT (fieldLE p 0 1)).wr TW_PARTNER_CP (bitsOf fl 6 5)
  let s := ((s.wr TW_PARTNER_STATE (fieldLE p 2 1)).wr TW_PARTNER_PROTO (fieldLE p 3 1)).putBit TW_PARTNER_DIAG_OK (bitOf fl 0)
  let s := (s.putBit TW_PARTNER_IN_STEP (bitOf fl 1)).putBit TW_PARTNER_TR_WARM (bitOf fl 2)
  s.wr64 TW_PARTNER_FRAME_LO (fieldLE p 32 8)

/-- Heartbeats restored: HB_LOST ends, and a STANDBY that was isolated is resynchronized (R325, R338). DEDUCED:
notes/assumptions/27.md. -/
def State.heartbeatBack (s : State) : State :=
  let lost := s.tw.lost
  let s := ((s.putBit TW_STATUS_HB_OK true).putBit TW_STATUS_HB_LOST false).onTw fun y => { y with lost := false }
  if lost then s.log 12 .heartbeatBack 0 [] else s

/-- A module of another protocol version stays ISOLATED_STANDBY (R338). -/
def State.skewCheck (s : State) (proto : Nat) : State :=
  let skew := proto != 3
  let s := if skew && !s.bit TW_STATUS_VERSION_SKEW then s.log 12 .versionSkew 1 [proto] else s
  let s := s.putBit TW_STATUS_VERSION_SKEW skew
  if skew && s.sys.role == .standby then (s.putBit TW_STATUS_IN_STEP false).setRole .isolatedStandby else s

/-- The ACTIVE module in SURVIVAL releases the line once its partner's heartbeats report the cold plate in range (R24):
as in R336 where the partner is in step; a partner out of step, which would answer CANCEL, is not asked, and claims
under R333. A FAULTED partner cannot claim, and is not released to. DEDUCED: notes/assumptions/29.md. -/
def State.survivalRelease (s : State) : State :=
  if s.isActive && s.sys.mode == .survival && s.rd TW_PARTNER_ROLE != 4 && s.rd TW_PARTNER_CP == 0 &&
      s.tw.hand == .idle && s.bit TW_STATUS_HB_OK then
    s.onTw fun y => { y with hand := if s.partnerInStep then .asked else .ready, handTag := none }
  else s

/-- A TARGET 1 update as the target's heartbeats show it: the new version running, STANDBY and IN_STEP; FAILED where the
target is FAULTED, or is back in step with another version after its reset (R404, R461).
DEDUCED: notes/assumptions/86.md. -/
def State.partnerUpdated (s : State) : State :=
  match s.mg.update with
  | some u =>
    if u.target = 1 && s.isActive && u.activating && s.partnerInStep && s.tw.pVersion == u.version then
      (s.journalStep u.journal 6).onMg fun y => { y with update := none }
    else if u.target = 1 && s.isActive && (s.rd TW_PARTNER_ROLE == 4 || u.programmed && s.partnerInStep) then s.updateFailed
    else s
  | none => s

/-- What a received heartbeat does (R24, R316, R325, R329, R337, R338). DEDUCED: notes/assumptions/27.md. -/
def State.heartbeat (s : State) (p : List Byte) : State :=
  if p.length ≠ 48 ∨ ¬ s.bit TW_CTRL_ENABLE then s
  else
    let was := s.rd TW_PARTNER_ROLE
    let role := fieldLE p 1 1
    let fl := fieldLE p 4 4
    let s := (s.partnerWord p).onTw fun y => { y with
      hbAt := some s.time,
      hbRun := if s.since y.hbAt (msec 3) then 1 else y.hbRun + 1, pSerial := fieldLE p 8 8, pVersion := fieldLE p 16 4,
      pDigest := fieldLE p 20 8, pGen := fieldLE p 28 4, pResync := bitOf fl 3, pGuard := bitOf fl 4,
      hbSlotA := if fieldLE p 0 1 = 0 then some s.time else y.hbSlotA,
      gapFrom := if was = 1 ∧ role ≠ 1 then some (fieldLE p 40 8) else y.gapFrom }
    let s := (s.slotUse (fieldLE p 0 1) (fieldLE p 8 8)).putBit TW_XCHK_MODEL (fieldLE p 20 8 != s.imageTag)
    let s := if 4 ≤ s.tw.hbRun ∧ ¬ s.bit TW_STATUS_HB_OK then s.heartbeatBack else s
    let s := (s.skewCheck (fieldLE p 3 1)).survivalRelease.partnerUpdated
    s.onTw fun y => { y with
      resyncDue := s.isActive && s.bit TW_STATUS_HB_OK && !s.bit TW_STATUS_VERSION_SKEW && (role == 2 || role == 3) &&
        !bitOf fl 1 && s.sys.mode != .survival && fieldLE p 2 1 != ModState.survival.code && y.resyncAt.isNone }

/-- HEARTBEAT_RECEIVE: a heartbeat's payload as it arrives. -/
def execHeartbeatReceive (p : List (BitVec 8)) (s : State) : Host.Outcome State Fault Refusal := .next (s.heartbeat p)

/-- A TARGET 1 update over the loss of the link: before ACTIVATE it fails on the ACTIVE module and is freed on the
target; after it the ACTIVE module waits for the target to come back from its reset (R404, R461). DEDUCED:
notes/assumptions/86.md. -/
def State.updateUnlinked (s : State) : State :=
  match s.mg.update with
  | some u =>
    if u.target ≠ 1 then s
    else if u.activating then (if s.isActive then s.onUpdate fun v => { v with programmed := true } else s)
    else if s.isActive then s.updateFailed
    else (s.journalEnd u.journal .aborted 0).onMg fun y => { y with update := none }
  | none => s

/-- The link given up: nothing waits for the partner any more. -/
def State.linkReset (s : State) : State :=
  s.updateUnlinked.onTw fun y => { y with
    lost := true, hbRun := 0, replay := [], ackAt := none, rxAny := true, ackDue := false, fin := [], commands := [],
    resyncAt := none, resyncDue := false, copy := [] }

/-- A STANDBY whose partner's heartbeats are lost, and which sees the line owned, is ISOLATED_STANDBY and runs on its
own field inputs (R26, R327). DEDUCED: notes/assumptions/27.md. -/
def State.isolateStandby (s : State) : State :=
  if s.sys.role = .standby ∧ s.tw.lost ∧ s.rd TW_STATUS_LINE = 1 then
    ((s.putBit TW_STATUS_IN_STEP false).linkReset).setRole .isolatedStandby
  else s

/-- HEARTBEAT_LOSS: no heartbeat for 3 ms: HB_LOST, doorbell 32; a STANDBY that sees the line owned becomes
ISOLATED_STANDBY and runs on its own field inputs (R325, R327, R338). DEDUCED: notes/assumptions/27.md. -/
def execHeartbeatLoss (s : State) : Host.Outcome State Fault Refusal :=
  if s.bit TW_CTRL_ENABLE ∧ ¬ s.tw.lost ∧ s.tw.hbAt.getD s.sys.bootStart + msec 3 ≤ s.time then
    let s := ((s.putBit TW_STATUS_HB_OK false).putBit TW_STATUS_HB_LOST true).putBit TW_STATUS_RESYNC false
    let s := (s.handAbort.note 12 .heartbeatLost 2 [] 32).releaseReplies fun _ => true
    .next (if s.sys.role = .standby then
        (s.onTw fun y => { y with lost := true, hbRun := 0, replay := [], rxAny := true }).isolateStandby
      else s.linkReset)
  else .next s

/-- LINE_VALID: the line has been owned or free for 100 µs; the boot watchdog counts afresh. A module that drives the
line and reads it free has the fault of R318; a STANDBY that has lost its partner and reads it owned is isolated (R26).
-/
def execLineValid (owned : Bool) (s : State) : Host.Outcome State Fault Refusal :=
  if s.sys.mode = .off then .next s
  else
    let was := s.rd TW_STATUS_LINE
    let t := s.setLine (b2n owned) owned (!owned)
    let t := if 2 ≤ was then t.log 12 .lineValid 0 [b2n owned] else t
    let t := if t.mg.watchdogHeld then
        t.onMg fun y => { y with watchdogHeld := false, watchdog := y.watchdog.map fun _ => s.time } else t
    .next (if s.bit TW_STATUS_DRIVING ∧ ¬ owned then t.lineFault else t.isolateStandby)

/-- OWNERSHIP_LINE_OWNED: the line, not invalid until then, is sampled owned by the partner (R318): EXC_EN_N is released, and a module in UNDECIDED
takes the role STANDBY; one that has lost its partner is isolated (R26, R442). For a module that released the line, the
frames of the new owner begin after this one (R336). -/
def execOwnershipLineOwned (s : State) : Host.Outcome State Fault Refusal :=
  if s.isActive ∨ s.sys.mode = .off ∨ s.lineBad then .next s
  else
    let s := (((s.wr TW_STATUS_LINE 1).putBit TW_STATUS_OWN_H true).putBit TW_STATUS_OWN_L false).setExc false
    let s := s.onTw fun y => { y with endSeen := if y.endSeen.isNone then some (s.frameAt s.time) else y.endSeen }
    .next ((if s.sys.role = .undecided then s.setRole .standby else s).isolateStandby)

/-! ### OUT_OF_STEP (R327) -/

/-- A STANDBY falls out of step: it holds its computed outputs and waits for a resynchronization; its archive's period is interrupted
(R356). -/
def State.outOfStep (s : State) : State :=
  if s.bit TW_STATUS_IN_STEP then
    let s := ((s.putBit TW_STATUS_OUT_OF_STEP true).putBit TW_STATUS_IN_STEP false).note 12 .outOfStep 2 [] 34
    (s.caBreak.onTw fun y => { y with commands := [] }).onVq fun y => { y with forwarded := [] }
  else s

/-- FRAME_END_MISSING: the FRAME_END of the frame to run has not arrived 50 µs after the boundary. Frames are expected
while the partner owns the line, and after a handover from the new owner's first live frame on (R336). DEDUCED:
notes/assumptions/21.md. -/
def execFrameEndMissing (s : State) : Host.Outcome State Fault Refusal :=
  .next (if s.sys.role = .standby ∧ s.bit TW_STATUS_IN_STEP ∧ s.rd TW_STATUS_LINE = 1 ∧
      s.since s.sys.lastFrame (usec 50) ∧ (s.tw.endSeen.any fun k => decide (k < s.frame)) then s.outOfStep else s)

/-! ### Records taken from the link (R323, R326, R327) -/

/-- Pairs of 4-byte numbers. DESIGN CHOICE: notes/assumptions/22.md. -/
def pairs4 (p : List Byte) : List (Nat × Nat) := (upto (p.length / 8)).map fun i => (fieldLE p (8 * i) 4, fieldLE p (8 * i + 4) 4)

/-- Register copies put into a table of words. DESIGN CHOICE: notes/assumptions/22.md. -/
def putWords (t : Table Word) (l : List (Nat × Nat)) : Table Word :=
  l.foldl (fun t q => tinsert t q.1 (BitVec.ofNat 32 q.2)) t

/-- A forwarded telemetry packet (R205). -/
def telemOf (p : List Byte) : TRec :=
  { ctx := fieldLE p 0 2, frame := fieldLE p 8 8, words := (upto ((p.length - 16) / 8)).map fun i => fieldLE p (16 + 8 * i) 8 }

/-- An input that waits for its frame and tick, its kind in front of its bytes. -/
def State.holdInput (s : State) (frame tick kind : Nat) (p : List Byte) : State :=
  s.onTw fun y => { y with commands := y.commands ++ [(frame, tick, leBytes 1 kind ++ p)] }

/-- Bytes added to the input held last: a frame that goes on with its payload. -/
def appendLast (p : List Byte) : List (Nat × Nat × List Byte) → List (Nat × Nat × List Byte)
  | [] => []
  | [q] => [(q.1, q.2.1, q.2.2 ++ p)]
  | q :: l => q :: appendLast p l

/-- A forwarded input of type 0x02 to 0x06, held for its frame and tick: commands, posts and telemetry carry both, the
other inputs the tick (R327). DESIGN CHOICE: notes/assumptions/22.md. -/
def State.takeInput (s : State) (f : LinkFrame) : State :=
  let p := f.payload
  if 128 ≤ f.sub then s.onTw fun y => { y with commands := appendLast p y.commands }
  else match f.typ, f.sub with
  | 2, _ => s.onVq fun y => { y with forwarded := y.forwarded ++ [(fieldLE p 8 8, fieldLE p 4 4, telemOf p)] }
  | 3, 0 => s.holdInput f.frame (fieldLE p 2 2) 0x30 p
  | 3, _ => s.holdInput f.frame (fieldLE p 0 4) 0x31 p
  | 5, 0 => s.holdInput (fieldLE p 4 8) (fieldLE p 12 4) 0x50 p
  | 5, b => s.holdInput (fieldLE p 0 8) (fieldLE p 8 4) (0x50 + b) p
  | t, b => s.holdInput f.frame (fieldLE p 0 4) (16 * t + b) (p.drop 4)

/-- A frame of type 0x02 to 0x06 counted for FRAME_END. -/
def State.countInput (s : State) (f : LinkFrame) : State :=
  s.onTw fun y => { y with
    rxCounts := tset 0 y.rxCounts f.typ (tget 0 y.rxCounts f.typ + 1), rxCrc := crcFeed f.payload y.rxCrc }

/-- The counts and CRC of FRAME_END: 4 bytes per type, then the CRC. -/
def frameEndBytes (counts : Table Nat) (crc : Nat) : List Byte :=
  ((upto 5).flatMap fun i => leBytes 4 (tget 0 counts (i + 2))) ++ leBytes 4 (crc ^^^ 0xFFFFFFFF)

/-- FRAME_END received: its counts and CRC against the inputs held (R327). -/
def State.frameEnd (s : State) (f : LinkFrame) : State :=
  let ok := decide (f.payload = frameEndBytes s.tw.rxCounts s.tw.rxCrc)
  let lag := (s.time - s.sys.lastFrame.getD s.time) / 100
  let s := (s.wr TW_LAG (min lag 65535)).onTw fun y => { y with rxCounts := [], rxCrc := 0xFFFFFFFF }
  if ok then s.onTw fun y => { y with endSeen := some f.frame }
  else if s.sys.role = .standby then s.outOfStep else s

/-- OUTPUTS received: items by key; the first frame of a set begins it anew (R328). -/
def State.takeOutputs (s : State) (f : LinkFrame) : State :=
  s.onTw fun y => { y with
    outFrame := some f.frame,
    outputs := (pairs4 f.payload).foldl (fun t q => tinsert t q.1 q.2) (if f.sub = 0 then [] else y.outputs) }

/-- A journal record of the former or present owner (R339). -/
def journalOf (p : List Byte) (frame : Nat) : Journal :=
  { idx := fieldLE p 0 2, opcode := fieldLE p 2 2, tag := fieldLE p 4 4, total := fieldLE p 8 2, done := fieldLE p 10 2,
    step := fieldLE p 12 2,
    outcome := match fieldLE p 14 2 with
      | 0 => .running | 1 => .done | 2 => .failed | _ => .aborted,
    detail := fieldLE p 16 4, started := fieldLE p 20 8, changed := fieldLE p 28 8, frame := frame }

/-- A forwarded journal kept, in place of the earlier record of its index; the last 256 are kept. -/
def State.takeJournal (s : State) (f : LinkFrame) : State :=
  let j := journalOf f.payload f.frame
  s.onMb fun y => { y with former := (j :: y.former.filter fun x => x.idx != j.idx).take 256 }

/-! ### Resynchronization lines (R337) -/

/-- The registers that the copy covers: slot descriptors, tables and the RC map; the broker's context, group and rack
tables; credits; calibration; the states of the field channels. DEDUCED: notes/assumptions/23.md. -/
def copied (a : Nat) : Bool :=
  a == 0x4F000020 || a == 0x4F000024 || decide (0x41100000 ≤ a ∧ a < 0x41500000) || decide (0x42100000 ≤ a ∧ a < 0x42120000) ||
    decide (0x43001000 ≤ a ∧ a < 0x43001300) || decide (0x43100000 ≤ a ∧ a < 0x43140000) ||
    decide (0x44010100 ≤ a ∧ a < 0x44010180) || decide (0x44011400 ≤ a ∧ a < 0x440114C0) ||
    decide (0x44100100 ≤ a ∧ a < 0x44100300) || decide (0x44120100 ≤ a ∧ a < 0x44120300) ||
    decide (0x44131000 ≤ a ∧ a < 0x44131480) ||
    (decide (0x45000800 ≤ a ∧ a < 0x45004000) && decide (0x800 ≤ a % 0x1000)) || decide (0x45020000 ≤ a ∧ a < 0x45024000)

/-- The copied registers that differ from their reset values. DEDUCED: notes/assumptions/23.md. -/
def State.copyRegs (s : State) : Table Word := s.regs.filter fun q => copied q.1

/-- The configuration fields whose registers the copy does not cover, with their numbers of elements. DESIGN CHOICE:
notes/assumptions/22.md. DEDUCED: notes/assumptions/23.md. -/
def copyFields : List (Nat × Nat) :=
  [(0x0001, 1), (0x0002, 1), (0x0004, 1), (0x0010, 1), (0x0011, 1), (0x0012, 1), (0x0021, 1), (0x0030, 1), (0x0031, 1),
   (0x0042, 1), (0x0043, 1), (0x0045, 20), (0x0053, 16), (0x0060, 1), (0x0062, 1), (0x0063, 2), (0x0070, 1), (0x0073, 64),
   (0x0078, 48), (0x0079, 24), (0x007A, 48), (0x007B, 8), (0x007C, 8), (0x007D, 2), (0x0080, 4), (0x0081, 4), (0x0082, 4),
   (0x0083, 4), (0x0084, 128), (0x0086, 8), (0x0091, 1), (0x0092, 1), (0x00A0, 1), (0x00A1, 3)]

/-- The configuration entries of the copy: the fields that no register holds, and those of `copyFields`. -/
def State.cfgEntries (s : State) : List (Nat × Nat × Nat) :=
  (s.mb.cfg.map fun q => (q.1 / 65536, q.1 % 65536, q.2)) ++
    copyFields.flatMap fun q => (upto q.2).map fun i => (q.1, i, s.cfgGet q.1 i)

/-- The lines that bring a table of words from `old` to `new`: a word no longer listed returns to its reset value. -/
def wordDiff (old new : Table Word) : List (Nat × Nat) :=
  (new.filterMap fun q => if tfind old q.1 = some q.2 then none else some (q.1, q.2.toNat)) ++
    old.filterMap fun q => if (tfind new q.1).isNone then some (q.1, (resetWord q.1).toNat) else none

/-- Register lines as a RESYNC payload. -/
def lineBytes (l : List (Nat × Nat)) : List Byte := l.flatMap fun q => leBytes 4 q.1 ++ leBytes 4 q.2

/-- The copier's lines beside the registers (R337): the slots' records, the parameters in force, the tables' validity, the
wait list; the broker's contexts, group ceilings and row budget; calibration; the solenoid channels, pumps and fans. -/
def State.copyNow (s : State) : List CopyLine :=
  s.le.slots.map (fun q => CopyLine.slot q.1 q.2) ++ s.le.active.map (fun q => CopyLine.param q.1 q.2) ++
    s.le.tablesValid.map (fun q => CopyLine.table q.1 q.2) ++ [CopyLine.waiting s.le.waiting] ++
    s.pb.ctx.map (fun q => CopyLine.context q.1 q.2) ++ s.pb.grpCeil.map (fun q => CopyLine.group q.1 q.2) ++
    [CopyLine.row s.pb.rowBudget] ++ s.pf.cal.map (fun q => CopyLine.calibration q.1 q.2) ++
    s.sv.ch.map (fun q => CopyLine.valve q.1 q.2) ++ s.pf.ch.map (fun q => CopyLine.channel q.1 q.2)

/-- One of the copier's lines taken. -/
def State.takeLine_ (s : State) : CopyLine → State
  | .slot k x => s.setSlot k x
  | .param a w => s.onLe fun y => { y with active := tinsert y.active a w }
  | .table k b => s.onLe fun y => { y with tablesValid := tset false y.tablesValid k b }
  | .waiting l => s.onLe fun y => { y with waiting := l }
  | .context c x => s.setPbCtx c x
  | .group g x => s.onPb fun y => { y with grpCeil := tset {} y.grpCeil g x }
  | .row w => s.onPb fun y => { y with rowBudget := w }
  | .calibration r x => s.onPf fun y => { y with cal := tset {} y.cal r x }
  | .valve n x => s.setSvCh n x
  | .channel k x => s.onPf fun y => { y with ch := tset {} y.ch k x }

/-- A RESYNC frame at the standby: 0 start, 1 register lines, 2 configuration, 3 a journal, 4 the pool, 5 the end at
J, 6 the lines beside the registers. DEDUCED: notes/assumptions/23.md. -/
def State.takeResync (s : State) (f : LinkFrame) : State :=
  let p := f.payload
  match f.sub with
  | 0 =>
    let s := { s with regs := s.regs.filter fun q => !copied q.1 }
    let s := (s.onMb fun y => { y with cfg := [] }).onLe fun y => { y with slots := [], active := [], tablesValid := [], pool := [] }
    let s := ((s.onPb fun y => { y with ctx := [], grpCeil := [] }).onSv fun y => { y with ch := [] }).onPf fun y =>
      { y with cal := [], ch := [] }
    (s.putBit TW_STATUS_RESYNC true).onTw fun y => { y with resyncAt := none, commands := [] }
  | 1 => { s with regs := (pairs4 p).foldl (fun t q => regStore t q.1 (BitVec.ofNat 32 q.2)) s.regs }
  | 2 =>
    ((upto (p.length / 8)).foldl (fun (s : State) i =>
      s.cfgPut (fieldLE p (8 * i) 2) (fieldLE p (8 * i + 2) 2) (fieldLE p (8 * i + 4) 4)) s).pairUpdate
  | 3 =>
    let j := journalOf p f.frame
    s.onMb fun y => { y with journals := (j :: y.journals.filter fun x => x.idx != j.idx).take 256 }
  | 4 => s.onLe fun y => { y with pool := (pairs4 p).foldl (fun t q => tset 0 t q.1 (signedOf 32 q.2)) y.pool }
  | 6 => f.lines.foldl State.takeLine_ s
  | _ => s.onTw fun y => { y with resyncAt := some f.frame }

/-! ### Handover frames (R336) -/

/-- The conditions of R335 at the partner that is to take over. -/
def State.readyToTake (s : State) : Bool :=
  s.sys.role == .standby && s.bit TW_STATUS_IN_STEP && !s.bit TW_STATUS_RESYNC && s.tr.commit.isNone && s.mg.update.isNone &&
    (s.rd TW_PARTNER_STATE != ModState.predictive.code || s.bit TW_STATUS_TR_WARM)

/-- A HANDOVER frame: 1 PREPARE, 2 READY, 3 RELEASED, 4 CANCEL. -/
def State.takeHandover (s : State) (sub : Nat) : State :=
  match sub with
  | 1 => s.linkSend 11 (if s.readyToTake then 2 else 4) s.frame []
  | 2 => if s.tw.hand = .prepared then s.onTw fun y => { y with hand := .ready } else s
  | 3 => s.onTw fun y => { y with gapFrom := some s.time }
  | _ => s.handAbort

/-! ### Link frames (R321, R322) -/

/-- The distance from one link sequence number to another. -/
def seqDist (a b : Nat) : Nat := (b + 2 ^ 32 - a % 2 ^ 32) % 2 ^ 32

/-- Frames up to a sequence number are acknowledged, and the replies that waited for them go (R326). -/
def State.acked (s : State) (n : Nat) : State :=
  (s.onTw fun y => { y with
    replay := y.replay.filter fun f => !decide (seqDist f.seq n < 2 ^ 31), ackAt := some s.time }).releaseReplies fun h =>
      decide (seqDist h.seq n < 2 ^ 31)

/-- Every unacknowledged frame is sent again, and counted. -/
def State.resend (s : State) : State :=
  (s.addSat TW_RETRANS s.tw.replay.length).onTw fun y => { y with ackAt := some s.time }

/-- A NAK for the number expected. -/
def State.sendNak (s : State) : State := s.onTw fun y => { y with lastCtl := some (13, y.rxSeq) }

/-- The STANDBY, in either form, takes inputs. -/
def State.takes (s : State) : Bool := s.sys.role == .standby || s.sys.role == .isolatedStandby

/-- A frame that has arrived in order is passed on. -/
def State.passOn (s : State) (f : LinkFrame) : State :=
  if f.typ = 1 then s.heartbeat f.payload
  else if f.typ = 11 then s.takeHandover f.sub
  else if ¬ s.takes then s
  else if 2 ≤ f.typ ∧ f.typ ≤ 6 then
    let s := s.countInput f
    if s.bit TW_STATUS_IN_STEP ∨ s.bit TW_STATUS_RESYNC then s.takeInput f else s
  else
    match f.typ with
    | 7 => s.frameEnd f
    | 8 => s.takeOutputs f
    | 9 => s.takeJournal f
    | 10 => s.takeResync f
    | _ => s

/-- TWIN_LINK_FRAME_RECEIVE: a frame is checked, acknowledged or NAKed, and passed on in order. -/
def execTwinLinkFrameReceive (f : LinkFrame) (s : State) : Host.Outcome State Fault Refusal :=
  if ¬ s.bit TW_CTRL_ENABLE then .next s
  else if f.crc ≠ linkCrc f ∨ 4096 < f.payload.length then .next (s.incSat TW_CRCERR).sendNak
  else if f.typ = 12 then .next (s.acked (fieldLE f.payload 0 4))
  else if f.typ = 13 then .next (s.acked (fieldLE f.payload 0 4 + 2 ^ 32 - 1)).resend
  else
    let s := if s.tw.rxAny then s.onTw fun y => { y with rxAny := false, rxSeq := f.seq } else s
    if f.seq = s.tw.rxSeq then
      .next ((s.onTw fun y => { y with rxSeq := (y.rxSeq + 1) % 2 ^ 32, ackDue := true }).passOn f)
    else if seqDist s.tw.rxSeq f.seq < 2 ^ 31 then .next s.sendNak
    else .next (s.onTw fun y => { y with ackDue := true })

/-- LINK_ACK_SEND: the highest sequence number received in order is acknowledged. -/
def execLinkAckSend (s : State) : Host.Outcome State Fault Refusal :=
  .next (if s.tw.ackDue then s.onTw fun y => { y with
      ackDue := false, lastCtl := some (12, (y.rxSeq + 2 ^ 32 - 1) % 2 ^ 32) }
    else s)

/-- LINK_REPLAY_TIMEOUT: 100 µs without an ACK; a reply that has waited for its ACK for 1 ms goes (R326). -/
def execLinkReplayTimeout (z : State) : Host.Outcome State Fault Refusal :=
  let s := z.replyTimeouts
  .next (if s.tw.replay ≠ [] ∧ s.since s.tw.ackAt (usec 100) then s.resend else s)

/-- The lanes a link can run on: all four, or a whole pair (R321). -/
def lanesUsed (up : Nat) : Nat := if up = 15 then 15 else if up % 4 = 3 then 3 else if up / 4 = 3 then 12 else 0

/-- The link has trained on some lanes, or is down. -/
def State.setLanes (s : State) (up : Nat) : State :=
  let n := lanesUsed up
  let s := s.wr TW_STATUS_LANES n
  if n = 0 then s.log 12 .linkDown 2 []
  else if n = 15 then s else (s.putBit TW_STATUS_LINK_DEGRADED true).log 12 .linkDegraded 1 [n]

/-- LINK_LANE_FAIL: a lane fails and the link retrains on the pair that remains whole; with neither it is down. -/
def execLinkLaneFail (lane : Fin 4) (s : State) : Host.Outcome State Fault Refusal :=
  let up := s.rd TW_STATUS_LANES
  .next (if s.bit TW_CTRL_ENABLE ∧ bitOf up lane.val then s.setLanes (up - 2 ^ lane.val) else s)

/-- LINK_RETRAIN_DONE: training ends with the lanes given. -/
def execLinkRetrainDone (lanes : BitVec 4) (s : State) : Host.Outcome State Fault Refusal :=
  .next (if s.bit TW_CTRL_ENABLE then s.setLanes lanes.toNat else s)

end Sys2Proof.Machine
end

