-- ==== Sys2Proof/Machine/InStep.lean ====
section
/-! DEFINITION. In-step execution on the STANDBY (spec 13, R326 to R329): the forwarded inputs applied at their frame and
tick, the OUTPUTS of a frame, the cross-checks. -/

namespace Sys2Proof.Machine

/-! ### Forwarded commands (R327, R339) -/

/-- The commands that change state, by opcode. -/
def forwardedCmds : List Cmd :=
  [cmdSetMode, cmdConfigWrite, cmdContextAdd, cmdContextRemove, cmdSetBudget, cmdSetLease, cmdModelLoadChunk, cmdCommitModel,
   cmdRevertModel, cmdLoopSet, cmdInjectStart, cmdBobbinArm, cmdValveSequence, cmdPumpSet, cmdTableWrite, cmdUpdateBegin,
   cmdUpdateChunk, cmdUpdateEnd, cmdCalibrationControl]

/-- The opcodes that open a journal. -/
def journalOps : List Nat := [0xC030, 0xC041, 0xC042, 0xC060, 0xC070, 0xC080]

/-- A forwarded command run under the journal index of the ACTIVE module; of a Modbus grant and of a handover the STANDBY
takes the tag alone (R370, R385). DEDUCED: notes/assumptions/21.md. -/
def State.runForwarded (s : State) (f : List Byte) : State :=
  let op := fieldLE f 0 2
  let j := fieldLE f 2 2
  let p := f.drop 16
  let s := if journalOps.contains op then s.onMb fun y => { y with nextJournal := j } else s
  let h := s.ksHeader .ok (tagOf p) 0 j
  if op = 0xC070 then (s.addSnap (fieldLE p 8 8) (tagOf p)).keepTag (tagOf p) h []
  else if op = 0xC002 ∧ fieldLE p 8 1 = 0xFF then (s.scheduleReset (fieldLE p 12 8)).keepTag (tagOf p) h []
  else if op = 0xFF00 then s.consoleOut (fieldLE p 0 2) (fieldLE p 2 2) (fieldLE p 4 2)
  else if op = 0xC0A0 ∨ op = 0xC0B1 then s.keepTag (tagOf p) h []
  else
    match forwardedCmds.find? fun c => c.op == op with
    | some c =>
      let r := c.body s p
      if r.code.accepted then
        State.accept c (tagOf p) p r (s.ksHeader r.code (tagOf p) (clampCount r.clamps) r.journal)
      else s
    | none => s

/-- A forwarded budget post: the change alone, beside the values staged at this module (R181). -/
def State.runPost (s : State) (p : List Byte) : State :=
  let staged := (pairs4 (p.drop 16)).foldl (fun t q => tinsert t q.1 q.2) ([] : Table Nat)
  let cs := (s.onPb fun y => { y with post := staged }).postChanges
  s.onPb fun y => { y with changes := y.changes ++ cs, postDue := some (fieldLE p 12 4), postTc := s.changesTc cs }

/-- Forwarded Modbus entries (R412). -/
def State.runEntries (s : State) (p : List Byte) : State :=
  (upto (p.length / 8)).foldl (fun (s : State) i =>
    let e := (fieldLE p (8 * i) 2, fieldLE p (8 * i + 2) 2, fieldLE p (8 * i + 4) 4)
    if e.1 = 0x2000 then s.mbBudget e.2.2 else s.mbStage [e]) s

/-- A forwarded write completion, with success or an error status (R166, R179). -/
def State.runCompletion (s : State) (p : List Byte) : State :=
  let c := fieldLE p 0 2
  let code := fieldLE p 2 2
  if bitOf code 1 then
    let x := s.pbCtx c
    let s := (s.setPbCtx c { x with errors := x.errors + 1 }).incSat (PB_ERRORS c)
    if bitOf code 2 then s.unreachable c (bitOf code 0) else s
  else if bitOf code 0 then s.dropCtx c
  else
    let e := fieldLE p 8 8
    let s := s.setPbCtx c { s.pbCtx c with everSent := true, leaseEnd := some (fieldLE p 16 8), lastEpoch := e }
    let s := (s.putBit (PB_STATUS_UNREACHABLE c) false).putBit (PB_STATUS_LEASE_LAPSED c) false
    (s.wr (PB_CAP_CAP_SENT c) (fieldLE p 4 4)).wr64 (PB_APPLIED_EPOCH_LO c) (max e (s.rd64 (PB_APPLIED_EPOCH_LO c)))

/-- A CAN frame from its two header words and its data (R276). -/
def canOf (w0 w1 : Nat) (data : List Byte) : CanFrame :=
  let fd := bitOf w1 27
  { id := if bitOf w0 31 then w0 % 2 ^ 29 else w0 % 2 ^ 11, xtd := bitOf w0 31, rtr := bitOf w0 30 && !fd, fdf := fd,
    brs := bitOf w1 26, esi := bitOf w1 25, dlc := w1 / 2 ^ 28 % 16, data := data }

/-- A basic cycle as the ACTIVE module ran it, its reference completed at a SOF or missed; the supervision interval before it
ends (R288, R292). -/
def State.runCycle (s : State) (p : List Byte) (ok : Bool) : State :=
  let n := fieldLE p 0 4 % 4
  let q := fieldLE p 4 8
  let s := s.endInterval n
  let x := s.fbCh n
  if ok then
    s.setFbCh n { x with
      cycle := some q, base := fieldLE p 12 8, refOk := true, refSofs := tinsert x.refSofs (q % 64) (fieldLE p 12 8) }
  else s.setFbCh n { x with cycle := some q, refOk := false }

/-- A rope as the ACTIVE module's samples show it: its word of stream 5, a confirmation acted on (R248). -/
def State.takeRope (s : State) (n w : Nat) : State :=
  let part (f : RF) : Nat := bitsOf w f.hi f.lo
  let was := s.rd (lkState n)
  let st := part (lkState n)
  let s := s.wr (lkCount n) (part (lkCount n))
  if st = 2 then if was = 2 then s else s.confirmLeak n (part (lkLoc n))
  else ((if was = 2 then s.setTmInput (16 + n) false else s).wr (lkState n) st).wr (lkLoc n) (part (lkLoc n))

/-- A point as the ACTIVE module's samples show it: wet samples counted to the confirmation, which the other codes end
(R206, R247, R248). DEDUCED: notes/assumptions/21.md. -/
def State.takePoint (s : State) (j code : Nat) : State :=
  let k := 16 + j
  if code = 1 then s.wetSample k (s.rd (lkLoc k))
  else
    let s := if s.rd (lkState k) = 2 then s.setTmInput (16 + k) false else s
    (s.wr (lkCount k) 0).wr (lkState k) (match code with
      | 0 => 0
      | 2 => 3
      | _ => 4)

/-- The forwarded leak packet: a STANDBY confirms on it and computes the same actions (R248). -/
def State.takeLeaks (s : State) (words : List Nat) : State :=
  let s := (upto 16).foldl (fun s n => s.takeRope n (words.getD n 0)) s
  (upto 16).foldl (fun s j => s.takePoint j (words.getD 16 0 / 4 ^ j % 4)) s

/-- A forwarded sample packet put into the queues routed to its stream; stream 5 is the leak channels (R248, R327). -/
def State.runSamples (s : State) (p : List Byte) : State :=
  let stream := fieldLE p 0 2
  let words := (upto ((p.length - 8) / 4)).map fun i => fieldLE p (8 + 4 * i) 4
  let s := (s.routed stream).foldl (fun s q => s.samplePacketAt q stream (fieldLE p 4 4) words) s
  if stream = 5 then s.takeLeaks words else s

/-- The forwarded field inputs of a tick: the register copies, and the coolant stop as its trip-matrix input rises (R24,
R225, R327). -/
def State.runField (s : State) (p : List Byte) : State :=
  let was := bitOf (s.fin (TM_IN 0)) 0
  let s := s.onTw fun y => { y with fin := putWords y.fin (pairs4 (p.drop 4)) }
  if s.sys.role = .standby ∧ bitOf (s.fin (TM_IN 0)) 0 ∧ ¬ was then s.stopNow else s

/-- A frame's solenoid channel records and run hours as the ACTIVE module forwards them (R269, R323). -/
def State.runRecords (s : State) (p : List Byte) : State :=
  let l := putWords [] (pairs4 p)
  (upto 4).foldl (fun s n =>
    match tfind l (PF_PHOURS n).addr with
    | some w => s.wr (PF_PHOURS n) w.toNat
    | none => s) (s.svForwarded l)

/-- One input applied. -/
def State.runInput (s : State) (l : List Byte) : State :=
  let p := l.drop 1
  match fieldLE l 0 1 with
  | 0x30 => s.runSamples p
  | 0x31 => s.runField p
  | 0x50 => s.runForwarded p
  | 0x51 => s.runPost p
  | 0x52 => s.onSys fun y => { y with silenceStart := s.time, hostSilent := false }
  | 0x53 => s.runEntries (p.drop 12)
  | 0x40 => s.rxFrame (fieldLE p 0 4 % 4) (canOf (fieldLE p 4 4) (fieldLE p 8 4) (p.drop 20)) (fieldLE p 12 8)
  | 0x41 =>
    let r := FB_MBSTAT (fieldLE p 0 4 % 4) (fieldLE p 4 4 % 64)
    s.wr r (withBits (fieldLE p 8 4) 28 28 (bitsOf (s.rd r) 28 28))
  | 0x42 => s.runCycle p true
  | 0x43 =>
    let n := fieldLE p 0 4 % 4
    if fieldLE p 4 4 = 1 then s.setFbCh n { s.fbCh n with fw := (s.fbCh n).fw.drop 1 } else s
  | 0x44 => s.runCycle p false
  | 0x60 => s.runCompletion p
  | 0x61 => s.wr64 (PB_CONFIRMED_EPOCH_LO (fieldLE p 0 2)) (fieldLE p 4 8)
  | 0x63 => s.runRecords p
  | 0x62 => { s with regs := (pairs4 p).foldl (fun t q => regStore t q.1 (BitVec.ofNat 32 q.2)) s.regs }
  | _ => s

/-- The inputs due by a frame and tick, applied in the order in which the ACTIVE module applied them. -/
def State.runHeld (s : State) (frame tick : Nat) : State :=
  let due (q : Nat × Nat × List Byte) : Bool := decide (q.1 < frame) || (q.1 == frame && decide (q.2.1 ≤ tick))
  let l := s.tw.commands.filter due
  l.foldl (fun s q => s.runInput q.2.2) (s.onTw fun y => { y with commands := y.commands.filter fun q => !due q })

/-- A forwarded packet charged and committed as the ACTIVE module did, its notice posted, where its queue accepts packets
(R188, R200, R205, R206). -/
def State.commitOne (s : State) (r : TRec) : State :=
  if ¬ s.bit VQ_CTRL_IQ_EN ∨ ¬ s.bit (VQ_IQ_CTRL_ENABLE (r.ctx / 64)) then s
  else (s.wr (VQ_CR_USED_CUM r.ctx) (s.rd (VQ_CR_USED_CUM r.ctx) + r.lines.length)).commitLines r false

/-- The forwarded packets due by a frame and tick, committed to the filling banks (R205, R327). -/
def State.commitForwarded (s : State) (frame tick : Nat) : State :=
  let due (q : Nat × Nat × TRec) : Bool := decide (q.1 < frame) || (q.1 == frame && decide (q.2.1 ≤ tick))
  let l := s.vq.forwarded.filter due
  let s := s.onVq fun y => { y with forwarded := y.forwarded.filter fun q => !due q }
  l.foldl (fun s q => s.commitOne q.2.2) s

/-- Everything forwarded that is due by a frame and tick (R327). -/
def State.runDue (s : State) (frame tick : Nat) : State := (s.commitForwarded frame tick).runHeld frame tick

/-! ### OUTPUTS (R323, R328) -/

/-- The key of an item: its kind and its index. DESIGN CHOICE: notes/assumptions/22.md. -/
def itemKey (kind i : Nat) : Nat := kind * 2 ^ 24 + i

/-- A latched row with an action reaches the outputs (R428, R431). -/
def State.tripRows (s : State) (action : Nat) : Bool :=
  s.bit TM_CTRL_OUT_EN && (upto 128).any fun r => s.tmLatched r && s.rd (TM_ROW_ACTION r) == action

/-- The analog outputs that latched DRIVE_FULL rows drive, as a mask (R428). -/
def State.tripDrives (s : State) : Nat :=
  if s.bit TM_CTRL_OUT_EN then
    (upto 128).foldl (fun m r =>
      if s.tmLatched r ∧ s.rd (TM_ROW_ACTION r) = 3 then m ||| 2 ^ (s.rd (TM_ROW_ARG r) % 32) else m) 0
  else 0

/-- The discrete items: module state, effective law modes, channel states, the trip matrix's outputs (BRAKE, CLOSE with
TRIP_HELD, DRIVE_FULL, SHED, SURVIVAL). DESIGN CHOICE:
notes/assumptions/22.md. -/
def State.stateItems (s : State) : List (Nat × Nat) :=
  let one (i v : Nat) : List (Nat × Nat) := [(itemKey 4 i, v)]
  one 0 s.sys.mode.code ++ ((upto 12).flatMap fun k => one (1 + k) (s.rd (pfState k))) ++
    ((upto 36).flatMap fun n => one (13 + n) (s.svSt n)) ++ ((upto 32).flatMap fun k => one (49 + k) (s.leakState k)) ++
    one 81 s.tripMask ++ ((upto 36).flatMap fun n => one (82 + n) (s.rd (SV_CHCMD_CLOSE n) + 2 * s.rd (SV_CHSTAT_TRIP_HELD n))) ++
    one 118 s.tripDrives ++ one 119 (b2n (s.tripRows 4)) ++ one 120 (b2n (s.tripRows 5)) ++
    (((upto 512).map (· + 4096)).filter fun k => s.rd (SL_CTRL_MODE k) != 0).flatMap (fun k => one (512 + k) (s.effMode k)) ++
    if ctxReleased s.sys.mode s.sys.prior then s.admitted.flatMap fun c => one (512 + c) (s.effMode c) else []

/-- Plant outputs. DESIGN CHOICE: notes/assumptions/22.md. -/
def State.plantItems (s : State) : List (Nat × Nat) :=
  ((((upto 512).filter fun i => s.rd (SL_CTRL_MODE (4096 + i)) != 0).map fun i => (itemKey 3 i, s.rd (SL_OUT0 (4096 + i)))) ++
    ((upto 12).map fun k => (itemKey 3 (512 + k), s.rd (pfSpeed k)))) ++
    (upto 20).map fun n => (itemKey 3 (524 + n), s.rd (AO_VAL n))

/-- Every item of the frame that ends, by key. -/
def State.outItems (s : State) : List (Nat × Nat) :=
  let preds := s.admitted.flatMap fun c =>
    match tget none s.le.preds c with
    | some r => (upto 3).map fun i => (itemKey 0 (4 * c + i), (r.lanes.getD i 0).toNat)
    | none => []
  let loops := if ctxReleased s.sys.mode s.sys.prior then
      s.admitted.flatMap fun c => [(itemKey 1 (2 * c), s.rd (SL_OUT0 c)), (itemKey 1 (2 * c + 1), s.rd (SL_OUT1 c))]
    else []
  let caps := s.admitted.map fun c => (itemKey 2 c, s.rd (PB_CAP_CAP_SENT c))
  preds ++ loops ++ caps ++ s.plantItems ++ s.stateItems ++
    s.mb.journals.map fun j => (itemKey 5 j.idx, 4 * j.done + j.outcome.code)

/-- A list of pairs in frames of at most 512. -/
def State.sendPairs (s : State) (typ sub frame : Nat) : Nat → List (Nat × Nat) → State
  | 0, _ => s
  | n + 1, l =>
    if l.isEmpty ∧ sub ≠ 0 then s
    else (s.linkSend typ sub frame (lineBytes (l.take 512))).sendPairs typ 1 frame n (l.drop 512)

/-- FRAME_END and OUTPUTS of the frame that ends (R327, R328). -/
def State.sendFrameEnd (s : State) (frame : Nat) : State :=
  if s.forwards then
    let s := (s.linkSend 7 0 frame (frameEndBytes s.tw.counts s.tw.crc)).onTw fun y => { y with counts := [], crc := 0xFFFFFFFF }
    let l := s.outItems
    s.sendPairs 8 0 frame (l.length / 512 + 1) l
  else s.onTw fun y => { y with counts := [], crc := 0xFFFFFFFF }

/-! ### Cross-checks (R328, R329) -/

/-- The absolute difference of two binary32 values lies outside a band. -/
def outsideBand (a b : Nat) (band : F32) : Bool :=
  flt band (fabs (fsub (BitVec.ofNat 32 a) (BitVec.ofNat 32 b)))

/-- TW_BAND_LOOP per cent of a range, 0.1 to 10 (R340). -/
def State.bandOf (s : State) (range : F32) : F32 :=
  fdiv (fmul (fclamp 0x3DCCCCCD 0x41200000 (s.rdf TW_BAND_LOOP)) range) (f32OfInt 100)

/-- Trellis results are compared: both modules warm, the same image (R328, R329). -/
def State.predCompared (s : State) : Bool :=
  s.bit TW_STATUS_TR_WARM && s.bit TW_PARTNER_TR_WARM && !s.bit TW_XCHK_MODEL

/-- An item of the active module, `b`, and the standby's own, `a`, disagree. -/
def State.itemBad (s : State) (key : Nat) (a : Option Nat) (b : Nat) : Bool :=
  let i := key % 2 ^ 24
  let int (n : Nat) : Nat := (f32OfInt n).toNat
  match key / 2 ^ 24, a with
  | 0, some x => s.predCompared && outsideBand x b (((s.tr.image.map (·.bands)).getD []).getD (i % 4) 0)
  | 1, some x =>
    let k := i / 2
    let range := if i % 2 = 0 then fsub (s.actF (SL_UMAX k)) (s.actF (SL_UMIN k)) else fsub (s.actF (SL_UMAX1 k)) (s.actF (SL_UMIN1 k))
    outsideBand x b (s.bandOf range)
  | 2, some x => outsideBand (int x) (int b) (s.bandOf (f32OfInt (s.rd (PB_BUDGET_BUDGET i))))
  | 3, some x => if i < 512 then outsideBand x b (s.bandOf (f32OfInt 100)) else outsideBand (int x) (int b) (s.bandOf (f32OfInt 10000))
  | 4, some x | 5, some x => x != b
  | 4, none | 5, none => true
  | _, _ => false

/-- The bit of TW_XCHK of an item kind. -/
def xchkField (kind : Nat) : RF := ⟨TW_XCHK.addr, kind, kind⟩

/-- The context, slot or channel of an item (R340). -/
def itemIndex (kind i : Nat) : Nat :=
  match kind with
  | 0 => i / 4
  | 1 => i / 2
  | 3 => if i < 512 then 4096 + i else if i < 516 then i - 512 else if i < 524 then i - 516 else i - 524
  | 4 =>
    if i = 0 then 0 else if i < 5 then i - 1 else if i < 13 then i - 5 else if i < 49 then i - 13
    else if i < 81 then (i - 49) % 16 else if i < 82 then 0 else if i < 118 then i - 82 else if i < 512 then 0 else i - 512
  | _ => i

/-- An item has been outside its band long enough (R329). -/
def State.xchkFire (s : State) (key : Nat) : State :=
  let kind := key / 2 ^ 24
  let i := itemIndex kind (key % 2 ^ 24)
  let first := bitsOf (s.word TW_XCHK.addr) 5 0 == 0
  let s := s.wr (xchkField kind) 1
  let s := if first then (s.wr TW_XCHK_FIRST_ITEM kind).wr TW_XCHK_FIRST_IDX i else s
  (s.incSat TW_MISMATCH_COUNT).note 12 .crossCheck 1 [kind, i] 34

/-- The comparison of a frame: items that agree start again at 0; a discrete item that has differed for 100 frames in a
row takes the standby out of step to be resynchronized. -/
def State.crossCheck (s : State) (own : List (Nat × Nat)) : State :=
  let t := own.foldl (fun t q => tinsert t q.1 q.2) ([] : Table Nat)
  let bad := s.tw.outputs.filter fun q => s.itemBad q.1 (tfind t q.1) q.2
  let counts : Table Nat := bad.map fun q => (q.1, tget 0 s.tw.outside q.1 + 1)
  let consec := max 1 (s.rd TW_XCHK_CONSEC)
  let worst := (counts.filter fun q => decide (itemKey 4 0 ≤ q.1)).foldl (fun m q => max m q.2) 0
  let s := s.onTw fun y => { y with outside := counts, discrete := worst }
  let s := (counts.filter fun q => q.2 == consec).foldl (fun s q => s.xchkFire q.1) s
  if 100 ≤ worst then
    (s.putBit TW_STATUS_IN_STEP false).onTw fun y => { y with outside := [], discrete := 0, commands := [] }
  else s

end Sys2Proof.Machine
end

