-- ==== Sys2Proof/Machine/Handover.lean ====
section
/-! DEFINITION. Claiming and giving up control, handover on request, and resynchronization (spec 13, R319, R320, R330 to
R337). -/

namespace Sys2Proof.Machine

/-! ### The work of a frame (R15) -/

/-- The contexts added before the boundary are admitted; Trellis initializes their rows (R71). -/
def State.admitNew (s : State) : State :=
  let due := s.ctxs.filter fun c => (s.pbCtx c).admitDue
  s.admitDue.onTr fun y => { y with freshRows := y.freshRows ++ due }

/-- The ingest queues swap while VQ_CTRL.IQ_EN is set (R206). DEDUCED: notes/assumptions/49.md. -/
def State.ingestIf (s : State) : State := if s.bit VQ_CTRL_IQ_EN then s.ingestSwap else s

/-- STALE of the node values that have been stored (R294). -/
def State.nvMarks (s : State) : State := s.fb.nvAt.foldl (fun s q => s.putBit (NV_CFG_STALE q.1) (s.nvStale q.1)) s

/-- TR_WARM: 8 good frames since the warm-up, and the dies not idle (R337, R450). A module that took over from a
PREDICTIVE owner before that asks for PREDICTIVE now (R332). DEDUCED: notes/assumptions/83.md. -/
def State.warmCheck (s : State) : State :=
  let warm := decide (8 ≤ s.tr.warmGood) && !s.sn.derated
  let s := s.putBit TW_STATUS_TR_WARM warm
  if s.tw.warmResume ∧ warm then
    (s.onTw fun y => { y with warmResume := false }).onSys fun y => { y with
      modeReq := if s.sys.mode = .reactive then some .predictive else y.modeReq }
  else s

/-- The frame that opens gets its number. -/
def State.openFrame (s : State) (n : Nat) : State :=
  (s.wr64 LE_FRAME_NUM_LO n).onSys fun y => { y with lastFrame := some s.time }

/-- The work of a frame that this module runs, at its boundary: the mode and the configuration first, then admission,
Trellis, the broker, the queues, the cellar, the releases of the context samples, the field die's per-frame work.
DESIGN CHOICE: notes/assumptions/14.md. -/
def State.frameWork (s : State) : State :=
  let s := s.warmCheck.applyRequest.applyStaged.admitNew
  let s := s.trFrame.trRotBoundary
  let s := s.pbBoundary.budgetJobs
  let s := s.ingestIf.caFrame
  s.releaseCtxs.pfFrame.nvMarks

/-! ### CLAIM (R319, R332 to R334) -/

/-- A slot's or target's output taken from an item of OUTPUTS: context chains, plant slots (R332, step 2). -/
def State.presetItem (s : State) (q : Nat × Nat) : State :=
  let i := q.1 % 2 ^ 24
  let u : F32 := BitVec.ofNat 32 q.2
  if q.1 / 2 ^ 24 = 1 ∧ i % 2 = 0 then
    (s.wrf (SL_OUT0 (i / 2)) u).setSlot (i / 2) { s.slot (i / 2) with out := u, has0 := true, handDue := true }
  else if q.1 / 2 ^ 24 = 1 then
    (s.wrf (SL_OUT1 (i / 2)) u).setSlot (i / 2) { s.slot (i / 2) with has1 := true, handDue := true }
  else if q.1 / 2 ^ 24 = 3 ∧ i < 512 then
    (s.wrf (SL_OUT0 (4096 + i)) u).setSlot (4096 + i) { s.slot (4096 + i) with out := u, has0 := true, handDue := true }
  else s

/-- A part of the work done as of a time other than the present. -/
def State.atTime (s : State) (t : Nat) (f : State → State) : State := { f { s with time := t } with time := s.time }

/-- The ticks `tick` to `tick + n − 1` of a frame run at once, as of their own times. -/
def State.finishTicks (s : State) (frame start n tick : Nat) : State :=
  (upto n).foldl (fun s k => s.atTime (start + 5000 * (tick + k)) fun s => (s.runDue frame (tick + k)).leTick.pfTick) s

/-- The frames from `frame` on, opened at `start`, run whole (R332, step 1). -/
def State.finishWhole (s : State) (n frame start : Nat) : State :=
  (upto n).foldl (fun s k =>
    let at_ := start + k * s.frameCounts
    let s := s.atTime at_ fun s => ((s.openFrame (frame + k)).runDue (frame + k) 0).frameWork
    s.finishTicks (frame + k) at_ (s.frameCounts / 5000 - 1) 1) s

/-- Every frame for which FRAME_END is held is completed, its inputs, ticks and per-frame work, and later inputs are
dropped (R332, step 1). DEDUCED: notes/assumptions/25.md. -/
def State.finishFrames (s : State) : State :=
  let t := match s.tw.endSeen with
    | some k =>
      let start := s.sys.lastFrame.getD s.time
      let s := if s.tw.running ∧ s.frame ≤ k then
          (s.finishTicks s.frame start (s.frameCounts / 5000 - 1 - s.tickNow) (s.tickNow + 1)).runDue s.frame 4294967295
        else s
      s.finishWhole (min (k - s.frame) 4) (s.frame + 1) (start + s.frameCounts)
    | none => s
  (t.onTw fun y => { y with commands := [] }).onVq fun y => { y with forwarded := [] }

/-- TW_GRACE frames, 10 to 200 (R334). -/
def State.graceFrames (s : State) : Nat := clampNat 10 200 (s.rd TW_GRACE)

/-- A claim from STANDBY in step (R332, R334). DEDUCED: notes/assumptions/25.md. -/
def State.claimInStep (s : State) : State :=
  let s := s.finishFrames
  let s := s.tw.outputs.foldl State.presetItem s
  let s := (s.onTw fun y => { y with graceEnd := s.frameAt s.time + 1 + s.graceFrames }).onVq fun y => { y with silent := [] }
  let s := s.putBit TW_STATUS_IN_STEP false
  if s.sys.mode = .predictive ∧ ¬ s.bit TW_STATUS_TR_WARM then
    (s.setState .reactive).onTw fun y => { y with warmResume := true }
  else s

/-- The plant slots that drive a target. -/
def State.targetSlots (s : State) (target : Nat) : List Nat :=
  ((upto 512).map (· + 4096)).filter fun k => s.rd (SL_OUT_TARGET_TGT k) == target

/-- An output's present value, in hundredths of a percent, with the plant slots that drive it preset to it (R333). -/
def State.presetTarget (s : State) (f : RF) (target v : Nat) : State :=
  let u := fdiv (f32OfInt v) (f32OfInt 100)
  (s.targetSlots target).foldl (fun s k =>
    (s.wrf (SL_OUT0 k) u).setSlot k { s.slot k with out := u, has0 := true, handDue := true }) (s.wr f v)

/-- An analog output's value as AO_READ gives it: µA of 4 to 20 mA, or mV of 10 V, over the full scale of 10,000
(R333). DEDUCED: notes/assumptions/25.md. -/
def State.aoHeld (s : State) (n : Nat) : Nat :=
  let r := s.rd (AO_READ n)
  min 10000 (if s.rd (AO_CFG_MODE n) = 1 then r else (r - 4000) * 10 / 16)

/-- A pump's or fan's speed as its tach gives it. A CAN drive reports its velocity; the output that another channel's tach
reading in rpm stands for is not stated, and is a free value of that reading (R333). DESIGN CHOICE: notes/assumptions/6.md. DEDUCED:
notes/assumptions/25.md. -/
def State.speedHeld (s : State) (k : Nat) : State :=
  let target := if k < 4 then 0x1000 + k else 0x2000 + (k - 4)
  match (if k < 4 ∧ s.rd (PF_PCFG_IF k) = 2 then tfind s.fb.drives k else none) with
  | some d => s.presetTarget (pfSpeed k) target (min 10000 (d.velocity.natAbs * 10000 / max 1 d.maxSpeed))
  | none =>
    let rpm := if k < 4 then s.rd (PF_PTACH k) else s.rd (PF_FTACH (k - 4))
    s.presetTarget (pfSpeed k) target (min 10000 (Config.tachOutput k rpm).toNat)

/-- A claim from ISOLATED_STANDBY or out of step: TABLE, with the outputs that the backplane holds, no grace, and
CTX_SILENT counted anew in REACTIVE (R333, R334). DEDUCED: notes/assumptions/25.md. -/
def State.claimTable (s : State) : State :=
  let s := (upto 20).foldl (fun (s : State) n => s.presetTarget (AO_VAL n) (0x3000 + n) (s.aoHeld n)) s
  let s := (upto 12).foldl State.speedHeld s
  let s := (s.onVq fun y => { y with silent := [], forwarded := [] }).onTw fun y =>
    { y with commands := [], graceEnd := 0, silentRestart := true }
  s.enterTable

/-- A claim in BOOT: the values of R425 until TABLE. DEDUCED: notes/assumptions/25.md. -/
def State.claimBoot (s : State) : State :=
  let s := (upto 20).foldl (fun (s : State) n => s.wr (AO_VAL n) (s.rd (AO_CFG_SAFE n))) s
  let s := (upto 8).foldl (fun (s : State) k => if s.bit (PF_FCFG_ENABLE k) then s.wr (PF_FSPEED k) 10000 else s) s
  (s.onMg fun y => { y with relays := withBits y.relays 3 3 1 }).onTw fun y => { y with graceEnd := 0 }

/-- The output gap in µs, with the closing allowance of 1,000 µs (R340 TW_LAST_GAP). DEDUCED:
notes/assumptions/25.md. -/
def State.outputGap (s : State) (freeFor : Nat) : Nat :=
  min 65535 ((s.time - s.tw.gapFrom.getD (s.time - usec freeFor)) / 100 + 1000)

/-- A TARGET 1 update at the new owner: its staging is freed and its journal ABORTED where the image is not whole;
else it is this module's own, and its reset waits under R405 (R461). -/
def State.updateTaken (s : State) : State :=
  match s.mg.update with
  | some u =>
    if u.target ≠ 1 then s
    else if u.verified || u.complete then s.onUpdate fun v => { v with target := 0 }
    else (s.journalEnd u.journal .aborted 0).onMg fun y => { y with update := none }
  | none => s

/-- What every claim does: the line driven and read owned, the role ACTIVE, the field inputs the module's own. -/
def State.takeLine (s : State) (freeFor : Nat) : State :=
  let gap := s.outputGap freeFor
  let s := ((s.setLine 1 true false).wr TW_LAST_GAP gap).log 12 .claim 1 [gap]
  let s := s.onTw fun y => { y with claimAt := s.time, fin := [], gapFrom := none, graceEnd := 0, outside := [], discrete := 0 }
  let s := s.setRole .active
  let s := ((s.putBit TW_STATUS_RESYNC false).onPb fun y => { y with newOwner := true }).updateTaken
  (upto 4).foldl (fun s n => s.setFbCh n { s.fbCh n with seen := 0, unseen := [], cycle := none, refOk := false, col := 0 }) s

/-- The module may claim (R319): CLAIM_EN, its role, no guard, the line not invalid and free for the holdoff. -/
def State.mayClaim (s : State) (freeFor : Nat) : Bool :=
  s.bit TW_CTRL_CLAIM_EN && (s.sys.role == .undecided || s.sys.role == .standby || s.sys.role == .isolatedStandby) &&
    s.tw.guardEnd.isNone && s.rd TW_STATUS_LINE == 0 && decide (s.rd TW_HOLDOFF ≤ freeFor)

/-- CLAIM: the line has been free in every sample for `freeFor` µs. DEDUCED: notes/assumptions/25.md. -/
def execClaim (freeFor : Nat) (s : State) : Host.Outcome State Fault Refusal :=
  if s.mayClaim freeFor then
    let inStep := s.sys.role == .standby && s.bit TW_STATUS_IN_STEP
    let t := if s.sys.mode = .boot then s.claimBoot
      else if inStep then s.claimInStep else s.claimTable
    .next ((t.takeLine freeFor).onTw fun y => { y with graceEnd := t.tw.graceEnd, outEn := true }).svTakeOver
  else .next s

/-! ### Giving up control (R330, R331, R340) -/

/-- LOCKSTEP_MISMATCH: C0 and C1 differ. -/
def execLockstepMismatch (s : State) : Host.Outcome State Fault Refusal := .next (s.enterFailed [5])

/-- SUPERVISOR_WATCHDOG_EXPIRY: not refreshed for 4 ticks. -/
def execSupervisorWatchdogExpiry (s : State) : Host.Outcome State Fault Refusal :=
  .next (if s.sys.framesOn ∧ s.tw.watchdogAt + 4 * usec 50 ≤ s.time then s.enterFailed [6] else s)

/-- TW_RELEASE_WRITE: 1 written to TW_CTRL.RELEASE: the line is released at the next boundary, as in R336. -/
def execTwReleaseWrite (by_ : Initiator) (s : State) : Host.Outcome State Fault Refusal :=
  .next (if bySupervisor by_ ∧ s.isActive then s.onTw fun y => { y with hand := .ready } else s)

/-- TW_FAULT_WRITE: 1 written to TW_CTRL.FAULT. -/
def execTwFaultWrite (by_ : Initiator) (s : State) : Host.Outcome State Fault Refusal :=
  .next (if bySupervisor by_ then s.enterFailed [7] else s)

/-! ### Handover on request (R335, R336) -/

/-- A commit, a revert or a firmware update is in progress, or a handover already is. -/
def State.handBusy (s : State) : Bool := s.tr.commit.isSome || s.mg.update.isSome || s.tw.hand != .idle

/-- The states that accept a handover. -/
def handState : ModState → Bool
  | .table | .reactive | .predictive | .hold | .isolate => true
  | .off | .boot | .shed | .survival | .service | .failed => false

/-- The partner can take over: STANDBY, IN_STEP, not resynchronizing, warm where the module is PREDICTIVE. -/
def State.partnerReady (s : State) : Bool :=
  s.partnerInStep && s.bit TW_STATUS_HB_OK && !s.tw.pResync && s.tw.resyncAt.isNone && (s.sys.mode != .predictive || s.bit TW_PARTNER_TR_WARM)

/-- The reply of a handover that is refused; none where it is accepted. -/
def State.handRefusal (s : State) : Option Ks :=
  if ¬ handState s.sys.mode ∨ ¬ s.partnerReady then some .stateConflict
  else if s.handBusy then some .busy
  else none

/-- A handover accepted: its COMMAND frame goes to the standby (R323, R326), PREPARE at the next boundary; the reply
waits, to the host's tag or to the console. -/
def State.handStart (s : State) (tag : Option Nat) : State :=
  let s := s.forward 5 0 (leBytes 2 0xC0B1 ++ leBytes 2 0 ++ leBytes 8 s.frame ++ leBytes 4 s.tickNow ++
    leBytes 4 (tag.getD 0) ++ leBytes 4 1)
  s.onTw fun y => { y with hand := .asked, handTag := tag, handLost := false, handConsole := tag.isNone }

/-- HANDOVER_REQUEST: a repeated tag gets its earlier reply, which the status of the present state heads (R370). A
module without supply takes no command (R19). -/
def execHandoverRequest (p : List (BitVec 8)) (z : State) : Host.Outcome State Fault Refusal :=
  let s := z.atMailbox
  let tag := tagOf p
  if z.sys.mode = .off then .next z
  else if p.length ≠ 8 ∨ fieldLE p 4 1 ≠ 1 then .next (s.answer .range (s.ksHeader .range tag 0 0) [])
  else if ¬ s.isActive then .next (s.answer .notOwner (s.ksHeader .notOwner tag 0 0) [])
  else
    match s.seenTag tag with
    | some t =>
      .next (s.silenceRestart.answer .ok (s.headerNow_ t.header) t.body)
    | none =>
      match s.handRefusal with
      | some k => .next (s.answer k (s.ksHeader k tag 0 0) [])
      | none => .next (s.silenceRestart.handStart (some tag))

/-- SVC_TWIN_HANDOVER: HANDOVER_REQUEST from the console (R408). Its reply prints at once where it is refused, else once
the handover has ended (R340). -/
def execSvcTwinHandover (s : State) : Host.Outcome State Fault Refusal :=
  if ¬ s.isActive then .next (s.printErr .notOwner)
  else
    match s.handRefusal with
    | some k => .next (s.printErr k)
    | none => .next (s.handStart none)

/-- HANDOVER_PREPARE: at the boundary after acceptance PREPARE goes out. -/
def execHandoverPrepare (s : State) : Host.Outcome State Fault Refusal :=
  .next (if s.isActive ∧ s.tw.hand = .asked ∧ s.onBoundary then
      (s.linkSend 11 1 s.frame []).onTw fun y => { y with hand := .prepared }
    else s)

/-- HANDOVER_RELEASE: at the boundary after READY the line is released. DEDUCED: notes/assumptions/26.md. -/
def execHandoverRelease (s : State) : Host.Outcome State Fault Refusal :=
  .next (if s.isActive ∧ s.tw.hand = .ready ∧ s.onBoundary ∧ s.sys.lastFrame ≠ some s.time then
      (((s.sendFrameEnd s.frame).linkSend 11 3 s.frame []).releaseLine).onTw fun y => { y with hand := .released, lastDone := s.frame }
    else s)

/-- HANDOVER_COMPLETE: the released module reads the line owned, or its partner reports ACTIVE. DEDUCED:
notes/assumptions/26.md. -/
def execHandoverComplete (s : State) : Host.Outcome State Fault Refusal :=
  .next (if s.tw.hand = .released ∧ (s.rd TW_STATUS_LINE = 1 ∨ s.rd TW_PARTNER_ROLE = 1) then
      (s.setLine 1 true false).handReply .ok
    else s)

/-! ### Resynchronization (R337) -/

/-- Journals as RESYNC frames. -/
def State.sendJournals (s : State) (sub : Nat) : State :=
  s.mb.journals.foldl (fun s j => s.linkSend 10 sub s.frame j.link) s

/-- Configuration entries as RESYNC frames of at most 512. -/
def State.sendCfg (s : State) : Nat → List (Nat × Nat × Nat) → State
  | 0, _ => s
  | n + 1, l =>
    if l.isEmpty then s
    else (s.linkSend 10 2 s.frame ((l.take 512).flatMap fun e => leBytes 2 e.1 ++ leBytes 2 e.2.1 ++ leBytes 4 e.2.2)).sendCfg
      n (l.drop 512)

/-- The pool of the repetitive controller as RESYNC frames of at most 512 words. -/
def State.sendPool (s : State) : Nat → List (Nat × Nat) → State
  | 0, _ => s
  | n + 1, l =>
    if l.isEmpty then s else (s.linkSend 10 4 s.frame (lineBytes (l.take 512))).sendPool n (l.drop 512)

/-- The pool's words. -/
def State.poolPairs (s : State) : List (Nat × Nat) := s.le.pool.map fun q => (q.1, wrapInt 32 q.2)

/-- The lines beside the registers, those that differ from the lines last sent (R337). -/
def State.sendLines (s : State) : State :=
  let now := s.copyNow
  let l := now.filter fun x => !s.tw.copyLines.contains x
  (if l.isEmpty then s else s.linkQueue 10 6 s.frame [] l).onTw fun y => { y with copyLines := now }

/-- The writes to the copied registers since the lines last sent (R337). -/
def State.sendMirror (s : State) : State :=
  let now := s.copyRegs
  let l := wordDiff s.tw.copy now
  ((if l.isEmpty then s else s.sendPairs 10 1 s.frame (l.length / 512 + 1) l).onTw fun y => { y with copy := now }).sendLines

/-- RESYNC_START: at a frame boundary the copier sends every line once. DEDUCED: notes/assumptions/23.md. -/
def execResyncStart (s : State) : Host.Outcome State Fault Refusal :=
  if s.isActive ∧ s.tw.resyncDue ∧ s.onBoundary ∧ s.sys.mode ≠ .boot then
    let s := s.linkSend 10 0 s.frame []
    let l := s.copyRegs.map fun q => (q.1, q.2.toNat)
    let s := s.sendPairs 10 1 s.frame (l.length / 512 + 1) l
    let e := s.cfgEntries
    let s := (s.sendCfg (e.length / 512 + 1) e).sendJournals 3
    let p := s.poolPairs
    .next ((((s.sendPool (p.length / 512 + 1) p).onTw fun y => { y with copyLines := [] }).sendLines).onTw fun y => { y with
      copy := s.copyRegs, resyncAt := some s.time, resyncDue := false })
  else .next s

/-- The module state that a partner's heartbeat names. -/
def stateOfCode (n : Nat) : Option ModState :=
  ([.off, .boot, .table, .reactive, .predictive, .hold, .isolate, .shed, .survival, .service, .failed] :
    List ModState).find? fun m => m.code == n

/-- The standby at J: in step, its admitted rows at the image's initial state and the warm-up counted from here, the module
state the partner's, but for SURVIVAL, which the module's own cold plate alone begins and ends (R20, R24, R337). -/
def State.resynced (s : State) (j : Nat) : State :=
  let s := ((s.putBit TW_STATUS_RESYNC false).putBit TW_STATUS_OUT_OF_STEP false).putBit TW_STATUS_TR_WARM false
  let s := (s.onTw fun y => { y with
    resyncAt := none, endSeen := some (j - 1), outside := [], discrete := 0,
    commands := y.commands.filter fun q => decide (j ≤ q.1) }).onVq fun y => { y with
    forwarded := y.forwarded.filter fun q => decide (j ≤ q.1) }
  let s := s.onTr fun y => { y with freshRows := s.admitted, warmGood := 0, firstFrame := none }
  let s := match stateOfCode (s.rd TW_PARTNER_STATE) with
    | some m =>
      if m = ModState.boot ∨ m = ModState.off ∨ m = ModState.failed ∨ m = ModState.survival ∨ s.sys.mode = ModState.survival then s
      else s.setState m
    | none => s
  (s.setRole .standby).putBit TW_STATUS_IN_STEP true

/-- RESYNC_END: at a boundary the active ends the copy with the mirrored writes; at the standby, once J is known, the
first boundary makes it IN_STEP. DEDUCED: notes/assumptions/23.md. -/
def execResyncEnd (s : State) : Host.Outcome State Fault Refusal :=
  if ¬ s.onBoundary then .next s
  else if s.isActive then
    match s.tw.resyncAt with
    | some t =>
      if t < s.time then
        .next ((s.sendMirror.linkSend 10 5 (s.frameAt s.time) []).onTw fun y => { y with resyncAt := none, copy := [] })
      else .next s
    | none => .next s
  else if s.takes ∧ s.bit TW_STATUS_RESYNC then
    match s.tw.resyncAt with
    | some j => .next (s.resynced j)
    | none => .next s
  else .next s

end Sys2Proof.Machine
end

