-- ==== Sys2Proof/Machine/Cxl.lean ====
section
/-! DEFINITION. The CXL link and its errors (spec 15, R358 to R365). -/

namespace Sys2Proof.Machine

/-- The rates of R358 in GT/s. -/
def cxlRate (r : Fin 3) : Nat := if r.val = 0 then 16 else if r.val = 1 then 32 else 64

/-- The widths of R358 in lanes. -/
def cxlWidth (w : Fin 3) : Nat := if w.val = 0 then 4 else if w.val = 1 then 8 else 16

/-- DDR4 training has ended well in this boot (R341, R362). -/
def State.ddrTrained (s : State) : Bool := s.rd CA_STATUS_CH_OK == 0xFF

/-- HDM decoder 0 as the host has committed it, its size in GiB and interleave ways; Memory_Active follows (R362).
DEDUCED: notes/assumptions/59.md. -/
def State.setHdm (s : State) (d : Option (Nat × Nat)) : State :=
  s.onMb fun y => { y with
    hdmCommitted := d.isSome, hdmSize := (d.map (·.1)).getD 0, hdmWays := (d.map (·.2)).getD 0,
    memoryActive := s.ddrTrained && (d.isNone || d == some (480, 1)) }

/-! ### BAR0 (R361) -/

/-- The blocks of BAR0; every other offset is reserved. -/
inductive Bar0Block where
  | component | device | mailbox | msixTable | msixPending | reserved
deriving DecidableEq, Repr

/-- The block of a BAR0 offset (R361). -/
def bar0Block (off : Nat) : Bar0Block :=
  if off < 0x10000 then .component
  else if off < 0x11000 then .device
  else if 0x100000 ≤ off ∧ off < 0x200020 then .mailbox
  else if 0x300000 ≤ off ∧ off < 0x300040 then .msixTable
  else if 0x301000 ≤ off ∧ off < 0x301008 then .msixPending
  else .reserved

/-- A word of BAR0 as the host reads it: the MSI-X table as written, no vector pending (each is sent as its event comes),
reserved offsets 0; the layout of the other blocks is the CXL specification's. No command of the block reads BAR0; this is
what a host's read returns. DESIGN CHOICE: notes/assumptions/110.md. -/
def State.bar0Read (s : State) (off : Nat) : BitVec 32 :=
  match bar0Block off with
  | .component | .device | .mailbox => Config.bar0Register off
  | .msixTable => tget 0 s.mb.msixTable ((off - 0x300000) / 4)
  | .msixPending | .reserved => 0

/-- A word written to BAR0: the MSI-X table keeps it, reserved offsets discard it; the mailbox and the decoder have
commands of their own. DESIGN CHOICE: notes/assumptions/110.md. -/
def State.bar0Write (s : State) (off : Nat) (v : BitVec 32) : State :=
  match bar0Block off with
  | .msixTable => s.onMb fun y => { y with msixTable := tset 0 y.msixTable ((off - 0x300000) / 4) v }
  | .component | .device | .mailbox | .msixPending | .reserved => s

/-! ### CDAT (R358, R362) -/

/-- An entry of the table that Data Object Exchange gives: a range of device physical addresses by its handle, base and
length in GiB; a latency in ns or a bandwidth in MB/s of a handle; a handle's memory type. -/
inductive CdatEntry where
  | dsmas (handle base length : Nat)
  | dslbis (handle readLatency writeLatency readBandwidth writeBandwidth : Nat)
  | dsemts (handle : Nat) (specificPurpose : Bool)
deriving DecidableEq, Repr

/-- The entries of R362: the archive, the model store. -/
def cdat : List CdatEntry :=
  [.dsmas 0 0 448, .dsmas 1 448 32, .dslbis 0 450 450 60000 30000, .dslbis 1 450 450 60000 30000, .dsemts 0 true,
   .dsemts 1 true]

/-- The entry that a Data Object Exchange read gives for an entry handle, and the handle of the next; none past the end, or
in a module without supply. No command of the block carries the exchange; this is what it returns. -/
def State.doeCdat (s : State) (k : Nat) : Option (CdatEntry × Option Nat) :=
  if s.sys.mode = .off ∨ ¬ s.mb.linkUp then none
  else (cdat[k]?).map fun e => (e, if k + 1 < cdat.length then some (k + 1) else none)

/-! ### The link (R358 to R360) -/

/-- CXL_LINK_UP: the link trains at a rate and width of R358, with 256-byte flits at 64 GT/s and 68-byte flits below it;
`host` is what the host then programs. DEDUCED: notes/assumptions/59.md. -/
def execCxlLinkUp (rate width : Fin 3) (host : CxlHost) (s : State) : Host.Outcome State Fault Refusal :=
  if s.sys.mode = .off then .next s
  else
    let reduced := rate.val != 2 || width.val != 2
    let s := s.onMb fun y => { y with
      linkUp := true, linkRate := cxlRate rate, linkWidth := cxlWidth width, linkReduced := reduced,
      linkFlit := if rate.val = 2 then 256 else 68 }
    let s := host.bar0.foldl (fun s q => s.bar0Write q.1 q.2) (s.setHdm host.hdm)
    .next (if reduced then s.note 14 .linkReduced 1 [cxlRate rate, cxlWidth width] 481 else s.post 481)

/-- CXL_INTERFACE_RESET: only the interface is reset: the host's decoder is gone, a reply in progress is lost, while its
work goes on and its tag stays known. All resets but a function-level one take the link down. DEDUCED: notes/assumptions/59.md. -/
def execCxlInterfaceReset (flr : Bool) (s : State) : Host.Outcome State Fault Refusal :=
  if s.sys.mode = .off then .next s
  else
    let s := (s.setHdm none).repliesLost.onMb fun y => { y with msixTable := [] }
    let s := if flr then s
      else (s.onMb fun y => { y with
        linkUp := false, linkRate := 0, linkWidth := 0, linkReduced := false, linkFlit := 0 }).post 481
    .next (s.log 14 .cxlReset 1 [b2n flr])

/-- AER_ERROR: a correctable or a non-fatal uncorrectable error is counted, posts doorbell 482 and is logged. -/
def execAerError (uncorrectable : Bool) (s : State) : Host.Outcome State Fault Refusal := .next (s.aerNote uncorrectable)

end Sys2Proof.Machine
end

