-- ==== Sys2Proof/Machine/Boundary.lean ====
section
/-! DEFINITION. The frame boundary and the tick boundary: the work of every block in its order (spec 01, R15; spec 02, R31,
R32; spec 13, R327; spec 17, R419, R430). -/

namespace Sys2Proof.Machine

/-! ### The boundary (R15, R25, R327) -/

/-- What the ACTIVE module forwards once a frame: the solenoid channel records and the run hours (R269, R323). -/
def State.frameForward (s : State) : State :=
  let as := ((upto 36).flatMap fun n => [(SV_CHSTAT n).addr, (SV_CHKINK n).addr]) ++ (upto 4).map fun n => (PF_PHOURS n).addr
  let s := if s.forwards then s.forward 6 3 (s.regBytes as) else s
  if s.isActive ∧ s.tw.resyncAt.isSome then s.sendMirror else s

/-- A STANDBY ends the frame it has run: its results against the OUTPUTS of that frame (R328). DEDUCED:
notes/assumptions/21.md. -/
def State.endStandbyFrame (s : State) : State :=
  if s.runsFrame then
    let s := s.onTw fun y => { y with lastDone := s.frame }
    if s.tw.outFrame = some s.frame then s.crossCheck s.outItems else s
  else s

/-- The boundary by role (R25, R327): a STANDBY runs the frame before the one that opens, while its FRAME_ENDs come.
DEDUCED: notes/assumptions/20.md. -/
def State.boundary (s : State) : State :=
  let n := s.frameAt s.time
  match s.sys.role with
  | .standby =>
    let s := s.endStandbyFrame
    let inStep := s.bit TW_STATUS_IN_STEP
    let run := inStep && s.tw.endSeen.any fun e => e + 2 == n
    let s := (s.onTw fun y => { y with running := run }).openFrame (if inStep then n - 1 else n)
    if run then (s.runDue (n - 1) 0).frameWork else s
  | .faulted => s.openFrame n
  | .active | .undecided | .isolatedStandby =>
    let prev := s.frame
    let s := (s.sendFrameEnd prev).onTw fun y => { y with lastDone := prev }
    (s.openFrame n).frameWork.frameForward

/-- FRAME_BOUNDARY: once at each whole multiple of the frame length, from the valid table inputs on, with its doorbell
(R303, R419, R424).
DEDUCED: notes/assumptions/20.md. -/
def execFrameBoundary (s : State) : Host.Outcome State Fault Refusal :=
  .next (if s.onBoundary ∧ s.sys.lastFrame ≠ some s.time then s.boundary.post 2 else s)

/-! ### The tick (R32, R430, R458) -/

/-- The supervisor compares TM_CRC and its own copy of the table with TM_CRC_LOCK; a difference is fatal (R430).
DEDUCED: notes/assumptions/89.md. -/
def State.tripTableCheck (s : State) : State :=
  if s.bit TM_CTRL_LOCK ∧ (s.tmCrcNow ≠ s.rd TM_CRC_LOCK ∨ s.rd TM_CRC ≠ s.rd TM_CRC_LOCK) then
    (s.log 16 .tripTableMismatch 3 []).enterFailed [2]
  else s

/-- The lines read back against the lines asserted: a line that does not read asserted is logged as it is first found,
and stays commanded (R458). DEDUCED: notes/assumptions/89.md. -/
def State.brakeCheck (s : State) (sense : Nat) : State :=
  let lines := s.brakeLines
  let bad := lines &&& sense != lines
  let known := s.rd PB_BRAKE_SENSE == sense
  let s := s.wr PB_BRAKE_SENSE sense
  if bad && !known then s.log 4 .brakeMismatch 2 [lines, sense] else s

/-- The field registers that the ACTIVE module forwards each tick: inputs and trip-matrix inputs (R323). -/
def fieldInputs : List Nat :=
  ((upto 48).flatMap fun n => [(SN_RTDVAL n).addr, (SN_RTDRAW n).addr, (SN_RTDSTAT n).addr]) ++
    ((upto 24).flatMap fun n => [(SN_MAVAL n).addr, (SN_MARAW n).addr, (SN_MASTAT n).addr]) ++
    ((upto 8).flatMap fun n => [(SN_PIFREQ n).addr, (SN_PISTAT n).addr]) ++ [SN_DIN.addr] ++
    (upto 4).map fun w => (TM_IN w).addr

/-- TW_FWD_MBPS: the megabytes forwarded in each second (R340). -/
def State.fwdRate (s : State) : State :=
  if s.tw.fwdFrom + secs 1 ≤ s.time then
    (s.wr TW_FWD_MBPS (min 65535 (s.tw.fwdBytes / 1000000))).onTw fun y => { y with fwdBytes := 0, fwdFrom := s.time }
  else s

/-- The engine's and the field die's work of a tick; a STANDBY first applies the inputs of the tick it runs. DESIGN
CHOICE: notes/assumptions/14.md. -/
def State.tickWork (s : State) : State :=
  if s.runsFrame then
    let s := if s.sys.role = .standby then s.runDue s.frame s.tickNow else s
    s.leTick.pfTick
  else s

/-- TICK_BOUNDARY: every 50 µs; `brakes` are the levels read back on the brake lines. DEDUCED:
notes/assumptions/20.md. -/
def execTickBoundary (brakes : BitVec 16) (s : State) : Host.Outcome State Fault Refusal :=
  if s.sys.framesOn ∧ s.time % 5000 = 0 ∧ s.sys.lastTick ≠ some s.time then
    let s := (s.onSys fun y => { y with lastTick := some s.time }).onTw fun y => { y with watchdogAt := s.time }
    let s := (s.tripTableCheck.brakeCheck brakes.toNat).tickWork
    let s := if s.forwards then s.forward 3 1 (leBytes 4 s.tickNow ++ s.regBytes fieldInputs) else s
    .next s.fwdRate.alarmRelays
  else .next s

end Sys2Proof.Machine
end

