-- ==== Sys2Proof/Machine/Bus.lean ====
section
/-! DEFINITION. Register accesses over the hub that have no command of their own (spec 00, R5 to R8; spec 01, R13): the access
codes, the locks, who may write, and what a written field sets off. -/

namespace Sys2Proof.Machine

/-! ### What a write may change -/

/-- Only some initiators write a register (R312, R340, R434); the others' writes are ignored. DESIGN CHOICE:
notes/assumptions/17.md. DESIGN CHOICE: notes/assumptions/19.md. -/
def mayWrite (by_ : Initiator) (a : Nat) : Bool :=
  if a = TW_CTRL.addr ∨ a = CK_CTRL.addr ∨ (CK_WARM_AT_LO.addr ≤ a ∧ a ≤ CK_FRAME_ORIGIN_HI.addr) then bySupervisor by_
  else if 0x40005000 ≤ a ∧ a < 0x40005100 ∧ a % 0x10 = 0 then
    match by_ with
    | .core n => decide (n.val < 2)
    | .mgmt => true
    | .block => false
  else true

/-- Words whose writes have a command of their own: the doorbell address, DIC_EOI, LE_RC_DATA, PB_BRAKE, TM_LATCH,
SV_CHCMD, MG_TX_WPTR, TR_DBG_DATA. DESIGN CHOICE: notes/assumptions/17.md. -/
def ownWrite (a : Nat) : Bool :=
  a == DIC_DOORBELL.addr || (decide (0x40003000 ≤ a ∧ a < 0x40004200) && a % 0x200 == 4) || a == LE_RC_DATA.addr ||
    a == PB_BRAKE_FORCE.addr || decide (0x44140020 ≤ a ∧ a < 0x44140030) ||
    (decide (0x44131000 ≤ a ∧ a < 0x44131480) && a % 0x20 == 8) || a == MG_TX_WPTR.addr || a == TR_DBG_DATA.addr

/-- Words that a write leaves as they are at present: bit timings, marks and cells of a channel that is not in INIT
(R275); TR_ADMIT, TR_II and TR_LATENCY while TR_CTRL.ENABLE is set (R90); the address of a context in use (R182).
DEDUCED: notes/assumptions/46.md. -/
def State.heldWord (s : State) (a : Nat) : Bool :=
  let fb := decide (0x45000000 ≤ a ∧ a < 0x45004000)
  let off := a % 0x1000
  if fb ∧ (off = 0x008 ∨ off = 0x00C ∨ (0x080 ≤ off ∧ off < 0x100) ∨ 0x800 ≤ off) then
    !s.bit (FB_CTRL_INIT ((a - 0x45000000) / 0x1000))
  else if a = TR_ADMIT.addr ∨ a = TR_II.addr ∨ a = TR_LATENCY.addr then s.bit TR_CTRL_ENABLE
  else if 0x43100000 ≤ a ∧ a < 0x43140000 ∧ a % 0x40 < 8 then s.bit (PB_CFG_VALID ((a - 0x43100000) / 0x40))
  else false

/-- Fields that a write leaves: ROT_EN while Trellis is enabled (R90); FRAME_TICKS, which waits for its boundary (R31);
VALID of a context in use (R182); INIT and ENABLE bits where their change has a command of its own (R235, R287).
DEDUCED: notes/assumptions/46.md. -/
def State.heldField (s : State) (a : Nat) (f : RegField) (v : Nat) : Bool :=
  if a = TR_CTRL.addr ∧ f.lo = 1 then s.bit TR_CTRL_ENABLE
  else if a = LE_FRAME.addr ∧ f.lo = 0 then true
  else if 0x43100000 ≤ a ∧ a < 0x43140000 ∧ a % 0x40 = 8 ∧ f.lo = 31 then s.bit (PB_CFG_VALID ((a - 0x43100000) / 0x40))
  else if 0x45000000 ≤ a ∧ a < 0x45004000 ∧ a % 0x1000 = 0 ∧ f.lo = 31 then !bitOf v 31
  else if 0x44100100 ≤ a ∧ a < 0x44100300 ∧ a % 0x20 = 4 ∧ f.lo = 0 then bitOf v 0
  else false

/-- One field of a word after a write, by its access code (R7). A W1S bit has a command of its own. DEDUCED:
notes/assumptions/46.md. -/
def State.writeField (s : State) (a v : Nat) (w : Nat) (f : RegField) : Nat :=
  let put := withBits w f.hi f.lo (bitsOf v f.hi f.lo)
  match f.acc with
  | .ro | .rc | .wo | .w1s => w
  | .rw => if s.heldField a f v then w else put
  | .rwl => if s.bit TM_CTRL_LOCK then w else put
  | .w1c => withBits w f.hi f.lo (bitsOf w f.hi f.lo - (bitsOf w f.hi f.lo &&& bitsOf v f.hi f.lo))

/-- A correction no further than its step from the present one (R231, R233, R242). DEDUCED: notes/assumptions/63.md.
-/
def stepTo (old new step : F32) : F32 := fclamp (fsub old step) (fadd old step) new

/-- A message buffer word without its reserved bits: bit 29 of word 0, the low 25 bits of word 1 (R276). -/
def mbWordFix (a w : Nat) : Nat :=
  match (a - 0x45010000) % 0x2000 % 0x48 / 4 with
  | 0 => withBits w 29 29 0
  | 1 => withBits w 24 0 0
  | _ => w

/-- Values that their registers clamp: speeds, outputs (R208), the cutoff (R33), a slot's PHASE (R65), the flow sources (R252), M_0
(R300), message buffer words (R276), the corrections (R231, R233; those of the CAL_REF inputs are held at 0, R243), and the ranges of the tables. DEDUCED:
notes/assumptions/18.md. DEDUCED: notes/assumptions/63.md. -/
def State.writeLimit (s : State) (a w : Nat) : Nat :=
  let top : Bool := (decide (0x44100100 ≤ a ∧ a < 0x44100300) && a % 0x20 == 0) ||
    (decide (0x44110000 ≤ a ∧ a < 0x44110140) && a % 0x10 == 4) || a == PF_DEMAND.addr
  if top then min w 10000
  else
    let old : F32 := BitVec.ofNat 32 (s.word a)
    if a = LE_FRAME.addr then
      withBits w LE_FRAME_CUTOFF_TICKS.hi LE_FRAME_CUTOFF_TICKS.lo
        (min (bitsOf w LE_FRAME_CUTOFF_TICKS.hi LE_FRAME_CUTOFF_TICKS.lo) (s.rd LE_FRAME_FRAME_TICKS - 4))
    else if 0x41100000 ≤ a ∧ a < 0x41220000 ∧ a % 0x100 = 4 then s.phaseFix ((a - 0x41100000) / 0x100) w
    else if 0x45000000 ≤ a ∧ a < 0x45004000 ∧ a % 0x1000 = 0x080 then 0
    else if 0x45010000 ≤ a ∧ a < 0x45018000 then mbWordFix a w
    else if 0x44010100 ≤ a ∧ a < 0x44010140 then flowSrcFix ((a - 0x44010100) / 4) (w % 65536)
    else if a = (SN_RTDOFF 32).addr ∨ a = (SN_RTDOFF 33).addr then 0
    else if 0x44010140 ≤ a ∧ a < 0x44010180 then
      busWord a (stepTo old (BitVec.ofNat 32 (busWord a w)) (f32OfRat 1 1000)).toNat
    else if 0x44011400 ≤ a ∧ a < 0x440114C0 then
      busWord a (stepTo old (BitVec.ofNat 32 (busWord a w)) (f32OfRat 5 1000)).toNat
    else busWord a w

/-! ### What a written word sets off -/

/-- A cleared ENABLE of a pump or fan stops it (R235). -/
def State.afterEnable (s : State) (a : Nat) (before : Nat) : State :=
  if a % 0x20 = 4 ∧ bitOf before 0 ∧ ¬ bitOf (s.word a) 0 then
    s.disable (if a < 0x44100200 then (a - 0x44100100) / 0x20 else 4 + (a - 0x44100200) / 0x20)
  else s

/-- A cleared ENABLE of a leak channel disables it (R252). -/
def State.afterLeak (s : State) (k before : Nat) : State :=
  if bitOf before 31 ∧ ¬ s.bit (lkEnable k) then s.leakOff k else s

/-- TR_CTRL written: ENABLE cleared stops Trellis; ENABLE set selects the clock and starts the rotation anew (R68,
R90). -/
def State.afterTrellis (s : State) (before : Nat) : State :=
  if bitOf before 0 ∧ ¬ s.bit TR_CTRL_ENABLE then s.trStop
  else if ¬ bitOf before 0 ∧ s.bit TR_CTRL_ENABLE then s.trSelect
  else s.trStatus

/-- EN of a node value entry written: set anew, no frame has been stored since (R300). -/
def State.nvEnabled (s : State) (e before : Nat) : State :=
  if bitOf before 31 ∨ ¬ s.bit (NV_CFG_EN e) then s
  else ((s.putBit (NV_CFG_VALID e) false).putBit (NV_CFG_STALE e) false).onFb fun y => { y with nvAt := terase y.nvAt e }

/-- A register of the queues, the pumps, the sensors, the solenoid drivers or the field bus written. -/
def State.afterField (s : State) (a before : Nat) : State :=
  if 0x42002000 ≤ a ∧ a < 0x42002800 ∧ a % 0x40 = 0 then s.relevel ((a - 0x42002000) / 0x40)
  else if 0x42100000 ≤ a ∧ a < 0x42120000 ∧ a % 0x20 = 0 then s.raiseGrant ((a - 0x42100000) / 0x20)
  else if a = PF_PMGR.addr then s.pmSet
  else if a = PF_DEMAND.addr then s.setDemand (s.rd PF_DEMAND)
  else if 0x44011000 ≤ a ∧ a < 0x44011300 ∧ a % 0x10 = 0 then s.pairMarked [(a - 0x44011000) / 0x10]
  else if 0x44012000 ≤ a ∧ a < 0x44012180 ∧ a % 0x10 = 0 then s.pairMarked [48 + (a - 0x44012000) / 0x10]
  else if 0x44013000 ≤ a ∧ a < 0x44013080 ∧ a % 0x10 = 0 then s.pairMarked [72 + (a - 0x44013000) / 0x10]
  else if 0x44120100 ≤ a ∧ a < 0x44120300 ∧ a % 0x10 = 0 then s.afterLeak ((a - 0x44120100) / 0x10) before
  else if a = SV_CTRL.addr ∨ 0x44131000 ≤ a ∧ a < 0x44131480 ∧ a % 0x20 = 0 then s.svEnables
  else if 0x45000000 ≤ a ∧ a < 0x45004000 ∧ (a % 0x1000 = 0 ∨ 0x100 ≤ a % 0x1000 ∧ a % 0x1000 < 0x200) then s.mirrorFeed
  else if 0x45020000 ≤ a ∧ a < 0x45024000 ∧ a % 0x10 = 0 then s.nvEnabled ((a - 0x45020000) / 0x10) before
  else s

/-- The state of a block brought up to a word written in it; `v` is the value that was written, `before` the old
word. DESIGN CHOICE: notes/assumptions/17.md. -/
def State.afterWrite (s : State) (a v before : Nat) : State :=
  if a = LE_CTRL.addr then
    (s.putBit LE_STATUS_RUNNING (s.bit LE_CTRL_ENABLE && s.sys.mode.fromTable && s.sys.mode != .failed)).pairsCheck
  else if a = LE_FRAME.addr then
    let n := clampNat 5 40 (bitsOf v 5 0)
    if s.sys.mode = .table then
      s.onLe fun y => { y with frameTicksNew := if n = s.rd LE_FRAME_FRAME_TICKS then none else some n }
    else s
  else if a = TR_CTRL.addr then
    s.afterTrellis before
  else if 0x44100100 ≤ a ∧ a < 0x44100300 then s.afterEnable a before
  else if 0x44140100 ≤ a ∧ a < 0x44140300 then s.wr TM_CRC s.tmCrcNow
  else if a = CK_FRAME_ORIGIN_LO.addr ∨ a = CK_FRAME_ORIGIN_HI.addr then
    s.onMg fun y => { y with savedOrigin := s.rd64 CK_FRAME_ORIGIN_LO }
  else if 0x40000100 ≤ a ∧ a < 0x40000200 then s.takenCheck
  else if a = CA_STATUS.addr then
    if bitOf before 4 ∧ ¬ s.bit CA_STATUS_UE_SEEN then s.putBit CA_UE_ADDR_HI_VALID false else s
  else if a = MG_RX_RPTR.addr then s.putBit MG_STATUS_RX_NOT_EMPTY (s.rd MG_RX_RPTR != s.rd MG_RX_WPTR)
  else s.afterField a before

/-- The word at a decoded address after a write. -/
def State.wordAfter (s : State) (r : RegRow) (a v : Nat) : Nat :=
  let old := s.word a
  let w := r.fields.foldl (fun w f => s.writeField a v w f) old
  if w = old then old else s.writeLimit a w

/-- REGISTER_WRITE: a write to a register follows its access code; an address that no block decodes gives a bus error
and changes nothing (R7, R13). DESIGN CHOICE: notes/assumptions/16.md. DESIGN CHOICE: notes/assumptions/17.md. -/
def execRegisterWrite (by_ : Initiator) (addr v : BitVec 32) (s : State) : Host.Outcome State Fault Refusal :=
  let a := addr.toNat
  match findRow a with
  | none => .next (if dicReserved a then s else s.reply { rc := 1 })
  | some (r, _) =>
    if dicReserved a ∨ ¬ mayWrite by_ a ∨ ownWrite a ∨ s.heldWord a then .next s
    else
      let before := s.word a
      .next ((s.wr ⟨a, 31, 0⟩ (s.wordAfter r a v.toNat)).afterWrite a v.toNat before)

/-! ### Reads (R7) -/

/-- A word as a read returns it: WO fields read 0. -/
def readWord (r : RegRow) (w : Nat) : Nat :=
  r.fields.foldl (fun w f => if f.acc = .wo then withBits w f.hi f.lo 0 else w) w

/-- A word after a read: RC fields clear. -/
def clearWord (r : RegRow) (w : Nat) : Nat :=
  r.fields.foldl (fun w f => if f.acc = .rc then withBits w f.hi f.lo 0 else w) w

/-- A POP register of a sample queue, whose read has a command of its own (R194). -/
def popWord (a : Nat) : Bool := decide (0x42002000 ≤ a ∧ a < 0x42002800) && a % 0x40 == 0x18

/-- A register whose read shows what runs: CK_TIME_LO, whose read latches the high word (R417); the minutes since an idle
(R273); STALE of a node value (R300). -/
def State.beforeRead (s : State) (a : Nat) : State :=
  if a = CK_TIME_LO.addr then s.wr64 CK_TIME_LO s.time
  else if 0x4413010C ≤ a ∧ a < 0x4413022C ∧ (a - 0x4413010C) % 0x20 = 0 then s.gidle ((a - 0x4413010C) / 0x20)
  else if 0x45020000 ≤ a ∧ a < 0x45024000 ∧ a % 0x10 = 0 then
    let e := (a - 0x45020000) / 0x10
    if s.bit (NV_CFG_VALID e) then s.putBit (NV_CFG_STALE e) (s.nvStale e) else s
  else s

/-- A read that has a command of its own: POP of a sample queue, which its reader's command answers, the debug word (R90), the
pool code (R64), word 0 and word 17 of a message buffer (R277). -/
def State.ownRead (s : State) (a : Nat) : Option State :=
  let off := (a - 0x45010000) % 0x2000
  let n := (a - 0x45010000) / 0x2000
  if popWord a then some s
  else if a = TR_DBG_DATA.addr then some (s.dbgAccess ⟨none, []⟩)
  else if a = LE_RC_DATA.addr then some (s.rcAccess none)
  else if 0x45010000 ≤ a ∧ a < 0x45018000 ∧ off < 0x1200 then
    if off % 0x48 = 0 then some ((s.mbLock n (off / 0x48)).reply { body := leBytes 4 (s.word a) })
    else if off % 0x48 = 0x44 then some ((s.mbUnlock n (off / 0x48)).reply { body := leBytes 4 (s.word a) })
    else none
  else none

/-- RC_REGISTER_READ: the value is returned, and RC fields clear; an address that no block decodes gives a bus error.
DESIGN CHOICE: notes/assumptions/16.md. -/
def execRcRegisterRead (addr : BitVec 32) (s : State) : Host.Outcome State Fault Refusal :=
  let a := addr.toNat
  match s.dicWord a, s.ownRead a, findRow a with
  | some w, _, _ => .next (s.reply { body := leBytes 4 w })
  | none, some t, _ => .next t
  | none, none, none => .next (s.reply { rc := 1 })
  | none, none, some (r, _) =>
    let s := s.beforeRead a
    let w := s.word a
    .next ((s.wr ⟨a, 31, 0⟩ (clearWord r w)).reply { body := leBytes 4 (readWord r w) })

end Sys2Proof.Machine
end

