-- ==== Sys2Proof/Machine/TileIssue.lean ====
section
/-! DEFINITION. The issue of a slot's operation in a tile (spec 04, R92 to R98), shared by every operation. -/

namespace Sys2Proof.Machine

/-- A tile's clock runs and it holds a stage: one of the map, or of the retiring column (R79, R89). -/
def State.tileRuns (s : State) (t : Nat) : Bool :=
  s.trRuns && (s.rd (TR_TILE_STATE t) == 1 || (s.tr.retiring == some (t % 16) && s.rd (TR_TILE_STATE t) != 3))

/-- The word of a slot that is about to issue in a tile, when the tile may issue it. -/
def State.ready (s : State) (t slot : Nat) : Bool := s.tileRuns t && (s.tile t).mayIssue slot

/-- An operation issues: it exists, and its effect takes place when its predicate condition holds (R92, R93).
DEDUCED: notes/assumptions/79.md. -/
def State.issue (s : State) (t slot op : Nat) (f : Nat → Tile → Tile) : State :=
  let x := s.tile t
  let w := x.slotWord slot
  if s.ready t slot ∧ opOf w = op ∧ x.legal slot w then s.setTile t ((if x.predHolds w then f w x else x).mark slot)
  else s

/-- The operation of a slot executes now, its predicate condition holding. DEDUCED: notes/assumptions/79.md. -/
def State.executes (s : State) (t slot op : Nat) : Bool :=
  let x := s.tile t
  let w := x.slotWord slot
  s.ready t slot && opOf w == op && x.legal slot w && x.predHolds w

/-- NOP (R91): opcode 0 in any slot. -/
def execNop (t : Fin 128) (slot : Fin 8) (s : State) : Host.Outcome State Fault Refusal :=
  let x := s.tile t
  .next (if s.ready t slot ∧ opOf (x.slotWord slot) = 0 then s.setTile t (x.mark slot) else s)

/-- ILLEGAL_OPERATION (R92): an opcode not listed for the slot, or a register, condition code, address mode or channel
that does not exist; executed as NOP with ILL set. -/
def execIllegalOperation (t : Fin 128) (slot : Fin 8) (s : State) : Host.Outcome State Fault Refusal :=
  let x := s.tile t
  let w := x.slotWord slot
  .next (
    if s.ready t slot ∧ opOf w ≠ 0 ∧ x.legal slot w = false then
      s.setTile t ((if x.predHolds w then x.ill else x).mark slot)
    else s)

end Sys2Proof.Machine
end

