-- ==== Sys2Proof/Machine/TrellisScalar.lean ====
section
/-! DEFINITION. The scalar slot of a tile (spec 04, R105, with R98, R104 and R120): one definition per operation. -/

namespace Sys2Proof.Machine

/-- A scalar operation with a result in s_D. -/
def State.scalarOp (s : State) (t op lat : Nat) (f : Nat → Tile → Nat) : State :=
  s.issue t 0 op fun w x => x.toS 0 lat (fD w) (f w x)

/-- A scalar operation with a result in p_D. -/
def State.predOp (s : State) (t op : Nat) (f : Nat → Tile → Bool) : State :=
  s.issue t 0 op fun w x => x.later 0 1 (.preg (fD w) (f w x))

/-- The signed value of an s register. -/
def Tile.sint (x : Tile) (n : Nat) : Int := signedOf 64 (x.sreg n)

/-- ADD (R105). -/
def execAdd (t : Fin 128) (s : State) : Host.Outcome State Fault Refusal :=
  .next (s.scalarOp t 0x01 1 fun w x => x.sreg (fA w) + x.sreg (fB w))

/-- SUB (R105). -/
def execSub (t : Fin 128) (s : State) : Host.Outcome State Fault Refusal :=
  .next (s.scalarOp t 0x02 1 fun w x => x.sreg (fA w) + (2 ^ 64 - x.sreg (fB w)))

/-- AND (R105). -/
def execAnd (t : Fin 128) (s : State) : Host.Outcome State Fault Refusal :=
  .next (s.scalarOp t 0x03 1 fun w x => x.sreg (fA w) &&& x.sreg (fB w))

/-- OR (R105). -/
def execOr (t : Fin 128) (s : State) : Host.Outcome State Fault Refusal :=
  .next (s.scalarOp t 0x04 1 fun w x => x.sreg (fA w) ||| x.sreg (fB w))

/-- XOR (R105). -/
def execXor (t : Fin 128) (s : State) : Host.Outcome State Fault Refusal :=
  .next (s.scalarOp t 0x05 1 fun w x => x.sreg (fA w) ^^^ x.sreg (fB w))

/-- SHL (R105). -/
def execShl (t : Fin 128) (s : State) : Host.Outcome State Fault Refusal :=
  .next (s.scalarOp t 0x06 1 fun w x => x.sreg (fA w) * 2 ^ (x.sreg (fB w) % 64))

/-- SHR (R105: logical). -/
def execShr (t : Fin 128) (s : State) : Host.Outcome State Fault Refusal :=
  .next (s.scalarOp t 0x07 1 fun w x => x.sreg (fA w) / 2 ^ (x.sreg (fB w) % 64))

/-- SRA (R105: arithmetic). -/
def execSra (t : Fin 128) (s : State) : Host.Outcome State Fault Refusal :=
  .next (s.scalarOp t 0x08 1 fun w x => wrapInt 64 (x.sint (fA w) / 2 ^ (x.sreg (fB w) % 64)))

/-- MUL (R105: the low 64 bits). -/
def execMul (t : Fin 128) (s : State) : Host.Outcome State Fault Refusal :=
  .next (s.scalarOp t 0x09 3 fun w x => x.sreg (fA w) * x.sreg (fB w))

/-- MIN (R105: signed). -/
def execMin (t : Fin 128) (s : State) : Host.Outcome State Fault Refusal :=
  .next (s.scalarOp t 0x0A 1 fun w x => if x.sint (fA w) ≤ x.sint (fB w) then x.sreg (fA w) else x.sreg (fB w))

/-- MAX (R105: signed). -/
def execMax (t : Fin 128) (s : State) : Host.Outcome State Fault Refusal :=
  .next (s.scalarOp t 0x0B 1 fun w x => if x.sint (fB w) ≤ x.sint (fA w) then x.sreg (fA w) else x.sreg (fB w))

/-- ADDI (R105). -/
def execAddi (t : Fin 128) (s : State) : Host.Outcome State Fault Refusal :=
  .next (s.scalarOp t 0x11 1 fun w x => x.sreg (fA w) + fImm64 w)

/-- LI (R105). -/
def execLi (t : Fin 128) (s : State) : Host.Outcome State Fault Refusal :=
  .next (s.scalarOp t 0x12 1 fun w _ => fImm64 w)

/-- ANDI (R105). -/
def execAndi (t : Fin 128) (s : State) : Host.Outcome State Fault Refusal :=
  .next (s.scalarOp t 0x13 1 fun w x => x.sreg (fA w) &&& fImm64 w)

/-- CMP (R104, R105). -/
def execCmp (t : Fin 128) (s : State) : Host.Outcome State Fault Refusal :=
  .next (s.predOp t 0x18 fun w x => ccInt 64 (fCC w) (x.sreg (fA w)) (x.sreg (fB w)))

/-- CMPI (R104, R105). -/
def execCmpi (t : Fin 128) (s : State) : Host.Outcome State Fault Refusal :=
  .next (s.predOp t 0x19 fun w x => ccInt 64 (fCC w) (x.sreg (fA w)) (fImm64 w))

/-- PAND (R105). -/
def execPand (t : Fin 128) (s : State) : Host.Outcome State Fault Refusal :=
  .next (s.predOp t 0x1A fun w x => x.pred (fA w) && x.pred (fB w))

/-- POR (R105). -/
def execPor (t : Fin 128) (s : State) : Host.Outcome State Fault Refusal :=
  .next (s.predOp t 0x1B fun w x => x.pred (fA w) || x.pred (fB w))

/-- PXOR (R105). -/
def execPxor (t : Fin 128) (s : State) : Host.Outcome State Fault Refusal :=
  .next (s.predOp t 0x1C fun w x => x.pred (fA w) != x.pred (fB w))

/-- PNOT (R105). -/
def execPnot (t : Fin 128) (s : State) : Host.Outcome State Fault Refusal :=
  .next (s.predOp t 0x1D fun w x => !x.pred (fA w))

/-- MOVFM (R105, R120). -/
def execMovfm (t : Fin 128) (s : State) : Host.Outcome State Fault Refusal :=
  .next (s.scalarOp t 0x20 1 fun w x => x.mreg (fA w))

/-- MOVTM (R105, R120). -/
def execMovtm (t : Fin 128) (s : State) : Host.Outcome State Fault Refusal :=
  .next (s.issue t 0 0x21 fun w x => x.later 0 1 (.mreg (fD w) (x.sreg (fA w))))

/-- VEXT (R105). -/
def execVext (t : Fin 128) (s : State) : Host.Outcome State Fault Refusal :=
  .next (s.scalarOp t 0x22 2 fun w x => (x.lane (fA w) (fLane w)).toNat)

/-- BR (R98, R105: a taken branch costs one cycle). -/
def execBr (t : Fin 128) (s : State) : Host.Outcome State Fault Refusal :=
  .next (s.issue t 0 0x30 fun w x => { x with branch := some (fTarget w, true) })

/-- LOOP's effect: the counter less 1, and the branch, which costs nothing, when the new value is not 0 (R98). -/
def Tile.loop (w : Nat) (x : Tile) : Tile :=
  let n := (x.sreg (fA w) + (2 ^ 64 - 1)) % 2 ^ 64
  let y := x.toS 0 1 (fA w) n
  if n = 0 then y else { y with branch := some (fTarget w, false) }

/-- LOOP (R98, R105). -/
def execLoop (t : Fin 128) (s : State) : Host.Outcome State Fault Refusal :=
  .next (s.issue t 0 0x31 Tile.loop)

/-- BRI (R98, R105). -/
def execBri (t : Fin 128) (s : State) : Host.Outcome State Fault Refusal :=
  .next (s.issue t 0 0x32 fun w x => { x with branch := some (x.sreg (fA w) % 2048, true) })

/-- HALT (R98, R105: issue stops after the bundle). -/
def execHalt (t : Fin 128) (s : State) : Host.Outcome State Fault Refusal :=
  .next (s.issue t 0 0x3F fun _ x => { x with halting := true })

end Sys2Proof.Machine
end

