-- ==== Sys2Proof/Machine/TrellisMemory.lean ====
section
/-! DEFINITION. The load/store slots of a tile (spec 04, R100 to R102, R106): one definition per operation. -/

namespace Sys2Proof.Machine

/-- The slot number of a load/store slot: LS0 is slot 1, LS1 slot 2. -/
def lsSlot (ls1 : Bool) : Nat := if ls1 then 2 else 1

/-- The line a memory operand names, as it is read at issue. -/
def Tile.memBytes (x : Tile) (w : Nat) : List Byte := x.line (x.memLine w)

/-- A load: its result, its post-increment, and what the check of the words read finds (R87, R106). -/
def State.loadOp (s : State) (t : Nat) (ls1 : Bool) (op : Nat) (ecc : KwErr) (f : Nat → List Byte → TWrite) : State :=
  let slot := lsSlot ls1
  let hit := s.executes t slot op
  let s := s.issue t slot op fun w x => (x.later slot 3 (f w (x.memBytes w))).postInc slot w
  if hit then s.tileEcc t ecc else s

/-- A store into the context-state region of a tile that retires is mirrored to the tile that takes its stage, from the
capture until the mirror stops (R79, R80, R102). DEDUCED: notes/assumptions/82.md. -/
def State.mirror (s : State) (t n : Nat) (x : Tile) (bs : List (Nat × Byte)) : State :=
  match s.mirrorTo t with
  | some q => if x.inState n ∧ ¬ x.sent then s.setTile q ((s.tile q).apply (.line n bs)) else s
  | none => s

/-- A store of some bytes of its line (R101, R102, R106). -/
def State.storeOp (s : State) (t : Nat) (ls1 : Bool) (op : Nat) (ecc : KwErr) (f : Nat → Tile → List (Nat × Byte)) :
    State :=
  let slot := lsSlot ls1
  let x := s.tile t
  let w := x.slotWord slot
  let hit := s.executes t slot op
  let s := s.issue t slot op fun w x => (x.toLine slot (x.memLine w) (f w x)).postInc slot w
  if hit then (s.mirror t (x.memLine w) x (f w x)).tileEcc t ecc else s

/-- SEL [0] as a half, SEL as a word number of 4 bits, of 3 bits. -/
def fHalf (w : Nat) : Nat := fSel w % 2
/-- SEL [2:0]. -/
def fWord8 (w : Nat) : Nat := fSel w % 8

/-- The lanes of a v register given by a function of the lane. -/
def allLanes (f : Nat → Word) : List (Nat × Word) := (upto 32).map fun i => (i, f i)

/-- The bytes of a little-endian value at an offset of a line. -/
def bytesFrom (off n v : Nat) : List (Nat × Byte) := (upto n).map fun i => (off + i, BitVec.ofNat 8 (v / 256 ^ i))

/-- LD (R106: lanes 16h to 16h + 15). -/
def execLd (t : Fin 128) (ls1 : Bool) (ecc : KwErr) (s : State) : Host.Outcome State Fault Refusal :=
  .next (s.loadOp t ls1 0x01 ecc fun w l => .vreg (fD w) ((upto 16).map fun j => (16 * fHalf w + j, BitVec.ofNat 32 (fieldLE l (4 * j) 4))))

/-- LDX8 (R106: byte 32h + i, sign-extended). -/
def execLdx8 (t : Fin 128) (ls1 : Bool) (ecc : KwErr) (s : State) : Host.Outcome State Fault Refusal :=
  .next (s.loadOp t ls1 0x02 ecc fun w l => .vreg (fD w) (allLanes fun i => BitVec.ofInt 32 (signedOf 8 (fieldLE l (32 * fHalf w + i) 1))))

/-- LDX16 (R106: sign-extended, or BF16 widened). -/
def execLdx16 (t : Fin 128) (ls1 : Bool) (ecc : KwErr) (s : State) : Host.Outcome State Fault Refusal :=
  .next (s.loadOp t ls1 0x03 ecc fun w l => .vreg (fD w) (allLanes fun i =>
    if fHalf w = 0 then BitVec.ofInt 32 (signedOf 16 (fieldLE l (2 * i) 2))
    else BitVec.ofNat 32 (fieldLE l (2 * i) 2 * 65536)))

/-- LDB (R106: word w of the line in every lane). -/
def execLdb (t : Fin 128) (ls1 : Bool) (ecc : KwErr) (s : State) : Host.Outcome State Fault Refusal :=
  .next (s.loadOp t ls1 0x04 ecc fun w l => .vreg (fD w) (allLanes fun _ => BitVec.ofNat 32 (fieldLE l (4 * fSel w) 4)))

/-- LDS (R106: 64-bit word w of the line). -/
def execLds (t : Fin 128) (ls1 : Bool) (ecc : KwErr) (s : State) : Host.Outcome State Fault Refusal :=
  .next (s.loadOp t ls1 0x05 ecc fun w l => .sreg (fD w) (fieldLE l (8 * fWord8 w) 8))

/-- ST (R106: the line from lanes 16h to 16h + 15). -/
def execSt (t : Fin 128) (ls1 : Bool) (ecc : KwErr) (s : State) : Host.Outcome State Fault Refusal :=
  .next (s.storeOp t ls1 0x09 ecc fun w x => (upto 16).flatMap fun j => bytesFrom (4 * j) 4 (x.lane (fD w) (16 * fHalf w + j)).toNat)

/-- STN8 (R106: bytes 32h + i from bits [7:0] of lane i). -/
def execStn8 (t : Fin 128) (ls1 : Bool) (ecc : KwErr) (s : State) : Host.Outcome State Fault Refusal :=
  .next (s.storeOp t ls1 0x0A ecc fun w x => (upto 32).flatMap fun i => bytesFrom (32 * fHalf w + i) 1 (x.lane (fD w) i).toNat)

/-- STN16 (R106, R126: bits [15:0] of lane i, or lane i as BF16). -/
def execStn16 (t : Fin 128) (ls1 : Bool) (ecc : KwErr) (s : State) : Host.Outcome State Fault Refusal :=
  .next (s.storeOp t ls1 0x0B ecc fun w x => (upto 32).flatMap fun i =>
    bytesFrom (2 * i) 2 (if fHalf w = 0 then (x.lane (fD w) i).toNat else bf16Of (x.lane (fD w) i)))

/-- STS (R106: 64-bit word w from s_D). -/
def execSts (t : Fin 128) (ls1 : Bool) (ecc : KwErr) (s : State) : Host.Outcome State Fault Refusal :=
  .next (s.storeOp t ls1 0x0C ecc fun w x => bytesFrom (8 * fWord8 w) 8 (x.sreg (fD w)))

end Sys2Proof.Machine
end

