-- ==== Sys2Proof/Machine/TrellisMatrix.lean ====
section
/-! DEFINITION. The matrix and accumulator slots of a tile (spec 04, R107 to R110, spec 05, R124 to R127): one definition per
operation. -/

namespace Sys2Proof.Machine

/-- A matrix operation issues (R107). -/
def State.mxOp (s : State) (t op : Nat) : State := s.issue t 3 op fun w x => x.mxIssue w

/-- An accumulator operation with a result in v_D (R110). -/
def State.acOp (s : State) (t op lat : Nat) (f : Nat → Tile → List Word) : State :=
  s.issue t 4 op fun w x => x.toV 4 lat (fD w) (f w x)

/-- Bytes of values, `n` each, least significant first, as numbers. -/
def splitBytes (n : Nat) (l : List Nat) : List Nat := l.flatMap fun v => (upto n).map fun i => v / 256 ^ i % 256

/-- The result of a narrow format: the bytes in the low lanes, then a lane of scales, then zeros (R110). -/
def packed (bytes scales : List Nat) : List Word := fillV (wordsOf 16 bytes ++ wordsOf 1 scales)

/-- The bytes of a PACK8 row: INT8 with saturation, or the low byte of the raw bits (R110, R126). DESIGN CHOICE:
notes/assumptions/95.md. -/
def Tile.pack8Row (x : Tile) (w row : Nat) : List Nat :=
  (x.acVals w row).map fun v => if bitOf w 79 then v.toNat % 256 else int8Of v

/-- The largest exponent of the PACKM8 element format (R127). -/
def m8Max (w : Nat) : Int := if bitOf w 78 then 15 else 8

/-- The rounding of the PACKM8 element format (R127). -/
def m8Pack (w : Nat) : FV → Nat := if bitOf w 78 then packE5M2 else packE4M3

/-- MMA_I8 (R107, R109: INT8 × INT8 in INT32). -/
def execMmaI8 (t : Fin 128) (s : State) : Host.Outcome State Fault Refusal :=
  .next (s.mxOp t 1)

/-- MMA_I4 (R107, R109: INT8 × INT4 in INT32). -/
def execMmaI4 (t : Fin 128) (s : State) : Host.Outcome State Fault Refusal :=
  .next (s.mxOp t 2)

/-- MMA_BF (R107, R109: BF16 × BF16 in binary32). -/
def execMmaBf (t : Fin 128) (s : State) : Host.Outcome State Fault Refusal :=
  .next (s.mxOp t 3)

/-- MMA_MF8 (R107, R109: MXFP8 × MXFP8 in binary32). -/
def execMmaMf8 (t : Fin 128) (s : State) : Host.Outcome State Fault Refusal :=
  .next (s.mxOp t 4)

/-- MMA_MF4 (R107, R109: MXFP4 × MXFP4 in binary32). -/
def execMmaMf4 (t : Fin 128) (s : State) : Host.Outcome State Fault Refusal :=
  .next (s.mxOp t 5)

/-- MMA_MI8 (R107, R109: MXINT8 × MXINT8 in binary32). -/
def execMmaMi8 (t : Fin 128) (s : State) : Host.Outcome State Fault Refusal :=
  .next (s.mxOp t 6)

/-- MZERO (R107, R109: the accumulator cleared). -/
def execMzero (t : Fin 128) (s : State) : Host.Outcome State Fault Refusal :=
  .next (s.mxOp t 8)

/-- MMA_RESULT (R109): the accumulator of the oldest operation that is due is written. -/
def execMmaResult (t : Fin 128) (s : State) : Host.Outcome State Fault Refusal :=
  .next (
    if s.tileRuns t then
      match (s.tile t).mxDue with
      | some m => s.setTile t ((s.tile t).mxWrite m)
      | none => s
    else s)

/-- DRAIN (R110). -/
def execDrain (t : Fin 128) (s : State) : Host.Outcome State Fault Refusal :=
  .next (s.acOp t 1 4 fun w x => x.acVals w (x.acRow w))

/-- PACK8 (R110, R126). -/
def execPack8 (t : Fin 128) (s : State) : Host.Outcome State Fault Refusal :=
  .next (s.acOp t 2 6 fun w x =>
    let r := x.acRow w / 2 * 2
    packed (x.pack8Row w r ++ x.pack8Row w (r + 1)) [])

/-- PACKBF (R110, R126). DESIGN CHOICE: notes/assumptions/95.md. -/
def execPackbf (t : Fin 128) (s : State) : Host.Outcome State Fault Refusal :=
  .next (s.acOp t 3 5 fun w x =>
    packed (splitBytes 2 ((x.acVals w (x.acRow w)).map fun v => if bitOf w 79 then v.toNat % 65536 else bf16Of v)) [])

/-- PACKM8 (R110, R127). -/
def execPackm8 (t : Fin 128) (s : State) : Host.Outcome State Fault Refusal :=
  .next (s.acOp t 4 8 fun w x =>
    let a := x.acVals w (x.acRow w / 2 * 2)
    let b := x.acVals w (x.acRow w / 2 * 2 + 1)
    let p := mxScaleOf (m8Max w) a
    let q := mxScaleOf (m8Max w) b
    packed (mxElems (m8Pack w) p a ++ mxElems (m8Pack w) q b) [p, q])

/-- PACKM4 (R110, R127). -/
def execPackm4 (t : Fin 128) (s : State) : Host.Outcome State Fault Refusal :=
  .next (s.acOp t 5 8 fun w x =>
    let rows := (upto 4).map fun q => x.acVals w (x.acRow w / 4 * 4 + q)
    packed (rows.flatMap fun r => nibbles 16 (mxElems packE2M1 (mxScaleOf 2 r) r)) (rows.map (mxScaleOf 2)))

end Sys2Proof.Machine
end

