-- ==== Sys2Proof/Machine/TrellisVector.lean ====
section
/-! DEFINITION. The vector slots of a tile (spec 04, R111, R112, spec 05, R128 to R131): one definition per operation. -/

namespace Sys2Proof.Machine

/-- The slot number of a vector slot: VA is slot 5, VB slot 6. -/
def vSlot (vb : Bool) : Nat := if vb then 6 else 5

/-- A vector operation with a result in every lane of v_D. -/
def State.vecOp (s : State) (t : Nat) (vb : Bool) (op lat : Nat) (f : Nat → Tile → List Word) : State :=
  s.issue t (vSlot vb) op fun w x => x.toV (vSlot vb) lat (fD w) (f w x)

/-- The signed value of a lane. -/
def sint32 (a : Word) : Int := a.toInt

/-- Integer sums and products under ISAT (R112). -/
def Tile.vint (x : Tile) (w : Nat) (f : Int → Int → Int) : List Word :=
  x.lanes2 w fun a b => int32Result x.isat (f (sint32 a) (sint32 b))

/-- One value in every lane. -/
def spread (v : Word) : List Word := List.replicate 32 v

/-- VADD (R111, R112). -/
def execVadd (t : Fin 128) (vb : Bool) (s : State) : Host.Outcome State Fault Refusal :=
  .next (s.vecOp t vb 0x01 1 fun w x => x.vint w (· + ·))

/-- VSUB (R111, R112). -/
def execVsub (t : Fin 128) (vb : Bool) (s : State) : Host.Outcome State Fault Refusal :=
  .next (s.vecOp t vb 0x02 1 fun w x => x.vint w (· - ·))

/-- VMUL (R111, R112). -/
def execVmul (t : Fin 128) (vb : Bool) (s : State) : Host.Outcome State Fault Refusal :=
  .next (s.vecOp t vb 0x03 2 fun w x => x.vint w (· * ·))

/-- VMIN (R111: signed). -/
def execVmin (t : Fin 128) (vb : Bool) (s : State) : Host.Outcome State Fault Refusal :=
  .next (s.vecOp t vb 0x04 1 fun w x => x.lanes2 w fun a b => if sint32 a ≤ sint32 b then a else b)

/-- VMAX (R111: signed). -/
def execVmax (t : Fin 128) (vb : Bool) (s : State) : Host.Outcome State Fault Refusal :=
  .next (s.vecOp t vb 0x05 1 fun w x => x.lanes2 w fun a b => if sint32 b ≤ sint32 a then a else b)

/-- VAND (R111). -/
def execVand (t : Fin 128) (vb : Bool) (s : State) : Host.Outcome State Fault Refusal :=
  .next (s.vecOp t vb 0x06 1 fun w x => x.lanes2 w (· &&& ·))

/-- VOR (R111). -/
def execVor (t : Fin 128) (vb : Bool) (s : State) : Host.Outcome State Fault Refusal :=
  .next (s.vecOp t vb 0x07 1 fun w x => x.lanes2 w (· ||| ·))

/-- VXOR (R111). -/
def execVxor (t : Fin 128) (vb : Bool) (s : State) : Host.Outcome State Fault Refusal :=
  .next (s.vecOp t vb 0x08 1 fun w x => x.lanes2 w (· ^^^ ·))

/-- VSHL (R111). -/
def execVshl (t : Fin 128) (vb : Bool) (s : State) : Host.Outcome State Fault Refusal :=
  .next (s.vecOp t vb 0x09 1 fun w x => x.lanes2 w fun a b => a <<< (b.toNat % 32))

/-- VSHR (R111: logical). -/
def execVshr (t : Fin 128) (vb : Bool) (s : State) : Host.Outcome State Fault Refusal :=
  .next (s.vecOp t vb 0x0A 1 fun w x => x.lanes2 w fun a b => a >>> (b.toNat % 32))

/-- VSRA (R111: arithmetic). -/
def execVsra (t : Fin 128) (vb : Bool) (s : State) : Host.Outcome State Fault Refusal :=
  .next (s.vecOp t vb 0x0B 1 fun w x => x.lanes2 w fun a b => a.sshiftRight (b.toNat % 32))

/-- VCMP (R104, R111). -/
def execVcmp (t : Fin 128) (vb : Bool) (s : State) : Host.Outcome State Fault Refusal :=
  .next (s.vecOp t vb 0x0C 1 fun w x => x.lanes2 w fun a b => laneMask (ccInt 32 (fCC w) a.toNat b.toNat))

/-- VSEL (R111: v_A where v_C is not 0). -/
def execVsel (t : Fin 128) (vb : Bool) (s : State) : Host.Outcome State Fault Refusal :=
  .next (s.vecOp t vb 0x0D 1 fun w x => (upto 32).map fun i => if x.lane (fC w) i = 0 then x.lane (fB w) i else x.lane (fA w) i)

/-- VMOV (R111). -/
def execVmov (t : Fin 128) (vb : Bool) (s : State) : Host.Outcome State Fault Refusal :=
  .next (s.vecOp t vb 0x0E 1 fun w x => x.vreg (fA w))

/-- VBC (R111). -/
def execVbc (t : Fin 128) (vb : Bool) (s : State) : Host.Outcome State Fault Refusal :=
  .next (s.vecOp t vb 0x0F 1 fun w x => spread (BitVec.ofNat 32 (x.sreg (fA w))))

/-- VINS (R111: lane LANE only). -/
def execVins (t : Fin 128) (vb : Bool) (s : State) : Host.Outcome State Fault Refusal :=
  .next (s.issue t (vSlot vb) 0x10 fun w x =>
    x.later (vSlot vb) 1 (.vreg (fD w) [(fLane w, BitVec.ofNat 32 (x.sreg (fA w)))]))

/-- VPERM (R111). -/
def execVperm (t : Fin 128) (vb : Bool) (s : State) : Host.Outcome State Fault Refusal :=
  .next (s.vecOp t vb 0x11 2 fun w x => (x.vreg (fB w)).map fun i => x.lane (fA w) (i.toNat % 32))

/-- VANY (R111: a predicate). -/
def execVany (t : Fin 128) (vb : Bool) (s : State) : Host.Outcome State Fault Refusal :=
  .next (s.issue t (vSlot vb) 0x12 fun w x =>
    x.later (vSlot vb) 1 (.preg (fD w) ((x.vreg (fA w)).any (· != 0))))

/-- VRSUM (R111: the wrapping sum of all lanes). -/
def execVrsum (t : Fin 128) (vb : Bool) (s : State) : Host.Outcome State Fault Refusal :=
  .next (s.vecOp t vb 0x13 3 fun w x => spread ((x.vreg (fA w)).foldl (· + ·) 0))

/-- FADD (R111, R128). -/
def execFadd (t : Fin 128) (vb : Bool) (s : State) : Host.Outcome State Fault Refusal :=
  .next (s.vecOp t vb 0x20 4 fun w x => x.lanes2 w fadd)

/-- FSUB (R111, R128). -/
def execFsub (t : Fin 128) (vb : Bool) (s : State) : Host.Outcome State Fault Refusal :=
  .next (s.vecOp t vb 0x21 4 fun w x => x.lanes2 w fsub)

/-- FMUL (R111, R128). -/
def execFmul (t : Fin 128) (vb : Bool) (s : State) : Host.Outcome State Fault Refusal :=
  .next (s.vecOp t vb 0x22 4 fun w x => x.lanes2 w fmul)

/-- FMA (R111, R128: rounded once). -/
def execFma (t : Fin 128) (vb : Bool) (s : State) : Host.Outcome State Fault Refusal :=
  .next (s.vecOp t vb 0x23 4 fun w x => (upto 32).map fun i => ffma (x.lane (fA w) i) (x.lane (fB w) i) (x.lane (fC w) i))

/-- FMIN (R111, R128). -/
def execFmin (t : Fin 128) (vb : Bool) (s : State) : Host.Outcome State Fault Refusal :=
  .next (s.vecOp t vb 0x24 2 fun w x => x.lanes2 w fmin)

/-- FMAX (R111, R128). -/
def execFmax (t : Fin 128) (vb : Bool) (s : State) : Host.Outcome State Fault Refusal :=
  .next (s.vecOp t vb 0x25 2 fun w x => x.lanes2 w fmax)

/-- FABS (R111). -/
def execFabs (t : Fin 128) (vb : Bool) (s : State) : Host.Outcome State Fault Refusal :=
  .next (s.vecOp t vb 0x26 1 fun w x => x.lanes1 w fabs)

/-- FNEG (R111). -/
def execFneg (t : Fin 128) (vb : Bool) (s : State) : Host.Outcome State Fault Refusal :=
  .next (s.vecOp t vb 0x27 1 fun w x => x.lanes1 w fneg)

/-- FCMP (R104, R111, R129). -/
def execFcmp (t : Fin 128) (vb : Bool) (s : State) : Host.Outcome State Fault Refusal :=
  .next (s.vecOp t vb 0x28 2 fun w x => x.lanes2 w fun a b => laneMask (ccFloat (fCC w) a b))

/-- FRSUM (R111, R128: the fixed pairwise tree). -/
def execFrsum (t : Fin 128) (vb : Bool) (s : State) : Host.Outcome State Fault Refusal :=
  .next (s.vecOp t vb 0x29 8 fun w x => spread (treeSum 6 (x.vreg (fA w))))

/-- FRMAX (R111, R128). -/
def execFrmax (t : Fin 128) (vb : Bool) (s : State) : Host.Outcome State Fault Refusal :=
  .next (s.vecOp t vb 0x2A 4 fun w x => spread (acrossLanes fmax (x.vreg (fA w))))

/-- FRMIN (R111, R128). -/
def execFrmin (t : Fin 128) (vb : Bool) (s : State) : Host.Outcome State Fault Refusal :=
  .next (s.vecOp t vb 0x2B 4 fun w x => spread (acrossLanes fmin (x.vreg (fA w))))

/-- CVTIF (R111, R128). -/
def execCvtif (t : Fin 128) (vb : Bool) (s : State) : Host.Outcome State Fault Refusal :=
  .next (s.vecOp t vb 0x30 3 fun w x => x.lanes1 w fun a => f32OfInt (sint32 a))

/-- CVTFI (R111, R126). -/
def execCvtfi (t : Fin 128) (vb : Bool) (s : State) : Host.Outcome State Fault Refusal :=
  .next (s.vecOp t vb 0x31 3 fun w x => x.lanes1 w fun a => BitVec.ofInt 32 (f32ToIntSat (-2147483648) 2147483647 a))

/-- EXP (R111, R130, R131). -/
def execExp (t : Fin 128) (vb : Bool) (s : State) : Host.Outcome State Fault Refusal :=
  .next (s.vecOp t vb 0x40 6 fun w x => x.lanes1 w luExp)

/-- TANH (R111, R130, R131). -/
def execTanh (t : Fin 128) (vb : Bool) (s : State) : Host.Outcome State Fault Refusal :=
  .next (s.vecOp t vb 0x41 6 fun w x => x.lanes1 w luTanh)

/-- SIGM (R111, R130, R131). -/
def execSigm (t : Fin 128) (vb : Bool) (s : State) : Host.Outcome State Fault Refusal :=
  .next (s.vecOp t vb 0x42 6 fun w x => x.lanes1 w luSigm)

/-- RSQRT (R111, R130, R131). -/
def execRsqrt (t : Fin 128) (vb : Bool) (s : State) : Host.Outcome State Fault Refusal :=
  .next (s.vecOp t vb 0x43 6 fun w x => x.lanes1 w luRsqrt)

/-- RCP (R111, R130, R131). -/
def execRcp (t : Fin 128) (vb : Bool) (s : State) : Host.Outcome State Fault Refusal :=
  .next (s.vecOp t vb 0x44 6 fun w x => x.lanes1 w luRcp)

end Sys2Proof.Machine
end

