-- ==== Sys2Proof/Machine/TrellisStream.lean ====
section
/-! DEFINITION. The stream slot of a tile, the send engine and the mesh (spec 04, R97, R113 to R119): one definition per command. -/

namespace Sys2Proof.Machine

/-- RCV: the descriptor of the head message, and m0 from its tag when T is set (R115). -/
def Tile.receive (w : Nat) (x : Tile) : Tile :=
  match x.head (fCh w) with
  | some m =>
    let x := x.toS 7 1 (fD w) m.descr
    if bitOf w 105 then x.later 7 1 (.mreg 0 m.tag) else x
  | none => x

/-- RCV (R97, R115): an RCV without a complete message at the head of its channel stalls the whole bundle. -/
def execRcv (t : Fin 128) (s : State) : Host.Outcome State Fault Refusal :=
  let x := s.tile t
  .next (
    if s.tileRuns t ∧ x.halted = false ∧ x.stalled = false ∧ x.mustStall then s.setTile t { x with stalled := true }
    else s.issue t 7 1 Tile.receive)

/-- RCV_RESUME (R97): a complete message has arrived; the bundle issues. -/
def execRcvResume (t : Fin 128) (s : State) : Host.Outcome State Fault Refusal :=
  let x := s.tile t
  .next (if s.tileRuns t ∧ x.stalled ∧ x.mustStall = false then s.setTile t { x with stalled := false } else s)

/-- FREE (R115). -/
def execFree (t : Fin 128) (s : State) : Host.Outcome State Fault Refusal :=
  .next (s.issue t 7 2 fun w x => x.free (fCh w))

/-- SEND: a message queued, tagged with m0 at issue, or SENDQ with 16 queued (R115, R116). DESIGN CHOICE:
notes/assumptions/95.md. -/
def Tile.send (w : Nat) (x : Tile) : Tile :=
  if 16 ≤ x.sendQ.length then x.sendqFull
  else
    let m : SMsg := { ch := fCh w, tag := x.m0 % 65536, line := (x.sreg (bitsOf w 104 99) + bitsOf w 98 84) % 32768,
                      count := bitsOf w 83 76 + 1, read := [] }
    { x with sendQ := x.sendQ ++ [m] }

/-- SEND (R115, R116). -/
def execSend (t : Fin 128) (s : State) : Host.Outcome State Fault Refusal := .next (s.issue t 7 3 Tile.send)

/-- POLL (R115): never stalls. -/
def execPoll (t : Fin 128) (s : State) : Host.Outcome State Fault Refusal :=
  .next (s.issue t 7 4 fun w x => x.later 7 1 (.preg (fD w) (x.head (fCh w)).isSome))

/-! ### The sentinel's answers (R83, R119) -/

/-- The stage a tile holds: m5 [7:0] (R120). -/
def Tile.stage (x : Tile) : Nat := x.m5 % 256

/-- A stage charged with a wrong or early answer as soon as its inputs show correct (R83). -/
def State.sentCharge (s : State) : State :=
  match s.charged fun k => s.sentBad k || s.tr.sentEarly.contains k with
  | some k => s.sentFail k
  | none => s

/-- Sentinel messages of a channel that a tile has queued and not yet given to the mesh. DESIGN CHOICE:
notes/assumptions/95.md. -/
def Tile.sentQueued (x : Tile) (ch : Nat) : Nat :=
  ((x.sendQ ++ x.outbox).filter fun m => m.ch == ch && m.tag / 2 ^ 15 % 2 == 1).length

/-- A stage has not sent every sentinel message expected of it (R119). -/
def State.sentShort (s : State) (x : Tile) : Bool :=
  (upto 8).any fun ch => decide (
    tget 0 s.tr.sentMsgs (8 * x.stage + ch) + x.sentQueued ch < Config.sentCount (s.sentTable x.stage) ch)

/-- BEND (R119): the stage has finished its work on the bunch; on the sentinel bunch its answer is complete. -/
def execBend (t : Fin 128) (s : State) : Host.Outcome State Fault Refusal :=
  let x := s.tile t
  let hit := s.executes t 7 8
  let s := s.issue t 7 8 fun _ x => { x with lastBend := some x.m0 }
  .next (
    if hit ∧ x.sent ∧ s.tr.sentOn ∧ s.sentShort x then
      (s.onTr fun y => { y with sentEarly := x.stage :: y.sentEarly }).sentCharge
    else s)

/-- A finished message compared with its expected values where it is a sentinel message (R83). DEDUCED:
notes/assumptions/78.md. -/
def State.sentMessage (s : State) (n : Nat) (m : SMsg) : State :=
  if m.tag / 2 ^ 15 % 2 = 1 ∧ s.tr.sentOn then
    let k := tget 0 s.tr.sentMsgs (8 * n + m.ch)
    let ok := Config.sentOk (s.sentTable n) m.ch k m.read
    let s := s.onTr fun y => { y with
      sentMsgs := tset 0 y.sentMsgs (8 * n + m.ch) (k + 1),
      sentWrong := if ok then y.sentWrong else (8 * n + m.ch) :: y.sentWrong }
    if ok then s else s.sentCharge
  else s

/-- A finished message put on the mesh or the feed network (R69, R70). -/
def State.launch (s : State) (t : Nat) (m : SMsg) : State :=
  let x := s.tile t
  match tfind x.outCh m.ch with
  | some d => (s.onTr fun y => { y with
      mesh := y.mesh ++ [{ src := t, dest := d, tag := m.tag, lines := m.read }] }).sentMessage x.stage m
  | none => s

/-- SEND_ENGINE_START (R97, R105, R116): the engine of a stalled tile takes its clock too, and the messages it has read
leave; a halted tile sends nothing more than it has read whole. -/
def execSendEngineStart (t : Fin 128) (s : State) : Host.Outcome State Fault Refusal :=
  .next (
    if s.tileRuns t then
      let x := s.tile t
      let x := if x.stalled ∧ ¬ x.halted then x.sendClock else x
      x.outbox.foldl (State.launch · t ·) (s.setTile t { x with outbox := [] })
    else s)

/-- A message is on its way to channel `ch` of tile `t`, and not held back for the retiring column's (R70, R80). -/
def State.bound (s : State) (t ch : Nat) (m : Flight) : Bool :=
  match m.dest with
  | .stage n c => c == ch && s.tileFor n m.tag == some t && !s.heldBack m
  | .out | .vs => false

/-- MESSAGE_ARRIVAL (R70, R113, R114): the oldest message on its way to a channel of a tile lands in its buffer, while
the tile clocks run (R89). DEDUCED: notes/assumptions/80.md. -/
def execMessageArrival (t : Fin 128) (ch : Fin 8) (s : State) : Host.Outcome State Fault Refusal :=
  .next (
    match (if s.trRuns then s.tr.mesh.findIdx? (s.bound t ch) else none) with
    | some i =>
      match s.tr.mesh[i]? with
      | some m => (s.onTr fun y => { y with mesh := y.mesh.eraseIdx i }).deliverTo t ch m.tag m.lines
      | none => s
    | none => s)

end Sys2Proof.Machine
end

