-- ==== Sys2Proof/Machine/Valves.lean ====
section
/-! DEFINITION. The commands of the solenoid drivers (spec 10): requests, peak and hold phases, diagnostics, and the
steps of a valve sequence. -/

namespace Sys2Proof.Machine

/-! ### Requests (R263) -/

/-- SV_CLOSE_REQUEST: CLOSE = 1 written to SV_CHCMDn. -/
def execSvCloseRequest (n : Fin 36) (s : State) : Host.Outcome State Fault Refusal :=
  .next ((s.putBit (SV_CHCMD_CLOSE n) true).closeRequest n false)

/-- SV_OPEN_REQUEST: CLOSE = 0 written; ignored with TRIP_HELD. -/
def execSvOpenRequest (n : Fin 36) (s : State) : Host.Outcome State Fault Refusal :=
  .next (s.openRequest n).reopenCheck

/-- SV_RELEASE_WRITE: TRIP_HELD cleared unless a leak channel of the rack is WET or CONFIRMED (R250). -/
def execSvReleaseWrite (n : Fin 36) (s : State) : Host.Outcome State Fault Refusal :=
  .next (if s.chLeaks n then s else s.svRelease n)

/-! ### Peak and hold (R256 to R262) -/

/-- PEAK_START: the waiting closing starts when R260 allows it and no closing before it can (R261). -/
def execPeakStart (n : Fin 36) (s : State) : Host.Outcome State Fault Refusal :=
  if s.svSt n = 1 then
    let s := if (s.svCh n).trip then s.tripPreempt n else s
    if s.mayPeak n ∧ s.peakTurn n then .next (s.startPeak n) else .next s
  else .next s

/-- KINK_DETECT: one on-time sample of the coil current, in mA, in the peak phase (R257). DEDUCED:
notes/assumptions/40.md. -/
def execKinkDetect (n : Fin 36) (ma : Nat) (s : State) : Host.Outcome State Fault Refusal :=
  if s.svSt n = 2 ∧ s.tw.outEn then .next ((s.wr (SV_CHCUR n) (min ma 8191)).kinkSample n ma) else .next s

/-- PEAK_END: the peak phase ends, and the hold phase begins (R256, R258). -/
def execPeakEnd (n : Fin 36) (s : State) : Host.Outcome State Fault Refusal :=
  if s.svSt n = 2 ∧ s.peakOver n then .next (s.endPeakPhase n).svClock else .next s

/-- OPENING_END: REOPEN_MS after the switch-off; a rack that has reopened leaves its isolation (R259, R271). -/
def execOpeningEnd (n : Fin 36) (s : State) : Host.Outcome State Fault Refusal :=
  if s.svSt n = 5 ∧ s.since (s.svCh n).offAt (msec s.reopenMs) then .next (s.endOpening n).reopenCheck else .next s

/-- POS_CHECK: 100 ms after the kink or the unconfirmed closing, the input must show closed (R259). -/
def execPosCheck (n : Fin 36) (s : State) : Host.Outcome State Fault Refusal :=
  if s.since (s.svCh n).posDue 0 then
    .next ((s.setSvCh n { s.svCh n with posDue := none }).posCheck n true)
  else .next s

/-- A closing fails with GROUP_BUDGET (R262). -/
def State.budgetFail (s : State) (n : Nat) : State :=
  let s := (s.wr (SV_CHSTAT_STATE n) 0).setSvCh n { s.svCh n with waited := s.waitNow n, waitFrom := none }
  let s := ((s.putBit (SV_CHSTAT_GROUP_BUDGET n) true).svNote .budgetTimeout n).svEvent n 2
  (s.seqFail n).svClock

/-- GROUP_BUDGET_TIMEOUT: the wait clock has reached 200 ms (R262). -/
def execGroupBudgetTimeout (n : Fin 36) (s : State) : Host.Outcome State Fault Refusal :=
  if s.svSt n = 1 ∧ msec 200 ≤ s.waitNow n then .next (s.budgetFail n) else .next s

/-! ### Diagnostics (R264 to R268) -/

/-- The diagnostics run: the drivers are enabled and reach the valves (R269, R273). -/
def State.svDiag (s : State) : Bool := s.bit SV_CTRL_ENABLE && s.tw.outEn

/-- The next channel of the group's scan; channels held in the idle test are passed over (R266). -/
def State.scanChannel (s : State) (g : Nat) : Nat := 4 * g + (s.svGrp g).scanNext % 4

/-- OFF_STATE_VISIT: one visit of the off-state test to the group's next channel: node, rail and supply in mV (R264).
DEDUCED: notes/assumptions/40.md. -/
def execOffStateVisit (g : Fin 9) (node rail supply : Nat) (s : State) : Host.Outcome State Fault Refusal :=
  let x := s.svGrp g
  let due : Bool := match x.scanAt with
    | some t => decide (t + 125000 ≤ s.time)
    | none => true
  if s.svDiag ∧ s.rd (SV_GSTAT_HS g) ≠ 1 ∧ due = true then
    let n := s.scanChannel g
    let s := s.setSvGrp g { x with scanNext := (x.scanNext + 1) % 4, scanAt := some s.time }
    if s.rd (SV_GSTAT_HS g) = 2 ∧ s.svOn n then .next s
    else .next ((s.svMeasure n node rail).offReading n node rail supply)
  else .next s

/-- One reading of an off channel in an energized group (R265). -/
def State.onGroupReading (s : State) (n node win periods : Nat) : State :=
  let x := s.svCh n
  let opn := decide (node < 300) && decide (win < 50)
  let gnd := decide (node < 300) && decide (50 < win) && decide (20 ≤ periods)
  let y := { x with openRun := if opn then x.openRun + 1 else 0, gndRun := if gnd then x.gndRun + 1 else 0, supRun := 0 }
  let s := s.setSvCh n y
  if gnd then s.svShortGnd n (y.gndRun == 1)
  else if 3 ≤ y.openRun then s.svOpenLoad n (y.openRun == 3)
  else s

/-- ON_GROUP_VISIT: the node in mV, the group current in the common off window in mA, and for how many consecutive
periods that current has been above 50 mA (R265). DEDUCED: notes/assumptions/40.md. -/
def execOnGroupVisit (n : Fin 36) (node win periods : Nat) (s : State) : Host.Outcome State Fault Refusal :=
  if s.svDiag ∧ s.rd (SV_GSTAT_HS ((n : Nat) / 4)) = 1 ∧ ¬ s.svOn n then
    .next ((s.wr (SV_CHNODE n) (min node 65535)).onGroupReading n node win periods)
  else .next s

/-- The forced idle test of a group may begin (R266). -/
def State.mayIdle (s : State) (g : Nat) : Bool :=
  let x := s.svGrp g
  let due := match x.repeatAt with
    | some t => decide (t ≤ s.time)
    | none => s.since x.onSince (secs 60 * clampNat 1 10 (s.rd SV_TIMING_IDLE_MIN))
  s.svDiag && s.rd (SV_GSTAT_HS g) == 1 && due && (groupChs g).all fun n => s.svSt n != 1 && s.svSt n != 2

/-- The idle test's checks: a rail at supply, and the off channels whose 10 µs pulse trips the overcurrent (R266, R268).
-/
def State.idleChecks (s : State) (g rail supply : Nat) (pulse : List (Fin 4)) : State :=
  let s := if 4 * supply < 5 * rail then (s.putBit (SV_GSTAT_SHORT_SUPPLY g) true).svNote .groupFault g else s
  pulse.foldl (fun s k => if s.svOn (4 * g + k) then s else s.svBit (4 * g + k) (SV_CHSTAT_SHORT_SUPPLY (4 * g + k))) s

/-- FORCED_IDLE_TEST: the high side off for 5 ms; the rail and supply in mV, and the off channels of the group whose
on-pulse trips the 6 A overcurrent (R266). -/
def execForcedIdleTest (g : Fin 9) (rail supply : Nat) (pulse : List (Fin 4)) (s : State) :
    Host.Outcome State Fault Refusal :=
  if s.mayIdle g then
    let s := (s.wr (SV_GSTAT_HS g) 2).setSvGrp g { s.svGrp g with idleFrom := some s.time, repeatAt := none }
    .next ((s.idleChecks g rail supply pulse).gidle g)
  else .next s

/-- FORCED_IDLE_END: after 5 ms the high side turns back on (R266). -/
def execForcedIdleEnd (g : Fin 9) (s : State) : Host.Outcome State Fault Refusal :=
  if s.rd (SV_GSTAT_HS g) = 2 ∧ s.since (s.svGrp g).idleFrom (msec 5) then
    let s := (s.wr (SV_GSTAT_HS g) 1).setSvGrp g { s.svGrp g with idleFrom := none, onSince := some s.time,
                                                                  lastIdle := s.time }
    .next (s.gidle g)
  else .next s

/-- ON_STATE_CHECK: 2 ms after switch-on, once: the low-side current and the group current in the common off window, in
mA (R267). -/
def execOnStateCheck (n : Fin 36) (low win : Nat) (s : State) : Host.Outcome State Fault Refusal :=
  if s.svDiag ∧ s.svOn n ∧ s.since (s.svCh n).onAt (msec 2) ∧ ¬ (s.svCh n).checked then
    let s := (s.setSvCh n { s.svCh n with checked := true }).wr (SV_CHCUR n) (min low 8191)
    if low < 50 then .next (if 50 < win then s.svShortGnd n true else s.svOpenLoad n true) else .next s
  else .next s

/-- LOW_SIDE_OVERCURRENT: the low-side current in mA, which SV_CHCUR shows; above 6 A the channel is switched off (R267,
R268). -/
def execLowSideOvercurrent (n : Fin 36) (ma : Nat) (s : State) : Host.Outcome State Fault Refusal :=
  if s.svDiag ∧ s.svOn n then
    let s := s.wr (SV_CHCUR n) (min ma 8191)
    .next (if 6000 < ma then (s.svBit n (SV_CHSTAT_OVERCURRENT n)).svFaultOff n else s)
  else .next s

/-- The group's current limit of R268 exceeded for 10 ms. -/
def State.groupOver (s : State) (g : Nat) : State :=
  let s := (s.groupOff g).putBit (SV_GSTAT_GRP_OC g) true
  (s.setSvGrp g { s.svGrp g with ocSince := none }).svNote .groupFault g

/-- GROUP_OVERCURRENT: the group current in mA; above 3.0 A for 10 ms the high side switches off (R268). -/
def execGroupOvercurrent (g : Fin 9) (ma : Nat) (s : State) : Host.Outcome State Fault Refusal :=
  if s.svDiag then
    let s := s.wr (SV_GCUR g) (min ma 8191)
    let since := if 3000 < ma then some ((s.svGrp g).ocSince.getD s.time) else none
    let s := (s.setSvGrp g { s.svGrp g with ocSince := since }).svClock
    if s.since since (msec 10) ∧ ¬ s.heldOff g then .next (s.groupOver g) else .next s
  else .next s

/-- GROUP_RETURN: the off-state test has passed for 1 s, and a group held off returns to service (R268). -/
def execGroupReturn (g : Fin 9) (s : State) : Host.Outcome State Fault Refusal :=
  if s.svDiag ∧ s.heldOff g ∧ s.since (s.svGrp g).passSince (secs 1) then
    .next (((s.wr (SV_GSTAT_HS g) 0).putBit (SV_GSTAT_GRP_FAULT g) false).log 7 .groupFault 0 [g]).svClock
  else .next s

/-! ### The steps of a sequence (R271) -/

/-- The step and those that start together with it. DEDUCED: notes/assumptions/73.md. -/
def stepSet : List SvStep → List SvStep
  | [] => []
  | p :: ps => if p.withNext then p :: stepSet ps else [p]

/-- A step marked in progress, by its position. -/
def markSteps : Nat → Nat → List SvStep → List SvStep
  | _, _, [] => []
  | 0, 0, ps => ps
  | 0, n + 1, p :: ps => { p with phase := 1 } :: markSteps 0 n ps
  | k + 1, n, p :: ps => p :: markSteps k n ps

/-- A step that ends as it starts: the channel is there already. DEDUCED: notes/assumptions/73.md. -/
def State.stepAtOnce (s : State) (p : SvStep) : State :=
  let st := s.svSt p.ch
  if p.action = 1 then (if st = 3 ∨ st = 4 ∧ ¬ p.confirm then s.seqComplete p.ch true else s)
  else if st = 0 then (s.posCheck p.ch false).seqComplete p.ch false
  else s

/-- One step started: an opening that a trip or a leak forbids aborts the sequence (R271). -/
def State.startStep (s : State) (p : SvStep) : State :=
  if s.sv.seqJournal.isNone then s
  else if p.action = 1 then ((s.putBit (SV_CHCMD_CLOSE p.ch) true).closeRequest p.ch false).stepAtOnce p
  else if p.action = 2 then
    if s.bit (SV_CHSTAT_TRIP_HELD p.ch) then s.seqEnd .aborted 0 else (s.openRequest p.ch).stepAtOnce p
  else if s.chLeaks p.ch then s.seqEnd .aborted 0
  else ((s.svRelease p.ch).openRequest p.ch).stepAtOnce p

/-- SEQUENCE_STEP_START: the next step set starts once every earlier step has completed and waited (R271). -/
def execSequenceStepStart (s : State) : Host.Outcome State Fault Refusal :=
  let k := (s.sv.steps.takeWhile fun p => p.phase == 3).length
  let rest := s.sv.steps.drop k
  if s.sv.seqJournal.isSome ∧ rest ≠ [] ∧ rest.all (fun p => p.phase == 0) then
    let set := stepSet rest
    let s := s.onSv fun y => { y with steps := markSteps k set.length y.steps }
    .next (set.foldl State.startStep s)
  else .next s

/-- SEQUENCE_WAIT_END: a step's wait after its completion has passed; the last ends the journal (R271). -/
def execSequenceWaitEnd (i : Fin 32) (s : State) : Host.Outcome State Fault Refusal :=
  match s.sv.steps[(i : Nat)]? with
  | none => .next s
  | some p =>
    if p.phase = 2 ∧ p.doneAt + msec p.wait ≤ s.time then
      let s := s.onSv fun y => { y with steps := y.steps.set i { p with phase := 3 } }
      if s.sv.steps.all (fun q => q.phase == 3) then .next (s.seqEnd .done 0) else .next s
    else .next s

end Sys2Proof.Machine
end

