-- ==== Sys2Proof/Machine/Dispatch.lean ====
section
/-! DEFINITION. One arm per command: each calls the one definition that gives the command its meaning. -/

namespace Sys2Proof.Machine

/-- The effect of a command on the state, the queue apart. -/
def exec (i : Instr) (s : State) : Host.Outcome State Fault Refusal :=
  match i with
  | .powerOn => Sys2Proof.Machine.execPowerOn s
  | .vinBrownout => Sys2Proof.Machine.execVinBrownout s
  | .resetButton => Sys2Proof.Machine.execResetButton s
  | .scheduledWarmReset => Sys2Proof.Machine.execScheduledWarmReset s
  | .supplyLoss => Sys2Proof.Machine.execSupplyLoss s
  | .bootStage0Done => Sys2Proof.Machine.execBootStage0Done s
  | .bootStage1Done => Sys2Proof.Machine.execBootStage1Done s
  | .ddr4Ready bad => Sys2Proof.Machine.execDdr4Ready bad s
  | .tileSelftestDone failed => Sys2Proof.Machine.execTileSelftestDone failed s
  | .bootConfigRestored crcOk => Sys2Proof.Machine.execBootConfigRestored crcOk s
  | .tableInputsValid => Sys2Proof.Machine.execTableInputsValid s
  | .claimEnable => Sys2Proof.Machine.execClaimEnable s
  | .bootEnd => Sys2Proof.Machine.execBootEnd s
  | .bootWatchdogExpiry => Sys2Proof.Machine.execBootWatchdogExpiry s
  | .trialConfirm => Sys2Proof.Machine.execTrialConfirm s
  | .frameBoundary => Sys2Proof.Machine.execFrameBoundary s
  | .tickBoundary brakes => Sys2Proof.Machine.execTickBoundary brakes s
  | .hostSilenceTimeout => Sys2Proof.Machine.execHostSilenceTimeout s
  | .isolateEntry => Sys2Proof.Machine.execIsolateEntry s
  | .shedExit => Sys2Proof.Machine.execShedExit s
  | .shedPredictiveResume => Sys2Proof.Machine.execShedPredictiveResume s
  | .survivalExit => Sys2Proof.Machine.execSurvivalExit s
  | .cutoffTick => Sys2Proof.Machine.execCutoffTick s
  | .sampleEvaluation p agree => Sys2Proof.Machine.execSampleEvaluation p agree s
  | .checkEvaluation p correct => Sys2Proof.Machine.execCheckEvaluation p correct s
  | .sampleDeadlineMiss k => Sys2Proof.Machine.execSampleDeadlineMiss k s
  | .frameLengthChange => Sys2Proof.Machine.execFrameLengthChange s
  | .ctxSilent c => Sys2Proof.Machine.execCtxSilent c s
  | .vsTimeout k => Sys2Proof.Machine.execVsTimeout k s
  | .primaryRestore k => Sys2Proof.Machine.execPrimaryRestore k s
  | .pairAgreementClear k => Sys2Proof.Machine.execPairAgreementClear k s
  | .rcPageGrant => Sys2Proof.Machine.execRcPageGrant s
  | .rcPeriodEstimate k est => Sys2Proof.Machine.execRcPeriodEstimate k est s
  | .injectionStart c => Sys2Proof.Machine.execInjectionStart c s
  | .captureDone c => Sys2Proof.Machine.execCaptureDone c s
  | .bobbinPostComplete b => Sys2Proof.Machine.execBobbinPostComplete b s
  | .bobbinRingFull b => Sys2Proof.Machine.execBobbinRingFull b s
  | .slotApply k => Sys2Proof.Machine.execSlotApply k s
  | .leRcDataAccess v => Sys2Proof.Machine.execLeRcDataAccess v s
  | .injCtrlStart c => Sys2Proof.Machine.execInjCtrlStart c s
  | .injCtrlStop c => Sys2Proof.Machine.execInjCtrlStop c s
  | .bobArm b => Sys2Proof.Machine.execBobArm b s
  | .bobStop b => Sys2Proof.Machine.execBobStop b s
  | .bobMark b => Sys2Proof.Machine.execBobMark b s
  | .bobSwTrig b => Sys2Proof.Machine.execBobSwTrig b s
  | .sentinelBunchEntry => Sys2Proof.Machine.execSentinelBunchEntry s
  | .bunchEntry => Sys2Proof.Machine.execBunchEntry s
  | .predictionDelivery => Sys2Proof.Machine.execPredictionDelivery s
  | .virtualSensorDelivery => Sys2Proof.Machine.execVirtualSensorDelivery s
  | .readmissionDone => Sys2Proof.Machine.execReadmissionDone s
  | .rotationPeriodExpiry => Sys2Proof.Machine.execRotationPeriodExpiry s
  | .spareSelftestDone failed => Sys2Proof.Machine.execSpareSelftestDone failed s
  | .preloadDone => Sys2Proof.Machine.execPreloadDone s
  | .rotationCaptureStart => Sys2Proof.Machine.execRotationCaptureStart s
  | .rotationSwitch => Sys2Proof.Machine.execRotationSwitch s
  | .rotationMirrorStop => Sys2Proof.Machine.execRotationMirrorStop s
  | .tileScrub t check => Sys2Proof.Machine.execTileScrub t check s
  | .trRotNow => Sys2Proof.Machine.execTrRotNow s
  | .trDbgDataAccess access => Sys2Proof.Machine.execTrDbgDataAccess access s
  | .nop t slot => Sys2Proof.Machine.execNop t slot s
  | .illegalOperation t slot => Sys2Proof.Machine.execIllegalOperation t slot s
  | .add t => Sys2Proof.Machine.execAdd t s
  | .sub t => Sys2Proof.Machine.execSub t s
  | .and t => Sys2Proof.Machine.execAnd t s
  | .or t => Sys2Proof.Machine.execOr t s
  | .xor t => Sys2Proof.Machine.execXor t s
  | .shl t => Sys2Proof.Machine.execShl t s
  | .shr t => Sys2Proof.Machine.execShr t s
  | .sra t => Sys2Proof.Machine.execSra t s
  | .mul t => Sys2Proof.Machine.execMul t s
  | .min t => Sys2Proof.Machine.execMin t s
  | .max t => Sys2Proof.Machine.execMax t s
  | .addi t => Sys2Proof.Machine.execAddi t s
  | .li t => Sys2Proof.Machine.execLi t s
  | .andi t => Sys2Proof.Machine.execAndi t s
  | .cmp t => Sys2Proof.Machine.execCmp t s
  | .cmpi t => Sys2Proof.Machine.execCmpi t s
  | .pand t => Sys2Proof.Machine.execPand t s
  | .por t => Sys2Proof.Machine.execPor t s
  | .pxor t => Sys2Proof.Machine.execPxor t s
  | .pnot t => Sys2Proof.Machine.execPnot t s
  | .movfm t => Sys2Proof.Machine.execMovfm t s
  | .movtm t => Sys2Proof.Machine.execMovtm t s
  | .vext t => Sys2Proof.Machine.execVext t s
  | .br t => Sys2Proof.Machine.execBr t s
  | .loop t => Sys2Proof.Machine.execLoop t s
  | .bri t => Sys2Proof.Machine.execBri t s
  | .halt t => Sys2Proof.Machine.execHalt t s
  | .ld t ls1 ecc => Sys2Proof.Machine.execLd t ls1 ecc s
  | .ldx8 t ls1 ecc => Sys2Proof.Machine.execLdx8 t ls1 ecc s
  | .ldx16 t ls1 ecc => Sys2Proof.Machine.execLdx16 t ls1 ecc s
  | .ldb t ls1 ecc => Sys2Proof.Machine.execLdb t ls1 ecc s
  | .lds t ls1 ecc => Sys2Proof.Machine.execLds t ls1 ecc s
  | .st t ls1 ecc => Sys2Proof.Machine.execSt t ls1 ecc s
  | .stn8 t ls1 ecc => Sys2Proof.Machine.execStn8 t ls1 ecc s
  | .stn16 t ls1 ecc => Sys2Proof.Machine.execStn16 t ls1 ecc s
  | .sts t ls1 ecc => Sys2Proof.Machine.execSts t ls1 ecc s
  | .mmaI8 t => Sys2Proof.Machine.execMmaI8 t s
  | .mmaI4 t => Sys2Proof.Machine.execMmaI4 t s
  | .mmaBf t => Sys2Proof.Machine.execMmaBf t s
  | .mmaMf8 t => Sys2Proof.Machine.execMmaMf8 t s
  | .mmaMf4 t => Sys2Proof.Machine.execMmaMf4 t s
  | .mmaMi8 t => Sys2Proof.Machine.execMmaMi8 t s
  | .mzero t => Sys2Proof.Machine.execMzero t s
  | .mmaResult t => Sys2Proof.Machine.execMmaResult t s
  | .drain t => Sys2Proof.Machine.execDrain t s
  | .pack8 t => Sys2Proof.Machine.execPack8 t s
  | .packbf t => Sys2Proof.Machine.execPackbf t s
  | .packm8 t => Sys2Proof.Machine.execPackm8 t s
  | .packm4 t => Sys2Proof.Machine.execPackm4 t s
  | .vadd t vb => Sys2Proof.Machine.execVadd t vb s
  | .vsub t vb => Sys2Proof.Machine.execVsub t vb s
  | .vmul t vb => Sys2Proof.Machine.execVmul t vb s
  | .vmin t vb => Sys2Proof.Machine.execVmin t vb s
  | .vmax t vb => Sys2Proof.Machine.execVmax t vb s
  | .vand t vb => Sys2Proof.Machine.execVand t vb s
  | .vor t vb => Sys2Proof.Machine.execVor t vb s
  | .vxor t vb => Sys2Proof.Machine.execVxor t vb s
  | .vshl t vb => Sys2Proof.Machine.execVshl t vb s
  | .vshr t vb => Sys2Proof.Machine.execVshr t vb s
  | .vsra t vb => Sys2Proof.Machine.execVsra t vb s
  | .vcmp t vb => Sys2Proof.Machine.execVcmp t vb s
  | .vsel t vb => Sys2Proof.Machine.execVsel t vb s
  | .vmov t vb => Sys2Proof.Machine.execVmov t vb s
  | .vbc t vb => Sys2Proof.Machine.execVbc t vb s
  | .vins t vb => Sys2Proof.Machine.execVins t vb s
  | .vperm t vb => Sys2Proof.Machine.execVperm t vb s
  | .vany t vb => Sys2Proof.Machine.execVany t vb s
  | .vrsum t vb => Sys2Proof.Machine.execVrsum t vb s
  | .fadd t vb => Sys2Proof.Machine.execFadd t vb s
  | .fsub t vb => Sys2Proof.Machine.execFsub t vb s
  | .fmul t vb => Sys2Proof.Machine.execFmul t vb s
  | .fma t vb => Sys2Proof.Machine.execFma t vb s
  | .fmin t vb => Sys2Proof.Machine.execFmin t vb s
  | .fmax t vb => Sys2Proof.Machine.execFmax t vb s
  | .fabs t vb => Sys2Proof.Machine.execFabs t vb s
  | .fneg t vb => Sys2Proof.Machine.execFneg t vb s
  | .fcmp t vb => Sys2Proof.Machine.execFcmp t vb s
  | .frsum t vb => Sys2Proof.Machine.execFrsum t vb s
  | .frmax t vb => Sys2Proof.Machine.execFrmax t vb s
  | .frmin t vb => Sys2Proof.Machine.execFrmin t vb s
  | .cvtif t vb => Sys2Proof.Machine.execCvtif t vb s
  | .cvtfi t vb => Sys2Proof.Machine.execCvtfi t vb s
  | .exp t vb => Sys2Proof.Machine.execExp t vb s
  | .tanh t vb => Sys2Proof.Machine.execTanh t vb s
  | .sigm t vb => Sys2Proof.Machine.execSigm t vb s
  | .rsqrt t vb => Sys2Proof.Machine.execRsqrt t vb s
  | .rcp t vb => Sys2Proof.Machine.execRcp t vb s
  | .rcv t => Sys2Proof.Machine.execRcv t s
  | .rcvResume t => Sys2Proof.Machine.execRcvResume t s
  | .free t => Sys2Proof.Machine.execFree t s
  | .send t => Sys2Proof.Machine.execSend t s
  | .poll t => Sys2Proof.Machine.execPoll t s
  | .bend t => Sys2Proof.Machine.execBend t s
  | .sendEngineStart t => Sys2Proof.Machine.execSendEngineStart t s
  | .messageArrival t ch => Sys2Proof.Machine.execMessageArrival t ch s
  | .sleepInstruction t => Sys2Proof.Machine.execSleepInstruction t s
  | .modelLoadChunk p => Sys2Proof.Machine.execModelLoadChunk p s
  | .commitModel p => Sys2Proof.Machine.execCommitModel p s
  | .revertModel p => Sys2Proof.Machine.execRevertModel p s
  | .admissionReport p => Sys2Proof.Machine.execAdmissionReport p s
  | .commitDigestCheck => Sys2Proof.Machine.execCommitDigestCheck s
  | .commitTrellisStop => Sys2Proof.Machine.execCommitTrellisStop s
  | .commitLoadDone ok => Sys2Proof.Machine.execCommitLoadDone ok s
  | .commitEnable => Sys2Proof.Machine.execCommitEnable s
  | .commitWarmDone => Sys2Proof.Machine.execCommitWarmDone s
  | .contextAdd p => Sys2Proof.Machine.execContextAdd p s
  | .contextRemove p => Sys2Proof.Machine.execContextRemove p s
  | .leaseRenewalDue c => Sys2Proof.Machine.execLeaseRenewalDue c s
  | .capWriteStart => Sys2Proof.Machine.execCapWriteStart s
  | .capWriteCompletion c success => Sys2Proof.Machine.execCapWriteCompletion c success s
  | .capWriteTimeout c => Sys2Proof.Machine.execCapWriteTimeout c s
  | .leaseLapse c => Sys2Proof.Machine.execLeaseLapse c s
  | .capRecordExpiry c => Sys2Proof.Machine.execCapRecordExpiry c s
  | .overCap c => Sys2Proof.Machine.execOverCap c s
  | .pbBrakeForceWrite v => Sys2Proof.Machine.execPbBrakeForceWrite v s
  | .postSeqWrite v => Sys2Proof.Machine.execPostSeqWrite v s
  | .bar4Write off v => Sys2Proof.Machine.execBar4Write off v s
  | .bar2Write off bytes => Sys2Proof.Machine.execBar2Write off bytes s
  | .packetTimeout p slotB => Sys2Proof.Machine.execPacketTimeout p slotB s
  | .unpackComplete => Sys2Proof.Machine.execUnpackComplete s
  | .fieldStreamPublish k p => Sys2Proof.Machine.execFieldStreamPublish k p s
  | .sampleBankSwap q => Sys2Proof.Machine.execSampleBankSwap q s
  | .sqPopRead r => Sys2Proof.Machine.execSqPopRead r s
  | .popStallEnd q => Sys2Proof.Machine.execPopStallEnd q s
  | .popDeadline q => Sys2Proof.Machine.execPopDeadline q s
  | .flushRequest q => Sys2Proof.Machine.execFlushRequest q s
  | .flushPoint q => Sys2Proof.Machine.execFlushPoint q s
  | .queueReset q => Sys2Proof.Machine.execQueueReset q s
  | .pumpKick k => Sys2Proof.Machine.execPumpKick k s
  | .kickEnd k pulses sinceLast => Sys2Proof.Machine.execKickEnd k pulses sinceLast s
  | .kickRetry k => Sys2Proof.Machine.execKickRetry k s
  | .tachLoss k => Sys2Proof.Machine.execTachLoss k s
  | .tachRestore k rpm => Sys2Proof.Machine.execTachRestore k rpm s
  | .currentBandExit k => Sys2Proof.Machine.execCurrentBandExit k s
  | .driveFault n closed can => Sys2Proof.Machine.execDriveFault n closed can s
  | .pumpStageIn => Sys2Proof.Machine.execPumpStageIn s
  | .pumpStageOut => Sys2Proof.Machine.execPumpStageOut s
  | .pumpRotation => Sys2Proof.Machine.execPumpRotation s
  | .runHoursSave => Sys2Proof.Machine.execRunHoursSave s
  | .pfRotNowWrite => Sys2Proof.Machine.execPfRotNowWrite s
  | .channelReenable k => Sys2Proof.Machine.execChannelReenable k s
  | .fanOvercurrent k ma => Sys2Proof.Machine.execFanOvercurrent k ma s
  | .aoOpen n read opened => Sys2Proof.Machine.execAoOpen n read opened s
  | .aoOverload n ma => Sys2Proof.Machine.execAoOverload n ma s
  | .slowFallEvaluation => Sys2Proof.Machine.execSlowFallEvaluation s
  | .pulseLost => Sys2Proof.Machine.execPulseLost s
  | .pressLost => Sys2Proof.Machine.execPressLost s
  | .tripArm => Sys2Proof.Machine.execTripArm s
  | .flowRestored => Sys2Proof.Machine.execFlowRestored s
  | .calMinute r pRep vRaw tSup tRet ref => Sys2Proof.Machine.execCalMinute r pRep vRaw tSup tRet ref s
  | .calStateSave => Sys2Proof.Machine.execCalStateSave s
  | .rtdConversion n raw offset compliant => Sys2Proof.Machine.execRtdConversion n raw offset compliant s
  | .maConversion n raw offset limit => Sys2Proof.Machine.execMaConversion n raw offset limit s
  | .sensorFaultClear k => Sys2Proof.Machine.execSensorFaultClear k s
  | .noPulseTimeout n => Sys2Proof.Machine.execNoPulseTimeout n s
  | .dinDebounce k level => Sys2Proof.Machine.execDinDebounce k level s
  | .leakSample k ohm loop loc => Sys2Proof.Machine.execLeakSample k ohm loop loc s
  | .lkAckWrite k => Sys2Proof.Machine.execLkAckWrite k s
  | .cpEvaluation flow tin tout failed wet => Sys2Proof.Machine.execCpEvaluation flow tin tout failed wet s
  | .derateStart => Sys2Proof.Machine.execDerateStart s
  | .derateEnd => Sys2Proof.Machine.execDerateEnd s
  | .svCloseRequest n => Sys2Proof.Machine.execSvCloseRequest n s
  | .svOpenRequest n => Sys2Proof.Machine.execSvOpenRequest n s
  | .svReleaseWrite n => Sys2Proof.Machine.execSvReleaseWrite n s
  | .peakStart n => Sys2Proof.Machine.execPeakStart n s
  | .kinkDetect n ma => Sys2Proof.Machine.execKinkDetect n ma s
  | .peakEnd n => Sys2Proof.Machine.execPeakEnd n s
  | .openingEnd n => Sys2Proof.Machine.execOpeningEnd n s
  | .posCheck n => Sys2Proof.Machine.execPosCheck n s
  | .groupBudgetTimeout n => Sys2Proof.Machine.execGroupBudgetTimeout n s
  | .offStateVisit g node rail supply => Sys2Proof.Machine.execOffStateVisit g node rail supply s
  | .onGroupVisit n node win periods => Sys2Proof.Machine.execOnGroupVisit n node win periods s
  | .forcedIdleTest g rail supply pulse => Sys2Proof.Machine.execForcedIdleTest g rail supply pulse s
  | .forcedIdleEnd g => Sys2Proof.Machine.execForcedIdleEnd g s
  | .onStateCheck n low win => Sys2Proof.Machine.execOnStateCheck n low win s
  | .lowSideOvercurrent n ma => Sys2Proof.Machine.execLowSideOvercurrent n ma s
  | .groupOvercurrent g ma => Sys2Proof.Machine.execGroupOvercurrent g ma s
  | .groupReturn g => Sys2Proof.Machine.execGroupReturn g s
  | .valveSequence p => Sys2Proof.Machine.execValveSequence p s
  | .sequenceStepStart => Sys2Proof.Machine.execSequenceStepStart s
  | .sequenceWaitEnd k => Sys2Proof.Machine.execSequenceWaitEnd k s
  | .canFrameReceive n f e sof => Sys2Proof.Machine.execCanFrameReceive n f e sof s
  | .canTxStart n => Sys2Proof.Machine.execCanTxStart n s
  | .canTxComplete n ok e => Sys2Proof.Machine.execCanTxComplete n ok e s
  | .canRecoveryDone n => Sys2Proof.Machine.execCanRecoveryDone n s
  | .fbRecoverWrite n => Sys2Proof.Machine.execFbRecoverWrite n s
  | .fbReqWrite n m => Sys2Proof.Machine.execFbReqWrite n m s
  | .fbAbortWrite n m => Sys2Proof.Machine.execFbAbortWrite n m s
  | .fbInitClear n => Sys2Proof.Machine.execFbInitClear n s
  | .mbLockRead n m => Sys2Proof.Machine.execMbLockRead n m s
  | .mbReleaseRead n m => Sys2Proof.Machine.execMbReleaseRead n m s
  | .mbLockTimeout n m => Sys2Proof.Machine.execMbLockTimeout n m s
  | .basicCycleStart n ref => Sys2Proof.Machine.execBasicCycleStart n ref s
  | .windowMark n idle => Sys2Proof.Machine.execWindowMark n idle s
  | .nodeSupervisionInterval n => Sys2Proof.Machine.execNodeSupervisionInterval n s
  | .configReqRetry n node => Sys2Proof.Machine.execConfigReqRetry n node s
  | .canopenDriveStartup p n node maxSpeed rated => Sys2Proof.Machine.execCanopenDriveStartup p n node maxSpeed rated s
  | .rpdoTransmit p => Sys2Proof.Machine.execRpdoTransmit p s
  | .doorbellWrite v => Sys2Proof.Machine.execDoorbellWrite v s
  | .groupTimerFire g => Sys2Proof.Machine.execGroupTimerFire g s
  | .deliveryDecision t => Sys2Proof.Machine.execDeliveryDecision t s
  | .eoiWrite t by_ v => Sys2Proof.Machine.execEoiWrite t by_ v s
  | .moderationIntervalEnd t => Sys2Proof.Machine.execModerationIntervalEnd t s
  | .lineInvalid h l => Sys2Proof.Machine.execLineInvalid h l s
  | .lineValid owned => Sys2Proof.Machine.execLineValid owned s
  | .claim freeFor => Sys2Proof.Machine.execClaim freeFor s
  | .guardEnd => Sys2Proof.Machine.execGuardEnd s
  | .heartbeatSend => Sys2Proof.Machine.execHeartbeatSend s
  | .heartbeatReceive p => Sys2Proof.Machine.execHeartbeatReceive p s
  | .heartbeatLoss => Sys2Proof.Machine.execHeartbeatLoss s
  | .twinLinkFrameReceive f => Sys2Proof.Machine.execTwinLinkFrameReceive f s
  | .linkAckSend => Sys2Proof.Machine.execLinkAckSend s
  | .linkReplayTimeout => Sys2Proof.Machine.execLinkReplayTimeout s
  | .linkLaneFail lane => Sys2Proof.Machine.execLinkLaneFail lane s
  | .linkRetrainDone lanes => Sys2Proof.Machine.execLinkRetrainDone lanes s
  | .frameEndMissing => Sys2Proof.Machine.execFrameEndMissing s
  | .lockstepMismatch => Sys2Proof.Machine.execLockstepMismatch s
  | .supervisorWatchdogExpiry => Sys2Proof.Machine.execSupervisorWatchdogExpiry s
  | .handoverRequest p => Sys2Proof.Machine.execHandoverRequest p s
  | .handoverPrepare => Sys2Proof.Machine.execHandoverPrepare s
  | .handoverRelease => Sys2Proof.Machine.execHandoverRelease s
  | .handoverComplete => Sys2Proof.Machine.execHandoverComplete s
  | .resyncStart => Sys2Proof.Machine.execResyncStart s
  | .resyncEnd => Sys2Proof.Machine.execResyncEnd s
  | .twReleaseWrite by_ => Sys2Proof.Machine.execTwReleaseWrite by_ s
  | .twFaultWrite by_ => Sys2Proof.Machine.execTwFaultWrite by_ s
  | .hdmRead a e => Sys2Proof.Machine.execHdmRead a e s
  | .hdmWrite a bs => Sys2Proof.Machine.execHdmWrite a bs s
  | .patrolScrub pages found => Sys2Proof.Machine.execPatrolScrub pages found s
  | .tier0BlockWrite => Sys2Proof.Machine.execTier0BlockWrite s
  | .racking => Sys2Proof.Machine.execRacking s
  | .snapshotLatch => Sys2Proof.Machine.execSnapshotLatch s
  | .snapshotWritten => Sys2Proof.Machine.execSnapshotWritten s
  | .cxlLinkUp rate width host => Sys2Proof.Machine.execCxlLinkUp rate width host s
  | .cxlInterfaceReset flr => Sys2Proof.Machine.execCxlInterfaceReset flr s
  | .ptmDialog offset => Sys2Proof.Machine.execPtmDialog offset s
  | .timebaseStep dest partner => Sys2Proof.Machine.execTimebaseStep dest partner s
  | .aerError uncorrectable => Sys2Proof.Machine.execAerError uncorrectable s
  | .unsupportedCommand op => Sys2Proof.Machine.execUnsupportedCommand op s
  | .identifyMemoryDevice => Sys2Proof.Machine.execIdentifyMemoryDevice s
  | .getSupportedLogs => Sys2Proof.Machine.execGetSupportedLogs s
  | .getLog => Sys2Proof.Machine.execGetLog s
  | .getEventRecords => Sys2Proof.Machine.execGetEventRecords s
  | .clearEventRecords n => Sys2Proof.Machine.execClearEventRecords n s
  | .getTimestamp => Sys2Proof.Machine.execGetTimestamp s
  | .setTimestamp ns => Sys2Proof.Machine.execSetTimestamp ns s
  | .getIdentity p => Sys2Proof.Machine.execGetIdentity p s
  | .getState p => Sys2Proof.Machine.execGetState p s
  | .setModeTable p => Sys2Proof.Machine.execSetModeTable p s
  | .setModeReactive p => Sys2Proof.Machine.execSetModeReactive p s
  | .setModePredictive p => Sys2Proof.Machine.execSetModePredictive p s
  | .setModeHold p => Sys2Proof.Machine.execSetModeHold p s
  | .setModeService p => Sys2Proof.Machine.execSetModeService p s
  | .setModeReset p => Sys2Proof.Machine.execSetModeReset p s
  | .keepalive p => Sys2Proof.Machine.execKeepalive p s
  | .configWrite p => Sys2Proof.Machine.execConfigWrite p s
  | .configRead p => Sys2Proof.Machine.execConfigRead p s
  | .configReport p => Sys2Proof.Machine.execConfigReport p s
  | .contextList p => Sys2Proof.Machine.execContextList p s
  | .setBudget p => Sys2Proof.Machine.execSetBudget p s
  | .getBudget p => Sys2Proof.Machine.execGetBudget p s
  | .setLease p => Sys2Proof.Machine.execSetLease p s
  | .loopSet p => Sys2Proof.Machine.execLoopSet p s
  | .loopGet p => Sys2Proof.Machine.execLoopGet p s
  | .injectStart p => Sys2Proof.Machine.execInjectStart p s
  | .captureRead p => Sys2Proof.Machine.execCaptureRead p s
  | .bobbinArm p => Sys2Proof.Machine.execBobbinArm p s
  | .bobbinRead p => Sys2Proof.Machine.execBobbinRead p s
  | .pumpDisable p => Sys2Proof.Machine.execPumpDisable p s
  | .pumpEnable p => Sys2Proof.Machine.execPumpEnable p s
  | .pumpSetSpeed p => Sys2Proof.Machine.execPumpSetSpeed p s
  | .tableWrite p => Sys2Proof.Machine.execTableWrite p s
  | .snapshotAt p => Sys2Proof.Machine.execSnapshotAt p s
  | .queryProgress p => Sys2Proof.Machine.execQueryProgress p s
  | .readLog p => Sys2Proof.Machine.execReadLog p s
  | .updateBegin p => Sys2Proof.Machine.execUpdateBegin p s
  | .updateChunk p => Sys2Proof.Machine.execUpdateChunk p s
  | .updateVerify p => Sys2Proof.Machine.execUpdateVerify p s
  | .updateActivate p => Sys2Proof.Machine.execUpdateActivate p s
  | .updateRatchet p => Sys2Proof.Machine.execUpdateRatchet p s
  | .updateAbort p => Sys2Proof.Machine.execUpdateAbort p s
  | .updateProgramDone ok => Sys2Proof.Machine.execUpdateProgramDone ok s
  | .updateActivationReset => Sys2Proof.Machine.execUpdateActivationReset s
  | .attest p => Sys2Proof.Machine.execAttest p s
  | .calibrationStatus p => Sys2Proof.Machine.execCalibrationStatus p s
  | .calibrationControl p => Sys2Proof.Machine.execCalibrationControl p s
  | .modbusWriteGrant p => Sys2Proof.Machine.execModbusWriteGrant p s
  | .modbusWriteRevoke p => Sys2Proof.Machine.execModbusWriteRevoke p s
  | .modbusGrantEnd => Sys2Proof.Machine.execModbusGrantEnd s
  | .twinStatus p => Sys2Proof.Machine.execTwinStatus p s
  | .modbusReadHolding conn addr count => Sys2Proof.Machine.execModbusReadHolding conn addr count s
  | .modbusReadInput conn addr count => Sys2Proof.Machine.execModbusReadInput conn addr count s
  | .modbusWriteSingle conn addr v => Sys2Proof.Machine.execModbusWriteSingle conn addr v s
  | .modbusWriteMultiple conn addr vals => Sys2Proof.Machine.execModbusWriteMultiple conn addr vals s
  | .modbusAlarmAck conn => Sys2Proof.Machine.execModbusAlarmAck conn s
  | .modbusBadFunction conn => Sys2Proof.Machine.execModbusBadFunction conn s
  | .modbusIdleClose conn => Sys2Proof.Machine.execModbusIdleClose conn s
  | .boardSensorWarning q v => Sys2Proof.Machine.execBoardSensorWarning q v s
  | .dieTemperatureWarning d t => Sys2Proof.Machine.execDieTemperatureWarning d t s
  | .dieShutdown d t => Sys2Proof.Machine.execDieShutdown d t s
  | .vinUndervoltage => Sys2Proof.Machine.execVinUndervoltage s
  | .actuatorUndervoltage => Sys2Proof.Machine.execActuatorUndervoltage s
  | .pllUnlock => Sys2Proof.Machine.execPllUnlock s
  | .coreStallDetect c => Sys2Proof.Machine.execCoreStallDetect c s
  | .logFlush => Sys2Proof.Machine.execLogFlush s
  | .timebaseSave => Sys2Proof.Machine.execTimebaseSave s
  | .mgMessagePost wptr => Sys2Proof.Machine.execMgMessagePost wptr s
  | .mgAnswer words => Sys2Proof.Machine.execMgAnswer words s
  | .warmArmWrite by_ => Sys2Proof.Machine.execWarmArmWrite by_ s
  | .ckTimeLoRead => Sys2Proof.Machine.execCkTimeLoRead s
  | .tripRowLatch r => Sys2Proof.Machine.execTripRowLatch r s
  | .tmLockWrite => Sys2Proof.Machine.execTmLockWrite s
  | .tripLatchClear w v => Sys2Proof.Machine.execTripLatchClear w v s
  | .rcRegisterRead addr => Sys2Proof.Machine.execRcRegisterRead addr s
  | .registerWrite by_ addr v => Sys2Proof.Machine.execRegisterWrite by_ addr v s
  | .svcVer => Sys2Proof.Machine.execSvcVer s
  | .svcState => Sys2Proof.Machine.execSvcState s
  | .svcSensors => Sys2Proof.Machine.execSvcSensors s
  | .svcTp => Sys2Proof.Machine.execSvcTp s
  | .svcLog n => Sys2Proof.Machine.execSvcLog n s
  | .svcLogCodes => Sys2Proof.Machine.execSvcLogCodes s
  | .svcModeService key => Sys2Proof.Machine.execSvcModeService key s
  | .svcModeTable => Sys2Proof.Machine.execSvcModeTable s
  | .svcUpdate => Sys2Proof.Machine.execSvcUpdate s
  | .svcAttest nonce => Sys2Proof.Machine.execSvcAttest nonce s
  | .svcModbus => Sys2Proof.Machine.execSvcModbus s
  | .svcLe => Sys2Proof.Machine.execSvcLe s
  | .svcLoop k => Sys2Proof.Machine.execSvcLoop k s
  | .svcTrellis => Sys2Proof.Machine.execSvcTrellis s
  | .svcTrellisModel => Sys2Proof.Machine.execSvcTrellisModel s
  | .svcTrellisClearfail => Sys2Proof.Machine.execSvcTrellisClearfail s
  | .svcPb => Sys2Proof.Machine.execSvcPb s
  | .svcCtx c => Sys2Proof.Machine.execSvcCtx c s
  | .svcBrakeOn r => Sys2Proof.Machine.execSvcBrakeOn r s
  | .svcBrakeOff r => Sys2Proof.Machine.execSvcBrakeOff r s
  | .svcVq => Sys2Proof.Machine.execSvcVq s
  | .svcVqSqSrc q src => Sys2Proof.Machine.execSvcVqSqSrc q src s
  | .svcVqSqPeek q => Sys2Proof.Machine.execSvcVqSqPeek q s
  | .svcPfPmgrOn => Sys2Proof.Machine.execSvcPfPmgrOn s
  | .svcPfPmgrOff => Sys2Proof.Machine.execSvcPfPmgrOff s
  | .svcPump n => Sys2Proof.Machine.execSvcPump n s
  | .svcPumpSet n v => Sys2Proof.Machine.execSvcPumpSet n v s
  | .svcFan k => Sys2Proof.Machine.execSvcFan k s
  | .svcHyd => Sys2Proof.Machine.execSvcHyd s
  | .svcCal r => Sys2Proof.Machine.execSvcCal r s
  | .svcSnInput k => Sys2Proof.Machine.execSvcSnInput k s
  | .svcSnDi => Sys2Proof.Machine.execSvcSnDi s
  | .svcLeak k => Sys2Proof.Machine.execSvcLeak k s
  | .svcCp => Sys2Proof.Machine.execSvcCp s
  | .svcSv n => Sys2Proof.Machine.execSvcSv n s
  | .svcSvClear n => Sys2Proof.Machine.execSvcSvClear n s
  | .svcSvClose n => Sys2Proof.Machine.execSvcSvClose n s
  | .svcSvOpen n => Sys2Proof.Machine.execSvcSvOpen n s
  | .svcSvGroup g => Sys2Proof.Machine.execSvcSvGroup g s
  | .svcFb n => Sys2Proof.Machine.execSvcFb n s
  | .svcDicTest => Sys2Proof.Machine.execSvcDicTest s
  | .svcTwin => Sys2Proof.Machine.execSvcTwin s
  | .svcTwinHandover => Sys2Proof.Machine.execSvcTwinHandover s
  | .svcMem => Sys2Proof.Machine.execSvcMem s
  | .svcCellar c => Sys2Proof.Machine.execSvcCellar c s
  | .svcCxl => Sys2Proof.Machine.execSvcCxl s
  | .svcCxlPing hostAllows => Sys2Proof.Machine.execSvcCxlPing hostAllows s
  | .svcBaud rate => Sys2Proof.Machine.execSvcBaud rate s
  | .svcRecover image => Sys2Proof.Machine.execSvcRecover image s
  | .pllLock => Sys2Proof.Machine.execPllLock s
  | .ownershipLineOwned => Sys2Proof.Machine.execOwnershipLineOwned s
  | .excEnNAssert => Sys2Proof.Machine.execExcEnNAssert s
  | .pulseInputMeasurement n period ua => Sys2Proof.Machine.execPulseInputMeasurement n period ua s
  | .modbusConnection conn => Sys2Proof.Machine.execModbusConnection conn s
  | .hubSramScrub ecc supervisor => Sys2Proof.Machine.execHubSramScrub ecc supervisor s

end Sys2Proof.Machine
end

