-- ==== Sys2Proof/Safety.lean ====
section
/-! DEFINITION. What the claims about the block are stated with: the canonical form of its sparse memories, the
invariant every step keeps, and which parts of the state a command may touch. -/

namespace Sys2Proof.Machine

/-- The register file in canonical form: addresses strictly rising, no word equal to its reset value (R5). -/
abbrev State.regsWf (s : State) : Prop := twf resetWord s.regs = true

/-- The DDR4 bytes in canonical form: offsets strictly rising, no byte equal to what an unlisted byte reads as. -/
abbrev Memory.wf (m : List Host.Cell) : Prop := twf (fun _ => (0 : Byte)) m = true

/-- The invariant of the block's memories. -/
structure State.Inv (s : State) : Prop where
  regs : s.regsWf
  mem : Memory.wf s.mem

/-- The parts of the state beside the queue; true for those a command may touch. -/
structure Parts where
  time : Bool := false
  free : Bool := false
  regs : Bool := false
  mem : Bool := false
  sys : Bool := false
  dic : Bool := false
  mg : Bool := false
  mb : Bool := false
  pb : Bool := false
  vq : Bool := false
  le : Bool := false
  sv : Bool := false
  pf : Bool := false
  sn : Bool := false
  tr : Bool := false
  fb : Bool := false
  tw : Bool := false
  ca : Bool := false
deriving DecidableEq, Repr

/-- Every part. -/
def Parts.full : Parts :=
  ⟨true, true, true, true, true, true, true, true, true, true, true, true, true, true, true, true, true, true⟩

/-- From `s` to `t` the queue stays, the memories keep their canonical form, and only the parts `p` may have changed. -/
structure Frame (p : Parts) (s t : State) : Prop where
  queue : t.pending = s.pending
  regsWf : s.regsWf → t.regsWf
  memWf : Memory.wf s.mem → Memory.wf t.mem
  time : p.time = false → t.time = s.time
  free : p.free = false → t.free = s.free
  regs : p.regs = false → t.regs = s.regs
  mem : p.mem = false → t.mem = s.mem
  sys : p.sys = false → t.sys = s.sys
  dic : p.dic = false → t.dic = s.dic
  mg : p.mg = false → t.mg = s.mg
  mb : p.mb = false → t.mb = s.mb
  pb : p.pb = false → t.pb = s.pb
  vq : p.vq = false → t.vq = s.vq
  le : p.le = false → t.le = s.le
  sv : p.sv = false → t.sv = s.sv
  pf : p.pf = false → t.pf = s.pf
  sn : p.sn = false → t.sn = s.sn
  tr : p.tr = false → t.tr = s.tr
  fb : p.fb = false → t.fb = s.fb
  tw : p.tw = false → t.tw = s.tw
  ca : p.ca = false → t.ca = s.ca

/-- A command answers a next state, reached from `s` by touching the parts `p` alone. -/
def Answers (p : Parts) (s : State) (o : Host.Outcome State Fault Refusal) : Prop := ∃ t, o = .next t ∧ Frame p s t

/-- Every register reads as before but those at the addresses that `l` lists. -/
def RegsBut (l : Nat → Prop) (s t : State) : Prop := ∀ a, ¬ l a → t.word a = s.word a

/-- The registers that a log record and a doorbell may write: the doorbell controller's, the bobbins' and MG_LOGSEQ
(R61, R301, R391). -/
def noteReg (a : Nat) : Prop :=
  (0x40000000 ≤ a ∧ a < 0x40010000) ∨ (0x41002000 ≤ a ∧ a < 0x41002200) ∨ a = 0x50000018 ∨ a = 0x5000001C

/-- The operation in a slot of the present bundle of tile `t` issues: the tile runs and has not issued the slot, and the
slot holds opcode `op` in a legal word (R91 to R94). -/
def State.holds (s : State) (t slot op : Nat) : Prop :=
  s.ready t slot = true ∧ opOf ((s.tile t).slotWord slot) = op ∧ (s.tile t).legal slot ((s.tile t).slotWord slot) = true

/-- Tile `t` after its operation has issued: as `f` leaves it of the operation's word and the tile where the word's
predicate holds, unchanged where it does not, and with the slot marked as issued (R93). -/
def State.tileAfter (s : State) (t slot : Nat) (f : Nat → Tile → Tile) : Tile :=
  (if (s.tile t).predHolds ((s.tile t).slotWord slot) = true then f ((s.tile t).slotWord slot) (s.tile t)
    else s.tile t).mark slot

/-- Where the operation issues, the command answers the next state, in which tile `t` is as `State.tileAfter` gives it;
no other tile and nothing else changes (R92 to R98). -/
def Runs (i : Instr) (s : State) (t slot op : Nat) (f : Nat → Tile → Tile) : Prop :=
  s.holds t slot op → ∃ u, exec i s = .next u ∧ Frame { tr := true } s u ∧
    u.tr = { s.tr with tiles := tset {} s.tr.tiles t (s.tileAfter t slot f) }

/-- Where a load issues, the command answers the next state: the load's write `f` of its word and of the line's bytes
comes three cycles later, the base register takes its increment, and where the predicate holds the check of the words
read leaves what `State.tileEcc` gives (R87, R106). -/
def Loads (i : Instr) (s : State) (t : Nat) (b : Bool) (op : Nat) (ecc : KwErr) (f : Nat → List Byte → TWrite) : Prop :=
  s.holds t (lsSlot b) op → ∃ u v, exec i s = .next u ∧
    v = s.setTile t (s.tileAfter t (lsSlot b) fun w x => (x.later (lsSlot b) 3 (f w (x.memBytes w))).postInc (lsSlot b) w) ∧
    u = if (s.tile t).predHolds ((s.tile t).slotWord (lsSlot b)) = true then v.tileEcc t ecc else v

/-- Where a store issues, the command answers the next state: the bytes `g` of its word and tile go into its line, the
base register takes its increment, and where the predicate holds the store is mirrored and the check leaves what
`State.tileEcc` gives (R79, R87, R101, R102, R106). -/
def Stores (i : Instr) (s : State) (t : Nat) (b : Bool) (op : Nat) (ecc : KwErr) (g : Nat → Tile → List (Nat × Byte)) :
    Prop :=
  s.holds t (lsSlot b) op → ∃ u v w x, exec i s = .next u ∧ x = s.tile t ∧ w = x.slotWord (lsSlot b) ∧
    v = s.setTile t (s.tileAfter t (lsSlot b) fun w x =>
      (x.toLine (lsSlot b) (x.memLine w) (g w x)).postInc (lsSlot b) w) ∧
    u = if x.predHolds w = true then (v.mirror t (x.memLine w) x (g w x)).tileEcc t ecc else v

/-- Every byte of DDR4 but those at the listed offsets reads as before. -/
def BytesBut (l : List Nat) (s t : State) : Prop := ∀ a, a ∉ l → t.byte a = s.byte a

/-- The state that a request's work sees: the command counted and dated, its doorbell 480 posted (R303, R366). -/
def State.asked (s : State) : State := s.atMailbox

/-- A Waxus request passes the checks of R369 in this state: the module has supply (R19); its length and version, the
role, the state set; and a command that changes state repeats no tag that is kept (R370). -/
structure Takes (s : State) (c : Cmd) (p : List Byte) : Prop where
  powered : s.sys.mode ≠ .off
  size : 8 ≤ p.length
  version : fieldLE p 4 1 = 1
  length : c.len p = true
  role : c.active = true → s.isActive = true
  state : c.states s.asked = true
  fresh : c.changes = true → s.asked.seenTag (tagOf p) = none

/-- The state after an accepted request whose work gave `r`: its clamps, its tag and its reply kept, the command
forwarded to the standby, the host-silence timer restarted; the reply sent, or held until the standby has the command (R326, R367
to R372). -/
def State.replied (s : State) (c : Cmd) (p : List Byte) (r : Res) : State :=
  let h := s.asked.ksHeader r.code (tagOf p) (clampCount r.clamps) r.journal
  (State.accept c (tagOf p) p r h).answerCmd c.changes r.code h r.out

/-- The state after a request that is refused with a KS code: nothing but the counts and the reply (R369). -/
def State.turnedDown (s : State) (p : List Byte) (k : Ks) : State :=
  s.asked.answer k (s.asked.ksHeader k (tagOf p) 0 0) []

end Sys2Proof.Machine
end

