-- ==== Sys2Proof/WellFormed.lean ====
section
/-! DEFINITION. Which commands are well formed: a row that is one case of a shared opcode carries that case's code in its
payload, and a frame of the field bus or of the twin link has the shape its protocol gives it. Every other operand is
kept in range by its type. -/

namespace Sys2Proof

/-- How many data bytes a DLC stands for (R274). -/
def dlcBytes (fdf : Bool) (dlc : Nat) : Nat :=
  if dlc ≤ 8 then dlc
  else if fdf then [12, 16, 20, 24, 32, 48, 64].getD (dlc - 9) 64
  else 8

/-- A CAN frame as the bus carries one: an 11-bit or 29-bit identifier, a 4-bit DLC, its data bytes, and no remote frame
in the FD format, where there are none (R274, R276). -/
def CanFrame.wf (f : CanFrame) : Bool :=
  decide (f.id < if f.xtd then 2 ^ 29 else 2 ^ 11) && decide (f.dlc < 16) && !(f.rtr && f.fdf) &&
    f.data.length == (if f.rtr then 0 else dlcBytes f.fdf f.dlc)

/-- A twin-link frame as its header can spell one: a type byte and a subtype byte, 32-bit sequence number, at most 4096 payload
bytes, a 32-bit CRC (R322). -/
def LinkFrame.wf (f : LinkFrame) : Bool :=
  decide (f.typ < 2 ^ 8) && decide (f.sub < 2 ^ 8) && decide (f.seq < 2 ^ 32) && decide (f.frame < 2 ^ 64) &&
    decide (f.payload.length ≤ 4096) && decide (f.crc < 2 ^ 32)

/-- Whether a command is one its row describes. DESIGN CHOICE: notes/assumptions/15.md. -/
def Instr.wf (i : Instr) : Bool :=
  match i with
  | .powerOn => true
  | .vinBrownout => true
  | .resetButton => true
  | .scheduledWarmReset => true
  | .supplyLoss => true
  | .bootStage0Done => true
  | .bootStage1Done => true
  | .ddr4Ready _ => true
  | .tileSelftestDone _ => true
  | .bootConfigRestored _ => true
  | .tableInputsValid => true
  | .claimEnable => true
  | .bootEnd => true
  | .bootWatchdogExpiry => true
  | .trialConfirm => true
  | .frameBoundary => true
  | .tickBoundary _ => true
  | .hostSilenceTimeout => true
  | .isolateEntry => true
  | .shedExit => true
  | .shedPredictiveResume => true
  | .survivalExit => true
  | .cutoffTick => true
  | .sampleEvaluation _ _ => true
  | .checkEvaluation _ _ => true
  | .sampleDeadlineMiss _ => true
  | .frameLengthChange => true
  | .ctxSilent _ => true
  | .vsTimeout _ => true
  | .primaryRestore _ => true
  | .pairAgreementClear _ => true
  | .rcPageGrant => true
  | .rcPeriodEstimate _ _ => true
  | .injectionStart _ => true
  | .captureDone _ => true
  | .bobbinPostComplete _ => true
  | .bobbinRingFull _ => true
  | .slotApply _ => true
  | .leRcDataAccess _ => true
  | .injCtrlStart _ => true
  | .injCtrlStop _ => true
  | .bobArm _ => true
  | .bobStop _ => true
  | .bobMark _ => true
  | .bobSwTrig _ => true
  | .sentinelBunchEntry => true
  | .bunchEntry => true
  | .predictionDelivery => true
  | .virtualSensorDelivery => true
  | .readmissionDone => true
  | .rotationPeriodExpiry => true
  | .spareSelftestDone _ => true
  | .preloadDone => true
  | .rotationCaptureStart => true
  | .rotationSwitch => true
  | .rotationMirrorStop => true
  | .tileScrub _ _ => true
  | .trRotNow => true
  | .trDbgDataAccess _ => true
  | .nop _ _ => true
  | .illegalOperation _ _ => true
  | .add _ => true
  | .sub _ => true
  | .and _ => true
  | .or _ => true
  | .xor _ => true
  | .shl _ => true
  | .shr _ => true
  | .sra _ => true
  | .mul _ => true
  | .min _ => true
  | .max _ => true
  | .addi _ => true
  | .li _ => true
  | .andi _ => true
  | .cmp _ => true
  | .cmpi _ => true
  | .pand _ => true
  | .por _ => true
  | .pxor _ => true
  | .pnot _ => true
  | .movfm _ => true
  | .movtm _ => true
  | .vext _ => true
  | .br _ => true
  | .loop _ => true
  | .bri _ => true
  | .halt _ => true
  | .ld _ _ _ => true
  | .ldx8 _ _ _ => true
  | .ldx16 _ _ _ => true
  | .ldb _ _ _ => true
  | .lds _ _ _ => true
  | .st _ _ _ => true
  | .stn8 _ _ _ => true
  | .stn16 _ _ _ => true
  | .sts _ _ _ => true
  | .mmaI8 _ => true
  | .mmaI4 _ => true
  | .mmaBf _ => true
  | .mmaMf8 _ => true
  | .mmaMf4 _ => true
  | .mmaMi8 _ => true
  | .mzero _ => true
  | .mmaResult _ => true
  | .drain _ => true
  | .pack8 _ => true
  | .packbf _ => true
  | .packm8 _ => true
  | .packm4 _ => true
  | .vadd _ _ => true
  | .vsub _ _ => true
  | .vmul _ _ => true
  | .vmin _ _ => true
  | .vmax _ _ => true
  | .vand _ _ => true
  | .vor _ _ => true
  | .vxor _ _ => true
  | .vshl _ _ => true
  | .vshr _ _ => true
  | .vsra _ _ => true
  | .vcmp _ _ => true
  | .vsel _ _ => true
  | .vmov _ _ => true
  | .vbc _ _ => true
  | .vins _ _ => true
  | .vperm _ _ => true
  | .vany _ _ => true
  | .vrsum _ _ => true
  | .fadd _ _ => true
  | .fsub _ _ => true
  | .fmul _ _ => true
  | .fma _ _ => true
  | .fmin _ _ => true
  | .fmax _ _ => true
  | .fabs _ _ => true
  | .fneg _ _ => true
  | .fcmp _ _ => true
  | .frsum _ _ => true
  | .frmax _ _ => true
  | .frmin _ _ => true
  | .cvtif _ _ => true
  | .cvtfi _ _ => true
  | .exp _ _ => true
  | .tanh _ _ => true
  | .sigm _ _ => true
  | .rsqrt _ _ => true
  | .rcp _ _ => true
  | .rcv _ => true
  | .rcvResume _ => true
  | .free _ => true
  | .send _ => true
  | .poll _ => true
  | .bend _ => true
  | .sendEngineStart _ => true
  | .messageArrival _ _ => true
  | .sleepInstruction _ => true
  | .modelLoadChunk _ => true
  | .commitModel _ => true
  | .revertModel _ => true
  | .admissionReport _ => true
  | .commitDigestCheck => true
  | .commitTrellisStop => true
  | .commitLoadDone _ => true
  | .commitEnable => true
  | .commitWarmDone => true
  | .contextAdd _ => true
  | .contextRemove _ => true
  | .leaseRenewalDue _ => true
  | .capWriteStart => true
  | .capWriteCompletion _ _ => true
  | .capWriteTimeout _ => true
  | .leaseLapse _ => true
  | .capRecordExpiry _ => true
  | .overCap _ => true
  | .pbBrakeForceWrite _ => true
  | .postSeqWrite _ => true
  | .bar4Write _ _ => true
  | .bar2Write _ _ => true
  | .packetTimeout _ _ => true
  | .unpackComplete => true
  | .fieldStreamPublish _ _ => true
  | .sampleBankSwap _ => true
  | .sqPopRead _ => true
  | .popStallEnd _ => true
  | .popDeadline _ => true
  | .flushRequest _ => true
  | .flushPoint _ => true
  | .queueReset _ => true
  | .pumpKick _ => true
  | .kickEnd _ _ _ => true
  | .kickRetry _ => true
  | .tachLoss _ => true
  | .tachRestore _ _ => true
  | .currentBandExit _ => true
  | .driveFault _ _ _ => true
  | .pumpStageIn => true
  | .pumpStageOut => true
  | .pumpRotation => true
  | .runHoursSave => true
  | .pfRotNowWrite => true
  | .channelReenable _ => true
  | .fanOvercurrent _ _ => true
  | .aoOpen _ _ _ => true
  | .aoOverload _ _ => true
  | .slowFallEvaluation => true
  | .pulseLost => true
  | .pressLost => true
  | .tripArm => true
  | .flowRestored => true
  | .calMinute _ _ _ _ _ _ => true
  | .calStateSave => true
  | .rtdConversion _ _ _ _ => true
  | .maConversion _ _ _ _ => true
  | .sensorFaultClear _ => true
  | .noPulseTimeout _ => true
  | .dinDebounce _ _ => true
  | .leakSample _ _ _ _ => true
  | .lkAckWrite _ => true
  | .cpEvaluation _ _ _ _ _ => true
  | .derateStart => true
  | .derateEnd => true
  | .svCloseRequest _ => true
  | .svOpenRequest _ => true
  | .svReleaseWrite _ => true
  | .peakStart _ => true
  | .kinkDetect _ _ => true
  | .peakEnd _ => true
  | .openingEnd _ => true
  | .posCheck _ => true
  | .groupBudgetTimeout _ => true
  | .offStateVisit _ _ _ _ => true
  | .onGroupVisit _ _ _ _ => true
  | .forcedIdleTest _ _ _ _ => true
  | .forcedIdleEnd _ => true
  | .onStateCheck _ _ _ => true
  | .lowSideOvercurrent _ _ => true
  | .groupOvercurrent _ _ => true
  | .groupReturn _ => true
  | .valveSequence _ => true
  | .sequenceStepStart => true
  | .sequenceWaitEnd _ => true
  | .canFrameReceive _ f _ _ => f.wf
  | .canTxStart _ => true
  | .canTxComplete _ _ _ => true
  | .canRecoveryDone _ => true
  | .fbRecoverWrite _ => true
  | .fbReqWrite _ _ => true
  | .fbAbortWrite _ _ => true
  | .fbInitClear _ => true
  | .mbLockRead _ _ => true
  | .mbReleaseRead _ _ => true
  | .mbLockTimeout _ _ => true
  | .basicCycleStart _ _ => true
  | .windowMark _ _ => true
  | .nodeSupervisionInterval _ => true
  | .configReqRetry _ _ => true
  | .canopenDriveStartup _ _ _ _ _ => true
  | .rpdoTransmit _ => true
  | .doorbellWrite _ => true
  | .groupTimerFire _ => true
  | .deliveryDecision _ => true
  | .eoiWrite _ _ _ => true
  | .moderationIntervalEnd _ => true
  | .lineInvalid _ _ => true
  | .lineValid _ => true
  | .claim _ => true
  | .guardEnd => true
  | .heartbeatSend => true
  | .heartbeatReceive _ => true
  | .heartbeatLoss => true
  | .twinLinkFrameReceive f => f.wf
  | .linkAckSend => true
  | .linkReplayTimeout => true
  | .linkLaneFail _ => true
  | .linkRetrainDone _ => true
  | .frameEndMissing => true
  | .lockstepMismatch => true
  | .supervisorWatchdogExpiry => true
  | .handoverRequest _ => true
  | .handoverPrepare => true
  | .handoverRelease => true
  | .handoverComplete => true
  | .resyncStart => true
  | .resyncEnd => true
  | .twReleaseWrite _ => true
  | .twFaultWrite _ => true
  | .hdmRead _ _ => true
  | .hdmWrite _ _ => true
  | .patrolScrub _ _ => true
  | .tier0BlockWrite => true
  | .racking => true
  | .snapshotLatch => true
  | .snapshotWritten => true
  | .cxlLinkUp _ _ _ => true
  | .cxlInterfaceReset _ => true
  | .ptmDialog _ => true
  | .timebaseStep _ _ => true
  | .aerError _ => true
  | .unsupportedCommand _ => true
  | .identifyMemoryDevice => true
  | .getSupportedLogs => true
  | .getLog => true
  | .getEventRecords => true
  | .clearEventRecords _ => true
  | .getTimestamp => true
  | .setTimestamp _ => true
  | .getIdentity _ => true
  | .getState _ => true
  | .setModeTable p => p.length ≠ 20 || p.getD 8 0 == 2#8
  | .setModeReactive p => p.length ≠ 20 || p.getD 8 0 == 3#8
  | .setModePredictive p => p.length ≠ 20 || p.getD 8 0 == 4#8
  | .setModeHold p => p.length ≠ 20 || p.getD 8 0 == 5#8
  | .setModeService p => p.length ≠ 20 || p.getD 8 0 == 9#8
  | .setModeReset p => p.length ≠ 20 || p.getD 8 0 == 255#8
  | .keepalive _ => true
  | .configWrite _ => true
  | .configRead _ => true
  | .configReport _ => true
  | .contextList _ => true
  | .setBudget _ => true
  | .getBudget _ => true
  | .setLease _ => true
  | .loopSet _ => true
  | .loopGet _ => true
  | .injectStart _ => true
  | .captureRead _ => true
  | .bobbinArm _ => true
  | .bobbinRead _ => true
  | .pumpDisable p => p.length ≠ 12 || p.getD 9 0 == 0#8
  | .pumpEnable p => p.length ≠ 12 || p.getD 9 0 == 1#8
  | .pumpSetSpeed p => p.length ≠ 12 || p.getD 9 0 == 2#8
  | .tableWrite _ => true
  | .snapshotAt _ => true
  | .queryProgress _ => true
  | .readLog _ => true
  | .updateBegin _ => true
  | .updateChunk _ => true
  | .updateVerify _ => true
  | .updateActivate _ => true
  | .updateRatchet _ => true
  | .updateAbort _ => true
  | .updateProgramDone _ => true
  | .updateActivationReset => true
  | .attest _ => true
  | .calibrationStatus _ => true
  | .calibrationControl _ => true
  | .modbusWriteGrant p => p.length ≠ 12 || p.getD 8 0 == 1#8
  | .modbusWriteRevoke p => p.length ≠ 12 || p.getD 8 0 == 0#8
  | .modbusGrantEnd => true
  | .twinStatus _ => true
  | .modbusReadHolding _ _ _ => true
  | .modbusReadInput _ _ _ => true
  | .modbusWriteSingle _ _ _ => true
  | .modbusWriteMultiple _ _ _ => true
  | .modbusAlarmAck _ => true
  | .modbusBadFunction _ => true
  | .modbusIdleClose _ => true
  | .boardSensorWarning _ _ => true
  | .dieTemperatureWarning _ _ => true
  | .dieShutdown _ _ => true
  | .vinUndervoltage => true
  | .actuatorUndervoltage => true
  | .pllUnlock => true
  | .coreStallDetect _ => true
  | .logFlush => true
  | .timebaseSave => true
  | .mgMessagePost _ => true
  | .mgAnswer _ => true
  | .warmArmWrite _ => true
  | .ckTimeLoRead => true
  | .tripRowLatch _ => true
  | .tmLockWrite => true
  | .tripLatchClear _ _ => true
  | .rcRegisterRead _ => true
  | .registerWrite _ _ _ => true
  | .svcVer => true
  | .svcState => true
  | .svcSensors => true
  | .svcTp => true
  | .svcLog _ => true
  | .svcLogCodes => true
  | .svcModeService _ => true
  | .svcModeTable => true
  | .svcUpdate => true
  | .svcAttest _ => true
  | .svcModbus => true
  | .svcLe => true
  | .svcLoop _ => true
  | .svcTrellis => true
  | .svcTrellisModel => true
  | .svcTrellisClearfail => true
  | .svcPb => true
  | .svcCtx _ => true
  | .svcBrakeOn _ => true
  | .svcBrakeOff _ => true
  | .svcVq => true
  | .svcVqSqSrc _ _ => true
  | .svcVqSqPeek _ => true
  | .svcPfPmgrOn => true
  | .svcPfPmgrOff => true
  | .svcPump _ => true
  | .svcPumpSet _ _ => true
  | .svcFan _ => true
  | .svcHyd => true
  | .svcCal _ => true
  | .svcSnInput _ => true
  | .svcSnDi => true
  | .svcLeak _ => true
  | .svcCp => true
  | .svcSv _ => true
  | .svcSvClear _ => true
  | .svcSvClose _ => true
  | .svcSvOpen _ => true
  | .svcSvGroup _ => true
  | .svcFb _ => true
  | .svcDicTest => true
  | .svcTwin => true
  | .svcTwinHandover => true
  | .svcMem => true
  | .svcCellar _ => true
  | .svcCxl => true
  | .svcCxlPing _ => true
  | .svcBaud _ => true
  | .svcRecover _ => true
  | .pllLock => true
  | .ownershipLineOwned => true
  | .excEnNAssert => true
  | .pulseInputMeasurement _ _ _ => true
  | .modbusConnection _ => true
  | .hubSramScrub _ _ => true

end Sys2Proof
end

