-- ==== Sys2Proof/Certificates/Slice0/Obligations.lean ====
section
/-! DEFINITION. The statements about the model that the provers prove. Each docstring says which rules of spec/ it
formalises; the invariant `State.Inv` and the frames are those of Sys2Proof/Safety.lean. -/

open Sys2Proof Sys2Proof.Machine

/-- A step runs the command at the front of the queue.
For every command and state, a step of a state whose queue begins with the command is exec of that command on the
state with the queue's rest. The queue is the model's own form of how commands reach the block (log entry 1). -/
def Obligations.StepRunsTheFront : Prop :=
  ∀ (c : Instr) (rest : List Instr) (s : State), s.pending = c :: rest → step s = exec c { s with pending := rest }

/-- A step on an empty queue lets one timebase count pass.
On an empty queue a step answers the next state; the timebase advances by one count while it runs, and everything else
is as before. That an empty queue is a count of the timebase is the model's choice (log entry 1). -/
def Obligations.IdleTick : Prop :=
  (∀ s : State, s.pending = [] → step s = .next s.tick) ∧
  (∀ s : State, s.counting → Frame { time := true } s s.tick ∧ s.tick.time = s.time + 1) ∧
  ∀ s : State, ¬ s.counting → s.tick = s

/-- Every command answers a next state and leaves the queue alone.
For every command and every state, exec answers a next state, neither a fault nor a refusal, and the commands that
wait are the same as before. -/
def Obligations.EveryCommandAnswers : Prop :=
  ∀ (i : Instr) (s : State), ∃ t, exec i s = .next t ∧ t.pending = s.pending

/-- Every step keeps the memories canonical.
From every state whose register file and DDR4 are in canonical form (addresses strictly rising, no word or byte equal
to what an unlisted one reads as), a step that answers a next state gives a state in which both are in that form. The
form is the model's (log entries 4 and 5). -/
def Obligations.StepKeepsInv : Prop :=
  ∀ s t : State, s.Inv → step s = .next t → t.Inv

/-- The state after reset is canonical, nothing waits, and every register but CK_STATUS reads as its reset value.
The memories of the state after reset are canonical, its queue is empty, the module state is BOOT and the role
UNDECIDED, and each register reads the reset value of its row of the register maps; CK_STATUS alone holds the cause of
the power-on reset. -/
def Obligations.ResetInv : Prop :=
  State.reset.Inv ∧ State.reset.pending = [] ∧ State.reset.sys.mode = .boot ∧ State.reset.sys.role = .undecided ∧
  State.reset.mem = [] ∧ State.reset.rd CK_STATUS_RESET_CAUSE = 1 ∧
  ∀ a, a ≠ CK_STATUS_RESET_CAUSE.addr → State.reset.word a = (resetWord a).toNat

/-- Module state, cause, timebase and memories after each reset source.
POWER_ON, RESET_BUTTON, an armed SCHEDULED_WARM_RESET whose time has come and BOOT_WATCHDOG_EXPIRY leave the module in
BOOT and UNDECIDED with 1, 2, 4 and 3 in CK_STATUS.RESET_CAUSE. VIN_BROWNOUT leaves a module that has supply OFF with
the cause 1, and changes nothing in OFF. SUPPLY_LOSS leaves the module OFF with no register written. POWER_ON,
VIN_BROWNOUT and SUPPLY_LOSS leave the timebase at 0 and the DDR4 with no byte written; the others keep the timebase
and the DDR4. Each of them keeps both firmware slots and the log ring of the NOR. That a byte not written reads 0 is
the model's choice (log entry 4). -/
def Obligations.ResetSources : Prop :=
  (∀ s : State,
    ∃ t, exec .powerOn s = .next t ∧ Frame { Parts.full with free := false } s t ∧ t.sys.mode = .boot ∧ t.sys.role =
      .undecided ∧ t.rd CK_STATUS_RESET_CAUSE = 1 ∧ t.time = 0 ∧ t.mem = [] ∧
      t.mg.slotA = s.mg.slotA ∧
      t.mg.slotB = s.mg.slotB ∧ t.mg.ring = s.mg.ring) ∧
  (∀ s : State, s.sys.mode ≠ .off →
    ∃ t, exec .vinBrownout s = .next t ∧ Frame { Parts.full with free := false } s t ∧ t.sys.mode = .off ∧ t.rd
      CK_STATUS_RESET_CAUSE = 1 ∧ t.time = 0 ∧ t.mem = [] ∧
      t.mg.slotA = s.mg.slotA ∧
      t.mg.slotB = s.mg.slotB ∧ t.mg.ring = s.mg.ring) ∧
  (∀ s : State, s.sys.mode = .off → ∃ t, exec .vinBrownout s = .next t ∧ Frame { Parts.full with free := false } s t
    ∧ t = s) ∧
  (∀ s : State, s.sys.mode ≠ .off →
    ∃ t, exec .resetButton s = .next t ∧ Frame { Parts.full with free := false } s t ∧ t.sys.mode = .boot ∧
      t.sys.role = .undecided ∧ t.rd CK_STATUS_RESET_CAUSE = 2 ∧ t.time = s.time ∧
      t.mem = s.mem ∧ t.mg.slotA = s.mg.slotA ∧
      t.mg.slotB = s.mg.slotB ∧ t.mg.ring = s.mg.ring) ∧
  (∀ s : State, s.sys.mode ≠ .off → s.sys.mode ≠ .failed → s.bit CK_CTRL_WARM_ARM = true → s.rd64 CK_WARM_AT_LO ≤
    s.time →
    ∃ t, exec .scheduledWarmReset s = .next t ∧ Frame { Parts.full with free := false } s t ∧ t.sys.mode = .boot ∧
      t.sys.role = .undecided ∧ t.rd CK_STATUS_RESET_CAUSE = 4 ∧
      t.time = s.time ∧ t.mem = s.mem ∧ t.mg.slotA = s.mg.slotA ∧
      t.mg.slotB = s.mg.slotB ∧ t.mg.ring = s.mg.ring) ∧
  (∀ s : State, s.sys.mode = .boot → s.mg.watchdogHeld = false → s.since s.mg.watchdog (secs 60) = true →
    ∃ t, exec .bootWatchdogExpiry s = .next t ∧ Frame { Parts.full with free := false } s t ∧ t.sys.mode = .boot ∧
      t.sys.role = .undecided ∧ t.rd CK_STATUS_RESET_CAUSE = 3 ∧
      t.time = s.time ∧ t.mem = s.mem ∧ t.mg.slotA = s.mg.slotA ∧
      t.mg.slotB = s.mg.slotB ∧ t.mg.ring = s.mg.ring) ∧
  ∀ s : State,
    ∃ t, exec .supplyLoss s = .next t ∧ Frame { Parts.full with free := false } s t ∧ t.sys.mode = .off ∧ t.time = 0
      ∧ t.mem = [] ∧ t.regs = [] ∧
      t.mg.slotA = s.mg.slotA ∧
      t.mg.slotB = s.mg.slotB ∧ t.mg.ring = s.mg.ring

/-- The phase and the effect of each step of start-up.
In BOOT, in the phase before it, BOOT_STAGE0_DONE boots the active slot with its marks, the other slot where the
active one does not boot and the other passes, or neither, in recovery mode; BOOT_STAGE1_DONE goes on with a good hub
stage and sets the enables of the twin link, the sensor front end, the solenoid drivers and the doorbell controller,
and changes no register but the log's and the doorbell's with a bad one; DDR4_READY goes on with every channel trained
and makes the module FAILED with one that is not; TILE_SELFTEST_DONE goes on; BOOT_CONFIG_RESTORED locks the trip
matrix and goes on, or makes the module FAILED where the digest differs; TABLE_INPUTS_VALID lets frames run;
CLAIM_ENABLE sets TW_CTRL.CLAIM_EN, and holds the boot watchdog where the ownership line is already invalid; BOOT_END
enters TABLE with the boot enables set, the watchdog stopped and the held trip actions taken; TRIAL_CONFIRM ends the
trial, and an update's journal with its sixth step. Each clause gives the phase it leaves. -/
def Obligations.BootSequence : Prop :=
  (∀ s : State, s.Inv → s.sys.mode = .boot → s.sys.phase = .rails → s.mg.bootsActive = true → s.mg.activeSlot < 2 →
    ∃ t, exec .bootStage0Done s = .next t ∧
      Frame { regs := true, sys := true, mg := true, mb := true, tw := true } s t ∧ t.sys =
        { s.sys with phase := .stage0 } ∧
      t.mg = { s.mg with runSlot := s.mg.activeSlot, confirmed := !s.mg.trial } ∧
      t.rd MG_STATUS_BOOT_SLOT = s.mg.activeSlot ∧ t.bit MG_STATUS_TRIAL = s.mg.trial ∧ t.bit MG_STATUS_MG_READY =
        true ∧
      RegsBut (· = MG_STATUS_BOOT_SLOT.addr) s t) ∧
  (∀ s : State, s.sys.mode = .boot → s.sys.phase = .rails → s.mg.bootsActive = false →
    (s.mg.slot (1 - s.mg.activeSlot)).passes s.mg.fuse = true →
    ∃ t, exec .bootStage0Done s = .next t ∧
      Frame { regs := true, sys := true, mg := true, mb := true, tw := true } s t ∧ t = ((((s.onMg fun y =>
        { y with activeSlot := 1 - s.mg.activeSlot, trial := false, trialBoots := 0 }).bootSlot
        (1 - s.mg.activeSlot)).updateFailed).log 15 .slotFallback 2 [1 - s.mg.activeSlot])) ∧
  (∀ s : State, s.sys.mode = .boot → s.sys.phase = .rails → s.mg.bootsActive = false →
    (s.mg.slot (1 - s.mg.activeSlot)).passes s.mg.fuse = false →
    ∃ t, exec .bootStage0Done s = .next t ∧
      Frame { regs := true, sys := true, mg := true, mb := true, tw := true } s t ∧ t = (s.onMg fun y =>
        { y with recovery := true, watchdog := none }).log 15 .bootFailed 3 [0]) ∧
  (∀ s : State, s.sys.mode = .boot → s.sys.phase = .stage0 → (s.mg.slot s.mg.runSlot).hubOk = true →
    ∃ t, exec .bootStage1Done s = .next t ∧ Frame { regs := true, sys := true, mg := true } s t ∧ t.sys =
      { s.sys with phase := .stage1 } ∧ t.mg = s.mg) ∧
  (∀ s : State, s.sys.mode = .boot → s.sys.phase = .stage0 → (s.mg.slot s.mg.runSlot).hubOk = false →
    ∃ t, exec .bootStage1Done s = .next t ∧ Frame { regs := true, sys := true, mg := true } s t ∧ t.sys = s.sys ∧
      RegsBut noteReg s t) ∧
  (∀ s : State, s.Inv → s.sys.mode = .boot → s.sys.phase = .stage1 →
    ∃ t, exec (.ddr4Ready none) s = .next t ∧
      Frame { Parts.full with time := false, free := false, mem := false, pb := false, vq := false, fb := false } s t
        ∧ t.sys = { s.sys with phase := .ddr } ∧
      t.rd CA_STATUS_CH_OK = 0xFF ∧ t.ca.selfRefresh = false ∧ RegsBut (· = CA_STATUS_CH_OK.addr) s t) ∧
  (∀ (s : State) (c : Fin 8), s.sys.mode = .boot → s.sys.phase = .stage1 →
    ∃ t, exec (.ddr4Ready (some c)) s = .next t ∧
      Frame { Parts.full with time := false, free := false, mem := false, pb := false, vq := false, fb := false } s t
        ∧ t.sys.mode = .failed) ∧
  (∀ (s : State) (failed : BitVec 128), s.sys.mode = .boot → s.sys.phase = .ddr →
    ∃ t, exec (.tileSelftestDone failed) s = .next t ∧
      Frame { regs := true, sys := true, dic := true, mg := true, mb := true, le := true, pf := true, tr := true, tw := true } s t ∧ t.sys.phase = .selftest) ∧
  (∀ s : State, s.Inv → s.sys.mode = .boot → s.sys.phase = .selftest →
    ∃ t, exec (.bootConfigRestored true) s = .next t ∧
      Frame { Parts.full with time := false, free := false, mem := false, vq := false, ca := false } s t ∧
        t.sys.phase = .config ∧
      t.bit TM_CTRL_LOCK = true) ∧
  (∀ s : State, s.sys.mode = .boot → s.sys.phase = .selftest →
    ∃ t, exec (.bootConfigRestored false) s = .next t ∧
      Frame { Parts.full with time := false, free := false, mem := false, vq := false, ca := false } s t ∧ t.sys.mode
        = .failed) ∧
  (∀ s : State, s.sys.mode = .boot → s.sys.phase = .config →
    ∃ t, exec .tableInputsValid s = .next t ∧ Frame { sys := true } s t ∧
      t.sys = { s.sys with phase := .inputs, framesOn := true }) ∧
  (∀ s : State, s.Inv → s.sys.mode = .boot → s.sys.phase = .inputs → s.rd TW_STATUS_LINE < 2 →
    ∃ t, exec .claimEnable s = .next t ∧ Frame { regs := true, sys := true, mg := true } s t ∧ t.sys =
      { s.sys with phase := .claimEnabled } ∧
      t.bit TW_CTRL_CLAIM_EN = true ∧ RegsBut (· = TW_CTRL_CLAIM_EN.addr) s t) ∧
  (∀ s : State, s.sys.mode = .boot → s.sys.phase = .inputs → 2 ≤ s.rd TW_STATUS_LINE →
    ∃ t, exec .claimEnable s = .next t ∧ Frame { regs := true, sys := true, mg := true } s t ∧ t = ((s.putBit
      TW_CTRL_CLAIM_EN true).onSys fun y => { y with phase := .claimEnabled }).onMg fun y =>
        { y with watchdogHeld := true }) ∧
  (∀ s : State, s.sys.mode = .boot → s.sys.phase = .claimEnabled → s.sys.role ≠ .undecided →
    s.bit TM_CTRL_LOCK = true → s.time % s.frameCounts = 0 →
    ∃ t, exec .bootEnd s = .next t ∧
      Frame { Parts.full with time := false, free := false, mem := false, sn := false, fb := false } s t ∧
      t = (((s.bootEnables.onSys fun y => { y with phase := .running }).onMg fun y =>
        { y with watchdog := none, relays := withBits y.relays 3 3 1 }).enterTable).pmWork.actHeld) ∧
  (∀ (s : State) (u : Update), s.mg.trial = true → s.mg.update = some u → s.since s.sys.tableSince (secs 60) = true →
    ∃ t, exec .trialConfirm s = .next t ∧ Frame { regs := true, mg := true, mb := true, tw := true } s t ∧ t =
      ((((s.onMg fun y => { y with trial := false, trialBoots := 0, confirmed := true }).putBit MG_STATUS_TRIAL
        false).log 15 .trialConfirmed 0 [s.mg.runSlot]).journalStep u.journal 6).onMg fun y =>
          { y with update := none }) ∧
  ∀ s : State, s.Inv → s.mg.trial = true → s.mg.update = none → s.since s.sys.tableSince (secs 60) = true →
    ∃ t, exec .trialConfirm s = .next t ∧ Frame { regs := true, mg := true, mb := true, tw := true } s t ∧ t.mg.trial
      = false ∧ t.mg.trialBoots = 0 ∧
      t.mg.confirmed = true ∧ t.bit MG_STATUS_TRIAL = false ∧
      RegsBut (fun a => a = MG_STATUS_TRIAL.addr ∨ noteReg a) s t

/-- Frame and tick boundaries, the cutoff tick, the frame length, host silence, and the entry and the ends of ISOLATE, SHED and SURVIVAL.
At a frame boundary an ACTIVE, UNDECIDED or ISOLATED_STANDBY module sends the end of the frame that was running, opens
the frame of its number, runs the frame's work and forwards it; a STANDBY ends the frame that it was running and opens
the frame before, and runs its work where it is in step and the frame's end was seen; a FAULTED module opens the frame
only; each posts the frame's doorbell 2. A tick boundary is stamped, checks the trip table and the brake lines, runs
the tick's work and forwards the field inputs with the tick. Host silence is recorded and ends a Modbus grant, and
REACTIVE and PREDICTIVE are left for TABLE. ISOLATE_ENTRY with an isolation that is due makes the module ISOLATE.
SHED_EXIT with the times run out ends SHED, in ISOLATE where an isolation is active or waits, else in the state to
return to. SHED_PREDICTIVE_RESUME after 8 good frames with a model admitted enters PREDICTIVE from REACTIVE, and in
ISOLATE with the prior state PREDICTIVE it only ends the wait. SURVIVAL_EXIT with the flow in range for 10 s ends
SURVIVAL in TABLE, with the actions that were held taken. CUTOFF_TICK makes the waiting context slots ready, and in
TABLE FRAME_LENGTH_CHANGE writes the length, lowers the cutoff to it and moves the frame origin. What follows a change
of state is named by the model's own operations where the clause gives the whole next state. -/
def Obligations.StateChangesInTime : Prop :=
  (∀ s : State, s.sys.role = .active ∨ s.sys.role = .undecided ∨ s.sys.role = .isolatedStandby → s.onBoundary = true →
    s.sys.lastFrame ≠ some s.time →
    ∃ t, exec .frameBoundary s = .next t ∧ Frame { Parts.full with time := false } s t ∧
      t = (((s.sendFrameEnd s.frame).onTw fun y => { y with lastDone := s.frame }).openFrame
        (s.frameAt s.time)).frameWork.frameForward.post 2) ∧
  (∀ s : State, s.sys.role = .standby → s.onBoundary = true → s.sys.lastFrame ≠ some s.time →
    ∃ t, exec .frameBoundary s = .next t ∧ Frame { Parts.full with time := false } s t ∧ ∃ u v run, u =
      s.endStandbyFrame ∧
      run = (u.bit TW_STATUS_IN_STEP && u.tw.endSeen.any fun e => e + 2 == s.frameAt s.time) ∧
      v = (u.onTw fun y => { y with running := run }).openFrame
        (if u.bit TW_STATUS_IN_STEP then s.frameAt s.time - 1 else s.frameAt s.time) ∧
      t = (if run then (v.runDue (s.frameAt s.time - 1) 0).frameWork else v).post 2) ∧
  (∀ s : State, s.sys.role = .faulted → s.onBoundary = true → s.sys.lastFrame ≠ some s.time →
    ∃ t, exec .frameBoundary s = .next t ∧ Frame { Parts.full with time := false } s t ∧ t = (s.openFrame (s.frameAt
      s.time)).post 2) ∧
  (∀ (s : State) (n : Nat), s.Inv → n < 2 ^ 64 → (s.openFrame n).rd64 LE_FRAME_NUM_LO = n ∧
    (s.openFrame n).sys = { s.sys with lastFrame := some s.time }) ∧
  (∀ (s : State) (b : BitVec 16), s.sys.framesOn = true → s.time % 5000 = 0 → s.sys.lastTick ≠ some s.time →
    ∃ t, exec (.tickBoundary b) s = .next t ∧ Frame { Parts.full with time := false } s t ∧ ∃ u,
      u = ((((s.onSys fun y => { y with lastTick := some s.time }).onTw fun y =>
        { y with watchdogAt := s.time }).tripTableCheck).brakeCheck b.toNat).tickWork ∧
      t = (if u.forwards then u.forward 3 1 (leBytes 4 u.tickNow ++ u.regBytes fieldInputs) else
        u).fwdRate.alarmRelays) ∧
  (∀ s : State, s.sys.silenceStart + secs s.hostTimeout ≤ s.time → s.sys.mode ≠ .reactive → s.sys.mode ≠ .predictive →
    ∃ t, exec .hostSilenceTimeout s = .next t ∧
      Frame { Parts.full with time := false, free := false, mem := false, sn := false, fb := false, ca := false } s t
        ∧
      t.sys = { s.sys with hostSilent := true } ∧ t.mg = { s.mg with grantEnd := none } ∧ t.regs = s.regs) ∧
  (∀ s : State, s.sys.silenceStart + secs s.hostTimeout ≤ s.time → s.sys.mode = .reactive ∨ s.sys.mode = .predictive →
    ∃ t, exec .hostSilenceTimeout s = .next t ∧
      Frame { Parts.full with time := false, free := false, mem := false, sn := false, fb := false, ca := false } s t
        ∧
      t = ((s.onSys fun y => { y with hostSilent := true }).onMg fun y => { y with grantEnd := none }).enterTable) ∧
  (∀ s : State, (s.sys.isoPend.filter fun p => decide (p.1 ≤ s.time)) ≠ [] →
    s.sys.mode.running = true ∨ s.sys.mode = .service ∨ s.sys.mode = .isolate →
    ∃ t, exec .isolateEntry s = .next t ∧
      Frame { regs := true, sys := true, mg := true, mb := true, pb := true, le := true, sv := true, pf := true, tr := true, tw := true } s t ∧ t.sys.mode = .isolate ∧ t.sys.heldLeak = false ∧
      t.sys.isoPend = s.sys.isoPend.filter fun p => decide (s.time < p.1)) ∧
  (∀ s : State, s.sys.mode = .shed → s.since s.pf.restoredAt (msec 500) = true →
    s.since s.pb.confirmedAt (msec 500) = true → s.sys.isolated = 0 → s.sys.isoPend = [] →
    ∃ t, exec .shedExit s = .next t ∧
      Frame { regs := true, sys := true, mg := true, mb := true, pb := true, le := true, sv := true, pf := true, tr := true, tw := true } s t ∧ t = ((s.clearActions [1, 3, 4]).shedOutputs.waitGood).setState (s.backTo true) ∧
      t.sys.mode = s.backTo true) ∧
  (∀ s : State, s.sys.mode = .shed → s.since s.pf.restoredAt (msec 500) = true →
    s.since s.pb.confirmedAt (msec 500) = true → s.sys.isolated ≠ 0 ∨ s.sys.isoPend ≠ [] →
    ∃ t, exec .shedExit s = .next t ∧
      Frame { regs := true, sys := true, mg := true, mb := true, pb := true, le := true, sv := true, pf := true, tr := true, tw := true } s t ∧ t.sys.mode = .isolate ∧ t.sys.isoPend = []) ∧
  (∀ s : State, s.sys.mode = .reactive → s.sys.resumePredictive = true → 8 ≤ s.tr.goodBase →
    s.bit TR_STATUS_ADMITTED = true →
    ∃ t, exec .shedPredictiveResume s = .next t ∧
      Frame { regs := true, sys := true, mg := true, mb := true, le := true, pf := true, tr := true } s t ∧
        t.sys.mode = .predictive ∧ t.sys.resumePredictive = false) ∧
  (∀ s : State, s.sys.mode = .isolate → s.sys.prior = .predictive → s.sys.resumePredictive = true →
    8 ≤ s.tr.goodBase → s.bit TR_STATUS_ADMITTED = true →
    ∃ t, exec .shedPredictiveResume s = .next t ∧
      Frame { regs := true, sys := true, mg := true, mb := true, le := true, pf := true, tr := true } s t ∧ t =
        s.onSys fun y => { y with resumePredictive := false }) ∧
  (∀ s : State, s.sys.mode = .survival → s.since s.sn.cpOk (secs 10) = true →
    ∃ t, exec .survivalExit s = .next t ∧
      Frame { Parts.full with time := false, free := false, mem := false, sn := false, fb := false, ca := false } s t
        ∧
      t = (((s.clearActions [5]).onPf fun y => { y with calmSince := s.time }).onTr fun y =>
        { y with scrubFrom := some s.time }).enterTable.actHeld) ∧
  (∀ (s : State) (f : Nat), s.sys.lastFrame = some f →
    f + min (s.rd LE_FRAME_CUTOFF_TICKS) (s.rd LE_FRAME_FRAME_TICKS - 4) * 5000 ≤ s.time →
    ∃ t, exec .cutoffTick s = .next t ∧ Frame { le := true } s t ∧ t = (s.onLe fun y =>
      { y with cutoff := true }).readyCtxs) ∧
  ∀ (s : State) (n : Nat), s.Inv → s.le.frameTicksNew = some n → n < 64 → s.sys.mode = .table →
    s.time % s.frameCounts = 0 →
    s.time % (n * 5000) = 0 →
    ∃ t, exec .frameLengthChange s = .next t ∧ Frame { regs := true, mg := true, le := true } s t ∧ t.rd
      LE_FRAME_FRAME_TICKS = n ∧
      t.rd LE_FRAME_CUTOFF_TICKS = min (s.rd LE_FRAME_CUTOFF_TICKS) (n - 4) ∧
      t.rd64 CK_FRAME_ORIGIN_LO = (s.time + 2 ^ 64 - s.frame * (n * 5000) % 2 ^ 64) % 2 ^ 64 ∧
      t.le = { s.le with frameTicksNew := none } ∧
      RegsBut (fun a => a = LE_FRAME_FRAME_TICKS.addr ∨ a = CK_FRAME_ORIGIN_LO.addr ∨ a = CK_FRAME_ORIGIN_LO.addr +
        4) s t

/-- What a sample evaluation, a check evaluation and a deadline leave, and where they leave the state as it was.
SAMPLE_EVALUATION, with the loop engine enabled, by a pair that is in service and free, with a ready sample: where the
lanes agree the pair is busy for 20 counts and the sample is evaluated, which leaves no release and no ready sample in
its slot and the end of the evaluation, 20 counts from now, as its last time stamp; where they differ the pair is busy
as long and retired, and the sample is kept for one retry with LANE_RETRY where 40 counts are left before its deadline
and it was not retried, else it is missed. CHECK_EVALUATION, once in a tick by a pair in service and free, occupies
the pair for 20 counts with no register changed, and a wrong answer retires the pair. SAMPLE_DEADLINE_MISS at or after
the deadline drops the sample, with an overload first where it was ready, and sets MISS; of a sample that was not
ready only MISS, LE_MISS_COUNT, the slot's miss count and the records' registers change. In every other case each of
the three leaves the state as it was. -/
def Obligations.LoopSlots : Prop :=
  (∀ (s : State) (p : Fin 8) (k rel dl : Nat), s.bit LE_CTRL_ENABLE = true → s.pairUp p = true →
    tget 0 s.le.busy p ≤ s.time → s.nextSample = some (k, rel, dl) →
    ∃ t, exec (.sampleEvaluation p true) s = .next t ∧
      Frame { Parts.full with time := false, free := false, mem := false, vq := false, fb := false, ca := false } s t
        ∧
      t = (s.onLe fun y => { y with busy := tset 0 y.busy p (s.time + 20) }).evalSlot k rel dl ∧
      (t.slot k).release = none ∧ (t.slot k).ready = false ∧
      (s.Inv → k < 4608 → s.time + 20 < 2 ^ 64 → t.rd64 (SL_LAST_TS_LO k) = s.time + 20)) ∧
  (∀ (s : State) (p : Fin 8) (k rel dl : Nat), s.bit LE_CTRL_ENABLE = true → s.pairUp p = true →
    tget 0 s.le.busy p ≤ s.time → s.nextSample = some (k, rel, dl) →
    ∃ t, exec (.sampleEvaluation p false) s = .next t ∧
      Frame { Parts.full with time := false, free := false, mem := false, vq := false, fb := false, ca := false } s t
        ∧ ∃ u, u = (s.onLe fun y => { y with busy := tset 0 y.busy p (s.time + 20) }) ∧
      t = (if (s.slot k).retried = false ∧ s.time + 40 ≤ dl then
            (u.setSlot k { s.slot k with retried := true }).putBit (SL_FLAGS_LANE_RETRY k) true
          else u.missSample k).retirePair p) ∧
  (∀ (s : State) (p : Fin 8) (b : Bool), s.bit LE_CTRL_ENABLE = false ∨ s.pairUp p = false ∨ s.time < tget 0
    s.le.busy p ∨ s.nextSample = none →
    ∃ t, exec (.sampleEvaluation p b) s = .next t ∧
      Frame { Parts.full with time := false, free := false, mem := false, vq := false, fb := false, ca := false } s t
        ∧ t = s) ∧
  (∀ (s : State) (p : Fin 8), s.pairUp p = true → tfind s.le.checked p ≠ some (s.time / 5000) → tget 0 s.le.busy p ≤
    s.time →
    ∃ t, exec (.checkEvaluation p true) s = .next t ∧
      Frame { Parts.full with time := false, free := false, mem := false, pb := false, vq := false, fb := false, ca := false } s t ∧ t.regs = s.regs ∧
      t.le = { s.le with
        checked := tinsert s.le.checked p (s.time / 5000), busy := tset 0 s.le.busy p (s.time + 20) }) ∧
  (∀ (s : State) (p : Fin 8), s.pairUp p = true → tfind s.le.checked p ≠ some (s.time / 5000) → tget 0 s.le.busy p ≤
    s.time →
    ∃ t, exec (.checkEvaluation p false) s = .next t ∧
      Frame { Parts.full with time := false, free := false, mem := false, pb := false, vq := false, fb := false, ca := false } s t ∧ t = (s.onLe fun y => { y with
        checked := tinsert y.checked p (s.time / 5000), busy := tset 0 y.busy p (s.time + 20) }).retirePair p) ∧
  (∀ (s : State) (p : Fin 8) (b : Bool), s.pairUp p = false ∨ tfind s.le.checked p = some (s.time / 5000) ∨ s.time <
    tget 0 s.le.busy p →
    ∃ t, exec (.checkEvaluation p b) s = .next t ∧
      Frame { Parts.full with time := false, free := false, mem := false, pb := false, vq := false, fb := false, ca := false } s t ∧ t = s) ∧
  (∀ (s : State) (k : Fin 4608) (rel dl : Nat), s.Inv → (s.slot k).release = some (rel, dl) → dl ≤ s.time →
    ∃ t, exec (.sampleDeadlineMiss k) s = .next t ∧ Frame { regs := true, dic := true, mg := true, le := true } s t ∧
      t.bit (SL_FLAGS_MISS k) = true ∧
      t = (if (s.slot k).ready = true then s.overload else s).missSample k ∧
      ((s.slot k).ready = false → RegsBut (fun a => a = (SL_FLAGS_MISS k).addr ∨ a = LE_MISS_COUNT.addr ∨
        a = (SL_MISS_SLOT_MISSED k).addr ∨ noteReg a) s t)) ∧
  ∀ (s : State) (k : Fin 4608), (s.slot k).release.all (fun q => decide (s.time < q.2)) = true → ∃ t, exec
    (.sampleDeadlineMiss k) s = .next t ∧ Frame { regs := true, dic := true, mg := true, le := true } s t ∧ t = s

/-- What CTX_SILENT, VS_TIMEOUT, PRIMARY_RESTORE and PAIR_AGREEMENT_CLEAR leave, and where they leave the state as it was.
CTX_SILENT after 4 frames without a record sets the slot's flag and the broker's SILENT bit, once. VS_TIMEOUT after 30
s on the virtual sensor moves the slot to TABLE: its flags and SOURCE 3, and a hand-over due. PRIMARY_RESTORE after 10
s of a valid primary returns a slot on another source to it: VS_TIME and SOURCE 0, the three feedback flags clear, a
hand-over due. PAIR_AGREEMENT_CLEAR after 60 s of agreement clears both pair flags. Where a clause lists registers, no
other changes. In every other case each of the four leaves the state as it was. -/
def Obligations.FeedbackTimeouts : Prop :=
  (∀ (s : State) (c : Fin 4096), s.Inv → 4 ≤ tget 0 s.vq.silent c → s.bit (SL_FLAGS_CTX_SILENT c) = false →
    ∃ t, exec (.ctxSilent c) s = .next t ∧ Frame { regs := true } s t ∧ t.bit (SL_FLAGS_CTX_SILENT c) = true ∧
      t.bit (PB_STATUS_SILENT c) = true ∧
      RegsBut (fun a => a = (SL_FLAGS_CTX_SILENT c).addr ∨ a = (PB_STATUS_SILENT c).addr) s t) ∧
  (∀ (s : State) (c : Fin 4096), tget 0 s.vq.silent c < 4 ∨ s.bit (SL_FLAGS_CTX_SILENT c) = true → ∃ t, exec
    (.ctxSilent c) s = .next t ∧ Frame { regs := true } s t ∧ t = s) ∧
  (∀ (s : State) (k : Fin 4608), s.Inv → (s.slot k).lastSrc = 2 → 30000 ≤ s.rd (SL_VS_TIME k) →
    ∃ t, exec (.vsTimeout k) s = .next t ∧ Frame { regs := true, dic := true, mg := true, le := true } s t ∧ t.bit
      (SL_FLAGS_FB_VIRTUAL k) = false ∧
      t.bit (SL_FLAGS_FB_TABLE k) = true ∧ t.rd (SL_FB_STATE_SOURCE k) = 3 ∧
      t.le.slots = tset {} s.le.slots k { s.slot k with lastSrc := 3, handDue := true } ∧
      RegsBut (fun a => a = (SL_FLAGS_FB_TABLE k).addr ∨ a = (SL_FB_STATE_SOURCE k).addr ∨ noteReg a) s t) ∧
  (∀ (s : State) (k : Fin 4608), (s.slot k).lastSrc ≠ 2 ∨ s.rd (SL_VS_TIME k) < 30000 → ∃ t, exec (.vsTimeout k) s =
    .next t ∧ Frame { regs := true, dic := true, mg := true, le := true } s t ∧ t = s) ∧
  (∀ (s : State) (k : Fin 4608), s.Inv → (s.slot k).lastSrc ≠ 0 → (∃ t0, (s.slot k).validSince = some t0 ∧ t0 + secs
    10 ≤ s.time) →
    ∃ t, exec (.primaryRestore k) s = .next t ∧ Frame { regs := true, mg := true, le := true } s t ∧ t.rd (SL_VS_TIME
      k) = 0 ∧
      t.rd (SL_FB_STATE_SOURCE k) = 0 ∧ t.bit (SL_FLAGS_FB_PARTNER k) = false ∧
      t.bit (SL_FLAGS_FB_VIRTUAL k) = false ∧ t.bit (SL_FLAGS_FB_TABLE k) = false ∧
      t.le.slots = tset {} s.le.slots k
        { s.slot k with lastSrc := 0, handDue := true, vsCount := 0, vsSince := none } ∧
      t.le = { s.le with slots := t.le.slots }) ∧
  (∀ (s : State) (k : Fin 4608), (s.slot k).lastSrc = 0 ∨ (s.slot k).validSince = none ∨ (∃ t0, (s.slot k).validSince
    = some t0 ∧ s.time < t0 + secs 10) →
    ∃ t, exec (.primaryRestore k) s = .next t ∧ Frame { regs := true, mg := true, le := true } s t ∧ t = s) ∧
  (∀ (s : State) (k : Fin 4608), s.Inv → (∃ t0, (s.slot k).agreeSince = some t0 ∧ t0 + secs 60 ≤ s.time) →
    ∃ t, exec (.pairAgreementClear k) s = .next t ∧ Frame { regs := true } s t ∧
      t.bit (SL_FLAGS_PAIR_DISAGREE k) = false ∧ t.bit (SL_FLAGS_PAIR_SUSPECT k) = false ∧
      RegsBut (· = (SL_FLAGS_PAIR_SUSPECT k).addr) s t) ∧
  ∀ (s : State) (k : Fin 4608), (s.slot k).agreeSince = none ∨ (∃ t0, (s.slot k).agreeSince = some t0 ∧ s.time < t0 +
    secs 60) →
    ∃ t, exec (.pairAgreementClear k) s = .next t ∧ Frame { regs := true } s t ∧ t = s

/-- What RC_PAGE_GRANT, RC_PERIOD_ESTIMATE, SLOT_APPLY and LE_RC_DATA_ACCESS leave, and where an estimate leaves the state as it was.
RC_PAGE_GRANT walks the wait list, and LE_RC_DENIED then holds how many still wait: 0 for an empty list, and of one
request 0 with the pages granted where they are free and 1 where not. RC_PERIOD_ESTIMATE of a context slot with EN_RC
and no PERIOD sets PERIOD and APPLY, and no other register, where the estimate is from 2 to 16,384 and within 1 sample
of the one before, exactly 10 s earlier; any other that is due is kept and writes no register, and one that is not due
or not called for leaves the state as it was. SLOT_APPLY sets APPLY alone. LE_RC_DATA_ACCESS writes or reads the pool
code at LE_RC_ADDR, puts it in LE_RC_DATA and moves the address on. -/
def Obligations.RepetitivePool : Prop :=
  (∀ s : State, s.Inv →
    ∃ t, exec .rcPageGrant s = .next t ∧ Frame { regs := true, le := true } s t ∧ t.rd LE_RC_DENIED =
      t.le.waiting.length % 2 ^ 13 ∧ t = s.rcWalk) ∧
  (∀ s : State, s.le.waiting = [] → ∃ t, exec .rcPageGrant s = .next t ∧ Frame { regs := true, le := true } s t ∧ t =
    s.wr LE_RC_DENIED 0) ∧
  (∀ (s : State) (k n : Nat) (l : List Nat), s.le.waiting = [(k, n)] → n ≠ 0 → s.freePages n = some l →
    ∃ t, exec .rcPageGrant s = .next t ∧ Frame { regs := true, le := true } s t ∧ t = ((s.onLe fun y =>
      { y with waiting := [] }).rcGrant k l).wr LE_RC_DENIED 0) ∧
  (∀ (s : State) (k n : Nat), s.le.waiting = [(k, n)] → n = 0 ∨ s.freePages n = none →
    ∃ t, exec .rcPageGrant s = .next t ∧ Frame { regs := true, le := true } s t ∧ t = s.wr LE_RC_DENIED 1) ∧
  (∀ (s : State) (k : Fin 4096) (est t0 : Nat), s.Inv → s.actBit (SL_CTRL_EN_RC k) = true →
    s.act (SL_RC_CFG_PERIOD k) = 0 → (s.slot k).estAt = some t0 → t0 + secs 10 = s.time → 2 ≤ est → est ≤ 16384 →
    est ≤ (s.slot k).est + 1 → (s.slot k).est ≤ est + 1 →
    ∃ t, exec (.rcPeriodEstimate k est) s = .next t ∧ Frame { regs := true, le := true } s t ∧ t.rd (SL_RC_CFG_PERIOD
      k) = est ∧
      t.bit (SL_CTRL_APPLY k) = true ∧
      RegsBut (fun a => a = (SL_RC_CFG_PERIOD k).addr ∨ a = (SL_CTRL_APPLY k).addr) s t) ∧
  (∀ (s : State) (k : Fin 4096) (est : Nat), s.actBit (SL_CTRL_EN_RC k) = true → s.act (SL_RC_CFG_PERIOD k) = 0 →
    (s.slot k).estAt = none ∨ (∃ t0, (s.slot k).estAt = some t0 ∧ t0 + secs 10 ≤ s.time) →
    (∀ t0, (s.slot k).estAt = some t0 → t0 + secs 10 ≠ s.time) ∨ est < 2 ∨ 16384 < est ∨ (s.slot k).est + 1 < est ∨
      est + 1 < (s.slot k).est →
    ∃ t, exec (.rcPeriodEstimate k est) s = .next t ∧ Frame { regs := true, le := true } s t ∧ t.regs = s.regs ∧
      t = s.setSlot k { s.slot k with est := est, estPrev := (s.slot k).est, estAt := some s.time }) ∧
  (∀ (s : State) (k : Fin 4096) (est : Nat), s.actBit (SL_CTRL_EN_RC k) = false ∨ s.act (SL_RC_CFG_PERIOD k) ≠ 0 ∨
      (∃ t0, (s.slot k).estAt = some t0 ∧ s.time < t0 + secs 10) →
    ∃ t, exec (.rcPeriodEstimate k est) s = .next t ∧ Frame { regs := true, le := true } s t ∧ t = s) ∧
  (∀ (s : State) (k : Fin 4608), s.Inv →
    ∃ t, exec (.slotApply k) s = .next t ∧ Frame { regs := true } s t ∧ t.bit (SL_CTRL_APPLY k) = true ∧
      RegsBut (· = (SL_CTRL_APPLY k).addr) s t) ∧
  (∀ (s : State) (w : BitVec 16), s.Inv →
    ∃ t, exec (.leRcDataAccess (some w)) s = .next t ∧ Frame { regs := true, mb := true, le := true } s t ∧ t.le =
      { s.le with pool := tset 0 s.le.pool (s.rd LE_RC_ADDR) w.toInt } ∧
      t.rd LE_RC_DATA = wrapInt 16 (tget 0 t.le.pool (s.rd LE_RC_ADDR)) ∧ t.rd LE_RC_ADDR = (s.rd LE_RC_ADDR + 1) % 2
        ^ 24 ∧
      RegsBut (fun a => a = LE_RC_ADDR.addr ∨ a = LE_RC_DATA.addr) s t) ∧
  ∀ s : State, s.Inv →
    ∃ t, exec (.leRcDataAccess none) s = .next t ∧ Frame { regs := true, mb := true, le := true } s t ∧ t.le = s.le ∧
      t.rd LE_RC_DATA = wrapInt 16 (tget 0 s.le.pool (s.rd LE_RC_ADDR)) ∧
      t.rd LE_RC_ADDR = (s.rd LE_RC_ADDR + 1) % 2 ^ 24 ∧
      (s.sys.mode ≠ .off → t.mb.replies.head? =
        some { body := leBytes 4 (wrapInt 16 (tget 0 s.le.pool (s.rd LE_RC_ADDR))) }) ∧
      RegsBut (fun a => a = LE_RC_ADDR.addr ∨ a = LE_RC_DATA.addr) s t

/-- The states of an injection channel after each of its commands, and where they leave the state as it was.
INJ_CTRL_START arms a channel, STATE 1, with its count 0 and its working state cleared. INJECTION_START at the
channel's count, less the lead of its PRE entries, or with a count of 0 at a release of its slot, makes an armed
channel run, STATE 2. INJ_CTRL_STOP ends an armed channel at once, STATE 4, and in every other state sets STOP alone.
CAPTURE_DONE with 4,096 entries ends a running channel, STATE 3. That START and STOP read as they do and that STOP
ends in STATE 4 are the model's choices (log entry 93). No register but those listed changes. INJECTION_START before
its time or of a channel that is not armed, and CAPTURE_DONE of one that is not running or not full, leave the state
as it was. -/
def Obligations.InjectionAndBobbins : Prop :=
  (∀ (s : State) (c : Fin 32), s.Inv →
    ∃ t, exec (.injCtrlStart c) s = .next t ∧ Frame { regs := true, le := true } s t ∧ t.rd (LE_INJ_CTRL_STATE c) = 1
      ∧
      t.rd (LE_INJ_COUNT c) = 0 ∧ t.le = { s.le with inj := tset {} s.le.inj c {} } ∧
      RegsBut (fun a => a = (LE_INJ_CTRL_STATE c).addr ∨ a = (LE_INJ_COUNT c).addr) s t) ∧
  (∀ (s : State) (c : Fin 32), s.Inv → s.rd (LE_INJ_CTRL_STATE c) = 1 →
    (s.rd64 (LE_INJ_START_LO c) = 0 ∧ (s.slot (s.rd (LE_INJ_CTRL_SLOT c))).release.isSome = true) ∨
      (s.rd64 (LE_INJ_START_LO c) ≠ 0 ∧ s.rd64 (LE_INJ_START_LO c) ≤ s.time +
        min (s.rd (LE_INJ_CAP_PRE c)) 1024 * ((s.rd (LE_INJ_CAP_DECIM c) + 255) % 256 + 1) *
          s.period (s.rd (LE_INJ_CTRL_SLOT c))) →
    ∃ t, exec (.injectionStart c) s = .next t ∧ Frame { regs := true, le := true } s t ∧ t.rd (LE_INJ_CTRL_STATE c) =
      2 ∧
      t.le.inj = tset {} s.le.inj c { preLeft := min (s.rd (LE_INJ_CAP_PRE c)) 1024 } ∧
      t.le = { s.le with inj := t.le.inj } ∧
      RegsBut (· = (LE_INJ_CTRL_STATE c).addr) s t) ∧
  (∀ (s : State) (c : Fin 32), s.rd (LE_INJ_CTRL_STATE c) = 1 →
    (s.rd64 (LE_INJ_START_LO c) = 0 ∧ (s.slot (s.rd (LE_INJ_CTRL_SLOT c))).release = none) ∨
      (s.rd64 (LE_INJ_START_LO c) ≠ 0 ∧ s.time + min (s.rd (LE_INJ_CAP_PRE c)) 1024 *
        ((s.rd (LE_INJ_CAP_DECIM c) + 255) % 256 + 1) * s.period (s.rd (LE_INJ_CTRL_SLOT c)) < s.rd64
          (LE_INJ_START_LO c)) →
    ∃ t, exec (.injectionStart c) s = .next t ∧ Frame { regs := true, le := true } s t ∧ t = s) ∧
  (∀ (s : State) (c : Fin 32), s.rd (LE_INJ_CTRL_STATE c) ≠ 1 → ∃ t, exec (.injectionStart c) s = .next t ∧
    Frame { regs := true, le := true } s t ∧ t = s) ∧
  (∀ (s : State) (c : Fin 32), s.Inv → s.rd (LE_INJ_CTRL_STATE c) = 1 →
    ∃ t, exec (.injCtrlStop c) s = .next t ∧ Frame { regs := true, dic := true, le := true } s t ∧ t.rd
      (LE_INJ_CTRL_STATE c) = 4 ∧
      RegsBut (fun a => a = (LE_INJ_CTRL_STATE c).addr ∨ a = (SL_FLAGS_INJ_ACTIVE (s.rd (LE_INJ_CTRL_SLOT c))).addr ∨
        noteReg a) s t) ∧
  (∀ (s : State) (c : Fin 32), s.Inv → s.rd (LE_INJ_CTRL_STATE c) ≠ 1 →
    ∃ t, exec (.injCtrlStop c) s = .next t ∧ Frame { regs := true, dic := true, le := true } s t ∧ t.bit
      (LE_INJ_CTRL_STOP c) = true ∧ t.le = s.le ∧
      RegsBut (· = (LE_INJ_CTRL_STOP c).addr) s t) ∧
  (∀ (s : State) (c : Fin 32), s.Inv → s.rd (LE_INJ_CTRL_STATE c) = 2 → 4096 ≤ s.rd (LE_INJ_COUNT c) →
    ∃ t, exec (.captureDone c) s = .next t ∧ Frame { regs := true, dic := true, le := true } s t ∧ t.rd
      (LE_INJ_CTRL_STATE c) = 3 ∧
      RegsBut (fun a => a = (LE_INJ_CTRL_STATE c).addr ∨ a = (SL_FLAGS_INJ_ACTIVE (s.rd (LE_INJ_CTRL_SLOT c))).addr ∨
        noteReg a) s t) ∧
  ∀ (s : State) (c : Fin 32), s.rd (LE_INJ_CTRL_STATE c) ≠ 2 ∨ s.rd (LE_INJ_COUNT c) < 4096 → ∃ t, exec (.captureDone
    c) s = .next t ∧ Frame { regs := true, dic := true, le := true } s t ∧ t = s

/-- The status, pointers and mark of a bobbin after each of its commands, and where they leave the state as it was.
BOBBIN_POST_COMPLETE in mode 0 after the last entry behind the trigger, BOBBIN_RING_FULL in mode 2 with the ring
wrapped and BOB_STOP while armed stop the bobbin: STOPPED 1 and ARMED 0; BOB_STOP of a bobbin that is not armed sets
the STOP bit only. BOB_ARM clears the pointers, the status and the mark's VALID bit and arms. BOB_MARK sets the mark
at the write pointer. BOB_SW_TRIG triggers an armed bobbin once: the trigger pointer takes the write pointer, and in
modes 0 and 1 the mark is set there; else it sets its own bit alone. Which status bits ARM clears and what the STOP,
ARM, MARK and SW_TRIG bits read are the model's choices (log entry 93). Where a clause lists registers, no other
changes. BOBBIN_POST_COMPLETE and BOBBIN_RING_FULL in every other case leave the state as it was. -/
def Obligations.BobbinRings : Prop :=
  (∀ (s : State) (b : Fin 8), s.Inv → s.bit (BOB_STATUS_ARMED b) = true → s.rd (BOB_CTRL_MODE b) = 0 →
    s.bit (BOB_STATUS_TRIGGERED b) = true → (s.bob b).postLeft = 0 →
    ∃ t, exec (.bobbinPostComplete b) s = .next t ∧ Frame { regs := true } s t ∧ t.bit (BOB_STATUS_STOPPED b) = true ∧
      t.bit (BOB_STATUS_ARMED b) = false ∧ RegsBut (fun a => a = (BOB_CTRL b).addr ∨ a = (BOB_STATUS b).addr) s t) ∧
  (∀ (s : State) (b : Fin 8), s.bit (BOB_STATUS_ARMED b) = false ∨ s.rd (BOB_CTRL_MODE b) ≠ 0 ∨ s.bit
    (BOB_STATUS_TRIGGERED b) = false ∨ (s.bob b).postLeft ≠ 0 →
    ∃ t, exec (.bobbinPostComplete b) s = .next t ∧ Frame { regs := true } s t ∧ t = s) ∧
  (∀ (s : State) (b : Fin 8), s.Inv → s.bit (BOB_STATUS_ARMED b) = true → s.rd (BOB_CTRL_MODE b) = 2 →
    s.bit (BOB_WPTR_WRAPPED b) = true →
    ∃ t, exec (.bobbinRingFull b) s = .next t ∧ Frame { regs := true } s t ∧ t.bit (BOB_STATUS_STOPPED b) = true ∧
      t.bit (BOB_STATUS_ARMED b) = false ∧ RegsBut (fun a => a = (BOB_CTRL b).addr ∨ a = (BOB_STATUS b).addr) s t) ∧
  (∀ (s : State) (b : Fin 8), s.bit (BOB_STATUS_ARMED b) = false ∨ s.rd (BOB_CTRL_MODE b) ≠ 2 ∨ s.bit
    (BOB_WPTR_WRAPPED b) = false →
    ∃ t, exec (.bobbinRingFull b) s = .next t ∧ Frame { regs := true } s t ∧ t = s) ∧
  (∀ (s : State) (b : Fin 8), s.Inv →
    ∃ t, exec (.bobArm b) s = .next t ∧ Frame { regs := true, le := true } s t ∧ t.bit (BOB_STATUS_ARMED b) = true ∧
      t.bit (BOB_STATUS_TRIGGERED b) = false ∧ t.bit (BOB_STATUS_STOPPED b) = false ∧ t.rd (BOB_WPTR b) = 0 ∧
      t.bit (BOB_MARKPTR_VALID b) = false ∧ t.le = { s.le with bob := tset {} s.le.bob b {} } ∧
      RegsBut (fun a => a = (BOB_WPTR b).addr ∨ a = (BOB_TRIGPTR b).addr ∨ a = (BOB_MARKPTR b).addr ∨
        a = (BOB_CTRL b).addr ∨ a = (BOB_STATUS b).addr) s t) ∧
  (∀ (s : State) (b : Fin 8), s.Inv → s.bit (BOB_STATUS_ARMED b) = true →
    ∃ t, exec (.bobStop b) s = .next t ∧ Frame { regs := true } s t ∧ t.bit (BOB_STATUS_STOPPED b) = true ∧
      t.bit (BOB_STATUS_ARMED b) = false ∧ RegsBut (fun a => a = (BOB_CTRL b).addr ∨ a = (BOB_STATUS b).addr) s t) ∧
  (∀ (s : State) (b : Fin 8), s.bit (BOB_STATUS_ARMED b) = false →
    ∃ t, exec (.bobStop b) s = .next t ∧ Frame { regs := true } s t ∧ t = s.putBit (BOB_CTRL_STOP b) true) ∧
  (∀ (s : State) (b : Fin 8), s.Inv →
    ∃ t, exec (.bobMark b) s = .next t ∧ Frame { regs := true, le := true } s t ∧ t.rd (BOB_MARKPTR_IDX b) = s.rd
      (BOB_WPTR_IDX b) ∧
      t.bit (BOB_MARKPTR_VALID b) = true ∧ RegsBut (fun a => a = (BOB_CTRL b).addr ∨ a = (BOB_MARKPTR b).addr) s t) ∧
  (∀ (s : State) (b : Fin 8), s.Inv → s.bit (BOB_STATUS_ARMED b) = true → s.bit (BOB_STATUS_TRIGGERED b) = false →
    ∃ t, exec (.bobSwTrig b) s = .next t ∧ Frame { regs := true, dic := true, le := true } s t ∧ t.bit
      (BOB_STATUS_TRIGGERED b) = true ∧ t.rd (BOB_TRIGPTR_IDX b) = s.rd (BOB_WPTR_IDX b) ∧
      (s.rd (BOB_CTRL_MODE b) ≤ 1 → t.rd (BOB_MARKPTR_IDX b) = s.rd (BOB_WPTR_IDX b) ∧
        t.bit (BOB_MARKPTR_VALID b) = true) ∧
      RegsBut (fun a => a = (BOB_CTRL b).addr ∨ a = (BOB_STATUS b).addr ∨ a = (BOB_TRIGPTR b).addr ∨
        a = (BOB_MARKPTR b).addr ∨ noteReg a) s t) ∧
  ∀ (s : State) (b : Fin 8), ¬ (s.bit (BOB_STATUS_ARMED b) = true ∧ s.bit (BOB_STATUS_TRIGGERED b) = false) → s.Inv →
    ∃ t, exec (.bobSwTrig b) s = .next t ∧ Frame { regs := true, dic := true, le := true } s t ∧ t = s.putBit
      (BOB_CTRL_SW_TRIG b) true

/-- The register write of each scalar operation that computes a value.
exec of each of ADD, SUB, AND, OR, XOR, SHL, SHR, SRA, MUL, MIN, MAX, ADDI, LI, ANDI, MOVFM and VEXT, where the
operation issues (the tile runs, slot 0 has not issued in this cycle and holds the opcode in a legal word), answers
the next state in which the slot is marked and, where the predicate of the word holds, the value of R105 is written
into the s register of the word after its latency: one cycle, two for VEXT, three for MUL. Sums, differences and
products are taken modulo 2^64 by that write, shifts by the low six bits, minima and maxima signed. No other tile and
nothing else of the machine changes. -/
def Obligations.TileScalarValues : Prop :=
  (∀ (s : State) (t : Fin 128), Runs (.add t) s t 0 0x01 fun w x =>
      x.toS 0 1 (fD w) (x.sreg (fA w) + x.sreg (fB w))) ∧
  (∀ (s : State) (t : Fin 128), Runs (.sub t) s t 0 0x02 fun w x =>
      x.toS 0 1 (fD w) (x.sreg (fA w) + (2 ^ 64 - x.sreg (fB w)))) ∧
  (∀ (s : State) (t : Fin 128), Runs (.and t) s t 0 0x03 fun w x =>
      x.toS 0 1 (fD w) (x.sreg (fA w) &&& x.sreg (fB w))) ∧
  (∀ (s : State) (t : Fin 128), Runs (.or t) s t 0 0x04 fun w x =>
      x.toS 0 1 (fD w) (x.sreg (fA w) ||| x.sreg (fB w))) ∧
  (∀ (s : State) (t : Fin 128), Runs (.xor t) s t 0 0x05 fun w x =>
      x.toS 0 1 (fD w) (x.sreg (fA w) ^^^ x.sreg (fB w))) ∧
  (∀ (s : State) (t : Fin 128), Runs (.shl t) s t 0 0x06 fun w x =>
      x.toS 0 1 (fD w) (x.sreg (fA w) * 2 ^ (x.sreg (fB w) % 64))) ∧
  (∀ (s : State) (t : Fin 128), Runs (.shr t) s t 0 0x07 fun w x =>
      x.toS 0 1 (fD w) (x.sreg (fA w) / 2 ^ (x.sreg (fB w) % 64))) ∧
  (∀ (s : State) (t : Fin 128), Runs (.sra t) s t 0 0x08 fun w x =>
      x.toS 0 1 (fD w) (wrapInt 64 (signedOf 64 (x.sreg (fA w)) / 2 ^ (x.sreg (fB w) % 64)))) ∧
  (∀ (s : State) (t : Fin 128), Runs (.mul t) s t 0 0x09 fun w x =>
      x.toS 0 3 (fD w) (x.sreg (fA w) * x.sreg (fB w))) ∧
  (∀ (s : State) (t : Fin 128), Runs (.min t) s t 0 0x0A fun w x =>
      x.toS 0 1 (fD w) (if signedOf 64 (x.sreg (fA w)) ≤ signedOf 64 (x.sreg (fB w)) then x.sreg (fA w) else x.sreg
        (fB w))) ∧
  (∀ (s : State) (t : Fin 128), Runs (.max t) s t 0 0x0B fun w x =>
      x.toS 0 1 (fD w) (if signedOf 64 (x.sreg (fB w)) ≤ signedOf 64 (x.sreg (fA w)) then x.sreg (fA w) else x.sreg
        (fB w))) ∧
  (∀ (s : State) (t : Fin 128), Runs (.addi t) s t 0 0x11 fun w x =>
      x.toS 0 1 (fD w) (x.sreg (fA w) + fImm64 w)) ∧
  (∀ (s : State) (t : Fin 128), Runs (.li t) s t 0 0x12 fun w x =>
      x.toS 0 1 (fD w) (fImm64 w)) ∧
  (∀ (s : State) (t : Fin 128), Runs (.andi t) s t 0 0x13 fun w x =>
      x.toS 0 1 (fD w) (x.sreg (fA w) &&& fImm64 w)) ∧
  (∀ (s : State) (t : Fin 128), Runs (.movfm t) s t 0 0x20 fun w x =>
      x.toS 0 1 (fD w) (x.mreg (fA w))) ∧
  (∀ (s : State) (t : Fin 128), Runs (.vext t) s t 0 0x22 fun w x =>
      x.toS 0 2 (fD w) (x.lane (fA w) (fLane w)).toNat)

/-- Comparisons, predicate operations, MOVTM, branches, HALT, NOP and illegal operations.
exec of each of CMP, CMPI, PAND, POR, PXOR, PNOT, MOVTM, BR, LOOP, BRI and HALT, where the operation issues, answers
the next state in which the slot is marked and, where the predicate of the word holds, its p register or its m
register is written one cycle later; BR and BRI set the branch of the bundle; LOOP counts its register down and sets
the branch where it is not 0 then; HALT halts the tile with its bundle. A slot with opcode 0 issues as NOP and is only
marked. An operation that is not legal issues with ILL set where its predicate holds, and is only marked where it does
not. No other tile and nothing else of the machine changes. -/
def Obligations.TileScalarControl : Prop :=
  (∀ (s : State) (t : Fin 128), Runs (.cmp t) s t 0 0x18 fun w x =>
      x.later 0 1 (.preg (fD w) (ccInt 64 (fCC w) (x.sreg (fA w)) (x.sreg (fB w))))) ∧
  (∀ (s : State) (t : Fin 128), Runs (.cmpi t) s t 0 0x19 fun w x =>
      x.later 0 1 (.preg (fD w) (ccInt 64 (fCC w) (x.sreg (fA w)) (fImm64 w)))) ∧
  (∀ (s : State) (t : Fin 128), Runs (.pand t) s t 0 0x1A fun w x =>
      x.later 0 1 (.preg (fD w) (x.pred (fA w) && x.pred (fB w)))) ∧
  (∀ (s : State) (t : Fin 128), Runs (.por t) s t 0 0x1B fun w x =>
      x.later 0 1 (.preg (fD w) (x.pred (fA w) || x.pred (fB w)))) ∧
  (∀ (s : State) (t : Fin 128), Runs (.pxor t) s t 0 0x1C fun w x =>
      x.later 0 1 (.preg (fD w) (x.pred (fA w) != x.pred (fB w)))) ∧
  (∀ (s : State) (t : Fin 128), Runs (.pnot t) s t 0 0x1D fun w x =>
      x.later 0 1 (.preg (fD w) (!x.pred (fA w)))) ∧
  (∀ (s : State) (t : Fin 128), Runs (.movtm t) s t 0 0x21 fun w x =>
      x.later 0 1 (.mreg (fD w) (x.sreg (fA w)))) ∧
  (∀ (s : State) (t : Fin 128), Runs (.br t) s t 0 0x30 fun w x =>
      { x with branch := some (fTarget w, true) }) ∧
  (∀ (s : State) (t : Fin 128), Runs (.loop t) s t 0 0x31 fun w x =>
      if (x.sreg (fA w) + (2 ^ 64 - 1)) % 2 ^ 64 = 0 then x.toS 0 1 (fA w) 0 else
      { x.toS 0 1 (fA w) ((x.sreg (fA w) + (2 ^ 64 - 1)) % 2 ^ 64) with branch := some (fTarget w, false) }) ∧
  (∀ (s : State) (t : Fin 128), Runs (.bri t) s t 0 0x32 fun w x =>
      { x with branch := some (x.sreg (fA w) % 2048, true) }) ∧
  (∀ (s : State) (t : Fin 128), Runs (.halt t) s t 0 0x3F fun _ x =>
      { x with halting := true }) ∧
  (∀ (s : State) (t : Fin 128) (slot : Fin 8), s.ready t slot = true → opOf ((s.tile t).slotWord slot) = 0 →
    ∃ u, exec (.nop t slot) s = .next u ∧ Frame { tr := true } s u ∧
      u.tr = { s.tr with tiles := tset {} s.tr.tiles t ((s.tile t).mark slot) }) ∧
  ∀ (s : State) (t : Fin 128) (slot : Fin 8), s.ready t slot = true → opOf ((s.tile t).slotWord slot) ≠ 0 →
    (s.tile t).legal slot ((s.tile t).slotWord slot) = false →
    ∃ u x, exec (.illegalOperation t slot) s = .next u ∧ Frame { tr := true } s u ∧
      x = (if (s.tile t).predHolds ((s.tile t).slotWord slot) = true then (s.tile t).ill else s.tile t) ∧
      u.tr = { s.tr with tiles := tset {} s.tr.tiles t (x.mark slot) }

/-- The register write of each load, the line bytes of each store, and what the check of the words and the mirror leave.
exec of each of LD, LDX8, LDX16, LDB, LDS, ST, STN8, STN16 and STS in either load and store slot, with every outcome
of the check of the words it reads, answers the next state where the operation issues. Where its predicate holds, a
load writes the lanes or the s register that R106 names after three cycles, a store writes the bytes that R106 names
into its line, either adds its increment to its base register, a store is mirrored where a tile mirrors the line, and
the check leaves its outcome; where the predicate does not hold the slot is only marked. A check that finds nothing
changes nothing; a corrected error is counted for the tile and for Trellis; an uncorrectable one fails the tile. A
store is mirrored only into the context-state region of a tile that is not in its sentinel, from the capture of its
column until the mirror stops. -/
def Obligations.TileLoadsAndStores : Prop :=
  (∀ (s : State) (t : Fin 128) (b : Bool) (e : KwErr), Loads (.ld t b e) s t b 0x01 e fun w l =>
      .vreg (fD w) ((upto 16).map fun j => (16 * fHalf w + j, BitVec.ofNat 32 (fieldLE l (4 * j) 4)))) ∧
  (∀ (s : State) (t : Fin 128) (b : Bool) (e : KwErr), Loads (.ldx8 t b e) s t b 0x02 e fun w l =>
      .vreg (fD w) (allLanes fun i => BitVec.ofInt 32 (signedOf 8 (fieldLE l (32 * fHalf w + i) 1)))) ∧
  (∀ (s : State) (t : Fin 128) (b : Bool) (e : KwErr), Loads (.ldx16 t b e) s t b 0x03 e fun w l =>
      .vreg (fD w) (allLanes fun i =>
        if fHalf w = 0 then BitVec.ofInt 32 (signedOf 16 (fieldLE l (2 * i) 2))
        else BitVec.ofNat 32 (fieldLE l (2 * i) 2 * 65536))) ∧
  (∀ (s : State) (t : Fin 128) (b : Bool) (e : KwErr), Loads (.ldb t b e) s t b 0x04 e fun w l =>
      .vreg (fD w) (allLanes fun _ => BitVec.ofNat 32 (fieldLE l (4 * fSel w) 4))) ∧
  (∀ (s : State) (t : Fin 128) (b : Bool) (e : KwErr), Loads (.lds t b e) s t b 0x05 e fun w l =>
      .sreg (fD w) (fieldLE l (8 * fWord8 w) 8)) ∧
  (∀ (s : State) (t : Fin 128) (b : Bool) (e : KwErr), Stores (.st t b e) s t b 0x09 e fun w x =>
      (upto 16).flatMap fun j => bytesFrom (4 * j) 4 (x.lane (fD w) (16 * fHalf w + j)).toNat) ∧
  (∀ (s : State) (t : Fin 128) (b : Bool) (e : KwErr), Stores (.stn8 t b e) s t b 0x0A e fun w x =>
      (upto 32).flatMap fun i => bytesFrom (32 * fHalf w + i) 1 (x.lane (fD w) i).toNat) ∧
  (∀ (s : State) (t : Fin 128) (b : Bool) (e : KwErr), Stores (.stn16 t b e) s t b 0x0B e fun w x =>
      (upto 32).flatMap fun i =>
        bytesFrom (2 * i) 2 (if fHalf w = 0 then (x.lane (fD w) i).toNat else bf16Of (x.lane (fD w) i))) ∧
  (∀ (s : State) (t : Fin 128) (b : Bool) (e : KwErr), Stores (.sts t b e) s t b 0x0C e fun w x =>
      bytesFrom (8 * fWord8 w) 8 (x.sreg (fD w))) ∧
  (∀ (s : State) (t : Nat) (e : KwErr), kwCheck e = .ok → s.tileEcc t e = s) ∧
  (∀ (s : State) (t : Fin 128) (e : KwErr), s.Inv → kwCheck e = .corrected →
    RegsBut (fun a => a = (TR_TILE_CE_COUNT t).addr ∨ a = TR_ECC_CE.addr) s
      (s.tileEcc t e) ∧
    (s.tileEcc t e).rd (TR_TILE_CE_COUNT t) = min (s.rd (TR_TILE_CE_COUNT t) + 1) (2 ^ ((TR_TILE_CE_COUNT t).hi + 1 -
      (TR_TILE_CE_COUNT t).lo) - 1) ∧
    (s.tileEcc t e).rd TR_ECC_CE = min (s.rd TR_ECC_CE + 1) (2 ^ (TR_ECC_CE.hi + 1 - TR_ECC_CE.lo) - 1)) ∧
  (∀ (s : State) (t : Nat) (e : KwErr), kwCheck e = .uncorrectable → s.tileEcc t e = s.tileFail t .ecc) ∧
  (∀ (s : State) (t n : Nat) (x : Tile) (l : List (Nat × Byte)), s.mirrorTo t = none ∨ x.inState n = false ∨ x.sent =
    true →
    s.mirror t n x l = s) ∧
  ∀ (s : State) (t n q : Nat) (x : Tile) (l : List (Nat × Byte)), s.mirrorTo t = some q → x.inState n = true →
    x.sent = false → s.mirror t n x l = s.setTile q ((s.tile q).apply (.line n l))

/-- The matrix unit and the accumulator slot: what is taken, drained and packed.
exec of each of MMA.I8, MMA.I4, MMA.BF, MMA.MF8, MMA.MF4, MMA.MI8 and MZERO, where the operation issues, answers the
next state in which the slot is marked and, where its predicate holds, the matrix unit has taken the operation as
Tile.mxIssue says; DRAIN, PACK8, PACKBF, PACKM8 and PACKM4, where they issue, write their v register after their
latency with the rows of the accumulator that R110 names. MMA_RESULT in a tile that runs writes the accumulator of the
operation that is due. What RAW = 1 does in a packing operation is the model's choice (log entry 79). No other tile
and nothing else of the machine changes. -/
def Obligations.TileMatrix : Prop :=
  (∀ (s : State) (t : Fin 128), Runs (.mmaI8 t) s t 3 0x01 fun w x =>
      x.mxIssue w) ∧
  (∀ (s : State) (t : Fin 128), Runs (.mmaI4 t) s t 3 0x02 fun w x =>
      x.mxIssue w) ∧
  (∀ (s : State) (t : Fin 128), Runs (.mmaBf t) s t 3 0x03 fun w x =>
      x.mxIssue w) ∧
  (∀ (s : State) (t : Fin 128), Runs (.mmaMf8 t) s t 3 0x04 fun w x =>
      x.mxIssue w) ∧
  (∀ (s : State) (t : Fin 128), Runs (.mmaMf4 t) s t 3 0x05 fun w x =>
      x.mxIssue w) ∧
  (∀ (s : State) (t : Fin 128), Runs (.mmaMi8 t) s t 3 0x06 fun w x =>
      x.mxIssue w) ∧
  (∀ (s : State) (t : Fin 128), Runs (.mzero t) s t 3 0x08 fun w x =>
      x.mxIssue w) ∧
  (∀ (s : State) (t : Fin 128), Runs (.drain t) s t 4 0x01 fun w x =>
      x.toV 4 4 (fD w) (x.acVals w (x.acRow w))) ∧
  (∀ (s : State) (t : Fin 128), Runs (.pack8 t) s t 4 0x02 fun w x =>
      x.toV 4 6 (fD w)
      (packed (x.pack8Row w (x.acRow w / 2 * 2) ++ x.pack8Row w (x.acRow w / 2 * 2 + 1)) [])) ∧
  (∀ (s : State) (t : Fin 128), Runs (.packbf t) s t 4 0x03 fun w x =>
      x.toV 4 5 (fD w) (packed (splitBytes 2 ((x.acVals w (x.acRow w)).map fun v =>
      if bitOf w 79 then v.toNat % 65536 else bf16Of v)) [])) ∧
  (∀ (s : State) (t : Fin 128), Runs (.packm8 t) s t 4 0x04 fun w x =>
      x.toV 4 8 (fD w) (packed (mxElems (m8Pack w) (mxScaleOf (m8Max w) (x.acVals w (x.acRow w / 2 * 2)))
      (x.acVals w (x.acRow w / 2 * 2)) ++ mxElems (m8Pack w) (mxScaleOf (m8Max w) (x.acVals w (x.acRow w / 2 * 2 +
        1)))
      (x.acVals w (x.acRow w / 2 * 2 + 1))) [mxScaleOf (m8Max w) (x.acVals w (x.acRow w / 2 * 2)),
      mxScaleOf (m8Max w) (x.acVals w (x.acRow w / 2 * 2 + 1))])) ∧
  (∀ (s : State) (t : Fin 128), Runs (.packm4 t) s t 4 0x05 fun w x =>
      x.toV 4 8 (fD w) (packed (((upto 4).map fun q => x.acVals w (x.acRow w / 4 * 4 + q)).flatMap fun r =>
      nibbles 16 (mxElems packE2M1 (mxScaleOf 2 r) r)) (((upto 4).map fun q =>
      x.acVals w (x.acRow w / 4 * 4 + q)).map (mxScaleOf 2)))) ∧
  ∀ (s : State) (t : Fin 128) (m : MxOp), s.tileRuns t = true → (s.tile t).mxDue = some m →
    ∃ u, exec (.mmaResult t) s = .next u ∧ Frame { tr := true } s u ∧
      u.tr = { s.tr with tiles := tset {} s.tr.tiles t ((s.tile t).mxWrite m) }

/-- The register write of each integer operation of the vector slots.
exec of each of VADD, VSUB, VMUL, VMIN, VMAX, VAND, VOR, VXOR, VSHL, VSHR, VSRA, VCMP, VSEL, VMOV, VBC, VINS, VPERM,
VANY and VRSUM in either vector slot, where the operation issues, answers the next state in which the slot is marked
and, where its predicate holds, the lanes of its v register (for VANY its p register) take the result that R111 gives,
after its latency. No other tile and nothing else of the machine changes. -/
def Obligations.TileVectorIntegers : Prop :=
  (∀ (s : State) (t : Fin 128) (b : Bool), Runs (.vadd t b) s t (vSlot b) 0x01 fun w x =>
      x.toV (vSlot b) 1 (fD w) (x.lanes2 w fun p q =>
      int32Result x.isat (p.toInt + q.toInt))) ∧
  (∀ (s : State) (t : Fin 128) (b : Bool), Runs (.vsub t b) s t (vSlot b) 0x02 fun w x =>
      x.toV (vSlot b) 1 (fD w) (x.lanes2 w fun p q =>
      int32Result x.isat (p.toInt - q.toInt))) ∧
  (∀ (s : State) (t : Fin 128) (b : Bool), Runs (.vmul t b) s t (vSlot b) 0x03 fun w x =>
      x.toV (vSlot b) 2 (fD w) (x.lanes2 w fun p q =>
      int32Result x.isat (p.toInt * q.toInt))) ∧
  (∀ (s : State) (t : Fin 128) (b : Bool), Runs (.vmin t b) s t (vSlot b) 0x04 fun w x =>
      x.toV (vSlot b) 1 (fD w) (x.lanes2 w fun p q => if p.toInt ≤ q.toInt then p else q)) ∧
  (∀ (s : State) (t : Fin 128) (b : Bool), Runs (.vmax t b) s t (vSlot b) 0x05 fun w x =>
      x.toV (vSlot b) 1 (fD w) (x.lanes2 w fun p q => if q.toInt ≤ p.toInt then p else q)) ∧
  (∀ (s : State) (t : Fin 128) (b : Bool), Runs (.vand t b) s t (vSlot b) 0x06 fun w x =>
      x.toV (vSlot b) 1 (fD w) (x.lanes2 w fun p q => p &&& q)) ∧
  (∀ (s : State) (t : Fin 128) (b : Bool), Runs (.vor t b) s t (vSlot b) 0x07 fun w x =>
      x.toV (vSlot b) 1 (fD w) (x.lanes2 w fun p q => p ||| q)) ∧
  (∀ (s : State) (t : Fin 128) (b : Bool), Runs (.vxor t b) s t (vSlot b) 0x08 fun w x =>
      x.toV (vSlot b) 1 (fD w) (x.lanes2 w fun p q => p ^^^ q)) ∧
  (∀ (s : State) (t : Fin 128) (b : Bool), Runs (.vshl t b) s t (vSlot b) 0x09 fun w x =>
      x.toV (vSlot b) 1 (fD w) (x.lanes2 w fun p q => p <<< (q.toNat % 32))) ∧
  (∀ (s : State) (t : Fin 128) (b : Bool), Runs (.vshr t b) s t (vSlot b) 0x0A fun w x =>
      x.toV (vSlot b) 1 (fD w) (x.lanes2 w fun p q => p >>> (q.toNat % 32))) ∧
  (∀ (s : State) (t : Fin 128) (b : Bool), Runs (.vsra t b) s t (vSlot b) 0x0B fun w x =>
      x.toV (vSlot b) 1 (fD w) (x.lanes2 w fun p q => p.sshiftRight (q.toNat % 32))) ∧
  (∀ (s : State) (t : Fin 128) (b : Bool), Runs (.vcmp t b) s t (vSlot b) 0x0C fun w x =>
      x.toV (vSlot b) 1 (fD w) (x.lanes2 w fun p q => laneMask (ccInt 32 (fCC w) p.toNat q.toNat))) ∧
  (∀ (s : State) (t : Fin 128) (b : Bool), Runs (.vsel t b) s t (vSlot b) 0x0D fun w x =>
      x.toV (vSlot b) 1 (fD w) ((upto 32).map fun i =>
      if x.lane (fC w) i = 0 then x.lane (fB w) i else x.lane (fA w) i)) ∧
  (∀ (s : State) (t : Fin 128) (b : Bool), Runs (.vmov t b) s t (vSlot b) 0x0E fun w x =>
      x.toV (vSlot b) 1 (fD w) (x.vreg (fA w))) ∧
  (∀ (s : State) (t : Fin 128) (b : Bool), Runs (.vbc t b) s t (vSlot b) 0x0F fun w x =>
      x.toV (vSlot b) 1 (fD w) (List.replicate 32 (BitVec.ofNat 32 (x.sreg (fA w))))) ∧
  (∀ (s : State) (t : Fin 128) (b : Bool), Runs (.vins t b) s t (vSlot b) 0x10 fun w x =>
      x.later (vSlot b) 1 (.vreg (fD w) [(fLane w, BitVec.ofNat 32 (x.sreg (fA w)))])) ∧
  (∀ (s : State) (t : Fin 128) (b : Bool), Runs (.vperm t b) s t (vSlot b) 0x11 fun w x =>
      x.toV (vSlot b) 2 (fD w) ((x.vreg (fB w)).map fun i => x.lane (fA w) (i.toNat % 32))) ∧
  (∀ (s : State) (t : Fin 128) (b : Bool), Runs (.vany t b) s t (vSlot b) 0x12 fun w x =>
      x.later (vSlot b) 1 (.preg (fD w) ((x.vreg (fA w)).any (· != 0)))) ∧
  (∀ (s : State) (t : Fin 128) (b : Bool), Runs (.vrsum t b) s t (vSlot b) 0x13 fun w x =>
      x.toV (vSlot b) 3 (fD w) (List.replicate 32 ((x.vreg (fA w)).foldl (· + ·) 0)))

/-- The register write of each floating operation, conversion and lookup of the vector slots.
exec of each of FADD, FSUB, FMUL, FMA, FMIN, FMAX, FABS, FNEG, FCMP, FRSUM, FRMAX, FRMIN, CVTIF, CVTFI, EXP, TANH,
SIGM, RSQRT and RCP in either vector slot, where the operation issues, answers the next state in which the slot is
marked and, where its predicate holds, the lanes of its v register take the result that R111 and R128 to R130 give,
after its latency. Within the error bound of R130 the lookup results are free values of the model (log entry 8). No
other tile and nothing else of the machine changes. -/
def Obligations.TileVectorFloats : Prop :=
  (∀ (s : State) (t : Fin 128) (b : Bool), Runs (.fadd t b) s t (vSlot b) 0x20 fun w x =>
      x.toV (vSlot b) 4 (fD w) (x.lanes2 w fadd)) ∧
  (∀ (s : State) (t : Fin 128) (b : Bool), Runs (.fsub t b) s t (vSlot b) 0x21 fun w x =>
      x.toV (vSlot b) 4 (fD w) (x.lanes2 w fsub)) ∧
  (∀ (s : State) (t : Fin 128) (b : Bool), Runs (.fmul t b) s t (vSlot b) 0x22 fun w x =>
      x.toV (vSlot b) 4 (fD w) (x.lanes2 w fmul)) ∧
  (∀ (s : State) (t : Fin 128) (b : Bool), Runs (.fma t b) s t (vSlot b) 0x23 fun w x =>
      x.toV (vSlot b) 4 (fD w) ((upto 32).map fun i =>
      ffma (x.lane (fA w) i) (x.lane (fB w) i) (x.lane (fC w) i))) ∧
  (∀ (s : State) (t : Fin 128) (b : Bool), Runs (.fmin t b) s t (vSlot b) 0x24 fun w x =>
      x.toV (vSlot b) 2 (fD w) (x.lanes2 w fmin)) ∧
  (∀ (s : State) (t : Fin 128) (b : Bool), Runs (.fmax t b) s t (vSlot b) 0x25 fun w x =>
      x.toV (vSlot b) 2 (fD w) (x.lanes2 w fmax)) ∧
  (∀ (s : State) (t : Fin 128) (b : Bool), Runs (.fabs t b) s t (vSlot b) 0x26 fun w x =>
      x.toV (vSlot b) 1 (fD w) (x.lanes1 w fabs)) ∧
  (∀ (s : State) (t : Fin 128) (b : Bool), Runs (.fneg t b) s t (vSlot b) 0x27 fun w x =>
      x.toV (vSlot b) 1 (fD w) (x.lanes1 w fneg)) ∧
  (∀ (s : State) (t : Fin 128) (b : Bool), Runs (.fcmp t b) s t (vSlot b) 0x28 fun w x =>
      x.toV (vSlot b) 2 (fD w) (x.lanes2 w fun p q => laneMask (ccFloat (fCC w) p q))) ∧
  (∀ (s : State) (t : Fin 128) (b : Bool), Runs (.frsum t b) s t (vSlot b) 0x29 fun w x =>
      x.toV (vSlot b) 8 (fD w) (List.replicate 32 (treeSum 6 (x.vreg (fA w))))) ∧
  (∀ (s : State) (t : Fin 128) (b : Bool), Runs (.frmax t b) s t (vSlot b) 0x2A fun w x =>
      x.toV (vSlot b) 4 (fD w) (List.replicate 32 (acrossLanes fmax (x.vreg (fA w))))) ∧
  (∀ (s : State) (t : Fin 128) (b : Bool), Runs (.frmin t b) s t (vSlot b) 0x2B fun w x =>
      x.toV (vSlot b) 4 (fD w) (List.replicate 32 (acrossLanes fmin (x.vreg (fA w))))) ∧
  (∀ (s : State) (t : Fin 128) (b : Bool), Runs (.cvtif t b) s t (vSlot b) 0x30 fun w x =>
      x.toV (vSlot b) 3 (fD w) (x.lanes1 w fun p => f32OfInt p.toInt)) ∧
  (∀ (s : State) (t : Fin 128) (b : Bool), Runs (.cvtfi t b) s t (vSlot b) 0x31 fun w x =>
      x.toV (vSlot b) 3 (fD w) (x.lanes1 w fun p =>
      BitVec.ofInt 32 (f32ToIntSat (-2147483648) 2147483647 p))) ∧
  (∀ (s : State) (t : Fin 128) (b : Bool), Runs (.exp t b) s t (vSlot b) 0x40 fun w x =>
      x.toV (vSlot b) 6 (fD w) (x.lanes1 w luExp)) ∧
  (∀ (s : State) (t : Fin 128) (b : Bool), Runs (.tanh t b) s t (vSlot b) 0x41 fun w x =>
      x.toV (vSlot b) 6 (fD w) (x.lanes1 w luTanh)) ∧
  (∀ (s : State) (t : Fin 128) (b : Bool), Runs (.sigm t b) s t (vSlot b) 0x42 fun w x =>
      x.toV (vSlot b) 6 (fD w) (x.lanes1 w luSigm)) ∧
  (∀ (s : State) (t : Fin 128) (b : Bool), Runs (.rsqrt t b) s t (vSlot b) 0x43 fun w x =>
      x.toV (vSlot b) 6 (fD w) (x.lanes1 w luRsqrt)) ∧
  (∀ (s : State) (t : Fin 128) (b : Bool), Runs (.rcp t b) s t (vSlot b) 0x44 fun w x =>
      x.toV (vSlot b) 6 (fD w) (x.lanes1 w luRcp))

/-- Receiving, freeing, polling, sending and ending a bunch in a tile, its send engine, and the arrival of a message.
RCV in a bundle that must stall (its channel holds no complete message) stalls the tile, and RCV_RESUME ends the stall
once the message is complete. Where they issue, RCV writes the descriptor of the head message and with its bit 105 the
tag into m0, FREE releases the head message, SEND queues a message of m0, line and length or sets SENDQ where 16 are
queued, POLL writes whether a head message is there, and BEND notes the tag of the bunch; BEND of a sentinel bunch
that ends with fewer messages than its table is charged to the stage. SEND_ENGINE_START in a tile that runs clocks the
engine of a stalled tile and hands the messages it has read to the mesh. MESSAGE_ARRIVAL, while Trellis runs, takes
the oldest message bound for a channel of a tile off the mesh and delivers it there. -/
def Obligations.TileMessages : Prop :=
  (∀ (s : State) (n : Fin 128), s.tileRuns n = true → (s.tile n).halted = false → (s.tile n).stalled = false →
    (s.tile n).mustStall = true →
    ∃ t, exec (.rcv n) s = .next t ∧ Frame { tr := true } s t ∧
      t.tr = { s.tr with tiles := tset {} s.tr.tiles n { s.tile n with stalled := true } }) ∧
  (∀ (s : State) (n : Fin 128), (s.tile n).mustStall = false → Runs (.rcv n) s n 7 1 fun w x =>
      match x.head (fCh w) with
      | some m => if bitOf w 105 then (x.toS 7 1 (fD w) m.descr).later 7 1 (.mreg 0 m.tag) else
        x.toS 7 1 (fD w) m.descr
      | none => x) ∧
  (∀ (s : State) (n : Fin 128), s.tileRuns n = true → (s.tile n).stalled = true → (s.tile n).mustStall = false →
    ∃ t, exec (.rcvResume n) s = .next t ∧ Frame { tr := true } s t ∧
      t.tr = { s.tr with tiles := tset {} s.tr.tiles n { s.tile n with stalled := false } }) ∧
  (∀ (s : State) (n : Fin 128), Runs (.free n) s n 7 2 fun w x => x.free (fCh w)) ∧
  (∀ (s : State) (n : Fin 128), Runs (.send n) s n 7 3 fun w x =>
      if 16 ≤ x.sendQ.length then x.sendqFull else
      let line := (x.sreg (bitsOf w 104 99) + bitsOf w 98 84) % 32768
      { x with sendQ := x.sendQ ++ [⟨fCh w, x.m0 % 65536, line, bitsOf w 83 76 + 1, []⟩] }) ∧
  (∀ (s : State) (n : Fin 128), Runs (.poll n) s n 7 4 fun w x => x.later 7 1 (.preg (fD w) (x.head (fCh w)).isSome))
    ∧
  (∀ (s : State) (n : Fin 128), (s.tile n).sent = false ∨ s.tr.sentOn = false ∨
      (s.issue n 7 8 fun _ x => { x with lastBend := some x.m0 }).sentShort (s.tile n) = false →
    Runs (.bend n) s n 7 8 fun _ x => { x with lastBend := some x.m0 }) ∧
  (∀ (s : State) (n : Fin 128), s.holds n 7 8 → (s.tile n).predHolds ((s.tile n).slotWord 7) = true →
    (s.tile n).sent = true → s.tr.sentOn = true →
    (s.issue n 7 8 fun _ x => { x with lastBend := some x.m0 }).sentShort (s.tile n) = true →
    ∃ t, exec (.bend n) s = .next t ∧
      Frame { regs := true, sys := true, dic := true, mg := true, mb := true, le := true, pf := true, tr := true, tw := true } s t ∧ t = State.sentCharge ((s.setTile n (s.tileAfter n 7 fun _ x => { x with lastBend := some x.m0 })).onTr
        fun y => { y with sentEarly := (s.tile n).stage :: y.sentEarly })) ∧
  (∀ (s : State) (n : Fin 128), s.tileRuns n = true →
    ∃ t, exec (.sendEngineStart n) s = .next t ∧
      Frame { regs := true, sys := true, dic := true, mg := true, mb := true, le := true, pf := true, tr := true, tw := true } s t ∧ ∃ x,
      x = (if (s.tile n).stalled = true ∧ (s.tile n).halted = false then (s.tile n).sendClock else s.tile n) ∧
      t = x.outbox.foldl (State.launch · n ·) (s.setTile n { x with outbox := [] })) ∧
  ∀ (s : State) (n : Fin 128) (ch : Fin 8) (i : Nat) (m : Flight), s.trRuns = true → s.tr.mesh[i]? = some m →
    s.tr.mesh.findIdx? (s.bound n ch) = some i →
    ∃ t, exec (.messageArrival n ch) s = .next t ∧
      Frame { regs := true, sys := true, dic := true, mg := true, mb := true, le := true, pf := true, tr := true, tw := true } s t ∧ t = (s.onTr fun y => { y with mesh := y.mesh.eraseIdx i }).deliverTo n ch m.tag m.lines

/-- The entry of the sentinel bunch and of the occupied bunches, and the delivery of predictions and virtual sensors.
SENTINEL_BUNCH_ENTRY from 0.02 f of a frame on, once in the frame, judges the last sentinel and, where Trellis still
runs, feeds the sentinel bunch of its tables. BUNCH_ENTRY feeds the next occupied bunch, number i of the frame from
0.05 f + i × II on, with the tag of the bunch and the frame, and takes it off the list of those that wait.
PREDICTION_DELIVERY and VIRTUAL_SENSOR_DELIVERY take the oldest message for the output or for the virtual sensors off
the mesh that does not wait for a retiring column's last one (R80). A prediction message that is not 64 lines long
adds 32 to TR_BAD_OUT, whatever its tag; one of the sentinel with 64 lines has no other effect; any other gives its 32
rows to the prediction store and times the exit of the last bunch of its frame. A virtual-sensor message of the
sentinel, or one from step 3 of a commit on, writes no sensor; any other writes its words in order to the sensors of
the model, with the frame of the tag. -/
def Obligations.TrellisFrames : Prop :=
  (∀ s u : State, s.trRuns = true → s.tr.frameOn = true → s.tr.frameStart + s.frameCounts / 50 ≤ s.time →
    ¬ (s.tr.sentOn = true ∧ s.tr.sentFrame = s.frame) → s.sentJudge.trRuns = true →
    u = (s.sentJudge.onTr fun y => { y with
      sentOn := true, sentFrame := s.sentJudge.frame, sentWrong := [], sentEarly := [], sentMsgs := [] }) →
    ∃ t, exec .sentinelBunchEntry s = .next t ∧
      Frame { regs := true, sys := true, dic := true, mg := true, mb := true, le := true, pf := true, tr := true, tw := true } s t ∧ t = u.feed u.sentTag u.sentLines) ∧
  (∀ s : State, s.trRuns = true → s.tr.frameOn = true → s.tr.frameStart + s.frameCounts / 50 ≤ s.time →
    ¬ (s.tr.sentOn = true ∧ s.tr.sentFrame = s.frame) → s.sentJudge.trRuns = false →
    ∃ t, exec .sentinelBunchEntry s = .next t ∧
      Frame { regs := true, sys := true, dic := true, mg := true, mb := true, le := true, pf := true, tr := true, tw := true } s t ∧ t = s.sentJudge) ∧
  (∀ (s u : State) (b : Nat) (rest : List Nat), s.tr.toEnter = b :: rest → s.trRuns = true → s.tr.frameOn = true →
    s.tr.frameStart + s.frameCounts / 20 ≤ s.time → s.time < s.tr.frameStart + s.frameCounts →
    s.cyclesIn (s.tr.entered * s.rd TR_II) (s.time - (s.tr.frameStart + s.frameCounts / 20)) = true →
    u = (s.onTr fun y => { y with
      toEnter := rest, entered := y.entered + 1,
      lastOf := ((s.frame, b) :: y.lastOf.filter fun p => p.1 != s.frame).take 4 }) →
    ∃ t, exec .bunchEntry s = .next t ∧
      Frame { regs := true, sys := true, dic := true, mg := true, mb := true, le := true, pf := true, tr := true, tw := true } s t ∧ t = u.feed (fun _ => 256 * b + u.frame % 256) fun _ => u.bunchLines b) ∧
  (∀ (s : State) (i : Nat) (m : Flight), s.Inv → (s.tr.mesh.findIdx? fun m => m.dest == .out && !s.heldBack m) = some
    i →
    s.tr.mesh[i]? = some m →
    ∃ t, exec .predictionDelivery s = .next t ∧ Frame { regs := true, le := true, tr := true } s t ∧ t.tr.mesh =
      s.tr.mesh.eraseIdx i ∧
      (m.lines.length ≠ 64 → t.rd TR_BAD_OUT = min (s.rd TR_BAD_OUT + 32) (2 ^ 16 - 1) ∧
        RegsBut (· = TR_BAD_OUT.addr) s t) ∧
      (m.lines.length = 64 → m.tag / 2 ^ 15 % 2 = 1 → t = s.onTr fun y => { y with mesh := y.mesh.eraseIdx i }) ∧
      (m.lines.length = 64 → m.tag / 2 ^ 15 % 2 = 0 → ∃ u v, u = (s.onTr fun y =>
        { y with mesh := y.mesh.eraseIdx i }) ∧
        v = (upto 32).foldl (State.outRow · (m.tag / 256 % 128) (u.frameOf (m.tag % 256))
          (u.withheld (u.frameOf (m.tag % 256))) m.lines) u ∧
        t = if v.lastBunch (u.frameOf (m.tag % 256)) (m.tag / 256 % 128) = true then
            v.wr TR_LAST_EXIT (v.time - (v.tr.frameStart - (v.frame - u.frameOf (m.tag % 256)) * v.frameCounts))
          else v)) ∧
  ∀ (s : State) (i : Nat) (m : Flight), (s.tr.mesh.findIdx? fun m => m.dest == .vs && !s.heldBack m) = some i →
    s.tr.mesh[i]? = some m →
    ∃ t, exec .virtualSensorDelivery s = .next t ∧ Frame { le := true, tr := true } s t ∧ t.tr.mesh =
      s.tr.mesh.eraseIdx i ∧
      (m.tag / 2 ^ 15 % 2 = 1 ∨ (∃ c, s.tr.commit = some c ∧ 3 ≤ c.step) → t.le.vs = s.le.vs) ∧
      (∀ x j, m.tag / 2 ^ 15 % 2 = 0 → (∀ c, s.tr.commit = some c → c.step < 3) → s.tr.image = some x →
        j < min (16 * m.lines.length) x.vsCount → tget none t.le.vs j =
          some (BitVec.ofNat 32 (fieldLE (m.lines.getD (j / 16) []) (4 * (j % 16)) 4), s.frameOf (m.tag % 256)))

/-- The steps of a rotation of the spare column, the scrubbing of a tile's memories, ROT_NOW and the debug window.
ROTATION_PERIOD_EXPIRY with the period run out, and SPARE_SELFTEST_DONE without a failure 40 ms after the last switch,
are remembered; a failed self-test fails the spare's tile of its row. PRELOAD_DONE after the self-test loads the code
of the retiring column's stages into the spare and sets PHASE 0. ROTATION_CAPTURE_START at a boundary with the period
run out and the spare loaded sets PHASE 2 and the switch LEAD frames later and copies the context state of the
retiring column's stages into the spare. ROTATION_SWITCH from the frame of the switch on, within 0.02 f, takes the
stages up in the spare where the retiring column holds a logical one, makes the retiring column the spare and the one
to its east the next to retire, counts the rotation and sets PHASE 3. ROTATION_MIRROR_STOP, once every tile of the
retired column that held a stage is done, sets PHASE 1. TILE_SCRUB with the tile clocks running dates the pass and
leaves what its check found; an error at a fetch, a matrix operand or a line to send leaves the same without a pass.
TR_ROT_NOW sets ROT_NOW. TR_DBG_DATA_ACCESS answers the word at TR_DBG_ADDR, with what its check found, or writes it
where ENABLE is 0 or the tile is not working, writes nothing otherwise, and moves WORD on. How the copier and the
mirror place their work is the model's reading (log entry 82). -/
def Obligations.TrellisRotation : Prop :=
  (∀ s : State, s.rotates = true → s.trRuns = true → s.rd TR_ROT_STATE_PHASE < 2 →
    s.tr.lastSwitch + secs (clampNat 1 600 (s.rd TR_ROT_PERIOD)) ≤ s.time →
    ∃ t, exec .rotationPeriodExpiry s = .next t ∧ Frame { tr := true } s t ∧ t.tr = { s.tr with rotDue := true }) ∧
  (∀ s : State, s.rotates = true → s.trRuns = true → s.tr.selftestDone = false → s.rd TR_ROT_STATE_PHASE < 2 →
    s.tr.lastSwitch + msec 40 ≤ s.time →
    ∃ t, exec (.spareSelftestDone none) s = .next t ∧
      Frame { regs := true, sys := true, dic := true, mg := true, mb := true, le := true, pf := true, tr := true, tw := true } s t ∧ t = s.onTr fun y => { y with selftestDone := true }) ∧
  (∀ (s : State) (r : Fin 8), s.rotates = true → s.trRuns = true → s.tr.selftestDone = false →
    s.rd TR_ROT_STATE_PHASE < 2 → s.tr.lastSwitch + msec 40 ≤ s.time →
    ∃ t, exec (.spareSelftestDone (some r)) s = .next t ∧
      Frame { regs := true, sys := true, dic := true, mg := true, mb := true, le := true, pf := true, tr := true, tw := true } s t ∧ t = s.tileFail (16 * r + s.rd TR_ROT_STATE_SPARE) .selftest) ∧
  (∀ s : State, s.Inv → s.rotates = true → s.trRuns = true → s.tr.selftestDone = true → s.tr.preloaded = false →
    ∃ t, exec .preloadDone s = .next t ∧ Frame { regs := true, tr := true } s t ∧ t.rd TR_ROT_STATE_PHASE = 0 ∧
      RegsBut (· = TR_ROT_STATE_PHASE.addr) s t ∧ ∃ u,
      u = s.stages.zipIdx.foldl (fun s' p =>
        if some p.1.col = s.logicalOf (s.rd TR_ROT_STATE_RETIRING) then
          s'.setTile (16 * p.1.row + s.rd TR_ROT_STATE_SPARE)
            (s'.loadCode s'.imageSlot p.2 p.1 s'.plantUsed (s'.tile (16 * p.1.row + s.rd TR_ROT_STATE_SPARE)))
        else s') s ∧
      t.tr = { u.tr with preloaded := true }) ∧
  (∀ s : State, s.rotates = true → s.trRuns = true → s.atBoundary = true → s.tr.rotDue = true →
    s.tr.preloaded = true → s.rd TR_ROT_STATE_PHASE < 2 →
    ∃ t, exec .rotationCaptureStart s = .next t ∧ Frame { regs := true, tr := true } s t ∧ ∃ u, u = ((s.onTr fun y =>
      { y with
        rotDue := false, switchAt := some (s.frame + clampNat 1 16 (s.rd TR_CTRL_CAPTURE_LEAD)) }).wr
          TR_ROT_STATE_PHASE 2) ∧
      t = (u.stagesOn (u.rd TR_ROT_STATE_RETIRING)).foldl
        (fun s q => s.copyStage (u.rd TR_ROT_STATE_RETIRING) (u.rd TR_ROT_STATE_SPARE) q.1) u) ∧
  (∀ (s : State) (k : Nat), s.Inv → s.rotates = true → s.trRuns = true → s.rd TR_ROT_STATE_PHASE = 2 →
    s.tr.switchAt = some k → k ≤ s.frame → s.time ≤ s.tr.frameStart + s.frameCounts / 50 →
    ∃ t, exec .rotationSwitch s = .next t ∧ Frame { regs := true, mg := true, tr := true } s t ∧ t.rd
      TR_ROT_STATE_PHASE = 3 ∧ t.rd TR_ROT_STATE_SPARE = s.rd TR_ROT_STATE_RETIRING ∧
      t.tr.retiring = some (s.rd TR_ROT_STATE_RETIRING) ∧ t.tr.lastSwitch = s.time ∧ t.tr.selftestDone = false ∧
      t.tr.preloaded = false ∧ ∃ u : State,
      u = (match s.logicalOf (s.rd TR_ROT_STATE_RETIRING) with
        | some c =>
          ((s.stagesOn (s.rd TR_ROT_STATE_RETIRING)).foldl
            (State.switchStage · (s.rd TR_ROT_STATE_RETIRING) (s.rd TR_ROT_STATE_SPARE) ·) s).wr (colByte c)
              (128 + s.rd TR_ROT_STATE_SPARE)
        | none => s) ∧
      t.rd TR_ROT_STATE_ROT_COUNT = (u.rd TR_ROT_STATE_ROT_COUNT + 1) % 2 ^ 16 ∧
      t.rd TR_ROT_STATE_RETIRING = u.eastOf (s.rd TR_ROT_STATE_RETIRING) % 16 ∧ t.tr.tiles = u.tr.tiles) ∧
  (∀ (s : State) (c : Nat), s.tr.retiring = some c → s.Inv → (∀ w, s.westOf c = some w → ∀ g ∈ s.stagesOn w,
    s.retireeDone (16 * g.1.row + c) = true) →
    ∃ t, exec .rotationMirrorStop s = .next t ∧ Frame { regs := true, tr := true } s t ∧ t.rd TR_ROT_STATE_PHASE = 1
      ∧ t.tr = { s.tr with retiring := none, switchAt := none } ∧
      RegsBut (· = TR_ROT_STATE_PHASE.addr) s t) ∧
  (∀ (s : State) (n : Fin 128) (e : KwErr), s.tileClocks = true →
    ∃ t, exec (.tileScrub n ⟨.pass, e⟩) s = .next t ∧
      Frame { regs := true, sys := true, dic := true, mg := true, mb := true, le := true, pf := true, tr := true, tw := true } s t ∧ t = ((s.setTile n { s.tile n with scrubbed := s.time }).tileEcc n e).scrubOwed) ∧
  (∀ (s : State) (n : Fin 128) (p : EccAt) (e : KwErr), s.tileClocks = true → p ≠ .pass →
    ∃ t, exec (.tileScrub n ⟨p, e⟩) s = .next t ∧
      Frame { regs := true, sys := true, dic := true, mg := true, mb := true, le := true, pf := true, tr := true, tw := true } s t ∧ t = s.tileEcc n e) ∧
  (∀ s : State, s.Inv →
    ∃ t, exec .trRotNow s = .next t ∧ Frame { regs := true } s t ∧ t.bit TR_CTRL_ROT_NOW = true ∧ RegsBut (· =
      TR_CTRL_ROT_NOW.addr) s t) ∧
  (∀ s : State, s.Inv → s.sys.mode ≠ .off →
    ∃ t, exec (.trDbgDataAccess ⟨none, .nil⟩) s = .next t ∧
      Frame { regs := true, sys := true, dic := true, mg := true, mb := true, le := true, pf := true, tr := true, tw := true } s t ∧
      t.mb.replies.head? = some
        { body := leBytes 4 ((s.tile (s.rd TR_DBG_ADDR_TILE)).dbgRead (s.bit TR_DBG_ADDR_SPACE) (s.rd TR_DBG_ADDR_WORD)) } ∧
      t.rd TR_DBG_ADDR_WORD = (s.rd TR_DBG_ADDR_WORD + 1) % 2 ^ 19 ∧ t.tr = s.tr ∧ RegsBut (· =
        TR_DBG_ADDR_WORD.addr) s t) ∧
  (∀ (s : State) (e : KwErr),
    ∃ t, exec (.trDbgDataAccess ⟨none, e⟩) s = .next t ∧
      Frame { regs := true, sys := true, dic := true, mg := true, mb := true, le := true, pf := true, tr := true, tw := true } s t ∧ ∃ x,
      x = (s.tile (s.rd TR_DBG_ADDR_TILE)).dbgRead (s.bit TR_DBG_ADDR_SPACE) (s.rd TR_DBG_ADDR_WORD) ∧
      t = ((s.reply { body := leBytes 4 x }).tileEcc (s.rd TR_DBG_ADDR_TILE) e).wr TR_DBG_ADDR_WORD
        (s.rd TR_DBG_ADDR_WORD + 1)) ∧
  (∀ (s : State) (v : BitVec 32) (e : KwErr), s.Inv →
    s.bit TR_CTRL_ENABLE = false ∨ s.rd (TR_TILE_STATE (s.rd TR_DBG_ADDR_TILE)) ≠ 1 →
    ∃ t, exec (.trDbgDataAccess ⟨some v, e⟩) s = .next t ∧
      Frame { regs := true, sys := true, dic := true, mg := true, mb := true, le := true, pf := true, tr := true, tw := true } s t ∧
      t.tr =
        { s.tr with tiles := tset {} s.tr.tiles (s.rd TR_DBG_ADDR_TILE) ((s.tile (s.rd TR_DBG_ADDR_TILE)).dbgWrite (s.bit TR_DBG_ADDR_SPACE) (s.rd TR_DBG_ADDR_WORD) v.toNat) } ∧
      t.rd TR_DBG_ADDR_WORD = (s.rd TR_DBG_ADDR_WORD + 1) % 2 ^ 19 ∧ RegsBut (· = TR_DBG_ADDR_WORD.addr) s t) ∧
  ∀ (s : State) (v : BitVec 32) (e : KwErr), s.bit TR_CTRL_ENABLE = true →
    s.rd (TR_TILE_STATE (s.rd TR_DBG_ADDR_TILE)) = 1 →
    ∃ t, exec (.trDbgDataAccess ⟨some v, e⟩) s = .next t ∧
      Frame { regs := true, sys := true, dic := true, mg := true, mb := true, le := true, pf := true, tr := true, tw := true } s t ∧ t = s.wr TR_DBG_ADDR_WORD (s.rd TR_DBG_ADDR_WORD + 1)

/-- The checks that every Waxus request passes, in their order.
A module without supply takes no request. A request too short, of another version or of a length its command does not
have is refused with KS_RANGE; then one that only the ACTIVE module takes, at another module, with KS_NOT_OWNER; a
command that changes state and repeats a kept tag is answered with the reply kept, the module state and role as they
are now, its work is not done again, and no register changes but those that the request's doorbell may change; then a
module state outside the command's set gives KS_STATE_CONFLICT. A request that passes them all is replied to with the
code and the reply of its work where that code accepts, and refused with it where the work refuses. -/
def Obligations.MailboxChecks : Prop :=
  (∀ (c : Cmd) (s : State) (p : List Byte), s.sys.mode = .off → s.mailbox c p = s) ∧
  (∀ (c : Cmd) (s : State) (p : List Byte), s.sys.mode ≠ .off →
    p.length < 8 ∨ fieldLE p 4 1 ≠ 1 ∨ c.len p = false →
    s.mailbox c p = s.turnedDown p .range) ∧
  (∀ (c : Cmd) (s : State) (p : List Byte), s.sys.mode ≠ .off → 8 ≤ p.length → fieldLE p 4 1 = 1 → c.len p = true →
    c.active = true →
    s.isActive = false → s.mailbox c p = s.turnedDown p .notOwner) ∧
  (∀ (c : Cmd) (s : State) (p : List Byte) (k : TagRec), s.sys.mode ≠ .off → 8 ≤ p.length → fieldLE p 4 1 = 1 → c.len
    p = true →
    (c.active = true → s.isActive = true) → c.changes = true → s.asked.seenTag (tagOf p) = some k →
    Frame { regs := true, sys := true, dic := true, mb := true, le := true, tw := true } s (s.mailbox c p) ∧
    RegsBut noteReg s (s.mailbox c p) ∧
    (s.mailbox c p).mb.replies.head? = some
      { rc := 0, ks := .ok, body := (k.header.take 2 ++ leBytes 1 s.sys.mode.code ++ leBytes 1 s.sys.role.code ++ k.header.drop 4) ++ k.body }) ∧
  (∀ (c : Cmd) (s : State) (p : List Byte), s.sys.mode ≠ .off → 8 ≤ p.length → fieldLE p 4 1 = 1 → c.len p = true →
    (c.active = true → s.isActive = true) → (c.changes = true → s.asked.seenTag (tagOf p) = none) →
    c.states s.asked = false → s.mailbox c p = s.turnedDown p .stateConflict) ∧
  (∀ (c : Cmd) (s : State) (p : List Byte), Takes s c p → (c.body s.asked p).code.accepted = true →
    s.mailbox c p = s.replied c p (c.body s.asked p)) ∧
  ∀ (c : Cmd) (s : State) (p : List Byte) (k : Ks), Takes s c p → k.accepted = false →
    c.body s.asked p = s.asked.refuse k → s.mailbox c p = s.turnedDown p k

/-- What an accepted reply and a refused one leave behind.
After an accepted request of work r the state is that of the work but for the records of the mailbox, the twin link
and the host-silence timer. Where the command changes no state, or the twin link forwards nothing, the reply with its
status header is the newest one in a module with supply, and MSI-X vector 0 has been sent. Where the command changes
state and the link forwards, no reply and no vector has been sent yet: the reply is held, until the standby has the
command or 1 ms has passed. A command that changes state and has a tag keeps the tag with its reply, clamped values
make the newest clamp list, and on the ACTIVE module the host-silence timer starts again. A refused request changes
nothing but the mailbox and what its doorbell 480 changes: its reply is the newest in a module with supply, vector 0
has been sent, the tags and the journals stay, and the command is counted and dated. Every request first counts
itself, dates the last command and posts doorbell 480, which changes the mailbox, the doorbell controller and the
bobbins alone. -/
def Obligations.MailboxReplies : Prop :=
  (∀ (c : Cmd) (s : State) (p : List Byte) (r : Res),
    Frame { sys := true, mb := true, tw := true } r.st (s.replied c p r) ∧
    (c.changes = false ∨ r.st.forwards = false → r.st.sys.mode ≠ .off → (s.replied c p r).mb.replies.head? = some
      { rc := 0, ks := r.code, body := s.asked.ksHeader r.code (tagOf p) (clampCount r.clamps) r.journal ++ r.out }) ∧
    (c.changes = false ∨ r.st.forwards = false → (s.replied c p r).mb.msix.head? = some 0) ∧
    (c.changes = true → r.st.forwards = true → (s.replied c p r).mb.replies = r.st.mb.replies ∧
      (s.replied c p r).mb.msix = r.st.mb.msix ∧ ∃ n, (s.replied c p r).mb.held = r.st.mb.held ++
        [{ seq := n, due := r.st.time + msec 1, ks := r.code, header := s.asked.ksHeader r.code (tagOf p) (clampCount r.clamps) r.journal, body := r.out }]) ∧
    (c.changes = true → tagOf p ≠ 0 → (s.replied c p r).mb.tags.head? = some
      { tag := tagOf p, time := r.st.time, header := s.asked.ksHeader r.code (tagOf p) (clampCount r.clamps) r.journal, body := r.out }) ∧
    (r.clamps ≠ [] → (s.replied c p r).mb.clamps.head? = some { tag := tagOf p, opcode := c.op, recs := r.clamps }) ∧
    (r.st.isActive = true → (s.replied c p r).sys = { r.st.sys with silenceStart := r.st.time, hostSilent := false })
      ∧
    (r.st.isActive = false → (s.replied c p r).sys = r.st.sys)) ∧
  (∀ (s : State) (p : List Byte) (k : Ks),
    Frame { regs := true, dic := true, mb := true, le := true } s (s.turnedDown p k) ∧
    RegsBut noteReg s (s.turnedDown p k) ∧ (s.turnedDown p k).mb.msix.head? = some 0 ∧
    (s.sys.mode ≠ .off → (s.turnedDown p k).mb.replies.head? = some
      { rc := 0, ks := k, body := s.asked.ksHeader k (tagOf p) 0 0 ++ [] }) ∧
    (s.turnedDown p k).mb.tags = s.mb.tags ∧ (s.turnedDown p k).mb.journals = s.mb.journals ∧
    (s.turnedDown p k).mb.commands = s.mb.commands + 1 ∧ (s.turnedDown p k).mb.lastCommand = some s.time) ∧
  ∀ s : State, Frame { regs := true, dic := true, mb := true, le := true } s s.asked ∧ RegsBut noteReg s s.asked ∧
    s.asked.mb = { s.mb with commands := s.mb.commands + 1, lastCommand := some s.time }

/-- The reply of each mailbox command that reads.
Each clause takes a request that passes the checks of R369 (Takes) and says which reply it gets, with the state its
work leaves. GET_IDENTITY, GET_STATE, KEEPALIVE, CALIBRATION_STATUS: their records. CONFIG_READ of known fields: a
record for each. CONFIG_REPORT: the clamp list of the tag, or the newest with tag 0, or an empty list where none is
kept. CONTEXT_LIST and GET_BUDGET: records from the first one asked for, as many as fit. LOOP_GET: the descriptor of
the slot, whose smallest slack starts again from 0xFFFF. CAPTURE_READ: state, count, start and the entries asked for
of a channel. BOBBIN_READ: the entries asked for, from the mark only while it is valid. ADMISSION_REPORT of a slot
whose header is sound: the report of the check. The state before is the one with the request counted and its doorbell
480 posted; no other state changes but the mailbox's records of R366 to R372. -/
def Obligations.MailboxReads : Prop :=
  (∀ (s : State) (p : List (BitVec 8)), Takes s cmdGetIdentity p →
    ∃ t, exec (.getIdentity p) s = .next t ∧
      Frame { regs := true, sys := true, dic := true, mb := true, le := true, tw := true } s t ∧ t = s.replied
        cmdGetIdentity p { st := s.asked, out := s.asked.identity }) ∧
  (∀ (s : State) (p : List (BitVec 8)), Takes s cmdGetState p →
    ∃ t, exec (.getState p) s = .next t ∧
      Frame { regs := true, sys := true, dic := true, mb := true, le := true, tw := true } s t ∧ t = s.replied
        cmdGetState p { st := s.asked, out := s.asked.stateRecord }) ∧
  (∀ (s : State) (p : List (BitVec 8)), Takes s cmdKeepalive p →
    ∃ t, exec (.keepalive p) s = .next t ∧
      Frame { regs := true, sys := true, dic := true, mb := true, le := true, tw := true } s t ∧ t = s.replied
        cmdKeepalive p { st := s.asked, out := leBytes 4 s.asked.hostLimit }) ∧
  (∀ (s : State) (p : List (BitVec 8)), Takes s cmdConfigRead p →
    (∀ q ∈ readPairs p, (s.asked.fieldValue q.1 q.2).isSome = true) →
    ∃ t, exec (.configRead p) s = .next t ∧
      Frame { regs := true, sys := true, dic := true, mb := true, le := true, tw := true } s t ∧ t = s.replied
        cmdConfigRead p
          { st := s.asked, out := (readPairs p).flatMap fun q => s.asked.cfgRecord q.1 q.2 ((s.asked.fieldValue q.1 q.2).getD 0) }) ∧
  (∀ (s : State) (p : List (BitVec 8)) (c : ClampList), Takes s cmdConfigReport p →
    (s.mb.clamps.find? fun c => fieldLE p 8 4 == 0 || c.tag == fieldLE p 8 4) = some c →
    ∃ t, exec (.configReport p) s = .next t ∧
      Frame { regs := true, sys := true, dic := true, mb := true, le := true, tw := true } s t ∧ t = s.replied
        cmdConfigReport p
          { st := s.asked, out := leBytes 4 c.tag ++ leBytes 2 c.opcode ++ leBytes 2 c.recs.length ++ c.recs.flatMap ClampRec.bytes }) ∧
  (∀ (s : State) (p : List (BitVec 8)), Takes s cmdConfigReport p →
    (s.mb.clamps.find? fun c => fieldLE p 8 4 == 0 || c.tag == fieldLE p 8 4) = none →
    ∃ t, exec (.configReport p) s = .next t ∧
      Frame { regs := true, sys := true, dic := true, mb := true, le := true, tw := true } s t ∧ t = s.replied
        cmdConfigReport p { st := s.asked, out := leBytes 4 (fieldLE p 8 4) ++ zeros 4 }) ∧
  (∀ (s : State) (p : List (BitVec 8)), Takes s cmdContextList p →
    ∃ t, exec (.contextList p) s = .next t ∧
      Frame { regs := true, sys := true, dic := true, mb := true, le := true, tw := true } s t ∧ t = s.replied
        cmdContextList p (s.asked.recordReply 16
      (((s.asked.ctxs.filter fun c => decide (fieldLE p 8 2 ≤ c)).take (fieldLE p 10 2)).map fun c =>
        (c, s.asked.ctxRecord c)))) ∧
  (∀ (s : State) (p : List (BitVec 8)), Takes s cmdGetBudget p → fieldLE p 8 1 ≤ 3 →
    fieldLE p 9 2 < levelCount (fieldLE p 8 1) →
    ∃ t, exec (.getBudget p) s = .next t ∧
      Frame { regs := true, sys := true, dic := true, mb := true, le := true, tw := true } s t ∧ t = s.replied
        cmdGetBudget p (s.asked.recordReply 64
      ((((upto (levelCount (fieldLE p 8 1))).drop (fieldLE p 9 2)).take (fieldLE p 11 2)).map fun i =>
        (i, s.asked.levelRecord (fieldLE p 8 1) i)))) ∧
  (∀ (s : State) (p : List (BitVec 8)), Takes s cmdLoopGet p → fieldLE p 8 2 < 4608 →
    ∃ t, exec (.loopGet p) s = .next t ∧
      Frame { regs := true, sys := true, dic := true, mb := true, le := true, tw := true } s t ∧ t = s.replied
        cmdLoopGet p
          { st := (s.asked.wr (SL_MISS_SLOT_SLACK (fieldLE p 8 2)) 0xFFFF).setSlot (fieldLE p 8 2) { s.asked.slot (fieldLE p 8 2) with slackOn := false }, out := s.asked.descriptor (fieldLE p 8 2) ++ leBytes 4 (s.asked.slot (fieldLE p 8 2)).t1.toNat ++ leBytes 4 (s.asked.slot (fieldLE p 8 2)).t2.toNat ++ leBytes 4 (s.asked.slot (fieldLE p 8 2)).est ++ leBytes 4 (s.asked.loopGet 0x1015 (fieldLE p 8 2)) }) ∧
  (∀ (s : State) (p : List (BitVec 8)), Takes s cmdCaptureRead p → fieldLE p 8 1 < 32 →
    ∃ t, exec (.captureRead p) s = .next t ∧
      Frame { regs := true, sys := true, dic := true, mb := true, le := true, tw := true } s t ∧ t = s.replied
        cmdCaptureRead p
          { st := s.asked, out := leBytes 2 (s.asked.rd (LE_INJ_CTRL_STATE (fieldLE p 8 1))) ++ leBytes 2 (s.asked.rd (LE_INJ_COUNT (fieldLE p 8 1))) ++ leBytes 8 ((s.asked.inj (fieldLE p 8 1)).started.getD 0) ++ ((((upto (s.asked.rd (LE_INJ_COUNT (fieldLE p 8 1)))).drop (fieldLE p 10 2)).take (fieldLE p 12 2)).flatMap fun i => leBytes 4 (s.asked.rd (LE_CAPMEM (fieldLE p 8 1) (2 * i))) ++ leBytes 4 (s.asked.rd (LE_CAPMEM (fieldLE p 8 1) (2 * i + 1)))) }) ∧
  (∀ (s : State) (p : List (BitVec 8)), Takes s cmdBobbinRead p → fieldLE p 8 1 < 8 → fieldLE p 12 4 < 65536 →
    fieldLE p 9 1 % 2 = 0 ∨ s.asked.bit (BOB_MARKPTR_VALID (fieldLE p 8 1)) = true →
    ∃ t, exec (.bobbinRead p) s = .next t ∧
      Frame { regs := true, sys := true, dic := true, mb := true, le := true, tw := true } s t ∧ t = s.replied
        cmdBobbinRead p (s.asked.recordReply 8
      ((s.asked.bobRange (fieldLE p 8 1) (fieldLE p 9 1 % 2 == 1) (fieldLE p 12 4) (fieldLE p 16 4)).map fun i =>
        (i, leBytes 4 (s.asked.rd (BOB_MEM (fieldLE p 8 1) (2 * i))) ++
          leBytes 4 (s.asked.rd (BOB_MEM (fieldLE p 8 1) (2 * i + 1))))))) ∧
  (∀ (s : State) (p : List (BitVec 8)), Takes s cmdCalibrationStatus p →
    ∃ t, exec (.calibrationStatus p) s = .next t ∧
      Frame { regs := true, sys := true, dic := true, mb := true, le := true, tw := true } s t ∧ t = s.replied
        cmdCalibrationStatus p { st := s.asked, out := (upto 16).flatMap s.asked.calRecord }) ∧
  ∀ (s : State) (p : List (BitVec 8)), Takes s cmdAdmissionReport p → fieldLE p 8 1 < 16 → fieldLE p 9 1 < 3 →
    s.asked.headerOk (fieldLE p 8 1) = true →
    ∃ t, exec (.admissionReport p) s = .next t ∧
      Frame { regs := true, sys := true, dic := true, mb := true, le := true, tw := true } s t ∧ t = s.replied
        cmdAdmissionReport p
          { st := s.asked, out := s.asked.admReport (s.asked.readImage (fieldLE p 8 1) (fieldLE p 9 1) (s.asked.bunchesFor (fieldLE p 12 2))) (fieldLE p 9 1) s.asked.frameCounts (s.asked.bunchesFor (fieldLE p 12 2)) }

/-- SET_MODE and its scheduled reset, and the replies of QUERY_PROGRESS, TWIN_STATUS, READ_LOG and ATTEST.
Each clause takes a request that passes the checks of R369 (Takes). A SET_MODE to TABLE, REACTIVE, PREDICTIVE, HOLD or
SERVICE with no time, where R20 and R23 allow it (the model's reading of their conditions: log entry 64), is
remembered for the next frame boundary, whose number the reply gives. The reset code in TABLE, HOLD or SERVICE, 10 ms
to 60 s ahead, writes WARM_AT, sets WARM_ARM and marks the reset as one of the pair. QUERY_PROGRESS replies with the
journal it finds, or with a record of outcome 4 where there is none. TWIN_STATUS replies with the twin's registers.
READ_LOG replies with the records from the start asked for, as many as asked for and fit, with a gap flag where the
start is older than the log, or with the catalogue where FLAGS bit 1 asks for it; FLAGS bit 0 takes the records before
the start as read. ATTEST, 1 s after the last signature, records the next index in both areas and replies with the
signed report and the certificate. -/
def Obligations.MailboxModes : Prop :=
  (∀ (s : State) (p : List (BitVec 8)), Takes s cmdSetMode p → fieldLE p 8 1 = 0x02 → fieldLE p 12 8 = 0 →
    s.asked.modeAllowed .table = true →
    ∃ t, exec (.setModeTable p) s = .next t ∧
      Frame { regs := true, sys := true, dic := true, mb := true, le := true, tw := true } s t ∧ t = s.replied
        cmdSetMode p
          { st := s.asked.onSys fun y => { y with modeReq := some .table }, out := leBytes 8 (s.frame + 1) }) ∧
  (∀ (s : State) (p : List (BitVec 8)), Takes s cmdSetMode p → fieldLE p 8 1 = 0x03 → fieldLE p 12 8 = 0 →
    s.asked.modeAllowed .reactive = true →
    ∃ t, exec (.setModeReactive p) s = .next t ∧
      Frame { regs := true, sys := true, dic := true, mb := true, le := true, tw := true } s t ∧ t = s.replied
        cmdSetMode p
          { st := s.asked.onSys fun y => { y with modeReq := some .reactive }, out := leBytes 8 (s.frame + 1) }) ∧
  (∀ (s : State) (p : List (BitVec 8)), Takes s cmdSetMode p → fieldLE p 8 1 = 0x04 → fieldLE p 12 8 = 0 →
    s.asked.modeAllowed .predictive = true →
    ∃ t, exec (.setModePredictive p) s = .next t ∧
      Frame { regs := true, sys := true, dic := true, mb := true, le := true, tw := true } s t ∧ t = s.replied
        cmdSetMode p
          { st := s.asked.onSys fun y => { y with modeReq := some .predictive }, out := leBytes 8 (s.frame + 1) }) ∧
  (∀ (s : State) (p : List (BitVec 8)), Takes s cmdSetMode p → fieldLE p 8 1 = 0x05 → fieldLE p 12 8 = 0 →
    s.asked.modeAllowed .hold = true →
    ∃ t, exec (.setModeHold p) s = .next t ∧
      Frame { regs := true, sys := true, dic := true, mb := true, le := true, tw := true } s t ∧ t = s.replied
        cmdSetMode p
          { st := s.asked.onSys fun y => { y with modeReq := some .hold }, out := leBytes 8 (s.frame + 1) }) ∧
  (∀ (s : State) (p : List (BitVec 8)), Takes s cmdSetMode p → fieldLE p 8 1 = 0x09 → fieldLE p 12 8 = 0 →
    s.asked.modeAllowed .service = true →
    ∃ t, exec (.setModeService p) s = .next t ∧
      Frame { regs := true, sys := true, dic := true, mb := true, le := true, tw := true } s t ∧ t = s.replied
        cmdSetMode p
          { st := s.asked.onSys fun y => { y with modeReq := some .service }, out := leBytes 8 (s.frame + 1) }) ∧
  (∀ (s : State) (p : List (BitVec 8)), Takes s cmdSetMode p → fieldLE p 8 1 = 0xFF →
    s.sys.mode = .table ∨ s.sys.mode = .hold ∨ s.sys.mode = .service → s.time + msec 10 ≤ fieldLE p 12 8 →
    fieldLE p 12 8 ≤ s.time + secs 60 →
    ∃ t, exec (.setModeReset p) s = .next t ∧
      Frame { regs := true, sys := true, dic := true, mb := true, le := true, tw := true } s t ∧ t = s.replied
        cmdSetMode p
          { st := (((s.asked.wr64 CK_WARM_AT_LO (fieldLE p 12 8)).putBit CK_CTRL_WARM_ARM true).onMb fun y => { y with coordinated := true }) }) ∧
  (∀ (s : State) (p : List (BitVec 8)) (j : Journal), Takes s cmdQueryProgress p →
    ((if bitOf (fieldLE p 10 1) 1 then s.mb.former else s.mb.journals).find? fun j =>
      if bitOf (fieldLE p 10 1) 0 then j.tag == fieldLE p 12 4 else j.idx == fieldLE p 8 2) = some j →
    ∃ t, exec (.queryProgress p) s = .next t ∧
      Frame { regs := true, sys := true, dic := true, mb := true, le := true, tw := true } s t ∧ t = s.replied
        cmdQueryProgress p { st := s.asked, out := j.bytes }) ∧
  (∀ (s : State) (p : List (BitVec 8)), Takes s cmdQueryProgress p →
    ((if bitOf (fieldLE p 10 1) 1 then s.mb.former else s.mb.journals).find? fun j =>
      if bitOf (fieldLE p 10 1) 0 then j.tag == fieldLE p 12 4 else j.idx == fieldLE p 8 2) = none →
    ∃ t, exec (.queryProgress p) s = .next t ∧
      Frame { regs := true, sys := true, dic := true, mb := true, le := true, tw := true } s t ∧ t = s.replied
        cmdQueryProgress p { st := s.asked, out := noJournal (fieldLE p 8 2) (fieldLE p 12 4) }) ∧
  (∀ (s : State) (p : List (BitVec 8)), Takes s cmdTwinStatus p →
    ∃ t, exec (.twinStatus p) s = .next t ∧
      Frame { regs := true, sys := true, dic := true, mb := true, le := true, tw := true } s t ∧ t = s.replied
        cmdTwinStatus p { st := s.asked, out := s.asked.twinBytes }) ∧
  (∀ (s u : State) (p : List (BitVec 8)), Takes s cmdReadLog p → fieldLE p 16 2 ≠ 0 → fieldLE p 16 2 ≤ 16384 →
    bitOf (fieldLE p 18 1) 1 = false →
    u = (if bitOf (fieldLE p 18 1) 0 then (s.asked.onMg fun y => { y with readMark := fieldLE p 8 8 - 1 }).logMark
      else s.asked) →
    ∃ t, exec (.readLog p) s = .next t ∧
      Frame { regs := true, sys := true, dic := true, mg := true, mb := true, le := true, tw := true } s t ∧ ∃ l
        head, l = (s.logAll.filter fun r => decide (fieldLE p 8 8 ≤ r.seq)).take (fieldLE p 16 2) ∧
      head = leBytes 8 ((l.head?.map (·.seq)).getD (fieldLE p 8 8)) ++
        leBytes 2 (b2n (s.logAll.head?.any fun r => decide (fieldLE p 8 8 < r.seq))) ++ zeros 6 ∧
      ((l.drop 16383).head? = none →
        t = s.replied cmdReadLog p { st := u, out := head ++ l.flatMap LogRec.bytes }) ∧
      ∀ r, (l.drop 16383).head? = some r → t = s.replied cmdReadLog p
        { st := u, ks := .part, out := head ++ (l.take 16383).flatMap LogRec.bytes ++ leBytes 8 r.seq }) ∧
  (∀ (s u : State) (p : List (BitVec 8)), Takes s cmdReadLog p → fieldLE p 16 2 ≠ 0 → fieldLE p 16 2 ≤ 16384 →
    bitOf (fieldLE p 18 1) 1 = true →
    u = (if bitOf (fieldLE p 18 1) 0 then (s.asked.onMg fun y => { y with readMark := fieldLE p 8 8 - 1 }).logMark
      else s.asked) →
    ∃ t, exec (.readLog p) s = .next t ∧
      Frame { regs := true, sys := true, dic := true, mg := true, mb := true, le := true, tw := true } s t ∧ t =
        s.replied cmdReadLog p { st := u, out := leBytes 8 (fieldLE p 8 8) ++ zeros 8 ++ Config.catalog }) ∧
  ∀ (s : State) (p : List (BitVec 8)), Takes s cmdAttest p →
    (∀ t0, s.mg.lastSign = some t0 → t0 + secs 1 ≤ s.time) → s.signIndex < 2 ^ 30 →
    ∃ t, exec (.attest p) s = .next t ∧
      Frame { regs := true, sys := true, dic := true, mg := true, mb := true, le := true, tw := true } s t ∧ t =
        s.replied cmdAttest p
          { st := s.asked.onMg fun y => { y with idxA := s.signIndex + 1, idxB := s.signIndex + 1, lastSign := some s.time }, out := s.asked.report ((p.drop 8).take 32) s.signIndex ++ padTo 5396 (Config.hssSign s.signIndex (s.asked.report ((p.drop 8).take 32) s.signIndex)) ++ leBytes 2 (Config.deviceCert s.mg.serial).length ++ Config.deviceCert s.mg.serial }

/-- The work of the mailbox commands for contexts, budgets, leases, configuration, loops and tables.
Each clause takes a request that passes the checks of R369 (Takes) and whose payload its command accepts, and says the
state its work leaves and the reply; MailboxRefusals says what is refused. CONTEXT_ADD makes the entry with VALID,
priority, budget and lease as asked and the caps and status 0, its loop slot and its credits; the demand of the new
context is a free value (log entry 44). CONTEXT_REMOVE queues a RELEASE record at the fallback and marks the context
RELEASING. SET_BUDGET opens a journal and keeps its changes for the next boundary. SET_LEASE stores the lease,
clamped, in every context of the range. CONFIG_WRITE stages its entries, clamped; one with an entry that only TABLE
takes is refused in another state with the entry named. LOOP_SET writes the shadow words, sets APPLY in each slot
named and keeps the entries with the stored configuration. TABLE_WRITE with x values that ascend writes the table and
makes it valid. -/
def Obligations.MailboxContexts : Prop :=
  (∀ (s : State) (p : List (BitVec 8)), Takes s cmdContextAdd p → (addReq p).ctx < 4096 → (addReq p).group < 64 →
    (addReq p).addr % 64 = 0 → s.asked.bit (PB_CFG_VALID (addReq p).ctx) = false →
    s.asked.bit TR_STATUS_ADMITTED = false ∨ (addReq p).ctx / 32 < s.asked.rd TR_ADMIT →
    ∃ t, exec (.contextAdd p) s = .next t ∧
      Frame { free := true, regs := true, sys := true, dic := true, mb := true, pb := true, vq := true, le := true, tw := true } s t ∧ t = s.replied cmdContextAdd p { st := s.asked.addContext (addReq p).fix, clamps := (addReq p).clamps, out := leBytes 8 (s.asked.frame + 1) ++ leBytes 4 ((s.asked.addContext (addReq p).fix).rd (VQ_CR_GEN (addReq p).ctx)) ++ leBytes 4 ((s.asked.addContext (addReq p).fix).rd (VQ_CR_QUOTA (addReq p).ctx)) }) ∧
  (∀ (s : State) (q : AddReq), s.Inv → q.ctx < 4096 → q.prio < 4 → q.budget < 4096 → q.lease < 2 ^ 14 →
    (s.putEntry q).bit (PB_CFG_VALID q.ctx) = true ∧ (s.putEntry q).rd (PB_CFG_PRIORITY q.ctx) = q.prio ∧
    (s.putEntry q).rd (PB_BUDGET_BUDGET q.ctx) = q.budget ∧ (s.putEntry q).rd (PB_LEASE q.ctx) = q.lease ∧
    (s.putEntry q).rd (PB_CAP_GRANT q.ctx) = 0 ∧ (s.putEntry q).rd (PB_STATUS q.ctx) = 0) ∧
  (∀ (s : State) (p : List (BitVec 8)), Takes s cmdContextRemove p → fieldLE p 8 2 < 4096 →
    s.asked.bit (PB_CFG_VALID (fieldLE p 8 2)) = true →
    ∃ t, exec (.contextRemove p) s = .next t ∧
      Frame { regs := true, sys := true, dic := true, mb := true, pb := true, le := true, tw := true } s t ∧ t =
        s.replied cmdContextRemove p
          { st := ((s.asked.setPbCtx (fieldLE p 8 2) { s.asked.pbCtx (fieldLE p 8 2) with admitDue := false }).queueRec (fieldLE p 8 2) .release (s.asked.rd (PB_BUDGET_FALLBACK (fieldLE p 8 2)))).putBit (PB_STATUS_RELEASING (fieldLE p 8 2)) true }) ∧
  (∀ (s : State) (p : List (BitVec 8)), Takes s cmdSetBudget p →
    (∀ i, i < fieldLE p 8 4 → s.asked.budgetBad (budgetReq p i) = none) →
    ∃ t, exec (.setBudget p) s = .next t ∧
      Frame { regs := true, sys := true, dic := true, mb := true, pb := true, le := true, tw := true } s t ∧ ∃ u :
        State, t = s.replied cmdSetBudget p
          { st := u, clamps := ((upto (fieldLE p 8 4)).map fun i => s.asked.budgetFix (budgetReq p i)).flatMap (·.2), journal := s.asked.mb.nextJournal, out := leBytes 8 (s.asked.frame + 1) ++ leBytes 4 (s.asked.changesTc (((upto (fieldLE p 8 4)).map fun i => s.asked.budgetFix (budgetReq p i)).map (·.1))) } ∧
      u.pb =
        { s.asked.pb with changes := s.asked.pb.changes ++ ((upto (fieldLE p 8 4)).map fun i => s.asked.budgetFix (budgetReq p i)).map (·.1) } ∧
      u.regs = s.asked.regs ∧ u.mb.budgetJobs.length = s.asked.mb.budgetJobs.length + 1) ∧
  (∀ (s : State) (p : List (BitVec 8)), Takes s cmdSetLease p → fieldLE p 8 2 < 4096 →
    ∃ t, exec (.setLease p) s = .next t ∧
      Frame { regs := true, sys := true, dic := true, mb := true, pb := true, le := true, tw := true } s t ∧ t =
        s.replied cmdSetLease p
          { st := (s.asked.ctxs.filter fun c => decide (fieldLE p 8 2 ≤ c ∧ c < fieldLE p 8 2 + fieldLE p 10 2)).foldl (fun s c => s.newLease (clampNat 20 10000 (fieldLE p 12 2)) c) s.asked, clamps := clampRec 0x2006 (fieldLE p 8 2) (fieldLE p 12 2) (clampNat 20 10000 (fieldLE p 12 2)) }) ∧
  (∀ (s : State) (p : List (BitVec 8)) (f : List (Nat × Nat × Nat)), Takes s cmdConfigWrite p →
    (entriesOf p).any (fun e => !entryKnown e) = false →
    s.asked.sys.mode = .table ∨ (∀ e ∈ entriesOf p, cfgClass e.1 ≠ .table) →
    s.asked.fixAll (lastEntries (entriesOf p)) = some f → s.asked.mergeBad f = false →
    ∃ t, exec (.configWrite p) s = .next t ∧
      Frame { regs := true, sys := true, dic := true, mg := true, mb := true, le := true, tw := true } s t ∧ t =
        s.replied cmdConfigWrite p
          { st := s.asked.stage f, clamps := (List.zipWith entryRec (lastEntries (entriesOf p)) f).flatten, out := leBytes 4 (s.asked.stage f).mb.cfgGen ++ leBytes 8 (s.asked.frame + 1) }) ∧
  (∀ (s : State) (p : List (BitVec 8)) (e : Nat × Nat × Nat), Takes s cmdConfigWrite p →
    (entriesOf p).any (fun e => !entryKnown e) = false → s.asked.sys.mode ≠ .table →
    ((entriesOf p).find? fun e => decide (cfgClass e.1 = .table)) = some e →
    ∃ t, exec (.configWrite p) s = .next t ∧
      Frame { regs := true, sys := true, dic := true, mg := true, mb := true, le := true, tw := true } s t ∧ t =
        s.asked.answer .stateConflict (s.asked.ksHeader .stateConflict (tagOf p) 0 0)
      (leBytes 2 e.1 ++ leBytes 2 e.2.1)) ∧
  (∀ (s : State) (p : List (BitVec 8)) (f : List (Nat × Nat × Nat)), Takes s cmdLoopSet p →
    (∀ e ∈ entriesOf p, (loopOffset e.1).isSome = true ∧ e.2.1 < 4608) →
    s.asked.fixAll (lastEntries (entriesOf p)) = some f →
    (slotsOf f).any (fun k => !(f.foldl (fun s e => s.loopPut e.1 e.2.1 e.2.2) s.asked).limitsOk k) = false →
    ∃ t, exec (.loopSet p) s = .next t ∧
      Frame { regs := true, sys := true, dic := true, mg := true, mb := true, pb := true, le := true, pf := true, tw := true } s t ∧ t = s.replied cmdLoopSet p { st := ((slotsOf f).foldl (fun s k => s.putBit (SL_CTRL_APPLY k) true) (f.foldl (fun s e => s.loopPut e.1 e.2.1 e.2.2) s.asked)).onMg fun y => { y with storedCfg := f.foldl putCfg y.storedCfg }, clamps := (List.zipWith entryRec (lastEntries (entriesOf p)) f).flatten }) ∧
  ∀ (s : State) (p : List (BitVec 8)), Takes s cmdTableWrite p → fieldLE p 8 2 < 1024 →
    (∀ i, i < 15 → flt (f32At p (12 + 4 * i)) (f32At p (16 + 4 * i)) = true) →
    ∃ t, exec (.tableWrite p) s = .next t ∧
      Frame { regs := true, sys := true, dic := true, mb := true, le := true, tw := true } s t ∧ t = s.replied
        cmdTableWrite p
          { st := ((upto 32).foldl (fun s i => s.wrf (LE_TABLE (fieldLE p 8 2) i) (f32At p (12 + 4 * i))) s.asked).onLe fun y => { y with tablesValid := tset false y.tablesValid (fieldLE p 8 2) true } }

/-- The work of the mailbox commands for injections, bobbins, pumps, valves, calibration, the Modbus grant and snapshots.
Each clause takes a request that passes the checks of R369 (Takes) and whose payload its command accepts, and says the
state its work leaves and the reply; MailboxRefusals says what is refused. INJECT_START arms the lowest free channel
with its amplitude clamped to the slot's limit and its frequency, for a sine, to the slot's rate, and its entries
before the start clamped to 1,024. BOBBIN_ARM writes registers of the bobbins only and arms the one asked for. In the
running states PUMP_SET disables a pump, enables one that is disabled and leaves an enabled one as it is; it sets a
speed in SERVICE with the pump manager off. VALVE_SEQUENCE opens a journal for its steps. CALIBRATION_CONTROL
disables, enables, sets P_AUX within 0 to 50,000 W, clears SUSPECT, or starts the reset of a rack's calibration. A
Modbus grant starts with its end, 60 to 3,600 s ahead, and is revoked; MODBUS_GRANT_END ends it at its end.
SNAPSHOT_AT 1 ms to 60 s ahead takes one of the four snapshots. -/
def Obligations.MailboxActuators : Prop :=
  (∀ (s : State) (p : List (BitVec 8)) (c : Nat), Takes s cmdInjectStart p → bitsOf (fieldLE p 8 4) 12 0 < 4608 →
    fisFin (f32At p 12) = true → fisFin (f32At p 16) = true → s.asked.effMode (bitsOf (fieldLE p 8 4) 12 0) ≠ 0 →
    s.asked.effMode (bitsOf (fieldLE p 8 4) 12 0) ≠ 4 → ((upto 32).find? fun c => !s.asked.injUsed c) = some c →
    ((upto 32).any fun d => s.asked.injUsed d && s.asked.rd (LE_INJ_CTRL_SLOT d) == bitsOf (fieldLE p 8 4) 12 0 &&
      s.asked.rd (LE_INJ_CTRL_SIGNAL d) != 3) = false →
    ∃ t, exec (.injectStart p) s = .next t ∧
      Frame { regs := true, sys := true, dic := true, mb := true, le := true, tw := true } s t ∧ ∃ a f pre, t =
        s.replied cmdInjectStart p
          { st := (((((((s.asked.wr (LE_INJ_CTRL c) (fieldLE p 8 4 % 2 ^ 27)).wrf (LE_INJ_AMP c) a).wrf (LE_INJ_FREQ c) f).wr (LE_INJ_CAP c) (writableBits (LE_INJ_CAP c).addr (fieldLE p 20 4))).wr (LE_INJ_CAP_PRE c) (min pre 1024)).wr64 (LE_INJ_START_LO c) (fieldLE p 24 8)).injArm c), out := leBytes 2 c, clamps := clampRec 0x3000 (bitsOf (fieldLE p 8 4) 12 0) (f32At p 12).toNat a.toNat ++ clampRec 0x3003 (bitsOf (fieldLE p 8 4) 12 0) (f32At p 16).toNat f.toNat ++ clampRec 0x3006 (bitsOf (fieldLE p 8 4) 12 0) pre (min pre 1024) } ∧
      pre = bitsOf (writableBits (LE_INJ_CAP c).addr (fieldLE p 20 4)) (LE_INJ_CAP_PRE c).hi (LE_INJ_CAP_PRE c).lo ∧
      a = fclamp (fneg (s.asked.ampLimit (bitsOf (fieldLE p 8 4) 12 0) (bitsOf (fieldLE p 8 4) 24 23)))
        (s.asked.ampLimit (bitsOf (fieldLE p 8 4) 12 0) (bitsOf (fieldLE p 8 4) 24 23)) (f32At p 12) ∧
      f = if bitsOf (fieldLE p 8 4) 26 25 = 1 then fclamp 0x3C23D70A (fdiv 0x3F800000 (fmul (f32OfInt 8) (s.asked.hOf
        (bitsOf (fieldLE p 8 4) 12 0)))) (f32At p 16) else f32At p 16) ∧
  (∀ (s : State) (p : List (BitVec 8)), Takes s cmdBobbinArm p → fieldLE p 8 1 < 8 →
    s.asked.bit (BOB_STATUS_ARMED (fieldLE p 8 1)) = false ∨ s.asked.bit (BOB_STATUS_STOPPED (fieldLE p 8 1)) = true →
    ∃ t, exec (.bobbinArm p) s = .next t ∧
      Frame { regs := true, sys := true, dic := true, mb := true, le := true, tw := true } s t ∧ ∃ u : State, t =
        s.replied cmdBobbinArm p { st := u.bobArm (fieldLE p 8 1) } ∧ u.le = s.asked.le ∧
      (∀ a, ¬ (0x41002000 ≤ a ∧ a < 0x41002200) → u.word a = s.asked.word a)) ∧
  (∀ (s : State) (p : List (BitVec 8)), Takes s cmdPumpSet p → fieldLE p 8 1 < 4 → fieldLE p 9 1 = 0 →
    s.asked.sys.mode.run = true →
    ∃ t, exec (.pumpDisable p) s = .next t ∧
      Frame { regs := true, sys := true, dic := true, mb := true, le := true, pf := true, fb := true, tw := true } s t ∧ t = s.replied cmdPumpSet p { st := s.asked.disable (fieldLE p 8 1) }) ∧
  (∀ (s : State) (p : List (BitVec 8)), Takes s cmdPumpSet p → fieldLE p 8 1 < 4 → fieldLE p 9 1 = 1 →
    s.asked.sys.mode.run = true → s.asked.bit (pfEnable (fieldLE p 8 1)) = false →
    ∃ t, exec (.pumpEnable p) s = .next t ∧
      Frame { regs := true, sys := true, dic := true, mb := true, le := true, pf := true, fb := true, tw := true } s t ∧ t = s.replied cmdPumpSet p { st := s.asked.reenable (fieldLE p 8 1) }) ∧
  (∀ (s : State) (p : List (BitVec 8)), Takes s cmdPumpSet p → fieldLE p 8 1 < 4 → fieldLE p 9 1 = 1 →
    s.asked.sys.mode.run = true → s.asked.bit (pfEnable (fieldLE p 8 1)) = true →
    ∃ t, exec (.pumpEnable p) s = .next t ∧
      Frame { regs := true, sys := true, dic := true, mb := true, le := true, pf := true, fb := true, tw := true } s t ∧ t = s.replied cmdPumpSet p { st := s.asked }) ∧
  (∀ (s : State) (p : List (BitVec 8)), Takes s cmdPumpSet p → fieldLE p 8 1 < 4 → fieldLE p 9 1 = 2 →
    s.asked.sys.mode = .service → s.asked.bit PF_PMGR_ENABLE = false →
    ∃ t, exec (.pumpSetSpeed p) s = .next t ∧
      Frame { regs := true, sys := true, dic := true, mb := true, le := true, pf := true, fb := true, tw := true } s t ∧ t = s.replied cmdPumpSet p { st := (s.asked.setSpeed (fieldLE p 8 1) (fieldLE p 10 2)).onSys fun y => { y with drives := if y.drives.contains (.pump (fieldLE p 8 1)) then y.drives else y.drives ++ [.pump (fieldLE p 8 1)] }, clamps := clampRec 0x3002 (fieldLE p 8 1) (fieldLE p 10 2) (min (fieldLE p 10 2) 10000) }) ∧
  (∀ (s : State) (p : List (BitVec 8)), Takes s cmdValveSequence p → 1 ≤ (p.length - 8) / 8 → (p.length - 8) / 8 ≤ 32
    →
    (∀ i, i < (p.length - 8) / 8 → (seqStep p i).ch ≤ 35 ∧ 1 ≤ (seqStep p i).action ∧ (seqStep p i).action ≤ 3) →
    s.asked.sv.seqJournal = none →
    (∀ i, i < (p.length - 8) / 8 → ((seqStep p i).action = 2 → s.asked.bit (SV_CHSTAT_TRIP_HELD (seqStep p i).ch) =
      false) ∧ ((seqStep p i).action = 3 → s.asked.chLeaks (seqStep p i).ch = false)) →
    ∃ t, exec (.valveSequence p) s = .next t ∧
      Frame { regs := true, sys := true, dic := true, mb := true, le := true, sv := true, tw := true } s t ∧ t =
        s.replied cmdValveSequence p
          { st := (s.asked.openJournal 0xC060 (tagOf p) ((p.length - 8) / 8)).onSv fun y => { y with seqJournal := some s.asked.mb.nextJournal, steps := (upto ((p.length - 8) / 8)).map (seqStep p) }, journal := s.asked.mb.nextJournal, clamps := (upto ((p.length - 8) / 8)).flatMap fun i => clampRec 0x3001 i (fieldLE p (12 + 8 * i) 2) (min (fieldLE p (12 + 8 * i) 2) 60000) }) ∧
  (∀ (s : State) (p : List (BitVec 8)), Takes s cmdCalibrationControl p → fieldLE p 8 1 < 16 → fieldLE p 9 1 = 0 →
    ∃ t, exec (.calibrationControl p) s = .next t ∧
      Frame { regs := true, sys := true, dic := true, mg := true, mb := true, le := true, pf := true, tw := true } s t ∧ t = s.replied cmdCalibrationControl p { st := (s.asked.setCal (fieldLE p 8 1) { s.asked.cal (fieldLE p 8 1) with enabled := false, state := 0, steady := 0, iso := 0 }).calSave }) ∧
  (∀ (s : State) (p : List (BitVec 8)), Takes s cmdCalibrationControl p → fieldLE p 8 1 < 16 → fieldLE p 9 1 = 1 →
    (s.asked.cal (fieldLE p 8 1)).enabled = false →
    ∃ t, exec (.calibrationControl p) s = .next t ∧
      Frame { regs := true, sys := true, dic := true, mg := true, mb := true, le := true, pf := true, tw := true } s t ∧ t = s.replied cmdCalibrationControl p { st := (s.asked.setCal (fieldLE p 8 1) { s.asked.cal (fieldLE p 8 1) with enabled := true, state := if s.asked.suspect (s.asked.rd (SN_FLOWSRC (fieldLE p 8 1))) then 4 else 1 }).calSave }) ∧
  (∀ (s : State) (p : List (BitVec 8)), Takes s cmdCalibrationControl p → fieldLE p 8 1 < 16 → fieldLE p 9 1 = 1 →
    (s.asked.cal (fieldLE p 8 1)).enabled = true →
    ∃ t, exec (.calibrationControl p) s = .next t ∧
      Frame { regs := true, sys := true, dic := true, mg := true, mb := true, le := true, pf := true, tw := true } s t ∧ t = s.replied cmdCalibrationControl p { st := s.asked }) ∧
  (∀ (s : State) (p : List (BitVec 8)), Takes s cmdCalibrationControl p → fieldLE p 8 1 < 16 → fieldLE p 9 1 = 2 →
    fisFin (f32At p 12) = true →
    ∃ t, exec (.calibrationControl p) s = .next t ∧
      Frame { regs := true, sys := true, dic := true, mg := true, mb := true, le := true, pf := true, tw := true } s t ∧ t = s.replied cmdCalibrationControl p { st := (s.asked.setCal (fieldLE p 8 1) { s.asked.cal (fieldLE p 8 1) with paux := fclamp 0 (f32OfInt 50000) (f32At p 12) }).calSave, clamps := clampRec 0x3005 (fieldLE p 8 1) (f32At p 12).toNat (fclamp 0 (f32OfInt 50000) (f32At p 12)).toNat }) ∧
  (∀ (s : State) (p : List (BitVec 8)), Takes s cmdCalibrationControl p → fieldLE p 8 1 < 16 → fieldLE p 9 1 = 3 →
    ∃ t, exec (.calibrationControl p) s = .next t ∧
      Frame { regs := true, sys := true, dic := true, mg := true, mb := true, le := true, pf := true, tw := true } s t ∧ t = s.replied cmdCalibrationControl p { st := s.asked.clearSuspect (fieldLE p 8 1) }) ∧
  (∀ (s : State) (p : List (BitVec 8)), Takes s cmdCalibrationControl p → fieldLE p 8 1 < 16 → fieldLE p 9 1 = 4 →
    ∃ t, exec (.calibrationControl p) s = .next t ∧
      Frame { regs := true, sys := true, dic := true, mg := true, mb := true, le := true, pf := true, tw := true } s t ∧ t = s.replied cmdCalibrationControl p { st := s.asked.setCal (fieldLE p 8 1) { s.asked.cal (fieldLE p 8 1) with resetting := true } }) ∧
  (∀ (s : State) (p : List (BitVec 8)), Takes s cmdModbusEnable p → fieldLE p 8 1 = 1 →
    ∃ t, exec (.modbusWriteGrant p) s = .next t ∧
      Frame { regs := true, sys := true, dic := true, mg := true, mb := true, le := true, tw := true } s t ∧ t =
        s.replied cmdModbusEnable p
          { st := s.asked.onMg fun y => { y with grantEnd := some (s.asked.time + secs (clampNat 60 3600 (fieldLE p 10 2))) }, clamps := clampRec 0x3004 0 (fieldLE p 10 2) (clampNat 60 3600 (fieldLE p 10 2)) }) ∧
  (∀ (s : State) (p : List (BitVec 8)), Takes s cmdModbusEnable p → fieldLE p 8 1 = 0 →
    ∃ t, exec (.modbusWriteRevoke p) s = .next t ∧
      Frame { regs := true, sys := true, dic := true, mg := true, mb := true, le := true, tw := true } s t ∧ t =
        s.replied cmdModbusEnable p { st := s.asked.onMg fun y => { y with grantEnd := none } }) ∧
  (∀ (s : State) (e : Nat), s.mg.grantEnd = some e → e ≤ s.time →
    ∃ t, exec .modbusGrantEnd s = .next t ∧ Frame { mg := true } s t ∧ t = s.onMg fun y =>
      { y with grantEnd := none }) ∧
  ∀ (s : State) (p : List (BitVec 8)), Takes s cmdSnapshotAt p → s.asked.time + msec 1 ≤ fieldLE p 8 8 →
    fieldLE p 8 8 ≤ s.asked.time + secs 60 → s.asked.mb.snaps.length < 4 →
    ∃ t, exec (.snapshotAt p) s = .next t ∧
      Frame { regs := true, sys := true, dic := true, mb := true, le := true, tw := true } s t ∧ t = s.replied
        cmdSnapshotAt p
          { st := s.asked.addSnap (fieldLE p 8 8) (tagOf p), journal := s.asked.mb.nextJournal, out := leBytes 2 s.asked.mb.nextSnap }

/-- The states the firmware update commands, the log flush and the rings to the management die answer.
UPDATE_BEGIN for either target opens the staging with a journal of six steps, the first done. UPDATE_CHUNK puts its
bytes into the staging. VERIFY and ACTIVATE accept an image that nothing refuses (imageBad); ACTIVATE also keeps its
time. RATCHET without an update in hand moves the fuse to the running image's number and says whether the other slot
is older; with an update for the partner in hand on the ACTIVE it is sent to the partner and the byte answered is a
free one. ABORT ends the journal ABORTED and drops the staging. The programmed image fills the inactive slot; where
that slot does not read back it holds the image with a bad key and the update ends FAILED. The activation reset, where
the state allows it, boots with cause 5, marks the inactive slot active and TRIAL, empties the staging and keeps time
and memory; where it is not due nothing changes. The log's buffer is flushed to its ring, which keeps the newest
524,288 records, and while the cellar archives (R356) and DDR4 is awake every record not yet copied goes to the event
ring. A write of MG_TX_WPTR with ENABLE 1 hands the words up to it to the die and moves the read pointer; with ENABLE
0 it writes the pointer alone. An answer that fits is put on the receive ring; any other waits, with nothing changed. -/
def Obligations.FirmwareUpdate : Prop :=
  (∀ (s : State) (p : List (BitVec 8)), Takes s cmdUpdateBegin p → fieldLE p 8 1 < 2 →
    (fieldLE p 8 1 = 1 → s.asked.isActive = true → s.asked.partnerInStep = true) → fieldLE p 12 4 ≤ 44 * 1048576 →
    s.asked.mg.update = none → s.asked.tr.commit = none →
    ∃ t, exec (.updateBegin p) s = .next t ∧
      Frame { regs := true, sys := true, dic := true, mg := true, mb := true, le := true, tw := true } s t ∧ t =
        s.replied cmdUpdateBegin p
          { st := ((s.asked.openJournal 0xC080 (tagOf p) 6).journalStep s.asked.mb.nextJournal 1).onMg fun y => { y with update := some ⟨fieldLE p 8 1, fieldLE p 12 4, fieldLE p 16 4, slice p 20 32, [], false, false, 0, false, s.asked.mb.nextJournal, 0, 0⟩ }, journal := s.asked.mb.nextJournal }) ∧
  (∀ (s : State) (p : List (BitVec 8)) (u : Update), Takes s cmdUpdateChunk p → s.asked.mg.update = some u →
    u.verified = false → fieldLE p 8 4 % 64 = 0 → fieldLE p 8 4 + (p.drop 12).length ≤ u.size →
    ∃ t, exec (.updateChunk p) s = .next t ∧
      Frame { regs := true, sys := true, dic := true, mg := true, mb := true, le := true, tw := true } s t ∧ ∃ v :
        State, t = s.replied cmdUpdateChunk p { st := v, out := leBytes 4 (p.drop 12).length } ∧
      v.mg = { s.asked.mg with update := some { u with bytes := stageBytes u.bytes (fieldLE p 8 4) (p.drop 12) } }) ∧
  (∀ (s : State) (p : List (BitVec 8)) (u : Update), Takes s cmdUpdateEnd p → fieldLE p 8 1 = 0 → s.asked.mg.update =
    some u →
    s.asked.imageBad u = none →
    ∃ t, exec (.updateVerify p) s = .next t ∧
      Frame { free := true, regs := true, sys := true, dic := true, mg := true, mb := true, le := true, tw := true } s t ∧ t = s.replied cmdUpdateEnd p { st := s.asked.imageAccepted u }) ∧
  (∀ (s : State) (p : List (BitVec 8)) (u : Update), Takes s cmdUpdateEnd p → fieldLE p 8 1 = 1 → s.asked.mg.update =
    some u →
    s.asked.imageBad u = none → u.target ≠ 0 ∨ s.asked.rd TW_PARTNER_ROLE ≠ 2 ∨ s.asked.bit TW_STATUS_HB_OK = false →
    ∃ t, exec (.updateActivate p) s = .next t ∧
      Frame { free := true, regs := true, sys := true, dic := true, mg := true, mb := true, le := true, tw := true } s t ∧ t = s.replied cmdUpdateEnd p { st := (s.asked.imageAccepted u).onUpdate fun v => { v with activating := true, activateAt := fieldLE p 16 8 } }) ∧
  (∀ (s : State) (p : List (BitVec 8)), Takes s cmdUpdateEnd p → fieldLE p 8 1 = 2 →
    s.asked.mg.update = none → s.asked.mg.confirmed = true → s.asked.mg.fuse < s.asked.runningSlot.svn →
    ∃ t, exec (.updateRatchet p) s = .next t ∧
      Frame { free := true, regs := true, sys := true, dic := true, mg := true, mb := true, le := true, tw := true } s t ∧ t = s.replied cmdUpdateEnd p { st := s.asked.onMg fun y => { y with fuse := s.asked.runningSlot.svn }, out := leBytes 1 (b2n (decide ((s.asked.mg.slot (1 - s.asked.mg.runSlot)).svn < s.asked.runningSlot.svn))) }) ∧
  (∀ (s : State) (p : List (BitVec 8)) (u : Update), Takes s cmdUpdateEnd p → fieldLE p 8 1 = 3 → s.asked.mg.update =
    some u →
    ∃ t, exec (.updateAbort p) s = .next t ∧
      Frame { free := true, regs := true, sys := true, dic := true, mg := true, mb := true, le := true, tw := true } s t ∧ t = s.replied cmdUpdateEnd p { st := (s.asked.journalEnd u.journal .aborted 0).onMg fun y => { y with update := none } }) ∧
  (∀ (s : State) (u : Update), s.mg.update = some u → u.activating = true → u.programmed = false →
    s.updateMine u = true →
    ∃ t, exec (.updateProgramDone true) s = .next t ∧ Frame { mg := true, mb := true, tw := true } s t ∧ t.mg =
      { (s.mg.putSlot (1 - s.mg.runSlot) (slotOf u.image)) with update := some { u with programmed := true } }) ∧
  (∀ (s : State) (u : Update), s.mg.update = some u → u.activating = true → u.programmed = true → s.updateMine u =
    true →
    s.resetAllowed u = true →
    ∃ t, exec .updateActivationReset s = .next t ∧ Frame { Parts.full with free := false } s t ∧ t.sys.mode = .boot ∧
      t.rd CK_STATUS_RESET_CAUSE = 5 ∧ t.mg.activeSlot = 1 - s.mg.runSlot ∧
      t.mg.trial = true ∧ t.mg.trialBoots = 0 ∧ t.mg.confirmed = false ∧ t.mg.update = some
        { u with activating := false, bytes := [] } ∧
      t.time = s.time ∧ t.mem = s.mem) ∧
  (∀ (s : State) (p : List (BitVec 8)), Takes s cmdUpdateEnd p → fieldLE p 8 1 = 2 → s.asked.isActive = true →
    s.asked.mg.update.any (fun u => u.target == 1) = true →
    ∃ t, exec (.updateRatchet p) s = .next t ∧
      Frame { free := true, regs := true, sys := true, dic := true, mg := true, mb := true, le := true, tw := true } s t ∧ t = s.replied cmdUpdateEnd p { st := s.asked.drew, out := leBytes 1 (s.asked.freeNat % 2) }) ∧
  (∀ (s : State) (u : Update), s.mg.update = some u → u.activating = true → u.programmed = false →
    s.updateMine u = true →
    ∃ t, exec (.updateProgramDone false) s = .next t ∧ Frame { mg := true, mb := true, tw := true } s t ∧ t = (s.onMg
      fun y => y.putSlot (1 - y.runSlot) { slotOf u.image with keyOk := false }).updateFailed) ∧
  (∀ (s : State) (ok : Bool), s.mg.update.any (fun u => u.activating && !u.programmed && s.updateMine u) = false →
    ∃ t, exec (.updateProgramDone ok) s = .next t ∧ Frame { mg := true, mb := true, tw := true } s t ∧ t = s) ∧
  (∀ s : State, s.mg.update.any (fun u => u.activating && u.programmed && s.updateMine u && s.resetAllowed u) = false
    →
    ∃ t, exec .updateActivationReset s = .next t ∧ Frame { Parts.full with free := false } s t ∧ t = s) ∧
  (∀ s : State, s.archives = true → s.ca.selfRefresh = false →
    ∃ t, exec .logFlush s = .next t ∧
      Frame { regs := true, mem := true, dic := true, mg := true, le := true, ca := true } s t ∧ t =
        (((s.logAll.filter fun r => decide (s.ca.eventNext ≤ r.seq)).foldl State.eventCopy s).onMg fun y =>
          { y with ring := s.logAll.drop (s.logAll.length - 524288), buf := [] }).logMark) ∧
  (∀ (s : State) (w : BitVec 12), s.Inv → s.bit MG_CTRL_ENABLE = false →
    ∃ t, exec (.mgMessagePost w) s = .next t ∧ Frame { regs := true, mg := true } s t ∧ t = s.wr MG_TX_WPTR w.toNat) ∧
  (∀ (s : State) (ws : List (BitVec 32)), s.bit MG_CTRL_ENABLE = false ∨ ws = [] ∨
      4096 ≤ (s.rd MG_RX_WPTR / 4 * 4 + 4096 - s.rd MG_RX_RPTR / 4 * 4) % 4096 + 4 * ws.length →
    ∃ t, exec (.mgAnswer ws) s = .next t ∧ Frame { regs := true, dic := true, le := true } s t ∧ t = s) ∧
  (∀ s : State, s.archives = false ∨ s.ca.selfRefresh = true →
    ∃ t, exec .logFlush s = .next t ∧
      Frame { regs := true, mem := true, dic := true, mg := true, le := true, ca := true } s t ∧ t = (s.onMg fun y =>
        { y with ring := s.logAll.drop (s.logAll.length - 524288), buf := [] }).logMark) ∧
  (∀ (s : State) (w : BitVec 12), s.Inv → s.bit MG_CTRL_ENABLE = true →
    ∃ t, exec (.mgMessagePost w) s = .next t ∧ Frame { regs := true, mg := true } s t ∧ t.rd MG_TX_WPTR = w.toNat ∧
      t.rd MG_TX_RPTR = w.toNat ∧
      t.mg =
        { s.mg with received := s.mg.received ++ (s.wr MG_TX_WPTR w.toNat).ringWords 0x50001000 1024 (s.rd MG_TX_RPTR) (w.toNat / 4 * 4) } ∧
      RegsBut (fun a => a = MG_TX_WPTR.addr ∨ a = MG_TX_RPTR.addr) s t) ∧
  ∀ (s : State) (ws : List (BitVec 32)), s.Inv → s.bit MG_CTRL_ENABLE = true → ws ≠ [] →
    (s.rd MG_RX_WPTR / 4 * 4 + 4096 - s.rd MG_RX_RPTR / 4 * 4) % 4096 + 4 * ws.length < 4096 →
    ∃ t, exec (.mgAnswer ws) s = .next t ∧ Frame { regs := true, dic := true, le := true } s t ∧ t.rd MG_RX_WPTR =
      (s.rd MG_RX_WPTR / 4 * 4 + 4 * ws.length) % 4096 ∧ t.bit MG_STATUS_RX_NOT_EMPTY = true

/-- The states the load, the commit, the revert and the readmission of a model and the snapshots answer.
A chunk of MODEL_LOAD is written into its slot of DDR4. COMMIT_MODEL of an image that fits opens a commit at step 2,
REVERT_MODEL one at step 3 that has left PREDICTIVE; an image that fits no form is answered KS_NOT_FIT with the
admission report. A digest that does not match ends the commit ABORTED and leaves a lost model to be readmitted; one
that matches leaves PREDICTIVE and begins step 3. At a boundary, once every slot has switched or 10 ms after step 3
began, Trellis stops and the image is loaded or the commit fails. A load that ends well sets ENABLE due at the next
boundary; one that fails, or whose image meets an uncorrectable error, fails the commit. At that boundary frames run.
After 8 good frames the commit ends, and PREDICTIVE is asked for where RESUME is set and the module was PREDICTIVE. A
readmission loads the model in the first form that fits; where none fits the model is unadmitted while a commit has
not stopped Trellis, else no model is admitted and the commit of a new image ends FAILED. Each event out of its turn
changes nothing. A snapshot whose time has come is latched, or dropped with its journal ABORTED in SURVIVAL; outside
SURVIVAL the oldest latched one is written to its slot, which is no longer poisoned, with its journal done. -/
def Obligations.ModelCommits : Prop :=
  (∀ (s : State) (p : List (BitVec 8)), Takes s cmdModelLoadChunk p → fieldLE p 8 1 < 16 → fieldLE p 12 8 % 64 = 0 →
    fieldLE p 12 8 < 0x80000000 → fieldLE p 12 8 + (p.drop 20).length ≤ 0x80000000 →
    s.asked.lockedSlots.contains (fieldLE p 8 1) = false →
    ∃ t, exec (.modelLoadChunk p) s = .next t ∧
      Frame { regs := true, mem := true, sys := true, dic := true, mb := true, le := true, tw := true, ca := true } s t ∧ t = s.replied cmdModelLoadChunk p { st := s.asked.ddrWrite (modelSlot (fieldLE p 8 1) + fieldLE p 12 8) (p.drop 20), out := leBytes 4 (p.drop 20).length }) ∧
  (∀ (s : State) (p : List (BitVec 8)) (rot : Bool), Takes s cmdCommitModel p → s.asked.tr.commit = none → fieldLE p
    8 1 < 16 →
    fieldLE p 9 1 < 3 → s.asked.headerOk (fieldLE p 8 1) = true →
    s.asked.admitForm (s.asked.readImage (fieldLE p 8 1) (fieldLE p 9 1) (s.asked.bunchesFor (fieldLE p 12 2)))
      (fieldLE p 9 1) s.asked.frameCounts (s.asked.bunchesFor (fieldLE p 12 2)) = some rot →
    ∃ t, exec (.commitModel p) s = .next t ∧
      Frame { regs := true, sys := true, dic := true, mb := true, le := true, tr := true, tw := true } s t ∧ ∃ (u :
        State) (c : Commit), t = s.replied cmdCommitModel p { st := u, journal := s.asked.mb.nextJournal } ∧
      u.tr = { s.asked.tr with commit := some c } ∧ c.step = 2 ∧ c.journal = s.asked.mb.nextJournal ∧ c.revert =
        false ∧
      c.resume = bitOf (fieldLE p 10 1) 0 ∧ c.digest = (p.drop 16).take 32 ∧ u.regs = s.asked.regs) ∧
  (∀ (s : State) (p : List (BitVec 8)) (x : Image), Takes s cmdRevertModel p → s.asked.tr.commit = none →
    s.asked.tr.previous = some x →
    ∃ t, exec (.revertModel p) s = .next t ∧
      Frame { regs := true, sys := true, dic := true, mg := true, mb := true, le := true, pf := true, tr := true, tw := true } s t ∧ ∃ c : Commit, t = s.replied cmdRevertModel p { st := ((s.asked.openCommit 0xC042 (tagOf p) c).journalStep s.asked.mb.nextJournal 2).toReactive, journal := s.asked.mb.nextJournal } ∧
      c.step = 3 ∧ c.image = x ∧ c.revert = true ∧ c.resume = false ∧ c.journal = s.asked.mb.nextJournal) ∧
  (∀ (s : State) (p : List (BitVec 8)), Takes s cmdCommitModel p → s.asked.tr.commit = none → fieldLE p 8 1 < 16 →
    fieldLE p 9 1 < 3 → s.asked.headerOk (fieldLE p 8 1) = true →
    s.asked.admitForm (s.asked.readImage (fieldLE p 8 1) (fieldLE p 9 1) (s.asked.bunchesFor (fieldLE p 12 2)))
      (fieldLE p 9 1) s.asked.frameCounts (s.asked.bunchesFor (fieldLE p 12 2)) = none →
    ∃ t, exec (.commitModel p) s = .next t ∧
      Frame { regs := true, sys := true, dic := true, mb := true, le := true, tr := true, tw := true } s t ∧ t =
        s.asked.answer .notFit (s.asked.ksHeader .notFit (tagOf p) 0 0)
      (s.asked.admReport (s.asked.readImage (fieldLE p 8 1) (fieldLE p 9 1) (s.asked.bunchesFor (fieldLE p 12 2)))
        (fieldLE p 9 1) s.asked.frameCounts (s.asked.bunchesFor (fieldLE p 12 2)))) ∧
  (∀ (s : State) (c : Commit), s.tr.commit = some c → c.step = 2 → c.revert = false →
    s.imageDigest c.image.slot ≠ c.digest →
    ∃ t, exec .commitDigestCheck s = .next t ∧
      Frame { regs := true, sys := true, dic := true, mg := true, mb := true, le := true, pf := true, tr := true, tw := true } s t ∧ t.tr = { s.tr with commit := none, readmit := s.tr.readmit || (s.tr.image.isSome && !s.bit TR_STATUS_ADMITTED) }) ∧
  (∀ (s : State) (c : Commit), s.tr.commit = some c → c.step = 2 →
    c.revert = true ∨ s.imageDigest c.image.slot = c.digest →
    ∃ t, exec .commitDigestCheck s = .next t ∧
      Frame { regs := true, sys := true, dic := true, mg := true, mb := true, le := true, pf := true, tr := true, tw := true } s t ∧ ∃ u : State, u = (s.commitStep c.journal 2).toReactive ∧
      t = (u.onCommit fun c => { c with step := 3, wasPredictive := s.sys.mode == .predictive, step3At := s.time }) ∧
      (s.sys.mode = .predictive → t.sys.mode = .reactive)) ∧
  (∀ s : State, s.tr.commit.any (fun c => c.step == 2) = false → ∃ t, exec .commitDigestCheck s = .next t ∧
    Frame { regs := true, sys := true, dic := true, mg := true, mb := true, le := true, pf := true, tr := true, tw := true } s t ∧ t = s) ∧
  (∀ (s : State) (c : Commit), s.tr.commit = some c → c.step = 3 → s.atBoundary = true →
    s.allSwitched = true ∨ c.step3At + msec 10 ≤ s.time →
    ∃ t, exec .commitTrellisStop s = .next t ∧
      Frame { regs := true, dic := true, mg := true, mb := true, le := true, tr := true, tw := true } s t ∧ ∃ (u v :
        State) (d : Commit), u = (s.commitStep c.journal 3).trStop.trUnadmit ∧
      d = { c with step := 4, oldImage := u.tr.image, oldPrevious := u.tr.previous } ∧
      v = State.commitStep (u.onTr fun y =>
        { y with image := some c.image, previous := if u.tr.image.any (fun x => x.slot == c.image.slot) then y.previous else y.image, commit := some d }) c.journal 4 ∧
      t = (v.beginLoad d).getD ((v.onCommit fun c => { c with step := 5 }).commitFail)) ∧
  (∀ (s : State) (c : Commit), s.tr.commit = some c → c.step = 5 → s.imagePoisoned = false →
    ∃ t, exec (.commitLoadDone true) s = .next t ∧
      Frame { regs := true, dic := true, mg := true, mb := true, le := true, tr := true, tw := true } s t ∧
        t.tr.commit = some { c with step := 6 } ∧ t.tr.enableDue = true) ∧
  (∀ s : State, s.tr.commit.any (fun c => c.step == 3 && (s.allSwitched || decide (c.step3At + msec 10 ≤ s.time))) =
    false ∨ s.atBoundary = false →
    ∃ t, exec .commitTrellisStop s = .next t ∧
      Frame { regs := true, dic := true, mg := true, mb := true, le := true, tr := true, tw := true } s t ∧ t = s) ∧
  (∀ (s : State) (c : Commit) (ok : Bool), s.tr.commit = some c → c.step = 5 → ok = false ∨ s.imagePoisoned = true →
    ∃ t, exec (.commitLoadDone ok) s = .next t ∧
      Frame { regs := true, dic := true, mg := true, mb := true, le := true, tr := true, tw := true } s t ∧ t =
        s.commitFail) ∧
  (∀ (s : State) (ok : Bool), s.tr.commit.any (fun c => c.step == 5) = false → ∃ t, exec (.commitLoadDone ok) s =
    .next t ∧ Frame { regs := true, dic := true, mg := true, mb := true, le := true, tr := true, tw := true } s t ∧ t
      = s) ∧
  (∀ s : State, s.tr.enableDue = false ∨ s.atBoundary = false → ∃ t, exec .commitEnable s = .next t ∧
    Frame { regs := true, tr := true } s t ∧ t = s) ∧
  (∀ s : State, s.tr.commit.any (fun c => c.step == 7 && decide (8 ≤ s.tr.warmGood)) = false → ∃ t, exec
    .commitWarmDone s = .next t ∧
      Frame { regs := true, sys := true, dic := true, mg := true, mb := true, le := true, tr := true, tw := true } s t ∧ t = s) ∧
  (∀ s : State, s.tr.readmit = false → ∃ t, exec .readmissionDone s = .next t ∧
    Frame { regs := true, dic := true, mg := true, mb := true, le := true, tr := true, tw := true } s t ∧ t = s) ∧
  (∀ s : State, s.tr.readmit = true → s.tr.image = none →
    ∃ t, exec .readmissionDone s = .next t ∧
      Frame { regs := true, dic := true, mg := true, mb := true, le := true, tr := true, tw := true } s t ∧ t =
        s.onTr fun y => { y with readmit := false }) ∧
  (∀ (s : State) (x : Image), s.tr.readmit = true → s.tr.image = some x → s.admitForm x 0 s.frameCounts x.bunches =
    none →
    ∃ t, exec .readmissionDone s = .next t ∧
      Frame { regs := true, dic := true, mg := true, mb := true, le := true, tr := true, tw := true } s t ∧
        (s.tr.commit = none → t = s.noModel) ∧
      ∀ c : Commit, s.tr.commit = some c → t = if c.step < 5 then s.unadmitted
        else (if c.fallback then s else s.journalEnd c.journal .failed c.step).noModel) ∧
  (∀ s : State, (s.mb.snaps.find? fun x => x.latched.isSome && s.sys.mode != .survival) = none → ∃ t, exec
    .snapshotWritten s = .next t ∧ Frame { mem := true, mb := true, tw := true, ca := true } s t ∧ t = s) ∧
  (∀ s : State, s.tr.enableDue = true → s.atBoundary = true →
    ∃ t, exec .commitEnable s = .next t ∧ Frame { regs := true, tr := true } s t ∧ t = (s.onTr fun y =>
      { y with enableDue := false }).trStart.trFrame) ∧
  (∀ (s : State) (c : Commit), s.tr.commit = some c → c.step = 7 → 8 ≤ s.tr.warmGood →
    ∃ t, exec .commitWarmDone s = .next t ∧
      Frame { regs := true, sys := true, dic := true, mg := true, mb := true, le := true, tr := true, tw := true } s t ∧ t.tr = { s.tr with commit := none } ∧
      (c.resume = true → c.wasPredictive = true → t.sys.modeReq = some .predictive) ∧
      (c.resume = false ∨ c.wasPredictive = false → t.sys.modeReq = s.sys.modeReq)) ∧
  (∀ (s : State) (x : Image) (rot : Bool), s.tr.readmit = true → s.tr.image = some x →
    s.admitForm x 0 s.frameCounts x.bunches = some rot →
    ∃ t, exec .readmissionDone s = .next t ∧
      Frame { regs := true, dic := true, mg := true, mb := true, le := true, tr := true, tw := true } s t ∧ t =
        (((s.onTr fun y => { y with readmit := false }).trForm x rot).loadImage.trStart).note 2 .readmission 1 [if
          rot then 1 else 2] 128) ∧
  (∀ s : State,
    ∃ t, exec .snapshotLatch s = .next t ∧ Frame { mb := true, tw := true } s t ∧ t = (s.mb.snaps.filter fun x =>
      decide (x.at_ ≤ s.time) && x.latched.isNone).foldl State.latchSnap s) ∧
  ∀ (s : State) (x : Snap), (s.mb.snaps.find? fun x => x.latched.isSome && s.sys.mode != .survival) = some x →
    ∃ t, exec .snapshotWritten s = .next t ∧ Frame { mem := true, mb := true, tw := true, ca := true } s t ∧ t =
      (State.journalStep (((x.image.foldl (fun s c => s.setByte (snapSlot x.slot + c.1) c.2) (s.clearBytes (snapSlot
        x.slot) 0x200000)).setBytes (snapSlot x.slot + 64) (leBytes 4 x.tag)).unpoison (snapSlot x.slot) 0x200000)
          x.journal 2).dropSnap x.journal

/-- The states that the broker's writes, leases, limits, brakes and post area answer.
A renewal that is due and not stopped queues a RENEW record of the cap sent. CAP_WRITE_START, where a write may start,
puts the next record in flight with its cap in CAP_SENT. A completion with success clears IN_FLIGHT, UNREACHABLE and
LEASE_LAPSED and dates the lease; of a RELEASE it ends the context's entry. A first failure queues the record again,
or keeps the newer record that waits; a second marks the context UNREACHABLE, and of a RELEASE ends its entry. A write
in flight for UIO_TIMEOUT fails and is noted as an AER error. A lease that has run out is marked and logged; an unsent
record as old as its lease is dropped and counted, and of a RELEASE ends the entry; power above the cap for more than
20 ms is marked. Where nothing of the kind holds the state is unchanged. A write of BRAKE_FORCE writes the register
and the brakes are sensed again. A write of the post sequence is refused with KS_NOT_OWNER by a module that is not
ACTIVE and with KS_STATE_CONFLICT in BOOT, SERVICE and FAILED; else the staged changes are queued for the next
boundary with the status and sequence. A write of BAR4 to a field of the post area is staged, of POST_FLAGS bit 0
alone, and any other discarded. -/
def Obligations.BrokerWrites : Prop :=
  (∀ (s : State) (c : Fin 4096), s.Inv → s.renewalDue c = true → s.renewalStopped c = false →
    ∃ t, exec (.leaseRenewalDue c) s = .next t ∧ Frame { regs := true, pb := true } s t ∧ (t.pbCtx c).unsent.map (fun
      r => (r.kind, r.cap, r.epoch, r.lease)) = some (.renew, s.rd (PB_CAP_CAP_SENT c), s.frame, s.rd (PB_LEASE c)) ∧
      t.bit (PB_STATUS_QUEUED c) = true ∧ RegsBut (· = (PB_STATUS_QUEUED c).addr) s t) ∧
  (∀ (s : State) (c : Fin 4096), s.renewalDue c = false ∨ s.renewalStopped c = true → ∃ t, exec (.leaseRenewalDue c)
    s = .next t ∧ Frame { regs := true, pb := true } s t ∧ t = s) ∧
  (∀ s : State, s.mayStart = false ∨ s.nextRec = none → ∃ t, exec .capWriteStart s = .next t ∧
    Frame { regs := true, mb := true, pb := true } s t ∧ t = s) ∧
  (∀ (s : State) (c : Nat) (r : CapRec) (k : F32), s.Inv → s.mayStart = true → s.nextRec = some (c, r, k) → c < 4096 →
    ∃ t, exec .capWriteStart s = .next t ∧ Frame { regs := true, mb := true, pb := true } s t ∧ t.rd (PB_CAP_CAP_SENT
      c) = r.cap % 4096 ∧ t.bit (PB_STATUS_IN_FLIGHT c) = true ∧
      t.bit (PB_STATUS_QUEUED c) = false ∧ t.bit (PB_STATUS_EMERGENCY c) = (r.kind == .emergency)) ∧
  (∀ (s : State) (c : Fin 4096) (f : CapFlight), s.Inv → (s.pbCtx c).flight = some f → f.rcd.kind ≠ .release →
    ∃ t, exec (.capWriteCompletion c true) s = .next t ∧
      Frame { regs := true, dic := true, mg := true, pb := true, le := true, tw := true } s t ∧ t.bit
        (PB_STATUS_IN_FLIGHT c) = false ∧ t.bit (PB_STATUS_UNREACHABLE c) = false ∧
      t.bit (PB_STATUS_LEASE_LAPSED c) = false ∧
      (t.pbCtx c).leaseEnd = some (f.started + msec f.rcd.lease) ∧ (t.pbCtx c).flight = none) ∧
  (∀ (s : State) (c : Fin 4096) (f : CapFlight), (s.pbCtx c).flight = some f → f.rcd.kind = .release →
    ∃ t, exec (.capWriteCompletion c true) s = .next t ∧
      Frame { regs := true, dic := true, mg := true, pb := true, le := true, tw := true } s t ∧ t = ((s.putBit
        (PB_STATUS_IN_FLIGHT c) false).forwardDone c 0 f).dropCtx c) ∧
  (∀ (s : State) (c : Fin 4096) (ok : Bool), (s.pbCtx c).flight = none → ∃ t, exec (.capWriteCompletion c ok) s =
    .next t ∧ Frame { regs := true, dic := true, mg := true, pb := true, le := true, tw := true } s t ∧ t = s) ∧
  (∀ (s : State) (c : Fin 4096) (f : CapFlight) (r : CapRec), s.Inv → (s.pbCtx c).flight = some f → f.rcd.failures =
    0 →
    (s.pbCtx c).unsent = some r →
    ∃ t, exec (.capWriteCompletion c false) s = .next t ∧
      Frame { regs := true, dic := true, mg := true, pb := true, le := true, tw := true } s t ∧ t.bit
        (PB_STATUS_IN_FLIGHT c) = false ∧ (t.pbCtx c).unsent = some r ∧
      (t.pbCtx c).flight = none) ∧
  (∀ (s : State) (c : Fin 4096) (f : CapFlight), s.Inv → (s.pbCtx c).flight = some f → f.rcd.failures = 0 →
    (s.pbCtx c).unsent = none →
    ∃ t, exec (.capWriteCompletion c false) s = .next t ∧
      Frame { regs := true, dic := true, mg := true, pb := true, le := true, tw := true } s t ∧ t.bit
        (PB_STATUS_IN_FLIGHT c) = false ∧ t.bit (PB_STATUS_QUEUED c) = true ∧
      (t.pbCtx c).unsent = some { f.rcd with failures := 1, queuedAt := s.time } ∧ (t.pbCtx c).flight = none) ∧
  (∀ (s : State) (c : Fin 4096) (f : CapFlight), s.Inv → (s.pbCtx c).flight = some f → 1 ≤ f.rcd.failures →
    ∃ t, exec (.capWriteCompletion c false) s = .next t ∧
      Frame { regs := true, dic := true, mg := true, pb := true, le := true, tw := true } s t ∧ ∃ u : State, t =
        u.unreachable c (f.rcd.kind == .release) ∧ (u.pbCtx c).flight = none ∧
      u.bit (PB_STATUS_IN_FLIGHT c) = false ∧
      (f.rcd.kind ≠ .release → t.bit (PB_STATUS_IN_FLIGHT c) = false ∧ t.bit (PB_STATUS_UNREACHABLE c) = true)) ∧
  (∀ (s : State) (c : Fin 4096) (f : CapFlight), (s.pbCtx c).flight = some f → f.started + s.uioTimeout ≤ s.time →
    ∃ t, exec (.capWriteTimeout c) s = .next t ∧
      Frame { regs := true, dic := true, mg := true, mb := true, pb := true, le := true, tw := true } s t ∧ t =
        (s.writeFailed c).aerNote true) ∧
  (∀ (s : State) (c : Fin 4096), s.since ((s.pbCtx c).flight.map (·.started)) s.uioTimeout = false →
    ∃ t, exec (.capWriteTimeout c) s = .next t ∧
      Frame { regs := true, dic := true, mg := true, mb := true, pb := true, le := true, tw := true } s t ∧ t = s) ∧
  (∀ (s : State) (c : Fin 4096), s.since (s.pbCtx c).leaseEnd 0 = false ∨ s.bit (PB_STATUS_LEASE_LAPSED c) = true →
    ∃ t, exec (.leaseLapse c) s = .next t ∧ Frame { regs := true, mg := true } s t ∧ t = s) ∧
  (∀ (s : State) (c : Fin 4096), s.since (s.pbCtx c).overSince (msec 20 + 1) = false ∨ s.bit (PB_STATUS_OVER_CAP c) =
    true →
    ∃ t, exec (.overCap c) s = .next t ∧ Frame { regs := true, dic := true, mg := true, le := true } s t ∧ t = s) ∧
  (∀ (s : State) (c : Fin 4096), (s.pbCtx c).unsent.any (fun r => decide (r.queuedAt + msec r.lease ≤ s.time)) =
    false →
    ∃ t, exec (.capRecordExpiry c) s = .next t ∧ Frame { regs := true, pb := true } s t ∧ t = s) ∧
  (∀ (s : State) (c : Fin 4096) (r : CapRec), (s.pbCtx c).unsent = some r → r.queuedAt + msec r.lease ≤ s.time →
    r.kind = .release →
    ∃ t, exec (.capRecordExpiry c) s = .next t ∧ Frame { regs := true, pb := true } s t ∧ t = (((s.setPbCtx c
      { s.pbCtx c with unsent := none }).putBit (PB_STATUS_QUEUED c) false).incSat PB_DROPPED).dropCtx c) ∧
  (∀ (s : State) (c : Fin 4096) (e : Nat), s.Inv → (s.pbCtx c).leaseEnd = some e → e ≤ s.time →
    s.bit (PB_STATUS_LEASE_LAPSED c) = false →
    ∃ t, exec (.leaseLapse c) s = .next t ∧ Frame { regs := true, mg := true } s t ∧ t.bit (PB_STATUS_LEASE_LAPSED c)
      = true ∧
      RegsBut (fun a => a = (PB_STATUS_LEASE_LAPSED c).addr ∨ noteReg a) s t) ∧
  (∀ (s : State) (c : Fin 4096) (r : CapRec), s.Inv → (s.pbCtx c).unsent = some r → r.queuedAt + msec r.lease ≤
    s.time →
    r.kind ≠ .release →
    ∃ t, exec (.capRecordExpiry c) s = .next t ∧ Frame { regs := true, pb := true } s t ∧ (t.pbCtx c).unsent = none ∧
      t.bit (PB_STATUS_QUEUED c) = false ∧
      t.rd PB_DROPPED = min (s.rd PB_DROPPED + 1) (2 ^ 16 - 1) ∧
      RegsBut (fun a => a = (PB_STATUS_QUEUED c).addr ∨ a = PB_DROPPED.addr) s t) ∧
  (∀ (s : State) (c : Fin 4096) (o : Nat), s.Inv → (s.pbCtx c).overSince = some o → o + msec 20 + 1 ≤ s.time →
    s.bit (PB_STATUS_OVER_CAP c) = false →
    ∃ t, exec (.overCap c) s = .next t ∧ Frame { regs := true, dic := true, mg := true, le := true } s t ∧ t.bit
      (PB_STATUS_OVER_CAP c) = true ∧
      RegsBut (fun a => a = (PB_STATUS_OVER_CAP c).addr ∨ noteReg a) s t) ∧
  (∀ (s : State) (v : BitVec 16),
    ∃ t, exec (.pbBrakeForceWrite v) s = .next t ∧ Frame { regs := true } s t ∧ t = (s.wr PB_BRAKE_FORCE
      v.toNat).senseBrakes) ∧
  (∀ (s : State) (v : BitVec 32), s.isActive = false →
    ∃ t, exec (.postSeqWrite v) s = .next t ∧ Frame { sys := true, pb := true, tw := true } s t ∧ t = s.onPb fun y =>
      { y with postStatus := Ks.notOwner.code }) ∧
  (∀ (s : State) (v : BitVec 32), s.isActive = true →
    s.sys.mode = .boot ∨ s.sys.mode = .service ∨ s.sys.mode = .failed →
    ∃ t, exec (.postSeqWrite v) s = .next t ∧ Frame { sys := true, pb := true, tw := true } s t ∧ t = s.onPb fun y =>
      { y with postStatus := Ks.stateConflict.code }) ∧
  (∀ (s : State) (off : Nat) (v : BitVec 32), off < 0x104 ∨ 0x250 ≤ off ∨ off % 4 ≠ 0 ∨ off = 0x10C →
    ∃ t, exec (.bar4Write off v) s = .next t ∧ Frame { pb := true } s t ∧ t = s) ∧
  (∀ (s : State) (v : BitVec 32), s.isActive = true → s.sys.mode ≠ .boot → s.sys.mode ≠ .service → s.sys.mode ≠
    .failed →
    ∃ t, exec (.postSeqWrite v) s = .next t ∧ Frame { sys := true, pb := true, tw := true } s t ∧ t.pb.changes =
      s.pb.changes ++ s.postChanges ∧ t.pb.postDue = some v.toNat ∧
      t.pb.postStatus = s.postClamps * 65536 + (if s.postClamps = 0 then Ks.ok.code else Ks.clamped.code) ∧
      t.sys = { s.sys with silenceStart := s.time, hostSilent := false } ∧ t.regs = s.regs) ∧
  ∀ (s : State) (off : Nat) (v : BitVec 32), 0x104 ≤ off → off < 0x250 → off % 4 = 0 → off ≠ 0x10C →
    ∃ t, exec (.bar4Write off v) s = .next t ∧ Frame { pb := true } s t ∧ t.pb =
      { s.pb with post := tinsert s.pb.post off (if off = 0x104 then v.toNat % 2 else v.toNat) }

/-- The states that writes to the vat, the unpacker, a field stream's packet, a pop, a flush and a reset of a queue answer.
A BAR2 write while the module does not accept is counted and dropped; a form that breaks a rule is counted at its
queue; an offset beyond the pages changes nothing; any other is put into its slot's assembly word by word. A packet
incomplete for its time is cut off and logged, a sample packet counted at its queue, and the words of a refused record
forgotten; a packet that is not changes nothing. The unpacker runs where it is due. A field stream that is due is
published whole, with the stamp of its first sample, or begun and left incomplete. The banks of a sample queue swap. A
pop takes the next line for its reader, ends EMPTY past its deadline, waits with the stalls of the queue otherwise,
and does nothing for a reader that waits already; the oldest stalled read takes a line that has come, and reads that
are over end EMPTY. A flush request marks the queue and its packets in assembly once; at the flush point, with no
marked packet left, the queue is flushed. A pointer mismatch resets the queue, counts it and posts its record and
doorbell. A core sleeps unless its wake condition holds; target 1 never does. -/
def Obligations.VatQueues : Prop :=
  (∀ (s : State) (off : Nat) (bs : List (BitVec 8)), s.Inv → s.bit VQ_CTRL_ACCEPT = false →
    ∃ t, exec (.bar2Write off bs) s = .next t ∧
      Frame { regs := true, dic := true, vq := true, le := true, tw := true } s t ∧ t.rd VQ_STBY_DISCARD = min (s.rd
        VQ_STBY_DISCARD + 1) (2 ^ 32 - 1) ∧
      RegsBut (· = VQ_STBY_DISCARD.addr) s t) ∧
  (∀ (s : State) (off : Nat) (bs : List (BitVec 8)), s.bit VQ_CTRL_ACCEPT = true → off < 4096 * 4096 →
    s.badBar2 off bs.length = false →
    ∃ t, exec (.bar2Write off bs) s = .next t ∧
      Frame { regs := true, dic := true, vq := true, le := true, tw := true } s t ∧ t = s.asmWords (2 * (off / 4096)
        + off % 4096 / 128) (off % 128 / 8) none 16 bs) ∧
  (∀ (s : State) (off : Nat) (bs : List (BitVec 8)), s.bit VQ_CTRL_ACCEPT = true → off < 4096 * 4096 →
    s.badBar2 off bs.length = true →
    ∃ t, exec (.bar2Write off bs) s = .next t ∧
      Frame { regs := true, dic := true, vq := true, le := true, tw := true } s t ∧ t = s.incSat (VQ_IQ_BADWR (off /
        4096 / 64))) ∧
  (∀ (s : State) (off : Nat) (bs : List (BitVec 8)), s.bit VQ_CTRL_ACCEPT = true → 4096 * 4096 ≤ off →
    ∃ t, exec (.bar2Write off bs) s = .next t ∧
      Frame { regs := true, dic := true, vq := true, le := true, tw := true } s t ∧ t = s) ∧
  (∀ (s : State) (c : Fin 4096) (b : Bool) (t0 : Nat), (s.asm (2 * c + b2n b)).refused = none →
    (s.asm (2 * c + b2n b)).since = some t0 → t0 + s.pktTimeout ≤ s.time →
    ∃ t, exec (.packetTimeout (.ingest c) b) s = .next t ∧
      Frame { regs := true, dic := true, mg := true, vq := true, le := true } s t ∧ t = (s.cutAsm (2 * c + b2n
        b)).log 5 .packetTimeout 0 [(c : Nat)]) ∧
  (∀ (s : State) (c : Fin 4096) (b : Bool), s.since (s.asm (2 * c + b2n b)).refused s.pktTimeout = true →
    ∃ t, exec (.packetTimeout (.ingest c) b) s = .next t ∧
      Frame { regs := true, dic := true, mg := true, vq := true, le := true } s t ∧ t = s.setAsm (2 * c + b2n b) {}) ∧
  (∀ (s : State) (c : Fin 4096) (b : Bool), s.since (s.asm (2 * c + b2n b)).refused s.pktTimeout = false →
    s.since (s.asm (2 * c + b2n b)).since s.pktTimeout = false → ∃ t, exec (.packetTimeout (.ingest c) b) s = .next t
      ∧ Frame { regs := true, dic := true, mg := true, vq := true, le := true } s t ∧ t = s) ∧
  (∀ (s : State) (q : Fin 32) (b : Bool) (t0 : Nat), (s.sq q).since = some t0 → t0 + s.pktTimeout ≤ s.time →
    ∃ t, exec (.packetTimeout (.sample q) b) s = .next t ∧
      Frame { regs := true, dic := true, mg := true, vq := true, le := true } s t ∧ t = ((s.setSq q
        { s.sq q with since := none, marked := false }).incSat (VQ_SQ_TIMEOUTS q)).log 5 .packetTimeout 0 [4096 + q])
          ∧
  (∀ (s : State) (q : Fin 32) (b : Bool), s.since (s.sq q).since s.pktTimeout = false → ∃ t, exec (.packetTimeout
    (.sample q) b) s = .next t ∧ Frame { regs := true, dic := true, mg := true, vq := true, le := true } s t ∧ t = s)
      ∧
  (∀ s : State, s.vq.unpacking = false → ∃ t, exec .unpackComplete s = .next t ∧
    Frame { regs := true, mg := true, pb := true, vq := true, le := true, tw := true } s t ∧ t = s) ∧
  (∀ s : State, s.vq.unpacking = true → ∃ t, exec .unpackComplete s = .next t ∧
    Frame { regs := true, mg := true, pb := true, vq := true, le := true, tw := true } s t ∧ t = s.unpack) ∧
  (∀ (s : State) (k : Fin 18) (l : List Nat) (w : Bool),
    ((k : Nat) < 6 ∧ (tfind s.sn.streams k).all (fun t0 => decide (t0 + streamPeriod k ≤ s.time)) = true) ∨
      ((k : Nat) = 17 ∧ s.traceRuns = true) →
    ∃ t, exec (.fieldStreamPublish k ⟨l, w⟩) s = .next t ∧
      Frame { regs := true, dic := true, vq := true, le := true, sn := true, tw := true } s t ∧ ∃ u : State, u =
        (s.onSn fun y => { y with streams := tinsert y.streams k s.time }) ∧
      t = if w then u.publishAt k (s.streamStamp k l) (s.streamWords k l) else u.beginPacket k) ∧
  (∀ (s : State) (k : Fin 18) (l : List Nat) (w : Bool),
    ¬ ((k : Nat) < 6 ∧ (tfind s.sn.streams k).all (fun t0 => decide (t0 + streamPeriod k ≤ s.time)) = true) →
    ¬ ((k : Nat) = 17 ∧ s.traceRuns = true) → ∃ t, exec (.fieldStreamPublish k ⟨l, w⟩) s = .next t ∧
      Frame { regs := true, dic := true, vq := true, le := true, sn := true, tw := true } s t ∧ t = s) ∧
  (∀ (s : State) (q : Fin 32),
    ∃ t, exec (.sampleBankSwap q) s = .next t ∧ Frame { regs := true, dic := true, vq := true, le := true } s t ∧
      t.vq = { s.vq with sq := tset {} s.vq.sq q (s.sq q).swap }) ∧
  (∀ (s : State) (q : Fin 32) (r : SqReader), s.waitsAt q r = true → ∃ t, exec (.sqPopRead ⟨q, r⟩) s = .next t ∧
    Frame { regs := true, dic := true, mb := true, vq := true, le := true } s t ∧ t = s) ∧
  (∀ (s : State) (q : Fin 32) (r : SqReader) (u : State), s.waitsAt q r = false → s.popLine q r = some u →
    ∃ t, exec (.sqPopRead ⟨q, r⟩) s = .next t ∧
      Frame { regs := true, dic := true, mb := true, vq := true, le := true } s t ∧ t = u.creditsBack q) ∧
  (∀ (s : State) (q : Fin 32) (r : SqReader), s.waitsAt q r = false → s.popLine q r = none →
    s.pastDeadline (s.popDeadlineOf q r) = true →
    ∃ t, exec (.sqPopRead ⟨q, r⟩) s = .next t ∧
      Frame { regs := true, dic := true, mb := true, vq := true, le := true } s t ∧ t = s.popEnd q r (emptyTag false)
        (zeros 64)) ∧
  (∀ (s : State) (q : Fin 32) (r : SqReader), s.waitsAt q r = false → s.popLine q r = none →
    s.pastDeadline (s.popDeadlineOf q r) = false →
    ∃ t, exec (.sqPopRead ⟨q, r⟩) s = .next t ∧
      Frame { regs := true, dic := true, mb := true, vq := true, le := true } s t ∧ t.vq =
        { s.vq with sq := tset {} s.vq.sq q { s.sq q with stalls := (s.sq q).stalls ++ [⟨r, s.time, s.popDeadlineOf q r⟩] } } ∧
      t.regs = s.regs) ∧
  (∀ (s : State) (q : Fin 32) (x : SqStall) (l : List SqStall) (u : State), (s.sq q).stalls = x :: l →
    s.popLine q x.reader = some u → ∃ t, exec (.popStallEnd q) s = .next t ∧
      Frame { regs := true, dic := true, mb := true, vq := true, le := true } s t ∧ t = u.creditsBack q) ∧
  (∀ (s : State) (q : Fin 32), (s.sq q).stalls = [] ∨ (s.sq q).swap.read = [] → ∃ t, exec (.popStallEnd q) s = .next
    t ∧ Frame { regs := true, dic := true, mb := true, vq := true, le := true } s t ∧ t = s) ∧
  (∀ (s : State) (q : Fin 32),
    ∃ t, exec (.popDeadline q) s = .next t ∧ Frame { regs := true, mb := true, vq := true } s t ∧ t = ((s.sq
      q).stalls.filter s.stallOver).foldl (fun u x => u.popEnd q x.reader (emptyTag false) (zeros 64)) s) ∧
  (∀ (s : State) (q : Fin 96), 64 ≤ (q : Nat) → (s.sq (q - 64)).flushing = false →
    ∃ t, exec (.flushRequest q) s = .next t ∧ Frame { regs := true, dic := true, vq := true, le := true } s t ∧ t.vq
      = { s.vq with sq := tset {} s.vq.sq (q - 64) { s.sq (q - 64) with flushing := true, marked := (s.sq (q - 64)).since.isSome } }) ∧
  (∀ (s : State) (q : Fin 96), (q : Nat) < 64 → (s.iq q).flushing = false →
    ∃ t, exec (.flushRequest q) s = .next t ∧ Frame { regs := true, dic := true, vq := true, le := true } s t ∧ t =
      ((s.queueAsms q).foldl (fun u a => u.setAsm a { u.asm a with marked := (u.asm a).since.isSome }) s).setIq q
        { s.iq q with flushing := true }) ∧
  (∀ (s : State) (q : Fin 96), (if (q : Nat) < 64 then (s.iq q).flushing else (s.sq (q - 64)).flushing) = true →
    ∃ t, exec (.flushRequest q) s = .next t ∧ Frame { regs := true, dic := true, vq := true, le := true } s t ∧ t =
      s) ∧
  (∀ (s : State) (q : Fin 96), (q : Nat) < 64 → (s.iq q).flushing = true →
    (s.queueAsms q).all (fun a => !(s.asm a).marked) = true → ∃ t, exec (.flushPoint q) s = .next t ∧
      Frame { regs := true, dic := true, vq := true, le := true } s t ∧ t = s.flushIq q) ∧
  (∀ (s : State) (q : Fin 96), 64 ≤ (q : Nat) → (s.sq (q - 64)).flushing = true → (s.sq (q - 64)).marked = false →
    ∃ t, exec (.flushPoint q) s = .next t ∧ Frame { regs := true, dic := true, vq := true, le := true } s t ∧ t =
      (s.flushSq (q - 64)).creditsBack (q - 64)) ∧
  (∀ (s : State) (q : Fin 96),
    (if (q : Nat) < 64 then (s.iq q).flushing && (s.queueAsms q).all (fun a => !(s.asm a).marked)
      else (s.sq (q - 64)).flushing && !(s.sq (q - 64)).marked) = false →
    ∃ t, exec (.flushPoint q) s = .next t ∧ Frame { regs := true, dic := true, vq := true, le := true } s t ∧ t = s) ∧
  (∀ (s : State) (q : Fin 96),
    ∃ t, exec (.queueReset q) s = .next t ∧
      Frame { regs := true, dic := true, mg := true, mb := true, vq := true, le := true } s t ∧ ∃ u : State, u = (if
        (q : Nat) < 64 then s.resetIq q else (s.resetSq (q - 64)).creditsBack (q - 64)) ∧
      t = (u.incSat VQ_PTRERR_COUNT).note 5 .queueReset 1 [(q : Nat)] (u.rd VQ_NOTICE_BASE + 96)) ∧
  (∀ (s : State) (n : Fin 9), (n : Nat) = 1 ∨ s.wakeHolds n = true → ∃ t, exec (.sleepInstruction n) s = .next t ∧
    Frame { regs := true } s t ∧ t = s) ∧
  ∀ (s : State) (n : Fin 9), s.Inv → (n : Nat) ≠ 1 → s.wakeHolds n = false →
    ∃ t, exec (.sleepInstruction n) s = .next t ∧ Frame { regs := true } s t ∧ t.bit (DIC_CSTAT_ASLEEP n) = true ∧
      RegsBut (· = (DIC_CSTAT_ASLEEP n).addr) s t

/-- The states that the commands of the pumps and fans answer.
A pump or fan whose start may begin in a state from TABLE on is kicked. One second after a kick it ends by its pulses,
and a further kick follows 5, 10 and 15 s after the request. A running channel whose tach is lost goes to
TACH_LOST_RUNNING with a log record while its current is in the band and fails else; lost again there, the time since
pulses came back starts anew. In TACH_LOST_RUNNING a channel whose pulses are back is dated, returns to RUNNING after
1 s of them, and fails as its current leaves the band; any other channel's measured speed follows its pulses. A drive
fault on an enabled pump that is not at FAULT stops it there; without one, and on a disabled pump, only the FAULT_IN
bit and the record of the fault are brought in. The manager stages a pump in after 10 s above the high mark and out
after 300 s below the low one, not in SHED, starts a rotation where the hours are reached, and saves the hours and the
rotation's base every 6 minutes. ROT_NOW and a 0-to-1 write of ENABLE act as stated. A fan's current is stored; above
4.5 A it is dated, and after 100 ms the fan stops with OVERCURRENT. Where a condition does not hold nothing changes. -/
def Obligations.PumpsAndFans : Prop :=
  (∀ (s : State) (k : Fin 12), s.sys.mode.fromTable = true → s.mayKick k = true →
    ∃ t, exec (.pumpKick k) s = .next t ∧ Frame { regs := true, pf := true } s t ∧ t = s.startKick k) ∧
  (∀ (s : State) (k : Fin 12), s.sys.mode.fromTable = false ∨ s.mayKick k = false → ∃ t, exec (.pumpKick k) s = .next
    t ∧ Frame { regs := true, pf := true } s t ∧ t = s) ∧
  (∀ (s : State) (k : Fin 12) (n t0 b : Nat), s.rd (pfState k) = 1 → (s.pfCh k).kickAt = some t0 →
    t0 + secs 1 ≤ s.time → ∃ t, exec (.kickEnd k n b) s = .next t ∧
      Frame { regs := true, dic := true, mg := true, le := true, pf := true } s t ∧ t = s.endKick k n b) ∧
  (∀ (s : State) (k : Fin 12) (n b : Nat), s.rd (pfState k) ≠ 1 ∨ s.since (s.pfCh k).kickAt (secs 1) = false →
    ∃ t, exec (.kickEnd k n b) s = .next t ∧
      Frame { regs := true, dic := true, mg := true, le := true, pf := true } s t ∧ t = s) ∧
  (∀ (s : State) (k : Fin 12) (t0 : Nat), s.rd (pfState k) = 1 → (s.pfCh k).kickAt = none → s.rd (pfRetry k) < 3 →
    (s.pfCh k).reqAt = some t0 → t0 + secs (5 * (s.rd (pfRetry k) + 1)) ≤ s.time →
    ∃ t, exec (.kickRetry k) s = .next t ∧ Frame { regs := true, pf := true } s t ∧ t = s.kick k (s.rd (pfRetry k) +
      1)) ∧
  (∀ (s : State) (k : Fin 12), s.rd (pfState k) ≠ 1 ∨ (s.pfCh k).kickAt.isSome = true ∨ 3 ≤ s.rd (pfRetry k) ∨
      s.since (s.pfCh k).reqAt (secs (5 * (s.rd (pfRetry k) + 1))) = false →
    ∃ t, exec (.kickRetry k) s = .next t ∧ Frame { regs := true, pf := true } s t ∧ t = s) ∧
  (∀ (s : State) (k : Fin 12), s.tachLost k = true → s.rd (pfState k) = 2 → (s.wr (pfTach k) 0).inBand k = true →
    ∃ t, exec (.tachLoss k) s = .next t ∧ Frame { regs := true, dic := true, mg := true, le := true, pf := true } s t
      ∧ t = ((s.wr (pfTach k) 0).pfTo k 3).log 6 (if (k : Nat) < 4 then .pumpState else .fanState) 1 [(k : Nat), 3]) ∧
  (∀ (s : State) (k : Fin 12), s.tachLost k = true → s.rd (pfState k) = 2 → (s.wr (pfTach k) 0).inBand k = false →
    ∃ t, exec (.tachLoss k) s = .next t ∧ Frame { regs := true, dic := true, mg := true, le := true, pf := true } s t
      ∧ t = (s.wr (pfTach k) 0).pfFail k 4) ∧
  (∀ (s : State) (k : Fin 12), s.tachLost k = true → s.rd (pfState k) = 3 →
    ∃ t, exec (.tachLoss k) s = .next t ∧ Frame { regs := true, dic := true, mg := true, le := true, pf := true } s t
      ∧ t = (s.wr (pfTach k) 0).setPfCh k { s.pfCh k with backSince := none }) ∧
  (∀ (s : State) (k : Fin 12), s.tachLost k = false ∨ (s.rd (pfState k) ≠ 2 ∧ s.rd (pfState k) ≠ 3) →
    ∃ t, exec (.tachLoss k) s = .next t ∧ Frame { regs := true, dic := true, mg := true, le := true, pf := true } s t
      ∧ t = s) ∧
  (∀ (s : State) (k : Fin 12) (rpm : Nat),
    ∃ t, exec (.tachRestore k rpm) s = .next t ∧ Frame { regs := true, pf := true } s t ∧ ∃ u : State, u = (s.wr
      (pfTach k) (min rpm 65535)).setPfCh k { s.pfCh k with pulseAt := some s.time } ∧
      (u.rd (pfState k) ≠ 3 → t = u) ∧
      (u.rd (pfState k) = 3 → (u.pfCh k).backSince = none → t = u.setPfCh k
        { u.pfCh k with backSince := some s.time }) ∧
      (∀ t0, u.rd (pfState k) = 3 → (u.pfCh k).backSince = some t0 →
        t = if t0 + secs 1 ≤ s.time then (u.pfTo k 2).distribute else u.setPfCh k
          { u.pfCh k with backSince := some t0 })) ∧
  (∀ (s : State) (k : Fin 12), s.rd (pfState k) = 3 → s.inBand k = false → ∃ t, exec (.currentBandExit k) s = .next t
    ∧ Frame { regs := true, dic := true, mg := true, le := true, pf := true } s t ∧ t = s.pfFail k 4) ∧
  (∀ (s : State) (k : Fin 12), s.rd (pfState k) ≠ 3 ∨ s.inBand k = true → ∃ t, exec (.currentBandExit k) s = .next t
    ∧ Frame { regs := true, dic := true, mg := true, le := true, pf := true } s t ∧ t = s) ∧
  (∀ (s : State) (n : Fin 4) (b can : Bool), s.Inv → s.bit (PF_PCFG_ENABLE n) = true → s.rd (PF_PSTAT_STATE n) ≠ 6 →
    ((if s.bit (PF_PCFG_FAULT_POL n) then b else !b) || can) = true →
    ∃ t, exec (.driveFault n b can) s = .next t ∧
      Frame { regs := true, dic := true, mg := true, le := true, pf := true } s t ∧ ∃ u : State, u = (s.setPfCh n
        { s.pfCh n with canFault := can, clearSince := none }).putBit (PF_PSTAT_FAULT_IN n) (if s.bit
          (PF_PCFG_FAULT_POL n) then b else !b) ∧
      t = (u.wr (PF_SPEED n) 0).pfFail n 6) ∧
  (∀ (s : State) (n : Fin 4) (b can : Bool), s.Inv →
    ((if s.bit (PF_PCFG_FAULT_POL n) then b else !b) || can) = false ∨ s.bit (PF_PCFG_ENABLE n) = false ∨ s.rd
      (PF_PSTAT_STATE n) = 6 →
    ∃ t, exec (.driveFault n b can) s = .next t ∧
      Frame { regs := true, dic := true, mg := true, le := true, pf := true } s t ∧ t.bit (PF_PSTAT_FAULT_IN n) = (if
        s.bit (PF_PCFG_FAULT_POL n) then b else !b) ∧
      t.pf =
        { s.pf with ch := tset {} s.pf.ch n { s.pfCh n with canFault := can, clearSince := if ((if s.bit (PF_PCFG_FAULT_POL n) then b else !b) || can) = true then none else some ((s.pfCh n).clearSince.getD s.time) } } ∧
      RegsBut (· = (PF_PSTAT_FAULT_IN n).addr) s t) ∧
  (∀ (s : State) (t0 n : Nat), s.bit PF_PMGR_ENABLE = true → s.pf.highSince = some t0 → t0 + secs 10 ≤ s.time →
    s.fewestHours s.idlePumps = some n →
    ∃ t, exec .pumpStageIn s = .next t ∧ Frame { regs := true, pf := true } s t ∧ t = (s.queuePump n true).onPf fun y
      => { y with highSince := some s.time }) ∧
  (∀ s : State, s.bit PF_PMGR_ENABLE = false ∨ s.since s.pf.highSince (secs 10) = false ∨ s.fewestHours s.idlePumps =
    none →
    ∃ t, exec .pumpStageIn s = .next t ∧ Frame { regs := true, pf := true } s t ∧ t = s) ∧
  (∀ (s : State) (t0 n : Nat), s.bit PF_PMGR_ENABLE = true → s.sys.mode ≠ .shed → s.pf.lowSince = some t0 → t0 + secs
    300 ≤ s.time →
    s.nDuty < s.runningPumps.length →
    s.mostHours (s.runningPumps.filter fun n => s.bit (PF_PSTAT_STAGED n) && !(s.pfCh n).stopping) = some n →
    ∃ t, exec .pumpStageOut s = .next t ∧ Frame { regs := true, pf := true } s t ∧ t = s.stopPump n) ∧
  (∀ s : State, s.bit PF_PMGR_ENABLE = false ∨ s.sys.mode = .shed ∨ s.since s.pf.lowSince (secs 300) = false ∨
      s.runningPumps.length ≤ s.nDuty ∨
      s.mostHours (s.runningPumps.filter fun n => s.bit (PF_PSTAT_STAGED n) && !(s.pfCh n).stopping) = none →
    ∃ t, exec .pumpStageOut s = .next t ∧ Frame { regs := true, pf := true } s t ∧ t = s) ∧
  (∀ (s : State) (i o : Nat), s.bit PF_PMGR_ENABLE = true → s.rotationHours = true → s.rotationWaits = false →
    s.fewestHours s.idlePumps = some i → s.mostHours s.runningPumps = some o →
    ∃ t, exec .pumpRotation s = .next t ∧ Frame { regs := true, mg := true, pf := true } s t ∧ ∃ l : List (Nat ×
      Nat), l = ((upto 4).map fun n => (n, s.rd (PF_PHOURS n))) ∧
      t = (((s.queuePump i false).putBit PF_PMGR_ROT_NOW false).onPf fun y =>
        { y with rotation := some (i, o), rotNow := false, rotBase := l }).onMg fun y => { y with savedRot := l }) ∧
  (∀ s : State, s.bit PF_PMGR_ENABLE = false ∨ s.rotationHours = false ∨ s.rotationWaits = true ∨
      s.fewestHours s.idlePumps = none ∨ s.mostHours s.runningPumps = none →
    ∃ t, exec .pumpRotation s = .next t ∧ Frame { regs := true, mg := true, pf := true } s t ∧ t = s) ∧
  (∀ s : State, s.pf.hoursSaved + secs 360 ≤ s.time →
    ∃ t, exec .runHoursSave s = .next t ∧ Frame { mg := true, pf := true } s t ∧ t.pf =
      { s.pf with hoursSaved := s.time } ∧
      t.mg = { s.mg with savedHours := (upto 4).map fun n => (n, s.rd (PF_PHOURS n)), savedRot := s.pf.rotBase }) ∧
  (∀ s : State, s.time < s.pf.hoursSaved + secs 360 → ∃ t, exec .runHoursSave s = .next t ∧
    Frame { mg := true, pf := true } s t ∧ t = s) ∧
  (∀ s : State, s.Inv →
    ∃ t, exec .pfRotNowWrite s = .next t ∧ Frame { regs := true, pf := true } s t ∧ t.bit PF_PMGR_ROT_NOW = true ∧
      t.pf = { s.pf with rotNow := true } ∧
      RegsBut (· = PF_PMGR_ROT_NOW.addr) s t) ∧
  (∀ (s : State) (k : Fin 12), s.bit (pfEnable k) = false → ∃ t, exec (.channelReenable k) s = .next t ∧
    Frame { regs := true, pf := true, fb := true } s t ∧ t = s.reenable k) ∧
  (∀ (s : State) (k : Fin 12), s.bit (pfEnable k) = true → ∃ t, exec (.channelReenable k) s = .next t ∧
    Frame { regs := true, pf := true, fb := true } s t ∧ t = s) ∧
  (∀ (s : State) (k : Fin 8) (ma : Nat), s.Inv → ma ≤ 4500 →
    ∃ t, exec (.fanOvercurrent k ma) s = .next t ∧
      Frame { regs := true, dic := true, mg := true, le := true, pf := true } s t ∧ t.rd (PF_FCUR k) = ma ∧
      t.pf = { s.pf with ch := tset {} s.pf.ch (k + 4) { s.pfCh (k + 4) with ocSince := none } } ∧
      RegsBut (· = (PF_FCUR k).addr) s t) ∧
  (∀ (s : State) (k : Fin 8) (ma : Nat), s.Inv → 4500 < ma → (s.pfCh (k + 4)).ocSince = none →
    ∃ t, exec (.fanOvercurrent k ma) s = .next t ∧
      Frame { regs := true, dic := true, mg := true, le := true, pf := true } s t ∧ t.rd (PF_FCUR k) = min ma 8191 ∧
      t.pf = { s.pf with ch := tset {} s.pf.ch (k + 4) { s.pfCh (k + 4) with ocSince := some s.time } } ∧
      RegsBut (· = (PF_FCUR k).addr) s t) ∧
  ∀ (s : State) (k : Fin 8) (ma t0 : Nat), s.Inv → 4500 < ma → (s.pfCh (k + 4)).ocSince = some t0 →
    ∃ t, exec (.fanOvercurrent k ma) s = .next t ∧
      Frame { regs := true, dic := true, mg := true, le := true, pf := true } s t ∧ ∃ u : State, u = (s.wr (PF_FCUR
        k) (min ma 8191)).setPfCh (k + 4) { s.pfCh (k + 4) with ocSince := some t0 } ∧
      t = if t0 + msec 100 ≤ s.time ∧ s.rd (PF_FSTAT_STATE k) ≠ 4 then ((u.putBit (PF_FSTAT_OVERCURRENT k) true).wr
        (PF_FSPEED k) 0).pfFail (k + 4) 4 else u

/-- The states that the analog outputs, the coolant-stop inputs and the calibration minutes answer.
An analog output's readback is stored; while a driven current-mode output fails to reach its value the condition is
dated, and after 20 ms its OPEN bit is set and logged; more than 20 mA on a driven voltage-mode output sets OVERLOAD
with its record. The slow-fall evaluation runs every 100 ms. PULSE_LOST, PRESS_LOST and the arming are brought in and
the coolant stop evaluated. In SHED the flow back at half is dated, logged after 2 s with FLOW_RESTORED set, and
forgotten as it falls again. A calibration minute is taken by the ACTIVE module once a minute and forwarded, and the
calibration state of every rack saved every 10 minutes. Where a command is not due nothing changes. -/
def Obligations.CoolantInputs : Prop :=
  (∀ (s : State) (n : Fin 20) (v : Nat) (b : Bool), s.Inv →
    (s.aoDrive n).isNone = true ∨ s.rd (AO_CFG_MODE n) ≠ 0 ∨ b = false →
    ∃ t, exec (.aoOpen n v b) s = .next t ∧
      Frame { regs := true, dic := true, mg := true, le := true, pf := true } s t ∧ t.rd (AO_READ n) = min v 65535 ∧
        t.pf = { s.pf with aoOpen := terase s.pf.aoOpen n } ∧ RegsBut (· = (AO_READ n).addr) s t) ∧
  (∀ (s : State) (n : Fin 20) (v : Nat), s.Inv → (s.aoDrive n).isSome = true → s.rd (AO_CFG_MODE n) = 0 →
    ∃ t, exec (.aoOpen n v true) s = .next t ∧
      Frame { regs := true, dic := true, mg := true, le := true, pf := true } s t ∧ ∃ (u : State) (t0 : Nat), t0 =
        (tfind s.pf.aoOpen n).getD s.time ∧
      u = ((s.wr (AO_READ n) (min v 65535)).onPf fun y => { y with aoOpen := tinsert y.aoOpen n t0 }) ∧
      t = if t0 + msec 20 ≤ s.time then u.aoStatus n (AO_STAT_OPEN n) true else u) ∧
  (∀ (s : State) (n : Fin 20) (ma : Nat), s.Inv → (s.aoDrive n).isSome = true → s.rd (AO_CFG_MODE n) = 1 → 20 < ma →
    ∃ t, exec (.aoOverload n ma) s = .next t ∧ Frame { regs := true, dic := true, mg := true, le := true } s t ∧
      t.bit (AO_STAT_OVERLOAD n) = true ∧
      RegsBut (fun a => a = (AO_STAT_OVERLOAD n).addr ∨ noteReg a) s t) ∧
  (∀ (s : State) (n : Fin 20) (ma : Nat), (s.aoDrive n).isNone = true ∨ s.rd (AO_CFG_MODE n) ≠ 1 ∨ ma ≤ 20 →
    ∃ t, exec (.aoOverload n ma) s = .next t ∧ Frame { regs := true, dic := true, mg := true, le := true } s t ∧ t =
      s) ∧
  (∀ s : State, s.pf.slowAt = none →
    ∃ t, exec .slowFallEvaluation s = .next t ∧
      Frame { regs := true, dic := true, mg := true, le := true, pf := true } s t ∧ t = s.slowAll.onPf fun y =>
        { y with slowAt := some s.time }) ∧
  (∀ (s : State) (t0 : Nat), s.pf.slowAt = some t0 →
    ∃ t, exec .slowFallEvaluation s = .next t ∧
      Frame { regs := true, dic := true, mg := true, le := true, pf := true } s t ∧ t = if t0 + msec 100 ≤ s.time
        then s.slowAll.onPf fun y => { y with slowAt := some s.time } else s) ∧
  (∀ s : State, s.pf.lastPulse + msec (clampNat 2 20 (s.rd PF_STOPCFG_PULSE_GAP)) ≤ s.time →
    ∃ t, exec .pulseLost s = .next t ∧
      Frame { Parts.full with time := false, free := false, mem := false, vq := false, sn := false, fb := false, ca := false } s t ∧ t = (s.stopFlag PF_HYD_PULSE_LOST true).stopDetect) ∧
  (∀ s : State, s.time < s.pf.lastPulse + msec (clampNat 2 20 (s.rd PF_STOPCFG_PULSE_GAP)) → ∃ t, exec .pulseLost s =
    .next t ∧
      Frame { Parts.full with time := false, free := false, mem := false, vq := false, sn := false, fb := false, ca := false } s t ∧ t = s) ∧
  (∀ s : State, s.bit PF_STOPCFG_USE_CUR = true →
    ∃ t, exec .pressLost s = .next t ∧
      Frame { Parts.full with time := false, free := false, mem := false, vq := false, sn := false, fb := false, ca := false } s t ∧ t = (s.stopFlag PF_HYD_PRESS_LOST s.currentLow).stopDetect) ∧
  (∀ s : State, s.bit PF_STOPCFG_USE_CUR = false →
    ∃ t, exec .pressLost s = .next t ∧
      Frame { Parts.full with time := false, free := false, mem := false, vq := false, sn := false, fb := false, ca := false } s t ∧ ∃ n, n = (if s.dpLow then s.pf.dpRun + 1 else 0) ∧
      t = State.stopDetect ((s.onPf fun y => { y with dpRun := min n 3 }).stopFlag PF_HYD_PRESS_LOST (decide (3 ≤ n)
        || s.dp.isNone))) ∧
  (∀ s : State, ∃ t, exec .tripArm s = .next t ∧
    Frame { Parts.full with time := false, free := false, mem := false, vq := false, sn := false, fb := false, ca := false } s t ∧ t = (s.putBit PF_HYD_ARMED s.armed).stopDetect) ∧
  (∀ (s : State) (t0 : Nat), s.Inv → s.sys.mode = .shed → s.pf.restoredAt = none → s.flowBack = true →
    s.pf.restoreSince = some t0 → t0 + secs 2 ≤ s.time →
    ∃ t, exec .flowRestored s = .next t ∧ Frame { regs := true, mg := true, pf := true } s t ∧ t.bit
      PF_HYD_FLOW_RESTORED = true ∧ t.pf = { s.pf with restoredAt := some s.time } ∧
      RegsBut (fun a => a = PF_HYD_FLOW_RESTORED.addr ∨ noteReg a) s t) ∧
  (∀ s : State, s.sys.mode ≠ .shed ∨ s.pf.restoredAt.isSome = true → ∃ t, exec .flowRestored s = .next t ∧
    Frame { regs := true, mg := true, pf := true } s t ∧ t = s) ∧
  (∀ s : State, s.sys.mode = .shed → s.pf.restoredAt = none → s.flowBack = false →
    ∃ t, exec .flowRestored s = .next t ∧ Frame { regs := true, mg := true, pf := true } s t ∧ t = s.onPf fun y =>
      { y with restoreSince := none }) ∧
  (∀ (s : State) (t0 : Nat), s.sys.mode = .shed → s.pf.restoredAt = none → s.flowBack = true →
    t0 = s.pf.restoreSince.getD s.time → s.time < t0 + secs 2 →
    ∃ t, exec .flowRestored s = .next t ∧ Frame { regs := true, mg := true, pf := true } s t ∧ t = s.onPf fun y =>
      { y with restoreSince := some t0 }) ∧
  (∀ (s : State) (r : Fin 16) (a b c d e : BitVec 32), s.isActive = true → (tfind s.pf.calAt r).all (fun t0 => decide
    (t0 + secs 60 ≤ s.time)) = true →
    ∃ t, exec (.calMinute r a b c d e) s = .next t ∧
      Frame { regs := true, dic := true, mg := true, le := true, pf := true, tw := true } s t ∧ t = (s.calMinute r a
        b c d e).forward 6 2 ((s.calMinute r a b c d e).regBytes [(SN_FLOWGAIN r).addr, (SN_RTDOFF (2 * r)).addr,
          (SN_RTDOFF (2 * r + 1)).addr])) ∧
  (∀ (s : State) (r : Fin 16) (a b c d e : BitVec 32), s.isActive = false ∨ (tfind s.pf.calAt r).any (fun t0 =>
    decide (s.time < t0 + secs 60)) = true →
    ∃ t, exec (.calMinute r a b c d e) s = .next t ∧
      Frame { regs := true, dic := true, mg := true, le := true, pf := true, tw := true } s t ∧ t = s) ∧
  (∀ s : State, s.pf.calSaved + secs 600 ≤ s.time →
    ∃ t, exec .calStateSave s = .next t ∧ Frame { mg := true, pf := true } s t ∧ t.pf =
      { s.pf with calSaved := s.time } ∧ t.regs = s.regs ∧
      t.mg = { s.mg with savedCal := (upto 16).map s.calKept }) ∧
  ∀ s : State, s.time < s.pf.calSaved + secs 600 → ∃ t, exec .calStateSave s = .next t ∧
    Frame { mg := true, pf := true } s t ∧ t = s

/-- The states that the conversions, inputs, leak channels and the cold plate answer.
An enabled input with its scan on, with no change of its excitation and an offset 2 codes or more from the last, takes
its conversion, and else nothing. A wiring bit whose own condition has been absent for 1 s clears, and VALID returns
as none is left. No pulse for TIMEOUT sets NO_PULSE and 0 Hz, but with OPEN or SHORT set the last value is kept. A
digital input's new level is dated, taken, with the solenoid positions that read it, once it has held for SN_DINDEB
and forgotten when it falls back. An enabled leak channel takes its sample; a STANDBY takes its measured values alone.
A confirmed channel dry for 10 s is released by the acknowledge. The cold plate is evaluated by its flow, or by its
temperatures where the flow sensor has failed, condensation with it. CP_LOW starts the derating and its absence for 10
s ends it. Where a condition does not hold nothing changes. -/
def Obligations.SensorInputs : Prop :=
  (∀ (s : State) (n : Fin 48) (raw : BitVec 24) (o : Int) (b : Bool),
    ∃ t, exec (.rtdConversion n raw o b) s = .next t ∧
      Frame { regs := true, dic := true, mg := true, le := true, sn := true } s t ∧ t = if s.bit SN_CTRL = true ∧
        s.bit (SN_RTDCFG_ENABLE n) = true ∧ s.excChange (msec 10) = false ∧ s.dithers n o = true then s.rtdConvert n
          raw.toNat o b else s) ∧
  (∀ (s : State) (n : Fin 24) (raw : BitVec 16) (o : Int) (b : Bool),
    ∃ t, exec (.maConversion n raw o b) s = .next t ∧
      Frame { regs := true, dic := true, mg := true, le := true, sn := true } s t ∧ t = if s.bit SN_CTRL = true ∧
        s.bit (SN_MACFG_ENABLE n) = true ∧ s.excChange (msec 1) = false ∧ s.dithers (48 + n) o = true then
          s.maConvert n raw.toNat o b else s) ∧
  (∀ (s : State) (k : Fin 80) (o h : Bool), s.Inv → o = (s.bit (snOpen k) && s.since (s.snIn k).openClear (secs 1)) →
    h = (s.bit (snShort k) && s.since (s.snIn k).shortClear (secs 1)) → (o || h) = true →
    ∃ t, exec (.sensorFaultClear k) s = .next t ∧ Frame { regs := true } s t ∧ t.bit (snOpen k) = (s.bit (snOpen k)
      && !o) ∧ t.bit (snShort k) = (s.bit (snShort k) && !h) ∧
      (t.bit (snOpen k) = false → t.bit (snShort k) = false → t.bit (snValid k) = true) ∧
      RegsBut (fun a => a = (snOpen k).addr ∨ a = (snShort k).addr ∨ a = (snValid k).addr) s t) ∧
  (∀ (s : State) (k : Fin 80), (s.bit (snOpen k) && s.since (s.snIn k).openClear (secs 1)) = false →
    (s.bit (snShort k) && s.since (s.snIn k).shortClear (secs 1)) = false → ∃ t, exec (.sensorFaultClear k) s = .next
      t ∧ Frame { regs := true } s t ∧ t = s) ∧
  (∀ (s : State) (n : Fin 8), s.Inv → s.bit SN_CTRL = true → s.bit (SN_PICFG_ENABLE n) = true →
    s.bit (SN_PISTAT_OPEN n) = false → s.bit (SN_PISTAT_SHORT n) = false →
    ((s.snIn (72 + n)).stamp).getD 0 + msec (clampNat 10 60000 (s.rd (SN_PICFG_TIMEOUT n))) ≤ s.time →
    ∃ t, exec (.noPulseTimeout n) s = .next t ∧ Frame { regs := true } s t ∧ t.bit (SN_PISTAT_NO_PULSE n) = true ∧
      t.rd (SN_PIFREQ n) = 0 ∧
      RegsBut (fun a => a = (SN_PISTAT_NO_PULSE n).addr ∨ a = (SN_PIFREQ n).addr) s t) ∧
  (∀ (s : State) (n : Fin 8), s.bit SN_CTRL = false ∨ s.bit (SN_PICFG_ENABLE n) = false ∨ s.bit (SN_PISTAT_OPEN n) =
    true ∨ s.bit (SN_PISTAT_SHORT n) = true ∨
      s.time < ((s.snIn (72 + n)).stamp).getD 0 + msec (clampNat 10 60000 (s.rd (SN_PICFG_TIMEOUT n))) →
    ∃ t, exec (.noPulseTimeout n) s = .next t ∧ Frame { regs := true } s t ∧ t = s) ∧
  (∀ (s : State) (k : Fin 16) (l : Bool) (t0 : Nat), s.Inv → s.bit SN_CTRL = true → (l != bitOf (s.rd SN_DINPOL) k) ≠
    bitOf (s.rd SN_DIN) k →
    (s.snIn (80 + k)).stamp = some t0 → t0 + msec (s.rd SN_DINDEB) ≤ s.time →
    ∃ t, exec (.dinDebounce k l) s = .next t ∧ Frame { regs := true, sn := true } s t ∧ t.rd SN_DIN = withBits (s.rd
      SN_DIN) k k (b2n (l != bitOf (s.rd SN_DINPOL) k)) % 2 ^ 16 ∧
      RegsBut (fun a => a = SN_DIN.addr ∨ ∃ n, n < 36 ∧ a = (SV_CHSTAT_POS n).addr) s t) ∧
  (∀ (s : State) (k : Fin 16) (l : Bool) (t0 : Nat), s.bit SN_CTRL = true → (l != bitOf (s.rd SN_DINPOL) k) ≠ bitOf
    (s.rd SN_DIN) k →
    t0 = (s.snIn (80 + k)).stamp.getD s.time → s.time < t0 + msec (s.rd SN_DINDEB) →
    ∃ t, exec (.dinDebounce k l) s = .next t ∧ Frame { regs := true, sn := true } s t ∧ t = s.setSnIn (80 + k)
      { s.snIn (80 + k) with at_ := some s.time, stamp := some t0 }) ∧
  (∀ (s : State) (k : Fin 16) (l : Bool), s.bit SN_CTRL = true → (l != bitOf (s.rd SN_DINPOL) k) = bitOf (s.rd
    SN_DIN) k →
    ∃ t, exec (.dinDebounce k l) s = .next t ∧ Frame { regs := true, sn := true } s t ∧ t = s.setSnIn (80 + k)
      { s.snIn (80 + k) with at_ := some s.time, stamp := none }) ∧
  (∀ (s : State) (k : Fin 16) (l : Bool), s.bit SN_CTRL = false → ∃ t, exec (.dinDebounce k l) s = .next t ∧
    Frame { regs := true, sn := true } s t ∧ t = s) ∧
  (∀ (s : State) (k : Fin 32) (a b c : Nat),
    ∃ t, exec (.leakSample k a b c) s = .next t ∧
      Frame { regs := true, sys := true, dic := true, mg := true, le := true, sn := true } s t ∧ t = if s.bit
        (lkEnable k) = false then s else if s.sys.role = .standby then s.leakMeasure k a (if s.lkBreak k a b then
          0xFFFF else c) else s.leakSample k a b c) ∧
  (∀ (s : State) (k : Fin 32) (t0 : Nat), s.Inv → s.rd (lkState k) = 2 → (s.lkCh k).drySince = some t0 →
    t0 + secs 10 ≤ s.time →
    ∃ t, exec (.lkAckWrite k) s = .next t ∧ Frame { regs := true, mg := true, sn := true } s t ∧ t.rd (lkState k) = 0
      ∧ t.rd (lkCount k) = 0 ∧
      RegsBut (fun a => a = (lkState k).addr ∨ a = (TM_IN 0).addr ∨ a = (TM_IN 1).addr ∨ noteReg a) s t) ∧
  (∀ (s : State) (k : Fin 32), s.rd (lkState k) ≠ 2 ∨ s.since (s.lkCh k).drySince (secs 10) = false → ∃ t, exec
    (.lkAckWrite k) s = .next t ∧ Frame { regs := true, mg := true, sn := true } s t ∧ t = s) ∧
  (∀ (s : State) (f i o : BitVec 32) (w : Bool),
    ∃ t, exec (.cpEvaluation f i o false w) s = .next t ∧
      Frame { Parts.full with time := false, free := false, mem := false, pb := false, vq := false, fb := false, ca := false } s t ∧ t = State.cpCondense (((((((s.wrf SN_CPFLOW f).wrf SN_CPTIN i).wrf SN_CPTOUT o).putBit SN_CPSTAT_VALID true).putBit SN_CPSTAT_SENSOR_FAIL false).onSn fun y => { y with cpAt := some s.time }).cpFlowEval f i) w) ∧
  (∀ (s : State) (f i o : BitVec 32) (w : Bool),
    ∃ t, exec (.cpEvaluation f i o true w) s = .next t ∧
      Frame { Parts.full with time := false, free := false, mem := false, pb := false, vq := false, fb := false, ca := false } s t ∧ t = State.cpCondense (((((((s.wrf SN_CPFLOW f).wrf SN_CPTIN i).wrf SN_CPTOUT o).putBit SN_CPSTAT_VALID true).putBit SN_CPSTAT_SENSOR_FAIL true).onSn fun y => { y with cpAt := some s.time }).cpRiseEval i o) w) ∧
  (∀ s : State, s.bit SN_CPSTAT_CP_LOW = true → s.sn.derated = false →
    ∃ t, exec .derateStart s = .next t ∧ Frame { regs := true, mg := true, sn := true, tr := true } s t ∧ t =
      ((s.rotAbort.onSn fun y => { y with derated := true }).trMode).log 2 .derate 1 []) ∧
  (∀ s : State, s.bit SN_CPSTAT_CP_LOW = false ∨ s.sn.derated = true → ∃ t, exec .derateStart s = .next t ∧
    Frame { regs := true, mg := true, sn := true, tr := true } s t ∧ t = s) ∧
  (∀ (s : State) (t0 : Nat), s.sn.derated = true → s.bit SN_CPSTAT_CP_LOW = false → s.sn.lowClear = some t0 →
    t0 + secs 10 ≤ s.time →
    ∃ t, exec .derateEnd s = .next t ∧ Frame { regs := true, mg := true, sn := true, tr := true } s t ∧ t = ((s.onSn
      fun y => { y with derated := false }).trMode).log 2 .derate 0 []) ∧
  ∀ s : State, s.sn.derated = false ∨ s.bit SN_CPSTAT_CP_LOW = true ∨ s.since s.sn.lowClear (secs 10) = false → ∃ t,
    exec .derateEnd s = .next t ∧ Frame { regs := true, mg := true, sn := true, tr := true } s t ∧ t = s

/-- The states that the requests and the phases of a solenoid channel answer.
A write of CLOSE = 1 sets the bit and requests the closing, CLOSE = 0 is an opening request, ignored with TRIP_HELD. A
release does its work unless a leak channel of the rack is wet or confirmed. A waiting channel that may start and
whose turn it is starts its peak phase, a tripped one after it has taken its precedence; one that may not waits on. A
peak-phase sample is stored and given to the kink detector while the outputs are enabled. The peak phase that is over
ends in the hold phase; an opening ends REOPEN_MS after the switch-off; the position check runs as it is due; a wait
of 200 ms fails for the group budget. Where a command is not due nothing changes. -/
def Obligations.ValveChannels : Prop :=
  (∀ (s : State) (n : Fin 36), ∃ t, exec (.svCloseRequest n) s = .next t ∧ Frame { regs := true, sv := true } s t ∧ t
    = (s.putBit (SV_CHCMD_CLOSE n) true).closeRequest n false) ∧
  (∀ (s : State) (n : Fin 36), ∃ t, exec (.svOpenRequest n) s = .next t ∧
    Frame { regs := true, sys := true, mg := true, mb := true, pb := true, le := true, sv := true, pf := true, tr := true, tw := true } s t ∧ t = (s.openRequest n).reopenCheck) ∧
  (∀ (s : State) (n : Fin 36), s.bit (SV_CHSTAT_TRIP_HELD n) = true → ∃ t, exec (.svOpenRequest n) s = .next t ∧
    Frame { regs := true, sys := true, mg := true, mb := true, pb := true, le := true, sv := true, pf := true, tr := true, tw := true } s t ∧ t = s.reopenCheck) ∧
  (∀ (s : State) (n : Fin 36), s.chLeaks n = true → ∃ t, exec (.svReleaseWrite n) s = .next t ∧
    Frame { regs := true } s t ∧ t = s) ∧
  (∀ (s : State) (n : Fin 36), s.chLeaks n = false → ∃ t, exec (.svReleaseWrite n) s = .next t ∧
    Frame { regs := true } s t ∧ t = s.svRelease n) ∧
  (∀ (s : State) (n : Fin 36), s.svSt n = 1 → (s.svCh n).trip = false → s.mayPeak n = true → s.peakTurn n = true →
    ∃ t, exec (.peakStart n) s = .next t ∧
      Frame { regs := true, dic := true, vq := true, le := true, sv := true, tw := true } s t ∧ t = s.startPeak n) ∧
  (∀ (s : State) (n : Fin 36), s.svSt n = 1 → (s.svCh n).trip = true → (s.tripPreempt n).mayPeak n = true →
    (s.tripPreempt n).peakTurn n = true → ∃ t, exec (.peakStart n) s = .next t ∧
      Frame { regs := true, dic := true, vq := true, le := true, sv := true, tw := true } s t ∧ t = (s.tripPreempt
        n).startPeak n) ∧
  (∀ (s : State) (n : Fin 36), s.svSt n ≠ 1 → ∃ t, exec (.peakStart n) s = .next t ∧
    Frame { regs := true, dic := true, vq := true, le := true, sv := true, tw := true } s t ∧ t = s) ∧
  (∀ (s : State) (n : Fin 36) (u : State), s.svSt n = 1 → u = (if (s.svCh n).trip then s.tripPreempt n else s) →
    u.mayPeak n = false ∨ u.peakTurn n = false → ∃ t, exec (.peakStart n) s = .next t ∧
      Frame { regs := true, dic := true, vq := true, le := true, sv := true, tw := true } s t ∧ t = u) ∧
  (∀ (s : State) (n : Fin 36) (ma : Nat), s.svSt n = 2 → s.tw.outEn = true →
    ∃ t, exec (.kinkDetect n ma) s = .next t ∧ Frame { regs := true, sv := true } s t ∧ t = (s.wr (SV_CHCUR n) (min
      ma 8191)).kinkSample n ma) ∧
  (∀ (s : State) (n : Fin 36) (ma : Nat), s.svSt n ≠ 2 ∨ s.tw.outEn = false → ∃ t, exec (.kinkDetect n ma) s = .next
    t ∧ Frame { regs := true, sv := true } s t ∧ t = s) ∧
  (∀ (s : State) (n : Fin 36), s.svSt n = 2 → s.peakOver n = true → ∃ t, exec (.peakEnd n) s = .next t ∧
    Frame { regs := true, dic := true, mg := true, mb := true, vq := true, le := true, sv := true, tw := true } s t ∧
      t = (s.endPeakPhase n).svClock) ∧
  (∀ (s : State) (n : Fin 36), s.svSt n ≠ 2 ∨ s.peakOver n = false → ∃ t, exec (.peakEnd n) s = .next t ∧
    Frame { regs := true, dic := true, mg := true, mb := true, vq := true, le := true, sv := true, tw := true } s t ∧
      t = s) ∧
  (∀ (s : State) (n : Fin 36) (t0 : Nat), s.svSt n = 5 → (s.svCh n).offAt = some t0 → t0 + msec s.reopenMs ≤ s.time →
    ∃ t, exec (.openingEnd n) s = .next t ∧
      Frame { Parts.full with time := false, free := false, mem := false, sn := false, fb := false, ca := false } s t
        ∧ t = (s.endOpening n).reopenCheck) ∧
  (∀ (s : State) (n : Fin 36), s.svSt n ≠ 5 ∨ s.since (s.svCh n).offAt (msec s.reopenMs) = false → ∃ t, exec
    (.openingEnd n) s = .next t ∧
      Frame { Parts.full with time := false, free := false, mem := false, sn := false, fb := false, ca := false } s t
        ∧ t = s) ∧
  (∀ (s : State) (n : Fin 36) (t0 : Nat), (s.svCh n).posDue = some t0 → t0 + 0 ≤ s.time →
    ∃ t, exec (.posCheck n) s = .next t ∧
      Frame { regs := true, dic := true, mg := true, mb := true, le := true, sv := true, tw := true } s t ∧ t =
        (s.setSvCh n { s.svCh n with posDue := none }).posCheck n true) ∧
  (∀ (s : State) (n : Fin 36), s.since (s.svCh n).posDue 0 = false → ∃ t, exec (.posCheck n) s = .next t ∧
    Frame { regs := true, dic := true, mg := true, mb := true, le := true, sv := true, tw := true } s t ∧ t = s) ∧
  (∀ (s : State) (n : Fin 36), s.svSt n ≠ 1 ∨ s.waitNow n < msec 200 → ∃ t, exec (.groupBudgetTimeout n) s = .next t
    ∧ Frame { regs := true, dic := true, mg := true, mb := true, vq := true, le := true, sv := true, tw := true } s t
      ∧ t = s) ∧
  ∀ (s : State) (n : Fin 36), s.svSt n = 1 → msec 200 ≤ s.waitNow n →
    ∃ t, exec (.groupBudgetTimeout n) s = .next t ∧
      Frame { regs := true, dic := true, mg := true, mb := true, vq := true, le := true, sv := true, tw := true } s t
        ∧ t = s.budgetFail n

/-- The states that the tests, the protection and the sequences of the solenoid groups answer.
A due off-state visit of a group that is not on takes the group's next channel and sets the visit's time and its
successor; in a forced idle a channel that is on is passed by. An on-group visit of an off channel stores the node and
takes its reading. A forced idle that may begin switches the high side off and runs its checks, and ends after 5 ms.
Two milliseconds after switch-on a channel is checked once: a low-side current under 50 mA with more than 50 mA in the
off window is a short to ground, with no more an open load. The low-side current of an on channel is stored, and above
6 A switches it off; a group current is stored, dated while it is above 3.0 A, and after 10 ms of it the high side
switches off. A group that has passed for 1 s returns. These visits and checks run only while the diagnostics do. A
sequence starts its next step set once every earlier step has waited, and ends with the last step's wait. Where a
command is not due nothing changes. -/
def Obligations.ValveGroups : Prop :=
  (∀ (s : State) (g : Fin 9) (node rail supply : Nat), s.svDiag = true → s.rd (SV_GSTAT_HS g) ≠ 1 →
    (s.svGrp g).scanAt.all (fun t0 => decide (t0 + 125000 ≤ s.time)) = true →
    ∃ t, exec (.offStateVisit g node rail supply) s = .next t ∧
      Frame { regs := true, dic := true, mg := true, mb := true, vq := true, le := true, sv := true, tw := true } s t
        ∧ ∃ u : State, u = s.setSvGrp g
          { s.svGrp g with scanNext := ((s.svGrp g).scanNext + 1) % 4, scanAt := some s.time } ∧
      t = if s.rd (SV_GSTAT_HS g) = 2 ∧ u.svOn (s.scanChannel g) = true then u else (u.svMeasure (s.scanChannel g)
        node rail).offReading (s.scanChannel g) node rail supply) ∧
  (∀ (s : State) (g : Fin 9) (node rail supply : Nat), s.svDiag = false ∨ s.rd (SV_GSTAT_HS g) = 1 ∨ (s.svGrp
    g).scanAt.any (fun t0 => decide (s.time < t0 + 125000)) = true →
    ∃ t, exec (.offStateVisit g node rail supply) s = .next t ∧
      Frame { regs := true, dic := true, mg := true, mb := true, vq := true, le := true, sv := true, tw := true } s t
        ∧ t = s) ∧
  (∀ (s : State) (n : Fin 36) (node win periods : Nat), s.svDiag = true → s.rd (SV_GSTAT_HS ((n : Nat) / 4)) = 1 →
    s.svOn n = false →
    ∃ t, exec (.onGroupVisit n node win periods) s = .next t ∧
      Frame { regs := true, dic := true, mg := true, mb := true, vq := true, le := true, sv := true, tw := true } s t
        ∧ t = (s.wr (SV_CHNODE n) (min node 65535)).onGroupReading n node win periods) ∧
  (∀ (s : State) (n : Fin 36) (node win periods : Nat), s.svDiag = false ∨ s.rd (SV_GSTAT_HS ((n : Nat) / 4)) ≠ 1 ∨
    s.svOn n = true →
    ∃ t, exec (.onGroupVisit n node win periods) s = .next t ∧
      Frame { regs := true, dic := true, mg := true, mb := true, vq := true, le := true, sv := true, tw := true } s t
        ∧ t = s) ∧
  (∀ (s : State) (g : Fin 9) (rail supply : Nat) (p : List (Fin 4)), s.mayIdle g = true →
    ∃ t, exec (.forcedIdleTest g rail supply p) s = .next t ∧
      Frame { regs := true, dic := true, mg := true, vq := true, le := true, sv := true, tw := true } s t ∧ t =
        (((s.wr (SV_GSTAT_HS g) 2).setSvGrp g
          { s.svGrp g with idleFrom := some s.time, repeatAt := none }).idleChecks g rail supply p).gidle g) ∧
  (∀ (s : State) (g : Fin 9) (rail supply : Nat) (p : List (Fin 4)), s.mayIdle g = false → ∃ t, exec (.forcedIdleTest
    g rail supply p) s = .next t ∧
      Frame { regs := true, dic := true, mg := true, vq := true, le := true, sv := true, tw := true } s t ∧ t = s) ∧
  (∀ (s : State) (g : Fin 9) (t0 : Nat), s.rd (SV_GSTAT_HS g) = 2 → (s.svGrp g).idleFrom = some t0 → t0 + msec 5 ≤
    s.time →
    ∃ t, exec (.forcedIdleEnd g) s = .next t ∧ Frame { regs := true, sv := true } s t ∧ t = ((s.wr (SV_GSTAT_HS g)
      1).setSvGrp g { s.svGrp g with idleFrom := none, onSince := some s.time, lastIdle := s.time }).gidle g) ∧
  (∀ (s : State) (g : Fin 9), s.rd (SV_GSTAT_HS g) ≠ 2 ∨ s.since (s.svGrp g).idleFrom (msec 5) = false → ∃ t, exec
    (.forcedIdleEnd g) s = .next t ∧ Frame { regs := true, sv := true } s t ∧ t = s) ∧
  (∀ (s : State) (n : Fin 36) (low win t0 : Nat), s.svDiag = true → s.svOn n = true → (s.svCh n).onAt = some t0 → t0
    + msec 2 ≤ s.time →
    (s.svCh n).checked = false → low < 50 → 50 < win →
    ∃ t, exec (.onStateCheck n low win) s = .next t ∧
      Frame { regs := true, dic := true, mg := true, mb := true, vq := true, le := true, sv := true, tw := true } s t
        ∧ t = ((s.setSvCh n { s.svCh n with checked := true }).wr (SV_CHCUR n) (min low 8191)).svShortGnd n true) ∧
  (∀ (s : State) (n : Fin 36) (low win t0 : Nat), s.svDiag = true → s.svOn n = true → (s.svCh n).onAt = some t0 → t0
    + msec 2 ≤ s.time →
    (s.svCh n).checked = false → low < 50 → win ≤ 50 →
    ∃ t, exec (.onStateCheck n low win) s = .next t ∧
      Frame { regs := true, dic := true, mg := true, mb := true, vq := true, le := true, sv := true, tw := true } s t
        ∧ t = ((s.setSvCh n { s.svCh n with checked := true }).wr (SV_CHCUR n) (min low 8191)).svOpenLoad n true) ∧
  (∀ (s : State) (n : Fin 36) (low win t0 : Nat), s.svDiag = true → s.svOn n = true → (s.svCh n).onAt = some t0 → t0
    + msec 2 ≤ s.time →
    (s.svCh n).checked = false → 50 ≤ low →
    ∃ t, exec (.onStateCheck n low win) s = .next t ∧
      Frame { regs := true, dic := true, mg := true, mb := true, vq := true, le := true, sv := true, tw := true } s t
        ∧ t = (s.setSvCh n { s.svCh n with checked := true }).wr (SV_CHCUR n) (min low 8191)) ∧
  (∀ (s : State) (n : Fin 36) (low win : Nat), s.svDiag = false ∨ s.svOn n = false ∨ s.since (s.svCh n).onAt (msec 2)
    = false ∨ (s.svCh n).checked = true →
    ∃ t, exec (.onStateCheck n low win) s = .next t ∧
      Frame { regs := true, dic := true, mg := true, mb := true, vq := true, le := true, sv := true, tw := true } s t
        ∧ t = s) ∧
  (∀ (s : State) (n : Fin 36) (ma : Nat), s.svDiag = true → s.svOn n = true → 6000 < ma →
    ∃ t, exec (.lowSideOvercurrent n ma) s = .next t ∧
      Frame { regs := true, dic := true, mg := true, mb := true, vq := true, le := true, sv := true, tw := true } s t
        ∧ t = ((s.wr (SV_CHCUR n) (min ma 8191)).svBit n (SV_CHSTAT_OVERCURRENT n)).svFaultOff n) ∧
  (∀ (s : State) (n : Fin 36) (ma : Nat), s.svDiag = true → s.svOn n = true → ma ≤ 6000 →
    ∃ t, exec (.lowSideOvercurrent n ma) s = .next t ∧
      Frame { regs := true, dic := true, mg := true, mb := true, vq := true, le := true, sv := true, tw := true } s t
        ∧ t = s.wr (SV_CHCUR n) ma) ∧
  (∀ (s : State) (n : Fin 36) (ma : Nat), s.svDiag = false ∨ s.svOn n = false → ∃ t, exec (.lowSideOvercurrent n ma)
    s = .next t ∧
      Frame { regs := true, dic := true, mg := true, mb := true, vq := true, le := true, sv := true, tw := true } s t
        ∧ t = s) ∧
  (∀ (s : State) (g : Fin 9) (ma : Nat), s.svDiag = false → ∃ t, exec (.groupOvercurrent g ma) s = .next t ∧
    Frame { regs := true, dic := true, mg := true, le := true, sv := true } s t ∧ t = s) ∧
  (∀ (s : State) (g : Fin 9) (ma : Nat), s.svDiag = true → ma ≤ 3000 →
    ∃ t, exec (.groupOvercurrent g ma) s = .next t ∧
      Frame { regs := true, dic := true, mg := true, le := true, sv := true } s t ∧ t = ((s.wr (SV_GCUR g)
        ma).setSvGrp g { s.svGrp g with ocSince := none }).svClock) ∧
  (∀ (s : State) (g : Fin 9) (ma t0 : Nat), s.svDiag = true → 3000 < ma → (s.svGrp g).ocSince = some t0 → t0 + msec
    10 ≤ s.time →
    s.heldOff g = false →
    ∃ t, exec (.groupOvercurrent g ma) s = .next t ∧
      Frame { regs := true, dic := true, mg := true, le := true, sv := true } s t ∧ ∃ x : SvGrp, x =
        { s.svGrp g with ocSince := some t0 } ∧
      t = (((s.wr (SV_GCUR g) (min ma 8191)).setSvGrp g x).svClock).groupOver g) ∧
  (∀ (s : State) (g : Fin 9) (ma t0 : Nat), s.svDiag = true → 3000 < ma → t0 = (s.svGrp g).ocSince.getD s.time →
    s.time < t0 + msec 10 ∨ s.heldOff g = true →
    ∃ t, exec (.groupOvercurrent g ma) s = .next t ∧
      Frame { regs := true, dic := true, mg := true, le := true, sv := true } s t ∧ t = ((s.wr (SV_GCUR g) (min ma
        8191)).setSvGrp g { s.svGrp g with ocSince := some t0 }).svClock) ∧
  (∀ (s : State) (g : Fin 9) (t0 : Nat), s.svDiag = true → s.heldOff g = true → (s.svGrp g).passSince = some t0 → t0
    + secs 1 ≤ s.time →
    ∃ t, exec (.groupReturn g) s = .next t ∧ Frame { regs := true, mg := true, sv := true } s t ∧ t = (((s.wr
      (SV_GSTAT_HS g) 0).putBit (SV_GSTAT_GRP_FAULT g) false).log 7 .groupFault 0 [g]).svClock) ∧
  (∀ (s : State) (g : Fin 9), s.svDiag = false ∨ s.heldOff g = false ∨ s.since (s.svGrp g).passSince (secs 1) = false
    → ∃ t, exec (.groupReturn g) s = .next t ∧ Frame { regs := true, mg := true, sv := true } s t ∧ t = s) ∧
  (∀ (s : State) (j k : Nat) (r : List SvStep), s.sv.seqJournal = some j →
    (s.sv.steps.takeWhile fun p => p.phase == 3).length = k → s.sv.steps.drop k = r → r ≠ [] → (r.all fun p =>
      p.phase == 0) = true →
    ∃ t, exec .sequenceStepStart s = .next t ∧
      Frame { regs := true, dic := true, mg := true, mb := true, le := true, sv := true, tw := true } s t ∧ t =
        (stepSet r).foldl State.startStep (s.onSv fun y =>
          { y with steps := markSteps k (stepSet r).length y.steps })) ∧
  (∀ (s : State) (k : Nat) (r : List SvStep), (s.sv.steps.takeWhile fun p => p.phase == 3).length = k →
    s.sv.steps.drop k = r →
    s.sv.seqJournal = none ∨ r = [] ∨ (r.all fun p => p.phase == 0) = false → ∃ t, exec .sequenceStepStart s = .next
      t ∧ Frame { regs := true, dic := true, mg := true, mb := true, le := true, sv := true, tw := true } s t ∧ t =
        s) ∧
  (∀ (s : State) (i : Fin 32) (p : SvStep), s.sv.steps[(i : Nat)]? = some p → p.phase = 2 →
    p.doneAt + msec p.wait ≤ s.time → ((s.sv.steps.set i { p with phase := 3 }).all fun q => q.phase == 3) = true →
    ∃ t, exec (.sequenceWaitEnd i) s = .next t ∧
      Frame { regs := true, mg := true, mb := true, sv := true, tw := true } s t ∧ t = (s.onSv fun y =>
        { y with steps := y.steps.set i { p with phase := 3 } }).seqEnd .done 0) ∧
  (∀ (s : State) (i : Fin 32) (p : SvStep), s.sv.steps[(i : Nat)]? = some p → p.phase = 2 →
    p.doneAt + msec p.wait ≤ s.time → ((s.sv.steps.set i { p with phase := 3 }).all fun q => q.phase == 3) = false →
    ∃ t, exec (.sequenceWaitEnd i) s = .next t ∧
      Frame { regs := true, mg := true, mb := true, sv := true, tw := true } s t ∧ t = s.onSv fun y =>
        { y with steps := y.steps.set i { p with phase := 3 } }) ∧
  ∀ (s : State) (i : Fin 32), s.sv.steps[(i : Nat)]?.all (fun p => p.phase != 2 || decide (s.time < p.doneAt + msec
    p.wait)) = true → ∃ t, exec (.sequenceWaitEnd i) s = .next t ∧
      Frame { regs := true, mg := true, mb := true, sv := true, tw := true } s t ∧ t = s

/-- The states that frames, buffers, locks and recovery of a field bus channel answer.
A frame on a channel in INIT or bus-off changes nothing; on another an errored frame raises REC by 1 where it counts
and by 8 for each further event, and a good one lowers it by 1, from above 127 to a free value of 119 to 127, and is
handled and forwarded, or in bus monitoring feeds the counters alone. A free bus starts what the channel chooses, or
nothing. The end of an attempt clears the current one, lowers TEC by 1 or raises it by 8 but for the exceptions,
updates the confinement state and then ends its buffer, mirror entry, firmware frame or reference, a buffer whose
attempt went bus-off keeping its message; with none under way nothing changes. Recovery that has run clears the
counters and the marks of copied frames and makes the channel error-active; RECOVER of a bus-off channel sets
RECOVERING. REQ requests its buffer; ABORT withdraws a pending one, lets a sending one end and leaves any other;
clearing INIT leaves it, or keeps it with SCHED_BAD and a record for a bad schedule; a read of word 0 returns it and
locks, of word 17 returns it and releases, and a lock of 1 ms is released with LOCK_TO. Out of these cases nothing
changes. -/
def Obligations.FieldBusFrames : Prop :=
  (∀ (s : State) (n : Fin 4) (f : CanFrame) (e : RxEvents) (m : Nat), s.bit (FB_CTRL_INIT n) = true ∨ s.rd
    (FB_STAT_FCS n) = 2 →
    ∃ t, exec (.canFrameReceive n f e m) s = .next t ∧
      Frame { Parts.full with time := false, mem := false, mb := false, pb := false, sv := false, sn := false, tr := false, ca := false } s t ∧ t = s) ∧
  (∀ (s : State) (n : Fin 4) (f : CanFrame) (e : RxEvents) (m : Nat), s.bit (FB_CTRL_INIT n) = false → s.rd
    (FB_STAT_FCS n) ≠ 2 → e.ok = false →
    ∃ t, exec (.canFrameReceive n f e m) s = .next t ∧
      Frame { Parts.full with time := false, mem := false, mb := false, pb := false, sv := false, sn := false, tr := false, ca := false } s t ∧ t = (s.wr (FB_STAT_REC n) (min 255 (s.rd (FB_STAT_REC n) + b2n e.one + 8 * e.eights))).fcsUpdate n) ∧
  (∀ (s : State) (n : Fin 4) (f : CanFrame) (e : RxEvents) (m : Nat), s.bit (FB_CTRL_INIT n) = false → s.rd
    (FB_STAT_FCS n) ≠ 2 → e.ok = true →
    s.rd (FB_STAT_REC n) ≤ 127 →
    ∃ t, exec (.canFrameReceive n f e m) s = .next t ∧
      Frame { Parts.full with time := false, mem := false, mb := false, pb := false, sv := false, sn := false, tr := false, ca := false } s t ∧ ∃ u : State, u = (s.wr (FB_STAT_REC n) (min 255 (s.rd (FB_STAT_REC n) - 1 + 8 * e.eights))).fcsUpdate n ∧
      t = if u.bit (FB_CTRL_MONITOR n) then u else (u.rxFrame n f m).forward 4 0 (linkCan n f m)) ∧
  (∀ (s : State) (n : Fin 4) (f : CanFrame) (e : RxEvents) (m : Nat), s.bit (FB_CTRL_INIT n) = false → s.rd
    (FB_STAT_FCS n) ≠ 2 → e.ok = true →
    127 < s.rd (FB_STAT_REC n) →
    ∃ t, exec (.canFrameReceive n f e m) s = .next t ∧
      Frame { Parts.full with time := false, mem := false, mb := false, pb := false, sv := false, sn := false, tr := false, ca := false } s t ∧ ∃ u : State, u = ((s.wr (FB_STAT_REC n) (min 255 (119 + s.freeNat % 9 + 8 * e.eights))).drew).fcsUpdate n ∧
      t = if u.bit (FB_CTRL_MONITOR n) then u else (u.rxFrame n f m).forward 4 0 (linkCan n f m)) ∧
  (∀ (s : State) (n : Fin 4) (x : FbSrc) (e : Bool), s.txChoice n = some (x, e) → ∃ t, exec (.canTxStart n) s = .next
    t ∧ Frame { regs := true, fb := true } s t ∧ t = s.txBegin n x e) ∧
  (∀ (s : State) (n : Fin 4), s.txChoice n = none → ∃ t, exec (.canTxStart n) s = .next t ∧
    Frame { regs := true, fb := true } s t ∧ t = s) ∧
  (∀ (s : State) (n : Fin 4) (x : FbSrc) (e : TxEvents), (s.fbCh n).cur = some x →
    ∃ t, exec (.canTxComplete n true e) s = .next t ∧
      Frame { regs := true, dic := true, mg := true, le := true, fb := true, tw := true } s t ∧ ∃ u v : State,
      u = s.setFbCh n
        { s.fbCh n with cur := none, suspEnd := if s.rd (FB_STAT_FCS n) = 1 then s.time + (8 * s.nominalBit n + 3) / 4 else 0 } ∧
      v = ((((u.wr (FB_STAT_TEC n) (min 511 (s.rd (FB_STAT_TEC n) - 1 + 8 * e.eights))).wr (FB_STAT_ACK_RUN n)
        0).putBit (FB_STAT_ALONE n) false).fcsUpdate n) ∧
      (∀ m, x = .buf m → t = (v.mbDone n m true e).forwardTx n m) ∧ (∀ i, x = .mirror i → t = v.mirrorDone n i true
        e.lost) ∧
      (x = .fw → t = v.fwDone n true) ∧ ∀ q sof, x = .ref q sof → t = v.refDone n q sof) ∧
  (∀ (s : State) (n : Fin 4) (x : FbSrc) (e : TxEvents), (s.fbCh n).cur = some x →
    ∃ t, exec (.canTxComplete n false e) s = .next t ∧
      Frame { regs := true, dic := true, mg := true, le := true, fb := true, tw := true } s t ∧ ∃ (u v : State) (tec
        : Nat),
      u = s.setFbCh n
        { s.fbCh n with cur := none, suspEnd := if s.rd (FB_STAT_FCS n) = 1 ∧ e.lost = false then s.time + (8 * s.nominalBit n + 3) / 4 else 0 } ∧
      tec = s.rd (FB_STAT_TEC n) + (if e.stuff = true ∨ e.lost = true ∨ (e.ack = true ∧ s.rd (FB_STAT_FCS n) = 1 ∧
        e.dominant = false) then 0 else 8) ∧
      v = (u.wr (FB_STAT_TEC n) (min 511 (tec + 8 * e.eights))).fcsUpdate n ∧
      (∀ m, x = .buf m → v.rd (FB_STAT_FCS n) = 2 → t = (v.mbBusOff n m).forwardTx n m) ∧
      (∀ m, x = .buf m → v.rd (FB_STAT_FCS n) ≠ 2 → t = (v.mbError n m e).forwardTx n m) ∧
      (∀ i, x = .mirror i → t = v.mirrorDone n i false e.lost) ∧
      (x = .fw → t = v.fwDone n false) ∧ ∀ q sof, x = .ref q sof → t = v.refMissed n q) ∧
  (∀ (s : State) (n : Fin 4) (ok : Bool) (e : TxEvents), (s.fbCh n).cur = none → ∃ t, exec (.canTxComplete n ok e) s
    = .next t ∧ Frame { regs := true, dic := true, mg := true, le := true, fb := true, tw := true } s t ∧ t = s) ∧
  (∀ (s : State) (n : Fin 4), s.bit (FB_STAT_RECOVERING n) = false → ∃ t, exec (.canRecoveryDone n) s = .next t ∧
    Frame { regs := true, dic := true, mg := true, le := true, fb := true } s t ∧ t = s) ∧
  (∀ (s : State) (n : Fin 4), s.bit (FB_STAT_RECOVERING n) = true →
    ∃ t, exec (.canRecoveryDone n) s = .next t ∧
      Frame { regs := true, dic := true, mg := true, le := true, fb := true } s t ∧ ∃ u : State, u = (upto 64).foldl
        (fun s m => s.setFbBuf n m { s.fbBuf n m with copied := false }) (((s.putBit (FB_STAT_RECOVERING n) false).wr
          (FB_STAT_TEC n) 0).wr (FB_STAT_REC n) 0) ∧
      t = (u.setFbCh n { u.fbCh n with unseen := [], seen := 0 }).fcsChange n 0) ∧
  (∀ (s : State) (n : Fin 4), s.Inv → s.rd (FB_STAT_FCS n) = 2 →
    ∃ t, exec (.fbRecoverWrite n) s = .next t ∧ Frame { regs := true } s t ∧ t.bit (FB_STAT_RECOVERING n) = true ∧
      RegsBut (· = (FB_STAT_RECOVERING n).addr) s t) ∧
  (∀ (s : State) (n : Fin 4), s.rd (FB_STAT_FCS n) ≠ 2 → ∃ t, exec (.fbRecoverWrite n) s = .next t ∧
    Frame { regs := true } s t ∧ t = s) ∧
  (∀ (s : State) (n : Fin 4) (m : Fin 64), ∃ t, exec (.fbReqWrite n m) s = .next t ∧
    Frame { regs := true, fb := true } s t ∧ t = s.mbRequest n m) ∧
  (∀ (s : State) (n : Fin 4) (m : Fin 64), s.Inv → s.rd (FB_MBSTAT_STATE n m) = 1 →
    ∃ t, exec (.fbAbortWrite n m) s = .next t ∧ Frame { regs := true, fb := true } s t ∧ t.rd (FB_MBSTAT_STATE n m) =
      0 ∧ RegsBut (· = (FB_MBSTAT_STATE n m).addr) s t) ∧
  (∀ (s : State) (n : Fin 4) (m : Fin 64), s.rd (FB_MBSTAT_STATE n m) = 2 →
    ∃ t, exec (.fbAbortWrite n m) s = .next t ∧ Frame { regs := true, fb := true } s t ∧ t = s.setFbBuf n m
      { s.fbBuf n m with ending := true }) ∧
  (∀ (s : State) (n : Fin 4) (m : Fin 64), s.rd (FB_MBSTAT_STATE n m) ≠ 1 → s.rd (FB_MBSTAT_STATE n m) ≠ 2 → ∃ t,
    exec (.fbAbortWrite n m) s = .next t ∧ Frame { regs := true, fb := true } s t ∧ t = s) ∧
  (∀ (s : State) (n : Fin 4), s.Inv → s.bit (FB_CTRL_INIT n) = true → s.bit (FB_CTRL_TT_EN n) = false ∨ s.schedOk n =
    true →
    ∃ t, exec (.fbInitClear n) s = .next t ∧ Frame { regs := true, mg := true } s t ∧ t.bit (FB_CTRL_INIT n) = false
      ∧ t.bit (FB_STAT_SCHED_BAD n) = false ∧
      RegsBut (fun a => a = (FB_CTRL_INIT n).addr ∨ a = (FB_STAT_SCHED_BAD n).addr) s t) ∧
  (∀ (s : State) (n : Fin 4), s.Inv → s.bit (FB_CTRL_INIT n) = true → s.bit (FB_CTRL_TT_EN n) = true → s.schedOk n =
    false →
    ∃ t, exec (.fbInitClear n) s = .next t ∧ Frame { regs := true, mg := true } s t ∧ t.bit (FB_CTRL_INIT n) = true ∧
      t.bit (FB_STAT_SCHED_BAD n) = true ∧
      RegsBut (fun a => a = (FB_STAT_SCHED_BAD n).addr ∨ noteReg a) s t) ∧
  (∀ (s : State) (n : Fin 4), s.bit (FB_CTRL_INIT n) = false → ∃ t, exec (.fbInitClear n) s = .next t ∧
    Frame { regs := true, mg := true } s t ∧ t = s) ∧
  (∀ (s : State) (n : Fin 4) (m : Fin 64), s.Inv →
    ∃ t, exec (.mbLockRead n m) s = .next t ∧ Frame { regs := true, mb := true, fb := true } s t ∧ (∃ u : State, t =
      u.reply { body := leBytes 4 (s.rd (FB_MBDATA n m 0)) }) ∧ t.bit (FB_MBSTAT_LOCKED n m) = true ∧ RegsBut (· =
        (FB_MBSTAT_LOCKED n m).addr) s t) ∧
  (∀ (s : State) (n : Fin 4) (m : Fin 64), s.Inv →
    ∃ t, exec (.mbReleaseRead n m) s = .next t ∧ Frame { regs := true, mb := true, fb := true } s t ∧ (∃ u : State, t
      = u.reply { body := leBytes 4 (s.rd (FB_MBDATA n m 17)) }) ∧ t.bit (FB_MBSTAT_LOCKED n m) = false ∧ RegsBut (·
        = (FB_MBSTAT_LOCKED n m).addr) s t) ∧
  (∀ (s : State) (n : Fin 4) (m : Fin 64), s.bit (FB_MBSTAT_LOCKED n m) = false ∨ s.since (s.fbBuf n m).lockAt (msec
    1) = false →
    ∃ t, exec (.mbLockTimeout n m) s = .next t ∧ Frame { regs := true, dic := true, le := true, fb := true } s t ∧ t
      = s) ∧
  ∀ (s : State) (n : Fin 4) (m : Fin 64) (t0 : Nat), s.bit (FB_MBSTAT_LOCKED n m) = true → (s.fbBuf n m).lockAt =
    some t0 →
    t0 + msec 1 ≤ s.time →
    ∃ t, exec (.mbLockTimeout n m) s = .next t ∧ Frame { regs := true, dic := true, le := true, fb := true } s t ∧ ∃
      u : State, u.regs = ((s.putBit (FB_MBSTAT_LOCKED n m) false).putBit (FB_MBSTAT_LOCK_TO n m) true).regs ∧ t =
        u.fbPost n 8

/-- The states that the schedule, the node supervision and the drives of a field bus channel answer.
On a channel with TT_EN set and out of INIT a new basic cycle sets the cycle counter's registers: out of bus
monitoring the window and the supervision interval under way end, the cycle starts at its nominal time with its
command frames, and the reference is sent where the channel may send it in its window, or the miss is counted, logged,
posted and forwarded. A window mark that is reached moves to the next column and, with the bus idle, starts what the
channel chooses. A supervision interval counts the expected nodes not seen. A configuration request unanswered for 20
cycles is sent again, and after two repetitions its node is unconfigured. A CANopen drive's start-up begins, its
channel supervised by TPDO1; the RPDO1 of a drive that has started up is sent first, after 20 ms, and on a change
after 2 ms. Where a command is not due nothing changes. -/
def Obligations.FieldBusSchedule : Prop :=
  (∀ (s : State) (n : Fin 4) (ref : Option Nat), s.bit (FB_CTRL_TT_EN n) = false ∨ s.bit (FB_CTRL_INIT n) = true ∨
      (s.fbCh n).cycle = some (s.time / s.fbLen n) → ∃ t, exec (.basicCycleStart n ref) s = .next t ∧
        Frame { regs := true, dic := true, mg := true, le := true, pf := true, fb := true, tw := true } s t ∧ t = s) ∧
  (∀ (s : State) (n : Fin 4) (ref : Option Nat) (q : Nat), s.bit (FB_CTRL_TT_EN n) = true → s.bit (FB_CTRL_INIT n) =
    false →
    q = s.time / s.fbLen n → (s.fbCh n).cycle ≠ some q →
    ∃ t, exec (.basicCycleStart n ref) s = .next t ∧
      Frame { regs := true, dic := true, mg := true, le := true, pf := true, fb := true, tw := true } s t ∧ ∃ u v w :
        State,
      u = (s.wr (FB_CYCLE_MATRIX n) (q / 64)).wr (FB_CYCLE_COUNT n) (q % 64) ∧ v = (u.closeWindow n).endInterval n ∧
      w = (v.setFbCh n
        { v.fbCh n with cycle := some q, base := q * s.fbLen n, refOk := false, col := 0 }).commandFrames n ∧
      (u.bit (FB_CTRL_MONITOR n) = true → t = u) ∧
      (u.bit (FB_CTRL_MONITOR n) = false → ref = none → t = w.refMissed n q) ∧
      (∀ d, u.bit (FB_CTRL_MONITOR n) = false → ref = some d → w.mayRefer n (q * s.fbLen n) d = false → t =
        w.refMissed n q) ∧
      ∀ d, u.bit (FB_CTRL_MONITOR n) = false → ref = some d → w.mayRefer n (q * s.fbLen n) d = true →
        t = w.txBegin n (.ref q (q * s.fbLen n + d)) false) ∧
  (∀ (s : State) (n : Fin 4) (i : Bool), (s.fbCh n).cycle = none ∨ s.bit (FB_CTRL_TT_EN n) = false ∨ s.bit
    (FB_CTRL_INIT n) = true ∨
      s.fbCols n ≤ (s.fbCh n).col + 1 ∨ s.time < (s.fbCh n).base + s.fbMark n ((s.fbCh n).col + 1) →
    ∃ t, exec (.windowMark n i) s = .next t ∧ Frame { regs := true, fb := true } s t ∧ t = s) ∧
  (∀ (s : State) (n : Fin 4) (q : Nat), (s.fbCh n).cycle = some q → s.bit (FB_CTRL_TT_EN n) = true →
    s.bit (FB_CTRL_INIT n) = false → (s.fbCh n).col + 1 < s.fbCols n →
    (s.fbCh n).base + s.fbMark n ((s.fbCh n).col + 1) ≤ s.time →
    ∃ t, exec (.windowMark n false) s = .next t ∧ Frame { regs := true, fb := true } s t ∧ t = (s.closeWindow
      n).setFbCh n { (s.closeWindow n).fbCh n with col := (s.fbCh n).col + 1 }) ∧
  (∀ (s : State) (n : Fin 4) (q : Nat), (s.fbCh n).cycle = some q → s.bit (FB_CTRL_TT_EN n) = true →
    s.bit (FB_CTRL_INIT n) = false → (s.fbCh n).col + 1 < s.fbCols n →
    (s.fbCh n).base + s.fbMark n ((s.fbCh n).col + 1) ≤ s.time →
    ∃ t, exec (.windowMark n true) s = .next t ∧ Frame { regs := true, fb := true } s t ∧ ∃ u : State, u =
      (s.closeWindow n).setFbCh n { (s.closeWindow n).fbCh n with col := (s.fbCh n).col + 1 } ∧
      (u.txChoice n = none → t = u) ∧ ∀ y e, u.txChoice n = some (y, e) → t = u.txBegin n y e) ∧
  (∀ (s : State) (n : Fin 4) (q : Nat), s.supInterval n = some q → (s.fbCh n).supAt ≠ some q →
    ∃ t, exec (.nodeSupervisionInterval n) s = .next t ∧
      Frame { regs := true, dic := true, mg := true, le := true, pf := true, fb := true } s t ∧ ∃ u : State, u =
        ((upto 64).filter fun k => s.nodeExpected n k && !bitOf (s.fbCh n).seen k).foldl (fun s k => s.nodeMissed n
          k) s ∧
      t = u.setFbCh n { u.fbCh n with seen := 0, supAt := some q }) ∧
  (∀ (s : State) (n : Fin 4), s.supInterval n = none ∨ s.supInterval n = (s.fbCh n).supAt → ∃ t, exec
    (.nodeSupervisionInterval n) s = .next t ∧
      Frame { regs := true, dic := true, mg := true, le := true, pf := true, fb := true } s t ∧ t = s) ∧
  (∀ (s : State) (n : Fin 4) (k : Fin 64) (r : CfgReq),
    ((s.fbCh n).reqs.find? fun r => r.node == k.val && decide (r.sent + 20 * s.fbLen n ≤ s.time)) = some r → r.tries
      < 2 →
    ∃ t, exec (.configReqRetry n k) s = .next t ∧ Frame { regs := true, mg := true, fb := true } s t ∧ t = (s.setFbCh
      n { s.fbCh n with reqs := (s.fbCh n).reqs.filter fun q => q != r }).configReq n k r.index r.value (r.tries +
        1)) ∧
  (∀ (s : State) (n : Fin 4) (k : Fin 64) (r : CfgReq),
    ((s.fbCh n).reqs.find? fun r => r.node == k.val && decide (r.sent + 20 * s.fbLen n ≤ s.time)) = some r → 2 ≤
      r.tries →
    ∃ t, exec (.configReqRetry n k) s = .next t ∧ Frame { regs := true, mg := true, fb := true } s t ∧ ∃ u : State, u
      = s.setFbCh n { s.fbCh n with reqs := (s.fbCh n).reqs.filter fun q => q != r } ∧
      t = (u.setFbCh n { u.fbCh n with unconfigured := withBits (u.fbCh n).unconfigured k k 1 }).log 10
        .nodeUnconfigured 1 [n, k, r.index]) ∧
  (∀ (s : State) (n : Fin 4) (k : Fin 64), ((s.fbCh n).reqs.find? fun r => r.node == k.val && decide (r.sent + 20 *
    s.fbLen n ≤ s.time)) = none →
    ∃ t, exec (.configReqRetry n k) s = .next t ∧ Frame { regs := true, mg := true, fb := true } s t ∧ t = s) ∧
  (∀ (s : State) (p n : Fin 4) (k : Fin 64) (ms rt : Nat), s.rd (FB_CTRL_PROTO n) = 2 → s.bit (FB_CTRL_TT_EN n) =
    false → 1 ≤ k.val →
    ∃ t, exec (.canopenDriveStartup p n k ms rt) s = .next t ∧ Frame { regs := true, fb := true } s t ∧ ∃ d : Drive,
      d.ch = n.val ∧ d.node = k.val ∧ d.maxSpeed = ms ∧ d.rated = rt ∧ d.velocity = 0 ∧
      d.steps = startupSteps k ∧ d.sdo = none ∧ d.status = 0 ∧ d.sentAt = none ∧ d.emcy = false ∧
      t = (s.wr (FB_NODEBASE n) 0x180).driveRun p d) ∧
  (∀ (s : State) (p n : Fin 4) (k : Fin 64) (ms rt : Nat), s.rd (FB_CTRL_PROTO n) ≠ 2 ∨ s.bit (FB_CTRL_TT_EN n) =
    true ∨ k.val = 0 →
    ∃ t, exec (.canopenDriveStartup p n k ms rt) s = .next t ∧ Frame { regs := true, fb := true } s t ∧ t = s) ∧
  (∀ (s : State) (p : Fin 4) (d : Drive) (v : Nat), tfind s.fb.drives p = some d → s.rd (PF_PCFG_IF p) = 2 → d.steps
    = [] → d.sdo = none →
    v = s.driveVelocity p d →
    d.sentAt.all (fun t0 => decide (t0 + msec 20 ≤ s.time) || ((d.sentTarget != v || d.sentControl != d.control) &&
      decide (t0 + msec 2 ≤ s.time))) = true →
    ∃ t, exec (.rpdoTransmit p) s = .next t ∧ Frame { fb := true } s t ∧ t = ((s.onFb fun y =>
      { y with drives := tinsert y.drives p { d with sentTarget := v, sentControl := d.control, sentAt := some s.time } }).fwSend d.ch (rpdo1 d.node d.control v))) ∧
  (∀ (s : State) (p : Fin 4) (d : Drive) (v : Nat), tfind s.fb.drives p = some d → v = s.driveVelocity p d →
    s.rd (PF_PCFG_IF p) ≠ 2 ∨ d.steps ≠ [] ∨ d.sdo ≠ none ∨
      d.sentAt.any (fun t0 => decide (s.time < t0 + msec 20) && ((d.sentTarget == v && d.sentControl == d.control) ||
        decide (s.time < t0 + msec 2))) = true →
    ∃ t, exec (.rpdoTransmit p) s = .next t ∧ Frame { fb := true } s t ∧ t = s) ∧
  ∀ (s : State) (p : Fin 4), tfind s.fb.drives p = none → ∃ t, exec (.rpdoTransmit p) s = .next t ∧
    Frame { fb := true } s t ∧ t = s

/-- The states that doorbell writes, decisions, ends of interrupt and timers answer.
A doorbell write with bits 31:11 equal to 0 posts its source and any other is counted and discarded. A delivery
decision runs with the controller enabled for a target that exists and waits in no stalled read. An end of interrupt
by its own core pops its target's stack and gives back the sources taken at that level, or sets EOI_ERR on an empty
one, and with bit 31 set posts the source anew where it is a level source still asserted; by another initiator, and
for target 1, it changes nothing. A group's timer fires TIME microseconds after the group's first event; a moderation
interval that has passed ends. Where a command is not due nothing changes. -/
def Obligations.DoorbellController : Prop :=
  (∀ (s : State) (v : BitVec 32), v.toNat < 2048 → ∃ t, exec (.doorbellWrite v) s = .next t ∧
    Frame { regs := true, dic := true, le := true } s t ∧ t = s.post v.toNat) ∧
  (∀ (s : State) (v : BitVec 32), s.Inv → 2048 ≤ v.toNat →
    ∃ t, exec (.doorbellWrite v) s = .next t ∧ Frame { regs := true, dic := true, le := true } s t ∧ t.rd DIC_BADDB =
      min (s.rd DIC_BADDB + 1) (2 ^ 16 - 1) ∧
      RegsBut (· = DIC_BADDB.addr) s t) ∧
  (∀ (s : State) (g : Fin 16) (t0 : Nat), s.bit (DIC_GCFG_EN g) = true → tfind s.dic.grpStart g = some t0 →
    t0 + usec (clampNat 1 1000 (s.rd (DIC_GCFG_TIME g))) ≤ s.time → ∃ t, exec (.groupTimerFire g) s = .next t ∧
      Frame { regs := true, dic := true } s t ∧ t = s.groupFire g) ∧
  (∀ (s : State) (g : Fin 16), s.bit (DIC_GCFG_EN g) = false ∨ s.since (tfind s.dic.grpStart g) (usec (clampNat 1
    1000 (s.rd (DIC_GCFG_TIME g)))) = false → ∃ t, exec (.groupTimerFire g) s = .next t ∧
      Frame { regs := true, dic := true } s t ∧ t = s) ∧
  (∀ (s : State) (k : Fin 9), s.bit DIC_CTRL_ENABLE = true → k.val ≠ 1 → s.readStalled k.val = false → ∃ t, exec
    (.deliveryDecision k) s = .next t ∧ Frame { regs := true, dic := true } s t ∧ t = s.decide_ k.val) ∧
  (∀ (s : State) (k : Fin 9), s.bit DIC_CTRL_ENABLE = false ∨ k.val = 1 ∨ s.readStalled k.val = true → ∃ t, exec
    (.deliveryDecision k) s = .next t ∧ Frame { regs := true, dic := true } s t ∧ t = s) ∧
  (∀ (s : State) (k : Fin 9) (i : Initiator) (v : BitVec 32) (a : Nat) (r : List Nat), k.val ≠ 1 → mayEoi i k.val =
    true →
    s.stack k.val = a :: r → v.toNat < 2 ^ 31 → ∃ t, exec (.eoiWrite k i v) s = .next t ∧
      Frame { regs := true, dic := true, le := true } s t ∧ t = (s.giveBack k.val a).setStack k.val r) ∧
  (∀ (s : State) (k : Fin 9) (i : Initiator) (v : BitVec 32), s.Inv → k.val ≠ 1 → mayEoi i k.val = true →
    s.stack k.val = [] → v.toNat < 2 ^ 31 →
    ∃ t, exec (.eoiWrite k i v) s = .next t ∧ Frame { regs := true, dic := true, le := true } s t ∧ t.bit
      (DIC_CSTAT_EOI_ERR k.val) = true ∧ RegsBut (· = (DIC_CSTAT_EOI_ERR k.val).addr) s t) ∧
  (∀ (s : State) (k : Fin 9) (i : Initiator) (v : BitVec 32) (c : Nat), k.val ≠ 1 → mayEoi i k.val = true → 2 ^ 31 ≤
    v.toNat →
    c = bitsOf v.toNat 10 0 →
    ∃ t, exec (.eoiWrite k i v) s = .next t ∧ Frame { regs := true, dic := true, le := true } s t ∧ ∃ u : State,
      (s.stack k.val = [] → u = s.putBit (DIC_CSTAT_EOI_ERR k.val) true) ∧
      (∀ a r, s.stack k.val = a :: r → u = (s.giveBack k.val a).setStack k.val r) ∧
      t = if levelSource c = true ∧ u.levelAsserted c = true then u.post c else u) ∧
  (∀ (s : State) (k : Fin 9) (i : Initiator) (v : BitVec 32), k.val = 1 ∨ mayEoi i k.val = false → ∃ t, exec
    (.eoiWrite k i v) s = .next t ∧ Frame { regs := true, dic := true, le := true } s t ∧ t = s) ∧
  (∀ (s : State) (k : Fin 9), s.since (tfind s.dic.lastMod k.val) (s.modInterval k.val) = false → ∃ t, exec
    (.moderationIntervalEnd k) s = .next t ∧ Frame { dic := true } s t ∧ t = s) ∧
  ∀ (s : State) (k : Fin 9) (t0 : Nat), tfind s.dic.lastMod k.val = some t0 → t0 + s.modInterval k.val ≤ s.time →
    ∃ t, exec (.moderationIntervalEnd k) s = .next t ∧ Frame { dic := true } s t ∧ t = s.onDic fun y =>
      { y with lastMod := terase s.dic.lastMod k.val }

/-- The states that the ownership line, the claim and the heartbeats answer.
The class of a sample of the line is owned for high and low, free for low and high, invalid for equal levels and
transition with a level between. Without supply the line commands change nothing. Else an invalid or transition line
is entered with its class and the line fault, once; a valid one is entered with its record as it returns and the boot
watchdog counting afresh, and then a module that drives a line that reads free has the line fault, and a STANDBY that
has lost its partner and reads it owned is isolated. A module that may claim takes the line, its outputs enabled: from
BOOT, in step, or from the tables; one that may not does nothing. The release guard ends, after a release with the
reply KS_ABORTED. A heartbeat goes out every 250 microseconds while the twin is enabled, and one received is handled.
With the twin enabled, 3 ms without a heartbeat set HB_LOST once and let the held replies go: a STANDBY is then
isolated where it reads the line owned, and any other role resets the link. -/
def Obligations.OwnershipLine : Prop :=
  (∀ (s : State) (h l : PinLevel), s.sys.mode = .off ∨ lineClass h l < 2 → ∃ t, exec (.lineInvalid h l) s = .next t ∧
    Frame { regs := true, dic := true, mg := true, le := true } s t ∧ t = s) ∧
  (∀ (s : State) (h l : PinLevel) (c : Nat), s.sys.mode ≠ .off → c = lineClass h l → 2 ≤ c → s.rd TW_STATUS_LINE < 2 →
    ∃ t, exec (.lineInvalid h l) s = .next t ∧ Frame { regs := true, dic := true, mg := true, le := true } s t ∧ t =
      (s.setLine c (h == .high) (l == .high)).lineFault) ∧
  (∀ (s : State) (h l : PinLevel) (c : Nat), s.sys.mode ≠ .off → c = lineClass h l → 2 ≤ c → 2 ≤ s.rd TW_STATUS_LINE →
    ∃ t, exec (.lineInvalid h l) s = .next t ∧ Frame { regs := true, dic := true, mg := true, le := true } s t ∧ t =
      s.setLine c (h == .high) (l == .high)) ∧
  (lineClass .high .low = 1 ∧ lineClass .low .high = 0 ∧ lineClass .high .high = 2 ∧ lineClass .low .low = 2) ∧
  (∀ x : PinLevel, lineClass .between x = 3 ∧ lineClass x .between = 3) ∧
  (∀ (s : State) (o : Bool), s.sys.mode = .off → ∃ t, exec (.lineValid o) s = .next t ∧
    Frame { regs := true, sys := true, dic := true, mg := true, mb := true, le := true, tw := true } s t ∧ t = s) ∧
  (∀ (s : State) (o : Bool), s.sys.mode ≠ .off →
    ∃ t, exec (.lineValid o) s = .next t ∧
      Frame { regs := true, sys := true, dic := true, mg := true, mb := true, le := true, tw := true } s t ∧ ∃ u v w
        : State, u = s.setLine (b2n o) o (!o) ∧
      v = (if 2 ≤ s.rd TW_STATUS_LINE then u.log 12 .lineValid 0 [b2n o] else u) ∧
      w = (if v.mg.watchdogHeld then v.onMg fun y =>
        { y with watchdogHeld := false, watchdog := y.watchdog.map fun _ => s.time } else v) ∧
      t = if s.bit TW_STATUS_DRIVING = true ∧ o = false then w.lineFault else w.isolateStandby) ∧
  (∀ (s : State) (f : Nat), s.mayClaim f = false → ∃ t, exec (.claim f) s = .next t ∧ Frame .full s t ∧ t = s) ∧
  (∀ (s : State) (f : Nat), s.mayClaim f = true → s.sys.mode = .boot →
    ∃ t, exec (.claim f) s = .next t ∧ Frame .full s t ∧ ∃ u : State, u = s.claimBoot ∧ t = ((u.takeLine f).onTw fun
      y => { y with graceEnd := u.tw.graceEnd, outEn := true }).svTakeOver) ∧
  (∀ (s : State) (f : Nat), s.mayClaim f = true → s.sys.mode ≠ .boot → s.sys.role = .standby → s.bit
    TW_STATUS_IN_STEP = true →
    ∃ t, exec (.claim f) s = .next t ∧ Frame .full s t ∧ ∃ u : State, u = s.claimInStep ∧ t = ((u.takeLine f).onTw
      fun y => { y with graceEnd := u.tw.graceEnd, outEn := true }).svTakeOver) ∧
  (∀ (s : State) (f : Nat), s.mayClaim f = true → s.sys.mode ≠ .boot → ¬ (s.sys.role = .standby ∧ s.bit
    TW_STATUS_IN_STEP = true) →
    ∃ t, exec (.claim f) s = .next t ∧ Frame .full s t ∧ ∃ u : State, u = s.claimTable ∧ t = ((u.takeLine f).onTw fun
      y => { y with graceEnd := u.tw.graceEnd, outEn := true }).svTakeOver) ∧
  (∀ (s : State) (t0 : Nat), s.Inv → s.tw.guardEnd = some t0 → t0 + 0 ≤ s.time → s.tw.hand ≠ .released →
    ∃ t, exec .guardEnd s = .next t ∧ Frame { regs := true, mb := true, tw := true } s t ∧ t.bit TW_STATUS_GUARD =
      false ∧ t.tw = { s.tw with guardEnd := none } ∧ RegsBut (· = TW_STATUS_GUARD.addr) s t) ∧
  (∀ (s : State) (t0 : Nat), s.tw.guardEnd = some t0 → t0 + 0 ≤ s.time → s.tw.hand = .released →
    ∃ t, exec .guardEnd s = .next t ∧ Frame { regs := true, mb := true, tw := true } s t ∧ t = ((s.putBit
      TW_STATUS_GUARD false).onTw fun y => { y with guardEnd := none }).handReply .aborted) ∧
  (∀ s : State, s.since s.tw.guardEnd 0 = false → ∃ t, exec .guardEnd s = .next t ∧
    Frame { regs := true, mb := true, tw := true } s t ∧ t = s) ∧
  (∀ (s : State), s.bit TW_CTRL_ENABLE = true → s.tw.hbSent = none →
    ∃ t, exec .heartbeatSend s = .next t ∧ Frame { tw := true } s t ∧ t = (s.linkSend 1 0 0 s.heartbeatBytes).onTw
      fun y => { y with hbSent := some s.time }) ∧
  (∀ (s : State) (t0 : Nat), s.bit TW_CTRL_ENABLE = true → s.tw.hbSent = some t0 → t0 + usec 250 ≤ s.time →
    ∃ t, exec .heartbeatSend s = .next t ∧ Frame { tw := true } s t ∧ t = (s.linkSend 1 0 0 s.heartbeatBytes).onTw
      fun y => { y with hbSent := some s.time }) ∧
  (∀ (s : State) (t0 : Nat), s.tw.hbSent = some t0 → s.time < t0 + usec 250 → ∃ t, exec .heartbeatSend s = .next t ∧
    Frame { tw := true } s t ∧ t = s) ∧
  (∀ s : State, s.bit TW_CTRL_ENABLE = false → ∃ t, exec .heartbeatSend s = .next t ∧ Frame { tw := true } s t ∧ t =
    s) ∧
  (∀ (s : State) (p : List (BitVec 8)), ∃ t, exec (.heartbeatReceive p) s = .next t ∧
    Frame { regs := true, sys := true, dic := true, mg := true, mb := true, le := true, tw := true } s t ∧ t =
      s.heartbeat p) ∧
  (∀ (s : State), s.bit TW_CTRL_ENABLE = true → s.tw.lost = false → s.tw.hbAt.getD s.sys.bootStart + msec 3 ≤ s.time →
    ∃ t, exec .heartbeatLoss s = .next t ∧
      Frame { regs := true, sys := true, dic := true, mg := true, mb := true, le := true, tw := true } s t ∧ ∃ u :
        State, u = ((((s.putBit TW_STATUS_HB_OK false).putBit TW_STATUS_HB_LOST true).putBit TW_STATUS_RESYNC
          false).handAbort.note 12 .heartbeatLost 2 [] 32).releaseReplies (fun _ => true) ∧
      t = if u.sys.role = .standby then (u.onTw fun y =>
        { y with lost := true, hbRun := 0, replay := [], rxAny := true }).isolateStandby else u.linkReset) ∧
  (∀ s : State, s.isolateStandby = if s.sys.role = .standby ∧ s.tw.lost = true ∧ s.rd TW_STATUS_LINE = 1 then
    ((s.putBit TW_STATUS_IN_STEP false).linkReset).setRole .isolatedStandby else s) ∧
  ∀ (s : State), s.bit TW_CTRL_ENABLE = false ∨ s.tw.lost = true ∨ s.time < s.tw.hbAt.getD s.sys.bootStart + msec 3 →
    ∃ t, exec .heartbeatLoss s = .next t ∧
      Frame { regs := true, sys := true, dic := true, mg := true, mb := true, le := true, tw := true } s t ∧ t = s

/-- The states that frames, acknowledges, lanes and the resynchronisation of the twin link answer.
With the twin disabled frames and lanes change nothing. A frame with a bad CRC or a payload above 4,096 bytes is
counted and NAKed; an ACK and a NAK act on the replay buffer. The first frame after a reset of the link sets the
number to come; then the next frame in order is taken, acknowledged and passed on, one ahead is NAKed and one already
taken acknowledged again. A due ACK carries the highest number in order. At a replay timeout the replies held for 1 ms
go, and a replay buffer unacknowledged for 100 microseconds is sent again. A failed lane that is up retrains the link,
and training ends with the lanes given. A resynchronisation that is due starts at a boundary on the ACTIVE module out
of BOOT: every mirrored register, setting, journal, pool entry and line of working state is sent; it ends at a later
boundary with the writes mirrored meanwhile, and at the standby once the frame to start is known. Where none of this
holds nothing changes. -/
def Obligations.TwinLink : Prop :=
  (∀ (s : State) (f : LinkFrame), s.bit TW_CTRL_ENABLE = false → ∃ t, exec (.twinLinkFrameReceive f) s = .next t ∧
    Frame { Parts.full with time := false, free := false, mem := false, sn := false, tr := false } s t ∧ t = s) ∧
  (∀ (s : State) (f : LinkFrame), s.bit TW_CTRL_ENABLE = true → f.crc ≠ linkCrc f ∨ 4096 < f.payload.length →
    ∃ t, exec (.twinLinkFrameReceive f) s = .next t ∧
      Frame { Parts.full with time := false, free := false, mem := false, sn := false, tr := false } s t ∧ t =
        (s.incSat TW_CRCERR).sendNak) ∧
  (∀ (s : State) (f : LinkFrame), s.bit TW_CTRL_ENABLE = true → f.crc = linkCrc f → f.payload.length ≤ 4096 → f.typ =
    12 →
    ∃ t, exec (.twinLinkFrameReceive f) s = .next t ∧
      Frame { Parts.full with time := false, free := false, mem := false, sn := false, tr := false } s t ∧ t =
        s.acked (fieldLE f.payload 0 4)) ∧
  (∀ (s : State) (f : LinkFrame), s.bit TW_CTRL_ENABLE = true → f.crc = linkCrc f → f.payload.length ≤ 4096 → f.typ =
    13 →
    ∃ t, exec (.twinLinkFrameReceive f) s = .next t ∧
      Frame { Parts.full with time := false, free := false, mem := false, sn := false, tr := false } s t ∧ t =
        (s.acked (fieldLE f.payload 0 4 + 2 ^ 32 - 1)).resend) ∧
  (∀ (s : State) (f : LinkFrame), s.bit TW_CTRL_ENABLE = true → f.crc = linkCrc f → f.payload.length ≤ 4096 → f.typ ≠
    12 → f.typ ≠ 13 →
    ∃ t, exec (.twinLinkFrameReceive f) s = .next t ∧
      Frame { Parts.full with time := false, free := false, mem := false, sn := false, tr := false } s t ∧ ∃ u :
        State, u = (if s.tw.rxAny then s.onTw fun y => { y with rxAny := false, rxSeq := f.seq } else s) ∧
      (f.seq = u.tw.rxSeq → t = (u.onTw fun y => { y with rxSeq := (y.rxSeq + 1) % 2 ^ 32, ackDue := true }).passOn
        f) ∧
      (f.seq ≠ u.tw.rxSeq → seqDist u.tw.rxSeq f.seq < 2 ^ 31 → t = u.sendNak) ∧
      (f.seq ≠ u.tw.rxSeq → 2 ^ 31 ≤ seqDist u.tw.rxSeq f.seq → t = u.onTw fun y => { y with ackDue := true })) ∧
  (∀ (s : State), s.tw.ackDue = true →
    ∃ t, exec .linkAckSend s = .next t ∧ Frame { tw := true } s t ∧ t = s.onTw fun y =>
      { y with ackDue := false, lastCtl := some (12, (y.rxSeq + 2 ^ 32 - 1) % 2 ^ 32) }) ∧
  (∀ s : State, s.tw.ackDue = false → ∃ t, exec .linkAckSend s = .next t ∧ Frame { tw := true } s t ∧ t = s) ∧
  (∀ s : State, ∃ t, exec .linkReplayTimeout s = .next t ∧ Frame { regs := true, mb := true, tw := true } s t ∧ ∃ u :
    State, u = s.replyTimeouts ∧
    (u.tw.replay ≠ [] → (∀ t0, u.tw.ackAt = some t0 → t0 + usec 100 ≤ u.time → t = u.resend) ∧
      (u.tw.ackAt = none → t = u)) ∧
    (u.tw.replay = [] ∨ u.tw.ackAt.any (fun t0 => decide (u.time < t0 + usec 100)) = true → t = u)) ∧
  (∀ s : State, s.mb.held = [] → s.replyTimeouts = s) ∧
  (∀ (s : State) (l : Fin 4), s.bit TW_CTRL_ENABLE = true → bitOf (s.rd TW_STATUS_LANES) l.val = true →
    ∃ t, exec (.linkLaneFail l) s = .next t ∧ Frame { regs := true, mg := true } s t ∧ t = s.setLanes (s.rd
      TW_STATUS_LANES - 2 ^ l.val)) ∧
  (∀ (s : State) (l : Fin 4), s.bit TW_CTRL_ENABLE = false ∨ bitOf (s.rd TW_STATUS_LANES) l.val = false → ∃ t, exec
    (.linkLaneFail l) s = .next t ∧ Frame { regs := true, mg := true } s t ∧ t = s) ∧
  (∀ (s : State) (l : BitVec 4), s.bit TW_CTRL_ENABLE = true → ∃ t, exec (.linkRetrainDone l) s = .next t ∧
    Frame { regs := true, mg := true } s t ∧ t = s.setLanes l.toNat) ∧
  (∀ (s : State) (l : BitVec 4), s.bit TW_CTRL_ENABLE = false → ∃ t, exec (.linkRetrainDone l) s = .next t ∧
    Frame { regs := true, mg := true } s t ∧ t = s) ∧
  (∀ s : State, s.isActive = false ∨ s.tw.resyncDue = false ∨ s.onBoundary = false ∨ s.sys.mode = .boot → ∃ t, exec
    .resyncStart s = .next t ∧ Frame { tw := true } s t ∧ t = s) ∧
  (∀ s : State, s.isActive = true → s.tw.resyncDue = true → s.onBoundary = true → s.sys.mode ≠ .boot →
    ∃ t, exec .resyncStart s = .next t ∧ Frame { tw := true } s t ∧ (∃ (u v : State) (l : List (Nat × Nat)), l =
      s.copyRegs.map (fun q => (q.1, q.2.toNat)) ∧
      u = (s.linkSend 10 0 s.frame []).sendPairs 10 1 (s.linkSend 10 0 s.frame []).frame (l.length / 512 + 1) l ∧
      v = (u.sendCfg (u.cfgEntries.length / 512 + 1) u.cfgEntries).sendJournals 3 ∧
      t = (((v.sendPool (v.poolPairs.length / 512 + 1) v.poolPairs).onTw fun y =>
        { y with copyLines := [] }).sendLines).onTw fun y =>
          { y with copy := s.copyRegs, resyncAt := some s.time, resyncDue := false })) ∧
  (∀ (s : State) (t0 : Nat), s.onBoundary = true → s.isActive = true → s.tw.resyncAt = some t0 → t0 < s.time →
    ∃ t, exec .resyncEnd s = .next t ∧
      Frame { regs := true, sys := true, dic := true, mg := true, mb := true, vq := true, le := true, pf := true, tr := true, tw := true } s t ∧ t = (s.sendMirror.linkSend 10 5 (s.frameAt s.time) []).onTw fun y => { y with resyncAt := none, copy := [] }) ∧
  (∀ (s : State) (j : Nat), s.onBoundary = true → s.isActive = false → s.takes = true → s.bit TW_STATUS_RESYNC = true
    →
    s.tw.resyncAt = some j → ∃ t, exec .resyncEnd s = .next t ∧
      Frame { regs := true, sys := true, dic := true, mg := true, mb := true, vq := true, le := true, pf := true, tr := true, tw := true } s t ∧ t = s.resynced j) ∧
  ∀ s : State, s.onBoundary = false ∨
      (if s.isActive then s.tw.resyncAt.all (fun t0 => decide (s.time ≤ t0)) else !(s.takes && s.bit TW_STATUS_RESYNC
        && s.tw.resyncAt.isSome)) = true →
    ∃ t, exec .resyncEnd s = .next t ∧
      Frame { regs := true, sys := true, dic := true, mg := true, mb := true, vq := true, le := true, pf := true, tr := true, tw := true } s t ∧ t = s

/-- The states that a missing frame end, a core fault and the steps of a handover answer.
A FRAME_END missing 50 microseconds after the boundary takes an in-step STANDBY out of step. A lockstep mismatch, a
supervisor watchdog of 4 ticks while frames run, and FAULT written by the supervisor enter FAILED. A stall of core C2
to C7 loses the replies in progress and is logged, and of C0 and C1 is left to the lockstep. A handover request is
refused for its form, its owner or the state it finds, answered again with the present state for a tag already
answered, and else started. PREPARE goes out at the boundary after acceptance on the ACTIVE module, the line is
released at the one after READY, and the handover completes with the line owned or the partner ACTIVE. RELEASE written
by the supervisor of the ACTIVE module asks for the release. Where none of this holds, and for a request without
supply, nothing changes. -/
def Obligations.LockstepAndHandover : Prop :=
  (∀ (s : State) (t0 k : Nat), s.sys.role = .standby → s.bit TW_STATUS_IN_STEP = true → s.rd TW_STATUS_LINE = 1 →
    s.sys.lastFrame = some t0 → t0 + usec 50 ≤ s.time → s.tw.endSeen = some k → k < s.frame →
    ∃ t, exec .frameEndMissing s = .next t ∧
      Frame { regs := true, dic := true, mg := true, vq := true, le := true, tw := true, ca := true } s t ∧ t =
        s.outOfStep) ∧
  (∀ s : State, s.sys.role ≠ .standby ∨ s.bit TW_STATUS_IN_STEP = false ∨ s.rd TW_STATUS_LINE ≠ 1 ∨
      s.since s.sys.lastFrame (usec 50) = false ∨ s.tw.endSeen.any (fun k => decide (k < s.frame)) = false → ∃ t,
        exec .frameEndMissing s = .next t ∧
          Frame { regs := true, dic := true, mg := true, vq := true, le := true, tw := true, ca := true } s t ∧ t =
            s) ∧
  (∀ (s : State), ∃ t, exec .lockstepMismatch s = .next t ∧
    Frame { Parts.full with time := false, free := false, mem := false, pb := false, vq := false, fb := false, ca := false } s t ∧ t = s.enterFailed [5]) ∧
  (∀ (s : State) (k : Fin 8), 2 ≤ k.val → s.sys.mode ≠ .off →
    ∃ t, exec (.coreStallDetect k) s = .next t ∧ Frame { regs := true, mg := true, mb := true, tw := true } s t ∧ t =
      s.repliesLost.log 1 .coreStall 2 [k.val]) ∧
  (∀ (s : State) (k : Fin 8), k.val < 2 ∨ s.sys.mode = .off → ∃ t, exec (.coreStallDetect k) s = .next t ∧
    Frame { regs := true, mg := true, mb := true, tw := true } s t ∧ t = s) ∧
  (∀ (s : State), s.sys.framesOn = true → s.tw.watchdogAt + 4 * usec 50 ≤ s.time →
    ∃ t, exec .supervisorWatchdogExpiry s = .next t ∧
      Frame { Parts.full with time := false, free := false, mem := false, pb := false, vq := false, fb := false, ca := false } s t ∧ t = s.enterFailed [6]) ∧
  (∀ s : State, s.sys.framesOn = false ∨ s.time < s.tw.watchdogAt + 4 * usec 50 → ∃ t, exec .supervisorWatchdogExpiry
    s = .next t ∧
      Frame { Parts.full with time := false, free := false, mem := false, pb := false, vq := false, fb := false, ca := false } s t ∧ t = s) ∧
  (∀ (s : State) (p : List (BitVec 8)), s.sys.mode = .off → ∃ t, exec (.handoverRequest p) s = .next t ∧
    Frame { regs := true, sys := true, dic := true, mb := true, le := true, tw := true } s t ∧ t = s) ∧
  (∀ (s : State) (p : List (BitVec 8)), s.sys.mode ≠ .off → p.length ≠ 8 ∨ fieldLE p 4 1 ≠ 1 → ∃ t, exec
    (.handoverRequest p) s = .next t ∧
      Frame { regs := true, sys := true, dic := true, mb := true, le := true, tw := true } s t ∧ t = s.turnedDown p
        .range) ∧
  (∀ (s : State) (p : List (BitVec 8)), s.sys.mode ≠ .off → p.length = 8 → fieldLE p 4 1 = 1 → s.isActive = false →
    ∃ t, exec (.handoverRequest p) s = .next t ∧
      Frame { regs := true, sys := true, dic := true, mb := true, le := true, tw := true } s t ∧ t = s.turnedDown p
        .notOwner) ∧
  (∀ (s : State) (p : List (BitVec 8)) (k : Ks), s.sys.mode ≠ .off → p.length = 8 → fieldLE p 4 1 = 1 → s.isActive =
    true →
    s.asked.seenTag (tagOf p) = none → s.asked.handRefusal = some k → ∃ t, exec (.handoverRequest p) s = .next t ∧
      Frame { regs := true, sys := true, dic := true, mb := true, le := true, tw := true } s t ∧ t = s.turnedDown p
        k) ∧
  (∀ (s : State) (p : List (BitVec 8)) (x : TagRec), s.sys.mode ≠ .off → p.length = 8 → fieldLE p 4 1 = 1 →
    s.isActive = true →
    s.asked.seenTag (tagOf p) = some x →
    ∃ t, exec (.handoverRequest p) s = .next t ∧
      Frame { regs := true, sys := true, dic := true, mb := true, le := true, tw := true } s t ∧ t =
        s.asked.silenceRestart.answer .ok (x.header.take 2 ++ leBytes 1 s.sys.mode.code ++ leBytes 1 s.sys.role.code
          ++ x.header.drop 4) x.body) ∧
  (∀ (s : State) (p : List (BitVec 8)), s.sys.mode ≠ .off → p.length = 8 → fieldLE p 4 1 = 1 → s.isActive = true →
    s.asked.seenTag (tagOf p) = none → s.asked.handRefusal = none →
    ∃ t, exec (.handoverRequest p) s = .next t ∧
      Frame { regs := true, sys := true, dic := true, mb := true, le := true, tw := true } s t ∧ t =
        s.asked.silenceRestart.handStart (some (tagOf p))) ∧
  (∀ (s : State), s.isActive = true → s.tw.hand = .asked → s.onBoundary = true →
    ∃ t, exec .handoverPrepare s = .next t ∧ Frame { tw := true } s t ∧ t = (s.linkSend 11 1 s.frame []).onTw fun y
      => { y with hand := .prepared }) ∧
  (∀ s : State, s.isActive = false ∨ s.tw.hand ≠ .asked ∨ s.onBoundary = false → ∃ t, exec .handoverPrepare s = .next
    t ∧ Frame { tw := true } s t ∧ t = s) ∧
  (∀ (s : State), s.isActive = true → s.tw.hand = .ready → s.onBoundary = true → s.sys.lastFrame ≠ some s.time →
    ∃ t, exec .handoverRelease s = .next t ∧
      Frame { regs := true, sys := true, dic := true, mg := true, mb := true, le := true, sn := true, tw := true } s t ∧ t = (((s.sendFrameEnd s.frame).linkSend 11 3 s.frame []).releaseLine).onTw fun y => { y with hand := .released, lastDone := s.frame }) ∧
  (∀ s : State, s.isActive = false ∨ s.tw.hand ≠ .ready ∨ s.onBoundary = false ∨ s.sys.lastFrame = some s.time → ∃ t,
    exec .handoverRelease s = .next t ∧
      Frame { regs := true, sys := true, dic := true, mg := true, mb := true, le := true, sn := true, tw := true } s t ∧ t = s) ∧
  (∀ s : State, s.tw.hand ≠ .released ∨ (s.rd TW_STATUS_LINE ≠ 1 ∧ s.rd TW_PARTNER_ROLE ≠ 1) → ∃ t, exec
    .handoverComplete s = .next t ∧ Frame { regs := true, mb := true, tw := true } s t ∧ t = s) ∧
  (∀ (s : State), s.tw.hand = .released → s.rd TW_STATUS_LINE = 1 ∨ s.rd TW_PARTNER_ROLE = 1 →
    ∃ t, exec .handoverComplete s = .next t ∧ Frame { regs := true, mb := true, tw := true } s t ∧ t = (s.setLine 1
      true false).handReply .ok) ∧
  (∀ (s : State) (i : Initiator), bySupervisor i = true → s.isActive = true →
    ∃ t, exec (.twReleaseWrite i) s = .next t ∧ Frame { tw := true } s t ∧ t = s.onTw fun y =>
      { y with hand := .ready }) ∧
  (∀ (s : State) (i : Initiator), bySupervisor i = false ∨ s.isActive = false → ∃ t, exec (.twReleaseWrite i) s =
    .next t ∧ Frame { tw := true } s t ∧ t = s) ∧
  (∀ (s : State) (i : Initiator), bySupervisor i = true → ∃ t, exec (.twFaultWrite i) s = .next t ∧
    Frame { Parts.full with time := false, free := false, mem := false, pb := false, vq := false, fb := false, ca := false } s t ∧ t = s.enterFailed [7]) ∧
  ∀ (s : State) (i : Initiator), bySupervisor i = false → ∃ t, exec (.twFaultWrite i) s = .next t ∧
    Frame { Parts.full with time := false, free := false, mem := false, pb := false, vq := false, fb := false, ca := false } s t ∧ t = s

/-- The states that the host's reads and writes of the memory answer, in every case.
A host read with the decoder down or beyond the memory is answered with return code 1, and in SURVIVAL with poisoned
zeros; any other read has the effects of reading its burst and returns the burst's bytes as the decoder delivers them,
with return code 2 where the burst was poisoned before or its error cannot be corrected, and else 0; a read without
error of a burst that is not poisoned returns the stored bytes and changes nothing else. A host write with the decoder
down, out of range, or in SURVIVAL at or above the model store changes nothing; one below the model store is discarded
and counted, one into a locked slot is logged and dropped, and any other stores exactly its bytes and no other, with
every register as before, and no burst it wrote stays poisoned. -/
def Obligations.MemoryAccesses : Prop :=
  (∀ (s : State) (a : Nat) (e : BurstErr), s.hdmUp = false ∨ 0x7800000000 ≤ a → ∃ t, exec (.hdmRead a e) s = .next t
    ∧ Frame { regs := true, dic := true, mg := true, mb := true, le := true, ca := true } s t ∧ t = s.reply
      { rc := 1 }) ∧
  (∀ (s : State) (a : Nat) (e : BurstErr), s.hdmUp = true → a < 0x7800000000 → s.sys.mode = .survival →
    ∃ t, exec (.hdmRead a e) s = .next t ∧
      Frame { regs := true, dic := true, mg := true, mb := true, le := true, ca := true } s t ∧ t = s.reply
        { rc := 2, body := zeros 64 }) ∧
  (∀ (s : State) (a : Nat) (e : BurstErr) (l : KwErr), s.hdmUp = true → a < 0x7800000000 → s.sys.mode ≠ .survival → l
    = kwBurst e →
    ∃ t, exec (.hdmRead a e) s = .next t ∧
      Frame { regs := true, dic := true, mg := true, mb := true, le := true, ca := true } s t ∧ t = (s.ddrRead a
        (kwCheck l)).reply
      { rc := if s.ca.poison.contains (a / 64) = true ∨ kwCheck l = .uncorrectable then 2 else 0, body := kwDeliver l (s.bytesAt (a / 64 * 64) 64) }) ∧
  (∀ (s : State) (a : Nat), s.hdmUp = true → a < 0x7800000000 → s.sys.mode ≠ .survival → s.ca.poison.contains (a /
    64) = false →
    ∃ t, exec (.hdmRead a .nil) s = .next t ∧
      Frame { regs := true, dic := true, mg := true, mb := true, le := true, ca := true } s t ∧ t = s.reply
        { rc := 0, body := s.bytesAt (a / 64 * 64) 64 }) ∧
  (∀ (s : State) (a : Nat) (l : List (BitVec 8)), s.hdmUp = false ∨ 0x7800000000 < a + l.length ∨ (0x7000000000 ≤ a ∧
    s.sys.mode = .survival) → ∃ t, exec (.hdmWrite a l) s = .next t ∧
      Frame { regs := true, mem := true, mg := true, ca := true } s t ∧ t = s) ∧
  (∀ (s : State) (a : Nat) (l : List (BitVec 8)), s.hdmUp = true → a + l.length ≤ 0x7800000000 → a < 0x7000000000 →
    ∃ t, exec (.hdmWrite a l) s = .next t ∧ Frame { regs := true, mem := true, mg := true, ca := true } s t ∧ t =
      s.incSat CA_HDMWR_DISCARD) ∧
  (∀ (s : State) (a : Nat) (l : List (BitVec 8)), s.hdmUp = true → a + l.length ≤ 0x7800000000 → 0x7000000000 ≤ a →
    s.sys.mode ≠ .survival →
    s.lockedSlots.contains ((a - 0x7000000000) / 0x80000000) = true →
    ∃ t, exec (.hdmWrite a l) s = .next t ∧ Frame { regs := true, mem := true, mg := true, ca := true } s t ∧ t =
      s.log 13 .slotConflict 0 [(a - 0x7000000000) / 0x80000000, a]) ∧
  (∀ (s : State) (a : Nat) (l : List (BitVec 8)), s.Inv → s.hdmUp = true → a + l.length ≤ 0x7800000000 → 0x7000000000
    ≤ a → s.sys.mode ≠ .survival →
    s.lockedSlots.contains ((a - 0x7000000000) / 0x80000000) = false →
    ∃ t, exec (.hdmWrite a l) s = .next t ∧ Frame { regs := true, mem := true, mg := true, ca := true } s t ∧
      t.bytesAt a l.length = l ∧ t.regs = s.regs ∧ (∀ x, ¬ (a ≤ x ∧ x < a + l.length) → t.byte x = s.byte x) ∧
      ∀ b, t.ca.poison.contains b = (s.ca.poison.contains b && !(decide (a / 64 ≤ b) && decide (b * 64 < a +
        l.length))))

/-- The states that the patrol scrub, the tier 0 writer and racking answer, in every case.
The scrub changes nothing while it is switched off, the DDR4 is not up or in self refresh, or in SURVIVAL. Where it
runs, its pass begins where none is under way, and it reads no more pages than asked for and than its pace has
reached, none while the pace has reached none; with no error found within a pass its position advances by these pages
and SCRUB_ACTIVE is 1, and at the pass's end, with no more pages asked for, the position is 0, SCRUB_ACTIVE 0 and the
pass is counted, dated, logged and posted; in every case the pages are scrubbed with the errors found in them, and the
next pass begins with the pages left over as far as its pace has reached. With the archive running the oldest ended
period is written to its slot, each context block as it is coded where the period is whole and its context admitted
and as zeros where not, and to its index entry, and to no other byte without the plant; with the plant enabled its
blocks and entry follow. Racking writes each whole second's entries with the seconds passed; for one second and
without the plant these are its 32,768 entries and its index entry and no other byte. With the archive off, no period
ended or no second whole, nothing changes. -/
def Obligations.ScrubAndArchives : Prop :=
  (∀ (s : State) (n : Nat) (l : List (Nat × BurstErr)), s.bit CA_CTRL_SCRUB_EN = false ∨ s.ddrUp = false ∨
    s.ca.selfRefresh = true ∨ s.sys.mode = .survival →
    ∃ t, exec (.patrolScrub n l) s = .next t ∧
      Frame { regs := true, dic := true, mg := true, mb := true, le := true, ca := true } s t ∧ t = s) ∧
  (∀ (s : State) (n : Nat) (l : List (Nat × BurstErr)), s.bit CA_CTRL_SCRUB_EN = true → s.ddrUp = true →
    s.ca.selfRefresh = false → s.sys.mode ≠ .survival →
    n = 0 ∨ s.scrubDue ≤ s.rd CA_SCRUB_POS →
    ∃ t, exec (.patrolScrub n l) s = .next t ∧
      Frame { regs := true, dic := true, mg := true, mb := true, le := true, ca := true } s t ∧ t = s.onCa fun y =>
        { y with scrubAt := some (s.ca.scrubAt.getD s.time) }) ∧
  (∀ (s : State) (n m : Nat), s.Inv → s.bit CA_CTRL_SCRUB_EN = true → s.ddrUp = true → s.ca.selfRefresh = false →
    s.sys.mode ≠ .survival →
    m = min n (s.scrubDue - s.rd CA_SCRUB_POS) → 0 < m → s.rd CA_SCRUB_POS + m < 2 ^ 27 →
    ∃ t, exec (.patrolScrub n .nil) s = .next t ∧
      Frame { regs := true, dic := true, mg := true, mb := true, le := true, ca := true } s t ∧ t.rd CA_SCRUB_POS =
        s.rd CA_SCRUB_POS + m ∧ t.bit CA_STATUS_SCRUB_ACTIVE = true ∧
      t.ca = { s.ca with scrubAt := some (s.ca.scrubAt.getD s.time) } ∧
      RegsBut (fun a => a = CA_SCRUB_POS.addr ∨ a = CA_STATUS_SCRUB_ACTIVE.addr) s t) ∧
  (∀ (s : State) (n q : Nat), s.Inv → s.bit CA_CTRL_SCRUB_EN = true → s.ddrUp = true → s.ca.selfRefresh = false →
    s.sys.mode ≠ .survival →
    q = s.ca.scrubAt.getD s.time → n = s.scrubDue - s.rd CA_SCRUB_POS → 0 < n → s.rd CA_SCRUB_POS + n = 2 ^ 27 →
    ∃ t, exec (.patrolScrub n .nil) s = .next t ∧
      Frame { regs := true, dic := true, mg := true, mb := true, le := true, ca := true } s t ∧ t.rd CA_SCRUB_POS = 0
        ∧ t.bit CA_STATUS_SCRUB_ACTIVE = false ∧ t.rd CA_SCRUB_PASSES = (s.rd CA_SCRUB_PASSES + 1) % 2 ^ 16 ∧
      t.ca.scrubAt = some (q + s.scrubInterval) ∧
      RegsBut (fun a => a = CA_SCRUB_POS.addr ∨ a = CA_SCRUB_PASSES.addr ∨ a = CA_STATUS_SCRUB_ACTIVE.addr ∨ noteReg
        a) s t) ∧
  (∀ (s : State) (n m : Nat) (l : List (Nat × BurstErr)), s.bit CA_CTRL_SCRUB_EN = true → s.ddrUp = true →
    s.ca.selfRefresh = false → s.sys.mode ≠ .survival →
    m = min n (s.scrubDue - s.rd CA_SCRUB_POS) → 0 < m →
    ∃ t, exec (.patrolScrub n l) s = .next t ∧
      Frame { regs := true, dic := true, mg := true, mb := true, le := true, ca := true } s t ∧ ∃ (u v : State) (k :
        Nat), u = (s.onCa fun y => { y with scrubAt := some (s.ca.scrubAt.getD s.time) }) ∧
      v = u.scrubPart m l ∧ k = min (n - m) v.scrubDue ∧
      t = if v.rd CA_SCRUB_POS = 0 ∧ 0 < k ∧ k < 2 ^ 27 then v.scrubPart k l else v) ∧
  (∀ s : State, s.archives = false ∨ s.ca.ended = [] → ∃ t, exec .tier0BlockWrite s = .next t ∧
    Frame { regs := true, mem := true, ca := true } s t ∧ t = s) ∧
  (∀ (s : State) (p : CaPeriod) (r : List CaPeriod), s.Inv → s.archives = true → s.ca.ended = p :: r → s.bit
    CA_CTRL_PLANT_EN = false →
    ∃ t, exec .tier0BlockWrite s = .next t ∧ Frame { regs := true, mem := true, ca := true } s t ∧ t.ca.ended = r ∧
      RegsBut (· = CA_QUANT_BLOCKS.addr) s t ∧
      t.bytesAt (0x6E80000000 + 8 * (p.num % 21504)) 8 = leBytes 8 p.time ∧
      (∀ key, key < 32768 → t.bytesAt ((p.num % 21504 * 32768 + key) * 256) 256 =
        if p.broken = false ∧ s.bit (PB_STATUS_ADMITTED (key / 8)) = true then (caBlock key true (p.decim.contains
          (key / 8)) p.frame (p.channel key)).1 else zeros 256) ∧
      ∀ x, ¬ (p.num % 21504 * 0x800000 ≤ x ∧ x < (p.num % 21504 + 1) * 0x800000) →
        ¬ (0x6E80000000 + 8 * (p.num % 21504) ≤ x ∧ x < 0x6E80000000 + 8 * (p.num % 21504) + 8) → t.byte x = s.byte
          x) ∧
  (∀ (s : State) (p : CaPeriod) (r : List CaPeriod), s.archives = true → s.ca.ended = p :: r → s.bit CA_CTRL_PLANT_EN
    = true →
    ∃ t, exec .tier0BlockWrite s = .next t ∧ Frame { regs := true, mem := true, ca := true } s t ∧ ∃ u v w : State,
      u = (upto 32768).foldl (fun (s : State) key => s.caWrite p key ((p.num % 21504 * 32768 + key) * 256) (!p.broken
        && s.bit (PB_STATUS_ADMITTED (key / 8)))) (s.onCa fun y => { y with ended := r }) ∧
      v = u.ddrWrite (0x6E80000000 + 8 * (p.num % 21504)) (leBytes 8 p.time) ∧
      w = (upto 256).foldl (fun (s : State) n => s.caWrite p (32768 + n) (0x6200000000 + (p.num % 65536 * 256 + n) *
        256) !p.broken) v ∧
      t = w.ddrWrite (0x6E80000000 + 0x100000 + 8 * (p.num % 65536)) (leBytes 8 p.time)) ∧
  (∀ s : State, s.archives = false ∨ s.rackLimit ≤ s.ca.second → ∃ t, exec .racking s = .next t ∧
    Frame { mem := true, ca := true } s t ∧ t = s) ∧
  (∀ (s : State) (n : Nat), s.archives = true → n = s.rackLimit → s.ca.second < n →
    ∃ t, exec .racking s = .next t ∧ Frame { mem := true, ca := true } s t ∧ ∃ u : State, u = (upto (n -
      s.ca.second)).foldl (fun t k => t.rackSecond (s.ca.second + k)) s ∧
      t = u.onCa fun y => { y with second := n, accs := y.accs.filter fun q => decide (n ≤ q.1) }) ∧
  ∀ (s : State) (a : Nat), s.Inv → s.archives = true → s.rackLimit = s.ca.second + 1 → s.bit CA_CTRL_PLANT_EN = false
    → a = s.ca.second % 1223338 →
    ∃ t, exec .racking s = .next t ∧ Frame { mem := true, ca := true } s t ∧ t.ca.second = s.ca.second + 1 ∧ t.regs =
      s.regs ∧
      (∀ k, k < 32768 → t.bytesAt (0x2A00000000 + (a * 32768 + k) * 6) 6 = caEntry (tget [] s.ca.accs s.ca.second) k)
        ∧
      t.bytesAt (0x6E80200000 + 8 * a) 8 = leBytes 8 (secs s.ca.second) ∧
      ∀ x, ¬ (0x2A00000000 + a * 196608 ≤ x ∧ x < 0x2A00000000 + (a + 1) * 196608) →
        ¬ (0x6E80200000 + 8 * a ≤ x ∧ x < 0x6E80200000 + 8 * a + 8) → t.byte x = s.byte x

/-- The states that the CXL link, the time protocol and the standard mailbox commands answer.
With supply a trained link is up with its rate, width, flits and decoder and posts doorbell 481, reduced and noted
below 64 GT/s or x16; a reset of the interface takes the decoder, the vector table, the replies in progress and, but
for a function-level one, the link down, keeps tags and journals, and is logged. A dialog dates its run of good
offsets, within 1 microsecond, or ends it; PTM_LOCKED is 1 once that run has lasted 1 s, its loss is noted, and a
dialog that succeeded writes the offset and a free rate correction within its limits and posts doorbell 483. The first
source steps the timebase once to its time. An AER error is counted and noted. A standard command is counted and
answered, of opcode other than those listed with return code 1; SET_TIMESTAMP sets the timestamp that GET_TIMESTAMP
reads on from, and not the timebase. Without supply the link, the reset of the interface and the commands change
nothing. -/
def Obligations.CxlInterface : Prop :=
  (∀ (s : State) (r w : Fin 3) (h : CxlHost), s.sys.mode = .off → ∃ t, exec (.cxlLinkUp r w h) s = .next t ∧
    Frame { regs := true, dic := true, mg := true, mb := true, le := true } s t ∧ t = s) ∧
  (∀ (s : State) (h : CxlHost), s.sys.mode ≠ .off →
    ∃ t, exec (.cxlLinkUp 2 2 h) s = .next t ∧
      Frame { regs := true, dic := true, mg := true, mb := true, le := true } s t ∧ ∃ u : State, u.mb.linkUp = true ∧
        u.mb.linkRate = 64 ∧ u.mb.linkWidth = 16 ∧ u.mb.linkFlit = 256 ∧
      u.mb.linkReduced = false ∧ u.mb.hdmCommitted = h.hdm.isSome ∧ u.regs = s.regs ∧ t = u.post 481) ∧
  (∀ (s : State) (r w : Fin 3) (h : CxlHost), s.sys.mode ≠ .off → r.val ≠ 2 ∨ w.val ≠ 2 →
    ∃ t, exec (.cxlLinkUp r w h) s = .next t ∧
      Frame { regs := true, dic := true, mg := true, mb := true, le := true } s t ∧ ∃ u : State, u.mb.linkUp = true ∧
        u.mb.linkReduced = true ∧ u.mb.linkRate = cxlRate r ∧ u.mb.linkWidth = cxlWidth w ∧
      u.mb.linkFlit = (if r.val = 2 then 256 else 68) ∧ u.mb.hdmCommitted = h.hdm.isSome ∧
      u.regs = s.regs ∧ t = u.note 14 .linkReduced 1 [cxlRate r, cxlWidth w] 481) ∧
  (∀ (s : State) (b : Bool), s.sys.mode = .off → ∃ t, exec (.cxlInterfaceReset b) s = .next t ∧
    Frame { regs := true, dic := true, mg := true, mb := true, le := true, tw := true } s t ∧ t = s) ∧
  (∀ (s : State), s.sys.mode ≠ .off →
    ∃ t, exec (.cxlInterfaceReset true) s = .next t ∧
      Frame { regs := true, dic := true, mg := true, mb := true, le := true, tw := true } s t ∧ ∃ u : State, t =
        u.log 14 .cxlReset 1 [1] ∧ u.mb.hdmCommitted = false ∧ u.mb.linkUp = s.mb.linkUp ∧
      u.mb.held = [] ∧ u.mb.msixTable = [] ∧ u.mb.tags = s.mb.tags ∧ u.mb.journals = s.mb.journals ∧
      u.regs = s.regs ∧ u.tw = { s.tw with handLost := s.tw.handLost || s.tw.handTag.isSome }) ∧
  (∀ (s : State), s.sys.mode ≠ .off →
    ∃ t, exec (.cxlInterfaceReset false) s = .next t ∧
      Frame { regs := true, dic := true, mg := true, mb := true, le := true, tw := true } s t ∧ ∃ u : State, t =
        (u.post 481).log 14 .cxlReset 1 [0] ∧ u.mb.hdmCommitted = false ∧ u.mb.linkUp = false ∧
      u.mb.held = [] ∧ u.mb.msixTable = [] ∧ u.mb.tags = s.mb.tags ∧ u.mb.journals = s.mb.journals ∧
      u.regs = s.regs ∧ u.tw = { s.tw with handLost := s.tw.handLost || s.tw.handTag.isSome }) ∧
  (∀ (s : State), s.Inv → s.bit CK_STATUS_PTM_LOCKED = true →
    ∃ t, exec (.ptmDialog none) s = .next t ∧
      Frame { free := true, regs := true, dic := true, mg := true, mb := true, le := true } s t ∧ t.bit
        CK_STATUS_PTM_LOCKED = false ∧
      RegsBut (fun a => a = CK_STATUS_PTM_LOCKED.addr ∨ noteReg a) s t) ∧
  (∀ (s : State) (o : Int) (t0 : Nat), s.Inv → -1000 ≤ o → o ≤ 1000 → s.mb.ptmGoodSince = some t0 → t0 + secs 1 ≤
    s.time →
    ∃ t, exec (.ptmDialog (some o)) s = .next t ∧
      Frame { free := true, regs := true, dic := true, mg := true, mb := true, le := true } s t ∧ t.bit
        CK_STATUS_PTM_LOCKED = true ∧ t.rd CK_PTM_OFFSET = wrapInt 32 o ∧
      RegsBut (fun a => a = CK_STATUS_PTM_LOCKED.addr ∨ a = CK_PTM_OFFSET.addr ∨ a = CK_SLEW.addr ∨ noteReg a) s t) ∧
  (∀ (s : State) (o : Option Int),
    ∃ t, exec (.ptmDialog o) s = .next t ∧
      Frame { free := true, regs := true, dic := true, mg := true, mb := true, le := true } s t ∧ ∃ (g l : Bool) (q :
        Option Nat) (u v : State), g = o.any (fun x => decide (-1000 ≤ x ∧ x ≤ 1000)) ∧
      q = (if g then some (s.mb.ptmGoodSince.getD s.time) else none) ∧ l = q.any (fun t0 => decide (t0 + secs 1 ≤
        s.time)) ∧
      u = (s.onMb fun y => { y with ptmGoodSince := q, ptmLast := some s.time }).putBit CK_STATUS_PTM_LOCKED l ∧
      (o = none → v = u) ∧
      (∀ x, o = some x → v = (((u.wr CK_PTM_OFFSET (wrapInt 32 x)).wr CK_SLEW (wrapInt 16 (clampInt (-slewLimit)
        slewLimit (signedOf 16 u.freeNat)))).drew).post 483) ∧
      t = if s.bit CK_STATUS_PTM_LOCKED && !l then v.note 16 .ptmLost 1 [] 1 else v) ∧
  (∀ (s : State) (d : Nat) (p : Bool), s.bit CK_STATUS_TIME_VALID = true ∨ s.timeSource p = false → ∃ t, exec
    (.timebaseStep d p) s = .next t ∧ Frame { time := true, regs := true, sys := true, mg := true, tw := true } s t ∧
      t = s) ∧
  (∀ (s : State) (d : Nat) (p : Bool), s.Inv → s.bit CK_STATUS_TIME_VALID = false → s.timeSource p = true →
    ∃ t, exec (.timebaseStep d p) s = .next t ∧
      Frame { time := true, regs := true, sys := true, mg := true, tw := true } s t ∧ t.time = d ∧ t.bit
        CK_STATUS_TIME_VALID = true ∧ t.bit CK_STATUS_TIME_STEPPED = true ∧
      t.sys.lastTick = none ∧ t.sys.lastFrame = none ∧
      RegsBut (fun a => a = CK_STATUS_TIME_VALID.addr ∨ noteReg a) s t) ∧
  (∀ (s : State) (b : Bool),
    ∃ t, exec (.aerError b) s = .next t ∧ Frame { regs := true, dic := true, mg := true, mb := true, le := true } s t
      ∧ ∃ u : State, u.mb = { s.mb with aerCorr := s.mb.aerCorr + (1 - b2n b), aerUncorr := s.mb.aerUncorr + b2n b } ∧
      u.regs = s.regs ∧ t = u.note 14 .aer 1 [b2n b] 482) ∧
  (∀ (s : State) (op : BitVec 16), ∃ t, exec (.unsupportedCommand op) s = .next t ∧
    Frame { regs := true, dic := true, mb := true, le := true } s t ∧ t = if s.sys.mode = .off then s else
      (s.asked.reply { rc := 1, body := leBytes 2 op.toNat }).msixSend 0) ∧
  (∀ (s : State), ∃ t, exec .identifyMemoryDevice s = .next t ∧
    Frame { regs := true, sys := true, dic := true, mb := true, le := true, tw := true } s t ∧ t = s.standard
      (leBytes 8 1920 ++ leBytes 8 1920 ++ leBytes 8 0 ++ leBytes 8 0)) ∧
  (∀ (s : State), ∃ t, exec .getSupportedLogs s = .next t ∧
    Frame { regs := true, sys := true, dic := true, mb := true, le := true, tw := true } s t ∧ t = s.standard
      (leBytes 2 1 ++ leBytes 4 (4 * waxusOpcodes.length))) ∧
  (∀ (s : State), ∃ t, exec .getLog s = .next t ∧
    Frame { regs := true, sys := true, dic := true, mb := true, le := true, tw := true } s t ∧ t = s.standard
      (waxusOpcodes.flatMap fun o => leBytes 2 o ++ leBytes 2 (if readOpcodes.contains o then 0 else 2))) ∧
  (∀ (s : State), ∃ t, exec .getEventRecords s = .next t ∧
    Frame { regs := true, sys := true, dic := true, mb := true, le := true, tw := true } s t ∧ t = s.standard
      (leBytes 2 s.mb.dramEvents.length ++ s.mb.dramEvents.flatMap fun e => leBytes 2 (if e.1 then 2 else 1) ++
        leBytes 8 e.2.1 ++ leBytes 8 e.2.2)) ∧
  (∀ (s : State) (n : Nat), ∃ t, exec (.clearEventRecords n) s = .next t ∧
    Frame { regs := true, sys := true, dic := true, mb := true, le := true, tw := true } s t ∧ t = (s.onMb fun y =>
      { y with dramEvents := y.dramEvents.drop n }).standard []) ∧
  (∀ (s : State), ∃ t, exec .getTimestamp s = .next t ∧
    Frame { regs := true, sys := true, dic := true, mb := true, le := true, tw := true } s t ∧ t = s.standard
      (leBytes 8 s.stampNow)) ∧
  (∀ s : State, s.mb.stamp = none → s.stampNow = s.time * 10 % 2 ^ 64) ∧
  (∀ (s : State) (v t0 : Nat), s.mb.stamp = some (v, t0) → s.stampNow = (v + (s.time - t0) * 10) % 2 ^ 64) ∧
  (∀ (s : State) (ns : BitVec 64), ∃ t, exec (.setTimestamp ns) s = .next t ∧
    Frame { regs := true, sys := true, dic := true, mb := true, le := true, tw := true } s t ∧ t = if s.sys.mode =
      .off then s else (s.onMb fun y => { y with stamp := some (ns.toNat, s.time) }).standard []) ∧
  ∀ (s : State) (b : List Byte), (s.sys.mode = .off → s.standard b = s) ∧ (s.sys.mode ≠ .off →
    (s.standard b).mb.replies.head? = some { rc := 0, body := b } ∧
    (s.standard b).mb.commands = s.mb.commands + 1 ∧ (s.standard b).mb.lastCommand = some s.time ∧
    Frame { regs := true, sys := true, dic := true, mb := true, le := true, tw := true } s (s.standard b))

/-- A packet still incomplete after VQ_PKT_TIMEOUT is discarded, its charge returned and the queue's TIMEOUTS counter incremented.
In every state, an ingest packet in a context's assembly slot whose first word arrived VQ_PKT_TIMEOUT before, taken
from 10 to 10,000 microseconds, is discarded: its slot is emptied, its charge returned and the queue's TIMEOUTS
counter incremented; a sample packet begun as long before is discarded and its queue's TIMEOUTS counter incremented;
one still within its time, and a queue or slot with none, stay as they are; the timeout reads 100 microseconds at
reset. -/
def Obligations.PacketTimeoutRule : Prop :=
  (∀ (s : State) (c : Fin 4096) (b : Bool) (t0 : Nat), s.Inv → (s.asm (2 * c + b2n b)).refused = none →
    (s.asm (2 * c + b2n b)).since = some t0 → t0 + usec (clampNat 10 10000 (s.rd VQ_PKT_TIMEOUT)) ≤ s.time →
    ∃ t, exec (.packetTimeout (.ingest c) b) s = .next t ∧
      Frame { regs := true, dic := true, mg := true, vq := true, le := true } s t ∧ ∃ u : State, u = (s.setAsm (2 * c
        + b2n b) {}).returnLines c (s.asm (2 * c + b2n b)).charged ∧
      t.vq = u.vq ∧ t.rd (VQ_IQ_TIMEOUTS (c / 64)) = min (s.rd (VQ_IQ_TIMEOUTS (c / 64)) + 1) (2 ^ 16 - 1) ∧
      RegsBut (fun a => a = (VQ_IQ_TIMEOUTS (c / 64)).addr ∨ noteReg a) u t) ∧
  (∀ (s : State) (c : Fin 4096) (b : Bool), (s.asm (2 * c + b2n b)).refused = none →
    (s.asm (2 * c + b2n b)).since.all (fun t0 => decide (s.time < t0 + usec (clampNat 10 10000 (s.rd
      VQ_PKT_TIMEOUT)))) = true →
    ∃ t, exec (.packetTimeout (.ingest c) b) s = .next t ∧
      Frame { regs := true, dic := true, mg := true, vq := true, le := true } s t ∧ t = s) ∧
  (∀ (s : State) (q : Fin 32) (b : Bool) (t0 : Nat), s.Inv → (s.sq q).since = some t0 → t0 + usec (clampNat 10 10000
    (s.rd VQ_PKT_TIMEOUT)) ≤ s.time →
    ∃ t, exec (.packetTimeout (.sample q) b) s = .next t ∧
      Frame { regs := true, dic := true, mg := true, vq := true, le := true } s t ∧ t.vq =
        { s.vq with sq := tset {} s.vq.sq q { s.sq q with since := none, marked := false } } ∧
      t.rd (VQ_SQ_TIMEOUTS q) = min (s.rd (VQ_SQ_TIMEOUTS q) + 1) (2 ^ 16 - 1)) ∧
  (∀ (s : State) (q : Fin 32) (b : Bool), (s.sq q).since.all (fun t0 => decide (s.time < t0 + usec (clampNat 10 10000
    (s.rd VQ_PKT_TIMEOUT)))) = true →
    ∃ t, exec (.packetTimeout (.sample q) b) s = .next t ∧
      Frame { regs := true, dic := true, mg := true, vq := true, le := true } s t ∧ t = s) ∧
  State.reset.rd VQ_PKT_TIMEOUT = 100

/-- A sample queue swaps banks when its read bank is empty and its filling bank holds a committed packet, at a packet boundary alone.
With the read bank empty and a committed packet in the filling bank, the banks swap; with the read bank not empty, or
both empty, they stay. A commit that the queue takes puts its whole packet into the filling bank and leaves the read
bank alone, whatever they hold: no swap falls within it, and a packet committed as the banks swap goes to the bank
that fills from then on, which the swap has left empty. -/
def Obligations.BankSwapRule : Prop :=
  (∀ (s : State) (q : Fin 32), (s.sq q).read = [] → (s.sq q).fill ≠ [] →
    ∃ t, exec (.sampleBankSwap q) s = .next t ∧ Frame { regs := true, dic := true, vq := true, le := true } s t ∧
      t.sq q = { s.sq q with read := (s.sq q).fill, fill := [] }) ∧
  (∀ (s : State) (q : Fin 32), (s.sq q).read ≠ [] → ∃ t, exec (.sampleBankSwap q) s = .next t ∧
    Frame { regs := true, dic := true, vq := true, le := true } s t ∧ t.sq q = s.sq q) ∧
  (∀ (s : State) (q : Fin 32), (s.sq q).read = [] → (s.sq q).fill = [] →
    ∃ t, exec (.sampleBankSwap q) s = .next t ∧ Frame { regs := true, dic := true, vq := true, le := true } s t ∧
      t.vq = { s.vq with sq := tset {} s.vq.sq q (s.sq q) }) ∧
  ∀ (s : State) (q stream stamp : Nat) (p : List Nat), s.bit VQ_CTRL_SQ_EN = true → s.bit (VQ_SQ_CTRL_ENABLE q) =
    true →
    (toLines stream none 3 true (((stream * 2 ^ 24 + (p.length + 1) * 2 ^ 16 + (s.sq q).seq % 65536) :: stamp % 2 ^
      32 :: p).flatMap (leBytes 4))).length ≤ (s.sq q).credits →
    (s.sq q).flushing = false → p ≠ [] →
    ((s.samplePacketAt q stream stamp p).sq q).read = (s.sq q).read ∧
    ∃ l, l ≠ [] ∧ ((s.samplePacketAt q stream stamp p).sq q).fill = (s.sq q).fill ++ l

/-- The states that a read and a write of a register answer, and the access codes of a written field.
A read and a write at an address that no block decodes give a bus error and change nothing else; a reserved offset of
the doorbell controller reads 0 and discards writes. A view, and every word the controller computes, reads as it
stands. A read that has work of its own does it: of a POP register nothing, of word 0 and word 17 of a message buffer
the lock and the release, with the word returned. Any other read returns the word, with write-only fields as 0, and
clears its RC fields; of CK_TIME_LO it first latches the timebase in the two words. A write that the initiator may not
make, that has a command of its own, to a reserved offset or that a block holds off changes nothing; any other writes
the word field by field by the access codes, and then its work follows. CK_TIME_LO_READ returns the low word of the
timebase and latches both words. -/
def Obligations.RegisterAccess : Prop :=
  (∀ (s : State) (a : BitVec 32), s.dicWord a.toNat = none → s.ownRead a.toNat = none → findRow a.toNat = none →
    ∃ t, exec (.rcRegisterRead a) s = .next t ∧
      Frame { regs := true, sys := true, dic := true, mg := true, mb := true, le := true, pf := true, tr := true, fb := true, tw := true } s t ∧ t = s.reply { rc := 1 }) ∧
  (∀ (s : State) (a : BitVec 32) (w : Nat), s.dicWord a.toNat = some w → ∃ t, exec (.rcRegisterRead a) s = .next t ∧
    Frame { regs := true, sys := true, dic := true, mg := true, mb := true, le := true, pf := true, tr := true, fb := true, tw := true } s t ∧ t = s.reply { body := leBytes 4 w }) ∧
  (∀ (s : State) (k w : Nat), k < 9 → k ≠ 1 → w < 64 → s.dicWord (0x40003100 + 0x200 * k + 4 * w) = some (s.view k
    w)) ∧
  (∀ (s : State) (a : Nat), 0x40000000 ≤ a → a < 0x40003000 → a % 4 = 0 → findRow a = none → s.dicWord a = some 0) ∧
  (∀ (s u : State) (a : BitVec 32), s.dicWord a.toNat = none → s.ownRead a.toNat = some u → ∃ t, exec
    (.rcRegisterRead a) s = .next t ∧
      Frame { regs := true, sys := true, dic := true, mg := true, mb := true, le := true, pf := true, tr := true, fb := true, tw := true } s t ∧ t = u) ∧
  (∀ (s : State) (a : Nat), popWord a = true → s.ownRead a = some s) ∧
  (∀ (s : State) (n m : Nat), n < 4 → m < 64 → s.ownRead (0x45010000 + 0x2000 * n + 0x48 * m) =
    some ((s.mbLock n m).reply { body := leBytes 4 (s.word (0x45010000 + 0x2000 * n + 0x48 * m)) })) ∧
  (∀ (s : State) (n m : Nat), n < 4 → m < 64 → s.ownRead (0x45010000 + 0x2000 * n + 0x48 * m + 0x44) =
    some ((s.mbUnlock n m).reply { body := leBytes 4 (s.word (0x45010000 + 0x2000 * n + 0x48 * m + 0x44)) })) ∧
  (∀ (s : State) (a : BitVec 32) (r : RegRow) (n : Nat), s.dicWord a.toNat = none → s.ownRead a.toNat = none →
    findRow a.toNat = some (r, n) →
    ∃ t, exec (.rcRegisterRead a) s = .next t ∧
      Frame { regs := true, sys := true, dic := true, mg := true, mb := true, le := true, pf := true, tr := true, fb := true, tw := true } s t ∧ ∃ u : State, u = s.beforeRead a.toNat ∧
      t = (u.wr ⟨a.toNat, 31, 0⟩ (clearWord r (u.word a.toNat))).reply
        { body := leBytes 4 (readWord r (u.word a.toNat)) }) ∧
  (∀ (s : State) (a : BitVec 32) (r : RegRow) (n : Nat), s.Inv → s.sys.mode ≠ .off → s.dicWord a.toNat = none →
    s.ownRead a.toNat = none →
    findRow a.toNat = some (r, n) → s.beforeRead a.toNat = s →
    ∃ t, exec (.rcRegisterRead a) s = .next t ∧
      Frame { regs := true, sys := true, dic := true, mg := true, mb := true, le := true, pf := true, tr := true, fb := true, tw := true } s t ∧ t.mb.replies.head? = some { rc := 0, body := leBytes 4 (readWord r (s.word a.toNat)) } ∧
      t.word a.toNat = clearWord r (s.word a.toNat) % 2 ^ 32 ∧ RegsBut (· = a.toNat) s t) ∧
  (∀ s : State, s.beforeRead CK_TIME_LO.addr = s.wr64 CK_TIME_LO s.time) ∧
  (∀ (s : State) (i : Initiator) (a v : BitVec 32), findRow a.toNat = none → ∃ t, exec (.registerWrite i a v) s =
    .next t ∧
      Frame { Parts.full with time := false, free := false, mem := false, pb := false, vq := false, ca := false } s t
        ∧ t = if dicReserved a.toNat then s else s.reply { rc := 1 }) ∧
  (∀ (s : State) (i : Initiator) (a v : BitVec 32) (r : RegRow) (n : Nat), findRow a.toNat = some (r, n) →
    dicReserved a.toNat = true ∨ mayWrite i a.toNat = false ∨ ownWrite a.toNat = true ∨ s.heldWord a.toNat = true →
    ∃ t, exec (.registerWrite i a v) s = .next t ∧
      Frame { Parts.full with time := false, free := false, mem := false, pb := false, vq := false, ca := false } s t
        ∧ t = s) ∧
  (∀ (s : State) (i : Initiator) (a v : BitVec 32) (r : RegRow) (n : Nat), s.Inv → findRow a.toNat = some (r, n) →
    dicReserved a.toNat = false →
    mayWrite i a.toNat = true → ownWrite a.toNat = false → s.heldWord a.toNat = false →
    ∃ t, exec (.registerWrite i a v) s = .next t ∧
      Frame { Parts.full with time := false, free := false, mem := false, pb := false, vq := false, ca := false } s t
        ∧ ∃ u : State, u.word a.toNat = s.wordAfter r a.toNat v.toNat % 2 ^ 32 ∧ RegsBut (· = a.toNat) s u ∧
      t = u.afterWrite a.toNat v.toNat (s.word a.toNat)) ∧
  (∀ (s : State) (a v w : Nat) (f : RegField), f.acc = .ro ∨ f.acc = .rc ∨ f.acc = .wo ∨ f.acc = .w1s → s.writeField
    a v w f = w) ∧
  (∀ (s : State) (a v w : Nat) (f : RegField), f.acc = .rw → s.heldField a f v = false →
    s.writeField a v w f = withBits w f.hi f.lo (bitsOf v f.hi f.lo)) ∧
  (∀ (s : State) (a v w : Nat) (f : RegField), f.acc = .rwl → s.bit TM_CTRL_LOCK = true → s.writeField a v w f = w) ∧
  (∀ (s : State) (a v w : Nat) (f : RegField), f.acc = .rwl → s.bit TM_CTRL_LOCK = false →
    s.writeField a v w f = withBits w f.hi f.lo (bitsOf v f.hi f.lo)) ∧
  (∀ (s : State) (a v w : Nat) (f : RegField), f.acc = .w1c →
    s.writeField a v w f = withBits w f.hi f.lo (bitsOf w f.hi f.lo - (bitsOf w f.hi f.lo &&& bitsOf v f.hi f.lo))) ∧
  ∀ (s : State), s.Inv → s.sys.mode ≠ .off → s.time < 2 ^ 64 →
    ∃ t, exec .ckTimeLoRead s = .next t ∧ Frame { regs := true, mb := true } s t ∧ t.rd64 CK_TIME_LO = s.time ∧
      t.mb.replies.head? = some { rc := 0, body := leBytes 4 s.time } ∧
      RegsBut (fun a => a = CK_TIME_LO.addr ∨ a = CK_TIME_LO.addr + 4) s t

/-- The states that a row of the trip matrix, its lock and the clearing of its latches answer.
A row that is asserted and not latched sets its latch, is logged and posts doorbell 8 plus its action code, and acts
once the outputs are enabled; a row that is not asserted, or that is latched, changes nothing. TM_CTRL.LOCK locks the
matrix and captures its CRC once. A W1C write clears the latches named whose inputs are no longer asserted, one after
the other, and settles the brakes and the core divider. -/
def Obligations.TripMatrix : Prop :=
  (∀ (s : State) (r : Fin 128), s.rowAsserted r = false → ∃ t, exec (.tripRowLatch r) s = .next t ∧
    Frame { Parts.full with time := false, free := false, mem := false, sn := false, fb := false, ca := false } s t ∧
      t = s) ∧
  (∀ (s : State) (r : Fin 128), s.tmLatched r = true → ∃ t, exec (.tripRowLatch r) s = .next t ∧
    Frame { Parts.full with time := false, free := false, mem := false, sn := false, fb := false, ca := false } s t ∧
      t = s) ∧
  (∀ (s : State) (r : Fin 128), s.rowAsserted r = true → s.tmLatched r = false →
    ∃ t, exec (.tripRowLatch r) s = .next t ∧
      Frame { Parts.full with time := false, free := false, mem := false, sn := false, fb := false, ca := false } s t
        ∧ ∃ u : State, u = (s.setTmLatch r true).note 16 .tripLatched 2 [(r : Nat)] (8 + s.rd (TM_ROW_ACTION r)) ∧
      t = if u.bit TM_CTRL_OUT_EN then u.tripAct r else u) ∧
  (∀ (s : State) (r : Fin 128), s.Inv → (s.setTmLatch r true).tmLatched r = true ∧
    RegsBut (· = (TM_LATCH (r / 32)).addr) s (s.setTmLatch r true)) ∧
  (∀ (s : State), s.bit TM_CTRL_LOCK = true → ∃ t, exec .tmLockWrite s = .next t ∧ Frame { regs := true } s t ∧ t =
    s) ∧
  (∀ (s : State), s.Inv → s.bit TM_CTRL_LOCK = false →
    ∃ t, exec .tmLockWrite s = .next t ∧ Frame { regs := true } s t ∧ t.bit TM_CTRL_LOCK = true ∧ t.rd TM_CRC =
      s.tmCrcNow % 2 ^ 32 ∧ t.rd TM_CRC_LOCK = s.tmCrcNow % 2 ^ 32 ∧
      RegsBut (fun a => a = TM_CTRL_LOCK.addr ∨ a = TM_CRC.addr ∨ a = TM_CRC_LOCK.addr) s t) ∧
  (∀ (s : State) (w : Fin 4) (v : BitVec 32),
    ∃ t, exec (.tripLatchClear w v) s = .next t ∧ Frame { regs := true, pb := true } s t ∧ t = ((upto 32).foldl (fun
      s i => if bitOf v.toNat i then s.tmClear (32 * w + i) else s) s).tmSettle) ∧
  (∀ (s : State) (r : Nat), s.tripInput (s.rd (TM_ROW_INPUT r)) = true → s.tmClear r = s) ∧
  ∀ (s : State) (r : Nat), s.Inv → r < 128 → s.tmLatched r = true → s.tripInput (s.rd (TM_ROW_INPUT r)) = false →
    (s.tmClear r).tmLatched r = false ∧ RegsBut (· = (TM_LATCH (r / 32)).addr) s (s.tmClear r)

/-- The states that the connections, reads and writes of the Modbus server answer.
A connection opens while fewer than 4 are open and it is not open yet, and closes after 60 s idle. A request on a
connection that is not open does nothing. A read of holding or input registers gives its registers, or exception 3 for
its count and 2 for its address. A write off the ACTIVE module or without a grant gives exception 1, one of no
registers or more than 123 exception 3, one outside the map exception 2, one of half the row budget exception 3, and
any other is applied and answered; the alarm acknowledge writes 1 to register 0. Another function gives exception 1. -/
def Obligations.ModbusServer : Prop :=
  (∀ (s : State) (k : Nat), s.mg.conns.length < 4 → s.mbOpen k = false →
    ∃ t, exec (.modbusConnection k) s = .next t ∧ Frame { mg := true } s t ∧ t = s.onMg fun y =>
      { y with conns := y.conns ++ [{ id := k, lastActive := s.time }] }) ∧
  (∀ (s : State) (k : Nat), 4 ≤ s.mg.conns.length ∨ s.mbOpen k = true → ∃ t, exec (.modbusConnection k) s = .next t ∧
    Frame { mg := true } s t ∧ t = s) ∧
  (∀ (s : State) (k : Nat),
    ∃ t, exec (.modbusIdleClose k) s = .next t ∧ Frame { mg := true } s t ∧ t.mg =
      { s.mg with conns := s.mg.conns.filter fun c => !(c.id == k && decide (c.lastActive + secs 60 ≤ s.time)) }) ∧
  (∀ (s : State) (k : Nat) (a n : BitVec 16), s.mbOpen k = false → ∃ t, exec (.modbusReadHolding k a n) s = .next t ∧
    Frame { mg := true, mb := true } s t ∧ t = s) ∧
  (∀ (s : State) (k : Nat) (a n : BitVec 16), s.mbOpen k = true → n.toNat = 0 ∨ 125 < n.toNat →
    ∃ t, exec (.modbusReadHolding k a n) s = .next t ∧ Frame { mg := true, mb := true } s t ∧ t = s.mbAnswer k 3 []) ∧
  (∀ (s : State) (k : Nat) (a n : BitVec 16), s.mbOpen k = true → 1 ≤ n.toNat → n.toNat ≤ 125 → 7 < a.toNat + n.toNat
    →
    ∃ t, exec (.modbusReadHolding k a n) s = .next t ∧ Frame { mg := true, mb := true } s t ∧ t = s.mbAnswer k 2 []) ∧
  (∀ (s : State) (k : Nat) (a n : BitVec 16), s.mbOpen k = true → 1 ≤ n.toNat → a.toNat + n.toNat ≤ 7 →
    ∃ t, exec (.modbusReadHolding k a n) s = .next t ∧ Frame { mg := true, mb := true } s t ∧ t = s.mbAnswer k 0
      (leBytes 1 (2 * n.toNat) ++ beWords ((upto n.toNat).map fun i => s.holdingReg (a.toNat + i)))) ∧
  (∀ (s : State) (k : Nat) (a n : BitVec 16), s.mbOpen k = false → ∃ t, exec (.modbusReadInput k a n) s = .next t ∧
    Frame { mg := true, mb := true } s t ∧ t = s) ∧
  (∀ (s : State) (k : Nat) (a n : BitVec 16), s.mbOpen k = true → n.toNat = 0 ∨ 125 < n.toNat →
    ∃ t, exec (.modbusReadInput k a n) s = .next t ∧ Frame { mg := true, mb := true } s t ∧ t = s.mbAnswer k 3 []) ∧
  (∀ (s : State) (k : Nat) (a n : BitVec 16), s.mbOpen k = true → 1 ≤ n.toNat → n.toNat ≤ 125 → a.toNat + n.toNat ≤
    92 →
    ∃ t, exec (.modbusReadInput k a n) s = .next t ∧ Frame { mg := true, mb := true } s t ∧ t = s.mbAnswer k 0
      (leBytes 1 (2 * n.toNat) ++ beWords ((upto n.toNat).map fun i => s.inputReg (a.toNat + i)))) ∧
  (∀ (s : State) (k : Nat) (a n : BitVec 16), s.mbOpen k = true → 1 ≤ n.toNat → n.toNat ≤ 125 → 92 < a.toNat +
    n.toNat →
    ∃ t, exec (.modbusReadInput k a n) s = .next t ∧ Frame { mg := true, mb := true } s t ∧ t = s.mbAnswer k 2 []) ∧
  (∀ (s : State) (k : Nat) (a v : BitVec 16), s.mbOpen k = false → ∃ t, exec (.modbusWriteSingle k a v) s = .next t ∧
    Frame { mg := true, mb := true, pb := true, tw := true } s t ∧ t = s) ∧
  (∀ (s : State) (k : Nat) (a v : BitVec 16), s.mbOpen k = true → s.isActive = false ∨ s.mg.grantEnd = none →
    ∃ t, exec (.modbusWriteSingle k a v) s = .next t ∧ Frame { mg := true, mb := true, pb := true, tw := true } s t ∧
      t = s.mbAnswer k 1 []) ∧
  (∀ (s : State) (k : Nat) (a v : BitVec 16), s.mbOpen k = true → s.isActive = true → s.mg.grantEnd.isSome = true → 7
    ≤ a.toNat →
    ∃ t, exec (.modbusWriteSingle k a v) s = .next t ∧ Frame { mg := true, mb := true, pb := true, tw := true } s t ∧
      t = s.mbAnswer k 2 []) ∧
  (∀ (s : State) (k : Nat) (a v : BitVec 16), s.mbOpen k = true → s.isActive = true → s.mg.grantEnd.isSome = true →
    a.toNat = 4 ∨ a.toNat = 5 → ∃ t, exec (.modbusWriteSingle k a v) s = .next t ∧
      Frame { mg := true, mb := true, pb := true, tw := true } s t ∧ t = s.mbAnswer k 3 []) ∧
  (∀ (s : State) (k : Nat) (a v : BitVec 16), s.mbOpen k = true → s.isActive = true → s.mg.grantEnd.isSome = true →
    a.toNat < 7 → a.toNat ≠ 4 → a.toNat ≠ 5 →
    ∃ t, exec (.modbusWriteSingle k a v) s = .next t ∧ Frame { mg := true, mb := true, pb := true, tw := true } s t ∧
      t = (s.mbApply [(a.toNat, v.toNat)]).mbAnswer k 0 (beWords [a.toNat, v.toNat])) ∧
  (∀ (s : State) (k : Nat) (a : BitVec 16) (l : List (BitVec 16)), s.mbOpen k = false →
    ∃ t, exec (.modbusWriteMultiple k a l) s = .next t ∧ Frame { mg := true, mb := true, pb := true, tw := true } s t
      ∧ t = s) ∧
  (∀ (s : State) (k : Nat) (a : BitVec 16) (l : List (BitVec 16)), s.mbOpen k = true → s.isActive = false ∨
    s.mg.grantEnd = none →
    ∃ t, exec (.modbusWriteMultiple k a l) s = .next t ∧ Frame { mg := true, mb := true, pb := true, tw := true } s t
      ∧ t = s.mbAnswer k 1 []) ∧
  (∀ (s : State) (k : Nat) (a : BitVec 16) (l : List (BitVec 16)), s.mbOpen k = true → s.isActive = true →
    s.mg.grantEnd.isSome = true → l = [] ∨ 123 < l.length →
    ∃ t, exec (.modbusWriteMultiple k a l) s = .next t ∧ Frame { mg := true, mb := true, pb := true, tw := true } s t
      ∧ t = s.mbAnswer k 3 []) ∧
  (∀ (s : State) (k : Nat) (a : BitVec 16) (l : List (BitVec 16)), s.mbOpen k = true → s.isActive = true →
    s.mg.grantEnd.isSome = true → l ≠ [] → l.length ≤ 123 →
    7 < a.toNat + l.length →
    ∃ t, exec (.modbusWriteMultiple k a l) s = .next t ∧ Frame { mg := true, mb := true, pb := true, tw := true } s t
      ∧ t = s.mbAnswer k 2 []) ∧
  (∀ (s : State) (k : Nat) (a : BitVec 16) (l : List (BitVec 16)), s.mbOpen k = true → s.isActive = true →
    s.mg.grantEnd.isSome = true → l ≠ [] → a.toNat + l.length ≤ 7 →
    (a.toNat ≤ 4 ∧ a.toNat + l.length = 5) ∨ a.toNat = 5 →
    ∃ t, exec (.modbusWriteMultiple k a l) s = .next t ∧ Frame { mg := true, mb := true, pb := true, tw := true } s t
      ∧ t = s.mbAnswer k 3 []) ∧
  (∀ (s : State) (k : Nat) (a : BitVec 16) (l : List (BitVec 16)), s.mbOpen k = true → s.isActive = true →
    s.mg.grantEnd.isSome = true →
    l ≠ [] → a.toNat + l.length ≤ 7 → (a.toNat + l.length ≤ 4 ∨ 6 ≤ a.toNat ∨ (a.toNat ≤ 4 ∧ 6 ≤ a.toNat + l.length))
      →
    ∃ t, exec (.modbusWriteMultiple k a l) s = .next t ∧ Frame { mg := true, mb := true, pb := true, tw := true } s t
      ∧ t = (s.mbApply ((l.map BitVec.toNat).zipIdx.map fun p => (a.toNat + p.2, p.1))).mbAnswer k 0 (beWords
        [a.toNat, l.length])) ∧
  (∀ (s : State) (k : Nat), s.mbOpen k = false → ∃ t, exec (.modbusAlarmAck k) s = .next t ∧
    Frame { mg := true, mb := true, pb := true, tw := true } s t ∧ t = s) ∧
  (∀ (s : State) (k : Nat), s.mbOpen k = true → s.isActive = false ∨ s.mg.grantEnd = none → ∃ t, exec
    (.modbusAlarmAck k) s = .next t ∧ Frame { mg := true, mb := true, pb := true, tw := true } s t ∧ t = s.mbAnswer k
      1 []) ∧
  (∀ (s : State) (k : Nat), s.mbOpen k = true → s.isActive = true → s.mg.grantEnd.isSome = true →
    ∃ t, exec (.modbusAlarmAck k) s = .next t ∧ Frame { mg := true, mb := true, pb := true, tw := true } s t ∧ t =
      (s.mbApply [(0, 1)]).mbAnswer k 0 (beWords [0, 1])) ∧
  (∀ (s : State) (k : Nat), s.mbOpen k = true → ∃ t, exec (.modbusBadFunction k) s = .next t ∧
    Frame { mg := true, mb := true } s t ∧ t = s.mbAnswer k 1 []) ∧
  ∀ (s : State) (k : Nat), s.mbOpen k = false → ∃ t, exec (.modbusBadFunction k) s = .next t ∧
    Frame { mg := true, mb := true } s t ∧ t = s

/-- The states that the board's monitors, the clock and the power events answer.
A board reading is kept and its warning raised or ended, and 24 V back at 18 V ends the actuator warning. A die's
reading is kept, its warning raised after 100 ms at 100 C and ended below; 1 ms at 110 C enters FAILED. A lost 48 V
input with the supply on, a lost PLL lock and an uncorrectable error in the supervisor's memory enter FAILED; an error
elsewhere is logged. The timebase is saved, and a stalled core and a flush of the log act, while the module has
supply. WARM_ARM by the supervisor is set, and past its time resets at once a module not off and not FAILED. The PLL's
lock in BOOT starts the clock, from the saved value plus 1 s on a cold start. A line seen owned, and not invalid until
then, releases the excitation of a module that is not ACTIVE, makes an UNDECIDED one STANDBY, and isolates one that
has lost its partner. The excitation is asserted where the module may. A pulse report takes its pulse, the NAMUR
checks and VALID. Where a command is not due nothing changes. -/
def Obligations.BoardAndClock : Prop :=
  (∀ (s : State) (q : Fin 24) (v : Int),
    ∃ t, exec (.boardSensorWarning q v) s = .next t ∧ Frame { regs := true, mg := true } s t ∧ ∃ u w : State, u =
      (s.onMg fun y => { y with board := tset 0 y.board q v }) ∧
      w = u.boardMark q (!u.boardOk q v) .boardSensor ∧
      t = if q.val = 1 ∧ 18000 ≤ v then w.boardMark 200 false .actuatorLow else w) ∧
  (∀ (s : State) (d : Fin 7) (k : Nat),
    ∃ t, exec (.dieTemperatureWarning d k) s = .next t ∧ Frame { regs := true, mg := true, sn := true } s t ∧ ∃ (u :
      State) (x : Nat × Option Nat × Option Nat), u = s.dieReading d k ∧ x = tget (0, none, none) u.sn.die d ∧
      t = if x.2.1.isNone then u.boardMark (100 + d) false .dieTemp
        else if u.since x.2.1 (msec 100) then u.boardMark (100 + d) true .dieTemp else u) ∧
  (∀ (s : State) (d : Fin 7) (k : Nat),
    ∃ t, exec (.dieShutdown d k) s = .next t ∧
      Frame { Parts.full with time := false, free := false, mem := false, pb := false, vq := false, fb := false, ca := false } s t ∧ ∃ u : State, u = s.dieReading d k ∧
      t = if u.since (tget (0, none, none) u.sn.die d).2.2 (msec 1) = true ∧ u.sys.mode ≠ .failed then (u.log 15
        .dieShutdown 3 [d.val]).enterFailed [3] else u) ∧
  (∀ s : State, s.sys.mode ≠ .off → s.sys.mode ≠ .failed →
    ∃ t, exec .vinUndervoltage s = .next t ∧
      Frame { Parts.full with time := false, free := false, mem := false, pb := false, vq := false, fb := false, ca := false } s t ∧ t = (s.log 15 .undervoltage 3 []).enterFailed [2]) ∧
  (∀ s : State, s.sys.mode = .off ∨ s.sys.mode = .failed → ∃ t, exec .vinUndervoltage s = .next t ∧
    Frame { Parts.full with time := false, free := false, mem := false, pb := false, vq := false, fb := false, ca := false } s t ∧ t = s) ∧
  (∀ s : State, ∃ t, exec .actuatorUndervoltage s = .next t ∧ Frame { regs := true, mg := true } s t ∧ t =
    s.boardMark 200 true .actuatorLow) ∧
  (∀ s : State, s.bit CK_STATUS_PLL_LOCK = true →
    ∃ t, exec .pllUnlock s = .next t ∧
      Frame { Parts.full with time := false, free := false, mem := false, pb := false, vq := false, fb := false, ca := false } s t ∧ t = ((((s.putBit CK_STATUS_PLL_LOCK false).putBit CK_STATUS_PLL_UNLOCK true).note 16 .pllUnlock 3 [] 0).enterFailed [0])) ∧
  (∀ s : State, s.bit CK_STATUS_PLL_LOCK = false → ∃ t, exec .pllUnlock s = .next t ∧
    Frame { Parts.full with time := false, free := false, mem := false, pb := false, vq := false, fb := false, ca := false } s t ∧ t = s) ∧
  (∀ (s : State) (c : Fin 8), 2 ≤ c.val → s.sys.mode ≠ .off →
    ∃ t, exec (.coreStallDetect c) s = .next t ∧ Frame { regs := true, mg := true, mb := true, tw := true } s t ∧ t =
      s.repliesLost.log 1 .coreStall 2 [c.val]) ∧
  (∀ s : State, s.archives = false ∨ s.ca.selfRefresh = true →
    ∃ t, exec .logFlush s = .next t ∧
      Frame { regs := true, mem := true, dic := true, mg := true, le := true, ca := true } s t ∧ t = (s.onMg fun y =>
        { y with ring := s.logAll.drop (s.logAll.length - 524288), buf := [] }).logMark) ∧
  (∀ s : State, s.sys.mode ≠ .off → ∃ t, exec .timebaseSave s = .next t ∧ Frame { mg := true } s t ∧ t = s.onMg fun y
    => { y with savedTime := s.time }) ∧
  (∀ s : State, s.sys.mode = .off → ∃ t, exec .timebaseSave s = .next t ∧ Frame { mg := true } s t ∧ t = s) ∧
  (∀ (s : State) (i : Initiator), bySupervisor i = false → ∃ t, exec (.warmArmWrite i) s = .next t ∧
    Frame { Parts.full with free := false } s t ∧ t = s) ∧
  (∀ (s : State) (i : Initiator), s.Inv → bySupervisor i = true → s.time < s.rd64 CK_WARM_AT_LO →
    ∃ t, exec (.warmArmWrite i) s = .next t ∧ Frame { Parts.full with free := false } s t ∧ t.bit CK_CTRL_WARM_ARM =
      true ∧ RegsBut (· = CK_CTRL_WARM_ARM.addr) s t) ∧
  (∀ (s : State) (i : Initiator), bySupervisor i = true → s.rd64 CK_WARM_AT_LO ≤ s.time → s.sys.mode ≠ .failed →
    s.sys.mode ≠ .off →
    ∃ t, exec (.warmArmWrite i) s = .next t ∧ Frame { Parts.full with free := false } s t ∧ t = (s.putBit
      CK_CTRL_WARM_ARM true).scheduledReset) ∧
  (∀ (s : State) (i : Initiator), bySupervisor i = true → s.sys.mode = .failed ∨ s.sys.mode = .off →
    ∃ t, exec (.warmArmWrite i) s = .next t ∧ Frame { Parts.full with free := false } s t ∧ t = s.putBit
      CK_CTRL_WARM_ARM true) ∧
  (∀ s : State, s.Inv → s.sys.mode = .boot → s.sys.phase = .reset → s.rd CK_STATUS_RESET_CAUSE = 1 →
    ∃ t, exec .pllLock s = .next t ∧ Frame { time := true, regs := true, sys := true, mg := true } s t ∧ t.time =
      s.mg.savedTime + secs 1 ∧ t.sys.phase = .rails ∧ t.bit CK_STATUS_PLL_LOCK = true ∧
      RegsBut (· = CK_STATUS_PLL_LOCK.addr) s t) ∧
  (∀ s : State, s.sys.mode = .boot → s.sys.phase = .reset → s.rd CK_STATUS_RESET_CAUSE ≠ 1 →
    ∃ t, exec .pllLock s = .next t ∧ Frame { time := true, regs := true, sys := true, mg := true } s t ∧ t.time =
      s.time ∧ t.sys.phase = .rails) ∧
  (∀ s : State, s.sys.mode ≠ .boot ∨ s.sys.phase ≠ .reset → ∃ t, exec .pllLock s = .next t ∧
    Frame { time := true, regs := true, sys := true, mg := true } s t ∧ t = s) ∧
  (∀ s : State, s.isActive = true ∨ s.sys.mode = .off ∨ 2 ≤ s.rd TW_STATUS_LINE → ∃ t, exec .ownershipLineOwned s =
    .next t ∧
      Frame { regs := true, sys := true, dic := true, mg := true, mb := true, le := true, sn := true, tw := true } s t ∧ t = s) ∧
  (∀ s : State, s.isActive = false → s.sys.mode ≠ .off → s.rd TW_STATUS_LINE < 2 →
    ∃ t, exec .ownershipLineOwned s = .next t ∧
      Frame { regs := true, sys := true, dic := true, mg := true, mb := true, le := true, sn := true, tw := true } s t ∧ ∃ u v : State, u = (((s.wr TW_STATUS_LINE 1).putBit TW_STATUS_OWN_H true).putBit TW_STATUS_OWN_L false).setExc false ∧
      v = (u.onTw fun y => { y with endSeen := if y.endSeen.isNone then some (u.frameAt u.time) else y.endSeen }) ∧
      t = (if v.sys.role = .undecided then v.setRole .standby else v).isolateStandby) ∧
  (∀ s : State, s.mayExcite = true → ∃ t, exec .excEnNAssert s = .next t ∧ Frame { sn := true } s t ∧ t = s.setExc
    true) ∧
  (∀ s : State, s.mayExcite = false → ∃ t, exec .excEnNAssert s = .next t ∧ Frame { sn := true } s t ∧ t = s) ∧
  (∀ (s : State) (n : Fin 8) (p : Option Nat) (ua : Nat), s.bit SN_CTRL = false ∨ s.bit (SN_PICFG_ENABLE n) = false →
    ∃ t, exec (.pulseInputMeasurement n p ua) s = .next t ∧
      Frame { regs := true, dic := true, mg := true, le := true, pf := true, sn := true } s t ∧ t = s) ∧
  (∀ (s : State) (n : Fin 8) (p : Option Nat) (ua : Nat), s.bit SN_CTRL = true → s.bit (SN_PICFG_ENABLE n) = true →
    ∃ t, exec (.pulseInputMeasurement n p ua) s = .next t ∧
      Frame { regs := true, dic := true, mg := true, le := true, pf := true, sn := true } s t ∧ ∃ u v w : State, u =
        s.setSnIn (72 + n) { s.snIn (72 + n) with at_ := some s.time } ∧
      v = (if p.getD 0 = 0 then u else u.pulseSeen n (p.getD 0)) ∧
      w = (if v.rd (SN_PICFG_MODE n) = 2 then v.namur n ua else v) ∧
      t = if w.bit (SN_PISTAT_OPEN n) = true ∨ w.bit (SN_PISTAT_SHORT n) = true then w else w.putBit (SN_PISTAT_VALID
        n) true) ∧
  (∀ (s : State) (e : KwErr) (b : Bool), kwCheck e = .ok → ∃ t, exec (.hubSramScrub e b) s = .next t ∧
    Frame { Parts.full with time := false, free := false, mem := false, pb := false, vq := false, fb := false, ca := false } s t ∧ t = s) ∧
  (∀ (s : State) (e : KwErr) (b : Bool), kwCheck e = .corrected → ∃ t, exec (.hubSramScrub e b) s = .next t ∧
    Frame { Parts.full with time := false, free := false, mem := false, pb := false, vq := false, fb := false, ca := false } s t ∧ t = s.log 13 .hubSram 0 []) ∧
  (∀ (s : State) (e : KwErr), kwCheck e = .uncorrectable → ∃ t, exec (.hubSramScrub e true) s = .next t ∧
    Frame { Parts.full with time := false, free := false, mem := false, pb := false, vq := false, fb := false, ca := false } s t ∧ t = (s.log 13 .hubSram 2 [1]).enterFailed [4]) ∧
  ∀ (s : State) (e : KwErr), kwCheck e = .uncorrectable → ∃ t, exec (.hubSramScrub e false) s = .next t ∧
    Frame { Parts.full with time := false, free := false, mem := false, pb := false, vq := false, fb := false, ca := false } s t ∧ t = s.log 13 .hubSram 2 [0]

/-- The bytes that the console commands that only read print.
Each reading console command answers the state that prints the bytes given, for every state: the registers of its
block, word by word, and for the whole-module commands the readings, texts, slots and counts listed, in that order;
the archive's read restarts the console's task where the data carries poison. Printing changes nothing but the
console's reply, which is the bytes where the module has supply. -/
def Obligations.ConsoleReads : Prop :=
  (∀ (s : State) (b : List Byte), (s.sys.mode ≠ .off → (s.prints b).mb.replies.head? = some { rc := 0, body := b }) ∧
    Frame { mb := true } s (s.prints b)) ∧
  (∀ s : State, ∃ t, exec .svcVer s = .next t ∧ Frame { mb := true } s t ∧ t = s.prints s.versionText) ∧
  (∀ s : State, ∃ t, exec .svcState s = .next t ∧ Frame { mb := true } s t ∧ t = s.prints (leBytes 1 s.sys.mode.code
    ++ leBytes 1 s.sys.role.code ++ s.words [TW_STATUS, TM_CTRL, TM_CRC, TM_CRC_LOCK])) ∧
  (∀ s : State, ∃ t, exec .svcSensors s = .next t ∧ Frame { mb := true } s t ∧ t = s.prints (((upto 24).flatMap fun q
    => leBytes 4 (wrapInt 32 (tget 0 s.mg.board q))) ++ s.words [SN_CPFLOW, SN_CPTIN, SN_CPTOUT, SN_CPSTAT] ++
      s.mg.boardWarn.flatMap (leBytes 2))) ∧
  (∀ s : State, ∃ t, exec .svcTp s = .next t ∧ Frame { mb := true } s t ∧ t = s.prints (leBytes 4 (wrapInt 32 (tget 0
    s.mg.board 0 / 20)) ++ leBytes 4 (wrapInt 32 (tget 0 s.mg.board 1 / 10)) ++
    leBytes 1 (s.rd TW_STATUS_OWN_H) ++ leBytes 1 (s.rd TW_STATUS_OWN_L) ++ leBytes 2 750 ++ leBytes 2 s.vddTr.toNat
      ++ leBytes 2 800 ++ leBytes 2 1200 ++ leBytes 2 3300 ++
    leBytes 4 (if s.frameCounts = 0 then 0 else 100000000000 / (2 * s.frameCounts)) ++ leBytes 4 1000 ++ s.words
      [CK_STATUS, CK_PTM_OFFSET] ++
    leBytes 2 (3300 * b2n s.mb.linkUp) ++ leBytes 4 s.cpFlowHz.toNat ++ leBytes 2 0 ++ leBytes 4 (1000 * s.rd
      MG_STATUS_MG_READY))) ∧
  (∀ (s : State) (n : Nat), ∃ t, exec (.svcLog (.some n)) s = .next t ∧ Frame { mb := true } s t ∧ t = s.prints
    ((s.logAll.drop (s.logAll.length - n)).flatMap LogRec.bytes)) ∧
  (∀ s : State, ∃ t, exec (.svcLog .none) s = .next t ∧ Frame { mb := true } s t ∧ t = s.prints ((s.logAll.drop
    (s.logAll.length - 20)).flatMap LogRec.bytes)) ∧
  (∀ s : State, ∃ t, exec .svcLogCodes s = .next t ∧ Frame { mb := true } s t ∧ t = s.prints Config.catalog) ∧
  (∀ s : State, ∃ t, exec .svcUpdate s = .next t ∧ Frame { mb := true } s t ∧ t = s.prints (leBytes 1 s.mg.runSlot ++
    leBytes 1 (b2n s.mg.trial) ++ leBytes 1 s.mg.fuse ++ leBytes 1 s.mg.slotA.svn ++ leBytes 1 s.mg.slotB.svn ++
    leBytes 4 s.mg.slotA.version ++ leBytes 4 s.mg.slotB.version ++
    (((s.mg.update.bind fun u => s.mb.journals.find? fun j => j.idx == u.journal).map Journal.link).getD []))) ∧
  (∀ s : State, ∃ t, exec .svcModbus s = .next t ∧ Frame { mb := true } s t ∧ t = s.prints (leBytes 1
    s.mg.conns.length ++ leBytes 2 s.grantLeft ++ leBytes 1 s.mg.lastException ++ leBytes 2 s.alarmWord)) ∧
  (∀ s : State, ∃ t, exec .svcLe s = .next t ∧ Frame { mb := true } s t ∧ t = s.prints (s.words [LE_STATUS,
    LE_FRAME_NUM_LO, LE_FRAME_NUM_HI, LE_MISS_COUNT])) ∧
  (∀ (s : State) (k : Fin 4608), ∃ t, exec (.svcLoop k) s = .next t ∧ Frame { mb := true } s t ∧ t = s.prints
    (leBytes 1 (s.effMode k) ++ s.words [SL_CTRL k, SL_FLAGS k, SL_OUT0 k, SL_OUT1 k, SL_FB_STATE k])) ∧
  (∀ s : State, ∃ t, exec .svcTrellis s = .next t ∧ Frame { mb := true } s t ∧ t = s.prints (s.words [TR_STATUS,
    TR_CLOCK_MHZ, TR_ROT_STATE, TR_SENT] ++ s.failedSet.flatMap (leBytes 1))) ∧
  (∀ s : State, ∃ t, exec .svcTrellisModel s = .next t ∧ Frame { mb := true } s t ∧ t = s.prints (leBytes 1
    ((s.tr.image.map (·.slot)).getD 255) ++ leBytes 1 ((s.tr.previous.map (·.slot)).getD 255) ++
    padTo 64 ((s.tr.image.map (·.name)).getD []) ++ padTo 32 ((s.tr.image.map (·.digest)).getD []) ++ leBytes 1
      s.tr.form ++ s.words [TR_II, TR_LATENCY, TR_ADMIT, TR_CLOCK_MHZ] ++
    leBytes 1 (((s.mb.journals.find? fun j => j.opcode == 0xC041 || j.opcode == 0xC042).map fun j =>
      j.outcome.code).getD 255))) ∧
  (∀ s : State, ∃ t, exec .svcPb s = .next t ∧ Frame { mb := true } s t ∧ t = s.prints (s.words [PB_CTRL, PB_BRAKE,
    PB_SENT, PB_DROPPED, PB_UNCONFIRMED, PB_FANOUT_US])) ∧
  (∀ (s : State) (c : Fin 4096), ∃ t, exec (.svcCtx c) s = .next t ∧ Frame { mb := true } s t ∧ t = s.prints (s.words
    [PB_CAP c, PB_APPLIED_EPOCH_LO c, PB_APPLIED_EPOCH_HI c, PB_CONFIRMED_EPOCH_LO c, PB_CONFIRMED_EPOCH_HI c,
      PB_STATUS c] ++ (((s.telem c).map fun r => r.words.flatMap (leBytes 8)).getD .nil))) ∧
  (∀ s : State, ∃ t, exec .svcVq s = .next t ∧ Frame { mb := true } s t ∧ t = s.prints (s.words [VQ_CTRL,
    VQ_PTRERR_COUNT] ++ (upto 64).flatMap fun q => s.words [VQ_IQ_STAT q, VQ_IQ_VIOL q])) ∧
  (∀ (s : State) (q : Fin 32), ∃ t, exec (.svcVqSqPeek q) s = .next t ∧ Frame { mb := true } s t ∧ t = s.prints
    (s.words [VQ_SQ_STAT q, VQ_SQ_OVERRUN q, VQ_SQ_TIMEOUTS q] ++ ((((s.sq q).read ++ (s.sq q).fill).getLast?.map
      (·.bytes)).getD .nil))) ∧
  (∀ (s : State) (n : Fin 4), ∃ t, exec (.svcPump n) s = .next t ∧ Frame { mb := true } s t ∧ t = s.prints (s.words
    [PF_SPEED n, PF_PSTAT n, PF_PTACH n, PF_PHOURS n])) ∧
  (∀ (s : State) (k : Fin 8), ∃ t, exec (.svcFan k) s = .next t ∧ Frame { mb := true } s t ∧ t = s.prints (s.words
    [PF_FSPEED k, PF_FSTAT k, PF_FTACH k, PF_FCUR k, PF_FLEARN k])) ∧
  (∀ s : State, ∃ t, exec .svcHyd s = .next t ∧ Frame { mb := true } s t ∧ t = s.prints (s.words [PF_HYD, SN_PIFREQ
    0] ++ leBytes 4 (s.dp.getD 0).toNat ++ s.words [PF_STOPCFG])) ∧
  (∀ (s : State) (r : Fin 16), ∃ t, exec (.svcCal r) s = .next t ∧ Frame { mb := true } s t ∧ t = s.prints (leBytes 1
    (s.cal r).state ++ leBytes 2 (s.cal r).steady ++ s.words [SN_FLOWGAIN r, SN_RTDOFF (2 * r), SN_RTDOFF (2 * r +
      1)] ++ leBytes 4 (s.srcFlow (s.rd (SN_FLOWSRC r))).val.toNat)) ∧
  (∀ (s : State) (k : Fin 80), (k : Nat) < 48 → ∃ t, exec (.svcSnInput k) s = .next t ∧ Frame { mb := true } s t ∧ t
    = s.prints (s.words [SN_RTDVAL k, SN_RTDRAW k, SN_RTDOFF k, SN_RTDSTAT k])) ∧
  (∀ (s : State) (k : Fin 80), 48 ≤ (k : Nat) → (k : Nat) < 72 → ∃ t, exec (.svcSnInput k) s = .next t ∧
    Frame { mb := true } s t ∧ t = s.prints (s.words [SN_MAVAL (k - 48), SN_MARAW (k - 48), SN_MASTAT (k - 48)])) ∧
  (∀ (s : State) (k : Fin 80), 72 ≤ (k : Nat) → ∃ t, exec (.svcSnInput k) s = .next t ∧ Frame { mb := true } s t ∧ t
    = s.prints (s.words [SN_PIFREQ (k - 72), SN_PISTAT (k - 72)] ++ leBytes 4 (s.srcPulse (k - 72)).val.toNat)) ∧
  (∀ s : State, ∃ t, exec .svcSnDi s = .next t ∧ Frame { mb := true } s t ∧ t = s.prints (s.words [SN_DIN])) ∧
  (∀ (s : State) (k : Fin 32), (k : Nat) < 16 → ∃ t, exec (.svcLeak k) s = .next t ∧ Frame { mb := true } s t ∧ t =
    s.prints (s.words [LK_ROPESTAT k, LK_ROPELIVE k])) ∧
  (∀ (s : State) (k : Fin 32), 16 ≤ (k : Nat) → ∃ t, exec (.svcLeak k) s = .next t ∧ Frame { mb := true } s t ∧ t =
    s.prints (s.words [LK_PTSTAT (k - 16)])) ∧
  (∀ s : State, ∃ t, exec .svcCp s = .next t ∧ Frame { mb := true } s t ∧ t = s.prints (s.words [SN_CPFLOW, SN_CPTIN,
    SN_CPTOUT, SN_CPSTAT])) ∧
  (∀ (s : State) (n : Fin 36), ∃ t, exec (.svcSv n) s = .next t ∧ Frame { mb := true } s t ∧ t = s.prints (s.words
    [SV_CHSTAT n, SV_CHCUR n, SV_CHNODE n, SV_CHKINK n, SV_CHCOUNT n])) ∧
  (∀ (s : State) (g : Fin 9), ∃ t, exec (.svcSvGroup g) s = .next t ∧ Frame { mb := true } s t ∧ t = s.prints
    (s.words [SV_GSTAT g, SV_GCUR g, SV_GNODE g, SV_GIDLE g])) ∧
  (∀ (s : State) (n : Fin 4), ∃ t, exec (.svcFb n) s = .next t ∧ Frame { mb := true } s t ∧ t = s.prints (s.words
    [FB_STAT n, FB_REFMISS n, FB_CYCLE n, FB_NODEEXP_LO n, FB_NODEEXP_HI n, FB_NODELOST_LO n, FB_NODELOST_HI n])) ∧
  (∀ s : State, ∃ t, exec .svcTwin s = .next t ∧ Frame { mb := true } s t ∧ t = s.prints (s.words [TW_STATUS, TW_LAG,
    TW_XCHK, TW_LAST_GAP] ++ leBytes 1 (b2n s.sn.exc))) ∧
  (∀ s : State, ∃ t, exec .svcMem s = .next t ∧ Frame { mb := true } s t ∧ t = s.prints (s.words [CA_STATUS,
    CA_UE_COUNT, CA_SCRUB_POS, CA_SCRUB_PASSES, CA_CTRL] ++ (upto 8).flatMap fun c => s.words [CA_CE_COUNT c])) ∧
  (∀ (s : State) (c : Fin 4096) (b e x : Nat), b = (s.lastPeriod % 21504 * 32768 + 8 * c.val) * 256 → x =
    0x6E80000000 + 8 * (s.lastPeriod % 21504) →
    e = 0x2A00000000 + ((s.ca.second - 1) % 1223338 * 32768 + 8 * c.val) * 6 →
    s.poisonIn b 40 = false → s.poisonIn e 6 = false → s.poisonIn x 8 = false →
    ∃ t, exec (.svcCellar c) s = .next t ∧ Frame { regs := true, mg := true, mb := true } s t ∧ t = s.prints (leBytes
      4 (s.lastPeriod % 21504) ++ s.bytesAt b 40 ++ s.bytesAt x 8 ++
      ((upto 3).flatMap fun i => leBytes 4 (codeCelsius (s.leAt (e + 2 * i) 2)).toNat) ++ s.words [CA_DECIM,
        CA_QUANT_BLOCKS, CA_STATUS])) ∧
  (∀ (s : State) (c : Fin 4096) (b e x : Nat), b = (s.lastPeriod % 21504 * 32768 + 8 * c.val) * 256 → x =
    0x6E80000000 + 8 * (s.lastPeriod % 21504) →
    e = 0x2A00000000 + ((s.ca.second - 1) % 1223338 * 32768 + 8 * c.val) * 6 →
    s.poisonIn b 40 = true ∨ s.poisonIn e 6 = true ∨ s.poisonIn x 8 = true → ∃ t, exec (.svcCellar c) s = .next t ∧
      Frame { regs := true, mg := true, mb := true } s t ∧ t = s.taskRestart b) ∧
  (∀ s : State, ∃ t, exec .svcCxl s = .next t ∧ Frame { mb := true } s t ∧ t = s.prints (leBytes 2 s.mb.linkRate ++
    leBytes 1 s.mb.linkWidth ++ leBytes 2 s.mb.linkFlit ++ leBytes 1 (b2n s.mb.linkReduced) ++ s.words [CK_STATUS,
      CK_PTM_OFFSET] ++
    leBytes 2 s.mb.hdmSize ++ leBytes 1 (b2n s.mb.hdmCommitted) ++ leBytes 1 (b2n s.mb.memoryActive) ++ leBytes 4
      s.mb.aerCorr ++ leBytes 4 s.mb.aerUncorr ++ leBytes 4 s.mb.commands ++
    (upto 13).flatMap fun k => leBytes 4 (tget 0 s.mb.ksCounts k))) ∧
  ∀ s : State, ∃ t, exec (.svcCxlPing .false) s = .next t ∧
    Frame { regs := true, sys := true, dic := true, mb := true, le := true, tw := true } s t ∧ t = s.prints (leBytes
      8 (s.mb.lastCommand.getD 0))

/-- The states that the console commands that act answer.
The console's mode, pump and handover commands do the work of the mailbox commands they stand for and print its
outcome. A command that drives an output, and CLEARFAIL, run on the ACTIVE module in SERVICE alone, are forwarded to
its partner, and are refused elsewhere, with KS_STATE_CONFLICT or KS_NOT_OWNER; a valve that is held by a trip is not
opened. A handover that is not refused starts, its outcome printed as it ends. The fault bits of a solenoid channel
are cleared; a sample queue is routed by the ACTIVE module, which forwards it; an attestation is printed or refused.
The doorbell test takes each target in turn with a free round-trip time and leaves the route as it was. A ping through
the host path counts a command and restarts the silence timer of the ACTIVE module. The rate changes to one of those
listed. An image is recovered only in recovery mode, of a size and header that fit and a signature that passes. -/
def Obligations.ConsoleActions : Prop :=
  (∀ s : State, ∃ t, exec (.svcModeService .false) s = .next t ∧
    Frame { regs := true, sys := true, mg := true, mb := true, tw := true } s t ∧ t = (s.onMg fun y =>
      { y with svcEn := false }).printErr .stateConflict) ∧
  (∀ s : State, ∃ t, exec (.svcModeService .true) s = .next t ∧
    Frame { regs := true, sys := true, mg := true, mb := true, tw := true } s t ∧ t = (s.onMg fun y =>
      { y with svcEn := true }).consoleCmd cmdSetMode (modePayload 9)) ∧
  (∀ s : State, ∃ t, exec .svcModeTable s = .next t ∧ Frame { regs := true, sys := true, mb := true, tw := true } s t
    ∧ t = s.consoleCmd cmdSetMode (modePayload 2)) ∧
  (∀ (s : State) (n : List (BitVec 8)), (s.attest n).ks = .ok → ∃ t, exec (.svcAttest n) s = .next t ∧
    Frame { regs := true, mg := true, mb := true } s t ∧ t = (s.attest n).st.prints (s.attest n).out) ∧
  (∀ (s : State) (n : List (BitVec 8)), (s.attest n).ks ≠ .ok → ∃ t, exec (.svcAttest n) s = .next t ∧
    Frame { regs := true, mg := true, mb := true } s t ∧ t = (s.attest n).st.printErr (s.attest n).ks) ∧
  (∀ (s : State) (k n v : Nat), s.consoleDone k n v = ((s.consoleOut k n v).forward 5 0
    (leBytes 2 0xFF00 ++ leBytes 2 0 ++ leBytes 8 s.frame ++ leBytes 4 s.tickNow ++ leBytes 2 k ++ leBytes 2 n ++
      leBytes 2 v)).prints []) ∧
  (∀ (s : State) (n v : Nat), s.consoleOut 0 n v = s.forceBrake n false ∧ s.consoleOut 1 n v = s.forceBrake n true ∧
    s.consoleOut 2 n v = s.pumpManager false ∧ s.consoleOut 3 n v = s.pumpManager true ∧
    s.consoleOut 4 n v = ((s.putBit (SV_CHCMD_CLOSE n) true).closeRequest n false).driveValve n ∧
    s.consoleOut 5 n v = ((s.openRequest n).reopenCheck.onSys fun y =>
      { y with drives := y.drives.filter (· != .valve n) }) ∧
    s.consoleOut 6 n v = s.wr (VQ_SQ_SRC n) v ∧ s.consoleOut 7 n v = s.clearFailed) ∧
  (∀ s : State, s.sys.mode = .service → s.isActive = true → ∃ t, exec .svcTrellisClearfail s = .next t ∧
    Frame { regs := true, sys := true, mg := true, mb := true, pb := true, le := true, sv := true, pf := true, tr := true, tw := true } s t ∧ t = s.consoleDone 7 0 0) ∧
  (∀ s : State, s.sys.mode ≠ .service ∨ s.isActive = false →
    ∃ t, exec .svcTrellisClearfail s = .next t ∧
      Frame { regs := true, sys := true, mg := true, mb := true, pb := true, le := true, sv := true, pf := true, tr := true, tw := true } s t ∧ t = s.printErr (if s.sys.mode = .service then .notOwner else .stateConflict)) ∧
  (∀ (s : State) (r : Fin 16), s.sys.mode = .service → s.isActive = true → ∃ t, exec (.svcBrakeOn r) s = .next t ∧
    Frame { regs := true, sys := true, mg := true, mb := true, pb := true, le := true, sv := true, pf := true, tr := true, tw := true } s t ∧ t = s.consoleDone 1 r 0) ∧
  (∀ (s : State) (r : Fin 16), s.sys.mode = .service → s.isActive = true → ∃ t, exec (.svcBrakeOff r) s = .next t ∧
    Frame { regs := true, sys := true, mg := true, mb := true, pb := true, le := true, sv := true, pf := true, tr := true, tw := true } s t ∧ t = s.consoleDone 0 r 0) ∧
  (∀ (s : State) (q : Fin 32) (v : BitVec 8), s.isActive = true → ∃ t, exec (.svcVqSqSrc q v) s = .next t ∧
    Frame { regs := true, sys := true, mg := true, mb := true, pb := true, le := true, sv := true, pf := true, tr := true, tw := true } s t ∧ t = s.consoleDone 6 q v.toNat) ∧
  (∀ (s : State) (q : Fin 32) (v : BitVec 8), s.isActive = false → ∃ t, exec (.svcVqSqSrc q v) s = .next t ∧
    Frame { regs := true, sys := true, mg := true, mb := true, pb := true, le := true, sv := true, pf := true, tr := true, tw := true } s t ∧ t = s.printErr .notOwner) ∧
  (∀ s : State, s.sys.mode = .service → s.isActive = true → ∃ t, exec .svcPfPmgrOn s = .next t ∧
    Frame { regs := true, sys := true, mg := true, mb := true, pb := true, le := true, sv := true, pf := true, tr := true, tw := true } s t ∧ t = s.consoleDone 3 0 0) ∧
  (∀ s : State, s.sys.mode = .service → s.isActive = true → ∃ t, exec .svcPfPmgrOff s = .next t ∧
    Frame { regs := true, sys := true, mg := true, mb := true, pb := true, le := true, sv := true, pf := true, tr := true, tw := true } s t ∧ t = s.consoleDone 2 0 0) ∧
  (∀ (s : State) (n : Fin 4) (v : BitVec 16), ∃ t, exec (.svcPumpSet n v) s = .next t ∧
    Frame { regs := true, sys := true, mb := true, pf := true, fb := true, tw := true } s t ∧ t = s.consoleCmd
      cmdPumpSet (zeros 8 ++ leBytes 1 n.val ++ leBytes 1 2 ++ leBytes 2 v.toNat)) ∧
  (∀ (s : State) (n : Fin 36), s.Inv → ∃ t, exec (.svcSvClear n) s = .next t ∧ Frame { regs := true, mb := true } s t
    ∧ t.bit (SV_CHSTAT_OPEN_LOAD n) = false ∧ t.bit (SV_CHSTAT_SHORT_GND n) = false ∧
      t.bit (SV_CHSTAT_OVERCURRENT n) = false ∧ t.bit (SV_CHSTAT_POS_MISMATCH n) = false ∧ RegsBut (· = (SV_CHSTAT
        n).addr) s t) ∧
  (∀ (s : State) (n : Fin 36), s.sys.mode = .service → s.isActive = true →
    ∃ t, exec (.svcSvClose n) s = .next t ∧
      Frame { regs := true, sys := true, mg := true, mb := true, pb := true, le := true, sv := true, pf := true, tr := true, tw := true } s t ∧ t = s.consoleDone 4 n 0) ∧
  (∀ (s : State) (n : Fin 36), s.sys.mode = .service → s.isActive = true → s.bit (SV_CHSTAT_TRIP_HELD n) = true →
    ∃ t, exec (.svcSvOpen n) s = .next t ∧
      Frame { regs := true, sys := true, mg := true, mb := true, pb := true, le := true, sv := true, pf := true, tr := true, tw := true } s t ∧ t = s.printErr .stateConflict) ∧
  (∀ (s : State) (n : Fin 36), s.sys.mode = .service → s.isActive = true → s.bit (SV_CHSTAT_TRIP_HELD n) = false →
    ∃ t, exec (.svcSvOpen n) s = .next t ∧
      Frame { regs := true, sys := true, mg := true, mb := true, pb := true, le := true, sv := true, pf := true, tr := true, tw := true } s t ∧ t = s.consoleDone 5 n 0) ∧
  (∀ s : State, ∃ t, exec .svcDicTest s = .next t ∧
    Frame { free := true, regs := true, dic := true, mb := true, le := true } s t ∧ ∃ q : State × List Byte,
      q = dicTargets.foldl (fun (q : State × List Byte) n => ((q.1.dicTrip n).drew, q.2 ++ leBytes 4 (q.1.dicTrip
        n).freeNat ++ (q.1.dicTrip n).words [DIC_CSTAT n])) (s, []) ∧
      t = (q.1.wr (DIC_SRCCFG_TARGET 1535) (s.rd (DIC_SRCCFG_TARGET 1535))).prints (q.2 ++ q.1.words [DIC_BADDB])) ∧
  (∀ s : State, s.isActive = false → ∃ t, exec .svcTwinHandover s = .next t ∧ Frame { mb := true, tw := true } s t ∧
    t = s.printErr .notOwner) ∧
  (∀ (s : State) (k : Ks), s.isActive = true → s.handRefusal = some k → ∃ t, exec .svcTwinHandover s = .next t ∧
    Frame { mb := true, tw := true } s t ∧ t = s.printErr k) ∧
  (∀ s : State, s.isActive = true → s.handRefusal = none →
    ∃ t, exec .svcTwinHandover s = .next t ∧ Frame { mb := true, tw := true } s t ∧ t = s.handStart none) ∧
  (∀ s : State, ∃ t, exec (.svcCxlPing .true) s = .next t ∧
    Frame { regs := true, sys := true, dic := true, mb := true, le := true, tw := true } s t ∧ ∃ u v : State, u =
      s.asked ∧
      v = (if u.isActive then u.silenceRestart else u) ∧ t = v.prints (leBytes 8 s.time ++ s.stateRecord)) ∧
  (∀ (s : State) (r : Nat), r = 230400 ∨ r = 460800 ∨ r = 921600 → ∃ t, exec (.svcBaud r) s = .next t ∧
    Frame { mg := true, mb := true } s t ∧ t = (s.prints []).onMg fun y => { y with baud := r }) ∧
  (∀ (s : State) (r : Nat), [230400, 460800, 921600].contains r = false → ∃ t, exec (.svcBaud r) s = .next t ∧
    Frame { mg := true, mb := true } s t ∧ t = s.printErr .range) ∧
  (∀ (s : State) (i : List (BitVec 8)), s.mg.recovery = false → ∃ t, exec (.svcRecover i) s = .next t ∧
    Frame { mg := true, mb := true } s t ∧ t = s.printErr .stateConflict) ∧
  (∀ (s : State) (i : List (BitVec 8)), s.mg.recovery = true → 44 * 1048576 < i.length ∨ headerGood i = false → ∃ t,
    exec (.svcRecover i) s = .next t ∧ Frame { mg := true, mb := true } s t ∧ t = s.printErr .range) ∧
  (∀ (s : State) (i : List (BitVec 8)), s.mg.recovery = true → i.length ≤ 44 * 1048576 → headerGood i = true →
    (slotOf i).passes s.mg.fuse = false → ∃ t, exec (.svcRecover i) s = .next t ∧
      Frame { mg := true, mb := true } s t ∧ t = s.printErr .authFail) ∧
  (∀ (s : State) (r : Fin 16), s.sys.mode ≠ .service ∨ s.isActive = false →
    ∃ t, exec (.svcBrakeOn r) s = .next t ∧
      Frame { regs := true, sys := true, mg := true, mb := true, pb := true, le := true, sv := true, pf := true, tr := true, tw := true } s t ∧ t = s.printErr (if s.sys.mode = .service then .notOwner else .stateConflict)) ∧
  (∀ (s : State) (r : Fin 16), s.sys.mode ≠ .service ∨ s.isActive = false →
    ∃ t, exec (.svcBrakeOff r) s = .next t ∧
      Frame { regs := true, sys := true, mg := true, mb := true, pb := true, le := true, sv := true, pf := true, tr := true, tw := true } s t ∧ t = s.printErr (if s.sys.mode = .service then .notOwner else .stateConflict)) ∧
  (∀ (s : State), s.sys.mode ≠ .service ∨ s.isActive = false →
    ∃ t, exec .svcPfPmgrOn s = .next t ∧
      Frame { regs := true, sys := true, mg := true, mb := true, pb := true, le := true, sv := true, pf := true, tr := true, tw := true } s t ∧ t = s.printErr (if s.sys.mode = .service then .notOwner else .stateConflict)) ∧
  (∀ (s : State), s.sys.mode ≠ .service ∨ s.isActive = false →
    ∃ t, exec .svcPfPmgrOff s = .next t ∧
      Frame { regs := true, sys := true, mg := true, mb := true, pb := true, le := true, sv := true, pf := true, tr := true, tw := true } s t ∧ t = s.printErr (if s.sys.mode = .service then .notOwner else .stateConflict)) ∧
  (∀ (s : State) (n : Fin 36), s.sys.mode ≠ .service ∨ s.isActive = false →
    ∃ t, exec (.svcSvClose n) s = .next t ∧
      Frame { regs := true, sys := true, mg := true, mb := true, pb := true, le := true, sv := true, pf := true, tr := true, tw := true } s t ∧ t = s.printErr (if s.sys.mode = .service then .notOwner else .stateConflict)) ∧
  (∀ (s : State) (n : Fin 36), s.sys.mode ≠ .service ∨ s.isActive = false →
    ∃ t, exec (.svcSvOpen n) s = .next t ∧
      Frame { regs := true, sys := true, mg := true, mb := true, pb := true, le := true, sv := true, pf := true, tr := true, tw := true } s t ∧ t = s.printErr (if s.sys.mode = .service then .notOwner else .stateConflict)) ∧
  ∀ (s : State) (i : List (BitVec 8)), s.mg.recovery = true → i.length ≤ 44 * 1048576 → headerGood i = true → (slotOf
    i).passes s.mg.fuse = true →
    ∃ t, exec (.svcRecover i) s = .next t ∧ Frame { mg := true, mb := true } s t ∧ t = (s.onMg fun y => y.putSlot 0
      (slotOf i)).prints []

/-- Each mailbox command is the request of its opcode, for every payload.
For every state and every payload, exec of each of the mailbox commands answers the state after the Waxus request of
its opcode, whose checks and reply MailboxChecks and MailboxReplies state: getIdentity, getState, setModeTable,
setModeReactive, setModePredictive, setModeHold, setModeService, setModeReset, keepalive, configWrite, configRead,
configReport, contextAdd, contextRemove, contextList, setBudget, getBudget, setLease, modelLoadChunk, commitModel,
revertModel, admissionReport, loopSet, loopGet, injectStart, captureRead, bobbinArm, bobbinRead, valveSequence,
pumpDisable, pumpEnable, pumpSetSpeed, tableWrite, snapshotAt, queryProgress, readLog, updateBegin, updateChunk,
updateVerify, updateActivate, updateRatchet, updateAbort, attest, calibrationStatus, calibrationControl,
modbusWriteGrant, modbusWriteRevoke, twinStatus. The five SET_MODE commands and the reset share one opcode, as do the
three of PUMP_SET, the four of UPDATE_END and the two of MODBUS_WRITE_ENABLE; the action is in the payload. -/
def Obligations.MailboxRequests : Prop :=
  (∀ (s : State) (p : List (BitVec 8)), exec (.getIdentity p) s = .next (s.mailbox cmdGetIdentity p)) ∧
  (∀ (s : State) (p : List (BitVec 8)), exec (.getState p) s = .next (s.mailbox cmdGetState p)) ∧
  (∀ (s : State) (p : List (BitVec 8)), exec (.setModeTable p) s = .next (s.mailbox cmdSetMode p)) ∧
  (∀ (s : State) (p : List (BitVec 8)), exec (.setModeReactive p) s = .next (s.mailbox cmdSetMode p)) ∧
  (∀ (s : State) (p : List (BitVec 8)), exec (.setModePredictive p) s = .next (s.mailbox cmdSetMode p)) ∧
  (∀ (s : State) (p : List (BitVec 8)), exec (.setModeHold p) s = .next (s.mailbox cmdSetMode p)) ∧
  (∀ (s : State) (p : List (BitVec 8)), exec (.setModeService p) s = .next (s.mailbox cmdSetMode p)) ∧
  (∀ (s : State) (p : List (BitVec 8)), exec (.setModeReset p) s = .next (s.mailbox cmdSetMode p)) ∧
  (∀ (s : State) (p : List (BitVec 8)), exec (.keepalive p) s = .next (s.mailbox cmdKeepalive p)) ∧
  (∀ (s : State) (p : List (BitVec 8)), exec (.configWrite p) s = .next (s.mailbox cmdConfigWrite p)) ∧
  (∀ (s : State) (p : List (BitVec 8)), exec (.configRead p) s = .next (s.mailbox cmdConfigRead p)) ∧
  (∀ (s : State) (p : List (BitVec 8)), exec (.configReport p) s = .next (s.mailbox cmdConfigReport p)) ∧
  (∀ (s : State) (p : List (BitVec 8)), exec (.contextAdd p) s = .next (s.mailbox cmdContextAdd p)) ∧
  (∀ (s : State) (p : List (BitVec 8)), exec (.contextRemove p) s = .next (s.mailbox cmdContextRemove p)) ∧
  (∀ (s : State) (p : List (BitVec 8)), exec (.contextList p) s = .next (s.mailbox cmdContextList p)) ∧
  (∀ (s : State) (p : List (BitVec 8)), exec (.setBudget p) s = .next (s.mailbox cmdSetBudget p)) ∧
  (∀ (s : State) (p : List (BitVec 8)), exec (.getBudget p) s = .next (s.mailbox cmdGetBudget p)) ∧
  (∀ (s : State) (p : List (BitVec 8)), exec (.setLease p) s = .next (s.mailbox cmdSetLease p)) ∧
  (∀ (s : State) (p : List (BitVec 8)), exec (.modelLoadChunk p) s = .next (s.mailbox cmdModelLoadChunk p)) ∧
  (∀ (s : State) (p : List (BitVec 8)), exec (.commitModel p) s = .next (s.mailbox cmdCommitModel p)) ∧
  (∀ (s : State) (p : List (BitVec 8)), exec (.revertModel p) s = .next (s.mailbox cmdRevertModel p)) ∧
  (∀ (s : State) (p : List (BitVec 8)), exec (.admissionReport p) s = .next (s.mailbox cmdAdmissionReport p)) ∧
  (∀ (s : State) (p : List (BitVec 8)), exec (.loopSet p) s = .next (s.mailbox cmdLoopSet p)) ∧
  (∀ (s : State) (p : List (BitVec 8)), exec (.loopGet p) s = .next (s.mailbox cmdLoopGet p)) ∧
  (∀ (s : State) (p : List (BitVec 8)), exec (.injectStart p) s = .next (s.mailbox cmdInjectStart p)) ∧
  (∀ (s : State) (p : List (BitVec 8)), exec (.captureRead p) s = .next (s.mailbox cmdCaptureRead p)) ∧
  (∀ (s : State) (p : List (BitVec 8)), exec (.bobbinArm p) s = .next (s.mailbox cmdBobbinArm p)) ∧
  (∀ (s : State) (p : List (BitVec 8)), exec (.bobbinRead p) s = .next (s.mailbox cmdBobbinRead p)) ∧
  (∀ (s : State) (p : List (BitVec 8)), exec (.valveSequence p) s = .next (s.mailbox cmdValveSequence p)) ∧
  (∀ (s : State) (p : List (BitVec 8)), exec (.pumpDisable p) s = .next (s.mailbox cmdPumpSet p)) ∧
  (∀ (s : State) (p : List (BitVec 8)), exec (.pumpEnable p) s = .next (s.mailbox cmdPumpSet p)) ∧
  (∀ (s : State) (p : List (BitVec 8)), exec (.pumpSetSpeed p) s = .next (s.mailbox cmdPumpSet p)) ∧
  (∀ (s : State) (p : List (BitVec 8)), exec (.tableWrite p) s = .next (s.mailbox cmdTableWrite p)) ∧
  (∀ (s : State) (p : List (BitVec 8)), exec (.snapshotAt p) s = .next (s.mailbox cmdSnapshotAt p)) ∧
  (∀ (s : State) (p : List (BitVec 8)), exec (.queryProgress p) s = .next (s.mailbox cmdQueryProgress p)) ∧
  (∀ (s : State) (p : List (BitVec 8)), exec (.readLog p) s = .next (s.mailbox cmdReadLog p)) ∧
  (∀ (s : State) (p : List (BitVec 8)), exec (.updateBegin p) s = .next (s.mailbox cmdUpdateBegin p)) ∧
  (∀ (s : State) (p : List (BitVec 8)), exec (.updateChunk p) s = .next (s.mailbox cmdUpdateChunk p)) ∧
  (∀ (s : State) (p : List (BitVec 8)), exec (.updateVerify p) s = .next (s.mailbox cmdUpdateEnd p)) ∧
  (∀ (s : State) (p : List (BitVec 8)), exec (.updateActivate p) s = .next (s.mailbox cmdUpdateEnd p)) ∧
  (∀ (s : State) (p : List (BitVec 8)), exec (.updateRatchet p) s = .next (s.mailbox cmdUpdateEnd p)) ∧
  (∀ (s : State) (p : List (BitVec 8)), exec (.updateAbort p) s = .next (s.mailbox cmdUpdateEnd p)) ∧
  (∀ (s : State) (p : List (BitVec 8)), exec (.attest p) s = .next (s.mailbox cmdAttest p)) ∧
  (∀ (s : State) (p : List (BitVec 8)), exec (.calibrationStatus p) s = .next (s.mailbox cmdCalibrationStatus p)) ∧
  (∀ (s : State) (p : List (BitVec 8)), exec (.calibrationControl p) s = .next (s.mailbox cmdCalibrationControl p)) ∧
  (∀ (s : State) (p : List (BitVec 8)), exec (.modbusWriteGrant p) s = .next (s.mailbox cmdModbusEnable p)) ∧
  (∀ (s : State) (p : List (BitVec 8)), exec (.modbusWriteRevoke p) s = .next (s.mailbox cmdModbusEnable p)) ∧
  (∀ (s : State) (p : List (BitVec 8)), exec (.twinStatus p) s = .next (s.mailbox cmdTwinStatus p))

/-- The requests that the work of a mailbox command turns down, and with which code.
Each clause takes a request that passes the checks of R369 (Takes) and whose payload or state the command's own work
refuses, and says the KS code: exec then answers the state in which the request is turned down with it, which changes
nothing but the mailbox (MailboxReplies). KS_RANGE for a payload out of range, KS_STATE_CONFLICT, KS_UNKNOWN_CONTEXT,
KS_NOT_FIT, KS_BUSY and KS_TIMEOUT as the command's rule says; SET_BUDGET refuses with the code of its first bad
change and UPDATE_VERIFY with that of the image's fault. -/
def Obligations.MailboxRefusals : Prop :=
  (∀ (s : State) (p : List (BitVec 8)), Takes s cmdConfigRead p → (∃ q ∈ readPairs p, s.asked.fieldValue q.1 q.2 =
    none) → 
    ∃ t, exec (.configRead p) s = .next t ∧
      Frame { regs := true, sys := true, dic := true, mb := true, le := true, tw := true } s t ∧ t = s.turnedDown p
        .range) ∧
  (∀ (s : State) (p : List (BitVec 8)), Takes s cmdGetBudget p → 3 < fieldLE p 8 1 ∨ levelCount (fieldLE p 8 1) ≤
    fieldLE p 9 2 → 
    ∃ t, exec (.getBudget p) s = .next t ∧
      Frame { regs := true, sys := true, dic := true, mb := true, le := true, tw := true } s t ∧ t = s.turnedDown p
        .range) ∧
  (∀ (s : State) (p : List (BitVec 8)), Takes s cmdLoopGet p → 4608 ≤ fieldLE p 8 2 → 
    ∃ t, exec (.loopGet p) s = .next t ∧
      Frame { regs := true, sys := true, dic := true, mb := true, le := true, tw := true } s t ∧ t = s.turnedDown p
        .range) ∧
  (∀ (s : State) (p : List (BitVec 8)), Takes s cmdCaptureRead p → 32 ≤ fieldLE p 8 1 → 
    ∃ t, exec (.captureRead p) s = .next t ∧
      Frame { regs := true, sys := true, dic := true, mb := true, le := true, tw := true } s t ∧ t = s.turnedDown p
        .range) ∧
  (∀ (s : State) (p : List (BitVec 8)), Takes s cmdBobbinRead p → 8 ≤ fieldLE p 8 1 ∨ 65536 ≤ fieldLE p 12 4 → 
    ∃ t, exec (.bobbinRead p) s = .next t ∧
      Frame { regs := true, sys := true, dic := true, mb := true, le := true, tw := true } s t ∧ t = s.turnedDown p
        .range) ∧
  (∀ (s : State) (p : List (BitVec 8)), Takes s cmdBobbinRead p → fieldLE p 8 1 < 8 → fieldLE p 12 4 < 65536 →
    fieldLE p 9 1 % 2 = 1 → s.asked.bit (BOB_MARKPTR_VALID (fieldLE p 8 1)) = false → 
    ∃ t, exec (.bobbinRead p) s = .next t ∧
      Frame { regs := true, sys := true, dic := true, mb := true, le := true, tw := true } s t ∧ t = s.turnedDown p
        .stateConflict) ∧
  (∀ (s : State) (p : List (BitVec 8)), Takes s cmdAdmissionReport p → 16 ≤ fieldLE p 8 1 ∨ 3 ≤ fieldLE p 9 1 ∨
    s.asked.headerOk (fieldLE p 8 1) = false → 
    ∃ t, exec (.admissionReport p) s = .next t ∧
      Frame { regs := true, sys := true, dic := true, mb := true, le := true, tw := true } s t ∧ t = s.turnedDown p
        .range) ∧
  (∀ (s : State) (p : List (BitVec 8)), Takes s cmdSetMode p → fieldLE p 8 1 = 0x02 → s.asked.modeAllowed .table =
    true → fieldLE p 12 8 ≠ 0 → 
    ∃ t, exec (.setModeTable p) s = .next t ∧
      Frame { regs := true, sys := true, dic := true, mb := true, le := true, tw := true } s t ∧ t = s.turnedDown p
        .range) ∧
  (∀ (s : State) (p : List (BitVec 8)), Takes s cmdSetMode p → fieldLE p 8 1 = 0x02 → s.asked.modeAllowed .table =
    false → 
    ∃ t, exec (.setModeTable p) s = .next t ∧
      Frame { regs := true, sys := true, dic := true, mb := true, le := true, tw := true } s t ∧ t = s.turnedDown p
        .stateConflict) ∧
  (∀ (s : State) (p : List (BitVec 8)), Takes s cmdSetMode p → fieldLE p 8 1 = 0x03 → s.asked.modeAllowed .reactive =
    true → fieldLE p 12 8 ≠ 0 → 
    ∃ t, exec (.setModeReactive p) s = .next t ∧
      Frame { regs := true, sys := true, dic := true, mb := true, le := true, tw := true } s t ∧ t = s.turnedDown p
        .range) ∧
  (∀ (s : State) (p : List (BitVec 8)), Takes s cmdSetMode p → fieldLE p 8 1 = 0x03 → s.asked.modeAllowed .reactive =
    false → 
    ∃ t, exec (.setModeReactive p) s = .next t ∧
      Frame { regs := true, sys := true, dic := true, mb := true, le := true, tw := true } s t ∧ t = s.turnedDown p
        .stateConflict) ∧
  (∀ (s : State) (p : List (BitVec 8)), Takes s cmdSetMode p → fieldLE p 8 1 = 0x04 → s.asked.modeAllowed .predictive
    = true → fieldLE p 12 8 ≠ 0 → 
    ∃ t, exec (.setModePredictive p) s = .next t ∧
      Frame { regs := true, sys := true, dic := true, mb := true, le := true, tw := true } s t ∧ t = s.turnedDown p
        .range) ∧
  (∀ (s : State) (p : List (BitVec 8)), Takes s cmdSetMode p → fieldLE p 8 1 = 0x04 → s.asked.modeAllowed .predictive
    = false → 
    ∃ t, exec (.setModePredictive p) s = .next t ∧
      Frame { regs := true, sys := true, dic := true, mb := true, le := true, tw := true } s t ∧ t = s.turnedDown p
        .stateConflict) ∧
  (∀ (s : State) (p : List (BitVec 8)), Takes s cmdSetMode p → fieldLE p 8 1 = 0x05 → s.asked.modeAllowed .hold =
    true → fieldLE p 12 8 ≠ 0 → 
    ∃ t, exec (.setModeHold p) s = .next t ∧
      Frame { regs := true, sys := true, dic := true, mb := true, le := true, tw := true } s t ∧ t = s.turnedDown p
        .range) ∧
  (∀ (s : State) (p : List (BitVec 8)), Takes s cmdSetMode p → fieldLE p 8 1 = 0x05 → s.asked.modeAllowed .hold =
    false → 
    ∃ t, exec (.setModeHold p) s = .next t ∧
      Frame { regs := true, sys := true, dic := true, mb := true, le := true, tw := true } s t ∧ t = s.turnedDown p
        .stateConflict) ∧
  (∀ (s : State) (p : List (BitVec 8)), Takes s cmdSetMode p → fieldLE p 8 1 = 0x09 → s.asked.modeAllowed .service =
    true → fieldLE p 12 8 ≠ 0 → 
    ∃ t, exec (.setModeService p) s = .next t ∧
      Frame { regs := true, sys := true, dic := true, mb := true, le := true, tw := true } s t ∧ t = s.turnedDown p
        .range) ∧
  (∀ (s : State) (p : List (BitVec 8)), Takes s cmdSetMode p → fieldLE p 8 1 = 0x09 → s.asked.modeAllowed .service =
    false → 
    ∃ t, exec (.setModeService p) s = .next t ∧
      Frame { regs := true, sys := true, dic := true, mb := true, le := true, tw := true } s t ∧ t = s.turnedDown p
        .stateConflict) ∧
  (∀ (s : State) (p : List (BitVec 8)), Takes s cmdSetMode p → fieldLE p 8 1 = 0xFF → s.asked.sys.mode ≠ .table →
    s.asked.sys.mode ≠ .hold → s.asked.sys.mode ≠ .service → 
    ∃ t, exec (.setModeReset p) s = .next t ∧
      Frame { regs := true, sys := true, dic := true, mb := true, le := true, tw := true } s t ∧ t = s.turnedDown p
        .stateConflict) ∧
  (∀ (s : State) (p : List (BitVec 8)), Takes s cmdSetMode p → fieldLE p 8 1 = 0xFF → s.asked.sys.mode = .table ∨
    s.asked.sys.mode = .hold ∨ s.asked.sys.mode = .service → fieldLE p 12 8 < s.asked.time + msec 10 → 
    ∃ t, exec (.setModeReset p) s = .next t ∧
      Frame { regs := true, sys := true, dic := true, mb := true, le := true, tw := true } s t ∧ t = s.turnedDown p
        .timeout) ∧
  (∀ (s : State) (p : List (BitVec 8)), Takes s cmdSetMode p → fieldLE p 8 1 = 0xFF → s.asked.sys.mode = .table ∨
    s.asked.sys.mode = .hold ∨ s.asked.sys.mode = .service → s.asked.time + secs 60 < fieldLE p 12 8 → 
    ∃ t, exec (.setModeReset p) s = .next t ∧
      Frame { regs := true, sys := true, dic := true, mb := true, le := true, tw := true } s t ∧ t = s.turnedDown p
        .range) ∧
  (∀ (s : State) (p : List (BitVec 8)), Takes s cmdReadLog p → fieldLE p 16 2 = 0 ∨ 16384 < fieldLE p 16 2 → 
    ∃ t, exec (.readLog p) s = .next t ∧
      Frame { regs := true, sys := true, dic := true, mg := true, mb := true, le := true, tw := true } s t ∧ t =
        s.turnedDown p .range) ∧
  (∀ (s : State) (p : List (BitVec 8)) (t0 : Nat), Takes s cmdAttest p → s.asked.mg.lastSign = some t0 → s.asked.time
    < t0 + secs 1 → 
    ∃ t, exec (.attest p) s = .next t ∧
      Frame { regs := true, sys := true, dic := true, mg := true, mb := true, le := true, tw := true } s t ∧ t =
        s.turnedDown p .busy) ∧
  (∀ (s : State) (p : List (BitVec 8)), Takes s cmdContextAdd p → 4096 ≤ (addReq p).ctx ∨ 64 ≤ (addReq p).group ∨
    (addReq p).addr % 64 ≠ 0 → 
    ∃ t, exec (.contextAdd p) s = .next t ∧
      Frame { free := true, regs := true, sys := true, dic := true, mb := true, pb := true, vq := true, le := true, tw := true } s t ∧ t = s.turnedDown p .range) ∧
  (∀ (s : State) (p : List (BitVec 8)), Takes s cmdContextAdd p → (addReq p).ctx < 4096 → (addReq p).group < 64 →
    (addReq p).addr % 64 = 0 → s.asked.bit (PB_CFG_VALID (addReq p).ctx) = true → 
    ∃ t, exec (.contextAdd p) s = .next t ∧
      Frame { free := true, regs := true, sys := true, dic := true, mb := true, pb := true, vq := true, le := true, tw := true } s t ∧ t = s.turnedDown p .stateConflict) ∧
  (∀ (s : State) (p : List (BitVec 8)), Takes s cmdContextAdd p → (addReq p).ctx < 4096 → (addReq p).group < 64 →
    (addReq p).addr % 64 = 0 → s.asked.bit (PB_CFG_VALID (addReq p).ctx) = false → s.asked.bit TR_STATUS_ADMITTED =
      true → s.asked.rd TR_ADMIT ≤ (addReq p).ctx / 32 → 
    ∃ t, exec (.contextAdd p) s = .next t ∧
      Frame { free := true, regs := true, sys := true, dic := true, mb := true, pb := true, vq := true, le := true, tw := true } s t ∧ t = s.turnedDown p .notFit) ∧
  (∀ (s : State) (p : List (BitVec 8)), Takes s cmdContextRemove p → 4096 ≤ fieldLE p 8 2 → 
    ∃ t, exec (.contextRemove p) s = .next t ∧
      Frame { regs := true, sys := true, dic := true, mb := true, pb := true, le := true, tw := true } s t ∧ t =
        s.turnedDown p .range) ∧
  (∀ (s : State) (p : List (BitVec 8)), Takes s cmdContextRemove p → fieldLE p 8 2 < 4096 → s.asked.bit (PB_CFG_VALID
    (fieldLE p 8 2)) = false → 
    ∃ t, exec (.contextRemove p) s = .next t ∧
      Frame { regs := true, sys := true, dic := true, mb := true, pb := true, le := true, tw := true } s t ∧ t =
        s.turnedDown p .unknownContext) ∧
  (∀ (s : State) (p : List (BitVec 8)) (k : Ks), Takes s cmdSetBudget p → (((upto (fieldLE p 8 4)).map (budgetReq
    p)).filterMap s.asked.budgetBad).head? = some k → k.accepted = false → 
    ∃ t, exec (.setBudget p) s = .next t ∧
      Frame { regs := true, sys := true, dic := true, mb := true, pb := true, le := true, tw := true } s t ∧ t =
        s.turnedDown p k) ∧
  (∀ (s : State) (p : List (BitVec 8)), Takes s cmdSetLease p → 4096 ≤ fieldLE p 8 2 → 
    ∃ t, exec (.setLease p) s = .next t ∧
      Frame { regs := true, sys := true, dic := true, mb := true, pb := true, le := true, tw := true } s t ∧ t =
        s.turnedDown p .range) ∧
  (∀ (s : State) (p : List (BitVec 8)), Takes s cmdConfigWrite p → (entriesOf p).any (fun e => !entryKnown e) = true
    → 
    ∃ t, exec (.configWrite p) s = .next t ∧
      Frame { regs := true, sys := true, dic := true, mg := true, mb := true, le := true, tw := true } s t ∧ t =
        s.turnedDown p .range) ∧
  (∀ (s : State) (p : List (BitVec 8)), Takes s cmdLoopSet p → (∃ e ∈ entriesOf p, (loopOffset e.1) = none ∨ 4608 ≤
    e.2.1) → 
    ∃ t, exec (.loopSet p) s = .next t ∧
      Frame { regs := true, sys := true, dic := true, mg := true, mb := true, pb := true, le := true, pf := true, tw := true } s t ∧ t = s.turnedDown p .range) ∧
  (∀ (s : State) (p : List (BitVec 8)), Takes s cmdTableWrite p → 1024 ≤ fieldLE p 8 2 ∨ (∃ i, i < 15 ∧ flt (f32At p
    (12 + 4 * i)) (f32At p (16 + 4 * i)) = false) → 
    ∃ t, exec (.tableWrite p) s = .next t ∧
      Frame { regs := true, sys := true, dic := true, mb := true, le := true, tw := true } s t ∧ t = s.turnedDown p
        .range) ∧
  (∀ (s : State) (p : List (BitVec 8)), Takes s cmdInjectStart p → 4608 ≤ bitsOf (fieldLE p 8 4) 12 0 ∨ fisFin (f32At
    p 12) = false ∨ fisFin (f32At p 16) = false → 
    ∃ t, exec (.injectStart p) s = .next t ∧
      Frame { regs := true, sys := true, dic := true, mb := true, le := true, tw := true } s t ∧ t = s.turnedDown p
        .range) ∧
  (∀ (s : State) (p : List (BitVec 8)), Takes s cmdInjectStart p → bitsOf (fieldLE p 8 4) 12 0 < 4608 → fisFin (f32At
    p 12) = true → fisFin (f32At p 16) = true → s.asked.effMode (bitsOf (fieldLE p 8 4) 12 0) = 0 ∨ s.asked.effMode
      (bitsOf (fieldLE p 8 4) 12 0) = 4 → 
    ∃ t, exec (.injectStart p) s = .next t ∧
      Frame { regs := true, sys := true, dic := true, mb := true, le := true, tw := true } s t ∧ t = s.turnedDown p
        .stateConflict) ∧
  (∀ (s : State) (p : List (BitVec 8)), Takes s cmdInjectStart p → bitsOf (fieldLE p 8 4) 12 0 < 4608 → fisFin (f32At
    p 12) = true → fisFin (f32At p 16) = true → s.asked.effMode (bitsOf (fieldLE p 8 4) 12 0) ≠ 0 → s.asked.effMode
      (bitsOf (fieldLE p 8 4) 12 0) ≠ 4 → ((upto 32).find? fun c => !s.asked.injUsed c) = none → 
    ∃ t, exec (.injectStart p) s = .next t ∧
      Frame { regs := true, sys := true, dic := true, mb := true, le := true, tw := true } s t ∧ t = s.turnedDown p
        .busy) ∧
  (∀ (s : State) (p : List (BitVec 8)), Takes s cmdBobbinArm p → 8 ≤ fieldLE p 8 1 → 
    ∃ t, exec (.bobbinArm p) s = .next t ∧
      Frame { regs := true, sys := true, dic := true, mb := true, le := true, tw := true } s t ∧ t = s.turnedDown p
        .range) ∧
  (∀ (s : State) (p : List (BitVec 8)), Takes s cmdBobbinArm p → fieldLE p 8 1 < 8 → s.asked.bit (BOB_STATUS_ARMED
    (fieldLE p 8 1)) = true → s.asked.bit (BOB_STATUS_STOPPED (fieldLE p 8 1)) = false → 
    ∃ t, exec (.bobbinArm p) s = .next t ∧
      Frame { regs := true, sys := true, dic := true, mb := true, le := true, tw := true } s t ∧ t = s.turnedDown p
        .busy) ∧
  (∀ (s : State) (p : List (BitVec 8)), Takes s cmdPumpSet p → fieldLE p 9 1 = 0 → s.asked.sys.mode.run = false → 
    ∃ t, exec (.pumpDisable p) s = .next t ∧
      Frame { regs := true, sys := true, dic := true, mb := true, le := true, pf := true, fb := true, tw := true } s t ∧ t = s.turnedDown p .stateConflict) ∧
  (∀ (s : State) (p : List (BitVec 8)), Takes s cmdPumpSet p → fieldLE p 9 1 = 1 → s.asked.sys.mode.run = false → 
    ∃ t, exec (.pumpEnable p) s = .next t ∧
      Frame { regs := true, sys := true, dic := true, mb := true, le := true, pf := true, fb := true, tw := true } s t ∧ t = s.turnedDown p .stateConflict) ∧
  (∀ (s : State) (p : List (BitVec 8)), Takes s cmdPumpSet p → fieldLE p 9 1 = 0 → s.asked.sys.mode.run = true → 4 ≤
    fieldLE p 8 1 → 
    ∃ t, exec (.pumpDisable p) s = .next t ∧
      Frame { regs := true, sys := true, dic := true, mb := true, le := true, pf := true, fb := true, tw := true } s t ∧ t = s.turnedDown p .range) ∧
  (∀ (s : State) (p : List (BitVec 8)), Takes s cmdPumpSet p → fieldLE p 9 1 = 1 → s.asked.sys.mode.run = true → 4 ≤
    fieldLE p 8 1 → 
    ∃ t, exec (.pumpEnable p) s = .next t ∧
      Frame { regs := true, sys := true, dic := true, mb := true, le := true, pf := true, fb := true, tw := true } s t ∧ t = s.turnedDown p .range) ∧
  (∀ (s : State) (p : List (BitVec 8)), Takes s cmdPumpSet p → fieldLE p 9 1 = 2 → s.asked.sys.mode ≠ .service → 
    ∃ t, exec (.pumpSetSpeed p) s = .next t ∧
      Frame { regs := true, sys := true, dic := true, mb := true, le := true, pf := true, fb := true, tw := true } s t ∧ t = s.turnedDown p .stateConflict) ∧
  (∀ (s : State) (p : List (BitVec 8)), Takes s cmdPumpSet p → fieldLE p 9 1 = 2 → s.asked.sys.mode = .service →
    fieldLE p 8 1 < 4 → s.asked.bit PF_PMGR_ENABLE = true → 
    ∃ t, exec (.pumpSetSpeed p) s = .next t ∧
      Frame { regs := true, sys := true, dic := true, mb := true, le := true, pf := true, fb := true, tw := true } s t ∧ t = s.turnedDown p .stateConflict) ∧
  (∀ (s : State) (p : List (BitVec 8)), Takes s cmdValveSequence p → (p.length - 8) / 8 = 0 ∨ 32 < (p.length - 8) / 8
    → 
    ∃ t, exec (.valveSequence p) s = .next t ∧
      Frame { regs := true, sys := true, dic := true, mb := true, le := true, sv := true, tw := true } s t ∧ t =
        s.turnedDown p .range) ∧
  (∀ (s : State) (p : List (BitVec 8)), Takes s cmdCalibrationControl p → 16 ≤ fieldLE p 8 1 ∨ 4 < fieldLE p 9 1 → 
    ∃ t, exec (.calibrationControl p) s = .next t ∧
      Frame { regs := true, sys := true, dic := true, mg := true, mb := true, le := true, pf := true, tw := true } s t ∧ t = s.turnedDown p .range) ∧
  (∀ (s : State) (p : List (BitVec 8)), Takes s cmdModbusEnable p → 1 < fieldLE p 8 1 → 
    ∃ t, exec (.modbusWriteGrant p) s = .next t ∧
      Frame { regs := true, sys := true, dic := true, mg := true, mb := true, le := true, tw := true } s t ∧ t =
        s.turnedDown p .range) ∧
  (∀ (s : State) (p : List (BitVec 8)), Takes s cmdModbusEnable p → 1 < fieldLE p 8 1 → 
    ∃ t, exec (.modbusWriteRevoke p) s = .next t ∧
      Frame { regs := true, sys := true, dic := true, mg := true, mb := true, le := true, tw := true } s t ∧ t =
        s.turnedDown p .range) ∧
  (∀ (s : State) (p : List (BitVec 8)), Takes s cmdSnapshotAt p → fieldLE p 8 8 < s.asked.time + msec 1 → 
    ∃ t, exec (.snapshotAt p) s = .next t ∧
      Frame { regs := true, sys := true, dic := true, mb := true, le := true, tw := true } s t ∧ t = s.turnedDown p
        .timeout) ∧
  (∀ (s : State) (p : List (BitVec 8)), Takes s cmdSnapshotAt p → s.asked.time + secs 60 < fieldLE p 8 8 → 
    ∃ t, exec (.snapshotAt p) s = .next t ∧
      Frame { regs := true, sys := true, dic := true, mb := true, le := true, tw := true } s t ∧ t = s.turnedDown p
        .range) ∧
  (∀ (s : State) (p : List (BitVec 8)), Takes s cmdSnapshotAt p → s.asked.time + msec 1 ≤ fieldLE p 8 8 → fieldLE p 8
    8 ≤ s.asked.time + secs 60 → 4 ≤ s.asked.mb.snaps.length → 
    ∃ t, exec (.snapshotAt p) s = .next t ∧
      Frame { regs := true, sys := true, dic := true, mb := true, le := true, tw := true } s t ∧ t = s.turnedDown p
        .busy) ∧
  (∀ (s : State) (p : List (BitVec 8)), Takes s cmdUpdateBegin p → 2 ≤ fieldLE p 8 1 ∨ 44 * 1048576 < fieldLE p 12 4
    → 
    ∃ t, exec (.updateBegin p) s = .next t ∧
      Frame { regs := true, sys := true, dic := true, mg := true, mb := true, le := true, tw := true } s t ∧ t =
        s.turnedDown p .range) ∧
  (∀ (s : State) (p : List (BitVec 8)), Takes s cmdUpdateBegin p → fieldLE p 8 1 < 2 → fieldLE p 12 4 ≤ 44 * 1048576
    → s.asked.mg.update.isSome = true ∨ s.asked.tr.commit.isSome = true → 
    ∃ t, exec (.updateBegin p) s = .next t ∧
      Frame { regs := true, sys := true, dic := true, mg := true, mb := true, le := true, tw := true } s t ∧ t =
        s.turnedDown p .busy) ∧
  (∀ (s : State) (p : List (BitVec 8)), Takes s cmdUpdateBegin p → fieldLE p 8 1 = 1 → fieldLE p 12 4 ≤ 44 * 1048576
    → s.asked.mg.update = none → s.asked.tr.commit = none → s.asked.isActive = true → s.asked.partnerInStep = false → 
    ∃ t, exec (.updateBegin p) s = .next t ∧
      Frame { regs := true, sys := true, dic := true, mg := true, mb := true, le := true, tw := true } s t ∧ t =
        s.turnedDown p .stateConflict) ∧
  (∀ (s : State) (p : List (BitVec 8)), Takes s cmdUpdateChunk p → s.asked.mg.update = none ∨ (∃ u, s.asked.mg.update
    = some u ∧ u.verified = true) → 
    ∃ t, exec (.updateChunk p) s = .next t ∧
      Frame { regs := true, sys := true, dic := true, mg := true, mb := true, le := true, tw := true } s t ∧ t =
        s.turnedDown p .stateConflict) ∧
  (∀ (s : State) (p : List (BitVec 8)) (u : Update), Takes s cmdUpdateChunk p → s.asked.mg.update = some u →
    u.verified = false → fieldLE p 8 4 % 64 ≠ 0 ∨ u.size < fieldLE p 8 4 + (p.drop 12).length → 
    ∃ t, exec (.updateChunk p) s = .next t ∧
      Frame { regs := true, sys := true, dic := true, mg := true, mb := true, le := true, tw := true } s t ∧ t =
        s.turnedDown p .range) ∧
  (∀ (s : State) (p : List (BitVec 8)), Takes s cmdUpdateEnd p → fieldLE p 8 1 = 0 → s.asked.mg.update = none → 
    ∃ t, exec (.updateVerify p) s = .next t ∧
      Frame { free := true, regs := true, sys := true, dic := true, mg := true, mb := true, le := true, tw := true } s t ∧ t = s.turnedDown p .stateConflict) ∧
  (∀ (s : State) (p : List (BitVec 8)), Takes s cmdUpdateEnd p → fieldLE p 8 1 = 1 → s.asked.mg.update = none → 
    ∃ t, exec (.updateActivate p) s = .next t ∧
      Frame { free := true, regs := true, sys := true, dic := true, mg := true, mb := true, le := true, tw := true } s t ∧ t = s.turnedDown p .stateConflict) ∧
  (∀ (s : State) (p : List (BitVec 8)) (u : Update) (k : Ks), Takes s cmdUpdateEnd p → fieldLE p 8 1 = 0 →
    s.asked.mg.update = some u → s.asked.imageBad u = some k → k.accepted = false → 
    ∃ t, exec (.updateVerify p) s = .next t ∧
      Frame { free := true, regs := true, sys := true, dic := true, mg := true, mb := true, le := true, tw := true } s t ∧ t = s.turnedDown p k) ∧
  (∀ (s : State) (p : List (BitVec 8)) (u : Update), Takes s cmdUpdateEnd p → fieldLE p 8 1 = 1 → s.asked.mg.update =
    some u → u.target = 0 → s.asked.rd TW_PARTNER_ROLE = 2 → s.asked.bit TW_STATUS_HB_OK = true → 
    ∃ t, exec (.updateActivate p) s = .next t ∧
      Frame { free := true, regs := true, sys := true, dic := true, mg := true, mb := true, le := true, tw := true } s t ∧ t = s.turnedDown p .stateConflict) ∧
  (∀ (s : State) (p : List (BitVec 8)), Takes s cmdUpdateEnd p → fieldLE p 8 1 = 2 → s.asked.mg.update = none →
    s.asked.mg.confirmed = false ∨ s.asked.runningSlot.svn ≤ s.asked.mg.fuse → 
    ∃ t, exec (.updateRatchet p) s = .next t ∧
      Frame { free := true, regs := true, sys := true, dic := true, mg := true, mb := true, le := true, tw := true } s t ∧ t = s.turnedDown p .stateConflict) ∧
  (∀ (s : State) (p : List (BitVec 8)), Takes s cmdUpdateEnd p → fieldLE p 8 1 = 3 → s.asked.mg.update = none → 
    ∃ t, exec (.updateAbort p) s = .next t ∧
      Frame { free := true, regs := true, sys := true, dic := true, mg := true, mb := true, le := true, tw := true } s t ∧ t = s.turnedDown p .stateConflict) ∧
  (∀ (s : State) (p : List (BitVec 8)), Takes s cmdModelLoadChunk p → 16 ≤ fieldLE p 8 1 ∨ fieldLE p 12 8 % 64 ≠ 0 ∨
    0x80000000 ≤ fieldLE p 12 8 ∨ 0x80000000 < fieldLE p 12 8 + (p.drop 20).length → 
    ∃ t, exec (.modelLoadChunk p) s = .next t ∧
      Frame { regs := true, mem := true, sys := true, dic := true, mb := true, le := true, tw := true, ca := true } s t ∧ t = s.turnedDown p .range) ∧
  (∀ (s : State) (p : List (BitVec 8)), Takes s cmdModelLoadChunk p → fieldLE p 8 1 < 16 → fieldLE p 12 8 % 64 = 0 →
    fieldLE p 12 8 + (p.drop 20).length ≤ 0x80000000 → fieldLE p 12 8 < 0x80000000 → s.asked.lockedSlots.contains
      (fieldLE p 8 1) = true → 
    ∃ t, exec (.modelLoadChunk p) s = .next t ∧
      Frame { regs := true, mem := true, sys := true, dic := true, mb := true, le := true, tw := true, ca := true } s t ∧ t = s.turnedDown p .stateConflict) ∧
  (∀ (s : State) (p : List (BitVec 8)), Takes s cmdCommitModel p → s.asked.tr.commit.isSome = true → 
    ∃ t, exec (.commitModel p) s = .next t ∧
      Frame { regs := true, sys := true, dic := true, mb := true, le := true, tr := true, tw := true } s t ∧ t =
        s.turnedDown p .busy) ∧
  (∀ (s : State) (p : List (BitVec 8)), Takes s cmdCommitModel p → s.asked.tr.commit = none → 16 ≤ fieldLE p 8 1 ∨ 3
    ≤ fieldLE p 9 1 ∨ s.asked.headerOk (fieldLE p 8 1) = false → 
    ∃ t, exec (.commitModel p) s = .next t ∧
      Frame { regs := true, sys := true, dic := true, mb := true, le := true, tr := true, tw := true } s t ∧ t =
        s.turnedDown p .range) ∧
  (∀ (s : State) (p : List (BitVec 8)), Takes s cmdRevertModel p → s.asked.tr.commit.isSome = true → 
    ∃ t, exec (.revertModel p) s = .next t ∧
      Frame { regs := true, sys := true, dic := true, mg := true, mb := true, le := true, pf := true, tr := true, tw := true } s t ∧ t = s.turnedDown p .busy) ∧
  (∀ (s : State) (p : List (BitVec 8)), Takes s cmdRevertModel p → s.asked.tr.commit = none → s.asked.tr.previous =
    none → 
    ∃ t, exec (.revertModel p) s = .next t ∧
      Frame { regs := true, sys := true, dic := true, mg := true, mb := true, le := true, pf := true, tr := true, tw := true } s t ∧ t = s.turnedDown p .stateConflict)
end

