-- ==== Sys2Proof/Laws/Tables.lean ====
section
/-! SUPPORT. The sparse tables: reading back what was written, and the canonical form kept by every operation. -/

namespace Sys2Proof.Machine

variable {α : Type}

theorem tsortedFrom_mono {b c : Nat} (t : Table α) (h : b ≤ c) (hs : tsortedFrom c t = true) :
    tsortedFrom b t = true := by
  cases t with
  | nil => rfl
  | cons p t =>
    simp only [tsortedFrom, Bool.and_eq_true, decide_eq_true_eq] at hs ⊢
    exact ⟨Nat.le_trans h hs.1, hs.2⟩

/-- A key below every key of a table is not listed. -/
theorem tfind_of_lt {b k : Nat} (t : Table α) (hs : tsortedFrom b t = true) (h : k < b) : tfind t k = none := by
  induction t generalizing b with
  | nil => rfl
  | cons p t ih =>
    obtain ⟨a, v⟩ := p
    simp only [tsortedFrom, Bool.and_eq_true, decide_eq_true_eq] at hs
    have : a ≠ k := by omega
    simp only [tfind, this, if_false]
    exact ih hs.2 (by omega)

theorem tfind_tinsert_same (t : Table α) (k : Nat) (v : α) : tfind (tinsert t k v) k = some v := by
  induction t with
  | nil => simp [tinsert, tfind]
  | cons p t ih =>
    obtain ⟨a, w⟩ := p
    simp only [tinsert]
    split
    · simp [tfind]
    · split
      · simp [tfind]
      · rename_i h1 h2
        simp [tfind, h2, ih]

theorem tfind_tinsert_ne (t : Table α) {k j : Nat} (v : α) (h : j ≠ k) :
    tfind (tinsert t k v) j = tfind t j := by
  induction t with
  | nil => simp [tinsert, tfind, Ne.symm h]
  | cons p t ih =>
    obtain ⟨a, w⟩ := p
    simp only [tinsert]
    split
    · simp [tfind, Ne.symm h]
    · split
      · rename_i h1 h2
        subst h2
        simp [tfind, Ne.symm h]
      · simp only [tfind, ih]

theorem tfind_terase_ne (t : Table α) {k j : Nat} (h : j ≠ k) : tfind (terase t k) j = tfind t j := by
  induction t with
  | nil => rfl
  | cons p t ih =>
    obtain ⟨a, w⟩ := p
    simp only [terase]
    split
    · rename_i h1
      subst h1
      simp [tfind, Ne.symm h]
    · simp only [tfind, ih]

theorem tfind_terase_same {b : Nat} (t : Table α) (k : Nat) (hs : tsortedFrom b t = true) :
    tfind (terase t k) k = none := by
  induction t generalizing b with
  | nil => rfl
  | cons p t ih =>
    obtain ⟨a, w⟩ := p
    simp only [tsortedFrom, Bool.and_eq_true, decide_eq_true_eq] at hs
    simp only [terase]
    split
    · rename_i h1
      exact tfind_of_lt t hs.2 (by omega)
    · rename_i h1
      simp only [tfind, h1, if_false]
      exact ih hs.2

theorem tsortedFrom_terase {b : Nat} (t : Table α) (k : Nat) (hs : tsortedFrom b t = true) :
    tsortedFrom b (terase t k) = true := by
  induction t generalizing b with
  | nil => rfl
  | cons p t ih =>
    obtain ⟨a, w⟩ := p
    have hs' := hs
    simp only [tsortedFrom, Bool.and_eq_true, decide_eq_true_eq] at hs
    simp only [terase]
    split
    · exact tsortedFrom_mono t (by omega) hs.2
    · simp only [tsortedFrom, Bool.and_eq_true, decide_eq_true_eq]
      exact ⟨hs.1, ih hs.2⟩

theorem tsortedFrom_tinsert {b : Nat} (t : Table α) (k : Nat) (v : α) (hb : b ≤ k)
    (hs : tsortedFrom b t = true) : tsortedFrom b (tinsert t k v) = true := by
  induction t generalizing b with
  | nil => simp [tinsert, tsortedFrom, hb]
  | cons p t ih =>
    obtain ⟨a, w⟩ := p
    simp only [tsortedFrom, Bool.and_eq_true, decide_eq_true_eq] at hs
    simp only [tinsert]
    split
    · rename_i h1
      simp only [tsortedFrom, Bool.and_eq_true, decide_eq_true_eq]
      exact ⟨hb, by omega, hs.2⟩
    · split
      · rename_i h2
        subst h2
        simp only [tsortedFrom, Bool.and_eq_true, decide_eq_true_eq]
        exact ⟨hb, hs.2⟩
      · simp only [tsortedFrom, Bool.and_eq_true, decide_eq_true_eq]
        exact ⟨hs.1, ih (by omega) hs.2⟩

theorem all_terase (q : Nat × α → Bool) (t : Table α) (k : Nat) (h : t.all q = true) :
    (terase t k).all q = true := by
  induction t with
  | nil => rfl
  | cons p t ih =>
    obtain ⟨a, w⟩ := p
    simp only [List.all_cons, Bool.and_eq_true] at h
    simp only [terase]
    split
    · exact h.2
    · simp only [List.all_cons, Bool.and_eq_true]
      exact ⟨h.1, ih h.2⟩

theorem all_tinsert (q : Nat × α → Bool) (t : Table α) (k : Nat) (v : α) (hv : q (k, v) = true)
    (h : t.all q = true) : (tinsert t k v).all q = true := by
  induction t with
  | nil => simp [tinsert, hv]
  | cons p t ih =>
    obtain ⟨a, w⟩ := p
    simp only [List.all_cons, Bool.and_eq_true] at h
    simp only [tinsert]
    split
    · simp only [List.all_cons, Bool.and_eq_true]
      exact ⟨hv, h.1, h.2⟩
    · split
      · simp only [List.all_cons, Bool.and_eq_true]
        exact ⟨hv, h.2⟩
      · simp only [List.all_cons, Bool.and_eq_true]
        exact ⟨h.1, ih h.2⟩

theorem tsortedFrom_filter {b : Nat} (q : Nat × α → Bool) (t : Table α) (hs : tsortedFrom b t = true) :
    tsortedFrom b (t.filter q) = true := by
  induction t generalizing b with
  | nil => rfl
  | cons p t ih =>
    obtain ⟨a, w⟩ := p
    simp only [tsortedFrom, Bool.and_eq_true, decide_eq_true_eq] at hs
    simp only [List.filter]
    split
    · simp only [tsortedFrom, Bool.and_eq_true, decide_eq_true_eq]
      exact ⟨hs.1, ih hs.2⟩
    · exact ih (tsortedFrom_mono t (by omega) hs.2)

theorem all_filter (q r : Nat × α → Bool) (t : Table α) (h : t.all r = true) : (t.filter q).all r = true := by
  simp only [List.all_eq_true, List.mem_filter] at h ⊢
  exact fun x hx => h x hx.1

variable [DecidableEq α]

/-- Leaving entries out keeps the canonical form. -/
theorem twf_filter (d : Nat → α) (q : Nat × α → Bool) (t : Table α) (h : twf d t = true) : twf d (t.filter q) = true := by
  simp only [twf, Bool.and_eq_true] at h ⊢
  exact ⟨tsortedFrom_filter q t h.1, all_filter q _ t h.2⟩

/-- Writing keeps the canonical form. -/
theorem twf_tset (d : Nat → α) (t : Table α) (k : Nat) (v : α) (h : twf d t = true) :
    twf d (tset (d k) t k v) = true := by
  simp only [twf, Bool.and_eq_true] at h ⊢
  unfold tset
  split
  · exact ⟨tsortedFrom_terase t k h.1, all_terase _ t k h.2⟩
  · rename_i hv
    exact ⟨tsortedFrom_tinsert t k v (Nat.zero_le _) h.1, all_tinsert _ t k v (by simp [hv]) h.2⟩

/-- What was written reads back, at a canonical table. -/
theorem tget_tset_same (d : Nat → α) (t : Table α) (k : Nat) (v : α) (h : twf d t = true) :
    tget (d k) (tset (d k) t k v) k = v := by
  simp only [twf, Bool.and_eq_true] at h
  unfold tset tget
  split
  · rename_i hv
    rw [tfind_terase_same t k h.1, hv]
    rfl
  · rw [tfind_tinsert_same]
    rfl

/-- Another key reads as before. -/
theorem tget_tset_ne (d e : α) (t : Table α) {k j : Nat} (v : α) (h : j ≠ k) :
    tget e (tset d t k v) j = tget e t j := by
  unfold tset tget
  split
  · rw [tfind_terase_ne t h]
  · rw [tfind_tinsert_ne t v h]

/-! ### Registers and bytes -/

theorem regStore_wf (r : Table Word) (a : Nat) (w : Word) (h : twf resetWord r = true) :
    twf resetWord (regStore r a w) = true := twf_tset resetWord r a w h

/-- A list of words stored one after another keeps the canonical form. -/
theorem regStores_wf (l : List (Nat × Nat)) (r : Table Word) (h : twf resetWord r = true) :
    twf resetWord (l.foldl (fun t q => regStore t q.1 (BitVec.ofNat 32 q.2)) r) = true := by
  induction l generalizing r with
  | nil => exact h
  | cons q l ih => exact ih _ (regStore_wf r q.1 _ h)

/-- A register reads back what was stored. -/
theorem regWord_regStore_same (r : Table Word) (a : Nat) (w : Word) (h : twf resetWord r = true) :
    regWord (regStore r a w) a = w := tget_tset_same resetWord r a w h

/-- Storing a register leaves every other. -/
theorem regWord_regStore_ne (r : Table Word) {a b : Nat} (w : Word) (h : b ≠ a) :
    regWord (regStore r a w) b = regWord r b := tget_tset_ne _ _ r w h

theorem mem_tset_wf (m : List Host.Cell) (a : Nat) (b : Byte) (h : Memory.wf m) : Memory.wf (tset 0 m a b) :=
  twf_tset (fun _ => (0 : Byte)) m a b h

/-- A byte reads back what was stored. -/
theorem byte_setByte_same (s : State) (a : Nat) (b : Byte) (h : Memory.wf s.mem) : (s.setByte a b).byte a = b :=
  tget_tset_same (fun _ => (0 : Byte)) s.mem a b h

/-- Storing a byte leaves every other. -/
theorem byte_setByte_ne (s : State) {a k : Nat} (b : Byte) (h : k ≠ a) : (s.setByte a b).byte k = s.byte k :=
  tget_tset_ne _ _ s.mem b h

end Sys2Proof.Machine
end

