-- ==== Sys2Proof/Laws/State.lean ====
section
/-! SUPPORT. One lemma per field and update of the state, and what reads of registers and bytes see of an update.
Each equation holds by rfl; it is written .trans rfl rfl so that simp rewrites with it and leaves a proof that the kernel
checks step by step, instead of comparing whole states (an unlisted register reads its reset value from the long table
of rows). -/

namespace Sys2Proof.Machine

/-! ### A register field written -/

@[simp] theorem wr_pending (s : State) (f : RF) (v : Nat) : (s.wr f v).pending = s.pending := .trans rfl rfl
@[simp] theorem wr_time (s : State) (f : RF) (v : Nat) : (s.wr f v).time = s.time := .trans rfl rfl
@[simp] theorem wr_free (s : State) (f : RF) (v : Nat) : (s.wr f v).free = s.free := .trans rfl rfl
@[simp] theorem wr_mem (s : State) (f : RF) (v : Nat) : (s.wr f v).mem = s.mem := .trans rfl rfl
@[simp] theorem wr_sys (s : State) (f : RF) (v : Nat) : (s.wr f v).sys = s.sys := .trans rfl rfl
@[simp] theorem wr_dic (s : State) (f : RF) (v : Nat) : (s.wr f v).dic = s.dic := .trans rfl rfl
@[simp] theorem wr_mg (s : State) (f : RF) (v : Nat) : (s.wr f v).mg = s.mg := .trans rfl rfl
@[simp] theorem wr_mb (s : State) (f : RF) (v : Nat) : (s.wr f v).mb = s.mb := .trans rfl rfl
@[simp] theorem wr_pb (s : State) (f : RF) (v : Nat) : (s.wr f v).pb = s.pb := .trans rfl rfl
@[simp] theorem wr_vq (s : State) (f : RF) (v : Nat) : (s.wr f v).vq = s.vq := .trans rfl rfl
@[simp] theorem wr_le (s : State) (f : RF) (v : Nat) : (s.wr f v).le = s.le := .trans rfl rfl
@[simp] theorem wr_sv (s : State) (f : RF) (v : Nat) : (s.wr f v).sv = s.sv := .trans rfl rfl
@[simp] theorem wr_pf (s : State) (f : RF) (v : Nat) : (s.wr f v).pf = s.pf := .trans rfl rfl
@[simp] theorem wr_sn (s : State) (f : RF) (v : Nat) : (s.wr f v).sn = s.sn := .trans rfl rfl
@[simp] theorem wr_tr (s : State) (f : RF) (v : Nat) : (s.wr f v).tr = s.tr := .trans rfl rfl
@[simp] theorem wr_fb (s : State) (f : RF) (v : Nat) : (s.wr f v).fb = s.fb := .trans rfl rfl
@[simp] theorem wr_tw (s : State) (f : RF) (v : Nat) : (s.wr f v).tw = s.tw := .trans rfl rfl
@[simp] theorem wr_ca (s : State) (f : RF) (v : Nat) : (s.wr f v).ca = s.ca := .trans rfl rfl
@[simp] theorem wr_regs (s : State) (f : RF) (v : Nat) :
    (s.wr f v).regs = regStore s.regs f.addr (BitVec.ofNat 32 (withBits (s.word f.addr) f.hi f.lo v)) := .trans rfl rfl
@[simp] theorem putBit_eq (s : State) (f : RF) (b : Bool) : s.putBit f b = s.wr f (b2n b) := .trans rfl rfl
@[simp] theorem wrf_eq (s : State) (f : RF) (x : F32) : s.wrf f x = s.wr f x.toNat := .trans rfl rfl
@[simp] theorem wr_byte (s : State) (f : RF) (v a : Nat) : (s.wr f v).byte a = s.byte a := .trans rfl rfl

/-! ### The part sys changed -/

@[simp] theorem onSys_pending (s : State) (g : Sys → Sys) : (s.onSys g).pending = s.pending := .trans rfl rfl
@[simp] theorem onSys_time (s : State) (g : Sys → Sys) : (s.onSys g).time = s.time := .trans rfl rfl
@[simp] theorem onSys_free (s : State) (g : Sys → Sys) : (s.onSys g).free = s.free := .trans rfl rfl
@[simp] theorem onSys_regs (s : State) (g : Sys → Sys) : (s.onSys g).regs = s.regs := .trans rfl rfl
@[simp] theorem onSys_mem (s : State) (g : Sys → Sys) : (s.onSys g).mem = s.mem := .trans rfl rfl
@[simp] theorem onSys_sys (s : State) (g : Sys → Sys) : (s.onSys g).sys = g s.sys := .trans rfl rfl
@[simp] theorem onSys_dic (s : State) (g : Sys → Sys) : (s.onSys g).dic = s.dic := .trans rfl rfl
@[simp] theorem onSys_mg (s : State) (g : Sys → Sys) : (s.onSys g).mg = s.mg := .trans rfl rfl
@[simp] theorem onSys_mb (s : State) (g : Sys → Sys) : (s.onSys g).mb = s.mb := .trans rfl rfl
@[simp] theorem onSys_pb (s : State) (g : Sys → Sys) : (s.onSys g).pb = s.pb := .trans rfl rfl
@[simp] theorem onSys_vq (s : State) (g : Sys → Sys) : (s.onSys g).vq = s.vq := .trans rfl rfl
@[simp] theorem onSys_le (s : State) (g : Sys → Sys) : (s.onSys g).le = s.le := .trans rfl rfl
@[simp] theorem onSys_sv (s : State) (g : Sys → Sys) : (s.onSys g).sv = s.sv := .trans rfl rfl
@[simp] theorem onSys_pf (s : State) (g : Sys → Sys) : (s.onSys g).pf = s.pf := .trans rfl rfl
@[simp] theorem onSys_sn (s : State) (g : Sys → Sys) : (s.onSys g).sn = s.sn := .trans rfl rfl
@[simp] theorem onSys_tr (s : State) (g : Sys → Sys) : (s.onSys g).tr = s.tr := .trans rfl rfl
@[simp] theorem onSys_fb (s : State) (g : Sys → Sys) : (s.onSys g).fb = s.fb := .trans rfl rfl
@[simp] theorem onSys_tw (s : State) (g : Sys → Sys) : (s.onSys g).tw = s.tw := .trans rfl rfl
@[simp] theorem onSys_ca (s : State) (g : Sys → Sys) : (s.onSys g).ca = s.ca := .trans rfl rfl
@[simp] theorem onSys_word (s : State) (g : Sys → Sys) (a : Nat) : (s.onSys g).word a = s.word a := .trans rfl rfl
@[simp] theorem onSys_rd (s : State) (g : Sys → Sys) (f : RF) : (s.onSys g).rd f = s.rd f := .trans rfl rfl
@[simp] theorem onSys_bit (s : State) (g : Sys → Sys) (f : RF) : (s.onSys g).bit f = s.bit f := .trans rfl rfl
@[simp] theorem onSys_byte (s : State) (g : Sys → Sys) (a : Nat) : (s.onSys g).byte a = s.byte a := .trans rfl rfl

/-! ### The part dic changed -/

@[simp] theorem onDic_pending (s : State) (g : Dic → Dic) : (s.onDic g).pending = s.pending := .trans rfl rfl
@[simp] theorem onDic_time (s : State) (g : Dic → Dic) : (s.onDic g).time = s.time := .trans rfl rfl
@[simp] theorem onDic_free (s : State) (g : Dic → Dic) : (s.onDic g).free = s.free := .trans rfl rfl
@[simp] theorem onDic_regs (s : State) (g : Dic → Dic) : (s.onDic g).regs = s.regs := .trans rfl rfl
@[simp] theorem onDic_mem (s : State) (g : Dic → Dic) : (s.onDic g).mem = s.mem := .trans rfl rfl
@[simp] theorem onDic_sys (s : State) (g : Dic → Dic) : (s.onDic g).sys = s.sys := .trans rfl rfl
@[simp] theorem onDic_dic (s : State) (g : Dic → Dic) : (s.onDic g).dic = g s.dic := .trans rfl rfl
@[simp] theorem onDic_mg (s : State) (g : Dic → Dic) : (s.onDic g).mg = s.mg := .trans rfl rfl
@[simp] theorem onDic_mb (s : State) (g : Dic → Dic) : (s.onDic g).mb = s.mb := .trans rfl rfl
@[simp] theorem onDic_pb (s : State) (g : Dic → Dic) : (s.onDic g).pb = s.pb := .trans rfl rfl
@[simp] theorem onDic_vq (s : State) (g : Dic → Dic) : (s.onDic g).vq = s.vq := .trans rfl rfl
@[simp] theorem onDic_le (s : State) (g : Dic → Dic) : (s.onDic g).le = s.le := .trans rfl rfl
@[simp] theorem onDic_sv (s : State) (g : Dic → Dic) : (s.onDic g).sv = s.sv := .trans rfl rfl
@[simp] theorem onDic_pf (s : State) (g : Dic → Dic) : (s.onDic g).pf = s.pf := .trans rfl rfl
@[simp] theorem onDic_sn (s : State) (g : Dic → Dic) : (s.onDic g).sn = s.sn := .trans rfl rfl
@[simp] theorem onDic_tr (s : State) (g : Dic → Dic) : (s.onDic g).tr = s.tr := .trans rfl rfl
@[simp] theorem onDic_fb (s : State) (g : Dic → Dic) : (s.onDic g).fb = s.fb := .trans rfl rfl
@[simp] theorem onDic_tw (s : State) (g : Dic → Dic) : (s.onDic g).tw = s.tw := .trans rfl rfl
@[simp] theorem onDic_ca (s : State) (g : Dic → Dic) : (s.onDic g).ca = s.ca := .trans rfl rfl
@[simp] theorem onDic_word (s : State) (g : Dic → Dic) (a : Nat) : (s.onDic g).word a = s.word a := .trans rfl rfl
@[simp] theorem onDic_rd (s : State) (g : Dic → Dic) (f : RF) : (s.onDic g).rd f = s.rd f := .trans rfl rfl
@[simp] theorem onDic_bit (s : State) (g : Dic → Dic) (f : RF) : (s.onDic g).bit f = s.bit f := .trans rfl rfl
@[simp] theorem onDic_byte (s : State) (g : Dic → Dic) (a : Nat) : (s.onDic g).byte a = s.byte a := .trans rfl rfl

/-! ### The part mg changed -/

@[simp] theorem onMg_pending (s : State) (g : Mg → Mg) : (s.onMg g).pending = s.pending := .trans rfl rfl
@[simp] theorem onMg_time (s : State) (g : Mg → Mg) : (s.onMg g).time = s.time := .trans rfl rfl
@[simp] theorem onMg_free (s : State) (g : Mg → Mg) : (s.onMg g).free = s.free := .trans rfl rfl
@[simp] theorem onMg_regs (s : State) (g : Mg → Mg) : (s.onMg g).regs = s.regs := .trans rfl rfl
@[simp] theorem onMg_mem (s : State) (g : Mg → Mg) : (s.onMg g).mem = s.mem := .trans rfl rfl
@[simp] theorem onMg_sys (s : State) (g : Mg → Mg) : (s.onMg g).sys = s.sys := .trans rfl rfl
@[simp] theorem onMg_dic (s : State) (g : Mg → Mg) : (s.onMg g).dic = s.dic := .trans rfl rfl
@[simp] theorem onMg_mg (s : State) (g : Mg → Mg) : (s.onMg g).mg = g s.mg := .trans rfl rfl
@[simp] theorem onMg_mb (s : State) (g : Mg → Mg) : (s.onMg g).mb = s.mb := .trans rfl rfl
@[simp] theorem onMg_pb (s : State) (g : Mg → Mg) : (s.onMg g).pb = s.pb := .trans rfl rfl
@[simp] theorem onMg_vq (s : State) (g : Mg → Mg) : (s.onMg g).vq = s.vq := .trans rfl rfl
@[simp] theorem onMg_le (s : State) (g : Mg → Mg) : (s.onMg g).le = s.le := .trans rfl rfl
@[simp] theorem onMg_sv (s : State) (g : Mg → Mg) : (s.onMg g).sv = s.sv := .trans rfl rfl
@[simp] theorem onMg_pf (s : State) (g : Mg → Mg) : (s.onMg g).pf = s.pf := .trans rfl rfl
@[simp] theorem onMg_sn (s : State) (g : Mg → Mg) : (s.onMg g).sn = s.sn := .trans rfl rfl
@[simp] theorem onMg_tr (s : State) (g : Mg → Mg) : (s.onMg g).tr = s.tr := .trans rfl rfl
@[simp] theorem onMg_fb (s : State) (g : Mg → Mg) : (s.onMg g).fb = s.fb := .trans rfl rfl
@[simp] theorem onMg_tw (s : State) (g : Mg → Mg) : (s.onMg g).tw = s.tw := .trans rfl rfl
@[simp] theorem onMg_ca (s : State) (g : Mg → Mg) : (s.onMg g).ca = s.ca := .trans rfl rfl
@[simp] theorem onMg_word (s : State) (g : Mg → Mg) (a : Nat) : (s.onMg g).word a = s.word a := .trans rfl rfl
@[simp] theorem onMg_rd (s : State) (g : Mg → Mg) (f : RF) : (s.onMg g).rd f = s.rd f := .trans rfl rfl
@[simp] theorem onMg_bit (s : State) (g : Mg → Mg) (f : RF) : (s.onMg g).bit f = s.bit f := .trans rfl rfl
@[simp] theorem onMg_byte (s : State) (g : Mg → Mg) (a : Nat) : (s.onMg g).byte a = s.byte a := .trans rfl rfl

/-! ### The part mb changed -/

@[simp] theorem onMb_pending (s : State) (g : Mbox → Mbox) : (s.onMb g).pending = s.pending := .trans rfl rfl
@[simp] theorem onMb_time (s : State) (g : Mbox → Mbox) : (s.onMb g).time = s.time := .trans rfl rfl
@[simp] theorem onMb_free (s : State) (g : Mbox → Mbox) : (s.onMb g).free = s.free := .trans rfl rfl
@[simp] theorem onMb_regs (s : State) (g : Mbox → Mbox) : (s.onMb g).regs = s.regs := .trans rfl rfl
@[simp] theorem onMb_mem (s : State) (g : Mbox → Mbox) : (s.onMb g).mem = s.mem := .trans rfl rfl
@[simp] theorem onMb_sys (s : State) (g : Mbox → Mbox) : (s.onMb g).sys = s.sys := .trans rfl rfl
@[simp] theorem onMb_dic (s : State) (g : Mbox → Mbox) : (s.onMb g).dic = s.dic := .trans rfl rfl
@[simp] theorem onMb_mg (s : State) (g : Mbox → Mbox) : (s.onMb g).mg = s.mg := .trans rfl rfl
@[simp] theorem onMb_mb (s : State) (g : Mbox → Mbox) : (s.onMb g).mb = g s.mb := .trans rfl rfl
@[simp] theorem onMb_pb (s : State) (g : Mbox → Mbox) : (s.onMb g).pb = s.pb := .trans rfl rfl
@[simp] theorem onMb_vq (s : State) (g : Mbox → Mbox) : (s.onMb g).vq = s.vq := .trans rfl rfl
@[simp] theorem onMb_le (s : State) (g : Mbox → Mbox) : (s.onMb g).le = s.le := .trans rfl rfl
@[simp] theorem onMb_sv (s : State) (g : Mbox → Mbox) : (s.onMb g).sv = s.sv := .trans rfl rfl
@[simp] theorem onMb_pf (s : State) (g : Mbox → Mbox) : (s.onMb g).pf = s.pf := .trans rfl rfl
@[simp] theorem onMb_sn (s : State) (g : Mbox → Mbox) : (s.onMb g).sn = s.sn := .trans rfl rfl
@[simp] theorem onMb_tr (s : State) (g : Mbox → Mbox) : (s.onMb g).tr = s.tr := .trans rfl rfl
@[simp] theorem onMb_fb (s : State) (g : Mbox → Mbox) : (s.onMb g).fb = s.fb := .trans rfl rfl
@[simp] theorem onMb_tw (s : State) (g : Mbox → Mbox) : (s.onMb g).tw = s.tw := .trans rfl rfl
@[simp] theorem onMb_ca (s : State) (g : Mbox → Mbox) : (s.onMb g).ca = s.ca := .trans rfl rfl
@[simp] theorem onMb_word (s : State) (g : Mbox → Mbox) (a : Nat) : (s.onMb g).word a = s.word a := .trans rfl rfl
@[simp] theorem onMb_rd (s : State) (g : Mbox → Mbox) (f : RF) : (s.onMb g).rd f = s.rd f := .trans rfl rfl
@[simp] theorem onMb_bit (s : State) (g : Mbox → Mbox) (f : RF) : (s.onMb g).bit f = s.bit f := .trans rfl rfl
@[simp] theorem onMb_byte (s : State) (g : Mbox → Mbox) (a : Nat) : (s.onMb g).byte a = s.byte a := .trans rfl rfl

/-! ### The part pb changed -/

@[simp] theorem onPb_pending (s : State) (g : Broker → Broker) : (s.onPb g).pending = s.pending := .trans rfl rfl
@[simp] theorem onPb_time (s : State) (g : Broker → Broker) : (s.onPb g).time = s.time := .trans rfl rfl
@[simp] theorem onPb_free (s : State) (g : Broker → Broker) : (s.onPb g).free = s.free := .trans rfl rfl
@[simp] theorem onPb_regs (s : State) (g : Broker → Broker) : (s.onPb g).regs = s.regs := .trans rfl rfl
@[simp] theorem onPb_mem (s : State) (g : Broker → Broker) : (s.onPb g).mem = s.mem := .trans rfl rfl
@[simp] theorem onPb_sys (s : State) (g : Broker → Broker) : (s.onPb g).sys = s.sys := .trans rfl rfl
@[simp] theorem onPb_dic (s : State) (g : Broker → Broker) : (s.onPb g).dic = s.dic := .trans rfl rfl
@[simp] theorem onPb_mg (s : State) (g : Broker → Broker) : (s.onPb g).mg = s.mg := .trans rfl rfl
@[simp] theorem onPb_mb (s : State) (g : Broker → Broker) : (s.onPb g).mb = s.mb := .trans rfl rfl
@[simp] theorem onPb_pb (s : State) (g : Broker → Broker) : (s.onPb g).pb = g s.pb := .trans rfl rfl
@[simp] theorem onPb_vq (s : State) (g : Broker → Broker) : (s.onPb g).vq = s.vq := .trans rfl rfl
@[simp] theorem onPb_le (s : State) (g : Broker → Broker) : (s.onPb g).le = s.le := .trans rfl rfl
@[simp] theorem onPb_sv (s : State) (g : Broker → Broker) : (s.onPb g).sv = s.sv := .trans rfl rfl
@[simp] theorem onPb_pf (s : State) (g : Broker → Broker) : (s.onPb g).pf = s.pf := .trans rfl rfl
@[simp] theorem onPb_sn (s : State) (g : Broker → Broker) : (s.onPb g).sn = s.sn := .trans rfl rfl
@[simp] theorem onPb_tr (s : State) (g : Broker → Broker) : (s.onPb g).tr = s.tr := .trans rfl rfl
@[simp] theorem onPb_fb (s : State) (g : Broker → Broker) : (s.onPb g).fb = s.fb := .trans rfl rfl
@[simp] theorem onPb_tw (s : State) (g : Broker → Broker) : (s.onPb g).tw = s.tw := .trans rfl rfl
@[simp] theorem onPb_ca (s : State) (g : Broker → Broker) : (s.onPb g).ca = s.ca := .trans rfl rfl
@[simp] theorem onPb_word (s : State) (g : Broker → Broker) (a : Nat) : (s.onPb g).word a = s.word a := .trans rfl rfl
@[simp] theorem onPb_rd (s : State) (g : Broker → Broker) (f : RF) : (s.onPb g).rd f = s.rd f := .trans rfl rfl
@[simp] theorem onPb_bit (s : State) (g : Broker → Broker) (f : RF) : (s.onPb g).bit f = s.bit f := .trans rfl rfl
@[simp] theorem onPb_byte (s : State) (g : Broker → Broker) (a : Nat) : (s.onPb g).byte a = s.byte a := .trans rfl rfl

/-! ### The part vq changed -/

@[simp] theorem onVq_pending (s : State) (g : Vat → Vat) : (s.onVq g).pending = s.pending := .trans rfl rfl
@[simp] theorem onVq_time (s : State) (g : Vat → Vat) : (s.onVq g).time = s.time := .trans rfl rfl
@[simp] theorem onVq_free (s : State) (g : Vat → Vat) : (s.onVq g).free = s.free := .trans rfl rfl
@[simp] theorem onVq_regs (s : State) (g : Vat → Vat) : (s.onVq g).regs = s.regs := .trans rfl rfl
@[simp] theorem onVq_mem (s : State) (g : Vat → Vat) : (s.onVq g).mem = s.mem := .trans rfl rfl
@[simp] theorem onVq_sys (s : State) (g : Vat → Vat) : (s.onVq g).sys = s.sys := .trans rfl rfl
@[simp] theorem onVq_dic (s : State) (g : Vat → Vat) : (s.onVq g).dic = s.dic := .trans rfl rfl
@[simp] theorem onVq_mg (s : State) (g : Vat → Vat) : (s.onVq g).mg = s.mg := .trans rfl rfl
@[simp] theorem onVq_mb (s : State) (g : Vat → Vat) : (s.onVq g).mb = s.mb := .trans rfl rfl
@[simp] theorem onVq_pb (s : State) (g : Vat → Vat) : (s.onVq g).pb = s.pb := .trans rfl rfl
@[simp] theorem onVq_vq (s : State) (g : Vat → Vat) : (s.onVq g).vq = g s.vq := .trans rfl rfl
@[simp] theorem onVq_le (s : State) (g : Vat → Vat) : (s.onVq g).le = s.le := .trans rfl rfl
@[simp] theorem onVq_sv (s : State) (g : Vat → Vat) : (s.onVq g).sv = s.sv := .trans rfl rfl
@[simp] theorem onVq_pf (s : State) (g : Vat → Vat) : (s.onVq g).pf = s.pf := .trans rfl rfl
@[simp] theorem onVq_sn (s : State) (g : Vat → Vat) : (s.onVq g).sn = s.sn := .trans rfl rfl
@[simp] theorem onVq_tr (s : State) (g : Vat → Vat) : (s.onVq g).tr = s.tr := .trans rfl rfl
@[simp] theorem onVq_fb (s : State) (g : Vat → Vat) : (s.onVq g).fb = s.fb := .trans rfl rfl
@[simp] theorem onVq_tw (s : State) (g : Vat → Vat) : (s.onVq g).tw = s.tw := .trans rfl rfl
@[simp] theorem onVq_ca (s : State) (g : Vat → Vat) : (s.onVq g).ca = s.ca := .trans rfl rfl
@[simp] theorem onVq_word (s : State) (g : Vat → Vat) (a : Nat) : (s.onVq g).word a = s.word a := .trans rfl rfl
@[simp] theorem onVq_rd (s : State) (g : Vat → Vat) (f : RF) : (s.onVq g).rd f = s.rd f := .trans rfl rfl
@[simp] theorem onVq_bit (s : State) (g : Vat → Vat) (f : RF) : (s.onVq g).bit f = s.bit f := .trans rfl rfl
@[simp] theorem onVq_byte (s : State) (g : Vat → Vat) (a : Nat) : (s.onVq g).byte a = s.byte a := .trans rfl rfl

/-! ### The part le changed -/

@[simp] theorem onLe_pending (s : State) (g : Loops → Loops) : (s.onLe g).pending = s.pending := .trans rfl rfl
@[simp] theorem onLe_time (s : State) (g : Loops → Loops) : (s.onLe g).time = s.time := .trans rfl rfl
@[simp] theorem onLe_free (s : State) (g : Loops → Loops) : (s.onLe g).free = s.free := .trans rfl rfl
@[simp] theorem onLe_regs (s : State) (g : Loops → Loops) : (s.onLe g).regs = s.regs := .trans rfl rfl
@[simp] theorem onLe_mem (s : State) (g : Loops → Loops) : (s.onLe g).mem = s.mem := .trans rfl rfl
@[simp] theorem onLe_sys (s : State) (g : Loops → Loops) : (s.onLe g).sys = s.sys := .trans rfl rfl
@[simp] theorem onLe_dic (s : State) (g : Loops → Loops) : (s.onLe g).dic = s.dic := .trans rfl rfl
@[simp] theorem onLe_mg (s : State) (g : Loops → Loops) : (s.onLe g).mg = s.mg := .trans rfl rfl
@[simp] theorem onLe_mb (s : State) (g : Loops → Loops) : (s.onLe g).mb = s.mb := .trans rfl rfl
@[simp] theorem onLe_pb (s : State) (g : Loops → Loops) : (s.onLe g).pb = s.pb := .trans rfl rfl
@[simp] theorem onLe_vq (s : State) (g : Loops → Loops) : (s.onLe g).vq = s.vq := .trans rfl rfl
@[simp] theorem onLe_le (s : State) (g : Loops → Loops) : (s.onLe g).le = g s.le := .trans rfl rfl
@[simp] theorem onLe_sv (s : State) (g : Loops → Loops) : (s.onLe g).sv = s.sv := .trans rfl rfl
@[simp] theorem onLe_pf (s : State) (g : Loops → Loops) : (s.onLe g).pf = s.pf := .trans rfl rfl
@[simp] theorem onLe_sn (s : State) (g : Loops → Loops) : (s.onLe g).sn = s.sn := .trans rfl rfl
@[simp] theorem onLe_tr (s : State) (g : Loops → Loops) : (s.onLe g).tr = s.tr := .trans rfl rfl
@[simp] theorem onLe_fb (s : State) (g : Loops → Loops) : (s.onLe g).fb = s.fb := .trans rfl rfl
@[simp] theorem onLe_tw (s : State) (g : Loops → Loops) : (s.onLe g).tw = s.tw := .trans rfl rfl
@[simp] theorem onLe_ca (s : State) (g : Loops → Loops) : (s.onLe g).ca = s.ca := .trans rfl rfl
@[simp] theorem onLe_word (s : State) (g : Loops → Loops) (a : Nat) : (s.onLe g).word a = s.word a := .trans rfl rfl
@[simp] theorem onLe_rd (s : State) (g : Loops → Loops) (f : RF) : (s.onLe g).rd f = s.rd f := .trans rfl rfl
@[simp] theorem onLe_bit (s : State) (g : Loops → Loops) (f : RF) : (s.onLe g).bit f = s.bit f := .trans rfl rfl
@[simp] theorem onLe_byte (s : State) (g : Loops → Loops) (a : Nat) : (s.onLe g).byte a = s.byte a := .trans rfl rfl

/-! ### The part sv changed -/

@[simp] theorem onSv_pending (s : State) (g : Sv → Sv) : (s.onSv g).pending = s.pending := .trans rfl rfl
@[simp] theorem onSv_time (s : State) (g : Sv → Sv) : (s.onSv g).time = s.time := .trans rfl rfl
@[simp] theorem onSv_free (s : State) (g : Sv → Sv) : (s.onSv g).free = s.free := .trans rfl rfl
@[simp] theorem onSv_regs (s : State) (g : Sv → Sv) : (s.onSv g).regs = s.regs := .trans rfl rfl
@[simp] theorem onSv_mem (s : State) (g : Sv → Sv) : (s.onSv g).mem = s.mem := .trans rfl rfl
@[simp] theorem onSv_sys (s : State) (g : Sv → Sv) : (s.onSv g).sys = s.sys := .trans rfl rfl
@[simp] theorem onSv_dic (s : State) (g : Sv → Sv) : (s.onSv g).dic = s.dic := .trans rfl rfl
@[simp] theorem onSv_mg (s : State) (g : Sv → Sv) : (s.onSv g).mg = s.mg := .trans rfl rfl
@[simp] theorem onSv_mb (s : State) (g : Sv → Sv) : (s.onSv g).mb = s.mb := .trans rfl rfl
@[simp] theorem onSv_pb (s : State) (g : Sv → Sv) : (s.onSv g).pb = s.pb := .trans rfl rfl
@[simp] theorem onSv_vq (s : State) (g : Sv → Sv) : (s.onSv g).vq = s.vq := .trans rfl rfl
@[simp] theorem onSv_le (s : State) (g : Sv → Sv) : (s.onSv g).le = s.le := .trans rfl rfl
@[simp] theorem onSv_sv (s : State) (g : Sv → Sv) : (s.onSv g).sv = g s.sv := .trans rfl rfl
@[simp] theorem onSv_pf (s : State) (g : Sv → Sv) : (s.onSv g).pf = s.pf := .trans rfl rfl
@[simp] theorem onSv_sn (s : State) (g : Sv → Sv) : (s.onSv g).sn = s.sn := .trans rfl rfl
@[simp] theorem onSv_tr (s : State) (g : Sv → Sv) : (s.onSv g).tr = s.tr := .trans rfl rfl
@[simp] theorem onSv_fb (s : State) (g : Sv → Sv) : (s.onSv g).fb = s.fb := .trans rfl rfl
@[simp] theorem onSv_tw (s : State) (g : Sv → Sv) : (s.onSv g).tw = s.tw := .trans rfl rfl
@[simp] theorem onSv_ca (s : State) (g : Sv → Sv) : (s.onSv g).ca = s.ca := .trans rfl rfl
@[simp] theorem onSv_word (s : State) (g : Sv → Sv) (a : Nat) : (s.onSv g).word a = s.word a := .trans rfl rfl
@[simp] theorem onSv_rd (s : State) (g : Sv → Sv) (f : RF) : (s.onSv g).rd f = s.rd f := .trans rfl rfl
@[simp] theorem onSv_bit (s : State) (g : Sv → Sv) (f : RF) : (s.onSv g).bit f = s.bit f := .trans rfl rfl
@[simp] theorem onSv_byte (s : State) (g : Sv → Sv) (a : Nat) : (s.onSv g).byte a = s.byte a := .trans rfl rfl

/-! ### The part pf changed -/

@[simp] theorem onPf_pending (s : State) (g : Pf → Pf) : (s.onPf g).pending = s.pending := .trans rfl rfl
@[simp] theorem onPf_time (s : State) (g : Pf → Pf) : (s.onPf g).time = s.time := .trans rfl rfl
@[simp] theorem onPf_free (s : State) (g : Pf → Pf) : (s.onPf g).free = s.free := .trans rfl rfl
@[simp] theorem onPf_regs (s : State) (g : Pf → Pf) : (s.onPf g).regs = s.regs := .trans rfl rfl
@[simp] theorem onPf_mem (s : State) (g : Pf → Pf) : (s.onPf g).mem = s.mem := .trans rfl rfl
@[simp] theorem onPf_sys (s : State) (g : Pf → Pf) : (s.onPf g).sys = s.sys := .trans rfl rfl
@[simp] theorem onPf_dic (s : State) (g : Pf → Pf) : (s.onPf g).dic = s.dic := .trans rfl rfl
@[simp] theorem onPf_mg (s : State) (g : Pf → Pf) : (s.onPf g).mg = s.mg := .trans rfl rfl
@[simp] theorem onPf_mb (s : State) (g : Pf → Pf) : (s.onPf g).mb = s.mb := .trans rfl rfl
@[simp] theorem onPf_pb (s : State) (g : Pf → Pf) : (s.onPf g).pb = s.pb := .trans rfl rfl
@[simp] theorem onPf_vq (s : State) (g : Pf → Pf) : (s.onPf g).vq = s.vq := .trans rfl rfl
@[simp] theorem onPf_le (s : State) (g : Pf → Pf) : (s.onPf g).le = s.le := .trans rfl rfl
@[simp] theorem onPf_sv (s : State) (g : Pf → Pf) : (s.onPf g).sv = s.sv := .trans rfl rfl
@[simp] theorem onPf_pf (s : State) (g : Pf → Pf) : (s.onPf g).pf = g s.pf := .trans rfl rfl
@[simp] theorem onPf_sn (s : State) (g : Pf → Pf) : (s.onPf g).sn = s.sn := .trans rfl rfl
@[simp] theorem onPf_tr (s : State) (g : Pf → Pf) : (s.onPf g).tr = s.tr := .trans rfl rfl
@[simp] theorem onPf_fb (s : State) (g : Pf → Pf) : (s.onPf g).fb = s.fb := .trans rfl rfl
@[simp] theorem onPf_tw (s : State) (g : Pf → Pf) : (s.onPf g).tw = s.tw := .trans rfl rfl
@[simp] theorem onPf_ca (s : State) (g : Pf → Pf) : (s.onPf g).ca = s.ca := .trans rfl rfl
@[simp] theorem onPf_word (s : State) (g : Pf → Pf) (a : Nat) : (s.onPf g).word a = s.word a := .trans rfl rfl
@[simp] theorem onPf_rd (s : State) (g : Pf → Pf) (f : RF) : (s.onPf g).rd f = s.rd f := .trans rfl rfl
@[simp] theorem onPf_bit (s : State) (g : Pf → Pf) (f : RF) : (s.onPf g).bit f = s.bit f := .trans rfl rfl
@[simp] theorem onPf_byte (s : State) (g : Pf → Pf) (a : Nat) : (s.onPf g).byte a = s.byte a := .trans rfl rfl

/-! ### The part sn changed -/

@[simp] theorem onSn_pending (s : State) (g : Sn → Sn) : (s.onSn g).pending = s.pending := .trans rfl rfl
@[simp] theorem onSn_time (s : State) (g : Sn → Sn) : (s.onSn g).time = s.time := .trans rfl rfl
@[simp] theorem onSn_free (s : State) (g : Sn → Sn) : (s.onSn g).free = s.free := .trans rfl rfl
@[simp] theorem onSn_regs (s : State) (g : Sn → Sn) : (s.onSn g).regs = s.regs := .trans rfl rfl
@[simp] theorem onSn_mem (s : State) (g : Sn → Sn) : (s.onSn g).mem = s.mem := .trans rfl rfl
@[simp] theorem onSn_sys (s : State) (g : Sn → Sn) : (s.onSn g).sys = s.sys := .trans rfl rfl
@[simp] theorem onSn_dic (s : State) (g : Sn → Sn) : (s.onSn g).dic = s.dic := .trans rfl rfl
@[simp] theorem onSn_mg (s : State) (g : Sn → Sn) : (s.onSn g).mg = s.mg := .trans rfl rfl
@[simp] theorem onSn_mb (s : State) (g : Sn → Sn) : (s.onSn g).mb = s.mb := .trans rfl rfl
@[simp] theorem onSn_pb (s : State) (g : Sn → Sn) : (s.onSn g).pb = s.pb := .trans rfl rfl
@[simp] theorem onSn_vq (s : State) (g : Sn → Sn) : (s.onSn g).vq = s.vq := .trans rfl rfl
@[simp] theorem onSn_le (s : State) (g : Sn → Sn) : (s.onSn g).le = s.le := .trans rfl rfl
@[simp] theorem onSn_sv (s : State) (g : Sn → Sn) : (s.onSn g).sv = s.sv := .trans rfl rfl
@[simp] theorem onSn_pf (s : State) (g : Sn → Sn) : (s.onSn g).pf = s.pf := .trans rfl rfl
@[simp] theorem onSn_sn (s : State) (g : Sn → Sn) : (s.onSn g).sn = g s.sn := .trans rfl rfl
@[simp] theorem onSn_tr (s : State) (g : Sn → Sn) : (s.onSn g).tr = s.tr := .trans rfl rfl
@[simp] theorem onSn_fb (s : State) (g : Sn → Sn) : (s.onSn g).fb = s.fb := .trans rfl rfl
@[simp] theorem onSn_tw (s : State) (g : Sn → Sn) : (s.onSn g).tw = s.tw := .trans rfl rfl
@[simp] theorem onSn_ca (s : State) (g : Sn → Sn) : (s.onSn g).ca = s.ca := .trans rfl rfl
@[simp] theorem onSn_word (s : State) (g : Sn → Sn) (a : Nat) : (s.onSn g).word a = s.word a := .trans rfl rfl
@[simp] theorem onSn_rd (s : State) (g : Sn → Sn) (f : RF) : (s.onSn g).rd f = s.rd f := .trans rfl rfl
@[simp] theorem onSn_bit (s : State) (g : Sn → Sn) (f : RF) : (s.onSn g).bit f = s.bit f := .trans rfl rfl
@[simp] theorem onSn_byte (s : State) (g : Sn → Sn) (a : Nat) : (s.onSn g).byte a = s.byte a := .trans rfl rfl

/-! ### The part tr changed -/

@[simp] theorem onTr_pending (s : State) (g : Tr → Tr) : (s.onTr g).pending = s.pending := .trans rfl rfl
@[simp] theorem onTr_time (s : State) (g : Tr → Tr) : (s.onTr g).time = s.time := .trans rfl rfl
@[simp] theorem onTr_free (s : State) (g : Tr → Tr) : (s.onTr g).free = s.free := .trans rfl rfl
@[simp] theorem onTr_regs (s : State) (g : Tr → Tr) : (s.onTr g).regs = s.regs := .trans rfl rfl
@[simp] theorem onTr_mem (s : State) (g : Tr → Tr) : (s.onTr g).mem = s.mem := .trans rfl rfl
@[simp] theorem onTr_sys (s : State) (g : Tr → Tr) : (s.onTr g).sys = s.sys := .trans rfl rfl
@[simp] theorem onTr_dic (s : State) (g : Tr → Tr) : (s.onTr g).dic = s.dic := .trans rfl rfl
@[simp] theorem onTr_mg (s : State) (g : Tr → Tr) : (s.onTr g).mg = s.mg := .trans rfl rfl
@[simp] theorem onTr_mb (s : State) (g : Tr → Tr) : (s.onTr g).mb = s.mb := .trans rfl rfl
@[simp] theorem onTr_pb (s : State) (g : Tr → Tr) : (s.onTr g).pb = s.pb := .trans rfl rfl
@[simp] theorem onTr_vq (s : State) (g : Tr → Tr) : (s.onTr g).vq = s.vq := .trans rfl rfl
@[simp] theorem onTr_le (s : State) (g : Tr → Tr) : (s.onTr g).le = s.le := .trans rfl rfl
@[simp] theorem onTr_sv (s : State) (g : Tr → Tr) : (s.onTr g).sv = s.sv := .trans rfl rfl
@[simp] theorem onTr_pf (s : State) (g : Tr → Tr) : (s.onTr g).pf = s.pf := .trans rfl rfl
@[simp] theorem onTr_sn (s : State) (g : Tr → Tr) : (s.onTr g).sn = s.sn := .trans rfl rfl
@[simp] theorem onTr_tr (s : State) (g : Tr → Tr) : (s.onTr g).tr = g s.tr := .trans rfl rfl
@[simp] theorem onTr_fb (s : State) (g : Tr → Tr) : (s.onTr g).fb = s.fb := .trans rfl rfl
@[simp] theorem onTr_tw (s : State) (g : Tr → Tr) : (s.onTr g).tw = s.tw := .trans rfl rfl
@[simp] theorem onTr_ca (s : State) (g : Tr → Tr) : (s.onTr g).ca = s.ca := .trans rfl rfl
@[simp] theorem onTr_word (s : State) (g : Tr → Tr) (a : Nat) : (s.onTr g).word a = s.word a := .trans rfl rfl
@[simp] theorem onTr_rd (s : State) (g : Tr → Tr) (f : RF) : (s.onTr g).rd f = s.rd f := .trans rfl rfl
@[simp] theorem onTr_bit (s : State) (g : Tr → Tr) (f : RF) : (s.onTr g).bit f = s.bit f := .trans rfl rfl
@[simp] theorem onTr_byte (s : State) (g : Tr → Tr) (a : Nat) : (s.onTr g).byte a = s.byte a := .trans rfl rfl

/-! ### The part fb changed -/

@[simp] theorem onFb_pending (s : State) (g : Fb → Fb) : (s.onFb g).pending = s.pending := .trans rfl rfl
@[simp] theorem onFb_time (s : State) (g : Fb → Fb) : (s.onFb g).time = s.time := .trans rfl rfl
@[simp] theorem onFb_free (s : State) (g : Fb → Fb) : (s.onFb g).free = s.free := .trans rfl rfl
@[simp] theorem onFb_regs (s : State) (g : Fb → Fb) : (s.onFb g).regs = s.regs := .trans rfl rfl
@[simp] theorem onFb_mem (s : State) (g : Fb → Fb) : (s.onFb g).mem = s.mem := .trans rfl rfl
@[simp] theorem onFb_sys (s : State) (g : Fb → Fb) : (s.onFb g).sys = s.sys := .trans rfl rfl
@[simp] theorem onFb_dic (s : State) (g : Fb → Fb) : (s.onFb g).dic = s.dic := .trans rfl rfl
@[simp] theorem onFb_mg (s : State) (g : Fb → Fb) : (s.onFb g).mg = s.mg := .trans rfl rfl
@[simp] theorem onFb_mb (s : State) (g : Fb → Fb) : (s.onFb g).mb = s.mb := .trans rfl rfl
@[simp] theorem onFb_pb (s : State) (g : Fb → Fb) : (s.onFb g).pb = s.pb := .trans rfl rfl
@[simp] theorem onFb_vq (s : State) (g : Fb → Fb) : (s.onFb g).vq = s.vq := .trans rfl rfl
@[simp] theorem onFb_le (s : State) (g : Fb → Fb) : (s.onFb g).le = s.le := .trans rfl rfl
@[simp] theorem onFb_sv (s : State) (g : Fb → Fb) : (s.onFb g).sv = s.sv := .trans rfl rfl
@[simp] theorem onFb_pf (s : State) (g : Fb → Fb) : (s.onFb g).pf = s.pf := .trans rfl rfl
@[simp] theorem onFb_sn (s : State) (g : Fb → Fb) : (s.onFb g).sn = s.sn := .trans rfl rfl
@[simp] theorem onFb_tr (s : State) (g : Fb → Fb) : (s.onFb g).tr = s.tr := .trans rfl rfl
@[simp] theorem onFb_fb (s : State) (g : Fb → Fb) : (s.onFb g).fb = g s.fb := .trans rfl rfl
@[simp] theorem onFb_tw (s : State) (g : Fb → Fb) : (s.onFb g).tw = s.tw := .trans rfl rfl
@[simp] theorem onFb_ca (s : State) (g : Fb → Fb) : (s.onFb g).ca = s.ca := .trans rfl rfl
@[simp] theorem onFb_word (s : State) (g : Fb → Fb) (a : Nat) : (s.onFb g).word a = s.word a := .trans rfl rfl
@[simp] theorem onFb_rd (s : State) (g : Fb → Fb) (f : RF) : (s.onFb g).rd f = s.rd f := .trans rfl rfl
@[simp] theorem onFb_bit (s : State) (g : Fb → Fb) (f : RF) : (s.onFb g).bit f = s.bit f := .trans rfl rfl
@[simp] theorem onFb_byte (s : State) (g : Fb → Fb) (a : Nat) : (s.onFb g).byte a = s.byte a := .trans rfl rfl

/-! ### The part tw changed -/

@[simp] theorem onTw_pending (s : State) (g : Tw → Tw) : (s.onTw g).pending = s.pending := .trans rfl rfl
@[simp] theorem onTw_time (s : State) (g : Tw → Tw) : (s.onTw g).time = s.time := .trans rfl rfl
@[simp] theorem onTw_free (s : State) (g : Tw → Tw) : (s.onTw g).free = s.free := .trans rfl rfl
@[simp] theorem onTw_regs (s : State) (g : Tw → Tw) : (s.onTw g).regs = s.regs := .trans rfl rfl
@[simp] theorem onTw_mem (s : State) (g : Tw → Tw) : (s.onTw g).mem = s.mem := .trans rfl rfl
@[simp] theorem onTw_sys (s : State) (g : Tw → Tw) : (s.onTw g).sys = s.sys := .trans rfl rfl
@[simp] theorem onTw_dic (s : State) (g : Tw → Tw) : (s.onTw g).dic = s.dic := .trans rfl rfl
@[simp] theorem onTw_mg (s : State) (g : Tw → Tw) : (s.onTw g).mg = s.mg := .trans rfl rfl
@[simp] theorem onTw_mb (s : State) (g : Tw → Tw) : (s.onTw g).mb = s.mb := .trans rfl rfl
@[simp] theorem onTw_pb (s : State) (g : Tw → Tw) : (s.onTw g).pb = s.pb := .trans rfl rfl
@[simp] theorem onTw_vq (s : State) (g : Tw → Tw) : (s.onTw g).vq = s.vq := .trans rfl rfl
@[simp] theorem onTw_le (s : State) (g : Tw → Tw) : (s.onTw g).le = s.le := .trans rfl rfl
@[simp] theorem onTw_sv (s : State) (g : Tw → Tw) : (s.onTw g).sv = s.sv := .trans rfl rfl
@[simp] theorem onTw_pf (s : State) (g : Tw → Tw) : (s.onTw g).pf = s.pf := .trans rfl rfl
@[simp] theorem onTw_sn (s : State) (g : Tw → Tw) : (s.onTw g).sn = s.sn := .trans rfl rfl
@[simp] theorem onTw_tr (s : State) (g : Tw → Tw) : (s.onTw g).tr = s.tr := .trans rfl rfl
@[simp] theorem onTw_fb (s : State) (g : Tw → Tw) : (s.onTw g).fb = s.fb := .trans rfl rfl
@[simp] theorem onTw_tw (s : State) (g : Tw → Tw) : (s.onTw g).tw = g s.tw := .trans rfl rfl
@[simp] theorem onTw_ca (s : State) (g : Tw → Tw) : (s.onTw g).ca = s.ca := .trans rfl rfl
@[simp] theorem onTw_word (s : State) (g : Tw → Tw) (a : Nat) : (s.onTw g).word a = s.word a := .trans rfl rfl
@[simp] theorem onTw_rd (s : State) (g : Tw → Tw) (f : RF) : (s.onTw g).rd f = s.rd f := .trans rfl rfl
@[simp] theorem onTw_bit (s : State) (g : Tw → Tw) (f : RF) : (s.onTw g).bit f = s.bit f := .trans rfl rfl
@[simp] theorem onTw_byte (s : State) (g : Tw → Tw) (a : Nat) : (s.onTw g).byte a = s.byte a := .trans rfl rfl

/-! ### The part ca changed -/

@[simp] theorem onCa_pending (s : State) (g : Ca → Ca) : (s.onCa g).pending = s.pending := .trans rfl rfl
@[simp] theorem onCa_time (s : State) (g : Ca → Ca) : (s.onCa g).time = s.time := .trans rfl rfl
@[simp] theorem onCa_free (s : State) (g : Ca → Ca) : (s.onCa g).free = s.free := .trans rfl rfl
@[simp] theorem onCa_regs (s : State) (g : Ca → Ca) : (s.onCa g).regs = s.regs := .trans rfl rfl
@[simp] theorem onCa_mem (s : State) (g : Ca → Ca) : (s.onCa g).mem = s.mem := .trans rfl rfl
@[simp] theorem onCa_sys (s : State) (g : Ca → Ca) : (s.onCa g).sys = s.sys := .trans rfl rfl
@[simp] theorem onCa_dic (s : State) (g : Ca → Ca) : (s.onCa g).dic = s.dic := .trans rfl rfl
@[simp] theorem onCa_mg (s : State) (g : Ca → Ca) : (s.onCa g).mg = s.mg := .trans rfl rfl
@[simp] theorem onCa_mb (s : State) (g : Ca → Ca) : (s.onCa g).mb = s.mb := .trans rfl rfl
@[simp] theorem onCa_pb (s : State) (g : Ca → Ca) : (s.onCa g).pb = s.pb := .trans rfl rfl
@[simp] theorem onCa_vq (s : State) (g : Ca → Ca) : (s.onCa g).vq = s.vq := .trans rfl rfl
@[simp] theorem onCa_le (s : State) (g : Ca → Ca) : (s.onCa g).le = s.le := .trans rfl rfl
@[simp] theorem onCa_sv (s : State) (g : Ca → Ca) : (s.onCa g).sv = s.sv := .trans rfl rfl
@[simp] theorem onCa_pf (s : State) (g : Ca → Ca) : (s.onCa g).pf = s.pf := .trans rfl rfl
@[simp] theorem onCa_sn (s : State) (g : Ca → Ca) : (s.onCa g).sn = s.sn := .trans rfl rfl
@[simp] theorem onCa_tr (s : State) (g : Ca → Ca) : (s.onCa g).tr = s.tr := .trans rfl rfl
@[simp] theorem onCa_fb (s : State) (g : Ca → Ca) : (s.onCa g).fb = s.fb := .trans rfl rfl
@[simp] theorem onCa_tw (s : State) (g : Ca → Ca) : (s.onCa g).tw = s.tw := .trans rfl rfl
@[simp] theorem onCa_ca (s : State) (g : Ca → Ca) : (s.onCa g).ca = g s.ca := .trans rfl rfl
@[simp] theorem onCa_word (s : State) (g : Ca → Ca) (a : Nat) : (s.onCa g).word a = s.word a := .trans rfl rfl
@[simp] theorem onCa_rd (s : State) (g : Ca → Ca) (f : RF) : (s.onCa g).rd f = s.rd f := .trans rfl rfl
@[simp] theorem onCa_bit (s : State) (g : Ca → Ca) (f : RF) : (s.onCa g).bit f = s.bit f := .trans rfl rfl
@[simp] theorem onCa_byte (s : State) (g : Ca → Ca) (a : Nat) : (s.onCa g).byte a = s.byte a := .trans rfl rfl

/-! ### A free value drawn -/

@[simp] theorem drew_pending (s : State) : s.drew.pending = s.pending := .trans rfl rfl
@[simp] theorem drew_time (s : State) : s.drew.time = s.time := .trans rfl rfl
@[simp] theorem drew_regs (s : State) : s.drew.regs = s.regs := .trans rfl rfl
@[simp] theorem drew_mem (s : State) : s.drew.mem = s.mem := .trans rfl rfl
@[simp] theorem drew_sys (s : State) : s.drew.sys = s.sys := .trans rfl rfl
@[simp] theorem drew_dic (s : State) : s.drew.dic = s.dic := .trans rfl rfl
@[simp] theorem drew_mg (s : State) : s.drew.mg = s.mg := .trans rfl rfl
@[simp] theorem drew_mb (s : State) : s.drew.mb = s.mb := .trans rfl rfl
@[simp] theorem drew_pb (s : State) : s.drew.pb = s.pb := .trans rfl rfl
@[simp] theorem drew_vq (s : State) : s.drew.vq = s.vq := .trans rfl rfl
@[simp] theorem drew_le (s : State) : s.drew.le = s.le := .trans rfl rfl
@[simp] theorem drew_sv (s : State) : s.drew.sv = s.sv := .trans rfl rfl
@[simp] theorem drew_pf (s : State) : s.drew.pf = s.pf := .trans rfl rfl
@[simp] theorem drew_sn (s : State) : s.drew.sn = s.sn := .trans rfl rfl
@[simp] theorem drew_tr (s : State) : s.drew.tr = s.tr := .trans rfl rfl
@[simp] theorem drew_fb (s : State) : s.drew.fb = s.fb := .trans rfl rfl
@[simp] theorem drew_tw (s : State) : s.drew.tw = s.tw := .trans rfl rfl
@[simp] theorem drew_ca (s : State) : s.drew.ca = s.ca := .trans rfl rfl
@[simp] theorem drew_free (s : State) : s.drew.free = s.free + 1 := .trans rfl rfl
@[simp] theorem drew_rd (s : State) (f : RF) : s.drew.rd f = s.rd f := rfl

/-! ### A byte of DDR4 written -/

@[simp] theorem setByte_pending (s : State) (a : Nat) (b : Byte) : (s.setByte a b).pending = s.pending := .trans rfl rfl
@[simp] theorem setByte_time (s : State) (a : Nat) (b : Byte) : (s.setByte a b).time = s.time := .trans rfl rfl
@[simp] theorem setByte_free (s : State) (a : Nat) (b : Byte) : (s.setByte a b).free = s.free := .trans rfl rfl
@[simp] theorem setByte_regs (s : State) (a : Nat) (b : Byte) : (s.setByte a b).regs = s.regs := .trans rfl rfl
@[simp] theorem setByte_sys (s : State) (a : Nat) (b : Byte) : (s.setByte a b).sys = s.sys := .trans rfl rfl
@[simp] theorem setByte_dic (s : State) (a : Nat) (b : Byte) : (s.setByte a b).dic = s.dic := .trans rfl rfl
@[simp] theorem setByte_mg (s : State) (a : Nat) (b : Byte) : (s.setByte a b).mg = s.mg := .trans rfl rfl
@[simp] theorem setByte_mb (s : State) (a : Nat) (b : Byte) : (s.setByte a b).mb = s.mb := .trans rfl rfl
@[simp] theorem setByte_pb (s : State) (a : Nat) (b : Byte) : (s.setByte a b).pb = s.pb := .trans rfl rfl
@[simp] theorem setByte_vq (s : State) (a : Nat) (b : Byte) : (s.setByte a b).vq = s.vq := .trans rfl rfl
@[simp] theorem setByte_le (s : State) (a : Nat) (b : Byte) : (s.setByte a b).le = s.le := .trans rfl rfl
@[simp] theorem setByte_sv (s : State) (a : Nat) (b : Byte) : (s.setByte a b).sv = s.sv := .trans rfl rfl
@[simp] theorem setByte_pf (s : State) (a : Nat) (b : Byte) : (s.setByte a b).pf = s.pf := .trans rfl rfl
@[simp] theorem setByte_sn (s : State) (a : Nat) (b : Byte) : (s.setByte a b).sn = s.sn := .trans rfl rfl
@[simp] theorem setByte_tr (s : State) (a : Nat) (b : Byte) : (s.setByte a b).tr = s.tr := .trans rfl rfl
@[simp] theorem setByte_fb (s : State) (a : Nat) (b : Byte) : (s.setByte a b).fb = s.fb := .trans rfl rfl
@[simp] theorem setByte_tw (s : State) (a : Nat) (b : Byte) : (s.setByte a b).tw = s.tw := .trans rfl rfl
@[simp] theorem setByte_ca (s : State) (a : Nat) (b : Byte) : (s.setByte a b).ca = s.ca := .trans rfl rfl
@[simp] theorem setByte_mem (s : State) (a : Nat) (b : Byte) : (s.setByte a b).mem = tset 0 s.mem a b := .trans rfl rfl
@[simp] theorem setByte_rd (s : State) (a : Nat) (b : Byte) (f : RF) : (s.setByte a b).rd f = s.rd f := .trans rfl rfl

/-! ### Bit fields and registers read back -/

theorem withBits_eq (w hi lo v : Nat) (h : lo ≤ hi + 1) :
    withBits w hi lo v = w / 2 ^ (hi + 1) * 2 ^ (hi + 1) + v % 2 ^ (hi + 1 - lo) * 2 ^ lo + w % 2 ^ lo := by
  have e : 2 ^ (hi + 1) = 2 ^ lo * 2 ^ (hi + 1 - lo) := by rw [← Nat.pow_add]; congr 1; omega
  have h1 : w / 2 ^ (hi + 1) = w / 2 ^ lo / 2 ^ (hi + 1 - lo) := by rw [e, Nat.div_div_eq_div_mul]
  have h2 := Nat.div_add_mod w (2 ^ lo)
  have h3 := Nat.div_add_mod (w / 2 ^ lo) (2 ^ (hi + 1 - lo))
  have h4 : w / 2 ^ (hi + 1) * 2 ^ (hi + 1) =
      2 ^ lo * (2 ^ (hi + 1 - lo) * (w / 2 ^ lo / 2 ^ (hi + 1 - lo))) := by
    rw [h1, e, Nat.mul_comm, Nat.mul_assoc]
  have h5 : w = 2 ^ lo * (2 ^ (hi + 1 - lo) * (w / 2 ^ lo / 2 ^ (hi + 1 - lo))) +
      bitsOf w hi lo * 2 ^ lo + w % 2 ^ lo := by
    unfold bitsOf
    rw [Nat.mul_comm (w / 2 ^ lo % 2 ^ (hi + 1 - lo)), ← Nat.mul_add, h3, h2]
  unfold withBits
  rw [h4]
  omega

/-- A field reads back what was put into it. -/
theorem bitsOf_withBits_same (w hi lo v : Nat) (h : lo ≤ hi + 1) :
    bitsOf (withBits w hi lo v) hi lo = v % 2 ^ (hi + 1 - lo) := by
  have e : 2 ^ (hi + 1) = 2 ^ (hi + 1 - lo) * 2 ^ lo := by rw [← Nat.pow_add]; congr 1; omega
  rw [withBits_eq w hi lo v h]
  unfold bitsOf
  have : w / 2 ^ (hi + 1) * 2 ^ (hi + 1) + v % 2 ^ (hi + 1 - lo) * 2 ^ lo + w % 2 ^ lo =
      2 ^ lo * (w / 2 ^ (hi + 1) * 2 ^ (hi + 1 - lo) + v % 2 ^ (hi + 1 - lo)) + w % 2 ^ lo := by
    rw [e]; ring
  rw [this, Nat.mul_add_div (Nat.two_pow_pos lo), Nat.div_eq_of_lt (Nat.mod_lt _ (Nat.two_pow_pos lo)), Nat.add_zero,
    Nat.mul_comm, Nat.mul_add_mod, Nat.mod_mod]

/-- A field above the one written reads as before. -/
theorem bitsOf_withBits_above (w hi lo v a b : Nat) (h : lo ≤ hi + 1) (hb : hi < b) :
    bitsOf (withBits w hi lo v) a b = bitsOf w a b := by
  have e : 2 ^ b = 2 ^ (hi + 1) * 2 ^ (b - (hi + 1)) := by rw [← Nat.pow_add]; congr 1; omega
  have e2 : 2 ^ (hi + 1) = 2 ^ (hi + 1 - lo) * 2 ^ lo := by rw [← Nat.pow_add]; congr 1; omega
  have hv : v % 2 ^ (hi + 1 - lo) * 2 ^ lo + w % 2 ^ lo < 2 ^ (hi + 1) := by
    have h1 := Nat.mod_lt v (Nat.two_pow_pos (hi + 1 - lo))
    have h2 := Nat.mod_lt w (Nat.two_pow_pos lo)
    calc v % 2 ^ (hi + 1 - lo) * 2 ^ lo + w % 2 ^ lo
        < v % 2 ^ (hi + 1 - lo) * 2 ^ lo + 2 ^ lo := by omega
      _ = (v % 2 ^ (hi + 1 - lo) + 1) * 2 ^ lo := by ring
      _ ≤ 2 ^ (hi + 1 - lo) * 2 ^ lo := Nat.mul_le_mul_right _ h1
      _ = 2 ^ (hi + 1) := e2.symm
  have hd : withBits w hi lo v / 2 ^ (hi + 1) = w / 2 ^ (hi + 1) := by
    rw [withBits_eq w hi lo v h, Nat.add_assoc, Nat.mul_comm, Nat.mul_add_div (Nat.two_pow_pos _),
      Nat.div_eq_of_lt hv, Nat.add_zero]
  unfold bitsOf
  rw [e, ← Nat.div_div_eq_div_mul, hd, Nat.div_div_eq_div_mul]

/-- A field below the one written reads as before. -/
theorem bitsOf_withBits_below (w hi lo v a b : Nat) (h : lo ≤ hi + 1) (hb : a < lo) :
    bitsOf (withBits w hi lo v) a b = bitsOf w a b := by
  by_cases hab : b ≤ a + 1
  · have e2 : 2 ^ (hi + 1) = 2 ^ (hi + 1 - lo) * 2 ^ lo := by rw [← Nat.pow_add]; congr 1; omega
    have hm : withBits w hi lo v % 2 ^ lo = w % 2 ^ lo := by
      rw [withBits_eq w hi lo v h]
      have : w / 2 ^ (hi + 1) * 2 ^ (hi + 1) + v % 2 ^ (hi + 1 - lo) * 2 ^ lo + w % 2 ^ lo =
          2 ^ lo * (w / 2 ^ (hi + 1) * 2 ^ (hi + 1 - lo) + v % 2 ^ (hi + 1 - lo)) + w % 2 ^ lo := by
        rw [e2]; ring
      rw [this, Nat.mul_add_mod, Nat.mod_mod]
    have key : ∀ x : Nat, bitsOf x a b = bitsOf (x % 2 ^ lo) a b := by
      intro x
      unfold bitsOf
      have e : 2 ^ lo = 2 ^ b * (2 ^ (a + 1 - b) * 2 ^ (lo - (a + 1))) := by
        rw [← Nat.pow_add, ← Nat.pow_add]; congr 1; omega
      rw [e, Nat.mod_mul_right_div_self, Nat.mod_mul_right_mod]
    rw [key, hm, ← key]
  · unfold bitsOf
    have : a + 1 - b = 0 := by omega
    rw [this, Nat.pow_zero, Nat.mod_one, Nat.mod_one]

theorem withBits_lt (w hi lo v n : Nat) (hw : w < 2 ^ n) (hn : hi < n) (h : lo ≤ hi + 1) :
    withBits w hi lo v < 2 ^ n := by
  have e2 : 2 ^ (hi + 1) = 2 ^ (hi + 1 - lo) * 2 ^ lo := by rw [← Nat.pow_add]; congr 1; omega
  have e3 : 2 ^ n = 2 ^ (n - (hi + 1)) * 2 ^ (hi + 1) := by rw [← Nat.pow_add]; congr 1; omega
  have h1 := Nat.mod_lt v (Nat.two_pow_pos (hi + 1 - lo))
  have h2 := Nat.mod_lt w (Nat.two_pow_pos lo)
  have h3 : w / 2 ^ (hi + 1) < 2 ^ (n - (hi + 1)) :=
    Nat.div_lt_of_lt_mul (by rw [Nat.mul_comm, ← e3]; exact hw)
  rw [withBits_eq w hi lo v h, e3]
  have h4 : v % 2 ^ (hi + 1 - lo) * 2 ^ lo + w % 2 ^ lo < 2 ^ (hi + 1) := by
    calc v % 2 ^ (hi + 1 - lo) * 2 ^ lo + w % 2 ^ lo
        < v % 2 ^ (hi + 1 - lo) * 2 ^ lo + 2 ^ lo := by omega
      _ = (v % 2 ^ (hi + 1 - lo) + 1) * 2 ^ lo := by ring
      _ ≤ 2 ^ (hi + 1 - lo) * 2 ^ lo := Nat.mul_le_mul_right _ h1
      _ = 2 ^ (hi + 1) := e2.symm
  calc w / 2 ^ (hi + 1) * 2 ^ (hi + 1) + v % 2 ^ (hi + 1 - lo) * 2 ^ lo + w % 2 ^ lo
      < w / 2 ^ (hi + 1) * 2 ^ (hi + 1) + 2 ^ (hi + 1) := by omega
    _ = (w / 2 ^ (hi + 1) + 1) * 2 ^ (hi + 1) := by ring
    _ ≤ 2 ^ (n - (hi + 1)) * 2 ^ (hi + 1) := Nat.mul_le_mul_right _ h3

/-- A register word is 32 bits wide. -/
theorem word_lt (s : State) (a : Nat) : s.word a < 2 ^ 32 := (regWord s.regs a).isLt

/-- The word of a register after one of its fields is written. -/
theorem word_wr_same (s : State) (f : RF) (v : Nat) (h : s.regsWf) (hh : f.hi < 32) (hl : f.lo ≤ f.hi + 1) :
    (s.wr f v).word f.addr = withBits (s.word f.addr) f.hi f.lo v := by
  unfold State.word
  rw [wr_regs, regWord_regStore_same _ _ _ h, BitVec.toNat_ofNat]
  exact Nat.mod_eq_of_lt (withBits_lt _ _ _ _ 32 (word_lt s _) hh hl)

/-- Every other register reads as before. -/
theorem word_wr_ne (s : State) (f : RF) (v : Nat) {a : Nat} (h : a ≠ f.addr) : (s.wr f v).word a = s.word a := by
  unfold State.word
  rw [wr_regs, regWord_regStore_ne _ _ h]

/-- A field reads back what the hardware wrote. -/
theorem rd_wr_same (s : State) (f : RF) (v : Nat) (h : s.regsWf) (hh : f.hi < 32) (hl : f.lo ≤ f.hi + 1) :
    (s.wr f v).rd f = v % 2 ^ (f.hi + 1 - f.lo) := by
  unfold State.rd
  rw [word_wr_same s f v h hh hl, bitsOf_withBits_same _ _ _ _ hl]

/-- A field of another register reads as before. -/
theorem rd_wr_ne (s : State) (f g : RF) (v : Nat) (h : g.addr ≠ f.addr) : (s.wr f v).rd g = s.rd g := by
  unfold State.rd
  rw [word_wr_ne s f v h]

/-- Another field of the same register reads as before. -/
theorem rd_wr_disjoint (s : State) (f g : RF) (v : Nat) (h : s.regsWf) (hh : f.hi < 32) (hl : f.lo ≤ f.hi + 1)
    (ha : g.addr = f.addr) (hd : f.hi < g.lo ∨ g.hi < f.lo) : (s.wr f v).rd g = s.rd g := by
  unfold State.rd
  rw [ha, word_wr_same s f v h hh hl]
  rcases hd with hd | hd
  · exact bitsOf_withBits_above _ _ _ _ _ _ hl hd
  · exact bitsOf_withBits_below _ _ _ _ _ _ hl hd

/-- Writing a register field keeps the canonical form. -/
theorem wr_regsWf (s : State) (f : RF) (v : Nat) (h : s.regsWf) : (s.wr f v).regsWf := regStore_wf _ _ _ h

end Sys2Proof.Machine
end

