-- ==== Sys2Proof/Laws/Frame.lean ====
section
/-! SUPPORT. The frame relation: how it composes, and what each elementary update of the state may touch. -/

namespace Sys2Proof.Machine

theorem Frame.refl (p : Parts) (s : State) : Frame p s s :=
  ⟨rfl, id, id, fun _ => rfl, fun _ => rfl, fun _ => rfl, fun _ => rfl, fun _ => rfl, fun _ => rfl, fun _ => rfl,
    fun _ => rfl, fun _ => rfl, fun _ => rfl, fun _ => rfl, fun _ => rfl, fun _ => rfl, fun _ => rfl, fun _ => rfl,
    fun _ => rfl, fun _ => rfl, fun _ => rfl⟩

/-- The invariant of the memories goes along. -/
theorem Frame.inv {p : Parts} {s t : State} (h : Frame p s t) (hs : s.Inv) : t.Inv := ⟨h.regsWf hs.regs, h.memWf hs.mem⟩

theorem frame_ite {p : Parts} {s0 a b : State} {c : Prop} [Decidable c] (ha : Frame p s0 a) (hb : Frame p s0 b) :
    Frame p s0 (if c then a else b) := by
  split <;> assumption

theorem frame_dite {p : Parts} {s0 : State} {c : Prop} [Decidable c] {a : c → State} {b : ¬ c → State}
    (ha : ∀ h, Frame p s0 (a h)) (hb : ∀ h, Frame p s0 (b h)) : Frame p s0 (if h : c then a h else b h) := by
  split
  · exact ha _
  · exact hb _

theorem frame_foldl {p : Parts} {s0 s : State} {α : Type} {f : State → α → State} {l : List α}
    (hf : ∀ s a, Frame p s0 s → Frame p s0 (f s a)) (h : Frame p s0 s) : Frame p s0 (l.foldl f s) := by
  induction l generalizing s with
  | nil => exact h
  | cons a l ih => exact ih (hf s a h)

theorem frame_foldr {p : Parts} {s0 s : State} {α : Type} {f : α → State → State} {l : List α}
    (hf : ∀ a s, Frame p s0 s → Frame p s0 (f a s)) (h : Frame p s0 s) : Frame p s0 (l.foldr f s) := by
  induction l with
  | nil => exact h
  | cons a l ih => exact hf a _ ih

/-- A fold over a pair whose first component is the state. -/
theorem frame_foldl_fst {p : Parts} {s0 : State} {α β : Type} {f : State × β → α → State × β} {l : List α} {x : State × β}
    (hf : ∀ x a, Frame p s0 x.1 → Frame p s0 (f x a).1) (h : Frame p s0 x.1) : Frame p s0 (l.foldl f x).1 := by
  induction l generalizing x with
  | nil => exact h
  | cons a l ih => exact ih (hf x a h)

theorem answers_next {p : Parts} {s0 t : State} (h : Frame p s0 t) : Answers p s0 (.next t) := ⟨t, rfl, h⟩

theorem same_answers {p : Parts} {s0 s : State} (h : Frame p s0 s) : Answers p s0 s.same := answers_next h

theorem answers_ite {p : Parts} {s0 : State} {a b : Host.Outcome State Fault Refusal} {c : Prop} [Decidable c]
    (ha : Answers p s0 a) (hb : Answers p s0 b) : Answers p s0 (if c then a else b) := by
  split <;> assumption

/-- A fact kept about a value before the value is forgotten. -/
theorem frame_cut {a b : Prop} (h1 : a → b) (h2 : a) : b := h1 h2

theorem wr_frame {p : Parts} {s0 s : State} (f : RF) (v : Nat) (h : Frame p s0 s) (hregs : p.regs = true) : Frame p s0 (s.wr f v) :=
  ⟨h.queue, fun hs => wr_regsWf s f v (h.regsWf hs), h.memWf, h.time, h.free, fun hc => absurd (hregs.symm.trans hc) (by decide), h.mem, h.sys, h.dic, h.mg, h.mb, h.pb, h.vq, h.le, h.sv, h.pf, h.sn, h.tr, h.fb, h.tw, h.ca⟩

theorem onSys_frame {p : Parts} {s0 s : State} (g : Sys → Sys) (h : Frame p s0 s) (hsys : p.sys = true) : Frame p s0 (s.onSys g) :=
  ⟨h.queue, h.regsWf, h.memWf, h.time, h.free, h.regs, h.mem, fun hc => absurd (hsys.symm.trans hc) (by decide), h.dic, h.mg, h.mb, h.pb, h.vq, h.le, h.sv, h.pf, h.sn, h.tr, h.fb, h.tw, h.ca⟩

theorem onDic_frame {p : Parts} {s0 s : State} (g : Dic → Dic) (h : Frame p s0 s) (hdic : p.dic = true) : Frame p s0 (s.onDic g) :=
  ⟨h.queue, h.regsWf, h.memWf, h.time, h.free, h.regs, h.mem, h.sys, fun hc => absurd (hdic.symm.trans hc) (by decide), h.mg, h.mb, h.pb, h.vq, h.le, h.sv, h.pf, h.sn, h.tr, h.fb, h.tw, h.ca⟩

theorem onMg_frame {p : Parts} {s0 s : State} (g : Mg → Mg) (h : Frame p s0 s) (hmg : p.mg = true) : Frame p s0 (s.onMg g) :=
  ⟨h.queue, h.regsWf, h.memWf, h.time, h.free, h.regs, h.mem, h.sys, h.dic, fun hc => absurd (hmg.symm.trans hc) (by decide), h.mb, h.pb, h.vq, h.le, h.sv, h.pf, h.sn, h.tr, h.fb, h.tw, h.ca⟩

theorem onMb_frame {p : Parts} {s0 s : State} (g : Mbox → Mbox) (h : Frame p s0 s) (hmb : p.mb = true) : Frame p s0 (s.onMb g) :=
  ⟨h.queue, h.regsWf, h.memWf, h.time, h.free, h.regs, h.mem, h.sys, h.dic, h.mg, fun hc => absurd (hmb.symm.trans hc) (by decide), h.pb, h.vq, h.le, h.sv, h.pf, h.sn, h.tr, h.fb, h.tw, h.ca⟩

theorem onPb_frame {p : Parts} {s0 s : State} (g : Broker → Broker) (h : Frame p s0 s) (hpb : p.pb = true) : Frame p s0 (s.onPb g) :=
  ⟨h.queue, h.regsWf, h.memWf, h.time, h.free, h.regs, h.mem, h.sys, h.dic, h.mg, h.mb, fun hc => absurd (hpb.symm.trans hc) (by decide), h.vq, h.le, h.sv, h.pf, h.sn, h.tr, h.fb, h.tw, h.ca⟩

theorem onVq_frame {p : Parts} {s0 s : State} (g : Vat → Vat) (h : Frame p s0 s) (hvq : p.vq = true) : Frame p s0 (s.onVq g) :=
  ⟨h.queue, h.regsWf, h.memWf, h.time, h.free, h.regs, h.mem, h.sys, h.dic, h.mg, h.mb, h.pb, fun hc => absurd (hvq.symm.trans hc) (by decide), h.le, h.sv, h.pf, h.sn, h.tr, h.fb, h.tw, h.ca⟩

theorem onLe_frame {p : Parts} {s0 s : State} (g : Loops → Loops) (h : Frame p s0 s) (hle : p.le = true) : Frame p s0 (s.onLe g) :=
  ⟨h.queue, h.regsWf, h.memWf, h.time, h.free, h.regs, h.mem, h.sys, h.dic, h.mg, h.mb, h.pb, h.vq, fun hc => absurd (hle.symm.trans hc) (by decide), h.sv, h.pf, h.sn, h.tr, h.fb, h.tw, h.ca⟩

theorem onSv_frame {p : Parts} {s0 s : State} (g : Sv → Sv) (h : Frame p s0 s) (hsv : p.sv = true) : Frame p s0 (s.onSv g) :=
  ⟨h.queue, h.regsWf, h.memWf, h.time, h.free, h.regs, h.mem, h.sys, h.dic, h.mg, h.mb, h.pb, h.vq, h.le, fun hc => absurd (hsv.symm.trans hc) (by decide), h.pf, h.sn, h.tr, h.fb, h.tw, h.ca⟩

theorem onPf_frame {p : Parts} {s0 s : State} (g : Pf → Pf) (h : Frame p s0 s) (hpf : p.pf = true) : Frame p s0 (s.onPf g) :=
  ⟨h.queue, h.regsWf, h.memWf, h.time, h.free, h.regs, h.mem, h.sys, h.dic, h.mg, h.mb, h.pb, h.vq, h.le, h.sv, fun hc => absurd (hpf.symm.trans hc) (by decide), h.sn, h.tr, h.fb, h.tw, h.ca⟩

theorem onSn_frame {p : Parts} {s0 s : State} (g : Sn → Sn) (h : Frame p s0 s) (hsn : p.sn = true) : Frame p s0 (s.onSn g) :=
  ⟨h.queue, h.regsWf, h.memWf, h.time, h.free, h.regs, h.mem, h.sys, h.dic, h.mg, h.mb, h.pb, h.vq, h.le, h.sv, h.pf, fun hc => absurd (hsn.symm.trans hc) (by decide), h.tr, h.fb, h.tw, h.ca⟩

theorem onTr_frame {p : Parts} {s0 s : State} (g : Tr → Tr) (h : Frame p s0 s) (htr : p.tr = true) : Frame p s0 (s.onTr g) :=
  ⟨h.queue, h.regsWf, h.memWf, h.time, h.free, h.regs, h.mem, h.sys, h.dic, h.mg, h.mb, h.pb, h.vq, h.le, h.sv, h.pf, h.sn, fun hc => absurd (htr.symm.trans hc) (by decide), h.fb, h.tw, h.ca⟩

theorem onFb_frame {p : Parts} {s0 s : State} (g : Fb → Fb) (h : Frame p s0 s) (hfb : p.fb = true) : Frame p s0 (s.onFb g) :=
  ⟨h.queue, h.regsWf, h.memWf, h.time, h.free, h.regs, h.mem, h.sys, h.dic, h.mg, h.mb, h.pb, h.vq, h.le, h.sv, h.pf, h.sn, h.tr, fun hc => absurd (hfb.symm.trans hc) (by decide), h.tw, h.ca⟩

theorem onTw_frame {p : Parts} {s0 s : State} (g : Tw → Tw) (h : Frame p s0 s) (htw : p.tw = true) : Frame p s0 (s.onTw g) :=
  ⟨h.queue, h.regsWf, h.memWf, h.time, h.free, h.regs, h.mem, h.sys, h.dic, h.mg, h.mb, h.pb, h.vq, h.le, h.sv, h.pf, h.sn, h.tr, h.fb, fun hc => absurd (htw.symm.trans hc) (by decide), h.ca⟩

theorem onCa_frame {p : Parts} {s0 s : State} (g : Ca → Ca) (h : Frame p s0 s) (hca : p.ca = true) : Frame p s0 (s.onCa g) :=
  ⟨h.queue, h.regsWf, h.memWf, h.time, h.free, h.regs, h.mem, h.sys, h.dic, h.mg, h.mb, h.pb, h.vq, h.le, h.sv, h.pf, h.sn, h.tr, h.fb, h.tw, fun hc => absurd (hca.symm.trans hc) (by decide)⟩

theorem set_time_frame {p : Parts} {s0 s : State} (x : Nat) (h : Frame p s0 s) (htime : p.time = true) : Frame p s0 { s with time := x } :=
  ⟨h.queue, h.regsWf, h.memWf, fun hc => absurd (htime.symm.trans hc) (by decide), h.free, h.regs, h.mem, h.sys, h.dic, h.mg, h.mb, h.pb, h.vq, h.le, h.sv, h.pf, h.sn, h.tr, h.fb, h.tw, h.ca⟩

theorem set_regs_frame {p : Parts} {s0 s : State} {r : Table Word} (hr : s.regsWf → twf resetWord r = true)
    (h : Frame p s0 s) (hregs : p.regs = true) : Frame p s0 { s with regs := r } :=
  ⟨h.queue, fun hs => hr (h.regsWf hs), h.memWf, h.time, h.free, fun hc => absurd (hregs.symm.trans hc) (by decide), h.mem,
    h.sys, h.dic, h.mg, h.mb, h.pb, h.vq, h.le, h.sv, h.pf, h.sn, h.tr, h.fb, h.tw, h.ca⟩

theorem set_mem_frame {p : Parts} {s0 s : State} {m : List Host.Cell} (hm : Memory.wf s.mem → Memory.wf m)
    (h : Frame p s0 s) (hmem : p.mem = true) : Frame p s0 { s with mem := m } :=
  ⟨h.queue, h.regsWf, fun hs => hm (h.memWf hs), h.time, h.free, h.regs, fun hc => absurd (hmem.symm.trans hc) (by decide),
    h.sys, h.dic, h.mg, h.mb, h.pb, h.vq, h.le, h.sv, h.pf, h.sn, h.tr, h.fb, h.tw, h.ca⟩

theorem drew_frame {p : Parts} {s0 s : State} (h : Frame p s0 s) (hfree : p.free = true) : Frame p s0 s.drew :=
  ⟨h.queue, h.regsWf, h.memWf, h.time, fun hc => absurd (hfree.symm.trans hc) (by decide), h.regs, h.mem, h.sys, h.dic, h.mg, h.mb, h.pb, h.vq, h.le, h.sv, h.pf, h.sn, h.tr, h.fb, h.tw, h.ca⟩

theorem clearRegs_frame {p : Parts} {s0 s : State} (h : Frame p s0 s) (hregs : p.regs = true) : Frame p s0 s.clearRegs :=
  ⟨h.queue, fun _ => rfl, h.memWf, h.time, h.free, fun hc => absurd (hregs.symm.trans hc) (by decide), h.mem, h.sys, h.dic, h.mg, h.mb, h.pb, h.vq, h.le, h.sv, h.pf, h.sn, h.tr, h.fb, h.tw, h.ca⟩

theorem setByte_frame {p : Parts} {s0 s : State} (a : Nat) (b : Byte) (h : Frame p s0 s) (hmem : p.mem = true) : Frame p s0 (s.setByte a b) :=
  ⟨h.queue, h.regsWf, fun hs => mem_tset_wf _ a b (h.memWf hs), h.time, h.free, h.regs, fun hc => absurd (hmem.symm.trans hc) (by decide), h.sys, h.dic, h.mg, h.mb, h.pb, h.vq, h.le, h.sv, h.pf, h.sn, h.tr, h.fb, h.tw, h.ca⟩

/-- A field of one or more bits, a bit, a binary32 value, a counter, a register pair written by the hardware. -/
theorem putBit_frame {p : Parts} {s0 s : State} (f : RF) (b : Bool) (h : Frame p s0 s) (hregs : p.regs = true) :
    Frame p s0 (s.putBit f b) := wr_frame f _ h hregs

theorem wrf_frame {p : Parts} {s0 s : State} (f : RF) (x : F32) (h : Frame p s0 s) (hregs : p.regs = true) :
    Frame p s0 (s.wrf f x) := wr_frame f _ h hregs

end Sys2Proof.Machine
end

