-- ==== Sys2Proof/Laws/OpsFrame.lean ====
section
/-! SUPPORT. What the shared operations may touch, and that they keep the memories canonical. -/

namespace Sys2Proof.Machine

theorem addSat_frame {P : Parts} {s0 : State} {s : State} (f : RF) (n : ℕ) (hs0 : Frame P s0 s) (h_regs : P.regs = true) :
    Frame P s0 (State.addSat s f n) := by
  unfold State.addSat
  repeat' first
    | with_reducible assumption
    | (intro sv; refine frame_cut (a := Frame P s0 sv) ?_ ?_; on_goal 2 => dsimp -zeta only [sv]; on_goal 1 => clear_value sv)
    | (intro sv; clear_value sv)
    | intro _
    | lift_lets -underBinder
    | with_reducible apply wr_frame
    | with_reducible apply frame_ite
    | with_reducible apply frame_foldl
    | with_reducible apply frame_foldr
    | split

theorem incSat_frame {P : Parts} {s0 : State} {s : State} (f : RF) (hs0 : Frame P s0 s) (h_regs : P.regs = true) :
    Frame P s0 (State.incSat s f) := by
  unfold State.incSat
  repeat' first
    | with_reducible assumption
    | (intro sv; refine frame_cut (a := Frame P s0 sv) ?_ ?_; on_goal 2 => dsimp -zeta only [sv]; on_goal 1 => clear_value sv)
    | (intro sv; clear_value sv)
    | intro _
    | lift_lets -underBinder
    | with_reducible apply addSat_frame
    | with_reducible apply frame_ite
    | with_reducible apply frame_foldl
    | with_reducible apply frame_foldr
    | split

theorem wr64_frame {P : Parts} {s0 : State} {s : State} (f : RF) (v : ℕ) (hs0 : Frame P s0 s) (h_regs : P.regs = true) :
    Frame P s0 (State.wr64 s f v) := by
  unfold State.wr64
  repeat' first
    | with_reducible assumption
    | (intro sv; refine frame_cut (a := Frame P s0 sv) ?_ ?_; on_goal 2 => dsimp -zeta only [sv]; on_goal 1 => clear_value sv)
    | (intro sv; clear_value sv)
    | intro _
    | lift_lets -underBinder
    | with_reducible apply wr_frame
    | with_reducible apply frame_ite
    | with_reducible apply frame_foldl
    | with_reducible apply frame_foldr
    | split

theorem setBytes_frame {P : Parts} {s0 : State} {s : State} (a : Nat) (l : List Byte) (hs0 : Frame P s0 s)
    (h_mem : P.mem = true) : Frame P s0 (s.setBytes a l) := by
  induction l generalizing s a with
  | nil => exact hs0
  | cons b l ih => exact ih (a + 1) (setByte_frame a b hs0 h_mem)

theorem unpoison_frame {P : Parts} {s0 : State} {s : State} (a : ℕ) (n : ℕ) (hs0 : Frame P s0 s) (h_ca : P.ca = true) :
    Frame P s0 (State.unpoison s a n) := by
  unfold State.unpoison
  repeat' first
    | with_reducible assumption
    | (intro sv; refine frame_cut (a := Frame P s0 sv) ?_ ?_; on_goal 2 => dsimp -zeta only [sv]; on_goal 1 => clear_value sv)
    | (intro sv; clear_value sv)
    | intro _
    | lift_lets -underBinder
    | with_reducible apply onCa_frame
    | with_reducible apply frame_ite
    | with_reducible apply frame_foldl
    | with_reducible apply frame_foldr
    | split

theorem ddrWrite_frame {P : Parts} {s0 : State} {s : State} (a : ℕ) (bs : List Byte) (hs0 : Frame P s0 s) (h_mem : P.mem = true) (h_ca : P.ca = true) :
    Frame P s0 (State.ddrWrite s a bs) := by
  unfold State.ddrWrite
  repeat' first
    | with_reducible assumption
    | (intro sv; refine frame_cut (a := Frame P s0 sv) ?_ ?_; on_goal 2 => dsimp -zeta only [sv]; on_goal 1 => clear_value sv)
    | (intro sv; clear_value sv)
    | intro _
    | lift_lets -underBinder
    | with_reducible apply unpoison_frame
    | with_reducible apply setBytes_frame
    | with_reducible apply frame_ite
    | with_reducible apply frame_foldl
    | with_reducible apply frame_foldr
    | split

theorem linkQueue_frame {P : Parts} {s0 : State} {s : State} (typ : ℕ) (sub : ℕ) (frame : ℕ) (payload : List Byte) (lines : List CopyLine) (hs0 : Frame P s0 s) (h_tw : P.tw = true) :
    Frame P s0 (State.linkQueue s typ sub frame payload lines) := by
  unfold State.linkQueue
  repeat' first
    | with_reducible assumption
    | (intro sv; refine frame_cut (a := Frame P s0 sv) ?_ ?_; on_goal 2 => dsimp -zeta only [sv]; on_goal 1 => clear_value sv)
    | (intro sv; clear_value sv)
    | intro _
    | lift_lets -underBinder
    | with_reducible apply onTw_frame
    | with_reducible apply frame_ite
    | with_reducible apply frame_foldl
    | with_reducible apply frame_foldr
    | split

theorem linkSend_frame {P : Parts} {s0 : State} {s : State} (typ : ℕ) (sub : ℕ) (frame : ℕ) (payload : List Byte) (hs0 : Frame P s0 s) (h_tw : P.tw = true) :
    Frame P s0 (State.linkSend s typ sub frame payload) := by
  unfold State.linkSend
  repeat' first
    | with_reducible assumption
    | (intro sv; refine frame_cut (a := Frame P s0 sv) ?_ ?_; on_goal 2 => dsimp -zeta only [sv]; on_goal 1 => clear_value sv)
    | (intro sv; clear_value sv)
    | intro _
    | lift_lets -underBinder
    | with_reducible apply linkQueue_frame
    | with_reducible apply frame_ite
    | with_reducible apply frame_foldl
    | with_reducible apply frame_foldr
    | split

theorem forwardPart_frame {P : Parts} {s0 : State} {s : State} (typ : ℕ) (sub : ℕ) (payload : List Byte) (hs0 : Frame P s0 s) (h_tw : P.tw = true) :
    Frame P s0 (State.forwardPart s typ sub payload) := by
  unfold State.forwardPart
  repeat' first
    | with_reducible assumption
    | (intro sv; refine frame_cut (a := Frame P s0 sv) ?_ ?_; on_goal 2 => dsimp -zeta only [sv]; on_goal 1 => clear_value sv)
    | (intro sv; clear_value sv)
    | intro _
    | lift_lets -underBinder
    | with_reducible apply onTw_frame
    | with_reducible apply linkSend_frame
    | with_reducible apply frame_ite
    | with_reducible apply frame_foldl
    | with_reducible apply frame_foldr
    | split

theorem forward_frame {P : Parts} {s0 : State} {s : State} (typ : ℕ) (sub : ℕ) (payload : List Byte) (hs0 : Frame P s0 s) (h_tw : P.tw = true) :
    Frame P s0 (State.forward s typ sub payload) := by
  unfold State.forward
  repeat' first
    | with_reducible assumption
    | (intro sv; refine frame_cut (a := Frame P s0 sv) ?_ ?_; on_goal 2 => dsimp -zeta only [sv]; on_goal 1 => clear_value sv)
    | (intro sv; clear_value sv)
    | intro _
    | lift_lets -underBinder
    | with_reducible apply forwardPart_frame
    | with_reducible apply frame_ite
    | with_reducible apply frame_foldl
    | with_reducible apply frame_foldr
    | split

theorem logPut_frame {P : Parts} {s0 : State} {s : State} (sub : ℕ) (ev : Ev) (sev : ℕ) (detail : List ℕ) (hs0 : Frame P s0 s) (h_regs : P.regs = true) (h_mg : P.mg = true) :
    Frame P s0 (State.logPut s sub ev sev detail) := by
  unfold State.logPut
  repeat' first
    | with_reducible assumption
    | (intro sv; refine frame_cut (a := Frame P s0 sv) ?_ ?_; on_goal 2 => dsimp -zeta only [sv]; on_goal 1 => clear_value sv)
    | (intro sv; clear_value sv)
    | intro _
    | lift_lets -underBinder
    | with_reducible apply wr64_frame
    | with_reducible apply onMg_frame
    | with_reducible apply frame_ite
    | with_reducible apply frame_foldl
    | with_reducible apply frame_foldr
    | split

theorem log_frame {P : Parts} {s0 : State} {s : State} (sub : ℕ) (ev : Ev) (sev : ℕ) (detail : List ℕ) (hs0 : Frame P s0 s) (h_regs : P.regs = true) (h_mg : P.mg = true) :
    Frame P s0 (State.log s sub ev sev detail) := by
  unfold State.log
  repeat' first
    | with_reducible assumption
    | (intro sv; refine frame_cut (a := Frame P s0 sv) ?_ ?_; on_goal 2 => dsimp -zeta only [sv]; on_goal 1 => clear_value sv)
    | (intro sv; clear_value sv)
    | intro _
    | lift_lets -underBinder
    | with_reducible apply onMg_frame
    | with_reducible apply logPut_frame
    | with_reducible apply frame_ite
    | with_reducible apply frame_foldl
    | with_reducible apply frame_foldr
    | split

theorem groupFire_frame {P : Parts} {s0 : State} {s : State} (g : ℕ) (hs0 : Frame P s0 s) (h_regs : P.regs = true) (h_dic : P.dic = true) :
    Frame P s0 (State.groupFire s g) := by
  unfold State.groupFire
  repeat' first
    | with_reducible assumption
    | (intro sv; refine frame_cut (a := Frame P s0 sv) ?_ ?_; on_goal 2 => dsimp -zeta only [sv]; on_goal 1 => clear_value sv)
    | (intro sv; clear_value sv)
    | intro _
    | lift_lets -underBinder
    | with_reducible apply wr_frame
    | with_reducible apply putBit_frame
    | with_reducible apply onDic_frame
    | with_reducible apply frame_ite
    | with_reducible apply frame_foldl
    | with_reducible apply frame_foldr
    | split

theorem groupEvent_frame {P : Parts} {s0 : State} {s : State} (g : ℕ) (hs0 : Frame P s0 s) (h_regs : P.regs = true) (h_dic : P.dic = true) :
    Frame P s0 (State.groupEvent s g) := by
  unfold State.groupEvent
  repeat' first
    | with_reducible assumption
    | (intro sv; refine frame_cut (a := Frame P s0 sv) ?_ ?_; on_goal 2 => dsimp -zeta only [sv]; on_goal 1 => clear_value sv)
    | (intro sv; clear_value sv)
    | intro _
    | lift_lets -underBinder
    | with_reducible apply wr_frame
    | with_reducible apply onDic_frame
    | with_reducible apply groupFire_frame
    | with_reducible apply frame_ite
    | with_reducible apply frame_foldl
    | with_reducible apply frame_foldr
    | split

theorem postRaw_frame {P : Parts} {s0 : State} {s : State} (src : ℕ) (hs0 : Frame P s0 s) (h_regs : P.regs = true) (h_dic : P.dic = true) :
    Frame P s0 (State.postRaw s src) := by
  unfold State.postRaw
  repeat' first
    | with_reducible assumption
    | (intro sv; refine frame_cut (a := Frame P s0 sv) ?_ ?_; on_goal 2 => dsimp -zeta only [sv]; on_goal 1 => clear_value sv)
    | (intro sv; clear_value sv)
    | intro _
    | lift_lets -underBinder
    | with_reducible apply wr_frame
    | with_reducible apply groupEvent_frame
    | with_reducible apply frame_ite
    | with_reducible apply frame_foldl
    | with_reducible apply frame_foldr
    | split

theorem bobTrigger_frame {P : Parts} {s0 : State} {s : State} (b : ℕ) (idx : ℕ) (hs0 : Frame P s0 s) (h_regs : P.regs = true) (h_dic : P.dic = true) (h_le : P.le = true) :
    Frame P s0 (State.bobTrigger s b idx) := by
  unfold State.bobTrigger
  repeat' first
    | with_reducible assumption
    | (intro sv; refine frame_cut (a := Frame P s0 sv) ?_ ?_; on_goal 2 => dsimp -zeta only [sv]; on_goal 1 => clear_value sv)
    | (intro sv; clear_value sv)
    | intro _
    | lift_lets -underBinder
    | with_reducible apply putBit_frame
    | with_reducible apply wr_frame
    | with_reducible apply onLe_frame
    | with_reducible apply postRaw_frame
    | with_reducible apply frame_ite
    | with_reducible apply frame_foldl
    | with_reducible apply frame_foldr
    | split

theorem bobDoorbell_frame {P : Parts} {s0 : State} (n : Nat) {s : State} (src : Nat) (hs0 : Frame P s0 s)
    (h_regs : P.regs = true) (h_dic : P.dic = true) (h_le : P.le = true) : Frame P s0 (State.bobDoorbell n s src) := by
  induction n generalizing s src with
  | zero => exact hs0
  | succ n ih => exact frame_foldl (fun s b h => ih (72 + b) (bobTrigger_frame b _ h h_regs h_dic h_le)) hs0

theorem post_frame {P : Parts} {s0 : State} {s : State} (src : ℕ) (hs0 : Frame P s0 s) (h_regs : P.regs = true) (h_dic : P.dic = true) (h_le : P.le = true) :
    Frame P s0 (State.post s src) := by
  unfold State.post
  repeat' first
    | with_reducible assumption
    | (intro sv; refine frame_cut (a := Frame P s0 sv) ?_ ?_; on_goal 2 => dsimp -zeta only [sv]; on_goal 1 => clear_value sv)
    | (intro sv; clear_value sv)
    | intro _
    | lift_lets -underBinder
    | with_reducible apply bobDoorbell_frame
    | with_reducible apply postRaw_frame
    | with_reducible apply frame_ite
    | with_reducible apply frame_foldl
    | with_reducible apply frame_foldr
    | split

theorem note_frame {P : Parts} {s0 : State} {s : State} (sub : ℕ) (ev : Ev) (sev : ℕ) (detail : List ℕ) (src : ℕ) (hs0 : Frame P s0 s) (h_regs : P.regs = true) (h_dic : P.dic = true) (h_mg : P.mg = true) (h_le : P.le = true) :
    Frame P s0 (State.note s sub ev sev detail src) := by
  unfold State.note
  repeat' first
    | with_reducible assumption
    | (intro sv; refine frame_cut (a := Frame P s0 sv) ?_ ?_; on_goal 2 => dsimp -zeta only [sv]; on_goal 1 => clear_value sv)
    | (intro sv; clear_value sv)
    | intro _
    | lift_lets -underBinder
    | with_reducible apply post_frame
    | with_reducible apply log_frame
    | with_reducible apply frame_ite
    | with_reducible apply frame_foldl
    | with_reducible apply frame_foldr
    | split

theorem aerNote_frame {P : Parts} {s0 : State} {s : State} (uncorrectable : Bool) (hs0 : Frame P s0 s) (h_regs : P.regs = true) (h_dic : P.dic = true) (h_mg : P.mg = true) (h_mb : P.mb = true) (h_le : P.le = true) :
    Frame P s0 (State.aerNote s uncorrectable) := by
  unfold State.aerNote
  repeat' first
    | with_reducible assumption
    | (intro sv; refine frame_cut (a := Frame P s0 sv) ?_ ?_; on_goal 2 => dsimp -zeta only [sv]; on_goal 1 => clear_value sv)
    | (intro sv; clear_value sv)
    | intro _
    | lift_lets -underBinder
    | with_reducible apply note_frame
    | with_reducible apply onMb_frame
    | with_reducible apply frame_ite
    | with_reducible apply frame_foldl
    | with_reducible apply frame_foldr
    | split

theorem repliesLost_frame {P : Parts} {s0 : State} {s : State} (hs0 : Frame P s0 s) (h_mb : P.mb = true) (h_tw : P.tw = true) :
    Frame P s0 (State.repliesLost s) := by
  unfold State.repliesLost
  repeat' first
    | with_reducible assumption
    | (intro sv; refine frame_cut (a := Frame P s0 sv) ?_ ?_; on_goal 2 => dsimp -zeta only [sv]; on_goal 1 => clear_value sv)
    | (intro sv; clear_value sv)
    | intro _
    | lift_lets -underBinder
    | with_reducible apply onMb_frame
    | with_reducible apply onTw_frame
    | with_reducible apply frame_ite
    | with_reducible apply frame_foldl
    | with_reducible apply frame_foldr
    | split

theorem reply_frame {P : Parts} {s0 : State} {s : State} (r : Reply) (hs0 : Frame P s0 s) (h_mb : P.mb = true) :
    Frame P s0 (State.reply s r) := by
  unfold State.reply
  repeat' first
    | with_reducible assumption
    | (intro sv; refine frame_cut (a := Frame P s0 sv) ?_ ?_; on_goal 2 => dsimp -zeta only [sv]; on_goal 1 => clear_value sv)
    | (intro sv; clear_value sv)
    | intro _
    | lift_lets -underBinder
    | with_reducible apply onMb_frame
    | with_reducible apply frame_ite
    | with_reducible apply frame_foldl
    | with_reducible apply frame_foldr
    | split

theorem msixSend_frame {P : Parts} {s0 : State} {s : State} (v : ℕ) (hs0 : Frame P s0 s) (h_mb : P.mb = true) :
    Frame P s0 (State.msixSend s v) := by
  unfold State.msixSend
  repeat' first
    | with_reducible assumption
    | (intro sv; refine frame_cut (a := Frame P s0 sv) ?_ ?_; on_goal 2 => dsimp -zeta only [sv]; on_goal 1 => clear_value sv)
    | (intro sv; clear_value sv)
    | intro _
    | lift_lets -underBinder
    | with_reducible apply onMb_frame
    | with_reducible apply frame_ite
    | with_reducible apply frame_foldl
    | with_reducible apply frame_foldr
    | split

theorem silenceRestart_frame {P : Parts} {s0 : State} {s : State} (hs0 : Frame P s0 s) (h_sys : P.sys = true) (h_tw : P.tw = true) :
    Frame P s0 (State.silenceRestart s) := by
  unfold State.silenceRestart
  repeat' first
    | with_reducible assumption
    | (intro sv; refine frame_cut (a := Frame P s0 sv) ?_ ?_; on_goal 2 => dsimp -zeta only [sv]; on_goal 1 => clear_value sv)
    | (intro sv; clear_value sv)
    | intro _
    | lift_lets -underBinder
    | with_reducible apply forward_frame
    | with_reducible apply onSys_frame
    | with_reducible apply frame_ite
    | with_reducible apply frame_foldl
    | with_reducible apply frame_foldr
    | split

theorem openJournal_frame {P : Parts} {s0 : State} {s : State} (opcode : ℕ) (tag : ℕ) (total : ℕ) (hs0 : Frame P s0 s) (h_mb : P.mb = true) (h_tw : P.tw = true) :
    Frame P s0 (State.openJournal s opcode tag total) := by
  unfold State.openJournal
  repeat' first
    | with_reducible assumption
    | (intro sv; refine frame_cut (a := Frame P s0 sv) ?_ ?_; on_goal 2 => dsimp -zeta only [sv]; on_goal 1 => clear_value sv)
    | (intro sv; clear_value sv)
    | intro _
    | lift_lets -underBinder
    | with_reducible apply forward_frame
    | with_reducible apply onMb_frame
    | with_reducible apply frame_ite
    | with_reducible apply frame_foldl
    | with_reducible apply frame_foldr
    | split

theorem onJournal_frame {P : Parts} {s0 : State} {s : State} (idx : ℕ) (f : Journal → Journal) (hs0 : Frame P s0 s) (h_mb : P.mb = true) (h_tw : P.tw = true) :
    Frame P s0 (State.onJournal s idx f) := by
  unfold State.onJournal
  repeat' first
    | with_reducible assumption
    | (intro sv; refine frame_cut (a := Frame P s0 sv) ?_ ?_; on_goal 2 => dsimp -zeta only [sv]; on_goal 1 => clear_value sv)
    | (intro sv; clear_value sv)
    | intro _
    | lift_lets -underBinder
    | with_reducible apply onMb_frame
    | with_reducible apply forward_frame
    | with_reducible apply frame_ite
    | with_reducible apply frame_foldl
    | with_reducible apply frame_foldr
    | split

theorem journalStep_frame {P : Parts} {s0 : State} {s : State} (idx : ℕ) (n : ℕ) (hs0 : Frame P s0 s) (h_mb : P.mb = true) (h_tw : P.tw = true) :
    Frame P s0 (State.journalStep s idx n) := by
  unfold State.journalStep
  repeat' first
    | with_reducible assumption
    | (intro sv; refine frame_cut (a := Frame P s0 sv) ?_ ?_; on_goal 2 => dsimp -zeta only [sv]; on_goal 1 => clear_value sv)
    | (intro sv; clear_value sv)
    | intro _
    | lift_lets -underBinder
    | with_reducible apply onJournal_frame
    | with_reducible apply frame_ite
    | with_reducible apply frame_foldl
    | with_reducible apply frame_foldr
    | split

theorem journalEnd_frame {P : Parts} {s0 : State} {s : State} (idx : ℕ) (o : JOut) (detail : ℕ) (hs0 : Frame P s0 s) (h_mb : P.mb = true) (h_tw : P.tw = true) :
    Frame P s0 (State.journalEnd s idx o detail) := by
  unfold State.journalEnd
  repeat' first
    | with_reducible assumption
    | (intro sv; refine frame_cut (a := Frame P s0 sv) ?_ ?_; on_goal 2 => dsimp -zeta only [sv]; on_goal 1 => clear_value sv)
    | (intro sv; clear_value sv)
    | intro _
    | lift_lets -underBinder
    | with_reducible apply onJournal_frame
    | with_reducible apply frame_ite
    | with_reducible apply frame_foldl
    | with_reducible apply frame_foldr
    | split

end Sys2Proof.Machine
end

