-- ==== Sys2Proof/Laws/BrokerFrame.lean ====
section
/-! SUPPORT. What the operations of Machine/Broker.lean may touch, and that they keep the memories canonical. -/

namespace Sys2Proof.Machine

theorem setPbCtx_frame {P : Parts} {s0 : State} {s : State} (c : ℕ) (x : PbCtx) (hs0 : Frame P s0 s) (h_pb : P.pb = true) :
    Frame P s0 (State.setPbCtx s c x) := by
  unfold State.setPbCtx
  repeat' first
    | with_reducible assumption
    | (intro sv; refine frame_cut (a := Frame P s0 sv) ?_ ?_; on_goal 2 => dsimp -zeta only [sv]; on_goal 1 => clear_value sv)
    | (intro sv; clear_value sv)
    | intro _
    | lift_lets -underBinder
    | with_reducible apply onPb_frame
    | with_reducible apply frame_ite
    | with_reducible apply frame_foldl
    | with_reducible apply frame_foldr
    | split

theorem applyChange_frame {P : Parts} {s0 : State} {s : State} (b : BudgetChange) (hs0 : Frame P s0 s) (h_regs : P.regs = true) (h_pb : P.pb = true) :
    Frame P s0 (State.applyChange s b) := by
  unfold State.applyChange
  repeat' first
    | with_reducible assumption
    | (intro sv; refine frame_cut (a := Frame P s0 sv) ?_ ?_; on_goal 2 => dsimp -zeta only [sv]; on_goal 1 => clear_value sv)
    | (intro sv; clear_value sv)
    | intro _
    | lift_lets -underBinder
    | with_reducible apply onPb_frame
    | with_reducible apply wr_frame
    | with_reducible apply frame_ite
    | with_reducible apply frame_foldl
    | with_reducible apply frame_foldr
    | split

theorem recompute_frame {P : Parts} {s0 : State} {s : State} (cs : List BudgetChange) (hs0 : Frame P s0 s) (h_pb : P.pb = true) :
    Frame P s0 (State.recompute s cs) := by
  unfold State.recompute
  repeat' first
    | with_reducible assumption
    | (intro sv; refine frame_cut (a := Frame P s0 sv) ?_ ?_; on_goal 2 => dsimp -zeta only [sv]; on_goal 1 => clear_value sv)
    | (intro sv; clear_value sv)
    | intro _
    | lift_lets -underBinder
    | with_reducible apply onPb_frame
    | with_reducible apply setPbCtx_frame
    | with_reducible apply frame_ite
    | with_reducible apply frame_foldl
    | with_reducible apply frame_foldr
    | split

theorem ceilingFall_frame {P : Parts} {s0 : State} {s : State} (hs0 : Frame P s0 s) (h_pb : P.pb = true) :
    Frame P s0 (State.ceilingFall s) := by
  unfold State.ceilingFall
  repeat' first
    | with_reducible assumption
    | (intro sv; refine frame_cut (a := Frame P s0 sv) ?_ ?_; on_goal 2 => dsimp -zeta only [sv]; on_goal 1 => clear_value sv)
    | (intro sv; clear_value sv)
    | intro _
    | lift_lets -underBinder
    | with_reducible apply onPb_frame
    | with_reducible apply frame_ite
    | with_reducible apply frame_foldl
    | with_reducible apply frame_foldr
    | split

theorem giveGrant_frame {P : Parts} {s0 : State} {s : State} (c : ℕ) (grant : ℕ) (hs0 : Frame P s0 s) (h_regs : P.regs = true) (h_pb : P.pb = true) :
    Frame P s0 (State.giveGrant s c grant) := by
  unfold State.giveGrant
  repeat' first
    | with_reducible assumption
    | (intro sv; refine frame_cut (a := Frame P s0 sv) ?_ ?_; on_goal 2 => dsimp -zeta only [sv]; on_goal 1 => clear_value sv)
    | (intro sv; clear_value sv)
    | intro _
    | lift_lets -underBinder
    | with_reducible apply wr_frame
    | with_reducible apply setPbCtx_frame
    | with_reducible apply frame_ite
    | with_reducible apply frame_foldl
    | with_reducible apply frame_foldr
    | split

theorem allocate_frame {P : Parts} {s0 : State} {s : State} (hs0 : Frame P s0 s) (h_regs : P.regs = true) (h_pb : P.pb = true) :
    Frame P s0 (State.allocate s) := by
  unfold State.allocate
  repeat' first
    | with_reducible assumption
    | (intro sv; refine frame_cut (a := Frame P s0 sv) ?_ ?_; on_goal 2 => dsimp -zeta only [sv]; on_goal 1 => clear_value sv)
    | (intro sv; clear_value sv)
    | intro _
    | lift_lets -underBinder
    | with_reducible apply giveGrant_frame
    | with_reducible apply frame_ite
    | with_reducible apply frame_foldl
    | with_reducible apply frame_foldr
    | split

theorem senseBrakes_frame {P : Parts} {s0 : State} {s : State} (hs0 : Frame P s0 s) (h_regs : P.regs = true) :
    Frame P s0 (State.senseBrakes s) := by
  unfold State.senseBrakes
  repeat' first
    | with_reducible assumption
    | (intro sv; refine frame_cut (a := Frame P s0 sv) ?_ ?_; on_goal 2 => dsimp -zeta only [sv]; on_goal 1 => clear_value sv)
    | (intro sv; clear_value sv)
    | intro _
    | lift_lets -underBinder
    | with_reducible apply wr_frame
    | with_reducible apply frame_ite
    | with_reducible apply frame_foldl
    | with_reducible apply frame_foldr
    | split

theorem queueRec_frame {P : Parts} {s0 : State} {s : State} (c : ℕ) (kind : CapKind) (cap : ℕ) (hs0 : Frame P s0 s) (h_regs : P.regs = true) (h_pb : P.pb = true) :
    Frame P s0 (State.queueRec s c kind cap) := by
  unfold State.queueRec
  repeat' first
    | with_reducible assumption
    | (intro sv; refine frame_cut (a := Frame P s0 sv) ?_ ?_; on_goal 2 => dsimp -zeta only [sv]; on_goal 1 => clear_value sv)
    | (intro sv; clear_value sv)
    | intro _
    | lift_lets -underBinder
    | with_reducible apply putBit_frame
    | with_reducible apply setPbCtx_frame
    | with_reducible apply frame_ite
    | with_reducible apply frame_foldl
    | with_reducible apply frame_foldr
    | split

theorem capOutput_frame {P : Parts} {s0 : State} {s : State} (c : ℕ) (u : F32) (upre : F32) (margin : F32) (hs0 : Frame P s0 s) (h_regs : P.regs = true) (h_pb : P.pb = true) :
    Frame P s0 (State.capOutput s c u upre margin) := by
  unfold State.capOutput
  repeat' first
    | with_reducible assumption
    | (intro sv; refine frame_cut (a := Frame P s0 sv) ?_ ?_; on_goal 2 => dsimp -zeta only [sv]; on_goal 1 => clear_value sv)
    | (intro sv; clear_value sv)
    | intro _
    | lift_lets -underBinder
    | with_reducible apply setPbCtx_frame
    | with_reducible apply queueRec_frame
    | with_reducible apply frame_ite
    | with_reducible apply frame_foldl
    | with_reducible apply frame_foldr
    | split

theorem startWrite_frame {P : Parts} {s0 : State} {s : State} (c : ℕ) (r : CapRec) (hs0 : Frame P s0 s) (h_regs : P.regs = true) (h_mb : P.mb = true) (h_pb : P.pb = true) :
    Frame P s0 (State.startWrite s c r) := by
  unfold State.startWrite
  repeat' first
    | with_reducible assumption
    | (intro sv; refine frame_cut (a := Frame P s0 sv) ?_ ?_; on_goal 2 => dsimp -zeta only [sv]; on_goal 1 => clear_value sv)
    | (intro sv; clear_value sv)
    | intro _
    | lift_lets -underBinder
    | with_reducible apply setPbCtx_frame
    | with_reducible apply putBit_frame
    | with_reducible apply wr64_frame
    | with_reducible apply wr_frame
    | with_reducible apply onPb_frame
    | with_reducible apply incSat_frame
    | with_reducible apply onMb_frame
    | with_reducible apply frame_ite
    | with_reducible apply frame_foldl
    | with_reducible apply frame_foldr
    | split

theorem dropCtx_frame {P : Parts} {s0 : State} {s : State} (c : ℕ) (hs0 : Frame P s0 s) (h_regs : P.regs = true) (h_pb : P.pb = true) :
    Frame P s0 (State.dropCtx s c) := by
  unfold State.dropCtx
  repeat' first
    | with_reducible assumption
    | (intro sv; refine frame_cut (a := Frame P s0 sv) ?_ ?_; on_goal 2 => dsimp -zeta only [sv]; on_goal 1 => clear_value sv)
    | (intro sv; clear_value sv)
    | intro _
    | lift_lets -underBinder
    | with_reducible apply onPb_frame
    | with_reducible apply putBit_frame
    | with_reducible apply wr_frame
    | with_reducible apply frame_ite
    | with_reducible apply frame_foldl
    | with_reducible apply frame_foldr
    | split

theorem forwardDone_frame {P : Parts} {s0 : State} {s : State} (c : ℕ) (code : ℕ) (f : CapFlight) (hs0 : Frame P s0 s) (h_tw : P.tw = true) :
    Frame P s0 (State.forwardDone s c code f) := by
  unfold State.forwardDone
  repeat' first
    | with_reducible assumption
    | (intro sv; refine frame_cut (a := Frame P s0 sv) ?_ ?_; on_goal 2 => dsimp -zeta only [sv]; on_goal 1 => clear_value sv)
    | (intro sv; clear_value sv)
    | intro _
    | lift_lets -underBinder
    | with_reducible apply forward_frame
    | with_reducible apply frame_ite
    | with_reducible apply frame_foldl
    | with_reducible apply frame_foldr
    | split

theorem unreachable_frame {P : Parts} {s0 : State} {s : State} (c : ℕ) (release : Bool) (hs0 : Frame P s0 s) (h_regs : P.regs = true) (h_dic : P.dic = true) (h_mg : P.mg = true) (h_pb : P.pb = true) (h_le : P.le = true) :
    Frame P s0 (State.unreachable s c release) := by
  unfold State.unreachable
  repeat' first
    | with_reducible assumption
    | (intro sv; refine frame_cut (a := Frame P s0 sv) ?_ ?_; on_goal 2 => dsimp -zeta only [sv]; on_goal 1 => clear_value sv)
    | (intro sv; clear_value sv)
    | intro _
    | lift_lets -underBinder
    | with_reducible apply note_frame
    | with_reducible apply putBit_frame
    | with_reducible apply dropCtx_frame
    | with_reducible apply frame_ite
    | with_reducible apply frame_foldl
    | with_reducible apply frame_foldr
    | split

theorem writeFailed_frame {P : Parts} {s0 : State} {s : State} (c : ℕ) (hs0 : Frame P s0 s) (h_regs : P.regs = true) (h_dic : P.dic = true) (h_mg : P.mg = true) (h_pb : P.pb = true) (h_le : P.le = true) (h_tw : P.tw = true) :
    Frame P s0 (State.writeFailed s c) := by
  unfold State.writeFailed
  repeat' first
    | with_reducible assumption
    | (intro sv; refine frame_cut (a := Frame P s0 sv) ?_ ?_; on_goal 2 => dsimp -zeta only [sv]; on_goal 1 => clear_value sv)
    | (intro sv; clear_value sv)
    | intro _
    | lift_lets -underBinder
    | with_reducible apply putBit_frame
    | with_reducible apply incSat_frame
    | with_reducible apply forwardDone_frame
    | with_reducible apply setPbCtx_frame
    | with_reducible apply unreachable_frame
    | with_reducible apply frame_ite
    | with_reducible apply frame_foldl
    | with_reducible apply frame_foldr
    | split

theorem writeDone_frame {P : Parts} {s0 : State} {s : State} (c : ℕ) (hs0 : Frame P s0 s) (h_regs : P.regs = true) (h_pb : P.pb = true) (h_tw : P.tw = true) :
    Frame P s0 (State.writeDone s c) := by
  unfold State.writeDone
  repeat' first
    | with_reducible assumption
    | (intro sv; refine frame_cut (a := Frame P s0 sv) ?_ ?_; on_goal 2 => dsimp -zeta only [sv]; on_goal 1 => clear_value sv)
    | (intro sv; clear_value sv)
    | intro _
    | lift_lets -underBinder
    | with_reducible apply forwardDone_frame
    | with_reducible apply putBit_frame
    | with_reducible apply dropCtx_frame
    | with_reducible apply setPbCtx_frame
    | with_reducible apply wr64_frame
    | with_reducible apply frame_ite
    | with_reducible apply frame_foldl
    | with_reducible apply frame_foldr
    | split

theorem emergencyQueue_frame {P : Parts} {s0 : State} {s : State} (hs0 : Frame P s0 s) (h_regs : P.regs = true) (h_pb : P.pb = true) :
    Frame P s0 (State.emergencyQueue s) := by
  unfold State.emergencyQueue
  repeat' first
    | with_reducible assumption
    | (intro sv; refine frame_cut (a := Frame P s0 sv) ?_ ?_; on_goal 2 => dsimp -zeta only [sv]; on_goal 1 => clear_value sv)
    | (intro sv; clear_value sv)
    | intro _
    | lift_lets -underBinder
    | with_reducible apply onPb_frame
    | with_reducible apply wr_frame
    | with_reducible apply queueRec_frame
    | with_reducible apply frame_ite
    | with_reducible apply frame_foldl
    | with_reducible apply frame_foldr
    | split

theorem confirmCaps_frame {P : Parts} {s0 : State} {s : State} (hs0 : Frame P s0 s) (h_regs : P.regs = true) (h_mg : P.mg = true) (h_pb : P.pb = true) :
    Frame P s0 (State.confirmCaps s) := by
  unfold State.confirmCaps
  repeat' first
    | with_reducible assumption
    | (intro sv; refine frame_cut (a := Frame P s0 sv) ?_ ?_; on_goal 2 => dsimp -zeta only [sv]; on_goal 1 => clear_value sv)
    | (intro sv; clear_value sv)
    | intro _
    | lift_lets -underBinder
    | with_reducible apply wr_frame
    | with_reducible apply log_frame
    | with_reducible apply onPb_frame
    | with_reducible apply frame_ite
    | with_reducible apply frame_foldl
    | with_reducible apply frame_foldr
    | split

theorem isolateCaps_frame {P : Parts} {s0 : State} {s : State} (r : ℕ) (hs0 : Frame P s0 s) (h_regs : P.regs = true) (h_pb : P.pb = true) :
    Frame P s0 (State.isolateCaps s r) := by
  unfold State.isolateCaps
  repeat' first
    | with_reducible assumption
    | (intro sv; refine frame_cut (a := Frame P s0 sv) ?_ ?_; on_goal 2 => dsimp -zeta only [sv]; on_goal 1 => clear_value sv)
    | (intro sv; clear_value sv)
    | intro _
    | lift_lets -underBinder
    | with_reducible apply wr_frame
    | with_reducible apply putBit_frame
    | with_reducible apply queueRec_frame
    | with_reducible apply senseBrakes_frame
    | with_reducible apply frame_ite
    | with_reducible apply frame_foldl
    | with_reducible apply frame_foldr
    | split

theorem reopenCaps_frame {P : Parts} {s0 : State} {s : State} (r : ℕ) (hs0 : Frame P s0 s) (h_regs : P.regs = true) :
    Frame P s0 (State.reopenCaps s r) := by
  unfold State.reopenCaps
  repeat' first
    | with_reducible assumption
    | (intro sv; refine frame_cut (a := Frame P s0 sv) ?_ ?_; on_goal 2 => dsimp -zeta only [sv]; on_goal 1 => clear_value sv)
    | (intro sv; clear_value sv)
    | intro _
    | lift_lets -underBinder
    | with_reducible apply wrf_frame
    | with_reducible apply putBit_frame
    | with_reducible apply senseBrakes_frame
    | with_reducible apply wr_frame
    | with_reducible apply frame_ite
    | with_reducible apply frame_foldl
    | with_reducible apply frame_foldr
    | split

theorem admitDue_frame {P : Parts} {s0 : State} {s : State} (hs0 : Frame P s0 s) (h_regs : P.regs = true) (h_pb : P.pb = true) :
    Frame P s0 (State.admitDue s) := by
  unfold State.admitDue
  repeat' first
    | with_reducible assumption
    | (intro sv; refine frame_cut (a := Frame P s0 sv) ?_ ?_; on_goal 2 => dsimp -zeta only [sv]; on_goal 1 => clear_value sv)
    | (intro sv; clear_value sv)
    | intro _
    | lift_lets -underBinder
    | with_reducible apply putBit_frame
    | with_reducible apply setPbCtx_frame
    | with_reducible apply frame_ite
    | with_reducible apply frame_foldl
    | with_reducible apply frame_foldr
    | split

theorem postApply_frame {P : Parts} {s0 : State} {s : State} (hs0 : Frame P s0 s) (h_mb : P.mb = true) (h_pb : P.pb = true) :
    Frame P s0 (State.postApply s) := by
  unfold State.postApply
  repeat' first
    | with_reducible assumption
    | (intro sv; refine frame_cut (a := Frame P s0 sv) ?_ ?_; on_goal 2 => dsimp -zeta only [sv]; on_goal 1 => clear_value sv)
    | (intro sv; clear_value sv)
    | intro _
    | lift_lets -underBinder
    | with_reducible apply msixSend_frame
    | with_reducible apply onPb_frame
    | with_reducible apply frame_ite
    | with_reducible apply frame_foldl
    | with_reducible apply frame_foldr
    | split

theorem firstRecords_frame {P : Parts} {s0 : State} {s : State} (hs0 : Frame P s0 s) (h_regs : P.regs = true) (h_pb : P.pb = true) :
    Frame P s0 (State.firstRecords s) := by
  unfold State.firstRecords
  repeat' first
    | with_reducible assumption
    | (intro sv; refine frame_cut (a := Frame P s0 sv) ?_ ?_; on_goal 2 => dsimp -zeta only [sv]; on_goal 1 => clear_value sv)
    | (intro sv; clear_value sv)
    | intro _
    | lift_lets -underBinder
    | with_reducible apply queueRec_frame
    | with_reducible apply frame_ite
    | with_reducible apply frame_foldl
    | with_reducible apply frame_foldr
    | split

theorem ownerRecords_frame {P : Parts} {s0 : State} {s : State} (hs0 : Frame P s0 s) (h_regs : P.regs = true) (h_pb : P.pb = true) :
    Frame P s0 (State.ownerRecords s) := by
  unfold State.ownerRecords
  repeat' first
    | with_reducible assumption
    | (intro sv; refine frame_cut (a := Frame P s0 sv) ?_ ?_; on_goal 2 => dsimp -zeta only [sv]; on_goal 1 => clear_value sv)
    | (intro sv; clear_value sv)
    | intro _
    | lift_lets -underBinder
    | with_reducible apply queueRec_frame
    | with_reducible apply onPb_frame
    | with_reducible apply frame_ite
    | with_reducible apply frame_foldl
    | with_reducible apply frame_foldr
    | split

theorem budgetApply_frame {P : Parts} {s0 : State} {s : State} (hs0 : Frame P s0 s) (h_regs : P.regs = true) (h_pb : P.pb = true) :
    Frame P s0 (State.budgetApply s) := by
  unfold State.budgetApply
  repeat' first
    | with_reducible assumption
    | (intro sv; refine frame_cut (a := Frame P s0 sv) ?_ ?_; on_goal 2 => dsimp -zeta only [sv]; on_goal 1 => clear_value sv)
    | (intro sv; clear_value sv)
    | intro _
    | lift_lets -underBinder
    | with_reducible apply recompute_frame
    | with_reducible apply applyChange_frame
    | with_reducible apply onPb_frame
    | with_reducible apply frame_ite
    | with_reducible apply frame_foldl
    | with_reducible apply frame_foldr
    | split

theorem allocateIf_frame {P : Parts} {s0 : State} {s : State} (hs0 : Frame P s0 s) (h_regs : P.regs = true) (h_pb : P.pb = true) :
    Frame P s0 (State.allocateIf s) := by
  unfold State.allocateIf
  repeat' first
    | with_reducible assumption
    | (intro sv; refine frame_cut (a := Frame P s0 sv) ?_ ?_; on_goal 2 => dsimp -zeta only [sv]; on_goal 1 => clear_value sv)
    | (intro sv; clear_value sv)
    | intro _
    | lift_lets -underBinder
    | with_reducible apply allocate_frame
    | with_reducible apply frame_ite
    | with_reducible apply frame_foldl
    | with_reducible apply frame_foldr
    | split

theorem pbBoundary_frame {P : Parts} {s0 : State} {s : State} (hs0 : Frame P s0 s) (h_regs : P.regs = true) (h_mg : P.mg = true) (h_mb : P.mb = true) (h_pb : P.pb = true) :
    Frame P s0 (State.pbBoundary s) := by
  unfold State.pbBoundary
  repeat' first
    | with_reducible assumption
    | (intro sv; refine frame_cut (a := Frame P s0 sv) ?_ ?_; on_goal 2 => dsimp -zeta only [sv]; on_goal 1 => clear_value sv)
    | (intro sv; clear_value sv)
    | intro _
    | lift_lets -underBinder
    | with_reducible apply confirmCaps_frame
    | with_reducible apply ownerRecords_frame
    | with_reducible apply firstRecords_frame
    | with_reducible apply allocateIf_frame
    | with_reducible apply postApply_frame
    | with_reducible apply budgetApply_frame
    | with_reducible apply ceilingFall_frame
    | with_reducible apply frame_ite
    | with_reducible apply frame_foldl
    | with_reducible apply frame_foldr
    | split

theorem execLeaseRenewalDue_answers {P : Parts} {s0 : State} (c : Fin 4096) {s : State} (hs0 : Frame P s0 s) (h_regs : P.regs = true) (h_pb : P.pb = true) :
    Answers P s0 (execLeaseRenewalDue c s) := by
  unfold execLeaseRenewalDue
  repeat' first
    | with_reducible assumption
    | (intro sv; refine frame_cut (a := Frame P s0 sv) ?_ ?_; on_goal 2 => dsimp -zeta only [sv]; on_goal 1 => clear_value sv)
    | (intro sv; clear_value sv)
    | intro _
    | with_reducible apply answers_next
    | with_reducible apply answers_ite
    | lift_lets -underBinder
    | with_reducible apply queueRec_frame
    | with_reducible apply same_answers
    | with_reducible apply frame_ite
    | with_reducible apply frame_foldl
    | with_reducible apply frame_foldr
    | split

theorem execCapWriteStart_answers {P : Parts} {s0 : State} {s : State} (hs0 : Frame P s0 s) (h_regs : P.regs = true) (h_mb : P.mb = true) (h_pb : P.pb = true) :
    Answers P s0 (execCapWriteStart s) := by
  unfold execCapWriteStart
  repeat' first
    | with_reducible assumption
    | (intro sv; refine frame_cut (a := Frame P s0 sv) ?_ ?_; on_goal 2 => dsimp -zeta only [sv]; on_goal 1 => clear_value sv)
    | (intro sv; clear_value sv)
    | intro _
    | with_reducible apply answers_next
    | with_reducible apply answers_ite
    | lift_lets -underBinder
    | with_reducible apply startWrite_frame
    | with_reducible apply same_answers
    | with_reducible apply frame_ite
    | with_reducible apply frame_foldl
    | with_reducible apply frame_foldr
    | split

theorem execCapWriteCompletion_answers {P : Parts} {s0 : State} (c : Fin 4096) (success : Bool) {s : State} (hs0 : Frame P s0 s) (h_regs : P.regs = true) (h_dic : P.dic = true) (h_mg : P.mg = true) (h_pb : P.pb = true) (h_le : P.le = true) (h_tw : P.tw = true) :
    Answers P s0 (execCapWriteCompletion c success s) := by
  unfold execCapWriteCompletion
  repeat' first
    | with_reducible assumption
    | (intro sv; refine frame_cut (a := Frame P s0 sv) ?_ ?_; on_goal 2 => dsimp -zeta only [sv]; on_goal 1 => clear_value sv)
    | (intro sv; clear_value sv)
    | intro _
    | with_reducible apply answers_next
    | with_reducible apply answers_ite
    | lift_lets -underBinder
    | with_reducible apply writeDone_frame
    | with_reducible apply writeFailed_frame
    | with_reducible apply frame_ite
    | with_reducible apply frame_foldl
    | with_reducible apply frame_foldr
    | split

theorem execCapWriteTimeout_answers {P : Parts} {s0 : State} (c : Fin 4096) {s : State} (hs0 : Frame P s0 s) (h_regs : P.regs = true) (h_dic : P.dic = true) (h_mg : P.mg = true) (h_mb : P.mb = true) (h_pb : P.pb = true) (h_le : P.le = true) (h_tw : P.tw = true) :
    Answers P s0 (execCapWriteTimeout c s) := by
  unfold execCapWriteTimeout
  repeat' first
    | with_reducible assumption
    | (intro sv; refine frame_cut (a := Frame P s0 sv) ?_ ?_; on_goal 2 => dsimp -zeta only [sv]; on_goal 1 => clear_value sv)
    | (intro sv; clear_value sv)
    | intro _
    | with_reducible apply answers_next
    | with_reducible apply answers_ite
    | lift_lets -underBinder
    | with_reducible apply aerNote_frame
    | with_reducible apply writeFailed_frame
    | with_reducible apply same_answers
    | with_reducible apply frame_ite
    | with_reducible apply frame_foldl
    | with_reducible apply frame_foldr
    | split

theorem execLeaseLapse_answers {P : Parts} {s0 : State} (c : Fin 4096) {s : State} (hs0 : Frame P s0 s) (h_regs : P.regs = true) (h_mg : P.mg = true) :
    Answers P s0 (execLeaseLapse c s) := by
  unfold execLeaseLapse
  repeat' first
    | with_reducible assumption
    | (intro sv; refine frame_cut (a := Frame P s0 sv) ?_ ?_; on_goal 2 => dsimp -zeta only [sv]; on_goal 1 => clear_value sv)
    | (intro sv; clear_value sv)
    | intro _
    | with_reducible apply answers_next
    | with_reducible apply answers_ite
    | lift_lets -underBinder
    | with_reducible apply log_frame
    | with_reducible apply putBit_frame
    | with_reducible apply same_answers
    | with_reducible apply frame_ite
    | with_reducible apply frame_foldl
    | with_reducible apply frame_foldr
    | split

theorem execCapRecordExpiry_answers {P : Parts} {s0 : State} (c : Fin 4096) {s : State} (hs0 : Frame P s0 s) (h_regs : P.regs = true) (h_pb : P.pb = true) :
    Answers P s0 (execCapRecordExpiry c s) := by
  unfold execCapRecordExpiry
  repeat' first
    | with_reducible assumption
    | (intro sv; refine frame_cut (a := Frame P s0 sv) ?_ ?_; on_goal 2 => dsimp -zeta only [sv]; on_goal 1 => clear_value sv)
    | (intro sv; clear_value sv)
    | intro _
    | with_reducible apply answers_next
    | with_reducible apply answers_ite
    | lift_lets -underBinder
    | with_reducible apply incSat_frame
    | with_reducible apply putBit_frame
    | with_reducible apply setPbCtx_frame
    | with_reducible apply dropCtx_frame
    | with_reducible apply same_answers
    | with_reducible apply frame_ite
    | with_reducible apply frame_foldl
    | with_reducible apply frame_foldr
    | split

theorem execOverCap_answers {P : Parts} {s0 : State} (c : Fin 4096) {s : State} (hs0 : Frame P s0 s) (h_regs : P.regs = true) (h_dic : P.dic = true) (h_mg : P.mg = true) (h_le : P.le = true) :
    Answers P s0 (execOverCap c s) := by
  unfold execOverCap
  repeat' first
    | with_reducible assumption
    | (intro sv; refine frame_cut (a := Frame P s0 sv) ?_ ?_; on_goal 2 => dsimp -zeta only [sv]; on_goal 1 => clear_value sv)
    | (intro sv; clear_value sv)
    | intro _
    | with_reducible apply answers_next
    | with_reducible apply answers_ite
    | lift_lets -underBinder
    | with_reducible apply note_frame
    | with_reducible apply putBit_frame
    | with_reducible apply same_answers
    | with_reducible apply frame_ite
    | with_reducible apply frame_foldl
    | with_reducible apply frame_foldr
    | split

theorem execPbBrakeForceWrite_answers {P : Parts} {s0 : State} (v : BitVec 16) {s : State} (hs0 : Frame P s0 s) (h_regs : P.regs = true) :
    Answers P s0 (execPbBrakeForceWrite v s) := by
  unfold execPbBrakeForceWrite
  repeat' first
    | with_reducible assumption
    | (intro sv; refine frame_cut (a := Frame P s0 sv) ?_ ?_; on_goal 2 => dsimp -zeta only [sv]; on_goal 1 => clear_value sv)
    | (intro sv; clear_value sv)
    | intro _
    | with_reducible apply answers_next
    | with_reducible apply answers_ite
    | lift_lets -underBinder
    | with_reducible apply senseBrakes_frame
    | with_reducible apply wr_frame
    | with_reducible apply frame_ite
    | with_reducible apply frame_foldl
    | with_reducible apply frame_foldr
    | split

theorem execBar4Write_answers {P : Parts} {s0 : State} (off : ℕ) (v : BitVec 32) {s : State} (hs0 : Frame P s0 s) (h_pb : P.pb = true) :
    Answers P s0 (execBar4Write off v s) := by
  unfold execBar4Write
  repeat' first
    | with_reducible assumption
    | (intro sv; refine frame_cut (a := Frame P s0 sv) ?_ ?_; on_goal 2 => dsimp -zeta only [sv]; on_goal 1 => clear_value sv)
    | (intro sv; clear_value sv)
    | intro _
    | with_reducible apply answers_next
    | with_reducible apply answers_ite
    | lift_lets -underBinder
    | with_reducible apply onPb_frame
    | with_reducible apply same_answers
    | with_reducible apply frame_ite
    | with_reducible apply frame_foldl
    | with_reducible apply frame_foldr
    | split

theorem execPostSeqWrite_answers {P : Parts} {s0 : State} (v : BitVec 32) {s : State} (hs0 : Frame P s0 s) (h_sys : P.sys = true) (h_pb : P.pb = true) (h_tw : P.tw = true) :
    Answers P s0 (execPostSeqWrite v s) := by
  unfold execPostSeqWrite
  repeat' first
    | with_reducible assumption
    | (intro sv; refine frame_cut (a := Frame P s0 sv) ?_ ?_; on_goal 2 => dsimp -zeta only [sv]; on_goal 1 => clear_value sv)
    | (intro sv; clear_value sv)
    | intro _
    | with_reducible apply answers_next
    | with_reducible apply answers_ite
    | lift_lets -underBinder
    | with_reducible apply onPb_frame
    | with_reducible apply silenceRestart_frame
    | with_reducible apply forward_frame
    | with_reducible apply frame_ite
    | with_reducible apply frame_foldl
    | with_reducible apply frame_foldr
    | split

end Sys2Proof.Machine
end

