-- ==== Sys2Proof/Laws/HydraulicsFrame.lean ====
section
/-! SUPPORT. What the operations of Machine/Hydraulics.lean may touch, and that they keep the memories canonical. -/

namespace Sys2Proof.Machine

theorem setPfCh_frame {P : Parts} {s0 : State} {s : State} (k : ℕ) (x : PfCh) (hs0 : Frame P s0 s) (h_pf : P.pf = true) :
    Frame P s0 (State.setPfCh s k x) := by
  unfold State.setPfCh
  repeat' first
    | with_reducible assumption
    | (intro sv; refine frame_cut (a := Frame P s0 sv) ?_ ?_; on_goal 2 => dsimp -zeta only [sv]; on_goal 1 => clear_value sv)
    | (intro sv; clear_value sv)
    | intro _
    | lift_lets -underBinder
    | with_reducible apply onPf_frame
    | with_reducible apply frame_ite
    | with_reducible apply frame_foldl
    | with_reducible apply frame_foldr
    | split

theorem setTmInput_frame {P : Parts} {s0 : State} {s : State} (n : ℕ) (b : Bool) (hs0 : Frame P s0 s) (h_regs : P.regs = true) :
    Frame P s0 (State.setTmInput s n b) := by
  unfold State.setTmInput
  repeat' first
    | with_reducible assumption
    | (intro sv; refine frame_cut (a := Frame P s0 sv) ?_ ?_; on_goal 2 => dsimp -zeta only [sv]; on_goal 1 => clear_value sv)
    | (intro sv; clear_value sv)
    | intro _
    | lift_lets -underBinder
    | with_reducible apply wr_frame
    | with_reducible apply frame_ite
    | with_reducible apply frame_foldl
    | with_reducible apply frame_foldr
    | split

theorem disarm_frame {P : Parts} {s0 : State} {s : State} (hs0 : Frame P s0 s) (h_regs : P.regs = true) :
    Frame P s0 (State.disarm s) := by
  unfold State.disarm
  repeat' first
    | with_reducible assumption
    | (intro sv; refine frame_cut (a := Frame P s0 sv) ?_ ?_; on_goal 2 => dsimp -zeta only [sv]; on_goal 1 => clear_value sv)
    | (intro sv; clear_value sv)
    | intro _
    | lift_lets -underBinder
    | with_reducible apply setTmInput_frame
    | with_reducible apply putBit_frame
    | with_reducible apply frame_ite
    | with_reducible apply frame_foldl
    | with_reducible apply frame_foldr
    | split

theorem pmStatus_frame {P : Parts} {s0 : State} {s : State} (hs0 : Frame P s0 s) (h_regs : P.regs = true) :
    Frame P s0 (State.pmStatus s) := by
  unfold State.pmStatus
  repeat' first
    | with_reducible assumption
    | (intro sv; refine frame_cut (a := Frame P s0 sv) ?_ ?_; on_goal 2 => dsimp -zeta only [sv]; on_goal 1 => clear_value sv)
    | (intro sv; clear_value sv)
    | intro _
    | lift_lets -underBinder
    | with_reducible apply wr_frame
    | with_reducible apply putBit_frame
    | with_reducible apply disarm_frame
    | with_reducible apply frame_ite
    | with_reducible apply frame_foldl
    | with_reducible apply frame_foldr
    | split

theorem queuePump_frame {P : Parts} {s0 : State} {s : State} (n : ℕ) (staged : Bool) (hs0 : Frame P s0 s) (h_regs : P.regs = true) (h_pf : P.pf = true) :
    Frame P s0 (State.queuePump s n staged) := by
  unfold State.queuePump
  repeat' first
    | with_reducible assumption
    | (intro sv; refine frame_cut (a := Frame P s0 sv) ?_ ?_; on_goal 2 => dsimp -zeta only [sv]; on_goal 1 => clear_value sv)
    | (intro sv; clear_value sv)
    | intro _
    | lift_lets -underBinder
    | with_reducible apply putBit_frame
    | with_reducible apply onPf_frame
    | with_reducible apply frame_ite
    | with_reducible apply frame_foldl
    | with_reducible apply frame_foldr
    | split

theorem fillDuty_frame {P : Parts} {s0 : State} (x0 : ℕ) {x1 : State} (hx10 : Frame P s0 x1) (h_regs : P.regs = true) (h_pf : P.pf = true) :
    Frame P s0 (State.fillDuty x0 x1) := by
  induction x0 generalizing x1 with
  | zero => rw [State.fillDuty]; assumption
  | succ n ih =>
    rw [State.fillDuty]
    repeat' first
      | with_reducible assumption
      | (intro sv; refine frame_cut (a := Frame P s0 sv) ?_ ?_; on_goal 2 => dsimp -zeta only [sv]; on_goal 1 => clear_value sv)
      | (intro sv; clear_value sv)
      | intro _
      | lift_lets -underBinder
      | with_reducible apply ih
      | with_reducible apply queuePump_frame
      | with_reducible apply frame_ite
      | with_reducible apply frame_foldl
      | with_reducible apply frame_foldr
      | split

theorem pmWork_frame {P : Parts} {s0 : State} {s : State} (hs0 : Frame P s0 s) (h_regs : P.regs = true) (h_pf : P.pf = true) :
    Frame P s0 (State.pmWork s) := by
  unfold State.pmWork
  repeat' first
    | with_reducible assumption
    | (intro sv; refine frame_cut (a := Frame P s0 sv) ?_ ?_; on_goal 2 => dsimp -zeta only [sv]; on_goal 1 => clear_value sv)
    | (intro sv; clear_value sv)
    | intro _
    | lift_lets -underBinder
    | with_reducible apply pmStatus_frame
    | with_reducible apply fillDuty_frame
    | with_reducible apply frame_ite
    | with_reducible apply frame_foldl
    | with_reducible apply frame_foldr
    | split

theorem stopPump_frame {P : Parts} {s0 : State} {s : State} (n : ℕ) (hs0 : Frame P s0 s) (h_regs : P.regs = true) (h_pf : P.pf = true) :
    Frame P s0 (State.stopPump s n) := by
  unfold State.stopPump
  repeat' first
    | with_reducible assumption
    | (intro sv; refine frame_cut (a := Frame P s0 sv) ?_ ?_; on_goal 2 => dsimp -zeta only [sv]; on_goal 1 => clear_value sv)
    | (intro sv; clear_value sv)
    | intro _
    | lift_lets -underBinder
    | with_reducible apply setPfCh_frame
    | with_reducible apply putBit_frame
    | with_reducible apply frame_ite
    | with_reducible apply frame_foldl
    | with_reducible apply frame_foldr
    | split

theorem distribute_frame {P : Parts} {s0 : State} {s : State} (hs0 : Frame P s0 s) (h_regs : P.regs = true) :
    Frame P s0 (State.distribute s) := by
  unfold State.distribute
  repeat' first
    | with_reducible assumption
    | (intro sv; refine frame_cut (a := Frame P s0 sv) ?_ ?_; on_goal 2 => dsimp -zeta only [sv]; on_goal 1 => clear_value sv)
    | (intro sv; clear_value sv)
    | intro _
    | lift_lets -underBinder
    | with_reducible apply wr_frame
    | with_reducible apply frame_ite
    | with_reducible apply frame_foldl
    | with_reducible apply frame_foldr
    | split

theorem offPump_frame {P : Parts} {s0 : State} {s : State} (n : ℕ) (hs0 : Frame P s0 s) (h_regs : P.regs = true) (h_pf : P.pf = true) :
    Frame P s0 (State.offPump s n) := by
  unfold State.offPump
  repeat' first
    | with_reducible assumption
    | (intro sv; refine frame_cut (a := Frame P s0 sv) ?_ ?_; on_goal 2 => dsimp -zeta only [sv]; on_goal 1 => clear_value sv)
    | (intro sv; clear_value sv)
    | intro _
    | lift_lets -underBinder
    | with_reducible apply pmStatus_frame
    | with_reducible apply setPfCh_frame
    | with_reducible apply wr_frame
    | with_reducible apply frame_ite
    | with_reducible apply frame_foldl
    | with_reducible apply frame_foldr
    | split

theorem trimDuty_frame {P : Parts} {s0 : State} (x0 : ℕ) {x1 : State} (hx10 : Frame P s0 x1) (h_regs : P.regs = true) (h_pf : P.pf = true) :
    Frame P s0 (State.trimDuty x0 x1) := by
  induction x0 generalizing x1 with
  | zero => rw [State.trimDuty]; assumption
  | succ n ih =>
    rw [State.trimDuty]
    repeat' first
      | with_reducible assumption
      | (intro sv; refine frame_cut (a := Frame P s0 sv) ?_ ?_; on_goal 2 => dsimp -zeta only [sv]; on_goal 1 => clear_value sv)
      | (intro sv; clear_value sv)
      | intro _
      | lift_lets -underBinder
      | with_reducible apply ih
      | with_reducible apply onPf_frame
      | with_reducible apply offPump_frame
      | with_reducible apply wr_frame
      | with_reducible apply stopPump_frame
      | with_reducible apply frame_ite
      | with_reducible apply frame_foldl
      | with_reducible apply frame_foldr
      | split

theorem pmOff_frame {P : Parts} {s0 : State} {s : State} (hs0 : Frame P s0 s) (h_regs : P.regs = true) (h_pf : P.pf = true) :
    Frame P s0 (State.pmOff s) := by
  unfold State.pmOff
  repeat' first
    | with_reducible assumption
    | (intro sv; refine frame_cut (a := Frame P s0 sv) ?_ ?_; on_goal 2 => dsimp -zeta only [sv]; on_goal 1 => clear_value sv)
    | (intro sv; clear_value sv)
    | intro _
    | lift_lets -underBinder
    | with_reducible apply putBit_frame
    | with_reducible apply pmStatus_frame
    | with_reducible apply onPf_frame
    | with_reducible apply frame_ite
    | with_reducible apply frame_foldl
    | with_reducible apply frame_foldr
    | split

theorem pmSet_frame {P : Parts} {s0 : State} {s : State} (hs0 : Frame P s0 s) (h_regs : P.regs = true) (h_pf : P.pf = true) :
    Frame P s0 (State.pmSet s) := by
  unfold State.pmSet
  repeat' first
    | with_reducible assumption
    | (intro sv; refine frame_cut (a := Frame P s0 sv) ?_ ?_; on_goal 2 => dsimp -zeta only [sv]; on_goal 1 => clear_value sv)
    | (intro sv; clear_value sv)
    | intro _
    | lift_lets -underBinder
    | with_reducible apply distribute_frame
    | with_reducible apply trimDuty_frame
    | with_reducible apply pmWork_frame
    | with_reducible apply pmOff_frame
    | with_reducible apply frame_ite
    | with_reducible apply frame_foldl
    | with_reducible apply frame_foldr
    | split

theorem setDemand_frame {P : Parts} {s0 : State} {s : State} (v : ℕ) (hs0 : Frame P s0 s) (h_regs : P.regs = true) (h_pf : P.pf = true) :
    Frame P s0 (State.setDemand s v) := by
  unfold State.setDemand
  repeat' first
    | with_reducible assumption
    | (intro sv; refine frame_cut (a := Frame P s0 sv) ?_ ?_; on_goal 2 => dsimp -zeta only [sv]; on_goal 1 => clear_value sv)
    | (intro sv; clear_value sv)
    | intro _
    | lift_lets -underBinder
    | with_reducible apply wr_frame
    | with_reducible apply distribute_frame
    | with_reducible apply onPf_frame
    | with_reducible apply frame_ite
    | with_reducible apply frame_foldl
    | with_reducible apply frame_foldr
    | split

theorem setSpeed_frame {P : Parts} {s0 : State} {s : State} (k : ℕ) (v : ℕ) (hs0 : Frame P s0 s) (h_regs : P.regs = true) :
    Frame P s0 (State.setSpeed s k v) := by
  unfold State.setSpeed
  repeat' first
    | with_reducible assumption
    | (intro sv; refine frame_cut (a := Frame P s0 sv) ?_ ?_; on_goal 2 => dsimp -zeta only [sv]; on_goal 1 => clear_value sv)
    | (intro sv; clear_value sv)
    | intro _
    | lift_lets -underBinder
    | with_reducible apply wr_frame
    | with_reducible apply frame_ite
    | with_reducible apply frame_foldl
    | with_reducible apply frame_foldr
    | split

theorem unstage_frame {P : Parts} {s0 : State} {s : State} (k : ℕ) (st : ℕ) (hs0 : Frame P s0 s) (h_regs : P.regs = true) (h_pf : P.pf = true) :
    Frame P s0 (State.unstage s k st) := by
  unfold State.unstage
  repeat' first
    | with_reducible assumption
    | (intro sv; refine frame_cut (a := Frame P s0 sv) ?_ ?_; on_goal 2 => dsimp -zeta only [sv]; on_goal 1 => clear_value sv)
    | (intro sv; clear_value sv)
    | intro _
    | lift_lets -underBinder
    | with_reducible apply putBit_frame
    | with_reducible apply onPf_frame
    | with_reducible apply frame_ite
    | with_reducible apply frame_foldl
    | with_reducible apply frame_foldr
    | split

theorem pfTo_frame {P : Parts} {s0 : State} {s : State} (k : ℕ) (st : ℕ) (hs0 : Frame P s0 s) (h_regs : P.regs = true) (h_pf : P.pf = true) :
    Frame P s0 (State.pfTo s k st) := by
  unfold State.pfTo
  repeat' first
    | with_reducible assumption
    | (intro sv; refine frame_cut (a := Frame P s0 sv) ?_ ?_; on_goal 2 => dsimp -zeta only [sv]; on_goal 1 => clear_value sv)
    | (intro sv; clear_value sv)
    | intro _
    | lift_lets -underBinder
    | with_reducible apply onPf_frame
    | with_reducible apply wr_frame
    | with_reducible apply setPfCh_frame
    | with_reducible apply unstage_frame
    | with_reducible apply pmWork_frame
    | with_reducible apply frame_ite
    | with_reducible apply frame_foldl
    | with_reducible apply frame_foldr
    | split

theorem pfFail_frame {P : Parts} {s0 : State} {s : State} (k : ℕ) (st : ℕ) (hs0 : Frame P s0 s) (h_regs : P.regs = true) (h_dic : P.dic = true) (h_mg : P.mg = true) (h_le : P.le = true) (h_pf : P.pf = true) :
    Frame P s0 (State.pfFail s k st) := by
  unfold State.pfFail
  repeat' first
    | with_reducible assumption
    | (intro sv; refine frame_cut (a := Frame P s0 sv) ?_ ?_; on_goal 2 => dsimp -zeta only [sv]; on_goal 1 => clear_value sv)
    | (intro sv; clear_value sv)
    | intro _
    | lift_lets -underBinder
    | with_reducible apply wr_frame
    | with_reducible apply note_frame
    | with_reducible apply pfTo_frame
    | with_reducible apply frame_ite
    | with_reducible apply frame_foldl
    | with_reducible apply frame_foldr
    | split

theorem kick_frame {P : Parts} {s0 : State} {s : State} (k : ℕ) (attempt : ℕ) (hs0 : Frame P s0 s) (h_regs : P.regs = true) (h_pf : P.pf = true) :
    Frame P s0 (State.kick s k attempt) := by
  unfold State.kick
  repeat' first
    | with_reducible assumption
    | (intro sv; refine frame_cut (a := Frame P s0 sv) ?_ ?_; on_goal 2 => dsimp -zeta only [sv]; on_goal 1 => clear_value sv)
    | (intro sv; clear_value sv)
    | intro _
    | lift_lets -underBinder
    | with_reducible apply setPfCh_frame
    | with_reducible apply wr_frame
    | with_reducible apply frame_ite
    | with_reducible apply frame_foldl
    | with_reducible apply frame_foldr
    | split

theorem startKick_frame {P : Parts} {s0 : State} {s : State} (k : ℕ) (hs0 : Frame P s0 s) (h_regs : P.regs = true) (h_pf : P.pf = true) :
    Frame P s0 (State.startKick s k) := by
  unfold State.startKick
  repeat' first
    | with_reducible assumption
    | (intro sv; refine frame_cut (a := Frame P s0 sv) ?_ ?_; on_goal 2 => dsimp -zeta only [sv]; on_goal 1 => clear_value sv)
    | (intro sv; clear_value sv)
    | intro _
    | lift_lets -underBinder
    | with_reducible apply setPfCh_frame
    | with_reducible apply onPf_frame
    | with_reducible apply pmStatus_frame
    | with_reducible apply kick_frame
    | with_reducible apply frame_ite
    | with_reducible apply frame_foldl
    | with_reducible apply frame_foldr
    | split

theorem kickRuns_frame {P : Parts} {s0 : State} {s : State} (k : ℕ) (hs0 : Frame P s0 s) (h_regs : P.regs = true) (h_pf : P.pf = true) :
    Frame P s0 (State.kickRuns s k) := by
  unfold State.kickRuns
  repeat' first
    | with_reducible assumption
    | (intro sv; refine frame_cut (a := Frame P s0 sv) ?_ ?_; on_goal 2 => dsimp -zeta only [sv]; on_goal 1 => clear_value sv)
    | (intro sv; clear_value sv)
    | intro _
    | lift_lets -underBinder
    | with_reducible apply pfTo_frame
    | with_reducible apply setPfCh_frame
    | with_reducible apply distribute_frame
    | with_reducible apply frame_ite
    | with_reducible apply frame_foldl
    | with_reducible apply frame_foldr
    | split

theorem endKick_frame {P : Parts} {s0 : State} {s : State} (k : ℕ) (pulses : ℕ) (sinceLast : ℕ) (hs0 : Frame P s0 s) (h_regs : P.regs = true) (h_dic : P.dic = true) (h_mg : P.mg = true) (h_le : P.le = true) (h_pf : P.pf = true) :
    Frame P s0 (State.endKick s k pulses sinceLast) := by
  unfold State.endKick
  repeat' first
    | with_reducible assumption
    | (intro sv; refine frame_cut (a := Frame P s0 sv) ?_ ?_; on_goal 2 => dsimp -zeta only [sv]; on_goal 1 => clear_value sv)
    | (intro sv; clear_value sv)
    | intro _
    | lift_lets -underBinder
    | with_reducible apply wr_frame
    | with_reducible apply setPfCh_frame
    | with_reducible apply kickRuns_frame
    | with_reducible apply pfFail_frame
    | with_reducible apply frame_ite
    | with_reducible apply frame_foldl
    | with_reducible apply frame_foldr
    | split

theorem rampStep_frame {P : Parts} {s0 : State} {s : State} (k : ℕ) (hs0 : Frame P s0 s) (h_regs : P.regs = true) (h_pf : P.pf = true) :
    Frame P s0 (State.rampStep s k) := by
  unfold State.rampStep
  repeat' first
    | with_reducible assumption
    | (intro sv; refine frame_cut (a := Frame P s0 sv) ?_ ?_; on_goal 2 => dsimp -zeta only [sv]; on_goal 1 => clear_value sv)
    | (intro sv; clear_value sv)
    | intro _
    | lift_lets -underBinder
    | with_reducible apply wr_frame
    | with_reducible apply pfTo_frame
    | with_reducible apply setPfCh_frame
    | with_reducible apply frame_ite
    | with_reducible apply frame_foldl
    | with_reducible apply frame_foldr
    | split

theorem rotationStep_frame {P : Parts} {s0 : State} {s : State} (hs0 : Frame P s0 s) (h_regs : P.regs = true) (h_mg : P.mg = true) (h_pf : P.pf = true) :
    Frame P s0 (State.rotationStep s) := by
  unfold State.rotationStep
  repeat' first
    | with_reducible assumption
    | (intro sv; refine frame_cut (a := Frame P s0 sv) ?_ ?_; on_goal 2 => dsimp -zeta only [sv]; on_goal 1 => clear_value sv)
    | (intro sv; clear_value sv)
    | intro _
    | lift_lets -underBinder
    | with_reducible apply putBit_frame
    | with_reducible apply log_frame
    | with_reducible apply stopPump_frame
    | with_reducible apply frame_ite
    | with_reducible apply frame_foldl
    | with_reducible apply frame_foldr
    | split

theorem learn_frame {P : Parts} {s0 : State} {s : State} (k : ℕ) (hs0 : Frame P s0 s) (h_regs : P.regs = true) (h_pf : P.pf = true) :
    Frame P s0 (State.learn s k) := by
  unfold State.learn
  repeat' first
    | with_reducible assumption
    | (intro sv; refine frame_cut (a := Frame P s0 sv) ?_ ?_; on_goal 2 => dsimp -zeta only [sv]; on_goal 1 => clear_value sv)
    | (intro sv; clear_value sv)
    | intro _
    | lift_lets -underBinder
    | with_reducible apply setPfCh_frame
    | with_reducible apply wr_frame
    | with_reducible apply wrf_frame
    | with_reducible apply frame_ite
    | with_reducible apply frame_foldl
    | with_reducible apply frame_foldr
    | split

theorem runTime_frame {P : Parts} {s0 : State} {s : State} (n : ℕ) (hs0 : Frame P s0 s) (h_regs : P.regs = true) (h_pf : P.pf = true) :
    Frame P s0 (State.runTime s n) := by
  unfold State.runTime
  repeat' first
    | with_reducible assumption
    | (intro sv; refine frame_cut (a := Frame P s0 sv) ?_ ?_; on_goal 2 => dsimp -zeta only [sv]; on_goal 1 => clear_value sv)
    | (intro sv; clear_value sv)
    | intro _
    | lift_lets -underBinder
    | with_reducible apply setPfCh_frame
    | with_reducible apply addSat_frame
    | with_reducible apply frame_ite
    | with_reducible apply frame_foldl
    | with_reducible apply frame_foldr
    | split

theorem pfTick_frame {P : Parts} {s0 : State} {s : State} (hs0 : Frame P s0 s) (h_regs : P.regs = true) (h_mg : P.mg = true) (h_pf : P.pf = true) :
    Frame P s0 (State.pfTick s) := by
  unfold State.pfTick
  repeat' first
    | with_reducible assumption
    | (intro sv; refine frame_cut (a := Frame P s0 sv) ?_ ?_; on_goal 2 => dsimp -zeta only [sv]; on_goal 1 => clear_value sv)
    | (intro sv; clear_value sv)
    | intro _
    | lift_lets -underBinder
    | with_reducible apply rotationStep_frame
    | with_reducible apply rampStep_frame
    | with_reducible apply frame_ite
    | with_reducible apply frame_foldl
    | with_reducible apply frame_foldr
    | split

theorem setAo_frame {P : Parts} {s0 : State} {s : State} (n : ℕ) (v : ℕ) (hs0 : Frame P s0 s) (h_regs : P.regs = true) :
    Frame P s0 (State.setAo s n v) := by
  unfold State.setAo
  repeat' first
    | with_reducible assumption
    | (intro sv; refine frame_cut (a := Frame P s0 sv) ?_ ?_; on_goal 2 => dsimp -zeta only [sv]; on_goal 1 => clear_value sv)
    | (intro sv; clear_value sv)
    | intro _
    | lift_lets -underBinder
    | with_reducible apply wr_frame
    | with_reducible apply frame_ite
    | with_reducible apply frame_foldl
    | with_reducible apply frame_foldr
    | split

theorem writeTarget_frame {P : Parts} {s0 : State} {s : State} (tgt : ℕ) (x : F32) (hs0 : Frame P s0 s) (h_regs : P.regs = true) (h_pf : P.pf = true) :
    Frame P s0 (State.writeTarget s tgt x) := by
  unfold State.writeTarget
  repeat' first
    | with_reducible assumption
    | (intro sv; refine frame_cut (a := Frame P s0 sv) ?_ ?_; on_goal 2 => dsimp -zeta only [sv]; on_goal 1 => clear_value sv)
    | (intro sv; clear_value sv)
    | intro _
    | lift_lets -underBinder
    | with_reducible apply setDemand_frame
    | with_reducible apply setSpeed_frame
    | with_reducible apply setAo_frame
    | with_reducible apply frame_ite
    | with_reducible apply frame_foldl
    | with_reducible apply frame_foldr
    | split

theorem setSlow_frame {P : Parts} {s0 : State} {s : State} (k : ℕ) (x : SlowFall) (hs0 : Frame P s0 s) (h_pf : P.pf = true) :
    Frame P s0 (State.setSlow s k x) := by
  unfold State.setSlow
  repeat' first
    | with_reducible assumption
    | (intro sv; refine frame_cut (a := Frame P s0 sv) ?_ ?_; on_goal 2 => dsimp -zeta only [sv]; on_goal 1 => clear_value sv)
    | (intro sv; clear_value sv)
    | intro _
    | lift_lets -underBinder
    | with_reducible apply onPf_frame
    | with_reducible apply frame_ite
    | with_reducible apply frame_foldl
    | with_reducible apply frame_foldr
    | split

theorem slowStart_frame {P : Parts} {s0 : State} {s : State} (k : ℕ) (hs0 : Frame P s0 s) (h_regs : P.regs = true) (h_dic : P.dic = true) (h_mg : P.mg = true) (h_le : P.le = true) :
    Frame P s0 (State.slowStart s k) := by
  unfold State.slowStart
  repeat' first
    | with_reducible assumption
    | (intro sv; refine frame_cut (a := Frame P s0 sv) ?_ ?_; on_goal 2 => dsimp -zeta only [sv]; on_goal 1 => clear_value sv)
    | (intro sv; clear_value sv)
    | intro _
    | lift_lets -underBinder
    | with_reducible apply wr_frame
    | with_reducible apply putBit_frame
    | with_reducible apply note_frame
    | with_reducible apply frame_ite
    | with_reducible apply frame_foldl
    | with_reducible apply frame_foldr
    | split

theorem slowEnd_frame {P : Parts} {s0 : State} {s : State} (k : ℕ) (hs0 : Frame P s0 s) (h_regs : P.regs = true) (h_mg : P.mg = true) :
    Frame P s0 (State.slowEnd s k) := by
  unfold State.slowEnd
  repeat' first
    | with_reducible assumption
    | (intro sv; refine frame_cut (a := Frame P s0 sv) ?_ ?_; on_goal 2 => dsimp -zeta only [sv]; on_goal 1 => clear_value sv)
    | (intro sv; clear_value sv)
    | intro _
    | lift_lets -underBinder
    | with_reducible apply wr_frame
    | with_reducible apply putBit_frame
    | with_reducible apply log_frame
    | with_reducible apply frame_ite
    | with_reducible apply frame_foldl
    | with_reducible apply frame_foldr
    | split

theorem slowPause_frame {P : Parts} {s0 : State} {s : State} (k : ℕ) (hs0 : Frame P s0 s) (h_pf : P.pf = true) :
    Frame P s0 (State.slowPause s k) := by
  unfold State.slowPause
  repeat' first
    | with_reducible assumption
    | (intro sv; refine frame_cut (a := Frame P s0 sv) ?_ ?_; on_goal 2 => dsimp -zeta only [sv]; on_goal 1 => clear_value sv)
    | (intro sv; clear_value sv)
    | intro _
    | lift_lets -underBinder
    | with_reducible apply setSlow_frame
    | with_reducible apply frame_ite
    | with_reducible apply frame_foldl
    | with_reducible apply frame_foldr
    | split

theorem slowDrop_frame {P : Parts} {s0 : State} {s : State} (k : ℕ) (hs0 : Frame P s0 s) (h_regs : P.regs = true) (h_mg : P.mg = true) (h_pf : P.pf = true) :
    Frame P s0 (State.slowDrop s k) := by
  unfold State.slowDrop
  repeat' first
    | with_reducible assumption
    | (intro sv; refine frame_cut (a := Frame P s0 sv) ?_ ?_; on_goal 2 => dsimp -zeta only [sv]; on_goal 1 => clear_value sv)
    | (intro sv; clear_value sv)
    | intro _
    | lift_lets -underBinder
    | with_reducible apply slowEnd_frame
    | with_reducible apply setSlow_frame
    | with_reducible apply frame_ite
    | with_reducible apply frame_foldl
    | with_reducible apply frame_foldr
    | split

theorem slowEval_frame {P : Parts} {s0 : State} {s : State} (k : ℕ) (v : SrcVal) (qset : F32) (hs0 : Frame P s0 s) (h_regs : P.regs = true) (h_dic : P.dic = true) (h_mg : P.mg = true) (h_le : P.le = true) (h_pf : P.pf = true) :
    Frame P s0 (State.slowEval s k v qset) := by
  unfold State.slowEval
  repeat' first
    | with_reducible assumption
    | (intro sv; refine frame_cut (a := Frame P s0 sv) ?_ ?_; on_goal 2 => dsimp -zeta only [sv]; on_goal 1 => clear_value sv)
    | (intro sv; clear_value sv)
    | intro _
    | lift_lets -underBinder
    | with_reducible apply slowPause_frame
    | with_reducible apply setSlow_frame
    | with_reducible apply slowEnd_frame
    | with_reducible apply slowStart_frame
    | with_reducible apply frame_ite
    | with_reducible apply frame_foldl
    | with_reducible apply frame_foldr
    | split

theorem kFlow_frame {P : Parts} {s0 : State} {s : State} (hs0 : Frame P s0 s) (h_regs : P.regs = true) (h_pf : P.pf = true) :
    Frame P s0 (State.kFlow s) := by
  unfold State.kFlow
  repeat' first
    | with_reducible assumption
    | (intro sv; refine frame_cut (a := Frame P s0 sv) ?_ ?_; on_goal 2 => dsimp -zeta only [sv]; on_goal 1 => clear_value sv)
    | (intro sv; clear_value sv)
    | intro _
    | lift_lets -underBinder
    | with_reducible apply onPf_frame
    | with_reducible apply wr_frame
    | with_reducible apply frame_ite
    | with_reducible apply frame_foldl
    | with_reducible apply frame_foldr
    | split

theorem raiseStep_frame {P : Parts} {s0 : State} {s : State} (hs0 : Frame P s0 s) (h_pf : P.pf = true) :
    Frame P s0 (State.raiseStep s) := by
  unfold State.raiseStep
  repeat' first
    | with_reducible assumption
    | (intro sv; refine frame_cut (a := Frame P s0 sv) ?_ ?_; on_goal 2 => dsimp -zeta only [sv]; on_goal 1 => clear_value sv)
    | (intro sv; clear_value sv)
    | intro _
    | lift_lets -underBinder
    | with_reducible apply onPf_frame
    | with_reducible apply frame_ite
    | with_reducible apply frame_foldl
    | with_reducible apply frame_foldr
    | split

theorem slowAll_frame {P : Parts} {s0 : State} {s : State} (hs0 : Frame P s0 s) (h_regs : P.regs = true) (h_dic : P.dic = true) (h_mg : P.mg = true) (h_le : P.le = true) (h_pf : P.pf = true) :
    Frame P s0 (State.slowAll s) := by
  unfold State.slowAll
  repeat' first
    | with_reducible assumption
    | (intro sv; refine frame_cut (a := Frame P s0 sv) ?_ ?_; on_goal 2 => dsimp -zeta only [sv]; on_goal 1 => clear_value sv)
    | (intro sv; clear_value sv)
    | intro _
    | lift_lets -underBinder
    | with_reducible apply onPf_frame
    | with_reducible apply slowPause_frame
    | with_reducible apply slowDrop_frame
    | with_reducible apply slowEval_frame
    | with_reducible apply raiseStep_frame
    | with_reducible apply kFlow_frame
    | with_reducible apply frame_ite
    | with_reducible apply frame_foldl
    | with_reducible apply frame_foldr
    | split

theorem keepRunning_frame {P : Parts} {s0 : State} {s : State} (n : ℕ) (hs0 : Frame P s0 s) (h_regs : P.regs = true) (h_pf : P.pf = true) :
    Frame P s0 (State.keepRunning s n) := by
  unfold State.keepRunning
  repeat' first
    | with_reducible assumption
    | (intro sv; refine frame_cut (a := Frame P s0 sv) ?_ ?_; on_goal 2 => dsimp -zeta only [sv]; on_goal 1 => clear_value sv)
    | (intro sv; clear_value sv)
    | intro _
    | lift_lets -underBinder
    | with_reducible apply setPfCh_frame
    | with_reducible apply putBit_frame
    | with_reducible apply frame_ite
    | with_reducible apply frame_foldl
    | with_reducible apply frame_foldr
    | split

theorem pfShed_frame {P : Parts} {s0 : State} {s : State} (q : F32) (hs0 : Frame P s0 s) (h_regs : P.regs = true) (h_pf : P.pf = true) :
    Frame P s0 (State.pfShed s q) := by
  unfold State.pfShed
  repeat' first
    | with_reducible assumption
    | (intro sv; refine frame_cut (a := Frame P s0 sv) ?_ ?_; on_goal 2 => dsimp -zeta only [sv]; on_goal 1 => clear_value sv)
    | (intro sv; clear_value sv)
    | intro _
    | lift_lets -underBinder
    | with_reducible apply distribute_frame
    | with_reducible apply keepRunning_frame
    | with_reducible apply queuePump_frame
    | with_reducible apply setAo_frame
    | with_reducible apply onPf_frame
    | with_reducible apply frame_ite
    | with_reducible apply frame_foldl
    | with_reducible apply frame_foldr
    | split

theorem tableSetOf_frame {P : Parts} {s0 : State} {s : State} (p : ℕ) (hs0 : Frame P s0 s) (h_regs : P.regs = true) (h_pf : P.pf = true) :
    Frame P s0 (State.tableSetOf s p) := by
  unfold State.tableSetOf
  repeat' first
    | with_reducible assumption
    | (intro sv; refine frame_cut (a := Frame P s0 sv) ?_ ?_; on_goal 2 => dsimp -zeta only [sv]; on_goal 1 => clear_value sv)
    | (intro sv; clear_value sv)
    | intro _
    | lift_lets -underBinder
    | with_reducible apply onPf_frame
    | with_reducible apply putBit_frame
    | with_reducible apply wr_frame
    | with_reducible apply frame_ite
    | with_reducible apply frame_foldl
    | with_reducible apply frame_foldr
    | split

theorem controlSetOf_frame {P : Parts} {s0 : State} {s : State} (p : ℕ) (hs0 : Frame P s0 s) (h_regs : P.regs = true) :
    Frame P s0 (State.controlSetOf s p) := by
  unfold State.controlSetOf
  repeat' first
    | with_reducible assumption
    | (intro sv; refine frame_cut (a := Frame P s0 sv) ?_ ?_; on_goal 2 => dsimp -zeta only [sv]; on_goal 1 => clear_value sv)
    | (intro sv; clear_value sv)
    | intro _
    | lift_lets -underBinder
    | with_reducible apply wr_frame
    | with_reducible apply putBit_frame
    | with_reducible apply frame_ite
    | with_reducible apply frame_foldl
    | with_reducible apply frame_foldr
    | split

theorem toTableSet_frame {P : Parts} {s0 : State} {s : State} (hs0 : Frame P s0 s) (h_regs : P.regs = true) (h_sys : P.sys = true) (h_pf : P.pf = true) :
    Frame P s0 (State.toTableSet s) := by
  unfold State.toTableSet
  repeat' first
    | with_reducible assumption
    | (intro sv; refine frame_cut (a := Frame P s0 sv) ?_ ?_; on_goal 2 => dsimp -zeta only [sv]; on_goal 1 => clear_value sv)
    | (intro sv; clear_value sv)
    | intro _
    | lift_lets -underBinder
    | with_reducible apply tableSetOf_frame
    | with_reducible apply onSys_frame
    | with_reducible apply frame_ite
    | with_reducible apply frame_foldl
    | with_reducible apply frame_foldr
    | split

theorem toControlSet_frame {P : Parts} {s0 : State} {s : State} (hs0 : Frame P s0 s) (h_regs : P.regs = true) (h_sys : P.sys = true) (h_pf : P.pf = true) :
    Frame P s0 (State.toControlSet s) := by
  unfold State.toControlSet
  repeat' first
    | with_reducible assumption
    | (intro sv; refine frame_cut (a := Frame P s0 sv) ?_ ?_; on_goal 2 => dsimp -zeta only [sv]; on_goal 1 => clear_value sv)
    | (intro sv; clear_value sv)
    | intro _
    | lift_lets -underBinder
    | with_reducible apply controlSetOf_frame
    | with_reducible apply onPf_frame
    | with_reducible apply onSys_frame
    | with_reducible apply frame_ite
    | with_reducible apply frame_foldl
    | with_reducible apply frame_foldr
    | split

theorem isoLoop_frame {P : Parts} {s0 : State} {s : State} (r : ℕ) (hs0 : Frame P s0 s) (h_regs : P.regs = true) (h_pf : P.pf = true) :
    Frame P s0 (State.isoLoop s r) := by
  unfold State.isoLoop
  repeat' first
    | with_reducible assumption
    | (intro sv; refine frame_cut (a := Frame P s0 sv) ?_ ?_; on_goal 2 => dsimp -zeta only [sv]; on_goal 1 => clear_value sv)
    | (intro sv; clear_value sv)
    | intro _
    | lift_lets -underBinder
    | with_reducible apply onPf_frame
    | with_reducible apply putBit_frame
    | with_reducible apply wr_frame
    | with_reducible apply frame_ite
    | with_reducible apply frame_foldl
    | with_reducible apply frame_foldr
    | split

theorem isoEnd_frame {P : Parts} {s0 : State} {s : State} (r : ℕ) (hs0 : Frame P s0 s) (h_regs : P.regs = true) (h_pf : P.pf = true) :
    Frame P s0 (State.isoEnd s r) := by
  unfold State.isoEnd
  repeat' first
    | with_reducible assumption
    | (intro sv; refine frame_cut (a := Frame P s0 sv) ?_ ?_; on_goal 2 => dsimp -zeta only [sv]; on_goal 1 => clear_value sv)
    | (intro sv; clear_value sv)
    | intro _
    | lift_lets -underBinder
    | with_reducible apply onPf_frame
    | with_reducible apply putBit_frame
    | with_reducible apply wr_frame
    | with_reducible apply frame_ite
    | with_reducible apply frame_foldl
    | with_reducible apply frame_foldr
    | split

theorem setCal_frame {P : Parts} {s0 : State} {s : State} (r : ℕ) (x : CalRack) (hs0 : Frame P s0 s) (h_pf : P.pf = true) :
    Frame P s0 (State.setCal s r x) := by
  unfold State.setCal
  repeat' first
    | with_reducible assumption
    | (intro sv; refine frame_cut (a := Frame P s0 sv) ?_ ?_; on_goal 2 => dsimp -zeta only [sv]; on_goal 1 => clear_value sv)
    | (intro sv; clear_value sv)
    | intro _
    | lift_lets -underBinder
    | with_reducible apply onPf_frame
    | with_reducible apply frame_ite
    | with_reducible apply frame_foldl
    | with_reducible apply frame_foldr
    | split

theorem markSuspect_frame {P : Parts} {s0 : State} {s : State} (code : ℕ) (b : Bool) (hs0 : Frame P s0 s) (h_regs : P.regs = true) :
    Frame P s0 (State.markSuspect s code b) := by
  unfold State.markSuspect
  repeat' first
    | with_reducible assumption
    | (intro sv; refine frame_cut (a := Frame P s0 sv) ?_ ?_; on_goal 2 => dsimp -zeta only [sv]; on_goal 1 => clear_value sv)
    | (intro sv; clear_value sv)
    | intro _
    | lift_lets -underBinder
    | with_reducible apply putBit_frame
    | with_reducible apply frame_ite
    | with_reducible apply frame_foldl
    | with_reducible apply frame_foldr
    | split

theorem calSave_frame {P : Parts} {s0 : State} {s : State} (hs0 : Frame P s0 s) (h_mg : P.mg = true) (h_pf : P.pf = true) :
    Frame P s0 (State.calSave s) := by
  unfold State.calSave
  repeat' first
    | with_reducible assumption
    | (intro sv; refine frame_cut (a := Frame P s0 sv) ?_ ?_; on_goal 2 => dsimp -zeta only [sv]; on_goal 1 => clear_value sv)
    | (intro sv; clear_value sv)
    | intro _
    | lift_lets -underBinder
    | with_reducible apply onMg_frame
    | with_reducible apply onPf_frame
    | with_reducible apply frame_ite
    | with_reducible apply frame_foldl
    | with_reducible apply frame_foldr
    | split

theorem calGain_frame {P : Parts} {s0 : State} {s : State} (r : ℕ) (pRep : F32) (vRaw : F32) (tSup : F32) (tRet : F32) (hs0 : Frame P s0 s) (h_regs : P.regs = true) (h_dic : P.dic = true) (h_mg : P.mg = true) (h_le : P.le = true) (h_pf : P.pf = true) :
    Frame P s0 (State.calGain s r pRep vRaw tSup tRet) := by
  unfold State.calGain
  repeat' first
    | with_reducible assumption
    | (intro sv; refine frame_cut (a := Frame P s0 sv) ?_ ?_; on_goal 2 => dsimp -zeta only [sv]; on_goal 1 => clear_value sv)
    | (intro sv; clear_value sv)
    | intro _
    | lift_lets -underBinder
    | with_reducible apply note_frame
    | with_reducible apply calSave_frame
    | with_reducible apply markSuspect_frame
    | with_reducible apply setCal_frame
    | with_reducible apply log_frame
    | with_reducible apply wrf_frame
    | with_reducible apply frame_ite
    | with_reducible apply frame_foldl
    | with_reducible apply frame_foldr
    | split

theorem calOffset_frame {P : Parts} {s0 : State} {s : State} (r : ℕ) (which : ℕ) (reading : F32) (ref : F32) (hs0 : Frame P s0 s) (h_regs : P.regs = true) (h_dic : P.dic = true) (h_mg : P.mg = true) (h_le : P.le = true) (h_pf : P.pf = true) :
    Frame P s0 (State.calOffset s r which reading ref) := by
  unfold State.calOffset
  repeat' first
    | with_reducible assumption
    | (intro sv; refine frame_cut (a := Frame P s0 sv) ?_ ?_; on_goal 2 => dsimp -zeta only [sv]; on_goal 1 => clear_value sv)
    | (intro sv; clear_value sv)
    | intro _
    | lift_lets -underBinder
    | with_reducible apply setCal_frame
    | with_reducible apply note_frame
    | with_reducible apply calSave_frame
    | with_reducible apply markSuspect_frame
    | with_reducible apply log_frame
    | with_reducible apply wrf_frame
    | with_reducible apply frame_ite
    | with_reducible apply frame_foldl
    | with_reducible apply frame_foldr
    | split

theorem calStep_frame {P : Parts} {s0 : State} {s : State} (r : ℕ) (i : ℕ) (f : RF) (v : F32) (hs0 : Frame P s0 s) (h_regs : P.regs = true) (h_mg : P.mg = true) :
    Frame P s0 (State.calStep s r i f v) := by
  unfold State.calStep
  repeat' first
    | with_reducible assumption
    | (intro sv; refine frame_cut (a := Frame P s0 sv) ?_ ?_; on_goal 2 => dsimp -zeta only [sv]; on_goal 1 => clear_value sv)
    | (intro sv; clear_value sv)
    | intro _
    | lift_lets -underBinder
    | with_reducible apply log_frame
    | with_reducible apply wrf_frame
    | with_reducible apply frame_ite
    | with_reducible apply frame_foldl
    | with_reducible apply frame_foldr
    | split

theorem calReset_frame {P : Parts} {s0 : State} {s : State} (r : ℕ) (hs0 : Frame P s0 s) (h_regs : P.regs = true) (h_mg : P.mg = true) (h_pf : P.pf = true) :
    Frame P s0 (State.calReset s r) := by
  unfold State.calReset
  repeat' first
    | with_reducible assumption
    | (intro sv; refine frame_cut (a := Frame P s0 sv) ?_ ?_; on_goal 2 => dsimp -zeta only [sv]; on_goal 1 => clear_value sv)
    | (intro sv; clear_value sv)
    | intro _
    | lift_lets -underBinder
    | with_reducible apply calStep_frame
    | with_reducible apply setCal_frame
    | with_reducible apply frame_ite
    | with_reducible apply frame_foldl
    | with_reducible apply frame_foldr
    | split

theorem calSteady_frame {P : Parts} {s0 : State} {s : State} (r : ℕ) (pRep : F32) (vRaw : F32) (hold : Bool) (hs0 : Frame P s0 s) (h_pf : P.pf = true) :
    Frame P s0 (State.calSteady s r pRep vRaw hold) := by
  unfold State.calSteady
  repeat' first
    | with_reducible assumption
    | (intro sv; refine frame_cut (a := Frame P s0 sv) ?_ ?_; on_goal 2 => dsimp -zeta only [sv]; on_goal 1 => clear_value sv)
    | (intro sv; clear_value sv)
    | intro _
    | lift_lets -underBinder
    | with_reducible apply setCal_frame
    | with_reducible apply frame_ite
    | with_reducible apply frame_foldl
    | with_reducible apply frame_foldr
    | split

theorem calRestart_frame {P : Parts} {s0 : State} {s : State} (r : ℕ) (hs0 : Frame P s0 s) (h_pf : P.pf = true) :
    Frame P s0 (State.calRestart s r) := by
  unfold State.calRestart
  repeat' first
    | with_reducible assumption
    | (intro sv; refine frame_cut (a := Frame P s0 sv) ?_ ?_; on_goal 2 => dsimp -zeta only [sv]; on_goal 1 => clear_value sv)
    | (intro sv; clear_value sv)
    | intro _
    | lift_lets -underBinder
    | with_reducible apply setCal_frame
    | with_reducible apply frame_ite
    | with_reducible apply frame_foldl
    | with_reducible apply frame_foldr
    | split

theorem calWatch_frame {P : Parts} {s0 : State} {s : State} (hs0 : Frame P s0 s) (h_pf : P.pf = true) :
    Frame P s0 (State.calWatch s) := by
  unfold State.calWatch
  repeat' first
    | with_reducible assumption
    | (intro sv; refine frame_cut (a := Frame P s0 sv) ?_ ?_; on_goal 2 => dsimp -zeta only [sv]; on_goal 1 => clear_value sv)
    | (intro sv; clear_value sv)
    | intro _
    | lift_lets -underBinder
    | with_reducible apply calRestart_frame
    | with_reducible apply frame_ite
    | with_reducible apply frame_foldl
    | with_reducible apply frame_foldr
    | split

theorem headerMean_frame {P : Parts} {s0 : State} {s : State} (ref : F32) (hs0 : Frame P s0 s) (h_pf : P.pf = true) :
    Frame P s0 (State.headerMean s ref) := by
  unfold State.headerMean
  repeat' first
    | with_reducible assumption
    | (intro sv; refine frame_cut (a := Frame P s0 sv) ?_ ?_; on_goal 2 => dsimp -zeta only [sv]; on_goal 1 => clear_value sv)
    | (intro sv; clear_value sv)
    | intro _
    | lift_lets -underBinder
    | with_reducible apply onPf_frame
    | with_reducible apply frame_ite
    | with_reducible apply frame_foldl
    | with_reducible apply frame_foldr
    | split

theorem calMinute_frame {P : Parts} {s0 : State} {s : State} (r : ℕ) (pRep : F32) (vRaw : F32) (tSup : F32) (tRet : F32) (ref : F32) (hs0 : Frame P s0 s) (h_regs : P.regs = true) (h_dic : P.dic = true) (h_mg : P.mg = true) (h_le : P.le = true) (h_pf : P.pf = true) :
    Frame P s0 (State.calMinute s r pRep vRaw tSup tRet ref) := by
  unfold State.calMinute
  repeat' first
    | with_reducible assumption
    | (intro sv; refine frame_cut (a := Frame P s0 sv) ?_ ?_; on_goal 2 => dsimp -zeta only [sv]; on_goal 1 => clear_value sv)
    | (intro sv; clear_value sv)
    | intro _
    | lift_lets -underBinder
    | with_reducible apply onPf_frame
    | with_reducible apply headerMean_frame
    | with_reducible apply calReset_frame
    | with_reducible apply setCal_frame
    | with_reducible apply calSteady_frame
    | with_reducible apply calOffset_frame
    | with_reducible apply calGain_frame
    | with_reducible apply frame_ite
    | with_reducible apply frame_foldl
    | with_reducible apply frame_foldr
    | split

theorem pfFrame_frame {P : Parts} {s0 : State} {s : State} (hs0 : Frame P s0 s) (h_regs : P.regs = true) (h_pf : P.pf = true) :
    Frame P s0 (State.pfFrame s) := by
  unfold State.pfFrame
  repeat' first
    | with_reducible assumption
    | (intro sv; refine frame_cut (a := Frame P s0 sv) ?_ ?_; on_goal 2 => dsimp -zeta only [sv]; on_goal 1 => clear_value sv)
    | (intro sv; clear_value sv)
    | intro _
    | lift_lets -underBinder
    | with_reducible apply learn_frame
    | with_reducible apply calWatch_frame
    | with_reducible apply pmStatus_frame
    | with_reducible apply runTime_frame
    | with_reducible apply frame_ite
    | with_reducible apply frame_foldl
    | with_reducible apply frame_foldr
    | split

end Sys2Proof.Machine
end

