-- ==== Sys2Proof/Laws/VatFrame.lean ====
section
/-! SUPPORT. What the operations of Machine/Vat.lean may touch, and that they keep the memories canonical. -/

namespace Sys2Proof.Machine

theorem setIq_frame {P : Parts} {s0 : State} {s : State} (q : ℕ) (x : IQ) (hs0 : Frame P s0 s) (h_regs : P.regs = true) (h_vq : P.vq = true) :
    Frame P s0 (State.setIq s q x) := by
  unfold State.setIq
  repeat' first
    | with_reducible assumption
    | (intro sv; refine frame_cut (a := Frame P s0 sv) ?_ ?_; on_goal 2 => dsimp -zeta only [sv]; on_goal 1 => clear_value sv)
    | (intro sv; clear_value sv)
    | intro _
    | lift_lets -underBinder
    | with_reducible apply onVq_frame
    | with_reducible apply wr_frame
    | with_reducible apply putBit_frame
    | with_reducible apply frame_ite
    | with_reducible apply frame_foldl
    | with_reducible apply frame_foldr
    | split

theorem relevel_frame {P : Parts} {s0 : State} {s : State} (q : ℕ) (hs0 : Frame P s0 s) (h_regs : P.regs = true) :
    Frame P s0 (State.relevel s q) := by
  unfold State.relevel
  repeat' first
    | with_reducible assumption
    | (intro sv; refine frame_cut (a := Frame P s0 sv) ?_ ?_; on_goal 2 => dsimp -zeta only [sv]; on_goal 1 => clear_value sv)
    | (intro sv; clear_value sv)
    | intro _
    | lift_lets -underBinder
    | with_reducible apply putBit_frame
    | with_reducible apply frame_ite
    | with_reducible apply frame_foldl
    | with_reducible apply frame_foldr
    | split

theorem setSq_frame {P : Parts} {s0 : State} {s : State} (q : ℕ) (x : SQ) (hs0 : Frame P s0 s) (h_regs : P.regs = true) (h_dic : P.dic = true) (h_vq : P.vq = true) (h_le : P.le = true) :
    Frame P s0 (State.setSq s q x) := by
  unfold State.setSq
  repeat' first
    | with_reducible assumption
    | (intro sv; refine frame_cut (a := Frame P s0 sv) ?_ ?_; on_goal 2 => dsimp -zeta only [sv]; on_goal 1 => clear_value sv)
    | (intro sv; clear_value sv)
    | intro _
    | lift_lets -underBinder
    | with_reducible apply onVq_frame
    | with_reducible apply putBit_frame
    | with_reducible apply wr_frame
    | with_reducible apply post_frame
    | with_reducible apply frame_ite
    | with_reducible apply frame_foldl
    | with_reducible apply frame_foldr
    | split

theorem raiseGrant_frame {P : Parts} {s0 : State} {s : State} (c : ℕ) (hs0 : Frame P s0 s) (h_regs : P.regs = true) :
    Frame P s0 (State.raiseGrant s c) := by
  unfold State.raiseGrant
  repeat' first
    | with_reducible assumption
    | (intro sv; refine frame_cut (a := Frame P s0 sv) ?_ ?_; on_goal 2 => dsimp -zeta only [sv]; on_goal 1 => clear_value sv)
    | (intro sv; clear_value sv)
    | intro _
    | lift_lets -underBinder
    | with_reducible apply wr_frame
    | with_reducible apply frame_ite
    | with_reducible apply frame_foldl
    | with_reducible apply frame_foldr
    | split

theorem returnLines_frame {P : Parts} {s0 : State} {s : State} (c : ℕ) (n : ℕ) (hs0 : Frame P s0 s) (h_regs : P.regs = true) :
    Frame P s0 (State.returnLines s c n) := by
  unfold State.returnLines
  repeat' first
    | with_reducible assumption
    | (intro sv; refine frame_cut (a := Frame P s0 sv) ?_ ?_; on_goal 2 => dsimp -zeta only [sv]; on_goal 1 => clear_value sv)
    | (intro sv; clear_value sv)
    | intro _
    | lift_lets -underBinder
    | with_reducible apply raiseGrant_frame
    | with_reducible apply wr_frame
    | with_reducible apply frame_ite
    | with_reducible apply frame_foldl
    | with_reducible apply frame_foldr
    | split

theorem returnAll_frame {P : Parts} {s0 : State} {s : State} (ls : List VLine) (hs0 : Frame P s0 s) (h_regs : P.regs = true) :
    Frame P s0 (State.returnAll s ls) := by
  unfold State.returnAll
  repeat' first
    | with_reducible assumption
    | (intro sv; refine frame_cut (a := Frame P s0 sv) ?_ ?_; on_goal 2 => dsimp -zeta only [sv]; on_goal 1 => clear_value sv)
    | (intro sv; clear_value sv)
    | intro _
    | lift_lets -underBinder
    | with_reducible apply returnLines_frame
    | with_reducible apply frame_ite
    | with_reducible apply frame_foldl
    | with_reducible apply frame_foldr
    | split

theorem setAsm_frame {P : Parts} {s0 : State} {s : State} (a : ℕ) (x : Asm) (hs0 : Frame P s0 s) (h_vq : P.vq = true) :
    Frame P s0 (State.setAsm s a x) := by
  unfold State.setAsm
  repeat' first
    | with_reducible assumption
    | (intro sv; refine frame_cut (a := Frame P s0 sv) ?_ ?_; on_goal 2 => dsimp -zeta only [sv]; on_goal 1 => clear_value sv)
    | (intro sv; clear_value sv)
    | intro _
    | lift_lets -underBinder
    | with_reducible apply onVq_frame
    | with_reducible apply frame_ite
    | with_reducible apply frame_foldl
    | with_reducible apply frame_foldr
    | split

theorem cutAsm_frame {P : Parts} {s0 : State} {s : State} (a : ℕ) (hs0 : Frame P s0 s) (h_regs : P.regs = true) (h_vq : P.vq = true) :
    Frame P s0 (State.cutAsm s a) := by
  unfold State.cutAsm
  repeat' first
    | with_reducible assumption
    | (intro sv; refine frame_cut (a := Frame P s0 sv) ?_ ?_; on_goal 2 => dsimp -zeta only [sv]; on_goal 1 => clear_value sv)
    | (intro sv; clear_value sv)
    | intro _
    | lift_lets -underBinder
    | with_reducible apply incSat_frame
    | with_reducible apply returnLines_frame
    | with_reducible apply setAsm_frame
    | with_reducible apply frame_ite
    | with_reducible apply frame_foldl
    | with_reducible apply frame_foldr
    | split

theorem commitLines_frame {P : Parts} {s0 : State} {s : State} (r : TRec) (late : Bool) (hs0 : Frame P s0 s) (h_regs : P.regs = true) (h_dic : P.dic = true) (h_vq : P.vq = true) (h_le : P.le = true) :
    Frame P s0 (State.commitLines s r late) := by
  unfold State.commitLines
  repeat' first
    | with_reducible assumption
    | (intro sv; refine frame_cut (a := Frame P s0 sv) ?_ ?_; on_goal 2 => dsimp -zeta only [sv]; on_goal 1 => clear_value sv)
    | (intro sv; clear_value sv)
    | intro _
    | lift_lets -underBinder
    | with_reducible apply addSat_frame
    | with_reducible apply returnAll_frame
    | with_reducible apply post_frame
    | with_reducible apply setIq_frame
    | with_reducible apply frame_ite
    | with_reducible apply frame_foldl
    | with_reducible apply frame_foldr
    | split

theorem commitRec_frame {P : Parts} {s0 : State} {s : State} (r : TRec) (hs0 : Frame P s0 s) (h_regs : P.regs = true) (h_dic : P.dic = true) (h_vq : P.vq = true) (h_le : P.le = true) (h_tw : P.tw = true) :
    Frame P s0 (State.commitRec s r) := by
  unfold State.commitRec
  repeat' first
    | with_reducible assumption
    | (intro sv; refine frame_cut (a := Frame P s0 sv) ?_ ?_; on_goal 2 => dsimp -zeta only [sv]; on_goal 1 => clear_value sv)
    | (intro sv; clear_value sv)
    | intro _
    | lift_lets -underBinder
    | with_reducible apply commitLines_frame
    | with_reducible apply forward_frame
    | with_reducible apply frame_ite
    | with_reducible apply frame_foldl
    | with_reducible apply frame_foldr
    | split

theorem headerWord_frame {P : Parts} {s0 : State} {s : State} (a : ℕ) (h : ℕ) (hs0 : Frame P s0 s) (h_regs : P.regs = true) (h_vq : P.vq = true) :
    Frame P s0 (State.headerWord s a h) := by
  unfold State.headerWord
  repeat' first
    | with_reducible assumption
    | (intro sv; refine frame_cut (a := Frame P s0 sv) ?_ ?_; on_goal 2 => dsimp -zeta only [sv]; on_goal 1 => clear_value sv)
    | (intro sv; clear_value sv)
    | intro _
    | lift_lets -underBinder
    | with_reducible apply cutAsm_frame
    | with_reducible apply incSat_frame
    | with_reducible apply setAsm_frame
    | with_reducible apply wr_frame
    | with_reducible apply addSat_frame
    | with_reducible apply frame_ite
    | with_reducible apply frame_foldl
    | with_reducible apply frame_foldr
    | split

theorem bodyWord_frame {P : Parts} {s0 : State} {s : State} (a : ℕ) (k : ℕ) (v : ℕ) (hs0 : Frame P s0 s) (h_regs : P.regs = true) (h_vq : P.vq = true) :
    Frame P s0 (State.bodyWord s a k v) := by
  unfold State.bodyWord
  repeat' first
    | with_reducible assumption
    | (intro sv; refine frame_cut (a := Frame P s0 sv) ?_ ?_; on_goal 2 => dsimp -zeta only [sv]; on_goal 1 => clear_value sv)
    | (intro sv; clear_value sv)
    | intro _
    | lift_lets -underBinder
    | with_reducible apply incSat_frame
    | with_reducible apply setAsm_frame
    | with_reducible apply frame_ite
    | with_reducible apply frame_foldl
    | with_reducible apply frame_foldr
    | split

theorem asmPut_frame {P : Parts} {s0 : State} {s : State} (a : ℕ) (k : ℕ) (v : ℕ) (hs0 : Frame P s0 s) (h_regs : P.regs = true) (h_vq : P.vq = true) :
    Frame P s0 (State.asmPut s a k v) := by
  unfold State.asmPut
  repeat' first
    | with_reducible assumption
    | (intro sv; refine frame_cut (a := Frame P s0 sv) ?_ ?_; on_goal 2 => dsimp -zeta only [sv]; on_goal 1 => clear_value sv)
    | (intro sv; clear_value sv)
    | intro _
    | lift_lets -underBinder
    | with_reducible apply headerWord_frame
    | with_reducible apply bodyWord_frame
    | with_reducible apply frame_ite
    | with_reducible apply frame_foldl
    | with_reducible apply frame_foldr
    | split

theorem asmCommit_frame {P : Parts} {s0 : State} {s : State} (a : ℕ) (hs0 : Frame P s0 s) (h_regs : P.regs = true) (h_dic : P.dic = true) (h_vq : P.vq = true) (h_le : P.le = true) (h_tw : P.tw = true) :
    Frame P s0 (State.asmCommit s a) := by
  unfold State.asmCommit
  repeat' first
    | with_reducible assumption
    | (intro sv; refine frame_cut (a := Frame P s0 sv) ?_ ?_; on_goal 2 => dsimp -zeta only [sv]; on_goal 1 => clear_value sv)
    | (intro sv; clear_value sv)
    | intro _
    | lift_lets -underBinder
    | with_reducible apply commitRec_frame
    | with_reducible apply setAsm_frame
    | with_reducible apply frame_ite
    | with_reducible apply frame_foldl
    | with_reducible apply frame_foldr
    | split

theorem asmWords_frame {P : Parts} {s0 : State} {s : State} (a : ℕ) (k : ℕ) (done : Option ℕ) (x4 : ℕ) (x5 : List Byte) (hs0 : Frame P s0 s) (h_regs : P.regs = true) (h_dic : P.dic = true) (h_vq : P.vq = true) (h_le : P.le = true) (h_tw : P.tw = true) :
    Frame P s0 (State.asmWords s a k done x4 x5) := by
  induction x4 generalizing s a k done x5 with
  | zero => rw [State.asmWords]; assumption
  | succ n ih =>
    rw [State.asmWords]
    repeat' first
      | with_reducible assumption
      | (intro sv; refine frame_cut (a := Frame P s0 sv) ?_ ?_; on_goal 2 => dsimp -zeta only [sv]; on_goal 1 => clear_value sv)
      | (intro sv; clear_value sv)
      | intro _
      | lift_lets -underBinder
      | with_reducible apply ih
      | with_reducible apply incSat_frame
      | with_reducible apply asmPut_frame
      | with_reducible apply asmCommit_frame
      | with_reducible apply frame_ite
      | with_reducible apply frame_foldl
      | with_reducible apply frame_foldr
      | split

theorem execBar2Write_answers {P : Parts} {s0 : State} (off : ℕ) (bytes : List (BitVec 8)) {s : State} (hs0 : Frame P s0 s) (h_regs : P.regs = true) (h_dic : P.dic = true) (h_vq : P.vq = true) (h_le : P.le = true) (h_tw : P.tw = true) :
    Answers P s0 (execBar2Write off bytes s) := by
  unfold execBar2Write
  repeat' first
    | with_reducible assumption
    | (intro sv; refine frame_cut (a := Frame P s0 sv) ?_ ?_; on_goal 2 => dsimp -zeta only [sv]; on_goal 1 => clear_value sv)
    | (intro sv; clear_value sv)
    | intro _
    | with_reducible apply answers_next
    | with_reducible apply answers_ite
    | lift_lets -underBinder
    | with_reducible apply incSat_frame
    | with_reducible apply same_answers
    | with_reducible apply asmWords_frame
    | with_reducible apply frame_ite
    | with_reducible apply frame_foldl
    | with_reducible apply frame_foldr
    | split

theorem ingestTimeout_frame {P : Parts} {s0 : State} {s : State} (c : ℕ) (a : ℕ) (hs0 : Frame P s0 s) (h_regs : P.regs = true) (h_mg : P.mg = true) (h_vq : P.vq = true) :
    Frame P s0 (State.ingestTimeout s c a) := by
  unfold State.ingestTimeout
  repeat' first
    | with_reducible assumption
    | (intro sv; refine frame_cut (a := Frame P s0 sv) ?_ ?_; on_goal 2 => dsimp -zeta only [sv]; on_goal 1 => clear_value sv)
    | (intro sv; clear_value sv)
    | intro _
    | lift_lets -underBinder
    | with_reducible apply setAsm_frame
    | with_reducible apply log_frame
    | with_reducible apply cutAsm_frame
    | with_reducible apply frame_ite
    | with_reducible apply frame_foldl
    | with_reducible apply frame_foldr
    | split

theorem sampleTimeout_frame {P : Parts} {s0 : State} {s : State} (q : ℕ) (hs0 : Frame P s0 s) (h_regs : P.regs = true) (h_dic : P.dic = true) (h_mg : P.mg = true) (h_vq : P.vq = true) (h_le : P.le = true) :
    Frame P s0 (State.sampleTimeout s q) := by
  unfold State.sampleTimeout
  repeat' first
    | with_reducible assumption
    | (intro sv; refine frame_cut (a := Frame P s0 sv) ?_ ?_; on_goal 2 => dsimp -zeta only [sv]; on_goal 1 => clear_value sv)
    | (intro sv; clear_value sv)
    | intro _
    | lift_lets -underBinder
    | with_reducible apply log_frame
    | with_reducible apply incSat_frame
    | with_reducible apply setSq_frame
    | with_reducible apply frame_ite
    | with_reducible apply frame_foldl
    | with_reducible apply frame_foldr
    | split

theorem execPacketTimeout_answers {P : Parts} {s0 : State} (p : PktRef) (slotB : Bool) {s : State} (hs0 : Frame P s0 s) (h_regs : P.regs = true) (h_dic : P.dic = true) (h_mg : P.mg = true) (h_vq : P.vq = true) (h_le : P.le = true) :
    Answers P s0 (execPacketTimeout p slotB s) := by
  unfold execPacketTimeout
  repeat' first
    | with_reducible assumption
    | (intro sv; refine frame_cut (a := Frame P s0 sv) ?_ ?_; on_goal 2 => dsimp -zeta only [sv]; on_goal 1 => clear_value sv)
    | (intro sv; clear_value sv)
    | intro _
    | with_reducible apply answers_next
    | with_reducible apply answers_ite
    | lift_lets -underBinder
    | with_reducible apply ingestTimeout_frame
    | with_reducible apply sampleTimeout_frame
    | with_reducible apply frame_ite
    | with_reducible apply frame_foldl
    | with_reducible apply frame_foldr
    | split

theorem ingestSwap_frame {P : Parts} {s0 : State} {s : State} (hs0 : Frame P s0 s) (h_regs : P.regs = true) (h_vq : P.vq = true) :
    Frame P s0 (State.ingestSwap s) := by
  unfold State.ingestSwap
  repeat' first
    | with_reducible assumption
    | (intro sv; refine frame_cut (a := Frame P s0 sv) ?_ ?_; on_goal 2 => dsimp -zeta only [sv]; on_goal 1 => clear_value sv)
    | (intro sv; clear_value sv)
    | intro _
    | lift_lets -underBinder
    | with_reducible apply setIq_frame
    | with_reducible apply onVq_frame
    | with_reducible apply frame_ite
    | with_reducible apply frame_foldl
    | with_reducible apply frame_foldr
    | split

theorem stampOver_frame {P : Parts} {s0 : State} {s : State} (c : ℕ) (hs0 : Frame P s0 s) (h_pb : P.pb = true) :
    Frame P s0 (State.stampOver s c) := by
  unfold State.stampOver
  repeat' first
    | with_reducible assumption
    | (intro sv; refine frame_cut (a := Frame P s0 sv) ?_ ?_; on_goal 2 => dsimp -zeta only [sv]; on_goal 1 => clear_value sv)
    | (intro sv; clear_value sv)
    | intro _
    | lift_lets -underBinder
    | with_reducible apply setPbCtx_frame
    | with_reducible apply frame_ite
    | with_reducible apply frame_foldl
    | with_reducible apply frame_foldr
    | split

theorem setSlot_frame {P : Parts} {s0 : State} {s : State} (k : ℕ) (x : LSlot) (hs0 : Frame P s0 s) (h_le : P.le = true) :
    Frame P s0 (State.setSlot s k x) := by
  unfold State.setSlot
  repeat' first
    | with_reducible assumption
    | (intro sv; refine frame_cut (a := Frame P s0 sv) ?_ ?_; on_goal 2 => dsimp -zeta only [sv]; on_goal 1 => clear_value sv)
    | (intro sv; clear_value sv)
    | intro _
    | lift_lets -underBinder
    | with_reducible apply onLe_frame
    | with_reducible apply frame_ite
    | with_reducible apply frame_foldl
    | with_reducible apply frame_foldr
    | split

theorem deliver_frame {P : Parts} {s0 : State} {s : State} (c : ℕ) (r : TRec) (hs0 : Frame P s0 s) (h_regs : P.regs = true) (h_vq : P.vq = true) (h_le : P.le = true) (h_tw : P.tw = true) :
    Frame P s0 (State.deliver s c r) := by
  unfold State.deliver
  repeat' first
    | with_reducible assumption
    | (intro sv; refine frame_cut (a := Frame P s0 sv) ?_ ?_; on_goal 2 => dsimp -zeta only [sv]; on_goal 1 => clear_value sv)
    | (intro sv; clear_value sv)
    | intro _
    | lift_lets -underBinder
    | with_reducible apply onVq_frame
    | with_reducible apply wr64_frame
    | with_reducible apply wr_frame
    | with_reducible apply putBit_frame
    | with_reducible apply setSlot_frame
    | with_reducible apply forward_frame
    | with_reducible apply frame_ite
    | with_reducible apply frame_foldl
    | with_reducible apply frame_foldr
    | split

theorem missRecord_frame {P : Parts} {s0 : State} {s : State} (c : ℕ) (hs0 : Frame P s0 s) (h_vq : P.vq = true) :
    Frame P s0 (State.missRecord s c) := by
  unfold State.missRecord
  repeat' first
    | with_reducible assumption
    | (intro sv; refine frame_cut (a := Frame P s0 sv) ?_ ?_; on_goal 2 => dsimp -zeta only [sv]; on_goal 1 => clear_value sv)
    | (intro sv; clear_value sv)
    | intro _
    | lift_lets -underBinder
    | with_reducible apply onVq_frame
    | with_reducible apply frame_ite
    | with_reducible apply frame_foldl
    | with_reducible apply frame_foldr
    | split

theorem unpack_frame {P : Parts} {s0 : State} {s : State} (hs0 : Frame P s0 s) (h_regs : P.regs = true) (h_mg : P.mg = true) (h_pb : P.pb = true) (h_vq : P.vq = true) (h_le : P.le = true) (h_tw : P.tw = true) :
    Frame P s0 (State.unpack s) := by
  unfold State.unpack
  repeat' first
    | with_reducible assumption
    | (intro sv; refine frame_cut (a := Frame P s0 sv) ?_ ?_; on_goal 2 => dsimp -zeta only [sv]; on_goal 1 => clear_value sv)
    | (intro sv; clear_value sv)
    | intro _
    | lift_lets -underBinder
    | with_reducible apply setIq_frame
    | with_reducible apply returnAll_frame
    | with_reducible apply addSat_frame
    | with_reducible apply onVq_frame
    | with_reducible apply stampOver_frame
    | with_reducible apply deliver_frame
    | with_reducible apply missRecord_frame
    | with_reducible apply confirmCaps_frame
    | with_reducible apply frame_ite
    | with_reducible apply frame_foldl
    | with_reducible apply frame_foldr
    | split

theorem execUnpackComplete_answers {P : Parts} {s0 : State} {s : State} (hs0 : Frame P s0 s) (h_regs : P.regs = true) (h_mg : P.mg = true) (h_pb : P.pb = true) (h_vq : P.vq = true) (h_le : P.le = true) (h_tw : P.tw = true) :
    Answers P s0 (execUnpackComplete s) := by
  unfold execUnpackComplete
  repeat' first
    | with_reducible assumption
    | (intro sv; refine frame_cut (a := Frame P s0 sv) ?_ ?_; on_goal 2 => dsimp -zeta only [sv]; on_goal 1 => clear_value sv)
    | (intro sv; clear_value sv)
    | intro _
    | with_reducible apply answers_next
    | with_reducible apply answers_ite
    | lift_lets -underBinder
    | with_reducible apply unpack_frame
    | with_reducible apply same_answers
    | with_reducible apply frame_ite
    | with_reducible apply frame_foldl
    | with_reducible apply frame_foldr
    | split

theorem samplePacketAt_frame {P : Parts} {s0 : State} {s : State} (q : ℕ) (stream : ℕ) (stamp : ℕ) (payload : List ℕ) (hs0 : Frame P s0 s) (h_regs : P.regs = true) (h_dic : P.dic = true) (h_vq : P.vq = true) (h_le : P.le = true) :
    Frame P s0 (State.samplePacketAt s q stream stamp payload) := by
  unfold State.samplePacketAt
  repeat' first
    | with_reducible assumption
    | (intro sv; refine frame_cut (a := Frame P s0 sv) ?_ ?_; on_goal 2 => dsimp -zeta only [sv]; on_goal 1 => clear_value sv)
    | (intro sv; clear_value sv)
    | intro _
    | lift_lets -underBinder
    | with_reducible apply incSat_frame
    | with_reducible apply setSq_frame
    | with_reducible apply frame_ite
    | with_reducible apply frame_foldl
    | with_reducible apply frame_foldr
    | split

theorem samplePacket_frame {P : Parts} {s0 : State} {s : State} (q : ℕ) (stream : ℕ) (payload : List ℕ) (hs0 : Frame P s0 s) (h_regs : P.regs = true) (h_dic : P.dic = true) (h_vq : P.vq = true) (h_le : P.le = true) :
    Frame P s0 (State.samplePacket s q stream payload) := by
  unfold State.samplePacket
  repeat' first
    | with_reducible assumption
    | (intro sv; refine frame_cut (a := Frame P s0 sv) ?_ ?_; on_goal 2 => dsimp -zeta only [sv]; on_goal 1 => clear_value sv)
    | (intro sv; clear_value sv)
    | intro _
    | lift_lets -underBinder
    | with_reducible apply samplePacketAt_frame
    | with_reducible apply frame_ite
    | with_reducible apply frame_foldl
    | with_reducible apply frame_foldr
    | split

theorem publishAt_frame {P : Parts} {s0 : State} {s : State} (stream : ℕ) (stamp : ℕ) (payload : List ℕ) (hs0 : Frame P s0 s) (h_regs : P.regs = true) (h_dic : P.dic = true) (h_vq : P.vq = true) (h_le : P.le = true) (h_tw : P.tw = true) :
    Frame P s0 (State.publishAt s stream stamp payload) := by
  unfold State.publishAt
  repeat' first
    | with_reducible assumption
    | (intro sv; refine frame_cut (a := Frame P s0 sv) ?_ ?_; on_goal 2 => dsimp -zeta only [sv]; on_goal 1 => clear_value sv)
    | (intro sv; clear_value sv)
    | intro _
    | lift_lets -underBinder
    | with_reducible apply samplePacketAt_frame
    | with_reducible apply forward_frame
    | with_reducible apply frame_ite
    | with_reducible apply frame_foldl
    | with_reducible apply frame_foldr
    | split

theorem publish_frame {P : Parts} {s0 : State} {s : State} (stream : ℕ) (payload : List ℕ) (hs0 : Frame P s0 s) (h_regs : P.regs = true) (h_dic : P.dic = true) (h_vq : P.vq = true) (h_le : P.le = true) (h_tw : P.tw = true) :
    Frame P s0 (State.publish s stream payload) := by
  unfold State.publish
  repeat' first
    | with_reducible assumption
    | (intro sv; refine frame_cut (a := Frame P s0 sv) ?_ ?_; on_goal 2 => dsimp -zeta only [sv]; on_goal 1 => clear_value sv)
    | (intro sv; clear_value sv)
    | intro _
    | lift_lets -underBinder
    | with_reducible apply publishAt_frame
    | with_reducible apply frame_ite
    | with_reducible apply frame_foldl
    | with_reducible apply frame_foldr
    | split

theorem beginPacket_frame {P : Parts} {s0 : State} {s : State} (stream : ℕ) (hs0 : Frame P s0 s) (h_regs : P.regs = true) (h_dic : P.dic = true) (h_vq : P.vq = true) (h_le : P.le = true) :
    Frame P s0 (State.beginPacket s stream) := by
  unfold State.beginPacket
  repeat' first
    | with_reducible assumption
    | (intro sv; refine frame_cut (a := Frame P s0 sv) ?_ ?_; on_goal 2 => dsimp -zeta only [sv]; on_goal 1 => clear_value sv)
    | (intro sv; clear_value sv)
    | intro _
    | lift_lets -underBinder
    | with_reducible apply setSq_frame
    | with_reducible apply frame_ite
    | with_reducible apply frame_foldl
    | with_reducible apply frame_foldr
    | split

theorem setFbCh_frame {P : Parts} {s0 : State} {s : State} (n : ℕ) (x : FbCh) (hs0 : Frame P s0 s) (h_fb : P.fb = true) :
    Frame P s0 (State.setFbCh s n x) := by
  unfold State.setFbCh
  repeat' first
    | with_reducible assumption
    | (intro sv; refine frame_cut (a := Frame P s0 sv) ?_ ?_; on_goal 2 => dsimp -zeta only [sv]; on_goal 1 => clear_value sv)
    | (intro sv; clear_value sv)
    | intro _
    | lift_lets -underBinder
    | with_reducible apply onFb_frame
    | with_reducible apply frame_ite
    | with_reducible apply frame_foldl
    | with_reducible apply frame_foldr
    | split

theorem setFbBuf_frame {P : Parts} {s0 : State} {s : State} (n : ℕ) (m : ℕ) (x : FbBuf) (hs0 : Frame P s0 s) (h_fb : P.fb = true) :
    Frame P s0 (State.setFbBuf s n m x) := by
  unfold State.setFbBuf
  repeat' first
    | with_reducible assumption
    | (intro sv; refine frame_cut (a := Frame P s0 sv) ?_ ?_; on_goal 2 => dsimp -zeta only [sv]; on_goal 1 => clear_value sv)
    | (intro sv; clear_value sv)
    | intro _
    | lift_lets -underBinder
    | with_reducible apply onFb_frame
    | with_reducible apply frame_ite
    | with_reducible apply frame_foldl
    | with_reducible apply frame_foldr
    | split

theorem heldCommit_frame {P : Parts} {s0 : State} {s : State} (n : ℕ) (x2 : ℕ) (hs0 : Frame P s0 s) (h_regs : P.regs = true) (h_dic : P.dic = true) (h_vq : P.vq = true) (h_le : P.le = true) :
    Frame P s0 (State.heldCommit s n x2) := by
  induction x2 generalizing s n with
  | zero => rw [State.heldCommit]; assumption
  | succ n ih =>
    rw [State.heldCommit]
    repeat' first
      | with_reducible assumption
      | (intro sv; refine frame_cut (a := Frame P s0 sv) ?_ ?_; on_goal 2 => dsimp -zeta only [sv]; on_goal 1 => clear_value sv)
      | (intro sv; clear_value sv)
      | intro _
      | lift_lets -underBinder
      | with_reducible apply ih
      | with_reducible apply wr_frame
      | with_reducible apply samplePacketAt_frame
      | with_reducible apply frame_ite
      | with_reducible apply frame_foldl
      | with_reducible apply frame_foldr
      | split

theorem creditsBack_frame {P : Parts} {s0 : State} {s : State} (q : ℕ) (hs0 : Frame P s0 s) (h_regs : P.regs = true) (h_dic : P.dic = true) (h_vq : P.vq = true) (h_le : P.le = true) :
    Frame P s0 (State.creditsBack s q) := by
  unfold State.creditsBack
  repeat' first
    | with_reducible assumption
    | (intro sv; refine frame_cut (a := Frame P s0 sv) ?_ ?_; on_goal 2 => dsimp -zeta only [sv]; on_goal 1 => clear_value sv)
    | (intro sv; clear_value sv)
    | intro _
    | lift_lets -underBinder
    | with_reducible apply heldCommit_frame
    | with_reducible apply frame_ite
    | with_reducible apply frame_foldl
    | with_reducible apply frame_foldr
    | split

theorem execSampleBankSwap_answers {P : Parts} {s0 : State} (q : Fin 32) {s : State} (hs0 : Frame P s0 s) (h_regs : P.regs = true) (h_dic : P.dic = true) (h_vq : P.vq = true) (h_le : P.le = true) :
    Answers P s0 (execSampleBankSwap q s) := by
  unfold execSampleBankSwap
  repeat' first
    | with_reducible assumption
    | (intro sv; refine frame_cut (a := Frame P s0 sv) ?_ ?_; on_goal 2 => dsimp -zeta only [sv]; on_goal 1 => clear_value sv)
    | (intro sv; clear_value sv)
    | intro _
    | with_reducible apply answers_next
    | with_reducible apply answers_ite
    | lift_lets -underBinder
    | with_reducible apply setSq_frame
    | with_reducible apply frame_ite
    | with_reducible apply frame_foldl
    | with_reducible apply frame_foldr
    | split

theorem setWindow_frame {P : Parts} {s0 : State} {s : State} (q : ℕ) (bs : List Byte) (hs0 : Frame P s0 s) (h_regs : P.regs = true) :
    Frame P s0 (State.setWindow s q bs) := by
  unfold State.setWindow
  repeat' first
    | with_reducible assumption
    | (intro sv; refine frame_cut (a := Frame P s0 sv) ?_ ?_; on_goal 2 => dsimp -zeta only [sv]; on_goal 1 => clear_value sv)
    | (intro sv; clear_value sv)
    | intro _
    | lift_lets -underBinder
    | with_reducible apply wr_frame
    | with_reducible apply frame_ite
    | with_reducible apply frame_foldl
    | with_reducible apply frame_foldr
    | split

theorem popEnd_frame {P : Parts} {s0 : State} {s : State} (q : ℕ) (r : SqReader) (tag : ℕ) (bs : List Byte) (hs0 : Frame P s0 s) (h_regs : P.regs = true) (h_mb : P.mb = true) (h_vq : P.vq = true) :
    Frame P s0 (State.popEnd s q r tag bs) := by
  unfold State.popEnd
  repeat' first
    | with_reducible assumption
    | (intro sv; refine frame_cut (a := Frame P s0 sv) ?_ ?_; on_goal 2 => dsimp -zeta only [sv]; on_goal 1 => clear_value sv)
    | (intro sv; clear_value sv)
    | intro _
    | lift_lets -underBinder
    | with_reducible apply onVq_frame
    | with_reducible apply reply_frame
    | with_reducible apply setWindow_frame
    | with_reducible apply frame_ite
    | with_reducible apply frame_foldl
    | with_reducible apply frame_foldr
    | split

theorem popEmpty_frame {P : Parts} {s0 : State} {s : State} (q : ℕ) (r : SqReader) (reset : Bool) (hs0 : Frame P s0 s) (h_regs : P.regs = true) (h_mb : P.mb = true) (h_vq : P.vq = true) :
    Frame P s0 (State.popEmpty s q r reset) := by
  unfold State.popEmpty
  repeat' first
    | with_reducible assumption
    | (intro sv; refine frame_cut (a := Frame P s0 sv) ?_ ?_; on_goal 2 => dsimp -zeta only [sv]; on_goal 1 => clear_value sv)
    | (intro sv; clear_value sv)
    | intro _
    | lift_lets -underBinder
    | with_reducible apply popEnd_frame
    | with_reducible apply frame_ite
    | with_reducible apply frame_foldl
    | with_reducible apply frame_foldr
    | split

theorem popLine_frame {P : Parts} {s0 : State} {t : State} {s : State} {q : ℕ} {r : SqReader} (heq : State.popLine s q r = some t) (hs0 : Frame P s0 s) (h_regs : P.regs = true) (h_dic : P.dic = true) (h_mb : P.mb = true) (h_vq : P.vq = true) (h_le : P.le = true) :
    Frame P s0 t := by
  unfold State.popLine at heq
  try dsimp only at heq
  repeat' split at heq
  all_goals cases heq
  all_goals
    repeat' first
      | with_reducible assumption
      | (intro sv; refine frame_cut (a := Frame P s0 sv) ?_ ?_; on_goal 2 => dsimp -zeta only [sv]; on_goal 1 => clear_value sv)
      | (intro sv; clear_value sv)
      | intro _
      | lift_lets -underBinder
      | with_reducible apply popEnd_frame
      | with_reducible apply setSq_frame
      | with_reducible apply frame_ite
      | with_reducible apply frame_foldl
      | with_reducible apply frame_foldr
      | split

theorem popStall_frame {P : Parts} {s0 : State} {s : State} (q : ℕ) (w : SqStall) (hs0 : Frame P s0 s) (h_vq : P.vq = true) :
    Frame P s0 (State.popStall s q w) := by
  unfold State.popStall
  repeat' first
    | with_reducible assumption
    | (intro sv; refine frame_cut (a := Frame P s0 sv) ?_ ?_; on_goal 2 => dsimp -zeta only [sv]; on_goal 1 => clear_value sv)
    | (intro sv; clear_value sv)
    | intro _
    | lift_lets -underBinder
    | with_reducible apply onVq_frame
    | with_reducible apply frame_ite
    | with_reducible apply frame_foldl
    | with_reducible apply frame_foldr
    | split

theorem execSqPopRead_answers {P : Parts} {s0 : State} (r : SqRead) {s : State} (hs0 : Frame P s0 s) (h_regs : P.regs = true) (h_dic : P.dic = true) (h_mb : P.mb = true) (h_vq : P.vq = true) (h_le : P.le = true) :
    Answers P s0 (execSqPopRead r s) := by
  unfold execSqPopRead
  repeat' first
    | with_reducible assumption
    | (intro sv; refine frame_cut (a := Frame P s0 sv) ?_ ?_; on_goal 2 => dsimp -zeta only [sv]; on_goal 1 => clear_value sv)
    | (intro sv; clear_value sv)
    | intro _
    | with_reducible apply answers_next
    | with_reducible apply answers_ite
    | lift_lets -underBinder
    | with_reducible apply creditsBack_frame
    | with_reducible apply popEmpty_frame
    | with_reducible apply popStall_frame
    | with_reducible apply frame_ite
    | with_reducible apply frame_foldl
    | with_reducible apply frame_foldr
    | refine popLine_frame (by with_reducible assumption) ?_ ?_ ?_ ?_ ?_ ?_
    | split

theorem execPopStallEnd_answers {P : Parts} {s0 : State} (q : Fin 32) {s : State} (hs0 : Frame P s0 s) (h_regs : P.regs = true) (h_dic : P.dic = true) (h_mb : P.mb = true) (h_vq : P.vq = true) (h_le : P.le = true) :
    Answers P s0 (execPopStallEnd q s) := by
  unfold execPopStallEnd
  repeat' first
    | with_reducible assumption
    | (intro sv; refine frame_cut (a := Frame P s0 sv) ?_ ?_; on_goal 2 => dsimp -zeta only [sv]; on_goal 1 => clear_value sv)
    | (intro sv; clear_value sv)
    | intro _
    | with_reducible apply answers_next
    | with_reducible apply answers_ite
    | lift_lets -underBinder
    | with_reducible apply creditsBack_frame
    | with_reducible apply frame_ite
    | with_reducible apply frame_foldl
    | with_reducible apply frame_foldr
    | refine popLine_frame (by with_reducible assumption) ?_ ?_ ?_ ?_ ?_ ?_
    | split

theorem execPopDeadline_answers {P : Parts} {s0 : State} (q : Fin 32) {s : State} (hs0 : Frame P s0 s) (h_regs : P.regs = true) (h_mb : P.mb = true) (h_vq : P.vq = true) :
    Answers P s0 (execPopDeadline q s) := by
  unfold execPopDeadline
  repeat' first
    | with_reducible assumption
    | (intro sv; refine frame_cut (a := Frame P s0 sv) ?_ ?_; on_goal 2 => dsimp -zeta only [sv]; on_goal 1 => clear_value sv)
    | (intro sv; clear_value sv)
    | intro _
    | with_reducible apply answers_next
    | with_reducible apply answers_ite
    | lift_lets -underBinder
    | with_reducible apply popEmpty_frame
    | with_reducible apply frame_ite
    | with_reducible apply frame_foldl
    | with_reducible apply frame_foldr
    | split

theorem execFlushRequest_answers {P : Parts} {s0 : State} (q : Fin 96) {s : State} (hs0 : Frame P s0 s) (h_regs : P.regs = true) (h_dic : P.dic = true) (h_vq : P.vq = true) (h_le : P.le = true) :
    Answers P s0 (execFlushRequest q s) := by
  unfold execFlushRequest
  repeat' first
    | with_reducible assumption
    | (intro sv; refine frame_cut (a := Frame P s0 sv) ?_ ?_; on_goal 2 => dsimp -zeta only [sv]; on_goal 1 => clear_value sv)
    | (intro sv; clear_value sv)
    | intro _
    | with_reducible apply answers_next
    | with_reducible apply answers_ite
    | lift_lets -underBinder
    | with_reducible apply same_answers
    | with_reducible apply setAsm_frame
    | with_reducible apply setIq_frame
    | with_reducible apply setSq_frame
    | with_reducible apply frame_ite
    | with_reducible apply frame_foldl
    | with_reducible apply frame_foldr
    | split

theorem flushIq_frame {P : Parts} {s0 : State} {s : State} (q : ℕ) (hs0 : Frame P s0 s) (h_regs : P.regs = true) (h_vq : P.vq = true) :
    Frame P s0 (State.flushIq s q) := by
  unfold State.flushIq
  repeat' first
    | with_reducible assumption
    | (intro sv; refine frame_cut (a := Frame P s0 sv) ?_ ?_; on_goal 2 => dsimp -zeta only [sv]; on_goal 1 => clear_value sv)
    | (intro sv; clear_value sv)
    | intro _
    | lift_lets -underBinder
    | with_reducible apply putBit_frame
    | with_reducible apply addSat_frame
    | with_reducible apply returnAll_frame
    | with_reducible apply setIq_frame
    | with_reducible apply frame_ite
    | with_reducible apply frame_foldl
    | with_reducible apply frame_foldr
    | split

theorem flushSq_frame {P : Parts} {s0 : State} {s : State} (q : ℕ) (hs0 : Frame P s0 s) (h_regs : P.regs = true) (h_dic : P.dic = true) (h_vq : P.vq = true) (h_le : P.le = true) :
    Frame P s0 (State.flushSq s q) := by
  unfold State.flushSq
  repeat' first
    | with_reducible assumption
    | (intro sv; refine frame_cut (a := Frame P s0 sv) ?_ ?_; on_goal 2 => dsimp -zeta only [sv]; on_goal 1 => clear_value sv)
    | (intro sv; clear_value sv)
    | intro _
    | lift_lets -underBinder
    | with_reducible apply putBit_frame
    | with_reducible apply setSq_frame
    | with_reducible apply frame_ite
    | with_reducible apply frame_foldl
    | with_reducible apply frame_foldr
    | split

theorem execFlushPoint_answers {P : Parts} {s0 : State} (q : Fin 96) {s : State} (hs0 : Frame P s0 s) (h_regs : P.regs = true) (h_dic : P.dic = true) (h_vq : P.vq = true) (h_le : P.le = true) :
    Answers P s0 (execFlushPoint q s) := by
  unfold execFlushPoint
  repeat' first
    | with_reducible assumption
    | (intro sv; refine frame_cut (a := Frame P s0 sv) ?_ ?_; on_goal 2 => dsimp -zeta only [sv]; on_goal 1 => clear_value sv)
    | (intro sv; clear_value sv)
    | intro _
    | with_reducible apply answers_next
    | with_reducible apply answers_ite
    | lift_lets -underBinder
    | with_reducible apply flushIq_frame
    | with_reducible apply same_answers
    | with_reducible apply creditsBack_frame
    | with_reducible apply flushSq_frame
    | with_reducible apply frame_ite
    | with_reducible apply frame_foldl
    | with_reducible apply frame_foldr
    | split

theorem resetIq_frame {P : Parts} {s0 : State} {s : State} (q : ℕ) (hs0 : Frame P s0 s) (h_regs : P.regs = true) (h_vq : P.vq = true) :
    Frame P s0 (State.resetIq s q) := by
  unfold State.resetIq
  repeat' first
    | with_reducible assumption
    | (intro sv; refine frame_cut (a := Frame P s0 sv) ?_ ?_; on_goal 2 => dsimp -zeta only [sv]; on_goal 1 => clear_value sv)
    | (intro sv; clear_value sv)
    | intro _
    | lift_lets -underBinder
    | with_reducible apply returnLines_frame
    | with_reducible apply setAsm_frame
    | with_reducible apply putBit_frame
    | with_reducible apply returnAll_frame
    | with_reducible apply setIq_frame
    | with_reducible apply wr_frame
    | with_reducible apply frame_ite
    | with_reducible apply frame_foldl
    | with_reducible apply frame_foldr
    | split

theorem resetSq_frame {P : Parts} {s0 : State} {s : State} (q : ℕ) (hs0 : Frame P s0 s) (h_regs : P.regs = true) (h_dic : P.dic = true) (h_mb : P.mb = true) (h_vq : P.vq = true) (h_le : P.le = true) :
    Frame P s0 (State.resetSq s q) := by
  unfold State.resetSq
  repeat' first
    | with_reducible assumption
    | (intro sv; refine frame_cut (a := Frame P s0 sv) ?_ ?_; on_goal 2 => dsimp -zeta only [sv]; on_goal 1 => clear_value sv)
    | (intro sv; clear_value sv)
    | intro _
    | lift_lets -underBinder
    | with_reducible apply putBit_frame
    | with_reducible apply setSq_frame
    | with_reducible apply wr_frame
    | with_reducible apply popEmpty_frame
    | with_reducible apply frame_ite
    | with_reducible apply frame_foldl
    | with_reducible apply frame_foldr
    | split

theorem execQueueReset_answers {P : Parts} {s0 : State} (q : Fin 96) {s : State} (hs0 : Frame P s0 s) (h_regs : P.regs = true) (h_dic : P.dic = true) (h_mg : P.mg = true) (h_mb : P.mb = true) (h_vq : P.vq = true) (h_le : P.le = true) :
    Answers P s0 (execQueueReset q s) := by
  unfold execQueueReset
  repeat' first
    | with_reducible assumption
    | (intro sv; refine frame_cut (a := Frame P s0 sv) ?_ ?_; on_goal 2 => dsimp -zeta only [sv]; on_goal 1 => clear_value sv)
    | (intro sv; clear_value sv)
    | intro _
    | with_reducible apply answers_next
    | with_reducible apply answers_ite
    | lift_lets -underBinder
    | with_reducible apply resetIq_frame
    | with_reducible apply creditsBack_frame
    | with_reducible apply resetSq_frame
    | with_reducible apply note_frame
    | with_reducible apply incSat_frame
    | with_reducible apply frame_ite
    | with_reducible apply frame_foldl
    | with_reducible apply frame_foldr
    | split

end Sys2Proof.Machine
end

