-- ==== Sys2Proof/Laws/SolenoidFrame.lean ====
section
/-! SUPPORT. What the operations of Machine/Solenoid.lean may touch, and that they keep the memories canonical. -/

namespace Sys2Proof.Machine

theorem setSvCh_frame {P : Parts} {s0 : State} {s : State} (n : ℕ) (x : SvCh) (hs0 : Frame P s0 s) (h_sv : P.sv = true) :
    Frame P s0 (State.setSvCh s n x) := by
  unfold State.setSvCh
  repeat' first
    | with_reducible assumption
    | (intro sv; refine frame_cut (a := Frame P s0 sv) ?_ ?_; on_goal 2 => dsimp -zeta only [sv]; on_goal 1 => clear_value sv)
    | (intro sv; clear_value sv)
    | intro _
    | lift_lets -underBinder
    | with_reducible apply onSv_frame
    | with_reducible apply frame_ite
    | with_reducible apply frame_foldl
    | with_reducible apply frame_foldr
    | split

theorem setSvGrp_frame {P : Parts} {s0 : State} {s : State} (g : ℕ) (x : SvGrp) (hs0 : Frame P s0 s) (h_sv : P.sv = true) :
    Frame P s0 (State.setSvGrp s g x) := by
  unfold State.setSvGrp
  repeat' first
    | with_reducible assumption
    | (intro sv; refine frame_cut (a := Frame P s0 sv) ?_ ?_; on_goal 2 => dsimp -zeta only [sv]; on_goal 1 => clear_value sv)
    | (intro sv; clear_value sv)
    | intro _
    | lift_lets -underBinder
    | with_reducible apply onSv_frame
    | with_reducible apply frame_ite
    | with_reducible apply frame_foldl
    | with_reducible apply frame_foldr
    | split

theorem svEvent_frame {P : Parts} {s0 : State} {s : State} (n : ℕ) (ev : ℕ) (hs0 : Frame P s0 s) (h_regs : P.regs = true) (h_dic : P.dic = true) (h_vq : P.vq = true) (h_le : P.le = true) (h_tw : P.tw = true) :
    Frame P s0 (State.svEvent s n ev) := by
  unfold State.svEvent
  repeat' first
    | with_reducible assumption
    | (intro sv; refine frame_cut (a := Frame P s0 sv) ?_ ?_; on_goal 2 => dsimp -zeta only [sv]; on_goal 1 => clear_value sv)
    | (intro sv; clear_value sv)
    | intro _
    | lift_lets -underBinder
    | with_reducible apply publish_frame
    | with_reducible apply frame_ite
    | with_reducible apply frame_foldl
    | with_reducible apply frame_foldr
    | split

theorem svNote_frame {P : Parts} {s0 : State} {s : State} (ev : Ev) (n : ℕ) (hs0 : Frame P s0 s) (h_regs : P.regs = true) (h_dic : P.dic = true) (h_mg : P.mg = true) (h_le : P.le = true) :
    Frame P s0 (State.svNote s ev n) := by
  unfold State.svNote
  repeat' first
    | with_reducible assumption
    | (intro sv; refine frame_cut (a := Frame P s0 sv) ?_ ?_; on_goal 2 => dsimp -zeta only [sv]; on_goal 1 => clear_value sv)
    | (intro sv; clear_value sv)
    | intro _
    | lift_lets -underBinder
    | with_reducible apply note_frame
    | with_reducible apply frame_ite
    | with_reducible apply frame_foldl
    | with_reducible apply frame_foldr
    | split

theorem svBit_frame {P : Parts} {s0 : State} {s : State} (n : ℕ) (f : RF) (hs0 : Frame P s0 s) (h_regs : P.regs = true) (h_dic : P.dic = true) (h_mg : P.mg = true) (h_vq : P.vq = true) (h_le : P.le = true) (h_tw : P.tw = true) :
    Frame P s0 (State.svBit s n f) := by
  unfold State.svBit
  repeat' first
    | with_reducible assumption
    | (intro sv; refine frame_cut (a := Frame P s0 sv) ?_ ?_; on_goal 2 => dsimp -zeta only [sv]; on_goal 1 => clear_value sv)
    | (intro sv; clear_value sv)
    | intro _
    | lift_lets -underBinder
    | with_reducible apply svEvent_frame
    | with_reducible apply svNote_frame
    | with_reducible apply putBit_frame
    | with_reducible apply frame_ite
    | with_reducible apply frame_foldl
    | with_reducible apply frame_foldr
    | split

theorem svVisitBit_frame {P : Parts} {s0 : State} {s : State} (n : ℕ) (f : RF) (fresh : Bool) (hs0 : Frame P s0 s) (h_regs : P.regs = true) (h_dic : P.dic = true) (h_mg : P.mg = true) (h_vq : P.vq = true) (h_le : P.le = true) (h_tw : P.tw = true) :
    Frame P s0 (State.svVisitBit s n f fresh) := by
  unfold State.svVisitBit
  repeat' first
    | with_reducible assumption
    | (intro sv; refine frame_cut (a := Frame P s0 sv) ?_ ?_; on_goal 2 => dsimp -zeta only [sv]; on_goal 1 => clear_value sv)
    | (intro sv; clear_value sv)
    | intro _
    | lift_lets -underBinder
    | with_reducible apply svBit_frame
    | with_reducible apply frame_ite
    | with_reducible apply frame_foldl
    | with_reducible apply frame_foldr
    | split

theorem seqEnd_frame {P : Parts} {s0 : State} {s : State} (o : JOut) (detail : ℕ) (hs0 : Frame P s0 s) (h_regs : P.regs = true) (h_mg : P.mg = true) (h_mb : P.mb = true) (h_sv : P.sv = true) (h_tw : P.tw = true) :
    Frame P s0 (State.seqEnd s o detail) := by
  unfold State.seqEnd
  repeat' first
    | with_reducible assumption
    | (intro sv; refine frame_cut (a := Frame P s0 sv) ?_ ?_; on_goal 2 => dsimp -zeta only [sv]; on_goal 1 => clear_value sv)
    | (intro sv; clear_value sv)
    | intro _
    | lift_lets -underBinder
    | with_reducible apply log_frame
    | with_reducible apply journalEnd_frame
    | with_reducible apply onSv_frame
    | with_reducible apply frame_ite
    | with_reducible apply frame_foldl
    | with_reducible apply frame_foldr
    | split

theorem seqFail_frame {P : Parts} {s0 : State} {s : State} (n : ℕ) (hs0 : Frame P s0 s) (h_regs : P.regs = true) (h_mg : P.mg = true) (h_mb : P.mb = true) (h_sv : P.sv = true) (h_tw : P.tw = true) :
    Frame P s0 (State.seqFail s n) := by
  unfold State.seqFail
  repeat' first
    | with_reducible assumption
    | (intro sv; refine frame_cut (a := Frame P s0 sv) ?_ ?_; on_goal 2 => dsimp -zeta only [sv]; on_goal 1 => clear_value sv)
    | (intro sv; clear_value sv)
    | intro _
    | lift_lets -underBinder
    | with_reducible apply seqEnd_frame
    | with_reducible apply frame_ite
    | with_reducible apply frame_foldl
    | with_reducible apply frame_foldr
    | split

theorem seqComplete_frame {P : Parts} {s0 : State} {s : State} (n : ℕ) (close : Bool) (hs0 : Frame P s0 s) (h_mb : P.mb = true) (h_sv : P.sv = true) (h_tw : P.tw = true) :
    Frame P s0 (State.seqComplete s n close) := by
  unfold State.seqComplete
  repeat' first
    | with_reducible assumption
    | (intro sv; refine frame_cut (a := Frame P s0 sv) ?_ ?_; on_goal 2 => dsimp -zeta only [sv]; on_goal 1 => clear_value sv)
    | (intro sv; clear_value sv)
    | intro _
    | lift_lets -underBinder
    | with_reducible apply onSv_frame
    | with_reducible apply journalStep_frame
    | with_reducible apply onJournal_frame
    | with_reducible apply frame_ite
    | with_reducible apply frame_foldl
    | with_reducible apply frame_foldr
    | split

theorem seqTripped_frame {P : Parts} {s0 : State} {s : State} (n : ℕ) (hs0 : Frame P s0 s) (h_regs : P.regs = true) (h_mg : P.mg = true) (h_mb : P.mb = true) (h_sv : P.sv = true) (h_tw : P.tw = true) :
    Frame P s0 (State.seqTripped s n) := by
  unfold State.seqTripped
  repeat' first
    | with_reducible assumption
    | (intro sv; refine frame_cut (a := Frame P s0 sv) ?_ ?_; on_goal 2 => dsimp -zeta only [sv]; on_goal 1 => clear_value sv)
    | (intro sv; clear_value sv)
    | intro _
    | lift_lets -underBinder
    | with_reducible apply seqEnd_frame
    | with_reducible apply frame_ite
    | with_reducible apply frame_foldl
    | with_reducible apply frame_foldr
    | split

theorem clockCh_frame {P : Parts} {s0 : State} {s : State} (n : ℕ) (hs0 : Frame P s0 s) (h_sv : P.sv = true) :
    Frame P s0 (State.clockCh s n) := by
  unfold State.clockCh
  repeat' first
    | with_reducible assumption
    | (intro sv; refine frame_cut (a := Frame P s0 sv) ?_ ?_; on_goal 2 => dsimp -zeta only [sv]; on_goal 1 => clear_value sv)
    | (intro sv; clear_value sv)
    | intro _
    | lift_lets -underBinder
    | with_reducible apply setSvCh_frame
    | with_reducible apply frame_ite
    | with_reducible apply frame_foldl
    | with_reducible apply frame_foldr
    | split

theorem svClock_frame {P : Parts} {s0 : State} {s : State} (hs0 : Frame P s0 s) (h_sv : P.sv = true) :
    Frame P s0 (State.svClock s) := by
  unfold State.svClock
  repeat' first
    | with_reducible assumption
    | (intro sv; refine frame_cut (a := Frame P s0 sv) ?_ ?_; on_goal 2 => dsimp -zeta only [sv]; on_goal 1 => clear_value sv)
    | (intro sv; clear_value sv)
    | intro _
    | lift_lets -underBinder
    | with_reducible apply clockCh_frame
    | with_reducible apply frame_ite
    | with_reducible apply frame_foldl
    | with_reducible apply frame_foldr
    | split

theorem hsOn_frame {P : Parts} {s0 : State} {s : State} (g : ℕ) (hs0 : Frame P s0 s) (h_regs : P.regs = true) (h_sv : P.sv = true) :
    Frame P s0 (State.hsOn s g) := by
  unfold State.hsOn
  repeat' first
    | with_reducible assumption
    | (intro sv; refine frame_cut (a := Frame P s0 sv) ?_ ?_; on_goal 2 => dsimp -zeta only [sv]; on_goal 1 => clear_value sv)
    | (intro sv; clear_value sv)
    | intro _
    | lift_lets -underBinder
    | with_reducible apply setSvGrp_frame
    | with_reducible apply wr_frame
    | with_reducible apply frame_ite
    | with_reducible apply frame_foldl
    | with_reducible apply frame_foldr
    | split

theorem hsRest_frame {P : Parts} {s0 : State} {s : State} (g : ℕ) (hs0 : Frame P s0 s) (h_regs : P.regs = true) (h_sv : P.sv = true) :
    Frame P s0 (State.hsRest s g) := by
  unfold State.hsRest
  repeat' first
    | with_reducible assumption
    | (intro sv; refine frame_cut (a := Frame P s0 sv) ?_ ?_; on_goal 2 => dsimp -zeta only [sv]; on_goal 1 => clear_value sv)
    | (intro sv; clear_value sv)
    | intro _
    | lift_lets -underBinder
    | with_reducible apply setSvGrp_frame
    | with_reducible apply wr_frame
    | with_reducible apply frame_ite
    | with_reducible apply frame_foldl
    | with_reducible apply frame_foldr
    | split

theorem endPeak_frame {P : Parts} {s0 : State} {s : State} (n : ℕ) (hs0 : Frame P s0 s) (h_regs : P.regs = true) :
    Frame P s0 (State.endPeak s n) := by
  unfold State.endPeak
  repeat' first
    | with_reducible assumption
    | (intro sv; refine frame_cut (a := Frame P s0 sv) ?_ ?_; on_goal 2 => dsimp -zeta only [sv]; on_goal 1 => clear_value sv)
    | (intro sv; clear_value sv)
    | intro _
    | lift_lets -underBinder
    | with_reducible apply putBit_frame
    | with_reducible apply frame_ite
    | with_reducible apply frame_foldl
    | with_reducible apply frame_foldr
    | split

theorem svOff_frame {P : Parts} {s0 : State} {s : State} (n : ℕ) (st : ℕ) (hs0 : Frame P s0 s) (h_regs : P.regs = true) (h_sv : P.sv = true) :
    Frame P s0 (State.svOff s n st) := by
  unfold State.svOff
  repeat' first
    | with_reducible assumption
    | (intro sv; refine frame_cut (a := Frame P s0 sv) ?_ ?_; on_goal 2 => dsimp -zeta only [sv]; on_goal 1 => clear_value sv)
    | (intro sv; clear_value sv)
    | intro _
    | lift_lets -underBinder
    | with_reducible apply endPeak_frame
    | with_reducible apply setSvCh_frame
    | with_reducible apply wr_frame
    | with_reducible apply hsRest_frame
    | with_reducible apply frame_ite
    | with_reducible apply frame_foldl
    | with_reducible apply frame_foldr
    | split

theorem svFaultOff_frame {P : Parts} {s0 : State} {s : State} (n : ℕ) (hs0 : Frame P s0 s) (h_regs : P.regs = true) (h_dic : P.dic = true) (h_mg : P.mg = true) (h_mb : P.mb = true) (h_vq : P.vq = true) (h_le : P.le = true) (h_sv : P.sv = true) (h_tw : P.tw = true) :
    Frame P s0 (State.svFaultOff s n) := by
  unfold State.svFaultOff
  repeat' first
    | with_reducible assumption
    | (intro sv; refine frame_cut (a := Frame P s0 sv) ?_ ?_; on_goal 2 => dsimp -zeta only [sv]; on_goal 1 => clear_value sv)
    | (intro sv; clear_value sv)
    | intro _
    | lift_lets -underBinder
    | with_reducible apply setSvCh_frame
    | with_reducible apply svOff_frame
    | with_reducible apply svEvent_frame
    | with_reducible apply svClock_frame
    | with_reducible apply seqFail_frame
    | with_reducible apply frame_ite
    | with_reducible apply frame_foldl
    | with_reducible apply frame_foldr
    | split

theorem idleBreak_frame {P : Parts} {s0 : State} {s : State} (g : ℕ) (hs0 : Frame P s0 s) (h_regs : P.regs = true) (h_sv : P.sv = true) :
    Frame P s0 (State.idleBreak s g) := by
  unfold State.idleBreak
  repeat' first
    | with_reducible assumption
    | (intro sv; refine frame_cut (a := Frame P s0 sv) ?_ ?_; on_goal 2 => dsimp -zeta only [sv]; on_goal 1 => clear_value sv)
    | (intro sv; clear_value sv)
    | intro _
    | lift_lets -underBinder
    | with_reducible apply setSvGrp_frame
    | with_reducible apply wr_frame
    | with_reducible apply frame_ite
    | with_reducible apply frame_foldl
    | with_reducible apply frame_foldr
    | split

theorem svWait_frame {P : Parts} {s0 : State} {s : State} (n : ℕ) (trip : Bool) (hs0 : Frame P s0 s) (h_regs : P.regs = true) (h_sv : P.sv = true) :
    Frame P s0 (State.svWait s n trip) := by
  unfold State.svWait
  repeat' first
    | with_reducible assumption
    | (intro sv; refine frame_cut (a := Frame P s0 sv) ?_ ?_; on_goal 2 => dsimp -zeta only [sv]; on_goal 1 => clear_value sv)
    | (intro sv; clear_value sv)
    | intro _
    | lift_lets -underBinder
    | with_reducible apply setSvCh_frame
    | with_reducible apply onSv_frame
    | with_reducible apply svClock_frame
    | with_reducible apply idleBreak_frame
    | with_reducible apply putBit_frame
    | with_reducible apply wr_frame
    | with_reducible apply frame_ite
    | with_reducible apply frame_foldl
    | with_reducible apply frame_foldr
    | split

theorem closeRequest_frame {P : Parts} {s0 : State} {s : State} (n : ℕ) (trip : Bool) (hs0 : Frame P s0 s) (h_regs : P.regs = true) (h_sv : P.sv = true) :
    Frame P s0 (State.closeRequest s n trip) := by
  unfold State.closeRequest
  repeat' first
    | with_reducible assumption
    | (intro sv; refine frame_cut (a := Frame P s0 sv) ?_ ?_; on_goal 2 => dsimp -zeta only [sv]; on_goal 1 => clear_value sv)
    | (intro sv; clear_value sv)
    | intro _
    | lift_lets -underBinder
    | with_reducible apply svWait_frame
    | with_reducible apply setSvCh_frame
    | with_reducible apply frame_ite
    | with_reducible apply frame_foldl
    | with_reducible apply frame_foldr
    | split

theorem openRequest_frame {P : Parts} {s0 : State} {s : State} (n : ℕ) (hs0 : Frame P s0 s) (h_regs : P.regs = true) (h_mb : P.mb = true) (h_sv : P.sv = true) (h_tw : P.tw = true) :
    Frame P s0 (State.openRequest s n) := by
  unfold State.openRequest
  repeat' first
    | with_reducible assumption
    | (intro sv; refine frame_cut (a := Frame P s0 sv) ?_ ?_; on_goal 2 => dsimp -zeta only [sv]; on_goal 1 => clear_value sv)
    | (intro sv; clear_value sv)
    | intro _
    | lift_lets -underBinder
    | with_reducible apply putBit_frame
    | with_reducible apply svClock_frame
    | with_reducible apply seqComplete_frame
    | with_reducible apply setSvCh_frame
    | with_reducible apply wr_frame
    | with_reducible apply svOff_frame
    | with_reducible apply frame_ite
    | with_reducible apply frame_foldl
    | with_reducible apply frame_foldr
    | split

theorem svRelease_frame {P : Parts} {s0 : State} {s : State} (n : ℕ) (hs0 : Frame P s0 s) (h_regs : P.regs = true) :
    Frame P s0 (State.svRelease s n) := by
  unfold State.svRelease
  repeat' first
    | with_reducible assumption
    | (intro sv; refine frame_cut (a := Frame P s0 sv) ?_ ?_; on_goal 2 => dsimp -zeta only [sv]; on_goal 1 => clear_value sv)
    | (intro sv; clear_value sv)
    | intro _
    | lift_lets -underBinder
    | with_reducible apply putBit_frame
    | with_reducible apply frame_ite
    | with_reducible apply frame_foldl
    | with_reducible apply frame_foldr
    | split

theorem svPreempt_frame {P : Parts} {s0 : State} {s : State} (n : ℕ) (hs0 : Frame P s0 s) (h_regs : P.regs = true) (h_dic : P.dic = true) (h_vq : P.vq = true) (h_le : P.le = true) (h_sv : P.sv = true) (h_tw : P.tw = true) :
    Frame P s0 (State.svPreempt s n) := by
  unfold State.svPreempt
  repeat' first
    | with_reducible assumption
    | (intro sv; refine frame_cut (a := Frame P s0 sv) ?_ ?_; on_goal 2 => dsimp -zeta only [sv]; on_goal 1 => clear_value sv)
    | (intro sv; clear_value sv)
    | intro _
    | lift_lets -underBinder
    | with_reducible apply svOff_frame
    | with_reducible apply setSvCh_frame
    | with_reducible apply putBit_frame
    | with_reducible apply svEvent_frame
    | with_reducible apply frame_ite
    | with_reducible apply frame_foldl
    | with_reducible apply frame_foldr
    | split

theorem tripPreempt_frame {P : Parts} {s0 : State} {s : State} (n : ℕ) (hs0 : Frame P s0 s) (h_regs : P.regs = true) (h_dic : P.dic = true) (h_vq : P.vq = true) (h_le : P.le = true) (h_sv : P.sv = true) (h_tw : P.tw = true) :
    Frame P s0 (State.tripPreempt s n) := by
  unfold State.tripPreempt
  repeat' first
    | with_reducible assumption
    | (intro sv; refine frame_cut (a := Frame P s0 sv) ?_ ?_; on_goal 2 => dsimp -zeta only [sv]; on_goal 1 => clear_value sv)
    | (intro sv; clear_value sv)
    | intro _
    | lift_lets -underBinder
    | with_reducible apply svPreempt_frame
    | with_reducible apply svClock_frame
    | with_reducible apply frame_ite
    | with_reducible apply frame_foldl
    | with_reducible apply frame_foldr
    | split

theorem tripClose_frame {P : Parts} {s0 : State} {s : State} (n : ℕ) (hs0 : Frame P s0 s) (h_regs : P.regs = true) (h_dic : P.dic = true) (h_mg : P.mg = true) (h_mb : P.mb = true) (h_vq : P.vq = true) (h_le : P.le = true) (h_sv : P.sv = true) (h_tw : P.tw = true) :
    Frame P s0 (State.tripClose s n) := by
  unfold State.tripClose
  repeat' first
    | with_reducible assumption
    | (intro sv; refine frame_cut (a := Frame P s0 sv) ?_ ?_; on_goal 2 => dsimp -zeta only [sv]; on_goal 1 => clear_value sv)
    | (intro sv; clear_value sv)
    | intro _
    | lift_lets -underBinder
    | with_reducible apply putBit_frame
    | with_reducible apply seqTripped_frame
    | with_reducible apply setSvCh_frame
    | with_reducible apply closeRequest_frame
    | with_reducible apply svClock_frame
    | with_reducible apply hsOn_frame
    | with_reducible apply tripPreempt_frame
    | with_reducible apply frame_ite
    | with_reducible apply frame_foldl
    | with_reducible apply frame_foldr
    | split

theorem tripRack_frame {P : Parts} {s0 : State} {s : State} (r : ℕ) (hs0 : Frame P s0 s) (h_regs : P.regs = true) (h_dic : P.dic = true) (h_mg : P.mg = true) (h_mb : P.mb = true) (h_vq : P.vq = true) (h_le : P.le = true) (h_sv : P.sv = true) (h_tw : P.tw = true) :
    Frame P s0 (State.tripRack s r) := by
  unfold State.tripRack
  repeat' first
    | with_reducible assumption
    | (intro sv; refine frame_cut (a := Frame P s0 sv) ?_ ?_; on_goal 2 => dsimp -zeta only [sv]; on_goal 1 => clear_value sv)
    | (intro sv; clear_value sv)
    | intro _
    | lift_lets -underBinder
    | with_reducible apply tripClose_frame
    | with_reducible apply frame_ite
    | with_reducible apply frame_foldl
    | with_reducible apply frame_foldr
    | split

theorem startPeak_frame {P : Parts} {s0 : State} {s : State} (n : ℕ) (hs0 : Frame P s0 s) (h_regs : P.regs = true) (h_sv : P.sv = true) :
    Frame P s0 (State.startPeak s n) := by
  unfold State.startPeak
  repeat' first
    | with_reducible assumption
    | (intro sv; refine frame_cut (a := Frame P s0 sv) ?_ ?_; on_goal 2 => dsimp -zeta only [sv]; on_goal 1 => clear_value sv)
    | (intro sv; clear_value sv)
    | intro _
    | lift_lets -underBinder
    | with_reducible apply setSvCh_frame
    | with_reducible apply hsOn_frame
    | with_reducible apply putBit_frame
    | with_reducible apply wr_frame
    | with_reducible apply svClock_frame
    | with_reducible apply frame_ite
    | with_reducible apply frame_foldl
    | with_reducible apply frame_foldr
    | split

theorem kinkFilter_frame {P : Parts} {s0 : State} {s : State} (n : ℕ) (v : ℕ) (hs0 : Frame P s0 s) (h_regs : P.regs = true) (h_sv : P.sv = true) :
    Frame P s0 (State.kinkFilter s n v) := by
  unfold State.kinkFilter
  repeat' first
    | with_reducible assumption
    | (intro sv; refine frame_cut (a := Frame P s0 sv) ?_ ?_; on_goal 2 => dsimp -zeta only [sv]; on_goal 1 => clear_value sv)
    | (intro sv; clear_value sv)
    | intro _
    | lift_lets -underBinder
    | with_reducible apply setSvCh_frame
    | with_reducible apply wr_frame
    | with_reducible apply putBit_frame
    | with_reducible apply frame_ite
    | with_reducible apply frame_foldl
    | with_reducible apply frame_foldr
    | split

theorem kinkSample_frame {P : Parts} {s0 : State} {s : State} (n : ℕ) (ma : ℕ) (hs0 : Frame P s0 s) (h_regs : P.regs = true) (h_sv : P.sv = true) :
    Frame P s0 (State.kinkSample s n ma) := by
  unfold State.kinkSample
  repeat' first
    | with_reducible assumption
    | (intro sv; refine frame_cut (a := Frame P s0 sv) ?_ ?_; on_goal 2 => dsimp -zeta only [sv]; on_goal 1 => clear_value sv)
    | (intro sv; clear_value sv)
    | intro _
    | lift_lets -underBinder
    | with_reducible apply setSvCh_frame
    | with_reducible apply kinkFilter_frame
    | with_reducible apply frame_ite
    | with_reducible apply frame_foldl
    | with_reducible apply frame_foldr
    | split

theorem countClosing_frame {P : Parts} {s0 : State} {s : State} (n : ℕ) (hs0 : Frame P s0 s) (h_regs : P.regs = true) (h_mg : P.mg = true) :
    Frame P s0 (State.countClosing s n) := by
  unfold State.countClosing
  repeat' first
    | with_reducible assumption
    | (intro sv; refine frame_cut (a := Frame P s0 sv) ?_ ?_; on_goal 2 => dsimp -zeta only [sv]; on_goal 1 => clear_value sv)
    | (intro sv; clear_value sv)
    | intro _
    | lift_lets -underBinder
    | with_reducible apply onMg_frame
    | with_reducible apply wr_frame
    | with_reducible apply frame_ite
    | with_reducible apply frame_foldl
    | with_reducible apply frame_foldr
    | split

theorem endPeakPhase_frame {P : Parts} {s0 : State} {s : State} (n : ℕ) (hs0 : Frame P s0 s) (h_regs : P.regs = true) (h_dic : P.dic = true) (h_mg : P.mg = true) (h_mb : P.mb = true) (h_vq : P.vq = true) (h_le : P.le = true) (h_sv : P.sv = true) (h_tw : P.tw = true) :
    Frame P s0 (State.endPeakPhase s n) := by
  unfold State.endPeakPhase
  repeat' first
    | with_reducible assumption
    | (intro sv; refine frame_cut (a := Frame P s0 sv) ?_ ?_; on_goal 2 => dsimp -zeta only [sv]; on_goal 1 => clear_value sv)
    | (intro sv; clear_value sv)
    | intro _
    | lift_lets -underBinder
    | with_reducible apply setSvCh_frame
    | with_reducible apply endPeak_frame
    | with_reducible apply countClosing_frame
    | with_reducible apply seqComplete_frame
    | with_reducible apply svEvent_frame
    | with_reducible apply log_frame
    | with_reducible apply wr_frame
    | with_reducible apply svNote_frame
    | with_reducible apply putBit_frame
    | with_reducible apply seqFail_frame
    | with_reducible apply frame_ite
    | with_reducible apply frame_foldl
    | with_reducible apply frame_foldr
    | split

theorem posShow_frame {P : Parts} {s0 : State} {s : State} (n : ℕ) (hs0 : Frame P s0 s) (h_regs : P.regs = true) :
    Frame P s0 (State.posShow s n) := by
  unfold State.posShow
  repeat' first
    | with_reducible assumption
    | (intro sv; refine frame_cut (a := Frame P s0 sv) ?_ ?_; on_goal 2 => dsimp -zeta only [sv]; on_goal 1 => clear_value sv)
    | (intro sv; clear_value sv)
    | intro _
    | lift_lets -underBinder
    | with_reducible apply putBit_frame
    | with_reducible apply frame_ite
    | with_reducible apply frame_foldl
    | with_reducible apply frame_foldr
    | split

theorem posUpdate_frame {P : Parts} {s0 : State} {s : State} (hs0 : Frame P s0 s) (h_regs : P.regs = true) :
    Frame P s0 (State.posUpdate s) := by
  unfold State.posUpdate
  repeat' first
    | with_reducible assumption
    | (intro sv; refine frame_cut (a := Frame P s0 sv) ?_ ?_; on_goal 2 => dsimp -zeta only [sv]; on_goal 1 => clear_value sv)
    | (intro sv; clear_value sv)
    | intro _
    | lift_lets -underBinder
    | with_reducible apply posShow_frame
    | with_reducible apply frame_ite
    | with_reducible apply frame_foldl
    | with_reducible apply frame_foldr
    | split

theorem posCheck_frame {P : Parts} {s0 : State} {s : State} (n : ℕ) (closed : Bool) (hs0 : Frame P s0 s) (h_regs : P.regs = true) (h_dic : P.dic = true) (h_mg : P.mg = true) (h_mb : P.mb = true) (h_le : P.le = true) (h_sv : P.sv = true) (h_tw : P.tw = true) :
    Frame P s0 (State.posCheck s n closed) := by
  unfold State.posCheck
  repeat' first
    | with_reducible assumption
    | (intro sv; refine frame_cut (a := Frame P s0 sv) ?_ ?_; on_goal 2 => dsimp -zeta only [sv]; on_goal 1 => clear_value sv)
    | (intro sv; clear_value sv)
    | intro _
    | lift_lets -underBinder
    | with_reducible apply posShow_frame
    | with_reducible apply seqFail_frame
    | with_reducible apply svNote_frame
    | with_reducible apply putBit_frame
    | with_reducible apply frame_ite
    | with_reducible apply frame_foldl
    | with_reducible apply frame_foldr
    | split

theorem endOpening_frame {P : Parts} {s0 : State} {s : State} (n : ℕ) (hs0 : Frame P s0 s) (h_regs : P.regs = true) (h_dic : P.dic = true) (h_mg : P.mg = true) (h_mb : P.mb = true) (h_vq : P.vq = true) (h_le : P.le = true) (h_sv : P.sv = true) (h_tw : P.tw = true) :
    Frame P s0 (State.endOpening s n) := by
  unfold State.endOpening
  repeat' first
    | with_reducible assumption
    | (intro sv; refine frame_cut (a := Frame P s0 sv) ?_ ?_; on_goal 2 => dsimp -zeta only [sv]; on_goal 1 => clear_value sv)
    | (intro sv; clear_value sv)
    | intro _
    | lift_lets -underBinder
    | with_reducible apply setSvCh_frame
    | with_reducible apply wr_frame
    | with_reducible apply seqComplete_frame
    | with_reducible apply posCheck_frame
    | with_reducible apply svEvent_frame
    | with_reducible apply log_frame
    | with_reducible apply frame_ite
    | with_reducible apply frame_foldl
    | with_reducible apply frame_foldr
    | split

theorem groupOff_frame {P : Parts} {s0 : State} {s : State} (g : ℕ) (hs0 : Frame P s0 s) (h_regs : P.regs = true) (h_sv : P.sv = true) :
    Frame P s0 (State.groupOff s g) := by
  unfold State.groupOff
  repeat' first
    | with_reducible assumption
    | (intro sv; refine frame_cut (a := Frame P s0 sv) ?_ ?_; on_goal 2 => dsimp -zeta only [sv]; on_goal 1 => clear_value sv)
    | (intro sv; clear_value sv)
    | intro _
    | lift_lets -underBinder
    | with_reducible apply setSvCh_frame
    | with_reducible apply svOff_frame
    | with_reducible apply putBit_frame
    | with_reducible apply wr_frame
    | with_reducible apply svClock_frame
    | with_reducible apply setSvGrp_frame
    | with_reducible apply frame_ite
    | with_reducible apply frame_foldl
    | with_reducible apply frame_foldr
    | split

theorem svShortGnd_frame {P : Parts} {s0 : State} {s : State} (n : ℕ) (fresh : Bool) (hs0 : Frame P s0 s) (h_regs : P.regs = true) (h_dic : P.dic = true) (h_mg : P.mg = true) (h_mb : P.mb = true) (h_vq : P.vq = true) (h_le : P.le = true) (h_sv : P.sv = true) (h_tw : P.tw = true) :
    Frame P s0 (State.svShortGnd s n fresh) := by
  unfold State.svShortGnd
  repeat' first
    | with_reducible assumption
    | (intro sv; refine frame_cut (a := Frame P s0 sv) ?_ ?_; on_goal 2 => dsimp -zeta only [sv]; on_goal 1 => clear_value sv)
    | (intro sv; clear_value sv)
    | intro _
    | lift_lets -underBinder
    | with_reducible apply svVisitBit_frame
    | with_reducible apply svFaultOff_frame
    | with_reducible apply seqFail_frame
    | with_reducible apply log_frame
    | with_reducible apply putBit_frame
    | with_reducible apply groupOff_frame
    | with_reducible apply frame_ite
    | with_reducible apply frame_foldl
    | with_reducible apply frame_foldr
    | split

theorem svOpenLoad_frame {P : Parts} {s0 : State} {s : State} (n : ℕ) (fresh : Bool) (hs0 : Frame P s0 s) (h_regs : P.regs = true) (h_dic : P.dic = true) (h_mg : P.mg = true) (h_mb : P.mb = true) (h_vq : P.vq = true) (h_le : P.le = true) (h_sv : P.sv = true) (h_tw : P.tw = true) :
    Frame P s0 (State.svOpenLoad s n fresh) := by
  unfold State.svOpenLoad
  repeat' first
    | with_reducible assumption
    | (intro sv; refine frame_cut (a := Frame P s0 sv) ?_ ?_; on_goal 2 => dsimp -zeta only [sv]; on_goal 1 => clear_value sv)
    | (intro sv; clear_value sv)
    | intro _
    | lift_lets -underBinder
    | with_reducible apply svVisitBit_frame
    | with_reducible apply svFaultOff_frame
    | with_reducible apply seqFail_frame
    | with_reducible apply frame_ite
    | with_reducible apply frame_foldl
    | with_reducible apply frame_foldr
    | split

theorem gidle_frame {P : Parts} {s0 : State} {s : State} (g : ℕ) (hs0 : Frame P s0 s) (h_regs : P.regs = true) :
    Frame P s0 (State.gidle s g) := by
  unfold State.gidle
  repeat' first
    | with_reducible assumption
    | (intro sv; refine frame_cut (a := Frame P s0 sv) ?_ ?_; on_goal 2 => dsimp -zeta only [sv]; on_goal 1 => clear_value sv)
    | (intro sv; clear_value sv)
    | intro _
    | lift_lets -underBinder
    | with_reducible apply wr_frame
    | with_reducible apply frame_ite
    | with_reducible apply frame_foldl
    | with_reducible apply frame_foldr
    | split

theorem offReading_frame {P : Parts} {s0 : State} {s : State} (n : ℕ) (node : ℕ) (rail : ℕ) (supply : ℕ) (hs0 : Frame P s0 s) (h_regs : P.regs = true) (h_dic : P.dic = true) (h_mg : P.mg = true) (h_mb : P.mb = true) (h_vq : P.vq = true) (h_le : P.le = true) (h_sv : P.sv = true) (h_tw : P.tw = true) :
    Frame P s0 (State.offReading s n node rail supply) := by
  unfold State.offReading
  repeat' first
    | with_reducible assumption
    | (intro sv; refine frame_cut (a := Frame P s0 sv) ?_ ?_; on_goal 2 => dsimp -zeta only [sv]; on_goal 1 => clear_value sv)
    | (intro sv; clear_value sv)
    | intro _
    | lift_lets -underBinder
    | with_reducible apply setSvCh_frame
    | with_reducible apply setSvGrp_frame
    | with_reducible apply svVisitBit_frame
    | with_reducible apply svShortGnd_frame
    | with_reducible apply svOpenLoad_frame
    | with_reducible apply frame_ite
    | with_reducible apply frame_foldl
    | with_reducible apply frame_foldr
    | split

theorem svMeasure_frame {P : Parts} {s0 : State} {s : State} (n : ℕ) (node : ℕ) (rail : ℕ) (hs0 : Frame P s0 s) (h_regs : P.regs = true) :
    Frame P s0 (State.svMeasure s n node rail) := by
  unfold State.svMeasure
  repeat' first
    | with_reducible assumption
    | (intro sv; refine frame_cut (a := Frame P s0 sv) ?_ ?_; on_goal 2 => dsimp -zeta only [sv]; on_goal 1 => clear_value sv)
    | (intro sv; clear_value sv)
    | intro _
    | lift_lets -underBinder
    | with_reducible apply wr_frame
    | with_reducible apply frame_ite
    | with_reducible apply frame_foldl
    | with_reducible apply frame_foldr
    | split

theorem svActive_frame {P : Parts} {s0 : State} {s : State} (n : ℕ) (hs0 : Frame P s0 s) (h_regs : P.regs = true) (h_sv : P.sv = true) :
    Frame P s0 (State.svActive s n) := by
  unfold State.svActive
  repeat' first
    | with_reducible assumption
    | (intro sv; refine frame_cut (a := Frame P s0 sv) ?_ ?_; on_goal 2 => dsimp -zeta only [sv]; on_goal 1 => clear_value sv)
    | (intro sv; clear_value sv)
    | intro _
    | lift_lets -underBinder
    | with_reducible apply setSvCh_frame
    | with_reducible apply hsOn_frame
    | with_reducible apply endPeak_frame
    | with_reducible apply wr_frame
    | with_reducible apply frame_ite
    | with_reducible apply frame_foldl
    | with_reducible apply frame_foldr
    | split

theorem svTakeOver_frame {P : Parts} {s0 : State} {s : State} (hs0 : Frame P s0 s) (h_regs : P.regs = true) (h_sv : P.sv = true) :
    Frame P s0 (State.svTakeOver s) := by
  unfold State.svTakeOver
  repeat' first
    | with_reducible assumption
    | (intro sv; refine frame_cut (a := Frame P s0 sv) ?_ ?_; on_goal 2 => dsimp -zeta only [sv]; on_goal 1 => clear_value sv)
    | (intro sv; clear_value sv)
    | intro _
    | lift_lets -underBinder
    | with_reducible apply svClock_frame
    | with_reducible apply svActive_frame
    | with_reducible apply frame_ite
    | with_reducible apply frame_foldl
    | with_reducible apply frame_foldr
    | split

theorem svAdopt_frame {P : Parts} {s0 : State} {s : State} (n : ℕ) (w : ℕ) (k : ℕ) (hs0 : Frame P s0 s) (h_regs : P.regs = true) (h_sv : P.sv = true) :
    Frame P s0 (State.svAdopt s n w k) := by
  unfold State.svAdopt
  repeat' first
    | with_reducible assumption
    | (intro sv; refine frame_cut (a := Frame P s0 sv) ?_ ?_; on_goal 2 => dsimp -zeta only [sv]; on_goal 1 => clear_value sv)
    | (intro sv; clear_value sv)
    | intro _
    | lift_lets -underBinder
    | with_reducible apply wr_frame
    | with_reducible apply svClock_frame
    | with_reducible apply svOff_frame
    | with_reducible apply setSvCh_frame
    | with_reducible apply frame_ite
    | with_reducible apply frame_foldl
    | with_reducible apply frame_foldr
    | split

theorem svForwarded_frame {P : Parts} {s0 : State} {s : State} (l : Table Word) (hs0 : Frame P s0 s) (h_regs : P.regs = true) (h_sv : P.sv = true) :
    Frame P s0 (State.svForwarded s l) := by
  unfold State.svForwarded
  repeat' first
    | with_reducible assumption
    | (intro sv; refine frame_cut (a := Frame P s0 sv) ?_ ?_; on_goal 2 => dsimp -zeta only [sv]; on_goal 1 => clear_value sv)
    | (intro sv; clear_value sv)
    | intro _
    | lift_lets -underBinder
    | with_reducible apply svAdopt_frame
    | with_reducible apply frame_ite
    | with_reducible apply frame_foldl
    | with_reducible apply frame_foldr
    | split

theorem svStop_frame {P : Parts} {s0 : State} {s : State} (n : ℕ) (hs0 : Frame P s0 s) (h_regs : P.regs = true) (h_sv : P.sv = true) :
    Frame P s0 (State.svStop s n) := by
  unfold State.svStop
  repeat' first
    | with_reducible assumption
    | (intro sv; refine frame_cut (a := Frame P s0 sv) ?_ ?_; on_goal 2 => dsimp -zeta only [sv]; on_goal 1 => clear_value sv)
    | (intro sv; clear_value sv)
    | intro _
    | lift_lets -underBinder
    | with_reducible apply svOff_frame
    | with_reducible apply setSvCh_frame
    | with_reducible apply wr_frame
    | with_reducible apply frame_ite
    | with_reducible apply frame_foldl
    | with_reducible apply frame_foldr
    | split

theorem svEnables_frame {P : Parts} {s0 : State} {s : State} (hs0 : Frame P s0 s) (h_regs : P.regs = true) (h_sv : P.sv = true) :
    Frame P s0 (State.svEnables s) := by
  unfold State.svEnables
  repeat' first
    | with_reducible assumption
    | (intro sv; refine frame_cut (a := Frame P s0 sv) ?_ ?_; on_goal 2 => dsimp -zeta only [sv]; on_goal 1 => clear_value sv)
    | (intro sv; clear_value sv)
    | intro _
    | lift_lets -underBinder
    | with_reducible apply svClock_frame
    | with_reducible apply posUpdate_frame
    | with_reducible apply svStop_frame
    | with_reducible apply frame_ite
    | with_reducible apply frame_foldl
    | with_reducible apply frame_foldr
    | split

theorem svDisconnect_frame {P : Parts} {s0 : State} {s : State} (hs0 : Frame P s0 s) (h_regs : P.regs = true) (h_sv : P.sv = true) :
    Frame P s0 (State.svDisconnect s) := by
  unfold State.svDisconnect
  repeat' first
    | with_reducible assumption
    | (intro sv; refine frame_cut (a := Frame P s0 sv) ?_ ?_; on_goal 2 => dsimp -zeta only [sv]; on_goal 1 => clear_value sv)
    | (intro sv; clear_value sv)
    | intro _
    | lift_lets -underBinder
    | with_reducible apply svStop_frame
    | with_reducible apply svClock_frame
    | with_reducible apply setSvGrp_frame
    | with_reducible apply wr_frame
    | with_reducible apply frame_ite
    | with_reducible apply frame_foldl
    | with_reducible apply frame_foldr
    | split

end Sys2Proof.Machine
end

