-- ==== Sys2Proof/Laws/ModesFrame.lean ====
section
/-! SUPPORT. What the operations of Machine/Modes.lean may touch, and that they keep the memories canonical. -/

namespace Sys2Proof.Machine

theorem setRole_frame {P : Parts} {s0 : State} {s : State} (r : Role) (hs0 : Frame P s0 s) (h_regs : P.regs = true) (h_sys : P.sys = true) (h_dic : P.dic = true) (h_mg : P.mg = true) (h_mb : P.mb = true) (h_le : P.le = true) :
    Frame P s0 (State.setRole s r) := by
  unfold State.setRole
  repeat' first
    | with_reducible assumption
    | (intro sv; refine frame_cut (a := Frame P s0 sv) ?_ ?_; on_goal 2 => dsimp -zeta only [sv]; on_goal 1 => clear_value sv)
    | (intro sv; clear_value sv)
    | intro _
    | lift_lets -underBinder
    | with_reducible apply wr_frame
    | with_reducible apply onSys_frame
    | with_reducible apply onMg_frame
    | with_reducible apply putBit_frame
    | with_reducible apply msixSend_frame
    | with_reducible apply note_frame
    | with_reducible apply senseBrakes_frame
    | with_reducible apply frame_ite
    | with_reducible apply frame_foldl
    | with_reducible apply frame_foldr
    | split

theorem applySets_frame {P : Parts} {s0 : State} {s : State} (hs0 : Frame P s0 s) (h_regs : P.regs = true) (h_sys : P.sys = true) (h_pf : P.pf = true) :
    Frame P s0 (State.applySets s) := by
  unfold State.applySets
  repeat' first
    | with_reducible assumption
    | (intro sv; refine frame_cut (a := Frame P s0 sv) ?_ ?_; on_goal 2 => dsimp -zeta only [sv]; on_goal 1 => clear_value sv)
    | (intro sv; clear_value sv)
    | intro _
    | lift_lets -underBinder
    | with_reducible apply toTableSet_frame
    | with_reducible apply toControlSet_frame
    | with_reducible apply frame_ite
    | with_reducible apply frame_foldl
    | with_reducible apply frame_foldr
    | split

theorem rotAbort_frame {P : Parts} {s0 : State} {s : State} (hs0 : Frame P s0 s) (h_regs : P.regs = true) (h_mg : P.mg = true) (h_tr : P.tr = true) :
    Frame P s0 (State.rotAbort s) := by
  unfold State.rotAbort
  repeat' first
    | with_reducible assumption
    | (intro sv; refine frame_cut (a := Frame P s0 sv) ?_ ?_; on_goal 2 => dsimp -zeta only [sv]; on_goal 1 => clear_value sv)
    | (intro sv; clear_value sv)
    | intro _
    | lift_lets -underBinder
    | with_reducible apply wr_frame
    | with_reducible apply putBit_frame
    | with_reducible apply log_frame
    | with_reducible apply onTr_frame
    | with_reducible apply frame_ite
    | with_reducible apply frame_foldl
    | with_reducible apply frame_foldr
    | split

theorem trStatus_frame {P : Parts} {s0 : State} {s : State} (hs0 : Frame P s0 s) (h_regs : P.regs = true) (h_tr : P.tr = true) :
    Frame P s0 (State.trStatus s) := by
  unfold State.trStatus
  repeat' first
    | with_reducible assumption
    | (intro sv; refine frame_cut (a := Frame P s0 sv) ?_ ?_; on_goal 2 => dsimp -zeta only [sv]; on_goal 1 => clear_value sv)
    | (intro sv; clear_value sv)
    | intro _
    | lift_lets -underBinder
    | with_reducible apply putBit_frame
    | with_reducible apply onTr_frame
    | with_reducible apply frame_ite
    | with_reducible apply frame_foldl
    | with_reducible apply frame_foldr
    | split

theorem trMode_frame {P : Parts} {s0 : State} {s : State} (hs0 : Frame P s0 s) (h_regs : P.regs = true) (h_tr : P.tr = true) :
    Frame P s0 (State.trMode s) := by
  unfold State.trMode
  repeat' first
    | with_reducible assumption
    | (intro sv; refine frame_cut (a := Frame P s0 sv) ?_ ?_; on_goal 2 => dsimp -zeta only [sv]; on_goal 1 => clear_value sv)
    | (intro sv; clear_value sv)
    | intro _
    | lift_lets -underBinder
    | with_reducible apply putBit_frame
    | with_reducible apply trStatus_frame
    | with_reducible apply frame_ite
    | with_reducible apply frame_foldl
    | with_reducible apply frame_foldr
    | split

theorem resumeCtxs_frame {P : Parts} {s0 : State} {s : State} (was : Bool) (hs0 : Frame P s0 s) (h_le : P.le = true) :
    Frame P s0 (State.resumeCtxs s was) := by
  unfold State.resumeCtxs
  repeat' first
    | with_reducible assumption
    | (intro sv; refine frame_cut (a := Frame P s0 sv) ?_ ?_; on_goal 2 => dsimp -zeta only [sv]; on_goal 1 => clear_value sv)
    | (intro sv; clear_value sv)
    | intro _
    | lift_lets -underBinder
    | with_reducible apply setSlot_frame
    | with_reducible apply frame_ite
    | with_reducible apply frame_foldl
    | with_reducible apply frame_foldr
    | split

theorem setState_frame {P : Parts} {s0 : State} {s : State} (m : ModState) (hs0 : Frame P s0 s) (h_regs : P.regs = true) (h_sys : P.sys = true) (h_mg : P.mg = true) (h_mb : P.mb = true) (h_le : P.le = true) (h_pf : P.pf = true) (h_tr : P.tr = true) :
    Frame P s0 (State.setState s m) := by
  unfold State.setState
  repeat' first
    | with_reducible assumption
    | (intro sv; refine frame_cut (a := Frame P s0 sv) ?_ ?_; on_goal 2 => dsimp -zeta only [sv]; on_goal 1 => clear_value sv)
    | (intro sv; clear_value sv)
    | intro _
    | lift_lets -underBinder
    | with_reducible apply onSys_frame
    | with_reducible apply resumeCtxs_frame
    | with_reducible apply trMode_frame
    | with_reducible apply applySets_frame
    | with_reducible apply calRestart_frame
    | with_reducible apply putBit_frame
    | with_reducible apply msixSend_frame
    | with_reducible apply log_frame
    | with_reducible apply frame_ite
    | with_reducible apply frame_foldl
    | with_reducible apply frame_foldr
    | split

theorem releaseDrive_frame {P : Parts} {s0 : State} {s : State} (x1 : SvcDrive) (hs0 : Frame P s0 s) (h_regs : P.regs = true) (h_mb : P.mb = true) (h_le : P.le = true) (h_sv : P.sv = true) (h_tw : P.tw = true) :
    Frame P s0 (State.releaseDrive s x1) := by
  unfold State.releaseDrive
  repeat' first
    | with_reducible assumption
    | (intro sv; refine frame_cut (a := Frame P s0 sv) ?_ ?_; on_goal 2 => dsimp -zeta only [sv]; on_goal 1 => clear_value sv)
    | (intro sv; clear_value sv)
    | intro _
    | lift_lets -underBinder
    | with_reducible apply setSlot_frame
    | with_reducible apply wrf_frame
    | with_reducible apply openRequest_frame
    | with_reducible apply senseBrakes_frame
    | with_reducible apply wr_frame
    | with_reducible apply frame_ite
    | with_reducible apply frame_foldl
    | with_reducible apply frame_foldr
    | split

theorem releaseDrives_frame {P : Parts} {s0 : State} {s : State} (hs0 : Frame P s0 s) (h_regs : P.regs = true) (h_sys : P.sys = true) (h_mb : P.mb = true) (h_le : P.le = true) (h_sv : P.sv = true) (h_tw : P.tw = true) :
    Frame P s0 (State.releaseDrives s) := by
  unfold State.releaseDrives
  repeat' first
    | with_reducible assumption
    | (intro sv; refine frame_cut (a := Frame P s0 sv) ?_ ?_; on_goal 2 => dsimp -zeta only [sv]; on_goal 1 => clear_value sv)
    | (intro sv; clear_value sv)
    | intro _
    | lift_lets -underBinder
    | with_reducible apply releaseDrive_frame
    | with_reducible apply onSys_frame
    | with_reducible apply frame_ite
    | with_reducible apply frame_foldl
    | with_reducible apply frame_foldr
    | split

theorem leaveService_frame {P : Parts} {s0 : State} {s : State} (hs0 : Frame P s0 s) (h_regs : P.regs = true) (h_sys : P.sys = true) (h_mb : P.mb = true) (h_le : P.le = true) (h_sv : P.sv = true) (h_tw : P.tw = true) :
    Frame P s0 (State.leaveService s) := by
  unfold State.leaveService
  repeat' first
    | with_reducible assumption
    | (intro sv; refine frame_cut (a := Frame P s0 sv) ?_ ?_; on_goal 2 => dsimp -zeta only [sv]; on_goal 1 => clear_value sv)
    | (intro sv; clear_value sv)
    | intro _
    | lift_lets -underBinder
    | with_reducible apply releaseDrives_frame
    | with_reducible apply frame_ite
    | with_reducible apply frame_foldl
    | with_reducible apply frame_foldr
    | split

theorem emergencyOutputs_frame {P : Parts} {s0 : State} {s : State} (hs0 : Frame P s0 s) (h_regs : P.regs = true) :
    Frame P s0 (State.emergencyOutputs s) := by
  unfold State.emergencyOutputs
  repeat' first
    | with_reducible assumption
    | (intro sv; refine frame_cut (a := Frame P s0 sv) ?_ ?_; on_goal 2 => dsimp -zeta only [sv]; on_goal 1 => clear_value sv)
    | (intro sv; clear_value sv)
    | intro _
    | lift_lets -underBinder
    | with_reducible apply wrf_frame
    | with_reducible apply frame_ite
    | with_reducible apply frame_foldl
    | with_reducible apply frame_foldr
    | split

theorem bypassFree_frame {P : Parts} {s0 : State} {s : State} (hs0 : Frame P s0 s) (h_regs : P.regs = true) (h_le : P.le = true) (h_pf : P.pf = true) :
    Frame P s0 (State.bypassFree s) := by
  unfold State.bypassFree
  repeat' first
    | with_reducible assumption
    | (intro sv; refine frame_cut (a := Frame P s0 sv) ?_ ?_; on_goal 2 => dsimp -zeta only [sv]; on_goal 1 => clear_value sv)
    | (intro sv; clear_value sv)
    | intro _
    | lift_lets -underBinder
    | with_reducible apply onPf_frame
    | with_reducible apply setSlot_frame
    | with_reducible apply wrf_frame
    | with_reducible apply frame_ite
    | with_reducible apply frame_foldl
    | with_reducible apply frame_foldr
    | split

theorem flowNotRestored_frame {P : Parts} {s0 : State} {s : State} (hs0 : Frame P s0 s) (h_regs : P.regs = true) (h_pf : P.pf = true) :
    Frame P s0 (State.flowNotRestored s) := by
  unfold State.flowNotRestored
  repeat' first
    | with_reducible assumption
    | (intro sv; refine frame_cut (a := Frame P s0 sv) ?_ ?_; on_goal 2 => dsimp -zeta only [sv]; on_goal 1 => clear_value sv)
    | (intro sv; clear_value sv)
    | intro _
    | lift_lets -underBinder
    | with_reducible apply putBit_frame
    | with_reducible apply onPf_frame
    | with_reducible apply frame_ite
    | with_reducible apply frame_foldl
    | with_reducible apply frame_foldr
    | split

theorem enterShed_frame {P : Parts} {s0 : State} {s : State} (hs0 : Frame P s0 s) (h_regs : P.regs = true) (h_sys : P.sys = true) (h_mg : P.mg = true) (h_mb : P.mb = true) (h_pb : P.pb = true) (h_le : P.le = true) (h_sv : P.sv = true) (h_pf : P.pf = true) (h_tr : P.tr = true) (h_tw : P.tw = true) :
    Frame P s0 (State.enterShed s) := by
  unfold State.enterShed
  repeat' first
    | with_reducible assumption
    | (intro sv; refine frame_cut (a := Frame P s0 sv) ?_ ?_; on_goal 2 => dsimp -zeta only [sv]; on_goal 1 => clear_value sv)
    | (intro sv; clear_value sv)
    | intro _
    | lift_lets -underBinder
    | with_reducible apply setState_frame
    | with_reducible apply rotAbort_frame
    | with_reducible apply leaveService_frame
    | with_reducible apply onSys_frame
    | with_reducible apply flowNotRestored_frame
    | with_reducible apply pfShed_frame
    | with_reducible apply emergencyOutputs_frame
    | with_reducible apply emergencyQueue_frame
    | with_reducible apply frame_ite
    | with_reducible apply frame_foldl
    | with_reducible apply frame_foldr
    | split

theorem coolantStop_frame {P : Parts} {s0 : State} {s : State} (hs0 : Frame P s0 s) (h_regs : P.regs = true) (h_sys : P.sys = true) (h_mg : P.mg = true) (h_mb : P.mb = true) (h_pb : P.pb = true) (h_le : P.le = true) (h_sv : P.sv = true) (h_pf : P.pf = true) (h_tr : P.tr = true) (h_tw : P.tw = true) :
    Frame P s0 (State.coolantStop s) := by
  unfold State.coolantStop
  repeat' first
    | with_reducible assumption
    | (intro sv; refine frame_cut (a := Frame P s0 sv) ?_ ?_; on_goal 2 => dsimp -zeta only [sv]; on_goal 1 => clear_value sv)
    | (intro sv; clear_value sv)
    | intro _
    | lift_lets -underBinder
    | with_reducible apply enterShed_frame
    | with_reducible apply flowNotRestored_frame
    | with_reducible apply onSys_frame
    | with_reducible apply frame_ite
    | with_reducible apply frame_foldl
    | with_reducible apply frame_foldr
    | split

theorem lowRestart_frame {P : Parts} {s0 : State} {s : State} (hs0 : Frame P s0 s) (h_pf : P.pf = true) :
    Frame P s0 (State.lowRestart s) := by
  unfold State.lowRestart
  repeat' first
    | with_reducible assumption
    | (intro sv; refine frame_cut (a := Frame P s0 sv) ?_ ?_; on_goal 2 => dsimp -zeta only [sv]; on_goal 1 => clear_value sv)
    | (intro sv; clear_value sv)
    | intro _
    | lift_lets -underBinder
    | with_reducible apply onPf_frame
    | with_reducible apply frame_ite
    | with_reducible apply frame_foldl
    | with_reducible apply frame_foldr
    | split

theorem enterSurvival_frame {P : Parts} {s0 : State} {s : State} (hs0 : Frame P s0 s) (h_regs : P.regs = true) (h_sys : P.sys = true) (h_mg : P.mg = true) (h_mb : P.mb = true) (h_le : P.le = true) (h_sv : P.sv = true) (h_pf : P.pf = true) (h_tr : P.tr = true) (h_tw : P.tw = true) :
    Frame P s0 (State.enterSurvival s) := by
  unfold State.enterSurvival
  repeat' first
    | with_reducible assumption
    | (intro sv; refine frame_cut (a := Frame P s0 sv) ?_ ?_; on_goal 2 => dsimp -zeta only [sv]; on_goal 1 => clear_value sv)
    | (intro sv; clear_value sv)
    | intro _
    | lift_lets -underBinder
    | with_reducible apply onSys_frame
    | with_reducible apply setState_frame
    | with_reducible apply bypassFree_frame
    | with_reducible apply rotAbort_frame
    | with_reducible apply lowRestart_frame
    | with_reducible apply leaveService_frame
    | with_reducible apply frame_ite
    | with_reducible apply frame_foldl
    | with_reducible apply frame_foldr
    | split

theorem enterFailed_frame {P : Parts} {s0 : State} {s : State} (cause : List ℕ) (hs0 : Frame P s0 s) (h_regs : P.regs = true) (h_sys : P.sys = true) (h_dic : P.dic = true) (h_mg : P.mg = true) (h_mb : P.mb = true) (h_le : P.le = true) (h_sv : P.sv = true) (h_pf : P.pf = true) (h_sn : P.sn = true) (h_tr : P.tr = true) (h_tw : P.tw = true) :
    Frame P s0 (State.enterFailed s cause) := by
  unfold State.enterFailed
  repeat' first
    | with_reducible assumption
    | (intro sv; refine frame_cut (a := Frame P s0 sv) ?_ ?_; on_goal 2 => dsimp -zeta only [sv]; on_goal 1 => clear_value sv)
    | (intro sv; clear_value sv)
    | intro _
    | lift_lets -underBinder
    | with_reducible apply log_frame
    | with_reducible apply setState_frame
    | with_reducible apply putBit_frame
    | with_reducible apply wr_frame
    | with_reducible apply svDisconnect_frame
    | with_reducible apply onTw_frame
    | with_reducible apply setRole_frame
    | with_reducible apply trStatus_frame
    | with_reducible apply onSys_frame
    | with_reducible apply onSn_frame
    | with_reducible apply onMg_frame
    | with_reducible apply frame_ite
    | with_reducible apply frame_foldl
    | with_reducible apply frame_foldr
    | split

theorem setTmLatch_frame {P : Parts} {s0 : State} {s : State} (r : ℕ) (b : Bool) (hs0 : Frame P s0 s) (h_regs : P.regs = true) :
    Frame P s0 (State.setTmLatch s r b) := by
  unfold State.setTmLatch
  repeat' first
    | with_reducible assumption
    | (intro sv; refine frame_cut (a := Frame P s0 sv) ?_ ?_; on_goal 2 => dsimp -zeta only [sv]; on_goal 1 => clear_value sv)
    | (intro sv; clear_value sv)
    | intro _
    | lift_lets -underBinder
    | with_reducible apply wr_frame
    | with_reducible apply frame_ite
    | with_reducible apply frame_foldl
    | with_reducible apply frame_foldr
    | split

theorem tripBrakes_frame {P : Parts} {s0 : State} {s : State} (hs0 : Frame P s0 s) (h_regs : P.regs = true) (h_pb : P.pb = true) :
    Frame P s0 (State.tripBrakes s) := by
  unfold State.tripBrakes
  repeat' first
    | with_reducible assumption
    | (intro sv; refine frame_cut (a := Frame P s0 sv) ?_ ?_; on_goal 2 => dsimp -zeta only [sv]; on_goal 1 => clear_value sv)
    | (intro sv; clear_value sv)
    | intro _
    | lift_lets -underBinder
    | with_reducible apply senseBrakes_frame
    | with_reducible apply onPb_frame
    | with_reducible apply frame_ite
    | with_reducible apply frame_foldl
    | with_reducible apply frame_foldr
    | split

theorem tripAct_frame {P : Parts} {s0 : State} {s : State} (r : ℕ) (hs0 : Frame P s0 s) (h_regs : P.regs = true) (h_sys : P.sys = true) (h_dic : P.dic = true) (h_mg : P.mg = true) (h_mb : P.mb = true) (h_pb : P.pb = true) (h_vq : P.vq = true) (h_le : P.le = true) (h_sv : P.sv = true) (h_pf : P.pf = true) (h_tr : P.tr = true) (h_tw : P.tw = true) :
    Frame P s0 (State.tripAct s r) := by
  unfold State.tripAct
  repeat' first
    | with_reducible assumption
    | (intro sv; refine frame_cut (a := Frame P s0 sv) ?_ ?_; on_goal 2 => dsimp -zeta only [sv]; on_goal 1 => clear_value sv)
    | (intro sv; clear_value sv)
    | intro _
    | lift_lets -underBinder
    | with_reducible apply tripBrakes_frame
    | with_reducible apply tripRack_frame
    | with_reducible apply wr_frame
    | with_reducible apply coolantStop_frame
    | with_reducible apply trStatus_frame
    | with_reducible apply putBit_frame
    | with_reducible apply frame_ite
    | with_reducible apply frame_foldl
    | with_reducible apply frame_foldr
    | split

theorem outEnable_frame {P : Parts} {s0 : State} {s : State} (hs0 : Frame P s0 s) (h_regs : P.regs = true) (h_sys : P.sys = true) (h_dic : P.dic = true) (h_mg : P.mg = true) (h_mb : P.mb = true) (h_pb : P.pb = true) (h_vq : P.vq = true) (h_le : P.le = true) (h_sv : P.sv = true) (h_pf : P.pf = true) (h_tr : P.tr = true) (h_tw : P.tw = true) :
    Frame P s0 (State.outEnable s) := by
  unfold State.outEnable
  repeat' first
    | with_reducible assumption
    | (intro sv; refine frame_cut (a := Frame P s0 sv) ?_ ?_; on_goal 2 => dsimp -zeta only [sv]; on_goal 1 => clear_value sv)
    | (intro sv; clear_value sv)
    | intro _
    | lift_lets -underBinder
    | with_reducible apply putBit_frame
    | with_reducible apply tripAct_frame
    | with_reducible apply frame_ite
    | with_reducible apply frame_foldl
    | with_reducible apply frame_foldr
    | split

theorem tmClear_frame {P : Parts} {s0 : State} {s : State} (r : ℕ) (hs0 : Frame P s0 s) (h_regs : P.regs = true) :
    Frame P s0 (State.tmClear s r) := by
  unfold State.tmClear
  repeat' first
    | with_reducible assumption
    | (intro sv; refine frame_cut (a := Frame P s0 sv) ?_ ?_; on_goal 2 => dsimp -zeta only [sv]; on_goal 1 => clear_value sv)
    | (intro sv; clear_value sv)
    | intro _
    | lift_lets -underBinder
    | with_reducible apply setTmLatch_frame
    | with_reducible apply frame_ite
    | with_reducible apply frame_foldl
    | with_reducible apply frame_foldr
    | split

theorem tmSettle_frame {P : Parts} {s0 : State} {s : State} (hs0 : Frame P s0 s) (h_regs : P.regs = true) (h_pb : P.pb = true) :
    Frame P s0 (State.tmSettle s) := by
  unfold State.tmSettle
  repeat' first
    | with_reducible assumption
    | (intro sv; refine frame_cut (a := Frame P s0 sv) ?_ ?_; on_goal 2 => dsimp -zeta only [sv]; on_goal 1 => clear_value sv)
    | (intro sv; clear_value sv)
    | intro _
    | lift_lets -underBinder
    | with_reducible apply tripBrakes_frame
    | with_reducible apply wr_frame
    | with_reducible apply frame_ite
    | with_reducible apply frame_foldl
    | with_reducible apply frame_foldr
    | split

theorem clearActions_frame {P : Parts} {s0 : State} {s : State} (acts : List ℕ) (hs0 : Frame P s0 s) (h_regs : P.regs = true) (h_pb : P.pb = true) :
    Frame P s0 (State.clearActions s acts) := by
  unfold State.clearActions
  repeat' first
    | with_reducible assumption
    | (intro sv; refine frame_cut (a := Frame P s0 sv) ?_ ?_; on_goal 2 => dsimp -zeta only [sv]; on_goal 1 => clear_value sv)
    | (intro sv; clear_value sv)
    | intro _
    | lift_lets -underBinder
    | with_reducible apply tmSettle_frame
    | with_reducible apply tmClear_frame
    | with_reducible apply frame_ite
    | with_reducible apply frame_foldl
    | with_reducible apply frame_foldr
    | split

theorem isolateRack_frame {P : Parts} {s0 : State} {s : State} (r : ℕ) (hs0 : Frame P s0 s) (h_regs : P.regs = true) (h_sys : P.sys = true) (h_pb : P.pb = true) (h_pf : P.pf = true) :
    Frame P s0 (State.isolateRack s r) := by
  unfold State.isolateRack
  repeat' first
    | with_reducible assumption
    | (intro sv; refine frame_cut (a := Frame P s0 sv) ?_ ?_; on_goal 2 => dsimp -zeta only [sv]; on_goal 1 => clear_value sv)
    | (intro sv; clear_value sv)
    | intro _
    | lift_lets -underBinder
    | with_reducible apply onSys_frame
    | with_reducible apply isoLoop_frame
    | with_reducible apply isolateCaps_frame
    | with_reducible apply frame_ite
    | with_reducible apply frame_foldl
    | with_reducible apply frame_foldr
    | split

theorem enterIsolate_frame {P : Parts} {s0 : State} {s : State} (racks : List ℕ) (hs0 : Frame P s0 s) (h_regs : P.regs = true) (h_sys : P.sys = true) (h_mg : P.mg = true) (h_mb : P.mb = true) (h_pb : P.pb = true) (h_le : P.le = true) (h_sv : P.sv = true) (h_pf : P.pf = true) (h_tr : P.tr = true) (h_tw : P.tw = true) :
    Frame P s0 (State.enterIsolate s racks) := by
  unfold State.enterIsolate
  repeat' first
    | with_reducible assumption
    | (intro sv; refine frame_cut (a := Frame P s0 sv) ?_ ?_; on_goal 2 => dsimp -zeta only [sv]; on_goal 1 => clear_value sv)
    | (intro sv; clear_value sv)
    | intro _
    | lift_lets -underBinder
    | with_reducible apply setState_frame
    | with_reducible apply leaveService_frame
    | with_reducible apply isolateRack_frame
    | with_reducible apply onSys_frame
    | with_reducible apply frame_ite
    | with_reducible apply frame_foldl
    | with_reducible apply frame_foldr
    | split

theorem askIsolate_frame {P : Parts} {s0 : State} {s : State} (rack : ℕ) (hs0 : Frame P s0 s) (h_sys : P.sys = true) :
    Frame P s0 (State.askIsolate s rack) := by
  unfold State.askIsolate
  repeat' first
    | with_reducible assumption
    | (intro sv; refine frame_cut (a := Frame P s0 sv) ?_ ?_; on_goal 2 => dsimp -zeta only [sv]; on_goal 1 => clear_value sv)
    | (intro sv; clear_value sv)
    | intro _
    | lift_lets -underBinder
    | with_reducible apply onSys_frame
    | with_reducible apply frame_ite
    | with_reducible apply frame_foldl
    | with_reducible apply frame_foldr
    | split

theorem rackBack_frame {P : Parts} {s0 : State} {s : State} (r : ℕ) (hs0 : Frame P s0 s) (h_regs : P.regs = true) (h_sys : P.sys = true) (h_mg : P.mg = true) (h_mb : P.mb = true) (h_pb : P.pb = true) (h_le : P.le = true) (h_pf : P.pf = true) (h_tr : P.tr = true) :
    Frame P s0 (State.rackBack s r) := by
  unfold State.rackBack
  repeat' first
    | with_reducible assumption
    | (intro sv; refine frame_cut (a := Frame P s0 sv) ?_ ?_; on_goal 2 => dsimp -zeta only [sv]; on_goal 1 => clear_value sv)
    | (intro sv; clear_value sv)
    | intro _
    | lift_lets -underBinder
    | with_reducible apply onSys_frame
    | with_reducible apply setSlot_frame
    | with_reducible apply clearActions_frame
    | with_reducible apply isoEnd_frame
    | with_reducible apply reopenCaps_frame
    | with_reducible apply setState_frame
    | with_reducible apply frame_ite
    | with_reducible apply frame_foldl
    | with_reducible apply frame_foldr
    | split

theorem reopenCheck_frame {P : Parts} {s0 : State} {s : State} (hs0 : Frame P s0 s) (h_regs : P.regs = true) (h_sys : P.sys = true) (h_mg : P.mg = true) (h_mb : P.mb = true) (h_pb : P.pb = true) (h_le : P.le = true) (h_pf : P.pf = true) (h_tr : P.tr = true) :
    Frame P s0 (State.reopenCheck s) := by
  unfold State.reopenCheck
  repeat' first
    | with_reducible assumption
    | (intro sv; refine frame_cut (a := Frame P s0 sv) ?_ ?_; on_goal 2 => dsimp -zeta only [sv]; on_goal 1 => clear_value sv)
    | (intro sv; clear_value sv)
    | intro _
    | lift_lets -underBinder
    | with_reducible apply rackBack_frame
    | with_reducible apply frame_ite
    | with_reducible apply frame_foldl
    | with_reducible apply frame_foldr
    | split

theorem waitGood_frame {P : Parts} {s0 : State} {s : State} (hs0 : Frame P s0 s) (h_sys : P.sys = true) (h_tr : P.tr = true) :
    Frame P s0 (State.waitGood s) := by
  unfold State.waitGood
  repeat' first
    | with_reducible assumption
    | (intro sv; refine frame_cut (a := Frame P s0 sv) ?_ ?_; on_goal 2 => dsimp -zeta only [sv]; on_goal 1 => clear_value sv)
    | (intro sv; clear_value sv)
    | intro _
    | lift_lets -underBinder
    | with_reducible apply onTr_frame
    | with_reducible apply onSys_frame
    | with_reducible apply frame_ite
    | with_reducible apply frame_foldl
    | with_reducible apply frame_foldr
    | split

theorem isolateAll_frame {P : Parts} {s0 : State} {s : State} (hs0 : Frame P s0 s) (h_regs : P.regs = true) (h_sys : P.sys = true) (h_mg : P.mg = true) (h_mb : P.mb = true) (h_pb : P.pb = true) (h_le : P.le = true) (h_sv : P.sv = true) (h_pf : P.pf = true) (h_tr : P.tr = true) (h_tw : P.tw = true) :
    Frame P s0 (State.isolateAll s) := by
  unfold State.isolateAll
  repeat' first
    | with_reducible assumption
    | (intro sv; refine frame_cut (a := Frame P s0 sv) ?_ ?_; on_goal 2 => dsimp -zeta only [sv]; on_goal 1 => clear_value sv)
    | (intro sv; clear_value sv)
    | intro _
    | lift_lets -underBinder
    | with_reducible apply enterIsolate_frame
    | with_reducible apply onSys_frame
    | with_reducible apply frame_ite
    | with_reducible apply frame_foldl
    | with_reducible apply frame_foldr
    | split

theorem shedOutputs_frame {P : Parts} {s0 : State} {s : State} (hs0 : Frame P s0 s) (h_regs : P.regs = true) (h_le : P.le = true) (h_pf : P.pf = true) :
    Frame P s0 (State.shedOutputs s) := by
  unfold State.shedOutputs
  repeat' first
    | with_reducible assumption
    | (intro sv; refine frame_cut (a := Frame P s0 sv) ?_ ?_; on_goal 2 => dsimp -zeta only [sv]; on_goal 1 => clear_value sv)
    | (intro sv; clear_value sv)
    | intro _
    | lift_lets -underBinder
    | with_reducible apply emergencyOutputs_frame
    | with_reducible apply bypassFree_frame
    | with_reducible apply onPf_frame
    | with_reducible apply lowRestart_frame
    | with_reducible apply frame_ite
    | with_reducible apply frame_foldl
    | with_reducible apply frame_foldr
    | split

theorem leaveShed_frame {P : Parts} {s0 : State} {s : State} (hs0 : Frame P s0 s) (h_regs : P.regs = true) (h_sys : P.sys = true) (h_mg : P.mg = true) (h_mb : P.mb = true) (h_pb : P.pb = true) (h_le : P.le = true) (h_sv : P.sv = true) (h_pf : P.pf = true) (h_tr : P.tr = true) (h_tw : P.tw = true) :
    Frame P s0 (State.leaveShed s) := by
  unfold State.leaveShed
  repeat' first
    | with_reducible assumption
    | (intro sv; refine frame_cut (a := Frame P s0 sv) ?_ ?_; on_goal 2 => dsimp -zeta only [sv]; on_goal 1 => clear_value sv)
    | (intro sv; clear_value sv)
    | intro _
    | lift_lets -underBinder
    | with_reducible apply waitGood_frame
    | with_reducible apply shedOutputs_frame
    | with_reducible apply clearActions_frame
    | with_reducible apply isolateAll_frame
    | with_reducible apply setState_frame
    | with_reducible apply frame_ite
    | with_reducible apply frame_foldl
    | with_reducible apply frame_foldr
    | split

theorem enterTable_frame {P : Parts} {s0 : State} {s : State} (hs0 : Frame P s0 s) (h_regs : P.regs = true) (h_sys : P.sys = true) (h_dic : P.dic = true) (h_mg : P.mg = true) (h_mb : P.mb = true) (h_pb : P.pb = true) (h_vq : P.vq = true) (h_le : P.le = true) (h_sv : P.sv = true) (h_pf : P.pf = true) (h_tr : P.tr = true) (h_tw : P.tw = true) :
    Frame P s0 (State.enterTable s) := by
  unfold State.enterTable
  repeat' first
    | with_reducible assumption
    | (intro sv; refine frame_cut (a := Frame P s0 sv) ?_ ?_; on_goal 2 => dsimp -zeta only [sv]; on_goal 1 => clear_value sv)
    | (intro sv; clear_value sv)
    | intro _
    | lift_lets -underBinder
    | with_reducible apply outEnable_frame
    | with_reducible apply setState_frame
    | with_reducible apply leaveService_frame
    | with_reducible apply onSys_frame
    | with_reducible apply frame_ite
    | with_reducible apply frame_foldl
    | with_reducible apply frame_foldr
    | split

theorem actHeld_frame {P : Parts} {s0 : State} {s : State} (hs0 : Frame P s0 s) (h_regs : P.regs = true) (h_sys : P.sys = true) (h_mg : P.mg = true) (h_mb : P.mb = true) (h_pb : P.pb = true) (h_le : P.le = true) (h_sv : P.sv = true) (h_pf : P.pf = true) (h_tr : P.tr = true) (h_tw : P.tw = true) :
    Frame P s0 (State.actHeld s) := by
  unfold State.actHeld
  repeat' first
    | with_reducible assumption
    | (intro sv; refine frame_cut (a := Frame P s0 sv) ?_ ?_; on_goal 2 => dsimp -zeta only [sv]; on_goal 1 => clear_value sv)
    | (intro sv; clear_value sv)
    | intro _
    | lift_lets -underBinder
    | with_reducible apply enterSurvival_frame
    | with_reducible apply enterShed_frame
    | with_reducible apply isolateAll_frame
    | with_reducible apply frame_ite
    | with_reducible apply frame_foldl
    | with_reducible apply frame_foldr
    | split

theorem leaveSurvival_frame {P : Parts} {s0 : State} {s : State} (hs0 : Frame P s0 s) (h_regs : P.regs = true) (h_sys : P.sys = true) (h_dic : P.dic = true) (h_mg : P.mg = true) (h_mb : P.mb = true) (h_pb : P.pb = true) (h_vq : P.vq = true) (h_le : P.le = true) (h_sv : P.sv = true) (h_pf : P.pf = true) (h_tr : P.tr = true) (h_tw : P.tw = true) :
    Frame P s0 (State.leaveSurvival s) := by
  unfold State.leaveSurvival
  repeat' first
    | with_reducible assumption
    | (intro sv; refine frame_cut (a := Frame P s0 sv) ?_ ?_; on_goal 2 => dsimp -zeta only [sv]; on_goal 1 => clear_value sv)
    | (intro sv; clear_value sv)
    | intro _
    | lift_lets -underBinder
    | with_reducible apply onPf_frame
    | with_reducible apply clearActions_frame
    | with_reducible apply actHeld_frame
    | with_reducible apply tmSettle_frame
    | with_reducible apply enterTable_frame
    | with_reducible apply onTr_frame
    | with_reducible apply frame_ite
    | with_reducible apply frame_foldl
    | with_reducible apply frame_foldr
    | split

theorem toReactive_frame {P : Parts} {s0 : State} {s : State} (hs0 : Frame P s0 s) (h_regs : P.regs = true) (h_sys : P.sys = true) (h_mg : P.mg = true) (h_mb : P.mb = true) (h_le : P.le = true) (h_pf : P.pf = true) (h_tr : P.tr = true) :
    Frame P s0 (State.toReactive s) := by
  unfold State.toReactive
  repeat' first
    | with_reducible assumption
    | (intro sv; refine frame_cut (a := Frame P s0 sv) ?_ ?_; on_goal 2 => dsimp -zeta only [sv]; on_goal 1 => clear_value sv)
    | (intro sv; clear_value sv)
    | intro _
    | lift_lets -underBinder
    | with_reducible apply onSys_frame
    | with_reducible apply setState_frame
    | with_reducible apply frame_ite
    | with_reducible apply frame_foldl
    | with_reducible apply frame_foldr
    | split

theorem silentAnew_frame {P : Parts} {s0 : State} {s : State} (hs0 : Frame P s0 s) (h_vq : P.vq = true) (h_tw : P.tw = true) :
    Frame P s0 (State.silentAnew s) := by
  unfold State.silentAnew
  repeat' first
    | with_reducible assumption
    | (intro sv; refine frame_cut (a := Frame P s0 sv) ?_ ?_; on_goal 2 => dsimp -zeta only [sv]; on_goal 1 => clear_value sv)
    | (intro sv; clear_value sv)
    | intro _
    | lift_lets -underBinder
    | with_reducible apply onTw_frame
    | with_reducible apply onVq_frame
    | with_reducible apply frame_ite
    | with_reducible apply frame_foldl
    | with_reducible apply frame_foldr
    | split

theorem enterMode_frame {P : Parts} {s0 : State} {s : State} (m : ModState) (hs0 : Frame P s0 s) (h_regs : P.regs = true) (h_sys : P.sys = true) (h_dic : P.dic = true) (h_mg : P.mg = true) (h_mb : P.mb = true) (h_pb : P.pb = true) (h_vq : P.vq = true) (h_le : P.le = true) (h_sv : P.sv = true) (h_pf : P.pf = true) (h_tr : P.tr = true) (h_tw : P.tw = true) :
    Frame P s0 (State.enterMode s m) := by
  unfold State.enterMode
  repeat' first
    | with_reducible assumption
    | (intro sv; refine frame_cut (a := Frame P s0 sv) ?_ ?_; on_goal 2 => dsimp -zeta only [sv]; on_goal 1 => clear_value sv)
    | (intro sv; clear_value sv)
    | intro _
    | lift_lets -underBinder
    | with_reducible apply onSys_frame
    | with_reducible apply silentAnew_frame
    | with_reducible apply enterTable_frame
    | with_reducible apply setState_frame
    | with_reducible apply leaveService_frame
    | with_reducible apply frame_ite
    | with_reducible apply frame_foldl
    | with_reducible apply frame_foldr
    | split

theorem applyRequest_frame {P : Parts} {s0 : State} {s : State} (hs0 : Frame P s0 s) (h_regs : P.regs = true) (h_sys : P.sys = true) (h_dic : P.dic = true) (h_mg : P.mg = true) (h_mb : P.mb = true) (h_pb : P.pb = true) (h_vq : P.vq = true) (h_le : P.le = true) (h_sv : P.sv = true) (h_pf : P.pf = true) (h_tr : P.tr = true) (h_tw : P.tw = true) :
    Frame P s0 (State.applyRequest s) := by
  unfold State.applyRequest
  repeat' first
    | with_reducible assumption
    | (intro sv; refine frame_cut (a := Frame P s0 sv) ?_ ?_; on_goal 2 => dsimp -zeta only [sv]; on_goal 1 => clear_value sv)
    | (intro sv; clear_value sv)
    | intro _
    | lift_lets -underBinder
    | with_reducible apply onSys_frame
    | with_reducible apply enterMode_frame
    | with_reducible apply frame_ite
    | with_reducible apply frame_foldl
    | with_reducible apply frame_foldr
    | split

theorem demote_frame {P : Parts} {s0 : State} {s : State} (hs0 : Frame P s0 s) (h_regs : P.regs = true) (h_sys : P.sys = true) (h_dic : P.dic = true) (h_mg : P.mg = true) (h_mb : P.mb = true) (h_pb : P.pb = true) (h_vq : P.vq = true) (h_le : P.le = true) (h_sv : P.sv = true) (h_pf : P.pf = true) (h_tr : P.tr = true) (h_tw : P.tw = true) :
    Frame P s0 (State.demote s) := by
  unfold State.demote
  repeat' first
    | with_reducible assumption
    | (intro sv; refine frame_cut (a := Frame P s0 sv) ?_ ?_; on_goal 2 => dsimp -zeta only [sv]; on_goal 1 => clear_value sv)
    | (intro sv; clear_value sv)
    | intro _
    | lift_lets -underBinder
    | with_reducible apply enterTable_frame
    | with_reducible apply frame_ite
    | with_reducible apply frame_foldl
    | with_reducible apply frame_foldr
    | split

end Sys2Proof.Machine
end

