-- ==== Sys2Proof/Laws/BoardFrame.lean ====
section
/-! SUPPORT. What the operations of Machine/Board.lean may touch, and that they keep the memories canonical. -/

namespace Sys2Proof.Machine

theorem alarmRelays_frame {P : Parts} {s0 : State} {s : State} (hs0 : Frame P s0 s) (h_mg : P.mg = true) :
    Frame P s0 (State.alarmRelays s) := by
  unfold State.alarmRelays
  repeat' first
    | with_reducible assumption
    | (intro sv; refine frame_cut (a := Frame P s0 sv) ?_ ?_; on_goal 2 => dsimp -zeta only [sv]; on_goal 1 => clear_value sv)
    | (intro sv; clear_value sv)
    | intro _
    | lift_lets -underBinder
    | with_reducible apply onMg_frame
    | with_reducible apply frame_ite
    | with_reducible apply frame_foldl
    | with_reducible apply frame_foldr
    | split

theorem boardMark_frame {P : Parts} {s0 : State} {s : State} (k : ℕ) (bad : Bool) (ev : Ev) (hs0 : Frame P s0 s) (h_regs : P.regs = true) (h_mg : P.mg = true) :
    Frame P s0 (State.boardMark s k bad ev) := by
  unfold State.boardMark
  repeat' first
    | with_reducible assumption
    | (intro sv; refine frame_cut (a := Frame P s0 sv) ?_ ?_; on_goal 2 => dsimp -zeta only [sv]; on_goal 1 => clear_value sv)
    | (intro sv; clear_value sv)
    | intro _
    | lift_lets -underBinder
    | with_reducible apply alarmRelays_frame
    | with_reducible apply log_frame
    | with_reducible apply onMg_frame
    | with_reducible apply frame_ite
    | with_reducible apply frame_foldl
    | with_reducible apply frame_foldr
    | split

theorem execBoardSensorWarning_answers {P : Parts} {s0 : State} (q : Fin 24) (v : ℤ) {s : State} (hs0 : Frame P s0 s) (h_regs : P.regs = true) (h_mg : P.mg = true) :
    Answers P s0 (execBoardSensorWarning q v s) := by
  unfold execBoardSensorWarning
  repeat' first
    | with_reducible assumption
    | (intro sv; refine frame_cut (a := Frame P s0 sv) ?_ ?_; on_goal 2 => dsimp -zeta only [sv]; on_goal 1 => clear_value sv)
    | (intro sv; clear_value sv)
    | intro _
    | with_reducible apply answers_next
    | with_reducible apply answers_ite
    | lift_lets -underBinder
    | with_reducible apply onMg_frame
    | with_reducible apply boardMark_frame
    | with_reducible apply frame_ite
    | with_reducible apply frame_foldl
    | with_reducible apply frame_foldr
    | split

theorem execVinUndervoltage_answers {P : Parts} {s0 : State} {s : State} (hs0 : Frame P s0 s) (h_regs : P.regs = true) (h_sys : P.sys = true) (h_dic : P.dic = true) (h_mg : P.mg = true) (h_mb : P.mb = true) (h_le : P.le = true) (h_sv : P.sv = true) (h_pf : P.pf = true) (h_sn : P.sn = true) (h_tr : P.tr = true) (h_tw : P.tw = true) :
    Answers P s0 (execVinUndervoltage s) := by
  unfold execVinUndervoltage
  repeat' first
    | with_reducible assumption
    | (intro sv; refine frame_cut (a := Frame P s0 sv) ?_ ?_; on_goal 2 => dsimp -zeta only [sv]; on_goal 1 => clear_value sv)
    | (intro sv; clear_value sv)
    | intro _
    | with_reducible apply answers_next
    | with_reducible apply answers_ite
    | lift_lets -underBinder
    | with_reducible apply enterFailed_frame
    | with_reducible apply log_frame
    | with_reducible apply frame_ite
    | with_reducible apply frame_foldl
    | with_reducible apply frame_foldr
    | split

theorem execActuatorUndervoltage_answers {P : Parts} {s0 : State} {s : State} (hs0 : Frame P s0 s) (h_regs : P.regs = true) (h_mg : P.mg = true) :
    Answers P s0 (execActuatorUndervoltage s) := by
  unfold execActuatorUndervoltage
  repeat' first
    | with_reducible assumption
    | (intro sv; refine frame_cut (a := Frame P s0 sv) ?_ ?_; on_goal 2 => dsimp -zeta only [sv]; on_goal 1 => clear_value sv)
    | (intro sv; clear_value sv)
    | intro _
    | with_reducible apply answers_next
    | with_reducible apply answers_ite
    | lift_lets -underBinder
    | with_reducible apply boardMark_frame
    | with_reducible apply frame_ite
    | with_reducible apply frame_foldl
    | with_reducible apply frame_foldr
    | split

theorem dieReading_frame {P : Parts} {s0 : State} {s : State} (d : ℕ) (t : ℕ) (hs0 : Frame P s0 s) (h_sn : P.sn = true) :
    Frame P s0 (State.dieReading s d t) := by
  unfold State.dieReading
  repeat' first
    | with_reducible assumption
    | (intro sv; refine frame_cut (a := Frame P s0 sv) ?_ ?_; on_goal 2 => dsimp -zeta only [sv]; on_goal 1 => clear_value sv)
    | (intro sv; clear_value sv)
    | intro _
    | lift_lets -underBinder
    | with_reducible apply onSn_frame
    | with_reducible apply frame_ite
    | with_reducible apply frame_foldl
    | with_reducible apply frame_foldr
    | split

theorem execDieTemperatureWarning_answers {P : Parts} {s0 : State} (d : Fin 7) (t : ℕ) {s : State} (hs0 : Frame P s0 s) (h_regs : P.regs = true) (h_mg : P.mg = true) (h_sn : P.sn = true) :
    Answers P s0 (execDieTemperatureWarning d t s) := by
  unfold execDieTemperatureWarning
  repeat' first
    | with_reducible assumption
    | (intro sv; refine frame_cut (a := Frame P s0 sv) ?_ ?_; on_goal 2 => dsimp -zeta only [sv]; on_goal 1 => clear_value sv)
    | (intro sv; clear_value sv)
    | intro _
    | with_reducible apply answers_next
    | with_reducible apply answers_ite
    | lift_lets -underBinder
    | with_reducible apply dieReading_frame
    | with_reducible apply boardMark_frame
    | with_reducible apply frame_ite
    | with_reducible apply frame_foldl
    | with_reducible apply frame_foldr
    | split

theorem execDieShutdown_answers {P : Parts} {s0 : State} (d : Fin 7) (t : ℕ) {s : State} (hs0 : Frame P s0 s) (h_regs : P.regs = true) (h_sys : P.sys = true) (h_dic : P.dic = true) (h_mg : P.mg = true) (h_mb : P.mb = true) (h_le : P.le = true) (h_sv : P.sv = true) (h_pf : P.pf = true) (h_sn : P.sn = true) (h_tr : P.tr = true) (h_tw : P.tw = true) :
    Answers P s0 (execDieShutdown d t s) := by
  unfold execDieShutdown
  repeat' first
    | with_reducible assumption
    | (intro sv; refine frame_cut (a := Frame P s0 sv) ?_ ?_; on_goal 2 => dsimp -zeta only [sv]; on_goal 1 => clear_value sv)
    | (intro sv; clear_value sv)
    | intro _
    | with_reducible apply answers_next
    | with_reducible apply answers_ite
    | lift_lets -underBinder
    | with_reducible apply dieReading_frame
    | with_reducible apply enterFailed_frame
    | with_reducible apply log_frame
    | with_reducible apply frame_ite
    | with_reducible apply frame_foldl
    | with_reducible apply frame_foldr
    | split

theorem execCoreStallDetect_answers {P : Parts} {s0 : State} (c : Fin 8) {s : State} (hs0 : Frame P s0 s) (h_regs : P.regs = true) (h_mg : P.mg = true) (h_mb : P.mb = true) (h_tw : P.tw = true) :
    Answers P s0 (execCoreStallDetect c s) := by
  unfold execCoreStallDetect
  repeat' first
    | with_reducible assumption
    | (intro sv; refine frame_cut (a := Frame P s0 sv) ?_ ?_; on_goal 2 => dsimp -zeta only [sv]; on_goal 1 => clear_value sv)
    | (intro sv; clear_value sv)
    | intro _
    | with_reducible apply answers_next
    | with_reducible apply answers_ite
    | lift_lets -underBinder
    | with_reducible apply log_frame
    | with_reducible apply repliesLost_frame
    | with_reducible apply frame_ite
    | with_reducible apply frame_foldl
    | with_reducible apply frame_foldr
    | split

theorem execHubSramScrub_answers {P : Parts} {s0 : State} (ecc : KwErr) (supervisor : Bool) {s : State} (hs0 : Frame P s0 s) (h_regs : P.regs = true) (h_sys : P.sys = true) (h_dic : P.dic = true) (h_mg : P.mg = true) (h_mb : P.mb = true) (h_le : P.le = true) (h_sv : P.sv = true) (h_pf : P.pf = true) (h_sn : P.sn = true) (h_tr : P.tr = true) (h_tw : P.tw = true) :
    Answers P s0 (execHubSramScrub ecc supervisor s) := by
  unfold execHubSramScrub
  repeat' first
    | with_reducible assumption
    | (intro sv; refine frame_cut (a := Frame P s0 sv) ?_ ?_; on_goal 2 => dsimp -zeta only [sv]; on_goal 1 => clear_value sv)
    | (intro sv; clear_value sv)
    | intro _
    | with_reducible apply answers_next
    | with_reducible apply answers_ite
    | lift_lets -underBinder
    | with_reducible apply log_frame
    | with_reducible apply enterFailed_frame
    | with_reducible apply frame_ite
    | with_reducible apply frame_foldl
    | with_reducible apply frame_foldr
    | split

theorem setExc_frame {P : Parts} {s0 : State} {s : State} (b : Bool) (hs0 : Frame P s0 s) (h_sn : P.sn = true) :
    Frame P s0 (State.setExc s b) := by
  unfold State.setExc
  repeat' first
    | with_reducible assumption
    | (intro sv; refine frame_cut (a := Frame P s0 sv) ?_ ?_; on_goal 2 => dsimp -zeta only [sv]; on_goal 1 => clear_value sv)
    | (intro sv; clear_value sv)
    | intro _
    | lift_lets -underBinder
    | with_reducible apply onSn_frame
    | with_reducible apply frame_ite
    | with_reducible apply frame_foldl
    | with_reducible apply frame_foldr
    | split

theorem execExcEnNAssert_answers {P : Parts} {s0 : State} {s : State} (hs0 : Frame P s0 s) (h_sn : P.sn = true) :
    Answers P s0 (execExcEnNAssert s) := by
  unfold execExcEnNAssert
  repeat' first
    | with_reducible assumption
    | (intro sv; refine frame_cut (a := Frame P s0 sv) ?_ ?_; on_goal 2 => dsimp -zeta only [sv]; on_goal 1 => clear_value sv)
    | (intro sv; clear_value sv)
    | intro _
    | with_reducible apply answers_next
    | with_reducible apply answers_ite
    | lift_lets -underBinder
    | with_reducible apply setExc_frame
    | with_reducible apply frame_ite
    | with_reducible apply frame_foldl
    | with_reducible apply frame_foldr
    | split

end Sys2Proof.Machine
end

