-- ==== Sys2Proof/Laws/DicFrame.lean ====
section
/-! SUPPORT. What the operations of Machine/Dic.lean may touch, and that they keep the memories canonical. -/

namespace Sys2Proof.Machine

theorem setStack_frame {P : Parts} {s0 : State} {s : State} (t : ℕ) (l : List ℕ) (hs0 : Frame P s0 s) (h_regs : P.regs = true) (h_dic : P.dic = true) :
    Frame P s0 (State.setStack s t l) := by
  unfold State.setStack
  repeat' first
    | with_reducible assumption
    | (intro sv; refine frame_cut (a := Frame P s0 sv) ?_ ?_; on_goal 2 => dsimp -zeta only [sv]; on_goal 1 => clear_value sv)
    | (intro sv; clear_value sv)
    | intro _
    | lift_lets -underBinder
    | with_reducible apply onDic_frame
    | with_reducible apply wr_frame
    | with_reducible apply frame_ite
    | with_reducible apply frame_foldl
    | with_reducible apply frame_foldr
    | split

theorem take_frame {P : Parts} {s0 : State} {s : State} (t : ℕ) (p : ℕ) (hs0 : Frame P s0 s) (h_dic : P.dic = true) :
    Frame P s0 (State.take s t p) := by
  unfold State.take
  repeat' first
    | with_reducible assumption
    | (intro sv; refine frame_cut (a := Frame P s0 sv) ?_ ?_; on_goal 2 => dsimp -zeta only [sv]; on_goal 1 => clear_value sv)
    | (intro sv; clear_value sv)
    | intro _
    | lift_lets -underBinder
    | with_reducible apply onDic_frame
    | with_reducible apply frame_ite
    | with_reducible apply frame_foldl
    | with_reducible apply frame_foldr
    | split

theorem giveBack_frame {P : Parts} {s0 : State} {s : State} (t : ℕ) (p : ℕ) (hs0 : Frame P s0 s) (h_dic : P.dic = true) :
    Frame P s0 (State.giveBack s t p) := by
  unfold State.giveBack
  repeat' first
    | with_reducible assumption
    | (intro sv; refine frame_cut (a := Frame P s0 sv) ?_ ?_; on_goal 2 => dsimp -zeta only [sv]; on_goal 1 => clear_value sv)
    | (intro sv; clear_value sv)
    | intro _
    | lift_lets -underBinder
    | with_reducible apply onDic_frame
    | with_reducible apply frame_ite
    | with_reducible apply frame_foldl
    | with_reducible apply frame_foldr
    | split

theorem takenCheck_frame {P : Parts} {s0 : State} {s : State} (hs0 : Frame P s0 s) (h_dic : P.dic = true) :
    Frame P s0 (State.takenCheck s) := by
  unfold State.takenCheck
  repeat' first
    | with_reducible assumption
    | (intro sv; refine frame_cut (a := Frame P s0 sv) ?_ ?_; on_goal 2 => dsimp -zeta only [sv]; on_goal 1 => clear_value sv)
    | (intro sv; clear_value sv)
    | intro _
    | lift_lets -underBinder
    | with_reducible apply onDic_frame
    | with_reducible apply frame_ite
    | with_reducible apply frame_foldl
    | with_reducible apply frame_foldr
    | split

theorem decide__frame {P : Parts} {s0 : State} {s : State} (t : ℕ) (hs0 : Frame P s0 s) (h_regs : P.regs = true) (h_dic : P.dic = true) :
    Frame P s0 (State.decide_ s t) := by
  unfold State.decide_
  repeat' first
    | with_reducible assumption
    | (intro sv; refine frame_cut (a := Frame P s0 sv) ?_ ?_; on_goal 2 => dsimp -zeta only [sv]; on_goal 1 => clear_value sv)
    | (intro sv; clear_value sv)
    | intro _
    | lift_lets -underBinder
    | with_reducible apply putBit_frame
    | with_reducible apply setStack_frame
    | with_reducible apply take_frame
    | with_reducible apply onDic_frame
    | with_reducible apply frame_ite
    | with_reducible apply frame_foldl
    | with_reducible apply frame_foldr
    | split

theorem execDoorbellWrite_answers {P : Parts} {s0 : State} (v : BitVec 32) {s : State} (hs0 : Frame P s0 s) (h_regs : P.regs = true) (h_dic : P.dic = true) (h_le : P.le = true) :
    Answers P s0 (execDoorbellWrite v s) := by
  unfold execDoorbellWrite
  repeat' first
    | with_reducible assumption
    | (intro sv; refine frame_cut (a := Frame P s0 sv) ?_ ?_; on_goal 2 => dsimp -zeta only [sv]; on_goal 1 => clear_value sv)
    | (intro sv; clear_value sv)
    | intro _
    | with_reducible apply answers_next
    | with_reducible apply answers_ite
    | lift_lets -underBinder
    | with_reducible apply post_frame
    | with_reducible apply incSat_frame
    | with_reducible apply frame_ite
    | with_reducible apply frame_foldl
    | with_reducible apply frame_foldr
    | split

theorem execGroupTimerFire_answers {P : Parts} {s0 : State} (g : Fin 16) {s : State} (hs0 : Frame P s0 s) (h_regs : P.regs = true) (h_dic : P.dic = true) :
    Answers P s0 (execGroupTimerFire g s) := by
  unfold execGroupTimerFire
  repeat' first
    | with_reducible assumption
    | (intro sv; refine frame_cut (a := Frame P s0 sv) ?_ ?_; on_goal 2 => dsimp -zeta only [sv]; on_goal 1 => clear_value sv)
    | (intro sv; clear_value sv)
    | intro _
    | with_reducible apply answers_next
    | with_reducible apply answers_ite
    | lift_lets -underBinder
    | with_reducible apply groupFire_frame
    | with_reducible apply same_answers
    | with_reducible apply frame_ite
    | with_reducible apply frame_foldl
    | with_reducible apply frame_foldr
    | split

theorem execDeliveryDecision_answers {P : Parts} {s0 : State} (t : Fin 9) {s : State} (hs0 : Frame P s0 s) (h_regs : P.regs = true) (h_dic : P.dic = true) :
    Answers P s0 (execDeliveryDecision t s) := by
  unfold execDeliveryDecision
  repeat' first
    | with_reducible assumption
    | (intro sv; refine frame_cut (a := Frame P s0 sv) ?_ ?_; on_goal 2 => dsimp -zeta only [sv]; on_goal 1 => clear_value sv)
    | (intro sv; clear_value sv)
    | intro _
    | with_reducible apply answers_next
    | with_reducible apply answers_ite
    | lift_lets -underBinder
    | with_reducible apply decide__frame
    | with_reducible apply same_answers
    | with_reducible apply frame_ite
    | with_reducible apply frame_foldl
    | with_reducible apply frame_foldr
    | split

theorem execEoiWrite_answers {P : Parts} {s0 : State} (t : Fin 9) (by_ : Initiator) (v : BitVec 32) {s : State} (hs0 : Frame P s0 s) (h_regs : P.regs = true) (h_dic : P.dic = true) (h_le : P.le = true) :
    Answers P s0 (execEoiWrite t by_ v s) := by
  unfold execEoiWrite
  repeat' first
    | with_reducible assumption
    | (intro sv; refine frame_cut (a := Frame P s0 sv) ?_ ?_; on_goal 2 => dsimp -zeta only [sv]; on_goal 1 => clear_value sv)
    | (intro sv; clear_value sv)
    | intro _
    | with_reducible apply answers_next
    | with_reducible apply answers_ite
    | lift_lets -underBinder
    | with_reducible apply putBit_frame
    | with_reducible apply setStack_frame
    | with_reducible apply giveBack_frame
    | with_reducible apply post_frame
    | with_reducible apply same_answers
    | with_reducible apply frame_ite
    | with_reducible apply frame_foldl
    | with_reducible apply frame_foldr
    | split

theorem execModerationIntervalEnd_answers {P : Parts} {s0 : State} (t : Fin 9) {s : State} (hs0 : Frame P s0 s) (h_dic : P.dic = true) :
    Answers P s0 (execModerationIntervalEnd t s) := by
  unfold execModerationIntervalEnd
  repeat' first
    | with_reducible assumption
    | (intro sv; refine frame_cut (a := Frame P s0 sv) ?_ ?_; on_goal 2 => dsimp -zeta only [sv]; on_goal 1 => clear_value sv)
    | (intro sv; clear_value sv)
    | intro _
    | with_reducible apply answers_next
    | with_reducible apply answers_ite
    | lift_lets -underBinder
    | with_reducible apply onDic_frame
    | with_reducible apply same_answers
    | with_reducible apply frame_ite
    | with_reducible apply frame_foldl
    | with_reducible apply frame_foldr
    | split

theorem execSleepInstruction_answers {P : Parts} {s0 : State} (t : Fin 9) {s : State} (hs0 : Frame P s0 s) (h_regs : P.regs = true) :
    Answers P s0 (execSleepInstruction t s) := by
  unfold execSleepInstruction
  repeat' first
    | with_reducible assumption
    | (intro sv; refine frame_cut (a := Frame P s0 sv) ?_ ?_; on_goal 2 => dsimp -zeta only [sv]; on_goal 1 => clear_value sv)
    | (intro sv; clear_value sv)
    | intro _
    | with_reducible apply answers_next
    | with_reducible apply answers_ite
    | lift_lets -underBinder
    | with_reducible apply putBit_frame
    | with_reducible apply same_answers
    | with_reducible apply frame_ite
    | with_reducible apply frame_foldl
    | with_reducible apply frame_foldr
    | split

theorem bootDic_frame {P : Parts} {s0 : State} {s : State} (hs0 : Frame P s0 s) (h_regs : P.regs = true) :
    Frame P s0 (State.bootDic s) := by
  unfold State.bootDic
  repeat' first
    | with_reducible assumption
    | (intro sv; refine frame_cut (a := Frame P s0 sv) ?_ ?_; on_goal 2 => dsimp -zeta only [sv]; on_goal 1 => clear_value sv)
    | (intro sv; clear_value sv)
    | intro _
    | lift_lets -underBinder
    | with_reducible apply wr_frame
    | with_reducible apply putBit_frame
    | with_reducible apply frame_ite
    | with_reducible apply frame_foldl
    | with_reducible apply frame_foldr
    | split

end Sys2Proof.Machine
end

