-- ==== Sys2Proof/Laws/FieldOpsFrame.lean ====
section
/-! SUPPORT. What the operations of Machine/FieldOps.lean may touch, and that they keep the memories canonical. -/

namespace Sys2Proof.Machine

theorem mbStore_frame {P : Parts} {s0 : State} {s : State} (n : ℕ) (m : ℕ) (f : CanFrame) (hs0 : Frame P s0 s) (h_regs : P.regs = true) :
    Frame P s0 (State.mbStore s n m f) := by
  unfold State.mbStore
  repeat' first
    | with_reducible assumption
    | (intro sv; refine frame_cut (a := Frame P s0 sv) ?_ ?_; on_goal 2 => dsimp -zeta only [sv]; on_goal 1 => clear_value sv)
    | (intro sv; clear_value sv)
    | intro _
    | lift_lets -underBinder
    | with_reducible apply wr_frame
    | with_reducible apply frame_ite
    | with_reducible apply frame_foldl
    | with_reducible apply frame_foldr
    | split

theorem txBegin_frame {P : Parts} {s0 : State} {s : State} (n : ℕ) (x : FbSrc) (exclusive : Bool) (hs0 : Frame P s0 s) (h_regs : P.regs = true) (h_fb : P.fb = true) :
    Frame P s0 (State.txBegin s n x exclusive) := by
  unfold State.txBegin
  repeat' first
    | with_reducible assumption
    | (intro sv; refine frame_cut (a := Frame P s0 sv) ?_ ?_; on_goal 2 => dsimp -zeta only [sv]; on_goal 1 => clear_value sv)
    | (intro sv; clear_value sv)
    | intro _
    | lift_lets -underBinder
    | with_reducible apply setFbCh_frame
    | with_reducible apply wr_frame
    | with_reducible apply setFbBuf_frame
    | with_reducible apply frame_ite
    | with_reducible apply frame_foldl
    | with_reducible apply frame_foldr
    | split

theorem fbPost_frame {P : Parts} {s0 : State} {s : State} (n : ℕ) (k : ℕ) (hs0 : Frame P s0 s) (h_regs : P.regs = true) (h_dic : P.dic = true) (h_le : P.le = true) :
    Frame P s0 (State.fbPost s n k) := by
  unfold State.fbPost
  repeat' first
    | with_reducible assumption
    | (intro sv; refine frame_cut (a := Frame P s0 sv) ?_ ?_; on_goal 2 => dsimp -zeta only [sv]; on_goal 1 => clear_value sv)
    | (intro sv; clear_value sv)
    | intro _
    | lift_lets -underBinder
    | with_reducible apply post_frame
    | with_reducible apply frame_ite
    | with_reducible apply frame_foldl
    | with_reducible apply frame_foldr
    | split

theorem mirrorFill_frame {P : Parts} {s0 : State} {s : State} (d : ℕ) (hs0 : Frame P s0 s) (h_fb : P.fb = true) :
    Frame P s0 (State.mirrorFill s d) := by
  unfold State.mirrorFill
  repeat' first
    | with_reducible assumption
    | (intro sv; refine frame_cut (a := Frame P s0 sv) ?_ ?_; on_goal 2 => dsimp -zeta only [sv]; on_goal 1 => clear_value sv)
    | (intro sv; clear_value sv)
    | intro _
    | lift_lets -underBinder
    | with_reducible apply setFbCh_frame
    | with_reducible apply setFbBuf_frame
    | with_reducible apply frame_ite
    | with_reducible apply frame_foldl
    | with_reducible apply frame_foldr
    | split

theorem mirrorFeed_frame {P : Parts} {s0 : State} {s : State} (hs0 : Frame P s0 s) (h_fb : P.fb = true) :
    Frame P s0 (State.mirrorFeed s) := by
  unfold State.mirrorFeed
  repeat' first
    | with_reducible assumption
    | (intro sv; refine frame_cut (a := Frame P s0 sv) ?_ ?_; on_goal 2 => dsimp -zeta only [sv]; on_goal 1 => clear_value sv)
    | (intro sv; clear_value sv)
    | intro _
    | lift_lets -underBinder
    | with_reducible apply mirrorFill_frame
    | with_reducible apply frame_ite
    | with_reducible apply frame_foldl
    | with_reducible apply frame_foldr
    | split

theorem initClear_frame {P : Parts} {s0 : State} {s : State} (n : ℕ) (hs0 : Frame P s0 s) (h_regs : P.regs = true) (h_mg : P.mg = true) :
    Frame P s0 (State.initClear s n) := by
  unfold State.initClear
  repeat' first
    | with_reducible assumption
    | (intro sv; refine frame_cut (a := Frame P s0 sv) ?_ ?_; on_goal 2 => dsimp -zeta only [sv]; on_goal 1 => clear_value sv)
    | (intro sv; clear_value sv)
    | intro _
    | lift_lets -underBinder
    | with_reducible apply log_frame
    | with_reducible apply putBit_frame
    | with_reducible apply frame_ite
    | with_reducible apply frame_foldl
    | with_reducible apply frame_foldr
    | split

theorem fcsChange_frame {P : Parts} {s0 : State} {s : State} (n : ℕ) (new : ℕ) (hs0 : Frame P s0 s) (h_regs : P.regs = true) (h_dic : P.dic = true) (h_mg : P.mg = true) (h_le : P.le = true) (h_fb : P.fb = true) :
    Frame P s0 (State.fcsChange s n new) := by
  unfold State.fcsChange
  repeat' first
    | with_reducible assumption
    | (intro sv; refine frame_cut (a := Frame P s0 sv) ?_ ?_; on_goal 2 => dsimp -zeta only [sv]; on_goal 1 => clear_value sv)
    | (intro sv; clear_value sv)
    | intro _
    | lift_lets -underBinder
    | with_reducible apply fbPost_frame
    | with_reducible apply log_frame
    | with_reducible apply wr_frame
    | with_reducible apply setFbCh_frame
    | with_reducible apply mirrorFill_frame
    | with_reducible apply putBit_frame
    | with_reducible apply frame_ite
    | with_reducible apply frame_foldl
    | with_reducible apply frame_foldr
    | split

theorem fcsUpdate_frame {P : Parts} {s0 : State} {s : State} (n : ℕ) (hs0 : Frame P s0 s) (h_regs : P.regs = true) (h_dic : P.dic = true) (h_mg : P.mg = true) (h_le : P.le = true) (h_fb : P.fb = true) :
    Frame P s0 (State.fcsUpdate s n) := by
  unfold State.fcsUpdate
  repeat' first
    | with_reducible assumption
    | (intro sv; refine frame_cut (a := Frame P s0 sv) ?_ ?_; on_goal 2 => dsimp -zeta only [sv]; on_goal 1 => clear_value sv)
    | (intro sv; clear_value sv)
    | intro _
    | lift_lets -underBinder
    | with_reducible apply fcsChange_frame
    | with_reducible apply frame_ite
    | with_reducible apply frame_foldl
    | with_reducible apply frame_foldr
    | split

theorem mbRequest_frame {P : Parts} {s0 : State} {s : State} (n : ℕ) (m : ℕ) (hs0 : Frame P s0 s) (h_regs : P.regs = true) (h_fb : P.fb = true) :
    Frame P s0 (State.mbRequest s n m) := by
  unfold State.mbRequest
  repeat' first
    | with_reducible assumption
    | (intro sv; refine frame_cut (a := Frame P s0 sv) ?_ ?_; on_goal 2 => dsimp -zeta only [sv]; on_goal 1 => clear_value sv)
    | (intro sv; clear_value sv)
    | intro _
    | lift_lets -underBinder
    | with_reducible apply wr_frame
    | with_reducible apply setFbBuf_frame
    | with_reducible apply putBit_frame
    | with_reducible apply mirrorFill_frame
    | with_reducible apply frame_ite
    | with_reducible apply frame_foldl
    | with_reducible apply frame_foldr
    | split

theorem fwSend_frame {P : Parts} {s0 : State} {s : State} (n : ℕ) (f : CanFrame) (hs0 : Frame P s0 s) (h_fb : P.fb = true) :
    Frame P s0 (State.fwSend s n f) := by
  unfold State.fwSend
  repeat' first
    | with_reducible assumption
    | (intro sv; refine frame_cut (a := Frame P s0 sv) ?_ ?_; on_goal 2 => dsimp -zeta only [sv]; on_goal 1 => clear_value sv)
    | (intro sv; clear_value sv)
    | intro _
    | lift_lets -underBinder
    | with_reducible apply setFbCh_frame
    | with_reducible apply frame_ite
    | with_reducible apply frame_foldl
    | with_reducible apply frame_foldr
    | split

theorem configReq_frame {P : Parts} {s0 : State} {s : State} (n : ℕ) (node : ℕ) (index : ℕ) (value : ℕ) (tries : ℕ) (hs0 : Frame P s0 s) (h_fb : P.fb = true) :
    Frame P s0 (State.configReq s n node index value tries) := by
  unfold State.configReq
  repeat' first
    | with_reducible assumption
    | (intro sv; refine frame_cut (a := Frame P s0 sv) ?_ ?_; on_goal 2 => dsimp -zeta only [sv]; on_goal 1 => clear_value sv)
    | (intro sv; clear_value sv)
    | intro _
    | lift_lets -underBinder
    | with_reducible apply fwSend_frame
    | with_reducible apply setFbCh_frame
    | with_reducible apply frame_ite
    | with_reducible apply frame_foldl
    | with_reducible apply frame_foldr
    | split

theorem driveReset_frame {P : Parts} {s0 : State} {s : State} (p : ℕ) (hs0 : Frame P s0 s) (h_fb : P.fb = true) :
    Frame P s0 (State.driveReset s p) := by
  unfold State.driveReset
  repeat' first
    | with_reducible assumption
    | (intro sv; refine frame_cut (a := Frame P s0 sv) ?_ ?_; on_goal 2 => dsimp -zeta only [sv]; on_goal 1 => clear_value sv)
    | (intro sv; clear_value sv)
    | intro _
    | lift_lets -underBinder
    | with_reducible apply fwSend_frame
    | with_reducible apply onFb_frame
    | with_reducible apply frame_ite
    | with_reducible apply frame_foldl
    | with_reducible apply frame_foldr
    | split

end Sys2Proof.Machine
end

