-- ==== Sys2Proof/Laws/ResetFrame.lean ====
section
/-! SUPPORT. What the operations of Machine/Reset.lean may touch, and that they keep the memories canonical. -/

namespace Sys2Proof.Machine

theorem twinReset_frame {P : Parts} {s0 : State} {s : State} (hs0 : Frame P s0 s) (h_regs : P.regs = true) (h_tw : P.tw = true) :
    Frame P s0 (State.twinReset s) := by
  unfold State.twinReset
  repeat' first
    | with_reducible assumption
    | (intro sv; refine frame_cut (a := Frame P s0 sv) ?_ ?_; on_goal 2 => dsimp -zeta only [sv]; on_goal 1 => clear_value sv)
    | (intro sv; clear_value sv)
    | intro _
    | lift_lets -underBinder
    | with_reducible apply onTw_frame
    | with_reducible apply wr_frame
    | with_reducible apply putBit_frame
    | with_reducible apply frame_ite
    | with_reducible apply frame_foldl
    | with_reducible apply frame_foldr
    | split

theorem restart_frame {P : Parts} {s0 : State} {s : State} (cause : Nat) (warm : Bool) (keep : Option Nat)
    (origin : Nat) (hs0 : Frame P s0 s) (h_time : P.time = true) (h_regs : P.regs = true) (h_mem : P.mem = true) (h_sys : P.sys = true) (h_dic : P.dic = true) (h_mg : P.mg = true) (h_mb : P.mb = true) (h_pb : P.pb = true) (h_vq : P.vq = true) (h_le : P.le = true) (h_sv : P.sv = true) (h_pf : P.pf = true) (h_sn : P.sn = true) (h_tr : P.tr = true) (h_fb : P.fb = true) (h_tw : P.tw = true) (h_ca : P.ca = true) :
    Frame P s0 (State.restart s cause warm keep origin) := by
  unfold State.restart
  extract_lets -underBinder _ _ t
  have ht : Frame P s0 t := ⟨hs0.queue, fun _ => rfl, fun hs => by dsimp only [t]; split; exacts [hs0.memWf hs, rfl],
    fun hc => absurd (h_time.symm.trans hc) (by decide), hs0.free, fun hc => absurd (h_regs.symm.trans hc) (by decide), fun hc => absurd (h_mem.symm.trans hc) (by decide), fun hc => absurd (h_sys.symm.trans hc) (by decide), fun hc => absurd (h_dic.symm.trans hc) (by decide), fun hc => absurd (h_mg.symm.trans hc) (by decide), fun hc => absurd (h_mb.symm.trans hc) (by decide), fun hc => absurd (h_pb.symm.trans hc) (by decide), fun hc => absurd (h_vq.symm.trans hc) (by decide), fun hc => absurd (h_le.symm.trans hc) (by decide), fun hc => absurd (h_sv.symm.trans hc) (by decide), fun hc => absurd (h_pf.symm.trans hc) (by decide), fun hc => absurd (h_sn.symm.trans hc) (by decide), fun hc => absurd (h_tr.symm.trans hc) (by decide), fun hc => absurd (h_fb.symm.trans hc) (by decide), fun hc => absurd (h_tw.symm.trans hc) (by decide), fun hc => absurd (h_ca.symm.trans hc) (by decide)⟩
  clear_value t
  repeat' first
    | with_reducible assumption
    | (intro sv; refine frame_cut (a := Frame P s0 sv) ?_ ?_; on_goal 2 => dsimp -zeta only [sv]; on_goal 1 => clear_value sv)
    | (intro sv; clear_value sv)
    | intro _
    | lift_lets -underBinder
    | with_reducible apply putBit_frame
    | with_reducible apply wr_frame
    | with_reducible apply twinReset_frame
    | with_reducible apply wr64_frame
    | with_reducible apply log_frame
    | with_reducible apply frame_ite
    | with_reducible apply frame_foldl
    | with_reducible apply frame_foldr
    | split


theorem coldReset_frame {P : Parts} {s0 : State} {s : State} (hs0 : Frame P s0 s) (h_time : P.time = true) (h_regs : P.regs = true) (h_mem : P.mem = true) (h_sys : P.sys = true) (h_dic : P.dic = true) (h_mg : P.mg = true) (h_mb : P.mb = true) (h_pb : P.pb = true) (h_vq : P.vq = true) (h_le : P.le = true) (h_sv : P.sv = true) (h_pf : P.pf = true) (h_sn : P.sn = true) (h_tr : P.tr = true) (h_fb : P.fb = true) (h_tw : P.tw = true) (h_ca : P.ca = true) :
    Frame P s0 (State.coldReset s) := by
  unfold State.coldReset
  repeat' first
    | with_reducible assumption
    | (intro sv; refine frame_cut (a := Frame P s0 sv) ?_ ?_; on_goal 2 => dsimp -zeta only [sv]; on_goal 1 => clear_value sv)
    | (intro sv; clear_value sv)
    | intro _
    | lift_lets -underBinder
    | with_reducible apply restart_frame
    | with_reducible apply frame_ite
    | with_reducible apply frame_foldl
    | with_reducible apply frame_foldr
    | split

theorem warmReset_frame {P : Parts} {s0 : State} {s : State} (cause : ℕ) (hs0 : Frame P s0 s) (h_time : P.time = true) (h_regs : P.regs = true) (h_mem : P.mem = true) (h_sys : P.sys = true) (h_dic : P.dic = true) (h_mg : P.mg = true) (h_mb : P.mb = true) (h_pb : P.pb = true) (h_vq : P.vq = true) (h_le : P.le = true) (h_sv : P.sv = true) (h_pf : P.pf = true) (h_sn : P.sn = true) (h_tr : P.tr = true) (h_fb : P.fb = true) (h_tw : P.tw = true) (h_ca : P.ca = true) :
    Frame P s0 (State.warmReset s cause) := by
  unfold State.warmReset
  repeat' first
    | with_reducible assumption
    | (intro sv; refine frame_cut (a := Frame P s0 sv) ?_ ?_; on_goal 2 => dsimp -zeta only [sv]; on_goal 1 => clear_value sv)
    | (intro sv; clear_value sv)
    | intro _
    | lift_lets -underBinder
    | with_reducible apply restart_frame
    | with_reducible apply frame_ite
    | with_reducible apply frame_foldl
    | with_reducible apply frame_foldr
    | split

theorem scheduledReset_frame {P : Parts} {s0 : State} {s : State} (hs0 : Frame P s0 s) (h_time : P.time = true) (h_regs : P.regs = true) (h_mem : P.mem = true) (h_sys : P.sys = true) (h_dic : P.dic = true) (h_mg : P.mg = true) (h_mb : P.mb = true) (h_pb : P.pb = true) (h_vq : P.vq = true) (h_le : P.le = true) (h_sv : P.sv = true) (h_pf : P.pf = true) (h_sn : P.sn = true) (h_tr : P.tr = true) (h_fb : P.fb = true) (h_tw : P.tw = true) (h_ca : P.ca = true) :
    Frame P s0 (State.scheduledReset s) := by
  unfold State.scheduledReset
  repeat' first
    | with_reducible assumption
    | (intro sv; refine frame_cut (a := Frame P s0 sv) ?_ ?_; on_goal 2 => dsimp -zeta only [sv]; on_goal 1 => clear_value sv)
    | (intro sv; clear_value sv)
    | intro _
    | lift_lets -underBinder
    | with_reducible apply restart_frame
    | with_reducible apply warmReset_frame
    | with_reducible apply frame_ite
    | with_reducible apply frame_foldl
    | with_reducible apply frame_foldr
    | split

theorem execPowerOn_answers {P : Parts} {s0 : State} {s : State} (hs0 : Frame P s0 s) (h_time : P.time = true) (h_regs : P.regs = true) (h_mem : P.mem = true) (h_sys : P.sys = true) (h_dic : P.dic = true) (h_mg : P.mg = true) (h_mb : P.mb = true) (h_pb : P.pb = true) (h_vq : P.vq = true) (h_le : P.le = true) (h_sv : P.sv = true) (h_pf : P.pf = true) (h_sn : P.sn = true) (h_tr : P.tr = true) (h_fb : P.fb = true) (h_tw : P.tw = true) (h_ca : P.ca = true) :
    Answers P s0 (execPowerOn s) := by
  unfold execPowerOn
  repeat' first
    | with_reducible assumption
    | (intro sv; refine frame_cut (a := Frame P s0 sv) ?_ ?_; on_goal 2 => dsimp -zeta only [sv]; on_goal 1 => clear_value sv)
    | (intro sv; clear_value sv)
    | intro _
    | with_reducible apply answers_next
    | with_reducible apply answers_ite
    | lift_lets -underBinder
    | with_reducible apply coldReset_frame
    | with_reducible apply frame_ite
    | with_reducible apply frame_foldl
    | with_reducible apply frame_foldr
    | split

theorem supplyOff_frame {P : Parts} {s0 : State} {s : State} (hs0 : Frame P s0 s) (h_time : P.time = true) (h_regs : P.regs = true) (h_mem : P.mem = true) (h_sys : P.sys = true) (h_dic : P.dic = true) (h_mg : P.mg = true) (h_mb : P.mb = true) (h_pb : P.pb = true) (h_vq : P.vq = true) (h_le : P.le = true) (h_sv : P.sv = true) (h_pf : P.pf = true) (h_sn : P.sn = true) (h_tr : P.tr = true) (h_fb : P.fb = true) (h_tw : P.tw = true) (h_ca : P.ca = true) :
    Frame P s0 (State.supplyOff s) :=
  ⟨hs0.queue, fun _ => rfl, fun _ => rfl,
    fun hc => absurd (h_time.symm.trans hc) (by decide), hs0.free, fun hc => absurd (h_regs.symm.trans hc) (by decide), fun hc => absurd (h_mem.symm.trans hc) (by decide), fun hc => absurd (h_sys.symm.trans hc) (by decide), fun hc => absurd (h_dic.symm.trans hc) (by decide), fun hc => absurd (h_mg.symm.trans hc) (by decide), fun hc => absurd (h_mb.symm.trans hc) (by decide), fun hc => absurd (h_pb.symm.trans hc) (by decide), fun hc => absurd (h_vq.symm.trans hc) (by decide), fun hc => absurd (h_le.symm.trans hc) (by decide), fun hc => absurd (h_sv.symm.trans hc) (by decide), fun hc => absurd (h_pf.symm.trans hc) (by decide), fun hc => absurd (h_sn.symm.trans hc) (by decide), fun hc => absurd (h_tr.symm.trans hc) (by decide), fun hc => absurd (h_fb.symm.trans hc) (by decide), fun hc => absurd (h_tw.symm.trans hc) (by decide), fun hc => absurd (h_ca.symm.trans hc) (by decide)⟩

theorem execVinBrownout_answers {P : Parts} {s0 : State} {s : State} (hs0 : Frame P s0 s) (h_time : P.time = true) (h_regs : P.regs = true) (h_mem : P.mem = true) (h_sys : P.sys = true) (h_dic : P.dic = true) (h_mg : P.mg = true) (h_mb : P.mb = true) (h_pb : P.pb = true) (h_vq : P.vq = true) (h_le : P.le = true) (h_sv : P.sv = true) (h_pf : P.pf = true) (h_sn : P.sn = true) (h_tr : P.tr = true) (h_fb : P.fb = true) (h_tw : P.tw = true) (h_ca : P.ca = true) :
    Answers P s0 (execVinBrownout s) := by
  unfold execVinBrownout
  repeat' first
    | with_reducible assumption
    | (intro sv; refine frame_cut (a := Frame P s0 sv) ?_ ?_; on_goal 2 => dsimp -zeta only [sv]; on_goal 1 => clear_value sv)
    | (intro sv; clear_value sv)
    | intro _
    | with_reducible apply answers_next
    | with_reducible apply answers_ite
    | lift_lets -underBinder
    | with_reducible apply wr_frame
    | with_reducible apply supplyOff_frame
    | with_reducible apply frame_ite
    | with_reducible apply frame_foldl
    | with_reducible apply frame_foldr
    | split

theorem execResetButton_answers {P : Parts} {s0 : State} {s : State} (hs0 : Frame P s0 s) (h_time : P.time = true) (h_regs : P.regs = true) (h_mem : P.mem = true) (h_sys : P.sys = true) (h_dic : P.dic = true) (h_mg : P.mg = true) (h_mb : P.mb = true) (h_pb : P.pb = true) (h_vq : P.vq = true) (h_le : P.le = true) (h_sv : P.sv = true) (h_pf : P.pf = true) (h_sn : P.sn = true) (h_tr : P.tr = true) (h_fb : P.fb = true) (h_tw : P.tw = true) (h_ca : P.ca = true) :
    Answers P s0 (execResetButton s) := by
  unfold execResetButton
  repeat' first
    | with_reducible assumption
    | (intro sv; refine frame_cut (a := Frame P s0 sv) ?_ ?_; on_goal 2 => dsimp -zeta only [sv]; on_goal 1 => clear_value sv)
    | (intro sv; clear_value sv)
    | intro _
    | with_reducible apply answers_next
    | with_reducible apply answers_ite
    | lift_lets -underBinder
    | with_reducible apply warmReset_frame
    | with_reducible apply frame_ite
    | with_reducible apply frame_foldl
    | with_reducible apply frame_foldr
    | split

theorem execScheduledWarmReset_answers {P : Parts} {s0 : State} {s : State} (hs0 : Frame P s0 s) (h_time : P.time = true) (h_regs : P.regs = true) (h_mem : P.mem = true) (h_sys : P.sys = true) (h_dic : P.dic = true) (h_mg : P.mg = true) (h_mb : P.mb = true) (h_pb : P.pb = true) (h_vq : P.vq = true) (h_le : P.le = true) (h_sv : P.sv = true) (h_pf : P.pf = true) (h_sn : P.sn = true) (h_tr : P.tr = true) (h_fb : P.fb = true) (h_tw : P.tw = true) (h_ca : P.ca = true) :
    Answers P s0 (execScheduledWarmReset s) := by
  unfold execScheduledWarmReset
  repeat' first
    | with_reducible assumption
    | (intro sv; refine frame_cut (a := Frame P s0 sv) ?_ ?_; on_goal 2 => dsimp -zeta only [sv]; on_goal 1 => clear_value sv)
    | (intro sv; clear_value sv)
    | intro _
    | with_reducible apply answers_next
    | with_reducible apply answers_ite
    | lift_lets -underBinder
    | with_reducible apply scheduledReset_frame
    | with_reducible apply frame_ite
    | with_reducible apply frame_foldl
    | with_reducible apply frame_foldr
    | split

theorem execWarmArmWrite_answers {P : Parts} {s0 : State} (by_ : Initiator) {s : State} (hs0 : Frame P s0 s) (h_time : P.time = true) (h_regs : P.regs = true) (h_mem : P.mem = true) (h_sys : P.sys = true) (h_dic : P.dic = true) (h_mg : P.mg = true) (h_mb : P.mb = true) (h_pb : P.pb = true) (h_vq : P.vq = true) (h_le : P.le = true) (h_sv : P.sv = true) (h_pf : P.pf = true) (h_sn : P.sn = true) (h_tr : P.tr = true) (h_fb : P.fb = true) (h_tw : P.tw = true) (h_ca : P.ca = true) :
    Answers P s0 (execWarmArmWrite by_ s) := by
  unfold execWarmArmWrite
  repeat' first
    | with_reducible assumption
    | (intro sv; refine frame_cut (a := Frame P s0 sv) ?_ ?_; on_goal 2 => dsimp -zeta only [sv]; on_goal 1 => clear_value sv)
    | (intro sv; clear_value sv)
    | intro _
    | with_reducible apply answers_next
    | with_reducible apply answers_ite
    | lift_lets -underBinder
    | with_reducible apply putBit_frame
    | with_reducible apply scheduledReset_frame
    | with_reducible apply frame_ite
    | with_reducible apply frame_foldl
    | with_reducible apply frame_foldr
    | split

theorem execSupplyLoss_answers {P : Parts} {s0 : State} {s : State} (hs0 : Frame P s0 s) (h_time : P.time = true) (h_regs : P.regs = true) (h_mem : P.mem = true) (h_sys : P.sys = true) (h_dic : P.dic = true) (h_mg : P.mg = true) (h_mb : P.mb = true) (h_pb : P.pb = true) (h_vq : P.vq = true) (h_le : P.le = true) (h_sv : P.sv = true) (h_pf : P.pf = true) (h_sn : P.sn = true) (h_tr : P.tr = true) (h_fb : P.fb = true) (h_tw : P.tw = true) (h_ca : P.ca = true) :
    Answers P s0 (execSupplyLoss s) := by
  unfold execSupplyLoss
  repeat' first
    | with_reducible assumption
    | (intro sv; refine frame_cut (a := Frame P s0 sv) ?_ ?_; on_goal 2 => dsimp -zeta only [sv]; on_goal 1 => clear_value sv)
    | (intro sv; clear_value sv)
    | intro _
    | with_reducible apply answers_next
    | with_reducible apply answers_ite
    | lift_lets -underBinder
    | with_reducible apply supplyOff_frame
    | with_reducible apply frame_ite
    | with_reducible apply frame_foldl
    | with_reducible apply frame_foldr
    | split

theorem execPllLock_answers {P : Parts} {s0 : State} {s : State} (hs0 : Frame P s0 s) (h_time : P.time = true) (h_regs : P.regs = true) (h_sys : P.sys = true) (h_mg : P.mg = true) :
    Answers P s0 (execPllLock s) := by
  unfold execPllLock
  repeat' first
    | with_reducible assumption
    | (intro sv; refine frame_cut (a := Frame P s0 sv) ?_ ?_; on_goal 2 => dsimp -zeta only [sv]; on_goal 1 => clear_value sv)
    | (intro sv; clear_value sv)
    | intro _
    | with_reducible apply answers_next
    | with_reducible apply answers_ite
    | lift_lets -underBinder
    | with_reducible apply putBit_frame
    | with_reducible apply onMg_frame
    | with_reducible apply onSys_frame
    | with_reducible apply set_time_frame
    | with_reducible apply frame_ite
    | with_reducible apply frame_foldl
    | with_reducible apply frame_foldr
    | split

theorem execPllUnlock_answers {P : Parts} {s0 : State} {s : State} (hs0 : Frame P s0 s) (h_regs : P.regs = true) (h_sys : P.sys = true) (h_dic : P.dic = true) (h_mg : P.mg = true) (h_mb : P.mb = true) (h_le : P.le = true) (h_sv : P.sv = true) (h_pf : P.pf = true) (h_sn : P.sn = true) (h_tr : P.tr = true) (h_tw : P.tw = true) :
    Answers P s0 (execPllUnlock s) := by
  unfold execPllUnlock
  repeat' first
    | with_reducible assumption
    | (intro sv; refine frame_cut (a := Frame P s0 sv) ?_ ?_; on_goal 2 => dsimp -zeta only [sv]; on_goal 1 => clear_value sv)
    | (intro sv; clear_value sv)
    | intro _
    | with_reducible apply answers_next
    | with_reducible apply answers_ite
    | lift_lets -underBinder
    | with_reducible apply enterFailed_frame
    | with_reducible apply note_frame
    | with_reducible apply putBit_frame
    | with_reducible apply frame_ite
    | with_reducible apply frame_foldl
    | with_reducible apply frame_foldr
    | split

theorem execCkTimeLoRead_answers {P : Parts} {s0 : State} {s : State} (hs0 : Frame P s0 s) (h_regs : P.regs = true) (h_mb : P.mb = true) :
    Answers P s0 (execCkTimeLoRead s) := by
  unfold execCkTimeLoRead
  repeat' first
    | with_reducible assumption
    | (intro sv; refine frame_cut (a := Frame P s0 sv) ?_ ?_; on_goal 2 => dsimp -zeta only [sv]; on_goal 1 => clear_value sv)
    | (intro sv; clear_value sv)
    | intro _
    | with_reducible apply answers_next
    | with_reducible apply answers_ite
    | lift_lets -underBinder
    | with_reducible apply reply_frame
    | with_reducible apply wr64_frame
    | with_reducible apply frame_ite
    | with_reducible apply frame_foldl
    | with_reducible apply frame_foldr
    | split

theorem execTimebaseSave_answers {P : Parts} {s0 : State} {s : State} (hs0 : Frame P s0 s) (h_mg : P.mg = true) :
    Answers P s0 (execTimebaseSave s) := by
  unfold execTimebaseSave
  repeat' first
    | with_reducible assumption
    | (intro sv; refine frame_cut (a := Frame P s0 sv) ?_ ?_; on_goal 2 => dsimp -zeta only [sv]; on_goal 1 => clear_value sv)
    | (intro sv; clear_value sv)
    | intro _
    | with_reducible apply answers_next
    | with_reducible apply answers_ite
    | lift_lets -underBinder
    | with_reducible apply onMg_frame
    | with_reducible apply frame_ite
    | with_reducible apply frame_foldl
    | with_reducible apply frame_foldr
    | split

theorem execTimebaseStep_answers {P : Parts} {s0 : State} (dest : ℕ) (partner : Bool) {s : State} (hs0 : Frame P s0 s) (h_time : P.time = true) (h_regs : P.regs = true) (h_sys : P.sys = true) (h_mg : P.mg = true) (h_tw : P.tw = true) :
    Answers P s0 (execTimebaseStep dest partner s) := by
  unfold execTimebaseStep
  repeat' first
    | with_reducible assumption
    | (intro sv; refine frame_cut (a := Frame P s0 sv) ?_ ?_; on_goal 2 => dsimp -zeta only [sv]; on_goal 1 => clear_value sv)
    | (intro sv; clear_value sv)
    | intro _
    | with_reducible apply answers_next
    | with_reducible apply answers_ite
    | lift_lets -underBinder
    | with_reducible apply putBit_frame
    | with_reducible apply onSys_frame
    | with_reducible apply onTw_frame
    | with_reducible apply onMg_frame
    | with_reducible apply log_frame
    | with_reducible apply set_time_frame
    | with_reducible apply frame_ite
    | with_reducible apply frame_foldl
    | with_reducible apply frame_foldr
    | split

theorem execPtmDialog_answers {P : Parts} {s0 : State} (offset : Option ℤ) {s : State} (hs0 : Frame P s0 s) (h_free : P.free = true) (h_regs : P.regs = true) (h_dic : P.dic = true) (h_mg : P.mg = true) (h_mb : P.mb = true) (h_le : P.le = true) :
    Answers P s0 (execPtmDialog offset s) := by
  unfold execPtmDialog
  repeat' first
    | with_reducible assumption
    | (intro sv; refine frame_cut (a := Frame P s0 sv) ?_ ?_; on_goal 2 => dsimp -zeta only [sv]; on_goal 1 => clear_value sv)
    | (intro sv; clear_value sv)
    | intro _
    | with_reducible apply answers_next
    | with_reducible apply answers_ite
    | lift_lets -underBinder
    | with_reducible apply putBit_frame
    | with_reducible apply onMb_frame
    | with_reducible apply post_frame
    | with_reducible apply drew_frame
    | with_reducible apply wr_frame
    | with_reducible apply note_frame
    | with_reducible apply frame_ite
    | with_reducible apply frame_foldl
    | with_reducible apply frame_foldr
    | split

end Sys2Proof.Machine
end

