-- ==== Sys2Proof/Laws/PumpsFrame.lean ====
section
/-! SUPPORT. What the operations of Machine/Pumps.lean may touch, and that they keep the memories canonical. -/

namespace Sys2Proof.Machine

theorem execPumpKick_answers {P : Parts} {s0 : State} (k : Fin 12) {s : State} (hs0 : Frame P s0 s) (h_regs : P.regs = true) (h_pf : P.pf = true) :
    Answers P s0 (execPumpKick k s) := by
  unfold execPumpKick
  repeat' first
    | with_reducible assumption
    | (intro sv; refine frame_cut (a := Frame P s0 sv) ?_ ?_; on_goal 2 => dsimp -zeta only [sv]; on_goal 1 => clear_value sv)
    | (intro sv; clear_value sv)
    | intro _
    | with_reducible apply answers_next
    | with_reducible apply answers_ite
    | lift_lets -underBinder
    | with_reducible apply startKick_frame
    | with_reducible apply frame_ite
    | with_reducible apply frame_foldl
    | with_reducible apply frame_foldr
    | split

theorem execKickEnd_answers {P : Parts} {s0 : State} (k : Fin 12) (pulses : ℕ) (sinceLast : ℕ) {s : State} (hs0 : Frame P s0 s) (h_regs : P.regs = true) (h_dic : P.dic = true) (h_mg : P.mg = true) (h_le : P.le = true) (h_pf : P.pf = true) :
    Answers P s0 (execKickEnd k pulses sinceLast s) := by
  unfold execKickEnd
  repeat' first
    | with_reducible assumption
    | (intro sv; refine frame_cut (a := Frame P s0 sv) ?_ ?_; on_goal 2 => dsimp -zeta only [sv]; on_goal 1 => clear_value sv)
    | (intro sv; clear_value sv)
    | intro _
    | with_reducible apply answers_next
    | with_reducible apply answers_ite
    | lift_lets -underBinder
    | with_reducible apply endKick_frame
    | with_reducible apply frame_ite
    | with_reducible apply frame_foldl
    | with_reducible apply frame_foldr
    | split

theorem execKickRetry_answers {P : Parts} {s0 : State} (k : Fin 12) {s : State} (hs0 : Frame P s0 s) (h_regs : P.regs = true) (h_pf : P.pf = true) :
    Answers P s0 (execKickRetry k s) := by
  unfold execKickRetry
  repeat' first
    | with_reducible assumption
    | (intro sv; refine frame_cut (a := Frame P s0 sv) ?_ ?_; on_goal 2 => dsimp -zeta only [sv]; on_goal 1 => clear_value sv)
    | (intro sv; clear_value sv)
    | intro _
    | with_reducible apply answers_next
    | with_reducible apply answers_ite
    | lift_lets -underBinder
    | with_reducible apply kick_frame
    | with_reducible apply frame_ite
    | with_reducible apply frame_foldl
    | with_reducible apply frame_foldr
    | split

theorem execTachLoss_answers {P : Parts} {s0 : State} (k : Fin 12) {s : State} (hs0 : Frame P s0 s) (h_regs : P.regs = true) (h_dic : P.dic = true) (h_mg : P.mg = true) (h_le : P.le = true) (h_pf : P.pf = true) :
    Answers P s0 (execTachLoss k s) := by
  unfold execTachLoss
  repeat' first
    | with_reducible assumption
    | (intro sv; refine frame_cut (a := Frame P s0 sv) ?_ ?_; on_goal 2 => dsimp -zeta only [sv]; on_goal 1 => clear_value sv)
    | (intro sv; clear_value sv)
    | intro _
    | with_reducible apply answers_next
    | with_reducible apply answers_ite
    | lift_lets -underBinder
    | with_reducible apply wr_frame
    | with_reducible apply log_frame
    | with_reducible apply pfTo_frame
    | with_reducible apply pfFail_frame
    | with_reducible apply setPfCh_frame
    | with_reducible apply frame_ite
    | with_reducible apply frame_foldl
    | with_reducible apply frame_foldr
    | split

theorem execTachRestore_answers {P : Parts} {s0 : State} (k : Fin 12) (rpm : ℕ) {s : State} (hs0 : Frame P s0 s) (h_regs : P.regs = true) (h_pf : P.pf = true) :
    Answers P s0 (execTachRestore k rpm s) := by
  unfold execTachRestore
  repeat' first
    | with_reducible assumption
    | (intro sv; refine frame_cut (a := Frame P s0 sv) ?_ ?_; on_goal 2 => dsimp -zeta only [sv]; on_goal 1 => clear_value sv)
    | (intro sv; clear_value sv)
    | intro _
    | with_reducible apply answers_next
    | with_reducible apply answers_ite
    | lift_lets -underBinder
    | with_reducible apply setPfCh_frame
    | with_reducible apply wr_frame
    | with_reducible apply distribute_frame
    | with_reducible apply pfTo_frame
    | with_reducible apply frame_ite
    | with_reducible apply frame_foldl
    | with_reducible apply frame_foldr
    | split

theorem execCurrentBandExit_answers {P : Parts} {s0 : State} (k : Fin 12) {s : State} (hs0 : Frame P s0 s) (h_regs : P.regs = true) (h_dic : P.dic = true) (h_mg : P.mg = true) (h_le : P.le = true) (h_pf : P.pf = true) :
    Answers P s0 (execCurrentBandExit k s) := by
  unfold execCurrentBandExit
  repeat' first
    | with_reducible assumption
    | (intro sv; refine frame_cut (a := Frame P s0 sv) ?_ ?_; on_goal 2 => dsimp -zeta only [sv]; on_goal 1 => clear_value sv)
    | (intro sv; clear_value sv)
    | intro _
    | with_reducible apply answers_next
    | with_reducible apply answers_ite
    | lift_lets -underBinder
    | with_reducible apply pfFail_frame
    | with_reducible apply frame_ite
    | with_reducible apply frame_foldl
    | with_reducible apply frame_foldr
    | split

theorem driveFault_frame {P : Parts} {s0 : State} {s : State} (n : ℕ) (closed : Bool) (can : Bool) (hs0 : Frame P s0 s) (h_regs : P.regs = true) (h_dic : P.dic = true) (h_mg : P.mg = true) (h_le : P.le = true) (h_pf : P.pf = true) :
    Frame P s0 (State.driveFault s n closed can) := by
  unfold State.driveFault
  repeat' first
    | with_reducible assumption
    | (intro sv; refine frame_cut (a := Frame P s0 sv) ?_ ?_; on_goal 2 => dsimp -zeta only [sv]; on_goal 1 => clear_value sv)
    | (intro sv; clear_value sv)
    | intro _
    | lift_lets -underBinder
    | with_reducible apply setPfCh_frame
    | with_reducible apply putBit_frame
    | with_reducible apply pfFail_frame
    | with_reducible apply wr_frame
    | with_reducible apply frame_ite
    | with_reducible apply frame_foldl
    | with_reducible apply frame_foldr
    | split

theorem execDriveFault_answers {P : Parts} {s0 : State} (n : Fin 4) (closed : Bool) (can : Bool) {s : State} (hs0 : Frame P s0 s) (h_regs : P.regs = true) (h_dic : P.dic = true) (h_mg : P.mg = true) (h_le : P.le = true) (h_pf : P.pf = true) :
    Answers P s0 (execDriveFault n closed can s) := by
  unfold execDriveFault
  repeat' first
    | with_reducible assumption
    | (intro sv; refine frame_cut (a := Frame P s0 sv) ?_ ?_; on_goal 2 => dsimp -zeta only [sv]; on_goal 1 => clear_value sv)
    | (intro sv; clear_value sv)
    | intro _
    | with_reducible apply answers_next
    | with_reducible apply answers_ite
    | lift_lets -underBinder
    | with_reducible apply driveFault_frame
    | with_reducible apply frame_ite
    | with_reducible apply frame_foldl
    | with_reducible apply frame_foldr
    | split

theorem execFanOvercurrent_answers {P : Parts} {s0 : State} (k : Fin 8) (ma : ℕ) {s : State} (hs0 : Frame P s0 s) (h_regs : P.regs = true) (h_dic : P.dic = true) (h_mg : P.mg = true) (h_le : P.le = true) (h_pf : P.pf = true) :
    Answers P s0 (execFanOvercurrent k ma s) := by
  unfold execFanOvercurrent
  repeat' first
    | with_reducible assumption
    | (intro sv; refine frame_cut (a := Frame P s0 sv) ?_ ?_; on_goal 2 => dsimp -zeta only [sv]; on_goal 1 => clear_value sv)
    | (intro sv; clear_value sv)
    | intro _
    | with_reducible apply answers_next
    | with_reducible apply answers_ite
    | lift_lets -underBinder
    | with_reducible apply setPfCh_frame
    | with_reducible apply wr_frame
    | with_reducible apply pfFail_frame
    | with_reducible apply putBit_frame
    | with_reducible apply frame_ite
    | with_reducible apply frame_foldl
    | with_reducible apply frame_foldr
    | split

theorem execPumpStageIn_answers {P : Parts} {s0 : State} {s : State} (hs0 : Frame P s0 s) (h_regs : P.regs = true) (h_pf : P.pf = true) :
    Answers P s0 (execPumpStageIn s) := by
  unfold execPumpStageIn
  repeat' first
    | with_reducible assumption
    | (intro sv; refine frame_cut (a := Frame P s0 sv) ?_ ?_; on_goal 2 => dsimp -zeta only [sv]; on_goal 1 => clear_value sv)
    | (intro sv; clear_value sv)
    | intro _
    | with_reducible apply answers_next
    | with_reducible apply answers_ite
    | lift_lets -underBinder
    | with_reducible apply onPf_frame
    | with_reducible apply queuePump_frame
    | with_reducible apply frame_ite
    | with_reducible apply frame_foldl
    | with_reducible apply frame_foldr
    | split

theorem execPumpStageOut_answers {P : Parts} {s0 : State} {s : State} (hs0 : Frame P s0 s) (h_regs : P.regs = true) (h_pf : P.pf = true) :
    Answers P s0 (execPumpStageOut s) := by
  unfold execPumpStageOut
  repeat' first
    | with_reducible assumption
    | (intro sv; refine frame_cut (a := Frame P s0 sv) ?_ ?_; on_goal 2 => dsimp -zeta only [sv]; on_goal 1 => clear_value sv)
    | (intro sv; clear_value sv)
    | intro _
    | with_reducible apply answers_next
    | with_reducible apply answers_ite
    | lift_lets -underBinder
    | with_reducible apply stopPump_frame
    | with_reducible apply frame_ite
    | with_reducible apply frame_foldl
    | with_reducible apply frame_foldr
    | split

theorem execPumpRotation_answers {P : Parts} {s0 : State} {s : State} (hs0 : Frame P s0 s) (h_regs : P.regs = true) (h_mg : P.mg = true) (h_pf : P.pf = true) :
    Answers P s0 (execPumpRotation s) := by
  unfold execPumpRotation
  repeat' first
    | with_reducible assumption
    | (intro sv; refine frame_cut (a := Frame P s0 sv) ?_ ?_; on_goal 2 => dsimp -zeta only [sv]; on_goal 1 => clear_value sv)
    | (intro sv; clear_value sv)
    | intro _
    | with_reducible apply answers_next
    | with_reducible apply answers_ite
    | lift_lets -underBinder
    | with_reducible apply putBit_frame
    | with_reducible apply queuePump_frame
    | with_reducible apply onMg_frame
    | with_reducible apply onPf_frame
    | with_reducible apply frame_ite
    | with_reducible apply frame_foldl
    | with_reducible apply frame_foldr
    | split

theorem execRunHoursSave_answers {P : Parts} {s0 : State} {s : State} (hs0 : Frame P s0 s) (h_mg : P.mg = true) (h_pf : P.pf = true) :
    Answers P s0 (execRunHoursSave s) := by
  unfold execRunHoursSave
  repeat' first
    | with_reducible assumption
    | (intro sv; refine frame_cut (a := Frame P s0 sv) ?_ ?_; on_goal 2 => dsimp -zeta only [sv]; on_goal 1 => clear_value sv)
    | (intro sv; clear_value sv)
    | intro _
    | with_reducible apply answers_next
    | with_reducible apply answers_ite
    | lift_lets -underBinder
    | with_reducible apply onMg_frame
    | with_reducible apply onPf_frame
    | with_reducible apply frame_ite
    | with_reducible apply frame_foldl
    | with_reducible apply frame_foldr
    | split

theorem execPfRotNowWrite_answers {P : Parts} {s0 : State} {s : State} (hs0 : Frame P s0 s) (h_regs : P.regs = true) (h_pf : P.pf = true) :
    Answers P s0 (execPfRotNowWrite s) := by
  unfold execPfRotNowWrite
  repeat' first
    | with_reducible assumption
    | (intro sv; refine frame_cut (a := Frame P s0 sv) ?_ ?_; on_goal 2 => dsimp -zeta only [sv]; on_goal 1 => clear_value sv)
    | (intro sv; clear_value sv)
    | intro _
    | with_reducible apply answers_next
    | with_reducible apply answers_ite
    | lift_lets -underBinder
    | with_reducible apply onPf_frame
    | with_reducible apply putBit_frame
    | with_reducible apply frame_ite
    | with_reducible apply frame_foldl
    | with_reducible apply frame_foldr
    | split

theorem reenable_frame {P : Parts} {s0 : State} {s : State} (k : ℕ) (hs0 : Frame P s0 s) (h_regs : P.regs = true) (h_pf : P.pf = true) (h_fb : P.fb = true) :
    Frame P s0 (State.reenable s k) := by
  unfold State.reenable
  repeat' first
    | with_reducible assumption
    | (intro sv; refine frame_cut (a := Frame P s0 sv) ?_ ?_; on_goal 2 => dsimp -zeta only [sv]; on_goal 1 => clear_value sv)
    | (intro sv; clear_value sv)
    | intro _
    | lift_lets -underBinder
    | with_reducible apply putBit_frame
    | with_reducible apply wr_frame
    | with_reducible apply driveReset_frame
    | with_reducible apply pfTo_frame
    | with_reducible apply pmWork_frame
    | with_reducible apply frame_ite
    | with_reducible apply frame_foldl
    | with_reducible apply frame_foldr
    | split

theorem disable_frame {P : Parts} {s0 : State} {s : State} (k : ℕ) (hs0 : Frame P s0 s) (h_regs : P.regs = true) (h_pf : P.pf = true) :
    Frame P s0 (State.disable s k) := by
  unfold State.disable
  repeat' first
    | with_reducible assumption
    | (intro sv; refine frame_cut (a := Frame P s0 sv) ?_ ?_; on_goal 2 => dsimp -zeta only [sv]; on_goal 1 => clear_value sv)
    | (intro sv; clear_value sv)
    | intro _
    | lift_lets -underBinder
    | with_reducible apply wr_frame
    | with_reducible apply putBit_frame
    | with_reducible apply pfTo_frame
    | with_reducible apply pmWork_frame
    | with_reducible apply frame_ite
    | with_reducible apply frame_foldl
    | with_reducible apply frame_foldr
    | split

theorem execChannelReenable_answers {P : Parts} {s0 : State} (k : Fin 12) {s : State} (hs0 : Frame P s0 s) (h_regs : P.regs = true) (h_pf : P.pf = true) (h_fb : P.fb = true) :
    Answers P s0 (execChannelReenable k s) := by
  unfold execChannelReenable
  repeat' first
    | with_reducible assumption
    | (intro sv; refine frame_cut (a := Frame P s0 sv) ?_ ?_; on_goal 2 => dsimp -zeta only [sv]; on_goal 1 => clear_value sv)
    | (intro sv; clear_value sv)
    | intro _
    | with_reducible apply answers_next
    | with_reducible apply answers_ite
    | lift_lets -underBinder
    | with_reducible apply reenable_frame
    | with_reducible apply frame_ite
    | with_reducible apply frame_foldl
    | with_reducible apply frame_foldr
    | split

theorem aoStatus_frame {P : Parts} {s0 : State} {s : State} (n : ℕ) (f : RF) (on : Bool) (hs0 : Frame P s0 s) (h_regs : P.regs = true) (h_dic : P.dic = true) (h_mg : P.mg = true) (h_le : P.le = true) :
    Frame P s0 (State.aoStatus s n f on) := by
  unfold State.aoStatus
  repeat' first
    | with_reducible assumption
    | (intro sv; refine frame_cut (a := Frame P s0 sv) ?_ ?_; on_goal 2 => dsimp -zeta only [sv]; on_goal 1 => clear_value sv)
    | (intro sv; clear_value sv)
    | intro _
    | lift_lets -underBinder
    | with_reducible apply putBit_frame
    | with_reducible apply note_frame
    | with_reducible apply frame_ite
    | with_reducible apply frame_foldl
    | with_reducible apply frame_foldr
    | split

theorem execAoOpen_answers {P : Parts} {s0 : State} (n : Fin 20) (read : ℕ) (opened : Bool) {s : State} (hs0 : Frame P s0 s) (h_regs : P.regs = true) (h_dic : P.dic = true) (h_mg : P.mg = true) (h_le : P.le = true) (h_pf : P.pf = true) :
    Answers P s0 (execAoOpen n read opened s) := by
  unfold execAoOpen
  repeat' first
    | with_reducible assumption
    | (intro sv; refine frame_cut (a := Frame P s0 sv) ?_ ?_; on_goal 2 => dsimp -zeta only [sv]; on_goal 1 => clear_value sv)
    | (intro sv; clear_value sv)
    | intro _
    | with_reducible apply answers_next
    | with_reducible apply answers_ite
    | lift_lets -underBinder
    | with_reducible apply wr_frame
    | with_reducible apply onPf_frame
    | with_reducible apply aoStatus_frame
    | with_reducible apply frame_ite
    | with_reducible apply frame_foldl
    | with_reducible apply frame_foldr
    | split

theorem execAoOverload_answers {P : Parts} {s0 : State} (n : Fin 20) (ma : ℕ) {s : State} (hs0 : Frame P s0 s) (h_regs : P.regs = true) (h_dic : P.dic = true) (h_mg : P.mg = true) (h_le : P.le = true) :
    Answers P s0 (execAoOverload n ma s) := by
  unfold execAoOverload
  repeat' first
    | with_reducible assumption
    | (intro sv; refine frame_cut (a := Frame P s0 sv) ?_ ?_; on_goal 2 => dsimp -zeta only [sv]; on_goal 1 => clear_value sv)
    | (intro sv; clear_value sv)
    | intro _
    | with_reducible apply answers_next
    | with_reducible apply answers_ite
    | lift_lets -underBinder
    | with_reducible apply aoStatus_frame
    | with_reducible apply frame_ite
    | with_reducible apply frame_foldl
    | with_reducible apply frame_foldr
    | split

theorem execSlowFallEvaluation_answers {P : Parts} {s0 : State} {s : State} (hs0 : Frame P s0 s) (h_regs : P.regs = true) (h_dic : P.dic = true) (h_mg : P.mg = true) (h_le : P.le = true) (h_pf : P.pf = true) :
    Answers P s0 (execSlowFallEvaluation s) := by
  unfold execSlowFallEvaluation
  repeat' first
    | with_reducible assumption
    | (intro sv; refine frame_cut (a := Frame P s0 sv) ?_ ?_; on_goal 2 => dsimp -zeta only [sv]; on_goal 1 => clear_value sv)
    | (intro sv; clear_value sv)
    | intro _
    | with_reducible apply answers_next
    | with_reducible apply answers_ite
    | lift_lets -underBinder
    | with_reducible apply onPf_frame
    | with_reducible apply slowAll_frame
    | with_reducible apply frame_ite
    | with_reducible apply frame_foldl
    | with_reducible apply frame_foldr
    | split

theorem stopNow_frame {P : Parts} {s0 : State} {s : State} (hs0 : Frame P s0 s) (h_regs : P.regs = true) (h_sys : P.sys = true) (h_dic : P.dic = true) (h_mg : P.mg = true) (h_mb : P.mb = true) (h_pb : P.pb = true) (h_le : P.le = true) (h_sv : P.sv = true) (h_pf : P.pf = true) (h_tr : P.tr = true) (h_tw : P.tw = true) :
    Frame P s0 (State.stopNow s) := by
  unfold State.stopNow
  repeat' first
    | with_reducible assumption
    | (intro sv; refine frame_cut (a := Frame P s0 sv) ?_ ?_; on_goal 2 => dsimp -zeta only [sv]; on_goal 1 => clear_value sv)
    | (intro sv; clear_value sv)
    | intro _
    | lift_lets -underBinder
    | with_reducible apply coolantStop_frame
    | with_reducible apply note_frame
    | with_reducible apply putBit_frame
    | with_reducible apply frame_ite
    | with_reducible apply frame_foldl
    | with_reducible apply frame_foldr
    | split

theorem stopDetect_frame {P : Parts} {s0 : State} {s : State} (hs0 : Frame P s0 s) (h_regs : P.regs = true) (h_sys : P.sys = true) (h_dic : P.dic = true) (h_mg : P.mg = true) (h_mb : P.mb = true) (h_pb : P.pb = true) (h_le : P.le = true) (h_sv : P.sv = true) (h_pf : P.pf = true) (h_tr : P.tr = true) (h_tw : P.tw = true) :
    Frame P s0 (State.stopDetect s) := by
  unfold State.stopDetect
  repeat' first
    | with_reducible assumption
    | (intro sv; refine frame_cut (a := Frame P s0 sv) ?_ ?_; on_goal 2 => dsimp -zeta only [sv]; on_goal 1 => clear_value sv)
    | (intro sv; clear_value sv)
    | intro _
    | lift_lets -underBinder
    | with_reducible apply setTmInput_frame
    | with_reducible apply stopNow_frame
    | with_reducible apply frame_ite
    | with_reducible apply frame_foldl
    | with_reducible apply frame_foldr
    | split

theorem stopFlag_frame {P : Parts} {s0 : State} {s : State} (f : RF) (on : Bool) (hs0 : Frame P s0 s) (h_regs : P.regs = true) (h_mg : P.mg = true) :
    Frame P s0 (State.stopFlag s f on) := by
  unfold State.stopFlag
  repeat' first
    | with_reducible assumption
    | (intro sv; refine frame_cut (a := Frame P s0 sv) ?_ ?_; on_goal 2 => dsimp -zeta only [sv]; on_goal 1 => clear_value sv)
    | (intro sv; clear_value sv)
    | intro _
    | lift_lets -underBinder
    | with_reducible apply putBit_frame
    | with_reducible apply log_frame
    | with_reducible apply frame_ite
    | with_reducible apply frame_foldl
    | with_reducible apply frame_foldr
    | split

theorem execPulseLost_answers {P : Parts} {s0 : State} {s : State} (hs0 : Frame P s0 s) (h_regs : P.regs = true) (h_sys : P.sys = true) (h_dic : P.dic = true) (h_mg : P.mg = true) (h_mb : P.mb = true) (h_pb : P.pb = true) (h_le : P.le = true) (h_sv : P.sv = true) (h_pf : P.pf = true) (h_tr : P.tr = true) (h_tw : P.tw = true) :
    Answers P s0 (execPulseLost s) := by
  unfold execPulseLost
  repeat' first
    | with_reducible assumption
    | (intro sv; refine frame_cut (a := Frame P s0 sv) ?_ ?_; on_goal 2 => dsimp -zeta only [sv]; on_goal 1 => clear_value sv)
    | (intro sv; clear_value sv)
    | intro _
    | with_reducible apply answers_next
    | with_reducible apply answers_ite
    | lift_lets -underBinder
    | with_reducible apply stopDetect_frame
    | with_reducible apply stopFlag_frame
    | with_reducible apply frame_ite
    | with_reducible apply frame_foldl
    | with_reducible apply frame_foldr
    | split

theorem execPressLost_answers {P : Parts} {s0 : State} {s : State} (hs0 : Frame P s0 s) (h_regs : P.regs = true) (h_sys : P.sys = true) (h_dic : P.dic = true) (h_mg : P.mg = true) (h_mb : P.mb = true) (h_pb : P.pb = true) (h_le : P.le = true) (h_sv : P.sv = true) (h_pf : P.pf = true) (h_tr : P.tr = true) (h_tw : P.tw = true) :
    Answers P s0 (execPressLost s) := by
  unfold execPressLost
  repeat' first
    | with_reducible assumption
    | (intro sv; refine frame_cut (a := Frame P s0 sv) ?_ ?_; on_goal 2 => dsimp -zeta only [sv]; on_goal 1 => clear_value sv)
    | (intro sv; clear_value sv)
    | intro _
    | with_reducible apply answers_next
    | with_reducible apply answers_ite
    | lift_lets -underBinder
    | with_reducible apply stopDetect_frame
    | with_reducible apply stopFlag_frame
    | with_reducible apply onPf_frame
    | with_reducible apply frame_ite
    | with_reducible apply frame_foldl
    | with_reducible apply frame_foldr
    | split

theorem execTripArm_answers {P : Parts} {s0 : State} {s : State} (hs0 : Frame P s0 s) (h_regs : P.regs = true) (h_sys : P.sys = true) (h_dic : P.dic = true) (h_mg : P.mg = true) (h_mb : P.mb = true) (h_pb : P.pb = true) (h_le : P.le = true) (h_sv : P.sv = true) (h_pf : P.pf = true) (h_tr : P.tr = true) (h_tw : P.tw = true) :
    Answers P s0 (execTripArm s) := by
  unfold execTripArm
  repeat' first
    | with_reducible assumption
    | (intro sv; refine frame_cut (a := Frame P s0 sv) ?_ ?_; on_goal 2 => dsimp -zeta only [sv]; on_goal 1 => clear_value sv)
    | (intro sv; clear_value sv)
    | intro _
    | with_reducible apply answers_next
    | with_reducible apply answers_ite
    | lift_lets -underBinder
    | with_reducible apply stopDetect_frame
    | with_reducible apply putBit_frame
    | with_reducible apply frame_ite
    | with_reducible apply frame_foldl
    | with_reducible apply frame_foldr
    | split

theorem execFlowRestored_answers {P : Parts} {s0 : State} {s : State} (hs0 : Frame P s0 s) (h_regs : P.regs = true) (h_mg : P.mg = true) (h_pf : P.pf = true) :
    Answers P s0 (execFlowRestored s) := by
  unfold execFlowRestored
  repeat' first
    | with_reducible assumption
    | (intro sv; refine frame_cut (a := Frame P s0 sv) ?_ ?_; on_goal 2 => dsimp -zeta only [sv]; on_goal 1 => clear_value sv)
    | (intro sv; clear_value sv)
    | intro _
    | with_reducible apply answers_next
    | with_reducible apply answers_ite
    | lift_lets -underBinder
    | with_reducible apply onPf_frame
    | with_reducible apply log_frame
    | with_reducible apply putBit_frame
    | with_reducible apply frame_ite
    | with_reducible apply frame_foldl
    | with_reducible apply frame_foldr
    | split

theorem execShedExit_answers {P : Parts} {s0 : State} {s : State} (hs0 : Frame P s0 s) (h_regs : P.regs = true) (h_sys : P.sys = true) (h_mg : P.mg = true) (h_mb : P.mb = true) (h_pb : P.pb = true) (h_le : P.le = true) (h_sv : P.sv = true) (h_pf : P.pf = true) (h_tr : P.tr = true) (h_tw : P.tw = true) :
    Answers P s0 (execShedExit s) := by
  unfold execShedExit
  repeat' first
    | with_reducible assumption
    | (intro sv; refine frame_cut (a := Frame P s0 sv) ?_ ?_; on_goal 2 => dsimp -zeta only [sv]; on_goal 1 => clear_value sv)
    | (intro sv; clear_value sv)
    | intro _
    | with_reducible apply answers_next
    | with_reducible apply answers_ite
    | lift_lets -underBinder
    | with_reducible apply leaveShed_frame
    | with_reducible apply frame_ite
    | with_reducible apply frame_foldl
    | with_reducible apply frame_foldr
    | split

theorem execShedPredictiveResume_answers {P : Parts} {s0 : State} {s : State} (hs0 : Frame P s0 s) (h_regs : P.regs = true) (h_sys : P.sys = true) (h_mg : P.mg = true) (h_mb : P.mb = true) (h_le : P.le = true) (h_pf : P.pf = true) (h_tr : P.tr = true) :
    Answers P s0 (execShedPredictiveResume s) := by
  unfold execShedPredictiveResume
  repeat' first
    | with_reducible assumption
    | (intro sv; refine frame_cut (a := Frame P s0 sv) ?_ ?_; on_goal 2 => dsimp -zeta only [sv]; on_goal 1 => clear_value sv)
    | (intro sv; clear_value sv)
    | intro _
    | with_reducible apply answers_next
    | with_reducible apply answers_ite
    | lift_lets -underBinder
    | with_reducible apply onSys_frame
    | with_reducible apply setState_frame
    | with_reducible apply frame_ite
    | with_reducible apply frame_foldl
    | with_reducible apply frame_foldr
    | split

theorem execCalMinute_answers {P : Parts} {s0 : State} (r : Fin 16) (pRep : BitVec 32) (vRaw : BitVec 32) (tSup : BitVec 32) (tRet : BitVec 32) (ref : BitVec 32) {s : State} (hs0 : Frame P s0 s) (h_regs : P.regs = true) (h_dic : P.dic = true) (h_mg : P.mg = true) (h_le : P.le = true) (h_pf : P.pf = true) (h_tw : P.tw = true) :
    Answers P s0 (execCalMinute r pRep vRaw tSup tRet ref s) := by
  unfold execCalMinute
  repeat' first
    | with_reducible assumption
    | (intro sv; refine frame_cut (a := Frame P s0 sv) ?_ ?_; on_goal 2 => dsimp -zeta only [sv]; on_goal 1 => clear_value sv)
    | (intro sv; clear_value sv)
    | intro _
    | with_reducible apply answers_next
    | with_reducible apply answers_ite
    | lift_lets -underBinder
    | with_reducible apply calMinute_frame
    | with_reducible apply forward_frame
    | with_reducible apply frame_ite
    | with_reducible apply frame_foldl
    | with_reducible apply frame_foldr
    | split

theorem execCalStateSave_answers {P : Parts} {s0 : State} {s : State} (hs0 : Frame P s0 s) (h_mg : P.mg = true) (h_pf : P.pf = true) :
    Answers P s0 (execCalStateSave s) := by
  unfold execCalStateSave
  repeat' first
    | with_reducible assumption
    | (intro sv; refine frame_cut (a := Frame P s0 sv) ?_ ?_; on_goal 2 => dsimp -zeta only [sv]; on_goal 1 => clear_value sv)
    | (intro sv; clear_value sv)
    | intro _
    | with_reducible apply answers_next
    | with_reducible apply answers_ite
    | lift_lets -underBinder
    | with_reducible apply calSave_frame
    | with_reducible apply frame_ite
    | with_reducible apply frame_foldl
    | with_reducible apply frame_foldr
    | split

end Sys2Proof.Machine
end

