-- ==== Sys2Proof/Laws/RulesFrame.lean ====
section
/-! SUPPORT. What the operations of Machine/Rules.lean may touch, and that they keep the memories canonical. -/

namespace Sys2Proof.Machine

theorem isoKeep_frame {P : Parts} {s0 : State} {w : Nat} {t : State} {s : State} {k : ℕ} {off : ℕ} {v : ℕ} (heq : State.isoKeep s k off v = (t, w)) (hs0 : Frame P s0 s) (h_pf : P.pf = true) :
    Frame P s0 t := by
  unfold State.isoKeep at heq
  try dsimp only at heq
  repeat' split at heq
  all_goals cases heq
  all_goals
    repeat' first
      | with_reducible assumption
      | (intro sv; refine frame_cut (a := Frame P s0 sv) ?_ ?_; on_goal 2 => dsimp -zeta only [sv]; on_goal 1 => clear_value sv)
      | (intro sv; clear_value sv)
      | intro _
      | lift_lets -underBinder
      | with_reducible apply onPf_frame
      | with_reducible apply frame_ite
      | with_reducible apply frame_foldl
      | with_reducible apply frame_foldr
      | split

theorem putParam_frame {P : Parts} {s0 : State} {s : State} (k : ℕ) (off : ℕ) (v : ℕ) (hs0 : Frame P s0 s) (h_regs : P.regs = true) (h_pb : P.pb = true) (h_pf : P.pf = true) :
    Frame P s0 (State.putParam s k off v) := by
  unfold State.putParam
  repeat' first
    | with_reducible assumption
    | (intro sv; refine frame_cut (a := Frame P s0 sv) ?_ ?_; on_goal 2 => dsimp -zeta only [sv]; on_goal 1 => clear_value sv)
    | (intro sv; clear_value sv)
    | intro _
    | lift_lets -underBinder
    | with_reducible apply onPf_frame
    | with_reducible apply wr_frame
    | with_reducible apply setPbCtx_frame
    | with_reducible apply frame_ite
    | with_reducible apply frame_foldl
    | with_reducible apply frame_foldr
    | refine isoKeep_frame (by with_reducible assumption) ?_ ?_
    | split

theorem putCoeffs_frame {P : Parts} {s0 : State} {s : State} (k : ℕ) (hs0 : Frame P s0 s) (h_regs : P.regs = true) :
    Frame P s0 (State.putCoeffs s k) := by
  unfold State.putCoeffs
  repeat' first
    | with_reducible assumption
    | (intro sv; refine frame_cut (a := Frame P s0 sv) ?_ ?_; on_goal 2 => dsimp -zeta only [sv]; on_goal 1 => clear_value sv)
    | (intro sv; clear_value sv)
    | intro _
    | lift_lets -underBinder
    | with_reducible apply wrf_frame
    | with_reducible apply frame_ite
    | with_reducible apply frame_foldl
    | with_reducible apply frame_foldr
    | split

theorem putLeadLag_frame {P : Parts} {s0 : State} {s : State} (k : ℕ) (t1 : F32) (t2 : F32) (hs0 : Frame P s0 s) (h_regs : P.regs = true) (h_le : P.le = true) :
    Frame P s0 (State.putLeadLag s k t1 t2) := by
  unfold State.putLeadLag
  repeat' first
    | with_reducible assumption
    | (intro sv; refine frame_cut (a := Frame P s0 sv) ?_ ?_; on_goal 2 => dsimp -zeta only [sv]; on_goal 1 => clear_value sv)
    | (intro sv; clear_value sv)
    | intro _
    | lift_lets -underBinder
    | with_reducible apply putCoeffs_frame
    | with_reducible apply setSlot_frame
    | with_reducible apply frame_ite
    | with_reducible apply frame_foldl
    | with_reducible apply frame_foldr
    | split

theorem loopPut_frame {P : Parts} {s0 : State} {s : State} (ident : ℕ) (k : ℕ) (v : ℕ) (hs0 : Frame P s0 s) (h_regs : P.regs = true) (h_pb : P.pb = true) (h_le : P.le = true) (h_pf : P.pf = true) :
    Frame P s0 (State.loopPut s ident k v) := by
  unfold State.loopPut
  repeat' first
    | with_reducible assumption
    | (intro sv; refine frame_cut (a := Frame P s0 sv) ?_ ?_; on_goal 2 => dsimp -zeta only [sv]; on_goal 1 => clear_value sv)
    | (intro sv; clear_value sv)
    | intro _
    | lift_lets -underBinder
    | with_reducible apply putLeadLag_frame
    | with_reducible apply putParam_frame
    | with_reducible apply putCoeffs_frame
    | with_reducible apply frame_ite
    | with_reducible apply frame_foldl
    | with_reducible apply frame_foldr
    | split

theorem defaultLimits_frame {P : Parts} {s0 : State} {s : State} (k : ℕ) (set_ : ℕ) (hs0 : Frame P s0 s) (h_regs : P.regs = true) :
    Frame P s0 (State.defaultLimits s k set_) := by
  unfold State.defaultLimits
  repeat' first
    | with_reducible assumption
    | (intro sv; refine frame_cut (a := Frame P s0 sv) ?_ ?_; on_goal 2 => dsimp -zeta only [sv]; on_goal 1 => clear_value sv)
    | (intro sv; clear_value sv)
    | intro _
    | lift_lets -underBinder
    | with_reducible apply wrf_frame
    | with_reducible apply putBit_frame
    | with_reducible apply frame_ite
    | with_reducible apply frame_foldl
    | with_reducible apply frame_foldr
    | split

theorem bypassSetpoint_frame {P : Parts} {s0 : State} {s : State} (hs0 : Frame P s0 s) (h_regs : P.regs = true) :
    Frame P s0 (State.bypassSetpoint s) := by
  unfold State.bypassSetpoint
  repeat' first
    | with_reducible assumption
    | (intro sv; refine frame_cut (a := Frame P s0 sv) ?_ ?_; on_goal 2 => dsimp -zeta only [sv]; on_goal 1 => clear_value sv)
    | (intro sv; clear_value sv)
    | intro _
    | lift_lets -underBinder
    | with_reducible apply putBit_frame
    | with_reducible apply wrf_frame
    | with_reducible apply frame_ite
    | with_reducible apply frame_foldl
    | with_reducible apply frame_foldr
    | split

theorem putChannel_frame {P : Parts} {s0 : State} {s : State} (k : ℕ) (f : RF) (v : ℕ) (hs0 : Frame P s0 s) (h_regs : P.regs = true) (h_pf : P.pf = true) (h_fb : P.fb = true) :
    Frame P s0 (State.putChannel s k f v) := by
  unfold State.putChannel
  repeat' first
    | with_reducible assumption
    | (intro sv; refine frame_cut (a := Frame P s0 sv) ?_ ?_; on_goal 2 => dsimp -zeta only [sv]; on_goal 1 => clear_value sv)
    | (intro sv; clear_value sv)
    | intro _
    | lift_lets -underBinder
    | with_reducible apply wr_frame
    | with_reducible apply reenable_frame
    | with_reducible apply disable_frame
    | with_reducible apply frame_ite
    | with_reducible apply frame_foldl
    | with_reducible apply frame_foldr
    | split

theorem putRate_frame {P : Parts} {s0 : State} {s : State} (nominal : Bool) (n : ℕ) (r : ℕ) (hs0 : Frame P s0 s) (h_regs : P.regs = true) :
    Frame P s0 (State.putRate s nominal n r) := by
  unfold State.putRate
  repeat' first
    | with_reducible assumption
    | (intro sv; refine frame_cut (a := Frame P s0 sv) ?_ ?_; on_goal 2 => dsimp -zeta only [sv]; on_goal 1 => clear_value sv)
    | (intro sv; clear_value sv)
    | intro _
    | lift_lets -underBinder
    | with_reducible apply wr_frame
    | with_reducible apply frame_ite
    | with_reducible apply frame_foldl
    | with_reducible apply frame_foldr
    | split

theorem cfgPut_frame {P : Parts} {s0 : State} {s : State} (ident : ℕ) (index : ℕ) (v : ℕ) (hs0 : Frame P s0 s) (h_regs : P.regs = true) (h_mb : P.mb = true) (h_pb : P.pb = true) (h_le : P.le = true) (h_pf : P.pf = true) (h_fb : P.fb = true) :
    Frame P s0 (State.cfgPut s ident index v) := by
  unfold State.cfgPut
  repeat' first
    | with_reducible assumption
    | (intro sv; refine frame_cut (a := Frame P s0 sv) ?_ ?_; on_goal 2 => dsimp -zeta only [sv]; on_goal 1 => clear_value sv)
    | (intro sv; clear_value sv)
    | intro _
    | lift_lets -underBinder
    | with_reducible apply onMb_frame
    | with_reducible apply onLe_frame
    | with_reducible apply putChannel_frame
    | with_reducible apply raiseGrant_frame
    | with_reducible apply wr_frame
    | with_reducible apply pmSet_frame
    | with_reducible apply putBit_frame
    | with_reducible apply bypassSetpoint_frame
    | with_reducible apply putRate_frame
    | with_reducible apply loopPut_frame
    | with_reducible apply frame_ite
    | with_reducible apply frame_foldl
    | with_reducible apply frame_foldr
    | split

end Sys2Proof.Machine
end

