-- ==== Sys2Proof/Laws/SensorsFrame.lean ====
section
/-! SUPPORT. What the operations of Machine/Sensors.lean may touch, and that they keep the memories canonical. -/

namespace Sys2Proof.Machine

theorem setSnIn_frame {P : Parts} {s0 : State} {s : State} (k : ℕ) (x : SnIn) (hs0 : Frame P s0 s) (h_sn : P.sn = true) :
    Frame P s0 (State.setSnIn s k x) := by
  unfold State.setSnIn
  repeat' first
    | with_reducible assumption
    | (intro sv; refine frame_cut (a := Frame P s0 sv) ?_ ?_; on_goal 2 => dsimp -zeta only [sv]; on_goal 1 => clear_value sv)
    | (intro sv; clear_value sv)
    | intro _
    | lift_lets -underBinder
    | with_reducible apply onSn_frame
    | with_reducible apply frame_ite
    | with_reducible apply frame_foldl
    | with_reducible apply frame_foldr
    | split

theorem wiring_frame {P : Parts} {s0 : State} {s : State} (k : ℕ) (f : RF) (hs0 : Frame P s0 s) (h_regs : P.regs = true) (h_dic : P.dic = true) (h_mg : P.mg = true) (h_le : P.le = true) :
    Frame P s0 (State.wiring s k f) := by
  unfold State.wiring
  repeat' first
    | with_reducible assumption
    | (intro sv; refine frame_cut (a := Frame P s0 sv) ?_ ?_; on_goal 2 => dsimp -zeta only [sv]; on_goal 1 => clear_value sv)
    | (intro sv; clear_value sv)
    | intro _
    | lift_lets -underBinder
    | with_reducible apply note_frame
    | with_reducible apply putBit_frame
    | with_reducible apply frame_ite
    | with_reducible apply frame_foldl
    | with_reducible apply frame_foldr
    | split

theorem ranged_frame {P : Parts} {s0 : State} {s : State} (k : ℕ) (f : RF) (hs0 : Frame P s0 s) (h_regs : P.regs = true) (h_dic : P.dic = true) (h_mg : P.mg = true) (h_le : P.le = true) :
    Frame P s0 (State.ranged s k f) := by
  unfold State.ranged
  repeat' first
    | with_reducible assumption
    | (intro sv; refine frame_cut (a := Frame P s0 sv) ?_ ?_; on_goal 2 => dsimp -zeta only [sv]; on_goal 1 => clear_value sv)
    | (intro sv; clear_value sv)
    | intro _
    | lift_lets -underBinder
    | with_reducible apply note_frame
    | with_reducible apply putBit_frame
    | with_reducible apply frame_ite
    | with_reducible apply frame_foldl
    | with_reducible apply frame_foldr
    | split

theorem wiringRun_frame {P : Parts} {s0 : State} {s : State} (k : ℕ) (n : ℕ) (opn : Bool) (sht : Bool) (hs0 : Frame P s0 s) (h_regs : P.regs = true) (h_dic : P.dic = true) (h_mg : P.mg = true) (h_le : P.le = true) (h_sn : P.sn = true) :
    Frame P s0 (State.wiringRun s k n opn sht) := by
  unfold State.wiringRun
  repeat' first
    | with_reducible assumption
    | (intro sv; refine frame_cut (a := Frame P s0 sv) ?_ ?_; on_goal 2 => dsimp -zeta only [sv]; on_goal 1 => clear_value sv)
    | (intro sv; clear_value sv)
    | intro _
    | lift_lets -underBinder
    | with_reducible apply setSnIn_frame
    | with_reducible apply wiring_frame
    | with_reducible apply frame_ite
    | with_reducible apply frame_foldl
    | with_reducible apply frame_foldr
    | split

theorem rangeBit_frame {P : Parts} {s0 : State} {s : State} (k : ℕ) (n : ℕ) (run : ℕ) (clear : Option ℕ) (f : RF) (hs0 : Frame P s0 s) (h_regs : P.regs = true) (h_dic : P.dic = true) (h_mg : P.mg = true) (h_le : P.le = true) :
    Frame P s0 (State.rangeBit s k n run clear f) := by
  unfold State.rangeBit
  repeat' first
    | with_reducible assumption
    | (intro sv; refine frame_cut (a := Frame P s0 sv) ?_ ?_; on_goal 2 => dsimp -zeta only [sv]; on_goal 1 => clear_value sv)
    | (intro sv; clear_value sv)
    | intro _
    | lift_lets -underBinder
    | with_reducible apply ranged_frame
    | with_reducible apply putBit_frame
    | with_reducible apply frame_ite
    | with_reducible apply frame_foldl
    | with_reducible apply frame_foldr
    | split

theorem lowRange_frame {P : Parts} {s0 : State} {s : State} (k : ℕ) (n : ℕ) (low : Bool) (f : RF) (hs0 : Frame P s0 s) (h_regs : P.regs = true) (h_dic : P.dic = true) (h_mg : P.mg = true) (h_le : P.le = true) (h_sn : P.sn = true) :
    Frame P s0 (State.lowRange s k n low f) := by
  unfold State.lowRange
  repeat' first
    | with_reducible assumption
    | (intro sv; refine frame_cut (a := Frame P s0 sv) ?_ ?_; on_goal 2 => dsimp -zeta only [sv]; on_goal 1 => clear_value sv)
    | (intro sv; clear_value sv)
    | intro _
    | lift_lets -underBinder
    | with_reducible apply rangeBit_frame
    | with_reducible apply setSnIn_frame
    | with_reducible apply frame_ite
    | with_reducible apply frame_foldl
    | with_reducible apply frame_foldr
    | split

theorem highRange_frame {P : Parts} {s0 : State} {s : State} (k : ℕ) (n : ℕ) (high : Bool) (f : RF) (hs0 : Frame P s0 s) (h_regs : P.regs = true) (h_dic : P.dic = true) (h_mg : P.mg = true) (h_le : P.le = true) (h_sn : P.sn = true) :
    Frame P s0 (State.highRange s k n high f) := by
  unfold State.highRange
  repeat' first
    | with_reducible assumption
    | (intro sv; refine frame_cut (a := Frame P s0 sv) ?_ ?_; on_goal 2 => dsimp -zeta only [sv]; on_goal 1 => clear_value sv)
    | (intro sv; clear_value sv)
    | intro _
    | lift_lets -underBinder
    | with_reducible apply rangeBit_frame
    | with_reducible apply setSnIn_frame
    | with_reducible apply frame_ite
    | with_reducible apply frame_foldl
    | with_reducible apply frame_foldr
    | split

theorem frozenRun_frame {P : Parts} {s0 : State} {s : State} (k : ℕ) (old : ℕ) (raw : ℕ) (f : RF) (hs0 : Frame P s0 s) (h_regs : P.regs = true) (h_mg : P.mg = true) (h_sn : P.sn = true) :
    Frame P s0 (State.frozenRun s k old raw f) := by
  unfold State.frozenRun
  repeat' first
    | with_reducible assumption
    | (intro sv; refine frame_cut (a := Frame P s0 sv) ?_ ?_; on_goal 2 => dsimp -zeta only [sv]; on_goal 1 => clear_value sv)
    | (intro sv; clear_value sv)
    | intro _
    | lift_lets -underBinder
    | with_reducible apply setSnIn_frame
    | with_reducible apply log_frame
    | with_reducible apply putBit_frame
    | with_reducible apply frame_ite
    | with_reducible apply frame_foldl
    | with_reducible apply frame_foldr
    | split

theorem rtdValue_frame {P : Parts} {s0 : State} {s : State} (n : ℕ) (t : ℤ) (hs0 : Frame P s0 s) (h_regs : P.regs = true) (h_sn : P.sn = true) :
    Frame P s0 (State.rtdValue s n t) := by
  unfold State.rtdValue
  repeat' first
    | with_reducible assumption
    | (intro sv; refine frame_cut (a := Frame P s0 sv) ?_ ?_; on_goal 2 => dsimp -zeta only [sv]; on_goal 1 => clear_value sv)
    | (intro sv; clear_value sv)
    | intro _
    | lift_lets -underBinder
    | with_reducible apply setSnIn_frame
    | with_reducible apply wr_frame
    | with_reducible apply frame_ite
    | with_reducible apply frame_foldl
    | with_reducible apply frame_foldr
    | split

theorem rtdConvert_frame {P : Parts} {s0 : State} {s : State} (n : ℕ) (raw : ℕ) (offset : ℤ) (compliant : Bool) (hs0 : Frame P s0 s) (h_regs : P.regs = true) (h_dic : P.dic = true) (h_mg : P.mg = true) (h_le : P.le = true) (h_sn : P.sn = true) :
    Frame P s0 (State.rtdConvert s n raw offset compliant) := by
  unfold State.rtdConvert
  repeat' first
    | with_reducible assumption
    | (intro sv; refine frame_cut (a := Frame P s0 sv) ?_ ?_; on_goal 2 => dsimp -zeta only [sv]; on_goal 1 => clear_value sv)
    | (intro sv; clear_value sv)
    | intro _
    | lift_lets -underBinder
    | with_reducible apply wr_frame
    | with_reducible apply frozenRun_frame
    | with_reducible apply setSnIn_frame
    | with_reducible apply lowRange_frame
    | with_reducible apply wiringRun_frame
    | with_reducible apply putBit_frame
    | with_reducible apply rtdValue_frame
    | with_reducible apply frame_ite
    | with_reducible apply frame_foldl
    | with_reducible apply frame_foldr
    | split

theorem execRtdConversion_answers {P : Parts} {s0 : State} (n : Fin 48) (raw : BitVec 24) (offset : ℤ) (compliant : Bool) {s : State} (hs0 : Frame P s0 s) (h_regs : P.regs = true) (h_dic : P.dic = true) (h_mg : P.mg = true) (h_le : P.le = true) (h_sn : P.sn = true) :
    Answers P s0 (execRtdConversion n raw offset compliant s) := by
  unfold execRtdConversion
  repeat' first
    | with_reducible assumption
    | (intro sv; refine frame_cut (a := Frame P s0 sv) ?_ ?_; on_goal 2 => dsimp -zeta only [sv]; on_goal 1 => clear_value sv)
    | (intro sv; clear_value sv)
    | intro _
    | with_reducible apply answers_next
    | with_reducible apply answers_ite
    | lift_lets -underBinder
    | with_reducible apply rtdConvert_frame
    | with_reducible apply frame_ite
    | with_reducible apply frame_foldl
    | with_reducible apply frame_foldr
    | split

theorem maConvert_frame {P : Parts} {s0 : State} {s : State} (n : ℕ) (raw : ℕ) (offset : ℤ) (limit : Bool) (hs0 : Frame P s0 s) (h_regs : P.regs = true) (h_dic : P.dic = true) (h_mg : P.mg = true) (h_le : P.le = true) (h_sn : P.sn = true) :
    Frame P s0 (State.maConvert s n raw offset limit) := by
  unfold State.maConvert
  repeat' first
    | with_reducible assumption
    | (intro sv; refine frame_cut (a := Frame P s0 sv) ?_ ?_; on_goal 2 => dsimp -zeta only [sv]; on_goal 1 => clear_value sv)
    | (intro sv; clear_value sv)
    | intro _
    | lift_lets -underBinder
    | with_reducible apply wr_frame
    | with_reducible apply frozenRun_frame
    | with_reducible apply setSnIn_frame
    | with_reducible apply lowRange_frame
    | with_reducible apply wiringRun_frame
    | with_reducible apply highRange_frame
    | with_reducible apply putBit_frame
    | with_reducible apply wrf_frame
    | with_reducible apply frame_ite
    | with_reducible apply frame_foldl
    | with_reducible apply frame_foldr
    | split

theorem execMaConversion_answers {P : Parts} {s0 : State} (n : Fin 24) (raw : BitVec 16) (offset : ℤ) (limit : Bool) {s : State} (hs0 : Frame P s0 s) (h_regs : P.regs = true) (h_dic : P.dic = true) (h_mg : P.mg = true) (h_le : P.le = true) (h_sn : P.sn = true) :
    Answers P s0 (execMaConversion n raw offset limit s) := by
  unfold execMaConversion
  repeat' first
    | with_reducible assumption
    | (intro sv; refine frame_cut (a := Frame P s0 sv) ?_ ?_; on_goal 2 => dsimp -zeta only [sv]; on_goal 1 => clear_value sv)
    | (intro sv; clear_value sv)
    | intro _
    | with_reducible apply answers_next
    | with_reducible apply answers_ite
    | lift_lets -underBinder
    | with_reducible apply maConvert_frame
    | with_reducible apply frame_ite
    | with_reducible apply frame_foldl
    | with_reducible apply frame_foldr
    | split

theorem execSensorFaultClear_answers {P : Parts} {s0 : State} (k : Fin 80) {s : State} (hs0 : Frame P s0 s) (h_regs : P.regs = true) :
    Answers P s0 (execSensorFaultClear k s) := by
  unfold execSensorFaultClear
  repeat' first
    | with_reducible assumption
    | (intro sv; refine frame_cut (a := Frame P s0 sv) ?_ ?_; on_goal 2 => dsimp -zeta only [sv]; on_goal 1 => clear_value sv)
    | (intro sv; clear_value sv)
    | intro _
    | with_reducible apply answers_next
    | with_reducible apply answers_ite
    | lift_lets -underBinder
    | with_reducible apply putBit_frame
    | with_reducible apply frame_ite
    | with_reducible apply frame_foldl
    | with_reducible apply frame_foldr
    | split

theorem pulseValue_frame {P : Parts} {s0 : State} {s : State} (n : ℕ) (none_ : Bool) (f : F32) (hs0 : Frame P s0 s) (h_regs : P.regs = true) :
    Frame P s0 (State.pulseValue s n none_ f) := by
  unfold State.pulseValue
  repeat' first
    | with_reducible assumption
    | (intro sv; refine frame_cut (a := Frame P s0 sv) ?_ ?_; on_goal 2 => dsimp -zeta only [sv]; on_goal 1 => clear_value sv)
    | (intro sv; clear_value sv)
    | intro _
    | lift_lets -underBinder
    | with_reducible apply wrf_frame
    | with_reducible apply putBit_frame
    | with_reducible apply frame_ite
    | with_reducible apply frame_foldl
    | with_reducible apply frame_foldr
    | split

theorem execNoPulseTimeout_answers {P : Parts} {s0 : State} (n : Fin 8) {s : State} (hs0 : Frame P s0 s) (h_regs : P.regs = true) :
    Answers P s0 (execNoPulseTimeout n s) := by
  unfold execNoPulseTimeout
  repeat' first
    | with_reducible assumption
    | (intro sv; refine frame_cut (a := Frame P s0 sv) ?_ ?_; on_goal 2 => dsimp -zeta only [sv]; on_goal 1 => clear_value sv)
    | (intro sv; clear_value sv)
    | intro _
    | with_reducible apply answers_next
    | with_reducible apply answers_ite
    | lift_lets -underBinder
    | with_reducible apply pulseValue_frame
    | with_reducible apply frame_ite
    | with_reducible apply frame_foldl
    | with_reducible apply frame_foldr
    | split

theorem pulseSeen_frame {P : Parts} {s0 : State} {s : State} (n : ℕ) (period : ℕ) (hs0 : Frame P s0 s) (h_regs : P.regs = true) (h_pf : P.pf = true) (h_sn : P.sn = true) :
    Frame P s0 (State.pulseSeen s n period) := by
  unfold State.pulseSeen
  repeat' first
    | with_reducible assumption
    | (intro sv; refine frame_cut (a := Frame P s0 sv) ?_ ?_; on_goal 2 => dsimp -zeta only [sv]; on_goal 1 => clear_value sv)
    | (intro sv; clear_value sv)
    | intro _
    | lift_lets -underBinder
    | with_reducible apply setSnIn_frame
    | with_reducible apply pulseValue_frame
    | with_reducible apply putBit_frame
    | with_reducible apply onPf_frame
    | with_reducible apply setTmInput_frame
    | with_reducible apply frame_ite
    | with_reducible apply frame_foldl
    | with_reducible apply frame_foldr
    | split

theorem namur_frame {P : Parts} {s0 : State} {s : State} (n : ℕ) (ua : ℕ) (hs0 : Frame P s0 s) (h_regs : P.regs = true) (h_dic : P.dic = true) (h_mg : P.mg = true) (h_le : P.le = true) (h_sn : P.sn = true) :
    Frame P s0 (State.namur s n ua) := by
  unfold State.namur
  repeat' first
    | with_reducible assumption
    | (intro sv; refine frame_cut (a := Frame P s0 sv) ?_ ?_; on_goal 2 => dsimp -zeta only [sv]; on_goal 1 => clear_value sv)
    | (intro sv; clear_value sv)
    | intro _
    | lift_lets -underBinder
    | with_reducible apply setSnIn_frame
    | with_reducible apply wiring_frame
    | with_reducible apply frame_ite
    | with_reducible apply frame_foldl
    | with_reducible apply frame_foldr
    | split

theorem execPulseInputMeasurement_answers {P : Parts} {s0 : State} (n : Fin 8) (period : Option ℕ) (ua : ℕ) {s : State} (hs0 : Frame P s0 s) (h_regs : P.regs = true) (h_dic : P.dic = true) (h_mg : P.mg = true) (h_le : P.le = true) (h_pf : P.pf = true) (h_sn : P.sn = true) :
    Answers P s0 (execPulseInputMeasurement n period ua s) := by
  unfold execPulseInputMeasurement
  repeat' first
    | with_reducible assumption
    | (intro sv; refine frame_cut (a := Frame P s0 sv) ?_ ?_; on_goal 2 => dsimp -zeta only [sv]; on_goal 1 => clear_value sv)
    | (intro sv; clear_value sv)
    | intro _
    | with_reducible apply answers_next
    | with_reducible apply answers_ite
    | lift_lets -underBinder
    | with_reducible apply setSnIn_frame
    | with_reducible apply pulseSeen_frame
    | with_reducible apply namur_frame
    | with_reducible apply putBit_frame
    | with_reducible apply frame_ite
    | with_reducible apply frame_foldl
    | with_reducible apply frame_foldr
    | split

theorem execDinDebounce_answers {P : Parts} {s0 : State} (k : Fin 16) (level : Bool) {s : State} (hs0 : Frame P s0 s) (h_regs : P.regs = true) (h_sn : P.sn = true) :
    Answers P s0 (execDinDebounce k level s) := by
  unfold execDinDebounce
  repeat' first
    | with_reducible assumption
    | (intro sv; refine frame_cut (a := Frame P s0 sv) ?_ ?_; on_goal 2 => dsimp -zeta only [sv]; on_goal 1 => clear_value sv)
    | (intro sv; clear_value sv)
    | intro _
    | with_reducible apply answers_next
    | with_reducible apply answers_ite
    | lift_lets -underBinder
    | with_reducible apply setSnIn_frame
    | with_reducible apply posUpdate_frame
    | with_reducible apply wr_frame
    | with_reducible apply frame_ite
    | with_reducible apply frame_foldl
    | with_reducible apply frame_foldr
    | split

theorem pairUpdate_frame {P : Parts} {s0 : State} {s : State} (hs0 : Frame P s0 s) (h_regs : P.regs = true) :
    Frame P s0 (State.pairUpdate s) := by
  unfold State.pairUpdate
  repeat' first
    | with_reducible assumption
    | (intro sv; refine frame_cut (a := Frame P s0 sv) ?_ ?_; on_goal 2 => dsimp -zeta only [sv]; on_goal 1 => clear_value sv)
    | (intro sv; clear_value sv)
    | intro _
    | lift_lets -underBinder
    | with_reducible apply putBit_frame
    | with_reducible apply frame_ite
    | with_reducible apply frame_foldl
    | with_reducible apply frame_foldr
    | split

theorem pairMarked_frame {P : Parts} {s0 : State} {s : State} (ks : List ℕ) (hs0 : Frame P s0 s) (h_regs : P.regs = true) (h_mg : P.mg = true) :
    Frame P s0 (State.pairMarked s ks) := by
  unfold State.pairMarked
  repeat' first
    | with_reducible assumption
    | (intro sv; refine frame_cut (a := Frame P s0 sv) ?_ ?_; on_goal 2 => dsimp -zeta only [sv]; on_goal 1 => clear_value sv)
    | (intro sv; clear_value sv)
    | intro _
    | lift_lets -underBinder
    | with_reducible apply pairUpdate_frame
    | with_reducible apply log_frame
    | with_reducible apply frame_ite
    | with_reducible apply frame_foldl
    | with_reducible apply frame_foldr
    | split

theorem setLkCh_frame {P : Parts} {s0 : State} {s : State} (k : ℕ) (x : LkCh) (hs0 : Frame P s0 s) (h_sn : P.sn = true) :
    Frame P s0 (State.setLkCh s k x) := by
  unfold State.setLkCh
  repeat' first
    | with_reducible assumption
    | (intro sv; refine frame_cut (a := Frame P s0 sv) ?_ ?_; on_goal 2 => dsimp -zeta only [sv]; on_goal 1 => clear_value sv)
    | (intro sv; clear_value sv)
    | intro _
    | lift_lets -underBinder
    | with_reducible apply onSn_frame
    | with_reducible apply frame_ite
    | with_reducible apply frame_foldl
    | with_reducible apply frame_foldr
    | split

theorem confirmLeak_frame {P : Parts} {s0 : State} {s : State} (k : ℕ) (loc : ℕ) (hs0 : Frame P s0 s) (h_regs : P.regs = true) (h_sys : P.sys = true) (h_dic : P.dic = true) (h_mg : P.mg = true) (h_le : P.le = true) (h_sn : P.sn = true) :
    Frame P s0 (State.confirmLeak s k loc) := by
  unfold State.confirmLeak
  repeat' first
    | with_reducible assumption
    | (intro sv; refine frame_cut (a := Frame P s0 sv) ?_ ?_; on_goal 2 => dsimp -zeta only [sv]; on_goal 1 => clear_value sv)
    | (intro sv; clear_value sv)
    | intro _
    | lift_lets -underBinder
    | with_reducible apply wr_frame
    | with_reducible apply setLkCh_frame
    | with_reducible apply note_frame
    | with_reducible apply setTmInput_frame
    | with_reducible apply askIsolate_frame
    | with_reducible apply frame_ite
    | with_reducible apply frame_foldl
    | with_reducible apply frame_foldr
    | split

theorem wetSample_frame {P : Parts} {s0 : State} {s : State} (k : ℕ) (loc : ℕ) (hs0 : Frame P s0 s) (h_regs : P.regs = true) (h_sys : P.sys = true) (h_dic : P.dic = true) (h_mg : P.mg = true) (h_le : P.le = true) (h_sn : P.sn = true) :
    Frame P s0 (State.wetSample s k loc) := by
  unfold State.wetSample
  repeat' first
    | with_reducible assumption
    | (intro sv; refine frame_cut (a := Frame P s0 sv) ?_ ?_; on_goal 2 => dsimp -zeta only [sv]; on_goal 1 => clear_value sv)
    | (intro sv; clear_value sv)
    | intro _
    | lift_lets -underBinder
    | with_reducible apply wr_frame
    | with_reducible apply confirmLeak_frame
    | with_reducible apply frame_ite
    | with_reducible apply frame_foldl
    | with_reducible apply frame_foldr
    | split

theorem breakSeen_frame {P : Parts} {s0 : State} {s : State} (k : ℕ) (hs0 : Frame P s0 s) (h_regs : P.regs = true) (h_dic : P.dic = true) (h_mg : P.mg = true) (h_le : P.le = true) (h_sn : P.sn = true) :
    Frame P s0 (State.breakSeen s k) := by
  unfold State.breakSeen
  repeat' first
    | with_reducible assumption
    | (intro sv; refine frame_cut (a := Frame P s0 sv) ?_ ?_; on_goal 2 => dsimp -zeta only [sv]; on_goal 1 => clear_value sv)
    | (intro sv; clear_value sv)
    | intro _
    | lift_lets -underBinder
    | with_reducible apply note_frame
    | with_reducible apply setLkCh_frame
    | with_reducible apply wr_frame
    | with_reducible apply frame_ite
    | with_reducible apply frame_foldl
    | with_reducible apply frame_foldr
    | split

theorem notWetSample_frame {P : Parts} {s0 : State} {s : State} (k : ℕ) (hs0 : Frame P s0 s) (h_regs : P.regs = true) :
    Frame P s0 (State.notWetSample s k) := by
  unfold State.notWetSample
  repeat' first
    | with_reducible assumption
    | (intro sv; refine frame_cut (a := Frame P s0 sv) ?_ ?_; on_goal 2 => dsimp -zeta only [sv]; on_goal 1 => clear_value sv)
    | (intro sv; clear_value sv)
    | intro _
    | lift_lets -underBinder
    | with_reducible apply wr_frame
    | with_reducible apply frame_ite
    | with_reducible apply frame_foldl
    | with_reducible apply frame_foldr
    | split

theorem breakOver_frame {P : Parts} {s0 : State} {s : State} (k : ℕ) (wet : Bool) (hs0 : Frame P s0 s) (h_regs : P.regs = true) :
    Frame P s0 (State.breakOver s k wet) := by
  unfold State.breakOver
  repeat' first
    | with_reducible assumption
    | (intro sv; refine frame_cut (a := Frame P s0 sv) ?_ ?_; on_goal 2 => dsimp -zeta only [sv]; on_goal 1 => clear_value sv)
    | (intro sv; clear_value sv)
    | intro _
    | lift_lets -underBinder
    | with_reducible apply wr_frame
    | with_reducible apply frame_ite
    | with_reducible apply frame_foldl
    | with_reducible apply frame_foldr
    | split

theorem leakMeasure_frame {P : Parts} {s0 : State} {s : State} (k : ℕ) (ohm : ℕ) (loc : ℕ) (hs0 : Frame P s0 s) (h_regs : P.regs = true) :
    Frame P s0 (State.leakMeasure s k ohm loc) := by
  unfold State.leakMeasure
  repeat' first
    | with_reducible assumption
    | (intro sv; refine frame_cut (a := Frame P s0 sv) ?_ ?_; on_goal 2 => dsimp -zeta only [sv]; on_goal 1 => clear_value sv)
    | (intro sv; clear_value sv)
    | intro _
    | lift_lets -underBinder
    | with_reducible apply wr_frame
    | with_reducible apply putBit_frame
    | with_reducible apply frame_ite
    | with_reducible apply frame_foldl
    | with_reducible apply frame_foldr
    | split

theorem leakSample_frame {P : Parts} {s0 : State} {s : State} (k : ℕ) (ohm : ℕ) (loop : ℕ) (loc : ℕ) (hs0 : Frame P s0 s) (h_regs : P.regs = true) (h_sys : P.sys = true) (h_dic : P.dic = true) (h_mg : P.mg = true) (h_le : P.le = true) (h_sn : P.sn = true) :
    Frame P s0 (State.leakSample s k ohm loop loc) := by
  unfold State.leakSample
  repeat' first
    | with_reducible assumption
    | (intro sv; refine frame_cut (a := Frame P s0 sv) ?_ ?_; on_goal 2 => dsimp -zeta only [sv]; on_goal 1 => clear_value sv)
    | (intro sv; clear_value sv)
    | intro _
    | lift_lets -underBinder
    | with_reducible apply wr_frame
    | with_reducible apply setLkCh_frame
    | with_reducible apply leakMeasure_frame
    | with_reducible apply wetSample_frame
    | with_reducible apply notWetSample_frame
    | with_reducible apply breakSeen_frame
    | with_reducible apply breakOver_frame
    | with_reducible apply frame_ite
    | with_reducible apply frame_foldl
    | with_reducible apply frame_foldr
    | split

theorem execLeakSample_answers {P : Parts} {s0 : State} (k : Fin 32) (ohm : ℕ) (loop : ℕ) (loc : ℕ) {s : State} (hs0 : Frame P s0 s) (h_regs : P.regs = true) (h_sys : P.sys = true) (h_dic : P.dic = true) (h_mg : P.mg = true) (h_le : P.le = true) (h_sn : P.sn = true) :
    Answers P s0 (execLeakSample k ohm loop loc s) := by
  unfold execLeakSample
  repeat' first
    | with_reducible assumption
    | (intro sv; refine frame_cut (a := Frame P s0 sv) ?_ ?_; on_goal 2 => dsimp -zeta only [sv]; on_goal 1 => clear_value sv)
    | (intro sv; clear_value sv)
    | intro _
    | with_reducible apply answers_next
    | with_reducible apply answers_ite
    | lift_lets -underBinder
    | with_reducible apply leakMeasure_frame
    | with_reducible apply leakSample_frame
    | with_reducible apply frame_ite
    | with_reducible apply frame_foldl
    | with_reducible apply frame_foldr
    | split

theorem leakOff_frame {P : Parts} {s0 : State} {s : State} (k : ℕ) (hs0 : Frame P s0 s) (h_regs : P.regs = true) (h_sn : P.sn = true) :
    Frame P s0 (State.leakOff s k) := by
  unfold State.leakOff
  repeat' first
    | with_reducible assumption
    | (intro sv; refine frame_cut (a := Frame P s0 sv) ?_ ?_; on_goal 2 => dsimp -zeta only [sv]; on_goal 1 => clear_value sv)
    | (intro sv; clear_value sv)
    | intro _
    | lift_lets -underBinder
    | with_reducible apply setTmInput_frame
    | with_reducible apply setLkCh_frame
    | with_reducible apply wr_frame
    | with_reducible apply frame_ite
    | with_reducible apply frame_foldl
    | with_reducible apply frame_foldr
    | split

theorem execLkAckWrite_answers {P : Parts} {s0 : State} (k : Fin 32) {s : State} (hs0 : Frame P s0 s) (h_regs : P.regs = true) (h_mg : P.mg = true) (h_sn : P.sn = true) :
    Answers P s0 (execLkAckWrite k s) := by
  unfold execLkAckWrite
  repeat' first
    | with_reducible assumption
    | (intro sv; refine frame_cut (a := Frame P s0 sv) ?_ ?_; on_goal 2 => dsimp -zeta only [sv]; on_goal 1 => clear_value sv)
    | (intro sv; clear_value sv)
    | intro _
    | with_reducible apply answers_next
    | with_reducible apply answers_ite
    | lift_lets -underBinder
    | with_reducible apply setTmInput_frame
    | with_reducible apply wr_frame
    | with_reducible apply log_frame
    | with_reducible apply setLkCh_frame
    | with_reducible apply frame_ite
    | with_reducible apply frame_foldl
    | with_reducible apply frame_foldr
    | split

theorem cpLossOn_frame {P : Parts} {s0 : State} {s : State} (hs0 : Frame P s0 s) (h_regs : P.regs = true) (h_sys : P.sys = true) (h_dic : P.dic = true) (h_mg : P.mg = true) (h_mb : P.mb = true) (h_le : P.le = true) (h_sv : P.sv = true) (h_pf : P.pf = true) (h_tr : P.tr = true) (h_tw : P.tw = true) :
    Frame P s0 (State.cpLossOn s) := by
  unfold State.cpLossOn
  repeat' first
    | with_reducible assumption
    | (intro sv; refine frame_cut (a := Frame P s0 sv) ?_ ?_; on_goal 2 => dsimp -zeta only [sv]; on_goal 1 => clear_value sv)
    | (intro sv; clear_value sv)
    | intro _
    | lift_lets -underBinder
    | with_reducible apply enterSurvival_frame
    | with_reducible apply note_frame
    | with_reducible apply setTmInput_frame
    | with_reducible apply putBit_frame
    | with_reducible apply frame_ite
    | with_reducible apply frame_foldl
    | with_reducible apply frame_foldr
    | split

theorem cpLossOff_frame {P : Parts} {s0 : State} {s : State} (hs0 : Frame P s0 s) (h_regs : P.regs = true) (h_sys : P.sys = true) :
    Frame P s0 (State.cpLossOff s) := by
  unfold State.cpLossOff
  repeat' first
    | with_reducible assumption
    | (intro sv; refine frame_cut (a := Frame P s0 sv) ?_ ?_; on_goal 2 => dsimp -zeta only [sv]; on_goal 1 => clear_value sv)
    | (intro sv; clear_value sv)
    | intro _
    | lift_lets -underBinder
    | with_reducible apply onSys_frame
    | with_reducible apply setTmInput_frame
    | with_reducible apply putBit_frame
    | with_reducible apply frame_ite
    | with_reducible apply frame_foldl
    | with_reducible apply frame_foldr
    | split

theorem cpLow_frame {P : Parts} {s0 : State} {s : State} (b : Bool) (hs0 : Frame P s0 s) (h_regs : P.regs = true) (h_dic : P.dic = true) (h_mg : P.mg = true) (h_le : P.le = true) (h_sn : P.sn = true) :
    Frame P s0 (State.cpLow s b) := by
  unfold State.cpLow
  repeat' first
    | with_reducible assumption
    | (intro sv; refine frame_cut (a := Frame P s0 sv) ?_ ?_; on_goal 2 => dsimp -zeta only [sv]; on_goal 1 => clear_value sv)
    | (intro sv; clear_value sv)
    | intro _
    | lift_lets -underBinder
    | with_reducible apply onSn_frame
    | with_reducible apply putBit_frame
    | with_reducible apply note_frame
    | with_reducible apply frame_ite
    | with_reducible apply frame_foldl
    | with_reducible apply frame_foldr
    | split

theorem cpFlowEval_frame {P : Parts} {s0 : State} {s : State} (flow : F32) (tin : F32) (hs0 : Frame P s0 s) (h_regs : P.regs = true) (h_sys : P.sys = true) (h_dic : P.dic = true) (h_mg : P.mg = true) (h_mb : P.mb = true) (h_le : P.le = true) (h_sv : P.sv = true) (h_pf : P.pf = true) (h_sn : P.sn = true) (h_tr : P.tr = true) (h_tw : P.tw = true) :
    Frame P s0 (State.cpFlowEval s flow tin) := by
  unfold State.cpFlowEval
  repeat' first
    | with_reducible assumption
    | (intro sv; refine frame_cut (a := Frame P s0 sv) ?_ ?_; on_goal 2 => dsimp -zeta only [sv]; on_goal 1 => clear_value sv)
    | (intro sv; clear_value sv)
    | intro _
    | lift_lets -underBinder
    | with_reducible apply onSn_frame
    | with_reducible apply cpLossOn_frame
    | with_reducible apply cpLossOff_frame
    | with_reducible apply cpLow_frame
    | with_reducible apply frame_ite
    | with_reducible apply frame_foldl
    | with_reducible apply frame_foldr
    | split

theorem cpRiseEval_frame {P : Parts} {s0 : State} {s : State} (tin : F32) (tout : F32) (hs0 : Frame P s0 s) (h_regs : P.regs = true) (h_sys : P.sys = true) (h_dic : P.dic = true) (h_mg : P.mg = true) (h_mb : P.mb = true) (h_le : P.le = true) (h_sv : P.sv = true) (h_pf : P.pf = true) (h_sn : P.sn = true) (h_tr : P.tr = true) (h_tw : P.tw = true) :
    Frame P s0 (State.cpRiseEval s tin tout) := by
  unfold State.cpRiseEval
  repeat' first
    | with_reducible assumption
    | (intro sv; refine frame_cut (a := Frame P s0 sv) ?_ ?_; on_goal 2 => dsimp -zeta only [sv]; on_goal 1 => clear_value sv)
    | (intro sv; clear_value sv)
    | intro _
    | lift_lets -underBinder
    | with_reducible apply onSn_frame
    | with_reducible apply cpLossOn_frame
    | with_reducible apply cpLossOff_frame
    | with_reducible apply cpLow_frame
    | with_reducible apply frame_ite
    | with_reducible apply frame_foldl
    | with_reducible apply frame_foldr
    | split

theorem cpCondense_frame {P : Parts} {s0 : State} {s : State} (b : Bool) (hs0 : Frame P s0 s) (h_regs : P.regs = true) (h_dic : P.dic = true) (h_mg : P.mg = true) (h_le : P.le = true) :
    Frame P s0 (State.cpCondense s b) := by
  unfold State.cpCondense
  repeat' first
    | with_reducible assumption
    | (intro sv; refine frame_cut (a := Frame P s0 sv) ?_ ?_; on_goal 2 => dsimp -zeta only [sv]; on_goal 1 => clear_value sv)
    | (intro sv; clear_value sv)
    | intro _
    | lift_lets -underBinder
    | with_reducible apply putBit_frame
    | with_reducible apply note_frame
    | with_reducible apply frame_ite
    | with_reducible apply frame_foldl
    | with_reducible apply frame_foldr
    | split

theorem execCpEvaluation_answers {P : Parts} {s0 : State} (flow : BitVec 32) (tin : BitVec 32) (tout : BitVec 32) (failed : Bool) (wet : Bool) {s : State} (hs0 : Frame P s0 s) (h_regs : P.regs = true) (h_sys : P.sys = true) (h_dic : P.dic = true) (h_mg : P.mg = true) (h_mb : P.mb = true) (h_le : P.le = true) (h_sv : P.sv = true) (h_pf : P.pf = true) (h_sn : P.sn = true) (h_tr : P.tr = true) (h_tw : P.tw = true) :
    Answers P s0 (execCpEvaluation flow tin tout failed wet s) := by
  unfold execCpEvaluation
  repeat' first
    | with_reducible assumption
    | (intro sv; refine frame_cut (a := Frame P s0 sv) ?_ ?_; on_goal 2 => dsimp -zeta only [sv]; on_goal 1 => clear_value sv)
    | (intro sv; clear_value sv)
    | intro _
    | with_reducible apply answers_next
    | with_reducible apply answers_ite
    | lift_lets -underBinder
    | with_reducible apply wrf_frame
    | with_reducible apply onSn_frame
    | with_reducible apply putBit_frame
    | with_reducible apply cpRiseEval_frame
    | with_reducible apply cpFlowEval_frame
    | with_reducible apply cpCondense_frame
    | with_reducible apply frame_ite
    | with_reducible apply frame_foldl
    | with_reducible apply frame_foldr
    | split

theorem execSurvivalExit_answers {P : Parts} {s0 : State} {s : State} (hs0 : Frame P s0 s) (h_regs : P.regs = true) (h_sys : P.sys = true) (h_dic : P.dic = true) (h_mg : P.mg = true) (h_mb : P.mb = true) (h_pb : P.pb = true) (h_vq : P.vq = true) (h_le : P.le = true) (h_sv : P.sv = true) (h_pf : P.pf = true) (h_tr : P.tr = true) (h_tw : P.tw = true) :
    Answers P s0 (execSurvivalExit s) := by
  unfold execSurvivalExit
  repeat' first
    | with_reducible assumption
    | (intro sv; refine frame_cut (a := Frame P s0 sv) ?_ ?_; on_goal 2 => dsimp -zeta only [sv]; on_goal 1 => clear_value sv)
    | (intro sv; clear_value sv)
    | intro _
    | with_reducible apply answers_next
    | with_reducible apply answers_ite
    | lift_lets -underBinder
    | with_reducible apply leaveSurvival_frame
    | with_reducible apply frame_ite
    | with_reducible apply frame_foldl
    | with_reducible apply frame_foldr
    | split

theorem execDerateStart_answers {P : Parts} {s0 : State} {s : State} (hs0 : Frame P s0 s) (h_regs : P.regs = true) (h_mg : P.mg = true) (h_sn : P.sn = true) (h_tr : P.tr = true) :
    Answers P s0 (execDerateStart s) := by
  unfold execDerateStart
  repeat' first
    | with_reducible assumption
    | (intro sv; refine frame_cut (a := Frame P s0 sv) ?_ ?_; on_goal 2 => dsimp -zeta only [sv]; on_goal 1 => clear_value sv)
    | (intro sv; clear_value sv)
    | intro _
    | with_reducible apply answers_next
    | with_reducible apply answers_ite
    | lift_lets -underBinder
    | with_reducible apply log_frame
    | with_reducible apply trMode_frame
    | with_reducible apply onSn_frame
    | with_reducible apply rotAbort_frame
    | with_reducible apply frame_ite
    | with_reducible apply frame_foldl
    | with_reducible apply frame_foldr
    | split

theorem execDerateEnd_answers {P : Parts} {s0 : State} {s : State} (hs0 : Frame P s0 s) (h_regs : P.regs = true) (h_mg : P.mg = true) (h_sn : P.sn = true) (h_tr : P.tr = true) :
    Answers P s0 (execDerateEnd s) := by
  unfold execDerateEnd
  repeat' first
    | with_reducible assumption
    | (intro sv; refine frame_cut (a := Frame P s0 sv) ?_ ?_; on_goal 2 => dsimp -zeta only [sv]; on_goal 1 => clear_value sv)
    | (intro sv; clear_value sv)
    | intro _
    | with_reducible apply answers_next
    | with_reducible apply answers_ite
    | lift_lets -underBinder
    | with_reducible apply log_frame
    | with_reducible apply trMode_frame
    | with_reducible apply onSn_frame
    | with_reducible apply frame_ite
    | with_reducible apply frame_foldl
    | with_reducible apply frame_foldr
    | split

theorem execFieldStreamPublish_answers {P : Parts} {s0 : State} (k : Fin 18) (p : StreamPart) {s : State} (hs0 : Frame P s0 s) (h_regs : P.regs = true) (h_dic : P.dic = true) (h_vq : P.vq = true) (h_le : P.le = true) (h_sn : P.sn = true) (h_tw : P.tw = true) :
    Answers P s0 (execFieldStreamPublish k p s) := by
  unfold execFieldStreamPublish
  repeat' first
    | with_reducible assumption
    | (intro sv; refine frame_cut (a := Frame P s0 sv) ?_ ?_; on_goal 2 => dsimp -zeta only [sv]; on_goal 1 => clear_value sv)
    | (intro sv; clear_value sv)
    | intro _
    | with_reducible apply answers_next
    | with_reducible apply answers_ite
    | lift_lets -underBinder
    | with_reducible apply onSn_frame
    | with_reducible apply publishAt_frame
    | with_reducible apply beginPacket_frame
    | with_reducible apply frame_ite
    | with_reducible apply frame_foldl
    | with_reducible apply frame_foldr
    | split

end Sys2Proof.Machine
end

