-- ==== Sys2Proof/Laws/SupervisorFrame.lean ====
section
/-! SUPPORT. What the operations of Machine/Supervisor.lean may touch, and that they keep the memories canonical. -/

namespace Sys2Proof.Machine

theorem execTripRowLatch_answers {P : Parts} {s0 : State} (r : Fin 128) {s : State} (hs0 : Frame P s0 s) (h_regs : P.regs = true) (h_sys : P.sys = true) (h_dic : P.dic = true) (h_mg : P.mg = true) (h_mb : P.mb = true) (h_pb : P.pb = true) (h_vq : P.vq = true) (h_le : P.le = true) (h_sv : P.sv = true) (h_pf : P.pf = true) (h_tr : P.tr = true) (h_tw : P.tw = true) :
    Answers P s0 (execTripRowLatch r s) := by
  unfold execTripRowLatch
  repeat' first
    | with_reducible assumption
    | (intro sv; refine frame_cut (a := Frame P s0 sv) ?_ ?_; on_goal 2 => dsimp -zeta only [sv]; on_goal 1 => clear_value sv)
    | (intro sv; clear_value sv)
    | intro _
    | with_reducible apply answers_next
    | with_reducible apply answers_ite
    | lift_lets -underBinder
    | with_reducible apply note_frame
    | with_reducible apply setTmLatch_frame
    | with_reducible apply tripAct_frame
    | with_reducible apply frame_ite
    | with_reducible apply frame_foldl
    | with_reducible apply frame_foldr
    | split

theorem tmLock_frame {P : Parts} {s0 : State} {s : State} (hs0 : Frame P s0 s) (h_regs : P.regs = true) :
    Frame P s0 (State.tmLock s) := by
  unfold State.tmLock
  repeat' first
    | with_reducible assumption
    | (intro sv; refine frame_cut (a := Frame P s0 sv) ?_ ?_; on_goal 2 => dsimp -zeta only [sv]; on_goal 1 => clear_value sv)
    | (intro sv; clear_value sv)
    | intro _
    | lift_lets -underBinder
    | with_reducible apply wr_frame
    | with_reducible apply putBit_frame
    | with_reducible apply frame_ite
    | with_reducible apply frame_foldl
    | with_reducible apply frame_foldr
    | split

theorem execTmLockWrite_answers {P : Parts} {s0 : State} {s : State} (hs0 : Frame P s0 s) (h_regs : P.regs = true) :
    Answers P s0 (execTmLockWrite s) := by
  unfold execTmLockWrite
  repeat' first
    | with_reducible assumption
    | (intro sv; refine frame_cut (a := Frame P s0 sv) ?_ ?_; on_goal 2 => dsimp -zeta only [sv]; on_goal 1 => clear_value sv)
    | (intro sv; clear_value sv)
    | intro _
    | with_reducible apply answers_next
    | with_reducible apply answers_ite
    | lift_lets -underBinder
    | with_reducible apply tmLock_frame
    | with_reducible apply frame_ite
    | with_reducible apply frame_foldl
    | with_reducible apply frame_foldr
    | split

theorem execTripLatchClear_answers {P : Parts} {s0 : State} (w : Fin 4) (v : BitVec 32) {s : State} (hs0 : Frame P s0 s) (h_regs : P.regs = true) (h_pb : P.pb = true) :
    Answers P s0 (execTripLatchClear w v s) := by
  unfold execTripLatchClear
  repeat' first
    | with_reducible assumption
    | (intro sv; refine frame_cut (a := Frame P s0 sv) ?_ ?_; on_goal 2 => dsimp -zeta only [sv]; on_goal 1 => clear_value sv)
    | (intro sv; clear_value sv)
    | intro _
    | with_reducible apply answers_next
    | with_reducible apply answers_ite
    | lift_lets -underBinder
    | with_reducible apply tmSettle_frame
    | with_reducible apply tmClear_frame
    | with_reducible apply frame_ite
    | with_reducible apply frame_foldl
    | with_reducible apply frame_foldr
    | split

theorem execHostSilenceTimeout_answers {P : Parts} {s0 : State} {s : State} (hs0 : Frame P s0 s) (h_regs : P.regs = true) (h_sys : P.sys = true) (h_dic : P.dic = true) (h_mg : P.mg = true) (h_mb : P.mb = true) (h_pb : P.pb = true) (h_vq : P.vq = true) (h_le : P.le = true) (h_sv : P.sv = true) (h_pf : P.pf = true) (h_tr : P.tr = true) (h_tw : P.tw = true) :
    Answers P s0 (execHostSilenceTimeout s) := by
  unfold execHostSilenceTimeout
  repeat' first
    | with_reducible assumption
    | (intro sv; refine frame_cut (a := Frame P s0 sv) ?_ ?_; on_goal 2 => dsimp -zeta only [sv]; on_goal 1 => clear_value sv)
    | (intro sv; clear_value sv)
    | intro _
    | with_reducible apply answers_next
    | with_reducible apply answers_ite
    | lift_lets -underBinder
    | with_reducible apply demote_frame
    | with_reducible apply onMg_frame
    | with_reducible apply onSys_frame
    | with_reducible apply frame_ite
    | with_reducible apply frame_foldl
    | with_reducible apply frame_foldr
    | split

theorem execIsolateEntry_answers {P : Parts} {s0 : State} {s : State} (hs0 : Frame P s0 s) (h_regs : P.regs = true) (h_sys : P.sys = true) (h_mg : P.mg = true) (h_mb : P.mb = true) (h_pb : P.pb = true) (h_le : P.le = true) (h_sv : P.sv = true) (h_pf : P.pf = true) (h_tr : P.tr = true) (h_tw : P.tw = true) :
    Answers P s0 (execIsolateEntry s) := by
  unfold execIsolateEntry
  repeat' first
    | with_reducible assumption
    | (intro sv; refine frame_cut (a := Frame P s0 sv) ?_ ?_; on_goal 2 => dsimp -zeta only [sv]; on_goal 1 => clear_value sv)
    | (intro sv; clear_value sv)
    | intro _
    | with_reducible apply answers_next
    | with_reducible apply answers_ite
    | lift_lets -underBinder
    | with_reducible apply enterIsolate_frame
    | with_reducible apply onSys_frame
    | with_reducible apply frame_ite
    | with_reducible apply frame_foldl
    | with_reducible apply frame_foldr
    | split

end Sys2Proof.Machine
end

