-- ==== Sys2Proof/Laws/TrellisCtlFrame.lean ====
section
/-! SUPPORT. What the operations of Machine/TrellisCtl.lean may touch, and that they keep the memories canonical. -/

namespace Sys2Proof.Machine

theorem setTile_frame {P : Parts} {s0 : State} {s : State} (t : ℕ) (x : Tile) (hs0 : Frame P s0 s) (h_tr : P.tr = true) :
    Frame P s0 (State.setTile s t x) := by
  unfold State.setTile
  repeat' first
    | with_reducible assumption
    | (intro sv; refine frame_cut (a := Frame P s0 sv) ?_ ?_; on_goal 2 => dsimp -zeta only [sv]; on_goal 1 => clear_value sv)
    | (intro sv; clear_value sv)
    | intro _
    | lift_lets -underBinder
    | with_reducible apply onTr_frame
    | with_reducible apply frame_ite
    | with_reducible apply frame_foldl
    | with_reducible apply frame_foldr
    | split

theorem tileState_frame {P : Parts} {s0 : State} {s : State} (t : ℕ) (hs0 : Frame P s0 s) (h_regs : P.regs = true) :
    Frame P s0 (State.tileState s t) := by
  unfold State.tileState
  repeat' first
    | with_reducible assumption
    | (intro sv; refine frame_cut (a := Frame P s0 sv) ?_ ?_; on_goal 2 => dsimp -zeta only [sv]; on_goal 1 => clear_value sv)
    | (intro sv; clear_value sv)
    | intro _
    | lift_lets -underBinder
    | with_reducible apply wr_frame
    | with_reducible apply frame_ite
    | with_reducible apply frame_foldl
    | with_reducible apply frame_foldr
    | split

theorem tileStates_frame {P : Parts} {s0 : State} {s : State} (hs0 : Frame P s0 s) (h_regs : P.regs = true) :
    Frame P s0 (State.tileStates s) := by
  unfold State.tileStates
  repeat' first
    | with_reducible assumption
    | (intro sv; refine frame_cut (a := Frame P s0 sv) ?_ ?_; on_goal 2 => dsimp -zeta only [sv]; on_goal 1 => clear_value sv)
    | (intro sv; clear_value sv)
    | intro _
    | lift_lets -underBinder
    | with_reducible apply tileState_frame
    | with_reducible apply frame_ite
    | with_reducible apply frame_foldl
    | with_reducible apply frame_foldr
    | split

theorem initRow_frame {P : Parts} {s0 : State} {s : State} (slot : ℕ) (c : ℕ) {x3 : State} (p : Stage × ℕ) (hs0 : Frame P s0 s) (hx30 : Frame P s0 x3) (h_tr : P.tr = true) :
    Frame P s0 (State.initRow s slot c x3 p) := by
  unfold State.initRow
  repeat' first
    | with_reducible assumption
    | (intro sv; refine frame_cut (a := Frame P s0 sv) ?_ ?_; on_goal 2 => dsimp -zeta only [sv]; on_goal 1 => clear_value sv)
    | (intro sv; clear_value sv)
    | intro _
    | lift_lets -underBinder
    | with_reducible apply setTile_frame
    | with_reducible apply frame_ite
    | with_reducible apply frame_foldl
    | with_reducible apply frame_foldr
    | split

theorem initCtx_frame {P : Parts} {s0 : State} {s : State} (c : ℕ) (hs0 : Frame P s0 s) (h_tr : P.tr = true) :
    Frame P s0 (State.initCtx s c) := by
  unfold State.initCtx
  repeat' first
    | with_reducible assumption
    | (intro sv; refine frame_cut (a := Frame P s0 sv) ?_ ?_; on_goal 2 => dsimp -zeta only [sv]; on_goal 1 => clear_value sv)
    | (intro sv; clear_value sv)
    | intro _
    | lift_lets -underBinder
    | with_reducible apply initRow_frame
    | with_reducible apply frame_ite
    | with_reducible apply frame_foldl
    | with_reducible apply frame_foldr
    | split

theorem loadImage_frame {P : Parts} {s0 : State} {s : State} (hs0 : Frame P s0 s) (h_tr : P.tr = true) :
    Frame P s0 (State.loadImage s) := by
  unfold State.loadImage
  repeat' first
    | with_reducible assumption
    | (intro sv; refine frame_cut (a := Frame P s0 sv) ?_ ?_; on_goal 2 => dsimp -zeta only [sv]; on_goal 1 => clear_value sv)
    | (intro sv; clear_value sv)
    | intro _
    | lift_lets -underBinder
    | with_reducible apply setTile_frame
    | with_reducible apply initCtx_frame
    | with_reducible apply frame_ite
    | with_reducible apply frame_foldl
    | with_reducible apply frame_foldr
    | split

theorem mapColumns_frame {P : Parts} {s0 : State} {s : State} (x : Image) (rot : Bool) (hs0 : Frame P s0 s) (h_regs : P.regs = true) :
    Frame P s0 (State.mapColumns s x rot) := by
  unfold State.mapColumns
  repeat' first
    | with_reducible assumption
    | (intro sv; refine frame_cut (a := Frame P s0 sv) ?_ ?_; on_goal 2 => dsimp -zeta only [sv]; on_goal 1 => clear_value sv)
    | (intro sv; clear_value sv)
    | intro _
    | lift_lets -underBinder
    | with_reducible apply wr_frame
    | with_reducible apply putBit_frame
    | with_reducible apply tileStates_frame
    | with_reducible apply frame_ite
    | with_reducible apply frame_foldl
    | with_reducible apply frame_foldr
    | split

theorem trStop_frame {P : Parts} {s0 : State} {s : State} (hs0 : Frame P s0 s) (h_regs : P.regs = true) (h_mg : P.mg = true) (h_tr : P.tr = true) :
    Frame P s0 (State.trStop s) := by
  unfold State.trStop
  repeat' first
    | with_reducible assumption
    | (intro sv; refine frame_cut (a := Frame P s0 sv) ?_ ?_; on_goal 2 => dsimp -zeta only [sv]; on_goal 1 => clear_value sv)
    | (intro sv; clear_value sv)
    | intro _
    | lift_lets -underBinder
    | with_reducible apply putBit_frame
    | with_reducible apply rotAbort_frame
    | with_reducible apply wr_frame
    | with_reducible apply trStatus_frame
    | with_reducible apply onTr_frame
    | with_reducible apply frame_ite
    | with_reducible apply frame_foldl
    | with_reducible apply frame_foldr
    | split

theorem trUnadmit_frame {P : Parts} {s0 : State} {s : State} (hs0 : Frame P s0 s) (h_regs : P.regs = true) (h_le : P.le = true) :
    Frame P s0 (State.trUnadmit s) := by
  unfold State.trUnadmit
  repeat' first
    | with_reducible assumption
    | (intro sv; refine frame_cut (a := Frame P s0 sv) ?_ ?_; on_goal 2 => dsimp -zeta only [sv]; on_goal 1 => clear_value sv)
    | (intro sv; clear_value sv)
    | intro _
    | lift_lets -underBinder
    | with_reducible apply onLe_frame
    | with_reducible apply putBit_frame
    | with_reducible apply frame_ite
    | with_reducible apply frame_foldl
    | with_reducible apply frame_foldr
    | split

theorem trForm_frame {P : Parts} {s0 : State} {s : State} (x : Image) (rot : Bool) (hs0 : Frame P s0 s) (h_regs : P.regs = true) (h_tr : P.tr = true) :
    Frame P s0 (State.trForm s x rot) := by
  unfold State.trForm
  repeat' first
    | with_reducible assumption
    | (intro sv; refine frame_cut (a := Frame P s0 sv) ?_ ?_; on_goal 2 => dsimp -zeta only [sv]; on_goal 1 => clear_value sv)
    | (intro sv; clear_value sv)
    | intro _
    | lift_lets -underBinder
    | with_reducible apply wr_frame
    | with_reducible apply onTr_frame
    | with_reducible apply mapColumns_frame
    | with_reducible apply putBit_frame
    | with_reducible apply frame_ite
    | with_reducible apply frame_foldl
    | with_reducible apply frame_foldr
    | split

theorem trSelect_frame {P : Parts} {s0 : State} {s : State} (hs0 : Frame P s0 s) (h_regs : P.regs = true) (h_tr : P.tr = true) :
    Frame P s0 (State.trSelect s) := by
  unfold State.trSelect
  repeat' first
    | with_reducible assumption
    | (intro sv; refine frame_cut (a := Frame P s0 sv) ?_ ?_; on_goal 2 => dsimp -zeta only [sv]; on_goal 1 => clear_value sv)
    | (intro sv; clear_value sv)
    | intro _
    | lift_lets -underBinder
    | with_reducible apply putBit_frame
    | with_reducible apply wr_frame
    | with_reducible apply trStatus_frame
    | with_reducible apply onTr_frame
    | with_reducible apply frame_ite
    | with_reducible apply frame_foldl
    | with_reducible apply frame_foldr
    | split

theorem trStart_frame {P : Parts} {s0 : State} {s : State} (hs0 : Frame P s0 s) (h_regs : P.regs = true) (h_tr : P.tr = true) :
    Frame P s0 (State.trStart s) := by
  unfold State.trStart
  repeat' first
    | with_reducible assumption
    | (intro sv; refine frame_cut (a := Frame P s0 sv) ?_ ?_; on_goal 2 => dsimp -zeta only [sv]; on_goal 1 => clear_value sv)
    | (intro sv; clear_value sv)
    | intro _
    | lift_lets -underBinder
    | with_reducible apply trSelect_frame
    | with_reducible apply putBit_frame
    | with_reducible apply frame_ite
    | with_reducible apply frame_foldl
    | with_reducible apply frame_foldr
    | split

theorem plantDeliver_frame {P : Parts} {s0 : State} {s : State} (hs0 : Frame P s0 s) (h_tr : P.tr = true) :
    Frame P s0 (State.plantDeliver s) := by
  unfold State.plantDeliver
  repeat' first
    | with_reducible assumption
    | (intro sv; refine frame_cut (a := Frame P s0 sv) ?_ ?_; on_goal 2 => dsimp -zeta only [sv]; on_goal 1 => clear_value sv)
    | (intro sv; clear_value sv)
    | intro _
    | lift_lets -underBinder
    | with_reducible apply setTile_frame
    | with_reducible apply frame_ite
    | with_reducible apply frame_foldl
    | with_reducible apply frame_foldr
    | split

theorem trFrame_frame {P : Parts} {s0 : State} {s : State} (hs0 : Frame P s0 s) (h_regs : P.regs = true) (h_tr : P.tr = true) :
    Frame P s0 (State.trFrame s) := by
  unfold State.trFrame
  repeat' first
    | with_reducible assumption
    | (intro sv; refine frame_cut (a := Frame P s0 sv) ?_ ?_; on_goal 2 => dsimp -zeta only [sv]; on_goal 1 => clear_value sv)
    | (intro sv; clear_value sv)
    | intro _
    | lift_lets -underBinder
    | with_reducible apply addSat_frame
    | with_reducible apply plantDeliver_frame
    | with_reducible apply initCtx_frame
    | with_reducible apply wr_frame
    | with_reducible apply onTr_frame
    | with_reducible apply frame_ite
    | with_reducible apply frame_foldl
    | with_reducible apply frame_foldr
    | split

theorem trRotBoundary_frame {P : Parts} {s0 : State} {s : State} (hs0 : Frame P s0 s) (h_regs : P.regs = true) (h_tr : P.tr = true) :
    Frame P s0 (State.trRotBoundary s) := by
  unfold State.trRotBoundary
  repeat' first
    | with_reducible assumption
    | (intro sv; refine frame_cut (a := Frame P s0 sv) ?_ ?_; on_goal 2 => dsimp -zeta only [sv]; on_goal 1 => clear_value sv)
    | (intro sv; clear_value sv)
    | intro _
    | lift_lets -underBinder
    | with_reducible apply onTr_frame
    | with_reducible apply putBit_frame
    | with_reducible apply frame_ite
    | with_reducible apply frame_foldl
    | with_reducible apply frame_foldr
    | split

theorem tileBits_frame {P : Parts} {s0 : State} {s : State} (t : ℕ) (x2 : TileCause) (hs0 : Frame P s0 s) (h_regs : P.regs = true) :
    Frame P s0 (State.tileBits s t x2) := by
  unfold State.tileBits
  repeat' first
    | with_reducible assumption
    | (intro sv; refine frame_cut (a := Frame P s0 sv) ?_ ?_; on_goal 2 => dsimp -zeta only [sv]; on_goal 1 => clear_value sv)
    | (intro sv; clear_value sv)
    | intro _
    | lift_lets -underBinder
    | with_reducible apply putBit_frame
    | with_reducible apply wr_frame
    | with_reducible apply frame_ite
    | with_reducible apply frame_foldl
    | with_reducible apply frame_foldr
    | split

theorem onCommit_frame {P : Parts} {s0 : State} {s : State} (f : Commit → Commit) (hs0 : Frame P s0 s) (h_tr : P.tr = true) :
    Frame P s0 (State.onCommit s f) := by
  unfold State.onCommit
  repeat' first
    | with_reducible assumption
    | (intro sv; refine frame_cut (a := Frame P s0 sv) ?_ ?_; on_goal 2 => dsimp -zeta only [sv]; on_goal 1 => clear_value sv)
    | (intro sv; clear_value sv)
    | intro _
    | lift_lets -underBinder
    | with_reducible apply onTr_frame
    | with_reducible apply frame_ite
    | with_reducible apply frame_foldl
    | with_reducible apply frame_foldr
    | split

theorem commitStep_frame {P : Parts} {s0 : State} {s : State} (j : ℕ) (n : ℕ) (hs0 : Frame P s0 s) (h_regs : P.regs = true) (h_dic : P.dic = true) (h_mg : P.mg = true) (h_mb : P.mb = true) (h_le : P.le = true) (h_tw : P.tw = true) :
    Frame P s0 (State.commitStep s j n) := by
  unfold State.commitStep
  repeat' first
    | with_reducible assumption
    | (intro sv; refine frame_cut (a := Frame P s0 sv) ?_ ?_; on_goal 2 => dsimp -zeta only [sv]; on_goal 1 => clear_value sv)
    | (intro sv; clear_value sv)
    | intro _
    | lift_lets -underBinder
    | with_reducible apply note_frame
    | with_reducible apply journalStep_frame
    | with_reducible apply frame_ite
    | with_reducible apply frame_foldl
    | with_reducible apply frame_foldr
    | split

theorem unadmitted_frame {P : Parts} {s0 : State} {s : State} (hs0 : Frame P s0 s) (h_regs : P.regs = true) (h_dic : P.dic = true) (h_mg : P.mg = true) (h_le : P.le = true) (h_tr : P.tr = true) :
    Frame P s0 (State.unadmitted s) := by
  unfold State.unadmitted
  repeat' first
    | with_reducible assumption
    | (intro sv; refine frame_cut (a := Frame P s0 sv) ?_ ?_; on_goal 2 => dsimp -zeta only [sv]; on_goal 1 => clear_value sv)
    | (intro sv; clear_value sv)
    | intro _
    | lift_lets -underBinder
    | with_reducible apply onTr_frame
    | with_reducible apply trUnadmit_frame
    | with_reducible apply wr_frame
    | with_reducible apply note_frame
    | with_reducible apply tileStates_frame
    | with_reducible apply frame_ite
    | with_reducible apply frame_foldl
    | with_reducible apply frame_foldr
    | split

theorem noModel_frame {P : Parts} {s0 : State} {s : State} (hs0 : Frame P s0 s) (h_regs : P.regs = true) (h_dic : P.dic = true) (h_mg : P.mg = true) (h_le : P.le = true) (h_tr : P.tr = true) :
    Frame P s0 (State.noModel s) := by
  unfold State.noModel
  repeat' first
    | with_reducible assumption
    | (intro sv; refine frame_cut (a := Frame P s0 sv) ?_ ?_; on_goal 2 => dsimp -zeta only [sv]; on_goal 1 => clear_value sv)
    | (intro sv; clear_value sv)
    | intro _
    | lift_lets -underBinder
    | with_reducible apply onTr_frame
    | with_reducible apply unadmitted_frame
    | with_reducible apply frame_ite
    | with_reducible apply frame_foldl
    | with_reducible apply frame_foldr
    | split

theorem beginLoad_frame {P : Parts} {s0 : State} {t : State} {s : State} {c : Commit} (heq : State.beginLoad s c = some t) (hs0 : Frame P s0 s) (h_regs : P.regs = true) (h_tr : P.tr = true) :
    Frame P s0 t := by
  unfold State.beginLoad at heq
  try dsimp only at heq
  repeat' split at heq
  all_goals cases heq
  all_goals
    repeat' first
      | with_reducible assumption
      | (intro sv; refine frame_cut (a := Frame P s0 sv) ?_ ?_; on_goal 2 => dsimp -zeta only [sv]; on_goal 1 => clear_value sv)
      | (intro sv; clear_value sv)
      | intro _
      | lift_lets -underBinder
      | with_reducible apply onTr_frame
      | with_reducible apply trForm_frame
      | with_reducible apply frame_ite
      | with_reducible apply frame_foldl
      | with_reducible apply frame_foldr
      | split

theorem commitFail_frame {P : Parts} {s0 : State} {s : State} (hs0 : Frame P s0 s) (h_regs : P.regs = true) (h_dic : P.dic = true) (h_mg : P.mg = true) (h_mb : P.mb = true) (h_le : P.le = true) (h_tr : P.tr = true) (h_tw : P.tw = true) :
    Frame P s0 (State.commitFail s) := by
  unfold State.commitFail
  repeat' first
    | with_reducible assumption
    | (intro sv; refine frame_cut (a := Frame P s0 sv) ?_ ?_; on_goal 2 => dsimp -zeta only [sv]; on_goal 1 => clear_value sv)
    | (intro sv; clear_value sv)
    | intro _
    | lift_lets -underBinder
    | with_reducible apply trUnadmit_frame
    | with_reducible apply trStop_frame
    | with_reducible apply noModel_frame
    | with_reducible apply note_frame
    | with_reducible apply journalEnd_frame
    | with_reducible apply onTr_frame
    | with_reducible apply frame_ite
    | with_reducible apply frame_foldl
    | with_reducible apply frame_foldr
    | refine beginLoad_frame (by with_reducible assumption) ?_ ?_ ?_
    | split

theorem loseColumn_frame {P : Parts} {s0 : State} {s : State} (p : ℕ) (hs0 : Frame P s0 s) (h_regs : P.regs = true) (h_sys : P.sys = true) (h_dic : P.dic = true) (h_mg : P.mg = true) (h_mb : P.mb = true) (h_le : P.le = true) (h_pf : P.pf = true) (h_tr : P.tr = true) (h_tw : P.tw = true) :
    Frame P s0 (State.loseColumn s p) := by
  unfold State.loseColumn
  repeat' first
    | with_reducible assumption
    | (intro sv; refine frame_cut (a := Frame P s0 sv) ?_ ?_; on_goal 2 => dsimp -zeta only [sv]; on_goal 1 => clear_value sv)
    | (intro sv; clear_value sv)
    | intro _
    | lift_lets -underBinder
    | with_reducible apply putBit_frame
    | with_reducible apply onTr_frame
    | with_reducible apply tileStates_frame
    | with_reducible apply rotAbort_frame
    | with_reducible apply log_frame
    | with_reducible apply trUnadmit_frame
    | with_reducible apply trStop_frame
    | with_reducible apply toReactive_frame
    | with_reducible apply commitFail_frame
    | with_reducible apply onCommit_frame
    | with_reducible apply frame_ite
    | with_reducible apply frame_foldl
    | with_reducible apply frame_foldr
    | split

theorem tileFail_frame {P : Parts} {s0 : State} {s : State} (t : ℕ) (why : TileCause) (hs0 : Frame P s0 s) (h_regs : P.regs = true) (h_sys : P.sys = true) (h_dic : P.dic = true) (h_mg : P.mg = true) (h_mb : P.mb = true) (h_le : P.le = true) (h_pf : P.pf = true) (h_tr : P.tr = true) (h_tw : P.tw = true) :
    Frame P s0 (State.tileFail s t why) := by
  unfold State.tileFail
  repeat' first
    | with_reducible assumption
    | (intro sv; refine frame_cut (a := Frame P s0 sv) ?_ ?_; on_goal 2 => dsimp -zeta only [sv]; on_goal 1 => clear_value sv)
    | (intro sv; clear_value sv)
    | intro _
    | lift_lets -underBinder
    | with_reducible apply tileBits_frame
    | with_reducible apply log_frame
    | with_reducible apply wr_frame
    | with_reducible apply loseColumn_frame
    | with_reducible apply onMg_frame
    | with_reducible apply frame_ite
    | with_reducible apply frame_foldl
    | with_reducible apply frame_foldr
    | split

theorem tileEcc_frame {P : Parts} {s0 : State} {s : State} (t : ℕ) (e : KwErr) (hs0 : Frame P s0 s) (h_regs : P.regs = true) (h_sys : P.sys = true) (h_dic : P.dic = true) (h_mg : P.mg = true) (h_mb : P.mb = true) (h_le : P.le = true) (h_pf : P.pf = true) (h_tr : P.tr = true) (h_tw : P.tw = true) :
    Frame P s0 (State.tileEcc s t e) := by
  unfold State.tileEcc
  repeat' first
    | with_reducible assumption
    | (intro sv; refine frame_cut (a := Frame P s0 sv) ?_ ?_; on_goal 2 => dsimp -zeta only [sv]; on_goal 1 => clear_value sv)
    | (intro sv; clear_value sv)
    | intro _
    | lift_lets -underBinder
    | with_reducible apply incSat_frame
    | with_reducible apply tileFail_frame
    | with_reducible apply frame_ite
    | with_reducible apply frame_foldl
    | with_reducible apply frame_foldr
    | split

theorem sentLost_frame {P : Parts} {s0 : State} {s : State} (hs0 : Frame P s0 s) (h_regs : P.regs = true) (h_tr : P.tr = true) :
    Frame P s0 (State.sentLost s) := by
  unfold State.sentLost
  repeat' first
    | with_reducible assumption
    | (intro sv; refine frame_cut (a := Frame P s0 sv) ?_ ?_; on_goal 2 => dsimp -zeta only [sv]; on_goal 1 => clear_value sv)
    | (intro sv; clear_value sv)
    | intro _
    | lift_lets -underBinder
    | with_reducible apply onTr_frame
    | with_reducible apply putBit_frame
    | with_reducible apply wr_frame
    | with_reducible apply incSat_frame
    | with_reducible apply frame_ite
    | with_reducible apply frame_foldl
    | with_reducible apply frame_foldr
    | split

theorem sentFail_frame {P : Parts} {s0 : State} {s : State} (n : ℕ) (hs0 : Frame P s0 s) (h_regs : P.regs = true) (h_sys : P.sys = true) (h_dic : P.dic = true) (h_mg : P.mg = true) (h_mb : P.mb = true) (h_le : P.le = true) (h_pf : P.pf = true) (h_tr : P.tr = true) (h_tw : P.tw = true) :
    Frame P s0 (State.sentFail s n) := by
  unfold State.sentFail
  repeat' first
    | with_reducible assumption
    | (intro sv; refine frame_cut (a := Frame P s0 sv) ?_ ?_; on_goal 2 => dsimp -zeta only [sv]; on_goal 1 => clear_value sv)
    | (intro sv; clear_value sv)
    | intro _
    | lift_lets -underBinder
    | with_reducible apply sentLost_frame
    | with_reducible apply log_frame
    | with_reducible apply putBit_frame
    | with_reducible apply wr_frame
    | with_reducible apply tileFail_frame
    | with_reducible apply frame_ite
    | with_reducible apply frame_foldl
    | with_reducible apply frame_foldr
    | split

theorem sentPass_frame {P : Parts} {s0 : State} {s : State} (hs0 : Frame P s0 s) (h_regs : P.regs = true) (h_dic : P.dic = true) (h_mg : P.mg = true) (h_mb : P.mb = true) (h_le : P.le = true) (h_tr : P.tr = true) (h_tw : P.tw = true) :
    Frame P s0 (State.sentPass s) := by
  unfold State.sentPass
  repeat' first
    | with_reducible assumption
    | (intro sv; refine frame_cut (a := Frame P s0 sv) ?_ ?_; on_goal 2 => dsimp -zeta only [sv]; on_goal 1 => clear_value sv)
    | (intro sv; clear_value sv)
    | intro _
    | lift_lets -underBinder
    | with_reducible apply incSat_frame
    | with_reducible apply onTr_frame
    | with_reducible apply note_frame
    | with_reducible apply commitStep_frame
    | with_reducible apply onCommit_frame
    | with_reducible apply frame_ite
    | with_reducible apply frame_foldl
    | with_reducible apply frame_foldr
    | split

theorem sentJudge_frame {P : Parts} {s0 : State} {s : State} (hs0 : Frame P s0 s) (h_regs : P.regs = true) (h_sys : P.sys = true) (h_dic : P.dic = true) (h_mg : P.mg = true) (h_mb : P.mb = true) (h_le : P.le = true) (h_pf : P.pf = true) (h_tr : P.tr = true) (h_tw : P.tw = true) :
    Frame P s0 (State.sentJudge s) := by
  unfold State.sentJudge
  repeat' first
    | with_reducible assumption
    | (intro sv; refine frame_cut (a := Frame P s0 sv) ?_ ?_; on_goal 2 => dsimp -zeta only [sv]; on_goal 1 => clear_value sv)
    | (intro sv; clear_value sv)
    | intro _
    | lift_lets -underBinder
    | with_reducible apply sentFail_frame
    | with_reducible apply sentLost_frame
    | with_reducible apply sentPass_frame
    | with_reducible apply frame_ite
    | with_reducible apply frame_foldl
    | with_reducible apply frame_foldr
    | split

theorem deliverTo_frame {P : Parts} {s0 : State} {s : State} (t : ℕ) (ch : ℕ) (tag : ℕ) (ls : List (List Byte)) (hs0 : Frame P s0 s) (h_regs : P.regs = true) (h_sys : P.sys = true) (h_dic : P.dic = true) (h_mg : P.mg = true) (h_mb : P.mb = true) (h_le : P.le = true) (h_pf : P.pf = true) (h_tr : P.tr = true) (h_tw : P.tw = true) :
    Frame P s0 (State.deliverTo s t ch tag ls) := by
  unfold State.deliverTo
  repeat' first
    | with_reducible assumption
    | (intro sv; refine frame_cut (a := Frame P s0 sv) ?_ ?_; on_goal 2 => dsimp -zeta only [sv]; on_goal 1 => clear_value sv)
    | (intro sv; clear_value sv)
    | intro _
    | lift_lets -underBinder
    | with_reducible apply setTile_frame
    | with_reducible apply tileFail_frame
    | with_reducible apply frame_ite
    | with_reducible apply frame_foldl
    | with_reducible apply frame_foldr
    | split

theorem feed_frame {P : Parts} {s0 : State} {s : State} (tag : ℕ → ℕ) (ls : ℕ → List (List Byte)) (hs0 : Frame P s0 s) (h_regs : P.regs = true) (h_sys : P.sys = true) (h_dic : P.dic = true) (h_mg : P.mg = true) (h_mb : P.mb = true) (h_le : P.le = true) (h_pf : P.pf = true) (h_tr : P.tr = true) (h_tw : P.tw = true) :
    Frame P s0 (State.feed s tag ls) := by
  unfold State.feed
  repeat' first
    | with_reducible assumption
    | (intro sv; refine frame_cut (a := Frame P s0 sv) ?_ ?_; on_goal 2 => dsimp -zeta only [sv]; on_goal 1 => clear_value sv)
    | (intro sv; clear_value sv)
    | intro _
    | lift_lets -underBinder
    | with_reducible apply deliverTo_frame
    | with_reducible apply frame_ite
    | with_reducible apply frame_foldl
    | with_reducible apply frame_foldr
    | split

theorem outRow_frame {P : Parts} {s0 : State} {s : State} (bunch : ℕ) (frame : ℕ) (held : Bool) (ls : List (List Byte)) (r : ℕ) (hs0 : Frame P s0 s) (h_regs : P.regs = true) (h_le : P.le = true) :
    Frame P s0 (State.outRow s bunch frame held ls r) := by
  unfold State.outRow
  repeat' first
    | with_reducible assumption
    | (intro sv; refine frame_cut (a := Frame P s0 sv) ?_ ?_; on_goal 2 => dsimp -zeta only [sv]; on_goal 1 => clear_value sv)
    | (intro sv; clear_value sv)
    | intro _
    | lift_lets -underBinder
    | with_reducible apply setSlot_frame
    | with_reducible apply onLe_frame
    | with_reducible apply incSat_frame
    | with_reducible apply frame_ite
    | with_reducible apply frame_foldl
    | with_reducible apply frame_foldr
    | split

theorem takeOut_frame {P : Parts} {s0 : State} {s : State} (m : Flight) (hs0 : Frame P s0 s) (h_regs : P.regs = true) (h_le : P.le = true) :
    Frame P s0 (State.takeOut s m) := by
  unfold State.takeOut
  repeat' first
    | with_reducible assumption
    | (intro sv; refine frame_cut (a := Frame P s0 sv) ?_ ?_; on_goal 2 => dsimp -zeta only [sv]; on_goal 1 => clear_value sv)
    | (intro sv; clear_value sv)
    | intro _
    | lift_lets -underBinder
    | with_reducible apply addSat_frame
    | with_reducible apply outRow_frame
    | with_reducible apply wr_frame
    | with_reducible apply frame_ite
    | with_reducible apply frame_foldl
    | with_reducible apply frame_foldr
    | split

theorem takeVs_frame {P : Parts} {s0 : State} {s : State} (m : Flight) (hs0 : Frame P s0 s) (h_le : P.le = true) :
    Frame P s0 (State.takeVs s m) := by
  unfold State.takeVs
  repeat' first
    | with_reducible assumption
    | (intro sv; refine frame_cut (a := Frame P s0 sv) ?_ ?_; on_goal 2 => dsimp -zeta only [sv]; on_goal 1 => clear_value sv)
    | (intro sv; clear_value sv)
    | intro _
    | lift_lets -underBinder
    | with_reducible apply onLe_frame
    | with_reducible apply frame_ite
    | with_reducible apply frame_foldl
    | with_reducible apply frame_foldr
    | split

theorem nextFlight_frame {P : Parts} {s0 : State} {fl : Flight} {t : State} {s : State} {d : TDest → Bool} (heq : State.nextFlight s d = some (fl, t)) (hs0 : Frame P s0 s) (h_tr : P.tr = true) :
    Frame P s0 t := by
  unfold State.nextFlight at heq
  split at heq
  · simp only [Option.map_eq_some_iff, Prod.mk.injEq] at heq
    obtain ⟨_, _, _, rfl⟩ := heq
    exact onTr_frame _ hs0 h_tr
  · cases heq

end Sys2Proof.Machine
end

