-- ==== Sys2Proof/Laws/BootFrame.lean ====
section
/-! SUPPORT. What the operations of Machine/Boot.lean may touch, and that they keep the memories canonical. -/

namespace Sys2Proof.Machine

theorem updateFailed_frame {P : Parts} {s0 : State} {s : State} (hs0 : Frame P s0 s) (h_mg : P.mg = true) (h_mb : P.mb = true) (h_tw : P.tw = true) :
    Frame P s0 (State.updateFailed s) := by
  unfold State.updateFailed
  repeat' first
    | with_reducible assumption
    | (intro sv; refine frame_cut (a := Frame P s0 sv) ?_ ?_; on_goal 2 => dsimp -zeta only [sv]; on_goal 1 => clear_value sv)
    | (intro sv; clear_value sv)
    | intro _
    | lift_lets -underBinder
    | with_reducible apply onMg_frame
    | with_reducible apply journalEnd_frame
    | with_reducible apply frame_ite
    | with_reducible apply frame_foldl
    | with_reducible apply frame_foldr
    | split

theorem bootSlot_frame {P : Parts} {s0 : State} {s : State} (i : ℕ) (hs0 : Frame P s0 s) (h_regs : P.regs = true) (h_sys : P.sys = true) (h_mg : P.mg = true) :
    Frame P s0 (State.bootSlot s i) := by
  unfold State.bootSlot
  repeat' first
    | with_reducible assumption
    | (intro sv; refine frame_cut (a := Frame P s0 sv) ?_ ?_; on_goal 2 => dsimp -zeta only [sv]; on_goal 1 => clear_value sv)
    | (intro sv; clear_value sv)
    | intro _
    | lift_lets -underBinder
    | with_reducible apply onSys_frame
    | with_reducible apply onMg_frame
    | with_reducible apply putBit_frame
    | with_reducible apply wr_frame
    | with_reducible apply frame_ite
    | with_reducible apply frame_foldl
    | with_reducible apply frame_foldr
    | split

theorem execBootStage0Done_answers {P : Parts} {s0 : State} {s : State} (hs0 : Frame P s0 s) (h_regs : P.regs = true) (h_sys : P.sys = true) (h_mg : P.mg = true) (h_mb : P.mb = true) (h_tw : P.tw = true) :
    Answers P s0 (execBootStage0Done s) := by
  unfold execBootStage0Done
  repeat' first
    | with_reducible assumption
    | (intro sv; refine frame_cut (a := Frame P s0 sv) ?_ ?_; on_goal 2 => dsimp -zeta only [sv]; on_goal 1 => clear_value sv)
    | (intro sv; clear_value sv)
    | intro _
    | with_reducible apply answers_next
    | with_reducible apply answers_ite
    | lift_lets -underBinder
    | with_reducible apply bootSlot_frame
    | with_reducible apply onMg_frame
    | with_reducible apply log_frame
    | with_reducible apply updateFailed_frame
    | with_reducible apply frame_ite
    | with_reducible apply frame_foldl
    | with_reducible apply frame_foldr
    | split

theorem svDefault_frame {P : Parts} {s0 : State} {s : State} (n : ℕ) (hs0 : Frame P s0 s) (h_regs : P.regs = true) :
    Frame P s0 (State.svDefault s n) := by
  unfold State.svDefault
  repeat' first
    | with_reducible assumption
    | (intro sv; refine frame_cut (a := Frame P s0 sv) ?_ ?_; on_goal 2 => dsimp -zeta only [sv]; on_goal 1 => clear_value sv)
    | (intro sv; clear_value sv)
    | intro _
    | lift_lets -underBinder
    | with_reducible apply wr_frame
    | with_reducible apply putBit_frame
    | with_reducible apply frame_ite
    | with_reducible apply frame_foldl
    | with_reducible apply frame_foldr
    | split

theorem pairDefaults_frame {P : Parts} {s0 : State} {s : State} (hs0 : Frame P s0 s) (h_regs : P.regs = true) :
    Frame P s0 (State.pairDefaults s) := by
  unfold State.pairDefaults
  repeat' first
    | with_reducible assumption
    | (intro sv; refine frame_cut (a := Frame P s0 sv) ?_ ?_; on_goal 2 => dsimp -zeta only [sv]; on_goal 1 => clear_value sv)
    | (intro sv; clear_value sv)
    | intro _
    | lift_lets -underBinder
    | with_reducible apply wr_frame
    | with_reducible apply putBit_frame
    | with_reducible apply pairUpdate_frame
    | with_reducible apply frame_ite
    | with_reducible apply frame_foldl
    | with_reducible apply frame_foldr
    | split

theorem enableDefaults_frame {P : Parts} {s0 : State} {s : State} (hs0 : Frame P s0 s) (h_regs : P.regs = true) :
    Frame P s0 (State.enableDefaults s) := by
  unfold State.enableDefaults
  repeat' first
    | with_reducible assumption
    | (intro sv; refine frame_cut (a := Frame P s0 sv) ?_ ?_; on_goal 2 => dsimp -zeta only [sv]; on_goal 1 => clear_value sv)
    | (intro sv; clear_value sv)
    | intro _
    | lift_lets -underBinder
    | with_reducible apply putBit_frame
    | with_reducible apply svDefault_frame
    | with_reducible apply frame_ite
    | with_reducible apply frame_foldl
    | with_reducible apply frame_foldr
    | split

theorem channelEnables_frame {P : Parts} {s0 : State} {s : State} (hs0 : Frame P s0 s) (h_regs : P.regs = true) :
    Frame P s0 (State.channelEnables s) := by
  unfold State.channelEnables
  repeat' first
    | with_reducible assumption
    | (intro sv; refine frame_cut (a := Frame P s0 sv) ?_ ?_; on_goal 2 => dsimp -zeta only [sv]; on_goal 1 => clear_value sv)
    | (intro sv; clear_value sv)
    | intro _
    | lift_lets -underBinder
    | with_reducible apply putBit_frame
    | with_reducible apply pairDefaults_frame
    | with_reducible apply enableDefaults_frame
    | with_reducible apply frame_ite
    | with_reducible apply frame_foldl
    | with_reducible apply frame_foldr
    | split

theorem execBootStage1Done_answers {P : Parts} {s0 : State} {s : State} (hs0 : Frame P s0 s) (h_regs : P.regs = true) (h_sys : P.sys = true) (h_mg : P.mg = true) :
    Answers P s0 (execBootStage1Done s) := by
  unfold execBootStage1Done
  repeat' first
    | with_reducible assumption
    | (intro sv; refine frame_cut (a := Frame P s0 sv) ?_ ?_; on_goal 2 => dsimp -zeta only [sv]; on_goal 1 => clear_value sv)
    | (intro sv; clear_value sv)
    | intro _
    | with_reducible apply answers_next
    | with_reducible apply answers_ite
    | lift_lets -underBinder
    | with_reducible apply putBit_frame
    | with_reducible apply onSys_frame
    | with_reducible apply channelEnables_frame
    | with_reducible apply bootDic_frame
    | with_reducible apply onMg_frame
    | with_reducible apply log_frame
    | with_reducible apply frame_ite
    | with_reducible apply frame_foldl
    | with_reducible apply frame_foldr
    | split

theorem execDdr4Ready_answers {P : Parts} {s0 : State} (bad : Option (Fin 8)) {s : State} (hs0 : Frame P s0 s) (h_regs : P.regs = true) (h_sys : P.sys = true) (h_dic : P.dic = true) (h_mg : P.mg = true) (h_mb : P.mb = true) (h_le : P.le = true) (h_sv : P.sv = true) (h_pf : P.pf = true) (h_sn : P.sn = true) (h_tr : P.tr = true) (h_tw : P.tw = true) (h_ca : P.ca = true) :
    Answers P s0 (execDdr4Ready bad s) := by
  unfold execDdr4Ready
  repeat' first
    | with_reducible assumption
    | (intro sv; refine frame_cut (a := Frame P s0 sv) ?_ ?_; on_goal 2 => dsimp -zeta only [sv]; on_goal 1 => clear_value sv)
    | (intro sv; clear_value sv)
    | intro _
    | with_reducible apply answers_next
    | with_reducible apply answers_ite
    | lift_lets -underBinder
    | with_reducible apply enterFailed_frame
    | with_reducible apply log_frame
    | with_reducible apply onSys_frame
    | with_reducible apply wr_frame
    | with_reducible apply onMb_frame
    | with_reducible apply onCa_frame
    | with_reducible apply frame_ite
    | with_reducible apply frame_foldl
    | with_reducible apply frame_foldr
    | split

theorem execTileSelftestDone_answers {P : Parts} {s0 : State} (failed : BitVec 128) {s : State} (hs0 : Frame P s0 s) (h_regs : P.regs = true) (h_sys : P.sys = true) (h_dic : P.dic = true) (h_mg : P.mg = true) (h_mb : P.mb = true) (h_le : P.le = true) (h_pf : P.pf = true) (h_tr : P.tr = true) (h_tw : P.tw = true) :
    Answers P s0 (execTileSelftestDone failed s) := by
  unfold execTileSelftestDone
  repeat' first
    | with_reducible assumption
    | (intro sv; refine frame_cut (a := Frame P s0 sv) ?_ ?_; on_goal 2 => dsimp -zeta only [sv]; on_goal 1 => clear_value sv)
    | (intro sv; clear_value sv)
    | intro _
    | with_reducible apply answers_next
    | with_reducible apply answers_ite
    | lift_lets -underBinder
    | with_reducible apply tileFail_frame
    | with_reducible apply loseColumn_frame
    | with_reducible apply wr_frame
    | with_reducible apply onSys_frame
    | with_reducible apply frame_ite
    | with_reducible apply frame_foldl
    | with_reducible apply frame_foldr
    | split

theorem putDefaultTable_frame {P : Parts} {s0 : State} {s : State} (p : ℕ) (hs0 : Frame P s0 s) (h_regs : P.regs = true) (h_le : P.le = true) :
    Frame P s0 (State.putDefaultTable s p) := by
  unfold State.putDefaultTable
  repeat' first
    | with_reducible assumption
    | (intro sv; refine frame_cut (a := Frame P s0 sv) ?_ ?_; on_goal 2 => dsimp -zeta only [sv]; on_goal 1 => clear_value sv)
    | (intro sv; clear_value sv)
    | intro _
    | lift_lets -underBinder
    | with_reducible apply wrf_frame
    | with_reducible apply onLe_frame
    | with_reducible apply frame_ite
    | with_reducible apply frame_foldl
    | with_reducible apply frame_foldr
    | split

theorem namedDefault_frame {P : Parts} {s0 : State} {s : State} (p : ℕ) (hs0 : Frame P s0 s) (h_regs : P.regs = true) (h_le : P.le = true) :
    Frame P s0 (State.namedDefault s p) := by
  unfold State.namedDefault
  repeat' first
    | with_reducible assumption
    | (intro sv; refine frame_cut (a := Frame P s0 sv) ?_ ?_; on_goal 2 => dsimp -zeta only [sv]; on_goal 1 => clear_value sv)
    | (intro sv; clear_value sv)
    | intro _
    | lift_lets -underBinder
    | with_reducible apply putBit_frame
    | with_reducible apply wr_frame
    | with_reducible apply wrf_frame
    | with_reducible apply putDefaultTable_frame
    | with_reducible apply frame_ite
    | with_reducible apply frame_foldl
    | with_reducible apply frame_foldr
    | split

theorem bootEntry_frame {P : Parts} {s0 : State} {s : State} (e : ℕ × ℕ × ℕ) (hs0 : Frame P s0 s) (h_regs : P.regs = true) (h_mb : P.mb = true) (h_pb : P.pb = true) (h_le : P.le = true) (h_pf : P.pf = true) (h_fb : P.fb = true) :
    Frame P s0 (State.bootEntry s e) := by
  unfold State.bootEntry
  repeat' first
    | with_reducible assumption
    | (intro sv; refine frame_cut (a := Frame P s0 sv) ?_ ?_; on_goal 2 => dsimp -zeta only [sv]; on_goal 1 => clear_value sv)
    | (intro sv; clear_value sv)
    | intro _
    | lift_lets -underBinder
    | with_reducible apply wr_frame
    | with_reducible apply cfgPut_frame
    | with_reducible apply frame_ite
    | with_reducible apply frame_foldl
    | with_reducible apply frame_foldr
    | split

theorem restoreRecords_frame {P : Parts} {s0 : State} {s : State} (hs0 : Frame P s0 s) (h_regs : P.regs = true) (h_pf : P.pf = true) :
    Frame P s0 (State.restoreRecords s) := by
  unfold State.restoreRecords
  repeat' first
    | with_reducible assumption
    | (intro sv; refine frame_cut (a := Frame P s0 sv) ?_ ?_; on_goal 2 => dsimp -zeta only [sv]; on_goal 1 => clear_value sv)
    | (intro sv; clear_value sv)
    | intro _
    | lift_lets -underBinder
    | with_reducible apply wr_frame
    | with_reducible apply onPf_frame
    | with_reducible apply markSuspect_frame
    | with_reducible apply setCal_frame
    | with_reducible apply frame_ite
    | with_reducible apply frame_foldl
    | with_reducible apply frame_foldr
    | split

theorem putTripTable_frame {P : Parts} {s0 : State} {s : State} (hs0 : Frame P s0 s) (h_regs : P.regs = true) :
    Frame P s0 (State.putTripTable s) := by
  unfold State.putTripTable
  repeat' first
    | with_reducible assumption
    | (intro sv; refine frame_cut (a := Frame P s0 sv) ?_ ?_; on_goal 2 => dsimp -zeta only [sv]; on_goal 1 => clear_value sv)
    | (intro sv; clear_value sv)
    | intro _
    | lift_lets -underBinder
    | with_reducible apply putBit_frame
    | with_reducible apply wr_frame
    | with_reducible apply frame_ite
    | with_reducible apply frame_foldl
    | with_reducible apply frame_foldr
    | split

theorem restoreConfig_frame {P : Parts} {s0 : State} {s : State} (hs0 : Frame P s0 s) (h_regs : P.regs = true) (h_sys : P.sys = true) (h_mg : P.mg = true) (h_mb : P.mb = true) (h_pb : P.pb = true) (h_le : P.le = true) (h_pf : P.pf = true) (h_fb : P.fb = true) :
    Frame P s0 (State.restoreConfig s) := by
  unfold State.restoreConfig
  repeat' first
    | with_reducible assumption
    | (intro sv; refine frame_cut (a := Frame P s0 sv) ?_ ?_; on_goal 2 => dsimp -zeta only [sv]; on_goal 1 => clear_value sv)
    | (intro sv; clear_value sv)
    | intro _
    | lift_lets -underBinder
    | with_reducible apply onMg_frame
    | with_reducible apply bypassSetpoint_frame
    | with_reducible apply namedDefault_frame
    | with_reducible apply bootEntry_frame
    | with_reducible apply defaultLimits_frame
    | with_reducible apply initClear_frame
    | with_reducible apply pairMarked_frame
    | with_reducible apply onSys_frame
    | with_reducible apply restoreRecords_frame
    | with_reducible apply frame_ite
    | with_reducible apply frame_foldl
    | with_reducible apply frame_foldr
    | split

theorem execBootConfigRestored_answers {P : Parts} {s0 : State} (crcOk : Bool) {s : State} (hs0 : Frame P s0 s) (h_regs : P.regs = true) (h_sys : P.sys = true) (h_dic : P.dic = true) (h_mg : P.mg = true) (h_mb : P.mb = true) (h_pb : P.pb = true) (h_le : P.le = true) (h_sv : P.sv = true) (h_pf : P.pf = true) (h_sn : P.sn = true) (h_tr : P.tr = true) (h_fb : P.fb = true) (h_tw : P.tw = true) :
    Answers P s0 (execBootConfigRestored crcOk s) := by
  unfold execBootConfigRestored
  repeat' first
    | with_reducible assumption
    | (intro sv; refine frame_cut (a := Frame P s0 sv) ?_ ?_; on_goal 2 => dsimp -zeta only [sv]; on_goal 1 => clear_value sv)
    | (intro sv; clear_value sv)
    | intro _
    | with_reducible apply answers_next
    | with_reducible apply answers_ite
    | lift_lets -underBinder
    | with_reducible apply tmLock_frame
    | with_reducible apply putTripTable_frame
    | with_reducible apply restoreConfig_frame
    | with_reducible apply onSys_frame
    | with_reducible apply enterFailed_frame
    | with_reducible apply log_frame
    | with_reducible apply frame_ite
    | with_reducible apply frame_foldl
    | with_reducible apply frame_foldr
    | split

theorem execTableInputsValid_answers {P : Parts} {s0 : State} {s : State} (hs0 : Frame P s0 s) (h_sys : P.sys = true) :
    Answers P s0 (execTableInputsValid s) := by
  unfold execTableInputsValid
  repeat' first
    | with_reducible assumption
    | (intro sv; refine frame_cut (a := Frame P s0 sv) ?_ ?_; on_goal 2 => dsimp -zeta only [sv]; on_goal 1 => clear_value sv)
    | (intro sv; clear_value sv)
    | intro _
    | with_reducible apply answers_next
    | with_reducible apply answers_ite
    | lift_lets -underBinder
    | with_reducible apply onSys_frame
    | with_reducible apply frame_ite
    | with_reducible apply frame_foldl
    | with_reducible apply frame_foldr
    | split

theorem execClaimEnable_answers {P : Parts} {s0 : State} {s : State} (hs0 : Frame P s0 s) (h_regs : P.regs = true) (h_sys : P.sys = true) (h_mg : P.mg = true) :
    Answers P s0 (execClaimEnable s) := by
  unfold execClaimEnable
  repeat' first
    | with_reducible assumption
    | (intro sv; refine frame_cut (a := Frame P s0 sv) ?_ ?_; on_goal 2 => dsimp -zeta only [sv]; on_goal 1 => clear_value sv)
    | (intro sv; clear_value sv)
    | intro _
    | with_reducible apply answers_next
    | with_reducible apply answers_ite
    | lift_lets -underBinder
    | with_reducible apply onSys_frame
    | with_reducible apply putBit_frame
    | with_reducible apply onMg_frame
    | with_reducible apply frame_ite
    | with_reducible apply frame_foldl
    | with_reducible apply frame_foldr
    | split

theorem bootEnables_frame {P : Parts} {s0 : State} {s : State} (hs0 : Frame P s0 s) (h_regs : P.regs = true) (h_ca : P.ca = true) :
    Frame P s0 (State.bootEnables s) := by
  unfold State.bootEnables
  repeat' first
    | with_reducible assumption
    | (intro sv; refine frame_cut (a := Frame P s0 sv) ?_ ?_; on_goal 2 => dsimp -zeta only [sv]; on_goal 1 => clear_value sv)
    | (intro sv; clear_value sv)
    | intro _
    | lift_lets -underBinder
    | with_reducible apply putBit_frame
    | with_reducible apply onCa_frame
    | with_reducible apply frame_ite
    | with_reducible apply frame_foldl
    | with_reducible apply frame_foldr
    | split

theorem execBootEnd_answers {P : Parts} {s0 : State} {s : State} (hs0 : Frame P s0 s) (h_regs : P.regs = true) (h_sys : P.sys = true) (h_dic : P.dic = true) (h_mg : P.mg = true) (h_mb : P.mb = true) (h_pb : P.pb = true) (h_vq : P.vq = true) (h_le : P.le = true) (h_sv : P.sv = true) (h_pf : P.pf = true) (h_tr : P.tr = true) (h_tw : P.tw = true) (h_ca : P.ca = true) :
    Answers P s0 (execBootEnd s) := by
  unfold execBootEnd
  repeat' first
    | with_reducible assumption
    | (intro sv; refine frame_cut (a := Frame P s0 sv) ?_ ?_; on_goal 2 => dsimp -zeta only [sv]; on_goal 1 => clear_value sv)
    | (intro sv; clear_value sv)
    | intro _
    | with_reducible apply answers_next
    | with_reducible apply answers_ite
    | lift_lets -underBinder
    | with_reducible apply onSys_frame
    | with_reducible apply bootEnables_frame
    | with_reducible apply onMg_frame
    | with_reducible apply actHeld_frame
    | with_reducible apply pmWork_frame
    | with_reducible apply enterTable_frame
    | with_reducible apply frame_ite
    | with_reducible apply frame_foldl
    | with_reducible apply frame_foldr
    | split

theorem execBootWatchdogExpiry_answers {P : Parts} {s0 : State} {s : State} (hs0 : Frame P s0 s) (h_time : P.time = true) (h_regs : P.regs = true) (h_mem : P.mem = true) (h_sys : P.sys = true) (h_dic : P.dic = true) (h_mg : P.mg = true) (h_mb : P.mb = true) (h_pb : P.pb = true) (h_vq : P.vq = true) (h_le : P.le = true) (h_sv : P.sv = true) (h_pf : P.pf = true) (h_sn : P.sn = true) (h_tr : P.tr = true) (h_fb : P.fb = true) (h_tw : P.tw = true) (h_ca : P.ca = true) :
    Answers P s0 (execBootWatchdogExpiry s) := by
  unfold execBootWatchdogExpiry
  repeat' first
    | with_reducible assumption
    | (intro sv; refine frame_cut (a := Frame P s0 sv) ?_ ?_; on_goal 2 => dsimp -zeta only [sv]; on_goal 1 => clear_value sv)
    | (intro sv; clear_value sv)
    | intro _
    | with_reducible apply answers_next
    | with_reducible apply answers_ite
    | lift_lets -underBinder
    | with_reducible apply warmReset_frame
    | with_reducible apply frame_ite
    | with_reducible apply frame_foldl
    | with_reducible apply frame_foldr
    | split

theorem execTrialConfirm_answers {P : Parts} {s0 : State} {s : State} (hs0 : Frame P s0 s) (h_regs : P.regs = true) (h_mg : P.mg = true) (h_mb : P.mb = true) (h_tw : P.tw = true) :
    Answers P s0 (execTrialConfirm s) := by
  unfold execTrialConfirm
  repeat' first
    | with_reducible assumption
    | (intro sv; refine frame_cut (a := Frame P s0 sv) ?_ ?_; on_goal 2 => dsimp -zeta only [sv]; on_goal 1 => clear_value sv)
    | (intro sv; clear_value sv)
    | intro _
    | with_reducible apply answers_next
    | with_reducible apply answers_ite
    | lift_lets -underBinder
    | with_reducible apply putBit_frame
    | with_reducible apply onMg_frame
    | with_reducible apply log_frame
    | with_reducible apply journalStep_frame
    | with_reducible apply frame_ite
    | with_reducible apply frame_foldl
    | with_reducible apply frame_foldr
    | split

end Sys2Proof.Machine
end

