-- ==== Sys2Proof/Laws/CellarFrame.lean ====
section
/-! SUPPORT. What the operations of Machine/Cellar.lean may touch, and that they keep the memories canonical. -/

namespace Sys2Proof.Machine

theorem dramEvent_frame {P : Parts} {s0 : State} {s : State} (unc : Bool) (a : ℕ) (hs0 : Frame P s0 s) (h_mb : P.mb = true) :
    Frame P s0 (State.dramEvent s unc a) := by
  unfold State.dramEvent
  repeat' first
    | with_reducible assumption
    | (intro sv; refine frame_cut (a := Frame P s0 sv) ?_ ?_; on_goal 2 => dsimp -zeta only [sv]; on_goal 1 => clear_value sv)
    | (intro sv; clear_value sv)
    | intro _
    | lift_lets -underBinder
    | with_reducible apply msixSend_frame
    | with_reducible apply onMb_frame
    | with_reducible apply frame_ite
    | with_reducible apply frame_foldl
    | with_reducible apply frame_foldr
    | split

theorem dimmCheck_frame {P : Parts} {s0 : State} {s : State} (ch : ℕ) (hs0 : Frame P s0 s) (h_regs : P.regs = true) (h_mg : P.mg = true) (h_ca : P.ca = true) :
    Frame P s0 (State.dimmCheck s ch) := by
  unfold State.dimmCheck
  repeat' first
    | with_reducible assumption
    | (intro sv; refine frame_cut (a := Frame P s0 sv) ?_ ?_; on_goal 2 => dsimp -zeta only [sv]; on_goal 1 => clear_value sv)
    | (intro sv; clear_value sv)
    | intro _
    | lift_lets -underBinder
    | with_reducible apply onCa_frame
    | with_reducible apply log_frame
    | with_reducible apply wr_frame
    | with_reducible apply frame_ite
    | with_reducible apply frame_foldl
    | with_reducible apply frame_foldr
    | split

theorem ddrCorrected_frame {P : Parts} {s0 : State} {s : State} (a : ℕ) (hs0 : Frame P s0 s) (h_regs : P.regs = true) (h_dic : P.dic = true) (h_mg : P.mg = true) (h_mb : P.mb = true) (h_le : P.le = true) (h_ca : P.ca = true) :
    Frame P s0 (State.ddrCorrected s a) := by
  unfold State.ddrCorrected
  repeat' first
    | with_reducible assumption
    | (intro sv; refine frame_cut (a := Frame P s0 sv) ?_ ?_; on_goal 2 => dsimp -zeta only [sv]; on_goal 1 => clear_value sv)
    | (intro sv; clear_value sv)
    | intro _
    | lift_lets -underBinder
    | with_reducible apply dimmCheck_frame
    | with_reducible apply putBit_frame
    | with_reducible apply incSat_frame
    | with_reducible apply note_frame
    | with_reducible apply dramEvent_frame
    | with_reducible apply frame_ite
    | with_reducible apply frame_foldl
    | with_reducible apply frame_foldr
    | split

theorem ddrPoison_frame {P : Parts} {s0 : State} {s : State} (a : ℕ) (hs0 : Frame P s0 s) (h_regs : P.regs = true) (h_dic : P.dic = true) (h_mg : P.mg = true) (h_mb : P.mb = true) (h_le : P.le = true) (h_ca : P.ca = true) :
    Frame P s0 (State.ddrPoison s a) := by
  unfold State.ddrPoison
  repeat' first
    | with_reducible assumption
    | (intro sv; refine frame_cut (a := Frame P s0 sv) ?_ ?_; on_goal 2 => dsimp -zeta only [sv]; on_goal 1 => clear_value sv)
    | (intro sv; clear_value sv)
    | intro _
    | lift_lets -underBinder
    | with_reducible apply onCa_frame
    | with_reducible apply putBit_frame
    | with_reducible apply wr_frame
    | with_reducible apply incSat_frame
    | with_reducible apply note_frame
    | with_reducible apply dramEvent_frame
    | with_reducible apply frame_ite
    | with_reducible apply frame_foldl
    | with_reducible apply frame_foldr
    | split

theorem ddrRead_frame {P : Parts} {s0 : State} {s : State} (a : ℕ) (e : Ecc) (hs0 : Frame P s0 s) (h_regs : P.regs = true) (h_dic : P.dic = true) (h_mg : P.mg = true) (h_mb : P.mb = true) (h_le : P.le = true) (h_ca : P.ca = true) :
    Frame P s0 (State.ddrRead s a e) := by
  unfold State.ddrRead
  repeat' first
    | with_reducible assumption
    | (intro sv; refine frame_cut (a := Frame P s0 sv) ?_ ?_; on_goal 2 => dsimp -zeta only [sv]; on_goal 1 => clear_value sv)
    | (intro sv; clear_value sv)
    | intro _
    | lift_lets -underBinder
    | with_reducible apply ddrCorrected_frame
    | with_reducible apply ddrPoison_frame
    | with_reducible apply frame_ite
    | with_reducible apply frame_foldl
    | with_reducible apply frame_foldr
    | split

theorem execHdmRead_answers {P : Parts} {s0 : State} (a : ℕ) (e : BurstErr) {s : State} (hs0 : Frame P s0 s) (h_regs : P.regs = true) (h_dic : P.dic = true) (h_mg : P.mg = true) (h_mb : P.mb = true) (h_le : P.le = true) (h_ca : P.ca = true) :
    Answers P s0 (execHdmRead a e s) := by
  unfold execHdmRead
  repeat' first
    | with_reducible assumption
    | (intro sv; refine frame_cut (a := Frame P s0 sv) ?_ ?_; on_goal 2 => dsimp -zeta only [sv]; on_goal 1 => clear_value sv)
    | (intro sv; clear_value sv)
    | intro _
    | with_reducible apply answers_next
    | with_reducible apply answers_ite
    | lift_lets -underBinder
    | with_reducible apply reply_frame
    | with_reducible apply ddrRead_frame
    | with_reducible apply frame_ite
    | with_reducible apply frame_foldl
    | with_reducible apply frame_foldr
    | split

theorem execHdmWrite_answers {P : Parts} {s0 : State} (a : ℕ) (bs : List (BitVec 8)) {s : State} (hs0 : Frame P s0 s) (h_regs : P.regs = true) (h_mem : P.mem = true) (h_mg : P.mg = true) (h_ca : P.ca = true) :
    Answers P s0 (execHdmWrite a bs s) := by
  unfold execHdmWrite
  repeat' first
    | with_reducible assumption
    | (intro sv; refine frame_cut (a := Frame P s0 sv) ?_ ?_; on_goal 2 => dsimp -zeta only [sv]; on_goal 1 => clear_value sv)
    | (intro sv; clear_value sv)
    | intro _
    | with_reducible apply answers_next
    | with_reducible apply answers_ite
    | lift_lets -underBinder
    | with_reducible apply incSat_frame
    | with_reducible apply log_frame
    | with_reducible apply ddrWrite_frame
    | with_reducible apply frame_ite
    | with_reducible apply frame_foldl
    | with_reducible apply frame_foldr
    | split

theorem scrubPart_frame {P : Parts} {s0 : State} {s : State} (n : ℕ) (found : List (ℕ × BurstErr)) (hs0 : Frame P s0 s) (h_regs : P.regs = true) (h_dic : P.dic = true) (h_mg : P.mg = true) (h_mb : P.mb = true) (h_le : P.le = true) (h_ca : P.ca = true) :
    Frame P s0 (State.scrubPart s n found) := by
  unfold State.scrubPart
  repeat' first
    | with_reducible assumption
    | (intro sv; refine frame_cut (a := Frame P s0 sv) ?_ ?_; on_goal 2 => dsimp -zeta only [sv]; on_goal 1 => clear_value sv)
    | (intro sv; clear_value sv)
    | intro _
    | lift_lets -underBinder
    | with_reducible apply ddrRead_frame
    | with_reducible apply putBit_frame
    | with_reducible apply wr_frame
    | with_reducible apply note_frame
    | with_reducible apply onCa_frame
    | with_reducible apply frame_ite
    | with_reducible apply frame_foldl
    | with_reducible apply frame_foldr
    | split

theorem execPatrolScrub_answers {P : Parts} {s0 : State} (pages : ℕ) (found : List (ℕ × BurstErr)) {s : State} (hs0 : Frame P s0 s) (h_regs : P.regs = true) (h_dic : P.dic = true) (h_mg : P.mg = true) (h_mb : P.mb = true) (h_le : P.le = true) (h_ca : P.ca = true) :
    Answers P s0 (execPatrolScrub pages found s) := by
  unfold execPatrolScrub
  repeat' first
    | with_reducible assumption
    | (intro sv; refine frame_cut (a := Frame P s0 sv) ?_ ?_; on_goal 2 => dsimp -zeta only [sv]; on_goal 1 => clear_value sv)
    | (intro sv; clear_value sv)
    | intro _
    | with_reducible apply answers_next
    | with_reducible apply answers_ite
    | lift_lets -underBinder
    | with_reducible apply onCa_frame
    | with_reducible apply scrubPart_frame
    | with_reducible apply frame_ite
    | with_reducible apply frame_foldl
    | with_reducible apply frame_foldr
    | split

theorem caSample_frame {P : Parts} {s0 : State} {s : State} (i : ℕ) (key : ℕ) (code : Option ℤ) (hs0 : Frame P s0 s) (h_ca : P.ca = true) :
    Frame P s0 (State.caSample s i key code) := by
  unfold State.caSample
  repeat' first
    | with_reducible assumption
    | (intro sv; refine frame_cut (a := Frame P s0 sv) ?_ ?_; on_goal 2 => dsimp -zeta only [sv]; on_goal 1 => clear_value sv)
    | (intro sv; clear_value sv)
    | intro _
    | lift_lets -underBinder
    | with_reducible apply onCa_frame
    | with_reducible apply frame_ite
    | with_reducible apply frame_foldl
    | with_reducible apply frame_foldr
    | split

theorem caDrop_frame {P : Parts} {s0 : State} {s : State} (rs : List TRec) (hs0 : Frame P s0 s) (h_regs : P.regs = true) (h_dic : P.dic = true) (h_mg : P.mg = true) (h_le : P.le = true) (h_ca : P.ca = true) :
    Frame P s0 (State.caDrop s rs) := by
  unfold State.caDrop
  repeat' first
    | with_reducible assumption
    | (intro sv; refine frame_cut (a := Frame P s0 sv) ?_ ?_; on_goal 2 => dsimp -zeta only [sv]; on_goal 1 => clear_value sv)
    | (intro sv; clear_value sv)
    | intro _
    | lift_lets -underBinder
    | with_reducible apply putBit_frame
    | with_reducible apply addSat_frame
    | with_reducible apply onCa_frame
    | with_reducible apply note_frame
    | with_reducible apply frame_ite
    | with_reducible apply frame_foldl
    | with_reducible apply frame_foldr
    | split

theorem caRoll_frame {P : Parts} {s0 : State} {s : State} (start : ℕ) (frame : ℕ) (hs0 : Frame P s0 s) (h_ca : P.ca = true) :
    Frame P s0 (State.caRoll s start frame) := by
  unfold State.caRoll
  repeat' first
    | with_reducible assumption
    | (intro sv; refine frame_cut (a := Frame P s0 sv) ?_ ?_; on_goal 2 => dsimp -zeta only [sv]; on_goal 1 => clear_value sv)
    | (intro sv; clear_value sv)
    | intro _
    | lift_lets -underBinder
    | with_reducible apply onCa_frame
    | with_reducible apply frame_ite
    | with_reducible apply frame_foldl
    | with_reducible apply frame_foldr
    | split

theorem caBreak_frame {P : Parts} {s0 : State} {s : State} (hs0 : Frame P s0 s) (h_ca : P.ca = true) :
    Frame P s0 (State.caBreak s) := by
  unfold State.caBreak
  repeat' first
    | with_reducible assumption
    | (intro sv; refine frame_cut (a := Frame P s0 sv) ?_ ?_; on_goal 2 => dsimp -zeta only [sv]; on_goal 1 => clear_value sv)
    | (intro sv; clear_value sv)
    | intro _
    | lift_lets -underBinder
    | with_reducible apply onCa_frame
    | with_reducible apply frame_ite
    | with_reducible apply frame_foldl
    | with_reducible apply frame_foldr
    | split

theorem caTake_frame {P : Parts} {s0 : State} {s : State} (f : ℕ) (hs0 : Frame P s0 s) (h_regs : P.regs = true) (h_dic : P.dic = true) (h_mg : P.mg = true) (h_le : P.le = true) (h_ca : P.ca = true) :
    Frame P s0 (State.caTake s f) := by
  unfold State.caTake
  repeat' first
    | with_reducible assumption
    | (intro sv; refine frame_cut (a := Frame P s0 sv) ?_ ?_; on_goal 2 => dsimp -zeta only [sv]; on_goal 1 => clear_value sv)
    | (intro sv; clear_value sv)
    | intro _
    | lift_lets -underBinder
    | with_reducible apply caRoll_frame
    | with_reducible apply caDrop_frame
    | with_reducible apply caSample_frame
    | with_reducible apply onCa_frame
    | with_reducible apply frame_ite
    | with_reducible apply frame_foldl
    | with_reducible apply frame_foldr
    | split

theorem caFrame_frame {P : Parts} {s0 : State} {s : State} (hs0 : Frame P s0 s) (h_regs : P.regs = true) (h_dic : P.dic = true) (h_mg : P.mg = true) (h_vq : P.vq = true) (h_le : P.le = true) (h_ca : P.ca = true) :
    Frame P s0 (State.caFrame s) := by
  unfold State.caFrame
  repeat' first
    | with_reducible assumption
    | (intro sv; refine frame_cut (a := Frame P s0 sv) ?_ ?_; on_goal 2 => dsimp -zeta only [sv]; on_goal 1 => clear_value sv)
    | (intro sv; clear_value sv)
    | intro _
    | lift_lets -underBinder
    | with_reducible apply putBit_frame
    | with_reducible apply caBreak_frame
    | with_reducible apply caTake_frame
    | with_reducible apply onCa_frame
    | with_reducible apply onVq_frame
    | with_reducible apply frame_ite
    | with_reducible apply frame_foldl
    | with_reducible apply frame_foldr
    | split

theorem caWrite_frame {P : Parts} {s0 : State} {s : State} (p : CaPeriod) (key : ℕ) (a : ℕ) (valid : Bool) (hs0 : Frame P s0 s) (h_regs : P.regs = true) (h_mem : P.mem = true) (h_ca : P.ca = true) :
    Frame P s0 (State.caWrite s p key a valid) := by
  unfold State.caWrite
  repeat' first
    | with_reducible assumption
    | (intro sv; refine frame_cut (a := Frame P s0 sv) ?_ ?_; on_goal 2 => dsimp -zeta only [sv]; on_goal 1 => clear_value sv)
    | (intro sv; clear_value sv)
    | intro _
    | lift_lets -underBinder
    | with_reducible apply addSat_frame
    | with_reducible apply ddrWrite_frame
    | with_reducible apply frame_ite
    | with_reducible apply frame_foldl
    | with_reducible apply frame_foldr
    | split

theorem execTier0BlockWrite_answers {P : Parts} {s0 : State} {s : State} (hs0 : Frame P s0 s) (h_regs : P.regs = true) (h_mem : P.mem = true) (h_ca : P.ca = true) :
    Answers P s0 (execTier0BlockWrite s) := by
  unfold execTier0BlockWrite
  repeat' first
    | with_reducible assumption
    | (intro sv; refine frame_cut (a := Frame P s0 sv) ?_ ?_; on_goal 2 => dsimp -zeta only [sv]; on_goal 1 => clear_value sv)
    | (intro sv; clear_value sv)
    | intro _
    | with_reducible apply answers_next
    | with_reducible apply answers_ite
    | lift_lets -underBinder
    | with_reducible apply onCa_frame
    | with_reducible apply caWrite_frame
    | with_reducible apply ddrWrite_frame
    | with_reducible apply frame_ite
    | with_reducible apply frame_foldl
    | with_reducible apply frame_foldr
    | split

theorem rackSecond_frame {P : Parts} {s0 : State} {s : State} (sec : ℕ) (hs0 : Frame P s0 s) (h_mem : P.mem = true) (h_ca : P.ca = true) :
    Frame P s0 (State.rackSecond s sec) := by
  unfold State.rackSecond
  repeat' first
    | with_reducible assumption
    | (intro sv; refine frame_cut (a := Frame P s0 sv) ?_ ?_; on_goal 2 => dsimp -zeta only [sv]; on_goal 1 => clear_value sv)
    | (intro sv; clear_value sv)
    | intro _
    | lift_lets -underBinder
    | with_reducible apply ddrWrite_frame
    | with_reducible apply frame_ite
    | with_reducible apply frame_foldl
    | with_reducible apply frame_foldr
    | split

theorem execRacking_answers {P : Parts} {s0 : State} {s : State} (hs0 : Frame P s0 s) (h_mem : P.mem = true) (h_ca : P.ca = true) :
    Answers P s0 (execRacking s) := by
  unfold execRacking
  repeat' first
    | with_reducible assumption
    | (intro sv; refine frame_cut (a := Frame P s0 sv) ?_ ?_; on_goal 2 => dsimp -zeta only [sv]; on_goal 1 => clear_value sv)
    | (intro sv; clear_value sv)
    | intro _
    | with_reducible apply answers_next
    | with_reducible apply answers_ite
    | lift_lets -underBinder
    | with_reducible apply rackSecond_frame
    | with_reducible apply onCa_frame
    | with_reducible apply frame_ite
    | with_reducible apply frame_foldl
    | with_reducible apply frame_foldr
    | split

end Sys2Proof.Machine
end

