-- ==== Sys2Proof/Laws/MailboxFrame.lean ====
section
/-! SUPPORT. What the operations of Machine/Mailbox.lean may touch, and that they keep the memories canonical. -/

namespace Sys2Proof.Machine

theorem refuse_frame {P : Parts} {s0 : State} {s : State} (k : Ks) (hs0 : Frame P s0 s) :
    Frame P s0 (State.refuse s k).st := by
  unfold State.refuse
  repeat' first
    | with_reducible assumption
    | (intro sv; refine frame_cut (a := Frame P s0 sv) ?_ ?_; on_goal 2 => dsimp -zeta only [sv]; on_goal 1 => clear_value sv)
    | (intro sv; clear_value sv)
    | intro _
    | lift_lets -underBinder
    | with_reducible apply frame_ite
    | with_reducible apply frame_foldl
    | with_reducible apply frame_foldr
    | split

theorem answer_frame {P : Parts} {s0 : State} {s : State} (ks : Ks) (header : List Byte) (body : List Byte) (hs0 : Frame P s0 s) (h_mb : P.mb = true) :
    Frame P s0 (State.answer s ks header body) := by
  unfold State.answer
  repeat' first
    | with_reducible assumption
    | (intro sv; refine frame_cut (a := Frame P s0 sv) ?_ ?_; on_goal 2 => dsimp -zeta only [sv]; on_goal 1 => clear_value sv)
    | (intro sv; clear_value sv)
    | intro _
    | lift_lets -underBinder
    | with_reducible apply onMb_frame
    | with_reducible apply msixSend_frame
    | with_reducible apply reply_frame
    | with_reducible apply frame_ite
    | with_reducible apply frame_foldl
    | with_reducible apply frame_foldr
    | split

theorem answerCmd_frame {P : Parts} {s0 : State} {s : State} (changes : Bool) (ks : Ks) (header : List Byte) (body : List Byte) (hs0 : Frame P s0 s) (h_mb : P.mb = true) :
    Frame P s0 (State.answerCmd s changes ks header body) := by
  unfold State.answerCmd
  repeat' first
    | with_reducible assumption
    | (intro sv; refine frame_cut (a := Frame P s0 sv) ?_ ?_; on_goal 2 => dsimp -zeta only [sv]; on_goal 1 => clear_value sv)
    | (intro sv; clear_value sv)
    | intro _
    | lift_lets -underBinder
    | with_reducible apply onMb_frame
    | with_reducible apply answer_frame
    | with_reducible apply frame_ite
    | with_reducible apply frame_foldl
    | with_reducible apply frame_foldr
    | split

theorem releaseReplies_frame {P : Parts} {s0 : State} {s : State} (go : HeldReply → Bool) (hs0 : Frame P s0 s) (h_mb : P.mb = true) :
    Frame P s0 (State.releaseReplies s go) := by
  unfold State.releaseReplies
  repeat' first
    | with_reducible assumption
    | (intro sv; refine frame_cut (a := Frame P s0 sv) ?_ ?_; on_goal 2 => dsimp -zeta only [sv]; on_goal 1 => clear_value sv)
    | (intro sv; clear_value sv)
    | intro _
    | lift_lets -underBinder
    | with_reducible apply answer_frame
    | with_reducible apply onMb_frame
    | with_reducible apply frame_ite
    | with_reducible apply frame_foldl
    | with_reducible apply frame_foldr
    | split

theorem replyTimeouts_frame {P : Parts} {s0 : State} {s : State} (hs0 : Frame P s0 s) (h_mb : P.mb = true) :
    Frame P s0 (State.replyTimeouts s) := by
  unfold State.replyTimeouts
  repeat' first
    | with_reducible assumption
    | (intro sv; refine frame_cut (a := Frame P s0 sv) ?_ ?_; on_goal 2 => dsimp -zeta only [sv]; on_goal 1 => clear_value sv)
    | (intro sv; clear_value sv)
    | intro _
    | lift_lets -underBinder
    | with_reducible apply releaseReplies_frame
    | with_reducible apply frame_ite
    | with_reducible apply frame_foldl
    | with_reducible apply frame_foldr
    | split

theorem keepTag_frame {P : Parts} {s0 : State} {s : State} (tag : ℕ) (header : List Byte) (body : List Byte) (hs0 : Frame P s0 s) (h_mb : P.mb = true) :
    Frame P s0 (State.keepTag s tag header body) := by
  unfold State.keepTag
  repeat' first
    | with_reducible assumption
    | (intro sv; refine frame_cut (a := Frame P s0 sv) ?_ ?_; on_goal 2 => dsimp -zeta only [sv]; on_goal 1 => clear_value sv)
    | (intro sv; clear_value sv)
    | intro _
    | lift_lets -underBinder
    | with_reducible apply onMb_frame
    | with_reducible apply frame_ite
    | with_reducible apply frame_foldl
    | with_reducible apply frame_foldr
    | split

theorem keepClamps_frame {P : Parts} {s0 : State} {s : State} (tag : ℕ) (op : ℕ) (l : List ClampRec) (hs0 : Frame P s0 s) (h_mb : P.mb = true) :
    Frame P s0 (State.keepClamps s tag op l) := by
  unfold State.keepClamps
  repeat' first
    | with_reducible assumption
    | (intro sv; refine frame_cut (a := Frame P s0 sv) ?_ ?_; on_goal 2 => dsimp -zeta only [sv]; on_goal 1 => clear_value sv)
    | (intro sv; clear_value sv)
    | intro _
    | lift_lets -underBinder
    | with_reducible apply onMb_frame
    | with_reducible apply frame_ite
    | with_reducible apply frame_foldl
    | with_reducible apply frame_foldr
    | split

theorem accept_frame {P : Parts} {s0 : State} (c : Cmd) (tag : ℕ) (p : List Byte) {r : Res} (header : List Byte) (hc0 : ∀ s p, Frame P s0 s → Frame P s0 (c.body s p).st) (hr0 : Frame P s0 r.st) (h_sys : P.sys = true) (h_mb : P.mb = true) (h_tw : P.tw = true) :
    Frame P s0 (State.accept c tag p r header) := by
  unfold State.accept
  repeat' first
    | with_reducible assumption
    | (intro sv; refine frame_cut (a := Frame P s0 sv) ?_ ?_; on_goal 2 => dsimp -zeta only [sv]; on_goal 1 => clear_value sv)
    | (intro sv; refine frame_cut (a := Frame P s0 sv.st) ?_ ?_; on_goal 2 => dsimp -zeta only [sv]; on_goal 1 => clear_value sv)
    | (intro sv; clear_value sv)
    | intro _
    | lift_lets -underBinder
    | with_reducible apply keepClamps_frame
    | with_reducible apply silenceRestart_frame
    | with_reducible apply forward_frame
    | with_reducible apply keepTag_frame
    | with_reducible apply hc0
    | with_reducible apply frame_ite
    | with_reducible apply frame_foldl
    | with_reducible apply frame_foldr
    | split

theorem runCmd_frame {P : Parts} {s0 : State} {s : State} (c : Cmd) (p : List Byte) (hs0 : Frame P s0 s) (hc0 : ∀ s p, Frame P s0 s → Frame P s0 (c.body s p).st) (h_sys : P.sys = true) (h_mb : P.mb = true) (h_tw : P.tw = true) :
    Frame P s0 (State.runCmd s c p) := by
  unfold State.runCmd
  repeat' first
    | with_reducible assumption
    | (intro sv; refine frame_cut (a := Frame P s0 sv) ?_ ?_; on_goal 2 => dsimp -zeta only [sv]; on_goal 1 => clear_value sv)
    | (intro sv; refine frame_cut (a := Frame P s0 sv.st) ?_ ?_; on_goal 2 => dsimp -zeta only [sv]; on_goal 1 => clear_value sv)
    | (intro sv; clear_value sv)
    | intro _
    | lift_lets -underBinder
    | with_reducible apply silenceRestart_frame
    | with_reducible apply answer_frame
    | with_reducible apply answerCmd_frame
    | with_reducible apply accept_frame
    | with_reducible apply hc0
    | with_reducible apply frame_ite
    | with_reducible apply frame_foldl
    | with_reducible apply frame_foldr
    | split

theorem atMailbox_frame {P : Parts} {s0 : State} {s : State} (hs0 : Frame P s0 s) (h_regs : P.regs = true) (h_dic : P.dic = true) (h_mb : P.mb = true) (h_le : P.le = true) :
    Frame P s0 (State.atMailbox s) := by
  unfold State.atMailbox
  repeat' first
    | with_reducible assumption
    | (intro sv; refine frame_cut (a := Frame P s0 sv) ?_ ?_; on_goal 2 => dsimp -zeta only [sv]; on_goal 1 => clear_value sv)
    | (intro sv; clear_value sv)
    | intro _
    | lift_lets -underBinder
    | with_reducible apply post_frame
    | with_reducible apply onMb_frame
    | with_reducible apply frame_ite
    | with_reducible apply frame_foldl
    | with_reducible apply frame_foldr
    | split

theorem mailbox_frame {P : Parts} {s0 : State} {s : State} (c : Cmd) (p : List Byte) (hs0 : Frame P s0 s) (hc0 : ∀ s p, Frame P s0 s → Frame P s0 (c.body s p).st) (h_regs : P.regs = true) (h_sys : P.sys = true) (h_dic : P.dic = true) (h_mb : P.mb = true) (h_le : P.le = true) (h_tw : P.tw = true) :
    Frame P s0 (State.mailbox s c p) := by
  unfold State.mailbox
  repeat' first
    | with_reducible assumption
    | (intro sv; refine frame_cut (a := Frame P s0 sv) ?_ ?_; on_goal 2 => dsimp -zeta only [sv]; on_goal 1 => clear_value sv)
    | (intro sv; refine frame_cut (a := Frame P s0 sv.st) ?_ ?_; on_goal 2 => dsimp -zeta only [sv]; on_goal 1 => clear_value sv)
    | (intro sv; clear_value sv)
    | intro _
    | lift_lets -underBinder
    | with_reducible apply atMailbox_frame
    | with_reducible apply answer_frame
    | with_reducible apply runCmd_frame
    | with_reducible apply hc0
    | with_reducible apply frame_ite
    | with_reducible apply frame_foldl
    | with_reducible apply frame_foldr
    | split

theorem recordReply_frame {P : Parts} {s0 : State} {s : State} (size : ℕ) (l : List (ℕ × List Byte)) (hs0 : Frame P s0 s) :
    Frame P s0 (State.recordReply s size l).st := by
  unfold State.recordReply
  repeat' first
    | with_reducible assumption
    | (intro sv; refine frame_cut (a := Frame P s0 sv) ?_ ?_; on_goal 2 => dsimp -zeta only [sv]; on_goal 1 => clear_value sv)
    | (intro sv; clear_value sv)
    | intro _
    | lift_lets -underBinder
    | with_reducible apply frame_ite
    | with_reducible apply frame_foldl
    | with_reducible apply frame_foldr
    | split

theorem cmdGetIdentity_frame {P : Parts} {s0 : State} {s : State} (p : List Byte) (hs0 : Frame P s0 s) :
    Frame P s0 (cmdGetIdentity.body s p).st := by
  dsimp -zeta only [cmdGetIdentity]
  repeat' first
    | with_reducible assumption
    | (intro sv; refine frame_cut (a := Frame P s0 sv) ?_ ?_; on_goal 2 => dsimp -zeta only [sv]; on_goal 1 => clear_value sv)
    | (intro sv; clear_value sv)
    | intro _
    | lift_lets -underBinder
    | with_reducible apply frame_ite
    | with_reducible apply frame_foldl
    | with_reducible apply frame_foldr
    | split

theorem execGetIdentity_answers {P : Parts} {s0 : State} (p : List (BitVec 8)) {s : State} (hs0 : Frame P s0 s) (h_regs : P.regs = true) (h_sys : P.sys = true) (h_dic : P.dic = true) (h_mb : P.mb = true) (h_le : P.le = true) (h_tw : P.tw = true) :
    Answers P s0 (execGetIdentity p s) := by
  unfold execGetIdentity
  repeat' first
    | with_reducible assumption
    | (intro sv; refine frame_cut (a := Frame P s0 sv) ?_ ?_; on_goal 2 => dsimp -zeta only [sv]; on_goal 1 => clear_value sv)
    | (intro sv; refine frame_cut (a := Frame P s0 sv.st) ?_ ?_; on_goal 2 => dsimp -zeta only [sv]; on_goal 1 => clear_value sv)
    | (intro sv; clear_value sv)
    | intro _
    | with_reducible apply answers_next
    | with_reducible apply answers_ite
    | lift_lets -underBinder
    | with_reducible apply mailbox_frame
    | with_reducible apply cmdGetIdentity_frame
    | with_reducible apply frame_ite
    | with_reducible apply frame_foldl
    | with_reducible apply frame_foldr
    | split

theorem cmdGetState_frame {P : Parts} {s0 : State} {s : State} (p : List Byte) (hs0 : Frame P s0 s) :
    Frame P s0 (cmdGetState.body s p).st := by
  dsimp -zeta only [cmdGetState]
  repeat' first
    | with_reducible assumption
    | (intro sv; refine frame_cut (a := Frame P s0 sv) ?_ ?_; on_goal 2 => dsimp -zeta only [sv]; on_goal 1 => clear_value sv)
    | (intro sv; clear_value sv)
    | intro _
    | lift_lets -underBinder
    | with_reducible apply frame_ite
    | with_reducible apply frame_foldl
    | with_reducible apply frame_foldr
    | split

theorem execGetState_answers {P : Parts} {s0 : State} (p : List (BitVec 8)) {s : State} (hs0 : Frame P s0 s) (h_regs : P.regs = true) (h_sys : P.sys = true) (h_dic : P.dic = true) (h_mb : P.mb = true) (h_le : P.le = true) (h_tw : P.tw = true) :
    Answers P s0 (execGetState p s) := by
  unfold execGetState
  repeat' first
    | with_reducible assumption
    | (intro sv; refine frame_cut (a := Frame P s0 sv) ?_ ?_; on_goal 2 => dsimp -zeta only [sv]; on_goal 1 => clear_value sv)
    | (intro sv; refine frame_cut (a := Frame P s0 sv.st) ?_ ?_; on_goal 2 => dsimp -zeta only [sv]; on_goal 1 => clear_value sv)
    | (intro sv; clear_value sv)
    | intro _
    | with_reducible apply answers_next
    | with_reducible apply answers_ite
    | lift_lets -underBinder
    | with_reducible apply mailbox_frame
    | with_reducible apply cmdGetState_frame
    | with_reducible apply frame_ite
    | with_reducible apply frame_foldl
    | with_reducible apply frame_foldr
    | split

theorem scheduleReset_frame {P : Parts} {s0 : State} {s : State} (at_ : ℕ) (hs0 : Frame P s0 s) (h_regs : P.regs = true) (h_mb : P.mb = true) :
    Frame P s0 (State.scheduleReset s at_) := by
  unfold State.scheduleReset
  repeat' first
    | with_reducible assumption
    | (intro sv; refine frame_cut (a := Frame P s0 sv) ?_ ?_; on_goal 2 => dsimp -zeta only [sv]; on_goal 1 => clear_value sv)
    | (intro sv; clear_value sv)
    | intro _
    | lift_lets -underBinder
    | with_reducible apply onMb_frame
    | with_reducible apply putBit_frame
    | with_reducible apply wr64_frame
    | with_reducible apply frame_ite
    | with_reducible apply frame_foldl
    | with_reducible apply frame_foldr
    | split

theorem setModeBody_frame {P : Parts} {s0 : State} {s : State} (p : List Byte) (hs0 : Frame P s0 s) (h_regs : P.regs = true) (h_sys : P.sys = true) (h_mb : P.mb = true) :
    Frame P s0 (setModeBody s p).st := by
  unfold setModeBody
  repeat' first
    | with_reducible assumption
    | (intro sv; refine frame_cut (a := Frame P s0 sv) ?_ ?_; on_goal 2 => dsimp -zeta only [sv]; on_goal 1 => clear_value sv)
    | (intro sv; clear_value sv)
    | intro _
    | lift_lets -underBinder
    | with_reducible apply refuse_frame
    | with_reducible apply scheduleReset_frame
    | with_reducible apply onSys_frame
    | with_reducible apply frame_ite
    | with_reducible apply frame_foldl
    | with_reducible apply frame_foldr
    | split

theorem cmdSetMode_frame {P : Parts} {s0 : State} {s : State} (p : List Byte) (hs0 : Frame P s0 s) (h_regs : P.regs = true) (h_sys : P.sys = true) (h_mb : P.mb = true) :
    Frame P s0 (cmdSetMode.body s p).st := by
  dsimp -zeta only [cmdSetMode]
  repeat' first
    | with_reducible assumption
    | (intro sv; refine frame_cut (a := Frame P s0 sv) ?_ ?_; on_goal 2 => dsimp -zeta only [sv]; on_goal 1 => clear_value sv)
    | (intro sv; refine frame_cut (a := Frame P s0 sv.st) ?_ ?_; on_goal 2 => dsimp -zeta only [sv]; on_goal 1 => clear_value sv)
    | (intro sv; clear_value sv)
    | intro _
    | lift_lets -underBinder
    | with_reducible apply setModeBody_frame
    | with_reducible apply frame_ite
    | with_reducible apply frame_foldl
    | with_reducible apply frame_foldr
    | split

theorem execSetModeTable_answers {P : Parts} {s0 : State} (p : List (BitVec 8)) {s : State} (hs0 : Frame P s0 s) (h_regs : P.regs = true) (h_sys : P.sys = true) (h_dic : P.dic = true) (h_mb : P.mb = true) (h_le : P.le = true) (h_tw : P.tw = true) :
    Answers P s0 (execSetModeTable p s) := by
  unfold execSetModeTable
  repeat' first
    | with_reducible assumption
    | (intro sv; refine frame_cut (a := Frame P s0 sv) ?_ ?_; on_goal 2 => dsimp -zeta only [sv]; on_goal 1 => clear_value sv)
    | (intro sv; refine frame_cut (a := Frame P s0 sv.st) ?_ ?_; on_goal 2 => dsimp -zeta only [sv]; on_goal 1 => clear_value sv)
    | (intro sv; clear_value sv)
    | intro _
    | with_reducible apply answers_next
    | with_reducible apply answers_ite
    | lift_lets -underBinder
    | with_reducible apply mailbox_frame
    | with_reducible apply cmdSetMode_frame
    | with_reducible apply frame_ite
    | with_reducible apply frame_foldl
    | with_reducible apply frame_foldr
    | split

theorem execSetModeReactive_answers {P : Parts} {s0 : State} (p : List (BitVec 8)) {s : State} (hs0 : Frame P s0 s) (h_regs : P.regs = true) (h_sys : P.sys = true) (h_dic : P.dic = true) (h_mb : P.mb = true) (h_le : P.le = true) (h_tw : P.tw = true) :
    Answers P s0 (execSetModeReactive p s) := by
  unfold execSetModeReactive
  repeat' first
    | with_reducible assumption
    | (intro sv; refine frame_cut (a := Frame P s0 sv) ?_ ?_; on_goal 2 => dsimp -zeta only [sv]; on_goal 1 => clear_value sv)
    | (intro sv; refine frame_cut (a := Frame P s0 sv.st) ?_ ?_; on_goal 2 => dsimp -zeta only [sv]; on_goal 1 => clear_value sv)
    | (intro sv; clear_value sv)
    | intro _
    | with_reducible apply answers_next
    | with_reducible apply answers_ite
    | lift_lets -underBinder
    | with_reducible apply mailbox_frame
    | with_reducible apply cmdSetMode_frame
    | with_reducible apply frame_ite
    | with_reducible apply frame_foldl
    | with_reducible apply frame_foldr
    | split

theorem execSetModePredictive_answers {P : Parts} {s0 : State} (p : List (BitVec 8)) {s : State} (hs0 : Frame P s0 s) (h_regs : P.regs = true) (h_sys : P.sys = true) (h_dic : P.dic = true) (h_mb : P.mb = true) (h_le : P.le = true) (h_tw : P.tw = true) :
    Answers P s0 (execSetModePredictive p s) := by
  unfold execSetModePredictive
  repeat' first
    | with_reducible assumption
    | (intro sv; refine frame_cut (a := Frame P s0 sv) ?_ ?_; on_goal 2 => dsimp -zeta only [sv]; on_goal 1 => clear_value sv)
    | (intro sv; refine frame_cut (a := Frame P s0 sv.st) ?_ ?_; on_goal 2 => dsimp -zeta only [sv]; on_goal 1 => clear_value sv)
    | (intro sv; clear_value sv)
    | intro _
    | with_reducible apply answers_next
    | with_reducible apply answers_ite
    | lift_lets -underBinder
    | with_reducible apply mailbox_frame
    | with_reducible apply cmdSetMode_frame
    | with_reducible apply frame_ite
    | with_reducible apply frame_foldl
    | with_reducible apply frame_foldr
    | split

theorem execSetModeHold_answers {P : Parts} {s0 : State} (p : List (BitVec 8)) {s : State} (hs0 : Frame P s0 s) (h_regs : P.regs = true) (h_sys : P.sys = true) (h_dic : P.dic = true) (h_mb : P.mb = true) (h_le : P.le = true) (h_tw : P.tw = true) :
    Answers P s0 (execSetModeHold p s) := by
  unfold execSetModeHold
  repeat' first
    | with_reducible assumption
    | (intro sv; refine frame_cut (a := Frame P s0 sv) ?_ ?_; on_goal 2 => dsimp -zeta only [sv]; on_goal 1 => clear_value sv)
    | (intro sv; refine frame_cut (a := Frame P s0 sv.st) ?_ ?_; on_goal 2 => dsimp -zeta only [sv]; on_goal 1 => clear_value sv)
    | (intro sv; clear_value sv)
    | intro _
    | with_reducible apply answers_next
    | with_reducible apply answers_ite
    | lift_lets -underBinder
    | with_reducible apply mailbox_frame
    | with_reducible apply cmdSetMode_frame
    | with_reducible apply frame_ite
    | with_reducible apply frame_foldl
    | with_reducible apply frame_foldr
    | split

theorem execSetModeService_answers {P : Parts} {s0 : State} (p : List (BitVec 8)) {s : State} (hs0 : Frame P s0 s) (h_regs : P.regs = true) (h_sys : P.sys = true) (h_dic : P.dic = true) (h_mb : P.mb = true) (h_le : P.le = true) (h_tw : P.tw = true) :
    Answers P s0 (execSetModeService p s) := by
  unfold execSetModeService
  repeat' first
    | with_reducible assumption
    | (intro sv; refine frame_cut (a := Frame P s0 sv) ?_ ?_; on_goal 2 => dsimp -zeta only [sv]; on_goal 1 => clear_value sv)
    | (intro sv; refine frame_cut (a := Frame P s0 sv.st) ?_ ?_; on_goal 2 => dsimp -zeta only [sv]; on_goal 1 => clear_value sv)
    | (intro sv; clear_value sv)
    | intro _
    | with_reducible apply answers_next
    | with_reducible apply answers_ite
    | lift_lets -underBinder
    | with_reducible apply mailbox_frame
    | with_reducible apply cmdSetMode_frame
    | with_reducible apply frame_ite
    | with_reducible apply frame_foldl
    | with_reducible apply frame_foldr
    | split

theorem execSetModeReset_answers {P : Parts} {s0 : State} (p : List (BitVec 8)) {s : State} (hs0 : Frame P s0 s) (h_regs : P.regs = true) (h_sys : P.sys = true) (h_dic : P.dic = true) (h_mb : P.mb = true) (h_le : P.le = true) (h_tw : P.tw = true) :
    Answers P s0 (execSetModeReset p s) := by
  unfold execSetModeReset
  repeat' first
    | with_reducible assumption
    | (intro sv; refine frame_cut (a := Frame P s0 sv) ?_ ?_; on_goal 2 => dsimp -zeta only [sv]; on_goal 1 => clear_value sv)
    | (intro sv; refine frame_cut (a := Frame P s0 sv.st) ?_ ?_; on_goal 2 => dsimp -zeta only [sv]; on_goal 1 => clear_value sv)
    | (intro sv; clear_value sv)
    | intro _
    | with_reducible apply answers_next
    | with_reducible apply answers_ite
    | lift_lets -underBinder
    | with_reducible apply mailbox_frame
    | with_reducible apply cmdSetMode_frame
    | with_reducible apply frame_ite
    | with_reducible apply frame_foldl
    | with_reducible apply frame_foldr
    | split

theorem cmdKeepalive_frame {P : Parts} {s0 : State} {s : State} (p : List Byte) (hs0 : Frame P s0 s) :
    Frame P s0 (cmdKeepalive.body s p).st := by
  dsimp -zeta only [cmdKeepalive]
  repeat' first
    | with_reducible assumption
    | (intro sv; refine frame_cut (a := Frame P s0 sv) ?_ ?_; on_goal 2 => dsimp -zeta only [sv]; on_goal 1 => clear_value sv)
    | (intro sv; clear_value sv)
    | intro _
    | lift_lets -underBinder
    | with_reducible apply frame_ite
    | with_reducible apply frame_foldl
    | with_reducible apply frame_foldr
    | split

theorem execKeepalive_answers {P : Parts} {s0 : State} (p : List (BitVec 8)) {s : State} (hs0 : Frame P s0 s) (h_regs : P.regs = true) (h_sys : P.sys = true) (h_dic : P.dic = true) (h_mb : P.mb = true) (h_le : P.le = true) (h_tw : P.tw = true) :
    Answers P s0 (execKeepalive p s) := by
  unfold execKeepalive
  repeat' first
    | with_reducible assumption
    | (intro sv; refine frame_cut (a := Frame P s0 sv) ?_ ?_; on_goal 2 => dsimp -zeta only [sv]; on_goal 1 => clear_value sv)
    | (intro sv; refine frame_cut (a := Frame P s0 sv.st) ?_ ?_; on_goal 2 => dsimp -zeta only [sv]; on_goal 1 => clear_value sv)
    | (intro sv; clear_value sv)
    | intro _
    | with_reducible apply answers_next
    | with_reducible apply answers_ite
    | lift_lets -underBinder
    | with_reducible apply mailbox_frame
    | with_reducible apply cmdKeepalive_frame
    | with_reducible apply frame_ite
    | with_reducible apply frame_foldl
    | with_reducible apply frame_foldr
    | split

theorem cmdConfigRead_frame {P : Parts} {s0 : State} {s : State} (p : List Byte) (hs0 : Frame P s0 s) :
    Frame P s0 (cmdConfigRead.body s p).st := by
  dsimp -zeta only [cmdConfigRead]
  repeat' first
    | with_reducible assumption
    | (intro sv; refine frame_cut (a := Frame P s0 sv) ?_ ?_; on_goal 2 => dsimp -zeta only [sv]; on_goal 1 => clear_value sv)
    | (intro sv; clear_value sv)
    | intro _
    | lift_lets -underBinder
    | with_reducible apply refuse_frame
    | with_reducible apply frame_ite
    | with_reducible apply frame_foldl
    | with_reducible apply frame_foldr
    | split

theorem execConfigRead_answers {P : Parts} {s0 : State} (p : List (BitVec 8)) {s : State} (hs0 : Frame P s0 s) (h_regs : P.regs = true) (h_sys : P.sys = true) (h_dic : P.dic = true) (h_mb : P.mb = true) (h_le : P.le = true) (h_tw : P.tw = true) :
    Answers P s0 (execConfigRead p s) := by
  unfold execConfigRead
  repeat' first
    | with_reducible assumption
    | (intro sv; refine frame_cut (a := Frame P s0 sv) ?_ ?_; on_goal 2 => dsimp -zeta only [sv]; on_goal 1 => clear_value sv)
    | (intro sv; refine frame_cut (a := Frame P s0 sv.st) ?_ ?_; on_goal 2 => dsimp -zeta only [sv]; on_goal 1 => clear_value sv)
    | (intro sv; clear_value sv)
    | intro _
    | with_reducible apply answers_next
    | with_reducible apply answers_ite
    | lift_lets -underBinder
    | with_reducible apply mailbox_frame
    | with_reducible apply cmdConfigRead_frame
    | with_reducible apply frame_ite
    | with_reducible apply frame_foldl
    | with_reducible apply frame_foldr
    | split

theorem cmdConfigReport_frame {P : Parts} {s0 : State} {s : State} (p : List Byte) (hs0 : Frame P s0 s) :
    Frame P s0 (cmdConfigReport.body s p).st := by
  dsimp -zeta only [cmdConfigReport]
  repeat' first
    | with_reducible assumption
    | (intro sv; refine frame_cut (a := Frame P s0 sv) ?_ ?_; on_goal 2 => dsimp -zeta only [sv]; on_goal 1 => clear_value sv)
    | (intro sv; clear_value sv)
    | intro _
    | lift_lets -underBinder
    | with_reducible apply frame_ite
    | with_reducible apply frame_foldl
    | with_reducible apply frame_foldr
    | split

theorem execConfigReport_answers {P : Parts} {s0 : State} (p : List (BitVec 8)) {s : State} (hs0 : Frame P s0 s) (h_regs : P.regs = true) (h_sys : P.sys = true) (h_dic : P.dic = true) (h_mb : P.mb = true) (h_le : P.le = true) (h_tw : P.tw = true) :
    Answers P s0 (execConfigReport p s) := by
  unfold execConfigReport
  repeat' first
    | with_reducible assumption
    | (intro sv; refine frame_cut (a := Frame P s0 sv) ?_ ?_; on_goal 2 => dsimp -zeta only [sv]; on_goal 1 => clear_value sv)
    | (intro sv; refine frame_cut (a := Frame P s0 sv.st) ?_ ?_; on_goal 2 => dsimp -zeta only [sv]; on_goal 1 => clear_value sv)
    | (intro sv; clear_value sv)
    | intro _
    | with_reducible apply answers_next
    | with_reducible apply answers_ite
    | lift_lets -underBinder
    | with_reducible apply mailbox_frame
    | with_reducible apply cmdConfigReport_frame
    | with_reducible apply frame_ite
    | with_reducible apply frame_foldl
    | with_reducible apply frame_foldr
    | split

theorem cmdContextList_frame {P : Parts} {s0 : State} {s : State} (p : List Byte) (hs0 : Frame P s0 s) :
    Frame P s0 (cmdContextList.body s p).st := by
  dsimp -zeta only [cmdContextList]
  repeat' first
    | with_reducible assumption
    | (intro sv; refine frame_cut (a := Frame P s0 sv) ?_ ?_; on_goal 2 => dsimp -zeta only [sv]; on_goal 1 => clear_value sv)
    | (intro sv; clear_value sv)
    | intro _
    | lift_lets -underBinder
    | with_reducible apply recordReply_frame
    | with_reducible apply frame_ite
    | with_reducible apply frame_foldl
    | with_reducible apply frame_foldr
    | split

theorem execContextList_answers {P : Parts} {s0 : State} (p : List (BitVec 8)) {s : State} (hs0 : Frame P s0 s) (h_regs : P.regs = true) (h_sys : P.sys = true) (h_dic : P.dic = true) (h_mb : P.mb = true) (h_le : P.le = true) (h_tw : P.tw = true) :
    Answers P s0 (execContextList p s) := by
  unfold execContextList
  repeat' first
    | with_reducible assumption
    | (intro sv; refine frame_cut (a := Frame P s0 sv) ?_ ?_; on_goal 2 => dsimp -zeta only [sv]; on_goal 1 => clear_value sv)
    | (intro sv; refine frame_cut (a := Frame P s0 sv.st) ?_ ?_; on_goal 2 => dsimp -zeta only [sv]; on_goal 1 => clear_value sv)
    | (intro sv; clear_value sv)
    | intro _
    | with_reducible apply answers_next
    | with_reducible apply answers_ite
    | lift_lets -underBinder
    | with_reducible apply mailbox_frame
    | with_reducible apply cmdContextList_frame
    | with_reducible apply frame_ite
    | with_reducible apply frame_foldl
    | with_reducible apply frame_foldr
    | split

theorem cmdGetBudget_frame {P : Parts} {s0 : State} {s : State} (p : List Byte) (hs0 : Frame P s0 s) :
    Frame P s0 (cmdGetBudget.body s p).st := by
  dsimp -zeta only [cmdGetBudget]
  repeat' first
    | with_reducible assumption
    | (intro sv; refine frame_cut (a := Frame P s0 sv) ?_ ?_; on_goal 2 => dsimp -zeta only [sv]; on_goal 1 => clear_value sv)
    | (intro sv; clear_value sv)
    | intro _
    | lift_lets -underBinder
    | with_reducible apply refuse_frame
    | with_reducible apply recordReply_frame
    | with_reducible apply frame_ite
    | with_reducible apply frame_foldl
    | with_reducible apply frame_foldr
    | split

theorem execGetBudget_answers {P : Parts} {s0 : State} (p : List (BitVec 8)) {s : State} (hs0 : Frame P s0 s) (h_regs : P.regs = true) (h_sys : P.sys = true) (h_dic : P.dic = true) (h_mb : P.mb = true) (h_le : P.le = true) (h_tw : P.tw = true) :
    Answers P s0 (execGetBudget p s) := by
  unfold execGetBudget
  repeat' first
    | with_reducible assumption
    | (intro sv; refine frame_cut (a := Frame P s0 sv) ?_ ?_; on_goal 2 => dsimp -zeta only [sv]; on_goal 1 => clear_value sv)
    | (intro sv; refine frame_cut (a := Frame P s0 sv.st) ?_ ?_; on_goal 2 => dsimp -zeta only [sv]; on_goal 1 => clear_value sv)
    | (intro sv; clear_value sv)
    | intro _
    | with_reducible apply answers_next
    | with_reducible apply answers_ite
    | lift_lets -underBinder
    | with_reducible apply mailbox_frame
    | with_reducible apply cmdGetBudget_frame
    | with_reducible apply frame_ite
    | with_reducible apply frame_foldl
    | with_reducible apply frame_foldr
    | split

theorem cmdLoopGet_frame {P : Parts} {s0 : State} {s : State} (p : List Byte) (hs0 : Frame P s0 s) (h_regs : P.regs = true) (h_le : P.le = true) :
    Frame P s0 (cmdLoopGet.body s p).st := by
  dsimp -zeta only [cmdLoopGet]
  repeat' first
    | with_reducible assumption
    | (intro sv; refine frame_cut (a := Frame P s0 sv) ?_ ?_; on_goal 2 => dsimp -zeta only [sv]; on_goal 1 => clear_value sv)
    | (intro sv; clear_value sv)
    | intro _
    | lift_lets -underBinder
    | with_reducible apply refuse_frame
    | with_reducible apply setSlot_frame
    | with_reducible apply wr_frame
    | with_reducible apply frame_ite
    | with_reducible apply frame_foldl
    | with_reducible apply frame_foldr
    | split

theorem execLoopGet_answers {P : Parts} {s0 : State} (p : List (BitVec 8)) {s : State} (hs0 : Frame P s0 s) (h_regs : P.regs = true) (h_sys : P.sys = true) (h_dic : P.dic = true) (h_mb : P.mb = true) (h_le : P.le = true) (h_tw : P.tw = true) :
    Answers P s0 (execLoopGet p s) := by
  unfold execLoopGet
  repeat' first
    | with_reducible assumption
    | (intro sv; refine frame_cut (a := Frame P s0 sv) ?_ ?_; on_goal 2 => dsimp -zeta only [sv]; on_goal 1 => clear_value sv)
    | (intro sv; refine frame_cut (a := Frame P s0 sv.st) ?_ ?_; on_goal 2 => dsimp -zeta only [sv]; on_goal 1 => clear_value sv)
    | (intro sv; clear_value sv)
    | intro _
    | with_reducible apply answers_next
    | with_reducible apply answers_ite
    | lift_lets -underBinder
    | with_reducible apply mailbox_frame
    | with_reducible apply cmdLoopGet_frame
    | with_reducible apply frame_ite
    | with_reducible apply frame_foldl
    | with_reducible apply frame_foldr
    | split

theorem cmdCaptureRead_frame {P : Parts} {s0 : State} {s : State} (p : List Byte) (hs0 : Frame P s0 s) :
    Frame P s0 (cmdCaptureRead.body s p).st := by
  dsimp -zeta only [cmdCaptureRead]
  repeat' first
    | with_reducible assumption
    | (intro sv; refine frame_cut (a := Frame P s0 sv) ?_ ?_; on_goal 2 => dsimp -zeta only [sv]; on_goal 1 => clear_value sv)
    | (intro sv; clear_value sv)
    | intro _
    | lift_lets -underBinder
    | with_reducible apply refuse_frame
    | with_reducible apply frame_ite
    | with_reducible apply frame_foldl
    | with_reducible apply frame_foldr
    | split

theorem execCaptureRead_answers {P : Parts} {s0 : State} (p : List (BitVec 8)) {s : State} (hs0 : Frame P s0 s) (h_regs : P.regs = true) (h_sys : P.sys = true) (h_dic : P.dic = true) (h_mb : P.mb = true) (h_le : P.le = true) (h_tw : P.tw = true) :
    Answers P s0 (execCaptureRead p s) := by
  unfold execCaptureRead
  repeat' first
    | with_reducible assumption
    | (intro sv; refine frame_cut (a := Frame P s0 sv) ?_ ?_; on_goal 2 => dsimp -zeta only [sv]; on_goal 1 => clear_value sv)
    | (intro sv; refine frame_cut (a := Frame P s0 sv.st) ?_ ?_; on_goal 2 => dsimp -zeta only [sv]; on_goal 1 => clear_value sv)
    | (intro sv; clear_value sv)
    | intro _
    | with_reducible apply answers_next
    | with_reducible apply answers_ite
    | lift_lets -underBinder
    | with_reducible apply mailbox_frame
    | with_reducible apply cmdCaptureRead_frame
    | with_reducible apply frame_ite
    | with_reducible apply frame_foldl
    | with_reducible apply frame_foldr
    | split

theorem cmdBobbinRead_frame {P : Parts} {s0 : State} {s : State} (p : List Byte) (hs0 : Frame P s0 s) :
    Frame P s0 (cmdBobbinRead.body s p).st := by
  dsimp -zeta only [cmdBobbinRead]
  repeat' first
    | with_reducible assumption
    | (intro sv; refine frame_cut (a := Frame P s0 sv) ?_ ?_; on_goal 2 => dsimp -zeta only [sv]; on_goal 1 => clear_value sv)
    | (intro sv; clear_value sv)
    | intro _
    | lift_lets -underBinder
    | with_reducible apply refuse_frame
    | with_reducible apply recordReply_frame
    | with_reducible apply frame_ite
    | with_reducible apply frame_foldl
    | with_reducible apply frame_foldr
    | split

theorem execBobbinRead_answers {P : Parts} {s0 : State} (p : List (BitVec 8)) {s : State} (hs0 : Frame P s0 s) (h_regs : P.regs = true) (h_sys : P.sys = true) (h_dic : P.dic = true) (h_mb : P.mb = true) (h_le : P.le = true) (h_tw : P.tw = true) :
    Answers P s0 (execBobbinRead p s) := by
  unfold execBobbinRead
  repeat' first
    | with_reducible assumption
    | (intro sv; refine frame_cut (a := Frame P s0 sv) ?_ ?_; on_goal 2 => dsimp -zeta only [sv]; on_goal 1 => clear_value sv)
    | (intro sv; refine frame_cut (a := Frame P s0 sv.st) ?_ ?_; on_goal 2 => dsimp -zeta only [sv]; on_goal 1 => clear_value sv)
    | (intro sv; clear_value sv)
    | intro _
    | with_reducible apply answers_next
    | with_reducible apply answers_ite
    | lift_lets -underBinder
    | with_reducible apply mailbox_frame
    | with_reducible apply cmdBobbinRead_frame
    | with_reducible apply frame_ite
    | with_reducible apply frame_foldl
    | with_reducible apply frame_foldr
    | split

theorem cmdCalibrationStatus_frame {P : Parts} {s0 : State} {s : State} (p : List Byte) (hs0 : Frame P s0 s) :
    Frame P s0 (cmdCalibrationStatus.body s p).st := by
  dsimp -zeta only [cmdCalibrationStatus]
  repeat' first
    | with_reducible assumption
    | (intro sv; refine frame_cut (a := Frame P s0 sv) ?_ ?_; on_goal 2 => dsimp -zeta only [sv]; on_goal 1 => clear_value sv)
    | (intro sv; clear_value sv)
    | intro _
    | lift_lets -underBinder
    | with_reducible apply frame_ite
    | with_reducible apply frame_foldl
    | with_reducible apply frame_foldr
    | split

theorem execCalibrationStatus_answers {P : Parts} {s0 : State} (p : List (BitVec 8)) {s : State} (hs0 : Frame P s0 s) (h_regs : P.regs = true) (h_sys : P.sys = true) (h_dic : P.dic = true) (h_mb : P.mb = true) (h_le : P.le = true) (h_tw : P.tw = true) :
    Answers P s0 (execCalibrationStatus p s) := by
  unfold execCalibrationStatus
  repeat' first
    | with_reducible assumption
    | (intro sv; refine frame_cut (a := Frame P s0 sv) ?_ ?_; on_goal 2 => dsimp -zeta only [sv]; on_goal 1 => clear_value sv)
    | (intro sv; refine frame_cut (a := Frame P s0 sv.st) ?_ ?_; on_goal 2 => dsimp -zeta only [sv]; on_goal 1 => clear_value sv)
    | (intro sv; clear_value sv)
    | intro _
    | with_reducible apply answers_next
    | with_reducible apply answers_ite
    | lift_lets -underBinder
    | with_reducible apply mailbox_frame
    | with_reducible apply cmdCalibrationStatus_frame
    | with_reducible apply frame_ite
    | with_reducible apply frame_foldl
    | with_reducible apply frame_foldr
    | split

theorem cmdQueryProgress_frame {P : Parts} {s0 : State} {s : State} (p : List Byte) (hs0 : Frame P s0 s) :
    Frame P s0 (cmdQueryProgress.body s p).st := by
  dsimp -zeta only [cmdQueryProgress]
  repeat' first
    | with_reducible assumption
    | (intro sv; refine frame_cut (a := Frame P s0 sv) ?_ ?_; on_goal 2 => dsimp -zeta only [sv]; on_goal 1 => clear_value sv)
    | (intro sv; clear_value sv)
    | intro _
    | lift_lets -underBinder
    | with_reducible apply frame_ite
    | with_reducible apply frame_foldl
    | with_reducible apply frame_foldr
    | split

theorem execQueryProgress_answers {P : Parts} {s0 : State} (p : List (BitVec 8)) {s : State} (hs0 : Frame P s0 s) (h_regs : P.regs = true) (h_sys : P.sys = true) (h_dic : P.dic = true) (h_mb : P.mb = true) (h_le : P.le = true) (h_tw : P.tw = true) :
    Answers P s0 (execQueryProgress p s) := by
  unfold execQueryProgress
  repeat' first
    | with_reducible assumption
    | (intro sv; refine frame_cut (a := Frame P s0 sv) ?_ ?_; on_goal 2 => dsimp -zeta only [sv]; on_goal 1 => clear_value sv)
    | (intro sv; refine frame_cut (a := Frame P s0 sv.st) ?_ ?_; on_goal 2 => dsimp -zeta only [sv]; on_goal 1 => clear_value sv)
    | (intro sv; clear_value sv)
    | intro _
    | with_reducible apply answers_next
    | with_reducible apply answers_ite
    | lift_lets -underBinder
    | with_reducible apply mailbox_frame
    | with_reducible apply cmdQueryProgress_frame
    | with_reducible apply frame_ite
    | with_reducible apply frame_foldl
    | with_reducible apply frame_foldr
    | split

theorem cmdTwinStatus_frame {P : Parts} {s0 : State} {s : State} (p : List Byte) (hs0 : Frame P s0 s) :
    Frame P s0 (cmdTwinStatus.body s p).st := by
  dsimp -zeta only [cmdTwinStatus]
  repeat' first
    | with_reducible assumption
    | (intro sv; refine frame_cut (a := Frame P s0 sv) ?_ ?_; on_goal 2 => dsimp -zeta only [sv]; on_goal 1 => clear_value sv)
    | (intro sv; clear_value sv)
    | intro _
    | lift_lets -underBinder
    | with_reducible apply frame_ite
    | with_reducible apply frame_foldl
    | with_reducible apply frame_foldr
    | split

theorem execTwinStatus_answers {P : Parts} {s0 : State} (p : List (BitVec 8)) {s : State} (hs0 : Frame P s0 s) (h_regs : P.regs = true) (h_sys : P.sys = true) (h_dic : P.dic = true) (h_mb : P.mb = true) (h_le : P.le = true) (h_tw : P.tw = true) :
    Answers P s0 (execTwinStatus p s) := by
  unfold execTwinStatus
  repeat' first
    | with_reducible assumption
    | (intro sv; refine frame_cut (a := Frame P s0 sv) ?_ ?_; on_goal 2 => dsimp -zeta only [sv]; on_goal 1 => clear_value sv)
    | (intro sv; refine frame_cut (a := Frame P s0 sv.st) ?_ ?_; on_goal 2 => dsimp -zeta only [sv]; on_goal 1 => clear_value sv)
    | (intro sv; clear_value sv)
    | intro _
    | with_reducible apply answers_next
    | with_reducible apply answers_ite
    | lift_lets -underBinder
    | with_reducible apply mailbox_frame
    | with_reducible apply cmdTwinStatus_frame
    | with_reducible apply frame_ite
    | with_reducible apply frame_foldl
    | with_reducible apply frame_foldr
    | split

theorem standard_frame {P : Parts} {s0 : State} {s : State} (body : List Byte) (hs0 : Frame P s0 s) (h_regs : P.regs = true) (h_sys : P.sys = true) (h_dic : P.dic = true) (h_mb : P.mb = true) (h_le : P.le = true) (h_tw : P.tw = true) :
    Frame P s0 (State.standard s body) := by
  unfold State.standard
  repeat' first
    | with_reducible assumption
    | (intro sv; refine frame_cut (a := Frame P s0 sv) ?_ ?_; on_goal 2 => dsimp -zeta only [sv]; on_goal 1 => clear_value sv)
    | (intro sv; clear_value sv)
    | intro _
    | lift_lets -underBinder
    | with_reducible apply atMailbox_frame
    | with_reducible apply silenceRestart_frame
    | with_reducible apply msixSend_frame
    | with_reducible apply reply_frame
    | with_reducible apply frame_ite
    | with_reducible apply frame_foldl
    | with_reducible apply frame_foldr
    | split

theorem execUnsupportedCommand_answers {P : Parts} {s0 : State} (op : BitVec 16) {s : State} (hs0 : Frame P s0 s) (h_regs : P.regs = true) (h_dic : P.dic = true) (h_mb : P.mb = true) (h_le : P.le = true) :
    Answers P s0 (execUnsupportedCommand op s) := by
  unfold execUnsupportedCommand
  repeat' first
    | with_reducible assumption
    | (intro sv; refine frame_cut (a := Frame P s0 sv) ?_ ?_; on_goal 2 => dsimp -zeta only [sv]; on_goal 1 => clear_value sv)
    | (intro sv; clear_value sv)
    | intro _
    | with_reducible apply answers_next
    | with_reducible apply answers_ite
    | lift_lets -underBinder
    | with_reducible apply atMailbox_frame
    | with_reducible apply msixSend_frame
    | with_reducible apply reply_frame
    | with_reducible apply frame_ite
    | with_reducible apply frame_foldl
    | with_reducible apply frame_foldr
    | split

theorem execIdentifyMemoryDevice_answers {P : Parts} {s0 : State} {s : State} (hs0 : Frame P s0 s) (h_regs : P.regs = true) (h_sys : P.sys = true) (h_dic : P.dic = true) (h_mb : P.mb = true) (h_le : P.le = true) (h_tw : P.tw = true) :
    Answers P s0 (execIdentifyMemoryDevice s) := by
  unfold execIdentifyMemoryDevice
  repeat' first
    | with_reducible assumption
    | (intro sv; refine frame_cut (a := Frame P s0 sv) ?_ ?_; on_goal 2 => dsimp -zeta only [sv]; on_goal 1 => clear_value sv)
    | (intro sv; clear_value sv)
    | intro _
    | with_reducible apply answers_next
    | with_reducible apply answers_ite
    | lift_lets -underBinder
    | with_reducible apply standard_frame
    | with_reducible apply frame_ite
    | with_reducible apply frame_foldl
    | with_reducible apply frame_foldr
    | split

theorem execGetSupportedLogs_answers {P : Parts} {s0 : State} {s : State} (hs0 : Frame P s0 s) (h_regs : P.regs = true) (h_sys : P.sys = true) (h_dic : P.dic = true) (h_mb : P.mb = true) (h_le : P.le = true) (h_tw : P.tw = true) :
    Answers P s0 (execGetSupportedLogs s) := by
  unfold execGetSupportedLogs
  repeat' first
    | with_reducible assumption
    | (intro sv; refine frame_cut (a := Frame P s0 sv) ?_ ?_; on_goal 2 => dsimp -zeta only [sv]; on_goal 1 => clear_value sv)
    | (intro sv; clear_value sv)
    | intro _
    | with_reducible apply answers_next
    | with_reducible apply answers_ite
    | lift_lets -underBinder
    | with_reducible apply standard_frame
    | with_reducible apply frame_ite
    | with_reducible apply frame_foldl
    | with_reducible apply frame_foldr
    | split

theorem execGetLog_answers {P : Parts} {s0 : State} {s : State} (hs0 : Frame P s0 s) (h_regs : P.regs = true) (h_sys : P.sys = true) (h_dic : P.dic = true) (h_mb : P.mb = true) (h_le : P.le = true) (h_tw : P.tw = true) :
    Answers P s0 (execGetLog s) := by
  unfold execGetLog
  repeat' first
    | with_reducible assumption
    | (intro sv; refine frame_cut (a := Frame P s0 sv) ?_ ?_; on_goal 2 => dsimp -zeta only [sv]; on_goal 1 => clear_value sv)
    | (intro sv; clear_value sv)
    | intro _
    | with_reducible apply answers_next
    | with_reducible apply answers_ite
    | lift_lets -underBinder
    | with_reducible apply standard_frame
    | with_reducible apply frame_ite
    | with_reducible apply frame_foldl
    | with_reducible apply frame_foldr
    | split

theorem execGetEventRecords_answers {P : Parts} {s0 : State} {s : State} (hs0 : Frame P s0 s) (h_regs : P.regs = true) (h_sys : P.sys = true) (h_dic : P.dic = true) (h_mb : P.mb = true) (h_le : P.le = true) (h_tw : P.tw = true) :
    Answers P s0 (execGetEventRecords s) := by
  unfold execGetEventRecords
  repeat' first
    | with_reducible assumption
    | (intro sv; refine frame_cut (a := Frame P s0 sv) ?_ ?_; on_goal 2 => dsimp -zeta only [sv]; on_goal 1 => clear_value sv)
    | (intro sv; clear_value sv)
    | intro _
    | with_reducible apply answers_next
    | with_reducible apply answers_ite
    | lift_lets -underBinder
    | with_reducible apply standard_frame
    | with_reducible apply frame_ite
    | with_reducible apply frame_foldl
    | with_reducible apply frame_foldr
    | split

theorem execClearEventRecords_answers {P : Parts} {s0 : State} (n : ℕ) {s : State} (hs0 : Frame P s0 s) (h_regs : P.regs = true) (h_sys : P.sys = true) (h_dic : P.dic = true) (h_mb : P.mb = true) (h_le : P.le = true) (h_tw : P.tw = true) :
    Answers P s0 (execClearEventRecords n s) := by
  unfold execClearEventRecords
  repeat' first
    | with_reducible assumption
    | (intro sv; refine frame_cut (a := Frame P s0 sv) ?_ ?_; on_goal 2 => dsimp -zeta only [sv]; on_goal 1 => clear_value sv)
    | (intro sv; clear_value sv)
    | intro _
    | with_reducible apply answers_next
    | with_reducible apply answers_ite
    | lift_lets -underBinder
    | with_reducible apply standard_frame
    | with_reducible apply onMb_frame
    | with_reducible apply frame_ite
    | with_reducible apply frame_foldl
    | with_reducible apply frame_foldr
    | split

theorem execGetTimestamp_answers {P : Parts} {s0 : State} {s : State} (hs0 : Frame P s0 s) (h_regs : P.regs = true) (h_sys : P.sys = true) (h_dic : P.dic = true) (h_mb : P.mb = true) (h_le : P.le = true) (h_tw : P.tw = true) :
    Answers P s0 (execGetTimestamp s) := by
  unfold execGetTimestamp
  repeat' first
    | with_reducible assumption
    | (intro sv; refine frame_cut (a := Frame P s0 sv) ?_ ?_; on_goal 2 => dsimp -zeta only [sv]; on_goal 1 => clear_value sv)
    | (intro sv; clear_value sv)
    | intro _
    | with_reducible apply answers_next
    | with_reducible apply answers_ite
    | lift_lets -underBinder
    | with_reducible apply standard_frame
    | with_reducible apply frame_ite
    | with_reducible apply frame_foldl
    | with_reducible apply frame_foldr
    | split

theorem execSetTimestamp_answers {P : Parts} {s0 : State} (ns : BitVec 64) {s : State} (hs0 : Frame P s0 s) (h_regs : P.regs = true) (h_sys : P.sys = true) (h_dic : P.dic = true) (h_mb : P.mb = true) (h_le : P.le = true) (h_tw : P.tw = true) :
    Answers P s0 (execSetTimestamp ns s) := by
  unfold execSetTimestamp
  repeat' first
    | with_reducible assumption
    | (intro sv; refine frame_cut (a := Frame P s0 sv) ?_ ?_; on_goal 2 => dsimp -zeta only [sv]; on_goal 1 => clear_value sv)
    | (intro sv; clear_value sv)
    | intro _
    | with_reducible apply answers_next
    | with_reducible apply answers_ite
    | lift_lets -underBinder
    | with_reducible apply standard_frame
    | with_reducible apply onMb_frame
    | with_reducible apply frame_ite
    | with_reducible apply frame_foldl
    | with_reducible apply frame_foldr
    | split

end Sys2Proof.Machine
end

