-- ==== Sys2Proof/Laws/MgmtFrame.lean ====
section
/-! SUPPORT. What the operations of Machine/Mgmt.lean may touch, and that they keep the memories canonical. -/

namespace Sys2Proof.Machine

theorem logMark_frame {P : Parts} {s0 : State} {s : State} (hs0 : Frame P s0 s) (h_regs : P.regs = true) (h_dic : P.dic = true) (h_mg : P.mg = true) (h_le : P.le = true) :
    Frame P s0 (State.logMark s) := by
  unfold State.logMark
  repeat' first
    | with_reducible assumption
    | (intro sv; refine frame_cut (a := Frame P s0 sv) ?_ ?_; on_goal 2 => dsimp -zeta only [sv]; on_goal 1 => clear_value sv)
    | (intro sv; clear_value sv)
    | intro _
    | lift_lets -underBinder
    | with_reducible apply putBit_frame
    | with_reducible apply onMg_frame
    | with_reducible apply post_frame
    | with_reducible apply frame_ite
    | with_reducible apply frame_foldl
    | with_reducible apply frame_foldr
    | split

theorem readLogBody_frame {P : Parts} {s0 : State} {s : State} (p : List Byte) (hs0 : Frame P s0 s) (h_regs : P.regs = true) (h_dic : P.dic = true) (h_mg : P.mg = true) (h_le : P.le = true) :
    Frame P s0 (readLogBody s p).st := by
  unfold readLogBody
  repeat' first
    | with_reducible assumption
    | (intro sv; refine frame_cut (a := Frame P s0 sv) ?_ ?_; on_goal 2 => dsimp -zeta only [sv]; on_goal 1 => clear_value sv)
    | (intro sv; clear_value sv)
    | intro _
    | lift_lets -underBinder
    | with_reducible apply logMark_frame
    | with_reducible apply onMg_frame
    | with_reducible apply refuse_frame
    | with_reducible apply frame_ite
    | with_reducible apply frame_foldl
    | with_reducible apply frame_foldr
    | split

theorem cmdReadLog_frame {P : Parts} {s0 : State} {s : State} (p : List Byte) (hs0 : Frame P s0 s) (h_regs : P.regs = true) (h_dic : P.dic = true) (h_mg : P.mg = true) (h_le : P.le = true) :
    Frame P s0 (cmdReadLog.body s p).st := by
  dsimp -zeta only [cmdReadLog]
  repeat' first
    | with_reducible assumption
    | (intro sv; refine frame_cut (a := Frame P s0 sv) ?_ ?_; on_goal 2 => dsimp -zeta only [sv]; on_goal 1 => clear_value sv)
    | (intro sv; refine frame_cut (a := Frame P s0 sv.st) ?_ ?_; on_goal 2 => dsimp -zeta only [sv]; on_goal 1 => clear_value sv)
    | (intro sv; clear_value sv)
    | intro _
    | lift_lets -underBinder
    | with_reducible apply readLogBody_frame
    | with_reducible apply frame_ite
    | with_reducible apply frame_foldl
    | with_reducible apply frame_foldr
    | split

theorem execReadLog_answers {P : Parts} {s0 : State} (p : List (BitVec 8)) {s : State} (hs0 : Frame P s0 s) (h_regs : P.regs = true) (h_sys : P.sys = true) (h_dic : P.dic = true) (h_mg : P.mg = true) (h_mb : P.mb = true) (h_le : P.le = true) (h_tw : P.tw = true) :
    Answers P s0 (execReadLog p s) := by
  unfold execReadLog
  repeat' first
    | with_reducible assumption
    | (intro sv; refine frame_cut (a := Frame P s0 sv) ?_ ?_; on_goal 2 => dsimp -zeta only [sv]; on_goal 1 => clear_value sv)
    | (intro sv; refine frame_cut (a := Frame P s0 sv.st) ?_ ?_; on_goal 2 => dsimp -zeta only [sv]; on_goal 1 => clear_value sv)
    | (intro sv; clear_value sv)
    | intro _
    | with_reducible apply answers_next
    | with_reducible apply answers_ite
    | lift_lets -underBinder
    | with_reducible apply mailbox_frame
    | with_reducible apply cmdReadLog_frame
    | with_reducible apply frame_ite
    | with_reducible apply frame_foldl
    | with_reducible apply frame_foldr
    | split

theorem eventCopy_frame {P : Parts} {s0 : State} {s : State} (r : LogRec) (hs0 : Frame P s0 s) (h_mem : P.mem = true) (h_ca : P.ca = true) :
    Frame P s0 (State.eventCopy s r) := by
  unfold State.eventCopy
  repeat' first
    | with_reducible assumption
    | (intro sv; refine frame_cut (a := Frame P s0 sv) ?_ ?_; on_goal 2 => dsimp -zeta only [sv]; on_goal 1 => clear_value sv)
    | (intro sv; clear_value sv)
    | intro _
    | lift_lets -underBinder
    | with_reducible apply onCa_frame
    | with_reducible apply ddrWrite_frame
    | with_reducible apply frame_ite
    | with_reducible apply frame_foldl
    | with_reducible apply frame_foldr
    | split

theorem execLogFlush_answers {P : Parts} {s0 : State} {s : State} (hs0 : Frame P s0 s) (h_regs : P.regs = true) (h_mem : P.mem = true) (h_dic : P.dic = true) (h_mg : P.mg = true) (h_le : P.le = true) (h_ca : P.ca = true) :
    Answers P s0 (execLogFlush s) := by
  unfold execLogFlush
  repeat' first
    | with_reducible assumption
    | (intro sv; refine frame_cut (a := Frame P s0 sv) ?_ ?_; on_goal 2 => dsimp -zeta only [sv]; on_goal 1 => clear_value sv)
    | (intro sv; clear_value sv)
    | intro _
    | with_reducible apply answers_next
    | with_reducible apply answers_ite
    | lift_lets -underBinder
    | with_reducible apply eventCopy_frame
    | with_reducible apply logMark_frame
    | with_reducible apply onMg_frame
    | with_reducible apply frame_ite
    | with_reducible apply frame_foldl
    | with_reducible apply frame_foldr
    | split

theorem attest_frame {P : Parts} {s0 : State} {s : State} (nonce : List Byte) (hs0 : Frame P s0 s) (h_regs : P.regs = true) (h_mg : P.mg = true) :
    Frame P s0 (State.attest s nonce).st := by
  unfold State.attest
  repeat' first
    | with_reducible assumption
    | (intro sv; refine frame_cut (a := Frame P s0 sv) ?_ ?_; on_goal 2 => dsimp -zeta only [sv]; on_goal 1 => clear_value sv)
    | (intro sv; clear_value sv)
    | intro _
    | lift_lets -underBinder
    | with_reducible apply refuse_frame
    | with_reducible apply log_frame
    | with_reducible apply onMg_frame
    | with_reducible apply frame_ite
    | with_reducible apply frame_foldl
    | with_reducible apply frame_foldr
    | split

theorem cmdAttest_frame {P : Parts} {s0 : State} {s : State} (p : List Byte) (hs0 : Frame P s0 s) (h_regs : P.regs = true) (h_mg : P.mg = true) :
    Frame P s0 (cmdAttest.body s p).st := by
  dsimp -zeta only [cmdAttest]
  repeat' first
    | with_reducible assumption
    | (intro sv; refine frame_cut (a := Frame P s0 sv) ?_ ?_; on_goal 2 => dsimp -zeta only [sv]; on_goal 1 => clear_value sv)
    | (intro sv; clear_value sv)
    | intro _
    | lift_lets -underBinder
    | with_reducible apply attest_frame
    | with_reducible apply frame_ite
    | with_reducible apply frame_foldl
    | with_reducible apply frame_foldr
    | split

theorem execAttest_answers {P : Parts} {s0 : State} (p : List (BitVec 8)) {s : State} (hs0 : Frame P s0 s) (h_regs : P.regs = true) (h_sys : P.sys = true) (h_dic : P.dic = true) (h_mg : P.mg = true) (h_mb : P.mb = true) (h_le : P.le = true) (h_tw : P.tw = true) :
    Answers P s0 (execAttest p s) := by
  unfold execAttest
  repeat' first
    | with_reducible assumption
    | (intro sv; refine frame_cut (a := Frame P s0 sv) ?_ ?_; on_goal 2 => dsimp -zeta only [sv]; on_goal 1 => clear_value sv)
    | (intro sv; refine frame_cut (a := Frame P s0 sv.st) ?_ ?_; on_goal 2 => dsimp -zeta only [sv]; on_goal 1 => clear_value sv)
    | (intro sv; clear_value sv)
    | intro _
    | with_reducible apply answers_next
    | with_reducible apply answers_ite
    | lift_lets -underBinder
    | with_reducible apply mailbox_frame
    | with_reducible apply cmdAttest_frame
    | with_reducible apply frame_ite
    | with_reducible apply frame_foldl
    | with_reducible apply frame_foldr
    | split

theorem onUpdate_frame {P : Parts} {s0 : State} {s : State} (f : Update → Update) (hs0 : Frame P s0 s) (h_mg : P.mg = true) :
    Frame P s0 (State.onUpdate s f) := by
  unfold State.onUpdate
  repeat' first
    | with_reducible assumption
    | (intro sv; refine frame_cut (a := Frame P s0 sv) ?_ ?_; on_goal 2 => dsimp -zeta only [sv]; on_goal 1 => clear_value sv)
    | (intro sv; clear_value sv)
    | intro _
    | lift_lets -underBinder
    | with_reducible apply onMg_frame
    | with_reducible apply frame_ite
    | with_reducible apply frame_foldl
    | with_reducible apply frame_foldr
    | split

theorem updateBeginBody_frame {P : Parts} {s0 : State} {s : State} (p : List Byte) (hs0 : Frame P s0 s) (h_mg : P.mg = true) (h_mb : P.mb = true) (h_tw : P.tw = true) :
    Frame P s0 (updateBeginBody s p).st := by
  unfold updateBeginBody
  repeat' first
    | with_reducible assumption
    | (intro sv; refine frame_cut (a := Frame P s0 sv) ?_ ?_; on_goal 2 => dsimp -zeta only [sv]; on_goal 1 => clear_value sv)
    | (intro sv; clear_value sv)
    | intro _
    | lift_lets -underBinder
    | with_reducible apply refuse_frame
    | with_reducible apply openJournal_frame
    | with_reducible apply onMg_frame
    | with_reducible apply journalStep_frame
    | with_reducible apply frame_ite
    | with_reducible apply frame_foldl
    | with_reducible apply frame_foldr
    | split

theorem cmdUpdateBegin_frame {P : Parts} {s0 : State} {s : State} (p : List Byte) (hs0 : Frame P s0 s) (h_mg : P.mg = true) (h_mb : P.mb = true) (h_tw : P.tw = true) :
    Frame P s0 (cmdUpdateBegin.body s p).st := by
  dsimp -zeta only [cmdUpdateBegin]
  repeat' first
    | with_reducible assumption
    | (intro sv; refine frame_cut (a := Frame P s0 sv) ?_ ?_; on_goal 2 => dsimp -zeta only [sv]; on_goal 1 => clear_value sv)
    | (intro sv; refine frame_cut (a := Frame P s0 sv.st) ?_ ?_; on_goal 2 => dsimp -zeta only [sv]; on_goal 1 => clear_value sv)
    | (intro sv; clear_value sv)
    | intro _
    | lift_lets -underBinder
    | with_reducible apply updateBeginBody_frame
    | with_reducible apply frame_ite
    | with_reducible apply frame_foldl
    | with_reducible apply frame_foldr
    | split

theorem execUpdateBegin_answers {P : Parts} {s0 : State} (p : List (BitVec 8)) {s : State} (hs0 : Frame P s0 s) (h_regs : P.regs = true) (h_sys : P.sys = true) (h_dic : P.dic = true) (h_mg : P.mg = true) (h_mb : P.mb = true) (h_le : P.le = true) (h_tw : P.tw = true) :
    Answers P s0 (execUpdateBegin p s) := by
  unfold execUpdateBegin
  repeat' first
    | with_reducible assumption
    | (intro sv; refine frame_cut (a := Frame P s0 sv) ?_ ?_; on_goal 2 => dsimp -zeta only [sv]; on_goal 1 => clear_value sv)
    | (intro sv; refine frame_cut (a := Frame P s0 sv.st) ?_ ?_; on_goal 2 => dsimp -zeta only [sv]; on_goal 1 => clear_value sv)
    | (intro sv; clear_value sv)
    | intro _
    | with_reducible apply answers_next
    | with_reducible apply answers_ite
    | lift_lets -underBinder
    | with_reducible apply mailbox_frame
    | with_reducible apply cmdUpdateBegin_frame
    | with_reducible apply frame_ite
    | with_reducible apply frame_foldl
    | with_reducible apply frame_foldr
    | split

theorem updateChunkBody_frame {P : Parts} {s0 : State} {s : State} (p : List Byte) (hs0 : Frame P s0 s) (h_mg : P.mg = true) (h_mb : P.mb = true) (h_tw : P.tw = true) :
    Frame P s0 (updateChunkBody s p).st := by
  unfold updateChunkBody
  repeat' first
    | with_reducible assumption
    | (intro sv; refine frame_cut (a := Frame P s0 sv) ?_ ?_; on_goal 2 => dsimp -zeta only [sv]; on_goal 1 => clear_value sv)
    | (intro sv; clear_value sv)
    | intro _
    | lift_lets -underBinder
    | with_reducible apply refuse_frame
    | with_reducible apply onMg_frame
    | with_reducible apply journalStep_frame
    | with_reducible apply frame_ite
    | with_reducible apply frame_foldl
    | with_reducible apply frame_foldr
    | split

theorem cmdUpdateChunk_frame {P : Parts} {s0 : State} {s : State} (p : List Byte) (hs0 : Frame P s0 s) (h_mg : P.mg = true) (h_mb : P.mb = true) (h_tw : P.tw = true) :
    Frame P s0 (cmdUpdateChunk.body s p).st := by
  dsimp -zeta only [cmdUpdateChunk]
  repeat' first
    | with_reducible assumption
    | (intro sv; refine frame_cut (a := Frame P s0 sv) ?_ ?_; on_goal 2 => dsimp -zeta only [sv]; on_goal 1 => clear_value sv)
    | (intro sv; refine frame_cut (a := Frame P s0 sv.st) ?_ ?_; on_goal 2 => dsimp -zeta only [sv]; on_goal 1 => clear_value sv)
    | (intro sv; clear_value sv)
    | intro _
    | lift_lets -underBinder
    | with_reducible apply updateChunkBody_frame
    | with_reducible apply frame_ite
    | with_reducible apply frame_foldl
    | with_reducible apply frame_foldr
    | split

theorem execUpdateChunk_answers {P : Parts} {s0 : State} (p : List (BitVec 8)) {s : State} (hs0 : Frame P s0 s) (h_regs : P.regs = true) (h_sys : P.sys = true) (h_dic : P.dic = true) (h_mg : P.mg = true) (h_mb : P.mb = true) (h_le : P.le = true) (h_tw : P.tw = true) :
    Answers P s0 (execUpdateChunk p s) := by
  unfold execUpdateChunk
  repeat' first
    | with_reducible assumption
    | (intro sv; refine frame_cut (a := Frame P s0 sv) ?_ ?_; on_goal 2 => dsimp -zeta only [sv]; on_goal 1 => clear_value sv)
    | (intro sv; refine frame_cut (a := Frame P s0 sv.st) ?_ ?_; on_goal 2 => dsimp -zeta only [sv]; on_goal 1 => clear_value sv)
    | (intro sv; clear_value sv)
    | intro _
    | with_reducible apply answers_next
    | with_reducible apply answers_ite
    | lift_lets -underBinder
    | with_reducible apply mailbox_frame
    | with_reducible apply cmdUpdateChunk_frame
    | with_reducible apply frame_ite
    | with_reducible apply frame_foldl
    | with_reducible apply frame_foldr
    | split

theorem imageAccepted_frame {P : Parts} {s0 : State} {s : State} (u : Update) (hs0 : Frame P s0 s) (h_mg : P.mg = true) (h_mb : P.mb = true) (h_tw : P.tw = true) :
    Frame P s0 (State.imageAccepted s u) := by
  unfold State.imageAccepted
  repeat' first
    | with_reducible assumption
    | (intro sv; refine frame_cut (a := Frame P s0 sv) ?_ ?_; on_goal 2 => dsimp -zeta only [sv]; on_goal 1 => clear_value sv)
    | (intro sv; clear_value sv)
    | intro _
    | lift_lets -underBinder
    | with_reducible apply journalStep_frame
    | with_reducible apply onUpdate_frame
    | with_reducible apply frame_ite
    | with_reducible apply frame_foldl
    | with_reducible apply frame_foldr
    | split

theorem ratchetBody_frame {P : Parts} {s0 : State} {s : State} (hs0 : Frame P s0 s) (h_free : P.free = true) (h_mg : P.mg = true) :
    Frame P s0 (ratchetBody s).st := by
  unfold ratchetBody
  repeat' first
    | with_reducible assumption
    | (intro sv; refine frame_cut (a := Frame P s0 sv) ?_ ?_; on_goal 2 => dsimp -zeta only [sv]; on_goal 1 => clear_value sv)
    | (intro sv; clear_value sv)
    | intro _
    | lift_lets -underBinder
    | with_reducible apply drew_frame
    | with_reducible apply refuse_frame
    | with_reducible apply onMg_frame
    | with_reducible apply frame_ite
    | with_reducible apply frame_foldl
    | with_reducible apply frame_foldr
    | split

theorem updateEndBody_frame {P : Parts} {s0 : State} {s : State} (p : List Byte) (hs0 : Frame P s0 s) (h_free : P.free = true) (h_mg : P.mg = true) (h_mb : P.mb = true) (h_tw : P.tw = true) :
    Frame P s0 (updateEndBody s p).st := by
  unfold updateEndBody
  repeat' first
    | with_reducible assumption
    | (intro sv; refine frame_cut (a := Frame P s0 sv) ?_ ?_; on_goal 2 => dsimp -zeta only [sv]; on_goal 1 => clear_value sv)
    | (intro sv; refine frame_cut (a := Frame P s0 sv.st) ?_ ?_; on_goal 2 => dsimp -zeta only [sv]; on_goal 1 => clear_value sv)
    | (intro sv; clear_value sv)
    | intro _
    | lift_lets -underBinder
    | with_reducible apply ratchetBody_frame
    | with_reducible apply refuse_frame
    | with_reducible apply onMg_frame
    | with_reducible apply journalEnd_frame
    | with_reducible apply imageAccepted_frame
    | with_reducible apply onUpdate_frame
    | with_reducible apply frame_ite
    | with_reducible apply frame_foldl
    | with_reducible apply frame_foldr
    | split

theorem cmdUpdateEnd_frame {P : Parts} {s0 : State} {s : State} (p : List Byte) (hs0 : Frame P s0 s) (h_free : P.free = true) (h_mg : P.mg = true) (h_mb : P.mb = true) (h_tw : P.tw = true) :
    Frame P s0 (cmdUpdateEnd.body s p).st := by
  dsimp -zeta only [cmdUpdateEnd]
  repeat' first
    | with_reducible assumption
    | (intro sv; refine frame_cut (a := Frame P s0 sv) ?_ ?_; on_goal 2 => dsimp -zeta only [sv]; on_goal 1 => clear_value sv)
    | (intro sv; refine frame_cut (a := Frame P s0 sv.st) ?_ ?_; on_goal 2 => dsimp -zeta only [sv]; on_goal 1 => clear_value sv)
    | (intro sv; clear_value sv)
    | intro _
    | lift_lets -underBinder
    | with_reducible apply updateEndBody_frame
    | with_reducible apply frame_ite
    | with_reducible apply frame_foldl
    | with_reducible apply frame_foldr
    | split

theorem execUpdateVerify_answers {P : Parts} {s0 : State} (p : List (BitVec 8)) {s : State} (hs0 : Frame P s0 s) (h_free : P.free = true) (h_regs : P.regs = true) (h_sys : P.sys = true) (h_dic : P.dic = true) (h_mg : P.mg = true) (h_mb : P.mb = true) (h_le : P.le = true) (h_tw : P.tw = true) :
    Answers P s0 (execUpdateVerify p s) := by
  unfold execUpdateVerify
  repeat' first
    | with_reducible assumption
    | (intro sv; refine frame_cut (a := Frame P s0 sv) ?_ ?_; on_goal 2 => dsimp -zeta only [sv]; on_goal 1 => clear_value sv)
    | (intro sv; refine frame_cut (a := Frame P s0 sv.st) ?_ ?_; on_goal 2 => dsimp -zeta only [sv]; on_goal 1 => clear_value sv)
    | (intro sv; clear_value sv)
    | intro _
    | with_reducible apply answers_next
    | with_reducible apply answers_ite
    | lift_lets -underBinder
    | with_reducible apply mailbox_frame
    | with_reducible apply cmdUpdateEnd_frame
    | with_reducible apply frame_ite
    | with_reducible apply frame_foldl
    | with_reducible apply frame_foldr
    | split

theorem execUpdateActivate_answers {P : Parts} {s0 : State} (p : List (BitVec 8)) {s : State} (hs0 : Frame P s0 s) (h_free : P.free = true) (h_regs : P.regs = true) (h_sys : P.sys = true) (h_dic : P.dic = true) (h_mg : P.mg = true) (h_mb : P.mb = true) (h_le : P.le = true) (h_tw : P.tw = true) :
    Answers P s0 (execUpdateActivate p s) := by
  unfold execUpdateActivate
  repeat' first
    | with_reducible assumption
    | (intro sv; refine frame_cut (a := Frame P s0 sv) ?_ ?_; on_goal 2 => dsimp -zeta only [sv]; on_goal 1 => clear_value sv)
    | (intro sv; refine frame_cut (a := Frame P s0 sv.st) ?_ ?_; on_goal 2 => dsimp -zeta only [sv]; on_goal 1 => clear_value sv)
    | (intro sv; clear_value sv)
    | intro _
    | with_reducible apply answers_next
    | with_reducible apply answers_ite
    | lift_lets -underBinder
    | with_reducible apply mailbox_frame
    | with_reducible apply cmdUpdateEnd_frame
    | with_reducible apply frame_ite
    | with_reducible apply frame_foldl
    | with_reducible apply frame_foldr
    | split

theorem execUpdateRatchet_answers {P : Parts} {s0 : State} (p : List (BitVec 8)) {s : State} (hs0 : Frame P s0 s) (h_free : P.free = true) (h_regs : P.regs = true) (h_sys : P.sys = true) (h_dic : P.dic = true) (h_mg : P.mg = true) (h_mb : P.mb = true) (h_le : P.le = true) (h_tw : P.tw = true) :
    Answers P s0 (execUpdateRatchet p s) := by
  unfold execUpdateRatchet
  repeat' first
    | with_reducible assumption
    | (intro sv; refine frame_cut (a := Frame P s0 sv) ?_ ?_; on_goal 2 => dsimp -zeta only [sv]; on_goal 1 => clear_value sv)
    | (intro sv; refine frame_cut (a := Frame P s0 sv.st) ?_ ?_; on_goal 2 => dsimp -zeta only [sv]; on_goal 1 => clear_value sv)
    | (intro sv; clear_value sv)
    | intro _
    | with_reducible apply answers_next
    | with_reducible apply answers_ite
    | lift_lets -underBinder
    | with_reducible apply mailbox_frame
    | with_reducible apply cmdUpdateEnd_frame
    | with_reducible apply frame_ite
    | with_reducible apply frame_foldl
    | with_reducible apply frame_foldr
    | split

theorem execUpdateAbort_answers {P : Parts} {s0 : State} (p : List (BitVec 8)) {s : State} (hs0 : Frame P s0 s) (h_free : P.free = true) (h_regs : P.regs = true) (h_sys : P.sys = true) (h_dic : P.dic = true) (h_mg : P.mg = true) (h_mb : P.mb = true) (h_le : P.le = true) (h_tw : P.tw = true) :
    Answers P s0 (execUpdateAbort p s) := by
  unfold execUpdateAbort
  repeat' first
    | with_reducible assumption
    | (intro sv; refine frame_cut (a := Frame P s0 sv) ?_ ?_; on_goal 2 => dsimp -zeta only [sv]; on_goal 1 => clear_value sv)
    | (intro sv; refine frame_cut (a := Frame P s0 sv.st) ?_ ?_; on_goal 2 => dsimp -zeta only [sv]; on_goal 1 => clear_value sv)
    | (intro sv; clear_value sv)
    | intro _
    | with_reducible apply answers_next
    | with_reducible apply answers_ite
    | lift_lets -underBinder
    | with_reducible apply mailbox_frame
    | with_reducible apply cmdUpdateEnd_frame
    | with_reducible apply frame_ite
    | with_reducible apply frame_foldl
    | with_reducible apply frame_foldr
    | split

theorem execUpdateProgramDone_answers {P : Parts} {s0 : State} (ok : Bool) {s : State} (hs0 : Frame P s0 s) (h_mg : P.mg = true) (h_mb : P.mb = true) (h_tw : P.tw = true) :
    Answers P s0 (execUpdateProgramDone ok s) := by
  unfold execUpdateProgramDone
  repeat' first
    | with_reducible assumption
    | (intro sv; refine frame_cut (a := Frame P s0 sv) ?_ ?_; on_goal 2 => dsimp -zeta only [sv]; on_goal 1 => clear_value sv)
    | (intro sv; clear_value sv)
    | intro _
    | with_reducible apply answers_next
    | with_reducible apply answers_ite
    | lift_lets -underBinder
    | with_reducible apply onMg_frame
    | with_reducible apply journalStep_frame
    | with_reducible apply onUpdate_frame
    | with_reducible apply updateFailed_frame
    | with_reducible apply frame_ite
    | with_reducible apply frame_foldl
    | with_reducible apply frame_foldr
    | split

theorem execUpdateActivationReset_answers {P : Parts} {s0 : State} {s : State} (hs0 : Frame P s0 s) (h_time : P.time = true) (h_regs : P.regs = true) (h_mem : P.mem = true) (h_sys : P.sys = true) (h_dic : P.dic = true) (h_mg : P.mg = true) (h_mb : P.mb = true) (h_pb : P.pb = true) (h_vq : P.vq = true) (h_le : P.le = true) (h_sv : P.sv = true) (h_pf : P.pf = true) (h_sn : P.sn = true) (h_tr : P.tr = true) (h_fb : P.fb = true) (h_tw : P.tw = true) (h_ca : P.ca = true) :
    Answers P s0 (execUpdateActivationReset s) := by
  unfold execUpdateActivationReset
  repeat' first
    | with_reducible assumption
    | (intro sv; refine frame_cut (a := Frame P s0 sv) ?_ ?_; on_goal 2 => dsimp -zeta only [sv]; on_goal 1 => clear_value sv)
    | (intro sv; clear_value sv)
    | intro _
    | with_reducible apply answers_next
    | with_reducible apply answers_ite
    | lift_lets -underBinder
    | with_reducible apply restart_frame
    | with_reducible apply journalStep_frame
    | with_reducible apply onMg_frame
    | with_reducible apply frame_ite
    | with_reducible apply frame_foldl
    | with_reducible apply frame_foldr
    | split

theorem execMgMessagePost_answers {P : Parts} {s0 : State} (wptr : BitVec 12) {s : State} (hs0 : Frame P s0 s) (h_regs : P.regs = true) (h_mg : P.mg = true) :
    Answers P s0 (execMgMessagePost wptr s) := by
  unfold execMgMessagePost
  repeat' first
    | with_reducible assumption
    | (intro sv; refine frame_cut (a := Frame P s0 sv) ?_ ?_; on_goal 2 => dsimp -zeta only [sv]; on_goal 1 => clear_value sv)
    | (intro sv; clear_value sv)
    | intro _
    | with_reducible apply answers_next
    | with_reducible apply answers_ite
    | lift_lets -underBinder
    | with_reducible apply wr_frame
    | with_reducible apply onMg_frame
    | with_reducible apply frame_ite
    | with_reducible apply frame_foldl
    | with_reducible apply frame_foldr
    | split

theorem putRing_frame {P : Parts} {s0 : State} {s : State} (a : ℕ) (x2 : List ℕ) (hs0 : Frame P s0 s) (h_regs : P.regs = true) :
    Frame P s0 (State.putRing s a x2) := by
  induction x2 generalizing s a with
  | nil => rw [State.putRing]; assumption
  | cons b l ih =>
    rw [State.putRing]
    repeat' first
      | with_reducible assumption
      | (intro sv; refine frame_cut (a := Frame P s0 sv) ?_ ?_; on_goal 2 => dsimp -zeta only [sv]; on_goal 1 => clear_value sv)
      | (intro sv; clear_value sv)
      | intro _
      | lift_lets -underBinder
      | with_reducible apply ih
      | with_reducible apply wr_frame
      | with_reducible apply frame_ite
      | with_reducible apply frame_foldl
      | with_reducible apply frame_foldr
      | split

theorem execMgAnswer_answers {P : Parts} {s0 : State} (words : List (BitVec 32)) {s : State} (hs0 : Frame P s0 s) (h_regs : P.regs = true) (h_dic : P.dic = true) (h_le : P.le = true) :
    Answers P s0 (execMgAnswer words s) := by
  unfold execMgAnswer
  repeat' first
    | with_reducible assumption
    | (intro sv; refine frame_cut (a := Frame P s0 sv) ?_ ?_; on_goal 2 => dsimp -zeta only [sv]; on_goal 1 => clear_value sv)
    | (intro sv; clear_value sv)
    | intro _
    | with_reducible apply answers_next
    | with_reducible apply answers_ite
    | lift_lets -underBinder
    | with_reducible apply wr_frame
    | with_reducible apply putRing_frame
    | with_reducible apply post_frame
    | with_reducible apply putBit_frame
    | with_reducible apply frame_ite
    | with_reducible apply frame_foldl
    | with_reducible apply frame_foldr
    | split

end Sys2Proof.Machine
end

