-- ==== Sys2Proof/Laws/LoopLawFrame.lean ====
section
/-! SUPPORT. What the operations of Machine/LoopLaw.lean may touch, and that they keep the memories canonical. -/

namespace Sys2Proof.Machine

theorem setAct_frame {P : Parts} {s0 : State} {s : State} (a : ℕ) (w : Word) (hs0 : Frame P s0 s) (h_le : P.le = true) :
    Frame P s0 (State.setAct s a w) := by
  unfold State.setAct
  repeat' first
    | with_reducible assumption
    | (intro sv; refine frame_cut (a := Frame P s0 sv) ?_ ?_; on_goal 2 => dsimp -zeta only [sv]; on_goal 1 => clear_value sv)
    | (intro sv; clear_value sv)
    | intro _
    | lift_lets -underBinder
    | with_reducible apply onLe_frame
    | with_reducible apply frame_ite
    | with_reducible apply frame_foldl
    | with_reducible apply frame_foldr
    | split

theorem copyParams_frame {P : Parts} {s0 : State} {s : State} (k : ℕ) (hs0 : Frame P s0 s) (h_regs : P.regs = true) (h_le : P.le = true) :
    Frame P s0 (State.copyParams s k) := by
  unfold State.copyParams
  repeat' first
    | with_reducible assumption
    | (intro sv; refine frame_cut (a := Frame P s0 sv) ?_ ?_; on_goal 2 => dsimp -zeta only [sv]; on_goal 1 => clear_value sv)
    | (intro sv; clear_value sv)
    | intro _
    | lift_lets -underBinder
    | with_reducible apply putBit_frame
    | with_reducible apply setAct_frame
    | with_reducible apply frame_ite
    | with_reducible apply frame_foldl
    | with_reducible apply frame_foldr
    | split

theorem rcWrite_frame {P : Parts} {s0 : State} {s : State} (k : ℕ) (ef : F32) (hs0 : Frame P s0 s) (h_regs : P.regs = true) (h_le : P.le = true) :
    Frame P s0 (State.rcWrite s k ef) := by
  unfold State.rcWrite
  repeat' first
    | with_reducible assumption
    | (intro sv; refine frame_cut (a := Frame P s0 sv) ?_ ?_; on_goal 2 => dsimp -zeta only [sv]; on_goal 1 => clear_value sv)
    | (intro sv; clear_value sv)
    | intro _
    | lift_lets -underBinder
    | with_reducible apply setSlot_frame
    | with_reducible apply wr_frame
    | with_reducible apply onLe_frame
    | with_reducible apply putBit_frame
    | with_reducible apply frame_ite
    | with_reducible apply frame_foldl
    | with_reducible apply frame_foldr
    | split

end Sys2Proof.Machine
end

