-- ==== Sys2Proof/Laws/SettingsFrame.lean ====
section
/-! SUPPORT. What the operations of Machine/Settings.lean may touch, and that they keep the memories canonical. -/

namespace Sys2Proof.Machine

theorem withTargets_frame {P : Parts} {s0 : State} {s : State} (l : List (ℕ × ℕ × ℕ)) (hs0 : Frame P s0 s) (h_regs : P.regs = true) :
    Frame P s0 (State.withTargets s l) := by
  unfold State.withTargets
  repeat' first
    | with_reducible assumption
    | (intro sv; refine frame_cut (a := Frame P s0 sv) ?_ ?_; on_goal 2 => dsimp -zeta only [sv]; on_goal 1 => clear_value sv)
    | (intro sv; clear_value sv)
    | intro _
    | lift_lets -underBinder
    | with_reducible apply wr_frame
    | with_reducible apply frame_ite
    | with_reducible apply frame_foldl
    | with_reducible apply frame_foldr
    | split

theorem merged_frame {P : Parts} {s0 : State} {s : State} (l : List (ℕ × ℕ × ℕ)) (hs0 : Frame P s0 s) (h_regs : P.regs = true) (h_mb : P.mb = true) (h_pb : P.pb = true) (h_le : P.le = true) (h_pf : P.pf = true) (h_fb : P.fb = true) :
    Frame P s0 (State.merged s l) := by
  unfold State.merged
  repeat' first
    | with_reducible assumption
    | (intro sv; refine frame_cut (a := Frame P s0 sv) ?_ ?_; on_goal 2 => dsimp -zeta only [sv]; on_goal 1 => clear_value sv)
    | (intro sv; clear_value sv)
    | intro _
    | lift_lets -underBinder
    | with_reducible apply cfgPut_frame
    | with_reducible apply frame_ite
    | with_reducible apply frame_foldl
    | with_reducible apply frame_foldr
    | split

theorem stage_frame {P : Parts} {s0 : State} {s : State} (l : List (ℕ × ℕ × ℕ)) (hs0 : Frame P s0 s) (h_sys : P.sys = true) (h_mg : P.mg = true) (h_mb : P.mb = true) :
    Frame P s0 (State.stage s l) := by
  unfold State.stage
  repeat' first
    | with_reducible assumption
    | (intro sv; refine frame_cut (a := Frame P s0 sv) ?_ ?_; on_goal 2 => dsimp -zeta only [sv]; on_goal 1 => clear_value sv)
    | (intro sv; clear_value sv)
    | intro _
    | lift_lets -underBinder
    | with_reducible apply onMb_frame
    | with_reducible apply onSys_frame
    | with_reducible apply onMg_frame
    | with_reducible apply frame_ite
    | with_reducible apply frame_foldl
    | with_reducible apply frame_foldr
    | split

theorem configWriteBody_frame {P : Parts} {s0 : State} {s : State} (p : List Byte) (hs0 : Frame P s0 s) (h_sys : P.sys = true) (h_mg : P.mg = true) (h_mb : P.mb = true) :
    Frame P s0 (configWriteBody s p).st := by
  unfold configWriteBody
  repeat' first
    | with_reducible assumption
    | (intro sv; refine frame_cut (a := Frame P s0 sv) ?_ ?_; on_goal 2 => dsimp -zeta only [sv]; on_goal 1 => clear_value sv)
    | (intro sv; clear_value sv)
    | intro _
    | lift_lets -underBinder
    | with_reducible apply refuse_frame
    | with_reducible apply stage_frame
    | with_reducible apply frame_ite
    | with_reducible apply frame_foldl
    | with_reducible apply frame_foldr
    | split

theorem cmdConfigWrite_frame {P : Parts} {s0 : State} {s : State} (p : List Byte) (hs0 : Frame P s0 s) (h_sys : P.sys = true) (h_mg : P.mg = true) (h_mb : P.mb = true) :
    Frame P s0 (cmdConfigWrite.body s p).st := by
  dsimp -zeta only [cmdConfigWrite]
  repeat' first
    | with_reducible assumption
    | (intro sv; refine frame_cut (a := Frame P s0 sv) ?_ ?_; on_goal 2 => dsimp -zeta only [sv]; on_goal 1 => clear_value sv)
    | (intro sv; refine frame_cut (a := Frame P s0 sv.st) ?_ ?_; on_goal 2 => dsimp -zeta only [sv]; on_goal 1 => clear_value sv)
    | (intro sv; clear_value sv)
    | intro _
    | lift_lets -underBinder
    | with_reducible apply configWriteBody_frame
    | with_reducible apply frame_ite
    | with_reducible apply frame_foldl
    | with_reducible apply frame_foldr
    | split

theorem execConfigWrite_answers {P : Parts} {s0 : State} (p : List (BitVec 8)) {s : State} (hs0 : Frame P s0 s) (h_regs : P.regs = true) (h_sys : P.sys = true) (h_dic : P.dic = true) (h_mg : P.mg = true) (h_mb : P.mb = true) (h_le : P.le = true) (h_tw : P.tw = true) :
    Answers P s0 (execConfigWrite p s) := by
  unfold execConfigWrite
  repeat' first
    | with_reducible assumption
    | (intro sv; refine frame_cut (a := Frame P s0 sv) ?_ ?_; on_goal 2 => dsimp -zeta only [sv]; on_goal 1 => clear_value sv)
    | (intro sv; refine frame_cut (a := Frame P s0 sv.st) ?_ ?_; on_goal 2 => dsimp -zeta only [sv]; on_goal 1 => clear_value sv)
    | (intro sv; clear_value sv)
    | intro _
    | with_reducible apply answers_next
    | with_reducible apply answers_ite
    | lift_lets -underBinder
    | with_reducible apply mailbox_frame
    | with_reducible apply cmdConfigWrite_frame
    | with_reducible apply frame_ite
    | with_reducible apply frame_foldl
    | with_reducible apply frame_foldr
    | split

theorem applyStaged_frame {P : Parts} {s0 : State} {s : State} (hs0 : Frame P s0 s) (h_regs : P.regs = true) (h_mg : P.mg = true) (h_mb : P.mb = true) (h_pb : P.pb = true) (h_le : P.le = true) (h_pf : P.pf = true) (h_fb : P.fb = true) :
    Frame P s0 (State.applyStaged s) := by
  unfold State.applyStaged
  repeat' first
    | with_reducible assumption
    | (intro sv; refine frame_cut (a := Frame P s0 sv) ?_ ?_; on_goal 2 => dsimp -zeta only [sv]; on_goal 1 => clear_value sv)
    | (intro sv; clear_value sv)
    | intro _
    | lift_lets -underBinder
    | with_reducible apply cfgPut_frame
    | with_reducible apply onMb_frame
    | with_reducible apply mirrorFeed_frame
    | with_reducible apply pairMarked_frame
    | with_reducible apply frame_ite
    | with_reducible apply frame_foldl
    | with_reducible apply frame_foldr
    | split

theorem loopSetBody_frame {P : Parts} {s0 : State} {s : State} (p : List Byte) (hs0 : Frame P s0 s) (h_regs : P.regs = true) (h_mg : P.mg = true) (h_pb : P.pb = true) (h_le : P.le = true) (h_pf : P.pf = true) :
    Frame P s0 (loopSetBody s p).st := by
  unfold loopSetBody
  repeat' first
    | with_reducible assumption
    | (intro sv; refine frame_cut (a := Frame P s0 sv) ?_ ?_; on_goal 2 => dsimp -zeta only [sv]; on_goal 1 => clear_value sv)
    | (intro sv; clear_value sv)
    | intro _
    | lift_lets -underBinder
    | with_reducible apply refuse_frame
    | with_reducible apply loopPut_frame
    | with_reducible apply putBit_frame
    | with_reducible apply onMg_frame
    | with_reducible apply frame_ite
    | with_reducible apply frame_foldl
    | with_reducible apply frame_foldr
    | split

theorem cmdLoopSet_frame {P : Parts} {s0 : State} {s : State} (p : List Byte) (hs0 : Frame P s0 s) (h_regs : P.regs = true) (h_mg : P.mg = true) (h_pb : P.pb = true) (h_le : P.le = true) (h_pf : P.pf = true) :
    Frame P s0 (cmdLoopSet.body s p).st := by
  dsimp -zeta only [cmdLoopSet]
  repeat' first
    | with_reducible assumption
    | (intro sv; refine frame_cut (a := Frame P s0 sv) ?_ ?_; on_goal 2 => dsimp -zeta only [sv]; on_goal 1 => clear_value sv)
    | (intro sv; refine frame_cut (a := Frame P s0 sv.st) ?_ ?_; on_goal 2 => dsimp -zeta only [sv]; on_goal 1 => clear_value sv)
    | (intro sv; clear_value sv)
    | intro _
    | lift_lets -underBinder
    | with_reducible apply loopSetBody_frame
    | with_reducible apply frame_ite
    | with_reducible apply frame_foldl
    | with_reducible apply frame_foldr
    | split

theorem execLoopSet_answers {P : Parts} {s0 : State} (p : List (BitVec 8)) {s : State} (hs0 : Frame P s0 s) (h_regs : P.regs = true) (h_sys : P.sys = true) (h_dic : P.dic = true) (h_mg : P.mg = true) (h_mb : P.mb = true) (h_pb : P.pb = true) (h_le : P.le = true) (h_pf : P.pf = true) (h_tw : P.tw = true) :
    Answers P s0 (execLoopSet p s) := by
  unfold execLoopSet
  repeat' first
    | with_reducible assumption
    | (intro sv; refine frame_cut (a := Frame P s0 sv) ?_ ?_; on_goal 2 => dsimp -zeta only [sv]; on_goal 1 => clear_value sv)
    | (intro sv; refine frame_cut (a := Frame P s0 sv.st) ?_ ?_; on_goal 2 => dsimp -zeta only [sv]; on_goal 1 => clear_value sv)
    | (intro sv; clear_value sv)
    | intro _
    | with_reducible apply answers_next
    | with_reducible apply answers_ite
    | lift_lets -underBinder
    | with_reducible apply mailbox_frame
    | with_reducible apply cmdLoopSet_frame
    | with_reducible apply frame_ite
    | with_reducible apply frame_foldl
    | with_reducible apply frame_foldr
    | split

theorem tableWriteBody_frame {P : Parts} {s0 : State} {s : State} (p : List Byte) (hs0 : Frame P s0 s) (h_regs : P.regs = true) (h_le : P.le = true) :
    Frame P s0 (tableWriteBody s p).st := by
  unfold tableWriteBody
  repeat' first
    | with_reducible assumption
    | (intro sv; refine frame_cut (a := Frame P s0 sv) ?_ ?_; on_goal 2 => dsimp -zeta only [sv]; on_goal 1 => clear_value sv)
    | (intro sv; clear_value sv)
    | intro _
    | lift_lets -underBinder
    | with_reducible apply refuse_frame
    | with_reducible apply onLe_frame
    | with_reducible apply wrf_frame
    | with_reducible apply frame_ite
    | with_reducible apply frame_foldl
    | with_reducible apply frame_foldr
    | split

theorem cmdTableWrite_frame {P : Parts} {s0 : State} {s : State} (p : List Byte) (hs0 : Frame P s0 s) (h_regs : P.regs = true) (h_le : P.le = true) :
    Frame P s0 (cmdTableWrite.body s p).st := by
  dsimp -zeta only [cmdTableWrite]
  repeat' first
    | with_reducible assumption
    | (intro sv; refine frame_cut (a := Frame P s0 sv) ?_ ?_; on_goal 2 => dsimp -zeta only [sv]; on_goal 1 => clear_value sv)
    | (intro sv; refine frame_cut (a := Frame P s0 sv.st) ?_ ?_; on_goal 2 => dsimp -zeta only [sv]; on_goal 1 => clear_value sv)
    | (intro sv; clear_value sv)
    | intro _
    | lift_lets -underBinder
    | with_reducible apply tableWriteBody_frame
    | with_reducible apply frame_ite
    | with_reducible apply frame_foldl
    | with_reducible apply frame_foldr
    | split

theorem execTableWrite_answers {P : Parts} {s0 : State} (p : List (BitVec 8)) {s : State} (hs0 : Frame P s0 s) (h_regs : P.regs = true) (h_sys : P.sys = true) (h_dic : P.dic = true) (h_mb : P.mb = true) (h_le : P.le = true) (h_tw : P.tw = true) :
    Answers P s0 (execTableWrite p s) := by
  unfold execTableWrite
  repeat' first
    | with_reducible assumption
    | (intro sv; refine frame_cut (a := Frame P s0 sv) ?_ ?_; on_goal 2 => dsimp -zeta only [sv]; on_goal 1 => clear_value sv)
    | (intro sv; refine frame_cut (a := Frame P s0 sv.st) ?_ ?_; on_goal 2 => dsimp -zeta only [sv]; on_goal 1 => clear_value sv)
    | (intro sv; clear_value sv)
    | intro _
    | with_reducible apply answers_next
    | with_reducible apply answers_ite
    | lift_lets -underBinder
    | with_reducible apply mailbox_frame
    | with_reducible apply cmdTableWrite_frame
    | with_reducible apply frame_ite
    | with_reducible apply frame_foldl
    | with_reducible apply frame_foldr
    | split

theorem injectStartBody_frame {P : Parts} {s0 : State} {s : State} (p : List Byte) (hs0 : Frame P s0 s) (h_regs : P.regs = true) (h_le : P.le = true) :
    Frame P s0 (injectStartBody s p).st := by
  unfold injectStartBody
  repeat' first
    | with_reducible assumption
    | (intro sv; refine frame_cut (a := Frame P s0 sv) ?_ ?_; on_goal 2 => dsimp -zeta only [sv]; on_goal 1 => clear_value sv)
    | (intro sv; clear_value sv)
    | intro _
    | lift_lets -underBinder
    | with_reducible apply refuse_frame
    | with_reducible apply wrf_frame
    | with_reducible apply wr_frame
    | with_reducible apply wr64_frame
    | with_reducible apply injArm_frame
    | with_reducible apply frame_ite
    | with_reducible apply frame_foldl
    | with_reducible apply frame_foldr
    | split

theorem cmdInjectStart_frame {P : Parts} {s0 : State} {s : State} (p : List Byte) (hs0 : Frame P s0 s) (h_regs : P.regs = true) (h_le : P.le = true) :
    Frame P s0 (cmdInjectStart.body s p).st := by
  dsimp -zeta only [cmdInjectStart]
  repeat' first
    | with_reducible assumption
    | (intro sv; refine frame_cut (a := Frame P s0 sv) ?_ ?_; on_goal 2 => dsimp -zeta only [sv]; on_goal 1 => clear_value sv)
    | (intro sv; refine frame_cut (a := Frame P s0 sv.st) ?_ ?_; on_goal 2 => dsimp -zeta only [sv]; on_goal 1 => clear_value sv)
    | (intro sv; clear_value sv)
    | intro _
    | lift_lets -underBinder
    | with_reducible apply injectStartBody_frame
    | with_reducible apply frame_ite
    | with_reducible apply frame_foldl
    | with_reducible apply frame_foldr
    | split

theorem execInjectStart_answers {P : Parts} {s0 : State} (p : List (BitVec 8)) {s : State} (hs0 : Frame P s0 s) (h_regs : P.regs = true) (h_sys : P.sys = true) (h_dic : P.dic = true) (h_mb : P.mb = true) (h_le : P.le = true) (h_tw : P.tw = true) :
    Answers P s0 (execInjectStart p s) := by
  unfold execInjectStart
  repeat' first
    | with_reducible assumption
    | (intro sv; refine frame_cut (a := Frame P s0 sv) ?_ ?_; on_goal 2 => dsimp -zeta only [sv]; on_goal 1 => clear_value sv)
    | (intro sv; refine frame_cut (a := Frame P s0 sv.st) ?_ ?_; on_goal 2 => dsimp -zeta only [sv]; on_goal 1 => clear_value sv)
    | (intro sv; clear_value sv)
    | intro _
    | with_reducible apply answers_next
    | with_reducible apply answers_ite
    | lift_lets -underBinder
    | with_reducible apply mailbox_frame
    | with_reducible apply cmdInjectStart_frame
    | with_reducible apply frame_ite
    | with_reducible apply frame_foldl
    | with_reducible apply frame_foldr
    | split

theorem bobSet_frame {P : Parts} {s0 : State} {s : State} (f : RF) (v : ℕ) (hs0 : Frame P s0 s) (h_regs : P.regs = true) :
    Frame P s0 (State.bobSet s f v) := by
  unfold State.bobSet
  repeat' first
    | with_reducible assumption
    | (intro sv; refine frame_cut (a := Frame P s0 sv) ?_ ?_; on_goal 2 => dsimp -zeta only [sv]; on_goal 1 => clear_value sv)
    | (intro sv; clear_value sv)
    | intro _
    | lift_lets -underBinder
    | with_reducible apply wr_frame
    | with_reducible apply frame_ite
    | with_reducible apply frame_foldl
    | with_reducible apply frame_foldr
    | split

theorem bobbinArmBody_frame {P : Parts} {s0 : State} {s : State} (p : List Byte) (hs0 : Frame P s0 s) (h_regs : P.regs = true) (h_le : P.le = true) :
    Frame P s0 (bobbinArmBody s p).st := by
  unfold bobbinArmBody
  repeat' first
    | with_reducible assumption
    | (intro sv; refine frame_cut (a := Frame P s0 sv) ?_ ?_; on_goal 2 => dsimp -zeta only [sv]; on_goal 1 => clear_value sv)
    | (intro sv; clear_value sv)
    | intro _
    | lift_lets -underBinder
    | with_reducible apply refuse_frame
    | with_reducible apply wr_frame
    | with_reducible apply bobSet_frame
    | with_reducible apply bobArm_frame
    | with_reducible apply frame_ite
    | with_reducible apply frame_foldl
    | with_reducible apply frame_foldr
    | split

theorem cmdBobbinArm_frame {P : Parts} {s0 : State} {s : State} (p : List Byte) (hs0 : Frame P s0 s) (h_regs : P.regs = true) (h_le : P.le = true) :
    Frame P s0 (cmdBobbinArm.body s p).st := by
  dsimp -zeta only [cmdBobbinArm]
  repeat' first
    | with_reducible assumption
    | (intro sv; refine frame_cut (a := Frame P s0 sv) ?_ ?_; on_goal 2 => dsimp -zeta only [sv]; on_goal 1 => clear_value sv)
    | (intro sv; refine frame_cut (a := Frame P s0 sv.st) ?_ ?_; on_goal 2 => dsimp -zeta only [sv]; on_goal 1 => clear_value sv)
    | (intro sv; clear_value sv)
    | intro _
    | lift_lets -underBinder
    | with_reducible apply bobbinArmBody_frame
    | with_reducible apply frame_ite
    | with_reducible apply frame_foldl
    | with_reducible apply frame_foldr
    | split

theorem execBobbinArm_answers {P : Parts} {s0 : State} (p : List (BitVec 8)) {s : State} (hs0 : Frame P s0 s) (h_regs : P.regs = true) (h_sys : P.sys = true) (h_dic : P.dic = true) (h_mb : P.mb = true) (h_le : P.le = true) (h_tw : P.tw = true) :
    Answers P s0 (execBobbinArm p s) := by
  unfold execBobbinArm
  repeat' first
    | with_reducible assumption
    | (intro sv; refine frame_cut (a := Frame P s0 sv) ?_ ?_; on_goal 2 => dsimp -zeta only [sv]; on_goal 1 => clear_value sv)
    | (intro sv; refine frame_cut (a := Frame P s0 sv.st) ?_ ?_; on_goal 2 => dsimp -zeta only [sv]; on_goal 1 => clear_value sv)
    | (intro sv; clear_value sv)
    | intro _
    | with_reducible apply answers_next
    | with_reducible apply answers_ite
    | lift_lets -underBinder
    | with_reducible apply mailbox_frame
    | with_reducible apply cmdBobbinArm_frame
    | with_reducible apply frame_ite
    | with_reducible apply frame_foldl
    | with_reducible apply frame_foldr
    | split

theorem pumpSetBody_frame {P : Parts} {s0 : State} {s : State} (p : List Byte) (hs0 : Frame P s0 s) (h_regs : P.regs = true) (h_sys : P.sys = true) (h_pf : P.pf = true) (h_fb : P.fb = true) :
    Frame P s0 (pumpSetBody s p).st := by
  unfold pumpSetBody
  repeat' first
    | with_reducible assumption
    | (intro sv; refine frame_cut (a := Frame P s0 sv) ?_ ?_; on_goal 2 => dsimp -zeta only [sv]; on_goal 1 => clear_value sv)
    | (intro sv; clear_value sv)
    | intro _
    | lift_lets -underBinder
    | with_reducible apply refuse_frame
    | with_reducible apply disable_frame
    | with_reducible apply reenable_frame
    | with_reducible apply onSys_frame
    | with_reducible apply setSpeed_frame
    | with_reducible apply frame_ite
    | with_reducible apply frame_foldl
    | with_reducible apply frame_foldr
    | split

theorem cmdPumpSet_frame {P : Parts} {s0 : State} {s : State} (p : List Byte) (hs0 : Frame P s0 s) (h_regs : P.regs = true) (h_sys : P.sys = true) (h_pf : P.pf = true) (h_fb : P.fb = true) :
    Frame P s0 (cmdPumpSet.body s p).st := by
  dsimp -zeta only [cmdPumpSet]
  repeat' first
    | with_reducible assumption
    | (intro sv; refine frame_cut (a := Frame P s0 sv) ?_ ?_; on_goal 2 => dsimp -zeta only [sv]; on_goal 1 => clear_value sv)
    | (intro sv; refine frame_cut (a := Frame P s0 sv.st) ?_ ?_; on_goal 2 => dsimp -zeta only [sv]; on_goal 1 => clear_value sv)
    | (intro sv; clear_value sv)
    | intro _
    | lift_lets -underBinder
    | with_reducible apply pumpSetBody_frame
    | with_reducible apply frame_ite
    | with_reducible apply frame_foldl
    | with_reducible apply frame_foldr
    | split

theorem execPumpDisable_answers {P : Parts} {s0 : State} (p : List (BitVec 8)) {s : State} (hs0 : Frame P s0 s) (h_regs : P.regs = true) (h_sys : P.sys = true) (h_dic : P.dic = true) (h_mb : P.mb = true) (h_le : P.le = true) (h_pf : P.pf = true) (h_fb : P.fb = true) (h_tw : P.tw = true) :
    Answers P s0 (execPumpDisable p s) := by
  unfold execPumpDisable
  repeat' first
    | with_reducible assumption
    | (intro sv; refine frame_cut (a := Frame P s0 sv) ?_ ?_; on_goal 2 => dsimp -zeta only [sv]; on_goal 1 => clear_value sv)
    | (intro sv; refine frame_cut (a := Frame P s0 sv.st) ?_ ?_; on_goal 2 => dsimp -zeta only [sv]; on_goal 1 => clear_value sv)
    | (intro sv; clear_value sv)
    | intro _
    | with_reducible apply answers_next
    | with_reducible apply answers_ite
    | lift_lets -underBinder
    | with_reducible apply mailbox_frame
    | with_reducible apply cmdPumpSet_frame
    | with_reducible apply frame_ite
    | with_reducible apply frame_foldl
    | with_reducible apply frame_foldr
    | split

theorem execPumpEnable_answers {P : Parts} {s0 : State} (p : List (BitVec 8)) {s : State} (hs0 : Frame P s0 s) (h_regs : P.regs = true) (h_sys : P.sys = true) (h_dic : P.dic = true) (h_mb : P.mb = true) (h_le : P.le = true) (h_pf : P.pf = true) (h_fb : P.fb = true) (h_tw : P.tw = true) :
    Answers P s0 (execPumpEnable p s) := by
  unfold execPumpEnable
  repeat' first
    | with_reducible assumption
    | (intro sv; refine frame_cut (a := Frame P s0 sv) ?_ ?_; on_goal 2 => dsimp -zeta only [sv]; on_goal 1 => clear_value sv)
    | (intro sv; refine frame_cut (a := Frame P s0 sv.st) ?_ ?_; on_goal 2 => dsimp -zeta only [sv]; on_goal 1 => clear_value sv)
    | (intro sv; clear_value sv)
    | intro _
    | with_reducible apply answers_next
    | with_reducible apply answers_ite
    | lift_lets -underBinder
    | with_reducible apply mailbox_frame
    | with_reducible apply cmdPumpSet_frame
    | with_reducible apply frame_ite
    | with_reducible apply frame_foldl
    | with_reducible apply frame_foldr
    | split

theorem execPumpSetSpeed_answers {P : Parts} {s0 : State} (p : List (BitVec 8)) {s : State} (hs0 : Frame P s0 s) (h_regs : P.regs = true) (h_sys : P.sys = true) (h_dic : P.dic = true) (h_mb : P.mb = true) (h_le : P.le = true) (h_pf : P.pf = true) (h_fb : P.fb = true) (h_tw : P.tw = true) :
    Answers P s0 (execPumpSetSpeed p s) := by
  unfold execPumpSetSpeed
  repeat' first
    | with_reducible assumption
    | (intro sv; refine frame_cut (a := Frame P s0 sv) ?_ ?_; on_goal 2 => dsimp -zeta only [sv]; on_goal 1 => clear_value sv)
    | (intro sv; refine frame_cut (a := Frame P s0 sv.st) ?_ ?_; on_goal 2 => dsimp -zeta only [sv]; on_goal 1 => clear_value sv)
    | (intro sv; clear_value sv)
    | intro _
    | with_reducible apply answers_next
    | with_reducible apply answers_ite
    | lift_lets -underBinder
    | with_reducible apply mailbox_frame
    | with_reducible apply cmdPumpSet_frame
    | with_reducible apply frame_ite
    | with_reducible apply frame_foldl
    | with_reducible apply frame_foldr
    | split

theorem valveSequenceBody_frame {P : Parts} {s0 : State} {s : State} (p : List Byte) (hs0 : Frame P s0 s) (h_mb : P.mb = true) (h_sv : P.sv = true) (h_tw : P.tw = true) :
    Frame P s0 (valveSequenceBody s p).st := by
  unfold valveSequenceBody
  repeat' first
    | with_reducible assumption
    | (intro sv; refine frame_cut (a := Frame P s0 sv) ?_ ?_; on_goal 2 => dsimp -zeta only [sv]; on_goal 1 => clear_value sv)
    | (intro sv; clear_value sv)
    | intro _
    | lift_lets -underBinder
    | with_reducible apply refuse_frame
    | with_reducible apply openJournal_frame
    | with_reducible apply onSv_frame
    | with_reducible apply frame_ite
    | with_reducible apply frame_foldl
    | with_reducible apply frame_foldr
    | split

theorem cmdValveSequence_frame {P : Parts} {s0 : State} {s : State} (p : List Byte) (hs0 : Frame P s0 s) (h_mb : P.mb = true) (h_sv : P.sv = true) (h_tw : P.tw = true) :
    Frame P s0 (cmdValveSequence.body s p).st := by
  dsimp -zeta only [cmdValveSequence]
  repeat' first
    | with_reducible assumption
    | (intro sv; refine frame_cut (a := Frame P s0 sv) ?_ ?_; on_goal 2 => dsimp -zeta only [sv]; on_goal 1 => clear_value sv)
    | (intro sv; refine frame_cut (a := Frame P s0 sv.st) ?_ ?_; on_goal 2 => dsimp -zeta only [sv]; on_goal 1 => clear_value sv)
    | (intro sv; clear_value sv)
    | intro _
    | lift_lets -underBinder
    | with_reducible apply valveSequenceBody_frame
    | with_reducible apply frame_ite
    | with_reducible apply frame_foldl
    | with_reducible apply frame_foldr
    | split

theorem execValveSequence_answers {P : Parts} {s0 : State} (p : List (BitVec 8)) {s : State} (hs0 : Frame P s0 s) (h_regs : P.regs = true) (h_sys : P.sys = true) (h_dic : P.dic = true) (h_mb : P.mb = true) (h_le : P.le = true) (h_sv : P.sv = true) (h_tw : P.tw = true) :
    Answers P s0 (execValveSequence p s) := by
  unfold execValveSequence
  repeat' first
    | with_reducible assumption
    | (intro sv; refine frame_cut (a := Frame P s0 sv) ?_ ?_; on_goal 2 => dsimp -zeta only [sv]; on_goal 1 => clear_value sv)
    | (intro sv; refine frame_cut (a := Frame P s0 sv.st) ?_ ?_; on_goal 2 => dsimp -zeta only [sv]; on_goal 1 => clear_value sv)
    | (intro sv; clear_value sv)
    | intro _
    | with_reducible apply answers_next
    | with_reducible apply answers_ite
    | lift_lets -underBinder
    | with_reducible apply mailbox_frame
    | with_reducible apply cmdValveSequence_frame
    | with_reducible apply frame_ite
    | with_reducible apply frame_foldl
    | with_reducible apply frame_foldr
    | split

theorem clearSuspect_frame {P : Parts} {s0 : State} {s : State} (r : ℕ) (hs0 : Frame P s0 s) (h_regs : P.regs = true) (h_mg : P.mg = true) (h_pf : P.pf = true) :
    Frame P s0 (State.clearSuspect s r) := by
  unfold State.clearSuspect
  repeat' first
    | with_reducible assumption
    | (intro sv; refine frame_cut (a := Frame P s0 sv) ?_ ?_; on_goal 2 => dsimp -zeta only [sv]; on_goal 1 => clear_value sv)
    | (intro sv; clear_value sv)
    | intro _
    | lift_lets -underBinder
    | with_reducible apply markSuspect_frame
    | with_reducible apply calSave_frame
    | with_reducible apply setCal_frame
    | with_reducible apply frame_ite
    | with_reducible apply frame_foldl
    | with_reducible apply frame_foldr
    | split

theorem calibrationControlBody_frame {P : Parts} {s0 : State} {s : State} (p : List Byte) (hs0 : Frame P s0 s) (h_regs : P.regs = true) (h_mg : P.mg = true) (h_pf : P.pf = true) :
    Frame P s0 (calibrationControlBody s p).st := by
  unfold calibrationControlBody
  repeat' first
    | with_reducible assumption
    | (intro sv; refine frame_cut (a := Frame P s0 sv) ?_ ?_; on_goal 2 => dsimp -zeta only [sv]; on_goal 1 => clear_value sv)
    | (intro sv; clear_value sv)
    | intro _
    | lift_lets -underBinder
    | with_reducible apply refuse_frame
    | with_reducible apply calSave_frame
    | with_reducible apply setCal_frame
    | with_reducible apply clearSuspect_frame
    | with_reducible apply frame_ite
    | with_reducible apply frame_foldl
    | with_reducible apply frame_foldr
    | split

theorem cmdCalibrationControl_frame {P : Parts} {s0 : State} {s : State} (p : List Byte) (hs0 : Frame P s0 s) (h_regs : P.regs = true) (h_mg : P.mg = true) (h_pf : P.pf = true) :
    Frame P s0 (cmdCalibrationControl.body s p).st := by
  dsimp -zeta only [cmdCalibrationControl]
  repeat' first
    | with_reducible assumption
    | (intro sv; refine frame_cut (a := Frame P s0 sv) ?_ ?_; on_goal 2 => dsimp -zeta only [sv]; on_goal 1 => clear_value sv)
    | (intro sv; refine frame_cut (a := Frame P s0 sv.st) ?_ ?_; on_goal 2 => dsimp -zeta only [sv]; on_goal 1 => clear_value sv)
    | (intro sv; clear_value sv)
    | intro _
    | lift_lets -underBinder
    | with_reducible apply calibrationControlBody_frame
    | with_reducible apply frame_ite
    | with_reducible apply frame_foldl
    | with_reducible apply frame_foldr
    | split

theorem execCalibrationControl_answers {P : Parts} {s0 : State} (p : List (BitVec 8)) {s : State} (hs0 : Frame P s0 s) (h_regs : P.regs = true) (h_sys : P.sys = true) (h_dic : P.dic = true) (h_mg : P.mg = true) (h_mb : P.mb = true) (h_le : P.le = true) (h_pf : P.pf = true) (h_tw : P.tw = true) :
    Answers P s0 (execCalibrationControl p s) := by
  unfold execCalibrationControl
  repeat' first
    | with_reducible assumption
    | (intro sv; refine frame_cut (a := Frame P s0 sv) ?_ ?_; on_goal 2 => dsimp -zeta only [sv]; on_goal 1 => clear_value sv)
    | (intro sv; refine frame_cut (a := Frame P s0 sv.st) ?_ ?_; on_goal 2 => dsimp -zeta only [sv]; on_goal 1 => clear_value sv)
    | (intro sv; clear_value sv)
    | intro _
    | with_reducible apply answers_next
    | with_reducible apply answers_ite
    | lift_lets -underBinder
    | with_reducible apply mailbox_frame
    | with_reducible apply cmdCalibrationControl_frame
    | with_reducible apply frame_ite
    | with_reducible apply frame_foldl
    | with_reducible apply frame_foldr
    | split

theorem modbusEnableBody_frame {P : Parts} {s0 : State} {s : State} (p : List Byte) (hs0 : Frame P s0 s) (h_mg : P.mg = true) :
    Frame P s0 (modbusEnableBody s p).st := by
  unfold modbusEnableBody
  repeat' first
    | with_reducible assumption
    | (intro sv; refine frame_cut (a := Frame P s0 sv) ?_ ?_; on_goal 2 => dsimp -zeta only [sv]; on_goal 1 => clear_value sv)
    | (intro sv; clear_value sv)
    | intro _
    | lift_lets -underBinder
    | with_reducible apply onMg_frame
    | with_reducible apply refuse_frame
    | with_reducible apply frame_ite
    | with_reducible apply frame_foldl
    | with_reducible apply frame_foldr
    | split

theorem cmdModbusEnable_frame {P : Parts} {s0 : State} {s : State} (p : List Byte) (hs0 : Frame P s0 s) (h_mg : P.mg = true) :
    Frame P s0 (cmdModbusEnable.body s p).st := by
  dsimp -zeta only [cmdModbusEnable]
  repeat' first
    | with_reducible assumption
    | (intro sv; refine frame_cut (a := Frame P s0 sv) ?_ ?_; on_goal 2 => dsimp -zeta only [sv]; on_goal 1 => clear_value sv)
    | (intro sv; refine frame_cut (a := Frame P s0 sv.st) ?_ ?_; on_goal 2 => dsimp -zeta only [sv]; on_goal 1 => clear_value sv)
    | (intro sv; clear_value sv)
    | intro _
    | lift_lets -underBinder
    | with_reducible apply modbusEnableBody_frame
    | with_reducible apply frame_ite
    | with_reducible apply frame_foldl
    | with_reducible apply frame_foldr
    | split

theorem execModbusWriteGrant_answers {P : Parts} {s0 : State} (p : List (BitVec 8)) {s : State} (hs0 : Frame P s0 s) (h_regs : P.regs = true) (h_sys : P.sys = true) (h_dic : P.dic = true) (h_mg : P.mg = true) (h_mb : P.mb = true) (h_le : P.le = true) (h_tw : P.tw = true) :
    Answers P s0 (execModbusWriteGrant p s) := by
  unfold execModbusWriteGrant
  repeat' first
    | with_reducible assumption
    | (intro sv; refine frame_cut (a := Frame P s0 sv) ?_ ?_; on_goal 2 => dsimp -zeta only [sv]; on_goal 1 => clear_value sv)
    | (intro sv; refine frame_cut (a := Frame P s0 sv.st) ?_ ?_; on_goal 2 => dsimp -zeta only [sv]; on_goal 1 => clear_value sv)
    | (intro sv; clear_value sv)
    | intro _
    | with_reducible apply answers_next
    | with_reducible apply answers_ite
    | lift_lets -underBinder
    | with_reducible apply mailbox_frame
    | with_reducible apply cmdModbusEnable_frame
    | with_reducible apply frame_ite
    | with_reducible apply frame_foldl
    | with_reducible apply frame_foldr
    | split

theorem execModbusWriteRevoke_answers {P : Parts} {s0 : State} (p : List (BitVec 8)) {s : State} (hs0 : Frame P s0 s) (h_regs : P.regs = true) (h_sys : P.sys = true) (h_dic : P.dic = true) (h_mg : P.mg = true) (h_mb : P.mb = true) (h_le : P.le = true) (h_tw : P.tw = true) :
    Answers P s0 (execModbusWriteRevoke p s) := by
  unfold execModbusWriteRevoke
  repeat' first
    | with_reducible assumption
    | (intro sv; refine frame_cut (a := Frame P s0 sv) ?_ ?_; on_goal 2 => dsimp -zeta only [sv]; on_goal 1 => clear_value sv)
    | (intro sv; refine frame_cut (a := Frame P s0 sv.st) ?_ ?_; on_goal 2 => dsimp -zeta only [sv]; on_goal 1 => clear_value sv)
    | (intro sv; clear_value sv)
    | intro _
    | with_reducible apply answers_next
    | with_reducible apply answers_ite
    | lift_lets -underBinder
    | with_reducible apply mailbox_frame
    | with_reducible apply cmdModbusEnable_frame
    | with_reducible apply frame_ite
    | with_reducible apply frame_foldl
    | with_reducible apply frame_foldr
    | split

theorem execModbusGrantEnd_answers {P : Parts} {s0 : State} {s : State} (hs0 : Frame P s0 s) (h_mg : P.mg = true) :
    Answers P s0 (execModbusGrantEnd s) := by
  unfold execModbusGrantEnd
  repeat' first
    | with_reducible assumption
    | (intro sv; refine frame_cut (a := Frame P s0 sv) ?_ ?_; on_goal 2 => dsimp -zeta only [sv]; on_goal 1 => clear_value sv)
    | (intro sv; clear_value sv)
    | intro _
    | with_reducible apply answers_next
    | with_reducible apply answers_ite
    | lift_lets -underBinder
    | with_reducible apply onMg_frame
    | with_reducible apply frame_ite
    | with_reducible apply frame_foldl
    | with_reducible apply frame_foldr
    | split

end Sys2Proof.Machine
end

