-- ==== Sys2Proof/Laws/ContextsFrame.lean ====
section
/-! SUPPORT. What the operations of Machine/Contexts.lean may touch, and that they keep the memories canonical. -/

namespace Sys2Proof.Machine

theorem creditReset_frame {P : Parts} {s0 : State} {s : State} (c : ℕ) (hs0 : Frame P s0 s) (h_regs : P.regs = true) :
    Frame P s0 (State.creditReset s c) := by
  unfold State.creditReset
  repeat' first
    | with_reducible assumption
    | (intro sv; refine frame_cut (a := Frame P s0 sv) ?_ ?_; on_goal 2 => dsimp -zeta only [sv]; on_goal 1 => clear_value sv)
    | (intro sv; clear_value sv)
    | intro _
    | lift_lets -underBinder
    | with_reducible apply wr_frame
    | with_reducible apply frame_ite
    | with_reducible apply frame_foldl
    | with_reducible apply frame_foldr
    | split

theorem putEntry_frame {P : Parts} {s0 : State} {s : State} (q : AddReq) (hs0 : Frame P s0 s) (h_regs : P.regs = true) :
    Frame P s0 (State.putEntry s q) := by
  unfold State.putEntry
  repeat' first
    | with_reducible assumption
    | (intro sv; refine frame_cut (a := Frame P s0 sv) ?_ ?_; on_goal 2 => dsimp -zeta only [sv]; on_goal 1 => clear_value sv)
    | (intro sv; clear_value sv)
    | intro _
    | lift_lets -underBinder
    | with_reducible apply wr_frame
    | with_reducible apply wr64_frame
    | with_reducible apply putBit_frame
    | with_reducible apply frame_ite
    | with_reducible apply frame_foldl
    | with_reducible apply frame_foldr
    | split

theorem presetSlot_frame {P : Parts} {s0 : State} {s : State} (c : ℕ) (fallback : ℕ) (hs0 : Frame P s0 s) (h_regs : P.regs = true) (h_le : P.le = true) :
    Frame P s0 (State.presetSlot s c fallback) := by
  unfold State.presetSlot
  repeat' first
    | with_reducible assumption
    | (intro sv; refine frame_cut (a := Frame P s0 sv) ?_ ?_; on_goal 2 => dsimp -zeta only [sv]; on_goal 1 => clear_value sv)
    | (intro sv; clear_value sv)
    | intro _
    | lift_lets -underBinder
    | with_reducible apply wrf_frame
    | with_reducible apply defaultLimits_frame
    | with_reducible apply putBit_frame
    | with_reducible apply wr_frame
    | with_reducible apply setSlot_frame
    | with_reducible apply frame_ite
    | with_reducible apply frame_foldl
    | with_reducible apply frame_foldr
    | split

theorem addContext_frame {P : Parts} {s0 : State} {s : State} (q : AddReq) (hs0 : Frame P s0 s) (h_free : P.free = true) (h_regs : P.regs = true) (h_pb : P.pb = true) (h_vq : P.vq = true) (h_le : P.le = true) :
    Frame P s0 (State.addContext s q) := by
  unfold State.addContext
  repeat' first
    | with_reducible assumption
    | (intro sv; refine frame_cut (a := Frame P s0 sv) ?_ ?_; on_goal 2 => dsimp -zeta only [sv]; on_goal 1 => clear_value sv)
    | (intro sv; clear_value sv)
    | intro _
    | lift_lets -underBinder
    | with_reducible apply putEntry_frame
    | with_reducible apply setPbCtx_frame
    | with_reducible apply onVq_frame
    | with_reducible apply creditReset_frame
    | with_reducible apply presetSlot_frame
    | with_reducible apply drew_frame
    | with_reducible apply frame_ite
    | with_reducible apply frame_foldl
    | with_reducible apply frame_foldr
    | split

theorem contextAddBody_frame {P : Parts} {s0 : State} {s : State} (p : List Byte) (hs0 : Frame P s0 s) (h_free : P.free = true) (h_regs : P.regs = true) (h_pb : P.pb = true) (h_vq : P.vq = true) (h_le : P.le = true) :
    Frame P s0 (contextAddBody s p).st := by
  unfold contextAddBody
  repeat' first
    | with_reducible assumption
    | (intro sv; refine frame_cut (a := Frame P s0 sv) ?_ ?_; on_goal 2 => dsimp -zeta only [sv]; on_goal 1 => clear_value sv)
    | (intro sv; clear_value sv)
    | intro _
    | lift_lets -underBinder
    | with_reducible apply refuse_frame
    | with_reducible apply addContext_frame
    | with_reducible apply frame_ite
    | with_reducible apply frame_foldl
    | with_reducible apply frame_foldr
    | split

theorem cmdContextAdd_frame {P : Parts} {s0 : State} {s : State} (p : List Byte) (hs0 : Frame P s0 s) (h_free : P.free = true) (h_regs : P.regs = true) (h_pb : P.pb = true) (h_vq : P.vq = true) (h_le : P.le = true) :
    Frame P s0 (cmdContextAdd.body s p).st := by
  dsimp -zeta only [cmdContextAdd]
  repeat' first
    | with_reducible assumption
    | (intro sv; refine frame_cut (a := Frame P s0 sv) ?_ ?_; on_goal 2 => dsimp -zeta only [sv]; on_goal 1 => clear_value sv)
    | (intro sv; refine frame_cut (a := Frame P s0 sv.st) ?_ ?_; on_goal 2 => dsimp -zeta only [sv]; on_goal 1 => clear_value sv)
    | (intro sv; clear_value sv)
    | intro _
    | lift_lets -underBinder
    | with_reducible apply contextAddBody_frame
    | with_reducible apply frame_ite
    | with_reducible apply frame_foldl
    | with_reducible apply frame_foldr
    | split

theorem execContextAdd_answers {P : Parts} {s0 : State} (p : List (BitVec 8)) {s : State} (hs0 : Frame P s0 s) (h_free : P.free = true) (h_regs : P.regs = true) (h_sys : P.sys = true) (h_dic : P.dic = true) (h_mb : P.mb = true) (h_pb : P.pb = true) (h_vq : P.vq = true) (h_le : P.le = true) (h_tw : P.tw = true) :
    Answers P s0 (execContextAdd p s) := by
  unfold execContextAdd
  repeat' first
    | with_reducible assumption
    | (intro sv; refine frame_cut (a := Frame P s0 sv) ?_ ?_; on_goal 2 => dsimp -zeta only [sv]; on_goal 1 => clear_value sv)
    | (intro sv; refine frame_cut (a := Frame P s0 sv.st) ?_ ?_; on_goal 2 => dsimp -zeta only [sv]; on_goal 1 => clear_value sv)
    | (intro sv; clear_value sv)
    | intro _
    | with_reducible apply answers_next
    | with_reducible apply answers_ite
    | lift_lets -underBinder
    | with_reducible apply mailbox_frame
    | with_reducible apply cmdContextAdd_frame
    | with_reducible apply frame_ite
    | with_reducible apply frame_foldl
    | with_reducible apply frame_foldr
    | split

theorem contextRemoveBody_frame {P : Parts} {s0 : State} {s : State} (p : List Byte) (hs0 : Frame P s0 s) (h_regs : P.regs = true) (h_pb : P.pb = true) :
    Frame P s0 (contextRemoveBody s p).st := by
  unfold contextRemoveBody
  repeat' first
    | with_reducible assumption
    | (intro sv; refine frame_cut (a := Frame P s0 sv) ?_ ?_; on_goal 2 => dsimp -zeta only [sv]; on_goal 1 => clear_value sv)
    | (intro sv; clear_value sv)
    | intro _
    | lift_lets -underBinder
    | with_reducible apply refuse_frame
    | with_reducible apply setPbCtx_frame
    | with_reducible apply putBit_frame
    | with_reducible apply queueRec_frame
    | with_reducible apply frame_ite
    | with_reducible apply frame_foldl
    | with_reducible apply frame_foldr
    | split

theorem cmdContextRemove_frame {P : Parts} {s0 : State} {s : State} (p : List Byte) (hs0 : Frame P s0 s) (h_regs : P.regs = true) (h_pb : P.pb = true) :
    Frame P s0 (cmdContextRemove.body s p).st := by
  dsimp -zeta only [cmdContextRemove]
  repeat' first
    | with_reducible assumption
    | (intro sv; refine frame_cut (a := Frame P s0 sv) ?_ ?_; on_goal 2 => dsimp -zeta only [sv]; on_goal 1 => clear_value sv)
    | (intro sv; refine frame_cut (a := Frame P s0 sv.st) ?_ ?_; on_goal 2 => dsimp -zeta only [sv]; on_goal 1 => clear_value sv)
    | (intro sv; clear_value sv)
    | intro _
    | lift_lets -underBinder
    | with_reducible apply contextRemoveBody_frame
    | with_reducible apply frame_ite
    | with_reducible apply frame_foldl
    | with_reducible apply frame_foldr
    | split

theorem execContextRemove_answers {P : Parts} {s0 : State} (p : List (BitVec 8)) {s : State} (hs0 : Frame P s0 s) (h_regs : P.regs = true) (h_sys : P.sys = true) (h_dic : P.dic = true) (h_mb : P.mb = true) (h_pb : P.pb = true) (h_le : P.le = true) (h_tw : P.tw = true) :
    Answers P s0 (execContextRemove p s) := by
  unfold execContextRemove
  repeat' first
    | with_reducible assumption
    | (intro sv; refine frame_cut (a := Frame P s0 sv) ?_ ?_; on_goal 2 => dsimp -zeta only [sv]; on_goal 1 => clear_value sv)
    | (intro sv; refine frame_cut (a := Frame P s0 sv.st) ?_ ?_; on_goal 2 => dsimp -zeta only [sv]; on_goal 1 => clear_value sv)
    | (intro sv; clear_value sv)
    | intro _
    | with_reducible apply answers_next
    | with_reducible apply answers_ite
    | lift_lets -underBinder
    | with_reducible apply mailbox_frame
    | with_reducible apply cmdContextRemove_frame
    | with_reducible apply frame_ite
    | with_reducible apply frame_foldl
    | with_reducible apply frame_foldr
    | split

theorem setBudgetBody_frame {P : Parts} {s0 : State} {s : State} (p : List Byte) (hs0 : Frame P s0 s) (h_mb : P.mb = true) (h_pb : P.pb = true) (h_tw : P.tw = true) :
    Frame P s0 (setBudgetBody s p).st := by
  unfold setBudgetBody
  repeat' first
    | with_reducible assumption
    | (intro sv; refine frame_cut (a := Frame P s0 sv) ?_ ?_; on_goal 2 => dsimp -zeta only [sv]; on_goal 1 => clear_value sv)
    | (intro sv; clear_value sv)
    | intro _
    | lift_lets -underBinder
    | with_reducible apply refuse_frame
    | with_reducible apply journalStep_frame
    | with_reducible apply openJournal_frame
    | with_reducible apply onMb_frame
    | with_reducible apply onPb_frame
    | with_reducible apply frame_ite
    | with_reducible apply frame_foldl
    | with_reducible apply frame_foldr
    | split

theorem cmdSetBudget_frame {P : Parts} {s0 : State} {s : State} (p : List Byte) (hs0 : Frame P s0 s) (h_mb : P.mb = true) (h_pb : P.pb = true) (h_tw : P.tw = true) :
    Frame P s0 (cmdSetBudget.body s p).st := by
  dsimp -zeta only [cmdSetBudget]
  repeat' first
    | with_reducible assumption
    | (intro sv; refine frame_cut (a := Frame P s0 sv) ?_ ?_; on_goal 2 => dsimp -zeta only [sv]; on_goal 1 => clear_value sv)
    | (intro sv; refine frame_cut (a := Frame P s0 sv.st) ?_ ?_; on_goal 2 => dsimp -zeta only [sv]; on_goal 1 => clear_value sv)
    | (intro sv; clear_value sv)
    | intro _
    | lift_lets -underBinder
    | with_reducible apply setBudgetBody_frame
    | with_reducible apply frame_ite
    | with_reducible apply frame_foldl
    | with_reducible apply frame_foldr
    | split

theorem execSetBudget_answers {P : Parts} {s0 : State} (p : List (BitVec 8)) {s : State} (hs0 : Frame P s0 s) (h_regs : P.regs = true) (h_sys : P.sys = true) (h_dic : P.dic = true) (h_mb : P.mb = true) (h_pb : P.pb = true) (h_le : P.le = true) (h_tw : P.tw = true) :
    Answers P s0 (execSetBudget p s) := by
  unfold execSetBudget
  repeat' first
    | with_reducible assumption
    | (intro sv; refine frame_cut (a := Frame P s0 sv) ?_ ?_; on_goal 2 => dsimp -zeta only [sv]; on_goal 1 => clear_value sv)
    | (intro sv; refine frame_cut (a := Frame P s0 sv.st) ?_ ?_; on_goal 2 => dsimp -zeta only [sv]; on_goal 1 => clear_value sv)
    | (intro sv; clear_value sv)
    | intro _
    | with_reducible apply answers_next
    | with_reducible apply answers_ite
    | lift_lets -underBinder
    | with_reducible apply mailbox_frame
    | with_reducible apply cmdSetBudget_frame
    | with_reducible apply frame_ite
    | with_reducible apply frame_foldl
    | with_reducible apply frame_foldr
    | split

theorem putJob_frame {P : Parts} {s0 : State} {s : State} (k : BudgetJob) (hs0 : Frame P s0 s) (h_mb : P.mb = true) :
    Frame P s0 (State.putJob s k) := by
  unfold State.putJob
  repeat' first
    | with_reducible assumption
    | (intro sv; refine frame_cut (a := Frame P s0 sv) ?_ ?_; on_goal 2 => dsimp -zeta only [sv]; on_goal 1 => clear_value sv)
    | (intro sv; clear_value sv)
    | intro _
    | lift_lets -underBinder
    | with_reducible apply onMb_frame
    | with_reducible apply frame_ite
    | with_reducible apply frame_foldl
    | with_reducible apply frame_foldr
    | split

theorem budgetJobStep_frame {P : Parts} {s0 : State} {s : State} (j : BudgetJob) (hs0 : Frame P s0 s) (h_mb : P.mb = true) (h_tw : P.tw = true) :
    Frame P s0 (State.budgetJobStep s j) := by
  unfold State.budgetJobStep
  repeat' first
    | with_reducible assumption
    | (intro sv; refine frame_cut (a := Frame P s0 sv) ?_ ?_; on_goal 2 => dsimp -zeta only [sv]; on_goal 1 => clear_value sv)
    | (intro sv; clear_value sv)
    | intro _
    | lift_lets -underBinder
    | with_reducible apply journalStep_frame
    | with_reducible apply putJob_frame
    | with_reducible apply onMb_frame
    | with_reducible apply frame_ite
    | with_reducible apply frame_foldl
    | with_reducible apply frame_foldr
    | split

theorem budgetJobs_frame {P : Parts} {s0 : State} {s : State} (hs0 : Frame P s0 s) (h_mb : P.mb = true) (h_tw : P.tw = true) :
    Frame P s0 (State.budgetJobs s) := by
  unfold State.budgetJobs
  repeat' first
    | with_reducible assumption
    | (intro sv; refine frame_cut (a := Frame P s0 sv) ?_ ?_; on_goal 2 => dsimp -zeta only [sv]; on_goal 1 => clear_value sv)
    | (intro sv; clear_value sv)
    | intro _
    | lift_lets -underBinder
    | with_reducible apply budgetJobStep_frame
    | with_reducible apply frame_ite
    | with_reducible apply frame_foldl
    | with_reducible apply frame_foldr
    | split

theorem newLease_frame {P : Parts} {s0 : State} {s : State} (lease : ℕ) (c : ℕ) (hs0 : Frame P s0 s) (h_regs : P.regs = true) (h_pb : P.pb = true) :
    Frame P s0 (State.newLease s lease c) := by
  unfold State.newLease
  repeat' first
    | with_reducible assumption
    | (intro sv; refine frame_cut (a := Frame P s0 sv) ?_ ?_; on_goal 2 => dsimp -zeta only [sv]; on_goal 1 => clear_value sv)
    | (intro sv; clear_value sv)
    | intro _
    | lift_lets -underBinder
    | with_reducible apply wr_frame
    | with_reducible apply setPbCtx_frame
    | with_reducible apply queueRec_frame
    | with_reducible apply frame_ite
    | with_reducible apply frame_foldl
    | with_reducible apply frame_foldr
    | split

theorem cmdSetLease_frame {P : Parts} {s0 : State} {s : State} (p : List Byte) (hs0 : Frame P s0 s) (h_regs : P.regs = true) (h_pb : P.pb = true) :
    Frame P s0 (cmdSetLease.body s p).st := by
  dsimp -zeta only [cmdSetLease]
  repeat' first
    | with_reducible assumption
    | (intro sv; refine frame_cut (a := Frame P s0 sv) ?_ ?_; on_goal 2 => dsimp -zeta only [sv]; on_goal 1 => clear_value sv)
    | (intro sv; clear_value sv)
    | intro _
    | lift_lets -underBinder
    | with_reducible apply refuse_frame
    | with_reducible apply newLease_frame
    | with_reducible apply frame_ite
    | with_reducible apply frame_foldl
    | with_reducible apply frame_foldr
    | split

theorem execSetLease_answers {P : Parts} {s0 : State} (p : List (BitVec 8)) {s : State} (hs0 : Frame P s0 s) (h_regs : P.regs = true) (h_sys : P.sys = true) (h_dic : P.dic = true) (h_mb : P.mb = true) (h_pb : P.pb = true) (h_le : P.le = true) (h_tw : P.tw = true) :
    Answers P s0 (execSetLease p s) := by
  unfold execSetLease
  repeat' first
    | with_reducible assumption
    | (intro sv; refine frame_cut (a := Frame P s0 sv) ?_ ?_; on_goal 2 => dsimp -zeta only [sv]; on_goal 1 => clear_value sv)
    | (intro sv; refine frame_cut (a := Frame P s0 sv.st) ?_ ?_; on_goal 2 => dsimp -zeta only [sv]; on_goal 1 => clear_value sv)
    | (intro sv; clear_value sv)
    | intro _
    | with_reducible apply answers_next
    | with_reducible apply answers_ite
    | lift_lets -underBinder
    | with_reducible apply mailbox_frame
    | with_reducible apply cmdSetLease_frame
    | with_reducible apply frame_ite
    | with_reducible apply frame_foldl
    | with_reducible apply frame_foldr
    | split

end Sys2Proof.Machine
end

