-- ==== Sys2Proof/Laws/FieldBusFrame.lean ====
section
/-! SUPPORT. What the operations of Machine/FieldBus.lean may touch, and that they keep the memories canonical. -/

namespace Sys2Proof.Machine

theorem nodeValues_frame {P : Parts} {s0 : State} {s : State} (n : ℕ) (m : ℕ) (f : CanFrame) (sof : ℕ) (hs0 : Frame P s0 s) (h_regs : P.regs = true) (h_fb : P.fb = true) :
    Frame P s0 (State.nodeValues s n m f sof) := by
  unfold State.nodeValues
  repeat' first
    | with_reducible assumption
    | (intro sv; refine frame_cut (a := Frame P s0 sv) ?_ ?_; on_goal 2 => dsimp -zeta only [sv]; on_goal 1 => clear_value sv)
    | (intro sv; clear_value sv)
    | intro _
    | lift_lets -underBinder
    | with_reducible apply onFb_frame
    | with_reducible apply putBit_frame
    | with_reducible apply wr_frame
    | with_reducible apply wrf_frame
    | with_reducible apply frame_ite
    | with_reducible apply frame_foldl
    | with_reducible apply frame_foldr
    | split

theorem rxStore_frame {P : Parts} {s0 : State} {s : State} (n : ℕ) (f : CanFrame) (sof : ℕ) (hs0 : Frame P s0 s) (h_regs : P.regs = true) (h_dic : P.dic = true) (h_vq : P.vq = true) (h_le : P.le = true) (h_fb : P.fb = true) :
    Frame P s0 (State.rxStore s n f sof) := by
  unfold State.rxStore
  repeat' first
    | with_reducible assumption
    | (intro sv; refine frame_cut (a := Frame P s0 sv) ?_ ?_; on_goal 2 => dsimp -zeta only [sv]; on_goal 1 => clear_value sv)
    | (intro sv; clear_value sv)
    | intro _
    | lift_lets -underBinder
    | with_reducible apply wr_frame
    | with_reducible apply mbStore_frame
    | with_reducible apply setFbBuf_frame
    | with_reducible apply fbPost_frame
    | with_reducible apply putBit_frame
    | with_reducible apply nodeValues_frame
    | with_reducible apply heldCommit_frame
    | with_reducible apply incSat_frame
    | with_reducible apply frame_ite
    | with_reducible apply frame_foldl
    | with_reducible apply frame_foldr
    | split

theorem driveCheck_frame {P : Parts} {s0 : State} {s : State} (p : ℕ) (hs0 : Frame P s0 s) (h_regs : P.regs = true) (h_dic : P.dic = true) (h_mg : P.mg = true) (h_le : P.le = true) (h_pf : P.pf = true) :
    Frame P s0 (State.driveCheck s p) := by
  unfold State.driveCheck
  repeat' first
    | with_reducible assumption
    | (intro sv; refine frame_cut (a := Frame P s0 sv) ?_ ?_; on_goal 2 => dsimp -zeta only [sv]; on_goal 1 => clear_value sv)
    | (intro sv; clear_value sv)
    | intro _
    | lift_lets -underBinder
    | with_reducible apply driveFault_frame
    | with_reducible apply frame_ite
    | with_reducible apply frame_foldl
    | with_reducible apply frame_foldr
    | split

theorem nodeSeen_frame {P : Parts} {s0 : State} {s : State} (n : ℕ) (f : CanFrame) (hs0 : Frame P s0 s) (h_regs : P.regs = true) (h_dic : P.dic = true) (h_mg : P.mg = true) (h_le : P.le = true) (h_pf : P.pf = true) (h_fb : P.fb = true) :
    Frame P s0 (State.nodeSeen s n f) := by
  unfold State.nodeSeen
  repeat' first
    | with_reducible assumption
    | (intro sv; refine frame_cut (a := Frame P s0 sv) ?_ ?_; on_goal 2 => dsimp -zeta only [sv]; on_goal 1 => clear_value sv)
    | (intro sv; clear_value sv)
    | intro _
    | lift_lets -underBinder
    | with_reducible apply setFbCh_frame
    | with_reducible apply log_frame
    | with_reducible apply putBit_frame
    | with_reducible apply driveCheck_frame
    | with_reducible apply frame_ite
    | with_reducible apply frame_foldl
    | with_reducible apply frame_foldr
    | split

theorem tripFilter_frame {P : Parts} {s0 : State} {s : State} (n : ℕ) (k : ℕ) (node : ℕ) (ch : ℕ) (st : ℕ) (hs0 : Frame P s0 s) (h_regs : P.regs = true) (h_sys : P.sys = true) (h_dic : P.dic = true) (h_mg : P.mg = true) (h_le : P.le = true) :
    Frame P s0 (State.tripFilter s n k node ch st) := by
  unfold State.tripFilter
  repeat' first
    | with_reducible assumption
    | (intro sv; refine frame_cut (a := Frame P s0 sv) ?_ ?_; on_goal 2 => dsimp -zeta only [sv]; on_goal 1 => clear_value sv)
    | (intro sv; clear_value sv)
    | intro _
    | lift_lets -underBinder
    | with_reducible apply askIsolate_frame
    | with_reducible apply fbPost_frame
    | with_reducible apply log_frame
    | with_reducible apply setTmInput_frame
    | with_reducible apply frame_ite
    | with_reducible apply frame_foldl
    | with_reducible apply frame_foldr
    | split

theorem leakFrame_frame {P : Parts} {s0 : State} {s : State} (n : ℕ) (node : ℕ) (f : CanFrame) (hs0 : Frame P s0 s) (h_regs : P.regs = true) (h_sys : P.sys = true) (h_dic : P.dic = true) (h_mg : P.mg = true) (h_le : P.le = true) (h_fb : P.fb = true) :
    Frame P s0 (State.leakFrame s n node f) := by
  unfold State.leakFrame
  repeat' first
    | with_reducible assumption
    | (intro sv; refine frame_cut (a := Frame P s0 sv) ?_ ?_; on_goal 2 => dsimp -zeta only [sv]; on_goal 1 => clear_value sv)
    | (intro sv; clear_value sv)
    | intro _
    | lift_lets -underBinder
    | with_reducible apply setFbCh_frame
    | with_reducible apply tripFilter_frame
    | with_reducible apply frame_ite
    | with_reducible apply frame_foldl
    | with_reducible apply frame_foldr
    | split

theorem nodeStart_frame {P : Parts} {s0 : State} {s : State} (n : ℕ) (node : ℕ) (hs0 : Frame P s0 s) (h_free : P.free = true) (h_fb : P.fb = true) :
    Frame P s0 (State.nodeStart s n node) := by
  unfold State.nodeStart
  repeat' first
    | with_reducible assumption
    | (intro sv; refine frame_cut (a := Frame P s0 sv) ?_ ?_; on_goal 2 => dsimp -zeta only [sv]; on_goal 1 => clear_value sv)
    | (intro sv; clear_value sv)
    | intro _
    | lift_lets -underBinder
    | with_reducible apply setFbCh_frame
    | with_reducible apply configReq_frame
    | with_reducible apply drew_frame
    | with_reducible apply frame_ite
    | with_reducible apply frame_foldl
    | with_reducible apply frame_foldr
    | split

theorem aminen_frame {P : Parts} {s0 : State} {s : State} (n : ℕ) (f : CanFrame) (hs0 : Frame P s0 s) (h_free : P.free = true) (h_fb : P.fb = true) :
    Frame P s0 (State.aminen s n f) := by
  unfold State.aminen
  repeat' first
    | with_reducible assumption
    | (intro sv; refine frame_cut (a := Frame P s0 sv) ?_ ?_; on_goal 2 => dsimp -zeta only [sv]; on_goal 1 => clear_value sv)
    | (intro sv; clear_value sv)
    | intro _
    | lift_lets -underBinder
    | with_reducible apply nodeStart_frame
    | with_reducible apply setFbCh_frame
    | with_reducible apply frame_ite
    | with_reducible apply frame_foldl
    | with_reducible apply frame_foldr
    | split

theorem driveRun_frame {P : Parts} {s0 : State} {s : State} (p : ℕ) (d : Drive) (hs0 : Frame P s0 s) (h_fb : P.fb = true) :
    Frame P s0 (State.driveRun s p d) := by
  unfold State.driveRun
  repeat' first
    | with_reducible assumption
    | (intro sv; refine frame_cut (a := Frame P s0 sv) ?_ ?_; on_goal 2 => dsimp -zeta only [sv]; on_goal 1 => clear_value sv)
    | (intro sv; clear_value sv)
    | intro _
    | lift_lets -underBinder
    | with_reducible apply fwSend_frame
    | with_reducible apply onFb_frame
    | with_reducible apply frame_ite
    | with_reducible apply frame_foldl
    | with_reducible apply frame_foldr
    | split

theorem driveStart_frame {P : Parts} {s0 : State} {s : State} (p : ℕ) (d : Drive) (hs0 : Frame P s0 s) (h_fb : P.fb = true) :
    Frame P s0 (State.driveStart s p d) := by
  unfold State.driveStart
  repeat' first
    | with_reducible assumption
    | (intro sv; refine frame_cut (a := Frame P s0 sv) ?_ ?_; on_goal 2 => dsimp -zeta only [sv]; on_goal 1 => clear_value sv)
    | (intro sv; clear_value sv)
    | intro _
    | lift_lets -underBinder
    | with_reducible apply driveRun_frame
    | with_reducible apply frame_ite
    | with_reducible apply frame_foldl
    | with_reducible apply frame_foldr
    | split

theorem driveStatus_frame {P : Parts} {s0 : State} {s : State} (p : ℕ) (d : Drive) (data : List Byte) (hs0 : Frame P s0 s) (h_regs : P.regs = true) (h_dic : P.dic = true) (h_mg : P.mg = true) (h_le : P.le = true) (h_pf : P.pf = true) (h_fb : P.fb = true) :
    Frame P s0 (State.driveStatus s p d data) := by
  unfold State.driveStatus
  repeat' first
    | with_reducible assumption
    | (intro sv; refine frame_cut (a := Frame P s0 sv) ?_ ?_; on_goal 2 => dsimp -zeta only [sv]; on_goal 1 => clear_value sv)
    | (intro sv; clear_value sv)
    | intro _
    | lift_lets -underBinder
    | with_reducible apply wr_frame
    | with_reducible apply setPfCh_frame
    | with_reducible apply driveCheck_frame
    | with_reducible apply onFb_frame
    | with_reducible apply frame_ite
    | with_reducible apply frame_foldl
    | with_reducible apply frame_foldr
    | split

theorem driveCurrent_frame {P : Parts} {s0 : State} {s : State} (p : ℕ) (d : Drive) (data : List Byte) (hs0 : Frame P s0 s) (h_pf : P.pf = true) :
    Frame P s0 (State.driveCurrent s p d data) := by
  unfold State.driveCurrent
  repeat' first
    | with_reducible assumption
    | (intro sv; refine frame_cut (a := Frame P s0 sv) ?_ ?_; on_goal 2 => dsimp -zeta only [sv]; on_goal 1 => clear_value sv)
    | (intro sv; clear_value sv)
    | intro _
    | lift_lets -underBinder
    | with_reducible apply setPfCh_frame
    | with_reducible apply frame_ite
    | with_reducible apply frame_foldl
    | with_reducible apply frame_foldr
    | split

theorem sdoOn_frame {P : Parts} {s0 : State} {s : State} (p : ℕ) (d : Drive) (j : SdoJob) (f : CanFrame) (hs0 : Frame P s0 s) (h_fb : P.fb = true) :
    Frame P s0 (State.sdoOn s p d j f) := by
  unfold State.sdoOn
  repeat' first
    | with_reducible assumption
    | (intro sv; refine frame_cut (a := Frame P s0 sv) ?_ ?_; on_goal 2 => dsimp -zeta only [sv]; on_goal 1 => clear_value sv)
    | (intro sv; clear_value sv)
    | intro _
    | lift_lets -underBinder
    | with_reducible apply fwSend_frame
    | with_reducible apply onFb_frame
    | with_reducible apply frame_ite
    | with_reducible apply frame_foldl
    | with_reducible apply frame_foldr
    | split

theorem sdoAnswer_frame {P : Parts} {s0 : State} {s : State} (p : ℕ) (d : Drive) (data : List Byte) (hs0 : Frame P s0 s) (h_regs : P.regs = true) (h_mg : P.mg = true) (h_fb : P.fb = true) :
    Frame P s0 (State.sdoAnswer s p d data) := by
  unfold State.sdoAnswer
  repeat' first
    | with_reducible assumption
    | (intro sv; refine frame_cut (a := Frame P s0 sv) ?_ ?_; on_goal 2 => dsimp -zeta only [sv]; on_goal 1 => clear_value sv)
    | (intro sv; clear_value sv)
    | intro _
    | lift_lets -underBinder
    | with_reducible apply driveRun_frame
    | with_reducible apply log_frame
    | with_reducible apply sdoOn_frame
    | with_reducible apply frame_ite
    | with_reducible apply frame_foldl
    | with_reducible apply frame_foldr
    | split

theorem driveHeart_frame {P : Parts} {s0 : State} {s : State} (p : ℕ) (d : Drive) (data : List Byte) (hs0 : Frame P s0 s) (h_regs : P.regs = true) (h_mg : P.mg = true) (h_fb : P.fb = true) :
    Frame P s0 (State.driveHeart s p d data) := by
  unfold State.driveHeart
  repeat' first
    | with_reducible assumption
    | (intro sv; refine frame_cut (a := Frame P s0 sv) ?_ ?_; on_goal 2 => dsimp -zeta only [sv]; on_goal 1 => clear_value sv)
    | (intro sv; clear_value sv)
    | intro _
    | lift_lets -underBinder
    | with_reducible apply driveStart_frame
    | with_reducible apply log_frame
    | with_reducible apply onFb_frame
    | with_reducible apply frame_ite
    | with_reducible apply frame_foldl
    | with_reducible apply frame_foldr
    | split

theorem driveEmcy_frame {P : Parts} {s0 : State} {s : State} (p : ℕ) (d : Drive) (data : List Byte) (hs0 : Frame P s0 s) (h_regs : P.regs = true) (h_dic : P.dic = true) (h_mg : P.mg = true) (h_le : P.le = true) (h_pf : P.pf = true) (h_fb : P.fb = true) :
    Frame P s0 (State.driveEmcy s p d data) := by
  unfold State.driveEmcy
  repeat' first
    | with_reducible assumption
    | (intro sv; refine frame_cut (a := Frame P s0 sv) ?_ ?_; on_goal 2 => dsimp -zeta only [sv]; on_goal 1 => clear_value sv)
    | (intro sv; clear_value sv)
    | intro _
    | lift_lets -underBinder
    | with_reducible apply driveCheck_frame
    | with_reducible apply log_frame
    | with_reducible apply onFb_frame
    | with_reducible apply frame_ite
    | with_reducible apply frame_foldl
    | with_reducible apply frame_foldr
    | split

theorem canopen_frame {P : Parts} {s0 : State} {s : State} (n : ℕ) (f : CanFrame) (hs0 : Frame P s0 s) (h_regs : P.regs = true) (h_dic : P.dic = true) (h_mg : P.mg = true) (h_le : P.le = true) (h_pf : P.pf = true) (h_fb : P.fb = true) :
    Frame P s0 (State.canopen s n f) := by
  unfold State.canopen
  repeat' first
    | with_reducible assumption
    | (intro sv; refine frame_cut (a := Frame P s0 sv) ?_ ?_; on_goal 2 => dsimp -zeta only [sv]; on_goal 1 => clear_value sv)
    | (intro sv; clear_value sv)
    | intro _
    | lift_lets -underBinder
    | with_reducible apply driveEmcy_frame
    | with_reducible apply driveStatus_frame
    | with_reducible apply driveCurrent_frame
    | with_reducible apply sdoAnswer_frame
    | with_reducible apply driveHeart_frame
    | with_reducible apply frame_ite
    | with_reducible apply frame_foldl
    | with_reducible apply frame_foldr
    | split

theorem rxFrame_frame {P : Parts} {s0 : State} {s : State} (n : ℕ) (f : CanFrame) (sof : ℕ) (hs0 : Frame P s0 s) (h_free : P.free = true) (h_regs : P.regs = true) (h_sys : P.sys = true) (h_dic : P.dic = true) (h_mg : P.mg = true) (h_vq : P.vq = true) (h_le : P.le = true) (h_pf : P.pf = true) (h_fb : P.fb = true) :
    Frame P s0 (State.rxFrame s n f sof) := by
  unfold State.rxFrame
  repeat' first
    | with_reducible assumption
    | (intro sv; refine frame_cut (a := Frame P s0 sv) ?_ ?_; on_goal 2 => dsimp -zeta only [sv]; on_goal 1 => clear_value sv)
    | (intro sv; clear_value sv)
    | intro _
    | lift_lets -underBinder
    | with_reducible apply nodeSeen_frame
    | with_reducible apply rxStore_frame
    | with_reducible apply leakFrame_frame
    | with_reducible apply aminen_frame
    | with_reducible apply canopen_frame
    | with_reducible apply frame_ite
    | with_reducible apply frame_foldl
    | with_reducible apply frame_foldr
    | split

theorem rxErrors_frame {P : Parts} {s0 : State} {s : State} (n : ℕ) (e : RxEvents) (hs0 : Frame P s0 s) (h_free : P.free = true) (h_regs : P.regs = true) :
    Frame P s0 (State.rxErrors s n e) := by
  unfold State.rxErrors
  repeat' first
    | with_reducible assumption
    | (intro sv; refine frame_cut (a := Frame P s0 sv) ?_ ?_; on_goal 2 => dsimp -zeta only [sv]; on_goal 1 => clear_value sv)
    | (intro sv; clear_value sv)
    | intro _
    | lift_lets -underBinder
    | with_reducible apply wr_frame
    | with_reducible apply drew_frame
    | with_reducible apply frame_ite
    | with_reducible apply frame_foldl
    | with_reducible apply frame_foldr
    | split

theorem execCanFrameReceive_answers {P : Parts} {s0 : State} (n : Fin 4) (f : CanFrame) (e : RxEvents) (sof : ℕ) {s : State} (hs0 : Frame P s0 s) (h_free : P.free = true) (h_regs : P.regs = true) (h_sys : P.sys = true) (h_dic : P.dic = true) (h_mg : P.mg = true) (h_vq : P.vq = true) (h_le : P.le = true) (h_pf : P.pf = true) (h_fb : P.fb = true) (h_tw : P.tw = true) :
    Answers P s0 (execCanFrameReceive n f e sof s) := by
  unfold execCanFrameReceive
  repeat' first
    | with_reducible assumption
    | (intro sv; refine frame_cut (a := Frame P s0 sv) ?_ ?_; on_goal 2 => dsimp -zeta only [sv]; on_goal 1 => clear_value sv)
    | (intro sv; clear_value sv)
    | intro _
    | with_reducible apply answers_next
    | with_reducible apply answers_ite
    | lift_lets -underBinder
    | with_reducible apply fcsUpdate_frame
    | with_reducible apply rxErrors_frame
    | with_reducible apply forward_frame
    | with_reducible apply rxFrame_frame
    | with_reducible apply frame_ite
    | with_reducible apply frame_foldl
    | with_reducible apply frame_foldr
    | split

theorem execCanTxStart_answers {P : Parts} {s0 : State} (n : Fin 4) {s : State} (hs0 : Frame P s0 s) (h_regs : P.regs = true) (h_fb : P.fb = true) :
    Answers P s0 (execCanTxStart n s) := by
  unfold execCanTxStart
  repeat' first
    | with_reducible assumption
    | (intro sv; refine frame_cut (a := Frame P s0 sv) ?_ ?_; on_goal 2 => dsimp -zeta only [sv]; on_goal 1 => clear_value sv)
    | (intro sv; clear_value sv)
    | intro _
    | with_reducible apply answers_next
    | with_reducible apply answers_ite
    | lift_lets -underBinder
    | with_reducible apply txBegin_frame
    | with_reducible apply frame_ite
    | with_reducible apply frame_foldl
    | with_reducible apply frame_foldr
    | split

theorem forwardTx_frame {P : Parts} {s0 : State} {s : State} (n : ℕ) (m : ℕ) (hs0 : Frame P s0 s) (h_tw : P.tw = true) :
    Frame P s0 (State.forwardTx s n m) := by
  unfold State.forwardTx
  repeat' first
    | with_reducible assumption
    | (intro sv; refine frame_cut (a := Frame P s0 sv) ?_ ?_; on_goal 2 => dsimp -zeta only [sv]; on_goal 1 => clear_value sv)
    | (intro sv; clear_value sv)
    | intro _
    | lift_lets -underBinder
    | with_reducible apply forward_frame
    | with_reducible apply frame_ite
    | with_reducible apply frame_foldl
    | with_reducible apply frame_foldr
    | split

theorem txErrors_frame {P : Parts} {s0 : State} {s : State} (n : ℕ) (ok : Bool) (e : TxEvents) (hs0 : Frame P s0 s) (h_regs : P.regs = true) :
    Frame P s0 (State.txErrors s n ok e) := by
  unfold State.txErrors
  repeat' first
    | with_reducible assumption
    | (intro sv; refine frame_cut (a := Frame P s0 sv) ?_ ?_; on_goal 2 => dsimp -zeta only [sv]; on_goal 1 => clear_value sv)
    | (intro sv; clear_value sv)
    | intro _
    | lift_lets -underBinder
    | with_reducible apply wr_frame
    | with_reducible apply frame_ite
    | with_reducible apply frame_foldl
    | with_reducible apply frame_foldr
    | split

theorem ackRun_frame {P : Parts} {s0 : State} {s : State} (n : ℕ) (alone : Bool) (hs0 : Frame P s0 s) (h_regs : P.regs = true) (h_dic : P.dic = true) (h_le : P.le = true) :
    Frame P s0 (State.ackRun s n alone) := by
  unfold State.ackRun
  repeat' first
    | with_reducible assumption
    | (intro sv; refine frame_cut (a := Frame P s0 sv) ?_ ?_; on_goal 2 => dsimp -zeta only [sv]; on_goal 1 => clear_value sv)
    | (intro sv; clear_value sv)
    | intro _
    | lift_lets -underBinder
    | with_reducible apply incSat_frame
    | with_reducible apply fbPost_frame
    | with_reducible apply putBit_frame
    | with_reducible apply wr_frame
    | with_reducible apply frame_ite
    | with_reducible apply frame_foldl
    | with_reducible apply frame_foldr
    | split

theorem mbFail_frame {P : Parts} {s0 : State} {s : State} (n : ℕ) (m : ℕ) (hs0 : Frame P s0 s) (h_regs : P.regs = true) (h_dic : P.dic = true) (h_mg : P.mg = true) (h_le : P.le = true) (h_fb : P.fb = true) :
    Frame P s0 (State.mbFail s n m) := by
  unfold State.mbFail
  repeat' first
    | with_reducible assumption
    | (intro sv; refine frame_cut (a := Frame P s0 sv) ?_ ?_; on_goal 2 => dsimp -zeta only [sv]; on_goal 1 => clear_value sv)
    | (intro sv; clear_value sv)
    | intro _
    | lift_lets -underBinder
    | with_reducible apply setFbBuf_frame
    | with_reducible apply wr_frame
    | with_reducible apply fbPost_frame
    | with_reducible apply log_frame
    | with_reducible apply frame_ite
    | with_reducible apply frame_foldl
    | with_reducible apply frame_foldr
    | split

theorem mbMissed_frame {P : Parts} {s0 : State} {s : State} (n : ℕ) (m : ℕ) (hs0 : Frame P s0 s) (h_regs : P.regs = true) (h_fb : P.fb = true) :
    Frame P s0 (State.mbMissed s n m) := by
  unfold State.mbMissed
  repeat' first
    | with_reducible assumption
    | (intro sv; refine frame_cut (a := Frame P s0 sv) ?_ ?_; on_goal 2 => dsimp -zeta only [sv]; on_goal 1 => clear_value sv)
    | (intro sv; clear_value sv)
    | intro _
    | lift_lets -underBinder
    | with_reducible apply setFbBuf_frame
    | with_reducible apply putBit_frame
    | with_reducible apply wr_frame
    | with_reducible apply frame_ite
    | with_reducible apply frame_foldl
    | with_reducible apply frame_foldr
    | split

theorem mbError_frame {P : Parts} {s0 : State} {s : State} (n : ℕ) (m : ℕ) (e : TxEvents) (hs0 : Frame P s0 s) (h_regs : P.regs = true) (h_dic : P.dic = true) (h_mg : P.mg = true) (h_le : P.le = true) (h_fb : P.fb = true) :
    Frame P s0 (State.mbError s n m e) := by
  unfold State.mbError
  repeat' first
    | with_reducible assumption
    | (intro sv; refine frame_cut (a := Frame P s0 sv) ?_ ?_; on_goal 2 => dsimp -zeta only [sv]; on_goal 1 => clear_value sv)
    | (intro sv; clear_value sv)
    | intro _
    | lift_lets -underBinder
    | with_reducible apply putBit_frame
    | with_reducible apply incSat_frame
    | with_reducible apply setFbBuf_frame
    | with_reducible apply ackRun_frame
    | with_reducible apply mbFail_frame
    | with_reducible apply mbMissed_frame
    | with_reducible apply wr_frame
    | with_reducible apply frame_ite
    | with_reducible apply frame_foldl
    | with_reducible apply frame_foldr
    | split

theorem mbDone_frame {P : Parts} {s0 : State} {s : State} (n : ℕ) (m : ℕ) (ok : Bool) (e : TxEvents) (hs0 : Frame P s0 s) (h_regs : P.regs = true) (h_dic : P.dic = true) (h_mg : P.mg = true) (h_le : P.le = true) (h_fb : P.fb = true) :
    Frame P s0 (State.mbDone s n m ok e) := by
  unfold State.mbDone
  repeat' first
    | with_reducible assumption
    | (intro sv; refine frame_cut (a := Frame P s0 sv) ?_ ?_; on_goal 2 => dsimp -zeta only [sv]; on_goal 1 => clear_value sv)
    | (intro sv; clear_value sv)
    | intro _
    | lift_lets -underBinder
    | with_reducible apply incSat_frame
    | with_reducible apply putBit_frame
    | with_reducible apply wr_frame
    | with_reducible apply setFbBuf_frame
    | with_reducible apply fbPost_frame
    | with_reducible apply mbError_frame
    | with_reducible apply frame_ite
    | with_reducible apply frame_foldl
    | with_reducible apply frame_foldr
    | split

theorem mbBusOff_frame {P : Parts} {s0 : State} {s : State} (n : ℕ) (m : ℕ) (hs0 : Frame P s0 s) (h_regs : P.regs = true) (h_dic : P.dic = true) (h_mg : P.mg = true) (h_le : P.le = true) (h_fb : P.fb = true) :
    Frame P s0 (State.mbBusOff s n m) := by
  unfold State.mbBusOff
  repeat' first
    | with_reducible assumption
    | (intro sv; refine frame_cut (a := Frame P s0 sv) ?_ ?_; on_goal 2 => dsimp -zeta only [sv]; on_goal 1 => clear_value sv)
    | (intro sv; clear_value sv)
    | intro _
    | lift_lets -underBinder
    | with_reducible apply mbFail_frame
    | with_reducible apply mbMissed_frame
    | with_reducible apply frame_ite
    | with_reducible apply frame_foldl
    | with_reducible apply frame_foldr
    | split

theorem mirrorDone_frame {P : Parts} {s0 : State} {s : State} (n : ℕ) (i : ℕ) (ok : Bool) (lost : Bool) (hs0 : Frame P s0 s) (h_regs : P.regs = true) (h_fb : P.fb = true) (h_tw : P.tw = true) :
    Frame P s0 (State.mirrorDone s n i ok lost) := by
  unfold State.mirrorDone
  repeat' first
    | with_reducible assumption
    | (intro sv; refine frame_cut (a := Frame P s0 sv) ?_ ?_; on_goal 2 => dsimp -zeta only [sv]; on_goal 1 => clear_value sv)
    | (intro sv; clear_value sv)
    | intro _
    | lift_lets -underBinder
    | with_reducible apply setFbCh_frame
    | with_reducible apply wr_frame
    | with_reducible apply mirrorFill_frame
    | with_reducible apply forwardTx_frame
    | with_reducible apply frame_ite
    | with_reducible apply frame_foldl
    | with_reducible apply frame_foldr
    | split

theorem fwDone_frame {P : Parts} {s0 : State} {s : State} (n : ℕ) (ok : Bool) (hs0 : Frame P s0 s) (h_fb : P.fb = true) (h_tw : P.tw = true) :
    Frame P s0 (State.fwDone s n ok) := by
  unfold State.fwDone
  repeat' first
    | with_reducible assumption
    | (intro sv; refine frame_cut (a := Frame P s0 sv) ?_ ?_; on_goal 2 => dsimp -zeta only [sv]; on_goal 1 => clear_value sv)
    | (intro sv; clear_value sv)
    | intro _
    | lift_lets -underBinder
    | with_reducible apply forward_frame
    | with_reducible apply setFbCh_frame
    | with_reducible apply frame_ite
    | with_reducible apply frame_foldl
    | with_reducible apply frame_foldr
    | split

theorem nodeMissed_frame {P : Parts} {s0 : State} {s : State} (n : ℕ) (node : ℕ) (hs0 : Frame P s0 s) (h_regs : P.regs = true) (h_dic : P.dic = true) (h_mg : P.mg = true) (h_le : P.le = true) (h_pf : P.pf = true) (h_fb : P.fb = true) :
    Frame P s0 (State.nodeMissed s n node) := by
  unfold State.nodeMissed
  repeat' first
    | with_reducible assumption
    | (intro sv; refine frame_cut (a := Frame P s0 sv) ?_ ?_; on_goal 2 => dsimp -zeta only [sv]; on_goal 1 => clear_value sv)
    | (intro sv; clear_value sv)
    | intro _
    | lift_lets -underBinder
    | with_reducible apply setFbCh_frame
    | with_reducible apply fbPost_frame
    | with_reducible apply log_frame
    | with_reducible apply putBit_frame
    | with_reducible apply driveCheck_frame
    | with_reducible apply frame_ite
    | with_reducible apply frame_foldl
    | with_reducible apply frame_foldr
    | split

theorem endInterval_frame {P : Parts} {s0 : State} {s : State} (n : ℕ) (hs0 : Frame P s0 s) (h_regs : P.regs = true) (h_dic : P.dic = true) (h_mg : P.mg = true) (h_le : P.le = true) (h_pf : P.pf = true) (h_fb : P.fb = true) :
    Frame P s0 (State.endInterval s n) := by
  unfold State.endInterval
  repeat' first
    | with_reducible assumption
    | (intro sv; refine frame_cut (a := Frame P s0 sv) ?_ ?_; on_goal 2 => dsimp -zeta only [sv]; on_goal 1 => clear_value sv)
    | (intro sv; clear_value sv)
    | intro _
    | lift_lets -underBinder
    | with_reducible apply nodeMissed_frame
    | with_reducible apply setFbCh_frame
    | with_reducible apply frame_ite
    | with_reducible apply frame_foldl
    | with_reducible apply frame_foldr
    | split

theorem refDone_frame {P : Parts} {s0 : State} {s : State} (n : ℕ) (q : ℕ) (sof : ℕ) (hs0 : Frame P s0 s) (h_fb : P.fb = true) (h_tw : P.tw = true) :
    Frame P s0 (State.refDone s n q sof) := by
  unfold State.refDone
  repeat' first
    | with_reducible assumption
    | (intro sv; refine frame_cut (a := Frame P s0 sv) ?_ ?_; on_goal 2 => dsimp -zeta only [sv]; on_goal 1 => clear_value sv)
    | (intro sv; clear_value sv)
    | intro _
    | lift_lets -underBinder
    | with_reducible apply setFbCh_frame
    | with_reducible apply forward_frame
    | with_reducible apply frame_ite
    | with_reducible apply frame_foldl
    | with_reducible apply frame_foldr
    | split

theorem refMissed_frame {P : Parts} {s0 : State} {s : State} (n : ℕ) (q : ℕ) (hs0 : Frame P s0 s) (h_regs : P.regs = true) (h_dic : P.dic = true) (h_mg : P.mg = true) (h_le : P.le = true) (h_tw : P.tw = true) :
    Frame P s0 (State.refMissed s n q) := by
  unfold State.refMissed
  repeat' first
    | with_reducible assumption
    | (intro sv; refine frame_cut (a := Frame P s0 sv) ?_ ?_; on_goal 2 => dsimp -zeta only [sv]; on_goal 1 => clear_value sv)
    | (intro sv; clear_value sv)
    | intro _
    | lift_lets -underBinder
    | with_reducible apply forward_frame
    | with_reducible apply fbPost_frame
    | with_reducible apply log_frame
    | with_reducible apply incSat_frame
    | with_reducible apply frame_ite
    | with_reducible apply frame_foldl
    | with_reducible apply frame_foldr
    | split

theorem srcDone_frame {P : Parts} {s0 : State} {s : State} (n : ℕ) (x : FbSrc) (ok : Bool) (e : TxEvents) (hs0 : Frame P s0 s) (h_regs : P.regs = true) (h_dic : P.dic = true) (h_mg : P.mg = true) (h_le : P.le = true) (h_fb : P.fb = true) (h_tw : P.tw = true) :
    Frame P s0 (State.srcDone s n x ok e) := by
  unfold State.srcDone
  repeat' first
    | with_reducible assumption
    | (intro sv; refine frame_cut (a := Frame P s0 sv) ?_ ?_; on_goal 2 => dsimp -zeta only [sv]; on_goal 1 => clear_value sv)
    | (intro sv; clear_value sv)
    | intro _
    | lift_lets -underBinder
    | with_reducible apply forwardTx_frame
    | with_reducible apply mbBusOff_frame
    | with_reducible apply mbDone_frame
    | with_reducible apply mirrorDone_frame
    | with_reducible apply fwDone_frame
    | with_reducible apply refDone_frame
    | with_reducible apply refMissed_frame
    | with_reducible apply frame_ite
    | with_reducible apply frame_foldl
    | with_reducible apply frame_foldr
    | split

theorem execCanTxComplete_answers {P : Parts} {s0 : State} (n : Fin 4) (ok : Bool) (e : TxEvents) {s : State} (hs0 : Frame P s0 s) (h_regs : P.regs = true) (h_dic : P.dic = true) (h_mg : P.mg = true) (h_le : P.le = true) (h_fb : P.fb = true) (h_tw : P.tw = true) :
    Answers P s0 (execCanTxComplete n ok e s) := by
  unfold execCanTxComplete
  repeat' first
    | with_reducible assumption
    | (intro sv; refine frame_cut (a := Frame P s0 sv) ?_ ?_; on_goal 2 => dsimp -zeta only [sv]; on_goal 1 => clear_value sv)
    | (intro sv; clear_value sv)
    | intro _
    | with_reducible apply answers_next
    | with_reducible apply answers_ite
    | lift_lets -underBinder
    | with_reducible apply txErrors_frame
    | with_reducible apply setFbCh_frame
    | with_reducible apply putBit_frame
    | with_reducible apply wr_frame
    | with_reducible apply srcDone_frame
    | with_reducible apply fcsUpdate_frame
    | with_reducible apply frame_ite
    | with_reducible apply frame_foldl
    | with_reducible apply frame_foldr
    | split

theorem execFbRecoverWrite_answers {P : Parts} {s0 : State} (n : Fin 4) {s : State} (hs0 : Frame P s0 s) (h_regs : P.regs = true) :
    Answers P s0 (execFbRecoverWrite n s) := by
  unfold execFbRecoverWrite
  repeat' first
    | with_reducible assumption
    | (intro sv; refine frame_cut (a := Frame P s0 sv) ?_ ?_; on_goal 2 => dsimp -zeta only [sv]; on_goal 1 => clear_value sv)
    | (intro sv; clear_value sv)
    | intro _
    | with_reducible apply answers_next
    | with_reducible apply answers_ite
    | lift_lets -underBinder
    | with_reducible apply putBit_frame
    | with_reducible apply frame_ite
    | with_reducible apply frame_foldl
    | with_reducible apply frame_foldr
    | split

theorem execCanRecoveryDone_answers {P : Parts} {s0 : State} (n : Fin 4) {s : State} (hs0 : Frame P s0 s) (h_regs : P.regs = true) (h_dic : P.dic = true) (h_mg : P.mg = true) (h_le : P.le = true) (h_fb : P.fb = true) :
    Answers P s0 (execCanRecoveryDone n s) := by
  unfold execCanRecoveryDone
  repeat' first
    | with_reducible assumption
    | (intro sv; refine frame_cut (a := Frame P s0 sv) ?_ ?_; on_goal 2 => dsimp -zeta only [sv]; on_goal 1 => clear_value sv)
    | (intro sv; clear_value sv)
    | intro _
    | with_reducible apply answers_next
    | with_reducible apply answers_ite
    | lift_lets -underBinder
    | with_reducible apply wr_frame
    | with_reducible apply putBit_frame
    | with_reducible apply setFbBuf_frame
    | with_reducible apply fcsChange_frame
    | with_reducible apply setFbCh_frame
    | with_reducible apply frame_ite
    | with_reducible apply frame_foldl
    | with_reducible apply frame_foldr
    | split

theorem execFbReqWrite_answers {P : Parts} {s0 : State} (n : Fin 4) (m : Fin 64) {s : State} (hs0 : Frame P s0 s) (h_regs : P.regs = true) (h_fb : P.fb = true) :
    Answers P s0 (execFbReqWrite n m s) := by
  unfold execFbReqWrite
  repeat' first
    | with_reducible assumption
    | (intro sv; refine frame_cut (a := Frame P s0 sv) ?_ ?_; on_goal 2 => dsimp -zeta only [sv]; on_goal 1 => clear_value sv)
    | (intro sv; clear_value sv)
    | intro _
    | with_reducible apply answers_next
    | with_reducible apply answers_ite
    | lift_lets -underBinder
    | with_reducible apply mbRequest_frame
    | with_reducible apply frame_ite
    | with_reducible apply frame_foldl
    | with_reducible apply frame_foldr
    | split

theorem execFbAbortWrite_answers {P : Parts} {s0 : State} (n : Fin 4) (m : Fin 64) {s : State} (hs0 : Frame P s0 s) (h_regs : P.regs = true) (h_fb : P.fb = true) :
    Answers P s0 (execFbAbortWrite n m s) := by
  unfold execFbAbortWrite
  repeat' first
    | with_reducible assumption
    | (intro sv; refine frame_cut (a := Frame P s0 sv) ?_ ?_; on_goal 2 => dsimp -zeta only [sv]; on_goal 1 => clear_value sv)
    | (intro sv; clear_value sv)
    | intro _
    | with_reducible apply answers_next
    | with_reducible apply answers_ite
    | lift_lets -underBinder
    | with_reducible apply setFbBuf_frame
    | with_reducible apply wr_frame
    | with_reducible apply frame_ite
    | with_reducible apply frame_foldl
    | with_reducible apply frame_foldr
    | split

theorem execFbInitClear_answers {P : Parts} {s0 : State} (n : Fin 4) {s : State} (hs0 : Frame P s0 s) (h_regs : P.regs = true) (h_mg : P.mg = true) :
    Answers P s0 (execFbInitClear n s) := by
  unfold execFbInitClear
  repeat' first
    | with_reducible assumption
    | (intro sv; refine frame_cut (a := Frame P s0 sv) ?_ ?_; on_goal 2 => dsimp -zeta only [sv]; on_goal 1 => clear_value sv)
    | (intro sv; clear_value sv)
    | intro _
    | with_reducible apply answers_next
    | with_reducible apply answers_ite
    | lift_lets -underBinder
    | with_reducible apply initClear_frame
    | with_reducible apply frame_ite
    | with_reducible apply frame_foldl
    | with_reducible apply frame_foldr
    | split

theorem mbLock_frame {P : Parts} {s0 : State} {s : State} (n : ℕ) (m : ℕ) (hs0 : Frame P s0 s) (h_regs : P.regs = true) (h_fb : P.fb = true) :
    Frame P s0 (State.mbLock s n m) := by
  unfold State.mbLock
  repeat' first
    | with_reducible assumption
    | (intro sv; refine frame_cut (a := Frame P s0 sv) ?_ ?_; on_goal 2 => dsimp -zeta only [sv]; on_goal 1 => clear_value sv)
    | (intro sv; clear_value sv)
    | intro _
    | lift_lets -underBinder
    | with_reducible apply setFbBuf_frame
    | with_reducible apply putBit_frame
    | with_reducible apply frame_ite
    | with_reducible apply frame_foldl
    | with_reducible apply frame_foldr
    | split

theorem mbUnlock_frame {P : Parts} {s0 : State} {s : State} (n : ℕ) (m : ℕ) (hs0 : Frame P s0 s) (h_regs : P.regs = true) (h_fb : P.fb = true) :
    Frame P s0 (State.mbUnlock s n m) := by
  unfold State.mbUnlock
  repeat' first
    | with_reducible assumption
    | (intro sv; refine frame_cut (a := Frame P s0 sv) ?_ ?_; on_goal 2 => dsimp -zeta only [sv]; on_goal 1 => clear_value sv)
    | (intro sv; clear_value sv)
    | intro _
    | lift_lets -underBinder
    | with_reducible apply setFbBuf_frame
    | with_reducible apply putBit_frame
    | with_reducible apply frame_ite
    | with_reducible apply frame_foldl
    | with_reducible apply frame_foldr
    | split

theorem execMbLockRead_answers {P : Parts} {s0 : State} (n : Fin 4) (m : Fin 64) {s : State} (hs0 : Frame P s0 s) (h_regs : P.regs = true) (h_mb : P.mb = true) (h_fb : P.fb = true) :
    Answers P s0 (execMbLockRead n m s) := by
  unfold execMbLockRead
  repeat' first
    | with_reducible assumption
    | (intro sv; refine frame_cut (a := Frame P s0 sv) ?_ ?_; on_goal 2 => dsimp -zeta only [sv]; on_goal 1 => clear_value sv)
    | (intro sv; clear_value sv)
    | intro _
    | with_reducible apply answers_next
    | with_reducible apply answers_ite
    | lift_lets -underBinder
    | with_reducible apply reply_frame
    | with_reducible apply mbLock_frame
    | with_reducible apply frame_ite
    | with_reducible apply frame_foldl
    | with_reducible apply frame_foldr
    | split

theorem execMbReleaseRead_answers {P : Parts} {s0 : State} (n : Fin 4) (m : Fin 64) {s : State} (hs0 : Frame P s0 s) (h_regs : P.regs = true) (h_mb : P.mb = true) (h_fb : P.fb = true) :
    Answers P s0 (execMbReleaseRead n m s) := by
  unfold execMbReleaseRead
  repeat' first
    | with_reducible assumption
    | (intro sv; refine frame_cut (a := Frame P s0 sv) ?_ ?_; on_goal 2 => dsimp -zeta only [sv]; on_goal 1 => clear_value sv)
    | (intro sv; clear_value sv)
    | intro _
    | with_reducible apply answers_next
    | with_reducible apply answers_ite
    | lift_lets -underBinder
    | with_reducible apply reply_frame
    | with_reducible apply mbUnlock_frame
    | with_reducible apply frame_ite
    | with_reducible apply frame_foldl
    | with_reducible apply frame_foldr
    | split

theorem execMbLockTimeout_answers {P : Parts} {s0 : State} (n : Fin 4) (m : Fin 64) {s : State} (hs0 : Frame P s0 s) (h_regs : P.regs = true) (h_dic : P.dic = true) (h_le : P.le = true) (h_fb : P.fb = true) :
    Answers P s0 (execMbLockTimeout n m s) := by
  unfold execMbLockTimeout
  repeat' first
    | with_reducible assumption
    | (intro sv; refine frame_cut (a := Frame P s0 sv) ?_ ?_; on_goal 2 => dsimp -zeta only [sv]; on_goal 1 => clear_value sv)
    | (intro sv; clear_value sv)
    | intro _
    | with_reducible apply answers_next
    | with_reducible apply answers_ite
    | lift_lets -underBinder
    | with_reducible apply putBit_frame
    | with_reducible apply fbPost_frame
    | with_reducible apply setFbBuf_frame
    | with_reducible apply frame_ite
    | with_reducible apply frame_foldl
    | with_reducible apply frame_foldr
    | split

theorem closeWindow_frame {P : Parts} {s0 : State} {s : State} (n : ℕ) (hs0 : Frame P s0 s) (h_regs : P.regs = true) (h_fb : P.fb = true) :
    Frame P s0 (State.closeWindow s n) := by
  unfold State.closeWindow
  repeat' first
    | with_reducible assumption
    | (intro sv; refine frame_cut (a := Frame P s0 sv) ?_ ?_; on_goal 2 => dsimp -zeta only [sv]; on_goal 1 => clear_value sv)
    | (intro sv; clear_value sv)
    | intro _
    | lift_lets -underBinder
    | with_reducible apply setFbBuf_frame
    | with_reducible apply putBit_frame
    | with_reducible apply frame_ite
    | with_reducible apply frame_foldl
    | with_reducible apply frame_foldr
    | split

theorem commandFrames_frame {P : Parts} {s0 : State} {s : State} (n : ℕ) (hs0 : Frame P s0 s) (h_regs : P.regs = true) (h_fb : P.fb = true) :
    Frame P s0 (State.commandFrames s n) := by
  unfold State.commandFrames
  repeat' first
    | with_reducible assumption
    | (intro sv; refine frame_cut (a := Frame P s0 sv) ?_ ?_; on_goal 2 => dsimp -zeta only [sv]; on_goal 1 => clear_value sv)
    | (intro sv; clear_value sv)
    | intro _
    | lift_lets -underBinder
    | with_reducible apply mbRequest_frame
    | with_reducible apply wr_frame
    | with_reducible apply frame_ite
    | with_reducible apply frame_foldl
    | with_reducible apply frame_foldr
    | split

theorem execBasicCycleStart_answers {P : Parts} {s0 : State} (n : Fin 4) (ref : Option ℕ) {s : State} (hs0 : Frame P s0 s) (h_regs : P.regs = true) (h_dic : P.dic = true) (h_mg : P.mg = true) (h_le : P.le = true) (h_pf : P.pf = true) (h_fb : P.fb = true) (h_tw : P.tw = true) :
    Answers P s0 (execBasicCycleStart n ref s) := by
  unfold execBasicCycleStart
  repeat' first
    | with_reducible assumption
    | (intro sv; refine frame_cut (a := Frame P s0 sv) ?_ ?_; on_goal 2 => dsimp -zeta only [sv]; on_goal 1 => clear_value sv)
    | (intro sv; clear_value sv)
    | intro _
    | with_reducible apply answers_next
    | with_reducible apply answers_ite
    | lift_lets -underBinder
    | with_reducible apply wr_frame
    | with_reducible apply endInterval_frame
    | with_reducible apply closeWindow_frame
    | with_reducible apply commandFrames_frame
    | with_reducible apply setFbCh_frame
    | with_reducible apply txBegin_frame
    | with_reducible apply refMissed_frame
    | with_reducible apply frame_ite
    | with_reducible apply frame_foldl
    | with_reducible apply frame_foldr
    | split

theorem execWindowMark_answers {P : Parts} {s0 : State} (n : Fin 4) (idle : Bool) {s : State} (hs0 : Frame P s0 s) (h_regs : P.regs = true) (h_fb : P.fb = true) :
    Answers P s0 (execWindowMark n idle s) := by
  unfold execWindowMark
  repeat' first
    | with_reducible assumption
    | (intro sv; refine frame_cut (a := Frame P s0 sv) ?_ ?_; on_goal 2 => dsimp -zeta only [sv]; on_goal 1 => clear_value sv)
    | (intro sv; clear_value sv)
    | intro _
    | with_reducible apply answers_next
    | with_reducible apply answers_ite
    | lift_lets -underBinder
    | with_reducible apply closeWindow_frame
    | with_reducible apply setFbCh_frame
    | with_reducible apply txBegin_frame
    | with_reducible apply frame_ite
    | with_reducible apply frame_foldl
    | with_reducible apply frame_foldr
    | split

theorem execNodeSupervisionInterval_answers {P : Parts} {s0 : State} (n : Fin 4) {s : State} (hs0 : Frame P s0 s) (h_regs : P.regs = true) (h_dic : P.dic = true) (h_mg : P.mg = true) (h_le : P.le = true) (h_pf : P.pf = true) (h_fb : P.fb = true) :
    Answers P s0 (execNodeSupervisionInterval n s) := by
  unfold execNodeSupervisionInterval
  repeat' first
    | with_reducible assumption
    | (intro sv; refine frame_cut (a := Frame P s0 sv) ?_ ?_; on_goal 2 => dsimp -zeta only [sv]; on_goal 1 => clear_value sv)
    | (intro sv; clear_value sv)
    | intro _
    | with_reducible apply answers_next
    | with_reducible apply answers_ite
    | lift_lets -underBinder
    | with_reducible apply endInterval_frame
    | with_reducible apply frame_ite
    | with_reducible apply frame_foldl
    | with_reducible apply frame_foldr
    | split

theorem execConfigReqRetry_answers {P : Parts} {s0 : State} (n : Fin 4) (node : Fin 64) {s : State} (hs0 : Frame P s0 s) (h_regs : P.regs = true) (h_mg : P.mg = true) (h_fb : P.fb = true) :
    Answers P s0 (execConfigReqRetry n node s) := by
  unfold execConfigReqRetry
  repeat' first
    | with_reducible assumption
    | (intro sv; refine frame_cut (a := Frame P s0 sv) ?_ ?_; on_goal 2 => dsimp -zeta only [sv]; on_goal 1 => clear_value sv)
    | (intro sv; clear_value sv)
    | intro _
    | with_reducible apply answers_next
    | with_reducible apply answers_ite
    | lift_lets -underBinder
    | with_reducible apply setFbCh_frame
    | with_reducible apply configReq_frame
    | with_reducible apply log_frame
    | with_reducible apply frame_ite
    | with_reducible apply frame_foldl
    | with_reducible apply frame_foldr
    | split

theorem execCanopenDriveStartup_answers {P : Parts} {s0 : State} (p : Fin 4) (n : Fin 4) (node : Fin 64) (maxSpeed : ℕ) (rated : ℕ) {s : State} (hs0 : Frame P s0 s) (h_regs : P.regs = true) (h_fb : P.fb = true) :
    Answers P s0 (execCanopenDriveStartup p n node maxSpeed rated s) := by
  unfold execCanopenDriveStartup
  repeat' first
    | with_reducible assumption
    | (intro sv; refine frame_cut (a := Frame P s0 sv) ?_ ?_; on_goal 2 => dsimp -zeta only [sv]; on_goal 1 => clear_value sv)
    | (intro sv; clear_value sv)
    | intro _
    | with_reducible apply answers_next
    | with_reducible apply answers_ite
    | lift_lets -underBinder
    | with_reducible apply driveStart_frame
    | with_reducible apply wr_frame
    | with_reducible apply frame_ite
    | with_reducible apply frame_foldl
    | with_reducible apply frame_foldr
    | split

theorem execRpdoTransmit_answers {P : Parts} {s0 : State} (p : Fin 4) {s : State} (hs0 : Frame P s0 s) (h_fb : P.fb = true) :
    Answers P s0 (execRpdoTransmit p s) := by
  unfold execRpdoTransmit
  repeat' first
    | with_reducible assumption
    | (intro sv; refine frame_cut (a := Frame P s0 sv) ?_ ?_; on_goal 2 => dsimp -zeta only [sv]; on_goal 1 => clear_value sv)
    | (intro sv; clear_value sv)
    | intro _
    | with_reducible apply answers_next
    | with_reducible apply answers_ite
    | lift_lets -underBinder
    | with_reducible apply fwSend_frame
    | with_reducible apply onFb_frame
    | with_reducible apply frame_ite
    | with_reducible apply frame_foldl
    | with_reducible apply frame_foldr
    | split

end Sys2Proof.Machine
end

