-- ==== Sys2Proof/Laws/ModbusFrame.lean ====
section
/-! SUPPORT. What the operations of Machine/Modbus.lean may touch, and that they keep the memories canonical. -/

namespace Sys2Proof.Machine

theorem mbAnswer_frame {P : Parts} {s0 : State} {s : State} (conn : ℕ) (exc : ℕ) (body : List Byte) (hs0 : Frame P s0 s) (h_mg : P.mg = true) (h_mb : P.mb = true) :
    Frame P s0 (State.mbAnswer s conn exc body) := by
  unfold State.mbAnswer
  repeat' first
    | with_reducible assumption
    | (intro sv; refine frame_cut (a := Frame P s0 sv) ?_ ?_; on_goal 2 => dsimp -zeta only [sv]; on_goal 1 => clear_value sv)
    | (intro sv; clear_value sv)
    | intro _
    | lift_lets -underBinder
    | with_reducible apply onMg_frame
    | with_reducible apply reply_frame
    | with_reducible apply frame_ite
    | with_reducible apply frame_foldl
    | with_reducible apply frame_foldr
    | split

theorem mbRead_frame {P : Parts} {s0 : State} {s : State} (conn : ℕ) (addr : ℕ) (count : ℕ) (top : ℕ) (f : ℕ → ℕ) (hs0 : Frame P s0 s) (h_mg : P.mg = true) (h_mb : P.mb = true) :
    Frame P s0 (State.mbRead s conn addr count top f) := by
  unfold State.mbRead
  repeat' first
    | with_reducible assumption
    | (intro sv; refine frame_cut (a := Frame P s0 sv) ?_ ?_; on_goal 2 => dsimp -zeta only [sv]; on_goal 1 => clear_value sv)
    | (intro sv; clear_value sv)
    | intro _
    | lift_lets -underBinder
    | with_reducible apply mbAnswer_frame
    | with_reducible apply frame_ite
    | with_reducible apply frame_foldl
    | with_reducible apply frame_foldr
    | split

theorem mbStage_frame {P : Parts} {s0 : State} {s : State} (l : List (ℕ × ℕ × ℕ)) (hs0 : Frame P s0 s) (h_mg : P.mg = true) (h_mb : P.mb = true) :
    Frame P s0 (State.mbStage s l) := by
  unfold State.mbStage
  repeat' first
    | with_reducible assumption
    | (intro sv; refine frame_cut (a := Frame P s0 sv) ?_ ?_; on_goal 2 => dsimp -zeta only [sv]; on_goal 1 => clear_value sv)
    | (intro sv; clear_value sv)
    | intro _
    | lift_lets -underBinder
    | with_reducible apply onMg_frame
    | with_reducible apply onMb_frame
    | with_reducible apply frame_ite
    | with_reducible apply frame_foldl
    | with_reducible apply frame_foldr
    | split

theorem mbBudget_frame {P : Parts} {s0 : State} {s : State} (w : ℕ) (hs0 : Frame P s0 s) (h_pb : P.pb = true) :
    Frame P s0 (State.mbBudget s w) := by
  unfold State.mbBudget
  repeat' first
    | with_reducible assumption
    | (intro sv; refine frame_cut (a := Frame P s0 sv) ?_ ?_; on_goal 2 => dsimp -zeta only [sv]; on_goal 1 => clear_value sv)
    | (intro sv; clear_value sv)
    | intro _
    | lift_lets -underBinder
    | with_reducible apply onPb_frame
    | with_reducible apply frame_ite
    | with_reducible apply frame_foldl
    | with_reducible apply frame_foldr
    | split

theorem ackAlarms_frame {P : Parts} {s0 : State} {s : State} (hs0 : Frame P s0 s) (h_mg : P.mg = true) :
    Frame P s0 (State.ackAlarms s) := by
  unfold State.ackAlarms
  repeat' first
    | with_reducible assumption
    | (intro sv; refine frame_cut (a := Frame P s0 sv) ?_ ?_; on_goal 2 => dsimp -zeta only [sv]; on_goal 1 => clear_value sv)
    | (intro sv; clear_value sv)
    | intro _
    | lift_lets -underBinder
    | with_reducible apply alarmRelays_frame
    | with_reducible apply onMg_frame
    | with_reducible apply frame_ite
    | with_reducible apply frame_foldl
    | with_reducible apply frame_foldr
    | split

theorem mbApply_frame {P : Parts} {s0 : State} {s : State} (regs : List (ℕ × ℕ)) (hs0 : Frame P s0 s) (h_mg : P.mg = true) (h_mb : P.mb = true) (h_pb : P.pb = true) (h_tw : P.tw = true) :
    Frame P s0 (State.mbApply s regs) := by
  unfold State.mbApply
  repeat' first
    | with_reducible assumption
    | (intro sv; refine frame_cut (a := Frame P s0 sv) ?_ ?_; on_goal 2 => dsimp -zeta only [sv]; on_goal 1 => clear_value sv)
    | (intro sv; clear_value sv)
    | intro _
    | lift_lets -underBinder
    | with_reducible apply mbStage_frame
    | with_reducible apply mbBudget_frame
    | with_reducible apply ackAlarms_frame
    | with_reducible apply forward_frame
    | with_reducible apply frame_ite
    | with_reducible apply frame_foldl
    | with_reducible apply frame_foldr
    | split

theorem mbWrite_frame {P : Parts} {s0 : State} {s : State} (conn : ℕ) (addr : ℕ) (vals : List ℕ) (echo : List Byte) (hs0 : Frame P s0 s) (h_mg : P.mg = true) (h_mb : P.mb = true) (h_pb : P.pb = true) (h_tw : P.tw = true) :
    Frame P s0 (State.mbWrite s conn addr vals echo) := by
  unfold State.mbWrite
  repeat' first
    | with_reducible assumption
    | (intro sv; refine frame_cut (a := Frame P s0 sv) ?_ ?_; on_goal 2 => dsimp -zeta only [sv]; on_goal 1 => clear_value sv)
    | (intro sv; clear_value sv)
    | intro _
    | lift_lets -underBinder
    | with_reducible apply mbAnswer_frame
    | with_reducible apply mbApply_frame
    | with_reducible apply frame_ite
    | with_reducible apply frame_foldl
    | with_reducible apply frame_foldr
    | split

theorem execModbusReadHolding_answers {P : Parts} {s0 : State} (conn : ℕ) (addr : BitVec 16) (count : BitVec 16) {s : State} (hs0 : Frame P s0 s) (h_mg : P.mg = true) (h_mb : P.mb = true) :
    Answers P s0 (execModbusReadHolding conn addr count s) := by
  unfold execModbusReadHolding
  repeat' first
    | with_reducible assumption
    | (intro sv; refine frame_cut (a := Frame P s0 sv) ?_ ?_; on_goal 2 => dsimp -zeta only [sv]; on_goal 1 => clear_value sv)
    | (intro sv; clear_value sv)
    | intro _
    | with_reducible apply answers_next
    | with_reducible apply answers_ite
    | lift_lets -underBinder
    | with_reducible apply mbRead_frame
    | with_reducible apply frame_ite
    | with_reducible apply frame_foldl
    | with_reducible apply frame_foldr
    | split

theorem execModbusReadInput_answers {P : Parts} {s0 : State} (conn : ℕ) (addr : BitVec 16) (count : BitVec 16) {s : State} (hs0 : Frame P s0 s) (h_mg : P.mg = true) (h_mb : P.mb = true) :
    Answers P s0 (execModbusReadInput conn addr count s) := by
  unfold execModbusReadInput
  repeat' first
    | with_reducible assumption
    | (intro sv; refine frame_cut (a := Frame P s0 sv) ?_ ?_; on_goal 2 => dsimp -zeta only [sv]; on_goal 1 => clear_value sv)
    | (intro sv; clear_value sv)
    | intro _
    | with_reducible apply answers_next
    | with_reducible apply answers_ite
    | lift_lets -underBinder
    | with_reducible apply mbRead_frame
    | with_reducible apply frame_ite
    | with_reducible apply frame_foldl
    | with_reducible apply frame_foldr
    | split

theorem execModbusWriteSingle_answers {P : Parts} {s0 : State} (conn : ℕ) (addr : BitVec 16) (v : BitVec 16) {s : State} (hs0 : Frame P s0 s) (h_mg : P.mg = true) (h_mb : P.mb = true) (h_pb : P.pb = true) (h_tw : P.tw = true) :
    Answers P s0 (execModbusWriteSingle conn addr v s) := by
  unfold execModbusWriteSingle
  repeat' first
    | with_reducible assumption
    | (intro sv; refine frame_cut (a := Frame P s0 sv) ?_ ?_; on_goal 2 => dsimp -zeta only [sv]; on_goal 1 => clear_value sv)
    | (intro sv; clear_value sv)
    | intro _
    | with_reducible apply answers_next
    | with_reducible apply answers_ite
    | lift_lets -underBinder
    | with_reducible apply mbWrite_frame
    | with_reducible apply frame_ite
    | with_reducible apply frame_foldl
    | with_reducible apply frame_foldr
    | split

theorem execModbusWriteMultiple_answers {P : Parts} {s0 : State} (conn : ℕ) (addr : BitVec 16) (vals : List (BitVec 16)) {s : State} (hs0 : Frame P s0 s) (h_mg : P.mg = true) (h_mb : P.mb = true) (h_pb : P.pb = true) (h_tw : P.tw = true) :
    Answers P s0 (execModbusWriteMultiple conn addr vals s) := by
  unfold execModbusWriteMultiple
  repeat' first
    | with_reducible assumption
    | (intro sv; refine frame_cut (a := Frame P s0 sv) ?_ ?_; on_goal 2 => dsimp -zeta only [sv]; on_goal 1 => clear_value sv)
    | (intro sv; clear_value sv)
    | intro _
    | with_reducible apply answers_next
    | with_reducible apply answers_ite
    | lift_lets -underBinder
    | with_reducible apply mbWrite_frame
    | with_reducible apply frame_ite
    | with_reducible apply frame_foldl
    | with_reducible apply frame_foldr
    | split

theorem execModbusAlarmAck_answers {P : Parts} {s0 : State} (conn : ℕ) {s : State} (hs0 : Frame P s0 s) (h_mg : P.mg = true) (h_mb : P.mb = true) (h_pb : P.pb = true) (h_tw : P.tw = true) :
    Answers P s0 (execModbusAlarmAck conn s) := by
  unfold execModbusAlarmAck
  repeat' first
    | with_reducible assumption
    | (intro sv; refine frame_cut (a := Frame P s0 sv) ?_ ?_; on_goal 2 => dsimp -zeta only [sv]; on_goal 1 => clear_value sv)
    | (intro sv; clear_value sv)
    | intro _
    | with_reducible apply answers_next
    | with_reducible apply answers_ite
    | lift_lets -underBinder
    | with_reducible apply mbWrite_frame
    | with_reducible apply frame_ite
    | with_reducible apply frame_foldl
    | with_reducible apply frame_foldr
    | split

theorem execModbusBadFunction_answers {P : Parts} {s0 : State} (conn : ℕ) {s : State} (hs0 : Frame P s0 s) (h_mg : P.mg = true) (h_mb : P.mb = true) :
    Answers P s0 (execModbusBadFunction conn s) := by
  unfold execModbusBadFunction
  repeat' first
    | with_reducible assumption
    | (intro sv; refine frame_cut (a := Frame P s0 sv) ?_ ?_; on_goal 2 => dsimp -zeta only [sv]; on_goal 1 => clear_value sv)
    | (intro sv; clear_value sv)
    | intro _
    | with_reducible apply answers_next
    | with_reducible apply answers_ite
    | lift_lets -underBinder
    | with_reducible apply mbAnswer_frame
    | with_reducible apply frame_ite
    | with_reducible apply frame_foldl
    | with_reducible apply frame_foldr
    | split

theorem execModbusConnection_answers {P : Parts} {s0 : State} (conn : ℕ) {s : State} (hs0 : Frame P s0 s) (h_mg : P.mg = true) :
    Answers P s0 (execModbusConnection conn s) := by
  unfold execModbusConnection
  repeat' first
    | with_reducible assumption
    | (intro sv; refine frame_cut (a := Frame P s0 sv) ?_ ?_; on_goal 2 => dsimp -zeta only [sv]; on_goal 1 => clear_value sv)
    | (intro sv; clear_value sv)
    | intro _
    | with_reducible apply answers_next
    | with_reducible apply answers_ite
    | lift_lets -underBinder
    | with_reducible apply onMg_frame
    | with_reducible apply frame_ite
    | with_reducible apply frame_foldl
    | with_reducible apply frame_foldr
    | split

theorem execModbusIdleClose_answers {P : Parts} {s0 : State} (conn : ℕ) {s : State} (hs0 : Frame P s0 s) (h_mg : P.mg = true) :
    Answers P s0 (execModbusIdleClose conn s) := by
  unfold execModbusIdleClose
  repeat' first
    | with_reducible assumption
    | (intro sv; refine frame_cut (a := Frame P s0 sv) ?_ ?_; on_goal 2 => dsimp -zeta only [sv]; on_goal 1 => clear_value sv)
    | (intro sv; clear_value sv)
    | intro _
    | with_reducible apply answers_next
    | with_reducible apply answers_ite
    | lift_lets -underBinder
    | with_reducible apply onMg_frame
    | with_reducible apply frame_ite
    | with_reducible apply frame_foldl
    | with_reducible apply frame_foldr
    | split

end Sys2Proof.Machine
end

