-- ==== Sys2Proof/Laws/ModelsFrame.lean ====
section
/-! SUPPORT. What the operations of Machine/Models.lean may touch, and that they keep the memories canonical. -/

namespace Sys2Proof.Machine

theorem modelLoadBody_frame {P : Parts} {s0 : State} {s : State} (p : List Byte) (hs0 : Frame P s0 s) (h_mem : P.mem = true) (h_ca : P.ca = true) :
    Frame P s0 (modelLoadBody s p).st := by
  unfold modelLoadBody
  repeat' first
    | with_reducible assumption
    | (intro sv; refine frame_cut (a := Frame P s0 sv) ?_ ?_; on_goal 2 => dsimp -zeta only [sv]; on_goal 1 => clear_value sv)
    | (intro sv; clear_value sv)
    | intro _
    | lift_lets -underBinder
    | with_reducible apply refuse_frame
    | with_reducible apply ddrWrite_frame
    | with_reducible apply frame_ite
    | with_reducible apply frame_foldl
    | with_reducible apply frame_foldr
    | split

theorem cmdModelLoadChunk_frame {P : Parts} {s0 : State} {s : State} (p : List Byte) (hs0 : Frame P s0 s) (h_mem : P.mem = true) (h_ca : P.ca = true) :
    Frame P s0 (cmdModelLoadChunk.body s p).st := by
  dsimp -zeta only [cmdModelLoadChunk]
  repeat' first
    | with_reducible assumption
    | (intro sv; refine frame_cut (a := Frame P s0 sv) ?_ ?_; on_goal 2 => dsimp -zeta only [sv]; on_goal 1 => clear_value sv)
    | (intro sv; refine frame_cut (a := Frame P s0 sv.st) ?_ ?_; on_goal 2 => dsimp -zeta only [sv]; on_goal 1 => clear_value sv)
    | (intro sv; clear_value sv)
    | intro _
    | lift_lets -underBinder
    | with_reducible apply modelLoadBody_frame
    | with_reducible apply frame_ite
    | with_reducible apply frame_foldl
    | with_reducible apply frame_foldr
    | split

theorem execModelLoadChunk_answers {P : Parts} {s0 : State} (p : List (BitVec 8)) {s : State} (hs0 : Frame P s0 s) (h_regs : P.regs = true) (h_mem : P.mem = true) (h_sys : P.sys = true) (h_dic : P.dic = true) (h_mb : P.mb = true) (h_le : P.le = true) (h_tw : P.tw = true) (h_ca : P.ca = true) :
    Answers P s0 (execModelLoadChunk p s) := by
  unfold execModelLoadChunk
  repeat' first
    | with_reducible assumption
    | (intro sv; refine frame_cut (a := Frame P s0 sv) ?_ ?_; on_goal 2 => dsimp -zeta only [sv]; on_goal 1 => clear_value sv)
    | (intro sv; refine frame_cut (a := Frame P s0 sv.st) ?_ ?_; on_goal 2 => dsimp -zeta only [sv]; on_goal 1 => clear_value sv)
    | (intro sv; clear_value sv)
    | intro _
    | with_reducible apply answers_next
    | with_reducible apply answers_ite
    | lift_lets -underBinder
    | with_reducible apply mailbox_frame
    | with_reducible apply cmdModelLoadChunk_frame
    | with_reducible apply frame_ite
    | with_reducible apply frame_foldl
    | with_reducible apply frame_foldr
    | split

theorem openCommit_frame {P : Parts} {s0 : State} {s : State} (op : ℕ) (tag : ℕ) (c : Commit) (hs0 : Frame P s0 s) (h_mb : P.mb = true) (h_tr : P.tr = true) (h_tw : P.tw = true) :
    Frame P s0 (State.openCommit s op tag c) := by
  unfold State.openCommit
  repeat' first
    | with_reducible assumption
    | (intro sv; refine frame_cut (a := Frame P s0 sv) ?_ ?_; on_goal 2 => dsimp -zeta only [sv]; on_goal 1 => clear_value sv)
    | (intro sv; clear_value sv)
    | intro _
    | lift_lets -underBinder
    | with_reducible apply onTr_frame
    | with_reducible apply journalStep_frame
    | with_reducible apply openJournal_frame
    | with_reducible apply frame_ite
    | with_reducible apply frame_foldl
    | with_reducible apply frame_foldr
    | split

theorem commitModelBody_frame {P : Parts} {s0 : State} {s : State} (p : List Byte) (hs0 : Frame P s0 s) (h_mb : P.mb = true) (h_tr : P.tr = true) (h_tw : P.tw = true) :
    Frame P s0 (commitModelBody s p).st := by
  unfold commitModelBody
  repeat' first
    | with_reducible assumption
    | (intro sv; refine frame_cut (a := Frame P s0 sv) ?_ ?_; on_goal 2 => dsimp -zeta only [sv]; on_goal 1 => clear_value sv)
    | (intro sv; clear_value sv)
    | intro _
    | lift_lets -underBinder
    | with_reducible apply refuse_frame
    | with_reducible apply openCommit_frame
    | with_reducible apply frame_ite
    | with_reducible apply frame_foldl
    | with_reducible apply frame_foldr
    | split

theorem cmdCommitModel_frame {P : Parts} {s0 : State} {s : State} (p : List Byte) (hs0 : Frame P s0 s) (h_mb : P.mb = true) (h_tr : P.tr = true) (h_tw : P.tw = true) :
    Frame P s0 (cmdCommitModel.body s p).st := by
  dsimp -zeta only [cmdCommitModel]
  repeat' first
    | with_reducible assumption
    | (intro sv; refine frame_cut (a := Frame P s0 sv) ?_ ?_; on_goal 2 => dsimp -zeta only [sv]; on_goal 1 => clear_value sv)
    | (intro sv; refine frame_cut (a := Frame P s0 sv.st) ?_ ?_; on_goal 2 => dsimp -zeta only [sv]; on_goal 1 => clear_value sv)
    | (intro sv; clear_value sv)
    | intro _
    | lift_lets -underBinder
    | with_reducible apply commitModelBody_frame
    | with_reducible apply frame_ite
    | with_reducible apply frame_foldl
    | with_reducible apply frame_foldr
    | split

theorem execCommitModel_answers {P : Parts} {s0 : State} (p : List (BitVec 8)) {s : State} (hs0 : Frame P s0 s) (h_regs : P.regs = true) (h_sys : P.sys = true) (h_dic : P.dic = true) (h_mb : P.mb = true) (h_le : P.le = true) (h_tr : P.tr = true) (h_tw : P.tw = true) :
    Answers P s0 (execCommitModel p s) := by
  unfold execCommitModel
  repeat' first
    | with_reducible assumption
    | (intro sv; refine frame_cut (a := Frame P s0 sv) ?_ ?_; on_goal 2 => dsimp -zeta only [sv]; on_goal 1 => clear_value sv)
    | (intro sv; refine frame_cut (a := Frame P s0 sv.st) ?_ ?_; on_goal 2 => dsimp -zeta only [sv]; on_goal 1 => clear_value sv)
    | (intro sv; clear_value sv)
    | intro _
    | with_reducible apply answers_next
    | with_reducible apply answers_ite
    | lift_lets -underBinder
    | with_reducible apply mailbox_frame
    | with_reducible apply cmdCommitModel_frame
    | with_reducible apply frame_ite
    | with_reducible apply frame_foldl
    | with_reducible apply frame_foldr
    | split

theorem revertModelBody_frame {P : Parts} {s0 : State} {s : State} (p : List Byte) (hs0 : Frame P s0 s) (h_regs : P.regs = true) (h_sys : P.sys = true) (h_mg : P.mg = true) (h_mb : P.mb = true) (h_le : P.le = true) (h_pf : P.pf = true) (h_tr : P.tr = true) (h_tw : P.tw = true) :
    Frame P s0 (revertModelBody s p).st := by
  unfold revertModelBody
  repeat' first
    | with_reducible assumption
    | (intro sv; refine frame_cut (a := Frame P s0 sv) ?_ ?_; on_goal 2 => dsimp -zeta only [sv]; on_goal 1 => clear_value sv)
    | (intro sv; clear_value sv)
    | intro _
    | lift_lets -underBinder
    | with_reducible apply refuse_frame
    | with_reducible apply openCommit_frame
    | with_reducible apply toReactive_frame
    | with_reducible apply journalStep_frame
    | with_reducible apply frame_ite
    | with_reducible apply frame_foldl
    | with_reducible apply frame_foldr
    | split

theorem cmdRevertModel_frame {P : Parts} {s0 : State} {s : State} (p : List Byte) (hs0 : Frame P s0 s) (h_regs : P.regs = true) (h_sys : P.sys = true) (h_mg : P.mg = true) (h_mb : P.mb = true) (h_le : P.le = true) (h_pf : P.pf = true) (h_tr : P.tr = true) (h_tw : P.tw = true) :
    Frame P s0 (cmdRevertModel.body s p).st := by
  dsimp -zeta only [cmdRevertModel]
  repeat' first
    | with_reducible assumption
    | (intro sv; refine frame_cut (a := Frame P s0 sv) ?_ ?_; on_goal 2 => dsimp -zeta only [sv]; on_goal 1 => clear_value sv)
    | (intro sv; refine frame_cut (a := Frame P s0 sv.st) ?_ ?_; on_goal 2 => dsimp -zeta only [sv]; on_goal 1 => clear_value sv)
    | (intro sv; clear_value sv)
    | intro _
    | lift_lets -underBinder
    | with_reducible apply revertModelBody_frame
    | with_reducible apply frame_ite
    | with_reducible apply frame_foldl
    | with_reducible apply frame_foldr
    | split

theorem execRevertModel_answers {P : Parts} {s0 : State} (p : List (BitVec 8)) {s : State} (hs0 : Frame P s0 s) (h_regs : P.regs = true) (h_sys : P.sys = true) (h_dic : P.dic = true) (h_mg : P.mg = true) (h_mb : P.mb = true) (h_le : P.le = true) (h_pf : P.pf = true) (h_tr : P.tr = true) (h_tw : P.tw = true) :
    Answers P s0 (execRevertModel p s) := by
  unfold execRevertModel
  repeat' first
    | with_reducible assumption
    | (intro sv; refine frame_cut (a := Frame P s0 sv) ?_ ?_; on_goal 2 => dsimp -zeta only [sv]; on_goal 1 => clear_value sv)
    | (intro sv; refine frame_cut (a := Frame P s0 sv.st) ?_ ?_; on_goal 2 => dsimp -zeta only [sv]; on_goal 1 => clear_value sv)
    | (intro sv; clear_value sv)
    | intro _
    | with_reducible apply answers_next
    | with_reducible apply answers_ite
    | lift_lets -underBinder
    | with_reducible apply mailbox_frame
    | with_reducible apply cmdRevertModel_frame
    | with_reducible apply frame_ite
    | with_reducible apply frame_foldl
    | with_reducible apply frame_foldr
    | split

theorem admissionReportBody_frame {P : Parts} {s0 : State} {s : State} (p : List Byte) (hs0 : Frame P s0 s) :
    Frame P s0 (admissionReportBody s p).st := by
  unfold admissionReportBody
  repeat' first
    | with_reducible assumption
    | (intro sv; refine frame_cut (a := Frame P s0 sv) ?_ ?_; on_goal 2 => dsimp -zeta only [sv]; on_goal 1 => clear_value sv)
    | (intro sv; clear_value sv)
    | intro _
    | lift_lets -underBinder
    | with_reducible apply refuse_frame
    | with_reducible apply frame_ite
    | with_reducible apply frame_foldl
    | with_reducible apply frame_foldr
    | split

theorem cmdAdmissionReport_frame {P : Parts} {s0 : State} {s : State} (p : List Byte) (hs0 : Frame P s0 s) :
    Frame P s0 (cmdAdmissionReport.body s p).st := by
  dsimp -zeta only [cmdAdmissionReport]
  repeat' first
    | with_reducible assumption
    | (intro sv; refine frame_cut (a := Frame P s0 sv) ?_ ?_; on_goal 2 => dsimp -zeta only [sv]; on_goal 1 => clear_value sv)
    | (intro sv; refine frame_cut (a := Frame P s0 sv.st) ?_ ?_; on_goal 2 => dsimp -zeta only [sv]; on_goal 1 => clear_value sv)
    | (intro sv; clear_value sv)
    | intro _
    | lift_lets -underBinder
    | with_reducible apply admissionReportBody_frame
    | with_reducible apply frame_ite
    | with_reducible apply frame_foldl
    | with_reducible apply frame_foldr
    | split

theorem execAdmissionReport_answers {P : Parts} {s0 : State} (p : List (BitVec 8)) {s : State} (hs0 : Frame P s0 s) (h_regs : P.regs = true) (h_sys : P.sys = true) (h_dic : P.dic = true) (h_mb : P.mb = true) (h_le : P.le = true) (h_tw : P.tw = true) :
    Answers P s0 (execAdmissionReport p s) := by
  unfold execAdmissionReport
  repeat' first
    | with_reducible assumption
    | (intro sv; refine frame_cut (a := Frame P s0 sv) ?_ ?_; on_goal 2 => dsimp -zeta only [sv]; on_goal 1 => clear_value sv)
    | (intro sv; refine frame_cut (a := Frame P s0 sv.st) ?_ ?_; on_goal 2 => dsimp -zeta only [sv]; on_goal 1 => clear_value sv)
    | (intro sv; clear_value sv)
    | intro _
    | with_reducible apply answers_next
    | with_reducible apply answers_ite
    | lift_lets -underBinder
    | with_reducible apply mailbox_frame
    | with_reducible apply cmdAdmissionReport_frame
    | with_reducible apply frame_ite
    | with_reducible apply frame_foldl
    | with_reducible apply frame_foldr
    | split

end Sys2Proof.Machine
end

