-- ==== Sys2Proof/Laws/SnapshotsFrame.lean ====
section
/-! SUPPORT. What the operations of Machine/Snapshots.lean may touch, and that they keep the memories canonical. -/

namespace Sys2Proof.Machine

theorem addSnap_frame {P : Parts} {s0 : State} {s : State} (t : ℕ) (tag : ℕ) (hs0 : Frame P s0 s) (h_mb : P.mb = true) (h_tw : P.tw = true) :
    Frame P s0 (State.addSnap s t tag) := by
  unfold State.addSnap
  repeat' first
    | with_reducible assumption
    | (intro sv; refine frame_cut (a := Frame P s0 sv) ?_ ?_; on_goal 2 => dsimp -zeta only [sv]; on_goal 1 => clear_value sv)
    | (intro sv; clear_value sv)
    | intro _
    | lift_lets -underBinder
    | with_reducible apply onMb_frame
    | with_reducible apply openJournal_frame
    | with_reducible apply frame_ite
    | with_reducible apply frame_foldl
    | with_reducible apply frame_foldr
    | split

theorem snapshotAtBody_frame {P : Parts} {s0 : State} {s : State} (p : List Byte) (hs0 : Frame P s0 s) (h_mb : P.mb = true) (h_tw : P.tw = true) :
    Frame P s0 (snapshotAtBody s p).st := by
  unfold snapshotAtBody
  repeat' first
    | with_reducible assumption
    | (intro sv; refine frame_cut (a := Frame P s0 sv) ?_ ?_; on_goal 2 => dsimp -zeta only [sv]; on_goal 1 => clear_value sv)
    | (intro sv; clear_value sv)
    | intro _
    | lift_lets -underBinder
    | with_reducible apply refuse_frame
    | with_reducible apply addSnap_frame
    | with_reducible apply frame_ite
    | with_reducible apply frame_foldl
    | with_reducible apply frame_foldr
    | split

theorem cmdSnapshotAt_frame {P : Parts} {s0 : State} {s : State} (p : List Byte) (hs0 : Frame P s0 s) (h_mb : P.mb = true) (h_tw : P.tw = true) :
    Frame P s0 (cmdSnapshotAt.body s p).st := by
  dsimp -zeta only [cmdSnapshotAt]
  repeat' first
    | with_reducible assumption
    | (intro sv; refine frame_cut (a := Frame P s0 sv) ?_ ?_; on_goal 2 => dsimp -zeta only [sv]; on_goal 1 => clear_value sv)
    | (intro sv; refine frame_cut (a := Frame P s0 sv.st) ?_ ?_; on_goal 2 => dsimp -zeta only [sv]; on_goal 1 => clear_value sv)
    | (intro sv; clear_value sv)
    | intro _
    | lift_lets -underBinder
    | with_reducible apply snapshotAtBody_frame
    | with_reducible apply frame_ite
    | with_reducible apply frame_foldl
    | with_reducible apply frame_foldr
    | split

theorem execSnapshotAt_answers {P : Parts} {s0 : State} (p : List (BitVec 8)) {s : State} (hs0 : Frame P s0 s) (h_regs : P.regs = true) (h_sys : P.sys = true) (h_dic : P.dic = true) (h_mb : P.mb = true) (h_le : P.le = true) (h_tw : P.tw = true) :
    Answers P s0 (execSnapshotAt p s) := by
  unfold execSnapshotAt
  repeat' first
    | with_reducible assumption
    | (intro sv; refine frame_cut (a := Frame P s0 sv) ?_ ?_; on_goal 2 => dsimp -zeta only [sv]; on_goal 1 => clear_value sv)
    | (intro sv; refine frame_cut (a := Frame P s0 sv.st) ?_ ?_; on_goal 2 => dsimp -zeta only [sv]; on_goal 1 => clear_value sv)
    | (intro sv; clear_value sv)
    | intro _
    | with_reducible apply answers_next
    | with_reducible apply answers_ite
    | lift_lets -underBinder
    | with_reducible apply mailbox_frame
    | with_reducible apply cmdSnapshotAt_frame
    | with_reducible apply frame_ite
    | with_reducible apply frame_foldl
    | with_reducible apply frame_foldr
    | split

theorem onSnap_frame {P : Parts} {s0 : State} {s : State} (j : ℕ) (f : Snap → Snap) (hs0 : Frame P s0 s) (h_mb : P.mb = true) :
    Frame P s0 (State.onSnap s j f) := by
  unfold State.onSnap
  repeat' first
    | with_reducible assumption
    | (intro sv; refine frame_cut (a := Frame P s0 sv) ?_ ?_; on_goal 2 => dsimp -zeta only [sv]; on_goal 1 => clear_value sv)
    | (intro sv; clear_value sv)
    | intro _
    | lift_lets -underBinder
    | with_reducible apply onMb_frame
    | with_reducible apply frame_ite
    | with_reducible apply frame_foldl
    | with_reducible apply frame_foldr
    | split

theorem dropSnap_frame {P : Parts} {s0 : State} {s : State} (j : ℕ) (hs0 : Frame P s0 s) (h_mb : P.mb = true) :
    Frame P s0 (State.dropSnap s j) := by
  unfold State.dropSnap
  repeat' first
    | with_reducible assumption
    | (intro sv; refine frame_cut (a := Frame P s0 sv) ?_ ?_; on_goal 2 => dsimp -zeta only [sv]; on_goal 1 => clear_value sv)
    | (intro sv; clear_value sv)
    | intro _
    | lift_lets -underBinder
    | with_reducible apply onMb_frame
    | with_reducible apply frame_ite
    | with_reducible apply frame_foldl
    | with_reducible apply frame_foldr
    | split

theorem latchSnap_frame {P : Parts} {s0 : State} {s : State} (x : Snap) (hs0 : Frame P s0 s) (h_mb : P.mb = true) (h_tw : P.tw = true) :
    Frame P s0 (State.latchSnap s x) := by
  unfold State.latchSnap
  repeat' first
    | with_reducible assumption
    | (intro sv; refine frame_cut (a := Frame P s0 sv) ?_ ?_; on_goal 2 => dsimp -zeta only [sv]; on_goal 1 => clear_value sv)
    | (intro sv; clear_value sv)
    | intro _
    | lift_lets -underBinder
    | with_reducible apply journalEnd_frame
    | with_reducible apply dropSnap_frame
    | with_reducible apply journalStep_frame
    | with_reducible apply onSnap_frame
    | with_reducible apply frame_ite
    | with_reducible apply frame_foldl
    | with_reducible apply frame_foldr
    | split

theorem execSnapshotLatch_answers {P : Parts} {s0 : State} {s : State} (hs0 : Frame P s0 s) (h_mb : P.mb = true) (h_tw : P.tw = true) :
    Answers P s0 (execSnapshotLatch s) := by
  unfold execSnapshotLatch
  repeat' first
    | with_reducible assumption
    | (intro sv; refine frame_cut (a := Frame P s0 sv) ?_ ?_; on_goal 2 => dsimp -zeta only [sv]; on_goal 1 => clear_value sv)
    | (intro sv; clear_value sv)
    | intro _
    | with_reducible apply answers_next
    | with_reducible apply answers_ite
    | lift_lets -underBinder
    | with_reducible apply latchSnap_frame
    | with_reducible apply frame_ite
    | with_reducible apply frame_foldl
    | with_reducible apply frame_foldr
    | split

theorem clearBytes_frame {P : Parts} {s0 : State} {s : State} (a n : Nat) (hs0 : Frame P s0 s) (h_mem : P.mem = true) :
    Frame P s0 (s.clearBytes a n) := set_mem_frame (twf_filter _ _ _) hs0 h_mem

theorem writeSnap_frame {P : Parts} {s0 : State} {s : State} (x : Snap) (hs0 : Frame P s0 s) (h_mem : P.mem = true) (h_mb : P.mb = true) (h_tw : P.tw = true) (h_ca : P.ca = true) :
    Frame P s0 (State.writeSnap s x) := by
  unfold State.writeSnap
  repeat' first
    | with_reducible assumption
    | (intro sv; refine frame_cut (a := Frame P s0 sv) ?_ ?_; on_goal 2 => dsimp -zeta only [sv]; on_goal 1 => clear_value sv)
    | (intro sv; clear_value sv)
    | intro _
    | lift_lets -underBinder
    | with_reducible apply setByte_frame
    | with_reducible apply clearBytes_frame
    | with_reducible apply dropSnap_frame
    | with_reducible apply journalStep_frame
    | with_reducible apply unpoison_frame
    | with_reducible apply setBytes_frame
    | with_reducible apply frame_ite
    | with_reducible apply frame_foldl
    | with_reducible apply frame_foldr
    | split

theorem execSnapshotWritten_answers {P : Parts} {s0 : State} {s : State} (hs0 : Frame P s0 s) (h_mem : P.mem = true) (h_mb : P.mb = true) (h_tw : P.tw = true) (h_ca : P.ca = true) :
    Answers P s0 (execSnapshotWritten s) := by
  unfold execSnapshotWritten
  repeat' first
    | with_reducible assumption
    | (intro sv; refine frame_cut (a := Frame P s0 sv) ?_ ?_; on_goal 2 => dsimp -zeta only [sv]; on_goal 1 => clear_value sv)
    | (intro sv; clear_value sv)
    | intro _
    | with_reducible apply answers_next
    | with_reducible apply answers_ite
    | lift_lets -underBinder
    | with_reducible apply writeSnap_frame
    | with_reducible apply frame_ite
    | with_reducible apply frame_foldl
    | with_reducible apply frame_foldr
    | split

end Sys2Proof.Machine
end

