-- ==== Sys2Proof/Laws/InStepFrame.lean ====
section
/-! SUPPORT. What the operations of Machine/InStep.lean may touch, and that they keep the memories canonical. -/

namespace Sys2Proof.Machine

theorem forwardedCmds_frame {P : Parts} {s0 : State} {c : Cmd} (hc : c ∈ forwardedCmds) {s : State} (p : List Byte) (hs0 : Frame P s0 s) (h_free : P.free = true) (h_regs : P.regs = true) (h_mem : P.mem = true) (h_sys : P.sys = true) (h_mg : P.mg = true) (h_mb : P.mb = true) (h_pb : P.pb = true) (h_vq : P.vq = true) (h_le : P.le = true) (h_sv : P.sv = true) (h_pf : P.pf = true) (h_tr : P.tr = true) (h_fb : P.fb = true) (h_tw : P.tw = true) (h_ca : P.ca = true) :
    Frame P s0 (c.body s p).st := by
  simp only [forwardedCmds, List.mem_cons, List.not_mem_nil, or_false] at hc
  rcases hc with rfl | rfl | rfl | rfl | rfl | rfl | rfl | rfl | rfl | rfl | rfl | rfl | rfl | rfl | rfl | rfl | rfl | rfl | rfl
  · apply cmdSetMode_frame <;> assumption
  · apply cmdConfigWrite_frame <;> assumption
  · apply cmdContextAdd_frame <;> assumption
  · apply cmdContextRemove_frame <;> assumption
  · apply cmdSetBudget_frame <;> assumption
  · apply cmdSetLease_frame <;> assumption
  · apply cmdModelLoadChunk_frame <;> assumption
  · apply cmdCommitModel_frame <;> assumption
  · apply cmdRevertModel_frame <;> assumption
  · apply cmdLoopSet_frame <;> assumption
  · apply cmdInjectStart_frame <;> assumption
  · apply cmdBobbinArm_frame <;> assumption
  · apply cmdValveSequence_frame <;> assumption
  · apply cmdPumpSet_frame <;> assumption
  · apply cmdTableWrite_frame <;> assumption
  · apply cmdUpdateBegin_frame <;> assumption
  · apply cmdUpdateChunk_frame <;> assumption
  · apply cmdUpdateEnd_frame <;> assumption
  · apply cmdCalibrationControl_frame <;> assumption

theorem runForwarded_frame {P : Parts} {s0 : State} {s : State} (f : List Byte) (hs0 : Frame P s0 s) (h_free : P.free = true) (h_regs : P.regs = true) (h_mem : P.mem = true) (h_sys : P.sys = true) (h_mg : P.mg = true) (h_mb : P.mb = true) (h_pb : P.pb = true) (h_vq : P.vq = true) (h_le : P.le = true) (h_sv : P.sv = true) (h_pf : P.pf = true) (h_tr : P.tr = true) (h_fb : P.fb = true) (h_tw : P.tw = true) (h_ca : P.ca = true) :
    Frame P s0 (State.runForwarded s f) := by
  unfold State.runForwarded
  repeat' first
    | with_reducible assumption
    | (intro sv; refine frame_cut (a := Frame P s0 sv) ?_ ?_; on_goal 2 => dsimp -zeta only [sv]; on_goal 1 => clear_value sv)
    | (intro sv; refine frame_cut (a := Frame P s0 sv.st) ?_ ?_; on_goal 2 => dsimp -zeta only [sv]; on_goal 1 => clear_value sv)
    | (intro sv; clear_value sv)
    | intro _
    | lift_lets -underBinder
    | with_reducible apply onMb_frame
    | with_reducible apply keepTag_frame
    | with_reducible apply addSnap_frame
    | with_reducible apply scheduleReset_frame
    | with_reducible apply consoleOut_frame
    | refine forwardedCmds_frame (List.mem_of_find?_eq_some (by assumption)) ?_ ?_ ?_ ?_ ?_ ?_ ?_ ?_ ?_ ?_ ?_ ?_ ?_ ?_ ?_ ?_ ?_ 
    | with_reducible apply accept_frame
    | with_reducible apply frame_ite
    | with_reducible apply frame_foldl
    | with_reducible apply frame_foldr
    | split

theorem runPost_frame {P : Parts} {s0 : State} {s : State} (p : List Byte) (hs0 : Frame P s0 s) (h_pb : P.pb = true) :
    Frame P s0 (State.runPost s p) := by
  unfold State.runPost
  repeat' first
    | with_reducible assumption
    | (intro sv; refine frame_cut (a := Frame P s0 sv) ?_ ?_; on_goal 2 => dsimp -zeta only [sv]; on_goal 1 => clear_value sv)
    | (intro sv; clear_value sv)
    | intro _
    | lift_lets -underBinder
    | with_reducible apply onPb_frame
    | with_reducible apply frame_ite
    | with_reducible apply frame_foldl
    | with_reducible apply frame_foldr
    | split

theorem runEntries_frame {P : Parts} {s0 : State} {s : State} (p : List Byte) (hs0 : Frame P s0 s) (h_mg : P.mg = true) (h_mb : P.mb = true) (h_pb : P.pb = true) :
    Frame P s0 (State.runEntries s p) := by
  unfold State.runEntries
  repeat' first
    | with_reducible assumption
    | (intro sv; refine frame_cut (a := Frame P s0 sv) ?_ ?_; on_goal 2 => dsimp -zeta only [sv]; on_goal 1 => clear_value sv)
    | (intro sv; clear_value sv)
    | intro _
    | lift_lets -underBinder
    | with_reducible apply mbBudget_frame
    | with_reducible apply mbStage_frame
    | with_reducible apply frame_ite
    | with_reducible apply frame_foldl
    | with_reducible apply frame_foldr
    | split

theorem runCompletion_frame {P : Parts} {s0 : State} {s : State} (p : List Byte) (hs0 : Frame P s0 s) (h_regs : P.regs = true) (h_dic : P.dic = true) (h_mg : P.mg = true) (h_pb : P.pb = true) (h_le : P.le = true) :
    Frame P s0 (State.runCompletion s p) := by
  unfold State.runCompletion
  repeat' first
    | with_reducible assumption
    | (intro sv; refine frame_cut (a := Frame P s0 sv) ?_ ?_; on_goal 2 => dsimp -zeta only [sv]; on_goal 1 => clear_value sv)
    | (intro sv; clear_value sv)
    | intro _
    | lift_lets -underBinder
    | with_reducible apply incSat_frame
    | with_reducible apply setPbCtx_frame
    | with_reducible apply unreachable_frame
    | with_reducible apply dropCtx_frame
    | with_reducible apply putBit_frame
    | with_reducible apply wr64_frame
    | with_reducible apply wr_frame
    | with_reducible apply frame_ite
    | with_reducible apply frame_foldl
    | with_reducible apply frame_foldr
    | split

theorem runCycle_frame {P : Parts} {s0 : State} {s : State} (p : List Byte) (ok : Bool) (hs0 : Frame P s0 s) (h_regs : P.regs = true) (h_dic : P.dic = true) (h_mg : P.mg = true) (h_le : P.le = true) (h_pf : P.pf = true) (h_fb : P.fb = true) :
    Frame P s0 (State.runCycle s p ok) := by
  unfold State.runCycle
  repeat' first
    | with_reducible assumption
    | (intro sv; refine frame_cut (a := Frame P s0 sv) ?_ ?_; on_goal 2 => dsimp -zeta only [sv]; on_goal 1 => clear_value sv)
    | (intro sv; clear_value sv)
    | intro _
    | lift_lets -underBinder
    | with_reducible apply endInterval_frame
    | with_reducible apply setFbCh_frame
    | with_reducible apply frame_ite
    | with_reducible apply frame_foldl
    | with_reducible apply frame_foldr
    | split

theorem takeRope_frame {P : Parts} {s0 : State} {s : State} (n : ℕ) (w : ℕ) (hs0 : Frame P s0 s) (h_regs : P.regs = true) (h_sys : P.sys = true) (h_dic : P.dic = true) (h_mg : P.mg = true) (h_le : P.le = true) (h_sn : P.sn = true) :
    Frame P s0 (State.takeRope s n w) := by
  unfold State.takeRope
  repeat' first
    | with_reducible assumption
    | (intro sv; refine frame_cut (a := Frame P s0 sv) ?_ ?_; on_goal 2 => dsimp -zeta only [sv]; on_goal 1 => clear_value sv)
    | (intro sv; clear_value sv)
    | intro _
    | lift_lets -underBinder
    | with_reducible apply wr_frame
    | with_reducible apply confirmLeak_frame
    | with_reducible apply setTmInput_frame
    | with_reducible apply frame_ite
    | with_reducible apply frame_foldl
    | with_reducible apply frame_foldr
    | split

theorem takePoint_frame {P : Parts} {s0 : State} {s : State} (j : ℕ) (code : ℕ) (hs0 : Frame P s0 s) (h_regs : P.regs = true) (h_sys : P.sys = true) (h_dic : P.dic = true) (h_mg : P.mg = true) (h_le : P.le = true) (h_sn : P.sn = true) :
    Frame P s0 (State.takePoint s j code) := by
  unfold State.takePoint
  repeat' first
    | with_reducible assumption
    | (intro sv; refine frame_cut (a := Frame P s0 sv) ?_ ?_; on_goal 2 => dsimp -zeta only [sv]; on_goal 1 => clear_value sv)
    | (intro sv; clear_value sv)
    | intro _
    | lift_lets -underBinder
    | with_reducible apply wetSample_frame
    | with_reducible apply setTmInput_frame
    | with_reducible apply wr_frame
    | with_reducible apply frame_ite
    | with_reducible apply frame_foldl
    | with_reducible apply frame_foldr
    | split

theorem takeLeaks_frame {P : Parts} {s0 : State} {s : State} (words : List ℕ) (hs0 : Frame P s0 s) (h_regs : P.regs = true) (h_sys : P.sys = true) (h_dic : P.dic = true) (h_mg : P.mg = true) (h_le : P.le = true) (h_sn : P.sn = true) :
    Frame P s0 (State.takeLeaks s words) := by
  unfold State.takeLeaks
  repeat' first
    | with_reducible assumption
    | (intro sv; refine frame_cut (a := Frame P s0 sv) ?_ ?_; on_goal 2 => dsimp -zeta only [sv]; on_goal 1 => clear_value sv)
    | (intro sv; clear_value sv)
    | intro _
    | lift_lets -underBinder
    | with_reducible apply takeRope_frame
    | with_reducible apply takePoint_frame
    | with_reducible apply frame_ite
    | with_reducible apply frame_foldl
    | with_reducible apply frame_foldr
    | split

theorem runSamples_frame {P : Parts} {s0 : State} {s : State} (p : List Byte) (hs0 : Frame P s0 s) (h_regs : P.regs = true) (h_sys : P.sys = true) (h_dic : P.dic = true) (h_mg : P.mg = true) (h_vq : P.vq = true) (h_le : P.le = true) (h_sn : P.sn = true) :
    Frame P s0 (State.runSamples s p) := by
  unfold State.runSamples
  repeat' first
    | with_reducible assumption
    | (intro sv; refine frame_cut (a := Frame P s0 sv) ?_ ?_; on_goal 2 => dsimp -zeta only [sv]; on_goal 1 => clear_value sv)
    | (intro sv; clear_value sv)
    | intro _
    | lift_lets -underBinder
    | with_reducible apply samplePacketAt_frame
    | with_reducible apply takeLeaks_frame
    | with_reducible apply frame_ite
    | with_reducible apply frame_foldl
    | with_reducible apply frame_foldr
    | split

theorem runField_frame {P : Parts} {s0 : State} {s : State} (p : List Byte) (hs0 : Frame P s0 s) (h_regs : P.regs = true) (h_sys : P.sys = true) (h_dic : P.dic = true) (h_mg : P.mg = true) (h_mb : P.mb = true) (h_pb : P.pb = true) (h_le : P.le = true) (h_sv : P.sv = true) (h_pf : P.pf = true) (h_tr : P.tr = true) (h_tw : P.tw = true) :
    Frame P s0 (State.runField s p) := by
  unfold State.runField
  repeat' first
    | with_reducible assumption
    | (intro sv; refine frame_cut (a := Frame P s0 sv) ?_ ?_; on_goal 2 => dsimp -zeta only [sv]; on_goal 1 => clear_value sv)
    | (intro sv; clear_value sv)
    | intro _
    | lift_lets -underBinder
    | with_reducible apply onTw_frame
    | with_reducible apply stopNow_frame
    | with_reducible apply frame_ite
    | with_reducible apply frame_foldl
    | with_reducible apply frame_foldr
    | split

theorem runRecords_frame {P : Parts} {s0 : State} {s : State} (p : List Byte) (hs0 : Frame P s0 s) (h_regs : P.regs = true) (h_sv : P.sv = true) :
    Frame P s0 (State.runRecords s p) := by
  unfold State.runRecords
  repeat' first
    | with_reducible assumption
    | (intro sv; refine frame_cut (a := Frame P s0 sv) ?_ ?_; on_goal 2 => dsimp -zeta only [sv]; on_goal 1 => clear_value sv)
    | (intro sv; clear_value sv)
    | intro _
    | lift_lets -underBinder
    | with_reducible apply wr_frame
    | with_reducible apply svForwarded_frame
    | with_reducible apply frame_ite
    | with_reducible apply frame_foldl
    | with_reducible apply frame_foldr
    | split

theorem runInput_frame {P : Parts} {s0 : State} {s : State} (l : List Byte) (hs0 : Frame P s0 s) (h_free : P.free = true) (h_regs : P.regs = true) (h_mem : P.mem = true) (h_sys : P.sys = true) (h_dic : P.dic = true) (h_mg : P.mg = true) (h_mb : P.mb = true) (h_pb : P.pb = true) (h_vq : P.vq = true) (h_le : P.le = true) (h_sv : P.sv = true) (h_pf : P.pf = true) (h_sn : P.sn = true) (h_tr : P.tr = true) (h_fb : P.fb = true) (h_tw : P.tw = true) (h_ca : P.ca = true) :
    Frame P s0 (State.runInput s l) := by
  unfold State.runInput
  repeat' first
    | with_reducible assumption
    | (intro sv; refine frame_cut (a := Frame P s0 sv) ?_ ?_; on_goal 2 => dsimp -zeta only [sv]; on_goal 1 => clear_value sv)
    | (intro sv; clear_value sv)
    | intro _
    | lift_lets -underBinder
    | with_reducible apply runSamples_frame
    | with_reducible apply runField_frame
    | with_reducible apply runForwarded_frame
    | with_reducible apply runPost_frame
    | with_reducible apply onSys_frame
    | with_reducible apply runEntries_frame
    | with_reducible apply rxFrame_frame
    | with_reducible apply wr_frame
    | with_reducible apply runCycle_frame
    | with_reducible apply setFbCh_frame
    | with_reducible apply runCompletion_frame
    | with_reducible apply wr64_frame
    | with_reducible apply runRecords_frame
    | with_reducible apply frame_ite
    | with_reducible apply frame_foldl
    | with_reducible apply frame_foldr
    | exact set_regs_frame (twf_filter _ _ _) (by with_reducible assumption) h_regs
    | exact set_regs_frame (regStores_wf _ _) (by with_reducible assumption) h_regs
    | split

theorem runHeld_frame {P : Parts} {s0 : State} {s : State} (frame : ℕ) (tick : ℕ) (hs0 : Frame P s0 s) (h_free : P.free = true) (h_regs : P.regs = true) (h_mem : P.mem = true) (h_sys : P.sys = true) (h_dic : P.dic = true) (h_mg : P.mg = true) (h_mb : P.mb = true) (h_pb : P.pb = true) (h_vq : P.vq = true) (h_le : P.le = true) (h_sv : P.sv = true) (h_pf : P.pf = true) (h_sn : P.sn = true) (h_tr : P.tr = true) (h_fb : P.fb = true) (h_tw : P.tw = true) (h_ca : P.ca = true) :
    Frame P s0 (State.runHeld s frame tick) := by
  unfold State.runHeld
  repeat' first
    | with_reducible assumption
    | (intro sv; refine frame_cut (a := Frame P s0 sv) ?_ ?_; on_goal 2 => dsimp -zeta only [sv]; on_goal 1 => clear_value sv)
    | (intro sv; clear_value sv)
    | intro _
    | lift_lets -underBinder
    | with_reducible apply runInput_frame
    | with_reducible apply onTw_frame
    | with_reducible apply frame_ite
    | with_reducible apply frame_foldl
    | with_reducible apply frame_foldr
    | split

theorem commitOne_frame {P : Parts} {s0 : State} {s : State} (r : TRec) (hs0 : Frame P s0 s) (h_regs : P.regs = true) (h_dic : P.dic = true) (h_vq : P.vq = true) (h_le : P.le = true) :
    Frame P s0 (State.commitOne s r) := by
  unfold State.commitOne
  repeat' first
    | with_reducible assumption
    | (intro sv; refine frame_cut (a := Frame P s0 sv) ?_ ?_; on_goal 2 => dsimp -zeta only [sv]; on_goal 1 => clear_value sv)
    | (intro sv; clear_value sv)
    | intro _
    | lift_lets -underBinder
    | with_reducible apply commitLines_frame
    | with_reducible apply wr_frame
    | with_reducible apply frame_ite
    | with_reducible apply frame_foldl
    | with_reducible apply frame_foldr
    | split

theorem commitForwarded_frame {P : Parts} {s0 : State} {s : State} (frame : ℕ) (tick : ℕ) (hs0 : Frame P s0 s) (h_regs : P.regs = true) (h_dic : P.dic = true) (h_vq : P.vq = true) (h_le : P.le = true) :
    Frame P s0 (State.commitForwarded s frame tick) := by
  unfold State.commitForwarded
  repeat' first
    | with_reducible assumption
    | (intro sv; refine frame_cut (a := Frame P s0 sv) ?_ ?_; on_goal 2 => dsimp -zeta only [sv]; on_goal 1 => clear_value sv)
    | (intro sv; clear_value sv)
    | intro _
    | lift_lets -underBinder
    | with_reducible apply onVq_frame
    | with_reducible apply commitOne_frame
    | with_reducible apply frame_ite
    | with_reducible apply frame_foldl
    | with_reducible apply frame_foldr
    | split

theorem runDue_frame {P : Parts} {s0 : State} {s : State} (frame : ℕ) (tick : ℕ) (hs0 : Frame P s0 s) (h_free : P.free = true) (h_regs : P.regs = true) (h_mem : P.mem = true) (h_sys : P.sys = true) (h_dic : P.dic = true) (h_mg : P.mg = true) (h_mb : P.mb = true) (h_pb : P.pb = true) (h_vq : P.vq = true) (h_le : P.le = true) (h_sv : P.sv = true) (h_pf : P.pf = true) (h_sn : P.sn = true) (h_tr : P.tr = true) (h_fb : P.fb = true) (h_tw : P.tw = true) (h_ca : P.ca = true) :
    Frame P s0 (State.runDue s frame tick) := by
  unfold State.runDue
  repeat' first
    | with_reducible assumption
    | (intro sv; refine frame_cut (a := Frame P s0 sv) ?_ ?_; on_goal 2 => dsimp -zeta only [sv]; on_goal 1 => clear_value sv)
    | (intro sv; clear_value sv)
    | intro _
    | lift_lets -underBinder
    | with_reducible apply runHeld_frame
    | with_reducible apply commitForwarded_frame
    | with_reducible apply frame_ite
    | with_reducible apply frame_foldl
    | with_reducible apply frame_foldr
    | split

theorem sendPairs_frame {P : Parts} {s0 : State} {s : State} (typ : ℕ) (sub : ℕ) (frame : ℕ) (x4 : ℕ) (x5 : List (ℕ × ℕ)) (hs0 : Frame P s0 s) (h_tw : P.tw = true) :
    Frame P s0 (State.sendPairs s typ sub frame x4 x5) := by
  induction x4 generalizing s typ sub frame x5 with
  | zero => rw [State.sendPairs]; assumption
  | succ n ih =>
    rw [State.sendPairs]
    repeat' first
      | with_reducible assumption
      | (intro sv; refine frame_cut (a := Frame P s0 sv) ?_ ?_; on_goal 2 => dsimp -zeta only [sv]; on_goal 1 => clear_value sv)
      | (intro sv; clear_value sv)
      | intro _
      | lift_lets -underBinder
      | with_reducible apply ih
      | with_reducible apply linkSend_frame
      | with_reducible apply frame_ite
      | with_reducible apply frame_foldl
      | with_reducible apply frame_foldr
      | split

theorem sendFrameEnd_frame {P : Parts} {s0 : State} {s : State} (frame : ℕ) (hs0 : Frame P s0 s) (h_tw : P.tw = true) :
    Frame P s0 (State.sendFrameEnd s frame) := by
  unfold State.sendFrameEnd
  repeat' first
    | with_reducible assumption
    | (intro sv; refine frame_cut (a := Frame P s0 sv) ?_ ?_; on_goal 2 => dsimp -zeta only [sv]; on_goal 1 => clear_value sv)
    | (intro sv; clear_value sv)
    | intro _
    | lift_lets -underBinder
    | with_reducible apply onTw_frame
    | with_reducible apply linkSend_frame
    | with_reducible apply sendPairs_frame
    | with_reducible apply frame_ite
    | with_reducible apply frame_foldl
    | with_reducible apply frame_foldr
    | split

theorem xchkFire_frame {P : Parts} {s0 : State} {s : State} (key : ℕ) (hs0 : Frame P s0 s) (h_regs : P.regs = true) (h_dic : P.dic = true) (h_mg : P.mg = true) (h_le : P.le = true) :
    Frame P s0 (State.xchkFire s key) := by
  unfold State.xchkFire
  repeat' first
    | with_reducible assumption
    | (intro sv; refine frame_cut (a := Frame P s0 sv) ?_ ?_; on_goal 2 => dsimp -zeta only [sv]; on_goal 1 => clear_value sv)
    | (intro sv; clear_value sv)
    | intro _
    | lift_lets -underBinder
    | with_reducible apply wr_frame
    | with_reducible apply note_frame
    | with_reducible apply incSat_frame
    | with_reducible apply frame_ite
    | with_reducible apply frame_foldl
    | with_reducible apply frame_foldr
    | split

theorem crossCheck_frame {P : Parts} {s0 : State} {s : State} (own : List (ℕ × ℕ)) (hs0 : Frame P s0 s) (h_regs : P.regs = true) (h_dic : P.dic = true) (h_mg : P.mg = true) (h_le : P.le = true) (h_tw : P.tw = true) :
    Frame P s0 (State.crossCheck s own) := by
  unfold State.crossCheck
  repeat' first
    | with_reducible assumption
    | (intro sv; refine frame_cut (a := Frame P s0 sv) ?_ ?_; on_goal 2 => dsimp -zeta only [sv]; on_goal 1 => clear_value sv)
    | (intro sv; clear_value sv)
    | intro _
    | lift_lets -underBinder
    | with_reducible apply onTw_frame
    | with_reducible apply xchkFire_frame
    | with_reducible apply putBit_frame
    | with_reducible apply frame_ite
    | with_reducible apply frame_foldl
    | with_reducible apply frame_foldr
    | split

end Sys2Proof.Machine
end

