-- ==== Sys2Proof/Laws/BusFrame.lean ====
section
/-! SUPPORT. What the operations of Machine/Bus.lean may touch, and that they keep the memories canonical. -/

namespace Sys2Proof.Machine

theorem afterEnable_frame {P : Parts} {s0 : State} {s : State} (a : ℕ) (before : ℕ) (hs0 : Frame P s0 s) (h_regs : P.regs = true) (h_pf : P.pf = true) :
    Frame P s0 (State.afterEnable s a before) := by
  unfold State.afterEnable
  repeat' first
    | with_reducible assumption
    | (intro sv; refine frame_cut (a := Frame P s0 sv) ?_ ?_; on_goal 2 => dsimp -zeta only [sv]; on_goal 1 => clear_value sv)
    | (intro sv; clear_value sv)
    | intro _
    | lift_lets -underBinder
    | with_reducible apply disable_frame
    | with_reducible apply frame_ite
    | with_reducible apply frame_foldl
    | with_reducible apply frame_foldr
    | split

theorem afterLeak_frame {P : Parts} {s0 : State} {s : State} (k : ℕ) (before : ℕ) (hs0 : Frame P s0 s) (h_regs : P.regs = true) (h_sn : P.sn = true) :
    Frame P s0 (State.afterLeak s k before) := by
  unfold State.afterLeak
  repeat' first
    | with_reducible assumption
    | (intro sv; refine frame_cut (a := Frame P s0 sv) ?_ ?_; on_goal 2 => dsimp -zeta only [sv]; on_goal 1 => clear_value sv)
    | (intro sv; clear_value sv)
    | intro _
    | lift_lets -underBinder
    | with_reducible apply leakOff_frame
    | with_reducible apply frame_ite
    | with_reducible apply frame_foldl
    | with_reducible apply frame_foldr
    | split

theorem afterTrellis_frame {P : Parts} {s0 : State} {s : State} (before : ℕ) (hs0 : Frame P s0 s) (h_regs : P.regs = true) (h_mg : P.mg = true) (h_tr : P.tr = true) :
    Frame P s0 (State.afterTrellis s before) := by
  unfold State.afterTrellis
  repeat' first
    | with_reducible assumption
    | (intro sv; refine frame_cut (a := Frame P s0 sv) ?_ ?_; on_goal 2 => dsimp -zeta only [sv]; on_goal 1 => clear_value sv)
    | (intro sv; clear_value sv)
    | intro _
    | lift_lets -underBinder
    | with_reducible apply trStop_frame
    | with_reducible apply trSelect_frame
    | with_reducible apply trStatus_frame
    | with_reducible apply frame_ite
    | with_reducible apply frame_foldl
    | with_reducible apply frame_foldr
    | split

theorem nvEnabled_frame {P : Parts} {s0 : State} {s : State} (e : ℕ) (before : ℕ) (hs0 : Frame P s0 s) (h_regs : P.regs = true) (h_fb : P.fb = true) :
    Frame P s0 (State.nvEnabled s e before) := by
  unfold State.nvEnabled
  repeat' first
    | with_reducible assumption
    | (intro sv; refine frame_cut (a := Frame P s0 sv) ?_ ?_; on_goal 2 => dsimp -zeta only [sv]; on_goal 1 => clear_value sv)
    | (intro sv; clear_value sv)
    | intro _
    | lift_lets -underBinder
    | with_reducible apply onFb_frame
    | with_reducible apply putBit_frame
    | with_reducible apply frame_ite
    | with_reducible apply frame_foldl
    | with_reducible apply frame_foldr
    | split

theorem afterField_frame {P : Parts} {s0 : State} {s : State} (a : ℕ) (before : ℕ) (hs0 : Frame P s0 s) (h_regs : P.regs = true) (h_mg : P.mg = true) (h_sv : P.sv = true) (h_pf : P.pf = true) (h_sn : P.sn = true) (h_fb : P.fb = true) :
    Frame P s0 (State.afterField s a before) := by
  unfold State.afterField
  repeat' first
    | with_reducible assumption
    | (intro sv; refine frame_cut (a := Frame P s0 sv) ?_ ?_; on_goal 2 => dsimp -zeta only [sv]; on_goal 1 => clear_value sv)
    | (intro sv; clear_value sv)
    | intro _
    | lift_lets -underBinder
    | with_reducible apply relevel_frame
    | with_reducible apply raiseGrant_frame
    | with_reducible apply pmSet_frame
    | with_reducible apply setDemand_frame
    | with_reducible apply pairMarked_frame
    | with_reducible apply afterLeak_frame
    | with_reducible apply svEnables_frame
    | with_reducible apply mirrorFeed_frame
    | with_reducible apply nvEnabled_frame
    | with_reducible apply frame_ite
    | with_reducible apply frame_foldl
    | with_reducible apply frame_foldr
    | split

theorem afterWrite_frame {P : Parts} {s0 : State} {s : State} (a : ℕ) (v : ℕ) (before : ℕ) (hs0 : Frame P s0 s) (h_regs : P.regs = true) (h_sys : P.sys = true) (h_dic : P.dic = true) (h_mg : P.mg = true) (h_mb : P.mb = true) (h_le : P.le = true) (h_sv : P.sv = true) (h_pf : P.pf = true) (h_sn : P.sn = true) (h_tr : P.tr = true) (h_fb : P.fb = true) (h_tw : P.tw = true) :
    Frame P s0 (State.afterWrite s a v before) := by
  unfold State.afterWrite
  repeat' first
    | with_reducible assumption
    | (intro sv; refine frame_cut (a := Frame P s0 sv) ?_ ?_; on_goal 2 => dsimp -zeta only [sv]; on_goal 1 => clear_value sv)
    | (intro sv; clear_value sv)
    | intro _
    | lift_lets -underBinder
    | with_reducible apply pairsCheck_frame
    | with_reducible apply putBit_frame
    | with_reducible apply onLe_frame
    | with_reducible apply afterTrellis_frame
    | with_reducible apply afterEnable_frame
    | with_reducible apply wr_frame
    | with_reducible apply onMg_frame
    | with_reducible apply takenCheck_frame
    | with_reducible apply afterField_frame
    | with_reducible apply frame_ite
    | with_reducible apply frame_foldl
    | with_reducible apply frame_foldr
    | split

theorem execRegisterWrite_answers {P : Parts} {s0 : State} (by_ : Initiator) (addr : BitVec 32) (v : BitVec 32) {s : State} (hs0 : Frame P s0 s) (h_regs : P.regs = true) (h_sys : P.sys = true) (h_dic : P.dic = true) (h_mg : P.mg = true) (h_mb : P.mb = true) (h_le : P.le = true) (h_sv : P.sv = true) (h_pf : P.pf = true) (h_sn : P.sn = true) (h_tr : P.tr = true) (h_fb : P.fb = true) (h_tw : P.tw = true) :
    Answers P s0 (execRegisterWrite by_ addr v s) := by
  unfold execRegisterWrite
  repeat' first
    | with_reducible assumption
    | (intro sv; refine frame_cut (a := Frame P s0 sv) ?_ ?_; on_goal 2 => dsimp -zeta only [sv]; on_goal 1 => clear_value sv)
    | (intro sv; clear_value sv)
    | intro _
    | with_reducible apply answers_next
    | with_reducible apply answers_ite
    | lift_lets -underBinder
    | with_reducible apply reply_frame
    | with_reducible apply afterWrite_frame
    | with_reducible apply wr_frame
    | with_reducible apply frame_ite
    | with_reducible apply frame_foldl
    | with_reducible apply frame_foldr
    | split

theorem beforeRead_frame {P : Parts} {s0 : State} {s : State} (a : ℕ) (hs0 : Frame P s0 s) (h_regs : P.regs = true) :
    Frame P s0 (State.beforeRead s a) := by
  unfold State.beforeRead
  repeat' first
    | with_reducible assumption
    | (intro sv; refine frame_cut (a := Frame P s0 sv) ?_ ?_; on_goal 2 => dsimp -zeta only [sv]; on_goal 1 => clear_value sv)
    | (intro sv; clear_value sv)
    | intro _
    | lift_lets -underBinder
    | with_reducible apply wr64_frame
    | with_reducible apply gidle_frame
    | with_reducible apply putBit_frame
    | with_reducible apply frame_ite
    | with_reducible apply frame_foldl
    | with_reducible apply frame_foldr
    | split

theorem ownRead_frame {P : Parts} {s0 : State} {t : State} {s : State} {a : ℕ} (heq : State.ownRead s a = some t) (hs0 : Frame P s0 s) (h_regs : P.regs = true) (h_sys : P.sys = true) (h_dic : P.dic = true) (h_mg : P.mg = true) (h_mb : P.mb = true) (h_le : P.le = true) (h_pf : P.pf = true) (h_tr : P.tr = true) (h_fb : P.fb = true) (h_tw : P.tw = true) :
    Frame P s0 t := by
  unfold State.ownRead at heq
  try dsimp only at heq
  repeat' split at heq
  all_goals cases heq
  all_goals
    repeat' first
      | with_reducible assumption
      | (intro sv; refine frame_cut (a := Frame P s0 sv) ?_ ?_; on_goal 2 => dsimp -zeta only [sv]; on_goal 1 => clear_value sv)
      | (intro sv; clear_value sv)
      | intro _
      | lift_lets -underBinder
      | with_reducible apply dbgAccess_frame
      | with_reducible apply rcAccess_frame
      | with_reducible apply reply_frame
      | with_reducible apply mbLock_frame
      | with_reducible apply mbUnlock_frame
      | with_reducible apply frame_ite
      | with_reducible apply frame_foldl
      | with_reducible apply frame_foldr
      | split

theorem execRcRegisterRead_answers {P : Parts} {s0 : State} (addr : BitVec 32) {s : State} (hs0 : Frame P s0 s) (h_regs : P.regs = true) (h_sys : P.sys = true) (h_dic : P.dic = true) (h_mg : P.mg = true) (h_mb : P.mb = true) (h_le : P.le = true) (h_pf : P.pf = true) (h_tr : P.tr = true) (h_fb : P.fb = true) (h_tw : P.tw = true) :
    Answers P s0 (execRcRegisterRead addr s) := by
  unfold execRcRegisterRead
  repeat' first
    | with_reducible assumption
    | (intro sv; refine frame_cut (a := Frame P s0 sv) ?_ ?_; on_goal 2 => dsimp -zeta only [sv]; on_goal 1 => clear_value sv)
    | (intro sv; clear_value sv)
    | intro _
    | with_reducible apply answers_next
    | with_reducible apply answers_ite
    | lift_lets -underBinder
    | with_reducible apply reply_frame
    | with_reducible apply beforeRead_frame
    | with_reducible apply wr_frame
    | with_reducible apply frame_ite
    | with_reducible apply frame_foldl
    | with_reducible apply frame_foldr
    | refine ownRead_frame (by with_reducible assumption) ?_ ?_ ?_ ?_ ?_ ?_ ?_ ?_ ?_ ?_ ?_
    | split

end Sys2Proof.Machine
end

