-- ==== Sys2Proof/Laws/CxlFrame.lean ====
section
/-! SUPPORT. What the operations of Machine/Cxl.lean may touch, and that they keep the memories canonical. -/

namespace Sys2Proof.Machine

theorem setHdm_frame {P : Parts} {s0 : State} {s : State} (d : Option (ℕ × ℕ)) (hs0 : Frame P s0 s) (h_mb : P.mb = true) :
    Frame P s0 (State.setHdm s d) := by
  unfold State.setHdm
  repeat' first
    | with_reducible assumption
    | (intro sv; refine frame_cut (a := Frame P s0 sv) ?_ ?_; on_goal 2 => dsimp -zeta only [sv]; on_goal 1 => clear_value sv)
    | (intro sv; clear_value sv)
    | intro _
    | lift_lets -underBinder
    | with_reducible apply onMb_frame
    | with_reducible apply frame_ite
    | with_reducible apply frame_foldl
    | with_reducible apply frame_foldr
    | split

theorem bar0Write_frame {P : Parts} {s0 : State} {s : State} (off : ℕ) (v : BitVec 32) (hs0 : Frame P s0 s) (h_mb : P.mb = true) :
    Frame P s0 (State.bar0Write s off v) := by
  unfold State.bar0Write
  repeat' first
    | with_reducible assumption
    | (intro sv; refine frame_cut (a := Frame P s0 sv) ?_ ?_; on_goal 2 => dsimp -zeta only [sv]; on_goal 1 => clear_value sv)
    | (intro sv; clear_value sv)
    | intro _
    | lift_lets -underBinder
    | with_reducible apply onMb_frame
    | with_reducible apply frame_ite
    | with_reducible apply frame_foldl
    | with_reducible apply frame_foldr
    | split

theorem execCxlLinkUp_answers {P : Parts} {s0 : State} (rate : Fin 3) (width : Fin 3) (host : CxlHost) {s : State} (hs0 : Frame P s0 s) (h_regs : P.regs = true) (h_dic : P.dic = true) (h_mg : P.mg = true) (h_mb : P.mb = true) (h_le : P.le = true) :
    Answers P s0 (execCxlLinkUp rate width host s) := by
  unfold execCxlLinkUp
  repeat' first
    | with_reducible assumption
    | (intro sv; refine frame_cut (a := Frame P s0 sv) ?_ ?_; on_goal 2 => dsimp -zeta only [sv]; on_goal 1 => clear_value sv)
    | (intro sv; clear_value sv)
    | intro _
    | with_reducible apply answers_next
    | with_reducible apply answers_ite
    | lift_lets -underBinder
    | with_reducible apply onMb_frame
    | with_reducible apply bar0Write_frame
    | with_reducible apply setHdm_frame
    | with_reducible apply note_frame
    | with_reducible apply post_frame
    | with_reducible apply frame_ite
    | with_reducible apply frame_foldl
    | with_reducible apply frame_foldr
    | split

theorem execCxlInterfaceReset_answers {P : Parts} {s0 : State} (flr : Bool) {s : State} (hs0 : Frame P s0 s) (h_regs : P.regs = true) (h_dic : P.dic = true) (h_mg : P.mg = true) (h_mb : P.mb = true) (h_le : P.le = true) (h_tw : P.tw = true) :
    Answers P s0 (execCxlInterfaceReset flr s) := by
  unfold execCxlInterfaceReset
  repeat' first
    | with_reducible assumption
    | (intro sv; refine frame_cut (a := Frame P s0 sv) ?_ ?_; on_goal 2 => dsimp -zeta only [sv]; on_goal 1 => clear_value sv)
    | (intro sv; clear_value sv)
    | intro _
    | with_reducible apply answers_next
    | with_reducible apply answers_ite
    | lift_lets -underBinder
    | with_reducible apply onMb_frame
    | with_reducible apply repliesLost_frame
    | with_reducible apply setHdm_frame
    | with_reducible apply post_frame
    | with_reducible apply log_frame
    | with_reducible apply frame_ite
    | with_reducible apply frame_foldl
    | with_reducible apply frame_foldr
    | split

theorem execAerError_answers {P : Parts} {s0 : State} (uncorrectable : Bool) {s : State} (hs0 : Frame P s0 s) (h_regs : P.regs = true) (h_dic : P.dic = true) (h_mg : P.mg = true) (h_mb : P.mb = true) (h_le : P.le = true) :
    Answers P s0 (execAerError uncorrectable s) := by
  unfold execAerError
  repeat' first
    | with_reducible assumption
    | (intro sv; refine frame_cut (a := Frame P s0 sv) ?_ ?_; on_goal 2 => dsimp -zeta only [sv]; on_goal 1 => clear_value sv)
    | (intro sv; clear_value sv)
    | intro _
    | with_reducible apply answers_next
    | with_reducible apply answers_ite
    | lift_lets -underBinder
    | with_reducible apply aerNote_frame
    | with_reducible apply frame_ite
    | with_reducible apply frame_foldl
    | with_reducible apply frame_foldr
    | split

end Sys2Proof.Machine
end

