-- ==== Sys2Proof/Laws/ImagesFrame.lean ====
section
/-! SUPPORT. What the operations of Machine/Images.lean may touch, and that they keep the memories canonical. -/

namespace Sys2Proof.Machine

end Sys2Proof.Machine
end

