-- ==== Sys2Proof/Laws/Words.lean ====
section
/-! SUPPORT. Which registers the shared operations may write: a log record and a doorbell write the doorbell
controller's registers, the bobbins' and MG_LOGSEQ alone. -/

namespace Sys2Proof.Machine

theorem RegsBut.refl (l : Nat → Prop) (s : State) : RegsBut l s s := fun _ _ => rfl

/-- A register that is not listed reads as before. -/
theorem RegsBut.rd {l : Nat → Prop} {s t : State} (h : RegsBut l s t) (f : RF) (hf : ¬ l f.addr) : t.rd f = s.rd f := by
  unfold State.rd; rw [h _ hf]

theorem RegsBut.bit {l : Nat → Prop} {s t : State} (h : RegsBut l s t) (f : RF) (hf : ¬ l f.addr) : t.bit f = s.bit f := by
  unfold State.bit; rw [h.rd f hf]

theorem RegsBut.rd64 {l : Nat → Prop} {s t : State} (h : RegsBut l s t) (f : RF) (hf : ¬ l f.addr) (hg : ¬ l (f.addr + 4)) :
    t.rd64 f = s.rd64 f := by
  unfold State.rd64; rw [h _ hf, h _ hg]

theorem RegsBut.mono {l m : Nat → Prop} {s t : State} (h : RegsBut l s t) (hlm : ∀ a, l a → m a) : RegsBut m s t :=
  fun a ha => h a fun hl => ha (hlm a hl)

/-- A change of the state that leaves the register file. -/
theorem regsBut_same {l : Nat → Prop} {s0 s t : State} (h : RegsBut l s0 s) (ht : t.regs = s.regs) : RegsBut l s0 t :=
  fun a ha => (congrArg (fun r => (regWord r a).toNat) ht).trans (h a ha)

theorem regsBut_wr {l : Nat → Prop} {s0 s : State} (f : RF) (v : Nat) (h : RegsBut l s0 s) (hf : l f.addr) :
    RegsBut l s0 (s.wr f v) := fun a ha =>
  (word_wr_ne s f v fun e : a = f.addr => ha (e ▸ hf)).trans (h a ha)

theorem regsBut_wr64 {l : Nat → Prop} {s0 s : State} (f : RF) (v : Nat) (h : RegsBut l s0 s) (hf : l f.addr)
    (hg : l (f.addr + 4)) : RegsBut l s0 (s.wr64 f v) := regsBut_wr _ _ (regsBut_wr _ _ h hf) hg

theorem regsBut_onSys {l : Nat → Prop} {s0 s : State} (g : Sys → Sys) (h : RegsBut l s0 s) : RegsBut l s0 (s.onSys g) := h

theorem regsBut_onDic {l : Nat → Prop} {s0 s : State} (g : Dic → Dic) (h : RegsBut l s0 s) : RegsBut l s0 (s.onDic g) := h

theorem regsBut_onMg {l : Nat → Prop} {s0 s : State} (g : Mg → Mg) (h : RegsBut l s0 s) : RegsBut l s0 (s.onMg g) := h

theorem regsBut_onMb {l : Nat → Prop} {s0 s : State} (g : Mbox → Mbox) (h : RegsBut l s0 s) : RegsBut l s0 (s.onMb g) := h

theorem regsBut_onPb {l : Nat → Prop} {s0 s : State} (g : Broker → Broker) (h : RegsBut l s0 s) : RegsBut l s0 (s.onPb g) := h

theorem regsBut_onVq {l : Nat → Prop} {s0 s : State} (g : Vat → Vat) (h : RegsBut l s0 s) : RegsBut l s0 (s.onVq g) := h

theorem regsBut_onLe {l : Nat → Prop} {s0 s : State} (g : Loops → Loops) (h : RegsBut l s0 s) : RegsBut l s0 (s.onLe g) := h

theorem regsBut_onSv {l : Nat → Prop} {s0 s : State} (g : Sv → Sv) (h : RegsBut l s0 s) : RegsBut l s0 (s.onSv g) := h

theorem regsBut_onPf {l : Nat → Prop} {s0 s : State} (g : Pf → Pf) (h : RegsBut l s0 s) : RegsBut l s0 (s.onPf g) := h

theorem regsBut_onSn {l : Nat → Prop} {s0 s : State} (g : Sn → Sn) (h : RegsBut l s0 s) : RegsBut l s0 (s.onSn g) := h

theorem regsBut_onTr {l : Nat → Prop} {s0 s : State} (g : Tr → Tr) (h : RegsBut l s0 s) : RegsBut l s0 (s.onTr g) := h

theorem regsBut_onFb {l : Nat → Prop} {s0 s : State} (g : Fb → Fb) (h : RegsBut l s0 s) : RegsBut l s0 (s.onFb g) := h

theorem regsBut_onTw {l : Nat → Prop} {s0 s : State} (g : Tw → Tw) (h : RegsBut l s0 s) : RegsBut l s0 (s.onTw g) := h

theorem regsBut_onCa {l : Nat → Prop} {s0 s : State} (g : Ca → Ca) (h : RegsBut l s0 s) : RegsBut l s0 (s.onCa g) := h

theorem regsBut_ite {l : Nat → Prop} {s0 a b : State} {c : Prop} [Decidable c] (ha : RegsBut l s0 a) (hb : RegsBut l s0 b) :
    RegsBut l s0 (if c then a else b) := by
  split <;> assumption

theorem regsBut_foldl {l : Nat → Prop} {s0 s : State} {α : Type} {f : State → α → State} {as : List α}
    (hf : ∀ s a, a ∈ as → RegsBut l s0 s → RegsBut l s0 (f s a)) (h : RegsBut l s0 s) : RegsBut l s0 (as.foldl f s) := by
  induction as generalizing s with
  | nil => exact h
  | cons a as ih => exact ih (fun s b hb => hf s b (List.mem_cons_of_mem a hb)) (hf s a List.mem_cons_self h)

/-- An address of the doorbell controller. -/
theorem noteReg_dic {a : Nat} (h : 0x40000000 ≤ a ∧ a < 0x40010000) : noteReg a := by
  unfold noteReg; exact Or.inl h

/-- An address of a bobbin. -/
theorem noteReg_bob {a : Nat} (h : 0x41002000 ≤ a ∧ a < 0x41002200) : noteReg a := by
  unfold noteReg; exact Or.inr (Or.inl h)

theorem noteReg_seq : noteReg MG_LOGSEQ_LO.addr ∧ noteReg (MG_LOGSEQ_LO.addr + 4) := by
  unfold noteReg; decide

theorem regsBut_logPut {l : Nat → Prop} (hl : ∀ a, noteReg a → l a) {s0 s : State} (sub : Nat) (ev : Ev) (sev : Nat)
    (detail : List Nat) (h : RegsBut l s0 s) : RegsBut l s0 (s.logPut sub ev sev detail) :=
  regsBut_wr64 _ _ (regsBut_same h rfl) (hl _ noteReg_seq.1) (hl _ noteReg_seq.2)

/-- A log record writes MG_LOGSEQ alone. -/
theorem regsBut_log {l : Nat → Prop} (hl : ∀ a, noteReg a → l a) {s0 s : State} (sub : Nat) (ev : Ev) (sev : Nat)
    (detail : List Nat) (h : RegsBut l s0 s) : RegsBut l s0 (s.log sub ev sev detail) := by
  unfold State.log
  refine regsBut_ite (regsBut_same h rfl) (regsBut_ite (regsBut_logPut hl _ _ _ _ h) ?_)
  have h1 := regsBut_logPut hl 15 .logDropped 1 [s.mg.dropped] h
  have h2 : RegsBut l s0 ((s.logPut 15 .logDropped 1 [s.mg.dropped]).onMg fun y => { y with dropped := 0 }) :=
    fun a ha => h1 a ha
  exact regsBut_logPut hl _ _ _ _ h2

/-- A log record changes of the management die the buffer, its count of dropped records and the next number alone. -/
theorem log_mg (s : State) (sub : Nat) (ev : Ev) (sev : Nat) (detail : List Nat) : ∃ b d n,
    (s.log sub ev sev detail).mg = { s.mg with buf := b, dropped := d, nextSeq := n } := by
  unfold State.log
  split
  · exact ⟨_, _, _, rfl⟩
  · split <;> exact ⟨_, _, _, rfl⟩

theorem rd_lt (s : State) (f : RF) : s.rd f < 2 ^ (f.hi + 1 - f.lo) := Nat.mod_lt _ (Nat.two_pow_pos _)

theorem regsBut_groupFire {l : Nat → Prop} (hl : ∀ a, noteReg a → l a) {s0 s : State} (g : Nat) (hg : g < 16)
    (h : RegsBut l s0 s) : RegsBut l s0 (s.groupFire g) := by
  unfold State.groupFire
  simp only [putBit_eq]
  refine regsBut_onDic _ (regsBut_wr _ _ (regsBut_wr _ _ (regsBut_wr _ _ h ?_) ?_) ?_) <;>
    (apply hl; apply noteReg_dic; dsimp only [DIC_GSTAT_FIRED, DIC_GSTAT_CNT, DIC_GSTAT_ELAPSED]; omega)

theorem regsBut_groupEvent {l : Nat → Prop} (hl : ∀ a, noteReg a → l a) {s0 s : State} (g : Nat) (hg : g < 16)
    (h : RegsBut l s0 s) : RegsBut l s0 (s.groupEvent g) := by
  unfold State.groupEvent
  have h1 : RegsBut l s0 (s.wr (DIC_GSTAT_CNT g) (s.rd (DIC_GSTAT_CNT g) + 1)) :=
    regsBut_wr _ _ h (by apply hl; apply noteReg_dic; dsimp only [DIC_GSTAT_CNT]; omega)
  refine regsBut_ite (regsBut_groupFire hl g hg ?_) ?_ <;> exact regsBut_ite (regsBut_onDic _ h1) h1

theorem regsBut_postRaw {l : Nat → Prop} (hl : ∀ a, noteReg a → l a) {s0 s : State} (src : Nat) (hs : src < 2048)
    (h : RegsBut l s0 s) : RegsBut l s0 (s.postRaw src) := by
  unfold State.postRaw
  have h1 : RegsBut l s0 (s.wr ⟨(DIC_PEND (src / 32)).addr, src % 32, src % 32⟩ 1) :=
    regsBut_wr _ _ h (by apply hl; apply noteReg_dic; dsimp only [DIC_PEND]; omega)
  dsimp only
  split
  · rename_i g hg
    refine regsBut_groupEvent hl g ?_ h1
    simp only [State.groupOf, Option.ite_none_right_eq_some, Option.some.injEq] at hg
    obtain ⟨_, _, rfl⟩ := hg
    split
    · exact rd_lt _ VQ_NOTICE_GROUP
    · exact rd_lt _ (DIC_SRCCFG_GROUP src)
  · exact h1

theorem regsBut_bobTrigger {l : Nat → Prop} (hl : ∀ a, noteReg a → l a) {s0 s : State} (b idx : Nat) (hb : b < 8)
    (h : RegsBut l s0 s) : RegsBut l s0 (s.bobTrigger b idx) := by
  unfold State.bobTrigger
  split
  · refine regsBut_postRaw hl _ (by omega) ?_
    have h2 : RegsBut l s0 (((s.putBit (BOB_STATUS_TRIGGERED b) true).putBit (BOB_TRIGPTR_TRIGGERED b) true).wr
        (BOB_TRIGPTR_IDX b) idx) := by
      refine regsBut_wr _ _ (regsBut_wr _ _ (regsBut_wr _ _ h ?_) ?_) ?_ <;>
        (apply hl; apply noteReg_bob; dsimp only [BOB_STATUS_TRIGGERED, BOB_TRIGPTR_TRIGGERED, BOB_TRIGPTR_IDX]; omega)
    refine regsBut_ite (regsBut_onLe _ (regsBut_wr _ _ (regsBut_wr _ _ (regsBut_onLe _ h2) ?_) ?_)) (regsBut_onLe _ h2) <;>
      (apply hl; apply noteReg_bob; dsimp only [BOB_MARKPTR_VALID, BOB_MARKPTR_IDX]; omega)
  · exact h

theorem regsBut_bobDoorbell {l : Nat → Prop} (hl : ∀ a, noteReg a → l a) {s0 : State} (n : Nat) {s : State} (src : Nat)
    (h : RegsBut l s0 s) : RegsBut l s0 (State.bobDoorbell n s src) := by
  induction n generalizing s src with
  | zero => exact h
  | succ n ih =>
    refine regsBut_foldl (fun t b hb ht => ih (72 + b) (regsBut_bobTrigger hl b _ ?_ ht)) h
    exact List.mem_range.mp (List.mem_of_mem_filter hb)

/-- A doorbell writes the registers of the doorbell controller and of the bobbins alone. -/
theorem regsBut_post {l : Nat → Prop} (hl : ∀ a, noteReg a → l a) {s0 s : State} (src : Nat) (hs : src < 2048)
    (h : RegsBut l s0 s) : RegsBut l s0 (s.post src) := regsBut_bobDoorbell hl 8 src (regsBut_postRaw hl src hs h)

theorem regsBut_note {l : Nat → Prop} (hl : ∀ a, noteReg a → l a) {s0 s : State} (sub : Nat) (ev : Ev) (sev : Nat)
    (detail : List Nat) (src : Nat) (hs : src < 2048) (h : RegsBut l s0 s) : RegsBut l s0 (s.note sub ev sev detail src) :=
  regsBut_post hl src hs (regsBut_log hl _ _ _ _ h)

end Sys2Proof.Machine
end

