-- ==== Sys2Proof/Laws/Modes.lean ====
section
/-! SUPPORT. What a change of the module state leaves in the state machine's record. -/

namespace Sys2Proof.Machine

theorem toTableSet_sys (s : State) : ∃ b, s.toTableSet.sys = { s.sys with tableSet := b } := by
  unfold State.toTableSet
  split
  · exact ⟨s.sys.tableSet, rfl⟩
  · refine ⟨true, ?_⟩
    have h : Frame { regs := true, pf := true } s (namedLoops.foldl State.tableSetOf s) :=
      frame_foldl (fun _ _ h => tableSetOf_frame _ h rfl rfl) (Frame.refl _ _)
    exact congrArg (fun y : Sys => { y with tableSet := true }) (h.sys rfl)

theorem toControlSet_sys (s : State) : ∃ b, s.toControlSet.sys = { s.sys with tableSet := b } := by
  unfold State.toControlSet
  split
  · refine ⟨false, ?_⟩
    have h : Frame { regs := true, pf := true } s (namedLoops.foldl State.controlSetOf s) :=
      frame_foldl (fun _ _ h => controlSetOf_frame _ h rfl) (Frame.refl _ _)
    exact congrArg (fun y : Sys => { y with tableSet := false }) (h.sys rfl)
  · exact ⟨s.sys.tableSet, rfl⟩

theorem applySets_sys (s : State) : ∃ b, s.applySets.sys = { s.sys with tableSet := b } := by
  unfold State.applySets
  split
  · exact toTableSet_sys s
  · split
    · exact ⟨s.sys.tableSet, rfl⟩
    · exact toControlSet_sys s

/-- The state machine's record after a change of the module state: the new state, the prior state, the parameter set in
force; the rest as before. -/
theorem setState_sys (s : State) (m : ModState) : ∃ b, (s.setState m).sys =
    { s.sys with mode := m, tableSet := b,
                 prior := if s.sys.mode = m then s.sys.prior else priorAfter s.sys.mode m s.sys.prior } := by
  unfold State.setState
  by_cases h : s.sys.mode = m
  · dsimp only
    rw [if_pos h, if_pos h]
    exact ⟨s.sys.tableSet, by rw [← h]⟩
  · obtain ⟨b, hb⟩ := applySets_sys (s.onSys fun y => { y with mode := m, prior := priorAfter s.sys.mode m s.sys.prior })
    refine ⟨b, ?_⟩
    dsimp only
    rw [if_neg h, if_neg h]
    refine Eq.trans (Frame.sys (p := { regs := true, mg := true, mb := true, le := true, tr := true, dic := true, pf := true })
      (s := (s.onSys fun y => { y with mode := m, prior := priorAfter s.sys.mode m s.sys.prior }).applySets) ?_ rfl) hb
    have h1 := resumeCtxs_frame (ctxReleased s.sys.mode s.sys.prior)
      (trMode_frame (Frame.refl { regs := true, mg := true, mb := true, le := true, tr := true, dic := true, pf := true }
        (s.onSys fun y => { y with mode := m, prior := priorAfter s.sys.mode m s.sys.prior }).applySets) rfl rfl) rfl
    exact msixSend_frame 3 (log_frame 1 .stateChange 1 [s.sys.mode.code, m.code] (putBit_frame LE_STATUS_RUNNING _
      (frame_ite h1 (frame_foldl (fun u k hu => calRestart_frame k hu rfl) h1)) rfl) rfl rfl) rfl

@[simp] theorem setState_mode (s : State) (m : ModState) : (s.setState m).sys.mode = m := by
  obtain ⟨b, hb⟩ := setState_sys s m; rw [hb]

@[simp] theorem setState_role (s : State) (m : ModState) : (s.setState m).sys.role = s.sys.role := by
  obtain ⟨b, hb⟩ := setState_sys s m; rw [hb]

@[simp] theorem setState_isoPend (s : State) (m : ModState) : (s.setState m).sys.isoPend = s.sys.isoPend := by
  obtain ⟨b, hb⟩ := setState_sys s m; rw [hb]

@[simp] theorem setState_isolated (s : State) (m : ModState) : (s.setState m).sys.isolated = s.sys.isolated := by
  obtain ⟨b, hb⟩ := setState_sys s m; rw [hb]

end Sys2Proof.Machine
end

