-- ==== Sys2Proof/Laws/SourcesFrame.lean ====
section
/-! SUPPORT. What the operations of Machine/Sources.lean may touch, and that they keep the memories canonical. -/

namespace Sys2Proof.Machine

end Sys2Proof.Machine
end

