-- ==== Sys2Proof/Laws/TileIssueFrame.lean ====
section
/-! SUPPORT. What the operations of Machine/TileIssue.lean may touch, and that they keep the memories canonical. -/

namespace Sys2Proof.Machine

theorem issue_frame {P : Parts} {s0 : State} {s : State} (t : ℕ) (slot : ℕ) (op : ℕ) (f : ℕ → Tile → Tile) (hs0 : Frame P s0 s) (h_tr : P.tr = true) :
    Frame P s0 (State.issue s t slot op f) := by
  unfold State.issue
  repeat' first
    | with_reducible assumption
    | (intro sv; refine frame_cut (a := Frame P s0 sv) ?_ ?_; on_goal 2 => dsimp -zeta only [sv]; on_goal 1 => clear_value sv)
    | (intro sv; clear_value sv)
    | intro _
    | lift_lets -underBinder
    | with_reducible apply setTile_frame
    | with_reducible apply frame_ite
    | with_reducible apply frame_foldl
    | with_reducible apply frame_foldr
    | split

theorem execNop_answers {P : Parts} {s0 : State} (t : Fin 128) (slot : Fin 8) {s : State} (hs0 : Frame P s0 s) (h_tr : P.tr = true) :
    Answers P s0 (execNop t slot s) := by
  unfold execNop
  repeat' first
    | with_reducible assumption
    | (intro sv; refine frame_cut (a := Frame P s0 sv) ?_ ?_; on_goal 2 => dsimp -zeta only [sv]; on_goal 1 => clear_value sv)
    | (intro sv; clear_value sv)
    | intro _
    | with_reducible apply answers_next
    | with_reducible apply answers_ite
    | lift_lets -underBinder
    | with_reducible apply setTile_frame
    | with_reducible apply frame_ite
    | with_reducible apply frame_foldl
    | with_reducible apply frame_foldr
    | split

theorem execIllegalOperation_answers {P : Parts} {s0 : State} (t : Fin 128) (slot : Fin 8) {s : State} (hs0 : Frame P s0 s) (h_tr : P.tr = true) :
    Answers P s0 (execIllegalOperation t slot s) := by
  unfold execIllegalOperation
  repeat' first
    | with_reducible assumption
    | (intro sv; refine frame_cut (a := Frame P s0 sv) ?_ ?_; on_goal 2 => dsimp -zeta only [sv]; on_goal 1 => clear_value sv)
    | (intro sv; clear_value sv)
    | intro _
    | with_reducible apply answers_next
    | with_reducible apply answers_ite
    | lift_lets -underBinder
    | with_reducible apply setTile_frame
    | with_reducible apply frame_ite
    | with_reducible apply frame_foldl
    | with_reducible apply frame_foldr
    | split

end Sys2Proof.Machine
end

