-- ==== Sys2Proof/Laws/TilesFrame.lean ====
section
/-! SUPPORT. What the operations of Machine/Tiles.lean may touch, and that they keep the memories canonical. -/

namespace Sys2Proof.Machine

end Sys2Proof.Machine
end

