-- ==== Sys2Proof/Laws/TrellisMatrixFrame.lean ====
section
/-! SUPPORT. What the operations of Machine/TrellisMatrix.lean may touch, and that they keep the memories canonical. -/

namespace Sys2Proof.Machine

theorem mxOp_frame {P : Parts} {s0 : State} {s : State} (t : ℕ) (op : ℕ) (hs0 : Frame P s0 s) (h_tr : P.tr = true) :
    Frame P s0 (State.mxOp s t op) := by
  unfold State.mxOp
  repeat' first
    | with_reducible assumption
    | (intro sv; refine frame_cut (a := Frame P s0 sv) ?_ ?_; on_goal 2 => dsimp -zeta only [sv]; on_goal 1 => clear_value sv)
    | (intro sv; clear_value sv)
    | intro _
    | lift_lets -underBinder
    | with_reducible apply issue_frame
    | with_reducible apply frame_ite
    | with_reducible apply frame_foldl
    | with_reducible apply frame_foldr
    | split

theorem acOp_frame {P : Parts} {s0 : State} {s : State} (t : ℕ) (op : ℕ) (lat : ℕ) (f : ℕ → Tile → List Word) (hs0 : Frame P s0 s) (h_tr : P.tr = true) :
    Frame P s0 (State.acOp s t op lat f) := by
  unfold State.acOp
  repeat' first
    | with_reducible assumption
    | (intro sv; refine frame_cut (a := Frame P s0 sv) ?_ ?_; on_goal 2 => dsimp -zeta only [sv]; on_goal 1 => clear_value sv)
    | (intro sv; clear_value sv)
    | intro _
    | lift_lets -underBinder
    | with_reducible apply issue_frame
    | with_reducible apply frame_ite
    | with_reducible apply frame_foldl
    | with_reducible apply frame_foldr
    | split

theorem execMmaI8_answers {P : Parts} {s0 : State} (t : Fin 128) {s : State} (hs0 : Frame P s0 s) (h_tr : P.tr = true) :
    Answers P s0 (execMmaI8 t s) := by
  unfold execMmaI8
  repeat' first
    | with_reducible assumption
    | (intro sv; refine frame_cut (a := Frame P s0 sv) ?_ ?_; on_goal 2 => dsimp -zeta only [sv]; on_goal 1 => clear_value sv)
    | (intro sv; clear_value sv)
    | intro _
    | with_reducible apply answers_next
    | with_reducible apply answers_ite
    | lift_lets -underBinder
    | with_reducible apply mxOp_frame
    | with_reducible apply frame_ite
    | with_reducible apply frame_foldl
    | with_reducible apply frame_foldr
    | split

theorem execMmaI4_answers {P : Parts} {s0 : State} (t : Fin 128) {s : State} (hs0 : Frame P s0 s) (h_tr : P.tr = true) :
    Answers P s0 (execMmaI4 t s) := by
  unfold execMmaI4
  repeat' first
    | with_reducible assumption
    | (intro sv; refine frame_cut (a := Frame P s0 sv) ?_ ?_; on_goal 2 => dsimp -zeta only [sv]; on_goal 1 => clear_value sv)
    | (intro sv; clear_value sv)
    | intro _
    | with_reducible apply answers_next
    | with_reducible apply answers_ite
    | lift_lets -underBinder
    | with_reducible apply mxOp_frame
    | with_reducible apply frame_ite
    | with_reducible apply frame_foldl
    | with_reducible apply frame_foldr
    | split

theorem execMmaBf_answers {P : Parts} {s0 : State} (t : Fin 128) {s : State} (hs0 : Frame P s0 s) (h_tr : P.tr = true) :
    Answers P s0 (execMmaBf t s) := by
  unfold execMmaBf
  repeat' first
    | with_reducible assumption
    | (intro sv; refine frame_cut (a := Frame P s0 sv) ?_ ?_; on_goal 2 => dsimp -zeta only [sv]; on_goal 1 => clear_value sv)
    | (intro sv; clear_value sv)
    | intro _
    | with_reducible apply answers_next
    | with_reducible apply answers_ite
    | lift_lets -underBinder
    | with_reducible apply mxOp_frame
    | with_reducible apply frame_ite
    | with_reducible apply frame_foldl
    | with_reducible apply frame_foldr
    | split

theorem execMmaMf8_answers {P : Parts} {s0 : State} (t : Fin 128) {s : State} (hs0 : Frame P s0 s) (h_tr : P.tr = true) :
    Answers P s0 (execMmaMf8 t s) := by
  unfold execMmaMf8
  repeat' first
    | with_reducible assumption
    | (intro sv; refine frame_cut (a := Frame P s0 sv) ?_ ?_; on_goal 2 => dsimp -zeta only [sv]; on_goal 1 => clear_value sv)
    | (intro sv; clear_value sv)
    | intro _
    | with_reducible apply answers_next
    | with_reducible apply answers_ite
    | lift_lets -underBinder
    | with_reducible apply mxOp_frame
    | with_reducible apply frame_ite
    | with_reducible apply frame_foldl
    | with_reducible apply frame_foldr
    | split

theorem execMmaMf4_answers {P : Parts} {s0 : State} (t : Fin 128) {s : State} (hs0 : Frame P s0 s) (h_tr : P.tr = true) :
    Answers P s0 (execMmaMf4 t s) := by
  unfold execMmaMf4
  repeat' first
    | with_reducible assumption
    | (intro sv; refine frame_cut (a := Frame P s0 sv) ?_ ?_; on_goal 2 => dsimp -zeta only [sv]; on_goal 1 => clear_value sv)
    | (intro sv; clear_value sv)
    | intro _
    | with_reducible apply answers_next
    | with_reducible apply answers_ite
    | lift_lets -underBinder
    | with_reducible apply mxOp_frame
    | with_reducible apply frame_ite
    | with_reducible apply frame_foldl
    | with_reducible apply frame_foldr
    | split

theorem execMmaMi8_answers {P : Parts} {s0 : State} (t : Fin 128) {s : State} (hs0 : Frame P s0 s) (h_tr : P.tr = true) :
    Answers P s0 (execMmaMi8 t s) := by
  unfold execMmaMi8
  repeat' first
    | with_reducible assumption
    | (intro sv; refine frame_cut (a := Frame P s0 sv) ?_ ?_; on_goal 2 => dsimp -zeta only [sv]; on_goal 1 => clear_value sv)
    | (intro sv; clear_value sv)
    | intro _
    | with_reducible apply answers_next
    | with_reducible apply answers_ite
    | lift_lets -underBinder
    | with_reducible apply mxOp_frame
    | with_reducible apply frame_ite
    | with_reducible apply frame_foldl
    | with_reducible apply frame_foldr
    | split

theorem execMzero_answers {P : Parts} {s0 : State} (t : Fin 128) {s : State} (hs0 : Frame P s0 s) (h_tr : P.tr = true) :
    Answers P s0 (execMzero t s) := by
  unfold execMzero
  repeat' first
    | with_reducible assumption
    | (intro sv; refine frame_cut (a := Frame P s0 sv) ?_ ?_; on_goal 2 => dsimp -zeta only [sv]; on_goal 1 => clear_value sv)
    | (intro sv; clear_value sv)
    | intro _
    | with_reducible apply answers_next
    | with_reducible apply answers_ite
    | lift_lets -underBinder
    | with_reducible apply mxOp_frame
    | with_reducible apply frame_ite
    | with_reducible apply frame_foldl
    | with_reducible apply frame_foldr
    | split

theorem execMmaResult_answers {P : Parts} {s0 : State} (t : Fin 128) {s : State} (hs0 : Frame P s0 s) (h_tr : P.tr = true) :
    Answers P s0 (execMmaResult t s) := by
  unfold execMmaResult
  repeat' first
    | with_reducible assumption
    | (intro sv; refine frame_cut (a := Frame P s0 sv) ?_ ?_; on_goal 2 => dsimp -zeta only [sv]; on_goal 1 => clear_value sv)
    | (intro sv; clear_value sv)
    | intro _
    | with_reducible apply answers_next
    | with_reducible apply answers_ite
    | lift_lets -underBinder
    | with_reducible apply setTile_frame
    | with_reducible apply frame_ite
    | with_reducible apply frame_foldl
    | with_reducible apply frame_foldr
    | split

theorem execDrain_answers {P : Parts} {s0 : State} (t : Fin 128) {s : State} (hs0 : Frame P s0 s) (h_tr : P.tr = true) :
    Answers P s0 (execDrain t s) := by
  unfold execDrain
  repeat' first
    | with_reducible assumption
    | (intro sv; refine frame_cut (a := Frame P s0 sv) ?_ ?_; on_goal 2 => dsimp -zeta only [sv]; on_goal 1 => clear_value sv)
    | (intro sv; clear_value sv)
    | intro _
    | with_reducible apply answers_next
    | with_reducible apply answers_ite
    | lift_lets -underBinder
    | with_reducible apply acOp_frame
    | with_reducible apply frame_ite
    | with_reducible apply frame_foldl
    | with_reducible apply frame_foldr
    | split

theorem execPack8_answers {P : Parts} {s0 : State} (t : Fin 128) {s : State} (hs0 : Frame P s0 s) (h_tr : P.tr = true) :
    Answers P s0 (execPack8 t s) := by
  unfold execPack8
  repeat' first
    | with_reducible assumption
    | (intro sv; refine frame_cut (a := Frame P s0 sv) ?_ ?_; on_goal 2 => dsimp -zeta only [sv]; on_goal 1 => clear_value sv)
    | (intro sv; clear_value sv)
    | intro _
    | with_reducible apply answers_next
    | with_reducible apply answers_ite
    | lift_lets -underBinder
    | with_reducible apply acOp_frame
    | with_reducible apply frame_ite
    | with_reducible apply frame_foldl
    | with_reducible apply frame_foldr
    | split

theorem execPackbf_answers {P : Parts} {s0 : State} (t : Fin 128) {s : State} (hs0 : Frame P s0 s) (h_tr : P.tr = true) :
    Answers P s0 (execPackbf t s) := by
  unfold execPackbf
  repeat' first
    | with_reducible assumption
    | (intro sv; refine frame_cut (a := Frame P s0 sv) ?_ ?_; on_goal 2 => dsimp -zeta only [sv]; on_goal 1 => clear_value sv)
    | (intro sv; clear_value sv)
    | intro _
    | with_reducible apply answers_next
    | with_reducible apply answers_ite
    | lift_lets -underBinder
    | with_reducible apply acOp_frame
    | with_reducible apply frame_ite
    | with_reducible apply frame_foldl
    | with_reducible apply frame_foldr
    | split

theorem execPackm8_answers {P : Parts} {s0 : State} (t : Fin 128) {s : State} (hs0 : Frame P s0 s) (h_tr : P.tr = true) :
    Answers P s0 (execPackm8 t s) := by
  unfold execPackm8
  repeat' first
    | with_reducible assumption
    | (intro sv; refine frame_cut (a := Frame P s0 sv) ?_ ?_; on_goal 2 => dsimp -zeta only [sv]; on_goal 1 => clear_value sv)
    | (intro sv; clear_value sv)
    | intro _
    | with_reducible apply answers_next
    | with_reducible apply answers_ite
    | lift_lets -underBinder
    | with_reducible apply acOp_frame
    | with_reducible apply frame_ite
    | with_reducible apply frame_foldl
    | with_reducible apply frame_foldr
    | split

theorem execPackm4_answers {P : Parts} {s0 : State} (t : Fin 128) {s : State} (hs0 : Frame P s0 s) (h_tr : P.tr = true) :
    Answers P s0 (execPackm4 t s) := by
  unfold execPackm4
  repeat' first
    | with_reducible assumption
    | (intro sv; refine frame_cut (a := Frame P s0 sv) ?_ ?_; on_goal 2 => dsimp -zeta only [sv]; on_goal 1 => clear_value sv)
    | (intro sv; clear_value sv)
    | intro _
    | with_reducible apply answers_next
    | with_reducible apply answers_ite
    | lift_lets -underBinder
    | with_reducible apply acOp_frame
    | with_reducible apply frame_ite
    | with_reducible apply frame_foldl
    | with_reducible apply frame_foldr
    | split

end Sys2Proof.Machine
end

