-- ==== Sys2Proof/Laws/TrellisScalarFrame.lean ====
section
/-! SUPPORT. What the operations of Machine/TrellisScalar.lean may touch, and that they keep the memories canonical. -/

namespace Sys2Proof.Machine

theorem scalarOp_frame {P : Parts} {s0 : State} {s : State} (t : ℕ) (op : ℕ) (lat : ℕ) (f : ℕ → Tile → ℕ) (hs0 : Frame P s0 s) (h_tr : P.tr = true) :
    Frame P s0 (State.scalarOp s t op lat f) := by
  unfold State.scalarOp
  repeat' first
    | with_reducible assumption
    | (intro sv; refine frame_cut (a := Frame P s0 sv) ?_ ?_; on_goal 2 => dsimp -zeta only [sv]; on_goal 1 => clear_value sv)
    | (intro sv; clear_value sv)
    | intro _
    | lift_lets -underBinder
    | with_reducible apply issue_frame
    | with_reducible apply frame_ite
    | with_reducible apply frame_foldl
    | with_reducible apply frame_foldr
    | split

theorem predOp_frame {P : Parts} {s0 : State} {s : State} (t : ℕ) (op : ℕ) (f : ℕ → Tile → Bool) (hs0 : Frame P s0 s) (h_tr : P.tr = true) :
    Frame P s0 (State.predOp s t op f) := by
  unfold State.predOp
  repeat' first
    | with_reducible assumption
    | (intro sv; refine frame_cut (a := Frame P s0 sv) ?_ ?_; on_goal 2 => dsimp -zeta only [sv]; on_goal 1 => clear_value sv)
    | (intro sv; clear_value sv)
    | intro _
    | lift_lets -underBinder
    | with_reducible apply issue_frame
    | with_reducible apply frame_ite
    | with_reducible apply frame_foldl
    | with_reducible apply frame_foldr
    | split

theorem execAdd_answers {P : Parts} {s0 : State} (t : Fin 128) {s : State} (hs0 : Frame P s0 s) (h_tr : P.tr = true) :
    Answers P s0 (execAdd t s) := by
  unfold execAdd
  repeat' first
    | with_reducible assumption
    | (intro sv; refine frame_cut (a := Frame P s0 sv) ?_ ?_; on_goal 2 => dsimp -zeta only [sv]; on_goal 1 => clear_value sv)
    | (intro sv; clear_value sv)
    | intro _
    | with_reducible apply answers_next
    | with_reducible apply answers_ite
    | lift_lets -underBinder
    | with_reducible apply scalarOp_frame
    | with_reducible apply frame_ite
    | with_reducible apply frame_foldl
    | with_reducible apply frame_foldr
    | split

theorem execSub_answers {P : Parts} {s0 : State} (t : Fin 128) {s : State} (hs0 : Frame P s0 s) (h_tr : P.tr = true) :
    Answers P s0 (execSub t s) := by
  unfold execSub
  repeat' first
    | with_reducible assumption
    | (intro sv; refine frame_cut (a := Frame P s0 sv) ?_ ?_; on_goal 2 => dsimp -zeta only [sv]; on_goal 1 => clear_value sv)
    | (intro sv; clear_value sv)
    | intro _
    | with_reducible apply answers_next
    | with_reducible apply answers_ite
    | lift_lets -underBinder
    | with_reducible apply scalarOp_frame
    | with_reducible apply frame_ite
    | with_reducible apply frame_foldl
    | with_reducible apply frame_foldr
    | split

theorem execAnd_answers {P : Parts} {s0 : State} (t : Fin 128) {s : State} (hs0 : Frame P s0 s) (h_tr : P.tr = true) :
    Answers P s0 (execAnd t s) := by
  unfold execAnd
  repeat' first
    | with_reducible assumption
    | (intro sv; refine frame_cut (a := Frame P s0 sv) ?_ ?_; on_goal 2 => dsimp -zeta only [sv]; on_goal 1 => clear_value sv)
    | (intro sv; clear_value sv)
    | intro _
    | with_reducible apply answers_next
    | with_reducible apply answers_ite
    | lift_lets -underBinder
    | with_reducible apply scalarOp_frame
    | with_reducible apply frame_ite
    | with_reducible apply frame_foldl
    | with_reducible apply frame_foldr
    | split

theorem execOr_answers {P : Parts} {s0 : State} (t : Fin 128) {s : State} (hs0 : Frame P s0 s) (h_tr : P.tr = true) :
    Answers P s0 (execOr t s) := by
  unfold execOr
  repeat' first
    | with_reducible assumption
    | (intro sv; refine frame_cut (a := Frame P s0 sv) ?_ ?_; on_goal 2 => dsimp -zeta only [sv]; on_goal 1 => clear_value sv)
    | (intro sv; clear_value sv)
    | intro _
    | with_reducible apply answers_next
    | with_reducible apply answers_ite
    | lift_lets -underBinder
    | with_reducible apply scalarOp_frame
    | with_reducible apply frame_ite
    | with_reducible apply frame_foldl
    | with_reducible apply frame_foldr
    | split

theorem execXor_answers {P : Parts} {s0 : State} (t : Fin 128) {s : State} (hs0 : Frame P s0 s) (h_tr : P.tr = true) :
    Answers P s0 (execXor t s) := by
  unfold execXor
  repeat' first
    | with_reducible assumption
    | (intro sv; refine frame_cut (a := Frame P s0 sv) ?_ ?_; on_goal 2 => dsimp -zeta only [sv]; on_goal 1 => clear_value sv)
    | (intro sv; clear_value sv)
    | intro _
    | with_reducible apply answers_next
    | with_reducible apply answers_ite
    | lift_lets -underBinder
    | with_reducible apply scalarOp_frame
    | with_reducible apply frame_ite
    | with_reducible apply frame_foldl
    | with_reducible apply frame_foldr
    | split

theorem execShl_answers {P : Parts} {s0 : State} (t : Fin 128) {s : State} (hs0 : Frame P s0 s) (h_tr : P.tr = true) :
    Answers P s0 (execShl t s) := by
  unfold execShl
  repeat' first
    | with_reducible assumption
    | (intro sv; refine frame_cut (a := Frame P s0 sv) ?_ ?_; on_goal 2 => dsimp -zeta only [sv]; on_goal 1 => clear_value sv)
    | (intro sv; clear_value sv)
    | intro _
    | with_reducible apply answers_next
    | with_reducible apply answers_ite
    | lift_lets -underBinder
    | with_reducible apply scalarOp_frame
    | with_reducible apply frame_ite
    | with_reducible apply frame_foldl
    | with_reducible apply frame_foldr
    | split

theorem execShr_answers {P : Parts} {s0 : State} (t : Fin 128) {s : State} (hs0 : Frame P s0 s) (h_tr : P.tr = true) :
    Answers P s0 (execShr t s) := by
  unfold execShr
  repeat' first
    | with_reducible assumption
    | (intro sv; refine frame_cut (a := Frame P s0 sv) ?_ ?_; on_goal 2 => dsimp -zeta only [sv]; on_goal 1 => clear_value sv)
    | (intro sv; clear_value sv)
    | intro _
    | with_reducible apply answers_next
    | with_reducible apply answers_ite
    | lift_lets -underBinder
    | with_reducible apply scalarOp_frame
    | with_reducible apply frame_ite
    | with_reducible apply frame_foldl
    | with_reducible apply frame_foldr
    | split

theorem execSra_answers {P : Parts} {s0 : State} (t : Fin 128) {s : State} (hs0 : Frame P s0 s) (h_tr : P.tr = true) :
    Answers P s0 (execSra t s) := by
  unfold execSra
  repeat' first
    | with_reducible assumption
    | (intro sv; refine frame_cut (a := Frame P s0 sv) ?_ ?_; on_goal 2 => dsimp -zeta only [sv]; on_goal 1 => clear_value sv)
    | (intro sv; clear_value sv)
    | intro _
    | with_reducible apply answers_next
    | with_reducible apply answers_ite
    | lift_lets -underBinder
    | with_reducible apply scalarOp_frame
    | with_reducible apply frame_ite
    | with_reducible apply frame_foldl
    | with_reducible apply frame_foldr
    | split

theorem execMul_answers {P : Parts} {s0 : State} (t : Fin 128) {s : State} (hs0 : Frame P s0 s) (h_tr : P.tr = true) :
    Answers P s0 (execMul t s) := by
  unfold execMul
  repeat' first
    | with_reducible assumption
    | (intro sv; refine frame_cut (a := Frame P s0 sv) ?_ ?_; on_goal 2 => dsimp -zeta only [sv]; on_goal 1 => clear_value sv)
    | (intro sv; clear_value sv)
    | intro _
    | with_reducible apply answers_next
    | with_reducible apply answers_ite
    | lift_lets -underBinder
    | with_reducible apply scalarOp_frame
    | with_reducible apply frame_ite
    | with_reducible apply frame_foldl
    | with_reducible apply frame_foldr
    | split

theorem execMin_answers {P : Parts} {s0 : State} (t : Fin 128) {s : State} (hs0 : Frame P s0 s) (h_tr : P.tr = true) :
    Answers P s0 (execMin t s) := by
  unfold execMin
  repeat' first
    | with_reducible assumption
    | (intro sv; refine frame_cut (a := Frame P s0 sv) ?_ ?_; on_goal 2 => dsimp -zeta only [sv]; on_goal 1 => clear_value sv)
    | (intro sv; clear_value sv)
    | intro _
    | with_reducible apply answers_next
    | with_reducible apply answers_ite
    | lift_lets -underBinder
    | with_reducible apply scalarOp_frame
    | with_reducible apply frame_ite
    | with_reducible apply frame_foldl
    | with_reducible apply frame_foldr
    | split

theorem execMax_answers {P : Parts} {s0 : State} (t : Fin 128) {s : State} (hs0 : Frame P s0 s) (h_tr : P.tr = true) :
    Answers P s0 (execMax t s) := by
  unfold execMax
  repeat' first
    | with_reducible assumption
    | (intro sv; refine frame_cut (a := Frame P s0 sv) ?_ ?_; on_goal 2 => dsimp -zeta only [sv]; on_goal 1 => clear_value sv)
    | (intro sv; clear_value sv)
    | intro _
    | with_reducible apply answers_next
    | with_reducible apply answers_ite
    | lift_lets -underBinder
    | with_reducible apply scalarOp_frame
    | with_reducible apply frame_ite
    | with_reducible apply frame_foldl
    | with_reducible apply frame_foldr
    | split

theorem execAddi_answers {P : Parts} {s0 : State} (t : Fin 128) {s : State} (hs0 : Frame P s0 s) (h_tr : P.tr = true) :
    Answers P s0 (execAddi t s) := by
  unfold execAddi
  repeat' first
    | with_reducible assumption
    | (intro sv; refine frame_cut (a := Frame P s0 sv) ?_ ?_; on_goal 2 => dsimp -zeta only [sv]; on_goal 1 => clear_value sv)
    | (intro sv; clear_value sv)
    | intro _
    | with_reducible apply answers_next
    | with_reducible apply answers_ite
    | lift_lets -underBinder
    | with_reducible apply scalarOp_frame
    | with_reducible apply frame_ite
    | with_reducible apply frame_foldl
    | with_reducible apply frame_foldr
    | split

theorem execLi_answers {P : Parts} {s0 : State} (t : Fin 128) {s : State} (hs0 : Frame P s0 s) (h_tr : P.tr = true) :
    Answers P s0 (execLi t s) := by
  unfold execLi
  repeat' first
    | with_reducible assumption
    | (intro sv; refine frame_cut (a := Frame P s0 sv) ?_ ?_; on_goal 2 => dsimp -zeta only [sv]; on_goal 1 => clear_value sv)
    | (intro sv; clear_value sv)
    | intro _
    | with_reducible apply answers_next
    | with_reducible apply answers_ite
    | lift_lets -underBinder
    | with_reducible apply scalarOp_frame
    | with_reducible apply frame_ite
    | with_reducible apply frame_foldl
    | with_reducible apply frame_foldr
    | split

theorem execAndi_answers {P : Parts} {s0 : State} (t : Fin 128) {s : State} (hs0 : Frame P s0 s) (h_tr : P.tr = true) :
    Answers P s0 (execAndi t s) := by
  unfold execAndi
  repeat' first
    | with_reducible assumption
    | (intro sv; refine frame_cut (a := Frame P s0 sv) ?_ ?_; on_goal 2 => dsimp -zeta only [sv]; on_goal 1 => clear_value sv)
    | (intro sv; clear_value sv)
    | intro _
    | with_reducible apply answers_next
    | with_reducible apply answers_ite
    | lift_lets -underBinder
    | with_reducible apply scalarOp_frame
    | with_reducible apply frame_ite
    | with_reducible apply frame_foldl
    | with_reducible apply frame_foldr
    | split

theorem execCmp_answers {P : Parts} {s0 : State} (t : Fin 128) {s : State} (hs0 : Frame P s0 s) (h_tr : P.tr = true) :
    Answers P s0 (execCmp t s) := by
  unfold execCmp
  repeat' first
    | with_reducible assumption
    | (intro sv; refine frame_cut (a := Frame P s0 sv) ?_ ?_; on_goal 2 => dsimp -zeta only [sv]; on_goal 1 => clear_value sv)
    | (intro sv; clear_value sv)
    | intro _
    | with_reducible apply answers_next
    | with_reducible apply answers_ite
    | lift_lets -underBinder
    | with_reducible apply predOp_frame
    | with_reducible apply frame_ite
    | with_reducible apply frame_foldl
    | with_reducible apply frame_foldr
    | split

theorem execCmpi_answers {P : Parts} {s0 : State} (t : Fin 128) {s : State} (hs0 : Frame P s0 s) (h_tr : P.tr = true) :
    Answers P s0 (execCmpi t s) := by
  unfold execCmpi
  repeat' first
    | with_reducible assumption
    | (intro sv; refine frame_cut (a := Frame P s0 sv) ?_ ?_; on_goal 2 => dsimp -zeta only [sv]; on_goal 1 => clear_value sv)
    | (intro sv; clear_value sv)
    | intro _
    | with_reducible apply answers_next
    | with_reducible apply answers_ite
    | lift_lets -underBinder
    | with_reducible apply predOp_frame
    | with_reducible apply frame_ite
    | with_reducible apply frame_foldl
    | with_reducible apply frame_foldr
    | split

theorem execPand_answers {P : Parts} {s0 : State} (t : Fin 128) {s : State} (hs0 : Frame P s0 s) (h_tr : P.tr = true) :
    Answers P s0 (execPand t s) := by
  unfold execPand
  repeat' first
    | with_reducible assumption
    | (intro sv; refine frame_cut (a := Frame P s0 sv) ?_ ?_; on_goal 2 => dsimp -zeta only [sv]; on_goal 1 => clear_value sv)
    | (intro sv; clear_value sv)
    | intro _
    | with_reducible apply answers_next
    | with_reducible apply answers_ite
    | lift_lets -underBinder
    | with_reducible apply predOp_frame
    | with_reducible apply frame_ite
    | with_reducible apply frame_foldl
    | with_reducible apply frame_foldr
    | split

theorem execPor_answers {P : Parts} {s0 : State} (t : Fin 128) {s : State} (hs0 : Frame P s0 s) (h_tr : P.tr = true) :
    Answers P s0 (execPor t s) := by
  unfold execPor
  repeat' first
    | with_reducible assumption
    | (intro sv; refine frame_cut (a := Frame P s0 sv) ?_ ?_; on_goal 2 => dsimp -zeta only [sv]; on_goal 1 => clear_value sv)
    | (intro sv; clear_value sv)
    | intro _
    | with_reducible apply answers_next
    | with_reducible apply answers_ite
    | lift_lets -underBinder
    | with_reducible apply predOp_frame
    | with_reducible apply frame_ite
    | with_reducible apply frame_foldl
    | with_reducible apply frame_foldr
    | split

theorem execPxor_answers {P : Parts} {s0 : State} (t : Fin 128) {s : State} (hs0 : Frame P s0 s) (h_tr : P.tr = true) :
    Answers P s0 (execPxor t s) := by
  unfold execPxor
  repeat' first
    | with_reducible assumption
    | (intro sv; refine frame_cut (a := Frame P s0 sv) ?_ ?_; on_goal 2 => dsimp -zeta only [sv]; on_goal 1 => clear_value sv)
    | (intro sv; clear_value sv)
    | intro _
    | with_reducible apply answers_next
    | with_reducible apply answers_ite
    | lift_lets -underBinder
    | with_reducible apply predOp_frame
    | with_reducible apply frame_ite
    | with_reducible apply frame_foldl
    | with_reducible apply frame_foldr
    | split

theorem execPnot_answers {P : Parts} {s0 : State} (t : Fin 128) {s : State} (hs0 : Frame P s0 s) (h_tr : P.tr = true) :
    Answers P s0 (execPnot t s) := by
  unfold execPnot
  repeat' first
    | with_reducible assumption
    | (intro sv; refine frame_cut (a := Frame P s0 sv) ?_ ?_; on_goal 2 => dsimp -zeta only [sv]; on_goal 1 => clear_value sv)
    | (intro sv; clear_value sv)
    | intro _
    | with_reducible apply answers_next
    | with_reducible apply answers_ite
    | lift_lets -underBinder
    | with_reducible apply predOp_frame
    | with_reducible apply frame_ite
    | with_reducible apply frame_foldl
    | with_reducible apply frame_foldr
    | split

theorem execMovfm_answers {P : Parts} {s0 : State} (t : Fin 128) {s : State} (hs0 : Frame P s0 s) (h_tr : P.tr = true) :
    Answers P s0 (execMovfm t s) := by
  unfold execMovfm
  repeat' first
    | with_reducible assumption
    | (intro sv; refine frame_cut (a := Frame P s0 sv) ?_ ?_; on_goal 2 => dsimp -zeta only [sv]; on_goal 1 => clear_value sv)
    | (intro sv; clear_value sv)
    | intro _
    | with_reducible apply answers_next
    | with_reducible apply answers_ite
    | lift_lets -underBinder
    | with_reducible apply scalarOp_frame
    | with_reducible apply frame_ite
    | with_reducible apply frame_foldl
    | with_reducible apply frame_foldr
    | split

theorem execMovtm_answers {P : Parts} {s0 : State} (t : Fin 128) {s : State} (hs0 : Frame P s0 s) (h_tr : P.tr = true) :
    Answers P s0 (execMovtm t s) := by
  unfold execMovtm
  repeat' first
    | with_reducible assumption
    | (intro sv; refine frame_cut (a := Frame P s0 sv) ?_ ?_; on_goal 2 => dsimp -zeta only [sv]; on_goal 1 => clear_value sv)
    | (intro sv; clear_value sv)
    | intro _
    | with_reducible apply answers_next
    | with_reducible apply answers_ite
    | lift_lets -underBinder
    | with_reducible apply issue_frame
    | with_reducible apply frame_ite
    | with_reducible apply frame_foldl
    | with_reducible apply frame_foldr
    | split

theorem execVext_answers {P : Parts} {s0 : State} (t : Fin 128) {s : State} (hs0 : Frame P s0 s) (h_tr : P.tr = true) :
    Answers P s0 (execVext t s) := by
  unfold execVext
  repeat' first
    | with_reducible assumption
    | (intro sv; refine frame_cut (a := Frame P s0 sv) ?_ ?_; on_goal 2 => dsimp -zeta only [sv]; on_goal 1 => clear_value sv)
    | (intro sv; clear_value sv)
    | intro _
    | with_reducible apply answers_next
    | with_reducible apply answers_ite
    | lift_lets -underBinder
    | with_reducible apply scalarOp_frame
    | with_reducible apply frame_ite
    | with_reducible apply frame_foldl
    | with_reducible apply frame_foldr
    | split

theorem execBr_answers {P : Parts} {s0 : State} (t : Fin 128) {s : State} (hs0 : Frame P s0 s) (h_tr : P.tr = true) :
    Answers P s0 (execBr t s) := by
  unfold execBr
  repeat' first
    | with_reducible assumption
    | (intro sv; refine frame_cut (a := Frame P s0 sv) ?_ ?_; on_goal 2 => dsimp -zeta only [sv]; on_goal 1 => clear_value sv)
    | (intro sv; clear_value sv)
    | intro _
    | with_reducible apply answers_next
    | with_reducible apply answers_ite
    | lift_lets -underBinder
    | with_reducible apply issue_frame
    | with_reducible apply frame_ite
    | with_reducible apply frame_foldl
    | with_reducible apply frame_foldr
    | split

theorem execLoop_answers {P : Parts} {s0 : State} (t : Fin 128) {s : State} (hs0 : Frame P s0 s) (h_tr : P.tr = true) :
    Answers P s0 (execLoop t s) := by
  unfold execLoop
  repeat' first
    | with_reducible assumption
    | (intro sv; refine frame_cut (a := Frame P s0 sv) ?_ ?_; on_goal 2 => dsimp -zeta only [sv]; on_goal 1 => clear_value sv)
    | (intro sv; clear_value sv)
    | intro _
    | with_reducible apply answers_next
    | with_reducible apply answers_ite
    | lift_lets -underBinder
    | with_reducible apply issue_frame
    | with_reducible apply frame_ite
    | with_reducible apply frame_foldl
    | with_reducible apply frame_foldr
    | split

theorem execBri_answers {P : Parts} {s0 : State} (t : Fin 128) {s : State} (hs0 : Frame P s0 s) (h_tr : P.tr = true) :
    Answers P s0 (execBri t s) := by
  unfold execBri
  repeat' first
    | with_reducible assumption
    | (intro sv; refine frame_cut (a := Frame P s0 sv) ?_ ?_; on_goal 2 => dsimp -zeta only [sv]; on_goal 1 => clear_value sv)
    | (intro sv; clear_value sv)
    | intro _
    | with_reducible apply answers_next
    | with_reducible apply answers_ite
    | lift_lets -underBinder
    | with_reducible apply issue_frame
    | with_reducible apply frame_ite
    | with_reducible apply frame_foldl
    | with_reducible apply frame_foldr
    | split

theorem execHalt_answers {P : Parts} {s0 : State} (t : Fin 128) {s : State} (hs0 : Frame P s0 s) (h_tr : P.tr = true) :
    Answers P s0 (execHalt t s) := by
  unfold execHalt
  repeat' first
    | with_reducible assumption
    | (intro sv; refine frame_cut (a := Frame P s0 sv) ?_ ?_; on_goal 2 => dsimp -zeta only [sv]; on_goal 1 => clear_value sv)
    | (intro sv; clear_value sv)
    | intro _
    | with_reducible apply answers_next
    | with_reducible apply answers_ite
    | lift_lets -underBinder
    | with_reducible apply issue_frame
    | with_reducible apply frame_ite
    | with_reducible apply frame_foldl
    | with_reducible apply frame_foldr
    | split

end Sys2Proof.Machine
end

