-- ==== Sys2Proof/Laws/ValvesFrame.lean ====
section
/-! SUPPORT. What the operations of Machine/Valves.lean may touch, and that they keep the memories canonical. -/

namespace Sys2Proof.Machine

theorem execSvCloseRequest_answers {P : Parts} {s0 : State} (n : Fin 36) {s : State} (hs0 : Frame P s0 s) (h_regs : P.regs = true) (h_sv : P.sv = true) :
    Answers P s0 (execSvCloseRequest n s) := by
  unfold execSvCloseRequest
  repeat' first
    | with_reducible assumption
    | (intro sv; refine frame_cut (a := Frame P s0 sv) ?_ ?_; on_goal 2 => dsimp -zeta only [sv]; on_goal 1 => clear_value sv)
    | (intro sv; clear_value sv)
    | intro _
    | with_reducible apply answers_next
    | with_reducible apply answers_ite
    | lift_lets -underBinder
    | with_reducible apply closeRequest_frame
    | with_reducible apply putBit_frame
    | with_reducible apply frame_ite
    | with_reducible apply frame_foldl
    | with_reducible apply frame_foldr
    | split

theorem execSvOpenRequest_answers {P : Parts} {s0 : State} (n : Fin 36) {s : State} (hs0 : Frame P s0 s) (h_regs : P.regs = true) (h_sys : P.sys = true) (h_mg : P.mg = true) (h_mb : P.mb = true) (h_pb : P.pb = true) (h_le : P.le = true) (h_sv : P.sv = true) (h_pf : P.pf = true) (h_tr : P.tr = true) (h_tw : P.tw = true) :
    Answers P s0 (execSvOpenRequest n s) := by
  unfold execSvOpenRequest
  repeat' first
    | with_reducible assumption
    | (intro sv; refine frame_cut (a := Frame P s0 sv) ?_ ?_; on_goal 2 => dsimp -zeta only [sv]; on_goal 1 => clear_value sv)
    | (intro sv; clear_value sv)
    | intro _
    | with_reducible apply answers_next
    | with_reducible apply answers_ite
    | lift_lets -underBinder
    | with_reducible apply reopenCheck_frame
    | with_reducible apply openRequest_frame
    | with_reducible apply frame_ite
    | with_reducible apply frame_foldl
    | with_reducible apply frame_foldr
    | split

theorem execSvReleaseWrite_answers {P : Parts} {s0 : State} (n : Fin 36) {s : State} (hs0 : Frame P s0 s) (h_regs : P.regs = true) :
    Answers P s0 (execSvReleaseWrite n s) := by
  unfold execSvReleaseWrite
  repeat' first
    | with_reducible assumption
    | (intro sv; refine frame_cut (a := Frame P s0 sv) ?_ ?_; on_goal 2 => dsimp -zeta only [sv]; on_goal 1 => clear_value sv)
    | (intro sv; clear_value sv)
    | intro _
    | with_reducible apply answers_next
    | with_reducible apply answers_ite
    | lift_lets -underBinder
    | with_reducible apply svRelease_frame
    | with_reducible apply frame_ite
    | with_reducible apply frame_foldl
    | with_reducible apply frame_foldr
    | split

theorem execPeakStart_answers {P : Parts} {s0 : State} (n : Fin 36) {s : State} (hs0 : Frame P s0 s) (h_regs : P.regs = true) (h_dic : P.dic = true) (h_vq : P.vq = true) (h_le : P.le = true) (h_sv : P.sv = true) (h_tw : P.tw = true) :
    Answers P s0 (execPeakStart n s) := by
  unfold execPeakStart
  repeat' first
    | with_reducible assumption
    | (intro sv; refine frame_cut (a := Frame P s0 sv) ?_ ?_; on_goal 2 => dsimp -zeta only [sv]; on_goal 1 => clear_value sv)
    | (intro sv; clear_value sv)
    | intro _
    | with_reducible apply answers_next
    | with_reducible apply answers_ite
    | lift_lets -underBinder
    | with_reducible apply tripPreempt_frame
    | with_reducible apply startPeak_frame
    | with_reducible apply frame_ite
    | with_reducible apply frame_foldl
    | with_reducible apply frame_foldr
    | split

theorem execKinkDetect_answers {P : Parts} {s0 : State} (n : Fin 36) (ma : ℕ) {s : State} (hs0 : Frame P s0 s) (h_regs : P.regs = true) (h_sv : P.sv = true) :
    Answers P s0 (execKinkDetect n ma s) := by
  unfold execKinkDetect
  repeat' first
    | with_reducible assumption
    | (intro sv; refine frame_cut (a := Frame P s0 sv) ?_ ?_; on_goal 2 => dsimp -zeta only [sv]; on_goal 1 => clear_value sv)
    | (intro sv; clear_value sv)
    | intro _
    | with_reducible apply answers_next
    | with_reducible apply answers_ite
    | lift_lets -underBinder
    | with_reducible apply kinkSample_frame
    | with_reducible apply wr_frame
    | with_reducible apply frame_ite
    | with_reducible apply frame_foldl
    | with_reducible apply frame_foldr
    | split

theorem execPeakEnd_answers {P : Parts} {s0 : State} (n : Fin 36) {s : State} (hs0 : Frame P s0 s) (h_regs : P.regs = true) (h_dic : P.dic = true) (h_mg : P.mg = true) (h_mb : P.mb = true) (h_vq : P.vq = true) (h_le : P.le = true) (h_sv : P.sv = true) (h_tw : P.tw = true) :
    Answers P s0 (execPeakEnd n s) := by
  unfold execPeakEnd
  repeat' first
    | with_reducible assumption
    | (intro sv; refine frame_cut (a := Frame P s0 sv) ?_ ?_; on_goal 2 => dsimp -zeta only [sv]; on_goal 1 => clear_value sv)
    | (intro sv; clear_value sv)
    | intro _
    | with_reducible apply answers_next
    | with_reducible apply answers_ite
    | lift_lets -underBinder
    | with_reducible apply svClock_frame
    | with_reducible apply endPeakPhase_frame
    | with_reducible apply frame_ite
    | with_reducible apply frame_foldl
    | with_reducible apply frame_foldr
    | split

theorem execOpeningEnd_answers {P : Parts} {s0 : State} (n : Fin 36) {s : State} (hs0 : Frame P s0 s) (h_regs : P.regs = true) (h_sys : P.sys = true) (h_dic : P.dic = true) (h_mg : P.mg = true) (h_mb : P.mb = true) (h_pb : P.pb = true) (h_vq : P.vq = true) (h_le : P.le = true) (h_sv : P.sv = true) (h_pf : P.pf = true) (h_tr : P.tr = true) (h_tw : P.tw = true) :
    Answers P s0 (execOpeningEnd n s) := by
  unfold execOpeningEnd
  repeat' first
    | with_reducible assumption
    | (intro sv; refine frame_cut (a := Frame P s0 sv) ?_ ?_; on_goal 2 => dsimp -zeta only [sv]; on_goal 1 => clear_value sv)
    | (intro sv; clear_value sv)
    | intro _
    | with_reducible apply answers_next
    | with_reducible apply answers_ite
    | lift_lets -underBinder
    | with_reducible apply reopenCheck_frame
    | with_reducible apply endOpening_frame
    | with_reducible apply frame_ite
    | with_reducible apply frame_foldl
    | with_reducible apply frame_foldr
    | split

theorem execPosCheck_answers {P : Parts} {s0 : State} (n : Fin 36) {s : State} (hs0 : Frame P s0 s) (h_regs : P.regs = true) (h_dic : P.dic = true) (h_mg : P.mg = true) (h_mb : P.mb = true) (h_le : P.le = true) (h_sv : P.sv = true) (h_tw : P.tw = true) :
    Answers P s0 (execPosCheck n s) := by
  unfold execPosCheck
  repeat' first
    | with_reducible assumption
    | (intro sv; refine frame_cut (a := Frame P s0 sv) ?_ ?_; on_goal 2 => dsimp -zeta only [sv]; on_goal 1 => clear_value sv)
    | (intro sv; clear_value sv)
    | intro _
    | with_reducible apply answers_next
    | with_reducible apply answers_ite
    | lift_lets -underBinder
    | with_reducible apply posCheck_frame
    | with_reducible apply setSvCh_frame
    | with_reducible apply frame_ite
    | with_reducible apply frame_foldl
    | with_reducible apply frame_foldr
    | split

theorem budgetFail_frame {P : Parts} {s0 : State} {s : State} (n : ℕ) (hs0 : Frame P s0 s) (h_regs : P.regs = true) (h_dic : P.dic = true) (h_mg : P.mg = true) (h_mb : P.mb = true) (h_vq : P.vq = true) (h_le : P.le = true) (h_sv : P.sv = true) (h_tw : P.tw = true) :
    Frame P s0 (State.budgetFail s n) := by
  unfold State.budgetFail
  repeat' first
    | with_reducible assumption
    | (intro sv; refine frame_cut (a := Frame P s0 sv) ?_ ?_; on_goal 2 => dsimp -zeta only [sv]; on_goal 1 => clear_value sv)
    | (intro sv; clear_value sv)
    | intro _
    | lift_lets -underBinder
    | with_reducible apply setSvCh_frame
    | with_reducible apply wr_frame
    | with_reducible apply svEvent_frame
    | with_reducible apply svNote_frame
    | with_reducible apply putBit_frame
    | with_reducible apply svClock_frame
    | with_reducible apply seqFail_frame
    | with_reducible apply frame_ite
    | with_reducible apply frame_foldl
    | with_reducible apply frame_foldr
    | split

theorem execGroupBudgetTimeout_answers {P : Parts} {s0 : State} (n : Fin 36) {s : State} (hs0 : Frame P s0 s) (h_regs : P.regs = true) (h_dic : P.dic = true) (h_mg : P.mg = true) (h_mb : P.mb = true) (h_vq : P.vq = true) (h_le : P.le = true) (h_sv : P.sv = true) (h_tw : P.tw = true) :
    Answers P s0 (execGroupBudgetTimeout n s) := by
  unfold execGroupBudgetTimeout
  repeat' first
    | with_reducible assumption
    | (intro sv; refine frame_cut (a := Frame P s0 sv) ?_ ?_; on_goal 2 => dsimp -zeta only [sv]; on_goal 1 => clear_value sv)
    | (intro sv; clear_value sv)
    | intro _
    | with_reducible apply answers_next
    | with_reducible apply answers_ite
    | lift_lets -underBinder
    | with_reducible apply budgetFail_frame
    | with_reducible apply frame_ite
    | with_reducible apply frame_foldl
    | with_reducible apply frame_foldr
    | split

theorem execOffStateVisit_answers {P : Parts} {s0 : State} (g : Fin 9) (node : ℕ) (rail : ℕ) (supply : ℕ) {s : State} (hs0 : Frame P s0 s) (h_regs : P.regs = true) (h_dic : P.dic = true) (h_mg : P.mg = true) (h_mb : P.mb = true) (h_vq : P.vq = true) (h_le : P.le = true) (h_sv : P.sv = true) (h_tw : P.tw = true) :
    Answers P s0 (execOffStateVisit g node rail supply s) := by
  unfold execOffStateVisit
  repeat' first
    | with_reducible assumption
    | (intro sv; refine frame_cut (a := Frame P s0 sv) ?_ ?_; on_goal 2 => dsimp -zeta only [sv]; on_goal 1 => clear_value sv)
    | (intro sv; clear_value sv)
    | intro _
    | with_reducible apply answers_next
    | with_reducible apply answers_ite
    | lift_lets -underBinder
    | with_reducible apply setSvGrp_frame
    | with_reducible apply offReading_frame
    | with_reducible apply svMeasure_frame
    | with_reducible apply frame_ite
    | with_reducible apply frame_foldl
    | with_reducible apply frame_foldr
    | split

theorem onGroupReading_frame {P : Parts} {s0 : State} {s : State} (n : ℕ) (node : ℕ) (win : ℕ) (periods : ℕ) (hs0 : Frame P s0 s) (h_regs : P.regs = true) (h_dic : P.dic = true) (h_mg : P.mg = true) (h_mb : P.mb = true) (h_vq : P.vq = true) (h_le : P.le = true) (h_sv : P.sv = true) (h_tw : P.tw = true) :
    Frame P s0 (State.onGroupReading s n node win periods) := by
  unfold State.onGroupReading
  repeat' first
    | with_reducible assumption
    | (intro sv; refine frame_cut (a := Frame P s0 sv) ?_ ?_; on_goal 2 => dsimp -zeta only [sv]; on_goal 1 => clear_value sv)
    | (intro sv; clear_value sv)
    | intro _
    | lift_lets -underBinder
    | with_reducible apply setSvCh_frame
    | with_reducible apply svShortGnd_frame
    | with_reducible apply svOpenLoad_frame
    | with_reducible apply frame_ite
    | with_reducible apply frame_foldl
    | with_reducible apply frame_foldr
    | split

theorem execOnGroupVisit_answers {P : Parts} {s0 : State} (n : Fin 36) (node : ℕ) (win : ℕ) (periods : ℕ) {s : State} (hs0 : Frame P s0 s) (h_regs : P.regs = true) (h_dic : P.dic = true) (h_mg : P.mg = true) (h_mb : P.mb = true) (h_vq : P.vq = true) (h_le : P.le = true) (h_sv : P.sv = true) (h_tw : P.tw = true) :
    Answers P s0 (execOnGroupVisit n node win periods s) := by
  unfold execOnGroupVisit
  repeat' first
    | with_reducible assumption
    | (intro sv; refine frame_cut (a := Frame P s0 sv) ?_ ?_; on_goal 2 => dsimp -zeta only [sv]; on_goal 1 => clear_value sv)
    | (intro sv; clear_value sv)
    | intro _
    | with_reducible apply answers_next
    | with_reducible apply answers_ite
    | lift_lets -underBinder
    | with_reducible apply onGroupReading_frame
    | with_reducible apply wr_frame
    | with_reducible apply frame_ite
    | with_reducible apply frame_foldl
    | with_reducible apply frame_foldr
    | split

theorem idleChecks_frame {P : Parts} {s0 : State} {s : State} (g : ℕ) (rail : ℕ) (supply : ℕ) (pulse : List (Fin 4)) (hs0 : Frame P s0 s) (h_regs : P.regs = true) (h_dic : P.dic = true) (h_mg : P.mg = true) (h_vq : P.vq = true) (h_le : P.le = true) (h_tw : P.tw = true) :
    Frame P s0 (State.idleChecks s g rail supply pulse) := by
  unfold State.idleChecks
  repeat' first
    | with_reducible assumption
    | (intro sv; refine frame_cut (a := Frame P s0 sv) ?_ ?_; on_goal 2 => dsimp -zeta only [sv]; on_goal 1 => clear_value sv)
    | (intro sv; clear_value sv)
    | intro _
    | lift_lets -underBinder
    | with_reducible apply svNote_frame
    | with_reducible apply putBit_frame
    | with_reducible apply svBit_frame
    | with_reducible apply frame_ite
    | with_reducible apply frame_foldl
    | with_reducible apply frame_foldr
    | split

theorem execForcedIdleTest_answers {P : Parts} {s0 : State} (g : Fin 9) (rail : ℕ) (supply : ℕ) (pulse : List (Fin 4)) {s : State} (hs0 : Frame P s0 s) (h_regs : P.regs = true) (h_dic : P.dic = true) (h_mg : P.mg = true) (h_vq : P.vq = true) (h_le : P.le = true) (h_sv : P.sv = true) (h_tw : P.tw = true) :
    Answers P s0 (execForcedIdleTest g rail supply pulse s) := by
  unfold execForcedIdleTest
  repeat' first
    | with_reducible assumption
    | (intro sv; refine frame_cut (a := Frame P s0 sv) ?_ ?_; on_goal 2 => dsimp -zeta only [sv]; on_goal 1 => clear_value sv)
    | (intro sv; clear_value sv)
    | intro _
    | with_reducible apply answers_next
    | with_reducible apply answers_ite
    | lift_lets -underBinder
    | with_reducible apply setSvGrp_frame
    | with_reducible apply wr_frame
    | with_reducible apply gidle_frame
    | with_reducible apply idleChecks_frame
    | with_reducible apply frame_ite
    | with_reducible apply frame_foldl
    | with_reducible apply frame_foldr
    | split

theorem execForcedIdleEnd_answers {P : Parts} {s0 : State} (g : Fin 9) {s : State} (hs0 : Frame P s0 s) (h_regs : P.regs = true) (h_sv : P.sv = true) :
    Answers P s0 (execForcedIdleEnd g s) := by
  unfold execForcedIdleEnd
  repeat' first
    | with_reducible assumption
    | (intro sv; refine frame_cut (a := Frame P s0 sv) ?_ ?_; on_goal 2 => dsimp -zeta only [sv]; on_goal 1 => clear_value sv)
    | (intro sv; clear_value sv)
    | intro _
    | with_reducible apply answers_next
    | with_reducible apply answers_ite
    | lift_lets -underBinder
    | with_reducible apply setSvGrp_frame
    | with_reducible apply wr_frame
    | with_reducible apply gidle_frame
    | with_reducible apply frame_ite
    | with_reducible apply frame_foldl
    | with_reducible apply frame_foldr
    | split

theorem execOnStateCheck_answers {P : Parts} {s0 : State} (n : Fin 36) (low : ℕ) (win : ℕ) {s : State} (hs0 : Frame P s0 s) (h_regs : P.regs = true) (h_dic : P.dic = true) (h_mg : P.mg = true) (h_mb : P.mb = true) (h_vq : P.vq = true) (h_le : P.le = true) (h_sv : P.sv = true) (h_tw : P.tw = true) :
    Answers P s0 (execOnStateCheck n low win s) := by
  unfold execOnStateCheck
  repeat' first
    | with_reducible assumption
    | (intro sv; refine frame_cut (a := Frame P s0 sv) ?_ ?_; on_goal 2 => dsimp -zeta only [sv]; on_goal 1 => clear_value sv)
    | (intro sv; clear_value sv)
    | intro _
    | with_reducible apply answers_next
    | with_reducible apply answers_ite
    | lift_lets -underBinder
    | with_reducible apply wr_frame
    | with_reducible apply setSvCh_frame
    | with_reducible apply svShortGnd_frame
    | with_reducible apply svOpenLoad_frame
    | with_reducible apply frame_ite
    | with_reducible apply frame_foldl
    | with_reducible apply frame_foldr
    | split

theorem execLowSideOvercurrent_answers {P : Parts} {s0 : State} (n : Fin 36) (ma : ℕ) {s : State} (hs0 : Frame P s0 s) (h_regs : P.regs = true) (h_dic : P.dic = true) (h_mg : P.mg = true) (h_mb : P.mb = true) (h_vq : P.vq = true) (h_le : P.le = true) (h_sv : P.sv = true) (h_tw : P.tw = true) :
    Answers P s0 (execLowSideOvercurrent n ma s) := by
  unfold execLowSideOvercurrent
  repeat' first
    | with_reducible assumption
    | (intro sv; refine frame_cut (a := Frame P s0 sv) ?_ ?_; on_goal 2 => dsimp -zeta only [sv]; on_goal 1 => clear_value sv)
    | (intro sv; clear_value sv)
    | intro _
    | with_reducible apply answers_next
    | with_reducible apply answers_ite
    | lift_lets -underBinder
    | with_reducible apply wr_frame
    | with_reducible apply svFaultOff_frame
    | with_reducible apply svBit_frame
    | with_reducible apply frame_ite
    | with_reducible apply frame_foldl
    | with_reducible apply frame_foldr
    | split

theorem groupOver_frame {P : Parts} {s0 : State} {s : State} (g : ℕ) (hs0 : Frame P s0 s) (h_regs : P.regs = true) (h_dic : P.dic = true) (h_mg : P.mg = true) (h_le : P.le = true) (h_sv : P.sv = true) :
    Frame P s0 (State.groupOver s g) := by
  unfold State.groupOver
  repeat' first
    | with_reducible assumption
    | (intro sv; refine frame_cut (a := Frame P s0 sv) ?_ ?_; on_goal 2 => dsimp -zeta only [sv]; on_goal 1 => clear_value sv)
    | (intro sv; clear_value sv)
    | intro _
    | lift_lets -underBinder
    | with_reducible apply putBit_frame
    | with_reducible apply groupOff_frame
    | with_reducible apply svNote_frame
    | with_reducible apply setSvGrp_frame
    | with_reducible apply frame_ite
    | with_reducible apply frame_foldl
    | with_reducible apply frame_foldr
    | split

theorem execGroupOvercurrent_answers {P : Parts} {s0 : State} (g : Fin 9) (ma : ℕ) {s : State} (hs0 : Frame P s0 s) (h_regs : P.regs = true) (h_dic : P.dic = true) (h_mg : P.mg = true) (h_le : P.le = true) (h_sv : P.sv = true) :
    Answers P s0 (execGroupOvercurrent g ma s) := by
  unfold execGroupOvercurrent
  repeat' first
    | with_reducible assumption
    | (intro sv; refine frame_cut (a := Frame P s0 sv) ?_ ?_; on_goal 2 => dsimp -zeta only [sv]; on_goal 1 => clear_value sv)
    | (intro sv; clear_value sv)
    | intro _
    | with_reducible apply answers_next
    | with_reducible apply answers_ite
    | lift_lets -underBinder
    | with_reducible apply wr_frame
    | with_reducible apply svClock_frame
    | with_reducible apply setSvGrp_frame
    | with_reducible apply groupOver_frame
    | with_reducible apply frame_ite
    | with_reducible apply frame_foldl
    | with_reducible apply frame_foldr
    | split

theorem execGroupReturn_answers {P : Parts} {s0 : State} (g : Fin 9) {s : State} (hs0 : Frame P s0 s) (h_regs : P.regs = true) (h_mg : P.mg = true) (h_sv : P.sv = true) :
    Answers P s0 (execGroupReturn g s) := by
  unfold execGroupReturn
  repeat' first
    | with_reducible assumption
    | (intro sv; refine frame_cut (a := Frame P s0 sv) ?_ ?_; on_goal 2 => dsimp -zeta only [sv]; on_goal 1 => clear_value sv)
    | (intro sv; clear_value sv)
    | intro _
    | with_reducible apply answers_next
    | with_reducible apply answers_ite
    | lift_lets -underBinder
    | with_reducible apply svClock_frame
    | with_reducible apply log_frame
    | with_reducible apply putBit_frame
    | with_reducible apply wr_frame
    | with_reducible apply frame_ite
    | with_reducible apply frame_foldl
    | with_reducible apply frame_foldr
    | split

theorem stepAtOnce_frame {P : Parts} {s0 : State} {s : State} (p : SvStep) (hs0 : Frame P s0 s) (h_regs : P.regs = true) (h_dic : P.dic = true) (h_mg : P.mg = true) (h_mb : P.mb = true) (h_le : P.le = true) (h_sv : P.sv = true) (h_tw : P.tw = true) :
    Frame P s0 (State.stepAtOnce s p) := by
  unfold State.stepAtOnce
  repeat' first
    | with_reducible assumption
    | (intro sv; refine frame_cut (a := Frame P s0 sv) ?_ ?_; on_goal 2 => dsimp -zeta only [sv]; on_goal 1 => clear_value sv)
    | (intro sv; clear_value sv)
    | intro _
    | lift_lets -underBinder
    | with_reducible apply seqComplete_frame
    | with_reducible apply posCheck_frame
    | with_reducible apply frame_ite
    | with_reducible apply frame_foldl
    | with_reducible apply frame_foldr
    | split

theorem startStep_frame {P : Parts} {s0 : State} {s : State} (p : SvStep) (hs0 : Frame P s0 s) (h_regs : P.regs = true) (h_dic : P.dic = true) (h_mg : P.mg = true) (h_mb : P.mb = true) (h_le : P.le = true) (h_sv : P.sv = true) (h_tw : P.tw = true) :
    Frame P s0 (State.startStep s p) := by
  unfold State.startStep
  repeat' first
    | with_reducible assumption
    | (intro sv; refine frame_cut (a := Frame P s0 sv) ?_ ?_; on_goal 2 => dsimp -zeta only [sv]; on_goal 1 => clear_value sv)
    | (intro sv; clear_value sv)
    | intro _
    | lift_lets -underBinder
    | with_reducible apply stepAtOnce_frame
    | with_reducible apply closeRequest_frame
    | with_reducible apply putBit_frame
    | with_reducible apply seqEnd_frame
    | with_reducible apply openRequest_frame
    | with_reducible apply svRelease_frame
    | with_reducible apply frame_ite
    | with_reducible apply frame_foldl
    | with_reducible apply frame_foldr
    | split

theorem execSequenceStepStart_answers {P : Parts} {s0 : State} {s : State} (hs0 : Frame P s0 s) (h_regs : P.regs = true) (h_dic : P.dic = true) (h_mg : P.mg = true) (h_mb : P.mb = true) (h_le : P.le = true) (h_sv : P.sv = true) (h_tw : P.tw = true) :
    Answers P s0 (execSequenceStepStart s) := by
  unfold execSequenceStepStart
  repeat' first
    | with_reducible assumption
    | (intro sv; refine frame_cut (a := Frame P s0 sv) ?_ ?_; on_goal 2 => dsimp -zeta only [sv]; on_goal 1 => clear_value sv)
    | (intro sv; clear_value sv)
    | intro _
    | with_reducible apply answers_next
    | with_reducible apply answers_ite
    | lift_lets -underBinder
    | with_reducible apply onSv_frame
    | with_reducible apply startStep_frame
    | with_reducible apply frame_ite
    | with_reducible apply frame_foldl
    | with_reducible apply frame_foldr
    | split

theorem execSequenceWaitEnd_answers {P : Parts} {s0 : State} (i : Fin 32) {s : State} (hs0 : Frame P s0 s) (h_regs : P.regs = true) (h_mg : P.mg = true) (h_mb : P.mb = true) (h_sv : P.sv = true) (h_tw : P.tw = true) :
    Answers P s0 (execSequenceWaitEnd i s) := by
  unfold execSequenceWaitEnd
  repeat' first
    | with_reducible assumption
    | (intro sv; refine frame_cut (a := Frame P s0 sv) ?_ ?_; on_goal 2 => dsimp -zeta only [sv]; on_goal 1 => clear_value sv)
    | (intro sv; clear_value sv)
    | intro _
    | with_reducible apply answers_next
    | with_reducible apply answers_ite
    | lift_lets -underBinder
    | with_reducible apply onSv_frame
    | with_reducible apply seqEnd_frame
    | with_reducible apply frame_ite
    | with_reducible apply frame_foldl
    | with_reducible apply frame_foldr
    | split

end Sys2Proof.Machine
end

