-- ==== Sys2Proof/Tests/Slice0.lean ====
section
/-! SUPPORT. Tests: each check of WellFormed refuses an ill-formed term, a few values that the spec's own examples and
tables give, and for every statement with hypotheses a concrete state and operands that meet them together, clause by
clause, at the ends of their ranges. -/

namespace Sys2Proof.Machine

/-- The state at another count of the timebase. -/
def State.at (s : State) (t : Nat) : State := { s with time := t }

end Sys2Proof.Machine

namespace Sys2Proof.Tests

set_option Elab.async false

open Sys2Proof Sys2Proof.Machine

/-- A request payload of `n` bytes: version 1, the listed bytes, zeros elsewhere. -/
def req (n : Nat) (l : List (Nat × Nat)) : List (BitVec 8) :=
  (upto n).map fun i => if i = 4 then 1 else BitVec.ofNat 8 ((l.lookup i).getD 0)

/-- An ACTIVE module in TABLE. -/
def inTable : State := State.reset.onSys fun y => { y with mode := .table, role := .active }

/-- The same with Trellis enabled and an image admitted. -/
def trellisOn : State :=
  ((((inTable.putBit TR_CTRL_ENABLE true).putBit TR_STATUS_ADMITTED true).putBit TR_CTRL_IDLE false).putBit TR_CTRL_RETAIN false)

/-- The same with rotation enabled and no rotation under way. -/
def rotating : State := (trellisOn.putBit TR_STATUS_ROT_ACTIVE true).wr TR_ROT_STATE_PHASE 0

/-- Trellis runs and tile 127 is `x`. -/
def tileOn (x : Tile) : State := (trellisOn.wr (TR_TILE_STATE 127) 1).setTile 127 x

/-- An image of one stage whose directory names its descriptor `d`. -/
def oneStage (d : List (BitVec 8)) : List (BitVec 8) :=
  leBytes 4 0x31455254 ++ leBytes 2 3 ++ leBytes 2 256 ++ leBytes 8 384 ++ zeros 12 ++ leBytes 2 1 ++ leBytes 1 1 ++ zeros 33 ++
    leBytes 4 1 ++ leBytes 4 256 ++ zeros 184 ++ leBytes 2 1 ++ zeros 6 ++ leBytes 8 320 ++ leBytes 8 64 ++ zeros 40 ++ d

/-- An image of one stage that uses no line. -/
def tinyImage : List (BitVec 8) := oneStage (zeros 64)

/-- An image of one stage with more context state than fits. -/
def longImage : List (BitVec 8) := oneStage (zeros 16 ++ leBytes 4 0x10000 ++ zeros 44)

/-- An ACTIVE module in TABLE with one context record of the broker. -/
def oneWritten (f : PbCtx → PbCtx) : State := inTable.setPbCtx 4095 (f {})

/-- A cap record of a kind with `n` failures. -/
def rcd (k : CapKind) (n : Nat) : CapRec := ⟨k, 4095, 0, 20, false, false, 0, 0, 0, n⟩

/-- A twin-link frame of type `t` and sequence number `n`. -/
def frameOf (t n : Nat) : LinkFrame := { typ := t, sub := 0, seq := n, frame := 0, payload := [], crc := linkCrc ⟨t, 0, n, 0, [], 0, []⟩ }

/-- A drive to which a target was sent at count 0. -/
def heartbeatDrive : Drive := { ch := 0, node := 1, maxSpeed := 0, rated := 0, status := 0, velocity := 0, control := 0, sentTarget := 0, sentAt := some 0, emcy := false }

/-- Trellis state does not enter the digest of an image. -/
theorem digest_onTr (s : State) (f : Tr → Tr) (j : Nat) : (s.onTr f).imageDigest j = s.imageDigest j := by
  have h : ∀ a n, (s.onTr f).bytesAt a n = s.bytesAt a n := by
    intro a n
    induction n generalizing a with
    | zero => rfl
    | succ n ih => rw [State.bytesAt, State.bytesAt, ih]; rfl
  simp only [State.imageDigest, State.leAt, h]

/-- A commit at step `n`. -/
def commitAt (n : Nat) : Commit :=
  ⟨0, State.reset.readImage 0 0 0, 0, 0, n, false, false, false, false, 0, [], none, none⟩


/-- The solenoid drivers are enabled and reach the valves. -/
def svUp : State := (State.reset.putBit SV_CTRL_ENABLE true).onTw fun y => { y with outEn := true }

/-- A module in TABLE whose archive is on. -/
def cellarOn : State := inTable.putBit CA_CTRL_ENABLE true

/-- An ACTIVE module in TABLE beside a partner that can take over. -/
def partnered : State :=
  (((inTable.wr TW_PARTNER_ROLE 2).putBit TW_PARTNER_IN_STEP true).putBit TW_STATUS_HB_OK true).onTw fun y =>
    { y with pResync := false, resyncAt := none }

/-- The DDR4 is up and the pace of the patrol has reached the `n`th page. -/
def scrubbing (n : Nat) : State :=
  (((State.reset.putBit CA_CTRL_SCRUB_EN true).wr CA_STATUS_CH_OK 255).onCa fun y =>
    { y with selfRefresh := false, scrubAt := some 0 }).at (n * State.reset.scrubInterval / scrubPages)

/-- Trellis runs a tile whose bundle ends a sentinel bunch with BEND. -/
def shortBunch : State :=
  (tileOn { issued := 127, imem := [(7, 8 * 2 ^ 120)], m0 := 2 ^ 15 }).onTr fun y => { y with sentOn := true }

/-- A CAN frame with an 11-bit identifier and one data byte. -/
def goodCan : CanFrame := ⟨0x7FF, false, false, false, false, false, 1, [0]⟩

/-! ### Well-formed commands -/

theorem test_wf_good : (Instr.canFrameReceive 0 goodCan ⟨true, false, 0⟩ 0).wf = true ∧
    (Instr.twinLinkFrameReceive (frameOf 12 0)).wf = true ∧
    (Instr.setModeHold (req 20 [(8, 5)])).wf = true ∧ (Instr.pumpEnable (req 12 [(9, 1)])).wf = true ∧
    (Instr.modbusWriteGrant (req 12 [(8, 1)])).wf = true := by decide +kernel
theorem test_wf_can_identifier : (Instr.canFrameReceive 0 { goodCan with id := 0x800 } ⟨true, false, 0⟩ 0).wf = false := by decide
theorem test_wf_can_dlc :
    (Instr.canFrameReceive 0 { goodCan with dlc := 16, data := zeros 8 } ⟨true, false, 0⟩ 0).wf = false := by decide
theorem test_wf_can_remote :
    (Instr.canFrameReceive 0 { goodCan with rtr := true, fdf := true, data := [] } ⟨true, false, 0⟩ 0).wf = false := by
  decide
theorem test_wf_can_length : (Instr.canFrameReceive 0 { goodCan with data := [0, 0] } ⟨true, false, 0⟩ 0).wf = false := by decide
theorem test_wf_can_fd_length :
    (Instr.canFrameReceive 0 { goodCan with fdf := true, dlc := 15, data := zeros 64 } ⟨true, false, 0⟩ 0).wf = true := by
  decide
theorem test_wf_link_type : (Instr.twinLinkFrameReceive (frameOf 256 0)).wf = false := by decide
theorem test_wf_link_sequence : (Instr.twinLinkFrameReceive (frameOf 12 (2 ^ 32))).wf = false := by decide
theorem test_wf_link_subtype : (Instr.twinLinkFrameReceive { frameOf 12 0 with sub := 256 }).wf = false := by decide
theorem test_wf_link_frame : (Instr.twinLinkFrameReceive { frameOf 12 0 with frame := 2 ^ 64 }).wf = false := by decide
theorem test_wf_link_payload : (Instr.twinLinkFrameReceive { frameOf 12 0 with payload := zeros 4097 }).wf = false := by
  decide +kernel
theorem test_wf_mode_code : (Instr.setModeTable (req 20 [(8, 3)])).wf = false ∧
    (Instr.setModeReactive (req 20 [(8, 4)])).wf = false ∧
    (Instr.setModePredictive (req 20 [(8, 5)])).wf = false ∧ (Instr.setModeHold (req 20 [(8, 2)])).wf = false ∧
    (Instr.setModeService (req 20 [(8, 255)])).wf = false ∧ (Instr.setModeReset (req 20 [(8, 9)])).wf = false := by decide
theorem test_wf_pump_action : (Instr.pumpDisable (req 12 [(9, 1)])).wf = false ∧
    (Instr.pumpEnable (req 12 [(9, 2)])).wf = false ∧
    (Instr.pumpSetSpeed (req 12 [])).wf = false := by decide
theorem test_wf_modbus_code : (Instr.modbusWriteGrant (req 12 [])).wf = false ∧
    (Instr.modbusWriteRevoke (req 12 [(8, 1)])).wf = false := by
  decide

/-! ### Values that the spec gives -/

/-- The descriptor of slot 907 starts at 0x4113_8B00 and BOB_CTRL3 is at 0x4100_20C0 (02_loop_engine.md, after R65). -/
theorem test_register_addresses : (SL_CTRL 907).addr = 0x41138B00 ∧ (BOB_CTRL 3).addr = 0x410020C0 := by decide
/-- VQ_PKT_TIMEOUT reads 100 µs at reset (R198). -/
theorem test_reset_packet_timeout : State.reset.rd VQ_PKT_TIMEOUT = 100 := by decide +kernel
/-- A register keeps what is written to its field and no other register changes. -/
theorem test_register_write : (State.reset.wr (SV_CHSTAT_STATE 35) 5).rd (SV_CHSTAT_STATE 35) = 5 ∧
    (State.reset.wr (SV_CHSTAT_STATE 35) 5).rd (SV_CHSTAT_STATE 34) = State.reset.rd (SV_CHSTAT_STATE 34) := by decide +kernel
/-- 1 + 2 = 3, 1 + (-1) = +0 and the tie 1 + 2^-24 goes to even in binary32 (IEEE 754, R128). -/
theorem test_fadd : fadd 0x3F800000 0x40000000 = 0x40400000 ∧ fadd 0x3F800000 0xBF800000 = 0 ∧
    fadd 0x3F800000 0x33800000 = 0x3F800000 := by decide +kernel
/-- 1.5 × 1.5 = 2.25 (R128). -/
theorem test_fmul : fmul 0x3FC00000 0x3FC00000 = 0x40100000 := by decide +kernel
/-- BF16 rounds a tie to even: 0x3F80_8000 to 0x3F80, 0x3F81_8000 to 0x3F82. -/
theorem test_bf16 : bf16Of 0x3F808000 = 0x3F80 ∧ bf16Of 0x3F818000 = 0x3F82 := by decide +kernel
/-- LT is signed and LTU unsigned (R104). -/
theorem test_conditions : ccInt 64 2 (2 ^ 64 - 1) 0 = true ∧ ccInt 64 4 (2 ^ 64 - 1) 0 = false := by decide +kernel
/-- ADD s1, s1, s2: opcode 1 in [127:120], D in [114:109], A in [108:103], B in [102:97] (R92). -/
def addWord : Nat := 0x01 * 2 ^ 120 + 1 * 2 ^ 109 + 1 * 2 ^ 103 + 2 * 2 ^ 97
/-- ADD of s1 = 2^64 - 1 and s2 = 1 into s1 leaves 0 after one cycle: the sum wraps and nothing is read late (R105). -/
theorem test_add_wraps :
    (match exec (.add 127) (tileOn { s := [(1, 2 ^ 64 - 1), (2, 1)], imem := [(0, addWord)] }) with
    | .next u => ((u.tile 127).pend == [⟨1, 0, .sreg 1 0⟩])
    | _ => false) = true := by decide +kernel
/-- Every operation of the tiles issues somewhere: its word is legal, its predicate holds, and its slot's turn has come. -/
def opTable : List (Nat × List Nat) :=
  [(0, [1, 2, 3, 4, 5, 6, 7, 8, 9, 10, 11, 0x11, 0x12, 0x13, 0x18, 0x19, 0x1A, 0x1B, 0x1C, 0x1D, 0x20, 0x21, 0x22, 0x30, 0x31,
      0x32, 0x3F]),
    (1, [1, 2, 3, 4, 5, 9, 10, 11, 12]), (2, [1, 2, 3, 4, 5, 9, 10, 11, 12]), (3, [1, 2, 3, 4, 5, 6, 8]), (4, [1, 2, 3, 4, 5]),
    (5, [1, 2, 3, 4, 5, 6, 7, 8, 9, 10, 11, 12, 13, 14, 15, 16, 17, 18, 19] ++
      [0x20, 0x21, 0x22, 0x23, 0x24, 0x25, 0x26, 0x27, 0x28, 0x29, 0x2A, 0x2B, 0x30, 0x31, 0x40, 0x41, 0x42, 0x43, 0x44]),
    (6, [1, 2, 3, 4, 5, 6, 7, 8, 9, 10, 11, 12, 13, 14, 15, 16, 17, 18, 19] ++
      [0x20, 0x21, 0x22, 0x23, 0x24, 0x25, 0x26, 0x27, 0x28, 0x29, 0x2A, 0x2B, 0x30, 0x31, 0x40, 0x41, 0x42, 0x43, 0x44]),
    (7, [1, 2, 3, 4, 8])]
/-- A tile with one complete message, whose slot `k` of the bundle at 0 holds `w` and is the next to issue. -/
def turnOf (k w : Nat) : Tile :=
  { issued := 2 ^ k - 1, imem := [(k, w)], inCh := [(0, ⟨0, 1, [⟨0, 0, 1, 0⟩]⟩)], outCh := [(0, .out)] }
/-- An operation that executes is held by its slot. -/
theorem holds_of_executes {s : State} {t k o : Nat} (h : s.executes t k o = true) : s.holds t k o := by
  simp only [State.executes, Bool.and_eq_true, beq_iff_eq] at h
  exact ⟨h.1.1.1, h.1.1.2, h.1.2⟩
/-- The hypothesis of `Runs`, `Loads` and `Stores` is met by every operation in its slot, and its predicate holds. -/
theorem witness_Runs : ∀ q ∈ opTable, ∀ o ∈ q.2,
    (tileOn (turnOf q.1 (o * 2 ^ 120))).holds 127 q.1 o ∧
      (tileOn (turnOf q.1 (o * 2 ^ 120))).executes 127 q.1 o = true := by
  have h : ∀ q ∈ opTable, ∀ o ∈ q.2, (tileOn (turnOf q.1 (o * 2 ^ 120))).executes 127 q.1 o = true := by decide +kernel
  exact fun q hq o ho => ⟨holds_of_executes (h q hq o ho), h q hq o ho⟩

/-- The hypotheses of each clause of `Obligations.StepRunsTheFront` are met together. -/
theorem witness_StepRunsTheFront :
    ∃ (c : Instr) (rest : List Instr) (s : State), s.pending = c :: rest :=
  ⟨.powerOn, ([]), { State.reset with pending := [.powerOn] }, by decide +kernel⟩

/-- The hypotheses of each clause of `Obligations.IdleTick` are met together. -/
theorem witness_IdleTick :
    (∃ (s : State), s.pending = []) ∧
    (∃ (s : State), s.counting) ∧
    (∃ (s : State), ¬ s.counting) :=
  ⟨⟨State.reset, by decide +kernel⟩,
   ⟨State.reset.onSys fun y => { y with phase := .running }, by decide +kernel⟩,
   ⟨State.reset, by decide +kernel⟩⟩

/-- The hypotheses of each clause of `Obligations.StepKeepsInv` are met together. -/
theorem witness_StepKeepsInv :
    ∃ (s : State) (t : State), s.Inv ∧ step s = .next t :=
  ⟨State.reset, (State.reset.tick), ⟨by decide +kernel, by decide +kernel⟩, rfl⟩

/-- The hypotheses of each clause of `Obligations.ResetSources` are met together. -/
theorem witness_ResetSources :
    (∃ (s : State), s.sys.mode ≠ .off) ∧
    (∃ (s : State), s.sys.mode = .off) ∧
    (∃ (s : State), s.sys.mode ≠ .off) ∧
    (∃ (s : State), s.sys.mode ≠ .off ∧ s.sys.mode ≠ .failed ∧ s.bit CK_CTRL_WARM_ARM = true ∧ s.rd64 CK_WARM_AT_LO ≤
      s.time) ∧
    (∃ (s : State), s.sys.mode = .boot ∧ s.mg.watchdogHeld = false ∧ s.since s.mg.watchdog (secs 60) = true) :=
  ⟨⟨State.reset, by decide +kernel⟩,
   ⟨(State.reset.onSys fun y => { y with mode := .off }), by decide +kernel⟩,
   ⟨State.reset, by decide +kernel⟩,
   ⟨(State.reset.putBit CK_CTRL_WARM_ARM true), by decide +kernel, by decide +kernel, by decide +kernel,
     by decide +kernel⟩,
   ⟨((((State.reset.at (secs 60)).onSys fun y => { y with mode := .boot }).onMg fun y =>
     { y with watchdogHeld := false }).onMg fun y => { y with watchdog := some 0 }), by decide +kernel,
     by decide +kernel, by decide +kernel⟩⟩

/-- The hypotheses of each clause of `Obligations.BootSequence` are met together. -/
theorem witness_BootSequence :
    (∃ (s : State), s.Inv ∧ s.sys.mode = .boot ∧ s.sys.phase = .rails ∧ s.mg.bootsActive = true ∧ s.mg.activeSlot < 2) ∧
    (∃ (s : State), s.sys.mode = .boot ∧ s.sys.phase = .rails ∧ s.mg.bootsActive = false ∧ (s.mg.slot (1 -
      s.mg.activeSlot)).passes s.mg.fuse = true) ∧
    (∃ (s : State), s.sys.mode = .boot ∧ s.sys.phase = .rails ∧ s.mg.bootsActive = false ∧ (s.mg.slot (1 -
      s.mg.activeSlot)).passes s.mg.fuse = false) ∧
    (∃ (s : State), s.sys.mode = .boot ∧ s.sys.phase = .stage0 ∧ (s.mg.slot s.mg.runSlot).hubOk = true) ∧
    (∃ (s : State), s.sys.mode = .boot ∧ s.sys.phase = .stage0 ∧ (s.mg.slot s.mg.runSlot).hubOk = false) ∧
    (∃ (s : State), s.Inv ∧ s.sys.mode = .boot ∧ s.sys.phase = .stage1) ∧
    (∃ (s : State) (_ : Fin 8), s.sys.mode = .boot ∧ s.sys.phase = .stage1) ∧
    (∃ (s : State) (_ : BitVec 128), s.sys.mode = .boot ∧ s.sys.phase = .ddr) ∧
    (∃ (s : State), s.Inv ∧ s.sys.mode = .boot ∧ s.sys.phase = .selftest) ∧
    (∃ (s : State), s.sys.mode = .boot ∧ s.sys.phase = .selftest) ∧
    (∃ (s : State), s.sys.mode = .boot ∧ s.sys.phase = .config) ∧
    (∃ (s : State), s.Inv ∧ s.sys.mode = .boot ∧ s.sys.phase = .inputs ∧ s.rd TW_STATUS_LINE < 2) ∧
    (∃ (s : State), s.sys.mode = .boot ∧ s.sys.phase = .inputs ∧ 2 ≤ s.rd TW_STATUS_LINE) ∧
    (∃ (s : State), s.sys.mode = .boot ∧ s.sys.phase = .claimEnabled ∧ s.sys.role ≠ .undecided ∧ s.bit TM_CTRL_LOCK = true
      ∧ s.time % s.frameCounts = 0) ∧
    (∃ (s : State) (u : Update), s.mg.trial = true ∧ s.mg.update = some u ∧ s.since s.sys.tableSince (secs 60) = true) ∧
    (∃ (s : State), s.Inv ∧ s.mg.trial = true ∧ s.mg.update = none ∧ s.since s.sys.tableSince (secs 60) = true) :=
  ⟨⟨State.reset.onSys fun y => { y with mode := .boot, phase := .rails }, ⟨by decide +kernel, by decide +kernel⟩,
     by decide +kernel, by decide +kernel, by decide +kernel, by decide +kernel⟩,
   ⟨(State.reset.onSys fun y => { y with mode := .boot, phase := .rails }).onMg fun y =>
     { y with slotA := { y.slotA with sigOk := false } }, by decide +kernel, by decide +kernel, by decide +kernel,
     by decide +kernel⟩,
   ⟨(State.reset.onSys fun y => { y with mode := .boot, phase := .rails }).onMg fun y =>
     { y with slotA := { y.slotA with sigOk := false }, slotB := { y.slotB with sigOk := false } }, by decide +kernel,
     by decide +kernel, by decide +kernel, by decide +kernel⟩,
   ⟨((State.reset.onSys fun y => { y with mode := .boot }).onSys fun y => { y with phase := .stage0 }),
     by decide +kernel, by decide +kernel, by decide +kernel⟩,
   ⟨(((State.reset.onSys fun y => { y with mode := .boot }).onSys fun y => { y with phase := .stage0 }).onMg fun y =>
     { y with slotA := { y.slotA with hubOk := false } }), by decide +kernel, by decide +kernel, by decide +kernel⟩,
   ⟨((State.reset.onSys fun y => { y with mode := .boot }).onSys fun y => { y with phase := .stage1 }),
     ⟨by decide +kernel, by decide +kernel⟩, by decide +kernel, by decide +kernel⟩,
   ⟨((State.reset.onSys fun y => { y with mode := .boot }).onSys fun y => { y with phase := .stage1 }), 7,
     by decide +kernel, by decide +kernel⟩,
   ⟨((State.reset.onSys fun y => { y with mode := .boot }).onSys fun y => { y with phase := .ddr }), 0,
     by decide +kernel, by decide +kernel⟩,
   ⟨((State.reset.onSys fun y => { y with mode := .boot }).onSys fun y => { y with phase := .selftest }),
     ⟨by decide +kernel, by decide +kernel⟩, by decide +kernel, by decide +kernel⟩,
   ⟨((State.reset.onSys fun y => { y with mode := .boot }).onSys fun y => { y with phase := .selftest }),
     by decide +kernel, by decide +kernel⟩,
   ⟨((State.reset.onSys fun y => { y with mode := .boot }).onSys fun y => { y with phase := .config }),
     by decide +kernel, by decide +kernel⟩,
   ⟨((State.reset.onSys fun y => { y with mode := .boot }).onSys fun y => { y with phase := .inputs }),
     ⟨by decide +kernel, by decide +kernel⟩, by decide +kernel, by decide +kernel, by decide +kernel⟩,
   ⟨(((State.reset.onSys fun y => { y with mode := .boot }).onSys fun y => { y with phase := .inputs }).wr TW_STATUS_LINE
     2), by decide +kernel, by decide +kernel, by decide +kernel⟩,
   ⟨((((State.reset.onSys fun y => { y with mode := .boot }).onSys fun y => { y with phase := .claimEnabled }).putBit
     TM_CTRL_LOCK true).onSys fun y => { y with role := .standby }), by decide +kernel, by decide +kernel,
     by decide +kernel, by decide +kernel, by decide +kernel⟩,
   ⟨((State.reset.onMg fun y =>
     { y with trial := true, update := some ⟨0, 0, 0, [], [], true, true, 0, true, 0, 0, 0⟩ }).onSys fun y =>
     { y with tableSince := some 0 }).at (secs 60), (⟨0, 0, 0, [], [], true, true, 0, true, 0, 0, 0⟩),
     by decide +kernel, by decide +kernel, by decide +kernel⟩,
   ⟨((((State.reset.at (secs 60)).onMg fun y => { y with trial := true }).onMg fun y => { y with update := none }).onSys
     fun y => { y with tableSince := some 0 }), ⟨by decide +kernel, by decide +kernel⟩, by decide +kernel,
     by decide +kernel, by decide +kernel⟩⟩

/-- The hypotheses of each clause of `Obligations.StateChangesInTime` are met together. -/
theorem witness_StateChangesInTime :
    (∃ (s : State), (s.sys.role = .active ∨ s.sys.role = .undecided ∨ s.sys.role = .isolatedStandby) ∧ s.onBoundary = true
      ∧ s.sys.lastFrame ≠ some s.time) ∧
    (∃ (s : State), s.sys.role = .standby ∧ s.onBoundary = true ∧ s.sys.lastFrame ≠ some s.time) ∧
    (∃ (s : State), s.sys.role = .faulted ∧ s.onBoundary = true ∧ s.sys.lastFrame ≠ some s.time) ∧
    (∃ (s : State) (n : Nat), s.Inv ∧ n < 2 ^ 64) ∧
    (∃ (s : State) (_ : BitVec 16), s.sys.framesOn = true ∧ s.time % 5000 = 0 ∧ s.sys.lastTick ≠ some s.time) ∧
    (∃ (s : State), s.sys.silenceStart + secs s.hostTimeout ≤ s.time ∧ s.sys.mode ≠ .reactive ∧ s.sys.mode ≠ .predictive) ∧
    (∃ (s : State), s.sys.silenceStart + secs s.hostTimeout ≤ s.time ∧ (s.sys.mode = .reactive ∨ s.sys.mode =
      .predictive)) ∧
    (∃ (s : State), (s.sys.isoPend.filter fun p => decide (p.1 ≤ s.time)) ≠ [] ∧ (s.sys.mode.running = true ∨ s.sys.mode =
      .service ∨ s.sys.mode = .isolate)) ∧
    (∃ (s : State), s.sys.mode = .shed ∧ s.since s.pf.restoredAt (msec 500) = true ∧ s.since s.pb.confirmedAt (msec 500) =
      true ∧ s.sys.isolated = 0 ∧ s.sys.isoPend = []) ∧
    (∃ (s : State), s.sys.mode = .shed ∧ s.since s.pf.restoredAt (msec 500) = true ∧ s.since s.pb.confirmedAt (msec 500) =
      true ∧ (s.sys.isolated ≠ 0 ∨ s.sys.isoPend ≠ [])) ∧
    (∃ (s : State), s.sys.mode = .reactive ∧ s.sys.resumePredictive = true ∧ 8 ≤ s.tr.goodBase ∧ s.bit TR_STATUS_ADMITTED
      = true) ∧
    (∃ (s : State), s.sys.mode = .isolate ∧ s.sys.prior = .predictive ∧ s.sys.resumePredictive = true ∧ 8 ≤ s.tr.goodBase
      ∧ s.bit TR_STATUS_ADMITTED = true) ∧
    (∃ (s : State), s.sys.mode = .survival ∧ s.since s.sn.cpOk (secs 10) = true) ∧
    (∃ (s : State) (f : Nat), s.sys.lastFrame = some f ∧ f + min (s.rd LE_FRAME_CUTOFF_TICKS) (s.rd LE_FRAME_FRAME_TICKS -
      4) * 5000 ≤ s.time) ∧
    (∃ (s : State) (n : Nat), s.Inv ∧ s.le.frameTicksNew = some n ∧ n < 64 ∧ s.sys.mode = .table ∧ s.time % s.frameCounts
      = 0 ∧ s.time % (n * 5000) = 0) :=
  ⟨⟨((State.reset.onSys fun y => { y with role := .active }).onSys fun y => { y with framesOn := true }),
     by decide +kernel, by decide +kernel, by decide +kernel⟩,
   ⟨((State.reset.onSys fun y => { y with role := .standby }).onSys fun y => { y with framesOn := true }),
     by decide +kernel, by decide +kernel, by decide +kernel⟩,
   ⟨((State.reset.onSys fun y => { y with role := .faulted }).onSys fun y => { y with framesOn := true }),
     by decide +kernel, by decide +kernel, by decide +kernel⟩,
   ⟨State.reset, 0, ⟨by decide +kernel, by decide +kernel⟩, by decide +kernel⟩,
   ⟨(State.reset.onSys fun y => { y with framesOn := true }), 0, by decide +kernel, by decide +kernel, by decide +kernel⟩,
   ⟨(inTable.at (secs 30)), by decide +kernel, by decide +kernel, by decide +kernel⟩,
   ⟨((State.reset.onSys fun y => { y with mode := .predictive }).at (secs 30)), by decide +kernel, by decide +kernel⟩,
   ⟨(inTable.onSys fun y => { y with isoPend := [(0, 1)] }), by decide +kernel, by decide +kernel⟩,
   ⟨((((((State.reset.at (max ((msec 500)) ((msec 500)))).onSys fun y => { y with mode := .shed }).onPf fun y =>
     { y with restoredAt := some 0 }).onPb fun y => { y with confirmedAt := some 0 }).onSys fun y =>
     { y with isolated := 0 }).onSys fun y => { y with isoPend := [] }), by decide +kernel, by decide +kernel,
     by decide +kernel, by decide +kernel, by decide +kernel⟩,
   ⟨(((((State.reset.at (max ((msec 500)) ((msec 500)))).onSys fun y => { y with mode := .shed }).onPf fun y =>
     { y with restoredAt := some 0 }).onPb fun y => { y with confirmedAt := some 0 }).onSys fun y =>
     { y with isolated := 1 }), by decide +kernel, by decide +kernel, by decide +kernel, by decide +kernel⟩,
   ⟨((((State.reset.onSys fun y => { y with mode := .reactive }).onSys fun y =>
     { y with resumePredictive := true }).putBit TR_STATUS_ADMITTED true).onTr fun y => { y with goodBase := 8 }),
     by decide +kernel, by decide +kernel, by decide +kernel, by decide +kernel⟩,
   ⟨(((((State.reset.onSys fun y => { y with mode := .isolate }).onSys fun y => { y with prior := .predictive }).onSys
     fun y => { y with resumePredictive := true }).putBit TR_STATUS_ADMITTED true).onTr fun y =>
     { y with goodBase := 8 }), by decide +kernel, by decide +kernel, by decide +kernel, by decide +kernel,
     by decide +kernel⟩,
   ⟨(((State.reset.at (secs 10)).onSys fun y => { y with mode := .survival }).onSn fun y => { y with cpOk := some 0 }),
     by decide +kernel, by decide +kernel⟩,
   ⟨((State.reset.onSys fun y => { y with lastFrame := some 0 }).at (500 * 5000)), 0, by decide +kernel,
     by decide +kernel⟩,
   ⟨((State.reset.onLe fun y => { y with frameTicksNew := some 0 }).onSys fun y => { y with mode := .table }), 0,
     ⟨by decide +kernel, by decide +kernel⟩, by decide +kernel, by decide +kernel, by decide +kernel,
     by decide +kernel, by decide +kernel⟩⟩

/-- The hypotheses of each clause of `Obligations.LoopSlots` are met together. -/
theorem witness_LoopSlots :
    (∃ (s : State) (p : Fin 8) (k : Nat) (rel : Nat) (dl : Nat), s.bit LE_CTRL_ENABLE = true ∧ s.pairUp p = true ∧ tget 0
      s.le.busy p ≤ s.time ∧ s.nextSample = some (k, rel, dl)) ∧
    (∃ (s : State) (p : Fin 8) (k : Nat) (rel : Nat) (dl : Nat), s.bit LE_CTRL_ENABLE = true ∧ s.pairUp p = true ∧ tget 0
      s.le.busy p ≤ s.time ∧ s.nextSample = some (k, rel, dl)) ∧
    (∃ (s : State) (p : Fin 8) (_ : Bool), (s.bit LE_CTRL_ENABLE = false ∨ s.pairUp p = false ∨ s.time < tget 0 s.le.busy
      p ∨ s.nextSample = none)) ∧
    (∃ (s : State) (p : Fin 8), s.pairUp p = true ∧ tfind s.le.checked p ≠ some (s.time / 5000) ∧ tget 0 s.le.busy p ≤
      s.time) ∧
    (∃ (s : State) (p : Fin 8), s.pairUp p = true ∧ tfind s.le.checked p ≠ some (s.time / 5000) ∧ tget 0 s.le.busy p ≤
      s.time) ∧
    (∃ (s : State) (p : Fin 8) (_ : Bool), (s.pairUp p = false ∨ tfind s.le.checked p = some (s.time / 5000) ∨ s.time <
      tget 0 s.le.busy p)) ∧
    (∃ (s : State) (k : Fin 4608) (rel : Nat) (dl : Nat), s.Inv ∧ (s.slot k).release = some (rel, dl) ∧ dl ≤ s.time) ∧
    (∃ (s : State) (k : Fin 4608), (s.slot k).release.all (fun q => decide (s.time < q.2)) = true) :=
  ⟨⟨((State.reset.putBit LE_CTRL_ENABLE true).wr LE_CTRL_PAIR_EN 255).setSlot 4607
     { release := some (0, 20), ready := true }, 7, 4607, 0, 20, by decide +kernel, by decide +kernel,
     by decide +kernel, by decide +kernel⟩,
   ⟨((State.reset.putBit LE_CTRL_ENABLE true).wr LE_CTRL_PAIR_EN 255).setSlot 4607
     { release := some (0, 20), ready := true }, 7, 4607, 0, 20, by decide +kernel, by decide +kernel,
     by decide +kernel, by decide +kernel⟩,
   ⟨State.reset, 7, true, by decide +kernel⟩,
   ⟨State.reset.wr LE_CTRL_PAIR_EN 255, 7, by decide +kernel, by decide +kernel, by decide +kernel⟩,
   ⟨State.reset, 7, by decide +kernel, by decide +kernel, by decide +kernel⟩,
   ⟨State.reset.wr LE_CTRL_PAIR_EN 0, 7, true, by decide +kernel⟩,
   ⟨((State.reset.at 0).setSlot 4607 { release := some (0, 0) }), 4607, 0, 0, ⟨by decide +kernel, by decide +kernel⟩,
     by decide +kernel, by decide +kernel⟩,
   ⟨State.reset, 4607, by decide +kernel⟩⟩

/-- The hypotheses of each clause of `Obligations.FeedbackTimeouts` are met together. -/
theorem witness_FeedbackTimeouts :
    (∃ (s : State) (c : Fin 4096), s.Inv ∧ 4 ≤ tget 0 s.vq.silent c ∧ s.bit (SL_FLAGS_CTX_SILENT c) = false) ∧
    (∃ (s : State) (c : Fin 4096), (tget 0 s.vq.silent c < 4 ∨ s.bit (SL_FLAGS_CTX_SILENT c) = true)) ∧
    (∃ (s : State) (k : Fin 4608), s.Inv ∧ (s.slot k).lastSrc = 2 ∧ 30000 ≤ s.rd (SL_VS_TIME k)) ∧
    (∃ (s : State) (k : Fin 4608), ((s.slot k).lastSrc ≠ 2 ∨ s.rd (SL_VS_TIME k) < 30000)) ∧
    (∃ (s : State) (k : Fin 4608), s.Inv ∧ (s.slot k).lastSrc ≠ 0 ∧ ((∃ t0, (s.slot k).validSince = some t0 ∧ t0 + secs 10
      ≤ s.time))) ∧
    (∃ (s : State) (k : Fin 4608), ((s.slot k).lastSrc = 0 ∨ (s.slot k).validSince = none ∨ (∃ t0, (s.slot k).validSince =
      some t0 ∧ s.time < t0 + secs 10))) ∧
    (∃ (s : State) (k : Fin 4608), s.Inv ∧ ((∃ t0, (s.slot k).agreeSince = some t0 ∧ t0 + secs 60 ≤ s.time))) ∧
    (∃ (s : State) (k : Fin 4608), ((s.slot k).agreeSince = none ∨ (∃ t0, (s.slot k).agreeSince = some t0 ∧ s.time < t0 +
      secs 60))) :=
  ⟨⟨(State.reset.onVq fun y => { y with silent := [(4095, 4)] }), 4095, ⟨by decide +kernel, by decide +kernel⟩,
     by decide +kernel, by decide +kernel⟩,
   ⟨State.reset, 4095, by decide +kernel⟩,
   ⟨((State.reset.wr (SL_VS_TIME 4607) 30000).setSlot 4607 { lastSrc := 2 }), 4607, ⟨by decide +kernel,
     by decide +kernel⟩, by decide +kernel, by decide +kernel⟩,
   ⟨State.reset, 4607, by decide +kernel⟩,
   ⟨(State.reset.setSlot 4607 { lastSrc := 2, validSince := some 0 }).at (secs 10), 4607, ⟨by decide +kernel,
     by decide +kernel⟩, by decide +kernel, by decide +kernel⟩,
   ⟨(State.reset.setSlot 4607 { lastSrc := 0 }), 4607, by decide +kernel⟩,
   ⟨(State.reset.setSlot 4607 { agreeSince := some 0 }).at (secs 60), 4607, ⟨by decide +kernel, by decide +kernel⟩, ⟨0,
     by decide +kernel, by decide +kernel⟩⟩,
   ⟨(State.reset.setSlot 4607 { agreeSince := none }), 4607, by decide +kernel⟩⟩

/-- The hypotheses of each clause of `Obligations.RepetitivePool` are met together. -/
theorem witness_RepetitivePool :
    (∃ (s : State), s.Inv) ∧
    (∃ (s : State), s.le.waiting = []) ∧
    (∃ (s : State) (k : Nat) (n : Nat) (l : List Nat), s.le.waiting = [(k, n)] ∧ n ≠ 0 ∧ s.freePages n = some l) ∧
    (∃ (s : State) (k : Nat) (n : Nat), s.le.waiting = [(k, n)] ∧ (n = 0 ∨ s.freePages n = none)) ∧
    (∃ (s : State) (k : Fin 4096) (est : Nat) (t0 : Nat), s.Inv ∧ s.actBit (SL_CTRL_EN_RC k) = true ∧ s.act
      (SL_RC_CFG_PERIOD k) = 0 ∧ (s.slot k).estAt = some t0 ∧ t0 + secs 10 = s.time ∧ 2 ≤ est ∧ est ≤ 16384 ∧ est ≤
      (s.slot k).est + 1 ∧ (s.slot k).est ≤ est + 1) ∧
    (∃ (s : State) (k : Fin 4096) (est : Nat), s.actBit (SL_CTRL_EN_RC k) = true ∧ s.act (SL_RC_CFG_PERIOD k) = 0 ∧
      ((s.slot k).estAt = none ∨ (∃ t0, (s.slot k).estAt = some t0 ∧ t0 + secs 10 ≤ s.time)) ∧ ((∀ t0, (s.slot
      k).estAt = some t0 → t0 + secs 10 ≠ s.time) ∨ est < 2 ∨ 16384 < est ∨ (s.slot k).est + 1 < est ∨ est + 1 <
      (s.slot k).est)) ∧
    (∃ (s : State) (k : Fin 4096) (_ : Nat), (s.actBit (SL_CTRL_EN_RC k) = false ∨ s.act (SL_RC_CFG_PERIOD k) ≠ 0 ∨ (∃ t0,
      (s.slot k).estAt = some t0 ∧ s.time < t0 + secs 10))) ∧
    (∃ (s : State) (_ : Fin 4608), s.Inv) ∧
    (∃ (s : State) (_ : BitVec 16), s.Inv) ∧
    (∃ (s : State), s.Inv) :=
  ⟨⟨State.reset, ⟨by decide +kernel, by decide +kernel⟩⟩,
   ⟨(State.reset.onLe fun y => { y with waiting := [] }), by decide +kernel⟩,
   ⟨(State.reset.wr LE_RC_FREE 2).onLe fun y => { y with waiting := [(1, 2)] }, 1, 2, ([0, 1]), by decide +kernel,
     by decide +kernel, by decide +kernel⟩,
   ⟨(State.reset.onLe fun y => { y with waiting := [(0, 0)] }), 0, 0, by decide +kernel, by decide +kernel⟩,
   ⟨((State.reset.setSlot 4095 { estAt := some 0, est := 2 }).onLe fun y =>
     { y with active := [((SL_CTRL_EN_RC 4095).addr, BitVec.ofNat 32 (2 ^ (SL_CTRL_EN_RC 4095).lo))] }).at (secs 10),
     4095, 2, 0, ⟨by decide +kernel, by decide +kernel⟩, by decide +kernel, by decide +kernel, by decide +kernel,
     by decide +kernel, by decide +kernel, by decide +kernel, by decide +kernel, by decide +kernel⟩,
   ⟨State.reset.onLe fun y =>
     { y with active := [((SL_CTRL_EN_RC 4095).addr, BitVec.ofNat 32 (2 ^ (SL_CTRL_EN_RC 4095).lo))] }, 4095, 2,
     by decide +kernel, by decide +kernel, by decide +kernel, by decide +kernel⟩,
   ⟨State.reset, 4095, 0, by decide +kernel⟩,
   ⟨State.reset, 4607, ⟨by decide +kernel, by decide +kernel⟩⟩,
   ⟨State.reset, 0, ⟨by decide +kernel, by decide +kernel⟩⟩,
   ⟨State.reset, ⟨by decide +kernel, by decide +kernel⟩⟩⟩

/-- The hypotheses of each clause of `Obligations.InjectionAndBobbins` are met together. -/
theorem witness_InjectionAndBobbins :
    (∃ (s : State) (_ : Fin 32), s.Inv) ∧
    (∃ (s : State) (c : Fin 32), s.Inv ∧ s.rd (LE_INJ_CTRL_STATE c) = 1 ∧ ((s.rd64 (LE_INJ_START_LO c) = 0 ∧ (s.slot (s.rd
      (LE_INJ_CTRL_SLOT c))).release.isSome = true) ∨ (s.rd64 (LE_INJ_START_LO c) ≠ 0 ∧ s.rd64 (LE_INJ_START_LO c) ≤
      s.time + min (s.rd (LE_INJ_CAP_PRE c)) 1024 * ((s.rd (LE_INJ_CAP_DECIM c) + 255) % 256 + 1) * s.period (s.rd
      (LE_INJ_CTRL_SLOT c))))) ∧
    (∃ (s : State) (c : Fin 32), s.rd (LE_INJ_CTRL_STATE c) = 1 ∧ ((s.rd64 (LE_INJ_START_LO c) = 0 ∧ (s.slot (s.rd
      (LE_INJ_CTRL_SLOT c))).release = none) ∨ (s.rd64 (LE_INJ_START_LO c) ≠ 0 ∧ s.time + min (s.rd (LE_INJ_CAP_PRE
      c)) 1024 * ((s.rd (LE_INJ_CAP_DECIM c) + 255) % 256 + 1) * s.period (s.rd (LE_INJ_CTRL_SLOT c)) < s.rd64
      (LE_INJ_START_LO c)))) ∧
    (∃ (s : State) (c : Fin 32), s.rd (LE_INJ_CTRL_STATE c) ≠ 1) ∧
    (∃ (s : State) (c : Fin 32), s.Inv ∧ s.rd (LE_INJ_CTRL_STATE c) = 1) ∧
    (∃ (s : State) (c : Fin 32), s.Inv ∧ s.rd (LE_INJ_CTRL_STATE c) ≠ 1) ∧
    (∃ (s : State) (c : Fin 32), s.Inv ∧ s.rd (LE_INJ_CTRL_STATE c) = 2 ∧ 4096 ≤ s.rd (LE_INJ_COUNT c)) ∧
    (∃ (s : State) (c : Fin 32), (s.rd (LE_INJ_CTRL_STATE c) ≠ 2 ∨ s.rd (LE_INJ_COUNT c) < 4096)) :=
  ⟨⟨State.reset, 31, ⟨by decide +kernel, by decide +kernel⟩⟩,
   ⟨((State.reset.wr (LE_INJ_CTRL_STATE 31) 1).wr64 (LE_INJ_START_LO 31) 5).at 5, 31, ⟨by decide +kernel,
     by decide +kernel⟩, by decide +kernel, by decide +kernel⟩,
   ⟨(State.reset.wr (LE_INJ_CTRL_STATE 31) 1), 31, by decide +kernel, by decide +kernel⟩,
   ⟨State.reset, 31, by decide +kernel⟩,
   ⟨(State.reset.wr (LE_INJ_CTRL_STATE 31) 1), 31, ⟨by decide +kernel, by decide +kernel⟩, by decide +kernel⟩,
   ⟨State.reset, 31, ⟨by decide +kernel, by decide +kernel⟩, by decide +kernel⟩,
   ⟨((State.reset.wr (LE_INJ_CTRL_STATE 31) 2).wr (LE_INJ_COUNT 31) 4096), 31, ⟨by decide +kernel, by decide +kernel⟩,
     by decide +kernel, by decide +kernel⟩,
   ⟨State.reset, 31, by decide +kernel⟩⟩

/-- The hypotheses of each clause of `Obligations.BobbinRings` are met together. -/
theorem witness_BobbinRings :
    (∃ (s : State) (b : Fin 8), s.Inv ∧ s.bit (BOB_STATUS_ARMED b) = true ∧ s.rd (BOB_CTRL_MODE b) = 0 ∧ s.bit
      (BOB_STATUS_TRIGGERED b) = true ∧ (s.bob b).postLeft = 0) ∧
    (∃ (s : State) (b : Fin 8), (s.bit (BOB_STATUS_ARMED b) = false ∨ s.rd (BOB_CTRL_MODE b) ≠ 0 ∨ s.bit
      (BOB_STATUS_TRIGGERED b) = false ∨ (s.bob b).postLeft ≠ 0)) ∧
    (∃ (s : State) (b : Fin 8), s.Inv ∧ s.bit (BOB_STATUS_ARMED b) = true ∧ s.rd (BOB_CTRL_MODE b) = 2 ∧ s.bit
      (BOB_WPTR_WRAPPED b) = true) ∧
    (∃ (s : State) (b : Fin 8), (s.bit (BOB_STATUS_ARMED b) = false ∨ s.rd (BOB_CTRL_MODE b) ≠ 2 ∨ s.bit (BOB_WPTR_WRAPPED
      b) = false)) ∧
    (∃ (s : State) (_ : Fin 8), s.Inv) ∧
    (∃ (s : State) (b : Fin 8), s.Inv ∧ s.bit (BOB_STATUS_ARMED b) = true) ∧
    (∃ (s : State) (b : Fin 8), s.bit (BOB_STATUS_ARMED b) = false) ∧
    (∃ (s : State) (_ : Fin 8), s.Inv) ∧
    (∃ (s : State) (b : Fin 8), s.Inv ∧ s.bit (BOB_STATUS_ARMED b) = true ∧ s.bit (BOB_STATUS_TRIGGERED b) = false) ∧
    (∃ (s : State) (b : Fin 8), (¬ (s.bit (BOB_STATUS_ARMED b) = true ∧ s.bit (BOB_STATUS_TRIGGERED b) = false)) ∧ s.Inv) :=
  ⟨⟨((((State.reset.putBit (BOB_STATUS_ARMED 7) true).wr (BOB_CTRL_MODE 7) 0).putBit (BOB_STATUS_TRIGGERED 7)
     true).setBob 7 { postLeft := 0 }), 7, ⟨by decide +kernel, by decide +kernel⟩, by decide +kernel,
     by decide +kernel, by decide +kernel, by decide +kernel⟩,
   ⟨State.reset, 7, by decide +kernel⟩,
   ⟨(((State.reset.putBit (BOB_STATUS_ARMED 7) true).wr (BOB_CTRL_MODE 7) 2).putBit (BOB_WPTR_WRAPPED 7) true), 7,
     ⟨by decide +kernel, by decide +kernel⟩, by decide +kernel, by decide +kernel, by decide +kernel⟩,
   ⟨State.reset, 7, by decide +kernel⟩,
   ⟨State.reset, 7, ⟨by decide +kernel, by decide +kernel⟩⟩,
   ⟨(State.reset.putBit (BOB_STATUS_ARMED 7) true), 7, ⟨by decide +kernel, by decide +kernel⟩, by decide +kernel⟩,
   ⟨State.reset, 7, by decide +kernel⟩,
   ⟨State.reset, 7, ⟨by decide +kernel, by decide +kernel⟩⟩,
   ⟨(State.reset.putBit (BOB_STATUS_ARMED 7) true), 7, ⟨by decide +kernel, by decide +kernel⟩, by decide +kernel,
     by decide +kernel⟩,
   ⟨State.reset, 7, by decide +kernel, ⟨by decide +kernel, by decide +kernel⟩⟩⟩

/-- The hypotheses of each clause of `Obligations.TileScalarControl` are met together. -/
theorem witness_TileScalarControl :
    (∃ (s : State) (t : Fin 128) (slot : Fin 8), s.ready t slot = true ∧ opOf ((s.tile t).slotWord slot) = 0) ∧
    (∃ (s : State) (t : Fin 128) (slot : Fin 8), s.ready t slot = true ∧ opOf ((s.tile t).slotWord slot) ≠ 0 ∧ (s.tile
      t).legal slot ((s.tile t).slotWord slot) = false) :=
  ⟨⟨tileOn { issued := 127 }, 127, 7, by decide +kernel, by decide +kernel⟩,
   ⟨tileOn { issued := 127, imem := [(7, 255 * 2 ^ 120)] }, 127, 7, by decide +kernel, by decide +kernel,
     by decide +kernel⟩⟩

/-- The hypotheses of each clause of `Obligations.TileLoadsAndStores` are met together. -/
theorem witness_TileLoadsAndStores :
    (∃ (_ : State) (_ : Nat) (e : KwErr), kwCheck e = .ok) ∧
    (∃ (s : State) (_ : Fin 128) (e : KwErr), s.Inv ∧ kwCheck e = .corrected) ∧
    (∃ (_ : State) (_ : Nat) (e : KwErr), kwCheck e = .uncorrectable) ∧
    (∃ (s : State) (t : Nat) (n : Nat) (x : Tile) (_ : List (Nat × Byte)), (s.mirrorTo t = none ∨ x.inState n = false ∨
      x.sent = true)) ∧
    (∃ (s : State) (t : Nat) (n : Nat) (q : Nat) (x : Tile) (_ : List (Nat × Byte)), s.mirrorTo t = some q ∧ x.inState n =
      true ∧ x.sent = false) :=
  ⟨⟨State.reset, 127, ([]), by decide +kernel⟩,
   ⟨State.reset, 127, ([1]), ⟨by decide +kernel, by decide +kernel⟩, by decide +kernel⟩,
   ⟨State.reset, 127, ([0xFF000000000000000000000000000000]), by decide +kernel⟩,
   ⟨State.reset, 0, 0, ({}), ([]), by decide +kernel⟩,
   ⟨(((State.reset.wr TR_ROT_STATE_PHASE 2).wr TR_ROT_STATE_RETIRING 15).wr TR_ROT_STATE_SPARE 0).wr (colByte 0) 143,
     127, 0, 112, ({ m2 := 2 ^ 16 }), ([]), by decide +kernel, by decide +kernel, by decide +kernel⟩⟩

/-- The hypotheses of each clause of `Obligations.TileMatrix` are met together. -/
theorem witness_TileMatrix :
    ∃ (s : State) (t : Fin 128) (m : MxOp), s.tileRuns t = true ∧ (s.tile t).mxDue = some m :=
  ⟨tileOn { cyc := 2, mx := [⟨8, 0, false, 0, 0, 0, 0, 0, 0, [], [], [], none⟩] }, 127, (⟨8, 0, false, 0, 0, 0, 0, 0, 0,
    [], [], [], none⟩), by decide +kernel, by decide +kernel⟩

/-- The hypotheses of each clause of `Obligations.TileMessages` are met together. -/
theorem witness_TileMessages :
    (∃ (s : State) (n : Fin 128), s.tileRuns n = true ∧ (s.tile n).halted = false ∧ (s.tile n).stalled = false ∧ (s.tile
      n).mustStall = true) ∧
    (∃ (s : State) (n : Fin 128), (s.tile n).mustStall = false) ∧
    (∃ (s : State) (n : Fin 128), s.tileRuns n = true ∧ (s.tile n).stalled = true ∧ (s.tile n).mustStall = false) ∧
    (∃ (s : State) (n : Fin 128), ((s.tile n).sent = false ∨ s.tr.sentOn = false ∨ (s.issue n 7 8 fun _ x =>
      { x with lastBend := some x.m0 }).sentShort (s.tile n) = false)) ∧
    (∃ (s : State) (n : Fin 128), s.tileRuns n = true) ∧
    (∃ (s : State) (n : Fin 128) (ch : Fin 8) (i : Nat) (m : Flight), s.trRuns = true ∧ s.tr.mesh[i]? = some m ∧
      s.tr.mesh.findIdx? (s.bound n ch) = some i) :=
  ⟨⟨tileOn { imem := [(7, 2 ^ 120)], inCh := [(0, ⟨0, 1, []⟩)] }, 127, by decide +kernel, by decide +kernel,
     by decide +kernel, by decide +kernel⟩,
   ⟨tileOn {}, 127, by decide +kernel⟩,
   ⟨tileOn { stalled := true }, 127, by decide +kernel, by decide +kernel, by decide +kernel⟩,
   ⟨State.reset, 127, by decide +kernel⟩,
   ⟨tileOn {}, 127, by decide +kernel⟩,
   ⟨(trellisOn.wr (colByte 0) 143).onTr fun y =>
     { y with image := some { State.reset.readImage 0 0 0 with stages := [⟨7, 0, 0, 0, 0, 0, 0, 0, 0, 0, 0⟩] }, mesh := [⟨0, .stage 0 7, 0, []⟩] },
     127, 7, 0, (⟨0, .stage 0 7, 0, []⟩), by decide +kernel, by decide +kernel, by decide +kernel⟩⟩

/-- The hypotheses of the clause of `Obligations.TileMessages` about a BEND that ends a sentinel bunch early are met together
wherever the image's table, which is uninterpreted, expects a message of the stage. -/
theorem witness_TileMessages_early (h : ∀ l : List Byte, 0 < Config.sentCount l 0) :
    ∃ (s : State) (n : Fin 128), s.holds n 7 8 ∧ (s.tile n).predHolds ((s.tile n).slotWord 7) = true ∧
      (s.tile n).sent = true ∧ s.tr.sentOn = true ∧
      (s.issue n 7 8 fun _ x => { x with lastBend := some x.m0 }).sentShort (s.tile n) = true := by
  refine ⟨shortBunch, 127, holds_of_executes (by decide +kernel), by decide +kernel, by decide +kernel, rfl,
    List.any_eq_true.2 ⟨0, by decide, decide_eq_true ?_⟩⟩
  have e : tget 0 (shortBunch.issue 127 7 8 fun _ x => { x with lastBend := some x.m0 }).tr.sentMsgs
      (8 * (shortBunch.tile 127).stage + 0) + (shortBunch.tile 127).sentQueued 0 = 0 := by decide +kernel
  exact e ▸ h _

/-- The hypotheses of each clause of `Obligations.TrellisFrames` are met together. -/
theorem witness_TrellisFrames :
    (∃ (s : State) (u : State), s.trRuns = true ∧ s.tr.frameOn = true ∧ s.tr.frameStart + s.frameCounts / 50 ≤ s.time ∧ (¬
      (s.tr.sentOn = true ∧ s.tr.sentFrame = s.frame)) ∧ s.sentJudge.trRuns = true ∧ u = (s.sentJudge.onTr fun y =>
      { y with sentOn := true, sentFrame := s.sentJudge.frame, sentWrong := [], sentEarly := [], sentMsgs := [] })) ∧
    (∃ (s : State), s.trRuns = true ∧ s.tr.frameOn = true ∧ s.tr.frameStart + s.frameCounts / 50 ≤ s.time ∧ (¬
      (s.tr.sentOn = true ∧ s.tr.sentFrame = s.frame)) ∧ s.sentJudge.trRuns = false) ∧
    (∃ (s : State) (u : State) (b : Nat) (rest : List Nat), s.tr.toEnter = b :: rest ∧ s.trRuns = true ∧ s.tr.frameOn =
      true ∧ s.tr.frameStart + s.frameCounts / 20 ≤ s.time ∧ s.time < s.tr.frameStart + s.frameCounts ∧ s.cyclesIn
      (s.tr.entered * s.rd TR_II) (s.time - (s.tr.frameStart + s.frameCounts / 20)) = true ∧ u = (s.onTr fun y =>
      { y with toEnter := rest, entered := y.entered + 1, lastOf := ((s.frame, b) :: y.lastOf.filter fun p => p.1 != s.frame).take 4 })) ∧
    (∃ (s : State) (i : Nat) (m : Flight), s.Inv ∧ (s.tr.mesh.findIdx? fun m => m.dest == .out && !s.heldBack m) = some i
      ∧ s.tr.mesh[i]? = some m) ∧
    (∃ (s : State) (i : Nat) (m : Flight), (s.tr.mesh.findIdx? fun m => m.dest == .vs && !s.heldBack m) = some i ∧
      s.tr.mesh[i]? = some m) :=
  ⟨⟨(trellisOn.onTr fun y => { y with frameOn := true }).at (trellisOn.frameCounts / 50), ((((trellisOn.onTr fun y =>
     { y with frameOn := true }).at (trellisOn.frameCounts / 50)).sentJudge.onTr fun y =>
     { y with sentOn := true, sentFrame := ((trellisOn.onTr fun y => { y with frameOn := true }).at (trellisOn.frameCounts / 50)).sentJudge.frame, sentWrong := [], sentEarly := [], sentMsgs := [] })),
     by decide +kernel, by decide +kernel, by decide +kernel, by decide +kernel, by decide +kernel, rfl⟩,
   ⟨(((trellisOn.wr (colByte 0) 143).onTr fun y =>
     { y with frameOn := true, sentOn := true, sentFrame := 1, sentWrong := [0], image := some { State.reset.readImage 0 0 0 with stages := [⟨7, 0, 0, 0, 0, 0, 0, 0, 0, 0, 0⟩] } }).at
     (trellisOn.frameCounts / 50)), by decide +kernel, by decide +kernel, by decide +kernel, by decide +kernel,
     by decide +kernel⟩,
   ⟨(trellisOn.onTr fun y => { y with frameOn := true, toEnter := [0] }).at (trellisOn.frameCounts / 20),
     ((((trellisOn.onTr fun y => { y with frameOn := true, toEnter := [0] }).at (trellisOn.frameCounts / 20)).onTr fun
     y =>
     { y with toEnter := [], entered := y.entered + 1, lastOf := ((((trellisOn.onTr fun y => { y with frameOn := true, toEnter := [0] }).at (trellisOn.frameCounts / 20)).frame, 0) :: y.lastOf.filter fun p => p.1 != ((trellisOn.onTr fun y => { y with frameOn := true, toEnter := [0] }).at (trellisOn.frameCounts / 20)).frame).take 4 })),
     0, ([]), by decide +kernel, by decide +kernel, by decide +kernel, by decide +kernel, by decide +kernel,
     by decide +kernel, rfl⟩,
   ⟨State.reset.onTr fun y => { y with mesh := [⟨0, .out, 0, []⟩] }, 0, (⟨0, .out, 0, []⟩), ⟨by decide +kernel,
     by decide +kernel⟩, by decide +kernel, by decide +kernel⟩,
   ⟨State.reset.onTr fun y => { y with mesh := [⟨0, .vs, 0, []⟩] }, 0, (⟨0, .vs, 0, []⟩), by decide +kernel,
     by decide +kernel⟩⟩

/-- The hypotheses of each clause of `Obligations.TrellisRotation` are met together. -/
theorem witness_TrellisRotation :
    (∃ (s : State), s.rotates = true ∧ s.trRuns = true ∧ s.rd TR_ROT_STATE_PHASE < 2 ∧ s.tr.lastSwitch + secs (clampNat 1
      600 (s.rd TR_ROT_PERIOD)) ≤ s.time) ∧
    (∃ (s : State), s.rotates = true ∧ s.trRuns = true ∧ s.tr.selftestDone = false ∧ s.rd TR_ROT_STATE_PHASE < 2 ∧
      s.tr.lastSwitch + msec 40 ≤ s.time) ∧
    (∃ (s : State) (_ : Fin 8), s.rotates = true ∧ s.trRuns = true ∧ s.tr.selftestDone = false ∧ s.rd TR_ROT_STATE_PHASE <
      2 ∧ s.tr.lastSwitch + msec 40 ≤ s.time) ∧
    (∃ (s : State), s.Inv ∧ s.rotates = true ∧ s.trRuns = true ∧ s.tr.selftestDone = true ∧ s.tr.preloaded = false) ∧
    (∃ (s : State), s.rotates = true ∧ s.trRuns = true ∧ s.atBoundary = true ∧ s.tr.rotDue = true ∧ s.tr.preloaded = true
      ∧ s.rd TR_ROT_STATE_PHASE < 2) ∧
    (∃ (s : State) (k : Nat), s.Inv ∧ s.rotates = true ∧ s.trRuns = true ∧ s.rd TR_ROT_STATE_PHASE = 2 ∧ s.tr.switchAt =
      some k ∧ k ≤ s.frame ∧ s.time ≤ s.tr.frameStart + s.frameCounts / 50) ∧
    (∃ (s : State) (c : Nat), s.tr.retiring = some c ∧ s.Inv ∧ ((∀ w, s.westOf c = some w → ∀ g ∈ s.stagesOn w,
      s.retireeDone (16 * g.1.row + c) = true))) ∧
    (∃ (s : State) (_ : Fin 128) (_ : KwErr), s.tileClocks = true) ∧
    (∃ (s : State) (_ : Fin 128) (p : EccAt) (_ : KwErr), s.tileClocks = true ∧ p ≠ .pass) ∧
    (∃ (s : State), s.Inv) ∧
    (∃ (s : State), s.Inv ∧ s.sys.mode ≠ .off) ∧
    (∃ (s : State) (_ : BitVec 32) (_ : KwErr), s.Inv ∧ (s.bit TR_CTRL_ENABLE = false ∨ s.rd (TR_TILE_STATE (s.rd
      TR_DBG_ADDR_TILE)) ≠ 1)) ∧
    (∃ (s : State) (_ : BitVec 32) (_ : KwErr), s.bit TR_CTRL_ENABLE = true ∧ s.rd (TR_TILE_STATE (s.rd TR_DBG_ADDR_TILE))
      = 1) :=
  ⟨⟨rotating.at (secs 600), by decide +kernel, by decide +kernel, by decide +kernel, by decide +kernel⟩,
   ⟨rotating.at (msec 40), by decide +kernel, by decide +kernel, by decide +kernel, by decide +kernel, by decide +kernel⟩,
   ⟨rotating.at (msec 40), 7, by decide +kernel, by decide +kernel, by decide +kernel, by decide +kernel,
     by decide +kernel⟩,
   ⟨rotating.onTr fun y => { y with selftestDone := true }, ⟨by decide +kernel, by decide +kernel⟩, by decide +kernel,
     by decide +kernel, by decide +kernel, by decide +kernel⟩,
   ⟨(rotating.onTr fun y => { y with rotDue := true, preloaded := true }).onSys fun y => { y with lastFrame := some 0 },
     by decide +kernel, by decide +kernel, by decide +kernel, by decide +kernel, by decide +kernel, by decide +kernel⟩,
   ⟨((rotating.wr TR_ROT_STATE_PHASE 2).wr TR_ROT_STATE_RETIRING 15).onTr fun y => { y with switchAt := some 0 }, 0,
     ⟨by decide +kernel, by decide +kernel⟩, by decide +kernel, by decide +kernel, by decide +kernel,
     by decide +kernel, by decide +kernel, by decide +kernel⟩,
   ⟨(State.reset.onTr fun y => { y with retiring := some 0 }), 0, by decide +kernel, ⟨by decide +kernel,
     by decide +kernel⟩, by decide +kernel⟩,
   ⟨State.reset, 127, ([]), by decide +kernel⟩,
   ⟨State.reset, 127, .send, ([]), by decide +kernel, by decide +kernel⟩,
   ⟨State.reset, ⟨by decide +kernel, by decide +kernel⟩⟩,
   ⟨State.reset, ⟨by decide +kernel, by decide +kernel⟩, by decide +kernel⟩,
   ⟨State.reset, 0, ([]), ⟨by decide +kernel, by decide +kernel⟩, by decide +kernel⟩,
   ⟨((State.reset.putBit TR_CTRL_ENABLE true).wr TR_DBG_ADDR_TILE 127).wr (TR_TILE_STATE 127) 1, 0, ([]),
     by decide +kernel, by decide +kernel⟩⟩

/-- The hypotheses of each clause of `Obligations.MailboxChecks` are met together. -/
theorem witness_MailboxChecks :
    (∃ (_ : Cmd) (s : State) (_ : List Byte), s.sys.mode = .off) ∧
    (∃ (c : Cmd) (s : State) (p : List Byte), s.sys.mode ≠ .off ∧ (p.length < 8 ∨ fieldLE p 4 1 ≠ 1 ∨ c.len p = false)) ∧
    (∃ (c : Cmd) (s : State) (p : List Byte), s.sys.mode ≠ .off ∧ 8 ≤ p.length ∧ fieldLE p 4 1 = 1 ∧ c.len p = true ∧
      c.active = true ∧ s.isActive = false) ∧
    (∃ (c : Cmd) (s : State) (p : List Byte) (k : TagRec), s.sys.mode ≠ .off ∧ 8 ≤ p.length ∧ fieldLE p 4 1 = 1 ∧ c.len p
      = true ∧ ((c.active = true → s.isActive = true)) ∧ c.changes = true ∧ s.asked.seenTag (tagOf p) = some k) ∧
    (∃ (c : Cmd) (s : State) (p : List Byte), s.sys.mode ≠ .off ∧ 8 ≤ p.length ∧ fieldLE p 4 1 = 1 ∧ c.len p = true ∧
      ((c.active = true → s.isActive = true)) ∧ ((c.changes = true → s.asked.seenTag (tagOf p) = none)) ∧ c.states
      s.asked = false) ∧
    (∃ (c : Cmd) (s : State) (p : List Byte), Takes s c p ∧ (c.body s.asked p).code.accepted = true) ∧
    (∃ (c : Cmd) (s : State) (p : List Byte) (k : Ks), Takes s c p ∧ k.accepted = false ∧ c.body s.asked p =
      s.asked.refuse k) :=
  ⟨⟨cmdSetMode, (State.reset.onSys fun y => { y with mode := .off }), (req 8 []), by decide +kernel⟩,
   ⟨cmdSetMode, State.reset, ([]), by decide +kernel, by decide +kernel⟩,
   ⟨cmdSetMode, State.reset, (req 20 []), by decide +kernel, by decide +kernel, by decide +kernel, by decide +kernel,
     by decide +kernel, by decide +kernel⟩,
   ⟨cmdSetMode, inTable.onMb fun y => { y with tags := [⟨7, 0, [], []⟩] }, (req 20 [(0, 7)]), (⟨7, 0, [], []⟩),
     by decide +kernel, by decide +kernel, by decide +kernel, by decide +kernel, by decide +kernel, by decide +kernel,
     by decide +kernel⟩,
   ⟨cmdInjectStart, inTable, (req 32 []), by decide +kernel, by decide +kernel, by decide +kernel, by decide +kernel,
     by decide +kernel, by decide +kernel, by decide +kernel⟩,
   ⟨cmdKeepalive, inTable, (req 8 []), ⟨by decide +kernel, by decide +kernel, by decide +kernel, by decide +kernel,
     by decide +kernel, by decide +kernel, by decide +kernel⟩, by decide +kernel⟩,
   ⟨cmdLoopGet, inTable, (req 10 [(8, 255), (9, 255)]), .range, ⟨by decide +kernel, by decide +kernel, by decide +kernel,
     by decide +kernel, by decide +kernel, by decide +kernel, by decide +kernel⟩, by decide +kernel, rfl⟩⟩

/-- The hypotheses of each clause of `Obligations.MailboxReads` are met together. -/
theorem witness_MailboxReads :
    (∃ (s : State) (p : List (BitVec 8)), Takes s cmdGetIdentity p) ∧
    (∃ (s : State) (p : List (BitVec 8)), Takes s cmdGetState p) ∧
    (∃ (s : State) (p : List (BitVec 8)), Takes s cmdKeepalive p) ∧
    (∃ (s : State) (p : List (BitVec 8)), Takes s cmdConfigRead p ∧ ((∀ q ∈ readPairs p, (s.asked.fieldValue q.1
      q.2).isSome = true))) ∧
    (∃ (s : State) (p : List (BitVec 8)) (c : ClampList), Takes s cmdConfigReport p ∧ (s.mb.clamps.find? fun c => fieldLE
      p 8 4 == 0 || c.tag == fieldLE p 8 4) = some c) ∧
    (∃ (s : State) (p : List (BitVec 8)), Takes s cmdConfigReport p ∧ (s.mb.clamps.find? fun c => fieldLE p 8 4 == 0 ||
      c.tag == fieldLE p 8 4) = none) ∧
    (∃ (s : State) (p : List (BitVec 8)), Takes s cmdContextList p) ∧
    (∃ (s : State) (p : List (BitVec 8)), Takes s cmdGetBudget p ∧ fieldLE p 8 1 ≤ 3 ∧ fieldLE p 9 2 < levelCount (fieldLE
      p 8 1)) ∧
    (∃ (s : State) (p : List (BitVec 8)), Takes s cmdLoopGet p ∧ fieldLE p 8 2 < 4608) ∧
    (∃ (s : State) (p : List (BitVec 8)), Takes s cmdCaptureRead p ∧ fieldLE p 8 1 < 32) ∧
    (∃ (s : State) (p : List (BitVec 8)), Takes s cmdBobbinRead p ∧ fieldLE p 8 1 < 8 ∧ fieldLE p 12 4 < 65536 ∧ (fieldLE
      p 9 1 % 2 = 0 ∨ s.asked.bit (BOB_MARKPTR_VALID (fieldLE p 8 1)) = true)) ∧
    (∃ (s : State) (p : List (BitVec 8)), Takes s cmdCalibrationStatus p) ∧
    (∃ (s : State) (p : List (BitVec 8)), Takes s cmdAdmissionReport p ∧ fieldLE p 8 1 < 16 ∧ fieldLE p 9 1 < 3 ∧
      s.asked.headerOk (fieldLE p 8 1) = true) :=
  ⟨⟨(State.reset.onSys fun y => { y with mode := .table, role := .active }), (req 8 []), ⟨by decide +kernel,
     by decide +kernel, by decide +kernel, by decide +kernel, by decide +kernel, by decide +kernel,
     by decide +kernel⟩⟩,
   ⟨(State.reset.onSys fun y => { y with mode := .table, role := .active }), (req 8 []), ⟨by decide +kernel,
     by decide +kernel, by decide +kernel, by decide +kernel, by decide +kernel, by decide +kernel,
     by decide +kernel⟩⟩,
   ⟨(State.reset.onSys fun y => { y with mode := .table, role := .active }), (req 8 []), ⟨by decide +kernel,
     by decide +kernel, by decide +kernel, by decide +kernel, by decide +kernel, by decide +kernel,
     by decide +kernel⟩⟩,
   ⟨(State.reset.onSys fun y => { y with mode := .table, role := .active }), (req 12 []), ⟨by decide +kernel,
     by decide +kernel, by decide +kernel, by decide +kernel, by decide +kernel, by decide +kernel,
     by decide +kernel⟩, by decide +kernel⟩,
   ⟨inTable.onMb fun y => { y with clamps := [⟨0, 0, []⟩] }, (req 12 []), (⟨0, 0, []⟩), ⟨by decide +kernel,
     by decide +kernel, by decide +kernel, by decide +kernel, by decide +kernel, by decide +kernel,
     by decide +kernel⟩, by decide +kernel⟩,
   ⟨(State.reset.onSys fun y => { y with mode := .table, role := .active }), (req 12 []), ⟨by decide +kernel,
     by decide +kernel, by decide +kernel, by decide +kernel, by decide +kernel, by decide +kernel,
     by decide +kernel⟩, by decide +kernel⟩,
   ⟨(State.reset.onSys fun y => { y with mode := .table, role := .active }), (req 12 []), ⟨by decide +kernel,
     by decide +kernel, by decide +kernel, by decide +kernel, by decide +kernel, by decide +kernel,
     by decide +kernel⟩⟩,
   ⟨(State.reset.onSys fun y => { y with mode := .table, role := .active }), (req 13 []), ⟨by decide +kernel,
     by decide +kernel, by decide +kernel, by decide +kernel, by decide +kernel, by decide +kernel,
     by decide +kernel⟩, by decide +kernel, by decide +kernel⟩,
   ⟨(State.reset.onSys fun y => { y with mode := .table, role := .active }), (req 10 []), ⟨by decide +kernel,
     by decide +kernel, by decide +kernel, by decide +kernel, by decide +kernel, by decide +kernel,
     by decide +kernel⟩, by decide +kernel⟩,
   ⟨(State.reset.onSys fun y => { y with mode := .table, role := .active }), (req 16 []), ⟨by decide +kernel,
     by decide +kernel, by decide +kernel, by decide +kernel, by decide +kernel, by decide +kernel,
     by decide +kernel⟩, by decide +kernel⟩,
   ⟨(State.reset.onSys fun y => { y with mode := .table, role := .active }), (req 20 []), ⟨by decide +kernel,
     by decide +kernel, by decide +kernel, by decide +kernel, by decide +kernel, by decide +kernel,
     by decide +kernel⟩, by decide +kernel, by decide +kernel, by decide +kernel⟩,
   ⟨(State.reset.onSys fun y => { y with mode := .table, role := .active }), (req 8 []), ⟨by decide +kernel,
     by decide +kernel, by decide +kernel, by decide +kernel, by decide +kernel, by decide +kernel,
     by decide +kernel⟩⟩,
   ⟨inTable.setBytes (modelSlot 0) tinyImage, (req 16 []), ⟨by decide +kernel, by decide +kernel, by decide +kernel,
     by decide +kernel, by decide +kernel, by decide +kernel, by decide +kernel⟩, by decide +kernel,
     by decide +kernel, by decide +kernel⟩⟩

/-- The hypotheses of each clause of `Obligations.MailboxModes` are met together. -/
theorem witness_MailboxModes :
    (∃ (s : State) (p : List (BitVec 8)), Takes s cmdSetMode p ∧ fieldLE p 8 1 = 0x02 ∧ fieldLE p 12 8 = 0 ∧
      s.asked.modeAllowed .table = true) ∧
    (∃ (s : State) (p : List (BitVec 8)), Takes s cmdSetMode p ∧ fieldLE p 8 1 = 0x03 ∧ fieldLE p 12 8 = 0 ∧
      s.asked.modeAllowed .reactive = true) ∧
    (∃ (s : State) (p : List (BitVec 8)), Takes s cmdSetMode p ∧ fieldLE p 8 1 = 0x04 ∧ fieldLE p 12 8 = 0 ∧
      s.asked.modeAllowed .predictive = true) ∧
    (∃ (s : State) (p : List (BitVec 8)), Takes s cmdSetMode p ∧ fieldLE p 8 1 = 0x05 ∧ fieldLE p 12 8 = 0 ∧
      s.asked.modeAllowed .hold = true) ∧
    (∃ (s : State) (p : List (BitVec 8)), Takes s cmdSetMode p ∧ fieldLE p 8 1 = 0x09 ∧ fieldLE p 12 8 = 0 ∧
      s.asked.modeAllowed .service = true) ∧
    (∃ (s : State) (p : List (BitVec 8)), Takes s cmdSetMode p ∧ fieldLE p 8 1 = 0xFF ∧ (s.sys.mode = .table ∨ s.sys.mode
      = .hold ∨ s.sys.mode = .service) ∧ s.time + msec 10 ≤ fieldLE p 12 8 ∧ fieldLE p 12 8 ≤ s.time + secs 60) ∧
    (∃ (s : State) (p : List (BitVec 8)) (j : Journal), Takes s cmdQueryProgress p ∧ ((if bitOf (fieldLE p 10 1) 1 then
      s.mb.former else s.mb.journals).find? fun j => if bitOf (fieldLE p 10 1) 0 then j.tag == fieldLE p 12 4 else
      j.idx == fieldLE p 8 2) = some j) ∧
    (∃ (s : State) (p : List (BitVec 8)), Takes s cmdQueryProgress p ∧ ((if bitOf (fieldLE p 10 1) 1 then s.mb.former else
      s.mb.journals).find? fun j => if bitOf (fieldLE p 10 1) 0 then j.tag == fieldLE p 12 4 else j.idx == fieldLE p 8
      2) = none) ∧
    (∃ (s : State) (p : List (BitVec 8)), Takes s cmdTwinStatus p) ∧
    (∃ (s : State) (u : State) (p : List (BitVec 8)), Takes s cmdReadLog p ∧ fieldLE p 16 2 ≠ 0 ∧ fieldLE p 16 2 ≤ 16384 ∧
      bitOf (fieldLE p 18 1) 1 = false ∧ u = (if bitOf (fieldLE p 18 1) 0 then (s.asked.onMg fun y =>
      { y with readMark := fieldLE p 8 8 - 1 }).logMark else s.asked)) ∧
    (∃ (s : State) (u : State) (p : List (BitVec 8)), Takes s cmdReadLog p ∧ fieldLE p 16 2 ≠ 0 ∧ fieldLE p 16 2 ≤ 16384 ∧
      bitOf (fieldLE p 18 1) 1 = true ∧ u = (if bitOf (fieldLE p 18 1) 0 then (s.asked.onMg fun y =>
      { y with readMark := fieldLE p 8 8 - 1 }).logMark else s.asked)) ∧
    (∃ (s : State) (p : List (BitVec 8)), Takes s cmdAttest p ∧ ((∀ t0, s.mg.lastSign = some t0 → t0 + secs 1 ≤ s.time)) ∧
      s.signIndex < 2 ^ 30) :=
  ⟨⟨(State.reset.onSys fun y => { y with mode := .hold, role := .active }), (req 20 [(8, 2)]), ⟨by decide +kernel,
     by decide +kernel, by decide +kernel, by decide +kernel, by decide +kernel, by decide +kernel,
     by decide +kernel⟩, by decide +kernel, by decide +kernel, by decide +kernel⟩,
   ⟨(((State.reset.onSys fun y => { y with mode := .table, role := .active }).putBit CK_STATUS_TIME_VALID true).onSys fun
     y => { y with configWritten := true }), (req 20 [(8, 3)]), ⟨by decide +kernel, by decide +kernel,
     by decide +kernel, by decide +kernel, by decide +kernel, by decide +kernel, by decide +kernel⟩,
     by decide +kernel, by decide +kernel, by decide +kernel⟩,
   ⟨(((((State.reset.onSys fun y => { y with mode := .reactive, role := .active }).putBit CK_STATUS_TIME_VALID
     true).putBit TR_STATUS_ADMITTED true).onSys fun y => { y with configWritten := true }).onTr fun y =>
     { y with image := some (State.reset.readImage 0 0 0) }), (req 20 [(8, 4)]), ⟨by decide +kernel,
     by decide +kernel, by decide +kernel, by decide +kernel, by decide +kernel, by decide +kernel,
     by decide +kernel⟩, by decide +kernel, by decide +kernel, by decide +kernel⟩,
   ⟨(State.reset.onSys fun y => { y with mode := .table, role := .active }), (req 20 [(8, 5)]), ⟨by decide +kernel,
     by decide +kernel, by decide +kernel, by decide +kernel, by decide +kernel, by decide +kernel,
     by decide +kernel⟩, by decide +kernel, by decide +kernel, by decide +kernel⟩,
   ⟨(State.reset.onSys fun y => { y with mode := .table, role := .active }), (req 20 [(8, 9)]), ⟨by decide +kernel,
     by decide +kernel, by decide +kernel, by decide +kernel, by decide +kernel, by decide +kernel,
     by decide +kernel⟩, by decide +kernel, by decide +kernel, by decide +kernel⟩,
   ⟨inTable, (req 20 [(8, 255), (12, 64), (13, 66), (14, 15)]), ⟨by decide +kernel, by decide +kernel, by decide +kernel,
     by decide +kernel, by decide +kernel, by decide +kernel, by decide +kernel⟩, by decide +kernel,
     by decide +kernel, by decide +kernel, by decide +kernel⟩,
   ⟨inTable.onMb fun y => { y with journals := [⟨0, 0, 0, 0, 0, 0, .done, 0, 0, 0, 0⟩] }, (req 16 []), (⟨0, 0, 0, 0, 0,
     0, .done, 0, 0, 0, 0⟩), ⟨by decide +kernel, by decide +kernel, by decide +kernel, by decide +kernel,
     by decide +kernel, by decide +kernel, by decide +kernel⟩, by decide +kernel⟩,
   ⟨(State.reset.onSys fun y => { y with mode := .table, role := .active }), (req 16 []), ⟨by decide +kernel,
     by decide +kernel, by decide +kernel, by decide +kernel, by decide +kernel, by decide +kernel,
     by decide +kernel⟩, by decide +kernel⟩,
   ⟨(State.reset.onSys fun y => { y with mode := .table, role := .active }), (req 8 []), ⟨by decide +kernel,
     by decide +kernel, by decide +kernel, by decide +kernel, by decide +kernel, by decide +kernel,
     by decide +kernel⟩⟩,
   ⟨(State.reset.onSys fun y => { y with mode := .table, role := .active }), ((if bitOf (fieldLE (req 20 [(16, 255), (17,
     63)]) 18 1) 0 then (((State.reset.onSys fun y => { y with mode := .table, role := .active })).asked.onMg fun y =>
     { y with readMark := fieldLE (req 20 [(16, 255), (17, 63)]) 8 8 - 1 }).logMark else ((State.reset.onSys fun y =>
     { y with mode := .table, role := .active })).asked)), (req 20 [(16, 255), (17, 63)]), ⟨by decide +kernel,
     by decide +kernel, by decide +kernel, by decide +kernel, by decide +kernel, by decide +kernel,
     by decide +kernel⟩, by decide +kernel, by decide +kernel, by decide +kernel, by decide +kernel⟩,
   ⟨(State.reset.onSys fun y => { y with mode := .table, role := .active }), ((if bitOf (fieldLE (req 20 [(16, 1), (18,
     2)]) 18 1) 0 then (((State.reset.onSys fun y => { y with mode := .table, role := .active })).asked.onMg fun y =>
     { y with readMark := fieldLE (req 20 [(16, 1), (18, 2)]) 8 8 - 1 }).logMark else ((State.reset.onSys fun y =>
     { y with mode := .table, role := .active })).asked)), (req 20 [(16, 1), (18, 2)]), ⟨by decide +kernel,
     by decide +kernel, by decide +kernel, by decide +kernel, by decide +kernel, by decide +kernel,
     by decide +kernel⟩, by decide +kernel, by decide +kernel, by decide +kernel, by decide +kernel⟩,
   ⟨(State.reset.onSys fun y => { y with mode := .table, role := .active }), (req 40 []), ⟨by decide +kernel,
     by decide +kernel, by decide +kernel, by decide +kernel, by decide +kernel, by decide +kernel,
     by decide +kernel⟩, by decide +kernel, by decide +kernel⟩⟩

/-- The hypotheses of each clause of `Obligations.MailboxContexts` are met together. -/
theorem witness_MailboxContexts :
    (∃ (s : State) (p : List (BitVec 8)), Takes s cmdContextAdd p ∧ (addReq p).ctx < 4096 ∧ (addReq p).group < 64 ∧
      (addReq p).addr % 64 = 0 ∧ s.asked.bit (PB_CFG_VALID (addReq p).ctx) = false ∧ (s.asked.bit TR_STATUS_ADMITTED =
      false ∨ (addReq p).ctx / 32 < s.asked.rd TR_ADMIT)) ∧
    (∃ (s : State) (q : AddReq), s.Inv ∧ q.ctx < 4096 ∧ q.prio < 4 ∧ q.budget < 4096 ∧ q.lease < 2 ^ 14) ∧
    (∃ (s : State) (p : List (BitVec 8)), Takes s cmdContextRemove p ∧ fieldLE p 8 2 < 4096 ∧ s.asked.bit (PB_CFG_VALID
      (fieldLE p 8 2)) = true) ∧
    (∃ (s : State) (p : List (BitVec 8)), Takes s cmdSetBudget p ∧ ((∀ i, i < fieldLE p 8 4 → s.asked.budgetBad (budgetReq
      p i) = none))) ∧
    (∃ (s : State) (p : List (BitVec 8)), Takes s cmdSetLease p ∧ fieldLE p 8 2 < 4096) ∧
    (∃ (s : State) (p : List (BitVec 8)) (f : List (Nat × Nat × Nat)), Takes s cmdConfigWrite p ∧ (entriesOf p).any (fun e
      => !entryKnown e) = false ∧ (s.asked.sys.mode = .table ∨ (∀ e ∈ entriesOf p, cfgClass e.1 ≠ .table)) ∧
      s.asked.fixAll (lastEntries (entriesOf p)) = some f ∧ s.asked.mergeBad f = false) ∧
    (∃ (s : State) (p : List (BitVec 8)) (e : Nat × Nat × Nat), Takes s cmdConfigWrite p ∧ (entriesOf p).any (fun e =>
      !entryKnown e) = false ∧ s.asked.sys.mode ≠ .table ∧ ((entriesOf p).find? fun e => decide (cfgClass e.1 =
      .table)) = some e) ∧
    (∃ (s : State) (p : List (BitVec 8)) (f : List (Nat × Nat × Nat)), Takes s cmdLoopSet p ∧ ((∀ e ∈ entriesOf p,
      (loopOffset e.1).isSome = true ∧ e.2.1 < 4608)) ∧ s.asked.fixAll (lastEntries (entriesOf p)) = some f ∧ (slotsOf
      f).any (fun k => !(f.foldl (fun s e => s.loopPut e.1 e.2.1 e.2.2) s.asked).limitsOk k) = false) ∧
    (∃ (s : State) (p : List (BitVec 8)), Takes s cmdTableWrite p ∧ fieldLE p 8 2 < 1024 ∧ ((∀ i, i < 15 → flt (f32At p
      (12 + 4 * i)) (f32At p (16 + 4 * i)) = true))) :=
  ⟨⟨(State.reset.onSys fun y => { y with mode := .table, role := .active }), (req 28 []), ⟨by decide +kernel,
     by decide +kernel, by decide +kernel, by decide +kernel, by decide +kernel, by decide +kernel,
     by decide +kernel⟩, by decide +kernel, by decide +kernel, by decide +kernel, by decide +kernel,
     by decide +kernel⟩,
   ⟨State.reset, (⟨4095, 63, 3, 4095, 0, 2 ^ 14 - 1, 0⟩), ⟨by decide +kernel, by decide +kernel⟩, by decide +kernel,
     by decide +kernel, by decide +kernel, by decide +kernel⟩,
   ⟨((State.reset.onSys fun y => { y with mode := .table, role := .active }).putBit (PB_CFG_VALID (fieldLE (req 12 []) 8
     2)) true), (req 12 []), ⟨by decide +kernel, by decide +kernel, by decide +kernel, by decide +kernel,
     by decide +kernel, by decide +kernel, by decide +kernel⟩, by decide +kernel, by decide +kernel⟩,
   ⟨(State.reset.onSys fun y => { y with mode := .table, role := .active }), (req 12 []), ⟨by decide +kernel,
     by decide +kernel, by decide +kernel, by decide +kernel, by decide +kernel, by decide +kernel,
     by decide +kernel⟩, by decide +kernel⟩,
   ⟨(State.reset.onSys fun y => { y with mode := .table, role := .active }), (req 14 []), ⟨by decide +kernel,
     by decide +kernel, by decide +kernel, by decide +kernel, by decide +kernel, by decide +kernel,
     by decide +kernel⟩, by decide +kernel⟩,
   ⟨inTable, (req 20 [(8, 1), (12, 3), (16, 1)]), ([(3, 0, 1)]), ⟨by decide +kernel, by decide +kernel,
     by decide +kernel, by decide +kernel, by decide +kernel, by decide +kernel, by decide +kernel⟩,
     by decide +kernel, by decide +kernel, by decide +kernel, by decide +kernel⟩,
   ⟨inTable.onSys fun y => { y with mode := .reactive }, (req 20 [(8, 1), (12, 1), (16, 1)]), ((1, 0, 1)),
     ⟨by decide +kernel, by decide +kernel, by decide +kernel, by decide +kernel, by decide +kernel,
     by decide +kernel, by decide +kernel⟩, by decide +kernel, by decide +kernel, by decide +kernel⟩,
   ⟨inTable.wrf (SL_UMAX 4607) 0x3F800000, (req 20 [(8, 1), (12, 0), (13, 16), (14, 255), (15, 17)]), ([(0x1000, 4607,
     0)]), ⟨by decide +kernel, by decide +kernel, by decide +kernel, by decide +kernel, by decide +kernel,
     by decide +kernel, by decide +kernel⟩, by decide +kernel, by decide +kernel, by decide +kernel⟩,
   ⟨(State.reset.onSys fun y => { y with mode := .table, role := .active }), (req 140 [(15, 63), (14, 128), (19, 63),
     (18, 129), (23, 63), (22, 130), (27, 63), (26, 131), (31, 63), (30, 132), (35, 63), (34, 133), (39, 63), (38,
     134), (43, 63), (42, 135), (47, 63), (46, 136), (51, 63), (50, 137), (55, 63), (54, 138), (59, 63), (58, 139),
     (63, 63), (62, 140), (67, 63), (66, 141), (71, 63), (70, 142), (75, 63), (74, 143), (8, 255), (9, 3)]),
     ⟨by decide +kernel, by decide +kernel, by decide +kernel, by decide +kernel, by decide +kernel,
     by decide +kernel, by decide +kernel⟩, by decide +kernel, by decide +kernel⟩⟩

/-- The hypotheses of each clause of `Obligations.MailboxActuators` are met together. -/
theorem witness_MailboxActuators :
    (∃ (s : State) (p : List (BitVec 8)) (c : Nat), Takes s cmdInjectStart p ∧ bitsOf (fieldLE p 8 4) 12 0 < 4608 ∧ fisFin
      (f32At p 12) = true ∧ fisFin (f32At p 16) = true ∧ s.asked.effMode (bitsOf (fieldLE p 8 4) 12 0) ≠ 0 ∧
      s.asked.effMode (bitsOf (fieldLE p 8 4) 12 0) ≠ 4 ∧ ((upto 32).find? fun c => !s.asked.injUsed c) = some c ∧
      ((upto 32).any fun d => s.asked.injUsed d && s.asked.rd (LE_INJ_CTRL_SLOT d) == bitsOf (fieldLE p 8 4) 12 0 &&
      s.asked.rd (LE_INJ_CTRL_SIGNAL d) != 3) = false) ∧
    (∃ (s : State) (p : List (BitVec 8)), Takes s cmdBobbinArm p ∧ fieldLE p 8 1 < 8 ∧ (s.asked.bit (BOB_STATUS_ARMED
      (fieldLE p 8 1)) = false ∨ s.asked.bit (BOB_STATUS_STOPPED (fieldLE p 8 1)) = true)) ∧
    (∃ (s : State) (p : List (BitVec 8)), Takes s cmdPumpSet p ∧ fieldLE p 8 1 < 4 ∧ fieldLE p 9 1 = 0 ∧
      s.asked.sys.mode.run = true) ∧
    (∃ (s : State) (p : List (BitVec 8)), Takes s cmdPumpSet p ∧ fieldLE p 8 1 < 4 ∧ fieldLE p 9 1 = 1 ∧
      s.asked.sys.mode.run = true ∧ s.asked.bit (pfEnable (fieldLE p 8 1)) = false) ∧
    (∃ (s : State) (p : List (BitVec 8)), Takes s cmdPumpSet p ∧ fieldLE p 8 1 < 4 ∧ fieldLE p 9 1 = 1 ∧
      s.asked.sys.mode.run = true ∧ s.asked.bit (pfEnable (fieldLE p 8 1)) = true) ∧
    (∃ (s : State) (p : List (BitVec 8)), Takes s cmdPumpSet p ∧ fieldLE p 8 1 < 4 ∧ fieldLE p 9 1 = 2 ∧ s.asked.sys.mode
      = .service ∧ s.asked.bit PF_PMGR_ENABLE = false) ∧
    (∃ (s : State) (p : List (BitVec 8)), Takes s cmdValveSequence p ∧ 1 ≤ (p.length - 8) / 8 ∧ (p.length - 8) / 8 ≤ 32 ∧
      ((∀ i, i < (p.length - 8) / 8 → (seqStep p i).ch ≤ 35 ∧ 1 ≤ (seqStep p i).action ∧ (seqStep p i).action ≤ 3)) ∧
      s.asked.sv.seqJournal = none ∧ ((∀ i, i < (p.length - 8) / 8 → ((seqStep p i).action = 2 → s.asked.bit
      (SV_CHSTAT_TRIP_HELD (seqStep p i).ch) = false) ∧ ((seqStep p i).action = 3 → s.asked.chLeaks (seqStep p i).ch =
      false)))) ∧
    (∃ (s : State) (p : List (BitVec 8)), Takes s cmdCalibrationControl p ∧ fieldLE p 8 1 < 16 ∧ fieldLE p 9 1 = 0) ∧
    (∃ (s : State) (p : List (BitVec 8)), Takes s cmdCalibrationControl p ∧ fieldLE p 8 1 < 16 ∧ fieldLE p 9 1 = 1 ∧
      (s.asked.cal (fieldLE p 8 1)).enabled = false) ∧
    (∃ (s : State) (p : List (BitVec 8)), Takes s cmdCalibrationControl p ∧ fieldLE p 8 1 < 16 ∧ fieldLE p 9 1 = 1 ∧
      (s.asked.cal (fieldLE p 8 1)).enabled = true) ∧
    (∃ (s : State) (p : List (BitVec 8)), Takes s cmdCalibrationControl p ∧ fieldLE p 8 1 < 16 ∧ fieldLE p 9 1 = 2 ∧
      fisFin (f32At p 12) = true) ∧
    (∃ (s : State) (p : List (BitVec 8)), Takes s cmdCalibrationControl p ∧ fieldLE p 8 1 < 16 ∧ fieldLE p 9 1 = 3) ∧
    (∃ (s : State) (p : List (BitVec 8)), Takes s cmdCalibrationControl p ∧ fieldLE p 8 1 < 16 ∧ fieldLE p 9 1 = 4) ∧
    (∃ (s : State) (p : List (BitVec 8)), Takes s cmdModbusEnable p ∧ fieldLE p 8 1 = 1) ∧
    (∃ (s : State) (p : List (BitVec 8)), Takes s cmdModbusEnable p ∧ fieldLE p 8 1 = 0) ∧
    (∃ (s : State) (e : Nat), s.mg.grantEnd = some e ∧ e ≤ s.time) ∧
    (∃ (s : State) (p : List (BitVec 8)), Takes s cmdSnapshotAt p ∧ s.asked.time + msec 1 ≤ fieldLE p 8 8 ∧ fieldLE p 8 8
      ≤ s.asked.time + secs 60 ∧ s.asked.mb.snaps.length < 4) :=
  ⟨⟨((State.reset.onSys fun y => { y with mode := .reactive, role := .active }).onLe fun y =>
     { y with active := [((SL_CTRL_MODE 0).addr, BitVec.ofNat 32 (2 ^ (SL_CTRL_MODE 0).lo))] }), (req 32 []), 0,
     ⟨by decide +kernel, by decide +kernel, by decide +kernel, by decide +kernel, by decide +kernel,
     by decide +kernel, by decide +kernel⟩, by decide +kernel, by decide +kernel, by decide +kernel,
     by decide +kernel, by decide +kernel, by decide +kernel, by decide +kernel⟩,
   ⟨inTable, (req 44 []), ⟨by decide +kernel, by decide +kernel, by decide +kernel, by decide +kernel, by decide +kernel,
     by decide +kernel, by decide +kernel⟩, by decide +kernel, by decide +kernel⟩,
   ⟨(State.reset.onSys fun y => { y with mode := .table, role := .active }), (req 12 []), ⟨by decide +kernel,
     by decide +kernel, by decide +kernel, by decide +kernel, by decide +kernel, by decide +kernel,
     by decide +kernel⟩, by decide +kernel, by decide +kernel, by decide +kernel⟩,
   ⟨(State.reset.onSys fun y => { y with mode := .table, role := .active }), (req 12 [(9, 1)]), ⟨by decide +kernel,
     by decide +kernel, by decide +kernel, by decide +kernel, by decide +kernel, by decide +kernel,
     by decide +kernel⟩, by decide +kernel, by decide +kernel, by decide +kernel, by decide +kernel⟩,
   ⟨((State.reset.onSys fun y => { y with mode := .table, role := .active }).putBit (pfEnable (fieldLE (req 12 [(9, 1)])
     8 1)) true), (req 12 [(9, 1)]), ⟨by decide +kernel, by decide +kernel, by decide +kernel, by decide +kernel,
     by decide +kernel, by decide +kernel, by decide +kernel⟩, by decide +kernel, by decide +kernel,
     by decide +kernel, by decide +kernel⟩,
   ⟨((State.reset.onSys fun y => { y with mode := .table, role := .active }).onSys fun y => { y with mode := .service }),
     (req 12 [(9, 2)]), ⟨by decide +kernel, by decide +kernel, by decide +kernel, by decide +kernel,
     by decide +kernel, by decide +kernel, by decide +kernel⟩, by decide +kernel, by decide +kernel,
     by decide +kernel, by decide +kernel⟩,
   ⟨inTable, (req 16 [(8, 35), (9, 2)]), ⟨by decide +kernel, by decide +kernel, by decide +kernel, by decide +kernel,
     by decide +kernel, by decide +kernel, by decide +kernel⟩, by decide +kernel, by decide +kernel,
     by decide +kernel, by decide +kernel, by decide +kernel⟩,
   ⟨(State.reset.onSys fun y => { y with mode := .table, role := .active }), (req 16 []), ⟨by decide +kernel,
     by decide +kernel, by decide +kernel, by decide +kernel, by decide +kernel, by decide +kernel,
     by decide +kernel⟩, by decide +kernel, by decide +kernel⟩,
   ⟨((State.reset.onSys fun y => { y with mode := .table, role := .active }).setCal (fieldLE (req 16 [(9, 1)]) 8 1)
     { enabled := false }), (req 16 [(9, 1)]), ⟨by decide +kernel, by decide +kernel, by decide +kernel,
     by decide +kernel, by decide +kernel, by decide +kernel, by decide +kernel⟩, by decide +kernel,
     by decide +kernel, by decide +kernel⟩,
   ⟨((State.reset.onSys fun y => { y with mode := .table, role := .active }).setCal (fieldLE (req 16 [(9, 1)]) 8 1)
     { enabled := true }), (req 16 [(9, 1)]), ⟨by decide +kernel, by decide +kernel, by decide +kernel,
     by decide +kernel, by decide +kernel, by decide +kernel, by decide +kernel⟩, by decide +kernel,
     by decide +kernel, by decide +kernel⟩,
   ⟨(State.reset.onSys fun y => { y with mode := .table, role := .active }), (req 16 [(9, 2)]), ⟨by decide +kernel,
     by decide +kernel, by decide +kernel, by decide +kernel, by decide +kernel, by decide +kernel,
     by decide +kernel⟩, by decide +kernel, by decide +kernel, by decide +kernel⟩,
   ⟨(State.reset.onSys fun y => { y with mode := .table, role := .active }), (req 16 [(9, 3)]), ⟨by decide +kernel,
     by decide +kernel, by decide +kernel, by decide +kernel, by decide +kernel, by decide +kernel,
     by decide +kernel⟩, by decide +kernel, by decide +kernel⟩,
   ⟨(State.reset.onSys fun y => { y with mode := .table, role := .active }), (req 16 [(9, 4)]), ⟨by decide +kernel,
     by decide +kernel, by decide +kernel, by decide +kernel, by decide +kernel, by decide +kernel,
     by decide +kernel⟩, by decide +kernel, by decide +kernel⟩,
   ⟨(State.reset.onSys fun y => { y with mode := .table, role := .active }), (req 12 [(8, 1)]), ⟨by decide +kernel,
     by decide +kernel, by decide +kernel, by decide +kernel, by decide +kernel, by decide +kernel,
     by decide +kernel⟩, by decide +kernel⟩,
   ⟨(State.reset.onSys fun y => { y with mode := .table, role := .active }), (req 12 []), ⟨by decide +kernel,
     by decide +kernel, by decide +kernel, by decide +kernel, by decide +kernel, by decide +kernel,
     by decide +kernel⟩, by decide +kernel⟩,
   ⟨((State.reset.at 0).onMg fun y => { y with grantEnd := some 0 }), 0, by decide +kernel, by decide +kernel⟩,
   ⟨inTable, (req 16 [(8, 160), (9, 134), (10, 1)]), ⟨by decide +kernel, by decide +kernel, by decide +kernel,
     by decide +kernel, by decide +kernel, by decide +kernel, by decide +kernel⟩, by decide +kernel,
     by decide +kernel, by decide +kernel⟩⟩

/-- The hypotheses of each clause of `Obligations.FirmwareUpdate` are met together. -/
theorem witness_FirmwareUpdate :
    (∃ (s : State) (p : List (BitVec 8)), Takes s cmdUpdateBegin p ∧ fieldLE p 8 1 < 2 ∧ ((fieldLE p 8 1 = 1 →
      s.asked.isActive = true → s.asked.partnerInStep = true)) ∧ fieldLE p 12 4 ≤ 44 * 1048576 ∧ s.asked.mg.update =
      none ∧ s.asked.tr.commit = none) ∧
    (∃ (s : State) (p : List (BitVec 8)) (u : Update), Takes s cmdUpdateChunk p ∧ s.asked.mg.update = some u ∧ u.verified
      = false ∧ fieldLE p 8 4 % 64 = 0 ∧ fieldLE p 8 4 + (p.drop 12).length ≤ u.size) ∧
    (∃ (s : State) (p : List (BitVec 8)), Takes s cmdUpdateEnd p ∧ fieldLE p 8 1 = 2 ∧ s.asked.mg.update = none ∧
      s.asked.mg.confirmed = true ∧ s.asked.mg.fuse < s.asked.runningSlot.svn) ∧
    (∃ (s : State) (p : List (BitVec 8)) (u : Update), Takes s cmdUpdateEnd p ∧ fieldLE p 8 1 = 3 ∧ s.asked.mg.update =
      some u) ∧
    (∃ (s : State) (u : Update), s.mg.update = some u ∧ u.activating = true ∧ u.programmed = false ∧ s.updateMine u =
      true) ∧
    (∃ (s : State) (u : Update), s.mg.update = some u ∧ u.activating = true ∧ u.programmed = true ∧ s.updateMine u = true
      ∧ s.resetAllowed u = true) ∧
    (∃ (s : State) (p : List (BitVec 8)), Takes s cmdUpdateEnd p ∧ fieldLE p 8 1 = 2 ∧ s.asked.isActive = true ∧
      s.asked.mg.update.any (fun u => u.target == 1) = true) ∧
    (∃ (s : State) (u : Update), s.mg.update = some u ∧ u.activating = true ∧ u.programmed = false ∧ s.updateMine u =
      true) ∧
    (∃ (s : State) (_ : Bool), s.mg.update.any (fun u => u.activating && !u.programmed && s.updateMine u) = false) ∧
    (∃ (s : State), s.mg.update.any (fun u => u.activating && u.programmed && s.updateMine u && s.resetAllowed u) = false) ∧
    (∃ (s : State), s.archives = true ∧ s.ca.selfRefresh = false) ∧
    (∃ (s : State) (_ : BitVec 12), s.Inv ∧ s.bit MG_CTRL_ENABLE = false) ∧
    (∃ (s : State) (ws : List (BitVec 32)), (s.bit MG_CTRL_ENABLE = false ∨ ws = [] ∨ 4096 ≤ (s.rd MG_RX_WPTR / 4 * 4 +
      4096 - s.rd MG_RX_RPTR / 4 * 4) % 4096 + 4 * ws.length)) ∧
    (∃ (s : State), (s.archives = false ∨ s.ca.selfRefresh = true)) ∧
    (∃ (s : State) (_ : BitVec 12), s.Inv ∧ s.bit MG_CTRL_ENABLE = true) ∧
    (∃ (s : State) (ws : List (BitVec 32)), s.Inv ∧ s.bit MG_CTRL_ENABLE = true ∧ ws ≠ [] ∧ (s.rd MG_RX_WPTR / 4 * 4 +
      4096 - s.rd MG_RX_RPTR / 4 * 4) % 4096 + 4 * ws.length < 4096) :=
  ⟨⟨(((State.reset.onSys fun y => { y with mode := .table, role := .active }).onMg fun y =>
     { y with update := none }).onTr fun y => { y with commit := none }), (req 52 []), ⟨by decide +kernel,
     by decide +kernel, by decide +kernel, by decide +kernel, by decide +kernel, by decide +kernel,
     by decide +kernel⟩, by decide +kernel, by decide +kernel, by decide +kernel, by decide +kernel,
     by decide +kernel⟩,
   ⟨inTable.onMg fun y => { y with update := some ⟨0, 0, 0, [], [], false, false, 0, false, 0, 0, 0⟩ }, (req 12 []), (⟨0,
     0, 0, [], [], false, false, 0, false, 0, 0, 0⟩), ⟨by decide +kernel, by decide +kernel, by decide +kernel,
     by decide +kernel, by decide +kernel, by decide +kernel, by decide +kernel⟩, by decide +kernel,
     by decide +kernel, by decide +kernel, by decide +kernel⟩,
   ⟨inTable.onMg fun y => { y with slotA := { y.slotA with svn := 1 } }, (req 24 [(8, 2)]), ⟨by decide +kernel,
     by decide +kernel, by decide +kernel, by decide +kernel, by decide +kernel, by decide +kernel,
     by decide +kernel⟩, by decide +kernel, by decide +kernel, by decide +kernel, by decide +kernel⟩,
   ⟨inTable.onMg fun y => { y with update := some ⟨0, 0, 0, [], [], false, false, 0, false, 0, 0, 0⟩ }, (req 24 [(8,
     3)]), (⟨0, 0, 0, [], [], false, false, 0, false, 0, 0, 0⟩), ⟨by decide +kernel, by decide +kernel,
     by decide +kernel, by decide +kernel, by decide +kernel, by decide +kernel, by decide +kernel⟩,
     by decide +kernel, by decide +kernel⟩,
   ⟨inTable.onMg fun y => { y with update := some ⟨0, 0, 0, [], [], true, false, 0, true, 0, 0, 0⟩ }, (⟨0, 0, 0, [], [],
     true, false, 0, true, 0, 0, 0⟩), by decide +kernel, by decide +kernel, by decide +kernel, by decide +kernel⟩,
   ⟨inTable.onMg fun y => { y with update := some ⟨0, 0, 0, [], [], true, true, 0, true, 0, 0, 0⟩ }, (⟨0, 0, 0, [], [],
     true, true, 0, true, 0, 0, 0⟩), by decide +kernel, by decide +kernel, by decide +kernel, by decide +kernel,
     by decide +kernel⟩,
   ⟨(((State.reset.onSys fun y => { y with mode := .table, role := .active }).onSys fun y =>
     { y with role := .active }).onMg fun y =>
     { y with update := some ⟨1, 0, 0, [], [], true, true, 0, true, 0, 0, 0⟩ }), (req 24 [(8, 2)]),
     ⟨by decide +kernel, by decide +kernel, by decide +kernel, by decide +kernel, by decide +kernel,
     by decide +kernel, by decide +kernel⟩, by decide +kernel, by decide +kernel, by decide +kernel⟩,
   ⟨inTable.onMg fun y => { y with update := some ⟨0, 0, 0, [], [], true, false, 0, true, 0, 0, 0⟩ }, (⟨0, 0, 0, [], [],
     true, false, 0, true, 0, 0, 0⟩), by decide +kernel, by decide +kernel, by decide +kernel, by decide +kernel⟩,
   ⟨State.reset, true, by decide +kernel⟩,
   ⟨State.reset, by decide +kernel⟩,
   ⟨cellarOn.onCa fun y => { y with selfRefresh := false }, by decide +kernel, by decide +kernel⟩,
   ⟨State.reset, 0, ⟨by decide +kernel, by decide +kernel⟩, by decide +kernel⟩,
   ⟨State.reset, ([]), by decide +kernel⟩,
   ⟨State.reset.putBit TM_CTRL_LOCK true, by decide +kernel⟩,
   ⟨(State.reset.putBit MG_CTRL_ENABLE true), 0, ⟨by decide +kernel, by decide +kernel⟩, by decide +kernel⟩,
   ⟨(State.reset.putBit MG_CTRL_ENABLE true), ([0]), ⟨by decide +kernel, by decide +kernel⟩, by decide +kernel,
     by decide +kernel, by decide +kernel⟩⟩

/-- A module in TABLE with an update staged. -/
def staged (u : Update) : State := inTable.onMg fun y => { y with update := some u }
/-- The hypotheses of the clauses of `Obligations.FirmwareUpdate` about VERIFY and ACTIVATE are met together by any staged
image that is complete and whose digest, header and signature the uninterpreted checks of Config accept. -/
theorem witness_FirmwareUpdate_verify (u : Update) (hc : u.complete = true) (hd : Config.sha256 u.image = u.digest)
    (hh : headerGood u.image = true) (hs : (slotOf u.image).sigOk = true) (a : Nat) (ha : a < 2) :
    ∃ (s : State) (p : List (BitVec 8)), Takes s cmdUpdateEnd p ∧ fieldLE p 8 1 = a ∧ s.asked.mg.update = some u ∧
      s.asked.imageBad u = none ∧
      (u.target ≠ 0 ∨ s.asked.rd TW_PARTNER_ROLE ≠ 2 ∨ s.asked.bit TW_STATUS_HB_OK = false) := by
  have hm : (staged u).asked.mg =
      (staged u).mg :=
    (atMailbox_frame (P := { regs := true, dic := true, mb := true, le := true }) (.refl _ _) rfl rfl rfl rfl).mg rfl
  have hy : (staged u).asked.sys = inTable.sys :=
    (atMailbox_frame (P := { regs := true, dic := true, mb := true, le := true }) (.refl _ _) rfl rfl rfl rfl).sys rfl
  have ht : cmdUpdateEnd.states (staged u).asked = true := by
    show runService (staged u).asked = true
    simp only [runService, hy]
    decide
  have hf : (staged u).mg.fuse = 0 := rfl
  have hu : (staged u).asked.mg.update = some u := hm ▸ rfl
  have hb : (staged u).asked.imageBad u = none := by
    simp [State.imageBad, hc, hd, hh, hs, hm, hf]
  have hw : RegsBut noteReg (staged u)
      (staged u).asked := regsBut_post (fun _ h => h) 480 (by decide) fun _ _ => rfl
  have h2 : (staged u).asked.rd TW_PARTNER_ROLE ≠ 2 := by
    have e : (staged u).asked.rd TW_PARTNER_ROLE = inTable.rd TW_PARTNER_ROLE :=
      congrArg (fun w => bitsOf w 31 29) (hw TW_PARTNER_ROLE.addr (by unfold noteReg; decide))
    exact e ▸ by decide +kernel
  obtain rfl | rfl : a = 0 ∨ a = 1 := by omega
  · exact ⟨staged u, req 24 [],
      ⟨show inTable.sys.mode ≠ .off by decide, by decide +kernel, by decide +kernel, by decide +kernel, fun _ => rfl, ht,
        fun _ => rfl⟩,
      by decide +kernel, hu, hb, .inr (.inl h2)⟩
  · exact ⟨staged u, req 24 [(8, 1)],
      ⟨show inTable.sys.mode ≠ .off by decide, by decide +kernel, by decide +kernel, by decide +kernel, fun _ => rfl, ht,
        fun _ => rfl⟩,
      by decide +kernel, hu, hb, .inr (.inl h2)⟩

/-- The hypotheses of each clause of `Obligations.ModelCommits` are met together. -/
theorem witness_ModelCommits :
    (∃ (s : State) (p : List (BitVec 8)), Takes s cmdModelLoadChunk p ∧ fieldLE p 8 1 < 16 ∧ fieldLE p 12 8 % 64 = 0 ∧
      fieldLE p 12 8 < 0x80000000 ∧ fieldLE p 12 8 + (p.drop 20).length ≤ 0x80000000 ∧ s.asked.lockedSlots.contains
      (fieldLE p 8 1) = false) ∧
    (∃ (s : State) (p : List (BitVec 8)) (rot : Bool), Takes s cmdCommitModel p ∧ s.asked.tr.commit = none ∧ fieldLE p 8 1
      < 16 ∧ fieldLE p 9 1 < 3 ∧ s.asked.headerOk (fieldLE p 8 1) = true ∧ s.asked.admitForm (s.asked.readImage
      (fieldLE p 8 1) (fieldLE p 9 1) (s.asked.bunchesFor (fieldLE p 12 2))) (fieldLE p 9 1) s.asked.frameCounts
      (s.asked.bunchesFor (fieldLE p 12 2)) = some rot) ∧
    (∃ (s : State) (p : List (BitVec 8)) (x : Image), Takes s cmdRevertModel p ∧ s.asked.tr.commit = none ∧
      s.asked.tr.previous = some x) ∧
    (∃ (s : State) (p : List (BitVec 8)), Takes s cmdCommitModel p ∧ s.asked.tr.commit = none ∧ fieldLE p 8 1 < 16 ∧
      fieldLE p 9 1 < 3 ∧ s.asked.headerOk (fieldLE p 8 1) = true ∧ s.asked.admitForm (s.asked.readImage (fieldLE p 8
      1) (fieldLE p 9 1) (s.asked.bunchesFor (fieldLE p 12 2))) (fieldLE p 9 1) s.asked.frameCounts
      (s.asked.bunchesFor (fieldLE p 12 2)) = none) ∧
    (∃ (s : State) (c : Commit), s.tr.commit = some c ∧ c.step = 2 ∧ c.revert = false ∧ s.imageDigest c.image.slot ≠
      c.digest) ∧
    (∃ (s : State) (c : Commit), s.tr.commit = some c ∧ c.step = 2 ∧ (c.revert = true ∨ s.imageDigest c.image.slot =
      c.digest)) ∧
    (∃ (s : State), s.tr.commit.any (fun c => c.step == 2) = false) ∧
    (∃ (s : State) (c : Commit), s.tr.commit = some c ∧ c.step = 3 ∧ s.atBoundary = true ∧ (s.allSwitched = true ∨
      c.step3At + msec 10 ≤ s.time)) ∧
    (∃ (s : State) (c : Commit), s.tr.commit = some c ∧ c.step = 5 ∧ s.imagePoisoned = false) ∧
    (∃ (s : State), (s.tr.commit.any (fun c => c.step == 3 && (s.allSwitched || decide (c.step3At + msec 10 ≤ s.time))) =
      false ∨ s.atBoundary = false)) ∧
    (∃ (s : State) (c : Commit) (ok : Bool), s.tr.commit = some c ∧ c.step = 5 ∧ (ok = false ∨ s.imagePoisoned = true)) ∧
    (∃ (s : State) (_ : Bool), s.tr.commit.any (fun c => c.step == 5) = false) ∧
    (∃ (s : State), (s.tr.enableDue = false ∨ s.atBoundary = false)) ∧
    (∃ (s : State), s.tr.commit.any (fun c => c.step == 7 && decide (8 ≤ s.tr.warmGood)) = false) ∧
    (∃ (s : State), s.tr.readmit = false) ∧
    (∃ (s : State), s.tr.readmit = true ∧ s.tr.image = none) ∧
    (∃ (s : State) (x : Image), s.tr.readmit = true ∧ s.tr.image = some x ∧ s.admitForm x 0 s.frameCounts x.bunches =
      none) ∧
    (∃ (s : State), (s.mb.snaps.find? fun x => x.latched.isSome && s.sys.mode != .survival) = none) ∧
    (∃ (s : State), s.tr.enableDue = true ∧ s.atBoundary = true) ∧
    (∃ (s : State) (c : Commit), s.tr.commit = some c ∧ c.step = 7 ∧ 8 ≤ s.tr.warmGood) ∧
    (∃ (s : State) (x : Image) (rot : Bool), s.tr.readmit = true ∧ s.tr.image = some x ∧ s.admitForm x 0 s.frameCounts
      x.bunches = some rot) ∧
    (∃ (s : State) (x : Snap), (s.mb.snaps.find? fun x => x.latched.isSome && s.sys.mode != .survival) = some x) :=
  ⟨⟨(State.reset.onSys fun y => { y with mode := .table, role := .active }), (req 20 []), ⟨by decide +kernel,
     by decide +kernel, by decide +kernel, by decide +kernel, by decide +kernel, by decide +kernel,
     by decide +kernel⟩, by decide +kernel, by decide +kernel, by decide +kernel, by decide +kernel,
     by decide +kernel⟩,
   ⟨(inTable.setBytes (modelSlot 0) tinyImage), (req 48 []), false, ⟨by decide +kernel, by decide +kernel,
     by decide +kernel, by decide +kernel, by decide +kernel, by decide +kernel, by decide +kernel⟩,
     by decide +kernel, by decide +kernel, by decide +kernel, by decide +kernel, by decide +kernel⟩,
   ⟨inTable.onTr fun y => { y with previous := some (inTable.readImage 0 0 0) }, (req 8 []), (inTable.readImage 0 0 0),
     ⟨by decide +kernel, by decide +kernel, by decide +kernel, by decide +kernel, by decide +kernel,
     by decide +kernel, by decide +kernel⟩, by decide +kernel, by decide +kernel⟩,
   ⟨inTable.setBytes (modelSlot 0) longImage, (req 48 []), ⟨by decide +kernel, by decide +kernel, by decide +kernel,
     by decide +kernel, by decide +kernel, by decide +kernel, by decide +kernel⟩, by decide +kernel,
     by decide +kernel, by decide +kernel, by decide +kernel, by decide +kernel⟩,
   ⟨State.reset.onTr fun y =>
     { y with commit := some ⟨0, State.reset.readImage 0 0 0, 0, 0, 2, false, false, false, false, 0, State.reset.imageDigest 0 ++ [0], none, none⟩ },
     (⟨0, State.reset.readImage 0 0 0, 0, 0, 2, false, false, false, false, 0, State.reset.imageDigest 0 ++ [0], none,
     none⟩), rfl, rfl, rfl, fun h => absurd (congrArg List.length ((digest_onTr _ _ 0).symm.trans h)) (by simp)⟩,
   ⟨State.reset.onTr fun y => { y with commit := some { commitAt 2 with revert := true } },
     ({ commitAt 2 with revert := true }), by decide +kernel, by decide +kernel, by decide +kernel⟩,
   ⟨State.reset, by decide +kernel⟩,
   ⟨((State.reset.onTr fun y => { y with commit := some (commitAt 3) }).onSys fun y =>
     { y with lastFrame := some (msec 10) }).at (msec 10), (commitAt 3), by decide +kernel, by decide +kernel,
     by decide +kernel, by decide +kernel⟩,
   ⟨State.reset.onTr fun y => { y with commit := some (commitAt 5) }, (commitAt 5), by decide +kernel, by decide +kernel,
     by decide +kernel⟩,
   ⟨State.reset, by decide +kernel⟩,
   ⟨State.reset.onTr fun y => { y with commit := some (commitAt 5) }, (commitAt 5), false, by decide +kernel,
     by decide +kernel, by decide +kernel⟩,
   ⟨State.reset, true, by decide +kernel⟩,
   ⟨(State.reset.onTr fun y => { y with enableDue := false }), by decide +kernel⟩,
   ⟨State.reset, by decide +kernel⟩,
   ⟨(State.reset.onTr fun y => { y with readmit := false }), by decide +kernel⟩,
   ⟨((State.reset.onTr fun y => { y with readmit := true }).onTr fun y => { y with image := none }), by decide +kernel,
     by decide +kernel⟩,
   ⟨State.reset.onTr fun y => { y with readmit := true, image := some { State.reset.readImage 0 0 0 with cols := 17 } },
     ({ State.reset.readImage 0 0 0 with cols := 17 }), by decide +kernel, by decide +kernel, by decide +kernel⟩,
   ⟨State.reset, by decide +kernel⟩,
   ⟨((State.reset.onTr fun y => { y with enableDue := true }).onSys fun y => { y with lastFrame := some 0 }),
     by decide +kernel, by decide +kernel⟩,
   ⟨State.reset.onTr fun y => { y with commit := some (commitAt 7), warmGood := 8 }, (commitAt 7), by decide +kernel,
     by decide +kernel, by decide +kernel⟩,
   ⟨State.reset.onTr fun y => { y with readmit := true, image := some (State.reset.readImage 0 0 0) },
     (State.reset.readImage 0 0 0), false, by decide +kernel, by decide +kernel, by decide +kernel⟩,
   ⟨State.reset.onMb fun y => { y with snaps := [⟨0, 0, 0, 0, some 0, []⟩] }, (⟨0, 0, 0, 0, some 0, []⟩),
     by decide +kernel⟩⟩

/-- The hypotheses of each clause of `Obligations.BrokerWrites` are met together. -/
theorem witness_BrokerWrites :
    (∃ (s : State) (c : Fin 4096), s.Inv ∧ s.renewalDue c = true ∧ s.renewalStopped c = false) ∧
    (∃ (s : State) (c : Fin 4096), (s.renewalDue c = false ∨ s.renewalStopped c = true)) ∧
    (∃ (s : State), (s.mayStart = false ∨ s.nextRec = none)) ∧
    (∃ (s : State) (c : Nat) (r : CapRec) (k : F32), s.Inv ∧ s.mayStart = true ∧ s.nextRec = some (c, r, k) ∧ c < 4096) ∧
    (∃ (s : State) (c : Fin 4096) (f : CapFlight), s.Inv ∧ (s.pbCtx c).flight = some f ∧ f.rcd.kind ≠ .release) ∧
    (∃ (s : State) (c : Fin 4096) (f : CapFlight), (s.pbCtx c).flight = some f ∧ f.rcd.kind = .release) ∧
    (∃ (s : State) (c : Fin 4096) (_ : Bool), (s.pbCtx c).flight = none) ∧
    (∃ (s : State) (c : Fin 4096) (f : CapFlight) (r : CapRec), s.Inv ∧ (s.pbCtx c).flight = some f ∧ f.rcd.failures = 0 ∧
      (s.pbCtx c).unsent = some r) ∧
    (∃ (s : State) (c : Fin 4096) (f : CapFlight), s.Inv ∧ (s.pbCtx c).flight = some f ∧ f.rcd.failures = 0 ∧ (s.pbCtx
      c).unsent = none) ∧
    (∃ (s : State) (c : Fin 4096) (f : CapFlight), s.Inv ∧ (s.pbCtx c).flight = some f ∧ 1 ≤ f.rcd.failures) ∧
    (∃ (s : State) (c : Fin 4096) (f : CapFlight), (s.pbCtx c).flight = some f ∧ f.started + s.uioTimeout ≤ s.time) ∧
    (∃ (s : State) (c : Fin 4096), s.since ((s.pbCtx c).flight.map (·.started)) s.uioTimeout = false) ∧
    (∃ (s : State) (c : Fin 4096), (s.since (s.pbCtx c).leaseEnd 0 = false ∨ s.bit (PB_STATUS_LEASE_LAPSED c) = true)) ∧
    (∃ (s : State) (c : Fin 4096), (s.since (s.pbCtx c).overSince (msec 20 + 1) = false ∨ s.bit (PB_STATUS_OVER_CAP c) =
      true)) ∧
    (∃ (s : State) (c : Fin 4096), (s.pbCtx c).unsent.any (fun r => decide (r.queuedAt + msec r.lease ≤ s.time)) = false) ∧
    (∃ (s : State) (c : Fin 4096) (r : CapRec), (s.pbCtx c).unsent = some r ∧ r.queuedAt + msec r.lease ≤ s.time ∧ r.kind
      = .release) ∧
    (∃ (s : State) (c : Fin 4096) (e : Nat), s.Inv ∧ (s.pbCtx c).leaseEnd = some e ∧ e ≤ s.time ∧ s.bit
      (PB_STATUS_LEASE_LAPSED c) = false) ∧
    (∃ (s : State) (c : Fin 4096) (r : CapRec), s.Inv ∧ (s.pbCtx c).unsent = some r ∧ r.queuedAt + msec r.lease ≤ s.time ∧
      r.kind ≠ .release) ∧
    (∃ (s : State) (c : Fin 4096) (o : Nat), s.Inv ∧ (s.pbCtx c).overSince = some o ∧ o + msec 20 + 1 ≤ s.time ∧ s.bit
      (PB_STATUS_OVER_CAP c) = false) ∧
    (∃ (s : State) (_ : BitVec 32), s.isActive = false) ∧
    (∃ (s : State) (_ : BitVec 32), s.isActive = true ∧ (s.sys.mode = .boot ∨ s.sys.mode = .service ∨ s.sys.mode =
      .failed)) ∧
    (∃ (_ : State) (off : Nat) (_ : BitVec 32), (off < 0x104 ∨ 0x250 ≤ off ∨ off % 4 ≠ 0 ∨ off = 0x10C)) ∧
    (∃ (s : State) (_ : BitVec 32), s.isActive = true ∧ s.sys.mode ≠ .boot ∧ s.sys.mode ≠ .service ∧ s.sys.mode ≠ .failed) ∧
    (∃ (_ : State) (off : Nat) (_ : BitVec 32), 0x104 ≤ off ∧ off < 0x250 ∧ off % 4 = 0 ∧ off ≠ 0x10C) :=
  ⟨⟨(((State.reset.onSys fun y => { y with mode := .reactive, role := .active }).putBit (PB_STATUS_ADMITTED 4095)
     true).wr (PB_LEASE 4095) 20).setPbCtx 4095 { everSent := true } |>.at (msec 10), 4095, ⟨by decide +kernel,
     by decide +kernel⟩, by decide +kernel, by decide +kernel⟩,
   ⟨State.reset, 4095, by decide +kernel⟩,
   ⟨State.reset, by decide +kernel⟩,
   ⟨(oneWritten fun x => { x with unsent := some (rcd .cap 0), margin := 0 }).onMb fun y => { y with linkUp := true },
     4095, (rcd .cap 0), 0, ⟨by decide +kernel, by decide +kernel⟩, by decide +kernel, by decide +kernel,
     by decide +kernel⟩,
   ⟨oneWritten fun x => { x with flight := some ⟨rcd .cap 0, 0⟩ }, 4095, (⟨rcd .cap 0, 0⟩), ⟨by decide +kernel,
     by decide +kernel⟩, by decide +kernel, by decide +kernel⟩,
   ⟨oneWritten fun x => { x with flight := some ⟨rcd .release 0, 0⟩ }, 4095, (⟨rcd .release 0, 0⟩), by decide +kernel,
     by decide +kernel⟩,
   ⟨(State.reset.setPbCtx 4095 { flight := none }), 4095, true, by decide +kernel⟩,
   ⟨oneWritten fun x => { x with flight := some ⟨rcd .cap 0, 0⟩, unsent := some (rcd .cap 0) }, 4095, (⟨rcd .cap 0, 0⟩),
     (rcd .cap 0), ⟨by decide +kernel, by decide +kernel⟩, by decide +kernel, by decide +kernel, by decide +kernel⟩,
   ⟨oneWritten fun x => { x with flight := some ⟨rcd .cap 0, 0⟩ }, 4095, (⟨rcd .cap 0, 0⟩), ⟨by decide +kernel,
     by decide +kernel⟩, by decide +kernel, by decide +kernel, by decide +kernel⟩,
   ⟨oneWritten fun x => { x with flight := some ⟨rcd .cap 1, 0⟩ }, 4095, (⟨rcd .cap 1, 0⟩), ⟨by decide +kernel,
     by decide +kernel⟩, by decide +kernel, by decide +kernel⟩,
   ⟨(oneWritten fun x => { x with flight := some ⟨rcd .cap 0, 0⟩ }).at (usec 50000), 4095, (⟨rcd .cap 0, 0⟩),
     by decide +kernel, by decide +kernel⟩,
   ⟨State.reset, 4095, by decide +kernel⟩,
   ⟨State.reset, 4095, by decide +kernel⟩,
   ⟨State.reset, 4095, by decide +kernel⟩,
   ⟨State.reset, 4095, by decide +kernel⟩,
   ⟨(oneWritten fun x => { x with unsent := some (rcd .release 0) }).at (msec 20), 4095, (rcd .release 0),
     by decide +kernel, by decide +kernel, by decide +kernel⟩,
   ⟨((State.reset.at 0).setPbCtx 4095 { leaseEnd := some 0 }), 4095, 0, ⟨by decide +kernel, by decide +kernel⟩,
     by decide +kernel, by decide +kernel, by decide +kernel⟩,
   ⟨(oneWritten fun x => { x with unsent := some (rcd .cap 0) }).at (msec 20), 4095, (rcd .cap 0), ⟨by decide +kernel,
     by decide +kernel⟩, by decide +kernel, by decide +kernel, by decide +kernel⟩,
   ⟨((State.reset.at (0 + msec 20 + 1)).setPbCtx 4095 { overSince := some 0 }), 4095, 0, ⟨by decide +kernel,
     by decide +kernel⟩, by decide +kernel, by decide +kernel, by decide +kernel⟩,
   ⟨State.reset, 0, by decide +kernel⟩,
   ⟨((State.reset.onSys fun y => { y with role := .active }).onSys fun y => { y with mode := .boot }), 0,
     by decide +kernel, by decide +kernel⟩,
   ⟨State.reset, 0, 0, by decide +kernel⟩,
   ⟨inTable, 0, by decide +kernel, by decide +kernel, by decide +kernel, by decide +kernel⟩,
   ⟨State.reset, 0x24C, 0, by decide +kernel, by decide +kernel, by decide +kernel, by decide +kernel⟩⟩

/-- The hypotheses of each clause of `Obligations.VatQueues` are met together. -/
theorem witness_VatQueues :
    (∃ (s : State) (_ : Nat) (_ : List (BitVec 8)), s.Inv ∧ s.bit VQ_CTRL_ACCEPT = false) ∧
    (∃ (s : State) (off : Nat) (bs : List (BitVec 8)), s.bit VQ_CTRL_ACCEPT = true ∧ off < 4096 * 4096 ∧ s.badBar2 off
      bs.length = false) ∧
    (∃ (s : State) (off : Nat) (bs : List (BitVec 8)), s.bit VQ_CTRL_ACCEPT = true ∧ off < 4096 * 4096 ∧ s.badBar2 off
      bs.length = true) ∧
    (∃ (s : State) (off : Nat) (_ : List (BitVec 8)), s.bit VQ_CTRL_ACCEPT = true ∧ 4096 * 4096 ≤ off) ∧
    (∃ (s : State) (c : Fin 4096) (b : Bool) (t0 : Nat), (s.asm (2 * c + b2n b)).refused = none ∧ (s.asm (2 * c + b2n
      b)).since = some t0 ∧ t0 + s.pktTimeout ≤ s.time) ∧
    (∃ (s : State) (c : Fin 4096) (b : Bool), s.since (s.asm (2 * c + b2n b)).refused s.pktTimeout = true) ∧
    (∃ (s : State) (c : Fin 4096) (b : Bool), s.since (s.asm (2 * c + b2n b)).refused s.pktTimeout = false ∧ s.since
      (s.asm (2 * c + b2n b)).since s.pktTimeout = false) ∧
    (∃ (s : State) (q : Fin 32) (_ : Bool) (t0 : Nat), (s.sq q).since = some t0 ∧ t0 + s.pktTimeout ≤ s.time) ∧
    (∃ (s : State) (q : Fin 32) (_ : Bool), s.since (s.sq q).since s.pktTimeout = false) ∧
    (∃ (s : State), s.vq.unpacking = false) ∧
    (∃ (s : State), s.vq.unpacking = true) ∧
    (∃ (s : State) (k : Fin 18) (_ : List Nat) (_ : Bool), (((k : Nat) < 6 ∧ (tfind s.sn.streams k).all (fun t0 => decide
      (t0 + streamPeriod k ≤ s.time)) = true) ∨ ((k : Nat) = 17 ∧ s.traceRuns = true))) ∧
    (∃ (s : State) (k : Fin 18) (_ : List Nat) (_ : Bool), (¬ ((k : Nat) < 6 ∧ (tfind s.sn.streams k).all (fun t0 =>
      decide (t0 + streamPeriod k ≤ s.time)) = true)) ∧ (¬ ((k : Nat) = 17 ∧ s.traceRuns = true))) ∧
    (∃ (s : State) (q : Fin 32) (r : SqReader), s.waitsAt q r = true) ∧
    (∃ (s : State) (q : Fin 32) (r : SqReader) (u : State), s.waitsAt q r = false ∧ s.popLine q r = some u) ∧
    (∃ (s : State) (q : Fin 32) (r : SqReader), s.waitsAt q r = false ∧ s.popLine q r = none ∧ s.pastDeadline
      (s.popDeadlineOf q r) = true) ∧
    (∃ (s : State) (q : Fin 32) (r : SqReader), s.waitsAt q r = false ∧ s.popLine q r = none ∧ s.pastDeadline
      (s.popDeadlineOf q r) = false) ∧
    (∃ (s : State) (q : Fin 32) (x : SqStall) (l : List SqStall) (u : State), (s.sq q).stalls = x :: l ∧ s.popLine q
      x.reader = some u) ∧
    (∃ (s : State) (q : Fin 32), ((s.sq q).stalls = [] ∨ (s.sq q).swap.read = [])) ∧
    (∃ (s : State) (q : Fin 96), 64 ≤ (q : Nat) ∧ (s.sq (q - 64)).flushing = false) ∧
    (∃ (s : State) (q : Fin 96), (q : Nat) < 64 ∧ (s.iq q).flushing = false) ∧
    (∃ (s : State) (q : Fin 96), (if (q : Nat) < 64 then (s.iq q).flushing else (s.sq (q - 64)).flushing) = true) ∧
    (∃ (s : State) (q : Fin 96), (q : Nat) < 64 ∧ (s.iq q).flushing = true ∧ (s.queueAsms q).all (fun a => !(s.asm
      a).marked) = true) ∧
    (∃ (s : State) (q : Fin 96), 64 ≤ (q : Nat) ∧ (s.sq (q - 64)).flushing = true ∧ (s.sq (q - 64)).marked = false) ∧
    (∃ (s : State) (q : Fin 96), (if (q : Nat) < 64 then (s.iq q).flushing && (s.queueAsms q).all (fun a => !(s.asm
      a).marked) else (s.sq (q - 64)).flushing && !(s.sq (q - 64)).marked) = false) ∧
    (∃ (s : State) (n : Fin 9), ((n : Nat) = 1 ∨ s.wakeHolds n = true)) ∧
    (∃ (s : State) (n : Fin 9), s.Inv ∧ (n : Nat) ≠ 1 ∧ s.wakeHolds n = false) :=
  ⟨⟨State.reset, 0, ([]), ⟨by decide +kernel, by decide +kernel⟩, by decide +kernel⟩,
   ⟨((((inTable.putBit VQ_CTRL_ACCEPT true).putBit (PB_CFG_VALID 0) true).putBit VQ_CTRL_IQ_EN true).putBit
     (VQ_IQ_CTRL_ENABLE 0) true), 0, (zeros 8), by decide +kernel, by decide +kernel, by decide +kernel⟩,
   ⟨(State.reset.putBit VQ_CTRL_ACCEPT true), 0, ([]), by decide +kernel, by decide +kernel, by decide +kernel⟩,
   ⟨(State.reset.putBit VQ_CTRL_ACCEPT true), (4096 * 4096), ([]), by decide +kernel, by decide +kernel⟩,
   ⟨(State.reset.setAsm 8191 { since := some 0 }).at (usec 100), 4095, true, 0, by decide +kernel, by decide +kernel,
     by decide +kernel⟩,
   ⟨(State.reset.setAsm 8191 { refused := some 0 }).at (usec 10000), 4095, true, by decide +kernel⟩,
   ⟨State.reset, 4095, true, by decide +kernel, by decide +kernel⟩,
   ⟨(State.reset.setSq 31 { since := some 0 }).at (usec 10000), 31, true, 0, by decide +kernel, by decide +kernel⟩,
   ⟨State.reset, 31, true, by decide +kernel⟩,
   ⟨(State.reset.onVq fun y => { y with unpacking := false }), by decide +kernel⟩,
   ⟨(State.reset.onVq fun y => { y with unpacking := true }), by decide +kernel⟩,
   ⟨(State.reset.onSn fun y => { y with streams := [(5, 0)] }).at (msec 20), 5, ([]), true, by decide +kernel⟩,
   ⟨State.reset, 17, ([]), true, by decide +kernel, by decide +kernel⟩,
   ⟨State.reset.setSq 31 { stalls := [⟨.cellar, 0, 0⟩] }, 31, .cellar, by decide +kernel⟩,
   ⟨State.reset.setSq 31 { fill := [⟨0, [], none⟩] }, 31, .core 7, (((State.reset.setSq 31
     { fill := [⟨0, [], none⟩] }).popLine 31 (.core 7)).get (by decide +kernel)), by decide +kernel, (Option.some_get
     _).symm⟩,
   ⟨State.reset, 31, .core 7, by decide +kernel, by decide +kernel, by decide +kernel⟩,
   ⟨State.reset.wr (VQ_SQ_DEADLINE 31) 5, 31, .core 7, by decide +kernel, by decide +kernel, by decide +kernel⟩,
   ⟨State.reset.setSq 31 { read := [⟨0, [], none⟩], stalls := [⟨.core 7, 0, 0⟩] }, 31, (⟨.core 7, 0, 0⟩), ([]),
     (((State.reset.setSq 31 { read := [⟨0, [], none⟩], stalls := [⟨.core 7, 0, 0⟩] }).popLine 31 (.core 7)).get
     (by decide +kernel)), by decide +kernel, (Option.some_get _).symm⟩,
   ⟨(State.reset.setSq 31 { stalls := [] }), 31, by decide +kernel⟩,
   ⟨(State.reset.setSq (95 - 64) { flushing := false }), 95, by decide +kernel, by decide +kernel⟩,
   ⟨(State.reset.setIq 63 { flushing := false }), 63, by decide +kernel, by decide +kernel⟩,
   ⟨State.reset.setSq 31 { flushing := true }, 95, by decide +kernel⟩,
   ⟨State.reset.setIq 63 { flushing := true }, 63, by decide +kernel, by decide +kernel, by decide +kernel⟩,
   ⟨(State.reset.setSq (95 - 64) { flushing := true, marked := false }), 95, by decide +kernel, by decide +kernel,
     by decide +kernel⟩,
   ⟨State.reset, 95, by decide +kernel⟩,
   ⟨State.reset, 1, by decide +kernel⟩,
   ⟨State.reset, 8, ⟨by decide +kernel, by decide +kernel⟩, by decide +kernel, by decide +kernel⟩⟩

/-- The hypotheses of each clause of `Obligations.PumpsAndFans` are met together. -/
theorem witness_PumpsAndFans :
    (∃ (s : State) (k : Fin 12), s.sys.mode.fromTable = true ∧ s.mayKick k = true) ∧
    (∃ (s : State) (k : Fin 12), (s.sys.mode.fromTable = false ∨ s.mayKick k = false)) ∧
    (∃ (s : State) (k : Fin 12) (_ : Nat) (t0 : Nat) (_ : Nat), s.rd (pfState k) = 1 ∧ (s.pfCh k).kickAt = some t0 ∧ t0 +
      secs 1 ≤ s.time) ∧
    (∃ (s : State) (k : Fin 12) (_ : Nat) (_ : Nat), (s.rd (pfState k) ≠ 1 ∨ s.since (s.pfCh k).kickAt (secs 1) = false)) ∧
    (∃ (s : State) (k : Fin 12) (t0 : Nat), s.rd (pfState k) = 1 ∧ (s.pfCh k).kickAt = none ∧ s.rd (pfRetry k) < 3 ∧
      (s.pfCh k).reqAt = some t0 ∧ t0 + secs (5 * (s.rd (pfRetry k) + 1)) ≤ s.time) ∧
    (∃ (s : State) (k : Fin 12), (s.rd (pfState k) ≠ 1 ∨ (s.pfCh k).kickAt.isSome = true ∨ 3 ≤ s.rd (pfRetry k) ∨ s.since
      (s.pfCh k).reqAt (secs (5 * (s.rd (pfRetry k) + 1))) = false)) ∧
    (∃ (s : State) (k : Fin 12), s.tachLost k = true ∧ s.rd (pfState k) = 2 ∧ (s.wr (pfTach k) 0).inBand k = true) ∧
    (∃ (s : State) (k : Fin 12), s.tachLost k = true ∧ s.rd (pfState k) = 2 ∧ (s.wr (pfTach k) 0).inBand k = false) ∧
    (∃ (s : State) (k : Fin 12), s.tachLost k = true ∧ s.rd (pfState k) = 3) ∧
    (∃ (s : State) (k : Fin 12), (s.tachLost k = false ∨ (s.rd (pfState k) ≠ 2 ∧ s.rd (pfState k) ≠ 3))) ∧
    (∃ (s : State) (k : Fin 12), s.rd (pfState k) = 3 ∧ s.inBand k = false) ∧
    (∃ (s : State) (k : Fin 12), (s.rd (pfState k) ≠ 3 ∨ s.inBand k = true)) ∧
    (∃ (s : State) (n : Fin 4) (b : Bool) (can : Bool), s.Inv ∧ s.bit (PF_PCFG_ENABLE n) = true ∧ s.rd (PF_PSTAT_STATE n)
      ≠ 6 ∧ ((if s.bit (PF_PCFG_FAULT_POL n) then b else !b) || can) = true) ∧
    (∃ (s : State) (n : Fin 4) (b : Bool) (can : Bool), s.Inv ∧ (((if s.bit (PF_PCFG_FAULT_POL n) then b else !b) || can)
      = false ∨ s.bit (PF_PCFG_ENABLE n) = false ∨ s.rd (PF_PSTAT_STATE n) = 6)) ∧
    (∃ (s : State) (t0 : Nat) (n : Nat), s.bit PF_PMGR_ENABLE = true ∧ s.pf.highSince = some t0 ∧ t0 + secs 10 ≤ s.time ∧
      s.fewestHours s.idlePumps = some n) ∧
    (∃ (s : State), (s.bit PF_PMGR_ENABLE = false ∨ s.since s.pf.highSince (secs 10) = false ∨ s.fewestHours s.idlePumps =
      none)) ∧
    (∃ (s : State) (t0 : Nat) (n : Nat), s.bit PF_PMGR_ENABLE = true ∧ s.sys.mode ≠ .shed ∧ s.pf.lowSince = some t0 ∧ t0 +
      secs 300 ≤ s.time ∧ s.nDuty < s.runningPumps.length ∧ s.mostHours (s.runningPumps.filter fun n => s.bit
      (PF_PSTAT_STAGED n) && !(s.pfCh n).stopping) = some n) ∧
    (∃ (s : State), (s.bit PF_PMGR_ENABLE = false ∨ s.sys.mode = .shed ∨ s.since s.pf.lowSince (secs 300) = false ∨
      s.runningPumps.length ≤ s.nDuty ∨ s.mostHours (s.runningPumps.filter fun n => s.bit (PF_PSTAT_STAGED n) &&
      !(s.pfCh n).stopping) = none)) ∧
    (∃ (s : State) (i : Nat) (o : Nat), s.bit PF_PMGR_ENABLE = true ∧ s.rotationHours = true ∧ s.rotationWaits = false ∧
      s.fewestHours s.idlePumps = some i ∧ s.mostHours s.runningPumps = some o) ∧
    (∃ (s : State), (s.bit PF_PMGR_ENABLE = false ∨ s.rotationHours = false ∨ s.rotationWaits = true ∨ s.fewestHours
      s.idlePumps = none ∨ s.mostHours s.runningPumps = none)) ∧
    (∃ (s : State), s.pf.hoursSaved + secs 360 ≤ s.time) ∧
    (∃ (s : State), s.time < s.pf.hoursSaved + secs 360) ∧
    (∃ (s : State), s.Inv) ∧
    (∃ (s : State) (k : Fin 12), s.bit (pfEnable k) = false) ∧
    (∃ (s : State) (k : Fin 12), s.bit (pfEnable k) = true) ∧
    (∃ (s : State) (_ : Fin 8) (ma : Nat), s.Inv ∧ ma ≤ 4500) ∧
    (∃ (s : State) (k : Fin 8) (ma : Nat), s.Inv ∧ 4500 < ma ∧ (s.pfCh (k + 4)).ocSince = none) ∧
    (∃ (s : State) (k : Fin 8) (ma : Nat) (t0 : Nat), s.Inv ∧ 4500 < ma ∧ (s.pfCh (k + 4)).ocSince = some t0) :=
  ⟨⟨(inTable.putBit (pfEnable 11) true).wr (pfSpeed 11) 1, 11, by decide +kernel, by decide +kernel⟩,
   ⟨State.reset, 11, by decide +kernel⟩,
   ⟨(((State.reset.at (0 + secs 1)).wr (pfState 11) 1).setPfCh 11 { kickAt := some 0 }), 11, 0, 0, 0, by decide +kernel,
     by decide +kernel, by decide +kernel⟩,
   ⟨State.reset, 11, 0, 0, by decide +kernel⟩,
   ⟨((State.reset.wr (pfState 11) 1).setPfCh 11 { reqAt := some 0 }).at (secs 5), 11, 0, by decide +kernel,
     by decide +kernel, by decide +kernel, by decide +kernel, by decide +kernel⟩,
   ⟨State.reset, 11, by decide +kernel⟩,
   ⟨((State.reset.wr (pfState 11) 2).setPfCh 11 { pulseAt := some 0 }).at (secs 180), 11, by decide +kernel,
     by decide +kernel, by decide +kernel⟩,
   ⟨(((State.reset.wr (pfState 11) 2).setPfCh 11 { pulseAt := some 0, learned := 0x3F800000 })).at (secs 180), 11,
     by decide +kernel, by decide +kernel, by decide +kernel⟩,
   ⟨((State.reset.wr (pfState 11) 3).setPfCh 11 { pulseAt := some 0 }).at (secs 180), 11, by decide +kernel,
     by decide +kernel⟩,
   ⟨State.reset, 11, by decide +kernel⟩,
   ⟨(State.reset.wr (pfState 11) 3).setPfCh 11 { learned := 0x3F800000 }, 11, by decide +kernel, by decide +kernel⟩,
   ⟨State.reset, 11, by decide +kernel⟩,
   ⟨(State.reset.putBit (PF_PCFG_ENABLE 3) true), 3, true, true, ⟨by decide +kernel, by decide +kernel⟩,
     by decide +kernel, by decide +kernel, by decide +kernel⟩,
   ⟨State.reset, 3, true, true, ⟨by decide +kernel, by decide +kernel⟩, by decide +kernel⟩,
   ⟨(((State.reset.putBit PF_PMGR_ENABLE true).putBit (PF_PCFG_ENABLE 3) true).onPf fun y =>
     { y with highSince := some 0 }).at (secs 10), 0, 3, by decide +kernel, by decide +kernel, by decide +kernel,
     by decide +kernel⟩,
   ⟨State.reset, by decide +kernel⟩,
   ⟨((((((State.reset.putBit PF_PMGR_ENABLE true).wr PF_PMGR_N_DUTY 1).wr (PF_PSTAT_STATE 2) 2).wr (PF_PSTAT_STATE 3)
     2).putBit (PF_PSTAT_STAGED 2) true).onPf fun y => { y with lowSince := some 0 }).at (secs 300), 0, 2,
     by decide +kernel, by decide +kernel, by decide +kernel, by decide +kernel, by decide +kernel, by decide +kernel⟩,
   ⟨State.reset, by decide +kernel⟩,
   ⟨((((State.reset.putBit PF_PMGR_ENABLE true).putBit (PF_PCFG_ENABLE 3) true).wr (PF_PSTAT_STATE 0) 2).onPf fun y =>
     { y with rotNow := true }).onSys fun y => { y with mode := .table }, 3, 0, by decide +kernel, by decide +kernel,
     by decide +kernel, by decide +kernel, by decide +kernel⟩,
   ⟨State.reset, by decide +kernel⟩,
   ⟨State.reset.at (secs 360), by decide +kernel⟩,
   ⟨State.reset, by decide +kernel⟩,
   ⟨State.reset, ⟨by decide +kernel, by decide +kernel⟩⟩,
   ⟨State.reset, 11, by decide +kernel⟩,
   ⟨(State.reset.putBit (pfEnable 11) true), 11, by decide +kernel⟩,
   ⟨State.reset, 7, 0, ⟨by decide +kernel, by decide +kernel⟩, by decide +kernel⟩,
   ⟨(State.reset.setPfCh (7 + 4) { ocSince := none }), 7, 4501, ⟨by decide +kernel, by decide +kernel⟩,
     by decide +kernel, by decide +kernel⟩,
   ⟨(State.reset.setPfCh (7 + 4) { ocSince := some 0 }), 7, 4501, 0, ⟨by decide +kernel, by decide +kernel⟩,
     by decide +kernel, by decide +kernel⟩⟩

/-- The hypotheses of each clause of `Obligations.CoolantInputs` are met together. -/
theorem witness_CoolantInputs :
    (∃ (s : State) (n : Fin 20) (_ : Nat) (b : Bool), s.Inv ∧ ((s.aoDrive n).isNone = true ∨ s.rd (AO_CFG_MODE n) ≠ 0 ∨ b
      = false)) ∧
    (∃ (s : State) (n : Fin 20) (_ : Nat), s.Inv ∧ (s.aoDrive n).isSome = true ∧ s.rd (AO_CFG_MODE n) = 0) ∧
    (∃ (s : State) (n : Fin 20) (ma : Nat), s.Inv ∧ (s.aoDrive n).isSome = true ∧ s.rd (AO_CFG_MODE n) = 1 ∧ 20 < ma) ∧
    (∃ (s : State) (n : Fin 20) (ma : Nat), ((s.aoDrive n).isNone = true ∨ s.rd (AO_CFG_MODE n) ≠ 1 ∨ ma ≤ 20)) ∧
    (∃ (s : State), s.pf.slowAt = none) ∧
    (∃ (s : State) (t0 : Nat), s.pf.slowAt = some t0) ∧
    (∃ (s : State), s.pf.lastPulse + msec (clampNat 2 20 (s.rd PF_STOPCFG_PULSE_GAP)) ≤ s.time) ∧
    (∃ (s : State), s.time < s.pf.lastPulse + msec (clampNat 2 20 (s.rd PF_STOPCFG_PULSE_GAP))) ∧
    (∃ (s : State), s.bit PF_STOPCFG_USE_CUR = true) ∧
    (∃ (s : State), s.bit PF_STOPCFG_USE_CUR = false) ∧
    (∃ (s : State) (t0 : Nat), s.Inv ∧ s.sys.mode = .shed ∧ s.pf.restoredAt = none ∧ s.flowBack = true ∧ s.pf.restoreSince
      = some t0 ∧ t0 + secs 2 ≤ s.time) ∧
    (∃ (s : State), (s.sys.mode ≠ .shed ∨ s.pf.restoredAt.isSome = true)) ∧
    (∃ (s : State), s.sys.mode = .shed ∧ s.pf.restoredAt = none ∧ s.flowBack = false) ∧
    (∃ (s : State) (t0 : Nat), s.sys.mode = .shed ∧ s.pf.restoredAt = none ∧ s.flowBack = true ∧ t0 =
      s.pf.restoreSince.getD s.time ∧ s.time < t0 + secs 2) ∧
    (∃ (s : State) (r : Fin 16) (_ : BitVec 32) (_ : BitVec 32) (_ : BitVec 32) (_ : BitVec 32) (_ : BitVec 32),
      s.isActive = true ∧ (tfind s.pf.calAt r).all (fun t0 => decide (t0 + secs 60 ≤ s.time)) = true) ∧
    (∃ (s : State) (r : Fin 16) (_ : BitVec 32) (_ : BitVec 32) (_ : BitVec 32) (_ : BitVec 32) (_ : BitVec 32),
      (s.isActive = false ∨ (tfind s.pf.calAt r).any (fun t0 => decide (s.time < t0 + secs 60)) = true)) ∧
    (∃ (s : State), s.pf.calSaved + secs 600 ≤ s.time) ∧
    (∃ (s : State), s.time < s.pf.calSaved + secs 600) :=
  ⟨⟨State.reset, 19, 0, true, ⟨by decide +kernel, by decide +kernel⟩, by decide +kernel⟩,
   ⟨inTable.putBit (AO_CFG_ENABLE 19) true, 19, 0, ⟨by decide +kernel, by decide +kernel⟩, by decide +kernel,
     by decide +kernel⟩,
   ⟨(inTable.putBit (AO_CFG_ENABLE 19) true).wr (AO_CFG_MODE 19) 1, 19, 21, ⟨by decide +kernel, by decide +kernel⟩,
     by decide +kernel, by decide +kernel, by decide +kernel⟩,
   ⟨State.reset, 19, 0, by decide +kernel⟩,
   ⟨(State.reset.onPf fun y => { y with slowAt := none }), by decide +kernel⟩,
   ⟨(State.reset.onPf fun y => { y with slowAt := some 0 }), 0, by decide +kernel⟩,
   ⟨State.reset.at (msec 20), by decide +kernel⟩,
   ⟨State.reset, by decide +kernel⟩,
   ⟨(State.reset.putBit PF_STOPCFG_USE_CUR true), by decide +kernel⟩,
   ⟨State.reset, by decide +kernel⟩,
   ⟨(((((State.reset.at (0 + secs 2)).onSys fun y => { y with mode := .shed }).onPf fun y =>
     { y with restoredAt := none }).onPf fun y => { y with restoreSince := some 0 }).putBit (SN_MASTAT_VALID 16)
     true), 0, ⟨by decide +kernel, by decide +kernel⟩, by decide +kernel, by decide +kernel, by decide +kernel,
     by decide +kernel, by decide +kernel⟩,
   ⟨State.reset, by decide +kernel⟩,
   ⟨((State.reset.onSys fun y => { y with mode := .shed }).onPf fun y => { y with restoredAt := none }),
     by decide +kernel, by decide +kernel, by decide +kernel⟩,
   ⟨(State.reset.onSys fun y => { y with mode := .shed }).putBit (SN_MASTAT_VALID 16) true, 0, by decide +kernel,
     by decide +kernel, by decide +kernel, by decide +kernel, by decide +kernel⟩,
   ⟨(State.reset.onSys fun y => { y with role := .active }), 15, 0, 0, 0, 0, 0, by decide +kernel, by decide +kernel⟩,
   ⟨State.reset, 15, 0, 0, 0, 0, 0, by decide +kernel⟩,
   ⟨State.reset.at (secs 600), by decide +kernel⟩,
   ⟨State.reset, by decide +kernel⟩⟩

/-- The hypotheses of each clause of `Obligations.SensorInputs` are met together. -/
theorem witness_SensorInputs :
    (∃ (s : State) (k : Fin 80) (o : Bool) (h : Bool), s.Inv ∧ o = (s.bit (snOpen k) && s.since (s.snIn k).openClear (secs
      1)) ∧ h = (s.bit (snShort k) && s.since (s.snIn k).shortClear (secs 1)) ∧ (o || h) = true) ∧
    (∃ (s : State) (k : Fin 80), (s.bit (snOpen k) && s.since (s.snIn k).openClear (secs 1)) = false ∧ (s.bit (snShort k)
      && s.since (s.snIn k).shortClear (secs 1)) = false) ∧
    (∃ (s : State) (n : Fin 8), s.Inv ∧ s.bit SN_CTRL = true ∧ s.bit (SN_PICFG_ENABLE n) = true ∧ s.bit (SN_PISTAT_OPEN n)
      = false ∧ s.bit (SN_PISTAT_SHORT n) = false ∧ ((s.snIn (72 + n)).stamp).getD 0 + msec (clampNat 10 60000 (s.rd
      (SN_PICFG_TIMEOUT n))) ≤ s.time) ∧
    (∃ (s : State) (n : Fin 8), (s.bit SN_CTRL = false ∨ s.bit (SN_PICFG_ENABLE n) = false ∨ s.bit (SN_PISTAT_OPEN n) =
      true ∨ s.bit (SN_PISTAT_SHORT n) = true ∨ s.time < ((s.snIn (72 + n)).stamp).getD 0 + msec (clampNat 10 60000
      (s.rd (SN_PICFG_TIMEOUT n))))) ∧
    (∃ (s : State) (k : Fin 16) (l : Bool) (t0 : Nat), s.Inv ∧ s.bit SN_CTRL = true ∧ (l != bitOf (s.rd SN_DINPOL) k) ≠
      bitOf (s.rd SN_DIN) k ∧ (s.snIn (80 + k)).stamp = some t0 ∧ t0 + msec (s.rd SN_DINDEB) ≤ s.time) ∧
    (∃ (s : State) (k : Fin 16) (l : Bool) (t0 : Nat), s.bit SN_CTRL = true ∧ (l != bitOf (s.rd SN_DINPOL) k) ≠ bitOf
      (s.rd SN_DIN) k ∧ t0 = (s.snIn (80 + k)).stamp.getD s.time ∧ s.time < t0 + msec (s.rd SN_DINDEB)) ∧
    (∃ (s : State) (k : Fin 16) (l : Bool), s.bit SN_CTRL = true ∧ (l != bitOf (s.rd SN_DINPOL) k) = bitOf (s.rd SN_DIN)
      k) ∧
    (∃ (s : State) (_ : Fin 16) (_ : Bool), s.bit SN_CTRL = false) ∧
    (∃ (s : State) (k : Fin 32) (t0 : Nat), s.Inv ∧ s.rd (lkState k) = 2 ∧ (s.lkCh k).drySince = some t0 ∧ t0 + secs 10 ≤
      s.time) ∧
    (∃ (s : State) (k : Fin 32), (s.rd (lkState k) ≠ 2 ∨ s.since (s.lkCh k).drySince (secs 10) = false)) ∧
    (∃ (s : State), s.bit SN_CPSTAT_CP_LOW = true ∧ s.sn.derated = false) ∧
    (∃ (s : State), (s.bit SN_CPSTAT_CP_LOW = false ∨ s.sn.derated = true)) ∧
    (∃ (s : State) (t0 : Nat), s.sn.derated = true ∧ s.bit SN_CPSTAT_CP_LOW = false ∧ s.sn.lowClear = some t0 ∧ t0 + secs
      10 ≤ s.time) ∧
    (∃ (s : State), (s.sn.derated = false ∨ s.bit SN_CPSTAT_CP_LOW = true ∨ s.since s.sn.lowClear (secs 10) = false)) :=
  ⟨⟨((((State.reset.putBit (snOpen 79) true).putBit (snShort 79) true).setSnIn 79
     { openClear := some 0, shortClear := some 0 }).at (secs 1)), 79, true, true, ⟨by decide +kernel,
     by decide +kernel⟩, by decide +kernel, by decide +kernel, by decide +kernel⟩,
   ⟨State.reset, 79, by decide +kernel, by decide +kernel⟩,
   ⟨((State.reset.putBit SN_CTRL true).putBit (SN_PICFG_ENABLE 7) true).at (msec 60000), 7, ⟨by decide +kernel,
     by decide +kernel⟩, by decide +kernel, by decide +kernel, by decide +kernel, by decide +kernel,
     by decide +kernel⟩,
   ⟨State.reset, 7, by decide +kernel⟩,
   ⟨((State.reset.putBit SN_CTRL true).setSnIn 95 { stamp := some 0 }).at (msec 1000), 15, true, 0, ⟨by decide +kernel,
     by decide +kernel⟩, by decide +kernel, by decide +kernel, by decide +kernel, by decide +kernel⟩,
   ⟨(State.reset.putBit SN_CTRL true), 15, true, ((((State.reset.putBit SN_CTRL true)).snIn (80 + 15)).stamp.getD
     ((State.reset.putBit SN_CTRL true)).time), by decide +kernel, by decide +kernel, by decide +kernel,
     by decide +kernel⟩,
   ⟨(State.reset.putBit SN_CTRL true), 15, false, by decide +kernel, by decide +kernel⟩,
   ⟨State.reset, 15, true, by decide +kernel⟩,
   ⟨(((State.reset.at (0 + secs 10)).wr (lkState 31) 2).setLkCh 31 { drySince := some 0 }), 31, 0, ⟨by decide +kernel,
     by decide +kernel⟩, by decide +kernel, by decide +kernel, by decide +kernel⟩,
   ⟨State.reset, 31, by decide +kernel⟩,
   ⟨((State.reset.putBit SN_CPSTAT_CP_LOW true).onSn fun y => { y with derated := false }), by decide +kernel,
     by decide +kernel⟩,
   ⟨State.reset, by decide +kernel⟩,
   ⟨(((State.reset.at (0 + secs 10)).onSn fun y => { y with derated := true }).onSn fun y =>
     { y with lowClear := some 0 }), 0, by decide +kernel, by decide +kernel, by decide +kernel, by decide +kernel⟩,
   ⟨(State.reset.onSn fun y => { y with derated := false }), by decide +kernel⟩⟩

/-- The hypotheses of each clause of `Obligations.ValveChannels` are met together. -/
theorem witness_ValveChannels :
    (∃ (s : State) (n : Fin 36), s.bit (SV_CHSTAT_TRIP_HELD n) = true) ∧
    (∃ (s : State) (n : Fin 36), s.chLeaks n = true) ∧
    (∃ (s : State) (n : Fin 36), s.chLeaks n = false) ∧
    (∃ (s : State) (n : Fin 36), s.svSt n = 1 ∧ (s.svCh n).trip = false ∧ s.mayPeak n = true ∧ s.peakTurn n = true) ∧
    (∃ (s : State) (n : Fin 36), s.svSt n = 1 ∧ (s.svCh n).trip = true ∧ (s.tripPreempt n).mayPeak n = true ∧
      (s.tripPreempt n).peakTurn n = true) ∧
    (∃ (s : State) (n : Fin 36), s.svSt n ≠ 1) ∧
    (∃ (s : State) (n : Fin 36) (u : State), s.svSt n = 1 ∧ u = (if (s.svCh n).trip then s.tripPreempt n else s) ∧
      (u.mayPeak n = false ∨ u.peakTurn n = false)) ∧
    (∃ (s : State) (n : Fin 36) (_ : Nat), s.svSt n = 2 ∧ s.tw.outEn = true) ∧
    (∃ (s : State) (n : Fin 36) (_ : Nat), (s.svSt n ≠ 2 ∨ s.tw.outEn = false)) ∧
    (∃ (s : State) (n : Fin 36), s.svSt n = 2 ∧ s.peakOver n = true) ∧
    (∃ (s : State) (n : Fin 36), (s.svSt n ≠ 2 ∨ s.peakOver n = false)) ∧
    (∃ (s : State) (n : Fin 36) (t0 : Nat), s.svSt n = 5 ∧ (s.svCh n).offAt = some t0 ∧ t0 + msec s.reopenMs ≤ s.time) ∧
    (∃ (s : State) (n : Fin 36), (s.svSt n ≠ 5 ∨ s.since (s.svCh n).offAt (msec s.reopenMs) = false)) ∧
    (∃ (s : State) (n : Fin 36) (t0 : Nat), (s.svCh n).posDue = some t0 ∧ t0 + 0 ≤ s.time) ∧
    (∃ (s : State) (n : Fin 36), s.since (s.svCh n).posDue 0 = false) ∧
    (∃ (s : State) (n : Fin 36), (s.svSt n ≠ 1 ∨ s.waitNow n < msec 200)) ∧
    (∃ (s : State) (n : Fin 36), s.svSt n = 1 ∧ msec 200 ≤ s.waitNow n) :=
  ⟨⟨(State.reset.putBit (SV_CHSTAT_TRIP_HELD 35) true), 35, by decide +kernel⟩,
   ⟨(State.reset.wr (SV_CHCFG_RACK 35) 15).wr (LK_ROPECFG_RACK 15) 15 |>.wr (LK_ROPESTAT_STATE 15) 1, 35,
     by decide +kernel⟩,
   ⟨State.reset, 35, by decide +kernel⟩,
   ⟨(svUp.putBit (SV_CHCFG_ENABLE 35) true).wr (SV_CHSTAT_STATE 35) 1, 35, by decide +kernel, by decide +kernel,
     by decide +kernel, by decide +kernel⟩,
   ⟨((svUp.putBit (SV_CHCFG_ENABLE 35) true).wr (SV_CHSTAT_STATE 35) 1).setSvCh 35 { trip := true }, 35,
     by decide +kernel, by decide +kernel, by decide +kernel, by decide +kernel⟩,
   ⟨State.reset, 35, by decide +kernel⟩,
   ⟨State.reset.wr (SV_CHSTAT_STATE 35) 1 |>.wr (SV_GSTAT_HS 8) 3, 35, ((if ((State.reset.wr (SV_CHSTAT_STATE 35) 1 |>.wr
     (SV_GSTAT_HS 8) 3).svCh 35).trip then (State.reset.wr (SV_CHSTAT_STATE 35) 1 |>.wr (SV_GSTAT_HS 8) 3).tripPreempt
     35 else (State.reset.wr (SV_CHSTAT_STATE 35) 1 |>.wr (SV_GSTAT_HS 8) 3))), by decide +kernel, by decide +kernel,
     by decide +kernel⟩,
   ⟨svUp.wr (SV_CHSTAT_STATE 35) 2, 35, 0, by decide +kernel, by decide +kernel⟩,
   ⟨svUp, 35, 0, by decide +kernel⟩,
   ⟨((State.reset.wr (SV_CHSTAT_STATE 35) 2).setSvCh 35 { onAt := some 0 }).at (msec 60), 35, by decide +kernel,
     by decide +kernel⟩,
   ⟨State.reset, 35, by decide +kernel⟩,
   ⟨((State.reset.wr (SV_CHSTAT_STATE 35) 5).setSvCh 35 { offAt := some 0 }).at (msec 500), 35, 0, by decide +kernel,
     by decide +kernel, by decide +kernel⟩,
   ⟨State.reset, 35, by decide +kernel⟩,
   ⟨((State.reset.at (0 + 0)).setSvCh 35 { posDue := some 0 }), 35, 0, by decide +kernel, by decide +kernel⟩,
   ⟨State.reset, 35, by decide +kernel⟩,
   ⟨State.reset, 35, by decide +kernel⟩,
   ⟨(State.reset.wr (SV_CHSTAT_STATE 35) 1).setSvCh 35 { waited := msec 200 }, 35, by decide +kernel, by decide +kernel⟩⟩

/-- The hypotheses of each clause of `Obligations.ValveGroups` are met together. -/
theorem witness_ValveGroups :
    (∃ (s : State) (g : Fin 9) (_ : Nat) (_ : Nat) (_ : Nat), s.svDiag = true ∧ s.rd (SV_GSTAT_HS g) ≠ 1 ∧ (s.svGrp
      g).scanAt.all (fun t0 => decide (t0 + 125000 ≤ s.time)) = true) ∧
    (∃ (s : State) (g : Fin 9) (_ : Nat) (_ : Nat) (_ : Nat), (s.svDiag = false ∨ s.rd (SV_GSTAT_HS g) = 1 ∨ (s.svGrp
      g).scanAt.any (fun t0 => decide (s.time < t0 + 125000)) = true)) ∧
    (∃ (s : State) (n : Fin 36) (_ : Nat) (_ : Nat) (_ : Nat), s.svDiag = true ∧ s.rd (SV_GSTAT_HS ((n : Nat) / 4)) = 1 ∧
      s.svOn n = false) ∧
    (∃ (s : State) (n : Fin 36) (_ : Nat) (_ : Nat) (_ : Nat), (s.svDiag = false ∨ s.rd (SV_GSTAT_HS ((n : Nat) / 4)) ≠ 1
      ∨ s.svOn n = true)) ∧
    (∃ (s : State) (g : Fin 9) (_ : Nat) (_ : Nat) (_ : List (Fin 4)), s.mayIdle g = true) ∧
    (∃ (s : State) (g : Fin 9) (_ : Nat) (_ : Nat) (_ : List (Fin 4)), s.mayIdle g = false) ∧
    (∃ (s : State) (g : Fin 9) (t0 : Nat), s.rd (SV_GSTAT_HS g) = 2 ∧ (s.svGrp g).idleFrom = some t0 ∧ t0 + msec 5 ≤
      s.time) ∧
    (∃ (s : State) (g : Fin 9), (s.rd (SV_GSTAT_HS g) ≠ 2 ∨ s.since (s.svGrp g).idleFrom (msec 5) = false)) ∧
    (∃ (s : State) (n : Fin 36) (low : Nat) (win : Nat) (t0 : Nat), s.svDiag = true ∧ s.svOn n = true ∧ (s.svCh n).onAt =
      some t0 ∧ t0 + msec 2 ≤ s.time ∧ (s.svCh n).checked = false ∧ low < 50 ∧ 50 < win) ∧
    (∃ (s : State) (n : Fin 36) (low : Nat) (win : Nat) (t0 : Nat), s.svDiag = true ∧ s.svOn n = true ∧ (s.svCh n).onAt =
      some t0 ∧ t0 + msec 2 ≤ s.time ∧ (s.svCh n).checked = false ∧ low < 50 ∧ win ≤ 50) ∧
    (∃ (s : State) (n : Fin 36) (low : Nat) (_ : Nat) (t0 : Nat), s.svDiag = true ∧ s.svOn n = true ∧ (s.svCh n).onAt =
      some t0 ∧ t0 + msec 2 ≤ s.time ∧ (s.svCh n).checked = false ∧ 50 ≤ low) ∧
    (∃ (s : State) (n : Fin 36) (_ : Nat) (_ : Nat), (s.svDiag = false ∨ s.svOn n = false ∨ s.since (s.svCh n).onAt (msec
      2) = false ∨ (s.svCh n).checked = true)) ∧
    (∃ (s : State) (n : Fin 36) (ma : Nat), s.svDiag = true ∧ s.svOn n = true ∧ 6000 < ma) ∧
    (∃ (s : State) (n : Fin 36) (ma : Nat), s.svDiag = true ∧ s.svOn n = true ∧ ma ≤ 6000) ∧
    (∃ (s : State) (n : Fin 36) (_ : Nat), (s.svDiag = false ∨ s.svOn n = false)) ∧
    (∃ (s : State) (_ : Fin 9) (_ : Nat), s.svDiag = false) ∧
    (∃ (s : State) (_ : Fin 9) (ma : Nat), s.svDiag = true ∧ ma ≤ 3000) ∧
    (∃ (s : State) (g : Fin 9) (ma : Nat) (t0 : Nat), s.svDiag = true ∧ 3000 < ma ∧ (s.svGrp g).ocSince = some t0 ∧ t0 +
      msec 10 ≤ s.time ∧ s.heldOff g = false) ∧
    (∃ (s : State) (g : Fin 9) (ma : Nat) (t0 : Nat), s.svDiag = true ∧ 3000 < ma ∧ t0 = (s.svGrp g).ocSince.getD s.time ∧
      (s.time < t0 + msec 10 ∨ s.heldOff g = true)) ∧
    (∃ (s : State) (g : Fin 9) (t0 : Nat), s.svDiag = true ∧ s.heldOff g = true ∧ (s.svGrp g).passSince = some t0 ∧ t0 +
      secs 1 ≤ s.time) ∧
    (∃ (s : State) (g : Fin 9), (s.svDiag = false ∨ s.heldOff g = false ∨ s.since (s.svGrp g).passSince (secs 1) = false)) ∧
    (∃ (s : State) (j : Nat) (k : Nat) (r : List SvStep), s.sv.seqJournal = some j ∧ (s.sv.steps.takeWhile fun p =>
      p.phase == 3).length = k ∧ s.sv.steps.drop k = r ∧ r ≠ [] ∧ (r.all fun p => p.phase == 0) = true) ∧
    (∃ (s : State) (k : Nat) (r : List SvStep), (s.sv.steps.takeWhile fun p => p.phase == 3).length = k ∧ s.sv.steps.drop
      k = r ∧ (s.sv.seqJournal = none ∨ r = [] ∨ (r.all fun p => p.phase == 0) = false)) ∧
    (∃ (s : State) (i : Fin 32) (p : SvStep), s.sv.steps[(i : Nat)]? = some p ∧ p.phase = 2 ∧ p.doneAt + msec p.wait ≤
      s.time ∧ ((s.sv.steps.set i { p with phase := 3 }).all fun q => q.phase == 3) = true) ∧
    (∃ (s : State) (i : Fin 32) (p : SvStep), s.sv.steps[(i : Nat)]? = some p ∧ p.phase = 2 ∧ p.doneAt + msec p.wait ≤
      s.time ∧ ((s.sv.steps.set i { p with phase := 3 }).all fun q => q.phase == 3) = false) ∧
    (∃ (s : State) (i : Fin 32), s.sv.steps[(i : Nat)]?.all (fun p => p.phase != 2 || decide (s.time < p.doneAt + msec
      p.wait)) = true) :=
  ⟨⟨svUp, 8, 0, 0, 0, by decide +kernel, by decide +kernel, by decide +kernel⟩,
   ⟨State.reset, 8, 0, 0, 0, by decide +kernel⟩,
   ⟨(svUp.wr (SV_GSTAT_HS ((35 : Nat) / 4)) 1), 35, 0, 0, 0, by decide +kernel, by decide +kernel, by decide +kernel⟩,
   ⟨State.reset, 35, 0, 0, 0, by decide +kernel⟩,
   ⟨(svUp.wr (SV_GSTAT_HS 8) 1).setSvGrp 8 { repeatAt := some 0 }, 8, 0, 0, ([3, 0]), by decide +kernel⟩,
   ⟨svUp.wr (SV_GSTAT_HS 8) 0, 8, 0, 0, ([]), by decide +kernel⟩,
   ⟨(((State.reset.at (0 + msec 5)).wr (SV_GSTAT_HS 8) 2).setSvGrp 8 { idleFrom := some 0 }), 8, 0, by decide +kernel,
     by decide +kernel, by decide +kernel⟩,
   ⟨State.reset, 8, by decide +kernel⟩,
   ⟨((svUp.wr (SV_CHSTAT_STATE 35) 3).setSvCh 35 { onAt := some 0 }).at (msec 2), 35, 49, 51, 0, by decide +kernel,
     by decide +kernel, by decide +kernel, by decide +kernel, by decide +kernel, by decide +kernel, by decide +kernel⟩,
   ⟨((svUp.wr (SV_CHSTAT_STATE 35) 3).setSvCh 35 { onAt := some 0 }).at (msec 2), 35, 49, 50, 0, by decide +kernel,
     by decide +kernel, by decide +kernel, by decide +kernel, by decide +kernel, by decide +kernel, by decide +kernel⟩,
   ⟨((svUp.wr (SV_CHSTAT_STATE 35) 3).setSvCh 35 { onAt := some 0 }).at (msec 2), 35, 50, 0, 0, by decide +kernel,
     by decide +kernel, by decide +kernel, by decide +kernel, by decide +kernel, by decide +kernel⟩,
   ⟨State.reset, 35, 0, 0, by decide +kernel⟩,
   ⟨svUp.wr (SV_CHSTAT_STATE 35) 4, 35, 6001, by decide +kernel, by decide +kernel, by decide +kernel⟩,
   ⟨svUp.wr (SV_CHSTAT_STATE 35) 4, 35, 6000, by decide +kernel, by decide +kernel, by decide +kernel⟩,
   ⟨State.reset, 35, 0, by decide +kernel⟩,
   ⟨State.reset, 8, 0, by decide +kernel⟩,
   ⟨svUp, 8, 0, by decide +kernel, by decide +kernel⟩,
   ⟨((svUp.at (0 + msec 10)).setSvGrp 8 { ocSince := some 0 }), 8, 3001, 0, by decide +kernel, by decide +kernel,
     by decide +kernel, by decide +kernel, by decide +kernel⟩,
   ⟨svUp, 8, 3001, ((svUp.svGrp 8).ocSince.getD svUp.time), by decide +kernel, by decide +kernel, by decide +kernel,
     by decide +kernel⟩,
   ⟨((svUp.wr (SV_GSTAT_HS 8) 3).setSvGrp 8 { passSince := some 0 }).at (secs 1), 8, 0, by decide +kernel,
     by decide +kernel, by decide +kernel, by decide +kernel⟩,
   ⟨State.reset, 8, by decide +kernel⟩,
   ⟨State.reset.onSv fun y => { y with seqJournal := some 0, steps := [⟨35, 1, false, false, 0, 0, 0⟩] }, 0, 0, ([⟨35, 1,
     false, false, 0, 0, 0⟩]), by decide +kernel, by decide +kernel, by decide +kernel, by decide +kernel,
     by decide +kernel⟩,
   ⟨(State.reset.onSv fun y => { y with seqJournal := none }), 0, ([]), by decide +kernel, by decide +kernel,
     by decide +kernel⟩,
   ⟨State.reset.onSv fun y => { y with steps := [⟨35, 1, false, false, 0, 2, 0⟩] }, 0, (⟨35, 1, false, false, 0, 2, 0⟩),
     by decide +kernel, by decide +kernel, by decide +kernel, by decide +kernel⟩,
   ⟨State.reset.onSv fun y => { y with steps := [⟨35, 1, false, false, 0, 2, 0⟩, ⟨35, 1, false, false, 0, 0, 0⟩] }, 0,
     (⟨35, 1, false, false, 0, 2, 0⟩), by decide +kernel, by decide +kernel, by decide +kernel, by decide +kernel⟩,
   ⟨State.reset, 31, by decide +kernel⟩⟩

/-- The hypotheses of each clause of `Obligations.FieldBusFrames` are met together. -/
theorem witness_FieldBusFrames :
    (∃ (s : State) (n : Fin 4) (_ : CanFrame) (_ : RxEvents) (_ : Nat), (s.bit (FB_CTRL_INIT n) = true ∨ s.rd (FB_STAT_FCS
      n) = 2)) ∧
    (∃ (s : State) (n : Fin 4) (_ : CanFrame) (e : RxEvents) (_ : Nat), s.bit (FB_CTRL_INIT n) = false ∧ s.rd (FB_STAT_FCS
      n) ≠ 2 ∧ e.ok = false) ∧
    (∃ (s : State) (n : Fin 4) (_ : CanFrame) (e : RxEvents) (_ : Nat), s.bit (FB_CTRL_INIT n) = false ∧ s.rd (FB_STAT_FCS
      n) ≠ 2 ∧ e.ok = true ∧ s.rd (FB_STAT_REC n) ≤ 127) ∧
    (∃ (s : State) (n : Fin 4) (_ : CanFrame) (e : RxEvents) (_ : Nat), s.bit (FB_CTRL_INIT n) = false ∧ s.rd (FB_STAT_FCS
      n) ≠ 2 ∧ e.ok = true ∧ 127 < s.rd (FB_STAT_REC n)) ∧
    (∃ (s : State) (n : Fin 4) (x : FbSrc) (e : Bool), s.txChoice n = some (x, e)) ∧
    (∃ (s : State) (n : Fin 4), s.txChoice n = none) ∧
    (∃ (s : State) (n : Fin 4) (x : FbSrc) (_ : TxEvents), (s.fbCh n).cur = some x) ∧
    (∃ (s : State) (n : Fin 4) (x : FbSrc) (_ : TxEvents), (s.fbCh n).cur = some x) ∧
    (∃ (s : State) (n : Fin 4) (_ : Bool) (_ : TxEvents), (s.fbCh n).cur = none) ∧
    (∃ (s : State) (n : Fin 4), s.bit (FB_STAT_RECOVERING n) = false) ∧
    (∃ (s : State) (n : Fin 4), s.bit (FB_STAT_RECOVERING n) = true) ∧
    (∃ (s : State) (n : Fin 4), s.Inv ∧ s.rd (FB_STAT_FCS n) = 2) ∧
    (∃ (s : State) (n : Fin 4), s.rd (FB_STAT_FCS n) ≠ 2) ∧
    (∃ (s : State) (n : Fin 4) (m : Fin 64), s.Inv ∧ s.rd (FB_MBSTAT_STATE n m) = 1) ∧
    (∃ (s : State) (n : Fin 4) (m : Fin 64), s.rd (FB_MBSTAT_STATE n m) = 2) ∧
    (∃ (s : State) (n : Fin 4) (m : Fin 64), s.rd (FB_MBSTAT_STATE n m) ≠ 1 ∧ s.rd (FB_MBSTAT_STATE n m) ≠ 2) ∧
    (∃ (s : State) (n : Fin 4), s.Inv ∧ s.bit (FB_CTRL_INIT n) = true ∧ (s.bit (FB_CTRL_TT_EN n) = false ∨ s.schedOk n =
      true)) ∧
    (∃ (s : State) (n : Fin 4), s.Inv ∧ s.bit (FB_CTRL_INIT n) = true ∧ s.bit (FB_CTRL_TT_EN n) = true ∧ s.schedOk n =
      false) ∧
    (∃ (s : State) (n : Fin 4), s.bit (FB_CTRL_INIT n) = false) ∧
    (∃ (s : State) (_ : Fin 4) (_ : Fin 64), s.Inv) ∧
    (∃ (s : State) (_ : Fin 4) (_ : Fin 64), s.Inv) ∧
    (∃ (s : State) (n : Fin 4) (m : Fin 64), (s.bit (FB_MBSTAT_LOCKED n m) = false ∨ s.since (s.fbBuf n m).lockAt (msec 1)
      = false)) ∧
    (∃ (s : State) (n : Fin 4) (m : Fin 64) (t0 : Nat), s.bit (FB_MBSTAT_LOCKED n m) = true ∧ (s.fbBuf n m).lockAt = some
      t0 ∧ t0 + msec 1 ≤ s.time) :=
  ⟨⟨(State.reset.putBit (FB_CTRL_INIT 3) true), 3, (classicFrame 0 []), (⟨true, false, 0⟩), 0, by decide +kernel⟩,
   ⟨State.reset.putBit (FB_CTRL_INIT 3) false, 3, (classicFrame 0 []), (⟨false, true, 3⟩), 0, by decide +kernel,
     by decide +kernel, by decide +kernel⟩,
   ⟨(State.reset.putBit (FB_CTRL_INIT 3) false).wr (FB_STAT_REC 3) 127, 3, (classicFrame 0 []), (⟨true, false, 0⟩), 128,
     by decide +kernel, by decide +kernel, by decide +kernel, by decide +kernel⟩,
   ⟨(State.reset.putBit (FB_CTRL_INIT 3) false).wr (FB_STAT_REC 3) 128, 3, (classicFrame 0 []), (⟨true, false, 0⟩), 128,
     by decide +kernel, by decide +kernel, by decide +kernel, by decide +kernel⟩,
   ⟨((State.reset.putBit (FB_CTRL_MONITOR 3) false).putBit (FB_CTRL_INIT 3) false).setFbCh 3
     { fw := [classicFrame 0 []] }, 3, .fw, false, by decide +kernel⟩,
   ⟨State.reset, 3, by decide +kernel⟩,
   ⟨State.reset.setFbCh 3 { cur := some .fw }, 3, .fw, (⟨false, false, false, false, 0⟩), by decide +kernel⟩,
   ⟨State.reset.setFbCh 3 { cur := some (.mirror 7) }, 3, .mirror 7, (⟨false, false, false, false, 0⟩),
     by decide +kernel⟩,
   ⟨(State.reset.setFbCh 3 { cur := none }), 3, true, (⟨false, false, false, true, 0⟩), by decide +kernel⟩,
   ⟨State.reset, 3, by decide +kernel⟩,
   ⟨(State.reset.putBit (FB_STAT_RECOVERING 3) true), 3, by decide +kernel⟩,
   ⟨(State.reset.wr (FB_STAT_FCS 3) 2), 3, ⟨by decide +kernel, by decide +kernel⟩, by decide +kernel⟩,
   ⟨State.reset, 3, by decide +kernel⟩,
   ⟨(State.reset.wr (FB_MBSTAT_STATE 3 63) 1), 3, 63, ⟨by decide +kernel, by decide +kernel⟩, by decide +kernel⟩,
   ⟨(State.reset.wr (FB_MBSTAT_STATE 3 63) 2), 3, 63, by decide +kernel⟩,
   ⟨State.reset, 3, 63, by decide +kernel, by decide +kernel⟩,
   ⟨(State.reset.putBit (FB_CTRL_INIT 3) true), 3, ⟨by decide +kernel, by decide +kernel⟩, by decide +kernel,
     by decide +kernel⟩,
   ⟨((State.reset.putBit (FB_CTRL_INIT 3) true).putBit (FB_CTRL_TT_EN 3) true).wr (FB_TTCFG_NCOL 3) 2, 3,
     ⟨by decide +kernel, by decide +kernel⟩, by decide +kernel, by decide +kernel, by decide +kernel⟩,
   ⟨State.reset.putBit (FB_CTRL_INIT 3) false, 3, by decide +kernel⟩,
   ⟨State.reset, 3, 63, ⟨by decide +kernel, by decide +kernel⟩⟩,
   ⟨State.reset, 3, 63, ⟨by decide +kernel, by decide +kernel⟩⟩,
   ⟨State.reset, 3, 63, by decide +kernel⟩,
   ⟨(((State.reset.at (0 + msec 1)).putBit (FB_MBSTAT_LOCKED 3 63) true).setFbBuf 3 63 { lockAt := some 0 }), 3, 63, 0,
     by decide +kernel, by decide +kernel, by decide +kernel⟩⟩

/-- The hypotheses of each clause of `Obligations.FieldBusSchedule` are met together. -/
theorem witness_FieldBusSchedule :
    (∃ (s : State) (n : Fin 4) (_ : Option Nat), (s.bit (FB_CTRL_TT_EN n) = false ∨ s.bit (FB_CTRL_INIT n) = true ∨
      (s.fbCh n).cycle = some (s.time / s.fbLen n))) ∧
    (∃ (s : State) (n : Fin 4) (_ : Option Nat) (q : Nat), s.bit (FB_CTRL_TT_EN n) = true ∧ s.bit (FB_CTRL_INIT n) = false
      ∧ q = s.time / s.fbLen n ∧ (s.fbCh n).cycle ≠ some q) ∧
    (∃ (s : State) (n : Fin 4) (_ : Bool), ((s.fbCh n).cycle = none ∨ s.bit (FB_CTRL_TT_EN n) = false ∨ s.bit
      (FB_CTRL_INIT n) = true ∨ s.fbCols n ≤ (s.fbCh n).col + 1 ∨ s.time < (s.fbCh n).base + s.fbMark n ((s.fbCh
      n).col + 1))) ∧
    (∃ (s : State) (n : Fin 4) (q : Nat), (s.fbCh n).cycle = some q ∧ s.bit (FB_CTRL_TT_EN n) = true ∧ s.bit (FB_CTRL_INIT
      n) = false ∧ (s.fbCh n).col + 1 < s.fbCols n ∧ (s.fbCh n).base + s.fbMark n ((s.fbCh n).col + 1) ≤ s.time) ∧
    (∃ (s : State) (n : Fin 4) (q : Nat), (s.fbCh n).cycle = some q ∧ s.bit (FB_CTRL_TT_EN n) = true ∧ s.bit (FB_CTRL_INIT
      n) = false ∧ (s.fbCh n).col + 1 < s.fbCols n ∧ (s.fbCh n).base + s.fbMark n ((s.fbCh n).col + 1) ≤ s.time) ∧
    (∃ (s : State) (n : Fin 4) (q : Nat), s.supInterval n = some q ∧ (s.fbCh n).supAt ≠ some q) ∧
    (∃ (s : State) (n : Fin 4), (s.supInterval n = none ∨ s.supInterval n = (s.fbCh n).supAt)) ∧
    (∃ (s : State) (n : Fin 4) (k : Fin 64) (r : CfgReq), ((s.fbCh n).reqs.find? fun r => r.node == k.val && decide
      (r.sent + 20 * s.fbLen n ≤ s.time)) = some r ∧ r.tries < 2) ∧
    (∃ (s : State) (n : Fin 4) (k : Fin 64) (r : CfgReq), ((s.fbCh n).reqs.find? fun r => r.node == k.val && decide
      (r.sent + 20 * s.fbLen n ≤ s.time)) = some r ∧ 2 ≤ r.tries) ∧
    (∃ (s : State) (n : Fin 4) (k : Fin 64), ((s.fbCh n).reqs.find? fun r => r.node == k.val && decide (r.sent + 20 *
      s.fbLen n ≤ s.time)) = none) ∧
    (∃ (s : State) (_ : Fin 4) (n : Fin 4) (k : Fin 64) (_ : Nat) (_ : Nat), s.rd (FB_CTRL_PROTO n) = 2 ∧ s.bit
      (FB_CTRL_TT_EN n) = false ∧ 1 ≤ k.val) ∧
    (∃ (s : State) (_ : Fin 4) (n : Fin 4) (k : Fin 64) (_ : Nat) (_ : Nat), (s.rd (FB_CTRL_PROTO n) ≠ 2 ∨ s.bit
      (FB_CTRL_TT_EN n) = true ∨ k.val = 0)) ∧
    (∃ (s : State) (p : Fin 4) (d : Drive) (v : Nat), tfind s.fb.drives p = some d ∧ s.rd (PF_PCFG_IF p) = 2 ∧ d.steps =
      [] ∧ d.sdo = none ∧ v = s.driveVelocity p d ∧ d.sentAt.all (fun t0 => decide (t0 + msec 20 ≤ s.time) ||
      ((d.sentTarget != v || d.sentControl != d.control) && decide (t0 + msec 2 ≤ s.time))) = true) ∧
    (∃ (s : State) (p : Fin 4) (d : Drive) (v : Nat), tfind s.fb.drives p = some d ∧ v = s.driveVelocity p d ∧ (s.rd
      (PF_PCFG_IF p) ≠ 2 ∨ d.steps ≠ [] ∨ d.sdo ≠ none ∨ d.sentAt.any (fun t0 => decide (s.time < t0 + msec 20) &&
      ((d.sentTarget == v && d.sentControl == d.control) || decide (s.time < t0 + msec 2))) = true)) ∧
    (∃ (s : State) (p : Fin 4), tfind s.fb.drives p = none) :=
  ⟨⟨State.reset, 3, none, by decide +kernel⟩,
   ⟨(((State.reset.putBit (FB_CTRL_TT_EN 3) true).putBit (FB_CTRL_INIT 3) false).putBit (FB_CTRL_MONITOR 3) false), 3,
     none, (((((State.reset.putBit (FB_CTRL_TT_EN 3) true).putBit (FB_CTRL_INIT 3) false).putBit (FB_CTRL_MONITOR 3)
     false)).time / ((((State.reset.putBit (FB_CTRL_TT_EN 3) true).putBit (FB_CTRL_INIT 3) false).putBit
     (FB_CTRL_MONITOR 3) false)).fbLen 3), by decide +kernel, by decide +kernel, by decide +kernel, by decide +kernel⟩,
   ⟨(State.reset.setFbCh 3 { cycle := none }), 3, true, by decide +kernel⟩,
   ⟨(((State.reset.putBit (FB_CTRL_TT_EN 3) true).putBit (FB_CTRL_INIT 3) false).wr (FB_TTCFG_NCOL 3) 2).setFbCh 3
     { cycle := some 0 }, 3, 0, by decide +kernel, by decide +kernel, by decide +kernel, by decide +kernel,
     by decide +kernel⟩,
   ⟨((((State.reset.putBit (FB_CTRL_TT_EN 3) true).putBit (FB_CTRL_INIT 3) false).wr (FB_TTCFG_NCOL 3) 2).setFbCh 3
     { cycle := some 0 }), 3, 0, by decide +kernel, by decide +kernel, by decide +kernel, by decide +kernel,
     by decide +kernel⟩,
   ⟨State.reset.putBit (FB_CTRL_INIT 3) false, 3, 0, by decide +kernel, by decide +kernel⟩,
   ⟨State.reset, 3, by decide +kernel⟩,
   ⟨(State.reset.setFbCh 3 { reqs := [⟨63, 0, 0, 0, 0, 1⟩] }).at (20 * State.reset.fbLen 3), 3, 63, (⟨63, 0, 0, 0, 0,
     1⟩), by decide +kernel, by decide +kernel⟩,
   ⟨(State.reset.setFbCh 3 { reqs := [⟨63, 0, 0, 0, 0, 2⟩] }).at (20 * State.reset.fbLen 3), 3, 63, (⟨63, 0, 0, 0, 0,
     2⟩), by decide +kernel, by decide +kernel⟩,
   ⟨State.reset, 3, 63, by decide +kernel⟩,
   ⟨(State.reset.wr (FB_CTRL_PROTO 3) 2), 3, 3, 63, 0, 0, by decide +kernel, by decide +kernel, by decide +kernel⟩,
   ⟨State.reset, 3, 3, 63, 0, 0, by decide +kernel⟩,
   ⟨((State.reset.wr (PF_PCFG_IF 3) 2).onFb fun y => { y with drives := [(3, heartbeatDrive)] }).at (msec 20), 3,
     heartbeatDrive, (((State.reset.wr (PF_PCFG_IF 3) 2).onFb fun y =>
     { y with drives := [(3, heartbeatDrive)] }).driveVelocity 3 heartbeatDrive), by decide +kernel,
     by decide +kernel, by decide +kernel, by decide +kernel, by decide +kernel, by decide +kernel⟩,
   ⟨State.reset.onFb fun y => { y with drives := [(3, { heartbeatDrive with sentControl := 1 })] }, 3,
     ({ heartbeatDrive with sdo := none, sentControl := 1 }), 0, by decide +kernel, by decide +kernel,
     by decide +kernel⟩,
   ⟨State.reset, 3, by decide +kernel⟩⟩

/-- The hypotheses of each clause of `Obligations.DoorbellController` are met together. -/
theorem witness_DoorbellController :
    (∃ (_ : State) (v : BitVec 32), v.toNat < 2048) ∧
    (∃ (s : State) (v : BitVec 32), s.Inv ∧ 2048 ≤ v.toNat) ∧
    (∃ (s : State) (g : Fin 16) (t0 : Nat), s.bit (DIC_GCFG_EN g) = true ∧ tfind s.dic.grpStart g = some t0 ∧ t0 + usec
      (clampNat 1 1000 (s.rd (DIC_GCFG_TIME g))) ≤ s.time) ∧
    (∃ (s : State) (g : Fin 16), (s.bit (DIC_GCFG_EN g) = false ∨ s.since (tfind s.dic.grpStart g) (usec (clampNat 1 1000
      (s.rd (DIC_GCFG_TIME g)))) = false)) ∧
    (∃ (s : State) (k : Fin 9), s.bit DIC_CTRL_ENABLE = true ∧ k.val ≠ 1 ∧ s.readStalled k.val = false) ∧
    (∃ (s : State) (k : Fin 9), (s.bit DIC_CTRL_ENABLE = false ∨ k.val = 1 ∨ s.readStalled k.val = true)) ∧
    (∃ (s : State) (k : Fin 9) (i : Initiator) (v : BitVec 32) (a : Nat) (r : List Nat), k.val ≠ 1 ∧ mayEoi i k.val = true
      ∧ s.stack k.val = a :: r ∧ v.toNat < 2 ^ 31) ∧
    (∃ (s : State) (k : Fin 9) (i : Initiator) (v : BitVec 32), s.Inv ∧ k.val ≠ 1 ∧ mayEoi i k.val = true ∧ s.stack k.val
      = [] ∧ v.toNat < 2 ^ 31) ∧
    (∃ (_ : State) (k : Fin 9) (i : Initiator) (v : BitVec 32) (c : Nat), k.val ≠ 1 ∧ mayEoi i k.val = true ∧ 2 ^ 31 ≤
      v.toNat ∧ c = bitsOf v.toNat 10 0) ∧
    (∃ (_ : State) (k : Fin 9) (i : Initiator) (_ : BitVec 32), (k.val = 1 ∨ mayEoi i k.val = false)) ∧
    (∃ (s : State) (k : Fin 9), s.since (tfind s.dic.lastMod k.val) (s.modInterval k.val) = false) ∧
    (∃ (s : State) (k : Fin 9) (t0 : Nat), tfind s.dic.lastMod k.val = some t0 ∧ t0 + s.modInterval k.val ≤ s.time) :=
  ⟨⟨State.reset, 0, by decide +kernel⟩,
   ⟨State.reset, 2048, ⟨by decide +kernel, by decide +kernel⟩, by decide +kernel⟩,
   ⟨((State.reset.putBit (DIC_GCFG_EN 15) true).onDic fun y => { y with grpStart := [(15, 0)] }).at (usec 1000), 15, 0,
     by decide +kernel, by decide +kernel, by decide +kernel⟩,
   ⟨State.reset, 15, by decide +kernel⟩,
   ⟨(State.reset.putBit DIC_CTRL_ENABLE true), 8, by decide +kernel, by decide +kernel, by decide +kernel⟩,
   ⟨State.reset, 8, by decide +kernel⟩,
   ⟨State.reset.onDic fun y => { y with runStacks := [(0, [1])] }, 0, .core 0, 0, 1, ([]), by decide +kernel,
     by decide +kernel, by decide +kernel, by decide +kernel⟩,
   ⟨State.reset, 0, .core 0, 0, ⟨by decide +kernel, by decide +kernel⟩, by decide +kernel, by decide +kernel,
     by decide +kernel, by decide +kernel⟩,
   ⟨State.reset, 4, .core 4, 2147483648, 0, by decide +kernel, by decide +kernel, by decide +kernel, by decide +kernel⟩,
   ⟨State.reset, 8, ((.core 1)), 0, by decide +kernel⟩,
   ⟨State.reset, 8, by decide +kernel⟩,
   ⟨(State.reset.onDic fun y => { y with lastMod := [(8, 0)] }).at (State.reset.modInterval 8), 8, 0, by decide +kernel,
     by decide +kernel⟩⟩

/-- The hypotheses of each clause of `Obligations.OwnershipLine` are met together. -/
theorem witness_OwnershipLine :
    (∃ (s : State) (h : PinLevel) (l : PinLevel), (s.sys.mode = .off ∨ lineClass h l < 2)) ∧
    (∃ (s : State) (h : PinLevel) (l : PinLevel) (c : Nat), s.sys.mode ≠ .off ∧ c = lineClass h l ∧ 2 ≤ c ∧ s.rd
      TW_STATUS_LINE < 2) ∧
    (∃ (s : State) (h : PinLevel) (l : PinLevel) (c : Nat), s.sys.mode ≠ .off ∧ c = lineClass h l ∧ 2 ≤ c ∧ 2 ≤ s.rd
      TW_STATUS_LINE) ∧
    (∃ (s : State) (_ : Bool), s.sys.mode = .off) ∧
    (∃ (s : State) (_ : Bool), s.sys.mode ≠ .off) ∧
    (∃ (s : State) (f : Nat), s.mayClaim f = false) ∧
    (∃ (s : State) (f : Nat), s.mayClaim f = true ∧ s.sys.mode = .boot) ∧
    (∃ (s : State) (f : Nat), s.mayClaim f = true ∧ s.sys.mode ≠ .boot ∧ s.sys.role = .standby ∧ s.bit TW_STATUS_IN_STEP =
      true) ∧
    (∃ (s : State) (f : Nat), s.mayClaim f = true ∧ s.sys.mode ≠ .boot ∧ (¬ (s.sys.role = .standby ∧ s.bit
      TW_STATUS_IN_STEP = true))) ∧
    (∃ (s : State) (t0 : Nat), s.Inv ∧ s.tw.guardEnd = some t0 ∧ t0 + 0 ≤ s.time ∧ s.tw.hand ≠ .released) ∧
    (∃ (s : State) (t0 : Nat), s.tw.guardEnd = some t0 ∧ t0 + 0 ≤ s.time ∧ s.tw.hand = .released) ∧
    (∃ (s : State), s.since s.tw.guardEnd 0 = false) ∧
    (∃ (s : State), s.bit TW_CTRL_ENABLE = true ∧ s.tw.hbSent = none) ∧
    (∃ (s : State) (t0 : Nat), s.bit TW_CTRL_ENABLE = true ∧ s.tw.hbSent = some t0 ∧ t0 + usec 250 ≤ s.time) ∧
    (∃ (s : State) (t0 : Nat), s.tw.hbSent = some t0 ∧ s.time < t0 + usec 250) ∧
    (∃ (s : State), s.bit TW_CTRL_ENABLE = false) ∧
    (∃ (s : State), s.bit TW_CTRL_ENABLE = true ∧ s.tw.lost = false ∧ s.tw.hbAt.getD s.sys.bootStart + msec 3 ≤ s.time) ∧
    (∃ (s : State), (s.bit TW_CTRL_ENABLE = false ∨ s.tw.lost = true ∨ s.time < s.tw.hbAt.getD s.sys.bootStart + msec 3)) :=
  ⟨⟨(State.reset.onSys fun y => { y with mode := .off }), .between, .between, by decide +kernel⟩,
   ⟨State.reset, .between, .high, 3, by decide +kernel, by decide +kernel, by decide +kernel, by decide +kernel⟩,
   ⟨State.reset.wr TW_STATUS_LINE 2, .high, .high, 2, by decide +kernel, by decide +kernel, by decide +kernel,
     by decide +kernel⟩,
   ⟨(State.reset.onSys fun y => { y with mode := .off }), true, by decide +kernel⟩,
   ⟨State.reset, true, by decide +kernel⟩,
   ⟨State.reset, 0, by decide +kernel⟩,
   ⟨State.reset.putBit TW_CTRL_CLAIM_EN true, 65535, by decide +kernel, by decide +kernel⟩,
   ⟨((State.reset.putBit TW_CTRL_CLAIM_EN true).putBit TW_STATUS_IN_STEP true).onSys fun y =>
     { y with mode := .table, role := .standby }, 65535, by decide +kernel, by decide +kernel, by decide +kernel,
     by decide +kernel⟩,
   ⟨(State.reset.putBit TW_CTRL_CLAIM_EN true).onSys fun y => { y with mode := .table, role := .standby }, 65535,
     by decide +kernel, by decide +kernel, by decide +kernel⟩,
   ⟨((State.reset.at (0 + 0)).onTw fun y => { y with guardEnd := some 0 }), 0, ⟨by decide +kernel, by decide +kernel⟩,
     by decide +kernel, by decide +kernel, by decide +kernel⟩,
   ⟨(((State.reset.at (0 + 0)).onTw fun y => { y with guardEnd := some 0 }).onTw fun y => { y with hand := .released }),
     0, by decide +kernel, by decide +kernel, by decide +kernel⟩,
   ⟨State.reset, by decide +kernel⟩,
   ⟨((State.reset.putBit TW_CTRL_ENABLE true).onTw fun y => { y with hbSent := none }), by decide +kernel,
     by decide +kernel⟩,
   ⟨(((State.reset.at (0 + usec 250)).putBit TW_CTRL_ENABLE true).onTw fun y => { y with hbSent := some 0 }), 0,
     by decide +kernel, by decide +kernel, by decide +kernel⟩,
   ⟨(State.reset.onTw fun y => { y with hbSent := some 0 }), 0, by decide +kernel, by decide +kernel⟩,
   ⟨State.reset, by decide +kernel⟩,
   ⟨(State.reset.putBit TW_CTRL_ENABLE true).at (msec 3), by decide +kernel, by decide +kernel, by decide +kernel⟩,
   ⟨State.reset, by decide +kernel⟩⟩

/-- The hypotheses of each clause of `Obligations.TwinLink` are met together. -/
theorem witness_TwinLink :
    (∃ (s : State) (_ : LinkFrame), s.bit TW_CTRL_ENABLE = false) ∧
    (∃ (s : State) (f : LinkFrame), s.bit TW_CTRL_ENABLE = true ∧ (f.crc ≠ linkCrc f ∨ 4096 < f.payload.length)) ∧
    (∃ (s : State) (f : LinkFrame), s.bit TW_CTRL_ENABLE = true ∧ f.crc = linkCrc f ∧ f.payload.length ≤ 4096 ∧ f.typ =
      12) ∧
    (∃ (s : State) (f : LinkFrame), s.bit TW_CTRL_ENABLE = true ∧ f.crc = linkCrc f ∧ f.payload.length ≤ 4096 ∧ f.typ =
      13) ∧
    (∃ (s : State) (f : LinkFrame), s.bit TW_CTRL_ENABLE = true ∧ f.crc = linkCrc f ∧ f.payload.length ≤ 4096 ∧ f.typ ≠ 12
      ∧ f.typ ≠ 13) ∧
    (∃ (s : State), s.tw.ackDue = true) ∧
    (∃ (s : State), s.tw.ackDue = false) ∧
    (∃ (s : State), s.mb.held = []) ∧
    (∃ (s : State) (l : Fin 4), s.bit TW_CTRL_ENABLE = true ∧ bitOf (s.rd TW_STATUS_LANES) l.val = true) ∧
    (∃ (s : State) (l : Fin 4), (s.bit TW_CTRL_ENABLE = false ∨ bitOf (s.rd TW_STATUS_LANES) l.val = false)) ∧
    (∃ (s : State) (_ : BitVec 4), s.bit TW_CTRL_ENABLE = true) ∧
    (∃ (s : State) (_ : BitVec 4), s.bit TW_CTRL_ENABLE = false) ∧
    (∃ (s : State), (s.isActive = false ∨ s.tw.resyncDue = false ∨ s.onBoundary = false ∨ s.sys.mode = .boot)) ∧
    (∃ (s : State), s.isActive = true ∧ s.tw.resyncDue = true ∧ s.onBoundary = true ∧ s.sys.mode ≠ .boot) ∧
    (∃ (s : State) (t0 : Nat), s.onBoundary = true ∧ s.isActive = true ∧ s.tw.resyncAt = some t0 ∧ t0 < s.time) ∧
    (∃ (s : State) (j : Nat), s.onBoundary = true ∧ s.isActive = false ∧ s.takes = true ∧ s.bit TW_STATUS_RESYNC = true ∧
      s.tw.resyncAt = some j) ∧
    (∃ (s : State), (s.onBoundary = false ∨ (if s.isActive then s.tw.resyncAt.all (fun t0 => decide (s.time ≤ t0)) else
      !(s.takes && s.bit TW_STATUS_RESYNC && s.tw.resyncAt.isSome)) = true)) :=
  ⟨⟨State.reset, (frameOf 0 0), by decide +kernel⟩,
   ⟨State.reset.putBit TW_CTRL_ENABLE true, (⟨0, 0, 0, 0, [], linkCrc ⟨0, 0, 0, 0, [], 0, []⟩ + 1, []⟩),
     by decide +kernel, by decide +kernel⟩,
   ⟨(State.reset.putBit TW_CTRL_ENABLE true), (frameOf 12 0), by decide +kernel, by decide +kernel, by decide +kernel,
     by decide +kernel⟩,
   ⟨(State.reset.putBit TW_CTRL_ENABLE true), (frameOf 13 0), by decide +kernel, by decide +kernel, by decide +kernel,
     by decide +kernel⟩,
   ⟨(State.reset.putBit TW_CTRL_ENABLE true), (frameOf 0 (2 ^ 31)), by decide +kernel, by decide +kernel,
     by decide +kernel, by decide +kernel, by decide +kernel⟩,
   ⟨(State.reset.onTw fun y => { y with ackDue := true }), by decide +kernel⟩,
   ⟨(State.reset.onTw fun y => { y with ackDue := false }), by decide +kernel⟩,
   ⟨(State.reset.onMb fun y => { y with held := [] }), by decide +kernel⟩,
   ⟨(State.reset.putBit TW_CTRL_ENABLE true).wr TW_STATUS_LANES 8, 3, by decide +kernel, by decide +kernel⟩,
   ⟨State.reset, 3, by decide +kernel⟩,
   ⟨(State.reset.putBit TW_CTRL_ENABLE true), 0, by decide +kernel⟩,
   ⟨State.reset, 0, by decide +kernel⟩,
   ⟨State.reset, by decide +kernel⟩,
   ⟨(inTable.onTw fun y => { y with resyncDue := true }).onSys fun y => { y with framesOn := true }, by decide +kernel,
     by decide +kernel, by decide +kernel, by decide +kernel⟩,
   ⟨((inTable.onTw fun y => { y with resyncAt := some 0 }).onSys fun y => { y with framesOn := true }).at
     inTable.frameCounts, 0, by decide +kernel, by decide +kernel, by decide +kernel, by decide +kernel⟩,
   ⟨((State.reset.putBit TW_STATUS_RESYNC true).onTw fun y => { y with resyncAt := some 0 }).onSys fun y =>
     { y with framesOn := true, role := .standby }, 0, by decide +kernel, by decide +kernel, by decide +kernel,
     by decide +kernel, by decide +kernel⟩,
   ⟨State.reset, by decide +kernel⟩⟩

/-- The hypotheses of each clause of `Obligations.LockstepAndHandover` are met together. -/
theorem witness_LockstepAndHandover :
    (∃ (s : State) (t0 : Nat) (k : Nat), s.sys.role = .standby ∧ s.bit TW_STATUS_IN_STEP = true ∧ s.rd TW_STATUS_LINE = 1
      ∧ s.sys.lastFrame = some t0 ∧ t0 + usec 50 ≤ s.time ∧ s.tw.endSeen = some k ∧ k < s.frame) ∧
    (∃ (s : State), (s.sys.role ≠ .standby ∨ s.bit TW_STATUS_IN_STEP = false ∨ s.rd TW_STATUS_LINE ≠ 1 ∨ s.since
      s.sys.lastFrame (usec 50) = false ∨ s.tw.endSeen.any (fun k => decide (k < s.frame)) = false)) ∧
    (∃ (s : State) (k : Fin 8), 2 ≤ k.val ∧ s.sys.mode ≠ .off) ∧
    (∃ (s : State) (k : Fin 8), (k.val < 2 ∨ s.sys.mode = .off)) ∧
    (∃ (s : State), s.sys.framesOn = true ∧ s.tw.watchdogAt + 4 * usec 50 ≤ s.time) ∧
    (∃ (s : State), (s.sys.framesOn = false ∨ s.time < s.tw.watchdogAt + 4 * usec 50)) ∧
    (∃ (s : State) (_ : List (BitVec 8)), s.sys.mode = .off) ∧
    (∃ (s : State) (p : List (BitVec 8)), s.sys.mode ≠ .off ∧ (p.length ≠ 8 ∨ fieldLE p 4 1 ≠ 1)) ∧
    (∃ (s : State) (p : List (BitVec 8)), s.sys.mode ≠ .off ∧ p.length = 8 ∧ fieldLE p 4 1 = 1 ∧ s.isActive = false) ∧
    (∃ (s : State) (p : List (BitVec 8)) (k : Ks), s.sys.mode ≠ .off ∧ p.length = 8 ∧ fieldLE p 4 1 = 1 ∧ s.isActive =
      true ∧ s.asked.seenTag (tagOf p) = none ∧ s.asked.handRefusal = some k) ∧
    (∃ (s : State) (p : List (BitVec 8)) (x : TagRec), s.sys.mode ≠ .off ∧ p.length = 8 ∧ fieldLE p 4 1 = 1 ∧ s.isActive =
      true ∧ s.asked.seenTag (tagOf p) = some x) ∧
    (∃ (s : State) (p : List (BitVec 8)), s.sys.mode ≠ .off ∧ p.length = 8 ∧ fieldLE p 4 1 = 1 ∧ s.isActive = true ∧
      s.asked.seenTag (tagOf p) = none ∧ s.asked.handRefusal = none) ∧
    (∃ (s : State), s.isActive = true ∧ s.tw.hand = .asked ∧ s.onBoundary = true) ∧
    (∃ (s : State), (s.isActive = false ∨ s.tw.hand ≠ .asked ∨ s.onBoundary = false)) ∧
    (∃ (s : State), s.isActive = true ∧ s.tw.hand = .ready ∧ s.onBoundary = true ∧ s.sys.lastFrame ≠ some s.time) ∧
    (∃ (s : State), (s.isActive = false ∨ s.tw.hand ≠ .ready ∨ s.onBoundary = false ∨ s.sys.lastFrame = some s.time)) ∧
    (∃ (s : State), (s.tw.hand ≠ .released ∨ (s.rd TW_STATUS_LINE ≠ 1 ∧ s.rd TW_PARTNER_ROLE ≠ 1))) ∧
    (∃ (s : State), s.tw.hand = .released ∧ (s.rd TW_STATUS_LINE = 1 ∨ s.rd TW_PARTNER_ROLE = 1)) ∧
    (∃ (s : State) (i : Initiator), bySupervisor i = true ∧ s.isActive = true) ∧
    (∃ (s : State) (i : Initiator), (bySupervisor i = false ∨ s.isActive = false)) ∧
    (∃ (_ : State) (i : Initiator), bySupervisor i = true) ∧
    (∃ (_ : State) (i : Initiator), bySupervisor i = false) :=
  ⟨⟨(((((((State.reset.at (0 + usec 50)).onSys fun y => { y with role := .standby }).putBit TW_STATUS_IN_STEP true).wr
     TW_STATUS_LINE 1).onSys fun y => { y with lastFrame := some 0 }).onTw fun y => { y with endSeen := some 0 }).wr64
     LE_FRAME_NUM_LO 1), 0, 0, by decide +kernel, by decide +kernel, by decide +kernel, by decide +kernel,
     by decide +kernel, by decide +kernel, by decide +kernel⟩,
   ⟨State.reset, by decide +kernel⟩,
   ⟨State.reset, 7, by decide +kernel, by decide +kernel⟩,
   ⟨State.reset, 1, by decide +kernel⟩,
   ⟨((State.reset.onSys fun y => { y with framesOn := true }).at (4 * usec 50)), by decide +kernel, by decide +kernel⟩,
   ⟨(State.reset.onSys fun y => { y with framesOn := false }), by decide +kernel⟩,
   ⟨(State.reset.onSys fun y => { y with mode := .off }), (req 8 []), by decide +kernel⟩,
   ⟨State.reset, ([]), by decide +kernel, by decide +kernel⟩,
   ⟨State.reset, (req 8 []), by decide +kernel, by decide +kernel, by decide +kernel, by decide +kernel⟩,
   ⟨inTable, (req 8 []), .stateConflict, by decide +kernel, by decide +kernel, by decide +kernel, by decide +kernel,
     by decide +kernel, by decide +kernel⟩,
   ⟨inTable.onMb fun y => { y with tags := [⟨7, 0, [], []⟩] }, (req 8 [(0, 7)]), (⟨7, 0, [], []⟩), by decide +kernel,
     by decide +kernel, by decide +kernel, by decide +kernel, by decide +kernel⟩,
   ⟨partnered, (req 8 []), by decide +kernel, by decide +kernel, by decide +kernel, by decide +kernel, by decide +kernel,
     by decide +kernel⟩,
   ⟨(((State.reset.onSys fun y => { y with role := .active }).onTw fun y => { y with hand := .asked }).onSys fun y =>
     { y with framesOn := true }), by decide +kernel, by decide +kernel, by decide +kernel⟩,
   ⟨State.reset, by decide +kernel⟩,
   ⟨(((State.reset.onSys fun y => { y with role := .active }).onTw fun y => { y with hand := .ready }).onSys fun y =>
     { y with framesOn := true }), by decide +kernel, by decide +kernel, by decide +kernel, by decide +kernel⟩,
   ⟨State.reset, by decide +kernel⟩,
   ⟨State.reset, by decide +kernel⟩,
   ⟨((State.reset.onTw fun y => { y with hand := .released }).wr TW_STATUS_LINE 1), by decide +kernel, by decide +kernel⟩,
   ⟨(State.reset.onSys fun y => { y with role := .active }), ((.core 1)), by decide +kernel, by decide +kernel⟩,
   ⟨State.reset, ((.core 1)), by decide +kernel⟩,
   ⟨State.reset, ((.core 1)), by decide +kernel⟩,
   ⟨State.reset, .mgmt, by decide +kernel⟩⟩

/-- The hypotheses of each clause of `Obligations.MemoryAccesses` are met together. -/
theorem witness_MemoryAccesses :
    (∃ (s : State) (a : Nat) (_ : BurstErr), (s.hdmUp = false ∨ 0x7800000000 ≤ a)) ∧
    (∃ (s : State) (a : Nat) (_ : BurstErr), s.hdmUp = true ∧ a < 0x7800000000 ∧ s.sys.mode = .survival) ∧
    (∃ (s : State) (a : Nat) (e : BurstErr) (l : KwErr), s.hdmUp = true ∧ a < 0x7800000000 ∧ s.sys.mode ≠ .survival ∧ l =
      kwBurst e) ∧
    (∃ (s : State) (a : Nat), s.hdmUp = true ∧ a < 0x7800000000 ∧ s.sys.mode ≠ .survival ∧ s.ca.poison.contains (a / 64) =
      false) ∧
    (∃ (s : State) (a : Nat) (l : List (BitVec 8)), (s.hdmUp = false ∨ 0x7800000000 < a + l.length ∨ (0x7000000000 ≤ a ∧
      s.sys.mode = .survival))) ∧
    (∃ (s : State) (a : Nat) (l : List (BitVec 8)), s.hdmUp = true ∧ a + l.length ≤ 0x7800000000 ∧ a < 0x7000000000) ∧
    (∃ (s : State) (a : Nat) (l : List (BitVec 8)), s.hdmUp = true ∧ a + l.length ≤ 0x7800000000 ∧ 0x7000000000 ≤ a ∧
      s.sys.mode ≠ .survival ∧ s.lockedSlots.contains ((a - 0x7000000000) / 0x80000000) = true) :=
  ⟨⟨State.reset, 0x7800000000, ([]), by decide +kernel⟩,
   ⟨(State.reset.onSys fun y => { y with mode := .survival }).onMb fun y =>
     { y with linkUp := true, hdmCommitted := true, memoryActive := true }, 0x77FFFFFFFF, ([]), by decide +kernel,
     by decide +kernel, by decide +kernel⟩,
   ⟨State.reset.onMb fun y => { y with linkUp := true, memoryActive := true }, 0x77FFFFFFFF, ([1]), (kwBurst ([1])),
     by decide +kernel, by decide +kernel, by decide +kernel, by decide +kernel⟩,
   ⟨State.reset.onMb fun y => { y with linkUp := true, memoryActive := true }, 0x77FFFFFFFF, by decide +kernel,
     by decide +kernel, by decide +kernel, by decide +kernel⟩,
   ⟨State.reset, 0, ([]), by decide +kernel⟩,
   ⟨State.reset.onMb fun y => { y with linkUp := true, memoryActive := true }, 0x6FFFFFFFC0, (zeros 64),
     by decide +kernel, by decide +kernel, by decide +kernel⟩,
   ⟨(State.reset.onMb fun y => { y with linkUp := true, memoryActive := true }).onTr fun y =>
     { y with image := some (State.reset.readImage 0 0 0) }, 0x7000000000, (zeros 64), by decide +kernel,
     by decide +kernel, by decide +kernel, by decide +kernel, by decide +kernel⟩⟩

/-- The hypotheses of each clause of `Obligations.ScrubAndArchives` are met together. -/
theorem witness_ScrubAndArchives :
    (∃ (s : State) (_ : Nat) (_ : List (Nat × BurstErr)), (s.bit CA_CTRL_SCRUB_EN = false ∨ s.ddrUp = false ∨
      s.ca.selfRefresh = true ∨ s.sys.mode = .survival)) ∧
    (∃ (s : State) (n : Nat) (_ : List (Nat × BurstErr)), s.bit CA_CTRL_SCRUB_EN = true ∧ s.ddrUp = true ∧
      s.ca.selfRefresh = false ∧ s.sys.mode ≠ .survival ∧ (n = 0 ∨ s.scrubDue ≤ s.rd CA_SCRUB_POS)) ∧
    (∃ (s : State) (n : Nat) (m : Nat), s.Inv ∧ s.bit CA_CTRL_SCRUB_EN = true ∧ s.ddrUp = true ∧ s.ca.selfRefresh = false
      ∧ s.sys.mode ≠ .survival ∧ m = min n (s.scrubDue - s.rd CA_SCRUB_POS) ∧ 0 < m ∧ s.rd CA_SCRUB_POS + m < 2 ^ 27) ∧
    (∃ (s : State) (n : Nat) (q : Nat), s.Inv ∧ s.bit CA_CTRL_SCRUB_EN = true ∧ s.ddrUp = true ∧ s.ca.selfRefresh = false
      ∧ s.sys.mode ≠ .survival ∧ q = s.ca.scrubAt.getD s.time ∧ n = s.scrubDue - s.rd CA_SCRUB_POS ∧ 0 < n ∧ s.rd
      CA_SCRUB_POS + n = 2 ^ 27) ∧
    (∃ (s : State) (n : Nat) (m : Nat) (_ : List (Nat × BurstErr)), s.bit CA_CTRL_SCRUB_EN = true ∧ s.ddrUp = true ∧
      s.ca.selfRefresh = false ∧ s.sys.mode ≠ .survival ∧ m = min n (s.scrubDue - s.rd CA_SCRUB_POS) ∧ 0 < m) ∧
    (∃ (s : State), (s.archives = false ∨ s.ca.ended = [])) ∧
    (∃ (s : State) (p : CaPeriod) (r : List CaPeriod), s.Inv ∧ s.archives = true ∧ s.ca.ended = p :: r ∧ s.bit
      CA_CTRL_PLANT_EN = false) ∧
    (∃ (s : State) (p : CaPeriod) (r : List CaPeriod), s.archives = true ∧ s.ca.ended = p :: r ∧ s.bit CA_CTRL_PLANT_EN =
      true) ∧
    (∃ (s : State), (s.archives = false ∨ s.rackLimit ≤ s.ca.second)) ∧
    (∃ (s : State) (n : Nat), s.archives = true ∧ n = s.rackLimit ∧ s.ca.second < n) ∧
    (∃ (s : State) (a : Nat), s.Inv ∧ s.archives = true ∧ s.rackLimit = s.ca.second + 1 ∧ s.bit CA_CTRL_PLANT_EN = false ∧
      a = s.ca.second % 1223338) :=
  ⟨⟨State.reset.putBit CA_CTRL_SCRUB_EN false, 0, ([]), by decide +kernel⟩,
   ⟨scrubbing 0, 1, ([]), by decide +kernel, by decide +kernel, by decide +kernel, by decide +kernel, by decide +kernel⟩,
   ⟨scrubbing 3, 1, 1, ⟨by decide +kernel, by decide +kernel⟩, by decide +kernel, by decide +kernel, by decide +kernel,
     by decide +kernel, by decide +kernel, by decide +kernel, by decide +kernel⟩,
   ⟨(scrubbing (2 ^ 27)).wr CA_SCRUB_POS (2 ^ 27 - 1), 1, 0, ⟨by decide +kernel, by decide +kernel⟩, by decide +kernel,
     by decide +kernel, by decide +kernel, by decide +kernel, by decide +kernel, by decide +kernel, by decide +kernel,
     by decide +kernel⟩,
   ⟨scrubbing 3, 5, 2, ([(1, [1])]), by decide +kernel, by decide +kernel, by decide +kernel, by decide +kernel,
     by decide +kernel, by decide +kernel⟩,
   ⟨State.reset, by decide +kernel⟩,
   ⟨(cellarOn.onCa fun y => { y with ended := [⟨0, 0, 0, [], [], false⟩] }).putBit CA_CTRL_PLANT_EN false, (⟨0, 0, 0, [],
     [], false⟩), ([]), ⟨by decide +kernel, by decide +kernel⟩, by decide +kernel, by decide +kernel,
     by decide +kernel⟩,
   ⟨(cellarOn.onCa fun y => { y with ended := [⟨0, 0, 0, [], [], false⟩] }).putBit CA_CTRL_PLANT_EN true, (⟨0, 0, 0, [],
     [], false⟩), ([]), by decide +kernel, by decide +kernel, by decide +kernel⟩,
   ⟨State.reset, by decide +kernel⟩,
   ⟨cellarOn.onSys fun y => { y with lastFrame := some (secs 3) }, (((State.reset.onSys fun y =>
     { y with lastFrame := some (secs 3) })).rackLimit), by decide +kernel, by decide +kernel, by decide +kernel⟩,
   ⟨(cellarOn.onSys fun y => { y with lastFrame := some (msec 1500) }).putBit CA_CTRL_PLANT_EN false, 0,
     ⟨by decide +kernel, by decide +kernel⟩, by decide +kernel, by decide +kernel, by decide +kernel,
     by decide +kernel⟩⟩

/-- The hypotheses of each clause of `Obligations.CxlInterface` are met together. -/
theorem witness_CxlInterface :
    (∃ (s : State) (_ : Fin 3) (_ : Fin 3) (_ : CxlHost), s.sys.mode = .off) ∧
    (∃ (s : State) (_ : CxlHost), s.sys.mode ≠ .off) ∧
    (∃ (s : State) (r : Fin 3) (w : Fin 3) (_ : CxlHost), s.sys.mode ≠ .off ∧ (r.val ≠ 2 ∨ w.val ≠ 2)) ∧
    (∃ (s : State) (_ : Bool), s.sys.mode = .off) ∧
    (∃ (s : State), s.sys.mode ≠ .off) ∧
    (∃ (s : State), s.sys.mode ≠ .off) ∧
    (∃ (s : State), s.Inv ∧ s.bit CK_STATUS_PTM_LOCKED = true) ∧
    (∃ (s : State) (o : Int) (t0 : Nat), s.Inv ∧ -1000 ≤ o ∧ o ≤ 1000 ∧ s.mb.ptmGoodSince = some t0 ∧ t0 + secs 1 ≤
      s.time) ∧
    (∃ (s : State) (_ : Nat) (p : Bool), (s.bit CK_STATUS_TIME_VALID = true ∨ s.timeSource p = false)) ∧
    (∃ (s : State) (_ : Nat) (p : Bool), s.Inv ∧ s.bit CK_STATUS_TIME_VALID = false ∧ s.timeSource p = true) ∧
    (∃ (s : State), s.mb.stamp = none) ∧
    (∃ (s : State) (v : Nat) (t0 : Nat), s.mb.stamp = some (v, t0)) :=
  ⟨⟨(State.reset.onSys fun y => { y with mode := .off }), 2, 2, (⟨none, []⟩), by decide +kernel⟩,
   ⟨State.reset, (⟨none, []⟩), by decide +kernel⟩,
   ⟨State.reset, 0, 2, (⟨none, []⟩), by decide +kernel, by decide +kernel⟩,
   ⟨(State.reset.onSys fun y => { y with mode := .off }), true, by decide +kernel⟩,
   ⟨State.reset, by decide +kernel⟩,
   ⟨State.reset, by decide +kernel⟩,
   ⟨(State.reset.putBit CK_STATUS_PTM_LOCKED true), ⟨by decide +kernel, by decide +kernel⟩, by decide +kernel⟩,
   ⟨((State.reset.at (0 + secs 1)).onMb fun y => { y with ptmGoodSince := some 0 }), 0, 0, ⟨by decide +kernel,
     by decide +kernel⟩, by decide +kernel, by decide +kernel, by decide +kernel, by decide +kernel⟩,
   ⟨(State.reset.putBit CK_STATUS_TIME_VALID true), 0, false, by decide +kernel⟩,
   ⟨State.reset.putBit CK_STATUS_PTM_LOCKED true, 0, false, ⟨by decide +kernel, by decide +kernel⟩, by decide +kernel,
     by decide +kernel⟩,
   ⟨(State.reset.onMb fun y => { y with stamp := none }), by decide +kernel⟩,
   ⟨(State.reset.onMb fun y => { y with stamp := some (0, 0) }), 0, 0, by decide +kernel⟩⟩

/-- The hypotheses of each clause of `Obligations.PacketTimeoutRule` are met together. -/
theorem witness_PacketTimeoutRule :
    (∃ (s : State) (c : Fin 4096) (b : Bool) (t0 : Nat), s.Inv ∧ (s.asm (2 * c + b2n b)).refused = none ∧ (s.asm (2 * c +
      b2n b)).since = some t0 ∧ t0 + usec (clampNat 10 10000 (s.rd VQ_PKT_TIMEOUT)) ≤ s.time) ∧
    (∃ (s : State) (c : Fin 4096) (b : Bool), (s.asm (2 * c + b2n b)).refused = none ∧ (s.asm (2 * c + b2n b)).since.all
      (fun t0 => decide (s.time < t0 + usec (clampNat 10 10000 (s.rd VQ_PKT_TIMEOUT)))) = true) ∧
    (∃ (s : State) (q : Fin 32) (_ : Bool) (t0 : Nat), s.Inv ∧ (s.sq q).since = some t0 ∧ t0 + usec (clampNat 10 10000
      (s.rd VQ_PKT_TIMEOUT)) ≤ s.time) ∧
    (∃ (s : State) (q : Fin 32) (_ : Bool), (s.sq q).since.all (fun t0 => decide (s.time < t0 + usec (clampNat 10 10000
      (s.rd VQ_PKT_TIMEOUT)))) = true) :=
  ⟨⟨(State.reset.setAsm 8191 { since := some 0 }).at (usec 100), 4095, true, 0, ⟨by decide +kernel, by decide +kernel⟩,
     by decide +kernel, by decide +kernel, by decide +kernel⟩,
   ⟨(State.reset.setAsm (2 * 4095 + b2n true) { refused := none }), 4095, true, by decide +kernel, by decide +kernel⟩,
   ⟨(State.reset.setSq 31 { since := some 0 }).at (usec 100), 31, true, 0, ⟨by decide +kernel, by decide +kernel⟩,
     by decide +kernel, by decide +kernel⟩,
   ⟨State.reset, 31, true, by decide +kernel⟩⟩

/-- The hypotheses of each clause of `Obligations.BankSwapRule` are met together. -/
theorem witness_BankSwapRule :
    (∃ (s : State) (q : Fin 32), (s.sq q).read = [] ∧ (s.sq q).fill ≠ []) ∧
    (∃ (s : State) (q : Fin 32), (s.sq q).read ≠ []) ∧
    (∃ (s : State) (q : Fin 32), (s.sq q).read = [] ∧ (s.sq q).fill = []) ∧
    (∃ (s : State) (q : Nat) (stream : Nat) (stamp : Nat) (p : List Nat), s.bit VQ_CTRL_SQ_EN = true ∧ s.bit
      (VQ_SQ_CTRL_ENABLE q) = true ∧ (toLines stream none 3 true (((stream * 2 ^ 24 + (p.length + 1) * 2 ^ 16 + (s.sq
      q).seq % 65536) :: stamp % 2 ^ 32 :: p).flatMap (leBytes 4))).length ≤ (s.sq q).credits ∧ (s.sq q).flushing =
      false ∧ p ≠ []) :=
  ⟨⟨State.reset.setSq 31 { fill := [⟨0, [], none⟩] }, 31, by decide +kernel, by decide +kernel⟩,
   ⟨State.reset.setSq 31 { read := [⟨0, [], none⟩] }, 31, by decide +kernel⟩,
   ⟨(State.reset.setSq 31 { read := [], fill := [] }), 31, by decide +kernel, by decide +kernel⟩,
   ⟨(((State.reset.putBit VQ_CTRL_SQ_EN true).putBit (VQ_SQ_CTRL_ENABLE 31) true).setSq 31 { flushing := false }), 31, 0,
     0, ([1]), by decide +kernel, by decide +kernel, by decide +kernel, by decide +kernel, by decide +kernel⟩⟩

/-- The hypotheses of each clause of `Obligations.RegisterAccess` are met together. -/
theorem witness_RegisterAccess :
    (∃ (s : State) (a : BitVec 32), s.dicWord a.toNat = none ∧ s.ownRead a.toNat = none ∧ findRow a.toNat = none) ∧
    (∃ (s : State) (a : BitVec 32) (w : Nat), s.dicWord a.toNat = some w) ∧
    (∃ (_ : State) (k : Nat) (w : Nat), k < 9 ∧ k ≠ 1 ∧ w < 64) ∧
    (∃ (_ : State) (a : Nat), 0x40000000 ≤ a ∧ a < 0x40003000 ∧ a % 4 = 0 ∧ findRow a = none) ∧
    (∃ (s : State) (u : State) (a : BitVec 32), s.dicWord a.toNat = none ∧ s.ownRead a.toNat = some u) ∧
    (∃ (_ : State) (a : Nat), popWord a = true) ∧
    (∃ (_ : State) (n : Nat) (m : Nat), n < 4 ∧ m < 64) ∧
    (∃ (_ : State) (n : Nat) (m : Nat), n < 4 ∧ m < 64) ∧
    (∃ (s : State) (a : BitVec 32) (r : RegRow) (n : Nat), s.dicWord a.toNat = none ∧ s.ownRead a.toNat = none ∧ findRow
      a.toNat = some (r, n)) ∧
    (∃ (s : State) (a : BitVec 32) (r : RegRow) (n : Nat), s.Inv ∧ s.sys.mode ≠ .off ∧ s.dicWord a.toNat = none ∧
      s.ownRead a.toNat = none ∧ findRow a.toNat = some (r, n) ∧ s.beforeRead a.toNat = s) ∧
    (∃ (_ : State) (_ : Initiator) (a : BitVec 32) (_ : BitVec 32), findRow a.toNat = none) ∧
    (∃ (s : State) (i : Initiator) (a : BitVec 32) (_ : BitVec 32) (r : RegRow) (n : Nat), findRow a.toNat = some (r, n) ∧
      (dicReserved a.toNat = true ∨ mayWrite i a.toNat = false ∨ ownWrite a.toNat = true ∨ s.heldWord a.toNat = true)) ∧
    (∃ (s : State) (i : Initiator) (a : BitVec 32) (_ : BitVec 32) (r : RegRow) (n : Nat), s.Inv ∧ findRow a.toNat = some
      (r, n) ∧ dicReserved a.toNat = false ∧ mayWrite i a.toNat = true ∧ ownWrite a.toNat = false ∧ s.heldWord a.toNat
      = false) ∧
    (∃ (_ : State) (_ : Nat) (_ : Nat) (_ : Nat) (f : RegField), (f.acc = .ro ∨ f.acc = .rc ∨ f.acc = .wo ∨ f.acc = .w1s)) ∧
    (∃ (s : State) (a : Nat) (v : Nat) (_ : Nat) (f : RegField), f.acc = .rw ∧ s.heldField a f v = false) ∧
    (∃ (s : State) (_ : Nat) (_ : Nat) (_ : Nat) (f : RegField), f.acc = .rwl ∧ s.bit TM_CTRL_LOCK = true) ∧
    (∃ (s : State) (_ : Nat) (_ : Nat) (_ : Nat) (f : RegField), f.acc = .rwl ∧ s.bit TM_CTRL_LOCK = false) ∧
    (∃ (_ : State) (_ : Nat) (_ : Nat) (_ : Nat) (f : RegField), f.acc = .w1c) ∧
    (∃ (s : State), s.Inv ∧ s.sys.mode ≠ .off ∧ s.time < 2 ^ 64) :=
  ⟨⟨State.reset, 0xFFFFFFFF, by decide +kernel, by decide +kernel, by decide +kernel⟩,
   ⟨State.reset, 0x40003010, 0, by decide +kernel⟩,
   ⟨State.reset, 0, 0, by decide +kernel, by decide +kernel, by decide +kernel⟩,
   ⟨State.reset, 0x4000000C, by decide +kernel, by decide +kernel, by decide +kernel, by decide +kernel⟩,
   ⟨State.reset, (State.reset), 0x42002018, by decide +kernel, rfl⟩,
   ⟨State.reset, 0x42002018, by decide +kernel⟩,
   ⟨State.reset, 0, 0, by decide +kernel, by decide +kernel⟩,
   ⟨State.reset, 0, 0, by decide +kernel, by decide +kernel⟩,
   ⟨State.reset, (BitVec.ofNat 32 CK_TIME_LO.addr), (((findRow CK_TIME_LO.addr).get (by decide +kernel)).1), (((findRow
     CK_TIME_LO.addr).get (by decide +kernel)).2), by decide +kernel, by decide +kernel, by decide +kernel⟩,
   ⟨State.reset, 0x41000000, (((findRow 0x41000000).get (by decide +kernel)).1), (((findRow 0x41000000).get
     (by decide +kernel)).2), ⟨by decide +kernel, by decide +kernel⟩, by decide +kernel, by decide +kernel,
     by decide +kernel, by decide +kernel, by decide +kernel⟩,
   ⟨State.reset, ((.core 1)), 0xFFFFFFFF, 0, by decide +kernel⟩,
   ⟨State.reset, .mgmt, (BitVec.ofNat 32 TW_CTRL.addr), 0, (((findRow TW_CTRL.addr).get (by decide +kernel)).1),
     (((findRow TW_CTRL.addr).get (by decide +kernel)).2), by decide +kernel, by decide +kernel⟩,
   ⟨State.reset, ((.core 1)), 0x41000000, 0, (((findRow 0x41000000).get (by decide +kernel)).1), (((findRow
     0x41000000).get (by decide +kernel)).2), ⟨by decide +kernel, by decide +kernel⟩, by decide +kernel,
     by decide +kernel, by decide +kernel, by decide +kernel, by decide +kernel⟩,
   ⟨State.reset, 0, 0, 0, (⟨31, 0, .w1s, 0⟩), by decide +kernel⟩,
   ⟨State.reset, 0, 0, 0, (⟨31, 0, .rw, 0⟩), by decide +kernel, by decide +kernel⟩,
   ⟨(State.reset.putBit TM_CTRL_LOCK true), 0, 0, 0, (⟨31, 0, .rwl, 0⟩), by decide +kernel, by decide +kernel⟩,
   ⟨State.reset, 0, 0, 0, (⟨31, 0, .rwl, 0⟩), by decide +kernel, by decide +kernel⟩,
   ⟨State.reset, 0, 0, 0, (⟨31, 0, .w1c, 0⟩), by decide +kernel⟩,
   ⟨State.reset, ⟨by decide +kernel, by decide +kernel⟩, by decide +kernel, by decide +kernel⟩⟩

/-- The hypotheses of each clause of `Obligations.TripMatrix` are met together. -/
theorem witness_TripMatrix :
    (∃ (s : State) (r : Fin 128), s.rowAsserted r = false) ∧
    (∃ (s : State) (r : Fin 128), s.tmLatched r = true) ∧
    (∃ (s : State) (r : Fin 128), s.rowAsserted r = true ∧ s.tmLatched r = false) ∧
    (∃ (s : State) (_ : Fin 128), s.Inv) ∧
    (∃ (s : State), s.bit TM_CTRL_LOCK = true) ∧
    (∃ (s : State), s.Inv ∧ s.bit TM_CTRL_LOCK = false) ∧
    (∃ (s : State) (r : Nat), s.tripInput (s.rd (TM_ROW_INPUT r)) = true) ∧
    (∃ (s : State) (r : Nat), s.Inv ∧ r < 128 ∧ s.tmLatched r = true ∧ s.tripInput (s.rd (TM_ROW_INPUT r)) = false) :=
  ⟨⟨State.reset, 127, by decide +kernel⟩,
   ⟨State.reset.wr (TM_LATCH 3) (2 ^ 31), 127, by decide +kernel⟩,
   ⟨(((State.reset.putBit TM_CTRL_LOCK true).putBit TM_CTRL_ENABLE true).putBit (TM_ROW_EN 127) true).wr (TM_IN 0) (2 ^
     32 - 1), 127, by decide +kernel, by decide +kernel⟩,
   ⟨State.reset, 127, ⟨by decide +kernel, by decide +kernel⟩⟩,
   ⟨(State.reset.putBit TM_CTRL_LOCK true), by decide +kernel⟩,
   ⟨State.reset, ⟨by decide +kernel, by decide +kernel⟩, by decide +kernel⟩,
   ⟨State.reset.wr (TM_IN 0) (2 ^ 32 - 1), 127, by decide +kernel⟩,
   ⟨State.reset.wr (TM_LATCH 3) (2 ^ 31), 127, ⟨by decide +kernel, by decide +kernel⟩, by decide +kernel,
     by decide +kernel, by decide +kernel⟩⟩

/-- The hypotheses of each clause of `Obligations.ModbusServer` are met together. -/
theorem witness_ModbusServer :
    (∃ (s : State) (k : Nat), s.mg.conns.length < 4 ∧ s.mbOpen k = false) ∧
    (∃ (s : State) (k : Nat), (4 ≤ s.mg.conns.length ∨ s.mbOpen k = true)) ∧
    (∃ (s : State) (k : Nat) (_ : BitVec 16) (_ : BitVec 16), s.mbOpen k = false) ∧
    (∃ (s : State) (k : Nat) (_ : BitVec 16) (n : BitVec 16), s.mbOpen k = true ∧ (n.toNat = 0 ∨ 125 < n.toNat)) ∧
    (∃ (s : State) (k : Nat) (a : BitVec 16) (n : BitVec 16), s.mbOpen k = true ∧ 1 ≤ n.toNat ∧ n.toNat ≤ 125 ∧ 7 <
      a.toNat + n.toNat) ∧
    (∃ (s : State) (k : Nat) (a : BitVec 16) (n : BitVec 16), s.mbOpen k = true ∧ 1 ≤ n.toNat ∧ a.toNat + n.toNat ≤ 7) ∧
    (∃ (s : State) (k : Nat) (_ : BitVec 16) (_ : BitVec 16), s.mbOpen k = false) ∧
    (∃ (s : State) (k : Nat) (_ : BitVec 16) (n : BitVec 16), s.mbOpen k = true ∧ (n.toNat = 0 ∨ 125 < n.toNat)) ∧
    (∃ (s : State) (k : Nat) (a : BitVec 16) (n : BitVec 16), s.mbOpen k = true ∧ 1 ≤ n.toNat ∧ n.toNat ≤ 125 ∧ a.toNat +
      n.toNat ≤ 92) ∧
    (∃ (s : State) (k : Nat) (a : BitVec 16) (n : BitVec 16), s.mbOpen k = true ∧ 1 ≤ n.toNat ∧ n.toNat ≤ 125 ∧ 92 <
      a.toNat + n.toNat) ∧
    (∃ (s : State) (k : Nat) (_ : BitVec 16) (_ : BitVec 16), s.mbOpen k = false) ∧
    (∃ (s : State) (k : Nat) (_ : BitVec 16) (_ : BitVec 16), s.mbOpen k = true ∧ (s.isActive = false ∨ s.mg.grantEnd =
      none)) ∧
    (∃ (s : State) (k : Nat) (a : BitVec 16) (_ : BitVec 16), s.mbOpen k = true ∧ s.isActive = true ∧ s.mg.grantEnd.isSome
      = true ∧ 7 ≤ a.toNat) ∧
    (∃ (s : State) (k : Nat) (a : BitVec 16) (_ : BitVec 16), s.mbOpen k = true ∧ s.isActive = true ∧ s.mg.grantEnd.isSome
      = true ∧ (a.toNat = 4 ∨ a.toNat = 5)) ∧
    (∃ (s : State) (k : Nat) (a : BitVec 16) (_ : BitVec 16), s.mbOpen k = true ∧ s.isActive = true ∧ s.mg.grantEnd.isSome
      = true ∧ a.toNat < 7 ∧ a.toNat ≠ 4 ∧ a.toNat ≠ 5) ∧
    (∃ (s : State) (k : Nat) (_ : BitVec 16) (_ : List (BitVec 16)), s.mbOpen k = false) ∧
    (∃ (s : State) (k : Nat) (_ : BitVec 16) (_ : List (BitVec 16)), s.mbOpen k = true ∧ (s.isActive = false ∨
      s.mg.grantEnd = none)) ∧
    (∃ (s : State) (k : Nat) (_ : BitVec 16) (l : List (BitVec 16)), s.mbOpen k = true ∧ s.isActive = true ∧
      s.mg.grantEnd.isSome = true ∧ (l = [] ∨ 123 < l.length)) ∧
    (∃ (s : State) (k : Nat) (a : BitVec 16) (l : List (BitVec 16)), s.mbOpen k = true ∧ s.isActive = true ∧
      s.mg.grantEnd.isSome = true ∧ l ≠ [] ∧ l.length ≤ 123 ∧ 7 < a.toNat + l.length) ∧
    (∃ (s : State) (k : Nat) (a : BitVec 16) (l : List (BitVec 16)), s.mbOpen k = true ∧ s.isActive = true ∧
      s.mg.grantEnd.isSome = true ∧ l ≠ [] ∧ a.toNat + l.length ≤ 7 ∧ ((a.toNat ≤ 4 ∧ a.toNat + l.length = 5) ∨
      a.toNat = 5)) ∧
    (∃ (s : State) (k : Nat) (a : BitVec 16) (l : List (BitVec 16)), s.mbOpen k = true ∧ s.isActive = true ∧
      s.mg.grantEnd.isSome = true ∧ l ≠ [] ∧ a.toNat + l.length ≤ 7 ∧ ((a.toNat + l.length ≤ 4 ∨ 6 ≤ a.toNat ∨
      (a.toNat ≤ 4 ∧ 6 ≤ a.toNat + l.length)))) ∧
    (∃ (s : State) (k : Nat), s.mbOpen k = false) ∧
    (∃ (s : State) (k : Nat), s.mbOpen k = true ∧ (s.isActive = false ∨ s.mg.grantEnd = none)) ∧
    (∃ (s : State) (k : Nat), s.mbOpen k = true ∧ s.isActive = true ∧ s.mg.grantEnd.isSome = true) ∧
    (∃ (s : State) (k : Nat), s.mbOpen k = true) ∧
    (∃ (s : State) (k : Nat), s.mbOpen k = false) :=
  ⟨⟨State.reset, 0, by decide +kernel, by decide +kernel⟩,
   ⟨State.reset.onMg fun y => { y with conns := [⟨1, 0⟩, ⟨2, 0⟩, ⟨3, 0⟩, ⟨4, 0⟩] }, 0, by decide +kernel⟩,
   ⟨State.reset, 0, 0, 0, by decide +kernel⟩,
   ⟨State.reset.onMg fun y => { y with conns := [⟨0, 0⟩] }, 0, 0, 126, by decide +kernel, by decide +kernel⟩,
   ⟨State.reset.onMg fun y => { y with conns := [⟨0, 0⟩] }, 0, 7, 1, by decide +kernel, by decide +kernel,
     by decide +kernel, by decide +kernel⟩,
   ⟨State.reset.onMg fun y => { y with conns := [⟨0, 0⟩] }, 0, 0, 7, by decide +kernel, by decide +kernel,
     by decide +kernel⟩,
   ⟨State.reset, 0, 0, 0, by decide +kernel⟩,
   ⟨State.reset.onMg fun y => { y with conns := [⟨0, 0⟩] }, 0, 0, 126, by decide +kernel, by decide +kernel⟩,
   ⟨State.reset.onMg fun y => { y with conns := [⟨0, 0⟩] }, 0, 0, 92, by decide +kernel, by decide +kernel,
     by decide +kernel, by decide +kernel⟩,
   ⟨State.reset.onMg fun y => { y with conns := [⟨0, 0⟩] }, 0, 92, 1, by decide +kernel, by decide +kernel,
     by decide +kernel, by decide +kernel⟩,
   ⟨State.reset, 0, 0, 0, by decide +kernel⟩,
   ⟨State.reset.onMg fun y => { y with conns := [⟨0, 0⟩] }, 0, 0, 0, by decide +kernel, by decide +kernel⟩,
   ⟨inTable.onMg fun y => { y with conns := [⟨0, 0⟩], grantEnd := some 0 }, 0, 7, 0, by decide +kernel,
     by decide +kernel, by decide +kernel, by decide +kernel⟩,
   ⟨inTable.onMg fun y => { y with conns := [⟨0, 0⟩], grantEnd := some 0 }, 0, 5, 0, by decide +kernel,
     by decide +kernel, by decide +kernel, by decide +kernel⟩,
   ⟨inTable.onMg fun y => { y with conns := [⟨0, 0⟩], grantEnd := some 0 }, 0, 6, 0, by decide +kernel,
     by decide +kernel, by decide +kernel, by decide +kernel, by decide +kernel, by decide +kernel⟩,
   ⟨State.reset, 0, 0, ([]), by decide +kernel⟩,
   ⟨State.reset.onMg fun y => { y with conns := [⟨0, 0⟩] }, 0, 0, ([]), by decide +kernel, by decide +kernel⟩,
   ⟨inTable.onMg fun y => { y with conns := [⟨0, 0⟩], grantEnd := some 0 }, 0, 0, ([]), by decide +kernel,
     by decide +kernel, by decide +kernel, by decide +kernel⟩,
   ⟨inTable.onMg fun y => { y with conns := [⟨0, 0⟩], grantEnd := some 0 }, 0, 7, ([0]), by decide +kernel,
     by decide +kernel, by decide +kernel, by decide +kernel, by decide +kernel, by decide +kernel⟩,
   ⟨inTable.onMg fun y => { y with conns := [⟨0, 0⟩], grantEnd := some 0 }, 0, 5, ([0, 0]), by decide +kernel,
     by decide +kernel, by decide +kernel, by decide +kernel, by decide +kernel, by decide +kernel⟩,
   ⟨inTable.onMg fun y => { y with conns := [⟨0, 0⟩], grantEnd := some 0 }, 0, 4, ([0, 0, 0]), by decide +kernel,
     by decide +kernel, by decide +kernel, by decide +kernel, by decide +kernel, by decide +kernel⟩,
   ⟨State.reset, 0, by decide +kernel⟩,
   ⟨State.reset.onMg fun y => { y with conns := [⟨0, 0⟩] }, 0, by decide +kernel, by decide +kernel⟩,
   ⟨inTable.onMg fun y => { y with conns := [⟨0, 0⟩], grantEnd := some 0 }, 0, by decide +kernel, by decide +kernel,
     by decide +kernel⟩,
   ⟨State.reset.onMg fun y => { y with conns := [⟨0, 0⟩] }, 0, by decide +kernel⟩,
   ⟨State.reset, 0, by decide +kernel⟩⟩

/-- The hypotheses of each clause of `Obligations.BoardAndClock` are met together. -/
theorem witness_BoardAndClock :
    (∃ (s : State), s.sys.mode ≠ .off ∧ s.sys.mode ≠ .failed) ∧
    (∃ (s : State), (s.sys.mode = .off ∨ s.sys.mode = .failed)) ∧
    (∃ (s : State), s.bit CK_STATUS_PLL_LOCK = true) ∧
    (∃ (s : State), s.bit CK_STATUS_PLL_LOCK = false) ∧
    (∃ (s : State) (c : Fin 8), 2 ≤ c.val ∧ s.sys.mode ≠ .off) ∧
    (∃ (s : State), (s.archives = false ∨ s.ca.selfRefresh = true)) ∧
    (∃ (s : State), s.sys.mode ≠ .off) ∧
    (∃ (s : State), s.sys.mode = .off) ∧
    (∃ (_ : State) (i : Initiator), bySupervisor i = false) ∧
    (∃ (s : State) (i : Initiator), s.Inv ∧ bySupervisor i = true ∧ s.time < s.rd64 CK_WARM_AT_LO) ∧
    (∃ (s : State) (i : Initiator), bySupervisor i = true ∧ s.rd64 CK_WARM_AT_LO ≤ s.time ∧ s.sys.mode ≠ .failed ∧
      s.sys.mode ≠ .off) ∧
    (∃ (s : State) (i : Initiator), bySupervisor i = true ∧ (s.sys.mode = .failed ∨ s.sys.mode = .off)) ∧
    (∃ (s : State), s.Inv ∧ s.sys.mode = .boot ∧ s.sys.phase = .reset ∧ s.rd CK_STATUS_RESET_CAUSE = 1) ∧
    (∃ (s : State), s.sys.mode = .boot ∧ s.sys.phase = .reset ∧ s.rd CK_STATUS_RESET_CAUSE ≠ 1) ∧
    (∃ (s : State), (s.sys.mode ≠ .boot ∨ s.sys.phase ≠ .reset)) ∧
    (∃ (s : State), (s.isActive = true ∨ s.sys.mode = .off ∨ 2 ≤ s.rd TW_STATUS_LINE)) ∧
    (∃ (s : State), s.isActive = false ∧ s.sys.mode ≠ .off ∧ s.rd TW_STATUS_LINE < 2) ∧
    (∃ (s : State), s.mayExcite = true) ∧
    (∃ (s : State), s.mayExcite = false) ∧
    (∃ (s : State) (n : Fin 8) (_ : Option Nat) (_ : Nat), (s.bit SN_CTRL = false ∨ s.bit (SN_PICFG_ENABLE n) = false)) ∧
    (∃ (s : State) (n : Fin 8) (_ : Option Nat) (_ : Nat), s.bit SN_CTRL = true ∧ s.bit (SN_PICFG_ENABLE n) = true) ∧
    (∃ (_ : State) (e : KwErr) (_ : Bool), kwCheck e = .ok) ∧
    (∃ (_ : State) (e : KwErr) (_ : Bool), kwCheck e = .corrected) ∧
    (∃ (_ : State) (e : KwErr), kwCheck e = .uncorrectable) ∧
    (∃ (_ : State) (e : KwErr), kwCheck e = .uncorrectable) :=
  ⟨⟨State.reset, by decide +kernel, by decide +kernel⟩,
   ⟨(State.reset.onSys fun y => { y with mode := .off }), by decide +kernel⟩,
   ⟨(State.reset.putBit CK_STATUS_PLL_LOCK true), by decide +kernel⟩,
   ⟨State.reset, by decide +kernel⟩,
   ⟨State.reset, 7, by decide +kernel, by decide +kernel⟩,
   ⟨State.reset, by decide +kernel⟩,
   ⟨State.reset, by decide +kernel⟩,
   ⟨(State.reset.onSys fun y => { y with mode := .off }), by decide +kernel⟩,
   ⟨State.reset, .mgmt, by decide +kernel⟩,
   ⟨State.reset.wr64 CK_WARM_AT_LO 1, .core 1, ⟨by decide +kernel, by decide +kernel⟩, by decide +kernel,
     by decide +kernel⟩,
   ⟨State.reset, .core 1, by decide +kernel, by decide +kernel, by decide +kernel, by decide +kernel⟩,
   ⟨(State.reset.onSys fun y => { y with mode := .failed }), ((.core 1)), by decide +kernel, by decide +kernel⟩,
   ⟨(((State.reset.onSys fun y => { y with mode := .boot }).onSys fun y => { y with phase := .reset }).wr
     CK_STATUS_RESET_CAUSE 1), ⟨by decide +kernel, by decide +kernel⟩, by decide +kernel, by decide +kernel,
     by decide +kernel⟩,
   ⟨(State.reset.wr CK_STATUS_RESET_CAUSE 2).onSys fun y => { y with phase := .reset }, by decide +kernel,
     by decide +kernel, by decide +kernel⟩,
   ⟨inTable, by decide +kernel⟩,
   ⟨inTable, by decide +kernel⟩,
   ⟨State.reset, by decide +kernel, by decide +kernel, by decide +kernel⟩,
   ⟨inTable.at (usec 200), by decide +kernel⟩,
   ⟨State.reset, by decide +kernel⟩,
   ⟨State.reset, 7, none, 0, by decide +kernel⟩,
   ⟨((State.reset.putBit SN_CTRL true).putBit (SN_PICFG_ENABLE 7) true), 7, none, 0, by decide +kernel,
     by decide +kernel⟩,
   ⟨State.reset, ([]), true, by decide +kernel⟩,
   ⟨State.reset, ([1]), true, by decide +kernel⟩,
   ⟨State.reset, ([0xFF000000000000000000000000000000]), by decide +kernel⟩,
   ⟨State.reset, ([0xFF000000000000000000000000000000]), by decide +kernel⟩⟩

/-- The hypotheses of each clause of `Obligations.ConsoleReads` are met together. -/
theorem witness_ConsoleReads :
    (∃ (_ : State) (k : Fin 80), (k : Nat) < 48) ∧
    (∃ (_ : State) (k : Fin 80), 48 ≤ (k : Nat) ∧ (k : Nat) < 72) ∧
    (∃ (_ : State) (k : Fin 80), 72 ≤ (k : Nat)) ∧
    (∃ (_ : State) (k : Fin 32), (k : Nat) < 16) ∧
    (∃ (_ : State) (k : Fin 32), 16 ≤ (k : Nat)) ∧
    (∃ (s : State) (c : Fin 4096) (b : Nat) (e : Nat) (x : Nat), b = (s.lastPeriod % 21504 * 32768 + 8 * c.val) * 256 ∧ x
      = 0x6E80000000 + 8 * (s.lastPeriod % 21504) ∧ e = 0x2A00000000 + ((s.ca.second - 1) % 1223338 * 32768 + 8 *
      c.val) * 6 ∧ s.poisonIn b 40 = false ∧ s.poisonIn e 6 = false ∧ s.poisonIn x 8 = false) ∧
    (∃ (s : State) (c : Fin 4096) (b : Nat) (e : Nat) (x : Nat), b = (s.lastPeriod % 21504 * 32768 + 8 * c.val) * 256 ∧ x
      = 0x6E80000000 + 8 * (s.lastPeriod % 21504) ∧ e = 0x2A00000000 + ((s.ca.second - 1) % 1223338 * 32768 + 8 *
      c.val) * 6 ∧ (s.poisonIn b 40 = true ∨ s.poisonIn e 6 = true ∨ s.poisonIn x 8 = true)) :=
  ⟨⟨State.reset, 47, by decide +kernel⟩,
   ⟨State.reset, 71, by decide +kernel, by decide +kernel⟩,
   ⟨State.reset, 79, by decide +kernel⟩,
   ⟨State.reset, 15, by decide +kernel⟩,
   ⟨State.reset, 31, by decide +kernel⟩,
   ⟨State.reset, 4095, ((State.reset.lastPeriod % 21504 * 32768 + 8 * 4095) * 256), (0x2A00000000 +
     ((State.reset.ca.second - 1) % 1223338 * 32768 + 8 * 4095) * 6), (0x6E80000000 + 8 * (State.reset.lastPeriod %
     21504)), by decide +kernel, by decide +kernel, by decide +kernel, by decide +kernel, by decide +kernel,
     by decide +kernel⟩,
   ⟨State.reset.onCa fun y => { y with poison := [0] }, 0, ((State.reset.lastPeriod % 21504 * 32768 + 8 * 0) * 256),
     (0x2A00000000 + ((State.reset.ca.second - 1) % 1223338 * 32768 + 8 * 0) * 6), (0x6E80000000 + 8 *
     (State.reset.lastPeriod % 21504)), by decide +kernel, by decide +kernel, by decide +kernel, by decide +kernel⟩⟩

/-- The hypotheses of each clause of `Obligations.ConsoleActions` are met together. -/
theorem witness_ConsoleActions :
    (∃ (s : State) (n : List (BitVec 8)), (s.attest n).ks = .ok) ∧
    (∃ (s : State) (n : List (BitVec 8)), (s.attest n).ks ≠ .ok) ∧
    (∃ (s : State), s.sys.mode = .service ∧ s.isActive = true) ∧
    (∃ (s : State), (s.sys.mode ≠ .service ∨ s.isActive = false)) ∧
    (∃ (s : State) (_ : Fin 16), s.sys.mode = .service ∧ s.isActive = true) ∧
    (∃ (s : State) (_ : Fin 16), s.sys.mode = .service ∧ s.isActive = true) ∧
    (∃ (s : State) (_ : Fin 32) (_ : BitVec 8), s.isActive = true) ∧
    (∃ (s : State) (_ : Fin 32) (_ : BitVec 8), s.isActive = false) ∧
    (∃ (s : State), s.sys.mode = .service ∧ s.isActive = true) ∧
    (∃ (s : State), s.sys.mode = .service ∧ s.isActive = true) ∧
    (∃ (s : State) (_ : Fin 36), s.Inv) ∧
    (∃ (s : State) (_ : Fin 36), s.sys.mode = .service ∧ s.isActive = true) ∧
    (∃ (s : State) (n : Fin 36), s.sys.mode = .service ∧ s.isActive = true ∧ s.bit (SV_CHSTAT_TRIP_HELD n) = true) ∧
    (∃ (s : State) (n : Fin 36), s.sys.mode = .service ∧ s.isActive = true ∧ s.bit (SV_CHSTAT_TRIP_HELD n) = false) ∧
    (∃ (s : State), s.isActive = false) ∧
    (∃ (s : State) (k : Ks), s.isActive = true ∧ s.handRefusal = some k) ∧
    (∃ (s : State), s.isActive = true ∧ s.handRefusal = none) ∧
    (∃ (_ : State) (r : Nat), (r = 230400 ∨ r = 460800 ∨ r = 921600)) ∧
    (∃ (_ : State) (r : Nat), [230400, 460800, 921600].contains r = false) ∧
    (∃ (s : State) (_ : List (BitVec 8)), s.mg.recovery = false) ∧
    (∃ (s : State) (i : List (BitVec 8)), s.mg.recovery = true ∧ (44 * 1048576 < i.length ∨ headerGood i = false)) ∧
    (∃ (s : State) (_ : Fin 16), (s.sys.mode ≠ .service ∨ s.isActive = false)) ∧
    (∃ (s : State) (_ : Fin 16), (s.sys.mode ≠ .service ∨ s.isActive = false)) ∧
    (∃ (s : State), (s.sys.mode ≠ .service ∨ s.isActive = false)) ∧
    (∃ (s : State), (s.sys.mode ≠ .service ∨ s.isActive = false)) ∧
    (∃ (s : State) (_ : Fin 36), (s.sys.mode ≠ .service ∨ s.isActive = false)) ∧
    (∃ (s : State) (_ : Fin 36), (s.sys.mode ≠ .service ∨ s.isActive = false)) :=
  ⟨⟨State.reset, ([]), by decide +kernel⟩,
   ⟨State.reset.onMg fun y => { y with lastSign := some 0 }, ([]), by decide +kernel⟩,
   ⟨((State.reset.onSys fun y => { y with mode := .service }).onSys fun y => { y with role := .active }),
     by decide +kernel, by decide +kernel⟩,
   ⟨State.reset, by decide +kernel⟩,
   ⟨((State.reset.onSys fun y => { y with mode := .service }).onSys fun y => { y with role := .active }), 15,
     by decide +kernel, by decide +kernel⟩,
   ⟨((State.reset.onSys fun y => { y with mode := .service }).onSys fun y => { y with role := .active }), 15,
     by decide +kernel, by decide +kernel⟩,
   ⟨(State.reset.onSys fun y => { y with role := .active }), 31, 0, by decide +kernel⟩,
   ⟨State.reset, 31, 0, by decide +kernel⟩,
   ⟨((State.reset.onSys fun y => { y with mode := .service }).onSys fun y => { y with role := .active }),
     by decide +kernel, by decide +kernel⟩,
   ⟨((State.reset.onSys fun y => { y with mode := .service }).onSys fun y => { y with role := .active }),
     by decide +kernel, by decide +kernel⟩,
   ⟨State.reset, 35, ⟨by decide +kernel, by decide +kernel⟩⟩,
   ⟨((State.reset.onSys fun y => { y with mode := .service }).onSys fun y => { y with role := .active }), 35,
     by decide +kernel, by decide +kernel⟩,
   ⟨(((State.reset.onSys fun y => { y with mode := .service }).onSys fun y => { y with role := .active }).putBit
     (SV_CHSTAT_TRIP_HELD 35) true), 35, by decide +kernel, by decide +kernel, by decide +kernel⟩,
   ⟨((State.reset.onSys fun y => { y with mode := .service }).onSys fun y => { y with role := .active }), 35,
     by decide +kernel, by decide +kernel, by decide +kernel⟩,
   ⟨State.reset, by decide +kernel⟩,
   ⟨inTable, .stateConflict, by decide +kernel, by decide +kernel⟩,
   ⟨partnered, by decide +kernel, by decide +kernel⟩,
   ⟨State.reset, 921600, by decide +kernel⟩,
   ⟨State.reset, 0, by decide +kernel⟩,
   ⟨(State.reset.onMg fun y => { y with recovery := false }), ([]), by decide +kernel⟩,
   ⟨(State.reset.onMg fun y => { y with recovery := true }), ([]), by decide +kernel, by decide +kernel⟩,
   ⟨State.reset, 15, by decide +kernel⟩,
   ⟨State.reset, 15, by decide +kernel⟩,
   ⟨State.reset, by decide +kernel⟩,
   ⟨State.reset, by decide +kernel⟩,
   ⟨State.reset, 35, by decide +kernel⟩,
   ⟨State.reset, 35, by decide +kernel⟩⟩

/-- The hypotheses of the clauses of `Obligations.ConsoleActions` about RECOVER are met together by any image whose header
the uninterpreted checks of Config accept, whatever they say of the rest. -/
theorem witness_ConsoleActions_recover (i : List (BitVec 8)) (hl : i.length ≤ 44 * 1048576) (hh : headerGood i = true)
    (b : Bool) (hp : (slotOf i).passes 0 = b) :
    ∃ s : State, s.mg.recovery = true ∧ i.length ≤ 44 * 1048576 ∧ headerGood i = true ∧
      (slotOf i).passes s.mg.fuse = b :=
  ⟨State.reset.onMg fun y => { y with recovery := true }, rfl, hl, hh, hp⟩

/-- The hypotheses of each clause of `Obligations.MailboxRefusals` are met together. -/
theorem witness_MailboxRefusals :
    (∃ (s : State) (p : List (BitVec 8)), Takes s cmdConfigRead p ∧ ((∃ q ∈ readPairs p, s.asked.fieldValue q.1 q.2 =
      none))) ∧
    (∃ (s : State) (p : List (BitVec 8)), Takes s cmdGetBudget p ∧ (3 < fieldLE p 8 1 ∨ levelCount (fieldLE p 8 1) ≤
      fieldLE p 9 2)) ∧
    (∃ (s : State) (p : List (BitVec 8)), Takes s cmdLoopGet p ∧ 4608 ≤ fieldLE p 8 2) ∧
    (∃ (s : State) (p : List (BitVec 8)), Takes s cmdCaptureRead p ∧ 32 ≤ fieldLE p 8 1) ∧
    (∃ (s : State) (p : List (BitVec 8)), Takes s cmdBobbinRead p ∧ (8 ≤ fieldLE p 8 1 ∨ 65536 ≤ fieldLE p 12 4)) ∧
    (∃ (s : State) (p : List (BitVec 8)), Takes s cmdBobbinRead p ∧ fieldLE p 8 1 < 8 ∧ fieldLE p 12 4 < 65536 ∧ fieldLE p
      9 1 % 2 = 1 ∧ s.asked.bit (BOB_MARKPTR_VALID (fieldLE p 8 1)) = false) ∧
    (∃ (s : State) (p : List (BitVec 8)), Takes s cmdAdmissionReport p ∧ (16 ≤ fieldLE p 8 1 ∨ 3 ≤ fieldLE p 9 1 ∨
      s.asked.headerOk (fieldLE p 8 1) = false)) ∧
    (∃ (s : State) (p : List (BitVec 8)), Takes s cmdSetMode p ∧ fieldLE p 8 1 = 0x02 ∧ s.asked.modeAllowed .table = true
      ∧ fieldLE p 12 8 ≠ 0) ∧
    (∃ (s : State) (p : List (BitVec 8)), Takes s cmdSetMode p ∧ fieldLE p 8 1 = 0x02 ∧ s.asked.modeAllowed .table =
      false) ∧
    (∃ (s : State) (p : List (BitVec 8)), Takes s cmdSetMode p ∧ fieldLE p 8 1 = 0x03 ∧ s.asked.modeAllowed .reactive =
      true ∧ fieldLE p 12 8 ≠ 0) ∧
    (∃ (s : State) (p : List (BitVec 8)), Takes s cmdSetMode p ∧ fieldLE p 8 1 = 0x03 ∧ s.asked.modeAllowed .reactive =
      false) ∧
    (∃ (s : State) (p : List (BitVec 8)), Takes s cmdSetMode p ∧ fieldLE p 8 1 = 0x04 ∧ s.asked.modeAllowed .predictive =
      true ∧ fieldLE p 12 8 ≠ 0) ∧
    (∃ (s : State) (p : List (BitVec 8)), Takes s cmdSetMode p ∧ fieldLE p 8 1 = 0x04 ∧ s.asked.modeAllowed .predictive =
      false) ∧
    (∃ (s : State) (p : List (BitVec 8)), Takes s cmdSetMode p ∧ fieldLE p 8 1 = 0x05 ∧ s.asked.modeAllowed .hold = true ∧
      fieldLE p 12 8 ≠ 0) ∧
    (∃ (s : State) (p : List (BitVec 8)), Takes s cmdSetMode p ∧ fieldLE p 8 1 = 0x05 ∧ s.asked.modeAllowed .hold = false) ∧
    (∃ (s : State) (p : List (BitVec 8)), Takes s cmdSetMode p ∧ fieldLE p 8 1 = 0x09 ∧ s.asked.modeAllowed .service =
      true ∧ fieldLE p 12 8 ≠ 0) ∧
    (∃ (s : State) (p : List (BitVec 8)), Takes s cmdSetMode p ∧ fieldLE p 8 1 = 0x09 ∧ s.asked.modeAllowed .service =
      false) ∧
    (∃ (s : State) (p : List (BitVec 8)), Takes s cmdSetMode p ∧ fieldLE p 8 1 = 0xFF ∧ s.asked.sys.mode ≠ .table ∧
      s.asked.sys.mode ≠ .hold ∧ s.asked.sys.mode ≠ .service) ∧
    (∃ (s : State) (p : List (BitVec 8)), Takes s cmdSetMode p ∧ fieldLE p 8 1 = 0xFF ∧ (s.asked.sys.mode = .table ∨
      s.asked.sys.mode = .hold ∨ s.asked.sys.mode = .service) ∧ fieldLE p 12 8 < s.asked.time + msec 10) ∧
    (∃ (s : State) (p : List (BitVec 8)), Takes s cmdSetMode p ∧ fieldLE p 8 1 = 0xFF ∧ (s.asked.sys.mode = .table ∨
      s.asked.sys.mode = .hold ∨ s.asked.sys.mode = .service) ∧ s.asked.time + secs 60 < fieldLE p 12 8) ∧
    (∃ (s : State) (p : List (BitVec 8)), Takes s cmdReadLog p ∧ (fieldLE p 16 2 = 0 ∨ 16384 < fieldLE p 16 2)) ∧
    (∃ (s : State) (p : List (BitVec 8)) (t0 : Nat), Takes s cmdAttest p ∧ s.asked.mg.lastSign = some t0 ∧ s.asked.time <
      t0 + secs 1) ∧
    (∃ (s : State) (p : List (BitVec 8)), Takes s cmdContextAdd p ∧ (4096 ≤ (addReq p).ctx ∨ 64 ≤ (addReq p).group ∨
      (addReq p).addr % 64 ≠ 0)) ∧
    (∃ (s : State) (p : List (BitVec 8)), Takes s cmdContextAdd p ∧ (addReq p).ctx < 4096 ∧ (addReq p).group < 64 ∧
      (addReq p).addr % 64 = 0 ∧ s.asked.bit (PB_CFG_VALID (addReq p).ctx) = true) ∧
    (∃ (s : State) (p : List (BitVec 8)), Takes s cmdContextAdd p ∧ (addReq p).ctx < 4096 ∧ (addReq p).group < 64 ∧
      (addReq p).addr % 64 = 0 ∧ s.asked.bit (PB_CFG_VALID (addReq p).ctx) = false ∧ s.asked.bit TR_STATUS_ADMITTED =
      true ∧ s.asked.rd TR_ADMIT ≤ (addReq p).ctx / 32) ∧
    (∃ (s : State) (p : List (BitVec 8)), Takes s cmdContextRemove p ∧ 4096 ≤ fieldLE p 8 2) ∧
    (∃ (s : State) (p : List (BitVec 8)), Takes s cmdContextRemove p ∧ fieldLE p 8 2 < 4096 ∧ s.asked.bit (PB_CFG_VALID
      (fieldLE p 8 2)) = false) ∧
    (∃ (s : State) (p : List (BitVec 8)) (k : Ks), Takes s cmdSetBudget p ∧ (((upto (fieldLE p 8 4)).map (budgetReq
      p)).filterMap s.asked.budgetBad).head? = some k ∧ k.accepted = false) ∧
    (∃ (s : State) (p : List (BitVec 8)), Takes s cmdSetLease p ∧ 4096 ≤ fieldLE p 8 2) ∧
    (∃ (s : State) (p : List (BitVec 8)), Takes s cmdConfigWrite p ∧ (entriesOf p).any (fun e => !entryKnown e) = true) ∧
    (∃ (s : State) (p : List (BitVec 8)), Takes s cmdLoopSet p ∧ ((∃ e ∈ entriesOf p, (loopOffset e.1) = none ∨ 4608 ≤
      e.2.1))) ∧
    (∃ (s : State) (p : List (BitVec 8)), Takes s cmdTableWrite p ∧ (1024 ≤ fieldLE p 8 2 ∨ (∃ i, i < 15 ∧ flt (f32At p
      (12 + 4 * i)) (f32At p (16 + 4 * i)) = false))) ∧
    (∃ (s : State) (p : List (BitVec 8)), Takes s cmdInjectStart p ∧ (4608 ≤ bitsOf (fieldLE p 8 4) 12 0 ∨ fisFin (f32At p
      12) = false ∨ fisFin (f32At p 16) = false)) ∧
    (∃ (s : State) (p : List (BitVec 8)), Takes s cmdInjectStart p ∧ bitsOf (fieldLE p 8 4) 12 0 < 4608 ∧ fisFin (f32At p
      12) = true ∧ fisFin (f32At p 16) = true ∧ (s.asked.effMode (bitsOf (fieldLE p 8 4) 12 0) = 0 ∨ s.asked.effMode
      (bitsOf (fieldLE p 8 4) 12 0) = 4)) ∧
    (∃ (s : State) (p : List (BitVec 8)), Takes s cmdInjectStart p ∧ bitsOf (fieldLE p 8 4) 12 0 < 4608 ∧ fisFin (f32At p
      12) = true ∧ fisFin (f32At p 16) = true ∧ s.asked.effMode (bitsOf (fieldLE p 8 4) 12 0) ≠ 0 ∧ s.asked.effMode
      (bitsOf (fieldLE p 8 4) 12 0) ≠ 4 ∧ ((upto 32).find? fun c => !s.asked.injUsed c) = none) ∧
    (∃ (s : State) (p : List (BitVec 8)), Takes s cmdBobbinArm p ∧ 8 ≤ fieldLE p 8 1) ∧
    (∃ (s : State) (p : List (BitVec 8)), Takes s cmdBobbinArm p ∧ fieldLE p 8 1 < 8 ∧ s.asked.bit (BOB_STATUS_ARMED
      (fieldLE p 8 1)) = true ∧ s.asked.bit (BOB_STATUS_STOPPED (fieldLE p 8 1)) = false) ∧
    (∃ (s : State) (p : List (BitVec 8)), Takes s cmdPumpSet p ∧ fieldLE p 9 1 = 0 ∧ s.asked.sys.mode.run = false) ∧
    (∃ (s : State) (p : List (BitVec 8)), Takes s cmdPumpSet p ∧ fieldLE p 9 1 = 1 ∧ s.asked.sys.mode.run = false) ∧
    (∃ (s : State) (p : List (BitVec 8)), Takes s cmdPumpSet p ∧ fieldLE p 9 1 = 0 ∧ s.asked.sys.mode.run = true ∧ 4 ≤
      fieldLE p 8 1) ∧
    (∃ (s : State) (p : List (BitVec 8)), Takes s cmdPumpSet p ∧ fieldLE p 9 1 = 1 ∧ s.asked.sys.mode.run = true ∧ 4 ≤
      fieldLE p 8 1) ∧
    (∃ (s : State) (p : List (BitVec 8)), Takes s cmdPumpSet p ∧ fieldLE p 9 1 = 2 ∧ s.asked.sys.mode ≠ .service) ∧
    (∃ (s : State) (p : List (BitVec 8)), Takes s cmdPumpSet p ∧ fieldLE p 9 1 = 2 ∧ s.asked.sys.mode = .service ∧ fieldLE
      p 8 1 < 4 ∧ s.asked.bit PF_PMGR_ENABLE = true) ∧
    (∃ (s : State) (p : List (BitVec 8)), Takes s cmdValveSequence p ∧ ((p.length - 8) / 8 = 0 ∨ 32 < (p.length - 8) / 8)) ∧
    (∃ (s : State) (p : List (BitVec 8)), Takes s cmdCalibrationControl p ∧ (16 ≤ fieldLE p 8 1 ∨ 4 < fieldLE p 9 1)) ∧
    (∃ (s : State) (p : List (BitVec 8)), Takes s cmdModbusEnable p ∧ 1 < fieldLE p 8 1) ∧
    (∃ (s : State) (p : List (BitVec 8)), Takes s cmdModbusEnable p ∧ 1 < fieldLE p 8 1) ∧
    (∃ (s : State) (p : List (BitVec 8)), Takes s cmdSnapshotAt p ∧ fieldLE p 8 8 < s.asked.time + msec 1) ∧
    (∃ (s : State) (p : List (BitVec 8)), Takes s cmdSnapshotAt p ∧ s.asked.time + secs 60 < fieldLE p 8 8) ∧
    (∃ (s : State) (p : List (BitVec 8)), Takes s cmdSnapshotAt p ∧ s.asked.time + msec 1 ≤ fieldLE p 8 8 ∧ fieldLE p 8 8
      ≤ s.asked.time + secs 60 ∧ 4 ≤ s.asked.mb.snaps.length) ∧
    (∃ (s : State) (p : List (BitVec 8)), Takes s cmdUpdateBegin p ∧ (2 ≤ fieldLE p 8 1 ∨ 44 * 1048576 < fieldLE p 12 4)) ∧
    (∃ (s : State) (p : List (BitVec 8)), Takes s cmdUpdateBegin p ∧ fieldLE p 8 1 < 2 ∧ fieldLE p 12 4 ≤ 44 * 1048576 ∧
      (s.asked.mg.update.isSome = true ∨ s.asked.tr.commit.isSome = true)) ∧
    (∃ (s : State) (p : List (BitVec 8)), Takes s cmdUpdateBegin p ∧ fieldLE p 8 1 = 1 ∧ fieldLE p 12 4 ≤ 44 * 1048576 ∧
      s.asked.mg.update = none ∧ s.asked.tr.commit = none ∧ s.asked.isActive = true ∧ s.asked.partnerInStep = false) ∧
    (∃ (s : State) (p : List (BitVec 8)), Takes s cmdUpdateChunk p ∧ (s.asked.mg.update = none ∨ (∃ u, s.asked.mg.update =
      some u ∧ u.verified = true))) ∧
    (∃ (s : State) (p : List (BitVec 8)) (u : Update), Takes s cmdUpdateChunk p ∧ s.asked.mg.update = some u ∧ u.verified
      = false ∧ (fieldLE p 8 4 % 64 ≠ 0 ∨ u.size < fieldLE p 8 4 + (p.drop 12).length)) ∧
    (∃ (s : State) (p : List (BitVec 8)), Takes s cmdUpdateEnd p ∧ fieldLE p 8 1 = 0 ∧ s.asked.mg.update = none) ∧
    (∃ (s : State) (p : List (BitVec 8)), Takes s cmdUpdateEnd p ∧ fieldLE p 8 1 = 1 ∧ s.asked.mg.update = none) ∧
    (∃ (s : State) (p : List (BitVec 8)) (u : Update) (k : Ks), Takes s cmdUpdateEnd p ∧ fieldLE p 8 1 = 0 ∧
      s.asked.mg.update = some u ∧ s.asked.imageBad u = some k ∧ k.accepted = false) ∧
    (∃ (s : State) (p : List (BitVec 8)) (u : Update), Takes s cmdUpdateEnd p ∧ fieldLE p 8 1 = 1 ∧ s.asked.mg.update =
      some u ∧ u.target = 0 ∧ s.asked.rd TW_PARTNER_ROLE = 2 ∧ s.asked.bit TW_STATUS_HB_OK = true) ∧
    (∃ (s : State) (p : List (BitVec 8)), Takes s cmdUpdateEnd p ∧ fieldLE p 8 1 = 2 ∧ s.asked.mg.update = none ∧
      (s.asked.mg.confirmed = false ∨ s.asked.runningSlot.svn ≤ s.asked.mg.fuse)) ∧
    (∃ (s : State) (p : List (BitVec 8)), Takes s cmdUpdateEnd p ∧ fieldLE p 8 1 = 3 ∧ s.asked.mg.update = none) ∧
    (∃ (s : State) (p : List (BitVec 8)), Takes s cmdModelLoadChunk p ∧ (16 ≤ fieldLE p 8 1 ∨ fieldLE p 12 8 % 64 ≠ 0 ∨
      0x80000000 ≤ fieldLE p 12 8 ∨ 0x80000000 < fieldLE p 12 8 + (p.drop 20).length)) ∧
    (∃ (s : State) (p : List (BitVec 8)), Takes s cmdModelLoadChunk p ∧ fieldLE p 8 1 < 16 ∧ fieldLE p 12 8 % 64 = 0 ∧
      fieldLE p 12 8 + (p.drop 20).length ≤ 0x80000000 ∧ fieldLE p 12 8 < 0x80000000 ∧ s.asked.lockedSlots.contains
      (fieldLE p 8 1) = true) ∧
    (∃ (s : State) (p : List (BitVec 8)), Takes s cmdCommitModel p ∧ s.asked.tr.commit.isSome = true) ∧
    (∃ (s : State) (p : List (BitVec 8)), Takes s cmdCommitModel p ∧ s.asked.tr.commit = none ∧ (16 ≤ fieldLE p 8 1 ∨ 3 ≤
      fieldLE p 9 1 ∨ s.asked.headerOk (fieldLE p 8 1) = false)) ∧
    (∃ (s : State) (p : List (BitVec 8)), Takes s cmdRevertModel p ∧ s.asked.tr.commit.isSome = true) :=
  ⟨⟨(State.reset.onSys fun y => { y with mode := .table, role := .active }), (req 16 [(8, 1), (12, 255), (13, 255)]),
     ⟨by decide +kernel, by decide +kernel, by decide +kernel, by decide +kernel, by decide +kernel,
     by decide +kernel, by decide +kernel⟩, by decide +kernel⟩,
   ⟨(State.reset.onSys fun y => { y with mode := .table, role := .active }), (req 13 [(8, 4)]), ⟨by decide +kernel,
     by decide +kernel, by decide +kernel, by decide +kernel, by decide +kernel, by decide +kernel,
     by decide +kernel⟩, by decide +kernel⟩,
   ⟨(State.reset.onSys fun y => { y with mode := .table, role := .active }), (req 10 [(9, 18)]), ⟨by decide +kernel,
     by decide +kernel, by decide +kernel, by decide +kernel, by decide +kernel, by decide +kernel,
     by decide +kernel⟩, by decide +kernel⟩,
   ⟨(State.reset.onSys fun y => { y with mode := .table, role := .active }), (req 16 [(8, 32)]), ⟨by decide +kernel,
     by decide +kernel, by decide +kernel, by decide +kernel, by decide +kernel, by decide +kernel,
     by decide +kernel⟩, by decide +kernel⟩,
   ⟨(State.reset.onSys fun y => { y with mode := .table, role := .active }), (req 20 [(8, 8)]), ⟨by decide +kernel,
     by decide +kernel, by decide +kernel, by decide +kernel, by decide +kernel, by decide +kernel,
     by decide +kernel⟩, by decide +kernel⟩,
   ⟨(State.reset.onSys fun y => { y with mode := .table, role := .active }), (req 20 [(9, 1)]), ⟨by decide +kernel,
     by decide +kernel, by decide +kernel, by decide +kernel, by decide +kernel, by decide +kernel,
     by decide +kernel⟩, by decide +kernel, by decide +kernel, by decide +kernel, by decide +kernel⟩,
   ⟨(State.reset.onSys fun y => { y with mode := .table, role := .active }), (req 16 []), ⟨by decide +kernel,
     by decide +kernel, by decide +kernel, by decide +kernel, by decide +kernel, by decide +kernel,
     by decide +kernel⟩, by decide +kernel⟩,
   ⟨(State.reset.onSys fun y => { y with mode := .hold, role := .active }), (req 20 [(8, 2), (12, 1)]),
     ⟨by decide +kernel, by decide +kernel, by decide +kernel, by decide +kernel, by decide +kernel,
     by decide +kernel, by decide +kernel⟩, by decide +kernel, by decide +kernel, by decide +kernel⟩,
   ⟨(State.reset.onSys fun y => { y with mode := .table, role := .active }), (req 20 [(8, 2)]), ⟨by decide +kernel,
     by decide +kernel, by decide +kernel, by decide +kernel, by decide +kernel, by decide +kernel,
     by decide +kernel⟩, by decide +kernel, by decide +kernel⟩,
   ⟨(((State.reset.onSys fun y => { y with mode := .hold, role := .active }).putBit CK_STATUS_TIME_VALID true).onSys fun
     y => { y with configWritten := true }), (req 20 [(8, 3), (12, 1)]), ⟨by decide +kernel, by decide +kernel,
     by decide +kernel, by decide +kernel, by decide +kernel, by decide +kernel, by decide +kernel⟩,
     by decide +kernel, by decide +kernel, by decide +kernel⟩,
   ⟨(State.reset.onSys fun y => { y with mode := .table, role := .active }), (req 20 [(8, 3)]), ⟨by decide +kernel,
     by decide +kernel, by decide +kernel, by decide +kernel, by decide +kernel, by decide +kernel,
     by decide +kernel⟩, by decide +kernel, by decide +kernel⟩,
   ⟨(((State.reset.onSys fun y => { y with mode := .hold, role := .active }).putBit TR_STATUS_ADMITTED true).onTr fun y
     => { y with image := some (State.reset.readImage 0 0 0) }), (req 20 [(8, 4), (12, 1)]), ⟨by decide +kernel,
     by decide +kernel, by decide +kernel, by decide +kernel, by decide +kernel, by decide +kernel,
     by decide +kernel⟩, by decide +kernel, by decide +kernel, by decide +kernel⟩,
   ⟨(State.reset.onSys fun y => { y with mode := .table, role := .active }), (req 20 [(8, 4)]), ⟨by decide +kernel,
     by decide +kernel, by decide +kernel, by decide +kernel, by decide +kernel, by decide +kernel,
     by decide +kernel⟩, by decide +kernel, by decide +kernel⟩,
   ⟨(State.reset.onSys fun y => { y with mode := .table, role := .active }), (req 20 [(8, 5), (12, 1)]),
     ⟨by decide +kernel, by decide +kernel, by decide +kernel, by decide +kernel, by decide +kernel,
     by decide +kernel, by decide +kernel⟩, by decide +kernel, by decide +kernel, by decide +kernel⟩,
   ⟨(State.reset.onSys fun y => { y with mode := .service, role := .active }), (req 20 [(8, 5)]), ⟨by decide +kernel,
     by decide +kernel, by decide +kernel, by decide +kernel, by decide +kernel, by decide +kernel,
     by decide +kernel⟩, by decide +kernel, by decide +kernel⟩,
   ⟨(State.reset.onSys fun y => { y with mode := .table, role := .active }), (req 20 [(8, 9), (12, 1)]),
     ⟨by decide +kernel, by decide +kernel, by decide +kernel, by decide +kernel, by decide +kernel,
     by decide +kernel, by decide +kernel⟩, by decide +kernel, by decide +kernel, by decide +kernel⟩,
   ⟨(State.reset.onSys fun y => { y with mode := .reactive, role := .active }), (req 20 [(8, 9)]), ⟨by decide +kernel,
     by decide +kernel, by decide +kernel, by decide +kernel, by decide +kernel, by decide +kernel,
     by decide +kernel⟩, by decide +kernel, by decide +kernel⟩,
   ⟨(State.reset.onSys fun y => { y with mode := .reactive, role := .active }), (req 20 [(8, 255)]), ⟨by decide +kernel,
     by decide +kernel, by decide +kernel, by decide +kernel, by decide +kernel, by decide +kernel,
     by decide +kernel⟩, by decide +kernel, by decide +kernel, by decide +kernel, by decide +kernel⟩,
   ⟨((State.reset.onSys fun y => { y with mode := .table, role := .active }).onSys fun y => { y with mode := .table }),
     (req 20 [(8, 255)]), ⟨by decide +kernel, by decide +kernel, by decide +kernel, by decide +kernel,
     by decide +kernel, by decide +kernel, by decide +kernel⟩, by decide +kernel, by decide +kernel,
     by decide +kernel⟩,
   ⟨((State.reset.onSys fun y => { y with mode := .table, role := .active }).onSys fun y => { y with mode := .table }),
     (req 20 [(8, 255), (17, 255)]), ⟨by decide +kernel, by decide +kernel, by decide +kernel, by decide +kernel,
     by decide +kernel, by decide +kernel, by decide +kernel⟩, by decide +kernel, by decide +kernel,
     by decide +kernel⟩,
   ⟨(State.reset.onSys fun y => { y with mode := .table, role := .active }), (req 20 []), ⟨by decide +kernel,
     by decide +kernel, by decide +kernel, by decide +kernel, by decide +kernel, by decide +kernel,
     by decide +kernel⟩, by decide +kernel⟩,
   ⟨inTable.onMg fun y => { y with lastSign := some 0 }, (req 40 []), 0, ⟨by decide +kernel, by decide +kernel,
     by decide +kernel, by decide +kernel, by decide +kernel, by decide +kernel, by decide +kernel⟩,
     by decide +kernel, by decide +kernel⟩,
   ⟨(State.reset.onSys fun y => { y with mode := .table, role := .active }), (req 28 [(8, 0), (9, 16)]),
     ⟨by decide +kernel, by decide +kernel, by decide +kernel, by decide +kernel, by decide +kernel,
     by decide +kernel, by decide +kernel⟩, by decide +kernel⟩,
   ⟨((State.reset.onSys fun y => { y with mode := .table, role := .active }).putBit (PB_CFG_VALID (addReq (req 28
     [])).ctx) true), (req 28 []), ⟨by decide +kernel, by decide +kernel, by decide +kernel, by decide +kernel,
     by decide +kernel, by decide +kernel, by decide +kernel⟩, by decide +kernel, by decide +kernel,
     by decide +kernel, by decide +kernel⟩,
   ⟨((State.reset.onSys fun y => { y with mode := .table, role := .active }).putBit TR_STATUS_ADMITTED true), (req 28
     []), ⟨by decide +kernel, by decide +kernel, by decide +kernel, by decide +kernel, by decide +kernel,
     by decide +kernel, by decide +kernel⟩, by decide +kernel, by decide +kernel, by decide +kernel,
     by decide +kernel, by decide +kernel, by decide +kernel⟩,
   ⟨(State.reset.onSys fun y => { y with mode := .table, role := .active }), (req 12 [(9, 16)]), ⟨by decide +kernel,
     by decide +kernel, by decide +kernel, by decide +kernel, by decide +kernel, by decide +kernel,
     by decide +kernel⟩, by decide +kernel⟩,
   ⟨(State.reset.onSys fun y => { y with mode := .table, role := .active }), (req 12 []), ⟨by decide +kernel,
     by decide +kernel, by decide +kernel, by decide +kernel, by decide +kernel, by decide +kernel,
     by decide +kernel⟩, by decide +kernel, by decide +kernel⟩,
   ⟨(State.reset.onSys fun y => { y with mode := .table, role := .active }), (req 28 [(8, 1), (12, 1), (14, 16)]),
     .range, ⟨by decide +kernel, by decide +kernel, by decide +kernel, by decide +kernel, by decide +kernel,
     by decide +kernel, by decide +kernel⟩, by decide +kernel, by decide +kernel⟩,
   ⟨(State.reset.onSys fun y => { y with mode := .table, role := .active }), (req 14 [(9, 16)]), ⟨by decide +kernel,
     by decide +kernel, by decide +kernel, by decide +kernel, by decide +kernel, by decide +kernel,
     by decide +kernel⟩, by decide +kernel⟩,
   ⟨inTable, (req 20 [(8, 1), (12, 255), (13, 255)]), ⟨by decide +kernel, by decide +kernel, by decide +kernel,
     by decide +kernel, by decide +kernel, by decide +kernel, by decide +kernel⟩, by decide +kernel⟩,
   ⟨inTable, (req 20 [(8, 1), (12, 255), (13, 255)]), ⟨by decide +kernel, by decide +kernel, by decide +kernel,
     by decide +kernel, by decide +kernel, by decide +kernel, by decide +kernel⟩, by decide +kernel⟩,
   ⟨(State.reset.onSys fun y => { y with mode := .table, role := .active }), (req 140 []), ⟨by decide +kernel,
     by decide +kernel, by decide +kernel, by decide +kernel, by decide +kernel, by decide +kernel,
     by decide +kernel⟩, by decide +kernel⟩,
   ⟨inTable.onSys fun y => { y with mode := .reactive }, (req 32 [(9, 18)]), ⟨by decide +kernel, by decide +kernel,
     by decide +kernel, by decide +kernel, by decide +kernel, by decide +kernel, by decide +kernel⟩,
     by decide +kernel⟩,
   ⟨inTable.onSys fun y => { y with mode := .reactive }, (req 32 []), ⟨by decide +kernel, by decide +kernel,
     by decide +kernel, by decide +kernel, by decide +kernel, by decide +kernel, by decide +kernel⟩,
     by decide +kernel, by decide +kernel, by decide +kernel, by decide +kernel⟩,
   ⟨(upto 32).foldl (fun s c => s.wr (LE_INJ_CTRL_STATE c) 1) ((inTable.onSys fun y => { y with mode := .reactive }).onLe
     fun y => { y with active := [((SL_CTRL_MODE 0).addr, BitVec.ofNat 32 (2 ^ (SL_CTRL_MODE 0).lo))] }), (req 32 []),
     ⟨by decide +kernel, by decide +kernel, by decide +kernel, by decide +kernel, by decide +kernel,
     by decide +kernel, by decide +kernel⟩, by decide +kernel, by decide +kernel, by decide +kernel,
     by decide +kernel, by decide +kernel, by decide +kernel⟩,
   ⟨(State.reset.onSys fun y => { y with mode := .table, role := .active }), (req 44 [(8, 8)]), ⟨by decide +kernel,
     by decide +kernel, by decide +kernel, by decide +kernel, by decide +kernel, by decide +kernel,
     by decide +kernel⟩, by decide +kernel⟩,
   ⟨((State.reset.onSys fun y => { y with mode := .table, role := .active }).putBit (BOB_STATUS_ARMED (fieldLE (req 44
     []) 8 1)) true), (req 44 []), ⟨by decide +kernel, by decide +kernel, by decide +kernel, by decide +kernel,
     by decide +kernel, by decide +kernel, by decide +kernel⟩, by decide +kernel, by decide +kernel,
     by decide +kernel⟩,
   ⟨(State.reset.onSys fun y => { y with mode := .service, role := .active }), (req 12 []), ⟨by decide +kernel,
     by decide +kernel, by decide +kernel, by decide +kernel, by decide +kernel, by decide +kernel,
     by decide +kernel⟩, by decide +kernel, by decide +kernel⟩,
   ⟨(State.reset.onSys fun y => { y with mode := .service, role := .active }), (req 12 [(9, 1), (9, 1)]),
     ⟨by decide +kernel, by decide +kernel, by decide +kernel, by decide +kernel, by decide +kernel,
     by decide +kernel, by decide +kernel⟩, by decide +kernel, by decide +kernel⟩,
   ⟨(State.reset.onSys fun y => { y with mode := .table, role := .active }), (req 12 [(8, 4)]), ⟨by decide +kernel,
     by decide +kernel, by decide +kernel, by decide +kernel, by decide +kernel, by decide +kernel,
     by decide +kernel⟩, by decide +kernel, by decide +kernel, by decide +kernel⟩,
   ⟨(State.reset.onSys fun y => { y with mode := .table, role := .active }), (req 12 [(9, 1), (8, 4)]),
     ⟨by decide +kernel, by decide +kernel, by decide +kernel, by decide +kernel, by decide +kernel,
     by decide +kernel, by decide +kernel⟩, by decide +kernel, by decide +kernel, by decide +kernel⟩,
   ⟨(State.reset.onSys fun y => { y with mode := .table, role := .active }), (req 12 [(9, 2)]), ⟨by decide +kernel,
     by decide +kernel, by decide +kernel, by decide +kernel, by decide +kernel, by decide +kernel,
     by decide +kernel⟩, by decide +kernel, by decide +kernel⟩,
   ⟨(((State.reset.onSys fun y => { y with mode := .table, role := .active }).onSys fun y =>
     { y with mode := .service }).putBit PF_PMGR_ENABLE true), (req 12 [(9, 2)]), ⟨by decide +kernel,
     by decide +kernel, by decide +kernel, by decide +kernel, by decide +kernel, by decide +kernel,
     by decide +kernel⟩, by decide +kernel, by decide +kernel, by decide +kernel, by decide +kernel⟩,
   ⟨(State.reset.onSys fun y => { y with mode := .table, role := .active }), (req 8 []), ⟨by decide +kernel,
     by decide +kernel, by decide +kernel, by decide +kernel, by decide +kernel, by decide +kernel,
     by decide +kernel⟩, by decide +kernel⟩,
   ⟨(State.reset.onSys fun y => { y with mode := .table, role := .active }), (req 16 [(8, 16)]), ⟨by decide +kernel,
     by decide +kernel, by decide +kernel, by decide +kernel, by decide +kernel, by decide +kernel,
     by decide +kernel⟩, by decide +kernel⟩,
   ⟨(State.reset.onSys fun y => { y with mode := .table, role := .active }), (req 12 [(8, 2)]), ⟨by decide +kernel,
     by decide +kernel, by decide +kernel, by decide +kernel, by decide +kernel, by decide +kernel,
     by decide +kernel⟩, by decide +kernel⟩,
   ⟨(State.reset.onSys fun y => { y with mode := .table, role := .active }), (req 12 [(8, 2)]), ⟨by decide +kernel,
     by decide +kernel, by decide +kernel, by decide +kernel, by decide +kernel, by decide +kernel,
     by decide +kernel⟩, by decide +kernel⟩,
   ⟨(State.reset.onSys fun y => { y with mode := .table, role := .active }), (req 16 []), ⟨by decide +kernel,
     by decide +kernel, by decide +kernel, by decide +kernel, by decide +kernel, by decide +kernel,
     by decide +kernel⟩, by decide +kernel⟩,
   ⟨(State.reset.onSys fun y => { y with mode := .table, role := .active }), (req 16 [(13, 255)]), ⟨by decide +kernel,
     by decide +kernel, by decide +kernel, by decide +kernel, by decide +kernel, by decide +kernel,
     by decide +kernel⟩, by decide +kernel⟩,
   ⟨inTable.onMb fun y =>
     { y with snaps := [⟨0, 0, 0, 0, some 0, []⟩, ⟨0, 0, 0, 0, some 0, []⟩, ⟨0, 0, 0, 0, some 0, []⟩, ⟨0, 0, 0, 0, some 0, []⟩] },
     (req 16 (upto 3 |>.map fun i => (8 + i, 100000 / 256 ^ i % 256))), ⟨by decide +kernel, by decide +kernel,
     by decide +kernel, by decide +kernel, by decide +kernel, by decide +kernel, by decide +kernel⟩,
     by decide +kernel, by decide +kernel, by decide +kernel⟩,
   ⟨(State.reset.onSys fun y => { y with mode := .table, role := .active }), (req 52 [(8, 2)]), ⟨by decide +kernel,
     by decide +kernel, by decide +kernel, by decide +kernel, by decide +kernel, by decide +kernel,
     by decide +kernel⟩, by decide +kernel⟩,
   ⟨inTable.onMg fun y => { y with update := some ⟨0, 0, 0, [], [], false, false, 0, false, 0, 0, 0⟩ }, (req 52 []),
     ⟨by decide +kernel, by decide +kernel, by decide +kernel, by decide +kernel, by decide +kernel,
     by decide +kernel, by decide +kernel⟩, by decide +kernel, by decide +kernel, by decide +kernel⟩,
   ⟨((((State.reset.onSys fun y => { y with mode := .table, role := .active }).onMg fun y =>
     { y with update := none }).onTr fun y => { y with commit := none }).onSys fun y => { y with role := .active }),
     (req 52 [(8, 1)]), ⟨by decide +kernel, by decide +kernel, by decide +kernel, by decide +kernel,
     by decide +kernel, by decide +kernel, by decide +kernel⟩, by decide +kernel, by decide +kernel,
     by decide +kernel, by decide +kernel, by decide +kernel, by decide +kernel⟩,
   ⟨((State.reset.onSys fun y => { y with mode := .table, role := .active }).onMg fun y => { y with update := none }),
     (req 12 []), ⟨by decide +kernel, by decide +kernel, by decide +kernel, by decide +kernel, by decide +kernel,
     by decide +kernel, by decide +kernel⟩, by decide +kernel⟩,
   ⟨inTable.onMg fun y => { y with update := some ⟨0, 0, 0, [], [], false, false, 0, false, 0, 0, 0⟩ }, (req 12 [(8,
     1)]), (⟨0, 0, 0, [], [], false, false, 0, false, 0, 0, 0⟩), ⟨by decide +kernel, by decide +kernel,
     by decide +kernel, by decide +kernel, by decide +kernel, by decide +kernel, by decide +kernel⟩,
     by decide +kernel, by decide +kernel, by decide +kernel⟩,
   ⟨((State.reset.onSys fun y => { y with mode := .table, role := .active }).onMg fun y => { y with update := none }),
     (req 24 []), ⟨by decide +kernel, by decide +kernel, by decide +kernel, by decide +kernel, by decide +kernel,
     by decide +kernel, by decide +kernel⟩, by decide +kernel, by decide +kernel⟩,
   ⟨((State.reset.onSys fun y => { y with mode := .table, role := .active }).onMg fun y => { y with update := none }),
     (req 24 [(8, 1)]), ⟨by decide +kernel, by decide +kernel, by decide +kernel, by decide +kernel,
     by decide +kernel, by decide +kernel, by decide +kernel⟩, by decide +kernel, by decide +kernel⟩,
   ⟨inTable.onMg fun y => { y with update := some ⟨0, 1, 0, [], [], false, false, 0, false, 0, 0, 0⟩ }, (req 24 []), (⟨0,
     1, 0, [], [], false, false, 0, false, 0, 0, 0⟩), .range, ⟨by decide +kernel, by decide +kernel,
     by decide +kernel, by decide +kernel, by decide +kernel, by decide +kernel, by decide +kernel⟩,
     by decide +kernel, by decide +kernel, by decide +kernel, by decide +kernel⟩,
   ⟨((inTable.onMg fun y => { y with update := some ⟨0, 0, 0, [], [], false, false, 0, false, 0, 0, 0⟩ }).wr
     TW_PARTNER_ROLE 2).putBit TW_STATUS_HB_OK true, (req 24 [(8, 1)]), (⟨0, 0, 0, [], [], false, false, 0, false, 0,
     0, 0⟩), ⟨by decide +kernel, by decide +kernel, by decide +kernel, by decide +kernel, by decide +kernel,
     by decide +kernel, by decide +kernel⟩, by decide +kernel, by decide +kernel, by decide +kernel,
     by decide +kernel, by decide +kernel⟩,
   ⟨(((State.reset.onSys fun y => { y with mode := .table, role := .active }).onMg fun y =>
     { y with update := none }).onMg fun y => { y with confirmed := false }), (req 24 [(8, 2)]), ⟨by decide +kernel,
     by decide +kernel, by decide +kernel, by decide +kernel, by decide +kernel, by decide +kernel,
     by decide +kernel⟩, by decide +kernel, by decide +kernel, by decide +kernel⟩,
   ⟨((State.reset.onSys fun y => { y with mode := .table, role := .active }).onMg fun y => { y with update := none }),
     (req 24 [(8, 3)]), ⟨by decide +kernel, by decide +kernel, by decide +kernel, by decide +kernel,
     by decide +kernel, by decide +kernel, by decide +kernel⟩, by decide +kernel, by decide +kernel⟩,
   ⟨(State.reset.onSys fun y => { y with mode := .table, role := .active }), (req 20 [(8, 16)]), ⟨by decide +kernel,
     by decide +kernel, by decide +kernel, by decide +kernel, by decide +kernel, by decide +kernel,
     by decide +kernel⟩, by decide +kernel⟩,
   ⟨inTable.onTr fun y => { y with image := some (State.reset.readImage 0 0 0) }, (req 20 []), ⟨by decide +kernel,
     by decide +kernel, by decide +kernel, by decide +kernel, by decide +kernel, by decide +kernel,
     by decide +kernel⟩, by decide +kernel, by decide +kernel, by decide +kernel, by decide +kernel,
     by decide +kernel⟩,
   ⟨inTable.onTr fun y => { y with commit := some (commitAt 1) }, (req 48 []), ⟨by decide +kernel, by decide +kernel,
     by decide +kernel, by decide +kernel, by decide +kernel, by decide +kernel, by decide +kernel⟩,
     by decide +kernel⟩,
   ⟨((State.reset.onSys fun y => { y with mode := .table, role := .active }).onTr fun y => { y with commit := none }),
     (req 48 []), ⟨by decide +kernel, by decide +kernel, by decide +kernel, by decide +kernel, by decide +kernel,
     by decide +kernel, by decide +kernel⟩, by decide +kernel, by decide +kernel⟩,
   ⟨inTable.onTr fun y => { y with commit := some (commitAt 1) }, (req 8 []), ⟨by decide +kernel, by decide +kernel,
     by decide +kernel, by decide +kernel, by decide +kernel, by decide +kernel, by decide +kernel⟩,
     by decide +kernel⟩⟩

end Sys2Proof.Tests
end

section
/-! Reading the answer of a command, and reading registers back through the writes of an operation. -/

namespace Sys2Proof.Machine

/-- A command that answers `t` inside a frame: what holds of `t` holds of its answer. -/
theorem answers_with {p : Parts} {s t : State} {o : Host.Outcome State Fault Refusal} {Q : State → Prop}
    (h : Answers p s o) (ho : o = .next t) (hq : Q t) : ∃ u, o = .next u ∧ Frame p s u ∧ Q u := by
  obtain ⟨u, hu, hf⟩ := h
  cases hu.symm.trans ho
  exact ⟨_, ho, hf, hq⟩

/-! ### Fields and bits -/

theorem putBit_regsWf (s : State) (f : RF) (b : Bool) (h : s.regsWf) : (s.putBit f b).regsWf := wr_regsWf s f _ h

theorem rd_putBit_ne (s : State) (f g : RF) (b : Bool) (h : g.addr ≠ f.addr) : (s.putBit f b).rd g = s.rd g :=
  rd_wr_ne s f g _ h

theorem bit_putBit_ne (s : State) (f g : RF) (b : Bool) (h : g.addr ≠ f.addr) : (s.putBit f b).bit g = s.bit g := by
  unfold State.bit; rw [rd_putBit_ne s f g b h]

theorem bit_wr_ne (s : State) (f g : RF) (v : Nat) (h : g.addr ≠ f.addr) : (s.wr f v).bit g = s.bit g := by
  unfold State.bit; rw [rd_wr_ne s f g v h]

/-- A bit reads back what was put into it. -/
theorem bit_putBit_same (s : State) (f : RF) (b : Bool) (h : s.regsWf) (hf : f.lo = f.hi) (hh : f.hi < 32) :
    (s.putBit f b).bit f = b := by
  unfold State.bit State.putBit
  rw [rd_wr_same s f _ h hh (by omega), hf, Nat.add_sub_cancel_left]
  cases b <;> rfl

/-- A bit beside the one written reads as before. -/
theorem bit_putBit_disjoint (s : State) (f g : RF) (b : Bool) (h : s.regsWf) (hf : f.lo = f.hi) (hh : f.hi < 32)
    (ha : g.addr = f.addr) (hd : f.hi < g.lo ∨ g.hi < f.lo) : (s.putBit f b).bit g = s.bit g := by
  unfold State.bit State.putBit
  rw [rd_wr_disjoint s f g _ h hh (by omega) ha hd]

/-- A bit that is 0 stays so while bits are cleared. -/
theorem bit_putBit_false (s : State) (f g : RF) (h : s.regsWf) (hf : f.lo = f.hi) (hh : f.hi < 32) (hg : g.lo = g.hi)
    (h0 : s.bit g = false) : (s.putBit f false).bit g = false := by
  by_cases ha : g.addr = f.addr
  · by_cases hl : g.hi = f.hi
    · obtain rfl : g = f := by
        cases f; cases g; simp_all
      exact bit_putBit_same s g false h hf hh
    · rw [bit_putBit_disjoint s f g false h hf hh ha (by omega), h0]
  · rw [bit_putBit_ne s f g false ha, h0]

/-- Bits cleared one after another all read 0. -/
theorem bit_clearBits {l : List RF} (hl : ∀ f ∈ l, f.lo = f.hi ∧ f.hi < 32) {s : State} (h : s.regsWf) {g : RF}
    (hg : g.lo = g.hi) (h0 : g ∈ l ∨ s.bit g = false) : (l.foldl (fun s f => s.putBit f false) s).bit g = false := by
  induction l generalizing s with
  | nil => exact h0.resolve_left List.not_mem_nil
  | cons f l ih =>
    obtain ⟨hf, hh⟩ := hl f List.mem_cons_self
    refine ih (fun f hf => hl f (List.mem_cons_of_mem _ hf)) (putBit_regsWf s f false h) ?_
    rcases h0 with h0 | h0
    · rcases List.mem_cons.mp h0 with rfl | h0
      · exact Or.inr (bit_putBit_same s g false h hf hh)
      · exact Or.inl h0
    · exact Or.inr (bit_putBit_false s f g h hf hh hg h0)

/-! ### Whole words -/

theorem withBits_word (w v : Nat) (h : w < 2 ^ 32) : withBits w 31 0 v = v % 2 ^ 32 := by
  rw [withBits_eq w 31 0 v (by decide), Nat.div_eq_of_lt h, Nat.zero_mul, Nat.zero_add, Nat.pow_zero, Nat.mod_one,
    Nat.mul_one, Nat.add_zero]

/-- A word reads back what was written. -/
theorem word_wr_word (s : State) (a v : Nat) (h : s.regsWf) : (s.wr ⟨a, 31, 0⟩ v).word a = v % 2 ^ 32 :=
  (word_wr_same s ⟨a, 31, 0⟩ v h (Nat.lt_succ_self 31) (Nat.zero_le _)).trans (withBits_word _ v (word_lt s a))

/-- A field of a word that was written as 0 reads 0. -/
theorem rd_wr_zero (s : State) (f g : RF) (h : s.regsWf) (hh : f.hi = 31) (hl : f.lo = 0) (ha : g.addr = f.addr) :
    (s.wr f 0).rd g = 0 := by
  have hw : (s.wr f 0).word f.addr = 0 := by
    rw [word_wr_same s f 0 h (by omega) (by omega), hh, hl, withBits_word _ 0 (word_lt s _)]
    rfl
  unfold State.rd
  rw [ha, hw]
  simp [bitsOf]

/-! ### Replies -/

@[simp] theorem reply_word (s : State) (r : Reply) (a : Nat) : (s.reply r).word a = s.word a := by
  unfold State.reply
  split <;> rfl

@[simp] theorem reply_bit (s : State) (r : Reply) (f : RF) : (s.reply r).bit f = s.bit f := by
  unfold State.bit State.rd
  rw [reply_word]

/-- A module that has supply gives its reply. -/
theorem reply_head {s : State} (r : Reply) (h : s.sys.mode ≠ .off) : (s.reply r).mb.replies.head? = some r := by
  unfold State.reply
  rw [if_neg h]
  rfl

theorem regsBut_reply {l : Nat → Prop} {s0 s : State} (r : Reply) (h : RegsBut l s0 s) : RegsBut l s0 (s.reply r) :=
  fun a ha => (reply_word s r a).trans (h a ha)

/-! ### Registers that a doorbell writes, more closely than `noteReg` says -/

theorem regsBut_groupFire_dic {l : Nat → Prop} (hl : ∀ a, 0x40000100 ≤ a → a < 0x40010000 → l a) {s0 s : State}
    (g : Nat)
    (hg : g < 16) (h : RegsBut l s0 s) : RegsBut l s0 (s.groupFire g) := by
  unfold State.groupFire
  refine regsBut_onDic _ (regsBut_wr _ _ (regsBut_wr _ _ (regsBut_wr _ _ h ?_) ?_) ?_) <;>
    (dsimp only [DIC_GSTAT_FIRED, DIC_GSTAT_CNT, DIC_GSTAT_ELAPSED]; exact hl _ (by omega) (by omega))

theorem regsBut_groupEvent_dic {l : Nat → Prop} (hl : ∀ a, 0x40000100 ≤ a → a < 0x40010000 → l a) {s0 s : State}
    (g : Nat)
    (hg : g < 16) (h : RegsBut l s0 s) : RegsBut l s0 (s.groupEvent g) := by
  have h1 : RegsBut l s0 (s.wr (DIC_GSTAT_CNT g) (s.rd (DIC_GSTAT_CNT g) + 1)) :=
    regsBut_wr _ _ h (by dsimp only [DIC_GSTAT_CNT]; exact hl _ (by omega) (by omega))
  unfold State.groupEvent
  refine regsBut_ite (regsBut_groupFire_dic hl g hg ?_) ?_ <;> exact regsBut_ite (regsBut_onDic _ h1) h1

theorem groupOf_lt {s : State} {src g : Nat} (h : s.groupOf src = some g) : g < 16 := by
  simp only [State.groupOf, Option.ite_none_right_eq_some, Option.some.injEq] at h
  obtain ⟨-, -, rfl⟩ := h
  split
  · exact rd_lt _ VQ_NOTICE_GROUP
  · exact rd_lt _ (DIC_SRCCFG_GROUP src)

/-- A source that becomes pending writes its PEND word and the words of its group: no bobbin's register, and not
DIC_BADDB. -/
theorem regsBut_postRaw_dic {l : Nat → Prop} (hl : ∀ a, 0x40000100 ≤ a → a < 0x40010000 → l a) {s0 s : State}
    (src : Nat)
    (hs : src < 2048) (h : RegsBut l s0 s) : RegsBut l s0 (s.postRaw src) := by
  have h1 : RegsBut l s0 (s.wr ⟨(DIC_PEND (src / 32)).addr, src % 32, src % 32⟩ 1) :=
    regsBut_wr _ _ h (by dsimp only [DIC_PEND]; exact hl _ (by omega) (by omega))
  unfold State.postRaw
  dsimp only
  split
  next g hg => exact regsBut_groupEvent_dic hl g (groupOf_lt hg) h1
  next => exact h1

end Sys2Proof.Machine
end

section
/-! The invariant of the memories: every command answers a next state inside the frame of the whole machine, so every
step keeps the canonical form; and the state after reset has it. -/

namespace Sys2Proof.Machine

/-- Every command answers a next state that keeps the queue and the canonical form of the memories: each arm of `exec`
by the law of the operation that it calls. -/
theorem exec_answers (i : Instr) (s : State) : Answers Parts.full s (exec i s) := by
  cases i with
  | powerOn => exact execPowerOn_answers (Frame.refl _ _) rfl rfl rfl rfl rfl rfl rfl rfl rfl rfl rfl rfl rfl rfl rfl rfl rfl
  | vinBrownout => exact execVinBrownout_answers (Frame.refl _ _) rfl rfl rfl rfl rfl rfl rfl rfl rfl rfl rfl rfl rfl rfl rfl rfl rfl
  | resetButton => exact execResetButton_answers (Frame.refl _ _) rfl rfl rfl rfl rfl rfl rfl rfl rfl rfl rfl rfl rfl rfl rfl rfl rfl
  | scheduledWarmReset => exact execScheduledWarmReset_answers (Frame.refl _ _) rfl rfl rfl rfl rfl rfl rfl rfl rfl rfl rfl rfl rfl rfl rfl rfl rfl
  | supplyLoss => exact execSupplyLoss_answers (Frame.refl _ _) rfl rfl rfl rfl rfl rfl rfl rfl rfl rfl rfl rfl rfl rfl rfl rfl rfl
  | bootStage0Done => exact execBootStage0Done_answers (Frame.refl _ _) rfl rfl rfl rfl rfl
  | bootStage1Done => exact execBootStage1Done_answers (Frame.refl _ _) rfl rfl rfl
  | ddr4Ready bad => exact execDdr4Ready_answers bad (Frame.refl _ _) rfl rfl rfl rfl rfl rfl rfl rfl rfl rfl rfl rfl
  | tileSelftestDone failed => exact execTileSelftestDone_answers failed (Frame.refl _ _) rfl rfl rfl rfl rfl rfl rfl rfl rfl
  | bootConfigRestored crcOk => exact execBootConfigRestored_answers crcOk (Frame.refl _ _) rfl rfl rfl rfl rfl rfl rfl rfl rfl rfl rfl rfl rfl
  | tableInputsValid => exact execTableInputsValid_answers (Frame.refl _ _) rfl
  | claimEnable => exact execClaimEnable_answers (Frame.refl _ _) rfl rfl rfl
  | bootEnd => exact execBootEnd_answers (Frame.refl _ _) rfl rfl rfl rfl rfl rfl rfl rfl rfl rfl rfl rfl rfl
  | bootWatchdogExpiry => exact execBootWatchdogExpiry_answers (Frame.refl _ _) rfl rfl rfl rfl rfl rfl rfl rfl rfl rfl rfl rfl rfl rfl rfl rfl rfl
  | trialConfirm => exact execTrialConfirm_answers (Frame.refl _ _) rfl rfl rfl rfl
  | frameBoundary => exact execFrameBoundary_answers (Frame.refl _ _) rfl rfl rfl rfl rfl rfl rfl rfl rfl rfl rfl rfl rfl rfl rfl rfl rfl
  | tickBoundary brakes => exact execTickBoundary_answers brakes (Frame.refl _ _) rfl rfl rfl rfl rfl rfl rfl rfl rfl rfl rfl rfl rfl rfl rfl rfl rfl
  | hostSilenceTimeout => exact execHostSilenceTimeout_answers (Frame.refl _ _) rfl rfl rfl rfl rfl rfl rfl rfl rfl rfl rfl rfl
  | isolateEntry => exact execIsolateEntry_answers (Frame.refl _ _) rfl rfl rfl rfl rfl rfl rfl rfl rfl rfl
  | shedExit => exact execShedExit_answers (Frame.refl _ _) rfl rfl rfl rfl rfl rfl rfl rfl rfl rfl
  | shedPredictiveResume => exact execShedPredictiveResume_answers (Frame.refl _ _) rfl rfl rfl rfl rfl rfl rfl
  | survivalExit => exact execSurvivalExit_answers (Frame.refl _ _) rfl rfl rfl rfl rfl rfl rfl rfl rfl rfl rfl rfl
  | cutoffTick => exact execCutoffTick_answers (Frame.refl _ _) rfl
  | sampleEvaluation p agree => exact execSampleEvaluation_answers p agree (Frame.refl _ _) rfl rfl rfl rfl rfl rfl rfl rfl rfl rfl rfl rfl
  | checkEvaluation p correct => exact execCheckEvaluation_answers p correct (Frame.refl _ _) rfl rfl rfl rfl rfl rfl rfl rfl rfl rfl rfl
  | sampleDeadlineMiss k => exact execSampleDeadlineMiss_answers k (Frame.refl _ _) rfl rfl rfl rfl
  | frameLengthChange => exact execFrameLengthChange_answers (Frame.refl _ _) rfl rfl rfl
  | ctxSilent c => exact execCtxSilent_answers c (Frame.refl _ _) rfl
  | vsTimeout k => exact execVsTimeout_answers k (Frame.refl _ _) rfl rfl rfl rfl
  | primaryRestore k => exact execPrimaryRestore_answers k (Frame.refl _ _) rfl rfl rfl
  | pairAgreementClear k => exact execPairAgreementClear_answers k (Frame.refl _ _) rfl
  | rcPageGrant => exact execRcPageGrant_answers (Frame.refl _ _) rfl rfl
  | rcPeriodEstimate k est => exact execRcPeriodEstimate_answers k est (Frame.refl _ _) rfl rfl
  | injectionStart c => exact execInjectionStart_answers c (Frame.refl _ _) rfl rfl
  | captureDone c => exact execCaptureDone_answers c (Frame.refl _ _) rfl rfl rfl
  | bobbinPostComplete b => exact execBobbinPostComplete_answers b (Frame.refl _ _) rfl
  | bobbinRingFull b => exact execBobbinRingFull_answers b (Frame.refl _ _) rfl
  | slotApply k => exact execSlotApply_answers k (Frame.refl _ _) rfl
  | leRcDataAccess v => exact execLeRcDataAccess_answers v (Frame.refl _ _) rfl rfl rfl
  | injCtrlStart c => exact execInjCtrlStart_answers c (Frame.refl _ _) rfl rfl
  | injCtrlStop c => exact execInjCtrlStop_answers c (Frame.refl _ _) rfl rfl rfl
  | bobArm b => exact execBobArm_answers b (Frame.refl _ _) rfl rfl
  | bobStop b => exact execBobStop_answers b (Frame.refl _ _) rfl
  | bobMark b => exact execBobMark_answers b (Frame.refl _ _) rfl rfl
  | bobSwTrig b => exact execBobSwTrig_answers b (Frame.refl _ _) rfl rfl rfl
  | sentinelBunchEntry => exact execSentinelBunchEntry_answers (Frame.refl _ _) rfl rfl rfl rfl rfl rfl rfl rfl rfl
  | bunchEntry => exact execBunchEntry_answers (Frame.refl _ _) rfl rfl rfl rfl rfl rfl rfl rfl rfl
  | predictionDelivery => exact execPredictionDelivery_answers (Frame.refl _ _) rfl rfl rfl
  | virtualSensorDelivery => exact execVirtualSensorDelivery_answers (Frame.refl _ _) rfl rfl
  | readmissionDone => exact execReadmissionDone_answers (Frame.refl _ _) rfl rfl rfl rfl rfl rfl rfl
  | rotationPeriodExpiry => exact execRotationPeriodExpiry_answers (Frame.refl _ _) rfl
  | spareSelftestDone failed => exact execSpareSelftestDone_answers failed (Frame.refl _ _) rfl rfl rfl rfl rfl rfl rfl rfl rfl
  | preloadDone => exact execPreloadDone_answers (Frame.refl _ _) rfl rfl
  | rotationCaptureStart => exact execRotationCaptureStart_answers (Frame.refl _ _) rfl rfl
  | rotationSwitch => exact execRotationSwitch_answers (Frame.refl _ _) rfl rfl rfl
  | rotationMirrorStop => exact execRotationMirrorStop_answers (Frame.refl _ _) rfl rfl
  | tileScrub t check => exact execTileScrub_answers t check (Frame.refl _ _) rfl rfl rfl rfl rfl rfl rfl rfl rfl
  | trRotNow => exact execTrRotNow_answers (Frame.refl _ _) rfl
  | trDbgDataAccess access => exact execTrDbgDataAccess_answers access (Frame.refl _ _) rfl rfl rfl rfl rfl rfl rfl rfl rfl
  | nop t slot => exact execNop_answers t slot (Frame.refl _ _) rfl
  | illegalOperation t slot => exact execIllegalOperation_answers t slot (Frame.refl _ _) rfl
  | add t => exact execAdd_answers t (Frame.refl _ _) rfl
  | sub t => exact execSub_answers t (Frame.refl _ _) rfl
  | and t => exact execAnd_answers t (Frame.refl _ _) rfl
  | or t => exact execOr_answers t (Frame.refl _ _) rfl
  | xor t => exact execXor_answers t (Frame.refl _ _) rfl
  | shl t => exact execShl_answers t (Frame.refl _ _) rfl
  | shr t => exact execShr_answers t (Frame.refl _ _) rfl
  | sra t => exact execSra_answers t (Frame.refl _ _) rfl
  | mul t => exact execMul_answers t (Frame.refl _ _) rfl
  | min t => exact execMin_answers t (Frame.refl _ _) rfl
  | max t => exact execMax_answers t (Frame.refl _ _) rfl
  | addi t => exact execAddi_answers t (Frame.refl _ _) rfl
  | li t => exact execLi_answers t (Frame.refl _ _) rfl
  | andi t => exact execAndi_answers t (Frame.refl _ _) rfl
  | cmp t => exact execCmp_answers t (Frame.refl _ _) rfl
  | cmpi t => exact execCmpi_answers t (Frame.refl _ _) rfl
  | pand t => exact execPand_answers t (Frame.refl _ _) rfl
  | por t => exact execPor_answers t (Frame.refl _ _) rfl
  | pxor t => exact execPxor_answers t (Frame.refl _ _) rfl
  | pnot t => exact execPnot_answers t (Frame.refl _ _) rfl
  | movfm t => exact execMovfm_answers t (Frame.refl _ _) rfl
  | movtm t => exact execMovtm_answers t (Frame.refl _ _) rfl
  | vext t => exact execVext_answers t (Frame.refl _ _) rfl
  | br t => exact execBr_answers t (Frame.refl _ _) rfl
  | loop t => exact execLoop_answers t (Frame.refl _ _) rfl
  | bri t => exact execBri_answers t (Frame.refl _ _) rfl
  | halt t => exact execHalt_answers t (Frame.refl _ _) rfl
  | ld t ls1 ecc => exact execLd_answers t ls1 ecc (Frame.refl _ _) rfl rfl rfl rfl rfl rfl rfl rfl rfl
  | ldx8 t ls1 ecc => exact execLdx8_answers t ls1 ecc (Frame.refl _ _) rfl rfl rfl rfl rfl rfl rfl rfl rfl
  | ldx16 t ls1 ecc => exact execLdx16_answers t ls1 ecc (Frame.refl _ _) rfl rfl rfl rfl rfl rfl rfl rfl rfl
  | ldb t ls1 ecc => exact execLdb_answers t ls1 ecc (Frame.refl _ _) rfl rfl rfl rfl rfl rfl rfl rfl rfl
  | lds t ls1 ecc => exact execLds_answers t ls1 ecc (Frame.refl _ _) rfl rfl rfl rfl rfl rfl rfl rfl rfl
  | st t ls1 ecc => exact execSt_answers t ls1 ecc (Frame.refl _ _) rfl rfl rfl rfl rfl rfl rfl rfl rfl
  | stn8 t ls1 ecc => exact execStn8_answers t ls1 ecc (Frame.refl _ _) rfl rfl rfl rfl rfl rfl rfl rfl rfl
  | stn16 t ls1 ecc => exact execStn16_answers t ls1 ecc (Frame.refl _ _) rfl rfl rfl rfl rfl rfl rfl rfl rfl
  | sts t ls1 ecc => exact execSts_answers t ls1 ecc (Frame.refl _ _) rfl rfl rfl rfl rfl rfl rfl rfl rfl
  | mmaI8 t => exact execMmaI8_answers t (Frame.refl _ _) rfl
  | mmaI4 t => exact execMmaI4_answers t (Frame.refl _ _) rfl
  | mmaBf t => exact execMmaBf_answers t (Frame.refl _ _) rfl
  | mmaMf8 t => exact execMmaMf8_answers t (Frame.refl _ _) rfl
  | mmaMf4 t => exact execMmaMf4_answers t (Frame.refl _ _) rfl
  | mmaMi8 t => exact execMmaMi8_answers t (Frame.refl _ _) rfl
  | mzero t => exact execMzero_answers t (Frame.refl _ _) rfl
  | mmaResult t => exact execMmaResult_answers t (Frame.refl _ _) rfl
  | drain t => exact execDrain_answers t (Frame.refl _ _) rfl
  | pack8 t => exact execPack8_answers t (Frame.refl _ _) rfl
  | packbf t => exact execPackbf_answers t (Frame.refl _ _) rfl
  | packm8 t => exact execPackm8_answers t (Frame.refl _ _) rfl
  | packm4 t => exact execPackm4_answers t (Frame.refl _ _) rfl
  | vadd t vb => exact execVadd_answers t vb (Frame.refl _ _) rfl
  | vsub t vb => exact execVsub_answers t vb (Frame.refl _ _) rfl
  | vmul t vb => exact execVmul_answers t vb (Frame.refl _ _) rfl
  | vmin t vb => exact execVmin_answers t vb (Frame.refl _ _) rfl
  | vmax t vb => exact execVmax_answers t vb (Frame.refl _ _) rfl
  | vand t vb => exact execVand_answers t vb (Frame.refl _ _) rfl
  | vor t vb => exact execVor_answers t vb (Frame.refl _ _) rfl
  | vxor t vb => exact execVxor_answers t vb (Frame.refl _ _) rfl
  | vshl t vb => exact execVshl_answers t vb (Frame.refl _ _) rfl
  | vshr t vb => exact execVshr_answers t vb (Frame.refl _ _) rfl
  | vsra t vb => exact execVsra_answers t vb (Frame.refl _ _) rfl
  | vcmp t vb => exact execVcmp_answers t vb (Frame.refl _ _) rfl
  | vsel t vb => exact execVsel_answers t vb (Frame.refl _ _) rfl
  | vmov t vb => exact execVmov_answers t vb (Frame.refl _ _) rfl
  | vbc t vb => exact execVbc_answers t vb (Frame.refl _ _) rfl
  | vins t vb => exact execVins_answers t vb (Frame.refl _ _) rfl
  | vperm t vb => exact execVperm_answers t vb (Frame.refl _ _) rfl
  | vany t vb => exact execVany_answers t vb (Frame.refl _ _) rfl
  | vrsum t vb => exact execVrsum_answers t vb (Frame.refl _ _) rfl
  | fadd t vb => exact execFadd_answers t vb (Frame.refl _ _) rfl
  | fsub t vb => exact execFsub_answers t vb (Frame.refl _ _) rfl
  | fmul t vb => exact execFmul_answers t vb (Frame.refl _ _) rfl
  | fma t vb => exact execFma_answers t vb (Frame.refl _ _) rfl
  | fmin t vb => exact execFmin_answers t vb (Frame.refl _ _) rfl
  | fmax t vb => exact execFmax_answers t vb (Frame.refl _ _) rfl
  | fabs t vb => exact execFabs_answers t vb (Frame.refl _ _) rfl
  | fneg t vb => exact execFneg_answers t vb (Frame.refl _ _) rfl
  | fcmp t vb => exact execFcmp_answers t vb (Frame.refl _ _) rfl
  | frsum t vb => exact execFrsum_answers t vb (Frame.refl _ _) rfl
  | frmax t vb => exact execFrmax_answers t vb (Frame.refl _ _) rfl
  | frmin t vb => exact execFrmin_answers t vb (Frame.refl _ _) rfl
  | cvtif t vb => exact execCvtif_answers t vb (Frame.refl _ _) rfl
  | cvtfi t vb => exact execCvtfi_answers t vb (Frame.refl _ _) rfl
  | exp t vb => exact execExp_answers t vb (Frame.refl _ _) rfl
  | tanh t vb => exact execTanh_answers t vb (Frame.refl _ _) rfl
  | sigm t vb => exact execSigm_answers t vb (Frame.refl _ _) rfl
  | rsqrt t vb => exact execRsqrt_answers t vb (Frame.refl _ _) rfl
  | rcp t vb => exact execRcp_answers t vb (Frame.refl _ _) rfl
  | rcv t => exact execRcv_answers t (Frame.refl _ _) rfl
  | rcvResume t => exact execRcvResume_answers t (Frame.refl _ _) rfl
  | free t => exact execFree_answers t (Frame.refl _ _) rfl
  | send t => exact execSend_answers t (Frame.refl _ _) rfl
  | poll t => exact execPoll_answers t (Frame.refl _ _) rfl
  | bend t => exact execBend_answers t (Frame.refl _ _) rfl rfl rfl rfl rfl rfl rfl rfl rfl
  | sendEngineStart t => exact execSendEngineStart_answers t (Frame.refl _ _) rfl rfl rfl rfl rfl rfl rfl rfl rfl
  | messageArrival t ch => exact execMessageArrival_answers t ch (Frame.refl _ _) rfl rfl rfl rfl rfl rfl rfl rfl rfl
  | sleepInstruction t => exact execSleepInstruction_answers t (Frame.refl _ _) rfl
  | modelLoadChunk p => exact execModelLoadChunk_answers p (Frame.refl _ _) rfl rfl rfl rfl rfl rfl rfl rfl
  | commitModel p => exact execCommitModel_answers p (Frame.refl _ _) rfl rfl rfl rfl rfl rfl rfl
  | revertModel p => exact execRevertModel_answers p (Frame.refl _ _) rfl rfl rfl rfl rfl rfl rfl rfl rfl
  | admissionReport p => exact execAdmissionReport_answers p (Frame.refl _ _) rfl rfl rfl rfl rfl rfl
  | commitDigestCheck => exact execCommitDigestCheck_answers (Frame.refl _ _) rfl rfl rfl rfl rfl rfl rfl rfl rfl
  | commitTrellisStop => exact execCommitTrellisStop_answers (Frame.refl _ _) rfl rfl rfl rfl rfl rfl rfl
  | commitLoadDone ok => exact execCommitLoadDone_answers ok (Frame.refl _ _) rfl rfl rfl rfl rfl rfl rfl
  | commitEnable => exact execCommitEnable_answers (Frame.refl _ _) rfl rfl
  | commitWarmDone => exact execCommitWarmDone_answers (Frame.refl _ _) rfl rfl rfl rfl rfl rfl rfl rfl
  | contextAdd p => exact execContextAdd_answers p (Frame.refl _ _) rfl rfl rfl rfl rfl rfl rfl rfl rfl
  | contextRemove p => exact execContextRemove_answers p (Frame.refl _ _) rfl rfl rfl rfl rfl rfl rfl
  | leaseRenewalDue c => exact execLeaseRenewalDue_answers c (Frame.refl _ _) rfl rfl
  | capWriteStart => exact execCapWriteStart_answers (Frame.refl _ _) rfl rfl rfl
  | capWriteCompletion c success => exact execCapWriteCompletion_answers c success (Frame.refl _ _) rfl rfl rfl rfl rfl rfl
  | capWriteTimeout c => exact execCapWriteTimeout_answers c (Frame.refl _ _) rfl rfl rfl rfl rfl rfl rfl
  | leaseLapse c => exact execLeaseLapse_answers c (Frame.refl _ _) rfl rfl
  | capRecordExpiry c => exact execCapRecordExpiry_answers c (Frame.refl _ _) rfl rfl
  | overCap c => exact execOverCap_answers c (Frame.refl _ _) rfl rfl rfl rfl
  | pbBrakeForceWrite v => exact execPbBrakeForceWrite_answers v (Frame.refl _ _) rfl
  | postSeqWrite v => exact execPostSeqWrite_answers v (Frame.refl _ _) rfl rfl rfl
  | bar4Write off v => exact execBar4Write_answers off v (Frame.refl _ _) rfl
  | bar2Write off bytes => exact execBar2Write_answers off bytes (Frame.refl _ _) rfl rfl rfl rfl rfl
  | packetTimeout p slotB => exact execPacketTimeout_answers p slotB (Frame.refl _ _) rfl rfl rfl rfl rfl
  | unpackComplete => exact execUnpackComplete_answers (Frame.refl _ _) rfl rfl rfl rfl rfl rfl
  | fieldStreamPublish k p => exact execFieldStreamPublish_answers k p (Frame.refl _ _) rfl rfl rfl rfl rfl rfl
  | sampleBankSwap q => exact execSampleBankSwap_answers q (Frame.refl _ _) rfl rfl rfl rfl
  | sqPopRead r => exact execSqPopRead_answers r (Frame.refl _ _) rfl rfl rfl rfl rfl
  | popStallEnd q => exact execPopStallEnd_answers q (Frame.refl _ _) rfl rfl rfl rfl rfl
  | popDeadline q => exact execPopDeadline_answers q (Frame.refl _ _) rfl rfl rfl
  | flushRequest q => exact execFlushRequest_answers q (Frame.refl _ _) rfl rfl rfl rfl
  | flushPoint q => exact execFlushPoint_answers q (Frame.refl _ _) rfl rfl rfl rfl
  | queueReset q => exact execQueueReset_answers q (Frame.refl _ _) rfl rfl rfl rfl rfl rfl
  | pumpKick k => exact execPumpKick_answers k (Frame.refl _ _) rfl rfl
  | kickEnd k pulses sinceLast => exact execKickEnd_answers k pulses sinceLast (Frame.refl _ _) rfl rfl rfl rfl rfl
  | kickRetry k => exact execKickRetry_answers k (Frame.refl _ _) rfl rfl
  | tachLoss k => exact execTachLoss_answers k (Frame.refl _ _) rfl rfl rfl rfl rfl
  | tachRestore k rpm => exact execTachRestore_answers k rpm (Frame.refl _ _) rfl rfl
  | currentBandExit k => exact execCurrentBandExit_answers k (Frame.refl _ _) rfl rfl rfl rfl rfl
  | driveFault n closed can => exact execDriveFault_answers n closed can (Frame.refl _ _) rfl rfl rfl rfl rfl
  | pumpStageIn => exact execPumpStageIn_answers (Frame.refl _ _) rfl rfl
  | pumpStageOut => exact execPumpStageOut_answers (Frame.refl _ _) rfl rfl
  | pumpRotation => exact execPumpRotation_answers (Frame.refl _ _) rfl rfl rfl
  | runHoursSave => exact execRunHoursSave_answers (Frame.refl _ _) rfl rfl
  | pfRotNowWrite => exact execPfRotNowWrite_answers (Frame.refl _ _) rfl rfl
  | channelReenable k => exact execChannelReenable_answers k (Frame.refl _ _) rfl rfl rfl
  | fanOvercurrent k ma => exact execFanOvercurrent_answers k ma (Frame.refl _ _) rfl rfl rfl rfl rfl
  | aoOpen n read opened => exact execAoOpen_answers n read opened (Frame.refl _ _) rfl rfl rfl rfl rfl
  | aoOverload n ma => exact execAoOverload_answers n ma (Frame.refl _ _) rfl rfl rfl rfl
  | slowFallEvaluation => exact execSlowFallEvaluation_answers (Frame.refl _ _) rfl rfl rfl rfl rfl
  | pulseLost => exact execPulseLost_answers (Frame.refl _ _) rfl rfl rfl rfl rfl rfl rfl rfl rfl rfl rfl
  | pressLost => exact execPressLost_answers (Frame.refl _ _) rfl rfl rfl rfl rfl rfl rfl rfl rfl rfl rfl
  | tripArm => exact execTripArm_answers (Frame.refl _ _) rfl rfl rfl rfl rfl rfl rfl rfl rfl rfl rfl
  | flowRestored => exact execFlowRestored_answers (Frame.refl _ _) rfl rfl rfl
  | calMinute r pRep vRaw tSup tRet ref => exact execCalMinute_answers r pRep vRaw tSup tRet ref (Frame.refl _ _) rfl rfl rfl rfl rfl rfl
  | calStateSave => exact execCalStateSave_answers (Frame.refl _ _) rfl rfl
  | rtdConversion n raw offset compliant => exact execRtdConversion_answers n raw offset compliant (Frame.refl _ _) rfl rfl rfl rfl rfl
  | maConversion n raw offset limit => exact execMaConversion_answers n raw offset limit (Frame.refl _ _) rfl rfl rfl rfl rfl
  | sensorFaultClear k => exact execSensorFaultClear_answers k (Frame.refl _ _) rfl
  | noPulseTimeout n => exact execNoPulseTimeout_answers n (Frame.refl _ _) rfl
  | dinDebounce k level => exact execDinDebounce_answers k level (Frame.refl _ _) rfl rfl
  | leakSample k ohm loop loc => exact execLeakSample_answers k ohm loop loc (Frame.refl _ _) rfl rfl rfl rfl rfl rfl
  | lkAckWrite k => exact execLkAckWrite_answers k (Frame.refl _ _) rfl rfl rfl
  | cpEvaluation flow tin tout failed wet => exact execCpEvaluation_answers flow tin tout failed wet (Frame.refl _ _) rfl rfl rfl rfl rfl rfl rfl rfl rfl rfl rfl
  | derateStart => exact execDerateStart_answers (Frame.refl _ _) rfl rfl rfl rfl
  | derateEnd => exact execDerateEnd_answers (Frame.refl _ _) rfl rfl rfl rfl
  | svCloseRequest n => exact execSvCloseRequest_answers n (Frame.refl _ _) rfl rfl
  | svOpenRequest n => exact execSvOpenRequest_answers n (Frame.refl _ _) rfl rfl rfl rfl rfl rfl rfl rfl rfl rfl
  | svReleaseWrite n => exact execSvReleaseWrite_answers n (Frame.refl _ _) rfl
  | peakStart n => exact execPeakStart_answers n (Frame.refl _ _) rfl rfl rfl rfl rfl rfl
  | kinkDetect n ma => exact execKinkDetect_answers n ma (Frame.refl _ _) rfl rfl
  | peakEnd n => exact execPeakEnd_answers n (Frame.refl _ _) rfl rfl rfl rfl rfl rfl rfl rfl
  | openingEnd n => exact execOpeningEnd_answers n (Frame.refl _ _) rfl rfl rfl rfl rfl rfl rfl rfl rfl rfl rfl rfl
  | posCheck n => exact execPosCheck_answers n (Frame.refl _ _) rfl rfl rfl rfl rfl rfl rfl
  | groupBudgetTimeout n => exact execGroupBudgetTimeout_answers n (Frame.refl _ _) rfl rfl rfl rfl rfl rfl rfl rfl
  | offStateVisit g node rail supply => exact execOffStateVisit_answers g node rail supply (Frame.refl _ _) rfl rfl rfl rfl rfl rfl rfl rfl
  | onGroupVisit n node win periods => exact execOnGroupVisit_answers n node win periods (Frame.refl _ _) rfl rfl rfl rfl rfl rfl rfl rfl
  | forcedIdleTest g rail supply pulse => exact execForcedIdleTest_answers g rail supply pulse (Frame.refl _ _) rfl rfl rfl rfl rfl rfl rfl
  | forcedIdleEnd g => exact execForcedIdleEnd_answers g (Frame.refl _ _) rfl rfl
  | onStateCheck n low win => exact execOnStateCheck_answers n low win (Frame.refl _ _) rfl rfl rfl rfl rfl rfl rfl rfl
  | lowSideOvercurrent n ma => exact execLowSideOvercurrent_answers n ma (Frame.refl _ _) rfl rfl rfl rfl rfl rfl rfl rfl
  | groupOvercurrent g ma => exact execGroupOvercurrent_answers g ma (Frame.refl _ _) rfl rfl rfl rfl rfl
  | groupReturn g => exact execGroupReturn_answers g (Frame.refl _ _) rfl rfl rfl
  | valveSequence p => exact execValveSequence_answers p (Frame.refl _ _) rfl rfl rfl rfl rfl rfl rfl
  | sequenceStepStart => exact execSequenceStepStart_answers (Frame.refl _ _) rfl rfl rfl rfl rfl rfl rfl
  | sequenceWaitEnd k => exact execSequenceWaitEnd_answers k (Frame.refl _ _) rfl rfl rfl rfl rfl
  | canFrameReceive n f e sof => exact execCanFrameReceive_answers n f e sof (Frame.refl _ _) rfl rfl rfl rfl rfl rfl rfl rfl rfl rfl
  | canTxStart n => exact execCanTxStart_answers n (Frame.refl _ _) rfl rfl
  | canTxComplete n ok e => exact execCanTxComplete_answers n ok e (Frame.refl _ _) rfl rfl rfl rfl rfl rfl
  | canRecoveryDone n => exact execCanRecoveryDone_answers n (Frame.refl _ _) rfl rfl rfl rfl rfl
  | fbRecoverWrite n => exact execFbRecoverWrite_answers n (Frame.refl _ _) rfl
  | fbReqWrite n m => exact execFbReqWrite_answers n m (Frame.refl _ _) rfl rfl
  | fbAbortWrite n m => exact execFbAbortWrite_answers n m (Frame.refl _ _) rfl rfl
  | fbInitClear n => exact execFbInitClear_answers n (Frame.refl _ _) rfl rfl
  | mbLockRead n m => exact execMbLockRead_answers n m (Frame.refl _ _) rfl rfl rfl
  | mbReleaseRead n m => exact execMbReleaseRead_answers n m (Frame.refl _ _) rfl rfl rfl
  | mbLockTimeout n m => exact execMbLockTimeout_answers n m (Frame.refl _ _) rfl rfl rfl rfl
  | basicCycleStart n ref => exact execBasicCycleStart_answers n ref (Frame.refl _ _) rfl rfl rfl rfl rfl rfl rfl
  | windowMark n idle => exact execWindowMark_answers n idle (Frame.refl _ _) rfl rfl
  | nodeSupervisionInterval n => exact execNodeSupervisionInterval_answers n (Frame.refl _ _) rfl rfl rfl rfl rfl rfl
  | configReqRetry n node => exact execConfigReqRetry_answers n node (Frame.refl _ _) rfl rfl rfl
  | canopenDriveStartup p n node maxSpeed rated => exact execCanopenDriveStartup_answers p n node maxSpeed rated (Frame.refl _ _) rfl rfl
  | rpdoTransmit p => exact execRpdoTransmit_answers p (Frame.refl _ _) rfl
  | doorbellWrite v => exact execDoorbellWrite_answers v (Frame.refl _ _) rfl rfl rfl
  | groupTimerFire g => exact execGroupTimerFire_answers g (Frame.refl _ _) rfl rfl
  | deliveryDecision t => exact execDeliveryDecision_answers t (Frame.refl _ _) rfl rfl
  | eoiWrite t by_ v => exact execEoiWrite_answers t by_ v (Frame.refl _ _) rfl rfl rfl
  | moderationIntervalEnd t => exact execModerationIntervalEnd_answers t (Frame.refl _ _) rfl
  | lineInvalid h l => exact execLineInvalid_answers h l (Frame.refl _ _) rfl rfl rfl rfl
  | lineValid owned => exact execLineValid_answers owned (Frame.refl _ _) rfl rfl rfl rfl rfl rfl rfl
  | claim freeFor => exact execClaim_answers freeFor (Frame.refl _ _) rfl rfl rfl rfl rfl rfl rfl rfl rfl rfl rfl rfl rfl rfl rfl rfl rfl rfl
  | guardEnd => exact execGuardEnd_answers (Frame.refl _ _) rfl rfl rfl
  | heartbeatSend => exact execHeartbeatSend_answers (Frame.refl _ _) rfl
  | heartbeatReceive p => exact execHeartbeatReceive_answers p (Frame.refl _ _) rfl rfl rfl rfl rfl rfl rfl
  | heartbeatLoss => exact execHeartbeatLoss_answers (Frame.refl _ _) rfl rfl rfl rfl rfl rfl rfl
  | twinLinkFrameReceive f => exact execTwinLinkFrameReceive_answers f (Frame.refl _ _) rfl rfl rfl rfl rfl rfl rfl rfl rfl rfl rfl rfl rfl
  | linkAckSend => exact execLinkAckSend_answers (Frame.refl _ _) rfl
  | linkReplayTimeout => exact execLinkReplayTimeout_answers (Frame.refl _ _) rfl rfl rfl
  | linkLaneFail lane => exact execLinkLaneFail_answers lane (Frame.refl _ _) rfl rfl
  | linkRetrainDone lanes => exact execLinkRetrainDone_answers lanes (Frame.refl _ _) rfl rfl
  | frameEndMissing => exact execFrameEndMissing_answers (Frame.refl _ _) rfl rfl rfl rfl rfl rfl rfl
  | lockstepMismatch => exact execLockstepMismatch_answers (Frame.refl _ _) rfl rfl rfl rfl rfl rfl rfl rfl rfl rfl rfl
  | supervisorWatchdogExpiry => exact execSupervisorWatchdogExpiry_answers (Frame.refl _ _) rfl rfl rfl rfl rfl rfl rfl rfl rfl rfl rfl
  | handoverRequest p => exact execHandoverRequest_answers p (Frame.refl _ _) rfl rfl rfl rfl rfl rfl
  | handoverPrepare => exact execHandoverPrepare_answers (Frame.refl _ _) rfl
  | handoverRelease => exact execHandoverRelease_answers (Frame.refl _ _) rfl rfl rfl rfl rfl rfl rfl rfl
  | handoverComplete => exact execHandoverComplete_answers (Frame.refl _ _) rfl rfl rfl
  | resyncStart => exact execResyncStart_answers (Frame.refl _ _) rfl
  | resyncEnd => exact execResyncEnd_answers (Frame.refl _ _) rfl rfl rfl rfl rfl rfl rfl rfl rfl rfl
  | twReleaseWrite by_ => exact execTwReleaseWrite_answers by_ (Frame.refl _ _) rfl
  | twFaultWrite by_ => exact execTwFaultWrite_answers by_ (Frame.refl _ _) rfl rfl rfl rfl rfl rfl rfl rfl rfl rfl rfl
  | hdmRead a e => exact execHdmRead_answers a e (Frame.refl _ _) rfl rfl rfl rfl rfl rfl
  | hdmWrite a bs => exact execHdmWrite_answers a bs (Frame.refl _ _) rfl rfl rfl rfl
  | patrolScrub pages found => exact execPatrolScrub_answers pages found (Frame.refl _ _) rfl rfl rfl rfl rfl rfl
  | tier0BlockWrite => exact execTier0BlockWrite_answers (Frame.refl _ _) rfl rfl rfl
  | racking => exact execRacking_answers (Frame.refl _ _) rfl rfl
  | snapshotLatch => exact execSnapshotLatch_answers (Frame.refl _ _) rfl rfl
  | snapshotWritten => exact execSnapshotWritten_answers (Frame.refl _ _) rfl rfl rfl rfl
  | cxlLinkUp rate width host => exact execCxlLinkUp_answers rate width host (Frame.refl _ _) rfl rfl rfl rfl rfl
  | cxlInterfaceReset flr => exact execCxlInterfaceReset_answers flr (Frame.refl _ _) rfl rfl rfl rfl rfl rfl
  | ptmDialog offset => exact execPtmDialog_answers offset (Frame.refl _ _) rfl rfl rfl rfl rfl rfl
  | timebaseStep dest partner => exact execTimebaseStep_answers dest partner (Frame.refl _ _) rfl rfl rfl rfl rfl
  | aerError uncorrectable => exact execAerError_answers uncorrectable (Frame.refl _ _) rfl rfl rfl rfl rfl
  | unsupportedCommand op => exact execUnsupportedCommand_answers op (Frame.refl _ _) rfl rfl rfl rfl
  | identifyMemoryDevice => exact execIdentifyMemoryDevice_answers (Frame.refl _ _) rfl rfl rfl rfl rfl rfl
  | getSupportedLogs => exact execGetSupportedLogs_answers (Frame.refl _ _) rfl rfl rfl rfl rfl rfl
  | getLog => exact execGetLog_answers (Frame.refl _ _) rfl rfl rfl rfl rfl rfl
  | getEventRecords => exact execGetEventRecords_answers (Frame.refl _ _) rfl rfl rfl rfl rfl rfl
  | clearEventRecords n => exact execClearEventRecords_answers n (Frame.refl _ _) rfl rfl rfl rfl rfl rfl
  | getTimestamp => exact execGetTimestamp_answers (Frame.refl _ _) rfl rfl rfl rfl rfl rfl
  | setTimestamp ns => exact execSetTimestamp_answers ns (Frame.refl _ _) rfl rfl rfl rfl rfl rfl
  | getIdentity p => exact execGetIdentity_answers p (Frame.refl _ _) rfl rfl rfl rfl rfl rfl
  | getState p => exact execGetState_answers p (Frame.refl _ _) rfl rfl rfl rfl rfl rfl
  | setModeTable p => exact execSetModeTable_answers p (Frame.refl _ _) rfl rfl rfl rfl rfl rfl
  | setModeReactive p => exact execSetModeReactive_answers p (Frame.refl _ _) rfl rfl rfl rfl rfl rfl
  | setModePredictive p => exact execSetModePredictive_answers p (Frame.refl _ _) rfl rfl rfl rfl rfl rfl
  | setModeHold p => exact execSetModeHold_answers p (Frame.refl _ _) rfl rfl rfl rfl rfl rfl
  | setModeService p => exact execSetModeService_answers p (Frame.refl _ _) rfl rfl rfl rfl rfl rfl
  | setModeReset p => exact execSetModeReset_answers p (Frame.refl _ _) rfl rfl rfl rfl rfl rfl
  | keepalive p => exact execKeepalive_answers p (Frame.refl _ _) rfl rfl rfl rfl rfl rfl
  | configWrite p => exact execConfigWrite_answers p (Frame.refl _ _) rfl rfl rfl rfl rfl rfl rfl
  | configRead p => exact execConfigRead_answers p (Frame.refl _ _) rfl rfl rfl rfl rfl rfl
  | configReport p => exact execConfigReport_answers p (Frame.refl _ _) rfl rfl rfl rfl rfl rfl
  | contextList p => exact execContextList_answers p (Frame.refl _ _) rfl rfl rfl rfl rfl rfl
  | setBudget p => exact execSetBudget_answers p (Frame.refl _ _) rfl rfl rfl rfl rfl rfl rfl
  | getBudget p => exact execGetBudget_answers p (Frame.refl _ _) rfl rfl rfl rfl rfl rfl
  | setLease p => exact execSetLease_answers p (Frame.refl _ _) rfl rfl rfl rfl rfl rfl rfl
  | loopSet p => exact execLoopSet_answers p (Frame.refl _ _) rfl rfl rfl rfl rfl rfl rfl rfl rfl
  | loopGet p => exact execLoopGet_answers p (Frame.refl _ _) rfl rfl rfl rfl rfl rfl
  | injectStart p => exact execInjectStart_answers p (Frame.refl _ _) rfl rfl rfl rfl rfl rfl
  | captureRead p => exact execCaptureRead_answers p (Frame.refl _ _) rfl rfl rfl rfl rfl rfl
  | bobbinArm p => exact execBobbinArm_answers p (Frame.refl _ _) rfl rfl rfl rfl rfl rfl
  | bobbinRead p => exact execBobbinRead_answers p (Frame.refl _ _) rfl rfl rfl rfl rfl rfl
  | pumpDisable p => exact execPumpDisable_answers p (Frame.refl _ _) rfl rfl rfl rfl rfl rfl rfl rfl
  | pumpEnable p => exact execPumpEnable_answers p (Frame.refl _ _) rfl rfl rfl rfl rfl rfl rfl rfl
  | pumpSetSpeed p => exact execPumpSetSpeed_answers p (Frame.refl _ _) rfl rfl rfl rfl rfl rfl rfl rfl
  | tableWrite p => exact execTableWrite_answers p (Frame.refl _ _) rfl rfl rfl rfl rfl rfl
  | snapshotAt p => exact execSnapshotAt_answers p (Frame.refl _ _) rfl rfl rfl rfl rfl rfl
  | queryProgress p => exact execQueryProgress_answers p (Frame.refl _ _) rfl rfl rfl rfl rfl rfl
  | readLog p => exact execReadLog_answers p (Frame.refl _ _) rfl rfl rfl rfl rfl rfl rfl
  | updateBegin p => exact execUpdateBegin_answers p (Frame.refl _ _) rfl rfl rfl rfl rfl rfl rfl
  | updateChunk p => exact execUpdateChunk_answers p (Frame.refl _ _) rfl rfl rfl rfl rfl rfl rfl
  | updateVerify p => exact execUpdateVerify_answers p (Frame.refl _ _) rfl rfl rfl rfl rfl rfl rfl rfl
  | updateActivate p => exact execUpdateActivate_answers p (Frame.refl _ _) rfl rfl rfl rfl rfl rfl rfl rfl
  | updateRatchet p => exact execUpdateRatchet_answers p (Frame.refl _ _) rfl rfl rfl rfl rfl rfl rfl rfl
  | updateAbort p => exact execUpdateAbort_answers p (Frame.refl _ _) rfl rfl rfl rfl rfl rfl rfl rfl
  | updateProgramDone ok => exact execUpdateProgramDone_answers ok (Frame.refl _ _) rfl rfl rfl
  | updateActivationReset => exact execUpdateActivationReset_answers (Frame.refl _ _) rfl rfl rfl rfl rfl rfl rfl rfl rfl rfl rfl rfl rfl rfl rfl rfl rfl
  | attest p => exact execAttest_answers p (Frame.refl _ _) rfl rfl rfl rfl rfl rfl rfl
  | calibrationStatus p => exact execCalibrationStatus_answers p (Frame.refl _ _) rfl rfl rfl rfl rfl rfl
  | calibrationControl p => exact execCalibrationControl_answers p (Frame.refl _ _) rfl rfl rfl rfl rfl rfl rfl rfl
  | modbusWriteGrant p => exact execModbusWriteGrant_answers p (Frame.refl _ _) rfl rfl rfl rfl rfl rfl rfl
  | modbusWriteRevoke p => exact execModbusWriteRevoke_answers p (Frame.refl _ _) rfl rfl rfl rfl rfl rfl rfl
  | modbusGrantEnd => exact execModbusGrantEnd_answers (Frame.refl _ _) rfl
  | twinStatus p => exact execTwinStatus_answers p (Frame.refl _ _) rfl rfl rfl rfl rfl rfl
  | modbusReadHolding conn addr count => exact execModbusReadHolding_answers conn addr count (Frame.refl _ _) rfl rfl
  | modbusReadInput conn addr count => exact execModbusReadInput_answers conn addr count (Frame.refl _ _) rfl rfl
  | modbusWriteSingle conn addr v => exact execModbusWriteSingle_answers conn addr v (Frame.refl _ _) rfl rfl rfl rfl
  | modbusWriteMultiple conn addr vals => exact execModbusWriteMultiple_answers conn addr vals (Frame.refl _ _) rfl rfl rfl rfl
  | modbusAlarmAck conn => exact execModbusAlarmAck_answers conn (Frame.refl _ _) rfl rfl rfl rfl
  | modbusBadFunction conn => exact execModbusBadFunction_answers conn (Frame.refl _ _) rfl rfl
  | modbusIdleClose conn => exact execModbusIdleClose_answers conn (Frame.refl _ _) rfl
  | boardSensorWarning q v => exact execBoardSensorWarning_answers q v (Frame.refl _ _) rfl rfl
  | dieTemperatureWarning d t => exact execDieTemperatureWarning_answers d t (Frame.refl _ _) rfl rfl rfl
  | dieShutdown d t => exact execDieShutdown_answers d t (Frame.refl _ _) rfl rfl rfl rfl rfl rfl rfl rfl rfl rfl rfl
  | vinUndervoltage => exact execVinUndervoltage_answers (Frame.refl _ _) rfl rfl rfl rfl rfl rfl rfl rfl rfl rfl rfl
  | actuatorUndervoltage => exact execActuatorUndervoltage_answers (Frame.refl _ _) rfl rfl
  | pllUnlock => exact execPllUnlock_answers (Frame.refl _ _) rfl rfl rfl rfl rfl rfl rfl rfl rfl rfl rfl
  | coreStallDetect c => exact execCoreStallDetect_answers c (Frame.refl _ _) rfl rfl rfl rfl
  | logFlush => exact execLogFlush_answers (Frame.refl _ _) rfl rfl rfl rfl rfl rfl
  | timebaseSave => exact execTimebaseSave_answers (Frame.refl _ _) rfl
  | mgMessagePost wptr => exact execMgMessagePost_answers wptr (Frame.refl _ _) rfl rfl
  | mgAnswer words => exact execMgAnswer_answers words (Frame.refl _ _) rfl rfl rfl
  | warmArmWrite by_ => exact execWarmArmWrite_answers by_ (Frame.refl _ _) rfl rfl rfl rfl rfl rfl rfl rfl rfl rfl rfl rfl rfl rfl rfl rfl rfl
  | ckTimeLoRead => exact execCkTimeLoRead_answers (Frame.refl _ _) rfl rfl
  | tripRowLatch r => exact execTripRowLatch_answers r (Frame.refl _ _) rfl rfl rfl rfl rfl rfl rfl rfl rfl rfl rfl rfl
  | tmLockWrite => exact execTmLockWrite_answers (Frame.refl _ _) rfl
  | tripLatchClear w v => exact execTripLatchClear_answers w v (Frame.refl _ _) rfl rfl
  | rcRegisterRead addr => exact execRcRegisterRead_answers addr (Frame.refl _ _) rfl rfl rfl rfl rfl rfl rfl rfl rfl rfl
  | registerWrite by_ addr v => exact execRegisterWrite_answers by_ addr v (Frame.refl _ _) rfl rfl rfl rfl rfl rfl rfl rfl rfl rfl rfl rfl
  | svcVer => exact execSvcVer_answers (Frame.refl _ _) rfl
  | svcState => exact execSvcState_answers (Frame.refl _ _) rfl
  | svcSensors => exact execSvcSensors_answers (Frame.refl _ _) rfl
  | svcTp => exact execSvcTp_answers (Frame.refl _ _) rfl
  | svcLog n => exact execSvcLog_answers n (Frame.refl _ _) rfl
  | svcLogCodes => exact execSvcLogCodes_answers (Frame.refl _ _) rfl
  | svcModeService key => exact execSvcModeService_answers key (Frame.refl _ _) rfl rfl rfl rfl rfl
  | svcModeTable => exact execSvcModeTable_answers (Frame.refl _ _) rfl rfl rfl rfl
  | svcUpdate => exact execSvcUpdate_answers (Frame.refl _ _) rfl
  | svcAttest nonce => exact execSvcAttest_answers nonce (Frame.refl _ _) rfl rfl rfl
  | svcModbus => exact execSvcModbus_answers (Frame.refl _ _) rfl
  | svcLe => exact execSvcLe_answers (Frame.refl _ _) rfl
  | svcLoop k => exact execSvcLoop_answers k (Frame.refl _ _) rfl
  | svcTrellis => exact execSvcTrellis_answers (Frame.refl _ _) rfl
  | svcTrellisModel => exact execSvcTrellisModel_answers (Frame.refl _ _) rfl
  | svcTrellisClearfail => exact execSvcTrellisClearfail_answers (Frame.refl _ _) rfl rfl rfl rfl rfl rfl rfl rfl rfl rfl
  | svcPb => exact execSvcPb_answers (Frame.refl _ _) rfl
  | svcCtx c => exact execSvcCtx_answers c (Frame.refl _ _) rfl
  | svcBrakeOn r => exact execSvcBrakeOn_answers r (Frame.refl _ _) rfl rfl rfl rfl rfl rfl rfl rfl rfl rfl
  | svcBrakeOff r => exact execSvcBrakeOff_answers r (Frame.refl _ _) rfl rfl rfl rfl rfl rfl rfl rfl rfl rfl
  | svcVq => exact execSvcVq_answers (Frame.refl _ _) rfl
  | svcVqSqSrc q src => exact execSvcVqSqSrc_answers q src (Frame.refl _ _) rfl rfl rfl rfl rfl rfl rfl rfl rfl rfl
  | svcVqSqPeek q => exact execSvcVqSqPeek_answers q (Frame.refl _ _) rfl
  | svcPfPmgrOn => exact execSvcPfPmgrOn_answers (Frame.refl _ _) rfl rfl rfl rfl rfl rfl rfl rfl rfl rfl
  | svcPfPmgrOff => exact execSvcPfPmgrOff_answers (Frame.refl _ _) rfl rfl rfl rfl rfl rfl rfl rfl rfl rfl
  | svcPump n => exact execSvcPump_answers n (Frame.refl _ _) rfl
  | svcPumpSet n v => exact execSvcPumpSet_answers n v (Frame.refl _ _) rfl rfl rfl rfl rfl rfl
  | svcFan k => exact execSvcFan_answers k (Frame.refl _ _) rfl
  | svcHyd => exact execSvcHyd_answers (Frame.refl _ _) rfl
  | svcCal r => exact execSvcCal_answers r (Frame.refl _ _) rfl
  | svcSnInput k => exact execSvcSnInput_answers k (Frame.refl _ _) rfl
  | svcSnDi => exact execSvcSnDi_answers (Frame.refl _ _) rfl
  | svcLeak k => exact execSvcLeak_answers k (Frame.refl _ _) rfl
  | svcCp => exact execSvcCp_answers (Frame.refl _ _) rfl
  | svcSv n => exact execSvcSv_answers n (Frame.refl _ _) rfl
  | svcSvClear n => exact execSvcSvClear_answers n (Frame.refl _ _) rfl rfl
  | svcSvClose n => exact execSvcSvClose_answers n (Frame.refl _ _) rfl rfl rfl rfl rfl rfl rfl rfl rfl rfl
  | svcSvOpen n => exact execSvcSvOpen_answers n (Frame.refl _ _) rfl rfl rfl rfl rfl rfl rfl rfl rfl rfl
  | svcSvGroup g => exact execSvcSvGroup_answers g (Frame.refl _ _) rfl
  | svcFb n => exact execSvcFb_answers n (Frame.refl _ _) rfl
  | svcDicTest => exact execSvcDicTest_answers (Frame.refl _ _) rfl rfl rfl rfl rfl
  | svcTwin => exact execSvcTwin_answers (Frame.refl _ _) rfl
  | svcTwinHandover => exact execSvcTwinHandover_answers (Frame.refl _ _) rfl rfl
  | svcMem => exact execSvcMem_answers (Frame.refl _ _) rfl
  | svcCellar c => exact execSvcCellar_answers c (Frame.refl _ _) rfl rfl rfl
  | svcCxl => exact execSvcCxl_answers (Frame.refl _ _) rfl
  | svcCxlPing hostAllows => exact execSvcCxlPing_answers hostAllows (Frame.refl _ _) rfl rfl rfl rfl rfl rfl
  | svcBaud rate => exact execSvcBaud_answers rate (Frame.refl _ _) rfl rfl
  | svcRecover image => exact execSvcRecover_answers image (Frame.refl _ _) rfl rfl
  | pllLock => exact execPllLock_answers (Frame.refl _ _) rfl rfl rfl rfl
  | ownershipLineOwned => exact execOwnershipLineOwned_answers (Frame.refl _ _) rfl rfl rfl rfl rfl rfl rfl rfl
  | excEnNAssert => exact execExcEnNAssert_answers (Frame.refl _ _) rfl
  | pulseInputMeasurement n period ua => exact execPulseInputMeasurement_answers n period ua (Frame.refl _ _) rfl rfl rfl rfl rfl rfl
  | modbusConnection conn => exact execModbusConnection_answers conn (Frame.refl _ _) rfl
  | hubSramScrub ecc supervisor => exact execHubSramScrub_answers ecc supervisor (Frame.refl _ _) rfl rfl rfl rfl rfl rfl rfl rfl rfl rfl rfl

theorem exec_keeps_inv {i : Instr} {s t : State} (h : exec i s = .next t) (hs : s.Inv) : t.Inv := by
  obtain ⟨u, hu, hf⟩ := exec_answers i s
  cases hu.symm.trans h
  exact hf.inv hs

theorem tick_frame (s : State) : Frame { time := true } s s.tick :=
  frame_ite (set_time_frame _ (Frame.refl _ _) rfl) (Frame.refl _ _)

/-- Settles O4: a step runs the command at the front of the queue, or lets one count pass; both keep the invariant. -/
theorem stepKeepsInv : Obligations.StepKeepsInv := by
  unfold Obligations.StepKeepsInv
  intro s t hs h
  unfold step at h
  split at h
  · exact exec_keeps_inv h ⟨hs.regs, hs.mem⟩
  · cases h
    exact (tick_frame s).inv hs

/-- After reset the register file lists CK_STATUS alone. -/
theorem reset_word_ne {a : Nat} (h : a ≠ CK_STATUS_RESET_CAUSE.addr) : State.reset.word a = (resetWord a).toNat := by
  have hf : tfind State.reset.regs a = none := by
    simp only [State.reset, tfind, if_neg (Ne.symm h : 0x4F000004 ≠ a)]
  unfold State.word regWord
  rw [hf]
  rfl

theorem reset_inv : State.reset.Inv := ⟨by decide +kernel, by decide +kernel⟩

/-- Settles O5: the reset state lists one register word and no byte, and reads of the rest give the reset values. -/
theorem resetInv : Obligations.ResetInv := by
  unfold Obligations.ResetInv
  exact ⟨reset_inv, rfl, rfl, rfl, rfl, by decide +kernel, fun a h => reset_word_ne h⟩

end Sys2Proof.Machine
end

section
/-! The injection channels: what arming and ending leave in their registers (R57 to R59). -/

namespace Sys2Proof.Machine

@[simp] theorem setInj_rd (s : State) (c : Nat) (x : Inj) (f : RF) : (s.setInj c x).rd f = s.rd f :=
  onLe_rd s _ f

theorem regsBut_setInj {l : Nat → Prop} {s0 s : State} (c : Nat) (x : Inj) (h : RegsBut l s0 s) :
    RegsBut l s0 (s.setInj c x) := regsBut_onLe _ h

theorem injArm_state (s : State) (c : Nat) (h : s.regsWf) : (s.injArm c).rd (LE_INJ_CTRL_STATE c) = 1 := by
  unfold State.injArm
  rw [setInj_rd, rd_wr_ne _ _ _ _ (by simp [LE_INJ_CTRL_STATE, LE_INJ_COUNT]),
    rd_wr_same _ _ _ (putBit_regsWf _ _ _ (putBit_regsWf _ _ _ h)) (by simp [LE_INJ_CTRL_STATE])
      (by simp [LE_INJ_CTRL_STATE])]
  rfl

theorem injArm_count (s : State) (c : Nat) (h : s.regsWf) : (s.injArm c).rd (LE_INJ_COUNT c) = 0 := by
  unfold State.injArm
  rw [setInj_rd, rd_wr_same _ _ _ (wr_regsWf _ _ _ (putBit_regsWf _ _ _ (putBit_regsWf _ _ _ h)))
    (by simp [LE_INJ_COUNT]) (by simp [LE_INJ_COUNT]), Nat.zero_mod]

theorem injArm_le (s : State) (c : Nat) : (s.injArm c).le = { s.le with inj := tset {} s.le.inj c {} } := by
  simp [State.injArm, State.setInj]

theorem injArm_regsBut (s : State) (c : Nat) :
    RegsBut (fun a => a = (LE_INJ_CTRL_STATE c).addr ∨ a = (LE_INJ_COUNT c).addr) s (s.injArm c) :=
  regsBut_setInj _ _ (regsBut_wr _ _ (regsBut_wr _ _ (regsBut_wr _ _ (regsBut_wr _ _ (RegsBut.refl _ s) (Or.inl rfl))
    (Or.inl rfl)) (Or.inl rfl)) (Or.inr rfl))

/-- The registers that the end of channel `c` of slot `k` may write. -/
def injEndReg (c k a : Nat) : Prop :=
  a = (LE_INJ_CTRL_STATE c).addr ∨ a = (SL_FLAGS_INJ_ACTIVE k).addr ∨ noteReg a

/-- The slot that a channel injects into is read beside the two bits that its end clears first. -/
theorem injSlot_kept (s : State) (c : Nat) (h : s.regsWf) :
    ((s.putBit (LE_INJ_CTRL_START c) false).putBit (LE_INJ_CTRL_STOP c) false).rd (LE_INJ_CTRL_SLOT c) =
      s.rd (LE_INJ_CTRL_SLOT c) :=
  calc ((s.putBit (LE_INJ_CTRL_START c) false).putBit (LE_INJ_CTRL_STOP c) false).rd (LE_INJ_CTRL_SLOT c)
      = (s.putBit (LE_INJ_CTRL_START c) false).rd (LE_INJ_CTRL_SLOT c) :=
        rd_wr_disjoint _ (LE_INJ_CTRL_STOP c) _ _ (putBit_regsWf _ _ _ h) (by simp [LE_INJ_CTRL_STOP])
          (by simp [LE_INJ_CTRL_STOP]) rfl (by simp [LE_INJ_CTRL_STOP, LE_INJ_CTRL_SLOT])
    _ = s.rd (LE_INJ_CTRL_SLOT c) :=
        rd_wr_disjoint _ (LE_INJ_CTRL_START c) _ _ h (by simp [LE_INJ_CTRL_START])
          (by simp [LE_INJ_CTRL_START]) rfl (by simp [LE_INJ_CTRL_START, LE_INJ_CTRL_SLOT])

theorem injEnd_regsBut (s : State) (c st : Nat) (hc : c < 32) (h : s.regsWf) :
    RegsBut (injEndReg c (s.rd (LE_INJ_CTRL_SLOT c))) s (s.injEnd c st) := by
  unfold State.injEnd
  dsimp only
  rw [injSlot_kept s c h]
  exact regsBut_post (fun a ha => Or.inr (Or.inr ha)) _ (by omega) (regsBut_setInj _ _ (regsBut_wr _ _ (regsBut_wr _ _
    (regsBut_wr _ _ (regsBut_wr _ _ (RegsBut.refl _ s) (Or.inl rfl)) (Or.inl rfl)) (Or.inl rfl)) (Or.inr (Or.inl rfl))))

/-- A channel's word is none of those that a doorbell writes. -/
theorem injState_not_noteReg (c : Nat) (hc : c < 32) : ¬ noteReg (LE_INJ_CTRL_STATE c).addr := by
  simp only [noteReg, LE_INJ_CTRL_STATE]
  omega

theorem injEnd_state (s : State) (c st : Nat) (hc : c < 32) (h : s.regsWf) :
    (s.injEnd c st).rd (LE_INJ_CTRL_STATE c) = st % 8 := by
  unfold State.injEnd
  dsimp only
  rw [(regsBut_post (fun _ ha => ha) _ (by omega) (RegsBut.refl noteReg _)).rd _ (injState_not_noteReg c hc), setInj_rd,
    rd_putBit_ne _ _ _ _ (by simp [SL_FLAGS_INJ_ACTIVE, LE_INJ_CTRL_STATE]; omega),
    rd_wr_same _ _ _ (putBit_regsWf _ _ _ (putBit_regsWf _ _ _ h)) (by simp [LE_INJ_CTRL_STATE])
      (by simp [LE_INJ_CTRL_STATE])]
  rfl

/-- INJECTION_START at its time. -/
theorem execInjectionStart_runs (c : Fin 32) (s : State) (h1 : s.rd (LE_INJ_CTRL_STATE c) = 1)
    (h : (s.rd64 (LE_INJ_START_LO c) = 0 ∧ (s.slot (s.rd (LE_INJ_CTRL_SLOT c))).release.isSome = true) ∨
      (s.rd64 (LE_INJ_START_LO c) ≠ 0 ∧ s.rd64 (LE_INJ_START_LO c) ≤ s.time + min (s.rd (LE_INJ_CAP_PRE c)) 1024 *
        ((s.rd (LE_INJ_CAP_DECIM c) + 255) % 256 + 1) * s.period (s.rd (LE_INJ_CTRL_SLOT c)))) :
    execInjectionStart c s = .next ((s.wr (LE_INJ_CTRL_STATE c) 2).setInj c
      { preLeft := min (s.rd (LE_INJ_CAP_PRE c)) 1024 }) := if_pos ⟨h1, h⟩

/-- INJECTION_START before its time. -/
theorem execInjectionStart_waits (c : Fin 32) (s : State)
    (h : (s.rd64 (LE_INJ_START_LO c) = 0 ∧ (s.slot (s.rd (LE_INJ_CTRL_SLOT c))).release = none) ∨
      (s.rd64 (LE_INJ_START_LO c) ≠ 0 ∧ s.time + min (s.rd (LE_INJ_CAP_PRE c)) 1024 *
        ((s.rd (LE_INJ_CAP_DECIM c) + 255) % 256 + 1) * s.period (s.rd (LE_INJ_CTRL_SLOT c)) < s.rd64
          (LE_INJ_START_LO c))) : execInjectionStart c s = .next s := by
  refine if_neg fun hc => ?_
  rcases h with ⟨h0, hr⟩ | ⟨h0, ht⟩ <;> rcases hc.2 with ⟨g0, gr⟩ | ⟨g0, gt⟩
  · simp [hr] at gr
  · exact g0 h0
  · exact h0 g0
  · omega

theorem execInjCtrlStop_armed (c : Fin 32) (s : State) (h : s.rd (LE_INJ_CTRL_STATE c) = 1) :
    execInjCtrlStop c s = .next (s.injEnd c 4) := by
  unfold execInjCtrlStop
  simp only [h]

theorem execInjCtrlStop_other (c : Fin 32) (s : State) (h : s.rd (LE_INJ_CTRL_STATE c) ≠ 1) :
    execInjCtrlStop c s = .next (s.putBit (LE_INJ_CTRL_STOP c) true) := by
  unfold execInjCtrlStop
  split
  next h1 => exact absurd h1 h
  next => rfl

theorem execCaptureDone_full (c : Fin 32) (s : State) (h : s.rd (LE_INJ_CTRL_STATE c) = 2)
    (hn : 4096 ≤ s.rd (LE_INJ_COUNT c)) :
    execCaptureDone c s = .next (s.injEnd c 3) := by
  unfold execCaptureDone
  rw [if_pos ⟨h, hn⟩]

theorem execCaptureDone_other (c : Fin 32) (s : State)
    (h : s.rd (LE_INJ_CTRL_STATE c) ≠ 2 ∨ s.rd (LE_INJ_COUNT c) < 4096) :
    execCaptureDone c s = .next s := by
  unfold execCaptureDone
  rw [if_neg (by omega)]

/-- Settles O12: each command by its equation, and the registers by the lemmas on arming and ending a channel. -/
theorem injectionAndBobbins : Obligations.InjectionAndBobbins := by
  unfold Obligations.InjectionAndBobbins
  refine ⟨?start, ?runs, ?waits, ?notArmed, ?stopArmed, ?stopOther, ?done, ?notDone⟩
  case start =>
    intro s c hs
    exact answers_with (execInjCtrlStart_answers c (Frame.refl _ _) rfl rfl) rfl
      ⟨injArm_state s c hs.regs, injArm_count s c hs.regs, injArm_le s c, injArm_regsBut s c⟩
  case runs =>
    intro s c hs h1 h
    refine answers_with (execInjectionStart_answers c (Frame.refl _ _) rfl rfl) (execInjectionStart_runs c s h1 h)
      ⟨?_, by simp [State.setInj], by simp [State.setInj], regsBut_setInj _ _ (regsBut_wr _ _ (RegsBut.refl _ s) rfl)⟩
    rw [setInj_rd, rd_wr_same _ _ _ hs.regs (by simp [LE_INJ_CTRL_STATE]) (by simp [LE_INJ_CTRL_STATE])]
    rfl
  case waits =>
    intro s c _ h
    exact answers_with (execInjectionStart_answers c (Frame.refl _ _) rfl rfl) (execInjectionStart_waits c s h) rfl
  case notArmed =>
    intro s c h
    exact answers_with (execInjectionStart_answers c (Frame.refl _ _) rfl rfl) (if_neg fun hc => h hc.1) rfl
  case stopArmed =>
    intro s c hs h
    exact answers_with (execInjCtrlStop_answers c (Frame.refl _ _) rfl rfl rfl) (execInjCtrlStop_armed c s h)
      ⟨injEnd_state s c 4 c.isLt hs.regs, injEnd_regsBut s c 4 c.isLt hs.regs⟩
  case stopOther =>
    intro s c hs h
    exact answers_with (execInjCtrlStop_answers c (Frame.refl _ _) rfl rfl rfl) (execInjCtrlStop_other c s h)
      ⟨bit_putBit_same s _ true hs.regs (by simp [LE_INJ_CTRL_STOP]) (by simp [LE_INJ_CTRL_STOP]), wr_le s _ _,
        regsBut_wr _ _ (RegsBut.refl _ s) rfl⟩
  case done =>
    intro s c hs h2 hn
    exact answers_with (execCaptureDone_answers c (Frame.refl _ _) rfl rfl rfl) (execCaptureDone_full c s h2 hn)
      ⟨injEnd_state s c 3 c.isLt hs.regs, injEnd_regsBut s c 3 c.isLt hs.regs⟩
  case notDone =>
    intro s c h
    exact answers_with (execCaptureDone_answers c (Frame.refl _ _) rfl rfl rfl) (execCaptureDone_other c s h) rfl

end Sys2Proof.Machine
end

section
/-! The bobbins (R60 to R63): what arming, stopping, marking and triggering leave in their registers. -/

namespace Sys2Proof.Machine

@[simp] theorem setBob_rd (s : State) (b : Nat) (x : Bob) (f : RF) : (s.setBob b x).rd f = s.rd f :=
  onLe_rd s _ f

@[simp] theorem setBob_bit (s : State) (b : Nat) (x : Bob) (f : RF) : (s.setBob b x).bit f = s.bit f :=
  onLe_bit s _ f

theorem regsBut_setBob {l : Nat → Prop} {s0 s : State} (b : Nat) (x : Bob) (h : RegsBut l s0 s) :
    RegsBut l s0 (s.setBob b x) := regsBut_onLe _ h

/-! ### Stopping -/

theorem bobStop_stopped (s : State) (b : Nat) (h : s.regsWf) : (s.bobStop b).bit (BOB_STATUS_STOPPED b) = true := by
  have h1 := putBit_regsWf s (BOB_CTRL_ARM b) false h
  exact (bit_putBit_disjoint _ (BOB_STATUS_ARMED b) (BOB_STATUS_STOPPED b) false (putBit_regsWf _ _ _ h1)
    (by simp [BOB_STATUS_ARMED]) (by simp [BOB_STATUS_ARMED]) rfl
      (by simp [BOB_STATUS_ARMED, BOB_STATUS_STOPPED])).trans
    (bit_putBit_same _ _ true h1 (by simp [BOB_STATUS_STOPPED]) (by simp [BOB_STATUS_STOPPED]))

theorem bobStop_armed (s : State) (b : Nat) (h : s.regsWf) : (s.bobStop b).bit (BOB_STATUS_ARMED b) = false :=
  bit_putBit_same _ _ _ (putBit_regsWf _ _ _ (putBit_regsWf _ _ _ h)) (by simp [BOB_STATUS_ARMED])
    (by simp [BOB_STATUS_ARMED])

/-- The registers that stopping a bobbin may write. -/
def bobStopReg (b a : Nat) : Prop := a = (BOB_CTRL b).addr ∨ a = (BOB_STATUS b).addr

theorem bobStop_regsBut {s0 s : State} (b : Nat) (h : RegsBut (bobStopReg b) s0 s) :
    RegsBut (bobStopReg b) s0 (s.bobStop b) :=
  regsBut_wr _ _ (regsBut_wr _ _ (regsBut_wr _ _ h (Or.inl rfl)) (Or.inr rfl)) (Or.inr rfl)

/-! ### Arming -/

/-- A bobbin whose ring pointers have been cleared for arming. -/
def State.bobRewound (s : State) (b : Nat) : State :=
  let s := (s.putBit (BOB_CTRL_ARM b) true).putBit (BOB_CTRL_STOP b) false
  let s := (s.putBit (BOB_CTRL_MARK b) false).putBit (BOB_CTRL_SW_TRIG b) false
  (s.wr (BOB_WPTR b) 0).wr (BOB_TRIGPTR b) 0

theorem bobArm_eq (s : State) (b : Nat) : s.bobArm b =
    ((((s.bobRewound b).putBit (BOB_MARKPTR_VALID b) false).wr (BOB_STATUS b) 0).putBit
      (BOB_STATUS_ARMED b) true).setBob
      b {} := by
  unfold State.bobArm State.bobRewound
  dsimp only

theorem bobRewound_regsWf (s : State) (b : Nat) (h : s.regsWf) : (s.bobRewound b).regsWf :=
  wr_regsWf _ _ _ (wr_regsWf _ _ _
    (putBit_regsWf _ _ _ (putBit_regsWf _ _ _ (putBit_regsWf _ _ _ (putBit_regsWf _ _ _ h)))))

theorem bobRewound_wptr (s : State) (b : Nat) (h : s.regsWf) : (s.bobRewound b).rd (BOB_WPTR b) = 0 :=
  (rd_wr_ne _ (BOB_TRIGPTR b) (BOB_WPTR b) _ (by simp [BOB_TRIGPTR, BOB_WPTR])).trans
    (rd_wr_zero _ (BOB_WPTR b) (BOB_WPTR b) (putBit_regsWf _ _ _ (putBit_regsWf _ _ _ (putBit_regsWf _ _ _
      (putBit_regsWf _ _ _ h)))) rfl rfl rfl)

/-- The registers that arming a bobbin may write. -/
def bobArmReg (b a : Nat) : Prop :=
  a = (BOB_WPTR b).addr ∨ a = (BOB_TRIGPTR b).addr ∨ a = (BOB_MARKPTR b).addr ∨ a = (BOB_CTRL b).addr ∨
    a = (BOB_STATUS b).addr

theorem bobRewound_regsBut (s : State) (b : Nat) : RegsBut (bobArmReg b) s (s.bobRewound b) := by
  have hc : bobArmReg b (BOB_CTRL b).addr := Or.inr (Or.inr (Or.inr (Or.inl rfl)))
  exact regsBut_wr _ _ (regsBut_wr _ _ (regsBut_wr _ _ (regsBut_wr _ _ (regsBut_wr _ _ (regsBut_wr _ _
    (RegsBut.refl _ s) hc) hc) hc) hc) (Or.inl rfl)) (Or.inr (Or.inl rfl))

theorem bobArm_regsBut (s : State) (b : Nat) : RegsBut (bobArmReg b) s (s.bobArm b) := by
  have hs : bobArmReg b (BOB_STATUS b).addr := Or.inr (Or.inr (Or.inr (Or.inr rfl)))
  rw [bobArm_eq]
  exact regsBut_setBob _ _ (regsBut_wr _ _ (regsBut_wr _ _ (regsBut_wr _ _ (bobRewound_regsBut s b)
    (Or.inr (Or.inr (Or.inl rfl)))) hs) hs)

theorem bobArm_armed (s : State) (b : Nat) (h : s.regsWf) : (s.bobArm b).bit (BOB_STATUS_ARMED b) = true := by
  rw [bobArm_eq, setBob_bit]
  exact bit_putBit_same _ _ _ (wr_regsWf _ _ _ (putBit_regsWf _ _ _ (bobRewound_regsWf s b h)))
    (by simp [BOB_STATUS_ARMED]) (by simp [BOB_STATUS_ARMED])

/-- Arming leaves every status bit above ARMED at 0. -/
theorem bobArm_status (s : State) (b : Nat) (h : s.regsWf) (g : RF) (ha : g.addr = (BOB_STATUS_ARMED b).addr)
    (hg : 0 < g.lo) :
    (s.bobArm b).bit g = false := by
  have h1 := putBit_regsWf _ (BOB_MARKPTR_VALID b) false (bobRewound_regsWf s b h)
  rw [bobArm_eq, setBob_bit, bit_putBit_disjoint _ _ _ _ (wr_regsWf _ _ _ h1) (by simp [BOB_STATUS_ARMED])
    (by simp [BOB_STATUS_ARMED]) ha (by simp [BOB_STATUS_ARMED, hg])]
  unfold State.bit
  rw [rd_wr_zero _ (BOB_STATUS b) g h1 rfl rfl ha]
  rfl

theorem bobArm_wptr (s : State) (b : Nat) (h : s.regsWf) : (s.bobArm b).rd (BOB_WPTR b) = 0 := by
  rw [bobArm_eq, setBob_rd, rd_putBit_ne _ _ _ _ (by simp [BOB_STATUS_ARMED, BOB_WPTR]),
    rd_wr_ne _ _ _ _ (by simp [BOB_STATUS, BOB_WPTR]), rd_putBit_ne _ _ _ _ (by simp [BOB_MARKPTR_VALID, BOB_WPTR]),
    bobRewound_wptr s b h]

theorem bobArm_mark (s : State) (b : Nat) (h : s.regsWf) : (s.bobArm b).bit (BOB_MARKPTR_VALID b) = false := by
  rw [bobArm_eq, setBob_bit, bit_putBit_ne _ _ _ _ (by simp [BOB_STATUS_ARMED, BOB_MARKPTR_VALID]),
    bit_wr_ne _ _ _ _ (by simp [BOB_STATUS, BOB_MARKPTR_VALID]),
    bit_putBit_same _ _ _ (bobRewound_regsWf s b h) (by simp [BOB_MARKPTR_VALID]) (by simp [BOB_MARKPTR_VALID])]

theorem bobArm_le (s : State) (b : Nat) : (s.bobArm b).le = { s.le with bob := tset {} s.le.bob b {} } := by
  simp [State.bobArm, State.setBob]

/-! ### The mark -/

/-- The mark at entry `i`: its index and VALID. -/
theorem rd_mark (s : State) (b i : Nat) (h : s.regsWf) :
    ((s.wr (BOB_MARKPTR_IDX b) i).putBit (BOB_MARKPTR_VALID b) true).rd (BOB_MARKPTR_IDX b) = i % 2 ^ 16 :=
  (rd_wr_disjoint _ (BOB_MARKPTR_VALID b) (BOB_MARKPTR_IDX b) _ (wr_regsWf _ _ _ h) (by simp [BOB_MARKPTR_VALID])
    (by simp [BOB_MARKPTR_VALID]) rfl (by simp [BOB_MARKPTR_VALID, BOB_MARKPTR_IDX])).trans
    (rd_wr_same s (BOB_MARKPTR_IDX b) i h (by simp [BOB_MARKPTR_IDX]) (by simp [BOB_MARKPTR_IDX]))

/-- The write pointer's index is 16 bits wide. -/
theorem wptr_mod (s : State) (b : Nat) : s.rd (BOB_WPTR_IDX b) % 2 ^ 16 = s.rd (BOB_WPTR_IDX b) :=
  Nat.mod_eq_of_lt (rd_lt s (BOB_WPTR_IDX b))

/-! ### Triggering -/

/-- A bobbin at its trigger, before the mark: TRIGGERED and the trigger pointer set. -/
def State.bobTriggered (s : State) (b idx : Nat) : State :=
  ((s.putBit (BOB_STATUS_TRIGGERED b) true).putBit (BOB_TRIGPTR_TRIGGERED b) true).wr (BOB_TRIGPTR_IDX b) idx

theorem bobTriggered_regsWf (s : State) (b idx : Nat) (h : s.regsWf) : (s.bobTriggered b idx).regsWf :=
  wr_regsWf _ _ _ (putBit_regsWf _ _ _ (putBit_regsWf _ _ _ h))

theorem bobTriggered_bit (s : State) (b idx : Nat) (h : s.regsWf) :
    (s.bobTriggered b idx).bit (BOB_STATUS_TRIGGERED b) = true :=
  (bit_wr_ne _ (BOB_TRIGPTR_IDX b) (BOB_STATUS_TRIGGERED b) _ (by simp [BOB_TRIGPTR_IDX, BOB_STATUS_TRIGGERED])).trans
    ((bit_putBit_ne _ (BOB_TRIGPTR_TRIGGERED b) (BOB_STATUS_TRIGGERED b) _
      (by simp [BOB_TRIGPTR_TRIGGERED, BOB_STATUS_TRIGGERED])).trans
      (bit_putBit_same s _ true h (by simp [BOB_STATUS_TRIGGERED]) (by simp [BOB_STATUS_TRIGGERED])))

theorem bobTriggered_idx (s : State) (b idx : Nat) (h : s.regsWf) :
    (s.bobTriggered b idx).rd (BOB_TRIGPTR_IDX b) = idx % 2 ^ 16 :=
  rd_wr_same _ (BOB_TRIGPTR_IDX b) idx (putBit_regsWf _ _ _ (putBit_regsWf _ _ _ h)) (by simp [BOB_TRIGPTR_IDX])
    (by simp [BOB_TRIGPTR_IDX])

theorem bobTriggered_mode (s : State) (b idx : Nat) :
    (s.bobTriggered b idx).rd (BOB_CTRL_MODE b) = s.rd (BOB_CTRL_MODE b) :=
  (rd_wr_ne _ (BOB_TRIGPTR_IDX b) (BOB_CTRL_MODE b) _ (by simp [BOB_TRIGPTR_IDX, BOB_CTRL_MODE])).trans
    ((rd_putBit_ne _ (BOB_TRIGPTR_TRIGGERED b) _ _ (by simp [BOB_TRIGPTR_TRIGGERED, BOB_CTRL_MODE])).trans
      (rd_putBit_ne s (BOB_STATUS_TRIGGERED b) _ _ (by simp [BOB_STATUS_TRIGGERED, BOB_CTRL_MODE])))

/-- The registers that a trigger of a bobbin may write beside those of the doorbell controller. -/
def bobTrigReg (b a : Nat) : Prop :=
  a = (BOB_STATUS b).addr ∨ a = (BOB_TRIGPTR b).addr ∨ a = (BOB_MARKPTR b).addr

theorem bobTriggered_regsBut {l : Nat → Prop} {b : Nat} (hl : ∀ a, bobTrigReg b a → l a) {s0 s : State} (idx : Nat)
    (h : RegsBut l s0 s) : RegsBut l s0 (s.bobTriggered b idx) := by
  have ht : l (BOB_TRIGPTR b).addr := hl _ (Or.inr (Or.inl rfl))
  exact regsBut_wr _ _ (regsBut_wr _ _ (regsBut_wr _ _ h (hl _ (Or.inl rfl))) ht) ht

/-- The mark that a trigger sets at entry `idx`. -/
def State.bobTrigMark (s : State) (b idx : Nat) : State :=
  (s.putBit (BOB_MARKPTR_VALID b) true).wr (BOB_MARKPTR_IDX b) idx

theorem bobTrigMark_idx (s : State) (b idx : Nat) (h : s.regsWf) :
    (s.bobTrigMark b idx).rd (BOB_MARKPTR_IDX b) = idx % 2 ^ 16 :=
  rd_wr_same _ (BOB_MARKPTR_IDX b) idx (putBit_regsWf _ _ _ h) (by simp [BOB_MARKPTR_IDX]) (by simp [BOB_MARKPTR_IDX])

theorem bobTrigMark_valid (s : State) (b idx : Nat) (h : s.regsWf) :
    (s.bobTrigMark b idx).bit (BOB_MARKPTR_VALID b) = true := by
  have hv := bit_putBit_same s (BOB_MARKPTR_VALID b) true h (by simp [BOB_MARKPTR_VALID]) (by simp [BOB_MARKPTR_VALID])
  unfold State.bit at hv ⊢
  unfold State.bobTrigMark
  rw [rd_wr_disjoint _ (BOB_MARKPTR_IDX b) (BOB_MARKPTR_VALID b) _ (putBit_regsWf _ _ _ h)
    (by simp [BOB_MARKPTR_IDX]) (by simp [BOB_MARKPTR_IDX]) rfl
    (by simp [BOB_MARKPTR_VALID, BOB_MARKPTR_IDX]), hv]

theorem bobTrigMark_rd (s : State) (b idx : Nat) (g : RF) (hg : g.addr ≠ (BOB_MARKPTR b).addr) :
    (s.bobTrigMark b idx).rd g = s.rd g :=
  (rd_wr_ne _ (BOB_MARKPTR_IDX b) g _ hg).trans (rd_putBit_ne s (BOB_MARKPTR_VALID b) g _ hg)

theorem bobTrigMark_regsBut {l : Nat → Prop} {b : Nat} (hl : l (BOB_MARKPTR b).addr) {s0 s : State} (idx : Nat)
    (h : RegsBut l s0 s) : RegsBut l s0 (s.bobTrigMark b idx) := regsBut_wr _ _ (regsBut_wr _ _ h hl) hl

/-- A trigger of an armed bobbin that has not triggered: the trigger pointer, the count of the entries behind it, in
modes 0 and 1 the mark, and the bobbin's doorbell (R61, R62). -/
theorem bobTrigger_fires (s : State) (b idx : Nat) (ha : s.bit (BOB_STATUS_ARMED b) = true)
    (ht : s.bit (BOB_STATUS_TRIGGERED b) = false) : ∃ f g : Loops → Loops, s.bobTrigger b idx =
      (if s.rd (BOB_CTRL_MODE b) ≤ 1 then (((s.bobTriggered b idx).onLe f).bobTrigMark b idx).onLe g
        else (s.bobTriggered b idx).onLe f).postRaw (72 + b) := by
  rw [← bobTriggered_mode s b idx]
  unfold State.bobTrigger
  rw [if_pos ⟨ha, by simp [ht]⟩]
  simp only [onLe_rd]
  exact ⟨_, _, rfl⟩

/-- The doorbell of a bobbin leaves every register beyond the doorbell controller. -/
theorem postRaw_rd (s : State) (src : Nat) (hs : src < 2048) (f : RF) (hf : 0x40010000 ≤ f.addr) :
    (s.postRaw src).rd f = s.rd f :=
  (regsBut_postRaw_dic (l := fun a => 0x40000100 ≤ a ∧ a < 0x40010000) (fun _ h1 h2 => ⟨h1, h2⟩) src hs
    (RegsBut.refl _ s)).rd f (by omega)

theorem bobTrigger_bit (s : State) (b idx : Nat) (hb : b < 8) (h : s.regsWf) (ha : s.bit (BOB_STATUS_ARMED b) = true)
    (ht : s.bit (BOB_STATUS_TRIGGERED b) = false) : (s.bobTrigger b idx).bit (BOB_STATUS_TRIGGERED b) = true := by
  have hd := bobTriggered_bit s b idx h
  obtain ⟨f, g, e⟩ := bobTrigger_fires s b idx ha ht
  unfold State.bit at hd ⊢
  rw [e, postRaw_rd _ _ (by omega) _ (by simp [BOB_STATUS_TRIGGERED]; omega)]
  split
  · rw [onLe_rd, bobTrigMark_rd _ _ _ _ (by simp [BOB_STATUS_TRIGGERED, BOB_MARKPTR]), onLe_rd, hd]
  · rw [onLe_rd, hd]

theorem bobTrigger_idx (s : State) (b idx : Nat) (hb : b < 8) (h : s.regsWf) (ha : s.bit (BOB_STATUS_ARMED b) = true)
    (ht : s.bit (BOB_STATUS_TRIGGERED b) = false) : (s.bobTrigger b idx).rd (BOB_TRIGPTR_IDX b) = idx % 2 ^ 16 := by
  have hd := bobTriggered_idx s b idx h
  obtain ⟨f, g, e⟩ := bobTrigger_fires s b idx ha ht
  rw [e, postRaw_rd _ _ (by omega) _ (by simp [BOB_TRIGPTR_IDX]; omega)]
  split
  · rw [onLe_rd, bobTrigMark_rd _ _ _ _ (by simp [BOB_TRIGPTR_IDX, BOB_MARKPTR]), onLe_rd, hd]
  · rw [onLe_rd, hd]

theorem bobTrigger_mark (s : State) (b idx : Nat) (hb : b < 8) (h : s.regsWf) (ha : s.bit (BOB_STATUS_ARMED b) = true)
    (ht : s.bit (BOB_STATUS_TRIGGERED b) = false) (hm : s.rd (BOB_CTRL_MODE b) ≤ 1) :
    (s.bobTrigger b idx).rd (BOB_MARKPTR_IDX b) = idx % 2 ^ 16 ∧
      (s.bobTrigger b idx).bit (BOB_MARKPTR_VALID b) = true := by
  obtain ⟨f, g, e⟩ := bobTrigger_fires s b idx ha ht
  have hu : ((s.bobTriggered b idx).onLe f).regsWf := bobTriggered_regsWf s b idx h
  have hv := bobTrigMark_valid _ b idx hu
  rw [if_pos hm] at e
  unfold State.bit at hv ⊢
  rw [e, postRaw_rd _ _ (by omega) _ (by simp [BOB_MARKPTR_IDX]; omega),
    postRaw_rd _ _ (by omega) _ (by simp [BOB_MARKPTR_VALID]; omega), onLe_rd, onLe_rd]
  exact ⟨bobTrigMark_idx _ b idx hu, hv⟩

theorem bobTrigger_regsBut {l : Nat → Prop} {b : Nat} (hb : b < 8) (hl : ∀ a, bobTrigReg b a → l a)
    (hd : ∀ a, 0x40000100 ≤ a → a < 0x40010000 → l a) {s0 s : State} (idx : Nat) (h : RegsBut l s0 s) :
    RegsBut l s0 (s.bobTrigger b idx) := by
  by_cases hc : s.bit (BOB_STATUS_ARMED b) = true ∧ s.bit (BOB_STATUS_TRIGGERED b) = false
  · obtain ⟨f, g, e⟩ := bobTrigger_fires s b idx hc.1 hc.2
    have h1 : RegsBut l s0 ((s.bobTriggered b idx).onLe f) := regsBut_onLe _ (bobTriggered_regsBut hl idx h)
    rw [e]
    exact regsBut_postRaw_dic hd _ (by omega)
      (regsBut_ite (regsBut_onLe _ (bobTrigMark_regsBut (hl _ (Or.inr (Or.inr rfl))) idx h1)) h1)
  · unfold State.bobTrigger
    rw [if_neg (by simpa using hc)]
    exact h

/-- A bobbin that is not armed, or has triggered, takes no trigger. -/
theorem bobTrigger_rests (s : State) (b idx : Nat)
    (h : ¬ (s.bit (BOB_STATUS_ARMED b) = true ∧ s.bit (BOB_STATUS_TRIGGERED b) = false)) : s.bobTrigger b idx = s := by
  unfold State.bobTrigger
  rw [if_neg (by simpa using h)]

/-! ### The commands -/

theorem execBobbinPostComplete_ends (b : Fin 8) (s : State) (ha : s.bit (BOB_STATUS_ARMED b) = true)
    (hm : s.rd (BOB_CTRL_MODE b) = 0) (ht : s.bit (BOB_STATUS_TRIGGERED b) = true) (hp : (s.bob b).postLeft = 0) :
    execBobbinPostComplete b s = .next (s.bobStop b) := by
  unfold execBobbinPostComplete
  rw [if_pos ⟨ha, hm, ht, hp⟩]

theorem execBobbinPostComplete_rests (b : Fin 8) (s : State) (h : s.bit (BOB_STATUS_ARMED b) = false ∨
    s.rd (BOB_CTRL_MODE b) ≠ 0 ∨ s.bit (BOB_STATUS_TRIGGERED b) = false ∨ (s.bob b).postLeft ≠ 0) :
    execBobbinPostComplete b s = .next s := by
  unfold execBobbinPostComplete
  rw [if_neg fun ⟨ha, hm, ht, hp⟩ => by simp [ha, hm, ht, hp] at h]

theorem execBobbinRingFull_ends (b : Fin 8) (s : State) (ha : s.bit (BOB_STATUS_ARMED b) = true)
    (hm : s.rd (BOB_CTRL_MODE b) = 2) (hw : s.bit (BOB_WPTR_WRAPPED b) = true) :
    execBobbinRingFull b s = .next (s.bobStop b) := by
  unfold execBobbinRingFull
  rw [if_pos ⟨ha, hm, hw⟩]

theorem execBobbinRingFull_rests (b : Fin 8) (s : State) (h : s.bit (BOB_STATUS_ARMED b) = false ∨
    s.rd (BOB_CTRL_MODE b) ≠ 2 ∨ s.bit (BOB_WPTR_WRAPPED b) = false) : execBobbinRingFull b s = .next s := by
  unfold execBobbinRingFull
  rw [if_neg fun ⟨ha, hm, hw⟩ => by simp [ha, hm, hw] at h]

/-- The bit STOP stands beside the status of the bobbin. -/
theorem bobStopBit_armed (s : State) (b : Nat) :
    (s.putBit (BOB_CTRL_STOP b) true).bit (BOB_STATUS_ARMED b) = s.bit (BOB_STATUS_ARMED b) :=
  bit_putBit_ne s _ _ true (by simp [BOB_CTRL_STOP, BOB_STATUS_ARMED])

theorem execBobStop_armed (b : Fin 8) (s : State) (h : s.bit (BOB_STATUS_ARMED b) = true) :
    execBobStop b s = .next ((s.putBit (BOB_CTRL_STOP b) true).bobStop b) := by
  unfold execBobStop
  dsimp only
  rw [if_pos ((bobStopBit_armed s b).trans h)]

theorem execBobStop_idle (b : Fin 8) (s : State) (h : s.bit (BOB_STATUS_ARMED b) = false) :
    execBobStop b s = .next (s.putBit (BOB_CTRL_STOP b) true) := by
  unfold execBobStop
  dsimp only
  rw [if_neg (by rw [bobStopBit_armed, h]; decide)]

/-- The bit SW_TRIG stands beside the status of the bobbin and its write pointer. -/
theorem bobSwBit_bit (s : State) (b : Nat) (f : RF) (hf : f.addr ≠ (BOB_CTRL b).addr) :
    (s.putBit (BOB_CTRL_SW_TRIG b) true).bit f = s.bit f := bit_putBit_ne s _ f true hf

theorem bobSwBit_mode (s : State) (b : Nat) (h : s.regsWf) :
    (s.putBit (BOB_CTRL_SW_TRIG b) true).rd (BOB_CTRL_MODE b) = s.rd (BOB_CTRL_MODE b) :=
  rd_wr_disjoint s _ _ _ h (by simp [BOB_CTRL_SW_TRIG]) (by simp [BOB_CTRL_SW_TRIG]) rfl
    (by simp [BOB_CTRL_SW_TRIG, BOB_CTRL_MODE])

theorem execBobSwTrig_eq (b : Fin 8) (s : State) : execBobSwTrig b s =
    .next ((s.putBit (BOB_CTRL_SW_TRIG b) true).bobTrigger b (s.rd (BOB_WPTR_IDX b))) := by
  unfold execBobSwTrig
  dsimp only
  rw [rd_putBit_ne s _ _ true (by simp [BOB_CTRL_SW_TRIG, BOB_WPTR_IDX])]

/-- A bobbin after BOB_MARK. -/
def State.bobMarked (s : State) (b : Nat) : State :=
  (((s.putBit (BOB_CTRL_MARK b) true).wr (BOB_MARKPTR_IDX b) (s.rd (BOB_WPTR_IDX b))).putBit (BOB_MARKPTR_VALID b)
    true).setBob b { s.bob b with sinceMark := 0 }

theorem execBobMark_eq (b : Fin 8) (s : State) : execBobMark b s = .next (s.bobMarked b) := by
  unfold execBobMark State.bobMarked
  dsimp only
  rw [rd_putBit_ne s _ _ true (by simp [BOB_CTRL_MARK, BOB_WPTR_IDX])]
  simp only [State.bob, putBit_eq, wr_le]

theorem bobMarked_idx (s : State) (b : Nat) (h : s.regsWf) :
    (s.bobMarked b).rd (BOB_MARKPTR_IDX b) = s.rd (BOB_WPTR_IDX b) := by
  unfold State.bobMarked
  rw [setBob_rd, rd_mark _ _ _ (putBit_regsWf _ _ _ h), wptr_mod]

theorem bobMarked_valid (s : State) (b : Nat) (h : s.regsWf) : (s.bobMarked b).bit (BOB_MARKPTR_VALID b) = true := by
  unfold State.bobMarked
  rw [setBob_bit, bit_putBit_same _ _ _ (wr_regsWf _ _ _ (putBit_regsWf _ _ _ h)) (by simp [BOB_MARKPTR_VALID])
    (by simp [BOB_MARKPTR_VALID])]

theorem bobMarked_regsBut (s : State) (b : Nat) :
    RegsBut (fun a => a = (BOB_CTRL b).addr ∨ a = (BOB_MARKPTR b).addr) s (s.bobMarked b) :=
  regsBut_setBob _ _ (regsBut_wr _ _ (regsBut_wr _ _ (regsBut_wr _ _ (RegsBut.refl _ s) (Or.inl rfl)) (Or.inr rfl))
    (Or.inr rfl))

/-- The registers that BOB_SW_TRIG may write. -/
def bobSwReg (b a : Nat) : Prop :=
  a = (BOB_CTRL b).addr ∨ a = (BOB_STATUS b).addr ∨ a = (BOB_TRIGPTR b).addr ∨ a = (BOB_MARKPTR b).addr ∨ noteReg a

/-- Settles O13: each command by its equation, and the registers by the lemmas on stopping, arming, marking and
triggering. -/
theorem bobbinRings : Obligations.BobbinRings := by
  unfold Obligations.BobbinRings
  refine ⟨?post, ?postRests, ?full, ?fullRests, ?arm, ?stopArmed, ?stopIdle, ?mark, ?trig, ?trigRests⟩
  case post =>
    intro s b hs ha hm ht hp
    exact answers_with (execBobbinPostComplete_answers b (Frame.refl _ _) rfl)
      (execBobbinPostComplete_ends b s ha hm ht hp)
      ⟨bobStop_stopped s b hs.regs, bobStop_armed s b hs.regs, bobStop_regsBut b (RegsBut.refl _ s)⟩
  case postRests =>
    intro s b h
    exact answers_with (execBobbinPostComplete_answers b (Frame.refl _ _) rfl) (execBobbinPostComplete_rests b s h) rfl
  case full =>
    intro s b hs ha hm hw
    exact answers_with (execBobbinRingFull_answers b (Frame.refl _ _) rfl) (execBobbinRingFull_ends b s ha hm hw)
      ⟨bobStop_stopped s b hs.regs, bobStop_armed s b hs.regs, bobStop_regsBut b (RegsBut.refl _ s)⟩
  case fullRests =>
    intro s b h
    exact answers_with (execBobbinRingFull_answers b (Frame.refl _ _) rfl) (execBobbinRingFull_rests b s h) rfl
  case arm =>
    intro s b hs
    exact answers_with (execBobArm_answers b (Frame.refl _ _) rfl rfl) rfl
      ⟨bobArm_armed s b hs.regs, bobArm_status s b hs.regs _ rfl (by simp [BOB_STATUS_TRIGGERED]),
        bobArm_status s b hs.regs _ rfl
          (by simp [BOB_STATUS_STOPPED]), bobArm_wptr s b hs.regs, bobArm_mark s b hs.regs,
        bobArm_le s b, bobArm_regsBut s b⟩
  case stopArmed =>
    intro s b hs h
    have h1 := putBit_regsWf s (BOB_CTRL_STOP b) true hs.regs
    exact answers_with (execBobStop_answers b (Frame.refl _ _) rfl) (execBobStop_armed b s h)
      ⟨bobStop_stopped _ b h1, bobStop_armed _ b h1, bobStop_regsBut b (regsBut_wr _ _ (RegsBut.refl _ s) (Or.inl rfl))⟩
  case stopIdle =>
    intro s b h
    exact answers_with (execBobStop_answers b (Frame.refl _ _) rfl) (execBobStop_idle b s h) rfl
  case mark =>
    intro s b hs
    exact answers_with (execBobMark_answers b (Frame.refl _ _) rfl rfl) (execBobMark_eq b s)
      ⟨bobMarked_idx s b hs.regs, bobMarked_valid s b hs.regs, bobMarked_regsBut s b⟩
  case trig =>
    intro s b hs ha ht
    have h1 := putBit_regsWf s (BOB_CTRL_SW_TRIG b) true hs.regs
    have ha1 := (bobSwBit_bit s b _ (by simp [BOB_STATUS_ARMED, BOB_CTRL])).trans ha
    have ht1 := (bobSwBit_bit s b _ (by simp [BOB_STATUS_TRIGGERED, BOB_CTRL])).trans ht
    refine answers_with (execBobSwTrig_answers b (Frame.refl _ _) rfl rfl rfl) (execBobSwTrig_eq b s)
      ⟨bobTrigger_bit _ _ _ b.isLt h1 ha1 ht1,
        (bobTrigger_idx _ _ _ b.isLt h1 ha1 ht1).trans (wptr_mod s b), fun hm => ?_,
        bobTrigger_regsBut (l := bobSwReg b) b.isLt ?_ ?_ _ (regsBut_wr _ _ (RegsBut.refl _ s) (Or.inl rfl))⟩
    · obtain ⟨hi, hv⟩ := bobTrigger_mark _ b (s.rd (BOB_WPTR_IDX b)) b.isLt h1 ha1 ht1
        ((bobSwBit_mode s b hs.regs).trans_le hm)
      exact ⟨hi.trans (wptr_mod s b), hv⟩
    · rintro a (h | h | h)
      · exact Or.inr (Or.inl h)
      · exact Or.inr (Or.inr (Or.inl h))
      · exact Or.inr (Or.inr (Or.inr (Or.inl h)))
    · exact fun a h1 h2 => Or.inr (Or.inr (Or.inr (Or.inr (noteReg_dic ⟨by omega, h2⟩))))
  case trigRests =>
    intro s b h hs
    refine answers_with (execBobSwTrig_answers b (Frame.refl _ _) rfl rfl rfl) (execBobSwTrig_eq b s)
      (bobTrigger_rests _ _ _ ?_)
    rw [bobSwBit_bit s b _ (by simp [BOB_STATUS_ARMED, BOB_CTRL]),
      bobSwBit_bit s b _ (by simp [BOB_STATUS_TRIGGERED, BOB_CTRL])]
    exact h

end Sys2Proof.Machine
end

section
/-! The trip matrix (R427 to R432): its latches, its lock, and the commands on a row. -/

namespace Sys2Proof.Machine

theorem bitOf_eq (w i : Nat) : bitOf w i = (bitsOf w i i == 1) := by
  unfold bitOf bitsOf
  rw [Nat.add_sub_cancel_left, Nat.pow_one]

/-- A bit reads back what was put into it. -/
theorem bitOf_withBits_same (w i : Nat) (b : Bool) : bitOf (withBits w i i (b2n b)) i = b := by
  rw [bitOf_eq, bitsOf_withBits_same w i i _ (Nat.le_succ i), Nat.add_sub_cancel_left]
  cases b <;> rfl

/-- A latch reads as it was set (R428). -/
theorem setTmLatch_same (s : State) (r : Nat) (b : Bool) (h : s.regsWf) : (s.setTmLatch r b).tmLatched r = b := by
  have hw : withBits (s.rd (TM_LATCH (r / 32))) (r % 32) (r % 32) (b2n b) < 2 ^ 32 :=
    withBits_lt _ _ _ _ 32 (rd_lt s (TM_LATCH (r / 32))) (by omega) (by omega)
  unfold State.tmLatched State.setTmLatch
  rw [rd_wr_same s _ _ h (by simp [TM_LATCH]) (by simp [TM_LATCH])]
  exact (congrArg (bitOf · (r % 32)) (Nat.mod_eq_of_lt hw)).trans (bitOf_withBits_same _ _ b)

theorem setTmLatch_regsBut (s : State) (r : Nat) (b : Bool) :
    RegsBut (· = (TM_LATCH (r / 32)).addr) s (s.setTmLatch r b) := regsBut_wr _ _ (RegsBut.refl _ s) rfl

theorem tmClear_asserted (s : State) (r : Nat) (h : s.tripInput (s.rd (TM_ROW_INPUT r)) = true) : s.tmClear r = s := by
  unfold State.tmClear
  rw [if_neg (by simp [h])]

theorem tmClear_released (s : State) (r : Nat) (hl : s.tmLatched r = true)
    (h : s.tripInput (s.rd (TM_ROW_INPUT r)) = false) : s.tmClear r = s.setTmLatch r false := by
  unfold State.tmClear
  rw [if_pos ⟨hl, by simp [h]⟩]

/-! ### The lock -/

theorem tmLock_locked (s : State) (h : s.bit TM_CTRL_LOCK = true) : s.tmLock = s := by
  unfold State.tmLock
  rw [if_pos h]

theorem tmLock_open (s : State) (h : s.bit TM_CTRL_LOCK = false) :
    s.tmLock = ((s.putBit TM_CTRL_LOCK true).wr TM_CRC s.tmCrcNow).wr TM_CRC_LOCK s.tmCrcNow := by
  unfold State.tmLock
  rw [if_neg (by simp [h])]

theorem tmLock_bit (s : State) (hs : s.regsWf) (h : s.bit TM_CTRL_LOCK = false) : s.tmLock.bit TM_CTRL_LOCK = true := by
  rw [tmLock_open s h, bit_wr_ne _ _ _ _ (by decide), bit_wr_ne _ _ _ _ (by decide),
    bit_putBit_same s _ true hs (by decide) (by decide)]

theorem tmLock_crc (s : State) (hs : s.regsWf) (h : s.bit TM_CTRL_LOCK = false) :
    s.tmLock.rd TM_CRC = s.tmCrcNow % 2 ^ 32 := by
  rw [tmLock_open s h, rd_wr_ne _ _ _ _ (by decide),
    rd_wr_same _ TM_CRC _ (putBit_regsWf _ _ _ hs) (by decide) (by decide)]
  rfl

theorem tmLock_crcLock (s : State) (hs : s.regsWf) (h : s.bit TM_CTRL_LOCK = false) :
    s.tmLock.rd TM_CRC_LOCK = s.tmCrcNow % 2 ^ 32 := by
  rw [tmLock_open s h, rd_wr_same _ TM_CRC_LOCK _ (wr_regsWf _ _ _ (putBit_regsWf _ _ _ hs)) (by decide) (by decide)]
  rfl

theorem tmLock_regsBut (s : State) (h : s.bit TM_CTRL_LOCK = false) :
    RegsBut (fun a => a = TM_CTRL_LOCK.addr ∨ a = TM_CRC.addr ∨ a = TM_CRC_LOCK.addr) s s.tmLock := by
  rw [tmLock_open s h]
  exact regsBut_wr _ _ (regsBut_wr _ _ (regsBut_wr _ _ (RegsBut.refl _ s) (Or.inl rfl)) (Or.inr (Or.inl rfl)))
    (Or.inr (Or.inr rfl))

/-! ### The commands -/

/-- The parts that a trip row may touch. -/
def tripParts : Parts :=
  { Parts.full with time := false, free := false, mem := false, sn := false, fb := false, ca := false }

theorem tripRowLatch_frame (r : Fin 128) (s : State) : Answers tripParts s (exec (.tripRowLatch r) s) :=
  execTripRowLatch_answers r (Frame.refl _ _) rfl rfl rfl rfl rfl rfl rfl rfl rfl rfl rfl rfl

theorem execTripRowLatch_rests (r : Fin 128) (s : State) (h : s.rowAsserted r = false ∨ s.tmLatched r = true) :
    execTripRowLatch r s = .next s := by
  unfold execTripRowLatch
  rw [if_neg fun ⟨ha, hl⟩ => by simp_all]

theorem execTripRowLatch_latches (r : Fin 128) (s u : State) (ha : s.rowAsserted r = true) (hl : s.tmLatched r = false)
    (hu : u = (s.setTmLatch r true).note 16 .tripLatched 2 [(r : Nat)] (8 + s.rd (TM_ROW_ACTION r))) :
    execTripRowLatch r s = .next (if u.bit TM_CTRL_OUT_EN then u.tripAct r else u) := by
  unfold execTripRowLatch
  rw [if_pos ⟨ha, by simp [hl]⟩, hu]

/-- Settles O50: the commands by their equations, the latches and the lock by what they leave in their registers. -/
theorem tripMatrix : Obligations.TripMatrix := by
  unfold Obligations.TripMatrix
  refine ⟨?rests, ?latched, ?latches, ?latch, ?locked, ?lock, ?clear, ?held, ?cleared⟩
  case rests =>
    intro s r h
    exact answers_with (tripRowLatch_frame r s) (execTripRowLatch_rests r s (Or.inl h)) rfl
  case latched =>
    intro s r h
    exact answers_with (tripRowLatch_frame r s) (execTripRowLatch_rests r s (Or.inr h)) rfl
  case latches =>
    intro s r ha hl
    exact answers_with (tripRowLatch_frame r s) (execTripRowLatch_latches r s _ ha hl rfl) ⟨_, rfl, rfl⟩
  case latch =>
    intro s r hs
    exact ⟨setTmLatch_same s r true hs.regs, setTmLatch_regsBut s r true⟩
  case locked =>
    intro s h
    exact answers_with (execTmLockWrite_answers (Frame.refl _ _) rfl)
      (congrArg Host.Outcome.next (tmLock_locked s h)) rfl
  case lock =>
    intro s hs h
    exact answers_with (execTmLockWrite_answers (Frame.refl _ _) rfl) rfl
      ⟨tmLock_bit s hs.regs h, tmLock_crc s hs.regs h, tmLock_crcLock s hs.regs h, tmLock_regsBut s h⟩
  case clear =>
    intro s w v
    exact answers_with (execTripLatchClear_answers w v (Frame.refl _ _) rfl rfl) rfl rfl
  case held => exact tmClear_asserted
  case cleared =>
    intro s r hs _ hl h
    rw [tmClear_released s r hl h]
    exact ⟨setTmLatch_same s r false hs.regs, setTmLatch_regsBut s r false⟩

end Sys2Proof.Machine
end

section
/-! Register accesses over the hub (R7, R13): what a read answers and clears, what a write leaves, and the access codes. -/

namespace Sys2Proof.Machine

/-! ### Words that a read computes -/

/-- The views of a target, one word for each 32 sources. -/
theorem dicWord_view (s : State) (k w : Nat) (hk : k < 9) (h1 : k ≠ 1) (hw : w < 64) :
    s.dicWord (0x40003100 + 0x200 * k + 4 * w) = some (s.view k w) := by
  have ht : (0x40003100 + 0x200 * k + 4 * w - 0x40003000) / 0x200 = k := by omega
  have ho : (0x40003100 + 0x200 * k + 4 * w - 0x40003000) % 0x200 = 0x100 + 4 * w := by omega
  unfold State.dicWord
  dsimp only
  rw [ht, ho, if_neg (by omega), if_pos (by omega), if_neg (by omega), if_neg (by omega), if_neg (by omega),
    Nat.add_sub_cancel_left, Nat.mul_div_cancel_left w (by decide)]

/-- An offset of the doorbell controller that no register holds reads 0. -/
theorem dicWord_reserved (s : State) (a : Nat) (h0 : 0x40000000 ≤ a) (h1 : a < 0x40003000) (h4 : a % 4 = 0)
    (hf : findRow a = none) : s.dicWord a = some 0 := by
  have hr : dicReserved a = true := by
    have hw : a / 0x1000000 = 0x40 := by omega
    simp [dicReserved, hf, hw]
  unfold State.dicWord
  dsimp only
  rw [if_neg (by omega), if_neg (by omega), if_neg (by omega), if_pos hr]

/-! ### Reads with work of their own -/

theorem ownRead_pop (s : State) (a : Nat) (h : popWord a = true) : s.ownRead a = some s := by
  unfold State.ownRead
  dsimp only
  rw [if_pos h]

/-- A read in message buffer `m` of channel `n`: word 0 locks the buffer, word 17 releases it (R277). -/
theorem ownRead_buffer (s : State) (n m k : Nat) (hn : n < 4) (hm : m < 64) (hk : k < 0x48) :
    s.ownRead (0x45010000 + 0x2000 * n + 0x48 * m + k) =
      if k = 0 then
        some ((s.mbLock n m).reply { body := leBytes 4 (s.word (0x45010000 + 0x2000 * n + 0x48 * m + k)) })
      else if k = 0x44 then
        some ((s.mbUnlock n m).reply { body := leBytes 4 (s.word (0x45010000 + 0x2000 * n + 0x48 * m + k)) })
      else none := by
  have ho : (0x45010000 + 0x2000 * n + 0x48 * m + k - 0x45010000) % 0x2000 = 0x48 * m + k := by omega
  have hc : (0x45010000 + 0x2000 * n + 0x48 * m + k - 0x45010000) / 0x2000 = n := by omega
  have hb : (0x48 * m + k) / 0x48 = m := by omega
  have hr : (0x48 * m + k) % 0x48 = k := by omega
  have hp : ¬ popWord (0x45010000 + 0x2000 * n + 0x48 * m + k) = true := by
    simp only [popWord, Bool.and_eq_true, decide_eq_true_eq]
    omega
  have hd : 0x45010000 + 0x2000 * n + 0x48 * m + k ≠ TR_DBG_DATA.addr := by simp only [TR_DBG_DATA]; omega
  have hl : 0x45010000 + 0x2000 * n + 0x48 * m + k ≠ LE_RC_DATA.addr := by simp only [LE_RC_DATA]; omega
  unfold State.ownRead
  dsimp only
  rw [ho, hc, hb, hr, if_neg hp, if_neg hd, if_neg hl, if_pos (by omega)]

/-! ### Reads -/

/-- The parts that a read of a register may touch. -/
def readParts : Parts :=
  { regs := true, sys := true, dic := true, mg := true, mb := true, le := true, pf := true, tr := true, fb := true, tw := true }

theorem rcRegisterRead_frame (a : BitVec 32) (s : State) : Answers readParts s (exec (.rcRegisterRead a) s) :=
  execRcRegisterRead_answers a (Frame.refl _ _) rfl rfl rfl rfl rfl rfl rfl rfl rfl rfl

theorem execRcRegisterRead_dic (s : State) (a : BitVec 32) (w : Nat) (hd : s.dicWord a.toNat = some w) :
    execRcRegisterRead a s = .next (s.reply { body := leBytes 4 w }) := by
  unfold execRcRegisterRead
  simp only [hd]

theorem execRcRegisterRead_own (s u : State) (a : BitVec 32) (hd : s.dicWord a.toNat = none)
    (ho : s.ownRead a.toNat = some u) : execRcRegisterRead a s = .next u := by
  unfold execRcRegisterRead
  simp only [hd, ho]

theorem execRcRegisterRead_none (s : State) (a : BitVec 32) (hd : s.dicWord a.toNat = none)
    (ho : s.ownRead a.toNat = none) (hf : findRow a.toNat = none) :
    execRcRegisterRead a s = .next (s.reply { rc := 1 }) := by
  unfold execRcRegisterRead
  simp only [hd, ho, hf]

/-- The state after a read of an ordinary register: the RC fields cleared and the word returned (R7). -/
def State.readDone (s : State) (r : RegRow) (a : Nat) : State :=
  (s.wr ⟨a, 31, 0⟩ (clearWord r (s.word a))).reply { body := leBytes 4 (readWord r (s.word a)) }

theorem execRcRegisterRead_row (s : State) (a : BitVec 32) (r : RegRow) (n : Nat) (hd : s.dicWord a.toNat = none)
    (ho : s.ownRead a.toNat = none) (hf : findRow a.toNat = some (r, n)) :
    execRcRegisterRead a s = .next ((s.beforeRead a.toNat).readDone r a.toNat) := by
  unfold execRcRegisterRead State.readDone
  simp only [hd, ho, hf]

theorem readDone_head (s : State) (r : RegRow) (a : Nat) (h : s.sys.mode ≠ .off) :
    (s.readDone r a).mb.replies.head? = some { rc := 0, body := leBytes 4 (readWord r (s.word a)) } :=
  reply_head _ ((wr_sys s _ _).symm ▸ h)

theorem readDone_word (s : State) (r : RegRow) (a : Nat) (h : s.regsWf) :
    (s.readDone r a).word a = clearWord r (s.word a) % 2 ^ 32 :=
  (reply_word _ _ _).trans (word_wr_word s a _ h)

theorem readDone_regsBut (s : State) (r : RegRow) (a : Nat) : RegsBut (· = a) s (s.readDone r a) :=
  regsBut_reply _ (regsBut_wr _ _ (RegsBut.refl _ s) rfl)

theorem beforeRead_time (s : State) : s.beforeRead CK_TIME_LO.addr = s.wr64 CK_TIME_LO s.time := by
  unfold State.beforeRead
  rw [if_pos rfl]

/-! ### Writes -/

/-- The parts that a write of a register may touch. -/
def writeParts : Parts :=
  { Parts.full with time := false, free := false, mem := false, pb := false, vq := false, ca := false }

theorem registerWrite_frame (i : Initiator) (a v : BitVec 32) (s : State) :
    Answers writeParts s (exec (.registerWrite i a v) s) :=
  execRegisterWrite_answers i a v (Frame.refl _ _) rfl rfl rfl rfl rfl rfl rfl rfl rfl rfl rfl rfl

theorem execRegisterWrite_none (s : State) (i : Initiator) (a v : BitVec 32) (hf : findRow a.toNat = none) :
    execRegisterWrite i a v s = .next (if dicReserved a.toNat then s else s.reply { rc := 1 }) := by
  unfold execRegisterWrite
  simp only [hf]

theorem execRegisterWrite_ignored (s : State) (i : Initiator) (a v : BitVec 32) (r : RegRow) (n : Nat)
    (hf : findRow a.toNat = some (r, n))
    (h : dicReserved a.toNat = true ∨ mayWrite i a.toNat = false ∨ ownWrite a.toNat = true ∨ s.heldWord a.toNat = true) :
    execRegisterWrite i a v s = .next s := by
  unfold execRegisterWrite
  simp only [hf]
  rw [if_pos (by simpa using h)]

theorem execRegisterWrite_row (s : State) (i : Initiator) (a v : BitVec 32) (r : RegRow) (n : Nat)
    (hf : findRow a.toNat = some (r, n)) (hd : dicReserved a.toNat = false) (hm : mayWrite i a.toNat = true)
    (ho : ownWrite a.toNat = false) (hh : s.heldWord a.toNat = false) : execRegisterWrite i a v s =
      .next ((s.wr ⟨a.toNat, 31, 0⟩ (s.wordAfter r a.toNat v.toNat)).afterWrite a.toNat v.toNat (s.word a.toNat)) := by
  unfold execRegisterWrite
  simp only [hf]
  rw [if_neg (by simp [hd, hm, ho, hh])]

/-! ### The access codes of a field -/

theorem writeField_kept (s : State) (a v w : Nat) (f : RegField)
    (h : f.acc = .ro ∨ f.acc = .rc ∨ f.acc = .wo ∨ f.acc = .w1s) : s.writeField a v w f = w := by
  unfold State.writeField
  rcases h with h | h | h | h <;> simp only [h]

theorem writeField_rw (s : State) (a v w : Nat) (f : RegField) (h : f.acc = .rw) (hh : s.heldField a f v = false) :
    s.writeField a v w f = withBits w f.hi f.lo (bitsOf v f.hi f.lo) := by
  simp [State.writeField, h, hh]

theorem writeField_rwl (s : State) (a v w : Nat) (f : RegField) (h : f.acc = .rwl) : s.writeField a v w f =
    if s.bit TM_CTRL_LOCK = true then w else withBits w f.hi f.lo (bitsOf v f.hi f.lo) := by
  simp only [State.writeField, h]

theorem writeField_w1c (s : State) (a v w : Nat) (f : RegField) (h : f.acc = .w1c) : s.writeField a v w f =
    withBits w f.hi f.lo (bitsOf w f.hi f.lo - (bitsOf w f.hi f.lo &&& bitsOf v f.hi f.lo)) := by
  simp only [State.writeField, h]

/-! ### A pair of words -/

theorem wr64_sys (s : State) (f : RF) (v : Nat) : (s.wr64 f v).sys = s.sys :=
  (wr_sys _ _ _).trans (wr_sys _ _ _)

/-- A register pair reads back what was written. -/
theorem rd64_wr64_same (s : State) (f : RF) (v : Nat) (h : s.regsWf) (hv : v < 2 ^ 64) : (s.wr64 f v).rd64 f = v := by
  have h1 := wr_regsWf s ⟨f.addr, 31, 0⟩ v h
  have hl : (s.wr64 f v).word f.addr = v % 2 ^ 32 :=
    (word_wr_ne _ ⟨f.addr + 4, 31, 0⟩ _ (by simp)).trans (word_wr_word s f.addr v h)
  have hh : (s.wr64 f v).word (f.addr + 4) = v / 2 ^ 32 % 2 ^ 32 := word_wr_word _ (f.addr + 4) _ h1
  unfold State.rd64
  rw [hl, hh]
  omega

/-- Settles O49: the reads and the writes by their equations, case by case. -/
theorem registerAccess : Obligations.RegisterAccess := by
  unfold Obligations.RegisterAccess
  refine ⟨?readNone, ?readDic, dicWord_view, dicWord_reserved, ?readOwn, ownRead_pop, ?lock, ?release, ?readRow,
    ?readPlain, beforeRead_time, ?writeNone, ?writeIgnored, ?writeRow, writeField_kept, writeField_rw, ?rwlLocked,
    ?rwlOpen, writeField_w1c, ?time⟩
  case readNone =>
    intro s a hd ho hf
    exact answers_with (rcRegisterRead_frame a s)
      (execRcRegisterRead_none s a hd ho hf) rfl
  case readDic =>
    intro s a w hd
    exact answers_with (rcRegisterRead_frame a s)
      (execRcRegisterRead_dic s a w hd) rfl
  case readOwn =>
    intro s u a hd ho
    exact answers_with (rcRegisterRead_frame a s)
      (execRcRegisterRead_own s u a hd ho) rfl
  case lock =>
    intro s n m hn hm
    exact (ownRead_buffer s n m 0 hn hm (by decide)).trans (if_pos rfl)
  case release =>
    intro s n m hn hm
    exact (ownRead_buffer s n m 0x44 hn hm (by decide)).trans ((if_neg (by decide)).trans (if_pos rfl))
  case readRow =>
    intro s a r n hd ho hf
    exact answers_with (rcRegisterRead_frame a s)
      (execRcRegisterRead_row s a r n hd ho hf) ⟨_, rfl, rfl⟩
  case readPlain =>
    intro s a r n hs hm hd ho hf hb
    refine answers_with (rcRegisterRead_frame a s)
      (execRcRegisterRead_row s a r n hd ho hf) ?_
    rw [hb]
    exact ⟨readDone_head s r _ hm, readDone_word s r _ hs.regs, readDone_regsBut s r _⟩
  case writeNone =>
    intro s i a v hf
    exact answers_with (registerWrite_frame i a v s)
      (execRegisterWrite_none s i a v hf) rfl
  case writeIgnored =>
    intro s i a v r n hf h
    exact answers_with (registerWrite_frame i a v s)
      (execRegisterWrite_ignored s i a v r n hf h) rfl
  case writeRow =>
    intro s i a v r n hs hf hd hm ho hh
    exact answers_with (registerWrite_frame i a v s)
      (execRegisterWrite_row s i a v r n hf hd hm ho hh)
      ⟨_, word_wr_word s _ _ hs.regs, regsBut_wr _ _ (RegsBut.refl _ s) rfl, rfl⟩
  case rwlLocked =>
    intro s a v w f h hl
    rw [writeField_rwl s a v w f h, if_pos hl]
  case rwlOpen =>
    intro s a v w f h hl
    rw [writeField_rwl s a v w f h, if_neg (by simp [hl])]
  case time =>
    intro s hs hm ht
    refine answers_with (execCkTimeLoRead_answers (Frame.refl _ _) rfl rfl) rfl ⟨?_, ?_, ?_⟩
    · unfold State.rd64
      rw [reply_word, reply_word]
      exact rd64_wr64_same s CK_TIME_LO s.time hs.regs ht
    · exact reply_head _ ((wr64_sys s _ _).symm ▸ hm)
    · exact regsBut_reply _ (regsBut_wr64 _ _ (RegsBut.refl _ s) (Or.inl rfl) (Or.inr rfl))

end Sys2Proof.Machine
end

section
/-! The console commands that act (R407, R408): a service check runs or is refused, the doorbell test, the fault bits of
a solenoid channel, the handover, the rate and the recovery of an image. -/

namespace Sys2Proof.Machine

/-! ### Service checks -/

theorem inService_runs (s : State) (k n : Nat) (hm : s.sys.mode = .service) (ha : s.isActive = true) :
    s.inService k n = s.consoleDone k n 0 := by
  unfold State.inService
  rw [if_neg (by simp [hm]), if_neg (by simp [ha])]

theorem inService_refused (s : State) (k n : Nat) (h : s.sys.mode ≠ .service ∨ s.isActive = false) :
    s.inService k n = s.printErr (if s.sys.mode = .service then .notOwner else .stateConflict) := by
  unfold State.inService
  by_cases hm : s.sys.mode = .service
  · rw [if_neg (by simp [hm]), if_pos (by simpa using h.resolve_left (by simp [hm])), if_pos hm]
  · rw [if_pos hm, if_neg hm]

/-- A service check that runs, as a command. -/
theorem service_runs {p : Parts} {s : State} {o : Host.Outcome State Fault Refusal} {k n : Nat} (h : Answers p s o)
    (ho : o = .next (s.inService k n)) (hm : s.sys.mode = .service) (ha : s.isActive = true) :
    ∃ t, o = .next t ∧ Frame p s t ∧ t = s.consoleDone k n 0 := answers_with h ho (inService_runs s k n hm ha)

/-- A service check that is refused, as a command. -/
theorem service_refused {p : Parts} {s : State} {o : Host.Outcome State Fault Refusal} {k n : Nat} (h : Answers p s o)
    (ho : o = .next (s.inService k n)) (hr : s.sys.mode ≠ .service ∨ s.isActive = false) :
    ∃ t, o = .next t ∧ Frame p s t ∧ t = s.printErr (if s.sys.mode = .service then .notOwner else .stateConflict) :=
  answers_with h ho (inService_refused s k n hr)

theorem execSvcSvOpen_held (n : Fin 36) (s : State) (hm : s.sys.mode = .service) (ha : s.isActive = true)
    (h : s.bit (SV_CHSTAT_TRIP_HELD n) = true) : execSvcSvOpen n s = .next (s.printErr .stateConflict) := by
  unfold execSvcSvOpen
  rw [if_pos ⟨hm, ha, h⟩]

theorem execSvcSvOpen_free (n : Fin 36) (s : State)
    (h : ¬ (s.sys.mode = .service ∧ s.isActive = true ∧ s.bit (SV_CHSTAT_TRIP_HELD n) = true)) :
    execSvcSvOpen n s = .next (s.inService 5 n) := by
  unfold execSvcSvOpen
  rw [if_neg h]

/-! ### Modes, attestation, routes -/

theorem execSvcModeService_off (s : State) : execSvcModeService false s =
    .next ((s.onMg fun y => { y with svcEn := false }).printErr .stateConflict) := by
  unfold execSvcModeService
  dsimp only
  rw [if_neg Bool.false_ne_true]

theorem execSvcModeService_on (s : State) : execSvcModeService true s =
    .next ((s.onMg fun y => { y with svcEn := true }).consoleCmd cmdSetMode (modePayload 9)) := by
  unfold execSvcModeService
  dsimp only
  rw [if_pos rfl]

theorem execSvcAttest_ok (n : List (BitVec 8)) (s : State) (h : (s.attest n).ks = .ok) :
    execSvcAttest n s = .next ((s.attest n).st.prints (s.attest n).out) := by
  unfold execSvcAttest
  dsimp only
  rw [if_pos h]

theorem execSvcAttest_refused (n : List (BitVec 8)) (s : State) (h : (s.attest n).ks ≠ .ok) :
    execSvcAttest n s = .next ((s.attest n).st.printErr (s.attest n).ks) := by
  unfold execSvcAttest
  dsimp only
  rw [if_neg h]

theorem execSvcVqSqSrc_active (q : Fin 32) (v : BitVec 8) (s : State) (h : s.isActive = true) :
    execSvcVqSqSrc q v s = .next (s.consoleDone 6 q v.toNat) := by
  unfold execSvcVqSqSrc
  rw [if_pos h]

theorem execSvcVqSqSrc_other (q : Fin 32) (v : BitVec 8) (s : State) (h : s.isActive = false) :
    execSvcVqSqSrc q v s = .next (s.printErr .notOwner) := by
  unfold execSvcVqSqSrc
  rw [if_neg (by simp [h])]

/-! ### The fault bits of a solenoid channel -/

/-- The bits of SV_CHSTAT that `sv clear` clears (R273). -/
def svClearBits (n : Nat) : List RF :=
  [SV_CHSTAT_POS_MISMATCH n, SV_CHSTAT_GROUP_BUDGET n, SV_CHSTAT_NO_KINK n, SV_CHSTAT_OVERCURRENT n,
   SV_CHSTAT_SHORT_SUPPLY n, SV_CHSTAT_SHORT_GND n, SV_CHSTAT_OPEN_LOAD n]

/-- The state after `sv clear`. -/
def State.svCleared (s : State) (n : Nat) : State :=
  ((svClearBits n).foldl (fun s f => s.putBit f false) s).prints []

theorem execSvcSvClear_eq (n : Fin 36) (s : State) : execSvcSvClear n s = .next (s.svCleared n) := by
  unfold execSvcSvClear State.svCleared svClearBits
  dsimp only

/-- They are single bits of one word. -/
theorem svClearBits_bits {n : Nat} {f : RF} (h : f ∈ svClearBits n) :
    f.lo = f.hi ∧ f.hi < 32 ∧ f.addr = (SV_CHSTAT n).addr := by
  simp only [svClearBits, List.mem_cons, List.not_mem_nil, or_false] at h
  rcases h with rfl | rfl | rfl | rfl | rfl | rfl | rfl <;> exact ⟨rfl, Nat.lt_of_sub_pos (Nat.zero_lt_succ _), rfl⟩

theorem svCleared_bit (s : State) (n : Nat) (hs : s.regsWf) {f : RF} (hf : f ∈ svClearBits n) :
    (s.svCleared n).bit f = false := by
  unfold State.svCleared State.prints
  rw [reply_bit]
  exact bit_clearBits (fun g hg => ⟨(svClearBits_bits hg).1, (svClearBits_bits hg).2.1⟩) hs (svClearBits_bits hf).1
    (Or.inl hf)

theorem svCleared_regsBut (s : State) (n : Nat) : RegsBut (· = (SV_CHSTAT n).addr) s (s.svCleared n) :=
  regsBut_reply _ (regsBut_foldl (fun _ _ hf h => regsBut_wr _ _ h (svClearBits_bits hf).2.2) (RegsBut.refl _ s))

/-! ### The doorbell test leaves DIC_BADDB -/

/-- A doorbell leaves DIC_BADDB, whichever bobbins it triggers. -/
theorem regsBut_bobDoorbell_baddb {s0 : State} (n : Nat) {s : State} (src : Nat)
    (h : RegsBut (· ≠ DIC_BADDB.addr) s0 s) : RegsBut (· ≠ DIC_BADDB.addr) s0 (State.bobDoorbell n s src) := by
  induction n generalizing s src with
  | zero => exact h
  | succ n ih =>
    refine regsBut_foldl (fun t b hb ht => ih (72 + b) (bobTrigger_regsBut ?_ ?_ ?_ _ ht)) h
    · exact List.mem_range.mp (List.mem_of_mem_filter hb)
    · rintro a (rfl | rfl | rfl) <;> simp [BOB_STATUS, BOB_TRIGPTR, BOB_MARKPTR, DIC_BADDB] <;> omega
    · intro a ha _
      simp only [DIC_BADDB]
      omega

theorem regsBut_post_baddb {s0 s : State} (src : Nat) (hs : src < 2048) (h : RegsBut (· ≠ DIC_BADDB.addr) s0 s) :
    RegsBut (· ≠ DIC_BADDB.addr) s0 (s.post src) :=
  regsBut_bobDoorbell_baddb 8 src (regsBut_postRaw_dic (fun a ha _ => by simp only [DIC_BADDB]; omega) src hs h)

theorem regsBut_dicTrip_baddb {s0 s : State} (t : Nat) (h : RegsBut (· ≠ DIC_BADDB.addr) s0 s) :
    RegsBut (· ≠ DIC_BADDB.addr) s0 (s.dicTrip t) :=
  regsBut_wr _ _ (regsBut_post_baddb 1534 (by decide) (regsBut_wr _ _ (regsBut_post_baddb 1535 (by decide)
    (regsBut_wr _ _ h (by decide))) (by decide))) (by decide)

/-- One target of the doorbell test: its round trip, the free time of it and the target's status printed. -/
def dicTestStep (q : State × List Byte) (n : Nat) : State × List Byte :=
  ((q.1.dicTrip n).drew, q.2 ++ leBytes 4 (q.1.dicTrip n).freeNat ++ (q.1.dicTrip n).words [DIC_CSTAT n])

theorem regsBut_dicTest_baddb {s0 : State} (l : List Nat) {q : State × List Byte}
    (h : RegsBut (· ≠ DIC_BADDB.addr) s0 q.1) : RegsBut (· ≠ DIC_BADDB.addr) s0 (l.foldl dicTestStep q).1 := by
  induction l generalizing q with
  | nil => exact h
  | cons n l ih => exact ih (regsBut_same (regsBut_dicTrip_baddb n h) (drew_regs _))

theorem dicTest_baddb (s : State) (l : List Nat) :
    (l.foldl dicTestStep (s, [])).1.words [DIC_BADDB] = s.words [DIC_BADDB] := by
  have h := regsBut_dicTest_baddb (s0 := s) l (q := (s, [])) (RegsBut.refl _ s) DIC_BADDB.addr (by simp)
  simp only [State.words, List.flatMap_cons, List.flatMap_nil, h]

/-- The doorbell test: each target in turn, then the route as it was. -/
theorem execSvcDicTest_eq (s : State) (q : State × List Byte) (hq : q = dicTargets.foldl dicTestStep (s, [])) :
    execSvcDicTest s =
      .next ((q.1.wr (DIC_SRCCFG_TARGET 1535) (s.rd (DIC_SRCCFG_TARGET 1535))).prints
        (q.2 ++ q.1.words [DIC_BADDB])) := by
  rw [hq, dicTest_baddb]
  unfold execSvcDicTest
  rfl

/-! ### Handover, ping, rate, recovery -/

theorem execSvcTwinHandover_other (s : State) (h : s.isActive = false) :
    execSvcTwinHandover s = .next (s.printErr .notOwner) := by
  unfold execSvcTwinHandover
  rw [if_pos (by simp [h])]

theorem execSvcTwinHandover_refused (s : State) (k : Ks) (ha : s.isActive = true) (h : s.handRefusal = some k) :
    execSvcTwinHandover s = .next (s.printErr k) := by
  unfold execSvcTwinHandover
  rw [if_neg (by simp [ha])]
  simp only [h]

theorem execSvcTwinHandover_starts (s : State) (ha : s.isActive = true) (h : s.handRefusal = none) :
    execSvcTwinHandover s = .next (s.handStart none) := by
  unfold execSvcTwinHandover
  rw [if_neg (by simp [ha])]
  simp only [h]

theorem execSvcCxlPing_host (s v : State) (hv : v = if s.asked.isActive then s.asked.silenceRestart else s.asked) :
    execSvcCxlPing true s = .next (v.prints (leBytes 8 s.time ++ s.stateRecord)) := by
  rw [hv]
  unfold execSvcCxlPing State.asked
  rw [if_pos rfl]

theorem execSvcBaud_listed (s : State) (r : Nat) (h : [230400, 460800, 921600].contains r = true) :
    execSvcBaud r s = .next ((s.prints []).onMg fun y => { y with baud := r }) := by
  unfold execSvcBaud
  rw [if_pos h]

theorem execSvcBaud_other (s : State) (r : Nat) (h : [230400, 460800, 921600].contains r = false) :
    execSvcBaud r s = .next (s.printErr .range) := by
  unfold execSvcBaud
  rw [if_neg (by simp only [h]; decide)]

theorem execSvcRecover_running (s : State) (i : List (BitVec 8)) (h : s.mg.recovery = false) :
    execSvcRecover i s = .next (s.printErr .stateConflict) := by
  unfold execSvcRecover
  dsimp only
  rw [if_pos (by simp [h])]

theorem execSvcRecover_range (s : State) (i : List (BitVec 8)) (hr : s.mg.recovery = true)
    (h : 44 * 1048576 < i.length ∨ headerGood i = false) : execSvcRecover i s = .next (s.printErr .range) := by
  unfold execSvcRecover
  dsimp only
  rw [if_neg (by simp [hr]), if_pos (by simpa using h)]

theorem execSvcRecover_signed (s : State) (i : List (BitVec 8)) (hr : s.mg.recovery = true)
    (hl : i.length ≤ 44 * 1048576) (hh : headerGood i = true) : execSvcRecover i s =
      .next (if (slotOf i).passes s.mg.fuse then (s.onMg fun y => y.putSlot 0 (slotOf i)).prints []
        else s.printErr .authFail) := by
  unfold execSvcRecover
  dsimp only
  rw [if_neg (by simp [hr]), if_neg (by simp [hh]; omega)]

/-- Settles O54: each command by its equation; the doorbell test and the fault bits by the lemmas on the words that they
leave. -/
theorem consoleActions : Obligations.ConsoleActions := by
  unfold Obligations.ConsoleActions
  refine ⟨?modeOff, ?modeOn, ?modeTable, ?attest, ?attestErr, fun _ _ _ _ => rfl,
    fun _ _ _ => ⟨rfl, rfl, rfl, rfl, rfl, rfl, rfl, rfl⟩,
    ?clear, ?clearErr, ?brakeOn, ?brakeOff, ?route, ?routeErr, ?pmgrOn, ?pmgrOff, ?pump, ?svClear, ?svClose, ?svHeld,
    ?svOpen, ?dic, ?handErr, ?handRefused, ?hand, ?ping, ?baud, ?baudErr, ?recRunning, ?recRange, ?recAuth, ?brakeOnErr,
    ?brakeOffErr, ?pmgrOnErr, ?pmgrOffErr, ?svCloseErr, ?svOpenErr, ?recover⟩
  case modeOff =>
    intro s
    exact answers_with (execSvcModeService_answers false (Frame.refl _ _) rfl rfl rfl rfl rfl)
      (execSvcModeService_off s) rfl
  case modeOn =>
    intro s
    exact answers_with (execSvcModeService_answers true (Frame.refl _ _) rfl rfl rfl rfl rfl)
      (execSvcModeService_on s) rfl
  case modeTable =>
    intro s
    exact answers_with (execSvcModeTable_answers (Frame.refl _ _) rfl rfl rfl rfl) rfl rfl
  case attest =>
    intro s n h
    exact answers_with (execSvcAttest_answers n (Frame.refl _ _) rfl rfl rfl) (execSvcAttest_ok n s h) rfl
  case attestErr =>
    intro s n h
    exact answers_with (execSvcAttest_answers n (Frame.refl _ _) rfl rfl rfl) (execSvcAttest_refused n s h) rfl
  case clear =>
    intro s hm ha
    exact service_runs (execSvcTrellisClearfail_answers
      (Frame.refl _ _) rfl rfl rfl rfl rfl rfl rfl rfl rfl rfl) rfl hm ha
  case clearErr =>
    intro s h
    exact service_refused (execSvcTrellisClearfail_answers
      (Frame.refl _ _) rfl rfl rfl rfl rfl rfl rfl rfl rfl rfl) rfl h
  case brakeOn =>
    intro s r hm ha
    exact service_runs (execSvcBrakeOn_answers r (Frame.refl _ _) rfl rfl rfl rfl rfl rfl rfl rfl rfl rfl) rfl hm ha
  case brakeOnErr =>
    intro s r h
    exact service_refused (execSvcBrakeOn_answers r (Frame.refl _ _) rfl rfl rfl rfl rfl rfl rfl rfl rfl rfl) rfl h
  case brakeOff =>
    intro s r hm ha
    exact service_runs (execSvcBrakeOff_answers r (Frame.refl _ _) rfl rfl rfl rfl rfl rfl rfl rfl rfl rfl) rfl hm ha
  case brakeOffErr =>
    intro s r h
    exact service_refused (execSvcBrakeOff_answers r (Frame.refl _ _) rfl rfl rfl rfl rfl rfl rfl rfl rfl rfl) rfl h
  case pmgrOn =>
    intro s hm ha
    exact service_runs (execSvcPfPmgrOn_answers (Frame.refl _ _) rfl rfl rfl rfl rfl rfl rfl rfl rfl rfl) rfl hm ha
  case pmgrOnErr =>
    intro s h
    exact service_refused (execSvcPfPmgrOn_answers (Frame.refl _ _) rfl rfl rfl rfl rfl rfl rfl rfl rfl rfl) rfl h
  case pmgrOff =>
    intro s hm ha
    exact service_runs (execSvcPfPmgrOff_answers (Frame.refl _ _) rfl rfl rfl rfl rfl rfl rfl rfl rfl rfl) rfl hm ha
  case pmgrOffErr =>
    intro s h
    exact service_refused (execSvcPfPmgrOff_answers (Frame.refl _ _) rfl rfl rfl rfl rfl rfl rfl rfl rfl rfl) rfl h
  case svClose =>
    intro s n hm ha
    exact service_runs (execSvcSvClose_answers n (Frame.refl _ _) rfl rfl rfl rfl rfl rfl rfl rfl rfl rfl) rfl hm ha
  case svCloseErr =>
    intro s n h
    exact service_refused (execSvcSvClose_answers n (Frame.refl _ _) rfl rfl rfl rfl rfl rfl rfl rfl rfl rfl) rfl h
  case svHeld =>
    intro s n hm ha h
    exact answers_with (execSvcSvOpen_answers n (Frame.refl _ _) rfl rfl rfl rfl rfl rfl rfl rfl rfl rfl)
      (execSvcSvOpen_held n s hm ha h) rfl
  case svOpen =>
    intro s n hm ha h
    exact answers_with (execSvcSvOpen_answers n (Frame.refl _ _) rfl rfl rfl rfl rfl rfl rfl rfl rfl rfl)
      (execSvcSvOpen_free n s (by simp [h])) (inService_runs s 5 n hm ha)
  case svOpenErr =>
    intro s n h
    refine answers_with (execSvcSvOpen_answers n (Frame.refl _ _) rfl rfl rfl rfl rfl rfl rfl rfl rfl rfl)
      (execSvcSvOpen_free n s fun ⟨hm, ha, _⟩ => ?_) (inService_refused s 5 n h)
    simp [hm, ha] at h
  case route =>
    intro s q v h
    exact answers_with (execSvcVqSqSrc_answers q v (Frame.refl _ _) rfl rfl rfl rfl rfl rfl rfl rfl rfl rfl)
      (execSvcVqSqSrc_active q v s h) rfl
  case routeErr =>
    intro s q v h
    exact answers_with (execSvcVqSqSrc_answers q v (Frame.refl _ _) rfl rfl rfl rfl rfl rfl rfl rfl rfl rfl)
      (execSvcVqSqSrc_other q v s h) rfl
  case pump =>
    intro s n v
    exact answers_with (execSvcPumpSet_answers n v (Frame.refl _ _) rfl rfl rfl rfl rfl rfl) rfl rfl
  case svClear =>
    intro s n hs
    exact answers_with (execSvcSvClear_answers n (Frame.refl _ _) rfl rfl) (execSvcSvClear_eq n s)
      ⟨svCleared_bit s n hs.regs (by simp [svClearBits]), svCleared_bit s n hs.regs (by simp [svClearBits]),
        svCleared_bit s n hs.regs (by simp [svClearBits]), svCleared_bit s n hs.regs (by simp [svClearBits]),
        svCleared_regsBut s n⟩
  case dic =>
    intro s
    exact answers_with (execSvcDicTest_answers (Frame.refl _ _) rfl rfl rfl rfl rfl) (execSvcDicTest_eq s _ rfl)
      ⟨_, rfl, rfl⟩
  case handErr =>
    intro s h
    exact answers_with (execSvcTwinHandover_answers (Frame.refl _ _) rfl rfl) (execSvcTwinHandover_other s h) rfl
  case handRefused =>
    intro s k ha h
    exact answers_with (execSvcTwinHandover_answers (Frame.refl _ _) rfl rfl) (execSvcTwinHandover_refused s k ha h) rfl
  case hand =>
    intro s ha h
    exact answers_with (execSvcTwinHandover_answers (Frame.refl _ _) rfl rfl) (execSvcTwinHandover_starts s ha h) rfl
  case ping =>
    intro s
    exact answers_with (execSvcCxlPing_answers true (Frame.refl _ _) rfl rfl rfl rfl rfl rfl)
      (execSvcCxlPing_host s _ rfl)
      ⟨_, _, rfl, rfl, rfl⟩
  case baud =>
    intro s r h
    exact answers_with (execSvcBaud_answers r (Frame.refl _ _) rfl rfl)
      (execSvcBaud_listed s r (by rcases h with rfl | rfl | rfl <;> rfl)) rfl
  case baudErr =>
    intro s r h
    exact answers_with (execSvcBaud_answers r (Frame.refl _ _) rfl rfl) (execSvcBaud_other s r h) rfl
  case recRunning =>
    intro s i h
    exact answers_with (execSvcRecover_answers i (Frame.refl _ _) rfl rfl) (execSvcRecover_running s i h) rfl
  case recRange =>
    intro s i hr h
    exact answers_with (execSvcRecover_answers i (Frame.refl _ _) rfl rfl) (execSvcRecover_range s i hr h) rfl
  case recAuth =>
    intro s i hr hl hh hp
    exact answers_with (execSvcRecover_answers i (Frame.refl _ _) rfl rfl) (execSvcRecover_signed s i hr hl hh)
      (if_neg (by simp [hp]))
  case recover =>
    intro s i hr hl hh hp
    exact answers_with (execSvcRecover_answers i (Frame.refl _ _) rfl rfl) (execSvcRecover_signed s i hr hl hh)
      (if_pos hp)

end Sys2Proof.Machine
end

section
/-! The resets (R421 to R424): what each of them leaves of the module state, the timebase, the memories and the
management die. -/

namespace Sys2Proof.Machine

/-! ### The cause in CK_STATUS -/

/-- The cause stands beside the bits of the PLL and of the timebase. -/
theorem resetCause_kept (s : State) (cause : Nat) (lock valid : Bool) (h : s.regsWf) :
    (((s.wr CK_STATUS_RESET_CAUSE cause).putBit CK_STATUS_PLL_LOCK lock).putBit CK_STATUS_TIME_VALID valid).rd
      CK_STATUS_RESET_CAUSE = cause % 256 := by
  have h1 : (s.wr CK_STATUS_RESET_CAUSE cause).regsWf := wr_regsWf _ _ _ h
  calc (((s.wr CK_STATUS_RESET_CAUSE cause).putBit CK_STATUS_PLL_LOCK lock).putBit CK_STATUS_TIME_VALID valid).rd
        CK_STATUS_RESET_CAUSE
      = ((s.wr CK_STATUS_RESET_CAUSE cause).putBit CK_STATUS_PLL_LOCK lock).rd CK_STATUS_RESET_CAUSE :=
        rd_wr_disjoint _ CK_STATUS_TIME_VALID _ _ (putBit_regsWf _ _ _ h1) (by decide) (by decide) rfl (by decide)
    _ = (s.wr CK_STATUS_RESET_CAUSE cause).rd CK_STATUS_RESET_CAUSE :=
        rd_wr_disjoint _ CK_STATUS_PLL_LOCK _ _ h1 (by decide) (by decide) rfl (by decide)
    _ = cause % 256 := rd_wr_same s CK_STATUS_RESET_CAUSE cause h (by decide) (by decide)

/-- The twin unit's reset writes TW_STATUS and TW_HOLDOFF. -/
theorem twinReset_rd (s : State) (f : RF) (h1 : f.addr ≠ TW_STATUS_SLOT.addr) (h2 : f.addr ≠ TW_HOLDOFF.addr) :
    s.twinReset.rd f = s.rd f := by
  unfold State.twinReset
  rw [onTw_rd, rd_wr_ne _ _ _ _ h2, rd_putBit_ne _ TW_STATUS_SLOT _ _ h1, rd_putBit_ne _ TW_STATUS_SLOT_PIN _ _ h1]

/-- The numbering of the frames and of the boots that a restart writes stands beside CK_STATUS. -/
theorem restartNumbers_rd (s : State) (origin boots : Nat) :
    (((s.wr64 CK_FRAME_ORIGIN_LO origin).wr CK_BOOT_COUNT boots).twinReset).rd CK_STATUS_RESET_CAUSE =
      s.rd CK_STATUS_RESET_CAUSE := by
  rw [twinReset_rd _ _ (by decide) (by decide), rd_wr_ne _ CK_BOOT_COUNT _ _ (by decide)]
  exact (rd_wr_ne _ _ _ _ (by decide)).trans (rd_wr_ne _ _ _ _ (by decide))

/-- A log record leaves CK_STATUS. -/
theorem log_resetCause (s : State) (sub : Nat) (ev : Ev) (sev : Nat) (detail : List Nat) :
    (s.log sub ev sev detail).rd CK_STATUS_RESET_CAUSE = s.rd CK_STATUS_RESET_CAUSE :=
  (regsBut_log (fun _ ha => ha) sub ev sev detail (RegsBut.refl noteReg s)).rd CK_STATUS_RESET_CAUSE
    (by simp [noteReg, CK_STATUS_RESET_CAUSE])

/-- A log record leaves everything but the registers and the management die's buffer. -/
theorem log_keeps (s : State) (sub : Nat) (ev : Ev) (sev : Nat) (detail : List Nat) :
    Frame { regs := true, mg := true } s (s.log sub ev sev detail) := log_frame sub ev sev detail (Frame.refl _ s) rfl rfl

/-! ### A restart -/

section

variable (s : State) (cause : Nat) (warm : Bool) (keep : Option Nat) (origin : Nat)

/-- The state at the end of a restart, but for the record that it logs. -/
theorem restart_logs : ∃ t : State, s.restart cause warm keep origin = t.log 16 .reset 1 [cause] ∧
    t.sys.mode = .boot ∧ t.sys.role = .undecided ∧ t.rd CK_STATUS_RESET_CAUSE = cause % 256 ∧
    t.time = (if warm then s.time else 0) ∧ t.mem = (if warm then s.mem else []) ∧
    t.mg.slotA = s.mg.slotA ∧ t.mg.slotB = s.mg.slotB ∧ t.mg.ring = s.mg.ring :=
  ⟨_, rfl, rfl, rfl, (restartNumbers_rd _ _ _).trans (resetCause_kept _ _ _ _ rfl), rfl, rfl, rfl, rfl, rfl⟩

/-- What a restart leaves: BOOT, no role, the cause; a warm one keeps the timebase and the DDR4, a cold one clears them; both
keep the NOR (R421, R422, R424). -/
theorem restart_leaves (hc : cause < 256) :
    let t := s.restart cause warm keep origin
    t.sys.mode = .boot ∧ t.sys.role = .undecided ∧ t.rd CK_STATUS_RESET_CAUSE = cause ∧
      t.time = (if warm then s.time else 0) ∧ t.mem = (if warm then s.mem else []) ∧
      t.mg.slotA = s.mg.slotA ∧ t.mg.slotB = s.mg.slotB ∧ t.mg.ring = s.mg.ring := by
  obtain ⟨t, ht, hmode, hrole, hcause, htime, hmem, ha, hb, hring⟩ := restart_logs s cause warm keep origin
  have hf := log_keeps t 16 .reset 1 [cause]
  obtain ⟨b, d, n, hm⟩ := log_mg t 16 .reset 1 [cause]
  dsimp only
  rw [ht, hf.sys rfl, hf.time rfl, hf.mem rfl, hm, log_resetCause, hcause, Nat.mod_eq_of_lt hc]
  exact ⟨hmode, hrole, rfl, htime, hmem, ha, hb, hring⟩

end

/-! ### The reset sources -/

/-- What a warm reset of cause `cause` leaves (R422). -/
def WarmReset (s : State) (cause : Nat) (t : State) : Prop :=
  t.sys.mode = .boot ∧ t.sys.role = .undecided ∧ t.rd CK_STATUS_RESET_CAUSE = cause ∧ t.time = s.time ∧ t.mem = s.mem ∧
    t.mg.slotA = s.mg.slotA ∧ t.mg.slotB = s.mg.slotB ∧ t.mg.ring = s.mg.ring

theorem warmReset_leaves (s : State) (cause : Nat) (hc : cause < 256) : WarmReset s cause (s.warmReset cause) :=
  restart_leaves s cause true none s.mg.savedOrigin hc

/-- The scheduled reset is a warm reset of cause 4, coordinated or not (R423). -/
theorem scheduledReset_leaves (s : State) : WarmReset s 4 s.scheduledReset := by
  unfold State.scheduledReset
  split
  · exact restart_leaves s 4 true none _ (by decide)
  · exact warmReset_leaves s 4 (by decide)

theorem execVinBrownout_on (s : State) (h : s.sys.mode ≠ .off) :
    execVinBrownout s = .next (s.supplyOff.wr CK_STATUS_RESET_CAUSE 1) := by
  unfold execVinBrownout
  rw [if_neg h]

theorem execVinBrownout_off (s : State) (h : s.sys.mode = .off) : execVinBrownout s = .next s := by
  unfold execVinBrownout
  rw [if_pos h]

theorem execResetButton_on (s : State) (h : s.sys.mode ≠ .off) : execResetButton s = .next (s.warmReset 2) := by
  unfold execResetButton
  rw [if_neg h]

theorem execScheduledWarmReset_due (s : State) (h : s.sys.mode ≠ .off) (hf : s.sys.mode ≠ .failed)
    (ha : s.bit CK_CTRL_WARM_ARM = true) (ht : s.rd64 CK_WARM_AT_LO ≤ s.time) :
    execScheduledWarmReset s = .next s.scheduledReset := by
  unfold execScheduledWarmReset
  rw [if_pos ⟨ha, ht, hf, h⟩]

theorem execBootWatchdogExpiry_due (s : State) (h : s.sys.mode = .boot) (hh : s.mg.watchdogHeld = false)
    (hw : s.since s.mg.watchdog (secs 60) = true) : execBootWatchdogExpiry s = .next (s.warmReset 3) := by
  unfold execBootWatchdogExpiry
  rw [if_pos ⟨h, by simp [hh], hw⟩]

/-- Settles O6: the resets by what `restart_leaves`; the losses of supply by their fields. -/
theorem resetSources : Obligations.ResetSources := by
  unfold Obligations.ResetSources
  refine ⟨?powerOn, ?brownout, ?brownoutOff, ?button, ?scheduled, ?watchdog, ?supply⟩
  case powerOn =>
    intro s
    exact answers_with (execPowerOn_answers (Frame.refl _ _) rfl rfl rfl rfl rfl rfl rfl rfl rfl rfl rfl rfl rfl rfl rfl
      rfl rfl) rfl (restart_leaves s 1 false none s.mg.savedOrigin (by decide))
  case brownout =>
    intro s h
    exact answers_with (execVinBrownout_answers (Frame.refl _ _) rfl rfl rfl rfl rfl rfl rfl rfl rfl rfl rfl rfl rfl rfl
      rfl rfl rfl) (execVinBrownout_on s h)
      ⟨rfl, rd_wr_same s.supplyOff CK_STATUS_RESET_CAUSE 1 rfl (by decide) (by decide), rfl, rfl, rfl, rfl, rfl⟩
  case brownoutOff =>
    intro s h
    exact answers_with (execVinBrownout_answers (Frame.refl _ _) rfl rfl rfl rfl rfl rfl rfl rfl rfl rfl rfl rfl rfl rfl
      rfl rfl rfl) (execVinBrownout_off s h) rfl
  case button =>
    intro s h
    exact answers_with (execResetButton_answers (Frame.refl _ _) rfl rfl rfl rfl rfl rfl rfl rfl rfl rfl rfl rfl rfl rfl
      rfl rfl rfl) (execResetButton_on s h) (warmReset_leaves s 2 (by decide))
  case scheduled =>
    intro s h hf ha ht
    exact answers_with (execScheduledWarmReset_answers (Frame.refl _ _) rfl rfl rfl rfl rfl rfl rfl rfl rfl rfl rfl rfl
      rfl rfl rfl rfl rfl) (execScheduledWarmReset_due s h hf ha ht) (scheduledReset_leaves s)
  case watchdog =>
    intro s h hh hw
    exact answers_with (execBootWatchdogExpiry_answers (Frame.refl _ _) rfl rfl rfl rfl rfl rfl rfl rfl rfl rfl rfl rfl
      rfl rfl rfl rfl rfl) (execBootWatchdogExpiry_due s h hh hw) (warmReset_leaves s 3 (by decide))
  case supply =>
    intro s
    exact answers_with (execSupplyLoss_answers (Frame.refl _ _) rfl rfl rfl rfl rfl rfl rfl rfl rfl rfl rfl rfl rfl rfl
      rfl rfl rfl) rfl ⟨rfl, rfl, rfl, rfl, rfl, rfl, rfl⟩

end Sys2Proof.Machine
end

section
/-! The end of SURVIVAL (R20, R416, R432): TABLE is entered and the core divider is then settled once more, which
brings the clocks back. The clause for SURVIVAL_EXIT in `Obligations.StateChangesInTime` leaves that settling out. -/

namespace Sys2Proof.Machine

/-- SURVIVAL with the outputs enabled, the core divider set, no trip latched, nothing held and the cold plate's flow in
range since time 0, seen 10 s later. -/
def survivalOver : State :=
  ((((State.reset.at (secs 10)).onSys fun y => { y with mode := .survival, tableSet := true }).onSn fun y =>
    { y with cpOk := some 0 }).wr CK_CTRL_CORE_DIV 1).putBit TM_CTRL_OUT_EN true

/-- The end of SURVIVAL as the clause words it: the divider is not settled between the entry to TABLE and the actions
held. -/
def State.leaveSurvivalUnsettled (s : State) : State :=
  (((s.clearActions [5]).onPf fun y => { y with calmSince := s.time }).onTr fun y =>
    { y with scrubFrom := some s.time }).enterTable.actHeld

theorem survivalExit_leaves (s : State) (hm : s.sys.mode = .survival) (hs : s.since s.sn.cpOk (secs 10) = true) :
    exec .survivalExit s = .next s.leaveSurvival :=
  congrArg Host.Outcome.next (if_pos ⟨hm, hs⟩)

/-- The model brings the clocks back as SURVIVAL ends (R20, R416). -/
theorem survivalOver_leaveSurvival_coreDiv : survivalOver.leaveSurvival.rd CK_CTRL_CORE_DIV = 0 := by decide +kernel

/-- As the clause has it the divider outlasts SURVIVAL: the latches are cleared while the state is still SURVIVAL,
which holds the divider. -/
theorem survivalOver_leaveSurvivalUnsettled_coreDiv :
    survivalOver.leaveSurvivalUnsettled.rd CK_CTRL_CORE_DIV = 1 := by decide +kernel

/-- Refutes O8: at the end of SURVIVAL the model settles the core divider after it has entered TABLE and so clears
CK_CTRL.CORE_DIV; the state that the clause for SURVIVAL_EXIT names still has it set. -/
theorem not_stateChangesInTime : ¬ Obligations.StateChangesInTime := by
  unfold Obligations.StateChangesInTime
  rintro ⟨-, -, -, -, -, -, -, -, -, -, -, -, survivalEnds, -⟩
  have hm : survivalOver.sys.mode = .survival := by decide +kernel
  have hs : survivalOver.since survivalOver.sn.cpOk (secs 10) = true := by decide +kernel
  obtain ⟨t, hexec, -, ht⟩ := survivalEnds survivalOver hm hs
  obtain rfl : survivalOver.leaveSurvival = t :=
    Host.Outcome.next.inj ((survivalExit_leaves survivalOver hm hs).symm.trans hexec)
  have hdiv : survivalOver.leaveSurvival.rd CK_CTRL_CORE_DIV = survivalOver.leaveSurvivalUnsettled.rd CK_CTRL_CORE_DIV :=
    congrArg (·.rd CK_CTRL_CORE_DIV) ht
  rw [survivalOver_leaveSurvival_coreDiv, survivalOver_leaveSurvivalUnsettled_coreDiv] at hdiv
  exact absurd hdiv (by decide)

end Sys2Proof.Machine
end

section
/-! The checks of a Waxus request (R369, R370): which one answers it, and what a repeated tag leaves. -/

namespace Sys2Proof.Machine

/-! ### What a request and a reply touch -/

theorem asked_sys (s : State) : s.asked.sys = s.sys :=
  (atMailbox_frame (P := { regs := true, dic := true, mb := true, le := true }) (Frame.refl _ s) rfl rfl rfl rfl).sys rfl

theorem asked_isActive (s : State) : s.asked.isActive = s.isActive := by
  unfold State.isActive
  rw [asked_sys]

theorem asked_regsBut (s : State) : RegsBut noteReg s s.asked :=
  regsBut_post (fun _ h => h) 480 (by decide) (regsBut_onMb _ (RegsBut.refl _ s))

theorem silenceRestart_frame_sys (s : State) : Frame { sys := true, tw := true } s s.silenceRestart :=
  silenceRestart_frame (Frame.refl _ s) rfl rfl

/-- The restart of the host-silence timer leaves the module state and the role. -/
theorem silenceRestart_sys (s : State) :
    s.silenceRestart.sys = { s.sys with silenceStart := s.time, hostSilent := false } :=
  (forward_frame (P := { tw := true }) 5 2 _ (Frame.refl _ _) rfl).sys rfl

/-- The reply of a module that has supply is the newest one. -/
theorem answer_head {s : State} (k : Ks) (header body : List Byte) (h : s.sys.mode ≠ .off) :
    (s.answer k header body).mb.replies.head? = some { rc := 0, ks := k, body := header ++ body } :=
  reply_head (s := s.onMb fun y => { y with ksCounts := tset 0 y.ksCounts k.code (tget 0 y.ksCounts k.code + 1) }) _ h

theorem answer_regs (s : State) (k : Ks) (header body : List Byte) : (s.answer k header body).regs = s.regs :=
  (answer_frame (P := { mb := true }) k header body (Frame.refl _ s) rfl).regs rfl

/-! ### The checks in their order -/

theorem mailbox_off (c : Cmd) (s : State) (p : List Byte) (h : s.sys.mode = .off) : s.mailbox c p = s := by
  unfold State.mailbox
  rw [if_pos h]

/-- The checks of R369 on a request at a module that has supply, up to those of the command itself. -/
theorem mailbox_checks (c : Cmd) (s : State) (p : List Byte) (h : s.sys.mode ≠ .off) : s.mailbox c p =
    if decide (p.length < 8) || fieldLE p 4 1 != 1 || !c.len p then s.turnedDown p .range
    else if c.active && !s.isActive then s.turnedDown p .notOwner
    else s.asked.runCmd c p := by
  rw [← asked_isActive]
  unfold State.mailbox
  rw [if_neg h]
  rfl

/-- A request of good length and version that the module's role may take is the command's own to check. -/
theorem mailbox_runs (c : Cmd) (s : State) (p : List Byte) (h : s.sys.mode ≠ .off) (hp : 8 ≤ p.length)
    (hv : fieldLE p 4 1 = 1) (hl : c.len p = true) (ha : c.active = true → s.isActive = true) :
    s.mailbox c p = s.asked.runCmd c p := by
  rw [mailbox_checks c s p h, if_neg (by simp [hv, hl, hp]), if_neg (by simpa using ha)]

/-- A command that changes state and repeats a tag that is kept: the host-silence timer restarts on the ACTIVE module, and
the reply kept goes out again. -/
theorem runCmd_repeats (c : Cmd) (s : State) (p : List Byte) (k : TagRec) (hc : c.changes = true)
    (hk : s.seenTag (tagOf p) = some k) : s.runCmd c p =
      (if s.isActive then s.silenceRestart else s).answer .ok
        ((if s.isActive then s.silenceRestart else s).headerNow_ k.header) k.body := by
  unfold State.runCmd
  simp only [hc, hk, if_true]

/-- A command that repeats no tag: the module state's check, then the command's work. -/
theorem runCmd_fresh (c : Cmd) (s : State) (p : List Byte) (h : c.changes = true → s.seenTag (tagOf p) = none) :
    s.runCmd c p =
      if !c.states s then s.answer .stateConflict (s.ksHeader .stateConflict (tagOf p) 0 0) []
      else if (c.body s p).code.accepted then
        (State.accept c (tagOf p) p (c.body s p) (s.ksHeader (c.body s p).code (tagOf p)
          (clampCount (c.body s p).clamps) (c.body s p).journal)).answerCmd c.changes (c.body s p).code
          (s.ksHeader (c.body s p).code (tagOf p) (clampCount (c.body s p).clamps) (c.body s p).journal)
          (c.body s p).out
      else (c.body s p).st.answer (c.body s p).code (s.ksHeader (c.body s p).code (tagOf p) 0 (c.body s p).journal)
        (c.body s p).out := by
  have hn : (if c.changes then s.seenTag (tagOf p) else none) = none := by
    split
    next hc => exact h hc
    next => rfl
  unfold State.runCmd
  simp only [hn]

/-- A refused work gives its own code. -/
theorem refuse_code (s : State) (k : Ks) : (s.refuse k).code = k := by
  simp [State.refuse, Res.code, clampCount]

/-! ### A repeated tag -/

/-- The state in which a repeated command is answered. -/
def State.askedAgain (s : State) : State := if s.asked.isActive then s.asked.silenceRestart else s.asked

theorem askedAgain_frame (s : State) :
    Frame { regs := true, sys := true, dic := true, mb := true, le := true, tw := true } s s.askedAgain := by
  have h := atMailbox_frame (P := { regs := true, sys := true, dic := true, mb := true, le := true, tw := true })
    (Frame.refl _ s) rfl rfl rfl rfl
  exact frame_ite (silenceRestart_frame h rfl rfl) h

theorem askedAgain_regsBut (s : State) : RegsBut noteReg s s.askedAgain :=
  regsBut_ite (regsBut_same (asked_regsBut s) ((silenceRestart_frame_sys s.asked).regs rfl)) (asked_regsBut s)

theorem askedAgain_mode (s : State) : s.askedAgain.sys.mode = s.sys.mode := by
  unfold State.askedAgain
  split
  · rw [silenceRestart_sys, asked_sys]
  · rw [asked_sys]

theorem askedAgain_role (s : State) : s.askedAgain.sys.role = s.sys.role := by
  unfold State.askedAgain
  split
  · rw [silenceRestart_sys, asked_sys]
  · rw [asked_sys]

/-- The header of the repeated reply shows the module state and the role as they are now. -/
theorem askedAgain_header (s : State) (h : List Byte) : s.askedAgain.headerNow_ h =
    h.take 2 ++ leBytes 1 s.sys.mode.code ++ leBytes 1 s.sys.role.code ++ h.drop 4 := by
  unfold State.headerNow_
  rw [askedAgain_mode, askedAgain_role]

/-- Settles O23: the checks of `mailbox_checks` and `runCmd_fresh` in their order; a repeated tag by the state in which it
is answered. -/
theorem mailboxChecks : Obligations.MailboxChecks := by
  unfold Obligations.MailboxChecks
  refine ⟨mailbox_off, ?range, ?owner, ?again, ?conflict, ?accepted, ?refused⟩
  case range =>
    intro c s p h hr
    rw [mailbox_checks c s p h, if_pos (by simpa [or_assoc] using hr)]
  case owner =>
    intro c s p h hp hv hl ha hn
    rw [mailbox_checks c s p h, if_neg (by simp [hv, hl, hp]), if_pos (by simp [ha, hn])]
  case again =>
    intro c s p k h hp hv hl ha hc hk
    have he : s.mailbox c p = s.askedAgain.answer .ok (s.askedAgain.headerNow_ k.header) k.body :=
      (mailbox_runs c s p h hp hv hl ha).trans (runCmd_repeats c s.asked p k hc hk)
    rw [he]
    refine ⟨answer_frame _ _ _ (askedAgain_frame s) rfl, regsBut_same (askedAgain_regsBut s) (answer_regs _ _ _ _), ?_⟩
    rw [answer_head _ _ _ (by rwa [askedAgain_mode]), askedAgain_header]
  case conflict =>
    intro c s p h hp hv hl ha hf hs
    rw [mailbox_runs c s p h hp hv hl ha, runCmd_fresh c s.asked p hf, if_pos (by simp [hs])]
    rfl
  case accepted =>
    intro c s p ht hk
    rw [mailbox_runs c s p ht.powered ht.size ht.version ht.length ht.role, runCmd_fresh c s.asked p ht.fresh,
      if_neg (by simp [ht.state]), if_pos hk]
    rfl
  case refused =>
    intro c s p k ht hk hb
    rw [mailbox_runs c s p ht.powered ht.size ht.version ht.length ht.role, runCmd_fresh c s.asked p ht.fresh,
      if_neg (by simp [ht.state]), hb, refuse_code, if_neg (by simp [hk])]
    rfl

end Sys2Proof.Machine
end

section
/-! The ownership line, the claim and the heartbeats (R317 to R333): one equation for each case of a command. -/

namespace Sys2Proof.Machine

/-! ### The line -/

/-- The parts that a change of the line's class may touch. -/
def lineParts : Parts := { regs := true, dic := true, mg := true, le := true }

/-- The parts that the twin unit's commands may touch. -/
def twinParts : Parts := { regs := true, sys := true, dic := true, mg := true, mb := true, le := true, tw := true }

theorem lineInvalid_frame (s : State) (h l : PinLevel) : Answers lineParts s (exec (.lineInvalid h l) s) :=
  execLineInvalid_answers h l (Frame.refl _ s) rfl rfl rfl rfl

theorem lineValid_frame (s : State) (o : Bool) : Answers twinParts s (exec (.lineValid o) s) :=
  execLineValid_answers o (Frame.refl _ s) rfl rfl rfl rfl rfl rfl rfl

theorem lineClass_between (x : PinLevel) : lineClass .between x = 3 ∧ lineClass x .between = 3 := by
  cases x <;> exact ⟨rfl, rfl⟩

theorem execLineInvalid_rests (s : State) (h l : PinLevel) (hr : s.sys.mode = .off ∨ lineClass h l < 2) :
    execLineInvalid h l s = .next s := by
  unfold execLineInvalid
  dsimp only
  rw [if_pos hr]

/-- An invalid class is entered; the fault is raised where the line was valid until then. -/
theorem execLineInvalid_enters (s : State) (h l : PinLevel) (ho : s.sys.mode ≠ .off) (hc : 2 ≤ lineClass h l) :
    execLineInvalid h l s = .next (if 2 ≤ s.rd TW_STATUS_LINE then s.setLine (lineClass h l) (h == .high) (l == .high)
      else (s.setLine (lineClass h l) (h == .high) (l == .high)).lineFault) := by
  unfold execLineInvalid State.lineBad
  dsimp only
  rw [if_neg (by simp only [ho, false_or]; omega)]
  simp only [decide_eq_true_eq]

theorem execLineValid_off (s : State) (o : Bool) (h : s.sys.mode = .off) : execLineValid o s = .next s := by
  unfold execLineValid
  rw [if_pos h]

/-- A valid class is entered: the record as the line returns, the boot watchdog afresh, then the fault of a module that
drives a free line, or the isolation of a STANDBY that has lost its partner (R26, R318). -/
theorem execLineValid_enters (s : State) (o : Bool) (h : s.sys.mode ≠ .off) : ∃ u v w : State,
    u = s.setLine (b2n o) o (!o) ∧ v = (if 2 ≤ s.rd TW_STATUS_LINE then u.log 12 .lineValid 0 [b2n o] else u) ∧
      w = (if v.mg.watchdogHeld then v.onMg fun y =>
        { y with watchdogHeld := false, watchdog := y.watchdog.map fun _ => s.time } else v) ∧
      execLineValid o s =
        .next (if s.bit TW_STATUS_DRIVING = true ∧ o = false then w.lineFault else w.isolateStandby) := by
  refine ⟨_, _, _, rfl, rfl, rfl, ?_⟩
  unfold execLineValid
  rw [if_neg h]
  simp only [Bool.not_eq_true]

/-! ### The claim -/

theorem claim_frame (s : State) (f : Nat) : Answers Parts.full s (exec (.claim f) s) :=
  execClaim_answers f (Frame.refl _ s) rfl rfl rfl rfl rfl rfl rfl rfl rfl rfl rfl rfl rfl rfl rfl rfl rfl rfl

/-- The line taken by a module that has prepared itself as `u`, its outputs enabled (R332, R333). -/
def State.claimed (u : State) (f : Nat) : State :=
  ((u.takeLine f).onTw fun y => { y with graceEnd := u.tw.graceEnd, outEn := true }).svTakeOver

theorem execClaim_rests (s : State) (f : Nat) (h : s.mayClaim f = false) : execClaim f s = .next s := by
  unfold execClaim
  rw [if_neg (by simp [h])]

theorem execClaim_boot (s : State) (f : Nat) (h : s.mayClaim f = true) (hm : s.sys.mode = .boot) :
    execClaim f s = .next (s.claimBoot.claimed f) := by
  unfold execClaim State.claimed
  rw [if_pos h]
  dsimp only
  rw [if_pos hm]

theorem execClaim_inStep (s : State) (f : Nat) (h : s.mayClaim f = true) (hm : s.sys.mode ≠ .boot)
    (hr : s.sys.role = .standby) (hs : s.bit TW_STATUS_IN_STEP = true) :
    execClaim f s = .next (s.claimInStep.claimed f) := by
  unfold execClaim State.claimed
  rw [if_pos h]
  dsimp only
  rw [if_neg hm, if_pos (by simp [hr, hs])]

theorem execClaim_table (s : State) (f : Nat) (h : s.mayClaim f = true) (hm : s.sys.mode ≠ .boot)
    (hr : ¬ (s.sys.role = .standby ∧ s.bit TW_STATUS_IN_STEP = true)) :
    execClaim f s = .next (s.claimTable.claimed f) := by
  unfold execClaim State.claimed
  rw [if_pos h]
  dsimp only
  rw [if_neg hm, if_neg (by simpa using hr)]

/-! ### The release guard -/

/-- The parts that the end of the guard may touch. -/
def guardParts : Parts := { regs := true, mb := true, tw := true }

theorem guardEnd_frame (s : State) : Answers guardParts s (exec .guardEnd s) :=
  execGuardEnd_answers (Frame.refl _ s) rfl rfl rfl

/-- The guard ended: its bit and its end cleared. -/
def State.guardEnded (s : State) : State := (s.putBit TW_STATUS_GUARD false).onTw fun y => { y with guardEnd := none }

theorem guardEnded_tw (s : State) : s.guardEnded.tw = { s.tw with guardEnd := none } := by
  rw [State.guardEnded, onTw_tw, putBit_eq, wr_tw]

/-- A stamp that lies far enough back. -/
theorem since_due {s : State} {x : Option Nat} {t0 d : Nat} (hx : x = some t0) (h : t0 + d ≤ s.time) :
    s.since x d = true := by
  rw [hx]
  exact decide_eq_true h

theorem execGuardEnd_due (s : State) (h : s.since s.tw.guardEnd 0 = true) : execGuardEnd s =
    .next (if s.tw.hand = .released then s.guardEnded.handReply .aborted else s.guardEnded) := by
  have hh : s.guardEnded.tw.hand = s.tw.hand := by rw [guardEnded_tw]
  rw [← hh]
  exact if_pos h

theorem execGuardEnd_rests (s : State) (h : s.since s.tw.guardEnd 0 = false) : execGuardEnd s = .next s := by
  unfold execGuardEnd
  rw [if_neg (by simp [h])]

theorem guardEnded_bit (s : State) (h : s.regsWf) : s.guardEnded.bit TW_STATUS_GUARD = false :=
  (onTw_bit _ _ _).trans <| bit_putBit_same s TW_STATUS_GUARD false h rfl (by decide)

theorem guardEnded_regsBut (s : State) : RegsBut (· = TW_STATUS_GUARD.addr) s s.guardEnded :=
  regsBut_onTw _ (regsBut_wr _ _ (RegsBut.refl _ s) rfl)

/-! ### Heartbeats -/

theorem heartbeatSend_frame (s : State) : Answers { tw := true } s (exec .heartbeatSend s) :=
  execHeartbeatSend_answers (Frame.refl _ s) rfl

/-- A heartbeat queued on the link and dated (R324). -/
def State.heartbeatSent (s : State) : State :=
  (s.linkSend 1 0 0 s.heartbeatBytes).onTw fun y => { y with hbSent := some s.time }

theorem execHeartbeatSend_sends (s : State) (he : s.bit TW_CTRL_ENABLE = true)
    (h : s.tw.hbSent.isNone = true ∨ s.since s.tw.hbSent (usec 250) = true) :
    execHeartbeatSend s = .next s.heartbeatSent := by
  unfold execHeartbeatSend
  rw [if_pos ⟨he, h⟩]
  rfl

theorem execHeartbeatSend_early (s : State) (t0 : Nat) (h : s.tw.hbSent = some t0) (ht : s.time < t0 + usec 250) :
    execHeartbeatSend s = .next s := by
  unfold execHeartbeatSend State.since
  rw [h, if_neg (by simp [ht])]

theorem execHeartbeatSend_disabled (s : State) (h : s.bit TW_CTRL_ENABLE = false) : execHeartbeatSend s = .next s := by
  unfold execHeartbeatSend
  rw [if_neg (by simp [h])]

theorem heartbeatLoss_frame (s : State) : Answers twinParts s (exec .heartbeatLoss s) :=
  execHeartbeatLoss_answers (Frame.refl _ s) rfl rfl rfl rfl rfl rfl rfl

/-- The loss of the heartbeats noted, and the held replies let go (R325, R326). -/
def State.heartbeatsLost (s : State) : State :=
  ((((s.putBit TW_STATUS_HB_OK false).putBit TW_STATUS_HB_LOST true).putBit TW_STATUS_RESYNC false).handAbort.note 12
    .heartbeatLost 2 [] 32).releaseReplies fun _ => true

theorem execHeartbeatLoss_due (s : State) (he : s.bit TW_CTRL_ENABLE = true) (hl : s.tw.lost = false)
    (ht : s.tw.hbAt.getD s.sys.bootStart + msec 3 ≤ s.time) : execHeartbeatLoss s =
      .next (if s.heartbeatsLost.sys.role = .standby then (s.heartbeatsLost.onTw fun y =>
          { y with lost := true, hbRun := 0, replay := [], rxAny := true }).isolateStandby
        else s.heartbeatsLost.linkReset) := by
  unfold execHeartbeatLoss
  rw [if_pos ⟨he, by simp [hl], ht⟩]
  rfl

theorem execHeartbeatLoss_rests (s : State) (h : s.bit TW_CTRL_ENABLE = false ∨ s.tw.lost = true ∨
    s.time < s.tw.hbAt.getD s.sys.bootStart + msec 3) : execHeartbeatLoss s = .next s := by
  unfold execHeartbeatLoss
  refine if_neg fun ⟨he, hl, ht⟩ => ?_
  rcases h with h | h | h
  · simp [h] at he
  · exact hl h
  · omega

/-- Settles O41: each command by its equation, inside the frame of its command. -/
theorem ownershipLine : Obligations.OwnershipLine := by
  unfold Obligations.OwnershipLine
  refine ⟨?invalidRests, ?invalidFault, ?invalidAgain, ⟨rfl, rfl, rfl, rfl⟩, lineClass_between, ?validOff, ?valid,
    ?noClaim, ?claimBoot, ?claimInStep, ?claimTable, ?guard, ?guardReply, ?guardRests, ?hbFirst, ?hbNext, ?hbEarly,
    ?hbOff, ?hbReceive, ?loss, fun s => rfl, ?noLoss⟩
  case invalidRests =>
    intro s h l hr
    exact answers_with (lineInvalid_frame s h l) (execLineInvalid_rests s h l hr) rfl
  case invalidFault =>
    rintro s h l c ho rfl hc hv
    exact answers_with (lineInvalid_frame s h l) (execLineInvalid_enters s h l ho hc) (if_neg (by omega))
  case invalidAgain =>
    rintro s h l c ho rfl hc hv
    exact answers_with (lineInvalid_frame s h l) (execLineInvalid_enters s h l ho hc) (if_pos hv)
  case validOff =>
    intro s o h
    exact answers_with (lineValid_frame s o) (execLineValid_off s o h) rfl
  case valid =>
    intro s o h
    obtain ⟨u, v, w, hu, hv, hw, he⟩ := execLineValid_enters s o h
    exact answers_with (lineValid_frame s o) he ⟨u, v, w, hu, hv, hw, rfl⟩
  case noClaim =>
    intro s f h
    exact answers_with (claim_frame s f) (execClaim_rests s f h) rfl
  case claimBoot =>
    intro s f h hm
    exact answers_with (claim_frame s f) (execClaim_boot s f h hm) ⟨_, rfl, rfl⟩
  case claimInStep =>
    intro s f h hm hr hs
    exact answers_with (claim_frame s f) (execClaim_inStep s f h hm hr hs) ⟨_, rfl, rfl⟩
  case claimTable =>
    intro s f h hm hr
    exact answers_with (claim_frame s f) (execClaim_table s f h hm hr) ⟨_, rfl, rfl⟩
  case guard =>
    intro s t0 hs hg ht hr
    refine answers_with (guardEnd_frame s) ((execGuardEnd_due s (since_due hg ht)).trans (by rw [if_neg hr])) ?_
    exact ⟨guardEnded_bit s hs.regs, guardEnded_tw s, guardEnded_regsBut s⟩
  case guardReply =>
    intro s t0 hg ht hr
    exact answers_with (guardEnd_frame s) (execGuardEnd_due s (since_due hg ht)) (if_pos hr)
  case guardRests =>
    intro s h
    exact answers_with (guardEnd_frame s) (execGuardEnd_rests s h) rfl
  case hbFirst =>
    intro s he h
    exact answers_with (heartbeatSend_frame s) (execHeartbeatSend_sends s he (Or.inl (by rw [h]; rfl))) rfl
  case hbNext =>
    intro s t0 he h ht
    exact answers_with (heartbeatSend_frame s) (execHeartbeatSend_sends s he (Or.inr (since_due h ht))) rfl
  case hbEarly =>
    intro s t0 h ht
    exact answers_with (heartbeatSend_frame s) (execHeartbeatSend_early s t0 h ht) rfl
  case hbOff =>
    intro s h
    exact answers_with (heartbeatSend_frame s) (execHeartbeatSend_disabled s h) rfl
  case hbReceive =>
    intro s p
    exact answers_with (execHeartbeatReceive_answers p (Frame.refl _ s) rfl rfl rfl rfl rfl rfl rfl) rfl rfl
  case loss =>
    intro s he hl ht
    exact answers_with (heartbeatLoss_frame s) (execHeartbeatLoss_due s he hl ht) ⟨_, rfl, rfl⟩
  case noLoss =>
    intro s h
    exact answers_with (heartbeatLoss_frame s) (execHeartbeatLoss_rests s h) rfl

end Sys2Proof.Machine
end

section
/-! The CXL link, the time protocol and the standard mailbox commands (R358 to R366, R418). -/

namespace Sys2Proof.Machine

/-! ### The link -/

/-- The host's writes to BAR0 change the vector table alone. -/
theorem bar0Writes_eq (l : List (Nat × BitVec 32)) (s : State) :
    ∃ x, l.foldl (fun s q => s.bar0Write q.1 q.2) s = s.onMb fun y => { y with msixTable := x } := by
  induction l generalizing s with
  | nil => exact ⟨s.mb.msixTable, rfl⟩
  | cons q l ih =>
    obtain ⟨x, hx⟩ := ih (s.bar0Write q.1 q.2)
    refine ⟨x, hx.trans ?_⟩
    unfold State.bar0Write
    split <;> rfl

/-- The parts that a training of the link may touch. -/
def linkUpParts : Parts := { regs := true, dic := true, mg := true, mb := true, le := true }

theorem cxlLinkUp_frame (s : State) (r w : Fin 3) (h : CxlHost) : Answers linkUpParts s (exec (.cxlLinkUp r w h) s) :=
  execCxlLinkUp_answers r w h (Frame.refl _ s) rfl rfl rfl rfl rfl

theorem execCxlLinkUp_off (s : State) (r w : Fin 3) (h : CxlHost) (hm : s.sys.mode = .off) :
    execCxlLinkUp r w h s = .next s := by
  unfold execCxlLinkUp
  rw [if_pos hm]

/-- The link trained and the decoder as the host has committed it (R358, R362). -/
def State.cxlTrained (s : State) (r w : Fin 3) (h : CxlHost) : State :=
  (s.onMb fun y => { y with
    linkUp := true, linkRate := cxlRate r, linkWidth := cxlWidth w, linkReduced := r.val != 2 || w.val != 2,
    linkFlit := if r.val = 2 then 256 else 68 }).setHdm h.hdm

/-- The vector table as the host has written it. -/
def State.withVectors (s : State) (x : Table Word) : State := s.onMb fun y => { y with msixTable := x }

/-- A link that trains is up with its rate, width and flits and with the decoder (R358, R359, R362); then doorbell 481,
with a record where the link is reduced. -/
theorem execCxlLinkUp_trains (s : State) (r w : Fin 3) (h : CxlHost) (hm : s.sys.mode ≠ .off) :
    ∃ x, execCxlLinkUp r w h s = .next (if r.val != 2 || w.val != 2 then
      ((s.cxlTrained r w h).withVectors x).note 14 .linkReduced 1 [cxlRate r, cxlWidth w] 481
      else ((s.cxlTrained r w h).withVectors x).post 481) := by
  obtain ⟨x, hx⟩ := bar0Writes_eq h.bar0 (s.cxlTrained r w h)
  refine ⟨x, ?_⟩
  rw [State.withVectors, ← hx]
  unfold execCxlLinkUp
  rw [if_neg hm]
  rfl

/-- The parts that a reset of the interface may touch. -/
def linkDownParts : Parts := { regs := true, dic := true, mg := true, mb := true, le := true, tw := true }

theorem cxlInterfaceReset_frame (s : State) (b : Bool) : Answers linkDownParts s (exec (.cxlInterfaceReset b) s) :=
  execCxlInterfaceReset_answers b (Frame.refl _ s) rfl rfl rfl rfl rfl rfl

/-- The interface reset: the decoder, the replies in progress and the vector table gone (R360). -/
def State.cxlCleared (s : State) : State := (s.setHdm none).repliesLost.onMb fun y => { y with msixTable := [] }

/-- The link down, too. -/
def State.cxlDown (s : State) : State := s.cxlCleared.onMb fun y => { y with
  linkUp := false, linkRate := 0, linkWidth := 0, linkReduced := false, linkFlit := 0 }

/-- What a reset of the interface leaves, be the link down or not: no decoder, no reply in progress and no vector table; the
tags and the journals stay (R360). -/
def CxlReset (s u : State) : Prop :=
  u.mb.held = [] ∧ u.mb.msixTable = [] ∧ u.mb.tags = s.mb.tags ∧ u.mb.journals = s.mb.journals ∧ u.regs = s.regs ∧
    u.tw = { s.tw with handLost := s.tw.handLost || s.tw.handTag.isSome }

theorem cxlCleared_resets (s : State) : s.cxlCleared.mb.hdmCommitted = false ∧ s.cxlCleared.mb.linkUp = s.mb.linkUp ∧
    CxlReset s s.cxlCleared := by
  simp [CxlReset, State.cxlCleared, State.setHdm, State.repliesLost]

theorem cxlDown_resets (s : State) : s.cxlDown.mb.hdmCommitted = false ∧ s.cxlDown.mb.linkUp = false ∧
    CxlReset s s.cxlDown := by
  simp [CxlReset, State.cxlDown, State.cxlCleared, State.setHdm, State.repliesLost]

theorem execCxlInterfaceReset_off (s : State) (b : Bool) (h : s.sys.mode = .off) :
    execCxlInterfaceReset b s = .next s := by
  unfold execCxlInterfaceReset
  rw [if_pos h]

theorem execCxlInterfaceReset_function (s : State) (h : s.sys.mode ≠ .off) :
    execCxlInterfaceReset true s = .next (s.cxlCleared.log 14 .cxlReset 1 [1]) := by
  unfold execCxlInterfaceReset
  rw [if_neg h]
  rfl

theorem execCxlInterfaceReset_link (s : State) (h : s.sys.mode ≠ .off) :
    execCxlInterfaceReset false s = .next ((s.cxlDown.post 481).log 14 .cxlReset 1 [0]) := by
  unfold execCxlInterfaceReset
  rw [if_neg h]
  rfl

/-- An error of the link counted (R365). -/
def State.aerCounted (s : State) (b : Bool) : State :=
  s.onMb fun y => { y with aerCorr := y.aerCorr + (1 - b2n b), aerUncorr := y.aerUncorr + b2n b }

/-! ### The time protocol -/

/-- The start of the run of good offsets that a dialog leaves, where its offset is within 1 µs (R364). -/
def State.ptmSince (s : State) (o : Option Int) : Option Nat :=
  if o.any (fun x => decide (-1000 ≤ x ∧ x ≤ 1000)) then some (s.mb.ptmGoodSince.getD s.time) else none

/-- The run has lasted 1 s. -/
def State.ptmLocks (s : State) (o : Option Int) : Bool := s.since (s.ptmSince o) (secs 1)

/-- A dialog dated, PTM_LOCKED brought up to the run of good offsets. -/
def State.ptmDated (s : State) (o : Option Int) : State :=
  (s.onMb fun y => { y with ptmGoodSince := s.ptmSince o, ptmLast := some s.time }).putBit CK_STATUS_PTM_LOCKED
    (s.ptmLocks o)

/-- The offset and the rate correction that a dialog writes which succeeded (R364, R418). -/
def State.ptmWritten (u : State) (x : Int) : State :=
  ((u.wr CK_PTM_OFFSET (wrapInt 32 x)).wr CK_SLEW (wrapInt 16 (clampInt (-slewLimit) slewLimit
    (signedOf 16 u.freeNat)))).drew

/-- What a dialog writes beside its date: where it succeeded the steering and doorbell 483. -/
def State.ptmSteered (u : State) : Option Int → State
  | some x => (u.ptmWritten x).post 483
  | none => u

theorem since_eq_any (s : State) (q : Option Nat) (d : Nat) :
    s.since q d = q.any fun t0 => decide (t0 + d ≤ s.time) := by
  cases q <;> rfl

/-- A dialog as its parts; the length of the run is kept a variable, so that no count of it is unfolded. -/
theorem execPtmDialog_eq (s : State) (o : Option Int) : execPtmDialog o s =
    .next (if s.bit CK_STATUS_PTM_LOCKED && !s.ptmLocks o then
      ((s.ptmDated o).ptmSteered o).note 16 .ptmLost 1 [] 1 else (s.ptmDated o).ptmSteered o) := by
  unfold execPtmDialog State.ptmSteered State.ptmWritten State.ptmDated State.ptmLocks State.ptmSince State.since
  generalize secs 1 = d
  cases o with
  | none => simp only [Option.any_none, Bool.false_eq_true, if_false]
  | some x =>
    cases hd : decide (-1000 ≤ x ∧ x ≤ 1000) with
    | true => simp only [hd, Option.any_some, if_true]
    | false => simp only [hd, Option.any_some, Bool.false_eq_true, if_false]

theorem ptmDialog_frame (s : State) (o : Option Int) :
    Answers { free := true, regs := true, dic := true, mg := true, mb := true, le := true } s (exec (.ptmDialog o) s) :=
  execPtmDialog_answers o (Frame.refl _ s) rfl rfl rfl rfl rfl rfl

theorem ptmDated_locked (s : State) (o : Option Int) (h : s.regsWf) :
    (s.ptmDated o).bit CK_STATUS_PTM_LOCKED = s.ptmLocks o :=
  bit_putBit_same (s.onMb _) CK_STATUS_PTM_LOCKED _ h rfl (by decide)

theorem ptmDated_regsWf (s : State) (o : Option Int) (h : s.regsWf) : (s.ptmDated o).regsWf :=
  putBit_regsWf (s.onMb _) CK_STATUS_PTM_LOCKED _ h

/-- A dialog that failed ends the run. -/
theorem ptmLocks_none (s : State) : s.ptmLocks none = false := rfl

/-- A run of good offsets that began 1 s ago. -/
theorem ptmLocks_run (s : State) (o : Int) (t0 : Nat) (h1 : -1000 ≤ o) (h2 : o ≤ 1000)
    (hg : s.mb.ptmGoodSince = some t0) (ht : t0 + secs 1 ≤ s.time) : s.ptmLocks (some o) = true := by
  refine since_due (t0 := t0) ?_ ht
  simp [State.ptmSince, h1, h2, hg]

/-- A register of the clock is none of those that a log record or a doorbell writes. -/
theorem clockReg_not_noteReg {a : Nat} (h0 : 0x4F000000 ≤ a) (h1 : a < 0x50000000) : ¬ noteReg a := by
  unfold noteReg
  omega

/-- The registers that a dialog may write. -/
def ptmReg (a : Nat) : Prop :=
  a = CK_STATUS_PTM_LOCKED.addr ∨ a = CK_PTM_OFFSET.addr ∨ a = CK_SLEW.addr ∨ noteReg a

theorem noteReg_ptmReg (a : Nat) (h : noteReg a) : ptmReg a := Or.inr (Or.inr (Or.inr h))

theorem ptmSteered_posts (u : State) (x : Int) : u.ptmSteered (some x) = (u.ptmWritten x).post 483 := rfl

theorem ptmWritten_locked (u : State) (x : Int) :
    (u.ptmWritten x).bit CK_STATUS_PTM_LOCKED = u.bit CK_STATUS_PTM_LOCKED :=
  (bit_wr_ne _ CK_SLEW CK_STATUS_PTM_LOCKED _ (by decide)).trans
    (bit_wr_ne u CK_PTM_OFFSET CK_STATUS_PTM_LOCKED _ (by decide))

theorem wrapInt_lt (n : Nat) (i : Int) : wrapInt n i < 2 ^ n := by
  unfold wrapInt
  have h0 := Int.emod_nonneg i (b := ((2 ^ n : Nat) : Int)) (by positivity)
  have h1 := Int.emod_lt_of_pos i (b := ((2 ^ n : Nat) : Int)) (by positivity)
  omega

theorem ptmWritten_offset (u : State) (x : Int) (h : u.regsWf) :
    (u.ptmWritten x).rd CK_PTM_OFFSET = wrapInt 32 x :=
  (rd_wr_ne _ CK_SLEW CK_PTM_OFFSET _ (by decide)).trans
    ((rd_wr_same u CK_PTM_OFFSET _ h (by decide) (by decide)).trans (Nat.mod_eq_of_lt (wrapInt_lt 32 x)))

theorem ptmWritten_regsBut {s0 u : State} (x : Int) (h : RegsBut ptmReg s0 u) : RegsBut ptmReg s0 (u.ptmWritten x) :=
  regsBut_same (regsBut_wr CK_SLEW _ (regsBut_wr CK_PTM_OFFSET _ h (Or.inr (Or.inl rfl)))
    (Or.inr (Or.inr (Or.inl rfl)))) (drew_regs _)

/-- The post of a dialog leaves the registers of the clock. -/
theorem post_not_noteReg (u : State) (src : Nat) (hs : src < 2048) : RegsBut noteReg u (u.post src) :=
  regsBut_post (fun _ h => h) src hs (RegsBut.refl noteReg u)

/-! ### The step of the timebase -/

/-- A log record leaves the registers of the clock. -/
theorem log_not_noteReg (u : State) (sub : Nat) (ev : Ev) (sev : Nat) (detail : List Nat) :
    RegsBut noteReg u (u.log sub ev sev detail) := regsBut_log (fun _ h => h) sub ev sev detail (RegsBut.refl noteReg u)

/-- TIME_VALID and TIME_STEPPED set, in a register file that another state shares. -/
theorem timeBits_set {s t : State} (hs : s.regsWf)
    (ht : t.regs = ((s.putBit CK_STATUS_TIME_VALID true).putBit CK_STATUS_TIME_STEPPED true).regs) :
    t.bit CK_STATUS_TIME_VALID = true ∧ t.bit CK_STATUS_TIME_STEPPED = true ∧
      RegsBut (· = CK_STATUS.addr) s t := by
  have h1 := putBit_regsWf s CK_STATUS_TIME_VALID true hs
  have hb : ∀ f, t.bit f = ((s.putBit CK_STATUS_TIME_VALID true).putBit CK_STATUS_TIME_STEPPED true).bit f :=
    fun f => (regsBut_same (RegsBut.refl (fun _ => False) _) ht).bit f id
  refine ⟨?_, ?_, ?_⟩
  · rw [hb, bit_putBit_disjoint _ CK_STATUS_TIME_STEPPED CK_STATUS_TIME_VALID _ h1 rfl (by decide) rfl (by decide)]
    exact bit_putBit_same s CK_STATUS_TIME_VALID true hs rfl (by decide)
  · rw [hb]
    exact bit_putBit_same _ CK_STATUS_TIME_STEPPED true h1 rfl (by decide)
  · exact regsBut_same (regsBut_wr CK_STATUS_TIME_STEPPED _ (regsBut_wr CK_STATUS_TIME_VALID _ (RegsBut.refl _ s) rfl)
      rfl) ht

/-- The first source steps the timebase to its time and ends the tick and the frame in progress (R418). -/
theorem execTimebaseStep_steps (s : State) (d : Nat) (p : Bool) (hv : s.bit CK_STATUS_TIME_VALID = false)
    (h : s.timeSource p = true) : ∃ t : State, execTimebaseStep d p s = .next (t.log 16 .timeStep 0 [s.time, d]) ∧
      t.time = d ∧ t.sys.lastTick = none ∧ t.sys.lastFrame = none ∧
      t.regs = ((s.putBit CK_STATUS_TIME_VALID true).putBit CK_STATUS_TIME_STEPPED true).regs := by
  unfold execTimebaseStep
  rw [if_pos ⟨by simp [hv], h⟩]
  exact ⟨_, rfl, rfl, rfl, rfl, rfl⟩

theorem execTimebaseStep_rests (s : State) (d : Nat) (p : Bool)
    (h : s.bit CK_STATUS_TIME_VALID = true ∨ s.timeSource p = false) : execTimebaseStep d p s = .next s := by
  unfold execTimebaseStep
  exact if_neg fun ⟨hv, hs⟩ => by simp [hv, hs] at h

/-! ### The standard commands -/

theorem standard_off (s : State) (b : List Byte) (h : s.sys.mode = .off) : s.standard b = s := by
  unfold State.standard
  rw [if_pos h]

/-- A standard command at a module that has supply: counted, the host-silence timer restarted on the ACTIVE module,
answered. -/
theorem standard_answers (s : State) (b : List Byte) (h : s.sys.mode ≠ .off) :
    s.standard b = (s.askedAgain.reply { rc := 0, body := b }).msixSend 0 := by
  unfold State.standard
  rw [if_neg h]
  rfl

/-- A request counts itself and dates the last command. -/
theorem askedAgain_mb (s : State) :
    s.askedAgain.mb = { s.mb with commands := s.mb.commands + 1, lastCommand := some s.time } := by
  have ha : s.asked.mb = { s.mb with commands := s.mb.commands + 1, lastCommand := some s.time } :=
    (post_frame (P := { regs := true, dic := true, le := true }) 480 (Frame.refl _ _) rfl rfl rfl).mb rfl
  unfold State.askedAgain
  split
  · rw [(silenceRestart_frame_sys s.asked).mb rfl, ha]
  · exact ha

/-- A reply and its vector leave the count and the date of the commands. -/
theorem replySent_mb (s : State) (r : Reply) (v : Nat) : ((s.reply r).msixSend v).mb.commands = s.mb.commands ∧
    ((s.reply r).msixSend v).mb.lastCommand = s.mb.lastCommand := by
  unfold State.reply
  split <;> exact ⟨rfl, rfl⟩

theorem replySent_head {s : State} (r : Reply) (v : Nat) (h : s.sys.mode ≠ .off) :
    ((s.reply r).msixSend v).mb.replies.head? = some r := by
  rw [← reply_head r h]
  rfl

/-- Settles O46: each command by its equation, and the registers by what a dialog and a step of the timebase write. -/
theorem cxlInterface : Obligations.CxlInterface := by
  unfold Obligations.CxlInterface
  refine ⟨?linkOff, ?link, ?linkReduced, ?resetOff, ?resetFunction, ?resetLink, ?ptmFails, ?ptmLocks, ?ptm, ?stepRests,
    ?step, ?aer, ?unsupported, ?identify, ?logs, ?getLog, ?events, ?clear, ?stamp, ?stampOwn, ?stampSet, ?setStamp,
    ?standard⟩
  case linkOff =>
    intro s r w h hm
    exact answers_with (cxlLinkUp_frame s r w h) (execCxlLinkUp_off s r w h hm) rfl
  case link =>
    intro s h hm
    obtain ⟨x, hx⟩ := execCxlLinkUp_trains s 2 2 h hm
    exact answers_with (cxlLinkUp_frame s 2 2 h) hx ⟨(s.cxlTrained 2 2 h).withVectors x, rfl, rfl, rfl, rfl, rfl, rfl, rfl,
      if_neg (by decide)⟩
  case linkReduced =>
    intro s r w h hm hr
    obtain ⟨x, hx⟩ := execCxlLinkUp_trains s r w h hm
    have hb : (r.val != 2 || w.val != 2) = true := by simpa using hr
    exact answers_with (cxlLinkUp_frame s r w h) hx ⟨(s.cxlTrained r w h).withVectors x, rfl, hb, rfl, rfl, rfl, rfl, rfl,
      if_pos hb⟩
  case resetOff =>
    intro s b h
    exact answers_with (cxlInterfaceReset_frame s b) (execCxlInterfaceReset_off s b h) rfl
  case resetFunction =>
    intro s h
    exact answers_with (cxlInterfaceReset_frame s true) (execCxlInterfaceReset_function s h)
      ⟨s.cxlCleared, rfl, cxlCleared_resets s⟩
  case resetLink =>
    intro s h
    exact answers_with (cxlInterfaceReset_frame s false) (execCxlInterfaceReset_link s h)
      ⟨s.cxlDown, rfl, cxlDown_resets s⟩
  case ptmFails =>
    intro s hs hb
    have hl : (s.bit CK_STATUS_PTM_LOCKED && !s.ptmLocks none) = true := by rw [hb, ptmLocks_none]; rfl
    have hn : RegsBut noteReg (s.ptmDated none) ((s.ptmDated none).note 16 .ptmLost 1 [] 1) :=
      regsBut_note (fun _ h => h) _ _ _ _ _ (by decide) (RegsBut.refl _ _)
    refine answers_with (ptmDialog_frame s none) ((execPtmDialog_eq s none).trans (congrArg _ (if_pos hl))) ⟨?_, ?_⟩
    · exact (hn.bit CK_STATUS_PTM_LOCKED (clockReg_not_noteReg (by decide) (by decide))).trans
        (ptmDated_locked s none hs.regs)
    · exact regsBut_note (fun _ h => Or.inr h) _ _ _ _ _ (by decide)
        (regsBut_wr _ _ (regsBut_onMb _ (RegsBut.refl _ s)) (Or.inl rfl))
  case ptmLocks =>
    intro s o t0 hs h1 h2 hg ht
    have hl := ptmLocks_run s o t0 h1 h2 hg ht
    have hn : (s.bit CK_STATUS_PTM_LOCKED && !s.ptmLocks (some o)) = false := by rw [hl]; simp
    have hp := post_not_noteReg ((s.ptmDated (some o)).ptmWritten o) 483 (by decide)
    refine answers_with (ptmDialog_frame s (some o)) ((execPtmDialog_eq s (some o)).trans (congrArg _ (if_neg
      (by simp [hn])))) ⟨?_, ?_, ?_⟩ <;> rw [ptmSteered_posts]
    · rw [hp.bit _ (clockReg_not_noteReg (by decide) (by decide)), ptmWritten_locked, ptmDated_locked _ _ hs.regs, hl]
    · rw [hp.rd _ (clockReg_not_noteReg (by decide) (by decide)), ptmWritten_offset _ _ (ptmDated_regsWf s _ hs.regs)]
    · exact regsBut_post noteReg_ptmReg 483 (by decide) (ptmWritten_regsBut o
        (regsBut_wr _ _ (regsBut_onMb _ (RegsBut.refl _ s)) (Or.inl rfl)))
  case ptm =>
    intro s o
    refine answers_with (ptmDialog_frame s o) (execPtmDialog_eq s o) ⟨_, s.ptmLocks o, s.ptmSince o, s.ptmDated o,
      (s.ptmDated o).ptmSteered o, rfl, rfl, since_eq_any _ _ _, rfl, ?_, ?_, rfl⟩
    · rintro rfl
      rfl
    · rintro x rfl
      rfl
  case stepRests =>
    intro s d p h
    exact answers_with (execTimebaseStep_answers d p (Frame.refl _ s) rfl rfl rfl rfl rfl)
      (execTimebaseStep_rests s d p h) rfl
  case step =>
    intro s d p hs hv h
    obtain ⟨t, he, htime, htick, hframe, hregs⟩ := execTimebaseStep_steps s d p hv h
    have hf := log_keeps t 16 .timeStep 0 [s.time, d]
    have hl := log_not_noteReg t 16 .timeStep 0 [s.time, d]
    obtain ⟨hvalid, hstepped, hbut⟩ := timeBits_set hs.regs hregs
    refine answers_with (execTimebaseStep_answers d p (Frame.refl _ s) rfl rfl rfl rfl rfl) he
      ⟨(hf.time rfl).trans htime, ?_, ?_, ?_, ?_, ?_⟩
    · rw [hl.bit _ (clockReg_not_noteReg (by decide) (by decide)), hvalid]
    · rw [hl.bit _ (clockReg_not_noteReg (by decide) (by decide)), hstepped]
    · rw [hf.sys rfl, htick]
    · rw [hf.sys rfl, hframe]
    · exact regsBut_log (fun _ h => Or.inr h) _ _ _ _ (hbut.mono fun _ h => Or.inl h)
  case aer =>
    intro s b
    exact answers_with (execAerError_answers b (Frame.refl _ s) rfl rfl rfl rfl rfl) rfl
      ⟨s.aerCounted b, rfl, rfl, rfl⟩
  case unsupported =>
    intro s op
    exact answers_with (execUnsupportedCommand_answers op (Frame.refl _ s) rfl rfl rfl rfl) rfl rfl
  case identify =>
    intro s
    exact answers_with (execIdentifyMemoryDevice_answers (Frame.refl _ s) rfl rfl rfl rfl rfl rfl) rfl rfl
  case logs =>
    intro s
    exact answers_with (execGetSupportedLogs_answers (Frame.refl _ s) rfl rfl rfl rfl rfl rfl) rfl rfl
  case getLog =>
    intro s
    exact answers_with (execGetLog_answers (Frame.refl _ s) rfl rfl rfl rfl rfl rfl) rfl rfl
  case events =>
    intro s
    exact answers_with (execGetEventRecords_answers (Frame.refl _ s) rfl rfl rfl rfl rfl rfl) rfl rfl
  case clear =>
    intro s n
    exact answers_with (execClearEventRecords_answers n (Frame.refl _ s) rfl rfl rfl rfl rfl rfl) rfl rfl
  case stamp =>
    intro s
    exact answers_with (execGetTimestamp_answers (Frame.refl _ s) rfl rfl rfl rfl rfl rfl) rfl rfl
  case stampOwn =>
    intro s h
    unfold State.stampNow
    rw [h]
  case stampSet =>
    intro s v t0 h
    unfold State.stampNow
    rw [h]
  case setStamp =>
    intro s ns
    exact answers_with (execSetTimestamp_answers ns (Frame.refl _ s) rfl rfl rfl rfl rfl rfl) rfl rfl
  case standard =>
    intro s b
    refine ⟨standard_off s b, fun h => ?_⟩
    obtain ⟨hc, hd⟩ := replySent_mb s.askedAgain { rc := 0, body := b } 0
    rw [standard_answers s b h]
    refine ⟨replySent_head _ 0 (by rwa [askedAgain_mode]), ?_, ?_, ?_⟩
    · rw [hc, askedAgain_mb]
    · rw [hd, askedAgain_mb]
    · exact msixSend_frame 0 (reply_frame _ (askedAgain_frame s) rfl) rfl

end Sys2Proof.Machine
end

section
/-! The loop engine's samples (R29 to R35): one equation for each case of an evaluation, a check and a deadline, and what
they leave in a slot. -/

namespace Sys2Proof.Machine

/-! ### The slots and their registers -/

@[simp] theorem setSlot_bit (s : State) (k : Nat) (x : LSlot) (f : RF) : (s.setSlot k x).bit f = s.bit f :=
  onLe_bit s _ f

@[simp] theorem setSlot_regs (s : State) (k : Nat) (x : LSlot) : (s.setSlot k x).regs = s.regs := onLe_regs s _

theorem setSlot_le (s : State) (k : Nat) (x : LSlot) :
    (s.setSlot k x).le = { s.le with slots := tset {} s.le.slots k x } := onLe_le s _

theorem regsBut_setSlot {l : Nat → Prop} {s0 s : State} (k : Nat) (x : LSlot) (h : RegsBut l s0 s) :
    RegsBut l s0 (s.setSlot k x) := regsBut_onLe _ h

/-- A slot record that is not the empty one reads back as it was set. -/
theorem slot_setSlot (s : State) (k : Nat) (x : LSlot) (h : x ≠ {}) : (s.setSlot k x).slot k = x := by
  unfold State.slot
  rw [setSlot_le]
  unfold tget tset
  rw [if_neg h, tfind_tinsert_same]
  rfl

theorem regsBut_incSat {l : Nat → Prop} {s0 s : State} (f : RF) (h : RegsBut l s0 s) (hf : l f.addr) :
    RegsBut l s0 (s.incSat f) := regsBut_wr f _ h hf

theorem bit_incSat_ne (s : State) (f g : RF) (h : g.addr ≠ f.addr) : (s.incSat f).bit g = s.bit g :=
  bit_wr_ne s f g _ h

/-- The registers above the bobbins and below the management die's are none of those that a doorbell writes. -/
theorem not_noteReg_of_range {a : Nat} (h0 : 0x41002200 ≤ a) (h1 : a < 0x50000000) : ¬ noteReg a := by
  unfold noteReg
  omega

theorem slotFlags_not_noteReg {k : Nat} (hk : k < 4608) : ¬ noteReg (SL_FLAGS k).addr :=
  not_noteReg_of_range (by simp only [SL_FLAGS]; omega) (by simp only [SL_FLAGS]; omega)

theorem note_regsBut (s : State) (sub : Nat) (ev : Ev) (sev : Nat) (detail : List Nat) {src : Nat} (hs : src < 2048) :
    RegsBut noteReg s (s.note sub ev sev detail src) :=
  regsBut_note (fun _ h => h) sub ev sev detail src hs (RegsBut.refl _ s)

/-! ### A sample evaluated -/

/-- The parts that an evaluation may touch. -/
def evalParts : Parts :=
  { Parts.full with time := false, free := false, mem := false, vq := false, fb := false, ca := false }

theorem sampleEvaluation_frame (p : Fin 8) (agree : Bool) (s : State) :
    Answers evalParts s (exec (.sampleEvaluation p agree) s) :=
  execSampleEvaluation_answers p agree (Frame.refl _ s) rfl rfl rfl rfl rfl rfl rfl rfl rfl rfl rfl rfl

/-- A pair taken for the 20 counts of an evaluation. -/
def State.pairBusy (s : State) (p : Nat) : State := s.onLe fun y => { y with busy := tset 0 y.busy p (s.time + 20) }

/-- What an evaluation does last: the time stamp at its end, the slack, and the slot left without a sample (R29, R65). -/
theorem evalSlot_ends (s : State) (k rel dl : Nat) : ∃ (u : State) (least : Nat) (x : LSlot), Frame evalParts s u ∧
    s.evalSlot k rel dl = (((u.wr (SL_LAST_TS_LO k) (s.time + 20)).wr (SL_LAST_TS_HI k) ((s.time + 20) / 2 ^ 32)).wr
      (SL_MISS_SLOT_SLACK k) least).setSlot k
        { x with release := none, ready := false, retried := false, slackOn := true } := by
  have ha : Frame evalParts s (s.applyParams k) := applyParams_frame k (Frame.refl _ s) rfl rfl rfl rfl
  exact ⟨_, _, _, frame_ite (runCtx_frame k rel _ ha rfl rfl rfl rfl) (runPlant_frame k rel _ ha rfl rfl rfl rfl rfl rfl),
    rfl⟩

theorem evalSlot_slot (s : State) (k rel dl : Nat) :
    ((s.evalSlot k rel dl).slot k).release = none ∧ ((s.evalSlot k rel dl).slot k).ready = false := by
  obtain ⟨u, least, x, -, he⟩ := evalSlot_ends s k rel dl
  have hx : ({ x with release := none, ready := false, retried := false, slackOn := true } : LSlot) ≠ {} :=
    fun h => Bool.noConfusion (congrArg LSlot.slackOn h : true = false)
  rw [he, slot_setSlot _ _ _ hx]
  exact ⟨rfl, rfl⟩

/-- The two words of a slot's time stamp are one register pair. -/
theorem lastTs_pair (s : State) (k v : Nat) :
    (s.wr (SL_LAST_TS_LO k) v).wr (SL_LAST_TS_HI k) (v / 2 ^ 32) = s.wr64 (SL_LAST_TS_LO k) v := by
  have h : SL_LAST_TS_HI k = ⟨(SL_LAST_TS_LO k).addr + 4, 31, 0⟩ := by
    simp only [SL_LAST_TS_HI, SL_LAST_TS_LO, RF.mk.injEq, and_true]
    omega
  rw [h]
  rfl

/-- The time stamp of a slot after an evaluation is the end of that evaluation (R29). -/
theorem evalSlot_stamp (s : State) (k rel dl : Nat) (hs : s.regsWf) (ht : s.time + 20 < 2 ^ 64) :
    (s.evalSlot k rel dl).rd64 (SL_LAST_TS_LO k) = s.time + 20 := by
  obtain ⟨u, least, x, hf, he⟩ := evalSlot_ends s k rel dl
  have hb : RegsBut (· = (SL_MISS_SLOT_SLACK k).addr) (u.wr64 (SL_LAST_TS_LO k) (s.time + 20)) (s.evalSlot k rel dl) := by
    rw [he, lastTs_pair]
    exact regsBut_setSlot _ _ (regsBut_wr _ _ (RegsBut.refl _ _) rfl)
  rw [hb.rd64 _ (by simp only [SL_LAST_TS_LO, SL_MISS_SLOT_SLACK]; omega)
    (by simp only [SL_LAST_TS_LO, SL_MISS_SLOT_SLACK]; omega)]
  exact rd64_wr64_same u _ _ (hf.regsWf hs) ht

/-- SAMPLE_EVALUATION by a free pair with a ready sample. -/
theorem execSampleEvaluation_runs (p : Fin 8) (agree : Bool) (s : State) (k rel dl : Nat)
    (he : s.bit LE_CTRL_ENABLE = true) (hp : s.pairUp p = true) (hb : tget 0 s.le.busy p ≤ s.time)
    (hn : s.nextSample = some (k, rel, dl)) : execSampleEvaluation p agree s =
      .next (if agree then (s.pairBusy p).evalSlot k rel dl
        else (if (s.slot k).retried = false ∧ s.time + 40 ≤ dl then
            ((s.pairBusy p).setSlot k { s.slot k with retried := true }).putBit (SL_FLAGS_LANE_RETRY k) true
          else (s.pairBusy p).missSample k).retirePair p) := by
  unfold execSampleEvaluation
  rw [if_pos ⟨he, hp, hb⟩, hn]
  cases agree
  · simp only [Bool.false_eq_true, if_false, Bool.not_eq_true]
    rfl
  · rfl

theorem execSampleEvaluation_rests (p : Fin 8) (agree : Bool) (s : State) (h : s.bit LE_CTRL_ENABLE = false ∨
    s.pairUp p = false ∨ s.time < tget 0 s.le.busy p ∨ s.nextSample = none) :
    execSampleEvaluation p agree s = .next s := by
  unfold execSampleEvaluation
  split
  next hc =>
    obtain ⟨he, hp, hb⟩ := hc
    have hn : s.nextSample = none := by simpa [he, hp, Nat.not_lt.mpr hb] using h
    rw [hn]
  next => rfl

/-! ### A check evaluation -/

/-- The parts that a check evaluation may touch. -/
def checkParts : Parts :=
  { Parts.full with time := false, free := false, mem := false, pb := false, vq := false, fb := false, ca := false }

theorem checkEvaluation_frame (p : Fin 8) (correct : Bool) (s : State) :
    Answers checkParts s (exec (.checkEvaluation p correct) s) :=
  execCheckEvaluation_answers p correct (Frame.refl _ s) rfl rfl rfl rfl rfl rfl rfl rfl rfl rfl rfl

theorem execCheckEvaluation_runs (p : Fin 8) (correct : Bool) (s : State) (hp : s.pairUp p = true)
    (hc : tfind s.le.checked p ≠ some (s.time / 5000)) (hb : tget 0 s.le.busy p ≤ s.time) :
    execCheckEvaluation p correct s = .next (if correct then s.onLe fun y => { y with
        checked := tinsert y.checked p (s.time / 5000), busy := tset 0 y.busy p (s.time + 20) }
      else (s.onLe fun y => { y with
        checked := tinsert y.checked p (s.time / 5000), busy := tset 0 y.busy p (s.time + 20) }).retirePair p) :=
  if_pos ⟨hp, hc, hb⟩

theorem execCheckEvaluation_rests (p : Fin 8) (correct : Bool) (s : State) (h : s.pairUp p = false ∨
    tfind s.le.checked p = some (s.time / 5000) ∨ s.time < tget 0 s.le.busy p) :
    execCheckEvaluation p correct s = .next s :=
  if_neg fun ⟨hp, hc, hb⟩ => by simp [hp, hc, Nat.not_lt.mpr hb] at h

/-! ### A deadline -/

theorem sampleDeadlineMiss_frame (k : Fin 4608) (s : State) :
    Answers { regs := true, dic := true, mg := true, le := true } s (exec (.sampleDeadlineMiss k) s) :=
  execSampleDeadlineMiss_answers k (Frame.refl _ s) rfl rfl rfl rfl

theorem execSampleDeadlineMiss_due (k : Fin 4608) (s : State) (rel dl : Nat) (hr : (s.slot k).release = some (rel, dl))
    (hd : dl ≤ s.time) : execSampleDeadlineMiss k s = .next (s.dropSample k) := by
  unfold execSampleDeadlineMiss
  rw [hr]
  dsimp only
  rw [if_pos hd]

theorem execSampleDeadlineMiss_early (k : Fin 4608) (s : State)
    (h : (s.slot k).release.all (fun q => decide (s.time < q.2)) = true) : execSampleDeadlineMiss k s = .next s := by
  unfold execSampleDeadlineMiss
  cases hr : (s.slot k).release with
  | none => rfl
  | some q =>
    rw [hr] at h
    have hd : s.time < q.2 := of_decide_eq_true h
    exact congrArg _ (if_neg (Nat.not_le.mpr hd))

/-- The registers that a missed sample may write. -/
def missReg (k a : Nat) : Prop :=
  a = (SL_FLAGS_MISS k).addr ∨ a = LE_MISS_COUNT.addr ∨ a = (SL_MISS_SLOT_MISSED k).addr ∨ noteReg a

theorem missSample_regsBut (s : State) (k : Nat) : RegsBut (missReg k) s (s.missSample k) :=
  regsBut_note (fun _ h => Or.inr (Or.inr (Or.inr h))) _ _ _ _ _ (by decide)
    (regsBut_setSlot _ _ (regsBut_incSat _ (regsBut_incSat _ (regsBut_wr _ _ (RegsBut.refl _ s) (Or.inl rfl))
      (Or.inr (Or.inl rfl))) (Or.inr (Or.inr (Or.inl rfl)))))

theorem missSample_bit (s : State) (k : Nat) (hk : k < 4608) (h : s.regsWf) :
    (s.missSample k).bit (SL_FLAGS_MISS k) = true := by
  unfold State.missSample
  dsimp only
  rw [(note_regsBut _ _ _ _ _ (by decide)).bit (SL_FLAGS_MISS k) (slotFlags_not_noteReg hk), setSlot_bit,
    bit_incSat_ne _ _ _ (by simp only [SL_FLAGS_MISS, SL_MISS_SLOT_MISSED]; omega),
    bit_incSat_ne _ _ _ (by simp only [SL_FLAGS_MISS, LE_MISS_COUNT]; omega)]
  exact bit_putBit_same s _ true h rfl (by simp [SL_FLAGS_MISS])

theorem dropSample_bit (s : State) (k : Nat) (hk : k < 4608) (h : s.regsWf) :
    (s.dropSample k).bit (SL_FLAGS_MISS k) = true := by
  have ho : Frame Parts.full s (if (s.slot k).ready then s.overload else s) :=
    frame_ite (overload_frame (Frame.refl _ s) rfl rfl rfl rfl) (Frame.refl _ s)
  exact missSample_bit _ k hk (ho.regsWf h)

/-- A sample that was not ready is dropped without an overload. -/
theorem dropSample_waiting (s : State) (k : Nat) (h : (s.slot k).ready = false) : s.dropSample k = s.missSample k := by
  unfold State.dropSample
  rw [h]
  rfl

/-- Settles O9: each command by its equation, an evaluation by what it does last, a missed sample by the registers that it
writes. -/
theorem loopSlots : Obligations.LoopSlots := by
  unfold Obligations.LoopSlots
  refine ⟨?agree, ?differ, ?rests, ?checkGood, ?checkBad, ?checkRests, ?due, ?early⟩
  case agree =>
    intro s p k rel dl he hp hb hn
    have hslot := evalSlot_slot (s.pairBusy p) k rel dl
    exact answers_with (sampleEvaluation_frame p true s) (execSampleEvaluation_runs p true s k rel dl he hp hb hn)
      ⟨rfl, hslot.1, hslot.2, fun hs _ ht => evalSlot_stamp (s.pairBusy p) k rel dl hs.regs ht⟩
  case differ =>
    intro s p k rel dl he hp hb hn
    exact answers_with (sampleEvaluation_frame p false s) (execSampleEvaluation_runs p false s k rel dl he hp hb hn)
      ⟨s.pairBusy p, rfl, rfl⟩
  case rests =>
    intro s p b h
    exact answers_with (sampleEvaluation_frame p b s) (execSampleEvaluation_rests p b s h) rfl
  case checkGood =>
    intro s p hp hc hb
    exact answers_with (checkEvaluation_frame p true s) (execCheckEvaluation_runs p true s hp hc hb)
      ⟨onLe_regs s _, onLe_le s _⟩
  case checkBad =>
    intro s p hp hc hb
    exact answers_with (checkEvaluation_frame p false s) (execCheckEvaluation_runs p false s hp hc hb) rfl
  case checkRests =>
    intro s p b h
    exact answers_with (checkEvaluation_frame p b s) (execCheckEvaluation_rests p b s h) rfl
  case due =>
    intro s k rel dl hs hr hd
    refine answers_with (sampleDeadlineMiss_frame k s) (execSampleDeadlineMiss_due k s rel dl hr hd)
      ⟨dropSample_bit s k k.isLt hs.regs, rfl, fun hready => ?_⟩
    rw [dropSample_waiting s k hready]
    exact missSample_regsBut s k
  case early =>
    intro s k h
    exact answers_with (sampleDeadlineMiss_frame k s) (execSampleDeadlineMiss_early k s h) rfl

end Sys2Proof.Machine
end

section
/-! The fallback of the feedback and its return (R42, R46 to R48): one equation for each case of a timeout, and what it
leaves in the slot's flags and its record. -/

namespace Sys2Proof.Machine

/-! ### What a doorbell leaves of the loop engine -/

/-- Of the loop engine's part the bobbins' records alone may have changed. -/
def BobsOnly (s t : State) : Prop := ∃ x, t.le = { s.le with bob := x }

theorem bobsOnly_same {s0 s t : State} (h : BobsOnly s0 s) (ht : t.le = s.le) : BobsOnly s0 t := by
  obtain ⟨x, hx⟩ := h
  exact ⟨x, ht.trans hx⟩

theorem bobsOnly_foldl {s0 s : State} {α : Type} {f : State → α → State} {l : List α}
    (hf : ∀ s a, BobsOnly s0 s → BobsOnly s0 (f s a)) (h : BobsOnly s0 s) : BobsOnly s0 (l.foldl f s) := by
  induction l generalizing s with
  | nil => exact h
  | cons a l ih => exact ih (hf s a h)

theorem bobsOnly_onLe {s0 s : State} {g : Loops → Loops} (hg : ∀ y, ∃ x, g y = { y with bob := x })
    (h : BobsOnly s0 s) : BobsOnly s0 (s.onLe g) := by
  obtain ⟨x, hx⟩ := h
  obtain ⟨z, hz⟩ := hg s.le
  refine ⟨z, ?_⟩
  rw [onLe_le, hz, hx]

theorem bobsOnly_postRaw {s0 s : State} (src : Nat) (h : BobsOnly s0 s) : BobsOnly s0 (s.postRaw src) :=
  bobsOnly_same h ((postRaw_frame (P := { regs := true, dic := true }) src (Frame.refl _ s) rfl rfl).le rfl)

theorem bobsOnly_wr {s0 s : State} (f : RF) (v : Nat) (h : BobsOnly s0 s) : BobsOnly s0 (s.wr f v) :=
  bobsOnly_same h (wr_le s f v)

theorem bobsOnly_ite {s0 a b : State} {c : Prop} [Decidable c] (ha : BobsOnly s0 a) (hb : BobsOnly s0 b) :
    BobsOnly s0 (if c then a else b) := by
  split <;> assumption

theorem bobsOnly_bobTrigger {s0 s : State} (b idx : Nat) (h : BobsOnly s0 s) : BobsOnly s0 (s.bobTrigger b idx) := by
  unfold State.bobTrigger
  refine bobsOnly_ite (bobsOnly_postRaw _ ?_) h
  have h1 := bobsOnly_wr (BOB_TRIGPTR_IDX b) idx (bobsOnly_wr (BOB_TRIGPTR_TRIGGERED b) (b2n true)
    (bobsOnly_wr (BOB_STATUS_TRIGGERED b) (b2n true) h))
  have hpost := bobsOnly_onLe (g := fun y => { y with bob := tset {} y.bob b { tget {} y.bob b with
    postLeft := (s.bobTriggered b idx).rd (BOB_POST b) } }) (fun y => ⟨_, rfl⟩) h1
  exact bobsOnly_ite (bobsOnly_onLe (fun y => ⟨_, rfl⟩) (bobsOnly_wr _ _ (bobsOnly_wr _ _ hpost))) hpost

theorem bobsOnly_bobDoorbell {s0 : State} (n : Nat) {s : State} (src : Nat) (h : BobsOnly s0 s) :
    BobsOnly s0 (State.bobDoorbell n s src) := by
  induction n generalizing s src with
  | zero => exact h
  | succ n ih => exact bobsOnly_foldl (fun _ b hs => ih (72 + b) (bobsOnly_bobTrigger b _ hs)) h

/-- A log record and a doorbell leave the records of the slots. -/
theorem note_slots (s : State) (sub : Nat) (ev : Ev) (sev : Nat) (detail : List Nat) (src : Nat) :
    (s.note sub ev sev detail src).le.slots = s.le.slots := by
  have hl : BobsOnly s (s.log sub ev sev detail) :=
    ⟨s.le.bob, (log_frame (P := { regs := true, mg := true }) sub ev sev detail (Frame.refl _ s) rfl rfl).le rfl⟩
  obtain ⟨x, hx⟩ := bobsOnly_bobDoorbell 8 src (bobsOnly_postRaw src hl)
  unfold State.note State.post
  rw [hx]

/-! ### CTX_SILENT -/

/-- A context marked as silent (R42). -/
def State.ctxSilenced (s : State) (c : Nat) : State :=
  (s.putBit (SL_FLAGS_CTX_SILENT c) true).putBit (PB_STATUS_SILENT c) true

theorem execCtxSilent_due (c : Fin 4096) (s : State) (hn : 4 ≤ tget 0 s.vq.silent c)
    (hb : s.bit (SL_FLAGS_CTX_SILENT c) = false) : execCtxSilent c s = .next (s.ctxSilenced c) :=
  congrArg _ (if_pos ⟨hn, by simp [hb]⟩)

theorem execCtxSilent_rests (c : Fin 4096) (s : State)
    (h : tget 0 s.vq.silent c < 4 ∨ s.bit (SL_FLAGS_CTX_SILENT c) = true) : execCtxSilent c s = .next s :=
  congrArg _ (if_neg fun ⟨hn, hb⟩ => h.elim (Nat.not_lt.mpr hn) hb)

theorem ctxSilenced_bits (s : State) (c : Nat) (hc : c < 4096) (h : s.regsWf) :
    (s.ctxSilenced c).bit (SL_FLAGS_CTX_SILENT c) = true ∧ (s.ctxSilenced c).bit (PB_STATUS_SILENT c) = true := by
  constructor
  · exact (bit_putBit_ne _ (PB_STATUS_SILENT c) (SL_FLAGS_CTX_SILENT c) true
        (by simp only [PB_STATUS_SILENT, SL_FLAGS_CTX_SILENT]; omega)).trans
      (bit_putBit_same s _ true h rfl (by simp [SL_FLAGS_CTX_SILENT]))
  · exact bit_putBit_same _ _ true (putBit_regsWf _ _ _ h) rfl (by simp [PB_STATUS_SILENT])

/-! ### VS_TIMEOUT -/

theorem vsTimeout_frame (k : Fin 4608) (s : State) :
    Answers { regs := true, dic := true, mg := true, le := true } s (exec (.vsTimeout k) s) :=
  execVsTimeout_answers k (Frame.refl _ s) rfl rfl rfl rfl

/-- A slot moved from the virtual sensor to TABLE (R46, R47). -/
def State.vsTimedOut (s : State) (k : Nat) : State :=
  (((s.setSlot k { s.slot k with lastSrc := 3, handDue := true }).putBit (SL_FLAGS_FB_VIRTUAL k) false).putBit
    (SL_FLAGS_FB_TABLE k) true).wr (SL_FB_STATE_SOURCE k) 3

theorem execVsTimeout_due (k : Fin 4608) (s : State) (hs : (s.slot k).lastSrc = 2) (ht : 30000 ≤ s.rd (SL_VS_TIME k)) :
    execVsTimeout k s = .next ((s.vsTimedOut k).note 3 .feedbackStep 1 [(k : Nat), 3] 68) :=
  congrArg _ (if_pos ⟨hs, ht⟩)

theorem execVsTimeout_rests (k : Fin 4608) (s : State) (h : (s.slot k).lastSrc ≠ 2 ∨ s.rd (SL_VS_TIME k) < 30000) :
    execVsTimeout k s = .next s := congrArg _ (if_neg fun ⟨hs, ht⟩ => h.elim (· hs) (Nat.not_lt.mpr ht))

theorem vsTimedOut_le (s : State) (k : Nat) : (s.vsTimedOut k).le =
    { s.le with slots := tset {} s.le.slots k { s.slot k with lastSrc := 3, handDue := true } } := by
  unfold State.vsTimedOut
  rw [wr_le, putBit_eq, wr_le, putBit_eq, wr_le, setSlot_le]

theorem vsTimedOut_virtual (s : State) (k : Nat) (h : s.regsWf) :
    (s.vsTimedOut k).bit (SL_FLAGS_FB_VIRTUAL k) = false :=
  (bit_wr_ne _ (SL_FB_STATE_SOURCE k) (SL_FLAGS_FB_VIRTUAL k) _
      (by simp only [SL_FLAGS_FB_VIRTUAL, SL_FB_STATE_SOURCE]; omega)).trans
    ((bit_putBit_disjoint _ (SL_FLAGS_FB_TABLE k) (SL_FLAGS_FB_VIRTUAL k) true (putBit_regsWf _ _ _ h) rfl
        (by simp [SL_FLAGS_FB_TABLE]) rfl (by simp [SL_FLAGS_FB_TABLE, SL_FLAGS_FB_VIRTUAL])).trans
      (bit_putBit_same _ _ false h rfl (by simp [SL_FLAGS_FB_VIRTUAL])))

theorem vsTimedOut_table (s : State) (k : Nat) (h : s.regsWf) : (s.vsTimedOut k).bit (SL_FLAGS_FB_TABLE k) = true :=
  (bit_wr_ne _ (SL_FB_STATE_SOURCE k) (SL_FLAGS_FB_TABLE k) _
      (by simp only [SL_FLAGS_FB_TABLE, SL_FB_STATE_SOURCE]; omega)).trans
    (bit_putBit_same _ _ true (putBit_regsWf _ _ _ h) rfl (by simp [SL_FLAGS_FB_TABLE]))

theorem vsTimedOut_source (s : State) (k : Nat) (h : s.regsWf) : (s.vsTimedOut k).rd (SL_FB_STATE_SOURCE k) = 3 :=
  rd_wr_same _ _ 3 (putBit_regsWf _ _ _ (putBit_regsWf _ _ _ h)) (by simp [SL_FB_STATE_SOURCE])
    (by simp [SL_FB_STATE_SOURCE])

/-- The registers that VS_TIMEOUT may write. -/
def vsTimeoutReg (k a : Nat) : Prop := a = (SL_FLAGS_FB_TABLE k).addr ∨ a = (SL_FB_STATE_SOURCE k).addr ∨ noteReg a

theorem vsTimedOut_regsBut (s : State) (k : Nat) : RegsBut (vsTimeoutReg k) s (s.vsTimedOut k) :=
  regsBut_wr _ _ (regsBut_wr _ _ (regsBut_wr _ _ (regsBut_setSlot _ _ (RegsBut.refl _ s)) (Or.inl rfl)) (Or.inl rfl))
    (Or.inr (Or.inl rfl))

/-! ### PRIMARY_RESTORE -/

theorem primaryRestore_frame (k : Fin 4608) (s : State) :
    Answers { regs := true, mg := true, le := true } s (exec (.primaryRestore k) s) :=
  execPrimaryRestore_answers k (Frame.refl _ s) rfl rfl rfl

/-- A slot back on its primary (R47). -/
def State.primaryBack (s : State) (k : Nat) : State :=
  (((((s.setSlot k { s.slot k with lastSrc := 0, handDue := true, vsCount := 0, vsSince := none }).wr
    (SL_VS_TIME k) 0).wr (SL_FB_STATE_SOURCE k) 0).putBit (SL_FLAGS_FB_PARTNER k) false).putBit
      (SL_FLAGS_FB_VIRTUAL k) false).putBit (SL_FLAGS_FB_TABLE k) false

theorem execPrimaryRestore_due (k : Fin 4608) (s : State) (hs : (s.slot k).lastSrc ≠ 0)
    (ht : s.since (s.slot k).validSince (secs 10) = true) :
    execPrimaryRestore k s = .next ((s.primaryBack k).log 3 .feedbackStep 0 [(k : Nat), 0]) :=
  congrArg _ (if_pos ⟨hs, ht⟩)

/-- A stamp that is missing or does not lie far enough back. -/
theorem since_early {s : State} {x : Option Nat} {d : Nat} (h : x = none ∨ ∃ t0, x = some t0 ∧ s.time < t0 + d) :
    s.since x d = false := by
  rcases h with rfl | ⟨t0, rfl, ht⟩
  · rfl
  · exact decide_eq_false (Nat.not_le.mpr ht)

theorem execPrimaryRestore_rests (k : Fin 4608) (s : State)
    (h : (s.slot k).lastSrc = 0 ∨ s.since (s.slot k).validSince (secs 10) = false) : execPrimaryRestore k s = .next s :=
  congrArg _ (if_neg fun ⟨hs, ht⟩ => h.elim hs (by simp [ht]))

theorem primaryBack_le (s : State) (k : Nat) : (s.primaryBack k).le = { s.le with
    slots := tset {} s.le.slots k { s.slot k with lastSrc := 0, handDue := true, vsCount := 0, vsSince := none } } := by
  unfold State.primaryBack
  simp only [putBit_eq, wr_le, setSlot_le]

theorem primaryBack_rds (s : State) (k : Nat) (h : s.regsWf) :
    (s.primaryBack k).rd (SL_VS_TIME k) = 0 ∧ (s.primaryBack k).rd (SL_FB_STATE_SOURCE k) = 0 := by
  have hv : ((s.setSlot k { s.slot k with lastSrc := 0, handDue := true, vsCount := 0, vsSince := none }).wr
      (SL_VS_TIME k) 0).regsWf := wr_regsWf _ _ _ h
  unfold State.primaryBack
  constructor
  · rw [rd_putBit_ne _ _ _ _ (by simp only [SL_FLAGS_FB_TABLE, SL_VS_TIME]; omega),
      rd_putBit_ne _ _ _ _ (by simp only [SL_FLAGS_FB_VIRTUAL, SL_VS_TIME]; omega),
      rd_putBit_ne _ _ _ _ (by simp only [SL_FLAGS_FB_PARTNER, SL_VS_TIME]; omega),
      rd_wr_ne _ _ _ _ (by simp only [SL_FB_STATE_SOURCE, SL_VS_TIME]; omega)]
    exact rd_wr_zero _ (SL_VS_TIME k) (SL_VS_TIME k) h rfl rfl rfl
  · rw [rd_putBit_ne _ _ _ _ (by simp only [SL_FLAGS_FB_TABLE, SL_FB_STATE_SOURCE]; omega),
      rd_putBit_ne _ _ _ _ (by simp only [SL_FLAGS_FB_VIRTUAL, SL_FB_STATE_SOURCE]; omega),
      rd_putBit_ne _ _ _ _ (by simp only [SL_FLAGS_FB_PARTNER, SL_FB_STATE_SOURCE]; omega)]
    exact (rd_wr_same _ (SL_FB_STATE_SOURCE k) 0 hv (by simp [SL_FB_STATE_SOURCE])
      (by simp [SL_FB_STATE_SOURCE])).trans (Nat.zero_mod _)

/-- The three feedback flags that the return to the primary clears. -/
def fallbackFlags (k : Nat) : List RF := [SL_FLAGS_FB_PARTNER k, SL_FLAGS_FB_VIRTUAL k, SL_FLAGS_FB_TABLE k]

theorem primaryBack_flags (s : State) (k : Nat) (h : s.regsWf) {f : RF} (hf : f ∈ fallbackFlags k) :
    (s.primaryBack k).bit f = false := by
  have hbits : ∀ g ∈ fallbackFlags k, g.lo = g.hi ∧ g.hi < 32 := by
    simp [fallbackFlags, SL_FLAGS_FB_PARTNER, SL_FLAGS_FB_VIRTUAL, SL_FLAGS_FB_TABLE]
  exact bit_clearBits hbits (wr_regsWf _ (SL_FB_STATE_SOURCE k) 0 (wr_regsWf _ (SL_VS_TIME k) 0 h)) (hbits f hf).1
    (Or.inl hf)

/-! ### PAIR_AGREEMENT_CLEAR -/

/-- Both flags of a slot's pair cleared (R48). -/
def State.pairAgreed (s : State) (k : Nat) : State :=
  (s.putBit (SL_FLAGS_PAIR_DISAGREE k) false).putBit (SL_FLAGS_PAIR_SUSPECT k) false

theorem execPairAgreementClear_due (k : Fin 4608) (s : State) (h : s.since (s.slot k).agreeSince (secs 60) = true) :
    execPairAgreementClear k s = .next (s.pairAgreed k) := congrArg _ (if_pos h)

theorem execPairAgreementClear_rests (k : Fin 4608) (s : State) (h : s.since (s.slot k).agreeSince (secs 60) = false) :
    execPairAgreementClear k s = .next s := congrArg _ (if_neg (by simp [h]))

theorem pairAgreed_bits (s : State) (k : Nat) (h : s.regsWf) :
    (s.pairAgreed k).bit (SL_FLAGS_PAIR_DISAGREE k) = false ∧ (s.pairAgreed k).bit (SL_FLAGS_PAIR_SUSPECT k) = false := by
  have hd := putBit_regsWf s (SL_FLAGS_PAIR_DISAGREE k) false h
  constructor
  · exact bit_putBit_false _ (SL_FLAGS_PAIR_SUSPECT k) _ hd rfl (by simp [SL_FLAGS_PAIR_SUSPECT]) rfl
      (bit_putBit_same s _ false h rfl (by simp [SL_FLAGS_PAIR_DISAGREE]))
  · exact bit_putBit_same _ _ false hd rfl (by simp [SL_FLAGS_PAIR_SUSPECT])

/-- A slot's feedback state is none of the registers that a log record writes. -/
theorem fbState_not_noteReg {k : Nat} (hk : k < 4608) :
    ¬ noteReg (SL_FB_STATE_SOURCE k).addr ∧ ¬ noteReg (SL_VS_TIME k).addr :=
  ⟨not_noteReg_of_range (by simp only [SL_FB_STATE_SOURCE]; omega) (by simp only [SL_FB_STATE_SOURCE]; omega),
    not_noteReg_of_range (by simp only [SL_VS_TIME]; omega) (by simp only [SL_VS_TIME]; omega)⟩

/-- Settles O10: each timeout by its equation; the flags and the source read back through the record and the doorbell. -/
theorem feedbackTimeouts : Obligations.FeedbackTimeouts := by
  unfold Obligations.FeedbackTimeouts
  refine ⟨?silent, ?silentRests, ?virtual, ?virtualRests, ?restore, ?restoreRests, ?clear, ?clearRests⟩
  case silent =>
    intro s c hs hn hb
    obtain ⟨hflag, hstatus⟩ := ctxSilenced_bits s c c.isLt hs.regs
    exact answers_with (execCtxSilent_answers c (Frame.refl _ s) rfl) (execCtxSilent_due c s hn hb)
      ⟨hflag, hstatus, regsBut_wr _ _ (regsBut_wr _ _ (RegsBut.refl _ s) (Or.inl rfl)) (Or.inr rfl)⟩
  case silentRests =>
    intro s c h
    exact answers_with (execCtxSilent_answers c (Frame.refl _ s) rfl) (execCtxSilent_rests c s h) rfl
  case virtual =>
    intro s k hs hsrc ht
    have hnote := note_regsBut (s.vsTimedOut k) 3 .feedbackStep 1 [(k : Nat), 3] (src := 68) (by decide)
    have hflags := slotFlags_not_noteReg k.isLt
    refine answers_with (vsTimeout_frame k s) (execVsTimeout_due k s hsrc ht) ⟨?_, ?_, ?_, ?_, ?_⟩
    · rw [hnote.bit (SL_FLAGS_FB_VIRTUAL k) hflags, vsTimedOut_virtual s k hs.regs]
    · rw [hnote.bit (SL_FLAGS_FB_TABLE k) hflags, vsTimedOut_table s k hs.regs]
    · rw [hnote.rd _ (fbState_not_noteReg k.isLt).1, vsTimedOut_source s k hs.regs]
    · rw [note_slots, vsTimedOut_le]
    · exact regsBut_note (fun _ h => Or.inr (Or.inr h)) _ _ _ _ _ (by decide) (vsTimedOut_regsBut s k)
  case virtualRests =>
    intro s k h
    exact answers_with (vsTimeout_frame k s) (execVsTimeout_rests k s h) rfl
  case restore =>
    intro s k hs hsrc hv
    obtain ⟨t0, hx, ht⟩ := hv
    have hlog := log_not_noteReg (s.primaryBack k) 3 .feedbackStep 0 [(k : Nat), 0]
    have hle : ((s.primaryBack k).log 3 .feedbackStep 0 [(k : Nat), 0]).le = (s.primaryBack k).le :=
      (log_frame (P := { regs := true, mg := true }) _ _ _ _ (Frame.refl _ _) rfl rfl).le rfl
    have hflags := slotFlags_not_noteReg k.isLt
    obtain ⟨htime, hsource⟩ := primaryBack_rds s k hs.regs
    refine answers_with (primaryRestore_frame k s) (execPrimaryRestore_due k s hsrc (since_due hx ht))
      ⟨?_, ?_, ?_, ?_, ?_, ?_, ?_⟩
    · rw [hlog.rd _ (fbState_not_noteReg k.isLt).2, htime]
    · rw [hlog.rd _ (fbState_not_noteReg k.isLt).1, hsource]
    · rw [hlog.bit (SL_FLAGS_FB_PARTNER k) hflags, primaryBack_flags s k hs.regs (by simp [fallbackFlags])]
    · rw [hlog.bit (SL_FLAGS_FB_VIRTUAL k) hflags, primaryBack_flags s k hs.regs (by simp [fallbackFlags])]
    · rw [hlog.bit (SL_FLAGS_FB_TABLE k) hflags, primaryBack_flags s k hs.regs (by simp [fallbackFlags])]
    · rw [hle, primaryBack_le]
    · rw [hle, primaryBack_le]
  case restoreRests =>
    intro s k h
    exact answers_with (primaryRestore_frame k s) (execPrimaryRestore_rests k s (h.imp_right since_early)) rfl
  case clear =>
    intro s k hs ha
    obtain ⟨t0, hx, ht⟩ := ha
    obtain ⟨hdisagree, hsuspect⟩ := pairAgreed_bits s k hs.regs
    exact answers_with (execPairAgreementClear_answers k (Frame.refl _ s) rfl)
      (execPairAgreementClear_due k s (since_due hx ht))
      ⟨hdisagree, hsuspect, regsBut_wr _ _ (regsBut_wr _ _ (RegsBut.refl _ s) rfl) rfl⟩
  case clearRests =>
    intro s k h
    exact answers_with (execPairAgreementClear_answers k (Frame.refl _ s) rfl)
      (execPairAgreementClear_rests k s (since_early h)) rfl

end Sys2Proof.Machine
end

section
/-! The pool of the repetitive controllers (R53, R56, R64) and SLOT_APPLY (R65): one request of the wait list at a time,
the period's estimates, the access to the pool. -/

namespace Sys2Proof.Machine

/-! ### The wait list -/

theorem rcPageGrant_frame (s : State) : Answers { regs := true, le := true } s (exec .rcPageGrant s) :=
  execRcPageGrant_answers (Frame.refl _ s) rfl rfl

/-- One request of the wait list: served where its pages are free, else it waits on (R53). -/
def State.rcServe (s : State) (q : Nat × Nat) : State :=
  match s.freePages q.2 with
  | some ps => (s.onLe fun y => { y with waiting := y.waiting.filter fun p => p.1 != q.1 }).rcGrant q.1 ps
  | none => s

/-- The requests with a period served one after the other. -/
def State.rcServed (s : State) : State := (s.le.waiting.filter fun q => q.2 != 0).foldl State.rcServe s

theorem rcWalk_eq (s : State) : s.rcWalk = s.rcServed.wr LE_RC_DENIED s.rcServed.le.waiting.length := rfl

theorem rcServe_grants (s : State) (q : Nat × Nat) (l : List Nat) (h : s.freePages q.2 = some l) :
    s.rcServe q = (s.onLe fun y => { y with waiting := y.waiting.filter fun p => p.1 != q.1 }).rcGrant q.1 l := by
  unfold State.rcServe
  rw [h]

theorem rcServe_waits (s : State) (q : Nat × Nat) (h : s.freePages q.2 = none) : s.rcServe q = s := by
  unfold State.rcServe
  rw [h]

theorem rcServe_frame {P : Parts} {s0 s : State} (q : Nat × Nat) (h : Frame P s0 s) (hr : P.regs = true)
    (hl : P.le = true) : Frame P s0 (s.rcServe q) := by
  cases hq : s.freePages q.2 with
  | none => rwa [rcServe_waits s q hq]
  | some l =>
    rw [rcServe_grants s q l hq]
    exact rcGrant_frame q.1 l (onLe_frame _ h hl) hr hl

theorem rcServed_regsWf (s : State) (h : s.regsWf) : s.rcServed.regsWf :=
  (frame_foldl (p := { regs := true, le := true }) (fun _ q hq => rcServe_frame q hq rfl rfl) (Frame.refl _ s)).regsWf h

/-- Pages granted leave the wait list. -/
theorem rcGrant_waiting (s : State) (k : Nat) (l : List Nat) : (s.rcGrant k l).le.waiting = s.le.waiting := by
  refine (congrArg Loops.waiting (Frame.le (p := { regs := true })
    (frame_foldl (fun _ _ h => wr_frame _ _ h rfl) (Frame.refl _ _)) rfl)).trans ?_
  simp only [putBit_eq, wr_le, setSlot_le, onLe_le]

theorem rcWalk_denied (s : State) (h : s.regsWf) : s.rcWalk.rd LE_RC_DENIED = s.rcWalk.le.waiting.length % 2 ^ 13 := by
  rw [rcWalk_eq, wr_le]
  exact rd_wr_same _ LE_RC_DENIED _ (rcServed_regsWf s h) (by decide) (by decide)

theorem rcWalk_empty (s : State) (h : s.le.waiting = []) : s.rcWalk = s.wr LE_RC_DENIED 0 := by
  have hs : s.rcServed = s := by rw [State.rcServed, h]; rfl
  rw [rcWalk_eq, hs, h]
  rfl

/-- One request whose pages are free: it leaves the list, which is then empty. -/
theorem rcWalk_grants (s : State) (k n : Nat) (l : List Nat) (h : s.le.waiting = [(k, n)]) (hn : n ≠ 0)
    (hl : s.freePages n = some l) :
    s.rcWalk = ((s.onLe fun y => { y with waiting := [] }).rcGrant k l).wr LE_RC_DENIED 0 := by
  have hlist : (s.onLe fun y => { y with waiting := y.waiting.filter fun p => p.1 != k }) =
      s.onLe fun y => { y with waiting := [] } :=
    congrArg (fun y => { s with le := { s.le with waiting := y } }) (by simp [h])
  have hs : s.rcServed = (s.onLe fun y => { y with waiting := [] }).rcGrant k l := by
    rw [State.rcServed, h, ← hlist]
    simp only [List.filter_cons, List.filter_nil, bne_iff_ne, ne_eq, hn, not_false_eq_true, if_true, List.foldl_cons,
      List.foldl_nil]
    exact rcServe_grants s (k, n) l hl
  rw [rcWalk_eq, hs, rcGrant_waiting, onLe_le]
  rfl

/-- One request that has no period yet, or whose pages are not free, waits on. -/
theorem rcWalk_denies (s : State) (k n : Nat) (h : s.le.waiting = [(k, n)]) (hn : n = 0 ∨ s.freePages n = none) :
    s.rcWalk = s.wr LE_RC_DENIED 1 := by
  have hs : s.rcServed = s := by
    rw [State.rcServed, h]
    by_cases h0 : n = 0
    · rw [h0]
      rfl
    · simp only [List.filter_cons, List.filter_nil, bne_iff_ne, ne_eq, h0, not_false_eq_true, if_true, List.foldl_cons,
        List.foldl_nil]
      exact rcServe_waits s (k, n) (hn.resolve_left h0)
  rw [rcWalk_eq, hs, h]
  rfl

/-! ### The period's estimates -/

theorem rcPeriodEstimate_frame (k : Fin 4096) (est : Nat) (s : State) :
    Answers { regs := true, le := true } s (exec (.rcPeriodEstimate k est) s) :=
  execRcPeriodEstimate_answers k est (Frame.refl _ s) rfl rfl

/-- An estimate kept beside the one before it, with its time (R56). -/
def State.estKept (s : State) (k est : Nat) : State :=
  s.setSlot k { s.slot k with est := est, estPrev := (s.slot k).est, estAt := some s.time }

/-- No estimate yet, or the last one 10 s ago or more (R56). -/
def State.estDue (s : State) (k : Nat) : Bool :=
  match (s.slot k).estAt with
  | some t => decide (t + secs 10 ≤ s.time)
  | none => true

/-- Two successive estimates that give the period (R56). -/
def State.estAgrees (s : State) (k est : Nat) : Prop :=
  2 ≤ est ∧ est ≤ 16384 ∧ (s.slot k).estAt.map (· + secs 10) = some s.time ∧ est ≤ (s.slot k).est + 1 ∧
    (s.slot k).est ≤ est + 1

theorem estDue_iff (s : State) (k : Nat) : s.estDue k = true ↔
    (s.slot k).estAt = none ∨ ∃ t0, (s.slot k).estAt = some t0 ∧ t0 + secs 10 ≤ s.time := by
  unfold State.estDue
  cases (s.slot k).estAt <;> simp

theorem execRcPeriodEstimate_sets (k : Fin 4096) (est : Nat) (s : State) (he : s.actBit (SL_CTRL_EN_RC k) = true)
    (hp : s.act (SL_RC_CFG_PERIOD k) = 0) (hd : s.estDue k = true) (ha : s.estAgrees k est) :
    execRcPeriodEstimate k est s =
      .next (((s.estKept k est).wr (SL_RC_CFG_PERIOD k) est).putBit (SL_CTRL_APPLY k) true) :=
  (if_pos ⟨he, hp, hd⟩).trans (if_pos ha)

theorem execRcPeriodEstimate_keeps (k : Fin 4096) (est : Nat) (s : State) (he : s.actBit (SL_CTRL_EN_RC k) = true)
    (hp : s.act (SL_RC_CFG_PERIOD k) = 0) (hd : s.estDue k = true) (ha : ¬ s.estAgrees k est) :
    execRcPeriodEstimate k est s = .next (s.estKept k est) :=
  (if_pos ⟨he, hp, hd⟩).trans (if_neg ha)

theorem execRcPeriodEstimate_rests (k : Fin 4096) (est : Nat) (s : State) (h : s.actBit (SL_CTRL_EN_RC k) = false ∨
    s.act (SL_RC_CFG_PERIOD k) ≠ 0 ∨ s.estDue k = false) : execRcPeriodEstimate k est s = .next s :=
  if_neg fun (hc : _ ∧ _ ∧ s.estDue k = true) => by
    obtain ⟨he, hp, hd⟩ := hc
    simp [he, hp, hd] at h

/-- The period and APPLY read back (R56, R65). -/
theorem period_set (s : State) (k est : Nat) (h : s.regsWf) (he : est ≤ 16384) :
    ((s.wr (SL_RC_CFG_PERIOD k) est).putBit (SL_CTRL_APPLY k) true).rd (SL_RC_CFG_PERIOD k) = est ∧
      ((s.wr (SL_RC_CFG_PERIOD k) est).putBit (SL_CTRL_APPLY k) true).bit (SL_CTRL_APPLY k) = true := by
  constructor
  · rw [rd_putBit_ne _ _ _ _ (by simp only [SL_RC_CFG_PERIOD, SL_CTRL_APPLY]; omega),
      rd_wr_same _ _ _ h (by simp [SL_RC_CFG_PERIOD]) (by simp [SL_RC_CFG_PERIOD])]
    exact Nat.mod_eq_of_lt (Nat.lt_of_le_of_lt he (by simp [SL_RC_CFG_PERIOD]))
  · exact bit_putBit_same _ _ true (wr_regsWf _ _ _ h) rfl (by simp [SL_CTRL_APPLY])

/-! ### The pool's code at LE_RC_ADDR -/

theorem leRcDataAccess_frame (v : Option (BitVec 16)) (s : State) :
    Answers { regs := true, mb := true, le := true } s (exec (.leRcDataAccess v) s) :=
  execLeRcDataAccess_answers v (Frame.refl _ s) rfl rfl rfl

/-- The code of the pool's cell `a` shown in LE_RC_DATA, the address moved on, the code replied (R64). -/
def State.rcShown (s : State) (a : Nat) : State :=
  ((s.wr LE_RC_DATA (wrapInt 16 (tget 0 s.le.pool a))).wr LE_RC_ADDR ((a + 1) % 2 ^ 24)).reply
    { body := leBytes 4 (wrapInt 16 (tget 0 s.le.pool a)) }

theorem rcAccess_write (s : State) (w : BitVec 16) : s.rcAccess (some w) =
    (s.onLe fun y => { y with pool := tset 0 y.pool (s.rd LE_RC_ADDR) w.toInt }).rcShown (s.rd LE_RC_ADDR) := rfl

theorem rcAccess_read (s : State) : s.rcAccess none = s.rcShown (s.rd LE_RC_ADDR) := rfl

theorem rcShown_le (s : State) (a : Nat) : (s.rcShown a).le = s.le :=
  ((reply_frame (P := { mb := true }) _ (Frame.refl _ _) rfl).le rfl).trans ((wr_le _ _ _).trans (wr_le _ _ _))

theorem reply_rd (s : State) (r : Reply) (f : RF) : (s.reply r).rd f = s.rd f := by
  unfold State.rd
  rw [reply_word]

theorem rcShown_data (s : State) (a : Nat) (h : s.regsWf) :
    (s.rcShown a).rd LE_RC_DATA = wrapInt 16 (tget 0 s.le.pool a) := by
  unfold State.rcShown
  rw [reply_rd, rd_wr_ne _ _ _ _ (by decide), rd_wr_same _ LE_RC_DATA _ h (by decide) (by decide)]
  exact Nat.mod_eq_of_lt (wrapInt_lt 16 _)

theorem rcShown_addr (s : State) (a : Nat) (h : s.regsWf) : (s.rcShown a).rd LE_RC_ADDR = (a + 1) % 2 ^ 24 := by
  unfold State.rcShown
  rw [reply_rd, rd_wr_same _ LE_RC_ADDR _ (wr_regsWf _ _ _ h) (by decide) (by decide)]
  exact Nat.mod_mod _ _

/-- The registers that an access to the pool may write. -/
def rcShownReg (a : Nat) : Prop := a = LE_RC_ADDR.addr ∨ a = LE_RC_DATA.addr

theorem rcShown_regsBut {s0 s : State} (a : Nat) (h : RegsBut rcShownReg s0 s) : RegsBut rcShownReg s0 (s.rcShown a) :=
  regsBut_reply _ (regsBut_wr LE_RC_ADDR _ (regsBut_wr LE_RC_DATA _ h (Or.inr rfl)) (Or.inl rfl))

theorem rcShown_reply (s : State) (a : Nat) (h : s.sys.mode ≠ .off) : (s.rcShown a).mb.replies.head? =
    some { body := leBytes 4 (wrapInt 16 (tget 0 s.le.pool a)) } :=
  reply_head _ (by rwa [wr_sys, wr_sys])

/-- Settles O11: the wait list by its walk, an estimate by whether it is due and agrees, the pool by the code shown. -/
theorem repetitivePool : Obligations.RepetitivePool := by
  unfold Obligations.RepetitivePool
  refine ⟨?walk, ?empty, ?grants, ?denies, ?sets, ?keeps, ?rests, ?apply, ?write, ?read⟩
  case walk =>
    intro s hs
    exact answers_with (rcPageGrant_frame s) rfl ⟨rcWalk_denied s hs.regs, rfl⟩
  case empty =>
    intro s h
    exact answers_with (rcPageGrant_frame s) rfl (rcWalk_empty s h)
  case grants =>
    intro s k n l h hn hl
    exact answers_with (rcPageGrant_frame s) rfl (rcWalk_grants s k n l h hn hl)
  case denies =>
    intro s k n h hn
    exact answers_with (rcPageGrant_frame s) rfl (rcWalk_denies s k n h hn)
  case sets =>
    intro s k est t0 hs he hp hat ht h2 hmax h1 h3
    have hd : s.estDue k = true := (estDue_iff s k).mpr (Or.inr ⟨t0, hat, Nat.le_of_eq ht⟩)
    have ha : s.estAgrees k est := ⟨h2, hmax, by rw [hat, Option.map_some, ht], h1, h3⟩
    obtain ⟨hperiod, happly⟩ := period_set (s.estKept k est) k est hs.regs hmax
    exact answers_with (rcPeriodEstimate_frame k est s) (execRcPeriodEstimate_sets k est s he hp hd ha)
      ⟨hperiod, happly, regsBut_wr _ _ (regsBut_wr _ _ (regsBut_setSlot _ _ (RegsBut.refl _ s)) (Or.inl rfl))
        (Or.inr rfl)⟩
  case keeps =>
    intro s k est he hp hd hn
    have ha : ¬ s.estAgrees k est := by
      rintro ⟨h2, hmax, hat, h1, h3⟩
      obtain ⟨t0, ht0, ht⟩ := Option.map_eq_some_iff.mp hat
      rcases hn with hn | hn
      · exact hn t0 ht0 ht
      · omega
    exact answers_with (rcPeriodEstimate_frame k est s)
      (execRcPeriodEstimate_keeps k est s he hp ((estDue_iff s k).mpr hd) ha) ⟨setSlot_regs s k _, rfl⟩
  case rests =>
    intro s k est h
    have hd : (∃ t0, (s.slot k).estAt = some t0 ∧ s.time < t0 + secs 10) → s.estDue k = false := by
      rintro ⟨t0, hat, ht⟩
      unfold State.estDue
      rw [hat]
      exact decide_eq_false (Nat.not_le.mpr ht)
    exact answers_with (rcPeriodEstimate_frame k est s)
      (execRcPeriodEstimate_rests k est s (h.imp_right (Or.imp_right hd))) rfl
  case apply =>
    intro s k hs
    exact answers_with (execSlotApply_answers k (Frame.refl _ s) rfl) rfl
      ⟨bit_putBit_same s _ true hs.regs rfl (by simp [SL_CTRL_APPLY]), regsBut_wr _ _ (RegsBut.refl _ s) rfl⟩
  case write =>
    intro s w hs
    refine answers_with (leRcDataAccess_frame (some w) s) rfl ?_
    rw [rcAccess_write]
    refine ⟨(rcShown_le _ _).trans (onLe_le s _), ?_, rcShown_addr _ _ hs.regs,
      rcShown_regsBut _ (regsBut_onLe _ (RegsBut.refl _ s))⟩
    rw [rcShown_le]
    exact rcShown_data _ _ hs.regs
  case read =>
    intro s hs
    refine answers_with (leRcDataAccess_frame none s) rfl ?_
    rw [rcAccess_read]
    exact ⟨rcShown_le s _, rcShown_data s _ hs.regs, rcShown_addr s _ hs.regs, rcShown_reply s _,
      rcShown_regsBut _ (RegsBut.refl _ s)⟩

end Sys2Proof.Machine
end

section
/-! The mailbox commands that read (R59, R62, R65, R146, R234, R374 to R384): what a request that passes its checks is
answered, from the equation of the command's work. -/

namespace Sys2Proof.Machine

/-! ### A request that passes its checks -/

/-- A work that is done keeps a code that accepts beside its clamps (R369). -/
theorem code_accepted (r : Res) (h : r.ks.accepted = true) : r.code.accepted = true := by
  unfold Res.code
  split
  · rfl
  · exact h

/-- A request whose work is `r` is replied to with it. -/
theorem replies {P : Parts} {c : Cmd} {s : State} {p : List Byte} {r : Res}
    {o : Host.Outcome State Fault Refusal} (hf : Answers P s o) (ho : o = .next (s.mailbox c p)) (ht : Takes s c p)
    (hb : c.body s.asked p = r) (hk : r.ks.accepted = true) :
    ∃ t, o = .next t ∧ Frame P s t ∧ t = s.replied c p r := by
  obtain ⟨-, -, -, -, -, accepted, -⟩ := mailboxChecks
  refine answers_with hf ho ?_
  rw [accepted c s p ht (by rw [hb]; exact code_accepted r hk), hb]

/-- A request that its work refuses is turned down with the code of the refusal. -/
theorem refuses {P : Parts} {c : Cmd} {s : State} {p : List Byte} {k : Ks}
    {o : Host.Outcome State Fault Refusal} (hf : Answers P s o) (ho : o = .next (s.mailbox c p)) (ht : Takes s c p)
    (hb : c.body s.asked p = s.asked.refuse k) (hk : k.accepted = false) :
    ∃ t, o = .next t ∧ Frame P s t ∧ t = s.turnedDown p k := by
  obtain ⟨-, -, -, -, -, -, refused⟩ := mailboxChecks
  exact answers_with hf ho (refused c s p k ht hk hb)

/-- Records that fit leave KS_OK, those that do not KS_PARTIAL (R381). -/
theorem recordReply_accepted (s : State) (size : Nat) (l : List (Nat × List Byte)) :
    (s.recordReply size l).ks.accepted = true := by
  unfold State.recordReply
  split <;> rfl

theorem asked_mb (s : State) :
    s.asked.mb = { s.mb with commands := s.mb.commands + 1, lastCommand := some s.time } :=
  (post_frame (P := { regs := true, dic := true, le := true }) 480 (Frame.refl _ _) rfl rfl rfl).mb rfl

/-! ### The parts that the commands may touch -/

/-- The parts that a request may touch whose work only reads: the mailbox, its doorbell and the host-silence timer. -/
def mailParts : Parts := { regs := true, sys := true, dic := true, mb := true, le := true, tw := true }

variable (p : List (BitVec 8)) (s : State)

theorem configRead_frame : Answers mailParts s (exec (.configRead p) s) :=
  execConfigRead_answers p (Frame.refl _ s) rfl rfl rfl rfl rfl rfl

theorem configReport_frame : Answers mailParts s (exec (.configReport p) s) :=
  execConfigReport_answers p (Frame.refl _ s) rfl rfl rfl rfl rfl rfl

theorem getBudget_frame : Answers mailParts s (exec (.getBudget p) s) :=
  execGetBudget_answers p (Frame.refl _ s) rfl rfl rfl rfl rfl rfl

theorem loopGet_frame : Answers mailParts s (exec (.loopGet p) s) :=
  execLoopGet_answers p (Frame.refl _ s) rfl rfl rfl rfl rfl rfl

theorem captureRead_frame : Answers mailParts s (exec (.captureRead p) s) :=
  execCaptureRead_answers p (Frame.refl _ s) rfl rfl rfl rfl rfl rfl

theorem bobbinRead_frame : Answers mailParts s (exec (.bobbinRead p) s) :=
  execBobbinRead_answers p (Frame.refl _ s) rfl rfl rfl rfl rfl rfl

theorem admissionReport_frame : Answers mailParts s (exec (.admissionReport p) s) :=
  execAdmissionReport_answers p (Frame.refl _ s) rfl rfl rfl rfl rfl rfl

/-! ### The works that choose between cases -/

variable {p s}

/-- CONFIG_READ of known fields (R379). -/
theorem configRead_known (h : ∀ q ∈ readPairs p, (s.fieldValue q.1 q.2).isSome = true) : cmdConfigRead.body s p =
    { st := s, out := (readPairs p).flatMap fun q => s.cfgRecord q.1 q.2 ((s.fieldValue q.1 q.2).getD 0) } := by
  have hn : ¬ ((readPairs p).map fun q => (q, s.fieldValue q.1 q.2)).any (fun q => q.2.isNone) = true := by
    simpa using fun a b hq => Option.isSome_iff_ne_none.mp (h (a, b) hq)
  refine (if_neg hn).trans ?_
  rw [List.flatMap_map]

/-- CONFIG_REPORT of a clamp list that is kept (R380). -/
theorem configReport_found {c : ClampList}
    (h : (s.mb.clamps.find? fun c => fieldLE p 8 4 == 0 || c.tag == fieldLE p 8 4) = some c) :
    cmdConfigReport.body s p =
      { st := s
        out := leBytes 4 c.tag ++ leBytes 2 c.opcode ++ leBytes 2 c.recs.length ++ c.recs.flatMap ClampRec.bytes } := by
  unfold cmdConfigReport
  dsimp only
  rw [h]

theorem configReport_missing (h : (s.mb.clamps.find? fun c => fieldLE p 8 4 == 0 || c.tag == fieldLE p 8 4) = none) :
    cmdConfigReport.body s p = { st := s, out := leBytes 4 (fieldLE p 8 4) ++ zeros 4 } := by
  unfold cmdConfigReport
  dsimp only
  rw [h]

/-- BOBBIN_READ of a bobbin and an entry that exist, from the mark only while it is valid (R62, R63). -/
theorem bobbinRead_entries (hb : fieldLE p 8 1 < 8) (hi : fieldLE p 12 4 < 65536)
    (hm : fieldLE p 9 1 % 2 = 0 ∨ s.bit (BOB_MARKPTR_VALID (fieldLE p 8 1)) = true) : cmdBobbinRead.body s p =
      s.recordReply 8
        ((s.bobRange (fieldLE p 8 1) (fieldLE p 9 1 % 2 == 1) (fieldLE p 12 4) (fieldLE p 16 4)).map fun i =>
          (i, leBytes 4 (s.rd (BOB_MEM (fieldLE p 8 1) (2 * i))) ++
            leBytes 4 (s.rd (BOB_MEM (fieldLE p 8 1) (2 * i + 1))))) := by
  refine (if_neg (by omega)).trans (if_neg ?_)
  rcases hm with hm | hm <;> simp [hm]

/-- ADMISSION_REPORT of a slot whose header is sound (R146). -/
theorem admissionReport_sound (hs : fieldLE p 8 1 < 16) (hf : fieldLE p 9 1 < 3)
    (hh : s.headerOk (fieldLE p 8 1) = true) : cmdAdmissionReport.body s p =
      { st := s, out := s.admReport (s.readImage (fieldLE p 8 1) (fieldLE p 9 1) (s.bunchesFor (fieldLE p 12 2)))
          (fieldLE p 9 1) s.frameCounts (s.bunchesFor (fieldLE p 12 2)) } :=
  (if_neg (by omega)).trans (if_neg (by simp [hh]))

end Sys2Proof.Machine
end

section
/-! What each mailbox command that reads replies. -/

namespace Sys2Proof.Machine

/-- Settles O25: a request that passes its checks is replied to with its work, by the equation of that work. -/
theorem mailboxReads : Obligations.MailboxReads := by
  unfold Obligations.MailboxReads
  refine ⟨?identity, ?state, ?keepalive, ?configRead, ?reportFound, ?reportMissing, ?contexts, ?budget, ?loop, ?capture,
    ?bobbin, ?calibration, ?admission⟩
  case identity =>
    intro s p ht
    exact replies (execGetIdentity_answers p (Frame.refl _ s) rfl rfl rfl rfl rfl rfl) rfl ht rfl rfl
  case state =>
    intro s p ht
    exact replies (execGetState_answers p (Frame.refl _ s) rfl rfl rfl rfl rfl rfl) rfl ht rfl rfl
  case keepalive =>
    intro s p ht
    exact replies (execKeepalive_answers p (Frame.refl _ s) rfl rfl rfl rfl rfl rfl) rfl ht rfl rfl
  case configRead =>
    intro s p ht h
    exact replies (configRead_frame p s) rfl ht (configRead_known h) rfl
  case reportFound =>
    intro s p c ht h
    exact replies (configReport_frame p s) rfl ht (configReport_found (by rwa [asked_mb])) rfl
  case reportMissing =>
    intro s p ht h
    exact replies (configReport_frame p s) rfl ht (configReport_missing (by rwa [asked_mb])) rfl
  case contexts =>
    intro s p ht
    exact replies (execContextList_answers p (Frame.refl _ s) rfl rfl rfl rfl rfl rfl) rfl ht rfl
      (recordReply_accepted _ _ _)
  case budget =>
    intro s p ht hl hi
    exact replies (getBudget_frame p s) rfl ht (if_neg (by omega)) (recordReply_accepted _ _ _)
  case loop =>
    intro s p ht h
    exact replies (loopGet_frame p s) rfl ht (if_neg (Nat.not_le.mpr h)) rfl
  case capture =>
    intro s p ht h
    exact replies (captureRead_frame p s) rfl ht (if_neg (Nat.not_le.mpr h)) rfl
  case bobbin =>
    intro s p ht hb hi hm
    exact replies (bobbinRead_frame p s) rfl ht (bobbinRead_entries hb hi hm) (recordReply_accepted _ _ _)
  case calibration =>
    intro s p ht
    exact replies (execCalibrationStatus_answers p (Frame.refl _ s) rfl rfl rfl rfl rfl rfl) rfl ht rfl rfl
  case admission =>
    intro s p ht hs hf hh
    exact replies (admissionReport_frame p s) rfl ht (admissionReport_sound hs hf hh) rfl

end Sys2Proof.Machine
end

section
/-! The mailbox commands for injections, bobbins, pumps, valves, calibration, the Modbus grant and snapshots (R57, R58,
R63, R234, R270, R385, R387): the equation of each command's work. -/

namespace Sys2Proof.Machine

/-! ### The parts that the commands may touch -/

section frames

variable (p : List (BitVec 8)) (s : State)

theorem injectStart_frame : Answers mailParts s (exec (.injectStart p) s) :=
  execInjectStart_answers p (Frame.refl _ s) rfl rfl rfl rfl rfl rfl

theorem bobbinArm_frame : Answers mailParts s (exec (.bobbinArm p) s) :=
  execBobbinArm_answers p (Frame.refl _ s) rfl rfl rfl rfl rfl rfl

theorem snapshotAt_frame : Answers mailParts s (exec (.snapshotAt p) s) :=
  execSnapshotAt_answers p (Frame.refl _ s) rfl rfl rfl rfl rfl rfl

theorem pumpDisable_frame : Answers { mailParts with pf := true, fb := true } s (exec (.pumpDisable p) s) :=
  execPumpDisable_answers p (Frame.refl _ s) rfl rfl rfl rfl rfl rfl rfl rfl

theorem pumpEnable_frame : Answers { mailParts with pf := true, fb := true } s (exec (.pumpEnable p) s) :=
  execPumpEnable_answers p (Frame.refl _ s) rfl rfl rfl rfl rfl rfl rfl rfl

theorem pumpSetSpeed_frame : Answers { mailParts with pf := true, fb := true } s (exec (.pumpSetSpeed p) s) :=
  execPumpSetSpeed_answers p (Frame.refl _ s) rfl rfl rfl rfl rfl rfl rfl rfl

theorem valveSequence_frame : Answers { mailParts with sv := true } s (exec (.valveSequence p) s) :=
  execValveSequence_answers p (Frame.refl _ s) rfl rfl rfl rfl rfl rfl rfl

theorem calibrationControl_frame :
    Answers { mailParts with mg := true, pf := true } s (exec (.calibrationControl p) s) :=
  execCalibrationControl_answers p (Frame.refl _ s) rfl rfl rfl rfl rfl rfl rfl rfl

theorem modbusWriteGrant_frame : Answers { mailParts with mg := true } s (exec (.modbusWriteGrant p) s) :=
  execModbusWriteGrant_answers p (Frame.refl _ s) rfl rfl rfl rfl rfl rfl rfl

theorem modbusWriteRevoke_frame : Answers { mailParts with mg := true } s (exec (.modbusWriteRevoke p) s) :=
  execModbusWriteRevoke_answers p (Frame.refl _ s) rfl rfl rfl rfl rfl rfl rfl

end frames

variable {p : List (BitVec 8)} {s : State}

/-! ### INJECT_START -/

/-- The clamps and the writes of an INJECT_START on channel `c`: the amplitude `a`, the frequency `f` and the number of
entries before the start, `pre` (R57 to R59). -/
def State.injectOn (s : State) (p : List Byte) (c : Nat) (a f : F32) (pre : Nat) : Res :=
  { st := (((((((s.wr (LE_INJ_CTRL c) (fieldLE p 8 4 % 2 ^ 27)).wrf (LE_INJ_AMP c) a).wrf (LE_INJ_FREQ c) f).wr
      (LE_INJ_CAP c) (writableBits (LE_INJ_CAP c).addr (fieldLE p 20 4))).wr (LE_INJ_CAP_PRE c) (min pre 1024)).wr64
        (LE_INJ_START_LO c) (fieldLE p 24 8)).injArm c)
    out := leBytes 2 c
    clamps := clampRec 0x3000 (bitsOf (fieldLE p 8 4) 12 0) (f32At p 12).toNat a.toNat ++
      clampRec 0x3003 (bitsOf (fieldLE p 8 4) 12 0) (f32At p 16).toNat f.toNat ++
        clampRec 0x3006 (bitsOf (fieldLE p 8 4) 12 0) pre (min pre 1024) }

/-- INJECT_START on the lowest free channel, while no other channel injects into the slot (R57, R58). -/
theorem injectStart_arms {c : Nat} (hk : bitsOf (fieldLE p 8 4) 12 0 < 4608) (ha : fisFin (f32At p 12) = true)
    (hf : fisFin (f32At p 16) = true) (h0 : s.effMode (bitsOf (fieldLE p 8 4) 12 0) ≠ 0)
    (h4 : s.effMode (bitsOf (fieldLE p 8 4) 12 0) ≠ 4) (hc : ((upto 32).find? fun c => !s.injUsed c) = some c)
    (hd : ((upto 32).any fun d => s.injUsed d && s.rd (LE_INJ_CTRL_SLOT d) == bitsOf (fieldLE p 8 4) 12 0 &&
      s.rd (LE_INJ_CTRL_SIGNAL d) != 3) = false) :
    cmdInjectStart.body s p = s.injectOn p c
      (fclamp (fneg (s.ampLimit (bitsOf (fieldLE p 8 4) 12 0) (bitsOf (fieldLE p 8 4) 24 23)))
        (s.ampLimit (bitsOf (fieldLE p 8 4) 12 0) (bitsOf (fieldLE p 8 4) 24 23)) (f32At p 12))
      (if bitsOf (fieldLE p 8 4) 26 25 = 1 then fclamp 0x3C23D70A (fdiv 0x3F800000 (fmul (f32OfInt 8)
        (s.hOf (bitsOf (fieldLE p 8 4) 12 0)))) (f32At p 16) else f32At p 16)
      (bitsOf (writableBits (LE_INJ_CAP c).addr (fieldLE p 20 4)) (LE_INJ_CAP_PRE c).hi (LE_INJ_CAP_PRE c).lo) := by
  refine (if_neg (by simp [ha, hf, hk])).trans ((if_neg (by simp [h0, h4])).trans ?_)
  rw [hc]
  exact if_neg (by simp [hd])

/-! ### BOBBIN_ARM -/

/-- The registers of the bobbins. -/
def bobbinRegs (a : Nat) : Prop := 0x41002000 ≤ a ∧ a < 0x41002200

/-- A bobbin with the mode, the probes, the trigger, its level and the entries after it that a request gives (R63, R66). -/
def State.bobGiven (s : State) (p : List Byte) (b : Nat) : State :=
  let s := (s.wr (BOB_CTRL_MODE b) (bitsOf (fieldLE p 12 4) (BOB_CTRL_MODE b).hi (BOB_CTRL_MODE b).lo)).wr
    (BOB_CTRL_PROBE_EN b) (bitsOf (fieldLE p 12 4) (BOB_CTRL_PROBE_EN b).hi (BOB_CTRL_PROBE_EN b).lo)
  let s := ((s.bobSet (BOB_TRIG b) (fieldLE p 16 4)).bobSet (BOB_LEVEL b) (fieldLE p 20 4)).bobSet (BOB_POST b)
    (fieldLE p 24 4)
  (upto 4).foldl (fun (s : State) i => s.bobSet (BOB_PROBE b i) (fieldLE p (28 + 4 * i) 4)) s

theorem bobbinArm_arms (hb : fieldLE p 8 1 < 8) (h : s.bit (BOB_STATUS_ARMED (fieldLE p 8 1)) = false ∨
    s.bit (BOB_STATUS_STOPPED (fieldLE p 8 1)) = true) :
    cmdBobbinArm.body s p = { st := (s.bobGiven p (fieldLE p 8 1)).bobArm (fieldLE p 8 1) } := by
  refine (if_neg (Nat.not_le.mpr hb)).trans (if_neg ?_)
  rcases h with h | h <;> simp [h]

theorem bobGiven_le (s : State) (p : List Byte) (b : Nat) : (s.bobGiven p b).le = s.le := by
  have h : Frame { regs := true } s (s.bobGiven p b) :=
    frame_foldl (fun _ _ h => wr_frame _ _ h rfl) (wr_frame _ _ (wr_frame _ _ (wr_frame _ _ (wr_frame _ _ (wr_frame _ _
      (Frame.refl _ s) rfl) rfl) rfl) rfl) rfl)
  exact h.le rfl

theorem bobGiven_regsBut (s : State) (p : List Byte) (b : Nat) (hb : b < 8) : RegsBut bobbinRegs s (s.bobGiven p b) := by
  have hword : ∀ f : RF, 0x41002000 + b * 0x40 ≤ f.addr → f.addr < 0x41002040 + b * 0x40 → bobbinRegs f.addr :=
    fun f h0 h1 => ⟨by omega, by omega⟩
  refine regsBut_foldl (fun t i hi h => regsBut_wr _ _ h (hword (BOB_PROBE b i) ?_ ?_)) ?_
  · simp only [BOB_PROBE]
    omega
  · have : i < 4 := List.mem_range.mp hi
    simp only [BOB_PROBE]
    omega
  · refine regsBut_wr _ _ (regsBut_wr _ _ (regsBut_wr _ _ (regsBut_wr _ _ (regsBut_wr _ _ (RegsBut.refl _ s) ?_) ?_) ?_)
      ?_) ?_ <;> apply hword <;>
      simp only [BOB_CTRL_MODE, BOB_CTRL_PROBE_EN, BOB_TRIG, BOB_LEVEL, BOB_POST] <;> omega

/-! ### PUMP_SET -/

/-- PUMP_SET of a pump that exists, where the module state takes the action (R373, R385). -/
theorem pumpSet_disables (hn : fieldLE p 8 1 < 4) (ha : fieldLE p 9 1 = 0) (hm : s.sys.mode.run = true) :
    cmdPumpSet.body s p = { st := s.disable (fieldLE p 8 1) } := by
  refine (if_neg (by simp [ha, hm])).trans ((if_neg (by omega)).trans ?_)
  rw [ha]
  rfl

theorem pumpSet_enables (hn : fieldLE p 8 1 < 4) (ha : fieldLE p 9 1 = 1) (hm : s.sys.mode.run = true) :
    cmdPumpSet.body s p =
      { st := if s.bit (pfEnable (fieldLE p 8 1)) then s else s.reenable (fieldLE p 8 1) } := by
  refine (if_neg (by simp [ha, hm])).trans ((if_neg (by omega)).trans ?_)
  rw [ha]
  rfl

/-- PUMP_SET of a speed in SERVICE: turned down while the pump manager is on. -/
theorem pumpSet_speed (hn : fieldLE p 8 1 < 4) (ha : fieldLE p 9 1 = 2) (hm : s.sys.mode = .service) :
    cmdPumpSet.body s p = if s.bit PF_PMGR_ENABLE then s.refuse .stateConflict else
      { st := (s.setSpeed (fieldLE p 8 1) (fieldLE p 10 2)).onSys fun y => { y with
          drives := if y.drives.contains (.pump (fieldLE p 8 1)) then y.drives
            else y.drives ++ [.pump (fieldLE p 8 1)] }
        clamps := clampRec 0x3002 (fieldLE p 8 1) (fieldLE p 10 2) (min (fieldLE p 10 2) 10000) } := by
  refine (if_neg (by simp [ha, hm])).trans ((if_neg (by omega)).trans ?_)
  rw [ha]
  rfl

/-! ### VALVE_SEQUENCE -/

/-- VALVE_SEQUENCE of 1 to 32 good steps, while no sequence runs and no step opens a channel that is held or that leaks
(R270). -/
theorem valveSequence_opens (h1 : 1 ≤ (p.length - 8) / 8) (h32 : (p.length - 8) / 8 ≤ 32)
    (hs : ∀ i, i < (p.length - 8) / 8 → (seqStep p i).ch ≤ 35 ∧ 1 ≤ (seqStep p i).action ∧ (seqStep p i).action ≤ 3)
    (hj : s.sv.seqJournal = none)
    (ho : ∀ i, i < (p.length - 8) / 8 →
      ((seqStep p i).action = 2 → s.bit (SV_CHSTAT_TRIP_HELD (seqStep p i).ch) = false) ∧
        ((seqStep p i).action = 3 → s.chLeaks (seqStep p i).ch = false)) :
    cmdValveSequence.body s p =
      { st := (s.openJournal 0xC060 (tagOf p) ((p.length - 8) / 8)).onSv fun y => { y with
          seqJournal := some s.mb.nextJournal, steps := (upto ((p.length - 8) / 8)).map (seqStep p) }
        journal := s.mb.nextJournal
        clamps := (upto ((p.length - 8) / 8)).flatMap fun i =>
          clampRec 0x3001 i (fieldLE p (12 + 8 * i) 2) (min (fieldLE p (12 + 8 * i) 2) 60000) } := by
  have hgood : ((upto ((p.length - 8) / 8)).map (seqStep p)).any
      (fun x => decide (35 < x.ch) || x.action == 0 || decide (3 < x.action)) = false := by
    simp only [List.any_eq_false, List.mem_map, forall_exists_index, and_imp, forall_apply_eq_imp_iff₂]
    intro i hi
    obtain ⟨hch, ha1, ha3⟩ := hs i (List.mem_range.mp hi)
    simp
    omega
  have hfree : ((upto ((p.length - 8) / 8)).map (seqStep p)).any (fun x =>
      (x.action == 2 && s.bit (SV_CHSTAT_TRIP_HELD x.ch)) || (x.action == 3 && s.chLeaks x.ch)) = false := by
    simp only [List.any_eq_false, List.mem_map, forall_exists_index, and_imp, forall_apply_eq_imp_iff₂]
    intro i hi
    obtain ⟨hheld, hleak⟩ := ho i (List.mem_range.mp hi)
    simpa using ⟨hheld, hleak⟩
  refine (if_neg ?_).trans ((if_neg (by simp [hj])).trans (if_neg (by simp [hfree])))
  rw [hgood]
  simp only [Bool.false_eq_true, or_false]
  omega

/-! ### CALIBRATION_CONTROL -/

theorem calibrationControl_disables (hr : fieldLE p 8 1 < 16) (ha : fieldLE p 9 1 = 0) :
    cmdCalibrationControl.body s p =
      { st := (s.setCal (fieldLE p 8 1) { s.cal (fieldLE p 8 1) with
          enabled := false, state := 0, steady := 0, iso := 0 }).calSave } := by
  refine (if_neg (Nat.not_le.mpr hr)).trans ?_
  rw [ha]
  rfl

theorem calibrationControl_enables (hr : fieldLE p 8 1 < 16) (ha : fieldLE p 9 1 = 1) :
    cmdCalibrationControl.body s p =
      { st := if (s.cal (fieldLE p 8 1)).enabled then s else (s.setCal (fieldLE p 8 1) { s.cal (fieldLE p 8 1) with
          enabled := true, state := if s.suspect (s.rd (SN_FLOWSRC (fieldLE p 8 1))) then 4 else 1 }).calSave } := by
  refine (if_neg (Nat.not_le.mpr hr)).trans ?_
  rw [ha]
  rfl

/-- P_AUX within 0 to 50,000 W (R230). -/
theorem calibrationControl_paux (hr : fieldLE p 8 1 < 16) (ha : fieldLE p 9 1 = 2) (hf : fisFin (f32At p 12) = true) :
    cmdCalibrationControl.body s p =
      { st := (s.setCal (fieldLE p 8 1) { s.cal (fieldLE p 8 1) with
          paux := fclamp 0 (f32OfInt 50000) (f32At p 12) }).calSave
        clamps := clampRec 0x3005 (fieldLE p 8 1) (f32At p 12).toNat
          (fclamp 0 (f32OfInt 50000) (f32At p 12)).toNat } := by
  refine (if_neg (Nat.not_le.mpr hr)).trans ?_
  rw [ha]
  exact if_pos hf

theorem calibrationControl_clears (hr : fieldLE p 8 1 < 16) (ha : fieldLE p 9 1 = 3) :
    cmdCalibrationControl.body s p = { st := s.clearSuspect (fieldLE p 8 1) } := by
  refine (if_neg (Nat.not_le.mpr hr)).trans ?_
  rw [ha]
  rfl

theorem calibrationControl_resets (hr : fieldLE p 8 1 < 16) (ha : fieldLE p 9 1 = 4) :
    cmdCalibrationControl.body s p =
      { st := s.setCal (fieldLE p 8 1) { s.cal (fieldLE p 8 1) with resetting := true } } := by
  refine (if_neg (Nat.not_le.mpr hr)).trans ?_
  rw [ha]
  rfl

/-! ### MODBUS_WRITE_ENABLE and SNAPSHOT_AT -/

theorem modbusEnable_grants (h : fieldLE p 8 1 = 1) : cmdModbusEnable.body s p =
    { st := s.onMg fun y => { y with grantEnd := some (s.time + secs (clampNat 60 3600 (fieldLE p 10 2))) }
      clamps := clampRec 0x3004 0 (fieldLE p 10 2) (clampNat 60 3600 (fieldLE p 10 2)) } := by
  unfold cmdModbusEnable modbusEnableBody
  dsimp only
  rw [h]
  rfl

theorem modbusEnable_revokes (h : fieldLE p 8 1 = 0) :
    cmdModbusEnable.body s p = { st := s.onMg fun y => { y with grantEnd := none } } := by
  unfold cmdModbusEnable modbusEnableBody
  dsimp only
  rw [h]
  rfl

theorem execModbusGrantEnd_due {e : Nat} (h : s.mg.grantEnd = some e) (ht : e ≤ s.time) :
    execModbusGrantEnd s = .next (s.onMg fun y => { y with grantEnd := none }) :=
  if_pos (since_due (d := 0) h ht)

theorem snapshotAt_takes (h1 : s.time + msec 1 ≤ fieldLE p 8 8) (h2 : fieldLE p 8 8 ≤ s.time + secs 60)
    (hn : s.mb.snaps.length < 4) : cmdSnapshotAt.body s p =
      { st := s.addSnap (fieldLE p 8 8) (tagOf p), journal := s.mb.nextJournal, out := leBytes 2 s.mb.nextSnap } :=
  (if_neg (Nat.not_lt.mpr h1)).trans ((if_neg (Nat.not_lt.mpr h2)).trans (if_neg (Nat.not_le.mpr hn)))

end Sys2Proof.Machine
end

section
/-! What the work of each of these commands leaves. -/

namespace Sys2Proof.Machine

/-- Settles O28: a request that passes its checks is replied to with its work, by the equation of that work. -/
theorem mailboxActuators : Obligations.MailboxActuators := by
  unfold Obligations.MailboxActuators
  refine ⟨?inject, ?bobbin, ?disable, ?enable, ?enabled, ?speed, ?valves, ?calOff, ?calOn, ?calIsOn, ?paux, ?clear,
    ?reset, ?grant, ?revoke, ?grantEnd, ?snapshot⟩
  case inject =>
    intro s p c ht hk ha hf h0 h4 hc hd
    obtain ⟨t, ho, hframe, rfl⟩ :=
      replies (injectStart_frame p s) rfl ht (injectStart_arms hk ha hf h0 h4 hc hd) rfl
    exact ⟨_, ho, hframe, _, _, _, rfl, rfl, rfl, rfl⟩
  case bobbin =>
    intro s p ht hb h
    obtain ⟨t, ho, hframe, rfl⟩ := replies (bobbinArm_frame p s) rfl ht (bobbinArm_arms hb h) rfl
    exact ⟨_, ho, hframe, s.asked.bobGiven p (fieldLE p 8 1), rfl, bobGiven_le _ _ _, bobGiven_regsBut _ _ _ hb⟩
  case disable =>
    intro s p ht hn ha hm
    exact replies (pumpDisable_frame p s) rfl ht (pumpSet_disables hn ha hm) rfl
  case enable =>
    intro s p ht hn ha hm he
    exact replies (pumpEnable_frame p s) rfl ht ((pumpSet_enables hn ha hm).trans (by simp [he])) rfl
  case enabled =>
    intro s p ht hn ha hm he
    exact replies (pumpEnable_frame p s) rfl ht ((pumpSet_enables hn ha hm).trans (by simp [he])) rfl
  case speed =>
    intro s p ht hn ha hm he
    exact replies (pumpSetSpeed_frame p s) rfl ht ((pumpSet_speed hn ha hm).trans (if_neg (by simp [he]))) rfl
  case valves =>
    intro s p ht h1 h32 hs hj ho
    exact replies (valveSequence_frame p s) rfl ht (valveSequence_opens h1 h32 hs hj ho) rfl
  case calOff =>
    intro s p ht hr ha
    exact replies (calibrationControl_frame p s) rfl ht (calibrationControl_disables hr ha) rfl
  case calOn =>
    intro s p ht hr ha he
    exact replies (calibrationControl_frame p s) rfl ht ((calibrationControl_enables hr ha).trans (by simp [he])) rfl
  case calIsOn =>
    intro s p ht hr ha he
    exact replies (calibrationControl_frame p s) rfl ht ((calibrationControl_enables hr ha).trans (by simp [he])) rfl
  case paux =>
    intro s p ht hr ha hf
    exact replies (calibrationControl_frame p s) rfl ht (calibrationControl_paux hr ha hf) rfl
  case clear =>
    intro s p ht hr ha
    exact replies (calibrationControl_frame p s) rfl ht (calibrationControl_clears hr ha) rfl
  case reset =>
    intro s p ht hr ha
    exact replies (calibrationControl_frame p s) rfl ht (calibrationControl_resets hr ha) rfl
  case grant =>
    intro s p ht h
    exact replies (modbusWriteGrant_frame p s) rfl ht (modbusEnable_grants h) rfl
  case revoke =>
    intro s p ht h
    exact replies (modbusWriteRevoke_frame p s) rfl ht (modbusEnable_revokes h) rfl
  case grantEnd =>
    intro s e h ht
    exact answers_with (execModbusGrantEnd_answers (Frame.refl _ s) rfl) (execModbusGrantEnd_due h ht) rfl
  case snapshot =>
    intro s p ht h1 h2 hn
    exact replies (snapshotAt_frame p s) rfl ht (snapshotAt_takes h1 h2 hn) rfl

end Sys2Proof.Machine
end

section
/-! The requests that the work of a mailbox command turns down (R63, R147, R154, R369, R376, R377, R381, R385, R387, R403,
R405): the equation of the work in each case that it refuses. -/

namespace Sys2Proof.Machine

/-! ### The parts that the commands may touch -/

section frames

variable (p : List (BitVec 8)) (s : State)

theorem setModeTable_frame : Answers mailParts s (exec (.setModeTable p) s) :=
  execSetModeTable_answers p (Frame.refl _ s) rfl rfl rfl rfl rfl rfl

theorem setModeReactive_frame : Answers mailParts s (exec (.setModeReactive p) s) :=
  execSetModeReactive_answers p (Frame.refl _ s) rfl rfl rfl rfl rfl rfl

theorem setModePredictive_frame : Answers mailParts s (exec (.setModePredictive p) s) :=
  execSetModePredictive_answers p (Frame.refl _ s) rfl rfl rfl rfl rfl rfl

theorem setModeHold_frame : Answers mailParts s (exec (.setModeHold p) s) :=
  execSetModeHold_answers p (Frame.refl _ s) rfl rfl rfl rfl rfl rfl

theorem setModeService_frame : Answers mailParts s (exec (.setModeService p) s) :=
  execSetModeService_answers p (Frame.refl _ s) rfl rfl rfl rfl rfl rfl

theorem setModeReset_frame : Answers mailParts s (exec (.setModeReset p) s) :=
  execSetModeReset_answers p (Frame.refl _ s) rfl rfl rfl rfl rfl rfl

theorem contextAdd_frame :
    Answers { mailParts with free := true, pb := true, vq := true } s (exec (.contextAdd p) s) :=
  execContextAdd_answers p (Frame.refl _ s) rfl rfl rfl rfl rfl rfl rfl rfl rfl

theorem contextRemove_frame : Answers { mailParts with pb := true } s (exec (.contextRemove p) s) :=
  execContextRemove_answers p (Frame.refl _ s) rfl rfl rfl rfl rfl rfl rfl

theorem updateBegin_frame : Answers { mailParts with mg := true } s (exec (.updateBegin p) s) :=
  execUpdateBegin_answers p (Frame.refl _ s) rfl rfl rfl rfl rfl rfl rfl

theorem updateChunk_frame : Answers { mailParts with mg := true } s (exec (.updateChunk p) s) :=
  execUpdateChunk_answers p (Frame.refl _ s) rfl rfl rfl rfl rfl rfl rfl

theorem updateVerify_frame : Answers { mailParts with free := true, mg := true } s (exec (.updateVerify p) s) :=
  execUpdateVerify_answers p (Frame.refl _ s) rfl rfl rfl rfl rfl rfl rfl rfl

theorem updateActivate_frame : Answers { mailParts with free := true, mg := true } s (exec (.updateActivate p) s) :=
  execUpdateActivate_answers p (Frame.refl _ s) rfl rfl rfl rfl rfl rfl rfl rfl

theorem modelLoadChunk_frame : Answers { mailParts with mem := true, ca := true } s (exec (.modelLoadChunk p) s) :=
  execModelLoadChunk_answers p (Frame.refl _ s) rfl rfl rfl rfl rfl rfl rfl rfl

theorem commitModel_frame : Answers { mailParts with tr := true } s (exec (.commitModel p) s) :=
  execCommitModel_answers p (Frame.refl _ s) rfl rfl rfl rfl rfl rfl rfl

theorem revertModel_frame :
    Answers { mailParts with mg := true, pf := true, tr := true } s (exec (.revertModel p) s) :=
  execRevertModel_answers p (Frame.refl _ s) rfl rfl rfl rfl rfl rfl rfl rfl rfl

end frames

variable {p : List (BitVec 8)} {s : State}

/-! ### The commands that read -/

/-- CONFIG_READ of a field that does not exist (R379). -/
theorem configRead_unknown (h : ∃ q ∈ readPairs p, s.fieldValue q.1 q.2 = none) :
    cmdConfigRead.body s p = s.refuse .range := by
  obtain ⟨q, hq, hn⟩ := h
  exact if_pos (List.any_eq_true.mpr ⟨(q, s.fieldValue q.1 q.2), List.mem_map.mpr ⟨q, hq, rfl⟩, by simp [hn]⟩)

/-- BOBBIN_READ from a mark that is not valid (R63). -/
theorem bobbinRead_unmarked (hb : fieldLE p 8 1 < 8) (hi : fieldLE p 12 4 < 65536) (hm : fieldLE p 9 1 % 2 = 1)
    (hv : s.bit (BOB_MARKPTR_VALID (fieldLE p 8 1)) = false) : cmdBobbinRead.body s p = s.refuse .stateConflict :=
  (if_neg (by omega)).trans (if_pos (by simp [hm, hv]))

theorem admissionReport_unsound (h : 16 ≤ fieldLE p 8 1 ∨ 3 ≤ fieldLE p 9 1 ∨ s.headerOk (fieldLE p 8 1) = false) :
    cmdAdmissionReport.body s p = s.refuse .range := by
  by_cases hr : 16 ≤ fieldLE p 8 1 ∨ 3 ≤ fieldLE p 9 1
  · exact if_pos hr
  · have hh : s.headerOk (fieldLE p 8 1) = false := by
      rw [← or_assoc] at h
      exact h.resolve_left hr
    exact (if_neg hr).trans (if_pos (by simp [hh]))

/-- More than 60 s ahead is not too soon. -/
theorem not_soon_of_late {now t n : Nat} (h : now + secs 60 < t) (hn : n ≤ 60000) : ¬ t < now + msec n := by
  unfold secs at h
  unfold msec
  omega

/-! ### SET_MODE (R376) -/

/-- A code that names a module state is not that of the reset. -/
theorem modeOfCode_ne_reset {code : Nat} {m : ModState} (h : modeOfCode code = some m) : code ≠ 0xFF := by
  rintro rfl
  simp [modeOfCode] at h

theorem setMode_disallowed {code : Nat} {m : ModState} (hc : fieldLE p 8 1 = code) (hm : modeOfCode code = some m)
    (ha : s.modeAllowed m = false) : cmdSetMode.body s p = s.refuse .stateConflict := by
  refine (if_neg (hc ▸ modeOfCode_ne_reset hm)).trans ?_
  rw [hc, hm]
  exact if_pos (by simp [ha])

/-- A mode may not be asked for at a time. -/
theorem setMode_timed {code : Nat} {m : ModState} (hc : fieldLE p 8 1 = code) (hm : modeOfCode code = some m)
    (ha : s.modeAllowed m = true) (ht : fieldLE p 12 8 ≠ 0) : cmdSetMode.body s p = s.refuse .range := by
  refine (if_neg (hc ▸ modeOfCode_ne_reset hm)).trans ?_
  rw [hc, hm]
  exact (if_neg (by simp [ha])).trans (if_pos ht)

theorem setModeReset_conflicts (hc : fieldLE p 8 1 = 0xFF) (h2 : s.sys.mode ≠ .table) (h5 : s.sys.mode ≠ .hold)
    (h9 : s.sys.mode ≠ .service) : cmdSetMode.body s p = s.refuse .stateConflict :=
  (if_pos hc).trans (if_pos (by simp [h2, h5, h9]))

theorem setModeReset_soon (hc : fieldLE p 8 1 = 0xFF)
    (hm : s.sys.mode = .table ∨ s.sys.mode = .hold ∨ s.sys.mode = .service) (ht : fieldLE p 12 8 < s.time + msec 10) :
    cmdSetMode.body s p = s.refuse .timeout :=
  (if_pos hc).trans ((if_neg (not_not_intro hm)).trans (if_pos ht))

theorem setModeReset_late (hc : fieldLE p 8 1 = 0xFF)
    (hm : s.sys.mode = .table ∨ s.sys.mode = .hold ∨ s.sys.mode = .service) (ht : s.time + secs 60 < fieldLE p 12 8) :
    cmdSetMode.body s p = s.refuse .range :=
  (if_pos hc).trans ((if_neg (not_not_intro hm)).trans
    ((if_neg (not_soon_of_late ht (by decide))).trans (if_pos ht)))

/-! ### The log and the attestation -/

/-- The span `d` is a variable, so that no step computes with the 100,000,000 counts of `secs 1`. -/
theorem any_within {x : Option Nat} {t0 d n : Nat} (h : x = some t0) (ht : n < t0 + d) :
    x.any (fun t => decide (n < t + d)) = true := by
  rw [h, Option.any_some]
  exact decide_eq_true ht

theorem attest_soon {t0 : Nat} (h : s.mg.lastSign = some t0) (ht : s.time < t0 + secs 1) :
    cmdAttest.body s p = s.refuse .busy :=
  if_pos (any_within h ht)

/-! ### Contexts, budgets and leases (R154, R155, R382) -/

theorem contextAdd_taken (hc : (addReq p).ctx < 4096) (hg : (addReq p).group < 64) (ha : (addReq p).addr % 64 = 0)
    (hv : s.bit (PB_CFG_VALID (addReq p).ctx) = true) : cmdContextAdd.body s p = s.refuse .stateConflict :=
  (if_neg (by omega)).trans (if_pos hv)

theorem contextAdd_unfit (hc : (addReq p).ctx < 4096) (hg : (addReq p).group < 64) (ha : (addReq p).addr % 64 = 0)
    (hv : s.bit (PB_CFG_VALID (addReq p).ctx) = false) (hm : s.bit TR_STATUS_ADMITTED = true)
    (hf : s.rd TR_ADMIT ≤ (addReq p).ctx / 32) : cmdContextAdd.body s p = s.refuse .notFit :=
  (if_neg (by omega)).trans ((if_neg (by simp [hv])).trans (if_pos ⟨hm, hf⟩))

theorem contextRemove_unknown (hc : fieldLE p 8 2 < 4096) (hv : s.bit (PB_CFG_VALID (fieldLE p 8 2)) = false) :
    cmdContextRemove.body s p = s.refuse .unknownContext :=
  (if_neg (Nat.not_le.mpr hc)).trans (if_pos (by simp [hv]))

/-- SET_BUDGET refuses with the code of the first entry that is bad (R156, R382). -/
theorem setBudget_bad {k : Ks}
    (h : (((upto (fieldLE p 8 4)).map (budgetReq p)).filterMap s.budgetBad).head? = some k) :
    cmdSetBudget.body s p = s.refuse k := by
  unfold cmdSetBudget setBudgetBody
  dsimp only
  rw [h]

/-! ### LOOP_SET and TABLE_WRITE (R39, R384) -/

theorem loopSet_unknown (h : ∃ e ∈ entriesOf p, loopOffset e.1 = none ∨ 4608 ≤ e.2.1) :
    cmdLoopSet.body s p = s.refuse .range := by
  obtain ⟨e, he, hbad⟩ := h
  exact if_pos (List.any_eq_true.mpr ⟨e, he, by simpa using hbad⟩)

/-- TABLE_WRITE of a table that does not exist, or whose x values do not ascend strictly (R39). -/
theorem tableWrite_bad
    (h : 1024 ≤ fieldLE p 8 2 ∨ ∃ i, i < 15 ∧ flt (f32At p (12 + 4 * i)) (f32At p (16 + 4 * i)) = false) :
    cmdTableWrite.body s p = s.refuse .range := by
  refine if_pos (h.imp_right fun ⟨i, hi, hlt⟩ hall => ?_)
  have hi' : flt (f32At p (12 + 4 * i)) (f32At p (16 + 4 * i)) = true :=
    List.all_eq_true.mp hall i (List.mem_range.mpr hi)
  exact Bool.noConfusion (hlt.symm.trans hi')

/-! ### Injections, bobbins and pumps (R58, R63, R385) -/

theorem injectStart_range
    (h : 4608 ≤ bitsOf (fieldLE p 8 4) 12 0 ∨ fisFin (f32At p 12) = false ∨ fisFin (f32At p 16) = false) :
    cmdInjectStart.body s p = s.refuse .range := if_pos (by simpa using h)

theorem injectStart_conflicts (hk : bitsOf (fieldLE p 8 4) 12 0 < 4608) (ha : fisFin (f32At p 12) = true)
    (hf : fisFin (f32At p 16) = true) (hm : s.effMode (bitsOf (fieldLE p 8 4) 12 0) = 0 ∨
      s.effMode (bitsOf (fieldLE p 8 4) 12 0) = 4) : cmdInjectStart.body s p = s.refuse .stateConflict :=
  (if_neg (by simp [ha, hf, hk])).trans (if_pos hm)

/-- INJECT_START while no channel is free. -/
theorem injectStart_busy (hk : bitsOf (fieldLE p 8 4) 12 0 < 4608) (ha : fisFin (f32At p 12) = true)
    (hf : fisFin (f32At p 16) = true) (h0 : s.effMode (bitsOf (fieldLE p 8 4) 12 0) ≠ 0)
    (h4 : s.effMode (bitsOf (fieldLE p 8 4) 12 0) ≠ 4) (hc : ((upto 32).find? fun c => !s.injUsed c) = none) :
    cmdInjectStart.body s p = s.refuse .busy := by
  refine (if_neg (by simp [ha, hf, hk])).trans ((if_neg (by simp [h0, h4])).trans ?_)
  rw [hc]

theorem bobbinArm_busy (hb : fieldLE p 8 1 < 8) (ha : s.bit (BOB_STATUS_ARMED (fieldLE p 8 1)) = true)
    (hs : s.bit (BOB_STATUS_STOPPED (fieldLE p 8 1)) = false) : cmdBobbinArm.body s p = s.refuse .busy :=
  (if_neg (Nat.not_le.mpr hb)).trans (if_pos (by simp [ha, hs]))

/-- PUMP_SET of an action that the module state does not take. -/
theorem pumpSet_conflicts
    (h : fieldLE p 9 1 = 2 ∧ s.sys.mode ≠ .service ∨ fieldLE p 9 1 < 2 ∧ s.sys.mode.run = false) :
    cmdPumpSet.body s p = s.refuse .stateConflict := if_pos (by simpa using h)

/-- PUMP_SET that disables or enables a pump that does not exist. -/
theorem pumpSet_range (ha : fieldLE p 9 1 < 2) (hm : s.sys.mode.run = true) (hn : 4 ≤ fieldLE p 8 1) :
    cmdPumpSet.body s p = s.refuse .range :=
  (if_neg fun h => h.elim (fun h => by omega) fun h => h.2 hm).trans (if_pos (Or.inl hn))

/-! ### Valves, calibration, the Modbus grant and snapshots (R234, R270, R385, R387) -/

theorem valveSequence_range (h : (p.length - 8) / 8 = 0 ∨ 32 < (p.length - 8) / 8) :
    cmdValveSequence.body s p = s.refuse .range := if_pos (h.imp_right Or.inl)

theorem calibrationControl_range (h : 16 ≤ fieldLE p 8 1 ∨ 4 < fieldLE p 9 1) :
    cmdCalibrationControl.body s p = s.refuse .range := by
  by_cases hr : 16 ≤ fieldLE p 8 1
  · exact if_pos hr
  · obtain ⟨n, hn⟩ : ∃ n, fieldLE p 9 1 = n + 5 := ⟨_, (Nat.sub_add_cancel (h.resolve_left hr)).symm⟩
    refine (if_neg hr).trans ?_
    rw [hn]
    rfl

theorem modbusEnable_range (h : 1 < fieldLE p 8 1) : cmdModbusEnable.body s p = s.refuse .range := by
  obtain ⟨n, hn⟩ : ∃ n, fieldLE p 8 1 = n + 2 := ⟨_, (Nat.sub_add_cancel h).symm⟩
  unfold cmdModbusEnable modbusEnableBody
  dsimp only
  rw [hn]
  rfl

theorem snapshotAt_late (h : s.time + secs 60 < fieldLE p 8 8) : cmdSnapshotAt.body s p = s.refuse .range :=
  (if_neg (not_soon_of_late h (by decide))).trans (if_pos h)

theorem snapshotAt_busy (h1 : s.time + msec 1 ≤ fieldLE p 8 8) (h2 : fieldLE p 8 8 ≤ s.time + secs 60)
    (hn : 4 ≤ s.mb.snaps.length) : cmdSnapshotAt.body s p = s.refuse .busy :=
  (if_neg (Nat.not_lt.mpr h1)).trans ((if_neg (Nat.not_lt.mpr h2)).trans (if_pos hn))

/-! ### Firmware update (R398, R403, R405) -/

theorem updateBegin_busy (ht : fieldLE p 8 1 < 2) (hz : fieldLE p 12 4 ≤ 44 * 1048576)
    (h : s.mg.update.isSome = true ∨ s.tr.commit.isSome = true) : cmdUpdateBegin.body s p = s.refuse .busy :=
  (if_neg (by omega)).trans (if_pos h)

/-- UPDATE_BEGIN for the partner, which is not in step. -/
theorem updateBegin_conflicts (ht : fieldLE p 8 1 = 1) (hz : fieldLE p 12 4 ≤ 44 * 1048576) (hu : s.mg.update = none)
    (hc : s.tr.commit = none) (ha : s.isActive = true) (hp : s.partnerInStep = false) :
    cmdUpdateBegin.body s p = s.refuse .stateConflict :=
  (if_neg (by omega)).trans ((if_neg (by simp [hu, hc])).trans (if_pos ⟨ht, ha, by simp [hp]⟩))

theorem updateChunk_conflicts (h : s.mg.update = none ∨ ∃ u, s.mg.update = some u ∧ u.verified = true) :
    cmdUpdateChunk.body s p = s.refuse .stateConflict := by
  unfold cmdUpdateChunk updateChunkBody
  dsimp only
  rcases h with h | ⟨u, h, hv⟩
  · rw [h]
  · rw [h]
    exact if_pos hv

theorem updateChunk_range {u : Update} (hu : s.mg.update = some u) (hv : u.verified = false)
    (h : fieldLE p 8 4 % 64 ≠ 0 ∨ u.size < fieldLE p 8 4 + (p.drop 12).length) :
    cmdUpdateChunk.body s p = s.refuse .range := by
  unfold cmdUpdateChunk updateChunkBody
  dsimp only
  rw [hu]
  exact (if_neg (by simp [hv])).trans (if_pos h)

/-- UPDATE_END without an update that is open, for every action but RATCHET. -/
theorem updateEnd_closed (h2 : fieldLE p 8 1 ≠ 2) (h4 : fieldLE p 8 1 < 4) (hu : s.mg.update = none) :
    cmdUpdateEnd.body s p = s.refuse .stateConflict := by
  refine (if_neg h2).trans ((if_neg (Nat.not_le.mpr h4)).trans ?_)
  rw [hu]

/-- VERIFY of an image that something refuses. -/
theorem updateVerify_bad {u : Update} {k : Ks} (ha : fieldLE p 8 1 = 0) (hu : s.mg.update = some u)
    (hk : s.imageBad u = some k) : cmdUpdateEnd.body s p = s.refuse k := by
  refine (if_neg (by omega)).trans ((if_neg (by omega)).trans ?_)
  rw [hu]
  refine (if_neg (by omega)).trans ((if_neg (by omega)).trans ?_)
  rw [hk]

/-- ACTIVATE of this module's image while the partner is STANDBY and its heartbeats come (R405). -/
theorem updateActivate_conflicts {u : Update} (ha : fieldLE p 8 1 = 1) (hu : s.mg.update = some u) (ht : u.target = 0)
    (hr : s.rd TW_PARTNER_ROLE = 2) (hb : s.bit TW_STATUS_HB_OK = true) :
    cmdUpdateEnd.body s p = s.refuse .stateConflict := by
  refine (if_neg (by omega)).trans ((if_neg (by omega)).trans ?_)
  rw [hu]
  exact (if_neg (by omega)).trans (if_pos ⟨ha, ht, hr, hb⟩)

/-- RATCHET on this module while its image is not confirmed, or the fuses hold its number (R398). -/
theorem updateRatchet_conflicts (ha : fieldLE p 8 1 = 2) (hu : s.mg.update = none)
    (h : s.mg.confirmed = false ∨ s.runningSlot.svn ≤ s.mg.fuse) :
    cmdUpdateEnd.body s p = s.refuse .stateConflict :=
  (if_pos ha).trans ((if_neg (by simp [hu])).trans (if_pos (by simpa using h)))

/-! ### Models (R141, R147, R150) -/

theorem modelLoadChunk_locked (hs : fieldLE p 8 1 < 16) (h0 : fieldLE p 12 8 % 64 = 0)
    (he : fieldLE p 12 8 + (p.drop 20).length ≤ 0x80000000) (hl : fieldLE p 12 8 < 0x80000000)
    (hc : s.lockedSlots.contains (fieldLE p 8 1) = true) :
    cmdModelLoadChunk.body s p = s.refuse .stateConflict :=
  (if_neg (by omega)).trans (if_pos hc)

theorem commitModel_range (hc : s.tr.commit = none)
    (h : 16 ≤ fieldLE p 8 1 ∨ 3 ≤ fieldLE p 9 1 ∨ s.headerOk (fieldLE p 8 1) = false) :
    cmdCommitModel.body s p = s.refuse .range := by
  refine (if_neg (by simp [hc])).trans ?_
  by_cases hr : 16 ≤ fieldLE p 8 1 ∨ 3 ≤ fieldLE p 9 1
  · exact if_pos hr
  · have hh : s.headerOk (fieldLE p 8 1) = false := by
      rw [← or_assoc] at h
      exact h.resolve_left hr
    exact (if_neg hr).trans (if_pos (by simp [hh]))

theorem revertModel_conflicts (hc : s.tr.commit = none) (hp : s.tr.previous = none) :
    cmdRevertModel.body s p = s.refuse .stateConflict := by
  refine (if_neg (by simp [hc])).trans ?_
  rw [hp]

end Sys2Proof.Machine
end

section
/-! What the work of each mailbox command refuses. -/

namespace Sys2Proof.Machine

/-- Settles O56: a request that passes its checks and that its work refuses is turned down, by the equation of that work
in the case refused. -/
theorem mailboxRefusals : Obligations.MailboxRefusals := by
  unfold Obligations.MailboxRefusals
  refine ⟨?configRead, ?getBudget, ?loopGet, ?captureRead, ?bobbinRead, ?bobbinUnmarked, ?admissionReport, ?tableTimed,
    ?tableNot, ?reactiveTimed, ?reactiveNot, ?predictiveTimed, ?predictiveNot, ?holdTimed, ?holdNot, ?serviceTimed,
    ?serviceNot, ?resetNot, ?resetSoon, ?resetLate, ?readLog, ?attest, ?addRange, ?addTaken, ?addUnfit, ?removeRange,
    ?removeUnknown, ?setBudget, ?setLease, ?configWrite, ?loopSet, ?tableWrite, ?injectRange, ?injectNot, ?injectBusy,
    ?bobbinArmRange, ?bobbinArmBusy, ?disableNot, ?enableNot, ?disableRange, ?enableRange, ?speedNot, ?speedManaged,
    ?valves, ?calibration, ?grant, ?revoke, ?snapSoon, ?snapLate, ?snapBusy, ?beginRange, ?beginBusy, ?beginNot,
    ?chunkNot, ?chunkRange, ?verifyClosed, ?activateClosed, ?verifyBad, ?activateNot, ?ratchet, ?abort, ?loadRange,
    ?loadLocked, ?commitBusy, ?commitRange, ?revertBusy, ?revertNot⟩
  case configRead =>
    intro s p ht h
    exact refuses (configRead_frame p s) rfl ht (configRead_unknown h) rfl
  case getBudget =>
    intro s p ht h
    exact refuses (getBudget_frame p s) rfl ht (if_pos h) rfl
  case loopGet =>
    intro s p ht h
    exact refuses (loopGet_frame p s) rfl ht (if_pos h) rfl
  case captureRead =>
    intro s p ht h
    exact refuses (captureRead_frame p s) rfl ht (if_pos h) rfl
  case bobbinRead =>
    intro s p ht h
    exact refuses (bobbinRead_frame p s) rfl ht (if_pos h) rfl
  case bobbinUnmarked =>
    intro s p ht hb hi hm hv
    exact refuses (bobbinRead_frame p s) rfl ht (bobbinRead_unmarked hb hi hm hv) rfl
  case admissionReport =>
    intro s p ht h
    exact refuses (admissionReport_frame p s) rfl ht (admissionReport_unsound h) rfl
  case tableTimed =>
    intro s p ht hc ha h0
    exact refuses (setModeTable_frame p s) rfl ht (setMode_timed hc rfl ha h0) rfl
  case tableNot =>
    intro s p ht hc ha
    exact refuses (setModeTable_frame p s) rfl ht (setMode_disallowed hc rfl ha) rfl
  case reactiveTimed =>
    intro s p ht hc ha h0
    exact refuses (setModeReactive_frame p s) rfl ht (setMode_timed hc rfl ha h0) rfl
  case reactiveNot =>
    intro s p ht hc ha
    exact refuses (setModeReactive_frame p s) rfl ht (setMode_disallowed hc rfl ha) rfl
  case predictiveTimed =>
    intro s p ht hc ha h0
    exact refuses (setModePredictive_frame p s) rfl ht (setMode_timed hc rfl ha h0) rfl
  case predictiveNot =>
    intro s p ht hc ha
    exact refuses (setModePredictive_frame p s) rfl ht (setMode_disallowed hc rfl ha) rfl
  case holdTimed =>
    intro s p ht hc ha h0
    exact refuses (setModeHold_frame p s) rfl ht (setMode_timed hc rfl ha h0) rfl
  case holdNot =>
    intro s p ht hc ha
    exact refuses (setModeHold_frame p s) rfl ht (setMode_disallowed hc rfl ha) rfl
  case serviceTimed =>
    intro s p ht hc ha h0
    exact refuses (setModeService_frame p s) rfl ht (setMode_timed hc rfl ha h0) rfl
  case serviceNot =>
    intro s p ht hc ha
    exact refuses (setModeService_frame p s) rfl ht (setMode_disallowed hc rfl ha) rfl
  case resetNot =>
    intro s p ht hc h2 h5 h9
    exact refuses (setModeReset_frame p s) rfl ht (setModeReset_conflicts hc h2 h5 h9) rfl
  case resetSoon =>
    intro s p ht hc hm h
    exact refuses (setModeReset_frame p s) rfl ht (setModeReset_soon hc hm h) rfl
  case resetLate =>
    intro s p ht hc hm h
    exact refuses (setModeReset_frame p s) rfl ht (setModeReset_late hc hm h) rfl
  case readLog =>
    intro s p ht h
    exact refuses (execReadLog_answers p (Frame.refl _ s) rfl rfl rfl rfl rfl rfl rfl) rfl ht (if_pos h) rfl
  case attest =>
    intro s p t0 ht h hsoon
    exact refuses (execAttest_answers p (Frame.refl _ s) rfl rfl rfl rfl rfl rfl rfl) rfl ht (attest_soon h hsoon) rfl
  case addRange =>
    intro s p ht h
    exact refuses (contextAdd_frame p s) rfl ht (if_pos h) rfl
  case addTaken =>
    intro s p ht hc hg ha hv
    exact refuses (contextAdd_frame p s) rfl ht (contextAdd_taken hc hg ha hv) rfl
  case addUnfit =>
    intro s p ht hc hg ha hv hm hf
    exact refuses (contextAdd_frame p s) rfl ht (contextAdd_unfit hc hg ha hv hm hf) rfl
  case removeRange =>
    intro s p ht h
    exact refuses (contextRemove_frame p s) rfl ht (if_pos h) rfl
  case removeUnknown =>
    intro s p ht hc hv
    exact refuses (contextRemove_frame p s) rfl ht (contextRemove_unknown hc hv) rfl
  case setBudget =>
    intro s p k ht h hk
    exact refuses (execSetBudget_answers p (Frame.refl _ s) rfl rfl rfl rfl rfl rfl rfl) rfl ht (setBudget_bad h) hk
  case setLease =>
    intro s p ht h
    exact refuses (execSetLease_answers p (Frame.refl _ s) rfl rfl rfl rfl rfl rfl rfl) rfl ht (if_pos h) rfl
  case configWrite =>
    intro s p ht h
    exact refuses (execConfigWrite_answers p (Frame.refl _ s) rfl rfl rfl rfl rfl rfl rfl) rfl ht (if_pos h) rfl
  case loopSet =>
    intro s p ht h
    exact refuses (execLoopSet_answers p (Frame.refl _ s) rfl rfl rfl rfl rfl rfl rfl rfl rfl) rfl ht
      (loopSet_unknown h) rfl
  case tableWrite =>
    intro s p ht h
    exact refuses (execTableWrite_answers p (Frame.refl _ s) rfl rfl rfl rfl rfl rfl) rfl ht (tableWrite_bad h) rfl
  case injectRange =>
    intro s p ht h
    exact refuses (injectStart_frame p s) rfl ht (injectStart_range h) rfl
  case injectNot =>
    intro s p ht hk ha hf hm
    exact refuses (injectStart_frame p s) rfl ht (injectStart_conflicts hk ha hf hm) rfl
  case injectBusy =>
    intro s p ht hk ha hf h0 h4 hc
    exact refuses (injectStart_frame p s) rfl ht (injectStart_busy hk ha hf h0 h4 hc) rfl
  case bobbinArmRange =>
    intro s p ht h
    exact refuses (bobbinArm_frame p s) rfl ht (if_pos h) rfl
  case bobbinArmBusy =>
    intro s p ht hb ha hs
    exact refuses (bobbinArm_frame p s) rfl ht (bobbinArm_busy hb ha hs) rfl
  case disableNot =>
    intro s p ht ha hm
    exact refuses (pumpDisable_frame p s) rfl ht (pumpSet_conflicts (Or.inr ⟨by omega, hm⟩)) rfl
  case enableNot =>
    intro s p ht ha hm
    exact refuses (pumpEnable_frame p s) rfl ht (pumpSet_conflicts (Or.inr ⟨by omega, hm⟩)) rfl
  case disableRange =>
    intro s p ht ha hm hn
    exact refuses (pumpDisable_frame p s) rfl ht (pumpSet_range (by omega) hm hn) rfl
  case enableRange =>
    intro s p ht ha hm hn
    exact refuses (pumpEnable_frame p s) rfl ht (pumpSet_range (by omega) hm hn) rfl
  case speedNot =>
    intro s p ht ha hm
    exact refuses (pumpSetSpeed_frame p s) rfl ht (pumpSet_conflicts (Or.inl ⟨ha, hm⟩)) rfl
  case speedManaged =>
    intro s p ht ha hm hn he
    exact refuses (pumpSetSpeed_frame p s) rfl ht ((pumpSet_speed hn ha hm).trans (if_pos he)) rfl
  case valves =>
    intro s p ht h
    exact refuses (valveSequence_frame p s) rfl ht (valveSequence_range h) rfl
  case calibration =>
    intro s p ht h
    exact refuses (calibrationControl_frame p s) rfl ht (calibrationControl_range h) rfl
  case grant =>
    intro s p ht h
    exact refuses (modbusWriteGrant_frame p s) rfl ht (modbusEnable_range h) rfl
  case revoke =>
    intro s p ht h
    exact refuses (modbusWriteRevoke_frame p s) rfl ht (modbusEnable_range h) rfl
  case snapSoon =>
    intro s p ht h
    exact refuses (snapshotAt_frame p s) rfl ht (if_pos h) rfl
  case snapLate =>
    intro s p ht h
    exact refuses (snapshotAt_frame p s) rfl ht (snapshotAt_late h) rfl
  case snapBusy =>
    intro s p ht h1 h2 hn
    exact refuses (snapshotAt_frame p s) rfl ht (snapshotAt_busy h1 h2 hn) rfl
  case beginRange =>
    intro s p ht h
    exact refuses (updateBegin_frame p s) rfl ht (if_pos h) rfl
  case beginBusy =>
    intro s p ht htarget hz h
    exact refuses (updateBegin_frame p s) rfl ht (updateBegin_busy htarget hz h) rfl
  case beginNot =>
    intro s p ht htarget hz hu hc ha hp
    exact refuses (updateBegin_frame p s) rfl ht (updateBegin_conflicts htarget hz hu hc ha hp) rfl
  case chunkNot =>
    intro s p ht h
    exact refuses (updateChunk_frame p s) rfl ht (updateChunk_conflicts h) rfl
  case chunkRange =>
    intro s p u ht hu hv h
    exact refuses (updateChunk_frame p s) rfl ht (updateChunk_range hu hv h) rfl
  case verifyClosed =>
    intro s p ht ha hu
    exact refuses (updateVerify_frame p s) rfl ht (updateEnd_closed (by omega) (by omega) hu) rfl
  case activateClosed =>
    intro s p ht ha hu
    exact refuses (updateActivate_frame p s) rfl ht (updateEnd_closed (by omega) (by omega) hu) rfl
  case verifyBad =>
    intro s p u k ht ha hu hbad hk
    exact refuses (updateVerify_frame p s) rfl ht (updateVerify_bad ha hu hbad) hk
  case activateNot =>
    intro s p u ht ha hu htarget hr hb
    exact refuses (updateActivate_frame p s) rfl ht (updateActivate_conflicts ha hu htarget hr hb) rfl
  case ratchet =>
    intro s p ht ha hu h
    exact refuses (execUpdateRatchet_answers p (Frame.refl _ s) rfl rfl rfl rfl rfl rfl rfl rfl) rfl ht
      (updateRatchet_conflicts ha hu h) rfl
  case abort =>
    intro s p ht ha hu
    exact refuses (execUpdateAbort_answers p (Frame.refl _ s) rfl rfl rfl rfl rfl rfl rfl rfl) rfl ht
      (updateEnd_closed (by omega) (by omega) hu) rfl
  case loadRange =>
    intro s p ht h
    exact refuses (modelLoadChunk_frame p s) rfl ht (if_pos h) rfl
  case loadLocked =>
    intro s p ht hs h0 he hl hc
    exact refuses (modelLoadChunk_frame p s) rfl ht (modelLoadChunk_locked hs h0 he hl hc) rfl
  case commitBusy =>
    intro s p ht h
    exact refuses (commitModel_frame p s) rfl ht (if_pos h) rfl
  case commitRange =>
    intro s p ht hc h
    exact refuses (commitModel_frame p s) rfl ht (commitModel_range hc h) rfl
  case revertBusy =>
    intro s p ht h
    exact refuses (revertModel_frame p s) rfl ht (if_pos h) rfl
  case revertNot =>
    intro s p ht hc hp
    exact refuses (revertModel_frame p s) rfl ht (revertModel_conflicts hc hp) rfl

end Sys2Proof.Machine
end

section
/-! The issue of an operation in a tile (R91 to R98), of a load and of a store (R101, R102, R106), and what the check of a
tile's words leaves (R87). -/

namespace Sys2Proof.Machine

variable {s : State} {t slot op : Nat}

theorem issue_of_holds (f : Nat → Tile → Tile) (h : s.holds t slot op) :
    s.issue t slot op f = s.setTile t (s.tileAfter t slot f) := if_pos h

/-- An operation that issues executes where its predicate holds. -/
theorem executes_of_holds (h : s.holds t slot op) :
    s.executes t slot op = (s.tile t).predHolds ((s.tile t).slotWord slot) := by
  obtain ⟨hready, hop, hlegal⟩ := h
  simp [State.executes, hready, hop, hlegal]

/-- A command that issues an operation runs it. -/
theorem runs_of_issue {i : Instr} {f : Nat → Tile → Tile} (ho : exec i s = .next (s.issue t slot op f)) :
    Runs i s t slot op f := fun h =>
  ⟨_, ho, issue_frame t slot op f (Frame.refl _ s) rfl, by rw [issue_of_holds f h]; rfl⟩

theorem loads_of_loadOp {i : Instr} {b : Bool} {e : KwErr} {f : Nat → List Byte → TWrite}
    (ho : exec i s = .next (s.loadOp t b op e f)) : Loads i s t b op e f := by
  intro h
  refine ⟨_, _, ho, rfl, ?_⟩
  simp only [State.loadOp, executes_of_holds h, issue_of_holds _ h]

theorem stores_of_storeOp {i : Instr} {b : Bool} {e : KwErr} {g : Nat → Tile → List (Nat × Byte)}
    (ho : exec i s = .next (s.storeOp t b op e g)) : Stores i s t b op e g := by
  intro h
  refine ⟨_, _, _, _, ho, rfl, rfl, rfl, ?_⟩
  simp only [State.storeOp, executes_of_holds h, issue_of_holds _ h]

/-! ### The mirror of a store (R79, R80) -/

theorem mirror_off {n : Nat} {x : Tile} (l : List (Nat × Byte))
    (h : s.mirrorTo t = none ∨ x.inState n = false ∨ x.sent = true) : s.mirror t n x l = s := by
  unfold State.mirror
  split
  next q hq =>
    refine if_neg fun ⟨hin, hsent⟩ => ?_
    simp [hq, hin, hsent] at h
  next => rfl

theorem mirror_on {n q : Nat} {x : Tile} (l : List (Nat × Byte)) (hq : s.mirrorTo t = some q) (hin : x.inState n = true)
    (hsent : x.sent = false) : s.mirror t n x l = s.setTile q ((s.tile q).apply (.line n l)) := by
  unfold State.mirror
  rw [hq]
  exact if_pos ⟨hin, by simp [hsent]⟩

/-! ### Counters that saturate -/

theorem addSat_eq (s : State) (f : RF) (n : Nat) :
    s.addSat f n = s.wr f (min (s.rd f + n) (2 ^ (f.hi + 1 - f.lo) - 1)) := rfl

theorem addSat_regsWf (s : State) (f : RF) (n : Nat) (h : s.regsWf) : (s.addSat f n).regsWf := wr_regsWf s f _ h

theorem rd_addSat_same (s : State) (f : RF) (n : Nat) (h : s.regsWf) (hh : f.hi < 32) (hl : f.lo ≤ f.hi + 1) :
    (s.addSat f n).rd f = min (s.rd f + n) (2 ^ (f.hi + 1 - f.lo) - 1) := by
  have hpos := Nat.two_pow_pos (f.hi + 1 - f.lo)
  rw [addSat_eq, rd_wr_same s f _ h hh hl]
  exact Nat.mod_eq_of_lt (by omega)

theorem rd_addSat_ne (s : State) (f g : RF) (n : Nat) (h : g.addr ≠ f.addr) : (s.addSat f n).rd g = s.rd g :=
  rd_wr_ne s f g _ h

theorem regsBut_addSat {l : Nat → Prop} {s0 s : State} (f : RF) (n : Nat) (h : RegsBut l s0 s) (hf : l f.addr) :
    RegsBut l s0 (s.addSat f n) := regsBut_wr f _ h hf

/-! ### The check of a tile's words (R87) -/

theorem tileEcc_ok {e : KwErr} (h : kwCheck e = .ok) : s.tileEcc t e = s := by
  unfold State.tileEcc
  rw [h]

theorem tileEcc_corrected {e : KwErr} (h : kwCheck e = .corrected) :
    s.tileEcc t e = (s.addSat (TR_TILE_CE_COUNT t) 1).addSat TR_ECC_CE 1 := by
  unfold State.tileEcc
  rw [h]
  rfl

theorem tileEcc_uncorrectable {e : KwErr} (h : kwCheck e = .uncorrectable) : s.tileEcc t e = s.tileFail t .ecc := by
  unfold State.tileEcc
  rw [h]

theorem tileCount_ne_eccCount (t : Nat) : (TR_TILE_CE_COUNT t).addr ≠ TR_ECC_CE.addr := by
  dsimp only [TR_TILE_CE_COUNT, TR_ECC_CE]
  omega

end Sys2Proof.Machine
end

section
/-! What the loads and stores of a tile answer. -/

namespace Sys2Proof.Machine

/-- Settles O16: each command is the model's load or store of its opcode, and a load or store that issues leaves what
`Loads` and `Stores` say; the check and the mirror case by case. -/
theorem tileLoadsAndStores : Obligations.TileLoadsAndStores := by
  unfold Obligations.TileLoadsAndStores
  refine ⟨?ld, ?ldx8, ?ldx16, ?ldb, ?lds, ?st, ?stn8, ?stn16, ?sts, ?ok, ?corrected, ?uncorrectable, ?unmirrored,
    ?mirrored⟩
  case ld | ldx8 | ldx16 | ldb | lds =>
    intro s t b e
    exact loads_of_loadOp rfl
  case st | stn8 | stn16 | sts =>
    intro s t b e
    exact stores_of_storeOp rfl
  case ok =>
    intro s t e h
    exact tileEcc_ok h
  case corrected =>
    intro s t e hs h
    rw [tileEcc_corrected h]
    refine ⟨regsBut_addSat _ _ (regsBut_addSat _ _ (RegsBut.refl _ s) (Or.inl rfl)) (Or.inr rfl), ?_, ?_⟩
    · rw [rd_addSat_ne _ _ _ _ (tileCount_ne_eccCount t)]
      exact rd_addSat_same s (TR_TILE_CE_COUNT t) 1 hs.regs (by decide : 31 < 32) (by decide : 24 ≤ 32)
    · rw [rd_addSat_same _ TR_ECC_CE 1 (addSat_regsWf s _ 1 hs.regs) (by decide) (by decide),
        rd_addSat_ne _ _ _ _ (tileCount_ne_eccCount t).symm]
  case uncorrectable =>
    intro s t e h
    exact tileEcc_uncorrectable h
  case unmirrored =>
    intro s t n x l h
    exact mirror_off l h
  case mirrored =>
    intro s t n q x l hq hin hsent
    exact mirror_on l hq hin hsent

end Sys2Proof.Machine
end

section
/-! The messages of a tile (R97, R113 to R119): a bundle that must stall, the stream slot's operations, the end of a
sentinel bunch, the send engine, and the arrival of a message. -/

namespace Sys2Proof.Machine

/-- The parts that a failing tile may touch: it may lose a column, which stops Trellis and leaves PREDICTIVE (R84). -/
def tileFailParts : Parts :=
  { regs := true, sys := true, dic := true, mg := true, mb := true, le := true, pf := true, tr := true, tw := true }

variable (n : Fin 128) {s : State}

/-! ### The parts that the commands may touch -/

theorem bend_frame : Answers tileFailParts s (exec (.bend n) s) :=
  execBend_answers n (Frame.refl _ s) rfl rfl rfl rfl rfl rfl rfl rfl rfl

theorem sendEngineStart_frame : Answers tileFailParts s (exec (.sendEngineStart n) s) :=
  execSendEngineStart_answers n (Frame.refl _ s) rfl rfl rfl rfl rfl rfl rfl rfl rfl

theorem messageArrival_frame (ch : Fin 8) : Answers tileFailParts s (exec (.messageArrival n ch) s) :=
  execMessageArrival_answers n ch (Frame.refl _ s) rfl rfl rfl rfl rfl rfl rfl rfl rfl

/-! ### RCV and its stall (R97) -/

theorem execRcv_stalls (hr : s.tileRuns n = true) (hh : (s.tile n).halted = false) (hs : (s.tile n).stalled = false)
    (hm : (s.tile n).mustStall = true) : execRcv n s = .next (s.setTile n { s.tile n with stalled := true }) :=
  congrArg _ (if_pos ⟨hr, hh, hs, hm⟩)

theorem execRcv_issues (hm : (s.tile n).mustStall = false) : execRcv n s = .next (s.issue n 7 1 Tile.receive) :=
  congrArg _ (if_neg fun h => by simp [hm] at h)

theorem execRcvResume_resumes (hr : s.tileRuns n = true) (hs : (s.tile n).stalled = true)
    (hm : (s.tile n).mustStall = false) : execRcvResume n s = .next (s.setTile n { s.tile n with stalled := false }) :=
  congrArg _ (if_pos ⟨hr, hs, hm⟩)

/-! ### BEND (R83, R119) -/

theorem setTile_tr (s : State) (t : Nat) (x : Tile) :
    (s.setTile t x).tr = { s.tr with tiles := tset {} s.tr.tiles t x } := onTr_tr s _

/-- An operation that issues leaves the record of the sentinel. -/
theorem issue_sentOn (s : State) (t slot op : Nat) (f : Nat → Tile → Tile) :
    (s.issue t slot op f).tr.sentOn = s.tr.sentOn := by
  unfold State.issue
  dsimp only
  split
  · rw [setTile_tr]
  · rfl

/-- BEND issues and, where it ends a sentinel bunch that is short of messages, the stage is charged. -/
theorem execBend_eq : execBend n s = .next
    (if s.executes n 7 8 = true ∧ (s.tile n).sent = true ∧ s.tr.sentOn = true ∧
        (s.issue n 7 8 fun _ x => { x with lastBend := some x.m0 }).sentShort (s.tile n) = true then
      ((s.issue n 7 8 fun _ x => { x with lastBend := some x.m0 }).onTr fun y =>
        { y with sentEarly := (s.tile n).stage :: y.sentEarly }).sentCharge
    else s.issue n 7 8 fun _ x => { x with lastBend := some x.m0 }) := by
  unfold execBend
  simp only [issue_sentOn]

theorem execBend_notes (h : (s.tile n).sent = false ∨ s.tr.sentOn = false ∨
    (s.issue n 7 8 fun _ x => { x with lastBend := some x.m0 }).sentShort (s.tile n) = false) :
    execBend n s = .next (s.issue n 7 8 fun _ x => { x with lastBend := some x.m0 }) := by
  rw [execBend_eq, if_neg]
  rintro ⟨-, hsent, hon, hshort⟩
  simp [hsent, hon, hshort] at h

/-- A sentinel bunch that ends with fewer messages than its table is charged to the stage. -/
theorem execBend_charges (hi : s.holds n 7 8) (hp : (s.tile n).predHolds ((s.tile n).slotWord 7) = true)
    (hsent : (s.tile n).sent = true) (hon : s.tr.sentOn = true)
    (hshort : (s.issue n 7 8 fun _ x => { x with lastBend := some x.m0 }).sentShort (s.tile n) = true) :
    execBend n s = .next (((s.setTile n (s.tileAfter n 7 fun _ x => { x with lastBend := some x.m0 })).onTr fun y =>
      { y with sentEarly := (s.tile n).stage :: y.sentEarly }).sentCharge) := by
  rw [execBend_eq, if_pos ⟨(executes_of_holds hi).trans hp, hsent, hon, hshort⟩, issue_of_holds _ hi]

/-! ### The send engine and the mesh (R70, R116) -/

theorem execSendEngineStart_launches {x : Tile} (hr : s.tileRuns n = true)
    (hx : x = if (s.tile n).stalled = true ∧ (s.tile n).halted = false then (s.tile n).sendClock else s.tile n) :
    execSendEngineStart n s =
      .next (x.outbox.foldl (State.launch · n ·) (s.setTile n { x with outbox := [] })) := by
  unfold execSendEngineStart
  rw [if_pos hr, hx]
  simp only [Bool.not_eq_true]

theorem execMessageArrival_delivers (ch : Fin 8) {i : Nat} {m : Flight} (hr : s.trRuns = true)
    (hm : s.tr.mesh[i]? = some m) (hi : s.tr.mesh.findIdx? (s.bound n ch) = some i) : execMessageArrival n ch s =
      .next ((s.onTr fun y => { y with mesh := y.mesh.eraseIdx i }).deliverTo n ch m.tag m.lines) := by
  unfold execMessageArrival
  rw [if_pos hr, hi]
  dsimp only
  rw [hm]

end Sys2Proof.Machine
end

section
/-! What the message commands of a tile answer. -/

namespace Sys2Proof.Machine

/-- Settles O20: the stall of RCV and each operation of the stream slot by its equation; an operation that issues runs,
and BEND alone does more where its sentinel bunch ends early. -/
theorem tileMessages : Obligations.TileMessages := by
  unfold Obligations.TileMessages
  refine ⟨?stall, ?receive, ?resume, ?free, ?send, ?poll, ?bend, ?early, ?engine, ?arrival⟩
  case stall =>
    intro s n hr hh hs hm
    exact answers_with (execRcv_answers n (Frame.refl _ s) rfl) (execRcv_stalls n hr hh hs hm) (setTile_tr _ _ _)
  case receive =>
    intro s n hm
    exact runs_of_issue (execRcv_issues n hm)
  case resume =>
    intro s n hr hs hm
    exact answers_with (execRcvResume_answers n (Frame.refl _ s) rfl) (execRcvResume_resumes n hr hs hm)
      (setTile_tr _ _ _)
  case free | send | poll =>
    intro s n
    exact runs_of_issue rfl
  case bend =>
    intro s n h
    exact runs_of_issue (execBend_notes n h)
  case early =>
    intro s n hi hp hsent hon hshort
    exact answers_with (bend_frame n) (execBend_charges n hi hp hsent hon hshort) rfl
  case engine =>
    intro s n hr
    exact answers_with (sendEngineStart_frame n) (execSendEngineStart_launches n hr rfl) ⟨_, rfl, rfl⟩
  case arrival =>
    intro s n ch i m hr hm hi
    exact answers_with (messageArrival_frame n ch) (execMessageArrival_delivers n ch hr hm hi) rfl

end Sys2Proof.Machine
end

section
/-! The frames of Trellis (R71 to R76, R82, R83, R117, R118): the entry of the bunches, and the predictions and virtual
sensors taken off the mesh. -/

namespace Sys2Proof.Machine

variable {s : State}

/-! ### The parts that the commands may touch -/

theorem sentinelBunchEntry_frame (s : State) : Answers tileFailParts s (exec .sentinelBunchEntry s) :=
  execSentinelBunchEntry_answers (Frame.refl _ s) rfl rfl rfl rfl rfl rfl rfl rfl rfl

theorem bunchEntry_frame (s : State) : Answers tileFailParts s (exec .bunchEntry s) :=
  execBunchEntry_answers (Frame.refl _ s) rfl rfl rfl rfl rfl rfl rfl rfl rfl

/-! ### Bunches (R72, R83) -/

section sentinel

variable (hr : s.trRuns = true) (hf : s.tr.frameOn = true) (ht : s.tr.frameStart + s.frameCounts / 50 ≤ s.time)
  (hn : ¬ (s.tr.sentOn = true ∧ s.tr.sentFrame = s.frame))
include hr hf ht hn

theorem execSentinelBunchEntry_feeds {u : State} (hj : s.sentJudge.trRuns = true) (hu : u = s.sentJudge.onTr fun y =>
      { y with sentOn := true, sentFrame := s.sentJudge.frame, sentWrong := [], sentEarly := [], sentMsgs := [] }) :
    execSentinelBunchEntry s = .next (u.feed u.sentTag u.sentLines) := by
  subst hu
  exact congrArg _ ((if_pos ⟨hr, hf, ht, hn⟩).trans (if_pos hj))

theorem execSentinelBunchEntry_stops (hj : s.sentJudge.trRuns = false) :
    execSentinelBunchEntry s = .next s.sentJudge :=
  congrArg _ ((if_pos ⟨hr, hf, ht, hn⟩).trans (if_neg (Bool.eq_false_iff.mp hj)))

end sentinel

theorem execBunchEntry_feeds {u : State} {b : Nat} {rest : List Nat} (hb : s.tr.toEnter = b :: rest)
    (hr : s.trRuns = true) (hf : s.tr.frameOn = true) (h0 : s.tr.frameStart + s.frameCounts / 20 ≤ s.time)
    (h1 : s.time < s.tr.frameStart + s.frameCounts)
    (hc : s.cyclesIn (s.tr.entered * s.rd TR_II) (s.time - (s.tr.frameStart + s.frameCounts / 20)) = true)
    (hu : u = s.onTr fun y => { y with
      toEnter := rest, entered := y.entered + 1,
      lastOf := ((s.frame, b) :: y.lastOf.filter fun p => p.1 != s.frame).take 4 }) :
    execBunchEntry s = .next (u.feed (fun _ => 256 * b + u.frame % 256) fun _ => u.bunchLines b) := by
  subst hu
  unfold execBunchEntry
  rw [hb]
  exact congrArg _ (if_pos ⟨hr, hf, h0, h1, hc⟩)

/-! ### The mesh -/

/-- The oldest message to a sink that need not wait, and the mesh without it (R80). -/
theorem nextFlight_found {d : TDest → Bool} {i : Nat} {m : Flight}
    (hi : (s.tr.mesh.findIdx? fun m => d m.dest && !s.heldBack m) = some i) (hm : s.tr.mesh[i]? = some m) :
    s.nextFlight d = some (m, s.onTr fun y => { y with mesh := y.mesh.eraseIdx i }) := by
  unfold State.nextFlight
  rw [hi]
  dsimp only
  rw [hm]
  rfl

theorem execPredictionDelivery_takes {i : Nat} {m : Flight}
    (hi : (s.tr.mesh.findIdx? fun m => m.dest == .out && !s.heldBack m) = some i) (hm : s.tr.mesh[i]? = some m) :
    execPredictionDelivery s = .next ((s.onTr fun y => { y with mesh := y.mesh.eraseIdx i }).takeOut m) := by
  unfold execPredictionDelivery
  rw [nextFlight_found hi hm]

theorem execVirtualSensorDelivery_takes {i : Nat} {m : Flight}
    (hi : (s.tr.mesh.findIdx? fun m => m.dest == .vs && !s.heldBack m) = some i) (hm : s.tr.mesh[i]? = some m) :
    execVirtualSensorDelivery s = .next ((s.onTr fun y => { y with mesh := y.mesh.eraseIdx i }).takeVs m) := by
  unfold execVirtualSensorDelivery
  rw [nextFlight_found hi hm]

/-! ### Predictions (R74, R75, R118) -/

theorem takeOut_tr (s : State) (m : Flight) : (s.takeOut m).tr = s.tr :=
  (takeOut_frame (P := { regs := true, le := true }) m (Frame.refl _ s) rfl rfl).tr rfl

theorem takeOut_misshapen {m : Flight} (h : m.lines.length ≠ 64) : s.takeOut m = s.addSat TR_BAD_OUT 32 := if_pos h

theorem takeOut_sentinel {m : Flight} (hl : m.lines.length = 64) (h : m.tag / 2 ^ 15 % 2 = 1) : s.takeOut m = s :=
  (if_neg (not_not.mpr hl)).trans (if_pos h)

/-- A bunch's rows go to the prediction store one after another, and the exit of the frame's last bunch is timed. -/
theorem takeOut_rows {m : Flight} {v : State} (hl : m.lines.length = 64) (h : m.tag / 2 ^ 15 % 2 = 0)
    (hv : v = (upto 32).foldl (State.outRow · (m.tag / 256 % 128) (s.frameOf (m.tag % 256))
      (s.withheld (s.frameOf (m.tag % 256))) m.lines) s) :
    s.takeOut m = if v.lastBunch (s.frameOf (m.tag % 256)) (m.tag / 256 % 128) = true then
        v.wr TR_LAST_EXIT (v.time - (v.tr.frameStart - (v.frame - s.frameOf (m.tag % 256)) * v.frameCounts))
      else v := by
  subst hv
  exact (if_neg (not_not.mpr hl)).trans (if_neg (by omega))

/-! ### Virtual sensors (R76, R118, R148) -/

/-- A number of virtual sensors written in order: `g` gives each its value and frame. -/
def State.putSensors (s : State) (g : Nat → F32 × Nat) (n : Nat) : State :=
  (upto n).foldl (fun s i => s.onLe fun y => { y with vs := tset none y.vs i (some (g i)) }) s

/-- Each sensor written reads back, since the others leave it. -/
theorem putSensors_read (s : State) (g : Nat → F32 × Nat) {n j : Nat} (hj : j < n) :
    tget none (s.putSensors g n).le.vs j = some (g j) := by
  induction n with
  | zero => exact absurd hj (Nat.not_lt_zero j)
  | succ n ih =>
    have hlast : (s.putSensors g (n + 1)).le.vs = tset none (s.putSensors g n).le.vs n (some (g n)) := by
      simp [State.putSensors, upto, List.range_succ]
    rw [hlast]
    by_cases h : j = n
    · subst h
      rw [tset, if_neg (Option.some_ne_none _), tget, tfind_tinsert_same]
      rfl
    · rw [tget_tset_ne none none _ _ h]
      exact ih (by omega)

theorem takeVs_tr (s : State) (m : Flight) : (s.takeVs m).tr = s.tr :=
  (takeVs_frame (P := { le := true }) m (Frame.refl _ s) rfl).tr rfl

theorem takeVs_dropped {m : Flight} (h : m.tag / 2 ^ 15 % 2 = 1 ∨ ∃ c, s.tr.commit = some c ∧ 3 ≤ c.step) :
    (s.takeVs m).le.vs = s.le.vs := by
  refine congrArg (fun t : State => t.le.vs) (if_pos (h.imp_right ?_))
  rintro ⟨c, hc, hstep⟩
  simp [hc, hstep]

/-- A commit that has not begun step 3 leaves the virtual sensors open. -/
theorem sensorsOpen {m : Flight} (ht : m.tag / 2 ^ 15 % 2 = 0) (hc : ∀ c, s.tr.commit = some c → c.step < 3) :
    ¬ (m.tag / 2 ^ 15 % 2 = 1 ∨ (s.tr.commit.any fun c => decide (3 ≤ c.step)) = true) := by
  rintro (h | h)
  · omega
  · obtain ⟨c, hcommit, hstep⟩ := (Option.any_eq_true _ _).mp h
    exact Nat.not_le.mpr (hc c hcommit) (of_decide_eq_true hstep)

theorem takeVs_writes {m : Flight} {x : Image} (ht : m.tag / 2 ^ 15 % 2 = 0)
    (hc : ∀ c, s.tr.commit = some c → c.step < 3) (hx : s.tr.image = some x) : s.takeVs m =
      s.putSensors (fun i => (BitVec.ofNat 32 (fieldLE (m.lines.getD (i / 16) []) (4 * (i % 16)) 4),
        s.frameOf (m.tag % 256))) (min (16 * m.lines.length) x.vsCount) := by
  refine (if_neg (sensorsOpen ht hc)).trans ?_
  rw [hx]
  rfl

/-- A word of a message that is open reads back as its sensor's value, with the frame of the tag. -/
theorem takeVs_read {m : Flight} {x : Image} {j : Nat} (ht : m.tag / 2 ^ 15 % 2 = 0)
    (hc : ∀ c, s.tr.commit = some c → c.step < 3) (hx : s.tr.image = some x)
    (hj : j < min (16 * m.lines.length) x.vsCount) : tget none (s.takeVs m).le.vs j =
      some (BitVec.ofNat 32 (fieldLE (m.lines.getD (j / 16) []) (4 * (j % 16)) 4), s.frameOf (m.tag % 256)) := by
  rw [takeVs_writes ht hc hx, putSensors_read _ _ hj]

end Sys2Proof.Machine
end

section
/-! What the entries of the bunches and the deliveries of predictions and virtual sensors answer. -/

namespace Sys2Proof.Machine

/-- Settles O21: each entry and each delivery by its equation; the deliveries by what the message taken leaves. -/
theorem trellisFrames : Obligations.TrellisFrames := by
  unfold Obligations.TrellisFrames
  refine ⟨?sentinel, ?stopped, ?bunch, ?prediction, ?sensors⟩
  case sentinel =>
    intro s u hr hf ht hn hj hu
    exact answers_with (sentinelBunchEntry_frame s) (execSentinelBunchEntry_feeds hr hf ht hn hj hu) rfl
  case stopped =>
    intro s hr hf ht hn hj
    exact answers_with (sentinelBunchEntry_frame s) (execSentinelBunchEntry_stops hr hf ht hn hj) rfl
  case bunch =>
    intro s u b rest hb hr hf h0 h1 hc hu
    exact answers_with (bunchEntry_frame s) (execBunchEntry_feeds hb hr hf h0 h1 hc hu) rfl
  case prediction =>
    intro s i m hs hi hm
    refine answers_with (execPredictionDelivery_answers (Frame.refl _ s) rfl rfl rfl)
      (execPredictionDelivery_takes hi hm) ⟨by rw [takeOut_tr]; rfl, fun hl => ?_, takeOut_sentinel, fun hl ht => ?_⟩
    · rw [takeOut_misshapen hl]
      exact ⟨rd_addSat_same _ TR_BAD_OUT 32 hs.regs (by decide) (by decide),
        regsBut_addSat _ _ (RegsBut.refl _ s) rfl⟩
    · exact ⟨_, _, rfl, rfl, takeOut_rows hl ht rfl⟩
  case sensors =>
    intro s i m hi hm
    refine answers_with (execVirtualSensorDelivery_answers (Frame.refl _ s) rfl rfl)
      (execVirtualSensorDelivery_takes hi hm) ⟨by rw [takeVs_tr]; rfl, fun h => ?_, fun x j ht hc hx hj => ?_⟩
    · exact takeVs_dropped h
    · exact takeVs_read ht hc hx hj

end Sys2Proof.Machine
end

section
/-! The rotation of the spare column (R78 to R81, R84): one equation for each step that is due, and what it leaves in
TR_ROT_STATE and in the tiles. -/

namespace Sys2Proof.Machine

variable {s : State}

theorem spareSelftestDone_frame (failed : Option (Fin 8)) (s : State) :
    Answers tileFailParts s (exec (.spareSelftestDone failed) s) :=
  execSpareSelftestDone_answers failed (Frame.refl _ s) rfl rfl rfl rfl rfl rfl rfl rfl rfl

/-! ### The period and the self-test -/

theorem execRotationPeriodExpiry_due (ho : s.rotates = true) (hr : s.trRuns = true) (hp : s.rd TR_ROT_STATE_PHASE < 2)
    (ht : s.tr.lastSwitch + secs (clampNat 1 600 (s.rd TR_ROT_PERIOD)) ≤ s.time) :
    execRotationPeriodExpiry s = .next (s.onTr fun y => { y with rotDue := true }) :=
  congrArg _ (if_pos ⟨ho, hr, hp, ht⟩)

section selftest

variable (ho : s.rotates = true) (hr : s.trRuns = true) (hd : s.tr.selftestDone = false)
  (hp : s.rd TR_ROT_STATE_PHASE < 2) (ht : s.tr.lastSwitch + msec 40 ≤ s.time)
include ho hr hd hp ht

theorem execSpareSelftestDone_passes :
    execSpareSelftestDone none s = .next (s.onTr fun y => { y with selftestDone := true }) :=
  congrArg _ (if_pos ⟨ho, hr, by simp [hd], hp, ht⟩)

theorem execSpareSelftestDone_fails (r : Fin 8) :
    execSpareSelftestDone (some r) s = .next (s.tileFail (16 * r + s.rd TR_ROT_STATE_SPARE) .selftest) :=
  congrArg _ (if_pos ⟨ho, hr, by simp [hd], hp, ht⟩)

end selftest

/-! ### The preload -/

/-- The spare with the code of the retiring column's stages (R79). -/
def State.spareLoaded (s : State) : State :=
  s.stages.zipIdx.foldl (fun s' p =>
    if some p.1.col = s.logicalOf (s.rd TR_ROT_STATE_RETIRING) then
      s'.setTile (16 * p.1.row + s.rd TR_ROT_STATE_SPARE)
        (s'.loadCode s'.imageSlot p.2 p.1 s'.plantUsed (s'.tile (16 * p.1.row + s.rd TR_ROT_STATE_SPARE)))
    else s') s

theorem spareLoaded_frame (s : State) : Frame { tr := true } s s.spareLoaded :=
  frame_foldl (fun _ _ h => frame_ite (setTile_frame _ _ h rfl) h) (Frame.refl _ s)

theorem execPreloadDone_loads (ho : s.rotates = true) (hr : s.trRuns = true) (hd : s.tr.selftestDone = true)
    (hp : s.tr.preloaded = false) : execPreloadDone s =
      .next ((s.spareLoaded.onTr fun y => { y with preloaded := true }).wr TR_ROT_STATE_PHASE 0) :=
  congrArg _ (if_pos ⟨ho, hr, hd, by simp [hp]⟩)

/-! ### The capture -/

theorem execRotationCaptureStart_captures {u : State} (ho : s.rotates = true) (hr : s.trRuns = true)
    (hb : s.atBoundary = true) (hd : s.tr.rotDue = true) (hl : s.tr.preloaded = true)
    (hp : s.rd TR_ROT_STATE_PHASE < 2) (hu : u = (s.onTr fun y => { y with
      rotDue := false, switchAt := some (s.frame + clampNat 1 16 (s.rd TR_CTRL_CAPTURE_LEAD)) }).wr TR_ROT_STATE_PHASE 2) :
    execRotationCaptureStart s = .next ((u.stagesOn (u.rd TR_ROT_STATE_RETIRING)).foldl
      (fun s q => s.copyStage (u.rd TR_ROT_STATE_RETIRING) (u.rd TR_ROT_STATE_SPARE) q.1) u) := by
  subst hu
  exact congrArg _ (if_pos ⟨ho, hr, hb, hd, hl, hp⟩)

/-! ### The switch -/

/-- The stages of the retiring column taken up in the spare, and the map rewritten where the column holds a logical one
(R79, R80). -/
def State.switched (s : State) (old spare : Nat) : State :=
  match s.logicalOf old with
  | some c => ((s.stagesOn old).foldl (State.switchStage · old spare ·) s).wr (colByte c) (128 + spare)
  | none => s

/-- TR_ROT_STATE at the switch: the retiring column the spare, the column to its east the next to retire, the rotation
counted, PHASE 3. -/
def State.rotStateSwitched (s : State) (old : Nat) : State :=
  let v := (s.wr TR_ROT_STATE_SPARE old).wr TR_ROT_STATE_RETIRING (s.eastOf old)
  (v.wr TR_ROT_STATE_ROT_COUNT (v.rd TR_ROT_STATE_ROT_COUNT + 1)).wr TR_ROT_STATE_PHASE 3

/-- The same with the frame of the switch noted. -/
def State.switchDated (s : State) (old spare : Nat) : State :=
  (s.switched old spare).onTr fun y => { y with switchAt := some (s.switched old spare).frame }

/-- The whole of a switch (R79). -/
def State.rotationSwitched (s : State) (old spare : Nat) : State :=
  let w := (s.switchDated old spare).rotStateSwitched old
  ((w.onTr fun y => { y with
    retiring := some old, lastSwitch := w.time, selftestDone := false, preloaded := false }).tileStates).log 2
      .rotationDone 0 [old]

theorem execRotationSwitch_switches {k : Nat} (ho : s.rotates = true) (hr : s.trRuns = true)
    (hp : s.rd TR_ROT_STATE_PHASE = 2) (hk : s.tr.switchAt = some k) (hf : k ≤ s.frame)
    (ht : s.time ≤ s.tr.frameStart + s.frameCounts / 50) : execRotationSwitch s =
      .next (s.rotationSwitched (s.rd TR_ROT_STATE_RETIRING) (s.rd TR_ROT_STATE_SPARE)) :=
  congrArg _ (if_pos ⟨ho, hr, hp, ⟨k, hk, hf⟩, ht⟩)

theorem switched_frame (s : State) (old spare : Nat) : Frame { regs := true, tr := true } s (s.switched old spare) := by
  unfold State.switched
  split
  · exact wr_frame _ _ (frame_foldl (fun _ _ h => switchStage_frame old spare _ h rfl) (Frame.refl _ s)) rfl
  · exact Frame.refl _ s

theorem switchDated_frame (s : State) (old spare : Nat) :
    Frame { regs := true, tr := true } s (s.switchDated old spare) := onTr_frame _ (switched_frame s old spare) rfl

theorem rotStateSwitched_frame (s : State) (old : Nat) : Frame { regs := true } s (s.rotStateSwitched old) :=
  wr_frame _ _ (wr_frame _ _ (wr_frame _ _ (wr_frame _ _ (Frame.refl _ s) rfl) rfl) rfl) rfl

/-- A write of one field of a register leaves another. -/
theorem rd_wr_beside (f g : RF) (v : Nat) (h : s.regsWf)
    (hfg : g.addr = f.addr ∧ f.hi < 32 ∧ f.lo ≤ f.hi + 1 ∧ (f.hi < g.lo ∨ g.hi < f.lo)) : (s.wr f v).rd g = s.rd g :=
  rd_wr_disjoint s f g v h hfg.2.1 hfg.2.2.1 hfg.1 hfg.2.2.2

/-- What TR_ROT_STATE reads after a switch: PHASE, SPARE, ROT_COUNT and RETIRING. -/
theorem rotStateSwitched_rds {old : Nat} (h : s.regsWf) (ho : old < 16) :
    (s.rotStateSwitched old).rd TR_ROT_STATE_PHASE = 3 ∧ (s.rotStateSwitched old).rd TR_ROT_STATE_SPARE = old ∧
      (s.rotStateSwitched old).rd TR_ROT_STATE_ROT_COUNT = (s.rd TR_ROT_STATE_ROT_COUNT + 1) % 2 ^ 16 ∧
      (s.rotStateSwitched old).rd TR_ROT_STATE_RETIRING = s.eastOf old % 16 := by
  have h1 := wr_regsWf s TR_ROT_STATE_SPARE old h
  have h2 := wr_regsWf _ TR_ROT_STATE_RETIRING (s.eastOf old) h1
  have h3 := fun n => wr_regsWf _ TR_ROT_STATE_ROT_COUNT n h2
  unfold State.rotStateSwitched
  dsimp only
  refine ⟨rd_wr_same _ TR_ROT_STATE_PHASE 3 (h3 _) (by decide) (by decide), ?spare, ?count, ?retiring⟩
  case spare =>
    rw [rd_wr_beside TR_ROT_STATE_PHASE TR_ROT_STATE_SPARE _ (h3 _) (by decide),
      rd_wr_beside TR_ROT_STATE_ROT_COUNT TR_ROT_STATE_SPARE _ h2 (by decide),
      rd_wr_beside TR_ROT_STATE_RETIRING TR_ROT_STATE_SPARE _ h1 (by decide),
      rd_wr_same _ TR_ROT_STATE_SPARE _ h (by decide) (by decide)]
    exact Nat.mod_eq_of_lt ho
  case count =>
    rw [rd_wr_beside TR_ROT_STATE_PHASE TR_ROT_STATE_ROT_COUNT _ (h3 _) (by decide),
      rd_wr_same _ TR_ROT_STATE_ROT_COUNT _ h2 (by decide) (by decide),
      rd_wr_beside TR_ROT_STATE_RETIRING TR_ROT_STATE_ROT_COUNT _ h1 (by decide),
      rd_wr_beside TR_ROT_STATE_SPARE TR_ROT_STATE_ROT_COUNT _ h (by decide)]
    rfl
  case retiring =>
    rw [rd_wr_beside TR_ROT_STATE_PHASE TR_ROT_STATE_RETIRING _ (h3 _) (by decide),
      rd_wr_beside TR_ROT_STATE_ROT_COUNT TR_ROT_STATE_RETIRING _ h2 (by decide),
      rd_wr_same _ TR_ROT_STATE_RETIRING _ h1 (by decide) (by decide)]
    rfl

/-- The tiles' STATE and STAGE are written in the tiles' own registers (R90). -/
theorem regsBut_tileStates {l : Nat → Prop} (hl : ∀ a, 0x48001000 ≤ a → l a) {s0 s : State} (h : RegsBut l s0 s) :
    RegsBut l s0 s.tileStates := by
  have htile (t : Nat) : l (TR_TILE_STAGE t).addr := hl _ (Nat.le_add_right _ _)
  refine regsBut_foldl (fun s t _ h => ?_) h
  have hstage := regsBut_wr (TR_TILE_STAGE t) ((s.tileStage t).getD 0xFF) h (htile t)
  exact regsBut_ite hstage (regsBut_wr (TR_TILE_STATE t) _ hstage (htile t))

/-- The end of a switch leaves TR_ROT_STATE. -/
theorem rotationSwitched_rd (s : State) (old spare : Nat) (f : RF) (hf : f.addr = TR_ROT_STATE.addr) :
    (s.rotationSwitched old spare).rd f = ((s.switchDated old spare).rotStateSwitched old).rd f := by
  have hlisted : ¬ (0x48001000 ≤ f.addr ∨ noteReg f.addr) := by
    rw [hf]
    unfold noteReg
    decide
  have hend (u : State) : RegsBut (fun a => 0x48001000 ≤ a ∨ noteReg a) u (u.tileStates.log 2 .rotationDone 0 [old]) :=
    regsBut_log (fun _ h => Or.inr h) _ _ _ _ (regsBut_tileStates (fun _ h => Or.inl h) (RegsBut.refl _ u))
  exact ((hend _).rd f hlisted).trans (onTr_rd _ _ _)

/-- Of Trellis a switch leaves, beside the stages taken up, the rotation's own record changed. -/
theorem rotationSwitched_tr (s : State) (old spare : Nat) : (s.rotationSwitched old spare).tr =
    { (s.switched old spare).tr with
      switchAt := some (s.switched old spare).frame, retiring := some old, lastSwitch := s.time, selftestDone := false,
      preloaded := false } := by
  have hend (u : State) : (u.tileStates.log 2 .rotationDone 0 [old]).tr = u.tr :=
    (log_frame (P := { regs := true, mg := true }) 2 .rotationDone 0 [old]
      (tileStates_frame (Frame.refl _ u) rfl) rfl rfl).tr rfl
  unfold State.rotationSwitched
  dsimp only
  rw [hend, onTr_tr, (rotStateSwitched_frame _ old).tr rfl, (rotStateSwitched_frame _ old).time rfl,
    (switchDated_frame s old spare).time rfl]
  rfl

/-! ### The end of the mirror -/

theorem execRotationMirrorStop_stops {c : Nat} (hc : s.tr.retiring = some c)
    (h : ∀ w, s.westOf c = some w → ∀ g ∈ s.stagesOn w, s.retireeDone (16 * g.1.row + c) = true) :
    execRotationMirrorStop s =
      .next ((s.onTr fun y => { y with retiring := none, switchAt := none }).wr TR_ROT_STATE_PHASE 1) := by
  unfold execRotationMirrorStop
  rw [hc]
  refine congrArg _ (if_pos (List.all_eq_true.mpr fun g hg => ?_))
  cases hw : s.westOf c with
  | none => rw [hw] at hg; cases hg
  | some w => rw [hw] at hg; exact h w hw g hg

end Sys2Proof.Machine
end

section
/-! The scrub of a tile's memories and the debug window (R87, R88, R90). -/

namespace Sys2Proof.Machine

variable {s : State}

theorem tileScrub_frame (n : Fin 128) (check : TileCheck) (s : State) :
    Answers tileFailParts s (exec (.tileScrub n check) s) :=
  execTileScrub_answers n check (Frame.refl _ s) rfl rfl rfl rfl rfl rfl rfl rfl rfl

theorem trDbgDataAccess_frame (access : DbgAccess) (s : State) :
    Answers tileFailParts s (exec (.trDbgDataAccess access) s) :=
  execTrDbgDataAccess_answers access (Frame.refl _ s) rfl rfl rfl rfl rfl rfl rfl rfl rfl

theorem execTileScrub_pass (n : Fin 128) (e : KwErr) (h : s.tileClocks = true) : execTileScrub n ⟨.pass, e⟩ s =
    .next ((s.setTile n { s.tile n with scrubbed := s.time }).tileEcc n e).scrubOwed := congrArg _ (if_pos h)

theorem execTileScrub_access (n : Fin 128) {p : EccAt} (e : KwErr) (h : s.tileClocks = true) (hp : p ≠ .pass) :
    execTileScrub n ⟨p, e⟩ s = .next (s.tileEcc n e) := by
  refine congrArg _ ((if_pos h).trans ?_)
  cases p with
  | pass => exact absurd rfl hp
  | fetch | matrix | send => rfl

/-! ### The debug window -/

theorem execTrDbgDataAccess_reads (s : State) (e : KwErr) : execTrDbgDataAccess ⟨none, e⟩ s = .next
    (((s.reply { body := leBytes 4 ((s.tile (s.rd TR_DBG_ADDR_TILE)).dbgRead (s.bit TR_DBG_ADDR_SPACE)
        (s.rd TR_DBG_ADDR_WORD)) }).tileEcc (s.rd TR_DBG_ADDR_TILE) e).wr TR_DBG_ADDR_WORD
      (s.rd TR_DBG_ADDR_WORD + 1)) := rfl

/-- A read whose check finds nothing leaves its reply alone beside the step of WORD. -/
theorem execTrDbgDataAccess_clean (s : State) : execTrDbgDataAccess ⟨none, .nil⟩ s = .next
    ((s.reply { body := leBytes 4 ((s.tile (s.rd TR_DBG_ADDR_TILE)).dbgRead (s.bit TR_DBG_ADDR_SPACE)
        (s.rd TR_DBG_ADDR_WORD)) }).wr TR_DBG_ADDR_WORD (s.rd TR_DBG_ADDR_WORD + 1)) := by
  rw [execTrDbgDataAccess_reads, tileEcc_ok rfl]

theorem execTrDbgDataAccess_writes (v : BitVec 32) (e : KwErr)
    (h : s.bit TR_CTRL_ENABLE = false ∨ s.rd (TR_TILE_STATE (s.rd TR_DBG_ADDR_TILE)) ≠ 1) :
    execTrDbgDataAccess ⟨some v, e⟩ s = .next
      ((s.setTile (s.rd TR_DBG_ADDR_TILE) ((s.tile (s.rd TR_DBG_ADDR_TILE)).dbgWrite (s.bit TR_DBG_ADDR_SPACE)
        (s.rd TR_DBG_ADDR_WORD) v.toNat)).wr TR_DBG_ADDR_WORD (s.rd TR_DBG_ADDR_WORD + 1)) := by
  refine congrArg (fun t : State => Host.Outcome.next (t.wr _ _)) (if_neg fun ⟨hen, hst⟩ => ?_)
  simp [hen, hst] at h

theorem execTrDbgDataAccess_withheld (v : BitVec 32) (e : KwErr) (hen : s.bit TR_CTRL_ENABLE = true)
    (hst : s.rd (TR_TILE_STATE (s.rd TR_DBG_ADDR_TILE)) = 1) :
    execTrDbgDataAccess ⟨some v, e⟩ s = .next (s.wr TR_DBG_ADDR_WORD (s.rd TR_DBG_ADDR_WORD + 1)) :=
  congrArg (fun t : State => Host.Outcome.next (t.wr _ _)) (if_pos ⟨hen, hst⟩)

/-- WORD moves on by one. -/
theorem dbgStep_word (u : State) (h : u.regsWf) :
    (u.wr TR_DBG_ADDR_WORD (s.rd TR_DBG_ADDR_WORD + 1)).rd TR_DBG_ADDR_WORD = (s.rd TR_DBG_ADDR_WORD + 1) % 2 ^ 19 :=
  rd_wr_same u TR_DBG_ADDR_WORD _ h (by decide) (by decide)

theorem dbgStep_regsBut {u : State} (n : Nat) (hu : u.regs = s.regs) :
    RegsBut (· = TR_DBG_ADDR_WORD.addr) s (u.wr TR_DBG_ADDR_WORD n) :=
  regsBut_wr _ _ (regsBut_same (RegsBut.refl _ s) hu) rfl

end Sys2Proof.Machine
end

section
/-! What the steps of a rotation, the scrub and the debug window answer. -/

namespace Sys2Proof.Machine

/-- Settles O22: each step that is due by its equation; the preload, the switch and the end of the mirror by what they
leave in TR_ROT_STATE, an access of the debug window by the step of WORD. -/
theorem trellisRotation : Obligations.TrellisRotation := by
  unfold Obligations.TrellisRotation
  refine ⟨?period, ?passes, ?fails, ?preload, ?capture, ?switch, ?stop, ?scrub, ?access, ?rotNow, ?dbgClean, ?dbgRead,
    ?dbgWrite, ?dbgWithheld⟩
  case period =>
    intro s ho hr hp ht
    exact answers_with (execRotationPeriodExpiry_answers (Frame.refl _ s) rfl) (execRotationPeriodExpiry_due ho hr hp ht)
      rfl
  case passes =>
    intro s ho hr hd hp ht
    exact answers_with (spareSelftestDone_frame none s) (execSpareSelftestDone_passes ho hr hd hp ht) rfl
  case fails =>
    intro s r ho hr hd hp ht
    exact answers_with (spareSelftestDone_frame (some r) s) (execSpareSelftestDone_fails ho hr hd hp ht r) rfl
  case preload =>
    intro s hs ho hr hd hp
    have hloaded := spareLoaded_frame s
    refine answers_with (execPreloadDone_answers (Frame.refl _ s) rfl rfl) (execPreloadDone_loads ho hr hd hp)
      ⟨rd_wr_same _ TR_ROT_STATE_PHASE 0 (hloaded.regsWf hs.regs) (by decide) (by decide),
        regsBut_wr _ _ (regsBut_same (RegsBut.refl _ s) (hloaded.regs rfl)) rfl, s.spareLoaded, rfl, rfl⟩
  case capture =>
    intro s ho hr hb hd hl hp
    exact answers_with (execRotationCaptureStart_answers (Frame.refl _ s) rfl rfl)
      (execRotationCaptureStart_captures ho hr hb hd hl hp rfl) ⟨_, rfl, rfl⟩
  case switch =>
    intro s k hs ho hr hp hk hf ht
    have htr := rotationSwitched_tr s (s.rd TR_ROT_STATE_RETIRING) (s.rd TR_ROT_STATE_SPARE)
    obtain ⟨hphase, hspare, hcount, hretiring⟩ :=
      rotStateSwitched_rds ((switchDated_frame s _ (s.rd TR_ROT_STATE_SPARE)).regsWf hs.regs)
        (rd_lt s TR_ROT_STATE_RETIRING)
    exact answers_with (execRotationSwitch_answers (Frame.refl _ s) rfl rfl rfl)
      (execRotationSwitch_switches ho hr hp hk hf ht)
      ⟨(rotationSwitched_rd s _ _ TR_ROT_STATE_PHASE rfl).trans hphase,
        (rotationSwitched_rd s _ _ TR_ROT_STATE_SPARE rfl).trans hspare, by rw [htr], by rw [htr], by rw [htr],
        by rw [htr], s.switched (s.rd TR_ROT_STATE_RETIRING) (s.rd TR_ROT_STATE_SPARE), rfl,
        (rotationSwitched_rd s _ _ TR_ROT_STATE_ROT_COUNT rfl).trans hcount,
        (rotationSwitched_rd s _ _ TR_ROT_STATE_RETIRING rfl).trans hretiring, by rw [htr]⟩
  case stop =>
    intro s c hc hs h
    exact answers_with (execRotationMirrorStop_answers (Frame.refl _ s) rfl rfl) (execRotationMirrorStop_stops hc h)
      ⟨rd_wr_same _ TR_ROT_STATE_PHASE 1 hs.regs (by decide) (by decide), rfl,
        regsBut_wr _ _ (regsBut_onTr _ (RegsBut.refl _ s)) rfl⟩
  case scrub =>
    intro s n e h
    exact answers_with (tileScrub_frame n _ s) (execTileScrub_pass n e h) rfl
  case access =>
    intro s n p e h hp
    exact answers_with (tileScrub_frame n _ s) (execTileScrub_access n e h hp) rfl
  case rotNow =>
    intro s hs
    exact answers_with (execTrRotNow_answers (Frame.refl _ s) rfl) rfl
      ⟨bit_putBit_same s TR_CTRL_ROT_NOW true hs.regs rfl (by decide), regsBut_wr _ _ (RegsBut.refl _ s) rfl⟩
  case dbgClean =>
    intro s hs hm
    have hreply (r : Reply) : Frame { mb := true } s (s.reply r) := reply_frame r (Frame.refl _ s) rfl
    exact answers_with (trDbgDataAccess_frame _ s) (execTrDbgDataAccess_clean s)
      ⟨reply_head _ hm, dbgStep_word _ ((hreply _).regsWf hs.regs), (hreply _).tr rfl,
        dbgStep_regsBut _ ((hreply _).regs rfl)⟩
  case dbgRead =>
    intro s e
    exact answers_with (trDbgDataAccess_frame _ s) (execTrDbgDataAccess_reads s e) ⟨_, rfl, rfl⟩
  case dbgWrite =>
    intro s v e hs h
    exact answers_with (trDbgDataAccess_frame _ s) (execTrDbgDataAccess_writes v e h)
      ⟨setTile_tr _ _ _, dbgStep_word _ hs.regs, dbgStep_regsBut _ rfl⟩
  case dbgWithheld =>
    intro s v e hen hst
    exact answers_with (trDbgDataAccess_frame _ s) (execTrDbgDataAccess_withheld v e hen hst) rfl

end Sys2Proof.Machine
end

section
/-! The load, the commit and the revert of a model through the mailbox (R140, R141, R147, R150). -/

namespace Sys2Proof.Machine

variable {s : State} {p : List Byte}

/-- A request whose work refuses it with a report is answered with the code and the report (R369). -/
theorem mailbox_reports {c : Cmd} {r : Res} (ht : Takes s c p) (hb : c.body s.asked p = r)
    (hk : r.code.accepted = false) :
    s.mailbox c p = r.st.answer r.code (s.asked.ksHeader r.code (tagOf p) 0 r.journal) r.out := by
  rw [mailbox_runs c s p ht.powered ht.size ht.version ht.length ht.role, runCmd_fresh c s.asked p ht.fresh,
    if_neg (by simp [ht.state]), hb, if_neg (by simp [hk])]

theorem modelLoadChunk_stores (hs : fieldLE p 8 1 < 16) (h0 : fieldLE p 12 8 % 64 = 0)
    (hl : fieldLE p 12 8 < 0x80000000) (he : fieldLE p 12 8 + (p.drop 20).length ≤ 0x80000000)
    (hc : s.lockedSlots.contains (fieldLE p 8 1) = false) : cmdModelLoadChunk.body s p =
      { st := s.ddrWrite (modelSlot (fieldLE p 8 1) + fieldLE p 12 8) (p.drop 20)
        out := leBytes 4 (p.drop 20).length } :=
  (if_neg (by omega)).trans (if_neg (Bool.eq_false_iff.mp hc))

/-! ### A commit opened -/

/-- The image that COMMIT_MODEL names, in the form and for the bunches that it asks for. -/
def State.imageAsked (s : State) (p : List Byte) : Image :=
  s.readImage (fieldLE p 8 1) (fieldLE p 9 1) (s.bunchesFor (fieldLE p 12 2))

/-- The commit that COMMIT_MODEL opens. -/
def State.commitAsked (s : State) (p : List Byte) : Commit :=
  { journal := s.mb.nextJournal, image := s.imageAsked p, form := fieldLE p 9 1
    bunches := s.bunchesFor (fieldLE p 12 2), step := 2, resume := bitOf (fieldLE p 10 1) 0, wasPredictive := false
    revert := false, fallback := false, step3At := s.time, digest := (p.drop 16).take 32, oldImage := s.tr.image
    oldPrevious := s.tr.previous }

/-- The commit that REVERT_MODEL opens for the previous image. -/
def State.revertAsked (s : State) (x : Image) : Commit :=
  { journal := s.mb.nextJournal, image := x, form := x.form, bunches := x.bunches, step := 3, resume := false
    wasPredictive := s.sys.mode == .predictive, revert := true, fallback := false, step3At := s.time
    digest := x.digest, oldImage := s.tr.image, oldPrevious := some x }

/-- A commit is opened under its journal: of the rest its journals and the twin link alone change. -/
theorem openCommit_journalled (s : State) (op tag : Nat) (c : Commit) :
    Frame { mb := true, tw := true } s ((s.openJournal op tag 8).journalStep c.journal 1) :=
  journalStep_frame _ _ (openJournal_frame _ _ _ (Frame.refl _ s) rfl rfl) rfl rfl

theorem openCommit_tr (s : State) (op tag : Nat) (c : Commit) :
    (s.openCommit op tag c).tr = { s.tr with commit := some c } :=
  congrArg (fun y : Tr => { y with commit := some c }) ((openCommit_journalled s op tag c).tr rfl)

theorem openCommit_regs (s : State) (op tag : Nat) (c : Commit) : (s.openCommit op tag c).regs = s.regs :=
  (openCommit_journalled s op tag c).regs rfl

section commit

variable (hc : s.tr.commit = none) (hs : fieldLE p 8 1 < 16) (hf : fieldLE p 9 1 < 3)
  (hh : s.headerOk (fieldLE p 8 1) = true)
include hc hs hf hh

theorem commitModel_opens {rot : Bool} (ha : s.admitForm (s.imageAsked p) (fieldLE p 9 1) s.frameCounts
      (s.bunchesFor (fieldLE p 12 2)) = some rot) : cmdCommitModel.body s p =
      { st := s.openCommit 0xC041 (tagOf p) (s.commitAsked p), journal := s.mb.nextJournal } :=
  (if_neg (by simp [hc])).trans ((if_neg (by omega)).trans ((if_neg (by simp [hh])).trans
    (if_neg (fun h => by rw [State.imageAsked] at ha; rw [ha] at h; cases h))))

theorem commitModel_reports (ha : s.admitForm (s.imageAsked p) (fieldLE p 9 1) s.frameCounts
      (s.bunchesFor (fieldLE p 12 2)) = none) : cmdCommitModel.body s p =
      { st := s, ks := .notFit, out := s.admReport (s.imageAsked p) (fieldLE p 9 1) s.frameCounts
          (s.bunchesFor (fieldLE p 12 2)) } :=
  (if_neg (by simp [hc])).trans ((if_neg (by omega)).trans ((if_neg (by simp [hh])).trans
    (if_pos (by rw [State.imageAsked] at ha; rw [ha]; rfl))))

end commit

theorem revertModel_opens {x : Image} (hc : s.tr.commit = none) (hx : s.tr.previous = some x) :
    cmdRevertModel.body s p =
      { st := ((s.openCommit 0xC042 (tagOf p) (s.revertAsked x)).journalStep s.mb.nextJournal 2).toReactive
        journal := s.mb.nextJournal } := by
  refine (if_neg (by simp [hc])).trans ?_
  rw [hx]
  rfl

end Sys2Proof.Machine
end

section
/-! The steps of a commit (R147 to R149): one equation for each event in its turn, and out of its turn. -/

namespace Sys2Proof.Machine

variable {s : State} {c : Commit}

/-- The parts that a step of a commit may touch which stops or loads Trellis. -/
def commitParts : Parts :=
  { regs := true, dic := true, mg := true, mb := true, le := true, tr := true, tw := true }

theorem commitDigestCheck_frame (s : State) : Answers tileFailParts s (exec .commitDigestCheck s) :=
  execCommitDigestCheck_answers (Frame.refl _ s) rfl rfl rfl rfl rfl rfl rfl rfl rfl

theorem commitTrellisStop_frame (s : State) : Answers commitParts s (exec .commitTrellisStop s) :=
  execCommitTrellisStop_answers (Frame.refl _ s) rfl rfl rfl rfl rfl rfl rfl

theorem commitLoadDone_frame (ok : Bool) (s : State) : Answers commitParts s (exec (.commitLoadDone ok) s) :=
  execCommitLoadDone_answers ok (Frame.refl _ s) rfl rfl rfl rfl rfl rfl rfl

theorem commitWarmDone_frame (s : State) : Answers { commitParts with sys := true } s (exec .commitWarmDone s) :=
  execCommitWarmDone_answers (Frame.refl _ s) rfl rfl rfl rfl rfl rfl rfl rfl

theorem readmissionDone_frame (s : State) : Answers commitParts s (exec .readmissionDone s) :=
  execReadmissionDone_answers (Frame.refl _ s) rfl rfl rfl rfl rfl rfl rfl

/-- A step done writes the journal, the log and a doorbell: neither Trellis nor the module state. -/
theorem commitStep_parts (s : State) (j n : Nat) :
    Frame { regs := true, dic := true, mg := true, mb := true, le := true, tw := true } s (s.commitStep j n) :=
  commitStep_frame j n (Frame.refl _ s) rfl rfl rfl rfl rfl rfl

/-! ### The digest (R148) -/

/-- A commit whose digest does not match has ended: none is left, and a lost model is readmitted. -/
def State.digestFailed (s : State) (j : Nat) : State :=
  ((s.onTr fun y => { y with
    commit := none, readmit := y.readmit || (y.image.isSome && !s.bit TR_STATUS_ADMITTED) }).journalEnd j .aborted 2).log
      2 .commitFailed 1 [2]

theorem digestFailed_tr (s : State) (j : Nat) : (s.digestFailed j).tr =
    { s.tr with commit := none, readmit := s.tr.readmit || (s.tr.image.isSome && !s.bit TR_STATUS_ADMITTED) } :=
  (log_frame (P := { regs := true, mg := true, mb := true, tw := true }) 2 .commitFailed 1 [2]
    (journalEnd_frame j .aborted 2 (Frame.refl _ _) rfl rfl) rfl rfl).tr rfl

theorem execCommitDigestCheck_aborts (hc : s.tr.commit = some c) (h2 : c.step = 2) (hr : c.revert = false)
    (hd : s.imageDigest c.image.slot ≠ c.digest) : execCommitDigestCheck s = .next (s.digestFailed c.journal) := by
  unfold execCommitDigestCheck
  rw [hc]
  exact congrArg _ ((if_pos h2).trans (if_pos ⟨hr, hd⟩))

theorem toReactive_time (s : State) : s.toReactive.time = s.time :=
  (toReactive_frame (P := tileFailParts) (Frame.refl _ s) rfl rfl rfl rfl rfl rfl rfl).time rfl

theorem toReactive_mode (h : s.sys.mode = .predictive) : s.toReactive.sys.mode = .reactive := by
  unfold State.toReactive
  dsimp only
  rw [if_pos (by simpa using h), setState_mode]

theorem execCommitDigestCheck_goesOn {u : State} (hc : s.tr.commit = some c) (h2 : c.step = 2)
    (h : c.revert = true ∨ s.imageDigest c.image.slot = c.digest) (hu : u = (s.commitStep c.journal 2).toReactive) :
    execCommitDigestCheck s = .next
      (u.onCommit fun c => { c with step := 3, wasPredictive := s.sys.mode == .predictive, step3At := s.time }) := by
  have hgood : ¬ (c.revert = false ∧ s.imageDigest c.image.slot ≠ c.digest) := by
    rintro ⟨hr, hd⟩
    simp [hr, hd] at h
  have htime : u.time = s.time := by rw [hu, toReactive_time, (commitStep_parts s c.journal 2).time rfl]
  unfold execCommitDigestCheck
  rw [hc]
  dsimp only
  rw [if_pos h2, if_neg hgood, ← hu, htime]

theorem execCommitDigestCheck_rests (h : s.tr.commit.any (fun c => c.step == 2) = false) :
    execCommitDigestCheck s = .next s := by
  unfold execCommitDigestCheck
  cases hc : s.tr.commit with
  | none => rfl
  | some c => exact congrArg _ (if_neg (by simpa [hc] using h))

/-! ### Trellis stopped (R148, R149) -/

/-- The new image in the old one's place, which becomes the previous one where the new is not of the same slot; step 4
begins as commit `d`. -/
def State.imageTaken (s : State) (c d : Commit) (same : Bool) : State :=
  State.commitStep (s.onTr fun y => { y with
    image := some c.image, previous := if same then y.previous else y.image, commit := some d }) c.journal 4

/-- A load begun, or the commit failed at step 5. -/
theorem loadBegun_eq (s : State) (d : Commit) :
    (match s.beginLoad d with
      | some t => t
      | none => (s.onCommit fun c => { c with step := 5 }).commitFail) =
      (s.beginLoad d).getD ((s.onCommit fun c => { c with step := 5 }).commitFail) := by
  cases s.beginLoad d <;> rfl

theorem sameSlot_eq (o : Option Image) (n : Nat) :
    (match o with
      | some x => x.slot == n
      | none => false) = o.any fun x => x.slot == n := by
  cases o <;> rfl

theorem execCommitTrellisStop_stops {u v : State} {d : Commit} (hc : s.tr.commit = some c) (h3 : c.step = 3)
    (hb : s.atBoundary = true) (hs : s.allSwitched = true ∨ c.step3At + msec 10 ≤ s.time)
    (hu : u = (s.commitStep c.journal 3).trStop.trUnadmit)
    (hd : d = { c with step := 4, oldImage := u.tr.image, oldPrevious := u.tr.previous })
    (hv : v = u.imageTaken c d (u.tr.image.any fun x => x.slot == c.image.slot)) :
    execCommitTrellisStop s =
      .next ((v.beginLoad d).getD ((v.onCommit fun c => { c with step := 5 }).commitFail)) := by
  rw [hv, ← sameSlot_eq, ← loadBegun_eq, hd, hu]
  unfold execCommitTrellisStop
  rw [hc]
  exact congrArg _ (if_pos ⟨h3, hb, hs⟩)

theorem execCommitTrellisStop_rests
    (h : s.tr.commit.any (fun c => c.step == 3 && (s.allSwitched || decide (c.step3At + msec 10 ≤ s.time))) = false ∨
      s.atBoundary = false) : execCommitTrellisStop s = .next s := by
  unfold execCommitTrellisStop
  cases hc : s.tr.commit with
  | none => rfl
  | some c =>
    refine congrArg _ (if_neg fun ⟨h3, hb, hs⟩ => ?_)
    rcases hs with hs | hs <;> simp [hc, h3, hb, hs] at h

/-! ### The load (R148, R149) -/

/-- The image loaded for a commit: the reload after a failure has no journal left. -/
def State.commitLoaded (s : State) (c : Commit) : State :=
  if c.fallback then s.loadImage else s.loadImage.commitStep c.journal 5

theorem execCommitLoadDone_loads (hc : s.tr.commit = some c) (h5 : c.step = 5) (hp : s.imagePoisoned = false) :
    execCommitLoadDone true s = .next ((s.commitLoaded c).onTr fun y =>
      { y with enableDue := true, commit := some { c with step := 6 } }) := by
  unfold execCommitLoadDone
  rw [hc]
  exact congrArg _ ((if_pos h5).trans (if_pos ⟨rfl, by simp [hp]⟩))

theorem execCommitLoadDone_fails {ok : Bool} (hc : s.tr.commit = some c) (h5 : c.step = 5)
    (h : ok = false ∨ s.imagePoisoned = true) : execCommitLoadDone ok s = .next s.commitFail := by
  unfold execCommitLoadDone
  rw [hc]
  refine congrArg _ ((if_pos h5).trans (if_neg fun ⟨hok, hp⟩ => ?_))
  simp [hok, hp] at h

theorem execCommitLoadDone_rests (ok : Bool) (h : s.tr.commit.any (fun c => c.step == 5) = false) :
    execCommitLoadDone ok s = .next s := by
  unfold execCommitLoadDone
  cases hc : s.tr.commit with
  | none => rfl
  | some c => exact congrArg _ (if_neg (by simpa [hc] using h))

/-! ### The enable and the warm-up (R147, R148) -/

theorem execCommitEnable_starts (hd : s.tr.enableDue = true) (hb : s.atBoundary = true) :
    execCommitEnable s = .next (s.onTr fun y => { y with enableDue := false }).trStart.trFrame :=
  congrArg _ (if_pos ⟨hd, hb⟩)

theorem execCommitEnable_rests (h : s.tr.enableDue = false ∨ s.atBoundary = false) :
    execCommitEnable s = .next s := by
  refine congrArg _ (if_neg fun ⟨hd, hb⟩ => ?_)
  simp [hd, hb] at h

/-- Steps 7 and 8 done, where the commit has a journal. -/
def State.commitEnded (s : State) (c : Commit) : State :=
  if c.fallback then s else (s.commitStep c.journal 7).commitStep c.journal 8

/-- PREDICTIVE asked for, where RESUME is set and the module was PREDICTIVE at step 3. -/
def State.predictiveAsked (s : State) (c : Commit) : State :=
  if c.resume ∧ c.wasPredictive then s.onSys fun y => { y with modeReq := some .predictive } else s

theorem execCommitWarmDone_ends (hc : s.tr.commit = some c) (h7 : c.step = 7) (hw : 8 ≤ s.tr.warmGood) :
    execCommitWarmDone s = .next (((s.commitEnded c).predictiveAsked c).onTr fun y => { y with commit := none }) := by
  unfold execCommitWarmDone
  rw [hc]
  exact congrArg _ (if_pos ⟨h7, hw⟩)

theorem execCommitWarmDone_rests (h : s.tr.commit.any (fun c => c.step == 7 && decide (8 ≤ s.tr.warmGood)) = false) :
    execCommitWarmDone s = .next s := by
  unfold execCommitWarmDone
  cases hc : s.tr.commit with
  | none => rfl
  | some c => exact congrArg _ (if_neg (by simpa [hc] using h))

theorem commitEnded_parts (s : State) (c : Commit) :
    Frame { regs := true, dic := true, mg := true, mb := true, le := true, tw := true } s (s.commitEnded c) :=
  frame_ite (Frame.refl _ s) (commitStep_frame _ _ (commitStep_parts s _ _) rfl rfl rfl rfl rfl rfl)

theorem predictiveAsked_tr (s : State) (c : Commit) : (s.predictiveAsked c).tr = s.tr := by
  unfold State.predictiveAsked
  split <;> rfl

theorem predictiveAsked_asks (s : State) (hr : c.resume = true) (hp : c.wasPredictive = true) :
    (s.predictiveAsked c).sys.modeReq = some .predictive := by
  unfold State.predictiveAsked
  rw [if_pos ⟨hr, hp⟩]
  rfl

theorem predictiveAsked_keeps (s : State) (h : c.resume = false ∨ c.wasPredictive = false) :
    s.predictiveAsked c = s := by
  refine if_neg fun ⟨hr, hp⟩ => ?_
  simp [hr, hp] at h

/-! ### The readmission (R84) -/

theorem execReadmissionDone_rests (h : s.tr.readmit = false) : execReadmissionDone s = .next s :=
  congrArg _ (if_neg (Bool.eq_false_iff.mp h))

theorem execReadmissionDone_without (h : s.tr.readmit = true) (hx : s.tr.image = none) :
    execReadmissionDone s = .next (s.onTr fun y => { y with readmit := false }) := by
  unfold execReadmissionDone
  rw [if_pos h, hx]

theorem execReadmissionDone_fits {x : Image} {rot : Bool} (h : s.tr.readmit = true) (hx : s.tr.image = some x)
    (ha : s.admitForm x 0 s.frameCounts x.bunches = some rot) : execReadmissionDone s = .next
      ((((s.onTr fun y => { y with readmit := false }).trForm x rot).loadImage.trStart).note 2 .readmission 1
        [if rot then 1 else 2] 128) := by
  unfold execReadmissionDone
  rw [if_pos h, hx]
  dsimp only
  rw [ha]

/-- A model that fits in no form: what becomes of it and of the commit that is open. -/
def State.readmitFailed (s : State) : State :=
  match s.tr.commit with
  | some c =>
    if c.step < 5 then s.unadmitted else (if c.fallback then s else s.journalEnd c.journal .failed c.step).noModel
  | none => s.noModel

theorem execReadmissionDone_unfit {x : Image} (h : s.tr.readmit = true) (hx : s.tr.image = some x)
    (ha : s.admitForm x 0 s.frameCounts x.bunches = none) : execReadmissionDone s = .next s.readmitFailed := by
  unfold execReadmissionDone
  rw [if_pos h, hx]
  dsimp only
  rw [ha]
  rfl

/-! ### Snapshots (R355, R387) -/

theorem execSnapshotWritten_writes {x : Snap}
    (h : (s.mb.snaps.find? fun x => x.latched.isSome && s.sys.mode != .survival) = some x) :
    execSnapshotWritten s = .next (s.writeSnap x) := by
  unfold execSnapshotWritten
  rw [h]

theorem execSnapshotWritten_rests
    (h : (s.mb.snaps.find? fun x => x.latched.isSome && s.sys.mode != .survival) = none) :
    execSnapshotWritten s = .next s := by
  unfold execSnapshotWritten
  rw [h]

end Sys2Proof.Machine
end

section
/-! What the commands of a model's load, commit, revert and readmission and of the snapshots answer. -/

namespace Sys2Proof.Machine

/-- Settles O30: a request by the equation of its work, each event by its equation in its turn and out of it. -/
theorem modelCommits : Obligations.ModelCommits := by
  unfold Obligations.ModelCommits
  refine ⟨?load, ?commit, ?revert, ?notFit, ?aborts, ?goesOn, ?digestRests, ?stops, ?loads, ?stopRests, ?loadFails,
    ?loadRests, ?enableRests, ?warmRests, ?readmitRests, ?readmitWithout, ?readmitUnfit, ?writeRests, ?enables, ?ends,
    ?readmits, ?latches, ?writes⟩
  case load =>
    intro s p ht hs h0 hl he hc
    exact replies (modelLoadChunk_frame p s) rfl ht (modelLoadChunk_stores hs h0 hl he hc) rfl
  case commit =>
    intro s p rot ht hc hs hf hh ha
    obtain ⟨t, ho, hframe, rfl⟩ := replies (commitModel_frame p s) rfl ht (commitModel_opens hc hs hf hh ha) rfl
    exact ⟨_, ho, hframe, _, s.asked.commitAsked p, rfl, openCommit_tr _ _ _ _, rfl, rfl, rfl, rfl, rfl,
      openCommit_regs _ _ _ _⟩
  case revert =>
    intro s p x ht hc hx
    obtain ⟨t, ho, hframe, rfl⟩ := replies (revertModel_frame p s) rfl ht (revertModel_opens hc hx) rfl
    exact ⟨_, ho, hframe, s.asked.revertAsked x, rfl, rfl, rfl, rfl, rfl, rfl⟩
  case notFit =>
    intro s p ht hc hs hf hh ha
    exact answers_with (commitModel_frame p s)
      (congrArg Host.Outcome.next (mailbox_reports ht (commitModel_reports hc hs hf hh ha) rfl)) rfl
  case aborts =>
    intro s c hc h2 hr hd
    exact answers_with (commitDigestCheck_frame s) (execCommitDigestCheck_aborts hc h2 hr hd) (digestFailed_tr _ _)
  case goesOn =>
    intro s c hc h2 h
    have hmode : (s.commitStep c.journal 2).sys.mode = s.sys.mode := by rw [(commitStep_parts s c.journal 2).sys rfl]
    exact answers_with (commitDigestCheck_frame s) (execCommitDigestCheck_goesOn hc h2 h rfl)
      ⟨_, rfl, rfl, fun hp => toReactive_mode (hmode.trans hp)⟩
  case digestRests =>
    intro s h
    exact answers_with (commitDigestCheck_frame s) (execCommitDigestCheck_rests h) rfl
  case stops =>
    intro s c hc h3 hb hs
    exact answers_with (commitTrellisStop_frame s) (execCommitTrellisStop_stops hc h3 hb hs rfl rfl rfl)
      ⟨_, _, _, rfl, rfl, rfl, rfl⟩
  case loads =>
    intro s c hc h5 hp
    exact answers_with (commitLoadDone_frame true s) (execCommitLoadDone_loads hc h5 hp) ⟨rfl, rfl⟩
  case stopRests =>
    intro s h
    exact answers_with (commitTrellisStop_frame s) (execCommitTrellisStop_rests h) rfl
  case loadFails =>
    intro s c ok hc h5 h
    exact answers_with (commitLoadDone_frame ok s) (execCommitLoadDone_fails hc h5 h) rfl
  case loadRests =>
    intro s ok h
    exact answers_with (commitLoadDone_frame ok s) (execCommitLoadDone_rests ok h) rfl
  case enableRests =>
    intro s h
    exact answers_with (execCommitEnable_answers (Frame.refl _ s) rfl rfl) (execCommitEnable_rests h) rfl
  case warmRests =>
    intro s h
    exact answers_with (commitWarmDone_frame s) (execCommitWarmDone_rests h) rfl
  case readmitRests =>
    intro s h
    exact answers_with (readmissionDone_frame s) (execReadmissionDone_rests h) rfl
  case readmitWithout =>
    intro s h hx
    exact answers_with (readmissionDone_frame s) (execReadmissionDone_without h hx) rfl
  case readmitUnfit =>
    intro s x h hx ha
    refine answers_with (readmissionDone_frame s) (execReadmissionDone_unfit h hx ha) ⟨fun hc => ?_, fun c hc => ?_⟩
    · rw [State.readmitFailed, hc]
    · rw [State.readmitFailed, hc]
  case writeRests =>
    intro s h
    exact answers_with (execSnapshotWritten_answers (Frame.refl _ s) rfl rfl rfl rfl) (execSnapshotWritten_rests h) rfl
  case enables =>
    intro s hd hb
    exact answers_with (execCommitEnable_answers (Frame.refl _ s) rfl rfl) (execCommitEnable_starts hd hb) rfl
  case ends =>
    intro s c hc h7 hw
    have hended := commitEnded_parts s c
    refine answers_with (commitWarmDone_frame s) (execCommitWarmDone_ends hc h7 hw) ⟨?_, fun hr hp => ?_, fun h => ?_⟩
    · rw [onTr_tr, predictiveAsked_tr, hended.tr rfl]
    · exact predictiveAsked_asks _ hr hp
    · rw [onTr_sys, predictiveAsked_keeps _ h, hended.sys rfl]
  case readmits =>
    intro s x rot h hx ha
    exact answers_with (readmissionDone_frame s) (execReadmissionDone_fits h hx ha) rfl
  case latches =>
    intro s
    exact answers_with (execSnapshotLatch_answers (Frame.refl _ s) rfl rfl) rfl rfl
  case writes =>
    intro s x h
    exact answers_with (execSnapshotWritten_answers (Frame.refl _ s) rfl rfl rfl rfl) (execSnapshotWritten_writes h) rfl

end Sys2Proof.Machine
end

section
/-! The slots of a tile (R91 to R93, R104 to R111): what a command runs that issues through one of the shared
operations, LOOP, a slot without an operation or with an illegal one, and the write of an accumulator. -/

namespace Sys2Proof.Machine

variable {s : State} {t op lat : Nat} {i : Instr}

/-! ### Results in registers -/

/-- A scalar operation that issues writes its value into s_D. -/
theorem runs_of_scalarOp {f : Nat → Tile → Nat} (ho : exec i s = .next (s.scalarOp t op lat f)) :
    Runs i s t 0 op fun w x => x.toS 0 lat (fD w) (f w x) := runs_of_issue ho

/-- A comparison or predicate operation that issues writes p_D one cycle later. -/
theorem runs_of_predOp {f : Nat → Tile → Bool} (ho : exec i s = .next (s.predOp t op f)) :
    Runs i s t 0 op fun w x => x.later 0 1 (.preg (fD w) (f w x)) := runs_of_issue ho

/-- A matrix operation that issues is taken by the matrix unit. -/
theorem runs_of_mxOp (ho : exec i s = .next (s.mxOp t op)) : Runs i s t 3 op fun w x => x.mxIssue w := runs_of_issue ho

/-- An accumulator operation that issues writes its lanes into v_D. -/
theorem runs_of_acOp {f : Nat → Tile → List Word} (ho : exec i s = .next (s.acOp t op lat f)) :
    Runs i s t 4 op fun w x => x.toV 4 lat (fD w) (f w x) := runs_of_issue ho

/-- A vector operation that issues writes its lanes into v_D. -/
theorem runs_of_vecOp {b : Bool} {f : Nat → Tile → List Word} (ho : exec i s = .next (s.vecOp t b op lat f)) :
    Runs i s t (vSlot b) op fun w x => x.toV (vSlot b) lat (fD w) (f w x) := runs_of_issue ho

/-- An integer sum or product that issues writes each lane as ISAT has it (R112). -/
theorem runs_of_vint {b : Bool} {g : Int → Int → Int}
    (ho : exec i s = .next (s.vecOp t b op lat fun w x => x.vint w g)) :
    Runs i s t (vSlot b) op fun w x =>
      x.toV (vSlot b) lat (fD w) (x.lanes2 w fun p q => int32Result x.isat (g p.toInt q.toInt)) := runs_of_vecOp ho

/-- A vector operation with one value for all lanes writes it into every lane of v_D. -/
theorem runs_of_spread {b : Bool} {f : Nat → Tile → Word}
    (ho : exec i s = .next (s.vecOp t b op lat fun w x => spread (f w x))) :
    Runs i s t (vSlot b) op fun w x => x.toV (vSlot b) lat (fD w) (List.replicate 32 (f w x)) := runs_of_vecOp ho

/-! ### LOOP (R98) -/

/-- LOOP counts s_A down and branches where it is not 0 then. -/
theorem loop_eq (w : Nat) (x : Tile) : Tile.loop w x =
    if (x.sreg (fA w) + (2 ^ 64 - 1)) % 2 ^ 64 = 0 then x.toS 0 1 (fA w) 0 else
      { x.toS 0 1 (fA w) ((x.sreg (fA w) + (2 ^ 64 - 1)) % 2 ^ 64) with branch := some (fTarget w, false) } := by
  unfold Tile.loop
  dsimp only
  split
  next h => rw [h]
  next => rfl

/-! ### Slots without a legal operation (R91, R92) -/

theorem execNop_marks {n : Fin 128} {slot : Fin 8} (hr : s.ready n slot = true)
    (h0 : opOf ((s.tile n).slotWord slot) = 0) :
    execNop n slot s = .next (s.setTile n ((s.tile n).mark slot)) := congrArg _ (if_pos ⟨hr, h0⟩)

theorem execIllegalOperation_marks {n : Fin 128} {slot : Fin 8} (hr : s.ready n slot = true)
    (h0 : opOf ((s.tile n).slotWord slot) ≠ 0) (hl : (s.tile n).legal slot ((s.tile n).slotWord slot) = false) :
    execIllegalOperation n slot s = .next (s.setTile n
      ((if (s.tile n).predHolds ((s.tile n).slotWord slot) = true then (s.tile n).ill else s.tile n).mark slot)) :=
  congrArg _ (if_pos ⟨hr, h0, hl⟩)

/-! ### The write of an accumulator (R109) -/

theorem execMmaResult_writes {n : Fin 128} {m : MxOp} (hr : s.tileRuns n = true) (hm : (s.tile n).mxDue = some m) :
    execMmaResult n s = .next (s.setTile n ((s.tile n).mxWrite m)) := by
  unfold execMmaResult
  rw [if_pos hr, hm]

end Sys2Proof.Machine
end

section
/-! What the operations of a tile's scalar, matrix, accumulator and vector slots answer. -/

namespace Sys2Proof.Machine

/-- Settles O14: each command is the model's scalar operation of its opcode, latency and value. -/
theorem tileScalarValues : Obligations.TileScalarValues := by
  unfold Obligations.TileScalarValues
  refine ⟨?add, ?sub, ?and, ?or, ?xor, ?shl, ?shr, ?sra, ?mul, ?min, ?max, ?addi, ?li, ?andi, ?movfm, ?vext⟩
  case add | sub | and | or | xor | shl | shr | sra | mul | min | max | addi | li | andi | movfm | vext =>
    intro s t
    exact runs_of_scalarOp rfl

/-- Settles O15: comparisons and predicate operations write p_D, the others issue with an effect of their own, and a slot
without a legal operation is marked, with ILL where an illegal one's predicate holds. -/
theorem tileScalarControl : Obligations.TileScalarControl := by
  unfold Obligations.TileScalarControl
  refine ⟨?cmp, ?cmpi, ?pand, ?por, ?pxor, ?pnot, ?movtm, ?br, ?loop, ?bri, ?halt, ?nop, ?illegal⟩
  case cmp | cmpi | pand | por | pxor | pnot =>
    intro s t
    exact runs_of_predOp rfl
  case movtm | br | bri | halt =>
    intro s t
    exact runs_of_issue rfl
  case loop =>
    intro s t
    rw [← funext₂ loop_eq]
    exact runs_of_issue rfl
  case nop =>
    intro s t slot hr h0
    exact answers_with (execNop_answers t slot (Frame.refl _ s) rfl) (execNop_marks hr h0) (setTile_tr _ _ _)
  case illegal =>
    intro s t slot hr h0 hl
    exact ⟨_, _, execIllegalOperation_marks hr h0 hl, setTile_frame _ _ (Frame.refl _ s) rfl, rfl, setTile_tr _ _ _⟩

/-- Settles O17: each matrix command is taken as the model's matrix unit takes it, each accumulator command writes v_D,
and the result that is due goes into its accumulator. -/
theorem tileMatrix : Obligations.TileMatrix := by
  unfold Obligations.TileMatrix
  refine ⟨?mmaI8, ?mmaI4, ?mmaBf, ?mmaMf8, ?mmaMf4, ?mmaMi8, ?mzero, ?drain, ?pack8, ?packbf, ?packm8, ?packm4,
    ?mmaResult⟩
  case mmaI8 | mmaI4 | mmaBf | mmaMf8 | mmaMf4 | mmaMi8 | mzero =>
    intro s t
    exact runs_of_mxOp rfl
  case drain | pack8 | packbf | packm8 | packm4 =>
    intro s t
    exact runs_of_acOp rfl
  case mmaResult =>
    intro s t m hr hm
    exact answers_with (execMmaResult_answers t (Frame.refl _ s) rfl) (execMmaResult_writes hr hm) (setTile_tr _ _ _)

/-- Settles O18: sums and products go by ISAT, VBC and VRSUM spread one value, VINS writes one lane and VANY a predicate;
every other operation writes the lanes of v_D. -/
theorem tileVectorIntegers : Obligations.TileVectorIntegers := by
  unfold Obligations.TileVectorIntegers
  refine ⟨?vadd, ?vsub, ?vmul, ?vmin, ?vmax, ?vand, ?vor, ?vxor, ?vshl, ?vshr, ?vsra, ?vcmp, ?vsel, ?vmov, ?vbc, ?vins,
    ?vperm, ?vany, ?vrsum⟩
  case vadd | vsub | vmul =>
    intro s t b
    exact runs_of_vint rfl
  case vmin | vmax | vand | vor | vxor | vshl | vshr | vsra | vcmp | vsel | vmov | vperm =>
    intro s t b
    exact runs_of_vecOp rfl
  case vbc | vrsum =>
    intro s t b
    exact runs_of_spread rfl
  case vins | vany =>
    intro s t b
    exact runs_of_issue rfl

/-- Settles O19: the sums and extrema across lanes spread one value; every other operation, conversion and lookup writes
the lanes of v_D. -/
theorem tileVectorFloats : Obligations.TileVectorFloats := by
  unfold Obligations.TileVectorFloats
  refine ⟨?fadd, ?fsub, ?fmul, ?fma, ?fmin, ?fmax, ?fabs, ?fneg, ?fcmp, ?frsum, ?frmax, ?frmin, ?cvtif, ?cvtfi, ?exp,
    ?tanh, ?sigm, ?rsqrt, ?rcp⟩
  case fadd | fsub | fmul | fma | fmin | fmax | fabs | fneg | fcmp | cvtif | cvtfi | exp | tanh | sigm | rsqrt | rcp =>
    intro s t b
    exact runs_of_vecOp rfl
  case frsum | frmax | frmin =>
    intro s t b
    exact runs_of_spread rfl

end Sys2Proof.Machine
end

section
/-! The bytes of DDR4 (R342, R344): what a range reads after a burst write, what it leaves beside its own bytes, and which
bursts stay poisoned. -/

namespace Sys2Proof.Machine

variable (s : State) (a : Nat)

theorem bytesAt_eq_map (n : Nat) : s.bytesAt a n = (List.range' a n).map s.byte := by
  induction n generalizing a with
  | zero => rfl
  | succ n ih => rw [State.bytesAt, ih, List.range'_succ, List.map_cons]

@[simp] theorem length_bytesAt (n : Nat) : (s.bytesAt a n).length = n := by simp [bytesAt_eq_map]

theorem byte_setBytes_outside (l : List Byte) {x : Nat} (h : ¬ (a ≤ x ∧ x < a + l.length)) :
    (s.setBytes a l).byte x = s.byte x := by
  induction l generalizing s a with
  | nil => rfl
  | cons b l ih =>
    rw [List.length_cons] at h
    calc ((s.setByte a b).setBytes (a + 1) l).byte x
      _ = (s.setByte a b).byte x := ih _ _ (by omega)
      _ = s.byte x := byte_setByte_ne s b (by omega)

/-- The bytes stored read back, at canonical bytes: each by its own write, as the writes after it lie above it. -/
theorem bytesAt_setBytes (l : List Byte) (h : Memory.wf s.mem) : (s.setBytes a l).bytesAt a l.length = l := by
  induction l generalizing s a with
  | nil => rfl
  | cons b l ih =>
    have hb : ((s.setByte a b).setBytes (a + 1) l).byte a = b :=
      (byte_setBytes_outside _ _ l (by omega)).trans (byte_setByte_same s a b h)
    exact congrArg₂ List.cons hb (ih _ _ (mem_tset_wf s.mem a b h))

@[simp] theorem byte_unpoison (n x : Nat) : (s.unpoison a n).byte x = s.byte x := rfl

@[simp] theorem bytesAt_unpoison (n x m : Nat) : (s.unpoison a n).bytesAt x m = s.bytesAt x m := by
  rw [bytesAt_eq_map, bytesAt_eq_map]
  rfl

theorem contains_poison_unpoison (n b : Nat) : (s.unpoison a n).ca.poison.contains b =
    (s.ca.poison.contains b && !(decide (a / 64 ≤ b) && decide (b * 64 < a + n))) := by
  rw [Bool.eq_iff_iff, Bool.and_eq_true, List.contains_iff_mem, List.contains_iff_mem]
  exact List.mem_filter

/-! ### A burst write -/

variable (l : List Byte)

theorem bytesAt_ddrWrite (h : Memory.wf s.mem) : (s.ddrWrite a l).bytesAt a l.length = l :=
  (bytesAt_unpoison _ a l.length a l.length).trans (bytesAt_setBytes s a l h)

theorem byte_ddrWrite_outside {x : Nat} (h : ¬ (a ≤ x ∧ x < a + l.length)) : (s.ddrWrite a l).byte x = s.byte x :=
  byte_setBytes_outside s a l h

theorem ddrWrite_regs : (s.ddrWrite a l).regs = s.regs :=
  (ddrWrite_frame (P := { mem := true, ca := true }) a l (Frame.refl _ s) rfl rfl).regs rfl

theorem contains_poison_ddrWrite (b : Nat) : (s.ddrWrite a l).ca.poison.contains b =
    (s.ca.poison.contains b && !(decide (a / 64 ≤ b) && decide (b * 64 < a + l.length))) := by
  have hca : (s.setBytes a l).ca = s.ca :=
    (setBytes_frame (P := { mem := true }) a l (Frame.refl _ s) rfl).ca rfl
  rw [State.ddrWrite, contains_poison_unpoison, hca]

end Sys2Proof.Machine
end

section
/-! The KW-144 code on a burst without errors (R343): its check finds nothing, and its bytes are delivered as stored. -/

namespace Sys2Proof.Machine

theorem kwBeats_zero : kwBeats 0#72 0#72 = 0#144 := by decide +kernel

theorem kwLeft_zero : kwLeft 0#144 = 0#128 := by decide +kernel

theorem kwBurst_nil : kwBurst [] = List.replicate 4 0#144 := by simp [kwBurst, upto, kwBeats_zero]

theorem kwCheck_replicate_zero (n : Nat) : kwCheck (List.replicate n 0#144) = .ok := by
  simp [kwCheck, kwDecode]

/-- A number's little-endian bytes are the bytes that it was read from. -/
theorem leBytes_leNat (l : List Byte) : leBytes l.length (leNat l) = l := by
  induction l with
  | nil => rfl
  | cons b l ih =>
    have hlow : BitVec.ofNat 8 (b.toNat + 256 * leNat l) = b := by
      apply BitVec.eq_of_toNat_eq
      rw [BitVec.toNat_ofNat]
      omega
    have hhigh : (b.toNat + 256 * leNat l) / 256 = leNat l := by omega
    rw [List.length_cons, leNat, leBytes, hlow, hhigh, ih]

theorem leBytes_fieldLE {l : List Byte} {k n : Nat} (h : k + n ≤ l.length) :
    leBytes n (fieldLE l k n) = (l.drop k).take n := by
  have hlen : ((l.drop k).take n).length = n := by rw [List.length_take, List.length_drop]; omega
  calc leBytes n (fieldLE l k n)
    _ = leBytes ((l.drop k).take n).length (leNat ((l.drop k).take n)) := by rw [hlen, fieldLE]
    _ = (l.drop k).take n := leBytes_leNat _

/-- The pieces of a list, `m` entries each, one after another. -/
theorem flatMap_pieces {α : Type} (l : List α) (m n : Nat) :
    ((upto n).flatMap fun k => (l.drop (m * k)).take m) = l.take (m * n) := by
  induction n with
  | zero => rfl
  | succ n ih =>
    calc ((upto (n + 1)).flatMap fun k => (l.drop (m * k)).take m)
      _ = ((upto n).flatMap fun k => (l.drop (m * k)).take m) ++ (l.drop (m * n)).take m := by
        simp [upto, List.range_succ]
      _ = l.take (m * (n + 1)) := by rw [ih, Nat.mul_succ, List.take_add]

theorem kwDeliver_replicate_zero {bs : List Byte} (h : bs.length = 64) :
    kwDeliver (List.replicate 4 0#144) bs = bs := by
  have hword : ∀ k ∈ upto 4, leBytes 16 (fieldLE bs (16 * k) 16 ^^^
      (kwLeft ((List.replicate 4 0#144).getD k 0#144)).toNat) = (bs.drop (16 * k)).take 16 := by
    intro k hk
    have hk4 : k < 4 := List.mem_range.mp hk
    rw [List.getD_replicate _ hk4, kwLeft_zero, BitVec.toNat_zero, Nat.xor_zero, leBytes_fieldLE (by omega)]
  calc kwDeliver (List.replicate 4 0#144) bs
    _ = (upto 4).flatMap fun k => (bs.drop (16 * k)).take 16 := List.flatMap_congr hword
    _ = bs.take 64 := flatMap_pieces bs 16 4
    _ = bs := List.take_of_length_le h.le

end Sys2Proof.Machine
end

section
/-! The host's reads and writes of the memory (R140, R342, R344, R348, R363). -/

namespace Sys2Proof.Machine

variable {s : State} {a : Nat}

/-! ### A read -/

/-- The parts that a host read may touch: the records of the errors it finds, and the reply. -/
def hdmReadParts : Parts := { regs := true, dic := true, mg := true, mb := true, le := true, ca := true }

theorem hdmRead_frame (s : State) (a : Nat) (e : BurstErr) : Answers hdmReadParts s (exec (.hdmRead a e) s) :=
  execHdmRead_answers a e (Frame.refl _ s) rfl rfl rfl rfl rfl rfl

theorem execHdmRead_unreachable (e : BurstErr) (h : s.hdmUp = false ∨ 0x7800000000 ≤ a) :
    execHdmRead a e s = .next (s.reply { rc := 1 }) := if_pos (h.imp_left Bool.eq_false_iff.mp)

section reachable

variable (hu : s.hdmUp = true) (ha : a < 0x7800000000)
include hu ha

theorem execHdmRead_reachable (e : BurstErr) : execHdmRead a e s =
    if s.sys.mode = .survival then .next (s.reply (hdmReply true (zeros 64)))
    else .next ((s.ddrRead a (kwCheck (kwBurst e))).reply
      (hdmReply (s.ddrBad a (kwCheck (kwBurst e))) (kwDeliver (kwBurst e) (s.bytesAt (a / 64 * 64) 64)))) :=
  if_neg (not_or.mpr ⟨not_not.mpr hu, ha.not_ge⟩)

theorem execHdmRead_survival (e : BurstErr) (hm : s.sys.mode = .survival) :
    execHdmRead a e s = .next (s.reply { rc := 2, body := zeros 64 }) :=
  (execHdmRead_reachable hu ha e).trans (if_pos hm)

theorem execHdmRead_delivers (e : BurstErr) (hm : s.sys.mode ≠ .survival) :
    execHdmRead a e s = .next ((s.ddrRead a (kwCheck (kwBurst e))).reply
      { rc := if s.ca.poison.contains (a / 64) = true ∨ kwCheck (kwBurst e) = .uncorrectable then 2 else 0,
        body := kwDeliver (kwBurst e) (s.bytesAt (a / 64 * 64) 64) }) := by
  rw [execHdmRead_reachable hu ha, if_neg hm]
  simp only [hdmReply, State.ddrBad, Bool.or_eq_true, beq_iff_eq]

/-- A burst without error or poison: the check finds nothing and the stored bytes are delivered. -/
theorem execHdmRead_clean (hm : s.sys.mode ≠ .survival) (hp : s.ca.poison.contains (a / 64) = false) :
    execHdmRead a [] s = .next (s.reply { rc := 0, body := s.bytesAt (a / 64 * 64) 64 }) := by
  have hread : s.ddrRead a .ok = s := if_neg (Bool.eq_false_iff.mp hp)
  have hgood : ¬ (s.ca.poison.contains (a / 64) = true ∨ Ecc.ok = .uncorrectable) :=
    not_or.mpr ⟨Bool.eq_false_iff.mp hp, Ecc.noConfusion⟩
  rw [execHdmRead_delivers hu ha _ hm, kwBurst_nil, kwCheck_replicate_zero, hread, if_neg hgood,
    kwDeliver_replicate_zero (length_bytesAt s _ 64)]

end reachable

/-! ### A write -/

/-- The parts that a host write may touch: the bytes, the poisoned bursts, the discard count and the log. -/
def hdmWriteParts : Parts := { regs := true, mem := true, mg := true, ca := true }

variable {l : List (BitVec 8)}

theorem hdmWrite_frame (s : State) (a : Nat) (l : List (BitVec 8)) :
    Answers hdmWriteParts s (exec (.hdmWrite a l) s) :=
  execHdmWrite_answers a l (Frame.refl _ s) rfl rfl rfl rfl

section inRange

variable (hu : s.hdmUp = true) (ha : a + l.length ≤ 0x7800000000)
include hu ha

theorem execHdmWrite_inRange : execHdmWrite a l s =
    if a < 0x7000000000 then .next (s.incSat CA_HDMWR_DISCARD)
    else if s.sys.mode = .survival then .next s
    else if s.lockedSlots.contains ((a - 0x7000000000) / 0x80000000) then
      .next (s.log 13 .slotConflict 0 [(a - 0x7000000000) / 0x80000000, a])
    else .next (s.ddrWrite a l) :=
  if_neg (not_or.mpr ⟨not_not.mpr hu, ha.not_gt⟩)

theorem execHdmWrite_below (hb : a < 0x7000000000) : execHdmWrite a l s = .next (s.incSat CA_HDMWR_DISCARD) :=
  (execHdmWrite_inRange hu ha).trans (if_pos hb)

variable (hb : 0x7000000000 ≤ a) (hm : s.sys.mode ≠ .survival)
include hb hm

theorem execHdmWrite_locked (hl : s.lockedSlots.contains ((a - 0x7000000000) / 0x80000000) = true) :
    execHdmWrite a l s = .next (s.log 13 .slotConflict 0 [(a - 0x7000000000) / 0x80000000, a]) := by
  rw [execHdmWrite_inRange hu ha, if_neg hb.not_gt, if_neg hm, if_pos hl]

theorem execHdmWrite_stores (hl : s.lockedSlots.contains ((a - 0x7000000000) / 0x80000000) = false) :
    execHdmWrite a l s = .next (s.ddrWrite a l) := by
  rw [execHdmWrite_inRange hu ha, if_neg hb.not_gt, if_neg hm, if_neg (Bool.eq_false_iff.mp hl)]

end inRange

theorem execHdmWrite_ignored (h : s.hdmUp = false ∨ 0x7800000000 < a + l.length ∨
    (0x7000000000 ≤ a ∧ s.sys.mode = .survival)) : execHdmWrite a l s = .next s := by
  by_cases hout : s.hdmUp = false ∨ 0x7800000000 < a + l.length
  · exact if_pos (hout.imp_left Bool.eq_false_iff.mp)
  · obtain ⟨hu, ha⟩ := not_or.mp hout
    obtain ⟨hb, hm⟩ := (h.resolve_left hu).resolve_left ha
    rw [execHdmWrite_inRange (Bool.eq_true_of_not_eq_false hu) (not_lt.mp ha), if_neg hb.not_gt, if_pos hm]

/-- Settles O44: the branches of the two commands, with the code's answer for a burst without errors and the laws of a
burst write. -/
theorem memoryAccesses : Obligations.MemoryAccesses := by
  unfold Obligations.MemoryAccesses
  refine ⟨?unreachable, ?survival, ?delivers, ?clean, ?ignored, ?discarded, ?locked, ?stores⟩
  case unreachable =>
    intro s a e h
    exact answers_with (hdmRead_frame s a e) (execHdmRead_unreachable e h) rfl
  case survival =>
    intro s a e hu ha hm
    exact answers_with (hdmRead_frame s a e) (execHdmRead_survival hu ha e hm) rfl
  case delivers =>
    rintro s a e _ hu ha hm rfl
    exact answers_with (hdmRead_frame s a e) (execHdmRead_delivers hu ha e hm) rfl
  case clean =>
    intro s a hu ha hm hp
    exact answers_with (hdmRead_frame s a []) (execHdmRead_clean hu ha hm hp) rfl
  case ignored =>
    intro s a l h
    exact answers_with (hdmWrite_frame s a l) (execHdmWrite_ignored h) rfl
  case discarded =>
    intro s a l hu ha hb
    exact answers_with (hdmWrite_frame s a l) (execHdmWrite_below hu ha hb) rfl
  case locked =>
    intro s a l hu ha hb hm hl
    exact answers_with (hdmWrite_frame s a l) (execHdmWrite_locked hu ha hb hm hl) rfl
  case stores =>
    intro s a l hs hu ha hb hm hl
    exact answers_with (hdmWrite_frame s a l) (execHdmWrite_stores hu ha hb hm hl)
      ⟨bytesAt_ddrWrite s a l hs.mem, ddrWrite_regs s a l, fun _ hx => byte_ddrWrite_outside s a l hx,
        contains_poison_ddrWrite s a l⟩

end Sys2Proof.Machine
end

section
/-! Fields of registers written one after another: a field that shares no bit with those written after it reads back what
was written to it. -/

namespace Sys2Proof.Machine

/-- Fields written one after another. -/
def State.writes (s : State) (l : List (RF × Nat)) : State := l.foldl (fun s w => s.wr w.1 w.2) s

/-- The bits of a 32-bit word that a field names. -/
def RF.Wf (f : RF) : Prop := f.hi < 32 ∧ f.lo ≤ f.hi

/-- Two fields that share no bit. -/
def RF.Apart (f g : RF) : Prop := g.addr ≠ f.addr ∨ f.hi < g.lo ∨ g.hi < f.lo

/-- A field that shares no bit with those written reads as before. -/
theorem rd_writes {s : State} (h : s.regsWf) {l : List (RF × Nat)} {g : RF} (hwf : ∀ w ∈ l, w.1.Wf)
    (hl : ∀ w ∈ l, w.1.Apart g) : (s.writes l).rd g = s.rd g := by
  induction l generalizing s with
  | nil => rfl
  | cons w l ih =>
    obtain ⟨⟨hh, hlo⟩, hwf⟩ := List.forall_mem_cons.mp hwf
    obtain ⟨hw, hl⟩ := List.forall_mem_cons.mp hl
    refine (ih (wr_regsWf s w.1 w.2 h) hwf hl).trans ?_
    by_cases ha : g.addr = w.1.addr
    · exact rd_wr_disjoint s w.1 g w.2 h hh (Nat.le_succ_of_le hlo) ha (hw.resolve_left (not_not_intro ha))
    · exact rd_wr_ne s w.1 g w.2 ha

/-- Fields that share no bit, written one after another, all read back what was written. -/
theorem rd_writes_mem {s : State} (h : s.regsWf) {l : List (RF × Nat)} (hwf : ∀ w ∈ l, w.1.Wf)
    (hl : l.Pairwise fun w x => x.1.Apart w.1) {f : RF} {v : Nat} (hm : (f, v) ∈ l) :
    (s.writes l).rd f = v % 2 ^ (f.hi + 1 - f.lo) := by
  induction l generalizing s with
  | nil => cases hm
  | cons w l ih =>
    obtain ⟨⟨hh, hlo⟩, hwfl⟩ := List.forall_mem_cons.mp hwf
    obtain ⟨hw, hl⟩ := List.pairwise_cons.mp hl
    have hs := wr_regsWf s w.1 w.2 h
    rcases List.mem_cons.mp hm with rfl | hm
    · exact (rd_writes hs hwfl hw).trans (rd_wr_same s f v h hh (Nat.le_succ_of_le hlo))
    · exact ih hs hwfl hl hm

/-- Bits that share no place, written one after another, all read back. -/
theorem bit_writes_mem {s : State} (h : s.regsWf) {l : List (RF × Nat)} (hwf : ∀ w ∈ l, w.1.Wf)
    (hl : l.Pairwise fun w x => x.1.Apart w.1) {f : RF} {b : Bool} (hf : f.lo = f.hi) (hm : (f, b2n b) ∈ l) :
    (s.writes l).bit f = b := by
  unfold State.bit
  rw [rd_writes_mem h hwf hl hm, hf, Nat.add_sub_cancel_left]
  cases b <;> rfl

/-- A register that reads 0 as a word reads 0 in every field. -/
theorem rd_of_word_zero {s : State} {f : RF} (g : RF) (hh : f.hi = 31) (hl : f.lo = 0) (ha : g.addr = f.addr)
    (h : s.rd f = 0) : s.rd g = 0 := by
  have hw : s.word f.addr = 0 := by
    have := word_lt s f.addr
    unfold State.rd bitsOf at h
    rw [hh, hl] at h
    omega
  unfold State.rd
  rw [ha, hw]
  simp [bitsOf]

end Sys2Proof.Machine
end


section
/-! SET_MODE, and the replies of QUERY_PROGRESS, TWIN_STATUS, READ_LOG and ATTEST (R376, R385, R386, R393, R400, R402):
the equation of each command's work in the cases that it accepts. -/

namespace Sys2Proof.Machine

/-! ### What a request leaves before its work (R303, R366) -/

theorem asked_frameOf (s : State) : Frame { regs := true, dic := true, mb := true, le := true } s s.asked :=
  atMailbox_frame (Frame.refl _ s) rfl rfl rfl rfl

theorem asked_time (s : State) : s.asked.time = s.time := (asked_frameOf s).time rfl

theorem asked_mg (s : State) : s.asked.mg = s.mg := (asked_frameOf s).mg rfl

theorem asked_frame (s : State) : s.asked.frame = s.frame :=
  (asked_regsBut s).rd64 LE_FRAME_NUM_LO (by simp [noteReg, LE_FRAME_NUM_LO]) (by simp [noteReg, LE_FRAME_NUM_LO])

theorem asked_nextFrame (s : State) : s.asked.nextFrame = s.frame + 1 := congrArg (· + 1) (asked_frame s)

theorem asked_logAll (s : State) : s.asked.logAll = s.logAll := by
  unfold State.logAll
  rw [asked_mg]

theorem asked_signIndex (s : State) : s.asked.signIndex = s.signIndex := by
  unfold State.signIndex
  rw [asked_mg]

variable {s : State} {p : List Byte}

/-! ### SET_MODE (R376, R423) -/

/-- A mode that the present state lets be asked for, with no time, waits for the next frame boundary. -/
theorem setMode_asks {code : Nat} {m : ModState} (hc : fieldLE p 8 1 = code) (hm : modeOfCode code = some m)
    (ht : fieldLE p 12 8 = 0) (ha : s.modeAllowed m = true) : cmdSetMode.body s p =
      { st := s.onSys fun y => { y with modeReq := some m }, out := leBytes 8 s.nextFrame } := by
  refine (if_neg (hc ▸ modeOfCode_ne_reset hm)).trans ?_
  rw [hc, hm]
  exact (if_neg (by simp [ha])).trans (if_neg (not_not_intro ht))

/-- A SET_MODE command that is allowed replies with the number of the next frame. -/
theorem setMode_replies {code : Nat} {m : ModState} {o : Host.Outcome State Fault Refusal} (hf : Answers mailParts s o)
    (ho : o = .next (s.mailbox cmdSetMode p)) (hm : modeOfCode code = some m) (ht : Takes s cmdSetMode p)
    (hc : fieldLE p 8 1 = code) (h0 : fieldLE p 12 8 = 0) (ha : s.asked.modeAllowed m = true) :
    ∃ t, o = .next t ∧ Frame mailParts s t ∧ t = s.replied cmdSetMode p
      { st := s.asked.onSys fun y => { y with modeReq := some m }, out := leBytes 8 (s.frame + 1) } :=
  replies hf ho ht ((setMode_asks hc hm h0 ha).trans (by rw [asked_nextFrame])) rfl

theorem setModeReset_schedules (hc : fieldLE p 8 1 = 0xFF)
    (hm : s.sys.mode = .table ∨ s.sys.mode = .hold ∨ s.sys.mode = .service) (h1 : s.time + msec 10 ≤ fieldLE p 12 8)
    (h2 : fieldLE p 12 8 ≤ s.time + secs 60) :
    cmdSetMode.body s p = { st := s.scheduleReset (fieldLE p 12 8) } :=
  (if_pos hc).trans ((if_neg (not_not_intro hm)).trans
    ((if_neg (Nat.not_lt.mpr h1)).trans (if_neg (Nat.not_lt.mpr h2))))

/-! ### QUERY_PROGRESS (R386) -/

theorem queryProgress_frame (p : List (BitVec 8)) (s : State) : Answers mailParts s (exec (.queryProgress p) s) :=
  execQueryProgress_answers p (Frame.refl _ s) rfl rfl rfl rfl rfl rfl

theorem queryProgress_found {j : Journal}
    (h : ((if bitOf (fieldLE p 10 1) 1 then s.mb.former else s.mb.journals).find? fun j =>
      if bitOf (fieldLE p 10 1) 0 then j.tag == fieldLE p 12 4 else j.idx == fieldLE p 8 2) = some j) :
    cmdQueryProgress.body s p = { st := s, out := j.bytes } := by
  unfold cmdQueryProgress
  dsimp only
  rw [h]

theorem queryProgress_missing
    (h : ((if bitOf (fieldLE p 10 1) 1 then s.mb.former else s.mb.journals).find? fun j =>
      if bitOf (fieldLE p 10 1) 0 then j.tag == fieldLE p 12 4 else j.idx == fieldLE p 8 2) = none) :
    cmdQueryProgress.body s p = { st := s, out := noJournal (fieldLE p 8 2) (fieldLE p 12 4) } := by
  unfold cmdQueryProgress
  dsimp only
  rw [h]

/-! ### READ_LOG (R393) -/

theorem readLog_frame (p : List (BitVec 8)) (s : State) :
    Answers { mailParts with mg := true } s (exec (.readLog p) s) :=
  execReadLog_answers p (Frame.refl _ s) rfl rfl rfl rfl rfl rfl rfl

/-- The records before the start taken as read, where FLAGS bit 0 asks for it. -/
def State.logTaken (s : State) (p : List Byte) : State :=
  if bitOf (fieldLE p 18 1) 0 then (s.onMg fun y => { y with readMark := fieldLE p 8 8 - 1 }).logMark else s

/-- The records from the start asked for, as many as asked for. -/
def State.logFrom (s : State) (p : List Byte) : List LogRec :=
  (s.logAll.filter fun r => decide (fieldLE p 8 8 ≤ r.seq)).take (fieldLE p 16 2)

/-- The head of the reply: the first record's number, and the gap flag where the log begins after the start. -/
def State.logHead (s : State) (p : List Byte) : List Byte :=
  leBytes 8 (((s.logFrom p).head?.map (·.seq)).getD (fieldLE p 8 8)) ++
    leBytes 2 (b2n (s.logAll.head?.any fun r => decide (fieldLE p 8 8 < r.seq))) ++ zeros 6

section readLog

variable (h0 : fieldLE p 16 2 ≠ 0) (hn : fieldLE p 16 2 ≤ 16384)
include h0 hn

theorem readLog_catalogue (hc : bitOf (fieldLE p 18 1) 1 = true) : cmdReadLog.body s p =
    { st := s.logTaken p, out := leBytes 8 (fieldLE p 8 8) ++ zeros 8 ++ Config.catalog } :=
  (if_neg (by omega)).trans (if_pos hc)

variable (hc : bitOf (fieldLE p 18 1) 1 = false)
include hc

theorem readLog_fits (hl : ((s.logFrom p).drop 16383).head? = none) : cmdReadLog.body s p =
    { st := s.logTaken p, out := s.logHead p ++ (s.logFrom p).flatMap LogRec.bytes } := by
  refine (if_neg (by omega)).trans ((if_neg (by simp [hc])).trans ?_)
  unfold State.logHead
  unfold State.logFrom at hl ⊢
  dsimp only [Nat.reduceSub, Nat.reduceDiv]
  rw [hl]
  cases s.logAll.head? <;> rfl

theorem readLog_part {r : LogRec} (hl : ((s.logFrom p).drop 16383).head? = some r) : cmdReadLog.body s p =
    { st := s.logTaken p, ks := .part
      out := s.logHead p ++ ((s.logFrom p).take 16383).flatMap LogRec.bytes ++ leBytes 8 r.seq } := by
  refine (if_neg (by omega)).trans ((if_neg (by simp [hc])).trans ?_)
  unfold State.logHead
  unfold State.logFrom at hl ⊢
  dsimp only [Nat.reduceSub, Nat.reduceDiv]
  rw [hl]
  cases s.logAll.head? <;> rfl

end readLog

/-! ### ATTEST (R400 to R402) -/

theorem attest_answers (p : List (BitVec 8)) (s : State) :
    Answers { mailParts with mg := true } s (exec (.attest p) s) :=
  execAttest_answers p (Frame.refl _ s) rfl rfl rfl rfl rfl rfl rfl

/-- No date lies within a span `d` of the present, where the date kept lies at least as far back. -/
theorem none_within {x : Option Nat} {d n : Nat} (h : ∀ t0, x = some t0 → t0 + d ≤ n) :
    x.any (fun t => decide (n < t + d)) = false := by
  cases x with
  | none => rfl
  | some t0 => exact decide_eq_false (Nat.not_lt.mpr (h t0 rfl))

/-- The work of ATTEST: the next index recorded in both areas, and the report signed with the index before. -/
theorem attest_signs (h : ∀ t0, s.mg.lastSign = some t0 → t0 + secs 1 ≤ s.time) (hi : s.signIndex < 2 ^ 30) :
    cmdAttest.body s p =
      { st := s.onMg fun y => { y with
          idxA := s.signIndex + 1, idxB := s.signIndex + 1, lastSign := some s.time }
        out := s.report ((p.drop 8).take 32) s.signIndex ++
          padTo 5396 (Config.hssSign s.signIndex (s.report ((p.drop 8).take 32) s.signIndex)) ++
            leBytes 2 (Config.deviceCert s.mg.serial).length ++ Config.deviceCert s.mg.serial } :=
  (if_neg (Bool.eq_false_iff.mp (none_within h))).trans (if_neg (Nat.not_le.mpr hi))

end Sys2Proof.Machine
end

section
/-! What SET_MODE, QUERY_PROGRESS, TWIN_STATUS, READ_LOG and ATTEST reply. -/

namespace Sys2Proof.Machine

/-- Settles O26: a request that passes its checks is replied to with its work, by the equation of that work. -/
theorem mailboxModes : Obligations.MailboxModes := by
  unfold Obligations.MailboxModes
  refine ⟨?table, ?reactive, ?predictive, ?hold, ?service, ?reset, ?found, ?missing, ?twin, ?records, ?catalogue,
    ?attest⟩
  case table =>
    intro s p
    exact setMode_replies (setModeTable_frame p s) rfl rfl
  case reactive =>
    intro s p
    exact setMode_replies (setModeReactive_frame p s) rfl rfl
  case predictive =>
    intro s p
    exact setMode_replies (setModePredictive_frame p s) rfl rfl
  case hold =>
    intro s p
    exact setMode_replies (setModeHold_frame p s) rfl rfl
  case service =>
    intro s p
    exact setMode_replies (setModeService_frame p s) rfl rfl
  case reset =>
    intro s p ht hc hm h1 h2
    exact replies (setModeReset_frame p s) rfl ht
      (setModeReset_schedules hc (by rwa [asked_sys]) (by rwa [asked_time]) (by rwa [asked_time])) rfl
  case found =>
    intro s p j ht h
    exact replies (queryProgress_frame p s) rfl ht (queryProgress_found (by rwa [asked_mb])) rfl
  case missing =>
    intro s p ht h
    exact replies (queryProgress_frame p s) rfl ht (queryProgress_missing (by rwa [asked_mb])) rfl
  case twin =>
    intro s p ht
    exact replies (execTwinStatus_answers p (Frame.refl _ s) rfl rfl rfl rfl rfl rfl) rfl ht rfl rfl
  case records =>
    rintro s _ p ht h0 hn hc rfl
    have hl : s.asked.logFrom p = s.logFrom p := by
      unfold State.logFrom
      rw [asked_logAll]
    have hh : s.asked.logHead p = s.logHead p := by
      unfold State.logHead
      rw [hl, asked_logAll]
    cases hd : ((s.logFrom p).drop 16383).head? with
    | none =>
      obtain ⟨t, ho, hframe, ht⟩ := replies (readLog_frame p s) rfl ht (readLog_fits h0 hn hc (by rwa [hl])) rfl
      rw [hl, hh] at ht
      exact ⟨t, ho, hframe, _, _, rfl, rfl, fun _ => ht, 
        fun r hr => absurd (hr.symm.trans hd) (Option.some_ne_none r)⟩
    | some r =>
      obtain ⟨t, ho, hframe, ht⟩ := replies (readLog_frame p s) rfl ht (readLog_part h0 hn hc (by rwa [hl])) rfl
      rw [hl, hh] at ht
      exact ⟨t, ho, hframe, _, _, rfl, rfl, fun hnone => absurd (hd.symm.trans hnone) (Option.some_ne_none r),
        fun q hq => Option.some.inj (hd.symm.trans hq) ▸ ht⟩
  case catalogue =>
    rintro s _ p ht h0 hn hc rfl
    exact replies (readLog_frame p s) rfl ht (readLog_catalogue h0 hn hc) rfl
  case attest =>
    intro s p ht h hi
    obtain ⟨t, ho, hframe, ht⟩ := replies (attest_answers p s) rfl ht
      (attest_signs (by rwa [asked_mg, asked_time]) (by rwa [asked_signIndex])) rfl
    rw [asked_signIndex, asked_mg, asked_time] at ht
    exact ⟨t, ho, hframe, ht⟩

end Sys2Proof.Machine
end

section
/-! The mailbox commands for contexts, budgets, leases, configuration, loops and tables (R39, R152 to R156, R167, R188,
R377, R381, R382, R384): the equation of each command's work in the cases that it accepts. -/

namespace Sys2Proof.Machine

variable {s : State} {p : List Byte}

/-! ### CONTEXT_ADD and CONTEXT_REMOVE (R154, R155) -/

theorem contextAdd_adds (hc : (addReq p).ctx < 4096) (hg : (addReq p).group < 64) (ha : (addReq p).addr % 64 = 0)
    (hv : s.bit (PB_CFG_VALID (addReq p).ctx) = false)
    (hf : s.bit TR_STATUS_ADMITTED = false ∨ (addReq p).ctx / 32 < s.rd TR_ADMIT) : cmdContextAdd.body s p =
      { st := s.addContext (addReq p).fix, clamps := (addReq p).clamps
        out := leBytes 8 (s.frame + 1) ++ leBytes 4 ((s.addContext (addReq p).fix).rd (VQ_CR_GEN (addReq p).ctx)) ++
          leBytes 4 ((s.addContext (addReq p).fix).rd (VQ_CR_QUOTA (addReq p).ctx)) } := by
  refine (if_neg (by omega)).trans ((if_neg (by simp [hv])).trans (if_neg ?_))
  rintro ⟨hadm, hfew⟩
  rcases hf with hf | hf
  · cases hf.symm.trans hadm
  · exact absurd hf (Nat.not_lt.mpr hfew)

theorem contextRemove_releases (hc : fieldLE p 8 2 < 4096) (hv : s.bit (PB_CFG_VALID (fieldLE p 8 2)) = true) :
    cmdContextRemove.body s p =
      { st := ((s.setPbCtx (fieldLE p 8 2) { s.pbCtx (fieldLE p 8 2) with admitDue := false }).queueRec (fieldLE p 8 2)
          .release (s.rd (PB_BUDGET_FALLBACK (fieldLE p 8 2)))).putBit (PB_STATUS_RELEASING (fieldLE p 8 2)) true } :=
  (if_neg (Nat.not_le.mpr hc)).trans (if_neg (not_not_intro hv))

/-! ### The entry of a new context (R152) -/

/-- What CONTEXT_ADD writes, in its order. -/
def entryWrites (q : AddReq) : List (RF × Nat) :=
  [(PB_ADDR_LO_ADDR q.ctx, q.addr / 64), (PB_ADDR_HI q.ctx, q.addr / 2 ^ 32), (PB_CFG_GROUP q.ctx, q.group),
    (PB_CFG_PRIORITY q.ctx, q.prio), (PB_LEASE q.ctx, q.lease), (PB_BUDGET_BUDGET q.ctx, q.budget),
    (PB_BUDGET_FALLBACK q.ctx, q.fallback), (PB_CAP q.ctx, 0), (⟨(PB_APPLIED_EPOCH_LO q.ctx).addr, 31, 0⟩, 0),
    (⟨(PB_APPLIED_EPOCH_LO q.ctx).addr + 4, 31, 0⟩, 0), (⟨(PB_CONFIRMED_EPOCH_LO q.ctx).addr, 31, 0⟩, 0),
    (⟨(PB_CONFIRMED_EPOCH_LO q.ctx).addr + 4, 31, 0⟩, 0), (⟨(PB_LAST_SENT_LO q.ctx).addr, 31, 0⟩, 0),
    (⟨(PB_LAST_SENT_LO q.ctx).addr + 4, 31, 0⟩, 0), (PB_STATUS q.ctx, 0), (PB_ERRORS q.ctx, 0), (PB_CFG_VALID q.ctx, 1)]

theorem putEntry_eq (s : State) (q : AddReq) : s.putEntry q = s.writes (entryWrites q) := rfl

theorem entryWrites_wf (q : AddReq) : ∀ w ∈ entryWrites q, w.1.Wf := by
  simp [entryWrites, RF.Wf, PB_ADDR_LO_ADDR, PB_ADDR_HI, PB_CFG_GROUP, PB_CFG_PRIORITY, PB_LEASE, PB_BUDGET_BUDGET,
    PB_BUDGET_FALLBACK, PB_CAP, PB_STATUS, PB_ERRORS, PB_CFG_VALID]

/-- No two fields of the entry share a bit. -/
theorem entryWrites_apart (q : AddReq) : (entryWrites q).Pairwise fun w x => x.1.Apart w.1 := by
  simp [entryWrites, RF.Apart, PB_ADDR_LO_ADDR, PB_ADDR_HI, PB_CFG_GROUP, PB_CFG_PRIORITY, PB_LEASE, PB_BUDGET_BUDGET,
    PB_BUDGET_FALLBACK, PB_CAP, PB_APPLIED_EPOCH_LO, PB_CONFIRMED_EPOCH_LO, PB_LAST_SENT_LO, PB_STATUS, PB_ERRORS,
    PB_CFG_VALID, Nat.add_right_comm _ (q.ctx * 64) 4]

/-- A field of the entry reads what was written to it. -/
theorem rd_putEntry {s : State} (h : s.regsWf) {q : AddReq} {f : RF} {v : Nat} (hm : (f, v) ∈ entryWrites q) :
    (s.putEntry q).rd f = v % 2 ^ (f.hi + 1 - f.lo) := by
  rw [putEntry_eq]
  exact rd_writes_mem h (entryWrites_wf q) (entryWrites_apart q) hm

theorem putEntry_reads {s : State} (h : s.regsWf) {q : AddReq} (hp : q.prio < 4) (hb : q.budget < 4096)
    (hl : q.lease < 2 ^ 14) :
    (s.putEntry q).bit (PB_CFG_VALID q.ctx) = true ∧ (s.putEntry q).rd (PB_CFG_PRIORITY q.ctx) = q.prio ∧
    (s.putEntry q).rd (PB_BUDGET_BUDGET q.ctx) = q.budget ∧ (s.putEntry q).rd (PB_LEASE q.ctx) = q.lease ∧
    (s.putEntry q).rd (PB_CAP_GRANT q.ctx) = 0 ∧ (s.putEntry q).rd (PB_STATUS q.ctx) = 0 := by
  have hvalid : (s.putEntry q).bit (PB_CFG_VALID q.ctx) = true := by
    rw [putEntry_eq]
    exact bit_writes_mem h (entryWrites_wf q) (entryWrites_apart q) rfl (by simp [entryWrites, b2n])
  have hprio := rd_putEntry (q := q) (f := PB_CFG_PRIORITY q.ctx) (v := q.prio) h (by simp [entryWrites])
  have hbudget := rd_putEntry (q := q) (f := PB_BUDGET_BUDGET q.ctx) (v := q.budget) h (by simp [entryWrites])
  have hlease := rd_putEntry (q := q) (f := PB_LEASE q.ctx) (v := q.lease) h (by simp [entryWrites])
  have hcap := rd_putEntry (q := q) (f := PB_CAP q.ctx) (v := 0) h (by simp [entryWrites])
  have hstatus := rd_putEntry (q := q) (f := PB_STATUS q.ctx) (v := 0) h (by simp [entryWrites])
  exact ⟨hvalid, hprio.trans (Nat.mod_eq_of_lt hp), hbudget.trans (Nat.mod_eq_of_lt hb),
    hlease.trans (Nat.mod_eq_of_lt hl), rd_of_word_zero (f := PB_CAP q.ctx) _ rfl rfl rfl (hcap.trans (Nat.zero_mod _)),
    hstatus.trans (Nat.zero_mod _)⟩

/-! ### SET_BUDGET and SET_LEASE (R156, R162, R167, R382) -/

/-- The changes that a SET_BUDGET asks for, with their clamps. -/
def State.budgetFixes (s : State) (p : List Byte) : List (BudgetChange × List ClampRec) :=
  (upto (fieldLE p 8 4)).map fun i => s.budgetFix (budgetReq p i)

/-- The journal of a SET_BUDGET opened with its step 1 done, and the changes kept for the next boundary. -/
def State.budgetKept (s : State) (p : List Byte) : State :=
  ((((s.openJournal 0xC030 (tagOf p) 4).journalStep s.mb.nextJournal 1).onPb fun y => { y with
      changes := y.changes ++ (s.budgetFixes p).map (·.1) }).onMb fun y => { y with
    budgetJobs := y.budgetJobs ++
      [{ journal := s.mb.nextJournal
         ceilings := (((s.budgetFixes p).map (·.1)).flatMap s.entryCeilings).eraseDups
         frame := s.nextFrame, waiting := [], sentAt := [], sent := [] }] })

theorem setBudget_keeps (h : ∀ i, i < fieldLE p 8 4 → s.budgetBad (budgetReq p i) = none) :
    cmdSetBudget.body s p =
      { st := s.budgetKept p, clamps := (s.budgetFixes p).flatMap (·.2), journal := s.mb.nextJournal
        out := leBytes 8 s.nextFrame ++ leBytes 4 (s.changesTc ((s.budgetFixes p).map (·.1))) } := by
  have hgood : (((upto (fieldLE p 8 4)).map (budgetReq p)).filterMap s.budgetBad).head? = none := by
    rw [List.head?_eq_none_iff, List.filterMap_eq_nil_iff]
    intro q hq
    obtain ⟨i, hi, rfl⟩ := List.mem_map.mp hq
    exact h i (List.mem_range.mp hi)
  have hfix : ((upto (fieldLE p 8 4)).map (budgetReq p)).map s.budgetFix = s.budgetFixes p := List.map_map
  unfold cmdSetBudget setBudgetBody
  dsimp only
  rw [hgood, hfix]
  rfl

/-- A journal that is opened or changed leaves the jobs of the budgets. -/
theorem openJournal_budgetJobs (s : State) (op tag n : Nat) :
    (s.openJournal op tag n).mb.budgetJobs = s.mb.budgetJobs := by
  unfold State.openJournal
  dsimp only
  rw [(forward_frame (P := { tw := true }) 9 0 _ (Frame.refl _ _) rfl).mb rfl]
  rfl

theorem onJournal_budgetJobs (s : State) (j : Nat) (f : Journal → Journal) :
    (s.onJournal j f).mb.budgetJobs = s.mb.budgetJobs := by
  unfold State.onJournal
  dsimp only
  split
  · rw [(forward_frame (P := { tw := true }) 9 0 _ (Frame.refl _ _) rfl).mb rfl]
    rfl
  · rfl

theorem budgetKept_journalled (s : State) (p : List Byte) :
    Frame { mb := true, tw := true } s ((s.openJournal 0xC030 (tagOf p) 4).journalStep s.mb.nextJournal 1) :=
  journalStep_frame _ _ (openJournal_frame _ _ _ (Frame.refl _ s) rfl rfl) rfl rfl

theorem budgetKept_pb (s : State) (p : List Byte) :
    (s.budgetKept p).pb = { s.pb with changes := s.pb.changes ++ (s.budgetFixes p).map (·.1) } := by
  unfold State.budgetKept
  rw [onMb_pb, onPb_pb, (budgetKept_journalled s p).pb rfl]

theorem budgetKept_regs (s : State) (p : List Byte) : (s.budgetKept p).regs = s.regs := by
  unfold State.budgetKept
  rw [onMb_regs, onPb_regs, (budgetKept_journalled s p).regs rfl]

theorem budgetKept_jobs (s : State) (p : List Byte) :
    (s.budgetKept p).mb.budgetJobs.length = s.mb.budgetJobs.length + 1 := by
  unfold State.budgetKept
  rw [onMb_mb, List.length_append, onPb_mb, State.journalStep, onJournal_budgetJobs, openJournal_budgetJobs]
  rfl

/-! ### CONFIG_WRITE (R377) -/

theorem configWrite_stages {f : List (Nat × Nat × Nat)} (hk : (entriesOf p).any (fun e => !entryKnown e) = false)
    (ht : s.sys.mode = .table ∨ (∀ e ∈ entriesOf p, cfgClass e.1 ≠ .table))
    (hf : s.fixAll (lastEntries (entriesOf p)) = some f) (hm : s.mergeBad f = false) : cmdConfigWrite.body s p =
      { st := s.stage f, clamps := (List.zipWith entryRec (lastEntries (entriesOf p)) f).flatten
        out := leBytes 4 (s.stage f).mb.cfgGen ++ leBytes 8 s.nextFrame } := by
  have hnone : (if s.sys.mode = .table then none
      else (entriesOf p).find? fun e => decide (cfgClass e.1 = .table)) = none := by
    rcases ht with ht | ht
    · exact if_pos ht
    · rw [List.find?_eq_none.mpr (by simpa using ht), ite_self]
  refine (if_neg (Bool.eq_false_iff.mp hk)).trans ?_
  dsimp only
  rw [hnone, hf]
  exact if_neg (Bool.eq_false_iff.mp hm)

/-- An entry that only TABLE takes is named in the refusal. -/
theorem configWrite_names {e : Nat × Nat × Nat} (hk : (entriesOf p).any (fun e => !entryKnown e) = false)
    (ht : s.sys.mode ≠ .table) (he : ((entriesOf p).find? fun e => decide (cfgClass e.1 = .table)) = some e) :
    cmdConfigWrite.body s p = { st := s, ks := .stateConflict, out := leBytes 2 e.1 ++ leBytes 2 e.2.1 } := by
  refine (if_neg (Bool.eq_false_iff.mp hk)).trans ?_
  dsimp only
  rw [if_neg ht, he]

/-! ### LOOP_SET and TABLE_WRITE (R39, R384) -/

theorem loopSet_writes {f : List (Nat × Nat × Nat)}
    (hk : ∀ e ∈ entriesOf p, (loopOffset e.1).isSome = true ∧ e.2.1 < 4608)
    (hf : s.fixAll (lastEntries (entriesOf p)) = some f)
    (hl : (slotsOf f).any (fun k => !(f.foldl (fun s e => s.loopPut e.1 e.2.1 e.2.2) s).limitsOk k) = false) :
    cmdLoopSet.body s p =
      { st := ((slotsOf f).foldl (fun s k => s.putBit (SL_CTRL_APPLY k) true)
          (f.foldl (fun s e => s.loopPut e.1 e.2.1 e.2.2) s)).onMg fun y => { y with
            storedCfg := f.foldl putCfg y.storedCfg }
        clamps := (List.zipWith entryRec (lastEntries (entriesOf p)) f).flatten } := by
  have hknown : ¬ ((entriesOf p).any fun e => (loopOffset e.1).isNone || decide (4608 ≤ e.2.1)) = true := by
    simpa [Option.isSome_iff_ne_none] using hk
  refine (if_neg hknown).trans ?_
  dsimp only
  rw [hf]
  exact if_neg (Bool.eq_false_iff.mp hl)

theorem tableWrite_stores (ht : fieldLE p 8 2 < 1024)
    (hx : ∀ i, i < 15 → flt (f32At p (12 + 4 * i)) (f32At p (16 + 4 * i)) = true) : cmdTableWrite.body s p =
      { st := ((upto 32).foldl (fun s i => s.wrf (LE_TABLE (fieldLE p 8 2) i) (f32At p (12 + 4 * i))) s).onLe fun y =>
          { y with tablesValid := tset false y.tablesValid (fieldLE p 8 2) true } } := by
  have hasc : (upto 15).all (fun i => flt (f32At p (12 + 4 * i)) (f32At p (16 + 4 * i))) = true :=
    List.all_eq_true.mpr fun i hi => hx i (List.mem_range.mp hi)
  exact if_neg (not_or.mpr ⟨Nat.not_le.mpr ht, not_not_intro hasc⟩)

end Sys2Proof.Machine
end

section
/-! What the mailbox commands for contexts, budgets, leases, configuration, loops and tables reply. -/

namespace Sys2Proof.Machine

/-- Settles O27: a request that passes its checks is replied to with its work, by the equation of that work; a new entry
by the fields that it writes, no two of which share a bit. -/
theorem mailboxContexts : Obligations.MailboxContexts := by
  unfold Obligations.MailboxContexts
  refine ⟨?add, ?entry, ?remove, ?budget, ?lease, ?config, ?configTable, ?loop, ?table⟩
  case add =>
    intro s p ht hc hg ha hv hf
    exact replies (contextAdd_frame p s) rfl ht (contextAdd_adds hc hg ha hv hf) rfl
  case entry =>
    intro s q hs _ hp hb hl
    exact putEntry_reads hs.regs hp hb hl
  case remove =>
    intro s p ht hc hv
    exact replies (contextRemove_frame p s) rfl ht (contextRemove_releases hc hv) rfl
  case budget =>
    intro s p ht h
    obtain ⟨t, ho, hframe, rfl⟩ := replies (execSetBudget_answers (P := { mailParts with pb := true }) p
      (Frame.refl _ s) rfl rfl rfl rfl rfl rfl rfl) rfl ht (setBudget_keeps h) rfl
    exact ⟨_, ho, hframe, s.asked.budgetKept p, rfl, budgetKept_pb _ _, budgetKept_regs _ _, budgetKept_jobs _ _⟩
  case lease =>
    intro s p ht h
    exact replies (execSetLease_answers p (Frame.refl _ s) rfl rfl rfl rfl rfl rfl rfl) rfl ht
      (if_neg (Nat.not_le.mpr h)) rfl
  case config =>
    intro s p f ht hk hm hf hb
    exact replies (execConfigWrite_answers p (Frame.refl _ s) rfl rfl rfl rfl rfl rfl rfl) rfl ht
      (configWrite_stages hk hm hf hb) rfl
  case configTable =>
    intro s p e ht hk hm he
    exact answers_with (execConfigWrite_answers p (Frame.refl _ s) rfl rfl rfl rfl rfl rfl rfl) rfl
      (mailbox_reports ht (configWrite_names hk hm he) rfl)
  case loop =>
    intro s p f ht hk hf hl
    exact replies (execLoopSet_answers p (Frame.refl _ s) rfl rfl rfl rfl rfl rfl rfl rfl rfl) rfl ht
      (loopSet_writes hk hf hl) rfl
  case table =>
    intro s p ht h hx
    exact replies (execTableWrite_answers p (Frame.refl _ s) rfl rfl rfl rfl rfl rfl) rfl ht (tableWrite_stores h hx) rfl

end Sys2Proof.Machine
end

section
/-! The cap records of the broker (R154, R155, R164 to R167, R171, R173): one equation for each case of a write, a lease
and a limit, and what it leaves in the context's record and in PB_STATUS. -/

namespace Sys2Proof.Machine

/-! ### A state with the same registers -/

theorem word_congr {s t : State} (h : t.regs = s.regs) (a : Nat) : t.word a = s.word a := by
  unfold State.word
  rw [h]

theorem rd_congr {s t : State} (h : t.regs = s.regs) (f : RF) : t.rd f = s.rd f := by
  unfold State.rd
  rw [word_congr h]

theorem bit_congr {s t : State} (h : t.regs = s.regs) (f : RF) : t.bit f = s.bit f := by
  unfold State.bit
  rw [rd_congr h]

theorem regsWf_congr {s t : State} (h : t.regs = s.regs) (hs : s.regsWf) : t.regsWf := by
  unfold State.regsWf
  rwa [h]

/-! ### The broker's record of a context -/

theorem pbCtx_congr {s t : State} (h : t.pb = s.pb) (c : Nat) : t.pbCtx c = s.pbCtx c := by
  unfold State.pbCtx
  rw [h]

theorem pbCtx_setPbCtx (s : State) (c : Nat) (x : PbCtx) : (s.setPbCtx c x).pbCtx c = x := by
  unfold State.pbCtx State.setPbCtx tget
  rw [onPb_pb, tfind_tinsert_same]
  rfl

theorem setPbCtx_regs (s : State) (c : Nat) (x : PbCtx) : (s.setPbCtx c x).regs = s.regs := onPb_regs s _

theorem regsBut_setPbCtx {l : Nat → Prop} {s0 s : State} (c : Nat) (x : PbCtx) (h : RegsBut l s0 s) :
    RegsBut l s0 (s.setPbCtx c x) := regsBut_onPb _ h

theorem pbCtx_putBit (s : State) (f : RF) (b : Bool) (c : Nat) : (s.putBit f b).pbCtx c = s.pbCtx c :=
  pbCtx_congr (wr_pb s f _) c

theorem pbCtx_incSat (s : State) (f : RF) (c : Nat) : (s.incSat f).pbCtx c = s.pbCtx c :=
  pbCtx_congr (wr_pb s f _) c

/-- What the standby is told of a completion changes the twin link alone (R179). -/
theorem forwardDone_tw (s : State) (c code : Nat) (f : CapFlight) : Frame { tw := true } s (s.forwardDone c code f) :=
  forward_frame _ _ _ (Frame.refl _ s) rfl

/-- PB_STATUS of a context is no register of a log record or a doorbell. -/
theorem pbStatus_not_noteReg {c : Nat} (hc : c < 4096) : ¬ noteReg (PB_STATUS c).addr :=
  not_noteReg_of_range (by simp only [PB_STATUS]; omega) (by simp only [PB_STATUS]; omega)

/-! ### A record queued (R164, R167) -/

theorem queueRec_unsent (s : State) (c : Nat) (k : CapKind) (cap : Nat) :
    ((s.queueRec c k cap).pbCtx c).unsent.map (fun r => (r.kind, r.cap, r.epoch, r.lease)) =
      some (k, cap, s.frame, s.rd (PB_LEASE c)) := by
  unfold State.queueRec
  rw [pbCtx_putBit, pbCtx_setPbCtx]
  rfl

theorem queueRec_queued (s : State) (c : Nat) (k : CapKind) (cap : Nat) (h : s.regsWf) :
    (s.queueRec c k cap).bit (PB_STATUS_QUEUED c) = true :=
  bit_putBit_same _ (PB_STATUS_QUEUED c) true h rfl (by simp only [PB_STATUS_QUEUED]; omega)

theorem queueRec_regsBut (s : State) (c : Nat) (k : CapKind) (cap : Nat) :
    RegsBut (· = (PB_STATUS_QUEUED c).addr) s (s.queueRec c k cap) :=
  regsBut_wr _ _ (regsBut_setPbCtx _ _ (RegsBut.refl _ s)) rfl

theorem leaseRenewalDue_frame (c : Fin 4096) (s : State) :
    Answers { regs := true, pb := true } s (exec (.leaseRenewalDue c) s) :=
  execLeaseRenewalDue_answers c (Frame.refl _ s) rfl rfl

theorem execLeaseRenewalDue_renews (c : Fin 4096) (s : State) (hd : s.renewalDue c = true)
    (hs : s.renewalStopped c = false) :
    execLeaseRenewalDue c s = .next (s.queueRec c .renew (s.rd (PB_CAP_CAP_SENT c))) :=
  if_pos ⟨hd, by simp [hs]⟩

theorem execLeaseRenewalDue_rests (c : Fin 4096) (s : State)
    (h : s.renewalDue c = false ∨ s.renewalStopped c = true) : execLeaseRenewalDue c s = .next s :=
  if_neg (by rcases h with h | h <;> simp [h])

/-! ### A write that starts (R165) -/

theorem capWriteStart_frame (s : State) : Answers { regs := true, mb := true, pb := true } s (exec .capWriteStart s) :=
  execCapWriteStart_answers (Frame.refl _ s) rfl rfl rfl

theorem execCapWriteStart_rests (s : State) (h : s.mayStart = false ∨ s.nextRec = none) :
    execCapWriteStart s = .next s := by
  unfold execCapWriteStart
  rcases h with h | h
  · exact if_neg (by simp [h])
  · rw [h]
    exact ite_self _

theorem execCapWriteStart_starts (s : State) {c : Nat} {r : CapRec} {k : F32} (hm : s.mayStart = true)
    (hn : s.nextRec = some (c, r, k)) : execCapWriteStart s = .next (s.startWrite c r) := by
  unfold execCapWriteStart
  rw [hn]
  exact if_pos hm

/-- The record in flight, and its marks in PB_STATUS. -/
def State.writeMarked (s : State) (c : Nat) (r : CapRec) : State :=
  (((s.setPbCtx c { s.pbCtx c with
    unsent := none, flight := some { rcd := r, started := s.time }, everSent := true, lastEpoch := r.epoch }).putBit
      (PB_STATUS_QUEUED c) false).putBit (PB_STATUS_IN_FLIGHT c) true).putBit (PB_STATUS_EMERGENCY c)
        (r.kind == .emergency)

/-- The registers that the start of a write changes beside PB_STATUS and CAP_SENT. -/
def startRegs (c a : Nat) : Prop :=
  a = (PB_LAST_SENT_LO c).addr ∨ a = (PB_LAST_SENT_LO c).addr + 4 ∨ a = PB_SENT.addr ∨ a = PB_FANOUT_US.addr

theorem startWrite_regsBut (s : State) (c : Nat) (r : CapRec) :
    RegsBut (startRegs c) ((s.writeMarked c r).wr (PB_CAP_CAP_SENT c) r.cap) (s.startWrite c r) := by
  have hsent (t g h) : RegsBut (startRegs c) ((s.writeMarked c r).wr (PB_CAP_CAP_SENT c) r.cap)
      ((((((s.writeMarked c r).wr (PB_CAP_CAP_SENT c) r.cap).wr64 (PB_LAST_SENT_LO c) t).onPb g).incSat PB_SENT).onMb
        h) :=
    regsBut_onMb _ (regsBut_incSat _ (regsBut_onPb _ (regsBut_wr64 _ _ (RegsBut.refl _ _) (Or.inl rfl)
      (Or.inr (Or.inl rfl)))) (Or.inr (Or.inr (Or.inl rfl))))
  unfold State.startWrite
  dsimp only
  exact regsBut_ite (regsBut_onPb _ (regsBut_wr _ _ (hsent _ _ _) (Or.inr (Or.inr (Or.inr rfl))))) (hsent _ _ _)

/-- The marks of a write in PB_STATUS: three bits of one register. -/
def markWrites (c : Nat) (r : CapRec) : List (RF × Nat) :=
  [(PB_STATUS_QUEUED c, b2n false), (PB_STATUS_IN_FLIGHT c, b2n true),
    (PB_STATUS_EMERGENCY c, b2n (r.kind == .emergency))]

theorem writeMarked_regsWf (s : State) (c : Nat) (r : CapRec) (h : s.regsWf) : (s.writeMarked c r).regsWf :=
  putBit_regsWf _ _ _ (putBit_regsWf _ _ _ (putBit_regsWf _ _ _ (regsWf_congr (setPbCtx_regs s c _) h)))

theorem writeMarked_bits (s : State) (c : Nat) (r : CapRec) (h : s.regsWf) :
    (s.writeMarked c r).bit (PB_STATUS_IN_FLIGHT c) = true ∧ (s.writeMarked c r).bit (PB_STATUS_QUEUED c) = false ∧
    (s.writeMarked c r).bit (PB_STATUS_EMERGENCY c) = (r.kind == .emergency) := by
  have hread {f : RF} {b : Bool} (hf : f.lo = f.hi) (hm : (f, b2n b) ∈ markWrites c r) :
      (s.writeMarked c r).bit f = b :=
    bit_writes_mem (l := markWrites c r) (regsWf_congr (setPbCtx_regs s c _) h)
      (by simp [markWrites, RF.Wf, PB_STATUS_QUEUED, PB_STATUS_IN_FLIGHT, PB_STATUS_EMERGENCY])
      (by simp [markWrites, RF.Apart, PB_STATUS_QUEUED, PB_STATUS_IN_FLIGHT, PB_STATUS_EMERGENCY]) hf hm
  exact ⟨hread rfl (by simp [markWrites]), hread rfl (by simp [markWrites]), hread rfl (by simp [markWrites])⟩

theorem pbStatus_not_startRegs (c : Nat) : ¬ startRegs c (PB_STATUS c).addr := by
  simp only [startRegs, PB_STATUS, PB_LAST_SENT_LO, PB_SENT, PB_FANOUT_US]
  omega

/-- PB_STATUS after the start of a write. -/
theorem startWrite_bits (s : State) (c : Nat) (r : CapRec) (h : s.regsWf) :
    (s.startWrite c r).bit (PB_STATUS_IN_FLIGHT c) = true ∧ (s.startWrite c r).bit (PB_STATUS_QUEUED c) = false ∧
    (s.startWrite c r).bit (PB_STATUS_EMERGENCY c) = (r.kind == .emergency) := by
  have hb (f : RF) (hf : f.addr = (PB_STATUS c).addr) : (s.startWrite c r).bit f = (s.writeMarked c r).bit f := by
    rw [(startWrite_regsBut s c r).bit f (hf ▸ pbStatus_not_startRegs c), bit_wr_ne]
    rw [hf]
    simp only [PB_STATUS, PB_CAP_CAP_SENT]
    omega
  rw [hb (PB_STATUS_IN_FLIGHT c) rfl, hb (PB_STATUS_QUEUED c) rfl, hb (PB_STATUS_EMERGENCY c) rfl]
  exact writeMarked_bits s c r h

theorem startWrite_capSent (s : State) (c : Nat) (r : CapRec) (h : s.regsWf) :
    (s.startWrite c r).rd (PB_CAP_CAP_SENT c) = r.cap % 4096 := by
  have hn : ¬ startRegs c (PB_CAP_CAP_SENT c).addr := by
    simp only [startRegs, PB_CAP_CAP_SENT, PB_LAST_SENT_LO, PB_SENT, PB_FANOUT_US]
    omega
  rw [(startWrite_regsBut s c r).rd _ hn]
  exact rd_wr_same _ (PB_CAP_CAP_SENT c) _ (writeMarked_regsWf s c r h) (by simp [PB_CAP_CAP_SENT])
    (by simp [PB_CAP_CAP_SENT])

/-! ### A write that completes (R155, R166) -/

theorem capWriteCompletion_frame (c : Fin 4096) (ok : Bool) (s : State) :
    Answers { regs := true, dic := true, mg := true, pb := true, le := true, tw := true } s
      (exec (.capWriteCompletion c ok) s) :=
  execCapWriteCompletion_answers c ok (Frame.refl _ s) rfl rfl rfl rfl rfl rfl

theorem execCapWriteCompletion_rests (c : Fin 4096) (ok : Bool) (s : State) (h : (s.pbCtx c).flight = none) :
    execCapWriteCompletion c ok s = .next s := by
  unfold execCapWriteCompletion State.writeDone State.writeFailed
  dsimp only
  rw [h]
  exact congrArg _ (ite_self s)

section flight

variable {s : State} {c : Nat} {f : CapFlight} (hf : (s.pbCtx c).flight = some f)
include hf

theorem writeDone_releases (hk : f.rcd.kind = .release) :
    s.writeDone c = ((s.putBit (PB_STATUS_IN_FLIGHT c) false).forwardDone c 0 f).dropCtx c := by
  unfold State.writeDone
  dsimp only
  rw [hf]
  exact if_pos hk

/-- A record that has reached its context: the lease dated from the start of its write. -/
def State.leaseDated (s : State) (c : Nat) (f : CapFlight) : State :=
  ((s.putBit (PB_STATUS_IN_FLIGHT c) false).forwardDone c 0 f).setPbCtx c { s.pbCtx c with
    flight := none, leaseEnd := some (f.started + msec f.rcd.lease) }

theorem writeDone_confirms (hk : f.rcd.kind ≠ .release) : ∃ n, s.writeDone c =
    (((s.leaseDated c f).wr64 (PB_APPLIED_EPOCH_LO c) n).putBit (PB_STATUS_UNREACHABLE c) false).putBit
      (PB_STATUS_LEASE_LAPSED c) false := by
  unfold State.writeDone
  dsimp only
  rw [hf]
  exact ⟨_, if_neg hk⟩

/-- The write counted as an error, and the standby told of it. -/
def State.writeLost (s : State) (c code : Nat) (f : CapFlight) : State :=
  ((s.incSat (PB_ERRORS c)).putBit (PB_STATUS_IN_FLIGHT c) false).forwardDone c code f

/-- The record of the context without the write that has failed. -/
def PbCtx.lost (x : PbCtx) : PbCtx := { x with flight := none, errors := x.errors + 1 }

theorem writeFailed_keeps {r : CapRec} (h0 : f.rcd.failures = 0) (hr : (s.pbCtx c).unsent = some r) :
    s.writeFailed c = (s.writeLost c 2 f).setPbCtx c (s.pbCtx c).lost := by
  have hfirst : f.rcd.failures + 1 < 2 := by omega
  unfold State.writeFailed PbCtx.lost
  dsimp only
  rw [hf, hr]
  dsimp only
  rw [if_pos hfirst, if_pos hfirst]
  rfl

theorem writeFailed_requeues (h0 : f.rcd.failures = 0) (hr : (s.pbCtx c).unsent = none) :
    s.writeFailed c = ((s.writeLost c 2 f).setPbCtx c { (s.pbCtx c).lost with
      unsent := some { f.rcd with failures := 1, queuedAt := s.time } }).putBit (PB_STATUS_QUEUED c) true := by
  have hfirst : f.rcd.failures + 1 < 2 := by omega
  have ht : ((s.incSat (PB_ERRORS c)).putBit (PB_STATUS_IN_FLIGHT c) false).time = s.time := wr_time _ _ _
  unfold State.writeFailed PbCtx.lost
  dsimp only
  rw [hf, hr]
  dsimp only
  rw [if_pos hfirst, if_pos hfirst, ht, h0]
  rfl

theorem writeFailed_unreachable (h1 : 1 ≤ f.rcd.failures) :
    s.writeFailed c =
      ((s.writeLost c 6 f).setPbCtx c (s.pbCtx c).lost).unreachable c (f.rcd.kind == .release) := by
  have hsecond : ¬ f.rcd.failures + 1 < 2 := by omega
  unfold State.writeFailed PbCtx.lost
  dsimp only
  rw [hf]
  dsimp only
  rw [if_neg hsecond, if_neg hsecond]
  rfl

end flight

/-! ### What a completion leaves in the context's record and in PB_STATUS -/

section left

variable (s : State) (c : Nat) (f : CapFlight)

theorem leaseDated_regs : (s.leaseDated c f).regs = (s.putBit (PB_STATUS_IN_FLIGHT c) false).regs :=
  (setPbCtx_regs _ c _).trans ((forwardDone_tw _ c 0 f).regs rfl)

theorem writeLost_regs (code : Nat) :
    (s.writeLost c code f).regs = ((s.incSat (PB_ERRORS c)).putBit (PB_STATUS_IN_FLIGHT c) false).regs :=
  (forwardDone_tw _ c code f).regs rfl

variable {s} (h : s.regsWf)
include h

theorem leaseDated_regsWf : (s.leaseDated c f).regsWf := regsWf_congr (leaseDated_regs s c f) (putBit_regsWf _ _ _ h)

theorem leaseDated_inFlight : (s.leaseDated c f).bit (PB_STATUS_IN_FLIGHT c) = false :=
  (bit_congr (leaseDated_regs s c f) _).trans (bit_putBit_same s (PB_STATUS_IN_FLIGHT c) false h rfl
    (by simp [PB_STATUS_IN_FLIGHT]))

theorem writeLost_regsWf (code : Nat) : (s.writeLost c code f).regsWf :=
  regsWf_congr (writeLost_regs s c f code) (putBit_regsWf _ _ _ (wr_regsWf _ _ _ h))

theorem writeLost_inFlight (code : Nat) : (s.writeLost c code f).bit (PB_STATUS_IN_FLIGHT c) = false :=
  (bit_congr (writeLost_regs s c f code) _).trans (bit_putBit_same (s.incSat (PB_ERRORS c)) (PB_STATUS_IN_FLIGHT c) false
    (wr_regsWf _ _ _ h) rfl (by simp [PB_STATUS_IN_FLIGHT]))

/-- The bits that a completion with success clears (R166). -/
theorem confirmed_bits (n : Nat) (t : State)
    (ht : t = (((s.leaseDated c f).wr64 (PB_APPLIED_EPOCH_LO c) n).putBit (PB_STATUS_UNREACHABLE c) false).putBit
      (PB_STATUS_LEASE_LAPSED c) false) :
    t.bit (PB_STATUS_IN_FLIGHT c) = false ∧ t.bit (PB_STATUS_UNREACHABLE c) = false ∧
    t.bit (PB_STATUS_LEASE_LAPSED c) = false := by
  have hwf : ((s.leaseDated c f).wr64 (PB_APPLIED_EPOCH_LO c) n).regsWf :=
    wr_regsWf _ _ _ (wr_regsWf _ _ _ (leaseDated_regsWf c f h))
  have hflight : ((s.leaseDated c f).wr64 (PB_APPLIED_EPOCH_LO c) n).bit (PB_STATUS_IN_FLIGHT c) = false := by
    unfold State.wr64
    rw [bit_wr_ne _ _ _ _ (by simp only [PB_STATUS_IN_FLIGHT, PB_APPLIED_EPOCH_LO]; omega),
      bit_wr_ne _ _ _ _ (by simp only [PB_STATUS_IN_FLIGHT, PB_APPLIED_EPOCH_LO]; omega), leaseDated_inFlight c f h]
  have hclear {g : RF} (hg : g.lo = g.hi) (h0 : g ∈ [PB_STATUS_UNREACHABLE c, PB_STATUS_LEASE_LAPSED c] ∨
      ((s.leaseDated c f).wr64 (PB_APPLIED_EPOCH_LO c) n).bit g = false) : t.bit g = false := by
    rw [ht]
    exact bit_clearBits (l := [PB_STATUS_UNREACHABLE c, PB_STATUS_LEASE_LAPSED c])
      (by simp [PB_STATUS_UNREACHABLE, PB_STATUS_LEASE_LAPSED]) hwf hg h0
  exact ⟨hclear rfl (Or.inr hflight), hclear rfl (Or.inl (by simp)), hclear rfl (Or.inl (by simp))⟩

omit h in
/-- A context that cannot be reached keeps its entry, unless it was to be released (R155, R166). -/
theorem unreachable_stays :
    s.unreachable c false = (s.putBit (PB_STATUS_UNREACHABLE c) true).note 4 .unreachable 1 [c] 160 := by
  unfold State.unreachable
  exact if_neg Bool.false_ne_true

theorem unreachable_bits (hc : c < 4096) (h0 : s.bit (PB_STATUS_IN_FLIGHT c) = false) :
    (s.unreachable c false).bit (PB_STATUS_IN_FLIGHT c) = false ∧
    (s.unreachable c false).bit (PB_STATUS_UNREACHABLE c) = true := by
  have hnote := note_regsBut (s.putBit (PB_STATUS_UNREACHABLE c) true) 4 .unreachable 1 [c] (src := 160) (by decide)
  rw [unreachable_stays, hnote.bit (PB_STATUS_IN_FLIGHT c) (pbStatus_not_noteReg hc),
    hnote.bit (PB_STATUS_UNREACHABLE c) (pbStatus_not_noteReg hc)]
  constructor
  · rw [bit_putBit_disjoint s (PB_STATUS_UNREACHABLE c) (PB_STATUS_IN_FLIGHT c) true h rfl
      (by simp [PB_STATUS_UNREACHABLE]) rfl (by simp [PB_STATUS_UNREACHABLE, PB_STATUS_IN_FLIGHT]), h0]
  · exact bit_putBit_same s (PB_STATUS_UNREACHABLE c) true h rfl (by simp [PB_STATUS_UNREACHABLE])

end left

/-! ### Timeouts, leases and limits (R166, R167, R171, R173) -/

section limits

variable (c : Fin 4096) (s : State)

theorem capWriteTimeout_frame :
    Answers { regs := true, dic := true, mg := true, mb := true, pb := true, le := true, tw := true } s
      (exec (.capWriteTimeout c) s) :=
  execCapWriteTimeout_answers c (Frame.refl _ s) rfl rfl rfl rfl rfl rfl rfl

theorem leaseLapse_frame : Answers { regs := true, mg := true } s (exec (.leaseLapse c) s) :=
  execLeaseLapse_answers c (Frame.refl _ s) rfl rfl

theorem capRecordExpiry_frame : Answers { regs := true, pb := true } s (exec (.capRecordExpiry c) s) :=
  execCapRecordExpiry_answers c (Frame.refl _ s) rfl rfl

theorem overCap_frame : Answers { regs := true, dic := true, mg := true, le := true } s (exec (.overCap c) s) :=
  execOverCap_answers c (Frame.refl _ s) rfl rfl rfl rfl

variable {c s}

theorem execCapWriteTimeout_fails {f : CapFlight} (hf : (s.pbCtx c).flight = some f)
    (ht : f.started + s.uioTimeout ≤ s.time) :
    execCapWriteTimeout c s = .next ((s.writeFailed c).aerNote true) :=
  if_pos (since_due (congrArg (Option.map CapFlight.started) hf) ht)

theorem execCapWriteTimeout_rests (h : s.since ((s.pbCtx c).flight.map (·.started)) s.uioTimeout = false) :
    execCapWriteTimeout c s = .next s := if_neg (Bool.eq_false_iff.mp h)

theorem execLeaseLapse_rests (h : s.since (s.pbCtx c).leaseEnd 0 = false ∨ s.bit (PB_STATUS_LEASE_LAPSED c) = true) :
    execLeaseLapse c s = .next s := if_neg (by rcases h with h | h <;> simp [h])

theorem execLeaseLapse_marks {e : Nat} (he : (s.pbCtx c).leaseEnd = some e) (ht : e ≤ s.time)
    (hb : s.bit (PB_STATUS_LEASE_LAPSED c) = false) : execLeaseLapse c s =
      .next ((s.putBit (PB_STATUS_LEASE_LAPSED c) true).log 4 .leaseLapsed 1 [(c : Nat)]) :=
  if_pos ⟨since_due (d := 0) he ht, by simp [hb]⟩

theorem execOverCap_rests
    (h : s.since (s.pbCtx c).overSince (msec 20 + 1) = false ∨ s.bit (PB_STATUS_OVER_CAP c) = true) :
    execOverCap c s = .next s := if_neg (by rcases h with h | h <;> simp [h])

theorem execOverCap_marks {o : Nat} (ho : (s.pbCtx c).overSince = some o) (ht : o + msec 20 + 1 ≤ s.time)
    (hb : s.bit (PB_STATUS_OVER_CAP c) = false) : execOverCap c s =
      .next ((s.putBit (PB_STATUS_OVER_CAP c) true).note 4 .overCap 1 [(c : Nat)] 161) :=
  if_pos ⟨since_due ho (by rwa [← Nat.add_assoc]), by simp [hb]⟩

/-- An unsent record dropped and counted (R173). -/
def State.recDropped (s : State) (c : Nat) : State :=
  ((s.setPbCtx c { s.pbCtx c with unsent := none }).putBit (PB_STATUS_QUEUED c) false).incSat PB_DROPPED

theorem execCapRecordExpiry_drops {r : CapRec} (hr : (s.pbCtx c).unsent = some r)
    (ht : r.queuedAt + msec r.lease ≤ s.time) : execCapRecordExpiry c s =
      .next (if r.kind = .release then (s.recDropped c).dropCtx c else s.recDropped c) := by
  unfold execCapRecordExpiry
  dsimp only
  rw [hr]
  exact if_pos ht

theorem execCapRecordExpiry_rests
    (h : (s.pbCtx c).unsent.any (fun r => decide (r.queuedAt + msec r.lease ≤ s.time)) = false) :
    execCapRecordExpiry c s = .next s := by
  unfold execCapRecordExpiry
  dsimp only
  cases hr : (s.pbCtx c).unsent with
  | none => rfl
  | some r =>
    rw [hr, Option.any_some] at h
    exact if_neg (of_decide_eq_false h)

end limits

theorem recDropped_dropped (s : State) (c : Nat) (h : s.regsWf) :
    (s.recDropped c).rd PB_DROPPED = min (s.rd PB_DROPPED + 1) (2 ^ 16 - 1) := by
  have hwf : ((s.setPbCtx c { s.pbCtx c with unsent := none }).putBit (PB_STATUS_QUEUED c) false).regsWf :=
    putBit_regsWf _ _ _ (regsWf_congr (setPbCtx_regs s c _) h)
  have hrd : ((s.setPbCtx c { s.pbCtx c with unsent := none }).putBit (PB_STATUS_QUEUED c) false).rd PB_DROPPED =
      s.rd PB_DROPPED :=
    (rd_putBit_ne _ _ _ _ (by simp only [PB_DROPPED, PB_STATUS_QUEUED]; omega)).trans
      (rd_congr (setPbCtx_regs s c _) _)
  refine (rd_wr_same _ PB_DROPPED _ hwf (by decide) (by decide)).trans ?_
  rw [hrd]
  exact Nat.mod_eq_of_lt (Nat.lt_of_le_of_lt (Nat.min_le_right _ _) (by decide))

theorem recDropped_queued (s : State) (c : Nat) (h : s.regsWf) :
    (s.recDropped c).bit (PB_STATUS_QUEUED c) = false :=
  (bit_incSat_ne _ _ _ (by simp only [PB_DROPPED, PB_STATUS_QUEUED]; omega)).trans
    (bit_putBit_same _ (PB_STATUS_QUEUED c) false (regsWf_congr (setPbCtx_regs s c _) h) rfl
      (by simp [PB_STATUS_QUEUED]))

theorem recDropped_regsBut (s : State) (c : Nat) :
    RegsBut (fun a => a = (PB_STATUS_QUEUED c).addr ∨ a = PB_DROPPED.addr) s (s.recDropped c) :=
  regsBut_incSat _ (regsBut_wr _ _ (regsBut_setPbCtx _ _ (RegsBut.refl _ s)) (Or.inl rfl)) (Or.inr rfl)

theorem recDropped_unsent (s : State) (c : Nat) : ((s.recDropped c).pbCtx c).unsent = none := by
  unfold State.recDropped
  rw [pbCtx_incSat, pbCtx_putBit, pbCtx_setPbCtx]

/-! ### BAR4 and the post area (R163, R180, R181) -/

section post

variable (v : BitVec 32) (s : State)

theorem bar4Write_frame (off : Nat) : Answers { pb := true } s (exec (.bar4Write off v) s) :=
  execBar4Write_answers off v (Frame.refl _ s) rfl

theorem postSeqWrite_frame : Answers { sys := true, pb := true, tw := true } s (exec (.postSeqWrite v) s) :=
  execPostSeqWrite_answers v (Frame.refl _ s) rfl rfl rfl

variable {s}

theorem execBar4Write_discards {off : Nat} (h : off < 0x104 ∨ 0x250 ≤ off ∨ off % 4 ≠ 0 ∨ off = 0x10C) :
    execBar4Write off v s = .next s := if_neg (by omega)

theorem execBar4Write_stages {off : Nat} (h1 : 0x104 ≤ off) (h2 : off < 0x250) (h4 : off % 4 = 0)
    (hs : off ≠ 0x10C) : execBar4Write off v s = .next (s.onPb fun y => { y with
      post := tinsert s.pb.post off (if off = 0x104 then v.toNat % 2 else v.toNat) }) := if_pos ⟨h1, h2, h4, hs⟩

theorem execPostSeqWrite_notOwner (h : s.isActive = false) : execPostSeqWrite v s =
    .next (s.onPb fun y => { y with postStatus := Ks.notOwner.code }) := if_pos (by simp [h])

theorem execPostSeqWrite_conflicts (ha : s.isActive = true)
    (hm : s.sys.mode = .boot ∨ s.sys.mode = .service ∨ s.sys.mode = .failed) : execPostSeqWrite v s =
      .next (s.onPb fun y => { y with postStatus := Ks.stateConflict.code }) :=
  (if_neg (not_not_intro ha)).trans (if_pos hm)

/-- The staged changes of the post area queued for the next boundary, and the host-silence timer restarted. -/
def State.postQueued (s : State) (n : Nat) : State :=
  (s.onPb fun y => { y with
    changes := y.changes ++ s.postChanges, postDue := some n, postTc := s.changesTc s.postChanges
    postStatus := s.postClamps * 65536 + (if s.postClamps = 0 then Ks.ok.code else Ks.clamped.code) }).silenceRestart

theorem execPostSeqWrite_queues (ha : s.isActive = true) (hb : s.sys.mode ≠ .boot) (hs : s.sys.mode ≠ .service)
    (hf : s.sys.mode ≠ .failed) :
    ∃ payload, execPostSeqWrite v s = .next ((s.postQueued v.toNat).forward 5 1 payload) :=
  ⟨_, (if_neg (not_not_intro ha)).trans (if_neg (by simp [hb, hs, hf]))⟩

theorem postQueued_forwarded (s : State) (n : Nat) (payload : List Byte) :
    Frame { tw := true } (s.postQueued n) ((s.postQueued n).forward 5 1 payload) :=
  forward_frame 5 1 payload (Frame.refl _ _) rfl

theorem postQueued_sys (s : State) (n : Nat) :
    (s.postQueued n).sys = { s.sys with silenceStart := s.time, hostSilent := false } := silenceRestart_sys _

theorem postQueued_regs (s : State) (n : Nat) : (s.postQueued n).regs = s.regs := (silenceRestart_frame_sys _).regs rfl

theorem postQueued_pb (s : State) (n : Nat) : (s.postQueued n).pb = { s.pb with
    changes := s.pb.changes ++ s.postChanges, postDue := some n, postTc := s.changesTc s.postChanges
    postStatus := s.postClamps * 65536 + (if s.postClamps = 0 then Ks.ok.code else Ks.clamped.code) } :=
  (silenceRestart_frame_sys _).pb rfl

end post

end Sys2Proof.Machine
end

section
/-! What the writes, leases, limits, brakes and the post area of the broker answer. -/

namespace Sys2Proof.Machine

/-- Settles O31: the commands by their equations, and PB_STATUS and the context's record by what each of them leaves. -/
theorem brokerWrites : Obligations.BrokerWrites := by
  unfold Obligations.BrokerWrites
  refine ⟨?renews, ?renewalRests, ?startRests, ?starts, ?confirms, ?releases, ?completionRests, ?keeps, ?requeues,
    ?unreachable, ?timesOut, ?timeoutRests, ?lapseRests, ?overRests, ?expiryRests, ?expiryReleases, ?lapses, ?expires,
    ?overCap, ?brakes, ?notOwner, ?conflicts, ?discards, ?queues, ?stages⟩
  case renews =>
    intro s c hs hd hstop
    exact answers_with (leaseRenewalDue_frame c s) (execLeaseRenewalDue_renews c s hd hstop)
      ⟨queueRec_unsent _ _ _ _, queueRec_queued _ _ _ _ hs.regs, queueRec_regsBut _ _ _ _⟩
  case renewalRests =>
    intro s c h
    exact answers_with (leaseRenewalDue_frame c s) (execLeaseRenewalDue_rests c s h) rfl
  case startRests =>
    intro s h
    exact answers_with (capWriteStart_frame s) (execCapWriteStart_rests s h) rfl
  case starts =>
    intro s c r k hs hm hn _
    exact answers_with (capWriteStart_frame s) (execCapWriteStart_starts s hm hn)
      ⟨startWrite_capSent s c r hs.regs, startWrite_bits s c r hs.regs⟩
  case confirms =>
    intro s c f hs hf hk
    obtain ⟨n, hn⟩ := writeDone_confirms hf hk
    obtain ⟨hflight, hreach, hlapse⟩ := confirmed_bits c f hs.regs n (s.writeDone c) hn
    have hx : (s.writeDone c).pbCtx c =
        { s.pbCtx c with flight := none, leaseEnd := some (f.started + msec f.rcd.lease) } := by
      rw [hn, pbCtx_putBit, pbCtx_putBit]
      exact pbCtx_setPbCtx _ _ _
    exact answers_with (capWriteCompletion_frame c true s) rfl
      ⟨hflight, hreach, hlapse, congrArg PbCtx.leaseEnd hx, congrArg PbCtx.flight hx⟩
  case releases =>
    intro s c f hf hk
    exact answers_with (capWriteCompletion_frame c true s) rfl (writeDone_releases hf hk)
  case completionRests =>
    intro s c ok h
    exact answers_with (capWriteCompletion_frame c ok s) (execCapWriteCompletion_rests c ok s h) rfl
  case keeps =>
    intro s c f r hs hf h0 hr
    refine answers_with (capWriteCompletion_frame c false s)
      (congrArg Host.Outcome.next (writeFailed_keeps hf h0 hr)) ⟨?_, ?_, ?_⟩
    · exact (bit_congr (setPbCtx_regs _ _ _) _).trans (writeLost_inFlight c f hs.regs 2)
    · rw [pbCtx_setPbCtx]
      exact hr
    · rw [pbCtx_setPbCtx]
      rfl
  case requeues =>
    intro s c f hs hf h0 hr
    have hwf (x : PbCtx) : ((s.writeLost c 2 f).setPbCtx c x).regsWf :=
      regsWf_congr (setPbCtx_regs _ _ _) (writeLost_regsWf c f hs.regs 2)
    refine answers_with (capWriteCompletion_frame c false s)
      (congrArg Host.Outcome.next (writeFailed_requeues hf h0 hr)) ⟨?_, ?_, ?_, ?_⟩
    · rw [bit_putBit_disjoint _ (PB_STATUS_QUEUED c) (PB_STATUS_IN_FLIGHT c) _ (hwf _) rfl
        (by simp [PB_STATUS_QUEUED]) rfl (by simp [PB_STATUS_QUEUED, PB_STATUS_IN_FLIGHT]), bit_congr (setPbCtx_regs _ _ _)]
      exact writeLost_inFlight c f hs.regs 2
    · exact bit_putBit_same _ (PB_STATUS_QUEUED c) true (hwf _) rfl (by simp [PB_STATUS_QUEUED])
    · rw [pbCtx_putBit, pbCtx_setPbCtx]
    · rw [pbCtx_putBit, pbCtx_setPbCtx]
      rfl
  case unreachable =>
    intro s c f hs hf h1
    have hwf : ((s.writeLost c 6 f).setPbCtx c (s.pbCtx c).lost).regsWf :=
      regsWf_congr (setPbCtx_regs _ _ _) (writeLost_regsWf c f hs.regs 6)
    have hflight : ((s.writeLost c 6 f).setPbCtx c (s.pbCtx c).lost).bit (PB_STATUS_IN_FLIGHT c) = false :=
      (bit_congr (setPbCtx_regs _ _ _) _).trans (writeLost_inFlight c f hs.regs 6)
    refine answers_with (capWriteCompletion_frame c false s)
      (congrArg Host.Outcome.next (writeFailed_unreachable hf h1)) ⟨_, rfl, ?_, hflight, fun hk => ?_⟩
    · rw [pbCtx_setPbCtx]
      rfl
    · rw [beq_eq_false_iff_ne.mpr hk]
      exact unreachable_bits c hwf c.isLt hflight
  case timesOut =>
    intro s c f hf ht
    exact answers_with (capWriteTimeout_frame c s) (execCapWriteTimeout_fails hf ht) rfl
  case timeoutRests =>
    intro s c h
    exact answers_with (capWriteTimeout_frame c s) (execCapWriteTimeout_rests h) rfl
  case lapseRests =>
    intro s c h
    exact answers_with (leaseLapse_frame c s) (execLeaseLapse_rests h) rfl
  case overRests =>
    intro s c h
    exact answers_with (overCap_frame c s) (execOverCap_rests h) rfl
  case expiryRests =>
    intro s c h
    exact answers_with (capRecordExpiry_frame c s) (execCapRecordExpiry_rests h) rfl
  case expiryReleases =>
    intro s c r hr ht hk
    exact answers_with (capRecordExpiry_frame c s) (execCapRecordExpiry_drops hr ht) (if_pos hk)
  case lapses =>
    intro s c e hs he ht hb
    have hlog : RegsBut noteReg (s.putBit (PB_STATUS_LEASE_LAPSED c) true)
        ((s.putBit (PB_STATUS_LEASE_LAPSED c) true).log 4 .leaseLapsed 1 [(c : Nat)]) :=
      regsBut_log (fun _ h => h) _ _ _ _ (RegsBut.refl _ _)
    refine answers_with (leaseLapse_frame c s) (execLeaseLapse_marks he ht hb) ⟨?_, ?_⟩
    · rw [hlog.bit (PB_STATUS_LEASE_LAPSED c) (pbStatus_not_noteReg c.isLt)]
      exact bit_putBit_same s (PB_STATUS_LEASE_LAPSED c) true hs.regs rfl (by simp [PB_STATUS_LEASE_LAPSED])
    · exact regsBut_log (fun _ h => Or.inr h) _ _ _ _ (regsBut_wr _ _ (RegsBut.refl _ s) (Or.inl rfl))
  case expires =>
    intro s c r hs hr ht hk
    exact answers_with (capRecordExpiry_frame c s)
      ((execCapRecordExpiry_drops hr ht).trans (congrArg Host.Outcome.next (if_neg hk)))
      ⟨recDropped_unsent s c, recDropped_queued s c hs.regs, recDropped_dropped s c hs.regs, recDropped_regsBut s c⟩
  case overCap =>
    intro s c o hs ho ht hb
    have hnote := note_regsBut (s.putBit (PB_STATUS_OVER_CAP c) true) 4 .overCap 1 [(c : Nat)] (src := 161) (by decide)
    refine answers_with (overCap_frame c s) (execOverCap_marks ho ht hb) ⟨?_, ?_⟩
    · rw [hnote.bit (PB_STATUS_OVER_CAP c) (pbStatus_not_noteReg c.isLt)]
      exact bit_putBit_same s (PB_STATUS_OVER_CAP c) true hs.regs rfl (by simp [PB_STATUS_OVER_CAP])
    · exact regsBut_note (fun _ h => Or.inr h) _ _ _ _ _ (by decide)
        (regsBut_wr _ _ (RegsBut.refl _ s) (Or.inl rfl))
  case brakes =>
    intro s v
    exact answers_with (execPbBrakeForceWrite_answers v (Frame.refl _ s) rfl) rfl rfl
  case notOwner =>
    intro s v h
    exact answers_with (postSeqWrite_frame v s) (execPostSeqWrite_notOwner v h) rfl
  case conflicts =>
    intro s v ha hm
    exact answers_with (postSeqWrite_frame v s) (execPostSeqWrite_conflicts v ha hm) rfl
  case discards =>
    intro s off v h
    exact answers_with (bar4Write_frame v s off) (execBar4Write_discards v h) rfl
  case queues =>
    intro s v ha hb hsv hfl
    obtain ⟨payload, ho⟩ := execPostSeqWrite_queues v ha hb hsv hfl
    have hfwd := postQueued_forwarded s v.toNat payload
    have hpb := (hfwd.pb rfl).trans (postQueued_pb s v.toNat)
    exact answers_with (postSeqWrite_frame v s) ho
      ⟨congrArg Broker.changes hpb, congrArg Broker.postDue hpb, congrArg Broker.postStatus hpb,
        (hfwd.sys rfl).trans (postQueued_sys s v.toNat), (hfwd.regs rfl).trans (postQueued_regs s v.toNat)⟩
  case stages =>
    intro s off v h1 h2 h4 hs
    exact answers_with (bar4Write_frame v s off) (execBar4Write_stages v h1 h2 h4 hs) rfl

end Sys2Proof.Machine
end

section
/-! The doorbell controller's commands (R194, R301, R304, R305, R308 to R311): one equation for each case. -/

namespace Sys2Proof.Machine

/-! ### Doorbell writes (R301) -/

section doorbell

variable (v : BitVec 32) (s : State)

theorem doorbellWrite_frame : Answers { regs := true, dic := true, le := true } s (exec (.doorbellWrite v) s) :=
  execDoorbellWrite_answers v (Frame.refl _ s) rfl rfl rfl

variable {v}

theorem execDoorbellWrite_posts (h : v.toNat < 2048) : execDoorbellWrite v s = .next (s.post v.toNat) := if_pos h

theorem execDoorbellWrite_counts (h : 2048 ≤ v.toNat) : execDoorbellWrite v s = .next (s.incSat DIC_BADDB) :=
  if_neg (Nat.not_lt.mpr h)

end doorbell

/-! ### Group timers and delivery decisions (R305, R311) -/

theorem groupTimerFire_frame (g : Fin 16) (s : State) :
    Answers { regs := true, dic := true } s (exec (.groupTimerFire g) s) :=
  execGroupTimerFire_answers g (Frame.refl _ s) rfl rfl

theorem execGroupTimerFire_fires (g : Fin 16) (s : State) (he : s.bit (DIC_GCFG_EN g) = true)
    (ht : s.since (tfind s.dic.grpStart g) (usec (clampNat 1 1000 (s.rd (DIC_GCFG_TIME g)))) = true) :
    execGroupTimerFire g s = .next (s.groupFire g) := if_pos ⟨he, ht⟩

theorem execGroupTimerFire_rests (g : Fin 16) (s : State) (h : s.bit (DIC_GCFG_EN g) = false ∨
    s.since (tfind s.dic.grpStart g) (usec (clampNat 1 1000 (s.rd (DIC_GCFG_TIME g)))) = false) :
    execGroupTimerFire g s = .next s := if_neg (by rcases h with h | h <;> simp [h])

theorem deliveryDecision_frame (k : Fin 9) (s : State) :
    Answers { regs := true, dic := true } s (exec (.deliveryDecision k) s) :=
  execDeliveryDecision_answers k (Frame.refl _ s) rfl rfl

theorem execDeliveryDecision_decides (k : Fin 9) (s : State) (he : s.bit DIC_CTRL_ENABLE = true) (hk : k.val ≠ 1)
    (hr : s.readStalled k.val = false) : execDeliveryDecision k s = .next (s.decide_ k.val) := if_pos ⟨he, hk, hr⟩

theorem execDeliveryDecision_rests (k : Fin 9) (s : State)
    (h : s.bit DIC_CTRL_ENABLE = false ∨ k.val = 1 ∨ s.readStalled k.val = true) :
    execDeliveryDecision k s = .next s := if_neg (by rcases h with h | h | h <;> simp [h])

/-! ### The end of an interrupt (R308) -/

/-- The stack of a target popped and its sources given back, or EOI_ERR set on an empty stack. -/
def State.interruptEnded (s : State) (t : Nat) : State :=
  match s.stack t with
  | [] => s.putBit (DIC_CSTAT_EOI_ERR t) true
  | p :: rest => (s.giveBack t p).setStack t rest

theorem interruptEnded_empty {s : State} {t : Nat} (h : s.stack t = []) :
    s.interruptEnded t = s.putBit (DIC_CSTAT_EOI_ERR t) true := by
  unfold State.interruptEnded
  rw [h]

theorem interruptEnded_pops {s : State} {t p : Nat} {l : List Nat} (h : s.stack t = p :: l) :
    s.interruptEnded t = (s.giveBack t p).setStack t l := by
  unfold State.interruptEnded
  rw [h]

section eoi

variable {k : Fin 9} {i : Initiator} {v : BitVec 32} (s : State)

theorem eoiWrite_frame (k : Fin 9) (i : Initiator) (v : BitVec 32) (s : State) :
    Answers { regs := true, dic := true, le := true } s (exec (.eoiWrite k i v) s) :=
  execEoiWrite_answers k i v (Frame.refl _ s) rfl rfl rfl

theorem execEoiWrite_refuses (h : k.val = 1 ∨ mayEoi i k.val = false) : execEoiWrite k i v s = .next s :=
  if_neg (by rcases h with h | h <;> simp [h])

theorem execEoiWrite_ends (hk : k.val ≠ 1) (hm : mayEoi i k.val = true) : execEoiWrite k i v s =
    if bitOf v.toNat 31 = true ∧ levelSource (bitsOf v.toNat 10 0) = true ∧
        (s.interruptEnded k).levelAsserted (bitsOf v.toNat 10 0) = true then
      .next ((s.interruptEnded k).post (bitsOf v.toNat 10 0))
    else .next (s.interruptEnded k) := if_pos ⟨hk, hm⟩

/-- Bit 31 of a word, RESAMPLE, by the size of the word. -/
theorem resample_iff (v : BitVec 32) : bitOf v.toNat 31 = true ↔ 2 ^ 31 ≤ v.toNat := by
  have hv := v.isLt
  simp only [bitOf, beq_iff_eq]
  omega

theorem execEoiWrite_plain (hk : k.val ≠ 1) (hm : mayEoi i k.val = true) (hv : v.toNat < 2 ^ 31) :
    execEoiWrite k i v s = .next (s.interruptEnded k) :=
  (execEoiWrite_ends s hk hm).trans (if_neg fun h => Nat.not_le.mpr hv ((resample_iff v).mp h.1))

/-- With RESAMPLE a level source that is still asserted is posted anew. -/
theorem execEoiWrite_resamples (hk : k.val ≠ 1) (hm : mayEoi i k.val = true) (hv : 2 ^ 31 ≤ v.toNat) :
    execEoiWrite k i v s = .next (if levelSource (bitsOf v.toNat 10 0) = true ∧
        (s.interruptEnded k).levelAsserted (bitsOf v.toNat 10 0) = true then
      (s.interruptEnded k).post (bitsOf v.toNat 10 0) else s.interruptEnded k) := by
  rw [execEoiWrite_ends s hk hm]
  simp only [(resample_iff v).mpr hv, true_and]
  exact (apply_ite Host.Outcome.next _ _ _).symm

end eoi

/-! ### Moderation (R310) -/

theorem moderationIntervalEnd_frame (k : Fin 9) (s : State) :
    Answers { dic := true } s (exec (.moderationIntervalEnd k) s) :=
  execModerationIntervalEnd_answers k (Frame.refl _ s) rfl

theorem execModerationIntervalEnd_rests (k : Fin 9) (s : State)
    (h : s.since (tfind s.dic.lastMod k.val) (s.modInterval k.val) = false) :
    execModerationIntervalEnd k s = .next s := if_neg (Bool.eq_false_iff.mp h)

theorem execModerationIntervalEnd_ends (k : Fin 9) (s : State)
    (h : s.since (tfind s.dic.lastMod k.val) (s.modInterval k.val) = true) : execModerationIntervalEnd k s =
      .next (s.onDic fun y => { y with lastMod := terase s.dic.lastMod k.val }) := if_pos h

/-! ### Sleep (R309) -/

theorem sleepInstruction_frame (n : Fin 9) (s : State) :
    Answers { regs := true } s (exec (.sleepInstruction n) s) :=
  execSleepInstruction_answers n (Frame.refl _ s) rfl

theorem execSleepInstruction_wakes (n : Fin 9) (s : State) (h : n.val = 1 ∨ s.wakeHolds n = true) :
    execSleepInstruction n s = .next s := if_neg (by rcases h with h | h <;> simp [h])

theorem execSleepInstruction_sleeps (n : Fin 9) (s : State) (hn : n.val ≠ 1) (hw : s.wakeHolds n = false) :
    execSleepInstruction n s = .next (s.putBit (DIC_CSTAT_ASLEEP n) true) := if_pos ⟨hn, by simp [hw]⟩

end Sys2Proof.Machine
end

section
/-! What doorbell writes, delivery decisions, ends of interrupt and the controller's timers answer. -/

namespace Sys2Proof.Machine

/-- Settles O40: each command by its equation; an end of interrupt by what it leaves before RESAMPLE. -/
theorem doorbellController : Obligations.DoorbellController := by
  unfold Obligations.DoorbellController
  refine ⟨?posts, ?counts, ?fires, ?timerRests, ?decides, ?decisionRests, ?pops, ?empty, ?resamples, ?refuses,
    ?intervalRests, ?intervalEnds⟩
  case posts =>
    intro s v h
    exact answers_with (doorbellWrite_frame v s) (execDoorbellWrite_posts s h) rfl
  case counts =>
    intro s v hs h
    exact answers_with (doorbellWrite_frame v s) (execDoorbellWrite_counts s h)
      ⟨rd_addSat_same s DIC_BADDB 1 hs.regs (by decide) (by decide), regsBut_incSat _ (RegsBut.refl _ s) rfl⟩
  case fires =>
    intro s g t0 he hx ht
    exact answers_with (groupTimerFire_frame g s) (execGroupTimerFire_fires g s he (since_due hx ht)) rfl
  case timerRests =>
    intro s g h
    exact answers_with (groupTimerFire_frame g s) (execGroupTimerFire_rests g s h) rfl
  case decides =>
    intro s k he hk hr
    exact answers_with (deliveryDecision_frame k s) (execDeliveryDecision_decides k s he hk hr) rfl
  case decisionRests =>
    intro s k h
    exact answers_with (deliveryDecision_frame k s) (execDeliveryDecision_rests k s h) rfl
  case pops =>
    intro s k i v a r hk hm hst hv
    exact answers_with (eoiWrite_frame k i v s) (execEoiWrite_plain s hk hm hv) (interruptEnded_pops hst)
  case empty =>
    intro s k i v hs hk hm hst hv
    refine answers_with (eoiWrite_frame k i v s) (execEoiWrite_plain s hk hm hv) ?_
    rw [interruptEnded_empty hst]
    exact ⟨bit_putBit_same s (DIC_CSTAT_EOI_ERR k) true hs.regs rfl (by simp [DIC_CSTAT_EOI_ERR]),
      regsBut_wr _ _ (RegsBut.refl _ s) rfl⟩
  case resamples =>
    rintro s k i v c hk hm hv rfl
    exact answers_with (eoiWrite_frame k i v s) (execEoiWrite_resamples s hk hm hv)
      ⟨s.interruptEnded k, interruptEnded_empty, fun _ _ => interruptEnded_pops, rfl⟩
  case refuses =>
    intro s k i v h
    exact answers_with (eoiWrite_frame k i v s) (execEoiWrite_refuses s h) rfl
  case intervalRests =>
    intro s k h
    exact answers_with (moderationIntervalEnd_frame k s) (execModerationIntervalEnd_rests k s h) rfl
  case intervalEnds =>
    intro s k t0 hx ht
    exact answers_with (moderationIntervalEnd_frame k s) (execModerationIntervalEnd_ends k s (since_due hx ht)) rfl

end Sys2Proof.Machine
end

section
/-! The vat queues (R186, R187, R193 to R195, R197 to R199, R203, R205): what the operations on a queue and on an
assembly slot leave, and one equation for each case of a command. -/

namespace Sys2Proof.Machine

/-! ### The doorbells above the sources -/

/-- A source up to 4095 writes its PEND word and the words of its group: VQ_NOTICE_BASE may put a notice above source
2047. -/
theorem regsBut_postRaw_wide {l : Nat → Prop} (hl : ∀ a, noteReg a → l a) {s0 s : State} (src : Nat) (hs : src < 4096)
    (h : RegsBut l s0 s) : RegsBut l s0 (s.postRaw src) := by
  have h1 : RegsBut l s0 (s.wr ⟨(DIC_PEND (src / 32)).addr, src % 32, src % 32⟩ 1) :=
    regsBut_wr _ _ h (hl _ (noteReg_dic (by dsimp only [DIC_PEND]; omega)))
  unfold State.postRaw
  dsimp only
  split
  next g hg => exact regsBut_groupEvent hl g (groupOf_lt hg) h1
  next => exact h1

theorem regsBut_post_wide {l : Nat → Prop} (hl : ∀ a, noteReg a → l a) {s0 s : State} (src : Nat) (hs : src < 4096)
    (h : RegsBut l s0 s) : RegsBut l s0 (s.post src) := regsBut_bobDoorbell hl 8 src (regsBut_postRaw_wide hl src hs h)

/-! ### A sample queue set (R187, R201) -/

/-- A sample queue set, before its level doorbell: the record and the words of VQ_SQs_STAT. -/
def State.sqStored (s : State) (q : Nat) (x : SQ) : State :=
  (((s.onVq fun y => { y with sq := tset {} s.vq.sq q x }).wr (VQ_SQ_STAT_LINES q) x.lines).putBit
    (VQ_SQ_STAT_ABOVE q) (s.sqAbove q x)).putBit (VQ_SQ_STAT_FLUSHING q) x.flushing

theorem setSq_eq (s : State) (q : Nat) (x : SQ) : s.setSq q x =
    if s.sqAbove q x = true ∧ ¬ s.bit (VQ_SQ_STAT_ABOVE q) = true then
      (s.sqStored q x).post ((s.sqStored q x).rd VQ_NOTICE_BASE + 64 + q) else s.sqStored q x := rfl

theorem sqStored_vq (s : State) (q : Nat) (x : SQ) :
    (s.sqStored q x).vq = { s.vq with sq := tset {} s.vq.sq q x } := rfl

/-- The level doorbell leaves the vat queues. -/
theorem setSq_vq (s : State) (q : Nat) (x : SQ) :
    (s.setSq q x).vq = { s.vq with sq := tset {} s.vq.sq q x } := by
  have hpost (u : State) (src : Nat) : (u.post src).vq = u.vq :=
    (post_frame (P := { regs := true, dic := true, le := true }) src (Frame.refl _ u) rfl rfl rfl).vq rfl
  rw [setSq_eq]
  split
  · rw [hpost, sqStored_vq]
  · exact sqStored_vq s q x

theorem sqStored_regsBut (s : State) (q : Nat) (x : SQ) :
    RegsBut (fun a => a = (VQ_SQ_STAT q).addr ∨ noteReg a) s (s.sqStored q x) :=
  regsBut_wr _ _ (regsBut_wr _ _ (regsBut_wr _ _ (regsBut_onVq _ (RegsBut.refl _ s)) (Or.inl rfl)) (Or.inl rfl))
    (Or.inl rfl)

theorem setSq_regsBut (s : State) {q : Nat} (hq : q < 32) (x : SQ) :
    RegsBut (fun a => a = (VQ_SQ_STAT q).addr ∨ noteReg a) s (s.setSq q x) := by
  have hbase : (s.sqStored q x).rd VQ_NOTICE_BASE < 2 ^ 11 := rd_lt _ VQ_NOTICE_BASE
  rw [setSq_eq]
  exact regsBut_ite (regsBut_post_wide (fun _ h => Or.inr h) _ (by omega) (sqStored_regsBut s q x))
    (sqStored_regsBut s q x)

theorem setSq_regsWf {s : State} (h : s.regsWf) (q : Nat) (x : SQ) : (s.setSq q x).regsWf :=
  (setSq_frame (P := { regs := true, dic := true, vq := true, le := true }) q x (Frame.refl _ s) rfl rfl rfl
    rfl).regsWf h

/-- A queue's record that is not the empty one reads back as it was set. -/
theorem sq_setSq (s : State) (q : Nat) {x : SQ} (h : x ≠ {}) : (s.setSq q x).sq q = x := by
  unfold State.sq
  rw [setSq_vq]
  unfold tget tset
  rw [if_neg h, tfind_tinsert_same]
  rfl

theorem sq_ne_empty_of_read {x : SQ} (h : x.read ≠ []) : x ≠ {} := fun e => h (congrArg SQ.read e)

theorem sq_ne_empty_of_fill {x : SQ} (h : x.fill ≠ []) : x ≠ {} := fun e => h (congrArg SQ.fill e)

/-! ### The swap of the banks (R187) -/

theorem swap_of_read_empty {x : SQ} (h : x.read = []) : x.swap = { x with read := x.fill, fill := [] } :=
  if_pos (by rw [h]; rfl)

theorem swap_of_read_ne {x : SQ} (h : x.read ≠ []) : x.swap = x := if_neg (by simpa using h)

theorem swap_of_both_empty {x : SQ} (hr : x.read = []) (hf : x.fill = []) : x.swap = x := by
  rw [swap_of_read_empty hr]
  cases x
  cases hr
  cases hf
  rfl

theorem sampleBankSwap_frame (q : Fin 32) (s : State) :
    Answers { regs := true, dic := true, vq := true, le := true } s (exec (.sampleBankSwap q) s) :=
  execSampleBankSwap_answers q (Frame.refl _ s) rfl rfl rfl rfl

/-! ### A packet committed (R187, R193) -/

theorem toLines_ne_nil (source : Nat) (r : Option TRec) (n : Nat) (first : Bool) (bs : List Byte) :
    toLines source r (n + 1) first bs ≠ [] := by
  rw [toLines]
  split <;> exact List.cons_ne_nil _ _

/-- The lines of a sample packet (R184, R206). -/
def State.packetLines (s : State) (q stream stamp : Nat) (p : List Nat) : List VLine :=
  toLines stream none 3 true
    (((stream * 2 ^ 24 + (p.length + 1) * 2 ^ 16 + (s.sq q).seq % 65536) :: stamp % 2 ^ 32 :: p).flatMap (leBytes 4))

theorem samplePacketAt_commits {s : State} {q stream stamp : Nat} {p : List Nat} (he : s.bit VQ_CTRL_SQ_EN = true)
    (hq : s.bit (VQ_SQ_CTRL_ENABLE q) = true) (hc : (s.packetLines q stream stamp p).length ≤ (s.sq q).credits)
    (hf : (s.sq q).flushing = false) : s.samplePacketAt q stream stamp p = s.setSq q { s.sq q with
      fill := (s.sq q).fill ++ s.packetLines q stream stamp p
      credits := (s.sq q).credits - (s.packetLines q stream stamp p).length
      seq := ((s.sq q).seq + 1) % 65536 } :=
  (if_neg (by simp [he, hq])).trans ((if_neg (Nat.not_lt.mpr hc)).trans (if_neg (by simp [hf])))

/-! ### Credits returned (R190) -/

section credits

variable {l : Nat → Prop} (hl : ∀ a, 0x42100000 ≤ a → l a) {s0 s : State}

include hl

theorem regsBut_raiseGrant (c : Nat) (h : RegsBut l s0 s) : RegsBut l s0 (s.raiseGrant c) :=
  regsBut_wr _ _ (regsBut_ite (regsBut_wr _ _ h (hl _ (by dsimp only [VQ_CR_GRANT_CUM]; omega))) h)
    (hl _ (by dsimp only [VQ_CR_STAT]; omega))

/-- Lines returned to a context write its credit registers alone. -/
theorem regsBut_returnLines (c n : Nat) (h : RegsBut l s0 s) : RegsBut l s0 (s.returnLines c n) :=
  regsBut_ite h (regsBut_raiseGrant hl c (regsBut_wr _ _ h (hl _ (by dsimp only [VQ_CR_RETURNED_CUM]; omega))))

end credits

/-! ### A packet cut off (R198) -/

/-- A packet's slot emptied and its charge returned. -/
def State.chargeReturned (s : State) (a c : Nat) : State := (s.setAsm a {}).returnLines c (s.asm a).charged

theorem chargeReturned_regsBut (s : State) (a c : Nat) : RegsBut (0x42100000 ≤ ·) s (s.chargeReturned a c) :=
  regsBut_returnLines (fun _ h => h) c _ (regsBut_onVq _ (RegsBut.refl _ s))

theorem chargeReturned_regsWf {s : State} (h : s.regsWf) (a c : Nat) : (s.chargeReturned a c).regsWf :=
  (returnLines_frame (P := { regs := true, vq := true }) c _ (setAsm_frame a {} (Frame.refl _ s) rfl) rfl).regsWf h

/-- The slots A and B of a context (R203). -/
theorem cutAsm_slot (s : State) (c : Nat) (b : Bool) : s.cutAsm (2 * c + b2n b) =
    (s.chargeReturned (2 * c + b2n b) c).incSat (VQ_IQ_TIMEOUTS (c / 64)) := by
  have hb : b2n b < 2 := by cases b <;> decide
  have hc : (2 * c + b2n b) / 2 = c := by omega
  unfold State.cutAsm State.chargeReturned
  simp only [hc]

theorem since_early_all {s : State} {x : Option Nat} {d : Nat}
    (h : x.all (fun t0 => decide (s.time < t0 + d)) = true) : s.since x d = false := by
  cases x with
  | none => rfl
  | some t0 => exact since_early (Or.inr ⟨t0, rfl, of_decide_eq_true h⟩)

/-! ### PACKET_TIMEOUT (R198) -/

theorem packetTimeout_frame (p : PktRef) (b : Bool) (s : State) :
    Answers { regs := true, dic := true, mg := true, vq := true, le := true } s (exec (.packetTimeout p b) s) :=
  execPacketTimeout_answers p b (Frame.refl _ s) rfl rfl rfl rfl rfl

section ingest

variable {s : State} {c : Fin 4096} {b : Bool}

/-- The words of a refused record are forgotten. -/
theorem execPacketTimeout_forgets (h : s.since (s.asm (2 * c + b2n b)).refused s.pktTimeout = true) :
    execPacketTimeout (.ingest c) b s = .next (s.setAsm (2 * c + b2n b) {}) := congrArg _ (if_pos h)

theorem execPacketTimeout_cuts (hr : s.since (s.asm (2 * c + b2n b)).refused s.pktTimeout = false)
    (h : s.since (s.asm (2 * c + b2n b)).since s.pktTimeout = true) : execPacketTimeout (.ingest c) b s =
      .next ((s.cutAsm (2 * c + b2n b)).log 5 .packetTimeout 0 [(c : Nat)]) :=
  congrArg _ ((if_neg (Bool.eq_false_iff.mp hr)).trans (if_pos h))

theorem execPacketTimeout_keeps (hr : s.since (s.asm (2 * c + b2n b)).refused s.pktTimeout = false)
    (h : s.since (s.asm (2 * c + b2n b)).since s.pktTimeout = false) :
    execPacketTimeout (.ingest c) b s = .next s :=
  congrArg _ ((if_neg (Bool.eq_false_iff.mp hr)).trans (if_neg (Bool.eq_false_iff.mp h)))

end ingest

section sample

variable {s : State} {q : Fin 32} (b : Bool)

theorem execPacketTimeout_cutsSample (h : s.since (s.sq q).since s.pktTimeout = true) :
    execPacketTimeout (.sample q) b s = .next (((s.setSq q { s.sq q with since := none, marked := false }).incSat
      (VQ_SQ_TIMEOUTS q)).log 5 .packetTimeout 0 [4096 + q]) := congrArg _ (if_pos h)

theorem execPacketTimeout_keepsSample (h : s.since (s.sq q).since s.pktTimeout = false) :
    execPacketTimeout (.sample q) b s = .next s := congrArg _ (if_neg (Bool.eq_false_iff.mp h))

end sample

theorem iqTimeouts_not_noteReg {q : Nat} (hq : q < 64) : ¬ noteReg (VQ_IQ_TIMEOUTS q).addr :=
  not_noteReg_of_range (by dsimp only [VQ_IQ_TIMEOUTS]; omega) (by dsimp only [VQ_IQ_TIMEOUTS]; omega)

theorem sqTimeouts_not_noteReg {q : Nat} (hq : q < 32) : ¬ noteReg (VQ_SQ_TIMEOUTS q).addr :=
  not_noteReg_of_range (by dsimp only [VQ_SQ_TIMEOUTS]; omega) (by dsimp only [VQ_SQ_TIMEOUTS]; omega)

/-- The counter of a queue's cut packets after one more of them, logged. -/
theorem log_incSat_rd {s u : State} (f : RF) (hu : u.regsWf) (hrd : u.rd f = s.rd f) (hf : ¬ noteReg f.addr)
    (hh : f.hi < 32) (hl : f.lo ≤ f.hi + 1) (sub : Nat) (ev : Ev) (sev : Nat) (d : List Nat) :
    ((u.incSat f).log sub ev sev d).rd f = min (s.rd f + 1) (2 ^ (f.hi + 1 - f.lo) - 1) := by
  rw [(log_not_noteReg (u.incSat f) sub ev sev d).rd f hf, ← hrd]
  exact rd_addSat_same u f 1 hu hh hl

/-- A log record and a counter leave the vat queues. -/
theorem log_incSat_vq (u : State) (f : RF) (sub : Nat) (ev : Ev) (sev : Nat) (d : List Nat) :
    ((u.incSat f).log sub ev sev d).vq = u.vq :=
  (log_frame (P := { regs := true, mg := true }) sub ev sev d (incSat_frame f (Frame.refl _ u) rfl) rfl rfl).vq rfl

end Sys2Proof.Machine
end

section
/-! What a packet's timeout and the swap of a sample queue's banks leave. -/

namespace Sys2Proof.Machine

/-- Settles O47: the counter is not one of the registers that the returned charge, the log record or the level doorbell
writes. -/
theorem packetTimeoutRule : Obligations.PacketTimeoutRule := by
  unfold Obligations.PacketTimeoutRule
  refine ⟨?cuts, ?keeps, ?cutsSample, ?keepsSample, ?atReset⟩
  case cuts =>
    intro s c b t0 hs hr hx ht
    have hq : (c : Nat) / 64 < 64 := by omega
    have hrd : (s.chargeReturned (2 * c + b2n b) c).rd (VQ_IQ_TIMEOUTS (c / 64)) = s.rd (VQ_IQ_TIMEOUTS (c / 64)) :=
      (chargeReturned_regsBut s _ c).rd _ (by dsimp only [VQ_IQ_TIMEOUTS]; omega)
    refine answers_with (packetTimeout_frame _ b s)
      (execPacketTimeout_cuts (since_early (Or.inl hr)) (since_due hx ht)) ⟨_, rfl, ?_⟩
    rw [cutAsm_slot]
    exact ⟨log_incSat_vq _ _ _ _ _ _,
      log_incSat_rd _ (chargeReturned_regsWf hs.regs _ c) hrd (iqTimeouts_not_noteReg hq)
        (show 15 < 32 by decide) (Nat.zero_le _) _ _ _ _,
      regsBut_log (fun _ h => Or.inr h) _ _ _ _ (regsBut_incSat _ (RegsBut.refl _ _) (Or.inl rfl))⟩
  case keeps =>
    intro s c b hr h
    exact answers_with (packetTimeout_frame _ b s)
      (execPacketTimeout_keeps (since_early (Or.inl hr)) (since_early_all h)) rfl
  case cutsSample =>
    intro s q b t0 hs hx ht
    have hn := sqTimeouts_not_noteReg q.isLt
    have hrd (x : SQ) : (s.setSq q x).rd (VQ_SQ_TIMEOUTS q) = s.rd (VQ_SQ_TIMEOUTS q) :=
      (setSq_regsBut s q.isLt x).rd _ (not_or.mpr ⟨by dsimp only [VQ_SQ_TIMEOUTS, VQ_SQ_STAT]; omega, hn⟩)
    exact answers_with (packetTimeout_frame _ b s) (execPacketTimeout_cutsSample b (since_due hx ht))
      ⟨(log_incSat_vq _ _ _ _ _ _).trans (setSq_vq s q _),
        log_incSat_rd _ (setSq_regsWf hs.regs _ _) (hrd _) hn (show 15 < 32 by decide) (Nat.zero_le _) _ _ _ _⟩
  case keepsSample =>
    intro s q b h
    exact answers_with (packetTimeout_frame _ b s) (execPacketTimeout_keepsSample b (since_early_all h)) rfl
  case atReset => decide +kernel

/-- Settles O48: the swap by its cases; a commit appends the packet's lines, of which there is at least one. -/
theorem bankSwapRule : Obligations.BankSwapRule := by
  unfold Obligations.BankSwapRule
  refine ⟨?swaps, ?reading, ?empty, ?commits⟩
  case swaps =>
    intro s q hr hf
    refine answers_with (sampleBankSwap_frame q s) rfl ?_
    rw [swap_of_read_empty hr]
    exact sq_setSq s q (sq_ne_empty_of_read hf)
  case reading =>
    intro s q hr
    refine answers_with (sampleBankSwap_frame q s) rfl ?_
    rw [swap_of_read_ne hr]
    exact sq_setSq s q (sq_ne_empty_of_read hr)
  case empty =>
    intro s q hr hf
    refine answers_with (sampleBankSwap_frame q s) rfl ?_
    rw [swap_of_both_empty hr hf]
    exact setSq_vq s q _
  case commits =>
    intro s q stream stamp p he hq hc hf _
    have hl : s.packetLines q stream stamp p ≠ [] := toLines_ne_nil _ _ _ _ _
    rw [samplePacketAt_commits he hq hc hf,
      sq_setSq s q (sq_ne_empty_of_fill (List.append_ne_nil_of_right_ne_nil _ hl))]
    exact ⟨rfl, _, hl, rfl⟩

end Sys2Proof.Machine
end

section
/-! The commands of the vat queues (R186, R194, R195, R197, R199, R203, R205): one equation for each case. -/

namespace Sys2Proof.Machine

/-! ### BAR2 writes (R203, R205) -/

section bar2

theorem bar2Write_frame (off : Nat) (bs : List (BitVec 8)) (s : State) :
    Answers { regs := true, dic := true, vq := true, le := true, tw := true } s (exec (.bar2Write off bs) s) :=
  execBar2Write_answers off bs (Frame.refl _ s) rfl rfl rfl rfl rfl

variable {off : Nat} {bs : List (BitVec 8)} {s : State}

theorem execBar2Write_drops (ha : s.bit VQ_CTRL_ACCEPT = false) :
    execBar2Write off bs s = .next (s.incSat VQ_STBY_DISCARD) := if_pos (Bool.eq_false_iff.mp ha)

theorem execBar2Write_beyond (ha : s.bit VQ_CTRL_ACCEPT = true) (ho : 4096 * 4096 ≤ off) :
    execBar2Write off bs s = .next s := (if_neg (not_not_intro ha)).trans (if_pos ho)

theorem execBar2Write_inPages (ha : s.bit VQ_CTRL_ACCEPT = true) (ho : off < 4096 * 4096) : execBar2Write off bs s =
    if s.badBar2 off bs.length = true then .next (s.incSat (VQ_IQ_BADWR (off / 4096 / 64)))
    else .next (s.asmWords (2 * (off / 4096) + off % 4096 / 128) (off % 128 / 8) none 16 bs) :=
  (if_neg (not_not_intro ha)).trans (if_neg (Nat.not_le.mpr ho))

theorem execBar2Write_counts (ha : s.bit VQ_CTRL_ACCEPT = true) (ho : off < 4096 * 4096)
    (hb : s.badBar2 off bs.length = true) :
    execBar2Write off bs s = .next (s.incSat (VQ_IQ_BADWR (off / 4096 / 64))) :=
  (execBar2Write_inPages ha ho).trans (if_pos hb)

theorem execBar2Write_assembles (ha : s.bit VQ_CTRL_ACCEPT = true) (ho : off < 4096 * 4096)
    (hb : s.badBar2 off bs.length = false) : execBar2Write off bs s =
      .next (s.asmWords (2 * (off / 4096) + off % 4096 / 128) (off % 128 / 8) none 16 bs) :=
  (execBar2Write_inPages ha ho).trans (if_neg (Bool.eq_false_iff.mp hb))

end bar2

/-! ### The unpacker and the field streams (R186, R206, R244, R272) -/

theorem unpackComplete_frame (s : State) :
    Answers { regs := true, mg := true, pb := true, vq := true, le := true, tw := true } s (exec .unpackComplete s) :=
  execUnpackComplete_answers (Frame.refl _ s) rfl rfl rfl rfl rfl rfl

theorem execUnpackComplete_unpacks {s : State} (h : s.vq.unpacking = true) :
    execUnpackComplete s = .next s.unpack := if_pos h

theorem execUnpackComplete_rests {s : State} (h : s.vq.unpacking = false) : execUnpackComplete s = .next s :=
  if_neg (Bool.eq_false_iff.mp h)

theorem fieldStreamPublish_frame (k : Fin 18) (p : StreamPart) (s : State) :
    Answers { regs := true, dic := true, vq := true, le := true, sn := true, tw := true } s
      (exec (.fieldStreamPublish k p) s) := execFieldStreamPublish_answers k p (Frame.refl _ s) rfl rfl rfl rfl rfl rfl

/-- A field stream is due: one of the streams 0 to 5 at its period, or the trace while it runs. -/
def State.streamDue (s : State) (k : Nat) : Prop :=
  (k < 6 ∧ (tfind s.sn.streams k).all (fun t0 => decide (t0 + streamPeriod k ≤ s.time)) = true) ∨
    (k = 17 ∧ s.traceRuns = true)

/-- A stream's packet published whole, or begun and left incomplete; its time noted. -/
def State.streamSent (s : State) (k : Nat) (p : StreamPart) : State :=
  if p.whole then (s.onSn fun y => { y with streams := tinsert y.streams k s.time }).publishAt k
    (s.streamStamp k p.samples) (s.streamWords k p.samples)
  else (s.onSn fun y => { y with streams := tinsert y.streams k s.time }).beginPacket k

theorem execFieldStreamPublish_sends {k : Fin 18} (p : StreamPart) {s : State} (h : s.streamDue k) :
    execFieldStreamPublish k p s = .next (s.streamSent k p) := by
  refine congrArg _ (if_pos ?_)
  unfold State.streamDue at h
  cases hx : tfind s.sn.streams k <;> rw [hx] at h <;> exact h

theorem execFieldStreamPublish_rests {k : Fin 18} (p : StreamPart) {s : State} (h : ¬ s.streamDue k) :
    execFieldStreamPublish k p s = .next s := by
  refine congrArg _ (if_neg ?_)
  unfold State.streamDue at h
  cases hx : tfind s.sn.streams k <;> rw [hx] at h <;> exact h

/-! ### Reads of a sample queue (R194, R195) -/

/-- The parts that a read of a sample queue may touch. -/
def popParts : Parts := { regs := true, dic := true, mb := true, vq := true, le := true }

theorem sqPopRead_frame (x : SqRead) (s : State) : Answers popParts s (exec (.sqPopRead x) s) :=
  execSqPopRead_answers x (Frame.refl _ s) rfl rfl rfl rfl rfl

theorem popStallEnd_frame (q : Fin 32) (s : State) : Answers popParts s (exec (.popStallEnd q) s) :=
  execPopStallEnd_answers q (Frame.refl _ s) rfl rfl rfl rfl rfl

theorem popDeadline_frame (q : Fin 32) (s : State) :
    Answers { regs := true, mb := true, vq := true } s (exec (.popDeadline q) s) :=
  execPopDeadline_answers q (Frame.refl _ s) rfl rfl rfl

section pop

variable {s u : State} {q : Fin 32} {r : SqReader}

theorem popLine_none (r : SqReader) (h : (s.sq q).swap.read = []) : s.popLine q r = none := by
  unfold State.popLine
  dsimp only
  rw [h]

theorem execSqPopRead_waiting (hw : s.waitsAt q r = true) : execSqPopRead ⟨q, r⟩ s = .next s := if_pos hw

theorem execSqPopRead_takes (hw : s.waitsAt q r = false) (hp : s.popLine q r = some u) :
    execSqPopRead ⟨q, r⟩ s = .next (u.creditsBack q) := by
  unfold execSqPopRead
  rw [if_neg (Bool.eq_false_iff.mp hw)]
  dsimp only
  rw [hp]

theorem execSqPopRead_noLine (hw : s.waitsAt q r = false) (hp : s.popLine q r = none) : execSqPopRead ⟨q, r⟩ s =
    .next (if s.pastDeadline (s.popDeadlineOf q r) = true then s.popEmpty q r false
      else s.popStall q ⟨r, s.time, s.popDeadlineOf q r⟩) := by
  unfold execSqPopRead
  rw [if_neg (Bool.eq_false_iff.mp hw)]
  dsimp only
  rw [hp]

theorem execSqPopRead_ends (hw : s.waitsAt q r = false) (hp : s.popLine q r = none)
    (hd : s.pastDeadline (s.popDeadlineOf q r) = true) :
    execSqPopRead ⟨q, r⟩ s = .next (s.popEmpty q r false) :=
  (execSqPopRead_noLine hw hp).trans (congrArg _ (if_pos hd))

theorem execSqPopRead_stalls (hw : s.waitsAt q r = false) (hp : s.popLine q r = none)
    (hd : s.pastDeadline (s.popDeadlineOf q r) = false) :
    execSqPopRead ⟨q, r⟩ s = .next (s.popStall q ⟨r, s.time, s.popDeadlineOf q r⟩) :=
  (execSqPopRead_noLine hw hp).trans (congrArg _ (if_neg (Bool.eq_false_iff.mp hd)))

theorem execPopStallEnd_takes {x : SqStall} {l : List SqStall} (hs : (s.sq q).stalls = x :: l)
    (hp : s.popLine q x.reader = some u) : execPopStallEnd q s = .next (u.creditsBack q) := by
  unfold execPopStallEnd
  rw [hs]
  dsimp only
  rw [hp]

theorem execPopStallEnd_rests (h : (s.sq q).stalls = [] ∨ (s.sq q).swap.read = []) :
    execPopStallEnd q s = .next s := by
  unfold execPopStallEnd
  cases hs : (s.sq q).stalls with
  | nil => rfl
  | cons x l =>
    dsimp only
    rw [popLine_none x.reader (h.resolve_left (by simp [hs]))]

end pop

/-! ### Flush and reset (R197, R199) -/

/-- The parts that a flush may touch. -/
def flushParts : Parts := { regs := true, dic := true, vq := true, le := true }

theorem flushRequest_frame (q : Fin 96) (s : State) : Answers flushParts s (exec (.flushRequest q) s) :=
  execFlushRequest_answers q (Frame.refl _ s) rfl rfl rfl rfl

theorem flushPoint_frame (q : Fin 96) (s : State) : Answers flushParts s (exec (.flushPoint q) s) :=
  execFlushPoint_answers q (Frame.refl _ s) rfl rfl rfl rfl

theorem queueReset_frame (q : Fin 96) (s : State) :
    Answers { regs := true, dic := true, mg := true, mb := true, vq := true, le := true } s (exec (.queueReset q) s) :=
  execQueueReset_answers q (Frame.refl _ s) rfl rfl rfl rfl rfl rfl

section flush

variable {s : State} {q : Fin 96}

theorem execFlushRequest_ingest (hq : (q : Nat) < 64) (hf : (s.iq q).flushing = false) : execFlushRequest q s =
    .next (((s.queueAsms q).foldl (fun u a => u.setAsm a { u.asm a with marked := (u.asm a).since.isSome }) s).setIq q
      { s.iq q with flushing := true }) := (if_pos hq).trans (if_neg (Bool.eq_false_iff.mp hf))

theorem execFlushRequest_sample (hq : 64 ≤ (q : Nat)) (hf : (s.sq (q - 64)).flushing = false) :
    execFlushRequest q s = .next (s.setSq (q - 64)
      { s.sq (q - 64) with flushing := true, marked := (s.sq (q - 64)).since.isSome }) :=
  (if_neg (Nat.not_lt.mpr hq)).trans (if_neg (Bool.eq_false_iff.mp hf))

theorem execFlushRequest_rests (h : (if (q : Nat) < 64 then (s.iq q).flushing else (s.sq (q - 64)).flushing) = true) :
    execFlushRequest q s = .next s := by
  by_cases hq : (q : Nat) < 64
  · rw [if_pos hq] at h
    exact (if_pos hq).trans (if_pos h)
  · rw [if_neg hq] at h
    exact (if_neg hq).trans (if_pos h)

theorem execFlushPoint_ingest (hq : (q : Nat) < 64) (hf : (s.iq q).flushing = true)
    (hm : (s.queueAsms q).all (fun a => !(s.asm a).marked) = true) : execFlushPoint q s = .next (s.flushIq q) :=
  (if_pos hq).trans (if_pos ⟨hf, hm⟩)

theorem execFlushPoint_sample (hq : 64 ≤ (q : Nat)) (hf : (s.sq (q - 64)).flushing = true)
    (hm : (s.sq (q - 64)).marked = false) :
    execFlushPoint q s = .next ((s.flushSq (q - 64)).creditsBack (q - 64)) :=
  (if_neg (Nat.not_lt.mpr hq)).trans (if_pos ⟨hf, hm⟩)

theorem execFlushPoint_rests
    (h : (if (q : Nat) < 64 then (s.iq q).flushing && (s.queueAsms q).all (fun a => !(s.asm a).marked)
      else (s.sq (q - 64)).flushing && !(s.sq (q - 64)).marked) = false) : execFlushPoint q s = .next s := by
  by_cases hq : (q : Nat) < 64
  · rw [if_pos hq] at h
    exact (if_pos hq).trans (if_neg fun ⟨hf, hm⟩ => Bool.eq_false_iff.mp h (by rw [hf, hm]; rfl))
  · rw [if_neg hq] at h
    exact (if_neg hq).trans (if_neg fun ⟨hf, hm⟩ => Bool.eq_false_iff.mp h (by rw [hf, hm]; rfl))

end flush

end Sys2Proof.Machine
end

section
/-! What writes to the vat, the unpacker, packets, pops, flushes and resets of the queues answer. -/

namespace Sys2Proof.Machine

/-- Settles O32: each command by the equation of its case, inside the frame of the command. -/
theorem vatQueues : Obligations.VatQueues := by
  unfold Obligations.VatQueues
  refine ⟨?drops, ?assembles, ?counts, ?beyond, ?cuts, ?forgets, ?keeps, ?cutsSample, ?keepsSample, ?unpackRests,
    ?unpacks, ?sends, ?streamRests, ?swaps, ?waiting, ?takes, ?ends, ?stalls, ?stallTakes, ?stallRests, ?deadline,
    ?marksSample, ?marksIngest, ?requestRests, ?flushesIngest, ?flushesSample, ?pointRests, ?resets, ?wakes, ?sleeps⟩
  case drops =>
    intro s off bs hs ha
    exact answers_with (bar2Write_frame off bs s) (execBar2Write_drops ha)
      ⟨rd_addSat_same s VQ_STBY_DISCARD 1 hs.regs (by decide) (by decide), regsBut_incSat _ (RegsBut.refl _ s) rfl⟩
  case assembles =>
    intro s off bs ha ho hb
    exact answers_with (bar2Write_frame off bs s) (execBar2Write_assembles ha ho hb) rfl
  case counts =>
    intro s off bs ha ho hb
    exact answers_with (bar2Write_frame off bs s) (execBar2Write_counts ha ho hb) rfl
  case beyond =>
    intro s off bs ha ho
    exact answers_with (bar2Write_frame off bs s) (execBar2Write_beyond ha ho) rfl
  case cuts =>
    intro s c b t0 hr hx ht
    exact answers_with (packetTimeout_frame _ b s)
      (execPacketTimeout_cuts (since_early (Or.inl hr)) (since_due hx ht)) rfl
  case forgets =>
    intro s c b h
    exact answers_with (packetTimeout_frame _ b s) (execPacketTimeout_forgets h) rfl
  case keeps =>
    intro s c b hr h
    exact answers_with (packetTimeout_frame _ b s) (execPacketTimeout_keeps hr h) rfl
  case cutsSample =>
    intro s q b t0 hx ht
    exact answers_with (packetTimeout_frame _ b s) (execPacketTimeout_cutsSample b (since_due hx ht)) rfl
  case keepsSample =>
    intro s q b h
    exact answers_with (packetTimeout_frame _ b s) (execPacketTimeout_keepsSample b h) rfl
  case unpackRests =>
    intro s h
    exact answers_with (unpackComplete_frame s) (execUnpackComplete_rests h) rfl
  case unpacks =>
    intro s h
    exact answers_with (unpackComplete_frame s) (execUnpackComplete_unpacks h) rfl
  case sends =>
    intro s k l w h
    exact answers_with (fieldStreamPublish_frame k ⟨l, w⟩ s) (execFieldStreamPublish_sends ⟨l, w⟩ h) ⟨_, rfl, rfl⟩
  case streamRests =>
    intro s k l w h1 h2
    exact answers_with (fieldStreamPublish_frame k ⟨l, w⟩ s)
      (execFieldStreamPublish_rests ⟨l, w⟩ (not_or.mpr ⟨h1, h2⟩)) rfl
  case swaps =>
    intro s q
    exact answers_with (sampleBankSwap_frame q s) rfl (setSq_vq s q _)
  case waiting =>
    intro s q r hw
    exact answers_with (sqPopRead_frame ⟨q, r⟩ s) (execSqPopRead_waiting hw) rfl
  case takes =>
    intro s q r u hw hp
    exact answers_with (sqPopRead_frame ⟨q, r⟩ s) (execSqPopRead_takes hw hp) rfl
  case ends =>
    intro s q r hw hp hd
    exact answers_with (sqPopRead_frame ⟨q, r⟩ s) (execSqPopRead_ends hw hp hd) rfl
  case stalls =>
    intro s q r hw hp hd
    exact answers_with (sqPopRead_frame ⟨q, r⟩ s) (execSqPopRead_stalls hw hp hd) ⟨onVq_vq s _, onVq_regs s _⟩
  case stallTakes =>
    intro s q x l u hs hp
    exact answers_with (popStallEnd_frame q s) (execPopStallEnd_takes hs hp) rfl
  case stallRests =>
    intro s q h
    exact answers_with (popStallEnd_frame q s) (execPopStallEnd_rests h) rfl
  case deadline =>
    intro s q
    exact answers_with (popDeadline_frame q s) rfl rfl
  case marksSample =>
    intro s q hq hf
    exact answers_with (flushRequest_frame q s) (execFlushRequest_sample hq hf) (setSq_vq s _ _)
  case marksIngest =>
    intro s q hq hf
    exact answers_with (flushRequest_frame q s) (execFlushRequest_ingest hq hf) rfl
  case requestRests =>
    intro s q h
    exact answers_with (flushRequest_frame q s) (execFlushRequest_rests h) rfl
  case flushesIngest =>
    intro s q hq hf hm
    exact answers_with (flushPoint_frame q s) (execFlushPoint_ingest hq hf hm) rfl
  case flushesSample =>
    intro s q hq hf hm
    exact answers_with (flushPoint_frame q s) (execFlushPoint_sample hq hf hm) rfl
  case pointRests =>
    intro s q h
    exact answers_with (flushPoint_frame q s) (execFlushPoint_rests h) rfl
  case resets =>
    intro s q
    exact answers_with (queueReset_frame q s) rfl ⟨_, rfl, rfl⟩
  case wakes =>
    intro s n h
    exact answers_with (sleepInstruction_frame n s) (execSleepInstruction_wakes n s h) rfl
  case sleeps =>
    intro s n hs hn hw
    exact answers_with (sleepInstruction_frame n s) (execSleepInstruction_sleeps n s hn hw)
      ⟨bit_putBit_same s (DIC_CSTAT_ASLEEP n) true hs.regs rfl (by simp [DIC_CSTAT_ASLEEP]),
        regsBut_wr _ _ (RegsBut.refl _ s) rfl⟩

end Sys2Proof.Machine
end

section
/-! The starts, running faults and staging of the pumps and fans (R211 to R217, R389): one equation for each case of a
command. -/

namespace Sys2Proof.Machine

/-! ### Starts (R211, R212) -/

section channel

variable {s : State} {k : Fin 12}

theorem pumpKick_frame (k : Fin 12) (s : State) : Answers { regs := true, pf := true } s (exec (.pumpKick k) s) :=
  execPumpKick_answers k (Frame.refl _ s) rfl rfl

theorem execPumpKick_starts (hm : s.sys.mode.fromTable = true) (h : s.mayKick k = true) :
    execPumpKick k s = .next (s.startKick k) := congrArg _ (if_pos ⟨hm, h⟩)

theorem execPumpKick_rests (h : s.sys.mode.fromTable = false ∨ s.mayKick k = false) : execPumpKick k s = .next s :=
  congrArg _ (if_neg (by rcases h with h | h <;> simp [h]))

theorem kickEnd_frame (k : Fin 12) (n b : Nat) (s : State) :
    Answers { regs := true, dic := true, mg := true, le := true, pf := true } s (exec (.kickEnd k n b) s) :=
  execKickEnd_answers k n b (Frame.refl _ s) rfl rfl rfl rfl rfl

theorem execKickEnd_ends (n b : Nat) (hs : s.rd (pfState k) = 1) (ht : s.since (s.pfCh k).kickAt (secs 1) = true) :
    execKickEnd k n b s = .next (s.endKick k n b) := congrArg _ (if_pos ⟨hs, ht⟩)

theorem execKickEnd_rests (n b : Nat) (h : s.rd (pfState k) ≠ 1 ∨ s.since (s.pfCh k).kickAt (secs 1) = false) :
    execKickEnd k n b s = .next s := congrArg _ (if_neg (by rcases h with h | h <;> simp [h]))

theorem kickRetry_frame (k : Fin 12) (s : State) : Answers { regs := true, pf := true } s (exec (.kickRetry k) s) :=
  execKickRetry_answers k (Frame.refl _ s) rfl rfl

theorem execKickRetry_kicks (hs : s.rd (pfState k) = 1) (hk : (s.pfCh k).kickAt = none) (hn : s.rd (pfRetry k) < 3)
    (ht : s.since (s.pfCh k).reqAt (secs (5 * (s.rd (pfRetry k) + 1))) = true) :
    execKickRetry k s = .next (s.kick k (s.rd (pfRetry k) + 1)) :=
  congrArg _ (if_pos ⟨hs, Option.isNone_iff_eq_none.mpr hk, hn, ht⟩)

theorem execKickRetry_rests (h : s.rd (pfState k) ≠ 1 ∨ (s.pfCh k).kickAt.isSome = true ∨ 3 ≤ s.rd (pfRetry k) ∨
    s.since (s.pfCh k).reqAt (secs (5 * (s.rd (pfRetry k) + 1))) = false) : execKickRetry k s = .next s := by
  refine congrArg _ (if_neg fun ⟨hs, hk, hn, ht⟩ => ?_)
  rcases h with h | h | h | h
  · exact h hs
  · simp [Option.isNone_iff_eq_none.mp hk] at h
  · exact Nat.not_lt.mpr h hn
  · exact Bool.false_ne_true (h.symm.trans ht)

/-! ### The tach (R213) -/

theorem tachLoss_frame (k : Fin 12) (s : State) :
    Answers { regs := true, dic := true, mg := true, le := true, pf := true } s (exec (.tachLoss k) s) :=
  execTachLoss_answers k (Frame.refl _ s) rfl rfl rfl rfl rfl

theorem execTachLoss_running (hl : s.tachLost k = true) (hs : s.rd (pfState k) = 2) : execTachLoss k s =
    if (s.wr (pfTach k) 0).inBand k = true then
      .next (((s.wr (pfTach k) 0).pfTo k 3).log 6 (if (k : Nat) < 4 then .pumpState else .fanState) 1 [(k : Nat), 3])
    else .next ((s.wr (pfTach k) 0).pfFail k 4) := (if_neg (not_not.mpr hl)).trans (if_pos hs)

theorem execTachLoss_again (hl : s.tachLost k = true) (hs : s.rd (pfState k) = 3) :
    execTachLoss k s = .next ((s.wr (pfTach k) 0).setPfCh k { s.pfCh k with backSince := none }) :=
  (if_neg (not_not.mpr hl)).trans ((if_neg (by omega)).trans (if_pos hs))

theorem execTachLoss_rests (h : s.tachLost k = false ∨ (s.rd (pfState k) ≠ 2 ∧ s.rd (pfState k) ≠ 3)) :
    execTachLoss k s = .next s := by
  cases hl : s.tachLost k with
  | false => exact if_pos (by simp [hl])
  | true =>
    obtain ⟨h2, h3⟩ := h.resolve_left (by simp [hl])
    exact (if_neg (not_not.mpr hl)).trans ((if_neg h2).trans (if_neg h3))

/-- Tach pulses brought in: the speed measured and the moment of them. -/
def State.tachSeen (s : State) (k rpm : Nat) : State :=
  (s.wr (pfTach k) (min rpm 65535)).setPfCh k { s.pfCh k with pulseAt := some s.time }

theorem tachRestore_frame (k : Fin 12) (rpm : Nat) (s : State) :
    Answers { regs := true, pf := true } s (exec (.tachRestore k rpm) s) :=
  execTachRestore_answers k rpm (Frame.refl _ s) rfl rfl

/-- What the pulses leave of a channel: in TACH_LOST_RUNNING the time since they came back is kept, and after 1 s of
them the channel runs again. -/
def State.tachBack (u : State) (k : Nat) : State :=
  if u.rd (pfState k) = 3 then
    if (u.pfCh k).backSince.getD u.time + secs 1 ≤ u.time then (u.pfTo k 2).distribute
    else u.setPfCh k { u.pfCh k with backSince := some ((u.pfCh k).backSince.getD u.time) }
  else u

theorem execTachRestore_eq (rpm : Nat) : execTachRestore k rpm s = .next ((s.tachSeen k rpm).tachBack k) := by
  unfold State.tachBack
  rw [apply_ite Host.Outcome.next, apply_ite Host.Outcome.next]
  rfl

theorem tachBack_other {u : State} {k : Nat} (h : u.rd (pfState k) ≠ 3) : u.tachBack k = u := if_neg h

theorem secs_pos {n : Nat} (h : 0 < n) : 0 < secs n := Nat.mul_pos h (by decide)

theorem tachBack_first {u : State} {k now : Nat} (ht : u.time = now) (h : u.rd (pfState k) = 3)
    (hb : (u.pfCh k).backSince = none) :
    u.tachBack k = u.setPfCh k { u.pfCh k with backSince := some now } := by
  have hd := secs_pos Nat.one_pos
  unfold State.tachBack
  rw [if_pos h, hb, Option.getD_none, if_neg (by omega), ht]

theorem tachBack_dated {u : State} {k now t0 : Nat} (ht : u.time = now) (h : u.rd (pfState k) = 3)
    (hb : (u.pfCh k).backSince = some t0) : u.tachBack k = if t0 + secs 1 ≤ now then (u.pfTo k 2).distribute
      else u.setPfCh k { u.pfCh k with backSince := some t0 } := by
  unfold State.tachBack
  rw [if_pos h, hb, Option.getD_some, ht]

theorem currentBandExit_frame (k : Fin 12) (s : State) :
    Answers { regs := true, dic := true, mg := true, le := true, pf := true } s (exec (.currentBandExit k) s) :=
  execCurrentBandExit_answers k (Frame.refl _ s) rfl rfl rfl rfl rfl

theorem execCurrentBandExit_fails (hs : s.rd (pfState k) = 3) (h : s.inBand k = false) :
    execCurrentBandExit k s = .next (s.pfFail k 4) := congrArg _ (if_pos ⟨hs, by simp [h]⟩)

theorem execCurrentBandExit_rests (h : s.rd (pfState k) ≠ 3 ∨ s.inBand k = true) :
    execCurrentBandExit k s = .next s := congrArg _ (if_neg (by rcases h with h | h <;> simp [h]))

theorem channelReenable_frame (k : Fin 12) (s : State) :
    Answers { regs := true, pf := true, fb := true } s (exec (.channelReenable k) s) :=
  execChannelReenable_answers k (Frame.refl _ s) rfl rfl rfl

theorem execChannelReenable_enables (h : s.bit (pfEnable k) = false) :
    execChannelReenable k s = .next (s.reenable k) := congrArg _ (if_neg (by simp [h]))

theorem execChannelReenable_rests (h : s.bit (pfEnable k) = true) : execChannelReenable k s = .next s :=
  congrArg _ (if_pos h)

end channel

/-! ### A channel's record beside the registers -/

theorem regsBut_setPfCh {l : Nat → Prop} {s0 s : State} (k : Nat) (x : PfCh) (h : RegsBut l s0 s) :
    RegsBut l s0 (s.setPfCh k x) := regsBut_onPf _ h

theorem setPfCh_rd (s : State) (k : Nat) (x : PfCh) (f : RF) : (s.setPfCh k x).rd f = s.rd f := onPf_rd s _ f

theorem setPfCh_bit (s : State) (k : Nat) (x : PfCh) (f : RF) : (s.setPfCh k x).bit f = s.bit f := onPf_bit s _ f

theorem setPfCh_pf (s : State) (k : Nat) (x : PfCh) :
    (s.setPfCh k x).pf = { s.pf with ch := tset {} s.pf.ch k x } := onPf_pf s _

theorem setPfCh_regsWf {s : State} (h : s.regsWf) (k : Nat) (x : PfCh) : (s.setPfCh k x).regsWf :=
  regsWf_congr (onPf_regs s _) h

/-! ### The drive fault of a pump (R214) -/

section drive

variable {s : State} {n : Nat} {closed can : Bool}

/-- The fault contact as FAULT_POL reads it. -/
def State.faultInput (s : State) (n : Nat) (closed : Bool) : Bool :=
  if s.bit (PF_PCFG_FAULT_POL n) then closed else !closed

/-- Since when neither the contact nor the drive has shown a fault. -/
def State.driveClear (s : State) (n : Nat) (closed can : Bool) : Option Nat :=
  if (s.faultInput n closed || can) = true then none else some ((s.pfCh n).clearSince.getD s.time)

/-- The drive-fault input and the drive's report brought in. -/
def State.driveRead (s : State) (n : Nat) (closed can : Bool) : State :=
  (s.setPfCh n { s.pfCh n with canFault := can, clearSince := s.driveClear n closed can }).putBit
    (PF_PSTAT_FAULT_IN n) (s.faultInput n closed)

theorem driveRead_enable : (s.driveRead n closed can).bit (PF_PCFG_ENABLE n) = s.bit (PF_PCFG_ENABLE n) :=
  (bit_putBit_ne _ _ _ _ (by simp only [PF_PCFG_ENABLE, PF_PSTAT_FAULT_IN]; omega)).trans (setPfCh_bit s n _ _)

theorem driveRead_state (h : s.regsWf) :
    (s.driveRead n closed can).rd (PF_PSTAT_STATE n) = s.rd (PF_PSTAT_STATE n) :=
  (rd_wr_beside (PF_PSTAT_FAULT_IN n) (PF_PSTAT_STATE n) _ (setPfCh_regsWf h n _)
    ⟨rfl, by simp [PF_PSTAT_FAULT_IN], by simp [PF_PSTAT_FAULT_IN], by simp [PF_PSTAT_FAULT_IN, PF_PSTAT_STATE]⟩).trans
    (setPfCh_rd s n _ _)

theorem driveRead_faultIn (h : s.regsWf) :
    (s.driveRead n closed can).bit (PF_PSTAT_FAULT_IN n) = s.faultInput n closed :=
  bit_putBit_same _ _ _ (setPfCh_regsWf h n _) rfl (by simp [PF_PSTAT_FAULT_IN])

theorem driveRead_regsBut : RegsBut (· = (PF_PSTAT_FAULT_IN n).addr) s (s.driveRead n closed can) :=
  regsBut_wr _ _ (regsBut_setPfCh n _ (RegsBut.refl _ s)) rfl

theorem driveRead_pf : (s.driveRead n closed can).pf = { s.pf with
    ch := tset {} s.pf.ch n { s.pfCh n with canFault := can, clearSince := s.driveClear n closed can } } :=
  (wr_pf _ _ _).trans (setPfCh_pf s n _)

/-- Neither ENABLE nor STATE is written with FAULT_IN. -/
theorem driveFault_eq (h : s.regsWf) : s.driveFault n closed can =
    if ((s.faultInput n closed || can) && s.bit (PF_PCFG_ENABLE n) && s.rd (PF_PSTAT_STATE n) != 6) = true then
      ((s.driveRead n closed can).wr (PF_SPEED n) 0).pfFail n 6
    else s.driveRead n closed can := by
  rw [← driveRead_enable (s := s) (closed := closed) (can := can), ← driveRead_state (closed := closed) (can := can) h]
  rfl

theorem driveFault_answers (n : Fin 4) (closed can : Bool) (s : State) :
    Answers { regs := true, dic := true, mg := true, le := true, pf := true } s (exec (.driveFault n closed can) s) :=
  execDriveFault_answers n closed can (Frame.refl _ s) rfl rfl rfl rfl rfl

theorem driveFault_stops (h : s.regsWf) (he : s.bit (PF_PCFG_ENABLE n) = true) (hs : s.rd (PF_PSTAT_STATE n) ≠ 6)
    (hf : (s.faultInput n closed || can) = true) :
    s.driveFault n closed can = (((s.setPfCh n { s.pfCh n with canFault := can, clearSince := none }).putBit
      (PF_PSTAT_FAULT_IN n) (s.faultInput n closed)).wr (PF_SPEED n) 0).pfFail n 6 := by
  rw [driveFault_eq h, if_pos (by simp [hf, he, hs]), State.driveRead, State.driveClear, if_pos hf]

theorem driveFault_reads (h : s.regsWf) (hr : (s.faultInput n closed || can) = false ∨
    s.bit (PF_PCFG_ENABLE n) = false ∨ s.rd (PF_PSTAT_STATE n) = 6) :
    s.driveFault n closed can = s.driveRead n closed can := by
  rw [driveFault_eq h, if_neg (by rcases hr with hr | hr | hr <;> simp [hr])]

end drive

/-! ### The current of a fan (R217) -/

section fan

variable {s : State} {k : Fin 8} {ma : Nat}

/-- A fan's current stored, and since when it has been too high. -/
def State.fanCurrent (s : State) (k ma : Nat) (since : Option Nat) : State :=
  (s.wr (PF_FCUR k) (min ma 8191)).setPfCh (k + 4) { s.pfCh (k + 4) with ocSince := since }

theorem fanCurrent_rd (h : s.regsWf) (k ma : Nat) (since : Option Nat) :
    (s.fanCurrent k ma since).rd (PF_FCUR k) = min ma 8191 := by
  refine (setPfCh_rd _ _ _ _).trans ((rd_wr_same s (PF_FCUR k) _ h ?_ ?_).trans (Nat.mod_eq_of_lt ?_)) <;>
    simp only [PF_FCUR] <;> omega

theorem fanCurrent_state (s : State) (k ma : Nat) (since : Option Nat) :
    (s.fanCurrent k ma since).rd (PF_FSTAT_STATE k) = s.rd (PF_FSTAT_STATE k) :=
  (setPfCh_rd _ _ _ _).trans (rd_wr_ne s _ _ _ (by simp only [PF_FSTAT_STATE, PF_FCUR]; omega))

theorem fanCurrent_pf (s : State) (k ma : Nat) (since : Option Nat) : (s.fanCurrent k ma since).pf =
    { s.pf with ch := tset {} s.pf.ch (k + 4) { s.pfCh (k + 4) with ocSince := since } } := setPfCh_pf _ _ _

theorem fanCurrent_regsBut (s : State) (k ma : Nat) (since : Option Nat) :
    RegsBut (· = (PF_FCUR k).addr) s (s.fanCurrent k ma since) :=
  regsBut_setPfCh _ _ (regsBut_wr _ _ (RegsBut.refl _ s) rfl)

theorem fanOvercurrent_frame (k : Fin 8) (ma : Nat) (s : State) :
    Answers { regs := true, dic := true, mg := true, le := true, pf := true } s (exec (.fanOvercurrent k ma) s) :=
  execFanOvercurrent_answers k ma (Frame.refl _ s) rfl rfl rfl rfl rfl

/-- A fan's command as its parts: the current stored, and the stop after 100 ms of too high a current. -/
theorem execFanOvercurrent_eq {since : Option Nat}
    (hs : (if 4500 < ma then some ((s.pfCh (k + 4)).ocSince.getD s.time) else none) = since) :
    execFanOvercurrent k ma s = .next (if s.since since (msec 100) = true ∧ s.rd (PF_FSTAT_STATE k) ≠ 4 then
      ((((s.fanCurrent k ma since).putBit (PF_FSTAT_OVERCURRENT k) true).wr (PF_FSPEED k) 0).pfFail (k + 4) 4)
      else s.fanCurrent k ma since) := by
  subst hs
  rw [apply_ite Host.Outcome.next, ← fanCurrent_state s k ma]
  rfl

theorem execFanOvercurrent_low (h : ma ≤ 4500) : execFanOvercurrent k ma s = .next (s.fanCurrent k ma none) :=
  (execFanOvercurrent_eq (if_neg (Nat.not_lt.mpr h))).trans
    (congrArg _ (if_neg fun ⟨ht, _⟩ => Bool.false_ne_true ht))

theorem execFanOvercurrent_high {t0 : Nat} (h : 4500 < ma) (ht : (s.pfCh (k + 4)).ocSince.getD s.time = t0) :
    execFanOvercurrent k ma s = .next (if t0 + msec 100 ≤ s.time ∧ s.rd (PF_FSTAT_STATE k) ≠ 4 then
      ((((s.fanCurrent k ma (some t0)).putBit (PF_FSTAT_OVERCURRENT k) true).wr (PF_FSPEED k) 0).pfFail (k + 4) 4)
      else s.fanCurrent k ma (some t0)) := by
  rw [execFanOvercurrent_eq ((if_pos h).trans (congrArg some ht))]
  simp only [State.since, decide_eq_true_eq]

theorem execFanOvercurrent_dates (h : 4500 < ma) (ht : (s.pfCh (k + 4)).ocSince = none) :
    execFanOvercurrent k ma s = .next (s.fanCurrent k ma (some s.time)) := by
  have hd : 0 < msec 100 := Nat.mul_pos (by decide) (by decide)
  rw [execFanOvercurrent_high h (by rw [ht, Option.getD_none]), if_neg (by omega)]

end fan

/-! ### The pump manager (R215, R216, R389) -/

section manager

variable {s : State}

theorem pumpStageIn_frame (s : State) : Answers { regs := true, pf := true } s (exec .pumpStageIn s) :=
  execPumpStageIn_answers (Frame.refl _ s) rfl rfl

theorem execPumpStageIn_stages {n : Nat} (he : s.bit PF_PMGR_ENABLE = true)
    (ht : s.since s.pf.highSince (secs 10) = true) (hn : s.fewestHours s.idlePumps = some n) :
    execPumpStageIn s = .next ((s.queuePump n true).onPf fun y => { y with highSince := some s.time }) := by
  unfold execPumpStageIn
  rw [if_pos ⟨he, ht⟩, hn]

theorem execPumpStageIn_rests (h : s.bit PF_PMGR_ENABLE = false ∨ s.since s.pf.highSince (secs 10) = false ∨
    s.fewestHours s.idlePumps = none) : execPumpStageIn s = .next s := by
  unfold execPumpStageIn
  split
  next hc =>
    obtain ⟨he, ht⟩ := hc
    rw [he, ht] at h
    rw [h.resolve_left nofun |>.resolve_left nofun]
  next => rfl

theorem pumpStageOut_frame (s : State) : Answers { regs := true, pf := true } s (exec .pumpStageOut s) :=
  execPumpStageOut_answers (Frame.refl _ s) rfl rfl

theorem execPumpStageOut_stops {n : Nat} (he : s.bit PF_PMGR_ENABLE = true) (hm : s.sys.mode ≠ .shed)
    (ht : s.since s.pf.lowSince (secs 300) = true) (hd : s.nDuty < s.runningPumps.length)
    (hn : s.mostHours (s.runningPumps.filter fun n => s.bit (PF_PSTAT_STAGED n) && !(s.pfCh n).stopping) = some n) :
    execPumpStageOut s = .next (s.stopPump n) := by
  unfold execPumpStageOut
  rw [if_pos ⟨he, hm, ht, hd⟩, hn]

theorem execPumpStageOut_rests (h : s.bit PF_PMGR_ENABLE = false ∨ s.sys.mode = .shed ∨
    s.since s.pf.lowSince (secs 300) = false ∨ s.runningPumps.length ≤ s.nDuty ∨
    s.mostHours (s.runningPumps.filter fun n => s.bit (PF_PSTAT_STAGED n) && !(s.pfCh n).stopping) = none) :
    execPumpStageOut s = .next s := by
  unfold execPumpStageOut
  split
  next hc =>
    obtain ⟨he, hm, ht, hd⟩ := hc
    rw [he, ht] at h
    rw [h.resolve_left nofun |>.resolve_left hm |>.resolve_left nofun |>.resolve_left (Nat.not_le.mpr hd)]
  next => rfl

theorem pumpRotation_frame (s : State) : Answers { regs := true, mg := true, pf := true } s (exec .pumpRotation s) :=
  execPumpRotation_answers (Frame.refl _ s) rfl rfl rfl

/-- The run hours of the pumps. -/
def State.pumpHours (s : State) : List (Nat × Nat) := (upto 4).map fun n => (n, s.rd (PF_PHOURS n))

theorem execPumpRotation_starts {i o : Nat} (he : s.bit PF_PMGR_ENABLE = true) (hh : s.rotationHours = true)
    (hw : s.rotationWaits = false) (hi : s.fewestHours s.idlePumps = some i)
    (ho : s.mostHours s.runningPumps = some o) : execPumpRotation s =
      .next ((((s.queuePump i false).putBit PF_PMGR_ROT_NOW false).onPf fun y =>
        { y with rotation := some (i, o), rotNow := false, rotBase := s.pumpHours }).onMg fun y =>
          { y with savedRot := s.pumpHours }) := by
  unfold execPumpRotation
  rw [if_pos ⟨he, hh, by simp [hw]⟩, hi, ho]
  rfl

theorem execPumpRotation_rests (h : s.bit PF_PMGR_ENABLE = false ∨ s.rotationHours = false ∨
    s.rotationWaits = true ∨ s.fewestHours s.idlePumps = none ∨ s.mostHours s.runningPumps = none) :
    execPumpRotation s = .next s := by
  unfold execPumpRotation
  split
  next hc =>
    obtain ⟨he, hh, hw⟩ := hc
    rw [he, hh] at h
    have hn := h.resolve_left nofun |>.resolve_left nofun |>.resolve_left hw
    split
    next i o hi ho => simp [hi, ho] at hn
    next => rfl
  next => rfl

theorem runHoursSave_frame (s : State) : Answers { mg := true, pf := true } s (exec .runHoursSave s) :=
  execRunHoursSave_answers (Frame.refl _ s) rfl rfl

theorem execRunHoursSave_saves (h : s.pf.hoursSaved + secs 360 ≤ s.time) : execRunHoursSave s =
    .next ((s.onPf fun y => { y with hoursSaved := s.time }).onMg fun y =>
      { y with savedHours := s.pumpHours, savedRot := s.pf.rotBase }) := if_pos h

theorem execRunHoursSave_rests (h : s.time < s.pf.hoursSaved + secs 360) : execRunHoursSave s = .next s :=
  if_neg (Nat.not_le.mpr h)

theorem pfRotNowWrite_frame (s : State) : Answers { regs := true, pf := true } s (exec .pfRotNowWrite s) :=
  execPfRotNowWrite_answers (Frame.refl _ s) rfl rfl

theorem execPfRotNowWrite_eq (s : State) : execPfRotNowWrite s =
    .next ((s.putBit PF_PMGR_ROT_NOW true).onPf fun y => { y with rotNow := true }) := rfl

/-- What ROT_NOW leaves (R216). -/
theorem rotNow_leaves {s t : State} (h : s.regsWf)
    (ht : t = (s.putBit PF_PMGR_ROT_NOW true).onPf fun y => { y with rotNow := true }) :
    t.bit PF_PMGR_ROT_NOW = true ∧ t.pf = { s.pf with rotNow := true } ∧ RegsBut (· = PF_PMGR_ROT_NOW.addr) s t := by
  subst ht
  refine ⟨?_, ?_, ?_⟩
  · rw [onPf_bit]
    exact bit_putBit_same s PF_PMGR_ROT_NOW true h rfl (by decide)
  · rw [onPf_pf, putBit_eq, wr_pf]
  · exact regsBut_onPf _ (regsBut_wr _ _ (RegsBut.refl _ s) rfl)

end manager

end Sys2Proof.Machine
end

section
/-! What the commands of the pumps and fans answer. -/

namespace Sys2Proof.Machine

/-- Settles O33: each command by its equation for the case; FAULT_IN and a fan's current by what they leave in the
registers that the conditions read. -/
theorem pumpsAndFans : Obligations.PumpsAndFans := by
  unfold Obligations.PumpsAndFans
  refine ⟨?kicks, ?kickRests, ?kickEnds, ?kickEndRests, ?retries, ?retryRests, ?tachInBand, ?tachOutOfBand, ?tachAgain,
    ?tachRests, ?tachReturns, ?bandExit, ?bandRests, ?driveStops, ?driveReads, ?stagesIn, ?stageInRests, ?stagesOut,
    ?stageOutRests, ?rotates, ?rotationRests, ?hoursSaved, ?hoursRest, ?rotNow, ?reenables, ?reenableRests, ?fanLow,
    ?fanDated, ?fanStops⟩
  case kicks =>
    intro s k hm h
    exact answers_with (pumpKick_frame k s) (execPumpKick_starts hm h) rfl
  case kickRests =>
    intro s k h
    exact answers_with (pumpKick_frame k s) (execPumpKick_rests h) rfl
  case kickEnds =>
    intro s k n t0 b hs hk ht
    exact answers_with (kickEnd_frame k n b s) (execKickEnd_ends n b hs (since_due hk ht)) rfl
  case kickEndRests =>
    intro s k n b h
    exact answers_with (kickEnd_frame k n b s) (execKickEnd_rests n b h) rfl
  case retries =>
    intro s k t0 hs hk hn hq ht
    exact answers_with (kickRetry_frame k s) (execKickRetry_kicks hs hk hn (since_due hq ht)) rfl
  case retryRests =>
    intro s k h
    exact answers_with (kickRetry_frame k s) (execKickRetry_rests h) rfl
  case tachInBand =>
    intro s k hl hs hb
    exact answers_with (tachLoss_frame k s) ((execTachLoss_running hl hs).trans (if_pos hb)) rfl
  case tachOutOfBand =>
    intro s k hl hs hb
    exact answers_with (tachLoss_frame k s) ((execTachLoss_running hl hs).trans (if_neg (by simp [hb]))) rfl
  case tachAgain =>
    intro s k hl hs
    exact answers_with (tachLoss_frame k s) (execTachLoss_again hl hs) rfl
  case tachRests =>
    intro s k h
    exact answers_with (tachLoss_frame k s) (execTachLoss_rests h) rfl
  case tachReturns =>
    intro s k rpm
    exact answers_with (tachRestore_frame k rpm s) (execTachRestore_eq rpm)
      ⟨s.tachSeen k rpm, rfl, tachBack_other, tachBack_first rfl, fun _ => tachBack_dated rfl⟩
  case bandExit =>
    intro s k hs h
    exact answers_with (currentBandExit_frame k s) (execCurrentBandExit_fails hs h) rfl
  case bandRests =>
    intro s k h
    exact answers_with (currentBandExit_frame k s) (execCurrentBandExit_rests h) rfl
  case driveStops =>
    intro s n b can hi he hs hf
    exact answers_with (driveFault_answers n b can s) (congrArg Host.Outcome.next (driveFault_stops hi.regs he hs hf))
      ⟨_, rfl, rfl⟩
  case driveReads =>
    intro s n b can hi h
    exact answers_with (driveFault_answers n b can s) (congrArg Host.Outcome.next (driveFault_reads hi.regs h))
      ⟨driveRead_faultIn hi.regs, driveRead_pf, driveRead_regsBut⟩
  case stagesIn =>
    intro s t0 n he hh ht hn
    exact answers_with (pumpStageIn_frame s) (execPumpStageIn_stages he (since_due hh ht) hn) rfl
  case stageInRests =>
    intro s h
    exact answers_with (pumpStageIn_frame s) (execPumpStageIn_rests h) rfl
  case stagesOut =>
    intro s t0 n he hm hl ht hd hn
    exact answers_with (pumpStageOut_frame s) (execPumpStageOut_stops he hm (since_due hl ht) hd hn) rfl
  case stageOutRests =>
    intro s h
    exact answers_with (pumpStageOut_frame s) (execPumpStageOut_rests h) rfl
  case rotates =>
    intro s i o he hh hw hi ho
    exact answers_with (pumpRotation_frame s) (execPumpRotation_starts he hh hw hi ho) ⟨_, rfl, rfl⟩
  case rotationRests =>
    intro s h
    exact answers_with (pumpRotation_frame s) (execPumpRotation_rests h) rfl
  case hoursSaved =>
    intro s h
    exact answers_with (runHoursSave_frame s) (execRunHoursSave_saves h) ⟨rfl, rfl⟩
  case hoursRest =>
    intro s h
    exact answers_with (runHoursSave_frame s) (execRunHoursSave_rests h) rfl
  case rotNow =>
    intro s hi
    exact answers_with (pfRotNowWrite_frame s) (execPfRotNowWrite_eq s)
      (rotNow_leaves hi.regs rfl)
  case reenables =>
    intro s k h
    exact answers_with (channelReenable_frame k s) (execChannelReenable_enables h) rfl
  case reenableRests =>
    intro s k h
    exact answers_with (channelReenable_frame k s) (execChannelReenable_rests h) rfl
  case fanLow =>
    intro s k ma hi h
    exact answers_with (fanOvercurrent_frame k ma s) (execFanOvercurrent_low h)
      ⟨(fanCurrent_rd hi.regs k ma none).trans (by omega), fanCurrent_pf s k ma none, fanCurrent_regsBut s k ma none⟩
  case fanDated =>
    intro s k ma hi h ht
    exact answers_with (fanOvercurrent_frame k ma s) (execFanOvercurrent_dates h ht)
      ⟨fanCurrent_rd hi.regs k ma _, fanCurrent_pf s k ma _, fanCurrent_regsBut s k ma _⟩
  case fanStops =>
    intro s k ma t0 _ h ht
    exact answers_with (fanOvercurrent_frame k ma s) (execFanOvercurrent_high h (by rw [ht, Option.getD_some]))
      ⟨_, rfl, rfl⟩

end Sys2Proof.Machine
end

section
/-! The analog outputs, the slow fall, the inputs of the coolant stop and the calibration minutes (R218, R221 to R226,
R229 to R234): one equation for each case of a command. -/

namespace Sys2Proof.Machine

/-! ### Analog outputs (R218) -/

section analog

variable {s : State} {n : Fin 20}

theorem aoOpen_frame (n : Fin 20) (v : Nat) (b : Bool) (s : State) :
    Answers { regs := true, dic := true, mg := true, le := true, pf := true } s (exec (.aoOpen n v b) s) :=
  execAoOpen_answers n v b (Frame.refl _ s) rfl rfl rfl rfl rfl

/-- The readback of an analog output changes neither what it drives nor its mode. -/
theorem aoDrive_wrRead (s : State) (n v : Nat) : (s.wr (AO_READ n) v).aoDrive n = s.aoDrive n := by
  unfold State.aoDrive State.isActive
  rw [wr_sys, bit_wr_ne s _ _ _ (by simp only [AO_CFG_ENABLE, AO_READ]; omega),
    rd_wr_ne s _ _ _ (by simp only [AO_CFG_SAFE, AO_READ]; omega),
    rd_wr_ne s _ _ _ (by simp only [AO_VAL, AO_READ]; omega)]

theorem aoMode_wrRead (s : State) (n v : Nat) : (s.wr (AO_READ n) v).rd (AO_CFG_MODE n) = s.rd (AO_CFG_MODE n) :=
  rd_wr_ne s _ _ _ (by simp only [AO_CFG_MODE, AO_READ]; omega)

/-- A driven current-mode output fails to reach its value. -/
def State.aoFails (s : State) (n : Nat) (opened : Bool) : Bool :=
  (s.aoDrive n).isSome && s.rd (AO_CFG_MODE n) == 0 && opened

/-- The readback of an output stored, and since when it has failed to reach its value. -/
def State.aoRead (s : State) (n v : Nat) (since : Option Nat) : State :=
  (s.wr (AO_READ n) (min v 65535)).onPf fun y =>
    { y with aoOpen := match since with | some t => tinsert y.aoOpen n t | none => terase y.aoOpen n }

/-- The command as its parts: the readback stored, and OPEN after 20 ms of the failure. -/
theorem execAoOpen_eq {v : Nat} {b : Bool} {since : Option Nat}
    (hs : (if s.aoFails n b = true then some ((tfind s.pf.aoOpen n).getD s.time) else none) = since) :
    execAoOpen n v b s = .next (if s.since since (msec 20) = true then
      (s.aoRead n v since).aoStatus n (AO_STAT_OPEN n) true else s.aoRead n v since) := by
  subst hs
  unfold State.aoFails
  rw [← aoDrive_wrRead s n (min v 65535), ← aoMode_wrRead s n (min v 65535)]
  rfl

theorem execAoOpen_reads (v : Nat) {b : Bool} (h : s.aoFails n b = false) :
    execAoOpen n v b s = .next (s.aoRead n v none) :=
  (execAoOpen_eq (if_neg (by simp [h]))).trans (congrArg _ (if_neg Bool.false_ne_true))

theorem execAoOpen_fails (v : Nat) {b : Bool} (h : s.aoFails n b = true) :
    execAoOpen n v b s = .next (if (tfind s.pf.aoOpen n).getD s.time + msec 20 ≤ s.time then
      (s.aoRead n v (some ((tfind s.pf.aoOpen n).getD s.time))).aoStatus n (AO_STAT_OPEN n) true
      else s.aoRead n v (some ((tfind s.pf.aoOpen n).getD s.time))) := by
  rw [execAoOpen_eq (if_pos h)]
  simp only [State.since, decide_eq_true_eq]

theorem aoRead_rd (h : s.regsWf) (n v : Nat) (since : Option Nat) :
    (s.aoRead n v since).rd (AO_READ n) = min v 65535 := by
  refine (onPf_rd _ _ _).trans ((rd_wr_same s (AO_READ n) _ h ?_ ?_).trans (Nat.mod_eq_of_lt ?_)) <;>
    simp only [AO_READ] <;> omega

theorem aoRead_pf (s : State) (n v : Nat) :
    (s.aoRead n v none).pf = { s.pf with aoOpen := terase s.pf.aoOpen n } := by
  rw [State.aoRead, onPf_pf, wr_pf]

theorem aoRead_regsBut (s : State) (n v : Nat) (since : Option Nat) :
    RegsBut (· = (AO_READ n).addr) s (s.aoRead n v since) :=
  regsBut_onPf _ (regsBut_wr _ _ (RegsBut.refl _ s) rfl)

/-- A status bit set reads 1, whether its condition is new, and then logged, or not. -/
theorem aoStatus_bit {f : RF} (h : s.regsWf) (hf : f.lo = f.hi) (hh : f.hi < 32) (hn : ¬ noteReg f.addr) (n : Nat) :
    (s.aoStatus n f true).bit f = true := by
  have hset : (s.putBit f (s.bit f || true)).bit f = true :=
    (bit_putBit_same s f _ h hf hh).trans (Bool.or_true _)
  unfold State.aoStatus
  dsimp only
  split
  · exact ((note_regsBut _ 6 .analogFault 1 [n] (by decide)).bit f hn).trans hset
  · exact hset

theorem aoStatus_regsBut (s : State) (n : Nat) (f : RF) (on : Bool) :
    RegsBut (fun a => a = f.addr ∨ noteReg a) s (s.aoStatus n f on) := by
  have hset : RegsBut (fun a => a = f.addr ∨ noteReg a) s (s.putBit f (s.bit f || on)) :=
    regsBut_wr _ _ (RegsBut.refl _ s) (Or.inl rfl)
  exact regsBut_ite (regsBut_note (fun _ h => Or.inr h) 6 .analogFault 1 [n] 200 (by decide) hset) hset

theorem aoOverload_frame (n : Fin 20) (ma : Nat) (s : State) :
    Answers { regs := true, dic := true, mg := true, le := true } s (exec (.aoOverload n ma) s) :=
  execAoOverload_answers n ma (Frame.refl _ s) rfl rfl rfl rfl

theorem execAoOverload_sets {ma : Nat} (hd : (s.aoDrive n).isSome = true) (hm : s.rd (AO_CFG_MODE n) = 1)
    (h : 20 < ma) : execAoOverload n ma s = .next (s.aoStatus n (AO_STAT_OVERLOAD n) true) :=
  congrArg _ (if_pos ⟨hd, hm, h⟩)

theorem execAoOverload_rests {ma : Nat} (h : (s.aoDrive n).isNone = true ∨ s.rd (AO_CFG_MODE n) ≠ 1 ∨ ma ≤ 20) :
    execAoOverload n ma s = .next s := by
  refine congrArg _ (if_neg fun ⟨hd, hm, hl⟩ => ?_)
  rcases h with h | h | h
  · simp [Option.isNone_iff_eq_none.mp h] at hd
  · exact h hm
  · exact Nat.not_lt.mpr h hl

theorem aoOverload_not_noteReg (n : Fin 20) : ¬ noteReg (AO_STAT_OVERLOAD n).addr :=
  not_noteReg_of_range (by simp only [AO_STAT_OVERLOAD]; omega) (by simp only [AO_STAT_OVERLOAD]; omega)

end analog

/-! ### Slow fall (R221) -/

section stop

variable {s : State}

theorem slowFallEvaluation_frame (s : State) :
    Answers { regs := true, dic := true, mg := true, le := true, pf := true } s (exec .slowFallEvaluation s) :=
  execSlowFallEvaluation_answers (Frame.refl _ s) rfl rfl rfl rfl rfl

/-- Every rack and the row evaluated, and the moment of it. -/
def State.slowEvaluated (s : State) : State := s.slowAll.onPf fun y => { y with slowAt := some s.time }

theorem execSlowFallEvaluation_first (h : s.pf.slowAt = none) : execSlowFallEvaluation s = .next s.slowEvaluated :=
  congrArg _ (if_pos (Or.inl (Option.isNone_iff_eq_none.mpr h)))

theorem execSlowFallEvaluation_dated {t0 : Nat} (h : s.pf.slowAt = some t0) :
    execSlowFallEvaluation s = .next (if t0 + msec 100 ≤ s.time then s.slowEvaluated else s) := by
  unfold execSlowFallEvaluation State.slowEvaluated
  simp only [h, State.since, Option.isNone_some, Bool.false_eq_true, false_or, decide_eq_true_eq]

/-! ### The inputs of the coolant stop (R224) -/

/-- What the detection of a coolant stop may touch. -/
def stopParts : Parts :=
  { Parts.full with time := false, free := false, mem := false, vq := false, sn := false, fb := false, ca := false }

theorem pulseLost_frame (s : State) : Answers stopParts s (exec .pulseLost s) :=
  execPulseLost_answers (Frame.refl _ s) rfl rfl rfl rfl rfl rfl rfl rfl rfl rfl rfl

theorem execPulseLost_lost (h : s.pf.lastPulse + msec (clampNat 2 20 (s.rd PF_STOPCFG_PULSE_GAP)) ≤ s.time) :
    execPulseLost s = .next (s.stopFlag PF_HYD_PULSE_LOST true).stopDetect := congrArg _ (if_pos h)

theorem execPulseLost_rests (h : s.time < s.pf.lastPulse + msec (clampNat 2 20 (s.rd PF_STOPCFG_PULSE_GAP))) :
    execPulseLost s = .next s := congrArg _ (if_neg (Nat.not_le.mpr h))

theorem pressLost_frame (s : State) : Answers stopParts s (exec .pressLost s) :=
  execPressLost_answers (Frame.refl _ s) rfl rfl rfl rfl rfl rfl rfl rfl rfl rfl rfl

theorem execPressLost_currents (h : s.bit PF_STOPCFG_USE_CUR = true) :
    execPressLost s = .next (s.stopFlag PF_HYD_PRESS_LOST s.currentLow).stopDetect := if_pos h

/-- The samples in a row whose DP lies below DP_COLLAPSE. -/
def State.dpRunNext (s : State) : Nat := if s.dpLow then s.pf.dpRun + 1 else 0

theorem execPressLost_dp (h : s.bit PF_STOPCFG_USE_CUR = false) : execPressLost s =
    .next (State.stopDetect ((s.onPf fun y => { y with dpRun := min s.dpRunNext 3 }).stopFlag PF_HYD_PRESS_LOST
      (decide (3 ≤ s.dpRunNext) || s.dp.isNone))) := if_neg (by simp [h])

theorem tripArm_frame (s : State) : Answers stopParts s (exec .tripArm s) :=
  execTripArm_answers (Frame.refl _ s) rfl rfl rfl rfl rfl rfl rfl rfl rfl rfl rfl

theorem execTripArm_eq (s : State) : execTripArm s = .next (s.putBit PF_HYD_ARMED s.armed).stopDetect := rfl

/-! ### The flow restored (R226) -/

theorem flowRestored_frame (s : State) : Answers { regs := true, mg := true, pf := true } s (exec .flowRestored s) :=
  execFlowRestored_answers (Frame.refl _ s) rfl rfl rfl

theorem execFlowRestored_rests (h : s.sys.mode ≠ .shed ∨ s.pf.restoredAt.isSome = true) :
    execFlowRestored s = .next s := by
  refine if_neg fun ⟨hm, hr⟩ => ?_
  rcases h with h | h
  · exact h hm
  · simp [Option.isNone_iff_eq_none.mp hr] at h

theorem execFlowRestored_shed (hm : s.sys.mode = .shed) (hr : s.pf.restoredAt = none) : execFlowRestored s =
    if s.flowBack = true then
      if s.pf.restoreSince.getD s.time + secs 2 ≤ s.time then
        .next ((((s.onPf fun y => { y with restoreSince := some (s.pf.restoreSince.getD s.time) }).onPf fun y =>
          { y with restoredAt := some s.time }).putBit PF_HYD_FLOW_RESTORED true).log 6 .flowRestored 0 [])
      else .next (s.onPf fun y => { y with restoreSince := some (s.pf.restoreSince.getD s.time) })
    else .next (s.onPf fun y => { y with restoreSince := none }) :=
  if_pos ⟨hm, Option.isNone_iff_eq_none.mpr hr⟩

theorem execFlowRestored_falls (hm : s.sys.mode = .shed) (hr : s.pf.restoredAt = none) (hf : s.flowBack = false) :
    execFlowRestored s = .next (s.onPf fun y => { y with restoreSince := none }) :=
  (execFlowRestored_shed hm hr).trans (if_neg (by simp [hf]))

theorem execFlowRestored_dates {t0 : Nat} (hm : s.sys.mode = .shed) (hr : s.pf.restoredAt = none)
    (hf : s.flowBack = true) (h0 : t0 = s.pf.restoreSince.getD s.time) (ht : s.time < t0 + secs 2) :
    execFlowRestored s = .next (s.onPf fun y => { y with restoreSince := some t0 }) := by
  rw [execFlowRestored_shed hm hr, if_pos hf, ← h0, if_neg (Nat.not_le.mpr ht)]

/-- The flow back for long enough: its moment, and FLOW_RESTORED. -/
def State.flowIsBack (s : State) : State :=
  (s.onPf fun y => { y with restoredAt := some s.time }).putBit PF_HYD_FLOW_RESTORED true

theorem execFlowRestored_restores {t0 : Nat} (hm : s.sys.mode = .shed) (hr : s.pf.restoredAt = none)
    (hf : s.flowBack = true) (h0 : s.pf.restoreSince = some t0) (ht : t0 + secs 2 ≤ s.time) :
    execFlowRestored s = .next (s.flowIsBack.log 6 .flowRestored 0 []) := by
  have hkeep : (s.onPf fun y => { y with restoreSince := some t0 }) = s := by
    rw [← h0]
    rfl
  rw [execFlowRestored_shed hm hr, if_pos hf, h0, Option.getD_some, if_pos ht, hkeep]
  rfl

theorem flowRestored_not_noteReg : ¬ noteReg PF_HYD_FLOW_RESTORED.addr :=
  not_noteReg_of_range (by decide) (by decide)

theorem flowRestored_bit (h : s.regsWf) :
    (s.flowIsBack.log 6 .flowRestored 0 []).bit PF_HYD_FLOW_RESTORED = true :=
  ((log_not_noteReg _ _ _ _ _).bit _ flowRestored_not_noteReg).trans
    (bit_putBit_same _ PF_HYD_FLOW_RESTORED true (regsWf_congr (onPf_regs s _) h) rfl (by decide))

theorem flowRestored_pf (s : State) :
    (s.flowIsBack.log 6 .flowRestored 0 []).pf = { s.pf with restoredAt := some s.time } := by
  rw [(log_keeps _ _ _ _ _).pf rfl, State.flowIsBack, putBit_eq, wr_pf, onPf_pf]

theorem flowRestored_regsBut (s : State) : RegsBut (fun a => a = PF_HYD_FLOW_RESTORED.addr ∨ noteReg a) s
    (s.flowIsBack.log 6 .flowRestored 0 []) :=
  regsBut_log (fun _ h => Or.inr h) _ _ _ _ (regsBut_wr _ _ (regsBut_onPf _ (RegsBut.refl _ s)) (Or.inl rfl))

/-! ### Calibration minutes (R229, R234) -/

theorem calMinute_answers (r : Fin 16) (a b c d e : BitVec 32) (s : State) :
    Answers { regs := true, dic := true, mg := true, le := true, pf := true, tw := true } s
      (exec (.calMinute r a b c d e) s) :=
  execCalMinute_answers r a b c d e (Frame.refl _ s) rfl rfl rfl rfl rfl rfl

/-- A rack's minute as the standby takes it: the corrections that it leaves. -/
def State.calForwarded (s : State) (r : Nat) : State :=
  s.forward 6 2 (s.regBytes [(SN_FLOWGAIN r).addr, (SN_RTDOFF (2 * r)).addr, (SN_RTDOFF (2 * r + 1)).addr])

theorem execCalMinute_eq (r : Fin 16) (a b c d e : BitVec 32) (s : State) : execCalMinute r a b c d e s =
    .next (if s.isActive = true ∧ (tfind s.pf.calAt r).all (fun t0 => decide (t0 + secs 60 ≤ s.time)) = true then
      (s.calMinute r a b c d e).calForwarded r else s) := by
  unfold execCalMinute State.calForwarded
  cases tfind s.pf.calAt r with
  | none => rw [Option.all_none]
  | some t0 => rw [Option.all_some]

theorem execCalMinute_takes {r : Fin 16} (a b c d e : BitVec 32) (ha : s.isActive = true)
    (h : (tfind s.pf.calAt r).all (fun t0 => decide (t0 + secs 60 ≤ s.time)) = true) :
    execCalMinute r a b c d e s = .next ((s.calMinute r a b c d e).calForwarded r) :=
  (execCalMinute_eq r a b c d e s).trans (congrArg _ (if_pos ⟨ha, h⟩))

theorem execCalMinute_rests {r : Fin 16} (a b c d e : BitVec 32) (h : s.isActive = false ∨
    (tfind s.pf.calAt r).any (fun t0 => decide (s.time < t0 + secs 60)) = true) :
    execCalMinute r a b c d e s = .next s := by
  refine (execCalMinute_eq r a b c d e s).trans (congrArg _ (if_neg fun ⟨ha, ht⟩ => ?_))
  rcases h with h | h
  · exact Bool.false_ne_true (h.symm.trans ha)
  · obtain ⟨t0, hc, hlt⟩ := Option.any_eq_true _ _ |>.mp h
    rw [hc, Option.all_some] at ht
    exact Nat.not_le.mpr (of_decide_eq_true hlt) (of_decide_eq_true ht)

theorem calStateSave_frame (s : State) : Answers { mg := true, pf := true } s (exec .calStateSave s) :=
  execCalStateSave_answers (Frame.refl _ s) rfl rfl

theorem execCalStateSave_saves (h : s.pf.calSaved + secs 600 ≤ s.time) : execCalStateSave s = .next s.calSave :=
  congrArg _ (if_pos h)

theorem execCalStateSave_rests (h : s.time < s.pf.calSaved + secs 600) : execCalStateSave s = .next s :=
  congrArg _ (if_neg (Nat.not_le.mpr h))

end stop

end Sys2Proof.Machine
end

section
/-! What the commands of the analog outputs, the coolant stop and the calibration answer. -/

namespace Sys2Proof.Machine

/-- Settles O34: each command by its equation for the case; the registers by what the readback, the status bit and
FLOW_RESTORED leave in them. -/
theorem coolantInputs : Obligations.CoolantInputs := by
  unfold Obligations.CoolantInputs
  refine ⟨?reads, ?fails, ?overload, ?overloadRests, ?slowFirst, ?slowDated, ?pulseLost, ?pulseRests, ?pressCurrents,
    ?pressDp, ?arms, ?restored, ?restoredRests, ?falls, ?dates, ?minute, ?minuteRests, ?saves, ?saveRests⟩
  case reads =>
    intro s n v b hi h
    have hf : s.aoFails n b = false := by
      unfold State.aoFails
      rcases h with h | h | h
      · simp [Option.isNone_iff_eq_none.mp h]
      · simp [h]
      · simp [h]
    exact answers_with (aoOpen_frame n v b s) (execAoOpen_reads v hf)
      ⟨aoRead_rd hi.regs n v none, aoRead_pf s n v, aoRead_regsBut s n v none⟩
  case fails =>
    intro s n v _ hd hm
    exact answers_with (aoOpen_frame n v true s) (execAoOpen_fails v (by simp [State.aoFails, hd, hm]))
      ⟨_, _, rfl, rfl, rfl⟩
  case overload =>
    intro s n ma hi hd hm h
    exact answers_with (aoOverload_frame n ma s) (execAoOverload_sets hd hm h)
      ⟨aoStatus_bit hi.regs rfl (by simp [AO_STAT_OVERLOAD]) (aoOverload_not_noteReg n) n, aoStatus_regsBut s n _ true⟩
  case overloadRests =>
    intro s n ma h
    exact answers_with (aoOverload_frame n ma s) (execAoOverload_rests h) rfl
  case slowFirst =>
    intro s h
    exact answers_with (slowFallEvaluation_frame s) (execSlowFallEvaluation_first h) rfl
  case slowDated =>
    intro s t0 h
    exact answers_with (slowFallEvaluation_frame s) (execSlowFallEvaluation_dated h) rfl
  case pulseLost =>
    intro s h
    exact answers_with (pulseLost_frame s) (execPulseLost_lost h) rfl
  case pulseRests =>
    intro s h
    exact answers_with (pulseLost_frame s) (execPulseLost_rests h) rfl
  case pressCurrents =>
    intro s h
    exact answers_with (pressLost_frame s) (execPressLost_currents h) rfl
  case pressDp =>
    intro s h
    exact answers_with (pressLost_frame s) (execPressLost_dp h) ⟨s.dpRunNext, rfl, rfl⟩
  case arms =>
    intro s
    exact answers_with (tripArm_frame s) (execTripArm_eq s) rfl
  case restored =>
    intro s t0 hi hm hr hf h0 ht
    exact answers_with (flowRestored_frame s) (execFlowRestored_restores hm hr hf h0 ht)
      ⟨flowRestored_bit hi.regs, flowRestored_pf s, flowRestored_regsBut s⟩
  case restoredRests =>
    intro s h
    exact answers_with (flowRestored_frame s) (execFlowRestored_rests h) rfl
  case falls =>
    intro s hm hr hf
    exact answers_with (flowRestored_frame s) (execFlowRestored_falls hm hr hf) rfl
  case dates =>
    intro s t0 hm hr hf h0 ht
    exact answers_with (flowRestored_frame s) (execFlowRestored_dates hm hr hf h0 ht) rfl
  case minute =>
    intro s r a b c d e ha h
    exact answers_with (calMinute_answers r a b c d e s) (execCalMinute_takes a b c d e ha h) rfl
  case minuteRests =>
    intro s r a b c d e h
    exact answers_with (calMinute_answers r a b c d e s) (execCalMinute_rests a b c d e h) rfl
  case saves =>
    intro s h
    exact answers_with (calStateSave_frame s) (execCalStateSave_saves h) ⟨rfl, rfl, rfl⟩
  case saveRests =>
    intro s h
    exact answers_with (calStateSave_frame s) (execCalStateSave_rests h) rfl

end Sys2Proof.Machine
end

section
/-! The conversions, the inputs, the leak channels and the cold plate (R236 to R252, R450): one equation for each case
of a command, and what the commands leave in the registers. -/

namespace Sys2Proof.Machine

section sensors

variable {s : State}

/-! ### Conversions (R236, R237) -/

theorem rtdConversion_frame (n : Fin 48) (raw : BitVec 24) (o : Int) (b : Bool) (s : State) :
    Answers { regs := true, dic := true, mg := true, le := true, sn := true } s (exec (.rtdConversion n raw o b) s) :=
  execRtdConversion_answers n raw o b (Frame.refl _ s) rfl rfl rfl rfl rfl

theorem execRtdConversion_eq (n : Fin 48) (raw : BitVec 24) (o : Int) (b : Bool) (s : State) :
    execRtdConversion n raw o b s = .next (if s.bit SN_CTRL = true ∧ s.bit (SN_RTDCFG_ENABLE n) = true ∧
      s.excChange (msec 10) = false ∧ s.dithers n o = true then s.rtdConvert n raw.toNat o b else s) := by
  unfold execRtdConversion
  simp only [Bool.not_eq_true]

theorem maConversion_frame (n : Fin 24) (raw : BitVec 16) (o : Int) (b : Bool) (s : State) :
    Answers { regs := true, dic := true, mg := true, le := true, sn := true } s (exec (.maConversion n raw o b) s) :=
  execMaConversion_answers n raw o b (Frame.refl _ s) rfl rfl rfl rfl rfl

theorem execMaConversion_eq (n : Fin 24) (raw : BitVec 16) (o : Int) (b : Bool) (s : State) :
    execMaConversion n raw o b s = .next (if s.bit SN_CTRL = true ∧ s.bit (SN_MACFG_ENABLE n) = true ∧
      s.excChange (msec 1) = false ∧ s.dithers (48 + n) o = true then s.maConvert n raw.toNat o b else s) := by
  unfold execMaConversion
  simp only [Bool.not_eq_true]

/-! ### Wiring bits (R239) -/

/-- OPEN, SHORT and VALID of an input are bits of one register. -/
theorem snOpen_eq (k : Nat) : snOpen k = ⟨(snOpen k).addr, 2, 2⟩ := by
  unfold snOpen
  split_ifs <;> rfl

theorem snShort_eq (k : Nat) : snShort k = ⟨(snOpen k).addr, 3, 3⟩ := by
  unfold snOpen snShort
  split_ifs <;> rfl

theorem snValid_eq (k : Nat) : snValid k = ⟨(snOpen k).addr, 0, 0⟩ := by
  unfold snOpen snValid
  split_ifs <;> rfl

/-- A bit cleared where a condition holds. -/
def State.clearIf (s : State) (f : RF) (c : Bool) : State := if c then s.putBit f false else s

theorem clearIf_regsWf (h : s.regsWf) (f : RF) (c : Bool) : (s.clearIf f c).regsWf := by
  cases c with
  | false => exact h
  | true => exact putBit_regsWf s f false h

theorem clearIf_bit_same (h : s.regsWf) {f : RF} (hf : f.lo = f.hi) (hh : f.hi < 32) (c : Bool) :
    (s.clearIf f c).bit f = (s.bit f && !c) := by
  cases c with
  | false => exact (Bool.and_true _).symm
  | true => exact (bit_putBit_same s f false h hf hh).trans (Bool.and_false _).symm

theorem clearIf_bit_disjoint (h : s.regsWf) {f g : RF} (hf : f.lo = f.hi) (hh : f.hi < 32) (ha : g.addr = f.addr)
    (hd : f.hi < g.lo ∨ g.hi < f.lo) (c : Bool) : (s.clearIf f c).bit g = s.bit g := by
  cases c with
  | false => rfl
  | true => exact bit_putBit_disjoint s f g false h hf hh ha hd

theorem regsBut_clearIf {l : Nat → Prop} {s0 : State} (f : RF) (c : Bool) (h : RegsBut l s0 s) (hf : l f.addr) :
    RegsBut l s0 (s.clearIf f c) := regsBut_ite (regsBut_wr _ _ h hf) h

/-- The wiring bits of an input cleared whose conditions have been absent for long enough. -/
def State.wiringCleared (s : State) (k : Nat) (o h : Bool) : State := (s.clearIf (snOpen k) o).clearIf (snShort k) h

/-- VALID returns where no wiring bit is left. -/
def State.validBack (s : State) (k : Nat) : State :=
  if s.bit (snOpen k) ∨ s.bit (snShort k) then s else s.putBit (snValid k) true

theorem wiringCleared_regsWf (hs : s.regsWf) (k : Nat) (o h : Bool) : (s.wiringCleared k o h).regsWf :=
  clearIf_regsWf (clearIf_regsWf hs _ o) _ h

theorem clearShort_open (hs : s.regsWf) (k : Nat) (h : Bool) :
    (s.clearIf (snShort k) h).bit (snOpen k) = s.bit (snOpen k) := by
  rw [snOpen_eq, snShort_eq]
  refine clearIf_bit_disjoint hs ?_ ?_ ?_ ?_ h <;> simp

theorem clearOpen_short (hs : s.regsWf) (k : Nat) (o : Bool) :
    (s.clearIf (snOpen k) o).bit (snShort k) = s.bit (snShort k) := by
  rw [snOpen_eq, snShort_eq]
  refine clearIf_bit_disjoint hs ?_ ?_ ?_ ?_ o <;> simp

theorem wiringCleared_open (hs : s.regsWf) (k : Nat) (o h : Bool) :
    (s.wiringCleared k o h).bit (snOpen k) = (s.bit (snOpen k) && !o) :=
  (clearShort_open (clearIf_regsWf hs _ o) k h).trans
    (clearIf_bit_same hs (by rw [snOpen_eq]) (by rw [snOpen_eq]; simp) o)

theorem wiringCleared_short (hs : s.regsWf) (k : Nat) (o h : Bool) :
    (s.wiringCleared k o h).bit (snShort k) = (s.bit (snShort k) && !h) := by
  rw [State.wiringCleared, clearIf_bit_same (clearIf_regsWf hs _ o) (by rw [snShort_eq]) (by rw [snShort_eq]; simp),
    clearOpen_short hs]

theorem validBack_open (hs : s.regsWf) (k : Nat) : (s.validBack k).bit (snOpen k) = s.bit (snOpen k) := by
  unfold State.validBack
  split
  · rfl
  · rw [snOpen_eq, snValid_eq]
    exact bit_putBit_disjoint s _ _ true hs rfl (by simp) rfl (by simp)

theorem validBack_short (hs : s.regsWf) (k : Nat) : (s.validBack k).bit (snShort k) = s.bit (snShort k) := by
  unfold State.validBack
  split
  · rfl
  · rw [snShort_eq, snValid_eq]
    exact bit_putBit_disjoint s _ _ true hs rfl (by simp) rfl (by simp)

theorem validBack_valid (hs : s.regsWf) (k : Nat) (ho : (s.validBack k).bit (snOpen k) = false)
    (hh : (s.validBack k).bit (snShort k) = false) : (s.validBack k).bit (snValid k) = true := by
  rw [validBack_open hs] at ho
  rw [validBack_short hs] at hh
  unfold State.validBack
  rw [if_neg (by simp [ho, hh]), snValid_eq, bit_putBit_same _ _ _ hs rfl (by simp)]

theorem regsBut_wiringCleared {l : Nat → Prop} {s0 : State} {k : Nat} (o h : Bool) (hs : RegsBut l s0 s)
    (ho : l (snOpen k).addr) (hh : l (snShort k).addr) : RegsBut l s0 (s.wiringCleared k o h) :=
  regsBut_clearIf _ h (regsBut_clearIf _ o hs ho) hh

theorem regsBut_validBack {l : Nat → Prop} {s0 : State} {k : Nat} (hs : RegsBut l s0 s) (hv : l (snValid k).addr) :
    RegsBut l s0 (s.validBack k) := regsBut_ite hs (regsBut_wr _ _ hs hv)

theorem sensorFaultClear_frame (k : Fin 80) (s : State) :
    Answers { regs := true } s (exec (.sensorFaultClear k) s) := execSensorFaultClear_answers k (Frame.refl _ s) rfl

/-- OPEN is to be cleared: it is set and its condition has been absent for 1 s. -/
def State.openClears (s : State) (k : Nat) : Bool := s.bit (snOpen k) && s.since (s.snIn k).openClear (secs 1)

/-- SHORT is to be cleared. -/
def State.shortClears (s : State) (k : Nat) : Bool := s.bit (snShort k) && s.since (s.snIn k).shortClear (secs 1)

theorem execSensorFaultClear_clears {k : Fin 80} (h : (s.openClears k || s.shortClears k) = true) :
    execSensorFaultClear k s = .next ((s.wiringCleared k (s.openClears k) (s.shortClears k)).validBack k) := if_pos h

theorem execSensorFaultClear_rests {k : Fin 80} (ho : s.openClears k = false) (hh : s.shortClears k = false) :
    execSensorFaultClear k s = .next s :=
  if_neg (show ¬ (s.openClears k || s.shortClears k) = true by simp [ho, hh])

/-! ### Pulse inputs (R239) -/

theorem noPulseTimeout_frame (n : Fin 8) (s : State) : Answers { regs := true } s (exec (.noPulseTimeout n) s) :=
  execNoPulseTimeout_answers n (Frame.refl _ s) rfl

theorem pulseValue_kept {n : Nat} (h : s.bit (SN_PISTAT_OPEN n) = true ∨ s.bit (SN_PISTAT_SHORT n) = true) (b : Bool)
    (f : F32) : s.pulseValue n b f = s := if_pos h

theorem pulseValue_reports {n : Nat} (ho : s.bit (SN_PISTAT_OPEN n) = false) (hh : s.bit (SN_PISTAT_SHORT n) = false)
    (b : Bool) (f : F32) : s.pulseValue n b f = (s.putBit (SN_PISTAT_NO_PULSE n) b).wrf (SN_PIFREQ n) f :=
  if_neg (by simp [ho, hh])

theorem execNoPulseTimeout_due {n : Fin 8} (hc : s.bit SN_CTRL = true) (he : s.bit (SN_PICFG_ENABLE n) = true)
    (ht : (s.snIn (72 + n)).stamp.getD 0 + msec (clampNat 10 60000 (s.rd (SN_PICFG_TIMEOUT n))) ≤ s.time) :
    execNoPulseTimeout n s = .next (s.pulseValue n true 0) := congrArg _ (if_pos ⟨hc, he, ht⟩)

theorem execNoPulseTimeout_rests {n : Fin 8} (h : s.bit SN_CTRL = false ∨ s.bit (SN_PICFG_ENABLE n) = false ∨
    s.bit (SN_PISTAT_OPEN n) = true ∨ s.bit (SN_PISTAT_SHORT n) = true ∨
    s.time < (s.snIn (72 + n)).stamp.getD 0 + msec (clampNat 10 60000 (s.rd (SN_PICFG_TIMEOUT n)))) :
    execNoPulseTimeout n s = .next s := by
  by_cases hv : s.bit (SN_PISTAT_OPEN n) = true ∨ s.bit (SN_PISTAT_SHORT n) = true
  · unfold execNoPulseTimeout
    simp only [pulseValue_kept hv, ite_self]
  · refine congrArg _ (if_neg fun ⟨hc, he, ht⟩ => ?_)
    rcases h with h | h | h | h | h
    · exact Bool.false_ne_true (h.symm.trans hc)
    · exact Bool.false_ne_true (h.symm.trans he)
    · exact hv (Or.inl h)
    · exact hv (Or.inr h)
    · exact Nat.not_le.mpr h ht

/-- NO_PULSE set, and 0 Hz. -/
def State.noPulse (s : State) (n : Nat) : State := (s.putBit (SN_PISTAT_NO_PULSE n) true).wrf (SN_PIFREQ n) 0

theorem noPulse_bit (h : s.regsWf) (n : Nat) : (s.noPulse n).bit (SN_PISTAT_NO_PULSE n) = true :=
  (bit_wr_ne _ _ _ _ (by simp only [SN_PISTAT_NO_PULSE, SN_PIFREQ]; omega)).trans
    (bit_putBit_same s _ true h rfl (by simp [SN_PISTAT_NO_PULSE]))

theorem noPulse_freq (h : s.regsWf) (n : Nat) : (s.noPulse n).rd (SN_PIFREQ n) = 0 :=
  rd_wr_same _ (SN_PIFREQ n) 0 (putBit_regsWf s _ true h) (by simp [SN_PIFREQ]) (by simp [SN_PIFREQ])

theorem noPulse_regsBut (s : State) (n : Nat) :
    RegsBut (fun a => a = (SN_PISTAT_NO_PULSE n).addr ∨ a = (SN_PIFREQ n).addr) s (s.noPulse n) :=
  regsBut_wr _ _ (regsBut_wr _ _ (RegsBut.refl _ s) (Or.inl rfl)) (Or.inr rfl)

/-! ### Digital inputs (R236, R259) -/

/-- The registers that hold the POS bits of the solenoid channels. -/
def posReg (a : Nat) : Prop := ∃ n, n < 36 ∧ a = (SV_CHSTAT_POS n).addr

theorem regsBut_posUpdate {l : Nat → Prop} (hl : ∀ a, posReg a → l a) {s0 : State} (h : RegsBut l s0 s) :
    RegsBut l s0 s.posUpdate :=
  regsBut_foldl (fun _ n hn hs => regsBut_wr _ _ hs (hl _ ⟨n, List.mem_range.mp hn, rfl⟩)) h

theorem din_not_posReg : ¬ posReg SN_DIN.addr := fun ⟨n, _, ha⟩ => by
  simp only [SN_DIN, SV_CHSTAT_POS] at ha
  omega

/-- The level of a digital input as SN_DINPOL reads it. -/
def State.dinLevel (s : State) (k : Nat) (l : Bool) : Bool := l != bitOf (s.rd SN_DINPOL) k

/-- A digital input sampled, and since when its level differs from the one reported. -/
def State.dinSampled (s : State) (k : Nat) (since : Option Nat) : State :=
  s.setSnIn (80 + k) { s.snIn (80 + k) with at_ := some s.time, stamp := since }

/-- A digital input's new level taken, with the positions that read it. -/
def State.dinTaken (s : State) (k : Nat) (v : Bool) : State :=
  ((s.dinSampled k none).wr SN_DIN (withBits (s.rd SN_DIN) k k (b2n v))).posUpdate

theorem dinDebounce_frame (k : Fin 16) (l : Bool) (s : State) :
    Answers { regs := true, sn := true } s (exec (.dinDebounce k l) s) :=
  execDinDebounce_answers k l (Frame.refl _ s) rfl rfl

theorem execDinDebounce_rests {k : Fin 16} (l : Bool) (hc : s.bit SN_CTRL = false) :
    execDinDebounce k l s = .next s := if_pos (by simp [hc])

theorem execDinDebounce_same {k : Fin 16} {l : Bool} (hc : s.bit SN_CTRL = true)
    (hv : s.dinLevel k l = bitOf (s.rd SN_DIN) k) : execDinDebounce k l s = .next (s.dinSampled k none) :=
  (if_neg (by simp [hc])).trans (if_pos hv)

theorem execDinDebounce_differs {k : Fin 16} {l : Bool} {t0 : Nat} (hc : s.bit SN_CTRL = true)
    (hv : s.dinLevel k l ≠ bitOf (s.rd SN_DIN) k) (h0 : t0 = (s.snIn (80 + k)).stamp.getD s.time) :
    execDinDebounce k l s = if t0 + msec (s.rd SN_DINDEB) ≤ s.time then .next (s.dinTaken k (s.dinLevel k l))
      else .next (s.dinSampled k (some t0)) := by
  subst h0
  exact (if_neg (by simp [hc])).trans (if_neg hv)

theorem dinTaken_din (h : s.regsWf) (k : Nat) (v : Bool) :
    (s.dinTaken k v).rd SN_DIN = withBits (s.rd SN_DIN) k k (b2n v) % 2 ^ 16 :=
  ((regsBut_posUpdate (fun _ h => h) (RegsBut.refl posReg _)).rd SN_DIN din_not_posReg).trans
    (rd_wr_same _ SN_DIN _ (regsWf_congr (onSn_regs s _) h) (by decide) (by decide))

theorem dinTaken_regsBut (s : State) (k : Nat) (v : Bool) :
    RegsBut (fun a => a = SN_DIN.addr ∨ posReg a) s (s.dinTaken k v) :=
  regsBut_posUpdate (fun _ h => Or.inr h) (regsBut_wr _ _ (regsBut_onSn _ (RegsBut.refl _ s)) (Or.inl rfl))

/-! ### Leak channels (R245 to R248) -/

theorem leakSample_answers (k : Fin 32) (a b c : Nat) (s : State) :
    Answers { regs := true, sys := true, dic := true, mg := true, le := true, sn := true } s
      (exec (.leakSample k a b c) s) := execLeakSample_answers k a b c (Frame.refl _ s) rfl rfl rfl rfl rfl rfl

theorem execLeakSample_eq (k : Fin 32) (a b c : Nat) (s : State) :
    execLeakSample k a b c s = .next (if s.bit (lkEnable k) = false then s else if s.sys.role = .standby then
      s.leakMeasure k a (if s.lkBreak k a b then 0xFFFF else c) else s.leakSample k a b c) := by
  unfold execLeakSample
  simp only [Bool.not_eq_true]

/-- STATE and WET_COUNT of a leak channel are fields of one register. -/
theorem lkState_eq (k : Nat) : lkState k = ⟨(lkState k).addr, 31, 29⟩ := by
  unfold lkState
  split_ifs <;> rfl

theorem lkCount_eq (k : Nat) : lkCount k = ⟨(lkState k).addr, 28, 27⟩ := by
  unfold lkState lkCount
  split_ifs <;> rfl

theorem lkState_range {k : Nat} (hk : k < 32) : 0x44120000 ≤ (lkState k).addr ∧ (lkState k).addr < 0x44130000 := by
  unfold lkState LK_ROPESTAT_STATE LK_PTSTAT_STATE
  split_ifs <;> constructor <;> dsimp only <;> omega

/-- STATE and WET_COUNT of a leak channel cleared. -/
def State.lkCleared (s : State) (k : Nat) : State := (s.wr (lkState k) 0).wr (lkCount k) 0

theorem lkCleared_state (h : s.regsWf) (k : Nat) : (s.lkCleared k).rd (lkState k) = 0 := by
  unfold State.lkCleared
  rw [lkState_eq, lkCount_eq, rd_wr_beside _ _ _ (wr_regsWf s _ _ h) (by simp),
    rd_wr_same s _ _ h (by simp) (by simp), Nat.zero_mod]

theorem lkCleared_count (h : s.regsWf) (k : Nat) : (s.lkCleared k).rd (lkCount k) = 0 := by
  unfold State.lkCleared
  rw [lkCount_eq, rd_wr_same _ _ _ (wr_regsWf s _ _ h) (by simp) (by simp), Nat.zero_mod]

/-- The acknowledge of a dry confirmed channel: STATE, WET_COUNT and the input of the trip matrix cleared, the record
with them. -/
def State.lkReleased (s : State) (k : Nat) : State :=
  ((s.lkCleared k).setTmInput (16 + k) false).setLkCh k { s.lkCh k with confirmedAt := none, brkReported := false }

/-- The registers beside STATE and WET_COUNT that the acknowledge writes. -/
def lkAckReg (a : Nat) : Prop := a = (TM_IN 0).addr ∨ a = (TM_IN 1).addr ∨ noteReg a

/-- The inputs of the leak channels stand in the first two words of the trip matrix. -/
theorem tmIn_lkAckReg {k : Nat} (hk : k < 32) : lkAckReg (TM_IN ((16 + k) / 32)).addr := by
  unfold lkAckReg
  have hc : (16 + k) / 32 = 0 ∨ (16 + k) / 32 = 1 := by omega
  rcases hc with hc | hc <;> simp [hc]

theorem lkState_not_lkAckReg {k : Nat} (hk : k < 32) : ¬ lkAckReg (lkState k).addr := by
  obtain ⟨h0, h1⟩ := lkState_range hk
  rintro (h | h | h)
  · simp only [TM_IN] at h
    omega
  · simp only [TM_IN] at h
    omega
  · exact not_noteReg_of_range (by omega) (by omega) h

theorem regsBut_lkAck {l : Nat → Prop} (hl : ∀ a, lkAckReg a → l a) {s0 : State} {k : Nat} (hk : k < 32)
    (h : RegsBut l s0 (s.lkCleared k)) : RegsBut l s0 ((s.lkReleased k).log 9 .leakAck 0 [k]) :=
  regsBut_log (fun _ hn => hl _ (Or.inr (Or.inr hn))) _ _ _ _
    (regsBut_onSn _ (regsBut_wr _ _ h (hl _ (tmIn_lkAckReg hk))))

theorem lkAck_after_lkCleared (s : State) {k : Nat} (hk : k < 32) :
    RegsBut lkAckReg (s.lkCleared k) ((s.lkReleased k).log 9 .leakAck 0 [k]) :=
  regsBut_lkAck (fun _ h => h) hk (RegsBut.refl _ _)

theorem lkAck_state (h : s.regsWf) {k : Nat} (hk : k < 32) :
    ((s.lkReleased k).log 9 .leakAck 0 [k]).rd (lkState k) = 0 :=
  ((lkAck_after_lkCleared s hk).rd _ (lkState_not_lkAckReg hk)).trans (lkCleared_state h k)

theorem lkAck_count (h : s.regsWf) {k : Nat} (hk : k < 32) :
    ((s.lkReleased k).log 9 .leakAck 0 [k]).rd (lkCount k) = 0 :=
  ((lkAck_after_lkCleared s hk).rd _ (by rw [lkCount_eq]; exact lkState_not_lkAckReg hk)).trans (lkCleared_count h k)

theorem lkCleared_regsBut (s : State) (k : Nat) : RegsBut (· = (lkState k).addr) s (s.lkCleared k) :=
  regsBut_wr _ _ (regsBut_wr _ _ (RegsBut.refl _ s) rfl) (by rw [lkCount_eq])

theorem lkAck_regsBut (s : State) {k : Nat} (hk : k < 32) :
    RegsBut (fun a => a = (lkState k).addr ∨ lkAckReg a) s ((s.lkReleased k).log 9 .leakAck 0 [k]) :=
  regsBut_lkAck (fun _ h => Or.inr h) hk ((lkCleared_regsBut s k).mono fun _ h => Or.inl h)

theorem lkAckWrite_frame (k : Fin 32) (s : State) :
    Answers { regs := true, mg := true, sn := true } s (exec (.lkAckWrite k) s) :=
  execLkAckWrite_answers k (Frame.refl _ s) rfl rfl rfl

theorem execLkAckWrite_releases {k : Fin 32} (hs : s.rd (lkState k) = 2)
    (ht : s.since (s.lkCh k).drySince (secs 10) = true) :
    execLkAckWrite k s = .next ((s.lkReleased k).log 9 .leakAck 0 [(k : Nat)]) := if_pos ⟨hs, ht⟩

theorem execLkAckWrite_rests {k : Fin 32}
    (h : s.rd (lkState k) ≠ 2 ∨ s.since (s.lkCh k).drySince (secs 10) = false) : execLkAckWrite k s = .next s :=
  if_neg (by rcases h with h | h <;> simp [h])

/-! ### The cold plate (R250, R251, R450) -/

theorem cpEvaluation_frame (f i o : BitVec 32) (failed w : Bool) (s : State) :
    Answers { Parts.full with
      time := false, free := false, mem := false, pb := false, vq := false, fb := false, ca := false } s
      (exec (.cpEvaluation f i o failed w) s) :=
  execCpEvaluation_answers f i o failed w (Frame.refl _ s) rfl rfl rfl rfl rfl rfl rfl rfl rfl rfl rfl

/-- The measured values of the cold plate stored, with VALID, SENSOR_FAIL and the moment of them. -/
def State.cpMeasured (s : State) (f i o : BitVec 32) (failed : Bool) : State :=
  (((((s.wrf SN_CPFLOW f).wrf SN_CPTIN i).wrf SN_CPTOUT o).putBit SN_CPSTAT_VALID true).putBit SN_CPSTAT_SENSOR_FAIL
    failed).onSn fun y => { y with cpAt := some s.time }

theorem execCpEvaluation_eq (f i o : BitVec 32) (failed w : Bool) (s : State) : execCpEvaluation f i o failed w s =
    .next (State.cpCondense (if failed = true then (s.cpMeasured f i o failed).cpRiseEval i o
      else (s.cpMeasured f i o failed).cpFlowEval f i) w) := rfl

theorem derateStart_frame (s : State) :
    Answers { regs := true, mg := true, sn := true, tr := true } s (exec .derateStart s) :=
  execDerateStart_answers (Frame.refl _ s) rfl rfl rfl rfl

theorem execDerateStart_starts (hl : s.bit SN_CPSTAT_CP_LOW = true) (hd : s.sn.derated = false) : execDerateStart s =
    .next (((s.rotAbort.onSn fun y => { y with derated := true }).trMode).log 2 .derate 1 []) :=
  congrArg _ (if_pos ⟨hl, by simp [hd]⟩)

theorem execDerateStart_rests (h : s.bit SN_CPSTAT_CP_LOW = false ∨ s.sn.derated = true) :
    execDerateStart s = .next s := congrArg _ (if_neg (by rcases h with h | h <;> simp [h]))

theorem derateEnd_frame (s : State) :
    Answers { regs := true, mg := true, sn := true, tr := true } s (exec .derateEnd s) :=
  execDerateEnd_answers (Frame.refl _ s) rfl rfl rfl rfl

theorem execDerateEnd_ends (hd : s.sn.derated = true) (hl : s.bit SN_CPSTAT_CP_LOW = false)
    (ht : s.since s.sn.lowClear (secs 10) = true) : execDerateEnd s =
      .next (((s.onSn fun y => { y with derated := false }).trMode).log 2 .derate 0 []) :=
  congrArg _ (if_pos ⟨hd, by simp [hl], ht⟩)

theorem execDerateEnd_rests (h : s.sn.derated = false ∨ s.bit SN_CPSTAT_CP_LOW = true ∨
    s.since s.sn.lowClear (secs 10) = false) : execDerateEnd s = .next s :=
  congrArg _ (if_neg (by rcases h with h | h | h <;> simp [h]))

end sensors

end Sys2Proof.Machine
end

section
/-! What the conversions, the inputs, the leak channels and the cold plate answer. -/

namespace Sys2Proof.Machine

/-- Settles O35: each command by its equation for the case; the wiring bits, a pulse input, SN_DIN and a released leak
channel by what the command leaves in the registers. -/
theorem sensorInputs : Obligations.SensorInputs := by
  unfold Obligations.SensorInputs
  refine ⟨?rtd, ?ma, ?clears, ?clearRests, ?noPulse, ?pulseRests, ?taken, ?dated, ?same, ?scanOff, ?leak, ?released,
    ?ackRests, ?byFlow, ?byRise, ?derates, ?derateRests, ?ends, ?endRests⟩
  case rtd =>
    intro s n raw o b
    exact answers_with (rtdConversion_frame n raw o b s) (execRtdConversion_eq n raw o b s) rfl
  case ma =>
    intro s n raw o b
    exact answers_with (maConversion_frame n raw o b s) (execMaConversion_eq n raw o b s) rfl
  case clears =>
    intro s k o h hi ho hh hoh
    subst ho hh
    have hw := wiringCleared_regsWf hi.regs k (s.openClears k) (s.shortClears k)
    exact answers_with (sensorFaultClear_frame k s) (execSensorFaultClear_clears hoh)
      ⟨(validBack_open hw k).trans (wiringCleared_open hi.regs k _ _),
        (validBack_short hw k).trans (wiringCleared_short hi.regs k _ _), validBack_valid hw k,
        regsBut_validBack (regsBut_wiringCleared _ _ (RegsBut.refl _ s) (Or.inl rfl) (Or.inr (Or.inl rfl)))
          (Or.inr (Or.inr rfl))⟩
  case clearRests =>
    intro s k ho hh
    exact answers_with (sensorFaultClear_frame k s) (execSensorFaultClear_rests ho hh) rfl
  case noPulse =>
    intro s n hi hc he ho hh ht
    exact answers_with (noPulseTimeout_frame n s)
      ((execNoPulseTimeout_due hc he ht).trans (congrArg _ (pulseValue_reports ho hh true 0)))
      ⟨noPulse_bit hi.regs n, noPulse_freq hi.regs n, noPulse_regsBut s n⟩
  case pulseRests =>
    intro s n h
    exact answers_with (noPulseTimeout_frame n s) (execNoPulseTimeout_rests h) rfl
  case taken =>
    intro s k l t0 hi hc hv h0 ht
    exact answers_with (dinDebounce_frame k l s)
      ((execDinDebounce_differs hc hv (by rw [h0, Option.getD_some])).trans (if_pos ht))
      ⟨dinTaken_din hi.regs k _, dinTaken_regsBut s k _⟩
  case dated =>
    intro s k l t0 hc hv h0 ht
    exact answers_with (dinDebounce_frame k l s)
      ((execDinDebounce_differs hc hv h0).trans (if_neg (Nat.not_le.mpr ht))) rfl
  case same =>
    intro s k l hc hv
    exact answers_with (dinDebounce_frame k l s) (execDinDebounce_same hc hv) rfl
  case scanOff =>
    intro s k l hc
    exact answers_with (dinDebounce_frame k l s) (execDinDebounce_rests l hc) rfl
  case leak =>
    intro s k a b c
    exact answers_with (leakSample_answers k a b c s) (execLeakSample_eq k a b c s) rfl
  case released =>
    intro s k t0 hi hs hd ht
    exact answers_with (lkAckWrite_frame k s) (execLkAckWrite_releases hs (since_due hd ht))
      ⟨lkAck_state hi.regs k.isLt, lkAck_count hi.regs k.isLt, lkAck_regsBut s k.isLt⟩
  case ackRests =>
    intro s k h
    exact answers_with (lkAckWrite_frame k s) (execLkAckWrite_rests h) rfl
  case byFlow =>
    intro s f i o w
    exact answers_with (cpEvaluation_frame f i o false w s) (execCpEvaluation_eq f i o false w s) rfl
  case byRise =>
    intro s f i o w
    exact answers_with (cpEvaluation_frame f i o true w s) (execCpEvaluation_eq f i o true w s) rfl
  case derates =>
    intro s hl hd
    exact answers_with (derateStart_frame s) (execDerateStart_starts hl hd) rfl
  case derateRests =>
    intro s h
    exact answers_with (derateStart_frame s) (execDerateStart_rests h) rfl
  case ends =>
    intro s t0 hd hl hc ht
    exact answers_with (derateEnd_frame s) (execDerateEnd_ends hd hl (since_due hc ht)) rfl
  case endRests =>
    intro s h
    exact answers_with (derateEnd_frame s) (execDerateEnd_rests h) rfl

end Sys2Proof.Machine
end

section
/-! The requests and the phases of a solenoid channel (R250, R256 to R263): one equation for each case of a command. -/

namespace Sys2Proof.Machine

section channel

variable {s : State} {n : Fin 36}

/-! ### Requests (R250, R263) -/

theorem svCloseRequest_frame (n : Fin 36) (s : State) :
    Answers { regs := true, sv := true } s (exec (.svCloseRequest n) s) :=
  execSvCloseRequest_answers n (Frame.refl _ s) rfl rfl

theorem execSvCloseRequest_eq (n : Fin 36) (s : State) :
    execSvCloseRequest n s = .next ((s.putBit (SV_CHCMD_CLOSE n) true).closeRequest n false) := rfl

theorem svOpenRequest_frame (n : Fin 36) (s : State) :
    Answers {
      regs := true, sys := true, mg := true, mb := true, pb := true, le := true, sv := true, pf := true, tr := true,
      tw := true } s (exec (.svOpenRequest n) s) :=
  execSvOpenRequest_answers n (Frame.refl _ s) rfl rfl rfl rfl rfl rfl rfl rfl rfl rfl

theorem execSvOpenRequest_eq (n : Fin 36) (s : State) :
    execSvOpenRequest n s = .next (s.openRequest n).reopenCheck := rfl

/-- A channel that its trip holds ignores an opening request (R263). -/
theorem openRequest_held {n : Nat} (h : s.bit (SV_CHSTAT_TRIP_HELD n) = true) : s.openRequest n = s := if_pos h

theorem execSvOpenRequest_held (h : s.bit (SV_CHSTAT_TRIP_HELD n) = true) :
    execSvOpenRequest n s = .next s.reopenCheck := by
  rw [execSvOpenRequest_eq, openRequest_held h]

theorem svReleaseWrite_frame (n : Fin 36) (s : State) : Answers { regs := true } s (exec (.svReleaseWrite n) s) :=
  execSvReleaseWrite_answers n (Frame.refl _ s) rfl

theorem execSvReleaseWrite_rests (h : s.chLeaks n = true) : execSvReleaseWrite n s = .next s :=
  congrArg _ (if_pos h)

theorem execSvReleaseWrite_releases (h : s.chLeaks n = false) : execSvReleaseWrite n s = .next (s.svRelease n) :=
  congrArg _ (if_neg (by simp [h]))

/-! ### The peak phase (R256 to R258, R260, R261) -/

theorem peakStart_frame (n : Fin 36) (s : State) :
    Answers { regs := true, dic := true, vq := true, le := true, sv := true, tw := true } s (exec (.peakStart n) s) :=
  execPeakStart_answers n (Frame.refl _ s) rfl rfl rfl rfl rfl rfl

/-- A waiting channel's state as its start reads it: a tripped one takes its precedence first (R261). -/
def State.peakView (s : State) (n : Nat) : State := if (s.svCh n).trip then s.tripPreempt n else s

theorem peakView_plain {n : Nat} (h : (s.svCh n).trip = false) : s.peakView n = s := if_neg (by simp [h])

theorem peakView_tripped {n : Nat} (h : (s.svCh n).trip = true) : s.peakView n = s.tripPreempt n := if_pos h

theorem execPeakStart_starts {u : State} (hs : s.svSt n = 1) (hu : s.peakView n = u) (hm : u.mayPeak n = true)
    (ht : u.peakTurn n = true) : execPeakStart n s = .next (u.startPeak n) := by
  subst hu
  exact (if_pos hs).trans (if_pos ⟨hm, ht⟩)

theorem execPeakStart_waits {u : State} (hs : s.svSt n = 1) (hu : s.peakView n = u)
    (h : u.mayPeak n = false ∨ u.peakTurn n = false) : execPeakStart n s = .next u := by
  subst hu
  exact (if_pos hs).trans (if_neg fun ⟨hm, ht⟩ =>
    h.elim (fun h => Bool.false_ne_true (h.symm.trans hm)) fun h => Bool.false_ne_true (h.symm.trans ht))

theorem execPeakStart_rests (hs : s.svSt n ≠ 1) : execPeakStart n s = .next s := if_neg hs

theorem kinkDetect_frame (n : Fin 36) (ma : Nat) (s : State) :
    Answers { regs := true, sv := true } s (exec (.kinkDetect n ma) s) :=
  execKinkDetect_answers n ma (Frame.refl _ s) rfl rfl

theorem execKinkDetect_samples (ma : Nat) (hs : s.svSt n = 2) (ho : s.tw.outEn = true) :
    execKinkDetect n ma s = .next ((s.wr (SV_CHCUR n) (min ma 8191)).kinkSample n ma) := if_pos ⟨hs, ho⟩

theorem execKinkDetect_rests (ma : Nat) (h : s.svSt n ≠ 2 ∨ s.tw.outEn = false) :
    execKinkDetect n ma s = .next s := if_neg (by rcases h with h | h <;> simp [h])

theorem peakEnd_answers (n : Fin 36) (s : State) :
    Answers { regs := true, dic := true, mg := true, mb := true, vq := true, le := true, sv := true, tw := true } s
      (exec (.peakEnd n) s) := execPeakEnd_answers n (Frame.refl _ s) rfl rfl rfl rfl rfl rfl rfl rfl

theorem execPeakEnd_holds (hs : s.svSt n = 2) (ho : s.peakOver n = true) :
    execPeakEnd n s = .next (s.endPeakPhase n).svClock := if_pos ⟨hs, ho⟩

theorem execPeakEnd_rests (h : s.svSt n ≠ 2 ∨ s.peakOver n = false) : execPeakEnd n s = .next s :=
  if_neg (by rcases h with h | h <;> simp [h])

/-! ### The opening, the position and the budget (R259, R262) -/

theorem openingEnd_frame (n : Fin 36) (s : State) :
    Answers { Parts.full with time := false, free := false, mem := false, sn := false, fb := false, ca := false } s
      (exec (.openingEnd n) s) :=
  execOpeningEnd_answers n (Frame.refl _ s) rfl rfl rfl rfl rfl rfl rfl rfl rfl rfl rfl rfl

theorem execOpeningEnd_ends (hs : s.svSt n = 5) (ht : s.since (s.svCh n).offAt (msec s.reopenMs) = true) :
    execOpeningEnd n s = .next (s.endOpening n).reopenCheck := if_pos ⟨hs, ht⟩

theorem execOpeningEnd_rests (h : s.svSt n ≠ 5 ∨ s.since (s.svCh n).offAt (msec s.reopenMs) = false) :
    execOpeningEnd n s = .next s := if_neg (by rcases h with h | h <;> simp [h])

theorem posCheck_answers (n : Fin 36) (s : State) :
    Answers { regs := true, dic := true, mg := true, mb := true, le := true, sv := true, tw := true } s
      (exec (.posCheck n) s) := execPosCheck_answers n (Frame.refl _ s) rfl rfl rfl rfl rfl rfl rfl

theorem execPosCheck_runs (h : s.since (s.svCh n).posDue 0 = true) :
    execPosCheck n s = .next ((s.setSvCh n { s.svCh n with posDue := none }).posCheck n true) := if_pos h

theorem execPosCheck_rests (h : s.since (s.svCh n).posDue 0 = false) : execPosCheck n s = .next s :=
  if_neg (by simp [h])

theorem groupBudgetTimeout_frame (n : Fin 36) (s : State) :
    Answers { regs := true, dic := true, mg := true, mb := true, vq := true, le := true, sv := true, tw := true } s
      (exec (.groupBudgetTimeout n) s) :=
  execGroupBudgetTimeout_answers n (Frame.refl _ s) rfl rfl rfl rfl rfl rfl rfl rfl

theorem execGroupBudgetTimeout_fails (hs : s.svSt n = 1) (ht : msec 200 ≤ s.waitNow n) :
    execGroupBudgetTimeout n s = .next (s.budgetFail n) := if_pos ⟨hs, ht⟩

theorem execGroupBudgetTimeout_rests (h : s.svSt n ≠ 1 ∨ s.waitNow n < msec 200) :
    execGroupBudgetTimeout n s = .next s :=
  if_neg fun ⟨hs, ht⟩ => h.elim (fun h => h hs) fun h => Nat.not_le.mpr h ht

end channel

end Sys2Proof.Machine
end

section
/-! What the requests and the phases of a solenoid channel answer. -/

namespace Sys2Proof.Machine

/-- Settles O36: each command by its equation for the case, inside the frame of the command. -/
theorem valveChannels : Obligations.ValveChannels := by
  unfold Obligations.ValveChannels
  refine ⟨?close, ?opens, ?held, ?leaks, ?releases, ?starts, ?trips, ?startRests, ?waits, ?samples, ?sampleRests,
    ?peakEnds, ?peakEndRests, ?openingEnds, ?openingRests, ?position, ?positionRests, ?budgetRests, ?budgetFails⟩
  case close =>
    intro s n
    exact answers_with (svCloseRequest_frame n s) (execSvCloseRequest_eq n s) rfl
  case opens =>
    intro s n
    exact answers_with (svOpenRequest_frame n s) (execSvOpenRequest_eq n s) rfl
  case held =>
    intro s n h
    exact answers_with (svOpenRequest_frame n s) (execSvOpenRequest_held h) rfl
  case leaks =>
    intro s n h
    exact answers_with (svReleaseWrite_frame n s) (execSvReleaseWrite_rests h) rfl
  case releases =>
    intro s n h
    exact answers_with (svReleaseWrite_frame n s) (execSvReleaseWrite_releases h) rfl
  case starts =>
    intro s n hs hp hm ht
    exact answers_with (peakStart_frame n s) (execPeakStart_starts hs (peakView_plain hp) hm ht) rfl
  case trips =>
    intro s n hs hp hm ht
    exact answers_with (peakStart_frame n s) (execPeakStart_starts hs (peakView_tripped hp) hm ht) rfl
  case startRests =>
    intro s n hs
    exact answers_with (peakStart_frame n s) (execPeakStart_rests hs) rfl
  case waits =>
    intro s n u hs hu h
    exact answers_with (peakStart_frame n s) (execPeakStart_waits hs hu.symm h) rfl
  case samples =>
    intro s n ma hs ho
    exact answers_with (kinkDetect_frame n ma s) (execKinkDetect_samples ma hs ho) rfl
  case sampleRests =>
    intro s n ma h
    exact answers_with (kinkDetect_frame n ma s) (execKinkDetect_rests ma h) rfl
  case peakEnds =>
    intro s n hs ho
    exact answers_with (peakEnd_answers n s) (execPeakEnd_holds hs ho) rfl
  case peakEndRests =>
    intro s n h
    exact answers_with (peakEnd_answers n s) (execPeakEnd_rests h) rfl
  case openingEnds =>
    intro s n t0 hs ho ht
    exact answers_with (openingEnd_frame n s) (execOpeningEnd_ends hs (since_due ho ht)) rfl
  case openingRests =>
    intro s n h
    exact answers_with (openingEnd_frame n s) (execOpeningEnd_rests h) rfl
  case position =>
    intro s n t0 hd ht
    exact answers_with (posCheck_answers n s) (execPosCheck_runs (since_due hd ht)) rfl
  case positionRests =>
    intro s n h
    exact answers_with (posCheck_answers n s) (execPosCheck_rests h) rfl
  case budgetRests =>
    intro s n h
    exact answers_with (groupBudgetTimeout_frame n s) (execGroupBudgetTimeout_rests h) rfl
  case budgetFails =>
    intro s n hs ht
    exact answers_with (groupBudgetTimeout_frame n s) (execGroupBudgetTimeout_fails hs ht) rfl

end Sys2Proof.Machine
end

section
/-! The tests, the protection and the sequences of the solenoid groups (R264 to R268, R271): one equation for each case
of a command. -/

namespace Sys2Proof.Machine

section groups

variable {s : State} {g : Fin 9} {n : Fin 36}

/-! ### Visits of the scan (R264, R265) -/

theorem offStateVisit_frame (g : Fin 9) (node rail supply : Nat) (s : State) :
    Answers { regs := true, dic := true, mg := true, mb := true, vq := true, le := true, sv := true, tw := true } s
      (exec (.offStateVisit g node rail supply) s) :=
  execOffStateVisit_answers g node rail supply (Frame.refl _ s) rfl rfl rfl rfl rfl rfl rfl rfl

/-- The group's scan past a visit: its next channel and the visit's time (R264). -/
def State.scanMoved (s : State) (g : Nat) : State :=
  s.setSvGrp g { s.svGrp g with scanNext := ((s.svGrp g).scanNext + 1) % 4, scanAt := some s.time }

/-- What an off-state visit leaves: a channel that is on in a forced idle is passed by, any other takes its reading. -/
def State.offVisited (s : State) (g node rail supply : Nat) : State :=
  if s.rd (SV_GSTAT_HS g) = 2 ∧ (s.scanMoved g).svOn (s.scanChannel g) = true then s.scanMoved g
  else ((s.scanMoved g).svMeasure (s.scanChannel g) node rail).offReading (s.scanChannel g) node rail supply

theorem execOffStateVisit_eq (g : Fin 9) (node rail supply : Nat) (s : State) :
    execOffStateVisit g node rail supply s =
      if s.svDiag = true ∧ s.rd (SV_GSTAT_HS g) ≠ 1 ∧
          (s.svGrp g).scanAt.all (fun t0 => decide (t0 + 125000 ≤ s.time)) = true then
        .next (s.offVisited g node rail supply)
      else .next s := by
  rw [State.offVisited, apply_ite Host.Outcome.next]
  refine if_congr (and_congr_right fun _ => and_congr_right fun _ => ?_) rfl rfl
  cases (s.svGrp g).scanAt <;> rfl

theorem execOffStateVisit_visits (node rail supply : Nat) (hd : s.svDiag = true) (hh : s.rd (SV_GSTAT_HS g) ≠ 1)
    (ht : (s.svGrp g).scanAt.all (fun t0 => decide (t0 + 125000 ≤ s.time)) = true) :
    execOffStateVisit g node rail supply s = .next (s.offVisited g node rail supply) :=
  (execOffStateVisit_eq g node rail supply s).trans (if_pos ⟨hd, hh, ht⟩)

theorem execOffStateVisit_rests (node rail supply : Nat) (h : s.svDiag = false ∨ s.rd (SV_GSTAT_HS g) = 1 ∨
      (s.svGrp g).scanAt.any (fun t0 => decide (s.time < t0 + 125000)) = true) :
    execOffStateVisit g node rail supply s = .next s := by
  refine (execOffStateVisit_eq g node rail supply s).trans (if_neg fun ⟨hd, hh, ht⟩ => ?_)
  rcases h with h | h | h
  · exact Bool.false_ne_true (h.symm.trans hd)
  · exact hh h
  · obtain ⟨t0, h0, hlt⟩ := (Option.any_eq_true _ _).mp h
    rw [h0] at ht
    exact absurd (of_decide_eq_true ht) (Nat.not_le.mpr (of_decide_eq_true hlt))

theorem onGroupVisit_frame (n : Fin 36) (node win periods : Nat) (s : State) :
    Answers { regs := true, dic := true, mg := true, mb := true, vq := true, le := true, sv := true, tw := true } s
      (exec (.onGroupVisit n node win periods) s) :=
  execOnGroupVisit_answers n node win periods (Frame.refl _ s) rfl rfl rfl rfl rfl rfl rfl rfl

theorem execOnGroupVisit_visits (node win periods : Nat) (hd : s.svDiag = true)
    (hh : s.rd (SV_GSTAT_HS ((n : Nat) / 4)) = 1) (ho : s.svOn n = false) :
    execOnGroupVisit n node win periods s =
      .next ((s.wr (SV_CHNODE n) (min node 65535)).onGroupReading n node win periods) :=
  if_pos ⟨hd, hh, Bool.eq_false_iff.mp ho⟩

theorem execOnGroupVisit_rests (node win periods : Nat)
    (h : s.svDiag = false ∨ s.rd (SV_GSTAT_HS ((n : Nat) / 4)) ≠ 1 ∨ s.svOn n = true) :
    execOnGroupVisit n node win periods s = .next s := if_neg (by rcases h with h | h | h <;> simp [h])

/-! ### The forced idle (R266) -/

theorem forcedIdleTest_frame (g : Fin 9) (rail supply : Nat) (p : List (Fin 4)) (s : State) :
    Answers { regs := true, dic := true, mg := true, vq := true, le := true, sv := true, tw := true } s
      (exec (.forcedIdleTest g rail supply p) s) :=
  execForcedIdleTest_answers g rail supply p (Frame.refl _ s) rfl rfl rfl rfl rfl rfl rfl

theorem execForcedIdleTest_begins (rail supply : Nat) (p : List (Fin 4)) (h : s.mayIdle g = true) :
    execForcedIdleTest g rail supply p s = .next ((((s.wr (SV_GSTAT_HS g) 2).setSvGrp g
      { s.svGrp g with idleFrom := some s.time, repeatAt := none }).idleChecks g rail supply p).gidle g) := if_pos h

theorem execForcedIdleTest_rests (rail supply : Nat) (p : List (Fin 4)) (h : s.mayIdle g = false) :
    execForcedIdleTest g rail supply p s = .next s := if_neg (by simp [h])

theorem forcedIdleEnd_frame (g : Fin 9) (s : State) :
    Answers { regs := true, sv := true } s (exec (.forcedIdleEnd g) s) :=
  execForcedIdleEnd_answers g (Frame.refl _ s) rfl rfl

theorem execForcedIdleEnd_ends (hh : s.rd (SV_GSTAT_HS g) = 2) (ht : s.since (s.svGrp g).idleFrom (msec 5) = true) :
    execForcedIdleEnd g s = .next (((s.wr (SV_GSTAT_HS g) 1).setSvGrp g
      { s.svGrp g with idleFrom := none, onSince := some s.time, lastIdle := s.time }).gidle g) := if_pos ⟨hh, ht⟩

theorem execForcedIdleEnd_rests (h : s.rd (SV_GSTAT_HS g) ≠ 2 ∨ s.since (s.svGrp g).idleFrom (msec 5) = false) :
    execForcedIdleEnd g s = .next s := if_neg (by rcases h with h | h <;> simp [h])

/-! ### The check after switch-on (R267) -/

theorem onStateCheck_frame (n : Fin 36) (low win : Nat) (s : State) :
    Answers { regs := true, dic := true, mg := true, mb := true, vq := true, le := true, sv := true, tw := true } s
      (exec (.onStateCheck n low win) s) :=
  execOnStateCheck_answers n low win (Frame.refl _ s) rfl rfl rfl rfl rfl rfl rfl rfl

/-- A channel marked as checked, with its low-side current stored (R267). -/
def State.onChecked (s : State) (n low : Nat) : State :=
  (s.setSvCh n { s.svCh n with checked := true }).wr (SV_CHCUR n) (min low 8191)

theorem execOnStateCheck_runs (low win : Nat) (hd : s.svDiag = true) (ho : s.svOn n = true)
    (ht : s.since (s.svCh n).onAt (msec 2) = true) (hc : (s.svCh n).checked = false) :
    execOnStateCheck n low win s =
      if low < 50 then
        .next (if 50 < win then (s.onChecked n low).svShortGnd n true else (s.onChecked n low).svOpenLoad n true)
      else .next (s.onChecked n low) := if_pos ⟨hd, ho, ht, Bool.eq_false_iff.mp hc⟩

theorem execOnStateCheck_rests (low win : Nat) (h : s.svDiag = false ∨ s.svOn n = false ∨
      s.since (s.svCh n).onAt (msec 2) = false ∨ (s.svCh n).checked = true) :
    execOnStateCheck n low win s = .next s := if_neg (by rcases h with h | h | h | h <;> simp [h])

/-! ### Overcurrent (R267, R268) -/

theorem lowSideOvercurrent_frame (n : Fin 36) (ma : Nat) (s : State) :
    Answers { regs := true, dic := true, mg := true, mb := true, vq := true, le := true, sv := true, tw := true } s
      (exec (.lowSideOvercurrent n ma) s) :=
  execLowSideOvercurrent_answers n ma (Frame.refl _ s) rfl rfl rfl rfl rfl rfl rfl rfl

theorem execLowSideOvercurrent_measures (ma : Nat) (hd : s.svDiag = true) (ho : s.svOn n = true) :
    execLowSideOvercurrent n ma s = .next (if 6000 < ma then
      ((s.wr (SV_CHCUR n) (min ma 8191)).svBit n (SV_CHSTAT_OVERCURRENT n)).svFaultOff n
      else s.wr (SV_CHCUR n) (min ma 8191)) := if_pos ⟨hd, ho⟩

theorem execLowSideOvercurrent_over {ma : Nat} (hd : s.svDiag = true) (ho : s.svOn n = true) (hm : 6000 < ma) :
    execLowSideOvercurrent n ma s =
      .next (((s.wr (SV_CHCUR n) (min ma 8191)).svBit n (SV_CHSTAT_OVERCURRENT n)).svFaultOff n) :=
  (execLowSideOvercurrent_measures ma hd ho).trans (congrArg _ (if_pos hm))

theorem execLowSideOvercurrent_within {ma : Nat} (hd : s.svDiag = true) (ho : s.svOn n = true) (hm : ma ≤ 6000) :
    execLowSideOvercurrent n ma s = .next (s.wr (SV_CHCUR n) ma) := by
  rw [execLowSideOvercurrent_measures ma hd ho, if_neg (Nat.not_lt.mpr hm), Nat.min_eq_left (hm.trans (by decide))]

theorem execLowSideOvercurrent_rests (ma : Nat) (h : s.svDiag = false ∨ s.svOn n = false) :
    execLowSideOvercurrent n ma s = .next s := if_neg (by rcases h with h | h <;> simp [h])

theorem groupOvercurrent_frame (g : Fin 9) (ma : Nat) (s : State) :
    Answers { regs := true, dic := true, mg := true, le := true, sv := true } s (exec (.groupOvercurrent g ma) s) :=
  execGroupOvercurrent_answers g ma (Frame.refl _ s) rfl rfl rfl rfl rfl

/-- A group current stored, with the date since which it has been above the limit (R268). -/
def State.groupCurrent (s : State) (g ma : Nat) (x : Option Nat) : State :=
  ((s.wr (SV_GCUR g) (min ma 8191)).setSvGrp g { s.svGrp g with ocSince := x }).svClock

theorem svClock_parts (s : State) : Frame { sv := true } s s.svClock := svClock_frame (Frame.refl _ s) rfl

theorem groupCurrent_time (s : State) (g ma : Nat) (x : Option Nat) : (s.groupCurrent g ma x).time = s.time :=
  (svClock_parts _).time rfl

theorem groupCurrent_heldOff (s : State) (g ma : Nat) (x : Option Nat) :
    (s.groupCurrent g ma x).heldOff g = s.heldOff g := by
  have hr : (s.groupCurrent g ma x).regs = (s.wr (SV_GCUR g) (min ma 8191)).regs := (svClock_parts _).regs rfl
  have hne : (SV_GSTAT_HS g).addr ≠ (SV_GCUR g).addr := by simp [SV_GSTAT_HS, SV_GCUR]
  rw [State.heldOff, State.heldOff, rd_congr hr, rd_wr_ne _ _ _ _ hne]

theorem since_congr {s t : State} (h : t.time = s.time) (x : Option Nat) (d : Nat) : t.since x d = s.since x d := by
  rw [since_eq_any, since_eq_any, h]

theorem execGroupOvercurrent_measures {ma : Nat} {x : Option Nat} (hd : s.svDiag = true)
    (hx : (if 3000 < ma then some ((s.svGrp g).ocSince.getD s.time) else none) = x) :
    execGroupOvercurrent g ma s = if s.since x (msec 10) = true ∧ ¬ s.heldOff g = true then
      .next ((s.groupCurrent g ma x).groupOver g) else .next (s.groupCurrent g ma x) := by
  rw [← since_congr (groupCurrent_time s g ma x), ← groupCurrent_heldOff s g ma x]
  subst hx
  exact if_pos hd

theorem execGroupOvercurrent_within {ma : Nat} (hd : s.svDiag = true) (hm : ma ≤ 3000) :
    execGroupOvercurrent g ma s =
      .next (((s.wr (SV_GCUR g) ma).setSvGrp g { s.svGrp g with ocSince := none }).svClock) := by
  rw [execGroupOvercurrent_measures hd (if_neg (Nat.not_lt.mpr hm)), if_neg fun h => Bool.false_ne_true h.1,
    State.groupCurrent, Nat.min_eq_left (hm.trans (by decide))]

theorem execGroupOvercurrent_over {ma t0 : Nat} (hd : s.svDiag = true) (hm : 3000 < ma)
    (h0 : (s.svGrp g).ocSince = some t0) (ht : t0 + msec 10 ≤ s.time) (hh : s.heldOff g = false) :
    execGroupOvercurrent g ma s = .next ((s.groupCurrent g ma (some t0)).groupOver g) :=
  (execGroupOvercurrent_measures hd ((if_pos hm).trans (by rw [h0, Option.getD_some]))).trans
    (if_pos ⟨since_due rfl ht, Bool.eq_false_iff.mp hh⟩)

theorem execGroupOvercurrent_dates {ma t0 : Nat} (hd : s.svDiag = true) (hm : 3000 < ma)
    (h0 : t0 = (s.svGrp g).ocSince.getD s.time) (h : s.time < t0 + msec 10 ∨ s.heldOff g = true) :
    execGroupOvercurrent g ma s = .next (s.groupCurrent g ma (some t0)) := by
  refine (execGroupOvercurrent_measures hd ((if_pos hm).trans (by rw [h0]))).trans (if_neg fun ⟨hs, hn⟩ => ?_)
  rcases h with h | h
  · exact Nat.not_le.mpr h (of_decide_eq_true hs)
  · exact hn h

theorem execGroupOvercurrent_rests (ma : Nat) (h : s.svDiag = false) : execGroupOvercurrent g ma s = .next s :=
  if_neg (by simp [h])

theorem groupReturn_frame (g : Fin 9) (s : State) :
    Answers { regs := true, mg := true, sv := true } s (exec (.groupReturn g) s) :=
  execGroupReturn_answers g (Frame.refl _ s) rfl rfl rfl

theorem execGroupReturn_returns (hd : s.svDiag = true) (hh : s.heldOff g = true)
    (ht : s.since (s.svGrp g).passSince (secs 1) = true) : execGroupReturn g s =
      .next (((s.wr (SV_GSTAT_HS g) 0).putBit (SV_GSTAT_GRP_FAULT g) false).log 7 .groupFault 0 [g]).svClock :=
  if_pos ⟨hd, hh, ht⟩

theorem execGroupReturn_rests
    (h : s.svDiag = false ∨ s.heldOff g = false ∨ s.since (s.svGrp g).passSince (secs 1) = false) :
    execGroupReturn g s = .next s := if_neg (by rcases h with h | h | h <;> simp [h])

/-! ### The steps of a sequence (R271) -/

theorem sequenceStepStart_frame (s : State) :
    Answers { regs := true, dic := true, mg := true, mb := true, le := true, sv := true, tw := true } s
      (exec .sequenceStepStart s) :=
  execSequenceStepStart_answers (Frame.refl _ s) rfl rfl rfl rfl rfl rfl rfl

theorem execSequenceStepStart_starts {j k : Nat} {r : List SvStep} (hj : s.sv.seqJournal = some j)
    (hk : (s.sv.steps.takeWhile fun p => p.phase == 3).length = k) (hr : s.sv.steps.drop k = r) (hne : r ≠ [])
    (ha : (r.all fun p => p.phase == 0) = true) :
    execSequenceStepStart s = .next ((stepSet r).foldl State.startStep
      (s.onSv fun y => { y with steps := markSteps k (stepSet r).length y.steps })) := by
  subst hk hr
  exact if_pos ⟨Option.isSome_of_eq_some hj, hne, ha⟩

theorem execSequenceStepStart_rests {k : Nat} {r : List SvStep}
    (hk : (s.sv.steps.takeWhile fun p => p.phase == 3).length = k) (hr : s.sv.steps.drop k = r)
    (h : s.sv.seqJournal = none ∨ r = [] ∨ (r.all fun p => p.phase == 0) = false) :
    execSequenceStepStart s = .next s := by
  subst hk hr
  refine if_neg fun ⟨hj, hne, ha⟩ => ?_
  rcases h with h | h | h
  · exact Option.isSome_iff_ne_none.mp hj h
  · exact hne h
  · exact Bool.false_ne_true (h.symm.trans ha)

theorem sequenceWaitEnd_frame (i : Fin 32) (s : State) :
    Answers { regs := true, mg := true, mb := true, sv := true, tw := true } s (exec (.sequenceWaitEnd i) s) :=
  execSequenceWaitEnd_answers i (Frame.refl _ s) rfl rfl rfl rfl rfl

/-- A step's wait over, by its position (R271). -/
def State.stepWaited (s : State) (i : Nat) (p : SvStep) : State :=
  s.onSv fun y => { y with steps := y.steps.set i { p with phase := 3 } }

variable {i : Fin 32} {p : SvStep}

theorem execSequenceWaitEnd_at (hp : s.sv.steps[(i : Nat)]? = some p) : execSequenceWaitEnd i s =
    if p.phase = 2 ∧ p.doneAt + msec p.wait ≤ s.time then
      if ((s.sv.steps.set i { p with phase := 3 }).all fun q => q.phase == 3) = true then
        .next ((s.stepWaited i p).seqEnd .done 0)
      else .next (s.stepWaited i p)
    else .next s := by
  unfold execSequenceWaitEnd
  rw [hp]
  rfl

theorem execSequenceWaitEnd_last (hp : s.sv.steps[(i : Nat)]? = some p) (h2 : p.phase = 2)
    (ht : p.doneAt + msec p.wait ≤ s.time)
    (ha : ((s.sv.steps.set i { p with phase := 3 }).all fun q => q.phase == 3) = true) :
    execSequenceWaitEnd i s = .next ((s.stepWaited i p).seqEnd .done 0) :=
  (execSequenceWaitEnd_at hp).trans ((if_pos ⟨h2, ht⟩).trans (if_pos ha))

theorem execSequenceWaitEnd_more (hp : s.sv.steps[(i : Nat)]? = some p) (h2 : p.phase = 2)
    (ht : p.doneAt + msec p.wait ≤ s.time)
    (ha : ((s.sv.steps.set i { p with phase := 3 }).all fun q => q.phase == 3) = false) :
    execSequenceWaitEnd i s = .next (s.stepWaited i p) :=
  (execSequenceWaitEnd_at hp).trans ((if_pos ⟨h2, ht⟩).trans (if_neg (Bool.eq_false_iff.mp ha)))

theorem execSequenceWaitEnd_rests
    (h : s.sv.steps[(i : Nat)]?.all (fun p => p.phase != 2 || decide (s.time < p.doneAt + msec p.wait)) = true) :
    execSequenceWaitEnd i s = .next s := by
  cases hp : s.sv.steps[(i : Nat)]? with
  | none =>
    unfold execSequenceWaitEnd
    rw [hp]
  | some p =>
    rw [hp, Option.all_some, Bool.or_eq_true, bne_iff_ne, decide_eq_true_iff] at h
    exact (execSequenceWaitEnd_at hp).trans
      (if_neg fun ⟨h2, ht⟩ => h.elim (fun h => h h2) fun h => Nat.not_le.mpr h ht)

end groups

end Sys2Proof.Machine
end

section
/-! What the tests, the protection and the sequences of the solenoid groups answer. -/

namespace Sys2Proof.Machine

/-- Settles O37: each command by its equation for the case, inside the frame of the command. -/
theorem valveGroups : Obligations.ValveGroups := by
  unfold Obligations.ValveGroups
  refine ⟨?visits, ?visitRests, ?onVisits, ?onVisitRests, ?idles, ?idleRests, ?idleEnds, ?idleEndRests, ?short,
    ?opens, ?sound, ?checkRests, ?above, ?within, ?currentRests, ?groupRests, ?groupWithin, ?groupOver, ?groupDated,
    ?returns, ?returnRests, ?starts, ?startRests, ?last, ?more, ?waitRests⟩
  case visits =>
    intro s g node rail supply hd hh ht
    exact answers_with (offStateVisit_frame g node rail supply s) (execOffStateVisit_visits node rail supply hd hh ht)
      ⟨_, rfl, rfl⟩
  case visitRests =>
    intro s g node rail supply h
    exact answers_with (offStateVisit_frame g node rail supply s) (execOffStateVisit_rests node rail supply h) rfl
  case onVisits =>
    intro s n node win periods hd hh ho
    exact answers_with (onGroupVisit_frame n node win periods s) (execOnGroupVisit_visits node win periods hd hh ho) rfl
  case onVisitRests =>
    intro s n node win periods h
    exact answers_with (onGroupVisit_frame n node win periods s) (execOnGroupVisit_rests node win periods h) rfl
  case idles =>
    intro s g rail supply p h
    exact answers_with (forcedIdleTest_frame g rail supply p s) (execForcedIdleTest_begins rail supply p h) rfl
  case idleRests =>
    intro s g rail supply p h
    exact answers_with (forcedIdleTest_frame g rail supply p s) (execForcedIdleTest_rests rail supply p h) rfl
  case idleEnds =>
    intro s g t0 hh h0 ht
    exact answers_with (forcedIdleEnd_frame g s) (execForcedIdleEnd_ends hh (since_due h0 ht)) rfl
  case idleEndRests =>
    intro s g h
    exact answers_with (forcedIdleEnd_frame g s) (execForcedIdleEnd_rests h) rfl
  case short =>
    intro s n low win t0 hd ho h0 ht hc hl hw
    exact answers_with (onStateCheck_frame n low win s)
      ((execOnStateCheck_runs low win hd ho (since_due h0 ht) hc).trans (if_pos hl)) (if_pos hw)
  case opens =>
    intro s n low win t0 hd ho h0 ht hc hl hw
    exact answers_with (onStateCheck_frame n low win s)
      ((execOnStateCheck_runs low win hd ho (since_due h0 ht) hc).trans (if_pos hl)) (if_neg (Nat.not_lt.mpr hw))
  case sound =>
    intro s n low win t0 hd ho h0 ht hc hl
    exact answers_with (onStateCheck_frame n low win s)
      ((execOnStateCheck_runs low win hd ho (since_due h0 ht) hc).trans (if_neg (Nat.not_lt.mpr hl))) rfl
  case checkRests =>
    intro s n low win h
    exact answers_with (onStateCheck_frame n low win s) (execOnStateCheck_rests low win h) rfl
  case above =>
    intro s n ma hd ho hm
    exact answers_with (lowSideOvercurrent_frame n ma s) (execLowSideOvercurrent_over hd ho hm) rfl
  case within =>
    intro s n ma hd ho hm
    exact answers_with (lowSideOvercurrent_frame n ma s) (execLowSideOvercurrent_within hd ho hm) rfl
  case currentRests =>
    intro s n ma h
    exact answers_with (lowSideOvercurrent_frame n ma s) (execLowSideOvercurrent_rests ma h) rfl
  case groupRests =>
    intro s g ma h
    exact answers_with (groupOvercurrent_frame g ma s) (execGroupOvercurrent_rests ma h) rfl
  case groupWithin =>
    intro s g ma hd hm
    exact answers_with (groupOvercurrent_frame g ma s) (execGroupOvercurrent_within hd hm) rfl
  case groupOver =>
    intro s g ma t0 hd hm h0 ht hh
    exact answers_with (groupOvercurrent_frame g ma s) (execGroupOvercurrent_over hd hm h0 ht hh) ⟨_, rfl, rfl⟩
  case groupDated =>
    intro s g ma t0 hd hm h0 h
    exact answers_with (groupOvercurrent_frame g ma s) (execGroupOvercurrent_dates hd hm h0 h) rfl
  case returns =>
    intro s g t0 hd hh h0 ht
    exact answers_with (groupReturn_frame g s) (execGroupReturn_returns hd hh (since_due h0 ht)) rfl
  case returnRests =>
    intro s g h
    exact answers_with (groupReturn_frame g s) (execGroupReturn_rests h) rfl
  case starts =>
    intro s j k r hj hk hr hne ha
    exact answers_with (sequenceStepStart_frame s) (execSequenceStepStart_starts hj hk hr hne ha) rfl
  case startRests =>
    intro s k r hk hr h
    exact answers_with (sequenceStepStart_frame s) (execSequenceStepStart_rests hk hr h) rfl
  case last =>
    intro s i p hp h2 ht ha
    exact answers_with (sequenceWaitEnd_frame i s) (execSequenceWaitEnd_last hp h2 ht ha) rfl
  case more =>
    intro s i p hp h2 ht ha
    exact answers_with (sequenceWaitEnd_frame i s) (execSequenceWaitEnd_more hp h2 ht ha) rfl
  case waitRests =>
    intro s i h
    exact answers_with (sequenceWaitEnd_frame i s) (execSequenceWaitEnd_rests h) rfl

end Sys2Proof.Machine
end

section
/-! What an accepted request leaves in the records of the mailbox, and how its reply goes out or is held (R326, R366 to
R372, R380). -/

namespace Sys2Proof.Machine

/-! ### The records of an accepted request -/

section accept

variable (c : Cmd) (tag : Nat) (p : List Byte) (r : Res) (h : List Byte)

/-- The work's state with its clamp list kept, and the host-silence timer restarted on the ACTIVE module. -/
def Res.noted (r : Res) (tag op : Nat) : State :=
  if (r.st.keepClamps tag op r.clamps).isActive then (r.st.keepClamps tag op r.clamps).silenceRestart
  else r.st.keepClamps tag op r.clamps

theorem accept_eq : State.accept c tag p r h =
    if c.changes then ((r.noted tag c.op).keepTag tag h r.out).forward 5 0 (leBytes 2 c.op ++ leBytes 2 r.journal ++
      leBytes 8 (r.noted tag c.op).frame ++ leBytes 4 (r.noted tag c.op).tickNow ++ p)
    else r.noted tag c.op := rfl

theorem keepClamps_parts (op : Nat) : Frame { mb := true } r.st (r.st.keepClamps tag op r.clamps) :=
  keepClamps_frame _ _ _ (Frame.refl _ _) rfl

theorem noted_parts (op : Nat) : Frame { sys := true, mb := true, tw := true } r.st (r.noted tag op) :=
  have hk := keepClamps_frame (P := { sys := true, mb := true, tw := true }) tag op r.clamps (Frame.refl _ r.st) rfl
  frame_ite (silenceRestart_frame hk rfl rfl) hk

theorem noted_sys (op : Nat) : (r.noted tag op).sys =
    if r.st.isActive then { r.st.sys with silenceStart := r.st.time, hostSilent := false } else r.st.sys := by
  have hs : (r.st.keepClamps tag op r.clamps).sys = r.st.sys := (keepClamps_parts tag r op).sys rfl
  have ht : (r.st.keepClamps tag op r.clamps).time = r.st.time := (keepClamps_parts tag r op).time rfl
  have ha : (r.st.keepClamps tag op r.clamps).isActive = r.st.isActive := congrArg (·.role == .active) hs
  unfold Res.noted
  rw [apply_ite State.sys, silenceRestart_sys, hs, ht, ha]

theorem noted_mb (op : Nat) : (r.noted tag op).mb = (r.st.keepClamps tag op r.clamps).mb := by
  unfold Res.noted
  split
  · exact (silenceRestart_frame_sys _).mb rfl
  · rfl

theorem accept_parts : Frame { sys := true, mb := true, tw := true } r.st (State.accept c tag p r h) :=
  frame_ite (forward_frame _ _ _ (keepTag_frame _ _ _ (noted_parts tag r c.op) rfl) rfl) (noted_parts tag r c.op)

/-- Beside the tag and the forwarded frame an accepted request leaves the module state as its work and the restarted
timer leave it. -/
theorem accept_sys : (State.accept c tag p r h).sys =
    if r.st.isActive then { r.st.sys with silenceStart := r.st.time, hostSilent := false } else r.st.sys := by
  rw [← noted_sys tag r c.op, accept_eq]
  split
  · exact (forward_frame (P := { mb := true, tw := true }) _ _ _
      (keepTag_frame _ _ _ (Frame.refl _ _) rfl) rfl).sys rfl
  · rfl

theorem accept_mode : (State.accept c tag p r h).sys.mode = r.st.sys.mode := by
  rw [accept_sys]
  split <;> rfl

theorem accept_isActive : (State.accept c tag p r h).isActive = r.st.isActive := by
  unfold State.isActive
  rw [accept_sys]
  split <;> rfl

theorem accept_forwards : (State.accept c tag p r h).forwards = r.st.forwards := by
  have hr : (State.accept c tag p r h).regs = r.st.regs := (accept_parts c tag p r h).regs rfl
  unfold State.forwards
  rw [accept_isActive, bit_congr hr, bit_congr hr, bit_congr hr]

theorem accept_time : (State.accept c tag p r h).time = r.st.time := (accept_parts c tag p r h).time rfl

theorem accept_mb : (State.accept c tag p r h).mb =
    if c.changes then ((r.noted tag c.op).keepTag tag h r.out).mb else (r.st.keepClamps tag c.op r.clamps).mb := by
  rw [accept_eq, ← noted_mb]
  split
  · exact (forward_frame (P := { tw := true }) _ _ _ (Frame.refl _ _) rfl).mb rfl
  · rfl

/-- The mailbox's records but the tags and the clamp lists stay those of the work. -/
theorem accept_mb_but : (State.accept c tag p r h).mb = { r.st.mb with
    tags := (State.accept c tag p r h).mb.tags, clamps := (State.accept c tag p r h).mb.clamps } := by
  have hk : (r.st.keepClamps tag c.op r.clamps).mb =
      { r.st.mb with clamps := (r.st.keepClamps tag c.op r.clamps).mb.clamps } := by
    unfold State.keepClamps
    split <;> rfl
  have ht : ((r.noted tag c.op).keepTag tag h r.out).mb =
      { (r.noted tag c.op).mb with tags := ((r.noted tag c.op).keepTag tag h r.out).mb.tags } := by
    unfold State.keepTag
    split <;> rfl
  rw [accept_mb]
  split
  · rw [ht, noted_mb, hk]
  · rw [hk]

/-- A command that changes state keeps its tag with its reply (R370). -/
theorem accept_tags (hc : c.changes = true) (ht : tag ≠ 0) : (State.accept c tag p r h).mb.tags.head? = some
    { tag := tag, time := r.st.time, header := h, body := r.out } := by
  rw [accept_mb, if_pos hc, State.keepTag, if_neg ht, onMb_mb, (noted_parts tag r c.op).time rfl]
  rfl

/-- Clamped values make the newest clamp list (R380). -/
theorem accept_clamps (hl : r.clamps ≠ []) : (State.accept c tag p r h).mb.clamps.head? = some
    { tag := tag, opcode := c.op, recs := r.clamps } := by
  have hk : (r.st.keepClamps tag c.op r.clamps).mb.clamps.head? = some
      { tag := tag, opcode := c.op, recs := r.clamps } := by
    rw [State.keepClamps, if_neg hl]
    rfl
  have ht : ((r.noted tag c.op).keepTag tag h r.out).mb.clamps = (r.noted tag c.op).mb.clamps := by
    unfold State.keepTag
    split <;> rfl
  rw [accept_mb]
  split
  · rw [ht, noted_mb, hk]
  · exact hk

end accept

/-! ### The reply -/

section reply

variable {s : State} {b : Bool} (k : Ks) (h o : List Byte)

theorem answerCmd_sends (hb : b = false ∨ s.forwards = false) : s.answerCmd b k h o = s.answer k h o :=
  if_neg (by rcases hb with hb | hb <;> simp [hb])

theorem answerCmd_holds (hb : b = true) (hf : s.forwards = true) : s.answerCmd b k h o = s.onMb fun y => { y with
    held := y.held ++
      [{ seq := (s.tw.txSeq + 2 ^ 32 - 1) % 2 ^ 32, due := s.time + msec 1, ks := k, header := h, body := o }] } :=
  if_pos (by simp [hb, hf])

theorem answer_msix (s : State) : (s.answer k h o).mb.msix.head? = some 0 := rfl

/-- A reply leaves every record of the mailbox but the replies, the vectors and the counts of the codes. -/
theorem answer_mb (s : State) : (s.answer k h o).mb = { s.mb with
    replies := (s.answer k h o).mb.replies, msix := (s.answer k h o).mb.msix
    ksCounts := (s.answer k h o).mb.ksCounts } := by
  unfold State.answer State.reply
  dsimp only
  split <;> rfl

theorem answerCmd_parts (s : State) (b : Bool) : Frame { mb := true } s (s.answerCmd b k h o) :=
  answerCmd_frame b k h o (Frame.refl _ s) rfl

/-- A reply, sent or held, leaves the tags and the clamp lists. -/
theorem answerCmd_records (s : State) (b : Bool) : (s.answerCmd b k h o).mb.tags = s.mb.tags ∧
    (s.answerCmd b k h o).mb.clamps = s.mb.clamps := by
  unfold State.answerCmd
  split
  · exact ⟨rfl, rfl⟩
  · rw [answer_mb]
    exact ⟨rfl, rfl⟩

end reply

/-! ### A request refused -/

theorem turnedDown_regsBut (s : State) (p : List Byte) (k : Ks) : RegsBut noteReg s (s.turnedDown p k) :=
  regsBut_same (asked_regsBut s) (answer_regs _ _ _ _)

theorem turnedDown_frame (s : State) (p : List Byte) (k : Ks) :
    Frame { regs := true, dic := true, mb := true, le := true } s (s.turnedDown p k) :=
  answer_frame _ _ _ (asked_frameOf s) rfl

theorem turnedDown_head (s : State) (p : List Byte) (k : Ks) (h : s.sys.mode ≠ .off) :
    (s.turnedDown p k).mb.replies.head? = some { rc := 0, ks := k, body := s.asked.ksHeader k (tagOf p) 0 0 ++ [] } :=
  answer_head _ _ _ (by rwa [asked_sys])

theorem turnedDown_mb (s : State) (p : List Byte) (k : Ks) : (s.turnedDown p k).mb = { s.mb with
    commands := s.mb.commands + 1, lastCommand := some s.time
    replies := (s.turnedDown p k).mb.replies, msix := (s.turnedDown p k).mb.msix
    ksCounts := (s.turnedDown p k).mb.ksCounts } := by
  unfold State.turnedDown
  rw [answer_mb, asked_mb]

/-! ### An accepted request -/

section replied

variable (c : Cmd) (s : State) (p : List Byte) (r : Res)

/-- The status header of an accepted request's reply. -/
def State.okHeader (s : State) (p : List Byte) (r : Res) : List Byte :=
  s.asked.ksHeader r.code (tagOf p) (clampCount r.clamps) r.journal

theorem replied_eq : s.replied c p r =
    (State.accept c (tagOf p) p r (s.okHeader p r)).answerCmd c.changes r.code (s.okHeader p r) r.out := rfl

variable {c s p r}

theorem replied_sends (h : c.changes = false ∨ r.st.forwards = false) : s.replied c p r =
    (State.accept c (tagOf p) p r (s.okHeader p r)).answer r.code (s.okHeader p r) r.out :=
  answerCmd_sends _ _ _ (by rwa [accept_forwards])

theorem replied_holds (hc : c.changes = true) (hf : r.st.forwards = true) : ∃ n, s.replied c p r =
    (State.accept c (tagOf p) p r (s.okHeader p r)).onMb fun y => { y with held := y.held ++
      [{ seq := n, due := r.st.time + msec 1, ks := r.code, header := s.okHeader p r, body := r.out }] } := by
  rw [replied_eq, answerCmd_holds _ _ _ hc (by rwa [accept_forwards]), accept_time]
  exact ⟨_, rfl⟩

end replied

/-- Settles O24: the records of an accepted request by `accept_mb` and `accept_sys`, its reply sent or held; a request
refused by the reply that turns it down. -/
theorem mailboxReplies : Obligations.MailboxReplies := by
  unfold Obligations.MailboxReplies
  refine ⟨fun c s p r => ⟨?frame, ?sent, ?vector, ?held, ?tag, ?clamps, ?restarts, ?idle⟩,
    fun s p k => ⟨turnedDown_frame s p k, turnedDown_regsBut s p k, rfl, turnedDown_head s p k, ?tags, ?journals, ?counted,
      ?dated⟩, fun s => ⟨asked_frameOf s, asked_regsBut s, asked_mb s⟩⟩
  case frame => exact answerCmd_frame _ _ _ _ (accept_parts _ _ _ _ _) rfl
  case sent =>
    intro h hm
    rw [replied_sends h]
    exact answer_head _ _ _ (by rwa [accept_mode])
  case vector =>
    intro h
    rw [replied_sends h, answer_msix]
  case held =>
    intro hc hf
    obtain ⟨n, hn⟩ := replied_holds (s := s) (p := p) hc hf
    rw [hn, onMb_mb, accept_mb_but]
    exact ⟨rfl, rfl, n, rfl⟩
  case tag =>
    intro hc ht
    rw [replied_eq, (answerCmd_records _ _ _ _ _).1]
    exact accept_tags _ _ _ _ _ hc ht
  case clamps =>
    intro hl
    rw [replied_eq, (answerCmd_records _ _ _ _ _).2]
    exact accept_clamps _ _ _ _ _ hl
  case restarts =>
    intro ha
    rw [replied_eq, (answerCmd_parts _ _ _ _ _).sys rfl, accept_sys, if_pos ha]
  case idle =>
    intro ha
    rw [replied_eq, (answerCmd_parts _ _ _ _ _).sys rfl, accept_sys, if_neg (by simp [ha])]
  all_goals rw [turnedDown_mb]

end Sys2Proof.Machine
end

section
/-! The step, its queue, and the commands that stand for a mailbox request or that print. -/

namespace Sys2Proof.Machine

/-- Settles O1: a step takes the command at the front of the queue. -/
theorem stepRunsTheFront : Obligations.StepRunsTheFront := by
  unfold Obligations.StepRunsTheFront
  intro c rest s h
  unfold step
  rw [h]

/-- Settles O2: with nothing queued a step is a tick, which counts where the timebase runs. -/
theorem idleTick : Obligations.IdleTick := by
  unfold Obligations.IdleTick
  refine ⟨?empty, ?counts, ?rests⟩
  case empty =>
    intro s h
    unfold step
    rw [h]
  case counts =>
    intro s h
    have ht : s.tick = { s with time := s.time + 1 } := if_pos h
    exact ⟨tick_frame s, congrArg State.time ht⟩
  case rests =>
    intro s h
    exact if_neg h

/-- Settles O3: every command answers inside the frame of the whole machine, which keeps the queue. -/
theorem everyCommandAnswers : Obligations.EveryCommandAnswers := by
  unfold Obligations.EveryCommandAnswers
  intro i s
  obtain ⟨t, ho, hf⟩ := exec_answers i s
  exact ⟨t, ho, hf.queue⟩

/-- Settles O55: each mailbox command's arm of the dispatch is the request of its opcode. -/
theorem mailboxRequests : Obligations.MailboxRequests := by
  unfold Obligations.MailboxRequests
  and_intros <;> exact fun _ _ => rfl

/-! ### The console commands that read (R407 to R409) -/

theorem prints_head {s : State} (b : List Byte) (h : s.sys.mode ≠ .off) :
    (s.prints b).mb.replies.head? = some { rc := 0, body := b } := reply_head _ h

theorem prints_parts (s : State) (b : List Byte) : Frame { mb := true } s (s.prints b) :=
  prints_frame b (Frame.refl _ s) rfl

/-- A command that prints touches the mailbox's records alone. -/
theorem answers_prints {s : State} {o : Host.Outcome State Fault Refusal} {b : List Byte}
    (h : o = .next (s.prints b)) : ∃ t, o = .next t ∧ Frame { mb := true } s t ∧ t = s.prints b :=
  ⟨_, h, prints_parts s b, rfl⟩

/-! Each kind of input that SVC_SN_INPUT and SVC_LEAK show has its own registers. -/

section inputs

variable {s : State}

theorem execSvcSnInput_rtd {k : Fin 80} (h : (k : Nat) < 48) : execSvcSnInput k s =
    .next (s.prints (s.words [SN_RTDVAL k, SN_RTDRAW k, SN_RTDOFF k, SN_RTDSTAT k])) :=
  congrArg (fun b => Host.Outcome.next (s.prints b)) (if_pos h)

theorem execSvcSnInput_current {k : Fin 80} (h1 : 48 ≤ (k : Nat)) (h2 : (k : Nat) < 72) : execSvcSnInput k s =
    .next (s.prints (s.words [SN_MAVAL (k - 48), SN_MARAW (k - 48), SN_MASTAT (k - 48)])) :=
  congrArg (fun b => Host.Outcome.next (s.prints b)) ((if_neg h1.not_gt).trans (if_pos h2))

theorem execSvcSnInput_pulse {k : Fin 80} (h : 72 ≤ (k : Nat)) : execSvcSnInput k s =
    .next (s.prints (s.words [SN_PIFREQ (k - 72), SN_PISTAT (k - 72)] ++
      leBytes 4 (s.srcPulse (k - 72)).val.toNat)) :=
  congrArg (fun b => Host.Outcome.next (s.prints b)) ((if_neg (by omega)).trans (if_neg h.not_gt))

theorem execSvcLeak_rope {k : Fin 32} (h : (k : Nat) < 16) :
    execSvcLeak k s = .next (s.prints (s.words [LK_ROPESTAT k, LK_ROPELIVE k])) :=
  congrArg (fun b => Host.Outcome.next (s.prints b)) (if_pos h)

theorem execSvcLeak_point {k : Fin 32} (h : 16 ≤ (k : Nat)) :
    execSvcLeak k s = .next (s.prints (s.words [LK_PTSTAT (k - 16)])) :=
  congrArg (fun b => Host.Outcome.next (s.prints b)) (if_neg h.not_gt)

end inputs

/-! SVC_CELLAR (R344, R357) and SVC_CXL_PING (R407). -/

theorem svcCellar_frame (c : Fin 4096) (s : State) :
    Answers { regs := true, mg := true, mb := true } s (exec (.svcCellar c) s) :=
  execSvcCellar_answers c (Frame.refl _ s) rfl rfl rfl

theorem svcCxlPing_frame (b : Bool) (s : State) : Answers mailParts s (exec (.svcCxlPing b) s) :=
  execSvcCxlPing_answers b (Frame.refl _ s) rfl rfl rfl rfl rfl rfl

/-- Settles O53: each reading command prints, by its arm of the dispatch; the archive's read only without poison. -/
theorem consoleReads : Obligations.ConsoleReads := by
  unfold Obligations.ConsoleReads
  refine ⟨?prints, ?ver, ?state, ?sensors, ?tp, ?log, ?logDefault, ?codes, ?update, ?modbus, ?le, ?loop, ?trellis,
    ?model, ?pb, ?ctx, ?vq, ?peek, ?pump, ?fan, ?hyd, ?cal, ?rtd, ?current, ?pulse, ?di, ?rope, ?point, ?cp, ?sv,
    ?group, ?fb, ?twin, ?mem, ?cellar, ?poisoned, ?cxl, ?ping⟩
  case prints =>
    intro s b
    exact ⟨prints_head b, prints_parts s b⟩
  case rtd =>
    intro s k h
    exact answers_prints (execSvcSnInput_rtd h)
  case current =>
    intro s k h1 h2
    exact answers_prints (execSvcSnInput_current h1 h2)
  case pulse =>
    intro s k h
    exact answers_prints (execSvcSnInput_pulse h)
  case rope =>
    intro s k h
    exact answers_prints (execSvcLeak_rope h)
  case point =>
    intro s k h
    exact answers_prints (execSvcLeak_point h)
  case cellar =>
    rintro s c b e x rfl rfl rfl hb he hx
    exact answers_with (svcCellar_frame c s) (if_neg (by simp only [hb, he, hx]; decide)) rfl
  case poisoned =>
    rintro s c b e x rfl rfl rfl h
    exact answers_with (svcCellar_frame c s) (if_pos h) rfl
  case ping =>
    intro s
    exact answers_with (svcCxlPing_frame false s) rfl rfl
  case ver | state | sensors | tp | logDefault | codes | update | modbus | le | trellis | model | pb | vq | hyd | di |
      cp | twin | mem | cxl => exact fun _ => answers_prints rfl
  case log | loop | ctx | peek | pump | fan | cal | sv | group | fb => exact fun _ _ => answers_prints rfl

end Sys2Proof.Machine
end

section
/-! The firmware update (R398, R403 to R405), the flush of the log (R355, R392) and the rings to the management die
(R414): one equation for each case of a command. -/

namespace Sys2Proof.Machine

variable {s : State} {p : List Byte} {u : Update}

/-! ### The journal's steps leave the management die's records -/

theorem journalStep_parts (s : State) (j n : Nat) : Frame { mb := true, tw := true } s (s.journalStep j n) :=
  journalStep_frame j n (Frame.refl _ s) rfl rfl

theorem journalStep_mg (s : State) (j n : Nat) : (s.journalStep j n).mg = s.mg := (journalStep_parts s j n).mg rfl

@[simp] theorem putSlot_update (y : Mg) (i : Nat) (x : FwSlot) : (y.putSlot i x).update = y.update := by
  unfold Mg.putSlot
  split <;> rfl

/-! ### UPDATE_BEGIN and UPDATE_CHUNK (R403) -/

theorem updateBegin_opens (ht : fieldLE p 8 1 < 2)
    (hp : fieldLE p 8 1 = 1 → s.isActive = true → s.partnerInStep = true) (hz : fieldLE p 12 4 ≤ 44 * 1048576)
    (hu : s.mg.update = none) (hc : s.tr.commit = none) : cmdUpdateBegin.body s p =
      { st := ((s.openJournal 0xC080 (tagOf p) 6).journalStep s.mb.nextJournal 1).onMg fun y => { y with
          update := some ⟨fieldLE p 8 1, fieldLE p 12 4, fieldLE p 16 4, slice p 20 32, [], false, false, 0, false,
            s.mb.nextJournal, 0, 0⟩ }
        journal := s.mb.nextJournal } :=
  (if_neg (by omega)).trans ((if_neg (by simp [hu, hc])).trans (if_neg fun ⟨h1, ha, hn⟩ => hn (hp h1 ha)))

/-- A chunk's bytes in the staging; step 2 of the journal ends with the image's last byte. -/
def State.chunkStaged (s : State) (u : Update) (off : Nat) (d : List Byte) : State :=
  let v : Update := { u with bytes := stageBytes u.bytes off d }
  let t := s.onMg fun y => { y with update := some v }
  if v.complete && !u.complete then t.journalStep u.journal 2 else t

theorem chunkStaged_mg (s : State) (u : Update) (off : Nat) (d : List Byte) : (s.chunkStaged u off d).mg =
    { s.mg with update := some { u with bytes := stageBytes u.bytes off d } } := by
  unfold State.chunkStaged
  dsimp only
  split
  · exact journalStep_mg _ _ _
  · rfl

theorem updateChunk_stages (hu : s.mg.update = some u) (hv : u.verified = false) (h64 : fieldLE p 8 4 % 64 = 0)
    (hs : fieldLE p 8 4 + (p.drop 12).length ≤ u.size) : cmdUpdateChunk.body s p =
      { st := s.chunkStaged u (fieldLE p 8 4) (p.drop 12), out := leBytes 4 (p.drop 12).length } := by
  unfold cmdUpdateChunk updateChunkBody
  dsimp only
  rw [hu]
  exact (if_neg (by simp [hv])).trans (if_neg (by omega))

/-! ### UPDATE_END (R398, R403, R405) -/

/-- VERIFY and ACTIVATE of an image that nothing refuses, at a module whose partner does not forbid it. -/
theorem updateEnd_accepts (ha : fieldLE p 8 1 < 2) (hu : s.mg.update = some u) (hb : s.imageBad u = none)
    (hp : ¬ (fieldLE p 8 1 = 1 ∧ u.target = 0 ∧ s.rd TW_PARTNER_ROLE = 2 ∧ s.bit TW_STATUS_HB_OK = true)) :
    cmdUpdateEnd.body s p = ⟨if fieldLE p 8 1 = 1 then
      (s.imageAccepted u).onUpdate fun v => { v with activating := true, activateAt := fieldLE p 16 8 }
      else s.imageAccepted u, .ok, [], 0, []⟩ := by
  refine (if_neg (by omega)).trans ((if_neg (by omega)).trans ?_)
  rw [hu]
  refine (if_neg (by omega)).trans ((if_neg hp).trans ?_)
  rw [hb]

theorem updateVerify_accepts (ha : fieldLE p 8 1 = 0) (hu : s.mg.update = some u) (hb : s.imageBad u = none) :
    cmdUpdateEnd.body s p = { st := s.imageAccepted u } := by
  rw [updateEnd_accepts (by omega) hu hb (by omega), if_neg (by omega)]

theorem updateActivate_accepts (ha : fieldLE p 8 1 = 1) (hu : s.mg.update = some u) (hb : s.imageBad u = none)
    (h : u.target ≠ 0 ∨ s.rd TW_PARTNER_ROLE ≠ 2 ∨ s.bit TW_STATUS_HB_OK = false) : cmdUpdateEnd.body s p =
      { st := (s.imageAccepted u).onUpdate fun v =>
          { v with activating := true, activateAt := fieldLE p 16 8 } } := by
  have hp : ¬ (fieldLE p 8 1 = 1 ∧ u.target = 0 ∧ s.rd TW_PARTNER_ROLE = 2 ∧ s.bit TW_STATUS_HB_OK = true) := by
    rintro ⟨_, ht, hr, hk⟩
    rcases h with h | h | h
    · exact h ht
    · exact h hr
    · exact Bool.false_ne_true (h.symm.trans hk)
  rw [updateEnd_accepts (by omega) hu hb hp, if_pos ha]

theorem updateRatchet_moves (ha : fieldLE p 8 1 = 2) (hu : s.mg.update = none) (hc : s.mg.confirmed = true)
    (hf : s.mg.fuse < s.runningSlot.svn) : cmdUpdateEnd.body s p =
      { st := s.onMg fun y => { y with fuse := s.runningSlot.svn }
        out := leBytes 1 (b2n (decide ((s.mg.slot (1 - s.mg.runSlot)).svn < s.runningSlot.svn))) } :=
  (if_pos ha).trans ((if_neg (by simp [hu])).trans (if_neg (by simp [hc, hf])))

/-- RATCHET of an update for the partner is sent on; the byte answered is the partner's (R398). -/
theorem updateRatchet_sends (ha : fieldLE p 8 1 = 2) (hm : s.isActive = true)
    (hu : s.mg.update.any (fun u => u.target == 1) = true) :
    cmdUpdateEnd.body s p = { st := s.drew, out := leBytes 1 (s.freeNat % 2) } :=
  (if_pos ha).trans (if_pos (by simpa [hm] using hu))

theorem updateAbort_drops (ha : fieldLE p 8 1 = 3) (hu : s.mg.update = some u) : cmdUpdateEnd.body s p =
    { st := (s.journalEnd u.journal .aborted 0).onMg fun y => { y with update := none } } := by
  refine (if_neg (by omega)).trans ((if_neg (by omega)).trans ?_)
  rw [hu]
  exact if_pos ha

theorem updateRatchet_frame (p : List (BitVec 8)) (s : State) :
    Answers { mailParts with free := true, mg := true } s (exec (.updateRatchet p) s) :=
  execUpdateRatchet_answers p (Frame.refl _ s) rfl rfl rfl rfl rfl rfl rfl rfl

theorem updateAbort_frame (p : List (BitVec 8)) (s : State) :
    Answers { mailParts with free := true, mg := true } s (exec (.updateAbort p) s) :=
  execUpdateAbort_answers p (Frame.refl _ s) rfl rfl rfl rfl rfl rfl rfl rfl

/-! ### The slot programmed (R404, step 4) -/

theorem updateProgramDone_frame (ok : Bool) (s : State) :
    Answers { mg := true, mb := true, tw := true } s (exec (.updateProgramDone ok) s) :=
  execUpdateProgramDone_answers ok (Frame.refl _ s) rfl rfl rfl

section programmed

variable (hu : s.mg.update = some u) (ha : u.activating = true) (hp : u.programmed = false)
  (hm : s.updateMine u = true)
include hu ha hp hm

theorem execUpdateProgramDone_good : execUpdateProgramDone true s =
    .next (((s.onMg fun y => y.putSlot (1 - y.runSlot) (slotOf u.image)).onUpdate fun v =>
      { v with programmed := true }).journalStep u.journal 4) := by
  unfold execUpdateProgramDone
  rw [hu]
  exact if_pos (by simp [ha, hp, hm])

theorem execUpdateProgramDone_bad : execUpdateProgramDone false s =
    .next (s.onMg fun y => y.putSlot (1 - y.runSlot) { slotOf u.image with keyOk := false }).updateFailed := by
  unfold execUpdateProgramDone
  rw [hu]
  exact if_pos (by simp [ha, hp, hm])

end programmed

theorem programmed_mg (hu : s.mg.update = some u) (x : FwSlot) (j : Nat) :
    (((s.onMg fun y => y.putSlot (1 - y.runSlot) x).onUpdate fun v => { v with programmed := true }).journalStep j
      4).mg = { s.mg.putSlot (1 - s.mg.runSlot) x with update := some { u with programmed := true } } := by
  rw [journalStep_mg, State.onUpdate, onMg_mg, onMg_mg, putSlot_update, hu]
  rfl

theorem execUpdateProgramDone_rests (ok : Bool)
    (h : s.mg.update.any (fun u => u.activating && !u.programmed && s.updateMine u) = false) :
    execUpdateProgramDone ok s = .next s := by
  unfold execUpdateProgramDone
  cases hu : s.mg.update with
  | none => rfl
  | some u => exact if_neg (by simpa [hu] using h)

/-! ### The activation reset (R404, step 5, and R405) -/

theorem updateActivationReset_frame (s : State) :
    Answers { Parts.full with free := false } s (exec .updateActivationReset s) :=
  execUpdateActivationReset_answers (Frame.refl _ s) rfl rfl rfl rfl rfl rfl rfl rfl rfl rfl rfl rfl rfl rfl rfl rfl rfl

/-- The activation reset: step 5 done, the warm restart of cause 5, the slot programmed active and TRIAL. -/
def State.activated (s : State) (u : Update) : State :=
  ((s.journalStep u.journal 5).restart 5 true (some u.journal) s.mg.savedOrigin).onMg fun y => { y with
    activeSlot := 1 - s.mg.runSlot, trial := true, trialBoots := 0, confirmed := false
    update := some { u with activating := false, bytes := [] } }

theorem execUpdateActivationReset_resets (hu : s.mg.update = some u) (ha : u.activating = true)
    (hp : u.programmed = true) (hm : s.updateMine u = true) (hr : s.resetAllowed u = true) :
    execUpdateActivationReset s = .next (s.activated u) := by
  unfold execUpdateActivationReset
  rw [hu]
  exact if_pos (by simp [ha, hp, hm, hr])

theorem execUpdateActivationReset_rests (h : s.mg.update.any (fun u =>
      u.activating && u.programmed && s.updateMine u && s.resetAllowed u) = false) :
    execUpdateActivationReset s = .next s := by
  unfold execUpdateActivationReset
  cases hu : s.mg.update with
  | none => rfl
  | some u => exact if_neg (by simpa [hu] using h)

theorem activated_leaves (s : State) (u : Update) : (s.activated u).sys.mode = .boot ∧
    (s.activated u).rd CK_STATUS_RESET_CAUSE = 5 ∧ (s.activated u).time = s.time ∧ (s.activated u).mem = s.mem := by
  obtain ⟨hmode, -, hcause, htime, hmem, -⟩ :=
    restart_leaves (s.journalStep u.journal 5) 5 true (some u.journal) s.mg.savedOrigin (by decide)
  unfold State.activated
  rw [onMg_sys, onMg_rd, onMg_time, onMg_mem]
  exact ⟨hmode, hcause, htime.trans ((journalStep_parts s _ _).time rfl),
    hmem.trans ((journalStep_parts s _ _).mem rfl)⟩

/-! ### The flush of the log (R355, R389, R392) -/

theorem logFlush_frame (s : State) :
    Answers { regs := true, mem := true, dic := true, mg := true, le := true, ca := true } s (exec .logFlush s) :=
  execLogFlush_answers (Frame.refl _ s) rfl rfl rfl rfl rfl rfl

/-- The buffered records in the ring of the NOR, which keeps the newest of `l`. -/
def State.logRinged (s : State) (l : List LogRec) : State :=
  (s.onMg fun y => { y with ring := l.drop (l.length - 524288), buf := [] }).logMark

theorem execLogFlush_copies (ha : s.archives = true) (hr : s.ca.selfRefresh = false) : execLogFlush s =
    .next (((s.logAll.filter fun r => decide (s.ca.eventNext ≤ r.seq)).foldl State.eventCopy s).logRinged
      s.logAll) :=
  congrArg (fun t : State => Host.Outcome.next (t.logRinged s.logAll)) (if_pos (by simp [ha, hr]))

theorem execLogFlush_keeps (h : s.archives = false ∨ s.ca.selfRefresh = true) :
    execLogFlush s = .next (s.logRinged s.logAll) :=
  congrArg (fun t : State => Host.Outcome.next (t.logRinged s.logAll))
    (if_neg (by rcases h with h | h <;> simp [h]))

/-! ### The rings to the management die (R414) -/

theorem mgMessagePost_frame (w : BitVec 12) (s : State) :
    Answers { regs := true, mg := true } s (exec (.mgMessagePost w) s) :=
  execMgMessagePost_answers w (Frame.refl _ s) rfl rfl

/-- The words up to `w` taken by the management die. -/
def State.mgTaken (s : State) (w : Nat) : State :=
  ((s.wr MG_TX_WPTR w).onMg fun y => { y with
    received := y.received ++
      (s.wr MG_TX_WPTR w).ringWords 0x50001000 1024 (s.rd MG_TX_RPTR) (w / 4 * 4) }).wr MG_TX_RPTR w

theorem execMgMessagePost_eq (w : BitVec 12) (s : State) : execMgMessagePost w s =
    .next (if s.bit MG_CTRL_ENABLE then s.mgTaken w.toNat else s.wr MG_TX_WPTR w.toNat) := by
  have he : (s.wr MG_TX_WPTR w.toNat).bit MG_CTRL_ENABLE = s.bit MG_CTRL_ENABLE := bit_wr_ne _ _ _ _ (by decide)
  have hr : (s.wr MG_TX_WPTR w.toNat).rd MG_TX_RPTR = s.rd MG_TX_RPTR := rd_wr_ne _ _ _ _ (by decide)
  unfold State.mgTaken
  rw [← he, ← hr]
  rfl

theorem mgTaken_pointers (h : s.regsWf) {w : Nat} (hw : w < 4096) :
    (s.mgTaken w).rd MG_TX_WPTR = w ∧ (s.mgTaken w).rd MG_TX_RPTR = w := by
  refine ⟨?_, (rd_wr_same _ MG_TX_RPTR w (wr_regsWf s _ _ h) (by decide) (by decide)).trans (Nat.mod_eq_of_lt hw)⟩
  calc (s.mgTaken w).rd MG_TX_WPTR
    _ = (s.wr MG_TX_WPTR w).rd MG_TX_WPTR := rd_wr_ne _ MG_TX_RPTR _ _ (by decide)
    _ = w := (rd_wr_same s MG_TX_WPTR w h (by decide) (by decide)).trans (Nat.mod_eq_of_lt hw)

theorem mgTaken_regsBut (s : State) (w : Nat) :
    RegsBut (fun a => a = MG_TX_WPTR.addr ∨ a = MG_TX_RPTR.addr) s (s.mgTaken w) :=
  regsBut_wr _ _ (regsBut_onMg _ (regsBut_wr _ _ (RegsBut.refl _ s) (.inl rfl))) (.inr rfl)

theorem mgAnswer_frame (ws : List (BitVec 32)) (s : State) :
    Answers { regs := true, dic := true, le := true } s (exec (.mgAnswer ws) s) :=
  execMgAnswer_answers ws (Frame.refl _ s) rfl rfl rfl

/-- The bytes of the receive ring that the hub has not read. -/
def State.mgUnread (s : State) : Nat := (s.rd MG_RX_WPTR / 4 * 4 + 4096 - s.rd MG_RX_RPTR / 4 * 4) % 4096

/-- An answer put on the receive ring, with its doorbell 512. -/
def State.mgAnswered (s : State) (ws : List (BitVec 32)) : State :=
  ((((s.putRing (s.rd MG_RX_WPTR / 4 * 4) (ws.map BitVec.toNat)).wr MG_RX_WPTR
    ((s.rd MG_RX_WPTR / 4 * 4 + 4 * ws.length) % 4096)).putBit MG_STATUS_RX_NOT_EMPTY true).post 512)

theorem execMgAnswer_eq (ws : List (BitVec 32)) (s : State) : execMgAnswer ws s =
    if s.bit MG_CTRL_ENABLE = true ∧ 4 * ws.length ≠ 0 ∧ s.mgUnread + 4 * ws.length < 4096 then
      .next (s.mgAnswered ws) else .next s := rfl

theorem execMgAnswer_waits {ws : List (BitVec 32)}
    (h : s.bit MG_CTRL_ENABLE = false ∨ ws = [] ∨ 4096 ≤ s.mgUnread + 4 * ws.length) :
    execMgAnswer ws s = .next s := by
  refine (execMgAnswer_eq ws s).trans (if_neg fun ⟨he, hn, hf⟩ => ?_)
  rcases h with h | h | h
  · exact Bool.false_ne_true (h.symm.trans he)
  · exact hn (by simp [h])
  · exact Nat.not_lt.mpr h hf

theorem execMgAnswer_puts {ws : List (BitVec 32)} (he : s.bit MG_CTRL_ENABLE = true) (hn : ws ≠ [])
    (hf : s.mgUnread + 4 * ws.length < 4096) : execMgAnswer ws s = .next (s.mgAnswered ws) :=
  (execMgAnswer_eq ws s).trans (if_pos ⟨he, by simpa using hn, hf⟩)

theorem putRing_regsWf (h : s.regsWf) (a : Nat) (l : List Nat) : (s.putRing a l).regsWf :=
  (putRing_frame (P := { regs := true }) a l (Frame.refl _ s) rfl).regsWf h

/-- After an answer the write pointer lies past its words, and the ring is not empty. -/
theorem mgAnswered_status (h : s.regsWf) (ws : List (BitVec 32)) :
    (s.mgAnswered ws).rd MG_RX_WPTR = (s.rd MG_RX_WPTR / 4 * 4 + 4 * ws.length) % 4096 ∧
      (s.mgAnswered ws).bit MG_STATUS_RX_NOT_EMPTY = true := by
  have hring := putRing_regsWf h (s.rd MG_RX_WPTR / 4 * 4) (ws.map BitVec.toNat)
  have hpost := post_not_noteReg (((s.putRing (s.rd MG_RX_WPTR / 4 * 4) (ws.map BitVec.toNat)).wr MG_RX_WPTR
    ((s.rd MG_RX_WPTR / 4 * 4 + 4 * ws.length) % 4096)).putBit MG_STATUS_RX_NOT_EMPTY true) 512 (by decide)
  constructor
  · calc (s.mgAnswered ws).rd MG_RX_WPTR
      _ = (State.wr _ MG_RX_WPTR ((s.rd MG_RX_WPTR / 4 * 4 + 4 * ws.length) % 4096)).rd MG_RX_WPTR :=
        (hpost.rd _ (by simp [noteReg, MG_RX_WPTR])).trans (rd_putBit_ne _ _ _ _ (by decide))
      _ = _ := (rd_wr_same _ MG_RX_WPTR _ hring (by decide) (by decide)).trans (Nat.mod_mod _ _)
  · exact (hpost.bit _ (by simp [noteReg, MG_STATUS_RX_NOT_EMPTY])).trans
      (bit_putBit_same _ _ _ (wr_regsWf _ _ _ hring) rfl (by decide))

end Sys2Proof.Machine
end

section
/-! What the firmware update, the flush of the log and the rings to the management die answer. -/

namespace Sys2Proof.Machine

/-- Settles O29: each mailbox command by the equation of its work, each event by its equation for the case. -/
theorem firmwareUpdate : Obligations.FirmwareUpdate := by
  unfold Obligations.FirmwareUpdate
  refine ⟨?begins, ?chunk, ?verifies, ?activates, ?ratchets, ?aborts, ?programmed, ?resets, ?sends, ?unread,
    ?programRests, ?resetRests, ?copies, ?disabled, ?answerWaits, ?flushes, ?taken, ?answered⟩
  case begins =>
    intro s p ht h2 hp hz hu hc
    exact replies (updateBegin_frame p s) rfl ht (updateBegin_opens h2 hp hz hu hc) rfl
  case chunk =>
    intro s p u ht hu hv h64 hs
    obtain ⟨t, ho, hf, h⟩ := replies (updateChunk_frame p s) rfl ht (updateChunk_stages hu hv h64 hs) rfl
    exact ⟨t, ho, hf, _, h, chunkStaged_mg _ _ _ _⟩
  case verifies =>
    intro s p u ht ha hu hb
    exact replies (updateVerify_frame p s) rfl ht (updateVerify_accepts ha hu hb) rfl
  case activates =>
    intro s p u ht ha hu hb h
    exact replies (updateActivate_frame p s) rfl ht (updateActivate_accepts ha hu hb h) rfl
  case ratchets =>
    intro s p ht ha hu hc hf
    exact replies (updateRatchet_frame p s) rfl ht (updateRatchet_moves ha hu hc hf) rfl
  case aborts =>
    intro s p u ht ha hu
    exact replies (updateAbort_frame p s) rfl ht (updateAbort_drops ha hu) rfl
  case programmed =>
    intro s u hu ha hp hm
    exact answers_with (updateProgramDone_frame true s) (execUpdateProgramDone_good hu ha hp hm)
      (programmed_mg hu _ _)
  case resets =>
    intro s u hu ha hp hm hr
    obtain ⟨hmode, hcause, htime, hmem⟩ := activated_leaves s u
    exact answers_with (updateActivationReset_frame s) (execUpdateActivationReset_resets hu ha hp hm hr)
      ⟨hmode, hcause, rfl, rfl, rfl, rfl, rfl, htime, hmem⟩
  case sends =>
    intro s p ht ha hm hu
    exact replies (updateRatchet_frame p s) rfl ht (updateRatchet_sends ha hm hu) rfl
  case unread =>
    intro s u hu ha hp hm
    exact answers_with (updateProgramDone_frame false s) (execUpdateProgramDone_bad hu ha hp hm) rfl
  case programRests =>
    intro s ok h
    exact answers_with (updateProgramDone_frame ok s) (execUpdateProgramDone_rests ok h) rfl
  case resetRests =>
    intro s h
    exact answers_with (updateActivationReset_frame s) (execUpdateActivationReset_rests h) rfl
  case copies =>
    intro s ha hr
    exact answers_with (logFlush_frame s) (execLogFlush_copies ha hr) rfl
  case disabled =>
    intro s w _ he
    exact answers_with (mgMessagePost_frame w s)
      ((execMgMessagePost_eq w s).trans (congrArg _ (if_neg (by simp [he])))) rfl
  case answerWaits =>
    intro s ws h
    exact answers_with (mgAnswer_frame ws s) (execMgAnswer_waits h) rfl
  case flushes =>
    intro s h
    exact answers_with (logFlush_frame s) (execLogFlush_keeps h) rfl
  case taken =>
    intro s w hs he
    obtain ⟨hwptr, hrptr⟩ := mgTaken_pointers hs.regs w.isLt
    exact answers_with (mgMessagePost_frame w s)
      ((execMgMessagePost_eq w s).trans (congrArg _ (if_pos he)))
      ⟨hwptr, hrptr, rfl, mgTaken_regsBut s w.toNat⟩
  case answered =>
    intro s ws hs he hn hf
    exact answers_with (mgAnswer_frame ws s) (execMgAnswer_puts he hn hf) (mgAnswered_status hs.regs ws)

end Sys2Proof.Machine
end

section
/-! The Modbus server (R410 to R413): one equation for each check of a read and of a write, in their order. -/

namespace Sys2Proof.Machine

section modbus

variable {s : State} {k : Nat}

/-! ### Connections -/

theorem modbusConnection_frame (k : Nat) (s : State) : Answers { mg := true } s (exec (.modbusConnection k) s) :=
  execModbusConnection_answers k (Frame.refl _ s) rfl

theorem execModbusConnection_opens (hn : s.mg.conns.length < 4) (ho : s.mbOpen k = false) :
    execModbusConnection k s =
      .next (s.onMg fun y => { y with conns := y.conns ++ [{ id := k, lastActive := s.time }] }) :=
  congrArg _ (if_pos ⟨hn, Bool.eq_false_iff.mp ho⟩)

theorem execModbusConnection_rests (h : 4 ≤ s.mg.conns.length ∨ s.mbOpen k = true) :
    execModbusConnection k s = .next s :=
  congrArg _ (if_neg fun ⟨hn, ho⟩ => h.elim (fun h => Nat.not_lt.mpr h hn) fun h => ho h)

/-! ### Reads (R411, R412) -/

section reads

variable {a n top : Nat} {f : Nat → Nat}

theorem mbRead_closed (ho : s.mbOpen k = false) : s.mbRead k a n top f = s := if_neg (Bool.eq_false_iff.mp ho)

variable (ho : s.mbOpen k = true)
include ho

theorem mbRead_badCount (h : n = 0 ∨ 125 < n) : s.mbRead k a n top f = s.mbAnswer k 3 [] := (if_pos ho).trans (if_pos h)

variable (h1 : 1 ≤ n) (h2 : n ≤ 125)
include h1 h2

theorem mbRead_badAddress (h : top < a + n) : s.mbRead k a n top f = s.mbAnswer k 2 [] :=
  (if_pos ho).trans ((if_neg (by omega)).trans (if_pos h))

theorem mbRead_reads (h : a + n ≤ top) : s.mbRead k a n top f =
    s.mbAnswer k 0 (leBytes 1 (2 * n) ++ beWords ((upto n).map fun i => f (a + i))) :=
  (if_pos ho).trans ((if_neg (by omega)).trans (if_neg (by omega)))

end reads

theorem modbusReadHolding_frame (k : Nat) (a n : BitVec 16) (s : State) :
    Answers { mg := true, mb := true } s (exec (.modbusReadHolding k a n) s) :=
  execModbusReadHolding_answers k a n (Frame.refl _ s) rfl rfl

theorem modbusReadInput_frame (k : Nat) (a n : BitVec 16) (s : State) :
    Answers { mg := true, mb := true } s (exec (.modbusReadInput k a n) s) :=
  execModbusReadInput_answers k a n (Frame.refl _ s) rfl rfl

theorem execModbusReadHolding_eq (k : Nat) (a n : BitVec 16) (s : State) {t : State}
    (h : s.mbRead k a.toNat n.toNat 7 s.holdingReg = t) : execModbusReadHolding k a n s = .next t := congrArg _ h

theorem execModbusReadInput_eq (k : Nat) (a n : BitVec 16) (s : State) {t : State}
    (h : s.mbRead k a.toNat n.toNat 92 s.inputReg = t) : execModbusReadInput k a n s = .next t := congrArg _ h

/-! ### Writes (R412) -/

section writes

variable {a : Nat} {l : List Nat} {e : List Byte}

/-- A write that has one of the row budget's two registers without the other. -/
def HalfBudget (a n : Nat) : Prop := ¬ ((a ≤ 4 ∧ 4 < a + n) ↔ (a ≤ 5 ∧ 5 < a + n))

theorem halfBudget_iff (a n : Nat) : HalfBudget a n ↔
    ((decide (a ≤ 4) && decide (4 < a + n)) != (decide (a ≤ 5) && decide (5 < a + n))) = true := by
  rw [bne_iff_ne, Ne, Bool.eq_iff_iff]
  simp only [Bool.and_eq_true, decide_eq_true_eq, HalfBudget]

theorem mbWrite_closed (ho : s.mbOpen k = false) : s.mbWrite k a l e = s := if_neg (Bool.eq_false_iff.mp ho)

variable (ho : s.mbOpen k = true)
include ho

theorem mbWrite_refused (h : s.isActive = false ∨ s.mg.grantEnd = none) : s.mbWrite k a l e = s.mbAnswer k 1 [] :=
  (if_pos ho).trans (if_pos (by simpa using h))

variable (ha : s.isActive = true) (hg : s.mg.grantEnd.isSome = true)
include ha hg

theorem mbWrite_granted : s.mbWrite k a l e =
    if l.length = 0 ∨ 123 < l.length then s.mbAnswer k 3 []
    else if 7 < a + l.length then s.mbAnswer k 2 []
    else if (decide (a ≤ 4) && decide (4 < a + l.length)) != (decide (a ≤ 5) && decide (5 < a + l.length)) then
      s.mbAnswer k 3 []
    else (s.mbApply (l.zipIdx.map fun p => (a + p.2, p.1))).mbAnswer k 0 e :=
  (if_pos ho).trans (if_neg (by simp [ha, Option.isSome_iff_ne_none.mp hg]))

theorem mbWrite_badCount (h : l.length = 0 ∨ 123 < l.length) : s.mbWrite k a l e = s.mbAnswer k 3 [] :=
  (mbWrite_granted ho ha hg).trans (if_pos h)

variable (h1 : 1 ≤ l.length)
include h1

theorem mbWrite_badAddress (h2 : l.length ≤ 123) (h : 7 < a + l.length) : s.mbWrite k a l e = s.mbAnswer k 2 [] :=
  (mbWrite_granted ho ha hg).trans ((if_neg (by omega)).trans (if_pos h))

variable (h7 : a + l.length ≤ 7)
include h7

theorem mbWrite_halfBudget (h : HalfBudget a l.length) : s.mbWrite k a l e = s.mbAnswer k 3 [] :=
  (mbWrite_granted ho ha hg).trans ((if_neg (by omega)).trans ((if_neg (by omega)).trans
    (if_pos ((halfBudget_iff _ _).mp h))))

theorem mbWrite_applies (h : ¬ HalfBudget a l.length) : s.mbWrite k a l e =
    (s.mbApply (l.zipIdx.map fun p => (a + p.2, p.1))).mbAnswer k 0 e :=
  (mbWrite_granted ho ha hg).trans ((if_neg (by omega)).trans ((if_neg (by omega)).trans
    (if_neg fun hb => h ((halfBudget_iff _ _).mpr hb))))

end writes

/-- The parts that a write may touch. -/
def modbusParts : Parts := { mg := true, mb := true, pb := true, tw := true }

theorem modbusWriteSingle_frame (k : Nat) (a v : BitVec 16) (s : State) :
    Answers modbusParts s (exec (.modbusWriteSingle k a v) s) :=
  execModbusWriteSingle_answers k a v (Frame.refl _ s) rfl rfl rfl rfl

theorem modbusWriteMultiple_frame (k : Nat) (a : BitVec 16) (l : List (BitVec 16)) (s : State) :
    Answers modbusParts s (exec (.modbusWriteMultiple k a l) s) :=
  execModbusWriteMultiple_answers k a l (Frame.refl _ s) rfl rfl rfl rfl

theorem modbusAlarmAck_frame (k : Nat) (s : State) : Answers modbusParts s (exec (.modbusAlarmAck k) s) :=
  execModbusAlarmAck_answers k (Frame.refl _ s) rfl rfl rfl rfl

theorem modbusBadFunction_frame (k : Nat) (s : State) :
    Answers { mg := true, mb := true } s (exec (.modbusBadFunction k) s) :=
  execModbusBadFunction_answers k (Frame.refl _ s) rfl rfl

theorem execModbusWriteSingle_eq (k : Nat) (a v : BitVec 16) (s : State) {t : State}
    (h : s.mbWrite k a.toNat [v.toNat] (beWords [a.toNat, v.toNat]) = t) : execModbusWriteSingle k a v s = .next t :=
  congrArg _ h

theorem execModbusWriteMultiple_eq (k : Nat) (a : BitVec 16) (l : List (BitVec 16)) (s : State) {t : State}
    (h : s.mbWrite k a.toNat (l.map BitVec.toNat) (beWords [a.toNat, l.length]) = t) :
    execModbusWriteMultiple k a l s = .next t := congrArg _ h

theorem execModbusAlarmAck_eq (k : Nat) (s : State) {t : State} (h : s.mbWrite k 0 [1] (beWords [0, 1]) = t) :
    execModbusAlarmAck k s = .next t := congrArg _ h

theorem one_le_length_toNat {l : List (BitVec 16)} (h : l ≠ []) : 1 ≤ (l.map BitVec.toNat).length :=
  (List.length_map (BitVec.toNat (w := 16))).symm ▸ List.length_pos_iff.mpr h

end modbus

/-- Settles O51: reads by `mbRead`, writes by `mbWrite`, each by the check that answers it. -/
theorem modbusServer : Obligations.ModbusServer := by
  unfold Obligations.ModbusServer
  refine ⟨?opens, ?full, ?closes, ?hClosed, ?hCount, ?hAddress, ?hReads, ?iClosed, ?iCount, ?iReads, ?iAddress, ?sClosed,
    ?sRefused, ?sAddress, ?sHalf, ?sApplies, ?mClosed, ?mRefused, ?mCount, ?mAddress, ?mHalf, ?mApplies, ?aClosed,
    ?aRefused, ?aApplies, ?bAnswers, ?bClosed⟩
  case opens =>
    intro s k hn ho
    exact answers_with (modbusConnection_frame k s) (execModbusConnection_opens hn ho) rfl
  case full =>
    intro s k h
    exact answers_with (modbusConnection_frame k s) (execModbusConnection_rests h) rfl
  case closes =>
    intro s k
    exact answers_with (execModbusIdleClose_answers k (Frame.refl _ s) rfl) rfl rfl
  case hClosed =>
    intro s k a n ho
    exact answers_with (modbusReadHolding_frame k a n s) (execModbusReadHolding_eq k a n s (mbRead_closed ho)) rfl
  case hCount =>
    intro s k a n ho h
    exact answers_with (modbusReadHolding_frame k a n s) (execModbusReadHolding_eq k a n s (mbRead_badCount ho h)) rfl
  case hAddress =>
    intro s k a n ho h1 h2 h
    exact answers_with (modbusReadHolding_frame k a n s)
      (execModbusReadHolding_eq k a n s (mbRead_badAddress ho h1 h2 h)) rfl
  case hReads =>
    intro s k a n ho h1 h
    exact answers_with (modbusReadHolding_frame k a n s)
      (execModbusReadHolding_eq k a n s (mbRead_reads ho h1 (by omega) h)) rfl
  case iClosed =>
    intro s k a n ho
    exact answers_with (modbusReadInput_frame k a n s) (execModbusReadInput_eq k a n s (mbRead_closed ho)) rfl
  case iCount =>
    intro s k a n ho h
    exact answers_with (modbusReadInput_frame k a n s) (execModbusReadInput_eq k a n s (mbRead_badCount ho h)) rfl
  case iReads =>
    intro s k a n ho h1 h2 h
    exact answers_with (modbusReadInput_frame k a n s) (execModbusReadInput_eq k a n s (mbRead_reads ho h1 h2 h)) rfl
  case iAddress =>
    intro s k a n ho h1 h2 h
    exact answers_with (modbusReadInput_frame k a n s)
      (execModbusReadInput_eq k a n s (mbRead_badAddress ho h1 h2 h)) rfl
  case sClosed =>
    intro s k a v ho
    exact answers_with (modbusWriteSingle_frame k a v s) (execModbusWriteSingle_eq k a v s (mbWrite_closed ho)) rfl
  case sRefused =>
    intro s k a v ho h
    exact answers_with (modbusWriteSingle_frame k a v s) (execModbusWriteSingle_eq k a v s (mbWrite_refused ho h)) rfl
  case sAddress =>
    intro s k a v ho ha hg h
    exact answers_with (modbusWriteSingle_frame k a v s) (execModbusWriteSingle_eq k a v s
      (mbWrite_badAddress ho ha hg Nat.le.refl (by simp) (Nat.lt_succ_of_le h))) rfl
  case sHalf =>
    intro s k a v ho ha hg h
    exact answers_with (modbusWriteSingle_frame k a v s) (execModbusWriteSingle_eq k a v s
      (mbWrite_halfBudget ho ha hg Nat.le.refl (by simp only [List.length_singleton]; omega)
        (by simp only [HalfBudget, List.length_singleton]; omega))) rfl
  case sApplies =>
    intro s k a v ho ha hg h7 h4 h5
    exact answers_with (modbusWriteSingle_frame k a v s) (execModbusWriteSingle_eq k a v s
      (mbWrite_applies ho ha hg Nat.le.refl h7 (by simp only [HalfBudget, List.length_singleton]; omega))) rfl
  case mClosed =>
    intro s k a l ho
    exact answers_with (modbusWriteMultiple_frame k a l s) (execModbusWriteMultiple_eq k a l s (mbWrite_closed ho)) rfl
  case mRefused =>
    intro s k a l ho h
    exact answers_with (modbusWriteMultiple_frame k a l s)
      (execModbusWriteMultiple_eq k a l s (mbWrite_refused ho h)) rfl
  case mCount =>
    intro s k a l ho ha hg h
    exact answers_with (modbusWriteMultiple_frame k a l s)
      (execModbusWriteMultiple_eq k a l s (mbWrite_badCount ho ha hg (by simpa using h))) rfl
  case mAddress =>
    intro s k a l ho ha hg h0 h2 h
    exact answers_with (modbusWriteMultiple_frame k a l s) (execModbusWriteMultiple_eq k a l s
      (mbWrite_badAddress ho ha hg (one_le_length_toNat h0) (by simpa using h2) (by simpa using h))) rfl
  case mHalf =>
    intro s k a l ho ha hg h0 h7 h
    exact answers_with (modbusWriteMultiple_frame k a l s) (execModbusWriteMultiple_eq k a l s
      (mbWrite_halfBudget ho ha hg (one_le_length_toNat h0) (by simpa using h7)
        (by have := List.length_pos_iff.mpr h0; simp only [HalfBudget, List.length_map]; omega))) rfl
  case mApplies =>
    intro s k a l ho ha hg h0 h7 h
    exact answers_with (modbusWriteMultiple_frame k a l s) (execModbusWriteMultiple_eq k a l s
      (mbWrite_applies ho ha hg (one_le_length_toNat h0) (by simpa using h7)
        (by simp only [HalfBudget, List.length_map]; omega))) rfl
  case aClosed =>
    intro s k ho
    exact answers_with (modbusAlarmAck_frame k s) (execModbusAlarmAck_eq k s (mbWrite_closed ho)) rfl
  case aRefused =>
    intro s k ho h
    exact answers_with (modbusAlarmAck_frame k s) (execModbusAlarmAck_eq k s (mbWrite_refused ho h)) rfl
  case aApplies =>
    intro s k ho ha hg
    exact answers_with (modbusAlarmAck_frame k s) (execModbusAlarmAck_eq k s
      (mbWrite_applies ho ha hg Nat.le.refl (by decide) (by simp [HalfBudget]))) rfl
  case bAnswers =>
    intro s k ho
    exact answers_with (modbusBadFunction_frame k s) (congrArg Host.Outcome.next (if_pos ho)) rfl
  case bClosed =>
    intro s k ho
    exact answers_with (modbusBadFunction_frame k s) 
      (congrArg Host.Outcome.next (if_neg (Bool.eq_false_iff.mp ho))) rfl

end Sys2Proof.Machine
end

section
/-! The board's monitors, the clock and the power events (R330, R389, R390, R416, R417, R423, R442 to R449): one equation
for each case of a command. -/

namespace Sys2Proof.Machine

/-- The parts that a fatal self-diagnosis may touch: every part that FAILED is entered with (R330). -/
def failParts : Parts :=
  { Parts.full with time := false, free := false, mem := false, pb := false, vq := false, fb := false, ca := false }

section board

variable {s : State}

/-! ### Supplies and dies (R390, R444, R445, R449) -/

theorem dieShutdown_frame (d : Fin 7) (k : Nat) (s : State) : Answers failParts s (exec (.dieShutdown d k) s) :=
  execDieShutdown_answers d k (Frame.refl _ s) rfl rfl rfl rfl rfl rfl rfl rfl rfl rfl rfl

theorem vinUndervoltage_frame (s : State) : Answers failParts s (exec .vinUndervoltage s) :=
  execVinUndervoltage_answers (Frame.refl _ s) rfl rfl rfl rfl rfl rfl rfl rfl rfl rfl rfl

theorem execVinUndervoltage_fails (ho : s.sys.mode ≠ .off) (hf : s.sys.mode ≠ .failed) :
    execVinUndervoltage s = .next ((s.log 15 .undervoltage 3 []).enterFailed [2]) :=
  congrArg _ (if_neg (not_or.mpr ⟨ho, hf⟩))

theorem execVinUndervoltage_rests (h : s.sys.mode = .off ∨ s.sys.mode = .failed) : execVinUndervoltage s = .next s :=
  congrArg _ (if_pos h)

theorem pllUnlock_frame (s : State) : Answers failParts s (exec .pllUnlock s) :=
  execPllUnlock_answers (Frame.refl _ s) rfl rfl rfl rfl rfl rfl rfl rfl rfl rfl rfl

theorem execPllUnlock_fails (h : s.bit CK_STATUS_PLL_LOCK = true) : execPllUnlock s =
    .next ((((s.putBit CK_STATUS_PLL_LOCK false).putBit CK_STATUS_PLL_UNLOCK true).note 16 .pllUnlock 3 []
      0).enterFailed [0]) := if_pos h

theorem execPllUnlock_rests (h : s.bit CK_STATUS_PLL_LOCK = false) : execPllUnlock s = .next s :=
  if_neg (Bool.eq_false_iff.mp h)

/-! ### Cores and the on-die SRAM (R458, R459) -/

theorem coreStallDetect_frame (c : Fin 8) (s : State) :
    Answers { regs := true, mg := true, mb := true, tw := true } s (exec (.coreStallDetect c) s) :=
  execCoreStallDetect_answers c (Frame.refl _ s) rfl rfl rfl rfl

theorem execCoreStallDetect_stalls {c : Fin 8} (hc : 2 ≤ c.val) (hm : s.sys.mode ≠ .off) :
    execCoreStallDetect c s = .next (s.repliesLost.log 1 .coreStall 2 [c.val]) := congrArg _ (if_pos ⟨hc, hm⟩)

theorem execCoreStallDetect_rests {c : Fin 8} (h : c.val < 2 ∨ s.sys.mode = .off) :
    execCoreStallDetect c s = .next s :=
  congrArg _ (if_neg fun ⟨hc, hm⟩ => h.elim (fun h => Nat.not_lt.mpr hc h) hm)

theorem hubSramScrub_frame (e : KwErr) (b : Bool) (s : State) : Answers failParts s (exec (.hubSramScrub e b) s) :=
  execHubSramScrub_answers e b (Frame.refl _ s) rfl rfl rfl rfl rfl rfl rfl rfl rfl rfl rfl

theorem execHubSramScrub_ok {e : KwErr} (b : Bool) (h : kwCheck e = .ok) : execHubSramScrub e b s = .next s := by
  unfold execHubSramScrub
  rw [h]

theorem execHubSramScrub_corrected {e : KwErr} (b : Bool) (h : kwCheck e = .corrected) :
    execHubSramScrub e b s = .next (s.log 13 .hubSram 0 []) := by
  unfold execHubSramScrub
  rw [h]

/-- An error that cannot be corrected is fatal in the supervisor's memory and logged elsewhere (R330, R459). -/
theorem execHubSramScrub_uncorrectable {e : KwErr} (b : Bool) (h : kwCheck e = .uncorrectable) :
    execHubSramScrub e b s = .next (if b then (s.log 13 .hubSram 2 [b2n b]).enterFailed [4]
      else s.log 13 .hubSram 2 [b2n b]) := by
  unfold execHubSramScrub
  rw [h]

/-! ### The timebase (R416, R417, R423) -/

theorem timebaseSave_frame (s : State) : Answers { mg := true } s (exec .timebaseSave s) :=
  execTimebaseSave_answers (Frame.refl _ s) rfl

theorem execTimebaseSave_eq (s : State) : execTimebaseSave s =
    .next (if s.sys.mode = .off then s else s.onMg fun y => { y with savedTime := s.time }) := rfl

theorem warmArmWrite_frame (i : Initiator) (s : State) :
    Answers { Parts.full with free := false } s (exec (.warmArmWrite i) s) :=
  execWarmArmWrite_answers i (Frame.refl _ s) rfl rfl rfl rfl rfl rfl rfl rfl rfl rfl rfl rfl rfl rfl rfl rfl rfl

section warmArm

variable {i : Initiator}

theorem execWarmArmWrite_ignored (h : bySupervisor i = false) : execWarmArmWrite i s = .next s :=
  if_neg (Bool.eq_false_iff.mp h)

variable (hi : bySupervisor i = true)
include hi

theorem execWarmArmWrite_arms (h : s.time < s.rd64 CK_WARM_AT_LO ∨ s.sys.mode = .failed ∨ s.sys.mode = .off) :
    execWarmArmWrite i s = .next (s.putBit CK_CTRL_WARM_ARM true) := by
  refine (if_pos hi).trans (congrArg _ (if_neg fun ⟨ht, hf, ho⟩ => ?_))
  rcases h with h | h | h
  · exact Nat.not_le.mpr h ht
  · exact hf h
  · exact ho h

theorem execWarmArmWrite_resets (ht : s.rd64 CK_WARM_AT_LO ≤ s.time) (hf : s.sys.mode ≠ .failed)
    (ho : s.sys.mode ≠ .off) : execWarmArmWrite i s = .next (s.putBit CK_CTRL_WARM_ARM true).scheduledReset :=
  (if_pos hi).trans (congrArg _ (if_pos ⟨ht, hf, ho⟩))

end warmArm

theorem pllLock_frame (s : State) : Answers { time := true, regs := true, sys := true, mg := true } s (exec .pllLock s) :=
  execPllLock_answers (Frame.refl _ s) rfl rfl rfl rfl

/-- The clock started at a count of the timebase, with the host-silence timer from `silence` on (R416, R417). -/
def State.clockStarted (s : State) (now silence : Nat) : State :=
  (({ s.putBit CK_STATUS_PLL_LOCK true with time := now }).onSys fun y => { y with
    phase := .rails, bootStart := now - (s.time - y.bootStart), silenceStart := silence }).onMg fun y => { y with
      watchdog := y.watchdog.map fun w => now - (s.time - w) }

theorem execPllLock_starts (hm : s.sys.mode = .boot) (hp : s.sys.phase = .reset) : execPllLock s = .next
    (if s.rd CK_STATUS_RESET_CAUSE = 1 then s.clockStarted (s.mg.savedTime + secs 1) (s.mg.savedTime + secs 1)
      else s.clockStarted s.time s.sys.silenceStart) := by
  refine (if_pos ⟨hm, hp⟩).trans (congrArg _ ?_)
  by_cases hc : s.rd CK_STATUS_RESET_CAUSE = 1
  · simp only [hc, decide_true, if_true]
    rfl
  · simp only [hc, decide_false, Bool.false_eq_true, if_false]
    rfl

theorem execPllLock_rests (h : s.sys.mode ≠ .boot ∨ s.sys.phase ≠ .reset) : execPllLock s = .next s :=
  if_neg fun ⟨hm, hp⟩ => h.elim (fun h => h hm) fun h => h hp

theorem clockStarted_lock (h : s.regsWf) (now silence : Nat) :
    (s.clockStarted now silence).bit CK_STATUS_PLL_LOCK = true :=
  (bit_congr rfl _).trans (bit_putBit_same s CK_STATUS_PLL_LOCK true h rfl (by decide))

theorem clockStarted_regsBut (s : State) (now silence : Nat) :
    RegsBut (· = CK_STATUS_PLL_LOCK.addr) s (s.clockStarted now silence) :=
  regsBut_same (regsBut_wr CK_STATUS_PLL_LOCK 1 (RegsBut.refl _ s) rfl) rfl

/-! ### The line seen owned (R26, R318, R442) -/

/-- The parts that the line seen owned may touch. -/
def ownedParts : Parts :=
  { regs := true, sys := true, dic := true, mg := true, mb := true, le := true, sn := true, tw := true }

theorem ownershipLineOwned_frame (s : State) : Answers ownedParts s (exec .ownershipLineOwned s) :=
  execOwnershipLineOwned_answers (Frame.refl _ s) rfl rfl rfl rfl rfl rfl rfl rfl

theorem execOwnershipLineOwned_rests (h : s.isActive = true ∨ s.sys.mode = .off ∨ 2 ≤ s.rd TW_STATUS_LINE) :
    execOwnershipLineOwned s = .next s := if_pos (by simpa [State.lineBad] using h)

/-- The line's bits as seen owned, with the excitation released. -/
def State.lineOwned (s : State) : State :=
  (((s.wr TW_STATUS_LINE 1).putBit TW_STATUS_OWN_H true).putBit TW_STATUS_OWN_L false).setExc false

/-- The frame at which the owner's frame ends are first to come (R336). -/
def State.ownerFrame (s : State) : State :=
  s.onTw fun y => { y with endSeen := if y.endSeen.isNone then some (s.frameAt s.time) else y.endSeen }

theorem execOwnershipLineOwned_takes (ha : s.isActive = false) (hm : s.sys.mode ≠ .off)
    (hl : s.rd TW_STATUS_LINE < 2) : execOwnershipLineOwned s =
      .next (if s.lineOwned.ownerFrame.sys.role = .undecided then s.lineOwned.ownerFrame.setRole .standby
        else s.lineOwned.ownerFrame).isolateStandby :=
  if_neg (by simp [State.lineBad, ha, hm, hl])

theorem excEnNAssert_frame (s : State) : Answers { sn := true } s (exec .excEnNAssert s) :=
  execExcEnNAssert_answers (Frame.refl _ s) rfl

theorem execExcEnNAssert_eq (s : State) :
    execExcEnNAssert s = .next (if s.mayExcite then s.setExc true else s) := rfl

/-! ### Pulse reports (R239) -/

theorem pulseInputMeasurement_frame (n : Fin 8) (p : Option Nat) (ua : Nat) (s : State) :
    Answers { regs := true, dic := true, mg := true, le := true, pf := true, sn := true } s
      (exec (.pulseInputMeasurement n p ua) s) :=
  execPulseInputMeasurement_answers n p ua (Frame.refl _ s) rfl rfl rfl rfl rfl rfl

/-- A report's pulse, where it has one. -/
def State.pulseTaken (s : State) (n : Nat) (p : Option Nat) : State :=
  if p.getD 0 = 0 then s else s.pulseSeen n (p.getD 0)

/-- The NAMUR checks of an input in that mode. -/
def State.namurChecked (s : State) (n ua : Nat) : State := if s.rd (SN_PICFG_MODE n) = 2 then s.namur n ua else s

/-- VALID of an input without a wiring fault. -/
def State.pulseValid (s : State) (n : Nat) : State :=
  if s.bit (SN_PISTAT_OPEN n) = true ∨ s.bit (SN_PISTAT_SHORT n) = true then s else s.putBit (SN_PISTAT_VALID n) true

theorem execPulseInputMeasurement_rests {n : Fin 8} (p : Option Nat) (ua : Nat)
    (h : s.bit SN_CTRL = false ∨ s.bit (SN_PICFG_ENABLE n) = false) :
    execPulseInputMeasurement n p ua s = .next s := if_neg (by rcases h with h | h <;> simp [h])

theorem execPulseInputMeasurement_reports {n : Fin 8} (p : Option Nat) (ua : Nat) (hc : s.bit SN_CTRL = true)
    (he : s.bit (SN_PICFG_ENABLE n) = true) : execPulseInputMeasurement n p ua s =
      .next ((((s.setSnIn (72 + n) { s.snIn (72 + n) with at_ := some s.time }).pulseTaken n p).namurChecked n
        ua).pulseValid n) := by
  refine (if_pos ⟨hc, he⟩).trans ?_
  cases p <;> rfl

end board

end Sys2Proof.Machine
end

section
/-! What the board's monitors, the clock and the power events answer. -/

namespace Sys2Proof.Machine

/-- Settles O52: each command by its equation for the case, inside the frame of the command. -/
theorem boardAndClock : Obligations.BoardAndClock := by
  unfold Obligations.BoardAndClock
  refine ⟨?sensor, ?dieWarns, ?dieFails, ?vinFails, ?vinRests, ?actuator, ?unlocks, ?unlockRests, ?stalls, ?flushes,
    ?saves, ?saveRests, ?armIgnored, ?arms, ?armResets, ?armHeld, ?coldLock, ?warmLock, ?lockRests, ?ownedRests, ?owned,
    ?excites, ?exciteRests, ?pulseRests, ?pulse, ?sramOk, ?sramCorrected, ?sramFails, ?sramLogged⟩
  case sensor =>
    intro s q v
    exact answers_with (execBoardSensorWarning_answers q v (Frame.refl _ s) rfl rfl) rfl ⟨_, _, rfl, rfl, rfl⟩
  case dieWarns =>
    intro s d k
    exact answers_with (execDieTemperatureWarning_answers d k (Frame.refl _ s) rfl rfl rfl) rfl ⟨_, _, rfl, rfl, rfl⟩
  case dieFails =>
    intro s d k
    exact answers_with (dieShutdown_frame d k s) rfl ⟨_, rfl, rfl⟩
  case vinFails =>
    intro s ho hf
    exact answers_with (vinUndervoltage_frame s) (execVinUndervoltage_fails ho hf) rfl
  case vinRests =>
    intro s h
    exact answers_with (vinUndervoltage_frame s) (execVinUndervoltage_rests h) rfl
  case actuator =>
    intro s
    exact answers_with (execActuatorUndervoltage_answers (Frame.refl _ s) rfl rfl) rfl rfl
  case unlocks =>
    intro s h
    exact answers_with (pllUnlock_frame s) (execPllUnlock_fails h) rfl
  case unlockRests =>
    intro s h
    exact answers_with (pllUnlock_frame s) (execPllUnlock_rests h) rfl
  case stalls =>
    intro s c hc hm
    exact answers_with (coreStallDetect_frame c s) (execCoreStallDetect_stalls hc hm) rfl
  case flushes =>
    intro s h
    exact answers_with (logFlush_frame s) (execLogFlush_keeps h) rfl
  case saves =>
    intro s h
    exact answers_with (timebaseSave_frame s) ((execTimebaseSave_eq s).trans (congrArg _ (if_neg h))) rfl
  case saveRests =>
    intro s h
    exact answers_with (timebaseSave_frame s) ((execTimebaseSave_eq s).trans (congrArg _ (if_pos h))) rfl
  case armIgnored =>
    intro s i h
    exact answers_with (warmArmWrite_frame i s) (execWarmArmWrite_ignored h) rfl
  case arms =>
    intro s i hs hi ht
    exact answers_with (warmArmWrite_frame i s) (execWarmArmWrite_arms hi (.inl ht))
      ⟨bit_putBit_same s CK_CTRL_WARM_ARM true hs.regs rfl (by decide), regsBut_wr _ _ (RegsBut.refl _ s) rfl⟩
  case armResets =>
    intro s i hi ht hf ho
    exact answers_with (warmArmWrite_frame i s) (execWarmArmWrite_resets hi ht hf ho) rfl
  case armHeld =>
    intro s i hi h
    exact answers_with (warmArmWrite_frame i s) (execWarmArmWrite_arms hi (.inr h)) rfl
  case coldLock =>
    intro s hs hm hp hc
    exact answers_with (pllLock_frame s) ((execPllLock_starts hm hp).trans (congrArg _ (if_pos hc)))
      ⟨rfl, rfl, clockStarted_lock hs.regs _ _, clockStarted_regsBut s _ _⟩
  case warmLock =>
    intro s hm hp hc
    exact answers_with (pllLock_frame s) ((execPllLock_starts hm hp).trans (congrArg _ (if_neg hc))) ⟨rfl, rfl⟩
  case lockRests =>
    intro s h
    exact answers_with (pllLock_frame s) (execPllLock_rests h) rfl
  case ownedRests =>
    intro s h
    exact answers_with (ownershipLineOwned_frame s) (execOwnershipLineOwned_rests h) rfl
  case owned =>
    intro s ha hm hl
    exact answers_with (ownershipLineOwned_frame s) (execOwnershipLineOwned_takes ha hm hl) ⟨_, _, rfl, rfl, rfl⟩
  case excites =>
    intro s h
    exact answers_with (excEnNAssert_frame s) ((execExcEnNAssert_eq s).trans (congrArg _ (if_pos h))) rfl
  case exciteRests =>
    intro s h
    exact answers_with (excEnNAssert_frame s)
      ((execExcEnNAssert_eq s).trans (congrArg _ (if_neg (Bool.eq_false_iff.mp h)))) rfl
  case pulseRests =>
    intro s n p ua h
    exact answers_with (pulseInputMeasurement_frame n p ua s) (execPulseInputMeasurement_rests p ua h) rfl
  case pulse =>
    intro s n p ua hc he
    exact answers_with (pulseInputMeasurement_frame n p ua s) (execPulseInputMeasurement_reports p ua hc he)
      ⟨_, _, _, rfl, rfl, rfl, rfl⟩
  case sramOk =>
    intro s e b h
    exact answers_with (hubSramScrub_frame e b s) (execHubSramScrub_ok b h) rfl
  case sramCorrected =>
    intro s e b h
    exact answers_with (hubSramScrub_frame e b s) (execHubSramScrub_corrected b h) rfl
  case sramFails =>
    intro s e h
    exact answers_with (hubSramScrub_frame e true s) (execHubSramScrub_uncorrectable true h) rfl
  case sramLogged =>
    intro s e h
    exact answers_with (hubSramScrub_frame e false s) (execHubSramScrub_uncorrectable false h) rfl

end Sys2Proof.Machine
end

section
/-! The steps of a handover, the frame ends and the core faults (R327, R330, R331, R335, R336, R360, R458): one equation
for each case of a command. -/

namespace Sys2Proof.Machine

section handover

variable {s : State}

/-! ### Frame ends and fatal faults (R327, R330, R331) -/

theorem frameEndMissing_frame (s : State) :
    Answers { regs := true, dic := true, mg := true, vq := true, le := true, tw := true, ca := true } s
      (exec .frameEndMissing s) :=
  execFrameEndMissing_answers (Frame.refl _ s) rfl rfl rfl rfl rfl rfl rfl

theorem execFrameEndMissing_falls {t0 k : Nat} (hr : s.sys.role = .standby) (hs : s.bit TW_STATUS_IN_STEP = true)
    (hl : s.rd TW_STATUS_LINE = 1) (h0 : s.sys.lastFrame = some t0) (ht : t0 + usec 50 ≤ s.time)
    (hk : s.tw.endSeen = some k) (hf : k < s.frame) : execFrameEndMissing s = .next s.outOfStep :=
  congrArg _ (if_pos ⟨hr, hs, hl, since_due h0 ht, by simp [hk, hf]⟩)

theorem execFrameEndMissing_rests (h : s.sys.role ≠ .standby ∨ s.bit TW_STATUS_IN_STEP = false ∨
      s.rd TW_STATUS_LINE ≠ 1 ∨ s.since s.sys.lastFrame (usec 50) = false ∨
      s.tw.endSeen.any (fun k => decide (k < s.frame)) = false) : execFrameEndMissing s = .next s := by
  refine congrArg _ (if_neg fun ⟨hr, hs, hl, ht, hk⟩ => ?_)
  rcases h with h | h | h | h | h
  · exact h hr
  · exact Bool.false_ne_true (h.symm.trans hs)
  · exact h hl
  · exact Bool.false_ne_true (h.symm.trans ht)
  · exact Bool.false_ne_true (h.symm.trans hk)

theorem lockstepMismatch_frame (s : State) : Answers failParts s (exec .lockstepMismatch s) :=
  execLockstepMismatch_answers (Frame.refl _ s) rfl rfl rfl rfl rfl rfl rfl rfl rfl rfl rfl

theorem supervisorWatchdogExpiry_frame (s : State) : Answers failParts s (exec .supervisorWatchdogExpiry s) :=
  execSupervisorWatchdogExpiry_answers (Frame.refl _ s) rfl rfl rfl rfl rfl rfl rfl rfl rfl rfl rfl

theorem execSupervisorWatchdogExpiry_fails (hf : s.sys.framesOn = true) (ht : s.tw.watchdogAt + 4 * usec 50 ≤ s.time) :
    execSupervisorWatchdogExpiry s = .next (s.enterFailed [6]) := congrArg _ (if_pos ⟨hf, ht⟩)

theorem execSupervisorWatchdogExpiry_rests (h : s.sys.framesOn = false ∨ s.time < s.tw.watchdogAt + 4 * usec 50) :
    execSupervisorWatchdogExpiry s = .next s :=
  congrArg _ (if_neg fun ⟨hf, ht⟩ => h.elim (fun h => Bool.false_ne_true (h.symm.trans hf)) (Nat.not_lt.mpr ht))

theorem twFaultWrite_frame (i : Initiator) (s : State) : Answers failParts s (exec (.twFaultWrite i) s) :=
  execTwFaultWrite_answers i (Frame.refl _ s) rfl rfl rfl rfl rfl rfl rfl rfl rfl rfl rfl

theorem execTwFaultWrite_eq (i : Initiator) (s : State) :
    execTwFaultWrite i s = .next (if bySupervisor i then s.enterFailed [7] else s) := rfl

theorem twReleaseWrite_frame (i : Initiator) (s : State) : Answers { tw := true } s (exec (.twReleaseWrite i) s) :=
  execTwReleaseWrite_answers i (Frame.refl _ s) rfl

theorem execTwReleaseWrite_asks {i : Initiator} (hi : bySupervisor i = true) (ha : s.isActive = true) :
    execTwReleaseWrite i s = .next (s.onTw fun y => { y with hand := .ready }) := congrArg _ (if_pos ⟨hi, ha⟩)

theorem execTwReleaseWrite_rests {i : Initiator} (h : bySupervisor i = false ∨ s.isActive = false) :
    execTwReleaseWrite i s = .next s := congrArg _ (if_neg (by rcases h with h | h <;> simp [h]))

/-! ### The request (R335, R370) -/

/-- A request of good form counted at the ACTIVE module: a repeated tag is answered with its reply kept, under the present
state and role, another is refused or starts the handover. -/
def State.handAsked (s : State) (p : List Byte) : State :=
  match s.seenTag (tagOf p) with
  | some x => s.silenceRestart.answer .ok (s.headerNow_ x.header) x.body
  | none =>
    match s.handRefusal with
    | some k => s.answer k (s.ksHeader k (tagOf p) 0 0) []
    | none => s.silenceRestart.handStart (some (tagOf p))

section request

variable {p : List (BitVec 8)}

theorem handoverRequest_frame (p : List (BitVec 8)) (s : State) : Answers mailParts s (exec (.handoverRequest p) s) :=
  execHandoverRequest_answers p (Frame.refl _ s) rfl rfl rfl rfl rfl rfl

theorem execHandoverRequest_off (hm : s.sys.mode = .off) : execHandoverRequest p s = .next s := if_pos hm

variable (hm : s.sys.mode ≠ .off)
include hm

theorem execHandoverRequest_range (h : p.length ≠ 8 ∨ fieldLE p 4 1 ≠ 1) :
    execHandoverRequest p s = .next (s.turnedDown p .range) := (if_neg hm).trans (if_pos h)

variable (hl : p.length = 8) (hv : fieldLE p 4 1 = 1)
include hl hv

theorem execHandoverRequest_notOwner (ha : s.isActive = false) :
    execHandoverRequest p s = .next (s.turnedDown p .notOwner) :=
  (if_neg hm).trans ((if_neg (by simp [hl, hv])).trans (if_pos fun h =>
    Bool.false_ne_true (ha.symm.trans ((asked_isActive s).symm.trans h))))

variable (ha : s.isActive = true)
include ha

theorem execHandoverRequest_active : execHandoverRequest p s = .next (s.asked.handAsked p) := by
  have hact : s.atMailbox.isActive = true := (asked_isActive s).trans ha
  refine (if_neg hm).trans ((if_neg (by simp [hl, hv])).trans ((if_neg (not_not_intro hact)).trans ?_))
  unfold State.handAsked State.asked
  cases s.atMailbox.seenTag (tagOf p) with
  | some x => rfl
  | none => cases s.atMailbox.handRefusal <;> rfl

theorem execHandoverRequest_repeats {x : TagRec} (hx : s.asked.seenTag (tagOf p) = some x) :
    execHandoverRequest p s = .next (s.asked.silenceRestart.answer .ok (s.asked.headerNow_ x.header) x.body) := by
  rw [execHandoverRequest_active hm hl hv ha, State.handAsked, hx]

theorem execHandoverRequest_refuses {k : Ks} (hx : s.asked.seenTag (tagOf p) = none)
    (hk : s.asked.handRefusal = some k) : execHandoverRequest p s = .next (s.turnedDown p k) := by
  rw [execHandoverRequest_active hm hl hv ha, State.handAsked, hx, hk]
  rfl

theorem execHandoverRequest_starts (hx : s.asked.seenTag (tagOf p) = none) (hk : s.asked.handRefusal = none) :
    execHandoverRequest p s = .next (s.asked.silenceRestart.handStart (some (tagOf p))) := by
  rw [execHandoverRequest_active hm hl hv ha, State.handAsked, hx, hk]

end request

theorem asked_headerNow (s : State) (h : List Byte) : s.asked.headerNow_ h =
    h.take 2 ++ leBytes 1 s.sys.mode.code ++ leBytes 1 s.sys.role.code ++ h.drop 4 := by
  rw [State.headerNow_, asked_sys]

/-! ### The steps (R336) -/

theorem handoverPrepare_frame (s : State) : Answers { tw := true } s (exec .handoverPrepare s) :=
  execHandoverPrepare_answers (Frame.refl _ s) rfl

theorem execHandoverPrepare_sends (ha : s.isActive = true) (hh : s.tw.hand = .asked) (hb : s.onBoundary = true) :
    execHandoverPrepare s = .next ((s.linkSend 11 1 s.frame []).onTw fun y => { y with hand := .prepared }) :=
  congrArg _ (if_pos ⟨ha, hh, hb⟩)

theorem execHandoverPrepare_rests (h : s.isActive = false ∨ s.tw.hand ≠ .asked ∨ s.onBoundary = false) :
    execHandoverPrepare s = .next s := congrArg _ (if_neg (by rcases h with h | h | h <;> simp [h]))

theorem handoverRelease_frame (s : State) : Answers ownedParts s (exec .handoverRelease s) :=
  execHandoverRelease_answers (Frame.refl _ s) rfl rfl rfl rfl rfl rfl rfl rfl

theorem execHandoverRelease_releases (ha : s.isActive = true) (hh : s.tw.hand = .ready) (hb : s.onBoundary = true)
    (hl : s.sys.lastFrame ≠ some s.time) : execHandoverRelease s =
      .next ((((s.sendFrameEnd s.frame).linkSend 11 3 s.frame []).releaseLine).onTw fun y =>
        { y with hand := .released, lastDone := s.frame }) := congrArg _ (if_pos ⟨ha, hh, hb, hl⟩)

theorem execHandoverRelease_rests (h : s.isActive = false ∨ s.tw.hand ≠ .ready ∨ s.onBoundary = false ∨
      s.sys.lastFrame = some s.time) : execHandoverRelease s = .next s :=
  congrArg _ (if_neg (by rcases h with h | h | h | h <;> simp [h]))

theorem handoverComplete_frame (s : State) :
    Answers { regs := true, mb := true, tw := true } s (exec .handoverComplete s) :=
  execHandoverComplete_answers (Frame.refl _ s) rfl rfl rfl

theorem execHandoverComplete_completes (hh : s.tw.hand = .released)
    (hl : s.rd TW_STATUS_LINE = 1 ∨ s.rd TW_PARTNER_ROLE = 1) :
    execHandoverComplete s = .next ((s.setLine 1 true false).handReply .ok) := congrArg _ (if_pos ⟨hh, hl⟩)

theorem execHandoverComplete_rests
    (h : s.tw.hand ≠ .released ∨ (s.rd TW_STATUS_LINE ≠ 1 ∧ s.rd TW_PARTNER_ROLE ≠ 1)) :
    execHandoverComplete s = .next s :=
  congrArg _ (if_neg fun ⟨hh, hl⟩ => h.elim (fun h => h hh) fun ⟨h1, h2⟩ => hl.elim h1 h2)

end handover

/-- Settles O43: each command by its equation for the case, inside the frame of the command. -/
theorem lockstepAndHandover : Obligations.LockstepAndHandover := by
  unfold Obligations.LockstepAndHandover
  refine ⟨?falls, ?staysInStep, ?mismatch, ?stalls, ?stallRests, ?watchdog, ?watchdogRests, ?off, ?range, ?notOwner,
    ?refused, ?repeated, ?started, ?prepares, ?prepareRests, ?releases, ?releaseRests, ?completeRests, ?completes,
    ?asks, ?askRests, ?fault, ?faultRests⟩
  case falls =>
    intro s t0 k hr hs hl h0 ht hk hf
    exact answers_with (frameEndMissing_frame s) (execFrameEndMissing_falls hr hs hl h0 ht hk hf) rfl
  case staysInStep =>
    intro s h
    exact answers_with (frameEndMissing_frame s) (execFrameEndMissing_rests h) rfl
  case mismatch =>
    intro s
    exact answers_with (lockstepMismatch_frame s) rfl rfl
  case stalls =>
    intro s c hc hm
    exact answers_with (coreStallDetect_frame c s) (execCoreStallDetect_stalls hc hm) rfl
  case stallRests =>
    intro s c h
    exact answers_with (coreStallDetect_frame c s) (execCoreStallDetect_rests h) rfl
  case watchdog =>
    intro s hf ht
    exact answers_with (supervisorWatchdogExpiry_frame s) (execSupervisorWatchdogExpiry_fails hf ht) rfl
  case watchdogRests =>
    intro s h
    exact answers_with (supervisorWatchdogExpiry_frame s) (execSupervisorWatchdogExpiry_rests h) rfl
  case off =>
    intro s p hm
    exact answers_with (handoverRequest_frame p s) (execHandoverRequest_off hm) rfl
  case range =>
    intro s p hm h
    exact answers_with (handoverRequest_frame p s) (execHandoverRequest_range hm h) rfl
  case notOwner =>
    intro s p hm hl hv ha
    exact answers_with (handoverRequest_frame p s) (execHandoverRequest_notOwner hm hl hv ha) rfl
  case refused =>
    intro s p k hm hl hv ha hx hk
    exact answers_with (handoverRequest_frame p s) (execHandoverRequest_refuses hm hl hv ha hx hk) rfl
  case repeated =>
    intro s p x hm hl hv ha hx
    exact answers_with (handoverRequest_frame p s) (execHandoverRequest_repeats hm hl hv ha hx) (by rw [asked_headerNow])
  case started =>
    intro s p hm hl hv ha hx hk
    exact answers_with (handoverRequest_frame p s) (execHandoverRequest_starts hm hl hv ha hx hk) rfl
  case prepares =>
    intro s ha hh hb
    exact answers_with (handoverPrepare_frame s) (execHandoverPrepare_sends ha hh hb) rfl
  case prepareRests =>
    intro s h
    exact answers_with (handoverPrepare_frame s) (execHandoverPrepare_rests h) rfl
  case releases =>
    intro s ha hh hb hl
    exact answers_with (handoverRelease_frame s) (execHandoverRelease_releases ha hh hb hl) rfl
  case releaseRests =>
    intro s h
    exact answers_with (handoverRelease_frame s) (execHandoverRelease_rests h) rfl
  case completeRests =>
    intro s h
    exact answers_with (handoverComplete_frame s) (execHandoverComplete_rests h) rfl
  case completes =>
    intro s hh hl
    exact answers_with (handoverComplete_frame s) (execHandoverComplete_completes hh hl) rfl
  case asks =>
    intro s i hi ha
    exact answers_with (twReleaseWrite_frame i s) (execTwReleaseWrite_asks hi ha) rfl
  case askRests =>
    intro s i h
    exact answers_with (twReleaseWrite_frame i s) (execTwReleaseWrite_rests h) rfl
  case fault =>
    intro s i hi
    exact answers_with (twFaultWrite_frame i s) ((execTwFaultWrite_eq i s).trans (congrArg _ (if_pos hi))) rfl
  case faultRests =>
    intro s i hi
    exact answers_with (twFaultWrite_frame i s)
      ((execTwFaultWrite_eq i s).trans (congrArg _ (if_neg (Bool.eq_false_iff.mp hi)))) rfl

end Sys2Proof.Machine
end

section
/-! The twin link (R321 to R323, R326, R337): one equation for each case of a frame, an acknowledge, a lane and the
resynchronisation. -/

namespace Sys2Proof.Machine

section link

variable {s : State}

/-! ### A frame received (R322, R323) -/

/-- The parts that a frame of the link may touch. -/
def linkFrameParts : Parts := { Parts.full with time := false, free := false, mem := false, sn := false, tr := false }

theorem twinLinkFrameReceive_frame (f : LinkFrame) (s : State) :
    Answers linkFrameParts s (exec (.twinLinkFrameReceive f) s) :=
  execTwinLinkFrameReceive_answers f (Frame.refl _ s) rfl rfl rfl rfl rfl rfl rfl rfl rfl rfl rfl rfl rfl

/-- The number to come set by the first frame after a reset of the link. -/
def State.linkSynced (s : State) (f : LinkFrame) : State :=
  if s.tw.rxAny then s.onTw fun y => { y with rxAny := false, rxSeq := f.seq } else s

/-- A good frame of the numbered types: in order it is taken and passed on, ahead it is NAKed, and one that has been
taken is acknowledged again. -/
def State.linkTaken (s : State) (f : LinkFrame) : State :=
  if f.seq = s.tw.rxSeq then (s.onTw fun y => { y with rxSeq := (y.rxSeq + 1) % 2 ^ 32, ackDue := true }).passOn f
  else if seqDist s.tw.rxSeq f.seq < 2 ^ 31 then s.sendNak
  else s.onTw fun y => { y with ackDue := true }

section frames

variable {f : LinkFrame}

theorem execTwinLinkFrameReceive_disabled (he : s.bit TW_CTRL_ENABLE = false) :
    execTwinLinkFrameReceive f s = .next s := if_pos (Bool.eq_false_iff.mp he)

variable (he : s.bit TW_CTRL_ENABLE = true)
include he

theorem execTwinLinkFrameReceive_bad (h : f.crc ≠ linkCrc f ∨ 4096 < f.payload.length) :
    execTwinLinkFrameReceive f s = .next (s.incSat TW_CRCERR).sendNak :=
  (if_neg (not_not_intro he)).trans (if_pos h)

variable (hc : f.crc = linkCrc f) (hl : f.payload.length ≤ 4096)
include hc hl

theorem execTwinLinkFrameReceive_good : execTwinLinkFrameReceive f s =
    if f.typ = 12 then .next (s.acked (fieldLE f.payload 0 4))
    else if f.typ = 13 then .next (s.acked (fieldLE f.payload 0 4 + 2 ^ 32 - 1)).resend
    else .next ((s.linkSynced f).linkTaken f) := by
  refine (if_neg (not_not_intro he)).trans ((if_neg (not_or.mpr ⟨not_not_intro hc, hl.not_gt⟩)).trans
    (if_congr Iff.rfl rfl (if_congr Iff.rfl rfl ?_)))
  rw [State.linkTaken, apply_ite Host.Outcome.next, apply_ite Host.Outcome.next]
  rfl

theorem execTwinLinkFrameReceive_ack (ht : f.typ = 12) :
    execTwinLinkFrameReceive f s = .next (s.acked (fieldLE f.payload 0 4)) :=
  (execTwinLinkFrameReceive_good he hc hl).trans (if_pos ht)

theorem execTwinLinkFrameReceive_nak (ht : f.typ = 13) :
    execTwinLinkFrameReceive f s = .next (s.acked (fieldLE f.payload 0 4 + 2 ^ 32 - 1)).resend :=
  (execTwinLinkFrameReceive_good he hc hl).trans ((if_neg (by omega)).trans (if_pos ht))

theorem execTwinLinkFrameReceive_numbered (h12 : f.typ ≠ 12) (h13 : f.typ ≠ 13) :
    execTwinLinkFrameReceive f s = .next ((s.linkSynced f).linkTaken f) :=
  (execTwinLinkFrameReceive_good he hc hl).trans ((if_neg h12).trans (if_neg h13))

end frames

/-! ### Acknowledges and the replay buffer (R322, R326) -/

theorem linkAckSend_frame (s : State) : Answers { tw := true } s (exec .linkAckSend s) :=
  execLinkAckSend_answers (Frame.refl _ s) rfl

theorem execLinkAckSend_eq (s : State) : execLinkAckSend s =
    .next (if s.tw.ackDue then s.onTw fun y => { y with
        ackDue := false, lastCtl := some (12, (y.rxSeq + 2 ^ 32 - 1) % 2 ^ 32) }
      else s) := rfl

theorem linkReplayTimeout_frame (s : State) :
    Answers { regs := true, mb := true, tw := true } s (exec .linkReplayTimeout s) :=
  execLinkReplayTimeout_answers (Frame.refl _ s) rfl rfl rfl

/-- The replay buffer sent again, where it waits and its last acknowledge lies 100 µs back. -/
def State.replayed (s : State) : State :=
  if s.tw.replay ≠ [] ∧ s.since s.tw.ackAt (usec 100) then s.resend else s

theorem execLinkReplayTimeout_eq (s : State) : execLinkReplayTimeout s = .next s.replyTimeouts.replayed := rfl

theorem replayed_resends {t0 : Nat} (h : s.tw.replay ≠ []) (h0 : s.tw.ackAt = some t0) (ht : t0 + usec 100 ≤ s.time) :
    s.replayed = s.resend := if_pos ⟨h, since_due h0 ht⟩

theorem replayed_rests (h : s.tw.replay = [] ∨ s.since s.tw.ackAt (usec 100) = false) : s.replayed = s :=
  if_neg (by rcases h with h | h <;> simp [h])

theorem replyTimeouts_none (h : s.mb.held = []) : s.replyTimeouts = s := by
  have hm : ({ s.mb with held := [] } : Mbox) = s.mb := by rw [← h]
  have hs : (s.onMb fun y => { y with held := y.held.filter fun r => !decide (r.due ≤ s.time) }) = s := by
    change ({ s with mb := { s.mb with held := s.mb.held.filter fun r => !decide (r.due ≤ s.time) } } : State) = s
    rw [h, List.filter_nil, hm]
  unfold State.replyTimeouts State.releaseReplies
  rw [hs, h, List.filter_nil, List.foldl_nil]

/-! ### Lanes (R321) -/

theorem linkLaneFail_frame (l : Fin 4) (s : State) :
    Answers { regs := true, mg := true } s (exec (.linkLaneFail l) s) :=
  execLinkLaneFail_answers l (Frame.refl _ s) rfl rfl

theorem execLinkLaneFail_retrains {l : Fin 4} (he : s.bit TW_CTRL_ENABLE = true)
    (hl : bitOf (s.rd TW_STATUS_LANES) l.val = true) :
    execLinkLaneFail l s = .next (s.setLanes (s.rd TW_STATUS_LANES - 2 ^ l.val)) := congrArg _ (if_pos ⟨he, hl⟩)

theorem execLinkLaneFail_rests {l : Fin 4}
    (h : s.bit TW_CTRL_ENABLE = false ∨ bitOf (s.rd TW_STATUS_LANES) l.val = false) :
    execLinkLaneFail l s = .next s := congrArg _ (if_neg (by rcases h with h | h <;> simp [h]))

theorem linkRetrainDone_frame (l : BitVec 4) (s : State) :
    Answers { regs := true, mg := true } s (exec (.linkRetrainDone l) s) :=
  execLinkRetrainDone_answers l (Frame.refl _ s) rfl rfl

theorem execLinkRetrainDone_eq (l : BitVec 4) (s : State) :
    execLinkRetrainDone l s = .next (if s.bit TW_CTRL_ENABLE then s.setLanes l.toNat else s) := rfl

/-! ### The resynchronisation (R337) -/

theorem resyncStart_frame (s : State) : Answers { tw := true } s (exec .resyncStart s) :=
  execResyncStart_answers (Frame.refl _ s) rfl

/-- The copied registers as address and word. -/
def State.copyPairs (s : State) : List (Nat × Nat) := s.copyRegs.map fun q => (q.1, q.2.toNat)

/-- The registers sent, led by the frame that begins the copy. -/
def State.regsSent (s : State) : State :=
  (s.linkSend 10 0 s.frame []).sendPairs 10 1 (s.linkSend 10 0 s.frame []).frame (s.copyPairs.length / 512 + 1) s.copyPairs

/-- The settings and the journals sent. -/
def State.recordsSent (s : State) : State := (s.sendCfg (s.cfgEntries.length / 512 + 1) s.cfgEntries).sendJournals 3

/-- The pool and the lines of working state sent, and the copy under way. -/
def State.copyBegun (s : State) : State :=
  (((s.sendPool (s.poolPairs.length / 512 + 1) s.poolPairs).onTw fun y => { y with copyLines := [] }).sendLines).onTw
    fun y => { y with copy := s.copyRegs, resyncAt := some s.time, resyncDue := false }

theorem execResyncStart_copies (ha : s.isActive = true) (hd : s.tw.resyncDue = true) (hb : s.onBoundary = true)
    (hm : s.sys.mode ≠ .boot) : execResyncStart s = .next s.regsSent.recordsSent.copyBegun :=
  if_pos ⟨ha, hd, hb, hm⟩

theorem execResyncStart_rests
    (h : s.isActive = false ∨ s.tw.resyncDue = false ∨ s.onBoundary = false ∨ s.sys.mode = .boot) :
    execResyncStart s = .next s := if_neg (by rcases h with h | h | h | h <;> simp [h])

theorem recordsSent_parts (s : State) : Frame { tw := true } s s.regsSent.recordsSent :=
  sendJournals_frame _ (sendCfg_frame _ _ (sendPairs_frame _ _ _ _ _ (linkSend_frame _ _ _ _ (Frame.refl _ s) rfl) rfl)
    rfl) rfl

/-- What is sent leaves the registers and the time, which the copy is dated with. -/
theorem recordsSent_copy (s : State) :
    s.regsSent.recordsSent.copyRegs = s.copyRegs ∧ s.regsSent.recordsSent.time = s.time := by
  refine ⟨?_, (recordsSent_parts s).time rfl⟩
  unfold State.copyRegs
  rw [(recordsSent_parts s).regs rfl]

/-- The copy under way is the one of the registers as they stood, dated with the boundary. -/
theorem copyBegun_eq (s : State) : s.regsSent.recordsSent.copyBegun =
    (((s.regsSent.recordsSent.sendPool (s.regsSent.recordsSent.poolPairs.length / 512 + 1)
      s.regsSent.recordsSent.poolPairs).onTw fun y => { y with copyLines := [] }).sendLines).onTw fun y =>
        { y with copy := s.copyRegs, resyncAt := some s.time, resyncDue := false } := by
  obtain ⟨hcopy, htime⟩ := recordsSent_copy s
  unfold State.copyBegun
  rw [hcopy, htime]

theorem resyncEnd_frame (s : State) :
    Answers { twinParts with vq := true, pf := true, tr := true } s (exec .resyncEnd s) :=
  execResyncEnd_answers (Frame.refl _ s) rfl rfl rfl rfl rfl rfl rfl rfl rfl rfl

theorem execResyncEnd_ends {t0 : Nat} (hb : s.onBoundary = true) (ha : s.isActive = true)
    (h0 : s.tw.resyncAt = some t0) (ht : t0 < s.time) : execResyncEnd s =
      .next ((s.sendMirror.linkSend 10 5 (s.frameAt s.time) []).onTw fun y => { y with resyncAt := none, copy := [] }) := by
  refine (if_neg (not_not_intro hb)).trans ((if_pos ha).trans ?_)
  rw [h0]
  exact if_pos ht

theorem execResyncEnd_joins {j : Nat} (hb : s.onBoundary = true) (ha : s.isActive = false) (ht : s.takes = true)
    (hr : s.bit TW_STATUS_RESYNC = true) (hj : s.tw.resyncAt = some j) : execResyncEnd s = .next (s.resynced j) := by
  refine (if_neg (not_not_intro hb)).trans ((if_neg (Bool.eq_false_iff.mp ha)).trans ((if_pos ⟨ht, hr⟩).trans ?_))
  rw [hj]

/-- On the ACTIVE module a copy begins before its end can be due. -/
theorem execResyncEnd_early (ha : s.isActive = true) (h : s.tw.resyncAt.all (fun t0 => decide (s.time ≤ t0)) = true) :
    execResyncEnd s = .next s := by
  by_cases hb : s.onBoundary = true
  · refine (if_neg (not_not_intro hb)).trans ((if_pos ha).trans ?_)
    cases h0 : s.tw.resyncAt with
    | none => rfl
    | some t0 =>
      rw [h0, Option.all_some, decide_eq_true_iff] at h
      exact if_neg h.not_gt
  · exact if_pos hb

/-- Off the ACTIVE module nothing ends before the frame to start is known. -/
theorem execResyncEnd_unknown (ha : s.isActive = false)
    (h : (s.takes && s.bit TW_STATUS_RESYNC && s.tw.resyncAt.isSome) = false) : execResyncEnd s = .next s := by
  by_cases hb : s.onBoundary = true
  · refine (if_neg (not_not_intro hb)).trans ((if_neg (Bool.eq_false_iff.mp ha)).trans ?_)
    cases h0 : s.tw.resyncAt with
    | none => exact ite_self _
    | some j => exact if_neg (by simpa [h0] using h)
  · exact if_pos hb

end link

/-- Settles O42: each command by its equation for the case; the copy sent leaves the registers that it copies. -/
theorem twinLink : Obligations.TwinLink := by
  unfold Obligations.TwinLink
  refine ⟨?disabled, ?bad, ?ack, ?nak, ?numbered, ?acks, ?ackRests, ?timeout, ?noneHeld, ?laneFails, ?laneRests,
    ?trained, ?trainRests, ?resyncRests, ?resyncs, ?ends, ?joins, ?endRests⟩
  case disabled =>
    intro s f he
    exact answers_with (twinLinkFrameReceive_frame f s) (execTwinLinkFrameReceive_disabled he) rfl
  case bad =>
    intro s f he h
    exact answers_with (twinLinkFrameReceive_frame f s) (execTwinLinkFrameReceive_bad he h) rfl
  case ack =>
    intro s f he hc hl ht
    exact answers_with (twinLinkFrameReceive_frame f s) (execTwinLinkFrameReceive_ack he hc hl ht) rfl
  case nak =>
    intro s f he hc hl ht
    exact answers_with (twinLinkFrameReceive_frame f s) (execTwinLinkFrameReceive_nak he hc hl ht) rfl
  case numbered =>
    intro s f he hc hl h12 h13
    exact answers_with (twinLinkFrameReceive_frame f s) (execTwinLinkFrameReceive_numbered he hc hl h12 h13)
      ⟨_, rfl, fun h => if_pos h, fun h hd => (if_neg h).trans (if_pos hd),
        fun h hd => (if_neg h).trans (if_neg hd.not_gt)⟩
  case acks =>
    intro s h
    exact answers_with (linkAckSend_frame s) ((execLinkAckSend_eq s).trans (congrArg _ (if_pos h))) rfl
  case ackRests =>
    intro s h
    exact answers_with (linkAckSend_frame s)
      ((execLinkAckSend_eq s).trans (congrArg _ (if_neg (Bool.eq_false_iff.mp h)))) rfl
  case timeout =>
    intro s
    refine answers_with (linkReplayTimeout_frame s) (execLinkReplayTimeout_eq s)
      ⟨_, rfl, fun hr => ⟨fun t0 => replayed_resends hr, fun h0 => replayed_rests (.inr (by rw [h0]; rfl))⟩, ?_⟩
    rintro (h | h)
    · exact replayed_rests (.inl h)
    · obtain ⟨t0, h0, ht⟩ := (Option.any_eq_true _ _).mp h
      exact replayed_rests (.inr (since_early (.inr ⟨t0, h0, of_decide_eq_true ht⟩)))
  case noneHeld =>
    intro s
    exact replyTimeouts_none
  case laneFails =>
    intro s l he hl
    exact answers_with (linkLaneFail_frame l s) (execLinkLaneFail_retrains he hl) rfl
  case laneRests =>
    intro s l h
    exact answers_with (linkLaneFail_frame l s) (execLinkLaneFail_rests h) rfl
  case trained =>
    intro s l h
    exact answers_with (linkRetrainDone_frame l s) ((execLinkRetrainDone_eq l s).trans (congrArg _ (if_pos h))) rfl
  case trainRests =>
    intro s l h
    exact answers_with (linkRetrainDone_frame l s)
      ((execLinkRetrainDone_eq l s).trans (congrArg _ (if_neg (Bool.eq_false_iff.mp h)))) rfl
  case resyncRests =>
    intro s h
    exact answers_with (resyncStart_frame s) (execResyncStart_rests h) rfl
  case resyncs =>
    intro s ha hd hb hm
    exact answers_with (resyncStart_frame s) (execResyncStart_copies ha hd hb hm)
      ⟨s.regsSent, s.regsSent.recordsSent, s.copyPairs, rfl, rfl, rfl, copyBegun_eq s⟩
  case ends =>
    intro s t0 hb ha h0 ht
    exact answers_with (resyncEnd_frame s) (execResyncEnd_ends hb ha h0 ht) rfl
  case joins =>
    intro s j hb ha ht hr hj
    exact answers_with (resyncEnd_frame s) (execResyncEnd_joins hb ha ht hr hj) rfl
  case endRests =>
    intro s h
    refine answers_with (resyncEnd_frame s) ?_ rfl
    rcases h with hb | h
    · exact if_pos (Bool.eq_false_iff.mp hb)
    · cases ha : s.isActive with
      | true => exact execResyncEnd_early ha (by simpa [ha] using h)
      | false =>
        rw [ha, if_neg Bool.false_ne_true, Bool.not_eq_true'] at h
        exact execResyncEnd_unknown ha h

end Sys2Proof.Machine
end

section
/-! The patrol scrub, the tier 0 writer and racking (R346, R350 to R353): one equation for each case of a command, and the
bytes that a series of writes to neighbouring places leaves. -/

namespace Sys2Proof.Machine

section archive

variable {s : State}

/-! ### The patrol scrub (R346) -/

theorem patrolScrub_frame (n : Nat) (l : List (Nat × BurstErr)) (s : State) :
    Answers { regs := true, dic := true, mg := true, mb := true, le := true, ca := true } s (exec (.patrolScrub n l) s) :=
  execPatrolScrub_answers n l (Frame.refl _ s) rfl rfl rfl rfl rfl rfl

theorem execPatrolScrub_off {n : Nat} {l : List (Nat × BurstErr)} (h : s.bit CA_CTRL_SCRUB_EN = false ∨
    s.ddrUp = false ∨ s.ca.selfRefresh = true ∨ s.sys.mode = .survival) : execPatrolScrub n l s = .next s :=
  if_neg (by rcases h with h | h | h | h <;> simp [h])

/-- The state with its pass begun. -/
def State.scrubBegun (s : State) : State := s.onCa fun y => { y with scrubAt := some (s.ca.scrubAt.getD s.time) }

/-- The pages read now, and behind the end of the pass those left over that the next one's pace has reached. -/
def State.scrubOn (s : State) (n m : Nat) (l : List (Nat × BurstErr)) : State :=
  if (s.scrubPart m l).rd CA_SCRUB_POS = 0 ∧ 0 < min (n - m) (s.scrubPart m l).scrubDue ∧
      min (n - m) (s.scrubPart m l).scrubDue < 2 ^ 27 then
    (s.scrubPart m l).scrubPart (min (n - m) (s.scrubPart m l).scrubDue) l
  else s.scrubPart m l

section running

variable (he : s.bit CA_CTRL_SCRUB_EN = true) (hd : s.ddrUp = true) (hr : s.ca.selfRefresh = false)
  (hm : s.sys.mode ≠ .survival)
include he hd hr hm

theorem execPatrolScrub_paced {n m : Nat} (l : List (Nat × BurstErr)) (h : m = min n (s.scrubDue - s.rd CA_SCRUB_POS)) :
    execPatrolScrub n l s = if m = 0 then .next s.scrubBegun else .next (s.scrubBegun.scrubOn n m l) := by
  subst h
  exact if_pos ⟨he, hd, Bool.eq_false_iff.mp hr, hm⟩

theorem execPatrolScrub_early {n : Nat} (l : List (Nat × BurstErr)) (h : n = 0 ∨ s.scrubDue ≤ s.rd CA_SCRUB_POS) :
    execPatrolScrub n l s = .next s.scrubBegun :=
  (execPatrolScrub_paced he hd hr hm l rfl).trans (if_pos (by omega))

theorem execPatrolScrub_reads {n m : Nat} (l : List (Nat × BurstErr))
    (h : m = min n (s.scrubDue - s.rd CA_SCRUB_POS)) (h0 : 0 < m) :
    execPatrolScrub n l s = .next (s.scrubBegun.scrubOn n m l) :=
  (execPatrolScrub_paced he hd hr hm l h).trans (if_neg h0.ne')

end running

theorem scrubPart_within {n : Nat} (h : s.rd CA_SCRUB_POS + n < 2 ^ 27) :
    s.scrubPart n [] = (s.wr CA_SCRUB_POS (s.rd CA_SCRUB_POS + n)).putBit CA_STATUS_SCRUB_ACTIVE true := if_pos h

/-- The end of a pass in the registers of position and passes. -/
def State.scrubCounted (s : State) : State :=
  (s.wr CA_SCRUB_POS 0).wr CA_SCRUB_PASSES (s.rd CA_SCRUB_PASSES + 1)

/-- The state at the end of a pass, before the pass is noted. -/
def State.scrubEnd (s : State) : State :=
  (s.scrubCounted.putBit CA_STATUS_SCRUB_ACTIVE false).onCa fun y => { y with
    scrubAt := some (s.scrubCounted.ca.scrubAt.getD s.scrubCounted.time + s.scrubCounted.scrubInterval) }

theorem scrubPart_ends {n : Nat} (h : s.rd CA_SCRUB_POS + n = 2 ^ 27) :
    s.scrubPart n [] = s.scrubEnd.note 13 .scrubPass 0 [] 450 := if_neg h.not_lt

theorem scrubCounted_interval : s.scrubCounted.scrubInterval = s.scrubInterval := by
  unfold State.scrubInterval State.scrubCounted
  rw [rd_wr_ne _ _ _ _ (by decide), rd_wr_ne _ _ _ _ (by decide)]

theorem scrubEnd_scrubAt :
    s.scrubEnd.ca.scrubAt = some (s.ca.scrubAt.getD s.time + s.scrubInterval) := by
  rw [← scrubCounted_interval]
  rfl

theorem scrubOn_within {n m : Nat} (hs : s.regsWf) (h0 : 0 < m) (h : s.rd CA_SCRUB_POS + m < 2 ^ 27) :
    (s.scrubOn n m []).rd CA_SCRUB_POS = s.rd CA_SCRUB_POS + m ∧
      s.scrubOn n m [] = (s.wr CA_SCRUB_POS (s.rd CA_SCRUB_POS + m)).putBit CA_STATUS_SCRUB_ACTIVE true := by
  have hp : (s.scrubPart m []).rd CA_SCRUB_POS = s.rd CA_SCRUB_POS + m := by
    rw [scrubPart_within h, rd_putBit_ne _ _ _ _ (by decide), rd_wr_same _ _ _ hs (by decide) (by decide)]
    exact Nat.mod_eq_of_lt h
  have he : s.scrubOn n m [] = s.scrubPart m [] := if_neg fun hz => by omega
  exact ⟨he ▸ hp, he.trans (scrubPart_within h)⟩

theorem scrubOn_all (l : List (Nat × BurstErr)) (n : Nat) : s.scrubOn n n l = s.scrubPart n l :=
  if_neg fun ⟨_, h0, _⟩ => by omega

theorem scrubCounted_reads (hs : s.regsWf) : s.scrubCounted.regsWf ∧ s.scrubCounted.rd CA_SCRUB_POS = 0 ∧
    s.scrubCounted.rd CA_SCRUB_PASSES = (s.rd CA_SCRUB_PASSES + 1) % 2 ^ 16 := by
  have hw := wr_regsWf s CA_SCRUB_POS 0 hs
  refine ⟨wr_regsWf _ _ _ hw, ?_, ?_⟩
  · exact (rd_wr_ne _ _ _ _ (by decide)).trans (rd_wr_same _ _ _ hs (by decide) (by decide))
  · exact rd_wr_same _ _ _ hw (by decide) (by decide)

/-- What the end of a pass leaves in its registers. -/
theorem scrubEnd_reads (hs : s.regsWf) : s.scrubEnd.rd CA_SCRUB_POS = 0 ∧
    s.scrubEnd.bit CA_STATUS_SCRUB_ACTIVE = false ∧
    s.scrubEnd.rd CA_SCRUB_PASSES = (s.rd CA_SCRUB_PASSES + 1) % 2 ^ 16 := by
  obtain ⟨hw, hpos, hpass⟩ := scrubCounted_reads hs
  unfold State.scrubEnd
  rw [onCa_rd, onCa_bit, onCa_rd]
  exact ⟨(rd_putBit_ne _ _ _ _ (by decide)).trans hpos, bit_putBit_same _ _ _ hw rfl (by decide),
    (rd_putBit_ne _ _ _ _ (by decide)).trans hpass⟩

theorem scrubEnd_regsBut : RegsBut (fun a => a = CA_SCRUB_POS.addr ∨ a = CA_SCRUB_PASSES.addr ∨
    a = CA_STATUS_SCRUB_ACTIVE.addr ∨ noteReg a) s s.scrubEnd := by
  unfold State.scrubEnd State.scrubCounted
  exact regsBut_onCa _ (regsBut_wr _ _ (regsBut_wr _ _ (regsBut_wr _ _ (RegsBut.refl _ s) (.inl rfl))
    (.inr (.inl rfl))) (.inr (.inr (.inl rfl))))

/-! ### Neighbouring writes -/

theorem length_leBytes (n v : Nat) : (leBytes n v).length = n := by
  induction n generalizing v with
  | zero => rfl
  | succ n ih => rw [leBytes, List.length_cons, ih]

theorem bytesAt_congr {t : State} {a n : Nat} (h : ∀ x, a ≤ x → x < a + n → t.byte x = s.byte x) :
    t.bytesAt a n = s.bytesAt a n := by
  rw [bytesAt_eq_map, bytesAt_eq_map]
  refine List.map_congr_left fun x hx => ?_
  rw [List.mem_range'_1] at hx
  exact h x hx.1 hx.2

/-- Of the DDR4, `t` holds the bytes `l` from `a` on and elsewhere those of `s`. -/
def State.Wrote (s t : State) (a : Nat) (l : List Byte) : Prop :=
  t.bytesAt a l.length = l ∧ ∀ x, ¬ (a ≤ x ∧ x < a + l.length) → t.byte x = s.byte x

theorem ddrWrite_wrote (h : Memory.wf s.mem) (a : Nat) (l : List Byte) : s.Wrote (s.ddrWrite a l) a l :=
  ⟨bytesAt_ddrWrite s a l h, fun _ => byte_ddrWrite_outside s a l⟩

theorem ddrWrite_memWf (h : Memory.wf s.mem) (a : Nat) (l : List Byte) : Memory.wf (s.ddrWrite a l).mem :=
  (ddrWrite_frame (P := { mem := true, ca := true }) a l (Frame.refl _ s) rfl rfl).memWf h

theorem ddrWrite_ended (a : Nat) (l : List Byte) : (s.ddrWrite a l).ca.ended = s.ca.ended :=
  show (s.setBytes a l).ca.ended = s.ca.ended from
    congrArg Ca.ended ((setBytes_frame (P := { mem := true }) a l (Frame.refl _ s) rfl).ca rfl)

/-- Of the DDR4, `t` holds `m` runs of `n` bytes from `a` on, the `k`th being `c k`, and elsewhere the bytes of `s`. -/
def State.WroteRuns (s t : State) (a n m : Nat) (c : Nat → List Byte) : Prop :=
  (∀ k, k < m → t.bytesAt (a + k * n) n = c k) ∧ ∀ x, ¬ (a ≤ x ∧ x < a + m * n) → t.byte x = s.byte x

/-- A run written behind others leaves them. -/
theorem wroteRuns_succ {t u : State} {a n m : Nat} {c : Nat → List Byte} (hc : (c m).length = n)
    (ht : s.WroteRuns t a n m c) (hu : t.Wrote u (a + m * n) (c m)) : s.WroteRuns u a n (m + 1) c := by
  obtain ⟨hin, hout⟩ := ht
  obtain ⟨hlast, hrest⟩ := hu
  rw [hc] at hlast hrest
  refine ⟨fun k hk => ?_, fun x hx => ?_⟩
  · rcases Nat.lt_succ_iff_lt_or_eq.mp hk with h | rfl
    · have hle : k * n + n ≤ m * n := Nat.succ_mul k n ▸ Nat.mul_le_mul_right n h
      exact (bytesAt_congr fun x _ hx => hrest x (by omega)).trans (hin k h)
    · exact hlast
  · rw [Nat.succ_mul] at hx
    exact (hrest x (by omega)).trans (hout x (by omega))

/-- A series of steps that each write one run, and keep what each of them needs. -/
theorem foldl_wroteRuns {Q : State → Prop} {f : State → Nat → State} {c : Nat → List Byte} {a n m : Nat}
    (hc : ∀ k, (c k).length = n) (hf : ∀ k, k < m → ∀ u, Q u → Q (f u k) ∧ u.Wrote (f u k) (a + k * n) (c k))
    (hs : Q s) : Q ((upto m).foldl f s) ∧ s.WroteRuns ((upto m).foldl f s) a n m c := by
  induction m with
  | zero => exact ⟨hs, fun k hk => absurd hk k.not_lt_zero, fun _ _ => rfl⟩
  | succ m ih =>
    obtain ⟨hq, hw⟩ := ih fun k hk => hf k (Nat.lt_succ_of_lt hk)
    obtain ⟨hq', hw'⟩ := hf m (Nat.lt_succ_self m) _ hq
    unfold upto
    rw [List.range_succ, List.foldl_append]
    exact ⟨hq', wroteRuns_succ (hc m) hw hw'⟩

/-- An entry written beyond the runs leaves them. -/
theorem wroteRuns_entry {t : State} {a n m b : Nat} {c : Nat → List Byte} {l : List Byte} (hw : s.WroteRuns t a n m c)
    (hm : Memory.wf t.mem) (hb : a + m * n ≤ b) :
    (t.ddrWrite b l).bytesAt b l.length = l ∧ (∀ k, k < m → (t.ddrWrite b l).bytesAt (a + k * n) n = c k) ∧
      ∀ x, ¬ (a ≤ x ∧ x < a + m * n) → ¬ (b ≤ x ∧ x < b + l.length) → (t.ddrWrite b l).byte x = s.byte x := by
  obtain ⟨hin, hout⟩ := hw
  refine ⟨bytesAt_ddrWrite t b l hm, fun k hk => ?_, fun x hx hl => ?_⟩
  · have hle : k * n + n ≤ m * n := Nat.succ_mul k n ▸ Nat.mul_le_mul_right n hk
    exact (bytesAt_congr fun x _ hx => byte_ddrWrite_outside t b l (by omega)).trans (hin k hk)
  · exact (byte_ddrWrite_outside t b l hl).trans (hout x hx)

/-! ### Tier 0 (R350 to R352) -/

theorem tier0BlockWrite_frame (s : State) :
    Answers { regs := true, mem := true, ca := true } s (exec .tier0BlockWrite s) :=
  execTier0BlockWrite_answers (Frame.refl _ s) rfl rfl rfl

theorem execTier0BlockWrite_rests (h : s.archives = false ∨ s.ca.ended = []) : execTier0BlockWrite s = .next s := by
  have hp : (if s.archives then s.ca.ended else []) = [] := by rcases h with h | h <;> simp [h]
  unfold execTier0BlockWrite
  rw [hp]

/-- The blocks of a period's context channels written. -/
def State.tier0Blocks (s : State) (p : CaPeriod) : State :=
  (upto 32768).foldl (fun (s : State) key => s.caWrite p key ((p.num % 21504 * 32768 + key) * 256)
    (!p.broken && s.bit (PB_STATUS_ADMITTED (key / 8)))) s

/-- The blocks and the index entry of a period's context channels written. -/
def State.tier0Context (s : State) (p : CaPeriod) : State :=
  (s.tier0Blocks p).ddrWrite (0x6E80000000 + 8 * (p.num % 21504)) (leBytes 8 p.time)

/-- The blocks and the index entry of a period's plant channels written. -/
def State.tier0Plant (s : State) (p : CaPeriod) : State :=
  ((upto 256).foldl (fun (s : State) n => s.caWrite p (32768 + n) (0x6200000000 + (p.num % 65536 * 256 + n) * 256)
    !p.broken) s).ddrWrite (0x6E80000000 + 0x100000 + 8 * (p.num % 65536)) (leBytes 8 p.time)

/-- The period that is written leaves those that wait. -/
def State.endedTo (s : State) (r : List CaPeriod) : State := s.onCa fun y => { y with ended := r }

theorem execTier0BlockWrite_writes {p : CaPeriod} {r : List CaPeriod} (ha : s.archives = true) (h : s.ca.ended = p :: r) :
    execTier0BlockWrite s =
      if ((s.endedTo r).tier0Context p).bit CA_CTRL_PLANT_EN then .next (((s.endedTo r).tier0Context p).tier0Plant p)
      else .next ((s.endedTo r).tier0Context p) := by
  have hp : (if s.archives then s.ca.ended else []) = p :: r := (if_pos ha).trans h
  unfold execTier0BlockWrite
  rw [hp]
  rfl

/-- A block as it is coded, or zeros. -/
def CaPeriod.block (p : CaPeriod) (key : Nat) (valid : Bool) : List Byte :=
  if valid then (caBlock key true (p.decim.contains (key / 8)) p.frame (p.channel key)).1 else zeros 256

theorem length_block (p : CaPeriod) (key : Nat) (valid : Bool) : (p.block key valid).length = 256 := by
  cases valid with
  | false => exact List.length_replicate
  | true => simp [CaPeriod.block, caBlock, length_leBytes]

/-- What the writing of a period's context blocks keeps: the waiting periods, and the registers but CA_QUANT_BLOCKS. -/
def Tier0Keeps (s u : State) : Prop :=
  RegsBut (· = CA_QUANT_BLOCKS.addr) s u ∧ Memory.wf u.mem ∧ u.ca.ended = s.ca.ended

theorem ddrWrite_keeps {u : State} (h : Tier0Keeps s u) (a : Nat) (l : List Byte) : Tier0Keeps s (u.ddrWrite a l) := by
  obtain ⟨hregs, hmem, hended⟩ := h
  exact ⟨regsBut_same hregs (ddrWrite_regs u a l), ddrWrite_memWf hmem a l, (ddrWrite_ended a l).trans hended⟩

theorem caWrite_valid (p : CaPeriod) (key a : Nat) : ∃ n, s.caWrite p key a true =
    (s.ddrWrite a (p.block key true)).addSat CA_QUANT_BLOCKS n := ⟨_, rfl⟩

theorem caWrite_regsBut {u : State} (h : RegsBut (· = CA_QUANT_BLOCKS.addr) s u) (p : CaPeriod) (key a : Nat)
    (valid : Bool) : RegsBut (· = CA_QUANT_BLOCKS.addr) s (u.caWrite p key a valid) := by
  have hd (l : List Byte) := regsBut_same h (ddrWrite_regs u a l)
  cases valid with
  | false => exact hd _
  | true =>
    obtain ⟨n, hn⟩ := caWrite_valid (s := u) p key a
    rw [hn]
    exact regsBut_addSat _ n (hd _) rfl

theorem caWrite_keeps {u : State} (h : Tier0Keeps s u) (p : CaPeriod) (key a : Nat) (valid : Bool) :
    Tier0Keeps s (u.caWrite p key a valid) := by
  refine ⟨caWrite_regsBut h.1 p key a valid, ?_⟩
  cases valid with
  | false => exact (ddrWrite_keeps h a _).2
  | true =>
    obtain ⟨n, hn⟩ := caWrite_valid (s := u) p key a
    rw [hn]
    exact (ddrWrite_keeps h a (p.block key true)).2

theorem wrote_addSat {t : State} {a : Nat} {l : List Byte} (h : s.Wrote t a l) (f : RF) (n : Nat) :
    s.Wrote (t.addSat f n) a l :=
  ⟨(bytesAt_congr (s := t) (t := t.addSat f n) fun _ _ _ => rfl).trans h.1, h.2⟩

theorem caWrite_wrote (h : Memory.wf s.mem) (p : CaPeriod) (key a : Nat) (valid : Bool) :
    s.Wrote (s.caWrite p key a valid) a (p.block key valid) := by
  cases valid with
  | false => exact ddrWrite_wrote h a _
  | true =>
    obtain ⟨n, hn⟩ := caWrite_valid (s := s) p key a
    rw [hn]
    exact wrote_addSat (ddrWrite_wrote h a _) _ n

theorem tier0Blocks_writes (p : CaPeriod) (h : Memory.wf s.mem) : Tier0Keeps s (s.tier0Blocks p) ∧
    s.WroteRuns (s.tier0Blocks p) (p.num % 21504 * 0x800000) 256 32768 fun key =>
      p.block key (!p.broken && s.bit (PB_STATUS_ADMITTED (key / 8))) := by
  refine foldl_wroteRuns (fun key => length_block p key _) (fun key hk u hu => ⟨caWrite_keeps hu p key _ _, ?_⟩)
    ⟨RegsBut.refl _ s, h, rfl⟩
  obtain ⟨hregs, hmem, -⟩ := hu
  have hbit : u.bit (PB_STATUS_ADMITTED (key / 8)) = s.bit (PB_STATUS_ADMITTED (key / 8)) :=
    hregs.bit _ (by simp only [PB_STATUS_ADMITTED, CA_QUANT_BLOCKS]; omega)
  have ha : (p.num % 21504 * 32768 + key) * 256 = p.num % 21504 * 0x800000 + key * 256 := by omega
  rw [hbit, ha]
  exact caWrite_wrote hmem p key _ _

theorem tier0Context_ended (p : CaPeriod) (h : Memory.wf s.mem) : (s.tier0Context p).ca.ended = s.ca.ended :=
  (ddrWrite_keeps (tier0Blocks_writes p h).1 _ _).2.2

theorem tier0Context_regsBut (p : CaPeriod) : RegsBut (· = CA_QUANT_BLOCKS.addr) s (s.tier0Context p) :=
  regsBut_same (regsBut_foldl (fun _ key _ hu => caWrite_regsBut hu p key _ _) (RegsBut.refl _ s)) (ddrWrite_regs _ _ _)

theorem tier0Context_plantEn (p : CaPeriod) (r : List CaPeriod) :
    ((s.endedTo r).tier0Context p).bit CA_CTRL_PLANT_EN = s.bit CA_CTRL_PLANT_EN :=
  (tier0Context_regsBut p).bit _ (by decide)

theorem execTier0BlockWrite_context {p : CaPeriod} {r : List CaPeriod} (ha : s.archives = true)
    (h : s.ca.ended = p :: r) (hp : s.bit CA_CTRL_PLANT_EN = false) :
    execTier0BlockWrite s = .next ((s.endedTo r).tier0Context p) := by
  rw [execTier0BlockWrite_writes ha h, tier0Context_plantEn, hp]
  exact if_neg Bool.false_ne_true

theorem execTier0BlockWrite_plant {p : CaPeriod} {r : List CaPeriod} (ha : s.archives = true)
    (h : s.ca.ended = p :: r) (hp : s.bit CA_CTRL_PLANT_EN = true) :
    execTier0BlockWrite s = .next (((s.endedTo r).tier0Context p).tier0Plant p) := by
  rw [execTier0BlockWrite_writes ha h, tier0Context_plantEn, hp]
  exact if_pos rfl

/-! ### Tier 1 (R353) -/

theorem racking_frame (s : State) : Answers { mem := true, ca := true } s (exec .racking s) :=
  execRacking_answers (Frame.refl _ s) rfl rfl

theorem execRacking_rests (h : s.archives = false ∨ s.rackLimit ≤ s.ca.second) : execRacking s = .next s :=
  if_neg (by rcases h with h | h <;> simp [h])

/-- The entries of the seconds up to the limit written, and their accumulators dropped. -/
def State.racked (s : State) : State :=
  ((upto (s.rackLimit - s.ca.second)).foldl (fun t k => t.rackSecond (s.ca.second + k)) s).onCa fun y =>
    { y with second := s.rackLimit, accs := y.accs.filter fun q => decide (s.rackLimit ≤ q.1) }

theorem execRacking_writes (ha : s.archives = true) (h : s.ca.second < s.rackLimit) : execRacking s = .next s.racked :=
  if_pos ⟨ha, h⟩

theorem length_caEntry (t : Table CaAcc) (key : Nat) : (caEntry t key).length = 6 := by
  unfold caEntry
  split <;> simp [length_leBytes]

/-- The entries of a second's context channels written. -/
def State.rackEntries (s : State) (sec : Nat) : State :=
  (upto 32768).foldl (fun (t : State) k => t.ddrWrite (0x2A00000000 + (sec % 1223338 * 32768 + k) * 6)
    (caEntry (tget [] s.ca.accs sec) k)) s

theorem rackEntries_writes (sec : Nat) (h : Memory.wf s.mem) :
    ((s.rackEntries sec).regs = s.regs ∧ Memory.wf (s.rackEntries sec).mem) ∧
      s.WroteRuns (s.rackEntries sec) (0x2A00000000 + sec % 1223338 * 196608) 6 32768
        (caEntry (tget [] s.ca.accs sec)) := by
  refine foldl_wroteRuns (Q := fun u => u.regs = s.regs ∧ Memory.wf u.mem) (length_caEntry _)
    (fun k _ u ⟨hregs, hmem⟩ => ⟨⟨(ddrWrite_regs u _ _).trans hregs, ddrWrite_memWf hmem _ _⟩, ?_⟩) ⟨rfl, h⟩
  have ha : 0x2A00000000 + (sec % 1223338 * 32768 + k) * 6 = 0x2A00000000 + sec % 1223338 * 196608 + k * 6 := by omega
  rw [ha]
  exact ddrWrite_wrote hmem _ _

theorem rackSecond_context {sec : Nat} (h : Memory.wf s.mem) (hp : s.bit CA_CTRL_PLANT_EN = false) :
    s.rackSecond sec =
      (s.rackEntries sec).ddrWrite (0x6E80000000 + 0x200000 + 8 * (sec % 1223338)) (leBytes 8 (secs sec)) := by
  obtain ⟨⟨hregs, -⟩, -⟩ := rackEntries_writes sec h
  refine if_neg (Bool.eq_false_iff.mp ?_)
  exact (bit_congr ((ddrWrite_regs _ _ _).trans hregs) _).trans hp

theorem racked_one (h : s.rackLimit = s.ca.second + 1) : s.racked = (s.rackSecond s.ca.second).onCa fun y =>
    { y with second := s.ca.second + 1, accs := y.accs.filter fun q => decide (s.ca.second + 1 ≤ q.1) } := by
  unfold State.racked
  rw [h, Nat.add_sub_cancel_left]
  rfl

end archive

/-- Settles O45: the bytes of an archive record are those of a series of neighbouring writes, each of its own run, and an
index entry beyond them. -/
theorem scrubAndArchives : Obligations.ScrubAndArchives := by
  unfold Obligations.ScrubAndArchives
  refine ⟨?off, ?early, ?within, ?ends, ?reads, ?tier0Rests, ?tier0, ?tier0Plant, ?rackRests, ?racks, ?rackOne⟩
  case off =>
    intro s n l h
    exact answers_with (patrolScrub_frame n l s) (execPatrolScrub_off h) rfl
  case early =>
    intro s n l he hd hr hm h
    exact answers_with (patrolScrub_frame n l s) (execPatrolScrub_early he hd hr hm l h) rfl
  case within =>
    intro s n m hs he hd hr hm h h0 hp
    obtain ⟨hpos, heq⟩ := scrubOn_within (s := s.scrubBegun) (n := n) hs.regs h0 hp
    refine answers_with (patrolScrub_frame n [] s) (execPatrolScrub_reads he hd hr hm [] h h0) ⟨hpos, ?_⟩
    rw [heq]
    exact ⟨bit_putBit_same _ _ _ (wr_regsWf _ _ _ hs.regs) rfl (by decide), rfl,
      regsBut_wr _ _ (regsBut_wr _ _ (RegsBut.refl _ s) (.inl rfl)) (.inr rfl)⟩
  case ends =>
    intro s n q hs he hd hr hm hq h h0 hp
    have hn : n = min n (s.scrubDue - s.rd CA_SCRUB_POS) := by omega
    refine answers_with (patrolScrub_frame n [] s) ((execPatrolScrub_reads he hd hr hm [] hn h0).trans
      (congrArg _ ((scrubOn_all [] n).trans (scrubPart_ends hp)))) ?_
    have hnote := note_regsBut s.scrubBegun.scrubEnd 13 .scrubPass 0 [] (src := 450) (by decide)
    obtain ⟨hpos, hact, hpass⟩ := scrubEnd_reads (s := s.scrubBegun) hs.regs
    refine ⟨(hnote.rd _ (not_noteReg_of_range (by decide) (by decide))).trans hpos,
      (hnote.bit _ (not_noteReg_of_range (by decide) (by decide))).trans hact,
      (hnote.rd _ (not_noteReg_of_range (by decide) (by decide))).trans hpass, ?_,
      regsBut_note (fun _ ha => .inr (.inr (.inr ha))) _ _ _ _ _ (by decide) scrubEnd_regsBut⟩
    rw [(note_frame (P := { regs := true, dic := true, mg := true, le := true }) 13 .scrubPass 0 [] 450
      (Frame.refl _ s.scrubBegun.scrubEnd) rfl rfl rfl rfl).ca rfl, scrubEnd_scrubAt, hq]
    rfl
  case reads =>
    intro s n m l he hd hr hm h h0
    exact answers_with (patrolScrub_frame n l s) (execPatrolScrub_reads he hd hr hm l h h0)
      ⟨s.scrubBegun, _, _, rfl, rfl, rfl, rfl⟩
  case tier0Rests =>
    intro s h
    exact answers_with (tier0BlockWrite_frame s) (execTier0BlockWrite_rests h) rfl
  case tier0 =>
    intro s p r hs ha h hp
    obtain ⟨⟨-, hmem, -⟩, hruns⟩ := tier0Blocks_writes (s := s.endedTo r) p hs.mem
    obtain ⟨hentry, hblocks, hrest⟩ := wroteRuns_entry (b := 0x6E80000000 + 8 * (p.num % 21504))
      (l := leBytes 8 p.time) hruns hmem (by omega)
    rw [length_leBytes] at hentry hrest
    refine answers_with (tier0BlockWrite_frame s) (execTier0BlockWrite_context ha h hp)
      ⟨tier0Context_ended (s := s.endedTo r) p hs.mem, tier0Context_regsBut (s := s.endedTo r) p, hentry, fun key hk => ?_, fun x hx hl => hrest x (by omega) hl⟩
    have haddr : (p.num % 21504 * 32768 + key) * 256 = p.num % 21504 * 0x800000 + key * 256 := by omega
    rw [haddr]
    refine (hblocks key hk).trans ?_
    simp only [CaPeriod.block, Bool.and_eq_true, Bool.not_eq_true']
    rfl
  case tier0Plant =>
    intro s p r ha h hp
    exact answers_with (tier0BlockWrite_frame s) (execTier0BlockWrite_plant ha h hp)
      ⟨(s.endedTo r).tier0Blocks p, (s.endedTo r).tier0Context p, _, rfl, rfl, rfl, rfl⟩
  case rackRests =>
    intro s h
    exact answers_with (racking_frame s) (execRacking_rests h) rfl
  case racks =>
    intro s n ha hn h
    subst hn
    exact answers_with (racking_frame s) (execRacking_writes ha h) ⟨_, rfl, rfl⟩
  case rackOne =>
    intro s a hs ha hl hp hm
    subst hm
    obtain ⟨⟨hregs, hmem⟩, hruns⟩ := rackEntries_writes s.ca.second hs.mem
    obtain ⟨hentry, hbytes, hrest⟩ := wroteRuns_entry (b := 0x6E80000000 + 0x200000 + 8 * (s.ca.second % 1223338))
      (l := leBytes 8 (secs s.ca.second)) hruns hmem (by omega)
    rw [← rackSecond_context hs.mem hp] at hentry hbytes hrest
    rw [length_leBytes] at hentry hrest
    refine answers_with (racking_frame s)
      ((execRacking_writes ha (by omega)).trans (congrArg _ (racked_one hl))) ⟨rfl, ?_, fun k hk => ?_, hentry, ?_⟩
    · rw [onCa_regs, rackSecond_context hs.mem hp, ddrWrite_regs, hregs]
    · have haddr : 0x2A00000000 + (s.ca.second % 1223338 * 32768 + k) * 6 =
        0x2A00000000 + s.ca.second % 1223338 * 196608 + k * 6 := by omega
      rw [haddr]
      exact hbytes k hk
    · exact fun x hx hl => hrest x (by omega) hl

end Sys2Proof.Machine
end

section
/-! The frames, buffers, locks and recovery of a field bus channel (R274 to R281, R287, R288): one equation for each case
of a command. -/

namespace Sys2Proof.Machine

section fieldBus

variable {s : State} {n : Fin 4} {m : Fin 64}

/-- A one-bit field, given by its place, reads back what was put into it. -/
theorem bit_putBit_at (s : State) (a k : Nat) (b : Bool) (h : s.regsWf) (hk : k < 32) :
    (s.putBit ⟨a, k, k⟩ b).bit ⟨a, k, k⟩ = b := bit_putBit_same s _ b h rfl hk

/-! ### Frames received (R278, R280, R288) -/

/-- The parts that a received frame may touch. -/
abbrev rxParts : Parts :=
  { Parts.full with time := false, mem := false, mb := false, pb := false, sv := false, sn := false, tr := false, ca := false }

theorem canFrameReceive_frame (n : Fin 4) (f : CanFrame) (e : RxEvents) (sof : Nat) (s : State) :
    Answers rxParts s (exec (.canFrameReceive n f e sof) s) :=
  execCanFrameReceive_answers n f e sof (Frame.refl _ s) rfl rfl rfl rfl rfl rfl rfl rfl rfl rfl

theorem execCanFrameReceive_rests (f : CanFrame) (e : RxEvents) (sof : Nat)
    (h : s.bit (FB_CTRL_INIT n) = true ∨ s.rd (FB_STAT_FCS n) = 2) : execCanFrameReceive n f e sof s = .next s := if_pos h

/-- The state after a frame has fed the error counters. -/
def State.rxCounted (s : State) (n : Nat) (e : RxEvents) : State := (s.rxErrors n e).fcsUpdate n

/-- A frame that has fed the counters, handled and forwarded but in bus monitoring. -/
def State.rxHandled (s : State) (n : Nat) (f : CanFrame) (sof : Nat) : State :=
  if s.bit (FB_CTRL_MONITOR n) then s else (s.rxFrame n f sof).forward 4 0 (linkCan n f sof)

section counted

variable {e : RxEvents} (hi : s.bit (FB_CTRL_INIT n) = false) (hf : s.rd (FB_STAT_FCS n) ≠ 2)
include hi hf

theorem execCanFrameReceive_counts (f : CanFrame) (sof : Nat) : execCanFrameReceive n f e sof s =
    if ¬ e.ok ∨ (s.rxCounted n e).bit (FB_CTRL_MONITOR n) then .next (s.rxCounted n e)
    else .next (((s.rxCounted n e).rxFrame n f sof).forward 4 0 (linkCan n f sof)) :=
  if_neg fun h => h.elim (Bool.eq_false_iff.mp hi) hf

theorem execCanFrameReceive_errored (f : CanFrame) (sof : Nat) (he : e.ok = false) :
    execCanFrameReceive n f e sof s = .next (s.rxCounted n e) :=
  (execCanFrameReceive_counts hi hf f sof).trans (if_pos (.inl (Bool.eq_false_iff.mp he)))

theorem execCanFrameReceive_good (f : CanFrame) (sof : Nat) (he : e.ok = true) :
    execCanFrameReceive n f e sof s = .next ((s.rxCounted n e).rxHandled n f sof) := by
  rw [execCanFrameReceive_counts hi hf f sof, State.rxHandled]
  by_cases hm : (s.rxCounted n e).bit (FB_CTRL_MONITOR n) = true
  · rw [if_pos (.inr hm), if_pos hm]
  · rw [if_neg (fun h => h.elim (fun h => h he) hm), if_neg hm]

end counted

theorem rxErrors_errored {e : RxEvents} (he : e.ok = false) : s.rxErrors n e =
    s.wr (FB_STAT_REC n) (min 255 (s.rd (FB_STAT_REC n) + b2n e.one + 8 * e.eights)) := by
  simp [State.rxErrors, he]

theorem rxErrors_low {e : RxEvents} (he : e.ok = true) (h : s.rd (FB_STAT_REC n) ≤ 127) : s.rxErrors n e =
    s.wr (FB_STAT_REC n) (min 255 (s.rd (FB_STAT_REC n) - 1 + 8 * e.eights)) := by
  simp [State.rxErrors, he, h.not_gt]

theorem rxErrors_high {e : RxEvents} (he : e.ok = true) (h : 127 < s.rd (FB_STAT_REC n)) : s.rxErrors n e =
    (s.wr (FB_STAT_REC n) (min 255 (119 + s.freeNat % 9 + 8 * e.eights))).drew := by
  simp [State.rxErrors, he, h]

/-! ### Attempts (R279, R280, R282) -/

theorem canTxStart_frame (n : Fin 4) (s : State) : Answers { regs := true, fb := true } s (exec (.canTxStart n) s) :=
  execCanTxStart_answers n (Frame.refl _ s) rfl rfl

theorem execCanTxStart_starts {x : FbSrc} {e : Bool} (h : s.txChoice n = some (x, e)) :
    execCanTxStart n s = .next (s.txBegin n x e) := by
  unfold execCanTxStart
  rw [h]

theorem execCanTxStart_rests (h : s.txChoice n = none) : execCanTxStart n s = .next s := by
  unfold execCanTxStart
  rw [h]

theorem canTxComplete_frame (n : Fin 4) (ok : Bool) (e : TxEvents) (s : State) :
    Answers { regs := true, dic := true, mg := true, le := true, fb := true, tw := true } s
      (exec (.canTxComplete n ok e) s) :=
  execCanTxComplete_answers n ok e (Frame.refl _ s) rfl rfl rfl rfl rfl rfl

/-- The channel with no attempt under way, suspended until a time. -/
def State.attemptOver (s : State) (n susp : Nat) : State := s.setFbCh n { s.fbCh n with cur := none, suspEnd := susp }

/-- The end of the suspend time after an attempt (R280). -/
def State.suspended (s : State) (n : Nat) (ok : Bool) (e : TxEvents) : Nat :=
  if s.rd (FB_STAT_FCS n) = 1 ∧ (ok ∨ ¬ e.lost) then s.time + (8 * s.nominalBit n + 3) / 4 else 0

/-- A good attempt ends the run of acknowledge errors. -/
def State.ackClear (s : State) (n : Nat) (ok : Bool) : State :=
  if ok then (s.wr (FB_STAT_ACK_RUN n) 0).putBit (FB_STAT_ALONE n) false else s

/-- The state after an attempt has fed the error counters. -/
def State.txCounted (s : State) (n : Nat) (ok : Bool) (e : TxEvents) : State :=
  (((s.attemptOver n (s.suspended n ok e)).txErrors n ok e).ackClear n ok).fcsUpdate n

theorem execCanTxComplete_ends {x : FbSrc} (ok : Bool) (e : TxEvents) (h : (s.fbCh n).cur = some x) :
    execCanTxComplete n ok e s = .next ((s.txCounted n ok e).srcDone n x ok e) := by
  unfold execCanTxComplete
  rw [h]
  rfl

theorem execCanTxComplete_rests (ok : Bool) (e : TxEvents) (h : (s.fbCh n).cur = none) :
    execCanTxComplete n ok e s = .next s := by
  unfold execCanTxComplete
  rw [h]

theorem suspended_good (e : TxEvents) : s.suspended n true e =
    if s.rd (FB_STAT_FCS n) = 1 then s.time + (8 * s.nominalBit n + 3) / 4 else 0 := by simp [State.suspended]

theorem suspended_bad (e : TxEvents) : s.suspended n false e =
    if s.rd (FB_STAT_FCS n) = 1 ∧ e.lost = false then s.time + (8 * s.nominalBit n + 3) / 4 else 0 := by
  simp [State.suspended]

theorem txErrors_good (e : TxEvents) : s.txErrors n true e =
    s.wr (FB_STAT_TEC n) (min 511 (s.rd (FB_STAT_TEC n) - 1 + 8 * e.eights)) := rfl

theorem txErrors_bad (e : TxEvents) : s.txErrors n false e =
    s.wr (FB_STAT_TEC n) (min 511 (s.rd (FB_STAT_TEC n) + (if e.stuff = true ∨ e.lost = true ∨
      (e.ack = true ∧ s.rd (FB_STAT_FCS n) = 1 ∧ e.dominant = false) then 0 else 8) + 8 * e.eights)) := by
  have hc : ((e.ack && s.rd (FB_STAT_FCS n) == 1 && !e.dominant) || e.stuff || e.lost) = true ↔
      e.stuff = true ∨ e.lost = true ∨ (e.ack = true ∧ s.rd (FB_STAT_FCS n) = 1 ∧ e.dominant = false) := by
    simp only [Bool.or_eq_true, Bool.and_eq_true, beq_iff_eq, Bool.not_eq_true']
    tauto
  simp only [State.txErrors, hc, Bool.false_eq_true, if_false]
  split <;> rfl

theorem attemptOver_rd (susp : Nat) (f : RF) : (s.attemptOver n susp).rd f = s.rd f := rfl

theorem txCounted_good (e : TxEvents) : s.txCounted n true e = ((((s.attemptOver n (if s.rd (FB_STAT_FCS n) = 1 then
      s.time + (8 * s.nominalBit n + 3) / 4 else 0)).wr (FB_STAT_TEC n)
        (min 511 (s.rd (FB_STAT_TEC n) - 1 + 8 * e.eights))).wr (FB_STAT_ACK_RUN n) 0).putBit
          (FB_STAT_ALONE n) false).fcsUpdate n := by
  unfold State.txCounted
  rw [suspended_good, txErrors_good, attemptOver_rd]
  rfl

theorem txCounted_bad (e : TxEvents) : s.txCounted n false e =
    ((s.attemptOver n (if s.rd (FB_STAT_FCS n) = 1 ∧ e.lost = false then
      s.time + (8 * s.nominalBit n + 3) / 4 else 0)).wr (FB_STAT_TEC n)
        (min 511 (s.rd (FB_STAT_TEC n) + (if e.stuff = true ∨ e.lost = true ∨
          (e.ack = true ∧ s.rd (FB_STAT_FCS n) = 1 ∧ e.dominant = false) then 0 else 8) + 8 * e.eights))).fcsUpdate n := by
  unfold State.txCounted
  rw [suspended_bad, txErrors_bad, attemptOver_rd, attemptOver_rd]
  rfl

theorem srcDone_bufGood (k : Nat) (e : TxEvents) :
    s.srcDone n (.buf k) true e = (s.mbDone n k true e).forwardTx n k := by
  simp [State.srcDone]

theorem srcDone_bufBusOff (k : Nat) (e : TxEvents) (h : s.rd (FB_STAT_FCS n) = 2) :
    s.srcDone n (.buf k) false e = (s.mbBusOff n k).forwardTx n k := by
  simp [State.srcDone, h]

theorem srcDone_bufError (k : Nat) (e : TxEvents) (h : s.rd (FB_STAT_FCS n) ≠ 2) :
    s.srcDone n (.buf k) false e = (s.mbError n k e).forwardTx n k := by
  simp [State.srcDone, State.mbDone, h]

theorem srcDone_mirror (i : Nat) (ok : Bool) (e : TxEvents) : s.srcDone n (.mirror i) ok e = s.mirrorDone n i ok e.lost := rfl

theorem srcDone_fw (ok : Bool) (e : TxEvents) : s.srcDone n .fw ok e = s.fwDone n ok := rfl

theorem srcDone_refGood (q sof : Nat) (e : TxEvents) : s.srcDone n (.ref q sof) true e = s.refDone n q sof := rfl

theorem srcDone_refBad (q sof : Nat) (e : TxEvents) : s.srcDone n (.ref q sof) false e = s.refMissed n q := rfl

/-! ### Recovery and requests (R279, R280) -/

theorem canRecoveryDone_frame (n : Fin 4) (s : State) :
    Answers { regs := true, dic := true, mg := true, le := true, fb := true } s (exec (.canRecoveryDone n) s) :=
  execCanRecoveryDone_answers n (Frame.refl _ s) rfl rfl rfl rfl rfl

/-- The counters and the marks of copied frames cleared. -/
def State.recoverCleared (s : State) (n : Nat) : State :=
  (upto 64).foldl (fun s m => s.setFbBuf n m { s.fbBuf n m with copied := false })
    (((s.putBit (FB_STAT_RECOVERING n) false).wr (FB_STAT_TEC n) 0).wr (FB_STAT_REC n) 0)

theorem execCanRecoveryDone_recovers (h : s.bit (FB_STAT_RECOVERING n) = true) : execCanRecoveryDone n s =
    .next (((s.recoverCleared n).setFbCh n { (s.recoverCleared n).fbCh n with unseen := [], seen := 0 }).fcsChange n 0) :=
  if_pos h

theorem execCanRecoveryDone_rests (h : s.bit (FB_STAT_RECOVERING n) = false) : execCanRecoveryDone n s = .next s :=
  if_neg (Bool.eq_false_iff.mp h)

theorem fbRecoverWrite_frame (n : Fin 4) (s : State) : Answers { regs := true } s (exec (.fbRecoverWrite n) s) :=
  execFbRecoverWrite_answers n (Frame.refl _ s) rfl

theorem execFbRecoverWrite_recovers (h : s.rd (FB_STAT_FCS n) = 2) :
    execFbRecoverWrite n s = .next (s.putBit (FB_STAT_RECOVERING n) true) := congrArg _ (if_pos h)

theorem execFbRecoverWrite_rests (h : s.rd (FB_STAT_FCS n) ≠ 2) : execFbRecoverWrite n s = .next s :=
  congrArg _ (if_neg h)

theorem fbReqWrite_frame (n : Fin 4) (m : Fin 64) (s : State) :
    Answers { regs := true, fb := true } s (exec (.fbReqWrite n m) s) :=
  execFbReqWrite_answers n m (Frame.refl _ s) rfl rfl

theorem fbAbortWrite_frame (n : Fin 4) (m : Fin 64) (s : State) :
    Answers { regs := true, fb := true } s (exec (.fbAbortWrite n m) s) :=
  execFbAbortWrite_answers n m (Frame.refl _ s) rfl rfl

/-- A pending buffer withdrawn. -/
def State.mbWithdrawn (s : State) (n m : Nat) : State :=
  (s.wr (FB_MBSTAT_STATE n m) 0).setFbBuf n m { s.fbBuf n m with copy := none, missed := false }

theorem mbWithdrawn_state (h : s.regsWf) : (s.mbWithdrawn n m).rd (FB_MBSTAT_STATE n m) = 0 := by
  unfold State.mbWithdrawn State.setFbBuf
  rw [onFb_rd, rd_wr_same s _ 0 h (by simp [FB_MBSTAT_STATE]) (by simp [FB_MBSTAT_STATE]), Nat.zero_mod]

theorem mbWithdrawn_regsBut : RegsBut (· = (FB_MBSTAT_STATE n m).addr) s (s.mbWithdrawn n m) := by
  unfold State.mbWithdrawn State.setFbBuf
  exact regsBut_onFb _ (regsBut_wr _ _ (RegsBut.refl _ s) rfl)

theorem execFbAbortWrite_pending (h : s.rd (FB_MBSTAT_STATE n m) = 1) :
    execFbAbortWrite n m s = .next (s.mbWithdrawn n m) := by
  unfold execFbAbortWrite
  rw [h]
  rfl

theorem execFbAbortWrite_sending (h : s.rd (FB_MBSTAT_STATE n m) = 2) :
    execFbAbortWrite n m s = .next (s.setFbBuf n m { s.fbBuf n m with ending := true }) := by
  unfold execFbAbortWrite
  rw [h]
  rfl

theorem execFbAbortWrite_rests (h1 : s.rd (FB_MBSTAT_STATE n m) ≠ 1) (h2 : s.rd (FB_MBSTAT_STATE n m) ≠ 2) :
    execFbAbortWrite n m s = .next s := by
  unfold execFbAbortWrite
  split
  · exact absurd ‹_› h1
  · exact absurd ‹_› h2
  · rfl

theorem fbInitClear_frame (n : Fin 4) (s : State) : Answers { regs := true, mg := true } s (exec (.fbInitClear n) s) :=
  execFbInitClear_answers n (Frame.refl _ s) rfl rfl

theorem execFbInitClear_eq (n : Fin 4) (s : State) : execFbInitClear n s = .next (s.initClear n) := rfl

theorem initClear_leaves (hi : s.bit (FB_CTRL_INIT n) = true)
    (h : s.bit (FB_CTRL_TT_EN n) = false ∨ s.schedOk n = true) :
    s.initClear n = (s.putBit (FB_STAT_SCHED_BAD n) false).putBit (FB_CTRL_INIT n) false :=
  (if_pos hi).trans (if_neg (by rcases h with h | h <;> simp [h]))

theorem initClear_stays (hi : s.bit (FB_CTRL_INIT n) = true) (ht : s.bit (FB_CTRL_TT_EN n) = true)
    (h : s.schedOk n = false) : s.initClear n = (s.putBit (FB_STAT_SCHED_BAD n) true).log 10 .schedBad 1 [n] :=
  (if_pos hi).trans (if_pos (by simp [ht, h]))

theorem initClear_out (h : s.bit (FB_CTRL_INIT n) = false) : s.initClear n = s := if_neg (Bool.eq_false_iff.mp h)

theorem init_ne_stat (n : Fin 4) : (FB_CTRL_INIT n).addr ≠ (FB_STAT_SCHED_BAD n).addr := by
  simp only [FB_CTRL_INIT, FB_STAT_SCHED_BAD]
  omega

/-! ### Buffer locks (R277) -/

theorem mbLockRead_frame (n : Fin 4) (m : Fin 64) (s : State) :
    Answers { regs := true, mb := true, fb := true } s (exec (.mbLockRead n m) s) :=
  execMbLockRead_answers n m (Frame.refl _ s) rfl rfl rfl

theorem execMbLockRead_eq (n : Fin 4) (m : Fin 64) (s : State) :
    execMbLockRead n m s = .next ((s.mbLock n m).reply { body := leBytes 4 (s.rd (FB_MBDATA n m 0)) }) := rfl

theorem mbReleaseRead_frame (n : Fin 4) (m : Fin 64) (s : State) :
    Answers { regs := true, mb := true, fb := true } s (exec (.mbReleaseRead n m) s) :=
  execMbReleaseRead_answers n m (Frame.refl _ s) rfl rfl rfl

theorem execMbReleaseRead_eq (n : Fin 4) (m : Fin 64) (s : State) :
    execMbReleaseRead n m s = .next ((s.mbUnlock n m).reply { body := leBytes 4 (s.rd (FB_MBDATA n m 17)) }) := rfl

theorem mbLock_locks (h : s.regsWf) : (s.mbLock n m).bit (FB_MBSTAT_LOCKED n m) = true ∧
    RegsBut (· = (FB_MBSTAT_LOCKED n m).addr) s (s.mbLock n m) := by
  unfold State.mbLock State.setFbBuf
  rw [onFb_bit]
  exact ⟨bit_putBit_at s _ 28 true h (by decide), regsBut_onFb _ (regsBut_wr _ _ (RegsBut.refl _ s) rfl)⟩

theorem mbUnlock_releases (h : s.regsWf) : (s.mbUnlock n m).bit (FB_MBSTAT_LOCKED n m) = false ∧
    RegsBut (· = (FB_MBSTAT_LOCKED n m).addr) s (s.mbUnlock n m) := by
  unfold State.mbUnlock State.setFbBuf
  rw [onFb_bit]
  exact ⟨bit_putBit_at s _ 28 false h (by decide), regsBut_onFb _ (regsBut_wr _ _ (RegsBut.refl _ s) rfl)⟩

theorem mbLockTimeout_frame (n : Fin 4) (m : Fin 64) (s : State) :
    Answers { regs := true, dic := true, le := true, fb := true } s (exec (.mbLockTimeout n m) s) :=
  execMbLockTimeout_answers n m (Frame.refl _ s) rfl rfl rfl rfl

/-- The registers of a lock released by the hardware. -/
def State.mbLockOut (s : State) (n m : Nat) : State :=
  (s.putBit (FB_MBSTAT_LOCKED n m) false).putBit (FB_MBSTAT_LOCK_TO n m) true

/-- A lock released by the hardware, before its doorbell. -/
def State.mbLockEnded (s : State) (n m : Nat) : State :=
  (s.mbLockOut n m).setFbBuf n m { (s.mbLockOut n m).fbBuf n m with lockAt := none }

theorem mbLockEnded_regs : (s.mbLockEnded n m).regs =
    ((s.putBit (FB_MBSTAT_LOCKED n m) false).putBit (FB_MBSTAT_LOCK_TO n m) true).regs := by
  unfold State.mbLockEnded State.setFbBuf
  rw [onFb_regs, State.mbLockOut]

theorem execMbLockTimeout_ends {t0 : Nat} (hl : s.bit (FB_MBSTAT_LOCKED n m) = true)
    (h0 : (s.fbBuf n m).lockAt = some t0) (ht : t0 + msec 1 ≤ s.time) :
    execMbLockTimeout n m s = .next ((s.mbLockEnded n m).fbPost n 8) := if_pos ⟨hl, since_due h0 ht⟩

theorem execMbLockTimeout_rests
    (h : s.bit (FB_MBSTAT_LOCKED n m) = false ∨ s.since (s.fbBuf n m).lockAt (msec 1) = false) :
    execMbLockTimeout n m s = .next s := if_neg (by rcases h with h | h <;> simp [h])

end fieldBus

/-- Settles O38: each command by its equation for the case; the counters of an attempt are those of `txErrors_good` and
`txErrors_bad`. -/
theorem fieldBusFrames : Obligations.FieldBusFrames := by
  unfold Obligations.FieldBusFrames
  refine ⟨?rxRests, ?rxErrored, ?rxLow, ?rxHigh, ?starts, ?startRests, ?good, ?bad, ?noAttempt, ?notRecovering,
    ?recovers, ?recover, ?recoverRests, ?request, ?withdraws, ?ending, ?abortRests, ?leaves, ?stays, ?initOut, ?locks,
    ?releases, ?lockRests, ?lockEnds⟩
  case rxRests =>
    intro s n f e sof h
    exact answers_with (canFrameReceive_frame n f e sof s) (execCanFrameReceive_rests f e sof h) rfl
  case rxErrored =>
    intro s n f e sof hi hf he
    exact answers_with (canFrameReceive_frame n f e sof s) (execCanFrameReceive_errored hi hf f sof he)
      (congrArg (State.fcsUpdate · n) (rxErrors_errored he))
  case rxLow =>
    intro s n f e sof hi hf he h
    exact answers_with (canFrameReceive_frame n f e sof s) (execCanFrameReceive_good hi hf f sof he)
      ⟨s.rxCounted n e, congrArg (State.fcsUpdate · n) (rxErrors_low he h), rfl⟩
  case rxHigh =>
    intro s n f e sof hi hf he h
    exact answers_with (canFrameReceive_frame n f e sof s) (execCanFrameReceive_good hi hf f sof he)
      ⟨s.rxCounted n e, congrArg (State.fcsUpdate · n) (rxErrors_high he h), rfl⟩
  case starts =>
    intro s n x e h
    exact answers_with (canTxStart_frame n s) (execCanTxStart_starts h) rfl
  case startRests =>
    intro s n h
    exact answers_with (canTxStart_frame n s) (execCanTxStart_rests h) rfl
  case good =>
    intro s n x e h
    refine answers_with (canTxComplete_frame n true e s) (execCanTxComplete_ends true e h)
      ⟨_, s.txCounted n true e, rfl, txCounted_good e, ?_, ?_, ?_, ?_⟩
    · rintro m rfl
      exact srcDone_bufGood m e
    · rintro i rfl
      exact srcDone_mirror i true e
    · rintro rfl
      exact srcDone_fw true e
    · rintro q sof rfl
      exact srcDone_refGood q sof e
  case bad =>
    intro s n x e h
    refine answers_with (canTxComplete_frame n false e s) (execCanTxComplete_ends false e h)
      ⟨_, s.txCounted n false e, _, rfl, rfl, txCounted_bad e, ?_, ?_, ?_, ?_, ?_⟩
    · rintro m rfl hf
      exact srcDone_bufBusOff m e hf
    · rintro m rfl hf
      exact srcDone_bufError m e hf
    · rintro i rfl
      exact srcDone_mirror i false e
    · rintro rfl
      exact srcDone_fw false e
    · rintro q sof rfl
      exact srcDone_refBad q sof e
  case noAttempt =>
    intro s n ok e h
    exact answers_with (canTxComplete_frame n ok e s) (execCanTxComplete_rests ok e h) rfl
  case notRecovering =>
    intro s n h
    exact answers_with (canRecoveryDone_frame n s) (execCanRecoveryDone_rests h) rfl
  case recovers =>
    intro s n h
    exact answers_with (canRecoveryDone_frame n s) (execCanRecoveryDone_recovers h) ⟨s.recoverCleared n, rfl, rfl⟩
  case recover =>
    intro s n hs h
    exact answers_with (fbRecoverWrite_frame n s) (execFbRecoverWrite_recovers h)
      ⟨bit_putBit_at s _ 29 true hs.regs (by decide), regsBut_wr _ _ (RegsBut.refl _ s) rfl⟩
  case recoverRests =>
    intro s n h
    exact answers_with (fbRecoverWrite_frame n s) (execFbRecoverWrite_rests h) rfl
  case request =>
    intro s n m
    exact answers_with (fbReqWrite_frame n m s) rfl rfl
  case withdraws =>
    intro s n m hs h
    exact answers_with (fbAbortWrite_frame n m s) (execFbAbortWrite_pending h)
      ⟨mbWithdrawn_state hs.regs, mbWithdrawn_regsBut⟩
  case ending =>
    intro s n m h
    exact answers_with (fbAbortWrite_frame n m s) (execFbAbortWrite_sending h) rfl
  case abortRests =>
    intro s n m h1 h2
    exact answers_with (fbAbortWrite_frame n m s) (execFbAbortWrite_rests h1 h2) rfl
  case leaves =>
    intro s n hs hi h
    have hw := putBit_regsWf s (FB_STAT_SCHED_BAD n) false hs.regs
    exact answers_with (fbInitClear_frame n s) ((execFbInitClear_eq n s).trans (congrArg Host.Outcome.next (initClear_leaves hi h)))
      ⟨bit_putBit_at _ _ 31 false hw (by decide),
        (bit_putBit_ne _ _ _ _ (init_ne_stat n).symm).trans (bit_putBit_at s _ 27 false hs.regs (by decide)),
        regsBut_wr _ _ (regsBut_wr _ _ (RegsBut.refl _ s) (.inr rfl)) (.inl rfl)⟩
  case stays =>
    intro s n hs hi ht h
    have hlog := log_not_noteReg (s.putBit (FB_STAT_SCHED_BAD n) true) 10 .schedBad 1 [n]
    refine answers_with (fbInitClear_frame n s) ((execFbInitClear_eq n s).trans (congrArg Host.Outcome.next (initClear_stays hi ht h))) ⟨?_, ?_, ?_⟩
    · exact (hlog.bit _ (not_noteReg_of_range (by simp only [FB_CTRL_INIT]; omega)
        (by simp only [FB_CTRL_INIT]; omega))).trans ((bit_putBit_ne _ _ _ _ (init_ne_stat n)).trans hi)
    · exact (hlog.bit _ (not_noteReg_of_range (by simp only [FB_STAT_SCHED_BAD]; omega)
        (by simp only [FB_STAT_SCHED_BAD]; omega))).trans (bit_putBit_at s _ 27 true hs.regs (by decide))
    · exact regsBut_log (fun _ => .inr) _ _ _ _ (regsBut_wr _ _ (RegsBut.refl _ s) (.inl rfl))
  case initOut =>
    intro s n h
    exact answers_with (fbInitClear_frame n s) ((execFbInitClear_eq n s).trans (congrArg Host.Outcome.next (initClear_out h))) rfl
  case locks =>
    intro s n m hs
    obtain ⟨hbit, hregs⟩ := mbLock_locks (n := n) (m := m) hs.regs
    exact answers_with (mbLockRead_frame n m s) (execMbLockRead_eq n m s)
      ⟨⟨_, rfl⟩, (reply_bit _ _ _).trans hbit, regsBut_reply _ hregs⟩
  case releases =>
    intro s n m hs
    obtain ⟨hbit, hregs⟩ := mbUnlock_releases (n := n) (m := m) hs.regs
    exact answers_with (mbReleaseRead_frame n m s) (execMbReleaseRead_eq n m s)
      ⟨⟨_, rfl⟩, (reply_bit _ _ _).trans hbit, regsBut_reply _ hregs⟩
  case lockRests =>
    intro s n m h
    exact answers_with (mbLockTimeout_frame n m s) (execMbLockTimeout_rests h) rfl
  case lockEnds =>
    intro s n m t0 hl h0 ht
    exact answers_with (mbLockTimeout_frame n m s) (execMbLockTimeout_ends hl h0 ht) ⟨s.mbLockEnded n m, mbLockEnded_regs, rfl⟩

end Sys2Proof.Machine
end

section
/-! The schedule, the node supervision and the drives of a field bus channel (R283 to R285, R289, R292, R295, R296): one
equation for each case of a command. -/

namespace Sys2Proof.Machine

section schedule

variable {s : State} {n : Fin 4}

/-! ### Basic cycles (R283, R284) -/

theorem basicCycleStart_frame (n : Fin 4) (ref : Option Nat) (s : State) :
    Answers { regs := true, dic := true, mg := true, le := true, pf := true, fb := true, tw := true } s
      (exec (.basicCycleStart n ref) s) :=
  execBasicCycleStart_answers n ref (Frame.refl _ s) rfl rfl rfl rfl rfl rfl rfl

theorem execBasicCycleStart_rests (ref : Option Nat) (h : s.bit (FB_CTRL_TT_EN n) = false ∨
    s.bit (FB_CTRL_INIT n) = true ∨ (s.fbCh n).cycle = some (s.time / s.fbLen n)) :
    execBasicCycleStart n ref s = .next s :=
  if_pos (h.imp Bool.eq_false_iff.mp id)

/-- The cycle counter's registers at basic cycle q. -/
def State.cycleCounted (s : State) (n q : Nat) : State := (s.wr (FB_CYCLE_MATRIX n) (q / 64)).wr (FB_CYCLE_COUNT n) (q % 64)

/-- The window and the supervision interval under way ended. -/
def State.cycleEnded (s : State) (n : Nat) : State := (s.closeWindow n).endInterval n

/-- Basic cycle q begun at a count, with its command frames. -/
def State.cycleBegun (s : State) (n q start : Nat) : State :=
  (s.setFbCh n { s.fbCh n with cycle := some q, base := start, refOk := false, col := 0 }).commandFrames n

/-- The reference sent where the bus lets it start and the channel may send it, or missed. -/
def State.referred (s : State) (n q start : Nat) (ref : Option Nat) : State :=
  match ref.filter (s.mayRefer n start) with
  | some d => s.txBegin n (.ref q (start + d)) false
  | none => s.refMissed n q

theorem referred_none (q start : Nat) : s.referred n q start none = s.refMissed n q := rfl

theorem referred_late (q start : Nat) {d : Nat} (h : s.mayRefer n start d = false) :
    s.referred n q start (some d) = s.refMissed n q := by
  unfold State.referred
  rw [Option.filter_some, if_neg (Bool.eq_false_iff.mp h)]

theorem referred_starts (q start : Nat) {d : Nat} (h : s.mayRefer n start d = true) :
    s.referred n q start (some d) = s.txBegin n (.ref q (start + d)) false := by
  unfold State.referred
  rw [Option.filter_some, if_pos h]

/-- How a new basic cycle is answered out of bus monitoring. -/
def State.referAnswer (s : State) (n q start : Nat) (ref : Option Nat) : Host.Outcome State Fault Refusal :=
  match ref.filter (s.mayRefer n start) with
  | some d => .next (s.txBegin n (.ref q (start + d)) false)
  | none => .next (s.refMissed n q)

theorem referAnswer_eq (q start : Nat) (ref : Option Nat) :
    s.referAnswer n q start ref = .next (s.referred n q start ref) := by
  unfold State.referAnswer State.referred
  cases ref.filter (s.mayRefer n start) <;> rfl

/-- The state that a new basic cycle begins in, before its reference. -/
def State.cycleReady (s : State) (n q : Nat) : State :=
  ((s.cycleCounted n q).cycleEnded n).cycleBegun n q (q * s.fbLen n)

section newCycle

variable (ht : s.bit (FB_CTRL_TT_EN n) = true) (hi : s.bit (FB_CTRL_INIT n) = false)
  (hc : (s.fbCh n).cycle ≠ some (s.time / s.fbLen n))
include ht hi hc

theorem execBasicCycleStart_begins (ref : Option Nat) : execBasicCycleStart n ref s =
    if s.bit (FB_CTRL_MONITOR n) then .next (s.cycleCounted n (s.time / s.fbLen n))
    else (s.cycleReady n (s.time / s.fbLen n)).referAnswer n (s.time / s.fbLen n) (s.time / s.fbLen n * s.fbLen n) ref :=
  if_neg (by simp [ht, hi, hc])

theorem execBasicCycleStart_monitors (ref : Option Nat) (hm : s.bit (FB_CTRL_MONITOR n) = true) :
    execBasicCycleStart n ref s = .next (s.cycleCounted n (s.time / s.fbLen n)) :=
  (execBasicCycleStart_begins ht hi hc ref).trans (if_pos hm)

theorem execBasicCycleStart_refers (ref : Option Nat) (hm : s.bit (FB_CTRL_MONITOR n) = false) :
    execBasicCycleStart n ref s = .next ((s.cycleReady n (s.time / s.fbLen n)).referred n (s.time / s.fbLen n)
      (s.time / s.fbLen n * s.fbLen n) ref) :=
  (execBasicCycleStart_begins ht hi hc ref).trans ((if_neg (Bool.eq_false_iff.mp hm)).trans (referAnswer_eq _ _ ref))

end newCycle

theorem cycleCounted_monitor (q : Nat) :
    (s.cycleCounted n q).bit (FB_CTRL_MONITOR n) = s.bit (FB_CTRL_MONITOR n) :=
  (bit_wr_ne _ _ _ _ (by simp only [FB_CTRL_MONITOR, FB_CYCLE_COUNT]; omega)).trans
    (bit_wr_ne _ _ _ _ (by simp only [FB_CTRL_MONITOR, FB_CYCLE_MATRIX]; omega))

/-! ### Windows (R283, R285) -/

theorem windowMark_frame (n : Fin 4) (idle : Bool) (s : State) :
    Answers { regs := true, fb := true } s (exec (.windowMark n idle) s) :=
  execWindowMark_answers n idle (Frame.refl _ s) rfl rfl

theorem execWindowMark_rests (idle : Bool) (h : (s.fbCh n).cycle = none ∨ s.bit (FB_CTRL_TT_EN n) = false ∨
    s.bit (FB_CTRL_INIT n) = true ∨ s.fbCols n ≤ (s.fbCh n).col + 1 ∨
    s.time < (s.fbCh n).base + s.fbMark n ((s.fbCh n).col + 1)) : execWindowMark n idle s = .next s := by
  refine if_neg fun ⟨hc, ht, hi, hw, hm⟩ => ?_
  rcases h with h | h | h | h | h
  · simp [h] at hc
  · exact Bool.false_ne_true (h.symm.trans ht)
  · exact hi h
  · exact hw.not_ge h
  · exact hm.not_gt h

/-- The next column of the schedule, its window before it ended. -/
def State.nextColumn (s : State) (n : Nat) : State :=
  (s.closeWindow n).setFbCh n { (s.closeWindow n).fbCh n with col := (s.fbCh n).col + 1 }

section reached

variable {q : Nat} (hc : (s.fbCh n).cycle = some q) (ht : s.bit (FB_CTRL_TT_EN n) = true)
  (hi : s.bit (FB_CTRL_INIT n) = false) (hw : (s.fbCh n).col + 1 < s.fbCols n)
  (hm : (s.fbCh n).base + s.fbMark n ((s.fbCh n).col + 1) ≤ s.time)
include hc ht hi hw hm

theorem execWindowMark_moves : execWindowMark n false s = .next (s.nextColumn n) :=
  if_pos ⟨by rw [hc]; rfl, ht, Bool.eq_false_iff.mp hi, hw, hm⟩

theorem execWindowMark_idle : execWindowMark n true s = execCanTxStart n (s.nextColumn n) :=
  if_pos ⟨by rw [hc]; rfl, ht, Bool.eq_false_iff.mp hi, hw, hm⟩

end reached

/-! ### Node supervision (R292) -/

theorem nodeSupervisionInterval_frame (n : Fin 4) (s : State) :
    Answers { regs := true, dic := true, mg := true, le := true, pf := true, fb := true } s
      (exec (.nodeSupervisionInterval n) s) :=
  execNodeSupervisionInterval_answers n (Frame.refl _ s) rfl rfl rfl rfl rfl rfl

theorem execNodeSupervisionInterval_eq (n : Fin 4) (s : State) :
    execNodeSupervisionInterval n s = .next (s.endInterval n) := rfl

/-- The expected nodes not seen in the interval counted. -/
def State.unseenCounted (s : State) (n : Nat) : State :=
  ((upto 64).filter fun k => s.nodeExpected n k && !bitOf (s.fbCh n).seen k).foldl (fun s k => s.nodeMissed n k) s

theorem endInterval_due {q : Nat} (h : s.supInterval n = some q) (hs : (s.fbCh n).supAt ≠ some q) : s.endInterval n =
    (s.unseenCounted n).setFbCh n { (s.unseenCounted n).fbCh n with seen := 0, supAt := some q } := by
  unfold State.endInterval
  rw [h]
  exact if_neg hs

theorem endInterval_rests (h : s.supInterval n = none ∨ s.supInterval n = (s.fbCh n).supAt) : s.endInterval n = s := by
  unfold State.endInterval
  cases hq : s.supInterval n with
  | none => rfl
  | some q => exact if_pos (h.elim (fun h => nomatch hq.symm.trans h) fun h => h.symm.trans hq)

/-! ### Configuration requests (R290) -/

theorem configReqRetry_frame (n : Fin 4) (k : Fin 64) (s : State) :
    Answers { regs := true, mg := true, fb := true } s (exec (.configReqRetry n k) s) :=
  execConfigReqRetry_answers n k (Frame.refl _ s) rfl rfl rfl

/-- The request of a node that has waited for 20 basic cycles. -/
def State.lateReq (s : State) (n k : Nat) : Option CfgReq :=
  (s.fbCh n).reqs.find? fun r => r.node == k && decide (r.sent + 20 * s.fbLen n ≤ s.time)

/-- A request no longer waited for. -/
def State.dropReq (s : State) (n : Nat) (r : CfgReq) : State :=
  s.setFbCh n { s.fbCh n with reqs := (s.fbCh n).reqs.filter fun q => q != r }

/-- A node marked as unconfigured, and logged. -/
def State.unconfigure (s : State) (n k : Nat) (r : CfgReq) : State :=
  (s.setFbCh n { s.fbCh n with unconfigured := withBits (s.fbCh n).unconfigured k k 1 }).log 10 .nodeUnconfigured 1
    [n, k, r.index]

theorem execConfigReqRetry_late {k : Fin 64} {r : CfgReq} (h : s.lateReq n k = some r) : execConfigReqRetry n k s =
    if r.tries < 2 then .next ((s.dropReq n r).configReq n k r.index r.value (r.tries + 1))
    else .next ((s.dropReq n r).unconfigure n k r) := by
  unfold State.lateReq at h
  unfold execConfigReqRetry
  rw [h]
  rfl

theorem execConfigReqRetry_rests {k : Fin 64} (h : s.lateReq n k = none) : execConfigReqRetry n k s = .next s := by
  unfold State.lateReq at h
  unfold execConfigReqRetry
  rw [h]

/-! ### CANopen drives (R296) -/

theorem canopenDriveStartup_frame (p n : Fin 4) (k : Fin 64) (ms rt : Nat) (s : State) :
    Answers { regs := true, fb := true } s (exec (.canopenDriveStartup p n k ms rt) s) :=
  execCanopenDriveStartup_answers p n k ms rt (Frame.refl _ s) rfl rfl

/-- A drive as its start-up begins. -/
def startingDrive (n k ms rt : Nat) : Drive :=
  { ch := n, node := k, maxSpeed := ms, rated := rt, status := 0, velocity := 0, control := 0x06, sentControl := 0x06,
    sentTarget := 0, sentAt := none, emcy := false, steps := startupSteps k, sdo := none }

theorem execCanopenDriveStartup_starts {k : Fin 64} (p : Fin 4) (ms rt : Nat) (hp : s.rd (FB_CTRL_PROTO n) = 2)
    (ht : s.bit (FB_CTRL_TT_EN n) = false) (hk : 1 ≤ k.val) : execCanopenDriveStartup p n k ms rt s =
      .next ((s.wr (FB_NODEBASE n) 0x180).driveRun p (startingDrive n k ms rt)) :=
  if_pos ⟨hp, Bool.eq_false_iff.mp ht, hk⟩

theorem execCanopenDriveStartup_rests {k : Fin 64} (p : Fin 4) (ms rt : Nat)
    (h : s.rd (FB_CTRL_PROTO n) ≠ 2 ∨ s.bit (FB_CTRL_TT_EN n) = true ∨ k.val = 0) :
    execCanopenDriveStartup p n k ms rt s = .next s := by
  refine if_neg fun ⟨hp, ht, hk⟩ => ?_
  rcases h with h | h | h
  · exact h hp
  · exact ht h
  · omega

theorem rpdoTransmit_frame (p : Fin 4) (s : State) : Answers { fb := true } s (exec (.rpdoTransmit p) s) :=
  execRpdoTransmit_answers p (Frame.refl _ s) rfl

/-- An RPDO1 with a target velocity is due: the first, on a change after 2 ms, and after 20 ms. -/
def State.rpdoDue (s : State) (d : Drive) (v : Nat) : Bool :=
  match d.sentAt with
  | some t0 => ((d.sentTarget != v || d.sentControl != d.control) && decide (t0 + msec 2 ≤ s.time)) ||
      decide (t0 + msec 20 ≤ s.time)
  | none => true

theorem rpdoDue_eq_all (d : Drive) (v : Nat) : s.rpdoDue d v = d.sentAt.all fun t0 => decide (t0 + msec 20 ≤ s.time) ||
    ((d.sentTarget != v || d.sentControl != d.control) && decide (t0 + msec 2 ≤ s.time)) := by
  unfold State.rpdoDue
  cases d.sentAt with
  | none => rw [Option.all_none]
  | some t0 => rw [Option.all_some, Bool.or_comm (decide (t0 + msec 20 ≤ s.time))]

/-- RPDO1 sent to a drive, and remembered. -/
def State.rpdoSent (s : State) (p : Nat) (d : Drive) (v : Nat) : State :=
  (s.onFb fun y =>
    { y with drives := tinsert y.drives p { d with sentTarget := v, sentControl := d.control, sentAt := some s.time } }).fwSend
      d.ch (rpdo1 d.node d.control v)

theorem execRpdoTransmit_eq {p : Fin 4} {d : Drive} (h : tfind s.fb.drives p = some d) : execRpdoTransmit p s =
    if s.rd (PF_PCFG_IF p) = 2 ∧ d.steps.isEmpty ∧ d.sdo.isNone ∧ s.rpdoDue d (s.driveVelocity p d) then
      .next (s.rpdoSent p d (s.driveVelocity p d))
    else .next s := by
  unfold execRpdoTransmit
  rw [h]
  rfl

theorem execRpdoTransmit_none {p : Fin 4} (h : tfind s.fb.drives p = none) : execRpdoTransmit p s = .next s := by
  unfold execRpdoTransmit
  rw [h]

/-- A drive's RPDO1 is not due while the last one with the same content lies less than 20 ms back, another less than 2 ms. -/
theorem rpdoDue_early {d : Drive} {v : Nat} (h : d.sentAt.any (fun t0 => decide (s.time < t0 + msec 20) &&
    ((d.sentTarget == v && d.sentControl == d.control) || decide (s.time < t0 + msec 2))) = true) :
    s.rpdoDue d v = false := by
  obtain ⟨t0, h0, hd⟩ := (Option.any_eq_true _ _).mp h
  rw [rpdoDue_eq_all, h0, Option.all_some]
  simp only [Bool.and_eq_true, Bool.or_eq_true, decide_eq_true_eq, beq_iff_eq] at hd
  obtain ⟨h20, hs | h2⟩ := hd
  · simp [h20.not_ge, hs]
  · simp [h20.not_ge, h2.not_ge]

end schedule

/-- Settles O39: each command by its equation for the case. -/
theorem fieldBusSchedule : Obligations.FieldBusSchedule := by
  unfold Obligations.FieldBusSchedule
  refine ⟨?cycleRests, ?cycle, ?markRests, ?mark, ?markIdle, ?interval, ?intervalRests, ?again, ?unconfigured, ?noReq,
    ?starts, ?startRests, ?rpdo, ?rpdoRests, ?noDrive⟩
  case cycleRests =>
    intro s n ref h
    exact answers_with (basicCycleStart_frame n ref s) (execBasicCycleStart_rests ref h) rfl
  case cycle =>
    intro s n ref q ht hi hq hc
    subst hq
    have hu := cycleCounted_monitor (s := s) (n := n) (s.time / s.fbLen n)
    cases hm : s.bit (FB_CTRL_MONITOR n) with
    | true =>
      rw [hm] at hu
      exact answers_with (basicCycleStart_frame n ref s) (execBasicCycleStart_monitors ht hi hc ref hm)
        ⟨s.cycleCounted n (s.time / s.fbLen n), _, s.cycleReady n (s.time / s.fbLen n), rfl, rfl, rfl, fun _ => rfl,
          fun h => absurd hu (Bool.eq_false_iff.mp h), fun _ h => absurd hu (Bool.eq_false_iff.mp h),
          fun _ h => absurd hu (Bool.eq_false_iff.mp h)⟩
    | false =>
      rw [hm] at hu
      refine answers_with (basicCycleStart_frame n ref s) (execBasicCycleStart_refers ht hi hc ref hm)
        ⟨s.cycleCounted n (s.time / s.fbLen n), _, s.cycleReady n (s.time / s.fbLen n), rfl, rfl, rfl,
          fun h => absurd h (Bool.eq_false_iff.mp hu), fun _ hr => ?_, fun d _ hr h => ?_, fun d _ hr h => ?_⟩
      · rw [hr]
        exact referred_none _ _
      · rw [hr]
        exact referred_late _ _ h
      · rw [hr]
        exact referred_starts _ _ h
  case markRests =>
    intro s n i h
    exact answers_with (windowMark_frame n i s) (execWindowMark_rests i h) rfl
  case mark =>
    intro s n q hc ht hi hw hm
    exact answers_with (windowMark_frame n false s) (execWindowMark_moves hc ht hi hw hm) rfl
  case markIdle =>
    intro s n q hc ht hi hw hm
    have he := execWindowMark_idle hc ht hi hw hm
    cases hx : (s.nextColumn n).txChoice n with
    | none =>
      refine answers_with (windowMark_frame n true s) (he.trans (execCanTxStart_rests hx))
        ⟨s.nextColumn n, rfl, fun _ => rfl, fun y e h => nomatch hx.symm.trans h⟩
    | some x =>
      refine answers_with (windowMark_frame n true s) (he.trans (execCanTxStart_starts hx))
        ⟨s.nextColumn n, rfl, fun h => (nomatch hx.symm.trans h), fun y e h => ?_⟩
      cases hx.symm.trans h
      rfl
  case interval =>
    intro s n q h hs
    exact answers_with (nodeSupervisionInterval_frame n s)
      ((execNodeSupervisionInterval_eq n s).trans (congrArg Host.Outcome.next (endInterval_due h hs)))
      ⟨s.unseenCounted n, rfl, rfl⟩
  case intervalRests =>
    intro s n h
    exact answers_with (nodeSupervisionInterval_frame n s)
      ((execNodeSupervisionInterval_eq n s).trans (congrArg Host.Outcome.next (endInterval_rests h))) rfl
  case again =>
    intro s n k r h ht
    exact answers_with (configReqRetry_frame n k s) ((execConfigReqRetry_late h).trans (if_pos ht)) rfl
  case unconfigured =>
    intro s n k r h ht
    exact answers_with (configReqRetry_frame n k s) ((execConfigReqRetry_late h).trans (if_neg ht.not_gt))
      ⟨s.dropReq n r, rfl, rfl⟩
  case noReq =>
    intro s n k h
    exact answers_with (configReqRetry_frame n k s) (execConfigReqRetry_rests h) rfl
  case starts =>
    intro s p n k ms rt hp ht hk
    exact answers_with (canopenDriveStartup_frame p n k ms rt s) (execCanopenDriveStartup_starts p ms rt hp ht hk)
      ⟨startingDrive n k ms rt, rfl, rfl, rfl, rfl, rfl, rfl, rfl, rfl, rfl, rfl, rfl⟩
  case startRests =>
    intro s p n k ms rt h
    exact answers_with (canopenDriveStartup_frame p n k ms rt s) (execCanopenDriveStartup_rests p ms rt h) rfl
  case rpdo =>
    intro s p d v hd hif hsteps hsdo hv hdue
    subst hv
    exact answers_with (rpdoTransmit_frame p s)
      ((execRpdoTransmit_eq hd).trans (if_pos ⟨hif, by rw [hsteps]; rfl, by rw [hsdo]; rfl, (rpdoDue_eq_all d _).trans hdue⟩)) rfl
  case rpdoRests =>
    intro s p d v hd hv h
    subst hv
    refine answers_with (rpdoTransmit_frame p s) ((execRpdoTransmit_eq hd).trans (if_neg fun ⟨hif, hsteps, hsdo, hdue⟩ => ?_))
      rfl
    rcases h with h | h | h | h
    · exact h hif
    · exact h (List.isEmpty_iff.mp hsteps)
    · exact h (Option.isNone_iff_eq_none.mp hsdo)
    · exact Bool.false_ne_true ((rpdoDue_early h).symm.trans hdue)
  case noDrive =>
    intro s p h
    exact answers_with (rpdoTransmit_frame p s) (execRpdoTransmit_none h) rfl

end Sys2Proof.Machine
end
